-- ==== Sys2Proof/Word.lean ====
section
/-! DEFINITION. The word types every file uses, and their plainest arithmetic.
Registers, table entries and descriptor words are 32 bits (R42); memories are octets. -/

namespace Sys2Proof

/-- A 32-bit doubleword (DW), the unit of every register access (R42). -/
abbrev Word := BitVec 32

/-- One octet of HBM3, host memory, a frame or an image. -/
abbrev Byte := BitVec 8

/-- The word of value `n` modulo 2^32. -/
def word (n : Nat) : Word := BitVec.ofNat 32 n

/-- The octet of value `n` modulo 2^8. -/
def byte (n : Nat) : Byte := BitVec.ofNat 8 n

end Sys2Proof
end

