-- ==== Sys2Proof/Machine/Bits.lean ====
section
/-! DEFINITION. Bit fields, byte order and saturating counts: the helpers every meaning reads and writes
register fields, descriptors and frames with. -/

namespace Sys2Proof.Machine

/-- Bits `[lo+n-1:lo]` of a word, as a number. -/
def fld (w : Word) (lo n : Nat) : Nat := (w.toNat >>> lo) % 2 ^ n

/-- Bit `i` of a word. -/
def bit (w : Word) (i : Nat) : Bool := w.getLsbD i

/-- The word whose bits `[lo+n-1:lo]` are ones and whose other bits are zeros. -/
def maskBits (lo n : Nat) : Word := BitVec.ofNat 32 ((2 ^ n - 1) <<< lo)

/-- `w` with bits `[lo+n-1:lo]` replaced by the low `n` bits of `v`. -/
def setFld (w : Word) (lo n v : Nat) : Word :=
  (w &&& ~~~ maskBits lo n) ||| BitVec.ofNat 32 ((v % 2 ^ n) <<< lo)

/-- `w` with bit `i` set to `b`. -/
def setBit (w : Word) (i : Nat) (b : Bool) : Word := setFld w i 1 b.toNat

/-- `w` where the bits of `m` take the value they have in `v`. -/
def merge (m v w : Word) : Word := (w &&& ~~~ m) ||| (v &&& m)

/-- A count that saturates at `top`. -/
def satAdd (top a b : Nat) : Nat := min top (a + b)

/-- A 32-bit counter register plus `n`, saturating at 0xFFFF_FFFF. -/
def satWord (w : Word) (n : Nat) : Word := BitVec.ofNat 32 (satAdd 0xFFFFFFFF w.toNat n)

/-- The signed value of the low `n` bits of `v` (two's complement). -/
def signed (n v : Nat) : Int :=
  let u := v % 2 ^ n
  if u < 2 ^ (n - 1) then (u : Int) else (u : Int) - (2 ^ n : Nat)

/-- The low `n` bits of the two's complement form of an integer. -/
def wrap (n : Nat) (x : Int) : Nat := (x % (2 ^ n : Nat)).toNat

/-- The integer `x` limited to `[lo, hi]`. -/
def clampInt (lo hi x : Int) : Int := max lo (min hi x)

/-- The `n` octets of `v`, most significant first (network order). -/
def beBytes : Nat → Nat → List Byte
  | 0, _ => []
  | n + 1, v => BitVec.ofNat 8 (v >>> (8 * n)) :: beBytes n v

/-- The `n` octets of `v`, least significant first. -/
def leBytes : Nat → Nat → List Byte
  | 0, _ => []
  | n + 1, v => BitVec.ofNat 8 v :: leBytes n (v >>> 8)

/-- The number whose octets, most significant first, are `bs`. -/
def beVal (bs : List Byte) : Nat := bs.foldl (fun a b => a * 256 + b.toNat) 0

/-- The number whose octets, least significant first, are `bs`. -/
def leVal : List Byte → Nat
  | [] => 0
  | b :: bs => b.toNat + 256 * leVal bs

/-- Octet `i` of a list, 0 beyond its end. -/
def octet (bs : List Byte) (i : Nat) : Nat := (bs.getD i 0).toNat

/-- `n` octets from offset `i`. -/
def slice (bs : List Byte) (i n : Nat) : List Byte := (bs.drop i).take n

/-- Big-endian number of `n` octets at offset `i` (absent octets read as 0). -/
def be (bs : List Byte) (i n : Nat) : Nat :=
  (List.range n).foldl (fun a j => a * 256 + octet bs (i + j)) 0

/-- Little-endian number of `n` octets at offset `i` (absent octets read as 0). -/
def le (bs : List Byte) (i n : Nat) : Nat :=
  (List.range n).foldl (fun a j => a + octet bs (i + j) * 256 ^ j) 0

/-- `bs` with the octets from offset `i` replaced by `vs` (the length of `bs` does not change). -/
def patch (bs : List Byte) (i : Nat) (vs : List Byte) : List Byte :=
  bs.take i ++ (vs.take (bs.length - i)) ++ bs.drop (i + vs.length)

/-- `bs` padded with zero octets to `n`, or cut to `n`. -/
def fit (n : Nat) (bs : List Byte) : List Byte := bs.take n ++ List.replicate (n - bs.length) 0

/-- The least number not below `a` that is a multiple of `m`. -/
def roundUp (m a : Nat) : Nat := if m = 0 then a else ((a + m - 1) / m) * m

/-- The word of four octets, lowest address first (PCIe is little-endian). -/
def wordLE (bs : List Byte) : Word := BitVec.ofNat 32 (leVal (bs.take 4))

/-- The four octets of a word, lowest address first. -/
def bytesOf (w : Word) : List Byte := leBytes 4 w.toNat

/-- The words of a list of octets, four at a time, lowest first. -/
def wordsLE (n : Nat) (bs : List Byte) : List Word :=
  (List.range n).map (fun i => BitVec.ofNat 32 (le bs (4 * i) 4))

end Sys2Proof.Machine
end

