-- ==== Sys2Proof/Machine/Crypto.lean ====
section
/-! DEFINITION. The standards the spec names, as functions of octets: SHA-256, HMAC, the counter-mode KDF (R400), HMAC_DRBG
(R396), AES-GMAC, ECDSA on P-256 with RFC 6979 nonces (R396), and the checksums of frames and images (R63, R133, R140, R167).
PRESUMED: written from the standards, which the spec names and does not restate. -/

namespace Sys2Proof.Machine

/-- The initial hash value of SHA-256 (FIPS 180-4). -/
def shaInit : List Word :=
  [0x6A09E667, 0xBB67AE85, 0x3C6EF372, 0xA54FF53A, 0x510E527F, 0x9B05688C, 0x1F83D9AB, 0x5BE0CD19]

/-- The 64 round constants of SHA-256 (FIPS 180-4). -/
def shaK : List Word :=
  [0x428A2F98, 0x71374491, 0xB5C0FBCF, 0xE9B5DBA5, 0x3956C25B, 0x59F111F1, 0x923F82A4, 0xAB1C5ED5] ++
  [0xD807AA98, 0x12835B01, 0x243185BE, 0x550C7DC3, 0x72BE5D74, 0x80DEB1FE, 0x9BDC06A7, 0xC19BF174] ++
  [0xE49B69C1, 0xEFBE4786, 0x0FC19DC6, 0x240CA1CC, 0x2DE92C6F, 0x4A7484AA, 0x5CB0A9DC, 0x76F988DA] ++
  [0x983E5152, 0xA831C66D, 0xB00327C8, 0xBF597FC7, 0xC6E00BF3, 0xD5A79147, 0x06CA6351, 0x14292967] ++
  [0x27B70A85, 0x2E1B2138, 0x4D2C6DFC, 0x53380D13, 0x650A7354, 0x766A0ABB, 0x81C2C92E, 0x92722C85] ++
  [0xA2BFE8A1, 0xA81A664B, 0xC24B8B70, 0xC76C51A3, 0xD192E819, 0xD6990624, 0xF40E3585, 0x106AA070] ++
  [0x19A4C116, 0x1E376C08, 0x2748774C, 0x34B0BCB5, 0x391C0CB3, 0x4ED8AA4A, 0x5B9CCA4F, 0x682E6FF3] ++
  [0x748F82EE, 0x78A5636F, 0x84C87814, 0x8CC70208, 0x90BEFFFA, 0xA4506CEB, 0xBEF9A3F7, 0xC67178F2]

/-- The substitution box of AES (FIPS 197). -/
def aesBox : List Byte :=
  [0x63, 0x7C, 0x77, 0x7B, 0xF2, 0x6B, 0x6F, 0xC5, 0x30, 0x01, 0x67, 0x2B, 0xFE, 0xD7, 0xAB, 0x76] ++
  [0xCA, 0x82, 0xC9, 0x7D, 0xFA, 0x59, 0x47, 0xF0, 0xAD, 0xD4, 0xA2, 0xAF, 0x9C, 0xA4, 0x72, 0xC0] ++
  [0xB7, 0xFD, 0x93, 0x26, 0x36, 0x3F, 0xF7, 0xCC, 0x34, 0xA5, 0xE5, 0xF1, 0x71, 0xD8, 0x31, 0x15] ++
  [0x04, 0xC7, 0x23, 0xC3, 0x18, 0x96, 0x05, 0x9A, 0x07, 0x12, 0x80, 0xE2, 0xEB, 0x27, 0xB2, 0x75] ++
  [0x09, 0x83, 0x2C, 0x1A, 0x1B, 0x6E, 0x5A, 0xA0, 0x52, 0x3B, 0xD6, 0xB3, 0x29, 0xE3, 0x2F, 0x84] ++
  [0x53, 0xD1, 0x00, 0xED, 0x20, 0xFC, 0xB1, 0x5B, 0x6A, 0xCB, 0xBE, 0x39, 0x4A, 0x4C, 0x58, 0xCF] ++
  [0xD0, 0xEF, 0xAA, 0xFB, 0x43, 0x4D, 0x33, 0x85, 0x45, 0xF9, 0x02, 0x7F, 0x50, 0x3C, 0x9F, 0xA8] ++
  [0x51, 0xA3, 0x40, 0x8F, 0x92, 0x9D, 0x38, 0xF5, 0xBC, 0xB6, 0xDA, 0x21, 0x10, 0xFF, 0xF3, 0xD2] ++
  [0xCD, 0x0C, 0x13, 0xEC, 0x5F, 0x97, 0x44, 0x17, 0xC4, 0xA7, 0x7E, 0x3D, 0x64, 0x5D, 0x19, 0x73] ++
  [0x60, 0x81, 0x4F, 0xDC, 0x22, 0x2A, 0x90, 0x88, 0x46, 0xEE, 0xB8, 0x14, 0xDE, 0x5E, 0x0B, 0xDB] ++
  [0xE0, 0x32, 0x3A, 0x0A, 0x49, 0x06, 0x24, 0x5C, 0xC2, 0xD3, 0xAC, 0x62, 0x91, 0x95, 0xE4, 0x79] ++
  [0xE7, 0xC8, 0x37, 0x6D, 0x8D, 0xD5, 0x4E, 0xA9, 0x6C, 0x56, 0xF4, 0xEA, 0x65, 0x7A, 0xAE, 0x08] ++
  [0xBA, 0x78, 0x25, 0x2E, 0x1C, 0xA6, 0xB4, 0xC6, 0xE8, 0xDD, 0x74, 0x1F, 0x4B, 0xBD, 0x8B, 0x8A] ++
  [0x70, 0x3E, 0xB5, 0x66, 0x48, 0x03, 0xF6, 0x0E, 0x61, 0x35, 0x57, 0xB9, 0x86, 0xC1, 0x1D, 0x9E] ++
  [0xE1, 0xF8, 0x98, 0x11, 0x69, 0xD9, 0x8E, 0x94, 0x9B, 0x1E, 0x87, 0xE9, 0xCE, 0x55, 0x28, 0xDF] ++
  [0x8C, 0xA1, 0x89, 0x0D, 0xBF, 0xE6, 0x42, 0x68, 0x41, 0x99, 0x2D, 0x0F, 0xB0, 0x54, 0xBB, 0x16]

/-! ### SHA-256 and HMAC -/

def rotr (w : Word) (n : Nat) : Word := (w >>> n) ||| (w <<< (32 - n))

/-- The message schedule: from the last 16 words, newest first, one more word at each step. -/
def shaExpand : Nat → List Word → List Word
  | 0, ws => ws
  | n + 1, ws =>
    let w15 := ws.getD 14 0
    let w2 := ws.getD 1 0
    let s0 := rotr w15 7 ^^^ rotr w15 18 ^^^ (w15 >>> 3)
    let s1 := rotr w2 17 ^^^ rotr w2 19 ^^^ (w2 >>> 10)
    shaExpand n ((ws.getD 15 0 + s0 + ws.getD 6 0 + s1) :: ws)

/-- The rounds of the compression function on the eight working variables. -/
def shaRounds : List (Word × Word) → List Word → List Word
  | (k, w) :: kws, [a, b, c, d, e, f, g, h] =>
    let s1 := rotr e 6 ^^^ rotr e 11 ^^^ rotr e 25
    let ch := (e &&& f) ^^^ (~~~e &&& g)
    let t1 := h + s1 + ch + k + w
    let s0 := rotr a 2 ^^^ rotr a 13 ^^^ rotr a 22
    let mj := (a &&& b) ^^^ (a &&& c) ^^^ (b &&& c)
    shaRounds kws [t1 + (s0 + mj), a, b, c, d + t1, e, f, g]
  | _, v => v

/-- The words of a 64-octet block, most significant octet first. -/
def shaWords (blk : List Byte) : List Word := (List.range 16).map (fun i => BitVec.ofNat 32 (be blk (4 * i) 4))

def shaBlock (h : List Word) (blk : List Byte) : List Word :=
  let ws := (shaExpand 48 (shaWords blk).reverse).reverse
  List.zipWith (· + ·) h (shaRounds (shaK.zip ws) h)

def shaBlocks : Nat → List Byte → List Word → List Word
  | 0, _, h => h
  | n + 1, bs, h => shaBlocks n (bs.drop 64) (shaBlock h (bs.take 64))

/-- SHA-256 of a string of octets. -/
def sha256 (m : List Byte) : List Byte :=
  let n := m.length
  let pad := (119 - n % 64) % 64
  let p := m ++ [0x80] ++ List.replicate pad 0 ++ beBytes 8 (8 * n)
  (shaBlocks (p.length / 64) p shaInit).flatMap (fun w => beBytes 4 w.toNat)

/-- HMAC-SHA-256. -/
def hmac (key m : List Byte) : List Byte :=
  let k := fit 64 (if 64 < key.length then sha256 key else key)
  sha256 (k.map (· ^^^ 0x5C) ++ sha256 (k.map (· ^^^ 0x36) ++ m))

/-! ### The key derivation function of R400 (NIST SP 800-108, counter mode) -/

/-- The first `bits` bits of K(1) ‖ K(2) ‖ ... for a label and a context. -/
def kdf (key label ctx : List Byte) (bits : Nat) : List Byte :=
  let n := (bits + 255) / 256
  (((List.range n).flatMap (fun i => hmac key (beBytes 4 (i + 1) ++ label ++ [0] ++ ctx ++ beBytes 4 bits)))).take (bits / 8)

/-! ### HMAC_DRBG with SHA-256 (NIST SP 800-90A) -/

def drbgUpdate (kv : List Byte × List Byte) (data : List Byte) : List Byte × List Byte :=
  let k := hmac kv.1 (kv.2 ++ [0] ++ data)
  let v := hmac k kv.2
  if data.isEmpty then (k, v)
  else
    let k2 := hmac k (v ++ [1] ++ data)
    (k2, hmac k2 v)

/-- `n` blocks of 32 octets, and the value after them. -/
def drbgBlocks : Nat → List Byte → List Byte → List Byte × List Byte
  | 0, _, v => ([], v)
  | n + 1, k, v =>
    let v := hmac k v
    let p := drbgBlocks n k v
    (v ++ p.1, p.2)

/-- `n` octets of output, and the key and value after the request. -/
def drbgGenerate (k v : List Byte) (n : Nat) : List Byte × (List Byte × List Byte) :=
  let p := drbgBlocks ((n + 31) / 32) k v
  (p.1.take n, drbgUpdate (k, p.2) [])

/-- Key and value from a seed. -/
def drbgSeed (seed : List Byte) : List Byte × List Byte :=
  drbgUpdate (List.replicate 32 0, List.replicate 32 1) seed

/-! ### P-256 (FIPS 186) -/

def p256P : Nat := 2 ^ 256 - 2 ^ 224 + 2 ^ 192 + 2 ^ 96 - 1
def p256N : Nat := 0xFFFFFFFF00000000FFFFFFFFFFFFFFFFBCE6FAADA7179E84F3B9CAC2FC632551
def p256B : Nat := 0x5AC635D8AA3A93E7B3EBBD55769886BC651D06B0CC53B0F63BCE3C3E27D2604B
def p256G : Nat × Nat :=
  (0x6B17D1F2E12C4247F8BCE6E563A440F277037D812DEB33A0F4A13945D898C296,
   0x4FE342E2FE1A7F9B8EE7EB4A7C0F9E162BCE33576B315ECECBB6406837BF51F5)

/-- `b ^ e` modulo `m`, by the bits of `e` from the top; `k` bits. -/
def powMod (m b e : Nat) : Nat → Nat
  | 0 => 1 % m
  | k + 1 =>
    let r := powMod m b (e / 2) k
    if e % 2 = 1 then r * r % m * b % m else r * r % m

/-- The inverse modulo a prime. -/
def invMod (m a : Nat) : Nat := powMod m (a % m) (m - 2) 256

/-- A point of the curve; none is the point at infinity. -/
abbrev P256 := Option (Nat × Nat)

def p256Add : P256 → P256 → P256
  | none, q => q
  | p, none => p
  | some (x1, y1), some (x2, y2) =>
    let m := p256P
    if x1 = x2 && (y1 + y2) % m = 0 then none
    else
      let l := if x1 = x2 then (3 * x1 * x1 + (m - 3)) * invMod m (2 * y1) % m
        else (y2 + m - y1) * invMod m (x2 + m - x1) % m
      let x := (l * l + 2 * m - x1 - x2) % m
      some (x, (l * (x1 + m - x) + m - y1) % m)

/-- Scalar multiplication by the `k` low bits of `e`. -/
def p256Mul (p : P256) : Nat → Nat → P256
  | 0, _ => none
  | k + 1, e =>
    let q := p256Mul p k (e / 2)
    let d := p256Add q q
    if e % 2 = 1 then p256Add d p else d

/-- Whether a pair of coordinates is a point of the curve. -/
def p256On (x y : Nat) : Bool :=
  decide (x < p256P) && decide (y < p256P) &&
    decide (y * y % p256P = (x * x % p256P * x + (p256P - 3) * x + p256B) % p256P)

/-- The 64 octets x ‖ y of the public point of a scalar. -/
def p256Public (d : Nat) : List Byte :=
  match p256Mul (some p256G) 256 d with
  | some (x, y) => beBytes 32 x ++ beBytes 32 y
  | none => List.replicate 64 0

/-- The nonces of RFC 6979 for key `d` and digest `h`, tried in order. -/
def rfc6979 (h : List Byte) : Nat → List Byte → List Byte → Nat
  | 0, _, _ => 1
  | f + 1, k, v =>
    let v := hmac k v
    let c := beVal v
    if 1 ≤ c ∧ c < p256N then c
    else
      let k := hmac k (v ++ [0])
      rfc6979 h f k (hmac k v)

/-- r ‖ s from the digest's number `z`, the scalar `d`, the nonce `k` and the point k·G. -/
def ecdsaOut (d z k : Nat) : Option (Nat × Nat) → List Byte
  | some (px, _) => beBytes 32 (px % p256N) ++ beBytes 32 (invMod p256N k * (z + px % p256N * d) % p256N)
  | none => List.replicate 64 0

/-- r ‖ s of the ECDSA signature of a digest with scalar `d`. -/
def ecdsaSign (d : Nat) (digest : List Byte) : List Byte :=
  let z := beVal digest
  let x := beBytes 32 d ++ beBytes 32 (z % p256N)
  let k0 := hmac (List.replicate 32 0) (List.replicate 32 1 ++ [0] ++ x)
  let v0 := hmac k0 (List.replicate 32 1)
  let k1 := hmac k0 (v0 ++ [1] ++ x)
  let k := rfc6979 digest 64 k1 (hmac k1 v0)
  ecdsaOut d z k (p256Mul (some p256G) 256 k)

/-- Whether r ‖ s is a signature of a digest under the public point x ‖ y. -/
def ecdsaVerify (pub digest sig : List Byte) : Bool :=
  let r := be sig 0 32
  let s := be sig 32 32
  let x := be pub 0 32
  let y := be pub 32 32
  if r = 0 || s = 0 || p256N ≤ r || p256N ≤ s || !p256On x y then false
  else
    let w := invMod p256N s
    let u1 := beVal digest * w % p256N
    let u2 := r * w % p256N
    match p256Add (p256Mul (some p256G) 256 u1) (p256Mul (some (x, y)) 256 u2) with
    | some (px, _) => decide (px % p256N = r)
    | none => false

/-! ### AES-128 and GMAC (FIPS 197, NIST SP 800-38D) -/

def aesSub (b : Byte) : Byte := aesBox.getD b.toNat 0
def xtime (b : Byte) : Byte := if b.getLsbD 7 then (b <<< 1) ^^^ 0x1B else b <<< 1

/-- The next round key. -/
def aesNextKey (k : List Byte) (rcon : Byte) : List Byte :=
  let g (i : Nat) := k.getD i 0
  let t := [aesSub (g 13) ^^^ rcon, aesSub (g 14), aesSub (g 15), aesSub (g 12)]
  let w0 := List.zipWith (· ^^^ ·) (k.take 4) t
  let w1 := List.zipWith (· ^^^ ·) (slice k 4 4) w0
  let w2 := List.zipWith (· ^^^ ·) (slice k 8 4) w1
  let w3 := List.zipWith (· ^^^ ·) (slice k 12 4) w2
  w0 ++ w1 ++ w2 ++ w3

def aesShift (s : List Byte) : List Byte := (List.range 16).map (fun i => s.getD ((5 * i) % 16) 0)

def aesMixCol (c : List Byte) : List Byte :=
  (List.range 4).map (fun i =>
    let a := c.getD i 0
    let b := c.getD ((i + 1) % 4) 0
    xtime a ^^^ (xtime b ^^^ b) ^^^ c.getD ((i + 2) % 4) 0 ^^^ c.getD ((i + 3) % 4) 0)

def aesMix (s : List Byte) : List Byte := (List.range 4).flatMap (fun c => aesMixCol (slice s (4 * c) 4))

def aesRounds : Nat → List Byte → Byte → List Byte → List Byte
  | 0, k, rc, s => List.zipWith (· ^^^ ·) (aesShift (s.map aesSub)) (aesNextKey k rc)
  | n + 1, k, rc, s =>
    let k := aesNextKey k rc
    aesRounds n k (xtime rc) (List.zipWith (· ^^^ ·) (aesMix (aesShift (s.map aesSub))) k)

/-- AES-128 of one block. -/
def aes128 (key blk : List Byte) : List Byte :=
  aesRounds 9 key 1 (List.zipWith (· ^^^ ·) blk key)

/-- Multiplication in GF(2^128) as GCM orders its bits. -/
def gfMul (x : Nat) : Nat → Nat → Nat → Nat
  | 0, _, z => z
  | k + 1, v, z =>
    let z := if x.testBit k then z ^^^ v else z
    let v := if v % 2 = 1 then (v / 2) ^^^ (0xE1 * 2 ^ 120) else v / 2
    gfMul x k v z

def ghash (h : Nat) : Nat → List Byte → Nat → Nat
  | 0, _, y => y
  | n + 1, bs, y => ghash h n (bs.drop 16) (gfMul (y ^^^ beVal (fit 16 (bs.take 16))) 128 h 0)

/-- AES-GMAC-128 of `m` with a 12-octet initialisation vector. -/
def gmac (key iv m : List Byte) : List Byte :=
  let h := beVal (aes128 key (List.replicate 16 0))
  let n := (m.length + 15) / 16
  let y := gfMul (ghash h n m 0 ^^^ (8 * m.length * 2 ^ 64)) 128 h 0
  List.zipWith (· ^^^ ·) (beBytes 16 y) (aes128 key (iv ++ [0, 0, 0, 1]))

/-! ### Cyclic checks -/

/-- A reflected 32-bit CRC, initial and final value ones. -/
def crcReflStep (poly : Nat) : Nat → Nat → Nat
  | 0, c => c
  | k + 1, c => crcReflStep poly k (if c % 2 = 1 then (c / 2) ^^^ poly else c / 2)

def crcRefl (poly : Nat) (bs : List Byte) : Nat :=
  (bs.foldl (fun c b => crcReflStep poly 8 (c ^^^ b.toNat)) 0xFFFFFFFF) ^^^ 0xFFFFFFFF

/-- The Ethernet frame check sequence (IEEE 802.3). -/
def crc32 (bs : List Byte) : Nat := crcRefl 0xEDB88320 bs

/-- CRC-32C: polynomial 0x1EDC_6F41 reflected (R63). -/
def crc32c (bs : List Byte) : Nat := crcRefl 0x82F63B78 bs

def crcCcittStep : Nat → Nat → Nat
  | 0, c => c
  | k + 1, c => crcCcittStep k (if 0x8000 ≤ c then (c * 2 % 65536) ^^^ 0x1021 else c * 2)

/-- CRC-CCITT of C37.118.2: polynomial 0x1021, initial value 0xFFFF (R167). -/
def crcCcitt (bs : List Byte) : Nat :=
  bs.foldl (fun c b => crcCcittStep 8 (c ^^^ (b.toNat * 256))) 0xFFFF

/-- The sum of the 16-bit words of a string, an odd last octet padded with zero. -/
def sum16 : List Byte → Nat
  | a :: b :: bs => a.toNat * 256 + b.toNat + sum16 bs
  | [a] => a.toNat * 256
  | [] => 0

/-- The Internet checksum of a sum. -/
def inetChecksum (s : Nat) : Nat :=
  let t := s % 65536 + s / 65536
  let t := t % 65536 + t / 65536
  65535 - (t % 65536 + t / 65536)

end Sys2Proof.Machine
end

