-- ==== Sys2Proof/Machine/Plan.lean ====
section
/-! DEFINITION. What a verified syllabus says, in structured form: the lesson instances, engine wiring and boot register list of
the device section, and the lesson plan of a classroom section (R59, R64, R219-R222, R231, R359). -/

namespace Sys2Proof

/-- A lesson instance as the device section creates it (R231, R265): LSNi_INFO, LSNi_DECS, LSNi_BOUND and the compiled
capacity of each COUNT of its table (R237). -/
structure Instance where
  num : Nat := 0
  info : Word := 0
  decs : Word := 0
  bound : Word := 0
  cap1 : Nat := 0
  cap2 : Nat := 0
  cap3 : Nat := 0
deriving DecidableEq, Repr, Inhabited

/-- LSNi_INFO of an instance: KIND 1-4 or none, reserved bits 0 (R265). -/
def Instance.infoReg (x : Instance) : Word :=
  (x.info &&& 0x1FFFFF00) ||| (if (x.info &&& 7).toNat ≤ 4 then x.info &&& 7 else 0)

/-- LSNi_DECS: 2 decision bits, or 1-64 for a THR instance (R265). -/
def Instance.decsReg (x : Instance) : Word :=
  let n := if x.infoReg &&& 7 = 4 then max 1 (min 64 ((x.decs >>> 8) &&& 0x7F).toNat) else 2
  (x.decs &&& 0xFF) ||| word (256 * n)

/-- LSNi_BOUND, in 24 bits; at most 20,000 ns for a THR instance (R263, R265). -/
def Instance.boundReg (x : Instance) : Word :=
  if x.infoReg &&& 7 = 4 then word (min 20000 (x.bound &&& 0xFFFFFF).toNat) else x.bound &&& 0xFFFFFF

/-- A system task the syllabus creates (R346, R351): priority 0 or 1, mode, flow, wait mask, argument. -/
structure SysTask where
  prio : Nat := 0
  all : Bool := false
  flowEn : Bool := false
  flow : Nat := 0
  mask : BitVec 32 := 0
  arg : BitVec 32 := 0
deriving DecidableEq, Repr, Inhabited

/-- What the device section fixes beside its boot register list: instances and system tasks (R346). -/
structure DevicePlan where
  instances : List Instance := []
  sysTasks : List SysTask := []
deriving DecidableEq, Repr, Inhabited

/-- The reduction a lesson plan selects for one of the 16 word positions (R221). -/
inductive Fold where
  | none
  | fsum
  | fmin
  | fmax
  | isum
  | or
  | and
deriving DecidableEq, Repr, Inhabited

/-- Where a reduced set holds what a publication forwards (R222): the words of the decision bits, bit 0 first, and the words of the
payload, each as word position and number within it. -/
structure SetOut where
  dec : List (Nat × Nat) := []
  payload : List (Nat × Nat) := []
deriving DecidableEq, Repr, Inhabited

/-- A lesson of a classroom by its report-card tag: contributor mask over logical desks, reductions (R221), and where the set holds
decisions and payload, if the plan leaves them to the desks (R222). -/
structure LessonPlan where
  tag : Nat := 0
  contrib : Nat := 0
  folds : List Fold := []
  out : Option SetOut := none
deriving DecidableEq, Repr, Inhabited

/-- The operations of a desk (R209). -/
inductive DeskOp where
  | fma | fadd | fsub | fmul | fmin | fmax
  | fcmpEq | fcmpLt | fcmpLe | fcmpUnord
  | fabs | fneg | fdiv | fsqrt
  | f2i | i2f
  | iadd | isub | imul | and | or | xor | shl | shr | sar
  | icmpEq | icmpLt | icmpLtu | imin | imax
  | sel | mov | send | recv
deriving DecidableEq, Repr, Inhabited

/-- Where an operation reads an operand: a slate word, one of the four input channels, or an immediate (R209, R214, R216). -/
inductive OpSrc where
  | slate (w : Fin 1024)
  | chan (i : Fin 4)
  | imm (v : BitVec 32)
deriving DecidableEq, Repr, Inhabited

/-- Where an operation leaves its result: a slate word or one of the two output channels (R214, R216). -/
inductive OpDst where
  | slate (w : Fin 1024)
  | port (o : Fin 2)
deriving DecidableEq, Repr, Inhabited

/-- A slot of an operation store: the lesson it serves, the operation, its operands, its destination, and how often it fires in a
roll. -/
structure OpSlot where
  tag : Nat := 0
  op : DeskOp := .mov
  srcs : List OpSrc := []
  dst : OpDst := .slate 0
  times : Nat := 1
deriving DecidableEq, Repr, Inhabited

/-- An end of a crossbar connection (R216): one of the four input or two output channels of a logical desk; a word of the chalkboard,
read or written; a report-card lane with its word position; a neighbour port, towards the next classroom or the one before, with the
number of the channel on it; a word the memory port fetches, of the roll's image in the frame store or of the lesson's committed
table. -/
inductive Port where
  | deskIn (d : Nat) (i : Fin 4)
  | deskOut (d : Nat) (o : Fin 2)
  | boardGet (w : Nat)
  | boardPut (w : Nat)
  | lane (d pos : Nat)
  | neighbour (up : Bool) (k : Nat)
  | frame (off : Nat)
  | table (off : Nat)
deriving DecidableEq, Repr, Inhabited

/-- A connection that a lesson plan fixes: the lesson it serves and its two ends; at an end outside the desks, how many words it passes
in a roll and by how much its position moves from word to word; and the chalkboard accesses that precede its own by a dataflow
dependency (R217): access `k` waits until connection `m` has made `k + 1 - lag` of its own, for each pair (m, lag). -/
structure Wire where
  tag : Nat := 0
  src : Port := .deskOut 0 0
  dst : Port := .deskIn 0 0
  times : Nat := 1
  step : Nat := 0
  after : List (Nat × Nat) := []
deriving DecidableEq, Repr, Inhabited

/-- The lesson plan of a classroom: logical desks used, lessons, operation count and path length (R359), the stores and the
connections. -/
structure ClassPlan where
  desks : Nat := 0
  lessons : List LessonPlan := []
  ops : Nat := 0
  path : Nat := 0
  preserve : Bool := false
  stateTag : Nat := 0
  planTag : Nat := 0
  /-- operation store of each logical desk, 512 slots at most (R209), and the connections of the crossbar (R216) -/
  stores : List (Nat × List OpSlot) := []
  wires : List Wire := []
  /-- initial state: (logical desk, slate word, value), and (chalkboard word, value) -/
  slates : List (Nat × Nat × BitVec 32) := []
  board : List (Nat × BitVec 32) := []
deriving DecidableEq, Repr, Inhabited

/-- The operation store that the plan gives logical desk `d`: 512 slots at most (R209). -/
def ClassPlan.store (p : ClassPlan) (d : Nat) : List OpSlot :=
  (((p.stores.find? (fun e => decide (e.1 = d))).map (fun e => e.2)).getD []).take 512

/-- An operation reads three operands at most, and one word of its slate (R209, R214). -/
def OpSlot.ok (x : OpSlot) : Bool :=
  decide (x.srcs.length ≤ 3) && decide ((x.srcs.filter (fun o => match o with
    | .slate _ => true
    | _ => false)).length ≤ 1)

/-- An operation reads a source, or writes a destination. -/
def OpSlot.reads (x : OpSlot) (o : OpSrc) : Bool := x.srcs.contains o
def OpSlot.writes (x : OpSlot) (o : OpDst) : Bool := decide (x.dst = o)

/-- A chalkboard is 1 MiB: 262,144 words, word `w` in bank `w / 16 % 16` (R217). -/
def boardWords : Nat := 262144

/-- The slate words (logical desk, word) that the lesson `tag` writes. -/
def ClassPlan.ownSlates (p : ClassPlan) (tag : Nat) : List (Nat × Nat) :=
  p.stores.flatMap (fun e => e.2.filterMap (fun x => match x.dst with
    | .slate w => if x.tag = tag then some (e.1, w.val) else none
    | .port _ => none))

/-- The chalkboard words that the lesson `tag` writes. -/
def ClassPlan.ownBoard (p : ClassPlan) (tag : Nat) : List Nat :=
  p.wires.flatMap (fun x => match x.dst with
    | .boardPut w => if x.tag = tag then (List.range x.times).map (fun k => (w + k * x.step) % boardWords) else []
    | _ => [])

/-- The plan uses the neighbour port towards the next classroom, or the one towards the classroom before (R218). -/
def ClassPlan.uses (p : ClassPlan) (up : Bool) : Bool :=
  p.wires.any (fun e => [e.src, e.dst].any (fun x => match x with
    | .neighbour u _ => u == up
    | _ => false))

/-- The numeric state of an OSC instance (R250), in binary64 patterns: the mean μ of each signal, the vectors ỹ of recent updates with the
latest first, the rows of C and the columns of Q. -/
structure OscNum where
  mean : List Nat := []
  past : List (List Nat) := []
  c : List (List Nat) := []
  q : List (List Nat) := []
deriving DecidableEq, Repr, Inhabited

def OscNum.code (x : OscNum) : List Nat := x.mean ++ x.past.flatten ++ x.c.flatten ++ x.q.flatten

/-- An ASDU of a sampled-values SPDU: svID, dataset octets, and refrTm as SecondSinceEpoch and FractionOfSecond. -/
structure Asdu where
  svId : List Byte := []
  dataset : List Byte := []
  refrTm : Option (Nat × Nat) := none
deriving DecidableEq, Repr, Inhabited

/-- What a session protocol data unit of IEC 61850-90-5 says (R171, R172). `session` is the session identifier of R161; `alg` is 0 without
a signature, 1 HMAC-SHA256-128, 2 AES-GMAC-128, 3 any other; `iv` is what the standard gives AES-GMAC. -/
structure Spdu where
  session : Nat := 0
  version : Nat := 0
  encrypted : Bool := false
  alg : Nat := 0
  keyId : Nat := 0
  tag : List Byte := []
  signed : List Byte := []
  iv : List Byte := []
  asdus : List Asdu := []
deriving DecidableEq, Repr, Inhabited

end Sys2Proof
end

