-- ==== Sys2Proof/Config.lean ====
section
/-! DEFINITION. What the spec leaves to the part's fuses, to its silicon or to a value it does not state: constants and
functions with no body. Nothing can be proved about their values, so every claim holds whatever they are.
Each is named in the assumption log. -/

namespace Sys2Proof.Config

/-- GLB_UID, low half: factory fuses (R58, R387). -/
opaque uidLo : Word
/-- GLB_UID, high half: factory fuses (R58, R387). -/
opaque uidHi : Word
/-- The code of the highest PCIe rate and the greatest width in lanes that the link partner offers (R31). -/
opaque linkPartner : Nat × Nat
/-- FLOOR_FUSE, the fused image-version floor (R387, R408). -/
opaque floorFuse : Word
/-- The 32 octets of the root secret (R387). -/
opaque rootSecret : List Byte
/-- The fused image-verify public keys of slots 1-4, x then y; none where the fuse row is blank (R387, R389). -/
opaque fusedKey : Nat → Option (List Byte)

/-- Free value `k`, `w` bits wide: a value the spec leaves undefined after a command that goes on.
Applied to a counter of State that each use advances. -/
opaque freeBits : Nat → Nat → Nat

/-- The octets of the key store's internal noise source: draw `k` (R396). -/
opaque noise : Nat → List Byte

/-- Whether another node has carrier on field segment `g` at device time `t` (R145, R159): an input of the part that no command
carries. -/
opaque t1sCarrier : Nat → Nat → Bool

/-- FLT_HBCOEF0-22: the half-band coefficients of the silicon, signed Q1.23 (R278, R289). -/
opaque hbCoef : Nat → BitVec 24

/-- What the part's sine, cosine and arctangent of y/x offer in binary64, as patterns (R292, R310): the rules bound them to 1 ulp of the
true value and leave the last bit open. -/
opaque sin64 : Nat → Nat
opaque cos64 : Nat → Nat
opaque atan64 : Nat → Nat → Nat
/-- The same in binary32 (R169, R240). -/
opaque sin32 : Nat → Nat
opaque cos32 : Nat → Nat
opaque atan32 : Nat → Nat → Nat

/-- What the payload of a device section says after its boot register list (R64); its encoding belongs to Vuevo (R63). -/
opaque devicePlan : List Byte → DevicePlan
/-- What the payload of a classroom section says (R63). -/
opaque classPlan : List Byte → ClassPlan

/-- What the payload of a UDP datagram says as an SPDU of IEC 61850-90-5, whose octets that standard lays out (R161, R171, R172). -/
opaque spdu : List Byte → Option Spdu

/-- What the part offers for one LSE pass (R246), whose rounding the lesson plan fixes: from the table, PIVOT_MIN, the weights and
the measurements in use, the states x (real then imaginary), and w·|r|² of each measurement with their sum first. -/
opaque lsePass : List Byte → Word → List Word → List (Word × Word) → (List (Word × Word) × List Word)
/-- The elimination order that an LSE structure block fixes (R245). -/
opaque lseOrder : List Byte → List Nat
/-- Committed lesson state as the lesson plan lays it out for cover mode (R426). -/
opaque stateOctets : List Nat → List Byte
/-- Whether an LSE structure block carries the pattern digest of its entries (R245). -/
opaque lseBlockOk : List Byte → Bool
/-- Nonzeros of the factor that an LSE structure block fixes (R245). -/
opaque lseFactor : List Byte → Nat

/-- What the part offers for the mean of a signal's usable values over DEC rolls (R250), whose rounding the lesson plan fixes. -/
opaque oscMean : List Word → Word
/-- The numeric state of an OSC instance before its first update, for `m` signals, PAST and ORDER: no rule states it. -/
opaque oscStart : Nat → Nat → Nat → OscNum
/-- What orthonormalisation gives for a column that vanishes: no rule states it. -/
opaque oscColumn : List (List Nat) → List Nat
/-- The eigenvalues of the matrix A of R250, given by its columns, each with an eigenvector, as the part offers them. -/
opaque oscEigen : List (List Nat) → List ((Nat × Nat) × List (Nat × Nat))
/-- The binary64 coordinate of the eigenpair of a number in the latest filtered state (R250), whose basis no rule states. -/
opaque oscCoord : OscNum → Nat → Nat
/-- What a strobe at OBS reads, by source, PARAM, signal and device time (R492). -/
opaque obsStrobe : Nat → Nat → Nat → Nat → Bool

end Sys2Proof.Config
end

