-- ==== Sys2Proof/Machine/Trig.lean ====
section
/-! DEFINITION. Sine, cosine and arctangent to as many binary digits as asked for, on integers: the true values that the rules bound the
part's functions by (R169, R240, R292, R310). A real is given by an integer over 2^n; the errors stay within a few units of it. -/

namespace Sys2Proof.Machine

/-- The series t/k − (t/q)/(k+2) + (t/q²)/(k+4) − …, until its terms vanish. -/
def altSeries (q : Nat) : Nat → Nat → Nat → Int
  | 0, _, _ => 0
  | fuel + 1, t, k => if t = 0 then 0 else ((t / k : Nat) : Int) - altSeries q fuel (t / q) (k + 2)

/-- arctan(1/q) · 2^n. -/
def atanInv (q n : Nat) : Int := altSeries (q * q) n (2 ^ n / q) 1

/-- π · 2^n, by Machin's formula with 32 guard bits. -/
def piFix (n : Nat) : Nat := ((16 * atanInv 5 (n + 32) - 4 * atanInv 239 (n + 32)) / 2 ^ 32).toNat

/-- The series x^j/j! − x^(j+2)/(j+2)! + …, for x² = `xx` and the first term `t`, all over 2^n. -/
def trigSeries (n xx : Nat) : Nat → Nat → Nat → Int
  | 0, _, _ => 0
  | fuel + 1, t, j => if t = 0 then 0 else (t : Int) - trigSeries n xx fuel (t * xx / 2 ^ n / ((j + 1) * (j + 2))) (j + 2)

/-- sin(x) for 0 ≤ x < 2π, x and the result over 2^n. -/
def sinFix (n x : Nat) : Int := trigSeries n (x * x / 2 ^ n) n x 1

/-- cos(x) for 0 ≤ x < 2π. -/
def cosFix (n x : Nat) : Int := trigSeries n (x * x / 2 ^ n) n (2 ^ n) 0

/-- The binary digits after the point that a value near 2^k needs for 256 significant ones. -/
def digitsFor (k : Int) : Nat := 320 + (-k).toNat

/-- m · 2^e modulo 2π, over 2^n, for n as `digitsFor` gives it. -/
def mod2pi (m : Nat) (e : Int) (n : Nat) : Nat :=
  let g := (e + Nat.log2 m).toNat + 8
  let x := m * 2 ^ (e + n + g : Int).toNat
  x % (2 * piFix (n + g)) / 2 ^ g

/-- sin(±m · 2^e) as an integer over the power of two that follows it. -/
def sinTrue (neg : Bool) (m : Nat) (e : Int) : Int × Nat :=
  let n := digitsFor (e + Nat.log2 m)
  let v := sinFix n (mod2pi m e n)
  (if neg then -v else v, n)

/-- cos(±m · 2^e) likewise. -/
def cosTrue (m : Nat) (e : Int) : Int × Nat :=
  let n := digitsFor 0 + (-e).toNat
  (cosFix n (mod2pi m e n), n)

/-- The series u/k − u·v/(k+2) + u·v²/(k+4) − …, u and v over 2^n. -/
def atanSeries (n v : Nat) : Nat → Nat → Nat → Int
  | 0, _, _ => 0
  | fuel + 1, u, k => if u = 0 then 0 else ((u / k : Nat) : Int) - atanSeries n v fuel (u * v / 2 ^ n) (k + 2)

/-- tan(a/2) for t = tan(a), both over 2^n. -/
def tanHalf (n t : Nat) : Nat := t * 2 ^ n / (2 ^ n + Nat.sqrt (2 ^ (2 * n) + t * t))

/-- arctan(t) for 0 ≤ t ≤ 1, t and the result over 2^n: four halvings of the angle, then the series. -/
def atanFix (n t : Nat) : Nat :=
  let u := tanHalf n (tanHalf n (tanHalf n (tanHalf n t)))
  16 * (atanSeries n (u * u / 2 ^ n) n u 1).toNat

/-- The angle of the point (a · 2^d, b · 2^e) in [0, π/2], for a point that is not the origin. -/
def angleTrue (b : Nat) (e : Int) (a : Nat) (d : Int) : Nat × Nat :=
  let base := min e d
  let y := b * 2 ^ (e - base).toNat
  let x := a * 2 ^ (d - base).toNat
  let n := digitsFor ((Nat.log2 y : Int) - Nat.log2 x)
  (if y ≤ x then atanFix n (y * 2 ^ n / x) else piFix n / 2 - atanFix n (x * 2 ^ n / y), n)

/-- atan2(±b · 2^e, ±a · 2^d), for a point that is not the origin. -/
def atan2True (negY : Bool) (b : Nat) (e : Int) (negX : Bool) (a : Nat) (d : Int) : Int × Nat :=
  let r := angleTrue b e a d
  let t : Int := if negX then (piFix r.2 : Int) - r.1 else r.1
  (if negY then -t else t, r.2)

/-- The series u/k + u·v/(k+2) + u·v²/(k+4) + …, u and v over 2^n. -/
def atanhSeries (n v : Nat) : Nat → Nat → Nat → Nat
  | 0, _, _ => 0
  | fuel + 1, u, k => if u = 0 then 0 else u / k + atanhSeries n v fuel (u * v / 2 ^ n) (k + 2)

/-- 2·artanh(u), u over 2^n. -/
def twoAtanh (n u : Nat) : Nat := 2 * atanhSeries n (u * u / 2 ^ n) n u 1

/-- ln(m · 2^e) over 2^320, for m > 0. -/
def lnTrue (m : Nat) (e : Int) : Int × Nat :=
  let n := 320
  let k := Nat.log2 m
  let x := m * 2 ^ n / 2 ^ k
  ((twoAtanh n ((x - 2 ^ n) * 2 ^ n / (x + 2 ^ n)) : Int) + (e + k) * twoAtanh n (2 ^ n / 3), n)

end Sys2Proof.Machine
end

