-- ==== Sys2Proof/Machine/Float.lean ====
section
/-! DEFINITION. Floating-point arithmetic on bit patterns: binary32 as R210 has it (round to nearest even, subnormals read
and written as zeros, one canonical NaN), and binary64 for the estimators (R292, R310). Each operation is computed
exactly on integers and rounded once. -/

namespace Sys2Proof.Machine

/-- A binary interchange format: exponent and fraction widths, and whether subnormals are zeros. -/
structure Fmt where
  ew : Nat
  mw : Nat
  flush : Bool
deriving DecidableEq, Repr

/-- binary32 under R210. -/
def b32 : Fmt := ⟨8, 23, true⟩
/-- binary64. -/
def b64 : Fmt := ⟨11, 52, false⟩

/-- A float taken apart: a finite value is ±m · 2^e. -/
inductive FVal where
  | nan
  | inf (neg : Bool)
  | fin (neg : Bool) (m : Nat) (e : Int)
deriving DecidableEq, Repr

def Fmt.bias (f : Fmt) : Nat := 2 ^ (f.ew - 1) - 1
def Fmt.maxExp (f : Fmt) : Nat := 2 ^ f.ew - 1
def Fmt.width (f : Fmt) : Nat := f.ew + f.mw + 1

/-- The canonical NaN: 0x7FC0_0000 in binary32. -/
def Fmt.qnan (f : Fmt) : Nat := f.maxExp * 2 ^ f.mw + 2 ^ (f.mw - 1)

def Fmt.infinity (f : Fmt) (neg : Bool) : Nat := neg.toNat * 2 ^ (f.ew + f.mw) + f.maxExp * 2 ^ f.mw

/-- The value of a bit pattern. -/
def Fmt.unpack (f : Fmt) (p : Nat) : FVal :=
  let neg := p / 2 ^ (f.ew + f.mw) % 2 = 1
  let ex := p / 2 ^ f.mw % 2 ^ f.ew
  let fr := p % 2 ^ f.mw
  let low : Int := 1 - (f.bias : Int) - f.mw
  if ex = f.maxExp then (if fr = 0 then .inf neg else .nan)
  else if ex = 0 then (if f.flush then .fin neg 0 low else .fin neg fr low)
  else .fin neg (2 ^ f.mw + fr) (low + ((ex : Int) - 1))

/-- `m / 2^k`, rounded to nearest, ties to even. -/
def rneShift (m k : Nat) : Nat :=
  let q := m >>> k
  let r := m % 2 ^ k
  let half := 2 ^ k / 2
  if k = 0 then m
  else if r > half || (r = half && q % 2 = 1) then q + 1 else q

/-- The pattern nearest to ±m · 2^e. `m` may hold a sticky last bit beyond the precision. -/
def Fmt.round (f : Fmt) (neg : Bool) (m : Nat) (e : Int) : Nat :=
  let sgn := neg.toNat * 2 ^ (f.ew + f.mw)
  if m = 0 then sgn
  else
    let emin : Int := 1 - (f.bias : Int) - f.mw
    let ue0 : Int := e + (Nat.log2 m : Int) - f.mw
    let ue : Int := if f.flush then ue0 else max ue0 emin
    let q := if ue ≤ e then m * 2 ^ (e - ue).toNat else rneShift m (ue - e).toNat
    let q' := if q = 2 ^ (f.mw + 1) then 2 ^ f.mw else q
    let ue' := if q = 2 ^ (f.mw + 1) then ue + 1 else ue
    if q' < 2 ^ f.mw then sgn + q'
    else if ue' < emin then sgn
    else
      let ex := (ue' - emin).toNat + 1
      if f.maxExp ≤ ex then f.infinity neg
      else sgn + ex * 2 ^ f.mw + (q' - 2 ^ f.mw)

/-- The pattern of an integer times a power of two. -/
def Fmt.ofScaled (f : Fmt) (x : Int) (e : Int) : Nat := f.round (decide (x < 0)) x.natAbs e

/-- The pattern of an integer (I2F in binary32, R210). -/
def Fmt.ofInt (f : Fmt) (x : Int) : Nat := f.ofScaled x 0

def Fmt.isNaN (f : Fmt) (p : Nat) : Bool :=
  match f.unpack p with
  | .nan => true
  | _ => false

/-- A pattern is finite. -/
def Fmt.isFinite (f : Fmt) (p : Nat) : Bool := decide (p / 2 ^ f.mw % 2 ^ f.ew ≠ f.maxExp)

/-- Finite and positive, neither zero nor subnormal. -/
def Fmt.isPosNormal (f : Fmt) (p : Nat) : Bool :=
  f.isFinite p && decide (p / 2 ^ f.mw % 2 ^ f.ew ≠ 0) && decide (p / 2 ^ (f.ew + f.mw) % 2 = 0)

/-- Finite and positive; a subnormal counts as zero where the format flushes. -/
def Fmt.isPositive (f : Fmt) (p : Nat) : Bool :=
  match f.unpack p with
  | .fin false m _ => decide (m ≠ 0)
  | _ => false

/-- An operand as it is read: a subnormal is a zero of its sign where the format flushes (R210). -/
def Fmt.operand (f : Fmt) (p : Nat) : Nat :=
  if f.flush && decide (p / 2 ^ f.mw % 2 ^ f.ew = 0) then p / 2 ^ (f.ew + f.mw) * 2 ^ (f.ew + f.mw) else p

def Fmt.neg (f : Fmt) (p : Nat) : Nat :=
  if f.isNaN p then f.qnan else (f.operand p + 2 ^ (f.ew + f.mw)) % 2 ^ f.width

def Fmt.abs (f : Fmt) (p : Nat) : Nat := if f.isNaN p then f.qnan else f.operand p % 2 ^ (f.ew + f.mw)

/-- The signed integer `±m · 2^(e - base)`; `base ≤ e`. -/
def scaleTo (neg : Bool) (m : Nat) (e base : Int) : Int :=
  let v : Int := (m * 2 ^ (e - base).toNat : Nat)
  if neg then -v else v

def Fmt.add (f : Fmt) (a b : Nat) : Nat :=
  match f.unpack a, f.unpack b with
  | .nan, _ => f.qnan
  | _, .nan => f.qnan
  | .inf x, .inf y => if x = y then f.infinity x else f.qnan
  | .inf x, _ => f.infinity x
  | _, .inf y => f.infinity y
  | .fin x m e, .fin y n d =>
    let base := min e d
    let s := scaleTo x m e base + scaleTo y n d base
    if s = 0 then f.round (x && y) 0 0
    else f.ofScaled s base

def Fmt.sub (f : Fmt) (a b : Nat) : Nat :=
  if f.isNaN b then f.qnan else f.add a (f.neg b)

def Fmt.mul (f : Fmt) (a b : Nat) : Nat :=
  match f.unpack a, f.unpack b with
  | .nan, _ => f.qnan
  | _, .nan => f.qnan
  | .inf x, .inf y => f.infinity (x != y)
  | .inf x, .fin y n _ => if n = 0 then f.qnan else f.infinity (x != y)
  | .fin x m _, .inf y => if m = 0 then f.qnan else f.infinity (x != y)
  | .fin x m e, .fin y n d => f.round (x != y) (m * n) (e + d)

def Fmt.div (f : Fmt) (a b : Nat) : Nat :=
  match f.unpack a, f.unpack b with
  | .nan, _ => f.qnan
  | _, .nan => f.qnan
  | .inf _, .inf _ => f.qnan
  | .inf x, .fin y _ _ => f.infinity (x != y)
  | .fin x _ _, .inf y => f.round (x != y) 0 0
  | .fin x m e, .fin y n d =>
    if n = 0 then (if m = 0 then f.qnan else f.infinity (x != y))
    else
      let k := 2 * f.mw + 8
      let q := m * 2 ^ k / n
      let sticky := if m * 2 ^ k % n = 0 then 0 else 1
      f.round (x != y) (2 * q + sticky) (e - d - k - 1)

/-- a · b + c, rounded once. -/
def Fmt.fma (f : Fmt) (a b c : Nat) : Nat :=
  match f.unpack a, f.unpack b, f.unpack c with
  | .fin x m e, .fin y n d, .fin z k g =>
    let base := min (e + d) g
    let v := scaleTo (x != y) (m * n) (e + d) base + scaleTo z k g base
    if v = 0 then f.round ((x != y) && z) 0 0 else f.ofScaled v base
  | .fin _ _ _, .fin _ _ _, .inf z => f.infinity z
  | _, _, _ => f.add (f.mul a b) c

/-- The pattern nearest to the quotient of an integer and a positive integer. -/
def Fmt.ratio (f : Fmt) (x : Int) (n : Nat) : Nat :=
  let k := 2 * f.mw + 8 + Nat.log2 n
  let q := x.natAbs * 2 ^ k / n
  let sticky := if x.natAbs * 2 ^ k % n = 0 then 0 else 1
  f.round (decide (x < 0)) (2 * q + sticky) (-(k : Int) - 1)

/-- The integer square root, rounded down. -/
def isqrtFuel : Nat → Nat → Nat → Nat → Nat
  | 0, _, lo, _ => lo
  | fuel + 1, n, lo, hi =>
    if hi ≤ lo + 1 then lo
    else
      let mid := (lo + hi) / 2
      if mid * mid ≤ n then isqrtFuel fuel n mid hi else isqrtFuel fuel n lo mid

/-- The greatest `r` with `r * r ≤ n`. -/
def isqrt (n : Nat) : Nat := isqrtFuel (Nat.log2 n + 2) n 0 (2 ^ (Nat.log2 n / 2 + 1))

def Fmt.sqrt (f : Fmt) (a : Nat) : Nat :=
  match f.unpack a with
  | .nan => f.qnan
  | .inf x => if x then f.qnan else f.infinity false
  | .fin x m e =>
    if m = 0 then f.round x 0 0
    else if x then f.qnan
    else
      let k := 2 * f.mw + 8
      let k := if (e - (k : Int)) % 2 = 0 then k else k + 1
      let n := m * 2 ^ k
      let r := isqrt n
      let sticky := if r * r = n then 0 else 1
      f.round false (2 * r + sticky) ((e - (k : Int)) / 2 - 1)

/-- Order of two finite or infinite values as integers over a common scale; NaN gives none. -/
def Fmt.cmp (f : Fmt) (a b : Nat) : Option Ordering :=
  match f.unpack a, f.unpack b with
  | .nan, _ => none
  | _, .nan => none
  | .inf x, .inf y => some (compare y.toNat x.toNat)
  | .inf x, _ => some (if x then .lt else .gt)
  | _, .inf y => some (if y then .gt else .lt)
  | .fin x m e, .fin y n d =>
    let base := min e d
    some (compare (scaleTo x m e base) (scaleTo y n d base))

def Fmt.lt (f : Fmt) (a b : Nat) : Bool := f.cmp a b = some .lt
def Fmt.le (f : Fmt) (a b : Nat) : Bool := f.cmp a b = some .lt || f.cmp a b = some .eq

/-- FMIN and FMAX (R210): a NaN if either operand is one; −0 below +0. -/
def Fmt.pick (f : Fmt) (up : Bool) (a b : Nat) : Nat :=
  match f.cmp a b with
  | none => f.qnan
  | some .lt => f.add (if up then b else a) (2 ^ (f.ew + f.mw))
  | some .gt => f.add (if up then a else b) (2 ^ (f.ew + f.mw))
  | some .eq =>
    let neg := decide (a / 2 ^ (f.ew + f.mw) % 2 = 1) || decide (b / 2 ^ (f.ew + f.mw) % 2 = 1)
    let pos := decide (a / 2 ^ (f.ew + f.mw) % 2 = 0) || decide (b / 2 ^ (f.ew + f.mw) % 2 = 0)
    if f.add a 0 = 0 then (if up then (if pos then 0 else 2 ^ (f.ew + f.mw)) else (if neg then 2 ^ (f.ew + f.mw) else 0))
    else a

/-- Conversion between formats, rounded once. -/
def Fmt.convert (f g : Fmt) (p : Nat) : Nat :=
  match f.unpack p with
  | .nan => g.qnan
  | .inf x => g.infinity x
  | .fin x m e => g.round x m e

/-- F2I: the nearest integer, ties to even, limited to int32; 0 for a NaN (R210). -/
def Fmt.toInt32 (f : Fmt) (p : Nat) : Int :=
  match f.unpack p with
  | .nan => 0
  | .inf x => if x then -(2 ^ 31) else 2 ^ 31 - 1
  | .fin x m e =>
    let v : Int := if 0 ≤ e then (m * 2 ^ e.toNat : Nat) else (rneShift m (-e).toNat : Nat)
    clampInt (-(2 ^ 31)) (2 ^ 31 - 1) (if x then -v else v)

/-- The integer nearest to `x · 2^k` in magnitude, ties to even, for a finite pattern; 0 otherwise. -/
def Fmt.scaledAbs (f : Fmt) (p k : Nat) : Nat :=
  match f.unpack p with
  | .fin _ m e =>
    let e' := e + (k : Int)
    if 0 ≤ e' then m * 2 ^ e'.toNat else rneShift m (-e').toNat
  | _ => 0

/-- The sign bit of a pattern. -/
def Fmt.signBit (f : Fmt) (p : Nat) : Bool := decide (p / 2 ^ (f.ew + f.mw) % 2 = 1)

/-- A value is at least 0 (−0 counts). -/
def Fmt.nonneg (f : Fmt) (p : Nat) : Bool := f.le (f.ofInt 0) p

/-! ### Functions bounded to 1 unit in the last place (R169, R240, R292, R310) -/

/-- A pattern lies within 1 unit in the last place of the real `v / 2^n`. -/
def Fmt.withinUlp (f : Fmt) (p : Nat) (v : Int) (n : Nat) : Bool :=
  match f.unpack p with
  | .fin neg m e =>
    let ulp : Int := max ((Nat.log2 v.natAbs : Int) - n - f.mw) (1 - (f.bias : Int) - f.mw)
    let base := min (min e (-(n : Int))) ulp
    decide ((scaleTo neg m e base - scaleTo false v.natAbs (-(n : Int)) base * v.sign).natAbs ≤ 2 ^ (ulp - base).toNat)
  | _ => false

/-- The value the part gives for a real that is `t.1 / 2^t.2`: what its own function offers, where that lies within 1 unit in the last
place, else the nearest pattern. A zero is exact. -/
def Fmt.bounded (f : Fmt) (offer : Nat) (t : Int × Nat) : Nat :=
  if t.1 ≠ 0 && decide (offer < 2 ^ f.width) && f.withinUlp offer t.1 t.2 then offer else f.ofScaled t.1 (-(t.2 : Int))

/-- Sine of an angle; `offer` is what the part's own function gives. No rule says what the sine of an infinity is: the offer stands. -/
def Fmt.sin (f : Fmt) (offer a : Nat) : Nat :=
  match f.unpack a with
  | .nan => f.qnan
  | .inf _ => offer % 2 ^ f.width
  | .fin neg m e => f.bounded offer (sinTrue neg m e)

/-- Cosine of an angle. -/
def Fmt.cos (f : Fmt) (offer a : Nat) : Nat :=
  match f.unpack a with
  | .nan => f.qnan
  | .inf _ => offer % 2 ^ f.width
  | .fin _ m e => f.bounded offer (cosTrue m e)

/-- atan2(y, x). No rule says what it is at the origin or of an infinity: the offer stands. -/
def Fmt.atan2 (f : Fmt) (offer y x : Nat) : Nat :=
  match f.unpack y, f.unpack x with
  | .nan, _ => f.qnan
  | _, .nan => f.qnan
  | .fin negY b e, .fin negX a d =>
    if b = 0 && a = 0 then offer % 2 ^ f.width else f.bounded offer (atan2True negY b e negX a d)
  | _, _ => offer % 2 ^ f.width

/-- The natural logarithm, rounded to nearest: −∞ of a zero, a NaN of what is negative. -/
def Fmt.ln (f : Fmt) (a : Nat) : Nat :=
  match f.unpack a with
  | .nan => f.qnan
  | .inf x => if x then f.qnan else f.infinity false
  | .fin x m e =>
    if m = 0 then f.infinity true
    else if x then f.qnan
    else f.ofScaled (lnTrue m e).1 (-((lnTrue m e).2 : Int))

/-! ### binary64 shorthand for the estimators -/

abbrev F64 := Nat
def F64.add (a b : F64) : F64 := Fmt.add b64 a b
def F64.sub (a b : F64) : F64 := Fmt.sub b64 a b
def F64.mul (a b : F64) : F64 := Fmt.mul b64 a b
def F64.div (a b : F64) : F64 := Fmt.div b64 a b
def F64.sqrt (a : F64) : F64 := Fmt.sqrt b64 a
def F64.ofInt (x : Int) : F64 := Fmt.ofInt b64 x
def F64.neg (a : F64) : F64 := Fmt.neg b64 a
def F64.abs (a : F64) : F64 := Fmt.abs b64 a
def F64.lt (a b : F64) : Bool := Fmt.lt b64 a b
def F64.le (a b : F64) : Bool := Fmt.le b64 a b
def F64.ofF32 (w : Word) : F64 := Fmt.convert b32 b64 w.toNat
def F64.toF32 (a : F64) : Word := word (Fmt.convert b64 b32 a)
def F64.ln (a : F64) : F64 := Fmt.ln b64 a
def F64.max (a b : F64) : F64 := if F64.lt a b then b else a
def F64.sum (l : List F64) : F64 := l.foldl F64.add 0
def F64.sin (a : F64) : F64 := Fmt.sin b64 (Config.sin64 a) a
def F64.cos (a : F64) : F64 := Fmt.cos b64 (Config.cos64 a) a
def F64.atan2 (y x : F64) : F64 := Fmt.atan2 b64 (Config.atan64 y x) y x
/-- π, 2 and √2 in binary64. -/
def F64.pi : F64 := 0x400921FB54442D18
def F64.two : F64 := 0x4000000000000000
def F64.one : F64 := 0x3FF0000000000000
def F64.sqrt2 : F64 := 0x3FF6A09E667F3BCD
/-- The quotient of two integers. -/
def F64.ratio (a b : Int) : F64 := F64.div (F64.ofInt a) (F64.ofInt b)

/-- A complex number in binary64. -/
structure C64 where
  re : F64
  im : F64
deriving DecidableEq, Repr

def C64.add (a b : C64) : C64 := ⟨F64.add a.re b.re, F64.add a.im b.im⟩
def C64.mul (a b : C64) : C64 :=
  ⟨F64.sub (F64.mul a.re b.re) (F64.mul a.im b.im), F64.add (F64.mul a.re b.im) (F64.mul a.im b.re)⟩
def C64.sub (a b : C64) : C64 := ⟨F64.sub a.re b.re, F64.sub a.im b.im⟩
def C64.scale (k : F64) (a : C64) : C64 := ⟨F64.mul k a.re, F64.mul k a.im⟩
def C64.conj (a : C64) : C64 := ⟨a.re, F64.neg a.im⟩
def C64.mag (a : C64) : F64 := F64.sqrt (F64.add (F64.mul a.re a.re) (F64.mul a.im a.im))
def C64.arg (a : C64) : F64 := F64.atan2 a.im a.re
def C64.over (a : C64) (k : F64) : C64 := ⟨F64.div a.re k, F64.div a.im k⟩
def C64.sq (a : C64) : F64 := F64.add (F64.mul a.re a.re) (F64.mul a.im a.im)
def C64.zero : C64 := ⟨0, 0⟩
def C64.sum (l : List C64) : C64 := l.foldl C64.add C64.zero

/-! ### binary32 shorthand (R210) -/

def f32Add (a b : Word) : Word := word (Fmt.add b32 a.toNat b.toNat)
def f32Sub (a b : Word) : Word := word (Fmt.sub b32 a.toNat b.toNat)
def f32Mul (a b : Word) : Word := word (Fmt.mul b32 a.toNat b.toNat)
def f32Div (a b : Word) : Word := word (Fmt.div b32 a.toNat b.toNat)
def f32Sqrt (a : Word) : Word := word (Fmt.sqrt b32 a.toNat)
def f32Lt (a b : Word) : Bool := Fmt.lt b32 a.toNat b.toNat
def f32Le (a b : Word) : Bool := Fmt.le b32 a.toNat b.toNat
def f32IsNaN (a : Word) : Bool := Fmt.isNaN b32 a.toNat
def f32IsFinite (a : Word) : Bool := Fmt.isFinite b32 a.toNat
def f32Positive (a : Word) : Bool := Fmt.isPositive b32 a.toNat
def f32PosNormal (a : Word) : Bool := Fmt.isPosNormal b32 a.toNat
def f32OfInt (x : Int) : Word := word (Fmt.ofInt b32 x)
def f32Abs (a : Word) : Word := word (Fmt.abs b32 a.toNat)
def f32Neg (a : Word) : Word := word (Fmt.neg b32 a.toNat)
def f32Fma (a b c : Word) : Word := word (Fmt.fma b32 a.toNat b.toNat c.toNat)
def f32Ratio (x : Int) (n : Nat) : Word := word (Fmt.ratio b32 x n)
def f32Min (a b : Word) : Word := word (Fmt.pick b32 false a.toNat b.toNat)
def f32Max (a b : Word) : Word := word (Fmt.pick b32 true a.toNat b.toNat)
def f32Sin (a : Word) : Word := word (Fmt.sin b32 (Config.sin32 a.toNat) a.toNat)
def f32Cos (a : Word) : Word := word (Fmt.cos b32 (Config.cos32 a.toNat) a.toNat)
def f32Atan2 (y x : Word) : Word := word (Fmt.atan2 b32 (Config.atan32 y.toNat x.toNat) y.toNat x.toNat)
/-- The binary32 constants 1 and π. -/
def f32One : Word := 0x3F800000
def f32Pi : Word := 0x40490FDB
/-- The canonical NaN. -/
def f32NaN : Word := 0x7FC00000

end Sys2Proof.Machine
end

