-- ==== Sys2Proof/Machine/RegMap.lean ====
section
/-! DEFINITION. The register maps of spec/ as data: every register of BAR0 with its place, its reset value and what each
of its bits accepts. Rows are grouped by unit; a row stands for a register kind and its instances. -/

namespace Sys2Proof.Machine

/-- Column P of the register maps: whether a register is the low or the high half of a pair (R46, R47). -/
inductive PairHalf where
  | single
  | low
  | high
deriving DecidableEq, Repr

/-- One row of a register map: instances at `base + s1*i + s2*j`, `i < c1`, `j < c2`. `rw` marks the bits that software
writes (RW, RWH, RWL), `w1c` those cleared by writing 1, `wo` those that only take a command, `am` the bits of fields
marked A (R48), `lock` the GLB_LOCK bit that guards an RWL register (R53). -/
structure RegRow where
  base : Nat
  s1 : Nat
  c1 : Nat
  s2 : Nat
  c2 : Nat
  reset : Word
  rw : Word
  w1c : Word
  wo : Word
  am : Word
  pair : PairHalf
  lock : Option Nat
deriving DecidableEq, Repr

/-- Whether a BAR0 offset (normal view) is an instance of the row. -/
def RegRow.holds (r : RegRow) (off : Nat) : Bool :=
  decide (r.base ≤ off) &&
  (let d := off - r.base
   decide (d / r.s1 < r.c1) && decide (d % r.s1 / r.s2 < r.c2) && decide (d % r.s1 % r.s2 = 0))

/-- The register map of the GLB unit. -/
def regRowsGLB : List RegRow :=
  [⟨0x0, 0x4, 1, 0x4, 1, 0x98402100, 0x0, 0x0, 0x0, 0x0, .single, none⟩,
   ⟨0x4, 0x4, 1, 0x4, 1, 0x1F0C4000, 0x0, 0x0, 0x0, 0x0, .single, none⟩,
   ⟨0x8, 0x4, 1, 0x4, 1, 0x7444FF, 0x0, 0x0, 0x0, 0x0, .single, none⟩,
   ⟨0xC, 0x4, 1, 0x4, 1, 0, 0x0, 0x0, 0x0, 0x0, .single, none⟩,
   ⟨0x10, 0x4, 1, 0x4, 1, Config.uidLo, 0x0, 0x0, 0x0, 0x0, .low, none⟩,
   ⟨0x14, 0x4, 1, 0x4, 1, Config.uidHi, 0x0, 0x0, 0x0, 0x0, .high, none⟩,
   ⟨0x20, 0x4, 1, 0x4, 1, 0x0, 0x7F, 0x0, 0x0, 0x0, .single, none⟩,
   ⟨0x30, 0x4, 1, 0x4, 1, 0x0, 0x0, 0x0, 0x0, 0x0, .single, none⟩,
   ⟨0x34, 0x4, 1, 0x4, 1, 0x0, 0x0, 0x80000000, 0x0, 0x0, .single, none⟩,
   ⟨0x40, 0x4, 1, 0x4, 1, 0x0, 0x0, 0x0, 0xFFFFFFFF, 0x0, .single, none⟩,
   ⟨0x50, 0x4, 1, 0x4, 1, 0x0, 0x0, 0x100, 0x0, 0x0, .single, none⟩,
   ⟨0x54, 0x4, 1, 0x4, 1, 0x0, 0xFFFFFFFF, 0x0, 0x0, 0x0, .single, none⟩,
   ⟨0x58, 0x4, 1, 0x4, 1, 0x0, 0xFFFFFFFF, 0x0, 0x0, 0x0, .single, none⟩,
   ⟨0x60, 0x4, 1, 0x4, 1, 0x0, 0x0, 0x0, 0x0, 0x0, .low, none⟩,
   ⟨0x64, 0x4, 1, 0x4, 1, 0x0, 0x0, 0x0, 0x0, 0x0, .high, none⟩,
   ⟨0x70, 0x4, 4, 0x4, 1, 0x0, 0xFFFFFFFF, 0x0, 0x0, 0xFFFFFFFF, .single, none⟩]

/-- The register map of the IMG unit. -/
def regRowsIMG : List RegRow :=
  [⟨0x30000, 0x4, 1, 0x4, 1, 0x2, 0x3, 0x0, 0x0, 0x3, .single, none⟩,
   ⟨0x30004, 0x4, 1, 0x4, 1, 0x1, 0x1, 0x0, 0x0, 0x0, .single, (some 0)⟩,
   ⟨0x30008, 0x4, 1, 0x4, 1, 0x0, 0xFFFFFFFF, 0x0, 0x0, 0x0, .single, (some 0)⟩,
   ⟨0x30010, 0x4, 1, 0x4, 1, 0x0, 0xFFFFF000, 0x0, 0x0, 0x0, .low, none⟩,
   ⟨0x30014, 0x4, 1, 0x4, 1, 0x0, 0x3, 0x0, 0x0, 0x0, .high, none⟩,
   ⟨0x30018, 0x4, 1, 0x4, 1, 0x0, 0x3FFFFFF, 0x0, 0x0, 0x0, .single, none⟩,
   ⟨0x3001C, 0x4, 1, 0x4, 1, 0x0, 0x37, 0x0, 0x0, 0x0, .single, none⟩,
   ⟨0x30020, 0x4, 1, 0x4, 1, 0x0, 0x0, 0x0, 0x0, 0x0, .single, none⟩,
   ⟨0x30024, 0x4, 1, 0x4, 1, 0x0, 0x0, 0x0, 0x0, 0x0, .single, none⟩,
   ⟨0x30028, 0x4, 1, 0x4, 1, 0x0, 0x0, 0x0, 0x0, 0x0, .single, none⟩,
   ⟨0x30040, 0x4, 1, 0x4, 1, 0x0, 0x31F07, 0x0, 0x0, 0x0, .single, none⟩,
   ⟨0x30044, 0x4, 1, 0x4, 1, 0x0, 0x0, 0x0, 0x0, 0x0, .single, none⟩,
   ⟨0x30080, 0x4, 32, 0x4, 1, 0x0, 0x0, 0x0, 0x0, 0x0, .single, none⟩,
   ⟨0x30100, 0x4, 8, 0x4, 1, 0x0, 0x0, 0x0, 0x0, 0x0, .single, none⟩]

/-- The register map of the TB unit. -/
def regRowsTB : List RegRow :=
  [⟨0x50000, 0x4, 1, 0x4, 1, 0x0, 0x1, 0x200, 0x0, 0x0, .single, none⟩,
   ⟨0x50004, 0x4, 1, 0x4, 1, 0x0, 0x3, 0x0, 0x0, 0x0, .single, none⟩,
   ⟨0x51000, 0x100, 4, 0x4, 1, 0x0, 0x1CD, 0x0, 0x32, 0x0, .single, none⟩,
   ⟨0x51004, 0x100, 4, 0x4, 1, 0x0, 0x0, 0x1F00, 0x0, 0x0, .single, none⟩,
   ⟨0x51008, 0x100, 4, 0x4, 1, 0x0, 0x0, 0x0, 0x0, 0x0, .low, none⟩,
   ⟨0x5100C, 0x100, 4, 0x4, 1, 0x0, 0x0, 0x0, 0x0, 0x0, .high, none⟩,
   ⟨0x51010, 0x100, 4, 0x4, 1, 0x0, 0x0, 0x0, 0x0, 0x0, .high, none⟩,
   ⟨0x51014, 0x100, 4, 0x4, 1, 0x0, 0x0, 0x0, 0x0, 0x0, .high, none⟩,
   ⟨0x51018, 0x100, 4, 0x4, 1, 0x0, 0xFFFFFFFF, 0x0, 0x0, 0x0, .low, none⟩,
   ⟨0x5101C, 0x100, 4, 0x4, 1, 0x0, 0xFF, 0x0, 0x0, 0x0, .high, none⟩,
   ⟨0x51020, 0x100, 4, 0x4, 1, 0x0, 0x3FFFFFFF, 0x0, 0x0, 0x0, .single, none⟩,
   ⟨0x51024, 0x100, 4, 0x4, 1, 0x0, 0xFFFFFFFF, 0x0, 0x0, 0x0, .single, none⟩,
   ⟨0x51028, 0x100, 4, 0x4, 1, 0x0, 0xFFFF, 0x0, 0x0, 0x0, .single, none⟩,
   ⟨0x5102C, 0x100, 4, 0x4, 1, 0xBB8, 0xFFFF, 0x0, 0x0, 0x0, .single, none⟩,
   ⟨0x51030, 0x100, 4, 0x4, 1, 0x64, 0xFFFFFFFF, 0x0, 0x0, 0x0, .single, none⟩,
   ⟨0x51034, 0x100, 4, 0x4, 1, 0xFF00025, 0xFF3FFFF, 0x0, 0x0, 0x0, .single, none⟩,
   ⟨0x51038, 0x100, 4, 0x4, 1, 0x0, 0xFFFFFFFF, 0x0, 0x0, 0x0, .low, none⟩,
   ⟨0x5103C, 0x100, 4, 0x4, 1, 0x0, 0xFFFF, 0x0, 0x0, 0x0, .high, none⟩,
   ⟨0x51040, 0x100, 4, 0x4, 1, 0x0, 0xFFF, 0x0, 0x0, 0x0, .single, none⟩,
   ⟨0x51044, 0x100, 4, 0x4, 1, 0x0, 0xFFFFFFFF, 0x0, 0x0, 0x0, .single, none⟩,
   ⟨0x51048, 0x100, 4, 0x4, 1, 0x0, 0x0, 0x0, 0xFFFFFFFF, 0x0, .single, none⟩,
   ⟨0x5104C, 0x100, 4, 0x4, 1, 0x303E8, 0x80FFFFFF, 0x0, 0x0, 0x0, .single, none⟩,
   ⟨0x51050, 0x100, 4, 0x4, 1, 0x0, 0x0, 0x0, 0x0, 0x0, .single, none⟩,
   ⟨0x51054, 0x100, 4, 0x4, 1, 0x0, 0x0, 0x0, 0x0, 0x0, .single, none⟩,
   ⟨0x51060, 0x100, 4, 0x4, 1, 0x0, 0x0, 0x0, 0x0, 0x0, .single, none⟩,
   ⟨0x51064, 0x100, 4, 0x4, 1, 0x0, 0x0, 0x0, 0x0, 0x0, .single, none⟩,
   ⟨0x51068, 0x100, 4, 0x4, 1, 0x0, 0x0, 0x0, 0x0, 0x0, .single, none⟩,
   ⟨0x5106C, 0x100, 4, 0x4, 1, 0x0, 0x0, 0x0, 0x0, 0x0, .single, none⟩,
   ⟨0x51070, 0x100, 4, 0x4, 1, 0x0, 0x0, 0x0, 0x0, 0x0, .single, none⟩,
   ⟨0x52000, 0x20, 4, 0x4, 1, 0x0, 0x1F3, 0x0, 0x0, 0x0, .single, none⟩,
   ⟨0x52004, 0x20, 4, 0x4, 1, 0xFFFFD980, 0xFFFFFFFF, 0x0, 0x0, 0x0, .single, none⟩,
   ⟨0x52008, 0x20, 4, 0x4, 1, 0x15C0, 0xFFFFFFFF, 0x0, 0x0, 0x0, .single, none⟩,
   ⟨0x53000, 0x40, 4, 0x4, 1, 0x0, 0x0, 0x30000, 0x0, 0x0, .single, none⟩,
   ⟨0x53004, 0x40, 4, 0x4, 1, 0x0, 0x0, 0x0, 0x0, 0x0, .single, none⟩,
   ⟨0x53008, 0x40, 4, 0x4, 1, 0x0, 0x0, 0x0, 0x0, 0x0, .single, none⟩,
   ⟨0x5300C, 0x40, 4, 0x4, 1, 0x0, 0x0, 0x0, 0x0, 0x0, .single, none⟩,
   ⟨0x53010, 0x40, 4, 0x4, 1, 0x0, 0x0, 0x0, 0x0, 0x0, .single, none⟩,
   ⟨0x53014, 0x40, 4, 0x4, 1, 0x0, 0x0, 0x0, 0x0, 0x0, .single, none⟩,
   ⟨0x53018, 0x40, 4, 0x4, 1, 0x0, 0x0, 0x0, 0xFFFFFFFF, 0x0, .single, none⟩,
   ⟨0x5301C, 0x40, 4, 0x4, 1, 0x0, 0xFFFFFFFF, 0x0, 0x0, 0x0, .single, none⟩]

/-- The register map of the RTC unit. -/
def regRowsRTC : List RegRow :=
  [⟨0x40000, 0x4, 1, 0x4, 1, 0x0, 0x3F, 0x0, 0x0, 0xB, .single, none⟩,
   ⟨0x40004, 0x4, 1, 0x4, 1, 0x400, 0x0, 0xF00, 0x0, 0x0, .single, none⟩,
   ⟨0x40010, 0x4, 1, 0x4, 1, 0x0, 0x0, 0x0, 0x0, 0x0, .low, none⟩,
   ⟨0x40014, 0x4, 1, 0x4, 1, 0x0, 0x0, 0x0, 0x0, 0x0, .high, none⟩,
   ⟨0x40018, 0x4, 1, 0x4, 1, 0x0, 0xFFFFFFFF, 0x0, 0x0, 0x0, .low, none⟩,
   ⟨0x4001C, 0x4, 1, 0x4, 1, 0x0, 0xFFFFFFFF, 0x0, 0x0, 0x0, .high, none⟩,
   ⟨0x40020, 0x4, 1, 0x4, 1, 0xFFFFFFFF, 0xFFFFFFFF, 0x0, 0x0, 0x0, .low, none⟩,
   ⟨0x40024, 0x4, 1, 0x4, 1, 0xFFFFFFFF, 0xFFFFFFFF, 0x0, 0x0, 0x0, .high, none⟩,
   ⟨0x40028, 0x4, 1, 0x4, 1, 0xF00, 0x11FFF, 0x0, 0x0, 0x0, .single, none⟩,
   ⟨0x40030, 0x4, 1, 0x4, 1, 0x0, 0x0, 0x0, 0x0, 0x0, .single, none⟩,
   ⟨0x40034, 0x4, 1, 0x4, 1, 0x0, 0x0, 0x0, 0x0, 0x0, .single, none⟩,
   ⟨0x40038, 0x4, 1, 0x4, 1, 0x0, 0x0, 0x0, 0x0, 0x0, .single, none⟩,
   ⟨0x4003C, 0x4, 1, 0x4, 1, 0x0, 0x0, 0x0, 0x0, 0x0, .single, none⟩,
   ⟨0x40040, 0x4, 8, 0x4, 1, 0x0, 0xFFFFFFFF, 0x0, 0x0, 0xFFFFFFFF, .single, none⟩]

/-- The register map of the MAC unit. -/
def regRowsMAC : List RegRow :=
  [⟨0x60000, 0x10000, 4, 0x4, 1, 0x80, 0x3FF, 0x0, 0x0, 0x3F1, .single, none⟩,
   ⟨0x60004, 0x10000, 4, 0x4, 1, 0x0, 0x0, 0x700, 0x0, 0x0, .single, none⟩,
   ⟨0x60008, 0x10000, 4, 0x4, 1, 0x5F2, 0x3FFF, 0x0, 0x0, 0x0, .single, none⟩,
   ⟨0x60010, 0x10000, 4, 0x4, 1, 0x0, 0xFFFFFFFF, 0x0, 0x0, 0x0, .low, none⟩,
   ⟨0x60014, 0x10000, 4, 0x4, 1, 0x0, 0xFFFF, 0x0, 0x0, 0x0, .high, none⟩,
   ⟨0x60020, 0x10000, 4, 0x4, 8, 0x0, 0xFFFFFFFF, 0x0, 0x0, 0xFFFFFFFF, .single, none⟩,
   ⟨0x60100, 0x10000, 4, 0x8, 13, 0x0, 0xFFFFFFFF, 0x0, 0x0, 0x0, .low, none⟩,
   ⟨0x60104, 0x10000, 4, 0x8, 13, 0x0, 0xFFFFFFFF, 0x0, 0x0, 0x0, .high, none⟩]

/-- The register map of the T1S unit. -/
def regRowsT1S : List RegRow :=
  [⟨0xA0000, 0x4, 1, 0x4, 1, Config.uidLo, 0xFFFFFFFF, 0x0, 0x0, 0x0, .single, none⟩,
   ⟨0xA0100, 0x40, 4, 0x4, 1, 0x1008, 0x1F1F, 0x0, 0x0, 0x1F, .single, none⟩,
   ⟨0xA0104, 0x40, 4, 0x4, 1, 0x0, 0x0, 0x700, 0x0, 0x0, .single, none⟩,
   ⟨0xA0108, 0x40, 4, 0x4, 1, 0x0, 0xFFFFFFFF, 0x0, 0x0, 0x0, .low, none⟩,
   ⟨0xA010C, 0x40, 4, 0x4, 1, 0x0, 0xFFFF, 0x0, 0x0, 0x0, .high, none⟩,
   ⟨0xA0110, 0x40, 4, 0x4, 7, 0x0, 0xFFFFFFFF, 0x0, 0x0, 0x0, .single, none⟩]

/-- The register map of the PRP unit. -/
def regRowsPRP : List RegRow :=
  [⟨0xB0100, 0x80, 2, 0x4, 1, 0x400000, 0x7F0003, 0x0, 0x0, 0x2, .single, none⟩,
   ⟨0xB0104, 0x80, 2, 0x4, 1, 0x0, 0x0, 0x300, 0x0, 0x0, .single, none⟩,
   ⟨0xB0108, 0x80, 2, 0x4, 1, 0x0, 0xFFFF, 0x0, 0x0, 0x0, .single, none⟩,
   ⟨0xB010C, 0x80, 2, 0x4, 1, 0x190, 0xFFFF, 0x0, 0x0, 0x0, .single, none⟩,
   ⟨0xB0110, 0x80, 2, 0x4, 1, 0x3E8, 0xFFFF, 0x0, 0x0, 0x0, .single, none⟩,
   ⟨0xB0114, 0x80, 2, 0x4, 1, 0x0, 0x0, 0x0, 0x0, 0x0, .single, none⟩,
   ⟨0xB0120, 0x80, 2, 0x4, 8, 0x0, 0xFFFFFFFF, 0x0, 0x0, 0x0, .single, none⟩]

/-- The register map of the ITK unit. -/
def regRowsITK : List RegRow :=
  [⟨0xE0000, 0x4, 1, 0x4, 1, 0x0, 0x1F, 0x0, 0x0, 0x1F, .single, none⟩,
   ⟨0xE0004, 0x4, 1, 0x4, 1, 0x0, 0x0, 0xF, 0x0, 0x0, .single, none⟩,
   ⟨0xE0008, 0x4, 1, 0x4, 1, 0x661269, 0xFFFFFFFF, 0x0, 0x0, 0x0, .single, none⟩,
   ⟨0xE000C, 0x4, 1, 0x4, 1, 0x0, 0x3FFF000F, 0x0, 0x0, 0x0, .single, none⟩,
   ⟨0xE0010, 0x4, 1, 0x4, 1, 0x0, 0x0, 0x0, 0x0, 0x0, .single, none⟩,
   ⟨0xE0014, 0x4, 1, 0x4, 1, 0x0, 0x0, 0x0, 0x0, 0x0, .single, none⟩,
   ⟨0xE0020, 0x4, 1, 0x4, 1, 0x0, 0x0, 0x0, 0x0, 0x0, .single, none⟩,
   ⟨0xE0024, 0x4, 1, 0x4, 1, 0x0, 0x0, 0x0, 0x0, 0x0, .single, none⟩,
   ⟨0xE0040, 0x4, 11, 0x4, 1, 0x0, 0xFFFFFFFF, 0x0, 0x0, 0x0, .single, none⟩,
   ⟨0xE0400, 0x8, 256, 0x4, 1, 0x0, 0xFFFFFFFF, 0x0, 0x0, 0x0, .single, none⟩,
   ⟨0xE0404, 0x8, 256, 0x4, 1, 0x0, 0x800000FF, 0x0, 0x0, 0x0, .single, none⟩,
   ⟨0xE1000, 0x20, 64, 0x4, 4, 0x0, 0xFFFFFFFF, 0x0, 0x0, 0x0, .single, none⟩,
   ⟨0xE1010, 0x20, 64, 0x4, 1, 0x0, 0xFFFFFFFF, 0x0, 0x0, 0x0, .single, none⟩,
   ⟨0xE1014, 0x20, 64, 0x4, 1, 0x0, 0x7, 0x0, 0x0, 0x0, .single, none⟩,
   ⟨0xE1018, 0x20, 64, 0x4, 1, 0x0, 0xFFFFFFFF, 0x0, 0x0, 0x0, .single, none⟩]

/-- The register map of the RCL unit. -/
def regRowsRCL : List RegRow :=
  [⟨0xF0000, 0x4, 1, 0x4, 1, 0x0, 0x3, 0x0, 0x0, 0x3, .single, none⟩,
   ⟨0xF0004, 0x4, 1, 0x4, 1, 0x0, 0x0, 0x1F, 0x0, 0x0, .single, none⟩,
   ⟨0xF0008, 0x4, 1, 0x4, 1, 0x0, 0x3FFFFF1F, 0x0, 0x0, 0x0, .single, none⟩,
   ⟨0xF000C, 0x4, 1, 0x4, 1, 0x0, 0x0, 0x0, 0x0, 0x0, .single, none⟩,
   ⟨0xF0010, 0x4, 1, 0x4, 1, 0x0, 0x0, 0x0, 0x0, 0x0, .single, none⟩,
   ⟨0xF0014, 0x4, 1, 0x4, 1, 0x0, 0x0, 0x0, 0x0, 0x0, .single, none⟩,
   ⟨0xF0040, 0x4, 12, 0x4, 1, 0x0, 0xFFFFFFFF, 0x0, 0x0, 0x0, .single, none⟩,
   ⟨0xF1000, 0x20, 256, 0x4, 1, 0x114400, 0x3FFFFFFF, 0x0, 0x0, 0x0, .single, none⟩,
   ⟨0xF1004, 0x20, 256, 0x4, 1, 0x2710, 0x3FFFFF, 0x0, 0x0, 0x0, .single, none⟩,
   ⟨0xF1008, 0x20, 256, 0x4, 1, 0x640000, 0x7FFFFFF, 0x0, 0x0, 0x0, .single, none⟩,
   ⟨0xF100C, 0x20, 256, 0x4, 1, 0x0, 0x0, 0x0, 0x0, 0x0, .single, none⟩,
   ⟨0xF1010, 0x20, 256, 0x4, 1, 0x0, 0xFFFFF000, 0x0, 0x0, 0x0, .low, none⟩,
   ⟨0xF1014, 0x20, 256, 0x4, 1, 0x0, 0x3, 0x0, 0x0, 0x0, .high, none⟩,
   ⟨0xF1018, 0x20, 256, 0x4, 1, 0x0, 0x0, 0x0, 0x0, 0x0, .single, none⟩,
   ⟨0xF101C, 0x20, 256, 0x4, 1, 0x0, 0xFFFFFFFF, 0x0, 0x0, 0x0, .single, none⟩,
   ⟨0xF3000, 0x20, 128, 0x4, 1, 0x2A0, 0xFFFFF7, 0x0, 0x0, 0x1, .single, none⟩,
   ⟨0xF3004, 0x20, 128, 0x4, 1, 0x0, 0x7FFF7FFF, 0x0, 0x0, 0x0, .single, none⟩,
   ⟨0xF3008, 0x20, 128, 0x4, 1, 0x220E0000, 0xFFFFFFFF, 0x0, 0x0, 0x0, .single, none⟩,
   ⟨0xF300C, 0x20, 128, 0x4, 1, 0xF4240, 0xFFFFFF, 0x0, 0x0, 0x0, .single, none⟩,
   ⟨0xF3010, 0x20, 128, 0x4, 1, 0x0, 0xFFFFFFC0, 0x0, 0x0, 0x0, .low, none⟩,
   ⟨0xF3014, 0x20, 128, 0x4, 1, 0x0, 0x3, 0x0, 0x0, 0x0, .high, none⟩,
   ⟨0xF3018, 0x20, 128, 0x4, 1, 0x0, 0xFFFF00FF, 0x0, 0x0, 0x0, .single, none⟩,
   ⟨0xF301C, 0x20, 128, 0x4, 1, 0x0, 0xFFFFFFFF, 0x0, 0x0, 0x0, .single, none⟩]

/-- The register map of the FAB unit. -/
def regRowsFAB : List RegRow :=
  [⟨0x100000, 0x200, 32, 0x4, 1, 0x3000, 0x3FFF, 0x0, 0x0, 0x3FFF, .single, none⟩,
   ⟨0x100004, 0x200, 32, 0x4, 1, 0x0, 0x0, 0x7, 0x0, 0x0, .single, none⟩,
   ⟨0x100008, 0x200, 32, 0x4, 1, 0xA, 0x3FF, 0x0, 0x0, 0x0, .single, none⟩,
   ⟨0x10000C, 0x200, 32, 0x4, 1, 0x0, 0x0, 0x0, 0x0, 0x0, .single, none⟩,
   ⟨0x100010, 0x200, 32, 0x4, 1, 0x0, 0x0, 0x0, 0x0, 0x0, .single, none⟩,
   ⟨0x100014, 0x200, 32, 0x4, 1, 0x0, 0x0, 0x0, 0x0, 0x0, .single, none⟩,
   ⟨0x100018, 0x200, 32, 0x4, 1, 0x0, 0x1, 0x0, 0x0, 0x0, .single, none⟩,
   ⟨0x10001C, 0x200, 32, 0x4, 1, 0x0, 0x0, 0x0, 0x0, 0x0, .single, none⟩,
   ⟨0x100020, 0x200, 32, 0x4, 1, 0x0, 0x0, 0x0, 0x0, 0x0, .single, none⟩,
   ⟨0x100024, 0x200, 32, 0x4, 1, 0x0, 0x0, 0x0, 0x0, 0x0, .single, none⟩,
   ⟨0x100028, 0x200, 32, 0x4, 1, 0x0, 0x0, 0x0, 0x0, 0x0, .single, none⟩,
   ⟨0x10002C, 0x200, 32, 0x4, 1, 0x0, 0x0, 0x0, 0x0, 0x0, .single, none⟩,
   ⟨0x100030, 0x200, 32, 0x4, 1, 0x0, 0x0, 0x0, 0x0, 0x0, .single, none⟩,
   ⟨0x100034, 0x200, 32, 0x4, 1, 0x0, 0x0, 0x0, 0x0, 0x0, .single, none⟩,
   ⟨0x100040, 0x200, 32, 0x4, 4, 0x0, 0xFFFFFFFF, 0x0, 0x0, 0x0, .single, none⟩,
   ⟨0x100050, 0x200, 32, 0x4, 1, 0x0, 0xFFFFFFFF, 0x0, 0x0, 0x0, .single, none⟩,
   ⟨0x100054, 0x200, 32, 0x4, 1, 0x0, 0xFFFFFFFF, 0x0, 0x0, 0x0, .single, none⟩,
   ⟨0x100060, 0x200, 32, 0x4, 5, 0x0, 0x0, 0x0, 0x0, 0x0, .single, none⟩,
   ⟨0x100080, 0x200, 32, 0x4, 32, 0xFFFFFFFF, 0x0, 0x0, 0x0, 0x0, .single, none⟩]

/-- The register map of the ANA unit. -/
def regRowsANA : List RegRow :=
  [⟨0x110000, 0x4, 1, 0x4, 1, 0x0, 0x3, 0x0, 0x0, 0x3, .single, none⟩,
   ⟨0x110004, 0x4, 1, 0x4, 1, 0x0, 0x0, 0x3F, 0x0, 0x0, .single, none⟩,
   ⟨0x110008, 0x4, 1, 0x4, 1, 0x0, 0x3F03, 0x0, 0x0, 0x0, .single, none⟩,
   ⟨0x11000C, 0x4, 1, 0x4, 1, 0x0, 0xFFFFFFFF, 0x0, 0x0, 0x0, .single, none⟩,
   ⟨0x110010, 0x4, 1, 0x4, 1, 0x0, 0x0, 0x0, 0x0, 0x0, .single, none⟩,
   ⟨0x110014, 0x4, 1, 0x4, 1, 0x0, 0x0, 0x0, 0x0, 0x0, .single, none⟩,
   ⟨0x110018, 0x4, 1, 0x4, 1, 0x0, 0x0, 0xFFFF, 0x0, 0x0, .single, none⟩,
   ⟨0x110020, 0x4, 1, 0x4, 1, 0x2A00, 0xFF1F, 0x0, 0x0, 0x0, .single, none⟩,
   ⟨0x110024, 0x4, 1, 0x4, 1, 0x0, 0xFFFF00FF, 0x0, 0x0, 0x0, .single, none⟩,
   ⟨0x110028, 0x4, 1, 0x4, 1, 0x220E0000, 0xFFFF0000, 0x0, 0x0, 0x0, .single, none⟩,
   ⟨0x110030, 0x4, 1, 0x4, 1, 0x0, 0xFFFFFFC0, 0x0, 0x0, 0x0, .low, none⟩,
   ⟨0x110034, 0x4, 1, 0x4, 1, 0x0, 0x3, 0x0, 0x0, 0x0, .high, none⟩,
   ⟨0x110040, 0x4, 8, 0x4, 1, 0x0, 0x0, 0x0, 0x0, 0x0, .single, none⟩,
   ⟨0x110060, 0x4, 8, 0x4, 1, 0xFFFFFFFF, 0x0, 0x0, 0x0, 0x0, .single, none⟩,
   ⟨0x110080, 0x4, 8, 0x4, 1, 0x0, 0xFFFFFFFF, 0x0, 0x0, 0x0, .single, none⟩,
   ⟨0x110400, 0x40, 16, 0x4, 1, 0x0, 0x3F, 0x0, 0x0, 0x5, .single, none⟩,
   ⟨0x110404, 0x40, 16, 0x4, 1, 0x0, 0x0, 0x0, 0x0, 0x0, .single, none⟩,
   ⟨0x110408, 0x40, 16, 0x4, 8, 0x0, 0xFFFFFFFF, 0x0, 0x0, 0xFFFFFFFF, .single, none⟩,
   ⟨0x111000, 0x80, 64, 0x4, 1, 0, 0x0, 0x0, 0x0, 0x0, .single, none⟩,
   ⟨0x111004, 0x80, 64, 0x4, 1, 0, 0x0, 0x0, 0x0, 0x0, .single, none⟩,
   ⟨0x111008, 0x80, 64, 0x4, 1, 0x0, 0xFFFF001F, 0x0, 0x0, 0xF, .single, none⟩,
   ⟨0x11100C, 0x80, 64, 0x4, 1, 0, 0x0, 0x0, 0x0, 0x0, .single, none⟩,
   ⟨0x111010, 0x80, 64, 0x4, 1, 0x0, 0xFFFFFFC0, 0x0, 0x0, 0x0, .low, none⟩,
   ⟨0x111014, 0x80, 64, 0x4, 1, 0x0, 0x3, 0x0, 0x0, 0x0, .high, none⟩,
   ⟨0x111018, 0x80, 64, 0x4, 1, 0x0, 0xFFFFFFC0, 0x0, 0x0, 0x0, .low, none⟩,
   ⟨0x11101C, 0x80, 64, 0x4, 1, 0x0, 0x3, 0x0, 0x0, 0x0, .high, none⟩,
   ⟨0x111020, 0x80, 64, 0x4, 1, 0x0, 0xFFFFF00F, 0x0, 0x0, 0x0, .low, none⟩,
   ⟨0x111024, 0x80, 64, 0x4, 1, 0x0, 0x3, 0x0, 0x0, 0x0, .high, none⟩,
   ⟨0x111028, 0x80, 64, 0x4, 7, 0x0, 0xFFFFFFFF, 0x0, 0x0, 0x0, .single, none⟩,
   ⟨0x111044, 0x80, 64, 0x4, 1, 0x0, 0x0, 0x0, 0x0, 0x0, .single, none⟩,
   ⟨0x111048, 0x80, 64, 0x4, 1, 0x0, 0x0, 0x0, 0x0, 0x0, .single, none⟩,
   ⟨0x11104C, 0x80, 64, 0x4, 1, 0x0, 0xFFFFFFFF, 0x0, 0x0, 0x0, .single, none⟩,
   ⟨0x111050, 0x80, 64, 0x4, 1, 0x0, 0x0, 0x0, 0x0, 0x0, .single, none⟩,
   ⟨0x111054, 0x80, 64, 0x4, 1, 0x0, 0x0, 0x0, 0x0, 0x0, .single, none⟩,
   ⟨0x111058, 0x80, 64, 0x4, 1, 0x0, 0x0, 0x0, 0x0, 0x0, .single, none⟩,
   ⟨0x11105C, 0x80, 64, 0x4, 1, 0x0, 0x0, 0x0, 0x0, 0x0, .single, none⟩,
   ⟨0x111060, 0x80, 64, 0x4, 1, 0x0, 0x0, 0x0, 0x0, 0x0, .single, none⟩]

/-- The register map of the ACQ unit. -/
def regRowsACQ : List RegRow :=
  [⟨0x120000, 0x4, 1, 0x4, 1, 0x0, 0xF, 0x0, 0x0, 0x0, .single, none⟩,
   ⟨0x120004, 0x4, 1, 0x4, 1, 0, 0x0, 0x100, 0x0, 0x0, .single, none⟩,
   ⟨0x121000, 0x10, 12, 0x4, 1, 0x0, 0x7FFF03, 0x0, 0x0, 0xFF01, .single, none⟩,
   ⟨0x121004, 0x10, 12, 0x4, 1, 0x0, 0x0, 0xFFFF0000, 0x0, 0x0, .single, none⟩,
   ⟨0x121008, 0x10, 12, 0x4, 1, 0x73333333, 0x7FFFFFFF, 0x0, 0x0, 0x0, .single, none⟩,
   ⟨0x12100C, 0x10, 12, 0x4, 1, 0x0, 0xFFFFFFFF, 0x0, 0x0, 0x0, .single, none⟩]

/-- The register map of the FLT unit. -/
def regRowsFLT : List RegRow :=
  [⟨0x130000, 0x4, 1, 0x4, 1, 0x0, 0x0, 0x3, 0x0, 0x0, .single, none⟩,
   ⟨0x130010, 0x4, 3, 0x4, 1, 0x0, 0x0, 0x0, 0x0, 0x0, .single, none⟩,
   ⟨0x130020, 0x4, 3, 0x4, 1, 0x0, 0x0, 0x0, 0x0, 0x0, .single, none⟩,
   ⟨0x130030, 0x4, 3, 0x4, 1, 0x0, 0xFFFFFFFF, 0x0, 0x0, 0xFFFFFFFF, .single, none⟩,
   ⟨0x130040, 0x4, 1, 0x4, 1, 0x0, 0x1F, 0x0, 0x0, 0x0, .single, none⟩,
   ⟨0x130044, 0x4, 1, 0x4, 1, 0x0, 0x0, 0x0, 0x0, 0x0, .single, none⟩,
   ⟨0x130048, 0x4, 1, 0x4, 1, 0x0, 0x0, 0x0, 0x0, 0x0, .single, none⟩,
   ⟨0x13004C, 0x4, 1, 0x4, 1, 0x0, 0x0, 0x0, 0x0, 0x0, .single, none⟩,
   ⟨0x130100, 0x4, 23, 0x4, 1, 0, 0x0, 0x0, 0x0, 0x0, .single, none⟩,
   ⟨0x131000, 0x10, 96, 0x4, 1, 0x0, 0xFFFF0001, 0x0, 0x0, 0x0, .single, none⟩,
   ⟨0x131004, 0x10, 96, 0x4, 1, 0x0, 0xFFFFFFFF, 0x0, 0x0, 0x0, .single, none⟩,
   ⟨0x131008, 0x10, 96, 0x4, 1, 0x3F800000, 0xFFFFFFFF, 0x0, 0x0, 0x0, .single, none⟩,
   ⟨0x13100C, 0x10, 96, 0x4, 1, 0x0, 0xFF7F7F7F, 0x0, 0x0, 0x0, .single, none⟩]

/-- The register map of the PHS unit. -/
def regRowsPHS : List RegRow :=
  [⟨0x140000, 0x4, 1, 0x4, 1, 0x700, 0x701, 0x0, 0x0, 0x0, .single, none⟩,
   ⟨0x140004, 0x4, 1, 0x4, 1, 0x0, 0x0, 0x3, 0x0, 0x0, .single, none⟩,
   ⟨0x140008, 0x4, 1, 0x4, 1, 0x0, 0x0, 0x0, 0x0, 0x0, .single, none⟩,
   ⟨0x141000, 0x40, 12, 0x4, 1, 0xFF0000, 0xFF3F3F, 0x0, 0x0, 0x3801, .single, none⟩,
   ⟨0x141004, 0x40, 12, 0x4, 1, 0x28, 0xFF, 0x0, 0x0, 0x0, .single, none⟩,
   ⟨0x141008, 0x40, 12, 0x4, 1, 0x40A00000, 0xFFFFFFFF, 0x0, 0x0, 0x0, .single, none⟩,
   ⟨0x14100C, 0x40, 12, 0x4, 1, 0x40000000, 0xFFFFFFFF, 0x0, 0x0, 0x0, .single, none⟩,
   ⟨0x141010, 0x40, 12, 0x4, 1, 0x41200000, 0xFFFFFFFF, 0x0, 0x0, 0x0, .single, none⟩,
   ⟨0x141014, 0x40, 12, 0x4, 1, 0x0, 0x0, 0x0, 0x0, 0x0, .single, none⟩,
   ⟨0x141018, 0x40, 12, 0x4, 1, 0x0, 0x0, 0x0, 0x0, 0x0, .single, none⟩,
   ⟨0x14101C, 0x40, 12, 0x4, 1, 0x0, 0xFFFFFFFF, 0x0, 0x0, 0x0, .single, none⟩,
   ⟨0x141020, 0x40, 12, 0x4, 1, 0x0, 0xFFFFFFFF, 0x0, 0x0, 0x0, .single, none⟩,
   ⟨0x141028, 0x40, 12, 0x4, 1, 0x0, 0x0, 0x0, 0x0, 0x0, .single, none⟩,
   ⟨0x14102C, 0x40, 12, 0x4, 1, 0x0, 0x0, 0x0, 0x0, 0x0, .single, none⟩,
   ⟨0x141030, 0x40, 12, 0x4, 1, 0x0, 0x0, 0x0, 0x0, 0x0, .single, none⟩,
   ⟨0x141034, 0x40, 12, 0x4, 1, 0x0, 0x0, 0x0, 0x0, 0x0, .single, none⟩,
   ⟨0x141038, 0x40, 12, 0x4, 1, 0x0, 0x0, 0x0, 0x0, 0x0, .single, none⟩]

/-- The register map of the NRG unit. -/
def regRowsNRG : List RegRow :=
  [⟨0x150000, 0x4, 1, 0x4, 1, 0x384, 0x1FFF, 0x0, 0x0, 0x1000, .single, none⟩,
   ⟨0x150004, 0x4, 1, 0x4, 1, 0x0, 0x0, 0x3F, 0x0, 0x0, .single, none⟩,
   ⟨0x150008, 0x4, 1, 0x4, 1, 0x0, 0xFFF0007, 0x0, 0x0, 0x0, .single, none⟩,
   ⟨0x15000C, 0x4, 1, 0x4, 1, 0x0, 0x0, 0x0, 0x0, 0x0, .single, none⟩,
   ⟨0x150010, 0x4, 1, 0x4, 1, 0x0, 0x0, 0x0, 0x0, 0x0, .single, none⟩,
   ⟨0x150014, 0x4, 1, 0x4, 1, 0x0, 0x0, 0x0, 0x0, 0x0, .single, none⟩,
   ⟨0x150020, 0x4, 1, 0x4, 1, 0x0, 0x0, 0x0, 0x0, 0x0, .single, none⟩,
   ⟨0x150024, 0x4, 1, 0x4, 1, 0x0, 0x0, 0x0, 0x0, 0x0, .single, none⟩,
   ⟨0x150028, 0x4, 1, 0x4, 1, 0x0, 0x0, 0x0, 0x0, 0x0, .single, none⟩,
   ⟨0x150040, 0x4, 4, 0x4, 1, 0x3E80000, 0xFFFF07FF, 0x0, 0x0, 0x0, .single, none⟩,
   ⟨0x150050, 0x8, 4, 0x4, 1, 0x0, 0xFFFFFFFF, 0x0, 0x0, 0x0, .low, none⟩,
   ⟨0x150054, 0x8, 4, 0x4, 1, 0x0, 0xFFFFFFFF, 0x0, 0x0, 0x0, .high, none⟩,
   ⟨0x150070, 0x4, 4, 0x4, 1, 0x0, 0xFFFFFFFF, 0x0, 0x0, 0x0, .single, none⟩,
   ⟨0x151000, 0x40, 12, 0x4, 1, 0xA00, 0x3FFF7F, 0x0, 0x0, 0x79, .single, none⟩,
   ⟨0x151004, 0x40, 12, 0x4, 1, 0x0, 0x0, 0x0, 0x0, 0x0, .single, none⟩,
   ⟨0x151008, 0x40, 12, 0x4, 1, 0x41200000, 0xFFFFFFFF, 0x0, 0x0, 0x0, .single, none⟩,
   ⟨0x15100C, 0x40, 12, 0x4, 1, 0x3E4CCCCD, 0xFFFFFFFF, 0x0, 0x0, 0x0, .single, none⟩,
   ⟨0x151010, 0x40, 12, 0x4, 1, 0x447A0000, 0xFFFFFFFF, 0x0, 0x0, 0x0, .single, none⟩,
   ⟨0x151014, 0x40, 12, 0x4, 1, 0x0, 0xFFFFFFFF, 0x0, 0x0, 0x0, .single, none⟩,
   ⟨0x151018, 0x40, 12, 0x4, 1, 0x0, 0xFFFFFFFF, 0x0, 0x0, 0x0, .single, none⟩,
   ⟨0x15101C, 0x40, 12, 0x4, 1, 0x0, 0xFFFFFFFF, 0x0, 0x0, 0x0, .single, none⟩]

/-- The register map of the TRG unit. -/
def regRowsTRG : List RegRow :=
  [⟨0x160000, 0x4, 1, 0x4, 1, 0x0, 0x3, 0x0, 0x0, 0x0, .single, none⟩,
   ⟨0x160004, 0x4, 1, 0x4, 1, 0x0, 0x0, 0x3, 0x0, 0x0, .single, none⟩,
   ⟨0x160008, 0x4, 1, 0x4, 1, 0x3E8, 0x3FFF, 0x0, 0x0, 0x0, .single, none⟩,
   ⟨0x160010, 0x4, 2, 0x4, 1, 0x0, 0x0, 0xFFFFFFFF, 0x0, 0x0, .single, none⟩,
   ⟨0x160020, 0x4, 1, 0x4, 1, 0x400001, 0x3FFF03FF, 0x0, 0x0, 0x0, .single, none⟩,
   ⟨0x160024, 0x4, 1, 0x4, 1, 0x0, 0x7, 0x0, 0x0, 0x0, .single, none⟩,
   ⟨0x160028, 0x4, 1, 0x4, 1, 0x0, 0x0, 0x0, 0x0, 0x0, .single, none⟩,
   ⟨0x16002C, 0x4, 1, 0x4, 1, 0xA, 0xFFFF, 0x0, 0x0, 0x0, .single, none⟩,
   ⟨0x160030, 0x4, 1, 0x4, 1, 0x0, 0x0, 0x0, 0x0, 0x0, .single, none⟩,
   ⟨0x160040, 0x4, 8, 0x4, 1, 0x0, 0xFFFFFFFF, 0x0, 0x0, 0x0, .single, none⟩,
   ⟨0x160100, 0x4, 96, 0x4, 1, 0x1010, 0x7FFFF1FF, 0x0, 0x0, 0x1, .single, none⟩,
   ⟨0x160400, 0x20, 16, 0x4, 1, 0x0, 0xFF07, 0x0, 0x0, 0x1, .single, none⟩,
   ⟨0x160404, 0x20, 16, 0x4, 1, 0x0, 0x0, 0x0, 0x0, 0x0, .single, none⟩,
   ⟨0x160408, 0x20, 16, 0x4, 1, 0x0, 0x0, 0x0, 0x0, 0x0, .single, none⟩,
   ⟨0x16040C, 0x20, 16, 0x4, 1, 0x0, 0x0, 0x0, 0x0, 0x0, .single, none⟩,
   ⟨0x160410, 0x20, 16, 0x4, 1, 0x0, 0x0, 0x0, 0x0, 0x0, .single, none⟩,
   ⟨0x160414, 0x20, 16, 0x4, 1, 0x0, 0x0, 0x0, 0x0, 0x0, .single, none⟩,
   ⟨0x161000, 0x20, 64, 0x4, 1, 0x0, 0x7F, 0x0, 0x0, 0x71, .single, none⟩,
   ⟨0x161004, 0x20, 64, 0x4, 1, 0x0, 0xFFFF07, 0x0, 0x0, 0x0, .single, none⟩,
   ⟨0x161008, 0x20, 64, 0x4, 1, 0x0, 0xFFFFFFFF, 0x0, 0x0, 0x0, .single, none⟩,
   ⟨0x16100C, 0x20, 64, 0x4, 1, 0x0, 0xFFFFFFFF, 0x0, 0x0, 0x0, .single, none⟩,
   ⟨0x161010, 0x20, 64, 0x4, 1, 0x0, 0xFFFFFF, 0x0, 0x0, 0x0, .single, none⟩,
   ⟨0x161014, 0x20, 64, 0x4, 1, 0x0, 0xFFFFFFFF, 0x0, 0x0, 0x0, .single, none⟩]

/-- The register map of the SCH unit. -/
def regRowsSCH : List RegRow :=
  [⟨0xD0000, 0x4, 1, 0x4, 1, 0x0, 0x1, 0x0, 0x0, 0x1, .single, none⟩,
   ⟨0xD0004, 0x4, 1, 0x4, 1, 0x0, 0x0, 0x7, 0x0, 0x0, .single, none⟩,
   ⟨0xD0008, 0x4, 1, 0x4, 1, 0x64, 0x3FFF, 0x0, 0x0, 0x0, .single, none⟩,
   ⟨0xD000C, 0x4, 1, 0x4, 1, 0x0, 0xFFFFF007, 0x0, 0x0, 0x0, .single, none⟩,
   ⟨0xD0010, 0x4, 1, 0x4, 1, 0x7, 0xFFFF003F, 0x0, 0x0, 0x0, .single, none⟩,
   ⟨0xD0014, 0x4, 1, 0x4, 1, 0x0, 0xFFFFFFFF, 0x0, 0x0, 0x0, .single, none⟩,
   ⟨0xD0018, 0x4, 1, 0x4, 1, 0x0, 0xFFFFFFFF, 0x0, 0x0, 0x0, .single, none⟩,
   ⟨0xD001C, 0x4, 1, 0x4, 1, 0x0, 0x0, 0x0, 0x0, 0x0, .single, none⟩,
   ⟨0xD0020, 0x4, 1, 0x4, 1, 0x0, 0x0, 0x0, 0x0, 0x0, .single, none⟩,
   ⟨0xD0024, 0x4, 1, 0x4, 1, 0x0, 0x0, 0x0, 0x0, 0x0, .single, none⟩,
   ⟨0xD0028, 0x4, 1, 0x4, 1, 0x0, 0xFFFFF, 0x0, 0x0, 0x0, .single, none⟩,
   ⟨0xD002C, 0x4, 1, 0x4, 1, 0x0, 0x0, 0x0, 0xFFFFFFFF, 0x0, .single, none⟩,
   ⟨0xD0030, 0x4, 1, 0x4, 1, 0x0, 0xFFF, 0x0, 0x0, 0x0, .single, none⟩,
   ⟨0xD0034, 0x4, 1, 0x4, 1, 0x0, 0x0, 0x0, 0x0, 0x0, .single, none⟩,
   ⟨0xD0038, 0x4, 1, 0x4, 1, 0x0, 0x0, 0x0, 0x0, 0x0, .single, none⟩,
   ⟨0xD0040, 0x4, 1, 0x4, 1, 0x0, 0xFFFFF, 0x0, 0x0, 0x0, .single, none⟩,
   ⟨0xD0044, 0x4, 1, 0x4, 1, 0x0, 0xFFFFFFFF, 0x0, 0x0, 0x0, .single, none⟩,
   ⟨0xD0048, 0x4, 1, 0x4, 1, 0x0, 0x3FFFFFFF, 0x0, 0x0, 0x0, .single, none⟩,
   ⟨0xD004C, 0x4, 1, 0x4, 1, 0x0, 0xFFFFFFFF, 0x0, 0x0, 0x0, .single, none⟩,
   ⟨0xD0050, 0x4, 1, 0x4, 1, 0x0, 0x7FFFF, 0x0, 0x0, 0x0, .single, none⟩,
   ⟨0xD0054, 0x4, 1, 0x4, 1, 0x0, 0x7, 0x0, 0x0, 0x0, .single, none⟩,
   ⟨0xD0058, 0x4, 1, 0x4, 1, 0x0, 0x0, 0x0, 0x0, 0x0, .single, none⟩,
   ⟨0xD005C, 0x4, 1, 0x4, 1, 0x0, 0x0, 0x0, 0x0, 0x0, .single, none⟩,
   ⟨0xD0060, 0x4, 8, 0x4, 1, 0x0, 0xFFFFFFFF, 0x0, 0x0, 0x0, .single, none⟩,
   ⟨0xD0100, 0x4, 32, 0x4, 1, 0x0, 0x0, 0x0, 0x0, 0x0, .single, none⟩,
   ⟨0xD0180, 0x4, 32, 0x4, 1, 0x0, 0x0, 0x0, 0x0, 0x0, .single, none⟩]

/-- The register map of the RNG unit. -/
def regRowsRNG : List RegRow :=
  [⟨0xC0000, 0x4, 1, 0x4, 1, 0x0, 0x0, 0x80000000, 0x0, 0x0, .single, none⟩,
   ⟨0xC0008, 0x4, 1, 0x4, 1, 0x0, 0x0, 0x0, 0x0, 0x0, .low, none⟩,
   ⟨0xC000C, 0x4, 1, 0x4, 1, 0x0, 0x0, 0x0, 0x0, 0x0, .high, none⟩,
   ⟨0xC0010, 0x4, 1, 0x4, 1, 0x0, 0x0, 0x0, 0x0, 0x0, .single, none⟩,
   ⟨0xC1000, 0x40, 32, 0x4, 1, 0xC, 0xF3F, 0x0, 0x0, 0x1, .single, none⟩,
   ⟨0xC1004, 0x40, 32, 0x4, 1, 0x0, 0x0, 0x700, 0x0, 0x0, .single, none⟩,
   ⟨0xC1008, 0x40, 32, 0x4, 1, 0x0, 0xFFFFFFC0, 0x0, 0x0, 0x0, .low, none⟩,
   ⟨0xC100C, 0x40, 32, 0x4, 1, 0x0, 0xFFFFFFFF, 0x0, 0x0, 0x0, .high, none⟩,
   ⟨0xC1010, 0x40, 32, 0x4, 1, 0x0, 0xFFFF, 0x0, 0x0, 0x0, .single, none⟩,
   ⟨0xC1014, 0x40, 32, 0x4, 1, 0x0, 0xFFFF, 0x0, 0x0, 0x0, .single, none⟩,
   ⟨0xC1018, 0x40, 32, 0x4, 1, 0x1, 0xFFFFFFFF, 0x0, 0x0, 0x0, .single, none⟩,
   ⟨0xC1020, 0x40, 32, 0x4, 3, 0x0, 0xFFFFFFFF, 0x0, 0x0, 0x0, .single, none⟩]

/-- The register map of the EVT unit. -/
def regRowsEVT : List RegRow :=
  [⟨0x10000, 0x4, 2, 0x4, 1, 0x0, 0x0, 0xFFFFFFFF, 0x0, 0x0, .single, none⟩,
   ⟨0x10008, 0x4, 2, 0x4, 1, 0xFFFFFFFF, 0xFFFFFFFF, 0x0, 0x0, 0xFFFFFFFF, .single, none⟩,
   ⟨0x10010, 0x4, 8, 0x4, 1, 0x0, 0xFFFFFFFF, 0x0, 0x0, 0x0, .single, none⟩,
   ⟨0x10030, 0x4, 1, 0x4, 1, 0x0, 0x0, 0x0, 0x0, 0x0, .single, none⟩,
   ⟨0x10034, 0x4, 1, 0x4, 1, 0x0, 0x0, 0x0, 0xFFFFFFFF, 0x0, .single, none⟩,
   ⟨0x10038, 0x4, 1, 0x4, 1, 0x0, 0x7, 0x0, 0x0, 0x1, .single, none⟩,
   ⟨0x10040, 0x4, 2, 0x4, 1, 0x0, 0xFFFFFFFF, 0x0, 0x0, 0xFFFFFFFF, .single, none⟩,
   ⟨0x10048, 0x4, 1, 0x4, 1, 0x0, 0xFFFFFFFF, 0x0, 0x0, 0x0, .single, none⟩,
   ⟨0x10100, 0x4, 64, 0x4, 1, 0x0, 0xFFFFFFFF, 0x0, 0x0, 0x0, .single, none⟩]

/-- The register map of the KEY unit. -/
def regRowsKEY : List RegRow :=
  [⟨0x170000, 0x4, 1, 0x4, 1, 0x2, 0x3, 0x0, 0x0, 0x3, .single, none⟩,
   ⟨0x170004, 0x4, 1, 0x4, 1, 0x2, 0x0, 0x700, 0x0, 0x0, .single, none⟩,
   ⟨0x170008, 0x4, 1, 0x4, 1, 0x7, 0x1F, 0x0, 0x0, 0x0, .single, (some 1)⟩,
   ⟨0x17000C, 0x4, 1, 0x4, 1, 0x0, 0xFFFFFFFF, 0x0, 0x0, 0x0, .single, none⟩,
   ⟨0x170010, 0x4, 1, 0x4, 1, Config.floorFuse, 0x0, 0x0, 0x0, 0x0, .single, none⟩,
   ⟨0x170014, 0x4, 1, 0x4, 1, 0x0, 0x80001FFF, 0x0, 0x0, 0x0, .single, (some 1)⟩,
   ⟨0x170018, 0x4, 1, 0x4, 1, 0x200100, 0x0, 0x0, 0x0, 0x0, .single, none⟩,
   ⟨0x17001C, 0x4, 1, 0x4, 1, 0x1, 0x0, 0x0, 0x0, 0x0, .single, none⟩,
   ⟨0x170020, 0x4, 1, 0x4, 1, 0x0, 0x0, 0x0, 0xFFFFFFFF, 0x0, .single, none⟩,
   ⟨0x170024, 0x4, 1, 0x4, 1, 0x0, 0x0, 0x0, 0x0, 0x0, .single, none⟩,
   ⟨0x170028, 0x4, 1, 0x4, 1, 0x0, 0x0, 0x0, 0x0, 0x0, .single, none⟩,
   ⟨0x170040, 0x4, 8, 0x4, 1, 0x0, 0x0, 0x0, 0x0, 0x0, .single, none⟩,
   ⟨0x170060, 0x4, 8, 0x4, 1, 0x0, 0x0, 0x0, 0x0, 0x0, .single, none⟩,
   ⟨0x170080, 0x4, 4, 0x4, 1, 0x0, 0xFFFFFFFF, 0x0, 0x0, 0x0, .single, none⟩]

/-- The register map of the RED unit. -/
def regRowsRED : List RegRow :=
  [⟨0x180000, 0x4, 1, 0x4, 1, 0x0, 0x3, 0x0, 0x0, 0x0, .single, (some 4)⟩,
   ⟨0x180004, 0x4, 1, 0x4, 1, 0x0, 0xF3FFF, 0x0, 0x0, 0x3007, .single, none⟩,
   ⟨0x180008, 0x4, 1, 0x4, 1, 0x0, 0x0, 0x700, 0x0, 0x0, .single, none⟩,
   ⟨0x18000C, 0x4, 1, 0x4, 1, 0x3E81388, 0xFFFFFFFF, 0x0, 0x0, 0x0, .single, none⟩,
   ⟨0x180010, 0x4, 1, 0x4, 1, 0x640064, 0xFFFFFFFF, 0x0, 0x0, 0x0, .single, none⟩,
   ⟨0x180014, 0x4, 1, 0x4, 1, 0x3E8, 0xFFFF, 0x0, 0x0, 0x0, .single, none⟩,
   ⟨0x180018, 0x4, 1, 0x4, 1, 0x0, 0x0, 0x0, 0xFFFFFFFF, 0x0, .single, none⟩,
   ⟨0x18001C, 0x4, 1, 0x4, 1, 0x0, 0xFF, 0x0, 0x0, 0x0, .single, none⟩,
   ⟨0x180020, 0x4, 1, 0x4, 1, 0x0, 0xFFFF, 0x0, 0x0, 0x0, .single, (some 5)⟩,
   ⟨0x180024, 0x4, 1, 0x4, 1, 0x0, 0xFFFF, 0x0, 0x0, 0x0, .single, none⟩,
   ⟨0x180028, 0x4, 1, 0x4, 1, 0x220E2A, 0xFFFFFF, 0x0, 0x0, 0x0, .single, none⟩,
   ⟨0x180030, 0x4, 1, 0x4, 1, 0x0, 0xFFFFFFC0, 0x0, 0x0, 0x0, .low, none⟩,
   ⟨0x180034, 0x4, 1, 0x4, 1, 0x0, 0x3, 0x0, 0x0, 0x0, .high, none⟩,
   ⟨0x180040, 0x4, 8, 0x4, 1, 0x0, 0xFFFFFFFF, 0x0, 0x0, 0x0, .single, none⟩,
   ⟨0x180060, 0x4, 1, 0x4, 1, 0x0, 0x0, 0x0, 0x0, 0x0, .single, none⟩,
   ⟨0x180064, 0x4, 1, 0x4, 1, 0x0, 0x0, 0x0, 0x0, 0x0, .single, none⟩,
   ⟨0x180068, 0x4, 1, 0x4, 1, 0x0, 0x0, 0x0, 0x0, 0x0, .single, none⟩]

/-- The register map of the FJL unit. -/
def regRowsFJL : List RegRow :=
  [⟨0x190000, 0x4, 1, 0x4, 1, 0x700, 0x771, 0x0, 0x0, 0x1, .single, none⟩,
   ⟨0x190004, 0x4, 1, 0x4, 1, 0x0, 0x0, 0x300, 0x0, 0x0, .single, none⟩,
   ⟨0x190010, 0x4, 4, 0x4, 1, 0x0, 0xFFFFFFFF, 0x0, 0x0, 0x0, .single, none⟩,
   ⟨0x190100, 0x4, 64, 0x4, 1, 0x0, 0xFFFFFFFF, 0x0, 0x0, 0xFFFFFFFF, .single, none⟩,
   ⟨0x190200, 0x4, 8, 0x4, 1, 0x0, 0x80FF7FFF, 0x0, 0x0, 0x0, .single, none⟩,
   ⟨0x191000, 0x40, 7, 0x4, 1, 0x0, 0x1, 0x0, 0x0, 0x1, .single, none⟩,
   ⟨0x191004, 0x40, 7, 0x4, 1, 0x0, 0x0, 0x0, 0x0, 0x0, .single, none⟩,
   ⟨0x191010, 0x40, 7, 0x4, 6, 0x0, 0xFFFFFFFF, 0x0, 0x0, 0x0, .single, none⟩]

/-- The register map of the PWR unit. -/
def regRowsPWR : List RegRow :=
  [⟨0x20000, 0x4, 1, 0x4, 1, 0xFFF, 0xFFF, 0x0, 0x0, 0x0, .single, (some 3)⟩,
   ⟨0x20004, 0x4, 1, 0x4, 1, 0x0, 0x0, 0x0, 0x0, 0x0, .single, none⟩,
   ⟨0x20008, 0x4, 1, 0x4, 1, 0x0, 0x7, 0x0, 0x0, 0x0, .single, none⟩,
   ⟨0x2000C, 0x4, 1, 0x4, 1, 0x0, 0x0, 0x700, 0x0, 0x0, .single, none⟩,
   ⟨0x20010, 0x4, 2, 0x4, 1, 0x0, 0xFFFFFFFF, 0x0, 0x0, 0xFFFFFFFF, .single, none⟩,
   ⟨0x20018, 0x4, 1, 0x4, 1, 0, 0x0, 0xFF1F, 0x0, 0x0, .single, none⟩,
   ⟨0x20020, 0x4, 1, 0x4, 1, 0xA0000, 0x3FF001F, 0x0, 0x0, 0x1, .single, none⟩,
   ⟨0x20024, 0x4, 1, 0x4, 1, 0x7D001F4, 0xFFFFFFFF, 0x0, 0x0, 0x0, .single, none⟩,
   ⟨0x20028, 0x4, 1, 0x4, 1, 0xC80064, 0xFFFFFFFF, 0x0, 0x0, 0x0, .single, none⟩,
   ⟨0x2002C, 0x4, 1, 0x4, 1, 0x398026C, 0x3FF03FF, 0x0, 0x0, 0x0, .single, (some 6)⟩,
   ⟨0x20030, 0x4, 1, 0x4, 1, 0x0, 0x0, 0x0, 0x0, 0x0, .single, none⟩,
   ⟨0x20034, 0x4, 1, 0x4, 1, 0x0, 0x800003FF, 0x0, 0x0, 0x0, .single, none⟩,
   ⟨0x20038, 0x4, 1, 0x4, 1, 0x0, 0x0, 0x0, 0x0, 0x0, .single, none⟩,
   ⟨0x20040, 0x4, 4, 0x4, 1, 0x0, 0xFFFFFFFF, 0x0, 0x0, 0x0, .single, none⟩]

/-- The register map of the TMX unit. -/
def regRowsTMX : List RegRow :=
  [⟨0x1A0000, 0x4, 1, 0x4, 1, 0x3, 0x7, 0x0, 0x0, 0x0, .single, (some 2)⟩,
   ⟨0x1A0004, 0x4, 1, 0x4, 1, 0x1, 0x0, 0x300, 0x0, 0x0, .single, none⟩,
   ⟨0x1A0010, 0x4, 4, 0x4, 1, 0x0, 0x1F0F, 0x0, 0x0, 0x0, .single, (some 2)⟩]

/-- The register unit of a BAR0 offset (R40): its number is the offset divided by 64 KiB. -/
def regRowsOf (unit : Nat) : List RegRow :=
  match unit with
  | 0 => regRowsGLB
  | 1 => regRowsEVT
  | 2 => regRowsPWR
  | 3 => regRowsIMG
  | 4 => regRowsRTC
  | 5 => regRowsTB
  | 6 => regRowsMAC
  | 7 => regRowsMAC
  | 8 => regRowsMAC
  | 9 => regRowsMAC
  | 10 => regRowsT1S
  | 11 => regRowsPRP
  | 12 => regRowsRNG
  | 13 => regRowsSCH
  | 14 => regRowsITK
  | 15 => regRowsRCL
  | 16 => regRowsFAB
  | 17 => regRowsANA
  | 18 => regRowsACQ
  | 19 => regRowsFLT
  | 20 => regRowsPHS
  | 21 => regRowsNRG
  | 22 => regRowsTRG
  | 23 => regRowsKEY
  | 24 => regRowsRED
  | 25 => regRowsFJL
  | 26 => regRowsTMX
  | _ => []

/-- The row of the register at a BAR0 offset of the normal view; none where the maps list no register there. -/
def regRow (off : Nat) : Option RegRow := (regRowsOf (off / 0x10000)).find? (fun r => r.holds off)

/-- The Reset value of the register at an offset (R8); 0 where no register stands. -/
def regReset (off : Nat) : Word :=
  match regRow off with
  | some r => r.reset
  | none => 0

end Sys2Proof.Machine
end

