-- ==== Sys2Proof/Machine/Regs.lean ====
section
/-! DEFINITION. The BAR0 offset of every register, in the normal view, by its name in the register maps of spec/
(R58, R84, R114, R129, R158-R160, R180, R208, R230, R265, R288-R289, R306, R325-R326, R344, R361, R385-R386, R415, R438-R439,
R455, R496 and the other chapters' maps). The first argument is the number of the instance in the register's name
(time base, port, ring, form, circuit ...), the second the register's own number where a name covers several. -/

namespace Sys2Proof.Machine.Reg

/-- GLB: GLB_ID. -/
def GLB_ID : Nat := 0x0
/-- GLB: GLB_CAP0. -/
def GLB_CAP0 : Nat := 0x4
/-- GLB: GLB_CAP1. -/
def GLB_CAP1 : Nat := 0x8
/-- GLB: GLB_BOARD. -/
def GLB_BOARD : Nat := 0xc
/-- GLB: GLB_UID_LO. -/
def GLB_UID_LO : Nat := 0x10
/-- GLB: GLB_UID_HI. -/
def GLB_UID_HI : Nat := 0x14
/-- GLB: GLB_LOCK. -/
def GLB_LOCK : Nat := 0x20
/-- GLB: GLB_BUSERR_ADDR. -/
def GLB_BUSERR_ADDR : Nat := 0x30
/-- GLB: GLB_BUSERR_INFO. -/
def GLB_BUSERR_INFO : Nat := 0x34
/-- GLB: GLB_RESET. -/
def GLB_RESET : Nat := 0x40
/-- GLB: GLB_MEM_STATUS. -/
def GLB_MEM_STATUS : Nat := 0x50
/-- GLB: GLB_MEM_CE0. -/
def GLB_MEM_CE0 : Nat := 0x54
/-- GLB: GLB_MEM_CE1. -/
def GLB_MEM_CE1 : Nat := 0x58
/-- GLB: GLB_MEM_UE_LO. -/
def GLB_MEM_UE_LO : Nat := 0x60
/-- GLB: GLB_MEM_UE_HI. -/
def GLB_MEM_UE_HI : Nat := 0x64
/-- GLB: GLB_SCRATCH0–3. -/
def GLB_SCRATCH (a : Nat) : Nat := 0x70 + 0x4 * a
/-- IMG: IMG_CTRL. -/
def IMG_CTRL : Nat := 0x30000
/-- IMG: IMG_SRC. -/
def IMG_SRC : Nat := 0x30004
/-- IMG: IMG_MINVER. -/
def IMG_MINVER : Nat := 0x30008
/-- IMG: IMG_STAGE_LO. -/
def IMG_STAGE_LO : Nat := 0x30010
/-- IMG: IMG_STAGE_HI. -/
def IMG_STAGE_HI : Nat := 0x30014
/-- IMG: IMG_STAGE_LEN. -/
def IMG_STAGE_LEN : Nat := 0x30018
/-- IMG: IMG_LOAD_CMD. -/
def IMG_LOAD_CMD : Nat := 0x3001c
/-- IMG: IMG_LOAD_STATUS. -/
def IMG_LOAD_STATUS : Nat := 0x30020
/-- IMG: IMG_VERSION. -/
def IMG_VERSION : Nat := 0x30024
/-- IMG: IMG_CACHE. -/
def IMG_CACHE : Nat := 0x30028
/-- IMG: IMG_CLS_CMD. -/
def IMG_CLS_CMD : Nat := 0x30040
/-- IMG: IMG_CLS_STATUS. -/
def IMG_CLS_STATUS : Nat := 0x30044
/-- IMG: IMG_CLS_STATE0–31. -/
def IMG_CLS_STATE (a : Nat) : Nat := 0x30080 + 0x4 * a
/-- IMG: IMG_BASE_DIGEST0–7. -/
def IMG_BASE_DIGEST (a : Nat) : Nat := 0x30100 + 0x4 * a
/-- TB: TB_PLL. -/
def TB_PLL : Nat := 0x50000
/-- TB: TB_PPSIN_CFG. -/
def TB_PPSIN_CFG : Nat := 0x50004
/-- TB: TBn_CTRL. -/
def TB_CTRL (a : Nat) : Nat := 0x51000 + 0x100 * a
/-- TB: TBn_STATUS. -/
def TB_STATUS (a : Nat) : Nat := 0x51004 + 0x100 * a
/-- TB: TBn_NOW_NS. -/
def TB_NOW_NS (a : Nat) : Nat := 0x51008 + 0x100 * a
/-- TB: TBn_NOW_SEC_LO. -/
def TB_NOW_SEC_LO (a : Nat) : Nat := 0x5100c + 0x100 * a
/-- TB: TBn_NOW_SEC_HI. -/
def TB_NOW_SEC_HI (a : Nat) : Nat := 0x51010 + 0x100 * a
/-- TB: TBn_NOW_FRAC. -/
def TB_NOW_FRAC (a : Nat) : Nat := 0x51014 + 0x100 * a
/-- TB: TBn_RATE_LO. -/
def TB_RATE_LO (a : Nat) : Nat := 0x51018 + 0x100 * a
/-- TB: TBn_RATE_HI. -/
def TB_RATE_HI (a : Nat) : Nat := 0x5101c + 0x100 * a
/-- TB: TBn_STEP_NS. -/
def TB_STEP_NS (a : Nat) : Nat := 0x51020 + 0x100 * a
/-- TB: TBn_STEP_SEC_LO. -/
def TB_STEP_SEC_LO (a : Nat) : Nat := 0x51024 + 0x100 * a
/-- TB: TBn_STEP_SEC_HI. -/
def TB_STEP_SEC_HI (a : Nat) : Nat := 0x51028 + 0x100 * a
/-- TB: TBn_WDOG. -/
def TB_WDOG (a : Nat) : Nat := 0x5102c + 0x100 * a
/-- TB: TBn_PPS_OUT. -/
def TB_PPS_OUT (a : Nat) : Nat := 0x51030 + 0x100 * a
/-- TB: TBn_UTC. -/
def TB_UTC (a : Nat) : Nat := 0x51034 + 0x100 * a
/-- TB: TBn_LEAP_LO. -/
def TB_LEAP_LO (a : Nat) : Nat := 0x51038 + 0x100 * a
/-- TB: TBn_LEAP_HI. -/
def TB_LEAP_HI (a : Nat) : Nat := 0x5103c + 0x100 * a
/-- TB: TBn_DOMAIN. -/
def TB_DOMAIN (a : Nat) : Nat := 0x51040 + 0x100 * a
/-- TB: TBn_ASYM. -/
def TB_ASYM (a : Nat) : Nat := 0x51044 + 0x100 * a
/-- TB: TBn_MPD. -/
def TB_MPD (a : Nat) : Nat := 0x51048 + 0x100 * a
/-- TB: TBn_MPD_CFG. -/
def TB_MPD_CFG (a : Nat) : Nat := 0x5104c + 0x100 * a
/-- TB: TBn_MPD_REF. -/
def TB_MPD_REF (a : Nat) : Nat := 0x51050 + 0x100 * a
/-- TB: TBn_MPD_STEP. -/
def TB_MPD_STEP (a : Nat) : Nat := 0x51054 + 0x100 * a
/-- TB: TBn_PPSIN_STATUS. -/
def TB_PPSIN_STATUS (a : Nat) : Nat := 0x51060 + 0x100 * a
/-- TB: TBn_PPSIN_NS. -/
def TB_PPSIN_NS (a : Nat) : Nat := 0x51064 + 0x100 * a
/-- TB: TBn_PPSIN_SEC_LO. -/
def TB_PPSIN_SEC_LO (a : Nat) : Nat := 0x51068 + 0x100 * a
/-- TB: TBn_PPSIN_SEC_HI. -/
def TB_PPSIN_SEC_HI (a : Nat) : Nat := 0x5106c + 0x100 * a
/-- TB: TBn_PPSIN_FRAC. -/
def TB_PPSIN_FRAC (a : Nat) : Nat := 0x51070 + 0x100 * a
/-- TB: TBP_CFGp. -/
def TBP_CFG (a : Nat) : Nat := 0x52000 + 0x20 * a
/-- TB: TBP_INGp. -/
def TBP_ING (a : Nat) : Nat := 0x52004 + 0x20 * a
/-- TB: TBP_EGRp. -/
def TBP_EGR (a : Nat) : Nat := 0x52008 + 0x20 * a
/-- TB: TSQp_STATUS. -/
def TSQ_STATUS (a : Nat) : Nat := 0x53000 + 0x40 * a
/-- TB: TSQp_ID. -/
def TSQ_ID (a : Nat) : Nat := 0x53004 + 0x40 * a
/-- TB: TSQp_NS. -/
def TSQ_NS (a : Nat) : Nat := 0x53008 + 0x40 * a
/-- TB: TSQp_SEC_LO. -/
def TSQ_SEC_LO (a : Nat) : Nat := 0x5300c + 0x40 * a
/-- TB: TSQp_SEC_HI. -/
def TSQ_SEC_HI (a : Nat) : Nat := 0x53010 + 0x40 * a
/-- TB: TSQp_FRAC. -/
def TSQ_FRAC (a : Nat) : Nat := 0x53014 + 0x40 * a
/-- TB: TSQp_POP. -/
def TSQ_POP (a : Nat) : Nat := 0x53018 + 0x40 * a
/-- TB: TSQp_OVF_CNT. -/
def TSQ_OVF_CNT (a : Nat) : Nat := 0x5301c + 0x40 * a
/-- RTC: RTC_CTRL. -/
def RTC_CTRL : Nat := 0x40000
/-- RTC: RTC_STATUS. -/
def RTC_STATUS : Nat := 0x40004
/-- RTC: RTC_TICK_LO. -/
def RTC_TICK_LO : Nat := 0x40010
/-- RTC: RTC_TICK_HI. -/
def RTC_TICK_HI : Nat := 0x40014
/-- RTC: RTC_LOAD_LO. -/
def RTC_LOAD_LO : Nat := 0x40018
/-- RTC: RTC_LOAD_HI. -/
def RTC_LOAD_HI : Nat := 0x4001c
/-- RTC: RTC_ALARM_LO. -/
def RTC_ALARM_LO : Nat := 0x40020
/-- RTC: RTC_ALARM_HI. -/
def RTC_ALARM_HI : Nat := 0x40024
/-- RTC: RTC_TRIM. -/
def RTC_TRIM : Nat := 0x40028
/-- RTC: RTC_CAP_STATUS. -/
def RTC_CAP_STATUS : Nat := 0x40030
/-- RTC: RTC_CAP_PHASE. -/
def RTC_CAP_PHASE : Nat := 0x40034
/-- RTC: RTC_CAP_TICK_LO. -/
def RTC_CAP_TICK_LO : Nat := 0x40038
/-- RTC: RTC_CAP_TICK_HI. -/
def RTC_CAP_TICK_HI : Nat := 0x4003c
/-- RTC: RTC_BKP0–7. -/
def RTC_BKP (a : Nat) : Nat := 0x40040 + 0x4 * a
/-- MAC: MAC_CTRL. -/
def MAC_CTRL (a : Nat) : Nat := 0x60000 + 0x10000 * a
/-- MAC: MAC_STATUS. -/
def MAC_STATUS (a : Nat) : Nat := 0x60004 + 0x10000 * a
/-- MAC: MAC_MAXLEN. -/
def MAC_MAXLEN (a : Nat) : Nat := 0x60008 + 0x10000 * a
/-- MAC: MAC_ADDR_LO. -/
def MAC_ADDR_LO (a : Nat) : Nat := 0x60010 + 0x10000 * a
/-- MAC: MAC_ADDR_HI. -/
def MAC_ADDR_HI (a : Nat) : Nat := 0x60014 + 0x10000 * a
/-- MAC: MAC_MHASH0–7. -/
def MAC_MHASH (a b : Nat) : Nat := 0x60020 + 0x10000 * a + 0x4 * b
/-- MAC: MAC_STATk_LO. -/
def MAC_STAT_LO (a b : Nat) : Nat := 0x60100 + 0x10000 * a + 0x8 * b
/-- MAC: MAC_STATk_HI. -/
def MAC_STAT_HI (a b : Nat) : Nat := 0x60104 + 0x10000 * a + 0x8 * b
/-- T1S: T1S_SEED. -/
def T1S_SEED : Nat := 0xa0000
/-- T1S: T1Ss_CTRL. -/
def T1Ss_CTRL (a : Nat) : Nat := 0xa0100 + 0x40 * a
/-- T1S: T1Ss_STATUS. -/
def T1Ss_STATUS (a : Nat) : Nat := 0xa0104 + 0x40 * a
/-- T1S: T1Ss_ADDR_LO. -/
def T1Ss_ADDR_LO (a : Nat) : Nat := 0xa0108 + 0x40 * a
/-- T1S: T1Ss_ADDR_HI. -/
def T1Ss_ADDR_HI (a : Nat) : Nat := 0xa010c + 0x40 * a
/-- T1S: T1Ss_CNT0–6. -/
def T1Ss_CNT (a b : Nat) : Nat := 0xa0110 + 0x40 * a + 0x4 * b
/-- PRP: PRPq_CTRL. -/
def PRP_CTRL (a : Nat) : Nat := 0xb0100 + 0x80 * a
/-- PRP: PRPq_STATUS. -/
def PRP_STATUS (a : Nat) : Nat := 0xb0104 + 0x80 * a
/-- PRP: PRPq_SEQ. -/
def PRP_SEQ (a : Nat) : Nat := 0xb0108 + 0x80 * a
/-- PRP: PRPq_FORGET. -/
def PRP_FORGET (a : Nat) : Nat := 0xb010c + 0x80 * a
/-- PRP: PRPq_FAULT_TIME. -/
def PRP_FAULT_TIME (a : Nat) : Nat := 0xb0110 + 0x80 * a
/-- PRP: PRPq_SOURCES. -/
def PRP_SOURCES (a : Nat) : Nat := 0xb0114 + 0x80 * a
/-- PRP: PRPq_CNT0–7. -/
def PRP_CNT (a b : Nat) : Nat := 0xb0120 + 0x80 * a + 0x4 * b
/-- ITK: ITK_CTRL. -/
def ITK_CTRL : Nat := 0xe0000
/-- ITK: ITK_STATUS. -/
def ITK_STATUS : Nat := 0xe0004
/-- ITK: ITK_PORTS. -/
def ITK_PORTS : Nat := 0xe0008
/-- ITK: ITK_SEAT_CMD. -/
def ITK_SEAT_CMD : Nat := 0xe000c
/-- ITK: ITK_SEAT_STATUS. -/
def ITK_SEAT_STATUS : Nat := 0xe0010
/-- ITK: ITK_SEATS. -/
def ITK_SEATS : Nat := 0xe0014
/-- ITK: ITK_AUTH_INFO. -/
def ITK_AUTH_INFO : Nat := 0xe0020
/-- ITK: ITK_AUTH_KEYID. -/
def ITK_AUTH_KEYID : Nat := 0xe0024
/-- ITK: ITK_CNT0–10. -/
def ITK_CNT (a : Nat) : Nat := 0xe0040 + 0x4 * a
/-- ITK: ITK_KEYMAPk_ID. -/
def ITK_KEYMAP_ID (a : Nat) : Nat := 0xe0400 + 0x8 * a
/-- ITK: ITK_KEYMAPk_SLOT. -/
def ITK_KEYMAP_SLOT (a : Nat) : Nat := 0xe0404 + 0x8 * a
/-- ITK: ITK_TCPc_ADDR0–3. -/
def ITK_TCP_ADDR (a b : Nat) : Nat := 0xe1000 + 0x20 * a + 0x4 * b
/-- ITK: ITK_TCPc_PORTS. -/
def ITK_TCP_PORTS (a : Nat) : Nat := 0xe1010 + 0x20 * a
/-- ITK: ITK_TCPc_CTRL. -/
def ITK_TCP_CTRL (a : Nat) : Nat := 0xe1014 + 0x20 * a
/-- ITK: ITK_TCPc_EXPECT. -/
def ITK_TCP_EXPECT (a : Nat) : Nat := 0xe1018 + 0x20 * a
/-- RCL: RCL_CTRL. -/
def RCL_CTRL : Nat := 0xf0000
/-- RCL: RCL_STATUS. -/
def RCL_STATUS : Nat := 0xf0004
/-- RCL: RCL_CMD. -/
def RCL_CMD : Nat := 0xf0008
/-- RCL: RCL_CMD_STATUS. -/
def RCL_CMD_STATUS : Nat := 0xf000c
/-- RCL: RCL_CMD_SEC. -/
def RCL_CMD_SEC : Nat := 0xf0010
/-- RCL: RCL_ROLLS_OPEN. -/
def RCL_ROLLS_OPEN : Nat := 0xf0014
/-- RCL: RCL_CNT0–11. -/
def RCL_CNT (a : Nat) : Nat := 0xf0040 + 0x4 * a
/-- RCL: FORMf_CTRL. -/
def FORM_CTRL (a : Nat) : Nat := 0xf1000 + 0x20 * a
/-- RCL: FORMf_DEADLINE. -/
def FORM_DEADLINE (a : Nat) : Nat := 0xf1004 + 0x20 * a
/-- RCL: FORMf_WINDOW. -/
def FORM_WINDOW (a : Nat) : Nat := 0xf1008 + 0x20 * a
/-- RCL: FORMf_STATUS. -/
def FORM_STATUS (a : Nat) : Nat := 0xf100c + 0x20 * a
/-- RCL: FORMf_STORE_LO. -/
def FORM_STORE_LO (a : Nat) : Nat := 0xf1010 + 0x20 * a
/-- RCL: FORMf_STORE_HI. -/
def FORM_STORE_HI (a : Nat) : Nat := 0xf1014 + 0x20 * a
/-- RCL: FORMf_LAST. -/
def FORM_LAST (a : Nat) : Nat := 0xf1018 + 0x20 * a
/-- RCL: FORMf_SLIPS. -/
def FORM_SLIPS (a : Nat) : Nat := 0xf101c + 0x20 * a
/-- RCL: OUTo_CTRL. -/
def OUT_CTRL (a : Nat) : Nat := 0xf3000 + 0x20 * a
/-- RCL: OUTo_RANGE. -/
def OUT_RANGE (a : Nat) : Nat := 0xf3004 + 0x20 * a
/-- RCL: OUTo_ID. -/
def OUT_ID (a : Nat) : Nat := 0xf3008 + 0x20 * a
/-- RCL: OUTo_TBASE. -/
def OUT_TBASE (a : Nat) : Nat := 0xf300c + 0x20 * a
/-- RCL: OUTo_HDR_LO. -/
def OUT_HDR_LO (a : Nat) : Nat := 0xf3010 + 0x20 * a
/-- RCL: OUTo_HDR_HI. -/
def OUT_HDR_HI (a : Nat) : Nat := 0xf3014 + 0x20 * a
/-- RCL: OUTo_KEY. -/
def OUT_KEY (a : Nat) : Nat := 0xf3018 + 0x20 * a
/-- RCL: OUTo_FRAMES. -/
def OUT_FRAMES (a : Nat) : Nat := 0xf301c + 0x20 * a
/-- FAB: FABc_CTRL. -/
def FAB_CTRL (a : Nat) : Nat := 0x100000 + 0x200 * a
/-- FAB: FABc_STATUS. -/
def FAB_STATUS (a : Nat) : Nat := 0x100004 + 0x200 * a
/-- FAB: FABc_WDOG. -/
def FAB_WDOG (a : Nat) : Nat := 0x100008 + 0x200 * a
/-- FAB: FABc_SPEED. -/
def FAB_SPEED (a : Nat) : Nat := 0x10000c + 0x200 * a
/-- FAB: FABc_FAULT_INFO. -/
def FAB_FAULT_INFO (a : Nat) : Nat := 0x100010 + 0x200 * a
/-- FAB: FABc_ARITH_INFO. -/
def FAB_ARITH_INFO (a : Nat) : Nat := 0x100014 + 0x200 * a
/-- FAB: FABc_CHECK_CMD. -/
def FAB_CHECK_CMD (a : Nat) : Nat := 0x100018 + 0x200 * a
/-- FAB: FABc_CHECK_STATUS. -/
def FAB_CHECK_STATUS (a : Nat) : Nat := 0x10001c + 0x200 * a
/-- FAB: FABc_RES_STATUS. -/
def FAB_RES_STATUS (a : Nat) : Nat := 0x100020 + 0x200 * a
/-- FAB: FABc_RES_SEQ32. -/
def FAB_RES_SEQ32 (a : Nat) : Nat := 0x100024 + 0x200 * a
/-- FAB: FABc_RES_INFO. -/
def FAB_RES_INFO (a : Nat) : Nat := 0x100028 + 0x200 * a
/-- FAB: FABc_RES_NS. -/
def FAB_RES_NS (a : Nat) : Nat := 0x10002c + 0x200 * a
/-- FAB: FABc_RES_SEC_LO. -/
def FAB_RES_SEC_LO (a : Nat) : Nat := 0x100030 + 0x200 * a
/-- FAB: FABc_RES_COUNT. -/
def FAB_RES_COUNT (a : Nat) : Nat := 0x100034 + 0x200 * a
/-- FAB: FABc_ARITH_CNT0–3. -/
def FAB_ARITH_CNT (a b : Nat) : Nat := 0x100040 + 0x200 * a + 0x4 * b
/-- FAB: FABc_CB_CE. -/
def FAB_CB_CE (a : Nat) : Nat := 0x100050 + 0x200 * a
/-- FAB: FABc_CB_UE. -/
def FAB_CB_UE (a : Nat) : Nat := 0x100054 + 0x200 * a
/-- FAB: FABc_RETIRED0–4. -/
def FAB_RETIRED (a b : Nat) : Nat := 0x100060 + 0x200 * a + 0x4 * b
/-- FAB: FABc_MAP0–31. -/
def FAB_MAP (a b : Nat) : Nat := 0x100080 + 0x200 * a + 0x4 * b
/-- ANA: ANA_CTRL. -/
def ANA_CTRL : Nat := 0x110000
/-- ANA: ANA_STATUS. -/
def ANA_STATUS : Nat := 0x110004
/-- ANA: ANA_COMMIT. -/
def ANA_COMMIT : Nat := 0x110008
/-- ANA: ANA_COMMIT_AT. -/
def ANA_COMMIT_AT : Nat := 0x11000c
/-- ANA: ANA_COMMIT_STATUS. -/
def ANA_COMMIT_STATUS : Nat := 0x110010
/-- ANA: ANA_PINS. -/
def ANA_PINS : Nat := 0x110014
/-- ANA: ANA_LATCH. -/
def ANA_LATCH : Nat := 0x110018
/-- ANA: ANA_REC_CTRL. -/
def ANA_REC_CTRL : Nat := 0x110020
/-- ANA: ANA_REC_KEY. -/
def ANA_REC_KEY : Nat := 0x110024
/-- ANA: ANA_REC_ID. -/
def ANA_REC_ID : Nat := 0x110028
/-- ANA: ANA_REC_HDR_LO. -/
def ANA_REC_HDR_LO : Nat := 0x110030
/-- ANA: ANA_REC_HDR_HI. -/
def ANA_REC_HDR_HI : Nat := 0x110034
/-- ANA: ANA_DEC0–7. -/
def ANA_DEC (a : Nat) : Nat := 0x110040 + 0x4 * a
/-- ANA: ANA_DEC_ABSENT0–7. -/
def ANA_DEC_ABSENT (a : Nat) : Nat := 0x110060 + 0x4 * a
/-- ANA: ANA_CNT0–7. -/
def ANA_CNT (a : Nat) : Nat := 0x110080 + 0x4 * a
/-- ANA: PINn_CTRL. -/
def PIN_CTRL (a : Nat) : Nat := 0x110400 + 0x40 * a
/-- ANA: PINn_STATUS. -/
def PIN_STATUS (a : Nat) : Nat := 0x110404 + 0x40 * a
/-- ANA: PINn_MASK0–7. -/
def PIN_MASK (a b : Nat) : Nat := 0x110408 + 0x40 * a + 0x4 * b
/-- ANA: LSNi_INFO. -/
def LSN_INFO (a : Nat) : Nat := 0x111000 + 0x80 * a
/-- ANA: LSNi_DECS. -/
def LSN_DECS (a : Nat) : Nat := 0x111004 + 0x80 * a
/-- ANA: LSNi_CTRL. -/
def LSN_CTRL (a : Nat) : Nat := 0x111008 + 0x80 * a
/-- ANA: LSNi_BOUND. -/
def LSN_BOUND (a : Nat) : Nat := 0x11100c + 0x80 * a
/-- ANA: LSNi_TBLA_LO. -/
def LSN_TBLA_LO (a : Nat) : Nat := 0x111010 + 0x80 * a
/-- ANA: LSNi_TBLA_HI. -/
def LSN_TBLA_HI (a : Nat) : Nat := 0x111014 + 0x80 * a
/-- ANA: LSNi_TBLB_LO. -/
def LSN_TBLB_LO (a : Nat) : Nat := 0x111018 + 0x80 * a
/-- ANA: LSNi_TBLB_HI. -/
def LSN_TBLB_HI (a : Nat) : Nat := 0x11101c + 0x80 * a
/-- ANA: LSNi_RES_LO. -/
def LSN_RES_LO (a : Nat) : Nat := 0x111020 + 0x80 * a
/-- ANA: LSNi_RES_HI. -/
def LSN_RES_HI (a : Nat) : Nat := 0x111024 + 0x80 * a
/-- ANA: LSNi_P0–6. -/
def LSN_P (a b : Nat) : Nat := 0x111028 + 0x80 * a + 0x4 * b
/-- ANA: LSNi_ACTIVE. -/
def LSN_ACTIVE (a : Nat) : Nat := 0x111044 + 0x80 * a
/-- ANA: LSNi_ENTRY. -/
def LSN_ENTRY (a : Nat) : Nat := 0x111048 + 0x80 * a
/-- ANA: LSNi_SKIPPED. -/
def LSN_SKIPPED (a : Nat) : Nat := 0x11104c + 0x80 * a
/-- ANA: LSNi_OUT_STATUS. -/
def LSN_OUT_STATUS (a : Nat) : Nat := 0x111050 + 0x80 * a
/-- ANA: LSNi_OUT_SEQ32. -/
def LSN_OUT_SEQ32 (a : Nat) : Nat := 0x111054 + 0x80 * a
/-- ANA: LSNi_OUT_INFO. -/
def LSN_OUT_INFO (a : Nat) : Nat := 0x111058 + 0x80 * a
/-- ANA: LSNi_OUT_VAL0. -/
def LSN_OUT_VAL0 (a : Nat) : Nat := 0x11105c + 0x80 * a
/-- ANA: LSNi_OUT_VAL1. -/
def LSN_OUT_VAL1 (a : Nat) : Nat := 0x111060 + 0x80 * a
/-- ACQ: ACQ_CTRL. -/
def ACQ_CTRL : Nat := 0x120000
/-- ACQ: ACQ_STATUS. -/
def ACQ_STATUS : Nat := 0x120004
/-- ACQ: ACQ_CIRc_CTRL. -/
def ACQ_CIR_CTRL (a : Nat) : Nat := 0x121000 + 0x10 * a
/-- ACQ: ACQ_CIRc_STATUS. -/
def ACQ_CIR_STATUS (a : Nat) : Nat := 0x121004 + 0x10 * a
/-- ACQ: ACQ_CIRc_OVR. -/
def ACQ_CIR_OVR (a : Nat) : Nat := 0x121008 + 0x10 * a
/-- ACQ: ACQ_CIRc_CODEERR. -/
def ACQ_CIR_CODEERR (a : Nat) : Nat := 0x12100c + 0x10 * a
/-- FLT: FLT_STATUS. -/
def FLT_STATUS : Nat := 0x130000
/-- FLT: FLT_SETTLED0–2. -/
def FLT_SETTLED (a : Nat) : Nat := 0x130010 + 0x4 * a
/-- FLT: FLT_ACTIVE0–2. -/
def FLT_ACTIVE (a : Nat) : Nat := 0x130020 + 0x4 * a
/-- FLT: FLT_XF_MASK0–2. -/
def FLT_XF_MASK (a : Nat) : Nat := 0x130030 + 0x4 * a
/-- FLT: FLT_XF_CMD. -/
def FLT_XF_CMD : Nat := 0x130040
/-- FLT: FLT_XF_STATUS. -/
def FLT_XF_STATUS : Nat := 0x130044
/-- FLT: FLT_XF_NS. -/
def FLT_XF_NS : Nat := 0x130048
/-- FLT: FLT_XF_SEC_LO. -/
def FLT_XF_SEC_LO : Nat := 0x13004c
/-- FLT: FLT_HBCOEF0–22. -/
def FLT_HBCOEF (a : Nat) : Nat := 0x130100 + 0x4 * a
/-- FLT: FLT_CHn_CFG. -/
def FLT_CH_CFG (a : Nat) : Nat := 0x131000 + 0x10 * a
/-- FLT: FLT_CHn_OFFSET. -/
def FLT_CH_OFFSET (a : Nat) : Nat := 0x131004 + 0x10 * a
/-- FLT: FLT_CHn_SCALE. -/
def FLT_CH_SCALE (a : Nat) : Nat := 0x131008 + 0x10 * a
/-- FLT: FLT_CHn_FIR. -/
def FLT_CH_FIR (a : Nat) : Nat := 0x13100c + 0x10 * a
/-- PHS: PHS_CTRL. -/
def PHS_CTRL : Nat := 0x140000
/-- PHS: PHS_STATUS. -/
def PHS_STATUS : Nat := 0x140004
/-- PHS: PHS_RANGE. -/
def PHS_RANGE : Nat := 0x140008
/-- PHS: PHS_CIRc_CTRL. -/
def PHS_CIR_CTRL (a : Nat) : Nat := 0x141000 + 0x40 * a
/-- PHS: PHS_CIRc_DELTA. -/
def PHS_CIR_DELTA (a : Nat) : Nat := 0x141004 + 0x40 * a
/-- PHS: PHS_CIRc_FRANGE. -/
def PHS_CIR_FRANGE (a : Nat) : Nat := 0x141008 + 0x40 * a
/-- PHS: PHS_CIRc_RLIM. -/
def PHS_CIR_RLIM (a : Nat) : Nat := 0x14100c + 0x40 * a
/-- PHS: PHS_CIRc_MINMAG. -/
def PHS_CIR_MINMAG (a : Nat) : Nat := 0x141010 + 0x40 * a
/-- PHS: PHS_CIRc_STATUS. -/
def PHS_CIR_STATUS (a : Nat) : Nat := 0x141014 + 0x40 * a
/-- PHS: PHS_CIRc_LAT. -/
def PHS_CIR_LAT (a : Nat) : Nat := 0x141018 + 0x40 * a
/-- PHS: PHS_CIRc_FRAMES. -/
def PHS_CIR_FRAMES (a : Nat) : Nat := 0x14101c + 0x40 * a
/-- PHS: PHS_CIRc_NOSEAT. -/
def PHS_CIR_NOSEAT (a : Nat) : Nat := 0x141020 + 0x40 * a
/-- PHS: PHS_CIRc_OUT_STATUS. -/
def PHS_CIR_OUT_STATUS (a : Nat) : Nat := 0x141028 + 0x40 * a
/-- PHS: PHS_CIRc_OUT_SEQ32. -/
def PHS_CIR_OUT_SEQ32 (a : Nat) : Nat := 0x14102c + 0x40 * a
/-- PHS: PHS_CIRc_OUT_FREQ. -/
def PHS_CIR_OUT_FREQ (a : Nat) : Nat := 0x141030 + 0x40 * a
/-- PHS: PHS_CIRc_OUT_DFREQ. -/
def PHS_CIR_OUT_DFREQ (a : Nat) : Nat := 0x141034 + 0x40 * a
/-- PHS: PHS_CIRc_OUT_STAT. -/
def PHS_CIR_OUT_STAT (a : Nat) : Nat := 0x141038 + 0x40 * a
/-- NRG: NRG_CTRL. -/
def NRG_CTRL : Nat := 0x150000
/-- NRG: NRG_STATUS. -/
def NRG_STATUS : Nat := 0x150004
/-- NRG: NRG_CMD. -/
def NRG_CMD : Nat := 0x150008
/-- NRG: NRG_CMD_STATUS. -/
def NRG_CMD_STATUS : Nat := 0x15000c
/-- NRG: NRG_SNAP_NS. -/
def NRG_SNAP_NS : Nat := 0x150010
/-- NRG: NRG_SNAP_SEC_LO. -/
def NRG_SNAP_SEC_LO : Nat := 0x150014
/-- NRG: NRG_SEQ_STATE. -/
def NRG_SEQ_STATE : Nat := 0x150020
/-- NRG: NRG_NEU_STATE. -/
def NRG_NEU_STATE : Nat := 0x150024
/-- NRG: NRG_REV_STATE. -/
def NRG_REV_STATE : Nat := 0x150028
/-- NRG: PULSEn_CFG. -/
def PULSE_CFG (a : Nat) : Nat := 0x150040 + 0x4 * a
/-- NRG: PULSEn_WEIGHT_LO. -/
def PULSE_WEIGHT_LO (a : Nat) : Nat := 0x150050 + 0x8 * a
/-- NRG: PULSEn_WEIGHT_HI. -/
def PULSE_WEIGHT_HI (a : Nat) : Nat := 0x150054 + 0x8 * a
/-- NRG: PULSEn_COUNT. -/
def PULSE_COUNT (a : Nat) : Nat := 0x150070 + 0x4 * a
/-- NRG: NRG_CIRc_CTRL. -/
def NRG_CIR_CTRL (a : Nat) : Nat := 0x151000 + 0x40 * a
/-- NRG: NRG_CIRc_STATUS. -/
def NRG_CIR_STATUS (a : Nat) : Nat := 0x151004 + 0x40 * a
/-- NRG: NRG_CIRc_VMIN. -/
def NRG_CIR_VMIN (a : Nat) : Nat := 0x151008 + 0x40 * a
/-- NRG: NRG_CIRc_NEU_FRAC. -/
def NRG_CIR_NEU_FRAC (a : Nat) : Nat := 0x15100c + 0x40 * a
/-- NRG: NRG_CIRc_REV_MIN. -/
def NRG_CIR_REV_MIN (a : Nat) : Nat := 0x151010 + 0x40 * a
/-- NRG: NRG_CIRc_PERIODS. -/
def NRG_CIR_PERIODS (a : Nat) : Nat := 0x151014 + 0x40 * a
/-- NRG: NRG_CIRc_FLAGGED. -/
def NRG_CIR_FLAGGED (a : Nat) : Nat := 0x151018 + 0x40 * a
/-- NRG: NRG_CIRc_SAT. -/
def NRG_CIR_SAT (a : Nat) : Nat := 0x15101c + 0x40 * a
/-- TRG: TRG_CTRL. -/
def TRG_CTRL : Nat := 0x160000
/-- TRG: TRG_STATUS. -/
def TRG_STATUS : Nat := 0x160004
/-- TRG: TRG_MARK_HOLD. -/
def TRG_MARK_HOLD : Nat := 0x160008
/-- TRG: TRG_FIRED0–1. -/
def TRG_FIRED (a : Nat) : Nat := 0x160010 + 0x4 * a
/-- TRG: TRG_REC_CTRL. -/
def TRG_REC_CTRL : Nat := 0x160020
/-- TRG: TRG_REC_CMD. -/
def TRG_REC_CMD : Nat := 0x160024
/-- TRG: TRG_REC_RES. -/
def TRG_REC_RES : Nat := 0x160028
/-- TRG: TRG_REC_FLUSH. -/
def TRG_REC_FLUSH : Nat := 0x16002c
/-- TRG: TRG_REC_STATE. -/
def TRG_REC_STATE : Nat := 0x160030
/-- TRG: TRG_CNT0–7. -/
def TRG_CNT (a : Nat) : Nat := 0x160040 + 0x4 * a
/-- TRG: TRG_LANE0–95. -/
def TRG_LANE (a : Nat) : Nat := 0x160100 + 0x4 * a
/-- TRG: TRG_EVn_CFG. -/
def TRG_EV_CFG (a : Nat) : Nat := 0x160400 + 0x20 * a
/-- TRG: TRG_EVn_STATUS. -/
def TRG_EV_STATUS (a : Nat) : Nat := 0x160404 + 0x20 * a
/-- TRG: TRG_EVn_NS. -/
def TRG_EV_NS (a : Nat) : Nat := 0x160408 + 0x20 * a
/-- TRG: TRG_EVn_SEC_LO. -/
def TRG_EV_SEC_LO (a : Nat) : Nat := 0x16040c + 0x20 * a
/-- TRG: TRG_EVn_SEC_HI. -/
def TRG_EV_SEC_HI (a : Nat) : Nat := 0x160410 + 0x20 * a
/-- TRG: TRG_EVn_FRAC. -/
def TRG_EV_FRAC (a : Nat) : Nat := 0x160414 + 0x20 * a
/-- TRG: TRGn_CFG. -/
def TRG_CFG (a : Nat) : Nat := 0x161000 + 0x20 * a
/-- TRG: TRGn_SRC. -/
def TRG_SRC (a : Nat) : Nat := 0x161004 + 0x20 * a
/-- TRG: TRGn_LEVEL. -/
def TRG_LEVEL (a : Nat) : Nat := 0x161008 + 0x20 * a
/-- TRG: TRGn_HYST. -/
def TRG_HYST (a : Nat) : Nat := 0x16100c + 0x20 * a
/-- TRG: TRGn_HOLDOFF. -/
def TRG_HOLDOFF (a : Nat) : Nat := 0x161010 + 0x20 * a
/-- TRG: TRGn_COUNT. -/
def TRG_COUNT (a : Nat) : Nat := 0x161014 + 0x20 * a
/-- SCH: SCH_CTRL. -/
def SCH_CTRL : Nat := 0xd0000
/-- SCH: SCH_STATUS. -/
def SCH_STATUS : Nat := 0xd0004
/-- SCH: SCH_BELL. -/
def SCH_BELL : Nat := 0xd0008
/-- SCH: SCH_TASK_CMD. -/
def SCH_TASK_CMD : Nat := 0xd000c
/-- SCH: SCH_TASK_ARG0. -/
def SCH_TASK_ARG0 : Nat := 0xd0010
/-- SCH: SCH_TASK_ARG1. -/
def SCH_TASK_ARG1 : Nat := 0xd0014
/-- SCH: SCH_TASK_ARG2. -/
def SCH_TASK_ARG2 : Nat := 0xd0018
/-- SCH: SCH_TASK_STATUS. -/
def SCH_TASK_STATUS : Nat := 0xd001c
/-- SCH: SCH_TASK_HANDLE. -/
def SCH_TASK_HANDLE : Nat := 0xd0020
/-- SCH: SCH_TASKS. -/
def SCH_TASKS : Nat := 0xd0024
/-- SCH: SCH_FLAG_TGT. -/
def SCH_FLAG_TGT : Nat := 0xd0028
/-- SCH: SCH_FLAG_SET. -/
def SCH_FLAG_SET : Nat := 0xd002c
/-- SCH: SCH_PEEK_HANDLE. -/
def SCH_PEEK_HANDLE : Nat := 0xd0030
/-- SCH: SCH_PEEK_STATE. -/
def SCH_PEEK_STATE : Nat := 0xd0034
/-- SCH: SCH_PEEK_FLAGS. -/
def SCH_PEEK_FLAGS : Nat := 0xd0038
/-- SCH: SCH_TMR_HANDLE. -/
def SCH_TMR_HANDLE : Nat := 0xd0040
/-- SCH: SCH_TMR_FLAGS. -/
def SCH_TMR_FLAGS : Nat := 0xd0044
/-- SCH: SCH_TMR_NS. -/
def SCH_TMR_NS : Nat := 0xd0048
/-- SCH: SCH_TMR_SEC_LO. -/
def SCH_TMR_SEC_LO : Nat := 0xd004c
/-- SCH: SCH_TMR_SEC_HI. -/
def SCH_TMR_SEC_HI : Nat := 0xd0050
/-- SCH: SCH_TMR_CMD. -/
def SCH_TMR_CMD : Nat := 0xd0054
/-- SCH: SCH_TMR_STATUS. -/
def SCH_TMR_STATUS : Nat := 0xd0058
/-- SCH: SCH_TIMETABLE. -/
def SCH_TIMETABLE : Nat := 0xd005c
/-- SCH: SCH_CNT0–7. -/
def SCH_CNT (a : Nat) : Nat := 0xd0060 + 0x4 * a
/-- SCH: SCH_COVER0–31. -/
def SCH_COVER (a : Nat) : Nat := 0xd0100 + 0x4 * a
/-- SCH: SCH_COVER_BOUND0–31. -/
def SCH_COVER_BOUND (a : Nat) : Nat := 0xd0180 + 0x4 * a
/-- RNG: RNG_ERR_INFO. -/
def RNG_ERR_INFO : Nat := 0xc0000
/-- RNG: RNG_ERR_ADDR_LO. -/
def RNG_ERR_ADDR_LO : Nat := 0xc0008
/-- RNG: RNG_ERR_ADDR_HI. -/
def RNG_ERR_ADDR_HI : Nat := 0xc000c
/-- RNG: RNG_ERRORS. -/
def RNG_ERRORS : Nat := 0xc0010
/-- RNG: RNGr_CTRL. -/
def RNG_CTRL (a : Nat) : Nat := 0xc1000 + 0x40 * a
/-- RNG: RNGr_STATUS. -/
def RNG_STATUS (a : Nat) : Nat := 0xc1004 + 0x40 * a
/-- RNG: RNGr_BASE_LO. -/
def RNG_BASE_LO (a : Nat) : Nat := 0xc1008 + 0x40 * a
/-- RNG: RNGr_BASE_HI. -/
def RNG_BASE_HI (a : Nat) : Nat := 0xc100c + 0x40 * a
/-- RNG: RNGr_HEAD. -/
def RNG_HEAD (a : Nat) : Nat := 0xc1010 + 0x40 * a
/-- RNG: RNGr_TAIL. -/
def RNG_TAIL (a : Nat) : Nat := 0xc1014 + 0x40 * a
/-- RNG: RNGr_THRESH. -/
def RNG_THRESH (a : Nat) : Nat := 0xc1018 + 0x40 * a
/-- RNG: RNGr_CNT0–2. -/
def RNG_CNT (a b : Nat) : Nat := 0xc1020 + 0x40 * a + 0x4 * b
/-- EVT: EVT_STATUS0–1. -/
def EVT_STATUS (a : Nat) : Nat := 0x10000 + 0x4 * a
/-- EVT: EVT_MASK0–1. -/
def EVT_MASK (a : Nat) : Nat := 0x10008 + 0x4 * a
/-- EVT: EVT_VEC0–7. -/
def EVT_VEC (a : Nat) : Nat := 0x10010 + 0x4 * a
/-- EVT: EVT_VPEND. -/
def EVT_VPEND : Nat := 0x10030
/-- EVT: EVT_SOFT. -/
def EVT_SOFT : Nat := 0x10034
/-- EVT: EVT_LOG_CTRL. -/
def EVT_LOG_CTRL : Nat := 0x10038
/-- EVT: EVT_LOG_MASK0–1. -/
def EVT_LOG_MASK (a : Nat) : Nat := 0x10040 + 0x4 * a
/-- EVT: EVT_LOG_SEQ. -/
def EVT_LOG_SEQ : Nat := 0x10048
/-- EVT: EVT_CNT0–63. -/
def EVT_CNT (a : Nat) : Nat := 0x10100 + 0x4 * a
/-- KEY: KEY_CTRL. -/
def KEY_CTRL : Nat := 0x170000
/-- KEY: KEY_STATUS. -/
def KEY_STATUS : Nat := 0x170004
/-- KEY: KEY_POLICY. -/
def KEY_POLICY : Nat := 0x170008
/-- KEY: KEY_FLOOR. -/
def KEY_FLOOR : Nat := 0x17000c
/-- KEY: KEY_FLOOR_FUSE. -/
def KEY_FLOOR_FUSE : Nat := 0x170010
/-- KEY: KEY_TAMPER_CFG. -/
def KEY_TAMPER_CFG : Nat := 0x170014
/-- KEY: KEY_TAMPER_STATUS. -/
def KEY_TAMPER_STATUS : Nat := 0x170018
/-- KEY: KEY_TAMPER_CNT. -/
def KEY_TAMPER_CNT : Nat := 0x17001c
/-- KEY: KEY_TAMPER_CLR. -/
def KEY_TAMPER_CLR : Nat := 0x170020
/-- KEY: KEY_SLOTS. -/
def KEY_SLOTS : Nat := 0x170024
/-- KEY: KEY_ATT_CNT. -/
def KEY_ATT_CNT : Nat := 0x170028
/-- KEY: KEY_REVOKED0–7. -/
def KEY_REVOKED (a : Nat) : Nat := 0x170040 + 0x4 * a
/-- KEY: KEY_BAD0–7. -/
def KEY_BAD (a : Nat) : Nat := 0x170060 + 0x4 * a
/-- KEY: KEY_CNT0–3. -/
def KEY_CNT (a : Nat) : Nat := 0x170080 + 0x4 * a
/-- RED: RED_ROLE. -/
def RED_ROLE : Nat := 0x180000
/-- RED: RED_CTRL. -/
def RED_CTRL : Nat := 0x180004
/-- RED: RED_STATUS. -/
def RED_STATUS : Nat := 0x180008
/-- RED: RED_TIMES. -/
def RED_TIMES : Nat := 0x18000c
/-- RED: RED_PEER. -/
def RED_PEER : Nat := 0x180010
/-- RED: RED_KICK_MS. -/
def RED_KICK_MS : Nat := 0x180014
/-- RED: RED_KICK. -/
def RED_KICK : Nat := 0x180018
/-- RED: RED_KEY. -/
def RED_KEY : Nat := 0x18001c
/-- RED: RED_DIST. -/
def RED_DIST : Nat := 0x180020
/-- RED: RED_PEER_DIST. -/
def RED_PEER_DIST : Nat := 0x180024
/-- RED: RED_ACHK_CFG. -/
def RED_ACHK_CFG : Nat := 0x180028
/-- RED: RED_ACHK_HDR_LO. -/
def RED_ACHK_HDR_LO : Nat := 0x180030
/-- RED: RED_ACHK_HDR_HI. -/
def RED_ACHK_HDR_HI : Nat := 0x180034
/-- RED: RED_CNT0–7. -/
def RED_CNT (a : Nat) : Nat := 0x180040 + 0x4 * a
/-- RED: RED_MM_STATUS. -/
def RED_MM_STATUS : Nat := 0x180060
/-- RED: RED_MM_INFO. -/
def RED_MM_INFO : Nat := 0x180064
/-- RED: RED_MM_SEQ32. -/
def RED_MM_SEQ32 : Nat := 0x180068
/-- FJL: FJL_CTRL. -/
def FJL_CTRL : Nat := 0x190000
/-- FJL: FJL_STATUS. -/
def FJL_STATUS : Nat := 0x190004
/-- FJL: FJL_CNT0–3. -/
def FJL_CNT (a : Nat) : Nat := 0x190010 + 0x4 * a
/-- FJL: FJL_SHARE0–63. -/
def FJL_SHARE (a : Nat) : Nat := 0x190100 + 0x4 * a
/-- FJL: FJL_DECMAP0–7. -/
def FJL_DECMAP (a : Nat) : Nat := 0x190200 + 0x4 * a
/-- FJL: FJL_Lk_CTRL. -/
def FJL_L_CTRL (a : Nat) : Nat := 0x191000 + 0x40 * a
/-- FJL: FJL_Lk_STATUS. -/
def FJL_L_STATUS (a : Nat) : Nat := 0x191004 + 0x40 * a
/-- FJL: FJL_Lk_CNT0–5. -/
def FJL_L_CNT (a b : Nat) : Nat := 0x191010 + 0x40 * a + 0x4 * b
/-- PWR: PWR_DOMAIN_EN. -/
def PWR_DOMAIN_EN : Nat := 0x20000
/-- PWR: PWR_DOMAIN_STATUS. -/
def PWR_DOMAIN_STATUS : Nat := 0x20004
/-- PWR: PWR_CMD. -/
def PWR_CMD : Nat := 0x20008
/-- PWR: PWR_STATUS. -/
def PWR_STATUS : Nat := 0x2000c
/-- PWR: PWR_WAKE0–1. -/
def PWR_WAKE (a : Nat) : Nat := 0x20010 + 0x4 * a
/-- PWR: PWR_RESET_CAUSE. -/
def PWR_RESET_CAUSE : Nat := 0x20018
/-- PWR: PWR_GOV_CTRL. -/
def PWR_GOV_CTRL : Nat := 0x20020
/-- PWR: PWR_GOV_TARGET. -/
def PWR_GOV_TARGET : Nat := 0x20024
/-- PWR: PWR_GOV_ALARM. -/
def PWR_GOV_ALARM : Nat := 0x20028
/-- PWR: PWR_GOV_LIMIT. -/
def PWR_GOV_LIMIT : Nat := 0x2002c
/-- PWR: PWR_GOV_VCORE. -/
def PWR_GOV_VCORE : Nat := 0x20030
/-- PWR: PWR_GOV_REQ. -/
def PWR_GOV_REQ : Nat := 0x20034
/-- PWR: PWR_GOV_STATUS. -/
def PWR_GOV_STATUS : Nat := 0x20038
/-- PWR: PWR_GOV_CNT0–3. -/
def PWR_GOV_CNT (a : Nat) : Nat := 0x20040 + 0x4 * a
/-- TMX: TMX_CTRL. -/
def TMX_CTRL : Nat := 0x1a0000
/-- TMX: TMX_STATUS. -/
def TMX_STATUS : Nat := 0x1a0004
/-- TMX: TMX_OBS_SEL0–3. -/
def TMX_OBS_SEL (a : Nat) : Nat := 0x1a0010 + 0x4 * a

end Sys2Proof.Machine.Reg
end

