-- ==== Sys2Proof/Machine/Tab.lean ====
section
/-! DEFINITION. A table in canonical form: the value of every key, written as the list of the keys whose value differs
from the table's default, with strictly rising keys. Register files, seats, forms, key slots, HBM3 and every other
indexed state of the machine are held so: two equal tables are equal lists, and State stays plain data. -/

namespace Sys2Proof.Machine

/-- A table of values by number. A key that is not listed holds the default the reader names. -/
abbrev Tab (α : Type) := List (Nat × α)

/-- The value of key `k`; `d` gives the value of a key that is not listed. -/
def Tab.get {α : Type} (d : Nat → α) : Tab α → Nat → α
  | [], k => d k
  | (j, v) :: t, k => if j = k then v else Tab.get d t k

/-- The table without key `k`: the key holds its default again. -/
def Tab.erase {α : Type} (t : Tab α) (k : Nat) : Tab α := t.filter (fun e => decide (e.1 ≠ k))

/-- The table in which key `k` is listed with value `v`. -/
def Tab.insert {α : Type} : Tab α → Nat → α → Tab α
  | [], k, v => [(k, v)]
  | (j, w) :: t, k, v =>
    if j = k then (k, v) :: t else if k < j then (k, v) :: (j, w) :: t else (j, w) :: Tab.insert t k v

/-- The table in which key `k` holds `v`; a default value is not listed. -/
def Tab.put {α : Type} [DecidableEq α] (d : Nat → α) (t : Tab α) (k : Nat) (v : α) : Tab α :=
  if v = d k then t.erase k else t.insert k v

/-- The canonical form: keys strictly rising, no entry equal to its default. -/
def Tab.wf {α : Type} [DecidableEq α] (d : Nat → α) : Tab α → Bool
  | [] => true
  | (k, v) :: t => decide (v ≠ d k) && t.all (fun e => decide (k < e.1)) && Tab.wf d t

/-- The table with every key in `[lo, hi)` back at its default. -/
def Tab.clear {α : Type} (t : Tab α) (lo hi : Nat) : Tab α :=
  t.filter (fun e => !(decide (lo ≤ e.1) && decide (e.1 < hi)))

/-- Write a list of values at consecutive keys. -/
def Tab.putList {α : Type} [DecidableEq α] (d : Nat → α) (t : Tab α) (k : Nat) : List α → Tab α
  | [] => t
  | v :: vs => Tab.putList d (Tab.put d t k v) (k + 1) vs

/-- Read `n` values from consecutive keys. -/
def Tab.getList {α : Type} (d : Nat → α) (t : Tab α) (k n : Nat) : List α :=
  (List.range n).map (fun i => Tab.get d t (k + i))

end Sys2Proof.Machine
end

