-- ==== Sys2Proof/Machine/StateA.lean ====
section
/-! DEFINITION. The parts of State that the host link, the events and rings, the time bases, the clock, the triggers and
recorder, the power controller, the key store and the test port hold beside their registers. -/

namespace Sys2Proof.Machine

/-- A time stamp in TB format as one number: seconds modulo 2^48, nanoseconds and the 32-bit fraction (R5),
in units of 2^-32 ns. -/
abbrev Stamp := Nat

/-- How a host request completes (R31-R34, R52). -/
inductive Completion where
  | data (ws : List Word)          -- a BAR0, BAR1 or BAR4 read
  | octets (bs : List Byte)        -- a BAR2 read
  | poisoned (n : Nat)             -- a BAR2 read of n octets with an uncorrectable ECC error (R38)
  | abort                          -- Completer Abort: a bus error on a read (R52)
  | unsupported                    -- Unsupported Request (R32)
deriving DecidableEq, Repr

/-- What the device sends out, in the order it sends it. -/
inductive Output where
  | cpl (c : Completion)                          -- a PCIe completion
  | msix (v : Nat) (addr : Nat) (data : Word)     -- MSI-X message of vector v: the write of its entry's data to its address (R39, R381)
  | frame (port : Nat) (bs : List Byte)           -- an Ethernet frame on port 0-3, FCS included
  | t1s (seg : Nat) (bs : List Byte)              -- a frame on field segment 0-3, FCS included
  | jam (seg : Nat) (pattern : Word)              -- a jam signal on a field segment (R144, R145)
  | pps (n : Nat) (width : Nat)                   -- a PPS_OUT[n] pulse of width µs (R97)
  | pulse (n : Nat) (width : Nat)                 -- a PULSE[n] pulse of width µs (R323)
  | avs (rail : Nat) (mv : Option Nat)            -- an AVSBus command: a write of mv, or a read (R448)
  | fjl (link : Nat) (kind : Nat) (seq : Nat) (bs : List Byte)   -- a Fjarni packet (R431)
  | flashSfdp                                     -- the SFDP table of the SPI flash is read in 1S-1S-1S mode (R67)
  | flashRead (octal : Bool) (base : Nat)         -- the flash is read from an offset on, in 8D-8D-8D mode or with command 0x03 (R67)
  | acTest (cells : Nat) (toggles : Nat)         -- the AC drive cells of the SerDes pairs, pair i in bit i, change that often in Run-Test/Idle (R487, R488)
  | jtag (w : Nat)                                -- the bits a scan brings out at TDO, the first in bit 0 (R486-R491)
deriving DecidableEq, Repr

/-- One entry of the MSI-X table in BAR4 (R35, R39). -/
structure MsixEntry where
  addrLo : Word := 0
  addrHi : Word := 0
  data : Word := 0
  masked : Bool := true
  pend : Bool := false
deriving DecidableEq, Repr

/-- What the function's configuration space holds beside constants (R31, R33, R35, R39): whether it is in D3hot; the Command register;
the bases written to the BARs, by number; the Max payload size and Max read request size codes of Device Control; Link Control, the
target rate of Link Control 2 and the target the link last trained to; MSI-X Enable and Function Mask; the status, mask and severity
registers of Advanced Error Reporting. The values of a reset are the PCIe standard's (PRESUMED, assumption 157). -/
structure Pcie where
  d3hot : Bool := false
  command : Word := 0
  bars : Tab Word := []
  linkCtl : Word := 0
  target : Nat := 5
  trained : Nat := 5
  mps : Nat := 0
  mrrs : Nat := 2
  msixEnable : Bool := false
  msixMask : Bool := false
  aerUncorrectable : Word := 0
  aerUncMask : Word := 0
  aerSeverity : Word := 0x00462030
  aerCorrectable : Word := 0
  aerCorMask : Word := 0x00002000
deriving DecidableEq, Repr

/-- What a ring holds beside its registers (R365-R367). -/
structure RingX where
  /-- returned descriptors not yet reported (PEND) -/
  pend : Nat := 0
  /-- when the first of them was returned -/
  firstAt : Nat := 0
  /-- an exhaustion episode is open -/
  episode : Bool := false
  /-- descriptors taken and not yet returned -/
  wip : Nat := 0
  /-- ring 1: completions, each as octets and STATUS, that wait for a descriptor, oldest first (R367) -/
  owed : List (List (BitVec 8) × Nat) := []
deriving DecidableEq, Repr

/-- The step registers as STEP_GO took them (R92). -/
structure StepReq where
  set : Bool
  onPps : Bool
  sec : Nat
  ns : Nat
deriving DecidableEq, Repr

/-- One time base beside its registers (R87-R109). -/
structure TimeBase where
  /-- the counter: seconds, nanoseconds, fraction and remainder as one number in units of 2^-51 ns -/
  t : Nat := 0
  step : Option StepReq := none
  /-- the trigger of an armed step has been seen -/
  triggered : Bool := false
  /-- when the holdover watchdog last restarted -/
  wdogStart : Nat := 0
  /-- the path-delay reference holds a sample -/
  mpdInit : Bool := false
  /-- deviating samples in a row, and their sum -/
  mpdRun : Nat := 0
  mpdSum : Nat := 0
  /-- the TAI second of the last leap applied -/
  leapAt : Nat := 0
  /-- when the PPS_OUT pulse under way ends -/
  ppsUntil : Nat := 0
  /-- device time at which the time base last left LOCKED -/
  leftAt : Nat := 0
  /-- the last changes into and out of LOCKED, newest first: the counter's time and whether it is LOCKED from then -/
  lockLog : List (Stamp × Bool) := []
deriving DecidableEq, Repr

/-- One entry of a port's transmit time-stamp queue (R110). -/
structure TsqEntry where
  tsid : Nat
  tb : Nat
  stamp : Stamp
deriving DecidableEq, Repr

/-- The real-time clock and its supply beside the RTC registers (R115-R127). -/
structure Rtc where
  /-- the count of ticks, modulo 2^64 -/
  count : Nat := 0
  /-- the value of an armed load; LOAD_MODE decides at the tick edge that applies it (R118) -/
  load : Option Nat := none
  /-- tick number within the trim window, and the RTC_TRIM value the window uses -/
  trimPos : Nat := 0
  trim : Word := 0x0F00
  /-- device time of the last tick edge -/
  lastEdge : Nat := 0
  /-- PD_AON runs from VBAT -/
  onVbat : Bool := true
  /-- the bus interface is locked out (R124) -/
  lockout : Bool := true
  /-- events 12 and 13 to raise once EVT runs -/
  owed12 : Bool := false
  owed13 : Bool := false
deriving DecidableEq, Repr

/-- Arm state of a trigger direction (R329). -/
inductive Arm where
  | idle
  | disarmed
  | armed
deriving DecidableEq, Repr

/-- One trigger beside its registers. -/
structure Trig where
  rise : Arm := .idle
  fall : Arm := .idle
  /-- the value before the next one, where one is held -/
  prev : Option Word := none
  /-- the last fire times, on the acquisition time base: holdoff runs from them (R329) -/
  firedRise : Option Stamp := none
  firedFall : Option Stamp := none
deriving DecidableEq, Repr

/-- One firing within a mark (R339). -/
structure MarkEntry where
  trig : Nat
  kind : Nat
  back : Nat
  tap : Nat
  delta : Nat
deriving DecidableEq, Repr

/-- A mark whose hold is open (R333). -/
structure Mark where
  anchor : Stamp
  entries : List MarkEntry
  /-- device time at which the hold closes -/
  closeAt : Nat
deriving DecidableEq, Repr

/-- A sample at a tap of the decimation chain (R275, R281): its stamp, its Q1.31 word and its flags
(0 UNSETTLED, 1 FAULT, 2 OVR, 3 XFADE). -/
structure Sample where
  stamp : Stamp
  val : Word
  flags : Nat
deriving DecidableEq, Repr

/-- A record waiting for ring 16 (R340, R341). -/
structure RecItem where
  octets : List Byte
  mark : Bool
  seq : Nat
deriving DecidableEq, Repr

/-- The ring-16 buffer being filled (R340). -/
structure RecBuf where
  octets : List Byte
  count : Nat
  mark : Bool
  firstSeq : Nat
  since : Nat
deriving DecidableEq, Repr

/-- The recorder beside its registers (R335-R341). -/
structure Recorder where
  running : Bool := false
  /-- STOP was accepted: start of the frame whose DATA record carries LAST -/
  stopAt : Option Stamp := none
  first : Bool := false
  /-- start of the next frame to emit -/
  frame : Stamp := 0
  seq : Nat := 0
  fifo : List RecItem := []
  buf : Option RecBuf := none
  lostFrames : Nat := 0
  lostMarks : Nat := 0
  gapFrom : Option Stamp := none
deriving DecidableEq, Repr

/-- One EVT_IN pin beside its registers: when its TDC took its latest edges, newest first (R478); whether the next edge is taken, where a
pulse too short for it to differ lies before it (R479); and whether it is rejected with the last one (R334). -/
structure EvtIn where
  recent : List Nat := []
  mate : Option Bool := none
  reject : Bool := false
deriving DecidableEq, Repr

/-- A key slot: its metadata (R392), material and integrity tag (R394), and whether an upset has changed what is stored, so that the tag
no longer fits it. `state` is 0 EMPTY, 1 VALID, 2 REVOKED, 3 BAD. -/
structure KeySlot where
  state : Nat := 0
  type : Nat := 0
  origin : Nat := 0
  retain : Bool := false
  depth : Nat := 0
  parent : Option Nat := none
  usage : Nat := 0
  label : Nat := 0
  gen : Nat := 0
  material : List Byte := []
  pub : List Byte := []
  tag : List Byte := []
  upset : Bool := false
deriving DecidableEq, Repr

/-- The HMAC_DRBG of the key store (R396): key, value and the number of draws from the noise source. -/
structure Drbg where
  k : List Byte := []
  v : List Byte := []
  reseed : Nat := 0
  draws : Nat := 0
deriving DecidableEq, Repr

/-- The key store and tamper watch beside the KEY registers (R387-R413). -/
structure Keys where
  slots : Tab KeySlot := []
  drbg : Drbg := {}
  /-- steps 3 and 4 of R410 wait for the next key-store start -/
  pending : Bool := false
  /-- event 14 is owed once EVT runs -/
  owed14 : Bool := false
  /-- revocations of slots 1-4 kept in PD_AON, bit s -/
  revoked : Nat := 0
  /-- the levels at TAMPER_IN[3:0] that have persisted for FILT, and the mesh fault (R409) -/
  pins : Nat := 0
  mesh : Bool := false
deriving DecidableEq, Repr

/-- What a request of the governor to the regulator asks (R448). -/
inductive GovAsk where
  | read
  | auto (mv : Nat)
  | manual (mv : Nat)
deriving DecidableEq, Repr

/-- The phase a start-up is due from (R450, R452). -/
inductive StartPhase where
  | full
  | domains
deriving DecidableEq, Repr

/-- The power controller, governor and supplies beside the PWR registers (R440-R449, R468, R472, R484). -/
structure Power where
  /-- start-up due, and from which step -/
  start : Option StartPhase := none
  /-- PERST# is asserted -/
  perst : Bool := false
  /-- a wake event has been raised outside RUN (R443) -/
  wakeHeld : Bool := false
  /-- start of the governor's window and its smallest slack in units of a stamp -/
  winStart : Nat := 0
  minSlack : Option Int := none
  /-- when the regulator last acknowledged, and the request under way with its failures so far -/
  ackAt : Option Nat := none
  ask : Option (GovAsk × Nat) := none
  /-- requests that wait for it to be answered, oldest first -/
  asks : List GovAsk := []
  /-- event 62 is armed (R484) -/
  thermArmed : Bool := true
  /-- modulator bank supplies in mV (R472) -/
  bankMv : Tab Nat := []
deriving DecidableEq, Repr

/-- The test access port beside TMX_STATUS (R486-R491): what the next TMX_ACCESS Capture-DR loads, and the update latches of the
boundary register, cell i in bit i (R488). -/
structure Tap where
  data : Word := 0
  err : Bool := false
  update : BitVec 298 := 0
deriving DecidableEq, Repr

end Sys2Proof.Machine
end

