-- ==== Sys2Proof/Machine/StateB.lean ====
section
/-! DEFINITION. The parts of State that local acquisition, the filters, phasor estimation and the energy engine hold beside
their registers and tables. -/

namespace Sys2Proof.Machine

/-- One stage of a channel's decimation chain: the inputs it has taken in, newest first, and those that wait. -/
structure Stage where
  win : List Sample := []
  inq : List Sample := []
deriving DecidableEq, Repr

/-- One channel of acquisition (R272-R283). -/
structure Chan where
  /-- instant of the next modulator bit -/
  pos : Stamp := 0
  /-- the last bits, +1 or -1, newest first; absent ones are cleared memory -/
  bits : List Int := []
  last : Bool := false
  /-- bits since the data last changed, valid cells since the last violation -/
  run : Nat := 0
  good : Nat := 0
  /-- the channel is in FAULT; and its entry into FAULT is not yet recorded and reported (R273) -/
  fault : Bool := false
  entered : Bool := false
  /-- consecutive sinc outputs at or beyond the overrange limit, and below it -/
  high : Nat := 0
  low : Nat := 0
  /-- the next output at tap 0, 1, 6 is marked UNSETTLED (R282) -/
  mark0 : Bool := false
  mark1 : Bool := false
  mark6 : Bool := false
  /-- stages 1-6 -/
  stages : Tab Stage := []
  /-- tap-6 samples, newest first -/
  hist : List Sample := []
  /-- changes of SCALE, newest first: the stamp of the first tap-0 sample that the new value applies to, and the value before (R282) -/
  scales : List (Stamp × Word) := []
deriving DecidableEq, Repr

/-- The modulator clock of a circuit (R268, R270): whether it runs, its first edge, the device time at which it fell after EN was cleared,
and the changes of SDLY, newest first: the edge of the first bit that the new value applies to, and the value before (R288). -/
structure ModClk where
  run : Bool := false
  first : Stamp := 0
  fallAt : Nat := 0
  sdlys : List (Stamp × Nat) := []
deriving DecidableEq, Repr

/-- A bank cross-fade under way (R284): channels, log2 L, stamp of sample 1, channels that have passed sample L. -/
structure Fade where
  mask : Nat
  len : Nat
  start : Stamp
  done : Nat
deriving DecidableEq, Repr

/-- One circuit of phasor estimation (R296, R303). -/
structure PhsCirc where
  /-- only instants later than the enabling or the last restart, and than the last one emitted, are estimated (R303) -/
  after : Stamp := 0
  last : Stamp := 0
  /-- compensation offset df, binary64 -/
  df : Nat := 0
deriving DecidableEq, Repr

/-- A run of an energy circuit that waits for the end of the one before it (R307, R320): f0, second and number of its first period, and
where it stops. -/
structure NrgRun where
  f60 : Bool := false
  sec : Nat := 0
  k : Nat := 0
  stopAt : Option Stamp := none
deriving DecidableEq, Repr

/-- One circuit of the energy engine (R307-R322). -/
structure NrgCirc where
  run : Bool := false
  /-- start of the first period of the run -/
  first : Stamp := 0
  /-- runs enabled while the periods of this one are still being accounted -/
  later : List NrgRun := []
  /-- CORR_EN and CBANK with the times of the writes that set them, newest first (R313) -/
  corrs : List (Stamp × Bool × Bool) := []
  f60 : Bool := false
  /-- TAI second and number k of the next period to account -/
  sec : Nat := 0
  k : Nat := 0
  /-- after the period that ends here the circuit stops -/
  stopAt : Option Stamp := none
  /-- correction in use: enabled, bank B; and each channel's RMS over the last period, binary64 -/
  corr : Bool := false
  bank : Bool := false
  rms : Tab Nat := []
  /-- the billing interval: its start, flag bits 8-14, periods, flagged periods -/
  start : Stamp := 0
  flags : Nat := 0
  periods : Nat := 0
  flagged : Nat := 0
  /-- records posted -/
  seq : Nat := 0
  /-- the interval that ends where the next period starts is already closed -/
  closed : Bool := true
  /-- run counts of the detectors -/
  runSeq : Nat := 0
  runNeu : Nat := 0
  runDir : Nat := 0
  /-- sign of the run towards a direction: negative when true -/
  dirNeg : Bool := false
deriving DecidableEq, Repr

/-- An accepted NRG_CMD (R317): operation, circuits that still await it, and the boundary. -/
structure NrgCmd where
  op : Nat
  left : Nat
  at_ : Stamp
deriving DecidableEq, Repr

/-- One pulse output (R323): residue in LSB units, start time and width of the pulses not yet given, and the device time up to which
the last one given is active. -/
structure Pulse where
  r : Nat := 0
  queue : List (Stamp × Nat) := []
  until_ : Nat := 0
deriving DecidableEq, Repr

end Sys2Proof.Machine
end

