-- ==== Sys2Proof/Machine/StateC.lean ====
section
/-! DEFINITION. The parts of State that the Ethernet ports, the field segments and the PRP unit hold beside their
registers. -/

namespace Sys2Proof.Machine

/-- A frame that a port has received and the intake parser has not yet examined (R136): its octets without FCS and
without a PRP trailer, the port it arrived on, its ingress stamp, and the ring it goes to when it is not taken. -/
structure RxFrame where
  octets : List Byte
  port : Nat
  stamp : Stamp
  tb : Nat
  rct : Bool
  ring : Nat
deriving DecidableEq, Repr

/-- A frame without FCS that waits for a MAC: 0 an alarm record, 1 an answer message, 2 a framer output, 3 what the ring of LAN A
sends (R138). `copy` says that it is the LAN B copy of a doubled frame and carries its trailer (R151), `segment` that it is a segment
of an offload descriptor (R142). -/
structure TxFrame where
  source : Nat
  octets : List Byte
  copy : Bool := false
  segment : Bool := false
deriving DecidableEq, Repr

/-- The segments of an offload descriptor that are still to be sent, how many have been (R142), and whether one was discarded
(R139). -/
structure SegJob where
  left : List (List Byte)
  sent : Nat
  lost : Bool := false
deriving DecidableEq, Repr

/-- An entry of a PRP source table (R154). -/
structure PrpEntry where
  mac : Nat
  base : Nat
  mask : Nat
  last : Nat
deriving DecidableEq, Repr

/-- One PRP pair: its source table, most recently used first, and when a trailer-bearing frame last arrived on each LAN. -/
structure Prp where
  table : List PrpEntry := []
  lastA : Option Nat := none
  lastB : Option Nat := none
  since : Nat := 0
deriving DecidableEq, Repr

/-- State of a field segment (R145). -/
inductive SegState where
  | idle
  | defer
  | send
  | jam
  | backoff
deriving DecidableEq, Repr

/-- A frame of ring 10 in a segment's queue: its number among the descriptors taken, and its octets. -/
structure T1sJob where
  num : Nat
  octets : List Byte
deriving DecidableEq, Repr

/-- One field segment beside its registers (R145-R147). -/
structure Segment where
  st : SegState := .idle
  queue : List T1sJob := []
  n : Nat := 0
  /-- when the jam or the back-off ends -/
  until_ : Nat := 0
  /-- when carrier that the unit has sent or received last ended (R144) -/
  quiet : Option Nat := none
  lfsr : Word := 0
  /-- T1S_SEED is loaded at the next draw -/
  seedPend : Bool := true
deriving DecidableEq, Repr

/-- The descriptors of ring 10 taken and not yet returned, oldest first: number, and status once known (R147, R363). -/
structure T1sTaken where
  num : Nat
  status : Option Nat
deriving DecidableEq, Repr

end Sys2Proof.Machine
end

