-- ==== Sys2Proof/Machine/StateD.lean ====
section
/-! DEFINITION. The parts of State that the intake parser, the roll call, the framer and the Fjarni links hold beside their
registers and tables. -/

namespace Sys2Proof.Machine

/-- A seated frame on its way to the roll call (R169, R192): seat code, the carried TAI time, its record with DEV 0, and what the time
base of its form read when it was seated (R201). -/
structure Seated where
  code : Nat
  sec : Nat
  ns : Nat
  record : List Byte
  seatedAt : Stamp := 0
deriving DecidableEq, Repr

/-- A binding moved away from: frames mapped before second `sec` still go to member `member` of `form` (R200). -/
structure OldBind where
  form : Nat
  member : Nat
  sec : Nat
deriving DecidableEq, Repr

/-- An installed seat beside its descriptor (R178, R184, R200). -/
structure Seat where
  form : Nat
  member : Nat
  /-- a MOVE accepted and not yet in effect: destination form and member, and its second S -/
  move : Option (Nat × Nat × Nat) := none
  old : Option OldBind := none
  /-- device time of the last seated frame, or of the ADD -/
  heard : Nat := 0
deriving DecidableEq, Repr

/-- The parameters of a form as START or RETIME commits them (R187, R195, R199). -/
structure FormPar where
  tb : Nat := 0
  relEvt : Bool := false
  slipEvt : Bool := false
  rate : Nat := 0
  depth : Nat := 4
  ldepth : Nat := 4
  slot : Nat := 1
  capu : Nat := 1
  lateRec : Bool := false
  d : Nat := 10000
  tardy : Nat := 0
  tol : Nat := 100
  store : Nat := 0
deriving DecidableEq, Repr

/-- An instant of a form: TAI second and index k (R182). -/
structure Instant where
  sec : Nat
  k : Nat
deriving DecidableEq, Repr

/-- An open roll: its instant and the members present (R185, R186). -/
structure OpenRoll where
  at_ : Instant
  present : List Nat
deriving DecidableEq, Repr

/-- A record for ring 13 that waits for the ring-12 descriptors of the bell: its octets and its two descriptor words (R198, R376). -/
structure Slip where
  octets : List (BitVec 8)
  w10 : Nat
  w14 : Nat
deriving DecidableEq, Repr

/-- A form beside its registers (R181-R201). -/
structure Form where
  /-- parameters, newest first, each from a TAI second on -/
  pars : List (Nat × FormPar) := []
  /-- the staged parameters of a RETIME and its second S -/
  staged : Option (Nat × FormPar) := none
  /-- S of each RETIME applied, until a roll has carried RETIMED -/
  retimed : List Nat := []
  /-- first roll, next roll to release, last roll released, resume instant of the latest GAP -/
  first : Instant := ⟨0, 0⟩
  next : Instant := ⟨0, 0⟩
  last : Option Instant := none
  resume : Option Instant := none
  /-- the roll of `next` carries GAP -/
  gap : Bool := false
  /-- form time of the write of RCL_CTRL.EN that the form next acts on -/
  heldAt : Option Stamp := none
  rolls : List OpenRoll := []
  /-- seat codes by member index, plus 1 -/
  members : Tab Nat := []
  /-- indices in quarantine, and the count of releases at removal (R184) -/
  quarantine : List (Nat × Nat) := []
  releases : Nat := 0
  /-- release times of the rolls, newest first, by their frames a second and instant, for LATENESS (R198) -/
  relLog : List (Nat × Instant × Stamp) := []
  /-- slips and late records granted at a bell, until the rolls that it closed are delivered, oldest first (R198) -/
  slips : List Slip := []
deriving DecidableEq, Repr

/-- A released roll as consumers take it (R190): its form, rate, instant, image offset and image geometry. -/
structure Roll where
  form : Nat
  tb : Nat
  rate : Nat
  at_ : Instant
  image : Nat
  cap : Nat
  slot : Nat
  flags : Nat
deriving DecidableEq, Repr

/-- A TCP connection of the intake parser (R166): the octets of a frame not yet whole. -/
structure TcpConn where
  part : List Byte := []
deriving DecidableEq, Repr

/-- A Fjarni packet that awaits its ACK or a credit (R431). -/
structure Packet where
  kind : Nat
  src : Nat
  dst : Nat
  hops : Nat
  payload : List Byte
deriving DecidableEq, Repr

/-- One Fjarni link beside its registers (R431, R432). -/
structure Link where
  /-- packets sent and not acknowledged, oldest first, and how often each of them has been resent -/
  sent : List Packet := []
  tries : List Nat := []
  /-- packets that wait for credits -/
  waiting : List Packet := []
  credits : Nat := 64
  /-- buffers freed since the last report -/
  freed : Nat := 0
  /-- sequence number of the next packet, and of the last received in order -/
  txSeq : Nat := 0
  rxSeq : Nat := 0xFFFF
  /-- device time since which an ACK is awaited, and the start of CHECK -/
  since : Nat := 0
  checkAt : Nat := 0
deriving DecidableEq, Repr

end Sys2Proof.Machine
end

