-- ==== Sys2Proof/Machine/StateE.lean ====
section
/-! DEFINITION. The parts of State that the fabric, the lessons, the alarm path, the answer check, the scheduler and the image
loader hold beside their registers. -/

namespace Sys2Proof.Machine

/-- A result record of a desk (R219): 1-16 words and the exception bits INVALID, DIVZERO, OVERFLOW, UNDERFLOW. -/
structure Record where
  words : List Word
  exc : Nat
deriving DecidableEq, Repr

/-- A staging bank of a report card (R219): the records of one lesson's roll by logical desk. -/
structure Bank where
  lesson : Nat
  records : Tab (Option Record) := []
deriving DecidableEq, Repr

/-- A word of a slate with its parity bit (R214). -/
structure SlateWord where
  w : Word := 0
  parity : Bool := false
deriving DecidableEq, Repr

/-- A lesson's roll in progress in a classroom (R209, R215, R216): device time at which its desks last moved on, the roll's image and
the committed table; how often each slot has fired, by 512 d + slot; the word each connection holds unacknowledged, by number; how many
words each connection has been given from outside the desks, and how many an end outside them has taken; sticky exceptions by desk
(R211); record words, by 16 d + position. What the run has overwritten of the committed lesson state, newest first, by slate word and
by chalkboard word (R73); the 64-bit chalkboard words that it read with an uncorrectable error (R228); and the logical desks that hold
an operation's operands and do not fire, each with the device time since which (R227). -/
structure Run where
  tag : Nat
  since : Nat := 0
  image : Nat := 0
  table : List Byte := []
  fired : Tab Nat := []
  chans : Tab (Option Word) := []
  given : Tab Nat := []
  taken : Tab Nat := []
  exc : Tab Nat := []
  words : Tab (Option Word) := []
  undoSlates : List (Nat × SlateWord) := []
  undoBoard : List (Nat × Word) := []
  ue : List Nat := []
  waits : List (Nat × Nat) := []
deriving DecidableEq, Repr

/-- Committed lesson state of a classroom (R73): slates by 1,024 d + word over logical desks, the chalkboard by word, and the 64-bit
words of it that an uncorrectable error has hit (R228). -/
structure Memo where
  slates : Tab SlateWord := []
  board : Tab Word := []
  bad : List Nat := []
deriving DecidableEq, Repr

/-- A classroom beside its FAB registers: banks, records offered on a lane and not yet taken (desk, lesson), states of the
physical desks (0 UNCHECKED, 1 ACTIVE, 2 SPARE, 3 RETIRED; R226), lesson plan, lessons whose roll in progress met a CB_UE (R228),
and a repair the loader owes (R77, R78); slates by 1,024 p + word and operation stores by physical desk (R209, R214); the chalkboard
by word, with the 64-bit words that an uncorrectable error has hit (R217, R228); words in flight to a neighbour, by 2 k + 1 upwards
and 2 k downwards (R216); rolls in progress; which input each node of the report card's arbiter tree granted last, node n with its
inputs 2 n and 2 n + 1, true for the latter (R220); and the committed state that cover mode holds of it (R72, R73). -/
structure Classroom where
  banks : List Bank := []
  stalled : List (Nat × Nat) := []
  slates : Tab SlateWord := []
  stores : Tab (List OpSlot) := []
  board : Tab Word := []
  bad : List Nat := []
  flight : Tab (Option Word) := []
  runs : List Run := []
  tree : Tab Bool := []
  kept : Memo := {}
  desks : Tab Nat := []
  plan : Option ClassPlan := none
  ue : List Nat := []
  owed : Bool := false
deriving DecidableEq, Repr

/-- The values a commit takes for an instance (R234, R235). -/
structure Commit where
  bank : Bool := false
  par : List Word := []
  table : List Byte := []
  res : Nat := 0
  rdepth : Nat := 0
deriving DecidableEq, Repr

/-- The roll from which an accepted commit acts: the next not begun, or the first at or after a SEQ32 (R235). -/
inductive CommitAt where
  | now
  | seq (at_ : Nat)
deriving DecidableEq, Repr

/-- A comparator of a THR instance (R244): its state, counter and the value of signal A in the last roll, if usable. -/
structure Comp where
  on : Bool := false
  count : Nat := 0
  prev : Option Word := none
deriving DecidableEq, Repr

/-- A tie of an ISL instance (R255). -/
structure Tie where
  apart : Bool := false
  count : Nat := 0
deriving DecidableEq, Repr

/-- An OSC mode: frequency, damping, amplitude, and the shape over the SHAPE signals (R250). -/
structure Mode where
  f : Word := 0
  zeta : Word := 0
  amp : Word := 0
  shape : List (Word × Word) := []
deriving DecidableEq, Repr

/-- A track of an OSC instance: number, frequency when last seen, alarm state and run (R251, R252). -/
structure Track where
  num : Nat
  f : Word
  on : Bool
  run : Nat
deriving DecidableEq, Repr

/-- The state of an OSC instance (R250-R252): the signals' values in recent rolls by instant index, each signal's last update
value and the updates it has held; the numeric state of the subspace iteration; updates since reset; tracks; last reported modes. -/
structure Osc where
  vals : List (Nat × List (Option Word)) := []
  held : List (Option Word × Nat) := []
  num : Option OscNum := none
  updates : Nat := 0
  tracks : List Track := []
  nextTrack : Nat := 0
  /-- modes of the last update: track, whether the track is new, mode -/
  modes : List (Nat × Bool × Mode) := []
deriving DecidableEq, Repr

/-- The lesson state of an instance. -/
structure LessonState where
  comps : List Comp := []
  ties : List Tie := []
  groups : Option Nat := none
  resid : Bool := false
  osc : Osc := {}
deriving DecidableEq, Repr

/-- What an instance computes from a roll: payload, decision bits, VAL0, VAL1, the state after, and whether the kind's event is
due with its counter. -/
structure Result where
  payload : List Byte := []
  dec : Nat := 0
  val0 : Option Word := some 0
  val1 : Word := 0
  state : LessonState := {}
  detects : Nat := 0
  changes : Nat := 0
deriving DecidableEq, Repr

/-- What cover computes of a roll beside the result (R73, R358): the records by global desk index, the slate words (classroom,
1,024 d + word) and chalkboard words (classroom, word) that it leaves, and the uncorrectable chalkboard errors it meets (classroom,
64-bit word; R228). -/
structure CoverRun where
  records : List (Nat × Record) := []
  slates : List (Nat × Nat × SlateWord) := []
  board : List (Nat × Nat × Word) := []
  ue : List (Nat × Nat) := []
deriving DecidableEq, Repr

/-- A roll an instance has begun; `at_` is the offset of its result entry under the commit it began with (R238). -/
structure Begun where
  roll : Roll
  result : Result
  cover : Bool
  reset : Bool
  bank : Bool
  at_ : Nat := 0
  run : CoverRun := {}
deriving DecidableEq, Repr

/-- A lesson instance beside its LSN registers (R231-R238). -/
structure Lesson where
  inst : Option Instance := none
  pending : Option Roll := none
  begun : Option Begun := none
  /-- a roll that cover has begun and still has to publish while the classroom, handed back with a fresh lesson state, goes on (R73) -/
  held : Option Begun := none
  /-- skipped rolls that await the publication of the roll begun before them -/
  skips : List Roll := []
  /-- a spanned classroom has been STARVED since the roll in the pending place was delivered: the lesson starts at the next (R357) -/
  starved : Bool := false
  use : Option Commit := none
  next : Option (Commit × CommitAt) := none
  state : LessonState := {}
  /-- the next result carries RESET -/
  fresh : Bool := false
  /-- instant and rate code of the last roll processed, for RATE (R243), and SEQ32 of the last roll begun (R235) -/
  last : Option (Instant × Nat) := none
  lastSeq : Option Nat := none
  /-- the last set that the device collector took: by word position the reduced word, or under NONE every contributor's (R221),
  and the records by global desk index (R222) -/
  reduced : List (List Word) := []
  set : List (Nat × Record) := []
deriving DecidableEq, Repr

/-- An entry of an answer message (R427). -/
structure AnsEntry where
  kind : Nat
  flags : Nat
  form : Nat
  inst : Nat
  seq : Nat
  d1 : List Byte
  d2 : List Byte
  present : Nat
deriving DecidableEq, Repr

/-- A key of the answer check (R429): both units' entries, REL and FIN of a roll, or DECISION as FIN; and when the own ones
arose. -/
structure AnsKey where
  roll : Bool
  form : Nat
  inst : Nat
  seq : Nat
  relAt : Nat := 0
  finAt : Nat := 0
  ownRel : Option AnsEntry := none
  ownFin : Option AnsEntry := none
  peerRel : Option AnsEntry := none
  peerFin : Option AnsEntry := none
deriving DecidableEq, Repr

/-- A roll whose tardy window is open (R425, R427): entry so far, and the end of the window on the form's time base. -/
structure Window where
  tb : Nat
  until_ : Stamp
  fin : AnsEntry
  at_ : Instant
deriving DecidableEq, Repr

/-- The answer check beside the RED registers (R425-R429). -/
structure Answers where
  batch : List AnsEntry := []
  since : Nat := 0
  lastSent : Nat := 0
  seq : Nat := 0
  windows : List Window := []
  keys : List AnsKey := []
  /-- whether the REL entries of recent rolls differed: form, SEQ32, differ -/
  rels : List (Nat × Nat × Bool) := []
  /-- instances whose previous classified decision had D2 differ -/
  carry : List Nat := []
  heard : Nat := 0
deriving DecidableEq, Repr

/-- The hall pass beside RED_STATUS (R419-R421): times since which the conditions hold. -/
structure HallPass where
  healthySince : Nat := 0
  ilkSince : Nat := 0
  claimSince : Nat := 0
  kickAt : Option Nat := none
  /-- the level this unit drives at ILK_OUT: low when true -/
  drives : Bool := false
deriving DecidableEq, Repr

/-- The alarm path beside its registers (R258): raw(15:0), and SEQ32 of the latest publication. -/
structure Alarms where
  raw : Nat := 0
  seq : Word := 0
  /-- the decision vector last received from board position q (R435) -/
  shared : Tab Nat := []
deriving DecidableEq, Repr

/-- A roll's slack in the making (R22): subscribed lessons still to publish it, the last publication, the next release. -/
structure SlackRec where
  at_ : Instant
  left : Nat
  pub : Option Stamp := none
  next : Option Stamp := none
deriving DecidableEq, Repr

/-- A task of the scheduler (R345-R348). `state`: 0 FREE, 1 WAIT, 2 READY, 3 RUN, 4 ENDING. -/
structure Task where
  state : Nat := 0
  sys : Bool := false
  gen : Nat := 0
  prio : Nat := 0
  all : Bool := false
  flowEn : Bool := false
  notify : Bool := false
  flow : Nat := 0
  mask : Word := 0
  arg : Word := 0
  flags : Word := 0
deriving DecidableEq, Repr

/-- An armed task timer (R355). -/
structure Timer where
  task : Nat
  tb : Nat
  due : Stamp
  /-- a bell before this one does not fire it -/
  since : Stamp
  flags : Word
  evt : Bool
deriving DecidableEq, Repr

/-- The scheduler beside the SCH registers. -/
structure Sched where
  tasks : Tab Task := []
  /-- ready tasks in the order they became ready -/
  ready : List Nat := []
  busy : List Nat := []
  timers : List Timer := []
  /-- the bell period a time base still uses, and the TAI second at which it takes SCH_BELL (R353) -/
  oldBell : Tab (Nat × Nat) := []
  /-- classrooms in cover, in order of entry (R356) -/
  cover : List Nat := []
deriving DecidableEq, Repr

/-- The image loader beside the IMG registers: what the flash holds, and the classroom sections of cache entry 0. -/
structure Loader where
  /-- octets of the SPI flash; an octet not listed reads as erased, 0xFF -/
  flash : List (Nat × Byte) := []
  /-- the flash answers -/
  present : Bool := false
  /-- the flash declares the JESD251 xSPI Profile 1.0 in its SFDP table, and the mode the loader reads it in: 0 none yet, 1 8D-8D-8D
  at 100 MHz, 2 1S-1S-1S at 50 MHz with command 0x03 (R67) -/
  profile1 : Bool := false
  readMode : Nat := 0
  /-- VERSION of the running syllabus, and the classroom whose UNLOAD waits -/
  version : Nat := 0
  /-- what the device section of the running syllabus fixes beside its boot list: the values of registers marked Image (R8, R265) -/
  device : DevicePlan := {}
  unloading : Option Nat := none
  /-- the boot under way is the warm load after RECESS (R446) -/
  warm : Bool := false
deriving DecidableEq, Repr

end Sys2Proof.Machine
end

