-- ==== Sys2Proof/Syntax.lean ====
section
/-! DEFINITION. The commands of the block: one constructor for each row of spec/opcode_table.json, with the operands the
row's step takes from outside (an address and a value, a frame on the wire, a level on a pin, what an element outside the
part answers). -/

namespace Sys2Proof

/-- The register apertures a host request of one or more DW may aim at (R35), and the function's configuration space (R31). -/
inductive Bar where
  | bar0
  | bar1
  | bar4
  | config
deriving DecidableEq, Repr

/-- The alias views of a unit window (R41). -/
inductive View where
  | set
  | clr
  | tgl
deriving DecidableEq, Repr

/-- What a request to the HBM3 window does (R38): a read of `n` octets, with the offset of an uncorrectable error and the offsets
of the errors it meets that are corrected (R58), or a write of octets, none where its byte enable is clear. -/
inductive Bar2Req where
  | read (n : Nat) (ue : Option Nat) (ce : List Nat)
  | write (bs : List (Option Byte))
deriving DecidableEq, Repr

/-- The desks that a write into a classroom finds failing their self-check, and those that are retired after hand-back, each with its
cause (R72, R78). -/
structure DeskLoss where
  bad : List Nat
  late : List (Nat × Nat)
deriving DecidableEq, Repr

/-- What the FEC of a port reports: whether it is locked, and the codewords it corrected and could not correct since it last did
(R132, R158). -/
structure FecReport where
  lock : Bool
  corr : Nat
  uncorr : Nat
deriving DecidableEq, Repr

/-- A read of chalkboard word `word` for lesson `tag` (R228). -/
structure BoardRead where
  tag : Fin 8
  word : Nat
deriving DecidableEq, Repr

/-- A desk that the watchdog finds, and the physical desks that hang with it (R227). -/
structure DeskWatch where
  desk : Fin 136
  stuck : List Nat := []
deriving DecidableEq, Repr

/-- A ring's access to host memory: a write or a read, and whether it served output in progress (R370). -/
structure RingAccess where
  write : Bool
  work : Bool
deriving DecidableEq, Repr

/-- ECC errors that a read of HBM3 meets, by offset within what is read: an uncorrectable one, and corrected ones (R58, R79, R378). -/
structure EccMet where
  ue : Option Nat := none
  ce : List Nat := []
deriving DecidableEq, Repr

/-- What the tamper watch sees beside its pins: a fault of the mesh, and an operation of ring 20 under way (R409, R410). -/
structure TamperView where
  mesh : Bool
  op : Bool
deriving DecidableEq, Repr

/-- An instruction scan, with the last data scan made before it under the instruction then current, if there was one: the levels at the
balls of the 298 boundary cells and the bits shifted into them (R487, R488). -/
structure JtagScan where
  code : BitVec 8
  data : Option (BitVec 298 × BitVec 298)
  /-- cycles of TCK that the port spends in Run-Test/Idle between the two scans -/
  idle : Nat := 0
deriving DecidableEq, Repr

/-- The main supplies by their bits in BO_SUPPLY (R451): their brown-out thresholds in mV (R468). -/
def brownOutMv : List Nat := [580, 780, 830, 1100, 1000, 360, 1600, 2950]

/-- What the supply monitors see of the main supplies (R450, R468): they ramp in; or some of them fall, supply by its bit in BO_SUPPLY
and the level in mV it falls to, for a time in ns. -/
inductive MainPower where
  | rampIn
  | dip (levels : List (Fin 8 × Nat)) (ns : Nat)
deriving DecidableEq, Repr

/-- The release of a reset (R452, R469): the level at BOARD_POS, and the time in µs since the last main supply is in range. -/
structure Release where
  pos : Fin 8
  steadyUs : Nat
deriving DecidableEq, Repr

/-- A level that ILK_IN takes, and the time in ns for which it stands there (R420, R480). -/
structure IlkEdge where
  level : Bool
  ns : Nat
deriving DecidableEq, Repr

/-- A command, by its row. -/
inductive Instr where
  /-- REGISTER_WRITE (R56): a host write request of one or more DW to a register aperture, with its byte enables -/
  | registerWrite (bar : Bar) (off : Nat) (data : List Word) (fbe lbe : BitVec 4)
  /-- ALIAS_WRITE (R48): a host write of one DW through an alias view of the register at `reg` -/
  | aliasWrite (view : View) (reg : Nat) (v : Word) (be : BitVec 4)
  /-- PAIR_LOW_READ (R46): a host read request of `n` DW; a low half of a pair among them loads its latch and stage -/
  | pairLowRead (bar : Bar) (off n : Nat) (fbe lbe : BitVec 4)
  /-- PAIR_LOW_WRITE (R47): a host write of one DW, the low half of a pair -/
  | pairLowWrite (reg : Nat) (v : Word)
  /-- PAIR_HIGH_WRITE (R47): a host write of one DW, the high half of a pair -/
  | pairHighWrite (reg : Nat) (v : Word)
  /-- PAIR_ATOMIC_ACCESS (R43): a two-DW request at the low half of a pair: a write of low and high word, or a read -/
  | pairAtomicAccess (reg : Nat) (v : Option (Word × Word))
  /-- ATOMICOP_REQUEST (R32): an AtomicOp or locked request to any BAR -/
  | atomicopRequest
  /-- BAR2_ACCESS (R38): a host access through the HBM3 window -/
  | bar2Access (off : Nat) (req : Bar2Req) (fbe lbe : BitVec 4)
  /-- GLB_LOCK_SET (R53): a host write of GLB_LOCK -/
  | glbLockSet (v : Word)
  /-- BUSERR_CLEAR (R52): a host write of GLB_BUSERR_INFO -/
  | buserrClear (v : Word)
  /-- MEM_UE_CLEAR (R58): a host write of GLB_MEM_STATUS -/
  | memUeClear (v : Word)
  /-- DEVICE_RESET (R450): a host write of GLB_RESET -/
  | deviceReset (v : Word)
  /-- FUNCTION_LEVEL_RESET (R33): a function-level reset, or a transition to D3hot -/
  | functionLevelReset (d3hot : Bool)
  /-- PERST (R450): PERST# is asserted -/
  | perst
  /-- MAIN_POWER_ON_RESET (R450): the main supplies ramp in, or some of them fall -/
  | mainPowerOnReset (power : MainPower)
  /-- START_UP (R452): start-up after the release of main power-on reset, with the levels at PAIR_ID and BOARD_POS -/
  | startUp (pairId : Bool) (release : Release)
  /-- BOOT_LOAD (R67): the boot under way ends; (copy, frame) that three reads failed, (classroom, physical desk) that fail self-check -/
  | bootLoad (bad : List (Nat × Nat)) (desks : List (Nat × Nat))
  /-- LOAD (R69): a host write of IMG_LOAD_CMD for LOAD, with the desks that fail self-check -/
  | imgLoad (v : Word) (desks : List (Nat × Nat))
  /-- CACHE (R71): a host write of IMG_LOAD_CMD for CACHE -/
  | imgCache (v : Word)
  /-- UPDATE (R72): a host write of IMG_CLS_CMD for UPDATE; the desks it loses; the errors it meets in the cache -/
  | update (v : Word) (desks : DeskLoss) (ecc : EccMet)
  /-- REPAIR (R75): a host write of IMG_CLS_CMD for REPAIR -/
  | repair (v : Word) (desks : DeskLoss) (ecc : EccMet)
  /-- UNLOAD (R76): a host write of IMG_CLS_CMD for UNLOAD -/
  | unload (v : Word)
  /-- AUTO_REPAIR (R77): the loader repairs classroom `c` by itself -/
  | autoRepair (c : Fin 32) (desks : DeskLoss) (ecc : EccMet)
  /-- TB_ENABLE (R90): a host write of TBn_CTRL with EN = 1 -/
  | tbEnable (n : Fin 4) (v : Word)
  /-- TB_DISABLE (R90): a host write of TBn_CTRL with EN = 0 -/
  | tbDisable (n : Fin 4) (v : Word)
  /-- STEP_GO (R92): a host write of TBn_CTRL with STEP_GO = 1 -/
  | stepGo (n : Fin 4) (v : Word)
  /-- STEP_APPLY (R92): the nanosecond boundary after the trigger of an armed step -/
  | stepApply (n : Fin 4)
  /-- TB_RATE_COMMIT (R88): a host write of TBn_RATE_HI -/
  | tbRateCommit (n : Fin 4) (v : Word)
  /-- HOLD_REQ (R106): a host write of TBn_CTRL with HOLD_REQ = 1 -/
  | holdReq (n : Fin 4) (v : Word)
  /-- HOLD_REL (R90): a host write of TBn_CTRL with HOLD_REL = 1 -/
  | holdRel (n : Fin 4) (v : Word)
  /-- TB_WATCHDOG_EXPIRY (R106): the holdover watchdog of time base `n` expires -/
  | tbWatchdogExpiry (n : Fin 4)
  /-- TB_MPD_SAMPLE (R103): a host write of a mean-path-delay sample -/
  | tbMpdSample (n : Fin 4) (v : Word)
  /-- PLL_LOSS_OF_LOCK (R89): the time-clock PLL loses lock -/
  | pllLossOfLock
  /-- PLL_LOCK (R89): the time-clock PLL gains lock -/
  | pllLock
  /-- PPS_IN_EDGE (R96): an edge at PPS_IN: its direction, how long its level then stays in ns, and its phase in the clock period in
  steps of 8 ps -/
  | ppsInEdge (rising : Bool) (width ph : Nat)
  /-- PPS_OUT_PULSE (R97): the second plus OFFSET at which PPS_OUT[n] goes active -/
  | ppsOutPulse (n : Fin 4)
  /-- LEAP_PEND_START (R108): 59 s before the effect second -/
  | leapPendStart (n : Fin 4)
  /-- LEAP_SECOND_APPLY (R108): the start of the effect second -/
  | leapSecondApply (n : Fin 4)
  /-- LEAP_OCC_EXPIRY (R108): 86,400 s after a leap -/
  | leapOccExpiry (n : Fin 4)
  /-- TSQ_POP (R111): a host write of TSQp_POP -/
  | tsqPop (p : Fin 4) (v : Word)
  /-- RTC_LOAD_ARM (R118): a host write of RTC_LOAD_HI -/
  | rtcLoadArm (v : Word)
  /-- RTC_LOAD_APPLY (R118): the crystal tick edge that applies an armed load -/
  | rtcLoadApply
  /-- RTC_ALARM (R123): the crystal tick edge whose update takes the counter to or past RTC_ALARM -/
  | rtcAlarm
  /-- OSC_STOP (R127): no crystal edge for 4.00 ms -/
  | oscStop
  /-- BAT_LOW_SAMPLE (R127): the sample of VBAT, in mV -/
  | batLowSample (mv : Nat)
  /-- SWITCH_TO_VBAT (R124): VIO18 falls below the switch-over threshold -/
  | switchToVbat
  /-- SWITCH_TO_VIO18 (R124): VIO18 is above the threshold plus hysteresis -/
  | switchToVio18
  /-- PD_AON_POWER_ON_RESET (R126): PD_AON regains power after losing both supplies -/
  | pdAonPowerOnReset
  /-- MAC_CTRL_WRITE (R131): a host write of MAC_CTRL -/
  | macCtrlWrite (p : Fin 4) (v : Word)
  /-- MAC_LINK (R132): the PCS reports block lock, and its FEC -/
  | macLink (p : Fin 4) (block : Bool) (fec : FecReport)
  /-- FRAME_RECEIVE (R134): a frame at port `p`, FCS included; whether the PCS reports an error, the phase of its first bit, and whether
  the port buffer is full -/
  | frameReceive (p : Fin 4) (bs : List Byte) (pcsErr : Bool) (ph : Nat) (full : Bool)
  /-- PRP_LAN_FAULT (R156): FAULT_TIME without a trailer-bearing frame on one LAN -/
  | prpLanFault (q : Fin 2) (lan : Fin 2)
  /-- MAC_TRANSMIT (R138): MAC `p` sends its next frame; the phase of its first bit -/
  | macTransmit (p : Fin 4) (ph : Nat)
  /-- T1S_DESCRIPTOR_TAKE (R147): the T1S unit takes a ring-10 descriptor -/
  | t1sDescriptorTake
  /-- T1S_DEFER_END (R145): one inter-packet gap without carrier on segment `g` -/
  | t1sDeferEnd (g : Fin 4)
  /-- T1S_SEND_COMPLETE (R145): the frame of segment `g` ends without collision -/
  | t1sSendComplete (g : Fin 4)
  /-- T1S_COLLISION (R145): a collision on segment `g` after `bits` bits -/
  | t1sCollision (g : Fin 4) (bits : Nat)
  /-- T1S_BACKOFF_EXPIRY (R145): the back-off of segment `g` ends -/
  | t1sBackoffExpiry (g : Fin 4)
  /-- T1S_SEED_WRITE (R146): a host write of T1S_SEED -/
  | t1sSeedWrite (v : Word)
  /-- T1S_RECEIVE (R148): a frame on segment `g`, FCS included, and whether the segment's buffer is full -/
  | t1sReceive (g : Fin 4) (bs : List Byte) (full : Bool)
  /-- INTAKE_FRAME (R161): the intake parser examines the next frame of port `p` -/
  | intakeFrame (p : Fin 4)
  /-- SEAT_ADD (R174): a host write of ITK_SEAT_CMD for ADD -/
  | seatAdd (v : Word)
  /-- SEAT_REMOVE (R174): a host write of ITK_SEAT_CMD for REMOVE -/
  | seatRemove (v : Word)
  /-- STREAM_SILENT (R178): SILENT_MS without a seated frame of the seat with code `code` -/
  | streamSilent (code : Nat)
  /-- FRAME_FILE (R185): the roll call takes the next seated frame -/
  | frameFile
  /-- ROLL_RELEASE (R188): a bell -/
  | rollRelease
  /-- RCL_ENABLE (R188): a host write of RCL_CTRL -/
  | rclEnable (v : Word)
  /-- START (R199): a host write of RCL_CMD for START -/
  | formStart (v : Word)
  /-- STOP (R199): a host write of RCL_CMD for STOP -/
  | formStop (v : Word)
  /-- RETIME (R199): a host write of RCL_CMD for RETIME -/
  | formRetime (v : Word)
  /-- MOVE (R200): a host write of RCL_CMD for MOVE -/
  | seatMove (v : Word)
  /-- LESSON_BEGIN (R232): instance `i` begins the roll in its pending place -/
  | lessonBegin (i : Fin 64)
  /-- RESULT_RECORD (R219): logical desk `d` of classroom `c` offers its result record of lesson `tag`; physical desks of `c` that hang
  until then, and corrected chalkboard errors met -/
  | resultRecord (c : Fin 32) (d : Fin 128) (tag : Fin 8) (stuck : List Nat) (ce : Nat)
  /-- REPORT_CARD_PUBLISH (R221): the publication of the roll instance `i` has begun -/
  | reportCardPublish (i : Fin 64)
  /-- DESK_WATCHDOG_EXPIRY (R227): an active desk offers no result within the watchdog time -/
  | deskWatchdogExpiry (c : Fin 32) (p : DeskWatch)
  /-- SLATE_PARITY_ERROR (R227): a slate read with a parity error -/
  | slateParityError (c : Fin 32) (p : Fin 136)
  /-- CHALKBOARD_UE (R228): an uncorrectable chalkboard error in a read -/
  | chalkboardUe (c : Fin 32) (rd : BoardRead)
  /-- SELF_CHECK (R225): a host write of FABc_CHECK_CMD, with the desks that fail -/
  | selfCheck (c : Fin 32) (v : Word) (bad : List Nat)
  /-- SPARE_CHECK (R225): the check of each second, with the (classroom, desk) that fail -/
  | spareCheck (bad : List (Nat × Nat))
  /-- REPLICA_MEASURE (R213): the measurement of each millisecond, in ps -/
  | replicaMeasure (c : Fin 32) (ps : Nat)
  /-- ANA_COMMIT (R235): a host write of ANA_COMMIT -/
  | anaCommit (v : Word)
  /-- LATCH_CLEAR (R259): a host write of ANA_LATCH -/
  | latchClear (v : Word)
  /-- ACQ_CIRCUIT_ENABLE (R270): a host write of ACQ_CIRc with EN = 1 -/
  | acqCircuitEnable (c : Fin 12) (v : Word)
  /-- ACQ_CIRCUIT_DISABLE (R270): a host write of ACQ_CIRc with EN = 0 -/
  | acqCircuitDisable (c : Fin 12) (v : Word)
  /-- ACQ_SAMPLE (R275): the next sample of a channel at a tap; at tap 0, what the modulator's line did since the last one: its changes,
  or with Manchester coding the mid-cell transitions, oldest first, as their time-clock periods after the first edge of the window and
  the levels after them -/
  | acqSample (ch : Fin 96) (tap : Fin 7) (periods : List Nat) (levels : List Bool)
  /-- ACQ_MOD_FAULT (R273): a channel meets the fault condition -/
  | acqModFault (ch : Fin 96)
  /-- FLT_XFADE (R284): a host write of FLT_XF_CMD -/
  | fltXfade (v : Word)
  /-- PHASOR_ESTIMATE (R302): the next reporting instant of circuit `c` -/
  | phasorEstimate (c : Fin 12)
  /-- ENERGY_PERIOD (R309): the last sample of a period of circuit `c` is available -/
  | energyPeriod (c : Fin 12)
  /-- PULSE_OUTPUT (R323): a scheduled pulse of PULSE[n] -/
  | pulseOutput (n : Fin 4)
  /-- NRG_INTERVAL_END (R320): a billing boundary -/
  | nrgIntervalEnd
  /-- SNAP (R317): a host write of NRG_CMD for SNAP -/
  | nrgSnap (v : Word)
  /-- NRG_LOAD (R317): a host write of NRG_CMD for LOAD -/
  | nrgLoad (v : Word)
  /-- NRG_CLEAR (R317): a host write of NRG_CMD for CLEAR -/
  | nrgClear (v : Word)
  /-- NRG_CIRCUIT_ENABLE (R307): a host write of a circuit's NRG enable -/
  | nrgCircuitEnable (c : Fin 12) (v : Word)
  /-- EVT_IN_EDGE (R334): an edge at EVT_IN[i]: direction, phase, and how long its level then stays in ns -/
  | evtInEdge (i : Fin 16) (rising : Bool) (ph held : Nat)
  /-- MARK_HOLD_CLOSE (R333): TRG_MARK_HOLD after the first firing of a mark -/
  | markHoldClose
  /-- RECORDER_FRAME (R340): a frame's samples are available on the slowest tap -/
  | recorderFrame
  /-- RECORDER_FLUSH (R340): FLUSH after the first record of a buffer -/
  | recorderFlush
  /-- RECORDER_START (R336): a host write of TRG_REC_CMD for START -/
  | recorderStart (v : Word)
  /-- RECORDER_STOP (R336): a host write of TRG_REC_CMD for STOP -/
  | recorderStop (v : Word)
  /-- CREATE (R347): a host write of SCH_TASK_CMD for CREATE -/
  | taskCreate (v : Word)
  /-- DESTROY (R348): a host write of SCH_TASK_CMD for DESTROY -/
  | taskDestroy (v : Word)
  /-- DONE (R348): a host write of SCH_TASK_CMD for DONE -/
  | taskDone (v : Word)
  /-- FLAG_SET (R349): a host write of SCH_FLAG_SET -/
  | flagSet (v : Word)
  /-- DISPATCH (R350): a dispatch grant, after engines have set flags on system tasks -/
  | dispatch (sets : List (Nat × Word))
  /-- TASK_ENGINE_COMPLETE (R348): an engine completes system task `i` -/
  | taskEngineComplete (i : Nat)
  /-- ARM (R355): a host write of SCH_TMR_CMD for ARM -/
  | timerArm (v : Word)
  /-- DISARM (R355): a host write of SCH_TMR_CMD for DISARM -/
  | timerDisarm (v : Word)
  /-- TIMER_FIRE (R355): a bell, for the task timers -/
  | timerFire
  /-- RING_TAIL_ADVANCE (R363): a host write of RNGr_TAIL -/
  | ringTailAdvance (r : Fin 32) (v : Word)
  /-- RING_ENABLE (R365): a host write of RNGr_CTRL with EN = 1 -/
  | ringEnable (r : Fin 32) (v : Word)
  /-- RING_DISABLE (R365): a host write of RNGr_CTRL with EN = 0 -/
  | ringDisable (r : Fin 32) (v : Word)
  /-- RING_STOPPED (R365): a STOPPING ring has finished its work -/
  | ringStopped (r : Fin 32)
  /-- RING_DMA_ERROR (R370): a failed host-memory access of ring `r`: 0 UR, 1 CA, 2 POISONED, 3 TIMEOUT -/
  | ringDmaError (r : Fin 32) (access : RingAccess) (kind : Fin 4) (addr : Nat)
  /-- RING_COALESCE_TIMER (R366): TIMER after the first pending return of ring `r` -/
  | ringCoalesceTimer (r : Fin 32)
  /-- WRITE (R377): the device takes a WRITE descriptor from ring 0 -/
  | ringWrite
  /-- READ (R377): the device takes a READ descriptor from ring 0 -/
  | ringRead
  /-- COPY (R378): the device takes a COPY descriptor from ring `r`, 24-31, and meets ECC errors -/
  | ringCopy (r : Fin 32) (ecc : EccMet)
  /-- EVT_STATUS_CLEAR (R381): a host write of EVT_STATUSk -/
  | evtStatusClear (k : Fin 2) (v : Word)
  /-- SOFT (R383): a host write of EVT_SOFT -/
  | soft (v : Word)
  /-- GENERATE (R396): the key store takes OP 1 from ring 20 -/
  | keyGenerate
  /-- DERIVE (R400): the key store takes OP 2 from ring 20 -/
  | keyDerive
  /-- IMPORT (R396): the key store takes OP 3 from ring 20 -/
  | keyImport
  /-- FREE (R393): the key store takes OP 4 from ring 20 -/
  | keyFree
  /-- REVOKE (R402): the key store takes OP 5 from ring 20 -/
  | keyRevoke
  /-- MAC (R396): the key store takes OP 6 from ring 20 -/
  | keyMac
  /-- MAC_VERIFY (R396): the key store takes OP 7 from ring 20 -/
  | keyMacVerify
  /-- SIGN (R396): the key store takes OP 8 from ring 20 -/
  | keySign
  /-- VERIFY (R396): the key store takes OP 9 from ring 20 -/
  | keyVerify
  /-- PUBLIC (R396): the key store takes OP 10 from ring 20 -/
  | keyPublic
  /-- ATTEST (R406): the key store takes OP 11 from ring 20 -/
  | keyAttest
  /-- RANDOM (R396): the key store takes OP 12 from ring 20 -/
  | keyRandom
  /-- KEY_SCRUB (R394): the check of each second, with the slots whose stored content an upset has changed -/
  | keyScrub (upset : List Nat)
  /-- TAMPER (R410): levels at TAMPER_IN held for `us` µs, and what the watch sees beside them -/
  | tamper (pins : BitVec 4) (us : Nat) (view : TamperView)
  /-- TAMPER_CLR (R413): a host write of KEY_TAMPER_CLR -/
  | tamperClr (v : Word)
  /-- KEY_FLOOR_WRITE (R408): a host write of KEY_FLOOR -/
  | keyFloorWrite (v : Word)
  /-- HEALTH_CHANGE (R419): a condition of the unit's health changes -/
  | healthChange
  /-- KICK (R419): a host write of RED_KICK -/
  | kick (v : Word)
  /-- KICK_EXPIRY (R419): KICK_MS without a kick -/
  | kickExpiry
  /-- HALL_PASS_CLAIM (R420): HOLD or GUARD has passed -/
  | hallPassClaim
  /-- HALL_PASS_HOLD (R420): 1.00 µs of ILK_IN high in CLAIM has passed -/
  | hallPassHold
  /-- ILK_IN_CHANGE (R420): the level at ILK_IN changes -/
  | ilkInChange (edge : IlkEdge)
  /-- YIELD (R420): a host write of RED_CTRL with YIELD -/
  | hallYield (v : Word)
  /-- ANSWER_SEND (R427): a batch of answer-check entries is due -/
  | answerSend
  /-- ANSWER_RECEIVE (R428): an answer message from the partner -/
  | answerReceive (m : List Byte)
  /-- RED_PEER_LOST (R428): PEER_MS without an accepted message -/
  | redPeerLost
  /-- AWAIT_EXPIRY (R429): AWAIT_MS of a key without its partner entry -/
  | awaitExpiry
  /-- FJL_LINK_ENABLE (R432): a host write of a Fjarni link's control with EN = 1 -/
  | fjlLinkEnable (k : Fin 7) (v : Word)
  /-- FJL_LINK_DISABLE (R432): a host write of a Fjarni link's control with EN = 0 -/
  | fjlLinkDisable (k : Fin 7) (v : Word)
  /-- FJL_LANES_ALIGNED (R432): all four lanes of link `k` are aligned -/
  | fjlLanesAligned (k : Fin 7)
  /-- IDENT (R432): an IDENT packet from board position `pos` on link `k` -/
  | fjlIdent (k : Fin 7) (pos : Nat)
  /-- FJL_CHECK_TIMEOUT (R432): 10.0 ms in CHECK without a valid IDENT -/
  | fjlCheckTimeout (k : Fin 7)
  /-- FJL_LANE_LOST (R432): lane `n` of link `k` is lost -/
  | fjlLaneLost (k : Fin 7) (n : Fin 4)
  /-- FJL_PACKET_RECEIVE (R431): a packet on link `k` -/
  | fjlPacketReceive (k : Fin 7) (bs : List Byte)
  /-- FJL_RESEND_TIMEOUT (R431): 10.0 µs without an ACK -/
  | fjlResendTimeout (k : Fin 7)
  /-- PWR_DOMAIN_EN_WRITE (R441): a host write of PWR_DOMAIN_EN -/
  | pwrDomainEnWrite (v : Word)
  /-- PWR_DOMAIN_DONE (R441): every domain change of a write is complete -/
  | pwrDomainDone
  /-- RECESS (R444): a host write of PWR_CMD for RECESS -/
  | pwrRecess (v : Word)
  /-- RUN (R443): a host write of PWR_CMD for RUN -/
  | pwrRun (v : Word)
  /-- WAKE (R445): a wake event has been raised -/
  | pwrWake
  /-- GOV_WINDOW_END (R447): the end of a governor window -/
  | govWindowEnd
  /-- AVS_RESPONSE (R448): the regulator's response: none for an error status or for none within 100 µs, else the voltage in mV -/
  | avsResponse (r : Option Nat)
  /-- GOV_ENABLE (R448): a host write of PWR_GOV_CTRL with EN = 1 -/
  | govEnable (v : Word)
  /-- GOV_REQ (R449): a host write of PWR_GOV_REQ -/
  | govReq (v : Word)
  /-- THERM (R484): the estimates of the four sensors, in units of 0.1 °C -/
  | therm (temps : List Int)
  /-- JTAG_INSTRUCTION (R487): Update-IR with an instruction code, and the data scan before it (R488) -/
  | jtagInstruction (scan : JtagScan)
  /-- TMX_ACCESS (R491): Update-DR of TMX_ACCESS with the shifted bits -/
  | tmxAccess (w : BitVec 48)
  /-- TEST_LOGIC_RESET (R486): TRST_N, or five TCK cycles with TMS high -/
  | testLogicReset
  /-- TARDY_WINDOW_END (R427): the end of a tardy window -/
  | tardyWindowEnd
  /-- CHANNEL_HEALTHY (R273): a channel in FAULT meets the condition of health -/
  | channelHealthy (ch : Fin 96)
  /-- BANK_SUPPLY_CHANGE (R472): the supply of a modulator bank, in mV -/
  | bankSupplyChange (b : Fin 4) (mv : Nat)
  /-- CRYSTAL_TICK (R115): a crystal tick edge -/
  | crystalTick
  /-- PERST_RELEASE (R452): PERST# is deasserted -/
  | perstRelease
deriving DecidableEq, Repr

end Sys2Proof
end

