-- ==== Sys2Proof/Machine/State.lean ====
section
/-! DEFINITION. The machine's state, its state at reset, and the reasons a step can stop. -/

namespace Sys2Proof.Machine

/-- Why a command ends the run. -/
inductive Fault where
  /-- A host request reaches beyond the end of its aperture, to an address that does not exist (R35). Raised by the host access
  rows. Safe: on the part no such request arrives, and the model claims nothing after it. -/
  | outsideAperture
deriving DecidableEq, Repr

/-- Why a command has no meaning. -/
inductive Refusal where
  /-- The row has no meaning in this model. Safe: nothing is claimed of it. -/
  | notModelled (mnemonic : String)
deriving DecidableEq, Repr

/-- The state of the block. `pending` is the queue of the commands that wait; every other field is the part's. -/
structure State where
  /-- commands that wait, first in, first out -/
  pending : List Instr := []
  /-- device time in fs since T0 -/
  now : Nat := 0
  /-- free values drawn so far: the model's own field, not the spec's -/
  free : Nat := 0
  /-- registers by BAR0 offset in the normal view; one not listed holds its Reset value -/
  regs : Tab Word := []
  /-- read latches of pairs, by the offset of the high half (R46) -/
  latches : Tab Word := []
  /-- write stages of pairs, by the offset of the low half (R47) -/
  stages : Tab Word := []
  /-- the MSI-X table with its pending bits (R35) -/
  msix : Tab MsixEntry := []
  /-- what the device has sent, newest first -/
  out : List Output := []
  /-- the HBM3 stacks (R35), and the host memory that ring DMA reaches (R362) -/
  hbm : List Host.Cell := []
  hostMem : List Host.Cell := []
  rings : Tab RingX := []
  tbs : Tab TimeBase := []
  /-- transmit time-stamp queues by port, oldest first (R110) -/
  tsq : Tab (List TsqEntry) := []
  rtc : Rtc := {}
  pwr : Power := {}
  trigs : Tab Trig := []
  /-- marks whose hold is open, oldest first (R333) -/
  marks : List Mark := []
  recorder : Recorder := {}
  /-- the samples of recorder lane `ch`, newest first -/
  lanes : Tab (List Sample) := []
  /-- table space, BAR1, by offset of the DW (R36) -/
  tables : Tab Word := []
  chans : Tab Chan := []
  fade : Option Fade := none
  phs : Tab PhsCirc := []
  nrg : Tab NrgCirc := []
  /-- live accumulator a of circuit c at 40c + a (R316) -/
  acc : Tab Nat := []
  nrgCmd : Option NrgCmd := none
  pulses : Tab Pulse := []
  /-- frames in the receive buffer of port p that the intake parser has not yet examined, oldest first -/
  rxq : Tab (List RxFrame) := []
  /-- frames that wait for MAC p, oldest first -/
  txq : Tab (List TxFrame) := []
  segJobs : Tab (Option SegJob) := []
  prp : Tab Prp := []
  segments : Tab Segment := []
  t1sTaken : List T1sTaken := []
  t1sNum : Nat := 0
  /-- installed seats by seat code (R192): n for remote seat n, 0x4000 + k for local seat Lk -/
  seats : Tab (Option Seat) := []
  /-- frames seated and not yet granted by the roll call, oldest first (R201) -/
  seated : List Seated := []
  forms : Tab Form := []
  tcp : Tab TcpConn := []
  links : Tab Link := []
  classrooms : Tab Classroom := []
  lessons : Tab Lesson := []
  alarms : Alarms := {}
  slacks : Tab (List SlackRec) := []
  answers : Answers := {}
  pass : HallPass := {}
  sched : Sched := {}
  loader : Loader := {}
  evtIn : Tab EvtIn := []
  keys : Keys := {}
  tap : Tap := {}
  /-- the slot that verified each image-cache entry (R71), plus 1 -/
  cacheSigner : Tab Nat := []
  /-- the endpoint's configuration space (R31) -/
  pcie : Pcie := {}
  /-- the modulator clocks (R268, R270) -/
  modClks : Tab ModClk := []
  /-- the last interval boundary that event 47 was raised for (R320) -/
  nrgInt : Option Stamp := none
  /-- the PPS_IN pin: whether the level that its next edge ends is a pulse shorter than 100 ns (R96) -/
  ppsPin : EvtIn := {}
deriving DecidableEq, Repr

/-- The block right after reset: T0 of a board whose supplies have just come up, before the first step of start-up. PD_AON has
had its power-on reset (F_LOST, and the tamper latch set with CAUSE_POWER; R126, R412), MAIN_POR is recorded (R451), every other
register holds its Reset value, every domain is off, nothing is listed in the memories and no command waits. -/
def State.reset : State :=
  { regs := [(Reg.PWR_RESET_CAUSE, 0x00000001)]
    rtc := {}
    keys := { owed14 := true }
    pwr := { start := some .full } }

end Sys2Proof.Machine
end

