-- ==== Sys2Proof/Machine/Ops.lean ====
section
/-! DEFINITION. The named operations over registers, memories, time and power domains that every meaning is built from. -/

namespace Sys2Proof.Machine

/-! ### Registers -/

/-- What register `off` (BAR0 offset, normal view) holds. -/
def State.reg (s : State) (off : Nat) : Word := Tab.get regReset s.regs off

/-- Register `off` takes `w`. -/
def State.setReg (s : State) (off : Nat) (w : Word) : State := { s with regs := Tab.put regReset s.regs off w }

/-- Field `[lo+n-1:lo]` of register `off`. -/
def State.rf (s : State) (off lo n : Nat) : Nat := fld (s.reg off) lo n

/-- Bit `i` of register `off`. -/
def State.rb (s : State) (off i : Nat) : Bool := bit (s.reg off) i

/-- Field `[lo+n-1:lo]` of register `off` takes `v`. -/
def State.setRf (s : State) (off lo n v : Nat) : State := s.setReg off (setFld (s.reg off) lo n v)

/-- Bit `i` of register `off` takes `b`. -/
def State.setRb (s : State) (off i : Nat) (b : Bool) : State := s.setReg off (setBit (s.reg off) i b)

/-- A counter register gains `n`, saturating at 0xFFFF_FFFF. -/
def State.bumpBy (s : State) (off n : Nat) : State := s.setReg off (satWord (s.reg off) n)

/-- A counter register gains 1, saturating at 0xFFFF_FFFF. -/
def State.bump (s : State) (off : Nat) : State := s.bumpBy off 1

/-- A counter register gains 1 modulo 2^32. -/
def State.bumpWrap (s : State) (off : Nat) : State := s.setReg off (s.reg off + 1)

/-- A 64-bit counter pair gains `n` modulo 2^64. -/
def State.bumpPair (s : State) (lo n : Nat) : State :=
  let v := ((s.reg (lo + 4)).toNat * 2 ^ 32 + (s.reg lo).toNat + n) % 2 ^ 64
  (s.setReg lo (word v)).setReg (lo + 4) (word (v >>> 32))

/-- The 64-bit value of a pair. -/
def State.pair (s : State) (lo : Nat) : Nat := (s.reg (lo + 4)).toNat * 2 ^ 32 + (s.reg lo).toNat

/-- The write stage of the pair whose low half stands at `off` (R47). -/
def State.stageOf (s : State) (off : Nat) : Word := Tab.get regReset s.stages off
def State.setStage (s : State) (off : Nat) (w : Word) : State := { s with stages := Tab.put regReset s.stages off w }

/-- The read latch of the pair whose high half stands at `off` (R46). -/
def State.latchOf (s : State) (off : Nat) : Word := Tab.get (fun _ => 0) s.latches off
def State.setLatch (s : State) (off : Nat) (w : Word) : State := { s with latches := Tab.put (fun _ => 0) s.latches off w }

/-- The status register of a result group publishes: READY set, SEQ advanced modulo 2^16 (R50). -/
def State.publish (s : State) (off : Nat) : State :=
  (s.setRf off 0 16 (s.rf off 0 16 + 1)).setRb off 31 true

/-- The engine starts the next result of a group: READY clear (R50). -/
def State.unready (s : State) (off : Nat) : State := s.setRb off 31 false

/-- A boundary instruction that needs BSCAN_EN is current and permitted: the boundary cells own the output balls (R487, R490). -/
def State.boundary (s : State) : Bool :=
  let i := s.rf Reg.TMX_STATUS 0 8
  (decide (i = 0) || decide (3 ≤ i) && decide (i ≤ 6)) && s.rb Reg.TMX_CTRL 0

/-- Whether an output leaves at balls that have boundary output cells (R488): not the field segments, not TDO. -/
def Output.atCells : Output → Bool
  | .t1s _ _ => false
  | .jam _ _ => false
  | .jtag _ => false
  | _ => true

/-- The device sends `o`; under a boundary instruction functional outputs are not delivered (R490). -/
def State.emit (s : State) (o : Output) : State := if s.boundary && o.atCells then s else { s with out := o :: s.out }

/-- Registers in `[lo, hi)` take their Reset values, with their latches and write stages (R8, R46, R47). -/
def State.resetRegs (s : State) (lo hi : Nat) : State :=
  { s with regs := s.regs.clear lo hi, latches := s.latches.clear lo hi, stages := s.stages.clear lo hi }

/-! ### Free values -/

/-- The next free value of `w` bits, and the state that has drawn it. -/
def State.draw (s : State) (w : Nat) : Nat × State :=
  (Config.freeBits s.free w % 2 ^ w, { s with free := s.free + 1 })

/-! ### Memories: HBM3 (R35, R38) and the host memory that ring DMA reaches (R362) -/

/-- HBM3 holds 16 GiB (R35). -/
def hbmSize : Nat := 0x400000000

/-- What an octet that nothing has written reads as. -/
def blank (_ : Nat) : Byte := 0

/-- `n` octets of HBM3 from offset `a`. -/
def State.hbmRead (s : State) (a n : Nat) : List Byte := Tab.getList blank s.hbm a n

/-- Octets written to HBM3 from offset `a`. -/
def State.hbmWrite (s : State) (a : Nat) (bs : List Byte) : State := { s with hbm := Tab.putList blank s.hbm a bs }

/-- `n` octets of host memory from address `a`. -/
def State.hostRead (s : State) (a n : Nat) : List Byte := Tab.getList blank s.hostMem a n

/-- Octets written to host memory from address `a`; under a boundary instruction the cells own the pairs they would leave by (R490). -/
def State.hostWrite (s : State) (a : Nat) (bs : List Byte) : State :=
  { s with hostMem := if s.boundary then s.hostMem else Tab.putList blank s.hostMem a bs }

/-- The memory form: addresses rising, no octet listed that equals what an unlisted address reads as. -/
def Memory.wf (m : List Host.Cell) : Bool := Tab.wf blank m

/-! ### Power domains (R40, R440) -/

/-- The bits of PWR_DOMAIN_STATUS, by domain. -/
abbrev pdHost : Nat := 0
abbrev pdMem : Nat := 1
abbrev pdNetA : Nat := 2
abbrev pdNetB : Nat := 3
abbrev pdField : Nat := 4
abbrev pdAcq : Nat := 5
abbrev pdRcl : Nat := 6
abbrev pdFabW : Nat := 7
abbrev pdFabE : Nat := 8
abbrev pdSch : Nat := 9
abbrev pdKey : Nat := 10
abbrev pdLink : Nat := 11

/-- Whether switched domain `d` is on. -/
def State.domOn (s : State) (d : Nat) : Bool := s.rb Reg.PWR_DOMAIN_STATUS d

/-- PWR_STATUS.STATE: 0 RUN, 1 ENTERING, 2 RECESS, 3 WAKING (R443). -/
def State.pwrState (s : State) : Nat := s.rf Reg.PWR_STATUS 0 2

/-- The domain of MAC port `p`: ports 0-1 in PD_NETA, 2-3 in PD_NETB (R40). -/
def portDomain (p : Nat) : Nat := if p < 2 then pdNetA else pdNetB

/-- The domain of classroom `c`: 0-15 in PD_FABW, 16-31 in PD_FABE (R40). -/
def classDomain (c : Nat) : Nat := if c < 16 then pdFabW else pdFabE

/-! ### Time -/

/-- One period of the 1.6 GHz time clock, in fs. Device time is kept in fs. -/
def periodFs : Nat := 625000
def fsPerUs : Nat := 1000000000
def fsPerMs : Nat := 1000000000000

/-- Units of a stamp in one nanosecond and in one second. -/
def stampNsUnit : Nat := 2 ^ 32
def stampSecUnit : Nat := 1000000000 * 2 ^ 32
def stampMod : Nat := 2 ^ 48 * stampSecUnit

/-- Units of a time base's counter (2^-51 ns) in one nanosecond and in one second; the counter's modulus. -/
def tbNsUnit : Nat := 2 ^ 51
def tbSecUnit : Nat := 1000000000 * 2 ^ 51
def tbMod : Nat := 2 ^ 48 * tbSecUnit

def stampSec (t : Stamp) : Nat := t / stampSecUnit
def stampNs (t : Stamp) : Nat := t / stampNsUnit % 1000000000
def stampFrac (t : Stamp) : Nat := t % stampNsUnit

/-- The stamp of `sec` seconds and `ns` nanoseconds. -/
def mkStamp (sec ns : Nat) : Stamp := (sec * stampSecUnit + ns * stampNsUnit) % stampMod

/-- A stamp moved by a signed number of units, seconds modulo 2^48 (R99). -/
def stampAdd (t : Stamp) (d : Int) : Stamp := (((t : Int) + d) % (stampMod : Int)).toNat

/-- Time base `n`. -/
def State.tb (s : State) (n : Nat) : TimeBase := Tab.get (fun _ => {}) s.tbs n

/-- Time base `n` takes `t`. -/
def State.setTb (s : State) (n : Nat) (t : TimeBase) : State := { s with tbs := Tab.put (fun _ => {}) s.tbs n t }

/-- RATE of time base `n`, signed, 40 bits (R88). -/
def State.tbRate (s : State) (n : Nat) : Int :=
  signed 40 ((s.reg (Reg.TB_RATE_HI n)).toNat % 256 * 2 ^ 32 + (s.reg (Reg.TB_RATE_LO n)).toNat)

/-- What one clock period adds to a counter, in units of 2^-51 ns: 0.625 ns × (1 + RATE × 2^-48) (R87). -/
def tbIncrement (rate : Int) : Nat := (5 * ((2 ^ 48 : Int) + rate)).toNat

/-- What time base `n` reads, as a stamp. -/
def State.tbNow (s : State) (n : Nat) : Stamp := (s.tb n).t / 2 ^ 19

/-- What time base `n` reads half a period from now: what falls due up to then is placed on this period or an earlier one, the earlier of
two that are as near (R97, R268, R323). -/
def State.tbNear (s : State) (n : Nat) : Stamp := (2 * (s.tb n).t + tbIncrement (s.tbRate n)) / 2 ^ 20

/-- TBn_STATUS.STATE: 0 OFF, 1 FREE, 2 ARMED, 3 LOCKED, 4 HOLDOVER, 5 REROUTE (R90). -/
def State.tbState (s : State) (n : Nat) : Nat := s.rf (Reg.TB_STATUS n) 0 3

/-- TBn_UTC.UTC_OFFSET, signed (R107). -/
def State.utcOffset (s : State) (n : Nat) : Int := signed 16 (s.rf (Reg.TB_UTC n) 0 16)

/-- The 4-bit time quality time base `n` supplies (R109). -/
def State.timeQuality (s : State) (n : Nat) : Nat :=
  let st := s.tbState n
  if st < 3 || !s.rb Reg.TB_PLL 8 then 15
  else if st = 3 then s.rf (Reg.TB_UTC n) 20 4
  else max (s.rf (Reg.TB_UTC n) 20 4) (s.rf (Reg.TB_UTC n) 24 4)

/-- The leap direction time base `n` reports: from LEAP while LEAP_PEND, from LEAP_DEL while LEAP_OCC, else 0 (R108). -/
def State.leapDir (s : State) (n : Nat) : Bool :=
  if s.rb (Reg.TB_STATUS n) 4 then s.rf (Reg.TB_UTC n) 16 2 = 2
  else if s.rb (Reg.TB_STATUS n) 5 then s.rb (Reg.TB_STATUS n) 6
  else false

/-- The seconds of C37.118.2 SOC for TAI second `sec` on time base `n` (R107). -/
def State.soc (s : State) (n sec : Nat) : Nat := wrap 32 ((sec : Int) - s.utcOffset n)

/-- The acquisition time base, ACQ_CTRL.TB (R15, R267). -/
def State.acqTb (s : State) : Nat := s.rf Reg.ACQ_CTRL 0 2

/-- A TDC reading: the time base's value and `ph` steps of 8 ps within the period (R96). -/
def State.tdc (s : State) (n ph : Nat) : Stamp :=
  if s.tbState n = 0 then s.tbNow n else (s.tbNow n + ph * 8 * 2 ^ 32 / 1000) % stampMod

/-- A capture into the four data registers of a result group that starts at `ns`: NS, SEC_LO, SEC_HI, FRAC. -/
def State.putStamp (s : State) (ns : Nat) (t : Stamp) : State :=
  (((s.setReg ns (word (stampNs t))).setReg (ns + 4) (word (stampSec t))).setReg (ns + 8)
    (word (stampSec t >>> 32 % 65536))).setReg (ns + 12) (word (stampFrac t))

/-- Whether time base `n` was in LOCKED at every moment of `[a, b)` by its log of changes. -/
def State.lockedThroughout (s : State) (n : Nat) (a b : Stamp) : Bool :=
  let log := (s.tb n).lockLog
  let inside := log.filter (fun e => decide (a < e.1) && decide (e.1 < b))
  let before := (log.filter (fun e => decide (e.1 ≤ a))).head?.map (fun e => e.2)
  inside.isEmpty && before.getD false

/-- Table space: the DW at BAR1 offset `off` (R36). -/
def State.tw (s : State) (off : Nat) : Word := Tab.get (fun _ => 0) s.tables off

/-- The DW at BAR1 offset `off` takes `w`. -/
def State.setTw (s : State) (off : Nat) (w : Word) : State := { s with tables := Tab.put (fun _ => 0) s.tables off w }

/-- An uncorrectable HBM3 error at offset `a` is recorded (R38, R58). -/
def State.memUe (s : State) (a : Nat) : State :=
  if s.rb Reg.GLB_MEM_STATUS 8 then s
  else ((s.setReg Reg.GLB_MEM_UE_LO (word a)).setReg Reg.GLB_MEM_UE_HI (word (a >>> 32 % 4))).setRb Reg.GLB_MEM_STATUS 8 true

/-- A corrected HBM3 error at offset `a` is counted for its stack (R58). -/
def State.memCe (s : State) (a : Nat) : State := s.bump (if a < 0x200000000 then Reg.GLB_MEM_CE0 else Reg.GLB_MEM_CE1)

/-- The gate to ALM[15:0] and PULSE[3:0] is open: the unit holds the hall pass (R30, R420). -/
def State.gate (s : State) : Bool := s.rb Reg.RED_STATUS 2

end Sys2Proof.Machine
end

