-- ==== Sys2Proof/Machine/Flags.lean ====
section
/-! DEFINITION. Flags and events: what raising one of the 64 events does (R380-R383), the MSI-X messages, the event log of
ring 23, the triggers that watch events (R327, R330-R333), and the return of a ring descriptor with its threshold (R364, R366),
on which the event log rests. -/

namespace Sys2Proof.Machine

/-! ### Vector conditions and MSI-X (R381) -/

/-- EVT_VEC: the vector of event source `e`. -/
def State.vecOf (s : State) (e : Nat) : Nat := s.rf (Reg.EVT_VEC (e / 8)) (4 * (e % 8)) 4

/-- The condition of vector `v`: the OR, over the sources mapped to it, of STATUS AND NOT MASK (R381). -/
def State.vecCond (s : State) (v : Nat) : Bool :=
  (List.range 64).any (fun e =>
    s.rb (Reg.EVT_STATUS (e / 32)) (e % 32) && !s.rb (Reg.EVT_MASK (e / 32)) (e % 32) && decide (s.vecOf e = v))

/-- MSI-X entry `v`. -/
def State.msixOf (s : State) (v : Nat) : MsixEntry := Tab.get (fun _ => {}) s.msix v

/-- The message of entry `x`, number `v`: the write of its data to its address (R39). -/
def msixMessage (v : Nat) (x : MsixEntry) : Output := .msix v (x.addrLo.toNat / 4 * 4 + x.addrHi.toNat * 2 ^ 32) x.data

/-- Whether a message of entry `x` must wait: the entry is masked, the function is, or it may not issue requests (R39). -/
def State.msixHeld (s : State) (x : MsixEntry) : Bool := x.masked || s.pcie.msixMask || !bit s.pcie.command 2

/-- MSI-X message `v` is sent, or pends while its vector is masked in the MSI-X table or by Function Mask, or while Bus Master Enable
is clear; without MSI-X Enable there is no message (R39, R381). -/
def State.sendMsix (s : State) (v : Nat) : State :=
  let m := s.msixOf v
  if !s.pcie.msixEnable then s
  else if s.msixHeld m then { s with msix := Tab.put (fun _ => {}) s.msix v { m with pend := true } }
  else s.emit (msixMessage v m)

/-- Entry `v` of the MSI-X table sends what pends once nothing holds it (R39). -/
def State.msixRelease (s : State) (v : Nat) : State :=
  let m := s.msixOf v
  if m.pend && !s.msixHeld m && s.pcie.msixEnable then
    ({ s with msix := Tab.put (fun _ => {}) s.msix v { m with pend := false } }).emit (msixMessage v m)
  else s

/-- The pending bit of a vector clears once nothing that asked for its message is left (R39). -/
def State.msixSettle (s : State) : State :=
  (List.range 16).foldl (fun t v =>
    let m := t.msixOf v
    if m.pend && !t.vecCond v then { t with msix := Tab.put (fun _ => {}) t.msix v { m with pend := false } } else t) s

/-- Messages for every vector whose condition has risen since the state `before`. -/
def State.msixRises (s before : State) : State :=
  (List.range 16).foldl (fun t v => if s.vecCond v && !before.vecCond v then t.sendMsix v else t) s

/-- Messages for every vector whose condition is 1 (after a write to EVT_STATUS, R381). -/
def State.msixAll (s : State) : State :=
  (List.range 16).foldl (fun t v => if s.vecCond v then t.sendMsix v else t) s

/-! ### Rings: the parts that the event log needs -/

/-- RNGr_STATUS.STATE: 0 DISABLED, 1 RUNNING, 2 STOPPING, 3 ERROR (R365). -/
def State.ringState (s : State) (r : Nat) : Nat := s.rf (Reg.RNG_STATUS r) 0 2

/-- The descriptors of ring `r`: 2^SIZE (R363). -/
def State.ringSize (s : State) (r : Nat) : Nat := 2 ^ s.rf (Reg.RNG_CTRL r) 1 5

def State.ringHead (s : State) (r : Nat) : Nat := s.rf (Reg.RNG_HEAD r) 0 16
def State.ringTail (s : State) (r : Nat) : Nat := s.rf (Reg.RNG_TAIL r) 0 16

/-- How many descriptors the device holds: from HEAD up to TAIL - 1, modulo 2^SIZE (R363). -/
def State.ringHolds (s : State) (r : Nat) : Nat :=
  (s.ringTail r + s.ringSize r - s.ringHead r) % s.ringSize r

/-- The rings that the recess ring engine serves in RECESS (R444). -/
def recessRing (r : Nat) : Bool := r = 2 || r = 3 || r = 6 || r = 7 || r = 20 || r = 21

/-- Whether an engine serves ring `r`: the RNG unit in PD_SCH, or in RECESS the recess ring engine in PD_HOST. -/
def State.ringServed (s : State) (r : Nat) : Bool :=
  s.domOn pdSch || (s.pwrState ≠ 0 && recessRing r && s.domOn pdHost)

/-- Ring `r` is RUNNING and holds a descriptor. -/
def State.ringReady (s : State) (r : Nat) : Bool :=
  s.ringServed r && decide (s.ringState r = 1) && decide (s.ringHolds r ≠ 0)

/-- Whether ring `r` carries work from the host to the device (R362). -/
def ringH2D (r : Nat) : Bool :=
  r = 0 || (2 ≤ r && r ≤ 5) || r = 10 || r = 20 || (24 ≤ r && r ≤ 31)

/-- Host address of descriptor `i` of ring `r` (R363). -/
def State.descAddr (s : State) (r i : Nat) : Nat := s.pair (Reg.RNG_BASE_LO r) + 32 * i

/-- The 32 octets of the descriptor at HEAD. -/
def State.headDesc (s : State) (r : Nat) : List Byte := s.hostRead (s.descAddr r (s.ringHead r)) 32

def State.ringX (s : State) (r : Nat) : RingX := Tab.get (fun _ => {}) s.rings r
def State.setRingX (s : State) (r : Nat) (x : RingX) : State := { s with rings := Tab.put (fun _ => {}) s.rings r x }

/-- The status word of a returned descriptor (R364). -/
def statusWord (discard sop eop : Bool) (status extra : Nat) : Nat :=
  1 + 2 * discard.toNat + 4 * sop.toNat + 8 * eop.toNat + 16 * (status % 256) + 65536 * (extra % 65536)

/-- The device returns the descriptor at HEAD: `body` over its first octets, the status word last, HEAD advanced, the
return counted (R363, R364). The second component says that the ring's threshold is reached and event 22 or 23 is due (R366). -/
def State.ringReturnQuiet (s : State) (r : Nat) (body : List Byte) (status : Nat) : State × Bool :=
  let a := s.descAddr r (s.ringHead r)
  let s := (s.hostWrite a (body.take 28)).hostWrite (a + 28) (leBytes 4 status)
  let s := (s.setRf (Reg.RNG_HEAD r) 0 16 ((s.ringHead r + 1) % s.ringSize r)).bump (Reg.RNG_CNT r 0)
  let x := s.ringX r
  let pend := x.pend + 1
  if s.rf (Reg.RNG_THRESH r) 0 16 ≤ pend then
    ((s.setRb (Reg.RNG_STATUS r) 8 true).setRingX r { x with pend := 0, episode := false }, true)
  else
    (s.setRingX r { x with pend := pend, firstAt := if x.pend = 0 then s.now else x.firstAt, episode := false }, false)

/-- Ring `r` finds no descriptor: at the first exhaustion of an episode F_EXH is set, and the second component says that event 24 is
due (R367). A ring that is not RUNNING raises no event (R365). `lost` counts the output in RNGr_CNT1. -/
def State.ringExhaustQuiet (s : State) (r : Nat) (lost : Bool) : State × Bool :=
  let s := if lost then s.bump (Reg.RNG_CNT r 1) else s
  if s.ringState r = 1 && s.ringServed r then
    let x := s.ringX r
    if x.episode then (s, false)
    else ((s.setRb (Reg.RNG_STATUS r) 9 true).setRingX r { x with episode := true }, true)
  else (s, false)

/-! ### Firing a trigger (R331-R333) -/

def State.trig (s : State) (n : Nat) : Trig := Tab.get (fun _ => {}) s.trigs n
def State.setTrig (s : State) (n : Nat) (t : Trig) : State := { s with trigs := Tab.put (fun _ => {}) s.trigs n t }

/-- The anchor grid: multiples of 3.125 µs from the TAI second (R332). -/
def anchorUnit : Nat := 3125 * stampNsUnit

/-- DELTA: a time in stamp units, in units of 8 ps, rounded to nearest with ties up (R332). -/
def deltaOf (d : Nat) : Nat := (d * 1000 + 4 * 2 ^ 32) / (8 * 2 ^ 32)

/-- The open marks with a firing entered: the first open mark of the same anchor that holds no entry of the trigger
takes it; otherwise a new mark opens (R333). -/
def enterMark (now hold : Nat) (anchor : Stamp) (e : MarkEntry) : List Mark → List Mark
  | [] => [{ anchor := anchor, entries := [e], closeAt := now + hold * fsPerUs }]
  | m :: ms =>
    if m.anchor = anchor && decide (now ≤ m.closeAt) && m.entries.all (fun x => x.trig ≠ e.trig) then
      { m with entries := m.entries ++ [e] } :: ms
    else m :: enterMark now hold anchor e ms

/-- Trigger `n` fires at `fire` with anchor `anchor` (R331): everything but event 48. The second component says that
EVT = 1, so F_FIRED is set and event 48 is due. -/
def State.fireQuiet (s : State) (n : Nat) (anchor : Stamp) (back tap delta : Nat) : State × Bool :=
  let cfg := s.reg (Reg.TRG_CFG n)
  let s := (s.setRb (Reg.TRG_FIRED (n / 32)) (n % 32) true).bumpWrap (Reg.TRG_COUNT n)
  let s := s.bump (Reg.TRG_CNT 7)
  let e : MarkEntry := ⟨n, s.rf (Reg.TRG_SRC n) 0 3, back, tap, delta⟩
  let s := if bit cfg 6 then
      { s with marks := enterMark s.now (s.rf Reg.TRG_MARK_HOLD 0 14) anchor e s.marks }
    else s
  if bit cfg 5 then (s.setRb Reg.TRG_STATUS 0 true, true) else (s, false)

/-- Whether time `t` lies in the holdoff of trigger `n` after a firing, with TRGn_HOLDOFF as it stands (R329, R342). -/
def State.held (s : State) (n : Nat) (fired : Option Stamp) (t : Stamp) : Bool :=
  fired.any (fun f => decide (t < f + s.rf (Reg.TRG_HOLDOFF n) 0 24 * 1000 * stampNsUnit))

/-- A firing without a re-arm level (PIN, DECISION, EVENT; R330): at time `fire`, or ignored and counted in TRG_CNT6
during holdoff. -/
def State.fireEdge (s : State) (n : Nat) (fire : Stamp) : State × Bool :=
  let t := s.trig n
  if s.held n t.firedRise fire then (s.bump (Reg.TRG_CNT 6), false)
  else
    let anchor := roundUp anchorUnit fire
    (s.setTrig n { t with firedRise := some fire }).fireQuiet n anchor 0 0 (deltaOf (anchor - fire))

/-- The triggers that watch event `e` (R327, KIND 5). -/
def State.eventTrigs (s : State) (e : Nat) : List Nat :=
  if s.domOn pdAcq then
    (List.range 64).filter (fun n =>
      s.rb (Reg.TRG_CFG n) 0 && decide (s.rf (Reg.TRG_SRC n) 0 3 = 5) && decide (s.rf (Reg.TRG_SRC n) 8 6 = e))
  else []

/-! ### Raising an event -/

/-- Whether instance `inst` raises event `e` from a domain that is on in RECESS: PD_HOST, PD_NETA, PD_KEY, PD_AON and PD_BASE, with the six
rings of the recess ring engine (R440, R445). -/
def wakeSource (e inst : Nat) : Bool :=
  if e = 18 || e = 19 then decide (inst < 2)
  else if e = 21 then decide (inst = 0)
  else if 22 ≤ e && e ≤ 25 then recessRing inst
  else decide (e ≤ 2) || (decide (6 ≤ e) && decide (e ≤ 17)) || decide (58 ≤ e)

/-- The first part of a raise: the STATUS bit, the counter, the MSI-X message at a rise of the vector's condition, and
the wake it holds while the device is not in RUN (R380, R381, R443, R445). -/
def State.raiseBase (s : State) (e inst : Nat) : State :=
  let v := s.vecOf e
  let was := s.vecCond v
  let s := (s.setRb (Reg.EVT_STATUS (e / 32)) (e % 32) true).bump (Reg.EVT_CNT e)
  let s := if s.vecCond v && !was then s.sendMsix v else s
  if (s.pwrState = 1 || s.pwrState = 2) && wakeSource e inst && s.rb (Reg.PWR_WAKE (e / 32)) (e % 32) then
    { s with pwr := { s.pwr with wakeHeld := true } }
  else s

/-- The ring-23 descriptor of a logged raise (R382). -/
def State.logEntry (s : State) (e inst : Nat) : List Byte :=
  let n := s.rf Reg.EVT_LOG_CTRL 1 2
  let t := if s.tbState n = 0 then 0 else s.tbNow n
  leBytes 4 (e % 64 + 256 * (inst % 256) + 65536 * n) ++ leBytes 4 (s.reg Reg.EVT_LOG_SEQ).toNat ++
    leBytes 4 (stampNs t) ++ leBytes 4 (stampSec t) ++ leBytes 4 (stampSec t >>> 32) ++ List.replicate 8 0

/-- Event `e` is raised, with `inst` as the instance the log names (R380-R383). The raises that this one brings about (the
thresholds and exhaustion of ring 23, event 48 of a trigger that watches `e`) use up `fuel`; `log` is false for the raise
that reports the exhaustion of ring 23, which is not logged (R382). -/
def raiseF : Nat → State → Nat → Nat → Bool → State
  | 0, s, e, inst, _ => s.raiseBase e inst
  | fuel + 1, s, e, inst, log =>
    let s := s.raiseBase e inst
    let s :=
      if log && s.rb Reg.EVT_LOG_CTRL 0 && s.rb (Reg.EVT_LOG_MASK (e / 32)) (e % 32) then
        let s := s.bumpWrap Reg.EVT_LOG_SEQ
        if s.ringReady 23 then
          let p := s.ringReturnQuiet 23 (s.logEntry e inst) (statusWord false false false 0 0)
          if p.2 then raiseF fuel p.1 23 23 true else p.1
        else
          let p := s.ringExhaustQuiet 23 true
          if p.2 then raiseF fuel p.1 24 23 false else p.1
      else s
    if e = 48 then s
    else
      (s.eventTrigs e).foldl (fun s n =>
        let p := s.fireEdge n (s.tbNow s.acqTb)
        if p.2 then raiseF fuel p.1 48 n true else p.1) s

/-- Event `e` is raised by instance `inst` of its unit (R380). -/
def State.raise (s : State) (e inst : Nat) : State := raiseF (2 * s.ringHolds 23 + 8) s e inst true

/-- A trigger's firing with event 48 where it asks for one (R331). -/
def State.fire (s : State) (n : Nat) (anchor : Stamp) (back tap delta : Nat) : State :=
  let p := s.fireQuiet n anchor back tap delta
  if p.2 then p.1.raise 48 n else p.1

/-- An edge or change at a trigger without a re-arm level (R330). -/
def State.fireAtEdge (s : State) (n : Nat) (fire : Stamp) : State :=
  let p := s.fireEdge n fire
  if p.2 then p.1.raise 48 n else p.1

/-- Event flag `i` of a unit's status register is set and its event raised. -/
def State.flagRaise (s : State) (off i e inst : Nat) : State := (s.setRb off i true).raise e inst

end Sys2Proof.Machine
end

