-- ==== Sys2Proof/Machine/Rings.lean ====
section
/-! DEFINITION. The 32 descriptor rings in host memory (R362-R378): returning descriptors, exhaustion, records, frames cut
through to buffers, the states of a ring, and the commands of rings 0 and 24-31. -/

namespace Sys2Proof.Machine

/-- The threshold event of ring `r`: 22 or 23, and 16 KEY_OP_DONE with that of ring 21, whose threshold rules it follows (R366, R379). -/
def State.ringEvent (s : State) (r : Nat) : State :=
  let s := s.raise (if ringH2D r then 22 else 23) r
  if r = 21 then s.raise 16 0 else s

/-- The device returns the descriptor at HEAD, and raises the ring's threshold event when it is reached (R363-R366). -/
def State.ringReturn (s : State) (r : Nat) (body : List Byte) (status : Nat) : State :=
  let p := s.ringReturnQuiet r body status
  if p.2 then p.1.ringEvent r else p.1

/-- Output for ring `r` finds no descriptor; `lost` where the ring's source does not wait (R362, R365, R367). -/
def State.ringExhaust (s : State) (r : Nat) (lost : Bool) : State :=
  let p := s.ringExhaustQuiet r lost
  if p.2 then p.1.raise 24 r else p.1

/-- A D2H descriptor whose data lie in it (rings 12, 19, 23): written, or lost at exhaustion (R362). -/
def State.postDesc (s : State) (r : Nat) (body : List Byte) : State :=
  if s.ringReady r then s.ringReturn r body (statusWord false false false 0 0) else s.ringExhaust r true

/-- Ring 1 posts the completions that wait, in order, while it holds descriptors (R367). -/
def State.owedPost : List (List Byte × Nat) → State → State
  | [], s => s
  | e :: rest, s =>
    if s.ringReady 1 then
      State.owedPost rest ((s.setRingX 1 { s.ringX 1 with owed := rest }).ringReturn 1 e.1 (statusWord false false false e.2 0))
    else s

def State.ring1Pump (s : State) : State := State.owedPost (s.ringX 1).owed s

/-- A completion for ring 1: it waits where ring 1 can take none, and is lost never (R362, R367). -/
def State.postOwed (s : State) (body : List Byte) (status : Nat) : State :=
  let ready := s.ringReady 1
  let s := s.setRingX 1 { s.ringX 1 with owed := (s.ringX 1).owed ++ [(body, status)] }
  if ready then s.ring1Pump else s.ringExhaust 1 false

/-- Buffer address and length of a D2H descriptor (R373). -/
def bufAddr (d : List Byte) : Nat := le d 0 8
def bufLen (d : List Byte) : Nat := le d 8 4 % 2 ^ 24

/-- A record of ring 13, 17 or 18 (R369, R376): into the buffer of the descriptor at HEAD, with the words `w10`, `w14`
written back; lost where no descriptor is held, or where the record is longer than BUFLEN. -/
def State.postRecord (s : State) (r : Nat) (rec : List Byte) (w10 w14 : Nat) : State :=
  if s.ringReady r then
    let d := s.headDesc r
    if bufLen d < rec.length then
      let s := s.ringReturn r (d.take 28) (statusWord false false false 6 0)
      ((s.bump (Reg.RNG_CNT r 1)).setRb (Reg.RNG_STATUS r) 10 true).raise 25 r
    else
      (s.hostWrite (bufAddr d) rec).ringReturn r
        (d.take 12 ++ leBytes 4 rec.length ++ leBytes 4 w10 ++ leBytes 4 w14 ++ d.drop 24 |>.take 28)
        (statusWord false false false 0 0)
  else s.ringExhaust r true

/-- What a receive descriptor says of its frame beside the octets written (R373). -/
structure FrameInfo where
  port : Nat := 0
  cause : Nat := 0
  stamp : Stamp := 0
  tb : Nat := 0
  rct : Bool := false
deriving DecidableEq, Repr

/-- The octets 0x00-0x1B of a returned receive descriptor (R373). -/
def frameDesc (d : List Byte) (i : FrameInfo) (len total : Nat) : List Byte :=
  d.take 12 ++ leBytes 4 (len % 65536 + 65536 * (i.port % 4) + 1048576 * (i.cause % 16)) ++
    leBytes 4 (stampNs i.stamp) ++ leBytes 4 (stampSec i.stamp) ++
    leBytes 4 (total % 2 ^ 18 + 2 ^ 18 * (i.tb % 4) + 2 ^ 20 * i.rct.toNat)

/-- Whether a receive buffer length is one the ring can fill (R368). -/
def bufUsable (n : Nat) : Bool := decide (256 ≤ n) && decide (n % 8 = 0)

/-- Descriptor `k` beyond HEAD. -/
def State.descAt (s : State) (r k : Nat) : List Byte :=
  s.hostRead (s.descAddr r ((s.ringHead r + k) % s.ringSize r)) 32

/-- Where the octets of a frame go, cut through (R368): for each descriptor taken its octets (none for a SHORT one).
`none` when the descriptors run out, with what had been taken by then. -/
def planFrame (s : State) (r total : Nat) : Nat → Nat → Nat → List (Nat × Option (Nat × Nat)) → Bool × List (Nat × Option (Nat × Nat))
  | 0, _, done, acc => (decide (total ≤ done), acc.reverse)
  | left + 1, k, done, acc =>
    if total ≤ done then (true, acc.reverse)
    else
      let n := bufLen (s.descAt r k)
      if bufUsable n then
        let m := min n (total - done)
        planFrame s r total left (k + 1) (done + m) ((k, some (done, m)) :: acc)
      else planFrame s r total left (k + 1) done ((k, none) :: acc)

/-- The descriptors of a frame are returned in ring order. `ok` is false for a frame whose descriptors ran out: every
filled descriptor is marked DISCARD and EOP is on none. -/
def returnFrame (r : Nat) (i : FrameInfo) (frame : List Byte) (ok : Bool) :
    State → Bool → List (Nat × Option (Nat × Nat)) → State
  | s, _, [] => s
  | s, first, (_, p) :: ps =>
    let d := s.headDesc r
    match p with
    | none => returnFrame r i frame ok (s.ringReturn r (d.take 28) (statusWord false false false 6 0)) first ps
    | some (at_, m) =>
      let s := s.hostWrite (bufAddr d) (slice frame at_ m)
      let eop := ok && decide (at_ + m = frame.length)
      let s := s.ringReturn r (frameDesc d i m (if eop then frame.length else 0))
        (statusWord (!ok) first eop 0 0)
      returnFrame r i frame ok s false ps

/-- A frame for ring 6-9, 11, 14 or 15 (R368): whole in as many descriptors as it needs; lost whole when none is held for
its first octet; discarded, and counted in RNGr_CNT2, when they run out partway. -/
def State.postFrame (s : State) (r : Nat) (frame : List Byte) (i : FrameInfo) : State :=
  if s.ringReady r then
    let p := planFrame s r frame.length (s.ringHolds r) 0 0 []
    if p.1 then returnFrame r i frame true s true p.2
    else
      let filled := p.2.any (fun e => e.2.isSome)
      let s := returnFrame r i frame false s true p.2
      if filled then (s.bump (Reg.RNG_CNT r 2)).ringExhaust r false else s.ringExhaust r true
  else s.ringExhaust r true

/-! ### States of a ring (R365) -/

/-- Ring `r` is DISABLED. -/
def State.ringOff (s : State) (r : Nat) : State := s.setRf (Reg.RNG_STATUS r) 0 2 0

/-- The work of ring `r` in progress is finished, so that STOPPING becomes DISABLED (R365). -/
def State.ringIdle (s : State) (r : Nat) : Bool :=
  decide ((s.ringX r).wip = 0) && !(r = 16 && s.recorder.buf.isSome)

/-- A write of RNGr_CTRL.EN (R365). -/
def State.ringEn (s : State) (r : Nat) (en : Bool) : State :=
  match s.ringState r, en with
  | 0, true => s.setRf (Reg.RNG_STATUS r) 0 2 1
  | 1, false => s.setRf (Reg.RNG_STATUS r) 0 2 2
  | 3, false =>
    ((s.ringOff r).setRb Reg.RNG_ERRORS r false).setRingX r { s.ringX r with wip := 0 }
  | _, _ => s

/-- The work that ring `r` has in progress outside its registers is let go: the segments of a transmit descriptor, the
frames taken from ring 10, with the carrier and the work that their segments show (R159, R365, R370, R371). -/
def State.ringAbandon (s : State) (r : Nat) : State :=
  if 2 ≤ r && r ≤ 5 then { s with segJobs := s.segJobs.erase (r - 2) }
  else if r = 10 then
    let s := { s with
      t1sTaken := []
      segments := s.segments.map (fun e => (e.1, { e.2 with
        st := .idle, queue := [], n := 0, quiet := if e.2.st = .send || e.2.st = .jam then some s.now else e.2.quiet })) }
    (List.range 4).foldl (fun s g => (s.setRb (Reg.T1Ss_STATUS g) 0 false).setRb (Reg.T1Ss_STATUS g) 1 false) s
  else s

/-- A host-memory access of ring `r` has failed (R370). `write` tells a device write, `kind` 1 UR, 2 CA, 3 POISONED,
4 TIMEOUT, `addr` the host address; `work` tells that the access served output of the ring, which is then abandoned. -/
def State.ringFail (s : State) (r : Nat) (write work : Bool) (kind addr : Nat) : State :=
  let s := if s.rb Reg.RNG_ERR_INFO 31 then s else
    ((s.setReg Reg.RNG_ERR_INFO (word (r % 32 + 256 * write.toNat + 4096 * (kind % 8) + 2 ^ 31))).setReg
      Reg.RNG_ERR_ADDR_LO (word addr)).setReg Reg.RNG_ERR_ADDR_HI (word (addr >>> 32))
  let s := (s.setRb Reg.RNG_ERRORS r true).setRf (Reg.RNG_STATUS r) 0 2 3
  let x := s.ringX r
  let busy := work || decide (x.wip ≠ 0) || (r = 16 && s.recorder.buf.isSome)
  let s := if busy then s.bump (Reg.RNG_CNT r 1) else s
  let s := s.setRingX r { x with wip := 0 }
  let s := if r = 16 then { s with recorder := { s.recorder with buf := none } } else s
  let s := s.ringAbandon r
  s.flagRaise (Reg.RNG_STATUS r) 10 25 r

end Sys2Proof.Machine
end

