-- ==== Sys2Proof/Machine/Triggers.lean ====
section
/-! DEFINITION. The trigger engine (R327-R334): sources, conditions, arm states, event inputs and the TRG registers. -/

namespace Sys2Proof.Machine

def minQ31 : Int := -(2 ^ 31)
def maxQ31 : Int := 2 ^ 31 - 1

/-- sat(): a number limited to Q1.31 (R276). -/
def satQ31 (x : Int) : Int := clampInt minQ31 maxQ31 x

/-- The Q1.31 value of a word. -/
def q31 (w : Word) : Int := w.toInt
def ofQ31 (x : Int) : Word := BitVec.ofInt 32 x

/-- Nominal sample period at tap `t`, in ns (R275). -/
def tapPeriodNs (t : Nat) : Nat :=
  match t with
  | 0 => 3125
  | 1 => 3125
  | 2 => 6250
  | 3 => 12500
  | 4 => 25000
  | _ => 50000

/-- Nominal sample period at tap `t`, in stamp units. -/
def tapPeriod (t : Nat) : Nat := tapPeriodNs t * stampNsUnit

/-- KIND, COND of trigger `n`. -/
def State.trgKind (s : State) (n : Nat) : Nat := s.rf (Reg.TRG_SRC n) 0 3
def State.trgCond (s : State) (n : Nat) : Nat := s.rf (Reg.TRG_CFG n) 1 3

/-- The next arm state of one direction, and whether it fires (R329). -/
def armStep (a : Arm) (held cross rearm : Bool) : Arm × Bool :=
  match a with
  | .idle => (.idle, false)
  | .disarmed => if rearm && !held then (.armed, false) else (.disarmed, false)
  | .armed => if cross then (.disarmed, true) else (.armed, false)

/-! ### SAMPLE triggers (R328) -/

/-- |x| with |−2^31| taken as 2^31 − 1. -/
def magQ31 (x : Int) : Int := min maxQ31 x.natAbs

/-- BACK of a crossing: min(255, (|x − T| × 256 + d div 2) div d). -/
def backOf (x t d : Int) : Nat := min 255 (((x - t).natAbs * 256 + d.natAbs / 2) / d.natAbs)

/-- What one direction of a SAMPLE trigger sees at a sample: crossing, re-arm, BACK (R328). `dir` is 1 RISE, 2 FALL, 5 SLOPE. Without a
sample before it there is no crossing, and no slope. -/
def sampleCond (dir : Nat) (prev : Option Int) (x t h : Int) : Bool × Bool × Nat :=
  if dir = 2 then (prev.any (fun p => decide (p > t) && decide (t ≥ x)), decide (x > satQ31 (t + h)), backOf x t (prev.getD x - x))
  else if dir = 5 then (prev.any (fun p => decide (x - p > t)), prev.any (fun p => decide (x - p ≤ t - h)), 0)
  else (prev.any (fun p => decide (p < t) && decide (t ≤ x)), decide (x < satQ31 (t - h)), backOf x t (x - prev.getD x))

/-- Trigger `n` at a sample of tap `tap` (R328-R332). -/
def State.trigSample (s : State) (n tap : Nat) (y : Sample) : State :=
  let cfg := s.reg (Reg.TRG_CFG n)
  let x := s.trig n
  if bit cfg 4 && decide (y.flags % 4 ≠ 0) then s.setTrig n { x with prev := none }
  else
    let cond := s.trgCond n
    let mag := fun (w : Word) => if cond = 4 then magQ31 (q31 w) else q31 w
    let p := x.prev.map mag
    let t := q31 (s.reg (Reg.TRG_LEVEL n))
    let h := q31 (s.reg (Reg.TRG_HYST n))
    let up := sampleCond (if cond = 5 then 5 else 1) p (mag y.val) t h
    let dn := sampleCond 2 p (mag y.val) t h
    let r := if cond ≠ 2 then armStep x.rise (s.held n x.firedRise y.stamp) up.1 up.2.1 else (x.rise, false)
    let f := if cond = 2 || cond = 3 then armStep x.fall (s.held n x.firedFall y.stamp) dn.1 dn.2.1 else (x.fall, false)
    let fireT := fun (back : Nat) => y.stamp - back * (tapPeriod tap / 256)
    let s := s.setTrig n
      { rise := r.1, fall := f.1, prev := some y.val
        firedRise := if r.2 then some (fireT up.2.2) else x.firedRise
        firedFall := if f.2 then some (fireT dn.2.2) else x.firedFall }
    let s := if r.2 then s.fire n y.stamp up.2.2 tap (deltaOf (up.2.2 * (tapPeriod tap / 256))) else s
    if f.2 then s.fire n y.stamp dn.2.2 tap (deltaOf (dn.2.2 * (tapPeriod tap / 256))) else s

/-- The enabled triggers with KIND `kind` whose SEL passes `sel`. -/
def State.trigsOf (s : State) (kind : Nat) (sel : Nat → Bool) : List Nat :=
  (List.range 64).filter (fun n =>
    s.rb (Reg.TRG_CFG n) 0 && decide (s.trgKind n = kind) && sel (s.rf (Reg.TRG_SRC n) 8 16))

/-- Every SAMPLE trigger on channel `ch` at tap `tap` takes a sample. -/
def State.trigsSample (s : State) (ch tap : Nat) (y : Sample) : State :=
  (s.trigsOf 0 (fun sel => decide (sel % 128 = ch) && decide (sel / 256 % 8 = tap))).foldl
    (fun s n => s.trigSample n tap y) s

/-- The samples of circuit `c` before a fresh start of its chain serve no trigger as x[j-1] (R328). -/
def State.trigsCut (s : State) (c : Nat) : State :=
  (s.trigsOf 0 (fun sel => decide (sel % 128 / 8 = c))).foldl (fun s n => s.setTrig n { s.trig n with prev := none }) s

/-! ### PHASOR and PERIOD triggers (R330) -/

/-- Trigger `n` takes a binary32 value stamped `t`. -/
def State.trigValue (s : State) (n : Nat) (t : Stamp) (v : Word) : State :=
  if f32IsNaN v then s
  else
    let x := s.trig n
    let cond := s.trgCond n
    let lv := s.reg (Reg.TRG_LEVEL n)
    let hy := s.reg (Reg.TRG_HYST n)
    let r := if cond ≠ 2 then
        armStep x.rise (s.held n x.firedRise t) (x.prev.any (fun p => f32Lt p lv && f32Le lv v)) (f32Lt v (f32Sub lv hy))
      else (x.rise, false)
    let f := if cond = 2 || cond = 3 then
        armStep x.fall (s.held n x.firedFall t) (x.prev.any (fun p => f32Lt lv p && f32Le v lv)) (f32Lt (f32Add lv hy) v)
      else (x.fall, false)
    let s := s.setTrig n
      { rise := r.1, fall := f.1, prev := some v
        firedRise := if r.2 then some t else x.firedRise
        firedFall := if f.2 then some t else x.firedFall }
    let anchor := roundUp anchorUnit t
    let s := if r.2 then s.fire n anchor 0 0 (deltaOf (anchor - t)) else s
    if f.2 then s.fire n anchor 0 0 (deltaOf (anchor - t)) else s

/-- The PHASOR triggers of circuit `c` at instant `t`; `val k` is magnitude k, or FREQ at 14 and DFREQ at 15. -/
def State.trigsPhasor (s : State) (c : Nat) (t : Stamp) (val : Nat → Word) : State :=
  (s.trigsOf 1 (fun sel => decide (sel % 16 = c))).foldl
    (fun s n => s.trigValue n t (val (s.rf (Reg.TRG_SRC n) 16 5))) s

/-- The PERIOD triggers of circuit `c` at the end of a period; `val x i` is vrms (i false) or irms of phase x. -/
def State.trigsPeriod (s : State) (c : Nat) (t : Stamp) (val : Nat → Bool → Word) : State :=
  (s.trigsOf 2 (fun sel => decide (sel % 16 = c))).foldl
    (fun s n => s.trigValue n t (val (s.rf (Reg.TRG_SRC n) 16 2) (s.rb (Reg.TRG_SRC n) 20))) s

/-! ### PIN and DECISION triggers, event inputs (R330, R334) -/

/-- Whether COND selects an edge of the given direction. -/
def condEdge (cond : Nat) (rising : Bool) : Bool := cond = 3 || (if rising then cond = 1 else cond = 2)

/-- The PIN triggers of EVT_IN[i] at an edge stamped `t` on the acquisition time base. -/
def State.trigsPin (s : State) (i : Nat) (rising : Bool) (t : Stamp) : State :=
  (s.trigsOf 3 (fun sel => decide (sel % 16 = i))).foldl
    (fun s n => if condEdge (s.trgCond n) rising then s.fireAtEdge n t else s) s

/-- The DECISION triggers of decision bit `d` at a change (R257, R330). -/
def State.trigsDecision (s : State) (d : Nat) (rising : Bool) : State :=
  if s.domOn pdAcq then
    (s.trigsOf 4 (fun sel => decide (sel % 256 = d))).foldl
      (fun s n => if condEdge (s.trgCond n) rising then s.fireAtEdge n (s.tbNow s.acqTb) else s) s
  else s

def State.evtInOf (s : State) (i : Nat) : EvtIn := Tab.get (fun _ => {}) s.evtIn i
def State.setEvtIn (s : State) (i : Nat) (x : EvtIn) : State := { s with evtIn := Tab.put (fun _ => {}) s.evtIn i x }

/-- The edges that the TDC of one EVT_IN pin takes in `evtWindowFs`: a burst, and on average one every 20 ns (R478). -/
def evtBurst : Nat := 16
def evtWindowFs : Nat := 320000000

/-- An accepted edge (R334): counted, and where EDGE selects its direction captured and fed to the PIN triggers. -/
def State.evtAccept (s : State) (i : Nat) (rising : Bool) (ph : Nat) : State :=
  let s := s.bump (Reg.TRG_CNT 5)
  if s.rb (Reg.TRG_EV_CFG i) (if rising then 1 else 2) then
    let t := s.tdc (s.rf Reg.TRG_CTRL 0 2) ph
    let s := ((s.putStamp (Reg.TRG_EV_NS i) t).setRb (Reg.TRG_EV_STATUS i) 16 rising).publish (Reg.TRG_EV_STATUS i)
    s.trigsPin i rising (s.tdc s.acqTb ph)
  else s

/-- Whether the TDC takes an edge whose level then stays `held` ns: with the edge before it where a pulse shorter than 4 ns lies
between them, and else where the burst leaves room for the edge, and for both edges of such a pulse (R478, R479). -/
def EvtIn.takes (x : EvtIn) (held : Nat) : Bool :=
  x.mate.getD (decide (x.recent.length + (if held < 4 then 2 else 1) ≤ evtBurst))

/-- An edge at EVT_IN[i] whose level then stays `held` ns (R334, R479). -/
def State.evtInEdge (s : State) (i : Nat) (rising : Bool) (ph held : Nat) : State :=
  if !s.domOn pdAcq || !s.rb (Reg.TRG_EV_CFG i) 0 then s
  else
    let x := s.evtInOf i
    let x := { x with recent := x.recent.filter (fun t => decide (s.now < t + evtWindowFs)) }
    let takes := x.takes held
    let filt := s.rf (Reg.TRG_EV_CFG i) 8 8
    let short := filt ≠ 0 && decide (held ≤ 10 * filt)
    let s := s.setEvtIn i
      { recent := if takes then s.now :: x.recent else x.recent
        mate := if held < 4 then some takes else none
        reject := short && !x.reject }
    if takes && !x.reject && !short then s.evtAccept i rising ph else s.bump (Reg.TRG_CNT 6)

/-! ### The TRG registers (R327, R329, R344) -/

/-- Whether COND is listed for KIND (R327). -/
def condListed (kind cond : Nat) : Bool :=
  match kind with
  | 0 => decide (1 ≤ cond) && decide (cond ≤ 5)
  | 1 => decide (1 ≤ cond) && decide (cond ≤ 3)
  | 2 => decide (1 ≤ cond) && decide (cond ≤ 3)
  | 3 => decide (1 ≤ cond) && decide (cond ≤ 3)
  | 4 => decide (1 ≤ cond) && decide (cond ≤ 3)
  | 5 => true
  | _ => false

/-- Whether SEL lies in the ranges of its KIND (R327). -/
def selListed (v : Word) : Bool :=
  match fld v 0 3 with
  | 0 => decide (fld v 8 7 < 96) && decide (fld v 16 3 < 7)
  | 1 => decide (fld v 8 4 < 12) && decide (fld v 16 5 < 16)
  | 2 => decide (fld v 8 4 < 12) && decide (fld v 16 2 < 3)
  | 3 => true
  | 4 => true
  | 5 => decide (fld v 8 6 ≠ 48)
  | _ => false

/-- Values that the TRG tables refuse outside the recorder's registers. -/
def trgRefuses (s : State) (off : Nat) (v : Word) : Bool :=
  if off = Reg.TRG_MARK_HOLD then decide (10000 < fld v 0 14)
  else if 0x161000 ≤ off && off < 0x161800 then
    let n := (off - 0x161000) / 0x20
    match off % 0x20 with
    | 0x00 => bit v 0 && !condListed (s.trgKind n) (fld v 1 3)
    | 0x04 => !selListed v || s.rb (Reg.TRG_CFG n) 0
    | _ => false
  else false

/-- What a write of a TRG register does beside its plain fields (R329). `old` is the register before the write. -/
def State.trgHook (s : State) (off : Nat) (old v : Word) : State :=
  if 0x161000 ≤ off && off < 0x161800 && off % 0x20 = 0 then
    let n := (off - 0x161000) / 0x20
    if !bit v 0 then s.setTrig n {}
    else if bit old 0 then s
    else s.setTrig n { rise := .disarmed, fall := .disarmed, prev := none }
  else if 0x160400 ≤ off && off < 0x160600 && off % 0x20 = 0 && !bit v 0 then
    s.setEvtIn ((off - 0x160400) / 0x20) {}
  else s

end Sys2Proof.Machine
end

