-- ==== Sys2Proof/Machine/Recorder.lean ====
section
/-! DEFINITION. The endless recorder (R335-R342): lanes, frames, DATA, MARK and GAP records, the FIFO and the ring-16 buffer. -/

namespace Sys2Proof.Machine

def State.lane (s : State) (ch : Nat) : List Sample := Tab.get (fun _ => []) s.lanes ch
def State.setLane (s : State) (ch : Nat) (l : List Sample) : State :=
  { s with lanes := Tab.put (fun _ => []) s.lanes ch l }

/-- Fields of TRG_LANEch. -/
def State.laneEn (s : State) (ch : Nat) : Bool := s.rb (Reg.TRG_LANE ch) 0
def State.laneTap (s : State) (ch : Nat) : Nat := s.rf (Reg.TRG_LANE ch) 1 3
def State.laneMask (s : State) (ch : Nat) : Nat := s.rf (Reg.TRG_LANE ch) 4 5
def State.laneN (s : State) (ch : Nat) : Nat := s.rf (Reg.TRG_LANE ch) 12 19

/-- The enabled lanes, in channel order. -/
def State.lanesOn (s : State) : List Nat := (List.range 96).filter (fun ch => s.laneEn ch)

/-- The frame length in stamp units. -/
def State.frameLen (s : State) : Nat := s.rf Reg.TRG_REC_CTRL 0 10 * 1000000 * stampNsUnit

/-- A lane of channel `ch` at tap `tap` takes a sample while the recorder runs. -/
def State.laneTake (s : State) (ch tap : Nat) (y : Sample) : State :=
  if s.recorder.running && s.laneEn ch && decide (s.laneTap ch = tap) then s.setLane ch (y :: s.lane ch) else s

/-! ### DATA records (R335, R338) -/

/-- The reductions MIN, MAX, MEAN, RMS of a block, each as a word (R335). -/
def blockReduce (xs : List Int) : List Word :=
  match xs with
  | [] => [0, 0, 0, 0]
  | x :: rest =>
    let n := xs.length
    let sum := xs.foldl (· + ·) 0
    let sq := xs.foldl (fun a v => a + v.natAbs * v.natAbs) 0
    [ofQ31 (rest.foldl min x), ofQ31 (rest.foldl max x), ofQ31 ((sum + (n / 2 : Nat)) / (n : Int)),
     word (isqrt ((sq + n / 2) / n))]

/-- The starts of the blocks whose last sample lies in the frame `[f, f + len)`; `b` is the block length (R338). -/
def blockStarts (f len b : Nat) : List Nat :=
  if b = 0 then []
  else if b ≤ len then (List.range (len / b)).map (fun i => f + i * b)
  else if (f + len) % b = 0 then [f + len - b]
  else []

/-- Samples with stamps in `[a, b)`, oldest first. -/
def within (l : List Sample) (a b : Nat) : List Sample :=
  (l.filter (fun y => decide (a ≤ y.stamp) && decide (y.stamp < b))).reverse

/-- Index of the first sample carrying a flag; 0xFFFF for none. -/
def firstFlagged : Nat → List Sample → Nat
  | _, [] => 0xFFFF
  | i, y :: ys => if y.flags = 0 then firstFlagged (i + 1) ys else i

/-- The section of lane `ch` in the DATA record of the frame at `f` (R338). -/
def State.laneSection (s : State) (ch f : Nat) : List Byte :=
  let len := s.frameLen
  let l := if s.rb (Reg.ACQ_CIR_CTRL (ch / 8)) 0 then s.lane ch else []
  let xs := within l f (f + len)
  let mask := s.laneMask ch
  let raw := if mask % 2 = 1 then xs else []
  let bl := s.laneN ch * tapPeriod (s.laneTap ch)
  let starts := if s.rb (Reg.ACQ_CIR_CTRL (ch / 8)) 0 then blockStarts f len bl else []
  let blocks := starts.flatMap (fun b =>
    let r := blockReduce ((within l b (b + bl)).map (fun y => q31 y.val))
    ((List.range 4).filter (fun i => decide (mask >>> (i + 1) % 2 = 1))).flatMap (fun i => bytesOf (r.getD i 0)))
  let flags := xs.foldl (fun a y => a ||| y.flags) 0
  let body := leBytes 4 (ch + 256 * s.laneTap ch + 2048 * mask + 65536 * (flags % 16)) ++
    leBytes 4 (raw.length % 65536 + 65536 * starts.length) ++ leBytes 4 (firstFlagged 0 xs % 65536) ++
    leBytes 4 (match xs with | [] => 0 | y :: _ => (y.stamp - f) / stampNsUnit) ++
    raw.flatMap (fun y => bytesOf y.val) ++ blocks
  fit (roundUp 8 body.length) body

/-- The header of a record (R337). -/
def State.recHeader (s : State) (type flags len : Nat) (t : Stamp) : List Byte :=
  leBytes 4 (type + 256 * flags) ++ leBytes 4 len ++ leBytes 4 s.recorder.seq ++
    leBytes 4 (s.timeQuality s.acqTb + 65536 * s.rf (Reg.TB_UTC s.acqTb) 0 16) ++
    leBytes 4 (stampSec t) ++ leBytes 4 (stampSec t >>> 32 % 65536) ++ leBytes 4 (stampNs t) ++ leBytes 4 0

/-- Flag TB_UNLOCKED of a record that is not a frame's. -/
def State.tbUnlocked (s : State) : Nat := if s.tbState s.acqTb = 3 then 0 else 8

/-- The DATA record of the frame at `f`. -/
def State.dataRecord (s : State) (f : Stamp) (first last resync : Bool) : List Byte :=
  let body := leBytes 4 s.lanesOn.length ++ leBytes 4 0 ++ s.lanesOn.flatMap (fun ch => s.laneSection ch f)
  let unlocked := !s.lockedThroughout s.acqTb f (f + s.frameLen)
  s.recHeader 1 (first.toNat + 2 * last.toNat + 4 * resync.toNat + 8 * unlocked.toNat) (32 + body.length) f ++ body

/-- The MARK record of a mark (R339). -/
def State.markRecord (s : State) (m : Mark) : List Byte :=
  let es := (List.range 64).filterMap (fun n => m.entries.find? (fun e => e.trig = n))
  let mask := es.foldl (fun a e => a ||| 2 ^ e.trig) 0
  s.recHeader 2 s.tbUnlocked (48 + 8 * es.length) m.anchor ++ leBytes 4 mask ++ leBytes 4 (mask >>> 32) ++
    leBytes 4 es.length ++ leBytes 4 0 ++
    es.flatMap (fun e =>
      leBytes 4 (e.trig + 256 * e.kind + 65536 * e.back + 2 ^ 24 * e.tap) ++ leBytes 4 e.delta)

/-- The GAP record for what was lost, with the marks or without; `next` is the first frame after the gap (R341). -/
def State.gapRecord (s : State) (next : Stamp) (marks : Bool) : List Byte :=
  let r := s.recorder
  s.recHeader 3 s.tbUnlocked 48 (r.gapFrom.getD next) ++ leBytes 4 r.lostFrames ++ leBytes 4 (if marks then r.lostMarks else 0) ++
    leBytes 4 (stampSec next) ++ leBytes 4 (stampNs next)

/-! ### The FIFO and the ring-16 buffer (R340, R341) -/

def recFifoMax : Nat := 4194304
def recMarkMax : Nat := 256

/-- Octets of DATA and GAP records held, and MARK records held. -/
def Recorder.fill (r : Recorder) : Nat := (r.fifo.filter (fun i => !i.mark)).foldl (fun a i => a + i.octets.length) 0
def Recorder.marksHeld (r : Recorder) : Nat := (r.fifo.filter (fun i => i.mark)).length

def State.setRec (s : State) (r : Recorder) : State := { s with recorder := r }

/-- TRG_REC_STATE shows the fill of the FIFO in KiB. -/
def State.recShow (s : State) : State :=
  s.setRf Reg.TRG_REC_STATE 16 13 ((s.recorder.fill + 1023) / 1024)

/-- A record enters the FIFO: it takes a number and is counted (R337). -/
def State.recPush (s : State) (octets : List Byte) (mark : Bool) : State :=
  let r := s.recorder
  (s.setRec { r with
    fifo := r.fifo ++ [{ octets := octets, mark := mark, seq := r.seq }]
    seq := (r.seq + 1) % 2 ^ 32 }).bump (Reg.TRG_CNT 0)

/-- A record is dropped: event 49 at the first of an episode (R341). -/
def State.recDrop (s : State) (mark : Bool) (frame : Option Stamp) : State :=
  let r := s.recorder
  let fresh := r.lostFrames = 0 && r.lostMarks = 0
  let s := s.setRec { r with
    lostFrames := r.lostFrames + (if mark then 0 else 1)
    lostMarks := r.lostMarks + (if mark then 1 else 0)
    gapFrom := match r.gapFrom with | some g => some g | none => frame }
  let s := s.bump (Reg.TRG_CNT (if mark then 3 else 1))
  if fresh then s.flagRaise Reg.TRG_STATUS 1 49 0 else s

/-- Something has been lost and no GAP record reports it yet. -/
def Recorder.gapOpen (r : Recorder) : Bool := decide (r.lostFrames ≠ 0) || decide (r.lostMarks ≠ 0)

/-- The GAP record enters the FIFO, ahead of the frame at `next`, for which there is room: frames lost are reported, and marks lost once
their queue has room too. -/
def State.recGap (s : State) (next : Stamp) : State :=
  let marks := decide (s.recorder.marksHeld < recMarkMax)
  if s.recorder.lostFrames ≠ 0 || (s.recorder.gapOpen && marks) then
    let s := (s.recPush (s.gapRecord next marks) false).bump (Reg.TRG_CNT 4)
    s.setRec { s.recorder with lostFrames := 0, lostMarks := if marks then 0 else s.recorder.lostMarks, gapFrom := none }
  else s

/-- The ring-16 buffer being filled is completed and its descriptor returned (R340, R376). -/
def State.recComplete (s : State) : State :=
  match s.recorder.buf with
  | none => s
  | some b =>
    let d := s.headDesc 16
    let s := s.setRec { s.recorder with buf := none }
    let s := s.setRingX 16 { s.ringX 16 with wip := 0 }
    (s.hostWrite (bufAddr d) b.octets).ringReturn 16
      (d.take 12 ++ leBytes 4 (b.octets.length % 65536) ++ leBytes 4 b.firstSeq ++
        leBytes 4 (b.count % 65536 + 65536 * b.mark.toNat) ++ leBytes 4 (b.octets.length >>> 16 % 256))
      (statusWord false false false 0 0)

/-- BUFLEN in octets. -/
def State.recBufLen (s : State) : Nat := s.rf Reg.TRG_REC_CTRL 16 14 * 1024

/-- The first record of the FIFO moves to the buffer, when there is one for it; a full buffer is completed first. -/
def State.recMove (s : State) (i : RecItem) (rest : List RecItem) : State × Bool :=
  let s := match s.recorder.buf with
    | some b => if s.recBufLen < b.octets.length + i.octets.length then s.recComplete else s
    | none => s
  let take := fun (s : State) (b : RecBuf) =>
    let s := s.setRec { s.recorder with fifo := rest, buf := some b }
    let s := s.setRingX 16 { s.ringX 16 with wip := 1, episode := false }
    if b.mark then s.recComplete else s
  match s.recorder.buf with
  | some b =>
    (take s { b with octets := b.octets ++ i.octets, count := b.count + 1, mark := b.mark || i.mark }, true)
  | none =>
    if s.ringReady 16 then
      (take s { octets := i.octets, count := 1, mark := i.mark, firstSeq := i.seq, since := s.now }, true)
    else (s.ringExhaust 16 false, false)

/-- Records move from the FIFO to ring-16 buffers while there are descriptors. -/
def recPumpN : Nat → State → State
  | 0, s => s
  | fuel + 1, s =>
    match s.recorder.fifo with
    | [] => s
    | i :: rest =>
      let p := s.recMove i rest
      if p.2 then recPumpN fuel p.1 else p.1

/-- The recorder offers its records to ring 16. -/
def State.recPump (s : State) : State := (recPumpN s.recorder.fifo.length s).recShow

/-- Samples of one frame at tap `t`. -/
def State.frameSamples (s : State) (t : Nat) : Nat := s.frameLen / tapPeriod t

/-- The largest section of lane `ch`. -/
def State.laneMax (s : State) (ch : Nat) : Nat :=
  let fs := s.frameSamples (s.laneTap ch)
  let mask := s.laneMask ch
  let raw := if mask % 2 = 1 then fs else 0
  let reds := ((List.range 4).filter (fun i => decide (mask >>> (i + 1) % 2 = 1))).length
  let n := s.laneN ch
  let blocks := if mask / 2 = 0 then 0 else if n ≤ fs then fs / n else 1
  roundUp 8 (16 + 4 * raw + 4 * reds * blocks)

/-- The octets of the largest DATA record. -/
def State.dataMax (s : State) : Nat := 40 + (s.lanesOn.map (fun ch => s.laneMax ch)).foldl (· + ·) 0

/-- Whether a record of these octets needs no room in the FIFO: none waits before it, and a buffer takes it at once. -/
def State.recStraight (s : State) (octets : List Byte) : Bool :=
  s.recorder.fifo.isEmpty && (s.recMove { octets := octets, mark := false, seq := s.recorder.seq } []).2

/-- A DATA record is emitted, or dropped whole when neither the FIFO nor a buffer takes it (R341). -/
def State.recEmitFrame (s : State) (f : Stamp) (last resync : Bool) : State :=
  let first := s.recorder.first
  let record := fun (s : State) => s.dataRecord f first last resync
  let t := s.recGap f
  let u := t.recPump
  let s :=
    if t.recorder.fill + (record t).length ≤ recFifoMax then t.recPush (record t) false
    else if s.recorder.fifo.isEmpty && u.recStraight (record u) then u.recPush (record u) false
    else s.recDrop false (some f)
  s.setRec { s.recorder with first := false }

/-- The samples that the frames from `f` on no longer need are let go. -/
def State.laneTrim (s : State) (f : Stamp) : State :=
  s.lanesOn.foldl (fun s ch =>
    let bl := s.laneN ch * tapPeriod (s.laneTap ch)
    let keep := if bl = 0 then f else f - f % bl
    s.setLane ch ((s.lane ch).filter (fun y => decide (keep ≤ y.stamp)))) s

/-- The recorder stops: STOPPED, and the STOP command's result (R336). -/
def State.recStopped (s : State) : State :=
  let s := { s.setRec { s.recorder with running := false, stopAt := none } with lanes := [] }
  let s := (s.setRb Reg.TRG_REC_STATE 0 false).setRb Reg.TRG_REC_CMD 0 false
  ((s.unready Reg.TRG_REC_RES).setRf Reg.TRG_REC_RES 16 8 0).publish Reg.TRG_REC_RES

/-- The frame at the front is emitted, and the recorder goes on to the next. -/
def State.recFrameOut (s : State) (resync : Bool) : State :=
  let f := s.recorder.frame
  let last := match s.recorder.stopAt with | some g => decide (g ≤ f) | none => false
  let s := s.recEmitFrame f last resync
  let s := s.setRec { s.recorder with frame := f + s.frameLen }
  let s := if last then s.recStopped else s.laneTrim (f + s.frameLen)
  s.recPump

/-- Whether the last sample of the frame at the front is available in every enabled lane whose circuit runs. -/
def State.recFrameReady (s : State) : Bool :=
  let e := s.recorder.frame + s.frameLen
  s.lanesOn.all (fun ch =>
    !s.rb (Reg.ACQ_CIR_CTRL (ch / 8)) 0 ||
    (match s.lane ch with
     | [] => false
     | y :: _ => decide (e ≤ y.stamp + tapPeriod (s.laneTap ch))))

/-- RECORDER_FRAME: the DATA record of the frame whose samples have come in (R340). -/
def State.recorderFrame (s : State) : State :=
  if s.recorder.running && s.domOn pdAcq && s.recFrameReady &&
      decide (s.recorder.frame + s.frameLen ≤ s.tbNow s.acqTb) then s.recFrameOut false
  else s

/-- MARK_HOLD_CLOSE: the first mark whose hold has passed is closed, and its record emitted (R333, R340). -/
def State.markHoldClose (s : State) : State :=
  match s.marks.find? (fun m => decide (m.closeAt ≤ s.now)) with
  | none => s
  | some m =>
    let s := { s with marks := s.marks.erase m }
    if s.recorder.running then
      let s :=
        if s.recorder.marksHeld < recMarkMax then
          let s := if s.recorder.fill + 48 + s.dataMax ≤ recFifoMax then s.recGap s.recorder.frame else s
          (s.recPush (s.markRecord m) true).bump (Reg.TRG_CNT 2)
        else s.recDrop true none
      s.recPump
    else s

/-- RECORDER_FLUSH: FLUSH ms after its first record a buffer is completed (R340). -/
def State.recorderFlush (s : State) : State :=
  match s.recorder.buf with
  | some b => if b.since + s.rf Reg.TRG_REC_FLUSH 0 16 * fsPerMs ≤ s.now then s.recComplete.recPump else s
  | none => s

/-- At a restart of acquisition (R271) the frames begun on the old grid are emitted, the last with RESYNC, and the
recorder goes on at the first boundary after `now`, the time on the new grid (R338). `old` is the time on the old grid. -/
def State.recRestart (s : State) (old now : Stamp) : State :=
  if s.recorder.running then
    let len := s.frameLen
    let n := if s.recorder.frame ≤ old then (old - s.recorder.frame) / len + 1 else 0
    let s := (List.range n).foldl
      (fun s i => if s.recorder.running then s.recFrameOut (decide (i + 1 = n)) else s) s
    if s.recorder.running then
      let s := { s with lanes := [] }
      s.setRec { s.recorder with
        frame := (now / len + 1) * len
        stopAt := s.recorder.stopAt.map (fun _ => (now / len + 1) * len) }
    else s
  else s

/-! ### START and STOP (R336) -/

/-- PARAM of START for one lane. -/
def State.laneOk (s : State) (ch : Nat) : Bool :=
  let n := s.laneN ch
  let t := s.laneTap ch
  let fs := s.frameSamples t
  decide (1000000000 / tapPeriodNs t % n = 0) && (decide (fs % n = 0) || decide (n % fs = 0))

/-- RESULT of START (R336). -/
def State.startResult (s : State) : Nat :=
  if s.recorder.running then 1
  else if s.lanesOn.any (fun ch => !s.laneOk ch) then 2
  else if s.recBufLen < s.dataMax then 3
  else if s.tbState s.acqTb = 0 then 4
  else if s.lanesOn.isEmpty then 5
  else 0

/-- The result of a recorder command is published (R50, R336). -/
def State.recResult (s : State) (res : Nat) : State :=
  ((s.setRb Reg.TRG_REC_CMD 0 false).setRf Reg.TRG_REC_RES 16 8 res).publish Reg.TRG_REC_RES

/-- START (R336): RUNNING from the first frame boundary after acceptance, or the result that says why not. -/
def State.recStart (s : State) : State :=
  let s := s.unready Reg.TRG_REC_RES
  let r := s.startResult
  if r = 0 then
    let len := s.frameLen
    let s := { s with lanes := [] }
    let s := s.setRec { s.recorder with
      running := true, stopAt := none, first := true, seq := 0
      frame := (s.tbNow s.acqTb / len + 1) * len }
    (s.setRb Reg.TRG_REC_STATE 0 true).recResult 0
  else s.recResult r

/-- STOP (R336): the current frame is completed with LAST; the result follows it. -/
def State.recStop (s : State) : State :=
  let s := s.unready Reg.TRG_REC_RES
  if s.recorder.running && s.recorder.stopAt.isNone then
    let len := s.frameLen
    let cur := s.tbNow s.acqTb / len * len
    if cur < s.recorder.frame && s.recorder.first then s.recStopped
    else s.setRec { s.recorder with stopAt := some (max cur s.recorder.frame) }
  else s.recResult 1

/-- Values that the recorder's registers refuse (R336, R344). -/
def recRefuses (s : State) (off : Nat) (v : Word) : Bool :=
  if off = Reg.TRG_REC_CTRL then
    s.recorder.running || decide (fld v 0 10 = 0) || decide (1000 % fld v 0 10 ≠ 0) ||
      decide (fld v 16 14 < 4) || decide (16383 < fld v 16 14)
  else if off = Reg.TRG_REC_CMD then
    bit v 0 && (s.recorder.stopAt.isSome || decide (fld v 1 2 = 0) || decide (fld v 1 2 = 3))
  else if off = Reg.TRG_REC_FLUSH then decide (fld v 0 16 = 0)
  else if 0x160100 ≤ off && off < 0x160280 then
    s.recorder.running || decide (fld v 1 3 = 7) || decide (fld v 12 19 = 0) || decide (320000 < fld v 12 19)
  else false

/-- What a write of a recorder register does beside its plain fields. -/
def State.recHook (s : State) (off : Nat) (v : Word) : State :=
  if off = Reg.TRG_REC_CMD && bit v 0 then (if fld v 1 2 = 1 then s.recStart else s.recStop) else s

end Sys2Proof.Machine
end

