-- ==== Sys2Proof/Machine/Energy.lean ====
section
/-! DEFINITION. The energy engine (R307-R326): elementary periods, quantities, gain and phase correction, accumulators,
billing intervals, detectors and meter-test pulses. -/

namespace Sys2Proof.Machine

/-! ### Samples in engineering units (R286) -/

def State.chan (s : State) (ch : Nat) : Chan := Tab.get (fun _ => {}) s.chans ch
def State.setChan (s : State) (ch : Nat) (c : Chan) : State := { s with chans := Tab.put (fun _ => {}) s.chans ch c }

/-- What stood at `t` of a value that has changed since, newest change first: each change says from when on, and the value before. -/
def stoodAt {α : Type} (log : List (Stamp × α)) (t : Stamp) (now : α) : α :=
  (((log.filter (fun e => decide (t < e.1))).getLast?).map (fun e => e.2)).getD now

/-- A sample in volts or amperes, binary32: sample × 2^−31 × SCALE, which changes with a tap-0 sample (R282). -/
def State.engValue (s : State) (ch : Nat) (y : Sample) : Word :=
  f32Mul (word (Fmt.ofScaled b32 (q31 y.val) (-31))) (stoodAt (s.chan ch).scales y.stamp (s.reg (Reg.FLT_CH_SCALE ch)))

/-- The tap-6 sample of channel `ch` stamped `t`. -/
def State.sampleAt (s : State) (ch : Nat) (t : Stamp) : Option Sample := (s.chan ch).hist.find? (fun y => y.stamp = t)

/-- θ of R294: the phase of f0 at the nanoseconds of a stamp. -/
def thetaAt (f0 ns : Nat) : F64 :=
  F64.mul (F64.mul (F64.mul (F64.mul F64.two F64.pi) (F64.ofInt f0)) (F64.ofInt ns)) (F64.ratio 1 1000000000)

/-! ### Periods (R307, R308) -/

def State.nrgOf (s : State) (c : Nat) : NrgCirc := Tab.get (fun _ => {}) s.nrg c
def State.setNrg (s : State) (c : Nat) (x : NrgCirc) : State := { s with nrg := Tab.put (fun _ => {}) s.nrg c x }

/-- f0 of a circuit. -/
def NrgCirc.f0 (x : NrgCirc) : Nat := if x.f60 then 60 else 50

/-- Length of a period in thirds of a nanosecond. -/
def periodThirds (f60 : Bool) : Nat := if f60 then 50000000 else 60000000

/-- The instant `q` thirds of a nanosecond into second `sec`, as the nearest stamp. -/
def thirdsStamp (sec q : Nat) : Stamp := (sec * stampSecUnit + (q * 2 ^ 32 + 1) / 3) % stampMod

/-- Start and end of the next period of a circuit, in thirds of a nanosecond of its second. -/
def NrgCirc.p0 (x : NrgCirc) : Nat := x.k * periodThirds x.f60
def NrgCirc.p1 (x : NrgCirc) : Nat := (x.k + 1) * periodThirds x.f60
def NrgCirc.startStamp (x : NrgCirc) : Stamp := thirdsStamp x.sec x.p0
def NrgCirc.endStamp (x : NrgCirc) : Stamp := thirdsStamp x.sec x.p1

/-- The circuit goes on to its next period. -/
def NrgCirc.advance (x : NrgCirc) : NrgCirc :=
  if x.k + 1 = x.f0 then { x with sec := x.sec + 1, k := 0 } else { x with k := x.k + 1 }

/-- The first period that starts after `t`. -/
def firstPeriod (f60 : Bool) (t : Stamp) : Nat × Nat :=
  let q := t % stampSecUnit * 3 / stampNsUnit
  let k := q / periodThirds f60 + 1
  if k = (if f60 then 60 else 50) then (stampSec t + 1, 0) else (stampSec t, k)

/-- Stamps and weights, as sixths of a cell, of the samples that period `[p0, p1)` of second `sec` weights (R308):
sample j stands 150,000 j thirds of a nanosecond into the second and owns 75,000 either side. -/
def periodCells (sec p0 p1 : Nat) : List (Stamp × Nat) :=
  let jlo : Int := ((p0 : Int) - 75000) / 150000 + 1
  let jhi : Int := ((p1 : Int) + 74999) / 150000
  (List.range (jhi - jlo + 1).toNat).map (fun i =>
    let j : Int := jlo + i
    let a := max (150000 * j - 75000) (p0 : Int)
    let b := min (150000 * j + 75000) (p1 : Int)
    (stampAdd (mkStamp sec 0) (j * 50000 * (stampNsUnit : Nat)), (b - a).toNat / 25000))

/-! ### Correction (R311, R312) -/

/-- Point `p` of the correction bank of channel `ch`: X, GAIN, PHASE (R325). -/
def State.corrPoint (s : State) (ch : Nat) (b : Bool) (p : Nat) : Word × Word × Word :=
  let a := 0x820000 + ch * 0x100 + (if b then 0x80 else 0) + 12 * p
  (s.tw a, s.tw (a + 4), s.tw (a + 8))

/-- 2π × f0 × 50 µs. -/
def uDen (f0 : Nat) : F64 :=
  F64.mul (F64.mul (F64.mul F64.two F64.pi) (F64.ofInt f0)) (F64.ratio 50 1000000)

/-- Whether a correction bank is valid (R311). -/
def State.corrValid (s : State) (ch : Nat) (b : Bool) (f0 : Nat) : Bool :=
  let pts := (List.range 9).map (fun p => s.corrPoint ch b p)
  pts.all (fun q =>
    f32IsFinite q.1 && f32IsFinite q.2.1 && f32IsFinite q.2.2 &&
    f32Le 0x3F600000 q.2.1 && f32Le q.2.1 0x3F900000 &&
    F64.le (F64.abs (F64.div (F64.ofF32 q.2.2) (uDen f0))) F64.one) &&
  f32Le 0 (s.corrPoint ch b 0).1 &&
  (List.range 8).all (fun p => f32Lt (s.corrPoint ch b p).1 (s.corrPoint ch b (p + 1)).1)

/-- Linear interpolation between two points of a bank, in binary64. -/
def lerp64 (x x0 x1 a b : F64) : F64 :=
  F64.add a (F64.div (F64.mul (F64.sub b a) (F64.sub x x0)) (F64.sub x1 x0))

/-- GAIN and PHASE of channel `ch` at an RMS (R312). -/
def State.corrAt (s : State) (ch : Nat) (b : Bool) (x : F64) : F64 × F64 :=
  let pt := fun p => s.corrPoint ch b p
  let f := F64.ofF32
  if F64.lt x (f (pt 0).1) then (f (pt 0).2.1, f (pt 0).2.2)
  else
    match (List.range 8).find? (fun p => F64.le (f (pt p).1) x && F64.lt x (f (pt (p + 1)).1)) with
    | some p =>
      (lerp64 x (f (pt p).1) (f (pt (p + 1)).1) (f (pt p).2.1) (f (pt (p + 1)).2.1),
       lerp64 x (f (pt p).1) (f (pt (p + 1)).1) (f (pt p).2.2) (f (pt (p + 1)).2.2))
    | none => (f (pt 8).2.1, f (pt 8).2.2)

/-- The samples of a period on one channel: stamp, weight, and the corrected value in binary64, in ascending order, with
what the uncorrected RMS needs and whether a sample is flagged or missing. -/
structure PeriodSamples where
  w : List F64
  x : List F64
  raw : List F64
  ns : List Nat
  flagged : Bool
deriving DecidableEq, Repr

/-- Value of channel `ch` at stamp `t` in binary64; a missing sample contributes 0 (R309). -/
def State.valueAt (s : State) (ch : Nat) (t : Stamp) : F64 :=
  match s.sampleAt ch t with
  | some y => F64.ofF32 (s.engValue ch y)
  | none => 0

/-- Whether the sample of channel `ch` at stamp `t` is missing or carries a flag. -/
def State.flaggedAt (s : State) (ch : Nat) (t : Stamp) : Bool :=
  match s.sampleAt ch t with
  | some y => decide (y.flags ≠ 0)
  | none => true

/-- The samples of a period of circuit `c`'s channel `ch`, corrected where CORR_EN has it (R312). -/
def State.periodSamples (s : State) (x : NrgCirc) (ch : Nat) : PeriodSamples :=
  let cells := periodCells x.sec x.p0 x.p1
  let raw := cells.map (fun e => s.valueAt ch e.1)
  let g := if x.corr then s.corrAt ch x.bank (Tab.get (fun _ => 0) x.rms ch) else (F64.one, 0)
  let u := if x.corr then F64.div g.2 (uDen x.f0) else 0
  let au := F64.abs u
  let back := F64.lt u 0
  let vals := cells.map (fun e =>
    let v := s.valueAt ch e.1
    let n := s.valueAt ch (stampAdd e.1 (if back then -(50000 * 2 ^ 32) else 50000 * 2 ^ 32))
    if x.corr then F64.mul g.1 (F64.add (F64.mul (F64.sub F64.one au) v) (F64.mul au n)) else v)
  { w := cells.map (fun e => F64.ratio e.2 6), x := vals, raw := raw
    ns := cells.map (fun e => stampNs e.1), flagged := cells.any (fun e => s.flaggedAt ch e.1) }

/-! ### Quantities (R310) -/

/-- A sum in ascending order, from 0. -/
def sum64 (xs : List F64) : F64 := xs.foldl F64.add 0

/-- W = 20,000 / f0. -/
def weight64 (f0 : Nat) : F64 := F64.ratio 20000 f0

/-- sqrt(sum(w x²) / W). -/
def rms64 (f0 : Nat) (w x : List F64) : F64 :=
  F64.sqrt (F64.div (sum64 (List.zipWith (fun a b => F64.mul a (F64.mul b b)) w x)) (weight64 f0))

/-- The fundamental RMS phasor: (√2 / W) × sum(w x e^(−iθ)). -/
def fund64 (f0 : Nat) (p : PeriodSamples) : C64 :=
  let wx := List.zipWith F64.mul p.w p.x
  let k := F64.div F64.sqrt2 (weight64 f0)
  let re := sum64 (List.zipWith (fun v n => F64.mul v (F64.cos (thetaAt f0 n))) wx p.ns)
  let im := sum64 (List.zipWith (fun v n => F64.neg (F64.mul v (F64.sin (thetaAt f0 n)))) wx p.ns)
  C64.scale k ⟨re, im⟩

/-- What R310 computes of one phase or of the sum view. -/
structure Quant where
  eTot : F64
  eFund : F64
  rFund : F64
  aTot : F64
  aFund : F64
  vrms : F64
  irms : F64
  v1 : C64
deriving DecidableEq, Repr

/-- The quantities of one phase. -/
def phaseQuant (f0 : Nat) (v i : PeriodSamples) : Quant :=
  let t := F64.ratio 1 f0
  let e := F64.mul (F64.ratio 50 1000000)
    (sum64 (List.zipWith (fun a b => F64.mul a b) (List.zipWith F64.mul v.w v.x) i.x))
  let v1 := fund64 f0 v
  let i1 := fund64 f0 i
  let s1 := C64.mul v1 (C64.conj i1)
  let vr := rms64 f0 v.w v.x
  let ir := rms64 f0 i.w i.x
  { eTot := e, eFund := F64.mul s1.re t, rFund := F64.mul s1.im t
    aTot := F64.mul (F64.mul vr ir) t, aFund := F64.mul (F64.mul (C64.mag v1) (C64.mag i1)) t
    vrms := vr, irms := ir, v1 := v1 }

/-- The sum view of phases a, b and c. -/
def sumQuant (a b c : Quant) : Quant :=
  let add3 := fun (f : Quant → F64) => F64.add (F64.add (f a) (f b)) (f c)
  { eTot := add3 (·.eTot), eFund := add3 (·.eFund), rFund := add3 (·.rFund), aTot := add3 (·.aTot)
    aFund := add3 (·.aFund), vrms := 0, irms := 0, v1 := ⟨0, 0⟩ }

/-! ### Increments (R314, R315) -/

/-- An increment in LSB units, and whether it was saturated. -/
def lsbOf (f0 : Nat) (sumView : Bool) (v : F64) : Nat × Bool :=
  let lim := F64.mul (F64.ofInt (if sumView then 3 * 2 ^ 36 else 2 ^ 36)) (F64.ratio 1 f0)
  let m := F64.abs v
  if F64.lt lim m then (Fmt.scaledAbs b64 lim 24, true) else (Fmt.scaledAbs b64 m 24, false)

/-- The increments of one view: (q, n) for each quantity that gains, and whether one was saturated. -/
def viewIncrements (f0 : Nat) (sumView : Bool) (q : Quant) : List (Nat × Nat) × Bool :=
  let et := lsbOf f0 sumView q.eTot
  let ef := lsbOf f0 sumView q.eFund
  let rf := lsbOf f0 sumView q.rFund
  let st := lsbOf f0 sumView q.aTot
  let sf := lsbOf f0 sumView q.aFund
  let ep := Fmt.nonneg b64 q.eFund
  let rp := Fmt.nonneg b64 q.rFund
  let quad := if ep then (if rp then 4 else 7) else (if rp then 5 else 6)
  ([(if Fmt.nonneg b64 q.eTot then 0 else 1, et.1), (if ep then 2 else 3, ef.1), (quad, rf.1), (8, st.1), (9, sf.1)],
   et.2 || ef.2 || rf.2 || st.2 || sf.2)

def accMod : Nat := 2 ^ 96

/-- Live accumulator `a` of circuit `c` (R316). -/
def State.accOf (s : State) (c a : Nat) : Nat := Tab.get (fun _ => 0) s.acc (40 * c + a)
def State.setAcc (s : State) (c a v : Nat) : State := { s with acc := Tab.put (fun _ => 0) s.acc (40 * c + a) (v % accMod) }

/-- The increments of view `v` of circuit `c` are added. -/
def State.addView (s : State) (c v : Nat) (xs : List (Nat × Nat)) : State :=
  xs.foldl (fun s e => s.setAcc c (10 * v + e.1) (s.accOf c (10 * v + e.1) + e.2)) s

/-- The delta view of accumulator `a` of circuit `c` (R318). -/
def State.deltaView (s : State) (c a : Nat) : Word :=
  word (s.accOf c a >>> (24 + s.rf (Reg.NRG_CIR_CTRL c) 16 6))

/-! ### Snapshots (R317) -/

/-- BAR1 offset of accumulator `a` in the snapshot bank of circuit `c` (R325). -/
def snapOff (c a : Nat) : Nat := 0x600000 + c * 0x4000 + 16 * a

/-- One operation of NRG_CMD on circuit `c`: 1 SNAP, 2 LOAD, 3 CLEAR. -/
def State.nrgOp (s : State) (op c : Nat) : State :=
  (List.range 40).foldl (fun s a =>
    match op with
    | 1 =>
      let v := s.accOf c a
      ((s.setTw (snapOff c a) (word v)).setTw (snapOff c a + 4) (word (v >>> 32))).setTw (snapOff c a + 8)
        (word (v >>> 64))
    | 2 =>
      s.setAcc c a ((s.tw (snapOff c a)).toNat + (s.tw (snapOff c a + 4)).toNat * 2 ^ 32 +
        (s.tw (snapOff c a + 8)).toNat * 2 ^ 64)
    | _ => s.setAcc c a 0) s

/-- The NRG_CMD_STATUS result group is published and GO clears. -/
def State.nrgCmdDone (s : State) (res : Nat) (t : Stamp) : State :=
  let s := ((s.setReg Reg.NRG_SNAP_NS (word (stampNs t))).setReg Reg.NRG_SNAP_SEC_LO (word (stampSec t)))
  ((s.setRf Reg.NRG_CMD_STATUS 16 8 res).publish Reg.NRG_CMD_STATUS).setRb Reg.NRG_CMD 0 false

/-- Circuit `c` has reached the boundary of the accepted command. -/
def State.nrgCmdAt (s : State) (c : Nat) (t : Stamp) : State :=
  match s.nrgCmd with
  | none => s
  | some q =>
    if decide (q.left >>> c % 2 = 1) && decide (q.at_ ≤ t) then
      let s := s.nrgOp q.op c
      let left := q.left - 2 ^ c
      if left = 0 then { s with nrgCmd := none }.nrgCmdDone 0 q.at_
      else { s with nrgCmd := some { q with left := left } }
    else s

/-- Circuit `c` will not reach the boundary of the accepted command: it is disabled, and has nothing more to account. -/
def State.nrgCmdEnd (s : State) (c : Nat) : State :=
  match s.nrgCmd with
  | some q => s.nrgCmdAt c q.at_
  | none => s

/-- f0 that the last run of a circuit has taken. -/
def NrgCirc.lastF60 (x : NrgCirc) : Bool :=
  match x.later.getLast? with
  | some r => r.f60
  | none => x.f60

/-- The accepted NRG_CMD: at once for disabled circuits, at the first period boundary for enabled ones (R317). -/
def State.nrgGo (s : State) : State :=
  let s := s.unready Reg.NRG_CMD_STATUS
  let mask := s.rf Reg.NRG_CMD 16 12
  let op := s.rf Reg.NRG_CMD 1 2
  let now := s.tbNow s.acqTb
  if mask = 0 then s.nrgCmdDone 1 now
  else
    let sel := (List.range 12).filter (fun c => decide (mask >>> c % 2 = 1))
    let on := sel.filter (fun c => s.rb (Reg.NRG_CIR_CTRL c) 0)
    let s := (sel.filter (fun c => !on.contains c)).foldl (fun s c => s.nrgOp op c) s
    match on with
    | [] => s.nrgCmdDone 0 now
    | c :: _ =>
      let mixed := on.any (fun d => (s.nrgOf d).lastF60 != (s.nrgOf c).lastF60)
      let at_ :=
        if mixed then (now / (stampSecUnit / 10) + 1) * (stampSecUnit / 10)
        else
          let f60 := (s.nrgOf c).lastF60
          let p := firstPeriod f60 now
          thirdsStamp p.1 (p.2 * periodThirds f60)
      { s with nrgCmd := some { op := op, left := on.foldl (fun a d => a + 2 ^ d) 0, at_ := at_ } }

/-! ### Detectors (R322) -/

/-- e^(i2π/3) in binary64. -/
def alpha64 : C64 := ⟨0xBFE0000000000000, 0x3FEBB67AE8584CAA⟩
def alphaSq64 : C64 := ⟨0xBFE0000000000000, 0xBFEBB67AE8584CAA⟩

/-- (x + k y + l z) / 3 (R295). -/
def sequence64 (k l x y z : C64) : C64 :=
  let t := C64.add (C64.add x (C64.mul k y)) (C64.mul l z)
  ⟨F64.div t.re (F64.ofInt 3), F64.div t.im (F64.ofInt 3)⟩

/-- One qualifying period of a detector: its run count and whether the run is complete. -/
def runStep (run persist : Nat) (holds : Bool) : Nat × Bool :=
  if holds then (if persist ≤ run + 1 then (0, true) else (run + 1, false)) else (0, false)

/-- A detector bit of circuit `c` changes: STATUS bit, state register bit, flag and event. -/
def State.detChange (s : State) (c statusBit regOff : Nat) (v : Bool) (flag event : Nat) (evt : Bool) : State :=
  let s := (s.setRb (Reg.NRG_CIR_STATUS c) statusBit v).setRb regOff c v
  let s := s.setRb Reg.NRG_STATUS flag true
  if evt then s.raise event c else s

/-- The phase-sequence detector. -/
def State.detSeq (s : State) (c : Nat) (va vb vc : C64) : State :=
  let x := s.nrgOf c
  let vmin := F64.ofF32 (s.reg (Reg.NRG_CIR_VMIN c))
  let q := F64.le vmin (C64.mag va) && F64.le vmin (C64.mag vb) && F64.le vmin (C64.mag vc)
  if !q then s.setNrg c { x with runSeq := 0 }
  else
    let v1 := C64.mag (sequence64 alpha64 alphaSq64 va vb vc)
    let v2 := C64.mag (sequence64 alphaSq64 alpha64 va vb vc)
    let wrong := s.rb (Reg.NRG_CIR_STATUS c) 2
    let p := runStep x.runSeq (s.rf (Reg.NRG_CIR_CTRL c) 8 8) (if wrong then F64.le v2 v1 else F64.lt v1 v2)
    let s := s.setNrg c { x with runSeq := p.1 }
    if p.2 then s.detChange c 2 Reg.NRG_SEQ_STATE (!wrong) 0 44 (s.rb (Reg.NRG_CIR_CTRL c) 4) else s

/-- The neutral detector. -/
def State.detNeu (s : State) (c : Nat) (mean vn : F64) : State :=
  let x := s.nrgOf c
  if !(s.rb (Reg.NRG_CIR_CTRL c) 3 && F64.le (F64.ofF32 (s.reg (Reg.NRG_CIR_VMIN c))) mean) then
    s.setNrg c { x with runNeu := 0 }
  else
    let lim := F64.mul (F64.ofF32 (s.reg (Reg.NRG_CIR_NEU_FRAC c))) mean
    let missing := s.rb (Reg.NRG_CIR_STATUS c) 3
    let p := runStep x.runNeu (s.rf (Reg.NRG_CIR_CTRL c) 8 8) (if missing then F64.le vn lim else F64.lt lim vn)
    let s := s.setNrg c { x with runNeu := p.1 }
    if p.2 then s.detChange c 3 Reg.NRG_NEU_STATE (!missing) 1 45 (s.rb (Reg.NRG_CIR_CTRL c) 5) else s

/-- The direction becomes known as export or import. -/
def State.setDir (s : State) (c : Nat) (export_ : Bool) : State :=
  (((s.setRb (Reg.NRG_CIR_STATUS c) 4 true).setRb (Reg.NRG_CIR_STATUS c) 5 export_).setRb Reg.NRG_REV_STATE
    (16 + c) true).setRb Reg.NRG_REV_STATE c export_

/-- The direction detector. -/
def State.detDir (s : State) (c : Nat) (e : F64) : State :=
  let x := s.nrgOf c
  let least := F64.mul (F64.ofF32 (s.reg (Reg.NRG_CIR_REV_MIN c))) (F64.ratio 1 x.f0)
  if !F64.le least (F64.abs e) then s.setNrg c { x with runDir := 0 }
  else
    let neg := !Fmt.nonneg b64 e
    let persist := s.rf (Reg.NRG_CIR_CTRL c) 8 8
    if s.rb (Reg.NRG_CIR_STATUS c) 4 then
      let p := runStep x.runDir persist (neg != s.rb (Reg.NRG_CIR_STATUS c) 5)
      let s := s.setNrg c { x with runDir := p.1 }
      if p.2 then
        let s := (s.setDir c neg).setRb Reg.NRG_STATUS 2 true
        if s.rb (Reg.NRG_CIR_CTRL c) 6 then s.raise 46 c else s
      else s
    else
      let p := runStep (if x.dirNeg = neg then x.runDir else 0) persist true
      let s := s.setNrg c { x with runDir := p.1, dirNeg := neg }
      if p.2 then s.setDir c neg else s

/-! ### Pulses (R323) -/

def State.pulse (s : State) (n : Nat) : Pulse := Tab.get (fun _ => {}) s.pulses n
def State.setPulse (s : State) (n : Nat) (p : Pulse) : State := { s with pulses := Tab.put (fun _ => {}) s.pulses n p }

/-- Pulse output `n` at the end of a period of circuit `c`: `gain a` is the increment of accumulator `a`. -/
def State.pulseStep (s : State) (c : Nat) (x : NrgCirc) (gain : Nat → Nat) (n : Nat) : State :=
  let cfg := s.reg (Reg.PULSE_CFG n)
  let wt := s.pair (Reg.PULSE_WEIGHT_LO n)
  if bit cfg 0 && decide (fld cfg 1 4 = c) && decide (wt ≠ 0) then
    let p := s.pulse n
    let r := p.r + gain (10 * fld cfg 5 2 + fld cfg 7 4)
    let width := fld cfg 16 16
    let nmax := periodThirds x.f60 / (2 * width * 3000)
    let k := min (r / wt) nmax
    let start := x.endStamp
    let t := periodThirds x.f60 * 2 ^ 32 / 3
    let s := s.setPulse n { p with r := r - k * wt, queue := p.queue ++ (List.range k).map (fun i => (start + i * t / k, width)) }
    if nmax < r / wt then s.setRb Reg.NRG_STATUS 5 true else s
  else s

/-- PULSE_OUTPUT: the next pulse of output `n`, on the period nearest to its start; it leaves only with the hall pass (R323). -/
def State.pulseOutput (s : State) (n : Nat) : State :=
  let p := s.pulse n
  match p.queue with
  | [] => s
  | t :: rest =>
    if s.domOn pdAcq && decide (t.1 ≤ s.tbNear s.acqTb) then
      let s := (s.setPulse n { p with queue := rest, until_ := s.now + t.2 * fsPerUs }).bumpWrap (Reg.PULSE_COUNT n)
      if s.gate then s.emit (.pulse n t.2) else s
    else s

/-- The level at PULSE[n] in functional mode: active while a pulse is under way, and driven low without the hall pass and while PD_SCH
is off (R323, R481). -/
def State.pulseLevel (s : State) (n : Nat) : Bool := s.domOn pdSch && s.gate && decide (s.now < (s.pulse n).until_)

/-! ### Billing intervals (R319-R321) -/

/-- UTC_OFFSET of time base `n` as it stood at the start of TAI second `sec`. -/
def State.offsetAt (s : State) (n sec : Nat) : Int :=
  if s.rb (Reg.TB_STATUS n) 5 && decide (sec < (s.tb n).leapAt) then
    s.utcOffset n - (if s.rb (Reg.TB_STATUS n) 6 then -1 else 1)
  else s.utcOffset n

/-- Whether an inserted leap second is announced for, or was applied at, the start of second `e`. -/
def State.insertedAt (s : State) (n e : Nat) : Bool :=
  (s.rb (Reg.TB_STATUS n) 5 && !s.rb (Reg.TB_STATUS n) 6 && decide ((s.tb n).leapAt = e)) ||
  (decide (s.rf (Reg.TB_UTC n) 16 2 = 1) && decide (s.pair (Reg.TB_LEAP_LO n) % 2 ^ 48 = e))

/-- Whether the start of TAI second `sec` is an interval boundary (R319). -/
def State.intervalAt (s : State) (sec : Nat) : Bool :=
  let n := s.acqTb
  decide (((sec : Int) - s.offsetAt n sec) % (s.rf Reg.NRG_CTRL 0 12 : Int) = 0) && !s.insertedAt n (sec + 1)

/-- The record of circuit `c`'s interval that ends at `t` (R321). -/
def State.intervalRecord (s : State) (c : Nat) (x : NrgCirc) (t : Stamp) (extra : Nat) : List Byte :=
  let n := s.acqTb
  let leap := s.rb (Reg.TB_STATUS n) 5 && decide (x.start < mkStamp (s.tb n).leapAt 0) &&
    decide (mkStamp (s.tb n).leapAt 0 ≤ t)
  let unlocked := !s.lockedThroughout n x.start t
  let flags := (x.flags ||| extra) ||| (4 * leap.toNat + 32 * unlocked.toNat + 64 * x.f60.toNat)
  leBytes 4 0x4E524749 ++ leBytes 4 (c + 256 * flags + 65536 * 544) ++ leBytes 4 (stampSec x.start) ++
    leBytes 4 (stampSec x.start >>> 32 % 65536 + 65536 * wrap 16 (s.offsetAt n (stampSec t))) ++
    leBytes 4 (stampNs x.start) ++ leBytes 4 (stampSec t) ++ leBytes 4 (stampNs t) ++ leBytes 4 x.periods ++
    leBytes 4 x.flagged ++ leBytes 4 x.seq ++ List.replicate 24 0 ++
    (List.range 40).flatMap (fun a => leBytes 12 (s.accOf c a))

/-- Circuit `c` closes its interval at `t` and opens the next; `extra` are flags of the closed one, `next` of the new. -/
def State.intervalClose (s : State) (c : Nat) (t : Stamp) (extra next : Nat) : State :=
  let x := s.nrgOf c
  let rec0 := s.intervalRecord c x t extra
  let s := s.setNrg c { x with
    start := t, flags := next, periods := 0, flagged := 0, seq := (x.seq + 1) % 2 ^ 32, closed := true }
  s.postRecord 17 rec0 (c % 16) x.seq

/-- Flag bits of FLAGS in an interval record, from bit 8: PARTIAL, STEP, FLAGGED, SAT. -/
def intPartial : Nat := 1
def intStep : Nat := 2
def intFlagged : Nat := 8
def intSat : Nat := 16

/-- Circuit `c` has accounted up to an interval boundary and has not yet closed its interval there. -/
def State.intervalDue (s : State) (c : Nat) : Bool :=
  let x := s.nrgOf c
  x.run && !x.closed && decide (x.k = 0) && s.intervalAt x.sec

/-- Circuit `c` closes its interval at the boundary it has reached; the first circuit to do so raises event 47 (R320). -/
def State.intervalEnd (s : State) (c : Nat) : State :=
  let t := (s.nrgOf c).startStamp
  let s := s.intervalClose c t 0 0
  if s.nrgInt.all (fun u => decide (u < t)) then
    let s := { s with nrgInt := some t }
    if s.rb Reg.NRG_CTRL 12 then s.flagRaise Reg.NRG_STATUS 3 47 0 else s
  else s

/-- NRG_INTERVAL_END: every circuit that has accounted up to a boundary closes its interval, with one event 47 for each boundary
(R320). -/
def State.nrgIntervalEnd (s : State) : State :=
  (List.range 12).foldl (fun s c => if s.intervalDue c then s.intervalEnd c else s) s

/-! ### A period is accounted (R309) -/

/-- The channels a circuit's periods use: Va, Vb, Vc, Vn, Ia, Ib, Ic. -/
def periodChannels (c : Nat) : List Nat := (List.range 7).map (fun k => 8 * c + k)

/-- CORR_EN and CBANK for a period that starts at `t` (R313): those of the last write before it. -/
def NrgCirc.corrFor (x : NrgCirc) (t : Stamp) : Bool × Bool :=
  ((x.corrs.find? (fun e => decide (e.1 ≤ t))).map (fun e => e.2)).getD (false, false)

/-- Whether the samples the next period uses are available, or it has ended and they never will be because the circuit gives none. -/
def State.periodReady (s : State) (c : Nat) (x : NrgCirc) : Bool :=
  let cells := periodCells x.sec x.p0 x.p1
  match cells.getLast? with
  | none => false
  | some e =>
    let need := stampAdd e.1 (if (x.corrFor x.startStamp).1 then 50000 * 2 ^ 32 else 0)
    (!s.rb (Reg.ACQ_CIR_CTRL c) 0 && decide (x.endStamp ≤ s.tbNow s.acqTb)) ||
    (periodChannels c).all (fun ch =>
      match (s.chan ch).hist with
      | [] => false
      | y :: _ => decide (need ≤ y.stamp))

/-- A run of circuit `c` begins: its first interval is PARTIAL, and its detectors start anew (R307, R320, R322). -/
def State.nrgBegin (s : State) (c : Nat) (r : NrgRun) : State :=
  let x := s.nrgOf c
  let t := thirdsStamp r.sec (r.k * periodThirds r.f60)
  let s := s.setNrg c
    { run := true, first := t, corrs := x.corrs, f60 := r.f60, sec := r.sec, k := r.k, stopAt := r.stopAt, start := t
      flags := intPartial, seq := x.seq, later := x.later.drop 1 }
  let s := s.setReg (Reg.NRG_CIR_STATUS c) 0
  let s := (s.setRb Reg.NRG_SEQ_STATE c false).setRb Reg.NRG_NEU_STATE c false
  (s.setRb Reg.NRG_REV_STATE c false).setRb Reg.NRG_REV_STATE (16 + c) false

/-- The run of circuit `c` is over: the next begins, where one waits. -/
def State.nrgOver (s : State) (c : Nat) : State :=
  let x := s.nrgOf c
  match x.later with
  | [] => (s.setNrg c { x with run := false, stopAt := none }).nrgCmdEnd c
  | r :: _ => s.nrgBegin c r

/-- Circuit `c` stops: the last interval is closed with PARTIAL (R320). -/
def State.nrgStop (s : State) (c : Nat) : State :=
  (s.intervalClose c (s.nrgOf c).startStamp intPartial 0).nrgOver c

/-- The correction setting in use for the next period (R313). -/
def State.corrTake (s : State) (c : Nat) : State :=
  let x := s.nrgOf c
  let e := x.corrFor x.startStamp
  s.setNrg c { x with
    corr := e.1, bank := e.2, rms := if e.1 && !x.corr then [] else x.rms
    corrs := x.corrs.takeWhile (fun q => decide (x.startStamp < q.1)) ++ [(0, e)] }

/-- Circuit `c` accounts its next period (R309-R323). -/
def State.account (s : State) (c : Nat) : State :=
  let s := (s.nrgCmdAt c (s.nrgOf c).startStamp).corrTake c
  let x := s.nrgOf c
  let p := fun k => s.periodSamples x (8 * c + k)
  let pa := p 0
  let pb := p 1
  let pc := p 2
  let pn := p 3
  let ia := p 4
  let ib := p 5
  let ic := p 6
  let a := phaseQuant x.f0 pa ia
  let b := phaseQuant x.f0 pb ib
  let d := phaseQuant x.f0 pc ic
  let t := sumQuant a b d
  let views := [viewIncrements x.f0 false a, viewIncrements x.f0 false b, viewIncrements x.f0 false d,
    viewIncrements x.f0 true t]
  let flagged := [pa, pb, pc, pn, ia, ib, ic].any (fun q => q.flagged)
  let sat := views.any (fun v => v.2)
  let gain := fun i => (((views.getD (i / 10) ([], false)).1).filter (fun e => e.1 = i % 10)).foldl (fun z e => z + e.2) 0
  let s := (List.range 4).foldl (fun s v => s.addView c v (views.getD v ([], false)).1) s
  let s := s.bumpWrap (Reg.NRG_CIR_PERIODS c)
  let s := if flagged then s.bumpWrap (Reg.NRG_CIR_FLAGGED c) else s
  let s := if sat then (s.bumpWrap (Reg.NRG_CIR_SAT c)).setRb Reg.NRG_STATUS 4 true else s
  let rms := (List.range 7).foldl (fun tb k => Tab.put (fun _ => 0) tb (8 * c + k) (rms64 x.f0 (p k).w (p k).raw)) x.rms
  let nx := { x with
    rms := rms
    periods := x.periods + 1
    flagged := x.flagged + (if flagged then 1 else 0)
    flags := x.flags ||| ((if flagged then intFlagged else 0) + (if sat then intSat else 0))
    closed := false }.advance
  let s := s.setNrg c nx
  let s := s.nrgCmdAt c nx.startStamp
  let s := ((s.detSeq c a.v1 b.v1 d.v1).detNeu c
    (F64.div (F64.add (F64.add a.vrms b.vrms) d.vrms) (F64.ofInt 3)) (rms64 x.f0 pn.w pn.x)).detDir c t.eTot
  let s := (List.range 4).foldl (fun s n => s.pulseStep c x gain n) s
  let s := s.trigsPeriod c x.endStamp (fun ph i =>
    let q := if ph = 0 then a else if ph = 1 then b else d
    F64.toF32 (if i then q.irms else q.vrms))
  match (s.nrgOf c).stopAt with
  | some e => if e ≤ nx.startStamp then s.nrgStop c else s
  | none => s

/-- ENERGY_PERIOD: circuit `c` accounts its next period once its samples are there (R309). -/
def State.energyPeriod (s : State) (c : Nat) : State :=
  let x := s.nrgOf c
  if x.run && s.domOn pdAcq && s.periodReady c x && !s.intervalDue c then s.account c else s

/-- Circuit `c` accounts the periods that end by `t` with the samples there are, closing intervals on its way: no more will come. -/
def State.nrgDrain (t : Stamp) (c : Nat) : Nat → State → State
  | 0, s => s
  | fuel + 1, s =>
    let x := s.nrgOf c
    if x.run && s.intervalDue c then State.nrgDrain t c fuel (s.intervalEnd c)
    else if x.run && decide (x.endStamp ≤ t) then State.nrgDrain t c fuel (s.account c)
    else s

/-- Steps that a drain up to `t` can take at most: two for each period since the start of the next one. -/
def NrgCirc.backlog (x : NrgCirc) (t : Stamp) : Nat := 2 * ((t - x.startStamp) / (stampSecUnit / 60) + 2)

/-! ### Enabling, restart, and the NRG registers -/

/-- EN written 1 (R307, R320, R322): accounting from the next period boundary, after the periods of a run before. -/
def State.nrgEnable (s : State) (c : Nat) : State :=
  let f60 := s.rb Reg.PHS_CTRL 0
  let p := firstPeriod f60 (s.tbNow s.acqTb)
  let r : NrgRun := { f60 := f60, sec := p.1, k := p.2 }
  let x := s.nrgOf c
  let cfg := s.reg (Reg.NRG_CIR_CTRL c)
  if x.run then s.setNrg c { x with later := x.later ++ [r] }
  else (s.setNrg c { x with corrs := [(0, bit cfg 1, bit cfg 2)] }).nrgBegin c r

/-- The first period boundary after `now`. -/
def boundaryAfter (f60 : Bool) (now : Stamp) : Stamp :=
  let p := firstPeriod f60 now
  thirdsStamp p.1 (p.2 * periodThirds f60)

/-- EN written 0 (R320): the period in progress is the last; a run that has not begun never does. -/
def State.nrgDisable (s : State) (c : Nat) : State :=
  let x := s.nrgOf c
  let now := s.tbNow s.acqTb
  match x.later.getLast? with
  | some r =>
    let rest := x.later.dropLast
    if now ≤ thirdsStamp r.sec (r.k * periodThirds r.f60) then (s.setNrg c { x with later := rest }).nrgCmdEnd c
    else s.setNrg c { x with later := rest ++ [{ r with stopAt := some (boundaryAfter r.f60 now) }] }
  | none =>
    if !x.run then s
    else if now ≤ x.first then (s.setNrg c { x with run := false, stopAt := none }).nrgCmdEnd c
    else if now ≤ x.startStamp then s.nrgStop c
    else s.setNrg c { x with stopAt := some (boundaryAfter x.f60 now) }

/-- Circuit `c` accounts what it can and ends, with its power about to go (R320, R444). -/
def State.nrgEnd (s : State) (c : Nat) : State :=
  let s := s.nrgDisable c
  let now := s.tbNow s.acqTb
  let s := State.nrgDrain now c ((s.nrgOf c).backlog now) s
  let x := s.nrgOf c
  if x.run then (s.setNrg c { x with later := [] }).nrgStop c else s

/-- A restart under R271 of circuit `c`, from time `old` to time `now`: the periods that have ended are accounted, with the samples that
were not yet there as gaps (R309); its interval closes with STEP, the next carries STEP, and accounting goes on at the next period
boundary of the new grid. A circuit whose first period has not begun begins there. -/
def State.nrgStep (s : State) (c : Nat) (old now : Stamp) : State :=
  let s := State.nrgDrain old c ((s.nrgOf c).backlog old) s
  let x := s.nrgOf c
  if !x.run then s
  else
    let p := firstPeriod x.f60 now
    let t := boundaryAfter x.f60 now
    let s := s.nrgCmdEnd c
    if old ≤ x.first then s.setNrg c { s.nrgOf c with sec := p.1, k := p.2, first := t, start := t, later := [] }
    else
      let s := s.intervalClose c x.startStamp (if x.stopAt.isSome then intStep ||| intPartial else intStep) intStep
      if x.stopAt.isSome then
        let s := s.nrgOver c
        let y := s.nrgOf c
        if y.run then s.setNrg c { y with sec := p.1, k := p.2, first := t, start := t, stopAt := none, later := [] } else s
      else s.setNrg c { s.nrgOf c with sec := p.1, k := p.2, start := t, rms := [] }

/-- A restart under R271 of the energy engine. -/
def State.nrgRestart (s : State) (old now : Stamp) : State :=
  let s := (List.range 12).foldl (fun s c => s.nrgStep c old now) s
  let s := (List.range 12).foldl (fun s c =>
    let cfg := s.reg (Reg.NRG_CIR_CTRL c)
    s.setNrg c { s.nrgOf c with corrs := [(0, bit cfg 1, bit cfg 2)] }) s
  (List.range 4).foldl (fun s n =>
    let p := s.pulse n
    s.setPulse n { p with queue := p.queue.map (fun e => (now, e.2)) }) { s with nrgInt := none }

/-- The bank test of R313: valid in all eight channels. -/
def State.banksValid (s : State) (c : Nat) (b : Bool) : Bool :=
  let f60 := if s.rb (Reg.NRG_CIR_CTRL c) 0 then (s.nrgOf c).lastF60 else s.rb Reg.PHS_CTRL 0
  let f0 := if f60 then 60 else 50
  (List.range 8).all (fun k => s.corrValid (8 * c + k) b f0)

/-- Values that the NRG tables refuse (R313, R317, R323, R326). -/
def nrgRefuses (s : State) (off : Nat) (v : Word) (en : Bool) : Bool :=
  if off = Reg.NRG_CTRL then decide (fld v 0 12 = 0) || decide (3600 % fld v 0 12 ≠ 0)
  else if off = Reg.NRG_CMD then bit v 0 && (s.nrgCmd.isSome || decide (fld v 1 2 = 0))
  else if 0x150040 ≤ off && off < 0x150050 then
    let n := (off - 0x150040) / 4
    decide (11 < fld v 1 4) || decide (9 < fld v 7 4) || decide (fld v 16 16 < 10) ||
      (s.rb off 0 && decide (v &&& 0xFFFF07FE ≠ s.reg off &&& 0xFFFF07FE)) ||
      (bit v 0 && decide (s.pair (Reg.PULSE_WEIGHT_LO n) = 0))
  else if 0x150050 ≤ off && off < 0x150070 && off % 8 = 4 then
    let n := (off - 0x150050) / 8
    let lo := s.stageOf (off - 4)
    s.rb (Reg.PULSE_CFG n) 0 &&
      (decide (v.toNat = 0 ∧ lo.toNat = 0) || decide (v ≠ s.reg off) || decide (lo ≠ s.reg (off - 4)))
  else if 0x151000 ≤ off && off < 0x151300 then
    let c := (off - 0x151000) / 0x40
    match off % 0x40 with
    | 0x00 =>
      let old := s.reg off
      (en && bit v 0 && !s.rb (Reg.ACQ_CIR_CTRL c) 0) || decide (fld v 8 8 = 0) || decide (40 < fld v 16 6) ||
        (bit v 1 && (!bit old 1 || bit v 2 != bit old 2) && !s.banksValid c (bit v 2))
    | 0x08 => !f32Positive v
    | 0x0C => !f32Positive v
    | 0x10 => !f32Positive v
    | _ => false
  else false

/-- A write has changed CORR_EN or CBANK of circuit `c`: the change holds from the next period boundary (R313). -/
def State.corrNote (s : State) (c : Nat) (v : Word) : State :=
  let x := s.nrgOf c
  s.setNrg c { x with corrs := (s.tbNow s.acqTb, bit v 1, bit v 2) :: (if x.run then x.corrs else []) }

/-- What NRG_CIRc_STATUS shows: the circuit accounts the period that now runs, and the bank in use for it (R326). -/
def State.nrgView (s : State) (off : Nat) : Word :=
  if 0x151000 ≤ off && off < 0x151300 && off % 0x40 = 0x04 then
    let x := s.nrgOf ((off - 0x151000) / 0x40)
    let now := s.tbNow s.acqTb
    let k := now % stampSecUnit * 3 / stampNsUnit / periodThirds x.f60
    let start := thirdsStamp (stampSec now) (k * periodThirds x.f60)
    setBit (setBit (s.reg off) 0 (x.run && decide (x.first ≤ now))) 1 (if x.run then (x.corrFor start).2 else x.bank)
  else s.reg off

/-- What a write of an NRG register does beside its plain fields. `old` is the register before the write. -/
def State.nrgHook (s : State) (off : Nat) (old v : Word) : State :=
  if off = Reg.NRG_CMD then (if bit v 0 then s.nrgGo else s)
  else if 0x150040 ≤ off && off < 0x150050 then
    let n := (off - 0x150040) / 4
    if bit v 0 then s.setPulse n { s.pulse n with r := 0 } else s
  else if 0x151000 ≤ off && off < 0x151300 && off % 0x40 = 0 then
    let c := (off - 0x151000) / 0x40
    let s := if fld v 1 2 = fld old 1 2 then s else s.corrNote c v
    if bit v 0 && !bit old 0 then s.nrgEnable c
    else if !bit v 0 && bit old 0 then s.nrgDisable c
    else s
  else s

/-- What a DW of table space that the energy engine computes reads: the delta views (R325). -/
def nrgTableView (s : State) (off : Nat) : Option Word :=
  if 0x600000 ≤ off && off < 0x630000 then
    let c := (off - 0x600000) / 0x4000
    let d := (off - 0x600000) % 0x4000
    if 0x400 ≤ d && d < 0x4A0 then some (s.deltaView c ((d - 0x400) / 4)) else none
  else none

end Sys2Proof.Machine
end

