-- ==== Sys2Proof/Machine/Acquisition.lean ====
section
/-! DEFINITION. Local acquisition and decimation (R266-R289): the modulator clocks, bits and faults of 96 channels, the
decimation chain with its stamps and flags, the FIR banks and their cross-fade, and the ACQ and FLT registers. -/

namespace Sys2Proof.Machine

/-! ### The modulator clock (R268-R270) -/

/-- MODF of ACQ_CTRL. -/
def State.modf (s : State) : Nat := s.rf Reg.ACQ_CTRL 2 2

/-- One period of MOD_CLK in stamp units: 48.828125 ns at 20.48 MHz, doubled and doubled again. -/
def State.modEdge (s : State) : Nat := 50000 * 2 ^ 22 * 2 ^ s.modf

/-- log2 of OSR, and OSR: 64, 32 or 16 (R275). -/
def State.osrLog (s : State) : Nat := 6 - s.modf
def State.osr (s : State) : Nat := 2 ^ s.osrLog

def State.acqEn (s : State) (c : Nat) : Bool := s.rb (Reg.ACQ_CIR_CTRL c) 0

/-- The first edge of the modulator clock after `t`. -/
def State.nextEdge (s : State) (t : Stamp) : Stamp := (t / s.modEdge + 1) * s.modEdge

/-- The clock of circuit `c`. -/
def State.modClk (s : State) (c : Nat) : ModClk := Tab.get (fun _ => {}) s.modClks c
def State.setModClk (s : State) (c : Nat) (x : ModClk) : State := { s with modClks := Tab.put (fun _ => {}) s.modClks c x }

/-- How far the grid of R268 is past the last edge that is placed at or before now, and that edge, in stamps: an edge is placed on the
nearest period of the time clock, the earlier of two. -/
def State.modPhase (s : State) : Nat × Stamp :=
  let t := s.tbNear s.acqTb
  (t % s.modEdge, t / s.modEdge * s.modEdge)

/-- The level of MOD_CLK[c]: high for the first half of each period of a running clock, low after the falling edge that follows a stop
(R268, R270). -/
def State.modClkLevel (s : State) (c : Nat) : Bool :=
  let x := s.modClk c
  if x.run then decide (x.first ≤ s.modPhase.2) && decide (2 * s.modPhase.1 < s.modEdge) else decide (s.now < x.fallAt)

/-- The clock of circuit `c` stops low at its next falling edge, at once where it is low (R270). -/
def State.modStop (s : State) (c : Nat) : State :=
  let x := s.modClk c
  if x.run then
    let left := if s.modClkLevel c then (s.modEdge / 2 - s.modPhase.1) * 1000000 / stampNsUnit else 0
    s.setModClk c { x with run := false, fallAt := s.now + left }
  else s

/-- The period of the time clock, counted from now, on which the edge at time `e` is placed: the nearest, the earlier of two (R268). -/
def State.edgeAt (s : State) (e : Stamp) : Int :=
  let inc : Int := (tbIncrement (s.tbRate s.acqTb) : Nat)
  let d : Int := (e * 2 ^ 19 : Nat) - ((s.tb s.acqTb).t : Nat)
  (2 * d + inc - 1) / (2 * inc)

/-- SDLY of circuit `c` for the bit at the edge at time `e` (R288). -/
def State.sdlyAt (s : State) (c : Nat) (e : Stamp) : Nat := stoodAt (s.modClk c).sdlys e (s.rf (Reg.ACQ_CIR_CTRL c) 16 7)

/-- SDLY of circuit `c` was `old` up to the next bit. -/
def State.sdlyKeep (s : State) (c old : Nat) : State :=
  let x := s.modClk c
  let oldest := (List.range 8).foldl (fun a k => min a (s.chan (8 * c + k)).pos) (s.nextEdge (s.tbNow s.acqTb))
  s.setModClk c { x with sdlys := (s.nextEdge (s.tbNow s.acqTb), old) :: x.sdlys.filter (fun e => decide (oldest < e.1)) }

/-- The channels of circuit `c` begin anew at the first edge of the clock `low` after now: every stage memory is cleared (R270, R271,
R282). The fault watch goes on (R273), and the samples given stay given. -/
def State.acqStart (s : State) (c low : Nat) : State :=
  let e := s.nextEdge (s.tbNow s.acqTb + low)
  (List.range 8).foldl (fun s k =>
    let x := s.chan (8 * c + k)
    s.setChan (8 * c + k)
      { pos := e, hist := x.hist, scales := x.scales, last := x.last, run := x.run, good := x.good, fault := x.fault, entered := x.entered })
    ((s.trigsCut c).setModClk c { run := true, first := e })

/-- The fault watch of a circuit's channels begins anew (R273). -/
def State.faultsClear (s : State) (c : Nat) : State :=
  (List.range 8).foldl (fun s k =>
    s.setChan (8 * c + k) { s.chan (8 * c + k) with run := 0, good := 0, fault := false, entered := false }) s

/-- FAULT and OVR of a circuit cleared, as a fresh start has it (R273). -/
def State.acqHealthy (s : State) (c : Nat) : State := (s.setRf (Reg.ACQ_CIR_STATUS c) 0 16 0).faultsClear c

/-! ### The decimation chain (R275-R279) -/

/-- The product of two polynomials, lowest coefficient first. -/
def polyMul (a b : List Int) : List Int :=
  (List.range (a.length + b.length - 1)).map (fun n =>
    (List.range a.length).foldl (fun acc i => acc + a.getD i 0 * (if i ≤ n then b.getD (n - i) 0 else 0)) 0)

/-- The coefficients of (1 + z^-1 + ... + z^-(OSR-1))^4 (R276). -/
def sinc4 (osr : Nat) : List Int :=
  let box := List.replicate osr 1
  let sq := polyMul box box
  polyMul sq sq

/-- A weighted sum, first weight with first value. -/
def dot (ws xs : List Int) : Int := (List.zipWith (· * ·) ws xs).foldl (· + ·) 0

/-- The flags that an output takes from its window, and UNSETTLED from inputs that do not exist. -/
def windowFlags (n : Nat) (xs : List Sample) : Nat :=
  (xs.foldl (fun a y => a ||| y.flags) 0 % 8) ||| (if xs.length < n then 1 else 0)

/-- What a sinc stage computes: x0 of R276 from the last bits, newest first. -/
def sincOut (osrLog : Nat) (bits : List Int) : Int :=
  satQ31 (dot (sinc4 (2 ^ osrLog)) bits * 2 ^ (31 - 4 * osrLog))

/-- INV and OFFSET of channel `ch` applied to x0 (R276). -/
def State.tap0Value (s : State) (ch : Nat) (x0 : Int) : Int :=
  let x1 := if s.rb (Reg.FLT_CH_CFG ch) 0 then satQ31 (-x0) else x0
  satQ31 (x1 - q31 (s.reg (Reg.FLT_CH_OFFSET ch)))

/-- `a / b` rounded to the nearest integer; the denominators of R277 meet no tie. -/
def roundDiv (a b : Nat) : Nat := (2 * a + b) / (2 * b)

/-- The fractional delay of R277. `x k` is the tap-0 sample of index j + k. -/
def fracDelay (comp : Int) (x : Int → Int) : Int :=
  let i0 := comp / 256
  let f := (comp % 256).toNat
  let wm : Int := -(roundDiv (f * (256 - f) * (512 - f) * 32) 3 : Nat)
  let w0 : Int := ((256 + f) * (256 - f) * (512 - f) * 32 : Nat)
  let w1 : Int := ((256 + f) * f * (512 - f) * 32 : Nat)
  let w2 : Int := -(roundDiv ((256 + f) * f * (256 - f) * 32) 3 : Nat)
  satQ31 ((wm * x (i0 - 1) + w0 * x i0 + w1 * x (i0 + 1) + w2 * x (i0 + 2) + 2 ^ 29) / 2 ^ 30)

/-- COMP of channel `ch`. -/
def State.comp (s : State) (ch : Nat) : Int := signed 16 (s.rf (Reg.FLT_CH_CFG ch) 16 16)

/-- A coefficient of FLT_HBCOEF as the register shows it: bit 23 repeated. -/
def hbWord (i : Nat) : Word := BitVec.ofInt 32 (Config.hbCoef i).toInt

/-- Taps of half-band stage `h` (1-4) and its first coefficient register (R278, R289). -/
def hbTaps (h : Nat) : Nat := match h with | 1 => 11 | 2 => 15 | 3 => 23 | _ => 39
def hbBase (h : Nat) : Nat := match h with | 1 => 0 | 2 => 3 | 3 => 7 | _ => 13

/-- C(t) of stage `h`. -/
def hbC (h : Nat) (t : Nat) : Int :=
  if t = 0 then 2 ^ 22 else if t % 2 = 0 then 0 else (Config.hbCoef (hbBase h + t / 2)).toInt

/-- A half-band stage over its window, newest first (R278). -/
def halfBand (h : Nat) (xs : List Int) : Int :=
  let n := hbTaps h
  let mid := n / 2
  let ws := (List.range n).map (fun i => hbC h (if i ≤ mid then mid - i else i - mid))
  satQ31 ((dot ws xs + 2 ^ 22) / 2 ^ 23)

/-- FIR fields of channel `ch` for bank A (false) or B: taps and GD. -/
def State.firEn (s : State) (ch : Nat) : Bool := s.rb (Reg.FLT_CH_FIR ch) 31
def firTaps (w : Word) (b : Bool) : Nat := fld w (if b then 8 else 0) 7 + 1
def firGd (w : Word) (b : Bool) : Nat := fld w (if b then 24 else 16) 7
/-- The active bank of channel `ch`: B when true (FLT_ACTIVE). -/
def State.firBank (s : State) (ch : Nat) : Bool := s.rb (Reg.FLT_ACTIVE (ch / 32)) (ch % 32)

/-- The coefficients of a FIR bank in table space (R279). -/
def State.firCoefs (s : State) (ch : Nat) (b : Bool) (n : Nat) : List Int :=
  (List.range n).map (fun k => q31 (s.tw (0x800000 + ch * 0x400 + (if b then 0x200 else 0) + 4 * k)))

/-- A FIR bank over the shared history, newest first (R279). -/
def State.firOut (s : State) (ch : Nat) (b : Bool) (xs : List Int) : Int :=
  satQ31 ((dot (s.firCoefs ch b (firTaps (s.reg (Reg.FLT_CH_FIR ch)) b)) xs + 2 ^ 29) / 2 ^ 30)

/-! ### Stages -/

/-- Inputs that stage `t` keeps: its window. -/
def stageDepth (t : Nat) : Nat :=
  match t with
  | 1 => 164
  | 2 => 11
  | 3 => 15
  | 4 => 23
  | 5 => 39
  | _ => 128

/-- Whether the arrival of an input stamped `t` completes an output of stage `tap` (R275): half-band outputs stand on the
grid of their own period. -/
def completes (tap : Nat) (t : Stamp) : Bool :=
  if 2 ≤ tap && tap ≤ 5 then
    decide ((stampAdd t (-((hbTaps (tap - 1) / 2 * tapPeriod (tap - 1) : Nat) : Int))) % tapPeriod tap = 0)
  else true

/-- A stage takes waiting inputs in until one completes an output; the flag says that one did. -/
def feed (tap : Nat) : List Sample → List Sample → List Sample × List Sample × Bool
  | win, [] => (win, [], false)
  | win, y :: ys =>
    let win := (y :: win).take (stageDepth tap)
    if completes tap y.stamp then (win, ys, true) else feed tap win ys

/-- Tap-1 output from its window of tap-0 samples, newest first: j is 82 samples back (R277). -/
def State.tap1Sample (s : State) (ch : Nat) (c : Chan) (win : List Sample) (newest : Sample) : Sample :=
  let at_ := fun (k : Int) => win[(82 - k).toNat]?
  let comp := s.comp ch
  let i0 := comp / 256
  let used := [i0 - 1, i0, i0 + 1, i0 + 2].filterMap at_
  { stamp := stampAdd newest.stamp (-((82 * tapPeriod 0 : Nat) : Int))
    val := ofQ31 (fracDelay comp (fun k => match at_ k with | some y => q31 y.val | none => 0))
    flags := windowFlags 4 used ||| c.mark1.toNat }

/-- Half-band output at tap `tap` from its window. -/
def hbSample (tap : Nat) (win : List Sample) (newest : Sample) : Sample :=
  { stamp := stampAdd newest.stamp (-((hbTaps (tap - 1) / 2 * tapPeriod (tap - 1) : Nat) : Int))
    val := ofQ31 (halfBand (tap - 1) (win.map (fun y => q31 y.val)))
    flags := windowFlags (hbTaps (tap - 1)) win }

/-- The number of the fade sample that a tap-6 stamp has; 0 before the fade or where the channel is not masked. -/
def State.fadeIndex (s : State) (ch : Nat) (t : Stamp) : Nat :=
  match s.fade with
  | none => 0
  | some f =>
    if f.mask >>> ch % 2 = 1 && decide (f.start ≤ t) then (t - f.start) / tapPeriod 6 + 1 else 0

/-- Tap-6 output (R279, R284): tap 5 itself without the FIR; else the active bank, or the fade of both. -/
def State.tap6Sample (s : State) (ch : Nat) (c : Chan) (win : List Sample) (newest : Sample) : Sample :=
  if !s.firEn ch then { newest with flags := newest.flags ||| c.mark6.toNat }
  else
    let w := s.reg (Reg.FLT_CH_FIR ch)
    let b := s.firBank ch
    let xs := win.map (fun y => q31 y.val)
    let stamp := stampAdd newest.stamp (-((firGd w b * tapPeriod 6 : Nat) : Int))
    let i := s.fadeIndex ch stamp
    let ya := s.firOut ch b xs
    let used := fun b => windowFlags (firTaps w b) (win.take (firTaps w b))
    if i = 0 then { stamp := stamp, val := ofQ31 ya, flags := used b ||| c.mark6.toNat }
    else
      let yb := s.firOut ch (!b) xs
      let n := match s.fade with | some f => f.len | none => 0
      let l := 2 ^ n
      if l < i then { stamp := stamp, val := ofQ31 yb, flags := used (!b) ||| c.mark6.toNat }
      else
        { stamp := stamp
          val := ofQ31 ((ya * (l - i : Nat) + yb * (i : Nat) + (l / 2 : Nat)) / (l : Nat))
          flags := (used b ||| used (!b) ||| c.mark6.toNat) % 8 + 8 }

/-! ### The end of a fade (R284, R285) -/

/-- The channels a fade waits for: masked, not past sample L, their circuits enabled. -/
def State.fadeLeft (s : State) (f : Fade) : List Nat :=
  (List.range 96).filter (fun ch =>
    decide (f.mask >>> ch % 2 = 1) && !decide (f.done >>> ch % 2 = 1) && s.acqEn (ch / 8))

/-- FLT_XF's result group is published with RESULT and the stamp of sample 1; GO clears. -/
def State.fadeResult (s : State) (res : Nat) (t : Stamp) : State :=
  let s := (s.setReg Reg.FLT_XF_NS (word (stampNs t))).setReg Reg.FLT_XF_SEC_LO (word (stampSec t))
  ((s.setRf Reg.FLT_XF_STATUS 16 8 res).publish Reg.FLT_XF_STATUS).setRb Reg.FLT_XF_CMD 0 false

/-- The fade ends: banks toggled, the result published, event 41. -/
def State.fadeEnd (s : State) (f : Fade) : State :=
  let s := { s with fade := none }
  let s := (List.range 96).foldl (fun s ch =>
    if f.mask >>> ch % 2 = 1 then s.setRb (Reg.FLT_ACTIVE (ch / 32)) (ch % 32) (!s.firBank ch) else s) s
  (s.fadeResult 0 f.start).flagRaise Reg.FLT_STATUS 0 41 0

/-- Channel `ch` has given the tap-6 sample stamped `t`; the fade ends when every channel has passed sample L. -/
def State.fadeNote (s : State) (ch : Nat) (t : Stamp) : State :=
  match s.fade with
  | none => s
  | some f =>
    let f := if 2 ^ f.len ≤ s.fadeIndex ch t && !decide (f.done >>> ch % 2 = 1) then { f with done := f.done + 2 ^ ch } else f
    if (s.fadeLeft f).isEmpty then s.fadeEnd f else { s with fade := some f }

/-- GO written to FLT_XF_CMD: the fade of R284 or the result that refuses it. -/
def State.fadeGo (s : State) : State :=
  let s := s.unready Reg.FLT_XF_STATUS
  let mask := (s.reg (Reg.FLT_XF_MASK 0)).toNat + (s.reg (Reg.FLT_XF_MASK 1)).toNat * 2 ^ 32 +
    (s.reg (Reg.FLT_XF_MASK 2)).toNat * 2 ^ 64
  let chs := (List.range 96).filter (fun ch => decide (mask >>> ch % 2 = 1))
  if chs.any (fun ch => !s.firEn ch || !s.acqEn (ch / 8)) then s.fadeResult 1 0
  else if chs.any (fun ch => decide (firGd (s.reg (Reg.FLT_CH_FIR ch)) false ≠ firGd (s.reg (Reg.FLT_CH_FIR ch)) true)) then
    s.fadeResult 2 0
  else if chs.isEmpty then s.fadeResult 3 0
  else
    let t := (s.tbNow s.acqTb / tapPeriod 6 + 1) * tapPeriod 6
    { s with fade := some { mask := mask, len := s.rf Reg.FLT_XF_CMD 1 4 + 4, start := t, done := 0 } }

/-! ### A stage forms its sample (R275-R283) -/

/-- Tap-6 samples each channel keeps for its consumers. -/
def histDepth : Nat := 32768

/-- A sample goes to the next stage, the recorder, the triggers and, at tap 6, to the estimators (R16). -/
def State.deliver (s : State) (ch tap : Nat) (y : Sample) : State :=
  let c := s.chan ch
  let s :=
    if tap < 6 then
      let g := Tab.get (fun _ => ({} : Stage)) c.stages (tap + 1)
      s.setChan ch { c with stages := Tab.put (fun _ => {}) c.stages (tap + 1) { g with inq := g.inq ++ [y] } }
    else
      let s := s.setChan ch { c with hist := (y :: c.hist).take histDepth }
      let was := s.rb (Reg.FLT_SETTLED (ch / 32)) (ch % 32)
      if y.flags % 2 = 1 then s.setRb (Reg.FLT_SETTLED (ch / 32)) (ch % 32) false
      else if was then s
      else (s.setRb (Reg.FLT_SETTLED (ch / 32)) (ch % 32) true).flagRaise Reg.FLT_STATUS 1 42 ch
  let s := (s.laneTake ch tap y).trigsSample ch tap y
  if tap = 6 then s.fadeNote ch y.stamp else s

/-- A bit taken at a channel: the value received, or a code violation, which repeats the last bit (R272); and the table of R273: into
FAULT at 1,024 bits unchanged, or with Manchester coding at a violation, unless masked; out of it at a change of data, or after 64
valid cells. -/
def Chan.takeBit (c : Chan) (man masked : Bool) (x : Bool × Bool) : Chan :=
  let v := if x.2 then c.last else x.1
  let run := if v = c.last then c.run + 1 else 1
  let good := if x.2 then 0 else c.good + 1
  let fail := !c.fault && !masked && (if man then x.2 else decide (1024 ≤ run))
  let heal := c.fault && (if man then decide (64 ≤ good) else v != c.last)
  { c with
    bits := (if v then 1 else -1) :: c.bits
    last := v
    run := run
    good := good
    fault := fail || (c.fault && !heal)
    entered := c.entered || fail }

/-- A channel takes bits, oldest first. -/
def takeBits (man masked : Bool) (xs : List (Bool × Bool)) (c : Chan) : Chan := xs.foldl (fun c x => c.takeBit man masked x) c

/-- The level of a line at time-clock period `t`; `line` lists its changes, oldest first, as period and level after. -/
def lineLevel (line : List (Nat × Bool)) (was : Bool) (t : Nat) : Bool :=
  (((line.filter (fun e => decide (e.1 ≤ t))).getLast?).map (fun e => e.2)).getD was

/-- The first mid-cell transition from period `t` on within one period of MOD_CLK, which lasts `edge` where a period of the time clock
lasts `inc`: the level after it (R272). -/
def cellOf (line : List (Nat × Bool)) (inc edge t : Nat) : Option Bool :=
  (line.find? (fun e => decide (t ≤ e.1) && decide ((e.1 - t) * inc < edge * 2 ^ 19))).map (fun e => e.2)

/-- The next `n` bits of the line of channel `ch`, each with whether its cell is a violation (R272). Periods count from the one on which
the edge of the first bit is placed; with clock-plus-data coding a bit is the level SDLY periods after its edge, with Manchester coding
the cell whose mid-cell transition falls in the period of MOD_CLK that begins there. -/
def State.lineBits (s : State) (ch n : Nat) (line : List (Nat × Bool)) : List (Bool × Bool) :=
  let k := (s.chan ch).pos / s.modEdge
  (List.range n).map (fun i =>
    let e := (k + i) * s.modEdge
    let t := (s.edgeAt e - s.edgeAt (k * s.modEdge)).toNat + s.sdlyAt (ch / 8) e
    if s.rb (Reg.ACQ_CIR_CTRL (ch / 8)) 1 then
      let v := cellOf line (tbIncrement (s.tbRate s.acqTb)) s.modEdge t
      (v.getD false, v.isNone)
    else (lineLevel line (s.chan ch).last t, false))

/-- Bits that a channel takes up to its next tap-0 output: through the bit index n with (n + 2) mod OSR = 0 (R276). -/
def State.bitsNeeded (s : State) (c : Chan) : Nat :=
  let g := c.pos / s.modEdge
  (2 * s.osr - 2 - g % s.osr) % s.osr + 1

/-- The stamp of the sinc output whose last bit is at edge `n`: that of bit n - 2 (OSR - 1) (R276). -/
def State.tap0Stamp (s : State) (n : Nat) : Stamp := stampAdd (n * s.modEdge) (-((2 * (s.osr - 1) * s.modEdge : Nat) : Int))

/-- The overrange watch at a sinc output (R274). -/
def State.overrange (s : State) (ch : Nat) (c : Chan) (x0 : Int) : State × Chan :=
  let lim := s.rf (Reg.ACQ_CIR_OVR (ch / 8)) 0 31
  let beyond := decide (lim ≤ x0.natAbs)
  let c := { c with high := if beyond then c.high + 1 else 0, low := if beyond then 0 else c.low + 1 }
  let r := Reg.ACQ_CIR_STATUS (ch / 8)
  let k := ch % 8
  let s :=
    if 4 ≤ c.high && !s.rb r (8 + k) then (s.setRb r (8 + k) true).setRb r (24 + k) true
    else if 4 ≤ c.low then s.setRb r (8 + k) false
    else s
  (s, c)

/-- The sinc stage of channel `ch` forms its next output from the bits its line has given since the last (R272-R276), once the last of
them has been sampled. -/
def State.tap0 (s : State) (ch : Nat) (line : List (Nat × Bool)) : State :=
  let c := s.chan ch
  let n := s.bitsNeeded c
  let nEdge := c.pos / s.modEdge + n - 1
  let man := s.rb (Reg.ACQ_CIR_CTRL (ch / 8)) 1
  if s.tbNow s.acqTb < nEdge * s.modEdge + s.sdlyAt (ch / 8) (nEdge * s.modEdge) * 5 * 2 ^ 29 + (if man then s.modEdge else 0) then s
  else
    let xs := s.lineBits ch n line
    let s := s.bumpBy (Reg.ACQ_CIR_CODEERR (ch / 8)) (xs.filter (fun x => x.2)).length
    let c := takeBits man (s.rb (Reg.ACQ_CIR_CTRL (ch / 8)) (8 + ch % 8)) xs c
    let len := 4 * s.osr - 3
    let c := { c with bits := c.bits.take len, pos := ((nEdge + 1) * s.modEdge) % stampMod }
    let x0 := sincOut s.osrLog c.bits
    let p := s.overrange ch c x0
    let s := p.1
    let r := Reg.ACQ_CIR_STATUS (ch / 8)
    let flags := (if c.bits.length < len || c.mark0 then 1 else 0) + 2 * c.fault.toNat +
      4 * (s.rb r (8 + ch % 8)).toNat
    let y : Sample :=
      { stamp := s.tap0Stamp nEdge
        val := ofQ31 (s.tap0Value ch x0), flags := flags }
    (s.setChan ch { p.2 with mark0 := false }).deliver ch 0 y

/-- ACQ_SAMPLE: the stage of channel `ch` that ends in tap `tap` forms its next sample, when its inputs are there. `line` is
what its modulator's line has done since the last tap-0 output. -/
def State.acqSample (s : State) (ch tap : Nat) (line : List (Nat × Bool)) : State :=
  if !s.domOn pdAcq || !s.acqEn (ch / 8) then s
  else if tap = 0 then s.tap0 ch line
  else
    let c := s.chan ch
    let g := Tab.get (fun _ => ({} : Stage)) c.stages tap
    let p := feed tap g.win g.inq
    let c' := { c with stages := Tab.put (fun _ => {}) c.stages tap { win := p.1, inq := p.2.1 } }
    if p.2.2 then
      match p.1 with
      | [] => s
      | newest :: _ =>
        let y := if tap = 1 then s.tap1Sample ch c p.1 newest
          else if tap = 6 then s.tap6Sample ch c p.1 newest
          else hbSample tap p.1 newest
        (s.setChan ch { c' with
          mark1 := if tap = 1 then false else c'.mark1
          mark6 := if tap = 6 then false else c'.mark6 }).deliver ch tap y
    else s.setChan ch c'

/-! ### Modulator faults (R273) -/

/-- ACQ_MOD_FAULT: the entry of channel `ch` into FAULT is recorded and reported (R273). -/
def State.acqModFault (s : State) (ch : Nat) : State :=
  let c := ch / 8
  let k := ch % 8
  if s.domOn pdAcq && s.acqEn c && (s.chan ch).entered then
    let s := s.setChan ch { s.chan ch with entered := false }
    ((s.setRb (Reg.ACQ_CIR_STATUS c) k true).setRb (Reg.ACQ_CIR_STATUS c) (16 + k) true).raise 40 ch
  else s

/-- CHANNEL_HEALTHY: FAULT clears for channel `ch`, which has left that state (R273). -/
def State.channelHealthy (s : State) (ch : Nat) : State :=
  let c := ch / 8
  if s.domOn pdAcq && s.rb (Reg.ACQ_CIR_STATUS c) (ch % 8) && !(s.chan ch).fault then
    s.setRb (Reg.ACQ_CIR_STATUS c) (ch % 8) false
  else s

/-! ### Bank supplies, restart, registers -/

/-- BANK_OK and BANK_3V3 of bank `b` (R267, R472). -/
def State.bankOk (s : State) (b : Nat) : Bool := decide (1500 ≤ Tab.get (fun _ => 0) s.pwr.bankMv b)
def State.bank3v3 (s : State) (b : Nat) : Bool := decide (2500 ≤ Tab.get (fun _ => 0) s.pwr.bankMv b)

/-- BANK_SUPPLY_CHANGE: the supply of bank `b` is now `mv` millivolts (R472). -/
def State.bankSupply (s : State) (b mv : Nat) : State :=
  { s with pwr := { s.pwr with bankMv := Tab.put (fun _ => 0) s.pwr.bankMv b mv } }

/-- The samples of the old grid serve no window of the new one (R303). -/
def State.histClear (s : State) : State :=
  (List.range 96).foldl (fun s ch => s.setChan ch { s.chan ch with hist := [], scales := [] }) s

/-- Circuit `c` estimates instants after `t` (R303). -/
def State.phsAfter (s : State) (c : Nat) (t : Stamp) : State :=
  let p := Tab.get (fun _ => ({} : PhsCirc)) s.phs c
  { s with phs := Tab.put (fun _ => {}) s.phs c { p with after := t } }

/-- ACQ_RESTART (R271): a step of the acquisition time base restarts every enabled circuit on the new grid. `old` is the
time before the step. -/
def State.acqRestart (s : State) (old : Stamp) : State :=
  if !s.domOn pdAcq then s
  else
    let now := s.tbNow s.acqTb
    let on := (List.range 12).filter (fun c => s.acqEn c)
    let s := match s.fade with
      | some f => s.fadeEnd f
      | none => s
    let s := s.recRestart old now
    let s := s.nrgRestart old now
    let s := on.foldl (fun s c => s.acqStart c s.modEdge) s.histClear
    let s := (List.range 12).foldl (fun s c => s.phsAfter c now) s
    if on.isEmpty then s else s.setRb Reg.ACQ_STATUS 8 true

/-- Values that the ACQ and FLT tables refuse (R267, R270, R284-R286, R288, R289); `en` says whether the write has EN among its bits. -/
def acqRefuses (s : State) (off : Nat) (v : Word) (en : Bool) : Bool :=
  if off = Reg.ACQ_CTRL then
    decide (fld v 2 2 = 3) ||
      (decide (fld v 0 4 ≠ s.rf off 0 4) && (List.range 12).any (fun c => s.acqEn c))
  else if 0x121000 ≤ off && off < 0x1210C0 then
    let c := (off - 0x121000) / 0x10
    match off % 0x10 with
    | 0x0 =>
      (en && bit v 0 && (!s.bankOk (c / 3) || decide (s.tbState s.acqTb = 0))) ||
        (s.acqEn c && bit v 1 != s.rb off 1)
    | 0x8 => decide (fld v 0 31 = 0)
    | _ => false
  else false

/-- Whether channel `ch` is in the fade under way. -/
def State.fading (s : State) (ch : Nat) : Bool :=
  match s.fade with
  | some f => decide (f.mask >>> ch % 2 = 1)
  | none => false

def fltRefuses (s : State) (off : Nat) (v : Word) : Bool :=
  if off = Reg.FLT_XF_CMD then decide (8 < fld v 1 4) || (bit v 0 && s.fade.isSome)
  else if 0x131000 ≤ off && off < 0x131600 then
    let ch := (off - 0x131000) / 0x10
    match off % 0x10 with
    | 0x0 => decide (20480 < (signed 16 (fld v 16 16)).natAbs)
    | 0x8 => !f32PosNormal v
    | 0xC =>
      s.fading ch ||
        (s.firEn ch && decide (firGd v (s.firBank ch) ≠ firGd (s.reg off) (s.firBank ch)))
    | _ => false
  else false

/-- What a write of an ACQ register does beside its plain fields. `old` is the register before the write. -/
def State.acqHook (s : State) (off : Nat) (old v : Word) : State :=
  if off = Reg.ACQ_CTRL then (if fld v 0 2 = fld old 0 2 then s else { s.histClear with nrgInt := none })
  else if 0x121000 ≤ off && off < 0x1210C0 && off % 0x10 = 0 then
    let c := (off - 0x121000) / 0x10
    if bit v 0 && !bit old 0 then (((s.acqHealthy c).acqStart c 0).phsAfter c (s.tbNow s.acqTb))
    else if bit old 0 && !bit v 0 then
      let s := ((s.setRf (Reg.ACQ_CIR_STATUS c) 0 8 0).faultsClear c).modStop c
      match s.fade with
      | some f => if (s.fadeLeft f).isEmpty then s.fadeEnd f else s
      | none => s
    else if bit old 0 && fld v 16 7 ≠ fld old 16 7 then s.sdlyKeep c (fld old 16 7)
    else s
  else s

/-- SCALE of channel `ch` was `old` up to the next tap-0 sample (R282). -/
def State.scaleKeep (s : State) (ch : Nat) (old : Word) : State :=
  let c := s.chan ch
  let from_ := if s.acqEn (ch / 8) then s.tap0Stamp (c.pos / s.modEdge + s.bitsNeeded c - 1) else s.tbNow s.acqTb
  let kept := match c.hist.getLast? with
    | some y => c.scales.filter (fun e => decide (y.stamp < e.1))
    | none => []
  s.setChan ch { c with scales := (from_, old) :: kept }

/-- What a write of an FLT register does beside its plain fields (R282, R284). -/
def State.fltHook (s : State) (off : Nat) (old v : Word) : State :=
  if off = Reg.FLT_XF_CMD then (if bit v 0 then s.fadeGo else s)
  else if 0x131000 ≤ off && off < 0x131600 then
    let ch := (off - 0x131000) / 0x10
    let c := s.chan ch
    match off % 0x10 with
    | 0x0 =>
      s.setChan ch { c with
        mark0 := c.mark0 || bit v 0 != bit old 0
        mark1 := c.mark1 || decide (fld v 16 16 ≠ fld old 16 16) }
    | 0x8 => if v = old then s else s.scaleKeep ch old
    | 0xC =>
      let b := s.firBank ch
      if bit v 31 != bit old 31 || decide (firTaps v b ≠ firTaps old b) then s.setChan ch { c with mark6 := true } else s
    | _ => s
  else s

/-- Registers of ACQ and FLT that hardware computes: bank supplies, half-band coefficients. -/
def acqView (s : State) (off : Nat) : Option Word :=
  if off = Reg.ACQ_STATUS then
    some ((List.range 4).foldl (fun w b => setBit (setBit w b (s.bankOk b)) (4 + b) (s.bank3v3 b)) (s.reg off))
  else if 0x130100 ≤ off && off < 0x13015C then some (hbWord ((off - 0x130100) / 4))
  else none

end Sys2Proof.Machine
end

