-- ==== Sys2Proof/Machine/TimeBases.lean ====
section
/-! DEFINITION. Time bases TB0-TB3 and network time (R87-R114): the counters, their states, the armed step, the holdover
watchdog, path-delay supervision, PPS, leap seconds and the transmit time-stamp queues. -/

namespace Sys2Proof.Machine

/-- The value the counter of time base `n` takes after a period that applies no step. -/
def State.tbAdvanced (s : State) (n : Nat) : Nat := ((s.tb n).t + tbIncrement (s.tbRate n)) % tbMod

/-- A change into or out of LOCKED is noted with the counter's time, for the consumers of R300, R321 and R337. -/
def State.noteLock (s : State) (n : Nat) (was now : Bool) : State :=
  if was = now then s
  else
    let x := s.tb n
    s.setTb n { x with
      leftAt := if was then s.now else x.leftAt
      lockLog := ((s.tbNow n, now) :: x.lockLog).take 64 }

/-- The noted changes of time base `n`, newest first. -/
def State.setLockLog (s : State) (n : Nat) (l : List (Stamp × Bool)) : State := s.setTb n { s.tb n with lockLog := l }

/-- The state field of time base `n` becomes `st`. -/
def State.setTbState (s : State) (n st : Nat) : State :=
  (s.setRf (Reg.TB_STATUS n) 0 3 st).noteLock n (decide (s.tbState n = 3)) (decide (st = 3))

/-- Time base `n` enters LOCKED: the watchdog starts (R90, R106). -/
def State.tbLock (s : State) (n : Nat) : State :=
  let s := s.setTbState n 3
  s.setTb n { s.tb n with wdogStart := s.now }

/-- Time base `n` enters HOLDOVER with event 7 (R90). -/
def State.tbHoldover (s : State) (n : Nat) : State :=
  (s.setTbState n 4).flagRaise (Reg.TB_STATUS n) 9 7 n

/-- The counter value a step gives, from the advanced value, whose fraction is kept with the remainder below it (R92; DEDUCED,
assumption 49). -/
def stepValue (q : StepReq) (adv : Nat) : Nat :=
  if q.set then (q.sec * tbSecUnit + q.ns * tbNsUnit + adv % tbNsUnit) % tbMod
  else (((adv : Int) + signed 48 q.sec * (tbSecUnit : Nat) + ((q.ns * tbNsUnit : Nat) : Int)) % (tbMod : Nat)).toNat

/-- Whether the coming period takes the nanoseconds field of time base `n` on (R92: a nanosecond boundary). -/
def State.nsBoundary (s : State) (n : Nat) : Bool :=
  decide (s.tbAdvanced n / tbNsUnit ≠ (s.tb n).t / tbNsUnit)

/-- The bell period of time base `n` at a step: a new period not yet taken is taken at the next TAI second of the new reading,
one already taken stays (R353). -/
def State.bellStep (s : State) (n sec : Nat) : State :=
  let o := Tab.get (fun _ => (0, 0)) s.sched.oldBell n
  let o' := if stampSec (s.tbNow n) < o.2 then (o.1, sec + 1) else (0, 0)
  { s with sched := { s.sched with oldBell := Tab.put (fun _ => (0, 0)) s.sched.oldBell n o' } }

/-- LEAP_PEND stays set only while a leap is announced and second E has not come (R108). -/
def State.leapPendCheck (s : State) (n : Nat) : State :=
  let e := s.pair (Reg.TB_LEAP_LO n) % 2 ^ 48
  let sec := stampSec (s.tbNow n)
  if s.rf (Reg.TB_UTC n) 16 2 ≠ 0 && decide (e ≤ sec + 59) && decide (sec < e) then s
  else s.setRb (Reg.TB_STATUS n) 4 false

/-- The armed and triggered step of time base `n` is applied in place of the coming advance (R90, R92): LOCKED, STEPPED,
event 6, the watchdog started; a step of the acquisition time base restarts acquisition (R271), which judges what it closes by the lock
changes of the old grid; those of the new one begin with the step. -/
def State.applyStep (s : State) (n : Nat) (q : StepReq) : State :=
  let old := s.tbNow n
  let log := (s.tb n).lockLog
  let v := stepValue q (s.tbAdvanced n)
  let x := { s.tb n with t := v, step := none, triggered := false }
  let s := ((s.bellStep n (v / tbSecUnit)).setTb n x).tbLock n
  let s := (s.setRb (Reg.TB_STATUS n) 3 true).setRb (Reg.TB_CTRL n) 1 false
  let s := (s.flagRaise (Reg.TB_STATUS n) 8 6 n).leapPendCheck n
  if s.acqTb = n then ((s.setLockLog n log).acqRestart old).setLockLog n [(v / 2 ^ 19, true)] else s.setLockLog n [(v / 2 ^ 19, true)]

/-- One period of the time clock at time base `n` (R87, R92). -/
def State.tbPeriod (s : State) (n : Nat) : State :=
  if s.tbState n = 0 then s
  else
    match (s.tb n).step with
    | some q =>
      if (s.tb n).triggered && s.nsBoundary n then s.applyStep n q
      else s.setTb n { s.tb n with t := s.tbAdvanced n }
    | none => s.setTb n { s.tb n with t := s.tbAdvanced n }

/-- The length of the coming clock period in fs: 625 ps, or while the PLL is out of lock a free value within ±100 ppm of
it (R89), and the state that has drawn it. -/
def State.periodLength (s : State) : Nat × State :=
  if s.rb Reg.TB_PLL 8 then (periodFs, s)
  else
    let p := s.draw 32
    (624938 + p.1 % 125, p.2)

/-- One period of the 1.6 GHz time clock passes: every enabled time base advances (R87). -/
def State.clockPeriod (s : State) : State :=
  let p := s.periodLength
  let s := { p.2 with now := p.2.now + p.1 }
  (((s.tbPeriod 0).tbPeriod 1).tbPeriod 2).tbPeriod 3

/-! ### Writes of the TB registers -/

/-- Values that the TB register tables refuse (cause VALUE; R91-R93, R103, R111, R114). -/
def tbRefuses (s : State) (off : Nat) (v : Word) : Bool :=
  if 0x51000 ≤ off && off < 0x51400 then
    let n := (off - 0x51000) / 0x100
    let st := s.tbState n
    match off % 0x100 with
    | 0x00 => bit v 1 && decide (st ≠ 1)
    | 0x18 => decide (st = 5)
    | 0x1C => decide (st = 5)
    | 0x20 => decide (st = 2) || decide (999999999 < fld v 0 30)
    | 0x24 => decide (st = 2)
    | 0x28 => decide (st = 2)
    | 0x2C => decide (fld v 0 16 = 0)
    | 0x30 => decide (fld v 0 16 = 0)
    | 0x34 => decide (fld v 16 2 = 3)
    | 0x4C => decide (fld v 0 16 = 0) || decide (fld v 16 4 = 0) || decide (8 < fld v 20 4)
    | _ => false
  else if 0x53000 ≤ off && off < 0x53100 && off % 0x40 = 0x18 then
    bit v 0 && (Tab.get (fun _ => []) s.tsq ((off - 0x53000) / 0x40)).isEmpty
  else false

/-- EN written 0: OFF, the counter zero and held, STEPPED clear, an armed step discarded (R90); no run of path-delay samples is kept
into FREE and ARMED (R103), and LEAP_PEND is judged by the second now held (R108). -/
def State.tbDisable (s : State) (n : Nat) : State :=
  let s := s.noteLock n (decide (s.tbState n = 3)) false
  let x := { s.tb n with t := 0, lockLog := [], step := none, triggered := false, ppsUntil := 0, mpdRun := 0, mpdSum := 0 }
  let s := if s.acqTb = n then { s with nrgInt := none } else s
  (((s.setTb n x).setRf (Reg.TB_STATUS n) 0 4 0).setRb (Reg.TB_CTRL n) 1 false).leapPendCheck n

/-- EN written 1 in OFF: FREE, counting from zero (R90); the period that SCH_BELL holds is taken (R353). -/
def State.tbEnable (s : State) (n : Nat) : State :=
  let s := s.setTbState n 1
  let s := s.setTb n { s.tb n with t := 0 }
  { s with sched := { s.sched with oldBell := s.sched.oldBell.erase n } }

/-- STEP_GO accepted in FREE: ARMED, the step registers, mode and trigger taken (R92, R93). -/
def State.tbArm (s : State) (n : Nat) : State :=
  let q : StepReq :=
    { set := s.rb (Reg.TB_CTRL n) 2, onPps := s.rb (Reg.TB_CTRL n) 3
      sec := s.rf (Reg.TB_STEP_SEC_HI n) 0 16 * 2 ^ 32 + (s.reg (Reg.TB_STEP_SEC_LO n)).toNat
      ns := s.rf (Reg.TB_STEP_NS n) 0 30 }
  let s := s.setTbState n 2
  (s.setTb n { s.tb n with step := some q, triggered := !q.onPps }).setRb (Reg.TB_CTRL n) 1 true

/-- HOLD_REL in REROUTE: LOCKED, the path-delay reference and the watchdog restarted (R90, R103). -/
def State.tbRelease (s : State) (n : Nat) : State :=
  (s.setTb n { s.tb n with mpdInit := false, mpdRun := 0, mpdSum := 0 }).tbLock n

/-- What a write of TBn_CTRL does beside its plain fields (R90, R93, R106, R481). `old` is the register before the write. HOLD_REQ is
judged before HOLD_REL where one write carries both: in REROUTE it ends in LOCKED (DESIGN CHOICE, assumption 165). -/
def State.tbCtrlHook (s : State) (n : Nat) (old v : Word) : State :=
  if !bit v 0 then s.tbDisable n
  else
    let s := if s.tbState n = 0 then s.tbEnable n else s
    let s := if bit v 1 then s.tbArm n else s
    let s := if bit v 4 && decide (s.tbState n = 3) then s.tbHoldover n else s
    let s := if bit v 5 && decide (s.tbState n = 5) then s.tbRelease n else s
    let s := if bit v 6 && !bit old 6 then s.setTb n { s.tb n with wdogStart := s.now } else s
    if bit v 7 then s else s.setTb n { s.tb n with ppsUntil := 0 }

/-- An exact quotient, or the integer below or above it as a free value chooses: the spec states no rounding (R103). -/
def State.divFree (s : State) (a : Int) (d : Nat) : Int × State :=
  if a % (d : Int) = 0 then (a / (d : Int), s)
  else
    let p := s.draw 1
    (a / (d : Int) + (p.1 : Int), p.2)

/-- A mean-path-delay sample of time base `n`, in 2^-8 ns (R103). -/
def State.mpdSample (s : State) (n v : Nat) : State :=
  let cfg := s.reg (Reg.TB_MPD_CFG n)
  let st := s.tbState n
  if !bit cfg 31 || st = 0 || st = 5 then s
  else
    let x := s.tb n
    if !x.mpdInit then
      (s.setReg (Reg.TB_MPD_REF n) (word v)).setTb n { x with mpdInit := true, mpdRun := 0, mpdSum := 0 }
    else
      let ref := (s.reg (Reg.TB_MPD_REF n)).toNat
      let far := decide (fld cfg 0 16 * 256 < (if ref ≤ v then v - ref else ref - v))
      if far && (st = 3 || st = 4) then
        let run := x.mpdRun + 1
        let sum := x.mpdSum + v
        if fld cfg 16 4 ≤ run then
          let p := s.divFree ((sum : Int) - (ref * run : Nat)) run
          let s := p.2.setReg (Reg.TB_MPD_STEP n) (BitVec.ofInt 32 p.1)
          let s := s.setTb n { s.tb n with mpdRun := 0, mpdSum := 0 }
          (s.setTbState n 5).flagRaise (Reg.TB_STATUS n) 10 8 n
        else s.setTb n { x with mpdRun := run, mpdSum := sum }
      else
        let p := s.divFree (((v : Int) - (ref : Int))) (2 ^ fld cfg 20 4)
        let s := p.2.setReg (Reg.TB_MPD_REF n) (BitVec.ofInt 32 ((ref : Int) + p.1))
        s.setTb n { s.tb n with mpdRun := 0, mpdSum := 0 }

/-- The commit of the RATE pair (R88, R90, R106): the watchdog restarts, and HOLDOVER returns to LOCKED. -/
def State.tbRateHook (s : State) (n : Nat) : State :=
  let s := s.setTb n { s.tb n with wdogStart := s.now }
  if s.tbState n = 4 then s.tbLock n else s

/-- The queue of port `p`'s transmit stamps (R110). -/
def State.tsqOf (s : State) (p : Nat) : List TsqEntry := Tab.get (fun _ => []) s.tsq p
def State.setTsq (s : State) (p : Nat) (q : List TsqEntry) : State :=
  { s with tsq := Tab.put (fun _ => []) s.tsq p q }

/-- A stamped frame's push to the queue of port `p` (R110, R112). -/
def State.tsqPush (s : State) (p : Nat) (e : TsqEntry) : State :=
  if (s.tsqOf p).length < 64 then
    (s.setTsq p (s.tsqOf p ++ [e])).flagRaise (Reg.TSQ_STATUS p) 16 10 p
  else (s.bump (Reg.TSQ_OVF_CNT p)).flagRaise (Reg.TSQ_STATUS p) 17 11 p

/-- What the queue registers of port `p` show: the oldest entry, 0 while the queue is empty (R111). -/
def State.tsqView (s : State) (p d : Nat) : Word :=
  let q := s.tsqOf p
  let e := q.headD ⟨0, 0, 0⟩
  match d with
  | 0x00 => setFld (setFld (s.reg (Reg.TSQ_STATUS p)) 0 7 q.length) 8 2 e.tb
  | 0x04 => word (e.tsid % 65536)
  | 0x08 => word (stampNs e.stamp)
  | 0x0C => word (stampSec e.stamp)
  | 0x10 => word (stampSec e.stamp >>> 32 % 65536)
  | 0x14 => word (stampFrac e.stamp)
  | _ => 0

/-- The start of second E has come with a leap announced (R108). -/
def State.leapDue (s : State) (n : Nat) : Bool :=
  decide (s.tbState n ≠ 0) && decide (s.rf (Reg.TB_UTC n) 16 2 ≠ 0) &&
    decide (stampSec (s.tbNow n) = s.pair (Reg.TB_LEAP_LO n) % 2 ^ 48)

/-- The leap second is applied at the start of second E (R108). -/
def State.leapApply (s : State) (n : Nat) : State :=
  if s.leapDue n then
    let e := s.pair (Reg.TB_LEAP_LO n) % 2 ^ 48
    let l := s.rf (Reg.TB_UTC n) 16 2
    let d : Int := if l = 1 then 1 else -1
    let s := (s.setRf (Reg.TB_UTC n) 0 16 (wrap 16 (s.utcOffset n + d))).setRf (Reg.TB_UTC n) 16 2 0
    let s := ((s.setRb (Reg.TB_STATUS n) 4 false).setRb (Reg.TB_STATUS n) 5 true).setRb (Reg.TB_STATUS n) 6 (l = 2)
    s.setTb n { s.tb n with leapAt := e }
  else s

/-- What a write of TBn_UTC does: one that meets the change at E, second E having begun and the change not yet made, loses the host's
UTC_OFFSET and LEAP whole, and the values `old` held before it are changed (R108). -/
def State.utcHook (s : State) (n : Nat) (old : Word) : State :=
  let b := (s.setRf (Reg.TB_UTC n) 0 16 (fld old 0 16)).setRf (Reg.TB_UTC n) 16 2 (fld old 16 2)
  if b.leapDue n then b.leapApply n else s.leapPendCheck n

/-- What a write of a TB register does beside its plain fields. `old` is the register before the write. -/
def State.tbHook (s : State) (off : Nat) (old v : Word) : State :=
  if 0x51000 ≤ off && off < 0x51400 then
    let n := (off - 0x51000) / 0x100
    match off % 0x100 with
    | 0x00 => s.tbCtrlHook n old v
    | 0x1C => s.tbRateHook n
    | 0x2C => if s.reg off = old then s else s.setTb n { s.tb n with wdogStart := s.now }
    | 0x34 => s.utcHook n old
    | 0x3C => s.leapPendCheck n
    | 0x48 => s.mpdSample n v.toNat
    | 0x4C =>
      -- the first sample after EN goes from 0 to 1 initialises the reference (DESIGN CHOICE, assumption 165)
      if bit v 31 && !bit old 31 then s.setTb n { s.tb n with mpdInit := false, mpdRun := 0, mpdSum := 0 } else s
    | _ => s
  else if 0x53000 ≤ off && off < 0x53100 && off % 0x40 = 0x18 then
    let p := (off - 0x53000) / 0x40
    if bit v 0 then s.setTsq p (s.tsqOf p).tail else s
  else s

/-! ### Happenings at the time bases -/

/-- The armed step is applied: the clock runs on to the nanosecond boundary after the trigger, at most two periods away
(R92). -/
def State.stepApply (s : State) (n : Nat) : State :=
  if s.tbState n = 2 && (s.tb n).triggered then
    let s := s.clockPeriod
    if s.tbState n = 2 then s.clockPeriod else s
  else s

/-- The holdover watchdog of time base `n` expires, when it is due (R106). -/
def State.tbWatchdog (s : State) (n : Nat) : State :=
  if s.tbState n = 3 && s.rb (Reg.TB_CTRL n) 6 &&
      decide ((s.tb n).wdogStart + s.rf (Reg.TB_WDOG n) 0 16 * fsPerMs ≤ s.now) then s.tbHoldover n
  else s

/-- Time base `n` leaves LOCKED at a loss of the PLL (R89). -/
def State.tbPllLoss (s : State) (n : Nat) : State := if s.tbState n = 3 then s.tbHoldover n else s

/-- The time-clock PLL loses lock (R89). -/
def State.pllLoss (s : State) : State :=
  if s.rb Reg.TB_PLL 8 then
    let s := (s.setRb Reg.TB_PLL 8 false).setRb Reg.TB_PLL 9 true
    (((s.tbPllLoss 0).tbPllLoss 1).tbPllLoss 2).tbPllLoss 3
  else s

/-- A selected PPS_IN edge at time base `n` (R92, R96). -/
def State.ppsInAt (s : State) (ph n : Nat) : State :=
  let s :=
    if s.rb (Reg.TB_CTRL n) 8 then
      ((s.putStamp (Reg.TB_PPSIN_NS n) (s.tdc n ph)).publish (Reg.TB_PPSIN_STATUS n)).flagRaise (Reg.TB_STATUS n) 12 9 n
    else s
  let x := s.tb n
  match x.step with
  | some q => if q.onPps && decide (s.tbState n = 2) then s.setTb n { x with triggered := true } else s
  | none => s

/-- A PPS_IN edge whose level then stays `width` ns; with FILTER = 1 both edges of a pulse shorter than 100 ns are ignored (R96). -/
def State.ppsIn (s : State) (rising : Bool) (width ph : Nat) : State :=
  let falling := s.rb Reg.TB_PPSIN_CFG 0
  let short := decide (width < 100)
  let ended := s.ppsPin.reject
  let s := { s with ppsPin := { s.ppsPin with reject := short } }
  if rising = falling || (s.rb Reg.TB_PPSIN_CFG 1 && (short || ended)) then s
  else (((s.ppsInAt ph 0).ppsInAt ph 1).ppsInAt ph 2).ppsInAt ph 3

/-- Whether time base `n` reads an integer second plus OFFSET within half a period (R97). -/
def State.ppsDue (s : State) (n : Nat) : Bool :=
  let inc := tbIncrement (s.tbRate n)
  let x := ((((s.tb n).t : Int) - signed 16 (s.rf (Reg.TB_PPS_OUT n) 16 16) * (tbNsUnit : Nat)) % (tbSecUnit : Nat)).toNat
  decide (2 * x < inc) || decide (2 * tbSecUnit ≤ 2 * x + inc)

/-- RTC_CAP captures the count and the time since the last tick edge at a PPS_OUT leading edge (R122). With the crystal stopped the
time wraps at the field's 15 bits (DESIGN CHOICE, assumption 165). -/
def State.rtcCapture (s : State) (n : Nat) : State :=
  if s.rb Reg.RTC_CTRL 3 && decide (s.rf Reg.RTC_CTRL 4 2 = n) && !s.rtc.onVbat then
    let s := s.setReg Reg.RTC_CAP_PHASE (word ((s.now - s.rtc.lastEdge) / 1000000 % 2 ^ 15))
    let s := (s.setReg Reg.RTC_CAP_TICK_LO (word s.rtc.count)).setReg Reg.RTC_CAP_TICK_HI (word (s.rtc.count >>> 32))
    s.publish Reg.RTC_CAP_STATUS
  else s

/-- PPS_OUT[n] goes active, when that is due (R97), and the RTC captures (R122). -/
def State.ppsOut (s : State) (n : Nat) : State :=
  if s.rb (Reg.TB_CTRL n) 7 && decide (s.tbState n ≠ 0) && s.ppsDue n then
    let w := s.rf (Reg.TB_PPS_OUT n) 0 16
    let s := (s.emit (.pps n w)).setTb n { s.tb n with ppsUntil := s.now + w * fsPerUs }
    (s.flagRaise (Reg.TB_STATUS n) 11 9 n).rtcCapture n
  else s

/-- LEAP_PEND is set in the 59 seconds before E (R108). -/
def State.leapPend (s : State) (n : Nat) : State :=
  let e := s.pair (Reg.TB_LEAP_LO n) % 2 ^ 48
  let sec := stampSec (s.tbNow n)
  if decide (s.tbState n ≠ 0) && decide (s.rf (Reg.TB_UTC n) 16 2 ≠ 0) && decide (e ≤ sec + 59) && decide (sec < e) then
    s.setRb (Reg.TB_STATUS n) 4 true
  else s

/-- LEAP_OCC is cleared 86,400 s after the leap (R108), counted in the counter's own seconds from E: a restart through OFF leaves it
set until the new count has passed them (DESIGN CHOICE, assumption 165). -/
def State.leapExpire (s : State) (n : Nat) : State :=
  if s.rb (Reg.TB_STATUS n) 5 && decide ((s.tb n).leapAt + 86400 ≤ stampSec (s.tbNow n)) then
    s.setRb (Reg.TB_STATUS n) 5 false
  else s

/-- What TBn_NOW reads: nanoseconds, seconds and fraction of one snapshot (R95). -/
def State.tbNowWord (s : State) (n d : Nat) : Word :=
  let t := s.tbNow n
  match d with
  | 0x08 => word (stampNs t)
  | 0x0C => word (stampSec t)
  | 0x10 => word (stampSec t >>> 32)
  | _ => word (stampFrac t)

end Sys2Proof.Machine
end

