-- ==== Sys2Proof/Machine/Frames.lean ====
section
/-! DEFINITION. Ethernet, IP, UDP and PTP as the ports, the parser and the framer read and write them: header offsets,
checksums, stamps (R98-R104) and the redundancy control trailer (R151, R153). -/

namespace Sys2Proof.Machine

/-- EtherType of a frame and the offset of what follows it, past at most one VLAN tag. -/
def etherType (f : List Byte) : Nat × Nat :=
  if be f 12 2 = 0x8100 then (be f 16 2, 18) else (be f 12 2, 14)

/-- The frame check sequence as it goes on the wire. -/
def fcs (f : List Byte) : List Byte := leBytes 4 (crc32 f)

/-- Offset and kind of a UDP datagram: IP offset, UDP offset, and whether it is IPv6; none where the frame holds none. -/
def udpAt (f : List Byte) : Option (Nat × Nat × Bool) :=
  let e := etherType f
  if e.1 = 0x0800 && octet f (e.2 + 9) = 17 then some (e.2, e.2 + 4 * (octet f e.2 % 16), false)
  else if e.1 = 0x86DD && octet f (e.2 + 6) = 17 then some (e.2, e.2 + 40, true)
  else none

/-- The PTP message of a frame: its offset, and the UDP offset and IP version where it travels over UDP (R98). -/
def ptpAt (f : List Byte) : Option (Nat × Option (Nat × Nat × Bool)) :=
  let e := etherType f
  if e.1 = 0x88F7 then some (e.2, none)
  else
    match udpAt f with
    | some (ip, u, v6) => if be f (u + 2) 2 = 319 || be f (u + 2) 2 = 320 then some (u + 8, some (ip, u, v6)) else none
    | none => none

/-- messageType of the PTP message at `o`. -/
def ptpType (f : List Byte) (o : Nat) : Nat := octet f o % 16

/-- The time base a frame is stamped on at port `p` (R98). -/
def State.stampTb (s : State) (p : Nat) (f : List Byte) : Nat :=
  let d := s.rf (Reg.TBP_CFG p) 0 2
  match ptpAt f with
  | none => d
  | some (o, _) =>
    if ptpType f o < 4 then
      ((List.range 4).find? (fun n =>
        s.rb (Reg.TBP_CFG p) (4 + n) && decide (s.rf (Reg.TB_DOMAIN n) 0 8 = octet f (o + 4)) &&
          decide (s.rf (Reg.TB_DOMAIN n) 8 4 = octet f o / 16))).getD d
    else d

/-- The frame is a PTP message of the given type. -/
def isPtpType (f : List Byte) (t : Nat) : Bool :=
  match ptpAt f with
  | some (o, _) => decide (ptpType f o = t)
  | none => false

/-- The reading of time base `n` refined by `ph` steps of 50 ps, with a signed correction in 2^-8 ns (R98, R99). -/
def State.serdesStamp (s : State) (n ph : Nat) (corr : Int) : Stamp :=
  let t := if s.tbState n = 0 then s.tbNow n else s.tbNow n + ph * 50 * 2 ^ 32 / 1000
  stampAdd t (corr * (2 ^ 24 : Nat))

/-- Ingress stamp of a frame at port `p`, and its time base (R98, R99, R104). -/
def State.ingressStamp (s : State) (p : Nat) (f : List Byte) (ph : Nat) : Stamp × Nat :=
  let n := s.stampTb p f
  let asym : Int := if isPtpType f 0 then (s.reg (Reg.TB_ASYM n)).toInt else 0
  (s.serdesStamp n ph ((s.reg (Reg.TBP_ING p)).toInt - asym), n)

/-- Egress stamp of a frame at port `p`, and its time base (R98, R99, R104). -/
def State.egressStamp (s : State) (p : Nat) (f : List Byte) (ph : Nat) : Stamp × Nat :=
  let n := s.stampTb p f
  let asym : Int := if isPtpType f 1 then (s.reg (Reg.TB_ASYM n)).toInt else 0
  (s.serdesStamp n ph ((s.reg (Reg.TBP_EGR p)).toInt - asym), n)

/-! ### Checksums -/

/-- The sum of the TCP or UDP pseudo-header and segment: IP header at `ip`, segment of `n` octets at `l4`. -/
def l4Sum (f : List Byte) (ip l4 n : Nat) (v6 : Bool) (proto : Nat) : Nat :=
  (if v6 then sum16 (slice f (ip + 8) 32) else sum16 (slice f (ip + 12) 8)) + proto + n + sum16 (slice f l4 n)

/-- A checksum as UDP carries it: 0 is sent as 0xFFFF. -/
def udpNonzero (c : Nat) : Nat := if c = 0 then 0xFFFF else c

/-- The IPv4 header checksum inserted, header of `n` octets at `ip`. -/
def withIpSum (f : List Byte) (ip n : Nat) : List Byte :=
  let z := patch f (ip + 10) [0, 0]
  patch z (ip + 10) (beBytes 2 (inetChecksum (sum16 (slice z ip n))))

/-- Where the checksum of a TCP (6) or UDP segment stands. -/
def l4SumAt (proto l4 : Nat) : Nat := if proto = 6 then l4 + 16 else l4 + 6

/-- The TCP or UDP checksum inserted. -/
def withL4Sum (f : List Byte) (ip l4 n : Nat) (v6 : Bool) (proto : Nat) : List Byte :=
  let z := patch f (l4SumAt proto l4) [0, 0]
  let c := inetChecksum (l4Sum z ip l4 n v6 proto)
  patch z (l4SumAt proto l4) (beBytes 2 (if proto = 17 then udpNonzero c else c))

/-- IP version 6 at offset `ip`. -/
def isV6 (f : List Byte) (ip : Nat) : Bool := decide (octet f ip / 16 = 6)

/-- The protocol that the IP header at `ip` names. -/
def ipProto (f : List Byte) (ip : Nat) : Nat := if isV6 f ip then octet f (ip + 6) else octet f (ip + 9)

/-- Octets of TCP or UDP that the IP header at `ip` announces, the segment standing at `l4`. -/
def l4Len (f : List Byte) (ip l4 : Nat) : Nat :=
  if isV6 f ip then be f (ip + 4) 2 + 40 - (l4 - ip) else be f (ip + 2) 2 - (l4 - ip)

/-- CSUM of R140: the IPv4 header checksum and the TCP or UDP checksum of a single frame. -/
def withChecksums (f : List Byte) (ip l4 : Nat) : List Byte :=
  let f := if isV6 f ip then f else withIpSum f ip (4 * (octet f ip % 16))
  withL4Sum f ip l4 (l4Len f ip l4) (isV6 f ip) (ipProto f ip)

/-! ### One-step Sync (R102) -/

/-- The two octets after a PTP message over UDP/IPv6, rewritten so that the sum over the datagram stays what it was. -/
def fixV6Pad (old new : List Byte) (o u : Nat) : List Byte :=
  let n := be new (o + 2) 2
  if u + be new (u + 4) 2 < o + n + 2 || new.length < o + n + 2 then new
  else
    let so := sum16 (slice old o n)
    let sn := sum16 (slice new o n)
    let pad := be old (o + n) 2
    let c := 65535 - inetChecksum (pad + so + 65535 * ((sn / 65535) + 1) - sn)
    patch new (o + n) (beBytes 2 c)

/-- originTimestamp and correctionField of a one-step Sync, and the checksum of what carries it (R102). The stamp's fraction is
truncated to correctionField's unit of 2^-16 ns (DESIGN CHOICE, assumption 165). -/
def insertOneStep (f : List Byte) (t : Stamp) : List Byte :=
  match ptpAt f with
  | none => f
  | some (o, udp) =>
    if ptpType f o = 0 && !((octet f (o + 6)) / 2 % 2 = 1) then
      let corr := be f (o + 8) 8 + stampFrac t / 65536
      let g := patch (patch f (o + 34) (beBytes 6 (stampSec t) ++ beBytes 4 (stampNs t))) (o + 8) (beBytes 8 (corr % 2 ^ 64))
      match udp with
      | none => g
      | some (ip, u, false) => withL4Sum g ip u (be g (u + 4) 2) false 17
      | some (_, u, true) => fixV6Pad f g o u
    else f

/-! ### The redundancy control trailer (R151, R153) -/

/-- Octets from after the EtherType, past at most one VLAN tag, to the end. -/
def lsduFrom (f : List Byte) : Nat := (etherType f).2

/-- A frame padded to 60 octets, 64 with its FCS. -/
def padFrame (f : List Byte) : List Byte := fit (max 60 f.length) f

/-- A frame padded so that with its trailer and FCS it reaches 64 octets, and the trailer appended. -/
def withRct (f : List Byte) (seq lan : Nat) : List Byte :=
  let g := fit (max 54 f.length) f
  let n := g.length + 6 - lsduFrom g
  g ++ beBytes 2 seq ++ beBytes 2 (lan * 4096 + n % 4096) ++ beBytes 2 0x88FB

/-- SeqNr and LanId of the trailer that a received frame (without FCS) carries. -/
def rctOf (f : List Byte) : Option (Nat × Nat) :=
  let n := f.length
  let lan := be f (n - 4) 2 / 4096
  if decide (6 ≤ n) && decide (be f (n - 2) 2 = 0x88FB) && (lan = 10 || lan = 11) &&
      decide (be f (n - 4) 2 % 4096 = n - lsduFrom f) then some (be f (n - 6) 2, lan)
  else none

end Sys2Proof.Machine
end

