-- ==== Sys2Proof/Machine/Ports.lean ====
section
/-! DEFINITION. The Ethernet ports and parallel redundancy (R130-R142, R149-R158, R160): receive checks and filters, the
receive buffer, transmit services, the PRP source tables and LAN supervision. -/

namespace Sys2Proof.Machine

/-! ### Registers of a port -/

/-- The counters of R158. -/
abbrev rxFrames : Nat := 0
abbrev rxOctets : Nat := 1
abbrev rxFcsErr : Nat := 2
abbrev rxLenErr : Nat := 3
abbrev rxFiltered : Nat := 4
abbrev rxDrop : Nat := 5
abbrev rxCtrl : Nat := 6
abbrev txFrames : Nat := 7
abbrev txOctets : Nat := 8
abbrev txSegments : Nat := 9
abbrev txErr : Nat := 10
abbrev fecCorr : Nat := 11
abbrev fecUncorr : Nat := 12

/-- Counter `k` of port `p` gains `n`, modulo 2^64. -/
def State.macCount (s : State) (p k n : Nat) : State := s.bumpPair (Reg.MAC_STAT_LO p k) n

def State.macEn (s : State) (p : Nat) : Bool := s.rb (Reg.MAC_CTRL p) 0
def State.macLink (s : State) (p : Nat) : Bool := s.rb (Reg.MAC_STATUS p) 0
def State.macMaxLen (s : State) (p : Nat) : Nat := s.rf (Reg.MAC_MAXLEN p) 0 14

/-- Values that the MAC tables refuse (R131, R158). -/
def macRefuses (s : State) (off : Nat) (v : Word) : Bool :=
  match off % 0x10000 with
  | 0x0 =>
    decide (fld v 2 2 = 3) || (decide (fld v 2 2 = 2) && bit v 1) || (s.rb off 0 && decide (fld v 1 3 ≠ s.rf off 1 3))
  | 0x8 => decide (fld v 0 14 < 64) || decide (9216 < fld v 0 14)
  | _ => false

/-- Block and FEC lock of port `p` become these, and LINK follows with event 18 at a change (R132). -/
def State.macLocks (s : State) (p : Nat) (block fec : Bool) : State :=
  let en := s.macEn p
  let fecOn := decide (s.rf (Reg.MAC_CTRL p) 2 2 ≠ 0)
  let b := en && block
  let f := en && fecOn && fec
  let link := b && (!fecOn || f)
  let was := s.macLink p
  let s := ((s.setRb (Reg.MAC_STATUS p) 1 b).setRb (Reg.MAC_STATUS p) 2 f).setRb (Reg.MAC_STATUS p) 0 link
  if link != was then s.flagRaise (Reg.MAC_STATUS p) 8 18 p else s

/-- MAC_LINK: the PCS of port `p` reports its locks (R132), and the codewords that its FEC has corrected and found uncorrectable
since it last did (R158). -/
def State.macLinkChange (s : State) (p : Nat) (block fec : Bool) (corr uncorr : Nat) : State :=
  if s.domOn (portDomain p) then
    let counts := s.macEn p && decide (s.rf (Reg.MAC_CTRL p) 2 2 ≠ 0)
    let s := if counts then (s.macCount p fecCorr corr).macCount p fecUncorr uncorr else s
    s.macLocks p block fec
  else s

/-- What a write of MAC_CTRL does beside its fields: without EN there is no lock (R132). -/
def State.macHook (s : State) (off : Nat) (v : Word) : State :=
  if off % 0x10000 = 0 && !bit v 0 then s.macLocks (off / 0x10000 - 6) false false else s

/-! ### Receive (R133-R137) -/

/-- A MAC or segment address from its pair: octet 0 in bits 7:0 of the low half. -/
def addrOctets (lo hi : Word) : List Byte := leBytes 4 lo.toNat ++ leBytes 2 hi.toNat

def bcast : List Byte := List.replicate 6 0xFF

/-- The destination filter of R135. -/
def State.macAccepts (s : State) (p : Nat) (da : List Byte) : Bool :=
  let c := s.reg (Reg.MAC_CTRL p)
  let i := crc32 da % 256
  bit c 6 || da = addrOctets (s.reg (Reg.MAC_ADDR_LO p)) (s.reg (Reg.MAC_ADDR_HI p)) ||
    (da = bcast && bit c 7) ||
    (octet da 0 % 2 = 1 && da ≠ bcast && (bit c 8 || s.rb (Reg.MAC_MHASH p (i / 32)) (i % 32))) ||
    ((da = [0x01, 0x1B, 0x19, 0, 0, 0] || da = [0x01, 0x80, 0xC2, 0, 0, 0x0E]) && bit c 9)

/-- Receive buffer of a port (R137). -/
def rxBufferSize : Nat := 131072

def State.rxOf (s : State) (p : Nat) : List RxFrame := Tab.get (fun _ => []) s.rxq p
def State.setRx (s : State) (p : Nat) (q : List RxFrame) : State := { s with rxq := Tab.put (fun _ => []) s.rxq p q }

/-- Octets that wait in the receive buffer of port `p`. -/
def State.rxHeld (s : State) (p : Nat) : Nat := (s.rxOf p).foldl (fun a f => a + f.octets.length + 4) 0

/-- A frame goes to its receive ring (R136, R373). -/
def State.rxToRing (s : State) (f : RxFrame) : State :=
  s.postFrame f.ring f.octets { port := f.port, cause := 0, stamp := f.stamp, tb := f.tb, rct := f.rct }

/-- A frame that the MAC and PRP have passed: into the receive buffer while the intake parser examines or frames before it wait there,
so that all are delivered in order; else to its ring (R136, R137, R162). -/
def State.rxPass (s : State) (f : RxFrame) : State :=
  if (s.domOn pdRcl && s.rb Reg.ITK_CTRL 0) || !(s.rxOf f.port).isEmpty then s.setRx f.port (s.rxOf f.port ++ [f])
  else s.rxToRing f

/-! ### PRP on receipt (R153-R156) -/

def State.prpOf (s : State) (q : Nat) : Prp := Tab.get (fun _ => {}) s.prp q
def State.setPrp (s : State) (q : Nat) (x : Prp) : State := { s with prp := Tab.put (fun _ => {}) s.prp q x }

/-- PRP is enabled on the pair of port `p`. -/
def State.prpEn (s : State) (p : Nat) : Bool := s.rb (Reg.PRP_CTRL (p / 2)) 0

/-- A fault bit of pair `q` takes `v`, with F_FAULT and event 21 at a change (R156). -/
def State.prpFault (s : State) (q lan : Nat) (v : Bool) : State :=
  if s.rb (Reg.PRP_STATUS q) lan = v then s
  else (s.setRb (Reg.PRP_STATUS q) lan v).flagRaise (Reg.PRP_STATUS q) 8 21 q

/-- What R154 does with sequence number `seq` at an entry: the entry after, and whether the frame is a duplicate. -/
def prpJudge (e : PrpEntry) (seq window : Nat) : PrpEntry × Bool :=
  let ahead := (seq + 65536 - e.base) % 65536
  let behind := (e.base + 65536 - seq) % 65536
  if 1 ≤ ahead && ahead < 32768 then ({ e with mask := (e.mask <<< ahead ||| 1) % 2 ^ window, base := seq }, false)
  else if behind < window then
    if e.mask >>> behind % 2 = 1 then (e, true) else ({ e with mask := e.mask ||| 2 ^ behind }, false)
  else (e, false)

/-- The source table takes a trailer-bearing frame; the flag says that it is a duplicate (R154). -/
def State.prpLookup (s : State) (q mac seq : Nat) : State × Bool :=
  let x := s.prpOf q
  let window := s.rf (Reg.PRP_CTRL q) 16 7
  let rest := x.table.filter (fun e => decide (e.mac ≠ mac))
  match x.table.find? (fun e => e.mac = mac) with
  | some e =>
    let fresh := decide (s.rf (Reg.PRP_FORGET q) 0 16 * fsPerMs < s.now - e.last)
    let r := if fresh then ({ e with base := seq, mask := 1 }, false) else prpJudge e seq window
    let s := s.setPrp q { x with table := { r.1 with last := s.now } :: rest }
    (if r.2 then s.bump (Reg.PRP_CNT q 5) else s, r.2)
  | none =>
    let e : PrpEntry := ⟨mac, seq, 1, s.now⟩
    if rest.length < 1024 then
      let s := s.setPrp q { x with table := e :: rest }
      (s.setRf (Reg.PRP_SOURCES q) 0 11 (rest.length + 1), false)
    else
      let s := s.setPrp q { x with table := e :: rest.take 1023 }
      ((s.bump (Reg.PRP_CNT q 6)).setRb (Reg.PRP_STATUS q) 9 true, false)

/-- The PRP unit takes a frame from port `p` (R153-R155): without a trailer it passes unchanged; with one it is checked
against the source table, and passes without the trailer. -/
def State.prpReceive (s : State) (f : RxFrame) : State :=
  let q := f.port / 2
  let lan := f.port % 2
  match rctOf f.octets with
  | none => (s.bump (Reg.PRP_CNT q 7)).rxPass f
  | some (seq, lanId) =>
    let s := s.bump (Reg.PRP_CNT q (2 + lan))
    let s := if lanId ≠ 10 + lan then s.bump (Reg.PRP_CNT q 4) else s
    let x := s.prpOf q
    let s := s.setPrp q (if lan = 0 then { x with lastA := some s.now } else { x with lastB := some s.now })
    let s := s.prpFault q lan false
    let r := s.prpLookup q (be f.octets 6 6) seq
    if r.2 && !r.1.rb (Reg.PRP_CTRL q) 1 then r.1
    else r.1.rxPass { f with octets := f.octets.take (f.octets.length - 6), rct := true, ring := 6 + 2 * q }

/-- PRP_LAN_FAULT: no trailer-bearing frame on one LAN of pair `q` for FAULT_TIME while the other received (R156). -/
def State.prpLanFault (s : State) (q lan : Nat) : State :=
  let x := s.prpOf q
  let t := s.rf (Reg.PRP_FAULT_TIME q) 0 16 * fsPerMs
  let mine := (if lan = 0 then x.lastA else x.lastB).getD x.since
  let other := if lan = 0 then x.lastB else x.lastA
  let heard := match other with
    | some o => decide (s.now < o + t)
    | none => false
  if s.domOn (portDomain (2 * q)) && s.rb (Reg.PRP_CTRL q) 0 && decide (mine + t ≤ s.now) && heard then s.prpFault q lan true
  else s

/-- Values that the PRP table refuses (R150, R160). -/
def prpRefuses (s : State) (off : Nat) (v : Word) : Bool :=
  let q := (off - 0xB0100) / 0x80
  let d := (off - 0xB0100) % 0x80
  if d = 0 then
    (bit v 0 != s.rb off 0 && (s.macEn (2 * q) || s.macEn (2 * q + 1))) || decide (fld v 16 7 < 2) || decide (64 < fld v 16 7)
  else if d = 0x0C || d = 0x10 then decide (fld v 0 16 = 0)
  else false

/-- What a write of a PRP register does beside its fields: the LAN supervision starts with EN. -/
def State.prpHook (s : State) (off : Nat) (old v : Word) : State :=
  if (off - 0xB0100) % 0x80 = 0 && bit v 0 && !bit old 0 then
    let q := (off - 0xB0100) / 0x80
    s.setPrp q { s.prpOf q with lastA := none, lastB := none, since := s.now }
  else s

/-! ### A frame arrives (R134) -/

/-- FRAME_RECEIVE: a frame with its FCS arrives at port `p`, `ph` steps of 50 ps into a clock period; `pcsErr` says that
the PCS found an error within it, `full` that the receive buffer filled before its last octet. -/
def State.frameReceive (s : State) (p : Nat) (bs : List Byte) (pcsErr : Bool) (ph : Nat) (full : Bool) : State :=
  if !(s.domOn (portDomain p) && s.macEn p && s.rb (Reg.MAC_CTRL p) 4 && s.macLink p) then s
  else
    let f := bs.take (bs.length - 4)
    if pcsErr || bs.length < 4 || bs.drop (bs.length - 4) ≠ fcs f then s.macCount p rxFcsErr 1
    else if bs.length < 64 || s.macMaxLen p < bs.length then s.macCount p rxLenErr 1
    else if (etherType f).1 = 0x8808 then s.macCount p rxCtrl 1
    else if !s.macAccepts p (f.take 6) then s.macCount p rxFiltered 1
    else if full || rxBufferSize < s.rxHeld p + bs.length then
      (s.macCount p rxDrop 1).flagRaise (Reg.MAC_STATUS p) 9 19 p
    else
      let t := s.ingressStamp p f ph
      let s := (s.macCount p rxFrames 1).macCount p rxOctets bs.length
      let x : RxFrame := { octets := f, port := p, stamp := t.1, tb := t.2, rct := false, ring := 6 + p }
      if s.prpEn p then s.prpReceive x else s.rxPass x

/-! ### Transmit (R138-R142, R151, R152) -/

def State.txOf (s : State) (p : Nat) : List TxFrame := Tab.get (fun _ => []) s.txq p
def State.setTx (s : State) (p : Nat) (q : List TxFrame) : State := { s with txq := Tab.put (fun _ => []) s.txq p q }

/-- A frame of the alarm path (0), the answer check (1) or the framer (2) is handed to port `p`. -/
def State.txQueue (s : State) (p source : Nat) (f : List Byte) : State := s.setTx p (s.txOf p ++ [{ source := source, octets := f }])

/-- Whether port `p` can send (R139). -/
def State.txReady (s : State) (p : Nat) : Bool :=
  s.domOn (portDomain p) && s.macEn p && s.rb (Reg.MAC_CTRL p) 5 && s.macLink p

/-- TX_ERR and F_TXERR of port `p`. -/
def State.txError (s : State) (p : Nat) : State := (s.macCount p txErr 1).setRb (Reg.MAC_STATUS p) 10 true

/-- A frame without FCS goes out at port `p`, with one-step insertion where that is on (R102). The stamp is the egress
stamp and its time base. -/
def State.txSend (s : State) (p : Nat) (f : List Byte) (ph : Nat) : State × (Stamp × Nat) :=
  let f := padFrame f
  let t := s.egressStamp p f ph
  let f := if s.rb (Reg.TBP_CFG p) 8 then insertOneStep f t.1 else f
  let s := (s.macCount p txFrames 1).macCount p txOctets (f.length + 4)
  (s.emit (.frame p (f ++ fcs f)), t)

/-- Whether a frame taken at port `p` is doubled with trailers (R151, R152). -/
def State.prpDoubles (s : State) (p : Nat) (f : List Byte) (noPrp : Bool) : Bool :=
  s.prpEn p && decide (p % 2 = 0) && !noPrp && (ptpAt f).isNone

/-- A frame of source `source` is doubled: LAN A's copy is sent at port `p`, LAN B's waits at port p + 1 among the frames of its
source there, one sequence number for the two. A copy whose port cannot send is discarded there (R138, R139, R151, R152). -/
def State.prpSend (s : State) (p source : Nat) (segment : Bool) (f : List Byte) (ph : Nat) : State × (Stamp × Nat) :=
  let q := p / 2
  let seq := s.rf (Reg.PRP_SEQ q) 0 16
  let s := s.setRf (Reg.PRP_SEQ q) 0 16 (seq + 1)
  let s := s.setTx (p + 1) (s.txOf (p + 1) ++ [⟨source, withRct f seq 11, true, segment⟩])
  if s.txReady p then (s.bump (Reg.PRP_CNT q 0)).txSend p (withRct f seq 10) ph else (s.txError p, (0, 0))

/-- Length of a frame on the wire, FCS and trailer counted. -/
def wireLen (f : List Byte) (rct : Bool) : Nat := if rct then (withRct f 0 10).length + 4 else (padFrame f).length + 4

/-- MAC_MAXLEN of port `p` holds a frame, and where the frame is doubled that of port p + 1 does as well: a doubled frame is sent on both
LANs or on neither (R141, R151). -/
def State.txFits (s : State) (p : Nat) (f : List Byte) (dbl : Bool) : Bool :=
  decide (wireLen f dbl ≤ s.macMaxLen p) && (!dbl || decide (wireLen f dbl ≤ s.macMaxLen (p + 1)))

/-- A waiting frame that port `p` does not send: TX_ERR, and ANA_CNT2 for an alarm record (R139, R262). -/
def State.txLost (s : State) (p source : Nat) : State :=
  let s := s.txError p
  if source = 0 && s.domOn pdSch then s.bump (Reg.ANA_CNT 2) else s

/-- The LAN B copy of a doubled frame leaves at its port, counted as sent on LAN B and where it is a segment as one (R142, R151). -/
def State.txCopy (s : State) (p : Nat) (x : TxFrame) (ph : Nat) : State :=
  let s := ((s.bump (Reg.PRP_CNT (p / 2) 1)).txSend p x.octets ph).1
  if x.segment then s.macCount p txSegments 1 else s

/-- The next waiting frame is sent at port `p`, or discarded (R139). -/
def State.txQueued (s : State) (p : Nat) (x : TxFrame) (ph : Nat) : State :=
  let s := s.setTx p ((s.txOf p).erase x)
  if x.copy then (if s.txReady p then s.txCopy p x ph else s.txLost p x.source)
  else
    let dbl := s.prpDoubles p x.octets false
    if !s.txFits p x.octets dbl then s.txLost p x.source
    else if dbl then
      let r := (s.prpSend p x.source false x.octets ph).1
      if x.source = 0 && !s.txReady p && s.domOn pdSch then r.bump (Reg.ANA_CNT 2) else r
    else if s.txReady p then (s.txSend p x.octets ph).1
    else s.txLost p x.source

/-! ### Ring descriptors (R140-R142, R372) -/

/-- The fields of a transmit descriptor. -/
structure TxDesc where
  len : Nat
  csum : Bool
  seg : Bool
  ts : Bool
  noPrp : Bool
  hdrLen : Nat
  ipOff : Nat
  l4Off : Nat
  mss : Nat
  tsid : Nat
  segment : Nat
deriving DecidableEq, Repr

def txDesc (d : List Byte) : TxDesc :=
  let c := le d 0x0C 4
  let o := le d 0x10 4
  let t := le d 0x14 4
  { len := le d 8 4 % 2 ^ 19, csum := c % 2 = 1, seg := c / 2 % 2 = 1, ts := c / 4 % 2 = 1, noPrp := c / 8 % 2 = 1
    hdrLen := c / 2 ^ 16 % 512, ipOff := o % 256, l4Off := o / 256 % 256, mss := o / 2 ^ 16 % 2 ^ 14
    tsid := t % 65536, segment := t / 65536 % 4 }

/-- A transmit buffer that cannot be read: it runs past the end of the host's address space, so that no request reaches all of it
(R372; DEDUCED, assumption 168). -/
def bufBeyond (desc : List Byte) : Bool := decide (2 ^ 64 < bufAddr desc + le desc 8 4 % 2 ^ 19)

/-- Segment `i` of `n`: header template, payload and position (R142); `v6` and `proto` tell the IP version and the protocol. -/
def segmentAs (v6 : Bool) (proto : Nat) (d : TxDesc) (buf : List Byte) (i n : Nat) : List Byte :=
  let hdr := buf.take d.hdrLen
  let pay := slice buf (d.hdrLen + i * d.mss) (min d.mss (d.len - d.hdrLen - i * d.mss))
  let f := hdr ++ pay
  let ip := d.ipOff
  let l4 := d.l4Off
  let l4n := d.hdrLen - l4 + pay.length
  let f :=
    if v6 then patch f (ip + 4) (beBytes 2 l4n)
    else
      let f := patch f (ip + 2) (beBytes 2 (l4 - ip + l4n))
      let f := patch f (ip + 4) (beBytes 2 ((be hdr (ip + 4) 2 + i) % 65536))
      withIpSum f ip (4 * (octet f ip % 16))
  if proto = 6 then
    let f := patch f (l4 + 4) (beBytes 4 ((be hdr (l4 + 4) 4 + i * d.mss) % 2 ^ 32))
    let fl := octet hdr (l4 + 13)
    let keep := (if i = 0 then 0x80 else 0) + (if i + 1 = n then 0x09 else 0)
    let f := patch f (l4 + 13) [byte ((fl &&& 0x76) ||| (fl &&& keep))]
    withL4Sum f ip l4 l4n v6 6
  else
    let f := patch f (l4 + 4) (beBytes 2 (8 + pay.length))
    if !v6 && be hdr (l4 + 6) 2 = 0 then f else withL4Sum f ip l4 l4n v6 17

/-- Segment `i` of an offload descriptor, whose template says the version and the protocol itself. -/
def segmentFrame (d : TxDesc) (buf : List Byte) (i n : Nat) : List Byte :=
  segmentAs (isV6 buf d.ipOff) (ipProto buf d.ipOff) d buf i n

/-- The refusal of a descriptor at port `p` (R141, R151, R372): 1 INVALID, 2 LEN; 0 where it is accepted. Without CSUM and SEG the whole
buffer is the payload. -/
def State.txRefusal (s : State) (p : Nat) (d : TxDesc) (buf : List Byte) : Nat :=
  let svc := d.csum || d.seg
  let payload := if svc then d.len - d.hdrLen else d.len
  let maxLen := s.macMaxLen p
  let proto := ipProto buf d.ipOff
  let dbl := s.prpDoubles p buf d.noPrp
  if (d.seg && d.ts) || payload = 0 || decide (262144 < payload) ||
      (svc && (decide (d.hdrLen < 14) || decide (256 < d.hdrLen) || decide (d.mss = 0) || decide (maxLen < d.hdrLen + d.mss + 4) ||
        (decide (proto ≠ 6) && decide (proto ≠ 17)))) then 1
  else if s.txFits p (if d.seg then segmentFrame d buf 0 1 else buf) dbl then 0
  else 2

/-- Number of segments of an offload descriptor. -/
def segCount (d : TxDesc) : Nat := if d.mss = 0 then 0 else (d.len - d.hdrLen + d.mss - 1) / d.mss

def State.segJob (s : State) (p : Nat) : Option SegJob := Tab.get (fun _ => none) s.segJobs p
def State.setSegJob (s : State) (p : Nat) (j : Option SegJob) : State :=
  { s with segJobs := Tab.put (fun _ => none) s.segJobs p j }

/-- Ring 2 + p returns its descriptor. -/
def State.txReturn (s : State) (p status extra : Nat) : State :=
  let r := 2 + p
  let s := s.setRingX r { s.ringX r with wip := 0 }
  s.ringReturn r ((s.headDesc r).take 28) (statusWord false false false status extra)

/-- STATUS of an offload descriptor: LINK_DOWN where a segment was discarded (R139). -/
def SegJob.status (j : SegJob) : Nat := if j.lost then 3 else 0

/-- One segment of the descriptor in progress at port `p` is sent, or discarded where the port cannot send (R139), and counted where it
is sent (R142); after the last the descriptor is returned. -/
def State.segSend (s : State) (p : Nat) (j : SegJob) (ph : Nat) : State :=
  match j.left with
  | [] => (s.setSegJob p none).txReturn p j.status j.sent
  | f :: rest =>
    let noPrp := (txDesc (s.headDesc (2 + p))).noPrp
    let ready := s.txReady p
    let s :=
      if s.prpDoubles p f noPrp then (s.prpSend p 3 true f ph).1
      else if ready then (s.txSend p f ph).1
      else s.txError p
    let s := if ready then s.macCount p txSegments 1 else s
    let j : SegJob := { left := rest, sent := j.sent + (if ready then 1 else 0), lost := j.lost || !ready }
    if rest.isEmpty then (s.setSegJob p none).txReturn p j.status j.sent else s.setSegJob p (some j)

/-- The next descriptor of ring 2 + p (R139-R142, R151, R152). -/
def State.txRing (s : State) (p ph : Nat) : State :=
  let r := 2 + p
  let desc := s.headDesc r
  let d := txDesc desc
  let buf := s.hostRead (bufAddr desc) d.len
  let ref := if bufBeyond desc then 7 else s.txRefusal p d buf
  let s := s.setRingX r { s.ringX r with wip := 1, episode := false }
  if ref ≠ 0 then (s.txError p).txReturn p ref 0
  else
    let dbl := s.prpDoubles p buf d.noPrp
    if !s.txReady p && !dbl && !d.seg then (s.txError p).txReturn p 3 0
    else if d.seg then
      s.segSend p { left := (List.range (segCount d)).map (fun i => segmentFrame d buf i (segCount d)), sent := 0 } ph
    else
      let f := if d.csum then withChecksums buf d.ipOff d.l4Off else buf
      let x := if dbl then s.prpSend p 3 false f ph else s.txSend p f ph
      let s := if d.ts && (!dbl || s.txReady p) then x.1.tsqPush p ⟨d.tsid, x.2.2, x.2.1⟩ else x.1
      s.txReturn p (if dbl && !s.txReady p then 3 else 0) 0

/-- MAC_TRANSMIT: port `p` sends its next frame, by the precedence of R138: the three first sources, then the segments of an offload
in progress, then the LAN B copies of LAN A's ring, then its own ring. -/
def State.macTransmit (s : State) (p ph : Nat) : State :=
  if !s.domOn (portDomain p) then s
  else
    let q := s.txOf p
    let pick := fun k => q.find? (fun x => x.source = k)
    match pick 0, pick 1, pick 2 with
    | some x, _, _ => s.txQueued p x ph
    | none, some x, _ => s.txQueued p x ph
    | none, none, some x => s.txQueued p x ph
    | none, none, none =>
      match s.segJob p with
      | some j => s.segSend p j ph
      | none =>
        match pick 3 with
        | some x => s.txQueued p x ph
        | none => if s.ringReady (2 + p) then s.txRing p ph else s

end Sys2Proof.Machine
end

