-- ==== Sys2Proof/Machine/FieldSegments.lean ====
section
/-! DEFINITION. The four 10BASE-T1S field segments (R143-R148, R159): queues, the transmit state machine, back-off and
reception. -/

namespace Sys2Proof.Machine

def State.segm (s : State) (g : Nat) : Segment := Tab.get (fun _ => {}) s.segments g
def State.setSegm (s : State) (g : Nat) (x : Segment) : State := { s with segments := Tab.put (fun _ => {}) s.segments g x }

/-- The counters of R159. -/
def State.t1sCount (s : State) (g j : Nat) : State := s.bump (Reg.T1Ss_CNT g j)

/-- TX_BUSY follows the state of the segment, and so does CARRIER while the unit sends or jams; the jam of a late collision and what
another node adds to it are shown at the read (`State.t1sView`). -/
def State.t1sShow (s : State) (g : Nat) : State :=
  let x := s.segm g
  (s.setRb (Reg.T1Ss_STATUS g) 0 (x.st = .send || x.st = .jam)).setRb (Reg.T1Ss_STATUS g) 1 (x.st ≠ .idle)

/-- The carrier that the unit itself last gave or heard has not ended yet: the jam of a late collision goes on. -/
def Segment.carries (x : Segment) (now : Nat) : Bool :=
  match x.quiet with
  | some t => decide (now < t)
  | none => false

/-- What a read of a T1S register gives: CARRIER of an enabled segment shows a jam that goes on, and the carrier of other nodes (R159;
assumption 167). -/
def State.t1sView (s : State) (off : Nat) : Word :=
  let g := (off - 0xA0100) / 0x40
  if 0xA0100 ≤ off && off = Reg.T1Ss_STATUS g && s.rb (Reg.T1Ss_CTRL g) 0 &&
      ((s.segm g).carries s.now || Config.t1sCarrier g s.now) then setBit (s.reg off) 0 true
  else s.reg off

/-- The descriptors of ring 10 whose status is known are returned, in ring order (R363). -/
def t1sReturnN : Nat → State → State
  | 0, s => s
  | fuel + 1, s =>
    match s.t1sTaken with
    | ⟨_, some st⟩ :: rest =>
      let s := { s with t1sTaken := rest }
      let s := s.setRingX 10 { s.ringX 10 with wip := rest.length }
      t1sReturnN fuel (s.ringReturn 10 ((s.headDesc 10).take 28) (statusWord false false false st 0))
    | _ => s

/-- Descriptor number `num` of ring 10 is finished with `status`. -/
def State.t1sFinish (s : State) (num status : Nat) : State :=
  let t := s.t1sTaken.map (fun e => if e.num = num then { e with status := some status } else e)
  t1sReturnN t.length { s with t1sTaken := t }

/-- The frame at the front of segment `g`'s queue is done with, and carrier ends at device time `quiet`: the next frame, if any, goes
to DEFER (R145). -/
def State.t1sNext (s : State) (g status quiet : Nat) : State :=
  let x := s.segm g
  match x.queue with
  | [] => s
  | j :: rest =>
    let s := s.setSegm g { x with queue := rest, n := 0, st := if rest.isEmpty then .idle else .defer, quiet := some quiet }
    (s.t1sShow g).t1sFinish j.num status

/-- T1S_DESCRIPTOR_TAKE: the next descriptor of ring 10 goes to the queue of its segment; while that is full no descriptor is taken
(R147). One that asks for CSUM, SEG or TS, or whose buffer is empty, is INVALID (R141, R372), one longer than a frame is LEN. -/
def State.t1sTake (s : State) : State :=
  let k := s.t1sTaken.length
  if !(s.domOn pdField && s.ringServed 10 && decide (s.ringState 10 = 1) && decide (k < s.ringHolds 10)) then s
  else
    let desc := s.descAt 10 k
    let d := txDesc desc
    let num := s.t1sNum
    let take := fun (s : State) =>
      let e : T1sTaken := ⟨num, none⟩
      let s : State := { s with t1sTaken := s.t1sTaken ++ [e], t1sNum := num + 1 }
      s.setRingX 10 { s.ringX 10 with wip := s.t1sTaken.length, episode := false }
    let x := s.segm d.segment
    if 4 ≤ x.queue.length then s
    else if d.csum || d.seg || d.ts || d.len = 0 then (take s).t1sFinish num 1
    else if 1518 < d.len then (take s).t1sFinish num 2
    else if bufBeyond desc then (take s).t1sFinish num 7
    else
      let s := take s
      let job : T1sJob := ⟨num, s.hostRead (bufAddr desc) d.len⟩
      (s.setSegm d.segment { x with
        queue := x.queue ++ [job], st := if x.st = SegState.idle then SegState.defer else x.st }).t1sShow d.segment

/-- One inter-packet gap, one slot time and one jam in fs, and the pattern of a jam (R144). -/
def t1sGapFs : Nat := 9600000000
def t1sSlotFs : Nat := 51200000000
def t1sJamFs : Nat := 3200000000
def t1sJamPattern : Word := 0xAAAAAAAA

/-- The inter-packet gap has passed since the carrier that the unit last sent or received ended (R144). -/
def Segment.gapPast (x : Segment) (now : Nat) : Bool :=
  match x.quiet with
  | some t => decide (t + t1sGapFs ≤ now)
  | none => true

/-- T1S_DEFER_END: no carrier for one inter-packet gap; the frame starts (R145). -/
def State.t1sDeferEnd (s : State) (g : Nat) : State :=
  let x := s.segm g
  if s.domOn pdField && s.rb (Reg.T1Ss_CTRL g) 0 && decide (x.st = SegState.defer) && x.gapPast s.now then
    (s.setSegm g { x with st := .send }).t1sShow g
  else s

/-- T1S_SEND_COMPLETE: the frame ends without collision (R145). -/
def State.t1sSendComplete (s : State) (g : Nat) : State :=
  let x := s.segm g
  if s.domOn pdField && decide (x.st = SegState.send) then
    match x.queue with
    | [] => s
    | j :: _ =>
      let f := padFrame j.octets
      ((s.emit (Output.t1s g (f ++ fcs f))).t1sCount g 0).t1sNext g 0 s.now
  else s

/-- One step of the back-off register: a Galois LFSR that shifts right, taps 0x8020_0003 (R146). -/
def lfsrStep (w : Word) : Word := if bit w 0 then (w >>> 1) ^^^ 0x80200003 else w >>> 1

def lfsrN : Nat → Word → Word
  | 0, w => w
  | n + 1, w => lfsrN n (lfsrStep w)

/-- A word rotated left. -/
def rotl (w : Word) (n : Nat) : Word := (w <<< (n % 32)) ||| (w >>> (32 - n % 32))

/-- The back-off draw of segment `g` after collision `n`: r, and the register after it (R146). -/
def State.t1sDraw (s : State) (g n : Nat) : Nat × Word :=
  let x := s.segm g
  let w := if x.seedPend then rotl (s.reg Reg.T1S_SEED) (8 * g) else x.lfsr
  let w := lfsrN 32 w
  (w.toNat % 2 ^ min n 10, w)

/-- T1S_COLLISION: a collision `bits` bit times after the start of the preamble; the jam goes out (R145). -/
def State.t1sCollision (s : State) (g bits : Nat) : State :=
  let x := s.segm g
  if !(s.domOn pdField && decide (x.st = SegState.send)) then s
  else
    let s := s.emit (.jam g t1sJamPattern)
    if 512 < bits then ((s.t1sCount g 3).setRb (Reg.T1Ss_STATUS g) 9 true).t1sNext g 4 (s.now + t1sJamFs)
    else ((s.t1sCount g 1).setSegm g { x with st := .jam, n := x.n + 1, until_ := s.now + t1sJamFs }).t1sShow g

/-- The jam of segment `g` is sent: back-off with a draw, or at the attempt limit the frame is discarded (R145, R146). -/
def State.t1sJamEnd (s : State) (g : Nat) : State :=
  let x := s.segm g
  if !(decide (x.st = SegState.jam) && decide (x.until_ ≤ s.now)) then s
  else if s.rf (Reg.T1Ss_CTRL g) 8 5 ≤ x.n then
    ((s.t1sCount g 2).flagRaise (Reg.T1Ss_STATUS g) 8 20 g).t1sNext g 5 x.until_
  else
    let d := s.t1sDraw g x.n
    (s.setSegm g { x with
      st := .backoff, lfsr := d.2, seedPend := false, quiet := some x.until_
      until_ := x.until_ + d.1 * t1sSlotFs }).t1sShow g

/-- The jams that are sent by now end (R145). -/
def State.t1sJams (s : State) : State := (((s.t1sJamEnd 0).t1sJamEnd 1).t1sJamEnd 2).t1sJamEnd 3

/-- T1S_BACKOFF_EXPIRY: the slot times drawn have passed (R145). -/
def State.t1sBackoffExpiry (s : State) (g : Nat) : State :=
  let x := s.segm g
  if s.domOn pdField && decide (x.st = SegState.backoff) && decide (x.until_ ≤ s.now) then
    (s.setSegm g { x with st := .defer }).t1sShow g
  else s

/-- The destination filter of a segment (R148). -/
def State.t1sAccepts (s : State) (g : Nat) (da : List Byte) : Bool :=
  let c := s.reg (Reg.T1Ss_CTRL g)
  bit c 2 || da = addrOctets (s.reg (Reg.T1Ss_ADDR_LO g)) (s.reg (Reg.T1Ss_ADDR_HI g)) ||
    (da = bcast && bit c 3) || (octet da 0 % 2 = 1 && da ≠ bcast && bit c 4)

/-- The carrier of a frame of another node ends on segment `g` (R144, R145). -/
def State.t1sHeard (s : State) (g : Nat) : State :=
  s.setSegm g { s.segm g with quiet := some (max s.now ((s.segm g).quiet.getD 0)) }

/-- T1S_RECEIVE: a frame with its FCS arrives on segment `g`; `full` says that the segment's buffer filled before its
last octet (R148). -/
def State.t1sReceive (s : State) (g : Nat) (bs : List Byte) (full : Bool) : State :=
  if !(s.domOn pdField && s.rb (Reg.T1Ss_CTRL g) 0) then s
  else if !s.rb (Reg.T1Ss_CTRL g) 1 then s.t1sHeard g
  else
    let s := s.t1sHeard g
    let f := bs.take (bs.length - 4)
    if bs.length < 64 || 1522 < bs.length || bs.drop (bs.length - 4) ≠ fcs f then s.t1sCount g 5
    else if !s.t1sAccepts g (f.take 6) then s
    else if full then (s.t1sCount g 6).flagRaise (Reg.T1Ss_STATUS g) 10 19 g
    else (s.t1sCount g 4).postFrame 11 f { port := g }

/-- Values that the T1S tables refuse (R146, R159). -/
def t1sRefuses (_s : State) (off : Nat) (v : Word) : Bool :=
  if off = Reg.T1S_SEED then decide (v = 0)
  else if (off - 0xA0100) % 0x40 = 0 then decide (fld v 8 5 = 0) || decide (16 < fld v 8 5)
  else false

/-- What a write of a T1S register does beside its fields: the seed loads every segment (R146). -/
def State.t1sHook (s : State) (off : Nat) : State :=
  if off = Reg.T1S_SEED then
    (List.range 4).foldl (fun s g => s.setSegm g { s.segm g with seedPend := true }) s
  else s

end Sys2Proof.Machine
end

