-- ==== Sys2Proof/Machine/Keys.lean ====
section
/-! DEFINITION. The key store, derivation and tamper response (R387-R416): slots, the operations of ring 20, consumers,
revocation, attestation, the version floor and the tamper watch. -/

namespace Sys2Proof.Machine

/-! ### Slots -/

def State.slot (s : State) (i : Nat) : KeySlot := Tab.get (fun _ => {}) s.keys.slots i

def State.setSlot (s : State) (i : Nat) (k : KeySlot) : State :=
  { s with keys := { s.keys with slots := Tab.put (fun _ => {}) s.keys.slots i k } }

/-- GLB_UID, 8 octets big-endian (R388). -/
def uidOctets : List Byte := beBytes 4 Config.uidHi.toNat ++ beBytes 4 Config.uidLo.toNat

/-- The octets of an ASCII string. -/
def ascii (t : String) : List Byte := t.toList.map (fun c => BitVec.ofNat 8 c.toNat)

/-- Context′ of R400: the context, TYPE and USAGE. -/
def ctxOf (ctx : List Byte) (type usage : Nat) : List Byte := ctx ++ beBytes 1 type ++ beBytes 4 usage

/-- The slot-integrity key (R388). -/
def itagKey : List Byte := kdf Config.rootSecret (ascii "HT9840-ITAG") (ctxOf uidOctets 1 0) 256

/-- The scalar a 384-bit derivation gives (R400). -/
def scalarOf (c : List Byte) : List Byte := beBytes 32 (beVal c % (p256N - 1) + 1)

/-- The first word of a slot's metadata (R392). -/
def KeySlot.word0 (k : KeySlot) : Nat :=
  k.state % 4 + 16 * (k.type % 8) + 256 * (k.origin % 8) + 2048 * k.retain.toNat + 4096 * (k.depth % 16) +
    65536 * (k.parent.getD 0 % 256) + 16777216 * k.parent.isSome.toNat

/-- Metadata octets 0x00-0x0F (R392). -/
def KeySlot.meta16 (k : KeySlot) : List Byte :=
  leBytes 4 k.word0 ++ leBytes 4 k.usage ++ leBytes 4 k.label ++ leBytes 4 k.gen

/-- The 64 octets of metadata (R392). -/
def KeySlot.metadata (k : KeySlot) : List Byte :=
  k.meta16 ++ (if k.pub.isEmpty then List.replicate 32 0 else sha256 k.pub) ++ List.replicate 16 0

/-- The slot with its integrity tag recomputed (R394). -/
def KeySlot.seal (k : KeySlot) : KeySlot := { k with tag := (hmac itagKey (k.material ++ k.meta16)).take 16 }

/-- An emptied slot: zeroised, with generation `gen` (R393). -/
def emptySlot (gen : Nat) : KeySlot := { gen := gen }

/-- Which types may hold usage bit `b` (R391): the mask of permitted type codes. -/
def usageTypes (b : Nat) : List Nat :=
  match b with
  | 0 => [1, 2]
  | 1 => [1]
  | 2 => [1]
  | 3 => [4]
  | 4 => [1]
  | 5 => [1]
  | 6 => [1]
  | 7 => [3]
  | 8 => [3, 4]
  | 9 => [3]
  | _ => []

/-- Whether usage bit `b` is in a usage set. -/
def hasUsage (usage b : Nat) : Bool := usage.testBit b

/-- Slot `i` lies in PD_AON's key RAM, which refuses every access while it is locked out (R124, R125, R389). -/
def State.slotLocked (s : State) (i : Nat) : Bool := s.rtc.lockout && (s.slot i).retain

/-- A consumer takes a copy of slot `i` for usage `b` (R391, R403, R404); none when the slot does not serve it, fails its tag, or cannot
be reached. -/
def State.keyFor (s : State) (i b : Nat) : Option KeySlot :=
  let k := s.slot i
  if s.domOn pdKey && !s.slotLocked i && decide (k.state = 1) && !k.upset && hasUsage k.usage b then some k else none

/-- A consumer's use that found no key is counted (KEY_CNT1). -/
def State.keyMiss (s : State) : State := s.bump (Reg.KEY_CNT 1)

/-- The cache entries that a slot verified are invalidated when it is no longer VALID (R71, R404). -/
def State.dropCache (s : State) (i : Nat) : State :=
  (List.range 4).foldl (fun s e =>
    if Tab.get (fun _ => 0) s.cacheSigner e = i + 1 then s.setRb Reg.IMG_CACHE e false else s) s

/-- The tag check of slot `i`: a VALID slot whose tag no longer fits becomes BAD with event 15 (R393, R394). -/
def State.tagCheck (s : State) (i : Nat) : State :=
  let k := s.slot i
  if s.domOn pdKey && !s.slotLocked i && decide (k.state = 1) && k.upset then
    (((s.setSlot i { k with state := 3 }).dropCache i).bump (Reg.KEY_CNT 2)).flagRaise Reg.KEY_STATUS 9 15 i
  else s

/-- A consumer finds slot `i` of no use: the tag is checked, and a slot that is not VALID, or that cannot be reached, is counted (R394,
R404, R416). -/
def State.keyFail (s : State) (i : Nat) : State :=
  let s := s.tagCheck i
  if s.domOn pdKey && (decide ((s.slot i).state ≠ 1) || s.slotLocked i) then s.keyMiss else s

/-! ### Start of the key store, and the random generator -/

/-- `n` octets of the DRBG, reseeded from the noise source after 2^20 requests (R396). -/
def State.random (s : State) (n : Nat) : List Byte × State :=
  let d := s.keys.drbg
  let d := if d.reseed < 2 ^ 20 then d else
    let kv := drbgUpdate (d.k, d.v) (Config.noise d.draws)
    { k := kv.1, v := kv.2, reseed := 0, draws := d.draws + 1 }
  let p := drbgGenerate d.k d.v n
  (p.1, { s with keys := { s.keys with drbg := { d with k := p.2.1, v := p.2.2, reseed := d.reseed + 1 } } })

/-- The tamper latch (R411). -/
def State.latch (s : State) : Bool := s.rb Reg.KEY_TAMPER_STATUS 8

/-- Slot 0, the attestation key, derived from the root secret (R388, R389). -/
def slot0 : KeySlot :=
  let d := scalarOf (kdf Config.rootSecret (ascii "HT9840-ATTEST") (ctxOf uidOctets 3 0x200) 384)
  { state := 1, type := 3, origin := 1, usage := 0x200, material := d, pub := p256Public (beVal d) }

/-- Slot 0 is derived (R389). -/
def State.deriveSlot0 (s : State) : State :=
  (s.setSlot 0 (({ slot0 with gen := (s.slot 0).gen } : KeySlot).seal)).setRb Reg.KEY_STATUS 0 true

/-- A fused image-verify slot as the key-store start loads it (R389, R402). -/
def State.fusedSlot (s : State) (i : Nat) : KeySlot :=
  match Config.fusedKey i with
  | none => {}
  | some p =>
    ({ state := if s.keys.revoked.testBit i then 2 else 1, type := 4, origin := 1, usage := 8,
       material := fit 64 p, pub := fit 64 p } : KeySlot).seal

/-- Every slot but 1-4 becomes EMPTY, its generation kept (R393, R410). -/
def State.zeroise (s : State) : State :=
  { s with keys := { s.keys with
      slots := s.keys.slots.filterMap (fun e =>
        if 1 ≤ e.1 && e.1 ≤ 4 then some e
        else if e.2.gen = 0 then none else some (e.1, emptySlot e.2.gen)) } }

/-- The effect of a tamper alarm on the image loader (R81): entries 1-3 are invalid, and a boot under way ends with code 11. -/
def State.tamperImage (s : State) : State :=
  let s := ((s.setRb Reg.IMG_CACHE 1 false).setRb Reg.IMG_CACHE 2 false).setRb Reg.IMG_CACHE 3 false
  if s.rb Reg.IMG_LOAD_STATUS 0 then
    (((s.setRb Reg.IMG_LOAD_STATUS 0 false).setRf Reg.IMG_LOAD_STATUS 8 8 11).setRf Reg.IMG_LOAD_STATUS 16 6 63).raise 1 0
  else s

/-- The key store starts: the slots of PD_KEY are empty, slots 1-4 come from the fuses with their revocations, pending
tamper steps are taken with their effect on the loader, and slot 0 is derived unless LATCH is 1 (R389, R402, R410, R452). -/
def State.keyStart (s : State) : State :=
  let s := { s with keys := { s.keys with slots := s.keys.slots.filterMap (fun (e : Nat × KeySlot) =>
    if !e.2.retain then none
    else if e.2.state ≠ 0 then some e
    else if e.2.gen = 0 then none else some (e.1, emptySlot e.2.gen)) } }
  let s := if s.keys.pending then { s.zeroise with keys := { s.zeroise.keys with pending := false } }.tamperImage else s
  let s := (((s.setSlot 1 (s.fusedSlot 1)).setSlot 2 (s.fusedSlot 2)).setSlot 3 (s.fusedSlot 3)).setSlot 4 (s.fusedSlot 4)
  let d := s.keys.drbg.draws
  let kv := drbgSeed (Config.noise d)
  let s := { s with keys := { s.keys with drbg := { k := kv.1, v := kv.2, reseed := 0, draws := d + 1 } } }
  if s.latch then s.setRb Reg.KEY_STATUS 0 false else s.deriveSlot0

/-! ### Operations of ring 20 (R395-R398) -/

/-- One of several causes whose order the spec does not state: the only one, or one that a free value chooses. -/
def State.pick (s : State) (causes : List (Bool × Nat)) : Nat × State :=
  match (causes.filter (fun c => c.1)).map (fun c => c.2) with
  | [] => (0, s)
  | [c] => (c, s)
  | c :: cs =>
    let p := s.draw 16
    ((c :: cs).getD (p.1 % (cs.length + 1)) c, p.2)

/-- The fields of a ring-20 descriptor (R395). -/
structure KeyReq where
  op : Nat
  any : Bool
  fromRoot : Bool
  slot : Nat
  aux : Nat
  tag : Nat
  inAddr : Nat
  inLen : Nat
  outLen : Nat
  outAddr : Nat
deriving DecidableEq, Repr

def keyReq (d : List Byte) : KeyReq :=
  { op := octet d 0 % 16, any := (octet d 0).testBit 4, fromRoot := (octet d 0).testBit 5
    slot := octet d 1, aux := octet d 2, tag := le d 4 2, inAddr := le d 8 8
    inLen := le d 16 2, outLen := le d 18 2, outAddr := le d 20 8 }

/-- What an operation leaves: its result code, the slot acted on, its output octets, and the state. -/
structure KeyOut where
  result : Nat
  slot : Nat
  out : List Byte
  st : State

/-- The target slot of a creation (R397): SLOT, or the lowest EMPTY slot of the range searched. -/
def State.target (s : State) (q : KeyReq) (retain : Bool) : Option Nat :=
  if q.any then
    let free (i : Nat) : Bool := decide ((s.slot i).state = 0)
    let low := (List.range 27).map (· + 5)
    let high := (List.range 224).map (· + 32)
    if retain then low.find? free else (high ++ low).find? free
  else some q.slot

/-- Why a target slot is refused: 1 FULL, 2 SLOT (R398). -/
def State.targetCauses (s : State) (q : KeyReq) (retain : Bool) : List (Bool × Nat) :=
  match s.target q retain with
  | none => [(true, 1)]
  | some i => [(i < 5 || decide ((s.slot i).state ≠ 0) || (retain && decide (31 < i)), 2)]

/-- TYPE causes: an unlisted type, or one a requested usage does not permit (R391, R398). -/
def typeBad (type usage : Nat) : Bool :=
  decide (type = 0) || decide (4 < type) ||
    (List.range 10).any (fun b => hasUsage usage b && !(usageTypes b).contains type)

/-- Octets of material by type (R397). -/
def materialLen (type : Nat) : Nat := if type = 2 then 16 else if type = 4 then 64 else 32

/-- A created slot is written (R393, R397). -/
def State.create (s : State) (q : KeyReq) (pb mat : List Byte) (origin depth : Nat) (parent : Option Nat) : KeyOut :=
  let retain := (octet pb 1).testBit 0
  let i := (s.target q retain).getD q.slot
  let type := octet pb 0
  let pub := if type = 3 then p256Public (beVal mat) else if type = 4 then mat else []
  let k : KeySlot :=
    { state := 1, type := type, origin := origin, retain := retain, depth := depth, parent := parent
      usage := be pb 4 4, label := be pb 8 4, gen := (s.slot i).gen, material := mat, pub := pub }
  { result := 0, slot := i, out := [], st := s.setSlot i k.seal }

/-- New random material of a type (R396). -/
def State.newMaterial (s : State) (type : Nat) : List Byte × State :=
  if type = 3 then
    let p := s.random 48
    (scalarOf p.1, p.2)
  else s.random (materialLen type)

/-- The cause of a request that must end with one of the causes in `must` where one holds, and else with one of `causes` (R401, R411). -/
def State.pickMust (s : State) (must causes : List (Bool × Nat)) : Nat × State :=
  s.pick (if must.any (fun c => c.1) then must else causes)

/-- OP 1 GENERATE. -/
def State.opGenerate (s : State) (q : KeyReq) : KeyOut :=
  let pb := s.hostRead q.inAddr 16
  let usage := be pb 4 4
  let retain := (octet pb 1).testBit 0
  let p := s.pick ([(decide (q.inLen ≠ 16), 8), (!s.rb Reg.KEY_POLICY 1, 5), (typeBad (octet pb 0) usage || octet pb 0 = 4, 4),
    (hasUsage usage 9 || decide (2 ^ 10 ≤ usage), 3)] ++ s.targetCauses q retain)
  if p.1 ≠ 0 then ⟨p.1, q.slot, [], p.2⟩
  else
    let m := p.2.newMaterial (octet pb 0)
    m.2.create q pb m.1 3 0 none

/-- OP 2 DERIVE (R400, R401). -/
def State.opDerive (s : State) (q : KeyReq) : KeyOut :=
  let pb := s.hostRead q.inAddr 16
  let type := octet pb 0
  let usage := be pb 4 4
  let retain := (octet pb 1).testBit 0
  let ll := octet pb 12
  let cl := octet pb 13
  let par := s.slot q.aux
  let depth := if q.fromRoot then 1 else par.depth + 1
  let p := s.pickMust [(q.fromRoot && s.latch, 11),
      (hasUsage usage 3 || hasUsage usage 9 || (retain && !q.fromRoot && !par.retain), 3)]
    ([(decide (q.inLen ≠ 16 + ll + cl) || decide (64 < ll) || decide (64 < cl), 8),
    (q.fromRoot && !s.rb Reg.KEY_POLICY 2, 5),
    (!q.fromRoot && decide (par.state ≠ 1), 6),
    (!q.fromRoot && decide (par.state = 1) && !hasUsage par.usage 5, 3),
    (typeBad type usage || decide (type = 4), 4),
    (decide (2 ^ 10 ≤ usage), 3),
    (decide (8 < depth), 10)] ++ s.targetCauses q retain)
  if p.1 ≠ 0 then ⟨p.1, q.slot, [], p.2⟩
  else
    let label := s.hostRead (q.inAddr + 16) ll
    let ctx := s.hostRead (q.inAddr + 16 + ll) cl
    let key := if q.fromRoot then Config.rootSecret else par.material
    let label := if q.fromRoot then ascii "HOST/" ++ label else label
    let bits := if type = 3 then 384 else 8 * materialLen type
    let k := kdf key label (ctxOf ctx type usage) bits
    p.2.create q pb (if type = 3 then scalarOf k else k) (if q.fromRoot then 2 else 4) depth
      (if q.fromRoot then none else some q.aux)

/-- OP 3 IMPORT. -/
def State.opImport (s : State) (q : KeyReq) : KeyOut :=
  let pb := s.hostRead q.inAddr 16
  let type := octet pb 0
  let usage := be pb 4 4
  let retain := (octet pb 1).testBit 0
  let mat := s.hostRead (q.inAddr + 16) (materialLen type)
  let bad := (type = 3 && (beVal mat = 0 || p256N ≤ beVal mat)) || (type = 4 && !p256On (be mat 0 32) (be mat 32 32))
  let p := s.pick ([(decide (q.inLen ≠ 16 + materialLen type), 8), (!s.rb Reg.KEY_POLICY 0, 5),
    (hasUsage usage 3 && !s.rb Reg.KEY_POLICY 4, 5), (typeBad type usage, 4),
    (hasUsage usage 9 || decide (2 ^ 10 ≤ usage), 3), (bad, 7)] ++ s.targetCauses q retain)
  if p.1 ≠ 0 then ⟨p.1, q.slot, [], p.2⟩
  else p.2.create q pb mat 5 0 none

/-- Whether a slot has a child in VALID. -/
def State.hasChild (s : State) (i : Nat) : Bool :=
  s.keys.slots.any (fun e => decide (e.2.state = 1) && decide (e.2.parent = some i))

/-- OP 4 FREE (R393). -/
def State.opFree (s : State) (q : KeyReq) : KeyOut :=
  let k := s.slot q.slot
  let p := s.pick [(q.slot < 5, 2), (s.hasChild q.slot, 2), (decide (5 ≤ q.slot) && decide (k.state = 0), 6)]
  if p.1 ≠ 0 then ⟨p.1, q.slot, [], p.2⟩
  else ⟨0, q.slot, [], (p.2.setSlot q.slot (emptySlot ((k.gen + 1) % 2 ^ 32))).dropCache q.slot⟩

/-- The slots of a set and their descendants, `n` levels down (R402; the depth is at most 8). -/
def State.subtree (s : State) : Nat → List Nat → List Nat
  | 0, is => is
  | n + 1, is =>
    s.subtree n (is ++ (s.keys.slots.filter (fun e =>
      decide (e.2.state ≠ 0) && !is.contains e.1 && (match e.2.parent with | some p => is.contains p | none => false))).map (·.1))

/-- OP 5 REVOKE (R402). -/
def State.opRevoke (s : State) (q : KeyReq) : KeyOut :=
  let p := s.pick [(q.slot = 0, 2), (q.slot ≠ 0 && decide ((s.slot q.slot).state ≠ 1), 6)]
  if p.1 ≠ 0 then ⟨p.1, q.slot, [], p.2⟩
  else
    let is := (p.2.subtree 9 [q.slot]).filter (fun i => decide ((p.2.slot i).state = 1))
    let s := is.foldl (fun s i => (s.setSlot i ({ s.slot i with state := 2 } : KeySlot).seal).dropCache i) p.2
    let s := if q.slot ≤ 4 then
        { s with keys := { s.keys with revoked := s.keys.revoked ||| 2 ^ q.slot } } else s
    ⟨0, q.slot, [], s.flagRaise Reg.KEY_STATUS 10 17 q.slot⟩

/-- Causes common to the uses of a slot: 6 BADSLOT, 3 USAGE. -/
def State.useCauses (s : State) (i b : Nat) : List (Bool × Nat) :=
  let k := s.slot i
  [(decide (k.state ≠ 1), 6), (decide (k.state = 1) && !hasUsage k.usage b, 3)]

/-- OP 6 MAC. -/
def State.opMac (s : State) (q : KeyReq) : KeyOut :=
  let p := s.pick ([(q.inLen = 0 || decide (q.outLen < 32), 8)] ++ s.useCauses q.slot 6)
  if p.1 ≠ 0 then ⟨p.1, q.slot, [], p.2⟩
  else ⟨0, q.slot, hmac (s.slot q.slot).material (s.hostRead q.inAddr q.inLen), p.2⟩

/-- OP 7 MAC_VERIFY. -/
def State.opMacVerify (s : State) (q : KeyReq) : KeyOut :=
  let m := s.hostRead q.inAddr q.inLen
  let ok := decide (hmac (s.slot q.slot).material (m.drop 32) = m.take 32)
  let p := s.pick ([(decide (q.inLen ≤ 32), 8)] ++ s.useCauses q.slot 6 ++
    [(decide (32 < q.inLen) && (s.slot q.slot).state = 1 && hasUsage (s.slot q.slot).usage 6 && !ok, 7)])
  ⟨p.1, q.slot, [], p.2⟩

/-- OP 8 SIGN. -/
def State.opSign (s : State) (q : KeyReq) : KeyOut :=
  let p := s.pick ([(q.inLen ≠ 32 || decide (q.outLen < 64), 8)] ++ s.useCauses q.slot 7)
  if p.1 ≠ 0 then ⟨p.1, q.slot, [], p.2⟩
  else ⟨0, q.slot, ecdsaSign (beVal (s.slot q.slot).material) (s.hostRead q.inAddr 32), p.2⟩

/-- OP 9 VERIFY. -/
def State.opVerify (s : State) (q : KeyReq) : KeyOut :=
  let m := s.hostRead q.inAddr 96
  let k := s.slot q.slot
  let ok := ecdsaVerify k.pub (m.take 32) (m.drop 32)
  let p := s.pick ([(decide (q.inLen ≠ 96), 8)] ++ s.useCauses q.slot 8 ++
    [(q.inLen = 96 && k.state = 1 && hasUsage k.usage 8 && !ok, 7)])
  ⟨p.1, q.slot, [], p.2⟩

/-- OP 10 PUBLIC. -/
def State.opPublic (s : State) (q : KeyReq) : KeyOut :=
  let k := s.slot q.slot
  let p := s.pick [(decide (q.outLen < 64), 8), (decide (k.state ≠ 1), 6),
    (decide (k.state = 1) && k.type ≠ 3 && k.type ≠ 4, 4)]
  if p.1 ≠ 0 then ⟨p.1, q.slot, [], p.2⟩ else ⟨0, q.slot, fit 64 k.pub, p.2⟩

/-- Octets 0-135 of the statement about a slot (R406). -/
def State.statement (s : State) (i : Nat) (nonce : List Byte) : List Byte :=
  let k := s.slot i
  let flags := 1 + 2 * k.retain.toNat + 4 * k.parent.isSome.toNat
  beBytes 4 0x4B415454 ++ beBytes 2 1 ++ beBytes 2 0x9840 ++ beBytes 1 (s.rf Reg.GLB_ID 8 8) ++
    beBytes 1 i ++ beBytes 1 k.type ++ beBytes 1 k.origin ++ beBytes 4 k.usage ++ uidOctets ++ beBytes 4 k.gen ++
    beBytes 4 (s.reg Reg.KEY_ATT_CNT).toNat ++ fit 32 nonce ++ fit 64 k.pub ++
    beBytes 1 (k.parent.getD 0) ++ beBytes 1 k.depth ++ beBytes 2 flags ++
    beBytes 1 (s.rf Reg.KEY_TAMPER_CNT 0 8) ++ [0, 0, 0]

/-- OP 11 ATTEST (R406, R407). -/
def State.opAttest (s : State) (q : KeyReq) : KeyOut :=
  let p := s.pickMust [(s.latch, 11)] [(q.inLen ≠ 32 || decide (q.outLen < 200), 8),
    (decide ((s.slot q.slot).state ≠ 1), 6), (decide ((s.slot 0).state ≠ 1), 6)]
  if p.1 ≠ 0 then ⟨p.1, q.slot, [], p.2⟩
  else
    let s := p.2.bump Reg.KEY_ATT_CNT
    let m := s.statement q.slot (s.hostRead q.inAddr 32)
    ⟨0, q.slot, m ++ ecdsaSign (beVal (s.slot 0).material) (sha256 m), s⟩

/-- OP 12 RANDOM. -/
def State.opRandom (s : State) (q : KeyReq) : KeyOut :=
  if q.outLen = 0 || 4096 < q.outLen then ⟨8, q.slot, [], s⟩
  else
    let p := s.random q.outLen
    ⟨0, q.slot, p.1, p.2⟩

/-- The completion of a ring-20 request: its output and its ring-21 descriptor, then the ring-20 descriptor; event 16
under the threshold rules of ring 21 (R366, R395). -/
def State.keyComplete (s : State) (q : KeyReq) (d : List Byte) (o : KeyOut) : State :=
  let idx := s.ringHead 20
  let s := (o.st.hostWrite q.outAddr o.out).bump (Reg.KEY_CNT 0)
  let body := leBytes 2 idx ++ leBytes 2 q.tag ++ leBytes 4 (o.result + 256 * o.slot) ++ leBytes 4 o.out.length ++
    leBytes 4 (s.slot o.slot).gen ++ List.replicate 12 0
  let s := s.ringReturn 21 body (statusWord false false false 0 0)
  s.ringReturn 20 (d.take 28) (statusWord false false false 0 0)

/-- The slots whose keys an operation takes a copy of: their tags are checked first (R394). -/
def KeyReq.uses (q : KeyReq) : List Nat :=
  if q.op = 2 then (if q.fromRoot then [] else [q.aux])
  else if q.op = 11 then [0, q.slot]
  else if 6 ≤ q.op && q.op ≤ 10 then [q.slot]
  else []

/-- The request at the front of ring 20 is served, when its OP is `op`: the key store serves ring 20 while KEY_CTRL.EN is 1
and PD_KEY is on, and waits while ring 21 holds no descriptor (R362, R395), or while PD_AON, which holds retained slots, revocations
and the statement count, refuses accesses (R124, R125; DESIGN CHOICE, assumption 166). -/
def State.keyServe (s : State) (op : Nat) (f : State → KeyReq → KeyOut) : State :=
  if s.domOn pdKey && s.rb Reg.KEY_CTRL 0 && s.ringReady 20 && !s.rtc.lockout then
    let d := s.headDesc 20
    let q := keyReq d
    if q.op ≠ op then s
    else if s.ringReady 21 then
      let s := q.uses.foldl State.tagCheck s
      s.keyComplete q d (f s q)
    else s.ringExhaust 21 false
  else s

/-! ### Integrity check, tamper, floor -/

/-- Upsets have changed what the VALID slots among `is` store. -/
def State.upsetSlots (s : State) (is : List Nat) : State :=
  (List.range 256).foldl (fun s i =>
    if is.contains i && (s.slot i).state = 1 then s.setSlot i { s.slot i with upset := true } else s) s

/-- The second of the periodic check passes (R394), with the slots that upsets have changed since the last one: every VALID slot is
checked while SCRUB_EN is 1; retained ones not while PD_AON refuses accesses (R124). -/
def State.keyScrub (s : State) (upset : List Nat) : State :=
  let s := s.upsetSlots upset
  if s.domOn pdKey && s.rb Reg.KEY_CTRL 1 then
    (List.range 256).foldl (fun s i => s.tagCheck i) (s.bump (Reg.KEY_CNT 3))
  else s

/-- The enabled tamper sources that are active now: TAMPER_IN[3:0], then the mesh in bit 4 (R409). -/
def State.tamperActive (s : State) : Nat :=
  let cfg := s.reg Reg.KEY_TAMPER_CFG
  ((s.keys.pins ^^^ fld cfg 4 4) &&& fld cfg 0 4) % 16 + (if s.keys.mesh && bit cfg 12 then 16 else 0)

/-- The operation under way on ring 20 ends with TAMPER and writes no output (R410, R412). -/
def State.keyTampered (s : State) : State :=
  if s.rb Reg.KEY_CTRL 0 && s.ringReady 20 && s.ringReady 21 then
    let d := s.headDesc 20
    s.keyComplete (keyReq d) d ⟨9, (keyReq d).slot, [], s⟩
  else s

/-- A source becomes active (R410): `bitNo` is its bit of CAUSE, 16 + n for TAMPER_IN[n] and 20 for the mesh; `op` tells that an
operation of ring 20 is under way. -/
def State.tamperHit (s : State) (op : Bool) (bitNo : Nat) : State :=
  let was := s.latch
  let s := (s.setRb Reg.KEY_TAMPER_STATUS bitNo true).setRf Reg.KEY_TAMPER_CNT 0 8
    (satAdd 255 (s.rf Reg.KEY_TAMPER_CNT 0 8) 1)
  if was then s
  else
    let s := s.setRb Reg.KEY_TAMPER_STATUS 8 true
    let s :=
      if s.domOn pdKey then
        let s := (s.zeroise.setRb Reg.KEY_STATUS 0 false).tamperImage
        if op then s.keyTampered else s
      else
        { s with keys := { s.keys with pending := true, slots := s.keys.slots.filterMap (fun e =>
            if e.2.retain && e.2.state ≠ 0 then some (e.1, { emptySlot e.2.gen with retain := true }) else some e) } }
    if s.rtc.onVbat || s.pwr.start.isSome then { s with keys := { s.keys with owed14 := true } }
    else s.flagRaise Reg.KEY_STATUS 8 14 0

/-- Sources newly active against the set `before` act in order of their number. -/
def State.tamperNew (s : State) (op : Bool) (before : Nat) : State :=
  let now := s.tamperActive
  let s := s.setRf Reg.KEY_TAMPER_STATUS 0 5 now
  (List.range 5).foldl (fun s i => if now.testBit i && !before.testBit i then s.tamperHit op (16 + i) else s) s

/-- The tamper watch sees new levels at TAMPER_IN[3:0], held for `us` µs, and the state of the mesh (R409). -/
def State.tamperSee (s : State) (pins us : Nat) (mesh op : Bool) : State :=
  let before := s.tamperActive
  let pins := if s.rf Reg.KEY_TAMPER_CFG 8 4 ≤ us then pins % 16 else s.keys.pins
  ({ s with keys := { s.keys with pins := pins, mesh := mesh } }).tamperNew op before

/-- Values that the KEY register tables refuse (R408, R413, R416). -/
def keyRefuses (s : State) (off : Nat) (v : Word) : Bool :=
  if off = Reg.KEY_FLOOR then decide (v.toNat < (s.reg Reg.KEY_FLOOR).toNat)
  else if off = Reg.KEY_TAMPER_CLR then
    bit v 0 && (decide (fld v 16 16 ≠ 0x7A3C) || decide (s.tamperActive ≠ 0))
  else if off = Reg.KEY_TAMPER_CFG then
    let o := s.reg Reg.KEY_TAMPER_CFG
    bit o 31 && ((fld o 0 4 &&& fld v 0 4 ≠ fld o 0 4) || (bit o 12 && !bit v 12) || !bit v 31)
  else false

/-- What a write of a KEY register does beside its plain fields (R409, R413). `old` is the register before the write. -/
def State.keyHook (s : State) (off : Nat) (old v : Word) : State :=
  if off = Reg.KEY_TAMPER_CLR then
    if bit v 0 then (s.setRb Reg.KEY_TAMPER_STATUS 8 false).deriveSlot0 else s
  else if off = Reg.KEY_TAMPER_CFG then s.tamperNew false (s.setReg off old).tamperActive
  else s

/-- KEY_FLOOR is raised to a full image's VERSION while FLOOR_AUTO is 1 (R408). -/
def State.floorAuto (s : State) (version : Nat) : State :=
  if s.rb Reg.KEY_POLICY 3 && !s.rtc.lockout && decide ((s.reg Reg.KEY_FLOOR).toNat < version) then s.setReg Reg.KEY_FLOOR (word version) else s

/-- What the computed KEY registers read: slot counts, LATCH mirror, REVOKED and BAD bits (R416). -/
def State.keyView (s : State) (off : Nat) : Word :=
  let bits (k st : Nat) : Nat :=
    (List.range 32).foldl (fun a b => a + (if (s.slot (32 * k + b)).state = st then 2 ^ b else 0)) 0
  if off = Reg.KEY_STATUS then setBit (s.reg off) 1 s.latch
  else if off = Reg.KEY_SLOTS then
    word ((s.keys.slots.filter (fun e => e.2.state = 1)).length +
      65536 * (251 - (s.keys.slots.filter (fun e => decide (5 ≤ e.1) && e.2.state ≠ 0)).length))
  else if 0x170040 ≤ off && off < 0x170060 then word (bits ((off - 0x170040) / 4) 2)
  else if 0x170060 ≤ off && off < 0x170080 then word (bits ((off - 0x170060) / 4) 3)
  else s.reg off

/-- A PD_AON power-on reset at the key store: retained slots, the floor, the statement count and revocations are lost, and
the latch is set with CAUSE_POWER (R409, R412, R450). -/
def State.keyAonPor (s : State) : State :=
  let s := (s.resetRegs 0x17000C 0x170010).resetRegs 0x170014 0x170020
  let s := s.resetRegs 0x170028 0x17002C
  { s with keys := { s.keys with
      slots := s.keys.slots.filter (fun e => !e.2.retain), revoked := 0, pending := false, owed14 := true } }

end Sys2Proof.Machine
end

