-- ==== Sys2Proof/Machine/Seats.lean ====
section
/-! DEFINITION. Seats and forms as the intake parser, phasor estimation and the roll call share them (R176, R181-R184, R191,
R353): descriptors, reporting instants, form parameters, member indices, bells. -/

namespace Sys2Proof.Machine

/-! ### Reporting rates and instants (R181-R183) -/

/-- Frames per second by RATE code (R181). -/
def rateOf (code : Nat) : Nat := [10, 12, 15, 20, 25, 30, 50, 60, 100, 120, 200, 240].getD code 0

/-- n(k): nanoseconds of instant k within its second at `r` frames per second (R182). -/
def instNs (r k : Nat) : Nat := if r = 0 then 0 else (k * 1000000000 + r / 2) / r

/-- The time of an instant at `r` frames per second. -/
def Instant.time (i : Instant) (r : Nat) : Stamp := mkStamp i.sec (instNs r i.k)

/-- The instant index I at `r` frames per second (R182). -/
def Instant.index (i : Instant) (r : Nat) : Nat := i.sec * r + i.k

/-- SEQ32 (R182). -/
def Instant.seq32 (i : Instant) (r : Nat) : Nat := i.index r % 2 ^ 32

/-- The index of the instant nearest to `ns` at `r` frames per second, `r` for the next second's first. -/
def nearestIndex (r ns : Nat) : Nat := (ns * r + 500000000) / 1000000000

/-- The instant a carried time (s, ns) belongs to at `r` frames per second (R183). -/
def instantOf (r sec ns : Nat) : Instant := if nearestIndex r ns = r then ⟨sec + 1, 0⟩ else ⟨sec, nearestIndex r ns⟩

/-- The deviation of a carried time from its instant, in ns (R183). -/
def deviationOf (r ns : Nat) : Int :=
  if nearestIndex r ns = r then (ns : Int) - 1000000000 else (ns : Int) - (instNs r (nearestIndex r ns) : Int)

/-- Order of instants by time; the rates of different seconds do not matter to it. -/
def Instant.lt (a b : Instant) : Bool := decide (a.sec < b.sec) || (decide (a.sec = b.sec) && decide (a.k < b.k))
def Instant.le (a b : Instant) : Bool := a = b || a.lt b

/-! ### Form parameters (R187, R195, R208) -/

/-- The parameters that the registers of form `f` hold. -/
def State.regPar (s : State) (f : Nat) : FormPar :=
  let c := s.reg (Reg.FORM_CTRL f)
  let w := s.reg (Reg.FORM_WINDOW f)
  { tb := fld c 0 2, relEvt := bit c 2, slipEvt := bit c 3, rate := fld c 4 4, depth := fld c 8 4, ldepth := fld c 12 4
    slot := fld c 16 4, capu := fld c 20 9, lateRec := bit c 29, d := s.rf (Reg.FORM_DEADLINE f) 0 22
    tardy := fld w 0 16, tol := fld w 16 11, store := s.pair (Reg.FORM_STORE_LO f) }

def State.form (s : State) (f : Nat) : Form := Tab.get (fun _ => {}) s.forms f
def State.setForm (s : State) (f : Nat) (x : Form) : State := { s with forms := Tab.put (fun _ => {}) s.forms f x }

/-- FORMf_STATUS.STATE: 0 STOPPED, 1 RUNNING, 2 PENDING. -/
def State.formState (s : State) (f : Nat) : Nat := s.rf (Reg.FORM_STATUS f) 10 2

/-- The parameters that apply to TAI second `sec` of a form. -/
def Form.parAt (x : Form) (sec : Nat) : FormPar :=
  match x.pars.find? (fun e => decide (e.1 ≤ sec)) with
  | some e => e.2
  | none => (x.pars.getLast?.map (fun e => e.2)).getD {}

/-- Those, with the staged values of a RETIME from S on (R183). -/
def Form.parMap (x : Form) (sec : Nat) : FormPar :=
  match x.staged with
  | some (at_, p) => if at_ ≤ sec then p else x.parAt sec
  | none => x.parAt sec

/-- The parameters of form `f` now: committed ones, or of a STOPPED form what its registers hold. -/
def State.formPar (s : State) (f : Nat) : FormPar :=
  if s.formState f = 0 then s.regPar f
  else match (s.form f).pars with
    | e :: _ => e.2
    | [] => s.regPar f

def FormPar.cap (p : FormPar) : Nat := 64 * p.capu
def FormPar.r (p : FormPar) : Nat := rateOf p.rate

/-- SLOTS_BASE, IMAGE_BYTES and LEDGER_BYTES (R191, R194). -/
def FormPar.slotsBase (p : FormPar) : Nat := roundUp 64 (64 + p.cap / 8 + 2 * p.cap)
def FormPar.imageBytes (p : FormPar) : Nat := roundUp 4096 (p.slotsBase + p.cap * 64 * p.slot)
def FormPar.ledgerBytes (p : FormPar) : Nat := roundUp 64 (16 + p.cap / 4)
def FormPar.ledgerBase (p : FormPar) : Nat := p.store + 2 ^ p.depth * p.imageBytes
def FormPar.storeBytes (p : FormPar) : Nat := 2 ^ p.depth * p.imageBytes + 2 ^ p.ldepth * p.ledgerBytes

/-- OPENMAX (R187) and the least number of ledger entries (R195). -/
def FormPar.openMax (p : FormPar) : Nat := ((p.d + 1000 + p.tol) * p.r + 999999) / 1000000
def FormPar.ledgerMin (p : FormPar) : Nat := ((p.d + 1000 + p.tol + 1000 * p.tardy) * p.r + 999999) / 1000000 + 2

/-- The deadline of an instant: its time plus D (R188). -/
def FormPar.deadline (p : FormPar) (i : Instant) : Stamp := i.time p.r + p.d * 1000 * stampNsUnit

/-- HBM3 offset of the image of instant `i` (R191), and of its ledger entry (R194). -/
def FormPar.imageAt (p : FormPar) (i : Instant) : Nat := p.store + (i.index p.r % 2 ^ p.depth) * p.imageBytes
def FormPar.ledgerAt (p : FormPar) (i : Instant) : Nat := p.ledgerBase + (i.index p.r % 2 ^ p.ldepth) * p.ledgerBytes

/-- A whole number of seconds not below a stamp. -/
def ceilSec (t : Stamp) : Nat := (t + stampSecUnit - 1) / stampSecUnit

/-! ### Members (R184) -/

/-- The length of a frame record (R192). -/
def recordLen (nph nan ndg : Nat) : Nat := 48 + 8 * nph + 4 * nan + 2 * ndg

/-- Whether index `m` is in quarantine: until the form has released 2^LDEPTH rolls since the removal. -/
def State.quarantined (s : State) (f m : Nat) : Bool :=
  let x := s.form f
  x.quarantine.any (fun e => decide (e.1 = m) && decide (x.releases < e.2 + 2 ^ (s.formPar f).ldepth))

/-- The seat code of member `m`, if it has one. -/
def State.memberOf (s : State) (f m : Nat) : Option Nat :=
  match Tab.get (fun _ => 0) (s.form f).members m with
  | 0 => none
  | c + 1 => some c

/-- The lowest free index of form `f` for a record of `len` octets; none where the binding is refused. -/
def State.freeMember (s : State) (f len : Nat) : Option Nat :=
  let p := s.formPar f
  if 64 * p.slot < len then none
  else (List.range p.cap).find? (fun m => (s.memberOf f m).isNone && !s.quarantined f m)

/-- Seat `code` becomes member `m` of form `f`. -/
def State.bind (s : State) (f m code : Nat) : State :=
  let x := s.form f
  (s.setForm f { x with
      members := Tab.put (fun _ => 0) x.members m (code + 1)
      quarantine := x.quarantine.filter (fun e => decide (e.1 ≠ m)) }).setRf
    (Reg.FORM_STATUS f) 12 15 (s.rf (Reg.FORM_STATUS f) 12 15 + 1)

/-- Member `m` leaves form `f`: its index enters quarantine. -/
def State.unbind (s : State) (f m : Nat) : State :=
  let x := s.form f
  (s.setForm f { x with
      members := Tab.put (fun _ => 0) x.members m 0
      quarantine := (m, x.releases) :: x.quarantine }).setRf
    (Reg.FORM_STATUS f) 12 15 (s.rf (Reg.FORM_STATUS f) 12 15 - 1)

/-! ### Seats (R176) -/

/-- The code of a local seat in MEMBER_MAP (R191). -/
def localCode (k : Nat) : Nat := 0x4000 + k

/-- Table-space offset of a seat's descriptor (R36). -/
def seatAt (code : Nat) : Nat := if code < 0x4000 then code * 0x100 else 0x400000 + (code - 0x4000) * 0x100

def State.seat (s : State) (code : Nat) : Option Seat := Tab.get (fun _ => none) s.seats code
def State.setSeat (s : State) (code : Nat) (x : Option Seat) : State :=
  { s with seats := Tab.put (fun _ => none) s.seats code x }

/-- DW `d` of a seat's descriptor. -/
def State.seatW (s : State) (code d : Nat) : Word := s.tw (seatAt code + d)
def State.setSeatW (s : State) (code d : Nat) (w : Word) : State := s.setTw (seatAt code + d) w

/-- The form a seat's descriptor names. -/
def State.seatForm (s : State) (code : Nat) : Nat := fld (s.seatW code 0) 8 8

/-- The length of the frame records of a seat (R192, R302). -/
def State.seatRecLen (s : State) (code : Nat) : Nat :=
  if code < 0x4000 then
    let w := s.seatW code 0x1C
    recordLen (fld w 8 6) (fld w 16 6) (fld w 24 5)
  else recordLen 14 0 1

/-- The parameters of form `f` for second `sec`; those of its registers while it is STOPPED. -/
def State.parAt (s : State) (f sec : Nat) : FormPar := if s.formState f = 0 then s.regPar f else (s.form f).parMap sec

/-- The instant of a carried time under the rate of form `f`, without its tolerance. -/
def State.carriedInstant (s : State) (f sec ns : Nat) : Instant :=
  instantOf (s.parAt f sec).r sec ns

/-- Where a seated frame is filed, and whether the move of its seat takes effect with it (R200): the instant it is mapped to under the
form its seat moves from decides. -/
def State.filedIn (s : State) (x : Seat) (g : Seated) : Nat × Nat × Bool :=
  let early := match x.old with
    | some o => if (s.carriedInstant o.form g.sec g.ns).sec < o.sec then some o else none
    | none => none
  match early, x.move with
  | some o, _ => (o.form, o.member, false)
  | none, some (b, m, at_) => if at_ ≤ (s.carriedInstant x.form g.sec g.ns).sec then (b, m, true) else (x.form, x.member, false)
  | none, none => (x.form, x.member, false)

/-- A frame of an installed seat is seated (R178, R206): it waits for the roll call, and SILENT clears with its flag and event
29. -/
def State.seatFrame (s : State) (f : Seated) (ingressNs : Nat) : State :=
  match s.seat f.code with
  | none => s
  | some x =>
    let s := { s with seated := s.seated ++ [{ f with seatedAt := s.tbNow (s.parAt (s.filedIn x f).1 f.sec).tb }] }
    let s := s.setSeat f.code (some { x with heard := s.now })
    let s := (s.setSeatW f.code 0x84 (word ingressNs)).setSeatW f.code 0x88 (s.seatW f.code 0x88 + 1)
    if bit (s.seatW f.code 0x80) 0 then
      let s := s.setSeatW f.code 0x80 0
      (s.setRf Reg.ITK_SEATS 16 15 (s.rf Reg.ITK_SEATS 16 15 - 1)).flagRaise Reg.ITK_STATUS 3 29 0
    else s

/-! ### Bells (R353) -/

/-- The bell period time base `n` uses now, in units of 100 ns. -/
def State.bellPeriod (s : State) (n : Nat) : Nat :=
  let o := Tab.get (fun _ => (0, 0)) s.sched.oldBell n
  if stampSec (s.tbNow n) < o.2 then o.1 else s.rf Reg.SCH_BELL 0 14

/-- The last bell of time base `n`; none in OFF. -/
def State.lastBell (s : State) (n : Nat) : Option Stamp :=
  if s.tbState n = 0 then none
  else
    let t := s.tbNow n
    let b := s.bellPeriod n * 100 * stampNsUnit
    if b = 0 then none else some (t - t % stampSecUnit % b)

/-- The first bell of time base `n` at or after a time, on the grid of now. -/
def State.bellAfter (s : State) (n : Nat) (t : Stamp) : Stamp :=
  let b := s.bellPeriod n * 100 * stampNsUnit
  t - t % stampSecUnit + roundUp b (t % stampSecUnit)

end Sys2Proof.Machine
end

