-- ==== Sys2Proof/Machine/Links.lean ====
section
/-! DEFINITION. The sending side of the Fjarni links (R430, R431): which link reaches a board position, packets, credits. -/

namespace Sys2Proof.Machine

/-- This device's position on the board (R58). -/
def State.boardPos (s : State) : Nat := s.rf Reg.GLB_BOARD 0 3

def State.link (s : State) (k : Nat) : Link := Tab.get (fun _ => {}) s.links k
def State.setLink (s : State) (k : Nat) (x : Link) : State := { s with links := Tab.put (fun _ => {}) s.links k x }

/-- FJL_Lk_STATUS.STATE: 0 OFF, 1 TRAIN, 2 CHECK, 3 UP. -/
def State.linkState (s : State) (k : Nat) : Nat := s.rf (Reg.FJL_L_STATUS k) 0 3

/-- The position link `k` connects to (R430). -/
def State.linkPeer (s : State) (k : Nat) : Nat := (s.boardPos + k + 1) % 8

/-- The link to position `q`; none for the device's own. -/
def State.linkTo (s : State) (q : Nat) : Option Nat :=
  let k := (q + 15 - s.boardPos) % 8
  if k < 7 then some k else none

/-- The link to position `q` is UP. -/
def State.linkUp (s : State) (q : Nat) : Bool :=
  match s.linkTo q with
  | some k => s.domOn pdLink && decide (s.linkState k = 3)
  | none => false

/-- The packet types that carry a payload of their own and take a buffer and a sequence number (R431). -/
def Packet.buffered (p : Packet) : Bool := decide (p.kind ≤ 4)

/-- The octets of a packet (R431). -/
def packetOctets (p : Packet) (credits seq ack : Nat) : List Byte :=
  let body := beBytes 1 p.kind ++ beBytes 1 (16 * (p.src % 8) + p.dst % 8) ++ beBytes 1 p.hops ++ beBytes 1 credits ++
    beBytes 2 p.payload.length ++ beBytes 2 seq ++ beBytes 2 ack ++ List.replicate 6 0 ++
    fit (roundUp 8 p.payload.length) p.payload
  body ++ leBytes 4 (crc32c body)

/-- A packet goes out on link `k` with sequence number `seq`; the report of freed buffers goes with it. -/
def State.putPacket (s : State) (k : Nat) (p : Packet) (seq : Nat) : State :=
  let x := s.link k
  let s := s.emit (.fjl k p.kind (seq % 65536) (packetOctets p x.freed (seq % 65536) x.rxSeq))
  (s.setLink k { x with freed := 0 }).bump (Reg.FJL_L_CNT k 0)

/-- A packet that takes no buffer: ACK, NAK, IDENT. -/
def State.sendControl (s : State) (k kind : Nat) (payload : List Byte) : State :=
  s.putPacket k ⟨kind, s.boardPos, s.linkPeer k, 0, payload⟩ ((s.link k).txSeq + 65535)

/-- A packet that takes a buffer, while a credit is held. -/
def State.sendNow (s : State) (k : Nat) (p : Packet) : State :=
  let x := s.link k
  let s := s.setLink k { x with
    sent := x.sent ++ [p]
    credits := x.credits - 1
    txSeq := (x.txSeq + 1) % 65536
    since := if x.sent.isEmpty then s.now else x.since
    tries := x.tries ++ [0] }
  s.putPacket k p x.txSeq

/-- Packets that wait are sent while credits last. -/
def State.drainLink (s : State) (k : Nat) : Nat → State
  | 0 => s
  | fuel + 1 =>
    let x := s.link k
    match x.waiting with
    | [] => s
    | p :: ps =>
      if x.credits = 0 then s else State.drainLink ((s.setLink k { x with waiting := ps }).sendNow k p) k fuel

/-- A packet for position `q` (R431): sent at once, or held in order until a credit is reported. Without an UP link it is not
sent. -/
def State.fjlSend (s : State) (q kind hops : Nat) (payload : List Byte) : State :=
  match s.linkTo q with
  | none => s
  | some k =>
    if s.domOn pdLink && decide (s.linkState k = 3) then
      let x := s.link k
      let p : Packet := ⟨kind, s.boardPos, q, hops, payload⟩
      if x.waiting.isEmpty && decide (x.credits ≠ 0) then s.sendNow k p
      else s.setLink k { x with waiting := x.waiting ++ [p] }
    else s

end Sys2Proof.Machine
end

