-- ==== Sys2Proof/Machine/Lse.lean ====
section
/-! DEFINITION. The linear algebra of the state estimator (R246) in binary64, and the bound R248 sets on what the part gives. -/

namespace Sys2Proof.Machine

/-- The binary64 value of a complex number in binary32. -/
def C64.ofF32 (p : Word × Word) : C64 := ⟨F64.ofF32 p.1, F64.ofF32 p.2⟩

/-- What the part offers where that lies in [lo, hi]; else `r`, rounded once. -/
def F64.accept (lo hi : F64) (offer : Word) (r : F64) : Word :=
  if F64.le lo (F64.ofF32 offer) && F64.le (F64.ofF32 offer) hi then offer else F64.toF32 r

/-- What the part offers within `tol` of `r`. -/
def F64.close (tol : F64) (offer : Word) (r : F64) : Word := F64.accept (F64.sub r tol) (F64.add r tol) offer r

/-- A measurement in one pass: its terms h (state, coefficient), its weight w and its value z. -/
structure LseRow where
  h : List (Nat × C64)
  w : F64
  z : C64
deriving DecidableEq, Repr

/-- The coefficient of state `i` in a measurement. -/
def LseRow.at (x : LseRow) (i : Nat) : C64 := C64.sum ((x.h.filter (fun e => decide (e.1 = i))).map (fun e => e.2))

/-- g = Σ w hᴴ h. -/
def lseGain (rows : List LseRow) (i j : Nat) : C64 :=
  C64.sum (rows.map (fun x => C64.scale x.w (C64.mul (x.at i).conj (x.at j))))

/-- b = Σ w hᴴ z. -/
def lseRhs (rows : List LseRow) (i : Nat) : C64 := C64.sum (rows.map (fun x => C64.scale x.w (C64.mul (x.at i).conj x.z)))

/-- A column of the factor g = l d lᴴ: the state it eliminates, the pivot, whether the state is unobservable, and l below the pivot,
by state. -/
structure LseCol where
  idx : Nat
  d : F64
  unobs : Bool
  l : List C64
deriving DecidableEq, Repr

def LseCol.at (x : LseCol) (i : Nat) : C64 := x.l.getD i C64.zero

/-- The column that eliminates state `j` of `n` after `done`, with the pivot test of R246. -/
def lseColumn (g : Nat → Nat → C64) (n : Nat) (pivotMin : F64) (done : List LseCol) (j : Nat) : LseCol :=
  let rest := fun i => done.foldl (fun a c => C64.sub a (C64.scale c.d (C64.mul (c.at i) (c.at j).conj))) (g i j)
  let d := (rest j).re
  let gjj := (g j j).re
  let unobs := F64.le (F64.abs gjj) 0 || F64.lt d (F64.mul pivotMin gjj)
  { idx := j
    d := if unobs then F64.one else d
    unobs := unobs
    l := (List.range n).map (fun i =>
      if unobs || decide (i = j) || done.any (fun c => decide (c.idx = i)) then C64.zero else C64.over (rest i) d) }

/-- The factor, in the block's order. -/
def lseFactor (g : Nat → Nat → C64) (n : Nat) (pivotMin : F64) (order : List Nat) : List LseCol :=
  order.foldl (fun done j => done ++ [lseColumn g n pivotMin done j]) []

/-- Forward substitution: each column with its y; b is 0 at an unobservable state. -/
def lseForward (cols : List LseCol) (b : Nat → C64) : List (LseCol × C64) :=
  cols.foldl (fun done c =>
    done ++ [(c, done.foldl (fun a e => C64.sub a (C64.mul (e.1.at c.idx) e.2)) (if c.unobs then C64.zero else b c.idx))]) []

/-- The solution of l d lᴴ x = b by state; 0 at an unobservable state. -/
def lseSolve (cols : List LseCol) (b : Nat → C64) : List (Nat × C64) :=
  (lseForward cols b).foldr (fun e xs =>
    let x := xs.foldl (fun a v => C64.sub a (C64.mul (e.1.at v.1).conj v.2)) (C64.over e.2 e.1.d)
    (e.1.idx, if e.1.unobs then C64.zero else x) :: xs) []

def lseAt (xs : List (Nat × C64)) (i : Nat) : C64 := ((xs.find? (fun e => decide (e.1 = i))).map (fun e => e.2)).getD C64.zero

/-- The largest sum of magnitudes over the columns of a matrix. -/
def norm1 (m : List (List C64)) : F64 := m.foldl (fun a c => F64.max a (F64.sum (c.map C64.mag))) 0

/-- The condition number κ of the gain over the observable states, in the 1-norm. -/
def lseKappa (g : Nat → Nat → C64) (cols : List LseCol) : F64 :=
  let obs := (cols.filter (fun c => !c.unobs)).map (fun c => c.idx)
  let inv := obs.map (fun j =>
    let xs := lseSolve cols (fun i => if i = j then ⟨F64.one, 0⟩ else C64.zero)
    obs.map (lseAt xs))
  F64.mul (norm1 (obs.map (fun j => obs.map (fun i => g i j)))) (norm1 inv)

/-- The terms of the measurement entry at `o` of a table (R245). -/
def lseTerms (t : List Byte) (o : Nat) : List (Nat × C64) :=
  (List.range (le t (o + 8) 4 % 16)).map (fun j =>
    (le t (o + 16 + 12 * j) 4, C64.ofF32 (word (le t (o + 20 + 12 * j) 4), word (le t (o + 24 + 12 * j) 4))))

/-- The order in which the structure block eliminates the states. -/
def lseOrder (t : List Byte) (n : Nat) : List Nat :=
  let o := Config.lseOrder t
  if o.length = n && (List.range n).all (fun i => o.contains i) then o else List.range n

/-- One pass: the states, whether each is unobservable, and w·|r|² of each measurement with their sum first. -/
structure LsePass where
  x : List (Word × Word)
  unobs : List Bool
  wr2 : List Word
deriving DecidableEq, Repr

/-- The smallest and the largest w·|r|² that the residual of a measurement gives, the arithmetic of the lesson plan moving it by 2^-20 of
its terms. -/
def lseSpread (x : List C64) (row : LseRow) : F64 × F64 × F64 :=
  let terms := row.h.map (fun e => C64.mul e.2 (x.getD e.1 C64.zero))
  let r := C64.mag (C64.sub row.z (C64.sum terms))
  let tol := F64.mul (F64.ratio 1 (2 ^ 20)) (F64.sum (C64.mag row.z :: terms.map C64.mag))
  let sq := fun v => F64.mul row.w (F64.mul v v)
  (sq (F64.max 0 (F64.sub r tol)), sq r, sq (F64.add r tol))

/-- One pass of R246 over the measurements whose entries stand at `offs`: the gain, its factor and the solve in binary64, each state
component as the part offers it within 4 × 10^-7 · κ · max|x| (R248), and the residuals of those states. -/
def lsePass (t : List Byte) (n : Nat) (offs : List Nat) (pivotMin : Word) (w : List Word) (z : List (Word × Word)) : LsePass :=
  let rows := (offs.zip (w.zip z)).map (fun e =>
    { h := lseTerms t e.1, w := F64.ofF32 e.2.1, z := C64.ofF32 e.2.2 : LseRow })
  let g := lseGain rows
  let cols := lseFactor g n (F64.ofF32 pivotMin) (lseOrder t n)
  let sol := lseSolve cols (lseRhs rows)
  let big := (sol.map (fun e => C64.mag e.2)).foldl F64.max 0
  let tol := F64.mul (F64.mul (F64.ratio 4 10000000) (lseKappa g cols)) big
  let offer := Config.lsePass t pivotMin w z
  let unobs := (List.range n).map (fun i => cols.any (fun c => decide (c.idx = i) && c.unobs))
  let x := (List.range n).map (fun i =>
    let v := lseAt sol i
    let p := offer.1.getD i (0, 0)
    if unobs.getD i false then (0, 0) else (F64.close tol p.1 v.re, F64.close tol p.2 v.im))
  let spread := rows.map (lseSpread (x.map C64.ofF32))
  let each := (List.range rows.length).map (fun k =>
    let b := spread.getD k (0, 0, 0)
    F64.accept b.1 b.2.2 (offer.2.getD (k + 1) 0) b.2.1)
  let slack := F64.ratio 1 64
  let j := F64.accept (F64.mul (F64.sub F64.one slack) (F64.sum (spread.map (fun b => b.1))))
    (F64.mul (F64.add F64.one slack) (F64.sum (spread.map (fun b => b.2.2)))) (offer.2.getD 0 0)
    (F64.sum (spread.map (fun b => b.2.1)))
  { x := x, unobs := unobs, wr2 := j :: each }

end Sys2Proof.Machine
end

