-- ==== Sys2Proof/Machine/Osc.lean ====
section
/-! DEFINITION. The subspace iteration of an oscillation lesson (R250), in binary64, and the modes it gives. -/

namespace Sys2Proof.Machine

/-- Vectors of binary64 patterns. -/
abbrev FVec := List F64

def FVec.dot (a b : FVec) : F64 := F64.sum ((a.zip b).map (fun e => F64.mul e.1 e.2))
def FVec.scale (k : F64) (a : FVec) : FVec := a.map (F64.mul k)
def FVec.add (a b : FVec) : FVec := (a.zip b).map (fun e => F64.add e.1 e.2)
def FVec.sub (a b : FVec) : FVec := (a.zip b).map (fun e => F64.sub e.1 e.2)
def FVec.fit (n : Nat) (a : FVec) : FVec := (List.range n).map (fun i => a.getD i 0)

/-- M v and Mᵀ v, for a matrix given by its rows; `n` is the number of its columns. -/
def mulVec (rows : List FVec) (v : FVec) : FVec := rows.map (fun r => FVec.dot r v)
def mulTrans (n : Nat) (rows : List FVec) (v : FVec) : FVec :=
  (rows.zip v).foldl (fun a e => FVec.add a (FVec.scale e.2 e.1)) (List.replicate n 0)

/-- Modified Gram-Schmidt in column order. -/
def orth (cols : List FVec) : List FVec :=
  cols.foldl (fun done v =>
    let r := done.foldl (fun v q => FVec.sub v (FVec.scale (FVec.dot q v) q)) v
    let len := F64.sqrt (FVec.dot r r)
    done ++ [if F64.lt 0 len then r.map (fun x => F64.div x len) else FVec.fit r.length (Config.oscColumn done)]) []

/-- λ = 1 − 2^−FORGET, and 1 − λ. -/
def oscLambda (forget : Nat) : F64 := F64.ratio (2 ^ forget - 1) (2 ^ forget)
def oscGain (forget : Nat) : F64 := F64.ratio 1 (2 ^ forget)

/-- Step 1: the signals without their mean, 0 for one that is excluded, and the mean after. -/
def oscStep1 (forget : Nat) (mean : FVec) (y : List (Option Word)) : FVec × FVec :=
  let pairs := (List.range y.length).map (fun k =>
    let mu := mean.getD k 0
    match y.getD k none with
    | some v => (F64.sub (F64.ofF32 v) mu, F64.add (F64.mul (oscLambda forget) mu) (F64.mul (oscGain forget) (F64.ofF32 v)))
    | none => (0, mu))
  (pairs.map (fun e => e.1), pairs.map (fun e => e.2))

/-- Step 2: `past` vectors in time order from `skip` updates back, stacked; the latest stands first in `hist`, and the entries of an
excluded signal are 0. -/
def oscStack (m past skip : Nat) (y : List (Option Word)) (hist : List FVec) : FVec :=
  (List.range past).flatMap (fun i =>
    let v := hist.getD (skip + past - 1 - i) []
    (List.range m).map (fun k => if (y.getD k none).isSome then v.getD k 0 else 0))

/-- Steps 1 to 4 of an update: the numeric state after. -/
def oscNext (x : OscNum) (m past order forget : Nat) (y : List (Option Word)) : OscNum :=
  let n := m * past
  let s1 := oscStep1 forget x.mean y
  let hist := (s1.1 :: x.past).take (2 * past)
  let f := oscStack m past 0 y hist
  let p := oscStack m past past y hist
  let c := (List.range n).map (fun i =>
    FVec.add (FVec.scale (oscLambda forget) (FVec.fit n (x.c.getD i [])))
      (FVec.scale (F64.mul (oscGain forget) (f.getD i 0)) p))
  let q := (List.range order).map (fun j => FVec.fit n (x.q.getD j []))
  { mean := s1.2, past := hist, c := c, q := orth (q.map (fun v => mulVec c (mulTrans n c v))) }

/-- Step 5: A with Q_down = Q_up A by least squares, by columns; Q_up lacks the last block of `m` rows, Q_down the first. -/
def oscA (m : Nat) (q : List FVec) : List FVec :=
  let up := q.map (fun v => v.take (v.length - m))
  let down := q.map (fun v => v.drop m)
  let n := q.length
  let g := fun i j => (⟨FVec.dot (up.getD i []) (up.getD j []), 0⟩ : C64)
  let cols := lseFactor g n 0 (List.range n)
  down.map (fun v =>
    let sol := lseSolve cols (fun i => ⟨FVec.dot (up.getD i []) v, 0⟩)
    (List.range n).map (fun i => (lseAt sol i).re))

/-- A matrix given by its columns, times a complex vector. -/
def mulC (cols : List FVec) (v : List C64) : List C64 :=
  (List.range ((cols.headD []).length)).map (fun i =>
    C64.sum ((cols.zip v).map (fun e => C64.scale (e.1.getD i 0) e.2)))

/-- Step 6: `v` is an eigenvector of A for `mu`, to 2^-16 of the terms of A v. -/
def eigenOk (a : List FVec) (mu : C64) (v : List C64) : Bool :=
  let size := F64.sum ((a.zip v).map (fun e => F64.mul (F64.sum (e.1.map F64.abs)) (C64.mag e.2)))
  let tol := F64.mul (F64.ratio 1 (2 ^ 16)) size
  decide (v.length = a.length) && F64.lt 0 (F64.sum (v.map C64.mag)) &&
    ((mulC a v).zip v).all (fun e => F64.le (C64.mag (C64.sub e.1 (C64.mul mu e.2))) tol)

/-- The inner product of complex vectors, their length, and the combinations of them that follow. -/
def CVec.dot (a b : List C64) : C64 := C64.sum ((a.zip b).map (fun e => C64.mul e.1.conj e.2))
def CVec.len (a : List C64) : F64 := F64.sqrt (F64.sum (a.map C64.sq))
def CVec.less (k : C64) (q v : List C64) : List C64 := (v.zip q).map (fun e => C64.sub e.1 (C64.mul k e.2))
def CVec.unit (n k : Nat) : List C64 := (List.range n).map (fun i => if i = k then ⟨F64.one, 0⟩ else C64.zero)

/-- The quotient of complex numbers, and the root with a real part that is not negative. -/
def C64.div (a b : C64) : C64 := C64.over (C64.mul a b.conj) b.sq
def C64.root (a : C64) : C64 :=
  let half := fun x => F64.sqrt (F64.max 0 (F64.div x F64.two))
  ⟨half (F64.add a.mag a.re), (if F64.lt a.im 0 then F64.neg else id) (half (F64.sub a.mag a.re))⟩

/-- The coordinates of `v` along orthonormal vectors, and what is left of it. -/
def CVec.project (done : List (List C64)) (v : List C64) : List C64 × List C64 :=
  done.foldl (fun a q => (a.1 ++ [CVec.dot q a.2], CVec.less (CVec.dot q a.2) q a.2)) ([], v)

/-- A unit vector orthogonal to those given, from the basis vector that leaves most. -/
def CVec.fill (n : Nat) (done : List (List C64)) : List C64 :=
  let left := (List.range n).map (fun k => (CVec.project done (CVec.unit n k)).2)
  let top := left.foldl (fun a v => if F64.lt (CVec.len a) (CVec.len v) then v else a) (List.replicate n C64.zero)
  top.map (fun x => x.over (CVec.len top))

/-- The factors of a square matrix given by its columns: orthonormal columns, and the columns of the triangle down to its diagonal. -/
def cFactor (cols : List (List C64)) : List (List C64) × List (List C64) :=
  cols.foldl (fun a v =>
    let p := CVec.project a.1 v
    let len := CVec.len p.2
    (a.1 ++ [if F64.lt 0 len then p.2.map (fun x => x.over len) else CVec.fill cols.length a.1], a.2 ++ [p.1 ++ [⟨len, 0⟩]])) ([], [])

/-- A square matrix given by its columns, times a vector; and that matrix less `mu` on its diagonal. -/
def cMul (cols : List (List C64)) (v : List C64) : List C64 :=
  (List.range cols.length).map (fun i => C64.sum ((cols.zip v).map (fun e => C64.mul (e.1.getD i C64.zero) e.2)))
def cShift (mu : C64) (cols : List (List C64)) : List (List C64) :=
  ((List.range cols.length).zip cols).map (fun e => CVec.less mu (CVec.unit cols.length e.1) e.2)

/-- The shift of a step of the eigenvalue iteration: the eigenvalue of the last block of two that is nearer to the last element, and in
every tenth step one off it. -/
def cGuess (k : Nat) (t : List (List C64)) : C64 :=
  let n := t.length
  let at_ := fun i j => (t.getD j []).getD i C64.zero
  let d := at_ (n - 1) (n - 1)
  let h := C64.scale (F64.ratio 1 2) (C64.sub (at_ (n - 2) (n - 2)) d)
  let r := C64.root (C64.add (C64.mul h h) (C64.mul (at_ (n - 2) (n - 1)) (at_ (n - 1) (n - 2))))
  let mid := C64.add d h
  let p := C64.add mid r
  let q := C64.sub mid r
  if k % 10 = 9 then C64.add d ⟨(at_ (n - 1) (n - 2)).mag, 0⟩
  else if F64.lt (C64.sub p d).mag (C64.sub q d).mag then p else q

/-- The eigenvalues of a square matrix given by its columns, by shifted orthogonal iteration with deflation. -/
def cEigen : Nat → Nat → List (List C64) → List C64
  | 0, _, t => ((List.range t.length).zip t).map (fun e => e.2.getD e.1 C64.zero)
  | fuel + 1, k, t =>
    let n := t.length
    let low := (t.take (n - 1)).map (fun c => (c.getD (n - 1) C64.zero).mag)
    if F64.le (F64.sum low) (F64.mul (F64.ratio 1 (2 ^ 50)) (norm1 t)) then
      match t.getLast? with
      | none => []
      | some c => c.getD (n - 1) C64.zero :: cEigen fuel 0 ((t.take (n - 1)).map (fun c => c.take (n - 1)))
    else
      let mu := cGuess k t
      let f := cFactor (cShift mu t)
      cEigen fuel (k + 1) (cShift (C64.sub C64.zero mu) (f.1.map (cMul f.2)))

/-- One step of inverse iteration towards an eigenvector, with the factors of the shifted matrix; `tiny` stands for a vanishing pivot. -/
def cInverse (f : List (List C64) × List (List C64)) (tiny : F64) (b : List C64) : List C64 :=
  let y := f.1.map (fun q => CVec.dot q b)
  let n := y.length
  let x := (List.range n).foldl (fun (x : List C64) k =>
    let i := n - 1 - k
    let rest := C64.sum ((List.range k).map (fun j => C64.mul ((f.2.getD (i + 1 + j) []).getD i C64.zero) (x.getD j C64.zero)))
    let d := (f.2.getD i []).getD i C64.zero
    C64.div (C64.sub (y.getD i C64.zero) rest) (if F64.lt tiny d.mag then d else ⟨tiny, 0⟩) :: x) []
  x.map (fun e => e.over (CVec.len x))

/-- An eigenvector of `t` for its eigenvalue `mu`. -/
def cVector (t : List (List C64)) (mu : C64) : List C64 :=
  let f := cFactor (cShift mu t)
  let tiny := F64.mul (F64.ratio 1 (2 ^ 50)) (norm1 t)
  (List.range 3).foldl (fun v _ => cInverse f tiny v) (List.replicate t.length ⟨F64.one, 0⟩)

/-- Step 6: the eigenpairs of A, one for each column of Q. The part may offer its own for each, an eigenpair whose eigenvalue lies within
2^-16 of the norm of A from the one computed here. -/
def oscEigen (a : List FVec) : List (Nat × C64 × List C64) :=
  let t := a.map (fun c => c.map (fun x => (⟨x, 0⟩ : C64)))
  let mus := cEigen (100 * t.length) 0 t
  let offers := (Config.oscEigen a).map (fun e => ((⟨e.1.1, e.1.2⟩ : C64), e.2.map (fun x => (⟨x.1, x.2⟩ : C64))))
  let tol := F64.mul (F64.ratio 1 (2 ^ 16)) (norm1 t)
  ((List.range mus.length).zip mus).map (fun e =>
    match offers[e.1]? with
    | some o => if eigenOk a o.1 o.2 && F64.le (C64.sub o.1 e.2).mag tol then (e.1, o) else (e.1, e.2, cVector t e.2)
    | none => (e.1, e.2, cVector t e.2))

/-- f = |arg μ| · (R / DEC) / 2π. -/
def oscFreq (rate dec : Nat) (mu : C64) : F64 :=
  F64.div (F64.mul (F64.abs mu.arg) (F64.ratio rate dec)) (F64.mul F64.two F64.pi)

/-- ζ = −ln|μ| / sqrt(ln²|μ| + arg²μ). -/
def oscZeta (mu : C64) : F64 :=
  let l := F64.ln mu.mag
  F64.div (F64.neg l) (F64.sqrt (F64.add (F64.mul l l) (F64.mul mu.arg mu.arg)))

/-- Q_first v turned so that its largest element is real and positive. -/
def oscShape (m : Nat) (q : List FVec) (v : List C64) : List C64 :=
  let s := mulC (q.map (fun c => c.take m)) v
  let top := s.foldl (fun a e => if F64.lt a.mag e.mag then e else a) C64.zero
  s.map (fun e => C64.over (C64.mul e top.conj) top.mag)

/-- The modes of an update, in the order of the eigenpairs, each with arg μ > 0 (R251); the amplitude is the mode's coordinate times the
largest |φ|. -/
def oscModes (m rate dec : Nat) (x : OscNum) : List Mode :=
  ((oscEigen (oscA m x.q)).filter (fun e => F64.lt 0 e.2.1.arg)).map (fun e =>
    let shape := oscShape m x.q e.2.2
    let top := (shape.map C64.mag).foldl F64.max 0
    { f := F64.toF32 (oscFreq rate dec e.2.1), zeta := F64.toF32 (oscZeta e.2.1)
      amp := F64.toF32 (F64.mul (F64.abs (Config.oscCoord x e.1)) top)
      shape := shape.map (fun c => (c.re.toF32, c.im.toF32)) })

/-- The mean of a signal's usable values: what the part offers within 2^-16 of the largest of them. -/
def oscMean (vs : List Word) : Word :=
  let xs := vs.map F64.ofF32
  F64.close (F64.mul (F64.ratio 1 (2 ^ 16)) ((xs.map F64.abs).foldl F64.max 0)) (Config.oscMean vs)
    (F64.div (F64.sum xs) (F64.ofInt vs.length))

end Sys2Proof.Machine
end

