-- ==== Sys2Proof/Machine/Kinds.lean ====
section
/-! DEFINITION. What each kind of lesson computes from a released roll, its committed table and its parameters (R237-R256), and the
checks a commit makes of tables and parameters (R235-R245, R249, R253). -/

namespace Sys2Proof.Machine

/-! ### Signals (R240, R241) -/

/-- The offset of slot 0 in a roll image (R191). -/
def slotsBaseOf (cap : Nat) : Nat := roundUp 64 (64 + cap / 8 + 2 * cap)

/-- The frame record of member `m` in a released roll; none where the member is absent. -/
def State.rollRecord (s : State) (r : Roll) (m : Nat) : Option (List Byte) :=
  if m < r.cap && octet (s.hbmRead (r.image + 0x40 + m / 8) 1) 0 / 2 ^ (m % 8) % 2 = 1 then
    some (s.hbmRead (r.image + slotsBaseOf r.cap + m * 64 * r.slot) (64 * r.slot))
  else none

/-- A DW of a record. -/
def rec32 (rc : List Byte) (off : Nat) : Word := word (le rc off 4)

/-- The fields of a SIGREF: member, field, part. -/
def sigMember (g : Word) : Nat := fld g 0 15
def sigField (g : Word) : Nat := fld g 16 7
def sigPart (g : Word) : Nat := fld g 24 2

/-- A SIGREF that no rule refuses (R240). -/
def sigOk (g : Word) : Bool :=
  !bit g 15 && !bit g 23 && decide (fld g 26 6 = 0) && decide (sigField g < 84) &&
    (decide (sigPart g = 0) || decide (sigField g < 48))

/-- The record of a signal's member, where the member's STAT lets it be used (R241). -/
def State.sigRecord (s : State) (r : Roll) (sync : Bool) (g : Word) : Option (List Byte) :=
  match s.rollRecord r (sigMember g) with
  | none => none
  | some rc =>
    let stat := le rc 2 2
    if stat / 2 ^ 14 % 4 = 0 && !(sync && stat / 2 ^ 13 % 2 = 1) then some rc else none

/-- The components of the phasor a SIGREF names, where its member and counts hold it. -/
def State.sigParts (s : State) (r : Roll) (sync : Bool) (g : Word) : Option (Word × Word) :=
  match s.sigRecord r sync g with
  | none => none
  | some rc =>
    let k := sigField g
    if k < 48 && k < octet rc 4 % 64 then some (rec32 rc (0x30 + 8 * k), rec32 rc (0x34 + 8 * k)) else none

/-- The phasor a SIGREF names, when it is usable: neither component is a NaN. -/
def State.sigPhasor (s : State) (r : Roll) (sync : Bool) (g : Word) : Option (Word × Word) :=
  (s.sigParts r sync g).filter (fun p => !f32IsNaN p.1 && !f32IsNaN p.2)

/-- MAG of a phasor: FSQRT(FMA(re, re, im × im)). -/
def phMag (p : Word × Word) : Word := f32Sqrt (f32Fma p.1 p.1 (f32Mul p.2 p.2))

/-- The value a SIGREF names, when it is usable (R240, R241). -/
def State.sigValue (s : State) (r : Roll) (sync : Bool) (g : Word) : Option Word :=
  let v : Option Word :=
    if sigField g < 48 then
      (s.sigParts r sync g).map (fun p =>
        match sigPart g with
        | 0 => phMag p
        | 1 => f32Atan2 p.2 p.1
        | 2 => p.1
        | _ => p.2)
    else
      match s.sigRecord r sync g with
      | none => none
      | some rc =>
        let k := sigField g
        if k < 52 then some (rec32 rc (0x20 + 4 * (k - 48)))
        else if k - 52 < octet rc 5 % 64 then some (rec32 rc (0x30 + 8 * (octet rc 4 % 64) + 4 * (k - 52)))
        else none
  match v with
  | some w => if f32IsNaN w then none else some w
  | none => none

/-- The ANGLE quantity of two phasors (R243). -/
def angleOf (a b : Word × Word) : Word :=
  let re := f32Fma a.1 b.1 (f32Mul a.2 b.2)
  let im := f32Fma a.2 b.1 (f32Neg (f32Mul a.1 b.2))
  f32Abs (f32Atan2 im re)

/-! ### Tables (R237) -/

/-- A DW of a table. -/
def tb32 (t : List Byte) (off : Nat) : Nat := le t off 4

def count1 (t : List Byte) : Nat := tb32 t 0x0C
def count2 (t : List Byte) : Nat := tb32 t 0x10
def count3 (t : List Byte) : Nat := tb32 t 0x14

/-- Every octet of a slice is 0. -/
def allZero (bs : List Byte) : Bool := bs.all (fun b => b = 0)

/-- Where the measurement entry after the one at `o` of an LSE table starts. -/
def lseNext (t : List Byte) (o : Nat) : Nat := o + 16 + 12 * (tb32 t (o + 8) % 16)

/-- The offsets of the measurement entries of an LSE table (R245). -/
def lseOffsets (t : List Byte) : Nat → Nat → List Nat
  | 0, _ => []
  | n + 1, o => o :: lseOffsets t n (lseNext t o)

/-- Where the measurement entries of an LSE table end. -/
def lseEnd (t : List Byte) (n o : Nat) : Nat := (List.range n).foldl (fun o _ => lseNext t o) o

/-- The octets of a table as its counts give them (R237). -/
def tableLen (kind : Nat) (t : List Byte) : Nat :=
  match kind with
  | 1 => lseEnd t (count2 t) 64 + count3 t
  | 2 => 64 + 8 * count1 t
  | 3 => 64 + 16 * count2 t + 4 * count3 t
  | _ => 64 + 32 * count1 t

/-- The header of a table is well formed (R237). -/
def headerOk (kind : Nat) (t : List Byte) : Bool :=
  decide (tb32 t 0 = 0x4C425441) && decide (tb32 t 4 = kind) && decide (tb32 t 8 = tableLen kind t) &&
    allZero (slice t 0x18 0x28) && (kind = 1 || kind = 3 || (decide (count2 t = 0) && decide (count3 t = 0)))

/-- A comparator of a THR table (R242). -/
def thrEntryOk (t : List Byte) (decCount i : Nat) : Bool :=
  let o := 64 + 32 * i
  let a := word (tb32 t o)
  let b := word (tb32 t (o + 4))
  let c := word (tb32 t (o + 8))
  let ty := fld c 0 3
  sigOk a && decide (1 ≤ ty) && decide (ty ≤ 5) &&
    (ty ≠ 5 || (sigOk b && decide (sigField a < 48) && decide (sigField b < 48))) &&
    decide (fld c 4 4 ≠ 0) && decide (fld c 8 4 ≠ 0) && decide (fld c 12 2 ≠ 3) && decide (fld c 14 2 = 0) &&
    decide (fld c 22 10 = 0) && decide (fld c 16 6 < decCount) && allZero (slice t (o + 0x18) 8) &&
    !f32IsNaN (word (tb32 t (o + 0x0C))) && !f32IsNaN (word (tb32 t (o + 0x10))) && !f32IsNaN (word (tb32 t (o + 0x14))) &&
    !f32Lt (word (tb32 t (o + 0x14))) 0

/-- A measurement entry of an LSE table (R245). -/
def lseEntryOk (t : List Byte) (o : Nat) : Bool :=
  let g := word (tb32 t o)
  let nnz := tb32 t (o + 8)
  sigOk g && decide (sigField g < 48) && decide (1 ≤ nnz) && decide (nnz ≤ 8) && decide (tb32 t (o + 12) = 0) &&
    (List.range nnz).all (fun j => decide (tb32 t (o + 16 + 12 * j) < count1 t))

/-- A member entry and a tie of an ISL table (R253). -/
def islEntryOk (t : List Byte) (i : Nat) : Bool :=
  let o := 64 + 16 * i
  let v := word (tb32 t (o + 4))
  let f := word (tb32 t (o + 8))
  decide (tb32 t o < 64) && decide (tb32 t o < count1 t) && sigOk v && decide (sigField v < 48) && sigOk f &&
    decide (sigField f = 48)

def tieOk (t : List Byte) (i : Nat) : Bool :=
  let w := word (tb32 t (64 + 16 * count2 t + 4 * i))
  decide (fld w 6 2 = 0) && decide (fld w 14 18 = 0) && decide (fld w 0 6 < fld w 8 6) && decide (fld w 8 6 < count1 t)

/-- The entries of an LSE, an OSC and an ISL table. -/
def lseTableOk (t : List Byte) : Bool := (lseOffsets t (count2 t) 64).all (lseEntryOk t) && Config.lseBlockOk t
def oscTableOk (t : List Byte) : Bool :=
  (List.range (count1 t)).all (fun i => sigOk (word (tb32 t (64 + 8 * i))) && decide (tb32 t (68 + 8 * i) < 2))
def islTableOk (t : List Byte) : Bool := (List.range (count2 t)).all (islEntryOk t) && (List.range (count3 t)).all (tieOk t)

/-- The TABLE check of R235. -/
def tableOk (kind decCount : Nat) (t : List Byte) : Bool :=
  headerOk kind t &&
    (if kind = 1 then lseTableOk t
    else if kind = 2 then oscTableOk t
    else if kind = 3 then islTableOk t
    else (List.range (count1 t)).all (thrEntryOk t decCount))

/-- The signals of an OSC table that are selected for mode shape (R249). -/
def oscShapes (t : List Byte) : List Nat := (List.range (count1 t)).filter (fun i => tb32 t (68 + 8 * i) % 2 = 1)

/-- The LIMIT check of R235: counts of the kind's range and within the compiled capacity. -/
def limitOk (kind : Nat) (inst : Instance) (p0 : Word) (t : List Byte) : Bool :=
  let c1 := count1 t
  let c2 := count2 t
  let c3 := count3 t
  decide (1 ≤ c1) && decide (c1 ≤ inst.cap1) && decide (c2 ≤ inst.cap2) && decide (c3 ≤ inst.cap3) &&
    match kind with
    | 1 => decide (c1 ≤ 65536) && decide (1 ≤ c2) && decide (c2 ≤ 262144) && decide (Config.lseFactor t ≤ 8388608)
    | 2 => decide (c1 ≤ 1024) && decide ((oscShapes t).length ≤ 64) && decide (c1 * fld p0 8 6 ≤ 4096) &&
        decide (fld p0 0 6 ≤ c1 * fld p0 8 6)
    | 3 => decide (c1 ≤ 64) && decide (1 ≤ c2) && decide (c2 ≤ 4096) && decide (c3 ≤ 2016)
    | _ => decide (c1 ≤ 1024)

/-- The largest payload of a committed table (R244, R247, R252, R256), and LSNi_ENTRY. -/
def payloadMax (kind : Nat) (t : List Byte) : Nat :=
  match kind with
  | 1 => 0x20 + 8 * count1 t + (count1 t + 7) / 8
  | 2 => 12 + 256 + 16 * (oscShapes t).length * 8
  | 3 => 0x148 + 252
  | _ => 4 + (count1 t + 7) / 8

def entryBytes (kind : Nat) (t : List Byte) : Nat := roundUp 4096 (64 + payloadMax kind t)

/-! ### Parameters (R239) -/

/-- The value of a finite binary32 pattern; 0 for others. -/
def f32Rat (w : Word) : Rat :=
  match b32.unpack w.toNat with
  | .fin neg m e =>
    let v : Rat := if 0 ≤ e then (m : Rat) * (2 ^ e.toNat : Nat) else mkRat m (2 ^ (-e).toNat)
    if neg then -v else v
  | _ => 0

/-- Whether the staged words break the Parameters table; `r` is the form's rate. -/
def paramsOk (kind r : Nat) (p : List Word) : Bool :=
  let w := fun i => p.getD i 0
  match kind with
  | 1 => f32Positive (w 1) && f32Positive (w 2) && f32Positive (w 3) && f32Lt (w 3) f32One
  | 2 =>
    let order := fld (w 0) 0 6
    let past := fld (w 0) 8 6
    let dec := fld (w 0) 16 8
    let forget := fld (w 0) 24 5
    decide (order % 2 = 0) && decide (2 ≤ order) && decide (order ≤ 40) && decide (4 ≤ past) && decide (past ≤ 32) &&
      decide (1 ≤ dec) && decide (dec ≤ 240) && decide (4 ≤ forget) && decide (forget ≤ 20) &&
      f32IsFinite (w 1) && decide ((1 / 100 : Rat) ≤ f32Rat (w 1)) &&
      f32IsFinite (w 2) && f32Lt (w 1) (w 2) && decide (f32Rat (w 2) ≤ 100) &&
      decide (f32Rat (w 2) * (24 * dec) ≤ 10 * r) &&
      f32IsFinite (w 3) && f32Positive (w 4) && f32Le (w 3) (w 4) && f32Positive (w 5) && decide (fld (w 6) 0 16 ≠ 0) &&
      decide ((5 * r : Rat) ≤ (2 ^ forget : Nat) * f32Rat (w 1) * dec)
  | 3 =>
    decide (fld (w 0) 0 4 ≠ 0) && f32Positive (w 1) && f32Le (w 1) f32Pi && f32Positive (w 2) && f32Positive (w 3) &&
      f32Lt (w 3) (w 1) && f32Positive (w 4) && f32Lt (w 4) (w 2)
  | _ => true

/-- SYNC_REQ of an instance. -/
def syncReq (kind : Nat) (p0 : Word) : Bool := if kind = 2 then bit p0 31 else bit p0 4

/-! ### THR (R243, R244) -/

/-- The quantity x of a comparator, when usable; `prev` is signal A in the roll before, where RATE may use it. -/
def State.thrValue (s : State) (r : Roll) (sync : Bool) (t : List Byte) (o : Nat) (prev : Option Word) : Option Word :=
  let a := word (tb32 t o)
  let c := word (tb32 t (o + 8))
  match fld c 0 3 with
  | 4 =>
    match s.sigValue r sync a, prev with
    | some v, some u => some (f32Abs (f32Mul (f32Sub v u) (f32OfInt (rateOf r.rate))))
    | _, _ => none
  | 5 =>
    match s.sigPhasor r sync a, s.sigPhasor r sync (word (tb32 t (o + 4))) with
    | some x, some y => some (angleOf x y)
    | _, _ => none
  | _ => (s.sigValue r sync a).map (fun v => if bit c 3 then f32Abs v else v)

/-- Pick and drop of a comparator at x. -/
def thrPick (t : List Byte) (o : Nat) (x : Word) : Bool :=
  let hi := word (tb32 t (o + 0x0C))
  let lo := word (tb32 t (o + 0x10))
  match tb32 t (o + 8) % 8 with
  | 2 => f32Lt x lo
  | 3 => f32Lt hi x || f32Lt x lo
  | _ => f32Lt hi x

def thrDrop (t : List Byte) (o : Nat) (x : Word) : Bool :=
  let hi := f32Sub (word (tb32 t (o + 0x0C))) (word (tb32 t (o + 0x14)))
  let lo := f32Add (word (tb32 t (o + 0x10))) (word (tb32 t (o + 0x14)))
  match tb32 t (o + 8) % 8 with
  | 2 => f32Lt lo x
  | 3 => f32Lt x hi && f32Lt lo x
  | _ => f32Lt x hi

/-- A comparator moves in a roll (R244). -/
def compMove (t : List Byte) (o : Nat) (x : Option Word) (c : Comp) : Comp :=
  let w := word (tb32 t (o + 8))
  match x with
  | none =>
    match fld w 12 2 with
    | 1 => { c with on := false, count := 0 }
    | 2 => { c with on := true, count := 0 }
    | _ => c
  | some x =>
    if c.on then
      if thrDrop t o x then
        (if c.count + 1 = fld w 8 4 then { c with on := false, count := 0 } else { c with count := c.count + 1 })
      else { c with count := 0 }
    else if thrPick t o x then
      (if c.count + 1 = fld w 4 4 then { c with on := true, count := 0 } else { c with count := c.count + 1 })
    else { c with count := 0 }

/-- A bitmap of `n` bits, bit i in octet i div 8. -/
def bitmap (n : Nat) (p : Nat → Bool) : List Byte :=
  (List.range ((n + 7) / 8)).map (fun j =>
    byte ((List.range 8).foldl (fun a b => if 8 * j + b < n && p (8 * j + b) then a + 2 ^ b else a) 0))

/-- A THR instance processes a roll; `adjacent` says that the roll before was processed without GAP or reset between. -/
def State.thrRun (s : State) (r : Roll) (c : Commit) (st : LessonState) (adjacent : Bool) : Result :=
  let t := c.table
  let sync := syncReq 4 (c.par.getD 0 0)
  let comps := (List.range (count1 t)).map (fun i =>
    let o := 64 + 32 * i
    let old := st.comps.getD i {}
    let x := s.thrValue r sync t o (if adjacent then old.prev else none)
    { compMove t o x old with prev := s.sigValue r sync (word (tb32 t o)) })
  let dec := (List.range (count1 t)).foldl (fun a i =>
    if (comps.getD i {}).on then a ||| 2 ^ fld (word (tb32 t (72 + 32 * i))) 16 6 else a) 0
  { payload := leBytes 4 (count1 t) ++ bitmap (count1 t) (fun i => (comps.getD i {}).on)
    dec := dec
    val0 := some (word (comps.filter (fun c => c.on)).length)
    state := { st with comps := comps } }

/-! ### ISL (R254-R256) -/

/-- One area over its usable members in entry order: Z as real and imaginary sums, Σ w f and Σ w; none while unknown. -/
def State.islArea (s : State) (r : Roll) (sync : Bool) (t : List Byte) (a : Nat) : Option (Word × Word × Word × Word) :=
  (List.range (count2 t)).foldl (fun acc i =>
    let o := 64 + 16 * i
    if tb32 t o % 64 = a then
      match s.sigPhasor r sync (word (tb32 t (o + 4))), s.sigValue r sync (word (tb32 t (o + 8))) with
      | some v, some f =>
        let m := phMag v
        if f32Lt 0 m then
          let w := word (tb32 t (o + 12))
          let z := acc.getD (0, 0, 0, 0)
          some (f32Fma w (f32Div v.1 m) z.1, f32Fma w (f32Div v.2 m) z.2.1, f32Fma w f z.2.2.1, f32Add z.2.2.2 w)
        else acc
      | _, _ => acc
    else acc) none

/-- A tie moves in a roll in which both ends are known (R255). -/
def tieMove (confirm : Nat) (angLim freqLim angHyst freqHyst dth df : Word) (x : Tie) : Tie :=
  let cond := if x.apart then f32Lt dth (f32Sub angLim angHyst) && f32Lt df (f32Sub freqLim freqHyst)
    else f32Le angLim dth || f32Le freqLim df
  if cond then (if x.count + 1 = confirm then ⟨!x.apart, 0⟩ else { x with count := x.count + 1 }) else { x with count := 0 }

/-- Labels of the partition: the lowest area of each component of the known areas, joined by JOINED ties (R256). -/
def islLabels (n : Nat) (known : Nat → Bool) (joined : List (Nat × Nat)) : List Nat :=
  let start := (List.range n).map (fun a => if known a then a else 0xFF)
  (List.range n).foldl (fun l _ =>
    joined.foldl (fun l e =>
      let m := min (l.getD e.1 0xFF) (l.getD e.2 0xFF)
      if known e.1 && known e.2 then (l.set e.1 m).set e.2 m else l) l) start

def State.islRun (s : State) (r : Roll) (c : Commit) (st : LessonState) : Result :=
  let t := c.table
  let p := fun i => c.par.getD i 0
  let sync := syncReq 3 (p 0)
  let n := count1 t
  let areas := (List.range n).map (s.islArea r sync t)
  let area := fun a => areas.getD a none
  let freq := fun a => (area a).map (fun z => f32Div z.2.2.1 z.2.2.2)
  let tieOf := fun i => word (tb32 t (64 + 16 * count2 t + 4 * i))
  let ties := (List.range (count3 t)).map (fun i =>
    let x := st.ties.getD i {}
    let a := fld (tieOf i) 0 6
    let b := fld (tieOf i) 8 6
    match area a, area b, freq a, freq b with
    | some za, some zb, some fa, some fb =>
      tieMove (fld (p 0) 0 4) (p 1) (p 2) (p 3) (p 4) (angleOf (za.1, za.2.1) (zb.1, zb.2.1)) (f32Abs (f32Sub fa fb)) x
    | _, _, _, _ => x)
  let joined := (List.range (count3 t)).filterMap (fun i =>
    if (ties.getD i {}).apart then none else some (fld (tieOf i) 0 6, fld (tieOf i) 8 6))
  let labels := islLabels n (fun a => (area a).isSome) joined
  let groups := ((List.range n).filter (fun a => (area a).isSome && decide (labels.getD a 0xFF = a))).length
  let unknown := ((List.range n).filter (fun a => (area a).isNone)).length
  let changed := st.groups.isSome && decide (st.groups ≠ some groups)
  { payload := leBytes 4 groups ++ leBytes 4 unknown ++ fit 64 (labels.map byte) ++
      (List.range 64).flatMap (fun a => leBytes 4 ((if a < n then (freq a).getD f32NaN else f32NaN).toNat)) ++
      fit 252 (bitmap (count3 t) (fun i => (ties.getD i {}).apart))
    dec := (if 2 ≤ groups then 1 else 0) + (if unknown = 0 then 0 else 2)
    val0 := some (word groups)
    val1 := word unknown
    state := { st with ties := ties, groups := some groups }
    detects := changed.toNat
    changes := changed.toNat }

/-! ### LSE (R246, R247) -/

/-- binary32(1 / σ²), rounded once. -/
def f32InvSq (w : Word) : Word :=
  match b32.unpack w.toNat with
  | .fin _ m e =>
    if m = 0 then f32Div f32One 0
    else
      let q := 2 ^ 120 / (m * m)
      let sticky := if 2 ^ 120 % (m * m) = 0 then 0 else 1
      word (b32.round false (2 * q + sticky) (-2 * e - 121))
  | _ => f32Div f32One (f32Mul w w)

/-- The index of the largest value, the lowest on a tie, and that value. -/
def argMax (l : List Word) : Nat × Word :=
  (List.range l.length).foldl (fun a k => if f32Lt a.2 (l.getD k 0) then (k, l.getD k 0) else a) (0, l.getD 0 0)

/-- The passes of R246: weights, rejected measurements; the last pass's results. -/
def lsePasses (t : List Byte) (p : List Word) (z : List (Word × Word)) :
    Nat → List Word → List Nat → LsePass × List Word × List Nat
  | fuel, w, rej =>
    let x := lsePass t (count1 t) (lseOffsets t (count2 t) 64) (p.getD 3 0) w z
    let j := x.wr2.getD 0 0
    let m := argMax (x.wr2.drop 1)
    match fuel with
    | 0 => (x, w, rej)
    | fuel + 1 =>
      if bit (p.getD 0 0) 0 && f32Lt (p.getD 1 0) j && f32Lt (f32Mul (p.getD 2 0) (p.getD 2 0)) m.2 then
        lsePasses t p z fuel (w.set m.1 0) (rej ++ [m.1])
      else (x, w, rej)

def State.lseRun (s : State) (r : Roll) (c : Commit) (st : LessonState) : Result :=
  let t := c.table
  let p := c.par
  let sync := syncReq 1 (p.getD 0 0)
  let offs := lseOffsets t (count2 t) 64
  let z := offs.map (fun o => s.sigPhasor r sync (word (tb32 t o)))
  let w := (offs.zip z).map (fun e => if e.2.isSome then f32InvSq (word (tb32 t (e.1 + 4))) else 0)
  let out := lsePasses t p (z.map (fun v => v.getD (0, 0))) (fld (p.getD 0 0) 1 2) w []
  let x := out.1
  let j := x.wr2.getD 0 0
  let worst := argMax (x.wr2.drop 1)
  let unobs := fun i => x.unobs.getD i false
  let nUnobs := ((List.range (count1 t)).filter unobs).length
  let resid := f32Lt (p.getD 1 0) j
  { payload := leBytes 4 j.toNat ++ leBytes 4 ((out.2.1.filter (fun v => v ≠ 0)).length) ++ leBytes 4 nUnobs ++
      leBytes 4 worst.1 ++ leBytes 4 worst.2.toNat ++
      (List.range 3).flatMap (fun i => leBytes 4 ((out.2.2[i]?).getD 0xFFFFFFFF)) ++
      (List.range (count1 t)).flatMap (fun i =>
        let v := if unobs i then (f32NaN, f32NaN) else x.x.getD i (0, 0)
        leBytes 4 v.1.toNat ++ leBytes 4 v.2.toNat) ++
      bitmap (count1 t) unobs
    dec := resid.toNat + (if nUnobs = 0 then 0 else 2)
    val0 := some j
    val1 := word worst.1
    state := { st with resid := resid }
    detects := (resid && !st.resid).toNat
    changes := (resid && !st.resid).toNat }

/-! ### OSC (R250-R252) -/

/-- A list in ascending order of a binary32 key; equal keys keep their order. -/
def insertBy {α : Type} (key : α → Word) (x : α) : List α → List α
  | [] => [x]
  | y :: ys => if f32Lt (key x) (key y) then x :: y :: ys else y :: insertBy key x ys

def sortBy {α : Type} (key : α → Word) (l : List α) : List α := l.foldl (fun a x => insertBy key x a) []

/-- 0.1 in binary32. -/
def f32Tenth : Word := 0x3DCCCCCD

/-- The tracks of an update's modes, in ascending f (R251): the nearest unmatched mode of the previous update within a tenth
of its frequency, or a new number. -/
def oscMatch : List Mode → List (Nat × Word) → Nat → List (Nat × Bool × Mode) → List (Nat × Bool × Mode) × Nat
  | [], _, next, acc => (acc.reverse, next)
  | m :: ms, prev, next, acc =>
    let near := prev.filter (fun e => f32Le (f32Abs (f32Sub m.f e.2)) (f32Mul f32Tenth e.2))
    match sortBy (fun e => f32Abs (f32Sub m.f e.2)) near with
    | e :: _ => oscMatch ms (prev.filter (fun x => decide (x.1 ≠ e.1))) next ((e.1, false, m) :: acc)
    | [] => oscMatch ms prev ((next + 1) % 256) ((next, true, m) :: acc)

/-- A track's alarm state after an update (R252); `m` is its mode, where it is reported. -/
def trackMove (p : List Word) (m : Option Mode) (x : Track) : Track :=
  let hold := fld (p.getD 6 0) 0 16
  let cond := if x.on then
      match m with
      | some m => f32Le (p.getD 4 0) m.zeta || f32Lt m.amp (p.getD 5 0)
      | none => true
    else
      match m with
      | some m => f32Lt m.zeta (p.getD 3 0) && f32Le (p.getD 5 0) m.amp
      | none => false
  if cond then (if hold ≤ x.run + 1 then { x with on := !x.on, run := 0 } else { x with run := x.run + 1 })
  else { x with run := 0 }

/-- The update of R250-R252 at instant index `i` of a form of `rate` rolls a second. -/
def oscUpdateRoll (t : List Byte) (p : List Word) (rate : Nat) (o : Osc) (i : Nat) : Osc × Nat × Nat :=
  let n := count1 t
  let dec := fld (p.getD 0 0) 16 8
  let gap := fld (p.getD 6 0) 16 16
  let win := o.vals.filter (fun e => decide (i < e.1 + dec))
  let held := (List.range n).map (fun k =>
    let vs := win.filterMap (fun e => e.2.getD k none)
    let h := o.held.getD k (none, 0)
    if vs.isEmpty then (h.1, h.2 + 1) else (some (oscMean vs), 0))
  let ins := held.map (fun h => if gap < h.2 then none else h.1)
  let past := fld (p.getD 0 0) 8 6
  let order := fld (p.getD 0 0) 0 6
  let num := oscNext (o.num.getD (Config.oscStart n past order)) n past order (fld (p.getD 0 0) 24 5) ins
  let updates := o.updates + 1
  let ok := (oscModes n rate dec num).filter (fun m => f32Le (p.getD 1 0) m.f && f32Le m.f (p.getD 2 0))
  let kept := sortBy (fun m => m.f) ((sortBy (fun m => m.zeta) ok).take 16)
  let shown := if 2 * past ≤ updates then kept else []
  let mt := oscMatch shown (o.modes.map (fun e => (e.1, e.2.2.f))) o.nextTrack []
  let all := o.tracks ++ (mt.1.filter (fun e => e.2.1)).map (fun e => ⟨e.1, e.2.2.f, false, 0⟩)
  let moved := all.map (fun x =>
    trackMove p ((mt.1.find? (fun e => decide (e.1 = x.num))).map (fun e => e.2.2)) x)
  let rises := ((all.zip moved).filter (fun e => !e.1.on && e.2.on)).length
  let falls := ((all.zip moved).filter (fun e => e.1.on && !e.2.on)).length
  let live := moved.filter (fun x => x.on || mt.1.any (fun e => decide (e.1 = x.num)))
  ({ o with
      vals := win, held := held, num := some num, updates := updates, tracks := live, nextTrack := mt.2, modes := mt.1 },
    rises, rises + falls)

def State.oscRun (s : State) (r : Roll) (c : Commit) (st : LessonState) : Result :=
  let t := c.table
  let p := c.par
  let sync := syncReq 2 (p.getD 0 0)
  let i := r.at_.index (rateOf r.rate)
  let dec := fld (p.getD 0 0) 16 8
  let vals := (List.range (count1 t)).map (fun k => s.sigValue r sync (word (tb32 t (64 + 8 * k))))
  let o := { st.osc with vals := (i, vals) :: st.osc.vals.take 240 }
  let update := decide (i % dec = dec - 1)
  let u := if update then oscUpdateRoll t p (rateOf r.rate) o i else (o, 0, 0)
  let o := u.1
  let shapes := oscShapes t
  let alarm := fun (num : Nat) => o.tracks.any (fun x => decide (x.num = num) && x.on)
  let zetas := sortBy (fun w => w) (o.modes.map (fun e => e.2.2.zeta))
  { payload := leBytes 4 o.modes.length ++ leBytes 4 shapes.length ++ leBytes 4 update.toNat ++
      (List.range 16).flatMap (fun j =>
        match o.modes[j]? with
        | some e => leBytes 4 e.2.2.f.toNat ++ leBytes 4 e.2.2.zeta.toNat ++ leBytes 4 e.2.2.amp.toNat ++
            leBytes 4 (e.1 + 256 * (alarm e.1).toNat + 512 * e.2.1.toNat)
        | none => List.replicate 16 0) ++
      o.modes.flatMap (fun e => shapes.flatMap (fun k =>
        let v := e.2.2.shape.getD k (0, 0)
        leBytes 4 v.1.toNat ++ leBytes 4 v.2.toNat))
    dec := (o.tracks.any (fun x => x.on)).toNat + (if o.modes.any (fun e => f32Lt e.2.2.zeta 0) then 2 else 0)
    val0 := zetas.head?
    val1 := word (o.modes.length + 256 * (o.tracks.filter (fun x => x.on)).length)
    state := { st with osc := o }
    detects := u.2.1
    changes := u.2.2 }

end Sys2Proof.Machine
end

