-- ==== Sys2Proof/Machine/Answers.lean ====
section
/-! DEFINITION. The answer check (R425-R429): digests, entries, messages to the partner, and the classes of keys; and the UDP
templates that the device's own datagrams are built on (R142, R202, R260, R427). -/

namespace Sys2Proof.Machine

/-! ### Datagrams built on a template -/

/-- A UDP datagram on a header template of HBM3, its fields updated as R142 does for one segment; `ident` replaces the IPv4
Identification where it is given, and `v6` is the register's IPV6. -/
def templateFrame (v6 : Bool) (hdr payload : List Byte) (ip udp : Nat) (ident : Option Nat) : List Byte :=
  let h := match ident with
    | some i => if v6 then hdr else patch hdr (ip + 4) (beBytes 2 i)
    | none => hdr
  segmentAs v6 17
    { len := h.length + payload.length, csum := false, seg := true, ts := false, noPrp := false, hdrLen := h.length
      ipOff := ip, l4Off := udp, mss := payload.length, tsid := 0, segment := 0 } (h ++ payload) 0 1

/-- A frame for every port of a mask, with its precedence (R138). -/
def State.sendPorts (s : State) (mask source : Nat) (f : List Byte) : State :=
  (List.range 4).foldl (fun s p =>
    if mask / 2 ^ p % 2 = 1 && s.domOn (portDomain p) then s.txQueue p source f else s) s

/-! ### Digests (R425, R426) -/

/-- The ANSWER_CHECK key, while its slot serves. -/
def State.ansKey (s : State) : Option (List Byte) := (s.keyFor (s.rf Reg.RED_KEY 0 8) 4).map (fun k => k.material)

/-- The exclusive OR of two strings of 8 octets. -/
def xor8 (a b : List Byte) : List Byte := (List.range 8).map (fun i => a.getD i 0 ^^^ b.getD i 0)

def zero8 : List Byte := List.replicate 8 0

/-- h(x): the first 8 octets of the HMAC; 0 without a key. -/
def State.ansHash (s : State) (x : List Byte) : List Byte :=
  match s.ansKey with
  | some k => (hmac k x).take 8
  | none => zero8

/-- The answer check asks for its key: a slot that fails it is checked and counted (R394, R404, R416). -/
def State.ansUse (s : State) : State := if s.ansKey.isNone then s.keyFail (s.rf Reg.RED_KEY 0 8) else s

/-- R_m: a frame record with INGRESS_NS, INGRESS_SEC_LO and PORT 0. -/
def digestRecord (rc : List Byte) : List Byte :=
  patch (patch rc 8 (List.replicate 8 0)) 7 [byte (octet rc 7 &&& 0xF9)]

/-- The PDIG and VDIG terms of member `m` (R425). -/
def State.memberTerms (s : State) (form seq m : Nat) (rc : List Byte) : List Byte × List Byte :=
  let k := beBytes 1 form ++ beBytes 4 seq ++ beBytes 2 m
  (s.ansHash (beBytes 1 0x50 ++ k), s.ansHash (beBytes 1 0x56 ++ k ++ digestRecord rc))

/-- PDIG and VDIG of a roll over its present members and their records (R425). -/
def State.rollDigests (s : State) (form seq rate : Nat) (ms : List (Nat × List Byte)) : List Byte × List Byte :=
  ms.foldl (fun d e =>
    let t := s.memberTerms form seq e.1 e.2
    (xor8 d.1 t.1, xor8 d.2 t.2)) (zero8, s.ansHash (beBytes 1 0x48 ++ beBytes 1 form ++ beBytes 4 seq ++ beBytes 1 rate))

/-- The lesson state as a list of numbers. -/
def LessonState.code (x : LessonState) : List Nat :=
  let opt := fun (w : Option Word) => match w with
    | some w => w.toNat + 1
    | none => 0
  x.comps.flatMap (fun c => [c.on.toNat, c.count, opt c.prev]) ++ x.ties.flatMap (fun t => [t.apart.toNat, t.count]) ++
    [(x.groups.map (fun g => g + 1)).getD 0, x.resid.toNat, x.osc.updates, x.osc.nextTrack] ++
    x.osc.vals.flatMap (fun e => e.1 :: e.2.map opt) ++ x.osc.held.flatMap (fun e => [opt e.1, e.2]) ++
    ((x.osc.num.map OscNum.code).getD []) ++ x.osc.tracks.flatMap (fun t => [t.num, t.f.toNat, t.on.toNat, t.run])

/-! ### Classes (R429) -/

/-- A mismatch is published in RED_MM, with event 54 unless QUIET. -/
def State.mismatch (s : State) (kind form inst seq : Nat) : State :=
  let s := (s.bump (Reg.RED_CNT 6)).setReg Reg.RED_MM_INFO (word (kind + 256 * form + 65536 * inst))
  let s := (s.setReg Reg.RED_MM_SEQ32 (word seq)).publish Reg.RED_MM_STATUS
  if s.rb Reg.RED_CTRL 2 then s else s.flagRaise Reg.RED_STATUS 9 54 0

/-- Whether the REL entries of a roll are known to differ. -/
def State.relDiffers (s : State) (form seq : Nat) : Bool :=
  s.answers.rels.any (fun e => decide (e.1 = form) && decide (e.2.1 = seq) && e.2.2)

/-- A roll's class at ROLL_FIN. -/
def State.classRoll (s : State) (k : AnsKey) (a b : AnsEntry) : State :=
  let same := match k.ownRel, k.peerRel with
    | some x, some y => x.d1 = y.d1 && x.d2 = y.d2
    | _, _ => false
  if same then s.bump (Reg.RED_CNT 0)
  else if a.d1 = b.d1 && a.d2 = b.d2 then s.bump (Reg.RED_CNT 1)
  else if a.d1 ≠ b.d1 then s.bump (Reg.RED_CNT 2)
  else s.mismatch 1 k.form 0 k.seq

/-- A decision's class. -/
def State.classDecision (s : State) (k : AnsKey) (a b : AnsEntry) : State :=
  let carried := s.answers.carry.contains k.inst
  let rest := s.answers.carry.filter (fun i => decide (i ≠ k.inst))
  let differs := decide (a.d2 ≠ b.d2)
  let t := { s with answers := { s.answers with carry := if differs then k.inst :: rest else rest } }
  if a.d1 = b.d1 && a.d2 = b.d2 then t.bump (Reg.RED_CNT 0)
  else if a.flags % 2 = 1 || b.flags % 2 = 1 then t.bump (Reg.RED_CNT 3)
  else if s.relDiffers k.form k.seq then t.bump (Reg.RED_CNT 4)
  else if carried then t.bump (Reg.RED_CNT 5)
  else t.mismatch 3 k.form k.inst k.seq

/-- Whether a key is the one an entry belongs to. -/
def AnsKey.holds (k : AnsKey) (e : AnsEntry) : Bool :=
  (k.roll = decide (e.kind ≠ 3)) && decide (k.form = e.form) && decide (k.inst = e.inst) && decide (k.seq = e.seq)

/-- A key takes an entry. -/
def AnsKey.take (k : AnsKey) (own : Bool) (now : Nat) (e : AnsEntry) : AnsKey :=
  match own, decide (e.kind = 1) with
  | true, true => { k with ownRel := some e, relAt := now }
  | true, false => { k with ownFin := some e, finAt := now }
  | false, true => { k with peerRel := some e }
  | false, false => { k with peerFin := some e }

/-- Keys that may await comparison (R429). -/
def answerKeys : Nat := 4096

/-- An own or a partner's entry enters the comparison; a key with both units' final entries is classified. -/
def State.ansNote (s : State) (own : Bool) (e : AnsEntry) : State :=
  let old := s.answers.keys.find? (fun k => k.holds e)
  let k := ((old.getD { roll := decide (e.kind ≠ 3), form := e.form, inst := e.inst, seq := e.seq }).take own s.now e)
  let rest := s.answers.keys.filter (fun x => !x.holds e)
  let rels := match k.ownRel, k.peerRel with
    | some x, some y =>
      ((k.form, k.seq, decide (x.d1 ≠ y.d1) || decide (x.d2 ≠ y.d2)) ::
        s.answers.rels.filter (fun r => !(decide (r.1 = k.form) && decide (r.2.1 = k.seq)))).take answerKeys
    | _, _ => s.answers.rels
  let s := { s with answers := { s.answers with rels := rels } }
  match k.ownFin, k.peerFin with
  | some a, some b =>
    let s := { s with answers := { s.answers with keys := rest } }
    if k.roll then s.classRoll k a b else s.classDecision k a b
  | _, _ =>
    let keys := match old with
      | some _ => s.answers.keys.map (fun x => if x.holds e then k else x)
      | none => s.answers.keys ++ [k]
    if keys.length ≤ answerKeys then { s with answers := { s.answers with keys := keys } }
    else ({ s with answers := { s.answers with keys := keys.drop 1 } }).bump (Reg.RED_CNT 7)

/-- The unit's own entry: queued for the partner and compared (R427). -/
def State.ansEntry (s : State) (e : AnsEntry) : State :=
  if s.rb Reg.RED_CTRL 1 then
    let b := s.answers.batch
    let s := { s with answers := { s.answers with batch := b ++ [e], since := if b.isEmpty then s.now else s.answers.since } }
    s.ansNote true e
  else s

/-- AWAIT_EXPIRY: keys whose partner entry has not come within AWAIT_MS of their own are counted UNPAIRED. -/
def State.awaitExpiry (s : State) : State :=
  let t := s.rf Reg.RED_PEER 16 16 * fsPerMs
  let due := fun (k : AnsKey) =>
    (k.ownRel.isSome && k.peerRel.isNone && decide (k.relAt + t ≤ s.now)) ||
      (k.ownFin.isSome && k.peerFin.isNone && decide (k.finAt + t ≤ s.now))
  let n := (s.answers.keys.filter due).length
  if !s.domOn pdSch || n = 0 then s
  else ({ s with answers := { s.answers with keys := s.answers.keys.filter (fun k => !due k) } }).bumpBy (Reg.RED_CNT 7) n

/-! ### Messages (R427, R428) -/

/-- The 32 octets of an entry. -/
def entryOctets (nokey : Bool) (e : AnsEntry) : List Byte :=
  beBytes 1 e.kind ++ beBytes 1 e.flags ++ beBytes 1 e.form ++ beBytes 1 e.inst ++ beBytes 4 e.seq ++
    (if nokey then zero8 else fit 8 e.d1) ++ (if nokey then zero8 else fit 8 e.d2) ++ beBytes 2 e.present ++ List.replicate 6 0

/-- The largest batch: 32, or on a Fjarni link what a packet of 1,024 octets carries (R427, R431). -/
def State.batchMax (s : State) : Nat := if s.rb Reg.RED_CTRL 3 then 32 else 31

/-- Whether a message is due: a full batch, 20 µs after its first entry, or 10 ms after the last message. -/
def State.answerDue (s : State) : Bool :=
  s.domOn pdSch && s.rb Reg.RED_CTRL 1 &&
    (decide (s.batchMax ≤ s.answers.batch.length) ||
      (!s.answers.batch.isEmpty && decide (s.answers.since + 20 * fsPerUs ≤ s.now)) ||
      decide (s.answers.lastSent + 10 * fsPerMs ≤ s.now))

/-- ANSWER_SEND (R427). -/
def State.answerSend (s : State) : State :=
  if s.answerDue then
    let es := s.answers.batch.take s.batchMax
    let nokey := s.ansKey.isNone
    let s := s.ansUse
    let body := beBytes 4 0x414E5343 ++ beBytes 1 1 ++ beBytes 1 nokey.toNat ++ beBytes 2 es.length ++
      beBytes 2 (s.rf Reg.RED_DIST 0 16) ++ [0, 0] ++ beBytes 4 s.answers.seq ++ es.flatMap (entryOctets nokey)
    let tag := match s.ansKey with
      | some k => (hmac k body).take 16
      | none => List.replicate 16 0
    let s := { s with
      answers := { s.answers with
        batch := s.answers.batch.drop s.batchMax, since := s.now, lastSent := s.now, seq := (s.answers.seq + 1) % 2 ^ 32 } }
    let s := s.setRb Reg.RED_STATUS 6 nokey
    if s.rb Reg.RED_CTRL 3 then
      let hdr := s.hbmRead (s.pair Reg.RED_ACHK_HDR_LO) (s.rf Reg.RED_ACHK_CFG 0 8)
      s.sendPorts (s.rf Reg.RED_CTRL 8 4) 1
        (templateFrame (s.rb Reg.RED_CTRL 7) hdr (body ++ tag) (s.rf Reg.RED_ACHK_CFG 8 8) (s.rf Reg.RED_ACHK_CFG 16 8) none)
    else s.fjlSend (s.rf Reg.RED_CTRL 4 3) 4 0 (body ++ tag)
  else s

/-- The entries of a message. -/
def msgEntry (m : List Byte) (i : Nat) : AnsEntry :=
  let o := 16 + 32 * i
  { kind := octet m o, flags := octet m (o + 1), form := octet m (o + 2), inst := octet m (o + 3), seq := be m (o + 4) 4
    d1 := slice m (o + 8) 8, d2 := slice m (o + 16) 8, present := be m (o + 24) 2 }

/-- Whether a message is accepted: whole, from the partner, its tag verified. A message with NOKEY carries no tag. -/
def State.answerOk (s : State) (m : List Byte) : Bool :=
  let n := be m 6 2
  decide (be m 0 4 = 0x414E5343) && decide (octet m 4 = 1) && decide (n ≤ 32) && decide (m.length = 32 + 32 * n) &&
    decide (be m 8 2 = s.rf Reg.RED_PEER_DIST 0 16) &&
    (octet m 5 % 2 = 1 ||
      match s.ansKey with
      | some k => slice m (16 + 32 * n) 16 = (hmac k (m.take (16 + 32 * n))).take 16
      | none => true)

/-- ANSWER_RECEIVE (R428): a message arrives. -/
def State.answerReceive (s : State) (m : List Byte) : State :=
  if !s.domOn pdSch then s
  else if s.answerOk m then
    let s := ({ s with answers := { s.answers with heard := s.now } }).setRb Reg.RED_STATUS 5 true
    if octet m 5 % 2 = 1 then s.bump (Reg.RED_CNT 7)
    else if s.ansKey.isNone then s.ansUse.bump (Reg.RED_CNT 7)
    else if s.rb Reg.RED_CTRL 1 then
      (List.range (be m 6 2)).foldl (fun s i => s.ansNote false (msgEntry m i)) s
    else s
  else s.bump (Reg.RED_CNT 7)

/-- RED_PEER_LOST: no accepted message within PEER_MS (R428). -/
def State.peerLost (s : State) : State :=
  if s.domOn pdSch && s.rb Reg.RED_STATUS 5 && decide (s.answers.heard + s.rf Reg.RED_PEER 0 16 * fsPerMs ≤ s.now) then
    (s.setRb Reg.RED_STATUS 5 false).flagRaise Reg.RED_STATUS 10 55 0
  else s

/-- TARDY_WINDOW_END: the oldest roll whose tardy window has ended gives its ROLL_FIN entry (R425, R427). -/
def State.tardyWindowEnd (s : State) : State :=
  match s.answers.windows.find? (fun w => decide (w.until_ ≤ s.tbNow w.tb)) with
  | some w =>
    if s.domOn pdSch then
      ({ s with answers := { s.answers with windows := s.answers.windows.erase w } }).ansEntry w.fin
    else s
  | none => s

/-- A tardy slip of a roll adds its member's terms to the final digests (R425). -/
def State.tardyTerms (s : State) (form seq m : Nat) (rc : List Byte) : State :=
  let t := s.memberTerms form seq m rc
  let s := if s.answers.windows.any (fun w => decide (w.fin.form = form) && decide (w.fin.seq = seq)) then s.ansUse else s
  { s with
    answers := { s.answers with
      windows := s.answers.windows.map (fun w =>
        if w.fin.form = form && w.fin.seq = seq then
          { w with fin := { w.fin with d1 := xor8 w.fin.d1 t.1, d2 := xor8 w.fin.d2 t.2 } }
        else w) } }

end Sys2Proof.Machine
end

