-- ==== Sys2Proof/Machine/Desk.lean ====
section
/-! DEFINITION. The arithmetic of a desk (R209-R211): every operation with its value and the exception kinds it raises. -/

namespace Sys2Proof.Machine

/-- The exception bits of R211: INVALID, DIVZERO, OVERFLOW, UNDERFLOW. -/
def excInvalid : Nat := 1
def excDivZero : Nat := 2
def excOverflow : Nat := 4
def excUnderflow : Nat := 8

/-- The kinds that a binary32 result `r` of operands `xs` raises; `zero` says that the exact result is zero (R211). -/
def floatExc (xs : List Word) (r : Word) (zero : Bool) : Nat :=
  if xs.any f32IsNaN then 0
  else if f32IsNaN r then excInvalid
  else if !f32IsFinite r then (if xs.all f32IsFinite then excOverflow else 0)
  else if r.toNat % 2 ^ 31 = 0 && !zero then excUnderflow
  else 0

/-- The exact value of a finite operand as an integer over 2^-400; 0 for others. -/
def exact32 (w : Word) : Int :=
  match b32.unpack w.toNat with
  | .fin neg m e => scaleTo neg m e (-400)
  | _ => 0

/-- A zero of either sign, or a subnormal read as one. -/
def isZero32 (w : Word) : Bool := f32IsFinite w && decide (exact32 w = 0)

/-- A truth value as a word. -/
def flagWord (b : Bool) : Word := if b then 1 else 0

/-- The value of an operation on operands `a`, `b`, `c` with the exception kinds it raises (R209-R211). A comparison or a selection
gives 1 or 0, or chooses by whether its first operand is non-zero. -/
def deskCompute (op : DeskOp) (a b c : Word) : Word × Nat :=
  let ord := Fmt.cmp b32 a.toNat b.toNat
  let plain (w : Word) : Word × Nat := (w, 0)
  match op with
  | .fma =>
    let r := f32Fma a b c
    (r, floatExc [a, b, c] r (decide (exact32 a * exact32 b + exact32 c * 2 ^ 400 = 0)))
  | .fadd => (f32Add a b, floatExc [a, b] (f32Add a b) (decide (exact32 a + exact32 b = 0)))
  | .fsub => (f32Sub a b, floatExc [a, b] (f32Sub a b) (decide (exact32 a - exact32 b = 0)))
  | .fmul => (f32Mul a b, floatExc [a, b] (f32Mul a b) (isZero32 a || isZero32 b))
  | .fdiv =>
    let r := f32Div a b
    (r, if isZero32 b && f32IsFinite a && !isZero32 a then excDivZero else floatExc [a, b] r (isZero32 a || !f32IsFinite b))
  | .fsqrt => (f32Sqrt a, floatExc [a] (f32Sqrt a) (isZero32 a))
  | .fmin => plain (f32Min a b)
  | .fmax => plain (f32Max a b)
  | .fcmpEq => plain (flagWord (decide (ord = some .eq)))
  | .fcmpLt => plain (flagWord (decide (ord = some .lt)))
  | .fcmpLe => plain (flagWord (decide (ord = some .lt) || decide (ord = some .eq)))
  | .fcmpUnord => plain (flagWord ord.isNone)
  | .fabs => plain (f32Abs a)
  | .fneg => plain (f32Neg a)
  | .f2i =>
    let v := Fmt.toInt32 b32 a.toNat
    let back := b32.unpack a.toNat
    let bad := match back with
      | .nan => true
      | .inf _ => true
      | .fin neg m e =>
        let x : Int := if 0 ≤ e then (m * 2 ^ e.toNat : Nat) else (rneShift m (-e).toNat : Nat)
        decide ((if neg then -x else x) ≠ v)
    (BitVec.ofInt 32 v, if bad then excInvalid else 0)
  | .i2f => plain (f32OfInt a.toInt)
  | .iadd => plain (a + b)
  | .isub => plain (a - b)
  | .imul => plain (a * b)
  | .and => plain (a &&& b)
  | .or => plain (a ||| b)
  | .xor => plain (a ^^^ b)
  | .shl => plain (a <<< (b.toNat % 32))
  | .shr => plain (a >>> (b.toNat % 32))
  | .sar => plain (BitVec.sshiftRight a (b.toNat % 32))
  | .icmpEq => plain (flagWord (decide (a = b)))
  | .icmpLt => plain (flagWord (decide (a.toInt < b.toInt)))
  | .icmpLtu => plain (flagWord (decide (a.toNat < b.toNat)))
  | .imin => plain (if a.toInt < b.toInt then a else b)
  | .imax => plain (if a.toInt < b.toInt then b else a)
  | .sel => plain (if a = 0 then c else b)
  | .mov => plain a
  | .send => plain a
  | .recv => plain a

/-- The parity bit of a slate word (R214): even parity. -/
def parityOf (w : Word) : Bool := decide ((List.range 32).foldl (fun a i => a + (bit w i).toNat) 0 % 2 = 1)

/-- A word as a slate holds it. -/
def slateWord (w : Word) : SlateWord := { w := w, parity := parityOf w }

end Sys2Proof.Machine
end

