-- ==== Sys2Proof/Machine/Dataflow.lean ====
section
/-! DEFINITION. The dataflow of a lesson's roll (R209, R211, R214-R218): desks fire operations whose operands are present and whose
destination is free, and words move over the connections that the plan fixes. A network is run until nothing can move; its result
depends on the plan and the inputs alone, whatever the order (R19). -/

namespace Sys2Proof.Machine

/-- What a run of a lesson works on in one classroom, or in the copy of it that cover computes: the plan's connections, the run,
slates, chalkboard and words in flight; the number under which a logical desk's slate stands, whether the desk works, its operation
store, the report-card lanes that take words, and the words of the roll's image. -/
structure Room where
  plan : ClassPlan
  run : Run
  slates : Tab SlateWord
  board : Tab Word
  bad : List Nat
  flight : Tab (Option Word)
  at_ : Nat → Nat
  live : Nat → Bool
  store : Nat → List OpSlot
  lane : Nat → Bool
  frame : Nat → Word

/-- The operations of logical desk `d` for the lesson, with their slot numbers (R209). -/
def Room.slots (r : Room) (d : Nat) : List (OpSlot × Nat) :=
  ((r.store d).take 512).zipIdx.filter (fun e => decide (e.1.tag = r.run.tag) && e.1.ok)

/-- The connections of the lesson, with their numbers. -/
def Room.wires (r : Room) : List (Wire × Nat) := r.plan.wires.zipIdx.filter (fun e => decide (e.1.tag = r.run.tag))

/-- The word that connection `n` holds unacknowledged. -/
def Room.held (r : Room) (n : Nat) : Option Word := Tab.get (fun _ => none) r.run.chans n

/-- Connection `n` holds `v` from now on. -/
def Room.hold (r : Room) (n : Nat) (v : Option Word) : Room :=
  { r with run := { r.run with chans := Tab.put (fun _ => none) r.run.chans n v } }

/-- How often slot `j` of desk `d` has fired in the roll. -/
def Room.fired (r : Room) (d j : Nat) : Nat := Tab.get (fun _ => 0) r.run.fired (512 * d + j)

/-- Words that connection `n` has been given from outside the desks, and words that an end outside them has taken. -/
def Room.given (r : Room) (n : Nat) : Nat := Tab.get (fun _ => 0) r.run.given n
def Room.taken (r : Room) (n : Nat) : Nat := Tab.get (fun _ => 0) r.run.taken n

/-- It is the turn of slot `j` of desk `d` among those that `p` names: each earlier slot is a round ahead, each later one as far, up to
the rounds it has (assumption 91). -/
def Room.turn (r : Room) (d j : Nat) (p : OpSlot → Bool) : Bool :=
  (r.slots d).all (fun e => !p e.1 || decide (e.2 = j) ||
    decide (min (r.fired d j + if e.2 < j then 1 else 0) e.1.times ≤ r.fired d e.2))

/-- The slate word `w` of desk `d`. -/
def Room.slate (r : Room) (d w : Nat) : SlateWord := Tab.get (fun _ => {}) r.slates (1024 * r.at_ d + w)

/-- An operand of slot `j` of desk `d`, where it is present: a slate word in its turn among those that write it, a channel's word in its
turn among those that read it. A slate word with a parity error delivers nothing (R227). -/
def Room.operand (r : Room) (d j : Nat) : OpSrc → Option Word
  | .imm v => some v
  | .slate w =>
    let x := r.slate d w
    if r.turn d j (fun o => o.writes (.slate w)) && decide (x.parity = parityOf x.w) then some x.w else none
  | .chan i =>
    if r.turn d j (fun o => o.reads (.chan i)) then
      match r.wires.find? (fun e => decide (e.1.dst = .deskIn d i)) with
      | some e => r.held e.2
      | none => none
    else none

/-- The destination of slot `j` of desk `d` is free: a slate word in its turn among those that read or write it; an output channel once
the words before have been acknowledged. -/
def Room.free (r : Room) (d j : Nat) : OpDst → Bool
  | .slate w => r.turn d j (fun o => o.reads (.slate w) || o.writes (.slate w))
  | .port o =>
    r.turn d j (fun x => x.writes (.port o)) &&
      r.wires.all (fun e => !decide (e.1.src = .deskOut d o) || (r.held e.2).isNone)

/-- A desk holds all operands of an operation, with its destination free (R209, R227). -/
def Room.ready (r : Room) (d : Nat) (e : OpSlot × Nat) : Bool :=
  decide (r.fired d e.2 < e.1.times) && e.1.srcs.all (fun o => (r.operand d e.2 o).isSome) && r.free d e.2 e.1.dst

/-- Desk `d` holds all operands of some operation. -/
def Room.waiting (r : Room) (d : Nat) : Bool := (r.slots d).any (fun e => r.ready d e)

/-- A slate word is written with its parity. -/
def Room.putSlate (r : Room) (d w : Nat) (v : Word) : Room :=
  let k := 1024 * r.at_ d + w
  { r with
    slates := Tab.put (fun _ => {}) r.slates k (slateWord v)
    run := { r.run with undoSlates := (k, r.slate d w) :: r.run.undoSlates } }

/-- A chalkboard word is written; the error of its 64-bit word is gone. -/
def Room.putBoard (r : Room) (w0 : Nat) (v : Word) : Room :=
  let w := w0 % boardWords
  { r with
    board := Tab.put (fun _ => 0) r.board w v
    bad := r.bad.filter (fun k => decide (k ≠ w / 2))
    run := { r.run with undoBoard := (w, Tab.get (fun _ => 0) r.board w) :: r.run.undoBoard } }

/-- The 64-bit chalkboard word of word `w` has an uncorrectable error. -/
def Room.badAt (r : Room) (w : Nat) : Bool := r.bad.contains (w % boardWords / 2)

/-- A chalkboard word as it is delivered: 0x7FC0_0000 where an uncorrectable error has hit it (R228). -/
def Room.boardWord (r : Room) (w : Nat) : Word :=
  if r.badAt w then f32NaN else Tab.get (fun _ => 0) r.board (w % boardWords)

/-- A result reaches its destination: a slate word, or every connection of an output channel. -/
def Room.deliver (r : Room) (d : Nat) (v : Word) : OpDst → Room
  | .slate w => r.putSlate d w v
  | .port o => r.wires.foldl (fun r e => if e.1.src = .deskOut d o then r.hold e.2 (some v) else r) r

/-- The words of the channels that an operation reads are acknowledged. -/
def Room.acknowledge (r : Room) (d : Nat) (x : OpSlot) : Room :=
  r.wires.foldl (fun r e =>
    match e.1.dst with
    | .deskIn d' i => if d' = d && x.reads (.chan i) then r.hold e.2 none else r
    | _ => r) r

/-- Slot `e` of desk `d` fires: its operands are taken, its exceptions stick, its result is delivered (R209-R211). -/
def Room.fire (r : Room) (d : Nat) (e : OpSlot × Nat) : Room :=
  let vs := e.1.srcs.map (fun o => (r.operand d e.2 o).getD 0)
  let x := deskCompute e.1.op (vs.getD 0 0) (vs.getD 1 0) (vs.getD 2 0)
  let run := { r.run with
    fired := Tab.put (fun _ => 0) r.run.fired (512 * d + e.2) (r.fired d e.2 + 1)
    exc := Tab.put (fun _ => 0) r.run.exc d (Tab.get (fun _ => 0) r.run.exc d ||| x.2) }
  (({ r with run := run }).acknowledge d e.1).deliver d x.1 e.1.dst

/-- The operations of desk `d` that are ready fire, in slot order. -/
def Room.fireDesk (r : Room) (d : Nat) : Room :=
  if r.live d then (r.slots d).foldl (fun r e => if r.ready d e then r.fire d e else r) r else r

/-- Access `k` of a connection to the chalkboard has its dependencies behind it (R217). -/
def Room.due (r : Room) (e : Wire) (k : Nat) : Bool :=
  e.after.all (fun a =>
    let m := r.plan.wires.getD a.1 {}
    let n := match m.src with
      | .boardGet _ => r.given a.1
      | _ => r.taken a.1
    decide (k + 1 ≤ n + a.2) || decide (m.times ≤ n))

/-- The word that an end outside the desks gives connection `e` as its word `k`. -/
def Room.source (r : Room) (e : Wire) (k : Nat) : Option Word :=
  match e.src with
  | .boardGet w => if r.due e k then some (r.boardWord (w + k * e.step)) else none
  | .frame off => some (r.frame (off + k * e.step))
  | .table off => some (word (le r.run.table (off + k * e.step) 4))
  | _ => none

/-- The run notes the error of the chalkboard word that connection `e` reads as its word `k` (R228). -/
def Room.noteUe (r : Room) (e : Wire) (k : Nat) : Room :=
  match e.src with
  | .boardGet w =>
    let n := (w + k * e.step) % boardWords / 2
    if r.badAt (w + k * e.step) && !r.run.ue.contains n then { r with run := { r.run with ue := n :: r.run.ue } } else r
  | _ => r

/-- Connection `e` takes a word from outside the desks. -/
def Room.give (r : Room) (e : Wire × Nat) : Room :=
  let k := r.given e.2
  if e.1.times ≤ k || (r.held e.2).isSome then r
  else
    match r.source e.1 k with
    | some v =>
      let r := r.noteUe e.1 k
      ({ r with run := { r.run with given := Tab.put (fun _ => 0) r.run.given e.2 (k + 1) } }).hold e.2 (some v)
    | none => r

/-- The word of connection `n` has been taken by an end outside the desks. -/
def Room.took (r : Room) (n : Nat) : Room :=
  ({ r with run := { r.run with taken := Tab.put (fun _ => 0) r.run.taken n (r.taken n + 1) } }).hold n none

/-- An end outside the desks takes the word of connection `e`: the chalkboard once the accesses it depends on are done, a report-card
lane that takes words, a neighbour port with nothing in flight on that channel; until then its sender is stalled (R215). -/
def Room.take (r : Room) (e : Wire × Nat) : Room :=
  let k := r.taken e.2
  match r.held e.2 with
  | none => r
  | some v =>
    match e.1.dst with
    | .boardPut w => if r.due e.1 k then (r.putBoard (w + k * e.1.step) v).took e.2 else r
    | .lane d pos =>
      if r.lane d then
        ({ r with run := { r.run with
          words := Tab.put (fun _ => none) r.run.words (16 * d + (pos + k * e.1.step) % 16) (some v) } }).took e.2
      else r
    | .neighbour up n =>
      let n := 2 * n + up.toNat
      if (Tab.get (fun _ => none) r.flight n).isNone then
        ({ r with flight := Tab.put (fun _ => none) r.flight n (some v) }).took e.2
      else r
    | _ => r

/-- Everything that can move within a classroom moves once. -/
def Room.sweep (r : Room) : Room :=
  let r := r.wires.foldl (fun r e => (r.give e).take e) r
  (List.range 128).foldl (fun r d => r.fireDesk d) r

/-- The classrooms of a lesson's roll, by number. -/
abbrev Net := List (Nat × Room)

/-- The word in flight on channel `n` out of classroom `c`, and the network without it. -/
def Net.fetch (n : Net) (c k : Nat) : Option (Word × Net) :=
  match n.find? (fun e => decide (e.1 = c)) with
  | none => none
  | some e =>
    match Tab.get (fun _ => none) e.2.flight k with
    | none => none
    | some v =>
      some (v, n.map (fun x =>
        if x.1 = c then (x.1, { x.2 with flight := Tab.put (fun _ => none) x.2.flight k none }) else x))

/-- Connection `e` of classroom `c` takes a word that a neighbour has in flight to it, where `open_` says that the link between two
classrooms is not closed (R216, R218). -/
def Net.receive (open_ : Nat → Bool) (n : Net) (c : Nat) (e : Wire × Nat) : Net :=
  match e.1.src with
  | .neighbour up k =>
    let full := n.any (fun x => decide (x.1 = c) && (x.2.held e.2).isSome)
    if full || !(if up then open_ c else decide (c ≠ 0) && open_ (c - 1)) then n
    else
      match n.fetch (if up then c + 1 else c - 1) (2 * k + (!up).toNat) with
      | none => n
      | some (v, n') => n'.map (fun x => if x.1 = c then (x.1, x.2.hold e.2 (some v)) else x)
  | _ => n

/-- Everything that can move moves once. -/
def Net.sweep (open_ : Nat → Bool) (n : Net) : Net :=
  let n := n.foldl (fun m x => x.2.wires.foldl (fun m e => Net.receive open_ m x.1 e) m) n
  n.map (fun x => (x.1, x.2.sweep))

/-- The network is swept until nothing moves. -/
def Net.settle (open_ : Nat → Bool) : Nat → Net → Net
  | 0, n => n
  | fuel + 1, n =>
    let m := Net.sweep open_ n
    if m.map (fun x => (x.2.run, x.2.flight)) = n.map (fun x => (x.2.run, x.2.flight)) then n else Net.settle open_ fuel m

/-- As many sweeps as a network can need: a sweep that is not the last moves a word, every word stems from a firing or from outside, and
none moves more than four times on any connection. -/
def Net.fuel (n : Net) : Nat :=
  let words := n.foldl (fun a x => a + x.2.wires.foldl (fun a e => a + e.1.times) 0 +
    (List.range 128).foldl (fun a d => a + (x.2.slots d).foldl (fun a e => a + e.1.times) 0) 0) 1
  4 * words * n.foldl (fun a x => a + x.2.wires.length) 1

/-- The lane of logical desk `d` holds a word: a record is offered on it (R215, R219). -/
def Room.offers (r : Room) (d : Nat) : Bool :=
  r.wires.any (fun e => (match e.1.dst with
    | .lane d' _ => decide (d' = d)
    | _ => false) && (r.held e.2).isSome)

/-- The record of logical desk `d`, once its operations have fired and its lane has taken its words (R211, R219). -/
def Room.record (r : Room) (d : Nat) : Option Record :=
  let lanes := r.wires.filter (fun e => match e.1.dst with
    | .lane d' _ => decide (d' = d)
    | _ => false)
  let words := (List.range 16).map (fun p => Tab.get (fun _ => none) r.run.words (16 * d + p))
  let n := 16 - (words.reverse.takeWhile (fun w => w.isNone)).length
  if n ≠ 0 && lanes.all (fun e => decide (e.1.times ≤ r.taken e.2)) &&
      (r.slots d).all (fun e => decide (e.1.times ≤ r.fired d e.2)) then
    some { words := (words.take n).map (fun w => w.getD 0), exc := Tab.get (fun _ => 0) r.run.exc d }
  else none

/-- A lesson's state starts from what the plan gives it (R73, R74); other words are 0. -/
def initialMemo (p : ClassPlan) : Memo :=
  { slates := p.slates.foldl (fun t e => Tab.put (fun _ => {}) t (1024 * e.1 + e.2.1 % 1024) (slateWord e.2.2)) []
    board := p.board.foldl (fun t e => Tab.put (fun _ => 0) t (e.1 % boardWords) e.2) [] }

/-- The words that the lesson `tag` writes take their initial values; `at_` gives the number of a logical desk's slate. -/
def Memo.restart (m : Memo) (p : ClassPlan) (tag : Nat) (at_ : Nat → Nat) : Memo :=
  let i := initialMemo p
  { slates := (p.ownSlates tag).foldl (fun t e =>
      Tab.put (fun _ => {}) t (1024 * at_ e.1 + e.2) (Tab.get (fun _ => {}) i.slates (1024 * e.1 + e.2))) m.slates
    board := (p.ownBoard tag).foldl (fun t w => Tab.put (fun _ => 0) t w (Tab.get (fun _ => 0) i.board w)) m.board
    bad := m.bad.filter (fun k => (p.ownBoard tag).all (fun w => decide (w / 2 ≠ k))) }

end Sys2Proof.Machine
end

