-- ==== Sys2Proof/Machine/Fabric.lean ====
section
/-! DEFINITION. The Avmer fabric and cover mode (R209-R229, R356-R359): the runs of lessons on classrooms and in cover, desks and their
retirement, result records and report cards, faults, and the division of spare desks. -/

namespace Sys2Proof.Machine

/-! ### Classrooms and desks (R225, R226) -/

def State.classroom (s : State) (c : Nat) : Classroom := Tab.get (fun _ => {}) s.classrooms c
def State.setClassroom (s : State) (c : Nat) (x : Classroom) : State :=
  { s with classrooms := Tab.put (fun _ => {}) s.classrooms c x }

/-- IMG_CLS_STATEc.STATE: 0 EMPTY, 1 SERVICE, 2 HANDOVER, 3 COVERED (R79). -/
def State.clsState (s : State) (c : Nat) : Nat := s.rf (Reg.IMG_CLS_STATE c) 0 2
def State.setClsState (s : State) (c st : Nat) : State := s.setRf (Reg.IMG_CLS_STATE c) 0 2 st

/-- Physical desks and spares of a classroom. -/
def deskCount : Nat := 136

/-- State of physical desk `p`: 0 UNCHECKED, 1 ACTIVE, 2 SPARE, 3 RETIRED. -/
def State.desk (s : State) (c p : Nat) : Nat := Tab.get (fun _ => 0) (s.classroom c).desks p
def State.setDesk (s : State) (c p st : Nat) : State :=
  let x := s.classroom c
  s.setClassroom c { x with desks := Tab.put (fun _ => 0) x.desks p st }

/-- The physical desk behind logical desk `d` of classroom `c`; 0xFF when unmapped (FABc_MAP). -/
def State.mapOf (s : State) (c d : Nat) : Nat := s.rf (Reg.FAB_MAP c (d / 4)) (8 * (d % 4)) 8
def State.setMap (s : State) (c d p : Nat) : State := s.setRf (Reg.FAB_MAP c (d / 4)) (8 * (d % 4)) 8 p

/-- The logical desk on physical desk `p`, or 0xFF. -/
def State.logicalOf (s : State) (c p : Nat) : Nat :=
  ((List.range 128).find? (fun d => decide (s.mapOf c d = p))).getD 0xFF

/-- Physical desks of classroom `c` in a state. -/
def State.desksIn (s : State) (c st : Nat) : List Nat := (List.range deskCount).filter (fun p => decide (s.desk c p = st))

/-- IMG_CLS_STATEc.SPARES follows the desks; it can show 8 at most. -/
def State.showSpares (s : State) (c : Nat) : State :=
  s.setRf (Reg.IMG_CLS_STATE c) 4 4 (min 8 (s.desksIn c 2).length)

/-! ### Lessons on classrooms (R231) -/

def State.lesson (s : State) (i : Nat) : Lesson := Tab.get (fun _ => {}) s.lessons i
def State.setLesson (s : State) (i : Nat) (x : Lesson) : State := { s with lessons := Tab.put (fun _ => {}) s.lessons i x }

/-- LSNi_INFO: kind, form, home classroom, report-card tag. -/
def State.lsnKind (s : State) (i : Nat) : Nat := s.rf (Reg.LSN_INFO i) 0 3
def State.lsnForm (s : State) (i : Nat) : Nat := s.rf (Reg.LSN_INFO i) 8 8
def State.lsnHome (s : State) (i : Nat) : Nat := s.rf (Reg.LSN_INFO i) 16 5
def State.lsnTag (s : State) (i : Nat) : Nat := s.rf (Reg.LSN_INFO i) 21 3

/-- The classrooms an instance spans, from its home upwards. -/
def State.lsnSpan (s : State) (i : Nat) : List Nat :=
  (List.range (s.rf (Reg.LSN_INFO i) 24 5 + 1)).map (fun k => (s.lsnHome i + k) % 32)

/-- The instances that span classroom `c`. -/
def State.lessonsOn (s : State) (c : Nat) : List Nat :=
  (List.range 64).filter (fun i => decide (s.lsnKind i ≠ 0) && (s.lsnSpan i).contains c)

/-- What the plan of classroom `c` says of report-card tag `tag`. -/
def State.lessonPlan (s : State) (c tag : Nat) : LessonPlan :=
  match (s.classroom c).plan with
  | some p => (p.lessons.find? (fun l => decide (l.tag = tag))).getD {}
  | none => {}

/-! ### Cover mode (R356, R357, R359) -/

/-- The classrooms served: the four that entered earliest. -/
def State.served (s : State) : List Nat := s.sched.cover.take 4

def State.inCover (s : State) (c : Nat) : Bool := s.sched.cover.contains c

/-- The spare pool of a set of classrooms in cover. -/
def State.sparePool (s : State) (cover : List Nat) : Nat :=
  (List.range 32).foldl (fun a c =>
    if !cover.contains c && s.domOn (classDomain c) && decide (s.clsState c ≠ 2) then a + (s.desksIn c 2).length else a) 0

/-- The share of classroom `c` when `served` divide a pool: equal parts, the remainder to the lowest index. -/
def shareOf (pool : Nat) (served : List Nat) (c : Nat) : Nat :=
  if served.contains c then
    let n := served.length
    pool / n + (if served.all (fun d => decide (c ≤ d)) then pool % n else 0)
  else 0

/-- The share of classroom `c` now. -/
def State.share (s : State) (c : Nat) : Nat := shareOf (s.sparePool s.sched.cover) s.served c

/-- A classroom in cover whose share is below 16. -/
def State.starved (s : State) (c : Nat) : Bool := s.inCover c && decide (s.share c < 16)

/-- T_cover in µs, rounded up, for operation count and path length of a plan and a share (R359). -/
def coverBound (ops path share : Nat) : Nat :=
  if share = 0 then 0 else (20000 + ((ops + share - 1) / share) * 40 + path * 60 + 999) / 1000

/-- Lessons of STARVED classrooms start again at the next delivered roll only (R357). -/
def State.noteStarved (s : State) : State :=
  (List.range 64).foldl (fun s i =>
    if decide (s.lsnKind i ≠ 0) && (s.lesson i).pending.isSome && (s.lsnSpan i).any s.starved then
      s.setLesson i { s.lesson i with starved := true }
    else s) s

/-- SCH_COVERc and SCH_COVER_BOUNDc follow the division of the pool. -/
def State.showCover (s : State) : State :=
  State.noteStarved <| (List.range 32).foldl (fun s c =>
    let n := s.share c
    let st := if !s.inCover c then 0 else if n < 16 then 2 else 1
    let p := ((s.classroom c).plan).getD {}
    (s.setReg (Reg.SCH_COVER c) (word (st + 256 * (n % 256)))).setReg (Reg.SCH_COVER_BOUND c)
      (word (if st = 1 then coverBound p.ops p.path n % 2 ^ 24 else 0))) s

/-! ### Runs of lessons on the desks (R209-R218, R358) -/

/-- The link between classrooms `c` and `c + 1` is not closed (R218). -/
def State.linkOpen (s : State) (c : Nat) : Bool := decide (c ≠ 15) || (s.domOn pdFabW && s.domOn pdFabE)

/-- The table that instance `i` has committed. -/
def State.tableOf (s : State) (i : Nat) : List Byte :=
  match (s.lesson i).use with
  | some u => u.table
  | none => []

/-- A word of a roll's image in the frame store. -/
def State.frameWord (s : State) (image off : Nat) : Word := word (le (s.hbmRead (image + off) 4) 0 4)

/-- A record of this lane and lesson is held. -/
def cardHas (x : Classroom) (desk lesson : Nat) : Bool :=
  x.banks.any (fun b => decide (b.lesson = lesson) && (Tab.get (fun _ => none) b.records desk).isSome)

/-- The run of lesson `tag` on classroom `c`; the physical desks in `stuck` fire nothing, and the report card takes words on the lane
of logical desk `lane`, if on any, and on those whose record it holds. -/
def State.room (s : State) (c tag : Nat) (stuck : List Nat) (lane : Option Nat) : Option Room :=
  let x := s.classroom c
  match x.plan, x.runs.find? (fun r => decide (r.tag = tag)) with
  | some p, some r => some
      { plan := p, run := r, slates := x.slates, board := x.board, bad := x.bad, flight := x.flight
        at_ := fun d => s.mapOf c d
        live := fun d => decide (s.desk c (s.mapOf c d) = 1) && !stuck.contains (s.mapOf c d)
        store := fun d => Tab.get (fun _ => []) x.stores (s.mapOf c d)
        lane := fun d => decide (lane = some d) || cardHas x d tag
        frame := fun off => s.frameWord r.image off }
  | _, _ => none

/-- F_FAULT and event 3 with FAULT_INFO. -/
def State.fabFault (s : State) (c phys logical cause : Nat) : State :=
  (s.setReg (Reg.FAB_FAULT_INFO c) (word (phys + 256 * logical + 65536 * cause))).flagRaise (Reg.FAB_STATUS c) 2 3 c

/-- An uncorrectable chalkboard error: FABc_CB_UE, FAULT_INFO with cause CB_UE, F_FAULT and event 3 (R228). -/
def State.countUe (s : State) (c : Nat) : State := (s.bump (Reg.FAB_CB_UE c)).fabFault c 0xFF 0xFF 5

/-- The roll in progress of lesson `tag` on classroom `c` will be published with CB_UE (R228). -/
def Classroom.markUe (x : Classroom) (tag : Nat) : Classroom := if x.ue.contains tag then x else { x with ue := tag :: x.ue }

/-- A run as it was, `old`, and as it has moved on at device time `now`, when the logical desks in `waits` hold operands and do not fire. -/
def Run.moved (r old : Run) (now : Nat) (waits : List Nat) : Run :=
  { r with
    since := if { r with since := old.since, waits := old.waits } = old then old.since else now
    waits := waits.map (fun d => (d, ((old.waits.find? (fun e => decide (e.1 = d))).map (fun e => e.2)).getD now)) }

/-- The classroom after a run has moved on, with the errors that its reads met. -/
def State.putRoom (s : State) (c : Nat) (stuck : List Nat) (r : Room) : State :=
  let x := s.classroom c
  let old := (x.runs.find? (fun y => decide (y.tag = r.run.tag))).getD { tag := r.run.tag }
  let run := r.run.moved old s.now ((stuck.map (s.logicalOf c)).filter (fun d => decide (d < 128) && r.waiting d))
  let x := { x with
    slates := r.slates, board := r.board, bad := r.bad, flight := r.flight
    runs := x.runs.map (fun y => if y.tag = run.tag then run else y) }
  let met := run.ue.filter (fun k => !old.ue.contains k)
  let s := s.setClassroom c (if met.isEmpty then x else x.markUe run.tag)
  met.foldl (fun s _ => s.countUe c) s

/-- The run of instance `i` on every classroom it spans, moved on until nothing can move; `stuck` holds desks of classroom `c`, whose
lane `lane` takes words. -/
def State.netRun (s : State) (i c : Nat) (stuck : List Nat) (lane : Option Nat) : Net :=
  let n : Net := (s.lsnSpan i).filterMap (fun k =>
    (s.room k (s.lsnTag i) (if k = c then stuck else []) (if k = c then lane else none)).map (fun r => (k, r)))
  Net.settle s.linkOpen (Net.fuel n) n

/-- The desks move on with the roll of instance `i`. -/
def State.runOn (s : State) (i c : Nat) (stuck : List Nat) (lane : Option Nat) : State :=
  (s.netRun i c stuck lane).foldl (fun s e => s.putRoom e.1 (if e.1 = c then stuck else []) e.2) s

/-- A roll of instance `i` begins on its classrooms. -/
def State.beginRuns (s : State) (i : Nat) (r : Roll) : State :=
  let run : Run := { tag := s.lsnTag i, since := s.now, image := r.image, table := s.tableOf i }
  (s.lsnSpan i).foldl (fun s c => s.setClassroom c { s.classroom c with runs := (s.classroom c).runs ++ [run] }) s

/-- The classroom with nothing of lesson `tag` in flight to its neighbours. -/
def Classroom.noFlight (x : Classroom) (tag : Nat) : Classroom :=
  let chans := ((x.plan.getD {}).wires.filterMap (fun e => match e.dst with
    | .neighbour up k => if e.tag = tag then some (2 * k + up.toNat) else none
    | _ => none))
  { x with flight := x.flight.filter (fun e => !chans.contains e.1) }

/-- The classroom without the run of lesson `tag`. -/
def Classroom.endRun (x : Classroom) (tag : Nat) : Classroom :=
  { x.noFlight tag with runs := x.runs.filter (fun r => decide (r.tag ≠ tag)) }

/-- What the run of lesson `tag` has overwritten takes its committed value again (R73). -/
def Classroom.rollBack (x : Classroom) (tag : Nat) : Classroom :=
  match x.runs.find? (fun r => decide (r.tag = tag)) with
  | none => x
  | some r =>
    { x with
      slates := r.undoSlates.foldl (fun t e => Tab.put (fun _ => {}) t e.1 e.2) x.slates
      board := r.undoBoard.foldl (fun t e => Tab.put (fun _ => 0) t e.1 e.2) x.board }

/-- The run of lesson `tag` starts over from the committed lesson state; the errors it has met stay counted. -/
def Classroom.rerun (x : Classroom) (tag : Nat) : Classroom :=
  let y := (x.rollBack tag).noFlight tag
  { y with runs := y.runs.map (fun r =>
      if r.tag = tag then { tag := tag, since := r.since, image := r.image, table := r.table, ue := r.ue } else r) }

/-- The committed lesson state of classroom `c` over logical desks: what cover holds of it, or what its own desks hold. -/
def State.memoOf (s : State) (c : Nat) : Memo :=
  let x := s.classroom c
  if s.inCover c then x.kept
  else
    { slates := x.slates.foldl (fun t e =>
        let d := s.logicalOf c (e.1 / 1024)
        if d = 0xFF then t else Tab.put (fun _ => {}) t (1024 * d + e.1 % 1024) e.2) []
      board := x.board, bad := x.bad }

/-- The desks and the chalkboard of classroom `c` hold a lesson state. -/
def State.loadMemo (s : State) (c : Nat) (m : Memo) : State :=
  s.setClassroom c { s.classroom c with
    slates := m.slates.foldl (fun t e =>
      let p := s.mapOf c (e.1 / 1024)
      if p = 0xFF then t else Tab.put (fun _ => {}) t (1024 * p + e.1 % 1024) e.2) []
    board := m.board, bad := m.bad }

/-- The contributors of a lesson in a classroom, ascending. -/
def State.contributors (s : State) (c tag : Nat) : List Nat :=
  (List.range 128).filter (fun d => (s.lessonPlan c tag).contrib.testBit d)

/-- Cover's copy of classroom `c` for a roll of lesson `tag`: the same plan on spare desks. -/
def State.coverRoom (s : State) (c tag : Nat) (r : Roll) (table : List Byte) : Option Room :=
  match (s.classroom c).plan with
  | none => none
  | some p =>
    let m := s.memoOf c
    some
      { plan := p, run := { tag := tag, since := s.now, image := r.image, table := table }
        slates := m.slates, board := m.board, bad := m.bad, flight := []
        at_ := fun d => d, live := fun _ => true
        store := p.store, lane := fun _ => true
        frame := fun off => s.frameWord r.image off }

/-- What cover computes of a roll of instance `i`, from committed lesson state (R73, R358). -/
def State.coverCompute (s : State) (i : Nat) (r : Roll) : CoverRun :=
  let tag := s.lsnTag i
  let span := (List.range 32).filter (fun c => (s.lsnSpan i).contains c)
  let n : Net := span.filterMap (fun c => (s.coverRoom c tag r (s.tableOf i)).map (fun x => (c, x)))
  let n := Net.settle (fun _ => true) (Net.fuel n) n
  { records := n.flatMap (fun e =>
      (s.contributors e.1 tag).filterMap (fun d => (e.2.record d).map (fun x => (128 * e.1 + d, x))))
    slates := n.flatMap (fun e => e.2.run.undoSlates.map (fun u => (e.1, u.1, Tab.get (fun _ => {}) e.2.slates u.1)))
    board := n.flatMap (fun e => e.2.run.undoBoard.map (fun u => (e.1, u.1, Tab.get (fun _ => 0) e.2.board u.1)))
    ue := n.flatMap (fun e => e.2.run.ue.map (fun k => (e.1, k))) }

/-- The uncorrectable chalkboard errors that cover met in a roll are counted (R228). -/
def State.coverUe (s : State) (r : CoverRun) : State := r.ue.foldl (fun s e => s.countUe e.1) s

/-- A lesson state after a chalkboard word is written: the error of its 64-bit word is gone. -/
def Memo.putBoard (m : Memo) (w : Nat) (v : Word) : Memo :=
  { m with board := Tab.put (fun _ => 0) m.board w v, bad := m.bad.filter (fun k => decide (k ≠ w / 2)) }

/-- A roll that cover has computed is published: the lesson state it leaves is committed, in cover's copy or, after hand-back, in
the classroom (R73). -/
def State.coverCommit (s : State) (r : CoverRun) : State :=
  let s := r.slates.foldl (fun s e =>
    let x := s.classroom e.1
    if s.inCover e.1 then
      s.setClassroom e.1 { x with kept := { x.kept with slates := Tab.put (fun _ => {}) x.kept.slates e.2.1 e.2.2 } }
    else
      let p := s.mapOf e.1 (e.2.1 / 1024)
      if p = 0xFF then s
      else s.setClassroom e.1 { x with slates := Tab.put (fun _ => {}) x.slates (1024 * p + e.2.1 % 1024) e.2.2 }) s
  r.board.foldl (fun s e =>
    let x := s.classroom e.1
    if s.inCover e.1 then
      s.setClassroom e.1 { x with kept := x.kept.putBoard e.2.1 e.2.2 }
    else
      s.setClassroom e.1 { x with
        board := Tab.put (fun _ => 0) x.board e.2.1 e.2.2, bad := x.bad.filter (fun k => decide (k ≠ e.2.1 / 2)) }) s

/-- The lesson state of instance `i` starts afresh on every classroom it spans (R74, R236). -/
def State.restartTag (s : State) (i : Nat) : State :=
  (s.lsnSpan i).foldl (fun s c =>
    let x := s.classroom c
    match x.plan with
    | none => s
    | some p =>
      if s.inCover c then s.setClassroom c { x with kept := x.kept.restart p (s.lsnTag i) (fun d => d) }
      else
        let m := Memo.restart { slates := x.slates, board := x.board, bad := x.bad } p (s.lsnTag i) (fun d => s.mapOf c d)
        s.setClassroom c { x with slates := m.slates, board := m.board, bad := m.bad }) s

/-! ### The report card's banks (R219, R220) -/

/-- A lane's record can be taken: its lesson has a bank, or one is unused. -/
def cardOpen (x : Classroom) (lesson : Nat) : Bool :=
  x.banks.any (fun b => decide (b.lesson = lesson)) || decide (x.banks.length < 4)

/-- The lane that the arbiter tree grants of those that wait, from node `n` with `h` levels below it: a node with both inputs waiting
grants the one it did not grant last (R220). -/
def treePick (tree : Tab Bool) (want : List Nat) : Nat → Nat → Nat
  | 0, n => n - 128
  | h + 1, n =>
    let on (m : Nat) : Bool := want.any (fun d => decide ((128 + d) / 2 ^ h = m))
    let right := if on (2 * n) && on (2 * n + 1) then !Tab.get (fun _ => false) tree n else on (2 * n + 1)
    treePick tree want h (2 * n + right.toNat)

/-- The nodes on the path of a lane remember the grant. -/
def treeMark (tree : Tab Bool) (lane : Nat) : Tab Bool :=
  (List.range 7).foldl (fun t h => Tab.put (fun _ => false) t ((128 + lane) / 2 ^ (h + 1)) (decide ((128 + lane) / 2 ^ h % 2 = 1))) tree

/-- A record that the tree grants is written into the bank of its lesson or into a new bank. -/
def cardTake (x : Classroom) (desk lesson : Nat) (r : Record) : Classroom :=
  let x := { x with tree := treeMark x.tree desk }
  match x.banks.find? (fun b => decide (b.lesson = lesson)) with
  | some _ =>
    { x with banks := x.banks.map (fun b =>
        if b.lesson = lesson then { b with records := Tab.put (fun _ => none) b.records desk (some r) } else b) }
  | none => { x with banks := x.banks ++ [{ lesson := lesson, records := Tab.put (fun _ => none) [] desk (some r) }] }

/-- The lane of a desk takes words of a lesson: no record of another lesson waits on it, and a bank takes the record (R215, R219). -/
def laneOpen (x : Classroom) (desk lesson : Nat) : Bool :=
  cardOpen x lesson && x.stalled.all (fun e => decide (e.1 ≠ desk) || decide (e.2 = lesson))

/-- The instances on classroom `c` whose begun roll its own desks compute. -/
def State.begunOn (s : State) (c : Nat) : List Nat :=
  (s.lessonsOn c).filter (fun i => match (s.lesson i).begun with
    | some b => !b.cover
    | none => false)

/-- The instance whose roll in progress classroom `c` computes under tag `tag`. -/
def State.computing (s : State) (c tag : Nat) : Option Nat := (s.begunOn c).find? (fun i => decide (s.lsnTag i = tag))

/-- The record that logical desk `d` of classroom `c` offers for lesson `tag`, as far as its lane has taken it. -/
def State.offered (s : State) (c d tag : Nat) : Option Record :=
  match s.room c tag [] none with
  | some r => r.record d
  | none => none

/-- Logical desk `d` of classroom `c` holds a word of lesson `tag` for its lane. -/
def State.laneWaits (s : State) (c d tag : Nat) : Bool :=
  match s.room c tag [] none with
  | some r => r.offers d
  | none => false

/-- The report card takes a record; FABc_STATUS shows the banks in use. -/
def State.takeRecord (s : State) (c d tag : Nat) (r : Record) : State :=
  let x := cardTake (s.classroom c) d tag r
  (s.setClassroom c x).setRf (Reg.FAB_STATUS c) 8 3 x.banks.length

/-- A request waits on the lane of logical desk `d` where it holds a word and none waits there yet (R215). -/
def State.laneStall (s : State) (c d tag : Nat) : State :=
  let x := s.classroom c
  if s.laneWaits c d tag && x.stalled.all (fun e => decide (e.1 ≠ d)) then
    s.setClassroom c { x with stalled := x.stalled ++ [(d, tag)] }
  else s

/-- The desks of classroom `c` move on with the roll of instance `i`, but those in `stuck`; logical desk `d` offers its record of lesson
`tag`, which the report card takes where the lane is open and the record whole (R209, R215, R219). -/
def State.offerRecord (s : State) (i c d tag : Nat) (stuck : List Nat) : State :=
  let mine := (s.lessonPlan c tag).contrib.testBit d && !cardHas (s.classroom c) d tag
  let go := mine && laneOpen (s.classroom c) d tag
  let s := s.runOn i c stuck (if go then some d else none)
  if go then
    match s.offered c d tag with
    | some r =>
      s.takeRecord c d tag r
    | none => s
  else if mine then s.laneStall c d tag else s

/-- Requests that wait on the lanes of classroom `c` are served as the tree grants them, while a bank takes their record (R220). -/
def State.cardDrain (s : State) (c : Nat) : Nat → State
  | 0 => s
  | fuel + 1 =>
    let x := s.classroom c
    let open_ := x.stalled.filter (fun e => cardOpen x e.2)
    match open_.find? (fun e => decide (e.1 = treePick x.tree (open_.map (fun e => e.1)) 7 1)) with
    | none => s
    | some e =>
      let s := s.setClassroom c { x with stalled := x.stalled.erase e }
      let s := match s.computing c e.2 with
        | some i => s.offerRecord i c e.1 e.2 []
        | none => s
      State.cardDrain s c fuel

/-- The bank of a lesson is freed, its run is over, and requests that wait on lanes are served in turn. -/
def State.freeBank (s : State) (c lesson : Nat) : State :=
  let x := (s.classroom c).endRun lesson
  let x := { x with
    banks := x.banks.filter (fun b => decide (b.lesson ≠ lesson))
    ue := x.ue.filter (fun t => decide (t ≠ lesson)) }
  ((s.setClassroom c x).setRf (Reg.FAB_STATUS c) 8 3 x.banks.length).cardDrain c x.stalled.length

/-- The classrooms drop the roll that instance `i` has begun: its records and what it has overwritten (R73, R224). -/
def State.dropRuns (s : State) (i : Nat) : State :=
  let tag := s.lsnTag i
  (s.lsnSpan i).foldl (fun s c =>
    let x := (s.classroom c).rollBack tag
    (s.setClassroom c { x with stalled := x.stalled.filter (fun e => decide (e.2 ≠ tag)) }).freeBank c tag) s

/-- The roll that instance `i` has begun is computed afresh by cover. -/
def State.toCover (s : State) (i : Nat) : State :=
  let x := s.lesson i
  match x.begun with
  | none => s
  | some b =>
    let run := s.coverCompute i b.roll
    (s.setLesson i { x with begun := some { b with cover := true, run := run } }).coverUe run

/-- COVER_ENTER (R72, R73): cover takes over the lessons of classroom `c` with their committed state. -/
def State.coverEnter (s : State) (c : Nat) : State :=
  if s.inCover c then s
  else
    let rolls := s.begunOn c
    let s := rolls.foldl (fun s i => s.dropRuns i) s
    let s := s.setClassroom c { s.classroom c with kept := s.memoOf c }
    let s := { s with sched := { s.sched with cover := s.sched.cover ++ [c] } }
    let s := rolls.foldl (fun s i => s.toCover i) s
    s.showCover.raise 4 c

/-- COVER_EXIT: classroom `c` leaves cover. -/
def State.coverExit (s : State) (c : Nat) : State :=
  if s.inCover c then
    ({ s with sched := { s.sched with cover := s.sched.cover.filter (fun d => decide (d ≠ c)) } }).showCover.raise 5 c
  else s

/-! ### Retirement and faults (R226-R228) -/

/-- Physical desk `p` of classroom `c` becomes RETIRED: FABc_RETIRED, SPARES, FAULT_INFO and event 3 (R226). -/
def State.deskLost (s : State) (c p cause : Nat) : State :=
  let logical := if s.desk c p = 1 then s.logicalOf c p else 0xFF
  (((s.setDesk c p 3).setRb (Reg.FAB_RETIRED c (p / 32)) (p % 32) true).showSpares c).fabFault c p logical cause

/-- DESK_RETIRE: physical desk `p` of classroom `c` is retired (R226). In a classroom in SERVICE an ACTIVE desk's retirement
brings cover and COVERED (R77); in COVERED it counts for the next repair (R78). -/
def State.deskRetire (s : State) (c p cause : Nat) : State :=
  let was := s.desk c p
  let s := s.deskLost c p cause
  if was = 1 && (s.clsState c = 1 || s.clsState c = 3) then
    let s := if s.clsState c = 1 then (s.coverEnter c).setClsState c 3 else s.showCover
    s.setClassroom c { s.classroom c with owed := (s.classroom c).owed || s.rb Reg.IMG_CTRL 0 }
  else s.showCover

/-- The device time since which logical desk `d` has held the operands of an operation of run `r`, if it does: as it was noted, or when
the desks last moved on. -/
def Run.heldSince (r : Run) (d : Nat) : Nat := ((r.waits.find? (fun e => decide (e.1 = d))).map (fun e => e.2)).getD r.since

/-- Physical desk `p` of classroom `c` offers no result: when all other desks but those in `stuck` have gone as far as they can, it
holds the operands of an operation with its destination free, and has held them for FABc_WDOG µs (R227, assumption 174). -/
def State.deskHung (s : State) (c p : Nat) (stuck : List Nat) : Bool :=
  let d := s.logicalOf c p
  (s.classroom c).runs.any (fun r =>
    decide (r.heldSince d + s.rf (Reg.FAB_WDOG c) 0 10 * fsPerUs ≤ s.now) &&
      match s.computing c r.tag with
      | none => false
      | some i => (s.netRun i c (p :: stuck) none).any (fun e => decide (e.1 = c) && e.2.waiting d))

/-- DESK_WATCHDOG_EXPIRY (R227): physical desk `p` hangs, and with it those in `stuck`. -/
def State.deskWatchdog (s : State) (c p : Nat) (stuck : List Nat) : State :=
  if s.domOn (classDomain c) && s.rb (Reg.FAB_CTRL c) 12 && decide (s.desk c p = 1) && s.deskHung c p stuck then s.deskRetire c p 2
  else s

/-- SLATE_PARITY_ERROR (R227). -/
def State.slateParity (s : State) (c p : Nat) : State :=
  if s.domOn (classDomain c) && decide (s.desk c p = 1) then s.deskRetire c p 1 else s

/-- The run of lesson `tag` notes the error of 64-bit chalkboard word `k` as met. -/
def Classroom.meetUe (x : Classroom) (tag k : Nat) : Classroom :=
  { x.markUe tag with runs := x.runs.map (fun r =>
      if r.tag = tag && !r.ue.contains k then { r with ue := k :: r.ue } else r) }

/-- CHALKBOARD_UE: a read of word `w` for lesson `tag` meets an uncorrectable error (R228). The roll in progress is computed with the
word as 0x7FC0_0000: what its desks did before, from a word as it stood, is done afresh (assumption 175). -/
def State.chalkboardUe (s : State) (c tag w : Nat) : State :=
  if s.domOn (classDomain c) then
    let k := w % boardWords / 2
    let x := s.classroom c
    let s := s.setClassroom c { x with bad := if x.bad.contains k then x.bad else k :: x.bad }
    let s := match s.computing c tag with
      | none => s
      | some i =>
        let s := (s.lsnSpan i).foldl (fun (s : State) c => s.setClassroom c ((s.classroom c).rerun tag)) s
        s.setClassroom c ((s.classroom c).meetUe tag k)
    s.countUe c
  else s

/-- SPARE_CHECK: the spares in `bad` fail the check of each second (R225). -/
def State.spareCheck (s : State) (bad : List (Nat × Nat)) : State :=
  bad.foldl (fun s e =>
    if s.domOn (classDomain e.1) && s.rb (Reg.FAB_CTRL e.1) 13 && decide (s.desk e.1 e.2 = 2) then s.deskRetire e.1 e.2 3
    else s) s

/-- Self-check of every desk of classroom `c` that is not retired; those in `bad` fail. Desks that pass and are UNCHECKED become
SPARE (R225, R226). -/
def State.checkDesks (s : State) (c : Nat) (bad : List Nat) : State :=
  (List.range deskCount).foldl (fun s p =>
    if s.desk c p = 3 then s
    else if bad.contains p then s.deskRetire c p 4
    else if s.desk c p = 0 then s.setDesk c p 2
    else s) s

/-- SELF_CHECK: FABc_CHECK_CMD.GO of an EMPTY classroom. -/
def State.selfCheck (s : State) (c : Nat) (bad : List Nat) : State :=
  let n := ((List.range deskCount).filter (fun p => decide (s.desk c p ≠ 3) && !bad.contains p)).length
  let s := (((s.unready (Reg.FAB_CHECK_STATUS c)).checkDesks c bad).showSpares c).showCover
  let s := s.setRf (Reg.FAB_CHECK_STATUS c) 16 8 n
  (s.publish (Reg.FAB_CHECK_STATUS c)).setRb (Reg.FAB_CHECK_CMD c) 0 false

/-- REPLICA_MEASURE: the mean operation time of the replica chain (R213). -/
def State.replica (s : State) (c ps : Nat) : State :=
  if s.domOn (classDomain c) then s.setRf (Reg.FAB_SPEED c) 0 16 ps else s

/-- Values that the FAB tables refuse (R230). -/
def fabRefuses (s : State) (off : Nat) (v : Word) : Bool :=
  if (off - 0x100000) % 0x200 = 0x008 then decide (fld v 0 10 = 0) || decide (1000 < fld v 0 10)
  else if (off - 0x100000) % 0x200 = 0x018 then bit v 0 && (s.clsState ((off - 0x100000) / 0x200) ≠ 0 || s.rb off 0)
  else false

/-! ### Result records and the report card (R219-R222) -/

/-- RESULT_RECORD: the desks move on with the roll of lesson `tag`, but those in `stuck`, meeting `ce` corrected chalkboard errors;
logical desk `d` of classroom `c` offers its record (R209, R219, R228). -/
def State.resultRecord (s : State) (c d tag : Nat) (stuck : List Nat) (ce : Nat) : State :=
  match s.computing c tag with
  | none => s
  | some i =>
    if s.domOn (classDomain c) then (s.bumpBy (Reg.FAB_CB_CE c) ce).offerRecord i c d tag stuck else s

/-- The record of logical desk `d` for lesson `tag`. -/
def State.recordOf (s : State) (c tag d : Nat) : Option Record :=
  match (s.classroom c).banks.find? (fun b => decide (b.lesson = tag)) with
  | some b => Tab.get (fun _ => none) b.records d
  | none => none

/-- Every contributor's record is held, in every classroom the instance spans. -/
def State.cardFull (s : State) (i : Nat) : Bool :=
  (s.lsnSpan i).all (fun c => (s.contributors c (s.lsnTag i)).all (fun d => (s.recordOf c (s.lsnTag i) d).isSome))

/-- The records of an instance's roll by global desk index 128 c + d, ascending. -/
def State.cardRecords (s : State) (i c : Nat) : List (Nat × Record) :=
  (s.contributors c (s.lsnTag i)).filterMap (fun d =>
    (s.recordOf c (s.lsnTag i) d).map (fun r => (128 * c + d, r)))

/-- One step of a reduction (R221). -/
def foldStep (f : Fold) (a b : Word) : Word :=
  match f with
  | .none => a
  | .fsum => f32Add a b
  | .fmin => f32Min a b
  | .fmax => f32Max a b
  | .isum => a + b
  | .or => a ||| b
  | .and => a &&& b

/-- A left fold over values in order; none for NONE or without values. -/
def foldRun (f : Fold) : List Word → Option Word
  | [] => none
  | v :: vs => if f = .none then none else some (vs.foldl (foldStep f) v)

/-- The reduced set: for each of the 16 positions the fold over each classroom's contributors and over the classrooms in ascending
order; under NONE the words as they stand (R221, R222). -/
def reduceSet (folds : List Fold) (rs : List (Nat × Record)) : List (List Word) :=
  (List.range 16).map (fun p =>
    let f := folds.getD p .none
    let at_ (l : List (Nat × Record)) : List Word := l.map (fun e => e.2.words.getD p 0)
    if f = .none then at_ rs
    else (foldRun f ((List.range 32).filterMap (fun c => foldRun f (at_ (rs.filter (fun e => decide (e.1 / 128 = c))))))).toList)

/-- The set of instance `i` reduced as the plan of its home classroom selects. -/
def State.cardReduce (s : State) (i : Nat) (rs : List (Nat × Record)) : List (List Word) :=
  reduceSet (s.lessonPlan (s.lsnHome i) (s.lsnTag i)).folds rs

/-- All records of an instance's set. -/
def State.cardAll (s : State) (i : Nat) : List (Nat × Record) :=
  (List.range 32).flatMap (fun c => if (s.lsnSpan i).contains c then s.cardRecords i c else [])

/-- The exception bits of a set. -/
def excOf (rs : List (Nat × Record)) : Nat := rs.foldl (fun a e => a ||| e.2.exc % 16) 0

/-- REPORT_CARD part of a publication: the classroom's result group, counters and events (R222, R223). -/
def State.cardPublish (s : State) (i : Nat) (r : Roll) (rs : List (Nat × Record)) (ue : Bool) : State :=
  let c := s.lsnHome i
  let exc := excOf rs
  let seq := r.at_.seq32 (rateOf r.rate)
  let t := s.tbNow r.tb
  let s := s.setReg (Reg.FAB_RES_SEQ32 c) (word seq)
  let s := s.setReg (Reg.FAB_RES_INFO c) (word (s.lsnTag i + 256 * r.form + 65536 * (exc + 16 * ue.toNat)))
  let s := (s.setReg (Reg.FAB_RES_NS c) (word (stampNs t))).setReg (Reg.FAB_RES_SEC_LO c) (word (stampSec t))
  let s := (s.setReg (Reg.FAB_RES_COUNT c) (word rs.length)).publish (Reg.FAB_RES_STATUS c)
  let s := (List.range 4).foldl (fun s k => if exc.testBit k then s.bump (Reg.FAB_ARITH_CNT c k) else s) s
  let s := if s.rb (Reg.FAB_CTRL c) (s.lsnTag i) then s.flagRaise (Reg.FAB_STATUS c) 0 34 c else s
  let on := exc &&& s.rf (Reg.FAB_CTRL c) 8 4
  if on ≠ 0 then
    let d := ((rs.find? (fun e => decide (e.2.exc &&& on ≠ 0))).map (fun e => e.1)).getD 0
    (s.setReg (Reg.FAB_ARITH_INFO c) (word (d + 4096 * exc + 65536 * (seq % 65536)))).flagRaise (Reg.FAB_STATUS c) 1 35 c
  else s

end Sys2Proof.Machine
end

