-- ==== Sys2Proof/Machine/Alarm.lean ====
section
/-! DEFINITION. The alarm path (R233, R257-R262, R435): the decision vector, absence, the alarm pins and their latches, alarm
records, and the sharing of decisions on a board. -/

namespace Sys2Proof.Machine

/-! ### The decision vector (R257) -/

/-- D0-D255 as one number, from ANA_DEC0-7. -/
def State.decisions (s : State) : Nat :=
  (List.range 8).foldl (fun a k => a + (s.reg (Reg.ANA_DEC k)).toNat * 2 ^ (32 * k)) 0

/-- The absent bits, from ANA_DEC_ABSENT0-7. -/
def State.absentBits (s : State) : Nat :=
  (List.range 8).foldl (fun a k => a + (s.reg (Reg.ANA_DEC_ABSENT k)).toNat * 2 ^ (32 * k)) 0

def State.setDecisions (s : State) (d : Nat) : State :=
  (List.range 8).foldl (fun s k => s.setReg (Reg.ANA_DEC k) (word (d >>> (32 * k)))) s

def State.setAbsentBits (s : State) (d : Nat) : State :=
  (List.range 8).foldl (fun s k => s.setReg (Reg.ANA_DEC_ABSENT k) (word (d >>> (32 * k)))) s

/-- The range of decision bits of an instance (LSNi_DECS). -/
def State.decBase (s : State) (i : Nat) : Nat := s.rf (Reg.LSN_DECS i) 0 8
def State.decCount (s : State) (i : Nat) : Nat := s.rf (Reg.LSN_DECS i) 8 7

/-- The mask of `n` bits from bit `b`. -/
def bitRange (b n : Nat) : Nat := (2 ^ n - 1) <<< b

/-- The vector with `n` bits from bit `b` replaced by the low bits of `v`. -/
def putBits (d b n v : Nat) : Nat := (d &&& ((2 ^ 256 - 1) ^^^ bitRange b n)) ||| ((v % 2 ^ n) <<< b) % 2 ^ 256

/-! ### The pins (R258, R259) -/

/-- The decision mask of pin `n`. -/
def State.pinMask (s : State) (n : Nat) : Nat :=
  (List.range 8).foldl (fun a k => a + (s.reg (Reg.PIN_MASK n k)).toNat * 2 ^ (32 * k)) 0

/-- raw(n): the OR or AND of the masked decisions; an absent bit counts as 0. -/
def State.pinRaw (s : State) (n : Nat) : Bool :=
  let m := s.pinMask n
  let d := s.decisions &&& (s.absentBits ^^^ (2 ^ 256 - 1))
  if m = 0 then false
  else if s.rb (Reg.PIN_CTRL n) 1 then decide (d &&& m = m) else decide (d &&& m ≠ 0)

/-- computed(n), from raw(n), the latch and FORCE. -/
def State.pinComputed (s : State) (n : Nat) (raw : Bool) : Bool :=
  match s.rf (Reg.PIN_CTRL n) 4 2 with
  | 1 => true
  | 2 => false
  | _ => raw || s.rb Reg.ANA_LATCH n

/-- Pin `n` follows its inputs: a rise of raw(n) latches, and a rise of computed(n) sets F_ALM, counts, records the roll and
raises event 36. -/
def State.pinFollow (s : State) (n : Nat) : State :=
  let raw := s.pinRaw n
  let was := s.alarms.raw.testBit n
  let s := if raw && !was && s.rb (Reg.PIN_CTRL n) 2 then s.setRb Reg.ANA_LATCH n true else s
  let s := { s with alarms := { s.alarms with raw := setFld (word s.alarms.raw) n 1 raw.toNat |>.toNat } }
  let c := s.pinComputed n raw
  let old := s.rb Reg.ANA_PINS n
  let s := s.setRb Reg.ANA_PINS n c
  let s := s.setRb Reg.ANA_PINS (16 + n) (c && s.rb (Reg.PIN_CTRL n) 0 && s.gate)
  if c && !old then
    let s := (s.bump (Reg.ANA_CNT 7)).setReg (Reg.PIN_STATUS n) s.alarms.seq
    s.flagRaise Reg.ANA_STATUS 0 36 n
  else s

/-- Every pin follows. -/
def State.pinsFollow (s : State) : State :=
  if s.domOn pdSch then (List.range 16).foldl (fun s n => s.pinFollow n) s else s

/-- The level at ALM[n] while PD_SCH is on: active(n) XOR POL, and behind a closed gate the inactive level (R258, R421). -/
def State.almLevel (s : State) (n : Nat) : Bool := (s.gate && s.rb Reg.ANA_PINS (16 + n)) != s.rb (Reg.PIN_CTRL n) 3

/-- LATCH_CLEAR (R258, R259): the bits written 1 clear; a raw(n) that is still 1 does not latch again without a rise. -/
def State.latchClear (s : State) : State := s.pinsFollow

/-- Values that the ANA pin and record tables refuse (R265). -/
def anaRefuses (s : State) (off : Nat) (v : Word) : Bool :=
  let d := off - 0x110000
  if d = 0x8 then bit v 0 && s.rb off 0
  else if d = 0x20 then decide (fld v 8 8 < 42) || decide (128 < fld v 8 8)
  else if 0x400 ≤ d && d < 0x800 && (d - 0x400) % 0x40 = 0 then decide (fld v 4 2 = 3)
  else false

/-! ### Sharing on a board (R435) -/

/-- The decision vector in octets: bit d in octet d div 8. -/
def decOctets (d : Nat) : List Byte := leBytes 32 d

/-- The decision vector goes to every UP link. -/
def State.shareDecisions (s : State) : State :=
  (List.range 8).foldl (fun s q => if s.linkUp q then s.fjlSend q 3 0 (decOctets s.decisions) else s) s

/-- The decision map of board position `q`: enabled, source bit, count, destination bit. -/
def State.decMap (s : State) (q : Nat) : Bool × Nat × Nat × Nat :=
  let w := s.reg (Reg.FJL_DECMAP q)
  (s.domOn pdLink && bit w 31, fld w 0 8, fld w 8 7, fld w 16 8)

/-- The bits that maps drive, as (destination, count, value), where the link is UP; a link that is not UP drives none. -/
def State.sharedBits (s : State) : List (Nat × Nat × Nat) :=
  (List.range 8).filterMap (fun q =>
    let m := s.decMap q
    if m.1 && s.linkUp q then
      some (m.2.2.2, m.2.2.1, (Tab.get (fun _ => 0) s.alarms.shared q) >>> m.2.1)
    else none)

/-! ### Absence (R233) -/

/-- An instance is absent. A roll begun before EN was cleared is still published, and the instance is absent after it. -/
def State.absent (s : State) (i : Nat) : Bool :=
  let x := s.lesson i
  decide (s.lsnKind i = 0) || (x.use.isNone && x.next.isNone) || (s.lsnSpan i).any (fun c => decide (s.clsState c = 0)) ||
    (x.begun.isNone && x.held.isNone && (!s.rb (Reg.LSN_CTRL i) 0 || !s.rb Reg.ANA_CTRL 0))

/-- DECISION triggers at each edge between two decision vectors (R257, R330). -/
def State.decisionEdges (s : State) (before after : Nat) : State :=
  (List.range 256).foldl (fun s d =>
    if before.testBit d ≠ after.testBit d then s.trigsDecision d (after.testBit d) else s) s

/-- The decision bits and absent bits follow the instances and the board: bits of an absent driver read 0. -/
def State.showDecisions (s : State) : State :=
  if !s.domOn pdSch then s
  else
    let before := s.decisions
    let live := (List.range 64).foldl (fun a i =>
      if s.lsnKind i ≠ 0 && !s.absent i then a ||| bitRange (s.decBase i) (s.decCount i) else a) 0
    let maps := s.sharedBits
    let shared := maps.foldl (fun a m => a ||| bitRange m.1 m.2.1) 0
    let d := maps.foldl (fun a m => putBits a m.1 m.2.1 m.2.2) (before &&& live)
    let s := (s.setDecisions d).setAbsentBits ((2 ^ 256 - 1) &&& ((2 ^ 256 - 1) ^^^ (live ||| shared)))
    (if d ≠ before then (s.decisionEdges before d).shareDecisions else s).pinsFollow

/-! ### Alarm records (R260-R262) -/

/-- What a publication says for its alarm record. -/
structure RecordOf where
  inst : Nat
  roll : Roll
  cover : Bool
  reset : Bool
  heartbeat : Bool
  pub : Stamp
  changed : Nat

/-- Octets 0-103 of an alarm record (R261). -/
def State.recordBody (s : State) (x : RecordOf) (unsigned : Bool) : List Byte :=
  let r := rateOf x.roll.rate
  let flags := s.gate.toNat + (if s.rf Reg.RED_ROLE 0 2 = 2 then 2 else 0) + 4 * x.cover.toNat + 8 * x.heartbeat.toNat +
    16 * unsigned.toNat + 32 * x.reset.toNat
  beBytes 4 0x414C524D ++ beBytes 1 1 ++ beBytes 1 flags ++ beBytes 2 120 ++ beBytes 2 (s.rf Reg.RED_DIST 0 16) ++
    beBytes 1 x.roll.form ++ beBytes 1 x.inst ++ beBytes 4 (x.roll.at_.seq32 r) ++ beBytes 6 x.roll.at_.sec ++ [0, 0] ++
    beBytes 4 (instNs r x.roll.at_.k) ++ beBytes 4 (stampNs x.pub) ++
    beBytes 2 (wrap 16 ((stampSec x.pub : Int) - x.roll.at_.sec)) ++ beBytes 2 (s.rf Reg.ANA_PINS 0 16) ++
    decOctets s.decisions ++ decOctets x.changed ++ beBytes 2 (s.rf Reg.ANA_REC_KEY 16 16) ++ [0, 0]

/-- ALARM_RECORD (R260-R262): the record goes to ring 18, and signed and enabled to the ports. -/
def State.alarmRecord (s : State) (x : RecordOf) : State :=
  let slot := s.rf Reg.ANA_REC_KEY 0 8
  let seq := x.roll.at_.seq32 (rateOf x.roll.rate)
  let w14 := x.inst + 256 * x.roll.form
  match s.keyFor slot 2 with
  | none =>
    let s := ((s.keyFail slot).bump (Reg.ANA_CNT 1)).setRb Reg.ANA_STATUS 5 true
    s.postRecord 18 (s.recordBody x true ++ List.replicate 16 0) seq w14
  | some k =>
    let body := s.recordBody x false
    let rc := body ++ (hmac k.material body).take 16
    let s := s.postRecord 18 rc seq w14
    if s.rb Reg.ANA_CTRL 1 then
      let hdr := s.hbmRead (s.pair Reg.ANA_REC_HDR_LO) (s.rf Reg.ANA_REC_CTRL 8 8)
      let f := templateFrame (s.rb Reg.ANA_REC_CTRL 4) hdr rc (s.rf Reg.ANA_REC_ID 16 8) (s.rf Reg.ANA_REC_ID 24 8)
        (some (s.rf (Reg.ANA_CNT 0) 0 16))
      (s.sendPorts (s.rf Reg.ANA_REC_CTRL 0 4) 0 f).bump (Reg.ANA_CNT 0)
    else s

end Sys2Proof.Machine
end

