-- ==== Sys2Proof/Machine/Cache.lean ====
section
/-! DEFINITION. The layout of an image (R60-R63) and the image cache in HBM3 (R70): four entries, of which entry 0 holds the lesson
plans in service with their section entries. -/

namespace Sys2Proof.Machine

/-! ### Image format (R60-R64) -/

/-- Where an image is read from: `n` octets at an offset. -/
abbrev ImageSource := Nat → Nat → List Byte

/-- The section entry `k` of a header: 0 the device section, `k + 1` classroom `k` (R61). -/
def secEntry (h : List Byte) (k : Nat) : List Byte := slice h (0x40 + 48 * k) 48

/-- Fields of a section entry (R62). -/
def secOffset (e : List Byte) : Nat := le e 0 4
def secFrames (e : List Byte) : Nat := le e 4 4
def secPreserve (e : List Byte) : Bool := decide (le e 8 4 % 2 = 1)
def secStateTag (e : List Byte) : Nat := le e 12 4
def secDigest (e : List Byte) : List Byte := slice e 16 32

/-- Fields of a header (R61). -/
def hdrKind (h : List Byte) : Nat := le h 6 2
def hdrLength (h : List Byte) : Nat := le h 12 4
def hdrVersion (h : List Byte) : Nat := le h 16 4
def hdrSigner (h : List Byte) : Nat := octet h 0x14

/-- The sections an image holds. -/
def sections (h : List Byte) : List Nat := (List.range 33).filter (fun k => decide (secFrames (secEntry h k) ≠ 0))

/-! ### The image cache (R70) -/

/-- Bytes of the image cache in HBM3 (R70). -/
def cacheBase : Nat := 0x3F0000000

/-- An image held in HBM3. -/
def State.hbmAt (s : State) (base : Nat) : ImageSource := fun a n => s.hbmRead (base + a) n

/-- Entry `e` of the image cache (R70). -/
def entryAt (e : Nat) : Nat := cacheBase + 0x4000000 * e

/-- The sections that entry 0 holds: classroom, section entry, frames. -/
def State.entryZero (s : State) : List (Nat × List Byte × List Byte) :=
  let rd := s.hbmAt (entryAt 0)
  let h := rd 0 4096
  (List.range 32).filterMap (fun c =>
    let e := secEntry h (c + 1)
    if secFrames e = 0 then none else some (c, e, rd (secOffset e) (4096 * secFrames e)))

/-- The section entries of entry 0 by classroom, each with the offset at which its frames stand: one section after the other from
4,096 on. -/
def entryTable : Nat → List (Nat × List Byte × List Byte) → Tab (List Byte)
  | _, [] => []
  | at_, (c, e, fs) :: xs => Tab.put (fun _ => []) (entryTable (at_ + fs.length) xs) c (leBytes 4 at_ ++ e.drop 4)

/-- Entry 0 is written: a section table as in an image header, and the frames behind it (PRESUMED layout, assumption 163). -/
def State.putEntryZero (s : State) (xs : List (Nat × List Byte × List Byte)) : State :=
  let tab := entryTable 4096 xs
  let head := List.replicate 0x70 (0 : Byte) ++ (List.range 32).flatMap (fun c =>
    let e := Tab.get (fun _ => []) tab c
    if e.isEmpty then List.replicate 48 0 else e)
  s.hbmWrite (entryAt 0) (head ++ List.replicate (4096 - head.length) 0 ++ xs.flatMap (fun x => x.2.2))

/-- Section `e`, `fs` of classroom `c` goes into entry 0; the one it replaces goes (R68, R72). -/
def State.putEntry (s : State) (c : Nat) (e fs : List Byte) : State :=
  s.putEntryZero (s.entryZero.filter (fun x => decide (x.1 ≠ c)) ++ [(c, e, fs)])

/-- The plan of classroom `c` is in service no more. -/
def State.dropEntry (s : State) (c : Nat) : State := s.putEntryZero (s.entryZero.filter (fun x => decide (x.1 ≠ c)))

end Sys2Proof.Machine
end

