-- ==== Sys2Proof/Machine/Publish.lean ====
section
/-! DEFINITION. Lesson instances at work (R22, R231-R238, R260): a roll in the pending place, a roll begun, a publication with all
that follows from it, a skipped roll, and the commit of tables and parameters. -/

namespace Sys2Proof.Machine

/-! ### Slack of a roll (R22) -/

/-- Records that are whole give their slack to the regulation window. -/
def State.slackHarvest (s : State) (f : Nat) (l : List SlackRec) : State :=
  let whole := l.filterMap (fun x => match x.left, x.pub, x.next with
    | 0, some p, some n => some ((n : Int) - p)
    | _, _, _ => none)
  let rest := l.filter (fun x => decide (x.left ≠ 0) || (x.pub.isSome && x.next.isNone))
  let low := whole.foldl (fun (a : Option Int) v => some (match a with
    | some w => min w v
    | none => v)) s.pwr.minSlack
  { s with slacks := Tab.put (fun _ => []) s.slacks f rest, pwr := { s.pwr with minSlack := low } }

/-- A subscribed lesson is done with the roll of instant `at_`: published at `t`, or dropped unpublished. -/
def State.slackDone (s : State) (f : Nat) (at_ : Instant) (t : Option Stamp) : State :=
  s.slackHarvest f ((Tab.get (fun _ => []) s.slacks f).map (fun x =>
    if x.at_ = at_ then { x with left := x.left - 1, pub := if t.isSome then t else x.pub } else x))

/-- The roll of instant `at_` is released at `t` to `n` subscribed lessons; it is the next roll of the one before. -/
def State.slackRelease (s : State) (f : Nat) (at_ : Instant) (n : Nat) (t : Stamp) : State :=
  let old := (Tab.get (fun _ => []) s.slacks f).map (fun (x : SlackRec) => if x.next.isNone then { x with next := some t } else x)
  s.slackHarvest f (if n = 0 then old else old ++ [{ at_ := at_, left := n }])

/-! ### What every publication writes (R238) -/

/-- A publication of instance `i`: what its result entry, its result group and its ring-19 descriptor say. -/
structure Pub where
  roll : Roll
  at_ : Nat
  flags : Nat
  payload : List Byte
  val0 : Word
  val1 : Word

/-- The decision bits of instance `i`. -/
def State.instDec (s : State) (i : Nat) : Nat := (s.decisions >>> s.decBase i) % 2 ^ s.decCount i

/-- The HBM3 offset of the result entry of a roll. -/
def State.resultAt (s : State) (i : Nat) (r : Roll) : Nat :=
  match (s.lesson i).use with
  | some u => u.res + (r.at_.index (rateOf r.rate) % 2 ^ u.rdepth) * (s.rf (Reg.LSN_ENTRY i) 0 24)
  | none => 0

/-- Result store, LSNi_OUT and ring 19 (R238). -/
def State.lessonOut (s : State) (i : Nat) (p : Pub) : State :=
  let r := p.roll
  let seq := r.at_.seq32 (rateOf r.rate)
  let t := s.tbNow r.tb
  let dec := s.instDec i
  let at_ := p.at_
  let head := leBytes 4 0x4C534E52 ++ leBytes 4 (i + 256 * s.lsnKind i + 65536 * r.form) ++ leBytes 4 seq ++
    leBytes 4 r.at_.sec ++ leBytes 4 (r.at_.sec / 2 ^ 32 % 65536) ++ leBytes 4 (instNs (rateOf r.rate) r.at_.k) ++
    leBytes 4 p.flags ++ leBytes 4 (stampNs t) ++ leBytes 4 (stampSec t) ++ leBytes 4 p.payload.length ++
    leBytes 4 dec ++ leBytes 4 (dec / 2 ^ 32) ++ List.replicate 16 0
  let s := if (s.lesson i).use.isSome then s.hbmWrite at_ (head ++ p.payload) else s
  let s := (s.setReg (Reg.LSN_OUT_SEQ32 i) (word seq)).setReg (Reg.LSN_OUT_INFO i) (word (p.flags + 65536 * (dec % 65536)))
  let s := ((s.setReg (Reg.LSN_OUT_VAL0 i) p.val0).setReg (Reg.LSN_OUT_VAL1 i) p.val1).publish (Reg.LSN_OUT_STATUS i)
  if s.rb (Reg.LSN_CTRL i) 1 then
    s.postDesc 19 (leBytes 4 (i + 256 * s.lsnKind i + 65536 * r.form) ++ leBytes 4 seq ++ leBytes 4 at_ ++
      leBytes 4 (at_ / 2 ^ 32) ++ leBytes 4 p.flags ++ leBytes 4 dec ++ leBytes 4 (dec / 2 ^ 32))
  else s

/-- The DECISION entry of a publication (R426, R427). -/
def State.decisionEntry (s : State) (i : Nat) (r : Roll) (skipped ue : Bool) (exc : Nat) (payload : List Byte) : State :=
  let seq := r.at_.seq32 (rateOf r.rate)
  let dec := s.instDec i
  let d1 := s.ansHash (beBytes 1 0x44 ++ beBytes 1 r.form ++ beBytes 4 seq ++ beBytes 1 i ++ beBytes 1 exc ++ beBytes 4 dec ++
    beBytes 4 (dec / 2 ^ 32) ++ payload)
  let d2 := s.ansHash (beBytes 1 0x53 ++ beBytes 1 i ++ beBytes 4 seq ++ Config.stateOctets (s.lesson i).state.code)
  (if s.rb Reg.RED_CTRL 1 then s.ansUse else s).ansEntry
    { kind := 3, flags := skipped.toNat + 2 * ue.toNat + 4 * (r.flags / 4 % 2), form := r.form, inst := i, seq := seq
      d1 := d1, d2 := d2, present := 0 }

/-! ### The roll at which a commit takes effect (R236) -/

/-- Whether a commit named for `at_` acts from a roll with SEQ32 `seq`. -/
def CommitAt.reached (a : CommitAt) (seq : Nat) : Bool :=
  match a with
  | .now => true
  | .seq v => decide ((seq + 2 ^ 32 - v) % 2 ^ 32 < 2 ^ 31)

/-- The accepted commit of instance `i` takes effect (R236). -/
def State.applyCommit (s : State) (i : Nat) (c : Commit) : State :=
  let x := s.lesson i
  let resets := match x.use with
    | some u => u.bank ≠ c.bank || u.par.getD 0 0 ≠ c.par.getD 0 0 || u.table ≠ c.table
    | none => true
  let x := { x with
    use := some c, next := none
    state := if resets then {} else x.state
    fresh := resets || x.fresh
    last := if resets then none else x.last }
  let s := if resets then s.restartTag i else s
  ((s.setLesson i x).setReg (Reg.LSN_ACTIVE i) (word c.bank.toNat)).setReg (Reg.LSN_ENTRY i)
    (word (entryBytes (s.lsnKind i) c.table % 2 ^ 24))

/-- The accepted commit takes effect at a roll with SEQ32 `seq`, if it names it or one before. -/
def State.commitAt (s : State) (i seq : Nat) : State :=
  match (s.lesson i).next with
  | some (c, a) => if a.reached seq then s.applyCommit i c else s
  | none => s

/-! ### Skipped rolls (R232) -/

/-- Instance `i` publishes roll `r` SKIPPED: decisions and lesson state unchanged, no report card. A commit that names the roll takes
effect at it (R236); where it resets the lesson state, this is the first result after the reset. -/
def State.publishSkip (s : State) (i : Nat) (r : Roll) : State :=
  let s := s.commitAt i (r.at_.seq32 (rateOf r.rate))
  let x := s.lesson i
  let s := s.setLesson i { x with fresh := false }
  let s := ((s.bumpWrap (Reg.LSN_SKIPPED i)).bump (Reg.ANA_CNT 3)).setRb Reg.ANA_STATUS 4 true
  let v0 := s.draw 32
  let v1 := v0.2.draw 32
  let bank := match x.use with
    | some u => u.bank
    | none => false
  let s := v1.2.lessonOut i
    { roll := r, at_ := s.resultAt i r, flags := 2 + 128 * x.fresh.toNat + 256 * bank.toNat, payload := [], val0 := word v0.1, val1 := word v1.1 }
  (s.decisionEntry i r true false 0 []).slackDone r.form r.at_ (some (s.tbNow r.tb))

/-- A roll is skipped: published at once, or after the roll begun before it. -/
def State.skipRoll (s : State) (i : Nat) (r : Roll) : State :=
  let x := s.lesson i
  if x.begun.isSome || x.held.isSome then s.setLesson i { x with skips := x.skips ++ [r] } else s.publishSkip i r

/-- Whether instance `i` takes rolls: enabled, not absent, and past the first roll of its first commit (R233, R236). -/
def State.takesRoll (s : State) (i : Nat) (r : Roll) : Bool :=
  let x := s.lesson i
  let seq := r.at_.seq32 (rateOf r.rate)
  decide (s.lsnKind i ≠ 0) && decide (s.lsnForm i = r.form) && s.rb (Reg.LSN_CTRL i) 0 && s.rb Reg.ANA_CTRL 0 &&
    !s.absent i &&
    (x.use.isSome || match x.next with
      | some (_, .now) => true
      | some (_, .seq a) => decide ((seq + 2 ^ 32 - a) % 2 ^ 32 < 2 ^ 31)
      | none => false)

/-- ROLL_DELIVERY to instance `i` (R190, R232, R357). -/
def State.deliverTo (s : State) (i : Nat) (r : Roll) : State :=
  if s.takesRoll i r then
    let x := s.lesson i
    let old := x.pending
    if (s.lsnSpan i).any s.starved then
      let s := s.setLesson i { x with pending := none }
      let s := match old with
        | some p => s.skipRoll i p
        | none => s
      (s.bump (Reg.SCH_CNT 7)).skipRoll i r
    else
      let s := s.setLesson i { x with pending := some r, starved := false }
      match old with
      | some p => s.skipRoll i p
      | none => s
  else s

/-- Delivery to every lesson that the syllabus subscribes to the form; the slack of the roll waits for those that take it. -/
def State.deliverLessons (s : State) (r : Roll) : State :=
  let takers := (List.range 64).filter (fun i => s.takesRoll i r)
  let s := s.slackRelease r.form r.at_ takers.length (s.tbNow r.tb)
  takers.foldl (fun s i => s.deliverTo i r) s

/-! ### Beginning a roll (R232, R236) -/

/-- What instance `i` computes from roll `r`. -/
def State.lessonRun (s : State) (i : Nat) (r : Roll) (c : Commit) (x : Lesson) : Result :=
  let adjacent := match x.last with
    | some (p, rate) =>
      decide (rate = r.rate) && decide (p.index (rateOf rate) + 1 = r.at_.index (rateOf r.rate)) && decide (r.flags % 2 = 0)
    | none => false
  match s.lsnKind i with
  | 1 => s.lseRun r c x.state
  | 2 => s.oscRun r c x.state
  | 3 => s.islRun r c x.state
  | _ => s.thrRun r c x.state adjacent

/-- Whether instance `i` may begin the roll in its pending place; an UNLOAD that waits stops the lessons of its classroom (R76). -/
def State.canBegin (s : State) (i : Nat) : Bool :=
  let x := s.lesson i
  s.domOn pdSch && x.begun.isNone && x.pending.isSome && !x.starved && s.rb (Reg.LSN_CTRL i) 0 && s.rb Reg.ANA_CTRL 0 && !s.absent i &&
    (s.lsnSpan i).all (fun c =>
      (s.domOn (classDomain c) || s.inCover c) && !s.starved c && decide (s.loader.unloading ≠ some c))

/-- LESSON_BEGIN (R232). -/
def State.lessonBegin (s : State) (i : Nat) : State :=
  if s.canBegin i then
    match (s.lesson i).pending with
    | none => s
    | some r =>
      let seq := r.at_.seq32 (rateOf r.rate)
      let s := s.commitAt i seq
      let x := s.lesson i
      match x.use with
      | none => s
      | some c =>
        let cover := (s.lsnSpan i).any s.inCover
        let run := if cover then s.coverCompute i r else {}
        let s := s.setLesson i { x with
          pending := none
          begun := some
            { roll := r, result := s.lessonRun i r c x, cover := cover, reset := x.fresh, bank := c.bank
              at_ := s.resultAt i r, run := run }
          fresh := false, last := some (r.at_, r.rate), lastSeq := some seq }
        let s := if cover then s.coverUe run else s.beginRuns i r
        (s.unready (Reg.LSN_OUT_STATUS i)).unready (Reg.FAB_RES_STATUS (s.lsnHome i))
  else s

/-! ### Publication (R221-R224, R232, R247, R252, R256, R260) -/

/-- The decision bits of instance `i` take `v`: DECISION triggers, sharing on the board, and the pins (R257-R259, R330, R435). -/
def State.putDecisions (s : State) (i v seq : Nat) : State :=
  let before := s.decisions
  let d := putBits before (s.decBase i) (s.decCount i) v
  let s := { s.setDecisions d with alarms := { s.alarms with seq := word seq } }
  (if d ≠ before then (s.decisionEdges before d).shareDecisions else s).pinsFollow

/-- The counter, flag and event of the kind (R247, R252, R256). -/
def State.kindEvents (s : State) (i : Nat) (x : Result) : State :=
  let go := fun (s : State) (cnt flag ev n : Nat) =>
    let s := s.bumpBy (Reg.ANA_CNT cnt) x.detects
    if x.changes ≠ 0 then
      let s := s.setRb Reg.ANA_STATUS flag true
      if s.rb (Reg.LSN_CTRL i) 2 then (List.range n).foldl (fun s _ => s.raise ev i) s else s
    else s
  match s.lsnKind i with
  | 1 => go s 4 3 39 1
  | 2 => go s 5 1 37 x.changes
  | 3 => go s 6 2 38 1
  | _ => s

/-! ### Absence (R233) -/

/-- Instances that have become absent drop the roll in their pending place, and the decisions follow. -/
def State.absenceFollow (s : State) : State :=
  let s := (List.range 64).foldl (fun s i =>
    let x := s.lesson i
    match x.pending with
    | some r =>
      if !s.rb (Reg.LSN_CTRL i) 0 || !s.rb Reg.ANA_CTRL 0 || s.absent i then
        (s.setLesson i { x with pending := none }).slackDone r.form r.at_ none
      else s
    | none => s) s
  s.showDecisions

/-- The desks of a classroom that stay known when its plan is gone: the retired ones (R226). -/
def Classroom.retiredOnly (x : Classroom) : Classroom := { desks := x.desks.filter (fun e => decide (e.2 = 3)) }

/-- Classroom `c` is emptied: no plan, an empty chalkboard, its desks UNCHECKED but the retired ones, nothing mapped (R76, R226). -/
def State.emptyClass (s : State) (c : Nat) : State :=
  let s := s.setClassroom c (s.classroom c).retiredOnly
  let s := (List.range 32).foldl (fun s j => s.setReg (Reg.FAB_MAP c j) 0xFFFFFFFF) s
  s.setRf (Reg.FAB_STATUS c) 8 3 0

/-- A roll of instance `i` that is begun can still be published: cover holds it, or a classroom has its run. -/
def State.rollAlive (s : State) (i : Nat) : Bool :=
  (s.lesson i).held.isSome ||
    match (s.lesson i).begun with
    | some b => b.cover || (s.lsnSpan i).any (fun c => (s.classroom c).runs.any (fun r => decide (r.tag = s.lsnTag i)))
    | none => false

/-- An UNLOAD that waits for the rolls begun on its classroom completes (R76, R79, R85). -/
def State.unloadFinish (s : State) : State :=
  match s.loader.unloading with
  | none => s
  | some c =>
  if (s.lessonsOn c).all (fun i => !s.rollAlive i) then
    let s := (s.lessonsOn c).foldl (fun s i => s.setLesson i { s.lesson i with begun := none }) s
    let s := { s with loader := { s.loader with unloading := none } }
    let s := (s.emptyClass c).dropEntry c
    let s := s.setReg (Reg.IMG_CLS_STATE c) 0
    let s := ((s.coverExit c).showCover).absenceFollow
    let s := (s.setReg Reg.IMG_CLS_STATUS (setFld (setFld (s.reg Reg.IMG_CLS_STATUS) 16 8 0) 24 5 c)).publish Reg.IMG_CLS_STATUS
    (s.setRb Reg.IMG_CLS_CMD 0 false).raise 2 c
  else s

/-- The alarm record of a publication, where its instance asks for one (R260); `before` is the vector before it. -/
def State.publishRecord (s : State) (i : Nat) (b : Begun) (before : Nat) : State :=
  let mine := (before ^^^ s.decisions) &&& bitRange (s.decBase i) (s.decCount i)
  let hb := s.rf (Reg.LSN_CTRL i) 16 16
  let chg := s.rb (Reg.LSN_CTRL i) 3 && decide (mine ≠ 0)
  let beat := decide (hb ≠ 0) && decide (b.roll.at_.index (rateOf b.roll.rate) % hb = 0)
  if chg || beat then
    s.alarmRecord { inst := i, roll := b.roll, cover := b.cover, reset := b.reset, heartbeat := beat
                    pub := s.tbNow b.roll.tb, changed := mine }
  else s

/-- LESSON_PUBLISH (R238): the result entry, group and descriptor of a roll that is not skipped. -/
def State.publishOut (s : State) (i : Nat) (b : Begun) (exc : Nat) : State :=
  let v0 := s.draw 32
  let p := match b.result.val0 with
    | some w => (w, s)
    | none => (word v0.1, v0.2)
  let flags := b.cover.toNat + 4 * exc + 128 * b.reset.toNat + 256 * b.bank.toNat
  p.2.lessonOut i { roll := b.roll, at_ := b.at_, flags := flags, payload := b.result.payload, val0 := p.1, val1 := b.result.val1 }

/-- Instant `a` comes before instant `b`. -/
def Instant.before (a b : Instant) : Bool := decide (a.sec < b.sec) || (decide (a.sec = b.sec) && decide (a.k < b.k))

/-- After a publication: rolls skipped meanwhile are published, but those behind a roll that is begun and not yet published; absence and
a waiting UNLOAD take effect. -/
def State.publishEnd (s : State) (i : Nat) : State :=
  let x := s.lesson i
  let wait (k : Roll) : Bool := match x.begun with
    | some b => !k.at_.before b.roll.at_
    | none => false
  let s := s.setLesson i { x with skips := x.skips.filter wait }
  let s := (x.skips.filter (fun k => !wait k)).foldl (fun s k => s.publishSkip i k) s
  s.showDecisions.unloadFinish

/-- The banks of a lesson are free in every classroom it spans. -/
def State.freeBanks (s : State) (i : Nat) : State := (s.lsnSpan i).foldl (fun s c => s.freeBank c (s.lsnTag i)) s

/-- A set's words at the places that a plan names. -/
def setWords (set : List (List Word)) (at_ : List (Nat × Nat)) : List Word := at_.map (fun e => (set.getD e.1 []).getD e.2 0)

/-- A result with the decision bits and the payload of the set, where the plan leaves them to the desks (R222). -/
def Result.forward (x : Result) (out : Option SetOut) (set : List (List Word)) : Result :=
  match out with
  | none => x
  | some o =>
    { x with
      dec := (setWords set o.dec).foldr (fun w a => w.toNat + 2 ^ 32 * a) 0
      payload := (setWords set o.payload).flatMap (fun w => leBytes 4 w.toNat) }

/-- Instance `i` publishes a roll as `b` holds it, its set `rs` already taken over; `exc` holds the exception bits of the set and
CB_UE above them. -/
def State.publishSet (s1 : State) (i : Nat) (b : Begun) (rs : List (Nat × Record)) (exc : Nat) : State :=
  let r := b.roll
  let ue := decide (16 ≤ exc)
  let s2 := (s1.cardPublish i r rs ue).putDecisions i (b.result.dec % 2 ^ s1.decCount i) (r.at_.seq32 (rateOf r.rate))
  let s3 := ((s2.publishOut i b exc).kindEvents i b.result).publishRecord i b s1.decisions
  let s4 := s3.decisionEntry i r false ue exc b.result.payload
  s4.slackDone r.form r.at_ (some (s1.tbNow r.tb))

/-- The set of a roll of instance `i` is taken over, and what the roll publishes is made ready from it (R222). -/
def State.takeSet (s : State) (i : Nat) (b : Begun) (rs : List (Nat × Record)) : State × Begun :=
  let reduced := s.cardReduce i rs
  (s.setLesson i { s.lesson i with reduced := reduced, set := rs },
    { b with result := b.result.forward (s.lessonPlan (s.lsnHome i) (s.lsnTag i)).out reduced })

/-- Instance `i` publishes the roll it has begun. -/
def State.publishRoll (s : State) (i : Nat) (b : Begun) (rs : List (Nat × Record)) (exc : Nat) : State :=
  let p := (s.coverCommit b.run).takeSet i b rs
  let s1 := p.1.setLesson i { p.1.lesson i with state := b.result.state, begun := none }
  ((s1.publishSet i p.2 rs exc).freeBanks i).publishEnd i

/-- Cover publishes a roll of instance `i` that it began before it handed back a classroom with a fresh lesson state; nothing of it is
committed (R73). -/
def State.publishHeld (s : State) (i : Nat) (b : Begun) (rs : List (Nat × Record)) (exc : Nat) : State :=
  let p := s.takeSet i b rs
  let s1 := p.1.setLesson i { p.1.lesson i with held := none }
  (s1.publishSet i p.2 rs exc).publishEnd i

/-- Exception bits, and CB_UE above them, of a roll that cover computed (R222, R228). -/
def CoverRun.exc (r : CoverRun) : Nat := excOf r.records % 16 + 16 * (!r.ue.isEmpty).toNat

/-- Cover can publish a roll of instance `i`: the scheduler is on and no classroom of it STARVED. A roll that is begun is completed, so
that one an UNLOAD waits for is published all the same (R232, R357; DESIGN CHOICE, assumption 169). -/
def State.coverReady (s : State) (i : Nat) : Bool :=
  s.domOn pdSch && (!(s.lsnSpan i).any s.starved || (s.lsnSpan i).any (fun c => decide (s.loader.unloading = some c)))

/-- REPORT_CARD_PUBLISH (R221, R358): the home classroom publishes the roll of instance `i` once its bank holds every
contributor's record, or cover publishes it; a roll of the returned classroom is held until cover has published every roll it began. -/
def State.reportCardPublish (s : State) (i : Nat) : State :=
  match (s.lesson i).held, (s.lesson i).begun with
  | some b, _ => if s.coverReady i then (s.bump (Reg.SCH_CNT 6)).publishHeld i b b.run.records b.run.exc else s
  | none, none => s
  | none, some b =>
    if b.cover then (if s.coverReady i then (s.bump (Reg.SCH_CNT 6)).publishRoll i b b.run.records b.run.exc else s)
    else if s.domOn pdSch && s.cardFull i && (s.lsnSpan i).all (fun c => s.domOn (classDomain c)) then
      let rs := s.cardAll i
      let ue := (s.lsnSpan i).any (fun c => (s.classroom c).ue.contains (s.lsnTag i))
      s.publishRoll i b rs (excOf rs % 16 + 16 * ue.toNat)
    else s

/-! ### ANA_COMMIT (R235) -/

/-- Whether a range of HBM3 lies within it and clear of the image cache. -/
def hbmRangeOk (a n : Nat) : Bool := decide (a + n ≤ hbmSize) && (n = 0 || decide (a + n ≤ cacheBase))

/-- The first failing check of a commit, or 0, and the values it takes. -/
def State.commitCheck (s : State) (i : Nat) (now : Bool) : Nat × Commit :=
  let x := s.lesson i
  let kind := s.lsnKind i
  let bank := s.rb (Reg.LSN_CTRL i) 4
  let par := (List.range 7).map (fun k => s.reg (Reg.LSN_P i k))
  let base := if bank then s.pair (Reg.LSN_TBLB_LO i) else s.pair (Reg.LSN_TBLA_LO i)
  let rdepth := s.rf (Reg.LSN_RES_LO i) 0 4
  let res := s.pair (Reg.LSN_RES_LO i) / 4096 * 4096
  let len := le (s.hbmRead (base + 8) 4) 0 4
  let fits := decide (64 ≤ len) && decide (base + len ≤ hbmSize)
  let table := if fits then s.hbmRead base len else []
  let c : Commit := { bank := bank, par := par, table := table, res := res, rdepth := rdepth }
  let inst := x.inst.getD {}
  let past := !now && match x.lastSeq with
    | some q => decide ((q + 2 ^ 32 - (s.reg Reg.ANA_COMMIT_AT).toNat) % 2 ^ 32 < 2 ^ 31)
    | none => false
  let code :=
    if kind = 0 || (s.lsnSpan i).any (fun c => decide (s.clsState c = 0) || !s.domOn (classDomain c)) then 1
    else if !paramsOk kind (s.formPar (s.lsnForm i)).r par || rdepth < 1 || 10 < rdepth then 2
    else if !fits || !tableOk kind (s.decCount i) table then 3
    else if !limitOk kind inst (par.getD 0 0) table then 4
    else if !hbmRangeOk res (2 ^ rdepth * entryBytes kind table) then 5
    else if past then 6
    else 0
  (code, c)

/-- ANA_COMMIT: GO is set with its INSTANCE and NOW. -/
def State.anaCommit (s : State) : State :=
  let w := s.reg Reg.ANA_COMMIT
  let i := fld w 8 6
  let now := bit w 1
  let k := s.commitCheck i now
  let s := s.unready Reg.ANA_COMMIT_STATUS
  let s := if k.1 = 0 then
      let x := s.lesson i
      let a := if now then CommitAt.now else .seq (s.reg Reg.ANA_COMMIT_AT).toNat
      (s.setLesson i { x with next := some (k.2, a) }).setRb (Reg.LSN_ACTIVE i) 1 true
    else s
  let s := s.setReg Reg.ANA_COMMIT_STATUS (setFld (setFld (s.reg Reg.ANA_COMMIT_STATUS) 16 8 k.1) 24 6 i)
  ((s.publish Reg.ANA_COMMIT_STATUS).setRb Reg.ANA_COMMIT 0 false).showDecisions

/-- What a write of an ANA register does beside its plain fields. -/
def State.anaHook (s : State) (off : Nat) : State :=
  let d := off - 0x110000
  if d = 0x0 then s.absenceFollow
  else if d = 0x8 then (if s.rb Reg.ANA_COMMIT 0 then s.anaCommit else s)
  else if d = 0x18 then s.latchClear
  else if 0x400 ≤ d && d < 0x800 then s.pinsFollow
  else if 0x1000 ≤ d && (d - 0x1000) % 0x80 = 0x8 then s.absenceFollow
  else s

end Sys2Proof.Machine
end

