-- ==== Sys2Proof/Machine/Framer.lean ====
section
/-! DEFINITION. The output framer (R202-R205): concentrated C37.118.2 data frames built from a released roll. -/

namespace Sys2Proof.Machine

/-- The counts NPH, NAN, NDG that the descriptor of a seat gives (R176, R302). -/
def State.seatCounts (s : State) (code : Nat) : Nat × Nat × Nat :=
  if code < 0x4000 then
    let w := s.seatW code 0x1C
    (fld w 8 6, fld w 16 6, fld w 24 5)
  else (14, 0, 1)

/-- A DW of a frame record, most significant octet first. -/
def recBE (rc : List Byte) (off : Nat) : List Byte := beBytes 4 (le rc off 4)

/-- The block of a present member, from its frame record (R203). -/
def presentBlock (rc : List Byte) : List Byte :=
  let nph := octet rc 4 % 64
  let nan := octet rc 5 % 64
  let ndg := octet rc 6 % 32
  beBytes 2 (le rc 2 2) ++ (List.range (2 * nph)).flatMap (fun k => recBE rc (0x30 + 4 * k)) ++ recBE rc 0x20 ++
    recBE rc 0x24 ++ (List.range nan).flatMap (fun k => recBE rc (0x30 + 8 * nph + 4 * k)) ++
    (List.range ndg).flatMap (fun k => beBytes 2 (le rc (0x30 + 8 * nph + 4 * nan + 2 * k) 2))

/-- The block of an absent member (R203). -/
def absentBlock (n : Nat × Nat × Nat) : List Byte :=
  beBytes 2 0x8000 ++ (List.range (2 * n.1 + 2 + n.2.1)).flatMap (fun _ => beBytes 4 0x7FC00000) ++
    List.replicate (2 * n.2.2) 0

/-- The block of member `m` of a roll, which has seat `code`. -/
def State.memberBlock (s : State) (r : Roll) (m code : Nat) : List Byte :=
  match s.rollRecord r m with
  | some rc => presentBlock rc
  | none => absentBlock (s.seatCounts code)

/-- FRACSEC (R202): leap bits and time quality from the roll, fraction in units of 1/TBASE. -/
def fracSec (flags tq ns tbase : Nat) : Nat :=
  (flags / 64 % 2) * 2 ^ 30 + (flags / 32 % 2) * 2 ^ 29 + (flags / 16 % 2) * 2 ^ 28 + tq % 16 * 2 ^ 24 +
    (ns * tbase + 500000000) / 1000000000 % 2 ^ 24

/-- The seat code of member `m` of a roll, by MEMBER_MAP of its image (R191). -/
def State.rollSeat (s : State) (r : Roll) (m : Nat) : Option Nat :=
  let c := le (s.hbmRead (r.image + 0x40 + r.cap / 8 + 2 * m) 2) 0 2
  if m < r.cap && c ≠ 0xFFFF then some c else none

/-- The C37.118.2 frame of output `o` for a roll (R202, R203). -/
def State.outputFrame (s : State) (o : Nat) (r : Roll) : List Byte :=
  let range := s.reg (Reg.OUT_RANGE o)
  let blocks := (List.range (fld range 16 15)).flatMap (fun k =>
    let m := fld range 0 15 + k
    match s.rollSeat r m with
    | some code => s.memberBlock r m code
    | none => [])
  let tq := octet (s.hbmRead (r.image + 5) 1) 0 / 16
  let off := signed 16 (le (s.hbmRead (r.image + 0x16) 2) 0 2)
  let body := beBytes 4 (wrap 32 ((r.at_.sec : Int) - off)) ++
    beBytes 4 (fracSec r.flags tq (instNs (rateOf r.rate) r.at_.k) (s.rf (Reg.OUT_TBASE o) 0 24)) ++ blocks
  let f := beBytes 2 0xAA02 ++ beBytes 2 (body.length + 8) ++ beBytes 2 (s.rf (Reg.OUT_ID o) 0 16) ++ body
  f ++ beBytes 2 (crcCcitt f)

/-- The seal trailer of a frame (R205); none where the slot does not serve FRAMER_SIGN. -/
def State.sealTrailer (s : State) (o seq : Nat) (f : List Byte) : Option (List Byte) :=
  let t := beBytes 4 0x5345414C ++ beBytes 4 seq ++ beBytes 2 (s.rf (Reg.OUT_KEY o) 16 16) ++ [0, 0]
  (s.keyFor (s.rf (Reg.OUT_KEY o) 0 8) 1).map (fun k => t ++ (hmac k.material (f ++ t)).take 16)

/-- Output `o` sends its frame of a roll: on each port of its mask whose MAC_MAXLEN holds it, with the trailer where it is doubled. -/
def State.framerSend (s : State) (o : Nat) (r : Roll) : State :=
  let seq := r.at_.seq32 (rateOf r.rate)
  let c := s.reg (Reg.OUT_CTRL o)
  let f := s.outputFrame o r
  let oversize := fun (s : State) => (s.bump (Reg.RCL_CNT 10)).setRb Reg.RCL_STATUS 4 true
  if 65535 < f.length then oversize s
  else
    match (if bit c 1 then s.sealTrailer o seq f else some []) with
    | none => (s.keyFail (s.rf (Reg.OUT_KEY o) 0 8)).bump (Reg.RCL_CNT 11)
    | some t =>
      let hdr := s.hbmRead (s.pair (Reg.OUT_HDR_LO o)) (fld c 4 8)
      let e := templateFrame (bit c 2) hdr (f ++ t) (s.rf (Reg.OUT_ID o) 16 8) (s.rf (Reg.OUT_ID o) 24 8) (some (seq % 65536))
      let want := (List.range 4).filter (fun p => (fld c 12 4).testBit p && s.domOn (portDomain p))
      let fits := want.filter (fun p => s.txFits p e (s.prpDoubles p e false))
      let s := if fits.length < want.length then oversize s else s
      if fits.isEmpty then s
      else ((fits.foldl (fun s p => s.txQueue p 2 e) s).bump (Reg.RCL_CNT 9)).bumpWrap (Reg.OUT_FRAMES o)

/-- OUTPUT_FRAMER (R202): the frames of the form's enabled outputs, in ascending output. -/
def State.framer (s : State) (r : Roll) : State :=
  if s.rb Reg.RCL_CTRL 1 then
    (List.range 128).foldl (fun s o =>
      if s.rb (Reg.OUT_CTRL o) 0 && decide (s.rf (Reg.OUT_CTRL o) 16 8 = r.form) then s.framerSend o r else s) s
  else s

end Sys2Proof.Machine
end

