-- ==== Sys2Proof/Machine/Clock.lean ====
section
/-! DEFINITION. The real-time clock and the backup supply (R115-R129): the tick counter, its load and trim, the alarm, the
crystal watch and the switch-over of PD_AON. -/

namespace Sys2Proof.Machine

/-- Values that the RTC register tables refuse (R119, R121). -/
def rtcRefuses (s : State) (off : Nat) (v : Word) : Bool :=
  if off = Reg.RTC_LOAD_HI then s.rtc.load.isSome
  else if off = Reg.RTC_TRIM then decide (fld v 8 5 < 15) || decide (25 < fld v 8 5)
  else false

/-- Whether the EVT unit runs: main power is up and no start-up is due (R123, R124). -/
def State.evtRuns (s : State) : Bool := !s.rtc.onVbat && s.pwr.start.isNone

/-- The alarm fires when an update takes the counter from below RTC_ALARM to it or past it (R123). -/
def State.rtcAlarm (s : State) (before : Nat) : State :=
  let a := s.pair Reg.RTC_ALARM_LO
  if s.rb Reg.RTC_CTRL 1 && decide (before < a) && decide (a ≤ s.rtc.count) then
    let s := s.setRb Reg.RTC_STATUS 8 true
    if s.evtRuns then s.raise 12 0 else { s with rtc := { s.rtc with owed12 := true } }
  else s

/-- The ticks a tick edge adds under trim: tick j of a window of 2^W is modified exactly when
((j + 1) × P) div 2^W > (j × P) div 2^W (R121). -/
def trimStep (trim : Word) (j : Nat) : Nat :=
  let w := 2 ^ fld trim 8 5
  let p := fld trim 0 8
  if j * p / w < (j + 1) * p / w then (if bit trim 16 then 0 else 2) else 1

/-- The counter and the trim position after a tick edge at which no load acts (R115, R120, R121). -/
def State.rtcAdvance (s : State) : Rtc :=
  let r := s.rtc
  if s.rb Reg.RTC_CTRL 0 then r
  else
    let pos := (r.trimPos + 1) % 2 ^ fld r.trim 8 5
    { r with
      count := (r.count + trimStep r.trim r.trimPos) % 2 ^ 64
      trimPos := pos
      trim := if pos = 0 then s.reg Reg.RTC_TRIM else r.trim }

/-- A crystal tick edge (R115, R118, R120, R121, R127): the count advances, an armed load is applied, the alarm is judged,
and OSC_STOP clears. -/
def State.crystalTick (s : State) : State :=
  let before := s.rtc.count
  let adv := s.rtcAdvance
  let r :=
    match s.rtc.load with
    | some v => { adv with count := (if s.rb Reg.RTC_CTRL 2 then adv.count + v else v) % 2 ^ 64, load := none }
    | none => adv
  let s := { s with rtc := { r with lastEdge := s.now } }
  let s := s.setRb Reg.RTC_STATUS 0 false
  let s := s.setRb Reg.RTC_STATUS 1 (s.rb Reg.RTC_CTRL 0)
  (s.setRb Reg.RTC_STATUS 2 false).rtcAlarm before

/-- What a write of an RTC register does beside its plain fields: the commit of the LOAD pair arms a load (R118). -/
def State.rtcHook (s : State) (off : Nat) : State :=
  if off = Reg.RTC_LOAD_HI then
    let v := s.pair Reg.RTC_LOAD_LO
    ({ s with rtc := { s.rtc with load := some v } }).setRb Reg.RTC_STATUS 0 true
  else s

/-- No crystal edge for 4.00 ms (R127). -/
def State.oscStop (s : State) : State :=
  if s.rtc.lastEdge + 4 * fsPerMs ≤ s.now then
    (s.setRb Reg.RTC_STATUS 2 true).setRb Reg.RTC_STATUS 11 true
  else s

/-- The once-per-second sample of VBAT, in mV, taken while main power is present (R127). The flag rises again only above
2.05 V (R468). -/
def State.batSample (s : State) (mv : Nat) : State :=
  if s.rtc.onVbat then s
  else if mv < 2000 then s.setRb Reg.RTC_STATUS 3 true
  else if 2050 ≤ mv then s.setRb Reg.RTC_STATUS 3 false
  else s

/-- A write stage takes the current low word again: a staged low half is discarded (R47, R124). -/
def State.unstage (s : State) (lo : Nat) : State := { s with stages := Tab.put regReset s.stages lo (s.reg lo) }

/-- VIO18 falls below the switch-over threshold: the bus interface is locked out, staged low halves of LOAD and ALARM are
discarded, and PD_AON moves to VBAT (R124). -/
def State.toVbat (s : State) : State :=
  if s.rtc.onVbat then s
  else
    let s := (s.unstage Reg.RTC_LOAD_LO).unstage Reg.RTC_ALARM_LO
    let s := s.setRb Reg.RTC_STATUS 9 true
    { s with rtc := { s.rtc with onVbat := true, lockout := true, owed13 := true } }

/-- The events that an alarm or a switch-over has left owing are raised once EVT runs (R123, R124). -/
def State.owedRtc (s : State) : State :=
  if s.evtRuns then
    let o12 := s.rtc.owed12
    let o13 := s.rtc.owed13
    let s := { s with rtc := { s.rtc with owed12 := false, owed13 := false } }
    let s := if o12 then s.raise 12 0 else s
    if o13 then s.raise 13 0 else s
  else s

/-- VIO18 has risen above the threshold plus hysteresis: PD_AON moves back to main power (R124). -/
def State.toVio18 (s : State) : State := ({ s with rtc := { s.rtc with onVbat := false } }).owedRtc

/-- The lock-out is released when the PD_BASE reset ends (R124). -/
def State.rtcRelease (s : State) : State := { s with rtc := { s.rtc with onVbat := false, lockout := false } }

/-- A PD_AON power-on reset of the RTC unit: every register at its Reset value, F_LOST with it (R126). -/
def State.rtcPor (s : State) : State :=
  { s.resetRegs 0x40000 0x50000 with rtc := { lastEdge := s.now, onVbat := s.rtc.onVbat, lockout := s.rtc.lockout } }

/-- What RTC_TICK reads (R116). -/
def State.rtcView (s : State) (off : Nat) : Word :=
  if off = Reg.RTC_TICK_LO then word s.rtc.count else word (s.rtc.count >>> 32)

end Sys2Proof.Machine
end

