-- ==== Sys2Proof/Machine/RollCall.lean ====
section
/-! DEFINITION. The roll call (R181-R201): filing frames, opening and releasing rolls, the ledger and the tardy path, and the
commands START, STOP, RETIME and MOVE. -/

namespace Sys2Proof.Machine

/-! ### Instants of a form -/

/-- The instant after `i` on a grid of `r` instants a second. -/
def Instant.next (i : Instant) (r : Nat) : Instant := if i.k + 1 < r then ⟨i.sec, i.k + 1⟩ else ⟨i.sec + 1, 0⟩

/-- The first instant of a grid whose time is at or after `t`; after `t` where `strict`. -/
def firstInstant (r : Nat) (t : Stamp) (strict : Bool) : Instant :=
  let sec := stampSec t
  let ok := fun k => if strict then decide (t < Instant.time ⟨sec, k⟩ r) else decide (t ≤ Instant.time ⟨sec, k⟩ r)
  match (List.range r).find? ok with
  | some k => ⟨sec, k⟩
  | none => ⟨sec + 1, 0⟩

/-- A list of instants in ascending order. -/
def insertInstant (i : Instant) : List Instant → List Instant
  | [] => [i]
  | j :: l => if i.lt j then i :: j :: l else j :: insertInstant i l

def sortInstants (l : List Instant) : List Instant := l.foldl (fun a i => insertInstant i a) []

/-- A number into an ascending list. -/
def insertNat (m : Nat) : List Nat → List Nat
  | [] => [m]
  | k :: l => if m < k then m :: k :: l else k :: insertNat m l

/-- The staged parameters of form `f` apply from their second on (R199). -/
def State.retimeApply (s : State) (f : Nat) : State :=
  let x := s.form f
  match x.staged with
  | some (at_, p) =>
    (s.setForm f { x with staged := none, pars := (at_, p) :: x.pars, retimed := at_ :: x.retimed }).setRf
      (Reg.FORM_STATUS f) 10 2 1
  | none => s

/-- RETIME_APPLY: where the instant granted lies at or beyond S. -/
def State.retimeAt (s : State) (f sec : Nat) : State :=
  match (s.form f).staged with
  | some (at_, _) => if at_ ≤ sec then s.retimeApply f else s
  | none => s

/-! ### Moves (R200) -/

/-- The move of seat `code` takes effect: FORM is written, the old index enters quarantine. -/
def State.moveApply (s : State) (code : Nat) : State :=
  match s.seat code with
  | some x =>
    match x.move with
    | some (b, m, sec) =>
      let s := (s.setSeatW code 0 (setFld (s.seatW code 0) 8 8 b)).unbind x.form x.member
      s.setSeat code (some { x with form := b, member := m, move := none, old := some ⟨x.form, x.member, sec⟩ })
    | none => s
  | none => s

/-- A deadline of form `f` that lies in second `sec` is granted: moves from or to it that wait for a second not later take effect. -/
def State.movesAt (s : State) (f sec : Nat) : State :=
  s.seats.foldl (fun s e =>
    match e.2 with
    | some x =>
      match x.move with
      | some (b, _, at_) => if (b = f || x.form = f) && decide (at_ ≤ sec) then s.moveApply e.1 else s
      | none => s
    | none => s) s

/-! ### Opening and releasing a roll (R186, R188-R194) -/

/-- FORMf_STATUS.OPEN and RCL_ROLLS_OPEN follow the open rolls. -/
def State.showOpen (s : State) (f : Nat) : State :=
  let n := (s.form f).rolls.length
  let was := s.rf (Reg.FORM_STATUS f) 0 10
  (s.setRf (Reg.FORM_STATUS f) 0 10 n).setRf Reg.RCL_ROLLS_OPEN 0 18 (s.rf Reg.RCL_ROLLS_OPEN 0 18 + n - was)

/-- The header, presence bitmap and member map of an image that is opened (R191): nobody is present, and what the release
determines (TQ, FLAGS, UTC_OFFSET, MEMBERS, PRESENT, the release time, DIGEST, MEMBER_MAP) is taken from the free value `x`. -/
def openHead (f : Nat) (p : FormPar) (i : Instant) (x : Nat) : List Byte :=
  let idx := i.index p.r
  leBytes 4 0x4C4C4F52 ++ leBytes 4 (f + 256 * p.rate + 4096 * (x % 2 ^ 20)) ++ leBytes 4 idx ++
    leBytes 4 (idx / 2 ^ 32 % 2 ^ 24) ++ leBytes 4 i.sec ++ leBytes 4 (i.sec / 2 ^ 32 % 65536 + 65536 * (x / 2 ^ 20 % 65536)) ++
    leBytes 4 (instNs p.r i.k) ++ leBytes 4 (i.seq32 p.r) ++ leBytes 4 (p.cap + 65536 * (x / 2 ^ 36 % 65536)) ++ leBytes 4 (x / 2 ^ 52 % 65536) ++
    leBytes 16 (x / 2 ^ 68) ++ List.replicate 8 0 ++ List.replicate (p.cap / 8) 0 ++ leBytes (2 * p.cap) (x / 2 ^ 196)

/-- An image is written when its roll opens (R191); its slots hold undefined records until they are filed. -/
def State.openImage (s : State) (f : Nat) (p : FormPar) (i : Instant) : State :=
  let n := p.cap * 64 * p.slot
  let d := s.draw (196 + 16 * p.cap)
  let e := d.2.draw (8 * n)
  (e.2.hbmWrite (p.imageAt i) (openHead f p i d.1)).hbmWrite (p.imageAt i + p.slotsBase) (leBytes n e.1)

/-- A roll is opened for an instant. -/
def State.openRoll (s : State) (f : Nat) (p : FormPar) (i : Instant) : State :=
  let s := s.openImage f p i
  let x := s.form f
  (s.setForm f { x with rolls := x.rolls ++ [{ at_ := i, present := [] }] }).showOpen f

/-- FLAGS of a roll image, from bit 0 for bit 16 (R191). -/
def rollFlags (gap retimed stopped late pend occ del : Bool) : Nat :=
  gap.toNat + 2 * retimed.toNat + 4 * stopped.toNat + 8 * late.toNat + 16 * pend.toNat + 32 * occ.toNat + 64 * del.toNat

/-- MEMBER_MAP of form `f`. -/
def State.memberMap (s : State) (f cap : Nat) : List Byte :=
  (List.range cap).flatMap (fun m => leBytes 2 ((s.memberOf f m).getD 0xFFFF))

/-- The header, presence bitmap and member map of a released image (R191). -/
def State.imageHead (s : State) (f : Nat) (p : FormPar) (i : Instant) (flags present : Nat) (t : Stamp)
    (digest presence : List Byte) : List Byte :=
  let idx := i.index p.r
  leBytes 4 0x4C4C4F52 ++ leBytes 4 (f + 256 * p.rate + 4096 * s.timeQuality p.tb + 65536 * flags) ++ leBytes 4 idx ++
    leBytes 4 (idx / 2 ^ 32 % 2 ^ 24) ++ leBytes 4 i.sec ++
    leBytes 4 (i.sec / 2 ^ 32 % 65536 + 65536 * s.rf (Reg.TB_UTC p.tb) 0 16) ++ leBytes 4 (instNs p.r i.k) ++
    leBytes 4 (i.seq32 p.r) ++ leBytes 4 (p.cap + 65536 * s.rf (Reg.FORM_STATUS f) 12 15) ++ leBytes 4 present ++
    leBytes 4 (stampNs t) ++ leBytes 4 (stampSec t) ++ fit 8 digest ++ List.replicate 8 0 ++ presence ++ s.memberMap f p.cap

/-- A ledger entry of a released roll (R194). -/
def ledgerEntry (p : FormPar) (i : Instant) (presence : List Byte) : List Byte :=
  let idx := i.index p.r
  leBytes 4 idx ++ leBytes 4 (idx / 2 ^ 32 % 2 ^ 24 + 2 ^ 24 * p.rate + 2 ^ 31) ++ List.replicate 8 0 ++ presence ++
    List.replicate (p.cap / 8) 0

/-- The frame records of the present members of a roll. -/
def State.rollRecords (s : State) (p : FormPar) (i : Instant) (present : List Nat) : List (Nat × List Byte) :=
  present.map (fun m => (m, s.hbmRead (p.imageAt i + p.slotsBase + m * 64 * p.slot) (64 * p.slot)))

/-- The octets a frame record uses. -/
def recordUsed (rc : List Byte) : List Byte := rc.take (recordLen (octet rc 4 % 64) (octet rc 5 % 64) (octet rc 6 % 32))

/-- Image and ledger entry of a roll are completed in HBM3 (R191, R194). -/
def State.completeImage (s : State) (f : Nat) (p : FormPar) (i : Instant) (flags : Nat) (present : List Nat) (t : Stamp)
    (digest : List Byte) : State :=
  let presence := bitmap p.cap (fun m => present.contains m)
  (s.hbmWrite (p.imageAt i) (s.imageHead f p i flags present.length t digest presence)).hbmWrite (p.ledgerAt i)
    (ledgerEntry p i presence)

/-- The answer-check part of a release (R425, R427): the ROLL_REL entry, and the final digests until the tardy window ends. -/
def State.answerRoll (s : State) (f : Nat) (p : FormPar) (i : Instant) (stopped : Bool) (present : Nat)
    (d : List Byte × List Byte) : State :=
  let e : AnsEntry :=
    { kind := 1, flags := 4 * stopped.toNat, form := f, inst := 0, seq := i.seq32 p.r, d1 := d.1, d2 := d.2, present := present }
  let w : Window := { tb := p.tb, until_ := p.deadline i + p.tardy * 1000000 * stampNsUnit, fin := { e with kind := 2 }, at_ := i }
  let s := if s.rb Reg.RED_CTRL 1 then
      { s with answers := { s.answers with windows := s.answers.windows ++ [w] } }
    else s
  s.ansEntry e

/-- The released roll goes to its lessons, the framer and ring 12 (R190, R193, R374). -/
def State.deliverRoll (s : State) (r : Roll) (present members : Nat) : State :=
  let idx := r.at_.index (rateOf r.rate)
  let s := (s.deliverLessons r).framer r
  s.postDesc 12 (leBytes 4 (r.form + 65536 * r.flags) ++ leBytes 4 (r.at_.seq32 (rateOf r.rate)) ++ leBytes 4 r.image ++
    leBytes 4 (r.image / 2 ^ 32) ++ leBytes 4 (present + 65536 * members) ++ leBytes 4 idx ++
    leBytes 4 (idx / 2 ^ 32 % 2 ^ 24) ++ List.replicate 4 0)

/-- The bookkeeping of a form when the roll of instant `i` is released at `t`. -/
def Form.released (x : Form) (p : FormPar) (i : Instant) (t : Stamp) : Form :=
  { x with
    last := some i
    next := if x.next = i then i.next p.r else x.next
    gap := false
    retimed := x.retimed.filter (fun sec => decide (i.sec < sec))
    rolls := x.rolls.filter (fun o => decide (o.at_ ≠ i))
    releases := x.releases + 1
    relLog := (p.r, i, t) :: x.relLog }

/-- A roll that is closed, its members present and those bound, and whether its release raises event 30. -/
structure Closed where
  roll : Roll
  present : Nat
  members : Nat
  event : Bool
deriving DecidableEq, Repr

/-- The roll of instant `i` of form `f` is closed and its image completed (R188, R189, R191, R194). -/
def State.closeRoll (s : State) (f : Nat) (i : Instant) (stopped late : Bool) : Closed × State :=
  let s := s.retimeAt f i.sec
  let s := s.movesAt f (stampSec (((s.form f).parAt i.sec).deadline i))
  let x := s.form f
  let p := x.parAt i.sec
  let t := s.tbNow p.tb
  let found := x.rolls.find? (fun o => decide (o.at_ = i))
  let s := if found.isSome then s else s.openImage f p i
  let present := ((found.map (fun o => o.present)).getD []).filter (fun m => decide (m < p.cap))
  let retimed := x.retimed.any (fun sec => decide (sec ≤ i.sec))
  let st := s.reg (Reg.TB_STATUS p.tb)
  let flags := rollFlags (x.gap && decide (x.next = i)) retimed stopped late (bit st 4) (bit st 5) (s.leapDir p.tb)
  let members := s.rf (Reg.FORM_STATUS f) 12 15
  let s := s.ansUse
  let recs := (s.rollRecords p i present).map (fun e => (e.1, recordUsed e.2))
  let d := s.rollDigests f (i.seq32 p.r) p.rate recs
  let s := s.completeImage f p i flags present t d.2
  let s := ((s.setForm f (x.released p i t)).showOpen f).setReg (Reg.FORM_LAST f) (word (i.seq32 p.r))
  let s := s.bump (Reg.RCL_CNT 1)
  let s := s.answerRoll f p i stopped present.length d
  ({ roll := { form := f, tb := p.tb, rate := p.rate, at_ := i, image := p.imageAt i, cap := p.cap, slot := p.slot, flags := flags }
     present := present.length, members := members, event := p.relEvt }, s)

/-- A closed roll is delivered, and event 30 raised where its form asks for it (R190, R193). -/
def State.deliverClosed (s : State) (c : Closed) : State :=
  let s := s.deliverRoll c.roll c.present c.members
  if c.event then s.flagRaise Reg.RCL_STATUS 0 30 c.roll.form else s

/-- The roll of instant `i` of form `f` is closed and released (R188-R194). -/
def State.releaseRoll (s : State) (f : Nat) (i : Instant) (stopped late : Bool) : State :=
  let c := s.closeRoll f i stopped late
  c.2.deliverClosed c.1

/-! ### When rolls are due (R188, R199) -/

/-- The deadline of an instant of form `f`, by the parameters that map it. -/
def Form.deadline (x : Form) (i : Instant) : Stamp := (x.parMap i.sec).deadline i

/-- Whether a release at a bell of time base `n` comes after the bell following its deadline `d`, or overdue from a hold. -/
def State.lateAt (s : State) (n : Nat) (d : Stamp) (held : Option Stamp) : Bool :=
  (match s.lastBell n with
    | some b => decide (s.bellAfter n d < b)
    | none => true) ||
  match held with
  | some h => decide (d ≤ h)
  | none => false

/-- Release every roll of form `f`, from its next one on, that `due` names. -/
def releaseWhile (f : Nat) (stopped : Bool) (due : State → Form → Bool) : Nat → State → State
  | 0, s => s
  | fuel + 1, s =>
    let x := s.form f
    if due s x then
      let p := x.parMap x.next.sec
      releaseWhile f stopped due fuel (s.releaseRoll f x.next stopped (s.lateAt p.tb (x.deadline x.next) x.heldAt))
    else s

/-- Rolls that can lie between the next one and now. -/
def State.relFuel (s : State) (f : Nat) : Nat :=
  let x := s.form f
  (stampSec (s.tbNow (x.parMap x.next.sec).tb) - x.next.sec + 2) * 240

/-- Whether form `f` may act: EN is 1, its time base runs, and a bell has come since EN was written. -/
def State.formActs (s : State) (f : Nat) : Bool :=
  let x := s.form f
  s.domOn pdRcl && s.rb Reg.RCL_CTRL 0 && decide (s.formState f ≠ 0) &&
    match s.lastBell (x.parMap x.next.sec).tb with
    | some b => decide (x.heldAt.getD 0 ≤ b)
    | none => false

/-- The first instant of one set of parameters, valid from second `a` on, whose deadline lies ahead of `now`. -/
def FormPar.firstAhead (p : FormPar) (a : Nat) (now : Stamp) : Instant :=
  let c := firstInstant p.r (now - p.d * 1000 * stampNsUnit) true
  if c.sec < a then ⟨a, 0⟩ else c

/-- The first instant whose deadline lies ahead of `now`, over parameters in ascending order of the second they hold from. -/
def firstAhead : List (Nat × FormPar) → Stamp → Instant
  | [], _ => ⟨0, 0⟩
  | [(a, p)], now => p.firstAhead a now
  | (a, p) :: (b, q) :: l, now =>
    if (p.firstAhead a now).sec < b then p.firstAhead a now else firstAhead ((b, q) :: l) now

/-- The instant at which form `x` resumes after a GAP (R199): each instant is judged by the parameters that map it. -/
def Form.resumeAt (x : Form) (now : Stamp) : Instant := firstAhead (x.staged.toList ++ x.pars).reverse now

/-- The GAP row of R199: the next deadline lies more than 2^DEPTH periods behind now. -/
def State.gapDue (s : State) (f : Nat) : Bool :=
  let x := s.form f
  let p := x.parMap x.next.sec
  decide (2 ^ p.depth * stampSecUnit < (s.tbNow p.tb - x.deadline x.next) * p.r)

/-- Its action, without the delivery: open rolls whose deadline has passed are closed late, and the form resumes ahead of now. -/
def State.gapClose (s : State) (f : Nat) : List Closed × State :=
  if s.formActs f && s.gapDue f then
    let x := s.form f
    let now := s.tbNow (x.parMap x.next.sec).tb
    let past := (x.rolls.filter (fun o => decide (x.deadline o.at_ ≤ now))).map (fun o => o.at_)
    let closed := (sortInstants past).foldl (fun (a : List Closed × State) i =>
      let c := a.2.closeRoll f i false true
      (a.1 ++ [c.1], c.2)) ([], s)
    let s := closed.2
    let x := s.form f
    let resume := x.resumeAt now
    (closed.1, s.setForm f { x with next := resume, resume := some resume, gap := true })
  else ([], s)

/-- The GAP row acts and its rolls are delivered. -/
def State.gapAct (s : State) (f : Nat) : State :=
  let c := s.gapClose f
  c.1.foldl State.deliverClosed c.2

/-- The forms that are not STOPPED, in ascending order. -/
def State.liveForms (s : State) : List Nat := (List.range 256).filter (fun f => decide (s.formState f ≠ 0))

/-! ### Filing a frame (R185, R197, R198) -/

/-- A record of ring 13: a tardy slip with its frame record, or a late record (R198). It is posted with the other records of its form. -/
def State.slipRecord (s : State) (kind f : Nat) (p : FormPar) (i : Instant) (m code : Nat) (rc : List Byte) : State :=
  let x := s.form f
  let seq := i.seq32 p.r
  let s := s.bumpWrap (Reg.FORM_SLIPS f)
  let rel := x.relLog.find? (fun e => decide (e.1 = p.r) && decide (e.2.1 = i))
  let lateUs := match rel with
    | some e => (s.tbNow p.tb - e.2.2) / (1000 * stampNsUnit)
    | none => 0xFFFFFFFF
  let d := s.draw 32
  let late := if rel.isSome && decide (2 ^ 32 ≤ lateUs) then (d.1, d.2) else (lateUs, s)
  let first := i.lt x.first
  let body := leBytes 4 (kind + 256 * f + 65536 * (32 + rc.length)) ++ leBytes 4 seq ++ leBytes 4 i.sec ++
    leBytes 4 (i.sec / 2 ^ 32 % 65536) ++ leBytes 4 (instNs p.r i.k) ++
    leBytes 4 ((if first then 0xFFFF else m) + 65536 * code) ++ leBytes 4 late.1 ++
    leBytes 4 (s.reg (Reg.FORM_SLIPS f)).toNat ++ rc
  let y := late.2.form f
  late.2.setForm f { y with slips := y.slips ++ [⟨body, seq, kind + 256 * f⟩] }

/-- The records of form `f` that wait are posted to ring 13 (R198). -/
def State.slipsOut (s : State) (f : Nat) : State :=
  let x := s.form f
  x.slips.foldl (fun s r => s.postRecord 13 r.octets r.w10 r.w14) (s.setForm f { x with slips := [] })

/-- The late drop of R197. -/
def State.lateDrop (s : State) (f : Nat) (p : FormPar) (i : Instant) (m code : Nat) : State :=
  let s := (s.bump (Reg.RCL_CNT 3)).flagRaise Reg.RCL_STATUS 2 32 f
  if p.lateRec then s.slipRecord 2 f p i m code [] else s

/-- The tardy path (R197). -/
def State.tardyPath (s : State) (f : Nat) (p : FormPar) (i : Instant) (m code : Nat) (rc : List Byte) : State :=
  let a := p.ledgerAt i
  let e := s.hbmRead a p.ledgerBytes
  let idx := le e 0 4 + le e 4 3 * 2 ^ 32
  let has := fun (base : Nat) => octet e (base + m / 8) / 2 ^ (m % 8) % 2 = 1
  if octet e 7 / 128 = 1 && decide (idx = i.index p.r) && decide (octet e 7 % 16 = p.rate) then
    if has 0x10 || has (0x10 + p.cap / 8) then s.bump (Reg.RCL_CNT 4)
    else if s.tbNow p.tb ≤ p.deadline i + p.tardy * 1000000 * stampNsUnit then
      let o := 0x10 + p.cap / 8 + m / 8
      let s := s.hbmWrite (a + o) [byte (octet e o + 2 ^ (m % 8))]
      let s := (s.slipRecord 1 f p i m code rc).bump (Reg.RCL_CNT 2)
      let s := s.tardyTerms f (i.seq32 p.r) m rc
      if p.slipEvt then s.flagRaise Reg.RCL_STATUS 1 31 f else s
    else s.lateDrop f p i m code
  else s.lateDrop f p i m code

/-- The presence bit of member `m` is set in the image of instant `i` (R185, R191). -/
def State.markPresent (s : State) (p : FormPar) (i : Instant) (m : Nat) : State :=
  let a := p.imageAt i + 0x40 + m / 8
  s.hbmWrite a [byte (octet (s.hbmRead a 1) 0 ||| 2 ^ (m % 8))]

/-- A frame is filed in an open roll: its record is stored, its presence bit set. -/
def State.fileInto (s : State) (f : Nat) (p : FormPar) (i : Instant) (m : Nat) (rc : List Byte) : State :=
  let s := (s.hbmWrite (p.imageAt i + p.slotsBase + m * 64 * p.slot) (rc.take (64 * p.slot))).markPresent p i m
  let x := s.form f
  (s.setForm f { x with
      rolls := x.rolls.map (fun o => if o.at_ = i then { o with present := insertNat m o.present } else o) }).bump
    (Reg.RCL_CNT 0)

/-- The checks of R185 after the form and member of a frame are known. -/
def State.fileFrame (s : State) (f m code sec ns : Nat) (rc : List Byte) : State :=
  let x := s.form f
  let stopped := decide (s.formState f = 0)
  let p0 := if stopped then s.regPar f else x.parMap sec
  let i := instantOf p0.r sec ns
  let dev := deviationOf p0.r ns
  let rc := patch rc 0x10 (leBytes 4 (wrap 32 dev))
  let s := if stopped then s else s.retimeAt f i.sec
  let x := s.form f
  let p := if stopped then p0 else x.parMap i.sec
  let now := s.tbNow p.tb
  if p0.tol * 1000 < dev.natAbs then s.bump (Reg.RCL_CNT 5)
  else if stopped then s.bump (Reg.RCL_CNT 7)
  else if now + p0.tol * 1000 * stampNsUnit < i.time p.r then s.bump (Reg.RCL_CNT 6)
  else if (match x.last with | some l => i.le l | none => false) || i.lt x.first ||
      (match x.resume with | some g => i.lt g | none => false) then
    s.tardyPath f p i m code rc
  else
    match x.rolls.find? (fun o => decide (o.at_ = i)) with
    | some o => if o.present.contains m then s.bump (Reg.RCL_CNT 4) else s.fileInto f p i m rc
    | none =>
      let slot := fun (i : Instant) => i.index (x.parMap i.sec).r % 2 ^ p.depth
      if 512 ≤ x.rolls.length || x.rolls.any (fun o => decide (slot o.at_ = slot i)) then
        (s.bump (Reg.RCL_CNT 8)).flagRaise Reg.RCL_STATUS 3 33 f
      else (s.openRoll f p i).fileInto f p i m rc

/-! ### REMOVE of a seat (R174, R178, R184) -/

/-- Seat `code` is uninstalled: its index enters quarantine, SILENT clears without an event. -/
def State.uninstall (s : State) (code : Nat) : State :=
  match s.seat code with
  | none => s
  | some x =>
    let s := s.unbind x.form x.member
    let s := match x.move with
      | some (b, m, _) => s.unbind b m
      | none => s
    let s := if bit (s.seatW code 0x80) 0 then
        (s.setSeatW code 0x80 0).setRf Reg.ITK_SEATS 16 15 (s.rf Reg.ITK_SEATS 16 15 - 1)
      else s
    let s := if code < 0x4000 then s.setRf Reg.ITK_SEATS 0 15 (s.rf Reg.ITK_SEATS 0 15 - 1) else s
    (s.setSeatW code 0 (setBit (s.seatW code 0) 0 false)).setSeat code none

/-- The seat that ITK_SEAT_CMD names. -/
def State.cmdSeat (s : State) : Nat :=
  let w := s.reg Reg.ITK_SEAT_CMD
  if bit w 3 then localCode (fld w 16 14) else fld w 16 14

/-- The result of a seat command is published. -/
def State.seatResult (s : State) (res : Nat) : State :=
  ((s.setRf Reg.ITK_SEAT_STATUS 16 8 res).publish Reg.ITK_SEAT_STATUS).setRb Reg.ITK_SEAT_CMD 0 false

/-- A REMOVE completes once no frame that found the seat waits to be filed. -/
def State.removeFinish (s : State) : State :=
  let w := s.reg Reg.ITK_SEAT_CMD
  if bit w 0 && decide (fld w 1 2 = 2) && s.seated.all (fun f => decide (f.code ≠ s.cmdSeat)) then
    (s.uninstall s.cmdSeat).seatResult 0
  else s

/-- A frame is filed in form `f`. Outside a bell the form's GAP row is judged first (R199), and its records are posted at once. -/
def State.fileIn (s : State) (atBell : Bool) (f m : Nat) (g : Seated) : State :=
  if atBell then s.fileFrame f m g.code g.sec g.ns g.record
  else ((s.gapAct f).fileFrame f m g.code g.sec g.ns g.record).slipsOut f

/-- A seated frame is granted (R185). -/
def State.fileGrant (s : State) (atBell : Bool) (g : Seated) : State :=
  match s.seat g.code with
  | none => s
  | some x =>
    let d := s.filedIn x g
    (if d.2.2 then s.moveApply g.code else s).fileIn atBell d.1 d.2.1 g

/-- FRAME_FILE (R185): the oldest seated frame is granted. -/
def State.frameFile (s : State) : State :=
  match s.seated with
  | [] => s
  | g :: gs =>
    if s.domOn pdRcl then
      let s := { s with seated := gs }
      (if s.rb Reg.RCL_CTRL 0 then s.fileGrant false g else s.bump (Reg.RCL_CNT 7)).removeFinish
    else s

/-! ### Commands (R199, R200) -/

/-- The result of a form command is published. -/
def State.rclResult (s : State) (res sec : Nat) : State :=
  (((s.setReg Reg.RCL_CMD_SEC (word sec)).setRf Reg.RCL_CMD_STATUS 16 8 res).publish Reg.RCL_CMD_STATUS).setRb
    Reg.RCL_CMD 0 false

/-- The field ranges of the RCL tables. -/
def FormPar.rangeOk (p : FormPar) : Bool :=
  decide (p.rate < 12) && decide (4 ≤ p.depth) && decide (p.depth ≤ 10) && decide (4 ≤ p.ldepth) && decide (1 ≤ p.slot) &&
    decide (p.slot ≤ 10) && decide (1 ≤ p.capu) && decide (p.capu ≤ 257) && decide (1000 ≤ p.d) && decide (p.d ≤ 4000000) &&
    decide (p.tardy ≤ 60000) && decide (p.tol ≤ 2000)

/-- The LIMIT checks (R187, R195). -/
def FormPar.limitOk (p : FormPar) : Bool :=
  decide (p.openMax ≤ 512) && decide (p.openMax + 2 ≤ 2 ^ p.depth) && decide (p.ledgerMin ≤ 2 ^ p.ldepth)

/-- Every ledger entry of a form is marked invalid. -/
def State.clearLedger (s : State) (p : FormPar) : State :=
  (List.range (2 ^ p.ldepth)).foldl (fun s k =>
    let a := p.ledgerBase + k * p.ledgerBytes + 7
    s.hbmWrite a [byte (octet (s.hbmRead a 1) 0 % 128)]) s

/-- START of form `f`: its first failing check, or 0. -/
def State.startCheck (s : State) (f : Nat) : Nat :=
  let p := s.regPar f
  let high := (s.form f).members.all (fun e => decide (e.1 < p.cap))
  if s.formState f ≠ 0 then 1
  else if !p.rangeOk || !high then 3
  else if !p.limitOk then 2
  else if !hbmRangeOk p.store p.storeBytes then 4
  else if s.tbState p.tb = 0 then 5
  else 0

/-- START (R199). -/
def State.formStart (s : State) (f : Nat) : State :=
  let res := s.startCheck f
  if res ≠ 0 then s.rclResult res 0
  else
    let p := s.regPar f
    let first := firstInstant p.r (s.tbNow p.tb) false
    let x := s.form f
    let s := s.setForm f { x with
      pars := [(0, p)], staged := none, retimed := [], first := first, next := first, last := none, resume := none
      gap := false, heldAt := none, rolls := [] }
    ((s.clearLedger p).setRf (Reg.FORM_STATUS f) 10 2 1).rclResult 0 0

/-- STOP's releases, and the form is STOPPED (R199). -/
def State.stopForm (s : State) (f : Nat) : State :=
  let s := s.gapAct f
  let s := releaseWhile f true (fun s x =>
    let p := x.parMap x.next.sec
    decide (x.next.time p.r ≤ s.tbNow p.tb)) (s.relFuel f) s
  let later := sortInstants ((s.form f).rolls.map (fun o => o.at_))
  let s := later.foldl (fun s i => s.releaseRoll f i true false) s
  let x := s.form f
  let p := s.formPar f
  ((s.setForm f { x with staged := none, retimed := [], gap := false }).clearLedger p).setRf (Reg.FORM_STATUS f) 10 2 0

/-- STOP (R199). -/
def State.formStop (s : State) (f : Nat) : State :=
  if s.formState f = 0 then s.rclResult 1 0 else (s.stopForm f).rclResult 0 0

/-- RETIME (R199). -/
def State.formRetime (s : State) (f : Nat) : State :=
  let p := s.regPar f
  let old := s.formPar f
  if s.formState f ≠ 1 then s.rclResult 1 0
  else if !p.rangeOk || decide (p.tb ≠ old.tb) || decide (p.depth ≠ old.depth) || decide (p.ldepth ≠ old.ldepth) ||
      decide (p.slot ≠ old.slot) || decide (p.capu ≠ old.capu) || decide (p.store ≠ old.store) then s.rclResult 3 0
  else if !p.limitOk then s.rclResult 2 0
  else
    let at_ := ceilSec (s.tbNow p.tb) + 1
    ((s.setForm f { s.form f with staged := some (at_, p) }).setRf (Reg.FORM_STATUS f) 10 2 2).rclResult 0 at_

/-- MOVE (R200). -/
def State.seatMove (s : State) (b code : Nat) : State :=
  match s.seat code with
  | none => s.rclResult 6 0
  | some x =>
    match s.freeMember b (s.seatRecLen code) with
    | none => s.rclResult 6 0
    | some m =>
      if x.move.isSome then s.rclResult 1 0
      else
        let n := (s.formPar b).tb
        if s.tbState n = 0 then s.rclResult 5 0
        else
          let at_ := ceilSec (s.tbNow n) + 1
          ((s.bind b m code).setSeat code (some { x with move := some (b, m, at_) })).rclResult 0 at_

/-- RCL_CMD with GO: one command (R199, R200). -/
def State.rclCommand (s : State) : State :=
  let w := s.reg Reg.RCL_CMD
  let f := fld w 8 8
  let code := if bit w 4 then localCode (fld w 16 14) else fld w 16 14
  let s := s.unready Reg.RCL_CMD_STATUS
  match fld w 1 3 with
  | 1 => s.formStart f
  | 2 => s.formStop f
  | 3 => s.formRetime f
  | _ => s.seatMove f code

/-- RCL_ENABLE: EN is written 1 after a hold; each form acts at its next bell (R188). -/
def State.rclEnabled (s : State) : State :=
  (List.range 256).foldl (fun s f =>
    let x := s.form f
    if s.formState f = 0 then s
    else s.setForm f { x with heldAt := some (s.tbNow (x.parMap x.next.sec).tb) }) s

/-- Values that the RCL tables refuse (R204, R208). -/
def rclRefuses (s : State) (off : Nat) (v : Word) : Bool :=
  let d := off - 0xF0000
  if d = 0x8 then
    (bit v 0 && (s.rb off 0 || !(decide (1 ≤ fld v 1 3) && decide (fld v 1 3 ≤ 4)))) ||
      (bit v 4 && decide (fld v 1 3 = 4) && decide (11 < fld v 16 14))
  else if 0x3000 ≤ d && d < 0x4000 then
    let o := (d - 0x3000) / 0x20
    let r := (d - 0x3000) % 0x20
    let on := s.rb (Reg.OUT_CTRL o) 0
    match r with
    | 0x00 => decide (fld v 4 8 < 42) || decide (128 < fld v 4 8) ||
        (on && decide (setBit v 0 false &&& 0x00FFFFF6 ≠ setBit (s.reg off) 0 false &&& 0x00FFFFF6))
    | 0x0C => on || decide (fld v 0 24 = 0)
    | 0x1C => on
    | _ => on
  else false

/-- What a write of an RCL register does beside its plain fields. -/
def State.rclHook (s : State) (off : Nat) (old : Word) : State :=
  let d := off - 0xF0000
  if d = 0x0 then (if s.rb Reg.RCL_CTRL 0 && !bit old 0 then s.rclEnabled else s)
  else if d = 0x8 then (if s.rb Reg.RCL_CMD 0 then s.rclCommand else s)
  else s

end Sys2Proof.Machine
end

