-- ==== Sys2Proof/Machine/Intake.lean ====
section
/-! DEFINITION. The stream intake parser (R161-R178, R433, R434): what it takes of a received frame, how it lays out and converts
data frames, tag verification, seats and their commands. -/

namespace Sys2Proof.Machine

/-- ITK_CNTj. -/
def State.itkCount (s : State) (j : Nat) : State := s.bump (Reg.ITK_CNT j)

/-! ### Seat lookup (R173) -/

/-- A seat lookup key: kind, source address (16 octets), source port, TCP connection, stream, block. -/
structure SeatKey where
  kind : Nat
  addr : List Byte
  port : Nat
  conn : Nat
  stream : Nat
  block : Nat
deriving DecidableEq, Repr

/-- `n` octets of a seat's descriptor from an offset that is a multiple of 4. -/
def State.seatOctets (s : State) (code d n : Nat) : List Byte :=
  (List.range (n / 4)).flatMap (fun j => bytesOf (s.seatW code (d + 4 * j)))

/-- The key that a descriptor holds. -/
def State.descKey (s : State) (n : Nat) : SeatKey :=
  let w0 := s.seatW n 0
  let w1 := s.seatW n 4
  let w2 := s.seatW n 8
  let kind := fld w0 1 2
  { kind := kind
    addr := if kind = 1 then List.replicate 16 0 else s.seatOctets n 0x0C 16
    port := if kind = 1 then 0 else fld w2 16 16
    conn := if kind = 1 then fld w0 24 8 else 0
    stream := if kind = 2 then fld w1 0 16 + 65536 * fld w2 0 16 else fld w1 0 16
    block := fld w1 16 10 }

/-- The installed remote seats. -/
def State.remoteSeats (s : State) : List Nat := (s.seats.map (fun e => e.1)).filter (fun c => decide (c < 0x4000))

/-- The seat that a frame with key `k` finds: the one with its source port, else the wildcard. -/
def State.findSeat (s : State) (k : SeatKey) : Option Nat :=
  match s.remoteSeats.find? (fun n => s.descKey n = k) with
  | some n => some n
  | none => s.remoteSeats.find? (fun n => s.descKey n = { k with port := 0 })

/-! ### Time conversion (R107, R108, R170, R171) -/

/-- TAI seconds of a UTC second count: the count plus UTC_OFFSET of time base `n` (R170, R171). -/
def State.taiOfSec (s : State) (n sec : Nat) : Nat := wrap 48 ((sec : Int) + s.utcOffset n)

/-- The SOC that the two seconds E − 1 and E of an inserted leap share, with E: from the setting of that leap until its 86,400 s are over
(R108). -/
def State.sharedSoc (s : State) (n : Nat) : Option (Nat × Nat) :=
  if s.rf (Reg.TB_UTC n) 16 2 = 1 then
    let e : Nat := s.pair (Reg.TB_LEAP_LO n) % 2 ^ 48
    some (wrap 32 ((e : Int) - 1 - s.utcOffset n), e)
  else if s.rb (Reg.TB_STATUS n) 5 && !s.rb (Reg.TB_STATUS n) 6 then
    let e : Nat := (s.tb n).leapAt
    some (wrap 32 ((e : Int) - s.utcOffset n), e)
  else none

/-- TAI seconds of the SOC of a C37.118.2 frame; `occ`, the frame's leap-occurred bit, tells the two seconds of a shared SOC apart
(R170). -/
def State.taiOf (s : State) (n soc : Nat) (occ : Bool) : Nat :=
  match s.sharedSoc n with
  | some (shared, e) => if soc = shared then (if occ then e else e - 1) else s.taiOfSec n soc
  | none => s.taiOfSec n soc

/-- The time base of a seat's form. -/
def State.seatTb (s : State) (n : Nat) : Nat := (s.formPar (s.seatForm n)).tb

/-! ### Block layout and conversion (R168, R169) -/

/-- The length of a block of seat `n`. -/
def State.blockLen (s : State) (n : Nat) : Nat :=
  let w := s.seatW n 0x1C
  let p := if bit w 1 then 8 else 4
  let f := if bit w 3 then 8 else 4
  let a := if bit w 2 then 4 else 2
  2 + fld w 8 6 * p + f + fld w 16 6 * a + 2 * fld w 24 5

/-- A big-endian DW of a block. -/
def be32 (b : List Byte) (o : Nat) : Word := word (be b o 4)

/-- A big-endian signed 16-bit number of a block. -/
def beInt16 (b : List Byte) (o : Nat) : Int := signed 16 (be b o 2)

/-- m (cos a, im sin a). -/
def polar (m a : Word) : Word × Word := (f32Mul m (f32Cos a), f32Mul m (f32Sin a))

/-- Phasor `k` of a block whose phasors start at `o`; `sc` is its scale (R169). -/
def phasorAt (b : List Byte) (fmt : Word) (o k : Nat) (sc : Word) : Word × Word :=
  if bit fmt 1 then
    let x := be32 b (o + 8 * k)
    let y := be32 b (o + 8 * k + 4)
    if bit fmt 0 then polar x y else (x, y)
  else
    let q := o + 4 * k
    if bit fmt 0 then polar (f32Mul (f32OfInt (be b q 2)) sc) (f32Ratio (beInt16 b (q + 2)) 10000)
    else (f32Mul (f32OfInt (beInt16 b q)) sc, f32Mul (f32OfInt (beInt16 b (q + 2))) sc)

/-- The frame record of a block of seat `n` (R169, R192), DEV left 0. -/
def State.blockRecord (s : State) (n : Nat) (b : List Byte) (auth : Bool) (port : Nat) (stamp : Stamp) : List Byte :=
  let w := s.seatW n 0x1C
  let nph := fld w 8 6
  let nan := fld w 16 6
  let ndg := fld w 24 5
  let vi := le (s.seatOctets n 0x20 8) 0 8
  let p := if bit w 1 then 8 else 4
  let a := if bit w 2 then 4 else 2
  let phs := (List.range nph).map (fun k =>
    phasorAt b w 2 k (if vi.testBit k then s.seatW n 0x2C else s.seatW n 0x28))
  let fo := 2 + nph * p
  let fnom : Int := if bit (s.seatW n 0x38) 24 then 50 else 60
  let freq := if bit w 3 then be32 b fo else f32Ratio (fnom * 1000 + beInt16 b fo) 1000
  let dfreq := if bit w 3 then be32 b (fo + 4) else f32Ratio (beInt16 b (fo + 2)) 100
  let ao := fo + (if bit w 3 then 8 else 4)
  let ans := (List.range nan).map (fun k =>
    if bit w 2 then be32 b (ao + 4 * k)
    else f32Fma (f32OfInt (beInt16 b (ao + 2 * k))) (s.seatW n 0x30) (s.seatW n 0x34))
  let dgo := ao + nan * a
  let fx := s.seatW n 0x3C
  let aux := fun (i : Nat) => if i = 63 then f32NaN else ans.getD i f32NaN
  leBytes 2 n ++ leBytes 2 (be b 0 2) ++ [byte nph, byte nan, byte ndg, byte (auth.toNat + 2 * (port % 4))] ++
    leBytes 4 (stampNs stamp) ++ leBytes 4 (stampSec stamp) ++ List.replicate 16 0 ++
    leBytes 4 freq.toNat ++ leBytes 4 dfreq.toNat ++ leBytes 4 (aux (fld fx 0 6)).toNat ++ leBytes 4 (aux (fld fx 8 6)).toNat ++
    phs.flatMap (fun v => leBytes 4 v.1.toNat ++ leBytes 4 v.2.toNat) ++ ans.flatMap (fun v => leBytes 4 v.toNat) ++
    (List.range ndg).flatMap (fun k => leBytes 2 (be b (dgo + 2 * k) 2))

/-! ### Seating, rings 14 and 15, hand-off (R167, R175, R433, R434) -/

/-- What a frame under examination brings beside its octets: `whole` is what goes to a ring, `hops` its hand-offs so far,
`eth` tells that `whole` is an Ethernet frame, and `rct` that a PRP trailer was removed from it (R373). -/
structure Source where
  key : SeatKey
  whole : List Byte
  port : Nat
  stamp : Stamp
  tb : Nat
  hops : Nat
  eth : Bool
  rct : Bool

/-- A frame goes whole to a ring of the parser. -/
def State.itkRing (s : State) (r : Nat) (x : Source) (cause : Nat) : State :=
  s.postFrame r x.whole { port := x.port, cause := cause, stamp := x.stamp, tb := x.tb, rct := x.rct }

/-- The largest payload of a packet (R431). -/
def fjlPayload : Nat := 1024

/-- A frame that ends at ring 14 after a hand-off is counted (R434). -/
def State.handedOn (s : State) (x : Source) : State := if x.hops ≠ 0 then s.bump (Reg.FJL_CNT 1) else s

/-- The payload of a HANDOFF packet: an octet that names the port and with bit 7 a TCP connection, the connection where it does, the
frame. -/
def handoffOctets (x : Source) : List Byte :=
  (if x.eth then beBytes 1 x.port else beBytes 1 (128 + x.port) ++ beBytes 1 x.key.conn) ++ x.whole

/-- A frame without a seat: handed on over the board, or to ring 14 with event 28 (R175, R434). -/
def State.noSeat (s : State) (x : Source) : State :=
  let next := s.rf Reg.FJL_CTRL 4 3
  if s.domOn pdLink && s.rb Reg.FJL_CTRL 0 && decide (x.hops < s.rf Reg.FJL_CTRL 8 3) && s.linkUp next &&
      decide ((handoffOctets x).length ≤ fjlPayload) then
    (s.fjlSend next 2 (x.hops + 1) (handoffOctets x)).bump (Reg.FJL_CNT 0)
  else (((s.itkRing 14 x 1).itkCount 6).flagRaise Reg.ITK_STATUS 2 28 x.port).handedOn x

/-- A frame that is not seated for cause 1-4 (R175). -/
def State.unseated (s : State) (x : Source) (cause : Nat) : State :=
  if cause = 1 then s.noSeat x else ((s.itkRing 14 x cause).itkCount 7).handedOn x

/-- The payload of a SHARE packet: seat key, instant, frame record (R433). -/
def shareOctets (k : SeatKey) (sec ns : Nat) (rc : List Byte) : List Byte :=
  beBytes 1 k.kind ++ beBytes 1 k.conn ++ beBytes 2 k.port ++ fit 16 k.addr ++ beBytes 4 k.stream ++ beBytes 2 k.block ++
    beBytes 6 sec ++ beBytes 4 ns ++ rc

/-- A seated frame goes to the board positions of its form's share mask. -/
def State.shareFrame (s : State) (n sec ns : Nat) (rc : List Byte) : State :=
  if s.domOn pdLink then
    let f := s.seatForm n
    let mask := s.rf (Reg.FJL_SHARE (f / 4)) (8 * (f % 4)) 8
    (List.range 8).foldl (fun s q =>
      if mask.testBit q && decide (q ≠ s.boardPos) && s.linkUp q then
        s.fjlSend q 1 0 (shareOctets (s.descKey n) sec ns rc)
      else s) s
  else s

/-- A block is seated in seat `n` (R180, R192). -/
def State.seatBlock (s : State) (n sec ns : Nat) (rc : List Byte) (stamp : Stamp) : State :=
  ((s.itkCount 1).seatFrame { code := n, sec := sec, ns := ns, record := rc } (stampNs stamp)).shareFrame n sec ns rc

/-! ### C37.118.2 (R164-R170) -/

/-- The blocks of a data frame: seat and offset of each, and the lowest cause met, 0 without. -/
def State.layout (s : State) (x : Source) (f : List Byte) (last : Nat) :
    Nat → Nat → Nat → List (Nat × Nat) → Nat → List (Nat × Nat) × Nat
  | 0, _, _, acc, _ => (acc, 1)
  | fuel + 1, b, pos, acc, cause =>
    if pos = last then (acc.reverse, if acc.isEmpty then 3 else cause)
    else if last < pos then (acc.reverse, if cause = 0 then 3 else min cause 3)
    else
      match s.findSeat { x.key with block := b } with
      | none => (acc.reverse, 1)
      | some n =>
        let low := fun (a c : Nat) => if a = 0 then c else min a c
        let c1 := if (fld (s.seatW n 0) 16 4).testBit x.port then cause else low cause 2
        let c2 := if be f 11 3 < fld (s.seatW n 0x38) 0 24 then c1 else low c1 4
        State.layout s x f last fuel (b + 1) (pos + s.blockLen n) ((n, pos) :: acc) c2

/-- A data frame of FRAMESIZE octets whose CHK verified (R167). -/
def State.dataFrame (s : State) (x : Source) (f : List Byte) : State :=
  let last := f.length - 2
  let r := s.layout x f last 1025 0 14 [] 0
  if r.2 ≠ 0 then s.unseated x r.2
  else
    r.1.foldl (fun s e =>
      let n := e.1
      let tbase := fld (s.seatW n 0x38) 0 24
      let sec := s.taiOf (s.seatTb n) (be f 6 4) (octet f 10 / 32 % 2 = 1)
      let ns := (be f 11 3 * 1000000000 + tbase / 2) / tbase
      let rc := s.blockRecord n (slice f e.2 (s.blockLen n)) false x.port x.stamp
      s.seatBlock n sec ns rc x.stamp) s

/-- The type and version of SYNC are taken: (type, taken). -/
def State.syncTaken (s : State) (b1 : Nat) : Nat × Bool :=
  let v := b1 % 16
  let t := b1 / 16 % 8
  (t, decide (t < 6) && (v = 2 || (v = 1 && s.rb Reg.ITK_CTRL 4)))

/-- CHK of a frame (R165). -/
def chkOk (f : List Byte) : Bool := decide (be f (f.length - 2) 2 = crcCcitt (f.take (f.length - 2)))

/-- A C37.118.2 frame of type `t` that the parser takes; `f` is cut to FRAMESIZE, or none where that does not fit. -/
def State.c37Frame (s : State) (x : Source) (t : Nat) (f : Option (List Byte)) : State :=
  let s := if t = 0 then s.itkCount 0 else s
  match f with
  | none => s.itkCount 3
  | some f =>
    if chkOk f then
      if t = 0 then s.dataFrame { x with key := { x.key with stream := be f 4 2 } } f
      else ((s.itkRing 15 x 0).itkCount 2).flagRaise Reg.ITK_STATUS 1 27 x.port
    else s.itkCount 3

/-- The frame that FRAMESIZE gives at the start of `b`, where it fits. -/
def sized (b : List Byte) : Option (List Byte) :=
  let n := be b 2 2
  if 16 ≤ n && n ≤ b.length then some (b.take n) else none

/-! ### IEC 61850-90-5 (R171, R172) -/

/-- A tag failure: the whole SPDU is discarded (R172). -/
def State.authFail (s : State) (x : Source) (reason keyId : Nat) (seats : List Nat) : State :=
  let s := s.itkCount 5
  let s := (s.setReg Reg.ITK_AUTH_INFO (word (reason + 16 * x.port))).setReg Reg.ITK_AUTH_KEYID (word keyId)
  let s := seats.foldl (fun s n => s.setSeatW n 0x8C (s.seatW n 0x8C + 1)) s
  s.flagRaise Reg.ITK_STATUS 0 26 x.port

/-- The slot that ITK_KEYMAP gives for a Key ID. -/
def State.keymap (s : State) (id : Nat) : Option Nat :=
  ((List.range 256).find? (fun k =>
    s.rb (Reg.ITK_KEYMAP_SLOT k) 31 && decide (s.reg (Reg.ITK_KEYMAP_ID k) = word id))).map
    (fun k => s.rf (Reg.ITK_KEYMAP_SLOT k) 0 8)

/-- The verdict on an SPDU's tag: 0 verified or none needed, else the reason; with it the slot that failed to serve. -/
def State.spduVerdict (s : State) (u : Spdu) (seats : List Nat) : Nat × Option Nat :=
  match u.alg with
  | 0 => (if seats.any (fun n => bit (s.seatW n 0) 3) then 1 else 0, none)
  | 3 => (5, none)
  | a =>
    match s.keymap u.keyId with
    | none => (2, none)
    | some k =>
      match s.keyFor k 0 with
      | none => (3, some k)
      | some key =>
        if key.type ≠ a then (3, some k)
        else
          let tag := if a = 1 then (hmac key.material u.signed).take 16 else gmac key.material u.iv u.signed
          (if tag = u.tag then 0 else 4, none)

/-- The key of an ASDU. -/
def asduKey (x : Source) (a : Asdu) : SeatKey := { x.key with kind := 2, conn := 0, stream := crc32c a.svId, block := 0 }

/-- One ASDU of a verified SPDU (R171). -/
def State.asduFrame (s : State) (x : Source) (auth : Bool) (a : Asdu) : State :=
  match s.findSeat (asduKey x a) with
  | none => s.unseated x 1
  | some n =>
    if !(fld (s.seatW n 0) 16 4).testBit x.port then s.unseated x 2
    else if a.dataset.length ≠ s.blockLen n then s.unseated x 3
    else
      match a.refrTm with
      | none => s.unseated x 4
      | some (sec, frac) =>
        let ns := (frac * 1000000000 + 2 ^ 23) / 2 ^ 24
        let t := s.taiOfSec (s.seatTb n) sec
        s.seatBlock n t ns (s.blockRecord n a.dataset auth x.port x.stamp) x.stamp

/-- An SPDU that the parser takes. -/
def State.spduFrame (s : State) (x : Source) (u : Spdu) : State :=
  let s := s.bumpBy (Reg.ITK_CNT 0) u.asdus.length
  let seats := u.asdus.filterMap (fun a => s.findSeat (asduKey x a))
  let v := s.spduVerdict u seats
  if v.1 ≠ 0 then
    let s := match v.2 with
      | some k => s.keyFail k
      | none => s
    s.authFail x v.1 u.keyId seats
  else u.asdus.foldl (fun s a => s.asduFrame x (u.alg ≠ 0) a) s

/-! ### C37.118.2 over TCP (R166) -/

def State.tcpConn (s : State) (c : Nat) : TcpConn := Tab.get (fun _ => {}) s.tcp c
def State.setTcpConn (s : State) (c : Nat) (x : TcpConn) : State := { s with tcp := Tab.put (fun _ => {}) s.tcp c x }

/-- STATE of a connection: 0 OFF, 1 SYNC, 2 HUNT. -/
def State.setTcpState (s : State) (c v : Nat) : State := s.setRf (Reg.ITK_TCP_CTRL c) 4 2 v

/-- A delineated frame of connection `c`; one of another version or type is turned away and counted (R162, R164). -/
def State.tcpFrame (s : State) (x : Source) (f : List Byte) : State :=
  let k := s.syncTaken (octet f 1)
  if k.2 then s.c37Frame { x with whole := f, eth := false } k.1 (some f) else s.itkCount 10

/-- Octets in sequence are parsed: whole frames go on, the rest is held. Octets that start no frame lose synchronism. -/
def State.tcpParse (s : State) (x : Source) (c : Nat) : Nat → List Byte → State
  | 0, b => s.setTcpConn c { part := b }
  | fuel + 1, b =>
    if b.isEmpty then s.setTcpConn c {}
    else if octet b 0 ≠ 0xAA || (4 ≤ b.length && be b 2 2 < 16) then ((s.setTcpConn c {}).setTcpState c 2).itkCount 3
    else if b.length < 4 || b.length < be b 2 2 then s.setTcpConn c { part := b }
    else
      let n := be b 2 2
      State.tcpParse (s.tcpFrame x (b.take n)) x c fuel (b.drop n)

/-- The offset of the first frame start in a segment whose FRAMESIZE fits and whose CHK verifies. -/
def huntStart (b : List Byte) : Option Nat :=
  (List.range b.length).find? (fun o =>
    decide (octet b o = 0xAA) &&
      match sized (b.drop o) with
      | some f => chkOk f
      | none => false)

/-- TCP_SEGMENT: `b` are the octets of a segment of connection `c` with sequence number `q`. -/
def State.tcpSegment (s : State) (x : Source) (c q : Nat) (b : List Byte) : State :=
  let expect := (s.reg (Reg.ITK_TCP_EXPECT c)).toNat
  let n := b.length
  let le32 := fun (a e : Nat) => decide ((e + 2 ^ 32 - a) % 2 ^ 32 < 2 ^ 31)
  let sync := s.rf (Reg.ITK_TCP_CTRL c) 4 2 = 1
  let nxt := (q + n) % 2 ^ 32
  if sync && le32 q expect && le32 expect nxt && nxt ≠ expect then
    let new := b.drop ((expect + 2 ^ 32 - q) % 2 ^ 32)
    let s := s.setReg (Reg.ITK_TCP_EXPECT c) (word nxt)
    let all := (s.tcpConn c).part ++ new
    s.tcpParse x c all.length all
  else if sync && le32 nxt expect then s
  else
    let s := ((s.itkCount 9).setTcpState c 2).setReg (Reg.ITK_TCP_EXPECT c) (word nxt)
    let s := s.setTcpConn c {}
    match huntStart b with
    | some o => (s.setTcpState c 1).tcpParse x c n (b.drop o)
    | none => s

/-- The enabled connection that a segment belongs to. -/
def State.tcpMatch (s : State) (port : Nat) (src : List Byte) (sport dport : Nat) : Option Nat :=
  (List.range 64).find? (fun c =>
    s.rb (Reg.ITK_TCP_CTRL c) 0 && decide (s.rf (Reg.ITK_TCP_CTRL c) 1 2 = port) &&
      (List.range 4).flatMap (fun j => bytesOf (s.reg (Reg.ITK_TCP_ADDR c j))) = src &&
      decide (s.rf (Reg.ITK_TCP_PORTS c) 0 16 = dport) && decide (s.rf (Reg.ITK_TCP_PORTS c) 16 16 = sport))

/-! ### Examination of a frame (R161-R163) -/

/-- The IP header of a frame: offset of the transport, octets of IP payload, protocol, source address, IPv6; none where a check
of R161 fails. -/
structure IpView where
  l4 : Nat
  len : Nat
  proto : Nat
  src : List Byte
  v6 : Bool
  frag : Bool

/-- IPv4 as ::ffff:a.b.c.d. -/
def mapped4 (a : List Byte) : List Byte := List.replicate 10 0 ++ [0xFF, 0xFF] ++ a

def ipView (f : List Byte) (ip : Nat) (v6 : Bool) : Option IpView :=
  if v6 then
    let n := be f (ip + 4) 2
    if octet f ip / 16 = 6 && ip + 40 + n ≤ f.length then
      let p := octet f (ip + 6)
      some { l4 := ip + 40, len := n, proto := p, src := slice f (ip + 8) 16, v6 := true
             frag := [0, 43, 44, 50, 51, 60, 135, 139, 140].contains p }
    else none
  else
    let h := 4 * (octet f ip % 16)
    let n := be f (ip + 2) 2
    if octet f ip / 16 = 4 && 20 ≤ h && h ≤ n && ip + n ≤ f.length && inetChecksum (sum16 (slice f ip h)) = 0 then
      some { l4 := ip + h, len := n - h, proto := octet f (ip + 9), src := mapped4 (slice f (ip + 12) 4), v6 := false
             frag := decide (be f (ip + 6) 2 % 0x4000 ≠ 0) }
    else none

/-- The frame goes to its receive ring, counted in NOT_TAKEN (R162). -/
def State.notTaken (s : State) (f : RxFrame) : State := (s.itkCount 10).rxToRing f

/-- A UDP checksum verifies; `n` is the UDP length (R163). -/
def udpSumOk (f : List Byte) (v : IpView) (ip n : Nat) : Bool :=
  if be f (v.l4 + 6) 2 = 0 then !v.v6 else inetChecksum (l4Sum f ip v.l4 n v.v6 17) = 0

/-- What the source of a datagram brings. -/
def sourceOf (f : RxFrame) (src : List Byte) (sport hops : Nat) : Source :=
  { key := { kind := 0, addr := src, port := sport, conn := 0, stream := 0, block := 0 }
    whole := f.octets, port := f.port, stamp := f.stamp, tb := f.tb, hops := hops, eth := true, rct := f.rct }

/-- The source of connection `c`. -/
def tcpSource (x : Source) (c : Nat) : Source :=
  { x with key := { kind := 1, addr := List.replicate 16 0, port := 0, conn := c, stream := 0, block := 0 } }

/-- The session identifier of sampled values (R161). -/
def svSession : Nat := 0xA2

/-- A UDP datagram (R161-R164, R171). -/
def State.udpFrame (s : State) (f : RxFrame) (ip : Nat) (v : IpView) (hops : Nat) : State :=
  let o := f.octets
  let n := be o (v.l4 + 4) 2
  let dport := be o (v.l4 + 2) 2
  let c37 := s.rb Reg.ITK_CTRL 1 && decide (s.rf Reg.ITK_PORTS 0 16 = dport)
  let iec := s.rb Reg.ITK_CTRL 3 && decide (s.rf Reg.ITK_PORTS 16 16 = dport)
  if v.len < 8 || n < 8 || v.len < n then s.notTaken f
  else if !c37 && !iec then s.notTaken f
  else if !udpSumOk o v ip n then s.itkCount 4
  else
    let b := slice o (v.l4 + 8) (n - 8)
    let x := sourceOf f v.src (be o v.l4 2) hops
    let k := s.syncTaken (octet b 1)
    let u := if iec then Config.spdu b else none
    if c37 && decide (2 ≤ b.length) && decide (octet b 0 = 0xAA) then
      if k.2 then s.c37Frame x k.1 (sized b) else s.notTaken f
    else
      match u with
      | some u => if decide (u.session = svSession) && decide (u.version = 1) && !u.encrypted then s.spduFrame x u else s.notTaken f
      | none => s.notTaken f

/-- A TCP segment (R161, R166). -/
def State.tcpIn (s : State) (f : RxFrame) (v : IpView) (hops : Nat) : State :=
  let o := f.octets
  let h := 4 * (octet o (v.l4 + 12) / 16)
  let hit := if s.rb Reg.ITK_CTRL 2 && decide (20 ≤ h) && decide (h ≤ v.len) then
      s.tcpMatch f.port v.src (be o v.l4 2) (be o (v.l4 + 2) 2) else none
  match hit with
  | none => s.notTaken f
  | some c =>
    let x := sourceOf f v.src 0 hops
    (s.rxToRing f).tcpSegment (tcpSource x c) c (be o (v.l4 + 4) 4) (slice o (v.l4 + h) (v.len - h))

/-- The parser examines a frame that has made `hops` hand-offs. -/
def State.examine (s : State) (f : RxFrame) (hops : Nat) : State :=
  let e := etherType f.octets
  if e.1 = 0x0800 || e.1 = 0x86DD then
    match ipView f.octets e.2 (e.1 = 0x86DD) with
    | none => s.notTaken f
    | some v =>
      if v.frag then (s.itkCount 8).rxToRing f
      else if v.proto = 17 then s.udpFrame f e.2 v hops
      else if v.proto = 6 then s.tcpIn f v hops
      else s.notTaken f
  else s.notTaken f

/-- INTAKE_FRAME: the oldest frame in the receive buffer of port `p` (R161). -/
def State.intakeFrame (s : State) (p : Nat) : State :=
  match s.rxOf p with
  | [] => s
  | f :: fs =>
    let s := s.setRx p fs
    if s.domOn pdRcl && s.rb Reg.ITK_CTRL 0 then s.examine f 0 else s.rxToRing f

/-! ### Seat commands and silence (R174, R176, R178) -/

/-- The descriptor's fields and reserved bits, without key and binding. -/
def State.descOk (s : State) (code : Nat) : Bool :=
  let w := fun d => s.seatW code d
  let zero := fun (lo hi : Nat) => (List.range ((hi - lo) / 4)).all (fun j => w (lo + 4 * j) = 0)
  if code < 0x4000 then
    let kind := fld (w 0) 1 2
    let nan := fld (w 0x1C) 16 6
    let fx := fun (i : Nat) => i = 63 || decide (i < nan)
    w 0 &&& 0x00F000F0 = 0 && w 4 &&& 0xFC000000 = 0 && w 0x1C &&& 0xE0C0C0F0 = 0 && w 0x38 &&& 0xFE000000 = 0 &&
      w 0x3C &&& 0xFFFFC0C0 = 0 && w 0x40 &&& 0xFFFF0000 = 0 && zero 0x44 0x80 && decide (kind ≠ 3) &&
      !(bit (w 0) 3 && decide (kind ≠ 2)) && decide (fld (w 0) 24 8 < 64) &&
      (kind = 2 || decide (fld (w 8) 0 16 = 0)) && decide (fld (w 0x1C) 8 6 ≤ 48) &&
      decide (nan ≤ 32) && decide (fld (w 0x1C) 24 5 ≤ 16) && decide (fld (w 0x38) 0 24 ≠ 0) && fx (fld (w 0x3C) 0 6) &&
      fx (fld (w 0x3C) 8 6)
  else
    w 0 &&& 0xFFFF00FE = 0 && zero 4 0x40 && w 0x40 &&& 0xFFFF0000 = 0 && zero 0x44 0x80

/-- SEAT_ADD (R174). -/
def State.seatAdd (s : State) : State :=
  let code := s.cmdSeat
  if (s.seat code).isSome then s.seatResult 3
  else if !s.descOk code then s.seatResult 1
  else if code < 0x4000 && s.remoteSeats.any (fun n => s.descKey n = s.descKey code) then s.seatResult 2
  else
    let f := s.seatForm code
    match s.freeMember f (s.seatRecLen code) with
    | none => s.seatResult 1
    | some m =>
      let s := (s.bind f m code).setSeat code (some { form := f, member := m, heard := s.now })
      let s := (s.setSeatW code 0 (setBit (s.seatW code 0) 0 true)).setSeatW code 0x80 0
      let s := if code < 0x4000 then s.setRf Reg.ITK_SEATS 0 15 (s.rf Reg.ITK_SEATS 0 15 + 1) else s
      s.seatResult 0

/-- SEAT_REMOVE: completes once every frame that found the seat has been filed (R174). -/
def State.seatRemove (s : State) : State :=
  if (s.seat s.cmdSeat).isNone then s.seatResult 3 else s.removeFinish

/-- ITK_SEAT_CMD with GO. -/
def State.seatCommand (s : State) : State :=
  let s := s.unready Reg.ITK_SEAT_STATUS
  if s.rf Reg.ITK_SEAT_CMD 1 2 = 1 then s.seatAdd else s.seatRemove

/-- STREAM_SILENT: seat `code` has seated nothing for SILENT_MS (R178). -/
def State.streamSilent (s : State) (code : Nat) : State :=
  match s.seat code with
  | none => s
  | some x =>
    let ms := fld (s.seatW code 0x40) 0 16
    if s.domOn pdRcl && decide (ms ≠ 0) && !bit (s.seatW code 0x80) 0 && decide (x.heard + ms * fsPerMs ≤ s.now) then
      let s := (s.setSeatW code 0x80 1).setRf Reg.ITK_SEATS 16 15 (s.rf Reg.ITK_SEATS 16 15 + 1)
      s.flagRaise Reg.ITK_STATUS 3 29 0
    else s

/-- Values that the ITK tables refuse (R180). -/
def itkRefuses (s : State) (off : Nat) (v : Word) : Bool :=
  if off = Reg.ITK_SEAT_CMD then
    (bit v 0 && (s.rb off 0 || fld v 1 2 = 0 || fld v 1 2 = 3)) || (bit v 3 && decide (11 < fld v 16 14))
  else false

/-- What a write of an ITK register does beside its plain fields. -/
def State.itkHook (s : State) (off : Nat) (old : Word) : State :=
  if off = Reg.ITK_SEAT_CMD then (if s.rb off 0 then s.seatCommand else s)
  else if 0xE1000 ≤ off && off < 0xE1800 && off % 0x20 = 0x14 then
    let c := (off - 0xE1000) / 0x20
    if s.rb off 0 && !bit old 0 then s.setTcpState c 1
    else if !s.rb off 0 && bit old 0 then (s.setTcpState c 0).setTcpConn c {}
    else s
  else s

end Sys2Proof.Machine
end

