-- ==== Sys2Proof/Machine/Fjarni.lean ====
section
/-! DEFINITION. The Fjarni links between the devices of a board (R430-R435): states of a link, packets received and resent, and
what the packets carry. -/

namespace Sys2Proof.Machine

/-! ### States of a link (R432) -/

/-- FJL_Lk_STATUS.STATE, with FJL_STATUS.UP. -/
def State.setLinkState (s : State) (k st : Nat) : State :=
  (s.setRf (Reg.FJL_L_STATUS k) 0 3 st).setRb Reg.FJL_STATUS k (st = 3)

/-- A link enters TRAIN: lane lock, block lock and deskew begin. -/
def State.linkTrain (s : State) (k : Nat) : State := (s.setLinkState k 1).setRf (Reg.FJL_L_STATUS k) 8 4 0

/-- LAST_ERR takes a code. -/
def State.linkErr (s : State) (k code : Nat) : State := s.setRf (Reg.FJL_L_STATUS k) 12 2 code

/-- What position `q` published is not held beyond its link (R435). -/
def State.sharedClear (s : State) (q : Nat) : State := { s with alarms := { s.alarms with shared := s.alarms.shared.erase q } }

/-- An UP link leaves UP: outstanding packets are dropped and counted, the decisions of the peer go absent; `off` where EN was
written 0. -/
def State.linkDown (s : State) (k : Nat) (off : Bool) : State :=
  let x := s.link k
  let s := (s.setLink k {}).sharedClear (s.linkPeer k)
  let s := if off then (s.setLinkState k 0).setRf (Reg.FJL_L_STATUS k) 8 4 0 else s.linkTrain k
  let s := (s.bump (Reg.FJL_L_CNT k 4)).bumpBy (Reg.FJL_L_CNT k 5) (x.sent.length + x.waiting.length)
  let s := s.flagRaise Reg.FJL_STATUS 8 56 k
  let s := if off then s else s.flagRaise Reg.FJL_STATUS 9 57 k
  s.showDecisions

/-- FJL_LINK_ENABLE: EN is 1 on an OFF link. -/
def State.linkEnable (s : State) (k : Nat) : State := if s.linkState k = 0 then s.linkTrain k else s

/-- FJL_LINK_DISABLE: EN is 0. -/
def State.linkDisable (s : State) (k : Nat) : State :=
  if s.linkState k = 3 then s.linkDown k true
  else ((s.setLink k {}).setLinkState k 0).setRf (Reg.FJL_L_STATUS k) 8 4 0

/-- The payload of an IDENT packet: board position, GLB_UID, district. -/
def State.identOctets (s : State) : List Byte := beBytes 1 s.boardPos ++ uidOctets ++ beBytes 2 (s.rf Reg.RED_DIST 0 16)

/-- FJL_LANES_ALIGNED: all four lanes of a link in TRAIN. -/
def State.lanesAligned (s : State) (k : Nat) : State :=
  if s.domOn pdLink && decide (s.linkState k = 1) then
    let s := (s.setLinkState k 2).setRf (Reg.FJL_L_STATUS k) 8 4 15
    let s := s.setLink k { s.link k with checkAt := s.now }
    s.sendControl k 7 s.identOctets
  else s

/-- FJL_CHECK_TIMEOUT: no valid IDENT within 10.0 ms. -/
def State.checkTimeout (s : State) (k : Nat) : State :=
  if s.domOn pdLink && decide (s.linkState k = 2) && decide ((s.link k).checkAt + 10 * fsPerMs ≤ s.now) then
    ((s.linkTrain k).linkErr k 2).flagRaise Reg.FJL_STATUS 9 57 k
  else s

/-- FJL_LANE_LOST: lane `n` of a link is lost. -/
def State.laneLost (s : State) (k n : Nat) : State :=
  if s.domOn pdLink then
    if s.linkState k = 3 then s.linkDown k false else s.setRb (Reg.FJL_L_STATUS k) (8 + n % 4) false
  else s

/-- An IDENT packet that reports position `pos` reaches a link in CHECK. -/
def State.identSeen (s : State) (k pos : Nat) : State :=
  if s.linkState k = 2 then
    let s := s.setRf (Reg.FJL_L_STATUS k) 4 3 pos
    if pos = s.linkPeer k then
      ((s.setLink k {}).setLinkState k 3).flagRaise Reg.FJL_STATUS 8 56 k |>.showDecisions
    else ((s.linkTrain k).linkErr k 1).flagRaise Reg.FJL_STATUS 9 57 k
  else s

/-! ### Packets (R431) -/

/-- A received packet: its header fields and payload. -/
structure Arrived where
  kind : Nat
  hops : Nat
  credits : Nat
  seq : Nat
  ack : Nat
  payload : List Byte

/-- A packet whose CRC verifies. -/
def arrived (bs : List Byte) : Option Arrived :=
  let n := be bs 4 2
  let m := 16 + roundUp 8 n
  if n ≤ 1024 && bs.length = m + 4 && le bs m 4 = crc32c (bs.take m) then
    some { kind := octet bs 0, hops := octet bs 2, credits := octet bs 3, seq := be bs 6 2, ack := be bs 8 2, payload := slice bs 16 n }
  else none

/-- Credits and acknowledgement of a packet: packets up to ACK_SEQ are let go, freed buffers return as credits. -/
def State.takeAck (s : State) (k : Nat) (a : Arrived) : State :=
  let x := s.link k
  let first := (x.txSeq + 65536 - x.sent.length % 65536) % 65536
  let n := (a.ack + 65536 + 1 - first) % 65536
  let x := if n ≤ x.sent.length && n ≠ 0 then { x with sent := x.sent.drop n, since := s.now, tries := x.tries.drop n } else x
  s.setLink k { x with credits := min 64 (x.credits + a.credits) }

/-- The packets not acknowledged are sent again; the eighth time of one of them takes the link down. -/
def State.resendAll (s : State) (k : Nat) : State :=
  let x := s.link k
  let first := x.txSeq + 65536 - x.sent.length
  let s := s.setLink k { x with tries := x.tries.map (· + 1), since := s.now }
  let s := (x.sent.zip (List.range x.sent.length)).foldl (fun s e => s.putPacket k e.1 (first + e.2)) s
  let s := s.bumpBy (Reg.FJL_L_CNT k 3) x.sent.length
  if x.tries.any (fun n => decide (8 ≤ n + 1)) then (s.linkErr k 3).linkDown k false else s

/-- FJL_RESEND_TIMEOUT: no ACK within 10.0 µs. -/
def State.resendTimeout (s : State) (k : Nat) : State :=
  let x := s.link k
  if s.domOn pdLink && decide (s.linkState k = 3) && !x.sent.isEmpty && decide (x.since + 10 * fsPerUs ≤ s.now) then s.resendAll k
  else s

/-- A SHARE packet: the frame is seated under the receiver's own seat (R433). -/
def State.shareReceive (s : State) (p : List Byte) : State :=
  let key : SeatKey :=
    { kind := octet p 0, conn := octet p 1, port := be p 2 2, addr := slice p 4 16, stream := be p 20 4, block := be p 24 2 }
  let rc := p.drop 36
  match (if s.domOn pdRcl then s.findSeat key else none) with
  | none => s.bump (Reg.FJL_CNT 2)
  | some n => s.seatFrame { code := n, sec := be p 26 6, ns := be p 32 4, record := patch rc 0 (leBytes 2 n) } (le rc 8 4)

/-- A HANDOFF packet: the frame is parsed as if it had arrived on the receiver's own port, one of a TCP connection as if on the receiver's
connection of that number (R434). -/
def State.handoffReceive (s : State) (hops : Nat) (p : List Byte) : State :=
  let port := octet p 0 % 4
  let tcp := octet p 0 / 128 = 1
  let f := p.drop (if tcp then 2 else 1)
  let t := s.ingressStamp port f 0
  let x : RxFrame := { octets := f, port := port, stamp := t.1, tb := t.2, rct := false, ring := 6 + port }
  if s.domOn pdRcl && s.rb Reg.ITK_CTRL 0 then
    if tcp then s.tcpFrame (tcpSource (sourceOf x (List.replicate 16 0) 0 hops) (octet p 1 % 64)) f else s.examine x hops
  else s.rxToRing x

/-- A DECISION packet from position `q`: the mapped local bits follow (R435). -/
def State.decisionReceive (s : State) (q : Nat) (p : List Byte) : State :=
  let s := { s with alarms := { s.alarms with shared := Tab.put (fun _ => 0) s.alarms.shared q (le p 0 32) } }
  (s.bump (Reg.FJL_CNT 3)).showDecisions

/-- A packet accepted in sequence is passed on. -/
def State.packetPass (s : State) (k : Nat) (a : Arrived) : State :=
  match a.kind with
  | 1 => s.shareReceive a.payload
  | 2 => s.handoffReceive a.hops a.payload
  | 3 => s.decisionReceive (s.linkPeer k) a.payload
  | _ => s.answerReceive a.payload

/-- A packet with a good CRC on an UP link. -/
def State.packetUp (s : State) (k : Nat) (a : Arrived) : State :=
  let s := s.takeAck k a
  let s := s.drainLink k 64
  if a.kind = 6 then (if (s.link k).sent.isEmpty then s else s.resendAll k)
  else if 1 ≤ a.kind && a.kind ≤ 4 then
    let x := s.link k
    if a.seq = (x.rxSeq + 1) % 65536 then
      let s := s.setLink k { x with rxSeq := a.seq, freed := x.freed + 1 }
      (s.sendControl k 5 []).packetPass k a
    else s.sendControl k 6 []
  else s

/-- FJL_PACKET_RECEIVE: `bs` arrive on link `k` (R431). -/
def State.packetReceive (s : State) (k : Nat) (bs : List Byte) : State :=
  if s.domOn pdLink && decide (2 ≤ s.linkState k) then
    match arrived bs with
    | none => (s.bump (Reg.FJL_L_CNT k 2)).sendControl k 6 []
    | some a =>
      let s := s.bump (Reg.FJL_L_CNT k 1)
      if a.kind = 7 then s.identSeen k (octet a.payload 0 % 8)
      else if s.linkState k = 3 then s.packetUp k a
      else s
  else s

/-- IDENT: an IDENT packet with position `pos`, UID and district arrives on link `k` (R432). -/
def State.identReceive (s : State) (k pos : Nat) : State :=
  if s.domOn pdLink && decide (2 ≤ s.linkState k) then (s.bump (Reg.FJL_L_CNT k 1)).identSeen k pos else s

/-! ### Registers (R435, R439) -/

/-- Values that the FJL tables refuse. -/
def fjlRefuses (s : State) (off : Nat) (v : Word) : Bool :=
  if off = Reg.FJL_CTRL then decide (fld v 4 3 = s.boardPos) || decide (fld v 8 3 = 0)
  else if 0x190200 ≤ off && off < 0x190220 then
    let b := fld v 16 8
    let n := fld v 8 7
    decide (256 < b + n) || decide (n ≠ 0) &&
      (List.range 64).any (fun i =>
        decide (s.lsnKind i ≠ 0) && decide (b < s.decBase i + s.decCount i) && decide (s.decBase i < b + n))
  else false

/-- What a write of an FJL register does beside its plain fields. -/
def State.fjlHook (s : State) (off : Nat) (old : Word) : State :=
  if 0x190200 ≤ off && off < 0x190220 then s.showDecisions
  else if 0x191000 ≤ off && off < 0x1911C0 && off % 0x40 = 0 then
    let k := (off - 0x191000) / 0x40
    if s.rb off 0 && !bit old 0 then s.linkEnable k
    else if !s.rb off 0 && bit old 0 then s.linkDisable k
    else s
  else s

end Sys2Proof.Machine
end

