-- ==== Sys2Proof/Machine/HallPass.lean ====
section
/-! DEFINITION. The roles of a pair, health and the hall pass (R417-R422). -/

namespace Sys2Proof.Machine

/-- RED_ROLE: 0 NONE, 1 SINGLE, 2 PREFERRED, 3 SUBSTITUTE. -/
def State.role (s : State) : Nat := s.rf Reg.RED_ROLE 0 2

/-- HP_STATE: 0 IDLE, 1 CLAIM, 2 HOLD. -/
def State.hpState (s : State) : Nat := s.rf Reg.RED_STATUS 0 2

/-- The level of ILK_IN. -/
def State.ilkIn (s : State) : Bool := s.rb Reg.RED_STATUS 3

/-- The kick condition of R419. -/
def State.kicked (s : State) : Bool :=
  !s.rb Reg.RED_CTRL 12 ||
    match s.pass.kickAt with
    | some t => decide (s.now < t + s.rf Reg.RED_KICK_MS 0 16 * fsPerMs)
    | none => false

/-- R419. -/
def State.healthyNow (s : State) : Bool :=
  s.rb Reg.IMG_LOAD_STATUS 3 && s.rb Reg.ANA_CTRL 0 &&
    (List.range 4).all (fun n => !s.rb Reg.RED_CTRL (16 + n) || s.tbState n = 3 || s.tbState n = 4) && s.kicked &&
    (!s.rb Reg.RED_CTRL 13 || (List.range 32).all (fun c => !s.starved c))

/-- The hall-pass state and the gate; the pins follow the gate (R259, R420). -/
def State.setHp (s : State) (st : Nat) (drives : Bool) : State :=
  let s := (s.setRf Reg.RED_STATUS 0 2 st).setRb Reg.RED_STATUS 2 (st = 2)
  ({ s with pass := { s.pass with drives := drives } }).pinsFollow

/-- CLAIM or HOLD is left for IDLE: the gate closes, then the line is released (R420). -/
def State.hpIdle (s : State) : State :=
  let was := s.hpState
  if was = 0 then s
  else
    let s := s.setHp 0 false
    if was = 2 then s.flagRaise Reg.RED_STATUS 8 53 0 else s

/-- HOLD is entered: the gate opens (R420). -/
def State.hpHold (s : State) (drives : Bool) : State := (s.setHp 2 drives).flagRaise Reg.RED_STATUS 8 53 0

/-- Health is judged again; a unit in a pair role that is not healthy gives up the hall pass (R419, R420). -/
def State.healthFollow (s : State) : State :=
  let h := s.healthyNow
  if !s.domOn pdSch || h = s.rb Reg.RED_STATUS 4 then s
  else
    let s := s.setRb Reg.RED_STATUS 4 h
    if h then { s with pass := { s.pass with healthySince := s.now } }
    else if 2 ≤ s.role then s.hpIdle
    else s

/-- HEALTH_CHANGE (R419). -/
def State.healthChange (s : State) : State := s.healthFollow

/-- KICK_EXPIRY: no kick within KICK_MS (R419). -/
def State.kickExpiry (s : State) : State := if s.kicked then s else s.healthFollow

/-- HALL_PASS_CLAIM (R420). -/
def State.hallClaim (s : State) : State :=
  let ready := s.domOn pdSch && decide (s.hpState = 0) && s.rb Reg.RED_STATUS 4 && s.healthyNow && !s.rb Reg.RED_CTRL 0
  let due :=
    if s.role = 2 then decide (s.pass.healthySince + s.rf Reg.RED_TIMES 0 16 * fsPerMs ≤ s.now)
    else decide (s.role = 3) && s.ilkIn && decide (s.pass.ilkSince + s.rf Reg.RED_TIMES 16 16 * fsPerUs ≤ s.now)
  if ready && due then
    let s := s.setHp 1 true
    { s with pass := { s.pass with claimSince := s.now } }
  else s

/-- HALL_PASS_HOLD: ILK_IN high for 1.00 µs in CLAIM (R420). -/
def State.hallHold (s : State) : State :=
  if s.domOn pdSch && decide (s.hpState = 1) && s.ilkIn && decide (max s.pass.ilkSince s.pass.claimSince + fsPerUs ≤ s.now) then
    s.hpHold true
  else s

/-- ILK_IN_CHANGE (R420): a substitute gives way to a low level. The input filter passes over a pulse shorter than 50.0 ns (R480). -/
def State.ilkChange (s : State) (e : IlkEdge) : State :=
  if e.ns < 50 || e.level = s.ilkIn then s
  else
    let s := s.setRb Reg.RED_STATUS 3 e.level
    let s := { s with pass := { s.pass with ilkSince := s.now } }
    if s.role = 3 && !e.level then s.hpIdle else s

/-- A change of ROLE: a pair role gives up the pass, SINGLE takes it at once (R417, R420). -/
def State.roleChange (s : State) (old : Nat) : State :=
  if s.role = old then s
  else
    let s := s.hpIdle
    if s.role = 1 then s.hpHold false else s

/-- Values that the RED tables refuse (R417, R438). -/
def redRefuses (s : State) (off : Nat) (v : Word) : Bool :=
  let pair := s.rb Reg.GLB_BOARD 3
  if off = Reg.RED_ROLE then (decide (fld v 0 2 = 2) && pair) || (decide (fld v 0 2 = 3) && !pair)
  else if off = Reg.RED_TIMES then decide (fld v 0 16 = 0) || decide (fld v 16 16 = 0)
  else if off = Reg.RED_PEER then decide (fld v 0 16 < 20) || decide (fld v 16 16 = 0)
  else if off = Reg.RED_KICK_MS then decide (fld v 0 16 = 0)
  else if off = Reg.RED_ACHK_CFG then decide (fld v 0 8 < 42) || decide (128 < fld v 0 8)
  else false

/-- What a write of a RED register does beside its plain fields. -/
def State.redHook (s : State) (off : Nat) (old v : Word) : State :=
  if off = Reg.RED_ROLE then s.roleChange (fld old 0 2)
  else if off = Reg.RED_CTRL then (if s.rb Reg.RED_CTRL 0 && decide (2 ≤ s.role) then s.hpIdle else s)
  else if off = Reg.RED_KICK then (if bit v 0 then { s with pass := { s.pass with kickAt := some s.now } } else s)
  else s

/-- What RED_STATUS reads: HEALTHY shows R419 as it stands. -/
def State.redView (s : State) (off : Nat) : Word :=
  if off = Reg.RED_STATUS then setBit (s.reg off) 4 s.healthyNow else s.reg off

end Sys2Proof.Machine
end

