-- ==== Sys2Proof/Machine/Scheduler.lean ====
section
/-! DEFINITION. The task scheduler (R345-R355): tasks and their flags, the ready lists and atomic flows, dispatch, timers and
bells. -/

namespace Sys2Proof.Machine

/-! ### Tasks (R345-R349) -/

/-- The scheduler holds tasks 0-4095. -/
def taskCount : Nat := 4096

def State.task (s : State) (i : Nat) : Task := Tab.get (fun _ => {}) s.sched.tasks i
def State.setTask (s : State) (i : Nat) (t : Task) : State :=
  { s with sched := { s.sched with tasks := Tab.put (fun _ => {}) s.sched.tasks i t } }

/-- Identifier and generation of a handle (R345). -/
def handleId (h : Nat) : Nat := h % 4096
def handleGen (h : Nat) : Nat := h / 4096 % 256

/-- The handle of task `i`. -/
def State.handleOf (s : State) (i : Nat) : Nat := i + 4096 * (s.task i).gen

/-- A handle whose generation is not the task's current one. -/
def State.stale (s : State) (h : Nat) : Bool := decide ((s.task (handleId h)).gen ≠ handleGen h)

/-- Whether flags satisfy the mask (R348). -/
def Task.satisfied (t : Task) : Bool :=
  if t.all then t.flags &&& t.mask = t.mask else t.flags &&& t.mask ≠ 0

/-- Task `i` becomes READY at the tail of its list, with event 50 where NOTIFY asks for it. -/
def State.taskReady (s : State) (i : Nat) : State :=
  let t := s.task i
  let s := s.setTask i { t with state := 2 }
  let s := { s with sched := { s.sched with ready := s.sched.ready ++ [i] } }
  if t.notify then s.flagRaise Reg.SCH_STATUS 0 50 0 else s

/-- A waiting task whose flags satisfy its mask becomes ready. -/
def State.taskJudge (s : State) (i : Nat) : State :=
  if (s.task i).state = 1 && (s.task i).satisfied then s.taskReady i else s

/-- Flags are ORed into task `i` in one grant (R349). -/
def State.orFlags (s : State) (i : Nat) (v : Word) : State :=
  let t := s.task i
  (s.setTask i { t with flags := t.flags ||| v }).taskJudge i

/-- Flags for the task a handle names: discarded and counted for a stale handle, a FREE or ENDING task or a system task. -/
def State.setFlags (s : State) (h : Nat) (v : Word) : State :=
  let t := s.task (handleId h)
  if s.stale h || t.state = 0 || t.state = 4 || t.sys then s.bump (Reg.SCH_CNT 2) else s.orFlags (handleId h) v

/-- FLAG_SET: a write of SCH_FLAG_SET (R349). -/
def State.flagSet (s : State) (v : Word) : State := s.setFlags (s.rf Reg.SCH_FLAG_TGT 0 20) v

/-- The timer of task `i` is disarmed. -/
def State.disarm (s : State) (i : Nat) : State :=
  { s with sched := { s.sched with timers := s.sched.timers.filter (fun t => decide (t.task ≠ i)) } }

/-- Task `i` is FREE with the next generation. -/
def State.taskFree (s : State) (i : Nat) : State := s.setTask i { gen := ((s.task i).gen + 1) % 256 }

/-- The flow of task `i` is free. -/
def State.freeFlow (s : State) (i : Nat) : State :=
  let t := s.task i
  if t.flowEn then { s with sched := { s.sched with busy := s.sched.busy.erase t.flow } } else s

/-- A dispatched task is complete: RUN to READY or WAIT, ENDING to FREE (R348). -/
def State.taskComplete (s : State) (i : Nat) : State :=
  let s := s.freeFlow i
  if (s.task i).state = 4 then s.taskFree i else (s.setTask i { s.task i with state := 1 }).taskJudge i

/-- A task command ends (R50, R347). -/
def State.taskResult (s : State) (code handle : Nat) : State :=
  (((s.setReg Reg.SCH_TASK_HANDLE (word handle)).setRf Reg.SCH_TASK_STATUS 16 8 code).publish Reg.SCH_TASK_STATUS).setRb
    Reg.SCH_TASK_CMD 0 false

/-- The lowest free identifier. -/
def State.freeTask (s : State) : Option Nat := (List.range taskCount).find? (fun i => decide ((s.task i).state = 0))

/-- CREATE (R347) with the lowest free task, none where all are in use. -/
def State.taskCreateAt (s : State) : Option Nat → State
  | none => ((s.bump (Reg.SCH_CNT 3)).flagRaise Reg.SCH_STATUS 1 51 0).taskResult 1 0
  | some i =>
    let a := s.reg Reg.SCH_TASK_ARG0
    let mask := s.reg Reg.SCH_TASK_ARG1
    if fld a 0 3 < 2 || mask = 0 || (bit a 4 && fld a 16 16 < 0x4200) then s.taskResult 2 0
    else
      let t : Task :=
        { state := 1, gen := (s.task i).gen, prio := fld a 0 3, all := bit a 3, flowEn := bit a 4, notify := bit a 5
          flow := fld a 16 16, mask := mask, arg := s.reg Reg.SCH_TASK_ARG2 }
      (s.setTask i t).taskResult 0 (s.handleOf i)

/-- CREATE (R347). -/
def State.taskCreate (s : State) : State := s.taskCreateAt s.freeTask

/-- DESTROY (R347, R348). -/
def State.taskDestroy (s : State) (h : Nat) : State :=
  let i := handleId h
  let t := s.task i
  if s.stale h then s.taskResult 3 0
  else if t.sys then s.taskResult 4 0
  else
    match t.state with
    | 1 => ((s.disarm i).taskFree i).taskResult 0 0
    | 2 =>
      let s := { s with sched := { s.sched with ready := s.sched.ready.erase i } }
      ((s.disarm i).taskFree i).taskResult 0 0
    | 3 => ((s.disarm i).setTask i { t with state := 4 }).taskResult 0 0
    | _ => s.taskResult 4 0

/-- DONE (R347, R348). -/
def State.taskDone (s : State) (h : Nat) : State :=
  let i := handleId h
  let t := s.task i
  if s.stale h then s.taskResult 3 0
  else if t.sys || (t.state ≠ 3 && t.state ≠ 4) then s.taskResult 4 0
  else (s.taskComplete i).taskResult 0 0

/-- SCH_TASK_CMD with GO: one command. -/
def State.taskCommand (s : State) : State :=
  let h := s.rf Reg.SCH_TASK_CMD 12 20
  let s := s.unready Reg.SCH_TASK_STATUS
  match s.rf Reg.SCH_TASK_CMD 1 2 with
  | 1 => s.taskCreate
  | 2 => s.taskDestroy h
  | _ => s.taskDone h

/-! ### Dispatch (R350-R352) -/

/-- The ready items in the order they are served: by list, each list in FIFO order. -/
def State.readyItems (s : State) : List Nat :=
  (List.range 8).flatMap (fun p => s.sched.ready.filter (fun i => decide ((s.task i).prio = p)))

/-- The flow of item `i` is busy. -/
def State.flowBusy (s : State) (i : Nat) : Bool := (s.task i).flowEn && s.sched.busy.contains (s.task i).flow

/-- Another item of the same flow became ready before item `i` (R352: items of one flow go in that order). -/
def State.flowBehind (s : State) (i : Nat) : Bool :=
  (s.task i).flowEn &&
    (s.sched.ready.takeWhile (fun j => decide (j ≠ i))).any (fun j =>
      (s.task j).flowEn && decide ((s.task j).flow = (s.task i).flow))

def State.eligible (s : State) (i : Nat) : Bool := !s.flowBusy i && !s.flowBehind i

/-- Whether the target of item `i` can accept it: an engine, or ring 22. -/
def State.accepts (s : State) (i : Nat) : Bool :=
  (s.task i).sys || (s.rb Reg.SCH_CTRL 0 && s.ringReady 22)

/-- Item `i` is dispatched: RUN, its delivered flags cleared, its flow busy; a host item to ring 22. -/
def State.dispatchItem (s : State) (i : Nat) : State :=
  let t := s.task i
  let h := s.handleOf i
  let sched := { s.sched with
    ready := s.sched.ready.erase i
    busy := if t.flowEn then t.flow :: s.sched.busy else s.sched.busy }
  let s := ({ s with sched := sched }).setTask i { t with state := 3, flags := t.flags &&& ~~~ t.mask }
  if t.sys then s.bump (Reg.SCH_CNT 1)
  else
    (s.bump (Reg.SCH_CNT 0)).postDesc 22
      (leBytes 4 (h + 2 ^ 24 * t.prio) ++ leBytes 4 (t.flags &&& t.mask).toNat ++ leBytes 4 t.arg.toNat ++ List.replicate 16 0)

/-- DISPATCH: engines have set the flags `sets` on system tasks, as the syllabus wires them (R346); then the first eligible item
that its target accepts is dispatched. Items before it with a busy flow are passed over and counted. An eligible host item that
finds no descriptor waits (R351). -/
def State.dispatch (s : State) (sets : List (Nat × Word)) : State :=
  if s.domOn pdSch then
    let s := sets.foldl (fun s e => if (s.task e.1).sys then s.orFlags e.1 e.2 else s) s
    let items := s.readyItems
    match items.find? (fun i => s.eligible i && s.accepts i) with
    | some i =>
      let passed := (items.takeWhile (fun j => decide (j ≠ i))).filter (fun j => s.flowBusy j)
      (s.bumpBy (Reg.SCH_CNT 5) passed.length).dispatchItem i
    | none =>
      if s.rb Reg.SCH_CTRL 0 && items.any (fun i => s.eligible i && !(s.task i).sys) then s.ringExhaust 22 false else s
  else s

/-- TASK_ENGINE_COMPLETE: an engine completes the system task `i` that was dispatched to it (R348). -/
def State.engineComplete (s : State) (i : Nat) : State :=
  if (s.task i).sys && (s.task i).state = 3 then s.taskComplete i else s

/-- The system tasks of a syllabus, from the lowest free identifier on (R346). -/
def State.addSysTasks (s : State) (ts : List SysTask) : State :=
  ts.foldl (fun s x =>
    match s.freeTask with
    | none => s
    | some i => s.setTask i
        { state := 1, sys := true, gen := (s.task i).gen, prio := x.prio % 2, all := x.all, flowEn := x.flowEn, flow := x.flow
          mask := x.mask, arg := x.arg }) s

/-! ### Timers (R354, R355) -/

/-- A timer command ends. -/
def State.timerResult (s : State) (code : Nat) : State :=
  ((s.setRf Reg.SCH_TMR_STATUS 16 8 code).publish Reg.SCH_TMR_STATUS).setRb Reg.SCH_TMR_CMD 0 false

/-- The code of a timer command's handle: 0, 3 STALE or 4 STATE. -/
def State.timerCode (s : State) : Nat :=
  let h := s.rf Reg.SCH_TMR_HANDLE 0 20
  let t := s.task (handleId h)
  if s.stale h || (!t.sys && (t.state = 0 || t.state = 4)) then 3 else if t.sys then 4 else 0

/-- The timer that the staging registers describe. A due time already past fires at the next bell. -/
def State.stagedTimer (s : State) : Timer :=
  let hi := s.reg Reg.SCH_TMR_SEC_HI
  let tb := fld hi 16 2
  let due := mkStamp (fld hi 0 16 * 2 ^ 32 + (s.reg Reg.SCH_TMR_SEC_LO).toNat) (s.rf Reg.SCH_TMR_NS 0 30)
  { task := handleId (s.rf Reg.SCH_TMR_HANDLE 0 20), tb := tb
    due := due, since := if due < s.tbNow tb then s.tbNow tb + 1 else due
    flags := s.reg Reg.SCH_TMR_FLAGS, evt := bit hi 18 }

/-- ARM: an armed timer of the same task is replaced. -/
def State.timerArm (s : State) : State :=
  if s.timerCode ≠ 0 then s.timerResult s.timerCode
  else
    let t := s.stagedTimer
    let s := s.disarm t.task
    ({ s with sched := { s.sched with timers := s.sched.timers ++ [t] } }).timerResult 0

/-- DISARM. -/
def State.timerDisarm (s : State) : State :=
  if s.timerCode ≠ 0 then s.timerResult s.timerCode
  else (s.disarm (handleId (s.rf Reg.SCH_TMR_HANDLE 0 20))).timerResult 0

/-- SCH_TMR_CMD with GO: one command. -/
def State.timerCommand (s : State) : State :=
  let s := s.unready Reg.SCH_TMR_STATUS
  match s.rf Reg.SCH_TMR_CMD 1 2 with
  | 1 => s.timerArm
  | _ => s.timerDisarm

/-- A timer is due at the last bell of its time base. -/
def State.timerDue (s : State) (t : Timer) : Bool :=
  match s.lastBell t.tb with
  | some b => decide (t.due ≤ b) && decide (t.since ≤ b)
  | none => false

/-- One timer fires: its flags, event 52 where EVT = 1, and it is disarmed. -/
def State.fireTimer (s : State) (t : Timer) : State :=
  let s := ((s.disarm t.task).bump (Reg.SCH_CNT 4)).setFlags (s.handleOf t.task) t.flags
  if t.evt then s.flagRaise Reg.SCH_STATUS 2 52 0 else s

/-! ### Register writes and computed reads (R353, R361) -/

/-- A new bell period is taken by each running time base at its next TAI second (R353). -/
def State.bellChange (s : State) (old : Word) : State :=
  let o := (List.range 4).foldl (fun (o : Tab (Nat × Nat)) n =>
    if s.tbState n = 0 then o.erase n
    else
      let e := Tab.get (fun _ => (0, 0)) o n
      let sec := stampSec (s.tbNow n)
      Tab.put (fun _ => (0, 0)) o n (if sec < e.2 then (e.1, sec + 1) else (fld old 0 14, sec + 1))) s.sched.oldBell
  { s with sched := { s.sched with oldBell := o } }

/-- Values that the SCH tables refuse. -/
def schRefuses (s : State) (off : Nat) (v : Word) : Bool :=
  if off = Reg.SCH_BELL then fld v 0 14 = 0 || decide (10000 < fld v 0 14) || decide (10000000 % fld v 0 14 ≠ 0)
  else if off = Reg.SCH_TASK_CMD then bit v 0 && (s.rb off 0 || fld v 1 2 = 0)
  else if off = 0xD0048 then decide (999999999 < fld v 0 30)
  else if off = Reg.SCH_TMR_CMD then
    bit v 0 && (s.rb off 0 || fld v 1 2 = 0 || fld v 1 2 = 3 || (fld v 1 2 = 1 && s.reg Reg.SCH_TMR_FLAGS = 0))
  else false

/-- What a write of an SCH register does beside its plain fields. -/
def State.schHook (s : State) (off : Nat) (old v : Word) : State :=
  if off = Reg.SCH_BELL then s.bellChange old
  else if off = Reg.SCH_TASK_CMD then (if s.rb off 0 then s.taskCommand else s)
  else if off = Reg.SCH_FLAG_SET then s.flagSet v
  else if off = Reg.SCH_TMR_CMD then (if s.rb off 0 then s.timerCommand else s)
  else s

/-- What computed SCH registers read; none for a stored one. -/
def schView (s : State) (off : Nat) : Option Word :=
  let i := s.rf Reg.SCH_PEEK_HANDLE 0 12
  let t := s.task i
  if off = 0xD0024 then
    let used := s.sched.tasks.filter (fun e => decide (e.2.state ≠ 0))
    some (word (used.length + 65536 * (used.filter (fun e => e.2.sys)).length))
  else if off = 0xD0034 then
    some (word (t.state + 8 * t.prio + 64 * t.sys.toNat + 128 * (s.sched.timers.any (fun x => decide (x.task = i))).toNat +
      256 * t.gen))
  else if off = 0xD0038 then some t.flags
  else if off = 0xD005C then
    some (word (s.sched.timers.length + ((List.range 256).filter (fun f => decide (s.formState f ≠ 0))).length))
  else none

end Sys2Proof.Machine
end

