-- ==== Sys2Proof/Machine/Image.lean ====
section
/-! DEFINITION. The image loader (R59-R86): the image format and its checks, the load of a syllabus, the image cache, and the
classroom commands. -/

namespace Sys2Proof.Machine

/-! ### Image checks (R60-R65) -/

/-- Check 1 of R65. -/
def checkFormat (h : List Byte) : Bool :=
  decide (le h 0 4 = 0x56455556) && decide (le h 4 2 = 2) && decide (hdrKind h < 2) && decide (le h 8 2 = 0x9840) &&
    allZero (slice h 0x800 0x800)

/-- Check 2 of R65, with the conditions that R60 and R62 set for the section table. -/
def checkLength (h : List Byte) : Bool :=
  let es := (List.range 33).map (secEntry h)
  let on := es.filter (fun e => decide (secFrames e ≠ 0))
  decide (octet h 0x0A ≤ 0x21) && decide (hdrLength h ≤ 50331648) &&
    decide (hdrLength h = 4096 + 4096 * es.foldl (fun a e => a + secFrames e) 0) &&
    es.all (fun e => decide (secFrames e ≠ 0) || allZero e) &&
    (decide (secFrames (secEntry h 0) = 0) == decide (hdrKind h = 1)) && !on.isEmpty &&
    on.all (fun e => decide (secOffset e % 4096 = 0) && decide (4096 ≤ secOffset e) &&
      decide (secOffset e + 4096 * secFrames e ≤ hdrLength h)) &&
    on.all (fun e => decide ((on.filter (fun f => decide (secOffset e < secOffset f + 4096 * secFrames f) &&
      decide (secOffset f < secOffset e + 4096 * secFrames e))).length ≤ 1))

/-- Whether frame `k` of section `sec` passes check 7 (R63). -/
def frameOk (sec k : Nat) (f : List Byte) : Bool :=
  decide (crc32c (f.take 4088) = le f 4088 4) && decide (octet f 0 = sec) && decide (le f 4 4 = k)

/-- The payload of a section's frames. -/
def payloadOf (n : Nat) (fs : List Byte) : List Byte :=
  (List.range n).flatMap (fun k =>
    let f := slice fs (4096 * k) 4096
    slice f 8 (min 4080 (le f 2 2)))

/-- The boot register list at the start of a device-section payload (R64). -/
def bootList (payload : List Byte) : List (Nat × Word) :=
  (List.range (min (le payload 0 4) (payload.length / 8))).map (fun i =>
    (le payload (4 + 8 * i) 4, word (le payload (8 + 8 * i) 4)))

/-- The payload behind the boot register list. -/
def planPayload (payload : List Byte) : List Byte := payload.drop (4 + 8 * (bootList payload).length)

/-- The running device-section digest, IMG_BASE_DIGEST0-7. -/
def State.baseDigest (s : State) : List Byte := (List.range 8).flatMap (fun k => bytesOf (s.reg (Reg.IMG_BASE_DIGEST k)))

/-! ### Checks (R65) -/

/-- Checks 1-6 on a header: the first failing code, or 0. A partial image serves only the cache. -/
def State.checkHeader (s : State) (h : List Byte) (partialOk : Bool) : Nat :=
  if !checkFormat h then 1
  else if !checkLength h then 2
  else
    match s.keyFor (hdrSigner h) 3 with
    | none => 4
    | some k =>
      if k.type ≠ 4 then 4
      else if !ecdsaVerify k.pub (sha256 (h.take 0x7C0)) (slice h 0x7C0 64) then 5
      else if hdrVersion h < max (s.reg Reg.IMG_MINVER).toNat (max (s.reg Reg.KEY_FLOOR).toNat Config.floorFuse.toNat) then 6
      else if hdrKind h = 1 && (!partialOk || slice h 0x20 32 ≠ s.baseDigest) then 9
      else 0

/-- The frames of section `k`. -/
def sectionFrames (rd : ImageSource) (h : List Byte) (k : Nat) : List Byte :=
  rd (secOffset (secEntry h k)) (4096 * secFrames (secEntry h k))

/-- Check 7 of a section; `bad` names the frames, by number within the image, that no read gave right. -/
def framesOk (rd : ImageSource) (h : List Byte) (bad : List Nat) (k : Nat) : Bool :=
  let e := secEntry h k
  (List.range (secFrames e)).all (fun j =>
    frameOk k j (rd (secOffset e + 4096 * j) 4096) && !bad.contains (secOffset e / 4096 + j - 1))

/-- Check 8 of a section. -/
def digestOk (rd : ImageSource) (h : List Byte) (k : Nat) : Bool :=
  decide (sha256 (sectionFrames rd h k) = secDigest (secEntry h k))

/-- All checks of an image: the first failing code with its section, 63 for the header; (0, 63) when every one passes. -/
def State.checkImage (s : State) (rd : ImageSource) (bad : List Nat) (partialOk : Bool) : Nat × Nat :=
  let h := rd 0 4096
  let c := s.checkHeader h partialOk
  if c ≠ 0 then (c, 63)
  else
    match (sections h).find? (fun k => !framesOk rd h bad k) with
    | some k => (7, k)
    | none =>
      match (sections h).find? (fun k => !digestOk rd h k) with
      | some k => (8, k)
      | none => (0, 63)

/-! ### Writing a classroom (R12, R59, R75, R225, R226) -/

/-- A physical desk for each logical index: the one it stands on, or where that is retired the lowest unused one; none when no
spare is left. `base` gives the desk each index stood on. -/
def mapDesks (retired : Nat → Bool) (base : List Nat) : Option (List Nat) :=
  let pool := (List.range deskCount).filter (fun p => !retired p && !base.contains p)
  (base.foldl (fun (a : Option (List Nat × List Nat)) p =>
    match a with
    | none => none
    | some (out, pool) =>
      if retired p then
        match pool with
        | q :: rest => some (out ++ [q], rest)
        | [] => none
      else some (out ++ [p], pool)) (some ([], pool))).map (fun x => x.1)

/-- The desk each logical index stands on, or at a first configuration the one of the same number. -/
def State.baseMap (s : State) (c : Nat) : List Nat :=
  (List.range 128).map (fun d => if s.mapOf c d = 0xFF then d else s.mapOf c d)

/-- A map is written: FABc_MAP, ACTIVE and SPARE desks, SPARES. -/
def State.writeMap (s : State) (c : Nat) (m : List Nat) : State :=
  let s := (List.range 32).foldl (fun s j => s.setReg (Reg.FAB_MAP c j)
    (word ((List.range 4).foldl (fun a k => a + m.getD (4 * j + k) 0xFF * 256 ^ k) 0))) s
  let s := (List.range deskCount).foldl (fun s p =>
    if s.desk c p = 3 then s else s.setDesk c p (if m.contains p then 1 else 2)) s
  s.showSpares c

/-- The desk map chosen for a classroom, or none where no spare is left, takes effect. -/
def State.takeMap (s : State) (c : Nat) : Option (List Nat) → State × Bool
  | some m => (s.writeMap c m, true)
  | none => (s.showSpares c, false)

/-- A classroom section is written and its desks self-check; those in `bad` fail. The second component is false when no spare
is left. -/
def State.configureClass (s : State) (c : Nat) (bad : List Nat) : State × Bool :=
  let base := s.baseMap c
  let s := s.checkDesks c bad
  s.takeMap c (mapDesks (fun p => decide (s.desk c p = 3)) base)

/-- The lesson plan of a classroom section: its entry and frames. -/
def planOf (e fs : List Byte) : ClassPlan :=
  { Config.classPlan (payloadOf (secFrames e) fs) with
    preserve := secPreserve e, stateTag := secStateTag e, planTag := le (secDigest e) 0 2 }

/-- The plan of section `e`, `fs` is configured in classroom `c`: operation stores by physical desk, lesson state `m`; SERVICE and
PLAN_TAG (R68, R72). -/
def State.inService (s : State) (c : Nat) (e fs : List Byte) (m : Memo) : State :=
  let p := planOf e fs
  let stores := (List.range 128).foldl (fun t d => Tab.put (fun _ => []) t (s.mapOf c d) (p.store d)) []
  let s := (s.setClassroom c { s.classroom c with plan := some p, stores := stores }).loadMemo c m
  (s.setClsState c 1).setRf (Reg.IMG_CLS_STATE c) 16 16 (le (secDigest e) 0 2)

/-- The other domain that a plan using the link between classrooms 15 and 16 needs is off (R218). -/
def State.linkOff (s : State) (c : Nat) (p : ClassPlan) : Bool :=
  (decide (c = 15) && p.uses true && !s.domOn pdFabE) || (decide (c = 16) && p.uses false && !s.domOn pdFabW)

/-! ### Loading the syllabus (R66-R69, R446) -/

/-- Every classroom is EMPTY and every engine unconfigured (R66). -/
def State.unconfigure (s : State) : State :=
  let s := (List.range 32).foldl (fun s c =>
    (s.setClassroom c (s.classroom c).retiredOnly).setReg (Reg.IMG_CLS_STATE c) 0) s
  let s := (List.range 32).foldl (fun s c => s.resetRegs (Reg.FAB_MAP c 0) (Reg.FAB_MAP c 0 + 0x80)) s
  let s := (List.range 64).foldl (fun s i =>
    ((s.resetRegs (Reg.LSN_INFO i) (Reg.LSN_CTRL i)).resetRegs (Reg.LSN_BOUND i) (Reg.LSN_TBLA_LO i)).resetRegs
      (Reg.LSN_ACTIVE i) (Reg.LSN_SKIPPED i)) s
  let keep := s.sched.tasks.filterMap (fun e =>
    if e.2.sys then (if (e.2.gen + 1) % 256 = 0 then none else some (e.1, { gen := (e.2.gen + 1) % 256 })) else some e)
  let sched := { s.sched with
    tasks := keep, cover := []
    ready := s.sched.ready.filter (fun i => !(s.task i).sys) }
  let s := { s with lessons := [], sched := sched, loader := { s.loader with version := 0, device := {}, unloading := none } }
  let s := (s.setRb Reg.IMG_CACHE 0 false).setReg Reg.IMG_VERSION 0
  let s := s.resetRegs (Reg.IMG_BASE_DIGEST 0) (Reg.IMG_BASE_DIGEST 0 + 0x20)
  s.showCover.showDecisions

/-- An operation of the loader fails: code and section in IMG_LOAD_STATUS, event 1 (R66, R71). The section is 63 where no section
failed, 0 for a failed boot list (DESIGN CHOICE, assumption 164). -/
def State.loadFail (s : State) (code sec : Nat) : State :=
  ((s.setRf Reg.IMG_LOAD_STATUS 8 8 code).setRf Reg.IMG_LOAD_STATUS 16 6 sec).raise 1 0

/-- BUSY is over. -/
def State.loaderIdle (s : State) : State := s.setRb Reg.IMG_LOAD_STATUS 0 false

/-- A use of the signer's slot that fails because it is not VALID is counted (R404, R416). -/
def State.countNoKey (s : State) (rd : ImageSource) (code : Nat) : State :=
  if code = 4 then s.keyFail (hdrSigner (rd 0 4096)) else s

/-- An attempt to load a full image fails: every classroom is EMPTY, every engine unconfigured, and event 1 is raised (R66). -/
def State.attemptFail (s : State) (rd : ImageSource) (a : Nat × Nat) : State := (s.countNoKey rd a.1).unconfigure.loadFail a.1 a.2

/-- The registers of PD_SCH marked Image take the values that the syllabus gives them: the instances and the system tasks (R8, R231,
R265, R346). -/
def State.imageValues (s : State) : State :=
  let s := s.loader.device.instances.foldl (fun s x =>
    if x.num < 64 then
      (((s.setReg (Reg.LSN_INFO x.num) x.infoReg).setReg (Reg.LSN_DECS x.num) x.decsReg).setReg (Reg.LSN_BOUND x.num)
        x.boundReg).setLesson x.num { s.lesson x.num with inst := some x }
    else s) s
  s.addSysTasks s.loader.device.sysTasks

/-- The device section is applied: digest, instances, system tasks (R68 step 3). -/
def State.applyDevice (s : State) (e fs : List Byte) : State :=
  let plan := Config.devicePlan (planPayload (payloadOf (secFrames e) fs))
  let s := (List.range 8).foldl (fun s k => s.setReg (Reg.IMG_BASE_DIGEST k) (wordLE (slice (secDigest e) (4 * k) 4))) s
  let s := { s with loader := { s.loader with device := plan } }
  if s.domOn pdSch then s.imageValues else s

/-- The classrooms whose sections a full image brings into service: those present, but for one whose domain is off or whose plan uses
a closed link (R218; passed over by DESIGN CHOICE, assumption 106). -/
def State.placeable (s : State) (rd : ImageSource) (h : List Byte) : List Nat :=
  (List.range 32).filter (fun c =>
    decide (secFrames (secEntry h (c + 1)) ≠ 0) && s.domOn (classDomain c) &&
      !s.linkOff c (planOf (secEntry h (c + 1)) (sectionFrames rd h (c + 1))))

/-- The classroom sections are written in order (R68 step 4): the classroom that no spare is left for, if any. -/
def writeClasses (desks : List (Nat × Nat)) : List Nat → State → State × Option Nat
  | [], s => (s, none)
  | c :: cs, s =>
    let p := s.configureClass c ((desks.filter (fun e => decide (e.1 = c))).map (fun e => e.2))
    if p.2 then writeClasses desks cs p.1 else (p.1, some c)

/-- Whether a warm load skips a boot-list entry (R446): GLB_LOCK, a locked RWL register, a unit in PD_BASE, PD_HOST, PD_KEY or
PD_NETA. The RTC, in PD_AON, is not named. -/
def State.warmSkips (s : State) (off : Nat) : Bool :=
  let u := off / 0x10000
  let norm := 0x10000 * u + off % 0x4000
  let locked := match regRow norm with
    | some r => match r.lock with
      | some b => s.rb Reg.GLB_LOCK b
      | none => false
    | none => false
  locked || [0, 1, 2, 3, 5, 6, 7, 23, 26].contains u || (decide (u = 11) && decide (off % 0x4000 < 0x180))

/-- The boot register list is performed by single-DW writes (R64): false at the first that raises a bus error. `wr` performs one
write and says whether it raised a bus error. A device reset among them abandons the load (R82). -/
def runBootList (wr : State → Nat → Word → State × Bool) (warm : Bool) : List (Nat × Word) → State → State × Bool
  | [], s => (s, true)
  | (off, v) :: rest, s =>
    if warm && s.warmSkips off then runBootList wr warm rest s
    else if s.pwr.start.isSome then (s, true)
    else
      let p := wr s off v
      if p.2 then (p.1, false) else runBootList wr warm rest p.1

/-- Step 6 of R68: present classrooms in SERVICE, entry 0 with their sections, IMG_DONE. -/
def State.loadDone (s : State) (rd : ImageSource) (h : List Byte) : State :=
  let cs := (s.placeable rd h).map (fun c => (c, secEntry h (c + 1), sectionFrames rd h (c + 1)))
  let s := cs.foldl (fun s x => s.inService x.1 x.2.1 x.2.2 (initialMemo (planOf x.2.1 x.2.2))) s
  let s := ((s.putEntryZero cs).setReg Reg.IMG_VERSION (word (hdrVersion h))).setRb Reg.IMG_CACHE 0 true
  let s := { s with
    loader := { s.loader with version := hdrVersion h }
    cacheSigner := Tab.put (fun _ => 0) s.cacheSigner 0 (hdrSigner h + 1) }
  let s := (s.floorAuto (hdrVersion h)).showDecisions
  let w := setFld (setFld (setBit (setBit (s.reg Reg.IMG_LOAD_STATUS) 0 false) 3 true) 8 8 0) 16 6 0
  (s.setReg Reg.IMG_LOAD_STATUS w).raise 0 0

/-- The boot register list is done, `ok` without a bus error (R68 steps 5, 6; code 18). A device reset has abandoned the load. -/
def State.applyList (s : State) (rd : ImageSource) (ok : Bool) : State × Nat × Nat :=
  if s.pwr.start.isSome then (s, 0, 63)
  else if ok then (s.loadDone rd (rd 0 4096), 0, 63)
  else (s, 18, 0)

/-- The classrooms are written, or the named one found no spare (R68 steps 4, 5; code 14). -/
def State.applyClasses (s : State) (wr : State → Nat → Word → State × Bool) (rd : ImageSource) (warm : Bool) :
    Option Nat → State × Nat × Nat
  | some c => (s, 14, c + 1)
  | none =>
    let list := bootList (payloadOf (secFrames (secEntry (rd 0 4096) 0)) (sectionFrames rd (rd 0 4096) 0))
    (runBootList wr warm list s).1.applyList rd (runBootList wr warm list s).2

/-- A verified full image is applied: device section, classrooms, boot register list (R68 steps 3-6). The failing code and section
come with the state, code 0 where nothing failed. -/
def State.applyImage (s : State) (wr : State → Nat → Word → State × Bool) (rd : ImageSource) (desks : List (Nat × Nat))
    (warm : Bool) : State × Nat × Nat :=
  let h := rd 0 4096
  let dev := sectionFrames rd h 0
  let s := s.unconfigure.applyDevice (secEntry h 0) dev
  let p := writeClasses desks (s.placeable rd h) s
  p.1.applyClasses wr rd warm p.2

/-- An attempt to load a full image whose checks ended in `a`: it is applied, or the attempt fails (R66). -/
def State.attempt (s : State) (wr : State → Nat → Word → State × Bool) (rd : ImageSource) (desks : List (Nat × Nat)) (warm : Bool)
    (a : Nat × Nat) : State × Nat × Nat :=
  let p := if a.1 = 0 then s.applyImage wr rd desks warm else (s, a)
  (if p.2.1 = 0 then p.1 else p.1.attemptFail rd p.2, p.2)

/-- The image at an offset of the flash; octets that are not listed are erased. -/
def State.flashAt (s : State) (base : Nat) : ImageSource := fun a n => Tab.getList (fun _ => 0xFF) s.loader.flash (base + a) n

/-- The checks of a flash copy: 10 SOURCE where the flash does not answer or holds 0xFF at MAGIC (R68). -/
def State.checkFlash (s : State) (base : Nat) (bad : List Nat) : Nat × Nat :=
  if !s.loader.present || (s.flashAt base 0 4).all (fun b => b = 0xFF) then (10, 63)
  else s.checkImage (s.flashAt base) bad false

/-- The frames of flash copy `k` that three reads failed. -/
def framesBad (bad : List (Nat × Nat)) (k : Nat) : List Nat := (bad.filter (fun e => decide (e.1 = k))).map (fun e => e.2)

/-- The loader reads the SFDP table in 1S-1S-1S mode and takes the read mode it declares: 8D-8D-8D at 100 MHz under xSPI Profile 1.0,
else 1S-1S-1S with command 0x03 at 50 MHz (R67). -/
def State.selectReadMode (s : State) : State :=
  ({ s with loader := { s.loader with readMode := if s.loader.present && s.loader.profile1 then 1 else 2 } }).emit .flashSfdp

/-- The flash is read from an offset on, in the mode selected. -/
def State.readFlash (s : State) (base : Nat) : State := s.emit (.flashRead (decide (s.loader.readMode = 1)) base)

/-- The second copy is tried, and the loader stops where that fails too (R68). -/
def State.bootSecond (s : State) (wr : State → Nat → Word → State × Bool) (bad : List Nat) (desks : List (Nat × Nat)) (warm : Bool) :
    State :=
  let s := (s.setRf Reg.IMG_LOAD_STATUS 1 2 2).readFlash 0x4000000
  (s.attempt wr (s.flashAt 0x4000000) desks warm (s.checkFlash 0x4000000 bad)).1.loaderIdle

/-- The first copy is tried; where it fails, the second one's turn comes if IMG_CTRL allows (R68). -/
def State.bootPrimary (s : State) (wr : State → Nat → Word → State × Bool) (bad bad2 : List Nat) (desks : List (Nat × Nat))
    (warm : Bool) : State :=
  let s := s.selectReadMode.readFlash 0
  let p := s.attempt wr (s.flashAt 0) desks warm (s.checkFlash 0 bad)
  if p.2.1 = 0 then p.1.loaderIdle
  else if p.1.rb Reg.IMG_CTRL 1 then p.1.bootSecond wr bad2 desks warm
  else p.1.loaderIdle

/-- BOOT_LOAD: the boot under way ends (R67, R68, R446). `bad` names (copy, frame), copy 0 the primary, that three reads failed. -/
def State.bootLoad (s : State) (wr : State → Nat → Word → State × Bool) (bad : List (Nat × Nat)) (desks : List (Nat × Nat)) :
    State :=
  if s.rb Reg.IMG_LOAD_STATUS 0 && s.domOn pdHost && s.domOn pdMem then
    let warm := s.loader.warm
    let s := (s.setRf Reg.IMG_LOAD_STATUS 1 2 1).setRb Reg.IMG_LOAD_STATUS 3 false
    let s := { s with loader := { s.loader with warm := false } }
    s.bootPrimary wr (framesBad bad 0) (framesBad bad 1) desks warm
  else s

/-! ### Host loads and the cache (R69-R71) -/

/-- HBM3 offset and length of the staged image. -/
def State.stageAt (s : State) : Nat := s.pair Reg.IMG_STAGE_LO
def State.stageLen (s : State) : Nat := s.rf Reg.IMG_STAGE_LEN 0 26

/-- The checks of a staged image; one longer than what was staged fails check 2. -/
def State.checkStaged (s : State) (partialOk : Bool) : Nat × Nat :=
  let rd := s.hbmAt s.stageAt
  let h := rd 0 4096
  if checkFormat h && decide (s.stageLen < hdrLength h) then (2, 63) else s.checkImage rd [] partialOk

/-- LOAD (R69). While PD_MEM is off it ends with code 12 (DESIGN CHOICE, assumption 164). -/
def State.imageLoad (s : State) (wr : State → Nat → Word → State × Bool) (desks : List (Nat × Nat)) : State :=
  let refused := !s.rb Reg.IMG_SRC 0 || s.rb Reg.IMG_LOAD_STATUS 3 || !hbmRangeOk s.stageAt s.stageLen
  let s := s.setRf Reg.IMG_LOAD_STATUS 1 2 3
  let done (t : State) : State := t.setRb Reg.IMG_LOAD_CMD 0 false
  if refused then done (s.loadFail 10 63)
  else if !s.domOn pdMem then done (s.loadFail 12 63)
  else
    let t := s.setRb Reg.IMG_LOAD_STATUS 0 true
    done (t.attempt wr (s.hbmAt s.stageAt) desks false (s.checkStaged false)).1.loaderIdle

/-- CACHE (R71). A staged range that overlaps the cache or passes the end of HBM3 ends it with code 10 as it does a LOAD, and while
PD_MEM is off it ends with code 12 (DESIGN CHOICE, assumption 164). -/
def State.imageCache (s : State) : State :=
  let e := s.rf Reg.IMG_LOAD_CMD 4 2
  let s := (s.setRf Reg.IMG_LOAD_STATUS 1 2 3).setRb Reg.IMG_CACHE e false
  let done (t : State) : State := t.setRb Reg.IMG_LOAD_CMD 0 false
  if !hbmRangeOk s.stageAt s.stageLen then done (s.loadFail 10 63)
  else if !s.domOn pdMem then done (s.loadFail 12 63)
  else
    let c := s.checkStaged true
    if c.1 ≠ 0 then done ((s.countNoKey (s.hbmAt s.stageAt) c.1).loadFail c.1 c.2)
    else
      let h := s.hbmRead s.stageAt 4096
      let s := s.hbmWrite (entryAt e) (s.hbmRead s.stageAt (hdrLength h))
      let s := if hdrKind h = 0 then s.floorAuto (hdrVersion h) else s
      let s := { s with cacheSigner := Tab.put (fun _ => 0) s.cacheSigner e (hdrSigner h + 1) }
      done (((s.setRb Reg.IMG_CACHE e true).setRf Reg.IMG_LOAD_STATUS 8 8 0).raise 0 0)

/-- IMG_LOAD_CMD with GO: one operation. -/
def State.loadCommand (s : State) (wr : State → Nat → Word → State × Bool) (desks : List (Nat × Nat)) : State :=
  match s.rf Reg.IMG_LOAD_CMD 1 2 with
  | 1 => s.imageLoad wr desks
  | _ => s.imageCache

/-! ### Classroom commands (R72-R80) -/

/-- The section of classroom `c` in a cache entry: its entry and frames; none where the entry is invalid or lacks it (R80). -/
def State.cached (s : State) (e c : Nat) : Option (List Byte × List Byte) :=
  if !s.rb Reg.IMG_CACHE e then none
  else
    let rd := s.hbmAt (entryAt e)
    let x := secEntry (rd 0 4096) (c + 1)
    if secFrames x = 0 then none else some (x, sectionFrames rd (rd 0 4096) (c + 1))

/-- A classroom command ends: IMG_CLS_STATUS is published (R85). -/
def State.classResult (s : State) (code c : Nat) (host : Bool) : State :=
  let s := (s.setReg Reg.IMG_CLS_STATUS (setFld (setFld (s.reg Reg.IMG_CLS_STATUS) 16 8 code) 24 5 c)).publish Reg.IMG_CLS_STATUS
  if host then s.setRb Reg.IMG_CLS_CMD 0 false else s

/-- A lesson on classroom `c` starts from its initial state. A roll that cover has begun stays with it and commits nothing, and the
classroom needs nothing of it (R73, R74); a lesson that is still covered by another classroom of its span goes on after that roll. -/
def State.lessonRestart (s : State) (c i : Nat) : State :=
  let x := s.lesson i
  let x := { x with state := {}, fresh := true, last := none }
  let forget (b : Begun) : Begun :=
    { b with result := { b.result with state := {} }, run := { b.run with slates := [], board := [] } }
  let free := x.held.isNone && (s.lsnSpan i).all (fun k => decide (k = c) || !s.inCover k)
  (s.setLesson i (if free then { x with begun := none, held := x.begun.map forget } else { x with begun := x.begun.map forget })).restartTag i

/-- Cover for classroom `c` would be refused: four are served, or a served one would have fewer than 16 spares (R357). -/
def State.noCover (s : State) (c : Nat) : Bool :=
  let cover := s.sched.cover ++ [c]
  decide (4 ≤ s.served.length) ||
    (cover.take 4).any (fun d => decide (shareOf (s.sparePool cover) (cover.take 4) d < 16))

/-- A write into classroom `c` has failed: COVERED, or EMPTY where it came from EMPTY; event 1 (R79). -/
def State.rewriteFail (s : State) (c from_ code : Nat) (host : Bool) : State :=
  let s :=
    if from_ = 0 then (s.setClassroom c (s.classroom c).retiredOnly).setReg (Reg.IMG_CLS_STATE c) 0
    else s.setClsState c 3
  let s := s.setClassroom c { s.classroom c with owed := false }
  ((s.showCover).classResult code c host).raise 1 c

/-- Step 8 of R72, with desks retired after hand-back: entry 0, the command's result with event 2, and COVERED where a desk was
retired, with the repair that AUTO_REPAIR asks for (R78). -/
def State.rewriteEnd (s : State) (c : Nat) (e fs : List Byte) (host lost : Bool) : State :=
  let s := (((s.putEntry c e fs).showDecisions).classResult 0 c host).raise 2 c
  if lost then (s.setClsState c 3).setClassroom c { s.classroom c with owed := s.rb Reg.IMG_CTRL 0 } else s

/-- Steps 6-8 of R72: lesson state kept or started afresh, hand-back, SERVICE, event 2. Desks in `late`, with their causes, are retired
after hand-back: cover is entered again at once (R78). -/
def State.rewriteDone (s : State) (c from_ : Nat) (e fs : List Byte) (keep host : Bool) (late : List (Nat × Nat)) : State :=
  let m := if keep then (s.classroom c).kept else initialMemo (planOf e fs)
  let s := if keep then s else (s.lessonsOn c).foldl (fun s i => s.lessonRestart c i) s
  let s := s.setClassroom c { s.classroom c with owed := false, banks := [], stalled := [], ue := [], runs := [], flight := [] }
  let s := (s.setRf (Reg.FAB_STATUS c) 8 3 0).inService c e fs m
  let s := if from_ = 0 then s.showCover else (s.coverExit c).showCover
  let lost := late.filter (fun d => decide (s.desk c d.1 = 1))
  let s := lost.foldl (fun s d => s.deskLost c d.1 d.2) s
  let s := if lost.isEmpty then s else s.coverEnter c
  s.rewriteEnd c e fs host !lost.isEmpty

/-- What a write into a classroom meets: desks that fail self-check, ECC errors in the cache, and desks that are retired
after hand-back with their causes. -/
structure Mishap where
  bad : List Nat := []
  ecc : EccMet := {}
  late : List (Nat × Nat) := []
deriving DecidableEq, Repr

/-- Classroom `c` is rewritten with section `e`, `fs` (R72, R75, R76). A write into an EMPTY classroom has no hand-back: a desk retired
at any point of it is mapped onto a spare (R78). -/
def State.rewrite (s : State) (c : Nat) (e fs : List Byte) (repair : Bool) (x : Mishap) (host : Bool) : State :=
  let from_ := s.clsState c
  let old := (s.classroom c).plan
  let s := (if from_ = 1 then s.coverEnter c else s).setClsState c 2
  if x.ecc.ue.isSome then s.rewriteFail c from_ 15 host
  else if sha256 fs ≠ secDigest e then s.rewriteFail c from_ 8 host
  else
    let p := s.configureClass c (if from_ = 0 then x.bad ++ x.late.map (fun d => d.1) else x.bad)
    if !p.2 then p.1.rewriteFail c from_ 14 host
    else
      let keep := repair || (secPreserve e && match old with
        | some q => decide (q.stateTag = secStateTag e)
        | none => false)
      p.1.rewriteDone c from_ e fs keep host (if from_ = 0 then [] else x.late)

/-- IMG_VERSION after classroom `c` has been written from entry `n`: the version of a partial image where it is above that of the
running syllabus (R84). -/
def State.versionFollow (s : State) (n : Nat) : State :=
  let h := s.hbmRead (entryAt n) 4096
  if n ≠ 0 && hdrKind h = 1 then s.setReg Reg.IMG_VERSION (word (max s.loader.version (hdrVersion h))) else s

/-- An uncorrectable error met in the cache entry at `a` is recorded as GLB_MEM_STATUS says (R58). -/
def State.cacheUe (s : State) (a : Nat) (ue : Option Nat) : State :=
  match ue with
  | some k => s.memUe (a + k)
  | none => s

/-- UPDATE or REPAIR of classroom `c` from entry `n`; a refusal leaves the classroom untouched (R79, R80). -/
def State.classRewrite (s : State) (c n : Nat) (repair : Bool) (x : Mishap) (host : Bool) : State :=
  let s := s.unready Reg.IMG_CLS_STATUS
  if !s.domOn (classDomain c) then s.classResult 12 c host
  else if repair && s.clsState c = 0 then s.classResult 16 c host
  else
    match s.cached n c with
    | none => s.classResult 17 c host
    | some (e, fs) =>
      if s.linkOff c (planOf e fs) then s.classResult 12 c host
      else if s.clsState c = 1 && s.noCover c then s.classResult 13 c host
      else
        let t := ((x.ecc.ce.foldl (fun s k => s.memCe (entryAt n + k)) s).cacheUe (entryAt n) x.ecc.ue).rewrite c e fs repair x host
        if t.rf Reg.IMG_CLS_STATUS 16 8 = 0 then t.versionFollow n else t

/-- UNLOAD: it completes once no lesson of the classroom has a roll begun (R76). -/
def State.classUnload (s : State) (c : Nat) : State :=
  let s := s.unready Reg.IMG_CLS_STATUS
  if !s.domOn (classDomain c) then s.classResult 12 c true
  else if s.clsState c = 0 then s.classResult 16 c true
  else ({ s with loader := { s.loader with unloading := some c } }).unloadFinish

/-- IMG_CLS_CMD with GO: one command. -/
def State.classCommand (s : State) (x : Mishap) : State :=
  let w := s.reg Reg.IMG_CLS_CMD
  let c := fld w 8 5
  match fld w 1 2 with
  | 1 => s.classRewrite c (fld w 16 2) false x true
  | 2 => s.classRewrite c 0 true x true
  | _ => s.classUnload c

/-- AUTO_REPAIR (R77, R78): the loader repairs a COVERED classroom that it owes a repair, when no command runs. -/
def State.autoRepair (s : State) (c : Nat) (x : Mishap) : State :=
  if s.rb Reg.IMG_CTRL 0 && (s.classroom c).owed && s.clsState c = 3 && s.loader.unloading.isNone && s.domOn pdHost then
    s.classRewrite c 0 true x false
  else s

/-! ### Register writes (R84) -/

/-- Values that the IMG tables refuse. -/
def imgRefuses (s : State) (off : Nat) (v : Word) : Bool :=
  if off = Reg.IMG_STAGE_LEN then decide (50331648 < fld v 0 26)
  else if off = Reg.IMG_LOAD_CMD then
    bit v 0 && (s.rb Reg.IMG_LOAD_STATUS 0 || fld v 1 2 = 0 || fld v 1 2 = 3) || (fld v 1 2 = 2 && fld v 4 2 = 0)
  else if off = Reg.IMG_CLS_CMD then bit v 0 && (s.loader.unloading.isSome || fld v 1 2 = 0)
  else false

/-- What a write of an IMG register does beside its plain fields. `wr` performs the boot register list; `desks`, `ecc` and `late` are
what the written classrooms meet. -/
def State.imgHook (s : State) (off : Nat) (wr : State → Nat → Word → State × Bool) (desks : List (Nat × Nat)) (ecc : EccMet)
    (late : List (Nat × Nat)) : State :=
  if off = Reg.IMG_LOAD_CMD then (if s.rb off 0 then s.loadCommand wr desks else s)
  else if off = Reg.IMG_CLS_CMD then
    (if s.rb off 0 then
      s.classCommand { bad := (desks.filter (fun e => decide (e.1 = s.rf off 8 5))).map (fun e => e.2), ecc := ecc, late := late }
    else s)
  else s

end Sys2Proof.Machine
end

