-- ==== Sys2Proof/Machine/Phasor.lean ====
section
/-! DEFINITION. Local synchrophasor estimation (R290-R306): windows, phasors, frequency and ROCOF, status, and the frames of the
local seats. -/

namespace Sys2Proof.Machine

def State.phsOf (s : State) (c : Nat) : PhsCirc := Tab.get (fun _ => {}) s.phs c
def State.setPhs (s : State) (c : Nat) (x : PhsCirc) : State := { s with phs := Tab.put (fun _ => {}) s.phs c x }

/-- f0 in Hz (R291). -/
def State.phsF0 (s : State) : Nat := if s.rb Reg.PHS_CTRL 0 then 60 else 50

/-- The reporting rate of circuit `c`, its class (M when true), USE and FSRC. -/
def State.phsR (s : State) (c : Nat) : Nat := rateOf (s.rf (Reg.PHS_CIR_CTRL c) 2 4)
def State.phsM (s : State) (c : Nat) : Bool := s.rb (Reg.PHS_CIR_CTRL c) 1
def State.phsUse (s : State) (c : Nat) : Nat := s.rf (Reg.PHS_CIR_CTRL c) 16 8

/-- The channels that a frequency source draws on (R296). -/
def srcChans (fsrc : Nat) : List Nat :=
  match fsrc with
  | 0 => [0, 1, 2]
  | 1 => [0]
  | 2 => [1]
  | 3 => [2]
  | _ => [4, 5, 6]

/-- δ in ns. -/
def State.phsDelta (s : State) (c : Nat) : Nat := s.rf (Reg.PHS_CIR_DELTA c) 0 8 * 50000

/-! ### Windows (R293, R294) -/

/-- T_h as a fraction of a second: numerator and denominator. -/
def State.phsHalf (s : State) (c : Nat) : Nat × Nat := if s.phsM c then (4, s.phsR c) else (1, s.phsF0)

/-- A number of nanoseconds as binary64 seconds. -/
def secOfNs (t : Int) : F64 := F64.mul (F64.ofInt t) (F64.ratio 1 1000000000)

/-- The weight of an offset of `tau` ns (R293). -/
def State.phsWeight (s : State) (c : Nat) (tau : Int) : F64 :=
  let t := secOfNs tau
  let f0 := s.phsF0
  if s.phsM c then
    let r := s.phsR c
    let fc := if 3 * r ≤ 4 * f0 then F64.ratio (3 * r) 10 else F64.ratio (4 * f0) 10
    let u := F64.mul (F64.mul (F64.mul F64.two F64.pi) fc) t
    let sinc := if tau = 0 then F64.one else F64.div (F64.sin u) u
    let th := F64.ratio 4 r
    F64.mul sinc (F64.add (F64.ratio 54 100) (F64.mul (F64.ratio 46 100) (F64.cos (F64.div (F64.mul F64.pi t) th))))
  else F64.sub F64.one (F64.mul (F64.abs t) (F64.ofInt f0))

/-- The window positions at time `t`: offsets in ns and stamps of the multiples of 50 µs within T_h, ascending. -/
def State.phsWindow (s : State) (c : Nat) (t : Stamp) : List (Int × Stamp) :=
  let h := s.phsHalf c
  let ns : Int := stampNs t
  let reach : Nat := h.1 * 1000000000 / h.2 / 50000 + 2
  let mid : Int := ns / 50000
  (List.range (2 * reach + 1)).filterMap (fun i =>
    let j : Int := mid + i - reach
    let tau := j * 50000 - ns
    if tau.natAbs * h.2 < h.1 * 1000000000 then some (tau, stampAdd (mkStamp (stampSec t) 0) (j * 50000 * (stampNsUnit : Nat)))
    else none)

/-- The phasor of channel `ch` at `t`, with divisor for offset `df` (R294); a position without a sample contributes 0. -/
def State.phasorOf (s : State) (c ch : Nat) (t : Stamp) (df : F64) : C64 :=
  let f0 := s.phsF0
  let w := s.phsWindow c t
  let wdf := F64.mul (F64.mul F64.two F64.pi) df
  let cdiv := w.foldl (fun a e => F64.add a (F64.mul (s.phsWeight c e.1) (F64.cos (F64.mul wdf (secOfNs e.1))))) (F64.ofInt 0)
  let sum := w.foldl (fun (a : C64) e =>
    match s.sampleAt (8 * c + ch) e.2 with
    | none => a
    | some y =>
      let v := F64.mul (s.phsWeight c e.1) (F64.ofF32 (s.engValue (8 * c + ch) y))
      let th := thetaAt f0 (stampNs e.2)
      a.add ⟨F64.mul v (F64.cos th), F64.neg (F64.mul v (F64.sin th))⟩) ⟨F64.ofInt 0, F64.ofInt 0⟩
  C64.scale (F64.div F64.sqrt2 cdiv) sum

/-- The flags of a channel's samples in the window at `t`, with 16 for a gap. -/
def State.windowBits (s : State) (c ch : Nat) (t : Stamp) : Nat :=
  (s.phsWindow c t).foldl (fun a e =>
    match s.sampleAt (8 * c + ch) e.2 with
    | none => a ||| 16
    | some y => a ||| y.flags) 0

/-! ### Symmetrical components (R295) -/

/-- exp(i 2π/3) and its square. -/
def rotA : C64 :=
  let x := F64.div (F64.mul F64.two F64.pi) (F64.ofInt 3)
  ⟨F64.cos x, F64.sin x⟩
def rotA2 : C64 := rotA.mul rotA

/-- (x + p y + q z) / 3. -/
def component (x y z p q : C64) : C64 :=
  let u := (x.add (p.mul y)).add (q.mul z)
  ⟨F64.div u.re (F64.ofInt 3), F64.div u.im (F64.ofInt 3)⟩

def unity : C64 := ⟨F64.one, F64.ofInt 0⟩

/-- Positive, negative and zero sequence. -/
def seq1 (x y z : C64) : C64 := component x y z rotA rotA2
def seq2 (x y z : C64) : C64 := component x y z rotA2 rotA
def seq0 (x y z : C64) : C64 := component x y z unity unity

/-- The phasor of the frequency source at `t`. -/
def State.sourceAt (s : State) (c fsrc : Nat) (t : Stamp) (df : F64) : C64 :=
  let x := fun (k : Nat) => s.phasorOf c k t df
  match fsrc with
  | 0 => seq1 (x 0) (x 1) (x 2)
  | 4 => seq1 (x 4) (x 5) (x 6)
  | k => x (k - 1)

/-- The 14 phasors of a frame; none where a channel of it is not in USE. -/
def State.phasors (s : State) (c : Nat) (t : Stamp) (df : F64) : List (Option C64) :=
  let use := s.phsUse c
  let x := (List.range 8).map (fun k => if use.testBit k then some (s.phasorOf c k t df) else none)
  let three := fun (f : C64 → C64 → C64 → C64) (i : Nat) =>
    match x.getD i none, x.getD (i + 1) none, x.getD (i + 2) none with
    | some a, some b, some d => some (f a b d)
    | _, _, _ => none
  x ++ ([(seq1, 0), (seq2, 0), (seq0, 0), (seq1, 4), (seq2, 4), (seq0, 4)] :
    List ((C64 → C64 → C64 → C64) × Nat)).map (fun e => three e.1 e.2)

/-! ### Frequency and ROCOF (R296) -/

/-- An angle brought into (−π, π]. -/
def wrapPi (a : F64) : F64 :=
  let two := F64.mul F64.two F64.pi
  if F64.lt F64.pi a then F64.sub a two else if F64.le a (F64.neg F64.pi) then F64.add a two else a

/-- (freq, rocof) of circuit `c` at `t`. -/
def State.freqRocof (s : State) (c fsrc : Nat) (t : Stamp) (df : F64) : F64 × F64 :=
  let del := s.phsDelta c
  let a := fun (d : Int) => (s.sourceAt c fsrc (stampAdd t (d * (stampNsUnit : Nat))) df).arg
  let a0 := a 0
  let d0 := wrapPi (F64.sub a0 (a (-(del : Int))))
  let d1 := wrapPi (F64.sub (a del) a0)
  let sec := secOfNs del
  (F64.add (F64.ofInt s.phsF0) (F64.div (F64.add d0 d1) (F64.mul (F64.mul (F64.ofInt 4) F64.pi) sec)),
    F64.div (F64.sub d1 d0) (F64.mul (F64.mul F64.two F64.pi) (F64.mul sec sec)))

/-! ### Latency (R298) -/

/-- D6 in stamp units: the longest tap-6 delay of the channels in USE. -/
def State.tap6Delay (s : State) (c : Nat) : Nat :=
  let gd := (List.range 8).foldl (fun a k =>
    let ch := 8 * c + k
    if (s.phsUse c).testBit k && s.firEn ch then max a (firGd (s.reg (Reg.FLT_CH_FIR ch)) (s.firBank ch)) else a) 0
  2 * (s.osr - 1) * s.modEdge + (928125 + gd * 50000) * stampNsUnit

/-- From an instant to the arrival of the last sample its windows need, in stamp units. -/
def State.phsReach (s : State) (c : Nat) : Nat :=
  let h := s.phsHalf c
  s.tap6Delay c + s.phsDelta c * stampNsUnit + (h.1 * stampSecUnit + h.2 - 1) / h.2

/-- T_lat in µs, rounded up. -/
def State.phsLat (s : State) (c : Nat) : Nat := (s.phsReach c + 155000 * stampNsUnit + 1000 * stampNsUnit - 1) / (1000 * stampNsUnit)

/-! ### Status and frame (R300-R302) -/

/-- STAT[5:4]. -/
def State.unlockedCode (s : State) : Nat :=
  let n := s.acqTb
  let st := s.tbState n
  if st = 3 then 0
  else if st < 3 then 3
  else
    let d := s.now - (s.tb n).leftAt
    let sec := 1000 * fsPerMs
    if d < 10 * sec then 0 else if d < 100 * sec then 1 else if d ≤ 1000 * sec then 2 else 3

/-- What an instant of circuit `c` gives beside its phasors. -/
structure Estimate where
  usable : Bool
  freq : F64
  rocof : F64
  stat : Nat
  dig : Nat
  out : Nat

/-- Frequency, ROCOF, range state and status of circuit `c` at `t`. `out` is 0 in range, 4 by frequency, 5 by ROCOF. -/
def State.estimate (s : State) (c : Nat) (t : Stamp) (df : F64) : Estimate :=
  let fsrc := s.rf (Reg.PHS_CIR_CTRL c) 8 3
  let del : Int := s.phsDelta c
  let times := [stampAdd t (-del * (stampNsUnit : Nat)), t, stampAdd t (del * (stampNsUnit : Nat))]
  let bits := (List.range 8).map (fun k => times.foldl (fun a u => a ||| s.windowBits c k u) 0)
  let bad := fun (k : Nat) => decide (bits.getD k 0 / 2 % 4 ≠ 0)
  let soft := fun (k : Nat) => decide (bits.getD k 0 % 2 ≠ 0) || decide (bits.getD k 0 / 8 % 4 ≠ 0)
  let mag := (s.sourceAt c fsrc t df).mag
  let usable := !(F64.lt mag (F64.ofF32 (s.reg (Reg.PHS_CIR_MINMAG c)))) && (srcChans fsrc).all (fun k => !bad k)
  let fr := s.freqRocof c fsrc t df
  let dev := F64.abs (F64.sub fr.1 (F64.ofInt s.phsF0))
  let out := if usable then
      (if F64.lt (F64.ofF32 (s.reg (Reg.PHS_CIR_FRANGE c))) dev then 4
       else if F64.lt (F64.ofF32 (s.reg (Reg.PHS_CIR_RLIM c))) (F64.abs fr.2) then 5 else 0)
    else if s.rb (Reg.PHS_CIR_STATUS c) 1 then s.rf (Reg.PHS_CIR_OUT_STAT c) 0 4
    else 0
  let locked := decide (s.tbState s.acqTb = 3)
  let anyBad := (List.range 8).any (fun k => (s.phsUse c).testBit k && bad k)
  let stat := (if s.rb (Reg.PHS_CIR_CTRL c) 11 then 0x8000 else if anyBad then 0xC000 else 0) +
    (if locked then 0 else 0x2000) + (if out = 0 then 0 else 0x800) + 0x400 * (s.rb (Reg.PHS_CIR_CTRL c) 12).toNat +
    0x200 * ((List.range 8).any soft).toNat + 64 * (if locked then s.rf Reg.PHS_CTRL 8 3 else 7) + 16 * s.unlockedCode + out
  let dig := (List.range 8).foldl (fun a k => a + 2 ^ k * (bad k).toNat + 2 ^ (8 + k) * (soft k).toNat) 0
  { usable := usable, freq := fr.1, rocof := fr.2, stat := stat, dig := dig, out := out }

/-- The frame record of circuit `c` (R302). -/
def localRecord (c : Nat) (e : Estimate) (freq dfreq : Word) (phs : List (Word × Word)) (t : Stamp) : List Byte :=
  leBytes 2 (localCode c) ++ leBytes 2 e.stat ++ [14, 0, 1, 0] ++ leBytes 4 (stampNs t) ++ leBytes 4 (stampSec t) ++
    List.replicate 16 0 ++ leBytes 4 freq.toNat ++ leBytes 4 dfreq.toNat ++ leBytes 4 f32NaN.toNat ++ leBytes 4 f32NaN.toNat ++
    phs.flatMap (fun v => leBytes 4 v.1.toNat ++ leBytes 4 v.2.toNat) ++ leBytes 2 e.dig

/-- The range state follows an instant with a usable source (R301). -/
def State.rangeFollow (s : State) (c : Nat) (e : Estimate) : State :=
  if !e.usable then s
  else
    let was := s.rb (Reg.PHS_CIR_STATUS c) 1
    let s := (s.setRb (Reg.PHS_CIR_STATUS c) 1 (e.out ≠ 0)).setRb Reg.PHS_RANGE c (e.out ≠ 0)
    if e.out ≠ 0 && !was then
      let s := s.setRb Reg.PHS_STATUS 0 true
      if s.rb (Reg.PHS_CIR_CTRL c) 13 then s.raise 43 c else s
    else s

/-- The compensation offset for the next instant: freq − f0, clipped to ±FRANGE. -/
def State.nextDf (s : State) (c : Nat) (e : Estimate) (df : F64) : F64 :=
  if e.usable then
    let d := F64.sub e.freq (F64.ofInt s.phsF0)
    let lim := F64.ofF32 (s.reg (Reg.PHS_CIR_FRANGE c))
    if F64.lt lim d then lim else if F64.lt d (F64.neg lim) then F64.neg lim else d
  else df

/-- The frame of an instant is handed to local seat Lc, and the result group published (R302). -/
def State.phsHand (s : State) (c : Nat) (i : Instant) (e : Estimate) (phs : List (Word × Word)) : State :=
  let freq := if e.usable then F64.toF32 e.freq else f32NaN
  let dfreq := if e.usable then F64.toF32 e.rocof else f32NaN
  let t := s.tbNow s.acqTb
  let rc := localRecord c e freq dfreq phs t
  let code := localCode c
  let s := if s.domOn pdRcl && (s.seat code).isSome then
      (s.seatFrame { code := code, sec := i.sec, ns := instNs (s.phsR c) i.k, record := rc } (stampNs t)).bumpWrap (Reg.PHS_CIR_FRAMES c)
    else (s.bump (Reg.PHS_CIR_NOSEAT c)).setRb Reg.PHS_STATUS 1 true
  let s := (s.setRb (Reg.PHS_CIR_STATUS c) 2 e.usable).setRb (Reg.PHS_CIR_STATUS c) 3 (e.stat / 512 % 2 = 1)
  let s := (s.setReg (Reg.PHS_CIR_OUT_SEQ32 c) (word (i.seq32 (s.phsR c)))).setReg (Reg.PHS_CIR_OUT_FREQ c) freq
  ((s.setReg (Reg.PHS_CIR_OUT_DFREQ c) dfreq).setReg (Reg.PHS_CIR_OUT_STAT c) (word (e.stat + 65536 * e.dig))).publish
    (Reg.PHS_CIR_OUT_STATUS c)

/-- PHASOR_ESTIMATE: the next instant of circuit `c`, once the last sample its windows need has arrived (R298, R302, R303). -/
def State.phasorEstimate (s : State) (c : Nat) : State :=
  let x := s.phsOf c
  if s.domOn pdAcq && s.rb (Reg.PHS_CIR_CTRL c) 0 && s.acqEn c then
    let r := s.phsR c
    let i := firstInstant r (max x.after x.last) true
    let t := i.time r
    if t + s.phsReach c ≤ s.tbNow s.acqTb then
      let e := s.estimate c t x.df
      let phs := (s.phasors c t x.df).map (fun p =>
        match p with
        | some z => (F64.toF32 z.re, F64.toF32 z.im)
        | none => (f32NaN, f32NaN))
      let mags := (s.phasors c t x.df).map (fun p =>
        match p with
        | some z => F64.toF32 z.mag
        | none => f32NaN)
      let s := s.setPhs c { x with last := t, df := s.nextDf c e x.df }
      let s := (s.rangeFollow c e).phsHand c i e phs
      let freq := s.reg (Reg.PHS_CIR_OUT_FREQ c)
      let dfreq := s.reg (Reg.PHS_CIR_OUT_DFREQ c)
      s.trigsPhasor c t (fun k => if k = 14 then freq else if k = 15 then dfreq else mags.getD k f32NaN)
    else s
  else s

/-! ### Registers (R306) -/

/-- Values that the PHS tables refuse; `en` says whether the write has EN among its bits. -/
def phsRefuses (s : State) (off : Nat) (v : Word) (en : Bool) : Bool :=
  if off = Reg.PHS_CTRL then
    bit v 0 != s.rb off 0 && (List.range 12).any (fun c => s.rb (Reg.PHS_CIR_CTRL c) 0)
  else if 0x141000 ≤ off && off < 0x141300 then
    let c := (off - 0x141000) / 0x40
    let on := s.rb (Reg.PHS_CIR_CTRL c) 0
    match off % 0x40 with
    | 0x00 =>
      let rate := fld v 2 4
      decide (4 < fld v 8 3) || (on && decide (v &&& 0x00FF073E ≠ s.reg off &&& 0x00FF073E)) ||
        (en && bit v 0 && (!s.acqEn c || decide (12 ≤ rate) || (bit v 1 && decide (2 * s.phsF0 < rateOf rate)) ||
          decide (fld v 16 8 = 0) || (srcChans (fld v 8 3)).any (fun k => !(fld v 16 8).testBit k)))
    | 0x04 => decide (fld v 0 8 < 5) || decide (200 < fld v 0 8) || (on && decide (fld v 0 8 ≠ s.rf off 0 8))
    | 0x08 => !f32Positive v
    | 0x0C => !f32Positive v
    | 0x10 => !f32Positive v
    | _ => false
  else false

/-- What a write of a PHS register does beside its plain fields: enabling starts after now and after the last instant given, with no
offset (R296, R303). -/
def State.phsHook (s : State) (off : Nat) (old : Word) : State :=
  if 0x141000 ≤ off && off < 0x141300 && off % 0x40 = 0 then
    let c := (off - 0x141000) / 0x40
    if s.rb off 0 && !bit old 0 then s.setPhs c { s.phsOf c with after := s.tbNow s.acqTb, df := 0 } else s
  else s

/-- RUN and LAT as they stand (R298, R306). -/
def State.phsView (s : State) (off : Nat) : Word :=
  if 0x141000 ≤ off && off < 0x141300 then
    let c := (off - 0x141000) / 0x40
    let on := s.rb (Reg.PHS_CIR_CTRL c) 0
    match off % 0x40 with
    | 0x14 => setBit (s.reg off) 0 (on && s.acqEn c)
    | 0x18 => if on then word (s.phsLat c % 2 ^ 20) else 0
    | _ => s.reg off
  else s.reg off

end Sys2Proof.Machine
end

