-- ==== Sys2Proof/Machine/PowerCtl.lean ====
section
/-! DEFINITION. The power controller, the completion governor, the resets and start-up (R440-R455, R472, R484). -/

namespace Sys2Proof.Machine

/-! ### What a switched domain holds (R440, R442) -/

/-- The units of PD_HOST: the loader, and the MSI-X table of the endpoint. -/
def State.resetHost (s : State) : State :=
  let l := s.loader
  { s.resetRegs 0x30000 0x40000 with
    loader := { flash := l.flash, present := l.present, profile1 := l.profile1 }, cacheSigner := [], msix := [] }

/-- PD_MEM: the HBM3 stacks, and with them the image cache, whose entries are no longer valid (DESIGN CHOICE, assumption 163). -/
def State.resetMem (s : State) : State :=
  let s := (s.setRb Reg.GLB_MEM_STATUS 0 false).setRb Reg.GLB_MEM_STATUS 1 false
  { s.setRf Reg.IMG_CACHE 0 4 0 with hbm := [], cacheSigner := [] }

/-- PD_NETA (`q` = 0) or PD_NETB (1): two MACs and a PRP pair, with the ring work those MACs had in progress. -/
def State.resetNet (s : State) (q : Nat) : State :=
  let s := s.resetRegs (0x60000 + 0x20000 * q) (0x80000 + 0x20000 * q)
  let s := s.resetRegs (0xB0100 + 0x80 * q) (0xB0180 + 0x80 * q)
  let s := { s with
    rxq := s.rxq.clear (2 * q) (2 * q + 2), txq := s.txq.clear (2 * q) (2 * q + 2)
    segJobs := s.segJobs.clear (2 * q) (2 * q + 2), prp := s.prp.clear q (q + 1) }
  (s.setRingX (2 * q + 2) { s.ringX (2 * q + 2) with wip := 0 }).setRingX (2 * q + 3) { s.ringX (2 * q + 3) with wip := 0 }

/-- PD_FIELD: the T1S unit. -/
def State.resetField (s : State) : State :=
  let s := { s.resetRegs 0xA0000 0xB0000 with segments := [], t1sTaken := [], t1sNum := 0 }
  s.setRingX 10 { s.ringX 10 with wip := 0 }

/-- PD_ACQ: ACQ, FLT, PHS, NRG, TRG and their table regions. -/
def State.resetAcq (s : State) : State :=
  let s := s.resetRegs 0x120000 0x170000
  let s := { s with
    tables := s.tables.clear 0x600000 0xC00000, trigs := [], marks := [], recorder := {}, lanes := [], chans := [], modClks := []
    fade := none, phs := [], nrg := [], acc := [], nrgCmd := none, nrgInt := none, pulses := [], evtIn := [] }
  s.setRingX 16 { s.ringX 16 with wip := 0 }

/-- PD_RCL: ITK and RCL with the seat descriptors. -/
def State.resetRcl (s : State) : State :=
  let s := s.resetRegs 0xE0000 0x100000
  { s with
    tables := s.tables.clear 0 0x400C00, seats := [], seated := [], forms := [], tcp := [], slacks := [] }

/-- Classroom `c` loses its domain: registers, banks, slates, chalkboard, plan and the rolls begun on it; RETIRED lasts (R226, R442).
What other units hold stays as it is (R4, R229): the plan and the state that cover has of it, the registers of the loader and the
scheduler, and the begun roll that keeps the decisions of a disabled instance standing (R233). -/
def State.resetClassroom (s : State) (c : Nat) : State :=
  let s := (List.range 64).foldl (fun s i =>
    let x := s.lesson i
    match x.begun with
    | some b =>
      if (s.lsnSpan i).contains c && !b.cover && s.rb (Reg.LSN_CTRL i) 0 && s.rb Reg.ANA_CTRL 0 then
        s.setLesson i { x with begun := none }
      else s
    | none => s) s
  let s := s.resetRegs (0x100000 + 0x200 * c) (0x100200 + 0x200 * c)
  let x := s.classroom c
  let s := s.setClassroom c
    (if s.inCover c then { x.retiredOnly with plan := x.plan, kept := x.kept, owed := x.owed } else x.retiredOnly)
  (s.desksIn c 3).foldl (fun s p => s.setRb (Reg.FAB_RETIRED c (p / 32)) (p % 32) true) s

/-- PD_FABW (`q` = 0) or PD_FABE (1): sixteen classrooms. -/
def State.resetFab (s : State) (q : Nat) : State :=
  let s := (List.range 16).foldl (fun s k => s.resetClassroom (16 * q + k)) s
  if s.domOn pdSch then s.showCover.absenceFollow else s

/-- The RNG registers of PD_SCH; `keep` spares the six rings that the recess ring engine holds, with their bits of RNG_ERRORS (R444). -/
def State.resetRings (s : State) (keep : Bool) : State :=
  if keep then
    let s := (s.resetRegs 0xC0000 0xC1000).setReg Reg.RNG_ERRORS (s.reg Reg.RNG_ERRORS &&& 0x3000CC)
    (List.range 32).foldl (fun s r =>
      if recessRing r then s
      else { s.resetRegs (0xC1000 + 0x40 * r) (0xC1040 + 0x40 * r) with rings := s.rings.erase r }) s
  else { s.resetRegs 0xC0000 0xD0000 with rings := [] }

/-- PD_SCH: RNG, SCH, ANA and RED. The level at ILK_IN is a pin, not a register's reset value. -/
def State.resetSch (s : State) (keep : Bool) : State :=
  let ilk := s.ilkIn
  let s := s.resetRings keep
  let s := (((s.resetRegs 0xD0000 0xE0000).resetRegs 0x110000 0x120000).resetRegs 0x180000 0x190000).setRb Reg.RED_STATUS 3 ilk
  { s with
    sched := {}, lessons := [], alarms := {}, answers := {}, pass := { ilkSince := s.pass.ilkSince }
    slacks := [] }

/-- PD_KEY: the KEY registers that PD_AON does not keep, and every slot without RETAIN (R440). -/
def State.resetKey (s : State) : State :=
  let s := ((s.resetRegs 0x170000 0x17000C).resetRegs 0x170010 0x170014).resetRegs 0x170020 0x170028
  let s := s.resetRegs 0x17002C 0x180000
  { s with keys := { s.keys with
      slots := s.keys.slots.filter (fun e => e.2.retain), drbg := { draws := s.keys.drbg.draws } } }

/-- PD_LINK: FJL; the decision bits that it drives read 0 and show as absent (R435). -/
def State.resetLinks (s : State) : State :=
  ({ s.resetRegs 0x190000 0x1A0000 with links := [], alarms := { s.alarms with shared := [] } }).showDecisions

/-- The units of domain `d` take their Reset values; work in progress is abandoned (R442). -/
def State.domReset (s : State) (d : Nat) (keep : Bool) : State :=
  match d with
  | 0 => s.resetHost
  | 1 => s.resetMem
  | 2 => s.resetNet 0
  | 3 => s.resetNet 1
  | 4 => s.resetField
  | 5 => s.resetAcq
  | 6 => s.resetRcl
  | 7 => s.resetFab 0
  | 8 => s.resetFab 1
  | 9 => s.resetSch keep
  | 10 => s.resetKey
  | 11 => s.resetLinks
  | _ => s

/-- Domain `d` is isolated and goes off (R442). -/
def State.domGoesOff (s : State) (keep : Bool) (d : Nat) : State :=
  (s.setRb Reg.PWR_DOMAIN_STATUS d false).domReset d keep

/-- Domain `d` comes on with its units at their Reset values; PD_MEM with its stacks trained, PD_KEY with the start of the key
store, PD_SCH with the values of the running syllabus (R8, R389, R441, R442, R452). -/
def State.domComesOn (s : State) (keep : Bool) (d : Nat) : State :=
  let s := (s.domReset d keep).setRb Reg.PWR_DOMAIN_STATUS d true
  if d = pdMem then (s.setRb Reg.GLB_MEM_STATUS 0 true).setRb Reg.GLB_MEM_STATUS 1 true
  else if d = pdKey then s.keyStart
  else if d = pdSch && s.rb Reg.IMG_LOAD_STATUS 3 then s.imageValues.showDecisions
  else s

/-- The switched domains in the order of their prerequisites (R440). -/
def domOrder : List Nat := [0, 1, 2, 3, 10, 9, 4, 5, 6, 7, 8, 11]

/-- Domains of a mask that are off come on, in prerequisite order. -/
def State.domainsOn (s : State) (mask : Nat) (keep : Bool) : State :=
  domOrder.foldl (fun s d => if mask.testBit d && !s.domOn d then s.domComesOn keep d else s) s

/-- Domains outside a mask that are on go off, in the reverse order. -/
def State.domainsOff (s : State) (mask : Nat) (keep : Bool) : State :=
  domOrder.reverse.foldl (fun s d => if !mask.testBit d && s.domOn d then s.domGoesOff keep d else s) s

/-- PWR_DOMAIN_EN.EN. -/
def State.domainEn (s : State) : Nat := s.rf Reg.PWR_DOMAIN_EN 0 12

/-- A mask that leaves a domain on without a prerequisite (R440). -/
def prerequisiteMissing (m : Nat) : Bool :=
  let needs (d : Nat) (ps : List Nat) : Bool := m.testBit d && ps.any (fun p => !m.testBit p)
  needs 4 [9] || needs 5 [9] || needs 6 [1, 9] || needs 7 [1, 9] || needs 8 [1, 9] || needs 9 [1] || needs 11 [9, 6]

/-- PWR_DOMAIN_EN is written (R441): the domains it clears are isolated at once, and a change is in progress until
PWR_DOMAIN_DONE. Outside RUN it sets the domains that RUN will have. -/
def State.domainWrite (s : State) : State :=
  if s.pwrState = 0 then (s.domainsOff s.domainEn false).setRb Reg.PWR_DOMAIN_STATUS 16 true else s

/-- F_DOM and event 58. -/
def State.domainEvent (s : State) : State := s.flagRaise Reg.PWR_STATUS 8 58 0

/-- PWR_DOMAIN_DONE: every change of the write is complete (R441). -/
def State.domainDone (s : State) : State :=
  if s.rb Reg.PWR_DOMAIN_STATUS 16 && decide (s.pwrState = 0) then
    ((s.domainsOn s.domainEn false).setRb Reg.PWR_DOMAIN_STATUS 16 false).domainEvent
  else s

/-! ### The completion governor (R22, R23, R447-R449) -/

/-- PWR_GOV_STATUS.STATE: 0 OFF, 1 TRACK, 2 FAULT. -/
def State.govState (s : State) : Nat := s.rf Reg.PWR_GOV_STATUS 0 2

/-- VCORE as last requested or read, and the limits, in mV. -/
def State.vcore (s : State) : Nat := s.rf Reg.PWR_GOV_VCORE 0 10
def State.vMin (s : State) : Nat := s.rf Reg.PWR_GOV_LIMIT 0 10
def State.vMax (s : State) : Nat := s.rf Reg.PWR_GOV_LIMIT 16 10

/-- The voltage a request asks for. -/
def GovAsk.mv : GovAsk → Option Nat
  | .read => none
  | .auto v => some v
  | .manual v => some v

/-- A command leaves on the AVSBus: a voltage write, which PWR_GOV_VCORE shows, or a read of the rail (R448). -/
def State.avsSend (s : State) (a : GovAsk) (tries : Nat) : State :=
  let s := match a.mv with
    | some v => s.setRf Reg.PWR_GOV_VCORE 0 10 v
    | none => s
  ({ s with pwr := { s.pwr with ask := some (a, tries) } }).emit (.avs (s.rf Reg.PWR_GOV_CTRL 1 4) a.mv)

/-- GO of PWR_GOV_REQ is 1 while a manual request is outstanding (R455). -/
def State.govShow (s : State) : State :=
  let manual := fun (a : GovAsk) => match a with
    | .manual _ => true
    | _ => false
  s.setRb Reg.PWR_GOV_REQ 31 (s.pwr.ask.any (fun e => manual e.1) || s.pwr.asks.any manual)

/-- A request is made, behind one under way; in FAULT none follows (R448). -/
def State.govPut (s : State) (a : GovAsk) : State :=
  if s.govState = 2 then s.govShow
  else if s.pwr.ask.isSome then { s with pwr := { s.pwr with asks := s.pwr.asks ++ [a] } }
  else s.avsSend a 0

/-- A voltage is requested. -/
def State.govRequest (s : State) (mv : Nat) (manual : Bool) : State := s.govPut (if manual then .manual mv else .auto mv)

/-- The request under way is done with: the next one that waits leaves. -/
def State.govNext (s : State) : State :=
  let s := { s with pwr := { s.pwr with ask := none } }
  let s := match s.pwr.asks with
    | [] => s
    | a :: rest => ({ s with pwr := { s.pwr with asks := rest } }).avsSend a 0
  s.govShow

/-- PWR_GOV_CTRL.EN is written 1: FAULT ends, the rail is read first, and the first window opens (R447, R448). -/
def State.govStart (s : State) : State :=
  let s := s.setReg Reg.PWR_GOV_STATUS (setFld (s.reg Reg.PWR_GOV_STATUS) 0 2 1)
  ({ s with pwr := { s.pwr with winStart := s.now, minSlack := none } }).govPut .read

/-- PWR_GOV_CTRL.EN is written 0: FAULT stays until it is then written 1 (R448). A request under way is still answered. -/
def State.govStop (s : State) : State := if s.govState = 2 then s else s.setRf Reg.PWR_GOV_STATUS 0 2 0

/-- Event 60 with its cause: 1 VMIN, 2 VMAX, 3 AVS. -/
def State.govLimit (s : State) (cause : Nat) : State := (s.setRf Reg.PWR_GOV_STATUS 4 2 cause).flagRaise Reg.PWR_STATUS 10 60 0

/-- A voltage as R448 takes it: a multiple of 5 mV within the limits. -/
def State.govClip (s : State) (mv : Nat) : Nat := max s.vMin (min s.vMax (mv / 5 * 5))

/-- One step of 5 mV, up or down; withheld where its result would lie outside the limits, with the limit met as its cause (R23,
R447). -/
def State.govStep (s : State) (up : Bool) : State :=
  let mv := if up then s.vcore + 5 else s.vcore - 5
  if s.vMax < mv then (s.bump (Reg.PWR_GOV_CNT 2)).govLimit 2
  else if mv < s.vMin then (s.bump (Reg.PWR_GOV_CNT 2)).govLimit 1
  else (s.bump (Reg.PWR_GOV_CNT (if up then 0 else 1))).govRequest mv false

/-- A slack in units of a stamp, in µs, rounded down. -/
def slackUs (x : Int) : Int := x / ((1000 * stampNsUnit : Nat) : Int)

/-- The end of a window has come. -/
def State.windowDue (s : State) : Bool :=
  s.rb Reg.PWR_GOV_CTRL 0 && decide (s.pwr.winStart + s.rf Reg.PWR_GOV_CTRL 16 10 * fsPerMs ≤ s.now)

/-- Whether the governor may request at this moment: tracking, no request under way, and settled (R447). -/
def State.govReady (s : State) : Bool :=
  decide (s.govState = 1) && s.pwr.ask.isNone &&
    match s.pwr.ackAt with
    | some t => decide (t + s.rf Reg.PWR_GOV_ALARM 16 16 * fsPerUs ≤ s.now)
    | none => true

/-- GOV_WINDOW_END (R447). -/
def State.windowEnd (s : State) : State :=
  if s.windowDue then
    let low := s.pwr.minSlack
    let ready := s.govReady
    let s := { s with pwr := { s.pwr with winStart := s.now, minSlack := none } }
    let s := match low with
      | some x => s.setRf Reg.PWR_GOV_VCORE 16 16 (wrap 16 (clampInt (-32767) 32767 (slackUs x)))
      | none => s
    let unit : Int := ((1000 * stampNsUnit : Nat) : Int)
    let s := match low with
      | some x =>
        if x < s.rf Reg.PWR_GOV_ALARM 0 16 * unit then s.flagRaise Reg.PWR_STATUS 9 59 0 else s
      | none => s
    if !ready then s
    else
      match low with
      | none => s.govStep false
      | some x =>
        if x < s.rf Reg.PWR_GOV_TARGET 0 16 * unit then s.govStep true
        else if s.rf Reg.PWR_GOV_TARGET 16 16 * unit < x then s.govStep false
        else s
  else s

/-- AVS_RESPONSE (R448): the regulator answers the request under way, or fails to. One retry; a second failure is FAULT. -/
def State.avsResponse (s : State) (r : Option Nat) : State :=
  match s.pwr.ask with
  | none => s
  | some (a, tries) =>
    match r with
    | none =>
      if tries = 0 then (s.bump (Reg.PWR_GOV_CNT 3)).avsSend a 1
      else
        let s := ({ s with pwr := { s.pwr with ask := none, asks := [] } }).govShow
        (s.setRf Reg.PWR_GOV_STATUS 0 2 2).govLimit 3
    | some mv =>
      match a with
      | .read =>
        let v := s.govClip mv
        let s := s.setRf Reg.PWR_GOV_VCORE 0 10 mv
        let s := if v ≠ mv && s.rb Reg.PWR_GOV_CTRL 0 then { s with pwr := { s.pwr with asks := .auto v :: s.pwr.asks } } else s
        s.govNext
      | _ => ({ s with pwr := { s.pwr with ackAt := some s.now } }).govNext

/-! ### RECESS and RUN (R443-R446) -/

/-- The domains that stay on in RECESS (R440). -/
def recessMask : Nat := 0x405

/-- The segments of the descriptor in progress at port `p` are sent, and the descriptor is returned. -/
def State.segFinish (p : Nat) : Nat → State → State
  | 0, s => s
  | fuel + 1, s =>
    match s.segJob p with
    | some j => State.segFinish p fuel (s.segSend p j 0)
    | none => s

/-- The frames that segment `g` has taken are sent. -/
def State.t1sFlush (g : Nat) : Nat → State → State
  | 0, s => s
  | fuel + 1, s =>
    match (s.segm g).queue with
    | [] => s
    | _ :: _ => State.t1sFlush g fuel ((s.setSegm g { s.segm g with st := .send }).t1sSendComplete g)

/-- The rings that RECESS stops proceed as if EN were written 0: their work in progress is finished (R365, R444). -/
def State.recessRings (s : State) : State :=
  let s := if s.recorder.buf.isSome then s.recComplete else s
  let s := [2, 3].foldl (fun s p =>
    match s.segJob p with
    | some j => State.segFinish p j.left.length s
    | none => s) s
  let s := (List.range 4).foldl (fun s g =>
    if s.rb (Reg.T1Ss_CTRL g) 0 then State.t1sFlush g (s.segm g).queue.length s else s) s
  (List.range 32).foldl (fun s r => if recessRing r then s else (s.setRb (Reg.RNG_CTRL r) 0 false).ringEn r false) s

/-- Every enabled energy circuit closes its interval as if its enable were cleared (R320, R444). -/
def State.recessEnergy (s : State) : State :=
  (List.range 12).foldl (fun s c => s.nrgEnd c) s

/-- RECESS: the steps of R444, ENTERING and all, then RECESS. -/
def State.recess (s : State) : State :=
  let s := s.setRf Reg.PWR_STATUS 0 2 1
  let s := (List.range 256).foldl (fun s f => if s.formState f ≠ 0 then s.stopForm f else s) s
  let s := s.recessEnergy.recessRings
  let s := s.govRequest s.vMin false
  let s := s.domainsOff recessMask true
  ((s.setRf Reg.PWR_STATUS 0 2 2).setRb Reg.PWR_CMD 0 false).domainEvent

/-- WAKING and RUN: the governor asks for 800 mV within its limits, the domains of PWR_DOMAIN_EN come on, and the warm load is
under way (R443, R446). -/
def State.wakeUp (s : State) : State :=
  let s := { s.setRf Reg.PWR_STATUS 0 2 3 with pwr := { s.pwr with wakeHeld := false } }
  let s := s.govRequest (s.govClip 800) false
  let s := (s.domainsOff s.domainEn true).domainsOn s.domainEn true
  let s := ((s.setRf Reg.PWR_STATUS 0 2 0).setRb Reg.PWR_CMD 0 false).setRb Reg.PWR_DOMAIN_STATUS 16 false
  let s := s.domainEvent.unconfigure.setRb Reg.IMG_LOAD_STATUS 3 false
  { s.setRb Reg.IMG_LOAD_STATUS 0 true with loader := { s.loader with warm := true } }

/-- WAKE: a wake event raised outside RUN takes effect once RECESS is reached (R443, R445). -/
def State.wake (s : State) : State := if s.pwr.wakeHeld && decide (s.pwrState = 2) then s.wakeUp else s

/-- PWR_CMD with GO (R443). -/
def State.powerCommand (s : State) : State :=
  match s.rf Reg.PWR_CMD 1 2 with
  | 1 => s.recess
  | _ => s.wakeUp

/-! ### Resets (R33, R450, R451) -/

/-- Everything that main power-on reset and a device reset reach: PD_BASE and every switched domain (R450). -/
def State.resetAll (s : State) : State :=
  let s := { s.setReg Reg.PWR_DOMAIN_STATUS 0 with classrooms := [] }
  let s := domOrder.reverse.foldl (fun s d => s.domReset d false) s
  let s := (s.resetRegs 0 0x30000).resetRegs 0x50000 0x60000
  let s := s.resetRegs 0x1A0000 0x1B0000
  { s with
    tbs := [], tsq := [], tap := {}, ppsPin := {}
    pwr := { perst := s.pwr.perst, bankMv := s.pwr.bankMv } }

/-- MAIN_POWER_ON_RESET: `fell` names the supplies of a brown-out, none at a ramp-in (R450, R451). Start-up follows. -/
def State.mainReset (s : State) (fell : Nat) : State :=
  let s := s.resetAll.setReg Reg.PWR_RESET_CAUSE (word (1 + (if fell = 0 then 0 else 2) + 256 * (fell % 256)))
  { s with rtc := { s.rtc with lockout := true }, pwr := { s.pwr with start := some .full }, pcie := {} }

/-- Bits of the supplies that have fallen below their brown-out thresholds (R451, R468). -/
def brownOuts (levels : List (Fin 8 × Nat)) : Nat :=
  ((List.range 8).filter (fun i => levels.any (fun l => l.1.val == i && decide (l.2 < brownOutMv.getD i 0)))).foldl
    (fun a i => a + 2 ^ i) 0

/-- MAIN_POWER_ON_RESET (R450, R468). The monitors pass over a fall shorter than 1.00 µs. VIO18 below 1.65 V moves PD_AON to VBAT
before anything is reset (R124), as does the loss of power that a ramp-in ends; a brown-out resets only while main power-on reset is
not asserted, which is while brown-out detection is armed (R469). -/
def State.mainPower (s : State) (p : MainPower) : State :=
  match p with
  | .rampIn => s.toVbat.mainReset 0
  | .dip levels ns =>
    if ns < 1000 then s
    else
      let s := if levels.any (fun l => l.1.val == 6 && decide (l.2 < 1650)) then s.toVbat else s
      if brownOuts levels = 0 || s.pwr.start = some .full then s else s.mainReset (brownOuts levels)

/-- A device reset (R450, R451): start-up follows from its domain step. -/
def State.deviceReset (s : State) : State :=
  let cause := s.reg Reg.PWR_RESET_CAUSE
  let board := s.reg Reg.GLB_BOARD
  let s := (s.resetAll.setReg Reg.PWR_RESET_CAUSE (setBit cause 2 true)).setReg Reg.GLB_BOARD board
  { s with pwr := { s.pwr with start := some .domains } }

/-- What PERST# and a function-level reset reach: configuration space, the MSI-X table and ring DMA (R33, R371, R450). -/
def State.hostReset (s : State) : State :=
  let s := { s with msix := [], pcie := { trained := s.pcie.trained }, recorder := { s.recorder with buf := none } }
  let s := (List.range 32).foldl (fun s r => s.ringAbandon r) s
  s.resetRings false

/-- PERST#: the level stays until it is released (R450). -/
def State.perst (s : State) : State :=
  let s := s.hostReset.setRb Reg.PWR_RESET_CAUSE 3 true
  { s with pwr := { s.pwr with perst := true } }

/-- A function-level reset, or a transition to D3hot, which sets no cause bit (R33, R371, R451). -/
def State.functionReset (s : State) (d3hot : Bool) : State :=
  let s := s.hostReset
  if d3hot then { s with pcie := { s.pcie with d3hot := true } } else s.setRb Reg.PWR_RESET_CAUSE 4 true

/-! ### Start-up (R452, R453) -/

/-- Steps 3-5 of start-up: PD_AON on main power, the pins sampled, the PLL locked. -/
def State.startFirst (s : State) (pairId : Bool) (pos : Nat) : State :=
  (s.setReg Reg.GLB_BOARD (word (pos % 8 + 8 * pairId.toNat))).setRb Reg.TB_PLL 8 true

/-- Event 14 that a tamper alarm owes, raised once EVT runs (R412). -/
def State.owedTamper (s : State) : State :=
  if s.keys.owed14 then ({ s with keys := { s.keys with owed14 := false } }).flagRaise Reg.KEY_STATUS 8 14 0 else s

/-- START_UP (R452): from step 3 after a main power-on reset, from step 6 after a device reset, up to the boot of step 8, which
then is under way. Main power-on reset is released 2.00 ms after the last supply is in range, and no earlier (R469). -/
def State.startUp (s : State) (pairId : Bool) (r : Release) : State :=
  match s.pwr.start with
  | none => s
  | some phase =>
    if phase = .full && decide (r.steadyUs < 2000) then s
    else
      let s := { s with pwr := { s.pwr with start := none } }
      let s := if phase = .full then (s.startFirst pairId r.pos.val).rtcRelease else s
      let s := s.owedRtc
      let s := (s.domainsOn s.domainEn false).owedTamper
      { s.setRb Reg.IMG_LOAD_STATUS 0 true with loader := { s.loader with warm := false } }

/-! ### Supplies and temperature (R472, R484) -/

/-- THERM: the estimates of the sensors in 0.1 °C (R484). -/
def State.therm (s : State) (temps : List Int) : State :=
  if s.pwr.thermArmed && temps.any (fun t => decide (1000 ≤ t)) then
    ({ s with pwr := { s.pwr with thermArmed := false } }).raise 62 0
  else if temps.all (fun t => decide (t < 950)) then { s with pwr := { s.pwr with thermArmed := true } }
  else s

/-! ### Register writes (R455) -/

/-- Values that the PWR tables refuse. -/
def pwrRefuses (s : State) (off : Nat) (v : Word) : Bool :=
  if off = Reg.PWR_DOMAIN_EN then !bit v 0 || prerequisiteMissing (fld v 0 12) || s.rb Reg.PWR_DOMAIN_STATUS 16
  else if off = Reg.PWR_CMD then
    bit v 0 && !((fld v 1 2 = 1 && decide (s.pwrState = 0)) || (fld v 1 2 = 2 && decide (s.pwrState = 2)))
  else if off = Reg.PWR_GOV_CTRL then
    (s.rb off 0 && decide (fld v 1 4 ≠ s.rf off 1 4)) || decide (fld v 16 10 = 0) || decide (1000 < fld v 16 10)
  else if off = Reg.PWR_GOV_TARGET then decide (fld v 16 16 ≤ fld v 0 16)
  else if off = Reg.PWR_GOV_LIMIT then
    decide (fld v 0 10 < 620) || decide (920 < fld v 16 10) || decide (fld v 16 10 < fld v 0 10) || decide (fld v 0 10 % 5 ≠ 0) ||
      decide (fld v 16 10 % 5 ≠ 0)
  else if off = Reg.PWR_GOV_REQ then
    bit v 31 && (s.rb Reg.PWR_GOV_CTRL 0 || decide (fld v 0 10 < s.vMin) || decide (s.vMax < fld v 0 10))
  else false

/-- What a write of a PWR register does beside its plain fields. `old` is the register before the write. -/
def State.pwrHook (s : State) (off : Nat) (old v : Word) : State :=
  if off = Reg.PWR_DOMAIN_EN then s.domainWrite
  else if off = Reg.PWR_CMD then (if bit v 0 then s.powerCommand else s)
  else if off = Reg.PWR_GOV_CTRL then
    (if s.rb off 0 && !bit old 0 then s.govStart else if !s.rb off 0 && bit old 0 then s.govStop else s)
  else if off = Reg.PWR_GOV_REQ then (if bit v 31 then s.govRequest (fld v 0 10) true else s)
  else s

end Sys2Proof.Machine
end

