-- ==== Sys2Proof/Machine/TestPort.lean ====
section
/-! DEFINITION. The test access port and the test multiplexer (R486-R496). -/

namespace Sys2Proof.Machine

/-- TMX_STATUS.INSTR: the current instruction code (R496). -/
def State.tapInstr (s : State) : Nat := s.rf Reg.TMX_STATUS 0 8

/-- Whether an instruction code needs BSCAN_EN: EXTEST, EXTEST_PULSE, EXTEST_TRAIN, HIGHZ, CLAMP (R487). -/
def needsBscan (code : Nat) : Bool := decide (code = 0) || (decide (3 ≤ code) && decide (code ≤ 6))

/-- An instruction that a clear enable of TMX_CTRL turns into BYPASS (R487). -/
def State.tapRefused (s : State) (code : Nat) : Bool :=
  (needsBscan code && !s.rb Reg.TMX_CTRL 0) || (decide (code = 0x10) && !s.rb Reg.TMX_CTRL 1)

/-- JTAG_INSTRUCTION: Update-IR (R487). A refusal is counted and flagged. -/
def State.updateIr (s : State) (code : Nat) : State :=
  let s := s.setRf Reg.TMX_STATUS 0 8 code
  if s.tapRefused code then
    (s.setRf Reg.TMX_STATUS 16 8 (satAdd 255 (s.rf Reg.TMX_STATUS 16 8) 1)).setRb Reg.TMX_STATUS 8 true
  else s

/-- TEST_LOGIC_RESET: IDCODE is loaded (R486). -/
def State.tapReset (s : State) : State := { s.setRf Reg.TMX_STATUS 0 8 1 with tap := {} }

/-- The outcome of one access over JTAG: the word read, 0 after a write, and whether it raised an error. -/
structure TapResult where
  data : Word := 0
  err : Bool := false
deriving DecidableEq, Repr

/-- TMX_OBS_SELg: a source or PARAM that is refused (R492, R496). -/
def obsRefused (v : Word) : Bool :=
  let p := fld v 8 5
  match fld v 0 4 with
  | 1 => false
  | 5 => decide (3 < p)
  | 6 => decide (11 < p)
  | 10 => decide (6 < p)
  | 11 => decide (3 < p)
  | 14 => true
  | 15 => true
  | _ => false

/-- Values that the TMX tables refuse. -/
def tmxRefuses (off : Nat) (v : Word) : Bool :=
  decide (0x1A0010 ≤ off) && decide (off < 0x1A0020) && obsRefused v

/-- What a write of a TMX register does beside its plain fields: REFUSED is cleared with F_REFUSED. -/
def State.tmxHook (s : State) (off : Nat) (v : Word) : State :=
  if off = Reg.TMX_STATUS && bit v 8 then s.setRf Reg.TMX_STATUS 16 8 0 else s

/-- One single-DW access to the TMX unit from the port, under R52-R56 except that its error is kept in JERR and raises no
event (R491). `word` is the offset in words, which can reach no further than the normal view. -/
def State.tapPerform (s : State) (write : Bool) (wordOff : Nat) (v : Word) : State × TapResult :=
  let off := 0x1A0000 + 4 * wordOff
  match (if wordOff < 0x1000 then regRow off else none) with
  | none => (s.setRb Reg.TMX_STATUS 9 true, { err := true })
  | some r =>
    if !write then (s, { data := s.reg off })
    else
      let locked := match r.lock with
        | some b => s.rb Reg.GLB_LOCK b
        | none => false
      if locked || tmxRefuses off v then (s.setRb Reg.TMX_STATUS 9 true, { err := true })
      else
        let old := s.reg off
        ((s.setReg off (merge r.rw v (old &&& ~~~ (v &&& r.w1c)))).tmxHook off v, {})

/-- `n` bits shifted through the bypass cell: the 0 that it captured, then the bits shifted in but the last. -/
def throughBypass (n w : Nat) : Nat := 2 * w % 2 ^ n

/-- TMX_ACCESS: Capture-DR gives what the last access left, and Update-DR performs the next one (R491). `w` holds DATA [31:0],
word offset [45:32], WRITE [46]. While it acts as BYPASS the bits pass through the one cell and nothing is performed (R487, R494). -/
def State.tapAccess (s : State) (w : BitVec 48) : State :=
  if s.tapInstr = 0x10 && !s.tapRefused 0x10 then
    let s := s.emit (.jtag (s.tap.data.toNat + 2 ^ 47 * s.tap.err.toNat))
    let p := s.tapPerform (w.getLsbD 46) (w.toNat >>> 32 % 2 ^ 14) (BitVec.ofNat 32 w.toNat)
    { p.1 with tap := { s.tap with data := p.2.data, err := p.2.err } }
  else if s.tapInstr = 0x10 then s.emit (.jtag (throughBypass 48 w.toNat))
  else s

end Sys2Proof.Machine
end

