-- ==== Sys2Proof/Machine/Host.lean ====
section
/-! DEFINITION. The host link: the apertures, the access rules, pairs and alias views, bus errors and locks (R31-R58), with the
registers of the GLB, EVT and RNG units. -/

namespace Sys2Proof.Machine

/-- What a register write meets outside the registers: desks that fail self-check, an uncorrectable error in the image cache,
desks of a classroom that are retired after hand-back with their causes. -/
structure Env where
  desks : List (Nat × Nat) := []
  ecc : EccMet := {}
  late : List (Nat × Nat) := []
deriving DecidableEq, Repr

/-! ### GLB, EVT and RNG (R53, R58, R365, R381, R383, R385, R386) -/

/-- The key of GLB_RESET (R58). -/
def resetKey : Nat := 0xA5C3

def glbRefuses (off : Nat) (v : Word) : Bool := decide (off = Reg.GLB_RESET) && bit v 0 && decide (fld v 16 16 ≠ resetKey)

/-- What a write of a GLB register does: lock bits are only set (R53), VALID clears the capture (R52), GLB_RESET resets (R450). -/
def State.glbHook (s : State) (off : Nat) (old v : Word) : State :=
  if off = Reg.GLB_LOCK then s.setReg off (old ||| (v &&& 0x7F))
  else if off = Reg.GLB_BUSERR_INFO then
    if bit v 31 then (s.setReg Reg.GLB_BUSERR_INFO 0).setReg Reg.GLB_BUSERR_ADDR 0 else s
  else if off = Reg.GLB_RESET then (if bit v 0 then s.deviceReset else s)
  else s

/-- What a write of an EVT register does. `before` is the state before the write. -/
def State.evtHook (s before : State) (off : Nat) (v : Word) : State :=
  let d := off - 0x10000
  if d < 0x8 then s.msixAll.msixSettle
  else if d < 0x30 then (s.msixRises before).msixSettle
  else if off = Reg.EVT_SOFT then (if bit v 0 then s.raise 63 0 else s)
  else s

/-- EVT_VPEND: the condition of every vector (R381). -/
def State.vpend (s : State) : Word :=
  word ((List.range 16).foldl (fun a v => a + (if s.vecCond v then 2 ^ v else 0)) 0)

/-- Values that the RNG tables refuse. -/
def rngRefuses (s : State) (off : Nat) (v : Word) : Bool :=
  if off < 0xC1000 then false
  else
    let r := (off - 0xC1000) / 0x40
    let st := s.ringState r
    match off % 0x40 with
    | 0x00 =>
      let size := fld v 1 5
      let role := fld v 8 4
      (bit v 0 && decide (24 ≤ r) && decide (role = 0)) || decide (size < 6) || decide (16 < size) ||
        (decide (size ≠ s.rf off 1 5) && decide (st ≠ 0)) || (decide (r < 24) && decide (role ≠ 0)) || decide (1 < role)
    | 0x08 => decide (st ≠ 0)
    | 0x0C => decide (st ≠ 0)
    | 0x10 => decide (st ≠ 0)
    | 0x14 => decide (s.ringSize r ≤ fld v 0 16)
    | 0x18 => decide (fld v 0 16 = 0)
    | _ => false

/-- What a write of an RNG register does: the states of R365, the capture's VALID, records that wait for ring 16. -/
def State.rngHook (s : State) (off : Nat) (v : Word) : State :=
  if off = Reg.RNG_ERR_INFO then
    if bit v 31 then ((s.setReg Reg.RNG_ERR_INFO 0).setReg Reg.RNG_ERR_ADDR_LO 0).setReg Reg.RNG_ERR_ADDR_HI 0 else s
  else if off < 0xC1000 then s
  else
    let r := (off - 0xC1000) / 0x40
    match off % 0x40 with
    | 0x00 =>
      let s := s.ringEn r (s.rb off 0)
      if r = 16 && s.ringReady 16 then s.recPump else if r = 1 then s.ring1Pump else s
    | 0x14 => if r = 16 && s.ringReady 16 then s.recPump else if r = 1 then s.ring1Pump else s
    | _ => s

/-! ### The units by number (R40) -/

/-- A boot register list's way to write: one single-DW write, and whether it raised a bus error. -/
abbrev BootWrite := State → Nat → Word → State × Bool

/-- Cause VALUE: what the tables of the unit say is refused (R52); `m` holds the bits the write reaches. -/
def unitRefuses (s : State) (off : Nat) (v m : Word) : Bool :=
  match off / 0x10000 with
  | 0 => glbRefuses off v
  | 2 => pwrRefuses s off v
  | 3 => imgRefuses s off v
  | 4 => rtcRefuses s off v
  | 5 => tbRefuses s off v
  | 6 => macRefuses s off v
  | 7 => macRefuses s off v
  | 8 => macRefuses s off v
  | 9 => macRefuses s off v
  | 10 => t1sRefuses s off v
  | 11 => prpRefuses s off v
  | 12 => rngRefuses s off v
  | 13 => schRefuses s off v
  | 14 => itkRefuses s off v
  | 15 => rclRefuses s off v
  | 16 => fabRefuses s off v
  | 17 => anaRefuses s off v
  | 18 => acqRefuses s off v (bit m 0)
  | 19 => fltRefuses s off v
  | 20 => phsRefuses s off v (bit m 0)
  | 21 => nrgRefuses s off v (bit m 0)
  | 22 => trgRefuses s off v || recRefuses s off v
  | 23 => keyRefuses s off v
  | 24 => redRefuses s off v
  | 25 => fjlRefuses s off v
  | 26 => tmxRefuses off v
  | _ => false

/-- A self-check command of a classroom (R225). -/
def State.fabHook (s : State) (off : Nat) (e : Env) : State :=
  let c := (off - 0x100000) / 0x200
  if off = Reg.FAB_CHECK_CMD c && s.rb off 0 then
    s.selfCheck c ((e.desks.filter (fun d => decide (d.1 = c))).map (fun d => d.2))
  else s

/-- What a write does beside its plain fields. `before` is the state before the write, `old` the register, `v` the written bits. -/
def State.unitHook (s before : State) (wr : BootWrite) (e : Env) (off : Nat) (old v : Word) : State :=
  match off / 0x10000 with
  | 0 => s.glbHook off old v
  | 1 => s.evtHook before off v
  | 2 => s.pwrHook off old v
  | 3 => s.imgHook off wr e.desks e.ecc e.late
  | 4 => s.rtcHook off
  | 5 => s.tbHook off old v
  | 6 => s.macHook off v
  | 7 => s.macHook off v
  | 8 => s.macHook off v
  | 9 => s.macHook off v
  | 10 => s.t1sHook off
  | 11 => s.prpHook off old v
  | 12 => s.rngHook off v
  | 13 => s.schHook off old v
  | 14 => s.itkHook off old
  | 15 => s.rclHook off old
  | 16 => s.fabHook off e
  | 17 => s.anaHook off
  | 18 => s.acqHook off old v
  | 19 => s.fltHook off old v
  | 20 => s.phsHook off old
  | 21 => s.nrgHook off old v
  | 22 => (s.trgHook off old v).recHook off v
  | 23 => s.keyHook off old v
  | 24 => s.redHook off old v
  | 25 => s.fjlHook off old
  | 26 => s.tmxHook off v
  | _ => s

/-- TBn_NOW and the time-stamp queues (R95, R111). -/
def State.tbView (s : State) (off : Nat) : Word :=
  if 0x51000 ≤ off && off < 0x51400 then
    let d := off % 0x100
    if 0x08 ≤ d && d ≤ 0x14 then s.tbNowWord ((off - 0x51000) / 0x100) d else s.reg off
  else if 0x53000 ≤ off && off < 0x53100 && off % 0x40 ≤ 0x14 then s.tsqView ((off - 0x53000) / 0x40) (off % 0x40)
  else s.reg off

/-- The current value of a register: what hardware computes, or what it holds. -/
def State.view (s : State) (off : Nat) : Word :=
  match off / 0x10000 with
  | 1 => if off = Reg.EVT_VPEND then s.vpend else s.reg off
  | 4 => if off = Reg.RTC_TICK_LO || off = Reg.RTC_TICK_HI then s.rtcView off else s.reg off
  | 5 => s.tbView off
  | 10 => s.t1sView off
  | 13 => (schView s off).getD (s.reg off)
  | 18 => (acqView s off).getD (s.reg off)
  | 19 => (acqView s off).getD (s.reg off)
  | 20 => s.phsView off
  | 21 => s.nrgView off
  | 23 => s.keyView off
  | 24 => s.redView off
  | _ => s.reg off

/-! ### Addresses, domains and causes (R36, R40, R41, R52) -/

/-- Cause codes of R52. -/
def causeWidth : Nat := 1
def causeAlign : Nat := 2
def causeReserved : Nat := 3
def causeDomain : Nat := 4
def causeAlias : Nat := 5
def causeReadonly : Nat := 6
def causeLock : Nat := 7
def causeValue : Nat := 8

/-- The view of a BAR0 offset: 0 normal, 1 SET, 2 CLR, 3 TGL; and the offset of its register in the normal view (R41). -/
def viewOf (off : Nat) : Nat := off % 0x10000 / 0x4000
def normOf (off : Nat) : Nat := off / 0x10000 * 0x10000 + off % 0x4000

/-- The KEY registers that PD_AON holds: KEY_FLOOR, KEY_TAMPER_CFG, STATUS, CNT and CLR, KEY_ATT_CNT (R416). -/
def aonKey (d : Nat) : Bool := d = 0x0C || (decide (0x14 ≤ d) && decide (d < 0x24)) || d = 0x28

/-- Whether the power domain of a register is on, as R40 and R440 place it; what PD_AON holds while it is not locked out (R124), and in
RECESS the six rings of the recess ring engine (R444). -/
def State.reachable (s : State) (off : Nat) : Bool :=
  match off / 0x10000 with
  | 0 => true
  | 1 => true
  | 2 => true
  | 3 => s.domOn pdHost
  | 4 => !s.rtc.lockout
  | 5 => true
  | 6 => s.domOn pdNetA
  | 7 => s.domOn pdNetA
  | 8 => s.domOn pdNetB
  | 9 => s.domOn pdNetB
  | 10 => s.domOn pdField
  | 11 => s.domOn (if off % 0x4000 < 0x180 then pdNetA else pdNetB)
  | 12 => s.domOn pdSch || (decide (0xC1000 ≤ off) && recessRing ((off - 0xC1000) / 0x40) && decide (s.pwrState ≠ 0) && s.domOn pdHost)
  | 13 => s.domOn pdSch
  | 14 => s.domOn pdRcl
  | 15 => s.domOn pdRcl
  | 16 => s.domOn (classDomain ((off - 0x100000) / 0x200))
  | 17 => s.domOn pdSch
  | 18 => s.domOn pdAcq
  | 19 => s.domOn pdAcq
  | 20 => s.domOn pdAcq
  | 21 => s.domOn pdAcq
  | 22 => s.domOn pdAcq
  | 23 => s.domOn pdKey && !(s.rtc.lockout && aonKey (off % 0x4000))
  | 24 => s.domOn pdSch
  | 25 => s.domOn pdLink
  | _ => true

/-- The cause of a read of one DW of BAR0, 0 for none (R52). -/
def State.readCause (s : State) (off : Nat) : Nat :=
  match regRow (normOf off) with
  | none => causeReserved
  | some _ => if !s.reachable (normOf off) then causeDomain else if viewOf off ≠ 0 then causeAlias else 0

/-- The bits an alias write leaves in the register: OR, AND with the complement, or exclusive OR, on the fields marked A (R48). -/
def aliasValue (view : Nat) (am old v : Word) : Word :=
  let m := v &&& am
  match view with
  | 1 => old ||| m
  | 2 => old &&& ~~~ m
  | _ => old ^^^ m

/-- The bits a write presents to the register's fields: the written ones, or in an alias view those it leaves. -/
def State.presented (s : State) (r : RegRow) (off : Nat) (v : Word) : Word :=
  if viewOf off = 0 then v else aliasValue (viewOf off) r.am (s.reg (normOf off)) v &&& r.rw

/-- The cause of a write of one DW of BAR0, 0 for none (R49, R52, R53). -/
def State.writeCause (s : State) (off : Nat) (v : Word) : Nat :=
  match regRow (normOf off) with
  | none => causeReserved
  | some r =>
    if !s.reachable (normOf off) then causeDomain
    else if viewOf off ≠ 0 && r.am = 0 then causeAlias
    else if r.rw ||| r.w1c ||| r.wo = 0 then causeReadonly
    else if (match r.lock with
      | some b => s.rb Reg.GLB_LOCK b
      | none => false) then causeLock
    else if unitRefuses s (normOf off) (s.presented r off v) (if viewOf off = 0 then 0xFFFFFFFF else v) then causeValue
    else 0

/-! ### One DW (R45-R49) -/

/-- A write of register `off`, normal view, that raises no bus error: a low half is staged, a high half commits, every other
register takes the bits its fields accept (R47, R48, R52). -/
def State.writeReg (s : State) (wr : BootWrite) (e : Env) (off : Nat) (v : Word) : State :=
  match regRow off with
  | none => s
  | some r =>
    let old := s.reg off
    match r.pair with
    | .low => s.setStage off (v &&& r.rw)
    | .high =>
      let lo := off - 4
      let rw := match regRow lo with
        | some q => q.rw
        | none => 0
      ((s.setReg lo (merge rw (s.stageOf lo) (s.reg lo))).setReg off (merge r.rw v old)).unitHook s wr e off old v
    | .single => (s.setReg off (merge r.rw v (old &&& ~~~ (v &&& r.w1c)))).unitHook s wr e off old v

/-- A write of one DW of BAR0 in any view that raises no bus error. -/
def State.writeView (s : State) (wr : BootWrite) (e : Env) (off : Nat) (v : Word) : State :=
  if viewOf off = 0 then s.writeReg wr e off v
  else
    match regRow (normOf off) with
    | none => s
    | some r =>
      let n := normOf off
      let old := s.reg n
      (s.setReg n (aliasValue (viewOf off) r.am old v)).unitHook s wr e n old (s.presented r off v)

/-- The offsets of the registers that share the latch of the low half at `off`: the high half, or the three of TBn_NOW (R95). -/
def latchedBy (off : Nat) : List Nat :=
  if 0x51000 ≤ off && off < 0x51400 && off % 0x100 = 0x08 then [off + 4, off + 8, off + 12] else [off + 4]

/-- A read of register `off`, normal view, that raises no bus error: a low half loads latch and stage, a high half gives the
latch (R45-R47). -/
def State.readReg (s : State) (off : Nat) : State × Word :=
  match regRow off with
  | none => (s, 0)
  | some r =>
    match r.pair with
    | .low =>
      let w := s.view off
      let t := (latchedBy off).foldl (fun t h => t.setLatch h (s.view h)) s
      (if r.rw = 0 then t else t.setStage off w, w)
    | .high => (s, s.latchOf off)
    | .single => (s, s.view off)

/-! ### Bus errors (R52) -/

/-- A request as the capture records it: aperture, write, byte enables. -/
structure Request where
  bar : Nat
  write : Bool
  fbe : Nat
  lbe : Nat
deriving DecidableEq, Repr

/-- The capture of a bus error: GLB_BUSERR_INFO with VALID and no count yet. -/
def captureInfo (q : Request) (off cause : Nat) : Word :=
  let view := if q.bar = 0 then viewOf off else 0
  let hi := if q.bar = 2 then off >>> 32 % 4 else 0
  word (q.fbe % 16 + 16 * (q.lbe % 16) + 256 * q.write.toNat + 512 * view + 2048 * (q.bar % 4) + 8192 * hi + 65536 * cause +
    2 ^ 31)

/-- A bus error at offset `off`: captured while VALID is clear, counted, event 61 (R52). -/
def State.busError (s : State) (q : Request) (off cause : Nat) : State :=
  let s :=
    if s.rb Reg.GLB_BUSERR_INFO 31 then s
    else (s.setReg Reg.GLB_BUSERR_ADDR (word (off / 4 * 4))).setReg Reg.GLB_BUSERR_INFO (captureInfo q off cause)
  let s := s.setRf Reg.GLB_BUSERR_INFO 20 8 (satAdd 255 (s.rf Reg.GLB_BUSERR_INFO 20 8) 1)
  s.raise 61 0

/-- A single-DW request as the device itself performs one. -/
def singleWrite : Request := ⟨0, true, 15, 0⟩
def singleRead : Request := ⟨0, false, 15, 0⟩

/-- One DW of BAR0 is written under R52-R56; the second component says that it raised a bus error. -/
def State.putDW (s : State) (wr : BootWrite) (e : Env) (q : Request) (off : Nat) (v : Word) : State × Bool :=
  let c := s.writeCause off v
  if c ≠ 0 then (s.busError q off c, true) else (s.writeView wr e off v, false)

/-- One entry of a boot register list (R64). A load within it cannot start: the loader is BUSY. -/
def State.bootWrite (s : State) (off : Nat) (v : Word) : State × Bool :=
  s.putDW (fun s _ _ => (s, false)) {} singleWrite off v

/-- A single-DW write under R52-R56. -/
def State.put (s : State) (e : Env) (q : Request) (off : Nat) (v : Word) : State × Bool :=
  s.putDW State.bootWrite e q off v

/-- One DW of BAR0 is read; none for a bus error. -/
def State.getDW (s : State) (q : Request) (off : Nat) : State × Option Word :=
  let c := s.readCause off
  if c ≠ 0 then (s.busError q off c, none)
  else
    let p := s.readReg off
    (p.1, some p.2)

/-! ### BAR1 (R36, R37) -/

/-- What a DW of table space is: its domain and what it accepts. -/
inductive TableDW where
  | reserved
  | seat (code d : Nat)          -- octet `d` of a seat descriptor
  | plain (domain : Nat)         -- software owns it
  | zero (domain : Nat)          -- reserved octets of an entry
  | fixed (domain : Nat)         -- only hardware writes it
deriving DecidableEq, Repr

/-- The layout of table space (R36, R176, R279, R325, R392). -/
def tableDW (off : Nat) : TableDW :=
  if off < 0x400C00 then .seat (off / 0x100) (off % 0x100)
  else if 0x600000 ≤ off && off < 0x630000 then
    let d := off % 0x4000
    if d < 0x280 then (if d % 16 = 12 then .zero pdAcq else .plain pdAcq)
    else if 0x400 ≤ d && d < 0x4A0 then .fixed pdAcq
    else .reserved
  else if 0x800000 ≤ off && off < 0x818000 then .plain pdAcq
  else if 0x820000 ≤ off && off < 0x826000 then (if off % 0x80 < 0x6C then .plain pdAcq else .reserved)
  else if 0xC00000 ≤ off && off < 0xC04000 then .fixed pdKey
  else .reserved

/-- The domain of a DW of table space. -/
def TableDW.domain : TableDW → Option Nat
  | .reserved => none
  | .seat _ _ => some pdRcl
  | .plain d => some d
  | .zero d => some d
  | .fixed d => some d

/-- The cause of an access to a DW of BAR1, 0 for none: a descriptor of an installed seat refuses writes, and octets that only
hardware writes are READONLY (R52, R174, R325, R392); the metadata of a retained slot is not reached while PD_AON is locked out (R124). -/
def State.tableCause (s : State) (off : Nat) (write : Bool) : Nat :=
  match (tableDW off).domain with
  | none => causeReserved
  | some d =>
    if !s.domOn d || (0xC00000 ≤ off && s.slotLocked ((off - 0xC00000) / 0x40)) then causeDomain
    else if !write then 0
    else
      match tableDW off with
      | .seat code k => if 0x80 ≤ k then causeReadonly else if (s.seat code).isSome then causeValue else 0
      | .fixed _ => causeReadonly
      | _ => 0

/-- What a DW of BAR1 reads. -/
def State.tableView (s : State) (off : Nat) : Word :=
  match tableDW off with
  | .reserved => 0
  | .zero _ => 0
  | .fixed _ =>
    if 0xC00000 ≤ off then word (le (s.slot ((off - 0xC00000) / 0x40)).metadata (off % 0x40) 4)
    else (nrgTableView s off).getD 0
  | _ => s.tw off

/-- A DW of BAR1 takes a value; VALID of a seat descriptor is read-only to the host (R176). -/
def State.tablePut (s : State) (off : Nat) (v : Word) : State :=
  match tableDW off with
  | .seat _ 0 => s.setTw off (merge 0xFFFFFFFE v (s.tw off))
  | .zero _ => s
  | _ => s.setTw off v

/-! ### BAR4: the MSI-X table (R35, R39) -/

/-- The octets of `v` that a byte-enable mask selects, over `w`. -/
def mergeBE (be : BitVec 4) (v w : Word) : Word :=
  let m (i : Nat) : Nat := if be.getLsbD i then 0xFF * 256 ^ i else 0
  merge (word (m 0 + m 1 + m 2 + m 3)) v w

/-- What a DW of BAR4 reads: an entry, or the pending bits. -/
def State.msixView (s : State) (off : Nat) : Word :=
  if off < 0x100 then
    let x := s.msixOf (off / 16)
    match off % 16 / 4 with
    | 0 => x.addrLo
    | 1 => x.addrHi
    | 2 => x.data
    | _ => word x.masked.toNat
  else if off / 4 = 0x400 then
    word ((List.range 16).foldl (fun a v => a + (if (s.msixOf v).pend then 2 ^ v else 0)) 0)
  else 0

/-- A write of a DW of BAR4; a vector that is unmasked sends the message that pends. -/
def State.msixPut (s : State) (off : Nat) (be : BitVec 4) (v : Word) : State :=
  if off < 0x100 then
    let n := off / 16
    let x := s.msixOf n
    let w := mergeBE be v (s.msixView off)
    let y := match off % 16 / 4 with
      | 0 => { x with addrLo := w }
      | 1 => { x with addrHi := w }
      | 2 => { x with data := w }
      | _ => { x with masked := bit w 0 }
    ({ s with msix := Tab.put (fun _ => {}) s.msix n y }).msixRelease n
  else s

/-! ### Requests (R32, R34, R42-R44) -/

/-- The endpoint answers configuration requests: PD_HOST is on, start-up done and PERST# released. -/
def State.pcieUp (s : State) : Bool := s.domOn pdHost && !s.pwr.perst && s.pwr.start.isNone

/-- The endpoint answers memory requests: it does not in D3hot (R31, R33). -/
def State.hostUp (s : State) : Bool := s.pcieUp && !s.pcie.d3hot

/-! ### Configuration space (R31, R33, R39) -/

/-- The rate and the width in use after training with a target rate: no more than the link partner offers (R31). -/
def linkRate (target : Nat) : Nat := max 1 (min target (min 5 Config.linkPartner.1))
def linkWidth : Nat :=
  if 8 ≤ Config.linkPartner.2 then 8 else if 4 ≤ Config.linkPartner.2 then 4 else if 2 ≤ Config.linkPartner.2 then 2 else 1

/-- The bits of BAR register `k` that take a base, and those that show its kind: BAR0 and BAR1 32-bit and not prefetchable, BAR2 64-bit
and prefetchable, BAR4 64-bit and not (R35). -/
def barBase : Nat → Word
  | 0 => 0xFC000000
  | 1 => 0xFF000000
  | 2 => 0
  | 3 => 0xFFFFFFFC
  | 4 => 0xFFFFE000
  | _ => 0xFFFFFFFF
def barKind : Nat → Word
  | 2 => 0xC
  | 4 => 0x4
  | _ => 0

/-- BAR register `k` as it reads. -/
def State.barView (s : State) (k : Nat) : Word := (Tab.get (fun _ => 0) s.pcie.bars k &&& barBase k) ||| barKind k

/-- What a DW of configuration space reads: the header with the BARs, then Power Management at 0x40, MSI-X at 0x50, PCI Express at 0x60, Advanced
Error Reporting at 0x100 and Device Serial Number at 0x140. R31 gives the values and the list of capabilities; where they stand is
the model's choice and their layout is the PCIe standard's (PRESUMED, assumption 157). -/
def State.cfgView (s : State) (off : Nat) : Word :=
  match off / 4 * 4 with
  | 0x00 => 0x98401F5C
  | 0x04 => 0x00100000 ||| s.pcie.command
  | 0x08 => 0x118000B1
  | 0x10 => s.barView 0
  | 0x14 => s.barView 1
  | 0x18 => s.barView 2
  | 0x1C => s.barView 3
  | 0x20 => s.barView 4
  | 0x24 => s.barView 5
  | 0x34 => 0x00000040
  | 0x40 => 0x00035001
  | 0x44 => if s.pcie.d3hot then 3 else 0
  | 0x50 => word (0x000F6011 + 2 ^ 30 * s.pcie.msixMask.toNat + 2 ^ 31 * s.pcie.msixEnable.toNat)
  | 0x54 => 0x00000004
  | 0x58 => 0x00001004
  | 0x60 => 0x00020010
  | 0x64 => 0x10008002
  | 0x68 => word (2 ^ 5 * s.pcie.mps + 2 ^ 12 * s.pcie.mrrs)
  | 0x6C => 0x00000085
  | 0x70 => s.pcie.linkCtl ||| word (2 ^ 16 * (linkRate s.pcie.trained + 16 * linkWidth))
  | 0x8C => 0x0000003E
  | 0x90 => word s.pcie.target
  | 0x100 => 0x14020001
  | 0x104 => s.pcie.aerUncorrectable
  | 0x108 => s.pcie.aerUncMask
  | 0x10C => s.pcie.aerSeverity
  | 0x110 => s.pcie.aerCorrectable
  | 0x114 => s.pcie.aerCorMask
  | 0x140 => 0x00010003
  | 0x144 => s.reg Reg.GLB_UID_LO
  | 0x148 => s.reg Reg.GLB_UID_HI
  | _ => 0

/-- The fields that decide whether messages may be sent take values; what pends and nothing holds any more is sent (R39). -/
def State.cfgMessages (s : State) (p : Pcie) : State :=
  (List.range 16).foldl State.msixRelease { s with pcie := p }

/-- Link Control takes its fields, and Retrain Link trains the link to the target rate (R31). -/
def Pcie.link (p : Pcie) (w : Word) : Pcie :=
  { p with linkCtl := w &&& 0xC0, trained := if bit w 5 then p.target else p.trained }

/-- Device Control takes its payload and read request sizes, where R31 supports them; Initiate Function Level Reset acts (R33). -/
def State.cfgControl (s : State) (w : Word) : State :=
  let p := s.pcie
  let s := { s with pcie := { p with
    mps := if fld w 5 3 ≤ 2 then fld w 5 3 else p.mps
    mrrs := if fld w 12 3 ≤ 5 then fld w 12 3 else p.mrrs } }
  if bit w 15 then s.functionReset false else s

/-- A write of a DW of configuration space: PowerState moves between D0 and D3hot, the fields above take values, the error status
registers clear where 1 is written. Of the Command register Memory Space Enable, Bus Master Enable, Parity Error Response and SERR
Enable are kept. -/
def State.cfgPut (s : State) (off : Nat) (be : BitVec 4) (v : Word) : State :=
  let w := mergeBE be v (s.cfgView off)
  let clear := mergeBE be v 0
  let p := s.pcie
  match off / 4 * 4 with
  | 0x04 => s.cfgMessages { p with command := w &&& 0x146 }
  | 0x10 => { s with pcie := { p with bars := Tab.put (fun _ => 0) p.bars 0 (w &&& barBase 0) } }
  | 0x14 => { s with pcie := { p with bars := Tab.put (fun _ => 0) p.bars 1 (w &&& barBase 1) } }
  | 0x1C => { s with pcie := { p with bars := Tab.put (fun _ => 0) p.bars 3 (w &&& barBase 3) } }
  | 0x20 => { s with pcie := { p with bars := Tab.put (fun _ => 0) p.bars 4 (w &&& barBase 4) } }
  | 0x24 => { s with pcie := { p with bars := Tab.put (fun _ => 0) p.bars 5 (w &&& barBase 5) } }
  | 0x44 =>
    if fld w 0 2 = 3 && !s.pcie.d3hot then s.functionReset true
    else if fld w 0 2 = 0 then { s with pcie := { p with d3hot := false } }
    else s
  | 0x50 => s.cfgMessages { p with msixEnable := bit w 31, msixMask := bit w 30 }
  | 0x68 => s.cfgControl w
  | 0x70 => { s with pcie := p.link w }
  | 0x90 => { s with pcie := { p with target := if 1 ≤ fld w 0 4 && fld w 0 4 ≤ 5 then fld w 0 4 else p.target } }
  | 0x104 => { s with pcie := { p with aerUncorrectable := p.aerUncorrectable &&& ~~~ clear } }
  | 0x108 => { s with pcie := { p with aerUncMask := w } }
  | 0x10C => { s with pcie := { p with aerSeverity := w } }
  | 0x110 => { s with pcie := { p with aerCorrectable := p.aerCorrectable &&& ~~~ clear } }
  | 0x114 => { s with pcie := { p with aerCorMask := w } }
  | _ => s

/-- Bit `b` of the uncorrectable error status: 12 poisoned TLP received, 14 completion time-out, 15 Completer Abort, 20 Unsupported
Request (PRESUMED, assumption 157). -/
def State.aerNote (s : State) (b : Nat) : State :=
  { s with pcie := { s.pcie with aerUncorrectable := setBit s.pcie.aerUncorrectable b true } }

/-- The byte enables of DW `i` of a request of `n`. -/
def enablesAt (n i : Nat) (fbe lbe : BitVec 4) : BitVec 4 := if i = 0 then fbe else if i + 1 = n then lbe else 15

/-- A request of two DW that enables exactly four contiguous octets across their boundary (R42). -/
def crossesAlign (n : Nat) (fbe lbe : BitVec 4) : Bool :=
  decide (n = 2) && ((fbe = 8 && lbe = 7) || (fbe = 12 && lbe = 3) || (fbe = 14 && lbe = 1))

/-- The number by which the capture knows an aperture. -/
def barNo : Bar → Nat
  | .bar0 => 0
  | .bar1 => 1
  | .bar4 => 0
  | .config => 0

/-- The octets of each aperture (R35). -/
def barSize : Bar → Nat
  | .bar0 => 0x4000000
  | .bar1 => 0x1000000
  | .bar4 => 0x2000
  | .config => 0x1000

/-- The row of a pair's low half, where a two-DW request at `off` is an atomic pair request (R43). -/
def pairAt (off : Nat) : Option RegRow :=
  if off % 8 = 0 && viewOf off = 0 then
    match regRow (normOf off) with
    | some r => if r.pair = .low then some r else none
    | none => none
  else none

/-- A two-DW write to a pair: both halves as one update, or nothing and one bus error (R43, R47). -/
def State.pairWrite (s : State) (q : Request) (e : Env) (off : Nat) (lo hi : Word) : State :=
  let staged (r : RegRow) : State := s.setStage off (lo &&& r.rw)
  match regRow off with
  | none => s
  | some r =>
    let c0 := if q.fbe % 16 ≠ 15 then causeWidth else s.writeCause off lo
    let c1 := if q.lbe % 16 ≠ 15 then causeWidth else (staged r).writeCause (off + 4) hi
    if c0 ≠ 0 then s.busError q off c0
    else if c1 ≠ 0 then s.busError q (off + 4) c1
    else (staged r).writeReg State.bootWrite e (off + 4) hi

/-- A two-DW read of a pair: both halves from one snapshot; none for a bus error (R43, R46). -/
def State.pairRead (s : State) (q : Request) (off : Nat) : State × Option (List Word) :=
  let c0 := if q.fbe % 16 ≠ 15 then causeWidth else s.readCause off
  let c1 := if q.lbe % 16 ≠ 15 then causeWidth else s.readCause (off + 4)
  if c0 ≠ 0 then (s.busError q off c0, none)
  else if c1 ≠ 0 then (s.busError q (off + 4) c1, none)
  else
    let p := s.readReg off
    (p.1, some [p.2, p.1.latchOf (off + 4)])

/-- One DW of a request, written, with its byte enables. -/
def State.hostPut (s : State) (bar : Bar) (q : Request) (e : Env) (off : Nat) (be : BitVec 4) (v : Word) : State :=
  match bar with
  | .bar4 => s.msixPut off be v
  | .config => s.cfgPut off be v
  | .bar0 => if be ≠ 15 then s.busError q off causeWidth else (s.put e q off v).1
  | .bar1 =>
    if be ≠ 15 then s.busError q off causeWidth
    else
      let c := s.tableCause off true
      if c ≠ 0 then s.busError q off c else s.tablePut off v

/-- One DW of a request, read, with its byte enables; none for a bus error. -/
def State.hostGet (s : State) (bar : Bar) (q : Request) (off : Nat) (be : BitVec 4) : State × Option Word :=
  match bar with
  | .bar4 => (s, some (s.msixView off))
  | .config => (s, some (s.cfgView off))
  | .bar0 => if be ≠ 15 then (s.busError q off causeWidth, none) else s.getDW q off
  | .bar1 =>
    if be ≠ 15 then (s.busError q off causeWidth, none)
    else
      let c := s.tableCause off false
      if c ≠ 0 then (s.busError q off c, none) else (s, some (s.tableView off))

/-- The DW of a write request, lowest address first (R43, R44): DW `i` of `n` onwards. DW that follow one which starts a device reset
are still performed, on the state after it (DESIGN CHOICE, assumption 28: the spec says that every DW without a bus error takes
effect, and that the endpoint answers again only after start-up). -/
def hostPuts (bar : Bar) (q : Request) (e : Env) (fbe lbe : BitVec 4) (n off : Nat) : List Word → Nat → State → State
  | [], _, s => s
  | v :: vs, i, s =>
    hostPuts bar q e fbe lbe n off vs (i + 1) (s.hostPut bar q e (off + 4 * i) (enablesAt n i fbe lbe) v)

/-- The DW of a read request, each checked and performed on its own (R43): no data once one of them is in error (R44). `left` DW are
to be read, from DW `i`; `acc` holds those read so far, newest first (assumption 17). -/
def hostGets (bar : Bar) (q : Request) (fbe lbe : BitVec 4) (n off : Nat) : Nat → Nat → Option (List Word) → State →
    State × Option (List Word)
  | 0, _, acc, s => (s, acc.map List.reverse)
  | left + 1, i, acc, s =>
    let p := s.hostGet bar q (off + 4 * i) (enablesAt n i fbe lbe)
    hostGets bar q fbe lbe n off left (i + 1) (acc.bind fun ws => p.2.map fun w => w :: ws) p.1

/-- A request of `n` DW as its byte enables show it; one of a single DW has no last mask. -/
def requestOf (bar : Bar) (write : Bool) (n : Nat) (fbe lbe : BitVec 4) : Request :=
  ⟨barNo bar, write, fbe.toNat, if n ≤ 1 then 0 else lbe.toNat⟩

/-- Whether the width and alignment rules of R42 hold for an aperture: those of BAR0 and BAR1. -/
def judged (bar : Bar) : Bool := bar = .bar0 || bar = .bar1

/-- A host write request (R42-R44). In D3hot one to a BAR is unsupported. -/
def State.hostWrites (s : State) (bar : Bar) (off : Nat) (data : List Word) (fbe lbe : BitVec 4) (e : Env) : State :=
  let n := data.length
  let q := requestOf bar true n fbe lbe
  if !s.pcieUp then s
  else if bar ≠ .config && s.pcie.d3hot then s.aerNote 20
  else if judged bar && crossesAlign n fbe lbe then s.busError q off causeAlign
  else
    match data, (if bar = .bar0 then pairAt off else none) with
    | [lo, hi], some _ => s.pairWrite q e off lo hi
    | _, _ => hostPuts bar q e fbe lbe n off data 0 s

/-- A read completes: with its data, or with Completer Abort (R44, R52). -/
def State.complete (s : State) (r : Option (List Word)) : State :=
  match r with
  | some ws => s.emit (.cpl (.data ws))
  | none => (s.aerNote 15).emit (.cpl .abort)

/-- A request completes with Unsupported Request (R32). -/
def State.unsupported (s : State) : State := (s.aerNote 20).emit (.cpl .unsupported)

/-- A host read request of `n` DW (R42-R44). -/
def State.hostReads (s : State) (bar : Bar) (off n : Nat) (fbe lbe : BitVec 4) : State :=
  let q := requestOf bar false n fbe lbe
  if !s.pcieUp then s
  else if bar ≠ .config && s.pcie.d3hot then s.unsupported
  else if judged bar && crossesAlign n fbe lbe then (s.busError q off causeAlign).complete none
  else
    let p :=
      if n = 2 && (if bar = .bar0 then pairAt off else none).isSome then s.pairRead q off
      else hostGets bar q fbe lbe n off n 0 (some []) s
    p.1.complete p.2

/-- A host write of one whole DW of BAR0. -/
def State.poke (s : State) (off : Nat) (v : Word) (e : Env) : State := s.hostWrites .bar0 off [v] 15 0 e

/-! ### BAR2 (R38) -/

/-- Octets written where their byte enables are set. -/
def State.hbmPuts (s : State) (a : Nat) : List (Option Byte) → State
  | [] => s
  | some b :: bs => (s.hbmWrite a [b]).hbmPuts (a + 1) bs
  | none :: bs => s.hbmPuts (a + 1) bs

/-- A host access through the HBM3 window. -/
def State.hbmAccess (s : State) (off : Nat) (req : Bar2Req) (fbe lbe : BitVec 4) : State :=
  if !s.pcieUp then s
  else if s.pcie.d3hot then
    match req with
    | .read _ _ _ => s.unsupported
    | .write _ => s.aerNote 20
  else
    match req with
    | .read n ue ce =>
      if !s.domOn pdMem then (s.busError ⟨2, false, fbe.toNat, lbe.toNat⟩ off causeDomain).complete none
      else
        let s := ce.foldl (fun s k => s.memCe (off + k % n)) s
        match ue with
        | some k => (s.memUe (off + k)).emit (.cpl (.poisoned n))
        | none => s.emit (.cpl (.octets (s.hbmRead off n)))
    | .write bs =>
      if !s.domOn pdMem then s.busError ⟨2, true, fbe.toNat, lbe.toNat⟩ off causeDomain else s.hbmPuts off bs

/-! ### Rings 0, 1 and 24-31 (R377, R378), and the ring events -/

/-- The completion of a ring-0 descriptor on ring 1. -/
def State.postCompletion (s : State) (idx tag : Nat) (v : Word) (status : Nat) : State :=
  s.postOwed (leBytes 4 (idx % 65536 + 65536 * tag) ++ leBytes 4 v.toNat ++ List.replicate 20 0) status

/-- The writes of a WRITE descriptor, up to the first that raises a bus error: true for that end. -/
def runWrites : List (Nat × Word) → State → State × Bool
  | [], s => (s, false)
  | (off, v) :: rest, s =>
    let p := s.put {} singleWrite off v
    if p.2 then p
    else if p.1.pwr.start.isSome then p
    else runWrites rest p.1

/-- A ring-0 descriptor is returned, after it its completion (R364, R377). A ring that the accesses have taken away returns
nothing. -/
def State.ring0Return (s : State) (d : List Byte) (idx : Nat) (cpl : Bool) (v : Word) (status : Nat) : State :=
  if s.pwr.start.isSome || !s.ringServed 0 || decide (s.ringHead 0 ≠ idx) then s
  else
    let s := s.ringReturn 0 (d.take 28) (statusWord false false false status 0)
    if cpl then s.postCompletion idx (le d 2 2) v status else s

/-- Address and value `k` of a ring-0 descriptor. -/
def ring0Access (d : List Byte) (k : Nat) : Nat × Word := (le d (4 + 8 * k) 4, word (le d (8 + 8 * k) 4))

/-- The device takes the ring-0 descriptor at HEAD, where its operation is one that `ops` names: WRITE and READ under R377, any
other returned INVALID. A descriptor that posts a completion waits while ring 1 holds none, and every descriptor while completions
wait. -/
def State.ring0Take (s : State) (ops : Nat → Bool) : State :=
  let d := s.headDesc 0
  let w := le d 0 4
  let op := w % 4
  let idx := s.ringHead 0
  if !(s.ringReady 0 && ops op && (s.ringX 1).owed.isEmpty) then s
  else
    let count := w / 4 % 4
    let cpl := decide (w / 16 % 2 = 1) || decide (op = 2)
    if cpl && !s.ringReady 1 then s.ringExhaust 1 false
    else
      let s := s.setRingX 0 { s.ringX 0 with episode := false }
      if op = 1 then
        if count = 0 then s.ring0Return d idx cpl 0 1
        else
          let p := runWrites ((List.range count).map (ring0Access d)) s
          p.1.ring0Return d idx cpl 0 (if p.2 then 10 else 0)
      else if op = 2 then
        let p := s.getDW singleRead (ring0Access d 0).1
        p.1.ring0Return d idx true (p.2.getD 0) (if p.2.isSome then 0 else 10)
      else s.ring0Return d idx cpl 0 1

/-- COPY on ring `r` (R378); `ecc` gives the offset within the copy of an uncorrectable error it meets in HBM3, `ce` those of
corrected ones (R58). -/
def State.copyTake (s : State) (r : Nat) (ecc : Option Nat) (ce : List Nat) : State :=
  if !(s.ringReady r && decide (24 ≤ r) && decide (s.rf (Reg.RNG_CTRL r) 8 4 = 1)) then s
  else
    let d := s.headDesc r
    let host := le d 0 8
    let w := le d 0x0C 4
    let hbm := le d 8 4 + 2 ^ 32 * (w % 4)
    let toHost := decide (w / 2 ^ 31 = 1)
    let n := le d 0x10 4 % 2 ^ 28
    let back (s : State) (status : Nat) : State := s.ringReturn r (d.take 28) (statusWord false false false status 0)
    if n = 0 then back s 1
    else if hbmSize < hbm + n || (!toHost && decide (cacheBase < hbm + n)) then back s 8
    else if !s.domOn pdMem then back s 9
    else if toHost then
      let s := ce.foldl (fun s k => s.memCe (hbm + k % n)) s
      match ecc with
      | some k =>
        let p := s.draw 28
        let s := p.2.hostWrite host (s.hbmRead hbm (p.1 % (k % n + 1)))
        back (s.memUe (hbm + k % n)) 7
      | none => back (s.hostWrite host (s.hbmRead hbm n)) 0
    else back (s.hbmWrite hbm (s.hostRead host n)) 0

/-- RING_STOPPED: STOPPING becomes DISABLED once the work in progress is finished (R365). -/
def State.ringStopped (s : State) (r : Nat) : State :=
  if s.ringServed r && decide (s.ringState r = 2) && s.ringIdle r then s.ringOff r else s

/-- RING_DMA_ERROR: a host-memory access of a ring at work fails, with output in progress or without (R365, R370). -/
def State.ringDmaError (s : State) (r : Nat) (write work : Bool) (kind addr : Nat) : State :=
  if s.ringServed r && (decide (s.ringState r = 1) || decide (s.ringState r = 2)) then
    let s := if kind = 2 then s.aerNote 12 else if kind = 3 then s.aerNote 14 else s
    s.ringFail r write work (kind + 1) addr
  else s

/-- RING_COALESCE_TIMER: TIMER µs since the first return not yet reported (R366). -/
def State.ringTimer (s : State) (r : Nat) : State :=
  let x := s.ringX r
  let t := s.rf (Reg.RNG_THRESH r) 16 16
  if s.ringServed r && decide (t ≠ 0) && decide (x.pend ≠ 0) && decide (x.firstAt + t * fsPerUs ≤ s.now) then
    ((s.setRingX r { x with pend := 0 }).setRb (Reg.RNG_STATUS r) 8 true).ringEvent r
  else s

end Sys2Proof.Machine
end

