-- ==== Sys2Proof/Machine/AcquisitionCommands.lean ====
section
/-! DEFINITION. The meanings of the commands of acquisition, phasors, energy, triggers and the recorder, one definition each. -/

namespace Sys2Proof.Machine

/-- ACQ_CIRCUIT_ENABLE (R270). -/
def execAcqCircuitEnable (c : Fin 12) (v : Word) (s : State) : Host.Outcome State Fault Refusal :=
  .next (s.poke (Reg.ACQ_CIR_CTRL c.val) v {})

/-- ACQ_CIRCUIT_DISABLE (R270). -/
def execAcqCircuitDisable (c : Fin 12) (v : Word) (s : State) : Host.Outcome State Fault Refusal :=
  .next (s.poke (Reg.ACQ_CIR_CTRL c.val) v {})

/-- ACQ_SAMPLE (R275). -/
def execAcqSample (ch : Fin 96) (tap : Fin 7) (periods : List Nat) (levels : List Bool) (s : State) :
    Host.Outcome State Fault Refusal :=
  .next (s.acqSample ch.val tap.val (periods.zip levels))

/-- ACQ_MOD_FAULT (R273). -/
def execAcqModFault (ch : Fin 96) (s : State) : Host.Outcome State Fault Refusal :=
  .next (s.acqModFault ch.val)

/-- FLT_XFADE (R284). -/
def execFltXfade (v : Word) (s : State) : Host.Outcome State Fault Refusal :=
  .next (s.poke Reg.FLT_XF_CMD v {})

/-- PHASOR_ESTIMATE (R302). -/
def execPhasorEstimate (c : Fin 12) (s : State) : Host.Outcome State Fault Refusal :=
  .next (s.phasorEstimate c.val)

/-- ENERGY_PERIOD (R309). -/
def execEnergyPeriod (c : Fin 12) (s : State) : Host.Outcome State Fault Refusal :=
  .next (s.energyPeriod c.val)

/-- PULSE_OUTPUT (R323). -/
def execPulseOutput (n : Fin 4) (s : State) : Host.Outcome State Fault Refusal :=
  .next (s.pulseOutput n.val)

/-- NRG_INTERVAL_END (R320). -/
def execNrgIntervalEnd (s : State) : Host.Outcome State Fault Refusal :=
  .next s.nrgIntervalEnd

/-- SNAP (R317). -/
def execNrgSnap (v : Word) (s : State) : Host.Outcome State Fault Refusal :=
  .next (s.poke Reg.NRG_CMD v {})

/-- NRG_LOAD (R317). -/
def execNrgLoad (v : Word) (s : State) : Host.Outcome State Fault Refusal :=
  .next (s.poke Reg.NRG_CMD v {})

/-- NRG_CLEAR (R317). -/
def execNrgClear (v : Word) (s : State) : Host.Outcome State Fault Refusal :=
  .next (s.poke Reg.NRG_CMD v {})

/-- NRG_CIRCUIT_ENABLE (R307). -/
def execNrgCircuitEnable (c : Fin 12) (v : Word) (s : State) : Host.Outcome State Fault Refusal :=
  .next (s.poke (Reg.NRG_CIR_CTRL c.val) v {})

/-- EVT_IN_EDGE (R334). -/
def execEvtInEdge (i : Fin 16) (rising : Bool) (ph held : Nat) (s : State) : Host.Outcome State Fault Refusal :=
  .next (s.evtInEdge i.val rising ph held)

/-- MARK_HOLD_CLOSE (R333). -/
def execMarkHoldClose (s : State) : Host.Outcome State Fault Refusal :=
  .next s.markHoldClose

/-- RECORDER_FRAME (R340). -/
def execRecorderFrame (s : State) : Host.Outcome State Fault Refusal :=
  .next s.recorderFrame

/-- RECORDER_FLUSH (R340). -/
def execRecorderFlush (s : State) : Host.Outcome State Fault Refusal :=
  .next s.recorderFlush

/-- RECORDER_START (R336). -/
def execRecorderStart (v : Word) (s : State) : Host.Outcome State Fault Refusal :=
  .next (s.poke Reg.TRG_REC_CMD v {})

/-- RECORDER_STOP (R336). -/
def execRecorderStop (v : Word) (s : State) : Host.Outcome State Fault Refusal :=
  .next (s.poke Reg.TRG_REC_CMD v {})

/-- CHANNEL_HEALTHY (R273). -/
def execChannelHealthy (ch : Fin 96) (s : State) : Host.Outcome State Fault Refusal :=
  .next (s.channelHealthy ch.val)

end Sys2Proof.Machine
end

