-- ==== Sys2Proof/Machine/DistrictCommands.lean ====
section
/-! DEFINITION. The meanings of the commands of pairs, boards and districts, one definition each. -/

namespace Sys2Proof.Machine

/-- HEALTH_CHANGE (R419). -/
def execHealthChange (s : State) : Host.Outcome State Fault Refusal :=
  .next s.healthChange

/-- KICK (R419). -/
def execKick (v : Word) (s : State) : Host.Outcome State Fault Refusal :=
  .next (s.poke Reg.RED_KICK v {})

/-- KICK_EXPIRY (R419). -/
def execKickExpiry (s : State) : Host.Outcome State Fault Refusal :=
  .next s.kickExpiry

/-- HALL_PASS_CLAIM (R420). -/
def execHallPassClaim (s : State) : Host.Outcome State Fault Refusal :=
  .next s.hallClaim

/-- HALL_PASS_HOLD (R420). -/
def execHallPassHold (s : State) : Host.Outcome State Fault Refusal :=
  .next s.hallHold

/-- ILK_IN_CHANGE (R420). -/
def execIlkInChange (edge : IlkEdge) (s : State) : Host.Outcome State Fault Refusal :=
  .next (s.ilkChange edge)

/-- YIELD (R420). -/
def execHallYield (v : Word) (s : State) : Host.Outcome State Fault Refusal :=
  .next (s.poke Reg.RED_CTRL v {})

/-- ANSWER_SEND (R427). -/
def execAnswerSend (s : State) : Host.Outcome State Fault Refusal :=
  .next s.answerSend

/-- ANSWER_RECEIVE (R428). -/
def execAnswerReceive (m : List Byte) (s : State) : Host.Outcome State Fault Refusal :=
  .next (s.answerReceive m)

/-- RED_PEER_LOST (R428). -/
def execRedPeerLost (s : State) : Host.Outcome State Fault Refusal :=
  .next s.peerLost

/-- AWAIT_EXPIRY (R429). -/
def execAwaitExpiry (s : State) : Host.Outcome State Fault Refusal :=
  .next s.awaitExpiry

/-- FJL_LINK_ENABLE (R432). -/
def execFjlLinkEnable (k : Fin 7) (v : Word) (s : State) : Host.Outcome State Fault Refusal :=
  .next (s.poke (Reg.FJL_L_CTRL k.val) v {})

/-- FJL_LINK_DISABLE (R432). -/
def execFjlLinkDisable (k : Fin 7) (v : Word) (s : State) : Host.Outcome State Fault Refusal :=
  .next (s.poke (Reg.FJL_L_CTRL k.val) v {})

/-- FJL_LANES_ALIGNED (R432). -/
def execFjlLanesAligned (k : Fin 7) (s : State) : Host.Outcome State Fault Refusal :=
  .next (s.lanesAligned k.val)

/-- IDENT (R432). -/
def execFjlIdent (k : Fin 7) (pos : Nat) (s : State) : Host.Outcome State Fault Refusal :=
  .next (s.identReceive k.val pos)

/-- FJL_CHECK_TIMEOUT (R432). -/
def execFjlCheckTimeout (k : Fin 7) (s : State) : Host.Outcome State Fault Refusal :=
  .next (s.checkTimeout k.val)

/-- FJL_LANE_LOST (R432). -/
def execFjlLaneLost (k : Fin 7) (n : Fin 4) (s : State) : Host.Outcome State Fault Refusal :=
  .next (s.laneLost k.val n.val)

/-- FJL_PACKET_RECEIVE (R431). -/
def execFjlPacketReceive (k : Fin 7) (bs : List Byte) (s : State) : Host.Outcome State Fault Refusal :=
  .next (s.packetReceive k.val bs)

/-- FJL_RESEND_TIMEOUT (R431). -/
def execFjlResendTimeout (k : Fin 7) (s : State) : Host.Outcome State Fault Refusal :=
  .next (s.resendTimeout k.val)

/-- TARDY_WINDOW_END (R427). -/
def execTardyWindowEnd (s : State) : Host.Outcome State Fault Refusal :=
  .next s.tardyWindowEnd

end Sys2Proof.Machine
end

