-- ==== Sys2Proof/Machine/HostCommands.lean ====
section
/-! DEFINITION. The meanings of the commands of host requests to the apertures, one definition each. -/

namespace Sys2Proof.Machine

/-- A request that stays within its aperture has its effect; one that reaches beyond it faults (R35). -/
def inside (p : Prop) [Decidable p] (t : State) : Host.Outcome State Fault Refusal :=
  if p then .next t else .fault .outsideAperture

/-- The number of an alias view (R41). -/
def viewNo : View → Nat
  | .set => 1
  | .clr => 2
  | .tgl => 3

/-- The octets a request to the HBM3 window covers. -/
def bar2Octets : Bar2Req → Nat
  | .read n _ _ => n
  | .write bs => bs.length

/-- REGISTER_WRITE (R56). -/
def execRegisterWrite (bar : Bar) (off : Nat) (data : List Word) (fbe lbe : BitVec 4) (s : State) : Host.Outcome State Fault Refusal :=
  inside (off + 4 * data.length ≤ barSize bar) (s.hostWrites bar off data fbe lbe {})

/-- ALIAS_WRITE (R48). -/
def execAliasWrite (view : View) (reg : Nat) (v : Word) (be : BitVec 4) (s : State) : Host.Outcome State Fault Refusal :=
  inside (reg + 0x4000 * viewNo view < barSize .bar0) (s.hostWrites .bar0 (reg + 0x4000 * viewNo view) [v] be 0 {})

/-- PAIR_LOW_READ (R46). -/
def execPairLowRead (bar : Bar) (off n : Nat) (fbe lbe : BitVec 4) (s : State) : Host.Outcome State Fault Refusal :=
  inside (off + 4 * n ≤ barSize bar) (s.hostReads bar off n fbe lbe)

/-- PAIR_LOW_WRITE (R47). -/
def execPairLowWrite (reg : Nat) (v : Word) (s : State) : Host.Outcome State Fault Refusal :=
  inside (reg + 4 ≤ barSize .bar0) (s.poke reg v {})

/-- PAIR_HIGH_WRITE (R47). -/
def execPairHighWrite (reg : Nat) (v : Word) (s : State) : Host.Outcome State Fault Refusal :=
  inside (reg + 4 ≤ barSize .bar0) (s.poke reg v {})

/-- PAIR_ATOMIC_ACCESS (R43). -/
def execPairAtomicAccess (reg : Nat) (v : Option (Word × Word)) (s : State) : Host.Outcome State Fault Refusal :=
  match v with
  | some (lo, hi) => inside (reg + 8 ≤ barSize .bar0) (s.hostWrites .bar0 reg [lo, hi] 15 15 {})
  | none => inside (reg + 8 ≤ barSize .bar0) (s.hostReads .bar0 reg 2 15 15)

/-- ATOMICOP_REQUEST (R32). -/
def execAtomicopRequest (s : State) : Host.Outcome State Fault Refusal :=
  .next (if s.pcieUp then s.unsupported else s)

/-- BAR2_ACCESS (R38). -/
def execBar2Access (off : Nat) (req : Bar2Req) (fbe lbe : BitVec 4) (s : State) : Host.Outcome State Fault Refusal :=
  inside (off + bar2Octets req ≤ hbmSize) (s.hbmAccess off req fbe lbe)

/-- GLB_LOCK_SET (R53). -/
def execGlbLockSet (v : Word) (s : State) : Host.Outcome State Fault Refusal :=
  .next (s.poke Reg.GLB_LOCK v {})

/-- BUSERR_CLEAR (R52). -/
def execBuserrClear (v : Word) (s : State) : Host.Outcome State Fault Refusal :=
  .next (s.poke Reg.GLB_BUSERR_INFO v {})

/-- MEM_UE_CLEAR (R58). -/
def execMemUeClear (v : Word) (s : State) : Host.Outcome State Fault Refusal :=
  .next (s.poke Reg.GLB_MEM_STATUS v {})

end Sys2Proof.Machine
end

