-- ==== Sys2Proof/Machine/ImageCommands.lean ====
section
/-! DEFINITION. The meanings of the commands of the image loader, one definition each. -/

namespace Sys2Proof.Machine

/-- BOOT_LOAD (R67). -/
def execBootLoad (bad : List (Nat × Nat)) (desks : List (Nat × Nat)) (s : State) : Host.Outcome State Fault Refusal :=
  .next (s.bootLoad State.bootWrite bad desks)

/-- LOAD (R69). -/
def execImgLoad (v : Word) (desks : List (Nat × Nat)) (s : State) : Host.Outcome State Fault Refusal :=
  .next (s.poke Reg.IMG_LOAD_CMD v { desks := desks })

/-- CACHE (R71). -/
def execImgCache (v : Word) (s : State) : Host.Outcome State Fault Refusal :=
  .next (s.poke Reg.IMG_LOAD_CMD v {})

/-- UPDATE (R72). -/
def execUpdate (v : Word) (desks : DeskLoss) (ecc : EccMet) (s : State) : Host.Outcome State Fault Refusal :=
  .next (s.poke Reg.IMG_CLS_CMD v { desks := desks.bad.map (fun d => (fld v 8 5, d)), ecc := ecc, late := desks.late })

/-- REPAIR (R75). -/
def execRepair (v : Word) (desks : DeskLoss) (ecc : EccMet) (s : State) : Host.Outcome State Fault Refusal :=
  .next (s.poke Reg.IMG_CLS_CMD v { desks := desks.bad.map (fun d => (fld v 8 5, d)), ecc := ecc, late := desks.late })

/-- UNLOAD (R76). -/
def execUnload (v : Word) (s : State) : Host.Outcome State Fault Refusal :=
  .next (s.poke Reg.IMG_CLS_CMD v {})

/-- AUTO_REPAIR (R77). -/
def execAutoRepair (c : Fin 32) (desks : DeskLoss) (ecc : EccMet) (s : State) : Host.Outcome State Fault Refusal :=
  .next (s.autoRepair c.val { bad := desks.bad, ecc := ecc, late := desks.late })

end Sys2Proof.Machine
end

