-- ==== Sys2Proof/Machine/KeyCommands.lean ====
section
/-! DEFINITION. The meanings of the commands of the key store and tamper watch, one definition each. -/

namespace Sys2Proof.Machine

/-- GENERATE (R396). -/
def execKeyGenerate (s : State) : Host.Outcome State Fault Refusal :=
  .next (s.keyServe 1 State.opGenerate)

/-- DERIVE (R400). -/
def execKeyDerive (s : State) : Host.Outcome State Fault Refusal :=
  .next (s.keyServe 2 State.opDerive)

/-- IMPORT (R396). -/
def execKeyImport (s : State) : Host.Outcome State Fault Refusal :=
  .next (s.keyServe 3 State.opImport)

/-- FREE (R393). -/
def execKeyFree (s : State) : Host.Outcome State Fault Refusal :=
  .next (s.keyServe 4 State.opFree)

/-- REVOKE (R402). -/
def execKeyRevoke (s : State) : Host.Outcome State Fault Refusal :=
  .next (s.keyServe 5 State.opRevoke)

/-- MAC (R396). -/
def execKeyMac (s : State) : Host.Outcome State Fault Refusal :=
  .next (s.keyServe 6 State.opMac)

/-- MAC_VERIFY (R396). -/
def execKeyMacVerify (s : State) : Host.Outcome State Fault Refusal :=
  .next (s.keyServe 7 State.opMacVerify)

/-- SIGN (R396). -/
def execKeySign (s : State) : Host.Outcome State Fault Refusal :=
  .next (s.keyServe 8 State.opSign)

/-- VERIFY (R396). -/
def execKeyVerify (s : State) : Host.Outcome State Fault Refusal :=
  .next (s.keyServe 9 State.opVerify)

/-- PUBLIC (R396). -/
def execKeyPublic (s : State) : Host.Outcome State Fault Refusal :=
  .next (s.keyServe 10 State.opPublic)

/-- ATTEST (R406). -/
def execKeyAttest (s : State) : Host.Outcome State Fault Refusal :=
  .next (s.keyServe 11 State.opAttest)

/-- RANDOM (R396). -/
def execKeyRandom (s : State) : Host.Outcome State Fault Refusal :=
  .next (s.keyServe 12 State.opRandom)

/-- KEY_SCRUB (R394). -/
def execKeyScrub (upset : List Nat) (s : State) : Host.Outcome State Fault Refusal :=
  .next (s.keyScrub upset)

/-- TAMPER (R410). -/
def execTamper (pins : BitVec 4) (us : Nat) (view : TamperView) (s : State) : Host.Outcome State Fault Refusal :=
  .next (s.tamperSee pins.toNat us view.mesh view.op)

/-- TAMPER_CLR (R413). -/
def execTamperClr (v : Word) (s : State) : Host.Outcome State Fault Refusal :=
  .next (s.poke Reg.KEY_TAMPER_CLR v {})

/-- KEY_FLOOR_WRITE (R408). -/
def execKeyFloorWrite (v : Word) (s : State) : Host.Outcome State Fault Refusal :=
  .next (s.poke Reg.KEY_FLOOR v {})

end Sys2Proof.Machine
end

