-- ==== Sys2Proof/Machine/LessonCommands.lean ====
section
/-! DEFINITION. The meanings of the commands of the fabric and the lessons, one definition each. -/

namespace Sys2Proof.Machine

/-- LESSON_BEGIN (R232). -/
def execLessonBegin (i : Fin 64) (s : State) : Host.Outcome State Fault Refusal :=
  .next (s.lessonBegin i.val)

/-- RESULT_RECORD (R219). -/
def execResultRecord (c : Fin 32) (d : Fin 128) (tag : Fin 8) (stuck : List Nat) (ce : Nat) (s : State) : Host.Outcome State Fault Refusal :=
  .next (s.resultRecord c.val d.val tag.val stuck ce)

/-- REPORT_CARD_PUBLISH (R221). -/
def execReportCardPublish (i : Fin 64) (s : State) : Host.Outcome State Fault Refusal :=
  .next (s.reportCardPublish i.val)

/-- DESK_WATCHDOG_EXPIRY (R227). -/
def execDeskWatchdogExpiry (c : Fin 32) (p : DeskWatch) (s : State) : Host.Outcome State Fault Refusal :=
  .next (s.deskWatchdog c.val p.desk.val p.stuck)

/-- SLATE_PARITY_ERROR (R227). -/
def execSlateParityError (c : Fin 32) (p : Fin 136) (s : State) : Host.Outcome State Fault Refusal :=
  .next (s.slateParity c.val p.val)

/-- CHALKBOARD_UE (R228). -/
def execChalkboardUe (c : Fin 32) (rd : BoardRead) (s : State) : Host.Outcome State Fault Refusal :=
  .next (s.chalkboardUe c.val rd.tag.val rd.word)

/-- SELF_CHECK (R225). -/
def execSelfCheck (c : Fin 32) (v : Word) (bad : List Nat) (s : State) : Host.Outcome State Fault Refusal :=
  .next (s.poke (Reg.FAB_CHECK_CMD c.val) v { desks := bad.map (fun d => (c.val, d)) })

/-- SPARE_CHECK (R225). -/
def execSpareCheck (bad : List (Nat × Nat)) (s : State) : Host.Outcome State Fault Refusal :=
  .next (s.spareCheck bad)

/-- REPLICA_MEASURE (R213). -/
def execReplicaMeasure (c : Fin 32) (ps : Nat) (s : State) : Host.Outcome State Fault Refusal :=
  .next (s.replica c.val ps)

/-- ANA_COMMIT (R235). -/
def execAnaCommit (v : Word) (s : State) : Host.Outcome State Fault Refusal :=
  .next (s.poke Reg.ANA_COMMIT v {})

/-- LATCH_CLEAR (R259). -/
def execLatchClear (v : Word) (s : State) : Host.Outcome State Fault Refusal :=
  .next (s.poke Reg.ANA_LATCH v {})

end Sys2Proof.Machine
end

