-- ==== Sys2Proof/Machine/PortCommands.lean ====
section
/-! DEFINITION. The meanings of the commands of the Ethernet ports and field segments, one definition each. -/

namespace Sys2Proof.Machine

/-- MAC_CTRL_WRITE (R131). -/
def execMacCtrlWrite (p : Fin 4) (v : Word) (s : State) : Host.Outcome State Fault Refusal :=
  .next (s.poke (Reg.MAC_CTRL p.val) v {})

/-- MAC_LINK (R132). -/
def execMacLink (p : Fin 4) (block : Bool) (fec : FecReport) (s : State) : Host.Outcome State Fault Refusal :=
  .next (s.macLinkChange p.val block fec.lock fec.corr fec.uncorr)

/-- FRAME_RECEIVE (R134). -/
def execFrameReceive (p : Fin 4) (bs : List Byte) (pcsErr : Bool) (ph : Nat) (full : Bool) (s : State) : Host.Outcome State Fault Refusal :=
  .next (s.frameReceive p.val bs pcsErr ph full)

/-- PRP_LAN_FAULT (R156). -/
def execPrpLanFault (q : Fin 2) (lan : Fin 2) (s : State) : Host.Outcome State Fault Refusal :=
  .next (s.prpLanFault q.val lan.val)

/-- MAC_TRANSMIT (R138). -/
def execMacTransmit (p : Fin 4) (ph : Nat) (s : State) : Host.Outcome State Fault Refusal :=
  .next (s.macTransmit p.val ph)

/-- T1S_DESCRIPTOR_TAKE (R147). -/
def execT1sDescriptorTake (s : State) : Host.Outcome State Fault Refusal :=
  .next s.t1sTake

/-- T1S_DEFER_END (R145). -/
def execT1sDeferEnd (g : Fin 4) (s : State) : Host.Outcome State Fault Refusal :=
  .next (s.t1sDeferEnd g.val)

/-- T1S_SEND_COMPLETE (R145). -/
def execT1sSendComplete (g : Fin 4) (s : State) : Host.Outcome State Fault Refusal :=
  .next (s.t1sSendComplete g.val)

/-- T1S_COLLISION (R145). -/
def execT1sCollision (g : Fin 4) (bits : Nat) (s : State) : Host.Outcome State Fault Refusal :=
  .next (s.t1sCollision g.val bits)

/-- T1S_BACKOFF_EXPIRY (R145). -/
def execT1sBackoffExpiry (g : Fin 4) (s : State) : Host.Outcome State Fault Refusal :=
  .next (s.t1sBackoffExpiry g.val)

/-- T1S_SEED_WRITE (R146). -/
def execT1sSeedWrite (v : Word) (s : State) : Host.Outcome State Fault Refusal :=
  .next (s.poke Reg.T1S_SEED v {})

/-- T1S_RECEIVE (R148). -/
def execT1sReceive (g : Fin 4) (bs : List Byte) (full : Bool) (s : State) : Host.Outcome State Fault Refusal :=
  .next (s.t1sReceive g.val bs full)

end Sys2Proof.Machine
end

