-- ==== Sys2Proof/Machine/PowerCommands.lean ====
section
/-! DEFINITION. The meanings of the commands of power, resets, start-up and the governor, one definition each. -/

namespace Sys2Proof.Machine

/-- DEVICE_RESET (R450). -/
def execDeviceReset (v : Word) (s : State) : Host.Outcome State Fault Refusal :=
  .next (s.poke Reg.GLB_RESET v {})

/-- FUNCTION_LEVEL_RESET (R33). -/
def execFunctionLevelReset (d3hot : Bool) (s : State) : Host.Outcome State Fault Refusal :=
  .next (if s.pcieUp && !(d3hot && s.pcie.d3hot) then s.functionReset d3hot else s)

/-- PERST (R450). -/
def execPerst (s : State) : Host.Outcome State Fault Refusal :=
  .next s.perst

/-- MAIN_POWER_ON_RESET (R450). -/
def execMainPowerOnReset (power : MainPower) (s : State) : Host.Outcome State Fault Refusal :=
  .next (s.mainPower power)

/-- START_UP (R452). -/
def execStartUp (pairId : Bool) (release : Release) (s : State) : Host.Outcome State Fault Refusal :=
  .next (s.startUp pairId release)

/-- PWR_DOMAIN_EN_WRITE (R441). -/
def execPwrDomainEnWrite (v : Word) (s : State) : Host.Outcome State Fault Refusal :=
  .next (s.poke Reg.PWR_DOMAIN_EN v {})

/-- PWR_DOMAIN_DONE (R441). -/
def execPwrDomainDone (s : State) : Host.Outcome State Fault Refusal :=
  .next s.domainDone

/-- RECESS (R444). -/
def execPwrRecess (v : Word) (s : State) : Host.Outcome State Fault Refusal :=
  .next (s.poke Reg.PWR_CMD v {})

/-- RUN (R443). -/
def execPwrRun (v : Word) (s : State) : Host.Outcome State Fault Refusal :=
  .next (s.poke Reg.PWR_CMD v {})

/-- WAKE (R445). -/
def execPwrWake (s : State) : Host.Outcome State Fault Refusal :=
  .next s.wake

/-- GOV_WINDOW_END (R447). -/
def execGovWindowEnd (s : State) : Host.Outcome State Fault Refusal :=
  .next s.windowEnd

/-- AVS_RESPONSE (R448). -/
def execAvsResponse (r : Option Nat) (s : State) : Host.Outcome State Fault Refusal :=
  .next (s.avsResponse r)

/-- GOV_ENABLE (R448). -/
def execGovEnable (v : Word) (s : State) : Host.Outcome State Fault Refusal :=
  .next (s.poke Reg.PWR_GOV_CTRL v {})

/-- GOV_REQ (R449). -/
def execGovReq (v : Word) (s : State) : Host.Outcome State Fault Refusal :=
  .next (s.poke Reg.PWR_GOV_REQ v {})

/-- THERM (R484). -/
def execTherm (temps : List Int) (s : State) : Host.Outcome State Fault Refusal :=
  .next (s.therm temps)

/-- BANK_SUPPLY_CHANGE (R472). -/
def execBankSupplyChange (b : Fin 4) (mv : Nat) (s : State) : Host.Outcome State Fault Refusal :=
  .next (s.bankSupply b.val mv)

/-- PERST_RELEASE (R452). The link trains to its target rate (R31). -/
def execPerstRelease (s : State) : Host.Outcome State Fault Refusal :=
  .next { s with pwr := { s.pwr with perst := false }, pcie := { s.pcie with trained := s.pcie.target } }

end Sys2Proof.Machine
end

