-- ==== Sys2Proof/Machine/RingCommands.lean ====
section
/-! DEFINITION. The meanings of the commands of the rings and events, one definition each. -/

namespace Sys2Proof.Machine

/-- RING_TAIL_ADVANCE (R363). -/
def execRingTailAdvance (r : Fin 32) (v : Word) (s : State) : Host.Outcome State Fault Refusal :=
  .next (s.poke (Reg.RNG_TAIL r.val) v {})

/-- RING_ENABLE (R365). -/
def execRingEnable (r : Fin 32) (v : Word) (s : State) : Host.Outcome State Fault Refusal :=
  .next (s.poke (Reg.RNG_CTRL r.val) v {})

/-- RING_DISABLE (R365). -/
def execRingDisable (r : Fin 32) (v : Word) (s : State) : Host.Outcome State Fault Refusal :=
  .next (s.poke (Reg.RNG_CTRL r.val) v {})

/-- RING_STOPPED (R365). -/
def execRingStopped (r : Fin 32) (s : State) : Host.Outcome State Fault Refusal :=
  .next (s.ringStopped r.val)

/-- RING_DMA_ERROR (R370). -/
def execRingDmaError (r : Fin 32) (access : RingAccess) (kind : Fin 4) (addr : Nat) (s : State) : Host.Outcome State Fault Refusal :=
  .next (s.ringDmaError r.val access.write access.work kind.val addr)

/-- RING_COALESCE_TIMER (R366). -/
def execRingCoalesceTimer (r : Fin 32) (s : State) : Host.Outcome State Fault Refusal :=
  .next (s.ringTimer r.val)

/-- WRITE (R377). -/
def execRingWrite (s : State) : Host.Outcome State Fault Refusal :=
  .next (s.ring0Take (fun op => decide (op ≠ 2)))

/-- READ (R377). -/
def execRingRead (s : State) : Host.Outcome State Fault Refusal :=
  .next (s.ring0Take (fun op => decide (op = 2)))

/-- COPY (R378). -/
def execRingCopy (r : Fin 32) (ecc : EccMet) (s : State) : Host.Outcome State Fault Refusal :=
  .next (s.copyTake r.val ecc.ue ecc.ce)

/-- EVT_STATUS_CLEAR (R381). -/
def execEvtStatusClear (k : Fin 2) (v : Word) (s : State) : Host.Outcome State Fault Refusal :=
  .next (s.poke (Reg.EVT_STATUS k.val) v {})

/-- SOFT (R383). -/
def execSoft (v : Word) (s : State) : Host.Outcome State Fault Refusal :=
  .next (s.poke Reg.EVT_SOFT v {})

end Sys2Proof.Machine
end

