-- ==== Sys2Proof/Machine/Bells.lean ====
section
/-! DEFINITION. The timetable (R188, R190, R201, R354): what a bell fires, and in what order. -/

namespace Sys2Proof.Machine

/-- The atomic flow of the frames of seat `code`: n for remote seat n, 16,384 + k for local seat Lk, which the seat codes are (R201). -/
def frameFlow (code : Nat) : Nat := code

/-- The atomic flow of the releases of form `f` (R201). -/
def releaseFlow (f : Nat) : Nat := 16400 + f

/-- An entry of the timetable that a bell fires: a form by its release flow, or a timer (R354). -/
inductive Entry where
  | form (f : Nat)
  | timer (t : Timer)
deriving DecidableEq, Repr

/-- An entry that is due: its due time, and the earliest time a bell that fires it can have: later than the due time for a form after a
hold and for a timer that was armed late (R188, R355). -/
structure DueEntry where
  due : Stamp
  ready : Stamp
  what : Entry
deriving DecidableEq, Repr

/-- The deadline of the next roll of form `f` where it is on time base `n` and due at its last bell (R188). -/
def State.formDue (s : State) (n f : Nat) : Option Stamp :=
  let x := s.form f
  if (x.parMap x.next.sec).tb = n && s.formActs f then
    match s.lastBell n with
    | some b => if x.deadline x.next ≤ b then some (x.deadline x.next) else none
    | none => none
  else none

/-- The timers on time base `n` that are due at its last bell, those armed first in front. -/
def State.timersDue (s : State) (n : Nat) : List Timer :=
  if s.domOn pdSch then s.sched.timers.filter (fun t => decide (t.tb = n) && s.timerDue t) else []

/-- Every entry on time base `n` that is due at its last bell: forms in ascending order, then timers. -/
def State.entriesDue (s : State) (n : Nat) : List DueEntry :=
  s.liveForms.filterMap (fun f => (s.formDue n f).map (fun d => ⟨d, max d ((s.form f).heldAt.getD 0), .form f⟩)) ++
    (s.timersDue n).map (fun t => ⟨t.due, max t.due t.since, .timer t⟩)

/-- The entry that is first by `key`; of equal ones the first. -/
def earliest (key : DueEntry → Stamp) (l : List DueEntry) : Option DueEntry :=
  l.foldl (fun a e =>
    match a with
    | some x => if key e < key x then some e else some x
    | none => some e) none

/-- A seated frame that goes to form `f` and was seated before deadline `d` (R201). -/
def State.beforeDeadline (s : State) (f : Nat) (d : Stamp) (g : Seated) : Bool :=
  match s.seat g.code with
  | some x => decide ((s.filedIn x g).1 = f) && decide (g.seatedAt < d)
  | none => false

/-- Frames seated before a deadline of their form are granted before it, in the order in which they were seated (R201). -/
def State.fileBefore (s : State) (f : Nat) (d : Stamp) : State :=
  let early := s.seated.filter (s.beforeDeadline f d)
  let s := { s with seated := s.seated.filter (fun g => !s.beforeDeadline f d g) }
  (early.foldl (fun s g => s.fileGrant true g) s).removeFinish

/-- The next roll of form `f`, whose deadline is `d`, is closed. -/
def State.closeNext (s : State) (f : Nat) (d : Stamp) : Closed × State :=
  let s := s.fileBefore f d
  let x := s.form f
  s.closeRoll f x.next false (s.lateAt (x.parMap x.next.sec).tb d x.heldAt)

/-- The entries of time base `n` that the bell at `b` fires, in order of due time (R354); `acc` holds the rolls closed before. -/
def fireBell (n : Nat) (b : Stamp) : Nat → List Closed → State → List Closed × State
  | 0, acc, s => (acc, s)
  | fuel + 1, acc, s =>
    match earliest DueEntry.due ((s.entriesDue n).filter (fun e => decide (e.ready ≤ b))) with
    | some e =>
      match e.what with
      | .form f =>
        let c := s.closeNext f e.due
        fireBell n b fuel (acc ++ [c.1]) c.2
      | .timer t => fireBell n b fuel acc (s.fireTimer t)
    | none => (acc, s)

/-- Closed rolls in ascending form number, those of one form as they were closed (R190). -/
def byForm (l : List Closed) : List Closed :=
  (List.range 256).flatMap (fun f => l.filter (fun c => decide (c.roll.form = f)))

/-- Entries that the bells of time base `n` can fire. -/
def State.bellFuel (s : State) (n : Nat) : Nat :=
  s.liveForms.foldl (fun a f => a + s.relFuel f) (s.timersDue n).length

/-- The rolls that one bell closed are delivered, and after them the ring-13 records that its grants left (R190, R198). -/
def State.deliverBell (s : State) (l : List Closed) : State :=
  (byForm l).foldl (fun s c => s.slipsOut c.roll.form) ((byForm l).foldl State.deliverClosed s)

/-- The bells of time base `n` up to the last, one after the other: each fires its entries and then delivers the rolls it closed. -/
def ringBells (n : Nat) : Nat → List Closed → State → State
  | 0, acc, s => s.deliverBell acc
  | fuel + 1, acc, s =>
    match earliest DueEntry.ready (s.entriesDue n) with
    | none => s.deliverBell acc
    | some e =>
      let c := fireBell n (s.bellAfter n e.ready) (s.bellFuel n) acc s
      ringBells n fuel [] (c.2.deliverBell c.1)

/-- The GAP row acts for the forms on time base `n` (R199). -/
def State.gapsOf (s : State) (n : Nat) : List Closed × State :=
  (s.liveForms.filter (fun f => decide (((s.form f).parMap (s.form f).next.sec).tb = n))).foldl
    (fun (a : List Closed × State) f =>
      let c := a.2.gapClose f
      (a.1 ++ c.1, c.2)) ([], s)

/-- What the bells of time base `n` fire up to the last one. -/
def State.bellsOf (s : State) (n : Nat) : State :=
  let g := s.gapsOf n
  ringBells n (g.2.bellFuel n) g.1 g.2

/-- What the bells of every time base fire up to the last one (R354). -/
def State.bells (s : State) : State := (((s.bellsOf 0).bellsOf 1).bellsOf 2).bellsOf 3

end Sys2Proof.Machine
end

