-- ==== Sys2Proof/Machine/StreamCommands.lean ====
section
/-! DEFINITION. The meanings of the commands of stream intake and roll call, one definition each. -/

namespace Sys2Proof.Machine

/-- INTAKE_FRAME (R161). -/
def execIntakeFrame (p : Fin 4) (s : State) : Host.Outcome State Fault Refusal :=
  .next (s.intakeFrame p.val)

/-- SEAT_ADD (R174). -/
def execSeatAdd (v : Word) (s : State) : Host.Outcome State Fault Refusal :=
  .next (s.poke Reg.ITK_SEAT_CMD v {})

/-- SEAT_REMOVE (R174). -/
def execSeatRemove (v : Word) (s : State) : Host.Outcome State Fault Refusal :=
  .next (s.poke Reg.ITK_SEAT_CMD v {})

/-- STREAM_SILENT (R178). -/
def execStreamSilent (code : Nat) (s : State) : Host.Outcome State Fault Refusal :=
  .next (s.streamSilent code)

/-- FRAME_FILE (R185). -/
def execFrameFile (s : State) : Host.Outcome State Fault Refusal :=
  .next s.frameFile

/-- ROLL_RELEASE (R188). -/
def execRollRelease (s : State) : Host.Outcome State Fault Refusal :=
  .next s.bells

/-- RCL_ENABLE (R188). -/
def execRclEnable (v : Word) (s : State) : Host.Outcome State Fault Refusal :=
  .next (s.poke Reg.RCL_CTRL v {})

/-- START (R199). -/
def execFormStart (v : Word) (s : State) : Host.Outcome State Fault Refusal :=
  .next (s.poke Reg.RCL_CMD v {})

/-- STOP (R199). -/
def execFormStop (v : Word) (s : State) : Host.Outcome State Fault Refusal :=
  .next (s.poke Reg.RCL_CMD v {})

/-- RETIME (R199). -/
def execFormRetime (v : Word) (s : State) : Host.Outcome State Fault Refusal :=
  .next (s.poke Reg.RCL_CMD v {})

/-- MOVE (R200). -/
def execSeatMove (v : Word) (s : State) : Host.Outcome State Fault Refusal :=
  .next (s.poke Reg.RCL_CMD v {})

end Sys2Proof.Machine
end

