-- ==== Sys2Proof/Machine/TaskCommands.lean ====
section
/-! DEFINITION. The meanings of the commands of the scheduler, one definition each. -/

namespace Sys2Proof.Machine

/-- CREATE (R347). -/
def execTaskCreate (v : Word) (s : State) : Host.Outcome State Fault Refusal :=
  .next (s.poke Reg.SCH_TASK_CMD v {})

/-- DESTROY (R348). -/
def execTaskDestroy (v : Word) (s : State) : Host.Outcome State Fault Refusal :=
  .next (s.poke Reg.SCH_TASK_CMD v {})

/-- DONE (R348). -/
def execTaskDone (v : Word) (s : State) : Host.Outcome State Fault Refusal :=
  .next (s.poke Reg.SCH_TASK_CMD v {})

/-- FLAG_SET (R349). -/
def execFlagSet (v : Word) (s : State) : Host.Outcome State Fault Refusal :=
  .next (s.poke Reg.SCH_FLAG_SET v {})

/-- DISPATCH (R350). -/
def execDispatch (sets : List (Nat × Word)) (s : State) : Host.Outcome State Fault Refusal :=
  .next (s.dispatch sets)

/-- TASK_ENGINE_COMPLETE (R348). -/
def execTaskEngineComplete (i : Nat) (s : State) : Host.Outcome State Fault Refusal :=
  .next (s.engineComplete i)

/-- ARM (R355). -/
def execTimerArm (v : Word) (s : State) : Host.Outcome State Fault Refusal :=
  .next (s.poke Reg.SCH_TMR_CMD v {})

/-- DISARM (R355). -/
def execTimerDisarm (v : Word) (s : State) : Host.Outcome State Fault Refusal :=
  .next (s.poke Reg.SCH_TMR_CMD v {})

/-- TIMER_FIRE (R355). -/
def execTimerFire (s : State) : Host.Outcome State Fault Refusal :=
  .next s.bells

end Sys2Proof.Machine
end

