-- ==== Sys2Proof/Machine/Boundary.lean ====
section
/-! DEFINITION. The boundary register of the test access port and the balls it owns (R488-R490), and the levels at OBS (R492). -/

namespace Sys2Proof.Machine

/-- A signal with boundary cells (R488). -/
inductive BSig where
  | modDat (n : Nat)
  | modClk (n : Nat)
  | evtIn (n : Nat)
  | ppsIn
  | alm (n : Nat)
  | pulse (n : Nat)
  | ppsOut (n : Nat)
  | ospiClk
  | ospiCsN
  | ospiResetN
  | ospiDqs
  | ospiD (n : Nat)
  | avsClk
  | avsMdata
  | avsSdata
  | obs (n : Nat)
  | pairId
  | boardPos (n : Nat)
  | perstN
  | ilkIn
  | ilkOut
  | t1s (n : Nat)
  | serdesTx (n : Nat)
  | serdesRx (n : Nat)
  | refclk
  | pcieRefclk
  | group (seg : Nat)
deriving DecidableEq, Repr

/-- The kind of a cell. An output cell names the control cell that enables it. -/
inductive BKind where
  | input
  | output (ctl : Nat)
  | control
  | observe
  | acDrive
  | acReceive
deriving DecidableEq, Repr

/-- A cell: its signal and kind. -/
abbrev BCell := BSig × BKind

/-- The segments of R488, from TDO. SerDes pairs are numbered with Fjarni links 0-6 by lane first, then Ethernet 0-3, then PCIe lanes
0-7. -/
def boundarySegs : List (List BCell) :=
  [(List.range 96).map (fun n => (.modDat n, .input)),
   (List.range 12).map (fun n => (.modClk n, .output 108)) ++ [(.group 2, .control)],
   (List.range 16).map (fun n => (.evtIn n, .input)) ++ [(.ppsIn, .input)],
   (List.range 16).map (fun n => (.alm n, .output 150)) ++ (List.range 4).map (fun n => (.pulse n, .output 150)) ++
     (List.range 4).map (fun n => (.ppsOut n, .output 150)) ++ [(.group 4, .control)],
   [(.ospiClk, .output 154), (.ospiCsN, .output 154), (.ospiResetN, .output 154), (.group 5, .control), (.ospiDqs, .input)] ++
     (List.range 8).flatMap (fun n => [(.ospiD n, .input), (.ospiD n, .output (158 + 3 * n)), (.ospiD n, .control)]),
   [(.avsClk, .output 182), (.avsMdata, .output 182), (.group 6, .control), (.avsSdata, .input)],
   (List.range 16).map (fun n => (.obs n, .output 200)) ++ [(.group 7, .control)],
   [(.pairId, .input), (.boardPos 0, .input), (.boardPos 1, .input), (.boardPos 2, .input), (.perstN, .input), (.ilkIn, .input)],
   [(.ilkOut, .observe)],
   (List.range 8).map (fun n => (.t1s n, .observe)),
   (List.range 40).map (fun n => (.serdesTx n, .acDrive)) ++ (List.range 40).map (fun n => (.serdesRx n, .acReceive)),
   [(.refclk, .observe), (.pcieRefclk, .observe)]]

/-- The cells, cell 0 nearest TDO. -/
def boundaryCells : List BCell := boundarySegs.flatMap id

/-- The data register that an instruction code selects while it acts as itself (R487). -/
inductive DataReg where
  | boundary
  | idcode
  | tmx
  | bypass
deriving DecidableEq, Repr

/-- The data register between TDI and TDO: a refused instruction and a code not listed act as BYPASS (R487). -/
def State.dataReg (s : State) : DataReg :=
  let i := s.tapInstr
  if s.tapRefused i then .bypass
  else if i = 0 || i = 2 || i = 3 || i = 4 then .boundary
  else if i = 1 then .idcode
  else if i = 0x10 then .tmx
  else .bypass

/-- IDCODE: version 2, part 0x9840, manufacturer 0x6A7, bit 0 set (R487). -/
def idcode : Nat := 0x29840D4F

/-! ### OBS[15:0] (R492) -/

/-- The domain whose logic drives a source of R492; none for a source in PD_BASE. -/
def obsDomain (src param : Nat) : Option Nat :=
  match src with
  | 1 => some (classDomain param)
  | 2 => some pdRcl
  | 3 => some pdRcl
  | 4 => some pdSch
  | 6 => some pdAcq
  | 7 => some pdAcq
  | 9 => some pdSch
  | 10 => some pdLink
  | 11 => some (portDomain param)
  | 12 => some pdHost
  | _ => none

/-- A strobe of R492: it stands for at least 8.00 ns and reaches its ball at some time up to 20.0 ns after its event, so that what
it reads between commands is a free value of the source, the signal and the time; 0 for a source that is off. -/
def State.obsStrobe (s : State) (src param sig : Nat) : Bool :=
  (match obsDomain src param with
    | some d => s.domOn d
    | none => true) && Config.obsStrobe src param sig s.now

/-- The level of a signal of a source: its level, or a strobe (a report card requests while a record waits to be taken, and isolation
is active while a switched domain is off: DEDUCED, assumption 153). -/
def State.obsLevel (s : State) (src param sig : Nat) : Bool :=
  match src, sig with
  | 0, _ => false
  | 1, 0 => s.domOn (classDomain param) && !(s.classroom param).stalled.isEmpty
  | 4, 3 => s.domOn pdSch && !s.sched.cover.isEmpty
  | 5, 2 => decide (s.tbState param = 4)
  | 6, 0 => s.domOn pdAcq && s.modClkLevel param
  | 6, 3 => s.domOn pdAcq && decide (s.rf (Reg.ACQ_CIR_STATUS param) 0 8 ≠ 0)
  | 8, 3 => s.pwr.ask.isSome
  | 9, 0 => s.domOn pdSch && s.rb Reg.RED_STATUS 3
  | 9, 1 => s.domOn pdSch && s.rb Reg.RED_STATUS 2
  | 9, 2 => s.domOn pdSch && s.healthyNow
  | 9, 3 => s.domOn pdSch && decide (s.rf Reg.RED_STATUS 0 2 = 1)
  | 10, 0 => s.domOn pdLink && decide (s.rf (Reg.FJL_L_STATUS param) 8 4 = 15)
  | 13, 0 => s.rb Reg.PWR_DOMAIN_STATUS 16
  | 13, 1 => decide (s.rf Reg.PWR_DOMAIN_STATUS 0 12 ≠ 0xFFF)
  | 13, 2 => decide (s.pwrState = 2)
  | 13, 3 => decide (s.pwr.start ≠ some .full)
  | _, _ => s.obsStrobe src param sig

/-- The level at OBS[n]; none while OBS_EN is 0 and the pins are high-impedance (R492). -/
def State.obsPin (s : State) (n : Nat) : Option Bool :=
  if s.rb Reg.TMX_CTRL 2 then
    let w := s.reg (Reg.TMX_OBS_SEL (n / 4))
    some (s.obsLevel (fld w 0 4) (fld w 8 5) (n % 4))
  else none

/-! ### The boundary register (R488-R490) -/

/-- The level that the function of an output signal drives, where the state holds it; `none` while it is not driven. -/
def State.functionLevel (s : State) : BSig → Option Bool
  | .modClk n => some (s.domOn pdAcq && s.modClkLevel n)
  | .alm n => some (s.domOn pdSch && s.almLevel n)
  | .pulse n => some (s.pulseLevel n)
  | .ppsOut n => some (decide (s.now < (s.tb n).ppsUntil))
  | .obs n => s.obsPin n
  | .ilkOut => if s.pass.drives then some false else none
  | _ => none

/-- What ALM and PULSE give while the gate of the hall pass is closed, whatever their cells hold (R481, R489); none for another
signal. -/
def State.gatedLevel (s : State) : BSig → Option Bool
  | .alm n => if s.gate then none else some (s.domOn pdSch && s.rb (Reg.PIN_CTRL n) 3)
  | .pulse _ => if s.gate then none else some false
  | _ => none

/-- The level at the ball of cell `i` when an instruction that needs BSCAN_EN owns it (R488, R489): HIGHZ releases every output; ALM and
PULSE pass the gate of the hall pass; a clear control cell releases its group; ILK_OUT is never claimed. -/
def State.cellLevel (s : State) (i : Nat) : Option Bool :=
  let c := s.tap.update.getLsbD i
  match boundaryCells.getD i (.refclk, .observe) with
  | (sig, .output ctl) =>
    if s.tapInstr = 5 then none
    else
      match s.gatedLevel sig with
      | some l => some l
      | none => if s.tap.update.getLsbD ctl then some c else none
  | (_, .acDrive) => if s.tapInstr = 5 then none else some c
  | (sig, _) => s.functionLevel sig

/-- The level at the ball of cell `i` (R490). -/
def State.ballLevel (s : State) (i : Nat) : Option Bool :=
  if s.boundary then s.cellLevel i else s.functionLevel (boundaryCells.getD i (.refclk, .observe)).1

/-- Capture-DR of the boundary register: an input, an observe-only cell and a test receiver take the level at the ball, an output cell
the level its function drives where the state holds it; `balls` has every other bit. -/
def State.boundaryCapture (s : State) (balls : BitVec 298) : BitVec 298 :=
  let bit1 := fun (i : Nat) =>
    match boundaryCells.getD i (.refclk, .observe) with
    | (sig, .output _) => (s.functionLevel sig).getD (balls.getLsbD i)
    | _ => balls.getLsbD i
  BitVec.ofNat 298 ((List.range 298).foldl (fun a i => a + 2 ^ i * (bit1 i).toNat) 0)

/-- The levels that the AC drive cells hold, TX pair 0 in bit 0 (R488). -/
def State.acCells (s : State) : Nat := s.tap.update.toNat >>> 216 % 2 ^ 40

/-- `idle` cycles of TCK in Run-Test/Idle under the current instruction: EXTEST_PULSE takes the AC drive cells to the other level and
back once, EXTEST_TRAIN changes them with every cycle and leaves them as they were (R487; the waveforms are those of IEEE 1149.6,
PRESUMED, assumption 177). -/
def State.acRun (s : State) (idle : Nat) : State :=
  if idle = 0 || s.tapRefused s.tapInstr then s
  else if s.tapInstr = 3 then { s with out := .acTest s.acCells 2 :: s.out }
  else if s.tapInstr = 4 then { s with out := .acTest s.acCells (idle + idle % 2) :: s.out }
  else s

/-- A data scan under the current instruction: what Capture-DR loaded comes out at TDO, and Update-DR of the boundary register takes the
bits shifted in (R487, R488). The bypass cell gives the 0 it captured and then the bits shifted in, one bit late. A scan of TMX_ACCESS
is a command of its own (R491). -/
def State.dataScan (s : State) (balls shifted : BitVec 298) : State :=
  match s.dataReg with
  | .boundary =>
    let s := s.emit (.jtag (s.boundaryCapture balls).toNat)
    { s with tap := { s.tap with update := shifted } }
  | .idcode => s.emit (.jtag idcode)
  | .bypass => s.emit (.jtag (throughBypass 298 shifted.toNat))
  | .tmx => s

/-- TDO between two scans: high-impedance (R481). The bits of a scan leave as `jtag`. -/
def State.tdoLevel (_ : State) : Option Bool := none

/-- JTAG_INSTRUCTION: the data scan made since the last Update-IR, if any; the cycles in Run-Test/Idle; the instruction scan, which
captures 0b0000_0001; and Update-IR (R486, R487). -/
def State.jtagScan (s : State) (j : JtagScan) : State :=
  let s :=
    match j.data with
    | some (balls, shifted) => s.dataScan balls shifted
    | none => s
  ((s.acRun j.idle).emit (.jtag 1)).updateIr j.code.toNat

end Sys2Proof.Machine
end

