-- ==== Sys2Proof/Machine/TestCommands.lean ====
section
/-! DEFINITION. The meanings of the commands of the test access port, one definition each. -/

namespace Sys2Proof.Machine

/-- JTAG_INSTRUCTION (R486, R487, R488). -/
def execJtagInstruction (scan : JtagScan) (s : State) :
    Host.Outcome State Fault Refusal :=
  .next (s.jtagScan scan)

/-- TMX_ACCESS (R491). -/
def execTmxAccess (w : BitVec 48) (s : State) : Host.Outcome State Fault Refusal :=
  .next (s.tapAccess w)

/-- TEST_LOGIC_RESET (R486). -/
def execTestLogicReset (s : State) : Host.Outcome State Fault Refusal :=
  .next s.tapReset

end Sys2Proof.Machine
end

