-- ==== Sys2Proof/Machine/TimeCommands.lean ====
section
/-! DEFINITION. The meanings of the commands of the time bases and the real-time clock, one definition each. -/

namespace Sys2Proof.Machine

/-- The coming tick edge takes the counter to RTC_ALARM or past it (R123). -/
def State.alarmDue (s : State) : Bool :=
  let a := s.pair Reg.RTC_ALARM_LO
  s.rb Reg.RTC_CTRL 1 && decide (s.rtc.count < a) && decide (a ≤ s.crystalTick.rtc.count)

/-- TB_ENABLE (R90). -/
def execTbEnable (n : Fin 4) (v : Word) (s : State) : Host.Outcome State Fault Refusal :=
  .next (s.poke (Reg.TB_CTRL n.val) v {})

/-- TB_DISABLE (R90). -/
def execTbDisable (n : Fin 4) (v : Word) (s : State) : Host.Outcome State Fault Refusal :=
  .next (s.poke (Reg.TB_CTRL n.val) v {})

/-- STEP_GO (R92). -/
def execStepGo (n : Fin 4) (v : Word) (s : State) : Host.Outcome State Fault Refusal :=
  .next (s.poke (Reg.TB_CTRL n.val) v {})

/-- STEP_APPLY (R92). -/
def execStepApply (n : Fin 4) (s : State) : Host.Outcome State Fault Refusal :=
  .next (s.stepApply n.val)

/-- TB_RATE_COMMIT (R88). -/
def execTbRateCommit (n : Fin 4) (v : Word) (s : State) : Host.Outcome State Fault Refusal :=
  .next (s.poke (Reg.TB_RATE_HI n.val) v {})

/-- HOLD_REQ (R106). -/
def execHoldReq (n : Fin 4) (v : Word) (s : State) : Host.Outcome State Fault Refusal :=
  .next (s.poke (Reg.TB_CTRL n.val) v {})

/-- HOLD_REL (R90). -/
def execHoldRel (n : Fin 4) (v : Word) (s : State) : Host.Outcome State Fault Refusal :=
  .next (s.poke (Reg.TB_CTRL n.val) v {})

/-- TB_WATCHDOG_EXPIRY (R106). -/
def execTbWatchdogExpiry (n : Fin 4) (s : State) : Host.Outcome State Fault Refusal :=
  .next (s.tbWatchdog n.val)

/-- TB_MPD_SAMPLE (R103). -/
def execTbMpdSample (n : Fin 4) (v : Word) (s : State) : Host.Outcome State Fault Refusal :=
  .next (s.poke (Reg.TB_MPD n.val) v {})

/-- PLL_LOSS_OF_LOCK (R89). -/
def execPllLossOfLock (s : State) : Host.Outcome State Fault Refusal :=
  .next s.pllLoss

/-- PLL_LOCK (R89). -/
def execPllLock (s : State) : Host.Outcome State Fault Refusal :=
  .next (s.setRb Reg.TB_PLL 8 true)

/-- PPS_IN_EDGE (R96). -/
def execPpsInEdge (rising : Bool) (width ph : Nat) (s : State) : Host.Outcome State Fault Refusal :=
  .next (s.ppsIn rising width ph)

/-- PPS_OUT_PULSE (R97). -/
def execPpsOutPulse (n : Fin 4) (s : State) : Host.Outcome State Fault Refusal :=
  .next (s.ppsOut n.val)

/-- LEAP_PEND_START (R108). -/
def execLeapPendStart (n : Fin 4) (s : State) : Host.Outcome State Fault Refusal :=
  .next (s.leapPend n.val)

/-- LEAP_SECOND_APPLY (R108). -/
def execLeapSecondApply (n : Fin 4) (s : State) : Host.Outcome State Fault Refusal :=
  .next (s.leapApply n.val)

/-- LEAP_OCC_EXPIRY (R108). -/
def execLeapOccExpiry (n : Fin 4) (s : State) : Host.Outcome State Fault Refusal :=
  .next (s.leapExpire n.val)

/-- TSQ_POP (R111). -/
def execTsqPop (p : Fin 4) (v : Word) (s : State) : Host.Outcome State Fault Refusal :=
  .next (s.poke (Reg.TSQ_POP p.val) v {})

/-- RTC_LOAD_ARM (R118). -/
def execRtcLoadArm (v : Word) (s : State) : Host.Outcome State Fault Refusal :=
  .next (s.poke Reg.RTC_LOAD_HI v {})

/-- RTC_LOAD_APPLY (R118). -/
def execRtcLoadApply (s : State) : Host.Outcome State Fault Refusal :=
  .next (if s.rtc.load.isSome then s.crystalTick else s)

/-- RTC_ALARM (R123). -/
def execRtcAlarm (s : State) : Host.Outcome State Fault Refusal :=
  .next (if s.alarmDue then s.crystalTick else s)

/-- OSC_STOP (R127). -/
def execOscStop (s : State) : Host.Outcome State Fault Refusal :=
  .next s.oscStop

/-- BAT_LOW_SAMPLE (R127). -/
def execBatLowSample (mv : Nat) (s : State) : Host.Outcome State Fault Refusal :=
  .next (s.batSample mv)

/-- SWITCH_TO_VBAT (R124). -/
def execSwitchToVbat (s : State) : Host.Outcome State Fault Refusal :=
  .next s.toVbat

/-- SWITCH_TO_VIO18 (R124). -/
def execSwitchToVio18 (s : State) : Host.Outcome State Fault Refusal :=
  .next s.toVio18

/-- PD_AON_POWER_ON_RESET (R126). -/
def execPdAonPowerOnReset (s : State) : Host.Outcome State Fault Refusal :=
  .next s.rtcPor.keyAonPor

/-- CRYSTAL_TICK (R115). -/
def execCrystalTick (s : State) : Host.Outcome State Fault Refusal :=
  .next s.crystalTick

end Sys2Proof.Machine
end

