-- ==== Sys2Proof/Machine/Dispatch.lean ====
section
/-! DEFINITION. The dispatch of a command to its meaning. -/

namespace Sys2Proof.Machine

def exec (i : Instr) (s : State) : Host.Outcome State Fault Refusal :=
  match i with
  | .registerWrite bar off data fbe lbe => Sys2Proof.Machine.execRegisterWrite bar off data fbe lbe s
  | .aliasWrite view reg v be => Sys2Proof.Machine.execAliasWrite view reg v be s
  | .pairLowRead bar off n fbe lbe => Sys2Proof.Machine.execPairLowRead bar off n fbe lbe s
  | .pairLowWrite reg v => Sys2Proof.Machine.execPairLowWrite reg v s
  | .pairHighWrite reg v => Sys2Proof.Machine.execPairHighWrite reg v s
  | .pairAtomicAccess reg v => Sys2Proof.Machine.execPairAtomicAccess reg v s
  | .atomicopRequest => Sys2Proof.Machine.execAtomicopRequest s
  | .bar2Access off req fbe lbe => Sys2Proof.Machine.execBar2Access off req fbe lbe s
  | .glbLockSet v => Sys2Proof.Machine.execGlbLockSet v s
  | .buserrClear v => Sys2Proof.Machine.execBuserrClear v s
  | .memUeClear v => Sys2Proof.Machine.execMemUeClear v s
  | .deviceReset v => Sys2Proof.Machine.execDeviceReset v s
  | .functionLevelReset d3hot => Sys2Proof.Machine.execFunctionLevelReset d3hot s
  | .perst => Sys2Proof.Machine.execPerst s
  | .mainPowerOnReset power => Sys2Proof.Machine.execMainPowerOnReset power s
  | .startUp pairId release => Sys2Proof.Machine.execStartUp pairId release s
  | .bootLoad bad desks => Sys2Proof.Machine.execBootLoad bad desks s
  | .imgLoad v desks => Sys2Proof.Machine.execImgLoad v desks s
  | .imgCache v => Sys2Proof.Machine.execImgCache v s
  | .update v desks ecc => Sys2Proof.Machine.execUpdate v desks ecc s
  | .repair v desks ecc => Sys2Proof.Machine.execRepair v desks ecc s
  | .unload v => Sys2Proof.Machine.execUnload v s
  | .autoRepair c desks ecc => Sys2Proof.Machine.execAutoRepair c desks ecc s
  | .tbEnable n v => Sys2Proof.Machine.execTbEnable n v s
  | .tbDisable n v => Sys2Proof.Machine.execTbDisable n v s
  | .stepGo n v => Sys2Proof.Machine.execStepGo n v s
  | .stepApply n => Sys2Proof.Machine.execStepApply n s
  | .tbRateCommit n v => Sys2Proof.Machine.execTbRateCommit n v s
  | .holdReq n v => Sys2Proof.Machine.execHoldReq n v s
  | .holdRel n v => Sys2Proof.Machine.execHoldRel n v s
  | .tbWatchdogExpiry n => Sys2Proof.Machine.execTbWatchdogExpiry n s
  | .tbMpdSample n v => Sys2Proof.Machine.execTbMpdSample n v s
  | .pllLossOfLock => Sys2Proof.Machine.execPllLossOfLock s
  | .pllLock => Sys2Proof.Machine.execPllLock s
  | .ppsInEdge rising width ph => Sys2Proof.Machine.execPpsInEdge rising width ph s
  | .ppsOutPulse n => Sys2Proof.Machine.execPpsOutPulse n s
  | .leapPendStart n => Sys2Proof.Machine.execLeapPendStart n s
  | .leapSecondApply n => Sys2Proof.Machine.execLeapSecondApply n s
  | .leapOccExpiry n => Sys2Proof.Machine.execLeapOccExpiry n s
  | .tsqPop p v => Sys2Proof.Machine.execTsqPop p v s
  | .rtcLoadArm v => Sys2Proof.Machine.execRtcLoadArm v s
  | .rtcLoadApply => Sys2Proof.Machine.execRtcLoadApply s
  | .rtcAlarm => Sys2Proof.Machine.execRtcAlarm s
  | .oscStop => Sys2Proof.Machine.execOscStop s
  | .batLowSample mv => Sys2Proof.Machine.execBatLowSample mv s
  | .switchToVbat => Sys2Proof.Machine.execSwitchToVbat s
  | .switchToVio18 => Sys2Proof.Machine.execSwitchToVio18 s
  | .pdAonPowerOnReset => Sys2Proof.Machine.execPdAonPowerOnReset s
  | .macCtrlWrite p v => Sys2Proof.Machine.execMacCtrlWrite p v s
  | .macLink p block fec => Sys2Proof.Machine.execMacLink p block fec s
  | .frameReceive p bs pcsErr ph full => Sys2Proof.Machine.execFrameReceive p bs pcsErr ph full s
  | .prpLanFault q lan => Sys2Proof.Machine.execPrpLanFault q lan s
  | .macTransmit p ph => Sys2Proof.Machine.execMacTransmit p ph s
  | .t1sDescriptorTake => Sys2Proof.Machine.execT1sDescriptorTake s
  | .t1sDeferEnd g => Sys2Proof.Machine.execT1sDeferEnd g s
  | .t1sSendComplete g => Sys2Proof.Machine.execT1sSendComplete g s
  | .t1sCollision g bits => Sys2Proof.Machine.execT1sCollision g bits s
  | .t1sBackoffExpiry g => Sys2Proof.Machine.execT1sBackoffExpiry g s
  | .t1sSeedWrite v => Sys2Proof.Machine.execT1sSeedWrite v s
  | .t1sReceive g bs full => Sys2Proof.Machine.execT1sReceive g bs full s
  | .intakeFrame p => Sys2Proof.Machine.execIntakeFrame p s
  | .seatAdd v => Sys2Proof.Machine.execSeatAdd v s
  | .seatRemove v => Sys2Proof.Machine.execSeatRemove v s
  | .streamSilent code => Sys2Proof.Machine.execStreamSilent code s
  | .frameFile => Sys2Proof.Machine.execFrameFile s
  | .rollRelease => Sys2Proof.Machine.execRollRelease s
  | .rclEnable v => Sys2Proof.Machine.execRclEnable v s
  | .formStart v => Sys2Proof.Machine.execFormStart v s
  | .formStop v => Sys2Proof.Machine.execFormStop v s
  | .formRetime v => Sys2Proof.Machine.execFormRetime v s
  | .seatMove v => Sys2Proof.Machine.execSeatMove v s
  | .lessonBegin desk => Sys2Proof.Machine.execLessonBegin desk s
  | .resultRecord c d tag stuck ce => Sys2Proof.Machine.execResultRecord c d tag stuck ce s
  | .reportCardPublish desk => Sys2Proof.Machine.execReportCardPublish desk s
  | .deskWatchdogExpiry c p => Sys2Proof.Machine.execDeskWatchdogExpiry c p s
  | .slateParityError c p => Sys2Proof.Machine.execSlateParityError c p s
  | .chalkboardUe c rd => Sys2Proof.Machine.execChalkboardUe c rd s
  | .selfCheck c v bad => Sys2Proof.Machine.execSelfCheck c v bad s
  | .spareCheck bad => Sys2Proof.Machine.execSpareCheck bad s
  | .replicaMeasure c ps => Sys2Proof.Machine.execReplicaMeasure c ps s
  | .anaCommit v => Sys2Proof.Machine.execAnaCommit v s
  | .latchClear v => Sys2Proof.Machine.execLatchClear v s
  | .acqCircuitEnable c v => Sys2Proof.Machine.execAcqCircuitEnable c v s
  | .acqCircuitDisable c v => Sys2Proof.Machine.execAcqCircuitDisable c v s
  | .acqSample ch tap periods levels => Sys2Proof.Machine.execAcqSample ch tap periods levels s
  | .acqModFault ch => Sys2Proof.Machine.execAcqModFault ch s
  | .fltXfade v => Sys2Proof.Machine.execFltXfade v s
  | .phasorEstimate c => Sys2Proof.Machine.execPhasorEstimate c s
  | .energyPeriod c => Sys2Proof.Machine.execEnergyPeriod c s
  | .pulseOutput n => Sys2Proof.Machine.execPulseOutput n s
  | .nrgIntervalEnd => Sys2Proof.Machine.execNrgIntervalEnd s
  | .nrgSnap v => Sys2Proof.Machine.execNrgSnap v s
  | .nrgLoad v => Sys2Proof.Machine.execNrgLoad v s
  | .nrgClear v => Sys2Proof.Machine.execNrgClear v s
  | .nrgCircuitEnable c v => Sys2Proof.Machine.execNrgCircuitEnable c v s
  | .evtInEdge input rising ph held => Sys2Proof.Machine.execEvtInEdge input rising ph held s
  | .markHoldClose => Sys2Proof.Machine.execMarkHoldClose s
  | .recorderFrame => Sys2Proof.Machine.execRecorderFrame s
  | .recorderFlush => Sys2Proof.Machine.execRecorderFlush s
  | .recorderStart v => Sys2Proof.Machine.execRecorderStart v s
  | .recorderStop v => Sys2Proof.Machine.execRecorderStop v s
  | .taskCreate v => Sys2Proof.Machine.execTaskCreate v s
  | .taskDestroy v => Sys2Proof.Machine.execTaskDestroy v s
  | .taskDone v => Sys2Proof.Machine.execTaskDone v s
  | .flagSet v => Sys2Proof.Machine.execFlagSet v s
  | .dispatch sets => Sys2Proof.Machine.execDispatch sets s
  | .taskEngineComplete engine => Sys2Proof.Machine.execTaskEngineComplete engine s
  | .timerArm v => Sys2Proof.Machine.execTimerArm v s
  | .timerDisarm v => Sys2Proof.Machine.execTimerDisarm v s
  | .timerFire => Sys2Proof.Machine.execTimerFire s
  | .ringTailAdvance r v => Sys2Proof.Machine.execRingTailAdvance r v s
  | .ringEnable r v => Sys2Proof.Machine.execRingEnable r v s
  | .ringDisable r v => Sys2Proof.Machine.execRingDisable r v s
  | .ringStopped r => Sys2Proof.Machine.execRingStopped r s
  | .ringDmaError r access kind addr => Sys2Proof.Machine.execRingDmaError r access kind addr s
  | .ringCoalesceTimer r => Sys2Proof.Machine.execRingCoalesceTimer r s
  | .ringWrite => Sys2Proof.Machine.execRingWrite s
  | .ringRead => Sys2Proof.Machine.execRingRead s
  | .ringCopy r ecc => Sys2Proof.Machine.execRingCopy r ecc s
  | .evtStatusClear k v => Sys2Proof.Machine.execEvtStatusClear k v s
  | .soft v => Sys2Proof.Machine.execSoft v s
  | .keyGenerate => Sys2Proof.Machine.execKeyGenerate s
  | .keyDerive => Sys2Proof.Machine.execKeyDerive s
  | .keyImport => Sys2Proof.Machine.execKeyImport s
  | .keyFree => Sys2Proof.Machine.execKeyFree s
  | .keyRevoke => Sys2Proof.Machine.execKeyRevoke s
  | .keyMac => Sys2Proof.Machine.execKeyMac s
  | .keyMacVerify => Sys2Proof.Machine.execKeyMacVerify s
  | .keySign => Sys2Proof.Machine.execKeySign s
  | .keyVerify => Sys2Proof.Machine.execKeyVerify s
  | .keyPublic => Sys2Proof.Machine.execKeyPublic s
  | .keyAttest => Sys2Proof.Machine.execKeyAttest s
  | .keyRandom => Sys2Proof.Machine.execKeyRandom s
  | .keyScrub upset => Sys2Proof.Machine.execKeyScrub upset s
  | .tamper pins us view => Sys2Proof.Machine.execTamper pins us view s
  | .tamperClr v => Sys2Proof.Machine.execTamperClr v s
  | .keyFloorWrite v => Sys2Proof.Machine.execKeyFloorWrite v s
  | .healthChange => Sys2Proof.Machine.execHealthChange s
  | .kick v => Sys2Proof.Machine.execKick v s
  | .kickExpiry => Sys2Proof.Machine.execKickExpiry s
  | .hallPassClaim => Sys2Proof.Machine.execHallPassClaim s
  | .hallPassHold => Sys2Proof.Machine.execHallPassHold s
  | .ilkInChange edge => Sys2Proof.Machine.execIlkInChange edge s
  | .hallYield v => Sys2Proof.Machine.execHallYield v s
  | .answerSend => Sys2Proof.Machine.execAnswerSend s
  | .answerReceive m => Sys2Proof.Machine.execAnswerReceive m s
  | .redPeerLost => Sys2Proof.Machine.execRedPeerLost s
  | .awaitExpiry => Sys2Proof.Machine.execAwaitExpiry s
  | .fjlLinkEnable k v => Sys2Proof.Machine.execFjlLinkEnable k v s
  | .fjlLinkDisable k v => Sys2Proof.Machine.execFjlLinkDisable k v s
  | .fjlLanesAligned k => Sys2Proof.Machine.execFjlLanesAligned k s
  | .fjlIdent k pos => Sys2Proof.Machine.execFjlIdent k pos s
  | .fjlCheckTimeout k => Sys2Proof.Machine.execFjlCheckTimeout k s
  | .fjlLaneLost k n => Sys2Proof.Machine.execFjlLaneLost k n s
  | .fjlPacketReceive k bs => Sys2Proof.Machine.execFjlPacketReceive k bs s
  | .fjlResendTimeout k => Sys2Proof.Machine.execFjlResendTimeout k s
  | .pwrDomainEnWrite v => Sys2Proof.Machine.execPwrDomainEnWrite v s
  | .pwrDomainDone => Sys2Proof.Machine.execPwrDomainDone s
  | .pwrRecess v => Sys2Proof.Machine.execPwrRecess v s
  | .pwrRun v => Sys2Proof.Machine.execPwrRun v s
  | .pwrWake => Sys2Proof.Machine.execPwrWake s
  | .govWindowEnd => Sys2Proof.Machine.execGovWindowEnd s
  | .avsResponse r => Sys2Proof.Machine.execAvsResponse r s
  | .govEnable v => Sys2Proof.Machine.execGovEnable v s
  | .govReq v => Sys2Proof.Machine.execGovReq v s
  | .therm temps => Sys2Proof.Machine.execTherm temps s
  | .jtagInstruction scan => Sys2Proof.Machine.execJtagInstruction scan s
  | .tmxAccess w => Sys2Proof.Machine.execTmxAccess w s
  | .testLogicReset => Sys2Proof.Machine.execTestLogicReset s
  | .tardyWindowEnd => Sys2Proof.Machine.execTardyWindowEnd s
  | .channelHealthy ch => Sys2Proof.Machine.execChannelHealthy ch s
  | .bankSupplyChange b mv => Sys2Proof.Machine.execBankSupplyChange b mv s
  | .crystalTick => Sys2Proof.Machine.execCrystalTick s
  | .perstRelease => Sys2Proof.Machine.execPerstRelease s

end Sys2Proof.Machine
end

