-- ==== Sys2Proof/Machine/Period.lean ====
section
/-! DEFINITION. What comes about by the passing of time alone, where the table of commands has no row for it. -/

namespace Sys2Proof.Machine

/-- One period of the 1.6 GHz time clock passes with what falls due at its end: the time bases advance (R87), and the jams that the
field segments have sent end (R145). -/
def State.period (s : State) : State := s.clockPeriod.t1sJams

end Sys2Proof.Machine
end

