-- ==== Sys2Proof/Machine/Step.lean ====
section
/-! DEFINITION. One step of the block: the command at the front of the queue, or where none waits one period of the time clock. -/

namespace Sys2Proof.Machine

/-- The command at the front of the queue is taken and run with the queue's rest; with no command waiting one period of the 1.6 GHz
time clock passes (R87; DESIGN CHOICE, assumption 1). -/
def step (s : State) : Host.Outcome State Fault Refusal :=
  match s.pending with
  | [] => .next s.period
  | c :: rest => exec c { s with pending := rest }

/-- The table gives no row a word, so no word stands for a command: the queue stays as it is. -/
def State.withFetchWord (s : State) (_nbits _w : Nat) : State := s

end Sys2Proof.Machine
end

