-- ==== Sys2Proof/Safety.lean ====
section
/-! DEFINITION. What counts as a safe run of the block, in the terms that statements use. -/

namespace Sys2Proof.Machine

/-- A command completes at a state: it has its effect and neither faults nor is refused. -/
def Completes (c : Instr) (s : State) : Prop := ∃ t, exec c s = .next t

/-- What every state of the part keeps: the register file, the tables and the two memories are in canonical form (rising addresses, no
entry that equals what an unlisted one reads as). -/
structure State.Canonical (s : State) : Prop where
  regs : Tab.wf regReset s.regs = true
  stages : Tab.wf regReset s.stages = true
  latches : Tab.wf (fun _ => 0) s.latches = true
  tables : Tab.wf (fun _ => 0) s.tables = true
  hbm : Memory.wf s.hbm = true
  hostMem : Memory.wf s.hostMem = true

/-- The host's write of a whole DW at BAR0 offset `off` is performed: the endpoint answers and R52 names no cause against it. -/
def State.Accepts (s : State) (off : Nat) (v : Word) : Prop := s.hostUp = true ∧ s.writeCause off v = 0

/-- The STATUS bit of event `e` (R380). -/
def State.event (s : State) (e : Nat) : Bool := s.rb (Reg.EVT_STATUS (e / 32)) (e % 32)

/-- A register outside the units EVT, RNG and TRG. Those three hold what raising any event may write: STATUS and the counters, the
event log's ring, the triggers that watch events (R327, R380-R383). -/
abbrev OutsideEvents (off : Nat) : Prop := off / 0x10000 ≠ 1 ∧ off / 0x10000 ≠ 12 ∧ off / 0x10000 ≠ 22

/-- Every register outside EVT, RNG and TRG that `but` does not list reads as before. -/
def RegsKept (s t : State) (but : List Nat) : Prop := ∀ off, OutsideEvents off → off ∉ but → t.reg off = s.reg off

/-- Every register that `but` does not list reads as before. -/
def AllRegsKept (s t : State) (but : List Nat) : Prop := ∀ off, off ∉ but → t.reg off = s.reg off

/-- Nothing outside the registers has changed but what raising events uses: MSI-X messages, the log's descriptors in host memory and
the bookkeeping of rings, triggers and marks, a wake held. -/
def OnlyRegsAndEvents (s t : State) : Prop :=
  t = { s with
    regs := t.regs, msix := t.msix, out := t.out, hostMem := t.hostMem, rings := t.rings, pwr := t.pwr, trigs := t.trigs
    marks := t.marks }

/-- From `s`, in which every classroom is EMPTY and every engine unconfigured, a verified image is applied to its end: no classroom lacks
a spare, the boot register list raises no bus error and resets nothing (R68 steps 3 to 5). -/
def State.AppliesImage (s : State) (rd : ImageSource) (desks : List (Nat × Nat)) (warm : Bool) : Prop :=
  let h := rd 0 4096
  let u := s.unconfigure.applyDevice (secEntry h 0) (sectionFrames rd h 0)
  let p := writeClasses desks (u.placeable rd h) u
  let q := runBootList State.bootWrite warm (bootList (payloadOf (secFrames (secEntry h 0)) (sectionFrames rd h 0))) p.1
  p.2 = none ∧ q.2 = true ∧ q.1.pwr.start = none

/-- The loader's report of a load (R84): BUSY clear, the code and the section. -/
def State.LoadEnded (s : State) (code sec : Nat) : Prop :=
  s.rb Reg.IMG_LOAD_STATUS 0 = false ∧ s.rf Reg.IMG_LOAD_STATUS 8 8 = code ∧ s.rf Reg.IMG_LOAD_STATUS 16 6 = sec

/-- The report of a classroom command (R85): the code, the classroom, READY with the next sequence number. -/
def State.ClassEnded (s t : State) (code c : Nat) : Prop :=
  t.rf Reg.IMG_CLS_STATUS 16 8 = code ∧ t.rf Reg.IMG_CLS_STATUS 24 5 = c ∧ t.rb Reg.IMG_CLS_STATUS 31 = true ∧
    t.rf Reg.IMG_CLS_STATUS 0 16 = (s.rf Reg.IMG_CLS_STATUS 0 16 + 1) % 2 ^ 16

/-- The report of a command in a group's status register `st`: the result, READY with the next sequence number (R50). -/
def State.Reported (s t : State) (st res : Nat) : Prop :=
  t.rf st 16 8 = res ∧ t.rb st 31 = true ∧ t.rf st 0 16 = (s.rf st 0 16 + 1) % 2 ^ 16

/-- Whether a rewrite of classroom `c` in which the self-check fails the desks in `bad` finds a desk for each logical index (R226). -/
def State.Spares (s : State) (c : Nat) (bad : List Nat) : Prop :=
  (mapDesks (fun p => decide (s.desk c p = 3) || decide (p < deskCount) && bad.contains p) (s.baseMap c)).isSome = true

/-- HEAD of ring `r` after one more descriptor is returned (R363); HEAD has 16 bits. -/
def State.ringNext (s : State) (r : Nat) : Nat := (s.ringHead r + 1) % s.ringSize r % 2 ^ 16

/-- The power domains that PWR_DOMAIN_EN asks for, and those that are on, have their prerequisites (R440). -/
def State.DomainsClosed (s : State) : Prop :=
  prerequisiteMissing s.domainEn = false ∧ prerequisiteMissing (s.rf Reg.PWR_DOMAIN_STATUS 0 12) = false

/-- From `s` one bus error of cause `cause` at offset `off` has been counted, captured while no capture was held, and raised as event 61;
no register but those has changed (R52). -/
def State.TookBusError (s t : State) (off cause : Nat) : Prop :=
  t.event 61 = true ∧ t.rb Reg.GLB_BUSERR_INFO 31 = true ∧
    (s.rb Reg.GLB_BUSERR_INFO 31 = false → t.reg Reg.GLB_BUSERR_ADDR = word (off / 4 * 4) ∧ t.rf Reg.GLB_BUSERR_INFO 16 4 = cause) ∧
    RegsKept s t [Reg.GLB_BUSERR_ADDR, Reg.GLB_BUSERR_INFO]

/-- The alarm's part of a step of the RTC counter from `s` to `t` (R123): an update from below RTC_ALARM to it or past it sets the flag,
and raises event 12, or owes it until the event unit runs; another leaves both. -/
def State.AlarmJudged (s t : State) : Prop :=
  if s.rb Reg.RTC_CTRL 1 = true ∧ s.rtc.count < s.pair Reg.RTC_ALARM_LO ∧ s.pair Reg.RTC_ALARM_LO ≤ t.rtc.count then
    t.rb Reg.RTC_STATUS 8 = true ∧ (s.evtRuns = true → t.event 12 = true) ∧ (s.evtRuns = false → t.rtc.owed12 = true)
  else t.rb Reg.RTC_STATUS 8 = s.rb Reg.RTC_STATUS 8 ∧ t.rtc.owed12 = s.rtc.owed12

/-- From `u`, frame `f` goes to its receive ring (R136, R367, R368, R373): where the descriptor at HEAD holds it whole, its octets are
written to that buffer and the descriptor is returned with SOP and EOP; where the ring holds none, the frame is lost and counted. -/
def State.GivenToRing (u t : State) (f : RxFrame) : Prop :=
  (u.ringReady f.ring = false →
    t.reg (Reg.RNG_CNT f.ring 1) = satWord (u.reg (Reg.RNG_CNT f.ring 1)) 1 ∧ t.ringHead f.ring = u.ringHead f.ring) ∧
  ∀ (d : List Byte) (n : Nat), d = u.headDesc f.ring → n = f.octets.length → u.ringReady f.ring = true → bufUsable (bufLen d) = true →
    0 < n → n ≤ bufLen d →
    t = (u.hostWrite (bufAddr d) f.octets).ringReturn f.ring
      (frameDesc d { port := f.port, cause := 0, stamp := f.stamp, tb := f.tb, rct := f.rct } n n)
      (statusWord false true true 0 0)

/-- The ACTIVE desk `p` of classroom `c` is retired for `cause`: FABc_RETIRED, FAULT_INFO and event 3; a classroom in SERVICE comes under
cover and is COVERED; no desk of another classroom is touched (R77, R226). -/
def State.DeskRetired (s t : State) (c p cause : Nat) : Prop :=
  t.desk c p = 3 ∧ t.rb (Reg.FAB_RETIRED c (p / 32)) (p % 32) = true ∧ t.event 3 = true ∧
    t.reg (Reg.FAB_FAULT_INFO c) = word (p + 256 * s.logicalOf c p + 65536 * cause) ∧
    (s.clsState c = 1 → t.clsState c = 3 ∧ t.inCover c = true ∧ (s.inCover c = false → t.event 4 = true)) ∧
    ∀ k, k ≠ c → t.desksIn k 3 = s.desksIn k 3

/-- Nothing outside the registers has changed. -/
def OnlyRegs (s t : State) : Prop := t = { s with regs := t.regs }

end Sys2Proof.Machine
end

