-- ==== Sys2Proof/Certificates/Slice0/Obligations.lean ====
section
/-! DEFINITION. The statements about the block, for the provers. -/

open Sys2Proof Sys2Proof.Machine

/-! ### The machine as a whole -/

/-- A step takes the command at the front of the queue and runs it with the queue's rest. -/
def Obligations.StepRunsTheFrontCommand : Prop :=
  ∀ (s : State) (c : Instr) (rest : List Instr),
    step { s with pending := c :: rest } = exec c { s with pending := rest }

/-- The state at reset is canonical, its domains have their prerequisites, no lock is set and the gate of the hall pass is shut. The model's
reading or choice, by assumption: which reset State.reset is (8). -/
def Obligations.ResetMeetsTheInvariants : Prop :=
  State.reset.Canonical ∧ State.reset.DomainsClosed ∧ State.reset.reg Reg.GLB_LOCK = 0 ∧ State.reset.gate = false

/-- Every step keeps the canonical form of registers, stages, latches, tables and the two memories. The model's reading or choice, by
assumption: what an octet or a table entry reads as that nothing has written (2, 3). -/
def Obligations.StepKeepsTheCanonicalForm : Prop :=
  ∀ s t : State, s.Canonical → step s = .next t → t.Canonical

/-- A step takes at most the front command off the queue, never sets time back and never takes back what the part has sent. The model's
reading or choice, by assumption: a step on an empty queue (1). -/
def Obligations.StepKeepsQueueTimeAndOutput : Prop :=
  ∀ s t : State, step s = .next t → t.pending = s.pending.tail ∧ s.now ≤ t.now ∧ s.out <:+ t.out

/-- A step keeps every lock bit that is set, unless it resets the device: only a device reset and a power-on reset clear one (R53). The
model's reading or choice, by assumption: the DW that follow one which resets the device (28). -/
def Obligations.LocksStayUntilAReset : Prop :=
  ∀ (s t : State) (k : Fin 7), step s = .next t → s.rb Reg.GLB_LOCK k = true →
    t.rb Reg.GLB_LOCK k = true ∨ t.reg Reg.GLB_LOCK = 0 ∧ t.pwr.start ≠ none

/-- Every step keeps the rule of the domains: each domain that is asked for, or on, has its prerequisites (R440, R441). The model's reading
or choice, by assumption: the order of a change and writes outside RUN (37, 38), RECESS as one step (41). -/
def Obligations.DomainsKeepTheirPrerequisites : Prop :=
  ∀ s t : State, s.DomainsClosed → step s = .next t → t.DomainsClosed

/-- In no step does a pulse leave while the gate of the hall pass is shut, and in every state whose gate is shut ALM rests at its inactive
level and PULSE low, in functional mode and under every boundary instruction but HIGHZ, which releases them (R30, R421, R481, R489). The
model's reading or choice, by assumption: what stands in the boundary register (153), the level of PULSE (179). -/
def Obligations.AlarmOutputsNeedTheHallPass : Prop :=
  (∀ (s t : State) (n w : Nat), step s = .next t → s.gate = false → .pulse n w ∈ t.out → .pulse n w ∈ s.out) ∧
  (∀ (s : State) (n : Fin 16) (m : Fin 4), s.gate = false →
    s.functionLevel (.alm n) = some (s.domOn pdSch && s.rb (Reg.PIN_CTRL n) 3) ∧ s.functionLevel (.pulse m) = some false ∧
    (s.boundary = true → s.tapInstr ≠ 5 →
      s.ballLevel (126 + n) = some (s.domOn pdSch && s.rb (Reg.PIN_CTRL n) 3) ∧ s.ballLevel (142 + m) = some false) ∧
    (s.boundary = true → s.tapInstr = 5 → s.ballLevel (126 + n) = none ∧ s.ballLevel (142 + m) = none))

/-- No command is refused, and only a host request beyond its aperture faults; every other command completes, from every state. That such
a request faults is the model's choice (assumption 14, DESIGN CHOICE): the spec does not say what reaches the part. -/
def Obligations.OnlyRequestsBeyondAnApertureStop : Prop :=
  ∀ (c : Instr) (s : State),
    (∃ t, exec c s = .next t) ∨
    exec c s = .fault .outsideAperture ∧
      match c with
      | .registerWrite bar off data _ _ => barSize bar < off + 4 * data.length
      | .aliasWrite view reg _ _ => barSize .bar0 ≤ reg + 0x4000 * viewNo view
      | .pairLowRead bar off n _ _ => barSize bar < off + 4 * n
      | .pairLowWrite reg _ => barSize .bar0 < reg + 4
      | .pairHighWrite reg _ => barSize .bar0 < reg + 4
      | .pairAtomicAccess reg _ => barSize .bar0 < reg + 8
      | .bar2Access off req _ _ => hbmSize < off + bar2Octets req
      | _ => False

/-! ### Host link (R31-R58) -/

/-- REGISTER_WRITE and ALIAS_WRITE of a register whose field is marked A: the written word, or an OR, an AND with the complement or an
exclusive OR with it; in RTC_CTRL, whose bits 0, 1 and 3 are marked A, an alias write changes no other bit. An alias write of a register
with no field marked A, and any read of an alias view, has cause ALIAS; a write of a locked register has cause LOCK, and an alias write of one,
which has no field marked A, ALIAS, the first of the two in the table (R48, R49, R52, R53).
REGISTER_WRITE in table space: software owns the coefficient banks, which take the word; a DW of an installed seat's descriptor, or one that
only hardware writes, is a bus error and keeps its content (R36, R52, R174). The model's reading or choice, by assumption: what an alias
write presents (20), the cause of an alias write of a locked register (22), the lock-out (23). -/
def Obligations.RegisterAliasAndTableWrites : Prop :=
  (∀ (s : State) (k : Fin 4) (v : Word), s.hostUp = true →
    exec (.registerWrite .bar0 (Reg.GLB_SCRATCH k) [v] 15 0) s = .next (s.setReg (Reg.GLB_SCRATCH k) v) ∧
    exec (.aliasWrite .set (Reg.GLB_SCRATCH k) v 15) s = .next (s.setReg (Reg.GLB_SCRATCH k) (s.reg (Reg.GLB_SCRATCH k) ||| v)) ∧
    exec (.aliasWrite .clr (Reg.GLB_SCRATCH k) v 15) s = .next (s.setReg (Reg.GLB_SCRATCH k) (s.reg (Reg.GLB_SCRATCH k) &&& ~~~ v)) ∧
    exec (.aliasWrite .tgl (Reg.GLB_SCRATCH k) v 15) s = .next (s.setReg (Reg.GLB_SCRATCH k) (s.reg (Reg.GLB_SCRATCH k) ^^^ v))) ∧
  (∀ (s : State) (v : Word), s.hostUp = true → s.rtc.lockout = false →
    exec (.aliasWrite .set Reg.RTC_CTRL v 15) s = .next (s.setReg Reg.RTC_CTRL (s.reg Reg.RTC_CTRL ||| (v &&& 0xB))) ∧
    exec (.aliasWrite .clr Reg.RTC_CTRL v 15) s = .next (s.setReg Reg.RTC_CTRL (s.reg Reg.RTC_CTRL &&& ~~~ (v &&& 0xB))) ∧
    exec (.aliasWrite .tgl Reg.RTC_CTRL v 15) s = .next (s.setReg Reg.RTC_CTRL (s.reg Reg.RTC_CTRL ^^^ (v &&& 0xB)))) ∧
  (∀ (s : State) (view : View) (off : Nat) (v : Word) (r : RegRow), regRow off = some r → off % 0x10000 < 0x4000 →
    s.reachable off = true →
    s.readCause (off + 0x4000 * viewNo view) = 5 ∧ (r.am = 0 → s.writeCause (off + 0x4000 * viewNo view) v = 5) ∧
    (∀ b : Nat, r.rw ≠ 0 → r.lock = some b → s.rb Reg.GLB_LOCK b = true →
      s.writeCause off v = 7 ∧ s.writeCause (off + 0x4000 * viewNo view) v = 5)) ∧
  (∀ (s : State) (off d : Nat) (v : Word), s.hostUp = true → off + 4 ≤ barSize .bar1 →
    (tableDW off = .plain d → s.domOn d = true →
      exec (.registerWrite .bar1 off [v] 15 0) s = .next (s.setTw off v)) ∧
    (s.tableCause off true ≠ 0 → ∃ t, exec (.registerWrite .bar1 off [v] 15 0) s = .next t ∧ t.tables = s.tables ∧ t.event 61 = true))

/-- A write that meets a cause of R52 is discarded, captured while VALID is clear, counted, and raises event 61. A DW that is not enabled
whole has cause WIDTH, and two DW with exactly four contiguous octets enabled across their boundary are one bus error of cause ALIGN, with
nothing performed. In a longer write each DW takes effect on its own, and one in error is discarded alone; a longer read with a DW in error
gives no data (R42-R44, R52). The model's reading or choice, by assumption: the later DW of a read that has failed (17), what two such DW
that cross the boundary do outside BAR0 and BAR1 (18). -/
def Obligations.BusErrorsAreCaptured : Prop :=
  (∀ (s : State) (off : Nat) (v : Word), s.hostUp = true → off + 4 ≤ barSize .bar0 → s.writeCause off v ≠ 0 →
    ∃ t, exec (.registerWrite .bar0 off [v] 15 0) s = .next t ∧
      t.event 61 = true ∧ t.rb Reg.GLB_BUSERR_INFO 31 = true ∧
      t.rf Reg.GLB_BUSERR_INFO 20 8 = min 255 ((if s.rb Reg.GLB_BUSERR_INFO 31 then s.rf Reg.GLB_BUSERR_INFO 20 8 else 0) + 1) ∧
      (s.rb Reg.GLB_BUSERR_INFO 31 = false →
        t.reg Reg.GLB_BUSERR_ADDR = word (off / 4 * 4) ∧ t.rf Reg.GLB_BUSERR_INFO 16 4 = s.writeCause off v ∧
        t.rb Reg.GLB_BUSERR_INFO 8 = true ∧ t.rf Reg.GLB_BUSERR_INFO 9 2 = viewOf off) ∧
      (s.rb Reg.GLB_BUSERR_INFO 31 = true →
        t.reg Reg.GLB_BUSERR_ADDR = s.reg Reg.GLB_BUSERR_ADDR ∧ t.rf Reg.GLB_BUSERR_INFO 0 20 = s.rf Reg.GLB_BUSERR_INFO 0 20) ∧
      RegsKept s t [Reg.GLB_BUSERR_ADDR, Reg.GLB_BUSERR_INFO] ∧ OnlyRegsAndEvents s t) ∧
  (∀ (s : State) (bar : Bar) (off : Nat) (v : Word) (be lbe : BitVec 4), s.hostUp = true → bar = .bar0 ∨ bar = .bar1 →
    off + 4 ≤ barSize bar → be ≠ 15 →
    (∃ t, exec (.registerWrite bar off [v] be lbe) s = .next t ∧ s.TookBusError t off 1 ∧ OnlyRegsAndEvents s t) ∧
    (s.boundary = false → ∃ t, exec (.pairLowRead bar off 1 be lbe) s = .next t ∧ s.TookBusError t off 1 ∧
      t.out.head? = some (.cpl .abort))) ∧
  (∀ (s : State) (bar : Bar) (off : Nat) (v w : Word) (fbe lbe : BitVec 4), s.hostUp = true → bar = .bar0 ∨ bar = .bar1 →
    off + 8 ≤ barSize bar → (fbe, lbe) ∈ [(8, 7), (12, 3), (14, 1)] →
    (∃ t, exec (.registerWrite bar off [v, w] fbe lbe) s = .next t ∧ s.TookBusError t off 2 ∧ OnlyRegsAndEvents s t) ∧
    (s.boundary = false → ∃ t, exec (.pairLowRead bar off 2 fbe lbe) s = .next t ∧ s.TookBusError t off 2 ∧
      t.out.head? = some (.cpl .abort))) ∧
  (∀ (s : State) (a b c d : Word), s.hostUp = true →
    exec (.registerWrite .bar0 (Reg.GLB_SCRATCH 0) [a, b, c, d] 15 15) s =
      .next ((((s.setReg (Reg.GLB_SCRATCH 0) a).setReg (Reg.GLB_SCRATCH 1) b).setReg (Reg.GLB_SCRATCH 2) c).setReg
        (Reg.GLB_SCRATCH 3) d) ∧
    (s.boundary = false → exec (.pairLowRead .bar0 (Reg.GLB_SCRATCH 0) 4 15 15) s =
      .next { s with out := .cpl (.data ((List.range 4).map fun k => s.reg (Reg.GLB_SCRATCH k))) :: s.out }) ∧
    (∃ t, exec (.registerWrite .bar0 (Reg.GLB_SCRATCH 2) [a, b, c] 15 15) s = .next t ∧
      (s.setReg (Reg.GLB_SCRATCH 2) a |>.setReg (Reg.GLB_SCRATCH 3) b).TookBusError t 0x80 3) ∧
    (s.boundary = false → ∃ t, exec (.pairLowRead .bar0 (Reg.GLB_SCRATCH 2) 3 15 15) s = .next t ∧ s.TookBusError t 0x80 3 ∧
      t.out.head? = some (.cpl .abort)))

/-- The pair IMG_STAGE: a low write stages, a high write commits stage and word, an atomic write commits both, an atomic read gives both
halves, a low read loads the latch and the stage. An atomic request in which either DW is in error, for its byte enables or another cause,
leaves both halves, the stage and the latch as they were: one bus error, captured at the DW in error, at the low half where both are; a read
gives no data (R43, R46, R47). The model's reading or choice, by assumption: what the capture shows of the request (16), the stage after an
atomic write (21). -/
def Obligations.PairAccesses : Prop :=
  ∀ (s : State) (lo hi : Word), s.hostUp = true →
    exec (.pairLowWrite Reg.IMG_STAGE_LO lo) s = .next (s.setStage Reg.IMG_STAGE_LO (lo &&& 0xFFFFF000)) ∧
    exec (.pairHighWrite Reg.IMG_STAGE_HI hi) s =
      .next ((s.setReg Reg.IMG_STAGE_LO (merge 0xFFFFF000 (s.stageOf Reg.IMG_STAGE_LO) (s.reg Reg.IMG_STAGE_LO))).setReg
        Reg.IMG_STAGE_HI (merge 3 hi (s.reg Reg.IMG_STAGE_HI))) ∧
    (∃ t, exec (.pairAtomicAccess Reg.IMG_STAGE_LO (some (lo, hi))) s = .next t ∧
      t.reg Reg.IMG_STAGE_LO = merge 0xFFFFF000 lo (s.reg Reg.IMG_STAGE_LO) ∧
      t.reg Reg.IMG_STAGE_HI = merge 3 hi (s.reg Reg.IMG_STAGE_HI) ∧
      AllRegsKept s t [Reg.IMG_STAGE_LO, Reg.IMG_STAGE_HI] ∧ t = { s with regs := t.regs, stages := t.stages }) ∧
    (s.boundary = false → ∃ t, exec (.pairAtomicAccess Reg.IMG_STAGE_LO none) s = .next t ∧
      t.out = .cpl (.data [s.reg Reg.IMG_STAGE_LO, s.reg Reg.IMG_STAGE_HI]) :: s.out ∧ t.regs = s.regs) ∧
    (s.boundary = false → ∃ t, exec (.pairLowRead .bar0 Reg.IMG_STAGE_LO 1 15 0) s = .next t ∧
      t.out = .cpl (.data [s.reg Reg.IMG_STAGE_LO]) :: s.out ∧ t.latchOf Reg.IMG_STAGE_HI = s.reg Reg.IMG_STAGE_HI ∧
      t.stageOf Reg.IMG_STAGE_LO = s.reg Reg.IMG_STAGE_LO ∧ t.regs = s.regs) ∧
    (∀ (off c0 c1 : Nat) (r : RegRow) (fbe lbe : BitVec 4), off + 8 ≤ barSize .bar0 → pairAt off = some r → regRow off = some r →
      crossesAlign 2 fbe lbe = false →
      (c0 = (if fbe = 15 then s.writeCause off lo else 1) →
        c1 = (if lbe = 15 then (s.setStage off (lo &&& r.rw)).writeCause (off + 4) hi else 1) → c0 ≠ 0 ∨ c1 ≠ 0 →
        ∃ t, exec (.registerWrite .bar0 off [lo, hi] fbe lbe) s = .next t ∧ t.stages = s.stages ∧ t.latches = s.latches ∧
          if c0 ≠ 0 then s.TookBusError t off c0 else s.TookBusError t (off + 4) c1) ∧
      (c0 = (if fbe = 15 then s.readCause off else 1) → c1 = (if lbe = 15 then s.readCause (off + 4) else 1) → c0 ≠ 0 ∨ c1 ≠ 0 →
        s.boundary = false →
        ∃ t, exec (.pairLowRead .bar0 off 2 fbe lbe) s = .next t ∧ t.stages = s.stages ∧ t.latches = s.latches ∧
          t.out.head? = some (.cpl .abort) ∧ if c0 ≠ 0 then s.TookBusError t off c0 else s.TookBusError t (off + 4) c1))

/-- A read of one DW completes with what the register reads, or in error with Completer Abort and a bus error; a write of a vector's
control word in the MSI-X table masks it, or unmasks it and, while MSI-X is enabled, bus mastering too, and the function not masked, sends
the message that pends: the write of the entry's data to its address. How masking and pending work is the PCIe standard's (assumption 24,
PRESUMED). Configuration space gives the identifiers of R31 and the bases written to the BARs, in D3hot too, where a request to a BAR
completes with Unsupported Request; its layout is the PCIe standard's (assumption 157, PRESUMED) (R31, R33, R35, R39, R44, R52). -/
def Obligations.RegisterReadsMsixAndConfiguration : Prop :=
  (∀ s : State, s.pcieUp = true → s.boundary = false →
    (∀ o w : Nat, (o, w) ∈ [(0, 0x98401F5C), (8, 0x118000B1), (0x144, (s.reg Reg.GLB_UID_LO).toNat), (0x148, (s.reg Reg.GLB_UID_HI).toNat)] →
      exec (.pairLowRead .config o 1 15 0) s = .next { s with out := .cpl (.data [word w]) :: s.out }) ∧
    (∀ v : Word, ∃ t, exec (.registerWrite .config 0x10 [v] 15 0) s = .next t ∧ t = { s with pcie := t.pcie } ∧
      exec (.pairLowRead .config 0x10 1 15 0) t = .next { t with out := .cpl (.data [v &&& 0xFC000000]) :: t.out }) ∧
    (s.pcie.d3hot = true → ∀ off : Nat, off + 4 ≤ barSize .bar0 →
      ∃ t, exec (.pairLowRead .bar0 off 1 15 0) s = .next t ∧ t.out = .cpl .unsupported :: s.out ∧ t.regs = s.regs) ∧
    (s.pcie.d3hot = true → ∃ t, exec (.registerWrite .config 0x44 [0] 15 0) s = .next t ∧ t.hostUp = true)) ∧
  ∀ s : State, s.hostUp = true → s.boundary = false →
    (∀ (off : Nat) (r : RegRow), off + 4 ≤ barSize .bar0 → s.readCause off = 0 → regRow off = some r → r.pair = .single →
      exec (.pairLowRead .bar0 off 1 15 0) s = .next { s with out := .cpl (.data [s.view off]) :: s.out }) ∧
    (∀ off : Nat, off + 4 ≤ barSize .bar0 → s.readCause off ≠ 0 → ∃ t, exec (.pairLowRead .bar0 off 1 15 0) s = .next t ∧
      t.out.head? = some (.cpl .abort) ∧ t.event 61 = true ∧ RegsKept s t [Reg.GLB_BUSERR_ADDR, Reg.GLB_BUSERR_INFO]) ∧
    (∀ (n : Fin 16) (v : Word), ∃ t, exec (.registerWrite .bar4 (16 * n + 12) [v] 15 0) s = .next t ∧
      (t.msixOf n).masked = bit v 0 ∧
      (t.msixOf n).pend = ((s.msixOf n).pend && (bit v 0 || s.pcie.msixMask || !s.pcie.msixEnable || !bit s.pcie.command 2)) ∧
      t.out = (if (s.msixOf n).pend = true ∧ (t.msixOf n).pend = false then [msixMessage n (s.msixOf n)] else []) ++ s.out ∧
      t = { s with msix := t.msix, out := t.out } ∧ ∀ k : Fin 16, k ≠ n → t.msixOf k = s.msixOf k)

/-- AtomicOp and locked requests complete with Unsupported Request, and raise nothing (R32); beside that only the error status of the
endpoint's configuration space may change. The model's reading or choice, by assumption: the error status (157). -/
def Obligations.AtomicRequestsAreUnsupported : Prop :=
  ∀ s : State, s.pcieUp = true → s.boundary = false →
    ∃ t, exec .atomicopRequest s = .next t ∧ t = { s with
      out := .cpl .unsupported :: s.out, pcie := { s.pcie with aerUncorrectable := t.pcie.aerUncorrectable } }

/-- BAR2: a read gives the octets and counts the corrected errors it meets for their stacks, a write stores the octets where enabled and
nowhere else, an uncorrectable error is recorded. While PD_MEM is off a read completes with Completer Abort and a write is discarded, with a
bus error of cause DOMAIN (R38, R58). The model's reading or choice, by assumption: the errors met as operands (159), the octets of a read
that is poisoned (27). -/
def Obligations.BackingMemoryAccesses : Prop :=
  (∀ (s : State) (off : Nat) (fbe lbe : BitVec 4), s.hostUp = true → s.domOn pdMem = false →
    (∀ bs : List (Option Byte), off + bs.length ≤ hbmSize → ∃ t, exec (.bar2Access off (.write bs) fbe lbe) s = .next t ∧
      s.TookBusError t off 4 ∧ OnlyRegsAndEvents s t) ∧
    (∀ (n : Nat) (ue : Option Nat) (ce : List Nat), off + n ≤ hbmSize → s.boundary = false →
      ∃ t, exec (.bar2Access off (.read n ue ce) fbe lbe) s = .next t ∧ s.TookBusError t off 4 ∧ t.out.head? = some (.cpl .abort) ∧
        t.hbm = s.hbm)) ∧
  ∀ (s : State) (off : Nat), s.hostUp = true → s.domOn pdMem = true →
    (∀ (n : Nat) (ce : List Nat), off + n ≤ hbmSize → ∃ t, exec (.bar2Access off (.read n none ce) 15 15) s = .next t ∧
      t.out = (s.emit (.cpl (.octets (s.hbmRead off n)))).out ∧
      t.reg Reg.GLB_MEM_CE0 = satWord (s.reg Reg.GLB_MEM_CE0) (ce.filter (fun k => decide (off + k % n < 2 ^ 33))).length ∧
      t.reg Reg.GLB_MEM_CE1 = satWord (s.reg Reg.GLB_MEM_CE1) (ce.filter (fun k => decide (2 ^ 33 ≤ off + k % n))).length ∧
      AllRegsKept s t [Reg.GLB_MEM_CE0, Reg.GLB_MEM_CE1] ∧ t = { s with regs := t.regs, out := t.out }) ∧
    (∀ bs : List (Option Byte), off + bs.length ≤ hbmSize → ∃ t, exec (.bar2Access off (.write bs) 15 15) s = .next t ∧
      t = { s with hbm := t.hbm } ∧
      ∀ a, Tab.get blank t.hbm a = if off ≤ a then ((bs[a - off]?).join).getD (Tab.get blank s.hbm a) else Tab.get blank s.hbm a) ∧
    (∀ (n k : Nat) (ce : List Nat), off + n ≤ hbmSize → k < n → s.rb Reg.GLB_MEM_STATUS 8 = false →
      ∃ t, exec (.bar2Access off (.read n (some k) ce) 15 15) s = .next t ∧ t.rb Reg.GLB_MEM_STATUS 8 = true ∧
        t.pair Reg.GLB_MEM_UE_LO = off + k ∧ t.hbm = s.hbm)

/-- Writing 1 sets a lock bit and writing 0 has no effect; writing 1 to VALID clears the capture, and to UE the flag, where GLB_MEM_UE keeps
its address (assumption 27, DEDUCED: the spec does not say that it is cleared); writing 1 to a STATUS bit of EVT clears it (R52, R53, R58,
R380, R381). -/
def Obligations.LockAndClearCommands : Prop :=
  (∀ (s : State) (v : Word), s.hostUp = true →
     (∃ t, exec (.glbLockSet v) s = .next t ∧ t.reg Reg.GLB_LOCK = s.reg Reg.GLB_LOCK ||| (v &&& 0x7F) ∧
       AllRegsKept s t [Reg.GLB_LOCK] ∧ OnlyRegs s t) ∧
     (bit v 31 = true → ∃ t, exec (.buserrClear v) s = .next t ∧ t.reg Reg.GLB_BUSERR_ADDR = 0 ∧ t.reg Reg.GLB_BUSERR_INFO = 0 ∧
       AllRegsKept s t [Reg.GLB_BUSERR_ADDR, Reg.GLB_BUSERR_INFO] ∧ OnlyRegs s t) ∧
     (bit v 8 = true → ∃ t, exec (.memUeClear v) s = .next t ∧ t.rb Reg.GLB_MEM_STATUS 8 = false ∧
       AllRegsKept s t [Reg.GLB_MEM_STATUS] ∧ OnlyRegs s t)) ∧
  (∀ (s : State) (v : Word), s.hostUp = true →
     (∀ k : Fin 2, ∃ t, exec (.evtStatusClear k v) s = .next t ∧ t.reg (Reg.EVT_STATUS k) = s.reg (Reg.EVT_STATUS k) &&& ~~~ v ∧
       AllRegsKept s t [Reg.EVT_STATUS k] ∧ t = { s with regs := t.regs, msix := t.msix, out := t.out }))

/-- A write of RAISE = 1 to EVT_SOFT raises event 63 (R383): its STATUS bit is set, and nothing outside the event unit and what every event
uses changes. The model's reading or choice, by assumption: what a raise brings about follows at once (36). -/
def Obligations.SoftEventIsRaised : Prop :=
  ∀ (s : State) (v : Word), s.hostUp = true → bit v 0 = true →
    ∃ t, exec (.soft v) s = .next t ∧ t.event 63 = true ∧ RegsKept s t [Reg.EVT_SOFT] ∧ OnlyRegsAndEvents s t

/-! ### Time bases (R87-R114) -/

/-- MODEL'S CHOICE (assumption 1, DESIGN CHOICE): with no command waiting, a step is one period of the 1.6 GHz time clock. The period
takes 625 ps while the PLL is locked; every enabled time base advances by 0.625 ns × (1 + RATE × 2^-48), one that is OFF stands still
(R87, R89, R90). No register changes but those of the field segments, whose jams may end with it (R145), and of events. -/
def Obligations.ClockPeriodAdvancesTheTimeBases : Prop :=
  ∀ s : State, s.pending = [] →
    step s = .next s.period ∧ s.period.pending = [] ∧ s.now ≤ s.period.now ∧
    (s.rb Reg.TB_PLL 8 = true → s.period.now = s.now + 625000) ∧
    ((∀ m : Fin 4, (s.tb m).step = none) → ∀ n : Fin 4,
      (s.tbState n = 0 → (s.period.tb n).t = (s.tb n).t) ∧
      (s.tbState n ≠ 0 → (s.period.tb n).t = ((s.tb n).t + tbIncrement (s.tbRate n)) % tbMod) ∧
      ∀ off, OutsideEvents off → off / 0x10000 ≠ 10 → s.period.reg off = s.reg off)

/-- EN: 0 to 1 takes a time base from OFF to FREE, counting from zero; 0 takes it to OFF, its counter zero, an armed step discarded (R90).
The other time bases are untouched. STEP_GO in FREE arms the step that the registers and the written mode give; the armed and triggered step
is applied at the next nanosecond boundary, which is the coming period's end or the one after: LOCKED, STEPPED, event 6. A step that is not
armed, or whose trigger has not been seen, is not applied (R90, R92, R93). The model's reading or choice, by assumption: the fraction of a
nanosecond at a step (49), when STEP_APPLY finds its boundary (50). -/
def Obligations.TimeBaseEnableDisableAndStep : Prop :=
  (∀ (s : State) (n : Fin 4) (v : Word), s.Accepts (Reg.TB_CTRL n) v →
     (bit v 0 = true → s.tbState n = 0 → ∃ t, exec (.tbEnable n v) s = .next t ∧ t.tbState n = 1 ∧ (t.tb n).t = 0 ∧
       (∀ m : Fin 4, m ≠ n → t.tb m = s.tb m) ∧ AllRegsKept s t [Reg.TB_CTRL n, Reg.TB_STATUS n]) ∧
     (bit v 0 = false → ∃ t, exec (.tbDisable n v) s = .next t ∧ t.tbState n = 0 ∧ (t.tb n).t = 0 ∧ (t.tb n).step = none ∧
       t.rb (Reg.TB_STATUS n) 3 = false ∧ (∀ m : Fin 4, m ≠ n → t.tb m = s.tb m) ∧
       AllRegsKept s t [Reg.TB_CTRL n, Reg.TB_STATUS n])) ∧
  (∀ (s : State) (n : Fin 4),
     (∀ v : Word, s.Accepts (Reg.TB_CTRL n) v → bit v 0 = true → bit v 1 = true → s.tbState n = 1 →
       ∃ t, exec (.stepGo n v) s = .next t ∧ t.tbState n = 2 ∧
         (t.tb n).step = some
           { set := bit v 2, onPps := bit v 3
             sec := s.rf (Reg.TB_STEP_SEC_HI n) 0 16 * 2 ^ 32 + (s.reg (Reg.TB_STEP_SEC_LO n)).toNat
             ns := s.rf (Reg.TB_STEP_NS n) 0 30 } ∧
         (t.tb n).triggered = !bit v 3) ∧
     (∀ (q : StepReq) (adv : Nat), s.tbState n = 2 → (s.tb n).step = some q → (s.tb n).triggered = true →
       (∀ m : Fin 4, m ≠ n → (s.tb m).step = none) →
       adv = (if s.nsBoundary n then s.tbAdvanced n else (s.tbAdvanced n + tbIncrement (s.tbRate n)) % tbMod) →
       ∃ t, exec (.stepApply n) s = .next t ∧ t.tbState n = 3 ∧ (t.tb n).t = stepValue q adv ∧
         (t.tb n).step = none ∧ t.rb (Reg.TB_STATUS n) 3 = true ∧ t.rb (Reg.TB_STATUS n) 8 = true ∧ t.event 6 = true) ∧
     (s.tbState n ≠ 2 ∨ (s.tb n).triggered = false → exec (.stepApply n) s = .next s))

/-- HOLD_REQ takes a LOCKED time base to HOLDOVER with event 7, its rate kept; HOLD_REL takes REROUTE to LOCKED, with the watchdog and the
path-delay reference restarted; the watchdog, once due, takes LOCKED to HOLDOVER, and before that does nothing; a loss of the PLL takes
every LOCKED time base to HOLDOVER and shows itself, and a PLL that is not locked loses nothing; the PLL's lock shows; a RATE commit takes
the pair's value, restarts the watchdog and takes HOLDOVER to LOCKED (R87-R90, R106). A write that carries both HOLD_REQ and HOLD_REL in
REROUTE ends in LOCKED, which is the model's choice (assumption 165). The model's reading or choice, by assumption: a RATE commit in every
state (57), a restart of the watchdog (53). -/
def Obligations.HoldoverAndRelease : Prop :=
  ∀ (s : State) (n : Fin 4),
    (∀ v : Word, s.Accepts (Reg.TB_CTRL n) v → bit v 0 = true → bit v 4 = true → s.tbState n = 3 →
      ∃ t, exec (.holdReq n v) s = .next t ∧ t.tbState n = 4 ∧ t.rb (Reg.TB_STATUS n) 9 = true ∧ t.event 7 = true ∧
        t.tbRate n = s.tbRate n ∧ (∀ m : Fin 4, m ≠ n → t.tb m = s.tb m) ∧ RegsKept s t [Reg.TB_CTRL n, Reg.TB_STATUS n]) ∧
    (∀ v : Word, s.Accepts (Reg.TB_CTRL n) v → bit v 0 = true → bit v 5 = true → s.tbState n = 5 →
      ∃ t, exec (.holdRel n v) s = .next t ∧ t.tbState n = 3 ∧ (t.tb n).mpdInit = false ∧ (t.tb n).mpdRun = 0 ∧
        (t.tb n).wdogStart = s.now ∧ (∀ m : Fin 4, m ≠ n → t.tb m = s.tb m) ∧
        AllRegsKept s t [Reg.TB_CTRL n, Reg.TB_STATUS n]) ∧
    (s.tbState n = 3 → s.rb (Reg.TB_CTRL n) 6 = true → (s.tb n).wdogStart + s.rf (Reg.TB_WDOG n) 0 16 * fsPerMs ≤ s.now →
      ∃ t, exec (.tbWatchdogExpiry n) s = .next t ∧ t.tbState n = 4 ∧ t.rb (Reg.TB_STATUS n) 9 = true ∧ t.event 7 = true ∧
        t.tbRate n = s.tbRate n ∧ RegsKept s t [Reg.TB_STATUS n]) ∧
    (s.tbState n ≠ 3 ∨ s.rb (Reg.TB_CTRL n) 6 = false ∨ s.now < (s.tb n).wdogStart + s.rf (Reg.TB_WDOG n) 0 16 * fsPerMs →
      exec (.tbWatchdogExpiry n) s = .next s) ∧
    (s.rb Reg.TB_PLL 8 = true → ∃ t, exec .pllLossOfLock s = .next t ∧ t.rb Reg.TB_PLL 8 = false ∧ t.rb Reg.TB_PLL 9 = true ∧
      (∀ m : Fin 4, t.tbState m = if s.tbState m = 3 then 4 else s.tbState m) ∧
      (s.tbState n = 3 → t.rb (Reg.TB_STATUS n) 9 = true ∧ t.event 7 = true) ∧ t.tbRate n = s.tbRate n ∧
      RegsKept s t ((List.range 4).map Reg.TB_STATUS ++ [Reg.TB_PLL])) ∧
    (s.rb Reg.TB_PLL 8 = false → exec .pllLossOfLock s = .next s) ∧
    (∃ t, exec .pllLock s = .next t ∧ t.rb Reg.TB_PLL 8 = true ∧ AllRegsKept s t [Reg.TB_PLL] ∧ OnlyRegs s t) ∧
    (∀ v : Word, s.Accepts (Reg.TB_RATE_HI n) v →
      ∃ t, exec (.tbRateCommit n v) s = .next t ∧ t.reg (Reg.TB_RATE_LO n) = s.stageOf (Reg.TB_RATE_LO n) ∧
        t.rf (Reg.TB_RATE_HI n) 0 8 = fld v 0 8 ∧ (t.tb n).wdogStart = s.now ∧
        t.tbState n = (if s.tbState n = 4 then 3 else s.tbState n) ∧ (∀ m : Fin 4, m ≠ n → t.tb m = s.tb m) ∧
        AllRegsKept s t [Reg.TB_RATE_LO n, Reg.TB_RATE_HI n, Reg.TB_STATUS n])

/-- A path-delay sample V, R being the reference. With supervision off, the time base OFF or in REROUTE, it has no effect. The first one
becomes the reference. One within THRESH of R, or any in FREE and ARMED, moves the reference by the AVG-th part of V - R and drops the run.
One beyond THRESH in LOCKED or HOLDOVER joins the run of such samples and leaves R; where that makes COUNT of them, the time base is in
REROUTE with event 8, and MPD_STEP is their mean less R (R103). Where a quotient is not whole the spec states no rounding: the statement
leaves open which of the two neighbouring whole numbers it is. The model's reading or choice, by assumption: a sample that is OFF or in
REROUTE is ignored (52), the rounding (51), what enabling is for the first sample (165). -/
def Obligations.PathDelaySupervision : Prop :=
  ∀ (s : State) (n : Fin 4) (v : Word) (x : TimeBase) (ref far avg : Nat), s.Accepts (Reg.TB_MPD n) v → x = s.tb n →
    ref = (s.reg (Reg.TB_MPD_REF n)).toNat → far = (if ref ≤ v.toNat then v.toNat - ref else ref - v.toNat) →
    avg = 2 ^ s.rf (Reg.TB_MPD_CFG n) 20 4 →
    (s.rb (Reg.TB_MPD_CFG n) 31 = false ∨ s.tbState n = 0 ∨ s.tbState n = 5 →
      ∃ t, exec (.tbMpdSample n v) s = .next t ∧ AllRegsKept s t [] ∧ t.tb n = x) ∧
    (s.rb (Reg.TB_MPD_CFG n) 31 = true → s.tbState n ≠ 0 → s.tbState n ≠ 5 →
      (x.mpdInit = false →
        ∃ t, exec (.tbMpdSample n v) s = .next t ∧ t.reg (Reg.TB_MPD_REF n) = v ∧ (t.tb n).mpdInit = true ∧
          AllRegsKept s t [Reg.TB_MPD_REF n]) ∧
      (x.mpdInit = true → far ≤ s.rf (Reg.TB_MPD_CFG n) 0 16 * 256 ∨ s.tbState n = 1 ∨ s.tbState n = 2 →
        ∃ (t : State) (d : Int), exec (.tbMpdSample n v) s = .next t ∧ (d = 0 ∨ d = 1) ∧
          (((v.toNat : Int) - (ref : Int)) % (avg : Int) = 0 → d = 0) ∧
          t.reg (Reg.TB_MPD_REF n) = BitVec.ofInt 32 ((ref : Int) + ((v.toNat : Int) - (ref : Int)) / (avg : Int) + d) ∧
          (t.tb n).mpdRun = 0 ∧ AllRegsKept s t [Reg.TB_MPD_REF n]) ∧
      (x.mpdInit = true → s.rf (Reg.TB_MPD_CFG n) 0 16 * 256 < far → s.tbState n = 3 ∨ s.tbState n = 4 →
        (x.mpdRun + 1 < s.rf (Reg.TB_MPD_CFG n) 16 4 →
          ∃ t, exec (.tbMpdSample n v) s = .next t ∧ (t.tb n).mpdRun = x.mpdRun + 1 ∧ (t.tb n).mpdSum = x.mpdSum + v.toNat ∧
            AllRegsKept s t []) ∧
        (s.rf (Reg.TB_MPD_CFG n) 16 4 ≤ x.mpdRun + 1 →
          ∃ (t : State) (d a : Int), exec (.tbMpdSample n v) s = .next t ∧ t.tbState n = 5 ∧ t.rb (Reg.TB_STATUS n) 10 = true ∧
            t.event 8 = true ∧ (d = 0 ∨ d = 1) ∧
            a = ((x.mpdSum + v.toNat : Nat) : Int) - ((ref * (x.mpdRun + 1) : Nat) : Int) ∧
            (a % ((x.mpdRun + 1 : Nat) : Int) = 0 → d = 0) ∧
            t.reg (Reg.TB_MPD_STEP n) = BitVec.ofInt 32 (a / ((x.mpdRun + 1 : Nat) : Int) + d) ∧ (t.tb n).mpdRun = 0 ∧
            RegsKept s t [Reg.TB_STATUS n, Reg.TB_MPD_STEP n])))

/-- A selected PPS_IN edge is captured with event 9, and one that is not selected, or with FILTER one that begins or ends a pulse shorter
than 100 ns, is ignored; a due PPS_OUT pulse leaves with event 9; TSQ_POP drops the oldest transmit stamp (R96, R97, R111). LEAP_PEND rises
in the 59 seconds before E; at E the offset moves by one, LEAP clears and LEAP_OCC rises; LEAP_OCC clears 86,400 s later (R108). The model's
reading or choice, by assumption: the resolution of stamps as operands (55), FILTER (56), LEAP_PEND and LEAP_OCC (54, 165). -/
def Obligations.PulsesCapturesStampsAndLeapSeconds : Prop :=
  (∀ s : State,
     (∀ (n : Fin 4) (rising : Bool) (width ph : Nat), rising ≠ s.rb Reg.TB_PPSIN_CFG 0 →
       (s.rb Reg.TB_PPSIN_CFG 1 = true → 100 ≤ width ∧ s.ppsPin.reject = false) → s.rb (Reg.TB_CTRL n) 8 = true →
       ∃ t, exec (.ppsInEdge rising width ph) s = .next t ∧ t.reg (Reg.TB_PPSIN_NS n) = word (stampNs (s.tdc n ph)) ∧
         t.reg (Reg.TB_PPSIN_FRAC n) = word (stampFrac (s.tdc n ph)) ∧ t.rb (Reg.TB_PPSIN_STATUS n) 31 = true ∧
         t.rb (Reg.TB_STATUS n) 12 = true ∧ t.event 9 = true) ∧
     (∀ (rising : Bool) (width ph : Nat),
       rising = s.rb Reg.TB_PPSIN_CFG 0 ∨ s.rb Reg.TB_PPSIN_CFG 1 = true ∧ (width < 100 ∨ s.ppsPin.reject = true) →
       ∃ t, exec (.ppsInEdge rising width ph) s = .next t ∧ t = { s with ppsPin := t.ppsPin } ∧
         t.ppsPin.reject = decide (width < 100)) ∧
     (∀ n : Fin 4, s.rb (Reg.TB_CTRL n) 7 = true → s.tbState n ≠ 0 → s.ppsDue n = true → s.boundary = false →
       ∃ t, exec (.ppsOutPulse n) s = .next t ∧ (.pps n.val (s.rf (Reg.TB_PPS_OUT n) 0 16) :: s.out) <:+ t.out ∧
         t.rb (Reg.TB_STATUS n) 11 = true ∧ t.event 9 = true) ∧
     (∀ (p : Fin 4) (v : Word), s.Accepts (Reg.TSQ_POP p) v → bit v 0 = true →
       ∃ t, exec (.tsqPop p v) s = .next t ∧ t.tsqOf p = (s.tsqOf p).tail ∧ (∀ q : Fin 4, q ≠ p → t.tsqOf q = s.tsqOf q) ∧
         AllRegsKept s t [Reg.TSQ_POP p])) ∧
  (∀ (s : State) (n : Fin 4) (e sec : Nat), s.tbState n ≠ 0 → s.pair (Reg.TB_LEAP_LO n) % 2 ^ 48 = e → stampSec (s.tbNow n) = sec →
     (s.rf (Reg.TB_UTC n) 16 2 ≠ 0 → e ≤ sec + 59 → sec < e →
       ∃ t, exec (.leapPendStart n) s = .next t ∧ t.rb (Reg.TB_STATUS n) 4 = true ∧ AllRegsKept s t [Reg.TB_STATUS n] ∧ OnlyRegs s t) ∧
     (s.rf (Reg.TB_UTC n) 16 2 = 1 ∨ s.rf (Reg.TB_UTC n) 16 2 = 2 → sec = e →
       ∃ t, exec (.leapSecondApply n) s = .next t ∧
         t.rf (Reg.TB_UTC n) 0 16 = wrap 16 (s.utcOffset n + (if s.rf (Reg.TB_UTC n) 16 2 = 1 then 1 else -1)) ∧
         t.rf (Reg.TB_UTC n) 16 2 = 0 ∧ t.rb (Reg.TB_STATUS n) 4 = false ∧ t.rb (Reg.TB_STATUS n) 5 = true ∧
         t.rb (Reg.TB_STATUS n) 6 = decide (s.rf (Reg.TB_UTC n) 16 2 = 2) ∧ (t.tb n).leapAt = e ∧
         AllRegsKept s t [Reg.TB_UTC n, Reg.TB_STATUS n]) ∧
     (s.rb (Reg.TB_STATUS n) 5 = true → (s.tb n).leapAt + 86400 ≤ sec →
       ∃ t, exec (.leapOccExpiry n) s = .next t ∧ t.rb (Reg.TB_STATUS n) 5 = false ∧ AllRegsKept s t [Reg.TB_STATUS n] ∧ OnlyRegs s t))


/-! ### Real-time clock and backup domain (R115-R129) -/

/-- The commit of LOAD arms a load, which the next crystal tick applies: SET takes the value, ADD adds it to what the tick makes of the
counter. Another tick adds 1, or 0 or 2 where the trim of its window says so, and nothing under HALT; each tick notes its time and clears
OSC_STOP. Any update that takes the counter from below ALARM to it or past it sets the flag and raises event 12, or owes it until the event
unit runs (R115, R118, R120, R121, R123, R127). The model's reading or choice, by assumption: load, trim and count at one edge (58), an
alarm that is past (59), owed events (46). -/
def Obligations.RealTimeClockTicksAndLoads : Prop :=
  ∀ s : State,
    (∀ v : Word, s.Accepts Reg.RTC_LOAD_HI v →
      ∃ t, exec (.rtcLoadArm v) s = .next t ∧ t.rb Reg.RTC_STATUS 0 = true ∧
        t.rtc.load = some (v.toNat * 2 ^ 32 + (s.stageOf Reg.RTC_LOAD_LO).toNat) ∧
        AllRegsKept s t [Reg.RTC_LOAD_LO, Reg.RTC_LOAD_HI, Reg.RTC_STATUS]) ∧
    (∀ w p j new : Nat, w = 2 ^ fld s.rtc.trim 8 5 → p = fld s.rtc.trim 0 8 → j = s.rtc.trimPos →
      new = (if s.rb Reg.RTC_CTRL 0 then s.rtc.count
        else (s.rtc.count + if j * p / w < (j + 1) * p / w then (if bit s.rtc.trim 16 then 0 else 2) else 1) % 2 ^ 64) →
      (∀ x : Nat, s.rtc.load = some x →
        ∃ t, exec .rtcLoadApply s = .next t ∧ t.rtc.count = (if s.rb Reg.RTC_CTRL 2 then new + x else x) % 2 ^ 64 ∧
          t.rtc.load = none ∧ t.rb Reg.RTC_STATUS 0 = false ∧ t.rtc.lastEdge = s.now ∧ s.AlarmJudged t ∧
          exec .crystalTick s = .next t ∧ RegsKept s t [Reg.RTC_STATUS]) ∧
      (s.rtc.load = none →
        exec .rtcLoadApply s = .next s ∧
        ∃ t, exec .crystalTick s = .next t ∧ t.rtc.count = new ∧ t.rtc.lastEdge = s.now ∧ t.rb Reg.RTC_STATUS 2 = false ∧
          s.AlarmJudged t ∧ RegsKept s t [Reg.RTC_STATUS])) ∧
    (s.alarmDue = true →
      ∃ t, exec .rtcAlarm s = .next t ∧ t.rb Reg.RTC_STATUS 8 = true ∧ s.rtc.count < s.pair Reg.RTC_ALARM_LO ∧
        s.pair Reg.RTC_ALARM_LO ≤ t.rtc.count ∧ (s.evtRuns = true → t.event 12 = true) ∧
        (s.evtRuns = false → t.rtc.owed12 = true) ∧ RegsKept s t [Reg.RTC_STATUS]) ∧
    (s.alarmDue = false → exec .rtcAlarm s = .next s)

/-- No crystal edge for 4 ms sets OSC_STOP and its flag; the sample of VBAT sets BAT_LOW below 2.00 V, clears it from 2.05 V on, and between
them keeps it; a switch to VBAT locks the bus out, discards staged low halves and owes event 13; the switch back raises what is owed where
the event unit runs; a power-on reset of PD_AON leaves the counter at 0 with F_LOST set, and reaches no seat and no memory (R124, R126,
R127). The model's reading or choice, by assumption: BAT_LOW between its levels (60), what the lock-out covers (61), owed events (46). -/
def Obligations.BackupDomainHappenings : Prop :=
  ∀ s : State,
    (s.rtc.lastEdge + 4 * fsPerMs ≤ s.now →
      ∃ t, exec .oscStop s = .next t ∧ t.rb Reg.RTC_STATUS 2 = true ∧ t.rb Reg.RTC_STATUS 11 = true ∧
        AllRegsKept s t [Reg.RTC_STATUS] ∧ OnlyRegs s t) ∧
    (s.now < s.rtc.lastEdge + 4 * fsPerMs → exec .oscStop s = .next s) ∧
    (∀ mv : Nat, s.rtc.onVbat = true ∨ 2000 ≤ mv ∧ mv < 2050 → exec (.batLowSample mv) s = .next s) ∧
    (∀ mv : Nat, s.rtc.onVbat = false → mv < 2000 ∨ 2050 ≤ mv →
      ∃ t, exec (.batLowSample mv) s = .next t ∧ t.rb Reg.RTC_STATUS 3 = decide (mv < 2000) ∧
        AllRegsKept s t [Reg.RTC_STATUS] ∧ OnlyRegs s t) ∧
    (s.rtc.onVbat = false →
      ∃ t, exec .switchToVbat s = .next t ∧ t.rtc.onVbat = true ∧ t.rtc.lockout = true ∧ t.rtc.owed13 = true ∧ t.rb Reg.RTC_STATUS 9 = true ∧
        t.stageOf Reg.RTC_LOAD_LO = s.reg Reg.RTC_LOAD_LO ∧ t.stageOf Reg.RTC_ALARM_LO = s.reg Reg.RTC_ALARM_LO ∧
        t.rtc.count = s.rtc.count ∧ AllRegsKept s t [Reg.RTC_STATUS]) ∧
    (∃ t, exec .switchToVio18 s = .next t ∧ t.rtc.onVbat = false ∧ t.rtc.count = s.rtc.count ∧ t.rtc.lockout = s.rtc.lockout ∧
      RegsKept s t [] ∧
      (s.pwr.start = none → t.rtc.owed12 = false ∧ t.rtc.owed13 = false ∧ (s.rtc.owed12 = true → t.event 12 = true) ∧
        (s.rtc.owed13 = true → t.event 13 = true)) ∧
      (s.pwr.start ≠ none → t = { s with rtc := { s.rtc with onVbat := false } })) ∧
    (∃ t, exec .pdAonPowerOnReset s = .next t ∧ t.rtc.count = 0 ∧ t.rtc.load = none ∧ t.reg Reg.RTC_STATUS = regReset Reg.RTC_STATUS ∧
      t.rb Reg.RTC_STATUS 10 = true ∧ t.hbm = s.hbm ∧ t.seats = s.seats)

/-! ### Rings and events (R362-R386) -/


/-- A ring: TAIL takes the written index; EN takes DISABLED to RUNNING, RUNNING to STOPPING and ERROR to DISABLED; STOPPING becomes DISABLED
once the work in progress is finished. A failed host-memory access takes its ring to ERROR with event 25, counts the output it served as
abandoned, and is captured while no capture is held; a ring that is DISABLED or in ERROR makes none. The coalescing timer reports returns
that wait, once they have waited its time (R363, R365, R366, R370). The model's reading or choice, by assumption: the timer and what it
reports (33), which work is output in progress (171). -/
def Obligations.RingStatesErrorsAndTimer : Prop :=
  (∀ (s : State) (r : Fin 32),
     (∀ v : Word, s.Accepts (Reg.RNG_TAIL r) v → r.val ≠ 16 → (r.val = 1 → (s.ringX 1).owed = []) →
       exec (.ringTailAdvance r v) s = .next (s.setReg (Reg.RNG_TAIL r) (merge 0xFFFF v (s.reg (Reg.RNG_TAIL r))))) ∧
     (∀ v : Word, s.Accepts (Reg.RNG_TAIL r) v → ∃ t, exec (.ringTailAdvance r v) s = .next t ∧ t.ringTail r = fld v 0 16) ∧
     (∀ v : Word, s.Accepts (Reg.RNG_CTRL r) v → bit v 0 = true → s.ringState r = 0 →
       ∃ t, exec (.ringEnable r v) s = .next t ∧ t.ringState r = 1 ∧ t.rb (Reg.RNG_CTRL r) 0 = true ∧ t.ringSize r = 2 ^ fld v 1 5 ∧
         RegsKept s t []) ∧
     (∀ v : Word, s.Accepts (Reg.RNG_CTRL r) v → bit v 0 = false →
       ∃ t, exec (.ringDisable r v) s = .next t ∧ t.rb (Reg.RNG_CTRL r) 0 = false ∧ RegsKept s t [] ∧
         (s.ringState r = 1 → t.ringState r = 2) ∧
         (s.ringState r = 3 → t.ringState r = 0 ∧ t.rb Reg.RNG_ERRORS r = false)) ∧
     (s.ringServed r = true → s.ringState r = 2 → s.ringIdle r = true →
       ∃ t, exec (.ringStopped r) s = .next t ∧ t.ringState r = 0 ∧ AllRegsKept s t [Reg.RNG_STATUS r] ∧ OnlyRegs s t) ∧
     (s.ringState r ≠ 2 ∨ s.ringIdle r = false → exec (.ringStopped r) s = .next s)) ∧
  (∀ (s : State) (r : Fin 32), s.ringServed r = true →
     (∀ (write work : Bool) (kind : Fin 4) (addr : Nat), s.ringState r = 1 ∨ s.ringState r = 2 →
       ∃ t, exec (.ringDmaError r ⟨write, work⟩ kind addr) s = .next t ∧ t.ringState r = 3 ∧ t.rb Reg.RNG_ERRORS r = true ∧
         t.event 25 = true ∧ RegsKept s t (if r.val = 10 then (List.range 4).map Reg.T1Ss_STATUS else []) ∧
         (work = true → r.val ≠ 23 → t.reg (Reg.RNG_CNT r 1) = satWord (s.reg (Reg.RNG_CNT r 1)) 1) ∧
         (s.rb Reg.RNG_ERR_INFO 31 = false → t.rb Reg.RNG_ERR_INFO 31 = true ∧ t.rf Reg.RNG_ERR_INFO 0 5 = r ∧
           t.rb Reg.RNG_ERR_INFO 8 = write ∧ t.rf Reg.RNG_ERR_INFO 12 3 = kind + 1 ∧ t.reg Reg.RNG_ERR_ADDR_LO = word addr) ∧
         (s.rb Reg.RNG_ERR_INFO 31 = true → t.reg Reg.RNG_ERR_INFO = s.reg Reg.RNG_ERR_INFO)) ∧
     (∀ (write work : Bool) (kind : Fin 4) (addr : Nat), s.ringState r = 0 ∨ s.ringState r = 3 →
       exec (.ringDmaError r ⟨write, work⟩ kind addr) s = .next s) ∧
     (s.rf (Reg.RNG_THRESH r) 16 16 = 0 ∨ (s.ringX r).pend = 0 ∨
         s.now < (s.ringX r).firstAt + s.rf (Reg.RNG_THRESH r) 16 16 * fsPerUs →
       exec (.ringCoalesceTimer r) s = .next s) ∧
     (s.rf (Reg.RNG_THRESH r) 16 16 ≠ 0 → (s.ringX r).pend ≠ 0 →
       (s.ringX r).firstAt + s.rf (Reg.RNG_THRESH r) 16 16 * fsPerUs ≤ s.now →
       ∃ t, exec (.ringCoalesceTimer r) s = .next t ∧ t.rb (Reg.RNG_STATUS r) 8 = true ∧ (r.val ≠ 23 → (t.ringX r).pend = 0) ∧
         t.event (if ringH2D r then 22 else 23) = true))

/-- Ring 0 and COPY, with no completion waiting for ring 1: a WRITE descriptor of one value writes its register and is returned; a READ
returns with a completion on ring 1; a COPY into HBM3 stores the host octets and nothing else there, a COPY to the host reads them; one of
no length is returned INVALID and moves nothing; one that meets an uncorrectable error records it and leaves HBM3 alone (R364, R377, R378).
The model's reading or choice, by assumption: LEN 0 as the first check (31), descriptors that wait for ring 1 and other COUNTs (29, 30), the
errors met as operands (159). -/
def Obligations.DescriptorCommands : Prop :=
  ∀ s : State, s.pwr.start = none → (s.ringX 1).owed = [] →
    (∀ (k : Fin 4) (v : Word), s.domOn pdSch = true → s.ringReady 0 = true → le (s.headDesc 0) 0 4 % 32 = 5 →
      ring0Access (s.headDesc 0) 0 = (Reg.GLB_SCRATCH k, v) →
      ∃ t, exec .ringWrite s = .next t ∧ t.reg (Reg.GLB_SCRATCH k) = v ∧ t.ringHead 0 = s.ringNext 0 ∧
        RegsKept s t [Reg.GLB_SCRATCH k]) ∧
    (s.ringReady 0 = true → s.ringReady 1 = true → s.domOn pdSch = true → le (s.headDesc 0) 0 4 % 4 = 2 →
      s.readCause (ring0Access (s.headDesc 0) 0).1 = 0 →
      ∃ t, exec .ringRead s = .next t ∧ t.ringHead 0 = s.ringNext 0 ∧
        t.ringHead 1 = s.ringNext 1 ∧ RegsKept s t []) ∧
    (∀ (r : Fin 32) (host hbm n : Nat), 24 ≤ r.val → s.ringReady r = true → s.rf (Reg.RNG_CTRL r) 8 4 = 1 → s.domOn pdMem = true →
      le (s.headDesc r) 0 8 = host → le (s.headDesc r) 8 4 + 2 ^ 32 * (le (s.headDesc r) 0x0C 4 % 4) = hbm →
      le (s.headDesc r) 0x10 4 % 2 ^ 28 = n →
      (n = 0 → ∀ ecc, exec (.ringCopy r ecc) s = .next (s.ringReturn r ((s.headDesc r).take 28) (statusWord false false false 1 0))) ∧
      (n ≠ 0 → le (s.headDesc r) 0x0C 4 / 2 ^ 31 ≠ 1 → hbm + n ≤ cacheBase → ∀ ecc,
        ∃ t, exec (.ringCopy r ecc) s = .next t ∧ t.hbm = (s.hbmWrite hbm (s.hostRead host n)).hbm ∧
          t.ringHead r = s.ringNext r) ∧
      (n ≠ 0 → le (s.headDesc r) 0x0C 4 / 2 ^ 31 = 1 → hbm + n ≤ hbmSize → s.rb Reg.GLB_MEM_STATUS 8 = false → ∀ k ce, k < n →
        ∃ t, exec (.ringCopy r ⟨some k, ce⟩) s = .next t ∧ t.hbm = s.hbm ∧ t.ringHead r = s.ringNext r ∧
          t.rb Reg.GLB_MEM_STATUS 8 = true ∧ t.pair Reg.GLB_MEM_UE_LO = hbm + k ∧
          RegsKept s t [Reg.GLB_MEM_STATUS, Reg.GLB_MEM_UE_LO, Reg.GLB_MEM_UE_HI, Reg.GLB_MEM_CE0, Reg.GLB_MEM_CE1]) ∧
      (n ≠ 0 → le (s.headDesc r) 0x0C 4 / 2 ^ 31 = 1 → hbm + n ≤ hbmSize →
        exec (.ringCopy r ⟨none, []⟩) s = .next ((s.hostWrite host (s.hbmRead hbm n)).ringReturn r ((s.headDesc r).take 28)
          (statusWord false false false 0 0))))

/-! ### Power, resets and start-up (R440-R455, R472, R484) -/

/-- A write of PWR_DOMAIN_EN in RUN switches off the domains it clears and shows a change in progress; its end switches on the domains it
sets and raises event 58; outside RUN it only takes the bits (R441, R442). RECESS leaves the domains of the recess mask on and switches the
others off; RUN, and a wake event that is held, bring the domains of PWR_DOMAIN_EN back with a warm load under way (R443-R446). The model's
reading or choice, by assumption: a change is split between the write and its end (37), a write outside RUN only takes the bits (38), RECESS
is one step (41), the load shown after a wake (42). -/
def Obligations.DomainsRecessAndWake : Prop :=
  (∀ s : State,
     (∀ v : Word, s.Accepts Reg.PWR_DOMAIN_EN v →
       (s.pwrState = 0 → ∃ t, exec (.pwrDomainEnWrite v) s = .next t ∧ t.rb Reg.PWR_DOMAIN_STATUS 16 = true ∧
         t.domainEn = fld v 0 12 ∧ ∀ d : Fin 12, t.domOn d = (s.domOn d && bit v d)) ∧
       (s.pwrState ≠ 0 → ∃ t, exec (.pwrDomainEnWrite v) s = .next t ∧ t.domainEn = fld v 0 12 ∧
         AllRegsKept s t [Reg.PWR_DOMAIN_EN] ∧ OnlyRegs s t)) ∧
     (s.rb Reg.PWR_DOMAIN_STATUS 16 = true → s.pwrState = 0 →
       ∃ t, exec .pwrDomainDone s = .next t ∧ t.rb Reg.PWR_DOMAIN_STATUS 16 = false ∧ t.event 58 = true ∧
         t.rb Reg.PWR_STATUS 8 = true ∧ ∀ d : Fin 12, t.domOn d = (s.domOn d || s.domainEn.testBit d))) ∧
  (∀ s : State,
     (∀ v : Word, s.Accepts Reg.PWR_CMD v → bit v 0 = true → fld v 1 2 = 1 →
       ∃ t, exec (.pwrRecess v) s = .next t ∧ t.pwrState = 2 ∧ t.rb Reg.PWR_CMD 0 = false ∧ t.event 58 = true ∧
         ∀ d : Fin 12, t.domOn d = (s.domOn d && recessMask.testBit d)) ∧
     (∀ v : Word, s.Accepts Reg.PWR_CMD v → bit v 0 = true → fld v 1 2 = 2 →
       ∃ t, exec (.pwrRun v) s = .next t ∧ t.pwrState = 0 ∧ t.event 58 = true ∧ t.rb Reg.IMG_LOAD_STATUS 0 = true ∧
         t.loader.warm = true ∧ ∀ d : Fin 12, t.domOn d = s.domainEn.testBit d) ∧
     (s.pwr.wakeHeld = true → s.pwrState = 2 →
       ∃ t, exec .pwrWake s = .next t ∧ t.pwrState = 0 ∧ t.event 58 = true ∧ t.loader.warm = true ∧
         ∀ d : Fin 12, t.domOn d = s.domainEn.testBit d))


/-- The governor: EN ends FAULT, opens a window and reads the rail, and the voltage read is taken, or its nearest permitted one requested
while EN is 1; a manual request leaves with its voltage, and its GO clears at its acknowledgement; a request behind one under way waits for
it; in FAULT none leaves. A first failure is retried and a second is FAULT with event 60, whatever EN is. A window whose least slack is
below LOW_US steps up by 5 mV, one whose least slack is above HIGH_US, or without a sample, steps down, and another makes no request; a step
down beyond VMIN is withheld, counted, with event 60 (R23, R447-R449, R455). The model's reading or choice, by assumption: requests in FAULT
and behind one under way (43), slack and event 59 (44), which writes are requests (173). -/
def Obligations.GovernorCommands : Prop :=
  ∀ s : State,
    (∀ v : Word, s.Accepts Reg.PWR_GOV_CTRL v → bit v 0 = true → s.rb Reg.PWR_GOV_CTRL 0 = false →
      ∃ t, exec (.govEnable v) s = .next t ∧ t.govState = 1 ∧ t.pwr.winStart = s.now ∧
        (s.pwr.ask = none → t.pwr.ask = some (.read, 0) ∧ (s.boundary = false → t.out = .avs (fld v 1 4) none :: s.out)) ∧
        (s.pwr.ask ≠ none → t.pwr.ask = s.pwr.ask ∧ t.pwr.asks = s.pwr.asks ++ [.read] ∧ t.out = s.out)) ∧
    (∀ v : Word, s.Accepts Reg.PWR_GOV_REQ v → bit v 31 = true →
      ∃ t, exec (.govReq v) s = .next t ∧
        (s.govState ≠ 2 → s.pwr.ask = none → t.vcore = fld v 0 10 ∧ t.pwr.ask = some (.manual (fld v 0 10), 0) ∧
          t.rb Reg.PWR_GOV_REQ 31 = true ∧ (s.boundary = false → t.out = .avs (s.rf Reg.PWR_GOV_CTRL 1 4) (some (fld v 0 10)) :: s.out)) ∧
        (s.govState ≠ 2 → s.pwr.ask ≠ none →
          t.pwr.ask = s.pwr.ask ∧ t.pwr.asks = s.pwr.asks ++ [.manual (fld v 0 10)] ∧ t.out = s.out) ∧
        (s.govState = 2 → t.pwr = s.pwr ∧ t.out = s.out)) ∧
    (∀ (a : GovAsk) (mv k : Nat), s.pwr.ask = some (a, k) → a ≠ .read → ∃ t, exec (.avsResponse (some mv)) s = .next t ∧
      t.pwr.ackAt = some s.now ∧
      (s.pwr.asks = [] → t.pwr.ask = none ∧ t.rb Reg.PWR_GOV_REQ 31 = false ∧ AllRegsKept s t [Reg.PWR_GOV_REQ] ∧
        t = { s with regs := t.regs, pwr := t.pwr }) ∧
      (∀ b bs, s.pwr.asks = b :: bs → t.pwr.ask = some (b, 0) ∧ t.pwr.asks = bs ∧
        AllRegsKept s t [Reg.PWR_GOV_REQ, Reg.PWR_GOV_VCORE])) ∧
    (∀ (mv k c : Nat), s.pwr.ask = some (.read, k) → s.pwr.asks = [] → c = s.govClip mv →
      ∃ t, exec (.avsResponse (some mv)) s = .next t ∧ AllRegsKept s t [Reg.PWR_GOV_VCORE, Reg.PWR_GOV_REQ] ∧
        (mv = c → t.vcore = c ∧ t.pwr.ask = none) ∧
        (mv ≠ c → s.rb Reg.PWR_GOV_CTRL 0 = true → t.vcore = c ∧ t.pwr.ask = some (.auto c, 0)) ∧
        (mv ≠ c → s.rb Reg.PWR_GOV_CTRL 0 = false → t.vcore = mv % 2 ^ 10 ∧ t.pwr.ask = none)) ∧
    (s.pwr.ask = none → ∀ r, exec (.avsResponse r) s = .next s) ∧
    (∀ a : GovAsk, s.pwr.ask = some (a, 0) →
      ∃ t, exec (.avsResponse none) s = .next t ∧ t.pwr.ask = some (a, 1) ∧
        t.reg (Reg.PWR_GOV_CNT 3) = satWord (s.reg (Reg.PWR_GOV_CNT 3)) 1) ∧
    (∀ a : GovAsk, s.pwr.ask = some (a, 1) →
      ∃ t, exec (.avsResponse none) s = .next t ∧ t.pwr.ask = none ∧ t.pwr.asks = [] ∧ t.govState = 2 ∧ t.event 60 = true ∧
        t.rf Reg.PWR_GOV_STATUS 4 2 = 3 ∧ t.rb Reg.PWR_GOV_REQ 31 = false) ∧
    (s.windowDue = true → s.govReady = true → s.pwr.minSlack = none → s.vMin + 5 ≤ s.vcore → s.vcore ≤ s.vMax + 5 →
      ∃ t, exec .govWindowEnd s = .next t ∧ t.vcore = s.vcore - 5 ∧ t.pwr.winStart = s.now ∧
        t.pwr.ask = some (.auto (s.vcore - 5), 0) ∧ t.reg (Reg.PWR_GOV_CNT 1) = satWord (s.reg (Reg.PWR_GOV_CNT 1)) 1 ∧
        AllRegsKept s t [Reg.PWR_GOV_CNT 1, Reg.PWR_GOV_VCORE]) ∧
    (s.windowDue = true → s.govReady = true → s.pwr.minSlack = none → s.vcore - 5 < s.vMin → s.vcore - 5 ≤ s.vMax →
      ∃ t, exec .govWindowEnd s = .next t ∧ t.vcore = s.vcore ∧ t.pwr.ask = none ∧ t.event 60 = true ∧
        t.rf Reg.PWR_GOV_STATUS 4 2 = 1 ∧ t.reg (Reg.PWR_GOV_CNT 2) = satWord (s.reg (Reg.PWR_GOV_CNT 2)) 1 ∧
        RegsKept s t [Reg.PWR_GOV_CNT 2, Reg.PWR_GOV_STATUS, Reg.PWR_STATUS]) ∧
    (∀ x : Int, s.windowDue = true → s.govReady = true → s.pwr.minSlack = some x →
      x < s.rf Reg.PWR_GOV_TARGET 0 16 * ((1000 * stampNsUnit : Nat) : Int) → s.vMin ≤ s.vcore + 5 → s.vcore + 5 ≤ s.vMax →
      ∃ t, exec .govWindowEnd s = .next t ∧ t.vcore = s.vcore + 5 ∧ t.pwr.ask = some (.auto (s.vcore + 5), 0) ∧
        t.reg (Reg.PWR_GOV_CNT 0) = satWord (s.reg (Reg.PWR_GOV_CNT 0)) 1 ∧
        (x < s.rf Reg.PWR_GOV_ALARM 0 16 * ((1000 * stampNsUnit : Nat) : Int) → t.event 59 = true)) ∧
    (∀ x : Int, s.windowDue = true → s.govReady = true → s.pwr.minSlack = some x →
      s.rf Reg.PWR_GOV_TARGET 0 16 * ((1000 * stampNsUnit : Nat) : Int) ≤ x →
      (s.rf Reg.PWR_GOV_TARGET 16 16 * ((1000 * stampNsUnit : Nat) : Int) < x → s.vMin + 5 ≤ s.vcore → s.vcore ≤ s.vMax + 5 →
        ∃ t, exec .govWindowEnd s = .next t ∧ t.vcore = s.vcore - 5 ∧ t.pwr.ask = some (.auto (s.vcore - 5), 0) ∧
          t.pwr.winStart = s.now ∧ t.reg (Reg.PWR_GOV_CNT 1) = satWord (s.reg (Reg.PWR_GOV_CNT 1)) 1) ∧
      (x ≤ s.rf Reg.PWR_GOV_TARGET 16 16 * ((1000 * stampNsUnit : Nat) : Int) →
        ∃ t, exec .govWindowEnd s = .next t ∧ t.vcore = s.vcore ∧ t.pwr.ask = none ∧ t.pwr.winStart = s.now)) ∧
    (s.windowDue = false → exec .govWindowEnd s = .next s)

/-- The resets: what main power-on reset, at a ramp-in or a brown-out, and a device reset leave of locks, domains, causes and the backup
domain; a supply that falls for less than 1.00 µs changes nothing, and one that stays above its brown-out threshold, or falls while
brown-out detection is not armed, at most moves PD_AON to VBAT; a function-level reset and PERST# reach the MSI-X table and the rings and
leave the locks, the seats, the keys and HBM3 alone (R33, R53, R450, R451, R468). The model's reading or choice, by assumption: HBM3 after a
reset (2, 40, 163), D3hot and its cause bits (26), the MSI-X table (25), the operands of a fall of supplies (178). -/
def Obligations.ResetsReachWhatTheyName : Prop :=
  ∀ s : State,
    (∀ v : Word, s.Accepts Reg.GLB_RESET v → bit v 0 = true →
      ∃ t, exec (.deviceReset v) s = .next t ∧ t.reg Reg.GLB_LOCK = 0 ∧ t.reg Reg.PWR_DOMAIN_STATUS = 0 ∧
        t.rb Reg.PWR_RESET_CAUSE 2 = true ∧ t.reg Reg.GLB_BOARD = s.reg Reg.GLB_BOARD ∧ t.rtc = s.rtc ∧
        t.seats = [] ∧ t.hbm = [] ∧ t.pwr.start = some .domains) ∧
    (∃ t, exec (.mainPowerOnReset .rampIn) s = .next t ∧ t.reg Reg.GLB_LOCK = 0 ∧ t.reg Reg.PWR_DOMAIN_STATUS = 0 ∧
      t.reg Reg.PWR_RESET_CAUSE = 1 ∧ t.rtc.lockout = true ∧ t.rtc.onVbat = true ∧ t.rtc.count = s.rtc.count ∧ t.hbm = [] ∧
      t.pwr.start = some .full ∧ t.pcie = {}) ∧
    (∀ (levels : List (Fin 8 × Nat)) (ns : Nat) (low : Bool), low = levels.any (fun l => l.1.val == 6 && decide (l.2 < 1650)) →
      (ns < 1000 → exec (.mainPowerOnReset (.dip levels ns)) s = .next s) ∧
      (1000 ≤ ns → (∀ l ∈ levels, brownOutMv.getD l.1 0 ≤ l.2) ∨ s.pwr.start = some .full →
        exec (.mainPowerOnReset (.dip levels ns)) s = .next (if low then s.toVbat else s)) ∧
      (1000 ≤ ns → (∃ l ∈ levels, l.2 < brownOutMv.getD l.1 0) → s.pwr.start ≠ some .full →
        ∃ t, exec (.mainPowerOnReset (.dip levels ns)) s = .next t ∧ t.reg Reg.GLB_LOCK = 0 ∧ t.reg Reg.PWR_DOMAIN_STATUS = 0 ∧
          t.rb Reg.PWR_RESET_CAUSE 0 = true ∧ t.rb Reg.PWR_RESET_CAUSE 1 = true ∧
          (∀ i : Fin 8, t.rb Reg.PWR_RESET_CAUSE (8 + i) = levels.any (fun l => l.1 == i && decide (l.2 < brownOutMv.getD i 0))) ∧
          t.rtc.lockout = true ∧ t.rtc.onVbat = (s.rtc.onVbat || low) ∧ t.rtc.count = s.rtc.count ∧ t.hbm = [] ∧
          t.pwr.start = some .full)) ∧
    (∀ d3 : Bool, s.pcieUp = true → (d3 = true → s.pcie.d3hot = false) →
      ∃ t, exec (.functionLevelReset d3) s = .next t ∧ t.msix = [] ∧ t.rings = [] ∧
      t.pcie = { d3hot := d3, trained := s.pcie.trained } ∧
      t.reg Reg.GLB_LOCK = s.reg Reg.GLB_LOCK ∧ t.rb Reg.PWR_RESET_CAUSE 4 = (!d3 || s.rb Reg.PWR_RESET_CAUSE 4) ∧
      (∀ r : Fin 32, t.ringState r = 0) ∧ t.seats = s.seats ∧ t.keys = s.keys ∧ t.hbm = s.hbm ∧ t.tbs = s.tbs) ∧
    (∃ t, exec .perst s = .next t ∧ t.pwr.perst = true ∧ t.rb Reg.PWR_RESET_CAUSE 3 = true ∧ t.msix = [] ∧ t.rings = [] ∧
      t.pcie = { trained := s.pcie.trained } ∧ t.reg Reg.GLB_LOCK = s.reg Reg.GLB_LOCK ∧ t.seats = s.seats ∧ t.keys = s.keys ∧
      t.hbm = s.hbm ∧ t.tbs = s.tbs) ∧
    exec .perstRelease s =
      .next { s with pwr := { s.pwr with perst := false }, pcie := { s.pcie with trained := s.pcie.target } }

/-- Start-up brings the domains of PWR_DOMAIN_EN on and begins the boot; after a power-on reset it also samples the pins and locks the PLL,
and comes no earlier than 2.00 ms after the last supply is in range (R452, R469). Event 62 once a sensor reaches 100 °C, and not again until
every sensor is below 95 °C; a bank's supply is what it was last said to be (R472, R484). The model's reading or choice, by assumption: the
straps (4), the PLL (45), the load shown (42), a release that comes early (178), a temperature between the limits (47), the levels of a bank
supply (118). -/
def Obligations.StartUpTemperatureAndBankSupplies : Prop :=
  (∀ (s : State) (pairId : Bool) (r : Release),
     (s.pwr.start = some .full → 2000 ≤ r.steadyUs → ∃ t, exec (.startUp pairId r) s = .next t ∧
       t.rb Reg.TB_PLL 8 = true ∧ t.rf Reg.GLB_BOARD 0 3 = r.pos ∧ t.rb Reg.GLB_BOARD 3 = pairId ∧ t.rtc.lockout = false) ∧
     (s.pwr.start ≠ none → (s.pwr.start = some .full → 2000 ≤ r.steadyUs) → ∃ t, exec (.startUp pairId r) s = .next t ∧
       t.pwr.start = none ∧ t.rb Reg.IMG_LOAD_STATUS 0 = true ∧
       t.loader.warm = false ∧ ∀ d : Fin 12, t.domOn d = (s.domOn d || s.domainEn.testBit d)) ∧
     (s.pwr.start = none ∨ s.pwr.start = some .full ∧ r.steadyUs < 2000 → exec (.startUp pairId r) s = .next s)) ∧
  (∀ s : State,
     (∀ temps : List Int, s.pwr.thermArmed = true → (∃ x ∈ temps, 1000 ≤ x) →
       ∃ t, exec (.therm temps) s = .next t ∧ t.event 62 = true ∧ t.pwr.thermArmed = false) ∧
     (∀ temps : List Int, s.pwr.thermArmed = false ∨ (∀ x ∈ temps, x < 1000) → (∃ x ∈ temps, 950 ≤ x) →
       exec (.therm temps) s = .next s) ∧
     (∀ temps : List Int, (∀ x ∈ temps, x < 950) →
       exec (.therm temps) s = .next { s with pwr := { s.pwr with thermArmed := true } }) ∧
     (∀ (b : Fin 4) (mv : Nat), ∃ t, exec (.bankSupplyChange b mv) s = .next t ∧ t = { s with pwr := t.pwr } ∧
       t.bank3v3 b = decide (2500 ≤ mv) ∧ ∀ c : Fin 4, c ≠ b → t.bank3v3 c = s.bank3v3 c))


/-! ### Image loader (R59-R86) -/

/-- BOOT_LOAD: a copy that passes every check is applied: classrooms of the image in SERVICE, IMG_VERSION, IMG_DONE, event 0; a primary copy
that fails its checks leaves its code and section, event 1, and every classroom EMPTY, and where IMG_CTRL allows the second copy is then
tried the same way (R65-R68). Not BUSY, nothing happens. The model's reading or choice, by assumption: ERR 0 after the second copy, and
event 1 of each (104), sections that cannot be placed (106), the contents of a section (102). -/
def Obligations.BootLoads : Prop :=
  ∀ (s : State) (bad desks : List (Nat × Nat)),
    (s.rb Reg.IMG_LOAD_STATUS 0 = true → s.domOn pdHost = true → s.domOn pdMem = true →
      ∀ u, u = (State.selectReadMode { (s.setRf Reg.IMG_LOAD_STATUS 1 2 1).setRb Reg.IMG_LOAD_STATUS 3 false with
          loader := { s.loader with warm := false } }).readFlash 0 →
        ((u.checkFlash 0 (framesBad bad 0)).1 = 0 → u.AppliesImage (u.flashAt 0) desks s.loader.warm →
          ∃ t, exec (.bootLoad bad desks) s = .next t ∧ t.LoadEnded 0 0 ∧ t.rb Reg.IMG_LOAD_STATUS 3 = true ∧
            t.reg Reg.IMG_VERSION = word (hdrVersion (s.flashAt 0 0 4096)) ∧ t.rb Reg.IMG_CACHE 0 = true ∧ t.event 0 = true ∧
            ∀ (c : Fin 32) (e : List Byte), e = secEntry (s.flashAt 0 0 4096) (c + 1) → secFrames e ≠ 0 →
              t.domOn (classDomain c) = true →
              t.linkOff c (planOf e (sectionFrames (s.flashAt 0) (s.flashAt 0 0 4096) (c + 1))) = false → t.clsState c = 1) ∧
        (∀ code sec, u.checkFlash 0 (framesBad bad 0) = (code, sec) → code ≠ 0 →
          (s.rb Reg.IMG_CTRL 1 = false →
            ∃ t, exec (.bootLoad bad desks) s = .next t ∧ t.LoadEnded code sec ∧ t.event 1 = true ∧
              t.reg Reg.IMG_VERSION = 0 ∧ ∀ c : Fin 32, t.clsState c = 0) ∧
          (s.rb Reg.IMG_CTRL 1 = true →
            ∀ v, v = ((u.attemptFail (u.flashAt 0) (code, sec)).setRf Reg.IMG_LOAD_STATUS 1 2 2).readFlash 0x4000000 →
            ((v.checkFlash 0x4000000 (framesBad bad 1)).1 = 0 → v.AppliesImage (v.flashAt 0x4000000) desks s.loader.warm →
              ∃ t, exec (.bootLoad bad desks) s = .next t ∧ t.LoadEnded 0 0 ∧ t.rb Reg.IMG_LOAD_STATUS 3 = true ∧
                t.reg Reg.IMG_VERSION = word (hdrVersion (s.flashAt 0x4000000 0 4096)) ∧ t.event 0 = true) ∧
            (∀ code2 sec2, v.checkFlash 0x4000000 (framesBad bad 1) = (code2, sec2) → code2 ≠ 0 →
              ∃ t, exec (.bootLoad bad desks) s = .next t ∧ t.LoadEnded code2 sec2 ∧ t.event 1 = true ∧
                t.reg Reg.IMG_VERSION = 0 ∧ ∀ c : Fin 32, t.clsState c = 0)))) ∧
    (s.rb Reg.IMG_LOAD_STATUS 0 = false → exec (.bootLoad bad desks) s = .next s)

/-- LOAD and CACHE: LOAD is refused with 10 where the source is not allowed or out of range, all kept; an image that fails its checks leaves
its code and section with event 1, and a LOAD then every classroom EMPTY; a verified image is applied, or stored in the chosen cache entry
(R69, R71). GO reads 0 afterwards. The codes 10 of CACHE and 12 of both, with PD_MEM off, are the model's choice (assumption 164). The
model's reading or choice, by assumption: checks that R65 does not list (103), entry 0 (163), what a CACHE that fails leaves (181), SOURCE
of a refused command (182). -/
def Obligations.HostLoadsAndCaching : Prop :=
  ∀ (s : State) (v : Word), s.Accepts Reg.IMG_LOAD_CMD v → bit v 0 = true →
    (∀ desks, fld v 1 2 = 1 →
      (s.rb Reg.IMG_SRC 0 = false ∨ s.rb Reg.IMG_LOAD_STATUS 3 = true ∨ hbmRangeOk s.stageAt s.stageLen = false →
        ∃ t, exec (.imgLoad v desks) s = .next t ∧ t.LoadEnded 10 63 ∧ t.event 1 = true ∧ t.rb Reg.IMG_LOAD_CMD 0 = false ∧
          RegsKept s t [Reg.IMG_LOAD_CMD, Reg.IMG_LOAD_STATUS] ∧ OnlyRegsAndEvents s t) ∧
      (s.rb Reg.IMG_SRC 0 = true → s.rb Reg.IMG_LOAD_STATUS 3 = false → hbmRangeOk s.stageAt s.stageLen = true →
        (s.domOn pdMem = false →
          ∃ t, exec (.imgLoad v desks) s = .next t ∧ t.LoadEnded 12 63 ∧ t.event 1 = true ∧ t.rb Reg.IMG_LOAD_CMD 0 = false ∧
            RegsKept s t [Reg.IMG_LOAD_CMD, Reg.IMG_LOAD_STATUS] ∧ OnlyRegsAndEvents s t) ∧
        (s.domOn pdMem = true →
          (∀ code sec, s.checkStaged false = (code, sec) → code ≠ 0 →
            ∃ t, exec (.imgLoad v desks) s = .next t ∧ t.LoadEnded code sec ∧ t.event 1 = true ∧ t.rb Reg.IMG_LOAD_CMD 0 = false ∧
              ∀ c : Fin 32, t.clsState c = 0) ∧
          ((s.checkStaged false).1 = 0 →
            ∀ u, u = (((s.setReg Reg.IMG_LOAD_CMD (merge 0x37 v (s.reg Reg.IMG_LOAD_CMD))).setRf Reg.IMG_LOAD_STATUS 1 2 3).setRb
                Reg.IMG_LOAD_STATUS 0 true) → u.AppliesImage (u.hbmAt s.stageAt) desks false →
              ∃ t, exec (.imgLoad v desks) s = .next t ∧ t.LoadEnded 0 0 ∧ t.rb Reg.IMG_LOAD_STATUS 3 = true ∧
                t.reg Reg.IMG_VERSION = word (hdrVersion (s.hbmRead s.stageAt 4096)) ∧ t.event 0 = true ∧
                t.rb Reg.IMG_LOAD_CMD 0 = false)))) ∧
    (fld v 1 2 = 2 →
      (∀ code, hbmRangeOk s.stageAt s.stageLen = false ∧ code = 10 ∨
          hbmRangeOk s.stageAt s.stageLen = true ∧ s.domOn pdMem = false ∧ code = 12 →
        ∃ t, exec (.imgCache v) s = .next t ∧ t.LoadEnded code 63 ∧ t.rb Reg.IMG_CACHE (fld v 4 2) = false ∧ t.event 1 = true ∧
          t.rb Reg.IMG_LOAD_CMD 0 = false ∧ t.hbm = s.hbm) ∧
      (hbmRangeOk s.stageAt s.stageLen = true → s.domOn pdMem = true →
        (∀ code sec, s.checkStaged true = (code, sec) → code ≠ 0 →
          ∃ t, exec (.imgCache v) s = .next t ∧ t.LoadEnded code sec ∧ t.rb Reg.IMG_CACHE (fld v 4 2) = false ∧ t.event 1 = true ∧
            t.rb Reg.IMG_LOAD_CMD 0 = false ∧ t.hbm = s.hbm) ∧
        ((s.checkStaged true).1 = 0 →
          ∃ t, exec (.imgCache v) s = .next t ∧ t.rb Reg.IMG_CACHE (fld v 4 2) = true ∧ t.rf Reg.IMG_LOAD_STATUS 8 8 = 0 ∧
            t.event 0 = true ∧ t.rb Reg.IMG_LOAD_CMD 0 = false ∧
            t.hbm = (s.hbmWrite (entryAt (fld v 4 2)) (s.hbmRead s.stageAt (hdrLength (s.hbmRead s.stageAt 4096)))).hbm)))

/-- UPDATE and REPAIR put the cached section of a classroom in SERVICE, with event 2; a refusal names its code and leaves the classroom as
it was; a failed write leaves it COVERED, or EMPTY where it was EMPTY, with event 1 and its code: 15 an uncorrectable error, 8 the digest,
14 no spare. A desk in use that is retired after hand-back leaves the command's success and the classroom COVERED, with the repair that
AUTO_REPAIR asks for (R72-R75, R78-R80). The model's reading or choice, by assumption: the order of the refusals (105), which desks fail
(92), the map that is chosen (107), the errors met (159). -/
def Obligations.ClassroomRewrites : Prop :=
  ∀ (s : State) (c : Fin 32) (v : Word) (bad all : List Nat) (ecc : EccMet) (late : List (Nat × Nat)) (cmd : Instr) (n : Nat),
    s.Accepts Reg.IMG_CLS_CMD v → bit v 0 = true → fld v 8 5 = c →
    all = (if s.clsState c = 0 then bad ++ late.map (fun d => d.1) else bad) →
    (cmd = .update v ⟨bad, late⟩ ecc ∧ fld v 1 2 = 1 ∧ n = fld v 16 2 ∨ cmd = .repair v ⟨bad, late⟩ ecc ∧ fld v 1 2 = 2 ∧ n = 0) →
    (s.domOn (classDomain c) = false → ∃ t, exec cmd s = .next t ∧ s.ClassEnded t 12 c ∧ t.rb Reg.IMG_CLS_CMD 0 = false ∧
      AllRegsKept s t [Reg.IMG_CLS_CMD, Reg.IMG_CLS_STATUS] ∧ OnlyRegs s t) ∧
    (s.domOn (classDomain c) = true → fld v 1 2 = 2 → s.clsState c = 0 → ∃ t, exec cmd s = .next t ∧ s.ClassEnded t 16 c ∧
      AllRegsKept s t [Reg.IMG_CLS_CMD, Reg.IMG_CLS_STATUS] ∧ OnlyRegs s t) ∧
    (s.domOn (classDomain c) = true → (fld v 1 2 = 2 → s.clsState c ≠ 0) →
      (s.cached n c = none → ∃ t, exec cmd s = .next t ∧ s.ClassEnded t 17 c ∧
        AllRegsKept s t [Reg.IMG_CLS_CMD, Reg.IMG_CLS_STATUS] ∧ OnlyRegs s t) ∧
      (∀ e fs code, s.cached n c = some (e, fs) →
        s.linkOff c (planOf e fs) = true ∧ code = 12 ∨
          s.linkOff c (planOf e fs) = false ∧ s.clsState c = 1 ∧ s.noCover c = true ∧ code = 13 →
        ∃ t, exec cmd s = .next t ∧ s.ClassEnded t code c ∧
          AllRegsKept s t [Reg.IMG_CLS_CMD, Reg.IMG_CLS_STATUS] ∧ OnlyRegs s t) ∧
      (∀ e fs, s.cached n c = some (e, fs) → s.linkOff c (planOf e fs) = false → ¬ (s.clsState c = 1 ∧ s.noCover c = true) →
        (ecc.ue = none → sha256 fs = secDigest e → s.Spares c all →
          (s.clsState c = 0 ∨ late = [] → ∃ t, exec cmd s = .next t ∧ s.ClassEnded t 0 c ∧ t.clsState c = 1 ∧
            t.rf (Reg.IMG_CLS_STATE c) 16 16 = le (secDigest e) 0 2 ∧
            (t.classroom c).plan = some (planOf e fs) ∧ t.event 2 = true ∧ t.rb Reg.IMG_CLS_CMD 0 = false) ∧
          (∀ (p : Fin 136) (k : Nat), s.clsState c ≠ 0 → late = [(p.val, k)] → p.val ∈ s.baseMap c → s.desk c p ≠ 3 → p.val ∉ bad →
            ∃ t, exec cmd s = .next t ∧ s.ClassEnded t 0 c ∧ t.clsState c = 3 ∧ t.desk c p = 3 ∧ t.inCover c = true ∧
              t.event 2 = true ∧ t.event 3 = true ∧ (t.classroom c).owed = s.rb Reg.IMG_CTRL 0)) ∧
        (∀ code, ecc.ue ≠ none ∧ code = 15 ∨ ecc.ue = none ∧ sha256 fs ≠ secDigest e ∧ code = 8 ∨
            ecc.ue = none ∧ sha256 fs = secDigest e ∧ ¬ s.Spares c all ∧ code = 14 →
          ∃ t, exec cmd s = .next t ∧ s.ClassEnded t code c ∧ t.clsState c = (if s.clsState c = 0 then 0 else 3) ∧
            t.event 1 = true ∧ (t.classroom c).owed = false ∧
            (∀ k, ecc.ue = some k → s.rb Reg.GLB_MEM_STATUS 8 = false → entryAt n + k < hbmSize →
              t.rb Reg.GLB_MEM_STATUS 8 = true ∧ t.pair Reg.GLB_MEM_UE_LO = entryAt n + k)) ∧
        (∀ k, ecc = ⟨none, [k]⟩ → ∃ t, exec cmd s = .next t ∧
          t.reg (if entryAt n + k < 2 ^ 33 then Reg.GLB_MEM_CE0 else Reg.GLB_MEM_CE1) =
            satWord (s.reg (if entryAt n + k < 2 ^ 33 then Reg.GLB_MEM_CE0 else Reg.GLB_MEM_CE1)) 1)))

/-- UNLOAD of a classroom whose lessons have no roll begun leaves it EMPTY, with event 2; while one has, the command waits and the classroom
stays as it is; one that is EMPTY gives code 16 (R76). The loader's own repair of a COVERED classroom brings it back into SERVICE, and one
that is not owed does nothing (R77, R78). The model's reading or choice, by assumption: what AUTO_REPAIR publishes (112), an UNLOAD of a
starved lesson (169). -/
def Obligations.UnloadAndOwnRepair : Prop :=
  ∀ (s : State) (c : Fin 32),
    (∀ v : Word, s.Accepts Reg.IMG_CLS_CMD v → bit v 0 = true → fld v 1 2 = 3 → fld v 8 5 = c → s.domOn (classDomain c) = true →
      (s.clsState c = 0 → ∃ t, exec (.unload v) s = .next t ∧ s.ClassEnded t 16 c ∧
        AllRegsKept s t [Reg.IMG_CLS_CMD, Reg.IMG_CLS_STATUS] ∧ OnlyRegs s t) ∧
      (s.clsState c ≠ 0 → (∀ i ∈ s.lessonsOn c, (s.lesson i).begun = none) →
        ∃ t, exec (.unload v) s = .next t ∧ s.ClassEnded t 0 c ∧ t.clsState c = 0 ∧ (t.classroom c).plan = none ∧
          (∀ d : Fin 128, t.mapOf c d = 0xFF) ∧ t.event 2 = true ∧ t.rb Reg.IMG_CLS_CMD 0 = false) ∧
      (s.clsState c ≠ 0 → (∃ i ∈ s.lessonsOn c, (s.lesson i).begun ≠ none) →
        ∃ t, exec (.unload v) s = .next t ∧ t = { s with regs := t.regs, loader := { s.loader with unloading := some c.val } } ∧
          t.rb Reg.IMG_CLS_CMD 0 = true ∧ t.rb Reg.IMG_CLS_STATUS 31 = false ∧
          AllRegsKept s t [Reg.IMG_CLS_CMD, Reg.IMG_CLS_STATUS])) ∧
    (∀ bad ce e fs, s.rb Reg.IMG_CTRL 0 = true → (s.classroom c).owed = true → s.clsState c = 3 → s.loader.unloading = none →
      s.domOn pdHost = true → s.domOn (classDomain c) = true → s.cached 0 c = some (e, fs) → s.linkOff c (planOf e fs) = false →
      sha256 fs = secDigest e → s.Spares c bad →
      ∃ t, exec (.autoRepair c ⟨bad, []⟩ ⟨none, ce⟩) s = .next t ∧ s.ClassEnded t 0 c ∧ t.clsState c = 1 ∧ (t.classroom c).owed = false ∧
        t.event 2 = true) ∧
    (∀ desks ecc, (s.classroom c).owed = false ∨ s.clsState c ≠ 3 → exec (.autoRepair c desks ecc) s = .next s)

/-! ### Ethernet ports, parallel redundancy and field segments (R130-R160) -/

/-- The PCS's locks and MAC_CTRL: LINK is EN with block lock, and with FEC lock where FEC is on; event 18 at a change; without EN there is
no link; the codewords that the FEC corrected and found uncorrectable are counted while it is on (R131, R132, R158). The model's reading or
choice, by assumption: LINK as the conjunction with EN (71), the codewords as operands (159). -/
def Obligations.PortLinkAndControl : Prop :=
  ∀ (s : State) (p : Fin 4),
    (∀ (block fec : Bool) (corr uncorr : Nat) (kept : List Nat), s.domOn (portDomain p) = true →
      kept = [Reg.MAC_STATUS p, Reg.MAC_STAT_LO p fecCorr, Reg.MAC_STAT_LO p fecCorr + 4, Reg.MAC_STAT_LO p fecUncorr,
        Reg.MAC_STAT_LO p fecUncorr + 4] →
      ∃ t, exec (.macLink p block ⟨fec, corr, uncorr⟩) s = .next t ∧
      t.macLink p = (s.macEn p && block && (decide (s.rf (Reg.MAC_CTRL p) 2 2 = 0) || fec)) ∧
      (t.macLink p ≠ s.macLink p → t.event 18 = true ∧ t.rb (Reg.MAC_STATUS p) 8 = true) ∧
      (s.macEn p = true → s.rf (Reg.MAC_CTRL p) 2 2 ≠ 0 →
        t.pair (Reg.MAC_STAT_LO p fecCorr) = (s.pair (Reg.MAC_STAT_LO p fecCorr) + corr) % 2 ^ 64 ∧
        t.pair (Reg.MAC_STAT_LO p fecUncorr) = (s.pair (Reg.MAC_STAT_LO p fecUncorr) + uncorr) % 2 ^ 64) ∧
      (t.macLink p = s.macLink p → AllRegsKept s t kept) ∧ RegsKept s t kept ∧ OnlyRegsAndEvents s t) ∧
    (∀ v : Word, s.Accepts (Reg.MAC_CTRL p) v → ∃ t, exec (.macCtrlWrite p v) s = .next t ∧
      t.macEn p = bit v 0 ∧ t.rf (Reg.MAC_CTRL p) 1 3 = fld v 1 3 ∧
      (bit v 0 = false → t.macLink p = false ∧
        (s.macLink p = true → t.event 18 = true ∧ t.rb (Reg.MAC_STATUS p) 8 = true)) ∧
      RegsKept s t [Reg.MAC_CTRL p, Reg.MAC_STATUS p] ∧ OnlyRegsAndEvents s t)

/-- A frame at a port that receives: a wrong FCS or a PCS error counts and nothing else, a wrong length, a MAC control frame and one that
the filter does not pass likewise; a good frame that the filter passes is counted and waits for the intake parser; one for which there is no
room is dropped with event 19 (R133-R137). The model's reading or choice, by assumption: how a frame is given (63), room in the buffer (62),
tags (66). -/
def Obligations.FrameReception : Prop :=
  ∀ (s : State) (p : Fin 4) (f sum : List Byte) (pcsErr full : Bool) (ph : Nat), sum.length = 4 →
    s.domOn (portDomain p) = true → s.macEn p = true → s.rb (Reg.MAC_CTRL p) 4 = true → s.macLink p = true →
    (pcsErr = true ∨ sum ≠ fcs f →
      ∃ t, exec (.frameReceive p (f ++ sum) pcsErr ph full) s = .next t ∧
        t.pair (Reg.MAC_STAT_LO p rxFcsErr) = (s.pair (Reg.MAC_STAT_LO p rxFcsErr) + 1) % 2 ^ 64 ∧
        AllRegsKept s t [Reg.MAC_STAT_LO p rxFcsErr, Reg.MAC_STAT_LO p rxFcsErr + 4] ∧ OnlyRegs s t) ∧
    (pcsErr = false → sum = fcs f →
      (f.length < 60 ∨ s.macMaxLen p < f.length + 4 →
        ∃ t, exec (.frameReceive p (f ++ sum) pcsErr ph full) s = .next t ∧
          t.pair (Reg.MAC_STAT_LO p rxLenErr) = (s.pair (Reg.MAC_STAT_LO p rxLenErr) + 1) % 2 ^ 64 ∧
          AllRegsKept s t [Reg.MAC_STAT_LO p rxLenErr, Reg.MAC_STAT_LO p rxLenErr + 4] ∧ OnlyRegs s t) ∧
      (∀ k : Nat, 60 ≤ f.length → f.length + 4 ≤ s.macMaxLen p →
        ((etherType f).1 = 0x8808 ∧ k = rxCtrl ∨
          (etherType f).1 ≠ 0x8808 ∧ s.macAccepts p (f.take 6) = false ∧ k = rxFiltered) →
        ∃ t, exec (.frameReceive p (f ++ sum) pcsErr ph full) s = .next t ∧
          t.pair (Reg.MAC_STAT_LO p k) = (s.pair (Reg.MAC_STAT_LO p k) + 1) % 2 ^ 64 ∧
          AllRegsKept s t [Reg.MAC_STAT_LO p k, Reg.MAC_STAT_LO p k + 4] ∧ OnlyRegs s t) ∧
      (60 ≤ f.length → f.length + 4 ≤ s.macMaxLen p → (etherType f).1 ≠ 0x8808 → s.macAccepts p (f.take 6) = true →
        (full = false → s.rxHeld p + f.length + 4 ≤ rxBufferSize → s.prpEn p = false → s.domOn pdRcl = true →
          s.rb Reg.ITK_CTRL 0 = true →
          ∃ t, exec (.frameReceive p (f ++ sum) pcsErr ph full) s = .next t ∧
            t.rxOf p = s.rxOf p ++ [{ octets := f, port := p, stamp := (s.ingressStamp p f ph).1, tb := (s.ingressStamp p f ph).2,
                                      rct := false, ring := 6 + p }] ∧
            t.pair (Reg.MAC_STAT_LO p rxFrames) = (s.pair (Reg.MAC_STAT_LO p rxFrames) + 1) % 2 ^ 64 ∧
            t.pair (Reg.MAC_STAT_LO p rxOctets) = (s.pair (Reg.MAC_STAT_LO p rxOctets) + f.length + 4) % 2 ^ 64) ∧
        (full = true → ∃ t, exec (.frameReceive p (f ++ sum) pcsErr ph full) s = .next t ∧
          t.pair (Reg.MAC_STAT_LO p rxDrop) = (s.pair (Reg.MAC_STAT_LO p rxDrop) + 1) % 2 ^ 64 ∧ t.event 19 = true ∧
          t.rxq = s.rxq)))

/-- MAC_TRANSMIT: a frame of the alarm path goes first, and where it is not doubled leaves with its FCS, or is discarded and counted where
the port cannot send; a doubled frame leaves at the first port with LAN identifier 10 and waits at the second with identifier 11 and the
same sequence number, from where it leaves in its turn; the ring's frame leaves and its descriptor is returned; a refused descriptor is
returned and counted. A LAN that has been silent for FAULT_TIME while the other received shows its fault with event 21 (R138, R139, R141,
R151, R152, R156, R262). The model's reading or choice, by assumption: the two copies of a doubled frame (65), a buffer that cannot be read
(168), the order of refusals (64), supervision from EN on (70), the counters of PRP (185), a count beyond LSDUsize (184). -/
def Obligations.TransmissionAndRedundancy : Prop :=
  ∀ (s : State) (ph : Nat), s.boundary = false →
    (∀ (p : Fin 4) (x : TxFrame), (s.txOf p).find? (fun y => y.source = 0) = some x → s.txReady p = true →
      s.rb (Reg.TBP_CFG p) 8 = false →
      x.copy = true ∨ s.prpDoubles p x.octets false = false ∧ (padFrame x.octets).length + 4 ≤ s.macMaxLen p →
      ∃ t, exec (.macTransmit p ph) s = .next t ∧ t.txOf p = (s.txOf p).erase x ∧
        t.out = .frame p (padFrame x.octets ++ fcs (padFrame x.octets)) :: s.out ∧
        t.pair (Reg.MAC_STAT_LO p txFrames) = (s.pair (Reg.MAC_STAT_LO p txFrames) + 1) % 2 ^ 64 ∧
        (x.copy = true → t.reg (Reg.PRP_CNT (p / 2) 1) = satWord (s.reg (Reg.PRP_CNT (p / 2) 1)) 1)) ∧
    (∀ (p : Fin 4) (x : TxFrame), (s.txOf p).find? (fun y => y.source = 0) = some x → s.domOn (portDomain p) = true →
      s.txReady p = false → x.copy = true ∨ s.prpDoubles p x.octets false = false →
      ∃ t, exec (.macTransmit p ph) s = .next t ∧ t.txOf p = (s.txOf p).erase x ∧ t.out = s.out ∧
        t.pair (Reg.MAC_STAT_LO p txErr) = (s.pair (Reg.MAC_STAT_LO p txErr) + 1) % 2 ^ 64 ∧ t.rb (Reg.MAC_STATUS p) 10 = true ∧
        (s.domOn pdSch = true → t.reg (Reg.ANA_CNT 2) = satWord (s.reg (Reg.ANA_CNT 2)) 1) ∧
        AllRegsKept s t [Reg.MAC_STAT_LO p txErr, Reg.MAC_STAT_LO p txErr + 4, Reg.MAC_STATUS p, Reg.ANA_CNT 2]) ∧
    (∀ (q : Fin 2) (x : TxFrame) (a b : List Byte), (s.txOf (2 * q)).find? (fun y => y.source = 0) = some x →
      x.copy = false → s.prpDoubles (2 * q) x.octets false = true → s.txReady (2 * q) = true → s.rb (Reg.TBP_CFG (2 * q)) 8 = false →
      wireLen x.octets true ≤ s.macMaxLen (2 * q) → wireLen x.octets true ≤ s.macMaxLen (2 * q + 1) →
      a = padFrame (withRct x.octets (s.rf (Reg.PRP_SEQ q) 0 16) 10) → b = withRct x.octets (s.rf (Reg.PRP_SEQ q) 0 16) 11 →
      ∃ t, exec (.macTransmit ⟨2 * q.val, by omega⟩ ph) s = .next t ∧
        t.out = .frame (2 * q) (a ++ fcs a) :: s.out ∧ t.txOf (2 * q) = (s.txOf (2 * q)).erase x ∧
        t.txOf (2 * q + 1) = s.txOf (2 * q + 1) ++ [⟨0, b, true, false⟩] ∧
        t.reg (Reg.PRP_CNT q 0) = satWord (s.reg (Reg.PRP_CNT q 0)) 1 ∧
        t.rf (Reg.PRP_SEQ q) 0 16 = (s.rf (Reg.PRP_SEQ q) 0 16 + 1) % 2 ^ 16) ∧
    (∀ (p : Fin 4) (desc buf : List Byte) (d : TxDesc), s.domOn (portDomain p) = true → s.txOf p = [] → s.segJob p = none →
      s.ringReady (2 + p) = true → desc = s.headDesc (2 + p) → d = txDesc desc → buf = s.hostRead (bufAddr desc) d.len →
      (bufBeyond desc = true ∨ s.txRefusal p d buf ≠ 0 →
        ∃ t, exec (.macTransmit p ph) s = .next t ∧ t.ringHead (2 + p) = s.ringNext (2 + p) ∧
          t.pair (Reg.MAC_STAT_LO p txErr) = (s.pair (Reg.MAC_STAT_LO p txErr) + 1) % 2 ^ 64 ∧ t.rb (Reg.MAC_STATUS p) 10 = true) ∧
      (bufBeyond desc = false → s.txRefusal p d buf = 0 → d.seg = false → d.csum = false → s.prpDoubles p buf d.noPrp = false →
        s.txReady p = true → s.rb (Reg.TBP_CFG p) 8 = false →
        ∃ t, exec (.macTransmit p ph) s = .next t ∧ t.ringHead (2 + p) = s.ringNext (2 + p) ∧
          (.frame p (padFrame buf ++ fcs (padFrame buf)) :: s.out) <:+ t.out ∧
          t.pair (Reg.MAC_STAT_LO p txFrames) = (s.pair (Reg.MAC_STAT_LO p txFrames) + 1) % 2 ^ 64)) ∧
    (∀ (q lan : Fin 2) (other : Nat), s.domOn (portDomain (2 * q)) = true → s.rb (Reg.PRP_CTRL q) 0 = true →
      (if lan = 0 then (s.prpOf q).lastB else (s.prpOf q).lastA) = some other →
      s.now < other + s.rf (Reg.PRP_FAULT_TIME q) 0 16 * fsPerMs →
      ((if lan = 0 then (s.prpOf q).lastA else (s.prpOf q).lastB).getD (s.prpOf q).since) +
        s.rf (Reg.PRP_FAULT_TIME q) 0 16 * fsPerMs ≤ s.now → s.rb (Reg.PRP_STATUS q) lan = false →
      ∃ t, exec (.prpLanFault q lan) s = .next t ∧ t.rb (Reg.PRP_STATUS q) lan = true ∧ t.rb (Reg.PRP_STATUS q) 8 = true ∧
        t.event 21 = true ∧ RegsKept s t [Reg.PRP_STATUS q] ∧ OnlyRegsAndEvents s t)

/-- A field segment sends: a descriptor of ring 10 joins its segment's queue, DEFER ends in SEND once the gap has passed, and the end of the
frame counts it and turns to the next frame of the queue (R145, R147). At a collision it jams: a late one drops the frame; once any other's
jam is sent, the last attempt drops the frame and an earlier one starts the back-off that the shift register draws; the back-off's end is
DEFER. The seed reloads every segment. A frame with a good FCS that the filter passes counts as received (R144-R146, R148). The model's
reading or choice, by assumption: a jam that ends in a step on an empty queue (1), how late a collision is and a jam in progress (68), LEN
of a frame (67), the carrier (167). -/
def Obligations.FieldSegments : Prop :=
  (∀ s : State, s.domOn pdField = true →
     (∀ (d : TxDesc) (desc : List Byte), s.ringServed 10 = true → s.ringState 10 = 1 → s.t1sTaken.length < s.ringHolds 10 →
       s.descAt 10 s.t1sTaken.length = desc → txDesc desc = d → d.csum = false → d.seg = false → d.ts = false → d.len ≠ 0 → d.len ≤ 1518 → bufBeyond desc = false →
       (s.segm d.segment).queue.length < 4 →
       ∃ t, exec .t1sDescriptorTake s = .next t ∧ t.t1sTaken = s.t1sTaken ++ [⟨s.t1sNum, none⟩] ∧ t.t1sNum = s.t1sNum + 1 ∧
         (t.segm d.segment).queue = (s.segm d.segment).queue ++ [⟨s.t1sNum, s.hostRead (bufAddr desc) d.len⟩] ∧
         ((s.segm d.segment).st = .idle → (t.segm d.segment).st = .defer) ∧ (∀ g, g ≠ d.segment → t.segm g = s.segm g)) ∧
     (∀ g : Fin 4, (s.segm g).gapPast s.now = false → exec (.t1sDeferEnd g) s = .next s) ∧
     (∀ g : Fin 4, s.rb (Reg.T1Ss_CTRL g) 0 = true → (s.segm g).st = .defer → (s.segm g).gapPast s.now = true →
       ∃ t, exec (.t1sDeferEnd g) s = .next t ∧ t.segm g = { s.segm g with st := .send } ∧ t.rb (Reg.T1Ss_STATUS g) 0 = true ∧
         t.rb (Reg.T1Ss_STATUS g) 1 = true ∧ AllRegsKept s t [Reg.T1Ss_STATUS g] ∧ (∀ h, h ≠ g.val → t.segm h = s.segm h)) ∧
     (∀ (g : Fin 4) (j : T1sJob) (rest : List T1sJob), (s.segm g).st = .send → (s.segm g).queue = j :: rest →
       ∃ t, exec (.t1sSendComplete g) s = .next t ∧ (t.segm g).queue = rest ∧
         (t.segm g).st = (if rest = [] then SegState.idle else SegState.defer) ∧
         (.t1s g.val (padFrame j.octets ++ fcs (padFrame j.octets)) :: s.out) <:+ t.out ∧
         t.reg (Reg.T1Ss_CNT g 0) = satWord (s.reg (Reg.T1Ss_CNT g 0)) 1)) ∧
  (∀ s : State,
     (∀ (g : Fin 4) (bits : Nat) (j : T1sJob) (rest : List T1sJob), s.domOn pdField = true → (s.segm g).st = .send →
       (s.segm g).queue = j :: rest →
       (512 < bits → ∃ t, exec (.t1sCollision g bits) s = .next t ∧ (.jam g.val t1sJamPattern :: s.out) <:+ t.out ∧
         (t.segm g).queue = rest ∧
         t.reg (Reg.T1Ss_CNT g 3) = satWord (s.reg (Reg.T1Ss_CNT g 3)) 1 ∧ t.rb (Reg.T1Ss_STATUS g) 9 = true) ∧
       (bits ≤ 512 → ∃ t, exec (.t1sCollision g bits) s = .next t ∧ t.out = .jam g.val t1sJamPattern :: s.out ∧
         t.segm g = { s.segm g with st := .jam, n := (s.segm g).n + 1, until_ := s.now + t1sJamFs } ∧
         t.reg (Reg.T1Ss_CNT g 1) = satWord (s.reg (Reg.T1Ss_CNT g 1)) 1 ∧
         AllRegsKept s t [Reg.T1Ss_CNT g 1, Reg.T1Ss_STATUS g])) ∧
     (∀ (g : Fin 4) (x : Segment) (j : T1sJob) (rest : List T1sJob) (u : State), s.pending = [] → u = s.clockPeriod → x = s.segm g →
       x.st = .jam → x.queue = j :: rest → x.until_ ≤ u.now → (∀ h : Fin 4, h ≠ g → (s.segm h).st ≠ .jam) →
       (u.rf (Reg.T1Ss_CTRL g) 8 5 ≤ x.n → ∃ t, step s = .next t ∧ (t.segm g).queue = rest ∧ t.event 20 = true ∧
         t.reg (Reg.T1Ss_CNT g 2) = satWord (u.reg (Reg.T1Ss_CNT g 2)) 1) ∧
       (x.n < u.rf (Reg.T1Ss_CTRL g) 8 5 → ∃ t, step s = .next t ∧ t.segm g = { x with
         st := .backoff, lfsr := (u.t1sDraw g x.n).2, seedPend := false, quiet := some x.until_
         until_ := x.until_ + (u.t1sDraw g x.n).1 * t1sSlotFs })) ∧
     (∀ g : Fin 4, s.domOn pdField = true → (s.segm g).st = .backoff → (s.segm g).until_ ≤ s.now →
       ∃ t, exec (.t1sBackoffExpiry g) s = .next t ∧ t.segm g = { s.segm g with st := .defer } ∧
         AllRegsKept s t [Reg.T1Ss_STATUS g]) ∧
     (∀ g : Fin 4, s.now < (s.segm g).until_ → exec (.t1sBackoffExpiry g) s = .next s) ∧
     (∀ v : Word, s.Accepts Reg.T1S_SEED v → ∃ t, exec (.t1sSeedWrite v) s = .next t ∧ t.reg Reg.T1S_SEED = v ∧
       (∀ g : Fin 4, t.segm g = { s.segm g with seedPend := true }) ∧ AllRegsKept s t [Reg.T1S_SEED]) ∧
     (∀ (g : Fin 4) (f sum : List Byte), sum.length = 4 → s.domOn pdField = true → s.rb (Reg.T1Ss_CTRL g) 0 = true →
       s.rb (Reg.T1Ss_CTRL g) 1 = true → 60 ≤ f.length → f.length ≤ 1518 →
       (sum ≠ fcs f → ∀ full, ∃ t, exec (.t1sReceive g (f ++ sum) full) s = .next t ∧
         t.reg (Reg.T1Ss_CNT g 5) = satWord (s.reg (Reg.T1Ss_CNT g 5)) 1 ∧ AllRegsKept s t [Reg.T1Ss_CNT g 5] ∧
         t = { s with regs := t.regs, segments := t.segments }) ∧
       (sum = fcs f → s.t1sAccepts g (f.take 6) = true →
         (∃ t, exec (.t1sReceive g (f ++ sum) false) s = .next t ∧ t.reg (Reg.T1Ss_CNT g 4) = satWord (s.reg (Reg.T1Ss_CNT g 4)) 1 ∧
           RegsKept s t [Reg.T1Ss_CNT g 4]) ∧
         (∃ t, exec (.t1sReceive g (f ++ sum) true) s = .next t ∧ t.reg (Reg.T1Ss_CNT g 6) = satWord (s.reg (Reg.T1Ss_CNT g 6)) 1 ∧
           t.rb (Reg.T1Ss_STATUS g) 10 = true ∧ t.event 19 = true))))


/-! ### Stream intake (R161-R180) -/

/-- SEAT_ADD binds a free seat whose descriptor is valid to the lowest free index of its form; SEAT_REMOVE unbinds it once no frame of it
waits, and its index enters quarantine; a command on the wrong state gives STATE and changes no seat (R174, R184). A seat that seats nothing
for SILENT_MS is SILENT, with event 29 (R178). The model's reading or choice, by assumption: checks of a descriptor (77), SRC_PORT of kind 1
(187), a REMOVE that waits (89, 188). -/
def Obligations.SeatCommands : Prop :=
  ∀ s : State,
    (∀ (v : Word) (code : Nat), s.Accepts Reg.ITK_SEAT_CMD v → bit v 0 = true →
      code = (if bit v 3 then localCode (fld v 16 14) else fld v 16 14) →
      (fld v 1 2 = 1 →
        (s.seat code ≠ none → ∃ t, exec (.seatAdd v) s = .next t ∧ s.Reported t Reg.ITK_SEAT_STATUS 3 ∧
          t.rb Reg.ITK_SEAT_CMD 0 = false ∧ AllRegsKept s t [Reg.ITK_SEAT_CMD, Reg.ITK_SEAT_STATUS] ∧ OnlyRegs s t) ∧
        (∀ m, s.seat code = none → s.descOk code = true →
          (code < 0x4000 → ∀ n ∈ s.remoteSeats, s.descKey n ≠ s.descKey code) →
          s.freeMember (s.seatForm code) (s.seatRecLen code) = some m →
          ∃ t, exec (.seatAdd v) s = .next t ∧ s.Reported t Reg.ITK_SEAT_STATUS 0 ∧ t.rb Reg.ITK_SEAT_CMD 0 = false ∧
            t.seat code = some { form := s.seatForm code, member := m, heard := s.now } ∧
            t.memberOf (s.seatForm code) m = some code ∧ bit (t.seatW code 0) 0 = true ∧ t.seatW code 0x80 = 0 ∧
            t.rf (Reg.FORM_STATUS (s.seatForm code)) 12 15 = (s.rf (Reg.FORM_STATUS (s.seatForm code)) 12 15 + 1) % 2 ^ 15 ∧
            (code < 0x4000 → t.rf Reg.ITK_SEATS 0 15 = (s.rf Reg.ITK_SEATS 0 15 + 1) % 2 ^ 15))) ∧
      (fld v 1 2 = 2 →
        (s.seat code = none → ∃ t, exec (.seatRemove v) s = .next t ∧ s.Reported t Reg.ITK_SEAT_STATUS 3 ∧
          AllRegsKept s t [Reg.ITK_SEAT_CMD, Reg.ITK_SEAT_STATUS] ∧ OnlyRegs s t) ∧
        (∀ x, s.seat code = some x → x.move = none → (∀ g ∈ s.seated, g.code ≠ code) →
          ∃ t, exec (.seatRemove v) s = .next t ∧ s.Reported t Reg.ITK_SEAT_STATUS 0 ∧ t.rb Reg.ITK_SEAT_CMD 0 = false ∧
            t.seat code = none ∧ t.memberOf x.form x.member = none ∧
            (x.member, (s.form x.form).releases) ∈ (t.form x.form).quarantine ∧ bit (t.seatW code 0) 0 = false))) ∧
    (∀ (code : Nat) (x : Seat), s.seat code = some x → s.domOn pdRcl = true → fld (s.seatW code 0x40) 0 16 ≠ 0 →
      bit (s.seatW code 0x80) 0 = false → x.heard + fld (s.seatW code 0x40) 0 16 * fsPerMs ≤ s.now →
      ∃ t, exec (.streamSilent code) s = .next t ∧ t.seatW code 0x80 = 1 ∧
        t.rf Reg.ITK_SEATS 16 15 = (s.rf Reg.ITK_SEATS 16 15 + 1) % 2 ^ 15 ∧ t.rb Reg.ITK_STATUS 3 = true ∧ t.event 29 = true ∧
        t.seats = s.seats ∧ RegsKept s t [Reg.ITK_SEATS, Reg.ITK_STATUS])

/-- INTAKE_FRAME takes the oldest frame of a port's receive buffer. With the intake off it goes to its receive ring; one that is not IP
likewise and counts as not taken, a fragment as a fragment: the ring takes the frame whole, or it is lost and counted where the ring holds
no descriptor. A C37.118.2 data frame of one block whose checks pass and whose seat is known is seated with the time and record that its
block gives (R161-R167). The model's reading or choice, by assumption: payloads that are not taken (74, 75), SOC as TAI (79), filing later
(89). -/
def Obligations.FramesFromTheReceiveBuffer : Prop :=
  ∀ (s : State) (p : Fin 4) (f : RxFrame) (fs : List RxFrame) (u : State), s.rxOf p = f :: fs → 6 ≤ f.ring → f.ring ≤ 9 →
    u = s.setRx p fs →
    (s.rb Reg.ITK_CTRL 0 = false → ∃ t, exec (.intakeFrame p) s = .next t ∧ t.rxOf p = fs ∧ u.GivenToRing t f ∧ t.seated = s.seated ∧
      RegsKept s t []) ∧
    (s.domOn pdRcl = true → s.rb Reg.ITK_CTRL 0 = true →
      ((etherType f.octets).1 ≠ 0x0800 → (etherType f.octets).1 ≠ 0x86DD → ∃ t, exec (.intakeFrame p) s = .next t ∧ t.rxOf p = fs ∧
        t.reg (Reg.ITK_CNT 10) = satWord (s.reg (Reg.ITK_CNT 10)) 1 ∧ (u.bump (Reg.ITK_CNT 10)).GivenToRing t f ∧ t.seated = s.seated ∧ RegsKept s t [Reg.ITK_CNT 10]) ∧
      (∀ v, (etherType f.octets).1 = 0x0800 ∨ (etherType f.octets).1 = 0x86DD →
        ipView f.octets (etherType f.octets).2 (decide ((etherType f.octets).1 = 0x86DD)) = some v →
        (v.frag = true → ∃ t, exec (.intakeFrame p) s = .next t ∧ t.rxOf p = fs ∧
          t.reg (Reg.ITK_CNT 8) = satWord (s.reg (Reg.ITK_CNT 8)) 1 ∧ (u.bump (Reg.ITK_CNT 8)).GivenToRing t f ∧ t.seated = s.seated ∧ RegsKept s t [Reg.ITK_CNT 8]) ∧
        (∀ (b g : List Byte) (n : Nat) (y : Seat) (x : Source), v.frag = false → v.proto = 17 → 8 ≤ be f.octets (v.l4 + 4) 2 →
          be f.octets (v.l4 + 4) 2 ≤ v.len → s.rb Reg.ITK_CTRL 1 = true → be f.octets (v.l4 + 2) 2 = s.rf Reg.ITK_PORTS 0 16 →
          udpSumOk f.octets v (etherType f.octets).2 (be f.octets (v.l4 + 4) 2) = true →
          b = slice f.octets (v.l4 + 8) (be f.octets (v.l4 + 4) 2 - 8) → 2 ≤ b.length → octet b 0 = 0xAA →
          s.syncTaken (octet b 1) = (0, true) → sized b = some g → chkOk g = true →
          x = { sourceOf f v.src (be f.octets v.l4 2) 0 with
            key := { (sourceOf f v.src (be f.octets v.l4 2) 0).key with stream := be g 4 2 } } →
          s.layout x g (g.length - 2) 1025 0 14 [] 0 = ([(n, 14)], 0) → s.seat n = some y →
          ∃ t, exec (.intakeFrame p) s = .next t ∧ t.rxOf p = fs ∧
            t.seated = s.seated ++ [{
              code := n, sec := s.taiOf (s.seatTb n) (be g 6 4) (decide (octet g 10 / 32 % 2 = 1))
              ns := (be g 11 3 * 1000000000 + fld (s.seatW n 0x38) 0 24 / 2) / fld (s.seatW n 0x38) 0 24
              record := s.blockRecord n (slice g 14 (s.blockLen n)) false f.port f.stamp
              seatedAt := s.tbNow (s.formPar y.form).tb }] ∧
            t.seat n = some { y with heard := s.now } ∧
            t.reg (Reg.ITK_CNT 0) = satWord (s.reg (Reg.ITK_CNT 0)) 1 ∧ t.reg (Reg.ITK_CNT 1) = satWord (s.reg (Reg.ITK_CNT 1)) 1)))

/-! ### Roll call (R181-R208) -/

/-- FRAME_FILE grants the oldest seated frame: with the roll call off, or outside the tolerance of its form, it is counted and lost; on
time, its record goes to its slot of the open roll's image, where its member's presence bit is set. EN written 1 makes every running form
wait for a bell after now (R183-R185, R188). The model's reading or choice, by assumption: GAP before a filing (83), which parameters a
second has (84, 189), what stands in an image (81). -/
def Obligations.RollCallFiling : Prop :=
  ∀ s : State,
    (∀ (g : Seated) (gs : List Seated), s.domOn pdRcl = true → s.seated = g :: gs →
      (s.rb Reg.RCL_CTRL 0 = false → ∃ t, exec .frameFile s = .next t ∧ t.seated = gs ∧
        t.reg (Reg.RCL_CNT 7) = satWord (s.reg (Reg.RCL_CNT 7)) 1) ∧
      (∀ (x : Seat) (p : FormPar), s.rb Reg.RCL_CTRL 0 = true → s.seat g.code = some x → x.old = none → x.move = none →
        s.formState x.form ≠ 0 → s.gapDue x.form = false → (s.form x.form).staged = none → (s.form x.form).parMap g.sec = p →
        (p.tol * 1000 < (deviationOf p.r g.ns).natAbs → ∃ t, exec .frameFile s = .next t ∧ t.seated = gs ∧
          t.reg (Reg.RCL_CNT 5) = satWord (s.reg (Reg.RCL_CNT 5)) 1 ∧ (t.form x.form).rolls = (s.form x.form).rolls) ∧
        (∀ (i : Instant) (q : FormPar) (o : OpenRoll), (deviationOf p.r g.ns).natAbs ≤ p.tol * 1000 → i = instantOf p.r g.sec g.ns →
          (s.form x.form).parMap i.sec = q → i.time q.r ≤ s.tbNow q.tb + p.tol * 1000 * stampNsUnit →
          (∀ l, (s.form x.form).last = some l → i.le l = false) → i.lt (s.form x.form).first = false →
          (∀ l, (s.form x.form).resume = some l → i.lt l = false) →
          (s.form x.form).rolls.find? (fun o => decide (o.at_ = i)) = some o → x.member ∉ o.present →
          ∃ t, exec .frameFile s = .next t ∧ t.seated = gs ∧
            (∃ o' ∈ (t.form x.form).rolls, o'.at_ = i ∧ x.member ∈ o'.present) ∧
            t.reg (Reg.RCL_CNT 0) = satWord (s.reg (Reg.RCL_CNT 0)) 1 ∧
            (∀ u : State, u = s.hbmWrite (q.imageAt i + q.slotsBase + x.member * 64 * q.slot)
                ((patch g.record 0x10 (leBytes 4 (wrap 32 (deviationOf p.r g.ns)))).take (64 * q.slot)) →
              t.hbm = (u.hbmWrite (q.imageAt i + 0x40 + x.member / 8)
                [byte (octet (u.hbmRead (q.imageAt i + 0x40 + x.member / 8) 1) 0 ||| 2 ^ (x.member % 8))]).hbm)))) ∧
    (∀ v : Word, s.Accepts Reg.RCL_CTRL v → bit v 0 = true → s.rb Reg.RCL_CTRL 0 = false →
      ∃ t, exec (.rclEnable v) s = .next t ∧ t.rb Reg.RCL_CTRL 0 = true ∧ AllRegsKept s t [Reg.RCL_CTRL] ∧
        ∀ f : Fin 256, s.formState f ≠ 0 →
          (t.form f).heldAt = some (s.tbNow ((s.form f).parMap (s.form f).next.sec).tb))

/-- START, STOP, RETIME and MOVE: the first failing check is the result and nothing else changes; START makes a form RUNNING from the first
instant not before now; STOP releases what is open and makes it STOPPED; RETIME stages the registers' values, and MOVE the move, for the
second after next (R199, R200). The model's reading or choice, by assumption: the order of STOP (82), GAP before it (83), when RETIME and
MOVE take effect (84, 190). -/
def Obligations.FormCommands : Prop :=
  ∀ (s : State) (v : Word) (f : Fin 256), s.Accepts Reg.RCL_CMD v → bit v 0 = true → fld v 8 8 = f →
    (fld v 1 3 = 1 →
      (s.startCheck f ≠ 0 → ∃ t, exec (.formStart v) s = .next t ∧ s.Reported t Reg.RCL_CMD_STATUS (s.startCheck f) ∧
        t.rb Reg.RCL_CMD 0 = false ∧ AllRegsKept s t [Reg.RCL_CMD, Reg.RCL_CMD_STATUS, Reg.RCL_CMD_SEC] ∧ OnlyRegs s t) ∧
      (s.startCheck f = 0 → ∃ t, exec (.formStart v) s = .next t ∧ s.Reported t Reg.RCL_CMD_STATUS 0 ∧ t.rb Reg.RCL_CMD 0 = false ∧
        t.formState f = 1 ∧ (t.form f).pars = [(0, s.regPar f)] ∧ (t.form f).rolls = [] ∧ (t.form f).last = none ∧
        (t.form f).next = firstInstant (s.regPar f).r (s.tbNow (s.regPar f).tb) false)) ∧
    (fld v 1 3 = 2 →
      (s.formState f = 0 → ∃ t, exec (.formStop v) s = .next t ∧ s.Reported t Reg.RCL_CMD_STATUS 1 ∧ t.rb Reg.RCL_CMD 0 = false ∧
        AllRegsKept s t [Reg.RCL_CMD, Reg.RCL_CMD_STATUS, Reg.RCL_CMD_SEC] ∧ OnlyRegs s t) ∧
      (s.formState f ≠ 0 → ∃ t, exec (.formStop v) s = .next t ∧ t.formState f = 0 ∧ t.rf Reg.RCL_CMD_STATUS 16 8 = 0 ∧
        t.rb Reg.RCL_CMD_STATUS 31 = true ∧ t.rb Reg.RCL_CMD 0 = false ∧ (t.form f).staged = none ∧ (t.form f).rolls = [])) ∧
    (fld v 1 3 = 3 →
      (s.formState f ≠ 1 → ∃ t, exec (.formRetime v) s = .next t ∧ s.Reported t Reg.RCL_CMD_STATUS 1 ∧ t.rb Reg.RCL_CMD 0 = false ∧
        AllRegsKept s t [Reg.RCL_CMD, Reg.RCL_CMD_STATUS, Reg.RCL_CMD_SEC] ∧ OnlyRegs s t) ∧
      (∀ (p o : FormPar) (same : Prop), p = s.regPar f → o = s.formPar f →
        (same ↔ p.tb = o.tb ∧ p.depth = o.depth ∧ p.ldepth = o.ldepth ∧ p.slot = o.slot ∧ p.capu = o.capu ∧ p.store = o.store) →
        s.formState f = 1 →
        (p.rangeOk = false ∨ ¬ same → ∃ t, exec (.formRetime v) s = .next t ∧ s.Reported t Reg.RCL_CMD_STATUS 3 ∧
          t.rb Reg.RCL_CMD 0 = false ∧ AllRegsKept s t [Reg.RCL_CMD, Reg.RCL_CMD_STATUS, Reg.RCL_CMD_SEC] ∧ OnlyRegs s t) ∧
        (p.rangeOk = true → same → p.limitOk = false → ∃ t, exec (.formRetime v) s = .next t ∧ s.Reported t Reg.RCL_CMD_STATUS 2 ∧
          t.rb Reg.RCL_CMD 0 = false ∧ AllRegsKept s t [Reg.RCL_CMD, Reg.RCL_CMD_STATUS, Reg.RCL_CMD_SEC] ∧ OnlyRegs s t) ∧
        (p.rangeOk = true → same → p.limitOk = true → ∃ t, exec (.formRetime v) s = .next t ∧ s.Reported t Reg.RCL_CMD_STATUS 0 ∧
          t.rb Reg.RCL_CMD 0 = false ∧ t.formState f = 2 ∧ (t.form f).staged = some (ceilSec (s.tbNow p.tb) + 1, p) ∧
          t.reg Reg.RCL_CMD_SEC = word (ceilSec (s.tbNow p.tb) + 1)))) ∧
    (∀ code, fld v 1 3 = 4 → code = (if bit v 4 then localCode (fld v 16 14) else fld v 16 14) →
      (∀ res : Nat, (res = 6 ∧ (s.seat code = none ∨ s.freeMember f (s.seatRecLen code) = none)) ∨
          (∃ x m, s.seat code = some x ∧ s.freeMember f (s.seatRecLen code) = some m ∧
            (res = 1 ∧ x.move ≠ none ∨ res = 5 ∧ x.move = none ∧ s.tbState (s.formPar f).tb = 0)) →
        ∃ t, exec (.seatMove v) s = .next t ∧ s.Reported t Reg.RCL_CMD_STATUS res ∧ t.rb Reg.RCL_CMD 0 = false ∧
          AllRegsKept s t [Reg.RCL_CMD, Reg.RCL_CMD_STATUS, Reg.RCL_CMD_SEC] ∧ OnlyRegs s t) ∧
      (∀ x m, s.seat code = some x → x.move = none → s.freeMember f (s.seatRecLen code) = some m → s.tbState (s.formPar f).tb ≠ 0 →
        ∃ t, exec (.seatMove v) s = .next t ∧ s.Reported t Reg.RCL_CMD_STATUS 0 ∧ t.memberOf f m = some code ∧
          t.seat code = some { x with move := some (f, m, ceilSec (s.tbNow (s.formPar f).tb) + 1) } ∧
          t.reg Reg.RCL_CMD_SEC = word (ceilSec (s.tbNow (s.formPar f).tb) + 1)))

/-- ROLL_RELEASE where one roll of the only form is due, no timer is armed and no frame waits: it is the form's last roll, the next
instant's is the next one, and it is open no more. A roll whose tardy window has ended gives its final entry to the answer check, and
nothing happens while none has (R188-R190, R354, R425, R427). The model's reading or choice, by assumption: the order of a bell (161),
RELEASED_LATE (85). -/
def Obligations.RollsAreReleased : Prop :=
  ∀ s : State,
    (∀ (f : Fin 256) (d r : Stamp) (x : Form) (p : FormPar) (c : Closed × State) (u : State), x = s.form f →
      p = x.parMap x.next.sec → x.staged = none → p.tb < 4 → s.seated = [] → s.sched.timers = [] → s.rb Reg.ITK_SEAT_CMD 0 = false →
      (∀ g : Fin 256, s.formState g ≠ 0 ↔ g = f) → s.gapDue f = false → s.formDue p.tb f = some d →
      r = max d (x.heldAt.getD 0) → r ≤ s.bellAfter p.tb r →
      c = s.closeRoll f x.next false (s.lateAt p.tb d x.heldAt) → u = c.2.deliverBell [c.1] →
      (∀ n : Fin 4, c.2.formDue n f = none ∧ u.formDue n f = none) → u.gapDue f = false →
      exec .rollRelease s = .next u ∧ (u.form f).last = some x.next ∧ (u.form f).next = x.next.next p.r ∧
        (u.form f).releases = x.releases + 1 ∧ ∀ o ∈ (u.form f).rolls, o.at_ ≠ x.next) ∧
    (∀ w : Window, s.domOn pdSch = true → s.answers.windows.find? (fun w => decide (w.until_ ≤ s.tbNow w.tb)) = some w →
      (s.rb Reg.RED_CTRL 1 = true → ∃ t, exec .tardyWindowEnd s = .next t ∧ t.answers.windows = s.answers.windows.erase w ∧
        t.answers.batch = s.answers.batch ++ [w.fin]) ∧
      (s.rb Reg.RED_CTRL 1 = false → ∃ t, exec .tardyWindowEnd s = .next t ∧ t.answers.windows = s.answers.windows.erase w ∧
        t.answers.batch = s.answers.batch ∧ t.regs = s.regs)) ∧
    (s.answers.windows.find? (fun w => decide (w.until_ ≤ s.tbNow w.tb)) = none → exec .tardyWindowEnd s = .next s)

/-! ### Fabric and lessons (R209-R265) -/

/-- LESSON_BEGIN: the roll of the pending place is computed with the commit in use, or with the accepted one that its instant reaches, by
cover where a classroom of the lesson is in cover; the result groups show that the next result is under way. RESULT_RECORD: the desks of the
lesson's roll move on and count the corrected chalkboard errors they meet; the record that a contributor then offers enters the bank of its
lesson or a new bank; while the four banks hold other lessons, or another record waits on its lane, the lane takes no word and the request
waits there (R209, R215, R219, R220, R228, R232, R236). The model's reading or choice, by assumption: the dataflow (91), what cover computes
(93), the first commit (95), the errors met (159), lanes and banks (170). -/
def Obligations.LessonsBeginAndRecordsArrive : Prop :=
  ∀ s : State,
    (∀ (i : Fin 64) (r : Roll) (x : Lesson), x = s.lesson i → s.canBegin i = true → x.pending = some r →
      (∀ (c : Commit) (run : CoverRun), x.next = none → x.use = some c →
        run = (if (s.lsnSpan i).any s.inCover then s.coverCompute i r else {}) →
        ∃ t, exec (.lessonBegin i) s = .next t ∧ (t.lesson i).pending = none ∧
          (t.lesson i).begun = some { roll := r, result := s.lessonRun i r c x, cover := (s.lsnSpan i).any s.inCover
                                      reset := x.fresh, bank := c.bank, at_ := s.resultAt i r, run := run } ∧
          t.rb (Reg.LSN_OUT_STATUS i) 31 = false ∧ t.rb (Reg.FAB_RES_STATUS (s.lsnHome i)) 31 = false ∧
          (run.ue = [] → AllRegsKept s t [Reg.LSN_OUT_STATUS i, Reg.FAB_RES_STATUS (s.lsnHome i)])) ∧
      (∀ c a, x.next = some (c, a) → a.reached (r.at_.seq32 (rateOf r.rate)) = true →
        ∃ t, exec (.lessonBegin i) s = .next t ∧ (t.lesson i).use = some c ∧ (t.lesson i).next = none ∧ (t.lesson i).pending = none ∧
          (∃ b, (t.lesson i).begun = some b ∧ b.roll = r ∧ b.bank = c.bank ∧ (x.use = none → b.reset = true)) ∧
          t.rb (Reg.LSN_ACTIVE i) 0 = c.bank ∧ t.rb (Reg.LSN_ACTIVE i) 1 = false)) ∧
    (∀ (c : Fin 32) (d : Fin 128) (tag : Fin 8) (stuck : List Nat) (ce : Nat),
      (s.computing c tag = none ∨ s.domOn (classDomain c) = false → exec (.resultRecord c d tag stuck ce) s = .next s) ∧
      (∀ (i : Nat) (x : Classroom) (mine : Bool) (u : State), s.computing c tag = some i → s.domOn (classDomain c) = true →
        x = s.classroom c → mine = ((s.lessonPlan c tag).contrib.testBit d && !cardHas x d tag) →
        u = (s.bumpBy (Reg.FAB_CB_CE c) ce).runOn i c stuck (if mine && laneOpen x d tag then some d.val else none) →
        u.reg (Reg.FAB_CB_CE c) = satWord (s.reg (Reg.FAB_CB_CE c)) ce ∧
        RegsKept s u (Reg.FAB_CB_CE c :: (s.lsnSpan i).flatMap fun k => [Reg.FAB_CB_UE k, Reg.FAB_FAULT_INFO k, Reg.FAB_STATUS k]) ∧
        ((∀ b ∈ x.banks, b.lesson ≠ tag) → 4 ≤ x.banks.length → laneOpen x d tag = false) ∧
        (mine = false → exec (.resultRecord c d tag stuck ce) s = .next u) ∧
        (mine = true → laneOpen x d tag = true → u.offered c d tag = none → exec (.resultRecord c d tag stuck ce) s = .next u) ∧
        (∀ r : Record, mine = true → laneOpen x d tag = true → u.offered c d tag = some r →
          ∃ t, exec (.resultRecord c d tag stuck ce) s = .next t ∧ t.recordOf c tag d = some r ∧
            (∀ e, e ≠ d.val → t.recordOf c tag e = u.recordOf c tag e) ∧ (∀ k, k ≠ c.val → t.classroom k = u.classroom k) ∧
            AllRegsKept u t [Reg.FAB_STATUS c]) ∧
        (mine = true → laneOpen x d tag = false →
          ∃ t, exec (.resultRecord c d tag stuck ce) s = .next t ∧ t.regs = u.regs ∧ (t.classroom c).banks = (u.classroom c).banks ∧
            (t.classroom c).stalled = (u.classroom c).stalled ++
              (if u.laneWaits c d tag = true ∧ ∀ e ∈ (u.classroom c).stalled, e.1 ≠ d.val then [(d.val, tag.val)] else []))))

/-- REPORT_CARD_PUBLISH: with every contributor's record held, or by cover, the roll begun is published: the instance keeps the state the
roll gave, its output group shows the roll's SEQ32 and second value, READY, and the result group of its home classroom the roll's SEQ32 and
the count of the set's records. A roll that cover still holds for a classroom handed back with a fresh lesson state is published first, and
the roll begun meanwhile stays. With a record missing, or in a cover that has no desks, nothing happens (R73, R221-R223, R238, R357, R358).
The model's reading or choice, by assumption: what a set leaves to the desks (176), what cover publishes (93), an UNLOAD that waits (169).
-/
def Obligations.ReportCardPublication : Prop :=
  ∀ (s : State) (i : Fin 64) (b : Begun) (rs : List (Nat × Record)), (s.lesson i).begun = some b → s.domOn pdSch = true →
    (s.lesson i).held = none → rs = (if b.cover then b.run.records else s.cardAll i) →
    ((b.cover = false ∧ s.cardFull i = true ∧ (∀ c ∈ s.lsnSpan i, s.domOn (classDomain c) = true)) ∨
        (b.cover = true ∧ ∀ c ∈ s.lsnSpan i, s.starved c = false) →
      ∃ t, exec (.reportCardPublish i) s = .next t ∧ (t.lesson i).begun = none ∧
        (t.lesson i).skips = [] ∧ t.reg (Reg.FAB_RES_COUNT (s.lsnHome i)) = word rs.length ∧
        t.reg (Reg.FAB_RES_SEQ32 (s.lsnHome i)) = word (b.roll.at_.seq32 (rateOf b.roll.rate)) ∧
        ((s.lesson i).skips = [] → (t.lesson i).state = b.result.state ∧ t.rb (Reg.LSN_OUT_STATUS i) 31 = true ∧
          t.reg (Reg.LSN_OUT_SEQ32 i) = word (b.roll.at_.seq32 (rateOf b.roll.rate)) ∧ t.reg (Reg.LSN_OUT_VAL1 i) = b.result.val1)) ∧
    (b.cover = true → (∃ c ∈ s.lsnSpan i, s.starved c = true) → (∀ c ∈ s.lsnSpan i, s.loader.unloading ≠ some c) →
      exec (.reportCardPublish i) s = .next s) ∧
    (b.cover = false → s.cardFull i = false → exec (.reportCardPublish i) s = .next s) ∧
    (∀ (u : State) (h : Begun), u = s.setLesson i { s.lesson i with held := some h } → (∀ c ∈ s.lsnSpan i, s.starved c = false) →
      s.loader.unloading = none →
      ∃ t, exec (.reportCardPublish i) u = .next t ∧ (t.lesson i).held = none ∧ (t.lesson i).begun = some b ∧
        t.reg (Reg.FAB_RES_COUNT (s.lsnHome i)) = word h.run.records.length)

/-- A desk that holds an operation's operands for the watchdog's time without a result (cause 2), or meets a parity error (1), and a spare
that fails its check (3), is retired with its RETIRED bit, FAULT_INFO and event 3; in SERVICE an active one takes its classroom to COVERED.
A desk that is not late stays. An uncorrectable chalkboard error counts and marks its 64-bit word. A self-check retires what fails and makes
unchecked desks spares. The replica's time is published (R213, R225-R228, R77). The model's reading or choice, by assumption: the desks that
fail as operands (92), when a desk hangs (174), what a chalkboard error does to the roll in progress (175). -/
def Obligations.DeskFaultsAndChecks : Prop :=
  ∀ (s : State) (c : Fin 32),
    (∀ (p : Fin 136) (stuck : List Nat), s.domOn (classDomain c) = true → s.desk c p = 1 → s.rb (Reg.FAB_CTRL c) 12 = true →
      s.deskHung c p stuck = true → ∃ t, exec (.deskWatchdogExpiry c ⟨p, stuck⟩) s = .next t ∧ s.DeskRetired t c p 2) ∧
    (∀ (p : Fin 136) (stuck : List Nat), s.deskHung c p stuck = false → exec (.deskWatchdogExpiry c ⟨p, stuck⟩) s = .next s) ∧
    (∀ p : Fin 136, s.domOn (classDomain c) = true → s.desk c p = 1 →
      ∃ t, exec (.slateParityError c p) s = .next t ∧ s.DeskRetired t c p 1) ∧
    (∀ (tag : Fin 8) (w : Nat), s.domOn (classDomain c) = true → ∃ t, exec (.chalkboardUe c ⟨tag, w⟩) s = .next t ∧
      w % boardWords / 2 ∈ (t.classroom c).bad ∧
      t.reg (Reg.FAB_CB_UE c) = satWord (s.reg (Reg.FAB_CB_UE c)) 1 ∧ t.event 3 = true ∧
      t.reg (Reg.FAB_FAULT_INFO c) = word (0xFF + 256 * 0xFF + 65536 * 5) ∧ (t.classroom c).desks = (s.classroom c).desks) ∧
    (∀ (v : Word) (bad : List Nat), s.Accepts (Reg.FAB_CHECK_CMD c) v → bit v 0 = true →
      ∃ t, exec (.selfCheck c v bad) s = .next t ∧ t.rb (Reg.FAB_CHECK_STATUS c) 31 = true ∧ t.rb (Reg.FAB_CHECK_CMD c) 0 = false ∧
        t.rf (Reg.FAB_CHECK_STATUS c) 16 8 = ((List.range deskCount).filter (fun p => decide (s.desk c p ≠ 3) && !bad.contains p)).length ∧
        ∀ p : Fin 136, t.desk c p = if s.desk c p = 3 ∨ p.val ∈ bad then 3 else if s.desk c p = 0 then 2 else s.desk c p) ∧
    (∀ bad : List (Nat × Nat), (∀ e ∈ bad, e.1 < 32 ∧ e.2 < 136) → ∃ t, exec (.spareCheck bad) s = .next t ∧
      ∀ p : Fin 136,
        ((c.val, p.val) ∈ bad → s.domOn (classDomain c) = true → s.rb (Reg.FAB_CTRL c) 13 = true → s.desk c p = 2 →
          t.desk c p = 3 ∧ t.rb (Reg.FAB_RETIRED c (p / 32)) (p % 32) = true ∧ t.event 3 = true ∧
          ((∀ e ∈ bad, e.1 = c.val → e.2 = p.val) → t.reg (Reg.FAB_FAULT_INFO c) = word (p + 256 * 0xFF + 65536 * 3))) ∧
        ((c.val, p.val) ∉ bad → t.desk c p = s.desk c p)) ∧
    (∀ ps : Nat, s.domOn (classDomain c) = true → ∃ t, exec (.replicaMeasure c ps) s = .next t ∧
      t.rf (Reg.FAB_SPEED c) 0 16 = ps % 2 ^ 16 ∧ AllRegsKept s t [Reg.FAB_SPEED c] ∧ OnlyRegs s t)

/-- ANA_COMMIT: the first failing check is the code, and the instance keeps what it had; one that passes is accepted for the next roll or a
named SEQ32, and pending is shown. Writing 1 to a latch bit clears it, and it latches again only at a rise (R234, R235, R258, R259). The
model's reading or choice, by assumption: an instance that is not declared (96), the first commit (95), a clear of a latch (152). -/
def Obligations.CommitsAndLatches : Prop :=
  ∀ (s : State) (v : Word),
    (s.Accepts Reg.ANA_COMMIT v → bit v 0 = true →
      (∀ (k : Nat) (c : Commit), s.commitCheck (fld v 8 6) (bit v 1) = (k, c) →
        ∃ t, exec (.anaCommit v) s = .next t ∧ t.rf Reg.ANA_COMMIT_STATUS 16 8 = k ∧ t.rf Reg.ANA_COMMIT_STATUS 24 6 = fld v 8 6 ∧
          t.rb Reg.ANA_COMMIT_STATUS 31 = true ∧ t.rb Reg.ANA_COMMIT 0 = false ∧
          (k = 0 → (t.lesson (fld v 8 6)).next =
              some (c, if bit v 1 then CommitAt.now else .seq (s.reg Reg.ANA_COMMIT_AT).toNat) ∧
            t.rb (Reg.LSN_ACTIVE (fld v 8 6)) 1 = true) ∧
          (k ≠ 0 → t.lessons = s.lessons))) ∧
    (s.Accepts Reg.ANA_LATCH v → ∃ t, exec (.latchClear v) s = .next t ∧
      ∀ n : Fin 16, s.pinRaw n = false ∨ s.alarms.raw.testBit n = true →
        t.rb Reg.ANA_LATCH n = (s.rb Reg.ANA_LATCH n && !bit v n))

/-! ### Acquisition, filters, phasors and energy periods (R266-R316) -/

/-- Enabling a circuit starts its clock, and its eight channels afresh, at the next edge of the modulator clock, and clears its faults;
disabling it clears them and stops its clock. The entry of a channel into FAULT is shown once, with event 40; a channel that has left FAULT
is shown healthy, one that has not is not (R268, R270, R273). The model's reading or choice, by assumption: the clock and its lines (115),
when FAULT is shown (116). -/
def Obligations.AcquisitionCircuits : Prop :=
  ∀ s : State,
    (∀ (c : Fin 12) (v : Word), s.Accepts (Reg.ACQ_CIR_CTRL c) v →
      (bit v 0 = true → s.acqEn c = false → ∃ t, exec (.acqCircuitEnable c v) s = .next t ∧ t.acqEn c = true ∧
        (∀ k : Fin 8, t.chan (8 * c + k) =
          { pos := s.nextEdge (s.tbNow s.acqTb), hist := (s.chan (8 * c + k)).hist, scales := (s.chan (8 * c + k)).scales
            last := (s.chan (8 * c + k)).last }) ∧
        (∀ ch : Fin 96, ch.val / 8 ≠ c → t.chan ch = s.chan ch) ∧ t.rf (Reg.ACQ_CIR_STATUS c) 0 16 = 0 ∧
        (t.modClk c).run = true ∧ (t.modClk c).first = s.nextEdge (s.tbNow s.acqTb) ∧
        AllRegsKept s t [Reg.ACQ_CIR_CTRL c, Reg.ACQ_CIR_STATUS c]) ∧
      (bit v 0 = false → s.acqEn c = true → s.fade = none → ∃ t, exec (.acqCircuitDisable c v) s = .next t ∧ t.acqEn c = false ∧
        t.rf (Reg.ACQ_CIR_STATUS c) 0 8 = 0 ∧ (t.modClk c).run = false ∧
        (∀ k : Fin 8, t.chan (8 * c + k) = { s.chan (8 * c + k) with run := 0, good := 0, fault := false, entered := false }) ∧
        (∀ ch : Fin 96, ch.val / 8 ≠ c → t.chan ch = s.chan ch) ∧
        AllRegsKept s t [Reg.ACQ_CIR_CTRL c, Reg.ACQ_CIR_STATUS c] ∧
        t = { s with regs := t.regs, chans := t.chans, modClks := t.modClks })) ∧
    (∀ ch : Fin 96, s.domOn pdAcq = true →
      (s.acqEn (ch / 8) = true → (s.chan ch).entered = true →
        ∃ t, exec (.acqModFault ch) s = .next t ∧ t.rb (Reg.ACQ_CIR_STATUS (ch / 8)) (ch % 8) = true ∧
          t.rb (Reg.ACQ_CIR_STATUS (ch / 8)) (16 + ch % 8) = true ∧ t.event 40 = true ∧
          t.chan ch = { s.chan ch with entered := false } ∧ RegsKept s t [Reg.ACQ_CIR_STATUS (ch / 8)]) ∧
      ((s.chan ch).entered = false → exec (.acqModFault ch) s = .next s) ∧
      (s.rb (Reg.ACQ_CIR_STATUS (ch / 8)) (ch % 8) = true → (s.chan ch).fault = false →
        ∃ t, exec (.channelHealthy ch) s = .next t ∧ t.rb (Reg.ACQ_CIR_STATUS (ch / 8)) (ch % 8) = false ∧
          AllRegsKept s t [Reg.ACQ_CIR_STATUS (ch / 8)] ∧ OnlyRegs s t) ∧
      ((s.chan ch).fault = true → exec (.channelHealthy ch) s = .next s))

/-- ACQ_SAMPLE: once its last bit has been sampled, the sinc stage takes the bits that the line gives by its coding and SDLY, counts its
code violations, follows the fault table, and gives tap 0 its value and stamp; before that nothing happens. A later stage whose inputs
complete an output gives that to the next stage, and tap 6 to the estimators. FLT_XFADE of masked channels starts a fade, or gives the
result that refuses it (R272-R279, R284). The model's reading or choice, by assumption: the operands of a line and how bits are placed on it
(115), SCALE (120), the coefficients (114), a fade in progress (117). -/
def Obligations.SamplesAndFades : Prop :=
  ∀ s : State,
    (∀ (ch : Fin 96) (periods : List Nat) (levels : List Bool), s.domOn pdAcq = true → s.acqEn (ch / 8) = true →
      (∀ (man : Bool) (n e due : Nat) (bs : List (Bool × Bool)) (x : Chan) (xs : List Int),
        man = s.rb (Reg.ACQ_CIR_CTRL (ch / 8)) 1 → n = s.bitsNeeded (s.chan ch) → e = (s.chan ch).pos / s.modEdge + n - 1 →
        due = e * s.modEdge + s.sdlyAt (ch / 8) (e * s.modEdge) * 5 * 2 ^ 29 + (if man then s.modEdge else 0) →
        bs = s.lineBits ch n (periods.zip levels) →
        x = takeBits man (s.rb (Reg.ACQ_CIR_CTRL (ch / 8)) (8 + ch % 8)) bs (s.chan ch) → xs = x.bits.take (4 * s.osr - 3) →
        (s.tbNow s.acqTb < due → exec (.acqSample ch 0 periods levels) s = .next s) ∧
        (due ≤ s.tbNow s.acqTb →
          ∃ t, exec (.acqSample ch 0 periods levels) s = .next t ∧ (t.chan ch).pos = (e + 1) * s.modEdge % stampMod ∧ (t.chan ch).bits = xs ∧
            (t.chan ch).fault = x.fault ∧ (t.chan ch).entered = x.entered ∧
            t.reg (Reg.ACQ_CIR_CODEERR (ch / 8)) =
              satWord (s.reg (Reg.ACQ_CIR_CODEERR (ch / 8))) (bs.filter (fun b => b.2)).length ∧
            ∃ flags, (Tab.get (fun _ => {}) (t.chan ch).stages 1).inq = (Tab.get (fun _ => {}) (s.chan ch).stages 1).inq ++
              [{ stamp := s.tap0Stamp e
                 val := ofQ31 (s.tap0Value ch (sincOut s.osrLog xs)), flags := flags }])) ∧
      (∀ (tap : Fin 7) (g : Stage), tap ≠ 0 → g = Tab.get (fun _ => {}) (s.chan ch).stages tap →
        (∀ (w rest : List Sample), feed tap g.win g.inq = (w, rest, false) →
          exec (.acqSample ch tap periods levels) s = .next (s.setChan ch
            { s.chan ch with stages := Tab.put (fun _ => {}) (s.chan ch).stages tap { win := w, inq := rest } })) ∧
        (∀ (y : Sample) (w rest : List Sample), feed tap g.win g.inq = (y :: w, rest, true) →
          ∃ t, exec (.acqSample ch tap periods levels) s = .next t ∧
            Tab.get (fun _ => {}) (t.chan ch).stages tap = { win := y :: w, inq := rest } ∧
            (tap = 1 → (Tab.get (fun _ => {}) (t.chan ch).stages 2).inq =
              (Tab.get (fun _ => {}) (s.chan ch).stages 2).inq ++ [s.tap1Sample ch (s.chan ch) (y :: w) y]) ∧
            (1 < tap.val → tap.val < 6 → (Tab.get (fun _ => {}) (t.chan ch).stages (tap + 1)).inq =
              (Tab.get (fun _ => {}) (s.chan ch).stages (tap + 1)).inq ++ [hbSample tap (y :: w) y]) ∧
            (tap = 6 → (t.chan ch).hist = (s.tap6Sample ch (s.chan ch) (y :: w) y :: (s.chan ch).hist).take histDepth)))) ∧
    (∀ (v : Word) (chs : List Nat), s.Accepts Reg.FLT_XF_CMD v → bit v 0 = true →
      chs = (List.range 96).filter (fun ch => s.rb (Reg.FLT_XF_MASK (ch / 32)) (ch % 32)) →
      ((∃ ch ∈ chs, s.firEn ch = false ∨ s.acqEn (ch / 8) = false) →
        ∃ t, exec (.fltXfade v) s = .next t ∧ s.Reported t Reg.FLT_XF_STATUS 1 ∧ t.rb Reg.FLT_XF_CMD 0 = false ∧ t.fade = s.fade) ∧
      ((∀ ch ∈ chs, s.firEn ch = true ∧ s.acqEn (ch / 8) = true) →
          (∃ ch ∈ chs, firGd (s.reg (Reg.FLT_CH_FIR ch)) false ≠ firGd (s.reg (Reg.FLT_CH_FIR ch)) true) →
        ∃ t, exec (.fltXfade v) s = .next t ∧ s.Reported t Reg.FLT_XF_STATUS 2 ∧ t.rb Reg.FLT_XF_CMD 0 = false ∧ t.fade = s.fade) ∧
      (chs = [] → ∃ t, exec (.fltXfade v) s = .next t ∧ s.Reported t Reg.FLT_XF_STATUS 3 ∧ t.fade = s.fade) ∧
      (chs ≠ [] → (∀ ch ∈ chs, s.firEn ch = true ∧ s.acqEn (ch / 8) = true ∧
          firGd (s.reg (Reg.FLT_CH_FIR ch)) false = firGd (s.reg (Reg.FLT_CH_FIR ch)) true) →
        ∃ t f, exec (.fltXfade v) s = .next t ∧ t.fade = some f ∧ f.len = fld v 1 4 + 4 ∧ f.done = 0 ∧
          f.start = (s.tbNow s.acqTb / tapPeriod 6 + 1) * tapPeriod 6 ∧ (∀ ch : Fin 96, f.mask.testBit ch = decide (ch.val ∈ chs)) ∧
          t.rb Reg.FLT_XF_STATUS 31 = false ∧ AllRegsKept s t [Reg.FLT_XF_CMD, Reg.FLT_XF_STATUS]))

/-- PHASOR_ESTIMATE: once the samples of the next instant are there, the circuit publishes the instant's SEQ32, status and frequency (NaN
where the source is not usable) and goes on from it; before that nothing happens (R298-R303). ENERGY_PERIOD accounts the next period of a
circuit whose samples are there: each accumulator gains what the period's quantities add to it, modulo 2^96, and the circuit goes on to the
next period; before that, or while an interval is still to be closed there, nothing happens (R309-R316). The model's reading or choice, by
assumption: the order of operations (119), the instants of a circuit enabled again (172), stamps at 60 Hz (121), increments beyond their
range (124). -/
def Obligations.PhasorEstimatesAndEnergyPeriods : Prop :=
  (∀ (s : State) (c : Fin 12) (x : PhsCirc) (i : Instant) (e : Estimate), s.domOn pdAcq = true → s.rb (Reg.PHS_CIR_CTRL c) 0 = true →
     s.acqEn c = true → x = s.phsOf c → i = firstInstant (s.phsR c) (max x.after x.last) true → e = s.estimate c (i.time (s.phsR c)) x.df →
     (i.time (s.phsR c) + s.phsReach c ≤ s.tbNow s.acqTb → ∃ t, exec (.phasorEstimate c) s = .next t ∧
       t.phsOf c = { after := x.after, last := i.time (s.phsR c), df := s.nextDf c e x.df } ∧ t.rb (Reg.PHS_CIR_OUT_STATUS c) 31 = true ∧
       t.reg (Reg.PHS_CIR_OUT_SEQ32 c) = word (i.seq32 (s.phsR c)) ∧
       t.reg (Reg.PHS_CIR_OUT_STAT c) = word (e.stat + 65536 * e.dig) ∧
       t.reg (Reg.PHS_CIR_OUT_FREQ c) = (if e.usable then F64.toF32 e.freq else f32NaN) ∧
       t.reg (Reg.PHS_CIR_OUT_DFREQ c) = (if e.usable then F64.toF32 e.rocof else f32NaN) ∧
       (s.domOn pdRcl = false → t.reg (Reg.PHS_CIR_NOSEAT c) = satWord (s.reg (Reg.PHS_CIR_NOSEAT c)) 1 ∧ t.seated = s.seated)) ∧
     (s.tbNow s.acqTb < i.time (s.phsR c) + s.phsReach c → exec (.phasorEstimate c) s = .next s)) ∧
  (∀ (s u : State) (c : Fin 12) (x : NrgCirc) (a b d : Quant) (views : List (List (Nat × Nat) × Bool)),
     (s.nrgOf c).run = true → s.domOn pdAcq = true → s.periodReady c (s.nrgOf c) = true → s.intervalDue c = false →
     (s.nrgOf c).stopAt = none → s.nrgCmd = none → u = s.corrTake c → x = u.nrgOf c →
     a = phaseQuant x.f0 (u.periodSamples x (8 * c)) (u.periodSamples x (8 * c + 4)) →
     b = phaseQuant x.f0 (u.periodSamples x (8 * c + 1)) (u.periodSamples x (8 * c + 5)) →
     d = phaseQuant x.f0 (u.periodSamples x (8 * c + 2)) (u.periodSamples x (8 * c + 6)) →
     views = [viewIncrements x.f0 false a, viewIncrements x.f0 false b, viewIncrements x.f0 false d,
       viewIncrements x.f0 true (sumQuant a b d)] →
     ∃ t, exec (.energyPeriod c) s = .next t ∧ t.reg (Reg.NRG_CIR_PERIODS c) = s.reg (Reg.NRG_CIR_PERIODS c) + 1 ∧
       (t.nrgOf c).sec = x.advance.sec ∧ (t.nrgOf c).k = x.advance.k ∧ (t.nrgOf c).periods = x.periods + 1 ∧ (t.nrgOf c).closed = false ∧
       (∀ (v : Fin 4) (q : Fin 10), t.accOf c (10 * v + q) % accMod = (s.accOf c (10 * v + q) +
         (((views.getD v ([], false)).1.filter (fun e => decide (e.1 = q.val))).map (fun e => e.2)).sum) % accMod) ∧
       ∀ (k : Fin 12) (n : Fin 40), k ≠ c → t.accOf k n = s.accOf k n) ∧
  (∀ (s : State) (c : Fin 12), (s.nrgOf c).run = false ∨ s.domOn pdAcq = false ∨ s.periodReady c (s.nrgOf c) = false ∨
     s.intervalDue c = true → exec (.energyPeriod c) s = .next s)

/-! ### Energy (R307-R326) -/


/-- SNAP copies, LOAD takes and CLEAR zeroes the forty accumulators of each selected circuit that is not enabled, at once; for enabled ones
the command waits; a mask without circuits gives result 1 (R317, R325). The model's reading or choice, by assumption: circuits of a command
on several (123). -/
def Obligations.EnergyCommands : Prop :=
  ∀ (s : State) (v : Word) (cmd : Instr) (op : Nat), s.Accepts Reg.NRG_CMD v → bit v 0 = true → fld v 1 2 = op →
    (cmd = .nrgSnap v ∧ op = 1 ∨ cmd = .nrgLoad v ∧ op = 2 ∨ cmd = .nrgClear v ∧ op = 3) →
    (fld v 16 12 = 0 → ∃ t, exec cmd s = .next t ∧ s.Reported t Reg.NRG_CMD_STATUS 1 ∧ t.rb Reg.NRG_CMD 0 = false ∧
      t.acc = s.acc ∧ t.tables = s.tables) ∧
    (fld v 16 12 ≠ 0 → (∀ c : Fin 12, bit v (16 + c) = true → s.rb (Reg.NRG_CIR_CTRL c) 0 = false) →
      ∃ t, exec cmd s = .next t ∧ s.Reported t Reg.NRG_CMD_STATUS 0 ∧ t.rb Reg.NRG_CMD 0 = false ∧
        ∀ (c : Fin 12) (a : Fin 40),
          (bit v (16 + c) = true →
            (op = 1 → t.tw (snapOff c a) = word (s.accOf c a) ∧ t.tw (snapOff c a + 4) = word (s.accOf c a >>> 32) ∧
              t.tw (snapOff c a + 8) = word (s.accOf c a >>> 64) ∧ t.accOf c a = s.accOf c a) ∧
            (op = 2 → t.accOf c a = (s.tw (snapOff c a)).toNat + (s.tw (snapOff c a + 4)).toNat * 2 ^ 32 +
              (s.tw (snapOff c a + 8)).toNat * 2 ^ 64) ∧
            (op = 3 → t.accOf c a = 0)) ∧
          (bit v (16 + c) = false → t.accOf c a = s.accOf c a ∧ t.tw (snapOff c a) = s.tw (snapOff c a))) ∧
    ((∃ c : Fin 12, bit v (16 + c) = true ∧ s.rb (Reg.NRG_CIR_CTRL c) 0 = true) →
      ∃ t q, exec cmd s = .next t ∧ t.nrgCmd = some q ∧ q.op = op ∧ t.rb Reg.NRG_CMD 0 = true ∧ t.rb Reg.NRG_CMD_STATUS 31 = false ∧
        (∀ c : Fin 12, q.left.testBit c = (bit v (16 + c) && s.rb (Reg.NRG_CIR_CTRL c) 0)) ∧
        ∀ (c : Fin 12) (a : Fin 40), s.rb (Reg.NRG_CIR_CTRL c) 0 = true → t.accOf c a = s.accOf c a)

/-- Enabling a circuit starts accounting at the next period boundary with its detectors reset, or a run that waits for the one still being
accounted (the model's choice, assumption 162); a billing boundary closes the interval of every circuit that has accounted up to it, with
event 47 where it is the first to reach it; a pulse is counted on the period nearest to its start, and leaves the pin while the unit holds
the hall pass (R307, R319, R320, R322, R323). The model's reading or choice, by assumption: a run that waits (162), PARTIAL and INT_SEQ
(122), the width of a pulse (129), its level (179). -/
def Obligations.EnergyCircuitsIntervalsAndPulses : Prop :=
  ∀ s : State,
    (∀ (c : Fin 12) (v : Word), s.Accepts (Reg.NRG_CIR_CTRL c) v → bit v 0 = true → s.rb (Reg.NRG_CIR_CTRL c) 0 = false →
      ∃ t, exec (.nrgCircuitEnable c v) s = .next t ∧
        ((s.nrgOf c).run = false → (t.nrgOf c).run = true ∧ (t.nrgOf c).f60 = s.rb Reg.PHS_CTRL 0 ∧
          ((t.nrgOf c).sec, (t.nrgOf c).k) = firstPeriod (s.rb Reg.PHS_CTRL 0) (s.tbNow s.acqTb) ∧
          (t.nrgOf c).first = (t.nrgOf c).startStamp ∧ (t.nrgOf c).flags = intPartial ∧ (t.nrgOf c).corrs = [(0, bit v 1, bit v 2)] ∧
          t.reg (Reg.NRG_CIR_STATUS c) = 0 ∧ t.rb Reg.NRG_SEQ_STATE c = false ∧ t.rb Reg.NRG_NEU_STATE c = false ∧
          t.rb Reg.NRG_REV_STATE (16 + c) = false ∧
          AllRegsKept s t [Reg.NRG_CIR_CTRL c, Reg.NRG_CIR_STATUS c, Reg.NRG_SEQ_STATE, Reg.NRG_NEU_STATE, Reg.NRG_REV_STATE]) ∧
        ((s.nrgOf c).run = true → AllRegsKept s t [Reg.NRG_CIR_CTRL c] ∧ ((t.nrgOf c).sec, (t.nrgOf c).k) = ((s.nrgOf c).sec, (s.nrgOf c).k) ∧
          ∃ r, (t.nrgOf c).later = (s.nrgOf c).later ++ [r] ∧ r.f60 = s.rb Reg.PHS_CTRL 0 ∧
            (r.sec, r.k) = firstPeriod (s.rb Reg.PHS_CTRL 0) (s.tbNow s.acqTb))) ∧
    ((∃ c : Fin 12, s.intervalDue c = true) →
      ∃ t, exec .nrgIntervalEnd s = .next t ∧ t.acc = s.acc ∧
        ∀ c : Fin 12,
          (s.intervalDue c = true → s.rb Reg.NRG_CTRL 12 = true → s.nrgInt.all (fun u => decide (u < (s.nrgOf c).startStamp)) = true →
            t.event 47 = true) ∧
          if s.intervalDue c = true then
            t.nrgOf c = { s.nrgOf c with
              start := (s.nrgOf c).startStamp, flags := 0, periods := 0, flagged := 0, seq := ((s.nrgOf c).seq + 1) % 2 ^ 32
              closed := true }
          else t.nrgOf c = s.nrgOf c) ∧
    (∀ (n : Fin 4) (p : Stamp × Nat) (rest : List (Stamp × Nat)), (s.pulse n).queue = p :: rest → s.domOn pdAcq = true →
      p.1 ≤ s.tbNear s.acqTb → s.boundary = false → ∃ t, exec (.pulseOutput n) s = .next t ∧ (t.pulse n).queue = rest ∧
        t.reg (Reg.PULSE_COUNT n) = s.reg (Reg.PULSE_COUNT n) + 1 ∧ AllRegsKept s t [Reg.PULSE_COUNT n] ∧
        t.out = (if s.gate then [.pulse n.val p.2] else []) ++ s.out)

/-! ### Triggers and recorder (R327-R344) -/

/-- An edge at an event input that its TDC takes is accepted and counted, and captured where EDGE selects it; one that does not outlast the
filter is rejected, and counted as that. A mark whose hold has passed is closed: its record is counted while the recorder runs. START runs
the recorder from the next frame boundary, or its first failing check is the result; STOP names the last frame, or stops at once before the
first; a frame whose samples are in is emitted and counted; a buffer is completed FLUSH after its first record (R333, R334, R336-R340). The
model's reading or choice, by assumption: edges that come too fast (126), marks while STOPPED (127), the first frame and STOP (128). -/
def Obligations.EventInputsMarksAndRecorder : Prop :=
  (∀ s : State,
     (∀ (i : Fin 16) (rising : Bool) (ph held : Nat), s.domOn pdAcq = true → s.rb (Reg.TRG_EV_CFG i) 0 = true →
       (s.evtInOf i).mate ≠ some false → (s.evtInOf i).reject = false →
       ((s.evtInOf i).recent.filter (fun t => decide (s.now < t + evtWindowFs))).length + 2 ≤ evtBurst →
       (s.rf (Reg.TRG_EV_CFG i) 8 8 = 0 ∨ 10 * s.rf (Reg.TRG_EV_CFG i) 8 8 < held →
         ∃ t, exec (.evtInEdge i rising ph held) s = .next t ∧ t.reg (Reg.TRG_CNT 5) = satWord (s.reg (Reg.TRG_CNT 5)) 1 ∧
           (s.rb (Reg.TRG_EV_CFG i) (if rising then 1 else 2) = true → t.rb (Reg.TRG_EV_STATUS i) 31 = true ∧
             t.rb (Reg.TRG_EV_STATUS i) 16 = rising ∧
             t.reg (Reg.TRG_EV_NS i) = word (stampNs (s.tdc (s.rf Reg.TRG_CTRL 0 2) ph)))) ∧
       (s.rf (Reg.TRG_EV_CFG i) 8 8 ≠ 0 → held ≤ 10 * s.rf (Reg.TRG_EV_CFG i) 8 8 →
         ∃ t, exec (.evtInEdge i rising ph held) s = .next t ∧ t.reg (Reg.TRG_CNT 6) = satWord (s.reg (Reg.TRG_CNT 6)) 1 ∧
           (t.evtInOf i).reject = true ∧ AllRegsKept s t [Reg.TRG_CNT 6])) ∧
     (∀ m : Mark, s.marks.find? (fun m => decide (m.closeAt ≤ s.now)) = some m →
       (s.recorder.running = false → exec .markHoldClose s = .next { s with marks := s.marks.erase m }) ∧
       (s.recorder.running = true → s.recorder.gapOpen = false → s.recorder.marksHeld < recMarkMax →
         ∃ t, exec .markHoldClose s = .next t ∧ t.reg (Reg.TRG_CNT 2) = satWord (s.reg (Reg.TRG_CNT 2)) 1 ∧
           t.reg (Reg.TRG_CNT 0) = satWord (s.reg (Reg.TRG_CNT 0)) 1 ∧ t.recorder.seq = (s.recorder.seq + 1) % 2 ^ 32))) ∧
  (∀ s : State,
     (∀ v : Word, s.Accepts Reg.TRG_REC_CMD v → bit v 0 = true →
       (fld v 1 2 = 1 →
         (s.startResult ≠ 0 → ∃ t, exec (.recorderStart v) s = .next t ∧ s.Reported t Reg.TRG_REC_RES s.startResult ∧
           t.rb Reg.TRG_REC_CMD 0 = false ∧ AllRegsKept s t [Reg.TRG_REC_CMD, Reg.TRG_REC_RES] ∧ OnlyRegs s t) ∧
         (s.startResult = 0 → ∃ t, exec (.recorderStart v) s = .next t ∧ s.Reported t Reg.TRG_REC_RES 0 ∧ t.recorder.running = true ∧
           t.recorder.frame = (s.tbNow s.acqTb / s.frameLen + 1) * s.frameLen ∧ t.recorder.seq = 0 ∧ t.rb Reg.TRG_REC_STATE 0 = true ∧
           t.rb Reg.TRG_REC_CMD 0 = false)) ∧
       (fld v 1 2 = 2 →
         (s.recorder.running = false → ∃ t, exec (.recorderStop v) s = .next t ∧ s.Reported t Reg.TRG_REC_RES 1 ∧
           t.rb Reg.TRG_REC_CMD 0 = false ∧ AllRegsKept s t [Reg.TRG_REC_CMD, Reg.TRG_REC_RES] ∧ OnlyRegs s t) ∧
         (∀ cur, s.recorder.running = true → s.recorder.stopAt = none → cur = s.tbNow s.acqTb / s.frameLen * s.frameLen →
           (s.recorder.first = false ∨ s.recorder.frame ≤ cur → ∃ t, exec (.recorderStop v) s = .next t ∧
             t.recorder = { s.recorder with stopAt := some (max cur s.recorder.frame) } ∧ t.rb Reg.TRG_REC_CMD 0 = true ∧
             t.rb Reg.TRG_REC_RES 31 = false) ∧
           (s.recorder.first = true → cur < s.recorder.frame → ∃ t, exec (.recorderStop v) s = .next t ∧
             t.recorder.running = false ∧ s.Reported t Reg.TRG_REC_RES 0 ∧ t.rb Reg.TRG_REC_STATE 0 = false)))) ∧
     (s.recorder.running = true → s.domOn pdAcq = true → s.recFrameReady = true →
       s.recorder.frame + s.frameLen ≤ s.tbNow s.acqTb → s.recorder.gapOpen = false →
       s.recorder.fill + (s.dataRecord s.recorder.frame s.recorder.first
         (match s.recorder.stopAt with | some g => decide (g ≤ s.recorder.frame) | none => false) false).length ≤ recFifoMax →
       ∃ t, exec .recorderFrame s = .next t ∧ t.reg (Reg.TRG_CNT 0) = satWord (s.reg (Reg.TRG_CNT 0)) 1 ∧
         t.recorder.frame = s.recorder.frame + s.frameLen ∧ t.recorder.seq = (s.recorder.seq + 1) % 2 ^ 32 ∧
         t.recorder.running = !(match s.recorder.stopAt with | some g => decide (g ≤ s.recorder.frame) | none => false)) ∧
     (∀ b, s.recorder.buf = some b → b.since + s.rf Reg.TRG_REC_FLUSH 0 16 * fsPerMs ≤ s.now → s.recorder.fifo = [] →
       ∃ t, exec .recorderFlush s = .next t ∧ t.recorder.buf = none ∧ t.ringHead 16 = s.ringNext 16))

/-! ### Scheduler (R345-R361) -/

/-- CREATE takes the lowest free task or gives code 1, FULL, with event 51, DESTROY frees or ends a task, DONE completes one; a stale handle, a
system task or a wrong state gives its code and changes no task (R345, R347, R348). The model's reading or choice, by assumption: FULL
before PARAM, and no handle (130), STATE or STALE of a FREE or ENDING task (131). -/
def Obligations.TaskCommands : Prop :=
  ∀ (s : State) (v : Word), s.Accepts Reg.SCH_TASK_CMD v → bit v 0 = true →
    (fld v 1 2 = 1 →
      ((∀ i < taskCount, (s.task i).state ≠ 0) → ∃ t, exec (.taskCreate v) s = .next t ∧ s.Reported t Reg.SCH_TASK_STATUS 1 ∧
        t.rb Reg.SCH_TASK_CMD 0 = false ∧ t.event 51 = true ∧ t.reg (Reg.SCH_CNT 3) = satWord (s.reg (Reg.SCH_CNT 3)) 1 ∧
        t.sched = s.sched) ∧
      (∀ (i : Nat) (a m : Word), i < taskCount → (s.task i).state = 0 → (∀ j < i, (s.task j).state ≠ 0) →
        a = s.reg Reg.SCH_TASK_ARG0 → m = s.reg Reg.SCH_TASK_ARG1 →
        (fld a 0 3 < 2 ∨ m = 0 ∨ (bit a 4 = true ∧ fld a 16 16 < 0x4200) → ∃ t, exec (.taskCreate v) s = .next t ∧
          s.Reported t Reg.SCH_TASK_STATUS 2 ∧ t.rb Reg.SCH_TASK_CMD 0 = false ∧
          AllRegsKept s t [Reg.SCH_TASK_CMD, Reg.SCH_TASK_STATUS, Reg.SCH_TASK_HANDLE] ∧ OnlyRegs s t) ∧
        (2 ≤ fld a 0 3 → m ≠ 0 → (bit a 4 = true → 0x4200 ≤ fld a 16 16) → ∃ t, exec (.taskCreate v) s = .next t ∧
          s.Reported t Reg.SCH_TASK_STATUS 0 ∧ t.rb Reg.SCH_TASK_CMD 0 = false ∧
          t.reg Reg.SCH_TASK_HANDLE = word (i + 4096 * (s.task i).gen) ∧
          t.task i = { state := 1, gen := (s.task i).gen, prio := fld a 0 3, all := bit a 3, flowEn := bit a 4, notify := bit a 5
                       flow := fld a 16 16, mask := m, arg := s.reg Reg.SCH_TASK_ARG2 } ∧
          (∀ j, j ≠ i → t.task j = s.task j) ∧
          AllRegsKept s t [Reg.SCH_TASK_CMD, Reg.SCH_TASK_STATUS, Reg.SCH_TASK_HANDLE]))) ∧
    (∀ (i : Nat) (x : Task) (cmd : Instr), i = fld v 12 12 → x = s.task i →
      cmd = .taskDestroy v ∧ fld v 1 2 = 2 ∨ cmd = .taskDone v ∧ fld v 1 2 = 3 →
      (x.gen ≠ fld v 24 8 → ∃ t, exec cmd s = .next t ∧ s.Reported t Reg.SCH_TASK_STATUS 3 ∧ t.rb Reg.SCH_TASK_CMD 0 = false ∧
        AllRegsKept s t [Reg.SCH_TASK_CMD, Reg.SCH_TASK_STATUS, Reg.SCH_TASK_HANDLE] ∧ OnlyRegs s t) ∧
      (x.gen = fld v 24 8 →
        (x.sys = true ∨ x.state = 0 ∨ (fld v 1 2 = 2 ∧ x.state = 4) ∨ (fld v 1 2 = 3 ∧ (x.state = 1 ∨ x.state = 2)) →
          ∃ t, exec cmd s = .next t ∧ s.Reported t Reg.SCH_TASK_STATUS 4 ∧ t.rb Reg.SCH_TASK_CMD 0 = false ∧
          AllRegsKept s t [Reg.SCH_TASK_CMD, Reg.SCH_TASK_STATUS, Reg.SCH_TASK_HANDLE] ∧ OnlyRegs s t) ∧
        (x.sys = false → fld v 1 2 = 2 → x.state = 1 ∨ x.state = 2 → ∃ t, exec cmd s = .next t ∧
          s.Reported t Reg.SCH_TASK_STATUS 0 ∧ t.rb Reg.SCH_TASK_CMD 0 = false ∧ t.task i = { gen := (x.gen + 1) % 256 } ∧
          t.sched.ready = (if x.state = 2 then s.sched.ready.erase i else s.sched.ready) ∧
          (∀ y ∈ t.sched.timers, y.task ≠ i) ∧ (∀ j, j ≠ i → t.task j = s.task j)) ∧
        (x.sys = false → fld v 1 2 = 2 → x.state = 3 → ∃ t, exec cmd s = .next t ∧ s.Reported t Reg.SCH_TASK_STATUS 0 ∧
          t.rb Reg.SCH_TASK_CMD 0 = false ∧ t.task i = { x with state := 4 } ∧ (∀ y ∈ t.sched.timers, y.task ≠ i)) ∧
        (x.sys = false → fld v 1 2 = 3 → x.state = 4 → ∃ t, exec cmd s = .next t ∧ s.Reported t Reg.SCH_TASK_STATUS 0 ∧
          t.rb Reg.SCH_TASK_CMD 0 = false ∧ t.task i = { gen := (x.gen + 1) % 256 } ∧ t.sched.ready = s.sched.ready) ∧
        (x.sys = false → fld v 1 2 = 3 → x.state = 3 → ∃ t, exec cmd s = .next t ∧ s.Reported t Reg.SCH_TASK_STATUS 0 ∧
          t.rb Reg.SCH_TASK_CMD 0 = false ∧ t.task i = { x with state := if x.satisfied then 2 else 1 } ∧
          t.sched.ready = (if x.satisfied then s.sched.ready ++ [i] else s.sched.ready) ∧
          t.sched.busy = (if x.flowEn then s.sched.busy.erase x.flow else s.sched.busy))))

/-- FLAG_SET discards and counts flags for a task that takes none, else ORs them in and makes a waiting task whose flags satisfy its mask
READY. DISPATCH takes the first eligible item whose target accepts it; an engine's completion ends it. ARM and DISARM stage and drop a
task's timer; a due timer sets its flags, with event 52 where EVT asks for it; with no form running and none due nothing fires (R348-R352,
R354, R355). The model's reading or choice, by assumption: commands on FREE and ENDING tasks (131), the flags of engines as operands (132),
the order of ready items (133), event 50 (134), a timer armed late (135), the order of a bell (161). -/
def Obligations.FlagsTimersAndDispatch : Prop :=
  ∀ s : State,
    (∀ (v : Word) (i : Nat) (x : Task), s.Accepts Reg.SCH_FLAG_SET v → i = s.rf Reg.SCH_FLAG_TGT 0 12 → x = s.task i →
      (x.gen ≠ s.rf Reg.SCH_FLAG_TGT 12 8 ∨ x.state = 0 ∨ x.state = 4 ∨ x.sys = true → ∃ t, exec (.flagSet v) s = .next t ∧
        t.reg (Reg.SCH_CNT 2) = satWord (s.reg (Reg.SCH_CNT 2)) 1 ∧ AllRegsKept s t [Reg.SCH_CNT 2] ∧ OnlyRegs s t) ∧
      (x.gen = s.rf Reg.SCH_FLAG_TGT 12 8 → x.state ≠ 0 → x.state ≠ 4 → x.sys = false →
        (x.state = 1 → ({ x with flags := x.flags ||| v } : Task).satisfied = true → ∃ t, exec (.flagSet v) s = .next t ∧
          t.task i = { x with flags := x.flags ||| v, state := 2 } ∧ t.sched.ready = s.sched.ready ++ [i] ∧
          (x.notify = true → t.event 50 = true) ∧ (∀ j, j ≠ i → t.task j = s.task j) ∧ RegsKept s t [Reg.SCH_STATUS]) ∧
        (x.state ≠ 1 ∨ ({ x with flags := x.flags ||| v } : Task).satisfied = false → ∃ t, exec (.flagSet v) s = .next t ∧
          t.task i = { x with flags := x.flags ||| v } ∧ t.sched.ready = s.sched.ready ∧ (∀ j, j ≠ i → t.task j = s.task j) ∧
          AllRegsKept s t []))) ∧
    (s.domOn pdSch = true →
      (∀ (i : Nat) (x : Task), s.readyItems.find? (fun i => s.eligible i && s.accepts i) = some i → x = s.task i →
        ∃ t, exec (.dispatch []) s = .next t ∧ t.task i = { x with state := 3, flags := x.flags &&& ~~~ x.mask } ∧
          t.sched.ready = s.sched.ready.erase i ∧ t.sched.busy = (if x.flowEn then x.flow :: s.sched.busy else s.sched.busy) ∧
          (x.sys = true → t.reg (Reg.SCH_CNT 1) = satWord (s.reg (Reg.SCH_CNT 1)) 1 ∧ t.ringHead 22 = s.ringHead 22) ∧
          (x.sys = false → t.reg (Reg.SCH_CNT 0) = satWord (s.reg (Reg.SCH_CNT 0)) 1 ∧
            t.ringHead 22 = s.ringNext 22)) ∧
      (s.readyItems = [] → exec (.dispatch []) s = .next s) ∧
      (∀ (i : Nat) (w : Word) (x : Task), x = s.task i → s.sched.ready = [] → x.sys = true → x.state = 1 → x.notify = false →
        x.flowEn = false → x.prio < 8 → ({ x with flags := x.flags ||| w } : Task).satisfied = true →
        ∃ t, exec (.dispatch [(i, w)]) s = .next t ∧
          t.task i = { x with state := 3, flags := (x.flags ||| w) &&& ~~~ x.mask } ∧ t.sched.ready = [] ∧
          t.reg (Reg.SCH_CNT 1) = satWord (s.reg (Reg.SCH_CNT 1)) 1)) ∧
    (∀ (i : Nat) (x : Task), x = s.task i →
      (x.sys = true → x.state = 3 → ∃ t, exec (.taskEngineComplete i) s = .next t ∧
        t.task i = { x with state := if x.satisfied then 2 else 1 } ∧
        t.sched.ready = (if x.satisfied then s.sched.ready ++ [i] else s.sched.ready) ∧
        t.sched.busy = (if x.flowEn then s.sched.busy.erase x.flow else s.sched.busy)) ∧
      (x.sys = false ∨ x.state ≠ 3 → exec (.taskEngineComplete i) s = .next s)) ∧
    (∀ (v : Word) (i : Nat) (x : Task) (cmd : Instr), s.Accepts Reg.SCH_TMR_CMD v → bit v 0 = true →
      i = s.rf Reg.SCH_TMR_HANDLE 0 12 → x = s.task i → cmd = .timerArm v ∧ fld v 1 2 = 1 ∨ cmd = .timerDisarm v ∧ fld v 1 2 = 2 →
      (x.gen ≠ s.rf Reg.SCH_TMR_HANDLE 12 8 ∨ x.state = 0 ∧ x.sys = false ∨ x.state = 4 ∧ x.sys = false →
        ∃ t, exec cmd s = .next t ∧ s.Reported t Reg.SCH_TMR_STATUS 3 ∧ t.rb Reg.SCH_TMR_CMD 0 = false ∧
          AllRegsKept s t [Reg.SCH_TMR_CMD, Reg.SCH_TMR_STATUS] ∧ OnlyRegs s t) ∧
      (x.gen = s.rf Reg.SCH_TMR_HANDLE 12 8 →
        (x.sys = true → ∃ t, exec cmd s = .next t ∧ s.Reported t Reg.SCH_TMR_STATUS 4 ∧ t.rb Reg.SCH_TMR_CMD 0 = false ∧
          AllRegsKept s t [Reg.SCH_TMR_CMD, Reg.SCH_TMR_STATUS] ∧ OnlyRegs s t) ∧
        (x.sys = false → x.state ≠ 0 → x.state ≠ 4 → ∃ t, exec cmd s = .next t ∧ s.Reported t Reg.SCH_TMR_STATUS 0 ∧
          t.rb Reg.SCH_TMR_CMD 0 = false ∧ AllRegsKept s t [Reg.SCH_TMR_CMD, Reg.SCH_TMR_STATUS] ∧
          t.sched.timers = s.sched.timers.filter (fun y => decide (y.task ≠ i)) ++
            (if fld v 1 2 = 1 then [s.stagedTimer] else []) ∧ s.stagedTimer.task = i ∧ t.sched.tasks = s.sched.tasks))) ∧
    (∀ (y : Timer) (x : Task), s.domOn pdSch = true → (∀ f : Fin 256, s.formState f = 0) →
      s.sched.timers.filter (fun y => s.timerDue y) = [y] → y.tb < 4 → x = s.task y.task →
      y.task < taskCount → x.gen < 256 → x.state = 1 ∨ x.state = 2 ∨ x.state = 3 → x.sys = false →
      ∃ t, exec .timerFire s = .next t ∧ t = s.fireTimer y ∧ t.reg (Reg.SCH_CNT 4) = satWord (s.reg (Reg.SCH_CNT 4)) 1 ∧
        t.sched.timers = s.sched.timers.filter (fun z => decide (z.task ≠ y.task)) ∧ (y.evt = true → t.event 52 = true) ∧
        (t.task y.task).flags = x.flags ||| y.flags ∧
        (x.state = 1 → ({ x with flags := x.flags ||| y.flags } : Task).satisfied = true → (t.task y.task).state = 2)) ∧
    ((∀ f : Fin 256, s.formState f = 0) → s.domOn pdSch = false ∨ s.sched.timers.filter (fun y => s.timerDue y) = [] →
      exec .timerFire s = .next s)

/-! ### Keys and tamper (R387-R416) -/

/-- The key store serves the request at the front of ring 20 once, with a descriptor on rings 20 and 21 and a count, while PD_KEY is on and
EN is 1 (and PD_AON can be reached: the model's choice, assumption 166); it waits for a descriptor of ring 21; the tags of the keys it uses
are checked first. What the operations do on a slot that serves them (R393-R397, R400-R403, R406). The model's reading or choice, by
assumption: several causes (138), slots that do not serve (139), completions (141), the noise source (142), the named standards (137). -/
def Obligations.KeyOperations : Prop :=
  ∀ (s : State) (d : List Byte) (q : KeyReq), s.domOn pdKey = true → s.rb Reg.KEY_CTRL 0 = true → s.ringReady 20 = true →
    s.rtc.lockout = false → d = s.headDesc 20 → q = keyReq d →
    (∀ (cmd : Instr) (op : Nat) (f : State → KeyReq → KeyOut),
      (cmd, op, f) ∈ [(.keyGenerate, 1, State.opGenerate), (.keyDerive, 2, State.opDerive), (.keyImport, 3, State.opImport),
        (.keyFree, 4, State.opFree), (.keyRevoke, 5, State.opRevoke), (.keyMac, 6, State.opMac), (.keyMacVerify, 7, State.opMacVerify),
        (.keySign, 8, State.opSign), (.keyVerify, 9, State.opVerify), (.keyPublic, 10, State.opPublic),
        (.keyAttest, 11, State.opAttest), (.keyRandom, 12, State.opRandom)] →
      (q.op ≠ op → exec cmd s = .next s) ∧
      (q.op = op → s.ringReady 21 = false → ∃ t, exec cmd s = .next t ∧ t.ringHead 20 = s.ringHead 20 ∧ t.keys = s.keys) ∧
      (q.op = op → s.ringReady 21 = true → ∃ t u, exec cmd s = .next t ∧ u = q.uses.foldl State.tagCheck s ∧
        t = u.keyComplete q d (f u q) ∧
        t.ringHead 20 = s.ringNext 20 ∧ t.ringHead 21 = s.ringNext 21 ∧
        t.reg (Reg.KEY_CNT 0) = satWord (s.reg (Reg.KEY_CNT 0)) 1 ∧
        (∀ i ∈ q.uses, (s.slot i).state = 1 → (s.slot i).upset = true → (u.slot i).state = 3 ∧ u.event 15 = true))) ∧
    (∀ (k : KeySlot) (pb : List Byte) (usage ll cl : Nat), s.ringReady 21 = true → k = s.slot q.slot →
      (∀ i ∈ q.uses, (s.slot i).upset = false) →
      pb = s.hostRead q.inAddr 16 → usage = be pb 4 4 → ll = octet pb 12 → cl = octet pb 13 →
      (q.any = false → 5 ≤ q.slot → k.state = 0 → octet pb 0 = 1 → (octet pb 1).testBit 0 = false → typeBad 1 usage = false →
        usage < 2 ^ 10 →
        (q.op = 1 → q.inLen = 16 → s.rb Reg.KEY_POLICY 1 = true → ∃ t, exec .keyGenerate s = .next t ∧
          t.slot q.slot = KeySlot.seal { state := 1, type := 1, origin := 3, usage := usage, label := be pb 8 4, gen := k.gen
                                         material := (s.newMaterial 1).1 }) ∧
        (q.op = 2 → q.fromRoot = false → q.inLen = 16 + ll + cl → ll ≤ 64 → cl ≤ 64 → (s.slot q.aux).state = 1 →
          hasUsage (s.slot q.aux).usage 5 = true → (s.slot q.aux).depth < 8 → ∃ t, exec .keyDerive s = .next t ∧
          t.slot q.slot = KeySlot.seal { state := 1, type := 1, origin := 4, depth := (s.slot q.aux).depth + 1, parent := some q.aux
                                         usage := usage, label := be pb 8 4, gen := k.gen
                                         material := kdf (s.slot q.aux).material (s.hostRead (q.inAddr + 16) ll)
                                           (ctxOf (s.hostRead (q.inAddr + 16 + ll) cl) 1 usage) 256 }) ∧
        (q.op = 3 → q.inLen = 48 → s.rb Reg.KEY_POLICY 0 = true → ∃ t, exec .keyImport s = .next t ∧
          t.slot q.slot = KeySlot.seal { state := 1, type := 1, origin := 5, usage := usage, label := be pb 8 4, gen := k.gen
                                         material := s.hostRead (q.inAddr + 16) 32 })) ∧
      (q.op = 4 → 5 ≤ q.slot → k.state ≠ 0 → s.hasChild q.slot = false → ∃ t, exec .keyFree s = .next t ∧
        t.slot q.slot = { gen := (k.gen + 1) % 2 ^ 32 } ∧ ∀ i, i ≠ q.slot → t.slot i = s.slot i) ∧
      (q.op = 5 → q.slot ≠ 0 → k.state = 1 → ∃ t, exec .keyRevoke s = .next t ∧ (t.slot q.slot).state = 2 ∧ t.event 17 = true ∧
        (∀ i, (s.slot i).state = 1 → (s.slot i).parent = some q.slot → (t.slot i).state = 2) ∧
        (q.slot ≤ 4 → t.keys.revoked = s.keys.revoked ||| 2 ^ q.slot)) ∧
      (k.state = 1 →
        (q.op = 6 → q.inLen ≠ 0 → 32 ≤ q.outLen → hasUsage k.usage 6 = true →
          exec .keyMac s = .next (s.keyComplete q d ⟨0, q.slot, hmac k.material (s.hostRead q.inAddr q.inLen), s⟩)) ∧
        (q.op = 7 → 32 < q.inLen → hasUsage k.usage 6 = true →
          exec .keyMacVerify s = .next (s.keyComplete q d
            ⟨if hmac k.material (s.hostRead (q.inAddr + 32) (q.inLen - 32)) = s.hostRead q.inAddr 32 then 0 else 7, q.slot, [], s⟩)) ∧
        (q.op = 8 → q.inLen = 32 → 64 ≤ q.outLen → hasUsage k.usage 7 = true →
          exec .keySign s = .next (s.keyComplete q d
            ⟨0, q.slot, ecdsaSign (beVal k.material) (s.hostRead q.inAddr 32), s⟩)) ∧
        (q.op = 9 → q.inLen = 96 → hasUsage k.usage 8 = true →
          exec .keyVerify s = .next (s.keyComplete q d
            ⟨if ecdsaVerify k.pub (s.hostRead q.inAddr 32) (s.hostRead (q.inAddr + 32) 64) then 0 else 7, q.slot, [], s⟩)) ∧
        (q.op = 10 → 64 ≤ q.outLen → k.type = 3 ∨ k.type = 4 →
          exec .keyPublic s = .next (s.keyComplete q d ⟨0, q.slot, fit 64 k.pub, s⟩)) ∧
        (q.op = 11 → q.inLen = 32 → 200 ≤ q.outLen → s.latch = false → (s.slot 0).state = 1 →
          ∃ t, exec .keyAttest s = .next t ∧ t.reg Reg.KEY_ATT_CNT = satWord (s.reg Reg.KEY_ATT_CNT) 1 ∧ t.keys = s.keys)) ∧
      (q.op = 12 → 0 < q.outLen → q.outLen ≤ 4096 →
        exec .keyRandom s = .next (s.keyComplete q d ⟨0, q.slot, (s.random q.outLen).1, (s.random q.outLen).2⟩)))

/-- The scrub makes a VALID slot whose content an upset has changed BAD with event 15, a retained one only while PD_AON can be reached; with
SCRUB_EN = 0 the upset only stands. A newly active tamper source sets its cause; the first one sets the latch and zeroises every slot but
1-4, which are kept, with event 14 and every GEN kept. The latch is cleared only by the key word with no source active, and slot 0 is
derived again; the floor only rises; neither is written while PD_AON refuses accesses (R125, R393, R394, R408-R410, R413). The model's
reading or choice, by assumption: the periodic check and the floor while PD_AON cannot be reached (166), which slots an upset has changed
(140), the operands of TAMPER (143). -/
def Obligations.KeyStoreHappenings : Prop :=
  ∀ s : State,
    (∀ upset : List Nat, s.domOn pdKey = true →
      (s.rb Reg.KEY_CTRL 1 = true → ∃ t, exec (.keyScrub upset) s = .next t ∧
        t.reg (Reg.KEY_CNT 3) = satWord (s.reg (Reg.KEY_CNT 3)) 1 ∧
        ∀ (i : Fin 256) (k : KeySlot), k = s.slot i →
          (k.state = 1 → i.val ∈ upset ∨ k.upset = true →
            (s.rtc.lockout = false ∨ k.retain = false → t.slot i = { k with state := 3, upset := true } ∧ t.event 15 = true) ∧
            (s.rtc.lockout = true → k.retain = true → t.slot i = { k with upset := true })) ∧
          (k.state ≠ 1 ∨ i.val ∉ upset ∧ k.upset = false → t.slot i = k)) ∧
      (s.rb Reg.KEY_CTRL 1 = false → ∃ t, exec (.keyScrub upset) s = .next t ∧ AllRegsKept s t [] ∧
        ∀ i : Fin 256, t.slot i = if i.val ∈ upset ∧ (s.slot i).state = 1 then { s.slot i with upset := true } else s.slot i)) ∧
    (∀ (pins : BitVec 4) (us : Nat) (mesh op : Bool) (u : State),
      u = { s with keys := { s.keys with
        pins := if s.rf Reg.KEY_TAMPER_CFG 8 4 ≤ us then pins.toNat else s.keys.pins, mesh := mesh } } →
      ∃ t, exec (.tamper pins us ⟨mesh, op⟩) s = .next t ∧
        ((∀ n < 5, u.tamperActive.testBit n = true → s.tamperActive.testBit n = true) →
          t.keys = u.keys ∧ t.latch = s.latch ∧ AllRegsKept s t [Reg.KEY_TAMPER_STATUS]) ∧
        (∀ n : Fin 5, u.tamperActive.testBit n = true → s.tamperActive.testBit n = false →
          t.rb Reg.KEY_TAMPER_STATUS (16 + n) = true ∧ t.latch = true ∧
          (s.latch = false → s.domOn pdKey = true → t.rb Reg.KEY_STATUS 0 = false ∧ t.rb Reg.IMG_CACHE 1 = false ∧
            (∀ i, 1 ≤ i → i ≤ 4 → t.slot i = s.slot i) ∧ (∀ i, i = 0 ∨ 4 < i → ∃ g, t.slot i = { gen := g }) ∧
            (Tab.wf (fun _ => {}) s.keys.slots = true → ∀ i, i = 0 ∨ 4 < i → t.slot i = { gen := (s.slot i).gen }) ∧
            (s.rtc.onVbat = false → s.pwr.start = none → t.event 14 = true)) ∧
          (s.latch = true → t.keys = u.keys))) ∧
    (∀ v : Word, bit v 0 = true →
      (fld v 16 16 ≠ 0x7A3C ∨ s.tamperActive ≠ 0 ∨ s.rtc.lockout = true → s.writeCause Reg.KEY_TAMPER_CLR v ≠ 0) ∧
      (s.Accepts Reg.KEY_TAMPER_CLR v → ∃ t, exec (.tamperClr v) s = .next t ∧ t.latch = false ∧ t.rb Reg.KEY_STATUS 0 = true ∧
        t.slot 0 = KeySlot.seal { slot0 with gen := (s.slot 0).gen } ∧ (∀ i, i ≠ 0 → t.slot i = s.slot i) ∧
        AllRegsKept s t [Reg.KEY_TAMPER_STATUS, Reg.KEY_STATUS])) ∧
    (∀ v : Word,
      (v.toNat < (s.reg Reg.KEY_FLOOR).toNat ∨ s.rtc.lockout = true → s.writeCause Reg.KEY_FLOOR v ≠ 0) ∧
      (s.Accepts Reg.KEY_FLOOR v → ∃ t, exec (.keyFloorWrite v) s = .next t ∧ t.reg Reg.KEY_FLOOR = v ∧
        AllRegsKept s t [Reg.KEY_FLOOR] ∧ OnlyRegs s t))

/-! ### Pairs, boards and districts (R417-R439) -/

/-- Health follows its conditions, a kick is noted; CLAIM, HOLD and IDLE of the hall pass, with event 53 when the gate opens or closes; a
substitute gives way to an ILK_IN that is low for 50 ns, and YIELD gives the pass up (R419, R420, R480). The model's reading or choice, by
assumption: ROLE SINGLE (144), when health is judged (145), how long ILK_IN has been high (146), the filter of ILK_IN (179). -/
def Obligations.HealthAndHallPass : Prop :=
  ∀ s : State,
    (s.domOn pdSch = true →
      (∀ cmd : Instr, cmd = .healthChange ∨ cmd = .kickExpiry ∧ s.kicked = false →
        (s.healthyNow = s.rb Reg.RED_STATUS 4 → exec cmd s = .next s) ∧
        (s.healthyNow = true → s.rb Reg.RED_STATUS 4 = false → ∃ t, exec cmd s = .next t ∧ t.rb Reg.RED_STATUS 4 = true ∧
          t.pass.healthySince = s.now ∧ AllRegsKept s t [Reg.RED_STATUS]) ∧
        (s.healthyNow = false → s.rb Reg.RED_STATUS 4 = true →
          (s.role < 2 → ∃ t, exec cmd s = .next t ∧ t.rb Reg.RED_STATUS 4 = false ∧ t.hpState = s.hpState ∧ t.gate = s.gate ∧
            AllRegsKept s t [Reg.RED_STATUS]) ∧
          (2 ≤ s.role → s.hpState = 2 → ∃ t, exec cmd s = .next t ∧ t.rb Reg.RED_STATUS 4 = false ∧ t.hpState = 0 ∧
            t.gate = false ∧ t.pass.drives = false ∧ t.event 53 = true))) ∧
      (s.hpState = 0 → s.rb Reg.RED_STATUS 4 = true → s.healthyNow = true → s.rb Reg.RED_CTRL 0 = false →
        (s.role = 2 → s.pass.healthySince + s.rf Reg.RED_TIMES 0 16 * fsPerMs ≤ s.now → ∃ t, exec .hallPassClaim s = .next t ∧
          t.hpState = 1 ∧ t.pass.drives = true ∧ t.pass.claimSince = s.now ∧ t.gate = false) ∧
        (s.role = 3 → s.ilkIn = true → s.pass.ilkSince + s.rf Reg.RED_TIMES 16 16 * fsPerUs ≤ s.now →
          ∃ t, exec .hallPassClaim s = .next t ∧ t.hpState = 1 ∧ t.pass.drives = true ∧ t.gate = false) ∧
        (s.role = 3 → s.ilkIn = false → exec .hallPassClaim s = .next s)) ∧
      (s.hpState = 1 → s.ilkIn = true → s.pass.ilkSince + fsPerUs ≤ s.now → s.pass.claimSince + fsPerUs ≤ s.now →
        ∃ t, exec .hallPassHold s = .next t ∧ t.hpState = 2 ∧ t.gate = true ∧ t.pass.drives = true ∧ t.event 53 = true)) ∧
    (s.kicked = true → exec .kickExpiry s = .next s) ∧
    (∀ v : Word, s.Accepts Reg.RED_KICK v → bit v 0 = true →
      ∃ t, exec (.kick v) s = .next t ∧ t.pass = { s.pass with kickAt := some s.now } ∧ AllRegsKept s t [] ∧
        t = { s with regs := t.regs, pass := t.pass }) ∧
    (∀ (level : Bool) (ns : Nat), ns < 50 ∨ level = s.ilkIn → exec (.ilkInChange ⟨level, ns⟩) s = .next s) ∧
    (∀ (level : Bool) (ns : Nat), 50 ≤ ns → level ≠ s.ilkIn →
      ∃ t, exec (.ilkInChange ⟨level, ns⟩) s = .next t ∧ t.ilkIn = level ∧ t.pass.ilkSince = s.now ∧
      (s.role ≠ 3 ∨ level = true → t.hpState = s.hpState ∧ AllRegsKept s t [Reg.RED_STATUS]) ∧
      (s.role = 3 → level = false → t.hpState = 0 ∧ (s.hpState ≠ 0 → t.gate = false ∧ t.pass.drives = false) ∧
        (s.hpState = 2 → t.event 53 = true))) ∧
    (∀ v : Word, s.Accepts Reg.RED_CTRL v → bit v 0 = true → ∃ t, exec (.hallYield v) s = .next t ∧ t.rb Reg.RED_CTRL 0 = true ∧
      (2 ≤ s.role → t.hpState = 0 ∧ (s.hpState ≠ 0 → t.gate = false) ∧ (s.hpState = 2 → t.event 53 = true)) ∧
      (s.role < 2 → t.hpState = s.hpState ∧ AllRegsKept s t [Reg.RED_CTRL]))

/-- A due batch leaves for the partner with the next sequence number; a message that does not verify is counted, one that does is heard and
compared: equal decisions are counted EQUAL, an unexplained difference is published with event 54; a partner not heard for PEER_MS is lost
with event 55; keys that wait longer than AWAIT_MS are UNPAIRED (R427-R429). The model's reading or choice, by assumption: the octets that
are hashed (147), the largest batch (148). -/
def Obligations.AnswerCheck : Prop :=
  ∀ s : State,
    (s.answerDue = true → ∃ t, exec .answerSend s = .next t ∧ t.answers.batch = s.answers.batch.drop s.batchMax ∧
      t.answers.seq = (s.answers.seq + 1) % 2 ^ 32 ∧ t.answers.lastSent = s.now ∧ t.rb Reg.RED_STATUS 6 = s.ansKey.isNone ∧
      (∀ k, s.rb Reg.RED_CTRL 3 = false → s.linkTo (s.rf Reg.RED_CTRL 4 3) = some k → s.linkUp (s.rf Reg.RED_CTRL 4 3) = true →
        (s.link k).waiting = [] → (s.link k).credits ≠ 0 → s.boundary = false → (s.slot (s.rf Reg.RED_KEY 0 8)).upset = false →
        ∃ seq bs, t.out = .fjl k 4 seq bs :: s.out)) ∧
    (s.answerDue = false → exec .answerSend s = .next s) ∧
    (∀ m : List Byte, s.domOn pdSch = true →
      (s.answerOk m = false → ∃ t, exec (.answerReceive m) s = .next t ∧ t.reg (Reg.RED_CNT 7) = satWord (s.reg (Reg.RED_CNT 7)) 1 ∧
        AllRegsKept s t [Reg.RED_CNT 7] ∧ OnlyRegs s t) ∧
      (s.answerOk m = true →
        (octet m 5 % 2 = 1 ∨ s.ansKey = none → ∃ t, exec (.answerReceive m) s = .next t ∧ t.answers.heard = s.now ∧
          t.rb Reg.RED_STATUS 5 = true ∧ t.reg (Reg.RED_CNT 7) = satWord (s.reg (Reg.RED_CNT 7)) 1 ∧ t.answers.keys = s.answers.keys) ∧
        (∀ (e a : AnsEntry) (k : AnsKey), octet m 5 % 2 = 0 → s.ansKey ≠ none → s.rb Reg.RED_CTRL 1 = true → be m 6 2 = 1 →
          e = msgEntry m 0 → e.kind = 3 → s.answers.keys.find? (fun k => k.holds e) = some k → k.ownFin = some a → k.ownRel = none →
          (e.d1 = a.d1 → e.d2 = a.d2 → ∃ t, exec (.answerReceive m) s = .next t ∧ t.answers.heard = s.now ∧
            t.reg (Reg.RED_CNT 0) = satWord (s.reg (Reg.RED_CNT 0)) 1 ∧
            t.answers.keys = s.answers.keys.filter (fun k => !k.holds e) ∧ AllRegsKept s t [Reg.RED_STATUS, Reg.RED_CNT 0]) ∧
          (e.d1 ≠ a.d1 → e.flags % 2 = 0 → a.flags % 2 = 0 → s.relDiffers e.form e.seq = false → e.inst ∉ s.answers.carry →
            ∃ t, exec (.answerReceive m) s = .next t ∧ t.reg (Reg.RED_CNT 6) = satWord (s.reg (Reg.RED_CNT 6)) 1 ∧
              t.reg Reg.RED_MM_INFO = word (3 + 256 * e.form + 65536 * e.inst) ∧ t.reg Reg.RED_MM_SEQ32 = word e.seq ∧
              t.rb Reg.RED_MM_STATUS 31 = true ∧ (s.rb Reg.RED_CTRL 2 = false → t.event 54 = true) ∧
              t.answers.keys = s.answers.keys.filter (fun k => !k.holds e))))) ∧
    (s.domOn pdSch = true → s.rb Reg.RED_STATUS 5 = true → s.answers.heard + s.rf Reg.RED_PEER 0 16 * fsPerMs ≤ s.now →
      ∃ t, exec .redPeerLost s = .next t ∧ t.rb Reg.RED_STATUS 5 = false ∧ t.rb Reg.RED_STATUS 10 = true ∧ t.event 55 = true ∧
        RegsKept s t [Reg.RED_STATUS]) ∧
    (s.rb Reg.RED_STATUS 5 = false ∨ s.now < s.answers.heard + s.rf Reg.RED_PEER 0 16 * fsPerMs → exec .redPeerLost s = .next s) ∧
    (∀ (wait : Nat) (due : AnsKey → Bool), s.domOn pdSch = true → wait = s.rf Reg.RED_PEER 16 16 * fsPerMs →
      (∀ k ∈ s.answers.keys, due k = true ↔ (k.ownRel ≠ none ∧ k.peerRel = none ∧ k.relAt + wait ≤ s.now) ∨
        (k.ownFin ≠ none ∧ k.peerFin = none ∧ k.finAt + wait ≤ s.now)) →
      ∃ t, exec .awaitExpiry s = .next t ∧
        t.reg (Reg.RED_CNT 7) = satWord (s.reg (Reg.RED_CNT 7)) (s.answers.keys.filter due).length ∧
        t.answers.keys = s.answers.keys.filter (fun k => !due k) ∧ AllRegsKept s t [Reg.RED_CNT 7])

/-- A Fjarni link goes OFF, TRAIN, CHECK, UP, and back: by its enable, its lanes, an IDENT of the right or a wrong position, a check that
times out, a lane lost, packets that no ACK reaches. A packet whose CRC fails is counted and refused; one in sequence is taken (R430-R432,
R435). The model's reading or choice, by assumption: control packets, credits and resends (149), the bits of a peer that is not UP (150),
the octets of packets (80). -/
def Obligations.FjarniLinks : Prop :=
  ∀ (s : State) (k : Fin 7),
    (∀ v : Word, s.Accepts (Reg.FJL_L_CTRL k) v →
      (bit v 0 = true → s.rb (Reg.FJL_L_CTRL k) 0 = false → s.linkState k = 0 → ∃ t, exec (.fjlLinkEnable k v) s = .next t ∧
        t.linkState k = 1 ∧ t.rf (Reg.FJL_L_STATUS k) 8 4 = 0 ∧
        AllRegsKept s t [Reg.FJL_L_CTRL k, Reg.FJL_L_STATUS k, Reg.FJL_STATUS]) ∧
      (bit v 0 = false → s.rb (Reg.FJL_L_CTRL k) 0 = true →
        (s.linkState k ≠ 3 → ∃ t, exec (.fjlLinkDisable k v) s = .next t ∧ t.linkState k = 0 ∧ t.link k = {} ∧
          AllRegsKept s t [Reg.FJL_L_CTRL k, Reg.FJL_L_STATUS k, Reg.FJL_STATUS]) ∧
        (s.linkState k = 3 → ∃ t, exec (.fjlLinkDisable k v) s = .next t ∧ t.linkState k = 0 ∧ t.rb Reg.FJL_STATUS k = false ∧
          t.event 56 = true ∧ t.reg (Reg.FJL_L_CNT k 4) = satWord (s.reg (Reg.FJL_L_CNT k 4)) 1 ∧
          t.reg (Reg.FJL_L_CNT k 5) = satWord (s.reg (Reg.FJL_L_CNT k 5)) ((s.link k).sent.length + (s.link k).waiting.length)))) ∧
    (s.domOn pdLink = true →
      (s.linkState k = 1 → ∃ t, exec (.fjlLanesAligned k) s = .next t ∧ t.linkState k = 2 ∧ t.rf (Reg.FJL_L_STATUS k) 8 4 = 15 ∧
        (t.link k).checkAt = s.now ∧ (s.boundary = false → ∃ seq bs, t.out = .fjl k 7 seq bs :: s.out) ∧
        AllRegsKept s t [Reg.FJL_L_STATUS k, Reg.FJL_STATUS, Reg.FJL_L_CNT k 0]) ∧
      (∀ pos : Nat, s.linkState k = 2 →
        (pos = s.linkPeer k → ∃ t, exec (.fjlIdent k pos) s = .next t ∧ t.linkState k = 3 ∧ t.rb Reg.FJL_STATUS k = true ∧
          t.event 56 = true ∧ t.reg (Reg.FJL_L_CNT k 1) = satWord (s.reg (Reg.FJL_L_CNT k 1)) 1) ∧
        (pos ≠ s.linkPeer k → ∃ t, exec (.fjlIdent k pos) s = .next t ∧ t.linkState k = 1 ∧ t.rf (Reg.FJL_L_STATUS k) 12 2 = 1 ∧
          t.event 57 = true ∧ RegsKept s t [Reg.FJL_L_STATUS k, Reg.FJL_STATUS, Reg.FJL_L_CNT k 1])) ∧
      (s.linkState k = 2 → (s.link k).checkAt + 10 * fsPerMs ≤ s.now → ∃ t, exec (.fjlCheckTimeout k) s = .next t ∧
        t.linkState k = 1 ∧ t.rf (Reg.FJL_L_STATUS k) 12 2 = 2 ∧ t.event 57 = true ∧
        RegsKept s t [Reg.FJL_L_STATUS k, Reg.FJL_STATUS]) ∧
      (∀ n : Fin 4,
        (s.linkState k = 3 → ∃ t, exec (.fjlLaneLost k n) s = .next t ∧ t.linkState k = 1 ∧ t.rb Reg.FJL_STATUS k = false ∧
          t.event 56 = true ∧ t.event 57 = true ∧ t.reg (Reg.FJL_L_CNT k 4) = satWord (s.reg (Reg.FJL_L_CNT k 4)) 1) ∧
        (s.linkState k ≠ 3 → ∃ t, exec (.fjlLaneLost k n) s = .next t ∧ t.rb (Reg.FJL_L_STATUS k) (8 + n) = false ∧
          t.linkState k = s.linkState k ∧ AllRegsKept s t [Reg.FJL_L_STATUS k] ∧ OnlyRegs s t)) ∧
      (∀ bs : List Byte,
        (2 ≤ s.linkState k → arrived bs = none → ∃ t, exec (.fjlPacketReceive k bs) s = .next t ∧
          t.reg (Reg.FJL_L_CNT k 2) = satWord (s.reg (Reg.FJL_L_CNT k 2)) 1 ∧
          (s.boundary = false → ∃ seq b, t.out = .fjl k 6 seq b :: s.out) ∧
          AllRegsKept s t [Reg.FJL_L_CNT k 2, Reg.FJL_L_CNT k 0]) ∧
        (∀ a : Arrived, s.linkState k = 3 → arrived bs = some a → a.kind = 3 →
          (a.seq = ((s.link k).rxSeq + 1) % 65536 → ∃ t, exec (.fjlPacketReceive k bs) s = .next t ∧ (t.link k).rxSeq = a.seq ∧
            t.reg (Reg.FJL_L_CNT k 1) = satWord (s.reg (Reg.FJL_L_CNT k 1)) 1 ∧
            t.reg (Reg.FJL_CNT 3) = satWord (s.reg (Reg.FJL_CNT 3)) 1 ∧
            Tab.get (fun _ => 0) t.alarms.shared (s.linkPeer k) = le a.payload 0 32) ∧
          (a.seq ≠ ((s.link k).rxSeq + 1) % 65536 → ∃ t, exec (.fjlPacketReceive k bs) s = .next t ∧
            (t.link k).rxSeq = (s.link k).rxSeq ∧ t.alarms = s.alarms ∧
            AllRegsKept s t [Reg.FJL_L_CNT k 0, Reg.FJL_L_CNT k 1]))) ∧
      (s.linkState k = 3 → (s.link k).sent ≠ [] → (s.link k).since + 10 * fsPerUs ≤ s.now →
        ((∀ n ∈ (s.link k).tries, n < 7) → ∃ t, exec (.fjlResendTimeout k) s = .next t ∧ t.linkState k = 3 ∧
          t.link k = { s.link k with tries := (s.link k).tries.map (· + 1), since := s.now, freed := 0 } ∧
          t.reg (Reg.FJL_L_CNT k 3) = satWord (s.reg (Reg.FJL_L_CNT k 3)) (s.link k).sent.length ∧
          AllRegsKept s t [Reg.FJL_L_CNT k 0, Reg.FJL_L_CNT k 3]) ∧
        ((∃ n ∈ (s.link k).tries, 7 ≤ n) → ∃ t, exec (.fjlResendTimeout k) s = .next t ∧ t.linkState k = 1 ∧
          t.rf (Reg.FJL_L_STATUS k) 12 2 = 3 ∧ t.event 56 = true ∧ t.event 57 = true)))

/-! ### Test access port (R486-R496) -/

/-- An instruction is loaded, after the data scan made under the one before: that of the boundary register captures the levels at the balls
and updates its latches, that of IDCODE gives the identification, and the bypass cell a 0 and then the bits shifted in, one late; an
instruction that TMX_CTRL does not enable is counted and flagged. Under an instruction that owns the balls an output cell drives its level
where its control cell is set. Under TMX_ACCESS a read gives any register of the TMX unit, a write stores it, and an error is kept, with one
of a locked register or an offset without one discarded; while TMX_ACCESS is not enabled the bits pass through the bypass cell and nothing
is performed. Test-Logic-Reset loads IDCODE (R486-R488, R491, R494, R496). The model's reading or choice, by assumption: what a scan gives
and captures (153), the AC waveforms (177). -/
def Obligations.TestPort : Prop :=
  ∀ s : State,
    (∀ (code : BitVec 8) (scan : Option (BitVec 298 × BitVec 298)) (idle : Nat),
      ∃ (t : State) (ac : List Output), exec (.jtagInstruction ⟨code, scan, idle⟩) s = .next t ∧
      t.tapInstr = code.toNat ∧ AllRegsKept s t [Reg.TMX_STATUS] ∧
      (idle = 0 ∨ s.tapRefused s.tapInstr = true ∨ s.tapInstr ≠ 3 ∧ s.tapInstr ≠ 4 → ac = []) ∧
      (idle ≠ 0 → s.tapRefused s.tapInstr = false → s.tapInstr = 3 ∨ s.tapInstr = 4 →
        ac = [.acTest t.acCells (if s.tapInstr = 3 then 2 else idle + idle % 2)]) ∧
      (scan = none → t = { s with regs := t.regs, out := .jtag 1 :: (ac ++ s.out) }) ∧
      (∀ balls shifted, scan = some (balls, shifted) →
        (s.dataReg = .boundary → t.tap = { s.tap with update := shifted } ∧
          t.out = .jtag 1 :: (ac ++ .jtag (s.boundaryCapture balls).toNat :: s.out) ∧
          (∀ (i : Fin 298) (sig : BSig), boundaryCells.getD i (.refclk, .observe) = (sig, .input) →
            (s.boundaryCapture balls).getLsbD i = balls.getLsbD i) ∧
          (∀ (n : Fin 12) (l : Bool), code = 0 → s.rb Reg.TMX_CTRL 0 = true → shifted.getLsbD 108 = true → l = shifted.getLsbD (96 + n) →
            t.ballLevel (96 + n) = some l)) ∧
        (s.dataReg = .idcode → t.tap = s.tap ∧ t.out = .jtag 1 :: .jtag 0x29840D4F :: s.out) ∧
        (s.dataReg = .bypass → t.tap = s.tap ∧ t.out = .jtag 1 :: .jtag (2 * shifted.toNat % 2 ^ 298) :: s.out)) ∧
      (s.tapRefused code.toNat = true →
        t.rf Reg.TMX_STATUS 16 8 = min 255 (s.rf Reg.TMX_STATUS 16 8 + 1) ∧ t.rb Reg.TMX_STATUS 8 = true) ∧
      (s.tapRefused code.toNat = false →
        t.rf Reg.TMX_STATUS 16 8 = s.rf Reg.TMX_STATUS 16 8 ∧ t.rb Reg.TMX_STATUS 8 = s.rb Reg.TMX_STATUS 8)) ∧
    (∀ (w : BitVec 48), (s.tapInstr ≠ 0x10 → exec (.tmxAccess w) s = .next s) ∧
      (s.tapInstr = 0x10 → s.rb Reg.TMX_CTRL 1 = false →
        exec (.tmxAccess w) s = .next { s with out := .jtag (2 * w.toNat % 2 ^ 48) :: s.out }) ∧
      (s.tapInstr = 0x10 → s.rb Reg.TMX_CTRL 1 = true →
        (∀ o ∈ [0, 1, 4, 5, 6, 7], w.getLsbD 46 = false → w.toNat / 2 ^ 32 % 2 ^ 14 = o → exec (.tmxAccess w) s = .next { s with
          out := .jtag (s.tap.data.toNat + 2 ^ 47 * s.tap.err.toNat) :: s.out
          tap := { s.tap with data := s.reg (Reg.TMX_CTRL + 4 * o), err := false } }) ∧
        (∀ g : Fin 4, w.getLsbD 46 = true → w.toNat / 2 ^ 32 % 2 ^ 14 = 4 + g.val → s.rb Reg.GLB_LOCK 2 = false →
          fld (BitVec.ofNat 32 w.toNat) 0 4 = 1 → ∃ t, exec (.tmxAccess w) s = .next t ∧
            t.tap = { s.tap with data := 0, err := false } ∧ t.reg (Reg.TMX_OBS_SEL g) = merge 0x1F0F (BitVec.ofNat 32 w.toNat) (s.reg (Reg.TMX_OBS_SEL g)) ∧
            AllRegsKept s t [Reg.TMX_OBS_SEL g]) ∧
        (∀ o : Nat, w.toNat / 2 ^ 32 % 2 ^ 14 = o →
          o ∈ [2, 3] ∨ 8 ≤ o ∨ (w.getLsbD 46 = true ∧ s.rb Reg.GLB_LOCK 2 = true ∧ o ∈ [0, 4, 5, 6, 7]) → ∃ t, exec (.tmxAccess w) s = .next t ∧
          t.tap = { s.tap with data := 0, err := true } ∧ t.rb Reg.TMX_STATUS 9 = true ∧ AllRegsKept s t [Reg.TMX_STATUS]))) ∧
    (∃ t, exec .testLogicReset s = .next t ∧ t.tapInstr = 1 ∧ t.tap = {} ∧ AllRegsKept s t [Reg.TMX_STATUS])
end

