-- ==== Sys2Proof/Laws/Bits.lean ====
section
/-! SUPPORT. What a field, a bit and a merged word read after a write of fields of the same word. -/

-- One declaration after another: side by side, their threads' stacks pass the memory limit of a check.
set_option Elab.async false

namespace Sys2Proof.Machine

theorem testBit_fld {w : Word} {lo n i : Nat} : (fld w lo n).testBit i = (decide (i < n) && bit w (lo + i)) := by
  simp [fld, bit, BitVec.getLsbD, Nat.testBit_mod_two_pow, Nat.testBit_shiftRight]

theorem bit_ofNat {x j : Nat} : bit (BitVec.ofNat 32 x) j = (decide (j < 32) && x.testBit j) := BitVec.getLsbD_ofNat ..

theorem bit_maskBits {lo n j : Nat} (h : lo + n ≤ 32) : bit (maskBits lo n) j = (decide (lo ≤ j) && decide (j < lo + n)) := by
  rw [maskBits, bit_ofNat, Nat.testBit_shiftLeft, Nat.testBit_two_pow_sub_one]
  rw [Bool.eq_iff_iff]
  simp only [Bool.and_eq_true, decide_eq_true_eq, ge_iff_le]
  omega

/-- A bit after a write of bits `[lo+n-1:lo]`. -/
theorem bit_setFld {w : Word} {lo n v j : Nat} (h : lo + n ≤ 32) :
    bit (setFld w lo n v) j = if lo ≤ j ∧ j < lo + n then v.testBit (j - lo) else bit w j := by
  have g : bit (setFld w lo n v) j =
      ((bit w j && (decide (j < 32) && !bit (maskBits lo n) j)) || bit (BitVec.ofNat 32 ((v % 2 ^ n) <<< lo)) j) := by
    simp [setFld, bit]
  have k : 32 ≤ j → bit w j = false := fun h => BitVec.getLsbD_of_ge w j h
  rw [g, bit_maskBits h, bit_ofNat, Nat.testBit_shiftLeft, Nat.testBit_mod_two_pow]
  by_cases h1 : lo ≤ j <;> by_cases h2 : j < lo + n
  · have h3 : j < 32 := by omega
    have h4 : j - lo < n := by omega
    simp [h1, h2, h3, h4]
  · have h4 : ¬ j - lo < n := by omega
    by_cases h3 : j < 32
    · simp [h1, h2, h3, h4]
    · simp [h1, h2, h3, k (by omega)]
  · have h3 : j < 32 := by omega
    simp [h1, h2, h3]
  · by_cases h3 : j < 32
    · simp [h1, h2, h3]
    · simp [h1, h2, h3, k (by omega)]

/-- A field reads what was written to it. -/
@[simp] theorem fld_setFld {w : Word} {lo n v : Nat} (h : lo + n ≤ 32) : fld (setFld w lo n v) lo n = v % 2 ^ n := by
  apply Nat.eq_of_testBit_eq
  intro i
  rw [testBit_fld, bit_setFld h, Nat.testBit_mod_two_pow]
  by_cases hi : i < n <;> simp [hi]

/-- A field that shares no bit with the one written reads as before. -/
theorem fld_setFld_ne {w : Word} {lo n v a m : Nat} (h : lo + n ≤ 32) (d : a + m ≤ lo ∨ lo + n ≤ a) :
    fld (setFld w lo n v) a m = fld w a m := by
  apply Nat.eq_of_testBit_eq
  intro i
  rw [testBit_fld, testBit_fld, bit_setFld h]
  by_cases hi : i < m
  · rw [if_neg (by omega)]
  · simp [hi]

/-- A bit reads what was written to it. -/
@[simp] theorem bit_setBit {w : Word} {i : Nat} {b : Bool} (h : i < 32) : bit (setBit w i b) i = b := by
  rw [setBit, bit_setFld (by omega), if_pos (by omega)]
  cases b <;> simp

/-- A bit outside the one written reads as before. -/
theorem bit_setBit_ne {w : Word} {i j : Nat} {b : Bool} (h : i < 32) (d : j ≠ i) : bit (setBit w i b) j = bit w j := by
  rw [setBit, bit_setFld (by omega), if_neg (by omega)]

theorem fld_setBit_ne {w : Word} {i a m : Nat} {b : Bool} (h : i < 32) (d : a + m ≤ i ∨ i + 1 ≤ a) :
    fld (setBit w i b) a m = fld w a m := fld_setFld_ne (by omega) d

theorem bit_setFld_ne {w : Word} {lo n v j : Nat} (h : lo + n ≤ 32) (d : j < lo ∨ lo + n ≤ j) :
    bit (setFld w lo n v) j = bit w j := by
  rw [bit_setFld h, if_neg (by omega)]

/-- A bit of a merged word comes from the new value where the mask has a one. -/
theorem bit_merge {m v w : Word} {i : Nat} : bit (merge m v w) i = if bit m i then bit v i else bit w i := by
  cases h : m.getLsbD i <;> cases g : w.getLsbD i <;> simp_all [merge, bit]
  exact BitVec.lt_of_getLsbD g

/-- A merge with a mask of ones takes the new value, one with no ones the old. -/
@[simp] theorem merge_ones {v w : Word} : merge 0xFFFFFFFF v w = v := by
  have h : (0xFFFFFFFF : Word) = BitVec.allOnes 32 := by decide
  rw [merge, h, BitVec.and_allOnes, BitVec.not_allOnes, BitVec.and_zero, BitVec.zero_or]

@[simp] theorem merge_none {v w : Word} : merge 0 v w = w := by
  apply BitVec.eq_of_getLsbD_eq
  intro i _
  exact (bit_merge (m := 0) (v := v) (w := w) (i := i)).trans (if_neg (by simp [bit]))

/-- A saturating counter gains its step unless it would pass its top. -/
theorem satWord_toNat {w : Word} {n : Nat} : (satWord w n).toNat = min 0xFFFFFFFF (w.toNat + n) := by
  simp [satWord, satAdd, BitVec.toNat_ofNat]

end Sys2Proof.Machine
end

