-- ==== Sys2Proof/Laws/Tab.lean ====
section
/-! SUPPORT. Laws of tables: what a read gives after a write, and that every operation keeps the canonical form. -/

-- One declaration after another: side by side, their threads' stacks pass the memory limit of a check.
set_option Elab.async false

namespace Sys2Proof.Machine

variable {α : Type}

/-! ### Reads after writes, in any form of the table -/

theorem Tab.get_erase {d : Nat → α} {k j : Nat} {t : Tab α} :
    Tab.get d (t.erase k) j = if j = k then d k else Tab.get d t j := by
  induction t with
  | nil => by_cases h : j = k <;> simp [Tab.erase, Tab.get, h]
  | cons x t ih =>
    obtain ⟨i, v⟩ := x
    unfold Tab.erase at ih ⊢
    rw [List.filter_cons]
    by_cases hik : i = k
    · rw [if_neg (by simp [hik]), ih]
      by_cases hj : j = k
      · simp [hj]
      · rw [if_neg hj, if_neg hj, Tab.get, if_neg (fun h : i = j => hj (h.symm.trans hik))]
    · rw [if_pos (by simp [hik])]
      simp only [Tab.get]
      rw [ih]
      by_cases hij : i = j
      · rw [if_pos hij, if_pos hij, if_neg (fun h => hik (hij.trans h))]
      · rw [if_neg hij, if_neg hij]

theorem Tab.get_insert {d : Nat → α} {k j : Nat} {v : α} {t : Tab α} :
    Tab.get d (t.insert k v) j = if j = k then v else Tab.get d t j := by
  induction t with
  | nil =>
    simp only [Tab.insert, Tab.get]
    by_cases h : j = k
    · simp [h]
    · rw [if_neg (Ne.symm h), if_neg h]
  | cons x t ih =>
    obtain ⟨i, w⟩ := x
    simp only [Tab.insert]
    split
    · rename_i hik
      simp only [Tab.get]
      by_cases h : j = k
      · simp [h]
      · rw [if_neg (Ne.symm h), if_neg h, if_neg (fun e => h (e.symm.trans hik))]
    · split
      · simp only [Tab.get]
        by_cases h : j = k
        · simp [h]
        · rw [if_neg (Ne.symm h), if_neg h]
      · rename_i hik _
        simp only [Tab.get]
        rw [ih]
        by_cases h : j = k
        · subst h
          rw [if_neg hik, if_pos rfl, if_pos rfl]
        · rw [if_neg h, if_neg h]

/-- What a key reads after one key is written: the value there, and what it was everywhere else. -/
theorem Tab.get_put [DecidableEq α] {d : Nat → α} {t : Tab α} {k j : Nat} {v : α} :
    Tab.get d (Tab.put d t k v) j = if j = k then v else Tab.get d t j := by
  unfold Tab.put
  split
  · rename_i hv
    rw [Tab.get_erase, hv]
  · exact Tab.get_insert

/-- A key reads what was last written to it. -/
@[simp] theorem Tab.get_put_self [DecidableEq α] {d : Nat → α} {t : Tab α} {k : Nat} {v : α} :
    Tab.get d (Tab.put d t k v) k = v := by
  rw [Tab.get_put, if_pos rfl]

/-- A write leaves every other key alone. -/
theorem Tab.get_put_ne [DecidableEq α] {d : Nat → α} {t : Tab α} {k j : Nat} {v : α} (hk : j ≠ k) :
    Tab.get d (Tab.put d t k v) j = Tab.get d t j := by
  rw [Tab.get_put, if_neg hk]

/-- A cleared range reads as the default, and every other key as before. -/
theorem Tab.get_clear {d : Nat → α} {lo hi k : Nat} {t : Tab α} :
    Tab.get d (t.clear lo hi) k = if lo ≤ k ∧ k < hi then d k else Tab.get d t k := by
  induction t with
  | nil => simp [Tab.clear, Tab.get]
  | cons x t ih =>
    obtain ⟨j, v⟩ := x
    unfold Tab.clear at ih ⊢
    rw [List.filter_cons]
    by_cases hj : lo ≤ j ∧ j < hi
    · rw [if_neg (by simp [hj.1, hj.2]), ih]
      by_cases hk : lo ≤ k ∧ k < hi
      · rw [if_pos hk, if_pos hk]
      · rw [if_neg hk, if_neg hk, Tab.get, if_neg (fun e : j = k => hk (e ▸ hj))]
    · rw [if_pos (by simp only [Bool.not_eq_true', Bool.and_eq_false_iff, decide_eq_false_iff_not]; omega)]
      simp only [Tab.get]
      rw [ih]
      by_cases hk : j = k
      · subst hk
        rw [if_pos rfl, if_pos rfl, if_neg hj]
      · rw [if_neg hk, if_neg hk]

/-- Consecutive keys read what was written to them, and every other key as before. -/
theorem Tab.get_putList [DecidableEq α] {d : Nat → α} {vs : List α} : ∀ {t : Tab α} {k j : Nat},
    Tab.get d (Tab.putList d t k vs) j = if k ≤ j then (vs[j - k]?).getD (Tab.get d t j) else Tab.get d t j := by
  induction vs with
  | nil => intro t k j; simp [Tab.putList]
  | cons v vs ih =>
    intro t k j
    simp only [Tab.putList]
    rw [ih, Tab.get_put]
    by_cases h1 : k + 1 ≤ j
    · have h2 : j - k = (j - (k + 1)) + 1 := by omega
      rw [if_pos h1, if_neg (by omega : ¬ j = k), if_pos (by omega : k ≤ j), h2, List.getElem?_cons_succ]
    · rw [if_neg h1]
      by_cases h2 : j = k
      · subst h2
        simp
      · rw [if_neg h2, if_neg (by omega)]

/-! ### The canonical form -/

/-- Every key of a table is above `k`. -/
def Tab.above (k : Nat) (t : Tab α) : Prop := ∀ e ∈ t, k < e.1

/-- The canonical form, entry by entry. -/
theorem Tab.wf_cons [DecidableEq α] {d : Nat → α} {k : Nat} {v : α} {t : Tab α} :
    Tab.wf d ((k, v) :: t) = true ↔ v ≠ d k ∧ Tab.above k t ∧ Tab.wf d t = true := by
  simp [Tab.wf, Tab.above, and_assoc]

theorem Tab.wf_filter [DecidableEq α] {d : Nat → α} {t : Tab α} {p : Nat × α → Bool} (h : Tab.wf d t = true) :
    Tab.wf d (t.filter p) = true := by
  induction t with
  | nil => rfl
  | cons x t ih =>
    obtain ⟨j, v⟩ := x
    obtain ⟨h1, h2, h3⟩ := Tab.wf_cons.1 h
    rw [List.filter_cons]
    split
    · exact Tab.wf_cons.2 ⟨h1, fun e he => h2 e (List.mem_of_mem_filter he), ih h3⟩
    · exact ih h3

/-- Clearing one key or a range of keys keeps the canonical form. -/
theorem Tab.wf_erase [DecidableEq α] {d : Nat → α} {t : Tab α} {k : Nat} (h : Tab.wf d t = true) :
    Tab.wf d (t.erase k) = true := Tab.wf_filter h

theorem Tab.wf_clear [DecidableEq α] {d : Nat → α} {t : Tab α} {lo hi : Nat} (h : Tab.wf d t = true) :
    Tab.wf d (t.clear lo hi) = true := Tab.wf_filter h

theorem Tab.insert_mem {t : Tab α} {k : Nat} {v : α} {e : Nat × α} (h : e ∈ t.insert k v) : e = (k, v) ∨ e ∈ t := by
  induction t with
  | nil => exact .inl (List.mem_singleton.1 (by simpa [Tab.insert] using h))
  | cons x t ih =>
    obtain ⟨j, w⟩ := x
    simp only [Tab.insert] at h
    split at h
    · rcases List.mem_cons.1 h with h | h
      · exact .inl h
      · exact .inr (List.mem_cons_of_mem _ h)
    · split at h
      · rcases List.mem_cons.1 h with h | h
        · exact .inl h
        · exact .inr h
      · rcases List.mem_cons.1 h with h | h
        · exact .inr (h ▸ List.mem_cons_self)
        · exact (ih h).imp id (List.mem_cons_of_mem _)

theorem Tab.wf_insert [DecidableEq α] {d : Nat → α} {t : Tab α} {k : Nat} {v : α} (h : Tab.wf d t = true) (hv : v ≠ d k) :
    Tab.wf d (t.insert k v) = true := by
  induction t with
  | nil => exact Tab.wf_cons.2 ⟨hv, (fun e he => nomatch he), rfl⟩
  | cons x t ih =>
    obtain ⟨j, w⟩ := x
    obtain ⟨h1, h2, h3⟩ := Tab.wf_cons.1 h
    simp only [Tab.insert]
    split
    · rename_i hj
      subst hj
      exact Tab.wf_cons.2 ⟨hv, h2, h3⟩
    · split
      · rename_i hk
        refine Tab.wf_cons.2 ⟨hv, fun e he => ?_, h⟩
        rcases List.mem_cons.1 he with he | he
        · exact he ▸ hk
        · exact Nat.lt_trans hk (h2 e he)
      · rename_i hne hk
        refine Tab.wf_cons.2 ⟨h1, fun e he => ?_, ih h3⟩
        rcases Tab.insert_mem he with he | he
        · subst he
          show j < k
          omega
        · exact h2 e he

/-- A write of one key keeps the canonical form. -/
theorem Tab.wf_put [DecidableEq α] {d : Nat → α} {t : Tab α} {k : Nat} {v : α} (h : Tab.wf d t = true) :
    Tab.wf d (Tab.put d t k v) = true := by
  unfold Tab.put
  split
  · exact Tab.wf_erase h
  · exact Tab.wf_insert h (by assumption)

/-- A write of consecutive keys keeps the canonical form. -/
theorem Tab.wf_putList [DecidableEq α] {d : Nat → α} {vs : List α} : ∀ {t : Tab α} {k : Nat}, Tab.wf d t = true →
    Tab.wf d (Tab.putList d t k vs) = true := by
  induction vs with
  | nil => exact fun h => h
  | cons v vs ih => exact fun h => ih (Tab.wf_put h)

end Sys2Proof.Machine
end

