-- ==== Sys2Proof/Laws/Within.lean ====
section
/-! SUPPORT. What an operation can touch. `Within C s t` says that `t` comes from `s` by changes of the fields of State whose bits
are set in `C` (bit k stands for the k-th field), that the queue and the past (time, what was sent, the free values drawn) are
kept, and that canonical forms are kept. Every operation of the model has one such lemma, in the files Laws/Within*.lean. -/

-- One declaration after another: side by side, their threads' stacks pass the memory limit of a check.
set_option Elab.async false

namespace Sys2Proof.Machine

/-- The fields of State, in order, as the bits of a mask: 0 pending, 1 now, 2 free, 3 regs, 4 latches, 5 stages, 6 msix, 7 out, 8 hbm, 9 hostMem, 10 rings, 11 tbs, 12 tsq, 13 rtc, 14 pwr, 15 trigs, 16 marks, 17 recorder, 18 lanes, 19 tables, 20 chans, 21 fade, 22 phs, 23 nrg, 24 acc, 25 nrgCmd, 26 pulses, 27 rxq, 28 txq, 29 segJobs, 30 prp, 31 segments, 32 t1sTaken, 33 t1sNum, 34 seats, 35 seated, 36 forms, 37 tcp, 38 links, 39 classrooms, 40 lessons, 41 alarms, 42 slacks, 43 answers, 44 pass, 45 sched, 46 loader, 47 evtIn, 48 keys, 49 tap, 50 cacheSigner, 51 pcie, 52 modClks, 53 nrgInt, 54 ppsPin. -/

structure Within (C : Nat) (s t : State) : Prop where
  queue : t.pending = s.pending
  time : s.now ≤ t.now
  drawn : s.free ≤ t.free
  sent : s.out <:+ t.out
  canonical : s.Canonical → t.Canonical
  now : C.testBit 1 = false → t.now = s.now
  free : C.testBit 2 = false → t.free = s.free
  regs : C.testBit 3 = false → t.regs = s.regs
  latches : C.testBit 4 = false → t.latches = s.latches
  stages : C.testBit 5 = false → t.stages = s.stages
  msix : C.testBit 6 = false → t.msix = s.msix
  out : C.testBit 7 = false → t.out = s.out
  hbm : C.testBit 8 = false → t.hbm = s.hbm
  hostMem : C.testBit 9 = false → t.hostMem = s.hostMem
  rings : C.testBit 10 = false → t.rings = s.rings
  tbs : C.testBit 11 = false → t.tbs = s.tbs
  tsq : C.testBit 12 = false → t.tsq = s.tsq
  rtc : C.testBit 13 = false → t.rtc = s.rtc
  pwr : C.testBit 14 = false → t.pwr = s.pwr
  trigs : C.testBit 15 = false → t.trigs = s.trigs
  marks : C.testBit 16 = false → t.marks = s.marks
  recorder : C.testBit 17 = false → t.recorder = s.recorder
  lanes : C.testBit 18 = false → t.lanes = s.lanes
  tables : C.testBit 19 = false → t.tables = s.tables
  chans : C.testBit 20 = false → t.chans = s.chans
  fade : C.testBit 21 = false → t.fade = s.fade
  phs : C.testBit 22 = false → t.phs = s.phs
  nrg : C.testBit 23 = false → t.nrg = s.nrg
  acc : C.testBit 24 = false → t.acc = s.acc
  nrgCmd : C.testBit 25 = false → t.nrgCmd = s.nrgCmd
  pulses : C.testBit 26 = false → t.pulses = s.pulses
  rxq : C.testBit 27 = false → t.rxq = s.rxq
  txq : C.testBit 28 = false → t.txq = s.txq
  segJobs : C.testBit 29 = false → t.segJobs = s.segJobs
  prp : C.testBit 30 = false → t.prp = s.prp
  segments : C.testBit 31 = false → t.segments = s.segments
  t1sTaken : C.testBit 32 = false → t.t1sTaken = s.t1sTaken
  t1sNum : C.testBit 33 = false → t.t1sNum = s.t1sNum
  seats : C.testBit 34 = false → t.seats = s.seats
  seated : C.testBit 35 = false → t.seated = s.seated
  forms : C.testBit 36 = false → t.forms = s.forms
  tcp : C.testBit 37 = false → t.tcp = s.tcp
  links : C.testBit 38 = false → t.links = s.links
  classrooms : C.testBit 39 = false → t.classrooms = s.classrooms
  lessons : C.testBit 40 = false → t.lessons = s.lessons
  alarms : C.testBit 41 = false → t.alarms = s.alarms
  slacks : C.testBit 42 = false → t.slacks = s.slacks
  answers : C.testBit 43 = false → t.answers = s.answers
  pass : C.testBit 44 = false → t.pass = s.pass
  sched : C.testBit 45 = false → t.sched = s.sched
  loader : C.testBit 46 = false → t.loader = s.loader
  evtIn : C.testBit 47 = false → t.evtIn = s.evtIn
  keys : C.testBit 48 = false → t.keys = s.keys
  tap : C.testBit 49 = false → t.tap = s.tap
  cacheSigner : C.testBit 50 = false → t.cacheSigner = s.cacheSigner
  pcie : C.testBit 51 = false → t.pcie = s.pcie
  modClks : C.testBit 52 = false → t.modClks = s.modClks
  nrgInt : C.testBit 53 = false → t.nrgInt = s.nrgInt
  ppsPin : C.testBit 54 = false → t.ppsPin = s.ppsPin

theorem Within.refl {C : Nat} (s : State) : Within C s s :=
  ⟨rfl, Nat.le_refl _, Nat.le_refl _, List.suffix_refl _, id,
   fun _ => rfl, fun _ => rfl, fun _ => rfl, fun _ => rfl, fun _ => rfl, fun _ => rfl, fun _ => rfl, fun _ => rfl, fun _ => rfl, fun _ => rfl, fun _ => rfl, fun _ => rfl, fun _ => rfl, fun _ => rfl, fun _ => rfl, fun _ => rfl, fun _ => rfl, fun _ => rfl, fun _ => rfl, fun _ => rfl, fun _ => rfl, fun _ => rfl, fun _ => rfl, fun _ => rfl, fun _ => rfl, fun _ => rfl, fun _ => rfl, fun _ => rfl, fun _ => rfl, fun _ => rfl, fun _ => rfl, fun _ => rfl, fun _ => rfl, fun _ => rfl, fun _ => rfl, fun _ => rfl, fun _ => rfl, fun _ => rfl, fun _ => rfl, fun _ => rfl, fun _ => rfl, fun _ => rfl, fun _ => rfl, fun _ => rfl, fun _ => rfl, fun _ => rfl, fun _ => rfl, fun _ => rfl, fun _ => rfl, fun _ => rfl, fun _ => rfl, fun _ => rfl, fun _ => rfl, fun _ => rfl⟩

theorem Within.trans {C : Nat} {s t u : State} (h : Within C s t) (k : Within C t u) : Within C s u :=
  ⟨k.queue.trans h.queue, Nat.le_trans h.time k.time, Nat.le_trans h.drawn k.drawn, h.sent.trans k.sent,
   fun c => k.canonical (h.canonical c),
   fun b => (k.now b).trans (h.now b),
   fun b => (k.free b).trans (h.free b),
   fun b => (k.regs b).trans (h.regs b),
   fun b => (k.latches b).trans (h.latches b),
   fun b => (k.stages b).trans (h.stages b),
   fun b => (k.msix b).trans (h.msix b),
   fun b => (k.out b).trans (h.out b),
   fun b => (k.hbm b).trans (h.hbm b),
   fun b => (k.hostMem b).trans (h.hostMem b),
   fun b => (k.rings b).trans (h.rings b),
   fun b => (k.tbs b).trans (h.tbs b),
   fun b => (k.tsq b).trans (h.tsq b),
   fun b => (k.rtc b).trans (h.rtc b),
   fun b => (k.pwr b).trans (h.pwr b),
   fun b => (k.trigs b).trans (h.trigs b),
   fun b => (k.marks b).trans (h.marks b),
   fun b => (k.recorder b).trans (h.recorder b),
   fun b => (k.lanes b).trans (h.lanes b),
   fun b => (k.tables b).trans (h.tables b),
   fun b => (k.chans b).trans (h.chans b),
   fun b => (k.fade b).trans (h.fade b),
   fun b => (k.phs b).trans (h.phs b),
   fun b => (k.nrg b).trans (h.nrg b),
   fun b => (k.acc b).trans (h.acc b),
   fun b => (k.nrgCmd b).trans (h.nrgCmd b),
   fun b => (k.pulses b).trans (h.pulses b),
   fun b => (k.rxq b).trans (h.rxq b),
   fun b => (k.txq b).trans (h.txq b),
   fun b => (k.segJobs b).trans (h.segJobs b),
   fun b => (k.prp b).trans (h.prp b),
   fun b => (k.segments b).trans (h.segments b),
   fun b => (k.t1sTaken b).trans (h.t1sTaken b),
   fun b => (k.t1sNum b).trans (h.t1sNum b),
   fun b => (k.seats b).trans (h.seats b),
   fun b => (k.seated b).trans (h.seated b),
   fun b => (k.forms b).trans (h.forms b),
   fun b => (k.tcp b).trans (h.tcp b),
   fun b => (k.links b).trans (h.links b),
   fun b => (k.classrooms b).trans (h.classrooms b),
   fun b => (k.lessons b).trans (h.lessons b),
   fun b => (k.alarms b).trans (h.alarms b),
   fun b => (k.slacks b).trans (h.slacks b),
   fun b => (k.answers b).trans (h.answers b),
   fun b => (k.pass b).trans (h.pass b),
   fun b => (k.sched b).trans (h.sched b),
   fun b => (k.loader b).trans (h.loader b),
   fun b => (k.evtIn b).trans (h.evtIn b),
   fun b => (k.keys b).trans (h.keys b),
   fun b => (k.tap b).trans (h.tap b),
   fun b => (k.cacheSigner b).trans (h.cacheSigner b),
   fun b => (k.pcie b).trans (h.pcie b),
   fun b => (k.modClks b).trans (h.modClks b),
   fun b => (k.nrgInt b).trans (h.nrgInt b),
   fun b => (k.ppsPin b).trans (h.ppsPin b)⟩

theorem Within.bit_of_le {C D i : Nat} (h : D ||| C = C) (hc : C.testBit i = false) : D.testBit i = false := by
  have := congrArg (fun n => n.testBit i) h
  simp only [Nat.testBit_or, hc, Bool.or_false] at this
  exact this

theorem Within.mono {C D : Nat} {s t : State} (h : Within D s t) (hd : D ||| C = C) : Within C s t :=
  ⟨h.queue, h.time, h.drawn, h.sent, h.canonical,
   fun b => h.now (Within.bit_of_le hd b),
   fun b => h.free (Within.bit_of_le hd b),
   fun b => h.regs (Within.bit_of_le hd b),
   fun b => h.latches (Within.bit_of_le hd b),
   fun b => h.stages (Within.bit_of_le hd b),
   fun b => h.msix (Within.bit_of_le hd b),
   fun b => h.out (Within.bit_of_le hd b),
   fun b => h.hbm (Within.bit_of_le hd b),
   fun b => h.hostMem (Within.bit_of_le hd b),
   fun b => h.rings (Within.bit_of_le hd b),
   fun b => h.tbs (Within.bit_of_le hd b),
   fun b => h.tsq (Within.bit_of_le hd b),
   fun b => h.rtc (Within.bit_of_le hd b),
   fun b => h.pwr (Within.bit_of_le hd b),
   fun b => h.trigs (Within.bit_of_le hd b),
   fun b => h.marks (Within.bit_of_le hd b),
   fun b => h.recorder (Within.bit_of_le hd b),
   fun b => h.lanes (Within.bit_of_le hd b),
   fun b => h.tables (Within.bit_of_le hd b),
   fun b => h.chans (Within.bit_of_le hd b),
   fun b => h.fade (Within.bit_of_le hd b),
   fun b => h.phs (Within.bit_of_le hd b),
   fun b => h.nrg (Within.bit_of_le hd b),
   fun b => h.acc (Within.bit_of_le hd b),
   fun b => h.nrgCmd (Within.bit_of_le hd b),
   fun b => h.pulses (Within.bit_of_le hd b),
   fun b => h.rxq (Within.bit_of_le hd b),
   fun b => h.txq (Within.bit_of_le hd b),
   fun b => h.segJobs (Within.bit_of_le hd b),
   fun b => h.prp (Within.bit_of_le hd b),
   fun b => h.segments (Within.bit_of_le hd b),
   fun b => h.t1sTaken (Within.bit_of_le hd b),
   fun b => h.t1sNum (Within.bit_of_le hd b),
   fun b => h.seats (Within.bit_of_le hd b),
   fun b => h.seated (Within.bit_of_le hd b),
   fun b => h.forms (Within.bit_of_le hd b),
   fun b => h.tcp (Within.bit_of_le hd b),
   fun b => h.links (Within.bit_of_le hd b),
   fun b => h.classrooms (Within.bit_of_le hd b),
   fun b => h.lessons (Within.bit_of_le hd b),
   fun b => h.alarms (Within.bit_of_le hd b),
   fun b => h.slacks (Within.bit_of_le hd b),
   fun b => h.answers (Within.bit_of_le hd b),
   fun b => h.pass (Within.bit_of_le hd b),
   fun b => h.sched (Within.bit_of_le hd b),
   fun b => h.loader (Within.bit_of_le hd b),
   fun b => h.evtIn (Within.bit_of_le hd b),
   fun b => h.keys (Within.bit_of_le hd b),
   fun b => h.tap (Within.bit_of_le hd b),
   fun b => h.cacheSigner (Within.bit_of_le hd b),
   fun b => h.pcie (Within.bit_of_le hd b),
   fun b => h.modClks (Within.bit_of_le hd b),
   fun b => h.nrgInt (Within.bit_of_le hd b),
   fun b => h.ppsPin (Within.bit_of_le hd b)⟩

/-- An operation after others. -/
theorem Within.after {C D : Nat} {s x y : State} (hg : Within D x y) (hd : D ||| C = C) (h : Within C s x) : Within C s y :=
  h.trans (hg.mono hd)

/-- The fold of operations over a list. -/
theorem Within.foldl {C : Nat} {α : Type} {s x : State} {f : State → α → State} {l : List α}
    (hf : ∀ y a, Within C s y → Within C s (f y a)) (h : Within C s x) : Within C s (l.foldl f x) := by
  induction l generalizing x with
  | nil => exact h
  | cons a l ih => exact ih (hf x a h)

/-- The fold of operations that carry a value beside the state. -/
theorem Within.foldl_fst {C : Nat} {α β : Type} {s : State} {x : State × β} {f : State × β → α → State × β} {l : List α}
    (hf : ∀ y a, Within C s y.1 → Within C s (f y a).1) (h : Within C s x.1) : Within C s (l.foldl f x).1 := by
  induction l generalizing x with
  | nil => exact h
  | cons a l ih => exact ih (hf x a h)

theorem Within.foldl_snd {C : Nat} {α β : Type} {s : State} {x : β × State} {f : β × State → α → β × State} {l : List α}
    (hf : ∀ y a, Within C s y.2 → Within C s (f y a).2) (h : Within C s x.2) : Within C s (l.foldl f x).2 := by
  induction l generalizing x with
  | nil => exact h
  | cons a l ih => exact ih (hf x a h)

/-- A state written out from another, field by field. -/
theorem Within.upd {C : Nat} {s x : State}
    {now_} {free_} {regs_} {latches_} {stages_} {msix_} {out_} {hbm_} {hostMem_} {rings_} {tbs_} {tsq_} {rtc_} {pwr_} {trigs_} {marks_} {recorder_} {lanes_} {tables_} {chans_} {fade_} {phs_} {nrg_} {acc_} {nrgCmd_} {pulses_} {rxq_} {txq_} {segJobs_} {prp_} {segments_} {t1sTaken_} {t1sNum_} {seats_} {seated_} {forms_} {tcp_} {links_} {classrooms_} {lessons_} {alarms_} {slacks_} {answers_} {pass_} {sched_} {loader_} {evtIn_} {keys_} {tap_} {cacheSigner_} {pcie_} {modClks_} {nrgInt_} {ppsPin_}
    (h : Within C s x) (time : x.now ≤ now_) (drawn : x.free ≤ free_) (sent : x.out <:+ out_)
    (cregs : Tab.wf regReset x.regs = true → Tab.wf regReset regs_ = true)
    (cstages : Tab.wf regReset x.stages = true → Tab.wf regReset stages_ = true)
    (clatches : Tab.wf (fun _ => 0) x.latches = true → Tab.wf (fun _ => 0) latches_ = true)
    (ctables : Tab.wf (fun _ => 0) x.tables = true → Tab.wf (fun _ => 0) tables_ = true)
    (chbm : Memory.wf x.hbm = true → Memory.wf hbm_ = true)
    (chost : Memory.wf x.hostMem = true → Memory.wf hostMem_ = true)
    (b1 : C.testBit 1 = false → now_ = x.now)
    (b2 : C.testBit 2 = false → free_ = x.free)
    (b3 : C.testBit 3 = false → regs_ = x.regs)
    (b4 : C.testBit 4 = false → latches_ = x.latches)
    (b5 : C.testBit 5 = false → stages_ = x.stages)
    (b6 : C.testBit 6 = false → msix_ = x.msix)
    (b7 : C.testBit 7 = false → out_ = x.out)
    (b8 : C.testBit 8 = false → hbm_ = x.hbm)
    (b9 : C.testBit 9 = false → hostMem_ = x.hostMem)
    (b10 : C.testBit 10 = false → rings_ = x.rings)
    (b11 : C.testBit 11 = false → tbs_ = x.tbs)
    (b12 : C.testBit 12 = false → tsq_ = x.tsq)
    (b13 : C.testBit 13 = false → rtc_ = x.rtc)
    (b14 : C.testBit 14 = false → pwr_ = x.pwr)
    (b15 : C.testBit 15 = false → trigs_ = x.trigs)
    (b16 : C.testBit 16 = false → marks_ = x.marks)
    (b17 : C.testBit 17 = false → recorder_ = x.recorder)
    (b18 : C.testBit 18 = false → lanes_ = x.lanes)
    (b19 : C.testBit 19 = false → tables_ = x.tables)
    (b20 : C.testBit 20 = false → chans_ = x.chans)
    (b21 : C.testBit 21 = false → fade_ = x.fade)
    (b22 : C.testBit 22 = false → phs_ = x.phs)
    (b23 : C.testBit 23 = false → nrg_ = x.nrg)
    (b24 : C.testBit 24 = false → acc_ = x.acc)
    (b25 : C.testBit 25 = false → nrgCmd_ = x.nrgCmd)
    (b26 : C.testBit 26 = false → pulses_ = x.pulses)
    (b27 : C.testBit 27 = false → rxq_ = x.rxq)
    (b28 : C.testBit 28 = false → txq_ = x.txq)
    (b29 : C.testBit 29 = false → segJobs_ = x.segJobs)
    (b30 : C.testBit 30 = false → prp_ = x.prp)
    (b31 : C.testBit 31 = false → segments_ = x.segments)
    (b32 : C.testBit 32 = false → t1sTaken_ = x.t1sTaken)
    (b33 : C.testBit 33 = false → t1sNum_ = x.t1sNum)
    (b34 : C.testBit 34 = false → seats_ = x.seats)
    (b35 : C.testBit 35 = false → seated_ = x.seated)
    (b36 : C.testBit 36 = false → forms_ = x.forms)
    (b37 : C.testBit 37 = false → tcp_ = x.tcp)
    (b38 : C.testBit 38 = false → links_ = x.links)
    (b39 : C.testBit 39 = false → classrooms_ = x.classrooms)
    (b40 : C.testBit 40 = false → lessons_ = x.lessons)
    (b41 : C.testBit 41 = false → alarms_ = x.alarms)
    (b42 : C.testBit 42 = false → slacks_ = x.slacks)
    (b43 : C.testBit 43 = false → answers_ = x.answers)
    (b44 : C.testBit 44 = false → pass_ = x.pass)
    (b45 : C.testBit 45 = false → sched_ = x.sched)
    (b46 : C.testBit 46 = false → loader_ = x.loader)
    (b47 : C.testBit 47 = false → evtIn_ = x.evtIn)
    (b48 : C.testBit 48 = false → keys_ = x.keys)
    (b49 : C.testBit 49 = false → tap_ = x.tap)
    (b50 : C.testBit 50 = false → cacheSigner_ = x.cacheSigner)
    (b51 : C.testBit 51 = false → pcie_ = x.pcie)
    (b52 : C.testBit 52 = false → modClks_ = x.modClks)
    (b53 : C.testBit 53 = false → nrgInt_ = x.nrgInt)
    (b54 : C.testBit 54 = false → ppsPin_ = x.ppsPin) :
    Within C s ⟨x.pending, now_, free_, regs_, latches_, stages_, msix_, out_, hbm_, hostMem_, rings_, tbs_, tsq_, rtc_, pwr_, trigs_, marks_, recorder_, lanes_, tables_, chans_, fade_, phs_, nrg_, acc_, nrgCmd_, pulses_, rxq_, txq_, segJobs_, prp_, segments_, t1sTaken_, t1sNum_, seats_, seated_, forms_, tcp_, links_, classrooms_, lessons_, alarms_, slacks_, answers_, pass_, sched_, loader_, evtIn_, keys_, tap_, cacheSigner_, pcie_, modClks_, nrgInt_, ppsPin_⟩ :=
  h.trans ⟨rfl, time, drawn, sent, fun c => ⟨cregs c.regs, cstages c.stages, clatches c.latches, ctables c.tables, chbm c.hbm, chost c.hostMem⟩, b1, b2, b3, b4, b5, b6, b7, b8, b9, b10, b11, b12, b13, b14, b15, b16, b17, b18, b19, b20, b21, b22, b23, b24, b25, b26, b27, b28, b29, b30, b31, b32, b33, b34, b35, b36, b37, b38, b39, b40, b41, b42, b43, b44, b45, b46, b47, b48, b49, b50, b51, b52, b53, b54⟩

theorem Within.pair_fst {C : Nat} {β : Type} {s x : State} {b : β} (h : Within C s x) : Within C s (x, b).1 := h
theorem Within.pair_snd {C : Nat} {β : Type} {s x : State} {b : β} (h : Within C s x) : Within C s (b, x).2 := h

end Sys2Proof.Machine
end

