-- ==== Sys2Proof/Laws/Frame.lean ====
section
/-! SUPPORT. A bound on the changed fields of State, said as an equation between the states. -/

namespace Sys2Proof.Machine

variable {s t : State}

/-- Only the register file. -/
theorem Within.onlyRegs (h : Within 0x8 s t) : OnlyRegs s t := by
  cases s
  cases t
  simp only [OnlyRegs, State.mk.injEq]
  exact ⟨h.queue, h.now rfl, h.free rfl, trivial, h.latches rfl, h.stages rfl, h.msix rfl, h.out rfl, h.hbm rfl, h.hostMem
    rfl, h.rings rfl, h.tbs rfl, h.tsq rfl, h.rtc rfl, h.pwr rfl, h.trigs rfl, h.marks rfl, h.recorder rfl, h.lanes rfl,
    h.tables rfl, h.chans rfl, h.fade rfl, h.phs rfl, h.nrg rfl, h.acc rfl, h.nrgCmd rfl, h.pulses rfl, h.rxq rfl, h.txq
    rfl, h.segJobs rfl, h.prp rfl, h.segments rfl, h.t1sTaken rfl, h.t1sNum rfl, h.seats rfl, h.seated rfl, h.forms rfl,
    h.tcp rfl, h.links rfl, h.classrooms rfl, h.lessons rfl, h.alarms rfl, h.slacks rfl, h.answers rfl, h.pass rfl, h.sched
    rfl, h.loader rfl, h.evtIn rfl, h.keys rfl, h.tap rfl, h.cacheSigner rfl, h.pcie rfl, h.modClks rfl, h.nrgInt rfl,
    h.ppsPin rfl⟩

/-- The registers and what raising events uses. -/
theorem Within.onlyRegsAndEvents (h : Within 0x1C6C8 s t) : OnlyRegsAndEvents s t := by
  cases s
  cases t
  simp only [OnlyRegsAndEvents, State.mk.injEq]
  exact ⟨h.queue, h.now rfl, h.free rfl, trivial, h.latches rfl, h.stages rfl, trivial, trivial, h.hbm rfl, trivial,
    trivial, h.tbs rfl, h.tsq rfl, h.rtc rfl, trivial, trivial, trivial, h.recorder rfl, h.lanes rfl, h.tables rfl, h.chans
    rfl, h.fade rfl, h.phs rfl, h.nrg rfl, h.acc rfl, h.nrgCmd rfl, h.pulses rfl, h.rxq rfl, h.txq rfl, h.segJobs rfl, h.prp
    rfl, h.segments rfl, h.t1sTaken rfl, h.t1sNum rfl, h.seats rfl, h.seated rfl, h.forms rfl, h.tcp rfl, h.links rfl,
    h.classrooms rfl, h.lessons rfl, h.alarms rfl, h.slacks rfl, h.answers rfl, h.pass rfl, h.sched rfl, h.loader rfl,
    h.evtIn rfl, h.keys rfl, h.tap rfl, h.cacheSigner rfl, h.pcie rfl, h.modClks rfl, h.nrgInt rfl, h.ppsPin rfl⟩

end Sys2Proof.Machine
end

