-- ==== Sys2Proof/Laws/State.lean ====
section
/-! SUPPORT. What each field of State and each register, stage, latch, table word and octet reads after each of the setters. -/

namespace Sys2Proof.Machine

variable {s : State}

/-! ### The register file -/

/-- A register reads what was written to it, and every other register as before. -/
theorem reg_setReg {o p : Nat} {w : Word} : (s.setReg o w).reg p = if p = o then w else s.reg p := Tab.get_put

@[simp] theorem reg_setReg_self {o : Nat} {w : Word} : (s.setReg o w).reg o = w := Tab.get_put_self

theorem reg_setReg_ne {o p : Nat} {w : Word} (h : p ≠ o) : (s.setReg o w).reg p = s.reg p := Tab.get_put_ne h

theorem reg_setRf {o p lo n v : Nat} : (s.setRf o lo n v).reg p = if p = o then setFld (s.reg o) lo n v else s.reg p := reg_setReg

theorem reg_setRb {o p i : Nat} {b : Bool} : (s.setRb o i b).reg p = if p = o then setBit (s.reg o) i b else s.reg p := reg_setReg

theorem reg_bump {o p : Nat} : (s.bump o).reg p = if p = o then satWord (s.reg o) 1 else s.reg p := reg_setReg

theorem reg_bumpBy {o p n : Nat} : (s.bumpBy o n).reg p = if p = o then satWord (s.reg o) n else s.reg p := reg_setReg

theorem reg_bumpWrap {o p : Nat} : (s.bumpWrap o).reg p = if p = o then s.reg o + 1 else s.reg p := reg_setReg

/-- A range of registers at its Reset values. -/
theorem reg_resetRegs {lo hi p : Nat} :
    (s.resetRegs lo hi).reg p = if lo ≤ p ∧ p < hi then regReset p else s.reg p := Tab.get_clear

theorem rb_setRb_self {o i : Nat} {b : Bool} (h : i < 32) : (s.setRb o i b).rb o i = b := by
  simp [State.rb, State.setRb, h]

theorem rb_setRb_other {o p i j : Nat} {b : Bool} (h : p ≠ o) : (s.setRb o i b).rb p j = s.rb p j := by
  simp [State.rb, reg_setRb, h]

theorem rf_setRf_self {o lo n v : Nat} (h : lo + n ≤ 32) : (s.setRf o lo n v).rf o lo n = v % 2 ^ n := by
  simp [State.rf, State.setRf, h]

theorem rf_setRf_other {o p lo n v a m : Nat} (h : p ≠ o) : (s.setRf o lo n v).rf p a m = s.rf p a m := by
  simp [State.rf, reg_setRf, h]

/-! ### Stages, latches, table words, memories -/

theorem stageOf_setStage {o p : Nat} {w : Word} : (s.setStage o w).stageOf p = if p = o then w else s.stageOf p := Tab.get_put

theorem latchOf_setLatch {o p : Nat} {w : Word} : (s.setLatch o w).latchOf p = if p = o then w else s.latchOf p := Tab.get_put

theorem tw_setTw {o p : Nat} {w : Word} : (s.setTw o w).tw p = if p = o then w else s.tw p := Tab.get_put

theorem tb_setTb {n m : Nat} {x : TimeBase} : (s.setTb n x).tb m = if m = n then x else s.tb m := Tab.get_put

theorem ringX_setRingX {r q : Nat} {x : RingX} : (s.setRingX r x).ringX q = if q = r then x else s.ringX q := Tab.get_put

/-- An octet of HBM3 after a write: the written one within the octets stored, every other as before. -/
theorem hbm_hbmWrite {a b : Nat} {bs : List Byte} :
    Tab.get blank (s.hbmWrite a bs).hbm b = if a ≤ b then (bs[b - a]?).getD (Tab.get blank s.hbm b) else Tab.get blank s.hbm b :=
  Tab.get_putList

/-- An octet of host memory after a write. -/
theorem hostMem_hostWrite {a b : Nat} {bs : List Byte} (h : s.boundary = false) :
    Tab.get blank (s.hostWrite a bs).hostMem b =
      if a ≤ b then (bs[b - a]?).getD (Tab.get blank s.hostMem b) else Tab.get blank s.hostMem b := by
  simp only [State.hostWrite, h]
  exact Tab.get_putList

/-- Under a boundary instruction a write reaches no host memory. -/
theorem hostWrite_boundary {a : Nat} {bs : List Byte} (h : s.boundary = true) : s.hostWrite a bs = s := by
  simp [State.hostWrite, h]

/-! ### What each setter leaves alone -/

@[simp] theorem setReg_pending (o : Nat) (w : Word) : (s.setReg o w).pending = s.pending := rfl
@[simp] theorem setReg_now (o : Nat) (w : Word) : (s.setReg o w).now = s.now := rfl
@[simp] theorem setReg_free (o : Nat) (w : Word) : (s.setReg o w).free = s.free := rfl
@[simp] theorem setReg_latches (o : Nat) (w : Word) : (s.setReg o w).latches = s.latches := rfl
@[simp] theorem setReg_stages (o : Nat) (w : Word) : (s.setReg o w).stages = s.stages := rfl
@[simp] theorem setReg_msix (o : Nat) (w : Word) : (s.setReg o w).msix = s.msix := rfl
@[simp] theorem setReg_out (o : Nat) (w : Word) : (s.setReg o w).out = s.out := rfl
@[simp] theorem setReg_hbm (o : Nat) (w : Word) : (s.setReg o w).hbm = s.hbm := rfl
@[simp] theorem setReg_hostMem (o : Nat) (w : Word) : (s.setReg o w).hostMem = s.hostMem := rfl
@[simp] theorem setReg_rings (o : Nat) (w : Word) : (s.setReg o w).rings = s.rings := rfl
@[simp] theorem setReg_tbs (o : Nat) (w : Word) : (s.setReg o w).tbs = s.tbs := rfl
@[simp] theorem setReg_tsq (o : Nat) (w : Word) : (s.setReg o w).tsq = s.tsq := rfl
@[simp] theorem setReg_rtc (o : Nat) (w : Word) : (s.setReg o w).rtc = s.rtc := rfl
@[simp] theorem setReg_pwr (o : Nat) (w : Word) : (s.setReg o w).pwr = s.pwr := rfl
@[simp] theorem setReg_trigs (o : Nat) (w : Word) : (s.setReg o w).trigs = s.trigs := rfl
@[simp] theorem setReg_marks (o : Nat) (w : Word) : (s.setReg o w).marks = s.marks := rfl
@[simp] theorem setReg_recorder (o : Nat) (w : Word) : (s.setReg o w).recorder = s.recorder := rfl
@[simp] theorem setReg_lanes (o : Nat) (w : Word) : (s.setReg o w).lanes = s.lanes := rfl
@[simp] theorem setReg_tables (o : Nat) (w : Word) : (s.setReg o w).tables = s.tables := rfl
@[simp] theorem setReg_chans (o : Nat) (w : Word) : (s.setReg o w).chans = s.chans := rfl
@[simp] theorem setReg_fade (o : Nat) (w : Word) : (s.setReg o w).fade = s.fade := rfl
@[simp] theorem setReg_phs (o : Nat) (w : Word) : (s.setReg o w).phs = s.phs := rfl
@[simp] theorem setReg_nrg (o : Nat) (w : Word) : (s.setReg o w).nrg = s.nrg := rfl
@[simp] theorem setReg_acc (o : Nat) (w : Word) : (s.setReg o w).acc = s.acc := rfl
@[simp] theorem setReg_nrgCmd (o : Nat) (w : Word) : (s.setReg o w).nrgCmd = s.nrgCmd := rfl
@[simp] theorem setReg_pulses (o : Nat) (w : Word) : (s.setReg o w).pulses = s.pulses := rfl
@[simp] theorem setReg_rxq (o : Nat) (w : Word) : (s.setReg o w).rxq = s.rxq := rfl
@[simp] theorem setReg_txq (o : Nat) (w : Word) : (s.setReg o w).txq = s.txq := rfl
@[simp] theorem setReg_segJobs (o : Nat) (w : Word) : (s.setReg o w).segJobs = s.segJobs := rfl
@[simp] theorem setReg_prp (o : Nat) (w : Word) : (s.setReg o w).prp = s.prp := rfl
@[simp] theorem setReg_segments (o : Nat) (w : Word) : (s.setReg o w).segments = s.segments := rfl
@[simp] theorem setReg_t1sTaken (o : Nat) (w : Word) : (s.setReg o w).t1sTaken = s.t1sTaken := rfl
@[simp] theorem setReg_t1sNum (o : Nat) (w : Word) : (s.setReg o w).t1sNum = s.t1sNum := rfl
@[simp] theorem setReg_seats (o : Nat) (w : Word) : (s.setReg o w).seats = s.seats := rfl
@[simp] theorem setReg_seated (o : Nat) (w : Word) : (s.setReg o w).seated = s.seated := rfl
@[simp] theorem setReg_forms (o : Nat) (w : Word) : (s.setReg o w).forms = s.forms := rfl
@[simp] theorem setReg_tcp (o : Nat) (w : Word) : (s.setReg o w).tcp = s.tcp := rfl
@[simp] theorem setReg_links (o : Nat) (w : Word) : (s.setReg o w).links = s.links := rfl
@[simp] theorem setReg_classrooms (o : Nat) (w : Word) : (s.setReg o w).classrooms = s.classrooms := rfl
@[simp] theorem setReg_lessons (o : Nat) (w : Word) : (s.setReg o w).lessons = s.lessons := rfl
@[simp] theorem setReg_alarms (o : Nat) (w : Word) : (s.setReg o w).alarms = s.alarms := rfl
@[simp] theorem setReg_slacks (o : Nat) (w : Word) : (s.setReg o w).slacks = s.slacks := rfl
@[simp] theorem setReg_answers (o : Nat) (w : Word) : (s.setReg o w).answers = s.answers := rfl
@[simp] theorem setReg_pass (o : Nat) (w : Word) : (s.setReg o w).pass = s.pass := rfl
@[simp] theorem setReg_sched (o : Nat) (w : Word) : (s.setReg o w).sched = s.sched := rfl
@[simp] theorem setReg_loader (o : Nat) (w : Word) : (s.setReg o w).loader = s.loader := rfl
@[simp] theorem setReg_evtIn (o : Nat) (w : Word) : (s.setReg o w).evtIn = s.evtIn := rfl
@[simp] theorem setReg_keys (o : Nat) (w : Word) : (s.setReg o w).keys = s.keys := rfl
@[simp] theorem setReg_tap (o : Nat) (w : Word) : (s.setReg o w).tap = s.tap := rfl
@[simp] theorem setReg_cacheSigner (o : Nat) (w : Word) : (s.setReg o w).cacheSigner = s.cacheSigner := rfl
@[simp] theorem setReg_pcie (o : Nat) (w : Word) : (s.setReg o w).pcie = s.pcie := rfl
@[simp] theorem setReg_modClks (o : Nat) (w : Word) : (s.setReg o w).modClks = s.modClks := rfl
@[simp] theorem setReg_nrgInt (o : Nat) (w : Word) : (s.setReg o w).nrgInt = s.nrgInt := rfl
@[simp] theorem setReg_ppsPin (o : Nat) (w : Word) : (s.setReg o w).ppsPin = s.ppsPin := rfl

@[simp] theorem setStage_pending (o : Nat) (w : Word) : (s.setStage o w).pending = s.pending := rfl
@[simp] theorem setStage_now (o : Nat) (w : Word) : (s.setStage o w).now = s.now := rfl
@[simp] theorem setStage_free (o : Nat) (w : Word) : (s.setStage o w).free = s.free := rfl
@[simp] theorem setStage_regs (o : Nat) (w : Word) : (s.setStage o w).regs = s.regs := rfl
@[simp] theorem setStage_latches (o : Nat) (w : Word) : (s.setStage o w).latches = s.latches := rfl
@[simp] theorem setStage_msix (o : Nat) (w : Word) : (s.setStage o w).msix = s.msix := rfl
@[simp] theorem setStage_out (o : Nat) (w : Word) : (s.setStage o w).out = s.out := rfl
@[simp] theorem setStage_hbm (o : Nat) (w : Word) : (s.setStage o w).hbm = s.hbm := rfl
@[simp] theorem setStage_hostMem (o : Nat) (w : Word) : (s.setStage o w).hostMem = s.hostMem := rfl
@[simp] theorem setStage_rings (o : Nat) (w : Word) : (s.setStage o w).rings = s.rings := rfl
@[simp] theorem setStage_tbs (o : Nat) (w : Word) : (s.setStage o w).tbs = s.tbs := rfl
@[simp] theorem setStage_tsq (o : Nat) (w : Word) : (s.setStage o w).tsq = s.tsq := rfl
@[simp] theorem setStage_rtc (o : Nat) (w : Word) : (s.setStage o w).rtc = s.rtc := rfl
@[simp] theorem setStage_pwr (o : Nat) (w : Word) : (s.setStage o w).pwr = s.pwr := rfl
@[simp] theorem setStage_trigs (o : Nat) (w : Word) : (s.setStage o w).trigs = s.trigs := rfl
@[simp] theorem setStage_marks (o : Nat) (w : Word) : (s.setStage o w).marks = s.marks := rfl
@[simp] theorem setStage_recorder (o : Nat) (w : Word) : (s.setStage o w).recorder = s.recorder := rfl
@[simp] theorem setStage_lanes (o : Nat) (w : Word) : (s.setStage o w).lanes = s.lanes := rfl
@[simp] theorem setStage_tables (o : Nat) (w : Word) : (s.setStage o w).tables = s.tables := rfl
@[simp] theorem setStage_chans (o : Nat) (w : Word) : (s.setStage o w).chans = s.chans := rfl
@[simp] theorem setStage_fade (o : Nat) (w : Word) : (s.setStage o w).fade = s.fade := rfl
@[simp] theorem setStage_phs (o : Nat) (w : Word) : (s.setStage o w).phs = s.phs := rfl
@[simp] theorem setStage_nrg (o : Nat) (w : Word) : (s.setStage o w).nrg = s.nrg := rfl
@[simp] theorem setStage_acc (o : Nat) (w : Word) : (s.setStage o w).acc = s.acc := rfl
@[simp] theorem setStage_nrgCmd (o : Nat) (w : Word) : (s.setStage o w).nrgCmd = s.nrgCmd := rfl
@[simp] theorem setStage_pulses (o : Nat) (w : Word) : (s.setStage o w).pulses = s.pulses := rfl
@[simp] theorem setStage_rxq (o : Nat) (w : Word) : (s.setStage o w).rxq = s.rxq := rfl
@[simp] theorem setStage_txq (o : Nat) (w : Word) : (s.setStage o w).txq = s.txq := rfl
@[simp] theorem setStage_segJobs (o : Nat) (w : Word) : (s.setStage o w).segJobs = s.segJobs := rfl
@[simp] theorem setStage_prp (o : Nat) (w : Word) : (s.setStage o w).prp = s.prp := rfl
@[simp] theorem setStage_segments (o : Nat) (w : Word) : (s.setStage o w).segments = s.segments := rfl
@[simp] theorem setStage_t1sTaken (o : Nat) (w : Word) : (s.setStage o w).t1sTaken = s.t1sTaken := rfl
@[simp] theorem setStage_t1sNum (o : Nat) (w : Word) : (s.setStage o w).t1sNum = s.t1sNum := rfl
@[simp] theorem setStage_seats (o : Nat) (w : Word) : (s.setStage o w).seats = s.seats := rfl
@[simp] theorem setStage_seated (o : Nat) (w : Word) : (s.setStage o w).seated = s.seated := rfl
@[simp] theorem setStage_forms (o : Nat) (w : Word) : (s.setStage o w).forms = s.forms := rfl
@[simp] theorem setStage_tcp (o : Nat) (w : Word) : (s.setStage o w).tcp = s.tcp := rfl
@[simp] theorem setStage_links (o : Nat) (w : Word) : (s.setStage o w).links = s.links := rfl
@[simp] theorem setStage_classrooms (o : Nat) (w : Word) : (s.setStage o w).classrooms = s.classrooms := rfl
@[simp] theorem setStage_lessons (o : Nat) (w : Word) : (s.setStage o w).lessons = s.lessons := rfl
@[simp] theorem setStage_alarms (o : Nat) (w : Word) : (s.setStage o w).alarms = s.alarms := rfl
@[simp] theorem setStage_slacks (o : Nat) (w : Word) : (s.setStage o w).slacks = s.slacks := rfl
@[simp] theorem setStage_answers (o : Nat) (w : Word) : (s.setStage o w).answers = s.answers := rfl
@[simp] theorem setStage_pass (o : Nat) (w : Word) : (s.setStage o w).pass = s.pass := rfl
@[simp] theorem setStage_sched (o : Nat) (w : Word) : (s.setStage o w).sched = s.sched := rfl
@[simp] theorem setStage_loader (o : Nat) (w : Word) : (s.setStage o w).loader = s.loader := rfl
@[simp] theorem setStage_evtIn (o : Nat) (w : Word) : (s.setStage o w).evtIn = s.evtIn := rfl
@[simp] theorem setStage_keys (o : Nat) (w : Word) : (s.setStage o w).keys = s.keys := rfl
@[simp] theorem setStage_tap (o : Nat) (w : Word) : (s.setStage o w).tap = s.tap := rfl
@[simp] theorem setStage_cacheSigner (o : Nat) (w : Word) : (s.setStage o w).cacheSigner = s.cacheSigner := rfl
@[simp] theorem setStage_pcie (o : Nat) (w : Word) : (s.setStage o w).pcie = s.pcie := rfl
@[simp] theorem setStage_modClks (o : Nat) (w : Word) : (s.setStage o w).modClks = s.modClks := rfl
@[simp] theorem setStage_nrgInt (o : Nat) (w : Word) : (s.setStage o w).nrgInt = s.nrgInt := rfl
@[simp] theorem setStage_ppsPin (o : Nat) (w : Word) : (s.setStage o w).ppsPin = s.ppsPin := rfl
@[simp] theorem setStage_reg (o : Nat) (w : Word) {p : Nat} : (s.setStage o w).reg p = s.reg p := rfl

@[simp] theorem setLatch_pending (o : Nat) (w : Word) : (s.setLatch o w).pending = s.pending := rfl
@[simp] theorem setLatch_now (o : Nat) (w : Word) : (s.setLatch o w).now = s.now := rfl
@[simp] theorem setLatch_free (o : Nat) (w : Word) : (s.setLatch o w).free = s.free := rfl
@[simp] theorem setLatch_regs (o : Nat) (w : Word) : (s.setLatch o w).regs = s.regs := rfl
@[simp] theorem setLatch_stages (o : Nat) (w : Word) : (s.setLatch o w).stages = s.stages := rfl
@[simp] theorem setLatch_msix (o : Nat) (w : Word) : (s.setLatch o w).msix = s.msix := rfl
@[simp] theorem setLatch_out (o : Nat) (w : Word) : (s.setLatch o w).out = s.out := rfl
@[simp] theorem setLatch_hbm (o : Nat) (w : Word) : (s.setLatch o w).hbm = s.hbm := rfl
@[simp] theorem setLatch_hostMem (o : Nat) (w : Word) : (s.setLatch o w).hostMem = s.hostMem := rfl
@[simp] theorem setLatch_rings (o : Nat) (w : Word) : (s.setLatch o w).rings = s.rings := rfl
@[simp] theorem setLatch_tbs (o : Nat) (w : Word) : (s.setLatch o w).tbs = s.tbs := rfl
@[simp] theorem setLatch_tsq (o : Nat) (w : Word) : (s.setLatch o w).tsq = s.tsq := rfl
@[simp] theorem setLatch_rtc (o : Nat) (w : Word) : (s.setLatch o w).rtc = s.rtc := rfl
@[simp] theorem setLatch_pwr (o : Nat) (w : Word) : (s.setLatch o w).pwr = s.pwr := rfl
@[simp] theorem setLatch_trigs (o : Nat) (w : Word) : (s.setLatch o w).trigs = s.trigs := rfl
@[simp] theorem setLatch_marks (o : Nat) (w : Word) : (s.setLatch o w).marks = s.marks := rfl
@[simp] theorem setLatch_recorder (o : Nat) (w : Word) : (s.setLatch o w).recorder = s.recorder := rfl
@[simp] theorem setLatch_lanes (o : Nat) (w : Word) : (s.setLatch o w).lanes = s.lanes := rfl
@[simp] theorem setLatch_tables (o : Nat) (w : Word) : (s.setLatch o w).tables = s.tables := rfl
@[simp] theorem setLatch_chans (o : Nat) (w : Word) : (s.setLatch o w).chans = s.chans := rfl
@[simp] theorem setLatch_fade (o : Nat) (w : Word) : (s.setLatch o w).fade = s.fade := rfl
@[simp] theorem setLatch_phs (o : Nat) (w : Word) : (s.setLatch o w).phs = s.phs := rfl
@[simp] theorem setLatch_nrg (o : Nat) (w : Word) : (s.setLatch o w).nrg = s.nrg := rfl
@[simp] theorem setLatch_acc (o : Nat) (w : Word) : (s.setLatch o w).acc = s.acc := rfl
@[simp] theorem setLatch_nrgCmd (o : Nat) (w : Word) : (s.setLatch o w).nrgCmd = s.nrgCmd := rfl
@[simp] theorem setLatch_pulses (o : Nat) (w : Word) : (s.setLatch o w).pulses = s.pulses := rfl
@[simp] theorem setLatch_rxq (o : Nat) (w : Word) : (s.setLatch o w).rxq = s.rxq := rfl
@[simp] theorem setLatch_txq (o : Nat) (w : Word) : (s.setLatch o w).txq = s.txq := rfl
@[simp] theorem setLatch_segJobs (o : Nat) (w : Word) : (s.setLatch o w).segJobs = s.segJobs := rfl
@[simp] theorem setLatch_prp (o : Nat) (w : Word) : (s.setLatch o w).prp = s.prp := rfl
@[simp] theorem setLatch_segments (o : Nat) (w : Word) : (s.setLatch o w).segments = s.segments := rfl
@[simp] theorem setLatch_t1sTaken (o : Nat) (w : Word) : (s.setLatch o w).t1sTaken = s.t1sTaken := rfl
@[simp] theorem setLatch_t1sNum (o : Nat) (w : Word) : (s.setLatch o w).t1sNum = s.t1sNum := rfl
@[simp] theorem setLatch_seats (o : Nat) (w : Word) : (s.setLatch o w).seats = s.seats := rfl
@[simp] theorem setLatch_seated (o : Nat) (w : Word) : (s.setLatch o w).seated = s.seated := rfl
@[simp] theorem setLatch_forms (o : Nat) (w : Word) : (s.setLatch o w).forms = s.forms := rfl
@[simp] theorem setLatch_tcp (o : Nat) (w : Word) : (s.setLatch o w).tcp = s.tcp := rfl
@[simp] theorem setLatch_links (o : Nat) (w : Word) : (s.setLatch o w).links = s.links := rfl
@[simp] theorem setLatch_classrooms (o : Nat) (w : Word) : (s.setLatch o w).classrooms = s.classrooms := rfl
@[simp] theorem setLatch_lessons (o : Nat) (w : Word) : (s.setLatch o w).lessons = s.lessons := rfl
@[simp] theorem setLatch_alarms (o : Nat) (w : Word) : (s.setLatch o w).alarms = s.alarms := rfl
@[simp] theorem setLatch_slacks (o : Nat) (w : Word) : (s.setLatch o w).slacks = s.slacks := rfl
@[simp] theorem setLatch_answers (o : Nat) (w : Word) : (s.setLatch o w).answers = s.answers := rfl
@[simp] theorem setLatch_pass (o : Nat) (w : Word) : (s.setLatch o w).pass = s.pass := rfl
@[simp] theorem setLatch_sched (o : Nat) (w : Word) : (s.setLatch o w).sched = s.sched := rfl
@[simp] theorem setLatch_loader (o : Nat) (w : Word) : (s.setLatch o w).loader = s.loader := rfl
@[simp] theorem setLatch_evtIn (o : Nat) (w : Word) : (s.setLatch o w).evtIn = s.evtIn := rfl
@[simp] theorem setLatch_keys (o : Nat) (w : Word) : (s.setLatch o w).keys = s.keys := rfl
@[simp] theorem setLatch_tap (o : Nat) (w : Word) : (s.setLatch o w).tap = s.tap := rfl
@[simp] theorem setLatch_cacheSigner (o : Nat) (w : Word) : (s.setLatch o w).cacheSigner = s.cacheSigner := rfl
@[simp] theorem setLatch_pcie (o : Nat) (w : Word) : (s.setLatch o w).pcie = s.pcie := rfl
@[simp] theorem setLatch_modClks (o : Nat) (w : Word) : (s.setLatch o w).modClks = s.modClks := rfl
@[simp] theorem setLatch_nrgInt (o : Nat) (w : Word) : (s.setLatch o w).nrgInt = s.nrgInt := rfl
@[simp] theorem setLatch_ppsPin (o : Nat) (w : Word) : (s.setLatch o w).ppsPin = s.ppsPin := rfl
@[simp] theorem setLatch_reg (o : Nat) (w : Word) {p : Nat} : (s.setLatch o w).reg p = s.reg p := rfl

@[simp] theorem setTw_pending (o : Nat) (w : Word) : (s.setTw o w).pending = s.pending := rfl
@[simp] theorem setTw_now (o : Nat) (w : Word) : (s.setTw o w).now = s.now := rfl
@[simp] theorem setTw_free (o : Nat) (w : Word) : (s.setTw o w).free = s.free := rfl
@[simp] theorem setTw_regs (o : Nat) (w : Word) : (s.setTw o w).regs = s.regs := rfl
@[simp] theorem setTw_latches (o : Nat) (w : Word) : (s.setTw o w).latches = s.latches := rfl
@[simp] theorem setTw_stages (o : Nat) (w : Word) : (s.setTw o w).stages = s.stages := rfl
@[simp] theorem setTw_msix (o : Nat) (w : Word) : (s.setTw o w).msix = s.msix := rfl
@[simp] theorem setTw_out (o : Nat) (w : Word) : (s.setTw o w).out = s.out := rfl
@[simp] theorem setTw_hbm (o : Nat) (w : Word) : (s.setTw o w).hbm = s.hbm := rfl
@[simp] theorem setTw_hostMem (o : Nat) (w : Word) : (s.setTw o w).hostMem = s.hostMem := rfl
@[simp] theorem setTw_rings (o : Nat) (w : Word) : (s.setTw o w).rings = s.rings := rfl
@[simp] theorem setTw_tbs (o : Nat) (w : Word) : (s.setTw o w).tbs = s.tbs := rfl
@[simp] theorem setTw_tsq (o : Nat) (w : Word) : (s.setTw o w).tsq = s.tsq := rfl
@[simp] theorem setTw_rtc (o : Nat) (w : Word) : (s.setTw o w).rtc = s.rtc := rfl
@[simp] theorem setTw_pwr (o : Nat) (w : Word) : (s.setTw o w).pwr = s.pwr := rfl
@[simp] theorem setTw_trigs (o : Nat) (w : Word) : (s.setTw o w).trigs = s.trigs := rfl
@[simp] theorem setTw_marks (o : Nat) (w : Word) : (s.setTw o w).marks = s.marks := rfl
@[simp] theorem setTw_recorder (o : Nat) (w : Word) : (s.setTw o w).recorder = s.recorder := rfl
@[simp] theorem setTw_lanes (o : Nat) (w : Word) : (s.setTw o w).lanes = s.lanes := rfl
@[simp] theorem setTw_chans (o : Nat) (w : Word) : (s.setTw o w).chans = s.chans := rfl
@[simp] theorem setTw_fade (o : Nat) (w : Word) : (s.setTw o w).fade = s.fade := rfl
@[simp] theorem setTw_phs (o : Nat) (w : Word) : (s.setTw o w).phs = s.phs := rfl
@[simp] theorem setTw_nrg (o : Nat) (w : Word) : (s.setTw o w).nrg = s.nrg := rfl
@[simp] theorem setTw_acc (o : Nat) (w : Word) : (s.setTw o w).acc = s.acc := rfl
@[simp] theorem setTw_nrgCmd (o : Nat) (w : Word) : (s.setTw o w).nrgCmd = s.nrgCmd := rfl
@[simp] theorem setTw_pulses (o : Nat) (w : Word) : (s.setTw o w).pulses = s.pulses := rfl
@[simp] theorem setTw_rxq (o : Nat) (w : Word) : (s.setTw o w).rxq = s.rxq := rfl
@[simp] theorem setTw_txq (o : Nat) (w : Word) : (s.setTw o w).txq = s.txq := rfl
@[simp] theorem setTw_segJobs (o : Nat) (w : Word) : (s.setTw o w).segJobs = s.segJobs := rfl
@[simp] theorem setTw_prp (o : Nat) (w : Word) : (s.setTw o w).prp = s.prp := rfl
@[simp] theorem setTw_segments (o : Nat) (w : Word) : (s.setTw o w).segments = s.segments := rfl
@[simp] theorem setTw_t1sTaken (o : Nat) (w : Word) : (s.setTw o w).t1sTaken = s.t1sTaken := rfl
@[simp] theorem setTw_t1sNum (o : Nat) (w : Word) : (s.setTw o w).t1sNum = s.t1sNum := rfl
@[simp] theorem setTw_seats (o : Nat) (w : Word) : (s.setTw o w).seats = s.seats := rfl
@[simp] theorem setTw_seated (o : Nat) (w : Word) : (s.setTw o w).seated = s.seated := rfl
@[simp] theorem setTw_forms (o : Nat) (w : Word) : (s.setTw o w).forms = s.forms := rfl
@[simp] theorem setTw_tcp (o : Nat) (w : Word) : (s.setTw o w).tcp = s.tcp := rfl
@[simp] theorem setTw_links (o : Nat) (w : Word) : (s.setTw o w).links = s.links := rfl
@[simp] theorem setTw_classrooms (o : Nat) (w : Word) : (s.setTw o w).classrooms = s.classrooms := rfl
@[simp] theorem setTw_lessons (o : Nat) (w : Word) : (s.setTw o w).lessons = s.lessons := rfl
@[simp] theorem setTw_alarms (o : Nat) (w : Word) : (s.setTw o w).alarms = s.alarms := rfl
@[simp] theorem setTw_slacks (o : Nat) (w : Word) : (s.setTw o w).slacks = s.slacks := rfl
@[simp] theorem setTw_answers (o : Nat) (w : Word) : (s.setTw o w).answers = s.answers := rfl
@[simp] theorem setTw_pass (o : Nat) (w : Word) : (s.setTw o w).pass = s.pass := rfl
@[simp] theorem setTw_sched (o : Nat) (w : Word) : (s.setTw o w).sched = s.sched := rfl
@[simp] theorem setTw_loader (o : Nat) (w : Word) : (s.setTw o w).loader = s.loader := rfl
@[simp] theorem setTw_evtIn (o : Nat) (w : Word) : (s.setTw o w).evtIn = s.evtIn := rfl
@[simp] theorem setTw_keys (o : Nat) (w : Word) : (s.setTw o w).keys = s.keys := rfl
@[simp] theorem setTw_tap (o : Nat) (w : Word) : (s.setTw o w).tap = s.tap := rfl
@[simp] theorem setTw_cacheSigner (o : Nat) (w : Word) : (s.setTw o w).cacheSigner = s.cacheSigner := rfl
@[simp] theorem setTw_pcie (o : Nat) (w : Word) : (s.setTw o w).pcie = s.pcie := rfl
@[simp] theorem setTw_modClks (o : Nat) (w : Word) : (s.setTw o w).modClks = s.modClks := rfl
@[simp] theorem setTw_nrgInt (o : Nat) (w : Word) : (s.setTw o w).nrgInt = s.nrgInt := rfl
@[simp] theorem setTw_ppsPin (o : Nat) (w : Word) : (s.setTw o w).ppsPin = s.ppsPin := rfl
@[simp] theorem setTw_reg (o : Nat) (w : Word) {p : Nat} : (s.setTw o w).reg p = s.reg p := rfl

@[simp] theorem hbmWrite_pending (a : Nat) (bs : List Byte) : (s.hbmWrite a bs).pending = s.pending := rfl
@[simp] theorem hbmWrite_now (a : Nat) (bs : List Byte) : (s.hbmWrite a bs).now = s.now := rfl
@[simp] theorem hbmWrite_free (a : Nat) (bs : List Byte) : (s.hbmWrite a bs).free = s.free := rfl
@[simp] theorem hbmWrite_regs (a : Nat) (bs : List Byte) : (s.hbmWrite a bs).regs = s.regs := rfl
@[simp] theorem hbmWrite_latches (a : Nat) (bs : List Byte) : (s.hbmWrite a bs).latches = s.latches := rfl
@[simp] theorem hbmWrite_stages (a : Nat) (bs : List Byte) : (s.hbmWrite a bs).stages = s.stages := rfl
@[simp] theorem hbmWrite_msix (a : Nat) (bs : List Byte) : (s.hbmWrite a bs).msix = s.msix := rfl
@[simp] theorem hbmWrite_out (a : Nat) (bs : List Byte) : (s.hbmWrite a bs).out = s.out := rfl
@[simp] theorem hbmWrite_hostMem (a : Nat) (bs : List Byte) : (s.hbmWrite a bs).hostMem = s.hostMem := rfl
@[simp] theorem hbmWrite_rings (a : Nat) (bs : List Byte) : (s.hbmWrite a bs).rings = s.rings := rfl
@[simp] theorem hbmWrite_tbs (a : Nat) (bs : List Byte) : (s.hbmWrite a bs).tbs = s.tbs := rfl
@[simp] theorem hbmWrite_tsq (a : Nat) (bs : List Byte) : (s.hbmWrite a bs).tsq = s.tsq := rfl
@[simp] theorem hbmWrite_rtc (a : Nat) (bs : List Byte) : (s.hbmWrite a bs).rtc = s.rtc := rfl
@[simp] theorem hbmWrite_pwr (a : Nat) (bs : List Byte) : (s.hbmWrite a bs).pwr = s.pwr := rfl
@[simp] theorem hbmWrite_trigs (a : Nat) (bs : List Byte) : (s.hbmWrite a bs).trigs = s.trigs := rfl
@[simp] theorem hbmWrite_marks (a : Nat) (bs : List Byte) : (s.hbmWrite a bs).marks = s.marks := rfl
@[simp] theorem hbmWrite_recorder (a : Nat) (bs : List Byte) : (s.hbmWrite a bs).recorder = s.recorder := rfl
@[simp] theorem hbmWrite_lanes (a : Nat) (bs : List Byte) : (s.hbmWrite a bs).lanes = s.lanes := rfl
@[simp] theorem hbmWrite_tables (a : Nat) (bs : List Byte) : (s.hbmWrite a bs).tables = s.tables := rfl
@[simp] theorem hbmWrite_chans (a : Nat) (bs : List Byte) : (s.hbmWrite a bs).chans = s.chans := rfl
@[simp] theorem hbmWrite_fade (a : Nat) (bs : List Byte) : (s.hbmWrite a bs).fade = s.fade := rfl
@[simp] theorem hbmWrite_phs (a : Nat) (bs : List Byte) : (s.hbmWrite a bs).phs = s.phs := rfl
@[simp] theorem hbmWrite_nrg (a : Nat) (bs : List Byte) : (s.hbmWrite a bs).nrg = s.nrg := rfl
@[simp] theorem hbmWrite_acc (a : Nat) (bs : List Byte) : (s.hbmWrite a bs).acc = s.acc := rfl
@[simp] theorem hbmWrite_nrgCmd (a : Nat) (bs : List Byte) : (s.hbmWrite a bs).nrgCmd = s.nrgCmd := rfl
@[simp] theorem hbmWrite_pulses (a : Nat) (bs : List Byte) : (s.hbmWrite a bs).pulses = s.pulses := rfl
@[simp] theorem hbmWrite_rxq (a : Nat) (bs : List Byte) : (s.hbmWrite a bs).rxq = s.rxq := rfl
@[simp] theorem hbmWrite_txq (a : Nat) (bs : List Byte) : (s.hbmWrite a bs).txq = s.txq := rfl
@[simp] theorem hbmWrite_segJobs (a : Nat) (bs : List Byte) : (s.hbmWrite a bs).segJobs = s.segJobs := rfl
@[simp] theorem hbmWrite_prp (a : Nat) (bs : List Byte) : (s.hbmWrite a bs).prp = s.prp := rfl
@[simp] theorem hbmWrite_segments (a : Nat) (bs : List Byte) : (s.hbmWrite a bs).segments = s.segments := rfl
@[simp] theorem hbmWrite_t1sTaken (a : Nat) (bs : List Byte) : (s.hbmWrite a bs).t1sTaken = s.t1sTaken := rfl
@[simp] theorem hbmWrite_t1sNum (a : Nat) (bs : List Byte) : (s.hbmWrite a bs).t1sNum = s.t1sNum := rfl
@[simp] theorem hbmWrite_seats (a : Nat) (bs : List Byte) : (s.hbmWrite a bs).seats = s.seats := rfl
@[simp] theorem hbmWrite_seated (a : Nat) (bs : List Byte) : (s.hbmWrite a bs).seated = s.seated := rfl
@[simp] theorem hbmWrite_forms (a : Nat) (bs : List Byte) : (s.hbmWrite a bs).forms = s.forms := rfl
@[simp] theorem hbmWrite_tcp (a : Nat) (bs : List Byte) : (s.hbmWrite a bs).tcp = s.tcp := rfl
@[simp] theorem hbmWrite_links (a : Nat) (bs : List Byte) : (s.hbmWrite a bs).links = s.links := rfl
@[simp] theorem hbmWrite_classrooms (a : Nat) (bs : List Byte) : (s.hbmWrite a bs).classrooms = s.classrooms := rfl
@[simp] theorem hbmWrite_lessons (a : Nat) (bs : List Byte) : (s.hbmWrite a bs).lessons = s.lessons := rfl
@[simp] theorem hbmWrite_alarms (a : Nat) (bs : List Byte) : (s.hbmWrite a bs).alarms = s.alarms := rfl
@[simp] theorem hbmWrite_slacks (a : Nat) (bs : List Byte) : (s.hbmWrite a bs).slacks = s.slacks := rfl
@[simp] theorem hbmWrite_answers (a : Nat) (bs : List Byte) : (s.hbmWrite a bs).answers = s.answers := rfl
@[simp] theorem hbmWrite_pass (a : Nat) (bs : List Byte) : (s.hbmWrite a bs).pass = s.pass := rfl
@[simp] theorem hbmWrite_sched (a : Nat) (bs : List Byte) : (s.hbmWrite a bs).sched = s.sched := rfl
@[simp] theorem hbmWrite_loader (a : Nat) (bs : List Byte) : (s.hbmWrite a bs).loader = s.loader := rfl
@[simp] theorem hbmWrite_evtIn (a : Nat) (bs : List Byte) : (s.hbmWrite a bs).evtIn = s.evtIn := rfl
@[simp] theorem hbmWrite_keys (a : Nat) (bs : List Byte) : (s.hbmWrite a bs).keys = s.keys := rfl
@[simp] theorem hbmWrite_tap (a : Nat) (bs : List Byte) : (s.hbmWrite a bs).tap = s.tap := rfl
@[simp] theorem hbmWrite_cacheSigner (a : Nat) (bs : List Byte) : (s.hbmWrite a bs).cacheSigner = s.cacheSigner := rfl
@[simp] theorem hbmWrite_pcie (a : Nat) (bs : List Byte) : (s.hbmWrite a bs).pcie = s.pcie := rfl
@[simp] theorem hbmWrite_modClks (a : Nat) (bs : List Byte) : (s.hbmWrite a bs).modClks = s.modClks := rfl
@[simp] theorem hbmWrite_nrgInt (a : Nat) (bs : List Byte) : (s.hbmWrite a bs).nrgInt = s.nrgInt := rfl
@[simp] theorem hbmWrite_ppsPin (a : Nat) (bs : List Byte) : (s.hbmWrite a bs).ppsPin = s.ppsPin := rfl
@[simp] theorem hbmWrite_reg (a : Nat) (bs : List Byte) {p : Nat} : (s.hbmWrite a bs).reg p = s.reg p := rfl

@[simp] theorem hostWrite_pending (a : Nat) (bs : List Byte) : (s.hostWrite a bs).pending = s.pending := rfl
@[simp] theorem hostWrite_now (a : Nat) (bs : List Byte) : (s.hostWrite a bs).now = s.now := rfl
@[simp] theorem hostWrite_free (a : Nat) (bs : List Byte) : (s.hostWrite a bs).free = s.free := rfl
@[simp] theorem hostWrite_regs (a : Nat) (bs : List Byte) : (s.hostWrite a bs).regs = s.regs := rfl
@[simp] theorem hostWrite_latches (a : Nat) (bs : List Byte) : (s.hostWrite a bs).latches = s.latches := rfl
@[simp] theorem hostWrite_stages (a : Nat) (bs : List Byte) : (s.hostWrite a bs).stages = s.stages := rfl
@[simp] theorem hostWrite_msix (a : Nat) (bs : List Byte) : (s.hostWrite a bs).msix = s.msix := rfl
@[simp] theorem hostWrite_out (a : Nat) (bs : List Byte) : (s.hostWrite a bs).out = s.out := rfl
@[simp] theorem hostWrite_hbm (a : Nat) (bs : List Byte) : (s.hostWrite a bs).hbm = s.hbm := rfl
@[simp] theorem hostWrite_rings (a : Nat) (bs : List Byte) : (s.hostWrite a bs).rings = s.rings := rfl
@[simp] theorem hostWrite_tbs (a : Nat) (bs : List Byte) : (s.hostWrite a bs).tbs = s.tbs := rfl
@[simp] theorem hostWrite_tsq (a : Nat) (bs : List Byte) : (s.hostWrite a bs).tsq = s.tsq := rfl
@[simp] theorem hostWrite_rtc (a : Nat) (bs : List Byte) : (s.hostWrite a bs).rtc = s.rtc := rfl
@[simp] theorem hostWrite_pwr (a : Nat) (bs : List Byte) : (s.hostWrite a bs).pwr = s.pwr := rfl
@[simp] theorem hostWrite_trigs (a : Nat) (bs : List Byte) : (s.hostWrite a bs).trigs = s.trigs := rfl
@[simp] theorem hostWrite_marks (a : Nat) (bs : List Byte) : (s.hostWrite a bs).marks = s.marks := rfl
@[simp] theorem hostWrite_recorder (a : Nat) (bs : List Byte) : (s.hostWrite a bs).recorder = s.recorder := rfl
@[simp] theorem hostWrite_lanes (a : Nat) (bs : List Byte) : (s.hostWrite a bs).lanes = s.lanes := rfl
@[simp] theorem hostWrite_tables (a : Nat) (bs : List Byte) : (s.hostWrite a bs).tables = s.tables := rfl
@[simp] theorem hostWrite_chans (a : Nat) (bs : List Byte) : (s.hostWrite a bs).chans = s.chans := rfl
@[simp] theorem hostWrite_fade (a : Nat) (bs : List Byte) : (s.hostWrite a bs).fade = s.fade := rfl
@[simp] theorem hostWrite_phs (a : Nat) (bs : List Byte) : (s.hostWrite a bs).phs = s.phs := rfl
@[simp] theorem hostWrite_nrg (a : Nat) (bs : List Byte) : (s.hostWrite a bs).nrg = s.nrg := rfl
@[simp] theorem hostWrite_acc (a : Nat) (bs : List Byte) : (s.hostWrite a bs).acc = s.acc := rfl
@[simp] theorem hostWrite_nrgCmd (a : Nat) (bs : List Byte) : (s.hostWrite a bs).nrgCmd = s.nrgCmd := rfl
@[simp] theorem hostWrite_pulses (a : Nat) (bs : List Byte) : (s.hostWrite a bs).pulses = s.pulses := rfl
@[simp] theorem hostWrite_rxq (a : Nat) (bs : List Byte) : (s.hostWrite a bs).rxq = s.rxq := rfl
@[simp] theorem hostWrite_txq (a : Nat) (bs : List Byte) : (s.hostWrite a bs).txq = s.txq := rfl
@[simp] theorem hostWrite_segJobs (a : Nat) (bs : List Byte) : (s.hostWrite a bs).segJobs = s.segJobs := rfl
@[simp] theorem hostWrite_prp (a : Nat) (bs : List Byte) : (s.hostWrite a bs).prp = s.prp := rfl
@[simp] theorem hostWrite_segments (a : Nat) (bs : List Byte) : (s.hostWrite a bs).segments = s.segments := rfl
@[simp] theorem hostWrite_t1sTaken (a : Nat) (bs : List Byte) : (s.hostWrite a bs).t1sTaken = s.t1sTaken := rfl
@[simp] theorem hostWrite_t1sNum (a : Nat) (bs : List Byte) : (s.hostWrite a bs).t1sNum = s.t1sNum := rfl
@[simp] theorem hostWrite_seats (a : Nat) (bs : List Byte) : (s.hostWrite a bs).seats = s.seats := rfl
@[simp] theorem hostWrite_seated (a : Nat) (bs : List Byte) : (s.hostWrite a bs).seated = s.seated := rfl
@[simp] theorem hostWrite_forms (a : Nat) (bs : List Byte) : (s.hostWrite a bs).forms = s.forms := rfl
@[simp] theorem hostWrite_tcp (a : Nat) (bs : List Byte) : (s.hostWrite a bs).tcp = s.tcp := rfl
@[simp] theorem hostWrite_links (a : Nat) (bs : List Byte) : (s.hostWrite a bs).links = s.links := rfl
@[simp] theorem hostWrite_classrooms (a : Nat) (bs : List Byte) : (s.hostWrite a bs).classrooms = s.classrooms := rfl
@[simp] theorem hostWrite_lessons (a : Nat) (bs : List Byte) : (s.hostWrite a bs).lessons = s.lessons := rfl
@[simp] theorem hostWrite_alarms (a : Nat) (bs : List Byte) : (s.hostWrite a bs).alarms = s.alarms := rfl
@[simp] theorem hostWrite_slacks (a : Nat) (bs : List Byte) : (s.hostWrite a bs).slacks = s.slacks := rfl
@[simp] theorem hostWrite_answers (a : Nat) (bs : List Byte) : (s.hostWrite a bs).answers = s.answers := rfl
@[simp] theorem hostWrite_pass (a : Nat) (bs : List Byte) : (s.hostWrite a bs).pass = s.pass := rfl
@[simp] theorem hostWrite_sched (a : Nat) (bs : List Byte) : (s.hostWrite a bs).sched = s.sched := rfl
@[simp] theorem hostWrite_loader (a : Nat) (bs : List Byte) : (s.hostWrite a bs).loader = s.loader := rfl
@[simp] theorem hostWrite_evtIn (a : Nat) (bs : List Byte) : (s.hostWrite a bs).evtIn = s.evtIn := rfl
@[simp] theorem hostWrite_keys (a : Nat) (bs : List Byte) : (s.hostWrite a bs).keys = s.keys := rfl
@[simp] theorem hostWrite_tap (a : Nat) (bs : List Byte) : (s.hostWrite a bs).tap = s.tap := rfl
@[simp] theorem hostWrite_cacheSigner (a : Nat) (bs : List Byte) : (s.hostWrite a bs).cacheSigner = s.cacheSigner := rfl
@[simp] theorem hostWrite_pcie (a : Nat) (bs : List Byte) : (s.hostWrite a bs).pcie = s.pcie := rfl
@[simp] theorem hostWrite_modClks (a : Nat) (bs : List Byte) : (s.hostWrite a bs).modClks = s.modClks := rfl
@[simp] theorem hostWrite_nrgInt (a : Nat) (bs : List Byte) : (s.hostWrite a bs).nrgInt = s.nrgInt := rfl
@[simp] theorem hostWrite_ppsPin (a : Nat) (bs : List Byte) : (s.hostWrite a bs).ppsPin = s.ppsPin := rfl
@[simp] theorem hostWrite_reg (a : Nat) (bs : List Byte) {p : Nat} : (s.hostWrite a bs).reg p = s.reg p := rfl

@[simp] theorem setTb_pending (n : Nat) (x : TimeBase) : (s.setTb n x).pending = s.pending := rfl
@[simp] theorem setTb_now (n : Nat) (x : TimeBase) : (s.setTb n x).now = s.now := rfl
@[simp] theorem setTb_free (n : Nat) (x : TimeBase) : (s.setTb n x).free = s.free := rfl
@[simp] theorem setTb_regs (n : Nat) (x : TimeBase) : (s.setTb n x).regs = s.regs := rfl
@[simp] theorem setTb_latches (n : Nat) (x : TimeBase) : (s.setTb n x).latches = s.latches := rfl
@[simp] theorem setTb_stages (n : Nat) (x : TimeBase) : (s.setTb n x).stages = s.stages := rfl
@[simp] theorem setTb_msix (n : Nat) (x : TimeBase) : (s.setTb n x).msix = s.msix := rfl
@[simp] theorem setTb_out (n : Nat) (x : TimeBase) : (s.setTb n x).out = s.out := rfl
@[simp] theorem setTb_hbm (n : Nat) (x : TimeBase) : (s.setTb n x).hbm = s.hbm := rfl
@[simp] theorem setTb_hostMem (n : Nat) (x : TimeBase) : (s.setTb n x).hostMem = s.hostMem := rfl
@[simp] theorem setTb_rings (n : Nat) (x : TimeBase) : (s.setTb n x).rings = s.rings := rfl
@[simp] theorem setTb_tsq (n : Nat) (x : TimeBase) : (s.setTb n x).tsq = s.tsq := rfl
@[simp] theorem setTb_rtc (n : Nat) (x : TimeBase) : (s.setTb n x).rtc = s.rtc := rfl
@[simp] theorem setTb_pwr (n : Nat) (x : TimeBase) : (s.setTb n x).pwr = s.pwr := rfl
@[simp] theorem setTb_trigs (n : Nat) (x : TimeBase) : (s.setTb n x).trigs = s.trigs := rfl
@[simp] theorem setTb_marks (n : Nat) (x : TimeBase) : (s.setTb n x).marks = s.marks := rfl
@[simp] theorem setTb_recorder (n : Nat) (x : TimeBase) : (s.setTb n x).recorder = s.recorder := rfl
@[simp] theorem setTb_lanes (n : Nat) (x : TimeBase) : (s.setTb n x).lanes = s.lanes := rfl
@[simp] theorem setTb_tables (n : Nat) (x : TimeBase) : (s.setTb n x).tables = s.tables := rfl
@[simp] theorem setTb_chans (n : Nat) (x : TimeBase) : (s.setTb n x).chans = s.chans := rfl
@[simp] theorem setTb_fade (n : Nat) (x : TimeBase) : (s.setTb n x).fade = s.fade := rfl
@[simp] theorem setTb_phs (n : Nat) (x : TimeBase) : (s.setTb n x).phs = s.phs := rfl
@[simp] theorem setTb_nrg (n : Nat) (x : TimeBase) : (s.setTb n x).nrg = s.nrg := rfl
@[simp] theorem setTb_acc (n : Nat) (x : TimeBase) : (s.setTb n x).acc = s.acc := rfl
@[simp] theorem setTb_nrgCmd (n : Nat) (x : TimeBase) : (s.setTb n x).nrgCmd = s.nrgCmd := rfl
@[simp] theorem setTb_pulses (n : Nat) (x : TimeBase) : (s.setTb n x).pulses = s.pulses := rfl
@[simp] theorem setTb_rxq (n : Nat) (x : TimeBase) : (s.setTb n x).rxq = s.rxq := rfl
@[simp] theorem setTb_txq (n : Nat) (x : TimeBase) : (s.setTb n x).txq = s.txq := rfl
@[simp] theorem setTb_segJobs (n : Nat) (x : TimeBase) : (s.setTb n x).segJobs = s.segJobs := rfl
@[simp] theorem setTb_prp (n : Nat) (x : TimeBase) : (s.setTb n x).prp = s.prp := rfl
@[simp] theorem setTb_segments (n : Nat) (x : TimeBase) : (s.setTb n x).segments = s.segments := rfl
@[simp] theorem setTb_t1sTaken (n : Nat) (x : TimeBase) : (s.setTb n x).t1sTaken = s.t1sTaken := rfl
@[simp] theorem setTb_t1sNum (n : Nat) (x : TimeBase) : (s.setTb n x).t1sNum = s.t1sNum := rfl
@[simp] theorem setTb_seats (n : Nat) (x : TimeBase) : (s.setTb n x).seats = s.seats := rfl
@[simp] theorem setTb_seated (n : Nat) (x : TimeBase) : (s.setTb n x).seated = s.seated := rfl
@[simp] theorem setTb_forms (n : Nat) (x : TimeBase) : (s.setTb n x).forms = s.forms := rfl
@[simp] theorem setTb_tcp (n : Nat) (x : TimeBase) : (s.setTb n x).tcp = s.tcp := rfl
@[simp] theorem setTb_links (n : Nat) (x : TimeBase) : (s.setTb n x).links = s.links := rfl
@[simp] theorem setTb_classrooms (n : Nat) (x : TimeBase) : (s.setTb n x).classrooms = s.classrooms := rfl
@[simp] theorem setTb_lessons (n : Nat) (x : TimeBase) : (s.setTb n x).lessons = s.lessons := rfl
@[simp] theorem setTb_alarms (n : Nat) (x : TimeBase) : (s.setTb n x).alarms = s.alarms := rfl
@[simp] theorem setTb_slacks (n : Nat) (x : TimeBase) : (s.setTb n x).slacks = s.slacks := rfl
@[simp] theorem setTb_answers (n : Nat) (x : TimeBase) : (s.setTb n x).answers = s.answers := rfl
@[simp] theorem setTb_pass (n : Nat) (x : TimeBase) : (s.setTb n x).pass = s.pass := rfl
@[simp] theorem setTb_sched (n : Nat) (x : TimeBase) : (s.setTb n x).sched = s.sched := rfl
@[simp] theorem setTb_loader (n : Nat) (x : TimeBase) : (s.setTb n x).loader = s.loader := rfl
@[simp] theorem setTb_evtIn (n : Nat) (x : TimeBase) : (s.setTb n x).evtIn = s.evtIn := rfl
@[simp] theorem setTb_keys (n : Nat) (x : TimeBase) : (s.setTb n x).keys = s.keys := rfl
@[simp] theorem setTb_tap (n : Nat) (x : TimeBase) : (s.setTb n x).tap = s.tap := rfl
@[simp] theorem setTb_cacheSigner (n : Nat) (x : TimeBase) : (s.setTb n x).cacheSigner = s.cacheSigner := rfl
@[simp] theorem setTb_pcie (n : Nat) (x : TimeBase) : (s.setTb n x).pcie = s.pcie := rfl
@[simp] theorem setTb_modClks (n : Nat) (x : TimeBase) : (s.setTb n x).modClks = s.modClks := rfl
@[simp] theorem setTb_nrgInt (n : Nat) (x : TimeBase) : (s.setTb n x).nrgInt = s.nrgInt := rfl
@[simp] theorem setTb_ppsPin (n : Nat) (x : TimeBase) : (s.setTb n x).ppsPin = s.ppsPin := rfl
@[simp] theorem setTb_reg (n : Nat) (x : TimeBase) {p : Nat} : (s.setTb n x).reg p = s.reg p := rfl

@[simp] theorem setRingX_pending (r : Nat) (x : RingX) : (s.setRingX r x).pending = s.pending := rfl
@[simp] theorem setRingX_now (r : Nat) (x : RingX) : (s.setRingX r x).now = s.now := rfl
@[simp] theorem setRingX_free (r : Nat) (x : RingX) : (s.setRingX r x).free = s.free := rfl
@[simp] theorem setRingX_regs (r : Nat) (x : RingX) : (s.setRingX r x).regs = s.regs := rfl
@[simp] theorem setRingX_latches (r : Nat) (x : RingX) : (s.setRingX r x).latches = s.latches := rfl
@[simp] theorem setRingX_stages (r : Nat) (x : RingX) : (s.setRingX r x).stages = s.stages := rfl
@[simp] theorem setRingX_msix (r : Nat) (x : RingX) : (s.setRingX r x).msix = s.msix := rfl
@[simp] theorem setRingX_out (r : Nat) (x : RingX) : (s.setRingX r x).out = s.out := rfl
@[simp] theorem setRingX_hbm (r : Nat) (x : RingX) : (s.setRingX r x).hbm = s.hbm := rfl
@[simp] theorem setRingX_hostMem (r : Nat) (x : RingX) : (s.setRingX r x).hostMem = s.hostMem := rfl
@[simp] theorem setRingX_tbs (r : Nat) (x : RingX) : (s.setRingX r x).tbs = s.tbs := rfl
@[simp] theorem setRingX_tsq (r : Nat) (x : RingX) : (s.setRingX r x).tsq = s.tsq := rfl
@[simp] theorem setRingX_rtc (r : Nat) (x : RingX) : (s.setRingX r x).rtc = s.rtc := rfl
@[simp] theorem setRingX_pwr (r : Nat) (x : RingX) : (s.setRingX r x).pwr = s.pwr := rfl
@[simp] theorem setRingX_trigs (r : Nat) (x : RingX) : (s.setRingX r x).trigs = s.trigs := rfl
@[simp] theorem setRingX_marks (r : Nat) (x : RingX) : (s.setRingX r x).marks = s.marks := rfl
@[simp] theorem setRingX_recorder (r : Nat) (x : RingX) : (s.setRingX r x).recorder = s.recorder := rfl
@[simp] theorem setRingX_lanes (r : Nat) (x : RingX) : (s.setRingX r x).lanes = s.lanes := rfl
@[simp] theorem setRingX_tables (r : Nat) (x : RingX) : (s.setRingX r x).tables = s.tables := rfl
@[simp] theorem setRingX_chans (r : Nat) (x : RingX) : (s.setRingX r x).chans = s.chans := rfl
@[simp] theorem setRingX_fade (r : Nat) (x : RingX) : (s.setRingX r x).fade = s.fade := rfl
@[simp] theorem setRingX_phs (r : Nat) (x : RingX) : (s.setRingX r x).phs = s.phs := rfl
@[simp] theorem setRingX_nrg (r : Nat) (x : RingX) : (s.setRingX r x).nrg = s.nrg := rfl
@[simp] theorem setRingX_acc (r : Nat) (x : RingX) : (s.setRingX r x).acc = s.acc := rfl
@[simp] theorem setRingX_nrgCmd (r : Nat) (x : RingX) : (s.setRingX r x).nrgCmd = s.nrgCmd := rfl
@[simp] theorem setRingX_pulses (r : Nat) (x : RingX) : (s.setRingX r x).pulses = s.pulses := rfl
@[simp] theorem setRingX_rxq (r : Nat) (x : RingX) : (s.setRingX r x).rxq = s.rxq := rfl
@[simp] theorem setRingX_txq (r : Nat) (x : RingX) : (s.setRingX r x).txq = s.txq := rfl
@[simp] theorem setRingX_segJobs (r : Nat) (x : RingX) : (s.setRingX r x).segJobs = s.segJobs := rfl
@[simp] theorem setRingX_prp (r : Nat) (x : RingX) : (s.setRingX r x).prp = s.prp := rfl
@[simp] theorem setRingX_segments (r : Nat) (x : RingX) : (s.setRingX r x).segments = s.segments := rfl
@[simp] theorem setRingX_t1sTaken (r : Nat) (x : RingX) : (s.setRingX r x).t1sTaken = s.t1sTaken := rfl
@[simp] theorem setRingX_t1sNum (r : Nat) (x : RingX) : (s.setRingX r x).t1sNum = s.t1sNum := rfl
@[simp] theorem setRingX_seats (r : Nat) (x : RingX) : (s.setRingX r x).seats = s.seats := rfl
@[simp] theorem setRingX_seated (r : Nat) (x : RingX) : (s.setRingX r x).seated = s.seated := rfl
@[simp] theorem setRingX_forms (r : Nat) (x : RingX) : (s.setRingX r x).forms = s.forms := rfl
@[simp] theorem setRingX_tcp (r : Nat) (x : RingX) : (s.setRingX r x).tcp = s.tcp := rfl
@[simp] theorem setRingX_links (r : Nat) (x : RingX) : (s.setRingX r x).links = s.links := rfl
@[simp] theorem setRingX_classrooms (r : Nat) (x : RingX) : (s.setRingX r x).classrooms = s.classrooms := rfl
@[simp] theorem setRingX_lessons (r : Nat) (x : RingX) : (s.setRingX r x).lessons = s.lessons := rfl
@[simp] theorem setRingX_alarms (r : Nat) (x : RingX) : (s.setRingX r x).alarms = s.alarms := rfl
@[simp] theorem setRingX_slacks (r : Nat) (x : RingX) : (s.setRingX r x).slacks = s.slacks := rfl
@[simp] theorem setRingX_answers (r : Nat) (x : RingX) : (s.setRingX r x).answers = s.answers := rfl
@[simp] theorem setRingX_pass (r : Nat) (x : RingX) : (s.setRingX r x).pass = s.pass := rfl
@[simp] theorem setRingX_sched (r : Nat) (x : RingX) : (s.setRingX r x).sched = s.sched := rfl
@[simp] theorem setRingX_loader (r : Nat) (x : RingX) : (s.setRingX r x).loader = s.loader := rfl
@[simp] theorem setRingX_evtIn (r : Nat) (x : RingX) : (s.setRingX r x).evtIn = s.evtIn := rfl
@[simp] theorem setRingX_keys (r : Nat) (x : RingX) : (s.setRingX r x).keys = s.keys := rfl
@[simp] theorem setRingX_tap (r : Nat) (x : RingX) : (s.setRingX r x).tap = s.tap := rfl
@[simp] theorem setRingX_cacheSigner (r : Nat) (x : RingX) : (s.setRingX r x).cacheSigner = s.cacheSigner := rfl
@[simp] theorem setRingX_pcie (r : Nat) (x : RingX) : (s.setRingX r x).pcie = s.pcie := rfl
@[simp] theorem setRingX_modClks (r : Nat) (x : RingX) : (s.setRingX r x).modClks = s.modClks := rfl
@[simp] theorem setRingX_nrgInt (r : Nat) (x : RingX) : (s.setRingX r x).nrgInt = s.nrgInt := rfl
@[simp] theorem setRingX_ppsPin (r : Nat) (x : RingX) : (s.setRingX r x).ppsPin = s.ppsPin := rfl
@[simp] theorem setRingX_reg (r : Nat) (x : RingX) {p : Nat} : (s.setRingX r x).reg p = s.reg p := rfl

@[simp] theorem resetRegs_pending (lo hi : Nat) : (s.resetRegs lo hi).pending = s.pending := rfl
@[simp] theorem resetRegs_now (lo hi : Nat) : (s.resetRegs lo hi).now = s.now := rfl
@[simp] theorem resetRegs_free (lo hi : Nat) : (s.resetRegs lo hi).free = s.free := rfl
@[simp] theorem resetRegs_msix (lo hi : Nat) : (s.resetRegs lo hi).msix = s.msix := rfl
@[simp] theorem resetRegs_out (lo hi : Nat) : (s.resetRegs lo hi).out = s.out := rfl
@[simp] theorem resetRegs_hbm (lo hi : Nat) : (s.resetRegs lo hi).hbm = s.hbm := rfl
@[simp] theorem resetRegs_hostMem (lo hi : Nat) : (s.resetRegs lo hi).hostMem = s.hostMem := rfl
@[simp] theorem resetRegs_rings (lo hi : Nat) : (s.resetRegs lo hi).rings = s.rings := rfl
@[simp] theorem resetRegs_tbs (lo hi : Nat) : (s.resetRegs lo hi).tbs = s.tbs := rfl
@[simp] theorem resetRegs_tsq (lo hi : Nat) : (s.resetRegs lo hi).tsq = s.tsq := rfl
@[simp] theorem resetRegs_rtc (lo hi : Nat) : (s.resetRegs lo hi).rtc = s.rtc := rfl
@[simp] theorem resetRegs_pwr (lo hi : Nat) : (s.resetRegs lo hi).pwr = s.pwr := rfl
@[simp] theorem resetRegs_trigs (lo hi : Nat) : (s.resetRegs lo hi).trigs = s.trigs := rfl
@[simp] theorem resetRegs_marks (lo hi : Nat) : (s.resetRegs lo hi).marks = s.marks := rfl
@[simp] theorem resetRegs_recorder (lo hi : Nat) : (s.resetRegs lo hi).recorder = s.recorder := rfl
@[simp] theorem resetRegs_lanes (lo hi : Nat) : (s.resetRegs lo hi).lanes = s.lanes := rfl
@[simp] theorem resetRegs_tables (lo hi : Nat) : (s.resetRegs lo hi).tables = s.tables := rfl
@[simp] theorem resetRegs_chans (lo hi : Nat) : (s.resetRegs lo hi).chans = s.chans := rfl
@[simp] theorem resetRegs_fade (lo hi : Nat) : (s.resetRegs lo hi).fade = s.fade := rfl
@[simp] theorem resetRegs_phs (lo hi : Nat) : (s.resetRegs lo hi).phs = s.phs := rfl
@[simp] theorem resetRegs_nrg (lo hi : Nat) : (s.resetRegs lo hi).nrg = s.nrg := rfl
@[simp] theorem resetRegs_acc (lo hi : Nat) : (s.resetRegs lo hi).acc = s.acc := rfl
@[simp] theorem resetRegs_nrgCmd (lo hi : Nat) : (s.resetRegs lo hi).nrgCmd = s.nrgCmd := rfl
@[simp] theorem resetRegs_pulses (lo hi : Nat) : (s.resetRegs lo hi).pulses = s.pulses := rfl
@[simp] theorem resetRegs_rxq (lo hi : Nat) : (s.resetRegs lo hi).rxq = s.rxq := rfl
@[simp] theorem resetRegs_txq (lo hi : Nat) : (s.resetRegs lo hi).txq = s.txq := rfl
@[simp] theorem resetRegs_segJobs (lo hi : Nat) : (s.resetRegs lo hi).segJobs = s.segJobs := rfl
@[simp] theorem resetRegs_prp (lo hi : Nat) : (s.resetRegs lo hi).prp = s.prp := rfl
@[simp] theorem resetRegs_segments (lo hi : Nat) : (s.resetRegs lo hi).segments = s.segments := rfl
@[simp] theorem resetRegs_t1sTaken (lo hi : Nat) : (s.resetRegs lo hi).t1sTaken = s.t1sTaken := rfl
@[simp] theorem resetRegs_t1sNum (lo hi : Nat) : (s.resetRegs lo hi).t1sNum = s.t1sNum := rfl
@[simp] theorem resetRegs_seats (lo hi : Nat) : (s.resetRegs lo hi).seats = s.seats := rfl
@[simp] theorem resetRegs_seated (lo hi : Nat) : (s.resetRegs lo hi).seated = s.seated := rfl
@[simp] theorem resetRegs_forms (lo hi : Nat) : (s.resetRegs lo hi).forms = s.forms := rfl
@[simp] theorem resetRegs_tcp (lo hi : Nat) : (s.resetRegs lo hi).tcp = s.tcp := rfl
@[simp] theorem resetRegs_links (lo hi : Nat) : (s.resetRegs lo hi).links = s.links := rfl
@[simp] theorem resetRegs_classrooms (lo hi : Nat) : (s.resetRegs lo hi).classrooms = s.classrooms := rfl
@[simp] theorem resetRegs_lessons (lo hi : Nat) : (s.resetRegs lo hi).lessons = s.lessons := rfl
@[simp] theorem resetRegs_alarms (lo hi : Nat) : (s.resetRegs lo hi).alarms = s.alarms := rfl
@[simp] theorem resetRegs_slacks (lo hi : Nat) : (s.resetRegs lo hi).slacks = s.slacks := rfl
@[simp] theorem resetRegs_answers (lo hi : Nat) : (s.resetRegs lo hi).answers = s.answers := rfl
@[simp] theorem resetRegs_pass (lo hi : Nat) : (s.resetRegs lo hi).pass = s.pass := rfl
@[simp] theorem resetRegs_sched (lo hi : Nat) : (s.resetRegs lo hi).sched = s.sched := rfl
@[simp] theorem resetRegs_loader (lo hi : Nat) : (s.resetRegs lo hi).loader = s.loader := rfl
@[simp] theorem resetRegs_evtIn (lo hi : Nat) : (s.resetRegs lo hi).evtIn = s.evtIn := rfl
@[simp] theorem resetRegs_keys (lo hi : Nat) : (s.resetRegs lo hi).keys = s.keys := rfl
@[simp] theorem resetRegs_tap (lo hi : Nat) : (s.resetRegs lo hi).tap = s.tap := rfl
@[simp] theorem resetRegs_cacheSigner (lo hi : Nat) : (s.resetRegs lo hi).cacheSigner = s.cacheSigner := rfl
@[simp] theorem resetRegs_pcie (lo hi : Nat) : (s.resetRegs lo hi).pcie = s.pcie := rfl
@[simp] theorem resetRegs_modClks (lo hi : Nat) : (s.resetRegs lo hi).modClks = s.modClks := rfl
@[simp] theorem resetRegs_nrgInt (lo hi : Nat) : (s.resetRegs lo hi).nrgInt = s.nrgInt := rfl
@[simp] theorem resetRegs_ppsPin (lo hi : Nat) : (s.resetRegs lo hi).ppsPin = s.ppsPin := rfl

end Sys2Proof.Machine
end

