-- ==== Sys2Proof/Laws/Host.lean ====
section
/-! SUPPORT. What a host write of one DW of BAR0 does, said once: nothing while the endpoint is down, the capture of a bus error
where R52 names a cause, and otherwise the update of the one register with what its unit does beside it. -/

-- One declaration after another: side by side, their threads' stacks pass the memory limit of a check.
set_option Elab.async false

namespace Sys2Proof.Machine

variable {s : State} {off : Nat} {v : Word} {e : Env}

/-- A write of one whole DW, with everything it can do. -/
theorem poke_eq : s.poke off v e =
    if s.pcieUp then
      if s.pcie.d3hot then s.aerNote 20
      else if s.writeCause off v = 0 then s.writeView State.bootWrite e off v
      else s.busError singleWrite off (s.writeCause off v)
    else s := by
  have hq : requestOf .bar0 true 1 15 0 = singleWrite := rfl
  have he : enablesAt 1 0 15 0 = 15 := rfl
  have hb : decide (Bar.bar0 ≠ Bar.config) = true := rfl
  unfold State.poke State.hostWrites
  dsimp only [List.length]
  cases hu : s.pcieUp
  · rfl
  · cases hd : s.pcie.d3hot
    · simp only [Bool.not_true, Bool.false_eq_true, if_false, if_true, crossesAlign, Bool.and_false]
      simp only [hostPuts, State.hostPut, he, State.put, State.putDW, hq, Nat.mul_zero, Nat.add_zero, Nat.zero_add]
      by_cases hc : s.writeCause off v = 0 <;> simp [hc]
    · simp only [hb, Bool.not_true, Bool.false_eq_true, if_false, if_true, Bool.and_self]

/-- A write while the endpoint answers memory requests. -/
theorem poke_up (h : s.hostUp = true) : s.poke off v e =
    if s.writeCause off v = 0 then s.writeView State.bootWrite e off v else s.busError singleWrite off (s.writeCause off v) := by
  unfold State.hostUp at h
  simp only [Bool.and_eq_true, Bool.not_eq_true'] at h
  rw [poke_eq, if_pos h.1, h.2]
  rfl

theorem poke_down (h : s.pcieUp = false) : s.poke off v e = s := by rw [poke_eq, h]; rfl

theorem poke_error (h : s.hostUp = true) (hc : s.writeCause off v ≠ 0) :
    s.poke off v e = s.busError singleWrite off (s.writeCause off v) := by rw [poke_up h, if_neg hc]

/-- A write of a register that is no half of a pair, in the normal view. -/
theorem poke_single {r : RegRow} (h : s.hostUp = true) (hc : s.writeCause off v = 0) (hv : viewOf off = 0)
    (hr : regRow off = some r) (hp : r.pair = .single) :
    s.poke off v e = (s.setReg off (merge r.rw v (s.reg off &&& ~~~ (v &&& r.w1c)))).unitHook s State.bootWrite e off (s.reg off) v := by
  rw [poke_up h, if_pos hc, State.writeView, if_pos hv, State.writeReg]
  simp only [hr, hp]

/-- A write of the low half of a pair: staged. -/
theorem poke_low {r : RegRow} (h : s.hostUp = true) (hc : s.writeCause off v = 0) (hv : viewOf off = 0)
    (hr : regRow off = some r) (hp : r.pair = .low) : s.poke off v e = s.setStage off (v &&& r.rw) := by
  rw [poke_up h, if_pos hc, State.writeView, if_pos hv, State.writeReg]
  simp only [hr, hp]

/-- A write of the high half of a pair: both halves. -/
theorem poke_high {r q : RegRow} (h : s.hostUp = true) (hc : s.writeCause off v = 0) (hv : viewOf off = 0)
    (hr : regRow off = some r) (hp : r.pair = .high) (hq : regRow (off - 4) = some q) :
    s.poke off v e = ((s.setReg (off - 4) (merge q.rw (s.stageOf (off - 4)) (s.reg (off - 4)))).setReg off
      (merge r.rw v (s.reg off))).unitHook s State.bootWrite e off (s.reg off) v := by
  rw [poke_up h, if_pos hc, State.writeView, if_pos hv, State.writeReg]
  simp only [hr, hp, hq]

/-! ### The unit that a register belongs to (R40) -/

variable {t : State} {wr : BootWrite} {old m : Word}

theorem unitHook_glb (h : off / 0x10000 = 0) : t.unitHook s wr e off old v = t.glbHook off old v := by
  unfold State.unitHook
  simp only [h]

theorem unitHook_evt (h : off / 0x10000 = 1) : t.unitHook s wr e off old v = t.evtHook s off v := by
  unfold State.unitHook
  simp only [h]

theorem unitHook_pwr (h : off / 0x10000 = 2) : t.unitHook s wr e off old v = t.pwrHook off old v := by
  unfold State.unitHook
  simp only [h]

theorem unitHook_img (h : off / 0x10000 = 3) : t.unitHook s wr e off old v = t.imgHook off wr e.desks e.ecc e.late := by
  unfold State.unitHook
  simp only [h]

theorem unitHook_rtc (h : off / 0x10000 = 4) : t.unitHook s wr e off old v = t.rtcHook off := by
  unfold State.unitHook
  simp only [h]

theorem unitHook_tb (h : off / 0x10000 = 5) : t.unitHook s wr e off old v = t.tbHook off old v := by
  unfold State.unitHook
  simp only [h]

theorem unitHook_mac0 (h : off / 0x10000 = 6) : t.unitHook s wr e off old v = t.macHook off v := by
  unfold State.unitHook
  simp only [h]

theorem unitHook_mac1 (h : off / 0x10000 = 7) : t.unitHook s wr e off old v = t.macHook off v := by
  unfold State.unitHook
  simp only [h]

theorem unitHook_mac2 (h : off / 0x10000 = 8) : t.unitHook s wr e off old v = t.macHook off v := by
  unfold State.unitHook
  simp only [h]

theorem unitHook_mac3 (h : off / 0x10000 = 9) : t.unitHook s wr e off old v = t.macHook off v := by
  unfold State.unitHook
  simp only [h]

theorem unitHook_t1s (h : off / 0x10000 = 10) : t.unitHook s wr e off old v = t.t1sHook off := by
  unfold State.unitHook
  simp only [h]

theorem unitHook_prp (h : off / 0x10000 = 11) : t.unitHook s wr e off old v = t.prpHook off old v := by
  unfold State.unitHook
  simp only [h]

theorem unitHook_rng (h : off / 0x10000 = 12) : t.unitHook s wr e off old v = t.rngHook off v := by
  unfold State.unitHook
  simp only [h]

theorem unitHook_sch (h : off / 0x10000 = 13) : t.unitHook s wr e off old v = t.schHook off old v := by
  unfold State.unitHook
  simp only [h]

theorem unitHook_itk (h : off / 0x10000 = 14) : t.unitHook s wr e off old v = t.itkHook off old := by
  unfold State.unitHook
  simp only [h]

theorem unitHook_rcl (h : off / 0x10000 = 15) : t.unitHook s wr e off old v = t.rclHook off old := by
  unfold State.unitHook
  simp only [h]

theorem unitHook_fab (h : off / 0x10000 = 16) : t.unitHook s wr e off old v = t.fabHook off e := by
  unfold State.unitHook
  simp only [h]

theorem unitHook_ana (h : off / 0x10000 = 17) : t.unitHook s wr e off old v = t.anaHook off := by
  unfold State.unitHook
  simp only [h]

theorem unitHook_acq (h : off / 0x10000 = 18) : t.unitHook s wr e off old v = t.acqHook off old v := by
  unfold State.unitHook
  simp only [h]

theorem unitHook_flt (h : off / 0x10000 = 19) : t.unitHook s wr e off old v = t.fltHook off old v := by
  unfold State.unitHook
  simp only [h]

theorem unitHook_phs (h : off / 0x10000 = 20) : t.unitHook s wr e off old v = t.phsHook off old := by
  unfold State.unitHook
  simp only [h]

theorem unitHook_nrg (h : off / 0x10000 = 21) : t.unitHook s wr e off old v = t.nrgHook off old v := by
  unfold State.unitHook
  simp only [h]

theorem unitHook_trg (h : off / 0x10000 = 22) : t.unitHook s wr e off old v = (t.trgHook off old v).recHook off v := by
  unfold State.unitHook
  simp only [h]

theorem unitHook_key (h : off / 0x10000 = 23) : t.unitHook s wr e off old v = t.keyHook off old v := by
  unfold State.unitHook
  simp only [h]

theorem unitHook_red (h : off / 0x10000 = 24) : t.unitHook s wr e off old v = t.redHook off old v := by
  unfold State.unitHook
  simp only [h]

theorem unitHook_fjl (h : off / 0x10000 = 25) : t.unitHook s wr e off old v = t.fjlHook off old := by
  unfold State.unitHook
  simp only [h]

theorem unitHook_tmx (h : off / 0x10000 = 26) : t.unitHook s wr e off old v = t.tmxHook off v := by
  unfold State.unitHook
  simp only [h]

theorem unitRefuses_glb (h : off / 0x10000 = 0) : unitRefuses s off v m = glbRefuses off v := by
  unfold unitRefuses
  simp only [h]

theorem unitRefuses_pwr (h : off / 0x10000 = 2) : unitRefuses s off v m = pwrRefuses s off v := by
  unfold unitRefuses
  simp only [h]

theorem unitRefuses_img (h : off / 0x10000 = 3) : unitRefuses s off v m = imgRefuses s off v := by
  unfold unitRefuses
  simp only [h]

theorem unitRefuses_rtc (h : off / 0x10000 = 4) : unitRefuses s off v m = rtcRefuses s off v := by
  unfold unitRefuses
  simp only [h]

theorem unitRefuses_tb (h : off / 0x10000 = 5) : unitRefuses s off v m = tbRefuses s off v := by
  unfold unitRefuses
  simp only [h]

theorem unitRefuses_mac0 (h : off / 0x10000 = 6) : unitRefuses s off v m = macRefuses s off v := by
  unfold unitRefuses
  simp only [h]

theorem unitRefuses_mac1 (h : off / 0x10000 = 7) : unitRefuses s off v m = macRefuses s off v := by
  unfold unitRefuses
  simp only [h]

theorem unitRefuses_mac2 (h : off / 0x10000 = 8) : unitRefuses s off v m = macRefuses s off v := by
  unfold unitRefuses
  simp only [h]

theorem unitRefuses_mac3 (h : off / 0x10000 = 9) : unitRefuses s off v m = macRefuses s off v := by
  unfold unitRefuses
  simp only [h]

theorem unitRefuses_t1s (h : off / 0x10000 = 10) : unitRefuses s off v m = t1sRefuses s off v := by
  unfold unitRefuses
  simp only [h]

theorem unitRefuses_prp (h : off / 0x10000 = 11) : unitRefuses s off v m = prpRefuses s off v := by
  unfold unitRefuses
  simp only [h]

theorem unitRefuses_rng (h : off / 0x10000 = 12) : unitRefuses s off v m = rngRefuses s off v := by
  unfold unitRefuses
  simp only [h]

theorem unitRefuses_sch (h : off / 0x10000 = 13) : unitRefuses s off v m = schRefuses s off v := by
  unfold unitRefuses
  simp only [h]

theorem unitRefuses_itk (h : off / 0x10000 = 14) : unitRefuses s off v m = itkRefuses s off v := by
  unfold unitRefuses
  simp only [h]

theorem unitRefuses_rcl (h : off / 0x10000 = 15) : unitRefuses s off v m = rclRefuses s off v := by
  unfold unitRefuses
  simp only [h]

theorem unitRefuses_fab (h : off / 0x10000 = 16) : unitRefuses s off v m = fabRefuses s off v := by
  unfold unitRefuses
  simp only [h]

theorem unitRefuses_ana (h : off / 0x10000 = 17) : unitRefuses s off v m = anaRefuses s off v := by
  unfold unitRefuses
  simp only [h]

theorem unitRefuses_acq (h : off / 0x10000 = 18) : unitRefuses s off v m = acqRefuses s off v (bit m 0) := by
  unfold unitRefuses
  simp only [h]

theorem unitRefuses_flt (h : off / 0x10000 = 19) : unitRefuses s off v m = fltRefuses s off v := by
  unfold unitRefuses
  simp only [h]

theorem unitRefuses_phs (h : off / 0x10000 = 20) : unitRefuses s off v m = phsRefuses s off v (bit m 0) := by
  unfold unitRefuses
  simp only [h]

theorem unitRefuses_nrg (h : off / 0x10000 = 21) : unitRefuses s off v m = nrgRefuses s off v (bit m 0) := by
  unfold unitRefuses
  simp only [h]

theorem unitRefuses_trg (h : off / 0x10000 = 22) : unitRefuses s off v m = (trgRefuses s off v || recRefuses s off v) := by
  unfold unitRefuses
  simp only [h]

theorem unitRefuses_key (h : off / 0x10000 = 23) : unitRefuses s off v m = keyRefuses s off v := by
  unfold unitRefuses
  simp only [h]

theorem unitRefuses_red (h : off / 0x10000 = 24) : unitRefuses s off v m = redRefuses s off v := by
  unfold unitRefuses
  simp only [h]

theorem unitRefuses_fjl (h : off / 0x10000 = 25) : unitRefuses s off v m = fjlRefuses s off v := by
  unfold unitRefuses
  simp only [h]

theorem unitRefuses_tmx (h : off / 0x10000 = 26) : unitRefuses s off v m = tmxRefuses off v := by
  unfold unitRefuses
  simp only [h]

/-- No cause against a write in the normal view, said by its parts. -/
theorem writeCause_none {r : RegRow} (hv : viewOf off = 0) (hn : normOf off = off) (hr : regRow off = some r)
    (hd : s.reachable off = true) (hw : r.rw ||| r.w1c ||| r.wo ≠ 0)
    (hl : ∀ b, r.lock = some b → s.rb Reg.GLB_LOCK b = false) (hx : ∀ m, unitRefuses s off v m = false) : s.writeCause off v = 0 := by
  unfold State.writeCause
  rw [hn, hr]
  have hp : s.presented r off v = v := by rw [State.presented, if_pos hv]
  simp only [hd, hv, hp, hx, hw]
  cases hk : r.lock with
  | none => simp
  | some b => simp [hl b hk]

end Sys2Proof.Machine
end

