-- ==== Sys2Proof/Laws/Raise.lean ====
section
/-! SUPPORT. What raising an event does to the registers: the STATUS bit and the counter of the event, and nothing outside the
units EVT, RNG and TRG, whose registers the log, the vectors and the triggers that watch events use. -/

-- One declaration after another: side by side, their threads' stacks pass the memory limit of a check.
set_option Elab.async false

namespace Sys2Proof.Machine

variable {s : State}

/-- A register outside the units EVT, RNG and TRG, which raising an event may write. -/
abbrev Quiet (o : Nat) : Prop := o / 0x10000 ≠ 1 ∧ o / 0x10000 ≠ 12 ∧ o / 0x10000 ≠ 22

theorem emit_reg {x : Output} {o : Nat} : (s.emit x).reg o = s.reg o := by
  unfold State.emit
  split <;> rfl

theorem sendMsix_reg {v o : Nat} : (s.sendMsix v).reg o = s.reg o := by
  unfold State.sendMsix
  dsimp only
  split
  · rfl
  · split
    · rfl
    · exact emit_reg

theorem hold_reg {c : Prop} [Decidable c] {p : Power} {o : Nat} : (if c then { s with pwr := p } else s).reg o = s.reg o := by
  split <;> rfl

/-- A raise, first part: STATUS and the counter. -/
theorem raiseBase_reg {e inst o : Nat} : (s.raiseBase e inst).reg o =
    if o = Reg.EVT_CNT e then satWord ((s.setRb (Reg.EVT_STATUS (e / 32)) (e % 32) true).reg o) 1
    else if o = Reg.EVT_STATUS (e / 32) then setBit (s.reg o) (e % 32) true else s.reg o := by
  unfold State.raiseBase
  dsimp only
  rw [hold_reg]
  split
  · rw [sendMsix_reg, reg_bump]
    split
    · rename_i h; subst h; rfl
    · rw [reg_setRb]; split
      · rename_i h; subst h; rfl
      · rfl
  · rw [reg_bump]
    split
    · rename_i h; subst h; rfl
    · rw [reg_setRb]; split
      · rename_i h; subst h; rfl
      · rfl

theorem ringReturnQuiet_reg {r : Nat} {body : List Byte} {st o : Nat} (hr : r < 32) (h : o / 0x10000 ≠ 12) :
    (s.ringReturnQuiet r body st).1.reg o = s.reg o := by
  have h1 : o ≠ Reg.RNG_HEAD r := by unfold Reg.RNG_HEAD; omega
  have h2 : o ≠ Reg.RNG_CNT r 0 := by unfold Reg.RNG_CNT; omega
  have h3 : o ≠ Reg.RNG_STATUS r := by unfold Reg.RNG_STATUS; omega
  unfold State.ringReturnQuiet
  dsimp only
  split
  · dsimp only
    rw [setRingX_reg, reg_setRb, if_neg h3, reg_bump, if_neg h2, reg_setRf, if_neg h1]; rfl
  · dsimp only
    rw [setRingX_reg, reg_bump, if_neg h2, reg_setRf, if_neg h1]; rfl

theorem ringExhaustQuiet_reg {r o : Nat} {l : Bool} (hr : r < 32) (h : o / 0x10000 ≠ 12) :
    (s.ringExhaustQuiet r l).1.reg o = s.reg o := by
  have h2 : o ≠ Reg.RNG_CNT r 1 := by unfold Reg.RNG_CNT; omega
  have h3 : o ≠ Reg.RNG_STATUS r := by unfold Reg.RNG_STATUS; omega
  have hb : (if l then s.bump (Reg.RNG_CNT r 1) else s).reg o = s.reg o := by
    split
    · exact reg_bump.trans (if_neg h2)
    · rfl
  unfold State.ringExhaustQuiet
  generalize (if l then s.bump (Reg.RNG_CNT r 1) else s) = t at hb ⊢
  dsimp only
  split
  · split
    · exact hb
    · rw [setRingX_reg, reg_setRb, if_neg h3, hb]
  · exact hb

theorem fireQuiet_reg {n back tap delta o : Nat} {a : Stamp} (hn : n < 64) (h : o / 0x10000 ≠ 22) :
    (s.fireQuiet n a back tap delta).1.reg o = s.reg o := by
  have h1 : o ≠ Reg.TRG_FIRED (n / 32) := by unfold Reg.TRG_FIRED; omega
  have h2 : o ≠ Reg.TRG_COUNT n := by unfold Reg.TRG_COUNT; omega
  have h3 : o ≠ Reg.TRG_CNT 7 := by unfold Reg.TRG_CNT; omega
  have h4 : o ≠ Reg.TRG_STATUS := by unfold Reg.TRG_STATUS; omega
  have hb : (((s.setRb (Reg.TRG_FIRED (n / 32)) (n % 32) true).bumpWrap (Reg.TRG_COUNT n)).bump (Reg.TRG_CNT 7)).reg o = s.reg o := by
    rw [reg_bump, if_neg h3, reg_bumpWrap, if_neg h2, reg_setRb, if_neg h1]
  have hm : ∀ t : State, t.reg o = s.reg o → ∀ (c : Bool) (m : List Mark), (if c then { t with marks := m } else t).reg o = s.reg o := by
    intro t ht c m
    cases c
    · exact ht
    · exact ht
  unfold State.fireQuiet
  dsimp only
  split
  · dsimp only
    rw [reg_setRb, if_neg h4]
    exact hm _ hb _ _
  · exact hm _ hb _ _

theorem fireEdge_reg {n o : Nat} {a : Stamp} (hn : n < 64) (h : o / 0x10000 ≠ 22) : (s.fireEdge n a).1.reg o = s.reg o := by
  unfold State.fireEdge
  dsimp only
  split
  · have h3 : o ≠ Reg.TRG_CNT 6 := by unfold Reg.TRG_CNT; omega
    dsimp only
    rw [reg_bump, if_neg h3]
  · rw [fireQuiet_reg hn h]; rfl

theorem eventTrigs_lt {e n : Nat} (h : n ∈ s.eventTrigs e) : n < 64 := by
  unfold State.eventTrigs at h
  split at h
  · exact List.mem_range.1 (List.mem_filter.1 h).1
  · exact absurd h (List.not_mem_nil)

/-- What holds of the state before a raise and is kept by each of its parts holds after it. -/
theorem raiseF_keeps (P : State → Prop) (n1 : ∀ s e inst, e < 64 → P s → P (s.raiseBase e inst))
    (n2 : ∀ s, P s → P (s.bumpWrap Reg.EVT_LOG_SEQ))
    (n3 : ∀ s b w, P s → P (s.ringReturnQuiet 23 b w).1) (n4 : ∀ s, P s → P (s.ringExhaustQuiet 23 true).1)
    (n5 : ∀ s m a, m < 64 → P s → P (s.fireEdge m a).1) :
    ∀ {fuel : Nat} {s : State} {e inst : Nat} {log : Bool}, e < 64 → P s → P (raiseF fuel s e inst log) := by
  intro fuel
  induction fuel with
  | zero => intro s e _ _ he h; exact n1 s e _ he h
  | succ n ih =>
    intro s e inst log he h
    have hfold : ∀ (l : List Nat) (t : State), (∀ n ∈ l, n < 64) → P t → P (l.foldl (fun s m =>
        let p := s.fireEdge m (s.tbNow s.acqTb)
        if p.2 then raiseF n p.1 48 m true else p.1) t) := by
      intro l
      induction l with
      | nil => intro t _ h; exact h
      | cons m l il =>
        intro t hl h
        have hm : m < 64 := hl m (List.mem_cons_self ..)
        rw [List.foldl_cons]
        refine il _ (fun k hk => hl k (List.mem_cons_of_mem _ hk)) ?_
        dsimp only
        split
        · exact ih (by omega) (n5 _ _ _ hm h)
        · exact n5 _ _ _ hm h
    have hlog : ∀ t : State, P t → P (if (log && t.rb Reg.EVT_LOG_CTRL 0 && t.rb (Reg.EVT_LOG_MASK (e / 32)) (e % 32)) = true then
        if (t.bumpWrap Reg.EVT_LOG_SEQ).ringReady 23 = true then
          if ((t.bumpWrap Reg.EVT_LOG_SEQ).ringReturnQuiet 23 ((t.bumpWrap Reg.EVT_LOG_SEQ).logEntry e inst) (statusWord false false false 0 0)).2 = true then
            raiseF n ((t.bumpWrap Reg.EVT_LOG_SEQ).ringReturnQuiet 23 ((t.bumpWrap Reg.EVT_LOG_SEQ).logEntry e inst) (statusWord false false false 0 0)).1 23 23 true
          else ((t.bumpWrap Reg.EVT_LOG_SEQ).ringReturnQuiet 23 ((t.bumpWrap Reg.EVT_LOG_SEQ).logEntry e inst) (statusWord false false false 0 0)).1
        else if ((t.bumpWrap Reg.EVT_LOG_SEQ).ringExhaustQuiet 23 true).2 = true then
          raiseF n ((t.bumpWrap Reg.EVT_LOG_SEQ).ringExhaustQuiet 23 true).1 24 23 false
        else ((t.bumpWrap Reg.EVT_LOG_SEQ).ringExhaustQuiet 23 true).1
      else t) := by
      intro t ht
      have hb := n2 t ht
      split
      · split
        · split
          · exact ih (by omega) (n3 _ _ _ hb)
          · exact n3 _ _ _ hb
        · split
          · exact ih (by omega) (n4 _ hb)
          · exact n4 _ hb
      · exact ht
    rw [raiseF]
    dsimp only
    split
    · exact hlog _ (n1 s e _ he h)
    · exact hfold _ _ (fun _ h => eventTrigs_lt h) (hlog _ (n1 s e _ he h))

theorem raiseBase_quiet {e inst o : Nat} (he : e < 64) (q : o / 0x10000 ≠ 1) : (s.raiseBase e inst).reg o = s.reg o := by
  have e1 : o ≠ Reg.EVT_CNT e := by unfold Reg.EVT_CNT; omega
  have e2 : o ≠ Reg.EVT_STATUS (e / 32) := by unfold Reg.EVT_STATUS; omega
  rw [raiseBase_reg, if_neg e1, if_neg e2]

/-- Raising an event writes no register outside EVT, RNG and TRG. -/
theorem raise_reg {e inst o : Nat} (he : e < 64) (q : Quiet o) : (s.raise e inst).reg o = s.reg o := by
  refine raiseF_keeps (fun t => t.reg o = s.reg o) (fun t e _ he h => (raiseBase_quiet he q.1).trans h) (fun t h => ?_)
    (fun t b w h => (ringReturnQuiet_reg (by omega) q.2.1).trans h) (fun t h => (ringExhaustQuiet_reg (by omega) q.2.1).trans h)
    (fun t m a hm h => (fireEdge_reg hm q.2.2).trans h) he rfl
  have := q.1
  exact reg_bumpWrap.trans ((if_neg (by unfold Reg.EVT_LOG_SEQ; omega)).trans h)

/-- A STATUS bit that is set stays set while an event is raised. -/
theorem raiseBase_status {e inst i : Nat} (he : e < 64) (hi : i < 64) (h : s.rb (Reg.EVT_STATUS (i / 32)) (i % 32) = true) :
    (s.raiseBase e inst).rb (Reg.EVT_STATUS (i / 32)) (i % 32) = true := by
  have e1 : Reg.EVT_STATUS (i / 32) ≠ Reg.EVT_CNT e := by unfold Reg.EVT_STATUS Reg.EVT_CNT; omega
  unfold State.rb at h ⊢
  rw [raiseBase_reg, if_neg e1]
  split
  · by_cases hb : i % 32 = e % 32
    · rw [hb, bit_setBit (by omega)]
    · rw [bit_setBit_ne (by omega) hb, h]
  · exact h

/-- A raise sets the STATUS bit of its event (R380). -/
theorem raiseBase_sets {e inst : Nat} (he : e < 64) : (s.raiseBase e inst).rb (Reg.EVT_STATUS (e / 32)) (e % 32) = true := by
  have e1 : Reg.EVT_STATUS (e / 32) ≠ Reg.EVT_CNT e := by unfold Reg.EVT_STATUS Reg.EVT_CNT; omega
  rw [State.rb, raiseBase_reg, if_neg e1, if_pos rfl, bit_setBit (by omega)]

theorem raiseF_status {fuel e i inst : Nat} {log : Bool} (he : e < 64) (hi : i < 64)
    (h : s.rb (Reg.EVT_STATUS (i / 32)) (i % 32) = true) :
    (raiseF fuel s e inst log).rb (Reg.EVT_STATUS (i / 32)) (i % 32) = true := by
  have e12 : (Reg.EVT_STATUS (i / 32)) / 0x10000 ≠ 12 := by unfold Reg.EVT_STATUS; omega
  have e22 : (Reg.EVT_STATUS (i / 32)) / 0x10000 ≠ 22 := by unfold Reg.EVT_STATUS; omega
  refine raiseF_keeps (fun t => t.rb (Reg.EVT_STATUS (i / 32)) (i % 32) = true) (fun t e _ he h => raiseBase_status he hi h)
    (fun t h => ?_) (fun t b w h => ?_) (fun t h => ?_) (fun t m a hm h => ?_) he h
  · rw [State.rb, reg_bumpWrap, if_neg (by unfold Reg.EVT_STATUS Reg.EVT_LOG_SEQ; omega)]; exact h
  · rw [State.rb, ringReturnQuiet_reg (by omega) e12]; exact h
  · rw [State.rb, ringExhaustQuiet_reg (by omega) e12]; exact h
  · rw [State.rb, fireEdge_reg hm e22]; exact h

/-- A STATUS bit that is set stays set while an event is raised. -/
theorem raise_status {e i inst : Nat} (he : e < 64) (hi : i < 64) (h : s.rb (Reg.EVT_STATUS (i / 32)) (i % 32) = true) :
    (s.raise e inst).rb (Reg.EVT_STATUS (i / 32)) (i % 32) = true := raiseF_status he hi h

/-- A raise sets the STATUS bit of its event (R380). -/
theorem raise_sets {e inst : Nat} (he : e < 64) : (s.raise e inst).rb (Reg.EVT_STATUS (e / 32)) (e % 32) = true := by
  have e12 : (Reg.EVT_STATUS (e / 32)) / 0x10000 ≠ 12 := by unfold Reg.EVT_STATUS; omega
  have key : ∀ fuel, (raiseF fuel s e inst true).rb (Reg.EVT_STATUS (e / 32)) (e % 32) = true := by
    intro fuel
    cases fuel with
    | zero => exact raiseBase_sets he
    | succ n =>
      have P : ∀ t : State, t.rb (Reg.EVT_STATUS (e / 32)) (e % 32) = true →
          (t.bumpWrap Reg.EVT_LOG_SEQ).rb (Reg.EVT_STATUS (e / 32)) (e % 32) = true := fun t h => by
        rw [State.rb, reg_bumpWrap, if_neg (by unfold Reg.EVT_STATUS Reg.EVT_LOG_SEQ; omega)]; exact h
      have hlog : ∀ t : State, t.rb (Reg.EVT_STATUS (e / 32)) (e % 32) = true →
          (if (true && t.rb Reg.EVT_LOG_CTRL 0 && t.rb (Reg.EVT_LOG_MASK (e / 32)) (e % 32)) = true then
            if (t.bumpWrap Reg.EVT_LOG_SEQ).ringReady 23 = true then
              if ((t.bumpWrap Reg.EVT_LOG_SEQ).ringReturnQuiet 23 ((t.bumpWrap Reg.EVT_LOG_SEQ).logEntry e inst) (statusWord false false false 0 0)).2 = true then
                raiseF n ((t.bumpWrap Reg.EVT_LOG_SEQ).ringReturnQuiet 23 ((t.bumpWrap Reg.EVT_LOG_SEQ).logEntry e inst) (statusWord false false false 0 0)).1 23 23 true
              else ((t.bumpWrap Reg.EVT_LOG_SEQ).ringReturnQuiet 23 ((t.bumpWrap Reg.EVT_LOG_SEQ).logEntry e inst) (statusWord false false false 0 0)).1
            else if ((t.bumpWrap Reg.EVT_LOG_SEQ).ringExhaustQuiet 23 true).2 = true then
              raiseF n ((t.bumpWrap Reg.EVT_LOG_SEQ).ringExhaustQuiet 23 true).1 24 23 false
            else ((t.bumpWrap Reg.EVT_LOG_SEQ).ringExhaustQuiet 23 true).1
          else t).rb (Reg.EVT_STATUS (e / 32)) (e % 32) = true := by
        intro t ht
        have hb := P t ht
        split
        · split
          · have hq : ∀ b w, ((t.bumpWrap Reg.EVT_LOG_SEQ).ringReturnQuiet 23 b w).1.rb (Reg.EVT_STATUS (e / 32)) (e % 32) = true :=
              fun b w => by rw [State.rb, ringReturnQuiet_reg (by omega) e12]; exact hb
            split
            · exact raiseF_status (by omega) he (hq _ _)
            · exact hq _ _
          · have hq : ((t.bumpWrap Reg.EVT_LOG_SEQ).ringExhaustQuiet 23 true).1.rb (Reg.EVT_STATUS (e / 32)) (e % 32) = true := by
              rw [State.rb, ringExhaustQuiet_reg (by omega) e12]; exact hb
            split
            · exact raiseF_status (by omega) he hq
            · exact hq
        · exact ht
      rw [raiseF]
      dsimp only
      have h0 := hlog _ (raiseBase_sets (s := s) (inst := inst) he)
      split
      · exact h0
      · have hf : ∀ (l : List Nat) (t : State), (∀ n ∈ l, n < 64) → t.rb (Reg.EVT_STATUS (e / 32)) (e % 32) = true →
            (l.foldl (fun s m =>
              let p := s.fireEdge m (s.tbNow s.acqTb)
              if p.2 then raiseF n p.1 48 m true else p.1) t).rb (Reg.EVT_STATUS (e / 32)) (e % 32) = true := by
          intro l
          induction l with
          | nil => intro t _ h; exact h
          | cons m l il =>
            intro t hl h
            have hm : m < 64 := hl m (List.mem_cons_self ..)
            have hq : (t.fireEdge m (t.tbNow t.acqTb)).1.rb (Reg.EVT_STATUS (e / 32)) (e % 32) = true := by
              rw [State.rb, fireEdge_reg hm (by unfold Reg.EVT_STATUS; omega)]; exact h
            rw [List.foldl_cons]
            refine il _ (fun k hk => hl k (List.mem_cons_of_mem _ hk)) ?_
            dsimp only
            split
            · exact raiseF_status (by omega) he hq
            · exact hq
        exact hf _ _ (fun _ h => eventTrigs_lt h) h0
  exact key _

/-- A flag with its event: the flag reads 1, every other quiet register as before. -/
theorem flagRaise_reg {off i e inst o : Nat} (he : e < 64) (q : Quiet o) :
    (s.flagRaise off i e inst).reg o = if o = off then setBit (s.reg off) i true else s.reg o := by
  rw [State.flagRaise, raise_reg he q, reg_setRb]

theorem flagRaise_sets {off i e inst : Nat} (he : e < 64) :
    (s.flagRaise off i e inst).rb (Reg.EVT_STATUS (e / 32)) (e % 32) = true := raise_sets he

end Sys2Proof.Machine
end

