-- ==== Sys2Proof/Laws/WithinOps.lean ====
section
/-! SUPPORT. What the shared operations, flags and rings may change: one lemma per function, its mask naming the fields of State as Laws/Within.lean numbers them. -/

-- One declaration after another: side by side, their threads' stacks pass the memory limit of a check.
set_option Elab.async false

namespace Sys2Proof.Machine

set_option linter.all false

theorem within_setReg (s : State) (off : ℕ) (w : Word) :
    Within 0x8 s (State.setReg s off w) := by
  unfold State.setReg
  repeat' first
  | with_reducible apply Within.refl
  | (with_reducible apply Within.upd
     any_goals (fail_if_success (with_reducible exact fun _ => rfl); exact fun b => absurd b (by decide))
     all_goals first | exact fun _ => rfl | exact fun b => absurd b (by decide) | with_reducible exact Nat.le_refl _ | with_reducible exact List.suffix_refl _ | exact id | exact Tab.wf_put | exact Tab.wf_clear | exact Tab.wf_putList | exact fun _ => rfl | exact fun c => Tab.wf_clear (Tab.wf_clear c) | skip)

theorem within_bumpBy (s : State) (off : ℕ) (n : ℕ) :
    Within 0x8 s (State.bumpBy s off n) := by
  unfold State.bumpBy
  repeat' first
  | with_reducible apply Within.refl
  | (with_reducible apply Within.after (within_setReg _ _ _); · decide)

theorem within_bump (s : State) (off : ℕ) :
    Within 0x8 s (State.bump s off) := by
  unfold State.bump
  repeat' first
  | with_reducible apply Within.refl
  | (with_reducible apply Within.after (within_bumpBy _ _ _); · decide)

theorem within_emit (s : State) (o : Output) :
    Within 0x80 s (State.emit s o) := by
  unfold State.emit
  repeat' first
  | with_reducible apply Within.refl
  | split
  | (with_reducible apply Within.upd
     any_goals (fail_if_success (with_reducible exact fun _ => rfl); exact fun b => absurd b (by decide))
     all_goals first | exact fun _ => rfl | exact fun b => absurd b (by decide) | with_reducible exact Nat.le_refl _ | with_reducible exact List.suffix_refl _ | exact id | exact List.suffix_cons _ _ | skip)

theorem within_setRb (s : State) (off : ℕ) (i : ℕ) (b : Bool) :
    Within 0x8 s (State.setRb s off i b) := by
  unfold State.setRb
  repeat' first
  | with_reducible apply Within.refl
  | (with_reducible apply Within.after (within_setReg _ _ _); · decide)

theorem within_bumpWrap (s : State) (off : ℕ) :
    Within 0x8 s (State.bumpWrap s off) := by
  unfold State.bumpWrap
  repeat' first
  | with_reducible apply Within.refl
  | (with_reducible apply Within.after (within_setReg _ _ _); · decide)

theorem within_setRf (s : State) (off : ℕ) (lo : ℕ) (n : ℕ) (v : ℕ) :
    Within 0x8 s (State.setRf s off lo n v) := by
  unfold State.setRf
  repeat' first
  | with_reducible apply Within.refl
  | (with_reducible apply Within.after (within_setReg _ _ _); · decide)

theorem within_hostWrite (s : State) (a : ℕ) (bs : List Byte) :
    Within 0x200 s (State.hostWrite s a bs) := by
  unfold State.hostWrite
  repeat' first
  | with_reducible apply Within.refl
  | split
  | (with_reducible apply Within.upd
     any_goals (fail_if_success (with_reducible exact fun _ => rfl); exact fun b => absurd b (by decide))
     all_goals first | exact fun _ => rfl | exact fun b => absurd b (by decide) | with_reducible exact Nat.le_refl _ | with_reducible exact List.suffix_refl _ | exact id | exact Tab.wf_put | exact Tab.wf_clear | exact Tab.wf_putList | exact fun _ => rfl | exact fun c => Tab.wf_clear (Tab.wf_clear c) | skip)

theorem within_publish (s : State) (off : ℕ) :
    Within 0x8 s (State.publish s off) := by
  unfold State.publish
  repeat' first
  | with_reducible apply Within.refl
  | (with_reducible apply Within.after (within_setRf _ _ _ _ _); · decide)
  | (with_reducible apply Within.after (within_setRb _ _ _ _); · decide)

theorem within_setTw (s : State) (off : ℕ) (w : Word) :
    Within 0x80000 s (State.setTw s off w) := by
  unfold State.setTw
  repeat' first
  | with_reducible apply Within.refl
  | (with_reducible apply Within.upd
     any_goals (fail_if_success (with_reducible exact fun _ => rfl); exact fun b => absurd b (by decide))
     all_goals first | exact fun _ => rfl | exact fun b => absurd b (by decide) | with_reducible exact Nat.le_refl _ | with_reducible exact List.suffix_refl _ | exact id | exact Tab.wf_put | exact Tab.wf_clear | exact Tab.wf_putList | exact fun _ => rfl | exact fun c => Tab.wf_clear (Tab.wf_clear c) | skip)

theorem within_unready (s : State) (off : ℕ) :
    Within 0x8 s (State.unready s off) := by
  unfold State.unready
  repeat' first
  | with_reducible apply Within.refl
  | (with_reducible apply Within.after (within_setRb _ _ _ _); · decide)

theorem within_hbmWrite (s : State) (a : ℕ) (bs : List Byte) :
    Within 0x100 s (State.hbmWrite s a bs) := by
  unfold State.hbmWrite
  repeat' first
  | with_reducible apply Within.refl
  | (with_reducible apply Within.upd
     any_goals (fail_if_success (with_reducible exact fun _ => rfl); exact fun b => absurd b (by decide))
     all_goals first | exact fun _ => rfl | exact fun b => absurd b (by decide) | with_reducible exact Nat.le_refl _ | with_reducible exact List.suffix_refl _ | exact id | exact Tab.wf_put | exact Tab.wf_clear | exact Tab.wf_putList | exact fun _ => rfl | exact fun c => Tab.wf_clear (Tab.wf_clear c) | skip)

theorem within_resetRegs (s : State) (lo : ℕ) (hi : ℕ) :
    Within 0x38 s (State.resetRegs s lo hi) := by
  unfold State.resetRegs
  repeat' first
  | with_reducible apply Within.refl
  | (with_reducible apply Within.upd
     any_goals (fail_if_success (with_reducible exact fun _ => rfl); exact fun b => absurd b (by decide))
     all_goals first | exact fun _ => rfl | exact fun b => absurd b (by decide) | with_reducible exact Nat.le_refl _ | with_reducible exact List.suffix_refl _ | exact id | exact Tab.wf_put | exact Tab.wf_clear | exact Tab.wf_putList | exact fun _ => rfl | exact fun c => Tab.wf_clear (Tab.wf_clear c) | skip)

theorem within_setTb (s : State) (n : ℕ) (t : TimeBase) :
    Within 0x800 s (State.setTb s n t) := by
  unfold State.setTb
  repeat' first
  | with_reducible apply Within.refl
  | (with_reducible apply Within.upd
     any_goals (fail_if_success (with_reducible exact fun _ => rfl); exact fun b => absurd b (by decide))
     all_goals first | exact fun _ => rfl | exact fun b => absurd b (by decide) | with_reducible exact Nat.le_refl _ | with_reducible exact List.suffix_refl _ | exact id | skip)

theorem within_memUe (s : State) (a : ℕ) :
    Within 0x8 s (State.memUe s a) := by
  unfold State.memUe
  repeat' first
  | with_reducible apply Within.refl
  | (with_reducible apply Within.after (within_setReg _ _ _); · decide)
  | (with_reducible apply Within.after (within_setRb _ _ _ _); · decide)
  | split

theorem within_memCe (s : State) (a : ℕ) :
    Within 0x8 s (State.memCe s a) := by
  unfold State.memCe
  repeat' first
  | with_reducible apply Within.refl
  | (with_reducible apply Within.after (within_bump _ _); · decide)

theorem within_draw (s : State) (w : ℕ) :
    Within 0x4 s (State.draw s w).2 := by
  unfold State.draw
  repeat' first
  | with_reducible apply Within.refl
  | (with_reducible apply Within.upd
     any_goals (fail_if_success (with_reducible exact fun _ => rfl); exact fun b => absurd b (by decide))
     all_goals first | exact fun _ => rfl | exact fun b => absurd b (by decide) | with_reducible exact Nat.le_refl _ | with_reducible exact List.suffix_refl _ | exact id | exact Nat.le_succ _ | skip)

theorem within_bumpPair (s : State) (lo : ℕ) (n : ℕ) :
    Within 0x8 s (State.bumpPair s lo n) := by
  unfold State.bumpPair
  repeat' first
  | with_reducible apply Within.refl
  | (with_reducible apply Within.after (within_setReg _ _ _); · decide)

theorem within_setStage (s : State) (off : ℕ) (w : Word) :
    Within 0x20 s (State.setStage s off w) := by
  unfold State.setStage
  repeat' first
  | with_reducible apply Within.refl
  | (with_reducible apply Within.upd
     any_goals (fail_if_success (with_reducible exact fun _ => rfl); exact fun b => absurd b (by decide))
     all_goals first | exact fun _ => rfl | exact fun b => absurd b (by decide) | with_reducible exact Nat.le_refl _ | with_reducible exact List.suffix_refl _ | exact id | exact Tab.wf_put | exact Tab.wf_clear | exact Tab.wf_putList | exact fun _ => rfl | exact fun c => Tab.wf_clear (Tab.wf_clear c) | skip)

theorem within_putStamp (s : State) (ns : ℕ) (t : Stamp) :
    Within 0x8 s (State.putStamp s ns t) := by
  unfold State.putStamp
  repeat' first
  | with_reducible apply Within.refl
  | (with_reducible apply Within.after (within_setReg _ _ _); · decide)

theorem within_setLatch (s : State) (off : ℕ) (w : Word) :
    Within 0x10 s (State.setLatch s off w) := by
  unfold State.setLatch
  repeat' first
  | with_reducible apply Within.refl
  | (with_reducible apply Within.upd
     any_goals (fail_if_success (with_reducible exact fun _ => rfl); exact fun b => absurd b (by decide))
     all_goals first | exact fun _ => rfl | exact fun b => absurd b (by decide) | with_reducible exact Nat.le_refl _ | with_reducible exact List.suffix_refl _ | exact id | exact Tab.wf_put | exact Tab.wf_clear | exact Tab.wf_putList | exact fun _ => rfl | exact fun c => Tab.wf_clear (Tab.wf_clear c) | skip)

theorem within_sendMsix (s : State) (v : ℕ) :
    Within 0xC0 s (State.sendMsix s v) := by
  unfold State.sendMsix
  repeat' first
  | with_reducible apply Within.refl
  | (with_reducible apply Within.after (within_emit _ _); · decide)
  | split
  | (with_reducible apply Within.upd
     any_goals (fail_if_success (with_reducible exact fun _ => rfl); exact fun b => absurd b (by decide))
     all_goals first | exact fun _ => rfl | exact fun b => absurd b (by decide) | with_reducible exact Nat.le_refl _ | with_reducible exact List.suffix_refl _ | exact id | skip)

theorem within_raiseBase (s : State) (e : ℕ) (inst : ℕ) :
    Within 0x40C8 s (State.raiseBase s e inst) := by
  unfold State.raiseBase
  repeat' first
  | with_reducible apply Within.refl
  | (with_reducible apply Within.after (within_bump _ _); · decide)
  | (with_reducible apply Within.after (within_sendMsix _ _); · decide)
  | (with_reducible apply Within.after (within_setRb _ _ _ _); · decide)
  | split
  | (with_reducible apply Within.upd
     any_goals (fail_if_success (with_reducible exact fun _ => rfl); exact fun b => absurd b (by decide))
     all_goals first | exact fun _ => rfl | exact fun b => absurd b (by decide) | with_reducible exact Nat.le_refl _ | with_reducible exact List.suffix_refl _ | exact id | skip)

theorem within_setTrig (s : State) (n : ℕ) (t : Trig) :
    Within 0x8000 s (State.setTrig s n t) := by
  unfold State.setTrig
  repeat' first
  | with_reducible apply Within.refl
  | (with_reducible apply Within.upd
     any_goals (fail_if_success (with_reducible exact fun _ => rfl); exact fun b => absurd b (by decide))
     all_goals first | exact fun _ => rfl | exact fun b => absurd b (by decide) | with_reducible exact Nat.le_refl _ | with_reducible exact List.suffix_refl _ | exact id | skip)

theorem within_fireQuiet (s : State) (n : ℕ) (anchor : Stamp) (back : ℕ) (tap : ℕ) (delta : ℕ) :
    Within 0x10008 s (State.fireQuiet s n anchor back tap delta).1 := by
  unfold State.fireQuiet
  repeat' first
  | (extract_lets +onlyGivenNames x; first
      | (refine (fun (h : Within 0x10008 s x) => ?_) ?_; clear_value x; rotate_left; subst x; rotate_left)
      | (refine (fun (h : Within 0x10008 s x.1) => ?_) ?_; clear_value x; rotate_left; subst x; rotate_left)
      | (refine (fun (h : Within 0x10008 s x.2) => ?_) ?_; clear_value x; rotate_left; subst x; rotate_left)
      | clear_value x
      | skip)
  | with_reducible apply Within.refl
  | with_reducible assumption
  | (with_reducible apply Within.after (within_bump _ _); · decide)
  | (with_reducible apply Within.after (within_bumpWrap _ _); · decide)
  | (with_reducible apply Within.after (within_setRb _ _ _ _); · decide)
  | split
  | (with_reducible apply Within.upd
     any_goals (fail_if_success (with_reducible exact fun _ => rfl); exact fun b => absurd b (by decide))
     all_goals first | exact fun _ => rfl | exact fun b => absurd b (by decide) | with_reducible exact Nat.le_refl _ | with_reducible exact List.suffix_refl _ | exact id | skip)

theorem within_fireEdge (s : State) (n : ℕ) (fire : Stamp) :
    Within 0x18008 s (State.fireEdge s n fire).1 := by
  unfold State.fireEdge
  repeat' first
  | (extract_lets +onlyGivenNames x; first
      | (refine (fun (h : Within 0x18008 s x) => ?_) ?_; clear_value x; rotate_left; subst x; rotate_left)
      | (refine (fun (h : Within 0x18008 s x.1) => ?_) ?_; clear_value x; rotate_left; subst x; rotate_left)
      | (refine (fun (h : Within 0x18008 s x.2) => ?_) ?_; clear_value x; rotate_left; subst x; rotate_left)
      | clear_value x
      | skip)
  | with_reducible apply Within.refl
  | (with_reducible apply Within.after (within_bump _ _); · decide)
  | (with_reducible apply Within.after (within_setTrig _ _ _); · decide)
  | (with_reducible apply Within.after (within_fireQuiet _ _ _ _ _ _); · decide)
  | split

theorem within_setRingX (s : State) (r : ℕ) (x : RingX) :
    Within 0x400 s (State.setRingX s r x) := by
  unfold State.setRingX
  repeat' first
  | with_reducible apply Within.refl
  | (with_reducible apply Within.upd
     any_goals (fail_if_success (with_reducible exact fun _ => rfl); exact fun b => absurd b (by decide))
     all_goals first | exact fun _ => rfl | exact fun b => absurd b (by decide) | with_reducible exact Nat.le_refl _ | with_reducible exact List.suffix_refl _ | exact id | skip)

theorem within_ringExhaustQuiet (s : State) (r : ℕ) (lost : Bool) :
    Within 0x408 s (State.ringExhaustQuiet s r lost).1 := by
  unfold State.ringExhaustQuiet
  repeat' first
  | (extract_lets +onlyGivenNames x; first
      | (refine (fun (h : Within 0x408 s x) => ?_) ?_; clear_value x; rotate_left; subst x; rotate_left)
      | (refine (fun (h : Within 0x408 s x.1) => ?_) ?_; clear_value x; rotate_left; subst x; rotate_left)
      | (refine (fun (h : Within 0x408 s x.2) => ?_) ?_; clear_value x; rotate_left; subst x; rotate_left)
      | clear_value x
      | skip)
  | with_reducible apply Within.refl
  | with_reducible assumption
  | (with_reducible apply Within.after (within_bump _ _); · decide)
  | (with_reducible apply Within.after (within_setRingX _ _ _); · decide)
  | (with_reducible apply Within.after (within_setRb _ _ _ _); · decide)
  | split

theorem within_ringReturnQuiet (s : State) (r : ℕ) (body : List Byte) (status : ℕ) :
    Within 0x608 s (State.ringReturnQuiet s r body status).1 := by
  unfold State.ringReturnQuiet
  repeat' first
  | (extract_lets +onlyGivenNames x; first
      | (refine (fun (h : Within 0x608 s x) => ?_) ?_; clear_value x; rotate_left; subst x; rotate_left)
      | (refine (fun (h : Within 0x608 s x.1) => ?_) ?_; clear_value x; rotate_left; subst x; rotate_left)
      | (refine (fun (h : Within 0x608 s x.2) => ?_) ?_; clear_value x; rotate_left; subst x; rotate_left)
      | clear_value x
      | skip)
  | with_reducible apply Within.refl
  | with_reducible assumption
  | (with_reducible apply Within.after (within_setRf _ _ _ _ _); · decide)
  | (with_reducible apply Within.after (within_bump _ _); · decide)
  | (with_reducible apply Within.after (within_hostWrite _ _ _); · decide)
  | (with_reducible apply Within.after (within_setRingX _ _ _); · decide)
  | (with_reducible apply Within.after (within_setRb _ _ _ _); · decide)
  | split

theorem within_raiseF (x0 : ℕ) (s : State) (x2 : ℕ) (x3 : ℕ) (x4 : Bool) :
    Within 0x1C6C8 s (raiseF x0 s x2 x3 x4) := by
  induction x0 generalizing s x2 x3 x4 with
  | zero =>
    unfold raiseF
    first | exact Within.refl _ | exact (within_raiseBase _ _ _).mono (by decide) | (split <;> exact Within.refl _)
  | succ n ih =>
    unfold raiseF
    repeat' first
    | (extract_lets +onlyGivenNames x; first
        | (refine (fun (h : Within 0x1C6C8 s x) => ?_) ?_; clear_value x; rotate_left; subst x; rotate_left)
        | (refine (fun (h : Within 0x1C6C8 s x.1) => ?_) ?_; clear_value x; rotate_left; subst x; rotate_left)
        | (refine (fun (h : Within 0x1C6C8 s x.2) => ?_) ?_; clear_value x; rotate_left; subst x; rotate_left)
        | clear_value x
        | skip)
    | with_reducible apply Within.refl
    | with_reducible assumption
    | (with_reducible apply Within.after (within_raiseBase _ _ _); · decide)
    | (with_reducible apply Within.after (within_fireEdge _ _ _); · decide)
    | (with_reducible apply Within.after (within_ringExhaustQuiet _ _ _); · decide)
    | (with_reducible apply Within.after (within_ringReturnQuiet _ _ _ _); · decide)
    | (with_reducible apply Within.after (within_bumpWrap _ _); · decide)
    | (with_reducible apply Within.after (ih _ _ _ _); · decide)
    | with_reducible apply Within.foldl
    | (with_reducible intro y a h)
    | split

theorem within_raise (s : State) (e : ℕ) (inst : ℕ) :
    Within 0x1C6C8 s (State.raise s e inst) := by
  unfold State.raise
  repeat' first
  | with_reducible apply Within.refl
  | (with_reducible apply Within.after (within_raiseF _ _ _ _ _); · decide)

theorem within_flagRaise (s : State) (off : ℕ) (i : ℕ) (e : ℕ) (inst : ℕ) :
    Within 0x1C6C8 s (State.flagRaise s off i e inst) := by
  unfold State.flagRaise
  repeat' first
  | with_reducible apply Within.refl
  | (with_reducible apply Within.after (within_raise _ _ _); · decide)
  | (with_reducible apply Within.after (within_setRb _ _ _ _); · decide)

theorem within_fireAtEdge (s : State) (n : ℕ) (fire : Stamp) :
    Within 0x1C6C8 s (State.fireAtEdge s n fire) := by
  unfold State.fireAtEdge
  repeat' first
  | (extract_lets +onlyGivenNames x; first
      | (refine (fun (h : Within 0x1C6C8 s x) => ?_) ?_; clear_value x; rotate_left; subst x; rotate_left)
      | (refine (fun (h : Within 0x1C6C8 s x.1) => ?_) ?_; clear_value x; rotate_left; subst x; rotate_left)
      | (refine (fun (h : Within 0x1C6C8 s x.2) => ?_) ?_; clear_value x; rotate_left; subst x; rotate_left)
      | clear_value x
      | skip)
  | with_reducible apply Within.refl
  | with_reducible assumption
  | (with_reducible apply Within.after (within_fireEdge _ _ _); · decide)
  | (with_reducible apply Within.after (within_raise _ _ _); · decide)
  | split

theorem within_fire (s : State) (n : ℕ) (anchor : Stamp) (back : ℕ) (tap : ℕ) (delta : ℕ) :
    Within 0x1C6C8 s (State.fire s n anchor back tap delta) := by
  unfold State.fire
  repeat' first
  | (extract_lets +onlyGivenNames x; first
      | (refine (fun (h : Within 0x1C6C8 s x) => ?_) ?_; clear_value x; rotate_left; subst x; rotate_left)
      | (refine (fun (h : Within 0x1C6C8 s x.1) => ?_) ?_; clear_value x; rotate_left; subst x; rotate_left)
      | (refine (fun (h : Within 0x1C6C8 s x.2) => ?_) ?_; clear_value x; rotate_left; subst x; rotate_left)
      | clear_value x
      | skip)
  | with_reducible apply Within.refl
  | with_reducible assumption
  | (with_reducible apply Within.after (within_raise _ _ _); · decide)
  | (with_reducible apply Within.after (within_fireQuiet _ _ _ _ _ _); · decide)
  | split

theorem within_msixAll (s : State) :
    Within 0xC0 s (State.msixAll s) := by
  unfold State.msixAll
  repeat' first
  | with_reducible apply Within.refl
  | with_reducible assumption
  | (with_reducible apply Within.after (within_sendMsix _ _); · decide)
  | with_reducible apply Within.foldl
  | (with_reducible intro y a h)
  | split

theorem within_msixSettle (s : State) :
    Within 0x40 s (State.msixSettle s) := by
  unfold State.msixSettle
  repeat' first
  | with_reducible apply Within.refl
  | with_reducible assumption
  | with_reducible apply Within.foldl
  | (with_reducible intro y a h)
  | split
  | (with_reducible apply Within.upd
     any_goals (fail_if_success (with_reducible exact fun _ => rfl); exact fun b => absurd b (by decide))
     all_goals first | exact fun _ => rfl | exact fun b => absurd b (by decide) | with_reducible exact Nat.le_refl _ | with_reducible exact List.suffix_refl _ | exact id | skip)

theorem within_msixRises (s : State) (before : State) :
    Within 0xC0 s (State.msixRises s before) := by
  unfold State.msixRises
  repeat' first
  | with_reducible apply Within.refl
  | with_reducible assumption
  | (with_reducible apply Within.after (within_sendMsix _ _); · decide)
  | with_reducible apply Within.foldl
  | (with_reducible intro y a h)
  | split

theorem within_msixRelease (s : State) (v : ℕ) :
    Within 0xC0 s (State.msixRelease s v) := by
  unfold State.msixRelease
  repeat' first
  | with_reducible apply Within.refl
  | (with_reducible apply Within.after (within_emit _ _); · decide)
  | split
  | (with_reducible apply Within.upd
     any_goals (fail_if_success (with_reducible exact fun _ => rfl); exact fun b => absurd b (by decide))
     all_goals first | exact fun _ => rfl | exact fun b => absurd b (by decide) | with_reducible exact Nat.le_refl _ | with_reducible exact List.suffix_refl _ | exact id | skip)

theorem within_ringEvent (s : State) (r : ℕ) :
    Within 0x1C6C8 s (State.ringEvent s r) := by
  unfold State.ringEvent
  repeat' first
  | with_reducible apply Within.refl
  | (with_reducible apply Within.after (within_raise _ _ _); · decide)
  | split

theorem within_ringReturn (s : State) (r : ℕ) (body : List Byte) (status : ℕ) :
    Within 0x1C6C8 s (State.ringReturn s r body status) := by
  unfold State.ringReturn
  repeat' first
  | (extract_lets +onlyGivenNames x; first
      | (refine (fun (h : Within 0x1C6C8 s x) => ?_) ?_; clear_value x; rotate_left; subst x; rotate_left)
      | (refine (fun (h : Within 0x1C6C8 s x.1) => ?_) ?_; clear_value x; rotate_left; subst x; rotate_left)
      | (refine (fun (h : Within 0x1C6C8 s x.2) => ?_) ?_; clear_value x; rotate_left; subst x; rotate_left)
      | clear_value x
      | skip)
  | with_reducible apply Within.refl
  | with_reducible assumption
  | (with_reducible apply Within.after (within_ringEvent _ _); · decide)
  | (with_reducible apply Within.after (within_ringReturnQuiet _ _ _ _); · decide)
  | split

theorem within_ringExhaust (s : State) (r : ℕ) (lost : Bool) :
    Within 0x1C6C8 s (State.ringExhaust s r lost) := by
  unfold State.ringExhaust
  repeat' first
  | (extract_lets +onlyGivenNames x; first
      | (refine (fun (h : Within 0x1C6C8 s x) => ?_) ?_; clear_value x; rotate_left; subst x; rotate_left)
      | (refine (fun (h : Within 0x1C6C8 s x.1) => ?_) ?_; clear_value x; rotate_left; subst x; rotate_left)
      | (refine (fun (h : Within 0x1C6C8 s x.2) => ?_) ?_; clear_value x; rotate_left; subst x; rotate_left)
      | clear_value x
      | skip)
  | with_reducible apply Within.refl
  | with_reducible assumption
  | (with_reducible apply Within.after (within_ringExhaustQuiet _ _ _); · decide)
  | (with_reducible apply Within.after (within_raise _ _ _); · decide)
  | split

theorem within_postRecord (s : State) (r : ℕ) (rec : List Byte) (w10 : ℕ) (w14 : ℕ) :
    Within 0x1C6C8 s (State.postRecord s r rec w10 w14) := by
  unfold State.postRecord
  repeat' first
  | (extract_lets +onlyGivenNames x; first
      | (refine (fun (h : Within 0x1C6C8 s x) => ?_) ?_; clear_value x; rotate_left; subst x; rotate_left)
      | (refine (fun (h : Within 0x1C6C8 s x.1) => ?_) ?_; clear_value x; rotate_left; subst x; rotate_left)
      | (refine (fun (h : Within 0x1C6C8 s x.2) => ?_) ?_; clear_value x; rotate_left; subst x; rotate_left)
      | clear_value x
      | skip)
  | with_reducible apply Within.refl
  | with_reducible assumption
  | (with_reducible apply Within.after (within_bump _ _); · decide)
  | (with_reducible apply Within.after (within_ringReturn _ _ _ _); · decide)
  | (with_reducible apply Within.after (within_raise _ _ _); · decide)
  | (with_reducible apply Within.after (within_hostWrite _ _ _); · decide)
  | (with_reducible apply Within.after (within_ringExhaust _ _ _); · decide)
  | (with_reducible apply Within.after (within_setRb _ _ _ _); · decide)
  | split

theorem within_returnFrame (r : ℕ) (i : FrameInfo) (frame : List Byte) (ok : Bool) (s : State) (x5 : Bool) (x6 : List (ℕ × Option (ℕ × ℕ))) :
    Within 0x1C6C8 s (returnFrame r i frame ok s x5 x6) := by
  induction x6 generalizing s x5 with
  | nil =>
    unfold returnFrame
    first | exact Within.refl _ | exact (Within.refl _).mono (by decide) | (split <;> exact Within.refl _)
  | cons a l ih =>
    unfold returnFrame
    repeat' first
    | with_reducible apply Within.refl
    | (with_reducible apply Within.after (within_ringReturn _ _ _ _); · decide)
    | (with_reducible apply Within.after (within_hostWrite _ _ _); · decide)
    | (with_reducible apply Within.after (ih _ _); · decide)
    | split

theorem within_postFrame (s : State) (r : ℕ) (frame : List Byte) (i : FrameInfo) :
    Within 0x1C6C8 s (State.postFrame s r frame i) := by
  unfold State.postFrame
  repeat' first
  | (extract_lets +onlyGivenNames x; first
      | (refine (fun (h : Within 0x1C6C8 s x) => ?_) ?_; clear_value x; rotate_left; subst x; rotate_left)
      | (refine (fun (h : Within 0x1C6C8 s x.1) => ?_) ?_; clear_value x; rotate_left; subst x; rotate_left)
      | (refine (fun (h : Within 0x1C6C8 s x.2) => ?_) ?_; clear_value x; rotate_left; subst x; rotate_left)
      | clear_value x
      | skip)
  | with_reducible apply Within.refl
  | with_reducible assumption
  | (with_reducible apply Within.after (within_bump _ _); · decide)
  | (with_reducible apply Within.after (within_ringExhaust _ _ _); · decide)
  | (with_reducible apply Within.after (within_returnFrame _ _ _ _ _ _ _); · decide)
  | split

theorem within_postDesc (s : State) (r : ℕ) (body : List Byte) :
    Within 0x1C6C8 s (State.postDesc s r body) := by
  unfold State.postDesc
  repeat' first
  | with_reducible apply Within.refl
  | (with_reducible apply Within.after (within_ringReturn _ _ _ _); · decide)
  | (with_reducible apply Within.after (within_ringExhaust _ _ _); · decide)
  | split

theorem within_ringOff (s : State) (r : ℕ) :
    Within 0x8 s (State.ringOff s r) := by
  unfold State.ringOff
  repeat' first
  | with_reducible apply Within.refl
  | (with_reducible apply Within.after (within_setRf _ _ _ _ _); · decide)

theorem within_ringEn (s : State) (r : ℕ) (en : Bool) :
    Within 0x408 s (State.ringEn s r en) := by
  unfold State.ringEn
  repeat' first
  | with_reducible apply Within.refl
  | (with_reducible apply Within.after (within_setRf _ _ _ _ _); · decide)
  | (with_reducible apply Within.after (within_setRingX _ _ _); · decide)
  | (with_reducible apply Within.after (within_ringOff _ _); · decide)
  | (with_reducible apply Within.after (within_setRb _ _ _ _); · decide)
  | split

theorem within_owedPost (x0 : List (List Byte × ℕ)) (s : State) :
    Within 0x1C6C8 s (State.owedPost x0 s) := by
  induction x0 generalizing s with
  | nil => exact Within.refl _
  | cons a l ih =>
    unfold State.owedPost
    split
    · exact Within.trans (Within.after (within_ringReturn _ _ _ _) (by decide)
        ((within_setRingX _ _ _).mono (by decide))) (ih _)
    · exact Within.refl _

theorem within_ring1Pump (s : State) :
    Within 0x1C6C8 s (State.ring1Pump s) := by
  unfold State.ring1Pump
  repeat' first
  | with_reducible apply Within.refl
  | (with_reducible apply Within.after (within_owedPost _ _); · decide)

theorem within_ringAbandon (s : State) (r : ℕ) :
    Within 0x1A0000008 s (State.ringAbandon s r) := by
  unfold State.ringAbandon
  repeat' first
  | with_reducible apply Within.refl
  | with_reducible assumption
  | (with_reducible apply Within.after (within_setRb _ _ _ _); · decide)
  | with_reducible apply Within.foldl
  | (with_reducible intro y a h)
  | split
  | (with_reducible apply Within.upd
     any_goals (fail_if_success (with_reducible exact fun _ => rfl); exact fun b => absurd b (by decide))
     all_goals first | exact fun _ => rfl | exact fun b => absurd b (by decide) | with_reducible exact Nat.le_refl _ | with_reducible exact List.suffix_refl _ | exact id | skip)

theorem within_postOwed (s : State) (body : List Byte) (status : ℕ) :
    Within 0x1C6C8 s (State.postOwed s body status) := by
  unfold State.postOwed
  repeat' first
  | (extract_lets +onlyGivenNames x; first
      | (refine (fun (h : Within 0x1C6C8 s x) => ?_) ?_; clear_value x; rotate_left; subst x; rotate_left)
      | (refine (fun (h : Within 0x1C6C8 s x.1) => ?_) ?_; clear_value x; rotate_left; subst x; rotate_left)
      | (refine (fun (h : Within 0x1C6C8 s x.2) => ?_) ?_; clear_value x; rotate_left; subst x; rotate_left)
      | clear_value x
      | skip)
  | with_reducible apply Within.refl
  | with_reducible assumption
  | (with_reducible apply Within.after (within_ring1Pump _); · decide)
  | (with_reducible apply Within.after (within_setRingX _ _ _); · decide)
  | (with_reducible apply Within.after (within_ringExhaust _ _ _); · decide)
  | split

theorem within_ringFail (s : State) (r : ℕ) (write : Bool) (work : Bool) (kind : ℕ) (addr : ℕ) :
    Within 0x1A003C6C8 s (State.ringFail s r write work kind addr) := by
  unfold State.ringFail
  repeat' first
  | with_reducible apply Within.refl
  | (with_reducible apply Within.after (within_setReg _ _ _); · decide)
  | (with_reducible apply Within.after (within_setRf _ _ _ _ _); · decide)
  | (with_reducible apply Within.after (within_bump _ _); · decide)
  | (with_reducible apply Within.after (within_flagRaise _ _ _ _ _); · decide)
  | (with_reducible apply Within.after (within_ringAbandon _ _); · decide)
  | (with_reducible apply Within.after (within_setRingX _ _ _); · decide)
  | (with_reducible apply Within.after (within_setRb _ _ _ _); · decide)
  | split
  | (with_reducible apply Within.upd
     any_goals (fail_if_success (with_reducible exact fun _ => rfl); exact fun b => absurd b (by decide))
     all_goals first | exact fun _ => rfl | exact fun b => absurd b (by decide) | with_reducible exact Nat.le_refl _ | with_reducible exact List.suffix_refl _ | exact id | skip)

end Sys2Proof.Machine
end

