-- ==== Sys2Proof/Laws/WithinTime.lean ====
section
/-! SUPPORT. What triggers, recorder, energy, acquisition and time bases may change: one lemma per function, its mask naming the fields of State as Laws/Within.lean numbers them. -/

-- One declaration after another: side by side, their threads' stacks pass the memory limit of a check.
set_option Elab.async false

namespace Sys2Proof.Machine

set_option linter.all false

theorem within_trigsDecision (s : State) (d : ℕ) (rising : Bool) :
    Within 0x1C6C8 s (State.trigsDecision s d rising) := by
  unfold State.trigsDecision
  repeat' first
  | with_reducible apply Within.refl
  | with_reducible assumption
  | (with_reducible apply Within.after (within_fireAtEdge _ _ _); · decide)
  | with_reducible apply Within.foldl
  | (with_reducible intro y a h)
  | split

theorem within_trigValue (s : State) (n : ℕ) (t : Stamp) (v : Word) :
    Within 0x1C6C8 s (State.trigValue s n t v) := by
  unfold State.trigValue
  repeat' first
  | (extract_lets +onlyGivenNames x; first
      | (refine (fun (h : Within 0x1C6C8 s x) => ?_) ?_; clear_value x; rotate_left; subst x; rotate_left)
      | (refine (fun (h : Within 0x1C6C8 s x.1) => ?_) ?_; clear_value x; rotate_left; subst x; rotate_left)
      | (refine (fun (h : Within 0x1C6C8 s x.2) => ?_) ?_; clear_value x; rotate_left; subst x; rotate_left)
      | clear_value x
      | skip)
  | with_reducible apply Within.refl
  | with_reducible assumption
  | (with_reducible apply Within.after (within_fire _ _ _ _ _ _); · decide)
  | (with_reducible apply Within.after (within_setTrig _ _ _); · decide)
  | split

theorem within_trigsPeriod (s : State) (c : ℕ) (t : Stamp) (val : ℕ → Bool → Word) :
    Within 0x1C6C8 s (State.trigsPeriod s c t val) := by
  unfold State.trigsPeriod
  repeat' first
  | with_reducible apply Within.refl
  | with_reducible assumption
  | (with_reducible apply Within.after (within_trigValue _ _ _ _); · decide)
  | with_reducible apply Within.foldl
  | (with_reducible intro y a h)

theorem within_trigsCut (s : State) (c : ℕ) :
    Within 0x8000 s (State.trigsCut s c) := by
  unfold State.trigsCut
  repeat' first
  | with_reducible apply Within.refl
  | with_reducible assumption
  | (with_reducible apply Within.after (within_setTrig _ _ _); · decide)
  | with_reducible apply Within.foldl
  | (with_reducible intro y a h)

theorem within_trigSample (s : State) (n : ℕ) (tap : ℕ) (y : Sample) :
    Within 0x1C6C8 s (State.trigSample s n tap y) := by
  unfold State.trigSample
  repeat' first
  | (extract_lets +onlyGivenNames x; first
      | (refine (fun (h : Within 0x1C6C8 s x) => ?_) ?_; clear_value x; rotate_left; subst x; rotate_left)
      | (refine (fun (h : Within 0x1C6C8 s x.1) => ?_) ?_; clear_value x; rotate_left; subst x; rotate_left)
      | (refine (fun (h : Within 0x1C6C8 s x.2) => ?_) ?_; clear_value x; rotate_left; subst x; rotate_left)
      | clear_value x
      | skip)
  | with_reducible apply Within.refl
  | with_reducible assumption
  | (with_reducible apply Within.after (within_fire _ _ _ _ _ _); · decide)
  | (with_reducible apply Within.after (within_setTrig _ _ _); · decide)
  | split

theorem within_trigsSample (s : State) (ch : ℕ) (tap : ℕ) (y : Sample) :
    Within 0x1C6C8 s (State.trigsSample s ch tap y) := by
  unfold State.trigsSample
  repeat' first
  | with_reducible apply Within.refl
  | with_reducible assumption
  | (with_reducible apply Within.after (within_trigSample _ _ _ _); · decide)
  | with_reducible apply Within.foldl
  | (with_reducible intro y a h)

theorem within_setEvtIn (s : State) (i : ℕ) (x : EvtIn) :
    Within 0x800000000000 s (State.setEvtIn s i x) := by
  unfold State.setEvtIn
  repeat' first
  | with_reducible apply Within.refl
  | (with_reducible apply Within.upd
     any_goals (fail_if_success (with_reducible exact fun _ => rfl); exact fun b => absurd b (by decide))
     all_goals first | exact fun _ => rfl | exact fun b => absurd b (by decide) | with_reducible exact Nat.le_refl _ | with_reducible exact List.suffix_refl _ | exact id | skip)

theorem within_trgHook (s : State) (off : ℕ) (old : Word) (v : Word) :
    Within 0x800000008000 s (State.trgHook s off old v) := by
  unfold State.trgHook
  repeat' first
  | with_reducible apply Within.refl
  | (with_reducible apply Within.after (within_setEvtIn _ _ _); · decide)
  | (with_reducible apply Within.after (within_setTrig _ _ _); · decide)
  | split

theorem within_trigsPin (s : State) (i : ℕ) (rising : Bool) (t : Stamp) :
    Within 0x1C6C8 s (State.trigsPin s i rising t) := by
  unfold State.trigsPin
  repeat' first
  | with_reducible apply Within.refl
  | with_reducible assumption
  | (with_reducible apply Within.after (within_fireAtEdge _ _ _); · decide)
  | with_reducible apply Within.foldl
  | (with_reducible intro y a h)
  | split

theorem within_evtAccept (s : State) (i : ℕ) (rising : Bool) (ph : ℕ) :
    Within 0x1C6C8 s (State.evtAccept s i rising ph) := by
  unfold State.evtAccept
  repeat' first
  | (extract_lets +onlyGivenNames x; first
      | (refine (fun (h : Within 0x1C6C8 s x) => ?_) ?_; clear_value x; rotate_left; subst x; rotate_left)
      | (refine (fun (h : Within 0x1C6C8 s x.1) => ?_) ?_; clear_value x; rotate_left; subst x; rotate_left)
      | (refine (fun (h : Within 0x1C6C8 s x.2) => ?_) ?_; clear_value x; rotate_left; subst x; rotate_left)
      | clear_value x
      | skip)
  | with_reducible apply Within.refl
  | with_reducible assumption
  | (with_reducible apply Within.after (within_bump _ _); · decide)
  | (with_reducible apply Within.after (within_publish _ _); · decide)
  | (with_reducible apply Within.after (within_trigsPin _ _ _ _); · decide)
  | (with_reducible apply Within.after (within_putStamp _ _ _); · decide)
  | (with_reducible apply Within.after (within_setRb _ _ _ _); · decide)
  | split

theorem within_evtInEdge (s : State) (i : ℕ) (rising : Bool) (ph : ℕ) (held : ℕ) :
    Within 0x80000001C6C8 s (State.evtInEdge s i rising ph held) := by
  unfold State.evtInEdge
  repeat' first
  | (extract_lets +onlyGivenNames x; first
      | (refine (fun (h : Within 0x80000001C6C8 s x) => ?_) ?_; clear_value x; rotate_left; subst x; rotate_left)
      | (refine (fun (h : Within 0x80000001C6C8 s x.1) => ?_) ?_; clear_value x; rotate_left; subst x; rotate_left)
      | (refine (fun (h : Within 0x80000001C6C8 s x.2) => ?_) ?_; clear_value x; rotate_left; subst x; rotate_left)
      | clear_value x
      | skip)
  | with_reducible apply Within.refl
  | with_reducible assumption
  | (with_reducible apply Within.after (within_bump _ _); · decide)
  | (with_reducible apply Within.after (within_setEvtIn _ _ _); · decide)
  | (with_reducible apply Within.after (within_evtAccept _ _ _ _); · decide)
  | split

theorem within_trigsPhasor (s : State) (c : ℕ) (t : Stamp) (val : ℕ → Word) :
    Within 0x1C6C8 s (State.trigsPhasor s c t val) := by
  unfold State.trigsPhasor
  repeat' first
  | with_reducible apply Within.refl
  | with_reducible assumption
  | (with_reducible apply Within.after (within_trigValue _ _ _ _); · decide)
  | with_reducible apply Within.foldl
  | (with_reducible intro y a h)

theorem within_setRec (s : State) (r : Recorder) :
    Within 0x20000 s (State.setRec s r) := by
  unfold State.setRec
  repeat' first
  | with_reducible apply Within.refl
  | (with_reducible apply Within.upd
     any_goals (fail_if_success (with_reducible exact fun _ => rfl); exact fun b => absurd b (by decide))
     all_goals first | exact fun _ => rfl | exact fun b => absurd b (by decide) | with_reducible exact Nat.le_refl _ | with_reducible exact List.suffix_refl _ | exact id | skip)

theorem within_recStopped (s : State) :
    Within 0x60008 s (State.recStopped s) := by
  unfold State.recStopped
  repeat' first
  | with_reducible apply Within.refl
  | (with_reducible apply Within.after (within_setRf _ _ _ _ _); · decide)
  | (with_reducible apply Within.after (within_publish _ _); · decide)
  | (with_reducible apply Within.after (within_unready _ _); · decide)
  | (with_reducible apply Within.after (within_setRec _ _); · decide)
  | (with_reducible apply Within.after (within_setRb _ _ _ _); · decide)
  | (with_reducible apply Within.upd
     any_goals (fail_if_success (with_reducible exact fun _ => rfl); exact fun b => absurd b (by decide))
     all_goals first | exact fun _ => rfl | exact fun b => absurd b (by decide) | with_reducible exact Nat.le_refl _ | with_reducible exact List.suffix_refl _ | exact id | skip)

theorem within_setLane (s : State) (ch : ℕ) (l : List Sample) :
    Within 0x40000 s (State.setLane s ch l) := by
  unfold State.setLane
  repeat' first
  | with_reducible apply Within.refl
  | (with_reducible apply Within.upd
     any_goals (fail_if_success (with_reducible exact fun _ => rfl); exact fun b => absurd b (by decide))
     all_goals first | exact fun _ => rfl | exact fun b => absurd b (by decide) | with_reducible exact Nat.le_refl _ | with_reducible exact List.suffix_refl _ | exact id | skip)

theorem within_laneTrim (s : State) (f : Stamp) :
    Within 0x40000 s (State.laneTrim s f) := by
  unfold State.laneTrim
  repeat' first
  | with_reducible apply Within.refl
  | with_reducible assumption
  | (with_reducible apply Within.after (within_setLane _ _ _); · decide)
  | with_reducible apply Within.foldl
  | (with_reducible intro y a h)

theorem within_recDrop (s : State) (mark : Bool) (frame : Option Stamp) :
    Within 0x3C6C8 s (State.recDrop s mark frame) := by
  unfold State.recDrop
  repeat' first
  | (extract_lets +onlyGivenNames x; first
      | (refine (fun (h : Within 0x3C6C8 s x) => ?_) ?_; clear_value x; rotate_left; subst x; rotate_left)
      | (refine (fun (h : Within 0x3C6C8 s x.1) => ?_) ?_; clear_value x; rotate_left; subst x; rotate_left)
      | (refine (fun (h : Within 0x3C6C8 s x.2) => ?_) ?_; clear_value x; rotate_left; subst x; rotate_left)
      | clear_value x
      | skip)
  | with_reducible apply Within.refl
  | with_reducible assumption
  | (with_reducible apply Within.after (within_bump _ _); · decide)
  | (with_reducible apply Within.after (within_flagRaise _ _ _ _ _); · decide)
  | (with_reducible apply Within.after (within_setRec _ _); · decide)
  | split

theorem within_recPush (s : State) (octets : List Byte) (mark : Bool) :
    Within 0x20008 s (State.recPush s octets mark) := by
  unfold State.recPush
  repeat' first
  | with_reducible apply Within.refl
  | (with_reducible apply Within.after (within_bump _ _); · decide)
  | (with_reducible apply Within.after (within_setRec _ _); · decide)

theorem within_recComplete (s : State) :
    Within 0x3C6C8 s (State.recComplete s) := by
  unfold State.recComplete
  repeat' first
  | with_reducible apply Within.refl
  | (with_reducible apply Within.after (within_ringReturn _ _ _ _); · decide)
  | (with_reducible apply Within.after (within_hostWrite _ _ _); · decide)
  | (with_reducible apply Within.after (within_setRingX _ _ _); · decide)
  | (with_reducible apply Within.after (within_setRec _ _); · decide)
  | split

theorem within_recMove (s : State) (i : RecItem) (rest : List RecItem) :
    Within 0x3C6C8 s (State.recMove s i rest).1 := by
  unfold State.recMove
  repeat' first
  | (extract_lets +onlyGivenNames x; first
      | (refine (fun (h : Within 0x3C6C8 s x) => ?_) ?_; clear_value x; rotate_left; subst x; rotate_left)
      | (refine (fun (h : Within 0x3C6C8 s x.1) => ?_) ?_; clear_value x; rotate_left; subst x; rotate_left)
      | (refine (fun (h : Within 0x3C6C8 s x.2) => ?_) ?_; clear_value x; rotate_left; subst x; rotate_left)
      | (have e : x = fun y => x y := rfl; clear e; subst x)
      | clear_value x
      | skip)
  | with_reducible apply Within.refl
  | with_reducible assumption
  | (with_reducible apply Within.after (within_setRingX _ _ _); · decide)
  | (with_reducible apply Within.after (within_setRec _ _); · decide)
  | (with_reducible apply Within.after (within_ringExhaust _ _ _); · decide)
  | (with_reducible apply Within.after (within_recComplete _); · decide)
  | split
  | dsimp -zeta -zetaHave -zetaUnused only

theorem within_recPumpN (x0 : ℕ) (s : State) :
    Within 0x3C6C8 s (recPumpN x0 s) := by
  induction x0 generalizing s with
  | zero =>
    unfold recPumpN
    first | exact Within.refl _ | exact (Within.refl _).mono (by decide) | (split <;> exact Within.refl _)
  | succ n ih =>
    unfold recPumpN
    repeat' first
    | (extract_lets +onlyGivenNames x; first
        | (refine (fun (h : Within 0x3C6C8 s x) => ?_) ?_; clear_value x; rotate_left; subst x; rotate_left)
        | (refine (fun (h : Within 0x3C6C8 s x.1) => ?_) ?_; clear_value x; rotate_left; subst x; rotate_left)
        | (refine (fun (h : Within 0x3C6C8 s x.2) => ?_) ?_; clear_value x; rotate_left; subst x; rotate_left)
        | clear_value x
        | skip)
    | with_reducible apply Within.refl
    | with_reducible assumption
    | (with_reducible apply Within.after (within_recMove _ _ _); · decide)
    | (with_reducible apply Within.after (ih _); · decide)
    | split

theorem within_recShow (s : State) :
    Within 0x8 s (State.recShow s) := by
  unfold State.recShow
  repeat' first
  | with_reducible apply Within.refl
  | (with_reducible apply Within.after (within_setRf _ _ _ _ _); · decide)

theorem within_recPump (s : State) :
    Within 0x3C6C8 s (State.recPump s) := by
  unfold State.recPump
  repeat' first
  | with_reducible apply Within.refl
  | (with_reducible apply Within.after (within_recPumpN _ _); · decide)
  | (with_reducible apply Within.after (within_recShow _); · decide)

theorem within_recGap (s : State) (next : Stamp) :
    Within 0x20008 s (State.recGap s next) := by
  unfold State.recGap
  repeat' first
  | (extract_lets +onlyGivenNames x; first
      | (refine (fun (h : Within 0x20008 s x) => ?_) ?_; clear_value x; rotate_left; subst x; rotate_left)
      | (refine (fun (h : Within 0x20008 s x.1) => ?_) ?_; clear_value x; rotate_left; subst x; rotate_left)
      | (refine (fun (h : Within 0x20008 s x.2) => ?_) ?_; clear_value x; rotate_left; subst x; rotate_left)
      | clear_value x
      | skip)
  | with_reducible apply Within.refl
  | with_reducible assumption
  | (with_reducible apply Within.after (within_bump _ _); · decide)
  | (with_reducible apply Within.after (within_recPush _ _ _); · decide)
  | (with_reducible apply Within.after (within_setRec _ _); · decide)
  | split

theorem within_recEmitFrame (s : State) (f : Stamp) (last : Bool) (resync : Bool) :
    Within 0x3C6C8 s (State.recEmitFrame s f last resync) := by
  unfold State.recEmitFrame
  repeat' first
  | with_reducible apply Within.refl
  | (with_reducible apply Within.after (within_recDrop _ _ _); · decide)
  | (with_reducible apply Within.after (within_recPush _ _ _); · decide)
  | (with_reducible apply Within.after (within_setRec _ _); · decide)
  | (with_reducible apply Within.after (within_recPump _); · decide)
  | (with_reducible apply Within.after (within_recGap _ _); · decide)
  | split

theorem within_recFrameOut (s : State) (resync : Bool) :
    Within 0x7C6C8 s (State.recFrameOut s resync) := by
  unfold State.recFrameOut
  repeat' first
  | with_reducible apply Within.refl
  | (with_reducible apply Within.after (within_recStopped _); · decide)
  | (with_reducible apply Within.after (within_laneTrim _ _); · decide)
  | (with_reducible apply Within.after (within_recEmitFrame _ _ _ _); · decide)
  | (with_reducible apply Within.after (within_setRec _ _); · decide)
  | (with_reducible apply Within.after (within_recPump _); · decide)
  | split

theorem within_recRestart (s : State) (old : Stamp) (now : Stamp) :
    Within 0x7C6C8 s (State.recRestart s old now) := by
  unfold State.recRestart
  repeat' first
  | (extract_lets +onlyGivenNames x; first
      | (refine (fun (h : Within 0x7C6C8 s x) => ?_) ?_; clear_value x; rotate_left; subst x; rotate_left)
      | (refine (fun (h : Within 0x7C6C8 s x.1) => ?_) ?_; clear_value x; rotate_left; subst x; rotate_left)
      | (refine (fun (h : Within 0x7C6C8 s x.2) => ?_) ?_; clear_value x; rotate_left; subst x; rotate_left)
      | clear_value x
      | skip)
  | with_reducible apply Within.refl
  | with_reducible assumption
  | (with_reducible apply Within.after (within_setRec _ _); · decide)
  | (with_reducible apply Within.after (within_recFrameOut _ _); · decide)
  | with_reducible apply Within.foldl
  | (with_reducible intro y a h)
  | split
  | (with_reducible apply Within.upd
     any_goals (fail_if_success (with_reducible exact fun _ => rfl); exact fun b => absurd b (by decide))
     all_goals first | exact fun _ => rfl | exact fun b => absurd b (by decide) | with_reducible exact Nat.le_refl _ | with_reducible exact List.suffix_refl _ | exact id | skip)

theorem within_laneTake (s : State) (ch : ℕ) (tap : ℕ) (y : Sample) :
    Within 0x40000 s (State.laneTake s ch tap y) := by
  unfold State.laneTake
  repeat' first
  | with_reducible apply Within.refl
  | (with_reducible apply Within.after (within_setLane _ _ _); · decide)
  | split

theorem within_recResult (s : State) (res : ℕ) :
    Within 0x8 s (State.recResult s res) := by
  unfold State.recResult
  repeat' first
  | with_reducible apply Within.refl
  | (with_reducible apply Within.after (within_setRf _ _ _ _ _); · decide)
  | (with_reducible apply Within.after (within_publish _ _); · decide)
  | (with_reducible apply Within.after (within_setRb _ _ _ _); · decide)

theorem within_recStop (s : State) :
    Within 0x60008 s (State.recStop s) := by
  unfold State.recStop
  repeat' first
  | (extract_lets +onlyGivenNames x; first
      | (refine (fun (h : Within 0x60008 s x) => ?_) ?_; clear_value x; rotate_left; subst x; rotate_left)
      | (refine (fun (h : Within 0x60008 s x.1) => ?_) ?_; clear_value x; rotate_left; subst x; rotate_left)
      | (refine (fun (h : Within 0x60008 s x.2) => ?_) ?_; clear_value x; rotate_left; subst x; rotate_left)
      | clear_value x
      | skip)
  | with_reducible apply Within.refl
  | with_reducible assumption
  | (with_reducible apply Within.after (within_recStopped _); · decide)
  | (with_reducible apply Within.after (within_recResult _ _); · decide)
  | (with_reducible apply Within.after (within_unready _ _); · decide)
  | (with_reducible apply Within.after (within_setRec _ _); · decide)
  | split

theorem within_recStart (s : State) :
    Within 0x60008 s (State.recStart s) := by
  unfold State.recStart
  repeat' first
  | with_reducible apply Within.refl
  | (with_reducible apply Within.after (within_recResult _ _); · decide)
  | (with_reducible apply Within.after (within_unready _ _); · decide)
  | (with_reducible apply Within.after (within_setRec _ _); · decide)
  | (with_reducible apply Within.after (within_setRb _ _ _ _); · decide)
  | split
  | (with_reducible apply Within.upd
     any_goals (fail_if_success (with_reducible exact fun _ => rfl); exact fun b => absurd b (by decide))
     all_goals first | exact fun _ => rfl | exact fun b => absurd b (by decide) | with_reducible exact Nat.le_refl _ | with_reducible exact List.suffix_refl _ | exact id | skip)

theorem within_recHook (s : State) (off : ℕ) (v : Word) :
    Within 0x60008 s (State.recHook s off v) := by
  unfold State.recHook
  repeat' first
  | with_reducible apply Within.refl
  | (with_reducible apply Within.after (within_recStop _); · decide)
  | (with_reducible apply Within.after (within_recStart _); · decide)
  | split

theorem within_markHoldClose (s : State) :
    Within 0x3C6C8 s (State.markHoldClose s) := by
  unfold State.markHoldClose
  repeat' first
  | with_reducible apply Within.refl
  | (with_reducible apply Within.after (within_bump _ _); · decide)
  | (with_reducible apply Within.after (within_recDrop _ _ _); · decide)
  | (with_reducible apply Within.after (within_recPush _ _ _); · decide)
  | (with_reducible apply Within.after (within_recPump _); · decide)
  | (with_reducible apply Within.after (within_recGap _ _); · decide)
  | split
  | (with_reducible apply Within.upd
     any_goals (fail_if_success (with_reducible exact fun _ => rfl); exact fun b => absurd b (by decide))
     all_goals first | exact fun _ => rfl | exact fun b => absurd b (by decide) | with_reducible exact Nat.le_refl _ | with_reducible exact List.suffix_refl _ | exact id | skip)

theorem within_recorderFlush (s : State) :
    Within 0x3C6C8 s (State.recorderFlush s) := by
  unfold State.recorderFlush
  repeat' first
  | with_reducible apply Within.refl
  | (with_reducible apply Within.after (within_recPump _); · decide)
  | (with_reducible apply Within.after (within_recComplete _); · decide)
  | split

theorem within_recorderFrame (s : State) :
    Within 0x7C6C8 s (State.recorderFrame s) := by
  unfold State.recorderFrame
  repeat' first
  | with_reducible apply Within.refl
  | (with_reducible apply Within.after (within_recFrameOut _ _); · decide)
  | split

theorem within_setNrg (s : State) (c : ℕ) (x : NrgCirc) :
    Within 0x800000 s (State.setNrg s c x) := by
  unfold State.setNrg
  repeat' first
  | with_reducible apply Within.refl
  | (with_reducible apply Within.upd
     any_goals (fail_if_success (with_reducible exact fun _ => rfl); exact fun b => absurd b (by decide))
     all_goals first | exact fun _ => rfl | exact fun b => absurd b (by decide) | with_reducible exact Nat.le_refl _ | with_reducible exact List.suffix_refl _ | exact id | skip)

theorem within_detChange (s : State) (c : ℕ) (statusBit : ℕ) (regOff : ℕ) (v : Bool) (flag : ℕ) (event : ℕ) (evt : Bool) :
    Within 0x1C6C8 s (State.detChange s c statusBit regOff v flag event evt) := by
  unfold State.detChange
  repeat' first
  | with_reducible apply Within.refl
  | (with_reducible apply Within.after (within_raise _ _ _); · decide)
  | (with_reducible apply Within.after (within_setRb _ _ _ _); · decide)
  | split

theorem within_detNeu (s : State) (c : ℕ) (mean : F64) (vn : F64) :
    Within 0x81C6C8 s (State.detNeu s c mean vn) := by
  unfold State.detNeu
  repeat' first
  | (extract_lets +onlyGivenNames x; first
      | (refine (fun (h : Within 0x81C6C8 s x) => ?_) ?_; clear_value x; rotate_left; subst x; rotate_left)
      | (refine (fun (h : Within 0x81C6C8 s x.1) => ?_) ?_; clear_value x; rotate_left; subst x; rotate_left)
      | (refine (fun (h : Within 0x81C6C8 s x.2) => ?_) ?_; clear_value x; rotate_left; subst x; rotate_left)
      | clear_value x
      | skip)
  | with_reducible apply Within.refl
  | with_reducible assumption
  | (with_reducible apply Within.after (within_setNrg _ _ _); · decide)
  | (with_reducible apply Within.after (within_detChange _ _ _ _ _ _ _ _); · decide)
  | split

theorem within_nrgCmdDone (s : State) (res : ℕ) (t : Stamp) :
    Within 0x8 s (State.nrgCmdDone s res t) := by
  unfold State.nrgCmdDone
  repeat' first
  | with_reducible apply Within.refl
  | (with_reducible apply Within.after (within_setReg _ _ _); · decide)
  | (with_reducible apply Within.after (within_setRf _ _ _ _ _); · decide)
  | (with_reducible apply Within.after (within_publish _ _); · decide)
  | (with_reducible apply Within.after (within_setRb _ _ _ _); · decide)

theorem within_setAcc (s : State) (c : ℕ) (a : ℕ) (v : ℕ) :
    Within 0x1000000 s (State.setAcc s c a v) := by
  unfold State.setAcc
  repeat' first
  | with_reducible apply Within.refl
  | (with_reducible apply Within.upd
     any_goals (fail_if_success (with_reducible exact fun _ => rfl); exact fun b => absurd b (by decide))
     all_goals first | exact fun _ => rfl | exact fun b => absurd b (by decide) | with_reducible exact Nat.le_refl _ | with_reducible exact List.suffix_refl _ | exact id | skip)

theorem within_nrgOp (s : State) (op : ℕ) (c : ℕ) :
    Within 0x1080000 s (State.nrgOp s op c) := by
  unfold State.nrgOp
  repeat' first
  | with_reducible apply Within.refl
  | with_reducible assumption
  | (with_reducible apply Within.after (within_setTw _ _ _); · decide)
  | (with_reducible apply Within.after (within_setAcc _ _ _ _); · decide)
  | with_reducible apply Within.foldl
  | (with_reducible intro y a h)
  | split

theorem within_nrgCmdAt (s : State) (c : ℕ) (t : Stamp) :
    Within 0x3080008 s (State.nrgCmdAt s c t) := by
  unfold State.nrgCmdAt
  repeat' first
  | with_reducible apply Within.refl
  | (with_reducible apply Within.after (within_nrgCmdDone _ _ _); · decide)
  | (with_reducible apply Within.after (within_nrgOp _ _ _); · decide)
  | split
  | (with_reducible apply Within.upd
     any_goals (fail_if_success (with_reducible exact fun _ => rfl); exact fun b => absurd b (by decide))
     all_goals first | exact fun _ => rfl | exact fun b => absurd b (by decide) | with_reducible exact Nat.le_refl _ | with_reducible exact List.suffix_refl _ | exact id | skip)

theorem within_nrgCmdEnd (s : State) (c : ℕ) :
    Within 0x3080008 s (State.nrgCmdEnd s c) := by
  unfold State.nrgCmdEnd
  repeat' first
  | with_reducible apply Within.refl
  | (with_reducible apply Within.after (within_nrgCmdAt _ _ _); · decide)
  | split

theorem within_nrgBegin (s : State) (c : ℕ) (r : NrgRun) :
    Within 0x800008 s (State.nrgBegin s c r) := by
  unfold State.nrgBegin
  repeat' first
  | with_reducible apply Within.refl
  | (with_reducible apply Within.after (within_setReg _ _ _); · decide)
  | (with_reducible apply Within.after (within_setNrg _ _ _); · decide)
  | (with_reducible apply Within.after (within_setRb _ _ _ _); · decide)

theorem within_nrgOver (s : State) (c : ℕ) :
    Within 0x3880008 s (State.nrgOver s c) := by
  unfold State.nrgOver
  repeat' first
  | (extract_lets +onlyGivenNames x; first
      | (refine (fun (h : Within 0x3880008 s x) => ?_) ?_; clear_value x; rotate_left; subst x; rotate_left)
      | (refine (fun (h : Within 0x3880008 s x.1) => ?_) ?_; clear_value x; rotate_left; subst x; rotate_left)
      | (refine (fun (h : Within 0x3880008 s x.2) => ?_) ?_; clear_value x; rotate_left; subst x; rotate_left)
      | clear_value x
      | skip)
  | with_reducible apply Within.refl
  | (with_reducible apply Within.after (within_setNrg _ _ _); · decide)
  | (with_reducible apply Within.after (within_nrgCmdEnd _ _); · decide)
  | (with_reducible apply Within.after (within_nrgBegin _ _ _); · decide)
  | split

theorem within_intervalClose (s : State) (c : ℕ) (t : Stamp) (extra : ℕ) (next : ℕ) :
    Within 0x81C6C8 s (State.intervalClose s c t extra next) := by
  unfold State.intervalClose
  repeat' first
  | with_reducible apply Within.refl
  | (with_reducible apply Within.after (within_setNrg _ _ _); · decide)
  | (with_reducible apply Within.after (within_postRecord _ _ _ _ _); · decide)

theorem within_nrgStop (s : State) (c : ℕ) :
    Within 0x389C6C8 s (State.nrgStop s c) := by
  unfold State.nrgStop
  repeat' first
  | with_reducible apply Within.refl
  | (with_reducible apply Within.after (within_nrgOver _ _); · decide)
  | (with_reducible apply Within.after (within_intervalClose _ _ _ _ _); · decide)

theorem within_corrTake (s : State) (c : ℕ) :
    Within 0x800000 s (State.corrTake s c) := by
  unfold State.corrTake
  repeat' first
  | with_reducible apply Within.refl
  | (with_reducible apply Within.after (within_setNrg _ _ _); · decide)
  | (with_reducible apply Within.after (within_setRb _ _ _ _); · decide)

theorem within_detSeq (s : State) (c : ℕ) (va : C64) (vb : C64) (vc : C64) :
    Within 0x81C6C8 s (State.detSeq s c va vb vc) := by
  unfold State.detSeq
  repeat' first
  | (extract_lets +onlyGivenNames x; first
      | (refine (fun (h : Within 0x81C6C8 s x) => ?_) ?_; clear_value x; rotate_left; subst x; rotate_left)
      | (refine (fun (h : Within 0x81C6C8 s x.1) => ?_) ?_; clear_value x; rotate_left; subst x; rotate_left)
      | (refine (fun (h : Within 0x81C6C8 s x.2) => ?_) ?_; clear_value x; rotate_left; subst x; rotate_left)
      | clear_value x
      | skip)
  | with_reducible apply Within.refl
  | with_reducible assumption
  | (with_reducible apply Within.after (within_setNrg _ _ _); · decide)
  | (with_reducible apply Within.after (within_detChange _ _ _ _ _ _ _ _); · decide)
  | split

theorem within_setDir (s : State) (c : ℕ) (export_ : Bool) :
    Within 0x8 s (State.setDir s c export_) := by
  unfold State.setDir
  repeat' first
  | with_reducible apply Within.refl
  | (with_reducible apply Within.after (within_setRb _ _ _ _); · decide)

theorem within_detDir (s : State) (c : ℕ) (e : F64) :
    Within 0x81C6C8 s (State.detDir s c e) := by
  unfold State.detDir
  repeat' first
  | (extract_lets +onlyGivenNames x; first
      | (refine (fun (h : Within 0x81C6C8 s x) => ?_) ?_; clear_value x; rotate_left; subst x; rotate_left)
      | (refine (fun (h : Within 0x81C6C8 s x.1) => ?_) ?_; clear_value x; rotate_left; subst x; rotate_left)
      | (refine (fun (h : Within 0x81C6C8 s x.2) => ?_) ?_; clear_value x; rotate_left; subst x; rotate_left)
      | clear_value x
      | skip)
  | with_reducible apply Within.refl
  | with_reducible assumption
  | (with_reducible apply Within.after (within_setNrg _ _ _); · decide)
  | (with_reducible apply Within.after (within_raise _ _ _); · decide)
  | (with_reducible apply Within.after (within_setDir _ _ _); · decide)
  | (with_reducible apply Within.after (within_setRb _ _ _ _); · decide)
  | split

theorem within_addView (s : State) (c : ℕ) (v : ℕ) (xs : List (ℕ × ℕ)) :
    Within 0x1000000 s (State.addView s c v xs) := by
  unfold State.addView
  repeat' first
  | with_reducible apply Within.refl
  | with_reducible assumption
  | (with_reducible apply Within.after (within_setAcc _ _ _ _); · decide)
  | with_reducible apply Within.foldl
  | (with_reducible intro y a h)

theorem within_setPulse (s : State) (n : ℕ) (p : Pulse) :
    Within 0x4000000 s (State.setPulse s n p) := by
  unfold State.setPulse
  repeat' first
  | with_reducible apply Within.refl
  | (with_reducible apply Within.upd
     any_goals (fail_if_success (with_reducible exact fun _ => rfl); exact fun b => absurd b (by decide))
     all_goals first | exact fun _ => rfl | exact fun b => absurd b (by decide) | with_reducible exact Nat.le_refl _ | with_reducible exact List.suffix_refl _ | exact id | skip)

theorem within_pulseStep (s : State) (c : ℕ) (x : NrgCirc) (gain : ℕ → ℕ) (n : ℕ) :
    Within 0x4000008 s (State.pulseStep s c x gain n) := by
  unfold State.pulseStep
  repeat' first
  | (extract_lets +onlyGivenNames x; first
      | (refine (fun (h : Within 0x4000008 s x) => ?_) ?_; clear_value x; rotate_left; subst x; rotate_left)
      | (refine (fun (h : Within 0x4000008 s x.1) => ?_) ?_; clear_value x; rotate_left; subst x; rotate_left)
      | (refine (fun (h : Within 0x4000008 s x.2) => ?_) ?_; clear_value x; rotate_left; subst x; rotate_left)
      | clear_value x
      | skip)
  | with_reducible apply Within.refl
  | with_reducible assumption
  | (with_reducible apply Within.after (within_setPulse _ _ _); · decide)
  | (with_reducible apply Within.after (within_setRb _ _ _ _); · decide)
  | split

theorem within_account (s : State) (c : ℕ) :
    Within 0x789C6C8 s (State.account s c) := by
  unfold State.account
  repeat' first
  | (extract_lets +onlyGivenNames x; first
      | (refine (fun (h : Within 0x789C6C8 s x) => ?_) ?_; clear_value x; rotate_left; subst x; rotate_left)
      | (refine (fun (h : Within 0x789C6C8 s x.1) => ?_) ?_; clear_value x; rotate_left; subst x; rotate_left)
      | (refine (fun (h : Within 0x789C6C8 s x.2) => ?_) ?_; clear_value x; rotate_left; subst x; rotate_left)
      | clear_value x
      | skip)
  | with_reducible apply Within.refl
  | with_reducible assumption
  | (with_reducible apply Within.after (within_detNeu _ _ _ _); · decide)
  | (with_reducible apply Within.after (within_nrgStop _ _); · decide)
  | (with_reducible apply Within.after (within_setNrg _ _ _); · decide)
  | (with_reducible apply Within.after (within_corrTake _ _); · decide)
  | (with_reducible apply Within.after (within_detSeq _ _ _ _ _); · decide)
  | (with_reducible apply Within.after (within_detDir _ _ _); · decide)
  | (with_reducible apply Within.after (within_nrgCmdAt _ _ _); · decide)
  | (with_reducible apply Within.after (within_addView _ _ _ _); · decide)
  | (with_reducible apply Within.after (within_pulseStep _ _ _ _ _); · decide)
  | (with_reducible apply Within.after (within_trigsPeriod _ _ _ _); · decide)
  | (with_reducible apply Within.after (within_bumpWrap _ _); · decide)
  | (with_reducible apply Within.after (within_setRb _ _ _ _); · decide)
  | with_reducible apply Within.foldl
  | (with_reducible intro y a h)
  | split

theorem within_setChan (s : State) (ch : ℕ) (c : Chan) :
    Within 0x100000 s (State.setChan s ch c) := by
  unfold State.setChan
  repeat' first
  | with_reducible apply Within.refl
  | (with_reducible apply Within.upd
     any_goals (fail_if_success (with_reducible exact fun _ => rfl); exact fun b => absurd b (by decide))
     all_goals first | exact fun _ => rfl | exact fun b => absurd b (by decide) | with_reducible exact Nat.le_refl _ | with_reducible exact List.suffix_refl _ | exact id | skip)

theorem within_intervalEnd (s : State) (c : ℕ) :
    Within 0x2000000081C6C8 s (State.intervalEnd s c) := by
  unfold State.intervalEnd
  repeat' first
  | with_reducible apply Within.refl
  | (with_reducible apply Within.after (within_flagRaise _ _ _ _ _); · decide)
  | (with_reducible apply Within.after (within_intervalClose _ _ _ _ _); · decide)
  | split
  | (with_reducible apply Within.upd
     any_goals (fail_if_success (with_reducible exact fun _ => rfl); exact fun b => absurd b (by decide))
     all_goals first | exact fun _ => rfl | exact fun b => absurd b (by decide) | with_reducible exact Nat.le_refl _ | with_reducible exact List.suffix_refl _ | exact id | skip)

theorem within_nrgDrain (t : Stamp) (c : ℕ) (x2 : ℕ) (s : State) :
    Within 0x2000000789C6C8 s (State.nrgDrain t c x2 s) := by
  induction x2 generalizing s with
  | zero => exact Within.refl _
  | succ n ih =>
    unfold State.nrgDrain
    extract_lets x
    split
    · exact ((within_intervalEnd _ _).mono (by decide)).trans (ih _)
    · split
      · exact ((within_account _ _).mono (by decide)).trans (ih _)
      · exact Within.refl _

theorem within_nrgStep (s : State) (c : ℕ) (old : Stamp) (now : Stamp) :
    Within 0x2000000789C6C8 s (State.nrgStep s c old now) := by
  unfold State.nrgStep
  repeat' first
  | (extract_lets +onlyGivenNames x; first
      | (refine (fun (h : Within 0x2000000789C6C8 s x) => ?_) ?_; clear_value x; rotate_left; subst x; rotate_left)
      | (refine (fun (h : Within 0x2000000789C6C8 s x.1) => ?_) ?_; clear_value x; rotate_left; subst x; rotate_left)
      | (refine (fun (h : Within 0x2000000789C6C8 s x.2) => ?_) ?_; clear_value x; rotate_left; subst x; rotate_left)
      | clear_value x
      | skip)
  | with_reducible apply Within.refl
  | with_reducible assumption
  | (with_reducible apply Within.after (within_setNrg _ _ _); · decide)
  | (with_reducible apply Within.after (within_nrgOver _ _); · decide)
  | (with_reducible apply Within.after (within_nrgDrain _ _ _ _); · decide)
  | (with_reducible apply Within.after (within_nrgCmdEnd _ _); · decide)
  | (with_reducible apply Within.after (within_intervalClose _ _ _ _ _); · decide)
  | split

theorem within_nrgRestart (s : State) (old : Stamp) (now : Stamp) :
    Within 0x2000000789C6C8 s (State.nrgRestart s old now) := by
  unfold State.nrgRestart
  repeat' first
  | (extract_lets +onlyGivenNames x; first
      | (refine (fun (h : Within 0x2000000789C6C8 s x) => ?_) ?_; clear_value x; rotate_left; subst x; rotate_left)
      | (refine (fun (h : Within 0x2000000789C6C8 s x.1) => ?_) ?_; clear_value x; rotate_left; subst x; rotate_left)
      | (refine (fun (h : Within 0x2000000789C6C8 s x.2) => ?_) ?_; clear_value x; rotate_left; subst x; rotate_left)
      | clear_value x
      | skip)
  | with_reducible apply Within.refl
  | with_reducible assumption
  | (with_reducible apply Within.after (within_setNrg _ _ _); · decide)
  | (with_reducible apply Within.after (within_setPulse _ _ _); · decide)
  | (with_reducible apply Within.after (within_nrgStep _ _ _ _); · decide)
  | with_reducible apply Within.foldl
  | (with_reducible intro y a h)
  | (with_reducible apply Within.upd
     any_goals (fail_if_success (with_reducible exact fun _ => rfl); exact fun b => absurd b (by decide))
     all_goals first | exact fun _ => rfl | exact fun b => absurd b (by decide) | with_reducible exact Nat.le_refl _ | with_reducible exact List.suffix_refl _ | exact id | skip)

theorem within_corrNote (s : State) (c : ℕ) (v : Word) :
    Within 0x800000 s (State.corrNote s c v) := by
  unfold State.corrNote
  repeat' first
  | with_reducible apply Within.refl
  | (with_reducible apply Within.after (within_setNrg _ _ _); · decide)

theorem within_nrgGo (s : State) :
    Within 0x3080008 s (State.nrgGo s) := by
  unfold State.nrgGo
  repeat' first
  | with_reducible apply Within.refl
  | with_reducible assumption
  | (with_reducible apply Within.after (within_unready _ _); · decide)
  | (with_reducible apply Within.after (within_nrgCmdDone _ _ _); · decide)
  | (with_reducible apply Within.after (within_nrgOp _ _ _); · decide)
  | with_reducible apply Within.foldl
  | (with_reducible intro y a h)
  | split
  | (with_reducible apply Within.upd
     any_goals (fail_if_success (with_reducible exact fun _ => rfl); exact fun b => absurd b (by decide))
     all_goals first | exact fun _ => rfl | exact fun b => absurd b (by decide) | with_reducible exact Nat.le_refl _ | with_reducible exact List.suffix_refl _ | exact id | skip)

theorem within_nrgDisable (s : State) (c : ℕ) :
    Within 0x389C6C8 s (State.nrgDisable s c) := by
  unfold State.nrgDisable
  repeat' first
  | (extract_lets +onlyGivenNames x; first
      | (refine (fun (h : Within 0x389C6C8 s x) => ?_) ?_; clear_value x; rotate_left; subst x; rotate_left)
      | (refine (fun (h : Within 0x389C6C8 s x.1) => ?_) ?_; clear_value x; rotate_left; subst x; rotate_left)
      | (refine (fun (h : Within 0x389C6C8 s x.2) => ?_) ?_; clear_value x; rotate_left; subst x; rotate_left)
      | clear_value x
      | skip)
  | with_reducible apply Within.refl
  | (with_reducible apply Within.after (within_nrgStop _ _); · decide)
  | (with_reducible apply Within.after (within_setNrg _ _ _); · decide)
  | (with_reducible apply Within.after (within_nrgCmdEnd _ _); · decide)
  | split

theorem within_nrgEnable (s : State) (c : ℕ) :
    Within 0x800008 s (State.nrgEnable s c) := by
  unfold State.nrgEnable
  repeat' first
  | (extract_lets +onlyGivenNames x; first
      | (refine (fun (h : Within 0x800008 s x) => ?_) ?_; clear_value x; rotate_left; subst x; rotate_left)
      | (refine (fun (h : Within 0x800008 s x.1) => ?_) ?_; clear_value x; rotate_left; subst x; rotate_left)
      | (refine (fun (h : Within 0x800008 s x.2) => ?_) ?_; clear_value x; rotate_left; subst x; rotate_left)
      | clear_value x
      | skip)
  | with_reducible apply Within.refl
  | (with_reducible apply Within.after (within_setNrg _ _ _); · decide)
  | (with_reducible apply Within.after (within_nrgBegin _ _ _); · decide)
  | split

theorem within_nrgHook (s : State) (off : ℕ) (old : Word) (v : Word) :
    Within 0x789C6C8 s (State.nrgHook s off old v) := by
  unfold State.nrgHook
  repeat' first
  | with_reducible apply Within.refl
  | (with_reducible apply Within.after (within_setPulse _ _ _); · decide)
  | (with_reducible apply Within.after (within_corrNote _ _ _); · decide)
  | (with_reducible apply Within.after (within_nrgGo _); · decide)
  | (with_reducible apply Within.after (within_nrgDisable _ _); · decide)
  | (with_reducible apply Within.after (within_nrgEnable _ _); · decide)
  | split

theorem within_nrgEnd (s : State) (c : ℕ) :
    Within 0x2000000789C6C8 s (State.nrgEnd s c) := by
  unfold State.nrgEnd
  repeat' first
  | (extract_lets +onlyGivenNames x; first
      | (refine (fun (h : Within 0x2000000789C6C8 s x) => ?_) ?_; clear_value x; rotate_left; subst x; rotate_left)
      | (refine (fun (h : Within 0x2000000789C6C8 s x.1) => ?_) ?_; clear_value x; rotate_left; subst x; rotate_left)
      | (refine (fun (h : Within 0x2000000789C6C8 s x.2) => ?_) ?_; clear_value x; rotate_left; subst x; rotate_left)
      | clear_value x
      | skip)
  | with_reducible apply Within.refl
  | with_reducible assumption
  | (with_reducible apply Within.after (within_nrgStop _ _); · decide)
  | (with_reducible apply Within.after (within_setNrg _ _ _); · decide)
  | (with_reducible apply Within.after (within_nrgDrain _ _ _ _); · decide)
  | (with_reducible apply Within.after (within_nrgDisable _ _); · decide)
  | split

theorem within_energyPeriod (s : State) (c : ℕ) :
    Within 0x789C6C8 s (State.energyPeriod s c) := by
  unfold State.energyPeriod
  repeat' first
  | (extract_lets +onlyGivenNames x; first
      | (refine (fun (h : Within 0x789C6C8 s x) => ?_) ?_; clear_value x; rotate_left; subst x; rotate_left)
      | (refine (fun (h : Within 0x789C6C8 s x.1) => ?_) ?_; clear_value x; rotate_left; subst x; rotate_left)
      | (refine (fun (h : Within 0x789C6C8 s x.2) => ?_) ?_; clear_value x; rotate_left; subst x; rotate_left)
      | clear_value x
      | skip)
  | with_reducible apply Within.refl
  | (with_reducible apply Within.after (within_account _ _); · decide)
  | split

theorem within_nrgIntervalEnd (s : State) :
    Within 0x2000000081C6C8 s (State.nrgIntervalEnd s) := by
  unfold State.nrgIntervalEnd
  repeat' first
  | with_reducible apply Within.refl
  | with_reducible assumption
  | (with_reducible apply Within.after (within_intervalEnd _ _); · decide)
  | with_reducible apply Within.foldl
  | (with_reducible intro y a h)
  | split

theorem within_pulseOutput (s : State) (n : ℕ) :
    Within 0x4000088 s (State.pulseOutput s n) := by
  unfold State.pulseOutput
  repeat' first
  | (extract_lets +onlyGivenNames x; first
      | (refine (fun (h : Within 0x4000088 s x) => ?_) ?_; clear_value x; rotate_left; subst x; rotate_left)
      | (refine (fun (h : Within 0x4000088 s x.1) => ?_) ?_; clear_value x; rotate_left; subst x; rotate_left)
      | (refine (fun (h : Within 0x4000088 s x.2) => ?_) ?_; clear_value x; rotate_left; subst x; rotate_left)
      | clear_value x
      | skip)
  | with_reducible apply Within.refl
  | with_reducible assumption
  | (with_reducible apply Within.after (within_setPulse _ _ _); · decide)
  | (with_reducible apply Within.after (within_bumpWrap _ _); · decide)
  | (with_reducible apply Within.after (within_emit _ _); · decide)
  | split

theorem within_faultsClear (s : State) (c : ℕ) :
    Within 0x100000 s (State.faultsClear s c) := by
  unfold State.faultsClear
  repeat' first
  | with_reducible apply Within.refl
  | with_reducible assumption
  | (with_reducible apply Within.after (within_setChan _ _ _); · decide)
  | with_reducible apply Within.foldl
  | (with_reducible intro y a h)

theorem within_acqHealthy (s : State) (c : ℕ) :
    Within 0x100008 s (State.acqHealthy s c) := by
  unfold State.acqHealthy
  repeat' first
  | with_reducible apply Within.refl
  | (with_reducible apply Within.after (within_setRf _ _ _ _ _); · decide)
  | (with_reducible apply Within.after (within_faultsClear _ _); · decide)

theorem within_histClear (s : State) :
    Within 0x100000 s (State.histClear s) := by
  unfold State.histClear
  repeat' first
  | with_reducible apply Within.refl
  | with_reducible assumption
  | (with_reducible apply Within.after (within_setChan _ _ _); · decide)
  | with_reducible apply Within.foldl
  | (with_reducible intro y a h)

theorem within_setModClk (s : State) (c : ℕ) (x : ModClk) :
    Within 0x10000000000000 s (State.setModClk s c x) := by
  unfold State.setModClk
  repeat' first
  | with_reducible apply Within.refl
  | (with_reducible apply Within.upd
     any_goals (fail_if_success (with_reducible exact fun _ => rfl); exact fun b => absurd b (by decide))
     all_goals first | exact fun _ => rfl | exact fun b => absurd b (by decide) | with_reducible exact Nat.le_refl _ | with_reducible exact List.suffix_refl _ | exact id | skip)

theorem within_modStop (s : State) (c : ℕ) :
    Within 0x10000000000000 s (State.modStop s c) := by
  unfold State.modStop
  repeat' first
  | (extract_lets +onlyGivenNames x; first
      | (refine (fun (h : Within 0x10000000000000 s x) => ?_) ?_; clear_value x; rotate_left; subst x; rotate_left)
      | (refine (fun (h : Within 0x10000000000000 s x.1) => ?_) ?_; clear_value x; rotate_left; subst x; rotate_left)
      | (refine (fun (h : Within 0x10000000000000 s x.2) => ?_) ?_; clear_value x; rotate_left; subst x; rotate_left)
      | clear_value x
      | skip)
  | with_reducible apply Within.refl
  | (with_reducible apply Within.after (within_setModClk _ _ _); · decide)
  | split

theorem within_phsAfter (s : State) (c : ℕ) (t : Stamp) :
    Within 0x400000 s (State.phsAfter s c t) := by
  unfold State.phsAfter
  repeat' first
  | with_reducible apply Within.refl
  | (with_reducible apply Within.upd
     any_goals (fail_if_success (with_reducible exact fun _ => rfl); exact fun b => absurd b (by decide))
     all_goals first | exact fun _ => rfl | exact fun b => absurd b (by decide) | with_reducible exact Nat.le_refl _ | with_reducible exact List.suffix_refl _ | exact id | skip)

theorem within_fadeResult (s : State) (res : ℕ) (t : Stamp) :
    Within 0x8 s (State.fadeResult s res t) := by
  unfold State.fadeResult
  repeat' first
  | with_reducible apply Within.refl
  | (with_reducible apply Within.after (within_setReg _ _ _); · decide)
  | (with_reducible apply Within.after (within_setRf _ _ _ _ _); · decide)
  | (with_reducible apply Within.after (within_publish _ _); · decide)
  | (with_reducible apply Within.after (within_setRb _ _ _ _); · decide)

theorem within_fadeEnd (s : State) (f : Fade) :
    Within 0x21C6C8 s (State.fadeEnd s f) := by
  unfold State.fadeEnd
  repeat' first
  | with_reducible apply Within.refl
  | with_reducible assumption
  | (with_reducible apply Within.after (within_flagRaise _ _ _ _ _); · decide)
  | (with_reducible apply Within.after (within_fadeResult _ _ _); · decide)
  | (with_reducible apply Within.after (within_setRb _ _ _ _); · decide)
  | with_reducible apply Within.foldl
  | (with_reducible intro y a h)
  | split
  | (with_reducible apply Within.upd
     any_goals (fail_if_success (with_reducible exact fun _ => rfl); exact fun b => absurd b (by decide))
     all_goals first | exact fun _ => rfl | exact fun b => absurd b (by decide) | with_reducible exact Nat.le_refl _ | with_reducible exact List.suffix_refl _ | exact id | skip)

theorem within_sdlyKeep (s : State) (c : ℕ) (old : ℕ) :
    Within 0x10000000000000 s (State.sdlyKeep s c old) := by
  unfold State.sdlyKeep
  repeat' first
  | with_reducible apply Within.refl
  | (with_reducible apply Within.after (within_setModClk _ _ _); · decide)

theorem within_acqStart (s : State) (c : ℕ) (low : ℕ) :
    Within 0x10000000108000 s (State.acqStart s c low) := by
  unfold State.acqStart
  repeat' first
  | with_reducible apply Within.refl
  | with_reducible assumption
  | (with_reducible apply Within.after (within_setModClk _ _ _); · decide)
  | (with_reducible apply Within.after (within_setChan _ _ _); · decide)
  | (with_reducible apply Within.after (within_trigsCut _ _); · decide)
  | with_reducible apply Within.foldl
  | (with_reducible intro y a h)

theorem within_acqHook (s : State) (off : ℕ) (old : Word) (v : Word) :
    Within 0x3000000071C6C8 s (State.acqHook s off old v) := by
  unfold State.acqHook
  repeat' first
  | with_reducible apply Within.refl
  | (with_reducible apply Within.after (within_histClear _); · decide)
  | (with_reducible apply Within.after (within_setRf _ _ _ _ _); · decide)
  | (with_reducible apply Within.after (within_acqHealthy _ _); · decide)
  | (with_reducible apply Within.after (within_modStop _ _); · decide)
  | (with_reducible apply Within.after (within_phsAfter _ _ _); · decide)
  | (with_reducible apply Within.after (within_fadeEnd _ _); · decide)
  | (with_reducible apply Within.after (within_faultsClear _ _); · decide)
  | (with_reducible apply Within.after (within_sdlyKeep _ _ _); · decide)
  | (with_reducible apply Within.after (within_acqStart _ _ _); · decide)
  | split
  | (with_reducible apply Within.upd
     any_goals (fail_if_success (with_reducible exact fun _ => rfl); exact fun b => absurd b (by decide))
     all_goals first | exact fun _ => rfl | exact fun b => absurd b (by decide) | with_reducible exact Nat.le_refl _ | with_reducible exact List.suffix_refl _ | exact id | skip)

theorem within_acqModFault (s : State) (ch : ℕ) :
    Within 0x11C6C8 s (State.acqModFault s ch) := by
  unfold State.acqModFault
  repeat' first
  | (extract_lets +onlyGivenNames x; first
      | (refine (fun (h : Within 0x11C6C8 s x) => ?_) ?_; clear_value x; rotate_left; subst x; rotate_left)
      | (refine (fun (h : Within 0x11C6C8 s x.1) => ?_) ?_; clear_value x; rotate_left; subst x; rotate_left)
      | (refine (fun (h : Within 0x11C6C8 s x.2) => ?_) ?_; clear_value x; rotate_left; subst x; rotate_left)
      | clear_value x
      | skip)
  | with_reducible apply Within.refl
  | with_reducible assumption
  | (with_reducible apply Within.after (within_setChan _ _ _); · decide)
  | (with_reducible apply Within.after (within_raise _ _ _); · decide)
  | (with_reducible apply Within.after (within_setRb _ _ _ _); · decide)
  | split

theorem within_acqRestart (s : State) (old : Stamp) :
    Within 0x30000007FFC6C8 s (State.acqRestart s old) := by
  unfold State.acqRestart
  repeat' first
  | (extract_lets +onlyGivenNames x; first
      | (refine (fun (h : Within 0x30000007FFC6C8 s x) => ?_) ?_; clear_value x; rotate_left; subst x; rotate_left)
      | (refine (fun (h : Within 0x30000007FFC6C8 s x.1) => ?_) ?_; clear_value x; rotate_left; subst x; rotate_left)
      | (refine (fun (h : Within 0x30000007FFC6C8 s x.2) => ?_) ?_; clear_value x; rotate_left; subst x; rotate_left)
      | clear_value x
      | skip)
  | with_reducible apply Within.refl
  | with_reducible assumption
  | (with_reducible apply Within.after (within_histClear _); · decide)
  | (with_reducible apply Within.after (within_phsAfter _ _ _); · decide)
  | (with_reducible apply Within.after (within_recRestart _ _ _); · decide)
  | (with_reducible apply Within.after (within_fadeEnd _ _); · decide)
  | (with_reducible apply Within.after (within_nrgRestart _ _ _); · decide)
  | (with_reducible apply Within.after (within_setRb _ _ _ _); · decide)
  | (with_reducible apply Within.after (within_acqStart _ _ _); · decide)
  | with_reducible apply Within.foldl
  | (with_reducible intro y a h)
  | split

theorem within_overrange (s : State) (ch : ℕ) (c : Chan) (x0 : ℤ) :
    Within 0x8 s (State.overrange s ch c x0).1 := by
  unfold State.overrange
  repeat' first
  | (extract_lets +onlyGivenNames x; first
      | (refine (fun (h : Within 0x8 s x) => ?_) ?_; clear_value x; rotate_left; subst x; rotate_left)
      | (refine (fun (h : Within 0x8 s x.1) => ?_) ?_; clear_value x; rotate_left; subst x; rotate_left)
      | (refine (fun (h : Within 0x8 s x.2) => ?_) ?_; clear_value x; rotate_left; subst x; rotate_left)
      | clear_value x
      | skip)
  | with_reducible apply Within.refl
  | with_reducible assumption
  | (with_reducible apply Within.after (within_setRb _ _ _ _); · decide)
  | split

theorem within_fadeNote (s : State) (ch : ℕ) (t : Stamp) :
    Within 0x21C6C8 s (State.fadeNote s ch t) := by
  unfold State.fadeNote
  repeat' first
  | with_reducible apply Within.refl
  | (with_reducible apply Within.after (within_fadeEnd _ _); · decide)
  | split
  | (with_reducible apply Within.upd
     any_goals (fail_if_success (with_reducible exact fun _ => rfl); exact fun b => absurd b (by decide))
     all_goals first | exact fun _ => rfl | exact fun b => absurd b (by decide) | with_reducible exact Nat.le_refl _ | with_reducible exact List.suffix_refl _ | exact id | skip)

theorem within_deliver (s : State) (ch : ℕ) (tap : ℕ) (y : Sample) :
    Within 0x35C6C8 s (State.deliver s ch tap y) := by
  unfold State.deliver
  repeat' first
  | (extract_lets +onlyGivenNames x; first
      | (refine (fun (h : Within 0x35C6C8 s x) => ?_) ?_; clear_value x; rotate_left; subst x; rotate_left)
      | (refine (fun (h : Within 0x35C6C8 s x.1) => ?_) ?_; clear_value x; rotate_left; subst x; rotate_left)
      | (refine (fun (h : Within 0x35C6C8 s x.2) => ?_) ?_; clear_value x; rotate_left; subst x; rotate_left)
      | clear_value x
      | skip)
  | with_reducible apply Within.refl
  | with_reducible assumption
  | (with_reducible apply Within.after (within_trigsSample _ _ _ _); · decide)
  | (with_reducible apply Within.after (within_flagRaise _ _ _ _ _); · decide)
  | (with_reducible apply Within.after (within_setChan _ _ _); · decide)
  | (with_reducible apply Within.after (within_fadeNote _ _ _); · decide)
  | (with_reducible apply Within.after (within_laneTake _ _ _ _); · decide)
  | (with_reducible apply Within.after (within_setRb _ _ _ _); · decide)
  | split

theorem within_tap0 (s : State) (ch : ℕ) (line : List (ℕ × Bool)) :
    Within 0x35C6C8 s (State.tap0 s ch line) := by
  unfold State.tap0
  repeat' first
  | (extract_lets +onlyGivenNames x; first
      | (refine (fun (h : Within 0x35C6C8 s x) => ?_) ?_; clear_value x; rotate_left; subst x; rotate_left)
      | (refine (fun (h : Within 0x35C6C8 s x.1) => ?_) ?_; clear_value x; rotate_left; subst x; rotate_left)
      | (refine (fun (h : Within 0x35C6C8 s x.2) => ?_) ?_; clear_value x; rotate_left; subst x; rotate_left)
      | clear_value x
      | skip)
  | with_reducible apply Within.refl
  | with_reducible assumption
  | (with_reducible apply Within.after (within_bumpBy _ _ _); · decide)
  | (with_reducible apply Within.after (within_setChan _ _ _); · decide)
  | (with_reducible apply Within.after (within_overrange _ _ _ _); · decide)
  | (with_reducible apply Within.after (within_deliver _ _ _ _); · decide)
  | split

theorem within_acqSample (s : State) (ch : ℕ) (tap : ℕ) (line : List (ℕ × Bool)) :
    Within 0x35C6C8 s (State.acqSample s ch tap line) := by
  unfold State.acqSample
  repeat' first
  | (extract_lets +onlyGivenNames x; first
      | (refine (fun (h : Within 0x35C6C8 s x) => ?_) ?_; clear_value x; rotate_left; subst x; rotate_left)
      | (refine (fun (h : Within 0x35C6C8 s x.1) => ?_) ?_; clear_value x; rotate_left; subst x; rotate_left)
      | (refine (fun (h : Within 0x35C6C8 s x.2) => ?_) ?_; clear_value x; rotate_left; subst x; rotate_left)
      | clear_value x
      | skip)
  | with_reducible apply Within.refl
  | (with_reducible apply Within.after (within_tap0 _ _ _); · decide)
  | (with_reducible apply Within.after (within_setChan _ _ _); · decide)
  | (with_reducible apply Within.after (within_deliver _ _ _ _); · decide)
  | split

theorem within_bankSupply (s : State) (b : ℕ) (mv : ℕ) :
    Within 0x4000 s (State.bankSupply s b mv) := by
  unfold State.bankSupply
  repeat' first
  | with_reducible apply Within.refl
  | (with_reducible apply Within.upd
     any_goals (fail_if_success (with_reducible exact fun _ => rfl); exact fun b => absurd b (by decide))
     all_goals first | exact fun _ => rfl | exact fun b => absurd b (by decide) | with_reducible exact Nat.le_refl _ | with_reducible exact List.suffix_refl _ | exact id | skip)

theorem within_scaleKeep (s : State) (ch : ℕ) (old : Word) :
    Within 0x100000 s (State.scaleKeep s ch old) := by
  unfold State.scaleKeep
  repeat' first
  | with_reducible apply Within.refl
  | (with_reducible apply Within.after (within_setChan _ _ _); · decide)

theorem within_fadeGo (s : State) :
    Within 0x200008 s (State.fadeGo s) := by
  unfold State.fadeGo
  repeat' first
  | (extract_lets +onlyGivenNames x; first
      | (refine (fun (h : Within 0x200008 s x) => ?_) ?_; clear_value x; rotate_left; subst x; rotate_left)
      | (refine (fun (h : Within 0x200008 s x.1) => ?_) ?_; clear_value x; rotate_left; subst x; rotate_left)
      | (refine (fun (h : Within 0x200008 s x.2) => ?_) ?_; clear_value x; rotate_left; subst x; rotate_left)
      | clear_value x
      | skip)
  | with_reducible apply Within.refl
  | (with_reducible apply Within.after (within_unready _ _); · decide)
  | (with_reducible apply Within.after (within_fadeResult _ _ _); · decide)
  | split
  | (with_reducible apply Within.upd
     any_goals (fail_if_success (with_reducible exact fun _ => rfl); exact fun b => absurd b (by decide))
     all_goals first | exact fun _ => rfl | exact fun b => absurd b (by decide) | with_reducible exact Nat.le_refl _ | with_reducible exact List.suffix_refl _ | exact id | skip)

theorem within_fltHook (s : State) (off : ℕ) (old : Word) (v : Word) :
    Within 0x300008 s (State.fltHook s off old v) := by
  unfold State.fltHook
  repeat' first
  | (extract_lets +onlyGivenNames x; first
      | (refine (fun (h : Within 0x300008 s x) => ?_) ?_; clear_value x; rotate_left; subst x; rotate_left)
      | (refine (fun (h : Within 0x300008 s x.1) => ?_) ?_; clear_value x; rotate_left; subst x; rotate_left)
      | (refine (fun (h : Within 0x300008 s x.2) => ?_) ?_; clear_value x; rotate_left; subst x; rotate_left)
      | clear_value x
      | skip)
  | with_reducible apply Within.refl
  | (with_reducible apply Within.after (within_scaleKeep _ _ _); · decide)
  | (with_reducible apply Within.after (within_setChan _ _ _); · decide)
  | (with_reducible apply Within.after (within_fadeGo _); · decide)
  | split

theorem within_channelHealthy (s : State) (ch : ℕ) :
    Within 0x8 s (State.channelHealthy s ch) := by
  unfold State.channelHealthy
  repeat' first
  | (extract_lets +onlyGivenNames x; first
      | (refine (fun (h : Within 0x100008 s x) => ?_) ?_; clear_value x; rotate_left; subst x; rotate_left)
      | (refine (fun (h : Within 0x100008 s x.1) => ?_) ?_; clear_value x; rotate_left; subst x; rotate_left)
      | (refine (fun (h : Within 0x100008 s x.2) => ?_) ?_; clear_value x; rotate_left; subst x; rotate_left)
      | clear_value x
      | skip)
  | with_reducible apply Within.refl
  | (with_reducible apply Within.after (within_setChan _ _ _); · decide)
  | (with_reducible apply Within.after (within_setRb _ _ _ _); · decide)
  | split

theorem within_bellStep (s : State) (n : ℕ) (sec : ℕ) :
    Within 0x200000000000 s (State.bellStep s n sec) := by
  unfold State.bellStep
  repeat' first
  | with_reducible apply Within.refl
  | (with_reducible apply Within.upd
     any_goals (fail_if_success (with_reducible exact fun _ => rfl); exact fun b => absurd b (by decide))
     all_goals first | exact fun _ => rfl | exact fun b => absurd b (by decide) | with_reducible exact Nat.le_refl _ | with_reducible exact List.suffix_refl _ | exact id | skip)

theorem within_setLockLog (s : State) (n : ℕ) (l : List (Stamp × Bool)) :
    Within 0x800 s (State.setLockLog s n l) := by
  unfold State.setLockLog
  repeat' first
  | with_reducible apply Within.refl
  | (with_reducible apply Within.after (within_setTb _ _ _); · decide)

theorem within_leapPendCheck (s : State) (n : ℕ) :
    Within 0x8 s (State.leapPendCheck s n) := by
  unfold State.leapPendCheck
  repeat' first
  | (extract_lets +onlyGivenNames x; first
      | (refine (fun (h : Within 0x8 s x) => ?_) ?_; clear_value x; rotate_left; subst x; rotate_left)
      | (refine (fun (h : Within 0x8 s x.1) => ?_) ?_; clear_value x; rotate_left; subst x; rotate_left)
      | (refine (fun (h : Within 0x8 s x.2) => ?_) ?_; clear_value x; rotate_left; subst x; rotate_left)
      | clear_value x
      | skip)
  | with_reducible apply Within.refl
  | (with_reducible apply Within.after (within_setRb _ _ _ _); · decide)
  | split

theorem within_noteLock (s : State) (n : ℕ) (was : Bool) (now : Bool) :
    Within 0x800 s (State.noteLock s n was now) := by
  unfold State.noteLock
  repeat' first
  | with_reducible apply Within.refl
  | (with_reducible apply Within.after (within_setTb _ _ _); · decide)
  | split

theorem within_setTbState (s : State) (n : ℕ) (st : ℕ) :
    Within 0x808 s (State.setTbState s n st) := by
  unfold State.setTbState
  repeat' first
  | with_reducible apply Within.refl
  | (with_reducible apply Within.after (within_setRf _ _ _ _ _); · decide)
  | (with_reducible apply Within.after (within_noteLock _ _ _ _); · decide)

theorem within_tbLock (s : State) (n : ℕ) :
    Within 0x808 s (State.tbLock s n) := by
  unfold State.tbLock
  repeat' first
  | with_reducible apply Within.refl
  | (with_reducible apply Within.after (within_setTb _ _ _); · decide)
  | (with_reducible apply Within.after (within_setTbState _ _ _); · decide)

theorem within_applyStep (s : State) (n : ℕ) (q : StepReq) :
    Within 0x30200007FFCEC8 s (State.applyStep s n q) := by
  unfold State.applyStep
  repeat' first
  | (extract_lets +onlyGivenNames x; first
      | (refine (fun (h : Within 0x30200007FFCEC8 s x) => ?_) ?_; clear_value x; rotate_left; subst x; rotate_left)
      | (refine (fun (h : Within 0x30200007FFCEC8 s x.1) => ?_) ?_; clear_value x; rotate_left; subst x; rotate_left)
      | (refine (fun (h : Within 0x30200007FFCEC8 s x.2) => ?_) ?_; clear_value x; rotate_left; subst x; rotate_left)
      | clear_value x
      | skip)
  | with_reducible apply Within.refl
  | with_reducible assumption
  | (with_reducible apply Within.after (within_bellStep _ _ _); · decide)
  | (with_reducible apply Within.after (within_setTb _ _ _); · decide)
  | (with_reducible apply Within.after (within_flagRaise _ _ _ _ _); · decide)
  | (with_reducible apply Within.after (within_setLockLog _ _ _); · decide)
  | (with_reducible apply Within.after (within_leapPendCheck _ _); · decide)
  | (with_reducible apply Within.after (within_setRb _ _ _ _); · decide)
  | (with_reducible apply Within.after (within_tbLock _ _); · decide)
  | (with_reducible apply Within.after (within_acqRestart _ _); · decide)
  | split

theorem within_divFree (s : State) (a : ℤ) (d : ℕ) :
    Within 0x4 s (State.divFree s a d).2 := by
  unfold State.divFree
  repeat' first
  | with_reducible apply Within.refl
  | (with_reducible apply Within.after (within_draw _ _); · decide)
  | split

theorem within_mpdSample (s : State) (n : ℕ) (v : ℕ) :
    Within 0x1CECC s (State.mpdSample s n v) := by
  unfold State.mpdSample
  repeat' first
  | (extract_lets +onlyGivenNames x; first
      | (refine (fun (h : Within 0x1CECC s x) => ?_) ?_; clear_value x; rotate_left; subst x; rotate_left)
      | (refine (fun (h : Within 0x1CECC s x.1) => ?_) ?_; clear_value x; rotate_left; subst x; rotate_left)
      | (refine (fun (h : Within 0x1CECC s x.2) => ?_) ?_; clear_value x; rotate_left; subst x; rotate_left)
      | clear_value x
      | skip)
  | with_reducible apply Within.refl
  | with_reducible assumption
  | (with_reducible apply Within.after (within_setReg _ _ _); · decide)
  | (with_reducible apply Within.after (within_setTb _ _ _); · decide)
  | (with_reducible apply Within.after (within_flagRaise _ _ _ _ _); · decide)
  | (with_reducible apply Within.after (within_divFree _ _ _); · decide)
  | (with_reducible apply Within.after (within_setTbState _ _ _); · decide)
  | split

theorem within_leapApply (s : State) (n : ℕ) :
    Within 0x808 s (State.leapApply s n) := by
  unfold State.leapApply
  repeat' first
  | (extract_lets +onlyGivenNames x; first
      | (refine (fun (h : Within 0x808 s x) => ?_) ?_; clear_value x; rotate_left; subst x; rotate_left)
      | (refine (fun (h : Within 0x808 s x.1) => ?_) ?_; clear_value x; rotate_left; subst x; rotate_left)
      | (refine (fun (h : Within 0x808 s x.2) => ?_) ?_; clear_value x; rotate_left; subst x; rotate_left)
      | clear_value x
      | skip)
  | with_reducible apply Within.refl
  | with_reducible assumption
  | (with_reducible apply Within.after (within_setRf _ _ _ _ _); · decide)
  | (with_reducible apply Within.after (within_setTb _ _ _); · decide)
  | (with_reducible apply Within.after (within_setRb _ _ _ _); · decide)
  | split

theorem within_utcHook (s : State) (n : ℕ) (old : Word) :
    Within 0x808 s (State.utcHook s n old) := by
  unfold State.utcHook
  repeat' first
  | (extract_lets +onlyGivenNames x; first
      | (refine (fun (h : Within 0x808 s x) => ?_) ?_; clear_value x; rotate_left; subst x; rotate_left)
      | (refine (fun (h : Within 0x808 s x.1) => ?_) ?_; clear_value x; rotate_left; subst x; rotate_left)
      | (refine (fun (h : Within 0x808 s x.2) => ?_) ?_; clear_value x; rotate_left; subst x; rotate_left)
      | clear_value x
      | skip)
  | with_reducible apply Within.refl
  | with_reducible assumption
  | (with_reducible apply Within.after (within_setRf _ _ _ _ _); · decide)
  | (with_reducible apply Within.after (within_leapPendCheck _ _); · decide)
  | (with_reducible apply Within.after (within_leapApply _ _); · decide)
  | split

theorem within_tbEnable (s : State) (n : ℕ) :
    Within 0x200000000808 s (State.tbEnable s n) := by
  unfold State.tbEnable
  repeat' first
  | with_reducible apply Within.refl
  | (with_reducible apply Within.after (within_setTb _ _ _); · decide)
  | (with_reducible apply Within.after (within_setTbState _ _ _); · decide)
  | (with_reducible apply Within.upd
     any_goals (fail_if_success (with_reducible exact fun _ => rfl); exact fun b => absurd b (by decide))
     all_goals first | exact fun _ => rfl | exact fun b => absurd b (by decide) | with_reducible exact Nat.le_refl _ | with_reducible exact List.suffix_refl _ | exact id | skip)

theorem within_tbHoldover (s : State) (n : ℕ) :
    Within 0x1CEC8 s (State.tbHoldover s n) := by
  unfold State.tbHoldover
  repeat' first
  | with_reducible apply Within.refl
  | (with_reducible apply Within.after (within_flagRaise _ _ _ _ _); · decide)
  | (with_reducible apply Within.after (within_setTbState _ _ _); · decide)

theorem within_tbDisable (s : State) (n : ℕ) :
    Within 0x20000000000808 s (State.tbDisable s n) := by
  unfold State.tbDisable
  repeat' first
  | with_reducible apply Within.refl
  | (with_reducible apply Within.after (within_setRf _ _ _ _ _); · decide)
  | (with_reducible apply Within.after (within_setTb _ _ _); · decide)
  | (with_reducible apply Within.after (within_noteLock _ _ _ _); · decide)
  | (with_reducible apply Within.after (within_leapPendCheck _ _); · decide)
  | (with_reducible apply Within.after (within_setRb _ _ _ _); · decide)
  | split
  | (with_reducible apply Within.upd
     any_goals (fail_if_success (with_reducible exact fun _ => rfl); exact fun b => absurd b (by decide))
     all_goals first | exact fun _ => rfl | exact fun b => absurd b (by decide) | with_reducible exact Nat.le_refl _ | with_reducible exact List.suffix_refl _ | exact id | skip)

theorem within_tbRelease (s : State) (n : ℕ) :
    Within 0x808 s (State.tbRelease s n) := by
  unfold State.tbRelease
  repeat' first
  | with_reducible apply Within.refl
  | (with_reducible apply Within.after (within_setTb _ _ _); · decide)
  | (with_reducible apply Within.after (within_tbLock _ _); · decide)

theorem within_tbArm (s : State) (n : ℕ) :
    Within 0x808 s (State.tbArm s n) := by
  unfold State.tbArm
  repeat' first
  | with_reducible apply Within.refl
  | (with_reducible apply Within.after (within_setTb _ _ _); · decide)
  | (with_reducible apply Within.after (within_setTbState _ _ _); · decide)
  | (with_reducible apply Within.after (within_setRb _ _ _ _); · decide)

theorem within_tbCtrlHook (s : State) (n : ℕ) (old : Word) (v : Word) :
    Within 0x2020000001CEC8 s (State.tbCtrlHook s n old v) := by
  unfold State.tbCtrlHook
  repeat' first
  | (extract_lets +onlyGivenNames x; first
      | (refine (fun (h : Within 0x2020000001CEC8 s x) => ?_) ?_; clear_value x; rotate_left; subst x; rotate_left)
      | (refine (fun (h : Within 0x2020000001CEC8 s x.1) => ?_) ?_; clear_value x; rotate_left; subst x; rotate_left)
      | (refine (fun (h : Within 0x2020000001CEC8 s x.2) => ?_) ?_; clear_value x; rotate_left; subst x; rotate_left)
      | clear_value x
      | skip)
  | with_reducible apply Within.refl
  | with_reducible assumption
  | (with_reducible apply Within.after (within_tbEnable _ _); · decide)
  | (with_reducible apply Within.after (within_setTb _ _ _); · decide)
  | (with_reducible apply Within.after (within_tbHoldover _ _); · decide)
  | (with_reducible apply Within.after (within_tbDisable _ _); · decide)
  | (with_reducible apply Within.after (within_tbRelease _ _); · decide)
  | (with_reducible apply Within.after (within_tbArm _ _); · decide)
  | split

theorem within_tbRateHook (s : State) (n : ℕ) :
    Within 0x808 s (State.tbRateHook s n) := by
  unfold State.tbRateHook
  repeat' first
  | (extract_lets +onlyGivenNames x; first
      | (refine (fun (h : Within 0x808 s x) => ?_) ?_; clear_value x; rotate_left; subst x; rotate_left)
      | (refine (fun (h : Within 0x808 s x.1) => ?_) ?_; clear_value x; rotate_left; subst x; rotate_left)
      | (refine (fun (h : Within 0x808 s x.2) => ?_) ?_; clear_value x; rotate_left; subst x; rotate_left)
      | clear_value x
      | skip)
  | with_reducible apply Within.refl
  | with_reducible assumption
  | (with_reducible apply Within.after (within_setTb _ _ _); · decide)
  | (with_reducible apply Within.after (within_tbLock _ _); · decide)
  | split

theorem within_setTsq (s : State) (p : ℕ) (q : List TsqEntry) :
    Within 0x1000 s (State.setTsq s p q) := by
  unfold State.setTsq
  repeat' first
  | with_reducible apply Within.refl
  | (with_reducible apply Within.upd
     any_goals (fail_if_success (with_reducible exact fun _ => rfl); exact fun b => absurd b (by decide))
     all_goals first | exact fun _ => rfl | exact fun b => absurd b (by decide) | with_reducible exact Nat.le_refl _ | with_reducible exact List.suffix_refl _ | exact id | skip)

theorem within_tbHook (s : State) (off : ℕ) (old : Word) (v : Word) :
    Within 0x2020000001DECC s (State.tbHook s off old v) := by
  unfold State.tbHook
  repeat' first
  | with_reducible apply Within.refl
  | (with_reducible apply Within.after (within_mpdSample _ _ _); · decide)
  | (with_reducible apply Within.after (within_setTb _ _ _); · decide)
  | (with_reducible apply Within.after (within_utcHook _ _ _); · decide)
  | (with_reducible apply Within.after (within_tbCtrlHook _ _ _ _); · decide)
  | (with_reducible apply Within.after (within_leapPendCheck _ _); · decide)
  | (with_reducible apply Within.after (within_tbRateHook _ _); · decide)
  | (with_reducible apply Within.after (within_setTsq _ _ _); · decide)
  | split

theorem within_tbPeriod (s : State) (n : ℕ) :
    Within 0x30200007FFCEC8 s (State.tbPeriod s n) := by
  unfold State.tbPeriod
  repeat' first
  | with_reducible apply Within.refl
  | (with_reducible apply Within.after (within_setTb _ _ _); · decide)
  | (with_reducible apply Within.after (within_applyStep _ _ _); · decide)
  | split

theorem within_periodLength (s : State) :
    Within 0x4 s (State.periodLength s).2 := by
  unfold State.periodLength
  repeat' first
  | with_reducible apply Within.refl
  | (with_reducible apply Within.after (within_draw _ _); · decide)
  | split

theorem within_clockPeriod (s : State) :
    Within 0x30200007FFCECE s (State.clockPeriod s) := by
  unfold State.clockPeriod
  extract_lets p src t
  have hp : Within 0x30200007FFCECE s p.2 := (within_periodLength s).mono (by decide)
  have hn : p.2.now ≤ t.now := by
    subst t
    exact Nat.le_add_right _ _
  have ht : Within 0x30200007FFCECE p.2 t := by
    constructor
    case time => exact hn
    all_goals first | exact Nat.le_refl _ | exact List.suffix_refl _ | exact fun _ => rfl | exact fun b => absurd b (by decide) | rfl | exact fun c => ⟨c.regs, c.stages, c.latches, c.tables, c.hbm, c.hostMem⟩
  have ht := hp.trans ht
  clear_value t
  have h0 := Within.after (within_tbPeriod t 0) (by decide) ht
  have h1 := Within.after (within_tbPeriod _ 1) (by decide) h0
  have h2 := Within.after (within_tbPeriod _ 2) (by decide) h1
  exact Within.after (within_tbPeriod _ 3) (by decide) h2

theorem within_leapExpire (s : State) (n : ℕ) :
    Within 0x8 s (State.leapExpire s n) := by
  unfold State.leapExpire
  repeat' first
  | with_reducible apply Within.refl
  | (with_reducible apply Within.after (within_setRb _ _ _ _); · decide)
  | split

theorem within_leapPend (s : State) (n : ℕ) :
    Within 0x8 s (State.leapPend s n) := by
  unfold State.leapPend
  repeat' first
  | (extract_lets +onlyGivenNames x; first
      | (refine (fun (h : Within 0x8 s x) => ?_) ?_; clear_value x; rotate_left; subst x; rotate_left)
      | (refine (fun (h : Within 0x8 s x.1) => ?_) ?_; clear_value x; rotate_left; subst x; rotate_left)
      | (refine (fun (h : Within 0x8 s x.2) => ?_) ?_; clear_value x; rotate_left; subst x; rotate_left)
      | clear_value x
      | skip)
  | with_reducible apply Within.refl
  | (with_reducible apply Within.after (within_setRb _ _ _ _); · decide)
  | split

theorem within_tsqPush (s : State) (p : ℕ) (e : TsqEntry) :
    Within 0x1D6C8 s (State.tsqPush s p e) := by
  unfold State.tsqPush
  repeat' first
  | with_reducible apply Within.refl
  | (with_reducible apply Within.after (within_bump _ _); · decide)
  | (with_reducible apply Within.after (within_flagRaise _ _ _ _ _); · decide)
  | (with_reducible apply Within.after (within_setTsq _ _ _); · decide)
  | split

theorem within_tbPllLoss (s : State) (n : ℕ) :
    Within 0x1CEC8 s (State.tbPllLoss s n) := by
  unfold State.tbPllLoss
  repeat' first
  | with_reducible apply Within.refl
  | (with_reducible apply Within.after (within_tbHoldover _ _); · decide)
  | split

theorem within_pllLoss (s : State) :
    Within 0x1CEC8 s (State.pllLoss s) := by
  unfold State.pllLoss
  repeat' first
  | with_reducible apply Within.refl
  | (with_reducible apply Within.after (within_setRb _ _ _ _); · decide)
  | (with_reducible apply Within.after (within_tbPllLoss _ _); · decide)
  | split

theorem within_ppsInAt (s : State) (ph : ℕ) (n : ℕ) :
    Within 0x1CEC8 s (State.ppsInAt s ph n) := by
  unfold State.ppsInAt
  repeat' first
  | (extract_lets +onlyGivenNames x; first
      | (refine (fun (h : Within 0x1CEC8 s x) => ?_) ?_; clear_value x; rotate_left; subst x; rotate_left)
      | (refine (fun (h : Within 0x1CEC8 s x.1) => ?_) ?_; clear_value x; rotate_left; subst x; rotate_left)
      | (refine (fun (h : Within 0x1CEC8 s x.2) => ?_) ?_; clear_value x; rotate_left; subst x; rotate_left)
      | clear_value x
      | skip)
  | with_reducible apply Within.refl
  | with_reducible assumption
  | (with_reducible apply Within.after (within_setTb _ _ _); · decide)
  | (with_reducible apply Within.after (within_flagRaise _ _ _ _ _); · decide)
  | (with_reducible apply Within.after (within_publish _ _); · decide)
  | (with_reducible apply Within.after (within_putStamp _ _ _); · decide)
  | split

theorem within_ppsIn (s : State) (rising : Bool) (width : ℕ) (ph : ℕ) :
    Within 0x4000000001CEC8 s (State.ppsIn s rising width ph) := by
  unfold State.ppsIn
  repeat' first
  | with_reducible apply Within.refl
  | (with_reducible apply Within.after (within_ppsInAt _ _ _); · decide)
  | split
  | (with_reducible apply Within.upd
     any_goals (fail_if_success (with_reducible exact fun _ => rfl); exact fun b => absurd b (by decide))
     all_goals first | exact fun _ => rfl | exact fun b => absurd b (by decide) | with_reducible exact Nat.le_refl _ | with_reducible exact List.suffix_refl _ | exact id | skip)

theorem within_rtcCapture (s : State) (n : ℕ) :
    Within 0x8 s (State.rtcCapture s n) := by
  unfold State.rtcCapture
  repeat' first
  | with_reducible apply Within.refl
  | (with_reducible apply Within.after (within_setReg _ _ _); · decide)
  | (with_reducible apply Within.after (within_publish _ _); · decide)
  | split

theorem within_ppsOut (s : State) (n : ℕ) :
    Within 0x1CEC8 s (State.ppsOut s n) := by
  unfold State.ppsOut
  repeat' first
  | with_reducible apply Within.refl
  | (with_reducible apply Within.after (within_setTb _ _ _); · decide)
  | (with_reducible apply Within.after (within_flagRaise _ _ _ _ _); · decide)
  | (with_reducible apply Within.after (within_rtcCapture _ _); · decide)
  | (with_reducible apply Within.after (within_emit _ _); · decide)
  | split

theorem within_stepApply (s : State) (n : ℕ) :
    Within 0x30200007FFCECE s (State.stepApply s n) := by
  unfold State.stepApply
  repeat' first
  | (extract_lets +onlyGivenNames x; first
      | (refine (fun (h : Within 0x30200007FFCECE s x) => ?_) ?_; clear_value x; rotate_left; subst x; rotate_left)
      | (refine (fun (h : Within 0x30200007FFCECE s x.1) => ?_) ?_; clear_value x; rotate_left; subst x; rotate_left)
      | (refine (fun (h : Within 0x30200007FFCECE s x.2) => ?_) ?_; clear_value x; rotate_left; subst x; rotate_left)
      | clear_value x
      | skip)
  | with_reducible apply Within.refl
  | with_reducible assumption
  | (with_reducible apply Within.after (within_clockPeriod _); · decide)
  | split

theorem within_tbWatchdog (s : State) (n : ℕ) :
    Within 0x1CEC8 s (State.tbWatchdog s n) := by
  unfold State.tbWatchdog
  repeat' first
  | with_reducible apply Within.refl
  | (with_reducible apply Within.after (within_tbHoldover _ _); · decide)
  | split

end Sys2Proof.Machine
end

