-- ==== Sys2Proof/Laws/WithinPorts.lean ====
section
/-! SUPPORT. What ports, field segments, seats, links, keys and answers may change: one lemma per function, its mask naming the fields of State as Laws/Within.lean numbers them. -/

-- One declaration after another: side by side, their threads' stacks pass the memory limit of a check.
set_option Elab.async false

namespace Sys2Proof.Machine

set_option linter.all false

theorem within_setTx (s : State) (p : ℕ) (q : List TxFrame) :
    Within 0x10000000 s (State.setTx s p q) := by
  unfold State.setTx
  repeat' first
  | with_reducible apply Within.refl
  | (with_reducible apply Within.upd
     any_goals (fail_if_success (with_reducible exact fun _ => rfl); exact fun b => absurd b (by decide))
     all_goals first | exact fun _ => rfl | exact fun b => absurd b (by decide) | with_reducible exact Nat.le_refl _ | with_reducible exact List.suffix_refl _ | exact id | skip)

theorem within_txQueue (s : State) (p : ℕ) (source : ℕ) (f : List Byte) :
    Within 0x10000000 s (State.txQueue s p source f) := by
  unfold State.txQueue
  repeat' first
  | with_reducible apply Within.refl
  | (with_reducible apply Within.after (within_setTx _ _ _); · decide)

theorem within_macLocks (s : State) (p : ℕ) (block : Bool) (fec : Bool) :
    Within 0x1C6C8 s (State.macLocks s p block fec) := by
  unfold State.macLocks
  repeat' first
  | (extract_lets +onlyGivenNames x; first
      | (refine (fun (h : Within 0x1C6C8 s x) => ?_) ?_; clear_value x; rotate_left; subst x; rotate_left)
      | (refine (fun (h : Within 0x1C6C8 s x.1) => ?_) ?_; clear_value x; rotate_left; subst x; rotate_left)
      | (refine (fun (h : Within 0x1C6C8 s x.2) => ?_) ?_; clear_value x; rotate_left; subst x; rotate_left)
      | clear_value x
      | skip)
  | with_reducible apply Within.refl
  | with_reducible assumption
  | (with_reducible apply Within.after (within_flagRaise _ _ _ _ _); · decide)
  | (with_reducible apply Within.after (within_setRb _ _ _ _); · decide)
  | split

theorem within_macHook (s : State) (off : ℕ) (v : Word) :
    Within 0x1C6C8 s (State.macHook s off v) := by
  unfold State.macHook
  repeat' first
  | with_reducible apply Within.refl
  | (with_reducible apply Within.after (within_macLocks _ _ _ _); · decide)
  | split

theorem within_setPrp (s : State) (q : ℕ) (x : Prp) :
    Within 0x40000000 s (State.setPrp s q x) := by
  unfold State.setPrp
  repeat' first
  | with_reducible apply Within.refl
  | (with_reducible apply Within.upd
     any_goals (fail_if_success (with_reducible exact fun _ => rfl); exact fun b => absurd b (by decide))
     all_goals first | exact fun _ => rfl | exact fun b => absurd b (by decide) | with_reducible exact Nat.le_refl _ | with_reducible exact List.suffix_refl _ | exact id | skip)

theorem within_prpHook (s : State) (off : ℕ) (old : Word) (v : Word) :
    Within 0x40000000 s (State.prpHook s off old v) := by
  unfold State.prpHook
  repeat' first
  | with_reducible apply Within.refl
  | (with_reducible apply Within.after (within_setPrp _ _ _); · decide)
  | split

theorem within_macCount (s : State) (p : ℕ) (k : ℕ) (n : ℕ) :
    Within 0x8 s (State.macCount s p k n) := by
  unfold State.macCount
  repeat' first
  | with_reducible apply Within.refl
  | (with_reducible apply Within.after (within_bumpPair _ _ _); · decide)

theorem within_txError (s : State) (p : ℕ) :
    Within 0x8 s (State.txError s p) := by
  unfold State.txError
  repeat' first
  | with_reducible apply Within.refl
  | (with_reducible apply Within.after (within_macCount _ _ _ _); · decide)
  | (with_reducible apply Within.after (within_setRb _ _ _ _); · decide)

theorem within_txSend (s : State) (p : ℕ) (f : List Byte) (ph : ℕ) :
    Within 0x88 s (State.txSend s p f ph).1 := by
  unfold State.txSend
  repeat' first
  | with_reducible apply Within.refl
  | (with_reducible apply Within.after (within_macCount _ _ _ _); · decide)
  | (with_reducible apply Within.after (within_emit _ _); · decide)

theorem within_setSegJob (s : State) (p : ℕ) (j : Option SegJob) :
    Within 0x20000000 s (State.setSegJob s p j) := by
  unfold State.setSegJob
  repeat' first
  | with_reducible apply Within.refl
  | (with_reducible apply Within.upd
     any_goals (fail_if_success (with_reducible exact fun _ => rfl); exact fun b => absurd b (by decide))
     all_goals first | exact fun _ => rfl | exact fun b => absurd b (by decide) | with_reducible exact Nat.le_refl _ | with_reducible exact List.suffix_refl _ | exact id | skip)

theorem within_txReturn (s : State) (p : ℕ) (status : ℕ) (extra : ℕ) :
    Within 0x1C6C8 s (State.txReturn s p status extra) := by
  unfold State.txReturn
  repeat' first
  | with_reducible apply Within.refl
  | (with_reducible apply Within.after (within_ringReturn _ _ _ _); · decide)
  | (with_reducible apply Within.after (within_setRingX _ _ _); · decide)

theorem within_prpSend (s : State) (p : ℕ) (source : ℕ) (segment : Bool) (f : List Byte) (ph : ℕ) :
    Within 0x10000088 s (State.prpSend s p source segment f ph).1 := by
  unfold State.prpSend
  repeat' first
  | (extract_lets +onlyGivenNames x; first
      | (refine (fun (h : Within 0x10000088 s x) => ?_) ?_; clear_value x; rotate_left; subst x; rotate_left)
      | (refine (fun (h : Within 0x10000088 s x.1) => ?_) ?_; clear_value x; rotate_left; subst x; rotate_left)
      | (refine (fun (h : Within 0x10000088 s x.2) => ?_) ?_; clear_value x; rotate_left; subst x; rotate_left)
      | clear_value x
      | skip)
  | with_reducible apply Within.refl
  | with_reducible assumption
  | (with_reducible apply Within.after (within_setRf _ _ _ _ _); · decide)
  | (with_reducible apply Within.after (within_txError _ _); · decide)
  | (with_reducible apply Within.after (within_bump _ _); · decide)
  | (with_reducible apply Within.after (within_txSend _ _ _ _); · decide)
  | (with_reducible apply Within.after (within_setTx _ _ _); · decide)
  | split

theorem within_segSend (s : State) (p : ℕ) (j : SegJob) (ph : ℕ) :
    Within 0x3001C6C8 s (State.segSend s p j ph) := by
  unfold State.segSend
  repeat' first
  | with_reducible apply Within.refl
  | (with_reducible apply Within.after (within_txError _ _); · decide)
  | (with_reducible apply Within.after (within_txSend _ _ _ _); · decide)
  | (with_reducible apply Within.after (within_setSegJob _ _ _); · decide)
  | (with_reducible apply Within.after (within_txReturn _ _ _ _); · decide)
  | (with_reducible apply Within.after (within_macCount _ _ _ _); · decide)
  | (with_reducible apply Within.after (within_prpSend _ _ _ _ _ _); · decide)
  | split

theorem within_rxToRing (s : State) (f : RxFrame) :
    Within 0x1C6C8 s (State.rxToRing s f) := by
  unfold State.rxToRing
  repeat' first
  | with_reducible apply Within.refl
  | (with_reducible apply Within.after (within_postFrame _ _ _ _); · decide)

theorem within_prpLookup (s : State) (q : ℕ) (mac : ℕ) (seq : ℕ) :
    Within 0x40000008 s (State.prpLookup s q mac seq).1 := by
  unfold State.prpLookup
  repeat' first
  | (extract_lets +onlyGivenNames x; first
      | (refine (fun (h : Within 0x40000008 s x) => ?_) ?_; clear_value x; rotate_left; subst x; rotate_left)
      | (refine (fun (h : Within 0x40000008 s x.1) => ?_) ?_; clear_value x; rotate_left; subst x; rotate_left)
      | (refine (fun (h : Within 0x40000008 s x.2) => ?_) ?_; clear_value x; rotate_left; subst x; rotate_left)
      | clear_value x
      | skip)
  | with_reducible apply Within.refl
  | with_reducible assumption
  | (with_reducible apply Within.after (within_setRf _ _ _ _ _); · decide)
  | (with_reducible apply Within.after (within_bump _ _); · decide)
  | (with_reducible apply Within.after (within_setPrp _ _ _); · decide)
  | (with_reducible apply Within.after (within_setRb _ _ _ _); · decide)
  | split

theorem within_setRx (s : State) (p : ℕ) (q : List RxFrame) :
    Within 0x8000000 s (State.setRx s p q) := by
  unfold State.setRx
  repeat' first
  | with_reducible apply Within.refl
  | (with_reducible apply Within.upd
     any_goals (fail_if_success (with_reducible exact fun _ => rfl); exact fun b => absurd b (by decide))
     all_goals first | exact fun _ => rfl | exact fun b => absurd b (by decide) | with_reducible exact Nat.le_refl _ | with_reducible exact List.suffix_refl _ | exact id | skip)

theorem within_rxPass (s : State) (f : RxFrame) :
    Within 0x801C6C8 s (State.rxPass s f) := by
  unfold State.rxPass
  repeat' first
  | with_reducible apply Within.refl
  | (with_reducible apply Within.after (within_setRx _ _ _); · decide)
  | (with_reducible apply Within.after (within_rxToRing _ _); · decide)
  | split

theorem within_prpFault (s : State) (q : ℕ) (lan : ℕ) (v : Bool) :
    Within 0x1C6C8 s (State.prpFault s q lan v) := by
  unfold State.prpFault
  repeat' first
  | with_reducible apply Within.refl
  | (with_reducible apply Within.after (within_flagRaise _ _ _ _ _); · decide)
  | (with_reducible apply Within.after (within_setRb _ _ _ _); · decide)
  | split

theorem within_prpReceive (s : State) (f : RxFrame) :
    Within 0x4801C6C8 s (State.prpReceive s f) := by
  unfold State.prpReceive
  repeat' first
  | (extract_lets +onlyGivenNames x; first
      | (refine (fun (h : Within 0x4801C6C8 s x) => ?_) ?_; clear_value x; rotate_left; subst x; rotate_left)
      | (refine (fun (h : Within 0x4801C6C8 s x.1) => ?_) ?_; clear_value x; rotate_left; subst x; rotate_left)
      | (refine (fun (h : Within 0x4801C6C8 s x.2) => ?_) ?_; clear_value x; rotate_left; subst x; rotate_left)
      | clear_value x
      | skip)
  | with_reducible apply Within.refl
  | with_reducible assumption
  | (with_reducible apply Within.after (within_bump _ _); · decide)
  | (with_reducible apply Within.after (within_prpLookup _ _ _ _); · decide)
  | (with_reducible apply Within.after (within_setPrp _ _ _); · decide)
  | (with_reducible apply Within.after (within_rxPass _ _); · decide)
  | (with_reducible apply Within.after (within_prpFault _ _ _ _); · decide)
  | split

theorem within_frameReceive (s : State) (p : ℕ) (bs : List Byte) (pcsErr : Bool) (ph : ℕ) (full : Bool) :
    Within 0x4801C6C8 s (State.frameReceive s p bs pcsErr ph full) := by
  unfold State.frameReceive
  repeat' first
  | (extract_lets +onlyGivenNames x; first
      | (refine (fun (h : Within 0x4801C6C8 s x) => ?_) ?_; clear_value x; rotate_left; subst x; rotate_left)
      | (refine (fun (h : Within 0x4801C6C8 s x.1) => ?_) ?_; clear_value x; rotate_left; subst x; rotate_left)
      | (refine (fun (h : Within 0x4801C6C8 s x.2) => ?_) ?_; clear_value x; rotate_left; subst x; rotate_left)
      | clear_value x
      | skip)
  | with_reducible apply Within.refl
  | with_reducible assumption
  | (with_reducible apply Within.after (within_flagRaise _ _ _ _ _); · decide)
  | (with_reducible apply Within.after (within_prpReceive _ _); · decide)
  | (with_reducible apply Within.after (within_macCount _ _ _ _); · decide)
  | (with_reducible apply Within.after (within_rxPass _ _); · decide)
  | split

theorem within_macLinkChange (s : State) (p : ℕ) (block : Bool) (fec : Bool) (corr : ℕ) (uncorr : ℕ) :
    Within 0x1C6C8 s (State.macLinkChange s p block fec corr uncorr) := by
  unfold State.macLinkChange
  repeat' first
  | with_reducible apply Within.refl
  | (with_reducible apply Within.after (within_macCount _ _ _ _); · decide)
  | (with_reducible apply Within.after (within_macLocks _ _ _ _); · decide)
  | split

theorem within_txRing (s : State) (p : ℕ) (ph : ℕ) :
    Within 0x3001D6C8 s (State.txRing s p ph) := by
  unfold State.txRing
  repeat' first
  | (extract_lets +onlyGivenNames x; first
      | (refine (fun (h : Within 0x3001D6C8 s x) => ?_) ?_; clear_value x; rotate_left; subst x; rotate_left)
      | (refine (fun (h : Within 0x3001D6C8 s x.1) => ?_) ?_; clear_value x; rotate_left; subst x; rotate_left)
      | (refine (fun (h : Within 0x3001D6C8 s x.2) => ?_) ?_; clear_value x; rotate_left; subst x; rotate_left)
      | clear_value x
      | skip)
  | with_reducible apply Within.refl
  | with_reducible assumption
  | (with_reducible apply Within.after (within_txError _ _); · decide)
  | (with_reducible apply Within.after (within_txSend _ _ _ _); · decide)
  | (with_reducible apply Within.after (within_tsqPush _ _ _); · decide)
  | (with_reducible apply Within.after (within_txReturn _ _ _ _); · decide)
  | (with_reducible apply Within.after (within_prpSend _ _ _ _ _ _); · decide)
  | (with_reducible apply Within.after (within_segSend _ _ _ _); · decide)
  | (with_reducible apply Within.after (within_setRingX _ _ _); · decide)
  | split

theorem within_txLost (s : State) (p : ℕ) (source : ℕ) :
    Within 0x8 s (State.txLost s p source) := by
  unfold State.txLost
  repeat' first
  | (extract_lets +onlyGivenNames x; first
      | (refine (fun (h : Within 0x8 s x) => ?_) ?_; clear_value x; rotate_left; subst x; rotate_left)
      | (refine (fun (h : Within 0x8 s x.1) => ?_) ?_; clear_value x; rotate_left; subst x; rotate_left)
      | (refine (fun (h : Within 0x8 s x.2) => ?_) ?_; clear_value x; rotate_left; subst x; rotate_left)
      | clear_value x
      | skip)
  | with_reducible apply Within.refl
  | with_reducible assumption
  | (with_reducible apply Within.after (within_txError _ _); · decide)
  | (with_reducible apply Within.after (within_bump _ _); · decide)
  | split

theorem within_txCopy (s : State) (p : ℕ) (x : TxFrame) (ph : ℕ) :
    Within 0x88 s (State.txCopy s p x ph) := by
  unfold State.txCopy
  repeat' first
  | with_reducible apply Within.refl
  | (with_reducible apply Within.after (within_bump _ _); · decide)
  | (with_reducible apply Within.after (within_txSend _ _ _ _); · decide)
  | (with_reducible apply Within.after (within_macCount _ _ _ _); · decide)
  | split

theorem within_txQueued (s : State) (p : ℕ) (x : TxFrame) (ph : ℕ) :
    Within 0x10000088 s (State.txQueued s p x ph) := by
  unfold State.txQueued
  repeat' first
  | (extract_lets +onlyGivenNames x; first
      | (refine (fun (h : Within 0x10000088 s x) => ?_) ?_; clear_value x; rotate_left; subst x; rotate_left)
      | (refine (fun (h : Within 0x10000088 s x.1) => ?_) ?_; clear_value x; rotate_left; subst x; rotate_left)
      | (refine (fun (h : Within 0x10000088 s x.2) => ?_) ?_; clear_value x; rotate_left; subst x; rotate_left)
      | (have e : x = fun y => x y := rfl; clear e; subst x)
      | clear_value x
      | skip)
  | with_reducible apply Within.refl
  | with_reducible assumption
  | (with_reducible apply Within.after (within_txLost _ _ _); · decide)
  | (with_reducible apply Within.after (within_bump _ _); · decide)
  | (with_reducible apply Within.after (within_txSend _ _ _ _); · decide)
  | (with_reducible apply Within.after (within_txCopy _ _ _ _); · decide)
  | (with_reducible apply Within.after (within_prpSend _ _ _ _ _ _); · decide)
  | (with_reducible apply Within.after (within_setTx _ _ _); · decide)
  | split

theorem within_macTransmit (s : State) (p : ℕ) (ph : ℕ) :
    Within 0x3001D6C8 s (State.macTransmit s p ph) := by
  unfold State.macTransmit
  repeat' first
  | (extract_lets +onlyGivenNames x; first
      | (refine (fun (h : Within 0x3001D6C8 s x) => ?_) ?_; clear_value x; rotate_left; subst x; rotate_left)
      | (refine (fun (h : Within 0x3001D6C8 s x.1) => ?_) ?_; clear_value x; rotate_left; subst x; rotate_left)
      | (refine (fun (h : Within 0x3001D6C8 s x.2) => ?_) ?_; clear_value x; rotate_left; subst x; rotate_left)
      | clear_value x
      | skip)
  | with_reducible apply Within.refl
  | (with_reducible apply Within.after (within_txRing _ _ _); · decide)
  | (with_reducible apply Within.after (within_txQueued _ _ _ _); · decide)
  | (with_reducible apply Within.after (within_segSend _ _ _ _); · decide)
  | split

theorem within_prpLanFault (s : State) (q : ℕ) (lan : ℕ) :
    Within 0x1C6C8 s (State.prpLanFault s q lan) := by
  unfold State.prpLanFault
  repeat' first
  | (extract_lets +onlyGivenNames x; first
      | (refine (fun (h : Within 0x1C6C8 s x) => ?_) ?_; clear_value x; rotate_left; subst x; rotate_left)
      | (refine (fun (h : Within 0x1C6C8 s x.1) => ?_) ?_; clear_value x; rotate_left; subst x; rotate_left)
      | (refine (fun (h : Within 0x1C6C8 s x.2) => ?_) ?_; clear_value x; rotate_left; subst x; rotate_left)
      | clear_value x
      | skip)
  | with_reducible apply Within.refl
  | (with_reducible apply Within.after (within_prpFault _ _ _ _); · decide)
  | split

theorem within_setSegm (s : State) (g : ℕ) (x : Segment) :
    Within 0x80000000 s (State.setSegm s g x) := by
  unfold State.setSegm
  repeat' first
  | with_reducible apply Within.refl
  | (with_reducible apply Within.upd
     any_goals (fail_if_success (with_reducible exact fun _ => rfl); exact fun b => absurd b (by decide))
     all_goals first | exact fun _ => rfl | exact fun b => absurd b (by decide) | with_reducible exact Nat.le_refl _ | with_reducible exact List.suffix_refl _ | exact id | skip)

theorem within_t1sHook (s : State) (off : ℕ) :
    Within 0x80000000 s (State.t1sHook s off) := by
  unfold State.t1sHook
  repeat' first
  | with_reducible apply Within.refl
  | with_reducible assumption
  | (with_reducible apply Within.after (within_setSegm _ _ _); · decide)
  | with_reducible apply Within.foldl
  | (with_reducible intro y a h)
  | split

theorem within_t1sReturnN (x0 : ℕ) (s : State) :
    Within 0x10001C6C8 s (t1sReturnN x0 s) := by
  induction x0 generalizing s with
  | zero =>
    unfold t1sReturnN
    first | exact Within.refl _ | exact (Within.refl _).mono (by decide) | (split <;> exact Within.refl _)
  | succ n ih =>
    unfold t1sReturnN
    repeat' first
    | with_reducible apply Within.refl
    | (with_reducible apply Within.after (within_ringReturn _ _ _ _); · decide)
    | (with_reducible apply Within.after (within_setRingX _ _ _); · decide)
    | (with_reducible apply Within.after (ih _); · decide)
    | split
    | (with_reducible apply Within.upd
       any_goals (fail_if_success (with_reducible exact fun _ => rfl); exact fun b => absurd b (by decide))
       all_goals first | exact fun _ => rfl | exact fun b => absurd b (by decide) | with_reducible exact Nat.le_refl _ | with_reducible exact List.suffix_refl _ | exact id | skip)

theorem within_t1sFinish (s : State) (num : ℕ) (status : ℕ) :
    Within 0x10001C6C8 s (State.t1sFinish s num status) := by
  unfold State.t1sFinish
  repeat' first
  | with_reducible apply Within.refl
  | (with_reducible apply Within.after (within_t1sReturnN _ _); · decide)
  | (with_reducible apply Within.upd
     any_goals (fail_if_success (with_reducible exact fun _ => rfl); exact fun b => absurd b (by decide))
     all_goals first | exact fun _ => rfl | exact fun b => absurd b (by decide) | with_reducible exact Nat.le_refl _ | with_reducible exact List.suffix_refl _ | exact id | skip)

theorem within_t1sShow (s : State) (g : ℕ) :
    Within 0x8 s (State.t1sShow s g) := by
  unfold State.t1sShow
  repeat' first
  | with_reducible apply Within.refl
  | (with_reducible apply Within.after (within_setRb _ _ _ _); · decide)

theorem within_t1sNext (s : State) (g : ℕ) (status : ℕ) (quiet : ℕ) :
    Within 0x18001C6C8 s (State.t1sNext s g status quiet) := by
  unfold State.t1sNext
  repeat' first
  | (extract_lets +onlyGivenNames x; first
      | (refine (fun (h : Within 0x18001C6C8 s x) => ?_) ?_; clear_value x; rotate_left; subst x; rotate_left)
      | (refine (fun (h : Within 0x18001C6C8 s x.1) => ?_) ?_; clear_value x; rotate_left; subst x; rotate_left)
      | (refine (fun (h : Within 0x18001C6C8 s x.2) => ?_) ?_; clear_value x; rotate_left; subst x; rotate_left)
      | clear_value x
      | skip)
  | with_reducible apply Within.refl
  | with_reducible assumption
  | (with_reducible apply Within.after (within_t1sFinish _ _ _); · decide)
  | (with_reducible apply Within.after (within_t1sShow _ _); · decide)
  | (with_reducible apply Within.after (within_setSegm _ _ _); · decide)
  | split

theorem within_t1sCount (s : State) (g : ℕ) (j : ℕ) :
    Within 0x8 s (State.t1sCount s g j) := by
  unfold State.t1sCount
  repeat' first
  | with_reducible apply Within.refl
  | (with_reducible apply Within.after (within_bump _ _); · decide)

theorem within_t1sSendComplete (s : State) (g : ℕ) :
    Within 0x18001C6C8 s (State.t1sSendComplete s g) := by
  unfold State.t1sSendComplete
  repeat' first
  | (extract_lets +onlyGivenNames x; first
      | (refine (fun (h : Within 0x18001C6C8 s x) => ?_) ?_; clear_value x; rotate_left; subst x; rotate_left)
      | (refine (fun (h : Within 0x18001C6C8 s x.1) => ?_) ?_; clear_value x; rotate_left; subst x; rotate_left)
      | (refine (fun (h : Within 0x18001C6C8 s x.2) => ?_) ?_; clear_value x; rotate_left; subst x; rotate_left)
      | clear_value x
      | skip)
  | with_reducible apply Within.refl
  | (with_reducible apply Within.after (within_t1sNext _ _ _ _); · decide)
  | (with_reducible apply Within.after (within_t1sCount _ _ _); · decide)
  | (with_reducible apply Within.after (within_emit _ _); · decide)
  | split

theorem within_t1sJamEnd (s : State) (g : ℕ) :
    Within 0x18001C6C8 s (State.t1sJamEnd s g) := by
  unfold State.t1sJamEnd
  repeat' first
  | (extract_lets +onlyGivenNames x; first
      | (refine (fun (h : Within 0x18001C6C8 s x) => ?_) ?_; clear_value x; rotate_left; subst x; rotate_left)
      | (refine (fun (h : Within 0x18001C6C8 s x.1) => ?_) ?_; clear_value x; rotate_left; subst x; rotate_left)
      | (refine (fun (h : Within 0x18001C6C8 s x.2) => ?_) ?_; clear_value x; rotate_left; subst x; rotate_left)
      | clear_value x
      | skip)
  | with_reducible apply Within.refl
  | (with_reducible apply Within.after (within_flagRaise _ _ _ _ _); · decide)
  | (with_reducible apply Within.after (within_t1sNext _ _ _ _); · decide)
  | (with_reducible apply Within.after (within_t1sShow _ _); · decide)
  | (with_reducible apply Within.after (within_setSegm _ _ _); · decide)
  | (with_reducible apply Within.after (within_t1sCount _ _ _); · decide)
  | split

theorem within_t1sJams (s : State) :
    Within 0x18001C6C8 s (State.t1sJams s) := by
  unfold State.t1sJams
  repeat' first
  | with_reducible apply Within.refl
  | (with_reducible apply Within.after (within_t1sJamEnd _ _); · decide)

theorem within_t1sBackoffExpiry (s : State) (g : ℕ) :
    Within 0x80000008 s (State.t1sBackoffExpiry s g) := by
  unfold State.t1sBackoffExpiry
  repeat' first
  | (extract_lets +onlyGivenNames x; first
      | (refine (fun (h : Within 0x80000008 s x) => ?_) ?_; clear_value x; rotate_left; subst x; rotate_left)
      | (refine (fun (h : Within 0x80000008 s x.1) => ?_) ?_; clear_value x; rotate_left; subst x; rotate_left)
      | (refine (fun (h : Within 0x80000008 s x.2) => ?_) ?_; clear_value x; rotate_left; subst x; rotate_left)
      | clear_value x
      | skip)
  | with_reducible apply Within.refl
  | (with_reducible apply Within.after (within_t1sShow _ _); · decide)
  | (with_reducible apply Within.after (within_setSegm _ _ _); · decide)
  | split

theorem within_t1sCollision (s : State) (g : ℕ) (bits : ℕ) :
    Within 0x18001C6C8 s (State.t1sCollision s g bits) := by
  unfold State.t1sCollision
  repeat' first
  | (extract_lets +onlyGivenNames x; first
      | (refine (fun (h : Within 0x18001C6C8 s x) => ?_) ?_; clear_value x; rotate_left; subst x; rotate_left)
      | (refine (fun (h : Within 0x18001C6C8 s x.1) => ?_) ?_; clear_value x; rotate_left; subst x; rotate_left)
      | (refine (fun (h : Within 0x18001C6C8 s x.2) => ?_) ?_; clear_value x; rotate_left; subst x; rotate_left)
      | clear_value x
      | skip)
  | with_reducible apply Within.refl
  | with_reducible assumption
  | (with_reducible apply Within.after (within_t1sNext _ _ _ _); · decide)
  | (with_reducible apply Within.after (within_t1sShow _ _); · decide)
  | (with_reducible apply Within.after (within_setSegm _ _ _); · decide)
  | (with_reducible apply Within.after (within_t1sCount _ _ _); · decide)
  | (with_reducible apply Within.after (within_setRb _ _ _ _); · decide)
  | (with_reducible apply Within.after (within_emit _ _); · decide)
  | split

theorem within_t1sDeferEnd (s : State) (g : ℕ) :
    Within 0x80000008 s (State.t1sDeferEnd s g) := by
  unfold State.t1sDeferEnd
  repeat' first
  | (extract_lets +onlyGivenNames x; first
      | (refine (fun (h : Within 0x80000008 s x) => ?_) ?_; clear_value x; rotate_left; subst x; rotate_left)
      | (refine (fun (h : Within 0x80000008 s x.1) => ?_) ?_; clear_value x; rotate_left; subst x; rotate_left)
      | (refine (fun (h : Within 0x80000008 s x.2) => ?_) ?_; clear_value x; rotate_left; subst x; rotate_left)
      | clear_value x
      | skip)
  | with_reducible apply Within.refl
  | (with_reducible apply Within.after (within_t1sShow _ _); · decide)
  | (with_reducible apply Within.after (within_setSegm _ _ _); · decide)
  | split

theorem within_t1sHeard (s : State) (g : ℕ) :
    Within 0x80000000 s (State.t1sHeard s g) := by
  unfold State.t1sHeard
  repeat' first
  | with_reducible apply Within.refl
  | (with_reducible apply Within.after (within_setSegm _ _ _); · decide)

theorem within_t1sReceive (s : State) (g : ℕ) (bs : List Byte) (full : Bool) :
    Within 0x8001C6C8 s (State.t1sReceive s g bs full) := by
  unfold State.t1sReceive
  repeat' first
  | (extract_lets +onlyGivenNames x; first
      | (refine (fun (h : Within 0x8001C6C8 s x) => ?_) ?_; clear_value x; rotate_left; subst x; rotate_left)
      | (refine (fun (h : Within 0x8001C6C8 s x.1) => ?_) ?_; clear_value x; rotate_left; subst x; rotate_left)
      | (refine (fun (h : Within 0x8001C6C8 s x.2) => ?_) ?_; clear_value x; rotate_left; subst x; rotate_left)
      | clear_value x
      | skip)
  | with_reducible apply Within.refl
  | with_reducible assumption
  | (with_reducible apply Within.after (within_flagRaise _ _ _ _ _); · decide)
  | (with_reducible apply Within.after (within_t1sHeard _ _); · decide)
  | (with_reducible apply Within.after (within_postFrame _ _ _ _); · decide)
  | (with_reducible apply Within.after (within_t1sCount _ _ _); · decide)
  | split

theorem within_t1sTake (s : State) :
    Within 0x38001C6C8 s (State.t1sTake s) := by
  unfold State.t1sTake
  repeat' first
  | (extract_lets +onlyGivenNames x; first
      | (refine (fun (h : Within 0x38001C6C8 s x) => ?_) ?_; clear_value x; rotate_left; subst x; rotate_left)
      | (refine (fun (h : Within 0x38001C6C8 s x.1) => ?_) ?_; clear_value x; rotate_left; subst x; rotate_left)
      | (refine (fun (h : Within 0x38001C6C8 s x.2) => ?_) ?_; clear_value x; rotate_left; subst x; rotate_left)
      | (have e : x = fun y => x y := rfl; clear e; subst x)
      | clear_value x
      | skip)
  | with_reducible apply Within.refl
  | with_reducible assumption
  | (with_reducible apply Within.after (within_t1sFinish _ _ _); · decide)
  | (with_reducible apply Within.after (within_t1sShow _ _); · decide)
  | (with_reducible apply Within.after (within_setSegm _ _ _); · decide)
  | (with_reducible apply Within.after (within_setRingX _ _ _); · decide)
  | split
  | (with_reducible apply Within.upd
     any_goals (fail_if_success (with_reducible exact fun _ => rfl); exact fun b => absurd b (by decide))
     all_goals first | exact fun _ => rfl | exact fun b => absurd b (by decide) | with_reducible exact Nat.le_refl _ | with_reducible exact List.suffix_refl _ | exact id | skip)

theorem within_setSeat (s : State) (code : ℕ) (x : Option Seat) :
    Within 0x400000000 s (State.setSeat s code x) := by
  unfold State.setSeat
  repeat' first
  | with_reducible apply Within.refl
  | (with_reducible apply Within.upd
     any_goals (fail_if_success (with_reducible exact fun _ => rfl); exact fun b => absurd b (by decide))
     all_goals first | exact fun _ => rfl | exact fun b => absurd b (by decide) | with_reducible exact Nat.le_refl _ | with_reducible exact List.suffix_refl _ | exact id | skip)

theorem within_setSeatW (s : State) (code : ℕ) (d : ℕ) (w : Word) :
    Within 0x80000 s (State.setSeatW s code d w) := by
  unfold State.setSeatW
  repeat' first
  | with_reducible apply Within.refl
  | (with_reducible apply Within.after (within_setTw _ _ _); · decide)

theorem within_seatFrame (s : State) (f : Seated) (ingressNs : ℕ) :
    Within 0xC0009C6C8 s (State.seatFrame s f ingressNs) := by
  unfold State.seatFrame
  repeat' first
  | with_reducible apply Within.refl
  | (with_reducible apply Within.after (within_setRf _ _ _ _ _); · decide)
  | (with_reducible apply Within.after (within_flagRaise _ _ _ _ _); · decide)
  | (with_reducible apply Within.after (within_setSeat _ _ _); · decide)
  | (with_reducible apply Within.after (within_setSeatW _ _ _ _); · decide)
  | split
  | (with_reducible apply Within.upd
     any_goals (fail_if_success (with_reducible exact fun _ => rfl); exact fun b => absurd b (by decide))
     all_goals first | exact fun _ => rfl | exact fun b => absurd b (by decide) | with_reducible exact Nat.le_refl _ | with_reducible exact List.suffix_refl _ | exact id | skip)

theorem within_setForm (s : State) (f : ℕ) (x : Form) :
    Within 0x1000000000 s (State.setForm s f x) := by
  unfold State.setForm
  repeat' first
  | with_reducible apply Within.refl
  | (with_reducible apply Within.upd
     any_goals (fail_if_success (with_reducible exact fun _ => rfl); exact fun b => absurd b (by decide))
     all_goals first | exact fun _ => rfl | exact fun b => absurd b (by decide) | with_reducible exact Nat.le_refl _ | with_reducible exact List.suffix_refl _ | exact id | skip)

theorem within_unbind (s : State) (f : ℕ) (m : ℕ) :
    Within 0x1000000008 s (State.unbind s f m) := by
  unfold State.unbind
  repeat' first
  | with_reducible apply Within.refl
  | (with_reducible apply Within.after (within_setRf _ _ _ _ _); · decide)
  | (with_reducible apply Within.after (within_setForm _ _ _); · decide)

theorem within_bind (s : State) (f : ℕ) (m : ℕ) (code : ℕ) :
    Within 0x1000000008 s (State.bind s f m code) := by
  unfold State.bind
  repeat' first
  | with_reducible apply Within.refl
  | (with_reducible apply Within.after (within_setRf _ _ _ _ _); · decide)
  | (with_reducible apply Within.after (within_setForm _ _ _); · decide)

theorem within_setLink (s : State) (k : ℕ) (x : Link) :
    Within 0x4000000000 s (State.setLink s k x) := by
  unfold State.setLink
  repeat' first
  | with_reducible apply Within.refl
  | (with_reducible apply Within.upd
     any_goals (fail_if_success (with_reducible exact fun _ => rfl); exact fun b => absurd b (by decide))
     all_goals first | exact fun _ => rfl | exact fun b => absurd b (by decide) | with_reducible exact Nat.le_refl _ | with_reducible exact List.suffix_refl _ | exact id | skip)

theorem within_putPacket (s : State) (k : ℕ) (p : Packet) (seq : ℕ) :
    Within 0x4000000088 s (State.putPacket s k p seq) := by
  unfold State.putPacket
  repeat' first
  | with_reducible apply Within.refl
  | (with_reducible apply Within.after (within_bump _ _); · decide)
  | (with_reducible apply Within.after (within_setLink _ _ _); · decide)
  | (with_reducible apply Within.after (within_emit _ _); · decide)

theorem within_sendNow (s : State) (k : ℕ) (p : Packet) :
    Within 0x4000000088 s (State.sendNow s k p) := by
  unfold State.sendNow
  repeat' first
  | with_reducible apply Within.refl
  | (with_reducible apply Within.after (within_setLink _ _ _); · decide)
  | (with_reducible apply Within.after (within_putPacket _ _ _ _); · decide)

theorem within_fjlSend (s : State) (q : ℕ) (kind : ℕ) (hops : ℕ) (payload : List Byte) :
    Within 0x4000000088 s (State.fjlSend s q kind hops payload) := by
  unfold State.fjlSend
  repeat' first
  | (extract_lets +onlyGivenNames x; first
      | (refine (fun (h : Within 0x4000000088 s x) => ?_) ?_; clear_value x; rotate_left; subst x; rotate_left)
      | (refine (fun (h : Within 0x4000000088 s x.1) => ?_) ?_; clear_value x; rotate_left; subst x; rotate_left)
      | (refine (fun (h : Within 0x4000000088 s x.2) => ?_) ?_; clear_value x; rotate_left; subst x; rotate_left)
      | clear_value x
      | skip)
  | with_reducible apply Within.refl
  | (with_reducible apply Within.after (within_sendNow _ _ _); · decide)
  | (with_reducible apply Within.after (within_setLink _ _ _); · decide)
  | split

theorem within_drainLink (s : State) (k : ℕ) (x2 : ℕ) :
    Within 0x4000000088 s (State.drainLink s k x2) := by
  induction x2 generalizing s with
  | zero =>
    unfold State.drainLink
    first | exact Within.refl _ | exact (Within.refl _).mono (by decide) | (split <;> exact Within.refl _)
  | succ n ih =>
    unfold State.drainLink
    repeat' first
    | (extract_lets +onlyGivenNames x; first
        | (refine (fun (h : Within 0x4000000088 s x) => ?_) ?_; clear_value x; rotate_left; subst x; rotate_left)
        | (refine (fun (h : Within 0x4000000088 s x.1) => ?_) ?_; clear_value x; rotate_left; subst x; rotate_left)
        | (refine (fun (h : Within 0x4000000088 s x.2) => ?_) ?_; clear_value x; rotate_left; subst x; rotate_left)
        | clear_value x
        | skip)
    | with_reducible apply Within.refl
    | (with_reducible apply Within.after (within_sendNow _ _ _); · decide)
    | (with_reducible apply Within.after (within_setLink _ _ _); · decide)
    | (with_reducible apply Within.after (ih _); · decide)
    | split

theorem within_sendControl (s : State) (k : ℕ) (kind : ℕ) (payload : List Byte) :
    Within 0x4000000088 s (State.sendControl s k kind payload) := by
  unfold State.sendControl
  repeat' first
  | with_reducible apply Within.refl
  | (with_reducible apply Within.after (within_putPacket _ _ _ _); · decide)

theorem within_keyMiss (s : State) :
    Within 0x8 s (State.keyMiss s) := by
  unfold State.keyMiss
  repeat' first
  | with_reducible apply Within.refl
  | (with_reducible apply Within.after (within_bump _ _); · decide)

theorem within_setSlot (s : State) (i : ℕ) (k : KeySlot) :
    Within 0x1000000000000 s (State.setSlot s i k) := by
  unfold State.setSlot
  repeat' first
  | with_reducible apply Within.refl
  | (with_reducible apply Within.upd
     any_goals (fail_if_success (with_reducible exact fun _ => rfl); exact fun b => absurd b (by decide))
     all_goals first | exact fun _ => rfl | exact fun b => absurd b (by decide) | with_reducible exact Nat.le_refl _ | with_reducible exact List.suffix_refl _ | exact id | skip)

theorem within_dropCache (s : State) (i : ℕ) :
    Within 0x8 s (State.dropCache s i) := by
  unfold State.dropCache
  repeat' first
  | with_reducible apply Within.refl
  | with_reducible assumption
  | (with_reducible apply Within.after (within_setRb _ _ _ _); · decide)
  | with_reducible apply Within.foldl
  | (with_reducible intro y a h)
  | split

theorem within_tagCheck (s : State) (i : ℕ) :
    Within 0x100000001C6C8 s (State.tagCheck s i) := by
  unfold State.tagCheck
  repeat' first
  | (extract_lets +onlyGivenNames x; first
      | (refine (fun (h : Within 0x100000001C6C8 s x) => ?_) ?_; clear_value x; rotate_left; subst x; rotate_left)
      | (refine (fun (h : Within 0x100000001C6C8 s x.1) => ?_) ?_; clear_value x; rotate_left; subst x; rotate_left)
      | (refine (fun (h : Within 0x100000001C6C8 s x.2) => ?_) ?_; clear_value x; rotate_left; subst x; rotate_left)
      | clear_value x
      | skip)
  | with_reducible apply Within.refl
  | (with_reducible apply Within.after (within_bump _ _); · decide)
  | (with_reducible apply Within.after (within_flagRaise _ _ _ _ _); · decide)
  | (with_reducible apply Within.after (within_setSlot _ _ _); · decide)
  | (with_reducible apply Within.after (within_dropCache _ _); · decide)
  | split

theorem within_keyFail (s : State) (i : ℕ) :
    Within 0x100000001C6C8 s (State.keyFail s i) := by
  unfold State.keyFail
  repeat' first
  | (extract_lets +onlyGivenNames x; first
      | (refine (fun (h : Within 0x100000001C6C8 s x) => ?_) ?_; clear_value x; rotate_left; subst x; rotate_left)
      | (refine (fun (h : Within 0x100000001C6C8 s x.1) => ?_) ?_; clear_value x; rotate_left; subst x; rotate_left)
      | (refine (fun (h : Within 0x100000001C6C8 s x.2) => ?_) ?_; clear_value x; rotate_left; subst x; rotate_left)
      | clear_value x
      | skip)
  | with_reducible apply Within.refl
  | with_reducible assumption
  | (with_reducible apply Within.after (within_keyMiss _); · decide)
  | (with_reducible apply Within.after (within_tagCheck _ _); · decide)
  | split

theorem within_floorAuto (s : State) (version : ℕ) :
    Within 0x8 s (State.floorAuto s version) := by
  unfold State.floorAuto
  repeat' first
  | with_reducible apply Within.refl
  | (with_reducible apply Within.after (within_setReg _ _ _); · decide)
  | split

theorem within_deriveSlot0 (s : State) :
    Within 0x1000000000008 s (State.deriveSlot0 s) := by
  unfold State.deriveSlot0
  repeat' first
  | with_reducible apply Within.refl
  | (with_reducible apply Within.after (within_setSlot _ _ _); · decide)
  | (with_reducible apply Within.after (within_setRb _ _ _ _); · decide)

theorem within_tamperImage (s : State) :
    Within 0x1C6C8 s (State.tamperImage s) := by
  unfold State.tamperImage
  repeat' first
  | (extract_lets +onlyGivenNames x; first
      | (refine (fun (h : Within 0x1C6C8 s x) => ?_) ?_; clear_value x; rotate_left; subst x; rotate_left)
      | (refine (fun (h : Within 0x1C6C8 s x.1) => ?_) ?_; clear_value x; rotate_left; subst x; rotate_left)
      | (refine (fun (h : Within 0x1C6C8 s x.2) => ?_) ?_; clear_value x; rotate_left; subst x; rotate_left)
      | clear_value x
      | skip)
  | with_reducible apply Within.refl
  | with_reducible assumption
  | (with_reducible apply Within.after (within_setRf _ _ _ _ _); · decide)
  | (with_reducible apply Within.after (within_raise _ _ _); · decide)
  | (with_reducible apply Within.after (within_setRb _ _ _ _); · decide)
  | split

theorem within_keyComplete (s : State) (q : KeyReq) (d : List Byte) (o : KeyOut) (h_o : Within 0x100000001C6CC s o.st) :
    Within 0x100000001C6CC s (State.keyComplete s q d o) := by
  unfold State.keyComplete
  refine Within.trans h_o ?_
  exact Within.after (within_ringReturn _ _ _ _) (by decide) (Within.after (within_ringReturn _ _ _ _) (by decide)
    (Within.after (within_bump _ _) (by decide) ((within_hostWrite _ _ _).mono (by decide))))

theorem within_keyTampered (s : State) :
    Within 0x100000001C6CC s (State.keyTampered s) := by
  unfold State.keyTampered
  split
  · exact within_keyComplete _ _ _ _ (Within.refl _)
  · exact Within.refl _

theorem within_zeroise (s : State) :
    Within 0x1000000000000 s (State.zeroise s) := by
  unfold State.zeroise
  repeat' first
  | with_reducible apply Within.refl
  | (with_reducible apply Within.upd
     any_goals (fail_if_success (with_reducible exact fun _ => rfl); exact fun b => absurd b (by decide))
     all_goals first | exact fun _ => rfl | exact fun b => absurd b (by decide) | with_reducible exact Nat.le_refl _ | with_reducible exact List.suffix_refl _ | exact id | skip)

theorem within_tamperHit (s : State) (op : Bool) (bitNo : ℕ) :
    Within 0x100000001C6CC s (State.tamperHit s op bitNo) := by
  unfold State.tamperHit
  repeat' first
  | with_reducible apply Within.refl
  | (with_reducible apply Within.after (within_setRf _ _ _ _ _); · decide)
  | (with_reducible apply Within.after (within_flagRaise _ _ _ _ _); · decide)
  | (with_reducible apply Within.after (within_tamperImage _); · decide)
  | (with_reducible apply Within.after (within_keyTampered _); · decide)
  | (with_reducible apply Within.after (within_zeroise _); · decide)
  | (with_reducible apply Within.after (within_setRb _ _ _ _); · decide)
  | split
  | (with_reducible apply Within.upd
     any_goals (fail_if_success (with_reducible exact fun _ => rfl); exact fun b => absurd b (by decide))
     all_goals first | exact fun _ => rfl | exact fun b => absurd b (by decide) | with_reducible exact Nat.le_refl _ | with_reducible exact List.suffix_refl _ | exact id | skip)

theorem within_tamperNew (s : State) (op : Bool) (before : ℕ) :
    Within 0x100000001C6CC s (State.tamperNew s op before) := by
  unfold State.tamperNew
  repeat' first
  | with_reducible apply Within.refl
  | with_reducible assumption
  | (with_reducible apply Within.after (within_setRf _ _ _ _ _); · decide)
  | (with_reducible apply Within.after (within_tamperHit _ _ _); · decide)
  | with_reducible apply Within.foldl
  | (with_reducible intro y a h)
  | split

theorem within_keyHook (s : State) (off : ℕ) (old : Word) (v : Word) :
    Within 0x100000001C6CC s (State.keyHook s off old v) := by
  unfold State.keyHook
  repeat' first
  | with_reducible apply Within.refl
  | (with_reducible apply Within.after (within_setReg _ _ _); · decide)
  | (with_reducible apply Within.after (within_deriveSlot0 _); · decide)
  | (with_reducible apply Within.after (within_tamperNew _ _ _); · decide)
  | (with_reducible apply Within.after (within_setRb _ _ _ _); · decide)
  | split

theorem within_keyStart (s : State) :
    Within 0x100000001C6C8 s (State.keyStart s) := by
  unfold State.keyStart
  repeat' first
  | with_reducible apply Within.refl
  | (with_reducible apply Within.after (within_tamperImage _); · decide)
  | (with_reducible apply Within.after (within_setSlot _ _ _); · decide)
  | (with_reducible apply Within.after (within_deriveSlot0 _); · decide)
  | (with_reducible apply Within.after (within_zeroise _); · decide)
  | (with_reducible apply Within.after (within_setRb _ _ _ _); · decide)
  | split
  | (with_reducible apply Within.upd
     any_goals (fail_if_success (with_reducible exact fun _ => rfl); exact fun b => absurd b (by decide))
     all_goals first | exact fun _ => rfl | exact fun b => absurd b (by decide) | with_reducible exact Nat.le_refl _ | with_reducible exact List.suffix_refl _ | exact id | skip)

theorem within_create (s : State) (q : KeyReq) (pb : List Byte) (mat : List Byte) (origin : ℕ) (depth : ℕ) (parent : Option ℕ) :
    Within 0x1000000000000 s (State.create s q pb mat origin depth parent).st := by
  unfold State.create
  repeat' first
  | with_reducible apply Within.refl
  | (with_reducible apply Within.after (within_setSlot _ _ _); · decide)

theorem within_keyAonPor (s : State) :
    Within 0x1000000000038 s (State.keyAonPor s) := by
  unfold State.keyAonPor
  repeat' first
  | with_reducible apply Within.refl
  | (with_reducible apply Within.after (within_resetRegs _ _ _); · decide)
  | (with_reducible apply Within.upd
     any_goals (fail_if_success (with_reducible exact fun _ => rfl); exact fun b => absurd b (by decide))
     all_goals first | exact fun _ => rfl | exact fun b => absurd b (by decide) | with_reducible exact Nat.le_refl _ | with_reducible exact List.suffix_refl _ | exact id | skip)

theorem within_upsetSlots (s : State) (is : List ℕ) :
    Within 0x1000000000000 s (State.upsetSlots s is) := by
  unfold State.upsetSlots
  repeat' first
  | with_reducible apply Within.refl
  | with_reducible assumption
  | (with_reducible apply Within.after (within_setSlot _ _ _); · decide)
  | with_reducible apply Within.foldl
  | (with_reducible intro y a h)
  | split

theorem within_keyScrub (s : State) (upset : List ℕ) :
    Within 0x100000001C6C8 s (State.keyScrub s upset) := by
  unfold State.keyScrub
  repeat' first
  | (extract_lets +onlyGivenNames x; first
      | (refine (fun (h : Within 0x100000001C6C8 s x) => ?_) ?_; clear_value x; rotate_left; subst x; rotate_left)
      | (refine (fun (h : Within 0x100000001C6C8 s x.1) => ?_) ?_; clear_value x; rotate_left; subst x; rotate_left)
      | (refine (fun (h : Within 0x100000001C6C8 s x.2) => ?_) ?_; clear_value x; rotate_left; subst x; rotate_left)
      | clear_value x
      | skip)
  | with_reducible apply Within.refl
  | with_reducible assumption
  | (with_reducible apply Within.after (within_bump _ _); · decide)
  | (with_reducible apply Within.after (within_upsetSlots _ _); · decide)
  | (with_reducible apply Within.after (within_tagCheck _ _); · decide)
  | with_reducible apply Within.foldl
  | (with_reducible intro y a h)
  | split

theorem within_keyServe (s : State) (op : ℕ) (f : State → KeyReq → KeyOut) (h_f : ∀ y q, Within 0x100000001C6CC y (f y q).st) :
    Within 0x100000001C6CC s (State.keyServe s op f) := by
  unfold State.keyServe
  split
  · extract_lets d q x
    split
    · exact Within.refl _
    · split
      · have hx : Within 0x100000001C6CC s x := Within.foldl (fun y a h => Within.after (within_tagCheck y a) (by decide) h) (Within.refl _)
        exact hx.trans (within_keyComplete _ _ _ _ ((h_f _ _).mono (by decide)))
      · exact (within_ringExhaust _ _ _).mono (by decide)
  · exact Within.refl _

theorem within_random (s : State) (n : ℕ) :
    Within 0x1000000000000 s (State.random s n).2 := by
  unfold State.random
  repeat' first
  | with_reducible apply Within.refl
  | (with_reducible apply Within.upd
     any_goals (fail_if_success (with_reducible exact fun _ => rfl); exact fun b => absurd b (by decide))
     all_goals first | exact fun _ => rfl | exact fun b => absurd b (by decide) | with_reducible exact Nat.le_refl _ | with_reducible exact List.suffix_refl _ | exact id | skip)

theorem within_newMaterial (s : State) (type : ℕ) :
    Within 0x1000000000000 s (State.newMaterial s type).2 := by
  unfold State.newMaterial
  repeat' first
  | with_reducible apply Within.refl
  | (with_reducible apply Within.after (within_random _ _); · decide)
  | split

theorem within_pick (s : State) (causes : List (Bool × ℕ)) :
    Within 0x4 s (State.pick s causes).2 := by
  unfold State.pick
  repeat' first
  | with_reducible apply Within.refl
  | (with_reducible apply Within.after (within_draw _ _); · decide)
  | split

theorem within_pickMust (s : State) (must : List (Bool × ℕ)) (causes : List (Bool × ℕ)) :
    Within 0x4 s (State.pickMust s must causes).2 := by
  unfold State.pickMust
  repeat' first
  | with_reducible apply Within.refl
  | (with_reducible apply Within.after (within_pick _ _); · decide)

theorem within_opAttest (s : State) (q : KeyReq) :
    Within 0xC s (State.opAttest s q).st := by
  unfold State.opAttest
  repeat' first
  | (extract_lets +onlyGivenNames x; first
      | (refine (fun (h : Within 0xC s x) => ?_) ?_; clear_value x; rotate_left; subst x; rotate_left)
      | (refine (fun (h : Within 0xC s x.1) => ?_) ?_; clear_value x; rotate_left; subst x; rotate_left)
      | (refine (fun (h : Within 0xC s x.2) => ?_) ?_; clear_value x; rotate_left; subst x; rotate_left)
      | clear_value x
      | skip)
  | with_reducible apply Within.refl
  | with_reducible assumption
  | (with_reducible apply Within.after (within_bump _ _); · decide)
  | (with_reducible apply Within.after (within_pickMust _ _ _); · decide)
  | split

theorem within_opDerive (s : State) (q : KeyReq) :
    Within 0x1000000000004 s (State.opDerive s q).st := by
  unfold State.opDerive
  repeat' first
  | (extract_lets +onlyGivenNames x; first
      | (refine (fun (h : Within 0x1000000000004 s x) => ?_) ?_; clear_value x; rotate_left; subst x; rotate_left)
      | (refine (fun (h : Within 0x1000000000004 s x.1) => ?_) ?_; clear_value x; rotate_left; subst x; rotate_left)
      | (refine (fun (h : Within 0x1000000000004 s x.2) => ?_) ?_; clear_value x; rotate_left; subst x; rotate_left)
      | clear_value x
      | skip)
  | with_reducible apply Within.refl
  | with_reducible assumption
  | (with_reducible apply Within.after (within_create _ _ _ _ _ _ _); · decide)
  | (with_reducible apply Within.after (within_pickMust _ _ _); · decide)
  | split

theorem within_opFree (s : State) (q : KeyReq) :
    Within 0x100000000000C s (State.opFree s q).st := by
  unfold State.opFree
  repeat' first
  | (extract_lets +onlyGivenNames x; first
      | (refine (fun (h : Within 0x100000000000C s x) => ?_) ?_; clear_value x; rotate_left; subst x; rotate_left)
      | (refine (fun (h : Within 0x100000000000C s x.1) => ?_) ?_; clear_value x; rotate_left; subst x; rotate_left)
      | (refine (fun (h : Within 0x100000000000C s x.2) => ?_) ?_; clear_value x; rotate_left; subst x; rotate_left)
      | clear_value x
      | skip)
  | with_reducible apply Within.refl
  | with_reducible assumption
  | (with_reducible apply Within.after (within_setSlot _ _ _); · decide)
  | (with_reducible apply Within.after (within_pick _ _); · decide)
  | (with_reducible apply Within.after (within_dropCache _ _); · decide)
  | split

theorem within_opGenerate (s : State) (q : KeyReq) :
    Within 0x1000000000004 s (State.opGenerate s q).st := by
  unfold State.opGenerate
  repeat' first
  | (extract_lets +onlyGivenNames x; first
      | (refine (fun (h : Within 0x1000000000004 s x) => ?_) ?_; clear_value x; rotate_left; subst x; rotate_left)
      | (refine (fun (h : Within 0x1000000000004 s x.1) => ?_) ?_; clear_value x; rotate_left; subst x; rotate_left)
      | (refine (fun (h : Within 0x1000000000004 s x.2) => ?_) ?_; clear_value x; rotate_left; subst x; rotate_left)
      | clear_value x
      | skip)
  | with_reducible apply Within.refl
  | with_reducible assumption
  | (with_reducible apply Within.after (within_newMaterial _ _); · decide)
  | (with_reducible apply Within.after (within_pick _ _); · decide)
  | (with_reducible apply Within.after (within_create _ _ _ _ _ _ _); · decide)
  | split

theorem within_opImport (s : State) (q : KeyReq) :
    Within 0x1000000000004 s (State.opImport s q).st := by
  unfold State.opImport
  repeat' first
  | (extract_lets +onlyGivenNames x; first
      | (refine (fun (h : Within 0x1000000000004 s x) => ?_) ?_; clear_value x; rotate_left; subst x; rotate_left)
      | (refine (fun (h : Within 0x1000000000004 s x.1) => ?_) ?_; clear_value x; rotate_left; subst x; rotate_left)
      | (refine (fun (h : Within 0x1000000000004 s x.2) => ?_) ?_; clear_value x; rotate_left; subst x; rotate_left)
      | clear_value x
      | skip)
  | with_reducible apply Within.refl
  | with_reducible assumption
  | (with_reducible apply Within.after (within_pick _ _); · decide)
  | (with_reducible apply Within.after (within_create _ _ _ _ _ _ _); · decide)
  | split

theorem within_opMac (s : State) (q : KeyReq) :
    Within 0x4 s (State.opMac s q).st := by
  unfold State.opMac
  repeat' first
  | (extract_lets +onlyGivenNames x; first
      | (refine (fun (h : Within 0x4 s x) => ?_) ?_; clear_value x; rotate_left; subst x; rotate_left)
      | (refine (fun (h : Within 0x4 s x.1) => ?_) ?_; clear_value x; rotate_left; subst x; rotate_left)
      | (refine (fun (h : Within 0x4 s x.2) => ?_) ?_; clear_value x; rotate_left; subst x; rotate_left)
      | clear_value x
      | skip)
  | with_reducible apply Within.refl
  | with_reducible assumption
  | (with_reducible apply Within.after (within_pick _ _); · decide)
  | split

theorem within_opMacVerify (s : State) (q : KeyReq) :
    Within 0x4 s (State.opMacVerify s q).st := by
  unfold State.opMacVerify
  repeat' first
  | with_reducible apply Within.refl
  | (with_reducible apply Within.after (within_pick _ _); · decide)

theorem within_opPublic (s : State) (q : KeyReq) :
    Within 0x4 s (State.opPublic s q).st := by
  unfold State.opPublic
  repeat' first
  | (extract_lets +onlyGivenNames x; first
      | (refine (fun (h : Within 0x4 s x) => ?_) ?_; clear_value x; rotate_left; subst x; rotate_left)
      | (refine (fun (h : Within 0x4 s x.1) => ?_) ?_; clear_value x; rotate_left; subst x; rotate_left)
      | (refine (fun (h : Within 0x4 s x.2) => ?_) ?_; clear_value x; rotate_left; subst x; rotate_left)
      | clear_value x
      | skip)
  | with_reducible apply Within.refl
  | with_reducible assumption
  | (with_reducible apply Within.after (within_pick _ _); · decide)
  | split

theorem within_opRandom (s : State) (q : KeyReq) :
    Within 0x1000000000000 s (State.opRandom s q).st := by
  unfold State.opRandom
  repeat' first
  | with_reducible apply Within.refl
  | (with_reducible apply Within.after (within_random _ _); · decide)
  | split

theorem within_opRevoke (s : State) (q : KeyReq) :
    Within 0x100000001C6CC s (State.opRevoke s q).st := by
  unfold State.opRevoke
  repeat' first
  | (extract_lets +onlyGivenNames x; first
      | (refine (fun (h : Within 0x100000001C6CC s x) => ?_) ?_; clear_value x; rotate_left; subst x; rotate_left)
      | (refine (fun (h : Within 0x100000001C6CC s x.1) => ?_) ?_; clear_value x; rotate_left; subst x; rotate_left)
      | (refine (fun (h : Within 0x100000001C6CC s x.2) => ?_) ?_; clear_value x; rotate_left; subst x; rotate_left)
      | clear_value x
      | skip)
  | with_reducible apply Within.refl
  | with_reducible assumption
  | (with_reducible apply Within.after (within_flagRaise _ _ _ _ _); · decide)
  | (with_reducible apply Within.after (within_setSlot _ _ _); · decide)
  | (with_reducible apply Within.after (within_pick _ _); · decide)
  | (with_reducible apply Within.after (within_dropCache _ _); · decide)
  | with_reducible apply Within.foldl
  | (with_reducible intro y a h)
  | split
  | (with_reducible apply Within.upd
     any_goals (fail_if_success (with_reducible exact fun _ => rfl); exact fun b => absurd b (by decide))
     all_goals first | exact fun _ => rfl | exact fun b => absurd b (by decide) | with_reducible exact Nat.le_refl _ | with_reducible exact List.suffix_refl _ | exact id | skip)

theorem within_opSign (s : State) (q : KeyReq) :
    Within 0x4 s (State.opSign s q).st := by
  unfold State.opSign
  repeat' first
  | (extract_lets +onlyGivenNames x; first
      | (refine (fun (h : Within 0x4 s x) => ?_) ?_; clear_value x; rotate_left; subst x; rotate_left)
      | (refine (fun (h : Within 0x4 s x.1) => ?_) ?_; clear_value x; rotate_left; subst x; rotate_left)
      | (refine (fun (h : Within 0x4 s x.2) => ?_) ?_; clear_value x; rotate_left; subst x; rotate_left)
      | clear_value x
      | skip)
  | with_reducible apply Within.refl
  | with_reducible assumption
  | (with_reducible apply Within.after (within_pick _ _); · decide)
  | split

theorem within_opVerify (s : State) (q : KeyReq) :
    Within 0x4 s (State.opVerify s q).st := by
  unfold State.opVerify
  repeat' first
  | with_reducible apply Within.refl
  | (with_reducible apply Within.after (within_pick _ _); · decide)

theorem within_tamperSee (s : State) (pins : ℕ) (us : ℕ) (mesh : Bool) (op : Bool) :
    Within 0x100000001C6CC s (State.tamperSee s pins us mesh op) := by
  unfold State.tamperSee
  repeat' first
  | with_reducible apply Within.refl
  | (with_reducible apply Within.after (within_tamperNew _ _ _); · decide)
  | (with_reducible apply Within.upd
     any_goals (fail_if_success (with_reducible exact fun _ => rfl); exact fun b => absurd b (by decide))
     all_goals first | exact fun _ => rfl | exact fun b => absurd b (by decide) | with_reducible exact Nat.le_refl _ | with_reducible exact List.suffix_refl _ | exact id | skip)

theorem within_sendPorts (s : State) (mask : ℕ) (source : ℕ) (f : List Byte) :
    Within 0x10000000 s (State.sendPorts s mask source f) := by
  unfold State.sendPorts
  repeat' first
  | with_reducible apply Within.refl
  | with_reducible assumption
  | (with_reducible apply Within.after (within_txQueue _ _ _ _); · decide)
  | with_reducible apply Within.foldl
  | (with_reducible intro y a h)
  | split

theorem within_mismatch (s : State) (kind : ℕ) (form : ℕ) (inst : ℕ) (seq : ℕ) :
    Within 0x1C6C8 s (State.mismatch s kind form inst seq) := by
  unfold State.mismatch
  repeat' first
  | (extract_lets +onlyGivenNames x; first
      | (refine (fun (h : Within 0x1C6C8 s x) => ?_) ?_; clear_value x; rotate_left; subst x; rotate_left)
      | (refine (fun (h : Within 0x1C6C8 s x.1) => ?_) ?_; clear_value x; rotate_left; subst x; rotate_left)
      | (refine (fun (h : Within 0x1C6C8 s x.2) => ?_) ?_; clear_value x; rotate_left; subst x; rotate_left)
      | clear_value x
      | skip)
  | with_reducible apply Within.refl
  | with_reducible assumption
  | (with_reducible apply Within.after (within_setReg _ _ _); · decide)
  | (with_reducible apply Within.after (within_bump _ _); · decide)
  | (with_reducible apply Within.after (within_flagRaise _ _ _ _ _); · decide)
  | (with_reducible apply Within.after (within_publish _ _); · decide)
  | split

theorem within_classDecision (s : State) (k : AnsKey) (a : AnsEntry) (b : AnsEntry) :
    Within 0x8000001C6C8 s (State.classDecision s k a b) := by
  unfold State.classDecision
  repeat' first
  | with_reducible apply Within.refl
  | (with_reducible apply Within.after (within_bump _ _); · decide)
  | (with_reducible apply Within.after (within_mismatch _ _ _ _ _); · decide)
  | split
  | (with_reducible apply Within.upd
     any_goals (fail_if_success (with_reducible exact fun _ => rfl); exact fun b => absurd b (by decide))
     all_goals first | exact fun _ => rfl | exact fun b => absurd b (by decide) | with_reducible exact Nat.le_refl _ | with_reducible exact List.suffix_refl _ | exact id | skip)

theorem within_classRoll (s : State) (k : AnsKey) (a : AnsEntry) (b : AnsEntry) :
    Within 0x1C6C8 s (State.classRoll s k a b) := by
  unfold State.classRoll
  repeat' first
  | (extract_lets +onlyGivenNames x; first
      | (refine (fun (h : Within 0x1C6C8 s x) => ?_) ?_; clear_value x; rotate_left; subst x; rotate_left)
      | (refine (fun (h : Within 0x1C6C8 s x.1) => ?_) ?_; clear_value x; rotate_left; subst x; rotate_left)
      | (refine (fun (h : Within 0x1C6C8 s x.2) => ?_) ?_; clear_value x; rotate_left; subst x; rotate_left)
      | clear_value x
      | skip)
  | with_reducible apply Within.refl
  | (with_reducible apply Within.after (within_bump _ _); · decide)
  | (with_reducible apply Within.after (within_mismatch _ _ _ _ _); · decide)
  | split

theorem within_ansNote (s : State) (own : Bool) (e : AnsEntry) :
    Within 0x8000001C6C8 s (State.ansNote s own e) := by
  unfold State.ansNote
  repeat' first
  | with_reducible apply Within.refl
  | (with_reducible apply Within.after (within_classDecision _ _ _ _); · decide)
  | (with_reducible apply Within.after (within_bump _ _); · decide)
  | (with_reducible apply Within.after (within_classRoll _ _ _ _); · decide)
  | split
  | (with_reducible apply Within.upd
     any_goals (fail_if_success (with_reducible exact fun _ => rfl); exact fun b => absurd b (by decide))
     all_goals first | exact fun _ => rfl | exact fun b => absurd b (by decide) | with_reducible exact Nat.le_refl _ | with_reducible exact List.suffix_refl _ | exact id | skip)

theorem within_ansEntry (s : State) (e : AnsEntry) :
    Within 0x8000001C6C8 s (State.ansEntry s e) := by
  unfold State.ansEntry
  repeat' first
  | with_reducible apply Within.refl
  | (with_reducible apply Within.after (within_ansNote _ _ _); · decide)
  | split
  | (with_reducible apply Within.upd
     any_goals (fail_if_success (with_reducible exact fun _ => rfl); exact fun b => absurd b (by decide))
     all_goals first | exact fun _ => rfl | exact fun b => absurd b (by decide) | with_reducible exact Nat.le_refl _ | with_reducible exact List.suffix_refl _ | exact id | skip)

theorem within_ansUse (s : State) :
    Within 0x100000001C6C8 s (State.ansUse s) := by
  unfold State.ansUse
  repeat' first
  | with_reducible apply Within.refl
  | (with_reducible apply Within.after (within_keyFail _ _); · decide)
  | split

theorem within_answerReceive (s : State) (m : List Byte) :
    Within 0x108000001C6C8 s (State.answerReceive s m) := by
  unfold State.answerReceive
  repeat' first
  | with_reducible apply Within.refl
  | with_reducible assumption
  | (with_reducible apply Within.after (within_bump _ _); · decide)
  | (with_reducible apply Within.after (within_ansNote _ _ _); · decide)
  | (with_reducible apply Within.after (within_ansUse _); · decide)
  | (with_reducible apply Within.after (within_setRb _ _ _ _); · decide)
  | with_reducible apply Within.foldl
  | (with_reducible intro y a h)
  | split
  | (with_reducible apply Within.upd
     any_goals (fail_if_success (with_reducible exact fun _ => rfl); exact fun b => absurd b (by decide))
     all_goals first | exact fun _ => rfl | exact fun b => absurd b (by decide) | with_reducible exact Nat.le_refl _ | with_reducible exact List.suffix_refl _ | exact id | skip)

theorem within_answerSend (s : State) :
    Within 0x108401001C6C8 s (State.answerSend s) := by
  unfold State.answerSend
  repeat' first
  | with_reducible apply Within.refl
  | (with_reducible apply Within.after (within_fjlSend _ _ _ _ _); · decide)
  | (with_reducible apply Within.after (within_ansUse _); · decide)
  | (with_reducible apply Within.after (within_sendPorts _ _ _ _); · decide)
  | (with_reducible apply Within.after (within_setRb _ _ _ _); · decide)
  | split
  | (with_reducible apply Within.upd
     any_goals (fail_if_success (with_reducible exact fun _ => rfl); exact fun b => absurd b (by decide))
     all_goals first | exact fun _ => rfl | exact fun b => absurd b (by decide) | with_reducible exact Nat.le_refl _ | with_reducible exact List.suffix_refl _ | exact id | skip)

theorem within_awaitExpiry (s : State) :
    Within 0x80000000008 s (State.awaitExpiry s) := by
  unfold State.awaitExpiry
  repeat' first
  | with_reducible apply Within.refl
  | (with_reducible apply Within.after (within_bumpBy _ _ _); · decide)
  | split
  | (with_reducible apply Within.upd
     any_goals (fail_if_success (with_reducible exact fun _ => rfl); exact fun b => absurd b (by decide))
     all_goals first | exact fun _ => rfl | exact fun b => absurd b (by decide) | with_reducible exact Nat.le_refl _ | with_reducible exact List.suffix_refl _ | exact id | skip)

theorem within_tardyTerms (s : State) (form : ℕ) (seq : ℕ) (m : ℕ) (rc : List Byte) :
    Within 0x108000001C6C8 s (State.tardyTerms s form seq m rc) := by
  unfold State.tardyTerms
  repeat' first
  | with_reducible apply Within.refl
  | (with_reducible apply Within.after (within_ansUse _); · decide)
  | split
  | (with_reducible apply Within.upd
     any_goals (fail_if_success (with_reducible exact fun _ => rfl); exact fun b => absurd b (by decide))
     all_goals first | exact fun _ => rfl | exact fun b => absurd b (by decide) | with_reducible exact Nat.le_refl _ | with_reducible exact List.suffix_refl _ | exact id | skip)

theorem within_peerLost (s : State) :
    Within 0x1C6C8 s (State.peerLost s) := by
  unfold State.peerLost
  repeat' first
  | with_reducible apply Within.refl
  | (with_reducible apply Within.after (within_flagRaise _ _ _ _ _); · decide)
  | (with_reducible apply Within.after (within_setRb _ _ _ _); · decide)
  | split

theorem within_tardyWindowEnd (s : State) :
    Within 0x8000001C6C8 s (State.tardyWindowEnd s) := by
  unfold State.tardyWindowEnd
  repeat' first
  | with_reducible apply Within.refl
  | (with_reducible apply Within.after (within_ansEntry _ _); · decide)
  | split
  | (with_reducible apply Within.upd
     any_goals (fail_if_success (with_reducible exact fun _ => rfl); exact fun b => absurd b (by decide))
     all_goals first | exact fun _ => rfl | exact fun b => absurd b (by decide) | with_reducible exact Nat.le_refl _ | with_reducible exact List.suffix_refl _ | exact id | skip)

end Sys2Proof.Machine
end

