-- ==== Sys2Proof/Laws/WithinFabric.lean ====
section
/-! SUPPORT. What classrooms, alarms, publication, scheduler and images may change: one lemma per function, its mask naming the fields of State as Laws/Within.lean numbers them. -/

-- One declaration after another: side by side, their threads' stacks pass the memory limit of a check.
set_option Elab.async false

namespace Sys2Proof.Machine

set_option linter.all false

theorem within_setLesson (s : State) (i : ℕ) (x : Lesson) :
    Within 0x10000000000 s (State.setLesson s i x) := by
  unfold State.setLesson
  repeat' first
  | with_reducible apply Within.refl
  | (with_reducible apply Within.upd
     any_goals (fail_if_success (with_reducible exact fun _ => rfl); exact fun b => absurd b (by decide))
     all_goals first | exact fun _ => rfl | exact fun b => absurd b (by decide) | with_reducible exact Nat.le_refl _ | with_reducible exact List.suffix_refl _ | exact id | skip)

theorem within_setClsState (s : State) (c : ℕ) (st : ℕ) :
    Within 0x8 s (State.setClsState s c st) := by
  unfold State.setClsState
  repeat' first
  | with_reducible apply Within.refl
  | (with_reducible apply Within.after (within_setRf _ _ _ _ _); · decide)

theorem within_setClassroom (s : State) (c : ℕ) (x : Classroom) :
    Within 0x8000000000 s (State.setClassroom s c x) := by
  unfold State.setClassroom
  repeat' first
  | with_reducible apply Within.refl
  | (with_reducible apply Within.upd
     any_goals (fail_if_success (with_reducible exact fun _ => rfl); exact fun b => absurd b (by decide))
     all_goals first | exact fun _ => rfl | exact fun b => absurd b (by decide) | with_reducible exact Nat.le_refl _ | with_reducible exact List.suffix_refl _ | exact id | skip)

theorem within_loadMemo (s : State) (c : ℕ) (m : Memo) :
    Within 0x8000000000 s (State.loadMemo s c m) := by
  unfold State.loadMemo
  repeat' first
  | with_reducible apply Within.refl
  | (with_reducible apply Within.after (within_setClassroom _ _ _); · decide)

theorem within_restartTag (s : State) (i : ℕ) :
    Within 0x8000000000 s (State.restartTag s i) := by
  unfold State.restartTag
  repeat' first
  | (extract_lets +onlyGivenNames x; first
      | (refine (fun (h : Within 0x8000000000 s x) => ?_) ?_; clear_value x; rotate_left; subst x; rotate_left)
      | (refine (fun (h : Within 0x8000000000 s x.1) => ?_) ?_; clear_value x; rotate_left; subst x; rotate_left)
      | (refine (fun (h : Within 0x8000000000 s x.2) => ?_) ?_; clear_value x; rotate_left; subst x; rotate_left)
      | clear_value x
      | skip)
  | with_reducible apply Within.refl
  | with_reducible assumption
  | (with_reducible apply Within.after (within_setClassroom _ _ _); · decide)
  | with_reducible apply Within.foldl
  | (with_reducible intro y a h)
  | split

theorem within_noteStarved (s : State) :
    Within 0x10000000000 s (State.noteStarved s) := by
  unfold State.noteStarved
  repeat' first
  | with_reducible apply Within.refl
  | with_reducible assumption
  | (with_reducible apply Within.after (within_setLesson _ _ _); · decide)
  | with_reducible apply Within.foldl
  | (with_reducible intro y a h)
  | split

theorem within_showCover (s : State) :
    Within 0x10000000008 s (State.showCover s) := by
  unfold State.showCover
  repeat' first
  | with_reducible apply Within.refl
  | with_reducible assumption
  | (with_reducible apply Within.after (within_setReg _ _ _); · decide)
  | (with_reducible apply Within.after (within_noteStarved _); · decide)
  | with_reducible apply Within.foldl
  | (with_reducible intro y a h)

theorem within_showSpares (s : State) (c : ℕ) :
    Within 0x8 s (State.showSpares s c) := by
  unfold State.showSpares
  repeat' first
  | with_reducible apply Within.refl
  | (with_reducible apply Within.after (within_setRf _ _ _ _ _); · decide)

theorem within_setDesk (s : State) (c : ℕ) (p : ℕ) (st : ℕ) :
    Within 0x8000000000 s (State.setDesk s c p st) := by
  unfold State.setDesk
  repeat' first
  | with_reducible apply Within.refl
  | (with_reducible apply Within.after (within_setClassroom _ _ _); · decide)

theorem within_fabFault (s : State) (c : ℕ) (phys : ℕ) (logical : ℕ) (cause : ℕ) :
    Within 0x1C6C8 s (State.fabFault s c phys logical cause) := by
  unfold State.fabFault
  repeat' first
  | with_reducible apply Within.refl
  | (with_reducible apply Within.after (within_setReg _ _ _); · decide)
  | (with_reducible apply Within.after (within_flagRaise _ _ _ _ _); · decide)

theorem within_deskLost (s : State) (c : ℕ) (p : ℕ) (cause : ℕ) :
    Within 0x800001C6C8 s (State.deskLost s c p cause) := by
  unfold State.deskLost
  repeat' first
  | with_reducible apply Within.refl
  | (with_reducible apply Within.after (within_fabFault _ _ _ _ _); · decide)
  | (with_reducible apply Within.after (within_showSpares _ _); · decide)
  | (with_reducible apply Within.after (within_setDesk _ _ _ _); · decide)
  | (with_reducible apply Within.after (within_setRb _ _ _ _); · decide)

theorem within_countUe (s : State) (c : ℕ) :
    Within 0x1C6C8 s (State.countUe s c) := by
  unfold State.countUe
  repeat' first
  | with_reducible apply Within.refl
  | (with_reducible apply Within.after (within_bump _ _); · decide)
  | (with_reducible apply Within.after (within_fabFault _ _ _ _ _); · decide)

theorem within_coverUe (s : State) (r : CoverRun) :
    Within 0x1C6C8 s (State.coverUe s r) := by
  unfold State.coverUe
  repeat' first
  | with_reducible apply Within.refl
  | with_reducible assumption
  | (with_reducible apply Within.after (within_countUe _ _); · decide)
  | with_reducible apply Within.foldl
  | (with_reducible intro y a h)

theorem within_toCover (s : State) (i : ℕ) :
    Within 0x1000001C6C8 s (State.toCover s i) := by
  unfold State.toCover
  repeat' first
  | (extract_lets +onlyGivenNames x; first
      | (refine (fun (h : Within 0x1000001C6C8 s x) => ?_) ?_; clear_value x; rotate_left; subst x; rotate_left)
      | (refine (fun (h : Within 0x1000001C6C8 s x.1) => ?_) ?_; clear_value x; rotate_left; subst x; rotate_left)
      | (refine (fun (h : Within 0x1000001C6C8 s x.2) => ?_) ?_; clear_value x; rotate_left; subst x; rotate_left)
      | clear_value x
      | skip)
  | with_reducible apply Within.refl
  | (with_reducible apply Within.after (within_setLesson _ _ _); · decide)
  | (with_reducible apply Within.after (within_coverUe _ _); · decide)
  | split

theorem within_laneStall (s : State) (c : ℕ) (d : ℕ) (tag : ℕ) :
    Within 0x8000000000 s (State.laneStall s c d tag) := by
  unfold State.laneStall
  repeat' first
  | (extract_lets +onlyGivenNames x; first
      | (refine (fun (h : Within 0x8000000000 s x) => ?_) ?_; clear_value x; rotate_left; subst x; rotate_left)
      | (refine (fun (h : Within 0x8000000000 s x.1) => ?_) ?_; clear_value x; rotate_left; subst x; rotate_left)
      | (refine (fun (h : Within 0x8000000000 s x.2) => ?_) ?_; clear_value x; rotate_left; subst x; rotate_left)
      | clear_value x
      | skip)
  | with_reducible apply Within.refl
  | (with_reducible apply Within.after (within_setClassroom _ _ _); · decide)
  | split

theorem within_putRoom (s : State) (c : ℕ) (stuck : List ℕ) (r : Room) :
    Within 0x800001C6C8 s (State.putRoom s c stuck r) := by
  unfold State.putRoom
  repeat' first
  | with_reducible apply Within.refl
  | with_reducible assumption
  | (with_reducible apply Within.after (within_setClassroom _ _ _); · decide)
  | (with_reducible apply Within.after (within_countUe _ _); · decide)
  | with_reducible apply Within.foldl
  | (with_reducible intro y a h)

theorem within_runOn (s : State) (i : ℕ) (c : ℕ) (stuck : List ℕ) (lane : Option ℕ) :
    Within 0x800001C6C8 s (State.runOn s i c stuck lane) := by
  unfold State.runOn
  repeat' first
  | with_reducible apply Within.refl
  | with_reducible assumption
  | (with_reducible apply Within.after (within_putRoom _ _ _ _); · decide)
  | with_reducible apply Within.foldl
  | (with_reducible intro y a h)

theorem within_takeRecord (s : State) (c : ℕ) (d : ℕ) (tag : ℕ) (r : Record) :
    Within 0x8000000008 s (State.takeRecord s c d tag r) := by
  unfold State.takeRecord
  repeat' first
  | with_reducible apply Within.refl
  | (with_reducible apply Within.after (within_setRf _ _ _ _ _); · decide)
  | (with_reducible apply Within.after (within_setClassroom _ _ _); · decide)

theorem within_offerRecord (s : State) (i : ℕ) (c : ℕ) (d : ℕ) (tag : ℕ) (stuck : List ℕ) :
    Within 0x800001C6C8 s (State.offerRecord s i c d tag stuck) := by
  unfold State.offerRecord
  repeat' first
  | (extract_lets +onlyGivenNames x; first
      | (refine (fun (h : Within 0x800001C6C8 s x) => ?_) ?_; clear_value x; rotate_left; subst x; rotate_left)
      | (refine (fun (h : Within 0x800001C6C8 s x.1) => ?_) ?_; clear_value x; rotate_left; subst x; rotate_left)
      | (refine (fun (h : Within 0x800001C6C8 s x.2) => ?_) ?_; clear_value x; rotate_left; subst x; rotate_left)
      | clear_value x
      | skip)
  | with_reducible apply Within.refl
  | with_reducible assumption
  | (with_reducible apply Within.after (within_laneStall _ _ _ _); · decide)
  | (with_reducible apply Within.after (within_runOn _ _ _ _ _); · decide)
  | (with_reducible apply Within.after (within_takeRecord _ _ _ _ _); · decide)
  | split

theorem within_cardDrain (s : State) (c : ℕ) (x2 : ℕ) :
    Within 0x800001C6C8 s (State.cardDrain s c x2) := by
  induction x2 generalizing s with
  | zero => exact Within.refl _
  | succ k ih =>
    unfold State.cardDrain
    extract_lets x open_
    split
    · exact Within.refl _
    · extract_lets s1 s2
      have h1 : Within 0x800001C6C8 s s1 := (within_setClassroom _ _ _).mono (by decide)
      have h2 : Within 0x800001C6C8 s s2 := by
        unfold s2
        split
        · exact Within.after (within_offerRecord _ _ _ _ _ _) (by decide) h1
        · exact h1
      exact h2.trans (ih _)

theorem within_freeBank (s : State) (c : ℕ) (lesson : ℕ) :
    Within 0x800001C6C8 s (State.freeBank s c lesson) := by
  unfold State.freeBank
  repeat' first
  | with_reducible apply Within.refl
  | (with_reducible apply Within.after (within_setRf _ _ _ _ _); · decide)
  | (with_reducible apply Within.after (within_setClassroom _ _ _); · decide)
  | (with_reducible apply Within.after (within_cardDrain _ _ _); · decide)

theorem within_dropRuns (s : State) (i : ℕ) :
    Within 0x800001C6C8 s (State.dropRuns s i) := by
  unfold State.dropRuns
  repeat' first
  | with_reducible apply Within.refl
  | with_reducible assumption
  | (with_reducible apply Within.after (within_freeBank _ _ _); · decide)
  | (with_reducible apply Within.after (within_setClassroom _ _ _); · decide)
  | with_reducible apply Within.foldl
  | (with_reducible intro y a h)

theorem within_coverEnter (s : State) (c : ℕ) :
    Within 0x21800001C6C8 s (State.coverEnter s c) := by
  unfold State.coverEnter
  repeat' first
  | with_reducible apply Within.refl
  | with_reducible assumption
  | (with_reducible apply Within.after (within_toCover _ _); · decide)
  | (with_reducible apply Within.after (within_setClassroom _ _ _); · decide)
  | (with_reducible apply Within.after (within_showCover _); · decide)
  | (with_reducible apply Within.after (within_raise _ _ _); · decide)
  | (with_reducible apply Within.after (within_dropRuns _ _); · decide)
  | with_reducible apply Within.foldl
  | (with_reducible intro y a h)
  | split
  | (with_reducible apply Within.upd
     any_goals (fail_if_success (with_reducible exact fun _ => rfl); exact fun b => absurd b (by decide))
     all_goals first | exact fun _ => rfl | exact fun b => absurd b (by decide) | with_reducible exact Nat.le_refl _ | with_reducible exact List.suffix_refl _ | exact id | skip)

theorem within_deskRetire (s : State) (c : ℕ) (p : ℕ) (cause : ℕ) :
    Within 0x21800001C6C8 s (State.deskRetire s c p cause) := by
  unfold State.deskRetire
  repeat' first
  | (extract_lets +onlyGivenNames x; first
      | (refine (fun (h : Within 0x21800001C6C8 s x) => ?_) ?_; clear_value x; rotate_left; subst x; rotate_left)
      | (refine (fun (h : Within 0x21800001C6C8 s x.1) => ?_) ?_; clear_value x; rotate_left; subst x; rotate_left)
      | (refine (fun (h : Within 0x21800001C6C8 s x.2) => ?_) ?_; clear_value x; rotate_left; subst x; rotate_left)
      | clear_value x
      | skip)
  | with_reducible apply Within.refl
  | with_reducible assumption
  | (with_reducible apply Within.after (within_setClsState _ _ _); · decide)
  | (with_reducible apply Within.after (within_setClassroom _ _ _); · decide)
  | (with_reducible apply Within.after (within_showCover _); · decide)
  | (with_reducible apply Within.after (within_deskLost _ _ _ _); · decide)
  | (with_reducible apply Within.after (within_coverEnter _ _); · decide)
  | split

theorem within_checkDesks (s : State) (c : ℕ) (bad : List ℕ) :
    Within 0x21800001C6C8 s (State.checkDesks s c bad) := by
  unfold State.checkDesks
  repeat' first
  | with_reducible apply Within.refl
  | with_reducible assumption
  | (with_reducible apply Within.after (within_deskRetire _ _ _ _); · decide)
  | (with_reducible apply Within.after (within_setDesk _ _ _ _); · decide)
  | with_reducible apply Within.foldl
  | (with_reducible intro y a h)
  | split

theorem within_coverExit (s : State) (c : ℕ) :
    Within 0x21000001C6C8 s (State.coverExit s c) := by
  unfold State.coverExit
  repeat' first
  | with_reducible apply Within.refl
  | (with_reducible apply Within.after (within_showCover _); · decide)
  | (with_reducible apply Within.after (within_raise _ _ _); · decide)
  | split
  | (with_reducible apply Within.upd
     any_goals (fail_if_success (with_reducible exact fun _ => rfl); exact fun b => absurd b (by decide))
     all_goals first | exact fun _ => rfl | exact fun b => absurd b (by decide) | with_reducible exact Nat.le_refl _ | with_reducible exact List.suffix_refl _ | exact id | skip)

theorem within_beginRuns (s : State) (i : ℕ) (r : Roll) :
    Within 0x8000000000 s (State.beginRuns s i r) := by
  unfold State.beginRuns
  repeat' first
  | with_reducible apply Within.refl
  | with_reducible assumption
  | (with_reducible apply Within.after (within_setClassroom _ _ _); · decide)
  | with_reducible apply Within.foldl
  | (with_reducible intro y a h)

theorem within_selfCheck (s : State) (c : ℕ) (bad : List ℕ) :
    Within 0x21800001C6C8 s (State.selfCheck s c bad) := by
  unfold State.selfCheck
  repeat' first
  | with_reducible apply Within.refl
  | (with_reducible apply Within.after (within_setRf _ _ _ _ _); · decide)
  | (with_reducible apply Within.after (within_showCover _); · decide)
  | (with_reducible apply Within.after (within_publish _ _); · decide)
  | (with_reducible apply Within.after (within_checkDesks _ _ _); · decide)
  | (with_reducible apply Within.after (within_unready _ _); · decide)
  | (with_reducible apply Within.after (within_showSpares _ _); · decide)
  | (with_reducible apply Within.after (within_setRb _ _ _ _); · decide)

theorem within_cardPublish (s : State) (i : ℕ) (r : Roll) (rs : List (ℕ × Record)) (ue : Bool) :
    Within 0x1C6C8 s (State.cardPublish s i r rs ue) := by
  unfold State.cardPublish
  repeat' first
  | (extract_lets +onlyGivenNames x; first
      | (refine (fun (h : Within 0x1C6C8 s x) => ?_) ?_; clear_value x; rotate_left; subst x; rotate_left)
      | (refine (fun (h : Within 0x1C6C8 s x.1) => ?_) ?_; clear_value x; rotate_left; subst x; rotate_left)
      | (refine (fun (h : Within 0x1C6C8 s x.2) => ?_) ?_; clear_value x; rotate_left; subst x; rotate_left)
      | clear_value x
      | skip)
  | with_reducible apply Within.refl
  | with_reducible assumption
  | (with_reducible apply Within.after (within_setReg _ _ _); · decide)
  | (with_reducible apply Within.after (within_bump _ _); · decide)
  | (with_reducible apply Within.after (within_flagRaise _ _ _ _ _); · decide)
  | (with_reducible apply Within.after (within_publish _ _); · decide)
  | with_reducible apply Within.foldl
  | (with_reducible intro y a h)
  | split

theorem within_chalkboardUe (s : State) (c : ℕ) (tag : ℕ) (w : ℕ) :
    Within 0x800001C6C8 s (State.chalkboardUe s c tag w) := by
  unfold State.chalkboardUe
  repeat' first
  | with_reducible apply Within.refl
  | with_reducible assumption
  | (with_reducible apply Within.after (within_setClassroom _ _ _); · decide)
  | (with_reducible apply Within.after (within_countUe _ _); · decide)
  | with_reducible apply Within.foldl
  | (with_reducible intro y a h)
  | split

theorem within_coverCommit (s : State) (r : CoverRun) :
    Within 0x8000000000 s (State.coverCommit s r) := by
  unfold State.coverCommit
  repeat' first
  | (extract_lets +onlyGivenNames x; first
      | (refine (fun (h : Within 0x8000000000 s x) => ?_) ?_; clear_value x; rotate_left; subst x; rotate_left)
      | (refine (fun (h : Within 0x8000000000 s x.1) => ?_) ?_; clear_value x; rotate_left; subst x; rotate_left)
      | (refine (fun (h : Within 0x8000000000 s x.2) => ?_) ?_; clear_value x; rotate_left; subst x; rotate_left)
      | clear_value x
      | skip)
  | with_reducible apply Within.refl
  | with_reducible assumption
  | (with_reducible apply Within.after (within_setClassroom _ _ _); · decide)
  | with_reducible apply Within.foldl
  | (with_reducible intro y a h)
  | split

theorem within_deskWatchdog (s : State) (c : ℕ) (p : ℕ) (stuck : List ℕ) :
    Within 0x21800001C6C8 s (State.deskWatchdog s c p stuck) := by
  unfold State.deskWatchdog
  repeat' first
  | with_reducible apply Within.refl
  | (with_reducible apply Within.after (within_deskRetire _ _ _ _); · decide)
  | split

theorem within_replica (s : State) (c : ℕ) (ps : ℕ) :
    Within 0x8 s (State.replica s c ps) := by
  unfold State.replica
  repeat' first
  | with_reducible apply Within.refl
  | (with_reducible apply Within.after (within_setRf _ _ _ _ _); · decide)
  | split

theorem within_resultRecord (s : State) (c : ℕ) (d : ℕ) (tag : ℕ) (stuck : List ℕ) (ce : ℕ) :
    Within 0x800001C6C8 s (State.resultRecord s c d tag stuck ce) := by
  unfold State.resultRecord
  repeat' first
  | with_reducible apply Within.refl
  | (with_reducible apply Within.after (within_offerRecord _ _ _ _ _ _); · decide)
  | (with_reducible apply Within.after (within_bumpBy _ _ _); · decide)
  | split

theorem within_setMap (s : State) (c : ℕ) (d : ℕ) (p : ℕ) :
    Within 0x8 s (State.setMap s c d p) := by
  unfold State.setMap
  repeat' first
  | with_reducible apply Within.refl
  | (with_reducible apply Within.after (within_setRf _ _ _ _ _); · decide)

theorem within_slateParity (s : State) (c : ℕ) (p : ℕ) :
    Within 0x21800001C6C8 s (State.slateParity s c p) := by
  unfold State.slateParity
  repeat' first
  | with_reducible apply Within.refl
  | (with_reducible apply Within.after (within_deskRetire _ _ _ _); · decide)
  | split

theorem within_spareCheck (s : State) (bad : List (ℕ × ℕ)) :
    Within 0x21800001C6C8 s (State.spareCheck s bad) := by
  unfold State.spareCheck
  repeat' first
  | with_reducible apply Within.refl
  | with_reducible assumption
  | (with_reducible apply Within.after (within_deskRetire _ _ _ _); · decide)
  | with_reducible apply Within.foldl
  | (with_reducible intro y a h)
  | split

theorem within_shareDecisions (s : State) :
    Within 0x4000000088 s (State.shareDecisions s) := by
  unfold State.shareDecisions
  repeat' first
  | with_reducible apply Within.refl
  | with_reducible assumption
  | (with_reducible apply Within.after (within_fjlSend _ _ _ _ _); · decide)
  | with_reducible apply Within.foldl
  | (with_reducible intro y a h)
  | split

theorem within_pinFollow (s : State) (n : ℕ) :
    Within 0x2000001C6C8 s (State.pinFollow s n) := by
  unfold State.pinFollow
  repeat' first
  | (extract_lets +onlyGivenNames x; first
      | (refine (fun (h : Within 0x2000001C6C8 s x) => ?_) ?_; clear_value x; rotate_left; subst x; rotate_left)
      | (refine (fun (h : Within 0x2000001C6C8 s x.1) => ?_) ?_; clear_value x; rotate_left; subst x; rotate_left)
      | (refine (fun (h : Within 0x2000001C6C8 s x.2) => ?_) ?_; clear_value x; rotate_left; subst x; rotate_left)
      | clear_value x
      | skip)
  | with_reducible apply Within.refl
  | with_reducible assumption
  | (with_reducible apply Within.after (within_setReg _ _ _); · decide)
  | (with_reducible apply Within.after (within_bump _ _); · decide)
  | (with_reducible apply Within.after (within_flagRaise _ _ _ _ _); · decide)
  | (with_reducible apply Within.after (within_setRb _ _ _ _); · decide)
  | split
  | (with_reducible apply Within.upd
     any_goals (fail_if_success (with_reducible exact fun _ => rfl); exact fun b => absurd b (by decide))
     all_goals first | exact fun _ => rfl | exact fun b => absurd b (by decide) | with_reducible exact Nat.le_refl _ | with_reducible exact List.suffix_refl _ | exact id | skip)

theorem within_pinsFollow (s : State) :
    Within 0x2000001C6C8 s (State.pinsFollow s) := by
  unfold State.pinsFollow
  repeat' first
  | with_reducible apply Within.refl
  | with_reducible assumption
  | (with_reducible apply Within.after (within_pinFollow _ _); · decide)
  | with_reducible apply Within.foldl
  | (with_reducible intro y a h)
  | split

theorem within_setDecisions (s : State) (d : ℕ) :
    Within 0x8 s (State.setDecisions s d) := by
  unfold State.setDecisions
  repeat' first
  | with_reducible apply Within.refl
  | with_reducible assumption
  | (with_reducible apply Within.after (within_setReg _ _ _); · decide)
  | with_reducible apply Within.foldl
  | (with_reducible intro y a h)

theorem within_decisionEdges (s : State) (before : ℕ) (after : ℕ) :
    Within 0x1C6C8 s (State.decisionEdges s before after) := by
  unfold State.decisionEdges
  repeat' first
  | with_reducible apply Within.refl
  | with_reducible assumption
  | (with_reducible apply Within.after (within_trigsDecision _ _ _); · decide)
  | with_reducible apply Within.foldl
  | (with_reducible intro y a h)
  | split

theorem within_setAbsentBits (s : State) (d : ℕ) :
    Within 0x8 s (State.setAbsentBits s d) := by
  unfold State.setAbsentBits
  repeat' first
  | with_reducible apply Within.refl
  | with_reducible assumption
  | (with_reducible apply Within.after (within_setReg _ _ _); · decide)
  | with_reducible apply Within.foldl
  | (with_reducible intro y a h)

theorem within_showDecisions (s : State) :
    Within 0x2400001C6C8 s (State.showDecisions s) := by
  unfold State.showDecisions
  repeat' first
  | with_reducible apply Within.refl
  | (with_reducible apply Within.after (within_shareDecisions _); · decide)
  | (with_reducible apply Within.after (within_pinsFollow _); · decide)
  | (with_reducible apply Within.after (within_setDecisions _ _); · decide)
  | (with_reducible apply Within.after (within_decisionEdges _ _ _); · decide)
  | (with_reducible apply Within.after (within_setAbsentBits _ _); · decide)
  | split

theorem within_alarmRecord (s : State) (x : RecordOf) :
    Within 0x100001001C6C8 s (State.alarmRecord s x) := by
  unfold State.alarmRecord
  repeat' first
  | (extract_lets +onlyGivenNames x; first
      | (refine (fun (h : Within 0x100001001C6C8 s x) => ?_) ?_; clear_value x; rotate_left; subst x; rotate_left)
      | (refine (fun (h : Within 0x100001001C6C8 s x.1) => ?_) ?_; clear_value x; rotate_left; subst x; rotate_left)
      | (refine (fun (h : Within 0x100001001C6C8 s x.2) => ?_) ?_; clear_value x; rotate_left; subst x; rotate_left)
      | clear_value x
      | skip)
  | with_reducible apply Within.refl
  | with_reducible assumption
  | (with_reducible apply Within.after (within_bump _ _); · decide)
  | (with_reducible apply Within.after (within_postRecord _ _ _ _ _); · decide)
  | (with_reducible apply Within.after (within_keyFail _ _); · decide)
  | (with_reducible apply Within.after (within_sendPorts _ _ _ _); · decide)
  | (with_reducible apply Within.after (within_setRb _ _ _ _); · decide)
  | split

theorem within_latchClear (s : State) :
    Within 0x2000001C6C8 s (State.latchClear s) := by
  unfold State.latchClear
  repeat' first
  | with_reducible apply Within.refl
  | (with_reducible apply Within.after (within_pinsFollow _); · decide)

theorem within_putEntryZero (s : State) (xs : List (ℕ × List Byte × List Byte)) :
    Within 0x100 s (State.putEntryZero s xs) := by
  unfold State.putEntryZero
  repeat' first
  | with_reducible apply Within.refl
  | (with_reducible apply Within.after (within_hbmWrite _ _ _); · decide)

theorem within_putEntry (s : State) (c : ℕ) (e : List Byte) (fs : List Byte) :
    Within 0x100 s (State.putEntry s c e fs) := by
  unfold State.putEntry
  repeat' first
  | with_reducible apply Within.refl
  | (with_reducible apply Within.after (within_putEntryZero _ _); · decide)

theorem within_dropEntry (s : State) (c : ℕ) :
    Within 0x100 s (State.dropEntry s c) := by
  unfold State.dropEntry
  repeat' first
  | with_reducible apply Within.refl
  | (with_reducible apply Within.after (within_putEntryZero _ _); · decide)

theorem within_slackHarvest (s : State) (f : ℕ) (l : List SlackRec) :
    Within 0x40000004000 s (State.slackHarvest s f l) := by
  unfold State.slackHarvest
  repeat' first
  | with_reducible apply Within.refl
  | (with_reducible apply Within.upd
     any_goals (fail_if_success (with_reducible exact fun _ => rfl); exact fun b => absurd b (by decide))
     all_goals first | exact fun _ => rfl | exact fun b => absurd b (by decide) | with_reducible exact Nat.le_refl _ | with_reducible exact List.suffix_refl _ | exact id | skip)

theorem within_slackDone (s : State) (f : ℕ) (at_ : Instant) (t : Option Stamp) :
    Within 0x40000004000 s (State.slackDone s f at_ t) := by
  unfold State.slackDone
  repeat' first
  | with_reducible apply Within.refl
  | (with_reducible apply Within.after (within_slackHarvest _ _ _); · decide)

theorem within_absenceFollow (s : State) :
    Within 0x7400001C6C8 s (State.absenceFollow s) := by
  unfold State.absenceFollow
  repeat' first
  | (extract_lets +onlyGivenNames x; first
      | (refine (fun (h : Within 0x7400001C6C8 s x) => ?_) ?_; clear_value x; rotate_left; subst x; rotate_left)
      | (refine (fun (h : Within 0x7400001C6C8 s x.1) => ?_) ?_; clear_value x; rotate_left; subst x; rotate_left)
      | (refine (fun (h : Within 0x7400001C6C8 s x.2) => ?_) ?_; clear_value x; rotate_left; subst x; rotate_left)
      | clear_value x
      | skip)
  | with_reducible apply Within.refl
  | with_reducible assumption
  | (with_reducible apply Within.after (within_showDecisions _); · decide)
  | (with_reducible apply Within.after (within_setLesson _ _ _); · decide)
  | (with_reducible apply Within.after (within_slackDone _ _ _ _); · decide)
  | with_reducible apply Within.foldl
  | (with_reducible intro y a h)
  | split

theorem within_anaCommit (s : State) :
    Within 0x3400001C6C8 s (State.anaCommit s) := by
  unfold State.anaCommit
  repeat' first
  | with_reducible apply Within.refl
  | (with_reducible apply Within.after (within_setReg _ _ _); · decide)
  | (with_reducible apply Within.after (within_showDecisions _); · decide)
  | (with_reducible apply Within.after (within_setLesson _ _ _); · decide)
  | (with_reducible apply Within.after (within_publish _ _); · decide)
  | (with_reducible apply Within.after (within_unready _ _); · decide)
  | (with_reducible apply Within.after (within_setRb _ _ _ _); · decide)
  | split

theorem within_anaHook (s : State) (off : ℕ) :
    Within 0x7400001C6C8 s (State.anaHook s off) := by
  unfold State.anaHook
  repeat' first
  | (extract_lets +onlyGivenNames x; first
      | (refine (fun (h : Within 0x7400001C6C8 s x) => ?_) ?_; clear_value x; rotate_left; subst x; rotate_left)
      | (refine (fun (h : Within 0x7400001C6C8 s x.1) => ?_) ?_; clear_value x; rotate_left; subst x; rotate_left)
      | (refine (fun (h : Within 0x7400001C6C8 s x.2) => ?_) ?_; clear_value x; rotate_left; subst x; rotate_left)
      | clear_value x
      | skip)
  | with_reducible apply Within.refl
  | (with_reducible apply Within.after (within_anaCommit _); · decide)
  | (with_reducible apply Within.after (within_pinsFollow _); · decide)
  | (with_reducible apply Within.after (within_absenceFollow _); · decide)
  | (with_reducible apply Within.after (within_latchClear _); · decide)
  | split

theorem within_applyCommit (s : State) (i : ℕ) (c : Commit) :
    Within 0x18000000008 s (State.applyCommit s i c) := by
  unfold State.applyCommit
  repeat' first
  | with_reducible apply Within.refl
  | (with_reducible apply Within.after (within_setReg _ _ _); · decide)
  | (with_reducible apply Within.after (within_setLesson _ _ _); · decide)
  | (with_reducible apply Within.after (within_restartTag _ _); · decide)
  | split

theorem within_commitAt (s : State) (i : ℕ) (seq : ℕ) :
    Within 0x18000000008 s (State.commitAt s i seq) := by
  unfold State.commitAt
  repeat' first
  | with_reducible apply Within.refl
  | (with_reducible apply Within.after (within_applyCommit _ _ _); · decide)
  | split

theorem within_lessonOut (s : State) (i : ℕ) (p : Pub) :
    Within 0x1C7C8 s (State.lessonOut s i p) := by
  unfold State.lessonOut
  repeat' first
  | (extract_lets +onlyGivenNames x; first
      | (refine (fun (h : Within 0x1C7C8 s x) => ?_) ?_; clear_value x; rotate_left; subst x; rotate_left)
      | (refine (fun (h : Within 0x1C7C8 s x.1) => ?_) ?_; clear_value x; rotate_left; subst x; rotate_left)
      | (refine (fun (h : Within 0x1C7C8 s x.2) => ?_) ?_; clear_value x; rotate_left; subst x; rotate_left)
      | clear_value x
      | skip)
  | with_reducible apply Within.refl
  | with_reducible assumption
  | (with_reducible apply Within.after (within_setReg _ _ _); · decide)
  | (with_reducible apply Within.after (within_hbmWrite _ _ _); · decide)
  | (with_reducible apply Within.after (within_postDesc _ _ _); · decide)
  | (with_reducible apply Within.after (within_publish _ _); · decide)
  | split

theorem within_decisionEntry (s : State) (i : ℕ) (r : Roll) (skipped : Bool) (ue : Bool) (exc : ℕ) (payload : List Byte) :
    Within 0x108000001C6C8 s (State.decisionEntry s i r skipped ue exc payload) := by
  unfold State.decisionEntry
  repeat' first
  | with_reducible apply Within.refl
  | (with_reducible apply Within.after (within_ansUse _); · decide)
  | (with_reducible apply Within.after (within_ansEntry _ _); · decide)
  | split

theorem within_publishSkip (s : State) (i : ℕ) (r : Roll) :
    Within 0x10D800001C7CC s (State.publishSkip s i r) := by
  unfold State.publishSkip
  repeat' first
  | with_reducible apply Within.refl
  | (with_reducible apply Within.after (within_commitAt _ _ _); · decide)
  | (with_reducible apply Within.after (within_bump _ _); · decide)
  | (with_reducible apply Within.after (within_draw _ _); · decide)
  | (with_reducible apply Within.after (within_lessonOut _ _ _); · decide)
  | (with_reducible apply Within.after (within_setLesson _ _ _); · decide)
  | (with_reducible apply Within.after (within_decisionEntry _ _ _ _ _ _ _); · decide)
  | (with_reducible apply Within.after (within_slackDone _ _ _ _); · decide)
  | (with_reducible apply Within.after (within_bumpWrap _ _); · decide)
  | (with_reducible apply Within.after (within_setRb _ _ _ _); · decide)

theorem within_skipRoll (s : State) (i : ℕ) (r : Roll) :
    Within 0x10D800001C7CC s (State.skipRoll s i r) := by
  unfold State.skipRoll
  repeat' first
  | (extract_lets +onlyGivenNames x; first
      | (refine (fun (h : Within 0xD000001C7CC s x) => ?_) ?_; clear_value x; rotate_left; subst x; rotate_left)
      | (refine (fun (h : Within 0xD000001C7CC s x.1) => ?_) ?_; clear_value x; rotate_left; subst x; rotate_left)
      | (refine (fun (h : Within 0xD000001C7CC s x.2) => ?_) ?_; clear_value x; rotate_left; subst x; rotate_left)
      | clear_value x
      | skip)
  | with_reducible apply Within.refl
  | (with_reducible apply Within.after (within_setLesson _ _ _); · decide)
  | (with_reducible apply Within.after (within_publishSkip _ _ _); · decide)
  | split

theorem within_deliverTo (s : State) (i : ℕ) (r : Roll) :
    Within 0x10D800001C7CC s (State.deliverTo s i r) := by
  unfold State.deliverTo
  repeat' first
  | (extract_lets +onlyGivenNames x; first
      | (refine (fun (h : Within 0x10D800001C7CC s x) => ?_) ?_; clear_value x; rotate_left; subst x; rotate_left)
      | (refine (fun (h : Within 0x10D800001C7CC s x.1) => ?_) ?_; clear_value x; rotate_left; subst x; rotate_left)
      | (refine (fun (h : Within 0x10D800001C7CC s x.2) => ?_) ?_; clear_value x; rotate_left; subst x; rotate_left)
      | clear_value x
      | skip)
  | with_reducible apply Within.refl
  | with_reducible assumption
  | (with_reducible apply Within.after (within_bump _ _); · decide)
  | (with_reducible apply Within.after (within_setLesson _ _ _); · decide)
  | (with_reducible apply Within.after (within_skipRoll _ _ _); · decide)
  | split

theorem within_slackRelease (s : State) (f : ℕ) (at_ : Instant) (n : ℕ) (t : Stamp) :
    Within 0x40000004000 s (State.slackRelease s f at_ n t) := by
  unfold State.slackRelease
  repeat' first
  | with_reducible apply Within.refl
  | (with_reducible apply Within.after (within_slackHarvest _ _ _); · decide)

theorem within_deliverLessons (s : State) (r : Roll) :
    Within 0x10D800001C7CC s (State.deliverLessons s r) := by
  unfold State.deliverLessons
  repeat' first
  | with_reducible apply Within.refl
  | with_reducible assumption
  | (with_reducible apply Within.after (within_deliverTo _ _ _); · decide)
  | (with_reducible apply Within.after (within_slackRelease _ _ _ _ _); · decide)
  | with_reducible apply Within.foldl
  | (with_reducible intro y a h)

theorem within_emptyClass (s : State) (c : ℕ) :
    Within 0x8000000008 s (State.emptyClass s c) := by
  unfold State.emptyClass
  repeat' first
  | with_reducible apply Within.refl
  | with_reducible assumption
  | (with_reducible apply Within.after (within_setReg _ _ _); · decide)
  | (with_reducible apply Within.after (within_setRf _ _ _ _ _); · decide)
  | (with_reducible apply Within.after (within_setClassroom _ _ _); · decide)
  | with_reducible apply Within.foldl
  | (with_reducible intro y a h)

theorem within_unloadFinish (s : State) :
    Within 0x67C00001C7C8 s (State.unloadFinish s) := by
  unfold State.unloadFinish
  repeat' first
  | with_reducible apply Within.refl
  | with_reducible assumption
  | (with_reducible apply Within.after (within_setReg _ _ _); · decide)
  | (with_reducible apply Within.after (within_dropEntry _ _); · decide)
  | (with_reducible apply Within.after (within_coverExit _ _); · decide)
  | (with_reducible apply Within.after (within_showCover _); · decide)
  | (with_reducible apply Within.after (within_setLesson _ _ _); · decide)
  | (with_reducible apply Within.after (within_publish _ _); · decide)
  | (with_reducible apply Within.after (within_emptyClass _ _); · decide)
  | (with_reducible apply Within.after (within_raise _ _ _); · decide)
  | (with_reducible apply Within.after (within_absenceFollow _); · decide)
  | (with_reducible apply Within.after (within_setRb _ _ _ _); · decide)
  | with_reducible apply Within.foldl
  | (with_reducible intro y a h)
  | split
  | (with_reducible apply Within.upd
     any_goals (fail_if_success (with_reducible exact fun _ => rfl); exact fun b => absurd b (by decide))
     all_goals first | exact fun _ => rfl | exact fun b => absurd b (by decide) | with_reducible exact Nat.le_refl _ | with_reducible exact List.suffix_refl _ | exact id | skip)

theorem within_freeBanks (s : State) (i : ℕ) :
    Within 0x800001C6C8 s (State.freeBanks s i) := by
  unfold State.freeBanks
  repeat' first
  | with_reducible apply Within.refl
  | with_reducible assumption
  | (with_reducible apply Within.after (within_freeBank _ _ _); · decide)
  | with_reducible apply Within.foldl
  | (with_reducible intro y a h)

theorem within_kindEvents (s : State) (i : ℕ) (x : Result) :
    Within 0x1C6C8 s (State.kindEvents s i x) := by
  unfold State.kindEvents
  repeat' first
  | (extract_lets +onlyGivenNames x; first
      | (refine (fun (h : Within 0x1C6C8 s x) => ?_) ?_; clear_value x; rotate_left; subst x; rotate_left)
      | (refine (fun (h : Within 0x1C6C8 s x.1) => ?_) ?_; clear_value x; rotate_left; subst x; rotate_left)
      | (refine (fun (h : Within 0x1C6C8 s x.2) => ?_) ?_; clear_value x; rotate_left; subst x; rotate_left)
      | (have e : x = fun y => x y := rfl; clear e; subst x)
      | clear_value x
      | skip)
  | with_reducible apply Within.refl
  | with_reducible assumption
  | (with_reducible apply Within.after (within_bumpBy _ _ _); · decide)
  | (with_reducible apply Within.after (within_raise _ _ _); · decide)
  | (with_reducible apply Within.after (within_setRb _ _ _ _); · decide)
  | with_reducible apply Within.foldl
  | (with_reducible intro y a h)
  | split
  | dsimp -zeta -zetaHave -zetaUnused only

theorem within_lessonBegin (s : State) (i : ℕ) :
    Within 0x1800001C6C8 s (State.lessonBegin s i) := by
  unfold State.lessonBegin
  repeat' first
  | (extract_lets +onlyGivenNames x; first
      | (refine (fun (h : Within 0x1800001C6C8 s x) => ?_) ?_; clear_value x; rotate_left; subst x; rotate_left)
      | (refine (fun (h : Within 0x1800001C6C8 s x.1) => ?_) ?_; clear_value x; rotate_left; subst x; rotate_left)
      | (refine (fun (h : Within 0x1800001C6C8 s x.2) => ?_) ?_; clear_value x; rotate_left; subst x; rotate_left)
      | clear_value x
      | skip)
  | with_reducible apply Within.refl
  | with_reducible assumption
  | (with_reducible apply Within.after (within_commitAt _ _ _); · decide)
  | (with_reducible apply Within.after (within_setLesson _ _ _); · decide)
  | (with_reducible apply Within.after (within_beginRuns _ _ _); · decide)
  | (with_reducible apply Within.after (within_coverUe _ _); · decide)
  | (with_reducible apply Within.after (within_unready _ _); · decide)
  | split

theorem within_publishEnd (s : State) (i : ℕ) :
    Within 0x16FC00001C7CC s (State.publishEnd s i) := by
  unfold State.publishEnd
  repeat' first
  | with_reducible apply Within.refl
  | with_reducible assumption
  | (with_reducible apply Within.after (within_unloadFinish _); · decide)
  | (with_reducible apply Within.after (within_freeBank _ _ _); · decide)
  | (with_reducible apply Within.after (within_showDecisions _); · decide)
  | (with_reducible apply Within.after (within_setLesson _ _ _); · decide)
  | (with_reducible apply Within.after (within_publishSkip _ _ _); · decide)
  | with_reducible apply Within.foldl
  | (with_reducible intro y a h)

theorem within_putDecisions (s : State) (i : ℕ) (v : ℕ) (seq : ℕ) :
    Within 0x2400001C6C8 s (State.putDecisions s i v seq) := by
  unfold State.putDecisions
  repeat' first
  | with_reducible apply Within.refl
  | (with_reducible apply Within.after (within_shareDecisions _); · decide)
  | (with_reducible apply Within.after (within_pinsFollow _); · decide)
  | (with_reducible apply Within.after (within_setDecisions _ _); · decide)
  | (with_reducible apply Within.after (within_decisionEdges _ _ _); · decide)
  | split
  | (with_reducible apply Within.upd
     any_goals (fail_if_success (with_reducible exact fun _ => rfl); exact fun b => absurd b (by decide))
     all_goals first | exact fun _ => rfl | exact fun b => absurd b (by decide) | with_reducible exact Nat.le_refl _ | with_reducible exact List.suffix_refl _ | exact id | skip)

theorem within_publishOut (s : State) (i : ℕ) (b : Begun) (exc : ℕ) :
    Within 0x1C7CC s (State.publishOut s i b exc) := by
  unfold State.publishOut
  repeat' first
  | with_reducible apply Within.refl
  | (with_reducible apply Within.after (within_draw _ _); · decide)
  | (with_reducible apply Within.after (within_lessonOut _ _ _); · decide)
  | split

theorem within_publishRecord (s : State) (i : ℕ) (b : Begun) (before : ℕ) :
    Within 0x100001001C6C8 s (State.publishRecord s i b before) := by
  unfold State.publishRecord
  repeat' first
  | (extract_lets +onlyGivenNames x; first
      | (refine (fun (h : Within 0x1001C6C8 s x) => ?_) ?_; clear_value x; rotate_left; subst x; rotate_left)
      | (refine (fun (h : Within 0x1001C6C8 s x.1) => ?_) ?_; clear_value x; rotate_left; subst x; rotate_left)
      | (refine (fun (h : Within 0x1001C6C8 s x.2) => ?_) ?_; clear_value x; rotate_left; subst x; rotate_left)
      | clear_value x
      | skip)
  | with_reducible apply Within.refl
  | (with_reducible apply Within.after (within_alarmRecord _ _); · decide)
  | split

theorem within_publishSet (s : State) (i : ℕ) (b : Begun) (rs : List (ℕ × Record)) (exc : ℕ) :
    Within 0x10E401001C7CC s (State.publishSet s i b rs exc) := by
  unfold State.publishSet
  repeat' first
  | with_reducible apply Within.refl
  | (with_reducible apply Within.after (within_cardPublish _ _ _ _ _); · decide)
  | (with_reducible apply Within.after (within_putDecisions _ _ _ _); · decide)
  | (with_reducible apply Within.after (within_decisionEntry _ _ _ _ _ _ _); · decide)
  | (with_reducible apply Within.after (within_publishOut _ _ _ _); · decide)
  | (with_reducible apply Within.after (within_publishRecord _ _ _ _); · decide)
  | (with_reducible apply Within.after (within_slackDone _ _ _ _); · decide)
  | (with_reducible apply Within.after (within_kindEvents _ _ _); · decide)

theorem within_takeSet (s : State) (i : ℕ) (b : Begun) (rs : List (ℕ × Record)) :
    Within 0x10000000000 s (State.takeSet s i b rs).1 := by
  unfold State.takeSet
  repeat' first
  | with_reducible apply Within.refl
  | (with_reducible apply Within.after (within_setLesson _ _ _); · decide)

theorem within_publishHeld (s : State) (i : ℕ) (b : Begun) (rs : List (ℕ × Record)) (exc : ℕ) :
    Within 0x16FC01001C7CC s (State.publishHeld s i b rs exc) := by
  unfold State.publishHeld
  repeat' first
  | with_reducible apply Within.refl
  | (with_reducible apply Within.after (within_publishSet _ _ _ _ _); · decide)
  | (with_reducible apply Within.after (within_takeSet _ _ _ _); · decide)
  | (with_reducible apply Within.after (within_setLesson _ _ _); · decide)
  | (with_reducible apply Within.after (within_publishEnd _ _); · decide)

theorem within_publishRoll (s : State) (i : ℕ) (b : Begun) (rs : List (ℕ × Record)) (exc : ℕ) :
    Within 0x16FC01001C7CC s (State.publishRoll s i b rs exc) := by
  unfold State.publishRoll
  repeat' first
  | with_reducible apply Within.refl
  | (with_reducible apply Within.after (within_publishSet _ _ _ _ _); · decide)
  | (with_reducible apply Within.after (within_takeSet _ _ _ _); · decide)
  | (with_reducible apply Within.after (within_setLesson _ _ _); · decide)
  | (with_reducible apply Within.after (within_publishEnd _ _); · decide)
  | (with_reducible apply Within.after (within_coverCommit _ _); · decide)
  | (with_reducible apply Within.after (within_freeBanks _ _); · decide)

theorem within_reportCardPublish (s : State) (i : ℕ) :
    Within 0x16FC01001C7CC s (State.reportCardPublish s i) := by
  unfold State.reportCardPublish
  repeat' first
  | with_reducible apply Within.refl
  | (with_reducible apply Within.after (within_bump _ _); · decide)
  | (with_reducible apply Within.after (within_publishRoll _ _ _ _ _); · decide)
  | (with_reducible apply Within.after (within_publishHeld _ _ _ _ _); · decide)
  | split

theorem within_setTask (s : State) (i : ℕ) (t : Task) :
    Within 0x200000000000 s (State.setTask s i t) := by
  unfold State.setTask
  repeat' first
  | with_reducible apply Within.refl
  | (with_reducible apply Within.upd
     any_goals (fail_if_success (with_reducible exact fun _ => rfl); exact fun b => absurd b (by decide))
     all_goals first | exact fun _ => rfl | exact fun b => absurd b (by decide) | with_reducible exact Nat.le_refl _ | with_reducible exact List.suffix_refl _ | exact id | skip)

theorem within_addSysTasks (s : State) (ts : List SysTask) :
    Within 0x200000000000 s (State.addSysTasks s ts) := by
  unfold State.addSysTasks
  repeat' first
  | with_reducible apply Within.refl
  | with_reducible assumption
  | (with_reducible apply Within.after (within_setTask _ _ _); · decide)
  | with_reducible apply Within.foldl
  | (with_reducible intro y a h)
  | split

theorem within_bellChange (s : State) (old : Word) :
    Within 0x200000000000 s (State.bellChange s old) := by
  unfold State.bellChange
  repeat' first
  | with_reducible apply Within.refl
  | (with_reducible apply Within.upd
     any_goals (fail_if_success (with_reducible exact fun _ => rfl); exact fun b => absurd b (by decide))
     all_goals first | exact fun _ => rfl | exact fun b => absurd b (by decide) | with_reducible exact Nat.le_refl _ | with_reducible exact List.suffix_refl _ | exact id | skip)

theorem within_disarm (s : State) (i : ℕ) :
    Within 0x200000000000 s (State.disarm s i) := by
  unfold State.disarm
  repeat' first
  | with_reducible apply Within.refl
  | (with_reducible apply Within.upd
     any_goals (fail_if_success (with_reducible exact fun _ => rfl); exact fun b => absurd b (by decide))
     all_goals first | exact fun _ => rfl | exact fun b => absurd b (by decide) | with_reducible exact Nat.le_refl _ | with_reducible exact List.suffix_refl _ | exact id | skip)

theorem within_taskReady (s : State) (i : ℕ) :
    Within 0x20000001C6C8 s (State.taskReady s i) := by
  unfold State.taskReady
  repeat' first
  | with_reducible apply Within.refl
  | (with_reducible apply Within.after (within_flagRaise _ _ _ _ _); · decide)
  | (with_reducible apply Within.after (within_setTask _ _ _); · decide)
  | split
  | (with_reducible apply Within.upd
     any_goals (fail_if_success (with_reducible exact fun _ => rfl); exact fun b => absurd b (by decide))
     all_goals first | exact fun _ => rfl | exact fun b => absurd b (by decide) | with_reducible exact Nat.le_refl _ | with_reducible exact List.suffix_refl _ | exact id | skip)

theorem within_taskJudge (s : State) (i : ℕ) :
    Within 0x20000001C6C8 s (State.taskJudge s i) := by
  unfold State.taskJudge
  repeat' first
  | with_reducible apply Within.refl
  | (with_reducible apply Within.after (within_taskReady _ _); · decide)
  | split

theorem within_orFlags (s : State) (i : ℕ) (v : Word) :
    Within 0x20000001C6C8 s (State.orFlags s i v) := by
  unfold State.orFlags
  repeat' first
  | with_reducible apply Within.refl
  | (with_reducible apply Within.after (within_taskJudge _ _); · decide)
  | (with_reducible apply Within.after (within_setTask _ _ _); · decide)

theorem within_setFlags (s : State) (h : ℕ) (v : Word) :
    Within 0x20000001C6C8 s (State.setFlags s h v) := by
  unfold State.setFlags
  repeat' first
  | (extract_lets +onlyGivenNames x; first
      | (refine (fun (h : Within 0x20000001C6C8 s x) => ?_) ?_; clear_value x; rotate_left; subst x; rotate_left)
      | (refine (fun (h : Within 0x20000001C6C8 s x.1) => ?_) ?_; clear_value x; rotate_left; subst x; rotate_left)
      | (refine (fun (h : Within 0x20000001C6C8 s x.2) => ?_) ?_; clear_value x; rotate_left; subst x; rotate_left)
      | clear_value x
      | skip)
  | with_reducible apply Within.refl
  | (with_reducible apply Within.after (within_bump _ _); · decide)
  | (with_reducible apply Within.after (within_orFlags _ _ _); · decide)
  | split

theorem within_fireTimer (s : State) (t : Timer) :
    Within 0x20000001C6C8 s (State.fireTimer s t) := by
  unfold State.fireTimer
  repeat' first
  | with_reducible apply Within.refl
  | (with_reducible apply Within.after (within_bump _ _); · decide)
  | (with_reducible apply Within.after (within_flagRaise _ _ _ _ _); · decide)
  | (with_reducible apply Within.after (within_disarm _ _); · decide)
  | (with_reducible apply Within.after (within_setFlags _ _ _); · decide)
  | split

theorem within_taskResult (s : State) (code : ℕ) (handle : ℕ) :
    Within 0x8 s (State.taskResult s code handle) := by
  unfold State.taskResult
  repeat' first
  | with_reducible apply Within.refl
  | (with_reducible apply Within.after (within_setReg _ _ _); · decide)
  | (with_reducible apply Within.after (within_setRf _ _ _ _ _); · decide)
  | (with_reducible apply Within.after (within_publish _ _); · decide)
  | (with_reducible apply Within.after (within_setRb _ _ _ _); · decide)

theorem within_taskCreateAt (s : State) (x1 : Option ℕ) :
    Within 0x20000001C6C8 s (State.taskCreateAt s x1) := by
  unfold State.taskCreateAt
  repeat' first
  | (extract_lets +onlyGivenNames x; first
      | (refine (fun (h : Within 0x20000001C6C8 s x) => ?_) ?_; clear_value x; rotate_left; subst x; rotate_left)
      | (refine (fun (h : Within 0x20000001C6C8 s x.1) => ?_) ?_; clear_value x; rotate_left; subst x; rotate_left)
      | (refine (fun (h : Within 0x20000001C6C8 s x.2) => ?_) ?_; clear_value x; rotate_left; subst x; rotate_left)
      | clear_value x
      | skip)
  | with_reducible apply Within.refl
  | (with_reducible apply Within.after (within_bump _ _); · decide)
  | (with_reducible apply Within.after (within_flagRaise _ _ _ _ _); · decide)
  | (with_reducible apply Within.after (within_setTask _ _ _); · decide)
  | (with_reducible apply Within.after (within_taskResult _ _ _); · decide)
  | split

theorem within_taskCreate (s : State) :
    Within 0x20000001C6C8 s (State.taskCreate s) := by
  unfold State.taskCreate
  repeat' first
  | with_reducible apply Within.refl
  | (with_reducible apply Within.after (within_taskCreateAt _ _); · decide)

theorem within_taskFree (s : State) (i : ℕ) :
    Within 0x200000000000 s (State.taskFree s i) := by
  unfold State.taskFree
  repeat' first
  | with_reducible apply Within.refl
  | (with_reducible apply Within.after (within_setTask _ _ _); · decide)

theorem within_taskDestroy (s : State) (h : ℕ) :
    Within 0x200000000008 s (State.taskDestroy s h) := by
  unfold State.taskDestroy
  repeat' first
  | with_reducible apply Within.refl
  | (with_reducible apply Within.after (within_disarm _ _); · decide)
  | (with_reducible apply Within.after (within_setTask _ _ _); · decide)
  | (with_reducible apply Within.after (within_taskResult _ _ _); · decide)
  | (with_reducible apply Within.after (within_taskFree _ _); · decide)
  | split
  | (with_reducible apply Within.upd
     any_goals (fail_if_success (with_reducible exact fun _ => rfl); exact fun b => absurd b (by decide))
     all_goals first | exact fun _ => rfl | exact fun b => absurd b (by decide) | with_reducible exact Nat.le_refl _ | with_reducible exact List.suffix_refl _ | exact id | skip)

theorem within_freeFlow (s : State) (i : ℕ) :
    Within 0x200000000000 s (State.freeFlow s i) := by
  unfold State.freeFlow
  repeat' first
  | with_reducible apply Within.refl
  | split
  | (with_reducible apply Within.upd
     any_goals (fail_if_success (with_reducible exact fun _ => rfl); exact fun b => absurd b (by decide))
     all_goals first | exact fun _ => rfl | exact fun b => absurd b (by decide) | with_reducible exact Nat.le_refl _ | with_reducible exact List.suffix_refl _ | exact id | skip)

theorem within_taskComplete (s : State) (i : ℕ) :
    Within 0x20000001C6C8 s (State.taskComplete s i) := by
  unfold State.taskComplete
  repeat' first
  | (extract_lets +onlyGivenNames x; first
      | (refine (fun (h : Within 0x20000001C6C8 s x) => ?_) ?_; clear_value x; rotate_left; subst x; rotate_left)
      | (refine (fun (h : Within 0x20000001C6C8 s x.1) => ?_) ?_; clear_value x; rotate_left; subst x; rotate_left)
      | (refine (fun (h : Within 0x20000001C6C8 s x.2) => ?_) ?_; clear_value x; rotate_left; subst x; rotate_left)
      | clear_value x
      | skip)
  | with_reducible apply Within.refl
  | with_reducible assumption
  | (with_reducible apply Within.after (within_taskJudge _ _); · decide)
  | (with_reducible apply Within.after (within_setTask _ _ _); · decide)
  | (with_reducible apply Within.after (within_freeFlow _ _); · decide)
  | (with_reducible apply Within.after (within_taskFree _ _); · decide)
  | split

theorem within_taskDone (s : State) (h : ℕ) :
    Within 0x20000001C6C8 s (State.taskDone s h) := by
  unfold State.taskDone
  repeat' first
  | (extract_lets +onlyGivenNames x; first
      | (refine (fun (h : Within 0x20000001C6C8 s x) => ?_) ?_; clear_value x; rotate_left; subst x; rotate_left)
      | (refine (fun (h : Within 0x20000001C6C8 s x.1) => ?_) ?_; clear_value x; rotate_left; subst x; rotate_left)
      | (refine (fun (h : Within 0x20000001C6C8 s x.2) => ?_) ?_; clear_value x; rotate_left; subst x; rotate_left)
      | clear_value x
      | skip)
  | with_reducible apply Within.refl
  | (with_reducible apply Within.after (within_taskComplete _ _); · decide)
  | (with_reducible apply Within.after (within_taskResult _ _ _); · decide)
  | split

theorem within_taskCommand (s : State) :
    Within 0x20000001C6C8 s (State.taskCommand s) := by
  unfold State.taskCommand
  repeat' first
  | (extract_lets +onlyGivenNames x; first
      | (refine (fun (h : Within 0x20000001C6C8 s x) => ?_) ?_; clear_value x; rotate_left; subst x; rotate_left)
      | (refine (fun (h : Within 0x20000001C6C8 s x.1) => ?_) ?_; clear_value x; rotate_left; subst x; rotate_left)
      | (refine (fun (h : Within 0x20000001C6C8 s x.2) => ?_) ?_; clear_value x; rotate_left; subst x; rotate_left)
      | clear_value x
      | skip)
  | with_reducible apply Within.refl
  | with_reducible assumption
  | (with_reducible apply Within.after (within_taskCreate _); · decide)
  | (with_reducible apply Within.after (within_taskDestroy _ _); · decide)
  | (with_reducible apply Within.after (within_taskDone _ _); · decide)
  | (with_reducible apply Within.after (within_unready _ _); · decide)
  | split

theorem within_flagSet (s : State) (v : Word) :
    Within 0x20000001C6C8 s (State.flagSet s v) := by
  unfold State.flagSet
  repeat' first
  | with_reducible apply Within.refl
  | (with_reducible apply Within.after (within_setFlags _ _ _); · decide)

theorem within_timerResult (s : State) (code : ℕ) :
    Within 0x8 s (State.timerResult s code) := by
  unfold State.timerResult
  repeat' first
  | with_reducible apply Within.refl
  | (with_reducible apply Within.after (within_setRf _ _ _ _ _); · decide)
  | (with_reducible apply Within.after (within_publish _ _); · decide)
  | (with_reducible apply Within.after (within_setRb _ _ _ _); · decide)

theorem within_timerDisarm (s : State) :
    Within 0x200000000008 s (State.timerDisarm s) := by
  unfold State.timerDisarm
  repeat' first
  | with_reducible apply Within.refl
  | (with_reducible apply Within.after (within_disarm _ _); · decide)
  | (with_reducible apply Within.after (within_timerResult _ _); · decide)
  | split

theorem within_timerArm (s : State) :
    Within 0x200000000008 s (State.timerArm s) := by
  unfold State.timerArm
  repeat' first
  | with_reducible apply Within.refl
  | (with_reducible apply Within.after (within_disarm _ _); · decide)
  | (with_reducible apply Within.after (within_timerResult _ _); · decide)
  | split
  | (with_reducible apply Within.upd
     any_goals (fail_if_success (with_reducible exact fun _ => rfl); exact fun b => absurd b (by decide))
     all_goals first | exact fun _ => rfl | exact fun b => absurd b (by decide) | with_reducible exact Nat.le_refl _ | with_reducible exact List.suffix_refl _ | exact id | skip)

theorem within_timerCommand (s : State) :
    Within 0x200000000008 s (State.timerCommand s) := by
  unfold State.timerCommand
  repeat' first
  | (extract_lets +onlyGivenNames x; first
      | (refine (fun (h : Within 0x200000000008 s x) => ?_) ?_; clear_value x; rotate_left; subst x; rotate_left)
      | (refine (fun (h : Within 0x200000000008 s x.1) => ?_) ?_; clear_value x; rotate_left; subst x; rotate_left)
      | (refine (fun (h : Within 0x200000000008 s x.2) => ?_) ?_; clear_value x; rotate_left; subst x; rotate_left)
      | clear_value x
      | skip)
  | with_reducible apply Within.refl
  | with_reducible assumption
  | (with_reducible apply Within.after (within_timerDisarm _); · decide)
  | (with_reducible apply Within.after (within_unready _ _); · decide)
  | (with_reducible apply Within.after (within_timerArm _); · decide)
  | split

theorem within_schHook (s : State) (off : ℕ) (old : Word) (v : Word) :
    Within 0x20000001C6C8 s (State.schHook s off old v) := by
  unfold State.schHook
  repeat' first
  | with_reducible apply Within.refl
  | (with_reducible apply Within.after (within_taskCommand _); · decide)
  | (with_reducible apply Within.after (within_flagSet _ _); · decide)
  | (with_reducible apply Within.after (within_bellChange _ _); · decide)
  | (with_reducible apply Within.after (within_timerCommand _); · decide)
  | split

theorem within_dispatchItem (s : State) (i : ℕ) :
    Within 0x20000001C6C8 s (State.dispatchItem s i) := by
  unfold State.dispatchItem
  repeat' first
  | with_reducible apply Within.refl
  | (with_reducible apply Within.after (within_bump _ _); · decide)
  | (with_reducible apply Within.after (within_postDesc _ _ _); · decide)
  | (with_reducible apply Within.after (within_setTask _ _ _); · decide)
  | split
  | (with_reducible apply Within.upd
     any_goals (fail_if_success (with_reducible exact fun _ => rfl); exact fun b => absurd b (by decide))
     all_goals first | exact fun _ => rfl | exact fun b => absurd b (by decide) | with_reducible exact Nat.le_refl _ | with_reducible exact List.suffix_refl _ | exact id | skip)

theorem within_dispatch (s : State) (sets : List (ℕ × Word)) :
    Within 0x20000001C6C8 s (State.dispatch s sets) := by
  unfold State.dispatch
  repeat' first
  | (extract_lets +onlyGivenNames x; first
      | (refine (fun (h : Within 0x20000001C6C8 s x) => ?_) ?_; clear_value x; rotate_left; subst x; rotate_left)
      | (refine (fun (h : Within 0x20000001C6C8 s x.1) => ?_) ?_; clear_value x; rotate_left; subst x; rotate_left)
      | (refine (fun (h : Within 0x20000001C6C8 s x.2) => ?_) ?_; clear_value x; rotate_left; subst x; rotate_left)
      | clear_value x
      | skip)
  | with_reducible apply Within.refl
  | with_reducible assumption
  | (with_reducible apply Within.after (within_bumpBy _ _ _); · decide)
  | (with_reducible apply Within.after (within_dispatchItem _ _); · decide)
  | (with_reducible apply Within.after (within_orFlags _ _ _); · decide)
  | (with_reducible apply Within.after (within_ringExhaust _ _ _); · decide)
  | with_reducible apply Within.foldl
  | (with_reducible intro y a h)
  | split

theorem within_engineComplete (s : State) (i : ℕ) :
    Within 0x20000001C6C8 s (State.engineComplete s i) := by
  unfold State.engineComplete
  repeat' first
  | with_reducible apply Within.refl
  | (with_reducible apply Within.after (within_taskComplete _ _); · decide)
  | split

theorem within_runBootList (wr : State → ℕ → Word → State × Bool) (warm : Bool) (x2 : List (ℕ × Word)) (s : State) (h_wr : ∀ y o v, Within 0x77FFFFFFFFFFFC y (wr y o v).1) :
    Within 0x77FFFFFFFFFFFC s (runBootList wr warm x2 s).1 := by
  induction x2 generalizing s with
  | nil =>
    unfold runBootList
    first | exact Within.refl _ | exact (Within.refl _).mono (by decide) | (split <;> exact Within.refl _)
  | cons a l ih =>
    unfold runBootList
    repeat' first
    | (extract_lets +onlyGivenNames x; first
        | (refine (fun (h : Within 0x77FFFFFFFFFFFC s x) => ?_) ?_; clear_value x; rotate_left; subst x; rotate_left)
        | (refine (fun (h : Within 0x77FFFFFFFFFFFC s x.1) => ?_) ?_; clear_value x; rotate_left; subst x; rotate_left)
        | (refine (fun (h : Within 0x77FFFFFFFFFFFC s x.2) => ?_) ?_; clear_value x; rotate_left; subst x; rotate_left)
        | clear_value x
        | skip)
    | with_reducible apply Within.refl
    | with_reducible assumption
    | (with_reducible apply Within.after (h_wr _ _ _); · decide)
    | (with_reducible apply Within.after (ih _); · decide)
    | split

theorem within_inService (s : State) (c : ℕ) (e : List Byte) (fs : List Byte) (m : Memo) :
    Within 0x8000000008 s (State.inService s c e fs m) := by
  unfold State.inService
  repeat' first
  | with_reducible apply Within.refl
  | (with_reducible apply Within.after (within_setRf _ _ _ _ _); · decide)
  | (with_reducible apply Within.after (within_setClsState _ _ _); · decide)
  | (with_reducible apply Within.after (within_setClassroom _ _ _); · decide)
  | (with_reducible apply Within.after (within_loadMemo _ _ _); · decide)

theorem within_loadDone (s : State) (rd : ImageSource) (h : List Byte) :
    Within 0x442C00001C7C8 s (State.loadDone s rd h) := by
  unfold State.loadDone
  repeat' first
  | (extract_lets +onlyGivenNames x; first
      | (refine (fun (h : Within 0x442C00001C7C8 s x) => ?_) ?_; clear_value x; rotate_left; subst x; rotate_left)
      | (refine (fun (h : Within 0x442C00001C7C8 s x.1) => ?_) ?_; clear_value x; rotate_left; subst x; rotate_left)
      | (refine (fun (h : Within 0x442C00001C7C8 s x.2) => ?_) ?_; clear_value x; rotate_left; subst x; rotate_left)
      | clear_value x
      | skip)
  | with_reducible apply Within.refl
  | with_reducible assumption
  | (with_reducible apply Within.after (within_putEntryZero _ _); · decide)
  | (with_reducible apply Within.after (within_setReg _ _ _); · decide)
  | (with_reducible apply Within.after (within_showDecisions _); · decide)
  | (with_reducible apply Within.after (within_inService _ _ _ _ _); · decide)
  | (with_reducible apply Within.after (within_floorAuto _ _); · decide)
  | (with_reducible apply Within.after (within_raise _ _ _); · decide)
  | (with_reducible apply Within.after (within_setRb _ _ _ _); · decide)
  | with_reducible apply Within.foldl
  | (with_reducible intro y a h)
  | (with_reducible apply Within.upd
     any_goals (fail_if_success (with_reducible exact fun _ => rfl); exact fun b => absurd b (by decide))
     all_goals first | exact fun _ => rfl | exact fun b => absurd b (by decide) | with_reducible exact Nat.le_refl _ | with_reducible exact List.suffix_refl _ | exact id | skip)

theorem within_applyList (s : State) (rd : ImageSource) (ok : Bool) :
    Within 0x442C00001C7C8 s (State.applyList s rd ok).1 := by
  unfold State.applyList
  repeat' first
  | with_reducible apply Within.refl
  | (with_reducible apply Within.after (within_loadFail _ _ _); · decide)
  | (with_reducible apply Within.after (within_loadDone _ _ _); · decide)
  | (with_reducible apply Within.after (within_unconfigure _); · decide)
  | split

theorem within_applyClasses (s : State) (wr : State → ℕ → Word → State × Bool) (rd : ImageSource) (warm : Bool) (x4 : Option ℕ) (h_wr : ∀ y o v, Within 0x77FFFFFFFFFFFC y (wr y o v).1) :
    Within 0x77FFFFFFFFFFFC s (State.applyClasses s wr rd warm x4).1 := by
  unfold State.applyClasses
  repeat' first
  | with_reducible apply Within.refl
  | (with_reducible apply Within.after (within_loadFail _ _ _); · decide)
  | (with_reducible apply Within.after (within_runBootList _ _ _ _ h_wr); · decide)
  | (with_reducible apply Within.after (within_applyList _ _ _); · decide)
  | (with_reducible apply Within.after (within_unconfigure _); · decide)
  | (with_reducible apply Within.after (h_wr _ _ _); · decide)
  | split

theorem within_imageValues (s : State) :
    Within 0x210000000008 s (State.imageValues s) := by
  unfold State.imageValues
  repeat' first
  | with_reducible apply Within.refl
  | with_reducible assumption
  | (with_reducible apply Within.after (within_setReg _ _ _); · decide)
  | (with_reducible apply Within.after (within_addSysTasks _ _); · decide)
  | (with_reducible apply Within.after (within_setLesson _ _ _); · decide)
  | with_reducible apply Within.foldl
  | (with_reducible intro y a h)
  | split

theorem within_applyDevice (s : State) (e : List Byte) (fs : List Byte) :
    Within 0x610000000008 s (State.applyDevice s e fs) := by
  unfold State.applyDevice
  repeat' first
  | with_reducible apply Within.refl
  | with_reducible assumption
  | (with_reducible apply Within.after (within_setReg _ _ _); · decide)
  | (with_reducible apply Within.after (within_imageValues _); · decide)
  | with_reducible apply Within.foldl
  | (with_reducible intro y a h)
  | split
  | (with_reducible apply Within.upd
     any_goals (fail_if_success (with_reducible exact fun _ => rfl); exact fun b => absurd b (by decide))
     all_goals first | exact fun _ => rfl | exact fun b => absurd b (by decide) | with_reducible exact Nat.le_refl _ | with_reducible exact List.suffix_refl _ | exact id | skip)

theorem within_unconfigure (s : State) :
    Within 0x63C00001C6F8 s (State.unconfigure s) := by
  unfold State.unconfigure
  repeat' first
  | (extract_lets +onlyGivenNames x; first
      | (refine (fun (h : Within 0x63C00001C6F8 s x) => ?_) ?_; clear_value x; rotate_left; subst x; rotate_left)
      | (refine (fun (h : Within 0x63C00001C6F8 s x.1) => ?_) ?_; clear_value x; rotate_left; subst x; rotate_left)
      | (refine (fun (h : Within 0x63C00001C6F8 s x.2) => ?_) ?_; clear_value x; rotate_left; subst x; rotate_left)
      | clear_value x
      | skip)
  | with_reducible apply Within.refl
  | with_reducible assumption
  | (with_reducible apply Within.after (within_setReg _ _ _); · decide)
  | (with_reducible apply Within.after (within_setClassroom _ _ _); · decide)
  | (with_reducible apply Within.after (within_showDecisions _); · decide)
  | (with_reducible apply Within.after (within_showCover _); · decide)
  | (with_reducible apply Within.after (within_resetRegs _ _ _); · decide)
  | (with_reducible apply Within.after (within_setRb _ _ _ _); · decide)
  | with_reducible apply Within.foldl
  | (with_reducible intro y a h)
  | (with_reducible apply Within.upd
     any_goals (fail_if_success (with_reducible exact fun _ => rfl); exact fun b => absurd b (by decide))
     all_goals first | exact fun _ => rfl | exact fun b => absurd b (by decide) | with_reducible exact Nat.le_refl _ | with_reducible exact List.suffix_refl _ | exact id | skip)

theorem within_writeMap (s : State) (c : ℕ) (m : List ℕ) :
    Within 0x8000000008 s (State.writeMap s c m) := by
  unfold State.writeMap
  repeat' first
  | with_reducible apply Within.refl
  | with_reducible assumption
  | (with_reducible apply Within.after (within_setReg _ _ _); · decide)
  | (with_reducible apply Within.after (within_showSpares _ _); · decide)
  | (with_reducible apply Within.after (within_setDesk _ _ _ _); · decide)
  | with_reducible apply Within.foldl
  | (with_reducible intro y a h)
  | split

theorem within_takeMap (s : State) (c : ℕ) (x2 : Option (List ℕ)) :
    Within 0x8000000008 s (State.takeMap s c x2).1 := by
  unfold State.takeMap
  repeat' first
  | with_reducible apply Within.refl
  | (with_reducible apply Within.after (within_writeMap _ _ _); · decide)
  | (with_reducible apply Within.after (within_showSpares _ _); · decide)
  | split

theorem within_configureClass (s : State) (c : ℕ) (bad : List ℕ) :
    Within 0x21800001C6C8 s (State.configureClass s c bad).1 := by
  unfold State.configureClass
  repeat' first
  | with_reducible apply Within.refl
  | (with_reducible apply Within.after (within_takeMap _ _ _); · decide)
  | (with_reducible apply Within.after (within_checkDesks _ _ _); · decide)

theorem within_writeClasses (desks : List (ℕ × ℕ)) (x1 : List ℕ) (s : State) :
    Within 0x21800001C6C8 s (writeClasses desks x1 s).1 := by
  induction x1 generalizing s with
  | nil =>
    unfold writeClasses
    first | exact Within.refl _ | exact (Within.refl _).mono (by decide) | (split <;> exact Within.refl _)
  | cons a l ih =>
    unfold writeClasses
    repeat' first
    | (extract_lets +onlyGivenNames x; first
        | (refine (fun (h : Within 0x21800001C6C8 s x) => ?_) ?_; clear_value x; rotate_left; subst x; rotate_left)
        | (refine (fun (h : Within 0x21800001C6C8 s x.1) => ?_) ?_; clear_value x; rotate_left; subst x; rotate_left)
        | (refine (fun (h : Within 0x21800001C6C8 s x.2) => ?_) ?_; clear_value x; rotate_left; subst x; rotate_left)
        | clear_value x
        | skip)
    | with_reducible apply Within.refl
    | with_reducible assumption
    | (with_reducible apply Within.after (within_configureClass _ _ _); · decide)
    | (with_reducible apply Within.after (ih _); · decide)
    | split

theorem within_applyImage (s : State) (wr : State → ℕ → Word → State × Bool) (rd : ImageSource) (desks : List (ℕ × ℕ)) (warm : Bool) (h_wr : ∀ y o v, Within 0x77FFFFFFFFFFFC y (wr y o v).1) :
    Within 0x77FFFFFFFFFFFC s (State.applyImage s wr rd desks warm).1 := by
  unfold State.applyImage
  extract_lets h dev x p
  clear_value h dev
  have hx : Within 0x77FFFFFFFFFFFC s x :=
    Within.after (within_applyDevice _ _ _) (by decide) ((within_unconfigure s).mono (by decide))
  clear_value x
  have hp : Within 0x77FFFFFFFFFFFC s p.1 := Within.after (within_writeClasses _ _ _) (by decide) hx
  clear_value p
  exact hp.trans (within_applyClasses _ _ _ _ _ h_wr)

theorem within_loadFail (s : State) (code : ℕ) (sec : ℕ) :
    Within 0x1C6C8 s (State.loadFail s code sec) := by
  unfold State.loadFail
  repeat' first
  | with_reducible apply Within.refl
  | (with_reducible apply Within.after (within_setRf _ _ _ _ _); · decide)
  | (with_reducible apply Within.after (within_raise _ _ _); · decide)
  | (with_reducible apply Within.after (within_setRb _ _ _ _); · decide)

theorem within_countNoKey (s : State) (rd : ImageSource) (code : ℕ) :
    Within 0x100000001C6C8 s (State.countNoKey s rd code) := by
  unfold State.countNoKey
  repeat' first
  | with_reducible apply Within.refl
  | (with_reducible apply Within.after (within_keyFail _ _); · decide)
  | split

theorem within_attemptFail (s : State) (rd : ImageSource) (a : ℕ × ℕ) :
    Within 0x163C00001C6F8 s (State.attemptFail s rd a) := by
  unfold State.attemptFail
  repeat' first
  | with_reducible apply Within.refl
  | (with_reducible apply Within.after (within_loadFail _ _ _); · decide)
  | (with_reducible apply Within.after (within_unconfigure _); · decide)
  | (with_reducible apply Within.after (within_countNoKey _ _ _); · decide)

theorem within_attempt (s : State) (wr : State → ℕ → Word → State × Bool) (rd : ImageSource) (desks : List (ℕ × ℕ)) (warm : Bool) (a : ℕ × ℕ) (h_wr : ∀ y o v, Within 0x77FFFFFFFFFFFC y (wr y o v).1) :
    Within 0x77FFFFFFFFFFFC s (State.attempt s wr rd desks warm a).1 := by
  unfold State.attempt
  repeat' first
  | (extract_lets +onlyGivenNames x; first
      | (refine (fun (h : Within 0x77FFFFFFFFFFFC s x) => ?_) ?_; clear_value x; rotate_left; subst x; rotate_left)
      | (refine (fun (h : Within 0x77FFFFFFFFFFFC s x.1) => ?_) ?_; clear_value x; rotate_left; subst x; rotate_left)
      | (refine (fun (h : Within 0x77FFFFFFFFFFFC s x.2) => ?_) ?_; clear_value x; rotate_left; subst x; rotate_left)
      | clear_value x
      | skip)
  | with_reducible apply Within.refl
  | with_reducible assumption
  | (with_reducible apply Within.after (within_attemptFail _ _ _); · decide)
  | (with_reducible apply Within.after (within_applyImage _ _ _ _ _ h_wr); · decide)
  | (with_reducible apply Within.after (h_wr _ _ _); · decide)
  | split

theorem within_classResult (s : State) (code : ℕ) (c : ℕ) (host : Bool) :
    Within 0x8 s (State.classResult s code c host) := by
  unfold State.classResult
  repeat' first
  | with_reducible apply Within.refl
  | (with_reducible apply Within.after (within_setReg _ _ _); · decide)
  | (with_reducible apply Within.after (within_publish _ _); · decide)
  | (with_reducible apply Within.after (within_setRb _ _ _ _); · decide)
  | split

theorem within_cacheUe (s : State) (a : ℕ) (ue : Option ℕ) :
    Within 0x8 s (State.cacheUe s a ue) := by
  unfold State.cacheUe
  repeat' first
  | with_reducible apply Within.refl
  | (with_reducible apply Within.after (within_memUe _ _); · decide)
  | split

theorem within_versionFollow (s : State) (n : ℕ) :
    Within 0x8 s (State.versionFollow s n) := by
  unfold State.versionFollow
  repeat' first
  | (extract_lets +onlyGivenNames x; first
      | (refine (fun (h : Within 0x8 s x) => ?_) ?_; clear_value x; rotate_left; subst x; rotate_left)
      | (refine (fun (h : Within 0x8 s x.1) => ?_) ?_; clear_value x; rotate_left; subst x; rotate_left)
      | (refine (fun (h : Within 0x8 s x.2) => ?_) ?_; clear_value x; rotate_left; subst x; rotate_left)
      | clear_value x
      | skip)
  | with_reducible apply Within.refl
  | (with_reducible apply Within.after (within_setReg _ _ _); · decide)
  | split

theorem within_rewriteFail (s : State) (c : ℕ) (from_ : ℕ) (code : ℕ) (host : Bool) :
    Within 0x1800001C6C8 s (State.rewriteFail s c from_ code host) := by
  unfold State.rewriteFail
  repeat' first
  | with_reducible apply Within.refl
  | (with_reducible apply Within.after (within_setReg _ _ _); · decide)
  | (with_reducible apply Within.after (within_classResult _ _ _ _); · decide)
  | (with_reducible apply Within.after (within_setClsState _ _ _); · decide)
  | (with_reducible apply Within.after (within_setClassroom _ _ _); · decide)
  | (with_reducible apply Within.after (within_showCover _); · decide)
  | (with_reducible apply Within.after (within_raise _ _ _); · decide)
  | split

theorem within_lessonRestart (s : State) (c : ℕ) (i : ℕ) :
    Within 0x18000000000 s (State.lessonRestart s c i) := by
  unfold State.lessonRestart
  repeat' first
  | with_reducible apply Within.refl
  | (with_reducible apply Within.after (within_setLesson _ _ _); · decide)
  | (with_reducible apply Within.after (within_restartTag _ _); · decide)

theorem within_rewriteEnd (s : State) (c : ℕ) (e : List Byte) (fs : List Byte) (host : Bool) (lost : Bool) :
    Within 0x2C00001C7C8 s (State.rewriteEnd s c e fs host lost) := by
  unfold State.rewriteEnd
  repeat' first
  | with_reducible apply Within.refl
  | (with_reducible apply Within.after (within_classResult _ _ _ _); · decide)
  | (with_reducible apply Within.after (within_setClsState _ _ _); · decide)
  | (with_reducible apply Within.after (within_setClassroom _ _ _); · decide)
  | (with_reducible apply Within.after (within_showDecisions _); · decide)
  | (with_reducible apply Within.after (within_putEntry _ _ _ _); · decide)
  | (with_reducible apply Within.after (within_raise _ _ _); · decide)
  | split

theorem within_rewriteDone (s : State) (c : ℕ) (from_ : ℕ) (e : List Byte) (fs : List Byte) (keep : Bool) (host : Bool) (late : List (ℕ × ℕ)) :
    Within 0x23C00001C7C8 s (State.rewriteDone s c from_ e fs keep host late) := by
  unfold State.rewriteDone
  repeat' first
  | with_reducible apply Within.refl
  | with_reducible assumption
  | (with_reducible apply Within.after (within_setRf _ _ _ _ _); · decide)
  | (with_reducible apply Within.after (within_lessonRestart _ _ _); · decide)
  | (with_reducible apply Within.after (within_setClassroom _ _ _); · decide)
  | (with_reducible apply Within.after (within_inService _ _ _ _ _); · decide)
  | (with_reducible apply Within.after (within_coverExit _ _); · decide)
  | (with_reducible apply Within.after (within_showCover _); · decide)
  | (with_reducible apply Within.after (within_deskLost _ _ _ _); · decide)
  | (with_reducible apply Within.after (within_rewriteEnd _ _ _ _ _ _); · decide)
  | (with_reducible apply Within.after (within_coverEnter _ _); · decide)
  | with_reducible apply Within.foldl
  | (with_reducible intro y a h)
  | split

theorem within_rewrite (s : State) (c : ℕ) (e : List Byte) (fs : List Byte) (repair : Bool) (x : Mishap) (host : Bool) :
    Within 0x23C00001C7C8 s (State.rewrite s c e fs repair x host) := by
  unfold State.rewrite
  repeat' first
  | (extract_lets +onlyGivenNames x; first
      | (refine (fun (h : Within 0x23C00001C7C8 s x) => ?_) ?_; clear_value x; rotate_left; subst x; rotate_left)
      | (refine (fun (h : Within 0x23C00001C7C8 s x.1) => ?_) ?_; clear_value x; rotate_left; subst x; rotate_left)
      | (refine (fun (h : Within 0x23C00001C7C8 s x.2) => ?_) ?_; clear_value x; rotate_left; subst x; rotate_left)
      | clear_value x
      | skip)
  | with_reducible apply Within.refl
  | with_reducible assumption
  | (with_reducible apply Within.after (within_setClsState _ _ _); · decide)
  | (with_reducible apply Within.after (within_configureClass _ _ _); · decide)
  | (with_reducible apply Within.after (within_coverEnter _ _); · decide)
  | (with_reducible apply Within.after (within_rewriteFail _ _ _ _ _); · decide)
  | (with_reducible apply Within.after (within_rewriteDone _ _ _ _ _ _ _ _); · decide)
  | split

theorem within_classRewrite (s : State) (c : ℕ) (n : ℕ) (repair : Bool) (x : Mishap) (host : Bool) :
    Within 0x23C00001C7C8 s (State.classRewrite s c n repair x host) := by
  unfold State.classRewrite
  repeat' first
  | (extract_lets +onlyGivenNames x; first
      | (refine (fun (h : Within 0x23C00001C7C8 s x) => ?_) ?_; clear_value x; rotate_left; subst x; rotate_left)
      | (refine (fun (h : Within 0x23C00001C7C8 s x.1) => ?_) ?_; clear_value x; rotate_left; subst x; rotate_left)
      | (refine (fun (h : Within 0x23C00001C7C8 s x.2) => ?_) ?_; clear_value x; rotate_left; subst x; rotate_left)
      | clear_value x
      | skip)
  | with_reducible apply Within.refl
  | with_reducible assumption
  | (with_reducible apply Within.after (within_classResult _ _ _ _); · decide)
  | (with_reducible apply Within.after (within_cacheUe _ _ _); · decide)
  | (with_reducible apply Within.after (within_versionFollow _ _); · decide)
  | (with_reducible apply Within.after (within_rewrite _ _ _ _ _ _ _); · decide)
  | (with_reducible apply Within.after (within_unready _ _); · decide)
  | (with_reducible apply Within.after (within_memCe _ _); · decide)
  | with_reducible apply Within.foldl
  | (with_reducible intro y a h)
  | split

theorem within_autoRepair (s : State) (c : ℕ) (x : Mishap) :
    Within 0x23C00001C7C8 s (State.autoRepair s c x) := by
  unfold State.autoRepair
  repeat' first
  | with_reducible apply Within.refl
  | (with_reducible apply Within.after (within_classRewrite _ _ _ _ _ _); · decide)
  | split

theorem within_readFlash (s : State) (base : ℕ) :
    Within 0x80 s (State.readFlash s base) := by
  unfold State.readFlash
  repeat' first
  | with_reducible apply Within.refl
  | (with_reducible apply Within.after (within_emit _ _); · decide)

theorem within_loaderIdle (s : State) :
    Within 0x8 s (State.loaderIdle s) := by
  unfold State.loaderIdle
  repeat' first
  | with_reducible apply Within.refl
  | (with_reducible apply Within.after (within_setRb _ _ _ _); · decide)

theorem within_bootSecond (s : State) (wr : State → ℕ → Word → State × Bool) (bad : List ℕ) (desks : List (ℕ × ℕ)) (warm : Bool) (h_wr : ∀ y o v, Within 0x77FFFFFFFFFFFC y (wr y o v).1) :
    Within 0x77FFFFFFFFFFFC s (State.bootSecond s wr bad desks warm) := by
  unfold State.bootSecond
  repeat' first
  | with_reducible apply Within.refl
  | (with_reducible apply Within.after (within_setRf _ _ _ _ _); · decide)
  | (with_reducible apply Within.after (within_attempt _ _ _ _ _ _ h_wr); · decide)
  | (with_reducible apply Within.after (within_readFlash _ _); · decide)
  | (with_reducible apply Within.after (within_loaderIdle _); · decide)
  | (with_reducible apply Within.after (h_wr _ _ _); · decide)

theorem within_selectReadMode (s : State) :
    Within 0x400000000080 s (State.selectReadMode s) := by
  unfold State.selectReadMode
  repeat' first
  | with_reducible apply Within.refl
  | (with_reducible apply Within.after (within_emit _ _); · decide)
  | (with_reducible apply Within.upd
     any_goals (fail_if_success (with_reducible exact fun _ => rfl); exact fun b => absurd b (by decide))
     all_goals first | exact fun _ => rfl | exact fun b => absurd b (by decide) | with_reducible exact Nat.le_refl _ | with_reducible exact List.suffix_refl _ | exact id | skip)

theorem within_bootPrimary (s : State) (wr : State → ℕ → Word → State × Bool) (bad : List ℕ) (bad2 : List ℕ) (desks : List (ℕ × ℕ)) (warm : Bool) (h_wr : ∀ y o v, Within 0x77FFFFFFFFFFFC y (wr y o v).1) :
    Within 0x77FFFFFFFFFFFC s (State.bootPrimary s wr bad bad2 desks warm) := by
  unfold State.bootPrimary
  repeat' first
  | (extract_lets +onlyGivenNames x; first
      | (refine (fun (h : Within 0x77FFFFFFFFFFFC s x) => ?_) ?_; clear_value x; rotate_left; subst x; rotate_left)
      | (refine (fun (h : Within 0x77FFFFFFFFFFFC s x.1) => ?_) ?_; clear_value x; rotate_left; subst x; rotate_left)
      | (refine (fun (h : Within 0x77FFFFFFFFFFFC s x.2) => ?_) ?_; clear_value x; rotate_left; subst x; rotate_left)
      | clear_value x
      | skip)
  | with_reducible apply Within.refl
  | with_reducible assumption
  | (with_reducible apply Within.after (within_attempt _ _ _ _ _ _ h_wr); · decide)
  | (with_reducible apply Within.after (within_readFlash _ _); · decide)
  | (with_reducible apply Within.after (within_bootSecond _ _ _ _ _ h_wr); · decide)
  | (with_reducible apply Within.after (within_selectReadMode _); · decide)
  | (with_reducible apply Within.after (within_loaderIdle _); · decide)
  | (with_reducible apply Within.after (h_wr _ _ _); · decide)
  | split

theorem within_bootLoad (s : State) (wr : State → ℕ → Word → State × Bool) (bad : List (ℕ × ℕ)) (desks : List (ℕ × ℕ)) (h_wr : ∀ y o v, Within 0x77FFFFFFFFFFFC y (wr y o v).1) :
    Within 0x77FFFFFFFFFFFC s (State.bootLoad s wr bad desks) := by
  unfold State.bootLoad
  repeat' first
  | with_reducible apply Within.refl
  | (with_reducible apply Within.after (within_setRf _ _ _ _ _); · decide)
  | (with_reducible apply Within.after (within_bootPrimary _ _ _ _ _ _ h_wr); · decide)
  | (with_reducible apply Within.after (within_setRb _ _ _ _); · decide)
  | (with_reducible apply Within.after (h_wr _ _ _); · decide)
  | split
  | (with_reducible apply Within.upd
     any_goals (fail_if_success (with_reducible exact fun _ => rfl); exact fun b => absurd b (by decide))
     all_goals first | exact fun _ => rfl | exact fun b => absurd b (by decide) | with_reducible exact Nat.le_refl _ | with_reducible exact List.suffix_refl _ | exact id | exact Tab.wf_put | exact Tab.wf_clear | exact Tab.wf_putList | exact fun _ => rfl | exact fun c => Tab.wf_clear (Tab.wf_clear c) | exact List.suffix_cons _ _ | exact Nat.le_succ _ | skip)

theorem within_imageCache (s : State) :
    Within 0x500000001C7C8 s (State.imageCache s) := by
  unfold State.imageCache
  repeat' first
  | (extract_lets +onlyGivenNames x; first
      | (refine (fun (h : Within 0x500000001C7C8 s x) => ?_) ?_; clear_value x; rotate_left; subst x; rotate_left)
      | (refine (fun (h : Within 0x500000001C7C8 s x.1) => ?_) ?_; clear_value x; rotate_left; subst x; rotate_left)
      | (refine (fun (h : Within 0x500000001C7C8 s x.2) => ?_) ?_; clear_value x; rotate_left; subst x; rotate_left)
      | (have e : x = fun y => x y := rfl; clear e; subst x)
      | clear_value x
      | skip)
  | with_reducible apply Within.refl
  | with_reducible assumption
  | (with_reducible apply Within.after (within_setRf _ _ _ _ _); · decide)
  | (with_reducible apply Within.after (within_loadFail _ _ _); · decide)
  | (with_reducible apply Within.after (within_hbmWrite _ _ _); · decide)
  | (with_reducible apply Within.after (within_floorAuto _ _); · decide)
  | (with_reducible apply Within.after (within_raise _ _ _); · decide)
  | (with_reducible apply Within.after (within_countNoKey _ _ _); · decide)
  | (with_reducible apply Within.after (within_setRb _ _ _ _); · decide)
  | split
  | (with_reducible apply Within.upd
     any_goals (fail_if_success (with_reducible exact fun _ => rfl); exact fun b => absurd b (by decide))
     all_goals first | exact fun _ => rfl | exact fun b => absurd b (by decide) | with_reducible exact Nat.le_refl _ | with_reducible exact List.suffix_refl _ | exact id | skip)

theorem within_imageLoad (s : State) (wr : State → ℕ → Word → State × Bool) (desks : List (ℕ × ℕ)) (h_wr : ∀ y o v, Within 0x77FFFFFFFFFFFC y (wr y o v).1) :
    Within 0x77FFFFFFFFFFFC s (State.imageLoad s wr desks) := by
  unfold State.imageLoad
  repeat' first
  | (extract_lets +onlyGivenNames x; first
      | (refine (fun (h : Within 0x77FFFFFFFFFFFC s x) => ?_) ?_; clear_value x; rotate_left; subst x; rotate_left)
      | (refine (fun (h : Within 0x77FFFFFFFFFFFC s x.1) => ?_) ?_; clear_value x; rotate_left; subst x; rotate_left)
      | (refine (fun (h : Within 0x77FFFFFFFFFFFC s x.2) => ?_) ?_; clear_value x; rotate_left; subst x; rotate_left)
      | (have e : x = fun y => x y := rfl; clear e; subst x)
      | clear_value x
      | skip)
  | with_reducible apply Within.refl
  | with_reducible assumption
  | (with_reducible apply Within.after (within_setRf _ _ _ _ _); · decide)
  | (with_reducible apply Within.after (within_attempt _ _ _ _ _ _ h_wr); · decide)
  | (with_reducible apply Within.after (within_loadFail _ _ _); · decide)
  | (with_reducible apply Within.after (within_loaderIdle _); · decide)
  | (with_reducible apply Within.after (within_setRb _ _ _ _); · decide)
  | (with_reducible apply Within.after (h_wr _ _ _); · decide)
  | split

theorem within_loadCommand (s : State) (wr : State → ℕ → Word → State × Bool) (desks : List (ℕ × ℕ)) (h_wr : ∀ y o v, Within 0x77FFFFFFFFFFFC y (wr y o v).1) :
    Within 0x77FFFFFFFFFFFC s (State.loadCommand s wr desks) := by
  unfold State.loadCommand
  repeat' first
  | with_reducible apply Within.refl
  | (with_reducible apply Within.after (within_imageCache _); · decide)
  | (with_reducible apply Within.after (within_imageLoad _ _ _ h_wr); · decide)
  | (with_reducible apply Within.after (h_wr _ _ _); · decide)
  | split

theorem within_classUnload (s : State) (c : ℕ) :
    Within 0x67C00001C7C8 s (State.classUnload s c) := by
  unfold State.classUnload
  repeat' first
  | with_reducible apply Within.refl
  | (with_reducible apply Within.after (within_unloadFinish _); · decide)
  | (with_reducible apply Within.after (within_classResult _ _ _ _); · decide)
  | (with_reducible apply Within.after (within_unready _ _); · decide)
  | split
  | (with_reducible apply Within.upd
     any_goals (fail_if_success (with_reducible exact fun _ => rfl); exact fun b => absurd b (by decide))
     all_goals first | exact fun _ => rfl | exact fun b => absurd b (by decide) | with_reducible exact Nat.le_refl _ | with_reducible exact List.suffix_refl _ | exact id | skip)

theorem within_classCommand (s : State) (x : Mishap) :
    Within 0x67C00001C7C8 s (State.classCommand s x) := by
  unfold State.classCommand
  repeat' first
  | (extract_lets +onlyGivenNames x; first
      | (refine (fun (h : Within 0x67C00001C7C8 s x) => ?_) ?_; clear_value x; rotate_left; subst x; rotate_left)
      | (refine (fun (h : Within 0x67C00001C7C8 s x.1) => ?_) ?_; clear_value x; rotate_left; subst x; rotate_left)
      | (refine (fun (h : Within 0x67C00001C7C8 s x.2) => ?_) ?_; clear_value x; rotate_left; subst x; rotate_left)
      | clear_value x
      | skip)
  | with_reducible apply Within.refl
  | (with_reducible apply Within.after (within_classUnload _ _); · decide)
  | (with_reducible apply Within.after (within_classRewrite _ _ _ _ _ _); · decide)
  | split

theorem within_imgHook (s : State) (off : ℕ) (wr : State → ℕ → Word → State × Bool) (desks : List (ℕ × ℕ)) (ecc : EccMet) (late : List (ℕ × ℕ)) (h_wr : ∀ y o v, Within 0x77FFFFFFFFFFFC y (wr y o v).1) :
    Within 0x77FFFFFFFFFFFC s (State.imgHook s off wr desks ecc late) := by
  unfold State.imgHook
  split
  · split
    · exact within_loadCommand s wr desks h_wr
    · exact Within.refl _
  · split
    · split
      · exact Within.after (within_classCommand s _) (by decide) (Within.refl _)
      · exact Within.refl _
    · exact Within.refl _

theorem within_framerSend (s : State) (o : ℕ) (r : Roll) :
    Within 0x100001001C6C8 s (State.framerSend s o r) := by
  unfold State.framerSend
  repeat' first
  | (extract_lets +onlyGivenNames x; first
      | (refine (fun (h : Within 0x100001001C6C8 s x) => ?_) ?_; clear_value x; rotate_left; subst x; rotate_left)
      | (refine (fun (h : Within 0x100001001C6C8 s x.1) => ?_) ?_; clear_value x; rotate_left; subst x; rotate_left)
      | (refine (fun (h : Within 0x100001001C6C8 s x.2) => ?_) ?_; clear_value x; rotate_left; subst x; rotate_left)
      | (have e : x = fun y => x y := rfl; clear e; subst x)
      | clear_value x
      | skip)
  | with_reducible apply Within.refl
  | with_reducible assumption
  | (with_reducible apply Within.after (within_bump _ _); · decide)
  | (with_reducible apply Within.after (within_txQueue _ _ _ _); · decide)
  | (with_reducible apply Within.after (within_bumpWrap _ _); · decide)
  | (with_reducible apply Within.after (within_keyFail _ _); · decide)
  | (with_reducible apply Within.after (within_setRb _ _ _ _); · decide)
  | with_reducible apply Within.foldl
  | (with_reducible intro y a h)
  | split

theorem within_framer (s : State) (r : Roll) :
    Within 0x100001001C6C8 s (State.framer s r) := by
  unfold State.framer
  repeat' first
  | with_reducible apply Within.refl
  | with_reducible assumption
  | (with_reducible apply Within.after (within_framerSend _ _ _); · decide)
  | with_reducible apply Within.foldl
  | (with_reducible intro y a h)
  | split

end Sys2Proof.Machine
end

