-- ==== Sys2Proof/Laws/WithinDistrict.lean ====
section
/-! SUPPORT. What roll call, intake, District links, hall passes, phasors and the clock may change: one lemma per function, its mask naming the fields of State as Laws/Within.lean numbers them. -/

-- One declaration after another: side by side, their threads' stacks pass the memory limit of a check.
set_option Elab.async false

namespace Sys2Proof.Machine

set_option linter.all false

theorem within_answerRoll (s : State) (f : ℕ) (p : FormPar) (i : Instant) (stopped : Bool) (present : ℕ) (d : List Byte × List Byte) :
    Within 0x8000001C6C8 s (State.answerRoll s f p i stopped present d) := by
  unfold State.answerRoll
  repeat' first
  | with_reducible apply Within.refl
  | (with_reducible apply Within.after (within_ansEntry _ _); · decide)
  | split
  | (with_reducible apply Within.upd
     any_goals (fail_if_success (with_reducible exact fun _ => rfl); exact fun b => absurd b (by decide))
     all_goals first | exact fun _ => rfl | exact fun b => absurd b (by decide) | with_reducible exact Nat.le_refl _ | with_reducible exact List.suffix_refl _ | exact id | skip)

theorem within_moveApply (s : State) (code : ℕ) :
    Within 0x1400080008 s (State.moveApply s code) := by
  unfold State.moveApply
  repeat' first
  | with_reducible apply Within.refl
  | (with_reducible apply Within.after (within_unbind _ _ _); · decide)
  | (with_reducible apply Within.after (within_setSeat _ _ _); · decide)
  | (with_reducible apply Within.after (within_setSeatW _ _ _ _); · decide)
  | split

theorem within_movesAt (s : State) (f : ℕ) (sec : ℕ) :
    Within 0x1400080008 s (State.movesAt s f sec) := by
  unfold State.movesAt
  repeat' first
  | with_reducible apply Within.refl
  | with_reducible assumption
  | (with_reducible apply Within.after (within_moveApply _ _); · decide)
  | with_reducible apply Within.foldl
  | (with_reducible intro y a h)
  | split

theorem within_showOpen (s : State) (f : ℕ) :
    Within 0x8 s (State.showOpen s f) := by
  unfold State.showOpen
  repeat' first
  | with_reducible apply Within.refl
  | (with_reducible apply Within.after (within_setRf _ _ _ _ _); · decide)

theorem within_openImage (s : State) (f : ℕ) (p : FormPar) (i : Instant) :
    Within 0x104 s (State.openImage s f p i) := by
  unfold State.openImage
  repeat' first
  | with_reducible apply Within.refl
  | (with_reducible apply Within.after (within_draw _ _); · decide)
  | (with_reducible apply Within.after (within_hbmWrite _ _ _); · decide)

theorem within_retimeApply (s : State) (f : ℕ) :
    Within 0x1000000008 s (State.retimeApply s f) := by
  unfold State.retimeApply
  repeat' first
  | (extract_lets +onlyGivenNames x; first
      | (refine (fun (h : Within 0x1000000008 s x) => ?_) ?_; clear_value x; rotate_left; subst x; rotate_left)
      | (refine (fun (h : Within 0x1000000008 s x.1) => ?_) ?_; clear_value x; rotate_left; subst x; rotate_left)
      | (refine (fun (h : Within 0x1000000008 s x.2) => ?_) ?_; clear_value x; rotate_left; subst x; rotate_left)
      | clear_value x
      | skip)
  | with_reducible apply Within.refl
  | (with_reducible apply Within.after (within_setRf _ _ _ _ _); · decide)
  | (with_reducible apply Within.after (within_setForm _ _ _); · decide)
  | split

theorem within_retimeAt (s : State) (f : ℕ) (sec : ℕ) :
    Within 0x1000000008 s (State.retimeAt s f sec) := by
  unfold State.retimeAt
  repeat' first
  | with_reducible apply Within.refl
  | (with_reducible apply Within.after (within_retimeApply _ _); · decide)
  | split

theorem within_completeImage (s : State) (f : ℕ) (p : FormPar) (i : Instant) (flags : ℕ) (present : List ℕ) (t : Stamp) (digest : List Byte) :
    Within 0x100 s (State.completeImage s f p i flags present t digest) := by
  unfold State.completeImage
  repeat' first
  | with_reducible apply Within.refl
  | (with_reducible apply Within.after (within_hbmWrite _ _ _); · decide)

theorem within_closeRoll (s : State) (f : ℕ) (i : Instant) (stopped : Bool) (late : Bool) :
    Within 0x108140009C7CC s (State.closeRoll s f i stopped late).2 := by
  unfold State.closeRoll
  repeat' first
  | with_reducible apply Within.refl
  | (with_reducible apply Within.after (within_setReg _ _ _); · decide)
  | (with_reducible apply Within.after (within_bump _ _); · decide)
  | (with_reducible apply Within.after (within_movesAt _ _ _); · decide)
  | (with_reducible apply Within.after (within_setForm _ _ _); · decide)
  | (with_reducible apply Within.after (within_showOpen _ _); · decide)
  | (with_reducible apply Within.after (within_ansUse _); · decide)
  | (with_reducible apply Within.after (within_openImage _ _ _ _); · decide)
  | (with_reducible apply Within.after (within_retimeAt _ _ _); · decide)
  | (with_reducible apply Within.after (within_answerRoll _ _ _ _ _ _ _); · decide)
  | (with_reducible apply Within.after (within_completeImage _ _ _ _ _ _ _ _); · decide)
  | split

theorem within_gapClose (s : State) (f : ℕ) :
    Within 0x108140009C7CC s (State.gapClose s f).2 := by
  unfold State.gapClose
  repeat' first
  | with_reducible apply Within.refl
  | with_reducible assumption
  | (with_reducible apply Within.after (within_setForm _ _ _); · decide)
  | (with_reducible apply Within.after (within_closeRoll _ _ _ _ _); · decide)
  | with_reducible apply Within.foldl_snd
  | (with_reducible intro y a h)
  | split

theorem within_seatResult (s : State) (res : ℕ) :
    Within 0x8 s (State.seatResult s res) := by
  unfold State.seatResult
  repeat' first
  | with_reducible apply Within.refl
  | (with_reducible apply Within.after (within_setRf _ _ _ _ _); · decide)
  | (with_reducible apply Within.after (within_publish _ _); · decide)
  | (with_reducible apply Within.after (within_setRb _ _ _ _); · decide)

theorem within_uninstall (s : State) (code : ℕ) :
    Within 0x1400080008 s (State.uninstall s code) := by
  unfold State.uninstall
  repeat' first
  | with_reducible apply Within.refl
  | (with_reducible apply Within.after (within_unbind _ _ _); · decide)
  | (with_reducible apply Within.after (within_setRf _ _ _ _ _); · decide)
  | (with_reducible apply Within.after (within_setSeat _ _ _); · decide)
  | (with_reducible apply Within.after (within_setSeatW _ _ _ _); · decide)
  | split

theorem within_removeFinish (s : State) :
    Within 0x1400080008 s (State.removeFinish s) := by
  unfold State.removeFinish
  repeat' first
  | (extract_lets +onlyGivenNames x; first
      | (refine (fun (h : Within 0x1400080008 s x) => ?_) ?_; clear_value x; rotate_left; subst x; rotate_left)
      | (refine (fun (h : Within 0x1400080008 s x.1) => ?_) ?_; clear_value x; rotate_left; subst x; rotate_left)
      | (refine (fun (h : Within 0x1400080008 s x.2) => ?_) ?_; clear_value x; rotate_left; subst x; rotate_left)
      | clear_value x
      | skip)
  | with_reducible apply Within.refl
  | (with_reducible apply Within.after (within_seatResult _ _); · decide)
  | (with_reducible apply Within.after (within_uninstall _ _); · decide)
  | split

theorem within_deliverRoll (s : State) (r : Roll) (present : ℕ) (members : ℕ) :
    Within 0x10D801001C7CC s (State.deliverRoll s r present members) := by
  unfold State.deliverRoll
  repeat' first
  | with_reducible apply Within.refl
  | (with_reducible apply Within.after (within_framer _ _); · decide)
  | (with_reducible apply Within.after (within_postDesc _ _ _); · decide)
  | (with_reducible apply Within.after (within_deliverLessons _ _); · decide)

theorem within_deliverClosed (s : State) (c : Closed) :
    Within 0x10D801001C7CC s (State.deliverClosed s c) := by
  unfold State.deliverClosed
  repeat' first
  | with_reducible apply Within.refl
  | (with_reducible apply Within.after (within_flagRaise _ _ _ _ _); · decide)
  | (with_reducible apply Within.after (within_deliverRoll _ _ _ _); · decide)
  | split

theorem within_gapAct (s : State) (f : ℕ) :
    Within 0x10D941009C7CC s (State.gapAct s f) := by
  unfold State.gapAct
  repeat' first
  | with_reducible apply Within.refl
  | with_reducible assumption
  | (with_reducible apply Within.after (within_deliverClosed _ _); · decide)
  | (with_reducible apply Within.after (within_gapClose _ _); · decide)
  | with_reducible apply Within.foldl
  | (with_reducible intro y a h)

theorem within_slipsOut (s : State) (f : ℕ) :
    Within 0x100001C6C8 s (State.slipsOut s f) := by
  unfold State.slipsOut
  repeat' first
  | with_reducible apply Within.refl
  | with_reducible assumption
  | (with_reducible apply Within.after (within_postRecord _ _ _ _ _); · decide)
  | (with_reducible apply Within.after (within_setForm _ _ _); · decide)
  | with_reducible apply Within.foldl
  | (with_reducible intro y a h)

theorem within_slipRecord (s : State) (kind : ℕ) (f : ℕ) (p : FormPar) (i : Instant) (m : ℕ) (code : ℕ) (rc : List Byte) :
    Within 0x100000000C s (State.slipRecord s kind f p i m code rc) := by
  unfold State.slipRecord
  repeat' first
  | with_reducible apply Within.refl
  | (with_reducible apply Within.after (within_draw _ _); · decide)
  | (with_reducible apply Within.after (within_setForm _ _ _); · decide)
  | (with_reducible apply Within.after (within_bumpWrap _ _); · decide)
  | split

theorem within_lateDrop (s : State) (f : ℕ) (p : FormPar) (i : Instant) (m : ℕ) (code : ℕ) :
    Within 0x100001C6CC s (State.lateDrop s f p i m code) := by
  unfold State.lateDrop
  repeat' first
  | with_reducible apply Within.refl
  | (with_reducible apply Within.after (within_bump _ _); · decide)
  | (with_reducible apply Within.after (within_flagRaise _ _ _ _ _); · decide)
  | (with_reducible apply Within.after (within_slipRecord _ _ _ _ _ _ _ _); · decide)
  | split

theorem within_tardyPath (s : State) (f : ℕ) (p : FormPar) (i : Instant) (m : ℕ) (code : ℕ) (rc : List Byte) :
    Within 0x108100001C7CC s (State.tardyPath s f p i m code rc) := by
  unfold State.tardyPath
  repeat' first
  | (extract_lets +onlyGivenNames x; first
      | (refine (fun (h : Within 0x108100001C7CC s x) => ?_) ?_; clear_value x; rotate_left; subst x; rotate_left)
      | (refine (fun (h : Within 0x108100001C7CC s x.1) => ?_) ?_; clear_value x; rotate_left; subst x; rotate_left)
      | (refine (fun (h : Within 0x108100001C7CC s x.2) => ?_) ?_; clear_value x; rotate_left; subst x; rotate_left)
      | clear_value x
      | skip)
  | with_reducible apply Within.refl
  | with_reducible assumption
  | (with_reducible apply Within.after (within_tardyTerms _ _ _ _ _); · decide)
  | (with_reducible apply Within.after (within_bump _ _); · decide)
  | (with_reducible apply Within.after (within_flagRaise _ _ _ _ _); · decide)
  | (with_reducible apply Within.after (within_hbmWrite _ _ _); · decide)
  | (with_reducible apply Within.after (within_lateDrop _ _ _ _ _ _); · decide)
  | (with_reducible apply Within.after (within_slipRecord _ _ _ _ _ _ _ _); · decide)
  | split

theorem within_openRoll (s : State) (f : ℕ) (p : FormPar) (i : Instant) :
    Within 0x100000010C s (State.openRoll s f p i) := by
  unfold State.openRoll
  repeat' first
  | with_reducible apply Within.refl
  | (with_reducible apply Within.after (within_setForm _ _ _); · decide)
  | (with_reducible apply Within.after (within_showOpen _ _); · decide)
  | (with_reducible apply Within.after (within_openImage _ _ _ _); · decide)

theorem within_markPresent (s : State) (p : FormPar) (i : Instant) (m : ℕ) :
    Within 0x100 s (State.markPresent s p i m) := by
  unfold State.markPresent
  repeat' first
  | with_reducible apply Within.refl
  | (with_reducible apply Within.after (within_hbmWrite _ _ _); · decide)

theorem within_fileInto (s : State) (f : ℕ) (p : FormPar) (i : Instant) (m : ℕ) (rc : List Byte) :
    Within 0x1000000108 s (State.fileInto s f p i m rc) := by
  unfold State.fileInto
  repeat' first
  | with_reducible apply Within.refl
  | (with_reducible apply Within.after (within_markPresent _ _ _ _); · decide)
  | (with_reducible apply Within.after (within_bump _ _); · decide)
  | (with_reducible apply Within.after (within_hbmWrite _ _ _); · decide)
  | (with_reducible apply Within.after (within_setForm _ _ _); · decide)

theorem within_fileFrame (s : State) (f : ℕ) (m : ℕ) (code : ℕ) (sec : ℕ) (ns : ℕ) (rc : List Byte) :
    Within 0x108100001C7CC s (State.fileFrame s f m code sec ns rc) := by
  unfold State.fileFrame
  repeat' first
  | (extract_lets +onlyGivenNames x; first
      | (refine (fun (h : Within 0x108100001C7CC s x) => ?_) ?_; clear_value x; rotate_left; subst x; rotate_left)
      | (refine (fun (h : Within 0x108100001C7CC s x.1) => ?_) ?_; clear_value x; rotate_left; subst x; rotate_left)
      | (refine (fun (h : Within 0x108100001C7CC s x.2) => ?_) ?_; clear_value x; rotate_left; subst x; rotate_left)
      | clear_value x
      | skip)
  | with_reducible apply Within.refl
  | with_reducible assumption
  | (with_reducible apply Within.after (within_bump _ _); · decide)
  | (with_reducible apply Within.after (within_flagRaise _ _ _ _ _); · decide)
  | (with_reducible apply Within.after (within_tardyPath _ _ _ _ _ _ _); · decide)
  | (with_reducible apply Within.after (within_retimeAt _ _ _); · decide)
  | (with_reducible apply Within.after (within_openRoll _ _ _ _); · decide)
  | (with_reducible apply Within.after (within_fileInto _ _ _ _ _ _); · decide)
  | split

theorem within_fileIn (s : State) (atBell : Bool) (f : ℕ) (m : ℕ) (g : Seated) :
    Within 0x10D941009C7CC s (State.fileIn s atBell f m g) := by
  unfold State.fileIn
  repeat' first
  | with_reducible apply Within.refl
  | (with_reducible apply Within.after (within_gapAct _ _); · decide)
  | (with_reducible apply Within.after (within_slipsOut _ _); · decide)
  | (with_reducible apply Within.after (within_fileFrame _ _ _ _ _ _ _); · decide)
  | split

theorem within_fileGrant (s : State) (atBell : Bool) (g : Seated) :
    Within 0x10D941009C7CC s (State.fileGrant s atBell g) := by
  unfold State.fileGrant
  repeat' first
  | with_reducible apply Within.refl
  | (with_reducible apply Within.after (within_fileIn _ _ _ _ _); · decide)
  | (with_reducible apply Within.after (within_moveApply _ _); · decide)
  | split

theorem within_rclResult (s : State) (res : ℕ) (sec : ℕ) :
    Within 0x8 s (State.rclResult s res sec) := by
  unfold State.rclResult
  repeat' first
  | with_reducible apply Within.refl
  | (with_reducible apply Within.after (within_setReg _ _ _); · decide)
  | (with_reducible apply Within.after (within_setRf _ _ _ _ _); · decide)
  | (with_reducible apply Within.after (within_publish _ _); · decide)
  | (with_reducible apply Within.after (within_setRb _ _ _ _); · decide)

theorem within_seatMove (s : State) (b : ℕ) (code : ℕ) :
    Within 0x1400000008 s (State.seatMove s b code) := by
  unfold State.seatMove
  repeat' first
  | (extract_lets +onlyGivenNames x; first
      | (refine (fun (h : Within 0x1400000008 s x) => ?_) ?_; clear_value x; rotate_left; subst x; rotate_left)
      | (refine (fun (h : Within 0x1400000008 s x.1) => ?_) ?_; clear_value x; rotate_left; subst x; rotate_left)
      | (refine (fun (h : Within 0x1400000008 s x.2) => ?_) ?_; clear_value x; rotate_left; subst x; rotate_left)
      | clear_value x
      | skip)
  | with_reducible apply Within.refl
  | (with_reducible apply Within.after (within_setSeat _ _ _); · decide)
  | (with_reducible apply Within.after (within_bind _ _ _ _); · decide)
  | (with_reducible apply Within.after (within_rclResult _ _ _); · decide)
  | split

theorem within_formRetime (s : State) (f : ℕ) :
    Within 0x1000000008 s (State.formRetime s f) := by
  unfold State.formRetime
  repeat' first
  | (extract_lets +onlyGivenNames x; first
      | (refine (fun (h : Within 0x1000000008 s x) => ?_) ?_; clear_value x; rotate_left; subst x; rotate_left)
      | (refine (fun (h : Within 0x1000000008 s x.1) => ?_) ?_; clear_value x; rotate_left; subst x; rotate_left)
      | (refine (fun (h : Within 0x1000000008 s x.2) => ?_) ?_; clear_value x; rotate_left; subst x; rotate_left)
      | clear_value x
      | skip)
  | with_reducible apply Within.refl
  | (with_reducible apply Within.after (within_setRf _ _ _ _ _); · decide)
  | (with_reducible apply Within.after (within_setForm _ _ _); · decide)
  | (with_reducible apply Within.after (within_rclResult _ _ _); · decide)
  | split

theorem within_clearLedger (s : State) (p : FormPar) :
    Within 0x100 s (State.clearLedger s p) := by
  unfold State.clearLedger
  repeat' first
  | with_reducible apply Within.refl
  | with_reducible assumption
  | (with_reducible apply Within.after (within_hbmWrite _ _ _); · decide)
  | with_reducible apply Within.foldl
  | (with_reducible intro y a h)

theorem within_formStart (s : State) (f : ℕ) :
    Within 0x1000000108 s (State.formStart s f) := by
  unfold State.formStart
  repeat' first
  | (extract_lets +onlyGivenNames x; first
      | (refine (fun (h : Within 0x1000000108 s x) => ?_) ?_; clear_value x; rotate_left; subst x; rotate_left)
      | (refine (fun (h : Within 0x1000000108 s x.1) => ?_) ?_; clear_value x; rotate_left; subst x; rotate_left)
      | (refine (fun (h : Within 0x1000000108 s x.2) => ?_) ?_; clear_value x; rotate_left; subst x; rotate_left)
      | clear_value x
      | skip)
  | with_reducible apply Within.refl
  | with_reducible assumption
  | (with_reducible apply Within.after (within_clearLedger _ _); · decide)
  | (with_reducible apply Within.after (within_setRf _ _ _ _ _); · decide)
  | (with_reducible apply Within.after (within_setForm _ _ _); · decide)
  | (with_reducible apply Within.after (within_rclResult _ _ _); · decide)
  | split

theorem within_releaseRoll (s : State) (f : ℕ) (i : Instant) (stopped : Bool) (late : Bool) :
    Within 0x10D941009C7CC s (State.releaseRoll s f i stopped late) := by
  unfold State.releaseRoll
  repeat' first
  | with_reducible apply Within.refl
  | (with_reducible apply Within.after (within_deliverClosed _ _); · decide)
  | (with_reducible apply Within.after (within_closeRoll _ _ _ _ _); · decide)

theorem within_releaseWhile (f : ℕ) (stopped : Bool) (due : State → Form → Bool) (x3 : ℕ) (s : State) :
    Within 0x10D941009C7CC s (releaseWhile f stopped due x3 s) := by
  induction x3 generalizing s with
  | zero =>
    unfold releaseWhile
    first | exact Within.refl _ | exact (Within.refl _).mono (by decide) | (split <;> exact Within.refl _)
  | succ n ih =>
    unfold releaseWhile
    repeat' first
    | (extract_lets +onlyGivenNames x; first
        | (refine (fun (h : Within 0xD141009C7CC s x) => ?_) ?_; clear_value x; rotate_left; subst x; rotate_left)
        | (refine (fun (h : Within 0xD141009C7CC s x.1) => ?_) ?_; clear_value x; rotate_left; subst x; rotate_left)
        | (refine (fun (h : Within 0xD141009C7CC s x.2) => ?_) ?_; clear_value x; rotate_left; subst x; rotate_left)
        | clear_value x
        | skip)
    | with_reducible apply Within.refl
    | (with_reducible apply Within.after (within_releaseRoll _ _ _ _ _); · decide)
    | (with_reducible apply Within.after (ih _); · decide)
    | split

theorem within_stopForm (s : State) (f : ℕ) :
    Within 0x10D941009C7CC s (State.stopForm s f) := by
  unfold State.stopForm
  repeat' first
  | with_reducible apply Within.refl
  | with_reducible assumption
  | (with_reducible apply Within.after (within_clearLedger _ _); · decide)
  | (with_reducible apply Within.after (within_gapAct _ _); · decide)
  | (with_reducible apply Within.after (within_setRf _ _ _ _ _); · decide)
  | (with_reducible apply Within.after (within_setForm _ _ _); · decide)
  | (with_reducible apply Within.after (within_releaseWhile _ _ _ _ _); · decide)
  | (with_reducible apply Within.after (within_releaseRoll _ _ _ _ _); · decide)
  | with_reducible apply Within.foldl
  | (with_reducible intro y a h)

theorem within_formStop (s : State) (f : ℕ) :
    Within 0x10D941009C7CC s (State.formStop s f) := by
  unfold State.formStop
  repeat' first
  | with_reducible apply Within.refl
  | (with_reducible apply Within.after (within_rclResult _ _ _); · decide)
  | (with_reducible apply Within.after (within_stopForm _ _); · decide)
  | split

theorem within_rclCommand (s : State) :
    Within 0x10D941009C7CC s (State.rclCommand s) := by
  unfold State.rclCommand
  repeat' first
  | (extract_lets +onlyGivenNames x; first
      | (refine (fun (h : Within 0x10D941009C7CC s x) => ?_) ?_; clear_value x; rotate_left; subst x; rotate_left)
      | (refine (fun (h : Within 0x10D941009C7CC s x.1) => ?_) ?_; clear_value x; rotate_left; subst x; rotate_left)
      | (refine (fun (h : Within 0x10D941009C7CC s x.2) => ?_) ?_; clear_value x; rotate_left; subst x; rotate_left)
      | clear_value x
      | skip)
  | with_reducible apply Within.refl
  | with_reducible assumption
  | (with_reducible apply Within.after (within_seatMove _ _ _); · decide)
  | (with_reducible apply Within.after (within_formRetime _ _); · decide)
  | (with_reducible apply Within.after (within_formStart _ _); · decide)
  | (with_reducible apply Within.after (within_formStop _ _); · decide)
  | (with_reducible apply Within.after (within_unready _ _); · decide)
  | split

theorem within_rclEnabled (s : State) :
    Within 0x1000000000 s (State.rclEnabled s) := by
  unfold State.rclEnabled
  repeat' first
  | with_reducible apply Within.refl
  | with_reducible assumption
  | (with_reducible apply Within.after (within_setForm _ _ _); · decide)
  | with_reducible apply Within.foldl
  | (with_reducible intro y a h)
  | split

theorem within_rclHook (s : State) (off : ℕ) (old : Word) :
    Within 0x10D941009C7CC s (State.rclHook s off old) := by
  unfold State.rclHook
  repeat' first
  | (extract_lets +onlyGivenNames x; first
      | (refine (fun (h : Within 0xD141009C7CC s x) => ?_) ?_; clear_value x; rotate_left; subst x; rotate_left)
      | (refine (fun (h : Within 0xD141009C7CC s x.1) => ?_) ?_; clear_value x; rotate_left; subst x; rotate_left)
      | (refine (fun (h : Within 0xD141009C7CC s x.2) => ?_) ?_; clear_value x; rotate_left; subst x; rotate_left)
      | clear_value x
      | skip)
  | with_reducible apply Within.refl
  | (with_reducible apply Within.after (within_rclCommand _); · decide)
  | (with_reducible apply Within.after (within_rclEnabled _); · decide)
  | split

theorem within_frameFile (s : State) :
    Within 0x10D9C1009C7CC s (State.frameFile s) := by
  unfold State.frameFile
  repeat' first
  | with_reducible apply Within.refl
  | (with_reducible apply Within.after (within_bump _ _); · decide)
  | (with_reducible apply Within.after (within_removeFinish _); · decide)
  | (with_reducible apply Within.after (within_fileGrant _ _ _); · decide)
  | split
  | (with_reducible apply Within.upd
     any_goals (fail_if_success (with_reducible exact fun _ => rfl); exact fun b => absurd b (by decide))
     all_goals first | exact fun _ => rfl | exact fun b => absurd b (by decide) | with_reducible exact Nat.le_refl _ | with_reducible exact List.suffix_refl _ | exact id | skip)

theorem within_itkCount (s : State) (j : ℕ) :
    Within 0x8 s (State.itkCount s j) := by
  unfold State.itkCount
  repeat' first
  | with_reducible apply Within.refl
  | (with_reducible apply Within.after (within_bump _ _); · decide)

theorem within_itkRing (s : State) (r : ℕ) (x : Source) (cause : ℕ) :
    Within 0x1C6C8 s (State.itkRing s r x cause) := by
  unfold State.itkRing
  repeat' first
  | with_reducible apply Within.refl
  | (with_reducible apply Within.after (within_postFrame _ _ _ _); · decide)

theorem within_handedOn (s : State) (x : Source) :
    Within 0x8 s (State.handedOn s x) := by
  unfold State.handedOn
  repeat' first
  | with_reducible apply Within.refl
  | (with_reducible apply Within.after (within_bump _ _); · decide)
  | split

theorem within_noSeat (s : State) (x : Source) :
    Within 0x400001C6C8 s (State.noSeat s x) := by
  unfold State.noSeat
  repeat' first
  | (extract_lets +onlyGivenNames x; first
      | (refine (fun (h : Within 0x400001C6C8 s x) => ?_) ?_; clear_value x; rotate_left; subst x; rotate_left)
      | (refine (fun (h : Within 0x400001C6C8 s x.1) => ?_) ?_; clear_value x; rotate_left; subst x; rotate_left)
      | (refine (fun (h : Within 0x400001C6C8 s x.2) => ?_) ?_; clear_value x; rotate_left; subst x; rotate_left)
      | clear_value x
      | skip)
  | with_reducible apply Within.refl
  | (with_reducible apply Within.after (within_itkCount _ _); · decide)
  | (with_reducible apply Within.after (within_bump _ _); · decide)
  | (with_reducible apply Within.after (within_flagRaise _ _ _ _ _); · decide)
  | (with_reducible apply Within.after (within_itkRing _ _ _ _); · decide)
  | (with_reducible apply Within.after (within_fjlSend _ _ _ _ _); · decide)
  | (with_reducible apply Within.after (within_handedOn _ _); · decide)
  | split

theorem within_unseated (s : State) (x : Source) (cause : ℕ) :
    Within 0x400001C6C8 s (State.unseated s x cause) := by
  unfold State.unseated
  repeat' first
  | with_reducible apply Within.refl
  | (with_reducible apply Within.after (within_itkCount _ _); · decide)
  | (with_reducible apply Within.after (within_itkRing _ _ _ _); · decide)
  | (with_reducible apply Within.after (within_noSeat _ _); · decide)
  | (with_reducible apply Within.after (within_handedOn _ _); · decide)
  | split

theorem within_shareFrame (s : State) (n : ℕ) (sec : ℕ) (ns : ℕ) (rc : List Byte) :
    Within 0x4000000088 s (State.shareFrame s n sec ns rc) := by
  unfold State.shareFrame
  repeat' first
  | with_reducible apply Within.refl
  | with_reducible assumption
  | (with_reducible apply Within.after (within_fjlSend _ _ _ _ _); · decide)
  | with_reducible apply Within.foldl
  | (with_reducible intro y a h)
  | split

theorem within_seatBlock (s : State) (n : ℕ) (sec : ℕ) (ns : ℕ) (rc : List Byte) (stamp : Stamp) :
    Within 0x4C0009C6C8 s (State.seatBlock s n sec ns rc stamp) := by
  unfold State.seatBlock
  repeat' first
  | with_reducible apply Within.refl
  | (with_reducible apply Within.after (within_itkCount _ _); · decide)
  | (with_reducible apply Within.after (within_seatFrame _ _ _); · decide)
  | (with_reducible apply Within.after (within_shareFrame _ _ _ _ _); · decide)

theorem within_asduFrame (s : State) (x : Source) (auth : Bool) (a : Asdu) :
    Within 0x4C0009C6C8 s (State.asduFrame s x auth a) := by
  unfold State.asduFrame
  repeat' first
  | with_reducible apply Within.refl
  | (with_reducible apply Within.after (within_unseated _ _ _); · decide)
  | (with_reducible apply Within.after (within_seatBlock _ _ _ _ _ _); · decide)
  | split

theorem within_authFail (s : State) (x : Source) (reason : ℕ) (keyId : ℕ) (seats : List ℕ) :
    Within 0x9C6C8 s (State.authFail s x reason keyId seats) := by
  unfold State.authFail
  repeat' first
  | with_reducible apply Within.refl
  | with_reducible assumption
  | (with_reducible apply Within.after (within_itkCount _ _); · decide)
  | (with_reducible apply Within.after (within_setReg _ _ _); · decide)
  | (with_reducible apply Within.after (within_flagRaise _ _ _ _ _); · decide)
  | (with_reducible apply Within.after (within_setSeatW _ _ _ _); · decide)
  | with_reducible apply Within.foldl
  | (with_reducible intro y a h)

theorem within_setTcpConn (s : State) (c : ℕ) (x : TcpConn) :
    Within 0x2000000000 s (State.setTcpConn s c x) := by
  unfold State.setTcpConn
  repeat' first
  | with_reducible apply Within.refl
  | (with_reducible apply Within.upd
     any_goals (fail_if_success (with_reducible exact fun _ => rfl); exact fun b => absurd b (by decide))
     all_goals first | exact fun _ => rfl | exact fun b => absurd b (by decide) | with_reducible exact Nat.le_refl _ | with_reducible exact List.suffix_refl _ | exact id | skip)

theorem within_setTcpState (s : State) (c : ℕ) (v : ℕ) :
    Within 0x8 s (State.setTcpState s c v) := by
  unfold State.setTcpState
  repeat' first
  | with_reducible apply Within.refl
  | (with_reducible apply Within.after (within_setRf _ _ _ _ _); · decide)

theorem within_seatRemove (s : State) :
    Within 0x1400080008 s (State.seatRemove s) := by
  unfold State.seatRemove
  repeat' first
  | with_reducible apply Within.refl
  | (with_reducible apply Within.after (within_seatResult _ _); · decide)
  | (with_reducible apply Within.after (within_removeFinish _); · decide)
  | split

theorem within_seatAdd (s : State) :
    Within 0x1400080008 s (State.seatAdd s) := by
  unfold State.seatAdd
  repeat' first
  | (extract_lets +onlyGivenNames x; first
      | (refine (fun (h : Within 0x1400080008 s x) => ?_) ?_; clear_value x; rotate_left; subst x; rotate_left)
      | (refine (fun (h : Within 0x1400080008 s x.1) => ?_) ?_; clear_value x; rotate_left; subst x; rotate_left)
      | (refine (fun (h : Within 0x1400080008 s x.2) => ?_) ?_; clear_value x; rotate_left; subst x; rotate_left)
      | clear_value x
      | skip)
  | with_reducible apply Within.refl
  | with_reducible assumption
  | (with_reducible apply Within.after (within_setRf _ _ _ _ _); · decide)
  | (with_reducible apply Within.after (within_seatResult _ _); · decide)
  | (with_reducible apply Within.after (within_setSeat _ _ _); · decide)
  | (with_reducible apply Within.after (within_bind _ _ _ _); · decide)
  | (with_reducible apply Within.after (within_setSeatW _ _ _ _); · decide)
  | split

theorem within_seatCommand (s : State) :
    Within 0x1400080008 s (State.seatCommand s) := by
  unfold State.seatCommand
  repeat' first
  | (extract_lets +onlyGivenNames x; first
      | (refine (fun (h : Within 0x1400080008 s x) => ?_) ?_; clear_value x; rotate_left; subst x; rotate_left)
      | (refine (fun (h : Within 0x1400080008 s x.1) => ?_) ?_; clear_value x; rotate_left; subst x; rotate_left)
      | (refine (fun (h : Within 0x1400080008 s x.2) => ?_) ?_; clear_value x; rotate_left; subst x; rotate_left)
      | clear_value x
      | skip)
  | with_reducible apply Within.refl
  | with_reducible assumption
  | (with_reducible apply Within.after (within_seatRemove _); · decide)
  | (with_reducible apply Within.after (within_unready _ _); · decide)
  | (with_reducible apply Within.after (within_seatAdd _); · decide)
  | split

theorem within_itkHook (s : State) (off : ℕ) (old : Word) :
    Within 0x3400080008 s (State.itkHook s off old) := by
  unfold State.itkHook
  repeat' first
  | with_reducible apply Within.refl
  | (with_reducible apply Within.after (within_setTcpConn _ _ _); · decide)
  | (with_reducible apply Within.after (within_setTcpState _ _ _); · decide)
  | (with_reducible apply Within.after (within_seatCommand _); · decide)
  | split

theorem within_dataFrame (s : State) (x : Source) (f : List Byte) :
    Within 0x4C0009C6C8 s (State.dataFrame s x f) := by
  unfold State.dataFrame
  repeat' first
  | (extract_lets +onlyGivenNames x; first
      | (refine (fun (h : Within 0x4C0009C6C8 s x) => ?_) ?_; clear_value x; rotate_left; subst x; rotate_left)
      | (refine (fun (h : Within 0x4C0009C6C8 s x.1) => ?_) ?_; clear_value x; rotate_left; subst x; rotate_left)
      | (refine (fun (h : Within 0x4C0009C6C8 s x.2) => ?_) ?_; clear_value x; rotate_left; subst x; rotate_left)
      | clear_value x
      | skip)
  | with_reducible apply Within.refl
  | with_reducible assumption
  | (with_reducible apply Within.after (within_unseated _ _ _); · decide)
  | (with_reducible apply Within.after (within_seatBlock _ _ _ _ _ _); · decide)
  | with_reducible apply Within.foldl
  | (with_reducible intro y a h)
  | split

theorem within_c37Frame (s : State) (x : Source) (t : ℕ) (f : Option (List Byte)) :
    Within 0x4C0009C6C8 s (State.c37Frame s x t f) := by
  unfold State.c37Frame
  repeat' first
  | with_reducible apply Within.refl
  | (with_reducible apply Within.after (within_itkCount _ _); · decide)
  | (with_reducible apply Within.after (within_flagRaise _ _ _ _ _); · decide)
  | (with_reducible apply Within.after (within_itkRing _ _ _ _); · decide)
  | (with_reducible apply Within.after (within_dataFrame _ _ _); · decide)
  | split

theorem within_notTaken (s : State) (f : RxFrame) :
    Within 0x1C6C8 s (State.notTaken s f) := by
  unfold State.notTaken
  repeat' first
  | with_reducible apply Within.refl
  | (with_reducible apply Within.after (within_itkCount _ _); · decide)
  | (with_reducible apply Within.after (within_rxToRing _ _); · decide)

theorem within_tcpFrame (s : State) (x : Source) (f : List Byte) :
    Within 0x4C0009C6C8 s (State.tcpFrame s x f) := by
  unfold State.tcpFrame
  repeat' first
  | (extract_lets +onlyGivenNames x; first
      | (refine (fun (h : Within 0x4C0009C6C8 s x) => ?_) ?_; clear_value x; rotate_left; subst x; rotate_left)
      | (refine (fun (h : Within 0x4C0009C6C8 s x.1) => ?_) ?_; clear_value x; rotate_left; subst x; rotate_left)
      | (refine (fun (h : Within 0x4C0009C6C8 s x.2) => ?_) ?_; clear_value x; rotate_left; subst x; rotate_left)
      | clear_value x
      | skip)
  | with_reducible apply Within.refl
  | (with_reducible apply Within.after (within_itkCount _ _); · decide)
  | (with_reducible apply Within.after (within_c37Frame _ _ _ _); · decide)
  | split

theorem within_tcpParse (s : State) (x : Source) (c : ℕ) (x3 : ℕ) (x4 : List Byte) :
    Within 0x6C0009C6C8 s (State.tcpParse s x c x3 x4) := by
  induction x3 generalizing s x4 with
  | zero =>
    unfold State.tcpParse
    first | exact Within.refl _ | exact (within_setTcpConn _ _ _).mono (by decide) | (split <;> exact Within.refl _)
  | succ n ih =>
    unfold State.tcpParse
    repeat' first
    | with_reducible apply Within.refl
    | (with_reducible apply Within.after (within_itkCount _ _); · decide)
    | (with_reducible apply Within.after (within_setTcpConn _ _ _); · decide)
    | (with_reducible apply Within.after (within_setTcpState _ _ _); · decide)
    | (with_reducible apply Within.after (within_tcpFrame _ _ _); · decide)
    | (with_reducible apply Within.after (ih _ _); · decide)
    | split

theorem within_tcpSegment (s : State) (x : Source) (c : ℕ) (q : ℕ) (b : List Byte) :
    Within 0x6C0009C6C8 s (State.tcpSegment s x c q b) := by
  unfold State.tcpSegment
  repeat' first
  | (extract_lets +onlyGivenNames x; first
      | (refine (fun (h : Within 0x6C0009C6C8 s x) => ?_) ?_; clear_value x; rotate_left; subst x; rotate_left)
      | (refine (fun (h : Within 0x6C0009C6C8 s x.1) => ?_) ?_; clear_value x; rotate_left; subst x; rotate_left)
      | (refine (fun (h : Within 0x6C0009C6C8 s x.2) => ?_) ?_; clear_value x; rotate_left; subst x; rotate_left)
      | clear_value x
      | skip)
  | with_reducible apply Within.refl
  | with_reducible assumption
  | (with_reducible apply Within.after (within_tcpParse _ _ _ _ _); · decide)
  | (with_reducible apply Within.after (within_itkCount _ _); · decide)
  | (with_reducible apply Within.after (within_setReg _ _ _); · decide)
  | (with_reducible apply Within.after (within_setTcpConn _ _ _); · decide)
  | (with_reducible apply Within.after (within_setTcpState _ _ _); · decide)
  | split

theorem within_tcpIn (s : State) (f : RxFrame) (v : IpView) (hops : ℕ) :
    Within 0x6C0009C6C8 s (State.tcpIn s f v hops) := by
  unfold State.tcpIn
  repeat' first
  | (extract_lets +onlyGivenNames x; first
      | (refine (fun (h : Within 0x6C0009C6C8 s x) => ?_) ?_; clear_value x; rotate_left; subst x; rotate_left)
      | (refine (fun (h : Within 0x6C0009C6C8 s x.1) => ?_) ?_; clear_value x; rotate_left; subst x; rotate_left)
      | (refine (fun (h : Within 0x6C0009C6C8 s x.2) => ?_) ?_; clear_value x; rotate_left; subst x; rotate_left)
      | clear_value x
      | skip)
  | with_reducible apply Within.refl
  | (with_reducible apply Within.after (within_notTaken _ _); · decide)
  | (with_reducible apply Within.after (within_tcpSegment _ _ _ _ _); · decide)
  | (with_reducible apply Within.after (within_rxToRing _ _); · decide)
  | split

theorem within_spduFrame (s : State) (x : Source) (u : Spdu) :
    Within 0x1004C0009C6C8 s (State.spduFrame s x u) := by
  unfold State.spduFrame
  repeat' first
  | (extract_lets +onlyGivenNames x; first
      | (refine (fun (h : Within 0x1004C0009C6C8 s x) => ?_) ?_; clear_value x; rotate_left; subst x; rotate_left)
      | (refine (fun (h : Within 0x1004C0009C6C8 s x.1) => ?_) ?_; clear_value x; rotate_left; subst x; rotate_left)
      | (refine (fun (h : Within 0x1004C0009C6C8 s x.2) => ?_) ?_; clear_value x; rotate_left; subst x; rotate_left)
      | clear_value x
      | skip)
  | with_reducible apply Within.refl
  | with_reducible assumption
  | (with_reducible apply Within.after (within_authFail _ _ _ _ _); · decide)
  | (with_reducible apply Within.after (within_bumpBy _ _ _); · decide)
  | (with_reducible apply Within.after (within_asduFrame _ _ _ _); · decide)
  | (with_reducible apply Within.after (within_keyFail _ _); · decide)
  | with_reducible apply Within.foldl
  | (with_reducible intro y a h)
  | split

theorem within_udpFrame (s : State) (f : RxFrame) (ip : ℕ) (v : IpView) (hops : ℕ) :
    Within 0x1004C0009C6C8 s (State.udpFrame s f ip v hops) := by
  unfold State.udpFrame
  repeat' first
  | (extract_lets +onlyGivenNames x; first
      | (refine (fun (h : Within 0x4C0009C6C8 s x) => ?_) ?_; clear_value x; rotate_left; subst x; rotate_left)
      | (refine (fun (h : Within 0x4C0009C6C8 s x.1) => ?_) ?_; clear_value x; rotate_left; subst x; rotate_left)
      | (refine (fun (h : Within 0x4C0009C6C8 s x.2) => ?_) ?_; clear_value x; rotate_left; subst x; rotate_left)
      | clear_value x
      | skip)
  | with_reducible apply Within.refl
  | (with_reducible apply Within.after (within_itkCount _ _); · decide)
  | (with_reducible apply Within.after (within_c37Frame _ _ _ _); · decide)
  | (with_reducible apply Within.after (within_spduFrame _ _ _); · decide)
  | (with_reducible apply Within.after (within_notTaken _ _); · decide)
  | split

theorem within_examine (s : State) (f : RxFrame) (hops : ℕ) :
    Within 0x1006C0009C6C8 s (State.examine s f hops) := by
  unfold State.examine
  repeat' first
  | (extract_lets +onlyGivenNames x; first
      | (refine (fun (h : Within 0x6C0009C6C8 s x) => ?_) ?_; clear_value x; rotate_left; subst x; rotate_left)
      | (refine (fun (h : Within 0x6C0009C6C8 s x.1) => ?_) ?_; clear_value x; rotate_left; subst x; rotate_left)
      | (refine (fun (h : Within 0x6C0009C6C8 s x.2) => ?_) ?_; clear_value x; rotate_left; subst x; rotate_left)
      | clear_value x
      | skip)
  | with_reducible apply Within.refl
  | (with_reducible apply Within.after (within_itkCount _ _); · decide)
  | (with_reducible apply Within.after (within_tcpIn _ _ _ _); · decide)
  | (with_reducible apply Within.after (within_notTaken _ _); · decide)
  | (with_reducible apply Within.after (within_udpFrame _ _ _ _ _); · decide)
  | (with_reducible apply Within.after (within_rxToRing _ _); · decide)
  | split

theorem within_intakeFrame (s : State) (p : ℕ) :
    Within 0x1006C0809C6C8 s (State.intakeFrame s p) := by
  unfold State.intakeFrame
  repeat' first
  | (extract_lets +onlyGivenNames x; first
      | (refine (fun (h : Within 0x1006C0809C6C8 s x) => ?_) ?_; clear_value x; rotate_left; subst x; rotate_left)
      | (refine (fun (h : Within 0x1006C0809C6C8 s x.1) => ?_) ?_; clear_value x; rotate_left; subst x; rotate_left)
      | (refine (fun (h : Within 0x1006C0809C6C8 s x.2) => ?_) ?_; clear_value x; rotate_left; subst x; rotate_left)
      | clear_value x
      | skip)
  | with_reducible apply Within.refl
  | with_reducible assumption
  | (with_reducible apply Within.after (within_setRx _ _ _); · decide)
  | (with_reducible apply Within.after (within_examine _ _ _); · decide)
  | (with_reducible apply Within.after (within_rxToRing _ _); · decide)
  | split

theorem within_streamSilent (s : State) (code : ℕ) :
    Within 0x9C6C8 s (State.streamSilent s code) := by
  unfold State.streamSilent
  repeat' first
  | (extract_lets +onlyGivenNames x; first
      | (refine (fun (h : Within 0x9C6C8 s x) => ?_) ?_; clear_value x; rotate_left; subst x; rotate_left)
      | (refine (fun (h : Within 0x9C6C8 s x.1) => ?_) ?_; clear_value x; rotate_left; subst x; rotate_left)
      | (refine (fun (h : Within 0x9C6C8 s x.2) => ?_) ?_; clear_value x; rotate_left; subst x; rotate_left)
      | clear_value x
      | skip)
  | with_reducible apply Within.refl
  | with_reducible assumption
  | (with_reducible apply Within.after (within_setRf _ _ _ _ _); · decide)
  | (with_reducible apply Within.after (within_flagRaise _ _ _ _ _); · decide)
  | (with_reducible apply Within.after (within_setSeatW _ _ _ _); · decide)
  | split

theorem within_setLinkState (s : State) (k : ℕ) (st : ℕ) :
    Within 0x8 s (State.setLinkState s k st) := by
  unfold State.setLinkState
  repeat' first
  | with_reducible apply Within.refl
  | (with_reducible apply Within.after (within_setRf _ _ _ _ _); · decide)
  | (with_reducible apply Within.after (within_setRb _ _ _ _); · decide)

theorem within_linkTrain (s : State) (k : ℕ) :
    Within 0x8 s (State.linkTrain s k) := by
  unfold State.linkTrain
  repeat' first
  | with_reducible apply Within.refl
  | (with_reducible apply Within.after (within_setRf _ _ _ _ _); · decide)
  | (with_reducible apply Within.after (within_setLinkState _ _ _); · decide)

theorem within_linkEnable (s : State) (k : ℕ) :
    Within 0x8 s (State.linkEnable s k) := by
  unfold State.linkEnable
  repeat' first
  | with_reducible apply Within.refl
  | (with_reducible apply Within.after (within_linkTrain _ _); · decide)
  | split

theorem within_sharedClear (s : State) (q : ℕ) :
    Within 0x20000000000 s (State.sharedClear s q) := by
  unfold State.sharedClear
  repeat' first
  | with_reducible apply Within.refl
  | (with_reducible apply Within.upd
     any_goals (fail_if_success (with_reducible exact fun _ => rfl); exact fun b => absurd b (by decide))
     all_goals first | exact fun _ => rfl | exact fun b => absurd b (by decide) | with_reducible exact Nat.le_refl _ | with_reducible exact List.suffix_refl _ | exact id | skip)

theorem within_linkDown (s : State) (k : ℕ) (off : Bool) :
    Within 0x2400001C6C8 s (State.linkDown s k off) := by
  unfold State.linkDown
  repeat' first
  | with_reducible apply Within.refl
  | (with_reducible apply Within.after (within_setRf _ _ _ _ _); · decide)
  | (with_reducible apply Within.after (within_bump _ _); · decide)
  | (with_reducible apply Within.after (within_flagRaise _ _ _ _ _); · decide)
  | (with_reducible apply Within.after (within_bumpBy _ _ _); · decide)
  | (with_reducible apply Within.after (within_showDecisions _); · decide)
  | (with_reducible apply Within.after (within_linkTrain _ _); · decide)
  | (with_reducible apply Within.after (within_sharedClear _ _); · decide)
  | (with_reducible apply Within.after (within_setLink _ _ _); · decide)
  | (with_reducible apply Within.after (within_setLinkState _ _ _); · decide)
  | split

theorem within_linkDisable (s : State) (k : ℕ) :
    Within 0x2400001C6C8 s (State.linkDisable s k) := by
  unfold State.linkDisable
  repeat' first
  | with_reducible apply Within.refl
  | (with_reducible apply Within.after (within_setRf _ _ _ _ _); · decide)
  | (with_reducible apply Within.after (within_linkDown _ _ _); · decide)
  | (with_reducible apply Within.after (within_setLink _ _ _); · decide)
  | (with_reducible apply Within.after (within_setLinkState _ _ _); · decide)
  | split

theorem within_fjlHook (s : State) (off : ℕ) (old : Word) :
    Within 0x2400001C6C8 s (State.fjlHook s off old) := by
  unfold State.fjlHook
  repeat' first
  | with_reducible apply Within.refl
  | (with_reducible apply Within.after (within_linkEnable _ _); · decide)
  | (with_reducible apply Within.after (within_showDecisions _); · decide)
  | (with_reducible apply Within.after (within_linkDisable _ _); · decide)
  | split

theorem within_linkErr (s : State) (k : ℕ) (code : ℕ) :
    Within 0x8 s (State.linkErr s k code) := by
  unfold State.linkErr
  repeat' first
  | with_reducible apply Within.refl
  | (with_reducible apply Within.after (within_setRf _ _ _ _ _); · decide)

theorem within_checkTimeout (s : State) (k : ℕ) :
    Within 0x1C6C8 s (State.checkTimeout s k) := by
  unfold State.checkTimeout
  repeat' first
  | with_reducible apply Within.refl
  | (with_reducible apply Within.after (within_flagRaise _ _ _ _ _); · decide)
  | (with_reducible apply Within.after (within_linkTrain _ _); · decide)
  | (with_reducible apply Within.after (within_linkErr _ _ _); · decide)
  | split

theorem within_decisionReceive (s : State) (q : ℕ) (p : List Byte) :
    Within 0x2400001C6C8 s (State.decisionReceive s q p) := by
  unfold State.decisionReceive
  repeat' first
  | with_reducible apply Within.refl
  | (with_reducible apply Within.after (within_bump _ _); · decide)
  | (with_reducible apply Within.after (within_showDecisions _); · decide)
  | (with_reducible apply Within.upd
     any_goals (fail_if_success (with_reducible exact fun _ => rfl); exact fun b => absurd b (by decide))
     all_goals first | exact fun _ => rfl | exact fun b => absurd b (by decide) | with_reducible exact Nat.le_refl _ | with_reducible exact List.suffix_refl _ | exact id | skip)

theorem within_handoffReceive (s : State) (hops : ℕ) (p : List Byte) :
    Within 0x1006C0009C6C8 s (State.handoffReceive s hops p) := by
  unfold State.handoffReceive
  repeat' first
  | (extract_lets +onlyGivenNames x; first
      | (refine (fun (h : Within 0x1006C0009C6C8 s x) => ?_) ?_; clear_value x; rotate_left; subst x; rotate_left)
      | (refine (fun (h : Within 0x1006C0009C6C8 s x.1) => ?_) ?_; clear_value x; rotate_left; subst x; rotate_left)
      | (refine (fun (h : Within 0x1006C0009C6C8 s x.2) => ?_) ?_; clear_value x; rotate_left; subst x; rotate_left)
      | clear_value x
      | skip)
  | with_reducible apply Within.refl
  | (with_reducible apply Within.after (within_examine _ _ _); · decide)
  | (with_reducible apply Within.after (within_rxToRing _ _); · decide)
  | (with_reducible apply Within.after (within_tcpFrame _ _ _); · decide)
  | split

theorem within_identSeen (s : State) (k : ℕ) (pos : ℕ) :
    Within 0x2400001C6C8 s (State.identSeen s k pos) := by
  unfold State.identSeen
  repeat' first
  | (extract_lets +onlyGivenNames x; first
      | (refine (fun (h : Within 0x2400001C6C8 s x) => ?_) ?_; clear_value x; rotate_left; subst x; rotate_left)
      | (refine (fun (h : Within 0x2400001C6C8 s x.1) => ?_) ?_; clear_value x; rotate_left; subst x; rotate_left)
      | (refine (fun (h : Within 0x2400001C6C8 s x.2) => ?_) ?_; clear_value x; rotate_left; subst x; rotate_left)
      | clear_value x
      | skip)
  | with_reducible apply Within.refl
  | with_reducible assumption
  | (with_reducible apply Within.after (within_setRf _ _ _ _ _); · decide)
  | (with_reducible apply Within.after (within_flagRaise _ _ _ _ _); · decide)
  | (with_reducible apply Within.after (within_showDecisions _); · decide)
  | (with_reducible apply Within.after (within_linkTrain _ _); · decide)
  | (with_reducible apply Within.after (within_setLink _ _ _); · decide)
  | (with_reducible apply Within.after (within_setLinkState _ _ _); · decide)
  | (with_reducible apply Within.after (within_linkErr _ _ _); · decide)
  | split

theorem within_identReceive (s : State) (k : ℕ) (pos : ℕ) :
    Within 0x2400001C6C8 s (State.identReceive s k pos) := by
  unfold State.identReceive
  repeat' first
  | with_reducible apply Within.refl
  | (with_reducible apply Within.after (within_bump _ _); · decide)
  | (with_reducible apply Within.after (within_identSeen _ _ _); · decide)
  | split

theorem within_laneLost (s : State) (k : ℕ) (n : ℕ) :
    Within 0x2400001C6C8 s (State.laneLost s k n) := by
  unfold State.laneLost
  repeat' first
  | with_reducible apply Within.refl
  | (with_reducible apply Within.after (within_linkDown _ _ _); · decide)
  | (with_reducible apply Within.after (within_setRb _ _ _ _); · decide)
  | split

theorem within_lanesAligned (s : State) (k : ℕ) :
    Within 0x4000000088 s (State.lanesAligned s k) := by
  unfold State.lanesAligned
  repeat' first
  | with_reducible apply Within.refl
  | (with_reducible apply Within.after (within_setRf _ _ _ _ _); · decide)
  | (with_reducible apply Within.after (within_sendControl _ _ _ _); · decide)
  | (with_reducible apply Within.after (within_setLink _ _ _); · decide)
  | (with_reducible apply Within.after (within_setLinkState _ _ _); · decide)
  | split

theorem within_shareReceive (s : State) (p : List Byte) :
    Within 0xC0009C6C8 s (State.shareReceive s p) := by
  unfold State.shareReceive
  repeat' first
  | (extract_lets +onlyGivenNames x; first
      | (refine (fun (h : Within 0xC0009C6C8 s x) => ?_) ?_; clear_value x; rotate_left; subst x; rotate_left)
      | (refine (fun (h : Within 0xC0009C6C8 s x.1) => ?_) ?_; clear_value x; rotate_left; subst x; rotate_left)
      | (refine (fun (h : Within 0xC0009C6C8 s x.2) => ?_) ?_; clear_value x; rotate_left; subst x; rotate_left)
      | clear_value x
      | skip)
  | with_reducible apply Within.refl
  | (with_reducible apply Within.after (within_bump _ _); · decide)
  | (with_reducible apply Within.after (within_seatFrame _ _ _); · decide)
  | split

theorem within_packetPass (s : State) (k : ℕ) (a : Arrived) :
    Within 0x10A6C0009C6C8 s (State.packetPass s k a) := by
  unfold State.packetPass
  repeat' first
  | with_reducible apply Within.refl
  | (with_reducible apply Within.after (within_decisionReceive _ _ _); · decide)
  | (with_reducible apply Within.after (within_answerReceive _ _); · decide)
  | (with_reducible apply Within.after (within_shareReceive _ _); · decide)
  | (with_reducible apply Within.after (within_handoffReceive _ _ _); · decide)
  | split

theorem within_takeAck (s : State) (k : ℕ) (a : Arrived) :
    Within 0x4000000000 s (State.takeAck s k a) := by
  unfold State.takeAck
  repeat' first
  | with_reducible apply Within.refl
  | (with_reducible apply Within.after (within_setLink _ _ _); · decide)

theorem within_resendAll (s : State) (k : ℕ) :
    Within 0x2400001C6C8 s (State.resendAll s k) := by
  unfold State.resendAll
  repeat' first
  | (extract_lets +onlyGivenNames x; first
      | (refine (fun (h : Within 0x2400001C6C8 s x) => ?_) ?_; clear_value x; rotate_left; subst x; rotate_left)
      | (refine (fun (h : Within 0x2400001C6C8 s x.1) => ?_) ?_; clear_value x; rotate_left; subst x; rotate_left)
      | (refine (fun (h : Within 0x2400001C6C8 s x.2) => ?_) ?_; clear_value x; rotate_left; subst x; rotate_left)
      | clear_value x
      | skip)
  | with_reducible apply Within.refl
  | with_reducible assumption
  | (with_reducible apply Within.after (within_linkDown _ _ _); · decide)
  | (with_reducible apply Within.after (within_bumpBy _ _ _); · decide)
  | (with_reducible apply Within.after (within_setLink _ _ _); · decide)
  | (with_reducible apply Within.after (within_putPacket _ _ _ _); · decide)
  | (with_reducible apply Within.after (within_linkErr _ _ _); · decide)
  | with_reducible apply Within.foldl
  | (with_reducible intro y a h)
  | split

theorem within_packetUp (s : State) (k : ℕ) (a : Arrived) :
    Within 0x10A6C0009C6C8 s (State.packetUp s k a) := by
  unfold State.packetUp
  repeat' first
  | (extract_lets +onlyGivenNames x; first
      | (refine (fun (h : Within 0x10A6C0009C6C8 s x) => ?_) ?_; clear_value x; rotate_left; subst x; rotate_left)
      | (refine (fun (h : Within 0x10A6C0009C6C8 s x.1) => ?_) ?_; clear_value x; rotate_left; subst x; rotate_left)
      | (refine (fun (h : Within 0x10A6C0009C6C8 s x.2) => ?_) ?_; clear_value x; rotate_left; subst x; rotate_left)
      | clear_value x
      | skip)
  | with_reducible apply Within.refl
  | with_reducible assumption
  | (with_reducible apply Within.after (within_takeAck _ _ _); · decide)
  | (with_reducible apply Within.after (within_sendControl _ _ _ _); · decide)
  | (with_reducible apply Within.after (within_packetPass _ _ _); · decide)
  | (with_reducible apply Within.after (within_drainLink _ _ _); · decide)
  | (with_reducible apply Within.after (within_setLink _ _ _); · decide)
  | (with_reducible apply Within.after (within_resendAll _ _); · decide)
  | split

theorem within_packetReceive (s : State) (k : ℕ) (bs : List Byte) :
    Within 0x10A6C0009C6C8 s (State.packetReceive s k bs) := by
  unfold State.packetReceive
  repeat' first
  | (extract_lets +onlyGivenNames x; first
      | (refine (fun (h : Within 0x10A6C0009C6C8 s x) => ?_) ?_; clear_value x; rotate_left; subst x; rotate_left)
      | (refine (fun (h : Within 0x10A6C0009C6C8 s x.1) => ?_) ?_; clear_value x; rotate_left; subst x; rotate_left)
      | (refine (fun (h : Within 0x10A6C0009C6C8 s x.2) => ?_) ?_; clear_value x; rotate_left; subst x; rotate_left)
      | clear_value x
      | skip)
  | with_reducible apply Within.refl
  | with_reducible assumption
  | (with_reducible apply Within.after (within_bump _ _); · decide)
  | (with_reducible apply Within.after (within_sendControl _ _ _ _); · decide)
  | (with_reducible apply Within.after (within_packetUp _ _ _); · decide)
  | (with_reducible apply Within.after (within_identSeen _ _ _); · decide)
  | split

theorem within_resendTimeout (s : State) (k : ℕ) :
    Within 0x2400001C6C8 s (State.resendTimeout s k) := by
  unfold State.resendTimeout
  repeat' first
  | (extract_lets +onlyGivenNames x; first
      | (refine (fun (h : Within 0x2400001C6C8 s x) => ?_) ?_; clear_value x; rotate_left; subst x; rotate_left)
      | (refine (fun (h : Within 0x2400001C6C8 s x.1) => ?_) ?_; clear_value x; rotate_left; subst x; rotate_left)
      | (refine (fun (h : Within 0x2400001C6C8 s x.2) => ?_) ?_; clear_value x; rotate_left; subst x; rotate_left)
      | clear_value x
      | skip)
  | with_reducible apply Within.refl
  | (with_reducible apply Within.after (within_resendAll _ _); · decide)
  | split

theorem within_setHp (s : State) (st : ℕ) (drives : Bool) :
    Within 0x12000001C6C8 s (State.setHp s st drives) := by
  unfold State.setHp
  repeat' first
  | with_reducible apply Within.refl
  | (with_reducible apply Within.after (within_setRf _ _ _ _ _); · decide)
  | (with_reducible apply Within.after (within_pinsFollow _); · decide)
  | (with_reducible apply Within.after (within_setRb _ _ _ _); · decide)
  | (with_reducible apply Within.upd
     any_goals (fail_if_success (with_reducible exact fun _ => rfl); exact fun b => absurd b (by decide))
     all_goals first | exact fun _ => rfl | exact fun b => absurd b (by decide) | with_reducible exact Nat.le_refl _ | with_reducible exact List.suffix_refl _ | exact id | skip)

theorem within_hpIdle (s : State) :
    Within 0x12000001C6C8 s (State.hpIdle s) := by
  unfold State.hpIdle
  repeat' first
  | (extract_lets +onlyGivenNames x; first
      | (refine (fun (h : Within 0x12000001C6C8 s x) => ?_) ?_; clear_value x; rotate_left; subst x; rotate_left)
      | (refine (fun (h : Within 0x12000001C6C8 s x.1) => ?_) ?_; clear_value x; rotate_left; subst x; rotate_left)
      | (refine (fun (h : Within 0x12000001C6C8 s x.2) => ?_) ?_; clear_value x; rotate_left; subst x; rotate_left)
      | clear_value x
      | skip)
  | with_reducible apply Within.refl
  | with_reducible assumption
  | (with_reducible apply Within.after (within_flagRaise _ _ _ _ _); · decide)
  | (with_reducible apply Within.after (within_setHp _ _ _); · decide)
  | split

theorem within_hpHold (s : State) (drives : Bool) :
    Within 0x12000001C6C8 s (State.hpHold s drives) := by
  unfold State.hpHold
  repeat' first
  | with_reducible apply Within.refl
  | (with_reducible apply Within.after (within_flagRaise _ _ _ _ _); · decide)
  | (with_reducible apply Within.after (within_setHp _ _ _); · decide)

theorem within_roleChange (s : State) (old : ℕ) :
    Within 0x12000001C6C8 s (State.roleChange s old) := by
  unfold State.roleChange
  repeat' first
  | (extract_lets +onlyGivenNames x; first
      | (refine (fun (h : Within 0x12000001C6C8 s x) => ?_) ?_; clear_value x; rotate_left; subst x; rotate_left)
      | (refine (fun (h : Within 0x12000001C6C8 s x.1) => ?_) ?_; clear_value x; rotate_left; subst x; rotate_left)
      | (refine (fun (h : Within 0x12000001C6C8 s x.2) => ?_) ?_; clear_value x; rotate_left; subst x; rotate_left)
      | clear_value x
      | skip)
  | with_reducible apply Within.refl
  | with_reducible assumption
  | (with_reducible apply Within.after (within_hpIdle _); · decide)
  | (with_reducible apply Within.after (within_hpHold _ _); · decide)
  | split

theorem within_redHook (s : State) (off : ℕ) (old : Word) (v : Word) :
    Within 0x12000001C6C8 s (State.redHook s off old v) := by
  unfold State.redHook
  repeat' first
  | with_reducible apply Within.refl
  | (with_reducible apply Within.after (within_hpIdle _); · decide)
  | (with_reducible apply Within.after (within_roleChange _ _); · decide)
  | split
  | (with_reducible apply Within.upd
     any_goals (fail_if_success (with_reducible exact fun _ => rfl); exact fun b => absurd b (by decide))
     all_goals first | exact fun _ => rfl | exact fun b => absurd b (by decide) | with_reducible exact Nat.le_refl _ | with_reducible exact List.suffix_refl _ | exact id | skip)

theorem within_hallClaim (s : State) :
    Within 0x12000001C6C8 s (State.hallClaim s) := by
  unfold State.hallClaim
  repeat' first
  | with_reducible apply Within.refl
  | (with_reducible apply Within.after (within_setHp _ _ _); · decide)
  | split
  | (with_reducible apply Within.upd
     any_goals (fail_if_success (with_reducible exact fun _ => rfl); exact fun b => absurd b (by decide))
     all_goals first | exact fun _ => rfl | exact fun b => absurd b (by decide) | with_reducible exact Nat.le_refl _ | with_reducible exact List.suffix_refl _ | exact id | skip)

theorem within_hallHold (s : State) :
    Within 0x12000001C6C8 s (State.hallHold s) := by
  unfold State.hallHold
  repeat' first
  | with_reducible apply Within.refl
  | (with_reducible apply Within.after (within_hpHold _ _); · decide)
  | split

theorem within_healthFollow (s : State) :
    Within 0x12000001C6C8 s (State.healthFollow s) := by
  unfold State.healthFollow
  repeat' first
  | with_reducible apply Within.refl
  | (with_reducible apply Within.after (within_hpIdle _); · decide)
  | (with_reducible apply Within.after (within_setRb _ _ _ _); · decide)
  | split
  | (with_reducible apply Within.upd
     any_goals (fail_if_success (with_reducible exact fun _ => rfl); exact fun b => absurd b (by decide))
     all_goals first | exact fun _ => rfl | exact fun b => absurd b (by decide) | with_reducible exact Nat.le_refl _ | with_reducible exact List.suffix_refl _ | exact id | skip)

theorem within_healthChange (s : State) :
    Within 0x12000001C6C8 s (State.healthChange s) := by
  unfold State.healthChange
  repeat' first
  | with_reducible apply Within.refl
  | (with_reducible apply Within.after (within_healthFollow _); · decide)

theorem within_ilkChange (s : State) (e : IlkEdge) :
    Within 0x12000001C6C8 s (State.ilkChange s e) := by
  unfold State.ilkChange
  repeat' first
  | with_reducible apply Within.refl
  | (with_reducible apply Within.after (within_hpIdle _); · decide)
  | (with_reducible apply Within.after (within_setRb _ _ _ _); · decide)
  | split
  | (with_reducible apply Within.upd
     any_goals (fail_if_success (with_reducible exact fun _ => rfl); exact fun b => absurd b (by decide))
     all_goals first | exact fun _ => rfl | exact fun b => absurd b (by decide) | with_reducible exact Nat.le_refl _ | with_reducible exact List.suffix_refl _ | exact id | skip)

theorem within_kickExpiry (s : State) :
    Within 0x12000001C6C8 s (State.kickExpiry s) := by
  unfold State.kickExpiry
  repeat' first
  | with_reducible apply Within.refl
  | (with_reducible apply Within.after (within_healthFollow _); · decide)
  | split

theorem within_setPhs (s : State) (c : ℕ) (x : PhsCirc) :
    Within 0x400000 s (State.setPhs s c x) := by
  unfold State.setPhs
  repeat' first
  | with_reducible apply Within.refl
  | (with_reducible apply Within.upd
     any_goals (fail_if_success (with_reducible exact fun _ => rfl); exact fun b => absurd b (by decide))
     all_goals first | exact fun _ => rfl | exact fun b => absurd b (by decide) | with_reducible exact Nat.le_refl _ | with_reducible exact List.suffix_refl _ | exact id | skip)

theorem within_phsHook (s : State) (off : ℕ) (old : Word) :
    Within 0x400000 s (State.phsHook s off old) := by
  unfold State.phsHook
  repeat' first
  | with_reducible apply Within.refl
  | (with_reducible apply Within.after (within_setPhs _ _ _); · decide)
  | split

theorem within_rangeFollow (s : State) (c : ℕ) (e : Estimate) :
    Within 0x1C6C8 s (State.rangeFollow s c e) := by
  unfold State.rangeFollow
  repeat' first
  | (extract_lets +onlyGivenNames x; first
      | (refine (fun (h : Within 0x1C6C8 s x) => ?_) ?_; clear_value x; rotate_left; subst x; rotate_left)
      | (refine (fun (h : Within 0x1C6C8 s x.1) => ?_) ?_; clear_value x; rotate_left; subst x; rotate_left)
      | (refine (fun (h : Within 0x1C6C8 s x.2) => ?_) ?_; clear_value x; rotate_left; subst x; rotate_left)
      | clear_value x
      | skip)
  | with_reducible apply Within.refl
  | with_reducible assumption
  | (with_reducible apply Within.after (within_raise _ _ _); · decide)
  | (with_reducible apply Within.after (within_setRb _ _ _ _); · decide)
  | split

theorem within_phsHand (s : State) (c : ℕ) (i : Instant) (e : Estimate) (phs : List (Word × Word)) :
    Within 0xC0009C6C8 s (State.phsHand s c i e phs) := by
  unfold State.phsHand
  repeat' first
  | with_reducible apply Within.refl
  | (with_reducible apply Within.after (within_setReg _ _ _); · decide)
  | (with_reducible apply Within.after (within_bump _ _); · decide)
  | (with_reducible apply Within.after (within_publish _ _); · decide)
  | (with_reducible apply Within.after (within_seatFrame _ _ _); · decide)
  | (with_reducible apply Within.after (within_bumpWrap _ _); · decide)
  | (with_reducible apply Within.after (within_setRb _ _ _ _); · decide)
  | split

theorem within_phasorEstimate (s : State) (c : ℕ) :
    Within 0xC0049C6C8 s (State.phasorEstimate s c) := by
  unfold State.phasorEstimate
  repeat' first
  | (extract_lets +onlyGivenNames x; first
      | (refine (fun (h : Within 0xC0049C6C8 s x) => ?_) ?_; clear_value x; rotate_left; subst x; rotate_left)
      | (refine (fun (h : Within 0xC0049C6C8 s x.1) => ?_) ?_; clear_value x; rotate_left; subst x; rotate_left)
      | (refine (fun (h : Within 0xC0049C6C8 s x.2) => ?_) ?_; clear_value x; rotate_left; subst x; rotate_left)
      | clear_value x
      | skip)
  | with_reducible apply Within.refl
  | with_reducible assumption
  | (with_reducible apply Within.after (within_rangeFollow _ _ _); · decide)
  | (with_reducible apply Within.after (within_setPhs _ _ _); · decide)
  | (with_reducible apply Within.after (within_trigsPhasor _ _ _ _); · decide)
  | (with_reducible apply Within.after (within_phsHand _ _ _ _ _); · decide)
  | split

theorem within_batSample (s : State) (mv : ℕ) :
    Within 0x8 s (State.batSample s mv) := by
  unfold State.batSample
  repeat' first
  | with_reducible apply Within.refl
  | (with_reducible apply Within.after (within_setRb _ _ _ _); · decide)
  | split

theorem within_rtcHook (s : State) (off : ℕ) :
    Within 0x2008 s (State.rtcHook s off) := by
  unfold State.rtcHook
  repeat' first
  | with_reducible apply Within.refl
  | (with_reducible apply Within.after (within_setRb _ _ _ _); · decide)
  | split
  | (with_reducible apply Within.upd
     any_goals (fail_if_success (with_reducible exact fun _ => rfl); exact fun b => absurd b (by decide))
     all_goals first | exact fun _ => rfl | exact fun b => absurd b (by decide) | with_reducible exact Nat.le_refl _ | with_reducible exact List.suffix_refl _ | exact id | skip)

theorem within_rtcAlarm (s : State) (before : ℕ) :
    Within 0x1E6C8 s (State.rtcAlarm s before) := by
  unfold State.rtcAlarm
  repeat' first
  | with_reducible apply Within.refl
  | (with_reducible apply Within.after (within_raise _ _ _); · decide)
  | (with_reducible apply Within.after (within_setRb _ _ _ _); · decide)
  | split
  | (with_reducible apply Within.upd
     any_goals (fail_if_success (with_reducible exact fun _ => rfl); exact fun b => absurd b (by decide))
     all_goals first | exact fun _ => rfl | exact fun b => absurd b (by decide) | with_reducible exact Nat.le_refl _ | with_reducible exact List.suffix_refl _ | exact id | skip)

theorem within_crystalTick (s : State) :
    Within 0x1E6C8 s (State.crystalTick s) := by
  unfold State.crystalTick
  repeat' first
  | with_reducible apply Within.refl
  | (with_reducible apply Within.after (within_rtcAlarm _ _); · decide)
  | (with_reducible apply Within.after (within_setRb _ _ _ _); · decide)
  | (with_reducible apply Within.upd
     any_goals (fail_if_success (with_reducible exact fun _ => rfl); exact fun b => absurd b (by decide))
     all_goals first | exact fun _ => rfl | exact fun b => absurd b (by decide) | with_reducible exact Nat.le_refl _ | with_reducible exact List.suffix_refl _ | exact id | skip)

theorem within_unstage (s : State) (lo : ℕ) :
    Within 0x20 s (State.unstage s lo) := by
  unfold State.unstage
  repeat' first
  | with_reducible apply Within.refl
  | (with_reducible apply Within.upd
     any_goals (fail_if_success (with_reducible exact fun _ => rfl); exact fun b => absurd b (by decide))
     all_goals first | exact fun _ => rfl | exact fun b => absurd b (by decide) | with_reducible exact Nat.le_refl _ | with_reducible exact List.suffix_refl _ | exact id | exact Tab.wf_put | exact Tab.wf_clear | exact Tab.wf_putList | exact fun _ => rfl | exact fun c => Tab.wf_clear (Tab.wf_clear c) | skip)

theorem within_toVbat (s : State) :
    Within 0x2028 s (State.toVbat s) := by
  unfold State.toVbat
  repeat' first
  | with_reducible apply Within.refl
  | (with_reducible apply Within.after (within_unstage _ _); · decide)
  | (with_reducible apply Within.after (within_setRb _ _ _ _); · decide)
  | split
  | (with_reducible apply Within.upd
     any_goals (fail_if_success (with_reducible exact fun _ => rfl); exact fun b => absurd b (by decide))
     all_goals first | exact fun _ => rfl | exact fun b => absurd b (by decide) | with_reducible exact Nat.le_refl _ | with_reducible exact List.suffix_refl _ | exact id | skip)

theorem within_oscStop (s : State) :
    Within 0x8 s (State.oscStop s) := by
  unfold State.oscStop
  repeat' first
  | with_reducible apply Within.refl
  | (with_reducible apply Within.after (within_setRb _ _ _ _); · decide)
  | split

theorem within_owedRtc (s : State) :
    Within 0x1E6C8 s (State.owedRtc s) := by
  unfold State.owedRtc
  repeat' first
  | with_reducible apply Within.refl
  | (with_reducible apply Within.after (within_raise _ _ _); · decide)
  | split
  | (with_reducible apply Within.upd
     any_goals (fail_if_success (with_reducible exact fun _ => rfl); exact fun b => absurd b (by decide))
     all_goals first | exact fun _ => rfl | exact fun b => absurd b (by decide) | with_reducible exact Nat.le_refl _ | with_reducible exact List.suffix_refl _ | exact id | skip)

theorem within_rtcPor (s : State) :
    Within 0x2038 s (State.rtcPor s) := by
  unfold State.rtcPor
  repeat' first
  | with_reducible apply Within.refl
  | (with_reducible apply Within.after (within_resetRegs _ _ _); · decide)
  | (with_reducible apply Within.upd
     any_goals (fail_if_success (with_reducible exact fun _ => rfl); exact fun b => absurd b (by decide))
     all_goals first | exact fun _ => rfl | exact fun b => absurd b (by decide) | with_reducible exact Nat.le_refl _ | with_reducible exact List.suffix_refl _ | exact id | skip)

theorem within_rtcRelease (s : State) :
    Within 0x2000 s (State.rtcRelease s) := by
  unfold State.rtcRelease
  repeat' first
  | with_reducible apply Within.refl
  | (with_reducible apply Within.after (within_raise _ _ _); · decide)
  | split
  | (with_reducible apply Within.upd
     any_goals (fail_if_success (with_reducible exact fun _ => rfl); exact fun b => absurd b (by decide))
     all_goals first | exact fun _ => rfl | exact fun b => absurd b (by decide) | with_reducible exact Nat.le_refl _ | with_reducible exact List.suffix_refl _ | exact id | skip)

theorem within_toVio18 (s : State) :
    Within 0x1E6C8 s (State.toVio18 s) := by
  unfold State.toVio18
  repeat' first
  | with_reducible apply Within.refl
  | (with_reducible apply Within.after (within_owedRtc _); · decide)
  | (with_reducible apply Within.upd
     any_goals (fail_if_success (with_reducible exact fun _ => rfl); exact fun b => absurd b (by decide))
     all_goals first | exact fun _ => rfl | exact fun b => absurd b (by decide) | with_reducible exact Nat.le_refl _ | with_reducible exact List.suffix_refl _ | exact id | skip)

theorem within_gapsOf (s : State) (n : ℕ) :
    Within 0x108140009C7CC s (State.gapsOf s n).2 := by
  unfold State.gapsOf
  repeat' first
  | with_reducible apply Within.refl
  | with_reducible assumption
  | (with_reducible apply Within.after (within_gapClose _ _); · decide)
  | with_reducible apply Within.foldl_snd
  | (with_reducible intro y a h)

theorem within_fileBefore (s : State) (f : ℕ) (d : Stamp) :
    Within 0x10D9C1009C7CC s (State.fileBefore s f d) := by
  unfold State.fileBefore
  repeat' first
  | with_reducible apply Within.refl
  | with_reducible assumption
  | (with_reducible apply Within.after (within_removeFinish _); · decide)
  | (with_reducible apply Within.after (within_fileGrant _ _ _); · decide)
  | with_reducible apply Within.foldl
  | (with_reducible intro y a h)
  | (with_reducible apply Within.upd
     any_goals (fail_if_success (with_reducible exact fun _ => rfl); exact fun b => absurd b (by decide))
     all_goals first | exact fun _ => rfl | exact fun b => absurd b (by decide) | with_reducible exact Nat.le_refl _ | with_reducible exact List.suffix_refl _ | exact id | skip)

theorem within_closeNext (s : State) (f : ℕ) (d : Stamp) :
    Within 0x10D9C1009C7CC s (State.closeNext s f d).2 := by
  unfold State.closeNext
  repeat' first
  | with_reducible apply Within.refl
  | (with_reducible apply Within.after (within_fileBefore _ _ _); · decide)
  | (with_reducible apply Within.after (within_closeRoll _ _ _ _ _); · decide)

theorem within_fireBell (n : ℕ) (b : Stamp) (x2 : ℕ) (x3 : List Closed) (s : State) :
    Within 0x12D9C1009C7CC s (fireBell n b x2 x3 s).2 := by
  induction x2 generalizing x3 s with
  | zero => exact Within.refl _
  | succ k ih =>
    unfold fireBell
    split
    · split
      · exact ((within_closeNext _ _ _).mono (by decide)).trans (ih _ _)
      · exact ((within_fireTimer _ _).mono (by decide)).trans (ih _ _)
    · exact Within.refl _

theorem within_deliverBell (s : State) (l : List Closed) :
    Within 0x10D901001C7CC s (State.deliverBell s l) := by
  unfold State.deliverBell
  repeat' first
  | with_reducible apply Within.refl
  | with_reducible assumption
  | (with_reducible apply Within.after (within_deliverClosed _ _); · decide)
  | (with_reducible apply Within.after (within_slipsOut _ _); · decide)
  | with_reducible apply Within.foldl
  | (with_reducible intro y a h)

theorem within_ringBells (n : ℕ) (x1 : ℕ) (x2 : List Closed) (s : State) :
    Within 0x12D9C1009C7CC s (ringBells n x1 x2 s) := by
  induction x1 generalizing x2 s with
  | zero => exact (within_deliverBell _ _).mono (by decide)
  | succ k ih =>
    unfold ringBells
    split
    · exact (within_deliverBell _ _).mono (by decide)
    · extract_lets c
      have hc : Within 0x12D9C1009C7CC s c.2 := (within_fireBell _ _ _ _ _).mono (by decide)
      exact (hc.trans ((within_deliverBell _ _).mono (by decide))).trans (ih _ _)

theorem within_bellsOf (s : State) (n : ℕ) :
    Within 0x12D9C1009C7CC s (State.bellsOf s n) := by
  unfold State.bellsOf
  repeat' first
  | with_reducible apply Within.refl
  | (with_reducible apply Within.after (within_gapsOf _ _); · decide)
  | (with_reducible apply Within.after (within_ringBells _ _ _ _); · decide)

theorem within_bells (s : State) :
    Within 0x12D9C1009C7CC s (State.bells s) := by
  unfold State.bells
  repeat' first
  | with_reducible apply Within.refl
  | (with_reducible apply Within.after (within_bellsOf _ _); · decide)

end Sys2Proof.Machine
end

