-- ==== Sys2Proof/Laws/WithinHost.lean ====
section
/-! SUPPORT. What power control, boundary register, test port, host accesses and the period of the clock may change: one lemma per function, its mask naming the fields of State as Laws/Within.lean numbers them. -/

-- One declaration after another: side by side, their threads' stacks pass the memory limit of a check.
set_option Elab.async false

namespace Sys2Proof.Machine

set_option linter.all false

theorem within_govLimit (s : State) (cause : ℕ) :
    Within 0x1C6C8 s (State.govLimit s cause) := by
  unfold State.govLimit
  repeat' first
  | with_reducible apply Within.refl
  | (with_reducible apply Within.after (within_setRf _ _ _ _ _); · decide)
  | (with_reducible apply Within.after (within_flagRaise _ _ _ _ _); · decide)

theorem within_avsSend (s : State) (a : GovAsk) (tries : ℕ) :
    Within 0x4088 s (State.avsSend s a tries) := by
  unfold State.avsSend
  repeat' first
  | with_reducible apply Within.refl
  | (with_reducible apply Within.after (within_setRf _ _ _ _ _); · decide)
  | (with_reducible apply Within.after (within_emit _ _); · decide)
  | split
  | (with_reducible apply Within.upd
     any_goals (fail_if_success (with_reducible exact fun _ => rfl); exact fun b => absurd b (by decide))
     all_goals first | exact fun _ => rfl | exact fun b => absurd b (by decide) | with_reducible exact Nat.le_refl _ | with_reducible exact List.suffix_refl _ | exact id | skip)

theorem within_govShow (s : State) :
    Within 0x8 s (State.govShow s) := by
  unfold State.govShow
  repeat' first
  | with_reducible apply Within.refl
  | (with_reducible apply Within.after (within_setRb _ _ _ _); · decide)

theorem within_govNext (s : State) :
    Within 0x4088 s (State.govNext s) := by
  unfold State.govNext
  repeat' first
  | with_reducible apply Within.refl
  | (with_reducible apply Within.after (within_avsSend _ _ _); · decide)
  | (with_reducible apply Within.after (within_govShow _); · decide)
  | split
  | (with_reducible apply Within.upd
     any_goals (fail_if_success (with_reducible exact fun _ => rfl); exact fun b => absurd b (by decide))
     all_goals first | exact fun _ => rfl | exact fun b => absurd b (by decide) | with_reducible exact Nat.le_refl _ | with_reducible exact List.suffix_refl _ | exact id | skip)

theorem within_avsResponse (s : State) (r : Option ℕ) :
    Within 0x1C6C8 s (State.avsResponse s r) := by
  unfold State.avsResponse
  repeat' first
  | with_reducible apply Within.refl
  | (with_reducible apply Within.after (within_setRf _ _ _ _ _); · decide)
  | (with_reducible apply Within.after (within_bump _ _); · decide)
  | (with_reducible apply Within.after (within_govLimit _ _); · decide)
  | (with_reducible apply Within.after (within_avsSend _ _ _); · decide)
  | (with_reducible apply Within.after (within_govNext _); · decide)
  | (with_reducible apply Within.after (within_govShow _); · decide)
  | split
  | (with_reducible apply Within.upd
     any_goals (fail_if_success (with_reducible exact fun _ => rfl); exact fun b => absurd b (by decide))
     all_goals first | exact fun _ => rfl | exact fun b => absurd b (by decide) | with_reducible exact Nat.le_refl _ | with_reducible exact List.suffix_refl _ | exact id | skip)

theorem within_resetLinks (s : State) :
    Within 0x2400001C6F8 s (State.resetLinks s) := by
  unfold State.resetLinks
  repeat' first
  | with_reducible apply Within.refl
  | (with_reducible apply Within.after (within_showDecisions _); · decide)
  | (with_reducible apply Within.after (within_resetRegs _ _ _); · decide)
  | (with_reducible apply Within.upd
     any_goals (fail_if_success (with_reducible exact fun _ => rfl); exact fun b => absurd b (by decide))
     all_goals first | exact fun _ => rfl | exact fun b => absurd b (by decide) | with_reducible exact Nat.le_refl _ | with_reducible exact List.suffix_refl _ | exact id | skip)

theorem within_resetNet (s : State) (q : ℕ) :
    Within 0x78000438 s (State.resetNet s q) := by
  unfold State.resetNet
  repeat' first
  | with_reducible apply Within.refl
  | (with_reducible apply Within.after (within_resetRegs _ _ _); · decide)
  | (with_reducible apply Within.after (within_setRingX _ _ _); · decide)
  | (with_reducible apply Within.upd
     any_goals (fail_if_success (with_reducible exact fun _ => rfl); exact fun b => absurd b (by decide))
     all_goals first | exact fun _ => rfl | exact fun b => absurd b (by decide) | with_reducible exact Nat.le_refl _ | with_reducible exact List.suffix_refl _ | exact id | skip)

theorem within_resetMem (s : State) :
    Within 0x4000000000108 s (State.resetMem s) := by
  unfold State.resetMem
  repeat' first
  | with_reducible apply Within.refl
  | (with_reducible apply Within.after (within_setRf _ _ _ _ _); · decide)
  | (with_reducible apply Within.after (within_setRb _ _ _ _); · decide)
  | (with_reducible apply Within.upd
     any_goals (fail_if_success (with_reducible exact fun _ => rfl); exact fun b => absurd b (by decide))
     all_goals first | exact fun _ => rfl | exact fun b => absurd b (by decide) | with_reducible exact Nat.le_refl _ | with_reducible exact List.suffix_refl _ | exact id | exact Tab.wf_put | exact Tab.wf_clear | exact Tab.wf_putList | exact fun _ => rfl | exact fun c => Tab.wf_clear (Tab.wf_clear c) | skip)

theorem within_resetAcq (s : State) :
    Within 0x30800007FF8438 s (State.resetAcq s) := by
  unfold State.resetAcq
  repeat' first
  | with_reducible apply Within.refl
  | (with_reducible apply Within.after (within_resetRegs _ _ _); · decide)
  | (with_reducible apply Within.after (within_setRingX _ _ _); · decide)
  | (with_reducible apply Within.upd
     any_goals (fail_if_success (with_reducible exact fun _ => rfl); exact fun b => absurd b (by decide))
     all_goals first | exact fun _ => rfl | exact fun b => absurd b (by decide) | with_reducible exact Nat.le_refl _ | with_reducible exact List.suffix_refl _ | exact id | exact Tab.wf_put | exact Tab.wf_clear | exact Tab.wf_putList | exact fun _ => rfl | exact fun c => Tab.wf_clear (Tab.wf_clear c) | skip)

theorem within_resetRings (s : State) (keep : Bool) :
    Within 0x438 s (State.resetRings s keep) := by
  unfold State.resetRings
  repeat' first
  | with_reducible apply Within.refl
  | with_reducible assumption
  | (with_reducible apply Within.after (within_setReg _ _ _); · decide)
  | (with_reducible apply Within.after (within_resetRegs _ _ _); · decide)
  | with_reducible apply Within.foldl
  | (with_reducible intro y a h)
  | split
  | (with_reducible apply Within.upd
     any_goals (fail_if_success (with_reducible exact fun _ => rfl); exact fun b => absurd b (by decide))
     all_goals first | exact fun _ => rfl | exact fun b => absurd b (by decide) | with_reducible exact Nat.le_refl _ | with_reducible exact List.suffix_refl _ | exact id | skip)

theorem within_resetSch (s : State) (keep : Bool) :
    Within 0x3F0000000438 s (State.resetSch s keep) := by
  unfold State.resetSch
  repeat' first
  | with_reducible apply Within.refl
  | (with_reducible apply Within.after (within_resetRings _ _); · decide)
  | (with_reducible apply Within.after (within_resetRegs _ _ _); · decide)
  | (with_reducible apply Within.after (within_setRb _ _ _ _); · decide)
  | (with_reducible apply Within.upd
     any_goals (fail_if_success (with_reducible exact fun _ => rfl); exact fun b => absurd b (by decide))
     all_goals first | exact fun _ => rfl | exact fun b => absurd b (by decide) | with_reducible exact Nat.le_refl _ | with_reducible exact List.suffix_refl _ | exact id | skip)

theorem within_resetKey (s : State) :
    Within 0x1000000000038 s (State.resetKey s) := by
  unfold State.resetKey
  repeat' first
  | with_reducible apply Within.refl
  | (with_reducible apply Within.after (within_resetRegs _ _ _); · decide)
  | (with_reducible apply Within.upd
     any_goals (fail_if_success (with_reducible exact fun _ => rfl); exact fun b => absurd b (by decide))
     all_goals first | exact fun _ => rfl | exact fun b => absurd b (by decide) | with_reducible exact Nat.le_refl _ | with_reducible exact List.suffix_refl _ | exact id | skip)

theorem within_resetHost (s : State) :
    Within 0x4400000000078 s (State.resetHost s) := by
  unfold State.resetHost
  repeat' first
  | with_reducible apply Within.refl
  | (with_reducible apply Within.after (within_resetRegs _ _ _); · decide)
  | (with_reducible apply Within.upd
     any_goals (fail_if_success (with_reducible exact fun _ => rfl); exact fun b => absurd b (by decide))
     all_goals first | exact fun _ => rfl | exact fun b => absurd b (by decide) | with_reducible exact Nat.le_refl _ | with_reducible exact List.suffix_refl _ | exact id | skip)

theorem within_resetClassroom (s : State) (c : ℕ) :
    Within 0x18000000038 s (State.resetClassroom s c) := by
  unfold State.resetClassroom
  repeat' first
  | (extract_lets +onlyGivenNames x; first
      | (refine (fun (h : Within 0x18000000038 s x) => ?_) ?_; clear_value x; rotate_left; subst x; rotate_left)
      | (refine (fun (h : Within 0x18000000038 s x.1) => ?_) ?_; clear_value x; rotate_left; subst x; rotate_left)
      | (refine (fun (h : Within 0x18000000038 s x.2) => ?_) ?_; clear_value x; rotate_left; subst x; rotate_left)
      | clear_value x
      | skip)
  | with_reducible apply Within.refl
  | with_reducible assumption
  | (with_reducible apply Within.after (within_setClassroom _ _ _); · decide)
  | (with_reducible apply Within.after (within_setLesson _ _ _); · decide)
  | (with_reducible apply Within.after (within_resetRegs _ _ _); · decide)
  | (with_reducible apply Within.after (within_setRb _ _ _ _); · decide)
  | with_reducible apply Within.foldl
  | (with_reducible intro y a h)
  | split

theorem within_resetFab (s : State) (q : ℕ) :
    Within 0x7C00001C6F8 s (State.resetFab s q) := by
  unfold State.resetFab
  repeat' first
  | (extract_lets +onlyGivenNames x; first
      | (refine (fun (h : Within 0x7C00001C6F8 s x) => ?_) ?_; clear_value x; rotate_left; subst x; rotate_left)
      | (refine (fun (h : Within 0x7C00001C6F8 s x.1) => ?_) ?_; clear_value x; rotate_left; subst x; rotate_left)
      | (refine (fun (h : Within 0x7C00001C6F8 s x.2) => ?_) ?_; clear_value x; rotate_left; subst x; rotate_left)
      | clear_value x
      | skip)
  | with_reducible apply Within.refl
  | with_reducible assumption
  | (with_reducible apply Within.after (within_showCover _); · decide)
  | (with_reducible apply Within.after (within_absenceFollow _); · decide)
  | (with_reducible apply Within.after (within_resetClassroom _ _); · decide)
  | with_reducible apply Within.foldl
  | (with_reducible intro y a h)
  | split

theorem within_resetField (s : State) :
    Within 0x380000438 s (State.resetField s) := by
  unfold State.resetField
  repeat' first
  | with_reducible apply Within.refl
  | (with_reducible apply Within.after (within_resetRegs _ _ _); · decide)
  | (with_reducible apply Within.after (within_setRingX _ _ _); · decide)
  | (with_reducible apply Within.upd
     any_goals (fail_if_success (with_reducible exact fun _ => rfl); exact fun b => absurd b (by decide))
     all_goals first | exact fun _ => rfl | exact fun b => absurd b (by decide) | with_reducible exact Nat.le_refl _ | with_reducible exact List.suffix_refl _ | exact id | skip)

theorem within_resetRcl (s : State) :
    Within 0x43C00080038 s (State.resetRcl s) := by
  unfold State.resetRcl
  repeat' first
  | with_reducible apply Within.refl
  | (with_reducible apply Within.after (within_resetRegs _ _ _); · decide)
  | (with_reducible apply Within.upd
     any_goals (fail_if_success (with_reducible exact fun _ => rfl); exact fun b => absurd b (by decide))
     all_goals first | exact fun _ => rfl | exact fun b => absurd b (by decide) | with_reducible exact Nat.le_refl _ | with_reducible exact List.suffix_refl _ | exact id | exact Tab.wf_put | exact Tab.wf_clear | exact Tab.wf_putList | exact fun _ => rfl | exact fun c => Tab.wf_clear (Tab.wf_clear c) | skip)

theorem within_domReset (s : State) (d : ℕ) (keep : Bool) :
    Within 0x35FFFFFFFFC7F8 s (State.domReset s d keep) := by
  unfold State.domReset
  repeat' first
  | with_reducible apply Within.refl
  | (with_reducible apply Within.after (within_resetLinks _); · decide)
  | (with_reducible apply Within.after (within_resetNet _ _); · decide)
  | (with_reducible apply Within.after (within_resetMem _); · decide)
  | (with_reducible apply Within.after (within_resetAcq _); · decide)
  | (with_reducible apply Within.after (within_resetSch _ _); · decide)
  | (with_reducible apply Within.after (within_resetKey _); · decide)
  | (with_reducible apply Within.after (within_resetHost _); · decide)
  | (with_reducible apply Within.after (within_resetFab _ _); · decide)
  | (with_reducible apply Within.after (within_resetField _); · decide)
  | (with_reducible apply Within.after (within_resetRcl _); · decide)
  | split

theorem within_resetAll (s : State) :
    Within 0x77FFFFFFFFDFF8 s (State.resetAll s) := by
  unfold State.resetAll
  repeat' first
  | (extract_lets +onlyGivenNames x; first
      | (refine (fun (h : Within 0x77FFFFFFFFDFF8 s x) => ?_) ?_; clear_value x; rotate_left; subst x; rotate_left)
      | (refine (fun (h : Within 0x77FFFFFFFFDFF8 s x.1) => ?_) ?_; clear_value x; rotate_left; subst x; rotate_left)
      | (refine (fun (h : Within 0x77FFFFFFFFDFF8 s x.2) => ?_) ?_; clear_value x; rotate_left; subst x; rotate_left)
      | clear_value x
      | skip)
  | with_reducible apply Within.refl
  | with_reducible assumption
  | (with_reducible apply Within.after (within_setReg _ _ _); · decide)
  | (with_reducible apply Within.after (within_domReset _ _ _); · decide)
  | (with_reducible apply Within.after (within_resetRegs _ _ _); · decide)
  | with_reducible apply Within.foldl
  | (with_reducible intro y a h)
  | (with_reducible apply Within.upd
     any_goals (fail_if_success (with_reducible exact fun _ => rfl); exact fun b => absurd b (by decide))
     all_goals first | exact fun _ => rfl | exact fun b => absurd b (by decide) | with_reducible exact Nat.le_refl _ | with_reducible exact List.suffix_refl _ | exact id | skip)

theorem within_deviceReset (s : State) :
    Within 0x77FFFFFFFFDFF8 s (State.deviceReset s) := by
  unfold State.deviceReset
  repeat' first
  | (extract_lets +onlyGivenNames x; first
      | (refine (fun (h : Within 0x77FFFFFFFFDFF8 s x) => ?_) ?_; clear_value x; rotate_left; subst x; rotate_left)
      | (refine (fun (h : Within 0x77FFFFFFFFDFF8 s x.1) => ?_) ?_; clear_value x; rotate_left; subst x; rotate_left)
      | (refine (fun (h : Within 0x77FFFFFFFFDFF8 s x.2) => ?_) ?_; clear_value x; rotate_left; subst x; rotate_left)
      | clear_value x
      | skip)
  | with_reducible apply Within.refl
  | with_reducible assumption
  | (with_reducible apply Within.after (within_setReg _ _ _); · decide)
  | (with_reducible apply Within.after (within_resetAll _); · decide)
  | (with_reducible apply Within.upd
     any_goals (fail_if_success (with_reducible exact fun _ => rfl); exact fun b => absurd b (by decide))
     all_goals first | exact fun _ => rfl | exact fun b => absurd b (by decide) | with_reducible exact Nat.le_refl _ | with_reducible exact List.suffix_refl _ | exact id | skip)

theorem within_domainEvent (s : State) :
    Within 0x1C6C8 s (State.domainEvent s) := by
  unfold State.domainEvent
  repeat' first
  | with_reducible apply Within.refl
  | (with_reducible apply Within.after (within_flagRaise _ _ _ _ _); · decide)

theorem within_govPut (s : State) (a : GovAsk) :
    Within 0x4088 s (State.govPut s a) := by
  unfold State.govPut
  repeat' first
  | with_reducible apply Within.refl
  | (with_reducible apply Within.after (within_avsSend _ _ _); · decide)
  | (with_reducible apply Within.after (within_govShow _); · decide)
  | split
  | (with_reducible apply Within.upd
     any_goals (fail_if_success (with_reducible exact fun _ => rfl); exact fun b => absurd b (by decide))
     all_goals first | exact fun _ => rfl | exact fun b => absurd b (by decide) | with_reducible exact Nat.le_refl _ | with_reducible exact List.suffix_refl _ | exact id | skip)

theorem within_govRequest (s : State) (mv : ℕ) (manual : Bool) :
    Within 0x4088 s (State.govRequest s mv manual) := by
  unfold State.govRequest
  repeat' first
  | with_reducible apply Within.refl
  | (with_reducible apply Within.after (within_govPut _ _); · decide)

theorem within_domGoesOff (s : State) (keep : Bool) (d : ℕ) :
    Within 0x35FFFFFFFFC7F8 s (State.domGoesOff s keep d) := by
  unfold State.domGoesOff
  repeat' first
  | with_reducible apply Within.refl
  | (with_reducible apply Within.after (within_domReset _ _ _); · decide)
  | (with_reducible apply Within.after (within_setRb _ _ _ _); · decide)

theorem within_domainsOff (s : State) (mask : ℕ) (keep : Bool) :
    Within 0x35FFFFFFFFC7F8 s (State.domainsOff s mask keep) := by
  unfold State.domainsOff
  repeat' first
  | with_reducible apply Within.refl
  | with_reducible assumption
  | (with_reducible apply Within.after (within_domGoesOff _ _ _); · decide)
  | with_reducible apply Within.foldl
  | (with_reducible intro y a h)
  | split

theorem within_domComesOn (s : State) (keep : Bool) (d : ℕ) :
    Within 0x35FFFFFFFFC7F8 s (State.domComesOn s keep d) := by
  unfold State.domComesOn
  repeat' first
  | (extract_lets +onlyGivenNames x; first
      | (refine (fun (h : Within 0x35FFFFFFFFC7F8 s x) => ?_) ?_; clear_value x; rotate_left; subst x; rotate_left)
      | (refine (fun (h : Within 0x35FFFFFFFFC7F8 s x.1) => ?_) ?_; clear_value x; rotate_left; subst x; rotate_left)
      | (refine (fun (h : Within 0x35FFFFFFFFC7F8 s x.2) => ?_) ?_; clear_value x; rotate_left; subst x; rotate_left)
      | clear_value x
      | skip)
  | with_reducible apply Within.refl
  | with_reducible assumption
  | (with_reducible apply Within.after (within_keyStart _); · decide)
  | (with_reducible apply Within.after (within_showDecisions _); · decide)
  | (with_reducible apply Within.after (within_imageValues _); · decide)
  | (with_reducible apply Within.after (within_domReset _ _ _); · decide)
  | (with_reducible apply Within.after (within_setRb _ _ _ _); · decide)
  | split

theorem within_domainsOn (s : State) (mask : ℕ) (keep : Bool) :
    Within 0x35FFFFFFFFC7F8 s (State.domainsOn s mask keep) := by
  unfold State.domainsOn
  repeat' first
  | with_reducible apply Within.refl
  | with_reducible assumption
  | (with_reducible apply Within.after (within_domComesOn _ _ _); · decide)
  | with_reducible apply Within.foldl
  | (with_reducible intro y a h)
  | split

theorem within_wakeUp (s : State) :
    Within 0x35FFFFFFFFC7F8 s (State.wakeUp s) := by
  unfold State.wakeUp
  repeat' first
  | with_reducible apply Within.refl
  | (with_reducible apply Within.after (within_setRf _ _ _ _ _); · decide)
  | (with_reducible apply Within.after (within_domainEvent _); · decide)
  | (with_reducible apply Within.after (within_govRequest _ _ _); · decide)
  | (with_reducible apply Within.after (within_unconfigure _); · decide)
  | (with_reducible apply Within.after (within_domainsOff _ _ _); · decide)
  | (with_reducible apply Within.after (within_domainsOn _ _ _); · decide)
  | (with_reducible apply Within.after (within_setRb _ _ _ _); · decide)
  | (with_reducible apply Within.upd
     any_goals (fail_if_success (with_reducible exact fun _ => rfl); exact fun b => absurd b (by decide))
     all_goals first | exact fun _ => rfl | exact fun b => absurd b (by decide) | with_reducible exact Nat.le_refl _ | with_reducible exact List.suffix_refl _ | exact id | skip)

theorem within_recessEnergy (s : State) :
    Within 0x2000000789C6C8 s (State.recessEnergy s) := by
  unfold State.recessEnergy
  repeat' first
  | with_reducible apply Within.refl
  | with_reducible assumption
  | (with_reducible apply Within.after (within_nrgEnd _ _); · decide)
  | with_reducible apply Within.foldl
  | (with_reducible intro y a h)

theorem within_t1sFlush (g : ℕ) (x1 : ℕ) (s : State) :
    Within 0x18001C6C8 s (State.t1sFlush g x1 s) := by
  induction x1 generalizing s with
  | zero => exact Within.refl _
  | succ k ih =>
    unfold State.t1sFlush
    split
    · exact Within.refl _
    · exact (Within.after (within_t1sSendComplete _ _) (by decide) ((within_setSegm _ _ _).mono (by decide))).trans (ih _)

theorem within_segFinish (p : ℕ) (x1 : ℕ) (s : State) :
    Within 0x3001C6C8 s (State.segFinish p x1 s) := by
  induction x1 generalizing s with
  | zero => exact Within.refl _
  | succ k ih =>
    unfold State.segFinish
    split
    · exact ((within_segSend _ _ _ _).mono (by decide)).trans (ih _)
    · exact Within.refl _

theorem within_recessRings (s : State) :
    Within 0x1B003C6C8 s (State.recessRings s) := by
  unfold State.recessRings
  repeat' first
  | with_reducible apply Within.refl
  | with_reducible assumption
  | (with_reducible apply Within.after (within_t1sFlush _ _ _); · decide)
  | (with_reducible apply Within.after (within_ringEn _ _ _); · decide)
  | (with_reducible apply Within.after (within_segFinish _ _ _); · decide)
  | (with_reducible apply Within.after (within_setRb _ _ _ _); · decide)
  | (with_reducible apply Within.after (within_recComplete _); · decide)
  | with_reducible apply Within.foldl
  | (with_reducible intro y a h)
  | split

theorem within_recess (s : State) :
    Within 0x35FFFFFFFFC7FC s (State.recess s) := by
  unfold State.recess
  repeat' first
  | with_reducible apply Within.refl
  | with_reducible assumption
  | (with_reducible apply Within.after (within_setRf _ _ _ _ _); · decide)
  | (with_reducible apply Within.after (within_recessEnergy _); · decide)
  | (with_reducible apply Within.after (within_domainEvent _); · decide)
  | (with_reducible apply Within.after (within_recessRings _); · decide)
  | (with_reducible apply Within.after (within_govRequest _ _ _); · decide)
  | (with_reducible apply Within.after (within_domainsOff _ _ _); · decide)
  | (with_reducible apply Within.after (within_stopForm _ _); · decide)
  | (with_reducible apply Within.after (within_setRb _ _ _ _); · decide)
  | with_reducible apply Within.foldl
  | (with_reducible intro y a h)
  | split

theorem within_powerCommand (s : State) :
    Within 0x35FFFFFFFFC7FC s (State.powerCommand s) := by
  unfold State.powerCommand
  repeat' first
  | with_reducible apply Within.refl
  | (with_reducible apply Within.after (within_wakeUp _); · decide)
  | (with_reducible apply Within.after (within_recess _); · decide)
  | split

theorem within_govStop (s : State) :
    Within 0x8 s (State.govStop s) := by
  unfold State.govStop
  repeat' first
  | with_reducible apply Within.refl
  | (with_reducible apply Within.after (within_setRf _ _ _ _ _); · decide)
  | split

theorem within_govStart (s : State) :
    Within 0x4088 s (State.govStart s) := by
  unfold State.govStart
  repeat' first
  | with_reducible apply Within.refl
  | (with_reducible apply Within.after (within_setReg _ _ _); · decide)
  | (with_reducible apply Within.after (within_govPut _ _); · decide)
  | (with_reducible apply Within.upd
     any_goals (fail_if_success (with_reducible exact fun _ => rfl); exact fun b => absurd b (by decide))
     all_goals first | exact fun _ => rfl | exact fun b => absurd b (by decide) | with_reducible exact Nat.le_refl _ | with_reducible exact List.suffix_refl _ | exact id | skip)

theorem within_domainWrite (s : State) :
    Within 0x35FFFFFFFFC7F8 s (State.domainWrite s) := by
  unfold State.domainWrite
  repeat' first
  | with_reducible apply Within.refl
  | (with_reducible apply Within.after (within_domainsOff _ _ _); · decide)
  | (with_reducible apply Within.after (within_setRb _ _ _ _); · decide)
  | split

theorem within_pwrHook (s : State) (off : ℕ) (old : Word) (v : Word) :
    Within 0x35FFFFFFFFC7FC s (State.pwrHook s off old v) := by
  unfold State.pwrHook
  repeat' first
  | with_reducible apply Within.refl
  | (with_reducible apply Within.after (within_powerCommand _); · decide)
  | (with_reducible apply Within.after (within_govRequest _ _ _); · decide)
  | (with_reducible apply Within.after (within_govStop _); · decide)
  | (with_reducible apply Within.after (within_govStart _); · decide)
  | (with_reducible apply Within.after (within_domainWrite _); · decide)
  | split

theorem within_hostReset (s : State) :
    Within 0x80001A0020478 s (State.hostReset s) := by
  unfold State.hostReset
  repeat' first
  | with_reducible apply Within.refl
  | with_reducible assumption
  | (with_reducible apply Within.after (within_resetRings _ _); · decide)
  | (with_reducible apply Within.after (within_ringAbandon _ _); · decide)
  | with_reducible apply Within.foldl
  | (with_reducible intro y a h)
  | (with_reducible apply Within.upd
     any_goals (fail_if_success (with_reducible exact fun _ => rfl); exact fun b => absurd b (by decide))
     all_goals first | exact fun _ => rfl | exact fun b => absurd b (by decide) | with_reducible exact Nat.le_refl _ | with_reducible exact List.suffix_refl _ | exact id | skip)

theorem within_functionReset (s : State) (d3hot : Bool) :
    Within 0x80001A0020478 s (State.functionReset s d3hot) := by
  unfold State.functionReset
  repeat' first
  | with_reducible apply Within.refl
  | (with_reducible apply Within.after (within_hostReset _); · decide)
  | (with_reducible apply Within.after (within_setRb _ _ _ _); · decide)
  | split
  | (with_reducible apply Within.upd
     any_goals (fail_if_success (with_reducible exact fun _ => rfl); exact fun b => absurd b (by decide))
     all_goals first | exact fun _ => rfl | exact fun b => absurd b (by decide) | with_reducible exact Nat.le_refl _ | with_reducible exact List.suffix_refl _ | exact id | skip)

theorem within_domainDone (s : State) :
    Within 0x35FFFFFFFFC7F8 s (State.domainDone s) := by
  unfold State.domainDone
  repeat' first
  | with_reducible apply Within.refl
  | (with_reducible apply Within.after (within_domainEvent _); · decide)
  | (with_reducible apply Within.after (within_domainsOn _ _ _); · decide)
  | (with_reducible apply Within.after (within_setRb _ _ _ _); · decide)
  | split

theorem within_govStep (s : State) (up : Bool) :
    Within 0x1C6C8 s (State.govStep s up) := by
  unfold State.govStep
  repeat' first
  | (extract_lets +onlyGivenNames x; first
      | (refine (fun (h : Within 0x1C6C8 s x) => ?_) ?_; clear_value x; rotate_left; subst x; rotate_left)
      | (refine (fun (h : Within 0x1C6C8 s x.1) => ?_) ?_; clear_value x; rotate_left; subst x; rotate_left)
      | (refine (fun (h : Within 0x1C6C8 s x.2) => ?_) ?_; clear_value x; rotate_left; subst x; rotate_left)
      | clear_value x
      | skip)
  | with_reducible apply Within.refl
  | (with_reducible apply Within.after (within_bump _ _); · decide)
  | (with_reducible apply Within.after (within_govRequest _ _ _); · decide)
  | (with_reducible apply Within.after (within_govLimit _ _); · decide)
  | split

theorem within_mainReset (s : State) (fell : ℕ) :
    Within 0x7FFFFFFFFFFFF8 s (State.mainReset s fell) := by
  unfold State.mainReset
  repeat' first
  | (extract_lets +onlyGivenNames x; first
      | (refine (fun (h : Within 0x7FFFFFFFFFFFF8 s x) => ?_) ?_; clear_value x; rotate_left; subst x; rotate_left)
      | (refine (fun (h : Within 0x7FFFFFFFFFFFF8 s x.1) => ?_) ?_; clear_value x; rotate_left; subst x; rotate_left)
      | (refine (fun (h : Within 0x7FFFFFFFFFFFF8 s x.2) => ?_) ?_; clear_value x; rotate_left; subst x; rotate_left)
      | clear_value x
      | skip)
  | with_reducible apply Within.refl
  | with_reducible assumption
  | (with_reducible apply Within.after (within_setReg _ _ _); · decide)
  | (with_reducible apply Within.after (within_resetAll _); · decide)
  | (with_reducible apply Within.upd
     any_goals (fail_if_success (with_reducible exact fun _ => rfl); exact fun b => absurd b (by decide))
     all_goals first | exact fun _ => rfl | exact fun b => absurd b (by decide) | with_reducible exact Nat.le_refl _ | with_reducible exact List.suffix_refl _ | exact id | skip)

theorem within_mainPower (s : State) (p : MainPower) :
    Within 0x7FFFFFFFFFFFF8 s (State.mainPower s p) := by
  unfold State.mainPower
  repeat' first
  | (extract_lets +onlyGivenNames x; first
      | (refine (fun (h : Within 0x7FFFFFFFFFFFF8 s x) => ?_) ?_; clear_value x; rotate_left; subst x; rotate_left)
      | (refine (fun (h : Within 0x7FFFFFFFFFFFF8 s x.1) => ?_) ?_; clear_value x; rotate_left; subst x; rotate_left)
      | (refine (fun (h : Within 0x7FFFFFFFFFFFF8 s x.2) => ?_) ?_; clear_value x; rotate_left; subst x; rotate_left)
      | clear_value x
      | skip)
  | with_reducible apply Within.refl
  | with_reducible assumption
  | (with_reducible apply Within.after (within_toVbat _); · decide)
  | (with_reducible apply Within.after (within_mainReset _ _); · decide)
  | split

theorem within_owedTamper (s : State) :
    Within 0x100000001C6C8 s (State.owedTamper s) := by
  unfold State.owedTamper
  repeat' first
  | with_reducible apply Within.refl
  | (with_reducible apply Within.after (within_flagRaise _ _ _ _ _); · decide)
  | split
  | (with_reducible apply Within.upd
     any_goals (fail_if_success (with_reducible exact fun _ => rfl); exact fun b => absurd b (by decide))
     all_goals first | exact fun _ => rfl | exact fun b => absurd b (by decide) | with_reducible exact Nat.le_refl _ | with_reducible exact List.suffix_refl _ | exact id | skip)

theorem within_perst (s : State) :
    Within 0x80001A0024478 s (State.perst s) := by
  unfold State.perst
  repeat' first
  | with_reducible apply Within.refl
  | (with_reducible apply Within.after (within_hostReset _); · decide)
  | (with_reducible apply Within.after (within_setRb _ _ _ _); · decide)
  | (with_reducible apply Within.upd
     any_goals (fail_if_success (with_reducible exact fun _ => rfl); exact fun b => absurd b (by decide))
     all_goals first | exact fun _ => rfl | exact fun b => absurd b (by decide) | with_reducible exact Nat.le_refl _ | with_reducible exact List.suffix_refl _ | exact id | skip)

theorem within_startFirst (s : State) (pairId : Bool) (pos : ℕ) :
    Within 0x8 s (State.startFirst s pairId pos) := by
  unfold State.startFirst
  repeat' first
  | with_reducible apply Within.refl
  | (with_reducible apply Within.after (within_setReg _ _ _); · decide)
  | (with_reducible apply Within.after (within_setRb _ _ _ _); · decide)

theorem within_startUp (s : State) (pairId : Bool) (r : Release) :
    Within 0x35FFFFFFFFE7F8 s (State.startUp s pairId r) := by
  unfold State.startUp
  repeat' first
  | with_reducible apply Within.refl
  | (with_reducible apply Within.after (within_owedRtc _); · decide)
  | (with_reducible apply Within.after (within_owedTamper _); · decide)
  | (with_reducible apply Within.after (within_rtcRelease _); · decide)
  | (with_reducible apply Within.after (within_startFirst _ _ _); · decide)
  | (with_reducible apply Within.after (within_domainsOn _ _ _); · decide)
  | (with_reducible apply Within.after (within_setRb _ _ _ _); · decide)
  | split
  | (with_reducible apply Within.upd
     any_goals (fail_if_success (with_reducible exact fun _ => rfl); exact fun b => absurd b (by decide))
     all_goals first | exact fun _ => rfl | exact fun b => absurd b (by decide) | with_reducible exact Nat.le_refl _ | with_reducible exact List.suffix_refl _ | exact id | skip)

theorem within_therm (s : State) (temps : List ℤ) :
    Within 0x1C6C8 s (State.therm s temps) := by
  unfold State.therm
  repeat' first
  | with_reducible apply Within.refl
  | (with_reducible apply Within.after (within_raise _ _ _); · decide)
  | split
  | (with_reducible apply Within.upd
     any_goals (fail_if_success (with_reducible exact fun _ => rfl); exact fun b => absurd b (by decide))
     all_goals first | exact fun _ => rfl | exact fun b => absurd b (by decide) | with_reducible exact Nat.le_refl _ | with_reducible exact List.suffix_refl _ | exact id | skip)

theorem within_wake (s : State) :
    Within 0x35FFFFFFFFC7F8 s (State.wake s) := by
  unfold State.wake
  repeat' first
  | with_reducible apply Within.refl
  | (with_reducible apply Within.after (within_wakeUp _); · decide)
  | split

theorem within_windowEnd (s : State) :
    Within 0x1C6C8 s (State.windowEnd s) := by
  unfold State.windowEnd
  repeat' first
  | (extract_lets +onlyGivenNames x; first
      | (refine (fun (h : Within 0x1C6C8 s x) => ?_) ?_; clear_value x; rotate_left; subst x; rotate_left)
      | (refine (fun (h : Within 0x1C6C8 s x.1) => ?_) ?_; clear_value x; rotate_left; subst x; rotate_left)
      | (refine (fun (h : Within 0x1C6C8 s x.2) => ?_) ?_; clear_value x; rotate_left; subst x; rotate_left)
      | clear_value x
      | skip)
  | with_reducible apply Within.refl
  | with_reducible assumption
  | (with_reducible apply Within.after (within_setRf _ _ _ _ _); · decide)
  | (with_reducible apply Within.after (within_govStep _ _); · decide)
  | (with_reducible apply Within.after (within_flagRaise _ _ _ _ _); · decide)
  | split
  | (with_reducible apply Within.upd
     any_goals (fail_if_success (with_reducible exact fun _ => rfl); exact fun b => absurd b (by decide))
     all_goals first | exact fun _ => rfl | exact fun b => absurd b (by decide) | with_reducible exact Nat.le_refl _ | with_reducible exact List.suffix_refl _ | exact id | skip)

theorem within_tmxHook (s : State) (off : ℕ) (v : Word) :
    Within 0x8 s (State.tmxHook s off v) := by
  unfold State.tmxHook
  repeat' first
  | with_reducible apply Within.refl
  | (with_reducible apply Within.after (within_setRf _ _ _ _ _); · decide)
  | split

theorem within_updateIr (s : State) (code : ℕ) :
    Within 0x8 s (State.updateIr s code) := by
  unfold State.updateIr
  repeat' first
  | (extract_lets +onlyGivenNames x; first
      | (refine (fun (h : Within 0x8 s x) => ?_) ?_; clear_value x; rotate_left; subst x; rotate_left)
      | (refine (fun (h : Within 0x8 s x.1) => ?_) ?_; clear_value x; rotate_left; subst x; rotate_left)
      | (refine (fun (h : Within 0x8 s x.2) => ?_) ?_; clear_value x; rotate_left; subst x; rotate_left)
      | clear_value x
      | skip)
  | with_reducible apply Within.refl
  | with_reducible assumption
  | (with_reducible apply Within.after (within_setRf _ _ _ _ _); · decide)
  | (with_reducible apply Within.after (within_setRb _ _ _ _); · decide)
  | split

theorem within_tapPerform (s : State) (write : Bool) (wordOff : ℕ) (v : Word) :
    Within 0x8 s (State.tapPerform s write wordOff v).1 := by
  unfold State.tapPerform
  repeat' first
  | (extract_lets +onlyGivenNames x; first
      | (refine (fun (h : Within 0x8 s x) => ?_) ?_; clear_value x; rotate_left; subst x; rotate_left)
      | (refine (fun (h : Within 0x8 s x.1) => ?_) ?_; clear_value x; rotate_left; subst x; rotate_left)
      | (refine (fun (h : Within 0x8 s x.2) => ?_) ?_; clear_value x; rotate_left; subst x; rotate_left)
      | clear_value x
      | skip)
  | with_reducible apply Within.refl
  | (with_reducible apply Within.after (within_setReg _ _ _); · decide)
  | (with_reducible apply Within.after (within_tmxHook _ _ _); · decide)
  | (with_reducible apply Within.after (within_setRb _ _ _ _); · decide)
  | split

theorem within_tapAccess (s : State) (w : BitVec 48) :
    Within 0x2000000000088 s (State.tapAccess s w) := by
  unfold State.tapAccess
  repeat' first
  | with_reducible apply Within.refl
  | (with_reducible apply Within.after (within_tapPerform _ _ _ _); · decide)
  | (with_reducible apply Within.after (within_emit _ _); · decide)
  | split
  | (with_reducible apply Within.upd
     any_goals (fail_if_success (with_reducible exact fun _ => rfl); exact fun b => absurd b (by decide))
     all_goals first | exact fun _ => rfl | exact fun b => absurd b (by decide) | with_reducible exact Nat.le_refl _ | with_reducible exact List.suffix_refl _ | exact id | skip)

theorem within_tapReset (s : State) :
    Within 0x2000000000008 s (State.tapReset s) := by
  unfold State.tapReset
  repeat' first
  | with_reducible apply Within.refl
  | (with_reducible apply Within.after (within_setRf _ _ _ _ _); · decide)
  | (with_reducible apply Within.upd
     any_goals (fail_if_success (with_reducible exact fun _ => rfl); exact fun b => absurd b (by decide))
     all_goals first | exact fun _ => rfl | exact fun b => absurd b (by decide) | with_reducible exact Nat.le_refl _ | with_reducible exact List.suffix_refl _ | exact id | skip)

theorem within_aerNote (s : State) (b : ℕ) :
    Within 0x8000000000000 s (State.aerNote s b) := by
  unfold State.aerNote
  repeat' first
  | with_reducible apply Within.refl
  | (with_reducible apply Within.upd
     any_goals (fail_if_success (with_reducible exact fun _ => rfl); exact fun b => absurd b (by decide))
     all_goals first | exact fun _ => rfl | exact fun b => absurd b (by decide) | with_reducible exact Nat.le_refl _ | with_reducible exact List.suffix_refl _ | exact id | skip)

theorem within_busError (s : State) (q : Request) (off : ℕ) (cause : ℕ) :
    Within 0x1C6C8 s (State.busError s q off cause) := by
  unfold State.busError
  repeat' first
  | with_reducible apply Within.refl
  | (with_reducible apply Within.after (within_setReg _ _ _); · decide)
  | (with_reducible apply Within.after (within_setRf _ _ _ _ _); · decide)
  | (with_reducible apply Within.after (within_raise _ _ _); · decide)
  | split

theorem within_evtHook (s : State) (before : State) (off : ℕ) (v : Word) :
    Within 0x1C6C8 s (State.evtHook s before off v) := by
  unfold State.evtHook
  repeat' first
  | (extract_lets +onlyGivenNames x; first
      | (refine (fun (h : Within 0x1C6C8 s x) => ?_) ?_; clear_value x; rotate_left; subst x; rotate_left)
      | (refine (fun (h : Within 0x1C6C8 s x.1) => ?_) ?_; clear_value x; rotate_left; subst x; rotate_left)
      | (refine (fun (h : Within 0x1C6C8 s x.2) => ?_) ?_; clear_value x; rotate_left; subst x; rotate_left)
      | clear_value x
      | skip)
  | with_reducible apply Within.refl
  | (with_reducible apply Within.after (within_raise _ _ _); · decide)
  | (with_reducible apply Within.after (within_msixAll _); · decide)
  | (with_reducible apply Within.after (within_msixSettle _); · decide)
  | (with_reducible apply Within.after (within_msixRises _ _); · decide)
  | split

theorem within_glbHook (s : State) (off : ℕ) (old : Word) (v : Word) :
    Within 0x77FFFFFFFFDFF8 s (State.glbHook s off old v) := by
  unfold State.glbHook
  repeat' first
  | with_reducible apply Within.refl
  | (with_reducible apply Within.after (within_setReg _ _ _); · decide)
  | (with_reducible apply Within.after (within_deviceReset _); · decide)
  | split

theorem within_fabHook (s : State) (off : ℕ) (e : Env) :
    Within 0x21800001C6C8 s (State.fabHook s off e) := by
  unfold State.fabHook
  repeat' first
  | (extract_lets +onlyGivenNames x; first
      | (refine (fun (h : Within 0x21800001C6C8 s x) => ?_) ?_; clear_value x; rotate_left; subst x; rotate_left)
      | (refine (fun (h : Within 0x21800001C6C8 s x.1) => ?_) ?_; clear_value x; rotate_left; subst x; rotate_left)
      | (refine (fun (h : Within 0x21800001C6C8 s x.2) => ?_) ?_; clear_value x; rotate_left; subst x; rotate_left)
      | clear_value x
      | skip)
  | with_reducible apply Within.refl
  | (with_reducible apply Within.after (within_selfCheck _ _ _); · decide)
  | split

theorem within_rngHook (s : State) (off : ℕ) (v : Word) :
    Within 0x3C6C8 s (State.rngHook s off v) := by
  unfold State.rngHook
  repeat' first
  | (extract_lets +onlyGivenNames x; first
      | (refine (fun (h : Within 0x3C6C8 s x) => ?_) ?_; clear_value x; rotate_left; subst x; rotate_left)
      | (refine (fun (h : Within 0x3C6C8 s x.1) => ?_) ?_; clear_value x; rotate_left; subst x; rotate_left)
      | (refine (fun (h : Within 0x3C6C8 s x.2) => ?_) ?_; clear_value x; rotate_left; subst x; rotate_left)
      | clear_value x
      | skip)
  | with_reducible apply Within.refl
  | with_reducible assumption
  | (with_reducible apply Within.after (within_setReg _ _ _); · decide)
  | (with_reducible apply Within.after (within_ring1Pump _); · decide)
  | (with_reducible apply Within.after (within_ringEn _ _ _); · decide)
  | (with_reducible apply Within.after (within_recPump _); · decide)
  | split

theorem within_unitHook (s : State) (before : State) (wr : BootWrite) (e : Env) (off : ℕ) (old : Word) (v : Word) (h_wr : ∀ y o v, Within 0x77FFFFFFFFFFFC y (wr y o v).1) :
    Within 0x77FFFFFFFFFFFC s (State.unitHook s before wr e off old v) := by
  unfold State.unitHook
  repeat' first
  | with_reducible apply Within.refl
  | (with_reducible apply Within.after (within_recHook _ _ _); · decide)
  | (with_reducible apply Within.after (within_acqHook _ _ _ _); · decide)
  | (with_reducible apply Within.after (within_macHook _ _ _); · decide)
  | (with_reducible apply Within.after (within_fltHook _ _ _ _); · decide)
  | (with_reducible apply Within.after (within_keyHook _ _ _ _); · decide)
  | (with_reducible apply Within.after (within_schHook _ _ _ _); · decide)
  | (with_reducible apply Within.after (within_evtHook _ _ _ _); · decide)
  | (with_reducible apply Within.after (within_trgHook _ _ _ _); · decide)
  | (with_reducible apply Within.after (within_glbHook _ _ _ _); · decide)
  | (with_reducible apply Within.after (within_rclHook _ _ _); · decide)
  | (with_reducible apply Within.after (within_fjlHook _ _ _); · decide)
  | (with_reducible apply Within.after (within_prpHook _ _ _ _); · decide)
  | (with_reducible apply Within.after (within_fabHook _ _ _); · decide)
  | (with_reducible apply Within.after (within_imgHook _ _ _ _ _ _ h_wr); · decide)
  | (with_reducible apply Within.after (within_tmxHook _ _ _); · decide)
  | (with_reducible apply Within.after (within_t1sHook _ _); · decide)
  | (with_reducible apply Within.after (within_itkHook _ _ _); · decide)
  | (with_reducible apply Within.after (within_rtcHook _ _); · decide)
  | (with_reducible apply Within.after (within_nrgHook _ _ _ _); · decide)
  | (with_reducible apply Within.after (within_redHook _ _ _ _); · decide)
  | (with_reducible apply Within.after (within_pwrHook _ _ _ _); · decide)
  | (with_reducible apply Within.after (within_phsHook _ _ _); · decide)
  | (with_reducible apply Within.after (within_tbHook _ _ _ _); · decide)
  | (with_reducible apply Within.after (within_rngHook _ _ _); · decide)
  | (with_reducible apply Within.after (within_anaHook _ _); · decide)
  | (with_reducible apply Within.after (h_wr _ _ _); · decide)
  | split

theorem within_writeReg (s : State) (wr : BootWrite) (e : Env) (off : ℕ) (v : Word) (h_wr : ∀ y o v, Within 0x77FFFFFFFFFFFC y (wr y o v).1) :
    Within 0x77FFFFFFFFFFFC s (State.writeReg s wr e off v) := by
  unfold State.writeReg
  repeat' first
  | with_reducible apply Within.refl
  | (with_reducible apply Within.after (within_setReg _ _ _); · decide)
  | (with_reducible apply Within.after (within_setStage _ _ _); · decide)
  | (with_reducible apply Within.after (within_unitHook _ _ _ _ _ _ _ h_wr); · decide)
  | (with_reducible apply Within.after (h_wr _ _ _); · decide)
  | split

theorem within_writeView (s : State) (wr : BootWrite) (e : Env) (off : ℕ) (v : Word) (h_wr : ∀ y o v, Within 0x77FFFFFFFFFFFC y (wr y o v).1) :
    Within 0x77FFFFFFFFFFFC s (State.writeView s wr e off v) := by
  unfold State.writeView
  repeat' first
  | with_reducible apply Within.refl
  | (with_reducible apply Within.after (within_setReg _ _ _); · decide)
  | (with_reducible apply Within.after (within_unitHook _ _ _ _ _ _ _ h_wr); · decide)
  | (with_reducible apply Within.after (within_writeReg _ _ _ _ _ h_wr); · decide)
  | (with_reducible apply Within.after (h_wr _ _ _); · decide)
  | split

theorem within_putDW (s : State) (wr : BootWrite) (e : Env) (q : Request) (off : ℕ) (v : Word) (h_wr : ∀ y o v, Within 0x77FFFFFFFFFFFC y (wr y o v).1) :
    Within 0x77FFFFFFFFFFFC s (State.putDW s wr e q off v).1 := by
  unfold State.putDW
  repeat' first
  | (extract_lets +onlyGivenNames x; first
      | (refine (fun (h : Within 0x7FFFFFFFFFFFC s x) => ?_) ?_; clear_value x; rotate_left; subst x; rotate_left)
      | (refine (fun (h : Within 0x7FFFFFFFFFFFC s x.1) => ?_) ?_; clear_value x; rotate_left; subst x; rotate_left)
      | (refine (fun (h : Within 0x7FFFFFFFFFFFC s x.2) => ?_) ?_; clear_value x; rotate_left; subst x; rotate_left)
      | clear_value x
      | skip)
  | with_reducible apply Within.refl
  | (with_reducible apply Within.after (within_busError _ _ _ _); · decide)
  | (with_reducible apply Within.after (within_writeView _ _ _ _ _ h_wr); · decide)
  | (with_reducible apply Within.after (h_wr _ _ _); · decide)
  | split

theorem within_bootWrite (s : State) (off : ℕ) (v : Word) :
    Within 0x77FFFFFFFFFFFC s (State.bootWrite s off v).1 := by
  unfold State.bootWrite
  repeat' first
  | with_reducible apply Within.refl
  | (with_reducible apply Within.after (within_putDW _ _ _ _ _ _ (fun y _ _ => Within.refl y)); · decide)

theorem within_cfgControl (s : State) (w : Word) :
    Within 0x80001A0020478 s (State.cfgControl s w) := by
  unfold State.cfgControl
  repeat' first
  | with_reducible apply Within.refl
  | (with_reducible apply Within.after (within_functionReset _ _); · decide)
  | split
  | (with_reducible apply Within.upd
     any_goals (fail_if_success (with_reducible exact fun _ => rfl); exact fun b => absurd b (by decide))
     all_goals first | exact fun _ => rfl | exact fun b => absurd b (by decide) | with_reducible exact Nat.le_refl _ | with_reducible exact List.suffix_refl _ | exact id | skip)

theorem within_cfgMessages (s : State) (p : Pcie) :
    Within 0x80000000000C0 s (State.cfgMessages s p) := by
  unfold State.cfgMessages
  repeat' first
  | with_reducible apply Within.refl
  | with_reducible assumption
  | (with_reducible apply Within.after (within_msixRelease _ _); · decide)
  | with_reducible apply Within.foldl
  | (with_reducible intro y a h)
  | (with_reducible apply Within.upd
     any_goals (fail_if_success (with_reducible exact fun _ => rfl); exact fun b => absurd b (by decide))
     all_goals first | exact fun _ => rfl | exact fun b => absurd b (by decide) | with_reducible exact Nat.le_refl _ | with_reducible exact List.suffix_refl _ | exact id | skip)

theorem within_cfgPut (s : State) (off : ℕ) (be : BitVec 4) (v : Word) :
    Within 0x80001A00204F8 s (State.cfgPut s off be v) := by
  unfold State.cfgPut
  repeat' first
  | with_reducible apply Within.refl
  | (with_reducible apply Within.after (within_functionReset _ _); · decide)
  | (with_reducible apply Within.after (within_cfgControl _ _); · decide)
  | (with_reducible apply Within.after (within_cfgMessages _ _); · decide)
  | split
  | (with_reducible apply Within.upd
     any_goals (fail_if_success (with_reducible exact fun _ => rfl); exact fun b => absurd b (by decide))
     all_goals first | exact fun _ => rfl | exact fun b => absurd b (by decide) | with_reducible exact Nat.le_refl _ | with_reducible exact List.suffix_refl _ | exact id | skip)

theorem within_complete (s : State) (r : Option (List Word)) :
    Within 0x8000000000080 s (State.complete s r) := by
  unfold State.complete
  repeat' first
  | with_reducible apply Within.refl
  | (with_reducible apply Within.after (within_aerNote _ _); · decide)
  | (with_reducible apply Within.after (within_emit _ _); · decide)
  | split

theorem within_copyTake (s : State) (r : ℕ) (ecc : Option ℕ) (ce : List ℕ) :
    Within 0x1C7CC s (State.copyTake s r ecc ce) := by
  unfold State.copyTake
  repeat' first
  | (extract_lets +onlyGivenNames x; first
      | (refine (fun (h : Within 0x1C7CC s x) => ?_) ?_; clear_value x; rotate_left; subst x; rotate_left)
      | (refine (fun (h : Within 0x1C7CC s x.1) => ?_) ?_; clear_value x; rotate_left; subst x; rotate_left)
      | (refine (fun (h : Within 0x1C7CC s x.2) => ?_) ?_; clear_value x; rotate_left; subst x; rotate_left)
      | (have e : x = fun y => x y := rfl; clear e; subst x)
      | clear_value x
      | skip)
  | with_reducible apply Within.refl
  | with_reducible assumption
  | (with_reducible apply Within.after (within_draw _ _); · decide)
  | (with_reducible apply Within.after (within_memUe _ _); · decide)
  | (with_reducible apply Within.after (within_hbmWrite _ _ _); · decide)
  | (with_reducible apply Within.after (within_ringReturn _ _ _ _); · decide)
  | (with_reducible apply Within.after (within_hostWrite _ _ _); · decide)
  | (with_reducible apply Within.after (within_memCe _ _); · decide)
  | with_reducible apply Within.foldl
  | (with_reducible intro y a h)
  | split

theorem within_readReg (s : State) (off : ℕ) :
    Within 0x30 s (State.readReg s off).1 := by
  unfold State.readReg
  repeat' first
  | with_reducible apply Within.refl
  | with_reducible assumption
  | (with_reducible apply Within.after (within_setStage _ _ _); · decide)
  | (with_reducible apply Within.after (within_setLatch _ _ _); · decide)
  | with_reducible apply Within.foldl
  | (with_reducible intro y a h)
  | split

theorem within_getDW (s : State) (q : Request) (off : ℕ) :
    Within 0x1C6F8 s (State.getDW s q off).1 := by
  unfold State.getDW
  repeat' first
  | (extract_lets +onlyGivenNames x; first
      | (refine (fun (h : Within 0x1C6F8 s x) => ?_) ?_; clear_value x; rotate_left; subst x; rotate_left)
      | (refine (fun (h : Within 0x1C6F8 s x.1) => ?_) ?_; clear_value x; rotate_left; subst x; rotate_left)
      | (refine (fun (h : Within 0x1C6F8 s x.2) => ?_) ?_; clear_value x; rotate_left; subst x; rotate_left)
      | clear_value x
      | skip)
  | with_reducible apply Within.refl
  | with_reducible assumption
  | (with_reducible apply Within.after (within_busError _ _ _ _); · decide)
  | (with_reducible apply Within.after (within_readReg _ _); · decide)
  | split

theorem within_hbmPuts (s : State) (a : ℕ) (x2 : List (Option Byte)) :
    Within 0x100 s (State.hbmPuts s a x2) := by
  induction x2 generalizing s a with
  | nil => exact Within.refl _
  | cons b l ih =>
    cases b with
    | none => exact ih s (a + 1)
    | some b => exact (within_hbmWrite s a [b]).trans (ih _ _)

theorem within_unsupported (s : State) :
    Within 0x8000000000080 s (State.unsupported s) := by
  unfold State.unsupported
  repeat' first
  | with_reducible apply Within.refl
  | (with_reducible apply Within.after (within_aerNote _ _); · decide)
  | (with_reducible apply Within.after (within_emit _ _); · decide)

theorem within_hbmAccess (s : State) (off : ℕ) (req : Bar2Req) (fbe : BitVec 4) (lbe : BitVec 4) :
    Within 0x800000001C7C8 s (State.hbmAccess s off req fbe lbe) := by
  unfold State.hbmAccess
  repeat' first
  | with_reducible apply Within.refl
  | with_reducible assumption
  | (with_reducible apply Within.after (within_memUe _ _); · decide)
  | (with_reducible apply Within.after (within_busError _ _ _ _); · decide)
  | (with_reducible apply Within.after (within_hbmPuts _ _ _); · decide)
  | (with_reducible apply Within.after (within_complete _ _); · decide)
  | (with_reducible apply Within.after (within_aerNote _ _); · decide)
  | (with_reducible apply Within.after (within_memCe _ _); · decide)
  | (with_reducible apply Within.after (within_unsupported _); · decide)
  | (with_reducible apply Within.after (within_emit _ _); · decide)
  | with_reducible apply Within.foldl
  | (with_reducible intro y a h)
  | split

theorem within_hostGet (s : State) (bar : Bar) (q : Request) (off : ℕ) (be : BitVec 4) :
    Within 0x1C6F8 s (State.hostGet s bar q off be).1 := by
  unfold State.hostGet
  repeat' first
  | (extract_lets +onlyGivenNames x; first
      | (refine (fun (h : Within 0x1C6F8 s x) => ?_) ?_; clear_value x; rotate_left; subst x; rotate_left)
      | (refine (fun (h : Within 0x1C6F8 s x.1) => ?_) ?_; clear_value x; rotate_left; subst x; rotate_left)
      | (refine (fun (h : Within 0x1C6F8 s x.2) => ?_) ?_; clear_value x; rotate_left; subst x; rotate_left)
      | clear_value x
      | skip)
  | with_reducible apply Within.refl
  | (with_reducible apply Within.after (within_busError _ _ _ _); · decide)
  | (with_reducible apply Within.after (within_getDW _ _ _); · decide)
  | split

theorem within_tablePut (s : State) (off : ℕ) (v : Word) :
    Within 0x80000 s (State.tablePut s off v) := by
  unfold State.tablePut
  repeat' first
  | with_reducible apply Within.refl
  | (with_reducible apply Within.after (within_setTw _ _ _); · decide)
  | split

theorem within_msixPut (s : State) (off : ℕ) (be : BitVec 4) (v : Word) :
    Within 0xC0 s (State.msixPut s off be v) := by
  unfold State.msixPut
  repeat' first
  | with_reducible apply Within.refl
  | (with_reducible apply Within.after (within_msixRelease _ _); · decide)
  | split
  | (with_reducible apply Within.upd
     any_goals (fail_if_success (with_reducible exact fun _ => rfl); exact fun b => absurd b (by decide))
     all_goals first | exact fun _ => rfl | exact fun b => absurd b (by decide) | with_reducible exact Nat.le_refl _ | with_reducible exact List.suffix_refl _ | exact id | skip)

theorem within_put (s : State) (e : Env) (q : Request) (off : ℕ) (v : Word) :
    Within 0x77FFFFFFFFFFFC s (State.put s e q off v).1 := by
  unfold State.put
  repeat' first
  | with_reducible apply Within.refl
  | (with_reducible apply Within.after (within_putDW _ _ _ _ _ _ within_bootWrite); · decide)
  | (with_reducible apply Within.after (within_bootWrite _ _ _); · decide)

theorem within_hostPut (s : State) (bar : Bar) (q : Request) (e : Env) (off : ℕ) (be : BitVec 4) (v : Word) :
    Within 0x7FFFFFFFFFFFFC s (State.hostPut s bar q e off be v) := by
  unfold State.hostPut
  repeat' first
  | (extract_lets +onlyGivenNames x; first
      | (refine (fun (h : Within 0x7FFFFFFFFFFFFC s x) => ?_) ?_; clear_value x; rotate_left; subst x; rotate_left)
      | (refine (fun (h : Within 0x7FFFFFFFFFFFFC s x.1) => ?_) ?_; clear_value x; rotate_left; subst x; rotate_left)
      | (refine (fun (h : Within 0x7FFFFFFFFFFFFC s x.2) => ?_) ?_; clear_value x; rotate_left; subst x; rotate_left)
      | clear_value x
      | skip)
  | with_reducible apply Within.refl
  | (with_reducible apply Within.after (within_busError _ _ _ _); · decide)
  | (with_reducible apply Within.after (within_tablePut _ _ _); · decide)
  | (with_reducible apply Within.after (within_msixPut _ _ _ _); · decide)
  | (with_reducible apply Within.after (within_put _ _ _ _ _); · decide)
  | (with_reducible apply Within.after (within_cfgPut _ _ _ _); · decide)
  | split

theorem within_hostGets (bar : Bar) (q : Request) (fbe : BitVec 4) (lbe : BitVec 4) (n : ℕ) (off : ℕ) (x6 : ℕ) (x7 : ℕ) (x8 : Option (List Word)) (s : State) :
    Within 0x1C6F8 s (hostGets bar q fbe lbe n off x6 x7 x8 s).1 := by
  induction x6 generalizing s x7 x8 with
  | zero =>
    unfold hostGets
    first | exact Within.refl _ | exact (Within.refl _).mono (by decide) | (split <;> exact Within.refl _)
  | succ n ih =>
    unfold hostGets
    repeat' first
    | (extract_lets +onlyGivenNames x; first
        | (refine (fun (h : Within 0x1C6F8 s x) => ?_) ?_; clear_value x; rotate_left; subst x; rotate_left)
        | (refine (fun (h : Within 0x1C6F8 s x.1) => ?_) ?_; clear_value x; rotate_left; subst x; rotate_left)
        | (refine (fun (h : Within 0x1C6F8 s x.2) => ?_) ?_; clear_value x; rotate_left; subst x; rotate_left)
        | clear_value x
        | skip)
    | with_reducible apply Within.refl
    | with_reducible assumption
    | (with_reducible apply Within.after (within_hostGet _ _ _ _ _); · decide)
    | (with_reducible apply Within.after (ih _ _ _); · decide)
    | split

theorem within_pairRead (s : State) (q : Request) (off : ℕ) :
    Within 0x1C6F8 s (State.pairRead s q off).1 := by
  unfold State.pairRead
  repeat' first
  | (extract_lets +onlyGivenNames x; first
      | (refine (fun (h : Within 0x1C6F8 s x) => ?_) ?_; clear_value x; rotate_left; subst x; rotate_left)
      | (refine (fun (h : Within 0x1C6F8 s x.1) => ?_) ?_; clear_value x; rotate_left; subst x; rotate_left)
      | (refine (fun (h : Within 0x1C6F8 s x.2) => ?_) ?_; clear_value x; rotate_left; subst x; rotate_left)
      | clear_value x
      | skip)
  | with_reducible apply Within.refl
  | with_reducible assumption
  | (with_reducible apply Within.after (within_busError _ _ _ _); · decide)
  | (with_reducible apply Within.after (within_readReg _ _); · decide)
  | split

theorem within_hostReads (s : State) (bar : Bar) (off : ℕ) (n : ℕ) (fbe : BitVec 4) (lbe : BitVec 4) :
    Within 0x800000001C6F8 s (State.hostReads s bar off n fbe lbe) := by
  unfold State.hostReads
  repeat' first
  | with_reducible apply Within.refl
  | (with_reducible apply Within.after (within_hostGets _ _ _ _ _ _ _ _ _ _); · decide)
  | (with_reducible apply Within.after (within_busError _ _ _ _); · decide)
  | (with_reducible apply Within.after (within_pairRead _ _ _); · decide)
  | (with_reducible apply Within.after (within_complete _ _); · decide)
  | (with_reducible apply Within.after (within_unsupported _); · decide)
  | split

theorem within_pairWrite (s : State) (q : Request) (e : Env) (off : ℕ) (lo : Word) (hi : Word) :
    Within 0x77FFFFFFFFFFFC s (State.pairWrite s q e off lo hi) := by
  unfold State.pairWrite
  repeat' first
  | (extract_lets +onlyGivenNames x; first
      | (refine (fun (h : Within 0x7FFFFFFFFFFFC s x) => ?_) ?_; clear_value x; rotate_left; subst x; rotate_left)
      | (refine (fun (h : Within 0x7FFFFFFFFFFFC s x.1) => ?_) ?_; clear_value x; rotate_left; subst x; rotate_left)
      | (refine (fun (h : Within 0x7FFFFFFFFFFFC s x.2) => ?_) ?_; clear_value x; rotate_left; subst x; rotate_left)
      | (have e : x = fun y => x y := rfl; clear e; subst x)
      | clear_value x
      | skip)
  | with_reducible apply Within.refl
  | (with_reducible apply Within.after (within_busError _ _ _ _); · decide)
  | (with_reducible apply Within.after (within_bootWrite _ _ _); · decide)
  | (with_reducible apply Within.after (within_setStage _ _ _); · decide)
  | (with_reducible apply Within.after (within_writeReg _ _ _ _ _ within_bootWrite); · decide)
  | split

theorem within_hostPuts (bar : Bar) (q : Request) (e : Env) (fbe : BitVec 4) (lbe : BitVec 4) (n : ℕ) (off : ℕ) (x7 : List Word) (x8 : ℕ) (s : State) :
    Within 0x7FFFFFFFFFFFFC s (hostPuts bar q e fbe lbe n off x7 x8 s) := by
  induction x7 generalizing s x8 with
  | nil =>
    unfold hostPuts
    first | exact Within.refl _ | exact (Within.refl _).mono (by decide) | (split <;> exact Within.refl _)
  | cons a l ih =>
    unfold hostPuts
    repeat' first
    | with_reducible apply Within.refl
    | (with_reducible apply Within.after (within_hostPut _ _ _ _ _ _ _); · decide)
    | (with_reducible apply Within.after (ih _ _); · decide)

theorem within_hostWrites (s : State) (bar : Bar) (off : ℕ) (data : List Word) (fbe : BitVec 4) (lbe : BitVec 4) (e : Env) :
    Within 0x7FFFFFFFFFFFFC s (State.hostWrites s bar off data fbe lbe e) := by
  unfold State.hostWrites
  repeat' first
  | (extract_lets +onlyGivenNames x; first
      | (refine (fun (h : Within 0x7FFFFFFFFFFFFC s x) => ?_) ?_; clear_value x; rotate_left; subst x; rotate_left)
      | (refine (fun (h : Within 0x7FFFFFFFFFFFFC s x.1) => ?_) ?_; clear_value x; rotate_left; subst x; rotate_left)
      | (refine (fun (h : Within 0x7FFFFFFFFFFFFC s x.2) => ?_) ?_; clear_value x; rotate_left; subst x; rotate_left)
      | clear_value x
      | skip)
  | with_reducible apply Within.refl
  | (with_reducible apply Within.after (within_busError _ _ _ _); · decide)
  | (with_reducible apply Within.after (within_pairWrite _ _ _ _ _ _); · decide)
  | (with_reducible apply Within.after (within_hostPuts _ _ _ _ _ _ _ _ _ _); · decide)
  | (with_reducible apply Within.after (within_aerNote _ _); · decide)
  | split

theorem within_poke (s : State) (off : ℕ) (v : Word) (e : Env) :
    Within 0x7FFFFFFFFFFFFC s (State.poke s off v e) := by
  unfold State.poke
  repeat' first
  | with_reducible apply Within.refl
  | (with_reducible apply Within.after (within_hostWrites _ _ _ _ _ _ _); · decide)

theorem within_postCompletion (s : State) (idx : ℕ) (tag : ℕ) (v : Word) (status : ℕ) :
    Within 0x1C6C8 s (State.postCompletion s idx tag v status) := by
  unfold State.postCompletion
  repeat' first
  | with_reducible apply Within.refl
  | (with_reducible apply Within.after (within_postOwed _ _ _); · decide)

theorem within_ring0Return (s : State) (d : List Byte) (idx : ℕ) (cpl : Bool) (v : Word) (status : ℕ) :
    Within 0x1C6C8 s (State.ring0Return s d idx cpl v status) := by
  unfold State.ring0Return
  repeat' first
  | with_reducible apply Within.refl
  | (with_reducible apply Within.after (within_postCompletion _ _ _ _ _); · decide)
  | (with_reducible apply Within.after (within_ringReturn _ _ _ _); · decide)
  | split

theorem within_runWrites (x0 : List (ℕ × Word)) (s : State) :
    Within 0x77FFFFFFFFFFFC s (runWrites x0 s).1 := by
  induction x0 generalizing s with
  | nil =>
    unfold runWrites
    first | exact Within.refl _ | exact (Within.refl _).mono (by decide) | (split <;> exact Within.refl _)
  | cons a l ih =>
    unfold runWrites
    repeat' first
    | (extract_lets +onlyGivenNames x; first
        | (refine (fun (h : Within 0x77FFFFFFFFFFFC s x) => ?_) ?_; clear_value x; rotate_left; subst x; rotate_left)
        | (refine (fun (h : Within 0x77FFFFFFFFFFFC s x.1) => ?_) ?_; clear_value x; rotate_left; subst x; rotate_left)
        | (refine (fun (h : Within 0x77FFFFFFFFFFFC s x.2) => ?_) ?_; clear_value x; rotate_left; subst x; rotate_left)
        | clear_value x
        | skip)
    | with_reducible apply Within.refl
    | with_reducible assumption
    | (with_reducible apply Within.after (within_put _ _ _ _ _); · decide)
    | (with_reducible apply Within.after (ih _); · decide)
    | split

theorem within_ring0Take (s : State) (ops : ℕ → Bool) :
    Within 0x77FFFFFFFFFFFC s (State.ring0Take s ops) := by
  unfold State.ring0Take
  extract_lets +onlyGivenNames d w op idx
  clear_value d w op idx
  split
  · exact Within.refl _
  · extract_lets +onlyGivenNames count cpl
    clear_value count cpl
    split
    · exact (within_ringExhaust _ _ _).mono (by decide)
    · extract_lets x t
      have ht : Within 0x77FFFFFFFFFFFC s t := (within_setRingX _ _ _).mono (by decide)
      clear_value t
      split
      · split
        · exact Within.after (within_ring0Return _ _ _ _ _ _) (by decide) ht
        · exact Within.after (within_ring0Return _ _ _ _ _ _) (by decide) (Within.after (within_runWrites _ _) (by decide) ht)
      · split
        · exact Within.after (within_ring0Return _ _ _ _ _ _) (by decide) (Within.after (within_getDW _ _ _) (by decide) ht)
        · exact Within.after (within_ring0Return _ _ _ _ _ _) (by decide) ht

theorem within_ringDmaError (s : State) (r : ℕ) (write : Bool) (work : Bool) (kind : ℕ) (addr : ℕ) :
    Within 0x80001A003C6C8 s (State.ringDmaError s r write work kind addr) := by
  unfold State.ringDmaError
  repeat' first
  | with_reducible apply Within.refl
  | (with_reducible apply Within.after (within_ringFail _ _ _ _ _ _); · decide)
  | (with_reducible apply Within.after (within_aerNote _ _); · decide)
  | split

theorem within_ringStopped (s : State) (r : ℕ) :
    Within 0x8 s (State.ringStopped s r) := by
  unfold State.ringStopped
  repeat' first
  | with_reducible apply Within.refl
  | (with_reducible apply Within.after (within_ringOff _ _); · decide)
  | split

theorem within_ringTimer (s : State) (r : ℕ) :
    Within 0x1C6C8 s (State.ringTimer s r) := by
  unfold State.ringTimer
  repeat' first
  | (extract_lets +onlyGivenNames x; first
      | (refine (fun (h : Within 0x1C6C8 s x) => ?_) ?_; clear_value x; rotate_left; subst x; rotate_left)
      | (refine (fun (h : Within 0x1C6C8 s x.1) => ?_) ?_; clear_value x; rotate_left; subst x; rotate_left)
      | (refine (fun (h : Within 0x1C6C8 s x.2) => ?_) ?_; clear_value x; rotate_left; subst x; rotate_left)
      | clear_value x
      | skip)
  | with_reducible apply Within.refl
  | (with_reducible apply Within.after (within_ringEvent _ _); · decide)
  | (with_reducible apply Within.after (within_setRingX _ _ _); · decide)
  | (with_reducible apply Within.after (within_setRb _ _ _ _); · decide)
  | split

theorem within_acRun (s : State) (idle : ℕ) :
    Within 0x80 s (State.acRun s idle) := by
  unfold State.acRun
  repeat' first
  | with_reducible apply Within.refl
  | split
  | (with_reducible apply Within.upd
     any_goals (fail_if_success (with_reducible exact fun _ => rfl); exact fun b => absurd b (by decide))
     all_goals first | exact fun _ => rfl | exact fun b => absurd b (by decide) | with_reducible exact Nat.le_refl _ | with_reducible exact List.suffix_refl _ | exact id | exact List.suffix_cons _ _ | skip)

theorem within_dataScan (s : State) (balls : BitVec 298) (shifted : BitVec 298) :
    Within 0x2000000000080 s (State.dataScan s balls shifted) := by
  unfold State.dataScan
  repeat' first
  | with_reducible apply Within.refl
  | (with_reducible apply Within.after (within_emit _ _); · decide)
  | split
  | (with_reducible apply Within.upd
     any_goals (fail_if_success (with_reducible exact fun _ => rfl); exact fun b => absurd b (by decide))
     all_goals first | exact fun _ => rfl | exact fun b => absurd b (by decide) | with_reducible exact Nat.le_refl _ | with_reducible exact List.suffix_refl _ | exact id | skip)

theorem within_jtagScan (s : State) (j : JtagScan) :
    Within 0x2000000000088 s (State.jtagScan s j) := by
  unfold State.jtagScan
  repeat' first
  | with_reducible apply Within.refl
  | (with_reducible apply Within.after (within_updateIr _ _); · decide)
  | (with_reducible apply Within.after (within_acRun _ _); · decide)
  | (with_reducible apply Within.after (within_dataScan _ _ _); · decide)
  | (with_reducible apply Within.after (within_emit _ _); · decide)
  | split

theorem within_period (s : State) :
    Within 0x30200187FFCECE s (State.period s) := by
  unfold State.period
  repeat' first
  | with_reducible apply Within.refl
  | (with_reducible apply Within.after (within_clockPeriod _); · decide)
  | (with_reducible apply Within.after (within_t1sJams _); · decide)

end Sys2Proof.Machine
end

