-- ==== Sys2Proof/Laws/WithinCommands.lean ====
section
/-! SUPPORT. What the meanings, one lemma per command: what it may change where it answers a next state may change: one lemma per function, its mask naming the fields of State as Laws/Within.lean numbers them. -/

-- One declaration after another: side by side, their threads' stacks pass the memory limit of a check.
set_option Elab.async false

namespace Sys2Proof.Machine

set_option linter.all false

/-- An access that lies inside its aperture answers what it does. -/
theorem inside_next {p : Prop} [Decidable p] {t u : State} (h : inside p t = .next u) : u = t := by
  unfold inside at h
  split at h
  · cases h; rfl
  · cases h

theorem within_execFltXfade (v : Word) (s : State) {t : State} (h : execFltXfade v s = .next t) :
    Within 0x7FFFFFFFFFFFFC s t := by
  unfold execFltXfade at h
  cases h
  all_goals repeat' first
  | with_reducible apply Within.refl
  | (with_reducible apply Within.after (within_poke _ _ _ _); · decide)

theorem within_execChannelHealthy (ch : Fin 96) (s : State) {t : State} (h : execChannelHealthy ch s = .next t) :
    Within 0x8 s t := by
  unfold execChannelHealthy at h
  cases h
  all_goals repeat' first
  | with_reducible apply Within.refl
  | (with_reducible apply Within.after (within_channelHealthy _ _); · decide)

theorem within_execNrgClear (v : Word) (s : State) {t : State} (h : execNrgClear v s = .next t) :
    Within 0x7FFFFFFFFFFFFC s t := by
  unfold execNrgClear at h
  cases h
  all_goals repeat' first
  | with_reducible apply Within.refl
  | (with_reducible apply Within.after (within_poke _ _ _ _); · decide)

theorem within_execRecorderStop (v : Word) (s : State) {t : State} (h : execRecorderStop v s = .next t) :
    Within 0x7FFFFFFFFFFFFC s t := by
  unfold execRecorderStop at h
  cases h
  all_goals repeat' first
  | with_reducible apply Within.refl
  | (with_reducible apply Within.after (within_poke _ _ _ _); · decide)

theorem within_execMarkHoldClose (s : State) {t : State} (h : execMarkHoldClose s = .next t) :
    Within 0x3C6C8 s t := by
  unfold execMarkHoldClose at h
  cases h
  all_goals repeat' first
  | with_reducible apply Within.refl
  | (with_reducible apply Within.after (within_markHoldClose _); · decide)

theorem within_execRecorderFrame (s : State) {t : State} (h : execRecorderFrame s = .next t) :
    Within 0x7C6C8 s t := by
  unfold execRecorderFrame at h
  cases h
  all_goals repeat' first
  | with_reducible apply Within.refl
  | (with_reducible apply Within.after (within_recorderFrame _); · decide)

theorem within_execEvtInEdge (i : Fin 16) (rising : Bool) (ph : ℕ) (held : ℕ) (s : State) {t : State} (h : execEvtInEdge i rising ph held s = .next t) :
    Within 0x80000001C6C8 s t := by
  unfold execEvtInEdge at h
  cases h
  all_goals repeat' first
  | with_reducible apply Within.refl
  | (with_reducible apply Within.after (within_evtInEdge _ _ _ _ _); · decide)

theorem within_execNrgCircuitEnable (c : Fin 12) (v : Word) (s : State) {t : State} (h : execNrgCircuitEnable c v s = .next t) :
    Within 0x7FFFFFFFFFFFFC s t := by
  unfold execNrgCircuitEnable at h
  cases h
  all_goals repeat' first
  | with_reducible apply Within.refl
  | (with_reducible apply Within.after (within_poke _ _ _ _); · decide)

theorem within_execAcqModFault (ch : Fin 96) (s : State) {t : State} (h : execAcqModFault ch s = .next t) :
    Within 0x11C6C8 s t := by
  unfold execAcqModFault at h
  cases h
  all_goals repeat' first
  | with_reducible apply Within.refl
  | (with_reducible apply Within.after (within_acqModFault _ _); · decide)

theorem within_execNrgLoad (v : Word) (s : State) {t : State} (h : execNrgLoad v s = .next t) :
    Within 0x7FFFFFFFFFFFFC s t := by
  unfold execNrgLoad at h
  cases h
  all_goals repeat' first
  | with_reducible apply Within.refl
  | (with_reducible apply Within.after (within_poke _ _ _ _); · decide)

theorem within_execRecorderStart (v : Word) (s : State) {t : State} (h : execRecorderStart v s = .next t) :
    Within 0x7FFFFFFFFFFFFC s t := by
  unfold execRecorderStart at h
  cases h
  all_goals repeat' first
  | with_reducible apply Within.refl
  | (with_reducible apply Within.after (within_poke _ _ _ _); · decide)

theorem within_execNrgSnap (v : Word) (s : State) {t : State} (h : execNrgSnap v s = .next t) :
    Within 0x7FFFFFFFFFFFFC s t := by
  unfold execNrgSnap at h
  cases h
  all_goals repeat' first
  | with_reducible apply Within.refl
  | (with_reducible apply Within.after (within_poke _ _ _ _); · decide)

theorem within_execPhasorEstimate (c : Fin 12) (s : State) {t : State} (h : execPhasorEstimate c s = .next t) :
    Within 0xC0049C6C8 s t := by
  unfold execPhasorEstimate at h
  cases h
  all_goals repeat' first
  | with_reducible apply Within.refl
  | (with_reducible apply Within.after (within_phasorEstimate _ _); · decide)

theorem within_execAcqCircuitDisable (c : Fin 12) (v : Word) (s : State) {t : State} (h : execAcqCircuitDisable c v s = .next t) :
    Within 0x7FFFFFFFFFFFFC s t := by
  unfold execAcqCircuitDisable at h
  cases h
  all_goals repeat' first
  | with_reducible apply Within.refl
  | (with_reducible apply Within.after (within_poke _ _ _ _); · decide)

theorem within_execNrgIntervalEnd (s : State) {t : State} (h : execNrgIntervalEnd s = .next t) :
    Within 0x2000000081C6C8 s t := by
  unfold execNrgIntervalEnd at h
  rw [Host.Outcome.next.injEq] at h
  subst h
  exact (within_nrgIntervalEnd _).mono (by decide)

theorem within_execAcqSample (ch : Fin 96) (tap : Fin 7) (periods : List ℕ) (levels : List Bool) (s : State) {t : State} (h : execAcqSample ch tap periods levels s = .next t) :
    Within 0x35C6C8 s t := by
  unfold execAcqSample at h
  cases h
  all_goals repeat' first
  | with_reducible apply Within.refl
  | (with_reducible apply Within.after (within_acqSample _ _ _ _); · decide)

theorem within_execAcqCircuitEnable (c : Fin 12) (v : Word) (s : State) {t : State} (h : execAcqCircuitEnable c v s = .next t) :
    Within 0x7FFFFFFFFFFFFC s t := by
  unfold execAcqCircuitEnable at h
  cases h
  all_goals repeat' first
  | with_reducible apply Within.refl
  | (with_reducible apply Within.after (within_poke _ _ _ _); · decide)

theorem within_execEnergyPeriod (c : Fin 12) (s : State) {t : State} (h : execEnergyPeriod c s = .next t) :
    Within 0x789C6C8 s t := by
  unfold execEnergyPeriod at h
  cases h
  all_goals repeat' first
  | with_reducible apply Within.refl
  | (with_reducible apply Within.after (within_energyPeriod _ _); · decide)

theorem within_execRecorderFlush (s : State) {t : State} (h : execRecorderFlush s = .next t) :
    Within 0x3C6C8 s t := by
  unfold execRecorderFlush at h
  cases h
  all_goals repeat' first
  | with_reducible apply Within.refl
  | (with_reducible apply Within.after (within_recorderFlush _); · decide)

theorem within_execPulseOutput (n : Fin 4) (s : State) {t : State} (h : execPulseOutput n s = .next t) :
    Within 0x4000088 s t := by
  unfold execPulseOutput at h
  cases h
  all_goals repeat' first
  | with_reducible apply Within.refl
  | (with_reducible apply Within.after (within_pulseOutput _ _); · decide)

theorem within_execPairHighWrite (reg : ℕ) (v : Word) (s : State) {t : State} (h : execPairHighWrite reg v s = .next t) :
    Within 0x7FFFFFFFFFFFFC s t := by
  unfold execPairHighWrite at h
  all_goals have h := inside_next h
  all_goals subst h
  all_goals repeat' first
  | with_reducible apply Within.refl
  | (with_reducible apply Within.after (within_poke _ _ _ _); · decide)

theorem within_execBar2Access (off : ℕ) (req : Bar2Req) (fbe : BitVec 4) (lbe : BitVec 4) (s : State) {t : State} (h : execBar2Access off req fbe lbe s = .next t) :
    Within 0x800000001C7C8 s t := by
  unfold execBar2Access at h
  all_goals have h := inside_next h
  all_goals subst h
  all_goals repeat' first
  | with_reducible apply Within.refl
  | (with_reducible apply Within.after (within_hbmAccess _ _ _ _ _); · decide)

theorem within_execBuserrClear (v : Word) (s : State) {t : State} (h : execBuserrClear v s = .next t) :
    Within 0x7FFFFFFFFFFFFC s t := by
  unfold execBuserrClear at h
  cases h
  all_goals repeat' first
  | with_reducible apply Within.refl
  | (with_reducible apply Within.after (within_poke _ _ _ _); · decide)

theorem within_execAtomicopRequest (s : State) {t : State} (h : execAtomicopRequest s = .next t) :
    Within 0x8000000000080 s t := by
  unfold execAtomicopRequest at h
  cases h
  all_goals repeat' first
  | with_reducible apply Within.refl
  | (with_reducible apply Within.after (within_unsupported _); · decide)
  | split

theorem within_execPairAtomicAccess (reg : ℕ) (v : Option (Word × Word)) (s : State) {t : State} (h : execPairAtomicAccess reg v s = .next t) :
    Within 0x7FFFFFFFFFFFFC s t := by
  unfold execPairAtomicAccess at h
  cases v <;> simp only [] at h
  all_goals have h := inside_next h
  all_goals subst h
  all_goals repeat' first
  | with_reducible apply Within.refl
  | (with_reducible apply Within.after (within_hostReads _ _ _ _ _ _); · decide)
  | (with_reducible apply Within.after (within_hostWrites _ _ _ _ _ _ _); · decide)

theorem within_execPairLowRead (bar : Bar) (off : ℕ) (n : ℕ) (fbe : BitVec 4) (lbe : BitVec 4) (s : State) {t : State} (h : execPairLowRead bar off n fbe lbe s = .next t) :
    Within 0x800000001C6F8 s t := by
  unfold execPairLowRead at h
  all_goals have h := inside_next h
  all_goals subst h
  all_goals repeat' first
  | with_reducible apply Within.refl
  | (with_reducible apply Within.after (within_hostReads _ _ _ _ _ _); · decide)

theorem within_execAliasWrite (view : View) (reg : ℕ) (v : Word) (be : BitVec 4) (s : State) {t : State} (h : execAliasWrite view reg v be s = .next t) :
    Within 0x7FFFFFFFFFFFFC s t := by
  unfold execAliasWrite at h
  all_goals have h := inside_next h
  all_goals subst h
  all_goals repeat' first
  | with_reducible apply Within.refl
  | (with_reducible apply Within.after (within_hostWrites _ _ _ _ _ _ _); · decide)

theorem within_execMemUeClear (v : Word) (s : State) {t : State} (h : execMemUeClear v s = .next t) :
    Within 0x7FFFFFFFFFFFFC s t := by
  unfold execMemUeClear at h
  cases h
  all_goals repeat' first
  | with_reducible apply Within.refl
  | (with_reducible apply Within.after (within_poke _ _ _ _); · decide)

theorem within_execGlbLockSet (v : Word) (s : State) {t : State} (h : execGlbLockSet v s = .next t) :
    Within 0x7FFFFFFFFFFFFC s t := by
  unfold execGlbLockSet at h
  cases h
  all_goals repeat' first
  | with_reducible apply Within.refl
  | (with_reducible apply Within.after (within_poke _ _ _ _); · decide)

theorem within_execRegisterWrite (bar : Bar) (off : ℕ) (data : List Word) (fbe : BitVec 4) (lbe : BitVec 4) (s : State) {t : State} (h : execRegisterWrite bar off data fbe lbe s = .next t) :
    Within 0x7FFFFFFFFFFFFC s t := by
  unfold execRegisterWrite at h
  all_goals have h := inside_next h
  all_goals subst h
  all_goals repeat' first
  | with_reducible apply Within.refl
  | (with_reducible apply Within.after (within_hostWrites _ _ _ _ _ _ _); · decide)

theorem within_execPairLowWrite (reg : ℕ) (v : Word) (s : State) {t : State} (h : execPairLowWrite reg v s = .next t) :
    Within 0x7FFFFFFFFFFFFC s t := by
  unfold execPairLowWrite at h
  all_goals have h := inside_next h
  all_goals subst h
  all_goals repeat' first
  | with_reducible apply Within.refl
  | (with_reducible apply Within.after (within_poke _ _ _ _); · decide)

theorem within_execGovEnable (v : Word) (s : State) {t : State} (h : execGovEnable v s = .next t) :
    Within 0x7FFFFFFFFFFFFC s t := by
  unfold execGovEnable at h
  cases h
  all_goals repeat' first
  | with_reducible apply Within.refl
  | (with_reducible apply Within.after (within_poke _ _ _ _); · decide)

theorem within_execTherm (temps : List ℤ) (s : State) {t : State} (h : execTherm temps s = .next t) :
    Within 0x1C6C8 s t := by
  unfold execTherm at h
  cases h
  all_goals repeat' first
  | with_reducible apply Within.refl
  | (with_reducible apply Within.after (within_therm _ _); · decide)

theorem within_execPwrDomainEnWrite (v : Word) (s : State) {t : State} (h : execPwrDomainEnWrite v s = .next t) :
    Within 0x7FFFFFFFFFFFFC s t := by
  unfold execPwrDomainEnWrite at h
  cases h
  all_goals repeat' first
  | with_reducible apply Within.refl
  | (with_reducible apply Within.after (within_poke _ _ _ _); · decide)

theorem within_execGovWindowEnd (s : State) {t : State} (h : execGovWindowEnd s = .next t) :
    Within 0x1C6C8 s t := by
  unfold execGovWindowEnd at h
  cases h
  all_goals repeat' first
  | with_reducible apply Within.refl
  | (with_reducible apply Within.after (within_windowEnd _); · decide)

theorem within_execPwrWake (s : State) {t : State} (h : execPwrWake s = .next t) :
    Within 0x35FFFFFFFFC7F8 s t := by
  unfold execPwrWake at h
  cases h
  all_goals repeat' first
  | with_reducible apply Within.refl
  | (with_reducible apply Within.after (within_wake _); · decide)

theorem within_execDeviceReset (v : Word) (s : State) {t : State} (h : execDeviceReset v s = .next t) :
    Within 0x7FFFFFFFFFFFFC s t := by
  unfold execDeviceReset at h
  cases h
  all_goals repeat' first
  | with_reducible apply Within.refl
  | (with_reducible apply Within.after (within_poke _ _ _ _); · decide)

theorem within_execPerst (s : State) {t : State} (h : execPerst s = .next t) :
    Within 0x80001A0024478 s t := by
  unfold execPerst at h
  cases h
  all_goals repeat' first
  | with_reducible apply Within.refl
  | (with_reducible apply Within.after (within_perst _); · decide)

theorem within_execGovReq (v : Word) (s : State) {t : State} (h : execGovReq v s = .next t) :
    Within 0x7FFFFFFFFFFFFC s t := by
  unfold execGovReq at h
  cases h
  all_goals repeat' first
  | with_reducible apply Within.refl
  | (with_reducible apply Within.after (within_poke _ _ _ _); · decide)

theorem within_execBankSupplyChange (b : Fin 4) (mv : ℕ) (s : State) {t : State} (h : execBankSupplyChange b mv s = .next t) :
    Within 0x4000 s t := by
  unfold execBankSupplyChange at h
  cases h
  all_goals repeat' first
  | with_reducible apply Within.refl
  | (with_reducible apply Within.after (within_bankSupply _ _ _); · decide)

theorem within_execPerstRelease (s : State) {t : State} (h : execPerstRelease s = .next t) :
    Within 0x8000000004000 s t := by
  unfold execPerstRelease at h
  cases h
  all_goals repeat' first
  | with_reducible apply Within.refl
  | (with_reducible apply Within.upd
     any_goals (fail_if_success (with_reducible exact fun _ => rfl); exact fun b => absurd b (by decide))
     all_goals first | exact fun _ => rfl | exact fun b => absurd b (by decide) | with_reducible exact Nat.le_refl _ | with_reducible exact List.suffix_refl _ | exact id | skip)

theorem within_execAvsResponse (r : Option ℕ) (s : State) {t : State} (h : execAvsResponse r s = .next t) :
    Within 0x1C6C8 s t := by
  unfold execAvsResponse at h
  cases h
  all_goals repeat' first
  | with_reducible apply Within.refl
  | (with_reducible apply Within.after (within_avsResponse _ _); · decide)

theorem within_execPwrRun (v : Word) (s : State) {t : State} (h : execPwrRun v s = .next t) :
    Within 0x7FFFFFFFFFFFFC s t := by
  unfold execPwrRun at h
  cases h
  all_goals repeat' first
  | with_reducible apply Within.refl
  | (with_reducible apply Within.after (within_poke _ _ _ _); · decide)

theorem within_execPwrDomainDone (s : State) {t : State} (h : execPwrDomainDone s = .next t) :
    Within 0x35FFFFFFFFC7F8 s t := by
  unfold execPwrDomainDone at h
  cases h
  all_goals repeat' first
  | with_reducible apply Within.refl
  | (with_reducible apply Within.after (within_domainDone _); · decide)

theorem within_execStartUp (pairId : Bool) (release : Release) (s : State) {t : State} (h : execStartUp pairId release s = .next t) :
    Within 0x35FFFFFFFFE7F8 s t := by
  unfold execStartUp at h
  cases h
  all_goals repeat' first
  | with_reducible apply Within.refl
  | (with_reducible apply Within.after (within_startUp _ _ _); · decide)

theorem within_execMainPowerOnReset (power : MainPower) (s : State) {t : State} (h : execMainPowerOnReset power s = .next t) :
    Within 0x7FFFFFFFFFFFF8 s t := by
  unfold execMainPowerOnReset at h
  cases h
  all_goals repeat' first
  | with_reducible apply Within.refl
  | (with_reducible apply Within.after (within_mainPower _ _); · decide)

theorem within_execPwrRecess (v : Word) (s : State) {t : State} (h : execPwrRecess v s = .next t) :
    Within 0x7FFFFFFFFFFFFC s t := by
  unfold execPwrRecess at h
  cases h
  all_goals repeat' first
  | with_reducible apply Within.refl
  | (with_reducible apply Within.after (within_poke _ _ _ _); · decide)

theorem within_execFunctionLevelReset (d3hot : Bool) (s : State) {t : State} (h : execFunctionLevelReset d3hot s = .next t) :
    Within 0x80001A0020478 s t := by
  unfold execFunctionLevelReset at h
  cases h
  all_goals repeat' first
  | with_reducible apply Within.refl
  | (with_reducible apply Within.after (within_functionReset _ _); · decide)
  | split

theorem within_execAutoRepair (c : Fin 32) (desks : DeskLoss) (ecc : EccMet) (s : State) {t : State} (h : execAutoRepair c desks ecc s = .next t) :
    Within 0x23C00001C7C8 s t := by
  unfold execAutoRepair at h
  cases h
  all_goals repeat' first
  | with_reducible apply Within.refl
  | (with_reducible apply Within.after (within_autoRepair _ _ _); · decide)

theorem within_execImgCache (v : Word) (s : State) {t : State} (h : execImgCache v s = .next t) :
    Within 0x7FFFFFFFFFFFFC s t := by
  unfold execImgCache at h
  cases h
  all_goals repeat' first
  | with_reducible apply Within.refl
  | (with_reducible apply Within.after (within_poke _ _ _ _); · decide)

theorem within_execImgLoad (v : Word) (desks : List (ℕ × ℕ)) (s : State) {t : State} (h : execImgLoad v desks s = .next t) :
    Within 0x7FFFFFFFFFFFFC s t := by
  unfold execImgLoad at h
  cases h
  all_goals repeat' first
  | with_reducible apply Within.refl
  | (with_reducible apply Within.after (within_poke _ _ _ _); · decide)

theorem within_execUnload (v : Word) (s : State) {t : State} (h : execUnload v s = .next t) :
    Within 0x7FFFFFFFFFFFFC s t := by
  unfold execUnload at h
  cases h
  all_goals repeat' first
  | with_reducible apply Within.refl
  | (with_reducible apply Within.after (within_poke _ _ _ _); · decide)

theorem within_execRepair (v : Word) (desks : DeskLoss) (ecc : EccMet) (s : State) {t : State} (h : execRepair v desks ecc s = .next t) :
    Within 0x7FFFFFFFFFFFFC s t := by
  unfold execRepair at h
  cases h
  all_goals repeat' first
  | with_reducible apply Within.refl
  | (with_reducible apply Within.after (within_poke _ _ _ _); · decide)

theorem within_execUpdate (v : Word) (desks : DeskLoss) (ecc : EccMet) (s : State) {t : State} (h : execUpdate v desks ecc s = .next t) :
    Within 0x7FFFFFFFFFFFFC s t := by
  unfold execUpdate at h
  cases h
  all_goals repeat' first
  | with_reducible apply Within.refl
  | (with_reducible apply Within.after (within_poke _ _ _ _); · decide)

theorem within_execBootLoad (bad : List (ℕ × ℕ)) (desks : List (ℕ × ℕ)) (s : State) {t : State} (h : execBootLoad bad desks s = .next t) :
    Within 0x77FFFFFFFFFFFC s t := by
  unfold execBootLoad at h
  cases h
  all_goals repeat' first
  | with_reducible apply Within.refl
  | (with_reducible apply Within.after (within_bootLoad _ _ _ _ within_bootWrite); · decide)
  | (with_reducible apply Within.after (within_bootWrite _ _ _); · decide)

theorem within_execStepGo (n : Fin 4) (v : Word) (s : State) {t : State} (h : execStepGo n v s = .next t) :
    Within 0x7FFFFFFFFFFFFC s t := by
  unfold execStepGo at h
  cases h
  all_goals repeat' first
  | with_reducible apply Within.refl
  | (with_reducible apply Within.after (within_poke _ _ _ _); · decide)

theorem within_execTbDisable (n : Fin 4) (v : Word) (s : State) {t : State} (h : execTbDisable n v s = .next t) :
    Within 0x7FFFFFFFFFFFFC s t := by
  unfold execTbDisable at h
  cases h
  all_goals repeat' first
  | with_reducible apply Within.refl
  | (with_reducible apply Within.after (within_poke _ _ _ _); · decide)

theorem within_execBatLowSample (mv : ℕ) (s : State) {t : State} (h : execBatLowSample mv s = .next t) :
    Within 0x8 s t := by
  unfold execBatLowSample at h
  cases h
  all_goals repeat' first
  | with_reducible apply Within.refl
  | (with_reducible apply Within.after (within_batSample _ _); · decide)

theorem within_execRtcLoadApply (s : State) {t : State} (h : execRtcLoadApply s = .next t) :
    Within 0x1E6C8 s t := by
  unfold execRtcLoadApply at h
  cases h
  all_goals repeat' first
  | with_reducible apply Within.refl
  | (with_reducible apply Within.after (within_crystalTick _); · decide)
  | split

theorem within_execStepApply (n : Fin 4) (s : State) {t : State} (h : execStepApply n s = .next t) :
    Within 0x30200007FFCECE s t := by
  unfold execStepApply at h
  cases h
  all_goals repeat' first
  | with_reducible apply Within.refl
  | (with_reducible apply Within.after (within_stepApply _ _); · decide)

theorem within_execHoldReq (n : Fin 4) (v : Word) (s : State) {t : State} (h : execHoldReq n v s = .next t) :
    Within 0x7FFFFFFFFFFFFC s t := by
  unfold execHoldReq at h
  cases h
  all_goals repeat' first
  | with_reducible apply Within.refl
  | (with_reducible apply Within.after (within_poke _ _ _ _); · decide)

theorem within_execTbRateCommit (n : Fin 4) (v : Word) (s : State) {t : State} (h : execTbRateCommit n v s = .next t) :
    Within 0x7FFFFFFFFFFFFC s t := by
  unfold execTbRateCommit at h
  cases h
  all_goals repeat' first
  | with_reducible apply Within.refl
  | (with_reducible apply Within.after (within_poke _ _ _ _); · decide)

theorem within_execPpsInEdge (rising : Bool) (width : ℕ) (ph : ℕ) (s : State) {t : State} (h : execPpsInEdge rising width ph s = .next t) :
    Within 0x4000000001CEC8 s t := by
  unfold execPpsInEdge at h
  cases h
  all_goals repeat' first
  | with_reducible apply Within.refl
  | (with_reducible apply Within.after (within_ppsIn _ _ _ _); · decide)

theorem within_execTsqPop (p : Fin 4) (v : Word) (s : State) {t : State} (h : execTsqPop p v s = .next t) :
    Within 0x7FFFFFFFFFFFFC s t := by
  unfold execTsqPop at h
  cases h
  all_goals repeat' first
  | with_reducible apply Within.refl
  | (with_reducible apply Within.after (within_poke _ _ _ _); · decide)

theorem within_execTbMpdSample (n : Fin 4) (v : Word) (s : State) {t : State} (h : execTbMpdSample n v s = .next t) :
    Within 0x7FFFFFFFFFFFFC s t := by
  unfold execTbMpdSample at h
  cases h
  all_goals repeat' first
  | with_reducible apply Within.refl
  | (with_reducible apply Within.after (within_poke _ _ _ _); · decide)

theorem within_execCrystalTick (s : State) {t : State} (h : execCrystalTick s = .next t) :
    Within 0x1E6C8 s t := by
  unfold execCrystalTick at h
  cases h
  all_goals repeat' first
  | with_reducible apply Within.refl
  | (with_reducible apply Within.after (within_crystalTick _); · decide)

theorem within_execSwitchToVio18 (s : State) {t : State} (h : execSwitchToVio18 s = .next t) :
    Within 0x1E6C8 s t := by
  unfold execSwitchToVio18 at h
  cases h
  all_goals repeat' first
  | with_reducible apply Within.refl
  | (with_reducible apply Within.after (within_toVio18 _); · decide)

theorem within_execTbEnable (n : Fin 4) (v : Word) (s : State) {t : State} (h : execTbEnable n v s = .next t) :
    Within 0x7FFFFFFFFFFFFC s t := by
  unfold execTbEnable at h
  cases h
  all_goals repeat' first
  | with_reducible apply Within.refl
  | (with_reducible apply Within.after (within_poke _ _ _ _); · decide)

theorem within_execPpsOutPulse (n : Fin 4) (s : State) {t : State} (h : execPpsOutPulse n s = .next t) :
    Within 0x1CEC8 s t := by
  unfold execPpsOutPulse at h
  cases h
  all_goals repeat' first
  | with_reducible apply Within.refl
  | (with_reducible apply Within.after (within_ppsOut _ _); · decide)

theorem within_execLeapSecondApply (n : Fin 4) (s : State) {t : State} (h : execLeapSecondApply n s = .next t) :
    Within 0x808 s t := by
  unfold execLeapSecondApply at h
  cases h
  all_goals repeat' first
  | with_reducible apply Within.refl
  | (with_reducible apply Within.after (within_leapApply _ _); · decide)

theorem within_execHoldRel (n : Fin 4) (v : Word) (s : State) {t : State} (h : execHoldRel n v s = .next t) :
    Within 0x7FFFFFFFFFFFFC s t := by
  unfold execHoldRel at h
  cases h
  all_goals repeat' first
  | with_reducible apply Within.refl
  | (with_reducible apply Within.after (within_poke _ _ _ _); · decide)

theorem within_execRtcLoadArm (v : Word) (s : State) {t : State} (h : execRtcLoadArm v s = .next t) :
    Within 0x7FFFFFFFFFFFFC s t := by
  unfold execRtcLoadArm at h
  cases h
  all_goals repeat' first
  | with_reducible apply Within.refl
  | (with_reducible apply Within.after (within_poke _ _ _ _); · decide)

theorem within_execRtcAlarm (s : State) {t : State} (h : execRtcAlarm s = .next t) :
    Within 0x1E6C8 s t := by
  unfold execRtcAlarm at h
  cases h
  all_goals repeat' first
  | with_reducible apply Within.refl
  | (with_reducible apply Within.after (within_crystalTick _); · decide)
  | split

theorem within_execPllLossOfLock (s : State) {t : State} (h : execPllLossOfLock s = .next t) :
    Within 0x1CEC8 s t := by
  unfold execPllLossOfLock at h
  cases h
  all_goals repeat' first
  | with_reducible apply Within.refl
  | (with_reducible apply Within.after (within_pllLoss _); · decide)

theorem within_execOscStop (s : State) {t : State} (h : execOscStop s = .next t) :
    Within 0x8 s t := by
  unfold execOscStop at h
  cases h
  all_goals repeat' first
  | with_reducible apply Within.refl
  | (with_reducible apply Within.after (within_oscStop _); · decide)

theorem within_execSwitchToVbat (s : State) {t : State} (h : execSwitchToVbat s = .next t) :
    Within 0x2028 s t := by
  unfold execSwitchToVbat at h
  cases h
  all_goals repeat' first
  | with_reducible apply Within.refl
  | (with_reducible apply Within.after (within_toVbat _); · decide)

theorem within_execPdAonPowerOnReset (s : State) {t : State} (h : execPdAonPowerOnReset s = .next t) :
    Within 0x1000000002038 s t := by
  unfold execPdAonPowerOnReset at h
  cases h
  all_goals repeat' first
  | with_reducible apply Within.refl
  | (with_reducible apply Within.after (within_rtcPor _); · decide)
  | (with_reducible apply Within.after (within_keyAonPor _); · decide)

theorem within_execTbWatchdogExpiry (n : Fin 4) (s : State) {t : State} (h : execTbWatchdogExpiry n s = .next t) :
    Within 0x1CEC8 s t := by
  unfold execTbWatchdogExpiry at h
  cases h
  all_goals repeat' first
  | with_reducible apply Within.refl
  | (with_reducible apply Within.after (within_tbWatchdog _ _); · decide)

theorem within_execLeapPendStart (n : Fin 4) (s : State) {t : State} (h : execLeapPendStart n s = .next t) :
    Within 0x8 s t := by
  unfold execLeapPendStart at h
  cases h
  all_goals repeat' first
  | with_reducible apply Within.refl
  | (with_reducible apply Within.after (within_leapPend _ _); · decide)

theorem within_execPllLock (s : State) {t : State} (h : execPllLock s = .next t) :
    Within 0x8 s t := by
  unfold execPllLock at h
  cases h
  all_goals repeat' first
  | with_reducible apply Within.refl
  | (with_reducible apply Within.after (within_setRb _ _ _ _); · decide)

theorem within_execLeapOccExpiry (n : Fin 4) (s : State) {t : State} (h : execLeapOccExpiry n s = .next t) :
    Within 0x8 s t := by
  unfold execLeapOccExpiry at h
  cases h
  all_goals repeat' first
  | with_reducible apply Within.refl
  | (with_reducible apply Within.after (within_leapExpire _ _); · decide)

theorem within_execT1sBackoffExpiry (g : Fin 4) (s : State) {t : State} (h : execT1sBackoffExpiry g s = .next t) :
    Within 0x80000008 s t := by
  unfold execT1sBackoffExpiry at h
  cases h
  all_goals repeat' first
  | with_reducible apply Within.refl
  | (with_reducible apply Within.after (within_t1sBackoffExpiry _ _); · decide)

theorem within_execT1sDeferEnd (g : Fin 4) (s : State) {t : State} (h : execT1sDeferEnd g s = .next t) :
    Within 0x80000008 s t := by
  unfold execT1sDeferEnd at h
  cases h
  all_goals repeat' first
  | with_reducible apply Within.refl
  | (with_reducible apply Within.after (within_t1sDeferEnd _ _); · decide)

theorem within_execFrameReceive (p : Fin 4) (bs : List Byte) (pcsErr : Bool) (ph : ℕ) (full : Bool) (s : State) {t : State} (h : execFrameReceive p bs pcsErr ph full s = .next t) :
    Within 0x4801C6C8 s t := by
  unfold execFrameReceive at h
  cases h
  all_goals repeat' first
  | with_reducible apply Within.refl
  | (with_reducible apply Within.after (within_frameReceive _ _ _ _ _ _); · decide)

theorem within_execPrpLanFault (q : Fin 2) (lan : Fin 2) (s : State) {t : State} (h : execPrpLanFault q lan s = .next t) :
    Within 0x1C6C8 s t := by
  unfold execPrpLanFault at h
  cases h
  all_goals repeat' first
  | with_reducible apply Within.refl
  | (with_reducible apply Within.after (within_prpLanFault _ _ _); · decide)

theorem within_execMacTransmit (p : Fin 4) (ph : ℕ) (s : State) {t : State} (h : execMacTransmit p ph s = .next t) :
    Within 0x3001D6C8 s t := by
  unfold execMacTransmit at h
  cases h
  all_goals repeat' first
  | with_reducible apply Within.refl
  | (with_reducible apply Within.after (within_macTransmit _ _ _); · decide)

theorem within_execT1sSendComplete (g : Fin 4) (s : State) {t : State} (h : execT1sSendComplete g s = .next t) :
    Within 0x18001C6C8 s t := by
  unfold execT1sSendComplete at h
  cases h
  all_goals repeat' first
  | with_reducible apply Within.refl
  | (with_reducible apply Within.after (within_t1sSendComplete _ _); · decide)

theorem within_execT1sReceive (g : Fin 4) (bs : List Byte) (full : Bool) (s : State) {t : State} (h : execT1sReceive g bs full s = .next t) :
    Within 0x8001C6C8 s t := by
  unfold execT1sReceive at h
  cases h
  all_goals repeat' first
  | with_reducible apply Within.refl
  | (with_reducible apply Within.after (within_t1sReceive _ _ _ _); · decide)

theorem within_execMacCtrlWrite (p : Fin 4) (v : Word) (s : State) {t : State} (h : execMacCtrlWrite p v s = .next t) :
    Within 0x7FFFFFFFFFFFFC s t := by
  unfold execMacCtrlWrite at h
  cases h
  all_goals repeat' first
  | with_reducible apply Within.refl
  | (with_reducible apply Within.after (within_poke _ _ _ _); · decide)

theorem within_execT1sDescriptorTake (s : State) {t : State} (h : execT1sDescriptorTake s = .next t) :
    Within 0x38001C6C8 s t := by
  unfold execT1sDescriptorTake at h
  cases h
  all_goals repeat' first
  | with_reducible apply Within.refl
  | (with_reducible apply Within.after (within_t1sTake _); · decide)

theorem within_execT1sCollision (g : Fin 4) (bits : ℕ) (s : State) {t : State} (h : execT1sCollision g bits s = .next t) :
    Within 0x18001C6C8 s t := by
  unfold execT1sCollision at h
  cases h
  all_goals repeat' first
  | with_reducible apply Within.refl
  | (with_reducible apply Within.after (within_t1sCollision _ _ _); · decide)

theorem within_execMacLink (p : Fin 4) (block : Bool) (fec : FecReport) (s : State) {t : State} (h : execMacLink p block fec s = .next t) :
    Within 0x1C6C8 s t := by
  unfold execMacLink at h
  cases h
  all_goals repeat' first
  | with_reducible apply Within.refl
  | (with_reducible apply Within.after (within_macLinkChange _ _ _ _ _ _); · decide)

theorem within_execT1sSeedWrite (v : Word) (s : State) {t : State} (h : execT1sSeedWrite v s = .next t) :
    Within 0x7FFFFFFFFFFFFC s t := by
  unfold execT1sSeedWrite at h
  cases h
  all_goals repeat' first
  | with_reducible apply Within.refl
  | (with_reducible apply Within.after (within_poke _ _ _ _); · decide)

theorem within_execSeatAdd (v : Word) (s : State) {t : State} (h : execSeatAdd v s = .next t) :
    Within 0x7FFFFFFFFFFFFC s t := by
  unfold execSeatAdd at h
  cases h
  all_goals repeat' first
  | with_reducible apply Within.refl
  | (with_reducible apply Within.after (within_poke _ _ _ _); · decide)

theorem within_execRclEnable (v : Word) (s : State) {t : State} (h : execRclEnable v s = .next t) :
    Within 0x7FFFFFFFFFFFFC s t := by
  unfold execRclEnable at h
  cases h
  all_goals repeat' first
  | with_reducible apply Within.refl
  | (with_reducible apply Within.after (within_poke _ _ _ _); · decide)

theorem within_execFrameFile (s : State) {t : State} (h : execFrameFile s = .next t) :
    Within 0x10D9C1009C7CC s t := by
  unfold execFrameFile at h
  cases h
  all_goals repeat' first
  | with_reducible apply Within.refl
  | (with_reducible apply Within.after (within_frameFile _); · decide)

theorem within_execStreamSilent (code : ℕ) (s : State) {t : State} (h : execStreamSilent code s = .next t) :
    Within 0x9C6C8 s t := by
  unfold execStreamSilent at h
  cases h
  all_goals repeat' first
  | with_reducible apply Within.refl
  | (with_reducible apply Within.after (within_streamSilent _ _); · decide)

theorem within_execSeatMove (v : Word) (s : State) {t : State} (h : execSeatMove v s = .next t) :
    Within 0x7FFFFFFFFFFFFC s t := by
  unfold execSeatMove at h
  cases h
  all_goals repeat' first
  | with_reducible apply Within.refl
  | (with_reducible apply Within.after (within_poke _ _ _ _); · decide)

theorem within_execFormStop (v : Word) (s : State) {t : State} (h : execFormStop v s = .next t) :
    Within 0x7FFFFFFFFFFFFC s t := by
  unfold execFormStop at h
  cases h
  all_goals repeat' first
  | with_reducible apply Within.refl
  | (with_reducible apply Within.after (within_poke _ _ _ _); · decide)

theorem within_execFormRetime (v : Word) (s : State) {t : State} (h : execFormRetime v s = .next t) :
    Within 0x7FFFFFFFFFFFFC s t := by
  unfold execFormRetime at h
  cases h
  all_goals repeat' first
  | with_reducible apply Within.refl
  | (with_reducible apply Within.after (within_poke _ _ _ _); · decide)

theorem within_execIntakeFrame (p : Fin 4) (s : State) {t : State} (h : execIntakeFrame p s = .next t) :
    Within 0x1006C0809C6C8 s t := by
  unfold execIntakeFrame at h
  cases h
  all_goals repeat' first
  | with_reducible apply Within.refl
  | (with_reducible apply Within.after (within_intakeFrame _ _); · decide)

theorem within_execSeatRemove (v : Word) (s : State) {t : State} (h : execSeatRemove v s = .next t) :
    Within 0x7FFFFFFFFFFFFC s t := by
  unfold execSeatRemove at h
  cases h
  all_goals repeat' first
  | with_reducible apply Within.refl
  | (with_reducible apply Within.after (within_poke _ _ _ _); · decide)

theorem within_execRollRelease (s : State) {t : State} (h : execRollRelease s = .next t) :
    Within 0x12D9C1009C7CC s t := by
  unfold execRollRelease at h
  cases h
  all_goals repeat' first
  | with_reducible apply Within.refl
  | (with_reducible apply Within.after (within_bells _); · decide)

theorem within_execFormStart (v : Word) (s : State) {t : State} (h : execFormStart v s = .next t) :
    Within 0x7FFFFFFFFFFFFC s t := by
  unfold execFormStart at h
  cases h
  all_goals repeat' first
  | with_reducible apply Within.refl
  | (with_reducible apply Within.after (within_poke _ _ _ _); · decide)

theorem within_execReplicaMeasure (c : Fin 32) (ps : ℕ) (s : State) {t : State} (h : execReplicaMeasure c ps s = .next t) :
    Within 0x8 s t := by
  unfold execReplicaMeasure at h
  cases h
  all_goals repeat' first
  | with_reducible apply Within.refl
  | (with_reducible apply Within.after (within_replica _ _ _); · decide)

theorem within_execSlateParityError (c : Fin 32) (p : Fin 136) (s : State) {t : State} (h : execSlateParityError c p s = .next t) :
    Within 0x21800001C6C8 s t := by
  unfold execSlateParityError at h
  cases h
  all_goals repeat' first
  | with_reducible apply Within.refl
  | (with_reducible apply Within.after (within_slateParity _ _ _); · decide)

theorem within_execLatchClear (v : Word) (s : State) {t : State} (h : execLatchClear v s = .next t) :
    Within 0x7FFFFFFFFFFFFC s t := by
  unfold execLatchClear at h
  cases h
  all_goals repeat' first
  | with_reducible apply Within.refl
  | (with_reducible apply Within.after (within_poke _ _ _ _); · decide)

theorem within_execSelfCheck (c : Fin 32) (v : Word) (bad : List ℕ) (s : State) {t : State} (h : execSelfCheck c v bad s = .next t) :
    Within 0x7FFFFFFFFFFFFC s t := by
  unfold execSelfCheck at h
  cases h
  all_goals repeat' first
  | with_reducible apply Within.refl
  | (with_reducible apply Within.after (within_poke _ _ _ _); · decide)

theorem within_execChalkboardUe (c : Fin 32) (rd : BoardRead) (s : State) {t : State} (h : execChalkboardUe c rd s = .next t) :
    Within 0x800001C6C8 s t := by
  unfold execChalkboardUe at h
  cases h
  all_goals repeat' first
  | with_reducible apply Within.refl
  | (with_reducible apply Within.after (within_chalkboardUe _ _ _ _); · decide)

theorem within_execSpareCheck (bad : List (ℕ × ℕ)) (s : State) {t : State} (h : execSpareCheck bad s = .next t) :
    Within 0x21800001C6C8 s t := by
  unfold execSpareCheck at h
  cases h
  all_goals repeat' first
  | with_reducible apply Within.refl
  | (with_reducible apply Within.after (within_spareCheck _ _); · decide)

theorem within_execAnaCommit (v : Word) (s : State) {t : State} (h : execAnaCommit v s = .next t) :
    Within 0x7FFFFFFFFFFFFC s t := by
  unfold execAnaCommit at h
  cases h
  all_goals repeat' first
  | with_reducible apply Within.refl
  | (with_reducible apply Within.after (within_poke _ _ _ _); · decide)

theorem within_execReportCardPublish (i : Fin 64) (s : State) {t : State} (h : execReportCardPublish i s = .next t) :
    Within 0x16FC01001C7CC s t := by
  unfold execReportCardPublish at h
  cases h
  all_goals repeat' first
  | with_reducible apply Within.refl
  | (with_reducible apply Within.after (within_reportCardPublish _ _); · decide)

theorem within_execLessonBegin (i : Fin 64) (s : State) {t : State} (h : execLessonBegin i s = .next t) :
    Within 0x1800001C6C8 s t := by
  unfold execLessonBegin at h
  cases h
  all_goals repeat' first
  | with_reducible apply Within.refl
  | (with_reducible apply Within.after (within_lessonBegin _ _); · decide)

theorem within_execDeskWatchdogExpiry (c : Fin 32) (p : DeskWatch) (s : State) {t : State} (h : execDeskWatchdogExpiry c p s = .next t) :
    Within 0x21800001C6C8 s t := by
  unfold execDeskWatchdogExpiry at h
  cases h
  all_goals repeat' first
  | with_reducible apply Within.refl
  | (with_reducible apply Within.after (within_deskWatchdog _ _ _ _); · decide)

theorem within_execResultRecord (c : Fin 32) (d : Fin 128) (tag : Fin 8) (stuck : List ℕ) (ce : ℕ) (s : State) {t : State} (h : execResultRecord c d tag stuck ce s = .next t) :
    Within 0x800001C6C8 s t := by
  unfold execResultRecord at h
  cases h
  all_goals repeat' first
  | with_reducible apply Within.refl
  | (with_reducible apply Within.after (within_resultRecord _ _ _ _ _ _); · decide)

theorem within_execTimerArm (v : Word) (s : State) {t : State} (h : execTimerArm v s = .next t) :
    Within 0x7FFFFFFFFFFFFC s t := by
  unfold execTimerArm at h
  cases h
  all_goals repeat' first
  | with_reducible apply Within.refl
  | (with_reducible apply Within.after (within_poke _ _ _ _); · decide)

theorem within_execTaskDestroy (v : Word) (s : State) {t : State} (h : execTaskDestroy v s = .next t) :
    Within 0x7FFFFFFFFFFFFC s t := by
  unfold execTaskDestroy at h
  cases h
  all_goals repeat' first
  | with_reducible apply Within.refl
  | (with_reducible apply Within.after (within_poke _ _ _ _); · decide)

theorem within_execTimerFire (s : State) {t : State} (h : execTimerFire s = .next t) :
    Within 0x12D9C1009C7CC s t := by
  unfold execTimerFire at h
  cases h
  all_goals repeat' first
  | with_reducible apply Within.refl
  | (with_reducible apply Within.after (within_bells _); · decide)

theorem within_execTaskEngineComplete (i : ℕ) (s : State) {t : State} (h : execTaskEngineComplete i s = .next t) :
    Within 0x20000001C6C8 s t := by
  unfold execTaskEngineComplete at h
  cases h
  all_goals repeat' first
  | with_reducible apply Within.refl
  | (with_reducible apply Within.after (within_engineComplete _ _); · decide)

theorem within_execTimerDisarm (v : Word) (s : State) {t : State} (h : execTimerDisarm v s = .next t) :
    Within 0x7FFFFFFFFFFFFC s t := by
  unfold execTimerDisarm at h
  cases h
  all_goals repeat' first
  | with_reducible apply Within.refl
  | (with_reducible apply Within.after (within_poke _ _ _ _); · decide)

theorem within_execTaskCreate (v : Word) (s : State) {t : State} (h : execTaskCreate v s = .next t) :
    Within 0x7FFFFFFFFFFFFC s t := by
  unfold execTaskCreate at h
  cases h
  all_goals repeat' first
  | with_reducible apply Within.refl
  | (with_reducible apply Within.after (within_poke _ _ _ _); · decide)

theorem within_execFlagSet (v : Word) (s : State) {t : State} (h : execFlagSet v s = .next t) :
    Within 0x7FFFFFFFFFFFFC s t := by
  unfold execFlagSet at h
  cases h
  all_goals repeat' first
  | with_reducible apply Within.refl
  | (with_reducible apply Within.after (within_poke _ _ _ _); · decide)

theorem within_execTaskDone (v : Word) (s : State) {t : State} (h : execTaskDone v s = .next t) :
    Within 0x7FFFFFFFFFFFFC s t := by
  unfold execTaskDone at h
  cases h
  all_goals repeat' first
  | with_reducible apply Within.refl
  | (with_reducible apply Within.after (within_poke _ _ _ _); · decide)

theorem within_execDispatch (sets : List (ℕ × Word)) (s : State) {t : State} (h : execDispatch sets s = .next t) :
    Within 0x20000001C6C8 s t := by
  unfold execDispatch at h
  cases h
  all_goals repeat' first
  | with_reducible apply Within.refl
  | (with_reducible apply Within.after (within_dispatch _ _); · decide)

theorem within_execRingWrite (s : State) {t : State} (h : execRingWrite s = .next t) :
    Within 0x77FFFFFFFFFFFC s t := by
  unfold execRingWrite at h
  cases h
  all_goals repeat' first
  | with_reducible apply Within.refl
  | (with_reducible apply Within.after (within_ring0Take _ _); · decide)

theorem within_execEvtStatusClear (k : Fin 2) (v : Word) (s : State) {t : State} (h : execEvtStatusClear k v s = .next t) :
    Within 0x7FFFFFFFFFFFFC s t := by
  unfold execEvtStatusClear at h
  cases h
  all_goals repeat' first
  | with_reducible apply Within.refl
  | (with_reducible apply Within.after (within_poke _ _ _ _); · decide)

theorem within_execRingCoalesceTimer (r : Fin 32) (s : State) {t : State} (h : execRingCoalesceTimer r s = .next t) :
    Within 0x1C6C8 s t := by
  unfold execRingCoalesceTimer at h
  cases h
  all_goals repeat' first
  | with_reducible apply Within.refl
  | (with_reducible apply Within.after (within_ringTimer _ _); · decide)

theorem within_execRingStopped (r : Fin 32) (s : State) {t : State} (h : execRingStopped r s = .next t) :
    Within 0x8 s t := by
  unfold execRingStopped at h
  cases h
  all_goals repeat' first
  | with_reducible apply Within.refl
  | (with_reducible apply Within.after (within_ringStopped _ _); · decide)

theorem within_execRingEnable (r : Fin 32) (v : Word) (s : State) {t : State} (h : execRingEnable r v s = .next t) :
    Within 0x7FFFFFFFFFFFFC s t := by
  unfold execRingEnable at h
  cases h
  all_goals repeat' first
  | with_reducible apply Within.refl
  | (with_reducible apply Within.after (within_poke _ _ _ _); · decide)

theorem within_execSoft (v : Word) (s : State) {t : State} (h : execSoft v s = .next t) :
    Within 0x7FFFFFFFFFFFFC s t := by
  unfold execSoft at h
  cases h
  all_goals repeat' first
  | with_reducible apply Within.refl
  | (with_reducible apply Within.after (within_poke _ _ _ _); · decide)

theorem within_execRingTailAdvance (r : Fin 32) (v : Word) (s : State) {t : State} (h : execRingTailAdvance r v s = .next t) :
    Within 0x7FFFFFFFFFFFFC s t := by
  unfold execRingTailAdvance at h
  cases h
  all_goals repeat' first
  | with_reducible apply Within.refl
  | (with_reducible apply Within.after (within_poke _ _ _ _); · decide)

theorem within_execRingDmaError (r : Fin 32) (access : RingAccess) (kind : Fin 4) (addr : ℕ) (s : State) {t : State} (h : execRingDmaError r access kind addr s = .next t) :
    Within 0x80001A003C6C8 s t := by
  unfold execRingDmaError at h
  cases h
  all_goals repeat' first
  | with_reducible apply Within.refl
  | (with_reducible apply Within.after (within_ringDmaError _ _ _ _ _ _); · decide)

theorem within_execRingRead (s : State) {t : State} (h : execRingRead s = .next t) :
    Within 0x77FFFFFFFFFFFC s t := by
  unfold execRingRead at h
  cases h
  all_goals repeat' first
  | with_reducible apply Within.refl
  | (with_reducible apply Within.after (within_ring0Take _ _); · decide)

theorem within_execRingCopy (r : Fin 32) (ecc : EccMet) (s : State) {t : State} (h : execRingCopy r ecc s = .next t) :
    Within 0x1C7CC s t := by
  unfold execRingCopy at h
  cases h
  all_goals repeat' first
  | with_reducible apply Within.refl
  | (with_reducible apply Within.after (within_copyTake _ _ _ _); · decide)

theorem within_execRingDisable (r : Fin 32) (v : Word) (s : State) {t : State} (h : execRingDisable r v s = .next t) :
    Within 0x7FFFFFFFFFFFFC s t := by
  unfold execRingDisable at h
  cases h
  all_goals repeat' first
  | with_reducible apply Within.refl
  | (with_reducible apply Within.after (within_poke _ _ _ _); · decide)

theorem within_execTamper (pins : BitVec 4) (us : ℕ) (view : TamperView) (s : State) {t : State} (h : execTamper pins us view s = .next t) :
    Within 0x100000001C6CC s t := by
  unfold execTamper at h
  cases h
  all_goals repeat' first
  | with_reducible apply Within.refl
  | (with_reducible apply Within.after (within_tamperSee _ _ _ _ _); · decide)

theorem within_execKeyFree (s : State) {t : State} (h : execKeyFree s = .next t) :
    Within 0x100000001C6CC s t := by
  unfold execKeyFree at h
  cases h
  exact within_keyServe _ _ _ (fun _ _ => (within_opFree _ _).mono (by decide))

theorem within_execKeyPublic (s : State) {t : State} (h : execKeyPublic s = .next t) :
    Within 0x100000001C6CC s t := by
  unfold execKeyPublic at h
  cases h
  exact within_keyServe _ _ _ (fun _ _ => (within_opPublic _ _).mono (by decide))

theorem within_execKeySign (s : State) {t : State} (h : execKeySign s = .next t) :
    Within 0x100000001C6CC s t := by
  unfold execKeySign at h
  cases h
  exact within_keyServe _ _ _ (fun _ _ => (within_opSign _ _).mono (by decide))

theorem within_execKeyVerify (s : State) {t : State} (h : execKeyVerify s = .next t) :
    Within 0x100000001C6CC s t := by
  unfold execKeyVerify at h
  cases h
  exact within_keyServe _ _ _ (fun _ _ => (within_opVerify _ _).mono (by decide))

theorem within_execKeyRevoke (s : State) {t : State} (h : execKeyRevoke s = .next t) :
    Within 0x100000001C6CC s t := by
  unfold execKeyRevoke at h
  cases h
  exact within_keyServe _ _ _ (fun _ _ => (within_opRevoke _ _).mono (by decide))

theorem within_execKeyRandom (s : State) {t : State} (h : execKeyRandom s = .next t) :
    Within 0x100000001C6CC s t := by
  unfold execKeyRandom at h
  cases h
  exact within_keyServe _ _ _ (fun _ _ => (within_opRandom _ _).mono (by decide))

theorem within_execKeyMac (s : State) {t : State} (h : execKeyMac s = .next t) :
    Within 0x100000001C6CC s t := by
  unfold execKeyMac at h
  cases h
  exact within_keyServe _ _ _ (fun _ _ => (within_opMac _ _).mono (by decide))

theorem within_execKeyImport (s : State) {t : State} (h : execKeyImport s = .next t) :
    Within 0x100000001C6CC s t := by
  unfold execKeyImport at h
  cases h
  exact within_keyServe _ _ _ (fun _ _ => (within_opImport _ _).mono (by decide))

theorem within_execKeyFloorWrite (v : Word) (s : State) {t : State} (h : execKeyFloorWrite v s = .next t) :
    Within 0x7FFFFFFFFFFFFC s t := by
  unfold execKeyFloorWrite at h
  cases h
  all_goals repeat' first
  | with_reducible apply Within.refl
  | (with_reducible apply Within.after (within_poke _ _ _ _); · decide)

theorem within_execTamperClr (v : Word) (s : State) {t : State} (h : execTamperClr v s = .next t) :
    Within 0x7FFFFFFFFFFFFC s t := by
  unfold execTamperClr at h
  cases h
  all_goals repeat' first
  | with_reducible apply Within.refl
  | (with_reducible apply Within.after (within_poke _ _ _ _); · decide)

theorem within_execKeyAttest (s : State) {t : State} (h : execKeyAttest s = .next t) :
    Within 0x100000001C6CC s t := by
  unfold execKeyAttest at h
  cases h
  exact within_keyServe _ _ _ (fun _ _ => (within_opAttest _ _).mono (by decide))

theorem within_execKeyScrub (upset : List ℕ) (s : State) {t : State} (h : execKeyScrub upset s = .next t) :
    Within 0x100000001C6C8 s t := by
  unfold execKeyScrub at h
  cases h
  all_goals repeat' first
  | with_reducible apply Within.refl
  | (with_reducible apply Within.after (within_keyScrub _ _); · decide)

theorem within_execKeyMacVerify (s : State) {t : State} (h : execKeyMacVerify s = .next t) :
    Within 0x100000001C6CC s t := by
  unfold execKeyMacVerify at h
  cases h
  exact within_keyServe _ _ _ (fun _ _ => (within_opMacVerify _ _).mono (by decide))

theorem within_execKeyGenerate (s : State) {t : State} (h : execKeyGenerate s = .next t) :
    Within 0x100000001C6CC s t := by
  unfold execKeyGenerate at h
  cases h
  exact within_keyServe _ _ _ (fun _ _ => (within_opGenerate _ _).mono (by decide))

theorem within_execKeyDerive (s : State) {t : State} (h : execKeyDerive s = .next t) :
    Within 0x100000001C6CC s t := by
  unfold execKeyDerive at h
  cases h
  exact within_keyServe _ _ _ (fun _ _ => (within_opDerive _ _).mono (by decide))

theorem within_execKick (v : Word) (s : State) {t : State} (h : execKick v s = .next t) :
    Within 0x7FFFFFFFFFFFFC s t := by
  unfold execKick at h
  cases h
  all_goals repeat' first
  | with_reducible apply Within.refl
  | (with_reducible apply Within.after (within_poke _ _ _ _); · decide)

theorem within_execFjlLaneLost (k : Fin 7) (n : Fin 4) (s : State) {t : State} (h : execFjlLaneLost k n s = .next t) :
    Within 0x2400001C6C8 s t := by
  unfold execFjlLaneLost at h
  cases h
  all_goals repeat' first
  | with_reducible apply Within.refl
  | (with_reducible apply Within.after (within_laneLost _ _ _); · decide)

theorem within_execFjlResendTimeout (k : Fin 7) (s : State) {t : State} (h : execFjlResendTimeout k s = .next t) :
    Within 0x2400001C6C8 s t := by
  unfold execFjlResendTimeout at h
  cases h
  all_goals repeat' first
  | with_reducible apply Within.refl
  | (with_reducible apply Within.after (within_resendTimeout _ _); · decide)

theorem within_execHallYield (v : Word) (s : State) {t : State} (h : execHallYield v s = .next t) :
    Within 0x7FFFFFFFFFFFFC s t := by
  unfold execHallYield at h
  cases h
  all_goals repeat' first
  | with_reducible apply Within.refl
  | (with_reducible apply Within.after (within_poke _ _ _ _); · decide)

theorem within_execFjlLanesAligned (k : Fin 7) (s : State) {t : State} (h : execFjlLanesAligned k s = .next t) :
    Within 0x4000000088 s t := by
  unfold execFjlLanesAligned at h
  cases h
  all_goals repeat' first
  | with_reducible apply Within.refl
  | (with_reducible apply Within.after (within_lanesAligned _ _); · decide)

theorem within_execIlkInChange (edge : IlkEdge) (s : State) {t : State} (h : execIlkInChange edge s = .next t) :
    Within 0x12000001C6C8 s t := by
  unfold execIlkInChange at h
  cases h
  all_goals repeat' first
  | with_reducible apply Within.refl
  | (with_reducible apply Within.after (within_ilkChange _ _); · decide)

theorem within_execKickExpiry (s : State) {t : State} (h : execKickExpiry s = .next t) :
    Within 0x12000001C6C8 s t := by
  unfold execKickExpiry at h
  cases h
  all_goals repeat' first
  | with_reducible apply Within.refl
  | (with_reducible apply Within.after (within_kickExpiry _); · decide)

theorem within_execRedPeerLost (s : State) {t : State} (h : execRedPeerLost s = .next t) :
    Within 0x1C6C8 s t := by
  unfold execRedPeerLost at h
  cases h
  all_goals repeat' first
  | with_reducible apply Within.refl
  | (with_reducible apply Within.after (within_peerLost _); · decide)

theorem within_execHallPassHold (s : State) {t : State} (h : execHallPassHold s = .next t) :
    Within 0x12000001C6C8 s t := by
  unfold execHallPassHold at h
  cases h
  all_goals repeat' first
  | with_reducible apply Within.refl
  | (with_reducible apply Within.after (within_hallHold _); · decide)

theorem within_execFjlIdent (k : Fin 7) (pos : ℕ) (s : State) {t : State} (h : execFjlIdent k pos s = .next t) :
    Within 0x2400001C6C8 s t := by
  unfold execFjlIdent at h
  cases h
  all_goals repeat' first
  | with_reducible apply Within.refl
  | (with_reducible apply Within.after (within_identReceive _ _ _); · decide)

theorem within_execTardyWindowEnd (s : State) {t : State} (h : execTardyWindowEnd s = .next t) :
    Within 0x8000001C6C8 s t := by
  unfold execTardyWindowEnd at h
  cases h
  all_goals repeat' first
  | with_reducible apply Within.refl
  | (with_reducible apply Within.after (within_tardyWindowEnd _); · decide)

theorem within_execFjlCheckTimeout (k : Fin 7) (s : State) {t : State} (h : execFjlCheckTimeout k s = .next t) :
    Within 0x1C6C8 s t := by
  unfold execFjlCheckTimeout at h
  cases h
  all_goals repeat' first
  | with_reducible apply Within.refl
  | (with_reducible apply Within.after (within_checkTimeout _ _); · decide)

theorem within_execHallPassClaim (s : State) {t : State} (h : execHallPassClaim s = .next t) :
    Within 0x12000001C6C8 s t := by
  unfold execHallPassClaim at h
  cases h
  all_goals repeat' first
  | with_reducible apply Within.refl
  | (with_reducible apply Within.after (within_hallClaim _); · decide)

theorem within_execAwaitExpiry (s : State) {t : State} (h : execAwaitExpiry s = .next t) :
    Within 0x80000000008 s t := by
  unfold execAwaitExpiry at h
  cases h
  all_goals repeat' first
  | with_reducible apply Within.refl
  | (with_reducible apply Within.after (within_awaitExpiry _); · decide)

theorem within_execAnswerSend (s : State) {t : State} (h : execAnswerSend s = .next t) :
    Within 0x108401001C6C8 s t := by
  unfold execAnswerSend at h
  cases h
  all_goals repeat' first
  | with_reducible apply Within.refl
  | (with_reducible apply Within.after (within_answerSend _); · decide)

theorem within_execHealthChange (s : State) {t : State} (h : execHealthChange s = .next t) :
    Within 0x12000001C6C8 s t := by
  unfold execHealthChange at h
  cases h
  all_goals repeat' first
  | with_reducible apply Within.refl
  | (with_reducible apply Within.after (within_healthChange _); · decide)

theorem within_execAnswerReceive (m : List Byte) (s : State) {t : State} (h : execAnswerReceive m s = .next t) :
    Within 0x108000001C6C8 s t := by
  unfold execAnswerReceive at h
  cases h
  all_goals repeat' first
  | with_reducible apply Within.refl
  | (with_reducible apply Within.after (within_answerReceive _ _); · decide)

theorem within_execFjlPacketReceive (k : Fin 7) (bs : List Byte) (s : State) {t : State} (h : execFjlPacketReceive k bs s = .next t) :
    Within 0x10A6C0009C6C8 s t := by
  unfold execFjlPacketReceive at h
  cases h
  all_goals repeat' first
  | with_reducible apply Within.refl
  | (with_reducible apply Within.after (within_packetReceive _ _ _); · decide)

theorem within_execFjlLinkDisable (k : Fin 7) (v : Word) (s : State) {t : State} (h : execFjlLinkDisable k v s = .next t) :
    Within 0x7FFFFFFFFFFFFC s t := by
  unfold execFjlLinkDisable at h
  cases h
  all_goals repeat' first
  | with_reducible apply Within.refl
  | (with_reducible apply Within.after (within_poke _ _ _ _); · decide)

theorem within_execFjlLinkEnable (k : Fin 7) (v : Word) (s : State) {t : State} (h : execFjlLinkEnable k v s = .next t) :
    Within 0x7FFFFFFFFFFFFC s t := by
  unfold execFjlLinkEnable at h
  cases h
  all_goals repeat' first
  | with_reducible apply Within.refl
  | (with_reducible apply Within.after (within_poke _ _ _ _); · decide)

theorem within_execTmxAccess (w : BitVec 48) (s : State) {t : State} (h : execTmxAccess w s = .next t) :
    Within 0x2000000000088 s t := by
  unfold execTmxAccess at h
  cases h
  all_goals repeat' first
  | with_reducible apply Within.refl
  | (with_reducible apply Within.after (within_tapAccess _ _); · decide)

theorem within_execJtagInstruction (scan : JtagScan) (s : State) {t : State} (h : execJtagInstruction scan s = .next t) :
    Within 0x2000000000088 s t := by
  unfold execJtagInstruction at h
  cases h
  all_goals repeat' first
  | with_reducible apply Within.refl
  | (with_reducible apply Within.after (within_jtagScan _ _); · decide)

theorem within_execTestLogicReset (s : State) {t : State} (h : execTestLogicReset s = .next t) :
    Within 0x2000000000008 s t := by
  unfold execTestLogicReset at h
  cases h
  all_goals repeat' first
  | with_reducible apply Within.refl
  | (with_reducible apply Within.after (within_tapReset _); · decide)

end Sys2Proof.Machine
end

