-- ==== Sys2Proof/WellFormed.lean ====
section
/-! DEFINITION. Which commands can reach the block: operands that PCIe, the wire or a pin can present, and, for a row that is a
host write of a register, a value that asks for that row's operation. A command that is not well formed still has the meaning
that its write has. -/

namespace Sys2Proof

open Sys2Proof.Machine

/-- A register of BAR0's normal view whose half of a pair is `h`. -/
def isHalf (reg : Nat) (h : PairHalf) : Bool :=
  match regRow reg with
  | some r => decide (r.pair = h) && decide (reg % 0x10000 < 0x4000)
  | none => false

/-- The shape of a request of `n` DW: whole DW within the aperture, no last mask on a single DW, both masks non-zero otherwise. -/
def requestWf (size off n : Nat) (fbe lbe : BitVec 4) : Bool :=
  decide (off % 4 = 0) && decide (off + 4 * n ≤ size) && decide (0 < n) &&
    (if n = 1 then decide (lbe = 0) else decide (fbe ≠ 0) && decide (lbe ≠ 0))

/-- The size of a register aperture (R35). -/
def apertureSize : Bar → Nat
  | .bar0 => 0x4000000
  | .bar1 => 0x1000000
  | .bar4 => 0x2000
  | .config => 0x1000

/-- A command register written with GO = 1 and operation `op` in `n` bits from bit 1. -/
def asks (v : Word) (n op : Nat) : Bool := bit v 0 && decide (fld v 1 n = op)

/-- Desks of a classroom; those retired after hand-back each by a slate parity error (1) or the watchdog (2). -/
def lossOk (x : DeskLoss) : Bool :=
  x.bad.all (fun d => decide (d < 136)) && x.late.all (fun d => decide (d.1 < 136) && (d.2 = 1 || d.2 = 2))

/-- Errors within a cache entry. -/
def eccOk (x : EccMet) : Bool := x.ce.all (fun k => decide (k < 0x4000000)) && decide (x.ue.getD 0 < 0x4000000)

/-- A command that can reach the block. -/
def Instr.wf : Instr → Bool
  | .registerWrite bar off data fbe lbe => requestWf (apertureSize bar) off data.length fbe lbe && decide (data.length ≤ 128)
  | .aliasWrite _ reg _ _ => decide (reg % 4 = 0) && decide (reg % 0x10000 < 0x4000) && decide (reg < 0x4000000)
  | .pairLowRead bar off n fbe lbe => requestWf (apertureSize bar) off n fbe lbe && decide (n ≤ 1024)
  | .pairLowWrite reg _ => isHalf reg .low
  | .pairHighWrite reg _ => isHalf reg .high
  | .pairAtomicAccess reg _ => isHalf reg .low
  | .atomicopRequest => true
  | .bar2Access off (.read n ue ce) _ _ =>
    decide (0 < n) && decide (off + n ≤ 0x400000000) && ce.all (fun k => decide (k < n)) &&
      (match ue with
      | some k => decide (k < n)
      | none => true)
  | .bar2Access off (.write bs) _ _ => !bs.isEmpty && decide (off + bs.length ≤ 0x400000000)
  | .glbLockSet _ => true
  | .buserrClear v => bit v 31
  | .memUeClear v => bit v 8
  | .deviceReset v => bit v 0
  | .functionLevelReset _ => true
  | .perst => true
  | .mainPowerOnReset _ => true
  | .startUp _ _ => true
  | .bootLoad bad desks =>
    bad.all (fun e => decide (e.1 < 2)) && desks.all (fun e => decide (e.1 < 32) && decide (e.2 < 136))
  | .imgLoad v desks => asks v 2 1 && desks.all (fun e => decide (e.1 < 32) && decide (e.2 < 136))
  | .imgCache v => asks v 2 2
  | .update v desks ecc => asks v 2 1 && lossOk desks && eccOk ecc
  | .repair v desks ecc => asks v 2 2 && lossOk desks && eccOk ecc
  | .unload v => asks v 2 3
  | .autoRepair _ desks ecc => lossOk desks && eccOk ecc
  | .tbEnable _ v => bit v 0
  | .tbDisable _ v => !bit v 0
  | .stepGo _ v => bit v 0 && bit v 1
  | .stepApply _ => true
  | .tbRateCommit _ _ => true
  | .holdReq _ v => bit v 0 && bit v 4
  | .holdRel _ v => bit v 0 && bit v 5
  | .tbWatchdogExpiry _ => true
  | .tbMpdSample _ _ => true
  | .pllLossOfLock => true
  | .pllLock => true
  | .ppsInEdge _ _ ph => decide (ph ≤ 78)
  | .ppsOutPulse _ => true
  | .leapPendStart _ => true
  | .leapSecondApply _ => true
  | .leapOccExpiry _ => true
  | .tsqPop _ v => bit v 0
  | .rtcLoadArm _ => true
  | .rtcLoadApply => true
  | .rtcAlarm => true
  | .oscStop => true
  | .batLowSample _ => true
  | .switchToVbat => true
  | .switchToVio18 => true
  | .pdAonPowerOnReset => true
  | .macCtrlWrite _ _ => true
  | .macLink _ _ _ => true
  | .frameReceive _ bs _ ph _ => !bs.isEmpty && decide (ph ≤ 78)
  | .prpLanFault _ _ => true
  | .macTransmit _ ph => decide (ph ≤ 78)
  | .t1sDescriptorTake => true
  | .t1sDeferEnd _ => true
  | .t1sSendComplete _ => true
  | .t1sCollision _ _ => true
  | .t1sBackoffExpiry _ => true
  | .t1sSeedWrite _ => true
  | .t1sReceive _ bs _ => !bs.isEmpty
  | .intakeFrame _ => true
  | .seatAdd v => asks v 2 1
  | .seatRemove v => asks v 2 2
  | .streamSilent code => decide (code < 0x400C)
  | .frameFile => true
  | .rollRelease => true
  | .rclEnable v => bit v 0
  | .formStart v => asks v 3 1
  | .formStop v => asks v 3 2
  | .formRetime v => asks v 3 3
  | .seatMove v => asks v 3 4
  | .lessonBegin _ => true
  | .resultRecord _ _ _ stuck _ => stuck.all (fun p => decide (p < 136))
  | .reportCardPublish _ => true
  | .deskWatchdogExpiry _ p => p.stuck.all (fun d => decide (d < 136))
  | .slateParityError _ _ => true
  | .chalkboardUe _ rd => decide (rd.word < 2 ^ 18)
  | .selfCheck _ v bad => bit v 0 && bad.all (fun d => decide (d < 136))
  | .spareCheck bad => bad.all (fun e => decide (e.1 < 32) && decide (e.2 < 136))
  | .replicaMeasure _ _ => true
  | .anaCommit v => bit v 0
  | .latchClear _ => true
  | .acqCircuitEnable _ v => bit v 0
  | .acqCircuitDisable _ v => !bit v 0
  | .acqSample _ _ periods levels => decide (periods.length = levels.length) && (periods.zip (periods.drop 1)).all (fun e => decide (e.1 < e.2))
  | .acqModFault _ => true
  | .fltXfade v => bit v 0
  | .phasorEstimate _ => true
  | .energyPeriod _ => true
  | .pulseOutput _ => true
  | .nrgIntervalEnd => true
  | .nrgSnap v => asks v 2 1
  | .nrgLoad v => asks v 2 2
  | .nrgClear v => asks v 2 3
  | .nrgCircuitEnable _ v => bit v 0
  | .evtInEdge _ _ ph _ => decide (ph ≤ 78)
  | .markHoldClose => true
  | .recorderFrame => true
  | .recorderFlush => true
  | .recorderStart v => asks v 2 1
  | .recorderStop v => asks v 2 2
  | .taskCreate v => asks v 2 1
  | .taskDestroy v => asks v 2 2
  | .taskDone v => asks v 2 3
  | .flagSet _ => true
  | .dispatch _ => true
  | .taskEngineComplete _ => true
  | .timerArm v => asks v 2 1
  | .timerDisarm v => asks v 2 2
  | .timerFire => true
  | .ringTailAdvance _ _ => true
  | .ringEnable _ v => bit v 0
  | .ringDisable _ v => !bit v 0
  | .ringStopped _ => true
  | .ringDmaError _ _ _ addr => decide (addr < 2 ^ 64)
  | .ringCoalesceTimer _ => true
  | .ringWrite => true
  | .ringRead => true
  | .ringCopy r _ => decide (24 ≤ r.val)
  | .evtStatusClear _ _ => true
  | .soft v => bit v 0
  | .keyGenerate => true
  | .keyDerive => true
  | .keyImport => true
  | .keyFree => true
  | .keyRevoke => true
  | .keyMac => true
  | .keyMacVerify => true
  | .keySign => true
  | .keyVerify => true
  | .keyPublic => true
  | .keyAttest => true
  | .keyRandom => true
  | .keyScrub upset => upset.all (fun i => decide (i < 256))
  | .tamper _ _ _ => true
  | .tamperClr v => bit v 0
  | .keyFloorWrite _ => true
  | .healthChange => true
  | .kick v => bit v 0
  | .kickExpiry => true
  | .hallPassClaim => true
  | .hallPassHold => true
  | .ilkInChange _ => true
  | .hallYield v => bit v 0
  | .answerSend => true
  | .answerReceive m => !m.isEmpty
  | .redPeerLost => true
  | .awaitExpiry => true
  | .fjlLinkEnable _ v => bit v 0
  | .fjlLinkDisable _ v => !bit v 0
  | .fjlLanesAligned _ => true
  | .fjlIdent _ pos => decide (pos < 8)
  | .fjlCheckTimeout _ => true
  | .fjlLaneLost _ _ => true
  | .fjlPacketReceive _ bs => !bs.isEmpty
  | .fjlResendTimeout _ => true
  | .pwrDomainEnWrite _ => true
  | .pwrDomainDone => true
  | .pwrRecess v => asks v 2 1
  | .pwrRun v => asks v 2 2
  | .pwrWake => true
  | .govWindowEnd => true
  | .avsResponse r =>
    match r with
    | some mv => decide (mv < 1024)
    | none => true
  | .govEnable v => bit v 0
  | .govReq v => bit v 31
  | .therm temps => decide (temps.length = 4)
  | .jtagInstruction _ => true
  | .tmxAccess _ => true
  | .testLogicReset => true
  | .tardyWindowEnd => true
  | .channelHealthy _ => true
  | .bankSupplyChange _ _ => true
  | .crystalTick => true
  | .perstRelease => true

end Sys2Proof
end

