-- ==== Sys2Proof/Tests/Slice0.lean ====
section
/-! SUPPORT. Tests: each is one step on a small state whose outcome follows by hand from the rules its statement cites, and each shows
concrete values that meet the hypotheses of the clause of the statement it is named after, at the end of a range where there is one. -/

namespace Sys2Proof.Tests

open Sys2Proof Sys2Proof.Machine

-- The evaluations below run one after the other: side by side they would need too much memory.
set_option Elab.async false

/-! ### Small states -/

/-- Every switched domain on, the RTC accessible, every other field as at reset of an empty part. -/
def on : State := State.setReg { rtc := { lockout := false, onVbat := false } } Reg.PWR_DOMAIN_STATUS 0xFFF

/-- Registers of `s` set to values. -/
def withRegs (s : State) (l : List (Nat × Word)) : State := l.foldl (fun s e => s.setReg e.1 e.2) s

/-- `on` with registers set to values. -/
def holding (l : List (Nat × Word)) : State := withRegs on l

/-- `c` completes at `s` and the state after it passes `p`. -/
def after (c : Instr) (s : State) (p : State → Bool) : Bool :=
  match exec c s with
  | .next t => p t
  | _ => false

/-- The state after a command that completes. -/
def run (c : Instr) (s : State) : State :=
  match exec c s with
  | .next t => t
  | _ => s

/-- A write that the endpoint takes and no cause of R52 stops. -/
def takes (s : State) (off : Nat) (v : Word) : Bool := s.hostUp && decide (s.writeCause off v = 0)

/-- `takes` is the hypothesis that the statements use. -/
theorem takes_iff (s : State) (off : Nat) (v : Word) : takes s off v = true ↔ s.Accepts off v := by
  simp [takes, State.Accepts]

/-- A running time base 0 that reads 1000 s. -/
def tbOn (s : State) : State :=
  (withRegs s [(Reg.TB_CTRL 0, 1), (Reg.TB_STATUS 0, 1)]).setTb 0 { s.tb 0 with t := 1000 * 1000000000 * 2 ^ 51 }

/-- Time base 0 at a number of nanoseconds. -/
def tbAt (s : State) (ns : Nat) : State := s.setTb 0 { s.tb 0 with t := ns * 2 ^ 51 }

/-- Ring `r` RUNNING with 64 slots, descriptors from `a`, `n` of them handed over. -/
def ringRegs (r a n : Nat) : List (Nat × Word) :=
  [(Reg.RNG_CTRL r, 0xD), (Reg.RNG_STATUS r, 1), (Reg.RNG_TAIL r, word n), (Reg.RNG_BASE_LO r, word a)]

/-! ### Well-formed commands -/

/-- One ill-formed term for each check on a host request (R35, R38, R43, R46-R48). -/
theorem test_wf_requests : ([.registerWrite .bar0 2 [0] 15 0, .registerWrite .bar0 0x4000000 [0] 15 0, .registerWrite .bar1 0 [] 15 0,
    .registerWrite .bar0 0 [0] 15 1, .registerWrite .bar0 0 [0, 0] 0 15, .registerWrite .bar0 0 (List.replicate 129 0) 15 15,
    .aliasWrite .set 1 0 15, .aliasWrite .set 0x4000 0 15, .aliasWrite .set 0x4000000 0 15, .pairLowRead .bar4 0x2000 1 15 0,
    .pairLowRead .bar0 0 1025 15 15, .pairLowWrite Reg.IMG_STAGE_HI 0, .pairHighWrite Reg.IMG_STAGE_LO 0,
    .pairAtomicAccess Reg.GLB_LOCK none, .bar2Access 0 (.read 0 none []) 15 15, .bar2Access 0 (.read 4 (some 4) []) 15 15,
    .bar2Access 0x400000000 (.read 1 none [1]) 15 15, .bar2Access 0 (.write []) 15 15] : List Instr).all (fun c => !c.wf) = true := by
  decide +kernel

/-- One ill-formed term for each check on an operand: a clear GO, another operation, a number out of range, an empty frame. -/
theorem test_wf_operands : ([.buserrClear 0, .memUeClear 0, .deviceReset 0, .bootLoad [(2, 0)] [], .bootLoad [] [(32, 0)],
    .imgLoad 5 [], .imgLoad 3 [(0, 136)], .imgCache 3, .update 5 ⟨[], []⟩ {}, .update 3 ⟨[136], []⟩ {}, .repair 3 ⟨[], []⟩ {}, .unload 3,
    .autoRepair 0 ⟨[], [(0, 3)]⟩ {}, .tbEnable 0 0, .tbDisable 0 1, .stepGo 0 1, .holdReq 0 1, .holdRel 0 1, .ppsInEdge true 0 79,
    .tsqPop 0 0, .frameReceive 0 [] false 0 false, .frameReceive 0 [0] false 79 false, .macTransmit 0 79, .t1sReceive 0 [] false,
    .seatAdd 5, .seatRemove 3, .streamSilent 0x400C, .rclEnable 0, .formStart 5, .formStop 3, .formRetime 3, .seatMove 3,
    .resultRecord 0 0 0 [136] 0, .chalkboardUe 0 ⟨0, 262144⟩, .selfCheck 0 0 [], .selfCheck 0 1 [136], .spareCheck [(0, 136)],
    .anaCommit 0, .acqCircuitEnable 0 0, .acqCircuitDisable 0 1, .fltXfade 0] : List Instr).all (fun c => !c.wf) = true := by
  decide +kernel

theorem test_wf_operands_more : ([.nrgSnap 5, .nrgLoad 3, .nrgClear 3, .nrgCircuitEnable 0 0, .evtInEdge 0 true 79 0, .recorderStart 5,
    .recorderStop 3, .taskCreate 5, .taskDestroy 3, .taskDone 3, .timerArm 5, .timerDisarm 3, .ringEnable 0 0, .ringDisable 0 1,
    .acqSample 0 0 [1] [], .acqSample 0 0 [2, 2] [true, false], .ringDmaError 0 ⟨false, false⟩ 0 (2 ^ 64), .ringCopy 23 ⟨none, []⟩,
    .soft 0, .keyScrub [256], .tamperClr 0, .kick 0, .hallYield 0, .answerReceive [],
    .fjlLinkEnable 0 0, .fjlLinkDisable 0 1, .fjlIdent 0 8, .fjlPacketReceive 0 [], .pwrRecess 5, .pwrRun 3, .avsResponse (some 1024),
    .govEnable 0, .govReq 0, .therm []] : List Instr).all (fun c => !c.wf) = true := by
  decide +kernel

/-- Well-formed ones. -/
theorem test_wf_holds : ([.registerWrite .bar0 0x3FFFFFC [0] 15 0, .aliasWrite .tgl Reg.GLB_LOCK 1 15, .pairLowWrite Reg.IMG_STAGE_LO 0,
    .pairAtomicAccess Reg.IMG_STAGE_LO none, .bar2Access 0x3FFFFFFFF (.read 1 (some 0) []) 15 15, .imgLoad 3 [(31, 135)],
    .update 3 ⟨[135], [(135, 2)]⟩ ⟨some 5, [7]⟩, .acqSample 0 0 [1, 2] [true, true], .tbEnable 3 1, .ppsInEdge true 0 78, .streamSilent 0x400B, .formStart 3, .taskDone 7, .keyScrub [255], .avsResponse (some 1023)] :
    List Instr).all (fun c => c.wf) = true := by
  decide +kernel

/-- The table gives no row a word. -/
theorem test_decode_none : decodeTableWord 32 0xFFFFFFFF = none := rfl

/-! ### The machine as a whole -/

theorem test_StepRunsTheFrontCommand : (match step { on with pending := [.glbLockSet 1, .perst] } with
    | .next t => t.rb Reg.GLB_LOCK 0 && decide (t.pending = [.perst])
    | _ => false) = true := by
  decide +kernel

theorem test_ClockPeriod_premise : on.pending = [] ∧ State.reset.pending = [] := by decide +kernel

theorem test_StepKeepsTheCanonicalForm : State.Canonical { on with pending := [.glbLockSet 1] } ∧
    (match step { on with pending := [.glbLockSet 1] } with
      | .next _ => true
      | _ => false) = true :=
  ⟨⟨by decide +kernel, by decide +kernel, by decide +kernel, by decide +kernel, by decide +kernel, by decide +kernel⟩, by decide +kernel⟩

theorem test_outsideAperture : exec (.registerWrite .bar0 0x4000000 [0] 15 0) on = .fault .outsideAperture := by rfl

/-- The state after a step. -/
def stepped (s : State) (p : State → Bool) : Bool :=
  match step s with
  | .next t => p t
  | _ => false

/-- A set lock bit over a write of another one. -/
theorem test_LocksStayUntilAReset :
    ((holding [(Reg.GLB_LOCK, 0x40)]).rb Reg.GLB_LOCK 6 &&
    stepped { holding [(Reg.GLB_LOCK, 0x40)] with pending := [.glbLockSet 1] } (fun t => t.rb Reg.GLB_LOCK 6)) = true := by
  decide +kernel

/-- Every domain on: a mask without PD_MEM lacks a prerequisite, one without PD_LINK does not. -/
theorem test_DomainsKeepTheirPrerequisites : on.DomainsClosed ∧ prerequisiteMissing 0xFFD = true ∧
    stepped { on with pending := [.pwrDomainEnWrite 0xBFF] } (fun t => t.domainEn = 0xBFF ∧ !t.domOn 10 ∧ t.domOn 1) = true := by
  unfold State.DomainsClosed
  decide +kernel

/-- Without the hall pass: a scheduled pulse that is due, and the balls of ALM[0], active low, and PULSE[3] with their cells set. -/
def shut (instr : Nat) : State :=
  { holding [(Reg.TMX_STATUS, word instr), (Reg.PIN_CTRL 0, 8), (Reg.RED_ROLE, 2)] with tap := { update := BitVec.allOnes 298 } }

theorem test_AlarmOutputsNeedTheHallPass : ((shut 0).gate = false ∧ (shut 0).boundary = true ∧ (shut 0).ballLevel 126 = some true ∧
      (shut 0).ballLevel 145 = some false) ∧
    ((shut 5).boundary = true ∧ (shut 5).ballLevel 126 = none) ∧ (shut 1).boundary = false ∧
    (shut 1).functionLevel (.alm 0) = some true := by
  decide +kernel

theorem test_AlarmOutputsNeedTheHallPass_pulse : (shut 1).gate = false ∧
    stepped { tbOn (shut 1) with pulses := [(3, { queue := [(5, 30)] })], pending := [.pulseOutput 3] }
      (fun t => t.out = [] ∧ t.reg (Reg.PULSE_COUNT 3) = 1) = true := by
  decide +kernel

/-! ### Host link -/

theorem test_RegisterAliasAndTableWrites_scratch : (on.hostUp &&
    after (.registerWrite .bar0 (Reg.GLB_SCRATCH 3) [5] 15 0) on (fun t => t.reg (Reg.GLB_SCRATCH 3) = 5)) = true := by decide +kernel

theorem test_RegisterAliasAndTableWrites_views : (after (.aliasWrite .set (Reg.GLB_SCRATCH 0) 6 15) (holding [(Reg.GLB_SCRATCH 0, 3)])
      (fun t => t.reg (Reg.GLB_SCRATCH 0) = 7) &&
    after (.aliasWrite .clr (Reg.GLB_SCRATCH 0) 6 15) (holding [(Reg.GLB_SCRATCH 0, 3)]) (fun t => t.reg (Reg.GLB_SCRATCH 0) = 1) &&
    after (.aliasWrite .tgl (Reg.GLB_SCRATCH 0) 6 15) (holding [(Reg.GLB_SCRATCH 0, 3)]) (fun t => t.reg (Reg.GLB_SCRATCH 0) = 5)) =
    true := by
  decide +kernel

/-- RTC_CTRL: its bit 2, LOAD_MODE, is not marked A. -/
theorem test_RegisterAliasAndTableWrites_rtcCtrl : (on.hostUp && !on.rtc.lockout &&
    after (.aliasWrite .set Reg.RTC_CTRL 0xF 15) (holding [(Reg.RTC_CTRL, 0)]) (fun t => t.reg Reg.RTC_CTRL = 0xB) &&
    after (.aliasWrite .clr Reg.RTC_CTRL 0xF 15) (holding [(Reg.RTC_CTRL, 0xF)]) (fun t => t.reg Reg.RTC_CTRL = 4) &&
    after (.aliasWrite .tgl Reg.RTC_CTRL 0xE 15) (holding [(Reg.RTC_CTRL, 6)]) (fun t => t.reg Reg.RTC_CTRL = 0xC)) = true := by
  decide +kernel

/-- A read of an alias view; an alias write of GLB_RESET, which has no field marked A; writes of the locked PWR_GOV_LIMIT (GLB_LOCK bit 6). -/
theorem test_RegisterAliasAndTableWrites_causes : (decide (on.readCause (Reg.GLB_SCRATCH 0 + 0x4000) = 5) && decide (on.writeCause (Reg.GLB_RESET + 0x8000) 1 = 5) &&
    (regRow Reg.GLB_RESET).all (fun r => decide (r.am = 0)) && on.reachable Reg.GLB_RESET &&
    decide ((regRow Reg.PWR_GOV_LIMIT).map (fun r => (r.am, decide (r.rw ≠ 0), r.lock)) = some (0, true, some 6)) &&
    decide ((holding [(Reg.GLB_LOCK, 0x40)]).writeCause Reg.PWR_GOV_LIMIT 0x3840320 = 7 ∧
      (holding [(Reg.GLB_LOCK, 0x40)]).writeCause (Reg.PWR_GOV_LIMIT + 0x4000) 0x3840320 = 5)) = true := by
  decide +kernel

/-- The last DW of the coefficient banks (R36). -/
theorem test_RegisterAliasAndTableWrites_tables_1 : tableDW 0x817FFC = .plain pdAcq ∧ on.domOn pdAcq = true ∧
    after (.registerWrite .bar1 0x817FFC [9] 15 0) on (fun t => t.tw 0x817FFC = 9) = true := by
  decide +kernel

theorem test_RegisterAliasAndTableWrites_tables_2 : on.tableCause 0x400C00 true ≠ 0 ∧
    after (.registerWrite .bar1 0x400C00 [9] 15 0) on (fun t => t.event 61) = true := by
  decide +kernel

/-- 0x24 is laid out in no register of GLB: RESERVED, cause 3. -/
theorem test_BusErrorsAreCaptured : on.writeCause 0x24 5 = 3 ∧ after (.registerWrite .bar0 0x24 [5] 15 0) on (fun t =>
    t.event 61 && decide (t.reg Reg.GLB_BUSERR_ADDR = 0x24 ∧ t.reg Reg.GLB_BUSERR_INFO = 0x8013010F)) = true := by
  decide +kernel

theorem test_BusErrorsAreCaptured_held : after (.registerWrite .bar0 0x24 [5] 15 0) (holding [(Reg.GLB_BUSERR_INFO, 0x8FF4010F)]) (fun t =>
    t.event 61 && decide (t.reg Reg.GLB_BUSERR_ADDR = 0 ∧ t.reg Reg.GLB_BUSERR_INFO = 0x8FF4010F)) = true := by
  decide +kernel

/-- One bus error of a cause, captured at an offset. -/
def errs (c : Instr) (cause off : Nat) (p : State → Bool) : Bool :=
  after c on (fun t => t.event 61 && decide (t.rf Reg.GLB_BUSERR_INFO 16 4 = cause ∧ t.reg Reg.GLB_BUSERR_ADDR = word off ∧
    t.rf Reg.GLB_BUSERR_INFO 20 8 = 1) && p t)

/-- A DW that is not enabled whole; two DW with four octets across their boundary. -/
theorem test_BusErrorsAreCaptured_width : (on.hostUp && !on.boundary &&
    errs (.registerWrite .bar0 (Reg.GLB_SCRATCH 0) [5] 14 0) 1 (Reg.GLB_SCRATCH 0) (fun t => t.reg (Reg.GLB_SCRATCH 0) = 0) &&
    errs (.pairLowRead .bar0 (Reg.GLB_SCRATCH 0) 1 0 0) 1 (Reg.GLB_SCRATCH 0) (fun t => t.out.head? = some (.cpl .abort)) &&
    errs (.registerWrite .bar0 (Reg.GLB_SCRATCH 0) [5, 6] 12 3) 2 (Reg.GLB_SCRATCH 0) (fun t => t.reg (Reg.GLB_SCRATCH 0) = 0) &&
    errs (.pairLowRead .bar0 (Reg.GLB_SCRATCH 0) 2 8 7) 2 (Reg.GLB_SCRATCH 0) (fun t => t.out.head? = some (.cpl .abort))) = true := by
  decide +kernel

theorem test_BusErrorsAreCaptured_long : (errs (.registerWrite .bar0 (Reg.GLB_SCRATCH 2) [5, 6, 7] 15 15) 3 0x80
      (fun t => t.reg (Reg.GLB_SCRATCH 2) = 5 ∧ t.reg (Reg.GLB_SCRATCH 3) = 6) &&
    errs (.pairLowRead .bar0 (Reg.GLB_SCRATCH 2) 3 15 15) 3 0x80 (fun t => t.out.head? = some (.cpl .abort)) &&
    after (.pairLowRead .bar0 (Reg.GLB_SCRATCH 0) 4 15 15) (holding [(Reg.GLB_SCRATCH 3, 9)]) (fun t => t.out = [.cpl (.data [0, 0, 0, 9])])) =
    true := by
  decide +kernel

theorem test_PairAccesses : (on.hostUp && !on.boundary &&
    after (.pairAtomicAccess Reg.IMG_STAGE_LO (some (0x1234567, 5))) on
      (fun t => t.reg Reg.IMG_STAGE_LO = 0x1234000 ∧ t.reg Reg.IMG_STAGE_HI = 1) &&
    after (.pairHighWrite Reg.IMG_STAGE_HI 2) (run (.pairLowWrite Reg.IMG_STAGE_LO 0xFFF) on) (fun t => t.reg Reg.IMG_STAGE_HI = 2)) =
    true := by
  decide +kernel

/-- An atomic access of a pair with one half, and with both, not enabled whole; IMG_STAGE_HI does not take 4. -/
theorem test_PairAccesses_errors : (decide (pairAt Reg.IMG_STAGE_LO = regRow Reg.IMG_STAGE_LO ∧ (regRow Reg.IMG_STAGE_LO).isSome) &&
    errs (.registerWrite .bar0 Reg.IMG_STAGE_LO [0x1000, 1] 15 7) 1 Reg.IMG_STAGE_HI
      (fun t => t.reg Reg.IMG_STAGE_LO = 0 ∧ t.stages = on.stages ∧ t.latches = on.latches) &&
    errs (.registerWrite .bar0 Reg.IMG_STAGE_LO [0x1000, 1] 7 7) 1 Reg.IMG_STAGE_LO (fun t => t.reg Reg.IMG_STAGE_LO = 0) &&
    errs (.pairLowRead .bar0 Reg.IMG_STAGE_LO 2 15 7) 1 Reg.IMG_STAGE_HI (fun t => t.out.head? = some (.cpl .abort))) = true := by
  decide +kernel

theorem test_RegisterReadsMsixAndConfiguration_reads_1 : on.readCause Reg.PWR_DOMAIN_STATUS = 0 ∧
    (regRow Reg.PWR_DOMAIN_STATUS).map (fun r => r.pair) = some .single ∧
    after (.pairLowRead .bar0 Reg.PWR_DOMAIN_STATUS 1 15 0) on (fun t => t.out = [.cpl (.data [0xFFF])]) = true := by
  decide +kernel

theorem test_RegisterReadsMsixAndConfiguration_reads_2 : on.readCause 0x3FFFFFC ≠ 0 ∧
    after (.pairLowRead .bar0 0x3FFFFFC 1 15 0) on (fun t => t.event 61 && decide (t.out.head? = some (.cpl .abort))) = true := by
  decide +kernel

/-- A message that pends leaves when its vector is unmasked; without bus mastering it stays. -/
def pends (p : Pcie) : State := { on with msix := [(15, { addrLo := 0x1000, data := 7, pend := true, masked := true })], pcie := p }

theorem test_RegisterReadsMsixAndConfiguration_msix :
    (after (.registerWrite .bar4 0xFC [0] 15 0) (pends { msixEnable := true, command := 4 })
        (fun t => t.out = [.msix 15 0x1000 7] ∧ t.msixOf 15 = { addrLo := 0x1000, data := 7, masked := false }) &&
      after (.registerWrite .bar4 0xFC [0] 15 0) (pends { msixEnable := true })
        (fun t => t.out = [] ∧ (t.msixOf 15).pend = true) &&
      after (.registerWrite .bar4 0xFC [0] 15 0) (pends { command := 4 }) (fun t => t.out = [] ∧ (t.msixOf 15).pend = true)) = true := by
  decide +kernel

/-- The identifiers; a base of BAR0; D3hot and its end. -/
theorem test_RegisterReadsMsixAndConfiguration_config : (on.pcieUp && !on.boundary &&
    after (.pairLowRead .config 0 1 15 0) on (fun t => t.out = [.cpl (.data [0x98401F5C])]) &&
    after (.pairLowRead .config 0x10 1 15 0) (run (.registerWrite .config 0x10 [0xFFFFFFFF] 15 0) on)
      (fun t => t.out = [.cpl (.data [0xFC000000])]) &&
    after (.pairLowRead .bar0 0 1 15 0) { on with pcie := { d3hot := true } } (fun t => t.out = [.cpl .unsupported]) &&
    after (.registerWrite .config 0x44 [0] 15 0) { on with pcie := { d3hot := true } } (fun t => t.hostUp)) = true := by
  decide +kernel

theorem test_AtomicRequestsAreUnsupported : on.pcieUp = true ∧ on.boundary = false ∧
    after .atomicopRequest on (fun t => t.out = [.cpl .unsupported]) = true := by
  decide +kernel

/-- The last octet of HBM3. -/
theorem test_BackingMemoryAccesses : (on.hostUp && on.domOn pdMem &&
    after (.bar2Access 0x3FFFFFFFE (.write [some 7, none]) 15 15) (on.hbmWrite 0x3FFFFFFFF [9])
      (fun t => t.hbmRead 0x3FFFFFFFE 2 = [7, 9]) &&
    after (.bar2Access 0x3FFFFFFFF (.read 1 (some 0) []) 15 15) on
      (fun t => t.rb Reg.GLB_MEM_STATUS 8 && decide (t.pair Reg.GLB_MEM_UE_LO = 0x3FFFFFFFF)) &&
    after (.bar2Access 0x1FFFFFFFF (.read 2 none [0, 1]) 15 15) (on.hbmWrite 0x200000000 [9])
      (fun t => t.out = [.cpl (.octets [0, 9])] ∧ t.reg Reg.GLB_MEM_CE0 = 1 ∧ t.reg Reg.GLB_MEM_CE1 = 1)) = true := by
  decide +kernel

theorem test_BackingMemoryAccesses_off : (!(holding [(Reg.PWR_DOMAIN_STATUS, 0xFFD)]).domOn pdMem &&
    after (.bar2Access 0x3FFFFFFFF (.write [some 7]) 15 15) (holding [(Reg.PWR_DOMAIN_STATUS, 0xFFD)])
      (fun t => t.event 61 && decide (t.hbm = [] ∧ t.rf Reg.GLB_BUSERR_INFO 16 4 = 4)) &&
    after (.bar2Access 0 (.read 1 none []) 15 15) (holding [(Reg.PWR_DOMAIN_STATUS, 0xFFD)])
      (fun t => t.event 61 && decide (t.out.head? = some (.cpl .abort)))) = true := by
  decide +kernel

theorem test_LockAndClearCommands_SoftEventIsRaised : (on.hostUp &&
    after (.glbLockSet 0x101) (holding [(Reg.GLB_LOCK, 2)]) (fun t => t.reg Reg.GLB_LOCK = 3) &&
    after (.buserrClear 0x80000000) (holding [(Reg.GLB_BUSERR_INFO, 0x8013010F)]) (fun t => t.reg Reg.GLB_BUSERR_INFO = 0) &&
    after (.memUeClear 0x100) (holding [(Reg.GLB_MEM_STATUS, 0x100)]) (fun t => !t.rb Reg.GLB_MEM_STATUS 8) &&
    after (.soft 1) on (fun t => t.event 63) &&
    after (.evtStatusClear 1 0xFFFFFFFE) (holding [(Reg.EVT_STATUS 1, 0xFFFFFFFF)]) (fun t => t.reg (Reg.EVT_STATUS 1) = 1)) = true := by
  decide +kernel

/-! ### Time bases -/

/-- 0.625 ns at RATE 0 are 0.625 × 2^51 units. -/
theorem test_ClockPeriodAdvancesTheTimeBases :
    (match step (holding [(Reg.TB_PLL, 0x100), (Reg.TB_STATUS 3, 1)]) with
      | .next t => decide (t.now = 625000 ∧ (t.tb 3).t = 5 * 2 ^ 48 ∧ (t.tb 0).t = 0)
      | _ => false) = true := by
  decide +kernel

theorem test_TimeBaseEnableDisableAndStep : (takes on (Reg.TB_CTRL 3) 1 && after (.tbEnable 3 1) on (fun t => t.tbState 3 = 1) &&
    takes (holding [(Reg.TB_STATUS 3, 0xB)]) (Reg.TB_CTRL 3) 0 &&
    after (.tbDisable 3 0) (holding [(Reg.TB_STATUS 3, 0xB)]) (fun t => t.tbState 3 = 0 ∧ t.rb (Reg.TB_STATUS 3) 3 = false)) = true := by
  decide +kernel

def freeTb : State := holding [(Reg.TB_STATUS 1, 1), (Reg.TB_CTRL 1, 1), (Reg.TB_STEP_SEC_LO 1, 100), (Reg.TB_STEP_NS 1, 999999999)]

theorem test_TimeBaseEnableDisableAndStep_armed_1 : (takes freeTb (Reg.TB_CTRL 1) 7 && after (.stepGo 1 7) freeTb
    (fun t => t.tbState 1 = 2 ∧ (t.tb 1).step = some ⟨true, false, 100, 999999999⟩ ∧ (t.tb 1).triggered = true)) = true := by
  decide +kernel

def armed : State :=
  (holding [(Reg.TB_STATUS 1, 2), (Reg.TB_CTRL 1, 3), (Reg.TB_PLL, 0x100)]).setTb 1
    { t := 2 ^ 51 - 5, step := some ⟨true, false, 100, 5⟩, triggered := true }

theorem test_TimeBaseEnableDisableAndStep_armed_2 : (armed.nsBoundary 1 && after (.stepApply 1) armed
    (fun t => t.tbState 1 = 3 ∧ stampSec (t.tbNow 1) = 100 ∧ stampNs (t.tbNow 1) = 5 ∧ t.event 6 = true)) = true := by
  decide +kernel

def locked (n : Nat) (st : Word) : State := holding [(Reg.TB_STATUS n, st), (Reg.TB_CTRL n, 0x41), (Reg.TB_PLL, 0x100)]

theorem test_HoldoverAndRelease_1 : (takes (locked 0 3) (Reg.TB_CTRL 0) 0x11 &&
    after (.holdReq 0 0x11) (locked 0 3) (fun t => t.tbState 0 = 4 ∧ t.event 7 = true) && takes (locked 0 5) (Reg.TB_CTRL 0) 0x21 &&
    after (.holdRel 0 0x21) (locked 0 5) (fun t => t.tbState 0 = 3)) = true := by
  decide +kernel

theorem test_HoldoverAndRelease_2 : (after (.tbWatchdogExpiry 3) { locked 3 3 with now := 65535 * fsPerMs }
      (fun t => t.tbState 3 = 4 ∧ t.event 7 = true) &&
    after .pllLossOfLock (locked 2 3) (fun t => t.tbState 2 = 4 ∧ t.event 7 = true ∧ t.reg Reg.TB_PLL = 0x200) &&
    after .pllLock (holding [(Reg.TB_PLL, 0)]) (fun t => t.rb Reg.TB_PLL 8)) = true := by
  decide +kernel

theorem test_HoldoverAndRelease_3 : (takes ((locked 2 4).setStage (Reg.TB_RATE_LO 2) 77) (Reg.TB_RATE_HI 2) 0x1FF &&
    after (.tbRateCommit 2 0x1FF) ((locked 2 4).setStage (Reg.TB_RATE_LO 2) 77)
      (fun t => t.tbState 2 = 3 ∧ t.reg (Reg.TB_RATE_LO 2) = 77 ∧ t.reg (Reg.TB_RATE_HI 2) = 0xFF)) = true := by
  decide +kernel

def mpd (l : List (Nat × Word)) : State := withRegs (locked 2 3) ((Reg.TB_MPD_CFG 2, 0x80310001) :: l)

theorem test_PathDelaySupervision_1 : (takes (locked 2 3) (Reg.TB_MPD 2) 500 && takes (mpd []) (Reg.TB_MPD 2) 500 &&
    after (.tbMpdSample 2 500) (locked 2 3) (fun t => t.tb 2 = (locked 2 3).tb 2) &&
    after (.tbMpdSample 2 500) (mpd []) (fun t => t.reg (Reg.TB_MPD_REF 2) = 500 ∧ (t.tb 2).mpdInit = true)) = true := by
  decide +kernel

/-- A path that is 4,000 units longer than its reference, against a limit of one nanosecond, in a run of one sample. -/
theorem test_PathDelaySupervision_2 : after (.tbMpdSample 2 5000)
    ((mpd [(Reg.TB_MPD_REF 2, 1000)]).setTb 2 { mpdInit := true })
    (fun t => t.tbState 2 = 5 ∧ t.reg (Reg.TB_MPD_STEP 2) = 4000 ∧ t.event 8 = true) = true := by
  decide +kernel

/-- A difference of 256 units is one nanosecond and within it, one of 257 is beyond; an average over 2^3 samples; a run of two. -/
def mpdRuns : State :=
  (withRegs (locked 2 3) [(Reg.TB_MPD_CFG 2, 0x80320001), (Reg.TB_MPD_REF 2, 1000)]).setTb 2 { mpdInit := true }

theorem test_PathDelaySupervision_3 : (takes mpdRuns (Reg.TB_MPD 2) 1256 && takes mpdRuns (Reg.TB_MPD 2) 1257 &&
    after (.tbMpdSample 2 1256) mpdRuns (fun t => t.reg (Reg.TB_MPD_REF 2) = 1032 ∧ t.tbState 2 = 3) &&
    after (.tbMpdSample 2 1257) mpdRuns (fun t => t.reg (Reg.TB_MPD_REF 2) = 1000 ∧ (t.tb 2).mpdRun = 1 ∧ (t.tb 2).mpdSum = 1257) &&
    after (.tbMpdSample 2 744) mpdRuns (fun t => t.reg (Reg.TB_MPD_REF 2) = 968)) = true := by
  decide +kernel

theorem test_PulsesCapturesStampsAndLeapSeconds_1 :
    (after (.ppsInEdge true 0 78) (holding [(Reg.TB_CTRL 2, 0x101), (Reg.TB_STATUS 2, 3)])
      (fun t => t.rb (Reg.TB_PPSIN_STATUS 2) 31 = true ∧ t.event 9 = true ∧ t.rb (Reg.TB_STATUS 2) 12 = true) &&
    after (.ppsInEdge true 100 0) (holding [(Reg.TB_CTRL 2, 0x101), (Reg.TB_STATUS 2, 3), (Reg.TB_PPSIN_CFG, 2)])
      (fun t => t.event 9 = true ∧ t.ppsPin.reject = false) &&
    after (.ppsInEdge true 99 0) (holding [(Reg.TB_CTRL 2, 0x101), (Reg.TB_STATUS 2, 3), (Reg.TB_PPSIN_CFG, 2)])
      (fun t => t.event 9 = false ∧ t.ppsPin.reject = true) &&
    after (.ppsOutPulse 2) (holding [(Reg.TB_CTRL 2, 0x81), (Reg.TB_STATUS 2, 3)]) (fun t => t.event 9 = true ∧ t.out = [.pps 2 100]) &&
    (holding [(Reg.TB_CTRL 2, 0x81), (Reg.TB_STATUS 2, 3)]).ppsDue 2) = true := by
  decide +kernel

theorem test_PulsesCapturesStampsAndLeapSeconds_2 : (takes (on.setTsq 3 [⟨1, 2, 3⟩, ⟨4, 5, 6⟩]) (Reg.TSQ_POP 3) 1 &&
    after (.tsqPop 3 1) (on.setTsq 3 [⟨1, 2, 3⟩, ⟨4, 5, 6⟩]) (fun t => t.tsqOf 3 = [⟨4, 5, 6⟩])) = true := by
  decide +kernel

/-- 59 s and 0 s before E = 59 s; 86,400 s after E = 0 (R108). -/
theorem test_PulsesCapturesStampsAndLeapSeconds_3 :
    (after (.leapPendStart 2) (holding [(Reg.TB_STATUS 2, 3), (Reg.TB_UTC 2, 0x10025), (Reg.TB_LEAP_LO 2, 59)])
      (fun t => t.rb (Reg.TB_STATUS 2) 4) &&
    after (.leapSecondApply 2) (holding [(Reg.TB_STATUS 2, 0x13), (Reg.TB_UTC 2, 0x10025)])
      (fun t => t.rf (Reg.TB_UTC 2) 0 16 = 38 ∧ t.rf (Reg.TB_STATUS 2) 4 3 = 2) &&
    after (.leapSecondApply 2) (holding [(Reg.TB_STATUS 2, 0x13), (Reg.TB_UTC 2, 0x20025)])
      (fun t => t.rf (Reg.TB_UTC 2) 0 16 = 36 ∧ t.rf (Reg.TB_STATUS 2) 4 3 = 6) &&
    after (.leapOccExpiry 2) ((holding [(Reg.TB_STATUS 2, 0x23)]).setTb 2 { t := 86400 * tbSecUnit })
      (fun t => t.reg (Reg.TB_STATUS 2) = 3)) = true := by
  decide +kernel

/-! ### Real-time clock and backup domain -/

theorem test_RealTimeClockTicksAndLoads_1 : (takes (on.setStage Reg.RTC_LOAD_LO 7) Reg.RTC_LOAD_HI 2 &&
    after (.rtcLoadArm 2) (on.setStage Reg.RTC_LOAD_LO 7)
      (fun t => t.rtc.load = some (2 * 2 ^ 32 + 7) ∧ t.rb Reg.RTC_STATUS 0 = true) &&
    after .rtcLoadApply { on with rtc := { on.rtc with load := some (2 ^ 64) } } (fun t => t.rtc.count = 0 ∧ t.rtc.load = none) &&
    after .crystalTick { on with rtc := { on.rtc with count := 2 ^ 64 - 1 } } (fun t => t.rtc.count = 0)) = true := by
  decide +kernel

/-- LOAD_MODE 1 adds to what the tick makes of the counter; HALT. A trim of 1 in a window of 1 ticks twice. -/
theorem test_RealTimeClockTicksAndLoads_3 :
    (after .rtcLoadApply { holding [(Reg.RTC_CTRL, 4)] with rtc := { on.rtc with load := some 5, count := 2 } }
      (fun t => t.rtc.count = 8) &&
    after .crystalTick { holding [(Reg.RTC_CTRL, 1)] with rtc := { on.rtc with count := 2 } } (fun t => t.rtc.count = 2) &&
    after .crystalTick { on with rtc := { on.rtc with count := 2, trim := 1 } } (fun t => t.rtc.count = 4) &&
    after .crystalTick { on with rtc := { on.rtc with count := 2, trim := 0x10001 } } (fun t => t.rtc.count = 2)) = true := by
  decide +kernel

def alarmNear : State :=
  { holding [(Reg.RTC_ALARM_LO, 10), (Reg.RTC_ALARM_HI, 0), (Reg.RTC_CTRL, 2)] with rtc := { on.rtc with count := 9 } }

theorem test_RealTimeClockTicksAndLoads_2 : (alarmNear.alarmDue && alarmNear.evtRuns &&
    after .rtcAlarm alarmNear (fun t => t.rb Reg.RTC_STATUS 8 = true ∧ t.event 12 = true)) = true := by
  decide +kernel

/-- The tick that takes the counter to ALARM, one that leaves it below, and one from beyond it; while the event unit is off 12 is owed. -/
theorem test_RealTimeClockTicksAndLoads_4 : (after .crystalTick alarmNear (fun t => t.rtc.count = 10 ∧ t.rb Reg.RTC_STATUS 8 ∧ t.event 12) &&
    after .crystalTick { alarmNear with rtc := { alarmNear.rtc with count := 8 } } (fun t => t.rtc.count = 9 ∧ !t.rb Reg.RTC_STATUS 8) &&
    after .crystalTick { alarmNear with rtc := { alarmNear.rtc with count := 10 } } (fun t => t.rtc.count = 11 ∧ !t.rb Reg.RTC_STATUS 8) &&
    after .crystalTick { alarmNear with pwr := { start := some .full } }
      (fun t => t.rb Reg.RTC_STATUS 8 ∧ t.rtc.owed12 ∧ !t.event 12)) = true := by
  decide +kernel

theorem test_BackupDomainHappenings : (after .oscStop { on with now := 4 * fsPerMs } (fun t => t.rb Reg.RTC_STATUS 11) &&
    after (.batLowSample 1999) on (fun t => t.rb Reg.RTC_STATUS 3) && after (.batLowSample 2050) on (fun t => !t.rb Reg.RTC_STATUS 3) &&
    after .switchToVbat on (fun t => t.rb Reg.RTC_STATUS 9 = true ∧ t.rtc.lockout = true) &&
    after .switchToVio18 { on with rtc := { on.rtc with onVbat := true, owed13 := true } }
      (fun t => !t.rtc.onVbat && !t.rtc.owed13 && t.event 13) &&
    after .switchToVio18 { on with rtc := { on.rtc with onVbat := true, owed13 := true }, pwr := { start := some .full } }
      (fun t => !t.rtc.onVbat && t.rtc.owed13) &&
    after (.batLowSample 2049) on (fun t => !t.rb Reg.RTC_STATUS 3) && after (.batLowSample 1999) { on with rtc := { on.rtc with onVbat := true } }
      (fun t => !t.rb Reg.RTC_STATUS 3) &&
    after .pdAonPowerOnReset on (fun t => t.reg Reg.RTC_STATUS = 0x400)) = true := by
  decide +kernel

/-! ### Rings and events -/

theorem test_RingStatesErrorsAndTimer_1 : (takes (holding [(Reg.RNG_CTRL 5, 0x20)]) (Reg.RNG_TAIL 5) 65535 &&
    after (.ringTailAdvance 5 65535) (holding [(Reg.RNG_CTRL 5, 0x20)]) (fun t => t.ringTail 5 = 65535) &&
    takes on (Reg.RNG_CTRL 5) 0xD && after (.ringEnable 5 0xD) on (fun t => t.ringState 5 = 1 ∧ t.ringSize 5 = 64)) = true := by
  decide +kernel

theorem test_RingStatesErrorsAndTimer_2 : (takes (withRegs on (ringRegs 31 0 0)) (Reg.RNG_CTRL 31) 0xC &&
    after (.ringDisable 31 0xC) (withRegs on (ringRegs 31 0 0)) (fun t => t.ringState 31 = 2) &&
    after (.ringDisable 5 0xC) (holding [(Reg.RNG_CTRL 5, 0xD), (Reg.RNG_STATUS 5, 3), (Reg.RNG_ERRORS, 0x20)])
      (fun t => t.ringState 5 = 0 ∧ t.reg Reg.RNG_ERRORS = 0)) = true := by
  decide +kernel

def stopping : State := holding [(Reg.RNG_CTRL 5, 0xC), (Reg.RNG_STATUS 5, 2)]

theorem test_RingStatesErrorsAndTimer_3 : (stopping.ringServed 5 && stopping.ringIdle 5 &&
    after (.ringStopped 5) stopping (fun t => t.ringState 5 = 0)) = true := by
  decide +kernel

theorem test_RingStatesErrorsAndTimer_errors_1 : ((withRegs on (ringRegs 31 0 1)).ringServed 31 &&
    after (.ringDmaError 31 ⟨true, true⟩ 3 0x123) (withRegs on (ringRegs 31 0 1)) (fun t => t.reg (Reg.RNG_CNT 31 1) = 1) &&
    after (.ringDmaError 31 ⟨true, false⟩ 3 0x123) (withRegs on (ringRegs 31 0 1)) (fun t => t.ringState 31 = 3 ∧ t.event 25 = true ∧
      t.rb Reg.RNG_ERRORS 31 = true ∧ t.reg Reg.RNG_ERR_INFO = 0x8000411F)) = true := by
  decide +kernel

theorem test_RingStatesErrorsAndTimer_errors_2 : after (.ringCoalesceTimer 5)
    { (holding [(Reg.RNG_THRESH 5, 0x10008)]).setRingX 5 { pend := 2 } with now := fsPerUs }
    (fun t => t.event 22 = true ∧ (t.ringX 5).pend = 0) = true := by
  decide +kernel

/-- Ring 10 gives up the frames of the field segments; a capture that is held stays; a ring that is DISABLED makes no access. -/
theorem test_RingStatesErrorsAndTimer_errors_3 :
    (after (.ringDmaError 10 ⟨false, true⟩ 0 (2 ^ 64 - 1)) (withRegs on ((Reg.RNG_ERR_INFO, 0x80001005) :: ringRegs 10 0 1))
      (fun t => t.ringState 10 = 3 ∧ t.reg (Reg.RNG_CNT 10 1) = 1 ∧ t.reg Reg.RNG_ERR_INFO = 0x80001005) &&
    after (.ringDmaError 10 ⟨false, true⟩ 0 0) on (fun t => t.ringState 10 = 0 ∧ !t.event 25) &&
    after (.ringCoalesceTimer 5) { (holding [(Reg.RNG_THRESH 5, 0x10008)]).setRingX 5 { pend := 2 } with now := fsPerUs - 1 }
      (fun t => (t.ringX 5).pend = 2)) = true := by
  decide +kernel

def ring0 (d : List Byte) : State := (withRegs on (ringRegs 0 0 1 ++ ringRegs 1 0x1000 1)).hostWrite 0 d

def scratchWrite : State := ring0 (leBytes 4 5 ++ leBytes 4 0x74 ++ leBytes 4 99)

theorem test_DescriptorCommands_1 : (scratchWrite.pwr.start.isNone && scratchWrite.ringReady 0 &&
    decide (le (scratchWrite.headDesc 0) 0 4 % 32 = 5 ∧ ring0Access (scratchWrite.headDesc 0) 0 = (Reg.GLB_SCRATCH 1, 99)) &&
    after .ringWrite scratchWrite (fun t => t.reg (Reg.GLB_SCRATCH 1) = 99 ∧ t.ringHead 0 = 1)) = true := by
  decide +kernel

def idRead : State := ring0 (leBytes 4 2)

theorem test_DescriptorCommands_2 : (idRead.ringReady 0 && idRead.ringReady 1 && decide (le (idRead.headDesc 0) 0 4 % 4 = 2 ∧
    idRead.readCause (ring0Access (idRead.headDesc 0) 0).1 = 0)) = true := by
  decide +kernel

def ring24 (d : List Byte) : State :=
  ((holding (ringRegs 24 0 1 ++ [(Reg.RNG_CTRL 24, 0x10D)])).hostWrite 0 d).hostWrite 0x400 [1, 2, 3]

def copyIn : State := ring24 (leBytes 8 0x400 ++ leBytes 4 0x100 ++ leBytes 4 0 ++ leBytes 4 3)
def copyOut : State := ring24 (leBytes 8 0x400 ++ leBytes 4 0x100 ++ leBytes 4 0x80000000 ++ leBytes 4 3)

theorem test_DescriptorCommands_3 : (copyIn.ringReady 24 && decide (copyIn.rf (Reg.RNG_CTRL 24) 8 4 = 1) &&
    after (.ringCopy 24 ⟨none, []⟩) copyIn (fun t => t.hbmRead 0x100 3 = [1, 2, 3] ∧ t.ringHead 24 = 1) &&
    decide (le (copyOut.headDesc 24) 0x0C 4 / 2 ^ 31 = 1) &&
    after (.ringCopy 24 ⟨none, []⟩) (copyOut.hbmWrite 0x100 [9, 8, 7]) (fun t => t.hostRead 0x400 3 = [9, 8, 7]) &&
    after (.ringCopy 24 ⟨some 2, [0]⟩) copyOut (fun t => t.pair Reg.GLB_MEM_UE_LO = 0x102 ∧ t.reg Reg.GLB_MEM_CE0 = 1 ∧ t.ringHead 24 = 1) &&
    after (.ringCopy 24 ⟨none, []⟩) (ring24 (leBytes 8 0x400 ++ leBytes 4 0x100 ++ leBytes 4 0x80000000 ++ leBytes 4 0))
      (fun t => t.hostRead 0x400 3 = [1, 2, 3] ∧ t.ringHead 24 = 1)) = true := by
  decide +kernel

/-! ### Power, resets and start-up -/

theorem test_DomainsRecessAndWake_1 : (takes on Reg.PWR_DOMAIN_EN 0x7FF && decide (on.pwrState = 0)) = true := by decide +kernel

theorem test_DomainsRecessAndWake_2 : (takes (holding [(Reg.PWR_STATUS, 3)]) Reg.PWR_DOMAIN_EN 0xFFF &&
    after (.pwrDomainEnWrite 0xFFF) (holding [(Reg.PWR_STATUS, 3)]) (fun t => t.domainEn = 0xFFF)) = true := by
  decide +kernel

def changing : State := holding [(Reg.PWR_DOMAIN_STATUS, 0x10001), (Reg.PWR_DOMAIN_EN, 0xFFF)]

theorem test_DomainsRecessAndWake_3 : (changing.rb Reg.PWR_DOMAIN_STATUS 16 && decide (changing.pwrState = 0) &&
    takes on Reg.PWR_CMD 3) = true := by
  decide +kernel

def inRecess : State := holding [(Reg.PWR_STATUS, 2), (Reg.PWR_DOMAIN_STATUS, 0x405), (Reg.PWR_DOMAIN_EN, 0xFFF)]

theorem test_DomainsRecessAndWake_4 : (takes inRecess Reg.PWR_CMD 5 &&
    decide (({ inRecess with pwr := { wakeHeld := true } } : State).pwrState = 2)) = true := by
  decide +kernel

theorem test_GovernorCommands_1 : (takes on Reg.PWR_GOV_CTRL 0x640003 &&
    after (.govEnable 0x640003) on (fun t => t.govState = 1 ∧ t.out = [.avs 1 none]) && takes on Reg.PWR_GOV_REQ 0x80000320 &&
    after (.govReq 0x80000320) on (fun t => t.vcore = 800 ∧ t.pwr.ask = some (.manual 800, 0))) = true := by
  decide +kernel

def asked (k : Nat) : State := { holding [(Reg.PWR_GOV_CTRL, 0x640003)] with pwr := { ask := some (.auto 800, k) } }

theorem test_GovernorCommands_2 : (after (.avsResponse none) (asked 0) (fun t => t.pwr.ask = some (.auto 800, 1)) &&
    after (.avsResponse none) (asked 1) (fun t => t.govState = 2 ∧ t.event 60 = true ∧ t.rf Reg.PWR_GOV_STATUS 4 2 = 3) &&
    after (.avsResponse (some 800)) (asked 1) (fun t => t.pwr.ask.isNone)) = true := by
  decide +kernel

/-- The rail reads within and beyond the limits; a manual request is answered. -/
def reading (a : GovAsk) : State :=
  { holding [(Reg.PWR_GOV_CTRL, 0x640003), (Reg.PWR_GOV_LIMIT, 0x384032A)] with pwr := { ask := some (a, 0) } }

theorem test_GovernorCommands_4 : (decide ((reading .read).vMin = 810 ∧ (reading .read).vMax = 900) &&
    after (.avsResponse (some 850)) (reading .read) (fun t => t.vcore = 850 ∧ t.pwr.ask = none) &&
    after (.avsResponse (some 700)) (reading .read) (fun t => t.vcore = 810 ∧ t.pwr.ask = some (.auto 810, 0)) &&
    after (.avsResponse (some 850)) (reading (.manual 850)) (fun t => t.pwr.ask = none)) = true := by
  decide +kernel

def window : State :=
  { holding [(Reg.PWR_GOV_CTRL, 0x640003), (Reg.PWR_GOV_STATUS, 1), (Reg.PWR_GOV_VCORE, 800)] with now := 100 * fsPerMs }

theorem test_GovernorCommands_3 : (window.windowDue && window.govReady && window.pwr.minSlack.isNone &&
    decide (window.vMin + 5 ≤ window.vcore ∧ window.vcore ≤ window.vMax + 5) &&
    after .govWindowEnd window (fun t => t.vcore = 795)) = true := by
  decide +kernel

/-- At VMIN a step down is withheld; a least slack below the target asks for a step up. -/
def atVmin : State := window.setReg Reg.PWR_GOV_LIMIT 0x3840320

theorem test_GovernorCommands_5 : (atVmin.windowDue && atVmin.govReady && decide (atVmin.vcore - 5 < atVmin.vMin ∧
      atVmin.vcore - 5 ≤ atVmin.vMax) &&
    after .govWindowEnd atVmin (fun t => t.vcore = 800 ∧ t.event 60 = true ∧ t.rf Reg.PWR_GOV_STATUS 4 2 = 1 ∧
      t.reg (Reg.PWR_GOV_CNT 2) = 1) &&
    after .govWindowEnd { atVmin with pwr := { atVmin.pwr with minSlack := some (-1) } }
      (fun t => t.vcore = 805 ∧ t.event 59 = true ∧ t.reg (Reg.PWR_GOV_CNT 0) = 1)) = true := by
  decide +kernel

/-- A least slack at HIGH_US asks for nothing, one above it for a step down; before its end a window does nothing. -/
def slackOf (x : Int) : State := { window with pwr := { window.pwr with minSlack := some x } }
def highUs : Int := (window.rf Reg.PWR_GOV_TARGET 16 16 : Int) * ((1000 * stampNsUnit : Nat) : Int)

theorem test_GovernorCommands_6 : (decide ((window.rf Reg.PWR_GOV_TARGET 0 16 : Int) * ((1000 * stampNsUnit : Nat) : Int) ≤ highUs) &&
    after .govWindowEnd (slackOf highUs) (fun t => t.vcore = 800 ∧ t.pwr.ask = none ∧ t.pwr.winStart = t.now) &&
    after .govWindowEnd (slackOf (highUs + 1)) (fun t => t.vcore = 795 ∧ t.pwr.ask = some (.auto 795, 0) ∧ t.reg (Reg.PWR_GOV_CNT 1) = 1) &&
    after .govWindowEnd { window with now := 100 * fsPerMs - 1 } (fun t => t.vcore = 800)) = true := by
  decide +kernel

/-- A request that is under way when EN is cleared. -/
def waitsOne : State := { on with pwr := { ask := some (.auto 800, 0) } }

/-- A request behind it, its turn at the acknowledgement, one in FAULT, and a rail read with EN 0. -/
theorem test_GovernorCommands_7 : (takes waitsOne Reg.PWR_GOV_REQ 0x80000320 &&
    after (.govReq 0x80000320) waitsOne (fun t => t.pwr.ask = some (.auto 800, 0) ∧ t.pwr.asks = [.manual 800] ∧ t.out = []) &&
    after (.avsResponse (some 800)) (run (.govReq 0x80000320) waitsOne) (fun t => t.pwr.ask = some (.manual 800, 0) ∧ t.pwr.asks = []) &&
    after (.avsResponse (some 800)) (run (.govReq 0x80000320) on) (fun t => t.pwr.ask = none ∧ !t.rb Reg.PWR_GOV_REQ 31) &&
    takes (holding [(Reg.PWR_GOV_STATUS, 2)]) Reg.PWR_GOV_REQ 0x80000320 &&
    after (.govReq 0x80000320) (holding [(Reg.PWR_GOV_STATUS, 2)]) (fun t => t.pwr.ask = none ∧ t.out = []) &&
    after (.avsResponse (some 700)) ((reading .read).setReg Reg.PWR_GOV_CTRL 0x640002) (fun t => t.vcore = 700 ∧ t.pwr.ask = none) &&
    after (.avsResponse (some 1)) on (fun t => t.pwr.ask = none)) = true := by
  decide +kernel

theorem test_ResetsReachWhatTheyName_1 : takes on Reg.GLB_RESET 0xA5C30001 = true ∧ on.hostUp = true := by decide +kernel

theorem test_ResetsReachWhatTheyName_3 : (on.pcieUp && !on.pcie.d3hot &&
    after (.functionLevelReset true) on (fun t => t.pcie.d3hot = true) &&
    after (.functionLevelReset false) on (fun t => t.pcie.d3hot = false ∧ t.rb Reg.PWR_RESET_CAUSE 4 = true)) = true := by
  decide +kernel

/-- Supplies that fall: too shortly, to the threshold of their brown-out, below it while detection is not armed; VIO18 below 1.65 V and not
below 1.60 V. What a brown-out assumes of the state holds of one that runs. -/
theorem test_ResetsReachWhatTheyName_4 :
    (after (.mainPowerOnReset (.dip [(0, 0)] 999)) on (fun t => t.reg Reg.PWR_DOMAIN_STATUS = 0xFFF) &&
    after (.mainPowerOnReset (.dip [(0, 580)] 1000)) on (fun t => t.reg Reg.PWR_DOMAIN_STATUS = 0xFFF) &&
    after (.mainPowerOnReset (.dip [(0, 579)] 1000)) { on with pwr := { start := some .full } } (fun t => t.reg Reg.PWR_DOMAIN_STATUS = 0xFFF) &&
    after (.mainPowerOnReset (.dip [(6, 1649)] 1000)) on
      (fun t => t.reg Reg.PWR_DOMAIN_STATUS = 0xFFF ∧ t.rtc.onVbat ∧ t.rtc.lockout ∧ t.rb Reg.RTC_STATUS 9) &&
    decide (brownOutMv.getD 0 0 = 580 ∧ brownOutMv.getD 6 0 = 1600 ∧ brownOutMv.getD 7 0 = 2950 ∧ on.pwr.start = none)) = true := by
  decide +kernel

theorem test_ResetsReachWhatTheyName_2 : after .perstRelease { on with pwr := { perst := true } } (fun t => !t.pwr.perst) = true := by
  decide +kernel

theorem test_StartUpTemperatureAndBankSupplies_1 : State.reset.pwr.start = some .full := rfl

/-- 2.00 ms after the last supply, and a microsecond earlier; after a device reset the time does not matter. -/
theorem test_StartUpTemperatureAndBankSupplies_3 :
    (after (.startUp true ⟨5, 2000⟩) { on with pwr := { start := some .full } } (fun t => t.pwr.start = none ∧ t.rb Reg.TB_PLL 8 ∧
      t.rf Reg.GLB_BOARD 0 4 = 13 ∧ t.rb Reg.IMG_LOAD_STATUS 0) &&
    after (.startUp true ⟨5, 1999⟩) { on with pwr := { start := some .full } } (fun t => t.pwr.start.isSome ∧ !t.rb Reg.IMG_LOAD_STATUS 0) &&
    after (.startUp true ⟨5, 0⟩) { on with pwr := { start := some .domains } } (fun t => t.pwr.start = none ∧ t.rb Reg.IMG_LOAD_STATUS 0)) =
    true := by
  decide +kernel

theorem test_StartUpTemperatureAndBankSupplies_2 : (after (.therm [0, 0, 1000, 0]) on (fun t => t.event 62 = true ∧ t.pwr.thermArmed = false) &&
    after (.therm [0, 950]) { on with pwr := { thermArmed := false } } (fun t => !t.event 62 && !t.pwr.thermArmed) &&
    after (.therm [949, -400]) { on with pwr := { thermArmed := false } } (fun t => t.pwr.thermArmed) &&
    after (.bankSupplyChange 3 2500) on (fun t => t.bank3v3 3 && !t.bank3v3 1)) = true := by
  decide +kernel

/-! ### Image loader -/

def booting : State := holding [(Reg.IMG_LOAD_STATUS, 1), (Reg.IMG_CTRL, 0)]

/-- A flash that does not answer is code 10. -/
theorem test_BootLoads_2 : booting.rb Reg.IMG_LOAD_STATUS 0 = true ∧ booting.rb Reg.IMG_CTRL 1 = false ∧
    ((State.selectReadMode { (booting.setRf Reg.IMG_LOAD_STATUS 1 2 1).setRb Reg.IMG_LOAD_STATUS 3 false with
      loader := { booting.loader with warm := false } }).readFlash 0).checkFlash 0 (framesBad [] 0) = (10, 63) := by
  decide +kernel

/-- Neither copy answers. -/
theorem test_BootLoads_4 : (booting.setReg Reg.IMG_CTRL 2).rb Reg.IMG_CTRL 1 = true ∧
    after (.bootLoad [] []) (booting.setReg Reg.IMG_CTRL 2) (fun t => t.rf Reg.IMG_LOAD_STATUS 8 8 = 10 ∧
      t.rf Reg.IMG_LOAD_STATUS 1 2 = 2 ∧ t.event 1 = true) = true := by
  decide +kernel

theorem test_BootLoads_3 : on.rb Reg.IMG_LOAD_STATUS 0 = false ∧ after (.bootLoad [] []) on (fun t => !t.event 1) = true := by
  decide +kernel

theorem test_HostLoadsAndCaching_2 : (takes (holding [(Reg.IMG_SRC, 0)]) Reg.IMG_LOAD_CMD 3 &&
    after (.imgLoad 3 []) (holding [(Reg.IMG_SRC, 0)]) (fun t => t.rf Reg.IMG_LOAD_STATUS 8 8 = 10 ∧ t.event 1 = true)) = true := by
  decide +kernel

def memOff : State := holding [(Reg.PWR_DOMAIN_STATUS, 0xFFD), (Reg.IMG_STAGE_LEN, 0x2000)]

/-- A stage that ends beyond HBM3; a CACHE of it leaves HBM3 alone. -/
def beyond : State := holding [(Reg.IMG_STAGE_HI, 3), (Reg.IMG_STAGE_LO, 0xFFFFF000), (Reg.IMG_STAGE_LEN, 0x2000)]

theorem test_HostLoadsAndCaching_4 : (takes beyond Reg.IMG_LOAD_CMD 0x35 && !hbmRangeOk beyond.stageAt beyond.stageLen && decide (fld 0x35 1 2 = 2) &&
    after (.imgCache 0x35) beyond (fun t => t.rf Reg.IMG_LOAD_STATUS 8 8 = 10 ∧ t.event 1 = true ∧ t.hbm = [] ∧ !t.rb Reg.IMG_LOAD_CMD 0)) = true := by
  decide +kernel

theorem test_HostLoadsAndCaching_3 : (takes memOff Reg.IMG_LOAD_CMD 0x35 && hbmRangeOk memOff.stageAt memOff.stageLen &&
    after (.imgCache 0x35) memOff (fun t => t.rf Reg.IMG_LOAD_STATUS 8 8 = 12 ∧ t.event 1 = true)) = true := by
  decide +kernel

/-- A section entry of one frame of zeros, with its digest. -/
def zeroEntry : List Byte := leBytes 8 0x100001000 ++ leBytes 8 0 ++
  beBytes 32 0xad7facb2586fc6e966c004d7d1d16b024f5805ff7cb47c7a85dabd8b48892ca7
def zeroFrame : List Byte := List.replicate 4096 0

/-- Classroom 2 in state `st`, with its section in cache entry 0 in HBM3. -/
def classS (st : Word) : State :=
  { holding [(Reg.IMG_CLS_STATE 2, st), (Reg.IMG_CACHE, 1), (Reg.IMG_CTRL, 1)] with
    hbm := (zeroEntry.zipIdx).map (fun e => (entryAt 0 + 0x40 + 48 * 3 + e.2, e.1)), classrooms := [(2, { owed := true })] }

theorem test_ClassroomRewrites_1 : (takes (withRegs (classS 1) [(Reg.PWR_DOMAIN_STATUS, 0xF7F)]) Reg.IMG_CLS_CMD 0x203 &&
    after (.update 0x203 ⟨[], []⟩ {}) (withRegs (classS 1) [(Reg.PWR_DOMAIN_STATUS, 0xF7F)])
      (fun t => t.rf Reg.IMG_CLS_STATUS 16 8 = 12 ∧ t.rf Reg.IMG_CLS_STATUS 24 5 = 2) &&
    decide ((classS 1).cached 3 2 = none) &&
    after (.update 0x30203 ⟨[], []⟩ {}) (classS 1) (fun t => t.rf Reg.IMG_CLS_STATUS 16 8 = 17)) = true := by
  decide +kernel

/-- Reads of a table that lie behind its last key, and within a longer read. -/
theorem getList_above (d : Nat → Byte) (v : Byte) (hd : ∀ a, d a = v) : ∀ (t : Tab Byte) (k n : Nat), (∀ e ∈ t, e.1 < k) →
    Tab.getList d t k n = List.replicate n v := fun t k n h => by
  have g : ∀ (t : Tab Byte) (j : Nat), (∀ e ∈ t, e.1 < j) → Tab.get d t j = v := fun t j => by
    induction t with
    | nil => intro _; exact hd j
    | cons e t ih =>
      intro h
      rw [Tab.get, if_neg (Nat.ne_of_lt (h e (by simp)))]
      exact ih (fun x hx => h x (by simp [hx]))
  apply List.ext_getElem
  · simp [Tab.getList]
  · intro i h1 h2
    simp only [Tab.getList, List.getElem_map, List.getElem_range, List.getElem_replicate]
    exact g t (k + i) (fun e he => Nat.lt_of_lt_of_le (h e he) (Nat.le_add_right _ _))

theorem slice_getList (d : Nat → Byte) (t : Tab Byte) (k n i m : Nat) (h : i + m ≤ n) :
    slice (Tab.getList d t k n) i m = Tab.getList d t (k + i) m := by
  apply List.ext_getElem
  · simp [slice, Tab.getList]; omega
  · intro j h1 h2
    simp [slice, Tab.getList, Nat.add_assoc]

/-- Whatever else holds, entry 0 of that HBM3 has the section of classroom 2. -/
theorem class_cached (s : State) (hm : s.hbm = (classS 0).hbm) (hv : s.rb Reg.IMG_CACHE 0 = true) :
    s.cached 0 2 = some (zeroEntry, zeroFrame) := by
  have x : secEntry (s.hbmAt (entryAt 0) 0 4096) (2 + 1) = zeroEntry := by
    unfold secEntry State.hbmAt State.hbmRead
    rw [slice_getList _ _ _ _ _ _ (by decide), hm]
    decide +kernel
  have f : secFrames zeroEntry = 1 := by decide +kernel
  have o : secOffset zeroEntry = 4096 := by decide +kernel
  have z : s.hbmAt (entryAt 0) 4096 (4096 * 1) = zeroFrame := by
    unfold State.hbmAt State.hbmRead
    rw [hm, getList_above blank 0 (fun _ => rfl) _ _ _ (by decide +kernel), zeroFrame]
  simp only [State.cached, hv, sectionFrames, x, f, o, z]
  rfl

/-- Classroom 2 has a section in entry 0, in each state. -/
theorem test_ClassroomRewrites_2 : (classS 0).cached 0 2 = some (zeroEntry, zeroFrame) ∧
    (classS 3).cached 0 2 = some (zeroEntry, zeroFrame) ∧ (classS 3).clsState 2 = 3 :=
  ⟨class_cached _ rfl (by decide +kernel), class_cached _ rfl (by decide +kernel), by decide +kernel⟩

theorem test_ClassroomRewrites_3 : (classS 3).linkOff 2 (planOf zeroEntry zeroFrame) = false := by simp [State.linkOff]

theorem test_ClassroomRewrites_4 : (classS 3).Spares 2 [] ∧ (classS 3).Spares 2 [128, 129, 130, 131, 132, 133, 134, 135] ∧
    ¬ (classS 3).Spares 2 [0, 128, 129, 130, 131, 132, 133, 134, 135] := by
  unfold State.Spares
  decide +kernel

theorem test_ClassroomRewrites_5 : takes (classS 3) Reg.IMG_CLS_CMD 0x205 = true ∧ fld 0x205 1 2 = 2 ∧ fld 0x205 8 5 = 2 ∧
    127 ∈ (classS 3).baseMap 2 ∧ (classS 3).desk 2 127 ≠ 3 := by
  decide +kernel

/-- The last octet of a cache entry can meet an error; classrooms 15 and 16 share a link between the domains. -/
theorem test_ClassroomRewrites_7 : (decide (entryAt 3 + 0x1FFFFFF < hbmSize ∧ 2 ^ 33 ≤ entryAt 0) && !(classS 3).rb Reg.GLB_MEM_STATUS 8 &&
    (holding [(Reg.PWR_DOMAIN_STATUS, 0xEFF)]).linkOff 15 { wires := [{ src := .neighbour true 0, dst := .deskIn 0 0 }] } &&
    !(holding [(Reg.PWR_DOMAIN_STATUS, 0xEFF)]).linkOff 15 { wires := [{ src := .neighbour false 0, dst := .deskIn 0 0 }] }) = true := by
  decide +kernel

/-- Four classrooms are in cover, so that a fifth has none left. -/
def coverFull : State := { classS 1 with sched := { cover := [3, 4, 5, 6] } }

theorem test_ClassroomRewrites_6 : (coverFull.noCover 2 && decide (coverFull.clsState 2 = 1) && takes coverFull Reg.IMG_CLS_CMD 0x203) = true ∧
    coverFull.cached 0 2 = some (zeroEntry, zeroFrame) :=
  ⟨by decide +kernel, class_cached _ rfl (by decide +kernel)⟩

theorem test_UnloadAndOwnRepair_1 : (takes (classS 0) Reg.IMG_CLS_CMD 0x207 &&
    after (.unload 0x207) (classS 0) (fun t => t.rf Reg.IMG_CLS_STATUS 16 8 = 16)) = true := by
  decide +kernel

theorem test_UnloadAndOwnRepair_2 : takes (classS 1) Reg.IMG_CLS_CMD 0x207 = true ∧ (classS 1).clsState 2 ≠ 0 ∧
    (classS 1).lessonsOn 2 = [] := by
  decide +kernel

theorem test_UnloadAndOwnRepair_3 : (classS 3).rb Reg.IMG_CTRL 0 = true ∧ ((classS 3).classroom 2).owed = true ∧
    (classS 3).loader.unloading = none ∧ (classS 3).domOn pdHost = true ∧ (classS 3).domOn (classDomain 2) = true := by
  decide +kernel

/-! ### Ports, parallel redundancy and field segments -/

def fr : List Byte := List.replicate 60 0x22

theorem test_PortLinkAndControl : (on.domOn (portDomain 3) &&
    after (.macLink 3 true ⟨false, 0, 0⟩) (holding [(Reg.MAC_CTRL 3, 0x71)]) (fun t => t.macLink 3 = true ∧ t.event 18 = true) &&
    after (.macLink 3 true ⟨false, 0, 0⟩) (holding [(Reg.MAC_CTRL 3, 0x75)]) (fun t => t.macLink 3 = false ∧ t.event 18 = false) &&
    takes (holding [(Reg.MAC_CTRL 1, 0x71), (Reg.MAC_STATUS 1, 3)]) (Reg.MAC_CTRL 1) 0x70 &&
    after (.macCtrlWrite 1 0x70) (holding [(Reg.MAC_CTRL 1, 0x71), (Reg.MAC_STATUS 1, 3)])
      (fun t => t.macLink 1 = false ∧ t.event 18 = true)) = true := by
  decide +kernel

/-- With the FEC on the corrected and the uncorrectable codewords count, and the pair of a counter carries. -/
theorem test_PortLink_codewords : after (.macLink 3 true ⟨true, 2, 1⟩)
    (holding [(Reg.MAC_CTRL 3, 0x75), (Reg.MAC_STAT_LO 3 fecCorr, 0xFFFFFFFF)]) (fun t => t.macLink 3 = true ∧
      t.pair (Reg.MAC_STAT_LO 3 fecCorr) = 0x100000001 ∧ t.pair (Reg.MAC_STAT_LO 3 fecUncorr) = 1) = true := by
  decide +kernel

def port1 : State := holding [(Reg.MAC_CTRL 1, 0x71), (Reg.MAC_STATUS 1, 3), (Reg.ITK_CTRL, 1)]

theorem test_FrameReception_1 : (port1.macEn 1 && port1.rb (Reg.MAC_CTRL 1) 4 && port1.macLink 1 && decide (fcs fr ≠ [0, 0, 0, 0]) &&
    after (.frameReceive 1 (fr ++ [0, 0, 0, 0]) false 0 true) port1 (fun t => t.pair (Reg.MAC_STAT_LO 1 rxFcsErr) = 1) &&
    after (.frameReceive 1 (fr.tail ++ fcs fr.tail) false 0 true) port1 (fun t => t.pair (Reg.MAC_STAT_LO 1 rxLenErr) = 1)) = true := by
  decide +kernel

theorem test_FrameReception_2 : (port1.macAccepts 1 (fr.take 6) && decide ((etherType fr).1 ≠ 0x8808) &&
    after (.frameReceive 1 (fr ++ fcs fr) false 78 false) port1 (fun t => (t.rxOf 1).map (fun f => f.octets) = [fr] ∧
      t.pair (Reg.MAC_STAT_LO 1 rxFrames) = 1 ∧ t.pair (Reg.MAC_STAT_LO 1 rxOctets) = 64)) = true := by
  decide +kernel

theorem test_FrameReception_3 : after (.frameReceive 1 (fr ++ fcs fr) false 78 true) port1
    (fun t => t.event 19 = true ∧ t.pair (Reg.MAC_STAT_LO 1 rxDrop) = 1) = true := by
  decide +kernel

theorem test_TransmissionAndRedundancy_1 : after (.macTransmit 1 3) (port1.txQueue 1 0 fr)
    (fun t => t.out = [.frame 1 (fr ++ fcs fr)] ∧ t.txOf 1 = []) = true := by
  decide +kernel

/-- Two copies with lane identifiers A and B and one sequence number, which wraps. -/
def doubled : State := (holding [(Reg.MAC_CTRL 0, 0x71), (Reg.MAC_STATUS 0, 3), (Reg.MAC_CTRL 1, 0x71), (Reg.MAC_STATUS 1, 3),
  (Reg.PRP_CTRL 0, 0x400001), (Reg.PRP_SEQ 0, 65535)]).txQueue 0 0 fr

theorem test_TransmissionAndRedundancy_2 : (doubled.prpDoubles 0 fr false && doubled.txReady 0 &&
    after (.macTransmit 0 3) doubled (fun t => t.out.length = 1 ∧ t.txOf 0 = [] ∧
      t.txOf 1 = [⟨0, withRct fr 65535 11, true, false⟩] ∧ t.rf (Reg.PRP_SEQ 0) 0 16 = 0) &&
    after (.macTransmit 1 3) (run (.macTransmit 0 3) doubled) (fun t => t.out.length = 2 ∧ t.txOf 1 = [] ∧
      t.reg (Reg.PRP_CNT 0 1) = 1)) = true := by
  decide +kernel

/-- Without a link a frame of the alarm path is discarded and counted. -/
theorem test_TransmissionAndRedundancy_5 : after (.macTransmit 1 3) ((holding [(Reg.MAC_CTRL 1, 0x71)]).txQueue 1 0 fr) (fun t =>
    t.out = [] ∧ t.txOf 1 = [] ∧ t.pair (Reg.MAC_STAT_LO 1 txErr) = 1 ∧ t.reg (Reg.ANA_CNT 2) = 1) = true := by
  decide +kernel

/-- A frame of 9,000 octets is longer than the port's limit. -/
theorem test_TransmissionAndRedundancy_3 : after (.macTransmit 1 0)
    ((withRegs port1 (ringRegs 3 0 1)).hostWrite 0 (leBytes 8 0x1000 ++ leBytes 4 9000))
    (fun t => t.ringHead 3 = 1 ∧ t.pair (Reg.MAC_STAT_LO 1 txErr) = 1 ∧ t.rb (Reg.MAC_STATUS 1) 10 = true) = true := by
  decide +kernel

theorem test_TransmissionAndRedundancy_4 : after (.prpLanFault 0 1)
    { (holding [(Reg.PRP_CTRL 0, 0x400001)]).setPrp 0 { lastA := some (2000 * fsPerMs), lastB := none, since := 0 } with
      now := 2500 * fsPerMs } (fun t => t.rb (Reg.PRP_STATUS 0) 1 = true ∧ t.event 21 = true) = true := by
  decide +kernel

def t1Given : State :=
  ((withRegs on (ringRegs 10 0 1)).hostWrite 0
    (leBytes 8 0x1000 ++ leBytes 4 60 ++ leBytes 4 0 ++ leBytes 4 0 ++ leBytes 4 0x20000)).hostWrite 0x1000 fr

theorem test_FieldSegments_1 : after .t1sDescriptorTake t1Given
    (fun t => (t.segm 2).queue = [⟨0, fr⟩] ∧ (t.segm 2).st = .defer ∧ t.t1sTaken = [⟨0, none⟩]) = true := by
  decide +kernel

def seg (st : SegState) (ctrl : Word) : State :=
  { (holding [(Reg.T1Ss_CTRL 2, ctrl)]).setSegm 2 { st := st, queue := [⟨0, fr⟩], n := 2 } with t1sTaken := [⟨0, none⟩] }

theorem test_FieldSegments_2 : (after (.t1sDeferEnd 2) (seg .defer 0x1007) (fun t => (t.segm 2).st = .send) &&
    after (.t1sSendComplete 2) (seg .send 0x1007)
      (fun t => (t.segm 2).st = .idle ∧ t.out = [.t1s 2 (fr ++ fcs fr)] ∧ t.reg (Reg.T1Ss_CNT 2 0) = 1)) = true := by
  decide +kernel

/-- A collision in bit 512 is not late, one in bit 513 is. -/
theorem test_FieldSegments_3 :
    (after (.t1sCollision 2 512) (seg .send 0x1007)
      (fun t => (t.segm 2).st = .jam ∧ (t.segm 2).n = 3 ∧ t.out = [.jam 2 0xAAAAAAAA] ∧ (t.segm 2).until_ = t1sJamFs) &&
    after (.t1sCollision 2 513) (seg .send 0x1007)
      (fun t => (t.segm 2).queue = [] ∧ t.rb (Reg.T1Ss_STATUS 2) 9 = true ∧ t.reg (Reg.T1Ss_CNT 2 3) = 1)) = true := by
  decide +kernel

/-- The jam of the third attempt ends with the period in which 32 bit times have passed: of three attempts it was the last, of 16 it was
not. Before the gap of 96 bit times has passed, DEFER does not end. -/
def jamEnd (ctrl : Word) (p : State → Bool) : Bool :=
  match step { run (.t1sCollision 2 512) (withRegs (seg .send ctrl) [(Reg.TB_PLL, 0x100)]) with now := t1sJamFs } with
  | .next t => p t
  | _ => false

theorem test_FieldSegments_6 : jamEnd 0x0307 (fun t => t.event 20) = true := by decide +kernel

theorem test_FieldSegments_7 : jamEnd 0x0307 (fun t => (t.segm 2).queue = []) = true := by decide +kernel

theorem test_FieldSegments_8 : jamEnd 0x1007 (fun t => (t.segm 2).st = .backoff) = true := by decide +kernel

theorem test_FieldSegments_9 : (after (.t1sDeferEnd 2) { (seg .defer 0x1007).setSegm 2 { st := .defer, queue := [⟨0, fr⟩], quiet := some 1 } with now := t1sGapFs }
      (fun t => (t.segm 2).st = .defer)) = true := by
  decide +kernel

theorem test_FieldSegments_4 : (after (.t1sBackoffExpiry 2) (seg .backoff 0x1007) (fun t => (t.segm 2).st = .defer) &&
    takes (seg .backoff 0x1007) Reg.T1S_SEED 7 && (seg .backoff 0x1007).t1sAccepts 2 (fr.take 6) &&
    after (.t1sReceive 2 (fr ++ [0, 0, 0, 0]) true) (seg .idle 0x1007) (fun t => t.reg (Reg.T1Ss_CNT 2 5) = 1) &&
    after (.t1sReceive 2 (fr ++ fcs fr) true) (seg .idle 0x1007)
      (fun t => t.reg (Reg.T1Ss_CNT 2 6) = 1 ∧ t.event 19 = true)) = true := by
  decide +kernel

theorem test_FieldSegments_5 : after (.t1sReceive 2 (fr ++ fcs fr) false) (seg .idle 0x1007) (fun t => t.reg (Reg.T1Ss_CNT 2 4) = 1) =
    true := by
  decide +kernel

/-! ### Stream intake and roll call -/

/-- A C37.118.2 data frame of stream 7 at 1000 s and half a second. -/
def block0 : List Byte := [0xAA, 0x02] ++ beBytes 2 26 ++ beBytes 2 7 ++ beBytes 4 1000 ++ [0] ++ beBytes 3 500000 ++ beBytes 2 0 ++
  beBytes 4 0x10002 ++ beBytes 4 0
def block : List Byte := block0 ++ beBytes 2 (crcCcitt block0)
def ipHdr : List Byte := [0x45, 0] ++ beBytes 2 54 ++ [0, 0, 0, 0, 64, 17]
def pmuFrame : List Byte := List.replicate 12 0x22 ++ [8, 0] ++ ipHdr ++
  beBytes 2 (inetChecksum (sum16 (ipHdr ++ [0, 0, 10, 0, 0, 1, 10, 0, 0, 2]))) ++ [10, 0, 0, 1, 10, 0, 0, 2] ++
  beBytes 2 4000 ++ beBytes 2 4713 ++ beBytes 2 34 ++ beBytes 2 0 ++ block

/-- The descriptor of seat 3: form 5, stream 7 from 10.0.0.1 port 4000, and the frame in the buffer of port 1. -/
def described (fs : List Byte) : State :=
  (((((((((holding [(Reg.ITK_CTRL, 3), (Reg.ITK_SEATS, 4)]).setSeatW 3 0 0xF0501).setSeatW 3 4 7).setSeatW 3 8 0xFA00000).setSeatW 3
    0x14 0xFFFF0000).setSeatW 3 0x18 0x100000A).setSeatW 3 0x1C 0x100).setSeatW 3 0x28 0x3F800000).setSeatW 3 0x38 1000000).setRx 1
    [{ octets := fs, port := 1, stamp := 77, tb := 0, rct := false, ring := 7 }]

def seated3 (fs : List Byte) : State := { described fs with seats := [(3, some { form := 5, member := 2 })] }

def unseated : State := (described []).setSeatW 3 0x3C 0x3F3F

theorem test_SeatCommands_1 : (takes unseated Reg.ITK_SEAT_CMD 0x30003 && decide (unseated.seat 3 = none) && unseated.descOk 3 &&
    unseated.remoteSeats.isEmpty && decide (unseated.freeMember 5 (unseated.seatRecLen 3) = some 0)) = true := by
  decide +kernel

theorem test_SeatCommands_2 : (after (.seatAdd 0x30003) (seated3 []) (fun t => t.rf Reg.ITK_SEAT_STATUS 16 8 = 3) &&
    takes (seated3 []) Reg.ITK_SEAT_CMD 0x30005 &&
    after (.seatRemove 0x30005) (seated3 [])
      (fun t => t.rf Reg.ITK_SEAT_STATUS 16 8 = 0 ∧ t.seat 3 = none ∧ (t.form 5).quarantine = [(2, 0)]) &&
    after (.seatRemove 0x30005) unseated (fun t => t.rf Reg.ITK_SEAT_STATUS 16 8 = 3)) = true := by
  decide +kernel

theorem test_SeatCommands_3 : after (.streamSilent 3) { (seated3 []).setSeatW 3 0x40 100 with now := 100 * fsPerMs }
    (fun t => t.event 29 = true ∧ t.seatW 3 0x80 = 1) = true := by
  decide +kernel

theorem test_FramesFromTheReceiveBuffer_1 : after (.intakeFrame 1) (seated3 fr)
    (fun t => t.rxOf 1 = [] ∧ t.reg (Reg.ITK_CNT 10) = 1) = true := by
  decide +kernel

/-- The receive ring has a descriptor whose buffer holds the frame: the intake off, and a frame that is not IP. -/
def ringed : State := (withRegs (seated3 fr) (ringRegs 7 0 1)).hostWrite 0 (leBytes 8 0x4000 ++ leBytes 4 256)

theorem test_FramesFromTheReceiveBuffer_4 : (ringed.ringReady 7 && bufUsable (bufLen (ringed.headDesc 7)) &&
    after (.intakeFrame 1) (ringed.setReg Reg.ITK_CTRL 0) (fun t => t.ringHead 7 = 1 ∧ t.hostRead 0x4000 60 = fr ∧ t.rxOf 1 = []) &&
    after (.intakeFrame 1) ringed (fun t => t.ringHead 7 = 1 ∧ t.hostRead 0x4000 60 = fr ∧ t.reg (Reg.ITK_CNT 10) = 1) &&
    after (.intakeFrame 1) (seated3 fr) (fun t => t.reg (Reg.RNG_CNT 7 1) = 1)) = true := by
  decide +kernel

theorem test_FramesFromTheReceiveBuffer_2 : after (.intakeFrame 1) (seated3 pmuFrame)
    (fun t => t.rxOf 1 = [] ∧ t.seated.map (fun g => (g.code, g.ns)) = [(3, 500000000)] ∧ t.reg (Reg.ITK_CNT 1) = 1) = true := by
  decide +kernel

/-- The same with the more-fragments bit and its checksum. -/
def fragment : List Byte := patch (patch pmuFrame 20 [0x20]) 24
  (beBytes 2 (inetChecksum (sum16 ([0x45, 0] ++ beBytes 2 54 ++ [0, 0, 0x20, 0, 64, 17, 0, 0, 10, 0, 0, 1, 10, 0, 0, 2]))))

theorem test_FramesFromTheReceiveBuffer_3 : after (.intakeFrame 1) (seated3 fragment)
    (fun t => t.rxOf 1 = [] ∧ t.reg (Reg.ITK_CNT 8) = 1 ∧ t.seated = []) = true := by
  decide +kernel

/-- Form 5: 50 instants a second, eight members, a deadline in the ring's reach. -/
def formed : State := tbOn (holding [(Reg.FORM_CTRL 5, 0x118860)])

theorem test_FormCommands_1 : (takes formed Reg.RCL_CMD 0x503 && decide (formed.startCheck 5 = 0) && decide (on.startCheck 5 ≠ 0) &&
    after (.formStart 0x503) formed
      (fun t => t.formState 5 = 1 ∧ t.rf Reg.RCL_CMD_STATUS 16 8 = 0 ∧ (t.form 5).next = ⟨1000, 0⟩)) = true := by
  decide +kernel

def started : State := run (.formStart 0x503) formed

theorem test_FormCommands_2 : (takes started Reg.RCL_CMD 0x505 &&
    after (.formStop 0x505) started (fun t => t.formState 5 = 0 ∧ t.rf Reg.RCL_CMD_STATUS 16 8 = 0 ∧ (t.form 5).rolls = []) &&
    after (.formStop 0x505) formed (fun t => t.rf Reg.RCL_CMD_STATUS 16 8 = 1)) = true := by
  decide +kernel

theorem test_FormCommands_3 : (takes started Reg.RCL_CMD 0x507 && (started.regPar 5).rangeOk && (started.regPar 5).limitOk &&
    decide (started.regPar 5 = started.formPar 5) &&
    after (.formRetime 0x507) started (fun t => t.formState 5 = 2 ∧ (t.form 5).staged.map (fun x => x.1) = some 1001)) = true := by
  decide +kernel

/-- Another DEPTH than the form's, and a tardy window that takes more open rolls than there are. -/
theorem test_FormCommands_5 :
    (after (.formRetime 0x507) (started.setReg (Reg.FORM_CTRL 5) 0x118960) (fun t => t.rf Reg.RCL_CMD_STATUS 16 8 = 3) &&
    !((started.setReg (Reg.FORM_WINDOW 5) 0x64EA60).regPar 5).limitOk && ((started.setReg (Reg.FORM_WINDOW 5) 0x64EA60).regPar 5).rangeOk &&
    after (.formRetime 0x507) (started.setReg (Reg.FORM_WINDOW 5) 0x64EA60) (fun t => t.rf Reg.RCL_CMD_STATUS 16 8 = 2) &&
    after (.formRetime 0x507) formed (fun t => t.rf Reg.RCL_CMD_STATUS 16 8 = 1)) = true := by
  decide +kernel

/-- A seat that is free, one that moves already, a time base that is OFF. -/
theorem test_FormCommands_6 : (after (.seatMove 0x40609) (tbOn (seated3 [])) (fun t => t.rf Reg.RCL_CMD_STATUS 16 8 = 6) &&
    after (.seatMove 0x30609) (run (.seatMove 0x30609) (tbOn (seated3 []))) (fun t => t.rf Reg.RCL_CMD_STATUS 16 8 = 1) &&
    decide ((seated3 []).tbState ((seated3 []).formPar 6).tb = 0) &&
    after (.seatMove 0x30609) (seated3 []) (fun t => t.rf Reg.RCL_CMD_STATUS 16 8 = 5)) = true := by
  decide +kernel

theorem test_FormCommands_4 : (takes (tbOn (seated3 [])) Reg.RCL_CMD 0x30609 &&
    decide ((tbOn (seated3 [])).tbState ((tbOn (seated3 [])).formPar 6).tb ≠ 0) &&
    after (.seatMove 0x30609) (tbOn (seated3 []))
      (fun t => t.rf Reg.RCL_CMD_STATUS 16 8 = 0 ∧ t.seat 3 = some { form := 5, member := 2, move := some (6, 0, 1001) })) = true := by
  decide +kernel

def filing : State :=
  { run (.rclEnable 1) started with seats := [(3, some { form := 5, member := 2 })], seated := [⟨3, 1000, 0, List.replicate 64 9, 0⟩] }

theorem test_RollCallFiling_1 : (takes started Reg.RCL_CTRL 1 && after (.rclEnable 1) started (fun t => t.rb Reg.RCL_CTRL 0) &&
    after .frameFile { filing with regs := filing.regs.erase Reg.RCL_CTRL } (fun t => t.seated = [] ∧ t.reg (Reg.RCL_CNT 7) = 1)) =
    true := by
  decide +kernel

def early : Seated := ⟨3, 1000, 4000000, List.replicate 64 9, 0⟩

theorem test_RollCallFiling_2 : after .frameFile { filing with seated := [early] }
    (fun t => t.seated = [] ∧ t.reg (Reg.RCL_CNT 5) = 1) = true := by
  decide +kernel

/-- The roll of 1000 s is open, so the second record of it is filed. -/
def filed : State := { run .frameFile filing with seats := [(4, some { form := 5, member := 7 })], seated := [⟨4, 1000, 0, [], 0⟩] }

theorem test_RollCallFiling_3 : (filed.form 5).rolls = [⟨⟨1000, 0⟩, [2]⟩] ∧ (filed.form 5).last = none ∧ (filed.form 5).resume = none ∧
    filed.gapDue 5 = false ∧ Instant.lt ⟨1000, 0⟩ (filed.form 5).first = false ∧
    after .frameFile filed (fun t => (t.form 5).rolls = [⟨⟨1000, 0⟩, [2, 7]⟩]) = true := by
  decide +kernel

def due : State := tbAt (run .frameFile filing) 1000010000000

theorem test_RollsAreReleased_1 : (due.formDue 0 5).map (fun d => max d ((due.form 5).heldAt.getD 0)) = due.formDue 0 5 ∧
    (due.formDue 0 5).map (fun d => decide (d ≤ due.bellAfter 0 d)) = some true ∧
    due.gapDue 5 = false ∧ (due.form 5).staged = none ∧ due.seated = [] ∧ due.sched.timers = [] ∧
    ((due.form 5).parMap (due.form 5).next.sec).tb = 0 ∧
    (due.formDue 0 5).map (fun d => due.lateAt 0 d (due.form 5).heldAt) = some false ∧ due.rb Reg.ITK_SEAT_CMD 0 = false ∧
    (∀ g : Fin 256, due.formState g ≠ 0 ↔ g = 5) := by
  decide +kernel

theorem test_RollsAreReleased_2 : (∀ n : Fin 4, (due.closeRoll 5 ⟨1000, 0⟩ false false).2.formDue n 5 = none) ∧
    after .rollRelease due (fun t => (t.form 5).last = some ⟨1000, 0⟩ ∧ (t.form 5).next = ⟨1000, 1⟩ ∧ (t.form 5).releases = 1 ∧
      t.gapDue 5 = false ∧ ∀ n : Fin 4, t.formDue n 5 = none) = true := by
  constructor <;> decide +kernel

/-- The layout of R191: MAGIC, FORM 5 and RATE; NS at 0x18 and CAP at 0x20; nobody is present before a frame is filed. -/
theorem test_openHead : (let h := openHead 5 (due.regPar 5) ⟨1000, 0⟩ (2 ^ 200 - 1)
    decide (le h 0 4 = 0x4C4C4F52) && decide (octet h 4 = 5) && decide (le h 0x10 4 = 1000) && decide (le h 0x18 4 = 0) &&
    decide (le h 0x20 2 = (due.regPar 5).cap) && decide (le h 0x38 8 = 0) && decide (octet h 0x40 = 0) &&
    decide (h.length = 64 + (due.regPar 5).cap / 8 + 2 * (due.regPar 5).cap)) = true := by
  decide +kernel

def fin0 : AnsEntry := { kind := 2, flags := 0, form := 5, inst := 0, seq := 0, d1 := [], d2 := [], present := 0 }

theorem test_RollsAreReleased_3 : (after .tardyWindowEnd { on with answers := { windows := [⟨0, 0, fin0, ⟨0, 0⟩⟩] } }
      (fun t => t.answers.windows = [] ∧ t.answers.batch = []) &&
    after .tardyWindowEnd { holding [(Reg.RED_CTRL, 2)] with answers := { windows := [⟨0, 0, fin0, ⟨0, 0⟩⟩] } }
      (fun t => t.answers.windows = [] ∧ t.answers.batch = [fin0])) = true := by
  decide +kernel

/-! ### Fabric and lessons -/

def roll1 : Roll := { form := 5, tb := 0, rate := 6, at_ := ⟨1000, 3⟩, image := 0, cap := 64, slot := 1, flags := 0 }

/-- Two logical desks of one operation each, their results on lane word 0: 1 divided by 0, and 7 (R209, R211, R216). -/
def twoDesks : ClassPlan :=
  { desks := 2, lessons := [{ tag := 1, contrib := 3 }]
    stores := [(0, [{ tag := 1, op := .fdiv, srcs := [.imm 0x3F800000, .imm 0], dst := .port 0 }]),
      (1, [{ tag := 1, op := .mov, srcs := [.imm 7], dst := .port 0 }])]
    wires := [{ tag := 1, src := .deskOut 0 0, dst := .lane 0 0 }, { tag := 1, src := .deskOut 1 0, dst := .lane 1 0 }] }

/-- Instance 0 with home classroom 2 and two contributors. -/
def les (x : Lesson) : State :=
  let s := holding [(Reg.LSN_INFO 0, 0x220504), (Reg.LSN_DECS 0, 0x100), (Reg.LSN_CTRL 0, 1), (Reg.ANA_CTRL, 1), (Reg.IMG_CLS_STATE 2, 1),
    (Reg.LSN_OUT_STATUS 0, 0x80000000), (Reg.FAB_CTRL 2, 0x3000)]
  let s := s.setClassroom 2 { plan := some twoDesks, stores := twoDesks.stores, desks := [(0, 1), (1, 1), (2, 2)] }
  ((s.setLesson 0 x).setMap 2 0 0).setMap 2 1 1

theorem test_LessonsBeginAndRecordsArrive_1 : ((les { use := some {}, pending := some roll1 }).canBegin 0 &&
    after (.lessonBegin 0) (les { use := some {}, pending := some roll1 })
      (fun t => (t.lesson 0).begun.isSome = true ∧ (t.lesson 0).pending = none ∧ t.rb (Reg.LSN_OUT_STATUS 0) 31 = false)) = true := by
  decide +kernel

theorem test_LessonsBeginAndRecordsArrive_2 : ((les { next := some ({ bank := true }, .now), pending := some roll1 }).canBegin 0 &&
    CommitAt.now.reached (roll1.at_.seq32 (rateOf roll1.rate)) &&
    after (.lessonBegin 0) (les { next := some ({ bank := true }, .now), pending := some roll1 })
      (fun t => (t.lesson 0).begun.map (fun b => b.reset) = some true ∧ t.rb (Reg.LSN_ACTIVE 0) 0 = true)) = true := by
  decide +kernel

def begun : State := run (.lessonBegin 0) (les { use := some {}, pending := some roll1 })

theorem test_LessonsBeginAndRecordsArrive_3 : ((begun.computing 2 1).isSome && (begun.lessonPlan 2 1).contrib.testBit 1 &&
    after (.resultRecord 2 1 1 [0] 15) begun (fun t => t.recordOf 2 1 1 = some ⟨[7], 0⟩ ∧ t.rf (Reg.FAB_STATUS 2) 8 3 = 1 ∧
      t.reg (Reg.FAB_CB_CE 2) = 15 ∧ t.offered 2 0 1 = none)) = true := by
  decide +kernel

/-- An infinity from a division by zero, with its exception bit; a desk that fires nothing offers nothing. -/
theorem test_LessonsBeginAndRecordsArrive_5 : (after (.resultRecord 2 0 1 [] 0) begun (fun t => t.recordOf 2 1 0 = some ⟨[0x7F800000], 2⟩) &&
    after (.resultRecord 2 0 1 [0] 0) begun (fun t => t.recordOf 2 1 0 = none)) = true := by
  decide +kernel

def banked : State :=
  begun.setClassroom 2 { begun.classroom 2 with banks := [{ lesson := 4 }, { lesson := 5 }, { lesson := 6 }, { lesson := 7 }] }

theorem test_LessonsBeginAndRecordsArrive_4 : ((banked.computing 2 1).isSome && !cardHas (banked.classroom 2) 1 1 &&
    after (.resultRecord 2 1 1 [] 0) banked (fun t => (t.classroom 2).stalled = [(1, 1)] ∧ t.recordOf 2 1 1 = none)) = true := by
  decide +kernel

/-- While a record of another lesson waits on a lane, the lane takes no word; a desk that contributes nothing, and a record that is held. -/
def laneBusy : State := begun.setClassroom 2 { begun.classroom 2 with stalled := [(1, 4)] }

theorem test_LessonsBeginAndRecordsArrive_6 : (!laneOpen (laneBusy.classroom 2) 1 1 && laneOpen (laneBusy.classroom 2) 0 1 &&
    !laneOpen (banked.classroom 2) 1 1 && laneOpen (begun.classroom 2) 1 1 &&
    after (.resultRecord 2 1 1 [] 0) laneBusy (fun t => (t.classroom 2).stalled = [(1, 4)] ∧ t.recordOf 2 1 1 = none) &&
    after (.resultRecord 2 2 1 [] 3) begun (fun t => t.reg (Reg.FAB_CB_CE 2) = 3 ∧ t.recordOf 2 1 2 = none) &&
    decide (on.computing 2 1 = none)) = true := by
  decide +kernel

def card : State := run (.resultRecord 2 0 1 [] 0) (run (.resultRecord 2 1 1 [] 0) begun)

theorem test_ReportCardPublication_1 : ((card.lesson 0).begun.map (fun b => b.cover) = some false ∧ card.cardFull 0 = true ∧
    begun.cardFull 0 = false) := by
  decide +kernel

theorem test_ReportCardPublication_2 : after (.reportCardPublish 0) card (fun t => (t.lesson 0).begun.isNone = true ∧
      t.rb (Reg.LSN_OUT_STATUS 0) 31 = true ∧ t.reg (Reg.LSN_OUT_SEQ32 0) = 50003 ∧ t.reg (Reg.FAB_RES_COUNT 2) = 2) = true := by
  decide +kernel

/-- A roll that cover still holds is published first, and the one begun meanwhile stays. -/
theorem test_ReportCardPublication_5 : card.starved 2 = false ∧ card.lsnSpan 0 = [2] ∧
    after (.reportCardPublish 0) (card.setLesson 0 { card.lesson 0 with held := (card.lesson 0).begun })
      (fun t => (t.lesson 0).held.isNone ∧ (t.lesson 0).begun.isSome ∧ t.reg (Reg.FAB_RES_COUNT 2) = 0) = true := by
  decide +kernel

/-- A roll in cover that no desks serve. -/
def starving : State :=
  let s := begun.setLesson 0 { begun.lesson 0 with begun := ((begun.lesson 0).begun.map fun b => { b with cover := true }) }
  { s with sched := { s.sched with cover := [2] } }

theorem test_ReportCardPublication_3 : starving.starved 2 = true ∧ starving.lsnSpan 0 = [2] ∧ starving.loader.unloading = none := by
  decide +kernel

/-- The same roll with 16 spare desks in another classroom; cover has no records of it here. -/
def covering : State := starving.setClassroom 3 { desks := (List.range 16).map fun p => (p, 2) }

theorem test_ReportCardPublication_4 : covering.starved 2 = false ∧ after (.reportCardPublish 0) covering (fun t =>
    (t.lesson 0).begun.isNone = true ∧ t.reg (Reg.LSN_OUT_SEQ32 0) = 50003 ∧ t.reg (Reg.FAB_RES_COUNT 2) = 0) = true := by
  decide +kernel

/-- Ten microseconds after the roll has begun, with nothing offered. -/
def hung : State := { begun with now := 10 * fsPerUs }

theorem test_DeskFaultsAndChecks_1 : (decide (hung.desk 2 0 = 1 ∧ hung.clsState 2 = 1) && hung.rb (Reg.FAB_CTRL 2) 12 &&
    hung.deskHung 2 0 [] && !begun.deskHung 2 0 []) = true := by
  decide +kernel

theorem test_DeskFaultsAndChecks_4 : after (.deskWatchdogExpiry 2 ⟨0, []⟩) hung (fun t => t.desk 2 0 = 3 ∧ t.event 3 = true ∧
    t.clsState 2 = 3 ∧ t.inCover 2 = true ∧ t.event 4 = true ∧ t.rb (Reg.FAB_RETIRED 2 0) 0 = true ∧
    t.reg (Reg.FAB_FAULT_INFO 2) = 0x20000) = true := by
  decide +kernel

theorem test_DeskFaultsAndChecks_2 : (after (.slateParityError 2 1) card (fun t => t.desk 2 1 = 3 ∧ t.event 3 = true) &&
    after (.chalkboardUe 2 ⟨7, 262143⟩) card (fun t => (t.classroom 2).bad = [131071] ∧ t.reg (Reg.FAB_CB_UE 2) = 1 ∧ t.reg (Reg.FAB_FAULT_INFO 2) = 0x5FFFF) &&
    after (.spareCheck [(2, 2)]) card (fun t => t.desk 2 2 = 3 ∧ t.event 3 = true ∧ t.rb (Reg.FAB_RETIRED 2 0) 2 = true ∧
      t.reg (Reg.FAB_FAULT_INFO 2) = 0x3FF02) && card.rb (Reg.FAB_CTRL 2) 13 && decide (card.desk 2 2 = 2) &&
    after (.replicaMeasure 31 65536) on (fun t => t.rf (Reg.FAB_SPEED 31) 0 16 = 0)) = true := by
  decide +kernel

theorem test_DeskFaultsAndChecks_3 : takes on (Reg.FAB_CHECK_CMD 31) 1 = true := by decide +kernel

theorem test_CommitsAndLatches_1 : (takes card Reg.ANA_COMMIT 3 && decide ((card.commitCheck 0 true).1 ≠ 0) &&
    after (.anaCommit 3) card (fun t => t.rf Reg.ANA_COMMIT_STATUS 16 8 = 2 ∧ t.rb Reg.ANA_COMMIT_STATUS 31 = true)) = true := by
  decide +kernel

/-- A threshold table of one comparator staged at offset 0 of HBM3, and an instance compiled for one. -/
def thrTable : List Byte := leBytes 4 0x4C425441 ++ leBytes 4 4 ++ leBytes 4 96 ++ leBytes 4 1 ++ List.replicate 48 0 ++
  leBytes 8 0 ++ leBytes 4 0x111 ++ List.replicate 20 0

def committing (x : Lesson) : State :=
  ((les { x with inst := some { cap1 := 1 } }).setReg (Reg.LSN_RES_LO 0) 10).hbmWrite 0 thrTable

theorem test_CommitsAndLatches_2 : (decide (((committing {}).commitCheck 0 true).1 = 0) && takes (committing {}) Reg.ANA_COMMIT 3 &&
    after (.anaCommit 3) (committing {}) (fun t => t.rf Reg.ANA_COMMIT_STATUS 16 8 = 0 ∧ (t.lesson 0).next.isSome = true ∧
      t.rb (Reg.LSN_ACTIVE 0) 1 = true) &&
    decide (((committing { lastSeq := some 2147483648 }).commitCheck 0 false).1 = 0 ∧
      ((committing { lastSeq := some 2147483647 }).commitCheck 0 false).1 = 6)) = true := by
  decide +kernel

theorem test_CommitsAndLatches_3 : (takes (holding [(Reg.ANA_LATCH, 0xFFFF)]) Reg.ANA_LATCH 0x8000 &&
    !(holding [(Reg.ANA_LATCH, 0xFFFF)]).pinRaw 15 &&
    after (.latchClear 0x8000) (holding [(Reg.ANA_LATCH, 0xFFFF)]) (fun t => t.reg Reg.ANA_LATCH = 0x7FFF)) = true := by
  decide +kernel

/-! ### Acquisition, filters, phasors and energy -/

def acq0 : State := { tbOn on with pwr := { bankMv := [(0, 3300)] } }
def acq1 : State := run (.acqCircuitEnable 1 1) acq0

theorem test_AcquisitionCircuits_1 : (takes acq0 (Reg.ACQ_CIR_CTRL 1) 1 && acq1.acqEn 1 &&
    decide (acq1.chan 9 = { pos := acq0.nextEdge (acq0.tbNow 0) }) && takes acq1 (Reg.ACQ_CIR_CTRL 1) 0 && acq1.fade.isNone &&
    after (.acqCircuitDisable 1 0) acq1 (fun t => !t.acqEn 1 && !(t.modClk 1).run)) = true := by
  decide +kernel

def stuck : State := acq1.setChan 15 { acq1.chan 15 with fault := true, entered := true }

/-- 1,024 bits without a change are a fault of a channel that is not masked, the change that follows ends it; with Manchester coding one
violation is. -/
theorem test_fault_bits : ((Chan.takeBit { run := 1023 } false false (false, false)).entered &&
    !(Chan.takeBit { run := 1022 } false false (false, false)).fault && !(Chan.takeBit { run := 1023 } false true (false, false)).fault &&
    !(Chan.takeBit { run := 1024, fault := true } false false (true, false)).fault &&
    (takeBits true false [(true, true)] {}).fault) = true := by
  decide +kernel

theorem test_AcquisitionCircuits_2 : (after (.acqModFault 15) stuck (fun t => t.event 40 = true ∧ t.reg (Reg.ACQ_CIR_STATUS 1) = 0x800080) &&
    after (.channelHealthy 15) (run (.acqModFault 15) stuck) (fun t => t.rb (Reg.ACQ_CIR_STATUS 1) 7) &&
    after (.channelHealthy 15) ((run (.acqModFault 15) stuck).setChan 15 {}) (fun t => t.rf (Reg.ACQ_CIR_STATUS 1) 0 8 = 0)) = true := by
  decide +kernel

/-- A line that rises 80 periods after the stage's first edge, 625 periods being eight bits; the commands below give it so. -/
def line : List (Nat × Bool) := [(80, true)]
def acqLater : State := tbAt acq1 1000000010000
def sampled : State := run (.acqSample 9 0 [80] [true]) acqLater

theorem test_line_bits : acq1.lineBits 9 3 line = [(false, false), (false, false), (true, false)] ∧
    (acq1.setReg (Reg.ACQ_CIR_CTRL 1) 3).lineBits 9 3 line = [(false, true), (true, false), (false, true)] ∧
    acq1.edgeAt (8 * acq1.modEdge) - acq1.edgeAt 0 = 625 ∧ acq1.sdlyAt 1 0 = 0 := by
  decide +kernel

/-- A bit at an edge before a write of SDLY takes the old delay, one at or after it the new one. -/
theorem test_sdly : ((run (.registerWrite .bar0 (Reg.ACQ_CIR_CTRL 1) [0x70001] 15 0) acqLater).sdlyAt 1 (acqLater.tbNow 0 - 1),
    (run (.registerWrite .bar0 (Reg.ACQ_CIR_CTRL 1) [0x70001] 15 0) acqLater).sdlyAt 1 (acqLater.tbNow 0 + 2 ^ 51)) = (0, 7) := by
  decide +kernel

theorem test_SamplesAndFades_1 : ((acqLater.chan 9).pos / acqLater.modEdge + acqLater.bitsNeeded (acqLater.chan 9) - 1) *
      acqLater.modEdge + acqLater.rf (Reg.ACQ_CIR_CTRL 1) 16 7 * 5 * 2 ^ 29 ≤ acqLater.tbNow acqLater.acqTb ∧
    (Tab.get (fun _ => ({} : Stage)) (sampled.chan 9).stages 1).inq.length = 1 ∧
    after (.acqSample 9 0 [80] [true]) acq1 (fun t => (Tab.get (fun _ => ({} : Stage)) (t.chan 9).stages 1).inq = []) = true := by
  decide +kernel

theorem test_SamplesAndFades_2 : (feed 1 (Tab.get (fun _ => ({} : Stage)) (sampled.chan 9).stages 1).win
      (Tab.get (fun _ => ({} : Stage)) (sampled.chan 9).stages 1).inq).2.2 = true ∧
    after (.acqSample 9 1 [] []) sampled (fun t => (Tab.get (fun _ => ({} : Stage)) (t.chan 9).stages 2).inq.length = 1) = true := by
  decide +kernel

def masked (m : Word) : State := withRegs acq1 [(Reg.FLT_XF_MASK 0, m), (Reg.FLT_CH_FIR 9, 0x80000000)]

theorem test_SamplesAndFades_3 : (takes (masked 0) Reg.FLT_XF_CMD 1 &&
    after (.fltXfade 1) (masked 0) (fun t => t.rf Reg.FLT_XF_STATUS 16 8 = 3) &&
    after (.fltXfade 1) (masked 0x100) (fun t => t.rf Reg.FLT_XF_STATUS 16 8 = 1)) = true := by
  decide +kernel

theorem test_SamplesAndFades_4 : ((masked 0x200).firEn 9 && (masked 0x200).acqEn 1 &&
    decide (firGd ((masked 0x200).reg (Reg.FLT_CH_FIR 9)) false = firGd ((masked 0x200).reg (Reg.FLT_CH_FIR 9)) true) &&
    takes (masked 0x200) Reg.FLT_XF_CMD 3 &&
    after (.fltXfade 3) (masked 0x200) (fun t => t.fade.map (fun f => (f.len, f.mask)) = some (5, 0x200))) = true := by
  decide +kernel

/-- An estimate due in circuit 1, and one that is not. -/
def estS : State := tbAt (acq1.setReg (Reg.PHS_CIR_CTRL 1) 1) 1001000000000

theorem test_PhasorEstimatesAndEnergyPeriods_1 : (estS.domOn pdAcq && estS.rb (Reg.PHS_CIR_CTRL 1) 0 && estS.acqEn 1 &&
    decide ((firstInstant (estS.phsR 1) (max (estS.phsOf 1).after (estS.phsOf 1).last) true).time (estS.phsR 1) + estS.phsReach 1 ≤ estS.tbNow estS.acqTb)) =
    true := by
  decide +kernel

theorem test_PhasorEstimatesAndEnergyPeriods_2 : (tbAt estS 0).tbNow estS.acqTb <
    (firstInstant (estS.phsR 1) (max (estS.phsOf 1).after (estS.phsOf 1).last) true).time (estS.phsR 1) + estS.phsReach 1 := by
  decide +kernel

def nrgV : Word := regReset (Reg.NRG_CIR_CTRL 1) ||| 1
def nrg1 : State := run (.nrgCircuitEnable 1 nrgV) acq1
/-- The samples of the first period will not come: its circuit has stopped and the period has ended. -/
def nrg2 : State := tbAt (run (.acqCircuitDisable 1 0) nrg1) 1000100000000

theorem test_PhasorEstimatesAndEnergyPeriods_3 : ((nrg2.nrgOf 1).run && nrg2.domOn pdAcq && nrg2.periodReady 1 (nrg2.nrgOf 1) &&
    !nrg2.intervalDue 1 && decide ((nrg2.nrgOf 1).stopAt = none) && nrg2.nrgCmd.isNone &&
    !nrg1.periodReady 1 (nrg1.nrgOf 1)) = true := by
  decide +kernel

def accS : State := (acq1.setAcc 1 3 (2 ^ 70 + 5)).setTw (snapOff 1 4 + 8) 7

theorem test_EnergyCommands_1 : (takes accS Reg.NRG_CMD 0x20003 && decide (fld 0x20003 16 12 ≠ 0) &&
    after (.nrgSnap 0x20003) accS (fun t => t.tw (snapOff 1 3) = 5 ∧ t.tw (snapOff 1 3 + 8) = 64 ∧ t.rf Reg.NRG_CMD_STATUS 16 8 = 0) &&
    after (.nrgSnap 3) accS (fun t => t.rf Reg.NRG_CMD_STATUS 16 8 = 1)) = true := by
  decide +kernel

theorem test_EnergyCommands_2 : (takes accS Reg.NRG_CMD 0x20007 && takes accS Reg.NRG_CMD 0x20005 &&
    after (.nrgClear 0x20007) accS (fun t => t.accOf 1 3 = 0) &&
    after (.nrgLoad 0x20005) accS (fun t => t.accOf 1 4 = 7 * 2 ^ 64)) = true := by
  decide +kernel

theorem test_EnergyCommands_3 : (takes nrg1 Reg.NRG_CMD 0x20007 && after (.nrgClear 0x20007) (nrg1.setAcc 1 3 9)
    (fun t => t.accOf 1 3 = 9 ∧ t.nrgCmd.isSome = true ∧ t.rb Reg.NRG_CMD 0 = true)) = true := by
  decide +kernel

theorem test_EnergyCircuitsIntervalsAndPulses_1 : (takes acq1 (Reg.NRG_CIR_CTRL 1) nrgV && !(acq1.nrgOf 1).run &&
    decide ((nrg1.nrgOf 1).run = true ∧ nrg1.reg (Reg.NRG_CIR_STATUS 1) = 0)) = true := by
  decide +kernel

/-- Enabled again while the run before is still accounted. -/
def nrgEnding : State := nrg1.setReg (Reg.NRG_CIR_CTRL 1) (regReset (Reg.NRG_CIR_CTRL 1))

theorem test_EnergyCircuitsIntervalsAndPulses_4 : (takes nrgEnding (Reg.NRG_CIR_CTRL 1) nrgV && (nrgEnding.nrgOf 1).run &&
    after (.nrgCircuitEnable 1 nrgV) nrgEnding (fun t => (t.nrgOf 1).run = true ∧ (t.nrgOf 1).later.length = 1)) = true := by
  decide +kernel

/-- A circuit whose accounting is off. -/
theorem test_PhasorEstimatesAndEnergyPeriods_4 : (decide (acq1.nrgOf 1).run = false) ∧
    after (.energyPeriod 1) acq1 (fun t => t.reg (Reg.NRG_CIR_PERIODS 1) = 0) = true := by
  decide +kernel

def boundary3600 : State :=
  (nrg1.setNrg 1 { nrg1.nrgOf 1 with closed := false, k := 0, sec := 3637 }).setReg Reg.NRG_CTRL (regReset Reg.NRG_CTRL ||| 0x1000)

theorem test_EnergyCircuitsIntervalsAndPulses_2 : (boundary3600.intervalDue 1 && boundary3600.nrgInt.isNone &&
    after .nrgIntervalEnd boundary3600 (fun t => (t.nrgOf 1).closed = true ∧ (t.nrgOf 1).seq = 1 ∧ t.event 47 = true)) = true := by
  decide +kernel

theorem test_EnergyCircuitsIntervalsAndPulses_3 :
    (after (.pulseOutput 3) ((acq1.setPulse 3 { queue := [(5, 30)] }).setReg Reg.RED_STATUS 4)
      (fun t => t.out = [.pulse 3 30] ∧ t.reg (Reg.PULSE_COUNT 3) = 1) &&
    after (.pulseOutput 3) (withRegs (acq1.setPulse 3 { queue := [(5, 30)] }) [(Reg.RED_STATUS, 0), (Reg.RED_ROLE, 2)])
      (fun t => t.out = [] ∧ t.reg (Reg.PULSE_COUNT 3) = 1)) = true := by
  decide +kernel

/-! ### Triggers and recorder -/

/-- A filter of 3 × 10 ns. -/
def evIn : State := (tbOn on).setReg (Reg.TRG_EV_CFG 15) 0x303

theorem test_EventInputsMarksAndRecorder_1 : (decide ((evIn.evtInOf 15).mate ≠ some false ∧ (evIn.evtInOf 15).recent = []) && !(evIn.evtInOf 15).reject &&
    after (.evtInEdge 15 true 0 31) evIn (fun t => t.reg (Reg.TRG_CNT 5) = 1 ∧ t.rf (Reg.TRG_EV_STATUS 15) 16 16 = 0x8001) &&
    after (.evtInEdge 15 true 0 30) evIn (fun t => t.reg (Reg.TRG_CNT 6) = 1 ∧ (t.evtInOf 15).reject = true)) = true := by
  decide +kernel

/-- Room for the two edges of a pulse: 14 edges in the window of the burst, and 15. -/
def crowded (n : Nat) : State := evIn.setEvtIn 15 { recent := List.replicate n evIn.now }

theorem test_EventInputsMarksAndRecorder_burst : (decide (14 + 2 ≤ evtBurst ∧ evtBurst < 15 + 2) &&
    after (.evtInEdge 15 true 0 31) (crowded 14) (fun t => t.reg (Reg.TRG_CNT 5) = 1) &&
    after (.evtInEdge 15 true 0 31) (crowded 16) (fun t => t.reg (Reg.TRG_CNT 5) = 0 ∧ t.reg (Reg.TRG_CNT 6) = 1)) = true := by
  decide +kernel

def recS : State := withRegs acq1 [(Reg.TRG_LANE 9, word (1 + 2 * 6 + 16 + 4096 * 1000)), (Reg.TRG_REC_CTRL, 0x400064)]
def rec1 : State := run (.recorderStart 3) recS

theorem test_EventInputsMarksAndRecorder_commands_1 : (takes recS Reg.TRG_REC_CMD 3 && decide (recS.startResult = 0 ∧ on.startResult ≠ 0) &&
    decide (rec1.recorder.running = true ∧ rec1.recorder.seq = 0 ∧ rec1.rf Reg.TRG_REC_RES 16 8 = 0)) = true := by
  decide +kernel

theorem test_EventInputsMarksAndRecorder_commands_2 : (takes rec1 Reg.TRG_REC_CMD 5 && after (.recorderStop 5) rec1 (fun t => !t.recorder.running) &&
    after (.recorderStop 5) { tbAt rec1 1000150000000 with recorder := { rec1.recorder with first := false } }
      (fun t => t.recorder.stopAt.isSome) &&
    after (.recorderStop 5) recS (fun t => t.rf Reg.TRG_REC_RES 16 8 = 1)) = true := by
  decide +kernel

def rec2 : State := (tbAt rec1 1000250000000).setReg (Reg.ACQ_CIR_CTRL 1) 0

theorem test_EventInputsMarksAndRecorder_commands_3 : (rec2.recFrameReady && decide (rec2.recorder.frame + rec2.frameLen ≤ rec2.tbNow rec2.acqTb) &&
    !rec2.recorder.gapOpen && after .recorderFrame rec2 (fun t => t.reg (Reg.TRG_CNT 0) = 1 ∧ t.recorder.seq = 1)) = true := by
  decide +kernel

def mark0 : Mark := { anchor := 5, entries := [], closeAt := 0 }

theorem test_EventInputsMarksAndRecorder_2 : (after .markHoldClose { rec2 with marks := [mark0] }
      (fun t => t.reg (Reg.TRG_CNT 2) = 1 ∧ t.reg (Reg.TRG_CNT 0) = 1 ∧ t.marks = []) &&
    after .markHoldClose { on with marks := [mark0] } (fun t => t.reg (Reg.TRG_CNT 2) = 0 ∧ t.marks = [])) = true := by
  decide +kernel

theorem test_EventInputsMarksAndRecorder_commands_4 : after .recorderFlush { withRegs on (ringRegs 16 0 3) with
      now := 65535 * fsPerMs
      recorder := { buf := some { octets := [1, 2], count := 1, mark := false, firstSeq := 0, since := 0 } } }
    (fun t => t.recorder.buf.isNone = true ∧ t.ringHead 16 = 1) = true := by
  decide +kernel

/-! ### Tasks, flags and timers -/

def cmdT (op h : Nat) : Word := word (1 + 2 * op + 4096 * h)

def taskAt (st : Nat) (sys : Bool) (fl : Word) : State :=
  on.setTask 5 { state := st, gen := 3, sys := sys, mask := 3, flags := fl, notify := true, flowEn := true, flow := 9 }

/-- The handle of task 5 in its generation 3. -/
def h5 : Nat := 5 + 4096 * 3

/-- A table with one entry for each of some keys reads as those entries. -/
theorem get_map_keys {α : Type} (d f : Nat → α) : ∀ (ks : List Nat) (k : Nat), k ∈ ks →
    Tab.get d (ks.map (fun i => (i, f i))) k = f k
  | j :: ks, k, h => by
    simp only [List.map_cons, Tab.get]
    split
    · next e => rw [e]
    · next e => exact get_map_keys d f ks k ((List.mem_cons.1 h).resolve_left (fun x => e x.symm))

/-- `n` WAITING tasks. -/
def waitingTasks (n : Nat) : State := { on with sched := { tasks := (List.range n).map (fun i => (i, ({ state := 1 } : Task))) } }

theorem task_waitingTasks {n i : Nat} (h : i < n) : (waitingTasks n).task i = { state := 1 } :=
  get_map_keys (fun _ => ({} : Task)) (fun _ => ({ state := 1 } : Task)) (List.range n) i (List.mem_range.2 h)

theorem test_TaskCommands_1 : on.Accepts Reg.SCH_TASK_CMD (cmdT 1 0) ∧ ∀ i < taskCount, ((waitingTasks taskCount).task i).state ≠ 0 := by
  refine ⟨(takes_iff _ _ _).1 (by decide +kernel), fun i h => ?_⟩
  rw [task_waitingTasks h]; decide

theorem test_TaskCommands_2 : (takes on Reg.SCH_TASK_CMD (cmdT 1 0) &&
    after (.taskCreate (cmdT 1 0)) on (fun t => t.rf Reg.SCH_TASK_STATUS 16 8 = 2) &&
    after (.taskCreate (cmdT 1 0)) (on.setReg Reg.SCH_TASK_ARG1 3) (fun t => t.rf Reg.SCH_TASK_STATUS 16 8 = 0 ∧
      t.reg Reg.SCH_TASK_HANDLE = 0 ∧ (t.task 0).state = 1 ∧ (t.task 0).prio = 7)) = true := by
  decide +kernel

theorem test_TaskCommands_3 : (takes (taskAt 1 false 0) Reg.SCH_TASK_CMD (cmdT 2 h5) &&
    after (.taskDestroy (cmdT 2 5)) (taskAt 1 false 0) (fun t => t.rf Reg.SCH_TASK_STATUS 16 8 = 3) &&
    after (.taskDestroy (cmdT 2 h5)) (taskAt 1 true 0) (fun t => t.rf Reg.SCH_TASK_STATUS 16 8 = 4) &&
    after (.taskDestroy (cmdT 2 h5)) (taskAt 2 false 0) (fun t => t.rf Reg.SCH_TASK_STATUS 16 8 = 0 ∧ t.task 5 = { gen := 4 }) &&
    after (.taskDestroy (cmdT 2 h5)) (taskAt 3 false 0) (fun t => (t.task 5).state = 4)) = true := by
  decide +kernel

theorem test_TaskCommands_4 : (takes (taskAt 4 false 0) Reg.SCH_TASK_CMD (cmdT 3 h5) &&
    after (.taskDone (cmdT 3 h5)) (taskAt 4 false 0) (fun t => t.rf Reg.SCH_TASK_STATUS 16 8 = 0 ∧ t.task 5 = { gen := 4 }) &&
    after (.taskDone (cmdT 3 h5)) (taskAt 3 false 1) (fun t => (t.task 5).state = 2 ∧ t.sched.ready = [5]) &&
    after (.taskDone (cmdT 3 h5)) (taskAt 1 false 1) (fun t => t.rf Reg.SCH_TASK_STATUS 16 8 = 4)) = true := by
  decide +kernel

def flagged (s : State) : State := s.setReg Reg.SCH_FLAG_TGT (word h5)

theorem test_FlagsTimersAndDispatch_1 : (takes (flagged (taskAt 1 false 0)) Reg.SCH_FLAG_SET 2 &&
    after (.flagSet 2) (flagged (taskAt 0 false 0)) (fun t => t.reg (Reg.SCH_CNT 2) = 1) &&
    after (.flagSet 2) (flagged (taskAt 1 false 0)) (fun t => (t.task 5).state = 2 ∧ (t.task 5).flags = 2 ∧ t.event 50 = true ∧
      t.sched.ready = [5]) &&
    after (.flagSet 4) (flagged (taskAt 1 false 0)) (fun t => (t.task 5).state = 1 ∧ (t.task 5).flags = 4)) = true := by
  decide +kernel

def readyTask (sys : Bool) : State :=
  let s := withRegs (taskAt 2 sys 7) ((Reg.SCH_CTRL, 1) :: ringRegs 22 0 3)
  { s with sched := { s.sched with ready := [5] } }

theorem test_FlagsTimersAndDispatch_2 :
    (decide ((readyTask false).readyItems.find? (fun i => (readyTask false).eligible i && (readyTask false).accepts i) = some 5) &&
    after (.dispatch []) (readyTask false) (fun t => (t.task 5).state = 3 ∧ (t.task 5).flags = 4 ∧ t.sched.busy = [9] ∧
      t.ringHead 22 = 1 ∧ t.reg (Reg.SCH_CNT 0) = 1)) = true := by
  decide +kernel

theorem test_FlagsTimersAndDispatch_3 : (decide (on.readyItems = []) &&
    after (.dispatch []) (readyTask true) (fun t => (t.task 5).state = 3 ∧ t.ringHead 22 = 0 ∧ t.reg (Reg.SCH_CNT 1) = 1) &&
    after (.dispatch [(5, 1)]) (on.setTask 5 { state := 1, sys := true, mask := 3 }) (fun t => (t.task 5).state = 3 ∧
      t.reg (Reg.SCH_CNT 1) = 1) &&
    after (.taskEngineComplete 5) (taskAt 3 true 1) (fun t => (t.task 5).state = 2 ∧ t.sched.ready = [5])) = true := by
  decide +kernel

def timed (s : State) : State := withRegs s [(Reg.SCH_TMR_HANDLE, word h5), (Reg.SCH_TMR_FLAGS, 1)]
def timerArmed : State := run (.timerArm 3) (timed (taskAt 1 false 0))

theorem test_FlagsTimersAndDispatch_4 : (takes (timed (taskAt 1 false 0)) Reg.SCH_TMR_CMD 3 && takes timerArmed Reg.SCH_TMR_CMD 5 &&
    decide (timerArmed.sched.timers = [(timed (taskAt 1 false 0)).stagedTimer]) &&
    after (.timerArm 3) (timed (taskAt 0 false 0)) (fun t => t.rf Reg.SCH_TMR_STATUS 16 8 = 3) &&
    after (.timerDisarm 5) (timed (taskAt 0 true 0)) (fun t => t.rf Reg.SCH_TMR_STATUS 16 8 = 4) &&
    after (.timerDisarm 5) timerArmed (fun t => t.sched.timers = [])) = true := by
  decide +kernel

def dueTimer : Timer := { task := 5, tb := 0, due := 5, since := 5, flags := 1, evt := true }
def timerS : State := let s := tbOn (taskAt 1 false 0); { s with sched := { s.sched with timers := [dueTimer] } }

theorem test_FlagsTimersAndDispatch_6 : (∀ f : Fin 256, timerS.formState f = 0) ∧ dueTimer.tb < 4 ∧
    on.sched.timers.filter (fun y => on.timerDue y) = [] ∧ after .timerFire on (fun t => t.reg (Reg.SCH_CNT 4) = 0) = true := by
  decide +kernel

theorem test_FlagsTimersAndDispatch_5 : (decide (timerS.sched.timers.filter (fun y => timerS.timerDue y) = [dueTimer]) &&
    after .timerFire timerS (fun t => (t.task 5).state = 2 ∧ t.event 52 = true ∧ t.reg (Reg.SCH_CNT 4) = 1 ∧ t.sched.timers = [])) =
    true := by
  decide +kernel

/-! ### Keys and tamper -/

def keyS : State := { withRegs on ([(Reg.KEY_CTRL, 3), (Reg.KEY_TAMPER_STATUS, 0), (Reg.KEY_POLICY, 3)] ++
  ringRegs 20 0x1000 3 ++ ringRegs 21 0x2000 3) with keys := { drbg := { k := List.replicate 32 0, v := List.replicate 32 1 } } }

/-- The 32 octets of a request (R397). -/
def keyDesc (op slot aux inLen outLen : Nat) : List Byte :=
  [byte op, byte slot, byte aux, 0] ++ leBytes 4 0x77 ++ leBytes 8 0x4000 ++ leBytes 2 inLen ++ leBytes 2 outLen ++ leBytes 8 0x5000

/-- A parameter block (R398). -/
def keyBlock (ty usage ll cl : Nat) : List Byte :=
  [byte ty, 0, 0, 0] ++ beBytes 4 usage ++ beBytes 4 0xAB ++ [byte ll, byte cl, 0, 0]

/-- `keyS` with slot 6 holding `k`, one request and its input. -/
def keyAsked (k : KeySlot) (d pb : List Byte) : State := ((keyS.setSlot 6 k).hostWrite 0x1000 d).hostWrite 0x4000 pb

def macKey : KeySlot := { state := 1, type := 1, usage := 0x60, material := List.replicate 32 7, depth := 1 }
def signKey : KeySlot := { state := 1, type := 3, usage := 0x380, material := beBytes 32 5, pub := List.replicate 64 3 }

/-- What every clause of the statement assumes of the state, for operation `op`. -/
def keyPremises (s : State) (op : Nat) : Bool :=
  s.domOn pdKey && s.rb Reg.KEY_CTRL 0 && s.ringReady 20 && s.ringReady 21 && decide ((keyReq (s.headDesc 20)).op = op)

def importS : State := keyAsked macKey (keyDesc 3 255 0 48 0) (keyBlock 1 0x3FF 0 0 ++ List.replicate 32 9)

theorem test_KeyOperations_1 : (keyPremises importS 3 && !typeBad 1 0x41 &&
    after .keyImport (keyAsked macKey (keyDesc 3 255 0 48 0) (keyBlock 1 0x41 0 0 ++ List.replicate 32 9))
      (fun t => (t.slot 255).material = List.replicate 32 9 ∧ (t.slot 255).origin = 5 ∧ t.reg (Reg.KEY_CNT 0) = 1 ∧
        t.ringHead 20 = 1 ∧ t.ringHead 21 = 1) &&
    after .keyImport ((keyAsked macKey (keyDesc 3 255 0 48 0) []).setReg (Reg.RNG_TAIL 21) 0) (fun t => t.ringHead 20 = 0)) = true := by
  decide +kernel

def generateS : State := keyAsked macKey (keyDesc 1 40 0 16 0) (keyBlock 1 0x41 0 0)
def deriveS : State := keyAsked { macKey with depth := 7 } (keyDesc 2 40 6 82 0) (keyBlock 1 0x41 64 2)

theorem test_KeyOperations_2 : (keyPremises generateS 1 && keyPremises deriveS 2 && hasUsage macKey.usage 5 &&
    decide ((generateS.slot 40).state = 0 ∧ be (generateS.hostRead 0x4000 16) 4 4 = 0x41 ∧
      octet (deriveS.hostRead 0x4000 16) 12 = 64 ∧ (deriveS.slot 6).depth = 7 ∧ (keyReq (deriveS.headDesc 20)).fromRoot = false ∧
      (keyReq (deriveS.headDesc 20)).any = false)) = true := by
  decide +kernel

theorem test_KeyOperations_3 : (keyPremises (keyAsked macKey (keyDesc 4 6 0 0 0) []) 4 &&
    after .keyFree (keyAsked macKey (keyDesc 4 6 0 0 0) []) (fun t => t.slot 6 = { gen := 1 }) &&
    after .keyRevoke ((keyAsked macKey (keyDesc 5 6 0 0 0) []).setSlot 7 { macKey with parent := some 6 })
      (fun t => (t.slot 6).state = 2 ∧ (t.slot 7).state = 2 ∧ t.event 17 = true)) = true := by
  decide +kernel

theorem test_KeyOperations_4 : (keyPremises (keyAsked macKey (keyDesc 6 6 0 1 32) [1]) 6 &&
    keyPremises (keyAsked macKey (keyDesc 7 6 0 33 0) (List.replicate 33 1)) 7 && hasUsage macKey.usage 6 &&
    keyPremises (keyAsked signKey (keyDesc 8 6 0 32 64) []) 8 && hasUsage signKey.usage 7 &&
    keyPremises (keyAsked signKey (keyDesc 9 6 0 96 0) []) 9 && hasUsage signKey.usage 8 &&
    keyPremises ((keyAsked signKey (keyDesc 11 6 0 32 200) []).setSlot 0 signKey) 11 && !keyS.latch &&
    keyPremises (keyAsked signKey (keyDesc 12 6 0 0 4096) []) 12) = true := by
  decide +kernel

theorem test_KeyOperations_5 : (keyPremises (keyAsked signKey (keyDesc 10 6 0 0 64) []) 10 &&
    after .keyPublic (keyAsked signKey (keyDesc 10 6 0 0 64) []) (fun t => t.hostRead 0x5000 64 = List.replicate 64 3) &&
    after .keySign (keyAsked signKey (keyDesc 12 6 0 0 64) []) (fun t => t.reg (Reg.KEY_CNT 0) = 0)) = true := by
  decide +kernel

theorem test_KeyStoreHappenings_1 : after (.keyScrub [6, 7]) (keyS.setSlot 6 macKey)
    (fun t => (t.slot 6).state = 3 ∧ (t.slot 7).state = 0 ∧ t.event 15 = true ∧ t.reg (Reg.KEY_CNT 3) = 1) = true := by
  decide +kernel

/-- A retained slot while PD_AON is locked out, a scrub that is switched off, and a request that meets the upset key it uses. -/
def lockedOut (s : State) : State := { s with rtc := { s.rtc with lockout := true } }

theorem test_KeyStoreHappenings_4 :
    (after (.keyScrub [6]) (lockedOut (keyS.setSlot 6 { macKey with retain := true })) (fun t =>
      t.slot 6 = { macKey with retain := true, upset := true } ∧ t.event 15 = false) &&
    after (.keyScrub [6]) ((keyS.setSlot 6 macKey).setReg Reg.KEY_CTRL 1) (fun t => t.slot 6 = { macKey with upset := true }) &&
    after .keyMac (keyAsked { macKey with upset := true } (keyDesc 6 6 0 1 32) [1]) (fun t => (t.slot 6).state = 3 ∧ t.event 15 = true ∧
      t.ringHead 20 = 1) &&
    !takes (lockedOut keyS) Reg.KEY_TAMPER_CLR 0x7A3C0001 && !takes (lockedOut keyS) Reg.KEY_FLOOR 1) = true := by
  decide +kernel

/-- Pins 0 and 1 watched, a filter of 15 µs, slots 4 and 6 held. -/
def guarded : State := ((keyS.setSlot 4 macKey).setSlot 6 macKey).setReg Reg.KEY_TAMPER_CFG 0xF03

theorem test_KeyStoreHappenings_2 : (after (.tamper 2 15 ⟨false, false⟩) guarded (fun t => t.latch = true ∧
      t.rb Reg.KEY_TAMPER_STATUS 17 = true ∧ (t.slot 6).state = 0 ∧ (t.slot 4).state = 1 ∧ t.event 14 = true) &&
    after (.tamper 2 14 ⟨false, false⟩) guarded (fun t => t.latch = false ∧ (t.slot 6).state = 1) &&
    after (.tamper 4 15 ⟨false, false⟩) guarded (fun t => t.latch = false)) = true := by
  decide +kernel

/-- The generation of a slot outlives the tamper, also with PD_KEY off and the slot retained. -/
theorem test_KeyStoreHappenings_5 :
    (decide ((keyS.setSlot 6 { macKey with gen := 9 }).keys.slots.length = 1) && Tab.wf (fun _ => {}) (guarded.setSlot 6 { macKey with gen := 9 }).keys.slots &&
    after (.tamper 2 15 ⟨false, false⟩) (guarded.setSlot 6 { macKey with gen := 9 }) (fun t => t.slot 6 = { gen := 9 } ∧ t.slot 4 = guarded.slot 4) &&
    after (.tamper 2 15 ⟨false, false⟩) ((guarded.setSlot 6 { macKey with gen := 9, retain := true }).setReg Reg.PWR_DOMAIN_STATUS 0xFF7)
      (fun t => (t.slot 6).state = 0 ∧ (t.slot 6).gen = 9)) = true := by
  decide +kernel

theorem test_KeyStoreHappenings_3 : (takes keyS Reg.KEY_TAMPER_CLR 0x7A3C0001 && !takes keyS Reg.KEY_TAMPER_CLR 0x7A3D0001 &&
    takes (keyS.setReg Reg.KEY_FLOOR 8) Reg.KEY_FLOOR 8 && !takes (keyS.setReg Reg.KEY_FLOOR 8) Reg.KEY_FLOOR 7 &&
    after (.keyFloorWrite 9) (keyS.setReg Reg.KEY_FLOOR 8) (fun t => t.reg Reg.KEY_FLOOR = 9)) = true := by
  decide +kernel

/-! ### Health, the hall pass, answers and links -/

/-- Role, hall-pass state and health. -/
def pairS (role st : Nat) : State := { holding [(Reg.RED_ROLE, word role), (Reg.IMG_LOAD_STATUS, 8), (Reg.ANA_CTRL, 1),
  (Reg.RED_STATUS, word (st + (if st = 2 then 4 else 0) + 16))] with now := 10 ^ 18 }

theorem test_HealthAndHallPass_1 : ((pairS 2 0).healthyNow && !((pairS 2 2).setReg Reg.ANA_CTRL 0).healthyNow &&
    after .healthChange ((pairS 2 2).setReg Reg.ANA_CTRL 0) (fun t => t.hpState = 0 ∧ t.gate = false ∧ t.event 53 = true) &&
    after .healthChange ((pairS 2 0).setReg Reg.RED_STATUS 0)
      (fun t => t.rb Reg.RED_STATUS 4 = true ∧ t.pass.healthySince = 10 ^ 18)) = true := by
  decide +kernel

theorem test_HealthAndHallPass_2 : (after .hallPassClaim (pairS 2 0) (fun t => t.hpState = 1 ∧ t.pass.drives = true) &&
    after .hallPassClaim ((pairS 3 0).setRb Reg.RED_STATUS 3 true) (fun t => t.hpState = 1) &&
    after .hallPassClaim (pairS 3 0) (fun t => t.hpState = 0) &&
    after .hallPassHold ((pairS 3 1).setRb Reg.RED_STATUS 3 true) (fun t => t.hpState = 2 ∧ t.gate = true ∧ t.event 53 = true) &&
    after (.ilkInChange ⟨false, 50⟩) ((pairS 3 2).setRb Reg.RED_STATUS 3 true)
      (fun t => t.hpState = 0 ∧ t.gate = false ∧ t.event 53 = true)) = true := by
  decide +kernel

/-- ILK_IN low for less than 50.0 ns, and a level that is no change. -/
theorem test_HealthAndHallPass_4 :
    (after (.ilkInChange ⟨false, 49⟩) ((pairS 3 2).setRb Reg.RED_STATUS 3 true) (fun t => t.hpState = 2 ∧ t.ilkIn) &&
    after (.ilkInChange ⟨true, 50⟩) ((pairS 3 2).setRb Reg.RED_STATUS 3 true) (fun t => t.hpState = 2 ∧ t.pass.ilkSince = 0)) = true := by
  decide +kernel

theorem test_HealthAndHallPass_3 : (takes (pairS 2 2) Reg.RED_CTRL 1 && takes (pairS 2 2) Reg.RED_KICK 1 && (pairS 2 2).kicked &&
    !((pairS 2 2).setReg Reg.RED_CTRL 0x1000).kicked &&
    after (.hallYield 1) (pairS 2 2) (fun t => t.hpState = 0 ∧ t.event 53 = true) &&
    after (.kick 1) (pairS 2 2) (fun t => t.pass.kickAt = some (10 ^ 18) ∧ t.kicked = true) &&
    after .kickExpiry ((pairS 2 2).setReg Reg.RED_CTRL 0x1000) (fun t => t.hpState = 0)) = true := by
  decide +kernel

def finOf (d1 : List Byte) : AnsEntry :=
  { kind := 3, flags := 0, form := 1, inst := 2, seq := 3, d1 := d1, d2 := zero8, present := 0 }

def answering : State :=
  withRegs { (pairS 2 2) with answers := { batch := [finOf zero8] } } [(Reg.RED_CTRL, 0x72), (Reg.FJL_L_STATUS 6, 3)]

theorem test_AnswerCheck_1 : (answering.answerDue && decide (answering.linkTo 7 = some 6) && answering.linkUp 7 &&
    after .answerSend answering (fun t => t.answers.batch = [] ∧ t.answers.seq = 1 ∧ t.out.length = 1 ∧
      t.rb Reg.RED_STATUS 6 = true)) = true := by
  decide +kernel

def ansSecret : List Byte := List.replicate 32 5

/-- The own answer kept, a key in slot 9. -/
def comparing : State :=
  (({ answering with answers := { keys := [{ roll := false, form := 1, inst := 2, seq := 3, ownFin := some (finOf zero8) }] } }).setSlot 9
    { state := 1, usage := 16, material := ansSecret }).setReg Reg.RED_KEY 9

/-- A message of one entry with its code (R427). -/
def ansMsg (d1 : List Byte) : List Byte :=
  let b := beBytes 4 0x414E5343 ++ beBytes 1 1 ++ [0] ++ beBytes 2 1 ++ [0, 0] ++ [0, 0] ++ beBytes 4 0 ++ entryOctets false (finOf d1)
  b ++ (hmac ansSecret b).take 16

theorem test_AnswerCheck_2 : after (.answerReceive (ansMsg zero8)) comparing
    (fun t => t.reg (Reg.RED_CNT 0) = 1 ∧ t.answers.keys = []) = true := by
  decide +kernel

theorem test_AnswerCheck_3 : after (.answerReceive (ansMsg [1, 0, 0, 0, 0, 0, 0, 0])) comparing
    (fun t => t.reg (Reg.RED_CNT 6) = 1 ∧ t.event 54 = true ∧ t.reg Reg.RED_MM_SEQ32 = 3 ∧ t.reg Reg.RED_MM_INFO = 0x20103) = true := by
  decide +kernel

theorem test_AnswerCheck_4 : (after (.answerReceive [1]) comparing (fun t => t.reg (Reg.RED_CNT 7) = 1) &&
    after .redPeerLost (answering.setRb Reg.RED_STATUS 5 true) (fun t => t.event 55 = true ∧ t.rb Reg.RED_STATUS 5 = false) &&
    after .awaitExpiry comparing (fun t => t.reg (Reg.RED_CNT 7) = 1 ∧ t.answers.keys = [])) = true := by
  decide +kernel

/-- Link 6 in a state. -/
def linkS (st : Nat) : State := { holding [(Reg.FJL_L_CTRL 6, if st = 0 then 0 else 1), (Reg.FJL_L_STATUS 6, word st),
  (Reg.FJL_STATUS, if st = 3 then 64 else 0)] with now := 10 ^ 18 }

theorem test_FjarniLinks_1 : (takes (linkS 0) (Reg.FJL_L_CTRL 6) 1 && takes (linkS 3) (Reg.FJL_L_CTRL 6) 0 &&
    after (.fjlLinkEnable 6 1) (linkS 0) (fun t => t.linkState 6 = 1) &&
    after (.fjlLinkDisable 6 0) (linkS 3) (fun t => t.linkState 6 = 0 ∧ t.event 56 = true ∧ t.reg (Reg.FJL_L_CNT 6 4) = 1) &&
    after (.fjlLinkDisable 6 0) (linkS 2) (fun t => t.linkState 6 = 0 ∧ t.event 56 = false)) = true := by
  decide +kernel

theorem test_FjarniLinks_2 : (after (.fjlLanesAligned 6) (linkS 1) (fun t => t.linkState 6 = 2 ∧ t.out.length = 1) &&
    after (.fjlIdent 6 7) (linkS 2) (fun t => t.linkState 6 = 3 ∧ t.event 56 = true ∧ t.rb Reg.FJL_STATUS 6 = true) &&
    after (.fjlIdent 6 6) (linkS 2) (fun t => t.linkState 6 = 1 ∧ t.event 57 = true) &&
    after (.fjlCheckTimeout 6) (linkS 2) (fun t => t.linkState 6 = 1 ∧ t.rf (Reg.FJL_L_STATUS 6) 12 2 = 2) &&
    after (.fjlLaneLost 6 3) (linkS 3) (fun t => t.linkState 6 = 1 ∧ t.event 57 = true ∧ t.event 56 = true)) = true := by
  decide +kernel

def alarmPacket (seq : Nat) : List Byte := packetOctets ⟨3, 3, 0, 0, leBytes 32 77⟩ 0 seq 0xFFFF

theorem test_FjarniLinks_3 : (after (.fjlPacketReceive 6 [1, 2]) (linkS 3) (fun t => t.reg (Reg.FJL_L_CNT 6 2) = 1) &&
    after (.fjlPacketReceive 6 (alarmPacket 0)) (linkS 3) (fun t => t.reg (Reg.FJL_L_CNT 6 1) = 1 ∧ (t.link 6).rxSeq = 0 ∧
      t.reg (Reg.FJL_CNT 3) = 1 ∧ Tab.get (fun _ => 0) t.alarms.shared 7 = 77) &&
    after (.fjlPacketReceive 6 (alarmPacket 1)) (linkS 3) (fun t => (t.link 6).rxSeq = 0xFFFF ∧ t.reg (Reg.FJL_CNT 3) = 0)) = true := by
  decide +kernel

def unacked (tr : Nat) : State := (linkS 3).setLink 6 { sent := [⟨3, 0, 3, 0, []⟩], tries := [tr], txSeq := 1 }

theorem test_FjarniLinks_4 : (after (.fjlResendTimeout 6) (unacked 6) (fun t => t.linkState 6 = 3 ∧ (t.link 6).tries = [7] ∧
      t.reg (Reg.FJL_L_CNT 6 3) = 1) &&
    after (.fjlResendTimeout 6) (unacked 7) (fun t => t.linkState 6 = 1 ∧ t.event 57 = true ∧
      t.rf (Reg.FJL_L_STATUS 6) 12 2 = 3)) = true := by
  decide +kernel

/-- Two packets, the first sent again 7 times: its ACK leaves the count of the second, which has not been. -/
def unacked2 : State := (linkS 3).setLink 6 { sent := [⟨3, 0, 3, 0, []⟩, ⟨3, 0, 3, 0, []⟩], tries := [7, 0], txSeq := 2 }

theorem test_FjarniLinks_5 : (after (.fjlPacketReceive 6 (packetOctets ⟨5, 3, 0, 0, []⟩ 0 0 0)) unacked2
      (fun t => (t.link 6).sent.length = 1 ∧ (t.link 6).tries = [0])) = true := by
  decide +kernel

/-! ### Test access port -/

def tmxS : State := on.setReg Reg.TMX_STATUS 0x10

/-- The order and the number of the cells, and where the group control cells stand (R488). -/
theorem test_boundaryCells : boundaryCells.length = 298 ∧
    [108, 150, 154, 182, 200].map (fun i => boundaryCells.getD i (.refclk, .observe)) =
      [(.group 2, .control), (.group 4, .control), (.group 5, .control), (.group 6, .control), (.group 7, .control)] ∧
    boundaryCells.getD 297 (.refclk, .observe) = (.pcieRefclk, .observe) ∧ boundaryCells.getD 109 (.refclk, .observe) = (.evtIn 0, .input) := by
  decide +kernel

/-- A scan of the boundary register under SAMPLE/PRELOAD, then EXTEST with group 2 enabled: its last clock cell drives its ball. -/
theorem test_TestPort_scan : (decide ((on.setReg Reg.TMX_STATUS 2).dataReg = .boundary) &&
    after (.jtagInstruction ⟨0, some (2 ^ 109, 2 ^ 108 + 2 ^ 107), 0⟩) (on.setReg Reg.TMX_STATUS 2) (fun t =>
      t.ballLevel 107 = some true ∧ t.ballLevel 96 = some false ∧ t.ballLevel 126 = some false ∧ t.ballLevel 201 = none ∧
      (match t.out with
       | [.jtag 1, .jtag w] => w.testBit 109 && !w.testBit 110
       | _ => false) = true)) = true := by
  decide +kernel

/-- One that IDCODE and one that BYPASS answers; without the hall pass an alarm's ball rests whatever its cell says. -/
theorem test_TestPort_scans : (decide ((on.setReg Reg.TMX_STATUS 1).dataReg = .idcode ∧ (on.setReg Reg.TMX_STATUS 9).dataReg = .bypass) &&
    after (.jtagInstruction ⟨9, some (0, 0), 0⟩) (on.setReg Reg.TMX_STATUS 1) (fun t => t.out = [.jtag 1, .jtag 0x29840D4F]) &&
    after (.jtagInstruction ⟨9, some (0, 0), 0⟩) (on.setReg Reg.TMX_STATUS 9) (fun t => t.out = [.jtag 1, .jtag 0]) &&
    after (.jtagInstruction ⟨0, some (0, 2 ^ 150 + 2 ^ 126), 0⟩) (holding [(Reg.TMX_STATUS, 2), (Reg.RED_STATUS, 0)]) (fun t =>
      t.ballLevel 126 = some false)) = true := by
  decide +kernel

/-- EXTEST_PULSE and EXTEST_TRAIN over cycles in Run-Test/Idle; the bypass cell; TMX_ACCESS that is not enabled, of every register, of a
locked one, of an offset without one. -/
theorem test_TestPort_ac : (after (.jtagInstruction ⟨1, none, 3⟩) (on.setReg Reg.TMX_STATUS 3) (fun t => t.out = [.jtag 1, .acTest 0 2]) &&
    after (.jtagInstruction ⟨1, none, 3⟩) (on.setReg Reg.TMX_STATUS 4) (fun t => t.out = [.jtag 1, .acTest 0 4]) &&
    after (.jtagInstruction ⟨1, none, 3⟩) (withRegs on [(Reg.TMX_STATUS, 4), (Reg.TMX_CTRL, 0)]) (fun t => t.out = [.jtag 1]) &&
    after (.jtagInstruction ⟨9, some (0, 5), 0⟩) (on.setReg Reg.TMX_STATUS 9) (fun t => t.out = [.jtag 1, .jtag 10])) = true := by
  decide +kernel

theorem test_TestPort_access : (after (.tmxAccess 5) (tmxS.setReg Reg.TMX_CTRL 0) (fun t => t.out = [.jtag 10] ∧ t.tap = {}) &&
    after (.tmxAccess 0x000100000000) tmxS (fun t => t.tap = { data := 0x10 }) &&
    after (.tmxAccess 0x400700000001) (tmxS.setReg Reg.GLB_LOCK 4) (fun t => t.tap = { err := true } ∧ t.reg (Reg.TMX_OBS_SEL 3) = 0) &&
    after (.tmxAccess 0x000200000000) tmxS (fun t => t.tap = { err := true }) &&
    after (.tmxAccess 5) on (fun t => t.out = [])) = true := by
  decide +kernel

theorem test_TestPort : (after (.jtagInstruction ⟨3, none, 0⟩) (on.setReg Reg.TMX_CTRL 0) (fun t => t.tapInstr = 3 ∧
      t.rf Reg.TMX_STATUS 16 8 = 1 ∧ t.rb Reg.TMX_STATUS 8 = true) &&
    after (.tmxAccess 0) tmxS (fun t => t.tap = { data := 3 } ∧ t.out = [.jtag 0]) &&
    after (.tmxAccess 0x400700000001) tmxS (fun t => t.tap = {} ∧ t.reg (Reg.TMX_OBS_SEL 3) = 1) &&
    after (.tmxAccess 0x000800000001) tmxS (fun t => t.tap = { err := true } ∧ t.rb Reg.TMX_STATUS 9 = true) &&
    after .testLogicReset tmxS (fun t => t.tapInstr = 1)) = true := by
  decide +kernel

/-! ### A signed image (R60-R65): the header, and one frame of the device section whose boot register list is empty. Its digest, its CRC
and its signature were computed outside the model, from the standards the spec names. -/

def imgDigest : Nat := 0x6461f7aefa3fe2de10f549abe4c0a1fc4c18eb6a426a8f9a5e0ab09b3dc8fc82
def imgHash : Nat := 0x464bf316165059c5a2e82a29ab80d9f874ededadb69abf91c64ab6f949494f3b
def imgKeyX : Nat := 0x6d919f49c9814de3d4395d44a1ed7307729bd217351926bf4867fcd02213e654
def imgKeyY : Nat := 0x026d0bcabbf04a966dfb847eb8f5ed90e55c0f5ba6b8e95f73e067f39ad9b250

/-- The frame: section 0, PAYLOAD_LEN 4, index 0, an entry count of 0, CRC. -/
def imgFrame : List Byte := leBytes 8 0x40000 ++ List.replicate 4080 0 ++ leBytes 8 0x5c781146

/-- What is signed: MAGIC, FORMAT, KIND, PART, MIN_REV, LENGTH, the highest VERSION, SIGNER 5, BUILD_ID, one section. -/
def imgSigned : List Byte :=
  leBytes 4 0x56455556 ++ leBytes 4 2 ++ leBytes 4 0x219840 ++ leBytes 4 8192 ++ leBytes 4 0xFFFFFFFF ++ leBytes 4 5 ++
    leBytes 8 1 ++ List.replicate 32 0 ++ leBytes 8 0x100001000 ++ leBytes 8 0 ++ beBytes 32 imgDigest ++ List.replicate 1872 0

def imgSignature : List Byte := beBytes 32 imgHash ++ beBytes 32 imgHash
def imgHeader : List Byte := imgSigned ++ imgSignature ++ List.replicate 2048 0
def imgSigner : KeySlot :=
  { state := 1, type := 4, origin := 5, usage := 8, pub := beBytes 32 imgKeyX ++ beBytes 32 imgKeyY }

theorem test_image_octets : imgHeader.length = 4096 ∧ imgFrame.length = 4096 := by
  constructor <;> decide +kernel

theorem test_image_header : (checkFormat imgHeader && checkLength imgHeader && decide (hdrSigner imgHeader = 5 ∧ hdrKind imgHeader = 0 ∧
    hdrVersion imgHeader = 2 ^ 32 - 1 ∧ sections imgHeader = [0] ∧ secOffset (secEntry imgHeader 0) = 4096 ∧
    secFrames (secEntry imgHeader 0) = 1 ∧ secDigest (secEntry imgHeader 0) = beBytes 32 imgDigest ∧
    imgHeader.take 0x7C0 = imgSigned ∧ slice imgHeader 0x7C0 64 = imgSignature)) = true := by
  decide +kernel

theorem test_image_signature : ecdsaVerify imgSigner.pub (beBytes 32 imgHash) imgSignature = true := by decide +kernel

/-- `k` of `x`; the kernel computes `x` first. -/
def force {α : Type} (x : Nat) (k : Nat → α) : α := Nat.rec (k 0) (fun n _ => k (n + 1)) x

theorem force_eq {α : Type} (x : Nat) (k : Nat → α) : force x k = k x := by cases x <;> rfl

def forceWords {α : Type} : List Word → (List Word → α) → α
  | [], k => k []
  | w :: ws, k => force w.toNat (fun x => forceWords ws (fun r => k (BitVec.ofNat 32 x :: r)))

theorem forceWords_eq {α : Type} : ∀ (ws : List Word) (k : List Word → α), forceWords ws k = k ws
  | [], _ => rfl
  | w :: ws, k => by simp [forceWords, force_eq, forceWords_eq ws]

/-- The blocks of SHA-256, step by step. -/
def shaSteps : Nat → List Byte → List Word → List Word
  | 0, _, h => h
  | n + 1, bs, h => forceWords (shaBlock h (bs.take 64)) (fun h => shaSteps n (bs.drop 64) h)

theorem shaSteps_eq : ∀ (n : Nat) (bs : List Byte) (h : List Word), shaBlocks n bs h = shaSteps n bs h
  | 0, _, _ => rfl
  | n + 1, bs, h => by simp [shaSteps, shaBlocks, forceWords_eq, shaSteps_eq n]

theorem shaSteps_add : ∀ (m n : Nat) (bs : List Byte) (h : List Word),
    shaSteps (m + n) bs h = shaSteps n (bs.drop (64 * m)) (shaSteps m bs h)
  | 0, n, bs, h => by simp [shaSteps]
  | m + 1, n, bs, h => by
    rw [Nat.add_right_comm, shaSteps, forceWords_eq, shaSteps_add m n, List.drop_drop, shaSteps, forceWords_eq]
    congr 2
    omega

/-- Whole blocks, `bits` long, as SHA-256 pads them. -/
def shaPad (bits : Nat) (m : List Byte) : List Byte := m ++ [0x80] ++ List.replicate 55 0 ++ beBytes 8 bits

/-- The hash of a frame in four parts, so that each is a small evaluation; the words between them were computed outside the model. -/
theorem sha_parts (m : List Byte) (a b c d : List Word) (hl : m.length = 4096) (h1 : shaSteps 16 (shaPad 32768 m) shaInit = a)
    (h2 : shaSteps 16 ((shaPad 32768 m).drop 1024) a = b) (h3 : shaSteps 16 ((shaPad 32768 m).drop 2048) b = c)
    (h4 : shaSteps 17 ((shaPad 32768 m).drop 3072) c = d) : sha256 m = d.flatMap (fun w => beBytes 4 w.toNat) := by
  have n : (shaPad 32768 m).length / 64 = 16 + (16 + (16 + 17)) := by simp [shaPad, hl, beBytes]
  have e : sha256 m = (shaBlocks ((shaPad 32768 m).length / 64) (shaPad 32768 m) shaInit).flatMap (fun w => beBytes 4 w.toNat) := by
    simp [sha256, shaPad, hl]
  rw [e, n, shaSteps_eq, shaSteps_add, h1, shaSteps_add, h2, shaSteps_add]
  simp only [List.drop_drop]
  rw [h3, h4]

/-- The same of the signed part of a header, in two parts. -/
theorem sha_halves (m : List Byte) (a b : List Word) (hl : m.length = 1984) (h1 : shaSteps 16 (shaPad 15872 m) shaInit = a)
    (h2 : shaSteps 16 ((shaPad 15872 m).drop 1024) a = b) : sha256 m = b.flatMap (fun w => beBytes 4 w.toNat) := by
  have n : (shaPad 15872 m).length / 64 = 16 + 16 := by simp [shaPad, hl, beBytes]
  have e : sha256 m = (shaBlocks ((shaPad 15872 m).length / 64) (shaPad 15872 m) shaInit).flatMap (fun w => beBytes 4 w.toNat) := by
    simp [sha256, shaPad, hl]
  rw [e, n, shaSteps_eq, shaSteps_add, h1, h2]

def imgSignedSha1 : List Word :=
  [0xA79DB695, 0xA442272F, 0xDB9D2777, 0x0B55097E, 0x62E35AAB, 0x99A38EB7, 0x8DA64CA4, 0xAB4DCD88]
def imgSignedSha2 : List Word :=
  [0x464BF316, 0x165059C5, 0xA2E82A29, 0xAB80D9F8, 0x74EDEDAD, 0xB69ABF91, 0xC64AB6F9, 0x49494F3B]

theorem test_image_hash_1 : shaSteps 16 (shaPad 15872 imgSigned) shaInit = imgSignedSha1 := by decide +kernel
theorem test_image_hash_2 : shaSteps 16 ((shaPad 15872 imgSigned).drop 1024) imgSignedSha1 = imgSignedSha2 := by decide +kernel

theorem test_image_hash : sha256 imgSigned = beBytes 32 imgHash :=
  (sha_halves imgSigned imgSignedSha1 imgSignedSha2 (by decide +kernel) test_image_hash_1 test_image_hash_2).trans (by decide +kernel)

def imgSha1 : List Word :=
  [0xA8CF2D3F, 0x69600738, 0x5566936B, 0x84AB1A1E, 0x0F557D08, 0xCA1F88D7, 0x8A753A4F, 0x7CDAD183]
def imgSha2 : List Word :=
  [0xE4C38866, 0x935E9DBD, 0xA2201EC7, 0xA9AE1BEE, 0xAEA75259, 0x34522153, 0x2869E3C6, 0xA9938788]
def imgSha3 : List Word :=
  [0xB373FA2F, 0x158D76DF, 0x08E5B497, 0xAA19422F, 0xF9BC8841, 0xA2DE823F, 0x3BCA4757, 0x79372302]
def imgSha4 : List Word :=
  [0x6461F7AE, 0xFA3FE2DE, 0x10F549AB, 0xE4C0A1FC, 0x4C18EB6A, 0x426A8F9A, 0x5E0AB09B, 0x3DC8FC82]

theorem test_image_digest_1 : shaSteps 16 (shaPad 32768 imgFrame) shaInit = imgSha1 := by decide +kernel
theorem test_image_digest_2 : shaSteps 16 ((shaPad 32768 imgFrame).drop 1024) imgSha1 = imgSha2 := by decide +kernel
theorem test_image_digest_3 : shaSteps 16 ((shaPad 32768 imgFrame).drop 2048) imgSha2 = imgSha3 := by decide +kernel
theorem test_image_digest_4 : shaSteps 17 ((shaPad 32768 imgFrame).drop 3072) imgSha3 = imgSha4 := by decide +kernel

theorem test_image_digest : sha256 imgFrame = beBytes 32 imgDigest :=
  (sha_parts imgFrame imgSha1 imgSha2 imgSha3 imgSha4 test_image_octets.2 test_image_digest_1 test_image_digest_2 test_image_digest_3
    test_image_digest_4).trans (by decide +kernel)

/-- The CRC over `n` zero octets, step by step. -/
def crcZeros : Nat → Nat → Nat
  | 0, c => c
  | n + 1, c => force (crcReflStep 0x82F63B78 8 (c ^^^ 0)) (fun x => crcZeros n x)

theorem crcZeros_eq : ∀ n c : Nat,
    (List.replicate n (0 : Byte)).foldl (fun c b => crcReflStep 0x82F63B78 8 (c ^^^ b.toNat)) c = crcZeros n c
  | 0, _ => rfl
  | n + 1, c => by
    rw [List.replicate_succ, List.foldl_cons, crcZeros_eq n, crcZeros, force_eq]
    rfl

def zeroSha1 : List Word :=
  [0x93FA7A18, 0xCB520314, 0x08D29F51, 0x10E42BE6, 0xFC4A07DE, 0x4D0E6502, 0x5156C97D, 0x72E04ACF]
def zeroSha2 : List Word :=
  [0xA8BE47BA, 0x626EADDA, 0x6A3C0989, 0xD0DE47E5, 0xD8DECE83, 0x4D65EC69, 0x69804A62, 0xDA5BEA98]
def zeroSha3 : List Word :=
  [0xFED9368A, 0x19EA1DF9, 0x3598F575, 0xE5E279C1, 0xCDA2B07F, 0x7EB74EA4, 0xF2CB8A07, 0xA57E77DD]
def zeroSha4 : List Word :=
  [0xAD7FACB2, 0x586FC6E9, 0x66C004D7, 0xD1D16B02, 0x4F5805FF, 0x7CB47C7A, 0x85DABD8B, 0x48892CA7]

theorem zero_digest_1 : shaSteps 16 (shaPad 32768 zeroFrame) shaInit = zeroSha1 := by decide +kernel
theorem zero_digest_2 : shaSteps 16 ((shaPad 32768 zeroFrame).drop 1024) zeroSha1 = zeroSha2 := by decide +kernel
theorem zero_digest_3 : shaSteps 16 ((shaPad 32768 zeroFrame).drop 2048) zeroSha2 = zeroSha3 := by decide +kernel
theorem zero_digest_4 : shaSteps 17 ((shaPad 32768 zeroFrame).drop 3072) zeroSha3 = zeroSha4 := by decide +kernel

/-- The digest of the frame of zeros, computed outside the model. -/
theorem test_ClassroomRewrites_digest : sha256 zeroFrame = secDigest zeroEntry :=
  (sha_parts zeroFrame zeroSha1 zeroSha2 zeroSha3 zeroSha4 List.length_replicate zero_digest_1 zero_digest_2 zero_digest_3
    zero_digest_4).trans (by decide +kernel)

theorem test_image_frame : frameOk 0 0 imgFrame = true := by
  have h : imgFrame.take 4088 = leBytes 8 0x40000 ++ List.replicate 4080 0 := List.take_left' (by decide +kernel)
  have c : crc32c (imgFrame.take 4088) = 0x5c781146 := by
    rw [h, crc32c, crcRefl, List.foldl_append, crcZeros_eq]
    decide +kernel
  rw [frameOk, c]
  decide +kernel

theorem one_frame (f : List Byte) (rd : ImageSource) (h1 : rd 4096 4096 = f) (hfo : frameOk 0 0 f = true) (n m : Nat) (hn : n = 4096)
    (hm : m = 1) :
    ((List.range m).all fun j => frameOk 0 j (rd (n + 4096 * j) 4096) && !([] : List Nat).contains (n / 4096 + j - 1)) = true := by
  have : List.range 1 = [0] := rfl
  rw [hm, this, List.all_cons, List.all_nil, Nat.mul_zero, Nat.add_zero, hn, h1, hfo, List.contains_nil]
  decide

theorem version_passes (h : List Byte) (s : State) (hv : hdrVersion h = 2 ^ 32 - 1) :
    ¬ hdrVersion h < max (s.reg Reg.IMG_MINVER).toNat (max (s.reg Reg.KEY_FLOOR).toNat Config.floorFuse.toNat) := by
  have a := (s.reg Reg.IMG_MINVER).isLt
  have b := (s.reg Reg.KEY_FLOOR).isLt
  have c := Config.floorFuse.isLt
  omega

theorem header_passes (h : List Byte) (k : KeySlot) (s : State) (po : Bool) (hk : s.keyFor (hdrSigner h) 3 = some k) (ht : k.type = 4)
    (hf : checkFormat h = true) (hl : checkLength h = true) (hkd : hdrKind h = 0) (hv : hdrVersion h = 2 ^ 32 - 1)
    (hsig : ecdsaVerify k.pub (sha256 (h.take 0x7C0)) (slice h 0x7C0 64) = true) : s.checkHeader h po = 0 := by
  simp [State.checkHeader, hf, hl, hk, ht, hsig, version_passes h s hv, hkd]

theorem digest_passes (h f : List Byte) (rd : ImageSource) (h1 : rd 4096 4096 = f) (ho : secOffset (secEntry h 0) = 4096)
    (hfr : secFrames (secEntry h 0) = 1) (hdg : sha256 f = secDigest (secEntry h 0)) : digestOk rd h 0 = true := by
  simp [digestOk, sectionFrames, hfr, ho, h1, hdg]

theorem frames_pass (h f : List Byte) (rd : ImageSource) (h1 : rd 4096 4096 = f) (ho : secOffset (secEntry h 0) = 4096)
    (hfr : secFrames (secEntry h 0) = 1) (hfo : frameOk 0 0 f = true) : framesOk rd h [] 0 = true := by
  unfold framesOk; exact one_frame f rd h1 hfo _ _ ho hfr

theorem all_pass (rd : ImageSource) (s : State) (po : Bool) (hc : s.checkHeader (rd 0 4096) po = 0) (hsec : sections (rd 0 4096) = [0])
    (f1 : framesOk rd (rd 0 4096) [] 0 = true) (f2 : digestOk rd (rd 0 4096) 0 = true) : s.checkImage rd [] po = (0, 63) := by
  have a : (sections (rd 0 4096)).find? (fun k => !framesOk rd (rd 0 4096) [] k) = none := by rw [hsec, List.find?_singleton, f1]; rfl
  have b : (sections (rd 0 4096)).find? (fun k => !digestOk rd (rd 0 4096) k) = none := by rw [hsec, List.find?_singleton, f2]; rfl
  unfold State.checkImage
  rw [if_neg (not_not.2 hc), a, b]

/-- An image without classroom and with an empty boot register list is applied. -/
theorem applies (h f : List Byte) (s : State) (rd : ImageSource) (h0 : rd 0 4096 = h) (h1 : rd 4096 4096 = f) (hsec : sections h = [0])
    (ho : secOffset (secEntry h 0) = 4096) (hfr : secFrames (secEntry h 0) = 1) (l : bootList (payloadOf 1 f) = [])
    (hp : s.unconfigure.pwr.start = none) : s.AppliesImage rd [] false := by
  have e : sectionFrames rd h 0 = f := by simp [sectionFrames, hfr, ho, h1]
  have w : (s.unconfigure.applyDevice (secEntry h 0) f).pwr.start = none := by
    rw [(within_applyDevice s.unconfigure (secEntry h 0) f).pwr (by decide)]; exact hp
  have n : (s.unconfigure.applyDevice (secEntry h 0) f).placeable rd h = [] := by
    refine List.filter_eq_nil_iff.2 fun c hc => ?_
    have z : secFrames (secEntry h (c + 1)) = 0 := by
      by_contra ne
      have m : c + 1 ∈ sections h := List.mem_filter.2 ⟨List.mem_range.2 (by have := List.mem_range.1 hc; omega), by simp [ne]⟩
      rw [hsec] at m; simp at m
    simp [z]
  simp only [State.AppliesImage, h0, e, hfr, l, n]
  exact ⟨rfl, rfl, w⟩

/-- A table of the octets of two blocks reads as the blocks. -/
theorem blocks_read (h f : List Byte) (hh : h.length = 4096) (hf : f.length = 4096) (d : Nat → Byte) :
    Tab.getList d ((List.range 8192).map (fun i => (i, (h ++ f).getD i 0))) 0 4096 = h ∧
    Tab.getList d ((List.range 8192).map (fun i => (i, (h ++ f).getD i 0))) 4096 4096 = f := by
  have g : ∀ i < 8192, Tab.get d ((List.range 8192).map (fun i => (i, (h ++ f).getD i 0))) i = (h ++ f).getD i 0 := fun i hi =>
    get_map_keys d (fun i => (h ++ f).getD i 0) (List.range 8192) i (List.mem_range.2 hi)
  constructor
  · apply List.ext_getElem
    · simp [Tab.getList, hh]
    · intro i h1 h2
      simp only [Tab.getList, List.getElem_map, List.getElem_range, Nat.zero_add]
      rw [g i (by omega), List.getD_eq_getElem?_getD, List.getElem?_append_left h2, List.getElem?_eq_getElem h2]; rfl
  · apply List.ext_getElem
    · simp [Tab.getList, hf]
    · intro i h1 h2
      simp only [Tab.getList, List.getElem_map, List.getElem_range]
      rw [g (4096 + i) (by omega), List.getD_eq_getElem?_getD, List.getElem?_append_right (by omega), hh, Nat.add_sub_cancel_left,
        List.getElem?_eq_getElem h2]; rfl

/-- The image at address 0 of a memory. -/
@[irreducible] def imgTable : List (Nat × Byte) := (List.range 8192).map (fun i => (i, (imgHeader ++ imgFrame).getD i 0))

theorem imgTable_reads (d : Nat → Byte) : Tab.getList d imgTable 0 4096 = imgHeader ∧ Tab.getList d imgTable 4096 4096 = imgFrame := by
  unfold imgTable
  exact blocks_read imgHeader imgFrame test_image_octets.1 test_image_octets.2 d

theorem image_checks (s : State) (rd : ImageSource) (po : Bool) (h0 : rd 0 4096 = imgHeader) (h1 : rd 4096 4096 = imgFrame)
    (hk : s.keyFor 5 3 = some imgSigner) : s.checkImage rd [] po = (0, 63) := by
  have hh := test_image_header
  simp only [Bool.and_eq_true, decide_eq_true_eq] at hh
  obtain ⟨⟨hf, hl⟩, hs, hkd, hv, hsec, ho, hfr, hd, ht, hsg⟩ := hh
  refine all_pass rd s po (h0.symm ▸ header_passes imgHeader imgSigner s po (hs ▸ hk) rfl hf hl hkd hv ?_) (h0.symm ▸ hsec)
    (h0.symm ▸ frames_pass imgHeader imgFrame rd h1 ho hfr test_image_frame)
    (h0.symm ▸ digest_passes imgHeader imgFrame rd h1 ho hfr (test_image_digest.trans hd.symm))
  rw [ht, hsg, test_image_hash]
  exact test_image_signature

theorem image_applies (s : State) (rd : ImageSource) (h0 : rd 0 4096 = imgHeader) (h1 : rd 4096 4096 = imgFrame)
    (hp : s.unconfigure.pwr.start = none) : s.AppliesImage rd [] false := by
  have hh := test_image_header
  simp only [Bool.and_eq_true, decide_eq_true_eq] at hh
  obtain ⟨-, -, -, -, hsec, ho, hfr, -⟩ := hh
  exact applies imgHeader imgFrame s rd h0 h1 hsec ho hfr (by decide +kernel) hp

/-- A state that holds the table `m` in the flash and in HBM3 with PD_HOST, PD_MEM and PD_KEY on, the signer in slot 5, a boot due. -/
def withImage (m : List (Nat × Byte)) : State :=
  State.setSlot (withRegs { loader := { present := true, flash := m }, hbm := m }
    [(Reg.PWR_DOMAIN_STATUS, word (2 ^ pdHost + 2 ^ pdMem + 2 ^ pdKey)), (Reg.IMG_LOAD_STATUS, 1), (Reg.IMG_SRC, 1),
     (Reg.IMG_STAGE_LEN, 8192)]) 5 imgSigner

def bootDue (m : List (Nat × Byte)) : State :=
  (State.selectReadMode { ((withImage m).setRf Reg.IMG_LOAD_STATUS 1 2 1).setRb Reg.IMG_LOAD_STATUS 3 false with
    loader := { (withImage m).loader with warm := false } }).readFlash 0

theorem flashAt_bootDue (m : List (Nat × Byte)) (a n : Nat) :
    (bootDue m).flashAt 0 a n = Tab.getList (fun _ => 0xFF) m a n := by
  have e : ∀ (u : State) (o : Output), (u.emit o).loader = u.loader := fun u o => by unfold State.emit; split <;> rfl
  have : (bootDue m).loader.flash = m := by unfold bootDue State.readFlash State.selectReadMode; rw [e, e]; rfl
  simp only [State.flashAt, this, Nat.zero_add]

theorem test_BootLoads_image : (withImage imgTable).rb Reg.IMG_LOAD_STATUS 0 = true ∧ (withImage imgTable).domOn pdHost = true ∧
    (withImage imgTable).domOn pdMem = true ∧ ((bootDue imgTable).checkFlash 0 (framesBad [] 0)).1 = 0 ∧
    (bootDue imgTable).AppliesImage ((bootDue imgTable).flashAt 0) [] (withImage imgTable).loader.warm := by
  have h0 := (flashAt_bootDue imgTable 0 4096).trans (imgTable_reads _).1
  have h1 := (flashAt_bootDue imgTable 4096 4096).trans (imgTable_reads _).2
  refine ⟨by decide +kernel, by decide +kernel, by decide +kernel, ?_, ?_⟩
  · have c := image_checks (bootDue imgTable) ((bootDue imgTable).flashAt 0) false h0 h1 (by decide +kernel)
    have p : (!(bootDue imgTable).loader.present || ((bootDue imgTable).flashAt 0 0 4).all (fun b => b = 0xFF)) = false := by
      decide +kernel
    unfold State.checkFlash
    rw [if_neg (Bool.eq_false_iff.1 p)]
    exact congrArg Prod.fst c
  · exact image_applies (bootDue imgTable) ((bootDue imgTable).flashAt 0) h0 h1 (by decide +kernel)

/-- The image staged at offset 0. -/
def staging (m : List (Nat × Byte)) : State := (withImage m).setReg Reg.IMG_LOAD_STATUS 0

def loading (m : List (Nat × Byte)) : State :=
  (((staging m).setReg Reg.IMG_LOAD_CMD (merge 0x37 3 ((staging m).reg Reg.IMG_LOAD_CMD))).setRf Reg.IMG_LOAD_STATUS 1 2 3).setRb
    Reg.IMG_LOAD_STATUS 0 true

theorem hbmAt_staging (m : List (Nat × Byte)) (a n : Nat) :
    (staging m).hbmAt 0 a n = Tab.getList blank m a n ∧ (loading m).hbmAt 0 a n = Tab.getList blank m a n := by
  have h : (staging m).hbm = m := rfl
  have k : (loading m).hbm = m := rfl
  simp only [State.hbmAt, State.hbmRead, h, k, Nat.zero_add, and_self]

/-- LOAD, and CACHE into entry 3. -/
theorem test_HostLoadsAndCaching_image : (staging imgTable).Accepts Reg.IMG_LOAD_CMD 3 ∧
    (staging imgTable).Accepts Reg.IMG_LOAD_CMD 0x35 ∧ (staging imgTable).rb Reg.IMG_SRC 0 = true ∧
    (staging imgTable).rb Reg.IMG_LOAD_STATUS 3 = false ∧
    hbmRangeOk (staging imgTable).stageAt (staging imgTable).stageLen = true ∧ (staging imgTable).domOn pdMem = true ∧
    ((staging imgTable).checkStaged false).1 = 0 ∧ ((staging imgTable).checkStaged true).1 = 0 ∧
    (loading imgTable).AppliesImage ((loading imgTable).hbmAt (staging imgTable).stageAt) [] false := by
  have z : (staging imgTable).stageAt = 0 := by decide +kernel
  have n : (staging imgTable).stageLen = 8192 := by decide +kernel
  have h0 := (hbmAt_staging imgTable 0 4096).1.trans (imgTable_reads _).1
  have h1 := (hbmAt_staging imgTable 4096 4096).1.trans (imgTable_reads _).2
  have hlen : hdrLength imgHeader = 8192 := by decide +kernel
  have c : ∀ po, ((staging imgTable).checkStaged po).1 = 0 := fun po => by
    have k := image_checks (staging imgTable) ((staging imgTable).hbmAt 0) po h0 h1 (by decide +kernel)
    simp only [State.checkStaged, z, n, h0, hlen, Nat.lt_irrefl, decide_false, Bool.and_false, k]
    rfl
  refine ⟨(takes_iff _ _ _).1 (by decide +kernel), (takes_iff _ _ _).1 (by decide +kernel), by decide +kernel, by decide +kernel,
    by decide +kernel, by decide +kernel, c false, c true, ?_⟩
  rw [z]
  exact image_applies (loading imgTable) ((loading imgTable).hbmAt 0) ((hbmAt_staging imgTable 0 4096).2.trans (imgTable_reads _).1)
    ((hbmAt_staging imgTable 4096 4096).2.trans (imgTable_reads _).2) (by decide +kernel)

end Sys2Proof.Tests
end

/-! Host requests the endpoint does not support (R32): what the completion with Unsupported Request changes. -/

namespace Sys2Proof.Machine

variable {s : State} {x : Output} {b : Nat}

theorem emit_of_not_boundary (h : s.boundary = false) : s.emit x = { s with out := x :: s.out } := by
  simp [State.emit, h]

/-- The current boundary instruction is read from registers, which the error status is not among. -/
@[simp] theorem aerNote_boundary : (s.aerNote b).boundary = s.boundary := rfl

theorem unsupported_of_not_boundary (h : s.boundary = false) :
    s.unsupported = { s.aerNote 20 with out := .cpl .unsupported :: s.out } :=
  emit_of_not_boundary (aerNote_boundary.trans h)

theorem exec_atomicopRequest_of_pcieUp (h : s.pcieUp = true) : exec .atomicopRequest s = .next s.unsupported :=
  congrArg Host.Outcome.next (if_pos h)

/-- Settles O13: the completion leaves, because no boundary instruction holds it back, and the noted error is the only other change. -/
theorem atomicRequestsAreUnsupported : Obligations.AtomicRequestsAreUnsupported := by
  unfold Obligations.AtomicRequestsAreUnsupported
  intro s hup hb
  refine ⟨s.unsupported, exec_atomicopRequest_of_pcieUp hup, ?_⟩
  rw [unsupported_of_not_boundary hb]
  rfl

end Sys2Proof.Machine

/-! The software event (R383): what a host write of EVT_SOFT with RAISE = 1 brings about. -/

namespace Sys2Proof.Machine

variable {s : State} {v : Word}

/-- The row of EVT_SOFT in the register map: write-only, outside the pairs, under no lock. -/
def softRow : RegRow := ⟨0x10034, 0x4, 1, 0x4, 1, 0x0, 0x0, 0x0, 0xFFFFFFFF, 0x0, .single, none⟩

theorem regRow_evtSoft : regRow Reg.EVT_SOFT = some softRow := by decide

/-- R52 names no cause against a write of EVT_SOFT: the event unit is always powered and refuses no value. -/
theorem writeCause_evtSoft : s.writeCause Reg.EVT_SOFT v = 0 :=
  writeCause_none rfl rfl regRow_evtSoft rfl (by decide) (fun _ hlock => nomatch hlock) (fun _ => rfl)

/-- EVT_SOFT stores nothing of what is written. -/
theorem merge_softRow {w : Word} : merge softRow.rw v (w &&& ~~~ (v &&& softRow.w1c)) = w := by
  have hmask : w &&& ~~~ (v &&& 0#32) = w := by rw [BitVec.and_zero, BitVec.not_zero, BitVec.and_allOnes]
  exact merge_none.trans hmask

theorem evtHook_soft {before : State} (hraise : bit v 0 = true) : s.evtHook before Reg.EVT_SOFT v = s.raise 63 0 := by
  simp [State.evtHook, Reg.EVT_SOFT, hraise]

theorem exec_soft_of_raise (hup : s.hostUp = true) (hraise : bit v 0 = true) :
    exec (.soft v) s = .next ((s.setReg Reg.EVT_SOFT (s.reg Reg.EVT_SOFT)).raise 63 0) := by
  have hpoke : s.poke Reg.EVT_SOFT v {} = (s.setReg Reg.EVT_SOFT (s.reg Reg.EVT_SOFT)).raise 63 0 := by
    rw [poke_single hup writeCause_evtSoft rfl regRow_evtSoft rfl, merge_softRow, unitHook_evt rfl, evtHook_soft hraise]
  exact congrArg Host.Outcome.next hpoke

/-- Settles O16: the write does no more than raise event 63, and a raise sets its STATUS bit and keeps to what events use. -/
theorem softEventIsRaised : Obligations.SoftEventIsRaised := by
  unfold Obligations.SoftEventIsRaised
  intro s v hup hraise
  refine ⟨_, exec_soft_of_raise hup hraise, raise_sets (by decide), fun off quiet hoff => ?_, Within.onlyRegsAndEvents ?_⟩
  · have hne : off ≠ Reg.EVT_SOFT := fun h => hoff (List.mem_singleton.2 h)
    rw [raise_reg (by decide) quiet, reg_setReg_ne hne]
  · exact (within_raise _ 63 0).after (by decide) ((within_setReg s _ _).mono (by decide))

end Sys2Proof.Machine

/-! What one step can do, whichever command is at the front of the queue (R8, R20): no command reaches back into the queue, the past or
the canonical form of what is stored. -/

namespace Sys2Proof.Machine

-- One declaration after another: side by side, their threads' stacks pass the memory limit of a check.
set_option Elab.async false

/-- The bound on the changed fields that every command and every period meets: all of State but the queue. -/
def everyField : Nat := 0x7FFFFFFFFFFFFE

/-- No command changes the queue it was taken from, and none undoes what happened before it. -/
theorem within_exec {c : Instr} {s t : State} (h : exec c s = .next t) : Within everyField s t := by
  cases c with
  | registerWrite bar off data fbe lbe => exact (within_execRegisterWrite _ _ _ _ _ _ h).mono rfl
  | aliasWrite view reg v be => exact (within_execAliasWrite _ _ _ _ _ h).mono rfl
  | pairLowRead bar off n fbe lbe => exact (within_execPairLowRead _ _ _ _ _ _ h).mono rfl
  | pairLowWrite reg v => exact (within_execPairLowWrite _ _ _ h).mono rfl
  | pairHighWrite reg v => exact (within_execPairHighWrite _ _ _ h).mono rfl
  | pairAtomicAccess reg v => exact (within_execPairAtomicAccess _ _ _ h).mono rfl
  | atomicopRequest => exact (within_execAtomicopRequest _ h).mono rfl
  | bar2Access off req fbe lbe => exact (within_execBar2Access _ _ _ _ _ h).mono rfl
  | glbLockSet v => exact (within_execGlbLockSet _ _ h).mono rfl
  | buserrClear v => exact (within_execBuserrClear _ _ h).mono rfl
  | memUeClear v => exact (within_execMemUeClear _ _ h).mono rfl
  | deviceReset v => exact (within_execDeviceReset _ _ h).mono rfl
  | functionLevelReset d3hot => exact (within_execFunctionLevelReset _ _ h).mono rfl
  | perst => exact (within_execPerst _ h).mono rfl
  | mainPowerOnReset power => exact (within_execMainPowerOnReset _ _ h).mono rfl
  | startUp pairId release => exact (within_execStartUp _ _ _ h).mono rfl
  | bootLoad bad desks => exact (within_execBootLoad _ _ _ h).mono rfl
  | imgLoad v desks => exact (within_execImgLoad _ _ _ h).mono rfl
  | imgCache v => exact (within_execImgCache _ _ h).mono rfl
  | update v desks ecc => exact (within_execUpdate _ _ _ _ h).mono rfl
  | repair v desks ecc => exact (within_execRepair _ _ _ _ h).mono rfl
  | unload v => exact (within_execUnload _ _ h).mono rfl
  | autoRepair c desks ecc => exact (within_execAutoRepair _ _ _ _ h).mono rfl
  | tbEnable n v => exact (within_execTbEnable _ _ _ h).mono rfl
  | tbDisable n v => exact (within_execTbDisable _ _ _ h).mono rfl
  | stepGo n v => exact (within_execStepGo _ _ _ h).mono rfl
  | stepApply n => exact (within_execStepApply _ _ h).mono rfl
  | tbRateCommit n v => exact (within_execTbRateCommit _ _ _ h).mono rfl
  | holdReq n v => exact (within_execHoldReq _ _ _ h).mono rfl
  | holdRel n v => exact (within_execHoldRel _ _ _ h).mono rfl
  | tbWatchdogExpiry n => exact (within_execTbWatchdogExpiry _ _ h).mono rfl
  | tbMpdSample n v => exact (within_execTbMpdSample _ _ _ h).mono rfl
  | pllLossOfLock => exact (within_execPllLossOfLock _ h).mono rfl
  | pllLock => exact (within_execPllLock _ h).mono rfl
  | ppsInEdge rising width ph => exact (within_execPpsInEdge _ _ _ _ h).mono rfl
  | ppsOutPulse n => exact (within_execPpsOutPulse _ _ h).mono rfl
  | leapPendStart n => exact (within_execLeapPendStart _ _ h).mono rfl
  | leapSecondApply n => exact (within_execLeapSecondApply _ _ h).mono rfl
  | leapOccExpiry n => exact (within_execLeapOccExpiry _ _ h).mono rfl
  | tsqPop p v => exact (within_execTsqPop _ _ _ h).mono rfl
  | rtcLoadArm v => exact (within_execRtcLoadArm _ _ h).mono rfl
  | rtcLoadApply => exact (within_execRtcLoadApply _ h).mono rfl
  | rtcAlarm => exact (within_execRtcAlarm _ h).mono rfl
  | oscStop => exact (within_execOscStop _ h).mono rfl
  | batLowSample mv => exact (within_execBatLowSample _ _ h).mono rfl
  | switchToVbat => exact (within_execSwitchToVbat _ h).mono rfl
  | switchToVio18 => exact (within_execSwitchToVio18 _ h).mono rfl
  | pdAonPowerOnReset => exact (within_execPdAonPowerOnReset _ h).mono rfl
  | macCtrlWrite p v => exact (within_execMacCtrlWrite _ _ _ h).mono rfl
  | macLink p block fec => exact (within_execMacLink _ _ _ _ h).mono rfl
  | frameReceive p bs pcsErr ph full => exact (within_execFrameReceive _ _ _ _ _ _ h).mono rfl
  | prpLanFault q lan => exact (within_execPrpLanFault _ _ _ h).mono rfl
  | macTransmit p ph => exact (within_execMacTransmit _ _ _ h).mono rfl
  | t1sDescriptorTake => exact (within_execT1sDescriptorTake _ h).mono rfl
  | t1sDeferEnd g => exact (within_execT1sDeferEnd _ _ h).mono rfl
  | t1sSendComplete g => exact (within_execT1sSendComplete _ _ h).mono rfl
  | t1sCollision g bits => exact (within_execT1sCollision _ _ _ h).mono rfl
  | t1sBackoffExpiry g => exact (within_execT1sBackoffExpiry _ _ h).mono rfl
  | t1sSeedWrite v => exact (within_execT1sSeedWrite _ _ h).mono rfl
  | t1sReceive g bs full => exact (within_execT1sReceive _ _ _ _ h).mono rfl
  | intakeFrame p => exact (within_execIntakeFrame _ _ h).mono rfl
  | seatAdd v => exact (within_execSeatAdd _ _ h).mono rfl
  | seatRemove v => exact (within_execSeatRemove _ _ h).mono rfl
  | streamSilent code => exact (within_execStreamSilent _ _ h).mono rfl
  | frameFile => exact (within_execFrameFile _ h).mono rfl
  | rollRelease => exact (within_execRollRelease _ h).mono rfl
  | rclEnable v => exact (within_execRclEnable _ _ h).mono rfl
  | formStart v => exact (within_execFormStart _ _ h).mono rfl
  | formStop v => exact (within_execFormStop _ _ h).mono rfl
  | formRetime v => exact (within_execFormRetime _ _ h).mono rfl
  | seatMove v => exact (within_execSeatMove _ _ h).mono rfl
  | lessonBegin desk => exact (within_execLessonBegin _ _ h).mono rfl
  | resultRecord c d tag stuck ce => exact (within_execResultRecord _ _ _ _ _ _ h).mono rfl
  | reportCardPublish desk => exact (within_execReportCardPublish _ _ h).mono rfl
  | deskWatchdogExpiry c p => exact (within_execDeskWatchdogExpiry _ _ _ h).mono rfl
  | slateParityError c p => exact (within_execSlateParityError _ _ _ h).mono rfl
  | chalkboardUe c rd => exact (within_execChalkboardUe _ _ _ h).mono rfl
  | selfCheck c v bad => exact (within_execSelfCheck _ _ _ _ h).mono rfl
  | spareCheck bad => exact (within_execSpareCheck _ _ h).mono rfl
  | replicaMeasure c ps => exact (within_execReplicaMeasure _ _ _ h).mono rfl
  | anaCommit v => exact (within_execAnaCommit _ _ h).mono rfl
  | latchClear v => exact (within_execLatchClear _ _ h).mono rfl
  | acqCircuitEnable c v => exact (within_execAcqCircuitEnable _ _ _ h).mono rfl
  | acqCircuitDisable c v => exact (within_execAcqCircuitDisable _ _ _ h).mono rfl
  | acqSample ch tap periods levels => exact (within_execAcqSample _ _ _ _ _ h).mono rfl
  | acqModFault ch => exact (within_execAcqModFault _ _ h).mono rfl
  | fltXfade v => exact (within_execFltXfade _ _ h).mono rfl
  | phasorEstimate c => exact (within_execPhasorEstimate _ _ h).mono rfl
  | energyPeriod c => exact (within_execEnergyPeriod _ _ h).mono rfl
  | pulseOutput n => exact (within_execPulseOutput _ _ h).mono rfl
  | nrgIntervalEnd => exact (within_execNrgIntervalEnd _ h).mono rfl
  | nrgSnap v => exact (within_execNrgSnap _ _ h).mono rfl
  | nrgLoad v => exact (within_execNrgLoad _ _ h).mono rfl
  | nrgClear v => exact (within_execNrgClear _ _ h).mono rfl
  | nrgCircuitEnable c v => exact (within_execNrgCircuitEnable _ _ _ h).mono rfl
  | evtInEdge input rising ph held => exact (within_execEvtInEdge _ _ _ _ _ h).mono rfl
  | markHoldClose => exact (within_execMarkHoldClose _ h).mono rfl
  | recorderFrame => exact (within_execRecorderFrame _ h).mono rfl
  | recorderFlush => exact (within_execRecorderFlush _ h).mono rfl
  | recorderStart v => exact (within_execRecorderStart _ _ h).mono rfl
  | recorderStop v => exact (within_execRecorderStop _ _ h).mono rfl
  | taskCreate v => exact (within_execTaskCreate _ _ h).mono rfl
  | taskDestroy v => exact (within_execTaskDestroy _ _ h).mono rfl
  | taskDone v => exact (within_execTaskDone _ _ h).mono rfl
  | flagSet v => exact (within_execFlagSet _ _ h).mono rfl
  | dispatch sets => exact (within_execDispatch _ _ h).mono rfl
  | taskEngineComplete engine => exact (within_execTaskEngineComplete _ _ h).mono rfl
  | timerArm v => exact (within_execTimerArm _ _ h).mono rfl
  | timerDisarm v => exact (within_execTimerDisarm _ _ h).mono rfl
  | timerFire => exact (within_execTimerFire _ h).mono rfl
  | ringTailAdvance r v => exact (within_execRingTailAdvance _ _ _ h).mono rfl
  | ringEnable r v => exact (within_execRingEnable _ _ _ h).mono rfl
  | ringDisable r v => exact (within_execRingDisable _ _ _ h).mono rfl
  | ringStopped r => exact (within_execRingStopped _ _ h).mono rfl
  | ringDmaError r access kind addr => exact (within_execRingDmaError _ _ _ _ _ h).mono rfl
  | ringCoalesceTimer r => exact (within_execRingCoalesceTimer _ _ h).mono rfl
  | ringWrite => exact (within_execRingWrite _ h).mono rfl
  | ringRead => exact (within_execRingRead _ h).mono rfl
  | ringCopy r ecc => exact (within_execRingCopy _ _ _ h).mono rfl
  | evtStatusClear k v => exact (within_execEvtStatusClear _ _ _ h).mono rfl
  | soft v => exact (within_execSoft _ _ h).mono rfl
  | keyGenerate => exact (within_execKeyGenerate _ h).mono rfl
  | keyDerive => exact (within_execKeyDerive _ h).mono rfl
  | keyImport => exact (within_execKeyImport _ h).mono rfl
  | keyFree => exact (within_execKeyFree _ h).mono rfl
  | keyRevoke => exact (within_execKeyRevoke _ h).mono rfl
  | keyMac => exact (within_execKeyMac _ h).mono rfl
  | keyMacVerify => exact (within_execKeyMacVerify _ h).mono rfl
  | keySign => exact (within_execKeySign _ h).mono rfl
  | keyVerify => exact (within_execKeyVerify _ h).mono rfl
  | keyPublic => exact (within_execKeyPublic _ h).mono rfl
  | keyAttest => exact (within_execKeyAttest _ h).mono rfl
  | keyRandom => exact (within_execKeyRandom _ h).mono rfl
  | keyScrub upset => exact (within_execKeyScrub _ _ h).mono rfl
  | tamper pins us view => exact (within_execTamper _ _ _ _ h).mono rfl
  | tamperClr v => exact (within_execTamperClr _ _ h).mono rfl
  | keyFloorWrite v => exact (within_execKeyFloorWrite _ _ h).mono rfl
  | healthChange => exact (within_execHealthChange _ h).mono rfl
  | kick v => exact (within_execKick _ _ h).mono rfl
  | kickExpiry => exact (within_execKickExpiry _ h).mono rfl
  | hallPassClaim => exact (within_execHallPassClaim _ h).mono rfl
  | hallPassHold => exact (within_execHallPassHold _ h).mono rfl
  | ilkInChange edge => exact (within_execIlkInChange _ _ h).mono rfl
  | hallYield v => exact (within_execHallYield _ _ h).mono rfl
  | answerSend => exact (within_execAnswerSend _ h).mono rfl
  | answerReceive m => exact (within_execAnswerReceive _ _ h).mono rfl
  | redPeerLost => exact (within_execRedPeerLost _ h).mono rfl
  | awaitExpiry => exact (within_execAwaitExpiry _ h).mono rfl
  | fjlLinkEnable k v => exact (within_execFjlLinkEnable _ _ _ h).mono rfl
  | fjlLinkDisable k v => exact (within_execFjlLinkDisable _ _ _ h).mono rfl
  | fjlLanesAligned k => exact (within_execFjlLanesAligned _ _ h).mono rfl
  | fjlIdent k pos => exact (within_execFjlIdent _ _ _ h).mono rfl
  | fjlCheckTimeout k => exact (within_execFjlCheckTimeout _ _ h).mono rfl
  | fjlLaneLost k n => exact (within_execFjlLaneLost _ _ _ h).mono rfl
  | fjlPacketReceive k bs => exact (within_execFjlPacketReceive _ _ _ h).mono rfl
  | fjlResendTimeout k => exact (within_execFjlResendTimeout _ _ h).mono rfl
  | pwrDomainEnWrite v => exact (within_execPwrDomainEnWrite _ _ h).mono rfl
  | pwrDomainDone => exact (within_execPwrDomainDone _ h).mono rfl
  | pwrRecess v => exact (within_execPwrRecess _ _ h).mono rfl
  | pwrRun v => exact (within_execPwrRun _ _ h).mono rfl
  | pwrWake => exact (within_execPwrWake _ h).mono rfl
  | govWindowEnd => exact (within_execGovWindowEnd _ h).mono rfl
  | avsResponse r => exact (within_execAvsResponse _ _ h).mono rfl
  | govEnable v => exact (within_execGovEnable _ _ h).mono rfl
  | govReq v => exact (within_execGovReq _ _ h).mono rfl
  | therm temps => exact (within_execTherm _ _ h).mono rfl
  | jtagInstruction scan => exact (within_execJtagInstruction _ _ h).mono rfl
  | tmxAccess w => exact (within_execTmxAccess _ _ h).mono rfl
  | testLogicReset => exact (within_execTestLogicReset _ h).mono rfl
  | tardyWindowEnd => exact (within_execTardyWindowEnd _ h).mono rfl
  | channelHealthy ch => exact (within_execChannelHealthy _ _ h).mono rfl
  | bankSupplyChange b mv => exact (within_execBankSupplyChange _ _ _ h).mono rfl
  | crystalTick => exact (within_execCrystalTick _ h).mono rfl
  | perstRelease => exact (within_execPerstRelease _ h).mono rfl

/-- A step with no command waiting is a period of the time clock. -/
theorem step_of_empty {s : State} (h : s.pending = []) : step s = .next s.period := by simp only [step, h]

/-- A step takes the command at the front of the queue. -/
theorem step_of_cons {s : State} {c : Instr} {rest : List Instr} (h : s.pending = c :: rest) :
    step s = exec c { s with pending := rest } := by simp only [step, h]

theorem within_step_of_empty {s t : State} (hp : s.pending = []) (h : step s = .next t) : Within everyField s t := by
  have ht : s.period = t := Host.Outcome.next.inj ((step_of_empty hp).symm.trans h)
  exact ht ▸ (within_period s).mono rfl

/-- What a step does to the state with the front command taken off the queue. -/
theorem within_step {s t : State} (h : step s = .next t) : Within everyField { s with pending := s.pending.tail } t := by
  cases hp : s.pending with
  | nil =>
    have hs : { s with pending := [] } = s := congrArg (fun q => { s with pending := q }) hp.symm
    exact hs.symm ▸ within_step_of_empty hp h
  | cons c rest => exact within_exec ((step_of_cons hp).symm.trans h)

/-- Settles O1: the queue is not looked at beyond its front. -/
theorem stepRunsTheFrontCommand : Obligations.StepRunsTheFrontCommand := by
  unfold Obligations.StepRunsTheFrontCommand
  intro s c rest
  exact step_of_cons rfl

/-- Settles O2: the one register that differs from its Reset value is PWR_RESET_CAUSE, and no domain is on. -/
theorem resetMeetsTheInvariants : Obligations.ResetMeetsTheInvariants := by
  unfold Obligations.ResetMeetsTheInvariants
  refine ⟨⟨?_, rfl, rfl, rfl, rfl, rfl⟩, ⟨?_, ?_⟩, ?_, ?_⟩ <;> decide +kernel

/-- Settles O3: every operation of the model keeps the canonical form, and the queue is no part of it. -/
theorem stepKeepsTheCanonicalForm : Obligations.StepKeepsTheCanonicalForm := by
  unfold Obligations.StepKeepsTheCanonicalForm
  intro s t hs h
  exact (within_step h).canonical ⟨hs.regs, hs.stages, hs.latches, hs.tables, hs.hbm, hs.hostMem⟩

/-- Settles O4: a command runs on the queue's rest, and none turns time or output back. -/
theorem stepKeepsQueueTimeAndOutput : Obligations.StepKeepsQueueTimeAndOutput := by
  unfold Obligations.StepKeepsQueueTimeAndOutput
  intro s t h
  have w := within_step h
  exact ⟨w.queue, w.time, w.sent⟩

end Sys2Proof.Machine

/-! Where a command stops (R35): only a host access outside its aperture does. -/

namespace Sys2Proof.Machine

-- One declaration after another: side by side, their threads' stacks pass the memory limit of a check.
set_option Elab.async false

/-- An access has its effect, or it lies outside its aperture and faults. -/
theorem inside_cases {p q : Prop} [Decidable p] {t : State} (hq : ¬p → q) :
    (∃ u, inside p t = .next u) ∨ inside p t = .fault .outsideAperture ∧ q := by
  by_cases hp : p
  · exact .inl ⟨t, if_pos hp⟩
  · exact .inr ⟨if_neg hp, hq hp⟩

/-- Settles O8: seven commands test their aperture, and the meaning of every other one is a next state outright. -/
theorem onlyRequestsBeyondAnApertureStop : Obligations.OnlyRequestsBeyondAnApertureStop := by
  unfold Obligations.OnlyRequestsBeyondAnApertureStop
  intro c s
  cases c with
  | registerWrite bar off data fbe lbe => exact inside_cases Nat.lt_of_not_le
  | aliasWrite view reg v be => exact inside_cases Nat.le_of_not_lt
  | pairLowRead bar off n fbe lbe => exact inside_cases Nat.lt_of_not_le
  | pairLowWrite reg v => exact inside_cases Nat.lt_of_not_le
  | pairHighWrite reg v => exact inside_cases Nat.lt_of_not_le
  | pairAtomicAccess reg v => cases v <;> exact inside_cases Nat.lt_of_not_le
  | bar2Access off req fbe lbe => exact inside_cases Nat.lt_of_not_le
  | _ => exact .inl ⟨_, rfl⟩

end Sys2Proof.Machine

/-! The guarded part of the state: the lock bits (R53), what decides which power domains are on (R440), the start-up that is due, and the
pulses that have left (R323). Only host writes of GLB and PWR, power commands and resets touch any of it. -/

namespace Sys2Proof.Machine

-- One declaration after another: side by side, their threads' stacks pass the memory limit of a check.
set_option Elab.async false

/-- Whether an output is a pulse of an energy pulse output. -/
def Output.isPulse : Output → Bool
  | .pulse _ _ => true
  | _ => false

/-- What of the state all commands but a few keep. -/
structure Kept where
  lock : Word
  domEn : Word
  domStatus : Word
  start : Option StartPhase
  pulses : List Output

def State.kept (s : State) : Kept :=
  ⟨s.reg Reg.GLB_LOCK, s.reg Reg.PWR_DOMAIN_EN, s.reg Reg.PWR_DOMAIN_STATUS, s.pwr.start, s.out.filter Output.isPulse⟩

/-- From `s` to `t` the guarded part is kept. -/
def Keeps (s t : State) : Prop := t.kept = s.kept

/-- A register that is none of the three guarded ones. -/
abbrev Spared (off : Nat) : Prop := off ≠ Reg.GLB_LOCK ∧ off ≠ Reg.PWR_DOMAIN_EN ∧ off ≠ Reg.PWR_DOMAIN_STATUS

theorem Keeps.refl (s : State) : Keeps s s := rfl
theorem Keeps.after {s x y : State} (h : Keeps x y) (g : Keeps s x) : Keeps s y := h.trans g

theorem Within.kept {C : Nat} {s t : State} (h : Within C s t) (h3 : C.testBit 3 = false := by decide) (h7 : C.testBit 7 = false := by decide)
    (h14 : C.testBit 14 = false := by decide) : Keeps s t := by
  simp only [Keeps, State.kept, State.reg, h.regs h3, h.out h7, h.pwr h14]

/-- A state written out from another with the registers and the output taken over. -/
theorem Keeps.upd {s x : State}
    {pending_} {now_} {free_} {latches_} {stages_} {msix_} {hbm_} {hostMem_} {rings_} {tbs_} {tsq_} {rtc_} {pwr_} {trigs_} {marks_}
    {recorder_} {lanes_} {tables_} {chans_} {fade_} {phs_} {nrg_} {acc_} {nrgCmd_} {pulses_} {rxq_} {txq_} {segJobs_} {prp_} {segments_}
    {t1sTaken_} {t1sNum_} {seats_} {seated_} {forms_} {tcp_} {links_} {classrooms_} {lessons_} {alarms_} {slacks_} {answers_} {pass_}
    {sched_} {loader_} {evtIn_} {keys_} {tap_} {cacheSigner_} {pcie_} {modClks_} {nrgInt_} {ppsPin_}
    (h : Keeps s x) (start : pwr_.start = x.pwr.start) :
    Keeps s ⟨pending_, now_, free_, x.regs, latches_, stages_, msix_, x.out, hbm_, hostMem_, rings_, tbs_, tsq_, rtc_, pwr_, trigs_,
    marks_, recorder_, lanes_, tables_, chans_, fade_, phs_, nrg_, acc_, nrgCmd_, pulses_, rxq_, txq_, segJobs_, prp_, segments_,
    t1sTaken_, t1sNum_, seats_, seated_, forms_, tcp_, links_, classrooms_, lessons_, alarms_, slacks_, answers_, pass_, sched_, loader_,
    evtIn_, keys_, tap_, cacheSigner_, pcie_, modClks_, nrgInt_, ppsPin_⟩ := by
  unfold Keeps at h ⊢
  rw [← h]
  simp only [State.kept, State.reg, start]

theorem Keeps.trans {s t u : State} (h : Keeps s t) (k : Keeps t u) : Keeps s u := k.after h

/-- The fold of operations over a list. -/
theorem Keeps.foldl {α : Type} {s x : State} {f : State → α → State} {l : List α} (hf : ∀ y a, Keeps s y → Keeps s (f y a))
    (h : Keeps s x) : Keeps s (l.foldl f x) := by
  induction l generalizing x with
  | nil => exact h
  | cons a l ih => exact ih (hf x a h)

/-- The fold of operations that carry a value beside the state. -/
theorem Keeps.foldl_fst {α β : Type} {s : State} {x : State × β} {f : State × β → α → State × β} {l : List α}
    (hf : ∀ y a, Keeps s y.1 → Keeps s (f y a).1) (h : Keeps s x.1) : Keeps s (l.foldl f x).1 := by
  induction l generalizing x with
  | nil => exact h
  | cons a l ih => exact ih (hf x a h)

theorem Keeps.foldl_snd {α β : Type} {s : State} {x : β × State} {f : β × State → α → β × State} {l : List α}
    (hf : ∀ y a, Keeps s y.2 → Keeps s (f y a).2) (h : Keeps s x.2) : Keeps s (l.foldl f x).2 := by
  induction l generalizing x with
  | nil => exact h
  | cons a l ih => exact ih (hf x a h)

/-! ### Which registers are spared -/

/-- The offset of an instance of a register row that stands above PWR_DOMAIN_STATUS. -/
theorem above_add {a b : Nat} (h : Reg.PWR_DOMAIN_STATUS < a) : Reg.PWR_DOMAIN_STATUS < a + b := Nat.lt_of_lt_of_le h (Nat.le_add_right a b)

theorem above_add_add {a b c : Nat} (h : Reg.PWR_DOMAIN_STATUS < a) : Reg.PWR_DOMAIN_STATUS < a + b + c := above_add (above_add h)

theorem spared_add {a b : Nat} (h : Reg.PWR_DOMAIN_STATUS < a) : Spared (a + b) := by
  unfold Spared Reg.GLB_LOCK Reg.PWR_DOMAIN_EN Reg.PWR_DOMAIN_STATUS at *
  omega

theorem spared_of_lt {a : Nat} (h : Reg.PWR_DOMAIN_STATUS < a) : Spared a := spared_add (b := 0) h

theorem spared_add_add {a b c : Nat} (h : Reg.PWR_DOMAIN_STATUS < a) : Spared (a + b + c) := by
  rw [Nat.add_assoc]
  exact spared_add h

/-! ### The operations every meaning is built from -/

theorem kept_setReg (s : State) (off : Nat) (w : Word) (h : Spared off) : Keeps s (s.setReg off w) := by
  simp only [Keeps, State.kept, reg_setReg_ne (Ne.symm h.1), reg_setReg_ne (Ne.symm h.2.1), reg_setReg_ne (Ne.symm h.2.2), setReg_pwr, setReg_out]

theorem kept_emit (s : State) (o : Output) (h : o.isPulse = false) : Keeps s (s.emit o) := by
  unfold State.emit
  split
  · rfl
  · simp only [Keeps, State.kept, State.reg, List.filter_cons, h, Bool.false_eq_true, if_false]

theorem kept_resetRegs (s : State) (lo hi : Nat) (h : Reg.PWR_DOMAIN_STATUS < lo) : Keeps s (s.resetRegs lo hi) := by
  have hr : ∀ o, o ≤ Reg.PWR_DOMAIN_STATUS → (s.resetRegs lo hi).reg o = s.reg o := fun o ho =>
    reg_resetRegs.trans (if_neg fun c => absurd (Nat.le_trans c.1 ho) (Nat.not_le.2 h))
  simp only [Keeps, State.kept, hr _ (show Reg.GLB_LOCK ≤ _ by decide), hr _ (show Reg.PWR_DOMAIN_EN ≤ _ by decide), hr _ (Nat.le_refl _), resetRegs_pwr,
    resetRegs_out]

end Sys2Proof.Machine

/-! What keeps the guarded part: one lemma per operation of the model, in the order of the files that define them. The proofs follow
the operation's own composition, each step by the lemma of the operation it calls. -/

namespace Sys2Proof.Machine

-- One declaration after another: side by side, their threads' stacks pass the memory limit of a check.
set_option Elab.async false

set_option linter.all false

theorem kept_bumpBy (s : State) (off : Nat) (n : Nat) (hoff : Spared off) :
    Keeps s (State.bumpBy s off n) := by
  unfold State.bumpBy
  repeat' first
  | with_reducible apply Keeps.refl | with_reducible apply Keeps.after (kept_setReg _ _ _ ?_) | with_reducible assumption

theorem kept_bump (s : State) (off : Nat) (hoff : Spared off) :
    Keeps s (State.bump s off) := by
  unfold State.bump
  repeat' first
  | with_reducible apply Keeps.refl | with_reducible apply Keeps.after (kept_bumpBy _ _ _ ?_) | with_reducible assumption

theorem kept_setRb (s : State) (off : Nat) (i : Nat) (b : Bool) (hoff : Spared off) :
    Keeps s (State.setRb s off i b) := by
  unfold State.setRb
  repeat' first
  | with_reducible apply Keeps.refl | with_reducible apply Keeps.after (kept_setReg _ _ _ ?_) | with_reducible assumption

theorem kept_bumpWrap (s : State) (off : Nat) (hoff : Spared off) :
    Keeps s (State.bumpWrap s off) := by
  unfold State.bumpWrap
  repeat' first
  | with_reducible apply Keeps.refl | with_reducible apply Keeps.after (kept_setReg _ _ _ ?_) | with_reducible assumption

theorem kept_setRf (s : State) (off : Nat) (lo : Nat) (n : Nat) (v : Nat) (hoff : Spared off) :
    Keeps s (State.setRf s off lo n v) := by
  unfold State.setRf
  repeat' first
  | with_reducible apply Keeps.refl | with_reducible apply Keeps.after (kept_setReg _ _ _ ?_) | with_reducible assumption

theorem kept_publish (s : State) (off : Nat) (hoff : Spared off) :
    Keeps s (State.publish s off) := by
  unfold State.publish
  repeat' first
  | with_reducible apply Keeps.refl | with_reducible apply Keeps.after (kept_setRf _ _ _ _ _ ?_)
  | with_reducible apply Keeps.after (kept_setRb _ _ _ _ ?_) | with_reducible assumption

theorem kept_unready (s : State) (off : Nat) (hoff : Spared off) :
    Keeps s (State.unready s off) := by
  unfold State.unready
  repeat' first
  | with_reducible apply Keeps.refl | with_reducible apply Keeps.after (kept_setRb _ _ _ _ ?_) | with_reducible assumption

theorem kept_memUe (s : State) (a : Nat) :
    Keeps s (State.memUe s a) := by
  unfold State.memUe
  repeat' first
  | with_reducible apply Keeps.refl | with_reducible apply Keeps.after (kept_setReg _ _ _ ?_)
  | with_reducible apply Keeps.after (kept_setRb _ _ _ _ ?_) | split | with_reducible assumption | exact spared_add (by decide)
  | exact spared_add_add (by decide) | decide

theorem kept_memCe (s : State) (a : Nat) :
    Keeps s (State.memCe s a) := by
  unfold State.memCe
  exact kept_bump _ _ (by split <;> decide)

theorem kept_bumpPair (s : State) (lo : Nat) (n : Nat) (h : Reg.PWR_DOMAIN_STATUS < lo) :
    Keeps s (State.bumpPair s lo n) := by
  unfold State.bumpPair
  repeat' first
  | with_reducible apply Keeps.refl | with_reducible apply Keeps.after (kept_setReg _ _ _ ?_) | exact spared_of_lt h
  | exact spared_add h

theorem kept_putStamp (s : State) (ns : Nat) (t : Stamp) (h : Reg.PWR_DOMAIN_STATUS < ns) :
    Keeps s (State.putStamp s ns t) := by
  unfold State.putStamp
  repeat' first
  | with_reducible apply Keeps.refl | with_reducible apply Keeps.after (kept_setReg _ _ _ ?_) | exact spared_of_lt h
  | exact spared_add h

theorem kept_sendMsix (s : State) (v : Nat) :
    Keeps s (State.sendMsix s v) := by
  unfold State.sendMsix
  repeat' first
  | with_reducible apply Keeps.refl | with_reducible apply Keeps.after (kept_emit _ _ ?_) | split
  | (with_reducible apply Keeps.upd; on_goal 2 => rfl) | exact Eq.refl false

/-- An event of the table sets a STATUS bit and moves a counter of EVT alone. -/
theorem kept_raiseBase (s : State) (e : Nat) (inst : Nat) (he : e < 64) :
    Keeps s (State.raiseBase s e inst) := by
  have hcnt : Spared (Reg.EVT_CNT e) := by unfold Spared Reg.GLB_LOCK Reg.PWR_DOMAIN_EN Reg.PWR_DOMAIN_STATUS Reg.EVT_CNT; omega
  have hst : Spared (Reg.EVT_STATUS (e / 32)) := by
    unfold Spared Reg.GLB_LOCK Reg.PWR_DOMAIN_EN Reg.PWR_DOMAIN_STATUS Reg.EVT_STATUS; omega
  unfold State.raiseBase
  repeat' first
  | with_reducible apply Keeps.refl | with_reducible apply Keeps.after (kept_bump _ _ hcnt)
  | with_reducible apply Keeps.after (kept_sendMsix _ _) | with_reducible apply Keeps.after (kept_setRb _ _ _ _ hst) | split
  | (with_reducible apply Keeps.upd; on_goal 2 => rfl)

theorem kept_fireQuiet (s : State) (n : Nat) (anchor : Stamp) (back : Nat) (tap : Nat) (delta : Nat) :
    Keeps s (State.fireQuiet s n anchor back tap delta).1 := by
  unfold State.fireQuiet
  dsimp only
  repeat' first
  | with_reducible apply Keeps.refl | with_reducible assumption | with_reducible apply Keeps.after (kept_bump _ _ ?_)
  | with_reducible apply Keeps.after (kept_bumpWrap _ _ ?_) | with_reducible apply Keeps.after (kept_setRb _ _ _ _ ?_) | split
  | (with_reducible apply Keeps.upd; on_goal 2 => rfl) | exact spared_add (by decide) | exact spared_add_add (by decide) | decide

theorem kept_fireEdge (s : State) (n : Nat) (fire : Stamp) :
    Keeps s (State.fireEdge s n fire).1 := by
  unfold State.fireEdge
  dsimp only
  repeat' first
  | with_reducible apply Keeps.refl | with_reducible apply Keeps.after (kept_bump _ _ ?_)
  | with_reducible apply Keeps.after ((within_setTrig _ _ _).kept) | with_reducible apply Keeps.after (kept_fireQuiet _ _ _ _ _ _)
  | split | with_reducible assumption | exact spared_add (by decide)

theorem kept_ringExhaustQuiet (s : State) (r : Nat) (lost : Bool) :
    Keeps s (State.ringExhaustQuiet s r lost).1 := by
  unfold State.ringExhaustQuiet
  dsimp only
  repeat' first
  | with_reducible apply Keeps.refl | with_reducible assumption | with_reducible apply Keeps.after (kept_bump _ _ ?_)
  | with_reducible apply Keeps.after ((within_setRingX _ _ _).kept) | with_reducible apply Keeps.after (kept_setRb _ _ _ _ ?_) | split
  | exact spared_add (by decide) | exact spared_add_add (by decide)

theorem kept_ringReturnQuiet (s : State) (r : Nat) (body : List Byte) (status : Nat) :
    Keeps s (State.ringReturnQuiet s r body status).1 := by
  unfold State.ringReturnQuiet
  dsimp only
  repeat' first
  | with_reducible apply Keeps.refl | with_reducible assumption | with_reducible apply Keeps.after (kept_setRf _ _ _ _ _ ?_)
  | with_reducible apply Keeps.after (kept_bump _ _ ?_) | with_reducible apply Keeps.after ((within_hostWrite _ _ _).kept)
  | with_reducible apply Keeps.after ((within_setRingX _ _ _).kept) | with_reducible apply Keeps.after (kept_setRb _ _ _ _ ?_) | split
  | exact spared_add (by decide) | exact spared_add_add (by decide)

theorem kept_raise (s : State) (e : Nat) (inst : Nat) (he : e < 64) :
    Keeps s (State.raise s e inst) :=
  raiseF_keeps (Keeps s) (fun _ _ _ h k => (kept_raiseBase _ _ _ h).after k) (fun _ k => (kept_bumpWrap _ _ (by decide)).after k)
    (fun _ _ _ k => (kept_ringReturnQuiet _ _ _ _).after k) (fun _ k => (kept_ringExhaustQuiet _ _ _).after k)
    (fun _ _ _ _ k => (kept_fireEdge _ _ _).after k) he (Keeps.refl s)

theorem kept_flagRaise (s : State) (off : Nat) (i : Nat) (e : Nat) (inst : Nat) (hoff : Spared off) (he : e < 64) :
    Keeps s (State.flagRaise s off i e inst) := by
  unfold State.flagRaise
  repeat' first
  | with_reducible apply Keeps.refl | with_reducible apply Keeps.after (kept_raise _ _ _ ?_)
  | with_reducible apply Keeps.after (kept_setRb _ _ _ _ ?_) | with_reducible assumption

theorem kept_fireAtEdge (s : State) (n : Nat) (fire : Stamp) :
    Keeps s (State.fireAtEdge s n fire) := by
  unfold State.fireAtEdge
  dsimp only
  repeat' first
  | with_reducible apply Keeps.refl | with_reducible assumption | with_reducible apply Keeps.after (kept_fireEdge _ _ _)
  | with_reducible apply Keeps.after (kept_raise _ _ _ ?_) | split | exact spared_add (by decide) | exact spared_add_add (by decide)
  | decide

theorem kept_fire (s : State) (n : Nat) (anchor : Stamp) (back : Nat) (tap : Nat) (delta : Nat) :
    Keeps s (State.fire s n anchor back tap delta) := by
  unfold State.fire
  dsimp only
  repeat' first
  | with_reducible apply Keeps.refl | with_reducible assumption | with_reducible apply Keeps.after (kept_raise _ _ _ ?_)
  | with_reducible apply Keeps.after (kept_fireQuiet _ _ _ _ _ _) | split | exact spared_add (by decide)
  | exact spared_add_add (by decide) | decide

theorem kept_msixAll (s : State) :
    Keeps s (State.msixAll s) := by
  unfold State.msixAll
  repeat' first
  | with_reducible apply Keeps.refl | with_reducible assumption | with_reducible apply Keeps.after (kept_sendMsix _ _)
  | with_reducible apply Keeps.foldl | (with_reducible intro y a h) | split

theorem kept_msixRises (s : State) (before : State) :
    Keeps s (State.msixRises s before) := by
  unfold State.msixRises
  repeat' first
  | with_reducible apply Keeps.refl | with_reducible assumption | with_reducible apply Keeps.after (kept_sendMsix _ _)
  | with_reducible apply Keeps.foldl | (with_reducible intro y a h) | split

theorem kept_msixRelease (s : State) (v : Nat) :
    Keeps s (State.msixRelease s v) := by
  unfold State.msixRelease
  repeat' first
  | with_reducible apply Keeps.refl | with_reducible apply Keeps.after (kept_emit _ _ ?_) | split
  | (with_reducible apply Keeps.upd; on_goal 2 => rfl) | exact Eq.refl false

theorem kept_ringEvent (s : State) (r : Nat) :
    Keeps s (State.ringEvent s r) := by
  unfold State.ringEvent
  repeat' first
  | with_reducible apply Keeps.refl | with_reducible apply Keeps.after (kept_raise _ _ _ ?_) | split | with_reducible assumption
  | exact spared_add (by decide) | exact spared_add_add (by decide) | decide

theorem kept_ringReturn (s : State) (r : Nat) (body : List Byte) (status : Nat) :
    Keeps s (State.ringReturn s r body status) := by
  unfold State.ringReturn
  dsimp only
  repeat' first
  | with_reducible apply Keeps.refl | with_reducible assumption | with_reducible apply Keeps.after (kept_ringEvent _ _)
  | with_reducible apply Keeps.after (kept_ringReturnQuiet _ _ _ _) | split

theorem kept_ringExhaust (s : State) (r : Nat) (lost : Bool) :
    Keeps s (State.ringExhaust s r lost) := by
  unfold State.ringExhaust
  dsimp only
  repeat' first
  | with_reducible apply Keeps.refl | with_reducible assumption | with_reducible apply Keeps.after (kept_ringExhaustQuiet _ _ _)
  | with_reducible apply Keeps.after (kept_raise _ _ _ ?_) | split | exact spared_add (by decide) | exact spared_add_add (by decide)
  | decide

theorem kept_postRecord (s : State) (r : Nat) (rec : List Byte) (w10 : Nat) (w14 : Nat) :
    Keeps s (State.postRecord s r rec w10 w14) := by
  unfold State.postRecord
  dsimp only
  repeat' first
  | with_reducible apply Keeps.refl | with_reducible assumption | with_reducible apply Keeps.after (kept_bump _ _ ?_)
  | with_reducible apply Keeps.after (kept_ringReturn _ _ _ _) | with_reducible apply Keeps.after (kept_raise _ _ _ ?_)
  | with_reducible apply Keeps.after ((within_hostWrite _ _ _).kept) | with_reducible apply Keeps.after (kept_ringExhaust _ _ _)
  | with_reducible apply Keeps.after (kept_setRb _ _ _ _ ?_) | split | exact spared_add (by decide) | exact spared_add_add (by decide)
  | decide

theorem kept_returnFrame (r : Nat) (i : FrameInfo) (frame : List Byte) (ok : Bool) (s : State) (x5 : Bool) (x6 : List (Nat × Option (Nat × Nat))) :
    Keeps s (returnFrame r i frame ok s x5 x6) := by
  induction x6 generalizing s x5 with
  | nil =>
    unfold returnFrame
    first | exact Keeps.refl _ | exact (Keeps.refl _) | (split <;> exact Keeps.refl _)
  | cons a l ih =>
    unfold returnFrame
    repeat' first
    | with_reducible apply Keeps.refl | with_reducible apply Keeps.after (kept_ringReturn _ _ _ _)
    | with_reducible apply Keeps.after ((within_hostWrite _ _ _).kept) | with_reducible apply Keeps.after (ih _ _) | split

theorem kept_postFrame (s : State) (r : Nat) (frame : List Byte) (i : FrameInfo) :
    Keeps s (State.postFrame s r frame i) := by
  unfold State.postFrame
  dsimp only
  repeat' first
  | with_reducible apply Keeps.refl | with_reducible assumption | with_reducible apply Keeps.after (kept_bump _ _ ?_)
  | with_reducible apply Keeps.after (kept_ringExhaust _ _ _) | with_reducible apply Keeps.after (kept_returnFrame _ _ _ _ _ _ _)
  | split | exact spared_add (by decide) | exact spared_add_add (by decide)

theorem kept_postDesc (s : State) (r : Nat) (body : List Byte) :
    Keeps s (State.postDesc s r body) := by
  unfold State.postDesc
  repeat' first
  | with_reducible apply Keeps.refl | with_reducible apply Keeps.after (kept_ringReturn _ _ _ _)
  | with_reducible apply Keeps.after (kept_ringExhaust _ _ _) | split

theorem kept_ringOff (s : State) (r : Nat) :
    Keeps s (State.ringOff s r) := by
  unfold State.ringOff
  repeat' first
  | with_reducible apply Keeps.refl | with_reducible apply Keeps.after (kept_setRf _ _ _ _ _ ?_) | with_reducible assumption
  | exact spared_add (by decide)

theorem kept_ringEn (s : State) (r : Nat) (en : Bool) :
    Keeps s (State.ringEn s r en) := by
  unfold State.ringEn
  repeat' first
  | with_reducible apply Keeps.refl | with_reducible apply Keeps.after (kept_setRf _ _ _ _ _ ?_)
  | with_reducible apply Keeps.after ((within_setRingX _ _ _).kept) | with_reducible apply Keeps.after (kept_ringOff _ _)
  | with_reducible apply Keeps.after (kept_setRb _ _ _ _ ?_) | split | with_reducible assumption | exact spared_add (by decide)
  | exact spared_add_add (by decide) | decide

theorem kept_owedPost (x0 : List (List Byte × Nat)) (s : State) :
    Keeps s (State.owedPost x0 s) := by
  induction x0 generalizing s with
  | nil => exact Keeps.refl _
  | cons a l ih =>
    unfold State.owedPost
    split
    · exact Keeps.trans (Keeps.after (kept_ringReturn _ _ _ _)
        ((within_setRingX _ _ _).kept)) (ih _)
    · exact Keeps.refl _

theorem kept_ring1Pump (s : State) :
    Keeps s (State.ring1Pump s) := by
  unfold State.ring1Pump
  repeat' first
  | with_reducible apply Keeps.refl | with_reducible apply Keeps.after (kept_owedPost _ _)

theorem kept_ringAbandon (s : State) (r : Nat) :
    Keeps s (State.ringAbandon s r) := by
  unfold State.ringAbandon
  repeat' first
  | with_reducible apply Keeps.refl | with_reducible assumption | with_reducible apply Keeps.after (kept_setRb _ _ _ _ ?_)
  | with_reducible apply Keeps.foldl | (with_reducible intro y a h) | split | (with_reducible apply Keeps.upd; on_goal 2 => rfl)
  | exact spared_add (by decide)

theorem kept_postOwed (s : State) (body : List Byte) (status : Nat) :
    Keeps s (State.postOwed s body status) := by
  unfold State.postOwed
  dsimp only
  repeat' first
  | with_reducible apply Keeps.refl | with_reducible assumption | with_reducible apply Keeps.after (kept_ring1Pump _)
  | with_reducible apply Keeps.after ((within_setRingX _ _ _).kept) | with_reducible apply Keeps.after (kept_ringExhaust _ _ _) | split

theorem kept_ringFail (s : State) (r : Nat) (write : Bool) (work : Bool) (kind : Nat) (addr : Nat) :
    Keeps s (State.ringFail s r write work kind addr) := by
  unfold State.ringFail
  repeat' first
  | with_reducible apply Keeps.refl | with_reducible apply Keeps.after (kept_setReg _ _ _ ?_)
  | with_reducible apply Keeps.after (kept_setRf _ _ _ _ _ ?_) | with_reducible apply Keeps.after (kept_bump _ _ ?_)
  | with_reducible apply Keeps.after (kept_flagRaise _ _ _ _ _ ?_ ?_) | with_reducible apply Keeps.after (kept_ringAbandon _ _)
  | with_reducible apply Keeps.after ((within_setRingX _ _ _).kept) | with_reducible apply Keeps.after (kept_setRb _ _ _ _ ?_) | split
  | (with_reducible apply Keeps.upd; on_goal 2 => rfl) | with_reducible assumption | exact spared_add (by decide)
  | exact spared_add_add (by decide) | decide

theorem kept_trigsDecision (s : State) (d : Nat) (rising : Bool) :
    Keeps s (State.trigsDecision s d rising) := by
  unfold State.trigsDecision
  repeat' first
  | with_reducible apply Keeps.refl | with_reducible assumption | with_reducible apply Keeps.after (kept_fireAtEdge _ _ _)
  | with_reducible apply Keeps.foldl | (with_reducible intro y a h) | split

theorem kept_trigValue (s : State) (n : Nat) (t : Stamp) (v : Word) :
    Keeps s (State.trigValue s n t v) := by
  unfold State.trigValue
  dsimp only
  repeat' first
  | with_reducible apply Keeps.refl | with_reducible assumption | with_reducible apply Keeps.after (kept_fire _ _ _ _ _ _)
  | with_reducible apply Keeps.after ((within_setTrig _ _ _).kept) | split

theorem kept_trigsPeriod (s : State) (c : Nat) (t : Stamp) (val : Nat → Bool → Word) :
    Keeps s (State.trigsPeriod s c t val) := by
  unfold State.trigsPeriod
  repeat' first
  | with_reducible apply Keeps.refl | with_reducible assumption | with_reducible apply Keeps.after (kept_trigValue _ _ _ _)
  | with_reducible apply Keeps.foldl | (with_reducible intro y a h)

theorem kept_trigSample (s : State) (n : Nat) (tap : Nat) (y : Sample) :
    Keeps s (State.trigSample s n tap y) := by
  unfold State.trigSample
  dsimp only
  repeat' first
  | with_reducible apply Keeps.refl | with_reducible assumption | with_reducible apply Keeps.after (kept_fire _ _ _ _ _ _)
  | with_reducible apply Keeps.after ((within_setTrig _ _ _).kept) | split

theorem kept_trigsSample (s : State) (ch : Nat) (tap : Nat) (y : Sample) :
    Keeps s (State.trigsSample s ch tap y) := by
  unfold State.trigsSample
  repeat' first
  | with_reducible apply Keeps.refl | with_reducible assumption | with_reducible apply Keeps.after (kept_trigSample _ _ _ _)
  | with_reducible apply Keeps.foldl | (with_reducible intro y a h)

theorem kept_trigsPin (s : State) (i : Nat) (rising : Bool) (t : Stamp) :
    Keeps s (State.trigsPin s i rising t) := by
  unfold State.trigsPin
  repeat' first
  | with_reducible apply Keeps.refl | with_reducible assumption | with_reducible apply Keeps.after (kept_fireAtEdge _ _ _)
  | with_reducible apply Keeps.foldl | (with_reducible intro y a h) | split

theorem kept_evtAccept (s : State) (i : Nat) (rising : Bool) (ph : Nat) :
    Keeps s (State.evtAccept s i rising ph) := by
  unfold State.evtAccept
  dsimp only
  repeat' first
  | with_reducible apply Keeps.refl | with_reducible assumption | with_reducible apply Keeps.after (kept_bump _ _ ?_)
  | with_reducible apply Keeps.after (kept_publish _ _ ?_) | with_reducible apply Keeps.after (kept_trigsPin _ _ _ _)
  | with_reducible apply Keeps.after (kept_putStamp _ _ _ ?_) | with_reducible apply Keeps.after (kept_setRb _ _ _ _ ?_) | split
  | exact above_add (by decide) | exact above_add_add (by decide) | exact spared_add (by decide)

theorem kept_evtInEdge (s : State) (i : Nat) (rising : Bool) (ph : Nat) (held : Nat) :
    Keeps s (State.evtInEdge s i rising ph held) := by
  unfold State.evtInEdge
  dsimp only
  repeat' first
  | with_reducible apply Keeps.refl | with_reducible assumption | with_reducible apply Keeps.after (kept_bump _ _ ?_)
  | with_reducible apply Keeps.after ((within_setEvtIn _ _ _).kept) | with_reducible apply Keeps.after (kept_evtAccept _ _ _ _) | split
  | exact spared_add (by decide)

theorem kept_trigsPhasor (s : State) (c : Nat) (t : Stamp) (val : Nat → Word) :
    Keeps s (State.trigsPhasor s c t val) := by
  unfold State.trigsPhasor
  repeat' first
  | with_reducible apply Keeps.refl | with_reducible assumption | with_reducible apply Keeps.after (kept_trigValue _ _ _ _)
  | with_reducible apply Keeps.foldl | (with_reducible intro y a h)

theorem kept_recStopped (s : State) :
    Keeps s (State.recStopped s) := by
  unfold State.recStopped
  repeat' first
  | with_reducible apply Keeps.refl | with_reducible apply Keeps.after (kept_setRf _ _ _ _ _ ?_)
  | with_reducible apply Keeps.after (kept_publish _ _ ?_) | with_reducible apply Keeps.after (kept_unready _ _ ?_)
  | with_reducible apply Keeps.after ((within_setRec _ _).kept) | with_reducible apply Keeps.after (kept_setRb _ _ _ _ ?_)
  | (with_reducible apply Keeps.upd; on_goal 2 => rfl) | with_reducible assumption | exact spared_add (by decide)
  | exact spared_add_add (by decide) | decide

theorem kept_recDrop (s : State) (mark : Bool) (frame : Option Stamp) :
    Keeps s (State.recDrop s mark frame) := by
  unfold State.recDrop
  dsimp only
  repeat' first
  | with_reducible apply Keeps.refl | with_reducible assumption | with_reducible apply Keeps.after (kept_bump _ _ ?_)
  | with_reducible apply Keeps.after (kept_flagRaise _ _ _ _ _ ?_ ?_) | with_reducible apply Keeps.after ((within_setRec _ _).kept)
  | split | exact spared_add (by decide) | exact spared_add_add (by decide) | decide

theorem kept_recPush (s : State) (octets : List Byte) (mark : Bool) :
    Keeps s (State.recPush s octets mark) := by
  unfold State.recPush
  repeat' first
  | with_reducible apply Keeps.refl | with_reducible apply Keeps.after (kept_bump _ _ ?_)
  | with_reducible apply Keeps.after ((within_setRec _ _).kept) | with_reducible assumption | exact spared_add (by decide)

theorem kept_recComplete (s : State) :
    Keeps s (State.recComplete s) := by
  unfold State.recComplete
  repeat' first
  | with_reducible apply Keeps.refl | with_reducible apply Keeps.after (kept_ringReturn _ _ _ _)
  | with_reducible apply Keeps.after ((within_hostWrite _ _ _).kept) | with_reducible apply Keeps.after ((within_setRingX _ _ _).kept)
  | with_reducible apply Keeps.after ((within_setRec _ _).kept) | split

theorem kept_recMove (s : State) (i : RecItem) (rest : List RecItem) :
    Keeps s (State.recMove s i rest).1 := by
  unfold State.recMove
  dsimp only
  repeat' first
  | with_reducible apply Keeps.refl | with_reducible assumption | with_reducible apply Keeps.after ((within_setRingX _ _ _).kept)
  | with_reducible apply Keeps.after ((within_setRec _ _).kept) | with_reducible apply Keeps.after (kept_ringExhaust _ _ _)
  | with_reducible apply Keeps.after (kept_recComplete _) | split

theorem kept_recPumpN (x0 : Nat) (s : State) :
    Keeps s (recPumpN x0 s) := by
  induction x0 generalizing s with
  | zero =>
    unfold recPumpN
    first | exact Keeps.refl _ | exact (Keeps.refl _) | (split <;> exact Keeps.refl _)
  | succ n ih =>
    unfold recPumpN
    repeat' first
    | (extract_lets +onlyGivenNames x; first
        | (refine (fun (h : Keeps s x) => ?_) ?_; clear_value x; rotate_left; subst x; rotate_left)
        | (refine (fun (h : Keeps s x.1) => ?_) ?_; clear_value x; rotate_left; subst x; rotate_left)
        | (refine (fun (h : Keeps s x.2) => ?_) ?_; clear_value x; rotate_left; subst x; rotate_left)
        | clear_value x
        | skip)
    | with_reducible apply Keeps.refl | with_reducible assumption | with_reducible apply Keeps.after (kept_recMove _ _ _)
    | with_reducible apply Keeps.after (ih _) | split

theorem kept_recShow (s : State) :
    Keeps s (State.recShow s) := by
  unfold State.recShow
  repeat' first
  | with_reducible apply Keeps.refl | with_reducible apply Keeps.after (kept_setRf _ _ _ _ _ ?_) | with_reducible assumption
  | exact spared_add (by decide) | exact spared_add_add (by decide) | decide

theorem kept_recPump (s : State) :
    Keeps s (State.recPump s) := by
  unfold State.recPump
  repeat' first
  | with_reducible apply Keeps.refl | with_reducible apply Keeps.after (kept_recPumpN _ _)
  | with_reducible apply Keeps.after (kept_recShow _)

theorem kept_recGap (s : State) (next : Stamp) :
    Keeps s (State.recGap s next) := by
  unfold State.recGap
  dsimp only
  repeat' first
  | with_reducible apply Keeps.refl | with_reducible assumption | with_reducible apply Keeps.after (kept_bump _ _ ?_)
  | with_reducible apply Keeps.after (kept_recPush _ _ _) | with_reducible apply Keeps.after ((within_setRec _ _).kept) | split
  | exact spared_add (by decide)

theorem kept_recEmitFrame (s : State) (f : Stamp) (last : Bool) (resync : Bool) :
    Keeps s (State.recEmitFrame s f last resync) := by
  unfold State.recEmitFrame
  repeat' first
  | with_reducible apply Keeps.refl | with_reducible apply Keeps.after (kept_recDrop _ _ _)
  | with_reducible apply Keeps.after (kept_recPush _ _ _) | with_reducible apply Keeps.after ((within_setRec _ _).kept)
  | with_reducible apply Keeps.after (kept_recPump _) | with_reducible apply Keeps.after (kept_recGap _ _) | split

theorem kept_recFrameOut (s : State) (resync : Bool) :
    Keeps s (State.recFrameOut s resync) := by
  unfold State.recFrameOut
  repeat' first
  | with_reducible apply Keeps.refl | with_reducible apply Keeps.after (kept_recStopped _)
  | with_reducible apply Keeps.after ((within_laneTrim _ _).kept) | with_reducible apply Keeps.after (kept_recEmitFrame _ _ _ _)
  | with_reducible apply Keeps.after ((within_setRec _ _).kept) | with_reducible apply Keeps.after (kept_recPump _) | split

theorem kept_recRestart (s : State) (old : Stamp) (now : Stamp) :
    Keeps s (State.recRestart s old now) := by
  unfold State.recRestart
  dsimp only
  repeat' first
  | with_reducible apply Keeps.refl | with_reducible assumption | with_reducible apply Keeps.after ((within_setRec _ _).kept)
  | with_reducible apply Keeps.after (kept_recFrameOut _ _) | with_reducible apply Keeps.foldl | (with_reducible intro y a h) | split
  | (with_reducible apply Keeps.upd; on_goal 2 => rfl)

theorem kept_recResult (s : State) (res : Nat) :
    Keeps s (State.recResult s res) := by
  unfold State.recResult
  repeat' first
  | with_reducible apply Keeps.refl | with_reducible apply Keeps.after (kept_setRf _ _ _ _ _ ?_)
  | with_reducible apply Keeps.after (kept_publish _ _ ?_) | with_reducible apply Keeps.after (kept_setRb _ _ _ _ ?_)
  | with_reducible assumption | exact spared_add (by decide) | exact spared_add_add (by decide) | decide

theorem kept_recStop (s : State) :
    Keeps s (State.recStop s) := by
  unfold State.recStop
  dsimp only
  repeat' first
  | with_reducible apply Keeps.refl | with_reducible assumption | with_reducible apply Keeps.after (kept_recStopped _)
  | with_reducible apply Keeps.after (kept_recResult _ _) | with_reducible apply Keeps.after (kept_unready _ _ ?_)
  | with_reducible apply Keeps.after ((within_setRec _ _).kept) | split | exact spared_add (by decide)
  | exact spared_add_add (by decide) | decide

theorem kept_recStart (s : State) :
    Keeps s (State.recStart s) := by
  unfold State.recStart
  repeat' first
  | with_reducible apply Keeps.refl | with_reducible apply Keeps.after (kept_recResult _ _)
  | with_reducible apply Keeps.after (kept_unready _ _ ?_) | with_reducible apply Keeps.after ((within_setRec _ _).kept)
  | with_reducible apply Keeps.after (kept_setRb _ _ _ _ ?_) | split | (with_reducible apply Keeps.upd; on_goal 2 => rfl)
  | with_reducible assumption | exact spared_add (by decide) | exact spared_add_add (by decide) | decide

theorem kept_recHook (s : State) (off : Nat) (v : Word) :
    Keeps s (State.recHook s off v) := by
  unfold State.recHook
  repeat' first
  | with_reducible apply Keeps.refl | with_reducible apply Keeps.after (kept_recStop _)
  | with_reducible apply Keeps.after (kept_recStart _) | split

theorem kept_markHoldClose (s : State) :
    Keeps s (State.markHoldClose s) := by
  unfold State.markHoldClose
  repeat' first
  | with_reducible apply Keeps.refl | with_reducible apply Keeps.after (kept_bump _ _ ?_)
  | with_reducible apply Keeps.after (kept_recDrop _ _ _) | with_reducible apply Keeps.after (kept_recPush _ _ _)
  | with_reducible apply Keeps.after (kept_recPump _) | with_reducible apply Keeps.after (kept_recGap _ _) | split
  | (with_reducible apply Keeps.upd; on_goal 2 => rfl) | with_reducible assumption | exact spared_add (by decide)

theorem kept_recorderFlush (s : State) :
    Keeps s (State.recorderFlush s) := by
  unfold State.recorderFlush
  repeat' first
  | with_reducible apply Keeps.refl | with_reducible apply Keeps.after (kept_recPump _)
  | with_reducible apply Keeps.after (kept_recComplete _) | split

theorem kept_recorderFrame (s : State) :
    Keeps s (State.recorderFrame s) := by
  unfold State.recorderFrame
  repeat' first
  | with_reducible apply Keeps.refl | with_reducible apply Keeps.after (kept_recFrameOut _ _) | split

theorem kept_detChange (s : State) (c : Nat) (statusBit : Nat) (regOff : Nat) (v : Bool) (flag : Nat) (event : Nat) (evt : Bool) (hoff : Spared regOff) (he : event < 64) :
    Keeps s (State.detChange s c statusBit regOff v flag event evt) := by
  unfold State.detChange
  repeat' first
  | with_reducible apply Keeps.refl | with_reducible apply Keeps.after (kept_raise _ _ _ ?_)
  | with_reducible apply Keeps.after (kept_setRb _ _ _ _ ?_) | split | with_reducible assumption | exact spared_add (by decide)
  | exact spared_add_add (by decide) | decide

theorem kept_detNeu (s : State) (c : Nat) (mean : F64) (vn : F64) :
    Keeps s (State.detNeu s c mean vn) := by
  unfold State.detNeu
  dsimp only
  repeat' first
  | with_reducible apply Keeps.refl | with_reducible assumption | with_reducible apply Keeps.after ((within_setNrg _ _ _).kept)
  | with_reducible apply Keeps.after (kept_detChange _ _ _ _ _ _ _ _ ?_ ?_) | split | exact spared_add (by decide)
  | exact spared_add_add (by decide) | decide

theorem kept_nrgCmdDone (s : State) (res : Nat) (t : Stamp) :
    Keeps s (State.nrgCmdDone s res t) := by
  unfold State.nrgCmdDone
  repeat' first
  | with_reducible apply Keeps.refl | with_reducible apply Keeps.after (kept_setReg _ _ _ ?_)
  | with_reducible apply Keeps.after (kept_setRf _ _ _ _ _ ?_) | with_reducible apply Keeps.after (kept_publish _ _ ?_)
  | with_reducible apply Keeps.after (kept_setRb _ _ _ _ ?_) | with_reducible assumption | exact spared_add (by decide)
  | exact spared_add_add (by decide) | decide

theorem kept_nrgCmdAt (s : State) (c : Nat) (t : Stamp) :
    Keeps s (State.nrgCmdAt s c t) := by
  unfold State.nrgCmdAt
  repeat' first
  | with_reducible apply Keeps.refl | with_reducible apply Keeps.after (kept_nrgCmdDone _ _ _)
  | with_reducible apply Keeps.after ((within_nrgOp _ _ _).kept) | split | (with_reducible apply Keeps.upd; on_goal 2 => rfl)

theorem kept_nrgCmdEnd (s : State) (c : Nat) :
    Keeps s (State.nrgCmdEnd s c) := by
  unfold State.nrgCmdEnd
  repeat' first
  | with_reducible apply Keeps.refl | with_reducible apply Keeps.after (kept_nrgCmdAt _ _ _) | split

theorem kept_nrgBegin (s : State) (c : Nat) (r : NrgRun) :
    Keeps s (State.nrgBegin s c r) := by
  unfold State.nrgBegin
  repeat' first
  | with_reducible apply Keeps.refl | with_reducible apply Keeps.after (kept_setReg _ _ _ ?_)
  | with_reducible apply Keeps.after ((within_setNrg _ _ _).kept) | with_reducible apply Keeps.after (kept_setRb _ _ _ _ ?_)
  | with_reducible assumption | exact spared_add (by decide) | exact spared_add_add (by decide) | decide

theorem kept_nrgOver (s : State) (c : Nat) :
    Keeps s (State.nrgOver s c) := by
  unfold State.nrgOver
  dsimp only
  repeat' first
  | with_reducible apply Keeps.refl | with_reducible apply Keeps.after ((within_setNrg _ _ _).kept)
  | with_reducible apply Keeps.after (kept_nrgCmdEnd _ _) | with_reducible apply Keeps.after (kept_nrgBegin _ _ _) | split

theorem kept_intervalClose (s : State) (c : Nat) (t : Stamp) (extra : Nat) (next : Nat) :
    Keeps s (State.intervalClose s c t extra next) := by
  unfold State.intervalClose
  repeat' first
  | with_reducible apply Keeps.refl | with_reducible apply Keeps.after ((within_setNrg _ _ _).kept)
  | with_reducible apply Keeps.after (kept_postRecord _ _ _ _ _)

theorem kept_nrgStop (s : State) (c : Nat) :
    Keeps s (State.nrgStop s c) := by
  unfold State.nrgStop
  repeat' first
  | with_reducible apply Keeps.refl | with_reducible apply Keeps.after (kept_nrgOver _ _)
  | with_reducible apply Keeps.after (kept_intervalClose _ _ _ _ _)

theorem kept_detSeq (s : State) (c : Nat) (va : C64) (vb : C64) (vc : C64) :
    Keeps s (State.detSeq s c va vb vc) := by
  unfold State.detSeq
  dsimp only
  repeat' first
  | with_reducible apply Keeps.refl | with_reducible assumption | with_reducible apply Keeps.after ((within_setNrg _ _ _).kept)
  | with_reducible apply Keeps.after (kept_detChange _ _ _ _ _ _ _ _ ?_ ?_) | split | exact spared_add (by decide)
  | exact spared_add_add (by decide) | decide

theorem kept_setDir (s : State) (c : Nat) (export_ : Bool) :
    Keeps s (State.setDir s c export_) := by
  unfold State.setDir
  repeat' first
  | with_reducible apply Keeps.refl | with_reducible apply Keeps.after (kept_setRb _ _ _ _ ?_) | with_reducible assumption
  | exact spared_add (by decide) | exact spared_add_add (by decide) | decide

theorem kept_detDir (s : State) (c : Nat) (e : F64) :
    Keeps s (State.detDir s c e) := by
  unfold State.detDir
  dsimp only
  repeat' first
  | with_reducible apply Keeps.refl | with_reducible assumption | with_reducible apply Keeps.after ((within_setNrg _ _ _).kept)
  | with_reducible apply Keeps.after (kept_raise _ _ _ ?_) | with_reducible apply Keeps.after (kept_setDir _ _ _)
  | with_reducible apply Keeps.after (kept_setRb _ _ _ _ ?_) | split | exact spared_add (by decide) | exact spared_add_add (by decide)
  | decide

theorem kept_pulseStep (s : State) (c : Nat) (x : NrgCirc) (gain : Nat → Nat) (n : Nat) :
    Keeps s (State.pulseStep s c x gain n) := by
  unfold State.pulseStep
  dsimp only
  repeat' first
  | with_reducible apply Keeps.refl | with_reducible assumption | with_reducible apply Keeps.after ((within_setPulse _ _ _).kept)
  | with_reducible apply Keeps.after (kept_setRb _ _ _ _ ?_) | split | exact spared_add (by decide) | exact spared_add_add (by decide)
  | decide

theorem kept_account (s : State) (c : Nat) :
    Keeps s (State.account s c) := by
  unfold State.account
  dsimp only
  repeat' first
  | with_reducible apply Keeps.refl | with_reducible assumption | with_reducible apply Keeps.after (kept_detNeu _ _ _ _)
  | with_reducible apply Keeps.after (kept_nrgStop _ _) | with_reducible apply Keeps.after ((within_setNrg _ _ _).kept)
  | with_reducible apply Keeps.after ((within_corrTake _ _).kept) | with_reducible apply Keeps.after (kept_detSeq _ _ _ _ _)
  | with_reducible apply Keeps.after (kept_detDir _ _ _) | with_reducible apply Keeps.after (kept_nrgCmdAt _ _ _)
  | with_reducible apply Keeps.after ((within_addView _ _ _ _).kept) | with_reducible apply Keeps.after (kept_pulseStep _ _ _ _ _)
  | with_reducible apply Keeps.after (kept_trigsPeriod _ _ _ _) | with_reducible apply Keeps.after (kept_bumpWrap _ _ ?_)
  | with_reducible apply Keeps.after (kept_setRb _ _ _ _ ?_) | with_reducible apply Keeps.foldl | (with_reducible intro y a h) | split
  | exact spared_add (by decide) | exact spared_add_add (by decide) | decide

theorem kept_intervalEnd (s : State) (c : Nat) :
    Keeps s (State.intervalEnd s c) := by
  unfold State.intervalEnd
  repeat' first
  | with_reducible apply Keeps.refl | with_reducible apply Keeps.after (kept_flagRaise _ _ _ _ _ ?_ ?_)
  | with_reducible apply Keeps.after (kept_intervalClose _ _ _ _ _) | split | (with_reducible apply Keeps.upd; on_goal 2 => rfl)
  | with_reducible assumption | exact spared_add (by decide) | exact spared_add_add (by decide) | decide

theorem kept_nrgDrain (t : Stamp) (c : Nat) (x2 : Nat) (s : State) :
    Keeps s (State.nrgDrain t c x2 s) := by
  induction x2 generalizing s with
  | zero => exact Keeps.refl _
  | succ n ih =>
    unfold State.nrgDrain
    extract_lets x
    split
    · exact ((kept_intervalEnd _ _)).trans (ih _)
    · split
      · exact ((kept_account _ _)).trans (ih _)
      · exact Keeps.refl _

theorem kept_nrgStep (s : State) (c : Nat) (old : Stamp) (now : Stamp) :
    Keeps s (State.nrgStep s c old now) := by
  unfold State.nrgStep
  dsimp only
  repeat' first
  | with_reducible apply Keeps.refl | with_reducible assumption | with_reducible apply Keeps.after ((within_setNrg _ _ _).kept)
  | with_reducible apply Keeps.after (kept_nrgOver _ _) | with_reducible apply Keeps.after (kept_nrgDrain _ _ _ _)
  | with_reducible apply Keeps.after (kept_nrgCmdEnd _ _) | with_reducible apply Keeps.after (kept_intervalClose _ _ _ _ _) | split

theorem kept_nrgRestart (s : State) (old : Stamp) (now : Stamp) :
    Keeps s (State.nrgRestart s old now) := by
  unfold State.nrgRestart
  dsimp only
  repeat' first
  | with_reducible apply Keeps.refl | with_reducible assumption | with_reducible apply Keeps.after ((within_setNrg _ _ _).kept)
  | with_reducible apply Keeps.after ((within_setPulse _ _ _).kept) | with_reducible apply Keeps.after (kept_nrgStep _ _ _ _)
  | with_reducible apply Keeps.foldl | (with_reducible intro y a h) | (with_reducible apply Keeps.upd; on_goal 2 => rfl)

theorem kept_nrgGo (s : State) :
    Keeps s (State.nrgGo s) := by
  unfold State.nrgGo
  repeat' first
  | with_reducible apply Keeps.refl | with_reducible assumption | with_reducible apply Keeps.after (kept_unready _ _ ?_)
  | with_reducible apply Keeps.after (kept_nrgCmdDone _ _ _) | with_reducible apply Keeps.after ((within_nrgOp _ _ _).kept)
  | with_reducible apply Keeps.foldl | (with_reducible intro y a h) | split | (with_reducible apply Keeps.upd; on_goal 2 => rfl)
  | exact spared_add (by decide) | exact spared_add_add (by decide) | decide

theorem kept_nrgDisable (s : State) (c : Nat) :
    Keeps s (State.nrgDisable s c) := by
  unfold State.nrgDisable
  dsimp only
  repeat' first
  | with_reducible apply Keeps.refl | with_reducible apply Keeps.after (kept_nrgStop _ _)
  | with_reducible apply Keeps.after ((within_setNrg _ _ _).kept) | with_reducible apply Keeps.after (kept_nrgCmdEnd _ _) | split

theorem kept_nrgEnable (s : State) (c : Nat) :
    Keeps s (State.nrgEnable s c) := by
  unfold State.nrgEnable
  dsimp only
  repeat' first
  | with_reducible apply Keeps.refl | with_reducible apply Keeps.after ((within_setNrg _ _ _).kept)
  | with_reducible apply Keeps.after (kept_nrgBegin _ _ _) | split

theorem kept_nrgHook (s : State) (off : Nat) (old : Word) (v : Word) :
    Keeps s (State.nrgHook s off old v) := by
  unfold State.nrgHook
  repeat' first
  | with_reducible apply Keeps.refl | with_reducible apply Keeps.after ((within_setPulse _ _ _).kept)
  | with_reducible apply Keeps.after ((within_corrNote _ _ _).kept) | with_reducible apply Keeps.after (kept_nrgGo _)
  | with_reducible apply Keeps.after (kept_nrgDisable _ _) | with_reducible apply Keeps.after (kept_nrgEnable _ _) | split

theorem kept_nrgEnd (s : State) (c : Nat) :
    Keeps s (State.nrgEnd s c) := by
  unfold State.nrgEnd
  dsimp only
  repeat' first
  | with_reducible apply Keeps.refl | with_reducible assumption | with_reducible apply Keeps.after (kept_nrgStop _ _)
  | with_reducible apply Keeps.after ((within_setNrg _ _ _).kept) | with_reducible apply Keeps.after (kept_nrgDrain _ _ _ _)
  | with_reducible apply Keeps.after (kept_nrgDisable _ _) | split

theorem kept_energyPeriod (s : State) (c : Nat) :
    Keeps s (State.energyPeriod s c) := by
  unfold State.energyPeriod
  dsimp only
  repeat' first
  | with_reducible apply Keeps.refl | with_reducible apply Keeps.after (kept_account _ _) | split

theorem kept_nrgIntervalEnd (s : State) :
    Keeps s (State.nrgIntervalEnd s) := by
  unfold State.nrgIntervalEnd
  repeat' first
  | with_reducible apply Keeps.refl | with_reducible assumption | with_reducible apply Keeps.after (kept_intervalEnd _ _)
  | with_reducible apply Keeps.foldl | (with_reducible intro y a h) | split

theorem kept_acqHealthy (s : State) (c : Nat) :
    Keeps s (State.acqHealthy s c) := by
  unfold State.acqHealthy
  repeat' first
  | with_reducible apply Keeps.refl | with_reducible apply Keeps.after (kept_setRf _ _ _ _ _ ?_)
  | with_reducible apply Keeps.after ((within_faultsClear _ _).kept) | with_reducible assumption | exact spared_add (by decide)

theorem kept_fadeResult (s : State) (res : Nat) (t : Stamp) :
    Keeps s (State.fadeResult s res t) := by
  unfold State.fadeResult
  repeat' first
  | with_reducible apply Keeps.refl | with_reducible apply Keeps.after (kept_setReg _ _ _ ?_)
  | with_reducible apply Keeps.after (kept_setRf _ _ _ _ _ ?_) | with_reducible apply Keeps.after (kept_publish _ _ ?_)
  | with_reducible apply Keeps.after (kept_setRb _ _ _ _ ?_) | with_reducible assumption | exact spared_add (by decide)
  | exact spared_add_add (by decide) | decide

theorem kept_fadeEnd (s : State) (f : Fade) :
    Keeps s (State.fadeEnd s f) := by
  unfold State.fadeEnd
  repeat' first
  | with_reducible apply Keeps.refl | with_reducible assumption | with_reducible apply Keeps.after (kept_flagRaise _ _ _ _ _ ?_ ?_)
  | with_reducible apply Keeps.after (kept_fadeResult _ _ _) | with_reducible apply Keeps.after (kept_setRb _ _ _ _ ?_)
  | with_reducible apply Keeps.foldl | (with_reducible intro y a h) | split | (with_reducible apply Keeps.upd; on_goal 2 => rfl)
  | exact spared_add (by decide) | exact spared_add_add (by decide) | decide

theorem kept_acqHook (s : State) (off : Nat) (old : Word) (v : Word) :
    Keeps s (State.acqHook s off old v) := by
  unfold State.acqHook
  repeat' first
  | with_reducible apply Keeps.refl | with_reducible apply Keeps.after ((within_histClear _).kept)
  | with_reducible apply Keeps.after (kept_setRf _ _ _ _ _ ?_) | with_reducible apply Keeps.after (kept_acqHealthy _ _)
  | with_reducible apply Keeps.after ((within_modStop _ _).kept) | with_reducible apply Keeps.after ((within_phsAfter _ _ _).kept)
  | with_reducible apply Keeps.after (kept_fadeEnd _ _) | with_reducible apply Keeps.after ((within_faultsClear _ _).kept)
  | with_reducible apply Keeps.after ((within_sdlyKeep _ _ _).kept) | with_reducible apply Keeps.after ((within_acqStart _ _ _).kept)
  | split | (with_reducible apply Keeps.upd; on_goal 2 => rfl) | with_reducible assumption | exact spared_add (by decide)

theorem kept_acqModFault (s : State) (ch : Nat) :
    Keeps s (State.acqModFault s ch) := by
  unfold State.acqModFault
  dsimp only
  repeat' first
  | with_reducible apply Keeps.refl | with_reducible assumption | with_reducible apply Keeps.after ((within_setChan _ _ _).kept)
  | with_reducible apply Keeps.after (kept_raise _ _ _ ?_) | with_reducible apply Keeps.after (kept_setRb _ _ _ _ ?_) | split
  | exact spared_add (by decide) | exact spared_add_add (by decide) | decide

theorem kept_acqRestart (s : State) (old : Stamp) :
    Keeps s (State.acqRestart s old) := by
  unfold State.acqRestart
  dsimp only
  repeat' first
  | with_reducible apply Keeps.refl | with_reducible assumption | with_reducible apply Keeps.after ((within_histClear _).kept)
  | with_reducible apply Keeps.after ((within_phsAfter _ _ _).kept) | with_reducible apply Keeps.after (kept_recRestart _ _ _)
  | with_reducible apply Keeps.after (kept_fadeEnd _ _) | with_reducible apply Keeps.after (kept_nrgRestart _ _ _)
  | with_reducible apply Keeps.after (kept_setRb _ _ _ _ ?_) | with_reducible apply Keeps.after ((within_acqStart _ _ _).kept)
  | with_reducible apply Keeps.foldl | (with_reducible intro y a h) | split | exact spared_add (by decide)
  | exact spared_add_add (by decide) | decide

theorem kept_overrange (s : State) (ch : Nat) (c : Chan) (x0 : Int) :
    Keeps s (State.overrange s ch c x0).1 := by
  have hoff : Spared (Reg.ACQ_CIR_STATUS (ch / 8)) := spared_add (by decide)
  unfold State.overrange
  dsimp only
  repeat' first
  | with_reducible apply Keeps.refl | with_reducible apply Keeps.after (kept_setRb _ _ _ _ hoff) | split

theorem kept_fadeNote (s : State) (ch : Nat) (t : Stamp) :
    Keeps s (State.fadeNote s ch t) := by
  unfold State.fadeNote
  repeat' first
  | with_reducible apply Keeps.refl | with_reducible apply Keeps.after (kept_fadeEnd _ _) | split
  | (with_reducible apply Keeps.upd; on_goal 2 => rfl)

theorem kept_deliver (s : State) (ch : Nat) (tap : Nat) (y : Sample) :
    Keeps s (State.deliver s ch tap y) := by
  unfold State.deliver
  dsimp only
  repeat' first
  | with_reducible apply Keeps.refl | with_reducible assumption | with_reducible apply Keeps.after (kept_trigsSample _ _ _ _)
  | with_reducible apply Keeps.after (kept_flagRaise _ _ _ _ _ ?_ ?_) | with_reducible apply Keeps.after ((within_setChan _ _ _).kept)
  | with_reducible apply Keeps.after (kept_fadeNote _ _ _) | with_reducible apply Keeps.after ((within_laneTake _ _ _ _).kept)
  | with_reducible apply Keeps.after (kept_setRb _ _ _ _ ?_) | split | exact spared_add (by decide) | exact spared_add_add (by decide)
  | decide

theorem kept_tap0 (s : State) (ch : Nat) (line : List (Nat × Bool)) :
    Keeps s (State.tap0 s ch line) := by
  unfold State.tap0
  dsimp only
  repeat' first
  | with_reducible apply Keeps.refl | with_reducible assumption | with_reducible apply Keeps.after (kept_bumpBy _ _ _ ?_)
  | with_reducible apply Keeps.after ((within_setChan _ _ _).kept) | with_reducible apply Keeps.after (kept_overrange _ _ _ _)
  | with_reducible apply Keeps.after (kept_deliver _ _ _ _) | split | exact spared_add (by decide)

theorem kept_acqSample (s : State) (ch : Nat) (tap : Nat) (line : List (Nat × Bool)) :
    Keeps s (State.acqSample s ch tap line) := by
  unfold State.acqSample
  dsimp only
  repeat' first
  | with_reducible apply Keeps.refl | with_reducible apply Keeps.after (kept_tap0 _ _ _)
  | with_reducible apply Keeps.after ((within_setChan _ _ _).kept) | with_reducible apply Keeps.after (kept_deliver _ _ _ _) | split

theorem kept_bankSupply (s : State) (b : Nat) (mv : Nat) :
    Keeps s (State.bankSupply s b mv) := by
  unfold State.bankSupply
  repeat' first
  | with_reducible apply Keeps.refl | (with_reducible apply Keeps.upd; on_goal 2 => rfl)

theorem kept_fadeGo (s : State) :
    Keeps s (State.fadeGo s) := by
  unfold State.fadeGo
  dsimp only
  repeat' first
  | with_reducible apply Keeps.refl | with_reducible apply Keeps.after (kept_unready _ _ ?_)
  | with_reducible apply Keeps.after (kept_fadeResult _ _ _) | split | (with_reducible apply Keeps.upd; on_goal 2 => rfl)
  | with_reducible assumption | exact spared_add (by decide) | exact spared_add_add (by decide) | decide

theorem kept_fltHook (s : State) (off : Nat) (old : Word) (v : Word) :
    Keeps s (State.fltHook s off old v) := by
  unfold State.fltHook
  dsimp only
  repeat' first
  | with_reducible apply Keeps.refl | with_reducible apply Keeps.after ((within_scaleKeep _ _ _).kept)
  | with_reducible apply Keeps.after ((within_setChan _ _ _).kept) | with_reducible apply Keeps.after (kept_fadeGo _) | split

theorem kept_channelHealthy (s : State) (ch : Nat) :
    Keeps s (State.channelHealthy s ch) := by
  unfold State.channelHealthy
  dsimp only
  repeat' first
  | with_reducible apply Keeps.refl | with_reducible apply Keeps.after ((within_setChan _ _ _).kept)
  | with_reducible apply Keeps.after (kept_setRb _ _ _ _ ?_) | split | with_reducible assumption | exact spared_add (by decide)

theorem kept_leapPendCheck (s : State) (n : Nat) :
    Keeps s (State.leapPendCheck s n) := by
  unfold State.leapPendCheck
  dsimp only
  repeat' first
  | with_reducible apply Keeps.refl | with_reducible apply Keeps.after (kept_setRb _ _ _ _ ?_) | split | with_reducible assumption
  | exact spared_add (by decide)

theorem kept_setTbState (s : State) (n : Nat) (st : Nat) :
    Keeps s (State.setTbState s n st) := by
  unfold State.setTbState
  repeat' first
  | with_reducible apply Keeps.refl | with_reducible apply Keeps.after (kept_setRf _ _ _ _ _ ?_)
  | with_reducible apply Keeps.after ((within_noteLock _ _ _ _).kept) | with_reducible assumption | exact spared_add (by decide)

theorem kept_tbLock (s : State) (n : Nat) :
    Keeps s (State.tbLock s n) := by
  unfold State.tbLock
  repeat' first
  | with_reducible apply Keeps.refl | with_reducible apply Keeps.after ((within_setTb _ _ _).kept)
  | with_reducible apply Keeps.after (kept_setTbState _ _ _)

theorem kept_applyStep (s : State) (n : Nat) (q : StepReq) :
    Keeps s (State.applyStep s n q) := by
  unfold State.applyStep
  dsimp only
  repeat' first
  | with_reducible apply Keeps.refl | with_reducible assumption | with_reducible apply Keeps.after ((within_bellStep _ _ _).kept)
  | with_reducible apply Keeps.after ((within_setTb _ _ _).kept) | with_reducible apply Keeps.after (kept_flagRaise _ _ _ _ _ ?_ ?_)
  | with_reducible apply Keeps.after ((within_setLockLog _ _ _).kept) | with_reducible apply Keeps.after (kept_leapPendCheck _ _)
  | with_reducible apply Keeps.after (kept_setRb _ _ _ _ ?_) | with_reducible apply Keeps.after (kept_tbLock _ _)
  | with_reducible apply Keeps.after (kept_acqRestart _ _) | split | exact spared_add (by decide) | exact spared_add_add (by decide)
  | decide

theorem kept_mpdSample (s : State) (n : Nat) (v : Nat) :
    Keeps s (State.mpdSample s n v) := by
  unfold State.mpdSample
  dsimp only
  repeat' first
  | with_reducible apply Keeps.refl | with_reducible assumption | with_reducible apply Keeps.after (kept_setReg _ _ _ ?_)
  | with_reducible apply Keeps.after ((within_setTb _ _ _).kept) | with_reducible apply Keeps.after (kept_flagRaise _ _ _ _ _ ?_ ?_)
  | with_reducible apply Keeps.after ((within_divFree _ _ _).kept) | with_reducible apply Keeps.after (kept_setTbState _ _ _) | split
  | exact spared_add (by decide) | exact spared_add_add (by decide) | decide

theorem kept_leapApply (s : State) (n : Nat) :
    Keeps s (State.leapApply s n) := by
  unfold State.leapApply
  dsimp only
  repeat' first
  | with_reducible apply Keeps.refl | with_reducible assumption | with_reducible apply Keeps.after (kept_setRf _ _ _ _ _ ?_)
  | with_reducible apply Keeps.after ((within_setTb _ _ _).kept) | with_reducible apply Keeps.after (kept_setRb _ _ _ _ ?_) | split
  | exact spared_add (by decide)

theorem kept_utcHook (s : State) (n : Nat) (old : Word) :
    Keeps s (State.utcHook s n old) := by
  unfold State.utcHook
  dsimp only
  repeat' first
  | with_reducible apply Keeps.refl | with_reducible assumption | with_reducible apply Keeps.after (kept_setRf _ _ _ _ _ ?_)
  | with_reducible apply Keeps.after (kept_leapPendCheck _ _) | with_reducible apply Keeps.after (kept_leapApply _ _) | split
  | exact spared_add (by decide)

theorem kept_tbEnable (s : State) (n : Nat) :
    Keeps s (State.tbEnable s n) := by
  unfold State.tbEnable
  repeat' first
  | with_reducible apply Keeps.refl | with_reducible apply Keeps.after ((within_setTb _ _ _).kept)
  | with_reducible apply Keeps.after (kept_setTbState _ _ _) | (with_reducible apply Keeps.upd; on_goal 2 => rfl)

theorem kept_tbHoldover (s : State) (n : Nat) :
    Keeps s (State.tbHoldover s n) := by
  unfold State.tbHoldover
  repeat' first
  | with_reducible apply Keeps.refl | with_reducible apply Keeps.after (kept_flagRaise _ _ _ _ _ ?_ ?_)
  | with_reducible apply Keeps.after (kept_setTbState _ _ _) | with_reducible assumption | exact spared_add (by decide)
  | exact spared_add_add (by decide) | decide

theorem kept_tbDisable (s : State) (n : Nat) :
    Keeps s (State.tbDisable s n) := by
  unfold State.tbDisable
  repeat' first
  | with_reducible apply Keeps.refl | with_reducible apply Keeps.after (kept_setRf _ _ _ _ _ ?_)
  | with_reducible apply Keeps.after ((within_setTb _ _ _).kept) | with_reducible apply Keeps.after ((within_noteLock _ _ _ _).kept)
  | with_reducible apply Keeps.after (kept_leapPendCheck _ _) | with_reducible apply Keeps.after (kept_setRb _ _ _ _ ?_) | split
  | (with_reducible apply Keeps.upd; on_goal 2 => rfl) | with_reducible assumption | exact spared_add (by decide)

theorem kept_tbRelease (s : State) (n : Nat) :
    Keeps s (State.tbRelease s n) := by
  unfold State.tbRelease
  repeat' first
  | with_reducible apply Keeps.refl | with_reducible apply Keeps.after ((within_setTb _ _ _).kept)
  | with_reducible apply Keeps.after (kept_tbLock _ _)

theorem kept_tbArm (s : State) (n : Nat) :
    Keeps s (State.tbArm s n) := by
  unfold State.tbArm
  repeat' first
  | with_reducible apply Keeps.refl | with_reducible apply Keeps.after ((within_setTb _ _ _).kept)
  | with_reducible apply Keeps.after (kept_setTbState _ _ _) | with_reducible apply Keeps.after (kept_setRb _ _ _ _ ?_)
  | with_reducible assumption | exact spared_add (by decide)

theorem kept_tbCtrlHook (s : State) (n : Nat) (old : Word) (v : Word) :
    Keeps s (State.tbCtrlHook s n old v) := by
  unfold State.tbCtrlHook
  dsimp only
  repeat' first
  | with_reducible apply Keeps.refl | with_reducible assumption | with_reducible apply Keeps.after (kept_tbEnable _ _)
  | with_reducible apply Keeps.after ((within_setTb _ _ _).kept) | with_reducible apply Keeps.after (kept_tbHoldover _ _)
  | with_reducible apply Keeps.after (kept_tbDisable _ _) | with_reducible apply Keeps.after (kept_tbRelease _ _)
  | with_reducible apply Keeps.after (kept_tbArm _ _) | split

theorem kept_tbRateHook (s : State) (n : Nat) :
    Keeps s (State.tbRateHook s n) := by
  unfold State.tbRateHook
  dsimp only
  repeat' first
  | with_reducible apply Keeps.refl | with_reducible assumption | with_reducible apply Keeps.after ((within_setTb _ _ _).kept)
  | with_reducible apply Keeps.after (kept_tbLock _ _) | split

theorem kept_tbHook (s : State) (off : Nat) (old : Word) (v : Word) :
    Keeps s (State.tbHook s off old v) := by
  unfold State.tbHook
  repeat' first
  | with_reducible apply Keeps.refl | with_reducible apply Keeps.after (kept_mpdSample _ _ _)
  | with_reducible apply Keeps.after ((within_setTb _ _ _).kept) | with_reducible apply Keeps.after (kept_utcHook _ _ _)
  | with_reducible apply Keeps.after (kept_tbCtrlHook _ _ _ _) | with_reducible apply Keeps.after (kept_leapPendCheck _ _)
  | with_reducible apply Keeps.after (kept_tbRateHook _ _) | with_reducible apply Keeps.after ((within_setTsq _ _ _).kept) | split

theorem kept_tbPeriod (s : State) (n : Nat) :
    Keeps s (State.tbPeriod s n) := by
  unfold State.tbPeriod
  repeat' first
  | with_reducible apply Keeps.refl | with_reducible apply Keeps.after ((within_setTb _ _ _).kept)
  | with_reducible apply Keeps.after (kept_applyStep _ _ _) | split

theorem kept_clockPeriod (s : State) :
    Keeps s (State.clockPeriod s) := by
  have hp : ∀ (t : State) (n : Nat), Keeps t { t with now := n } := fun t n => Keeps.upd (Keeps.refl t) rfl
  unfold State.clockPeriod
  exact (kept_tbPeriod _ 3).after ((kept_tbPeriod _ 2).after ((kept_tbPeriod _ 1).after ((kept_tbPeriod _ 0).after
    ((hp _ _).after (within_periodLength s).kept))))

theorem kept_leapExpire (s : State) (n : Nat) :
    Keeps s (State.leapExpire s n) := by
  unfold State.leapExpire
  repeat' first
  | with_reducible apply Keeps.refl | with_reducible apply Keeps.after (kept_setRb _ _ _ _ ?_) | split | with_reducible assumption
  | exact spared_add (by decide)

theorem kept_leapPend (s : State) (n : Nat) :
    Keeps s (State.leapPend s n) := by
  unfold State.leapPend
  dsimp only
  repeat' first
  | with_reducible apply Keeps.refl | with_reducible apply Keeps.after (kept_setRb _ _ _ _ ?_) | split | with_reducible assumption
  | exact spared_add (by decide)

theorem kept_tsqPush (s : State) (p : Nat) (e : TsqEntry) :
    Keeps s (State.tsqPush s p e) := by
  unfold State.tsqPush
  repeat' first
  | with_reducible apply Keeps.refl | with_reducible apply Keeps.after (kept_bump _ _ ?_)
  | with_reducible apply Keeps.after (kept_flagRaise _ _ _ _ _ ?_ ?_) | with_reducible apply Keeps.after ((within_setTsq _ _ _).kept)
  | split | with_reducible assumption | exact spared_add (by decide) | exact spared_add_add (by decide) | decide

theorem kept_tbPllLoss (s : State) (n : Nat) :
    Keeps s (State.tbPllLoss s n) := by
  unfold State.tbPllLoss
  repeat' first
  | with_reducible apply Keeps.refl | with_reducible apply Keeps.after (kept_tbHoldover _ _) | split

theorem kept_pllLoss (s : State) :
    Keeps s (State.pllLoss s) := by
  unfold State.pllLoss
  repeat' first
  | with_reducible apply Keeps.refl | with_reducible apply Keeps.after (kept_setRb _ _ _ _ ?_)
  | with_reducible apply Keeps.after (kept_tbPllLoss _ _) | split | with_reducible assumption | exact spared_add (by decide)
  | exact spared_add_add (by decide) | decide

theorem kept_ppsInAt (s : State) (ph : Nat) (n : Nat) :
    Keeps s (State.ppsInAt s ph n) := by
  unfold State.ppsInAt
  dsimp only
  repeat' first
  | with_reducible apply Keeps.refl | with_reducible assumption | with_reducible apply Keeps.after ((within_setTb _ _ _).kept)
  | with_reducible apply Keeps.after (kept_flagRaise _ _ _ _ _ ?_ ?_) | with_reducible apply Keeps.after (kept_publish _ _ ?_)
  | with_reducible apply Keeps.after (kept_putStamp _ _ _ ?_) | split | exact above_add (by decide) | exact above_add_add (by decide)
  | exact spared_add (by decide) | exact spared_add_add (by decide) | decide

theorem kept_ppsIn (s : State) (rising : Bool) (width : Nat) (ph : Nat) :
    Keeps s (State.ppsIn s rising width ph) := by
  unfold State.ppsIn
  repeat' first
  | with_reducible apply Keeps.refl | with_reducible apply Keeps.after (kept_ppsInAt _ _ _) | split
  | (with_reducible apply Keeps.upd; on_goal 2 => rfl)

theorem kept_rtcCapture (s : State) (n : Nat) :
    Keeps s (State.rtcCapture s n) := by
  unfold State.rtcCapture
  repeat' first
  | with_reducible apply Keeps.refl | with_reducible apply Keeps.after (kept_setReg _ _ _ ?_)
  | with_reducible apply Keeps.after (kept_publish _ _ ?_) | split | with_reducible assumption | exact spared_add (by decide)
  | exact spared_add_add (by decide) | decide

theorem kept_ppsOut (s : State) (n : Nat) :
    Keeps s (State.ppsOut s n) := by
  unfold State.ppsOut
  repeat' first
  | with_reducible apply Keeps.refl | with_reducible apply Keeps.after ((within_setTb _ _ _).kept)
  | with_reducible apply Keeps.after (kept_flagRaise _ _ _ _ _ ?_ ?_) | with_reducible apply Keeps.after (kept_rtcCapture _ _)
  | with_reducible apply Keeps.after (kept_emit _ _ ?_) | split | exact Eq.refl false | with_reducible assumption
  | exact spared_add (by decide) | exact spared_add_add (by decide) | decide

theorem kept_stepApply (s : State) (n : Nat) :
    Keeps s (State.stepApply s n) := by
  unfold State.stepApply
  dsimp only
  repeat' first
  | with_reducible apply Keeps.refl | with_reducible assumption | with_reducible apply Keeps.after (kept_clockPeriod _) | split

theorem kept_tbWatchdog (s : State) (n : Nat) :
    Keeps s (State.tbWatchdog s n) := by
  unfold State.tbWatchdog
  repeat' first
  | with_reducible apply Keeps.refl | with_reducible apply Keeps.after (kept_tbHoldover _ _) | split

theorem kept_macLocks (s : State) (p : Nat) (block : Bool) (fec : Bool) :
    Keeps s (State.macLocks s p block fec) := by
  unfold State.macLocks
  dsimp only
  repeat' first
  | with_reducible apply Keeps.refl | with_reducible assumption | with_reducible apply Keeps.after (kept_flagRaise _ _ _ _ _ ?_ ?_)
  | with_reducible apply Keeps.after (kept_setRb _ _ _ _ ?_) | split | exact spared_add (by decide) | exact spared_add_add (by decide)
  | decide

theorem kept_macHook (s : State) (off : Nat) (v : Word) :
    Keeps s (State.macHook s off v) := by
  unfold State.macHook
  repeat' first
  | with_reducible apply Keeps.refl | with_reducible apply Keeps.after (kept_macLocks _ _ _ _) | split

theorem kept_macCount (s : State) (p : Nat) (k : Nat) (n : Nat) :
    Keeps s (State.macCount s p k n) := by
  unfold State.macCount
  repeat' first
  | with_reducible apply Keeps.refl | with_reducible apply Keeps.after (kept_bumpPair _ _ _ ?_) | exact above_add (by decide)
  | exact above_add_add (by decide)

theorem kept_txError (s : State) (p : Nat) :
    Keeps s (State.txError s p) := by
  unfold State.txError
  repeat' first
  | with_reducible apply Keeps.refl | with_reducible apply Keeps.after (kept_macCount _ _ _ _)
  | with_reducible apply Keeps.after (kept_setRb _ _ _ _ ?_) | with_reducible assumption | exact spared_add (by decide)

theorem kept_txSend (s : State) (p : Nat) (f : List Byte) (ph : Nat) :
    Keeps s (State.txSend s p f ph).1 := by
  unfold State.txSend
  repeat' first
  | with_reducible apply Keeps.refl | with_reducible apply Keeps.after (kept_macCount _ _ _ _)
  | with_reducible apply Keeps.after (kept_emit _ _ ?_) | exact Eq.refl false

theorem kept_txReturn (s : State) (p : Nat) (status : Nat) (extra : Nat) :
    Keeps s (State.txReturn s p status extra) := by
  unfold State.txReturn
  repeat' first
  | with_reducible apply Keeps.refl | with_reducible apply Keeps.after (kept_ringReturn _ _ _ _)
  | with_reducible apply Keeps.after ((within_setRingX _ _ _).kept)

theorem kept_prpSend (s : State) (p : Nat) (source : Nat) (segment : Bool) (f : List Byte) (ph : Nat) :
    Keeps s (State.prpSend s p source segment f ph).1 := by
  unfold State.prpSend
  dsimp only
  repeat' first
  | with_reducible apply Keeps.refl | with_reducible assumption | with_reducible apply Keeps.after (kept_setRf _ _ _ _ _ ?_)
  | with_reducible apply Keeps.after (kept_txError _ _) | with_reducible apply Keeps.after (kept_bump _ _ ?_)
  | with_reducible apply Keeps.after (kept_txSend _ _ _ _) | with_reducible apply Keeps.after ((within_setTx _ _ _).kept) | split
  | exact spared_add (by decide) | exact spared_add_add (by decide)

theorem kept_segSend (s : State) (p : Nat) (j : SegJob) (ph : Nat) :
    Keeps s (State.segSend s p j ph) := by
  unfold State.segSend
  repeat' first
  | with_reducible apply Keeps.refl | with_reducible apply Keeps.after (kept_txError _ _)
  | with_reducible apply Keeps.after (kept_txSend _ _ _ _) | with_reducible apply Keeps.after ((within_setSegJob _ _ _).kept)
  | with_reducible apply Keeps.after (kept_txReturn _ _ _ _) | with_reducible apply Keeps.after (kept_macCount _ _ _ _)
  | with_reducible apply Keeps.after (kept_prpSend _ _ _ _ _ _) | split

theorem kept_rxToRing (s : State) (f : RxFrame) :
    Keeps s (State.rxToRing s f) := by
  unfold State.rxToRing
  repeat' first
  | with_reducible apply Keeps.refl | with_reducible apply Keeps.after (kept_postFrame _ _ _ _)

theorem kept_prpLookup (s : State) (q : Nat) (mac : Nat) (seq : Nat) :
    Keeps s (State.prpLookup s q mac seq).1 := by
  unfold State.prpLookup
  dsimp only
  repeat' first
  | with_reducible apply Keeps.refl | with_reducible assumption | with_reducible apply Keeps.after (kept_setRf _ _ _ _ _ ?_)
  | with_reducible apply Keeps.after (kept_bump _ _ ?_) | with_reducible apply Keeps.after ((within_setPrp _ _ _).kept)
  | with_reducible apply Keeps.after (kept_setRb _ _ _ _ ?_) | split | exact spared_add (by decide) | exact spared_add_add (by decide)

theorem kept_rxPass (s : State) (f : RxFrame) :
    Keeps s (State.rxPass s f) := by
  unfold State.rxPass
  repeat' first
  | with_reducible apply Keeps.refl | with_reducible apply Keeps.after ((within_setRx _ _ _).kept)
  | with_reducible apply Keeps.after (kept_rxToRing _ _) | split

theorem kept_prpFault (s : State) (q : Nat) (lan : Nat) (v : Bool) :
    Keeps s (State.prpFault s q lan v) := by
  unfold State.prpFault
  repeat' first
  | with_reducible apply Keeps.refl | with_reducible apply Keeps.after (kept_flagRaise _ _ _ _ _ ?_ ?_)
  | with_reducible apply Keeps.after (kept_setRb _ _ _ _ ?_) | split | with_reducible assumption | exact spared_add (by decide)
  | exact spared_add_add (by decide) | decide

theorem kept_prpReceive (s : State) (f : RxFrame) :
    Keeps s (State.prpReceive s f) := by
  unfold State.prpReceive
  dsimp only
  repeat' first
  | with_reducible apply Keeps.refl | with_reducible assumption | with_reducible apply Keeps.after (kept_bump _ _ ?_)
  | with_reducible apply Keeps.after (kept_prpLookup _ _ _ _) | with_reducible apply Keeps.after ((within_setPrp _ _ _).kept)
  | with_reducible apply Keeps.after (kept_rxPass _ _) | with_reducible apply Keeps.after (kept_prpFault _ _ _ _) | split
  | exact spared_add (by decide) | exact spared_add_add (by decide)

theorem kept_frameReceive (s : State) (p : Nat) (bs : List Byte) (pcsErr : Bool) (ph : Nat) (full : Bool) :
    Keeps s (State.frameReceive s p bs pcsErr ph full) := by
  unfold State.frameReceive
  dsimp only
  repeat' first
  | with_reducible apply Keeps.refl | with_reducible assumption | with_reducible apply Keeps.after (kept_flagRaise _ _ _ _ _ ?_ ?_)
  | with_reducible apply Keeps.after (kept_prpReceive _ _) | with_reducible apply Keeps.after (kept_macCount _ _ _ _)
  | with_reducible apply Keeps.after (kept_rxPass _ _) | split | exact spared_add (by decide) | exact spared_add_add (by decide)
  | decide

theorem kept_macLinkChange (s : State) (p : Nat) (block : Bool) (fec : Bool) (corr : Nat) (uncorr : Nat) :
    Keeps s (State.macLinkChange s p block fec corr uncorr) := by
  unfold State.macLinkChange
  repeat' first
  | with_reducible apply Keeps.refl | with_reducible apply Keeps.after (kept_macCount _ _ _ _)
  | with_reducible apply Keeps.after (kept_macLocks _ _ _ _) | split

theorem kept_txRing (s : State) (p : Nat) (ph : Nat) :
    Keeps s (State.txRing s p ph) := by
  unfold State.txRing
  dsimp only
  repeat' first
  | with_reducible apply Keeps.refl | with_reducible assumption | with_reducible apply Keeps.after (kept_txError _ _)
  | with_reducible apply Keeps.after (kept_txSend _ _ _ _) | with_reducible apply Keeps.after (kept_tsqPush _ _ _)
  | with_reducible apply Keeps.after (kept_txReturn _ _ _ _) | with_reducible apply Keeps.after (kept_prpSend _ _ _ _ _ _)
  | with_reducible apply Keeps.after (kept_segSend _ _ _ _) | with_reducible apply Keeps.after ((within_setRingX _ _ _).kept) | split

theorem kept_txLost (s : State) (p : Nat) (source : Nat) :
    Keeps s (State.txLost s p source) := by
  unfold State.txLost
  dsimp only
  repeat' first
  | with_reducible apply Keeps.refl | with_reducible assumption | with_reducible apply Keeps.after (kept_txError _ _)
  | with_reducible apply Keeps.after (kept_bump _ _ ?_) | split | exact spared_add (by decide)

theorem kept_txCopy (s : State) (p : Nat) (x : TxFrame) (ph : Nat) :
    Keeps s (State.txCopy s p x ph) := by
  unfold State.txCopy
  repeat' first
  | with_reducible apply Keeps.refl | with_reducible apply Keeps.after (kept_bump _ _ ?_)
  | with_reducible apply Keeps.after (kept_txSend _ _ _ _) | with_reducible apply Keeps.after (kept_macCount _ _ _ _) | split
  | with_reducible assumption | exact spared_add (by decide) | exact spared_add_add (by decide)

theorem kept_txQueued (s : State) (p : Nat) (x : TxFrame) (ph : Nat) :
    Keeps s (State.txQueued s p x ph) := by
  unfold State.txQueued
  dsimp only
  repeat' first
  | with_reducible apply Keeps.refl | with_reducible assumption | with_reducible apply Keeps.after (kept_txLost _ _ _)
  | with_reducible apply Keeps.after (kept_bump _ _ ?_) | with_reducible apply Keeps.after (kept_txSend _ _ _ _)
  | with_reducible apply Keeps.after (kept_txCopy _ _ _ _) | with_reducible apply Keeps.after (kept_prpSend _ _ _ _ _ _)
  | with_reducible apply Keeps.after ((within_setTx _ _ _).kept) | split | exact spared_add (by decide)

theorem kept_macTransmit (s : State) (p : Nat) (ph : Nat) :
    Keeps s (State.macTransmit s p ph) := by
  unfold State.macTransmit
  dsimp only
  repeat' first
  | with_reducible apply Keeps.refl | with_reducible apply Keeps.after (kept_txRing _ _ _)
  | with_reducible apply Keeps.after (kept_txQueued _ _ _ _) | with_reducible apply Keeps.after (kept_segSend _ _ _ _) | split

theorem kept_prpLanFault (s : State) (q : Nat) (lan : Nat) :
    Keeps s (State.prpLanFault s q lan) := by
  unfold State.prpLanFault
  dsimp only
  repeat' first
  | with_reducible apply Keeps.refl | with_reducible apply Keeps.after (kept_prpFault _ _ _ _) | split

theorem kept_t1sReturnN (x0 : Nat) (s : State) :
    Keeps s (t1sReturnN x0 s) := by
  induction x0 generalizing s with
  | zero =>
    unfold t1sReturnN
    first | exact Keeps.refl _ | exact (Keeps.refl _) | (split <;> exact Keeps.refl _)
  | succ n ih =>
    unfold t1sReturnN
    repeat' first
    | with_reducible apply Keeps.refl | with_reducible apply Keeps.after (kept_ringReturn _ _ _ _)
    | with_reducible apply Keeps.after ((within_setRingX _ _ _).kept) | with_reducible apply Keeps.after (ih _) | split
    | (with_reducible apply Keeps.upd; on_goal 2 => rfl)

theorem kept_t1sFinish (s : State) (num : Nat) (status : Nat) :
    Keeps s (State.t1sFinish s num status) := by
  unfold State.t1sFinish
  repeat' first
  | with_reducible apply Keeps.refl | with_reducible apply Keeps.after (kept_t1sReturnN _ _)
  | (with_reducible apply Keeps.upd; on_goal 2 => rfl)

theorem kept_t1sShow (s : State) (g : Nat) :
    Keeps s (State.t1sShow s g) := by
  unfold State.t1sShow
  repeat' first
  | with_reducible apply Keeps.refl | with_reducible apply Keeps.after (kept_setRb _ _ _ _ ?_) | with_reducible assumption
  | exact spared_add (by decide)

theorem kept_t1sNext (s : State) (g : Nat) (status : Nat) (quiet : Nat) :
    Keeps s (State.t1sNext s g status quiet) := by
  unfold State.t1sNext
  dsimp only
  repeat' first
  | with_reducible apply Keeps.refl | with_reducible assumption | with_reducible apply Keeps.after (kept_t1sFinish _ _ _)
  | with_reducible apply Keeps.after (kept_t1sShow _ _) | with_reducible apply Keeps.after ((within_setSegm _ _ _).kept) | split

theorem kept_t1sCount (s : State) (g : Nat) (j : Nat) :
    Keeps s (State.t1sCount s g j) := by
  unfold State.t1sCount
  repeat' first
  | with_reducible apply Keeps.refl | with_reducible apply Keeps.after (kept_bump _ _ ?_) | with_reducible assumption
  | exact spared_add (by decide) | exact spared_add_add (by decide)

theorem kept_t1sSendComplete (s : State) (g : Nat) :
    Keeps s (State.t1sSendComplete s g) := by
  unfold State.t1sSendComplete
  dsimp only
  repeat' first
  | with_reducible apply Keeps.refl | with_reducible apply Keeps.after (kept_t1sNext _ _ _ _)
  | with_reducible apply Keeps.after (kept_t1sCount _ _ _) | with_reducible apply Keeps.after (kept_emit _ _ ?_) | split
  | exact Eq.refl false

theorem kept_t1sJamEnd (s : State) (g : Nat) :
    Keeps s (State.t1sJamEnd s g) := by
  unfold State.t1sJamEnd
  dsimp only
  repeat' first
  | with_reducible apply Keeps.refl | with_reducible apply Keeps.after (kept_flagRaise _ _ _ _ _ ?_ ?_)
  | with_reducible apply Keeps.after (kept_t1sNext _ _ _ _) | with_reducible apply Keeps.after (kept_t1sShow _ _)
  | with_reducible apply Keeps.after ((within_setSegm _ _ _).kept) | with_reducible apply Keeps.after (kept_t1sCount _ _ _) | split
  | with_reducible assumption | exact spared_add (by decide) | exact spared_add_add (by decide) | decide

theorem kept_t1sJams (s : State) :
    Keeps s (State.t1sJams s) := by
  unfold State.t1sJams
  repeat' first
  | with_reducible apply Keeps.refl | with_reducible apply Keeps.after (kept_t1sJamEnd _ _)

theorem kept_t1sBackoffExpiry (s : State) (g : Nat) :
    Keeps s (State.t1sBackoffExpiry s g) := by
  unfold State.t1sBackoffExpiry
  dsimp only
  repeat' first
  | with_reducible apply Keeps.refl | with_reducible apply Keeps.after (kept_t1sShow _ _)
  | with_reducible apply Keeps.after ((within_setSegm _ _ _).kept) | split

theorem kept_t1sCollision (s : State) (g : Nat) (bits : Nat) :
    Keeps s (State.t1sCollision s g bits) := by
  unfold State.t1sCollision
  dsimp only
  repeat' first
  | with_reducible apply Keeps.refl | with_reducible assumption | with_reducible apply Keeps.after (kept_t1sNext _ _ _ _)
  | with_reducible apply Keeps.after (kept_t1sShow _ _) | with_reducible apply Keeps.after ((within_setSegm _ _ _).kept)
  | with_reducible apply Keeps.after (kept_t1sCount _ _ _) | with_reducible apply Keeps.after (kept_setRb _ _ _ _ ?_)
  | with_reducible apply Keeps.after (kept_emit _ _ ?_) | split | exact Eq.refl false | exact spared_add (by decide)

theorem kept_t1sDeferEnd (s : State) (g : Nat) :
    Keeps s (State.t1sDeferEnd s g) := by
  unfold State.t1sDeferEnd
  dsimp only
  repeat' first
  | with_reducible apply Keeps.refl | with_reducible apply Keeps.after (kept_t1sShow _ _)
  | with_reducible apply Keeps.after ((within_setSegm _ _ _).kept) | split

theorem kept_t1sReceive (s : State) (g : Nat) (bs : List Byte) (full : Bool) :
    Keeps s (State.t1sReceive s g bs full) := by
  unfold State.t1sReceive
  dsimp only
  repeat' first
  | with_reducible apply Keeps.refl | with_reducible assumption | with_reducible apply Keeps.after (kept_flagRaise _ _ _ _ _ ?_ ?_)
  | with_reducible apply Keeps.after ((within_t1sHeard _ _).kept) | with_reducible apply Keeps.after (kept_postFrame _ _ _ _)
  | with_reducible apply Keeps.after (kept_t1sCount _ _ _) | split | exact spared_add (by decide) | exact spared_add_add (by decide)
  | decide

theorem kept_t1sTake (s : State) :
    Keeps s (State.t1sTake s) := by
  unfold State.t1sTake
  dsimp only
  repeat' first
  | with_reducible apply Keeps.refl | with_reducible assumption | with_reducible apply Keeps.after (kept_t1sFinish _ _ _)
  | with_reducible apply Keeps.after (kept_t1sShow _ _) | with_reducible apply Keeps.after ((within_setSegm _ _ _).kept)
  | with_reducible apply Keeps.after ((within_setRingX _ _ _).kept) | split | (with_reducible apply Keeps.upd; on_goal 2 => rfl)

theorem kept_seatFrame (s : State) (f : Seated) (ingressNs : Nat) :
    Keeps s (State.seatFrame s f ingressNs) := by
  unfold State.seatFrame
  repeat' first
  | with_reducible apply Keeps.refl | with_reducible apply Keeps.after (kept_setRf _ _ _ _ _ ?_)
  | with_reducible apply Keeps.after (kept_flagRaise _ _ _ _ _ ?_ ?_) | with_reducible apply Keeps.after ((within_setSeat _ _ _).kept)
  | with_reducible apply Keeps.after ((within_setSeatW _ _ _ _).kept) | split | (with_reducible apply Keeps.upd; on_goal 2 => rfl)
  | with_reducible assumption | exact spared_add (by decide) | exact spared_add_add (by decide) | decide

theorem kept_unbind (s : State) (f : Nat) (m : Nat) :
    Keeps s (State.unbind s f m) := by
  unfold State.unbind
  repeat' first
  | with_reducible apply Keeps.refl | with_reducible apply Keeps.after (kept_setRf _ _ _ _ _ ?_)
  | with_reducible apply Keeps.after ((within_setForm _ _ _).kept) | with_reducible assumption | exact spared_add (by decide)

theorem kept_bind (s : State) (f : Nat) (m : Nat) (code : Nat) :
    Keeps s (State.bind s f m code) := by
  unfold State.bind
  repeat' first
  | with_reducible apply Keeps.refl | with_reducible apply Keeps.after (kept_setRf _ _ _ _ _ ?_)
  | with_reducible apply Keeps.after ((within_setForm _ _ _).kept) | with_reducible assumption | exact spared_add (by decide)

theorem kept_putPacket (s : State) (k : Nat) (p : Packet) (seq : Nat) :
    Keeps s (State.putPacket s k p seq) := by
  unfold State.putPacket
  repeat' first
  | with_reducible apply Keeps.refl | with_reducible apply Keeps.after (kept_bump _ _ ?_)
  | with_reducible apply Keeps.after ((within_setLink _ _ _).kept) | with_reducible apply Keeps.after (kept_emit _ _ ?_)
  | exact Eq.refl false | with_reducible assumption | exact spared_add (by decide) | exact spared_add_add (by decide)

theorem kept_sendNow (s : State) (k : Nat) (p : Packet) :
    Keeps s (State.sendNow s k p) := by
  unfold State.sendNow
  repeat' first
  | with_reducible apply Keeps.refl | with_reducible apply Keeps.after ((within_setLink _ _ _).kept)
  | with_reducible apply Keeps.after (kept_putPacket _ _ _ _)

theorem kept_fjlSend (s : State) (q : Nat) (kind : Nat) (hops : Nat) (payload : List Byte) :
    Keeps s (State.fjlSend s q kind hops payload) := by
  unfold State.fjlSend
  dsimp only
  repeat' first
  | with_reducible apply Keeps.refl | with_reducible apply Keeps.after (kept_sendNow _ _ _)
  | with_reducible apply Keeps.after ((within_setLink _ _ _).kept) | split

theorem kept_drainLink (s : State) (k : Nat) (x2 : Nat) :
    Keeps s (State.drainLink s k x2) := by
  induction x2 generalizing s with
  | zero =>
    unfold State.drainLink
    first | exact Keeps.refl _ | exact (Keeps.refl _) | (split <;> exact Keeps.refl _)
  | succ n ih =>
    unfold State.drainLink
    repeat' first
    | (extract_lets +onlyGivenNames x; first
        | (refine (fun (h : Keeps s x) => ?_) ?_; clear_value x; rotate_left; subst x; rotate_left)
        | (refine (fun (h : Keeps s x.1) => ?_) ?_; clear_value x; rotate_left; subst x; rotate_left)
        | (refine (fun (h : Keeps s x.2) => ?_) ?_; clear_value x; rotate_left; subst x; rotate_left)
        | clear_value x
        | skip)
    | with_reducible apply Keeps.refl | with_reducible apply Keeps.after (kept_sendNow _ _ _)
    | with_reducible apply Keeps.after ((within_setLink _ _ _).kept) | with_reducible apply Keeps.after (ih _) | split

theorem kept_sendControl (s : State) (k : Nat) (kind : Nat) (payload : List Byte) :
    Keeps s (State.sendControl s k kind payload) := by
  unfold State.sendControl
  repeat' first
  | with_reducible apply Keeps.refl | with_reducible apply Keeps.after (kept_putPacket _ _ _ _)

theorem kept_keyMiss (s : State) :
    Keeps s (State.keyMiss s) := by
  unfold State.keyMiss
  repeat' first
  | with_reducible apply Keeps.refl | with_reducible apply Keeps.after (kept_bump _ _ ?_) | with_reducible assumption
  | exact spared_add (by decide)

theorem kept_dropCache (s : State) (i : Nat) :
    Keeps s (State.dropCache s i) := by
  unfold State.dropCache
  repeat' first
  | with_reducible apply Keeps.refl | with_reducible assumption | with_reducible apply Keeps.after (kept_setRb _ _ _ _ ?_)
  | with_reducible apply Keeps.foldl | (with_reducible intro y a h) | split | exact spared_add (by decide)
  | exact spared_add_add (by decide) | decide

theorem kept_tagCheck (s : State) (i : Nat) :
    Keeps s (State.tagCheck s i) := by
  unfold State.tagCheck
  dsimp only
  repeat' first
  | with_reducible apply Keeps.refl | with_reducible apply Keeps.after (kept_bump _ _ ?_)
  | with_reducible apply Keeps.after (kept_flagRaise _ _ _ _ _ ?_ ?_) | with_reducible apply Keeps.after ((within_setSlot _ _ _).kept)
  | with_reducible apply Keeps.after (kept_dropCache _ _) | split | with_reducible assumption | exact spared_add (by decide)
  | exact spared_add_add (by decide) | decide

theorem kept_keyFail (s : State) (i : Nat) :
    Keeps s (State.keyFail s i) := by
  unfold State.keyFail
  dsimp only
  repeat' first
  | with_reducible apply Keeps.refl | with_reducible assumption | with_reducible apply Keeps.after (kept_keyMiss _)
  | with_reducible apply Keeps.after (kept_tagCheck _ _) | split

theorem kept_floorAuto (s : State) (version : Nat) :
    Keeps s (State.floorAuto s version) := by
  unfold State.floorAuto
  repeat' first
  | with_reducible apply Keeps.refl | with_reducible apply Keeps.after (kept_setReg _ _ _ ?_) | split | with_reducible assumption
  | exact spared_add (by decide) | exact spared_add_add (by decide) | decide

theorem kept_deriveSlot0 (s : State) :
    Keeps s (State.deriveSlot0 s) := by
  unfold State.deriveSlot0
  repeat' first
  | with_reducible apply Keeps.refl | with_reducible apply Keeps.after ((within_setSlot _ _ _).kept)
  | with_reducible apply Keeps.after (kept_setRb _ _ _ _ ?_) | with_reducible assumption | exact spared_add (by decide)
  | exact spared_add_add (by decide) | decide

theorem kept_tamperImage (s : State) :
    Keeps s (State.tamperImage s) := by
  unfold State.tamperImage
  dsimp only
  repeat' first
  | with_reducible apply Keeps.refl | with_reducible assumption | with_reducible apply Keeps.after (kept_setRf _ _ _ _ _ ?_)
  | with_reducible apply Keeps.after (kept_raise _ _ _ ?_) | with_reducible apply Keeps.after (kept_setRb _ _ _ _ ?_) | split
  | exact spared_add (by decide) | exact spared_add_add (by decide) | decide

theorem kept_keyComplete (s : State) (q : KeyReq) (d : List Byte) (o : KeyOut) (h_o : Keeps s o.st) :
    Keeps s (State.keyComplete s q d o) := by
  unfold State.keyComplete
  exact (kept_ringReturn _ _ _ _).after ((kept_ringReturn _ _ _ _).after ((kept_bump _ _ (by decide)).after
    ((within_hostWrite _ _ _).kept.after h_o)))

theorem kept_keyTampered (s : State) :
    Keeps s (State.keyTampered s) := by
  unfold State.keyTampered
  split
  · exact kept_keyComplete _ _ _ _ (Keeps.refl _)
  · exact Keeps.refl _

theorem kept_tamperHit (s : State) (op : Bool) (bitNo : Nat) :
    Keeps s (State.tamperHit s op bitNo) := by
  unfold State.tamperHit
  repeat' first
  | with_reducible apply Keeps.refl | with_reducible apply Keeps.after (kept_setRf _ _ _ _ _ ?_)
  | with_reducible apply Keeps.after (kept_flagRaise _ _ _ _ _ ?_ ?_) | with_reducible apply Keeps.after (kept_tamperImage _)
  | with_reducible apply Keeps.after (kept_keyTampered _) | with_reducible apply Keeps.after ((within_zeroise _).kept)
  | with_reducible apply Keeps.after (kept_setRb _ _ _ _ ?_) | split | (with_reducible apply Keeps.upd; on_goal 2 => rfl)
  | with_reducible assumption | exact spared_add (by decide) | exact spared_add_add (by decide) | decide

theorem kept_tamperNew (s : State) (op : Bool) (before : Nat) :
    Keeps s (State.tamperNew s op before) := by
  unfold State.tamperNew
  repeat' first
  | with_reducible apply Keeps.refl | with_reducible assumption | with_reducible apply Keeps.after (kept_setRf _ _ _ _ _ ?_)
  | with_reducible apply Keeps.after (kept_tamperHit _ _ _) | with_reducible apply Keeps.foldl | (with_reducible intro y a h) | split
  | exact spared_add (by decide) | exact spared_add_add (by decide) | decide

theorem kept_keyHook (s : State) (off : Nat) (old : Word) (v : Word) :
    Keeps s (State.keyHook s off old v) := by
  unfold State.keyHook
  repeat' first
  | with_reducible apply Keeps.refl | with_reducible apply Keeps.after (kept_setReg _ _ _ ?_)
  | with_reducible apply Keeps.after (kept_deriveSlot0 _) | with_reducible apply Keeps.after (kept_tamperNew _ _ _)
  | with_reducible apply Keeps.after (kept_setRb _ _ _ _ ?_) | split | with_reducible assumption | exact spared_add (by decide)
  | exact spared_add_add (by decide) | decide

theorem kept_keyStart (s : State) :
    Keeps s (State.keyStart s) := by
  unfold State.keyStart
  repeat' first
  | with_reducible apply Keeps.refl | with_reducible apply Keeps.after (kept_tamperImage _)
  | with_reducible apply Keeps.after ((within_setSlot _ _ _).kept) | with_reducible apply Keeps.after (kept_deriveSlot0 _)
  | with_reducible apply Keeps.after ((within_zeroise _).kept) | with_reducible apply Keeps.after (kept_setRb _ _ _ _ ?_) | split
  | (with_reducible apply Keeps.upd; on_goal 2 => rfl) | with_reducible assumption | exact spared_add (by decide)
  | exact spared_add_add (by decide) | decide

theorem kept_keyAonPor (s : State) :
    Keeps s (State.keyAonPor s) := by
  unfold State.keyAonPor
  repeat' first
  | with_reducible apply Keeps.refl | with_reducible apply Keeps.after (kept_resetRegs _ _ _ ?_)
  | (with_reducible apply Keeps.upd; on_goal 2 => rfl) | exact above_add (by decide) | exact above_add_add (by decide) | decide

theorem kept_keyScrub (s : State) (upset : List Nat) :
    Keeps s (State.keyScrub s upset) := by
  unfold State.keyScrub
  dsimp only
  repeat' first
  | with_reducible apply Keeps.refl | with_reducible assumption | with_reducible apply Keeps.after (kept_bump _ _ ?_)
  | with_reducible apply Keeps.after ((within_upsetSlots _ _).kept) | with_reducible apply Keeps.after (kept_tagCheck _ _)
  | with_reducible apply Keeps.foldl | (with_reducible intro y a h) | split | exact spared_add (by decide)

theorem kept_keyServe (s : State) (op : Nat) (f : State → KeyReq → KeyOut) (h_f : ∀ y q, Keeps y (f y q).st) :
    Keeps s (State.keyServe s op f) := by
  unfold State.keyServe
  split
  · extract_lets d q x
    have hx : Keeps s x := Keeps.foldl (fun y a h => (kept_tagCheck y a).after h) (Keeps.refl _)
    split
    · exact Keeps.refl _
    · split
      · exact (kept_keyComplete _ _ _ _ (h_f _ _)).after hx
      · exact kept_ringExhaust _ _ _
  · exact Keeps.refl _

theorem kept_opAttest (s : State) (q : KeyReq) :
    Keeps s (State.opAttest s q).st := by
  unfold State.opAttest
  dsimp only
  repeat' first
  | with_reducible apply Keeps.refl | with_reducible assumption | with_reducible apply Keeps.after (kept_bump _ _ ?_)
  | with_reducible apply Keeps.after ((within_pickMust _ _ _).kept) | split | exact spared_add (by decide)
  | exact spared_add_add (by decide) | decide

theorem kept_opFree (s : State) (q : KeyReq) :
    Keeps s (State.opFree s q).st := by
  unfold State.opFree
  dsimp only
  repeat' first
  | with_reducible apply Keeps.refl | with_reducible assumption | with_reducible apply Keeps.after ((within_setSlot _ _ _).kept)
  | with_reducible apply Keeps.after ((within_pick _ _).kept) | with_reducible apply Keeps.after (kept_dropCache _ _) | split

theorem kept_opRevoke (s : State) (q : KeyReq) :
    Keeps s (State.opRevoke s q).st := by
  unfold State.opRevoke
  dsimp only
  repeat' first
  | with_reducible apply Keeps.refl | with_reducible assumption | with_reducible apply Keeps.after (kept_flagRaise _ _ _ _ _ ?_ ?_)
  | with_reducible apply Keeps.after ((within_setSlot _ _ _).kept) | with_reducible apply Keeps.after ((within_pick _ _).kept)
  | with_reducible apply Keeps.after (kept_dropCache _ _) | with_reducible apply Keeps.foldl | (with_reducible intro y a h) | split
  | (with_reducible apply Keeps.upd; on_goal 2 => rfl) | exact spared_add (by decide) | exact spared_add_add (by decide) | decide

theorem kept_tamperSee (s : State) (pins : Nat) (us : Nat) (mesh : Bool) (op : Bool) :
    Keeps s (State.tamperSee s pins us mesh op) := by
  unfold State.tamperSee
  repeat' first
  | with_reducible apply Keeps.refl | with_reducible apply Keeps.after (kept_tamperNew _ _ _)
  | (with_reducible apply Keeps.upd; on_goal 2 => rfl)

theorem kept_mismatch (s : State) (kind : Nat) (form : Nat) (inst : Nat) (seq : Nat) :
    Keeps s (State.mismatch s kind form inst seq) := by
  unfold State.mismatch
  dsimp only
  repeat' first
  | with_reducible apply Keeps.refl | with_reducible assumption | with_reducible apply Keeps.after (kept_setReg _ _ _ ?_)
  | with_reducible apply Keeps.after (kept_bump _ _ ?_) | with_reducible apply Keeps.after (kept_flagRaise _ _ _ _ _ ?_ ?_)
  | with_reducible apply Keeps.after (kept_publish _ _ ?_) | split | exact spared_add (by decide) | exact spared_add_add (by decide)
  | decide

theorem kept_classDecision (s : State) (k : AnsKey) (a : AnsEntry) (b : AnsEntry) :
    Keeps s (State.classDecision s k a b) := by
  unfold State.classDecision
  repeat' first
  | with_reducible apply Keeps.refl | with_reducible apply Keeps.after (kept_bump _ _ ?_)
  | with_reducible apply Keeps.after (kept_mismatch _ _ _ _ _) | split | (with_reducible apply Keeps.upd; on_goal 2 => rfl)
  | with_reducible assumption | exact spared_add (by decide)

theorem kept_classRoll (s : State) (k : AnsKey) (a : AnsEntry) (b : AnsEntry) :
    Keeps s (State.classRoll s k a b) := by
  unfold State.classRoll
  dsimp only
  repeat' first
  | with_reducible apply Keeps.refl | with_reducible apply Keeps.after (kept_bump _ _ ?_)
  | with_reducible apply Keeps.after (kept_mismatch _ _ _ _ _) | split | with_reducible assumption | exact spared_add (by decide)

theorem kept_ansNote (s : State) (own : Bool) (e : AnsEntry) :
    Keeps s (State.ansNote s own e) := by
  unfold State.ansNote
  repeat' first
  | with_reducible apply Keeps.refl | with_reducible apply Keeps.after (kept_classDecision _ _ _ _)
  | with_reducible apply Keeps.after (kept_bump _ _ ?_) | with_reducible apply Keeps.after (kept_classRoll _ _ _ _) | split
  | (with_reducible apply Keeps.upd; on_goal 2 => rfl) | with_reducible assumption | exact spared_add (by decide)

theorem kept_ansEntry (s : State) (e : AnsEntry) :
    Keeps s (State.ansEntry s e) := by
  unfold State.ansEntry
  repeat' first
  | with_reducible apply Keeps.refl | with_reducible apply Keeps.after (kept_ansNote _ _ _) | split
  | (with_reducible apply Keeps.upd; on_goal 2 => rfl)

theorem kept_ansUse (s : State) :
    Keeps s (State.ansUse s) := by
  unfold State.ansUse
  repeat' first
  | with_reducible apply Keeps.refl | with_reducible apply Keeps.after (kept_keyFail _ _) | split

theorem kept_answerReceive (s : State) (m : List Byte) :
    Keeps s (State.answerReceive s m) := by
  unfold State.answerReceive
  repeat' first
  | with_reducible apply Keeps.refl | with_reducible assumption | with_reducible apply Keeps.after (kept_bump _ _ ?_)
  | with_reducible apply Keeps.after (kept_ansNote _ _ _) | with_reducible apply Keeps.after (kept_ansUse _)
  | with_reducible apply Keeps.after (kept_setRb _ _ _ _ ?_) | with_reducible apply Keeps.foldl | (with_reducible intro y a h) | split
  | (with_reducible apply Keeps.upd; on_goal 2 => rfl) | exact spared_add (by decide) | exact spared_add_add (by decide) | decide

theorem kept_answerSend (s : State) :
    Keeps s (State.answerSend s) := by
  unfold State.answerSend
  repeat' first
  | with_reducible apply Keeps.refl | with_reducible apply Keeps.after (kept_fjlSend _ _ _ _ _)
  | with_reducible apply Keeps.after (kept_ansUse _) | with_reducible apply Keeps.after ((within_sendPorts _ _ _ _).kept)
  | with_reducible apply Keeps.after (kept_setRb _ _ _ _ ?_) | split | (with_reducible apply Keeps.upd; on_goal 2 => rfl)
  | with_reducible assumption | exact spared_add (by decide) | exact spared_add_add (by decide) | decide

theorem kept_awaitExpiry (s : State) :
    Keeps s (State.awaitExpiry s) := by
  unfold State.awaitExpiry
  repeat' first
  | with_reducible apply Keeps.refl | with_reducible apply Keeps.after (kept_bumpBy _ _ _ ?_) | split
  | (with_reducible apply Keeps.upd; on_goal 2 => rfl) | with_reducible assumption | exact spared_add (by decide)

theorem kept_tardyTerms (s : State) (form : Nat) (seq : Nat) (m : Nat) (rc : List Byte) :
    Keeps s (State.tardyTerms s form seq m rc) := by
  unfold State.tardyTerms
  repeat' first
  | with_reducible apply Keeps.refl | with_reducible apply Keeps.after (kept_ansUse _) | split
  | (with_reducible apply Keeps.upd; on_goal 2 => rfl)

theorem kept_peerLost (s : State) :
    Keeps s (State.peerLost s) := by
  unfold State.peerLost
  repeat' first
  | with_reducible apply Keeps.refl | with_reducible apply Keeps.after (kept_flagRaise _ _ _ _ _ ?_ ?_)
  | with_reducible apply Keeps.after (kept_setRb _ _ _ _ ?_) | split | with_reducible assumption | exact spared_add (by decide)
  | exact spared_add_add (by decide) | decide

theorem kept_tardyWindowEnd (s : State) :
    Keeps s (State.tardyWindowEnd s) := by
  unfold State.tardyWindowEnd
  repeat' first
  | with_reducible apply Keeps.refl | with_reducible apply Keeps.after (kept_ansEntry _ _) | split
  | (with_reducible apply Keeps.upd; on_goal 2 => rfl)

theorem kept_setClsState (s : State) (c : Nat) (st : Nat) :
    Keeps s (State.setClsState s c st) := by
  unfold State.setClsState
  repeat' first
  | with_reducible apply Keeps.refl | with_reducible apply Keeps.after (kept_setRf _ _ _ _ _ ?_) | with_reducible assumption
  | exact spared_add (by decide)

theorem kept_showCover (s : State) :
    Keeps s (State.showCover s) := by
  unfold State.showCover
  repeat' first
  | with_reducible apply Keeps.refl | with_reducible assumption | with_reducible apply Keeps.after (kept_setReg _ _ _ ?_)
  | with_reducible apply Keeps.after ((within_noteStarved _).kept) | with_reducible apply Keeps.foldl | (with_reducible intro y a h)
  | exact spared_add (by decide)

theorem kept_showSpares (s : State) (c : Nat) :
    Keeps s (State.showSpares s c) := by
  unfold State.showSpares
  repeat' first
  | with_reducible apply Keeps.refl | with_reducible apply Keeps.after (kept_setRf _ _ _ _ _ ?_) | with_reducible assumption
  | exact spared_add (by decide)

theorem kept_fabFault (s : State) (c : Nat) (phys : Nat) (logical : Nat) (cause : Nat) :
    Keeps s (State.fabFault s c phys logical cause) := by
  unfold State.fabFault
  repeat' first
  | with_reducible apply Keeps.refl | with_reducible apply Keeps.after (kept_setReg _ _ _ ?_)
  | with_reducible apply Keeps.after (kept_flagRaise _ _ _ _ _ ?_ ?_) | with_reducible assumption | exact spared_add (by decide)
  | exact spared_add_add (by decide) | decide

theorem kept_deskLost (s : State) (c : Nat) (p : Nat) (cause : Nat) :
    Keeps s (State.deskLost s c p cause) := by
  unfold State.deskLost
  repeat' first
  | with_reducible apply Keeps.refl | with_reducible apply Keeps.after (kept_fabFault _ _ _ _ _)
  | with_reducible apply Keeps.after (kept_showSpares _ _) | with_reducible apply Keeps.after ((within_setDesk _ _ _ _).kept)
  | with_reducible apply Keeps.after (kept_setRb _ _ _ _ ?_) | with_reducible assumption | exact spared_add (by decide)
  | exact spared_add_add (by decide)

theorem kept_countUe (s : State) (c : Nat) :
    Keeps s (State.countUe s c) := by
  unfold State.countUe
  repeat' first
  | with_reducible apply Keeps.refl | with_reducible apply Keeps.after (kept_bump _ _ ?_)
  | with_reducible apply Keeps.after (kept_fabFault _ _ _ _ _) | with_reducible assumption | exact spared_add (by decide)

theorem kept_coverUe (s : State) (r : CoverRun) :
    Keeps s (State.coverUe s r) := by
  unfold State.coverUe
  repeat' first
  | with_reducible apply Keeps.refl | with_reducible assumption | with_reducible apply Keeps.after (kept_countUe _ _)
  | with_reducible apply Keeps.foldl | (with_reducible intro y a h)

theorem kept_toCover (s : State) (i : Nat) :
    Keeps s (State.toCover s i) := by
  unfold State.toCover
  dsimp only
  repeat' first
  | with_reducible apply Keeps.refl | with_reducible apply Keeps.after ((within_setLesson _ _ _).kept)
  | with_reducible apply Keeps.after (kept_coverUe _ _) | split

theorem kept_putRoom (s : State) (c : Nat) (stuck : List Nat) (r : Room) :
    Keeps s (State.putRoom s c stuck r) := by
  unfold State.putRoom
  repeat' first
  | with_reducible apply Keeps.refl | with_reducible assumption | with_reducible apply Keeps.after ((within_setClassroom _ _ _).kept)
  | with_reducible apply Keeps.after (kept_countUe _ _) | with_reducible apply Keeps.foldl | (with_reducible intro y a h)

theorem kept_runOn (s : State) (i : Nat) (c : Nat) (stuck : List Nat) (lane : Option Nat) :
    Keeps s (State.runOn s i c stuck lane) := by
  unfold State.runOn
  repeat' first
  | with_reducible apply Keeps.refl | with_reducible assumption | with_reducible apply Keeps.after (kept_putRoom _ _ _ _)
  | with_reducible apply Keeps.foldl | (with_reducible intro y a h)

theorem kept_takeRecord (s : State) (c : Nat) (d : Nat) (tag : Nat) (r : Record) :
    Keeps s (State.takeRecord s c d tag r) := by
  unfold State.takeRecord
  repeat' first
  | with_reducible apply Keeps.refl | with_reducible apply Keeps.after (kept_setRf _ _ _ _ _ ?_)
  | with_reducible apply Keeps.after ((within_setClassroom _ _ _).kept) | with_reducible assumption | exact spared_add (by decide)

theorem kept_offerRecord (s : State) (i : Nat) (c : Nat) (d : Nat) (tag : Nat) (stuck : List Nat) :
    Keeps s (State.offerRecord s i c d tag stuck) := by
  unfold State.offerRecord
  dsimp only
  repeat' first
  | with_reducible apply Keeps.refl | with_reducible assumption | with_reducible apply Keeps.after ((within_laneStall _ _ _ _).kept)
  | with_reducible apply Keeps.after (kept_runOn _ _ _ _ _) | with_reducible apply Keeps.after (kept_takeRecord _ _ _ _ _) | split

theorem kept_cardDrain (s : State) (c : Nat) (x2 : Nat) :
    Keeps s (State.cardDrain s c x2) := by
  induction x2 generalizing s with
  | zero => exact Keeps.refl _
  | succ k ih =>
    unfold State.cardDrain
    extract_lets x open_
    split
    · exact Keeps.refl _
    · extract_lets s1 s2
      have h1 : Keeps s s1 := (within_setClassroom _ _ _).kept
      have h2 : Keeps s s2 := by
        unfold s2
        split
        · exact Keeps.after (kept_offerRecord _ _ _ _ _ _) h1
        · exact h1
      exact h2.trans (ih _)

theorem kept_freeBank (s : State) (c : Nat) (lesson : Nat) :
    Keeps s (State.freeBank s c lesson) := by
  unfold State.freeBank
  repeat' first
  | with_reducible apply Keeps.refl | with_reducible apply Keeps.after (kept_setRf _ _ _ _ _ ?_)
  | with_reducible apply Keeps.after ((within_setClassroom _ _ _).kept) | with_reducible apply Keeps.after (kept_cardDrain _ _ _)
  | with_reducible assumption | exact spared_add (by decide)

theorem kept_dropRuns (s : State) (i : Nat) :
    Keeps s (State.dropRuns s i) := by
  unfold State.dropRuns
  repeat' first
  | with_reducible apply Keeps.refl | with_reducible assumption | with_reducible apply Keeps.after (kept_freeBank _ _ _)
  | with_reducible apply Keeps.after ((within_setClassroom _ _ _).kept) | with_reducible apply Keeps.foldl
  | (with_reducible intro y a h)

theorem kept_coverEnter (s : State) (c : Nat) :
    Keeps s (State.coverEnter s c) := by
  unfold State.coverEnter
  repeat' first
  | with_reducible apply Keeps.refl | with_reducible assumption | with_reducible apply Keeps.after (kept_toCover _ _)
  | with_reducible apply Keeps.after ((within_setClassroom _ _ _).kept) | with_reducible apply Keeps.after (kept_showCover _)
  | with_reducible apply Keeps.after (kept_raise _ _ _ ?_) | with_reducible apply Keeps.after (kept_dropRuns _ _)
  | with_reducible apply Keeps.foldl | (with_reducible intro y a h) | split | (with_reducible apply Keeps.upd; on_goal 2 => rfl)
  | exact spared_add (by decide) | exact spared_add_add (by decide) | decide

theorem kept_deskRetire (s : State) (c : Nat) (p : Nat) (cause : Nat) :
    Keeps s (State.deskRetire s c p cause) := by
  unfold State.deskRetire
  dsimp only
  repeat' first
  | with_reducible apply Keeps.refl | with_reducible assumption | with_reducible apply Keeps.after (kept_setClsState _ _ _)
  | with_reducible apply Keeps.after ((within_setClassroom _ _ _).kept) | with_reducible apply Keeps.after (kept_showCover _)
  | with_reducible apply Keeps.after (kept_deskLost _ _ _ _) | with_reducible apply Keeps.after (kept_coverEnter _ _) | split

theorem kept_checkDesks (s : State) (c : Nat) (bad : List Nat) :
    Keeps s (State.checkDesks s c bad) := by
  unfold State.checkDesks
  repeat' first
  | with_reducible apply Keeps.refl | with_reducible assumption | with_reducible apply Keeps.after (kept_deskRetire _ _ _ _)
  | with_reducible apply Keeps.after ((within_setDesk _ _ _ _).kept) | with_reducible apply Keeps.foldl | (with_reducible intro y a h)
  | split

theorem kept_coverExit (s : State) (c : Nat) :
    Keeps s (State.coverExit s c) := by
  unfold State.coverExit
  repeat' first
  | with_reducible apply Keeps.refl | with_reducible apply Keeps.after (kept_showCover _)
  | with_reducible apply Keeps.after (kept_raise _ _ _ ?_) | split | (with_reducible apply Keeps.upd; on_goal 2 => rfl)
  | with_reducible assumption | exact spared_add (by decide) | exact spared_add_add (by decide) | decide

theorem kept_selfCheck (s : State) (c : Nat) (bad : List Nat) :
    Keeps s (State.selfCheck s c bad) := by
  unfold State.selfCheck
  repeat' first
  | with_reducible apply Keeps.refl | with_reducible apply Keeps.after (kept_setRf _ _ _ _ _ ?_)
  | with_reducible apply Keeps.after (kept_showCover _) | with_reducible apply Keeps.after (kept_publish _ _ ?_)
  | with_reducible apply Keeps.after (kept_checkDesks _ _ _) | with_reducible apply Keeps.after (kept_unready _ _ ?_)
  | with_reducible apply Keeps.after (kept_showSpares _ _) | with_reducible apply Keeps.after (kept_setRb _ _ _ _ ?_)
  | with_reducible assumption | exact spared_add (by decide)

theorem kept_cardPublish (s : State) (i : Nat) (r : Roll) (rs : List (Nat × Record)) (ue : Bool) :
    Keeps s (State.cardPublish s i r rs ue) := by
  unfold State.cardPublish
  dsimp only
  repeat' first
  | with_reducible apply Keeps.refl | with_reducible assumption | with_reducible apply Keeps.after (kept_setReg _ _ _ ?_)
  | with_reducible apply Keeps.after (kept_bump _ _ ?_) | with_reducible apply Keeps.after (kept_flagRaise _ _ _ _ _ ?_ ?_)
  | with_reducible apply Keeps.after (kept_publish _ _ ?_) | with_reducible apply Keeps.foldl | (with_reducible intro y a h) | split
  | exact spared_add (by decide) | exact spared_add_add (by decide) | decide

theorem kept_chalkboardUe (s : State) (c : Nat) (tag : Nat) (w : Nat) :
    Keeps s (State.chalkboardUe s c tag w) := by
  unfold State.chalkboardUe
  repeat' first
  | with_reducible apply Keeps.refl | with_reducible assumption | with_reducible apply Keeps.after ((within_setClassroom _ _ _).kept)
  | with_reducible apply Keeps.after (kept_countUe _ _) | with_reducible apply Keeps.foldl | (with_reducible intro y a h) | split

theorem kept_deskWatchdog (s : State) (c : Nat) (p : Nat) (stuck : List Nat) :
    Keeps s (State.deskWatchdog s c p stuck) := by
  unfold State.deskWatchdog
  repeat' first
  | with_reducible apply Keeps.refl | with_reducible apply Keeps.after (kept_deskRetire _ _ _ _) | split

theorem kept_replica (s : State) (c : Nat) (ps : Nat) :
    Keeps s (State.replica s c ps) := by
  unfold State.replica
  repeat' first
  | with_reducible apply Keeps.refl | with_reducible apply Keeps.after (kept_setRf _ _ _ _ _ ?_) | split | with_reducible assumption
  | exact spared_add (by decide)

theorem kept_resultRecord (s : State) (c : Nat) (d : Nat) (tag : Nat) (stuck : List Nat) (ce : Nat) :
    Keeps s (State.resultRecord s c d tag stuck ce) := by
  unfold State.resultRecord
  repeat' first
  | with_reducible apply Keeps.refl | with_reducible apply Keeps.after (kept_offerRecord _ _ _ _ _ _)
  | with_reducible apply Keeps.after (kept_bumpBy _ _ _ ?_) | split | with_reducible assumption | exact spared_add (by decide)

theorem kept_setMap (s : State) (c : Nat) (d : Nat) (p : Nat) :
    Keeps s (State.setMap s c d p) := by
  unfold State.setMap
  repeat' first
  | with_reducible apply Keeps.refl | with_reducible apply Keeps.after (kept_setRf _ _ _ _ _ ?_) | with_reducible assumption
  | exact spared_add (by decide) | exact spared_add_add (by decide)

theorem kept_slateParity (s : State) (c : Nat) (p : Nat) :
    Keeps s (State.slateParity s c p) := by
  unfold State.slateParity
  repeat' first
  | with_reducible apply Keeps.refl | with_reducible apply Keeps.after (kept_deskRetire _ _ _ _) | split

theorem kept_spareCheck (s : State) (bad : List (Nat × Nat)) :
    Keeps s (State.spareCheck s bad) := by
  unfold State.spareCheck
  repeat' first
  | with_reducible apply Keeps.refl | with_reducible assumption | with_reducible apply Keeps.after (kept_deskRetire _ _ _ _)
  | with_reducible apply Keeps.foldl | (with_reducible intro y a h) | split

theorem kept_shareDecisions (s : State) :
    Keeps s (State.shareDecisions s) := by
  unfold State.shareDecisions
  repeat' first
  | with_reducible apply Keeps.refl | with_reducible assumption | with_reducible apply Keeps.after (kept_fjlSend _ _ _ _ _)
  | with_reducible apply Keeps.foldl | (with_reducible intro y a h) | split

theorem kept_pinFollow (s : State) (n : Nat) :
    Keeps s (State.pinFollow s n) := by
  unfold State.pinFollow
  dsimp only
  repeat' first
  | with_reducible apply Keeps.refl | with_reducible assumption | with_reducible apply Keeps.after (kept_setReg _ _ _ ?_)
  | with_reducible apply Keeps.after (kept_bump _ _ ?_) | with_reducible apply Keeps.after (kept_flagRaise _ _ _ _ _ ?_ ?_)
  | with_reducible apply Keeps.after (kept_setRb _ _ _ _ ?_) | split | (with_reducible apply Keeps.upd; on_goal 2 => rfl)
  | exact spared_add (by decide) | exact spared_add_add (by decide) | decide

theorem kept_pinsFollow (s : State) :
    Keeps s (State.pinsFollow s) := by
  unfold State.pinsFollow
  repeat' first
  | with_reducible apply Keeps.refl | with_reducible assumption | with_reducible apply Keeps.after (kept_pinFollow _ _)
  | with_reducible apply Keeps.foldl | (with_reducible intro y a h) | split

theorem kept_setDecisions (s : State) (d : Nat) :
    Keeps s (State.setDecisions s d) := by
  unfold State.setDecisions
  repeat' first
  | with_reducible apply Keeps.refl | with_reducible assumption | with_reducible apply Keeps.after (kept_setReg _ _ _ ?_)
  | with_reducible apply Keeps.foldl | (with_reducible intro y a h) | exact spared_add (by decide)

theorem kept_decisionEdges (s : State) (before : Nat) (after : Nat) :
    Keeps s (State.decisionEdges s before after) := by
  unfold State.decisionEdges
  repeat' first
  | with_reducible apply Keeps.refl | with_reducible assumption | with_reducible apply Keeps.after (kept_trigsDecision _ _ _)
  | with_reducible apply Keeps.foldl | (with_reducible intro y a h) | split

theorem kept_setAbsentBits (s : State) (d : Nat) :
    Keeps s (State.setAbsentBits s d) := by
  unfold State.setAbsentBits
  repeat' first
  | with_reducible apply Keeps.refl | with_reducible assumption | with_reducible apply Keeps.after (kept_setReg _ _ _ ?_)
  | with_reducible apply Keeps.foldl | (with_reducible intro y a h) | exact spared_add (by decide)

theorem kept_showDecisions (s : State) :
    Keeps s (State.showDecisions s) := by
  unfold State.showDecisions
  repeat' first
  | with_reducible apply Keeps.refl | with_reducible apply Keeps.after (kept_shareDecisions _)
  | with_reducible apply Keeps.after (kept_pinsFollow _) | with_reducible apply Keeps.after (kept_setDecisions _ _)
  | with_reducible apply Keeps.after (kept_decisionEdges _ _ _) | with_reducible apply Keeps.after (kept_setAbsentBits _ _) | split

theorem kept_alarmRecord (s : State) (x : RecordOf) :
    Keeps s (State.alarmRecord s x) := by
  unfold State.alarmRecord
  dsimp only
  repeat' first
  | with_reducible apply Keeps.refl | with_reducible assumption | with_reducible apply Keeps.after (kept_bump _ _ ?_)
  | with_reducible apply Keeps.after (kept_postRecord _ _ _ _ _) | with_reducible apply Keeps.after (kept_keyFail _ _)
  | with_reducible apply Keeps.after ((within_sendPorts _ _ _ _).kept) | with_reducible apply Keeps.after (kept_setRb _ _ _ _ ?_)
  | split | exact spared_add (by decide) | exact spared_add_add (by decide) | decide

theorem kept_latchClear (s : State) :
    Keeps s (State.latchClear s) := by
  unfold State.latchClear
  repeat' first
  | with_reducible apply Keeps.refl | with_reducible apply Keeps.after (kept_pinsFollow _)

theorem kept_slackHarvest (s : State) (f : Nat) (l : List SlackRec) :
    Keeps s (State.slackHarvest s f l) := by
  unfold State.slackHarvest
  repeat' first
  | with_reducible apply Keeps.refl | (with_reducible apply Keeps.upd; on_goal 2 => rfl)

theorem kept_slackDone (s : State) (f : Nat) (at_ : Instant) (t : Option Stamp) :
    Keeps s (State.slackDone s f at_ t) := by
  unfold State.slackDone
  repeat' first
  | with_reducible apply Keeps.refl | with_reducible apply Keeps.after (kept_slackHarvest _ _ _)

theorem kept_absenceFollow (s : State) :
    Keeps s (State.absenceFollow s) := by
  unfold State.absenceFollow
  dsimp only
  repeat' first
  | with_reducible apply Keeps.refl | with_reducible assumption | with_reducible apply Keeps.after (kept_showDecisions _)
  | with_reducible apply Keeps.after ((within_setLesson _ _ _).kept) | with_reducible apply Keeps.after (kept_slackDone _ _ _ _)
  | with_reducible apply Keeps.foldl | (with_reducible intro y a h) | split

theorem kept_anaCommit (s : State) :
    Keeps s (State.anaCommit s) := by
  unfold State.anaCommit
  repeat' first
  | with_reducible apply Keeps.refl | with_reducible apply Keeps.after (kept_setReg _ _ _ ?_)
  | with_reducible apply Keeps.after (kept_showDecisions _) | with_reducible apply Keeps.after ((within_setLesson _ _ _).kept)
  | with_reducible apply Keeps.after (kept_publish _ _ ?_) | with_reducible apply Keeps.after (kept_unready _ _ ?_)
  | with_reducible apply Keeps.after (kept_setRb _ _ _ _ ?_) | split | with_reducible assumption | exact spared_add (by decide)
  | exact spared_add_add (by decide) | decide

theorem kept_anaHook (s : State) (off : Nat) :
    Keeps s (State.anaHook s off) := by
  unfold State.anaHook
  dsimp only
  repeat' first
  | with_reducible apply Keeps.refl | with_reducible apply Keeps.after (kept_anaCommit _)
  | with_reducible apply Keeps.after (kept_pinsFollow _) | with_reducible apply Keeps.after (kept_absenceFollow _)
  | with_reducible apply Keeps.after (kept_latchClear _) | split

theorem kept_applyCommit (s : State) (i : Nat) (c : Commit) :
    Keeps s (State.applyCommit s i c) := by
  unfold State.applyCommit
  repeat' first
  | with_reducible apply Keeps.refl | with_reducible apply Keeps.after (kept_setReg _ _ _ ?_)
  | with_reducible apply Keeps.after ((within_setLesson _ _ _).kept) | with_reducible apply Keeps.after ((within_restartTag _ _).kept)
  | split | with_reducible assumption | exact spared_add (by decide)

theorem kept_commitAt (s : State) (i : Nat) (seq : Nat) :
    Keeps s (State.commitAt s i seq) := by
  unfold State.commitAt
  repeat' first
  | with_reducible apply Keeps.refl | with_reducible apply Keeps.after (kept_applyCommit _ _ _) | split

theorem kept_lessonOut (s : State) (i : Nat) (p : Pub) :
    Keeps s (State.lessonOut s i p) := by
  unfold State.lessonOut
  dsimp only
  repeat' first
  | with_reducible apply Keeps.refl | with_reducible assumption | with_reducible apply Keeps.after (kept_setReg _ _ _ ?_)
  | with_reducible apply Keeps.after ((within_hbmWrite _ _ _).kept) | with_reducible apply Keeps.after (kept_postDesc _ _ _)
  | with_reducible apply Keeps.after (kept_publish _ _ ?_) | split | exact spared_add (by decide)

theorem kept_decisionEntry (s : State) (i : Nat) (r : Roll) (skipped : Bool) (ue : Bool) (exc : Nat) (payload : List Byte) :
    Keeps s (State.decisionEntry s i r skipped ue exc payload) := by
  unfold State.decisionEntry
  repeat' first
  | with_reducible apply Keeps.refl | with_reducible apply Keeps.after (kept_ansUse _)
  | with_reducible apply Keeps.after (kept_ansEntry _ _) | split

theorem kept_publishSkip (s : State) (i : Nat) (r : Roll) :
    Keeps s (State.publishSkip s i r) := by
  unfold State.publishSkip
  repeat' first
  | with_reducible apply Keeps.refl | with_reducible apply Keeps.after (kept_commitAt _ _ _)
  | with_reducible apply Keeps.after (kept_bump _ _ ?_) | with_reducible apply Keeps.after ((within_draw _ _).kept)
  | with_reducible apply Keeps.after (kept_lessonOut _ _ _) | with_reducible apply Keeps.after ((within_setLesson _ _ _).kept)
  | with_reducible apply Keeps.after (kept_decisionEntry _ _ _ _ _ _ _) | with_reducible apply Keeps.after (kept_slackDone _ _ _ _)
  | with_reducible apply Keeps.after (kept_bumpWrap _ _ ?_) | with_reducible apply Keeps.after (kept_setRb _ _ _ _ ?_)
  | with_reducible assumption | exact spared_add (by decide) | exact spared_add_add (by decide) | decide

theorem kept_skipRoll (s : State) (i : Nat) (r : Roll) :
    Keeps s (State.skipRoll s i r) := by
  unfold State.skipRoll
  dsimp only
  repeat' first
  | with_reducible apply Keeps.refl | with_reducible apply Keeps.after ((within_setLesson _ _ _).kept)
  | with_reducible apply Keeps.after (kept_publishSkip _ _ _) | split

theorem kept_deliverTo (s : State) (i : Nat) (r : Roll) :
    Keeps s (State.deliverTo s i r) := by
  unfold State.deliverTo
  dsimp only
  repeat' first
  | with_reducible apply Keeps.refl | with_reducible assumption | with_reducible apply Keeps.after (kept_bump _ _ ?_)
  | with_reducible apply Keeps.after ((within_setLesson _ _ _).kept) | with_reducible apply Keeps.after (kept_skipRoll _ _ _) | split
  | exact spared_add (by decide)

theorem kept_slackRelease (s : State) (f : Nat) (at_ : Instant) (n : Nat) (t : Stamp) :
    Keeps s (State.slackRelease s f at_ n t) := by
  unfold State.slackRelease
  repeat' first
  | with_reducible apply Keeps.refl | with_reducible apply Keeps.after (kept_slackHarvest _ _ _)

theorem kept_deliverLessons (s : State) (r : Roll) :
    Keeps s (State.deliverLessons s r) := by
  unfold State.deliverLessons
  repeat' first
  | with_reducible apply Keeps.refl | with_reducible assumption | with_reducible apply Keeps.after (kept_deliverTo _ _ _)
  | with_reducible apply Keeps.after (kept_slackRelease _ _ _ _ _) | with_reducible apply Keeps.foldl | (with_reducible intro y a h)

theorem kept_emptyClass (s : State) (c : Nat) :
    Keeps s (State.emptyClass s c) := by
  unfold State.emptyClass
  repeat' first
  | with_reducible apply Keeps.refl | with_reducible assumption | with_reducible apply Keeps.after (kept_setReg _ _ _ ?_)
  | with_reducible apply Keeps.after (kept_setRf _ _ _ _ _ ?_) | with_reducible apply Keeps.after ((within_setClassroom _ _ _).kept)
  | with_reducible apply Keeps.foldl | (with_reducible intro y a h) | exact spared_add (by decide) | exact spared_add_add (by decide)

theorem kept_unloadFinish (s : State) :
    Keeps s (State.unloadFinish s) := by
  unfold State.unloadFinish
  repeat' first
  | with_reducible apply Keeps.refl | with_reducible assumption | with_reducible apply Keeps.after (kept_setReg _ _ _ ?_)
  | with_reducible apply Keeps.after ((within_dropEntry _ _).kept) | with_reducible apply Keeps.after (kept_coverExit _ _)
  | with_reducible apply Keeps.after (kept_showCover _) | with_reducible apply Keeps.after ((within_setLesson _ _ _).kept)
  | with_reducible apply Keeps.after (kept_publish _ _ ?_) | with_reducible apply Keeps.after (kept_emptyClass _ _)
  | with_reducible apply Keeps.after (kept_raise _ _ _ ?_) | with_reducible apply Keeps.after (kept_absenceFollow _)
  | with_reducible apply Keeps.after (kept_setRb _ _ _ _ ?_) | with_reducible apply Keeps.foldl | (with_reducible intro y a h) | split
  | (with_reducible apply Keeps.upd; on_goal 2 => rfl) | exact spared_add (by decide) | exact spared_add_add (by decide) | decide

theorem kept_freeBanks (s : State) (i : Nat) :
    Keeps s (State.freeBanks s i) := by
  unfold State.freeBanks
  repeat' first
  | with_reducible apply Keeps.refl | with_reducible assumption | with_reducible apply Keeps.after (kept_freeBank _ _ _)
  | with_reducible apply Keeps.foldl | (with_reducible intro y a h)

theorem kept_kindEvents (s : State) (i : Nat) (x : Result) :
    Keeps s (State.kindEvents s i x) := by
  unfold State.kindEvents
  dsimp only
  repeat' first
  | with_reducible apply Keeps.refl | with_reducible assumption | with_reducible apply Keeps.after (kept_bumpBy _ _ _ ?_)
  | with_reducible apply Keeps.after (kept_raise _ _ _ ?_) | with_reducible apply Keeps.after (kept_setRb _ _ _ _ ?_)
  | with_reducible apply Keeps.foldl | (with_reducible intro y a h) | split | dsimp -zeta -zetaHave -zetaUnused only
  | exact spared_add (by decide) | exact spared_add_add (by decide) | decide

theorem kept_lessonBegin (s : State) (i : Nat) :
    Keeps s (State.lessonBegin s i) := by
  unfold State.lessonBegin
  dsimp only
  repeat' first
  | with_reducible apply Keeps.refl | with_reducible assumption | with_reducible apply Keeps.after (kept_commitAt _ _ _)
  | with_reducible apply Keeps.after ((within_setLesson _ _ _).kept) | with_reducible apply Keeps.after ((within_beginRuns _ _ _).kept)
  | with_reducible apply Keeps.after (kept_coverUe _ _) | with_reducible apply Keeps.after (kept_unready _ _ ?_) | split
  | exact spared_add (by decide)

theorem kept_publishEnd (s : State) (i : Nat) :
    Keeps s (State.publishEnd s i) := by
  unfold State.publishEnd
  repeat' first
  | with_reducible apply Keeps.refl | with_reducible assumption | with_reducible apply Keeps.after (kept_unloadFinish _)
  | with_reducible apply Keeps.after (kept_freeBank _ _ _) | with_reducible apply Keeps.after (kept_showDecisions _)
  | with_reducible apply Keeps.after ((within_setLesson _ _ _).kept) | with_reducible apply Keeps.after (kept_publishSkip _ _ _)
  | with_reducible apply Keeps.foldl | (with_reducible intro y a h)

theorem kept_putDecisions (s : State) (i : Nat) (v : Nat) (seq : Nat) :
    Keeps s (State.putDecisions s i v seq) := by
  unfold State.putDecisions
  repeat' first
  | with_reducible apply Keeps.refl | with_reducible apply Keeps.after (kept_shareDecisions _)
  | with_reducible apply Keeps.after (kept_pinsFollow _) | with_reducible apply Keeps.after (kept_setDecisions _ _)
  | with_reducible apply Keeps.after (kept_decisionEdges _ _ _) | split | (with_reducible apply Keeps.upd; on_goal 2 => rfl)

theorem kept_publishOut (s : State) (i : Nat) (b : Begun) (exc : Nat) :
    Keeps s (State.publishOut s i b exc) := by
  unfold State.publishOut
  repeat' first
  | with_reducible apply Keeps.refl | with_reducible apply Keeps.after ((within_draw _ _).kept)
  | with_reducible apply Keeps.after (kept_lessonOut _ _ _) | split

theorem kept_publishRecord (s : State) (i : Nat) (b : Begun) (before : Nat) :
    Keeps s (State.publishRecord s i b before) := by
  unfold State.publishRecord
  dsimp only
  repeat' first
  | with_reducible apply Keeps.refl | with_reducible apply Keeps.after (kept_alarmRecord _ _) | split

theorem kept_publishSet (s : State) (i : Nat) (b : Begun) (rs : List (Nat × Record)) (exc : Nat) :
    Keeps s (State.publishSet s i b rs exc) := by
  unfold State.publishSet
  repeat' first
  | with_reducible apply Keeps.refl | with_reducible apply Keeps.after (kept_cardPublish _ _ _ _ _)
  | with_reducible apply Keeps.after (kept_putDecisions _ _ _ _) | with_reducible apply Keeps.after (kept_decisionEntry _ _ _ _ _ _ _)
  | with_reducible apply Keeps.after (kept_publishOut _ _ _ _) | with_reducible apply Keeps.after (kept_publishRecord _ _ _ _)
  | with_reducible apply Keeps.after (kept_slackDone _ _ _ _) | with_reducible apply Keeps.after (kept_kindEvents _ _ _)

theorem kept_publishHeld (s : State) (i : Nat) (b : Begun) (rs : List (Nat × Record)) (exc : Nat) :
    Keeps s (State.publishHeld s i b rs exc) := by
  unfold State.publishHeld
  repeat' first
  | with_reducible apply Keeps.refl | with_reducible apply Keeps.after (kept_publishSet _ _ _ _ _)
  | with_reducible apply Keeps.after ((within_takeSet _ _ _ _).kept) | with_reducible apply Keeps.after ((within_setLesson _ _ _).kept)
  | with_reducible apply Keeps.after (kept_publishEnd _ _)

theorem kept_publishRoll (s : State) (i : Nat) (b : Begun) (rs : List (Nat × Record)) (exc : Nat) :
    Keeps s (State.publishRoll s i b rs exc) := by
  unfold State.publishRoll
  repeat' first
  | with_reducible apply Keeps.refl | with_reducible apply Keeps.after (kept_publishSet _ _ _ _ _)
  | with_reducible apply Keeps.after ((within_takeSet _ _ _ _).kept) | with_reducible apply Keeps.after ((within_setLesson _ _ _).kept)
  | with_reducible apply Keeps.after (kept_publishEnd _ _) | with_reducible apply Keeps.after ((within_coverCommit _ _).kept)
  | with_reducible apply Keeps.after (kept_freeBanks _ _)

theorem kept_reportCardPublish (s : State) (i : Nat) :
    Keeps s (State.reportCardPublish s i) := by
  unfold State.reportCardPublish
  repeat' first
  | with_reducible apply Keeps.refl | with_reducible apply Keeps.after (kept_bump _ _ ?_)
  | with_reducible apply Keeps.after (kept_publishRoll _ _ _ _ _) | with_reducible apply Keeps.after (kept_publishHeld _ _ _ _ _)
  | split | with_reducible assumption | exact spared_add (by decide)

theorem kept_taskReady (s : State) (i : Nat) :
    Keeps s (State.taskReady s i) := by
  unfold State.taskReady
  repeat' first
  | with_reducible apply Keeps.refl | with_reducible apply Keeps.after (kept_flagRaise _ _ _ _ _ ?_ ?_)
  | with_reducible apply Keeps.after ((within_setTask _ _ _).kept) | split | (with_reducible apply Keeps.upd; on_goal 2 => rfl)
  | with_reducible assumption | exact spared_add (by decide) | exact spared_add_add (by decide) | decide

theorem kept_taskJudge (s : State) (i : Nat) :
    Keeps s (State.taskJudge s i) := by
  unfold State.taskJudge
  repeat' first
  | with_reducible apply Keeps.refl | with_reducible apply Keeps.after (kept_taskReady _ _) | split

theorem kept_orFlags (s : State) (i : Nat) (v : Word) :
    Keeps s (State.orFlags s i v) := by
  unfold State.orFlags
  repeat' first
  | with_reducible apply Keeps.refl | with_reducible apply Keeps.after (kept_taskJudge _ _)
  | with_reducible apply Keeps.after ((within_setTask _ _ _).kept)

theorem kept_setFlags (s : State) (h : Nat) (v : Word) :
    Keeps s (State.setFlags s h v) := by
  unfold State.setFlags
  dsimp only
  repeat' first
  | with_reducible apply Keeps.refl | with_reducible apply Keeps.after (kept_bump _ _ ?_)
  | with_reducible apply Keeps.after (kept_orFlags _ _ _) | split | with_reducible assumption | exact spared_add (by decide)

theorem kept_fireTimer (s : State) (t : Timer) :
    Keeps s (State.fireTimer s t) := by
  unfold State.fireTimer
  repeat' first
  | with_reducible apply Keeps.refl | with_reducible apply Keeps.after (kept_bump _ _ ?_)
  | with_reducible apply Keeps.after (kept_flagRaise _ _ _ _ _ ?_ ?_) | with_reducible apply Keeps.after ((within_disarm _ _).kept)
  | with_reducible apply Keeps.after (kept_setFlags _ _ _) | split | with_reducible assumption | exact spared_add (by decide)
  | exact spared_add_add (by decide) | decide

theorem kept_taskResult (s : State) (code : Nat) (handle : Nat) :
    Keeps s (State.taskResult s code handle) := by
  unfold State.taskResult
  repeat' first
  | with_reducible apply Keeps.refl | with_reducible apply Keeps.after (kept_setReg _ _ _ ?_)
  | with_reducible apply Keeps.after (kept_setRf _ _ _ _ _ ?_) | with_reducible apply Keeps.after (kept_publish _ _ ?_)
  | with_reducible apply Keeps.after (kept_setRb _ _ _ _ ?_) | with_reducible assumption | exact spared_add (by decide)
  | exact spared_add_add (by decide) | decide

theorem kept_taskCreateAt (s : State) (x1 : Option Nat) :
    Keeps s (State.taskCreateAt s x1) := by
  unfold State.taskCreateAt
  dsimp only
  repeat' first
  | with_reducible apply Keeps.refl | with_reducible apply Keeps.after (kept_bump _ _ ?_)
  | with_reducible apply Keeps.after (kept_flagRaise _ _ _ _ _ ?_ ?_) | with_reducible apply Keeps.after ((within_setTask _ _ _).kept)
  | with_reducible apply Keeps.after (kept_taskResult _ _ _) | split | with_reducible assumption | exact spared_add (by decide)
  | exact spared_add_add (by decide) | decide

theorem kept_taskCreate (s : State) :
    Keeps s (State.taskCreate s) := by
  unfold State.taskCreate
  repeat' first
  | with_reducible apply Keeps.refl | with_reducible apply Keeps.after (kept_taskCreateAt _ _)

theorem kept_taskDestroy (s : State) (h : Nat) :
    Keeps s (State.taskDestroy s h) := by
  unfold State.taskDestroy
  repeat' first
  | with_reducible apply Keeps.refl | with_reducible apply Keeps.after ((within_disarm _ _).kept)
  | with_reducible apply Keeps.after ((within_setTask _ _ _).kept) | with_reducible apply Keeps.after (kept_taskResult _ _ _)
  | with_reducible apply Keeps.after ((within_taskFree _ _).kept) | split | (with_reducible apply Keeps.upd; on_goal 2 => rfl)

theorem kept_taskComplete (s : State) (i : Nat) :
    Keeps s (State.taskComplete s i) := by
  unfold State.taskComplete
  dsimp only
  repeat' first
  | with_reducible apply Keeps.refl | with_reducible assumption | with_reducible apply Keeps.after (kept_taskJudge _ _)
  | with_reducible apply Keeps.after ((within_setTask _ _ _).kept) | with_reducible apply Keeps.after ((within_freeFlow _ _).kept)
  | with_reducible apply Keeps.after ((within_taskFree _ _).kept) | split

theorem kept_taskDone (s : State) (h : Nat) :
    Keeps s (State.taskDone s h) := by
  unfold State.taskDone
  dsimp only
  repeat' first
  | with_reducible apply Keeps.refl | with_reducible apply Keeps.after (kept_taskComplete _ _)
  | with_reducible apply Keeps.after (kept_taskResult _ _ _) | split

theorem kept_taskCommand (s : State) :
    Keeps s (State.taskCommand s) := by
  unfold State.taskCommand
  dsimp only
  repeat' first
  | with_reducible apply Keeps.refl | with_reducible assumption | with_reducible apply Keeps.after (kept_taskCreate _)
  | with_reducible apply Keeps.after (kept_taskDestroy _ _) | with_reducible apply Keeps.after (kept_taskDone _ _)
  | with_reducible apply Keeps.after (kept_unready _ _ ?_) | split | exact spared_add (by decide) | exact spared_add_add (by decide)
  | decide

theorem kept_flagSet (s : State) (v : Word) :
    Keeps s (State.flagSet s v) := by
  unfold State.flagSet
  repeat' first
  | with_reducible apply Keeps.refl | with_reducible apply Keeps.after (kept_setFlags _ _ _)

theorem kept_timerResult (s : State) (code : Nat) :
    Keeps s (State.timerResult s code) := by
  unfold State.timerResult
  repeat' first
  | with_reducible apply Keeps.refl | with_reducible apply Keeps.after (kept_setRf _ _ _ _ _ ?_)
  | with_reducible apply Keeps.after (kept_publish _ _ ?_) | with_reducible apply Keeps.after (kept_setRb _ _ _ _ ?_)
  | with_reducible assumption | exact spared_add (by decide) | exact spared_add_add (by decide) | decide

theorem kept_timerDisarm (s : State) :
    Keeps s (State.timerDisarm s) := by
  unfold State.timerDisarm
  repeat' first
  | with_reducible apply Keeps.refl | with_reducible apply Keeps.after ((within_disarm _ _).kept)
  | with_reducible apply Keeps.after (kept_timerResult _ _) | split

theorem kept_timerArm (s : State) :
    Keeps s (State.timerArm s) := by
  unfold State.timerArm
  repeat' first
  | with_reducible apply Keeps.refl | with_reducible apply Keeps.after ((within_disarm _ _).kept)
  | with_reducible apply Keeps.after (kept_timerResult _ _) | split | (with_reducible apply Keeps.upd; on_goal 2 => rfl)

theorem kept_timerCommand (s : State) :
    Keeps s (State.timerCommand s) := by
  unfold State.timerCommand
  dsimp only
  repeat' first
  | with_reducible apply Keeps.refl | with_reducible assumption | with_reducible apply Keeps.after (kept_timerDisarm _)
  | with_reducible apply Keeps.after (kept_unready _ _ ?_) | with_reducible apply Keeps.after (kept_timerArm _) | split
  | exact spared_add (by decide) | exact spared_add_add (by decide) | decide

theorem kept_schHook (s : State) (off : Nat) (old : Word) (v : Word) :
    Keeps s (State.schHook s off old v) := by
  unfold State.schHook
  repeat' first
  | with_reducible apply Keeps.refl | with_reducible apply Keeps.after (kept_taskCommand _)
  | with_reducible apply Keeps.after (kept_flagSet _ _) | with_reducible apply Keeps.after ((within_bellChange _ _).kept)
  | with_reducible apply Keeps.after (kept_timerCommand _) | split

theorem kept_dispatchItem (s : State) (i : Nat) :
    Keeps s (State.dispatchItem s i) := by
  unfold State.dispatchItem
  repeat' first
  | with_reducible apply Keeps.refl | with_reducible apply Keeps.after (kept_bump _ _ ?_)
  | with_reducible apply Keeps.after (kept_postDesc _ _ _) | with_reducible apply Keeps.after ((within_setTask _ _ _).kept) | split
  | (with_reducible apply Keeps.upd; on_goal 2 => rfl) | with_reducible assumption | exact spared_add (by decide)

theorem kept_dispatch (s : State) (sets : List (Nat × Word)) :
    Keeps s (State.dispatch s sets) := by
  unfold State.dispatch
  dsimp only
  repeat' first
  | with_reducible apply Keeps.refl | with_reducible assumption | with_reducible apply Keeps.after (kept_bumpBy _ _ _ ?_)
  | with_reducible apply Keeps.after (kept_dispatchItem _ _) | with_reducible apply Keeps.after (kept_orFlags _ _ _)
  | with_reducible apply Keeps.after (kept_ringExhaust _ _ _) | with_reducible apply Keeps.foldl | (with_reducible intro y a h) | split
  | exact spared_add (by decide)

theorem kept_engineComplete (s : State) (i : Nat) :
    Keeps s (State.engineComplete s i) := by
  unfold State.engineComplete
  repeat' first
  | with_reducible apply Keeps.refl | with_reducible apply Keeps.after (kept_taskComplete _ _) | split

theorem kept_inService (s : State) (c : Nat) (e : List Byte) (fs : List Byte) (m : Memo) :
    Keeps s (State.inService s c e fs m) := by
  unfold State.inService
  repeat' first
  | with_reducible apply Keeps.refl | with_reducible apply Keeps.after (kept_setRf _ _ _ _ _ ?_)
  | with_reducible apply Keeps.after (kept_setClsState _ _ _) | with_reducible apply Keeps.after ((within_setClassroom _ _ _).kept)
  | with_reducible apply Keeps.after ((within_loadMemo _ _ _).kept) | with_reducible assumption | exact spared_add (by decide)

theorem kept_loadDone (s : State) (rd : ImageSource) (h : List Byte) :
    Keeps s (State.loadDone s rd h) := by
  unfold State.loadDone
  dsimp only
  repeat' first
  | with_reducible apply Keeps.refl | with_reducible assumption | with_reducible apply Keeps.after ((within_putEntryZero _ _).kept)
  | with_reducible apply Keeps.after (kept_setReg _ _ _ ?_) | with_reducible apply Keeps.after (kept_showDecisions _)
  | with_reducible apply Keeps.after (kept_inService _ _ _ _ _) | with_reducible apply Keeps.after (kept_floorAuto _ _)
  | with_reducible apply Keeps.after (kept_raise _ _ _ ?_) | with_reducible apply Keeps.after (kept_setRb _ _ _ _ ?_)
  | with_reducible apply Keeps.foldl | (with_reducible intro y a h) | (with_reducible apply Keeps.upd; on_goal 2 => rfl)
  | exact spared_add (by decide) | exact spared_add_add (by decide) | decide

theorem kept_applyList (s : State) (rd : ImageSource) (ok : Bool) :
    Keeps s (State.applyList s rd ok).1 := by
  unfold State.applyList
  repeat' first
  | with_reducible apply Keeps.refl | with_reducible apply Keeps.after (kept_loadFail _ _ _)
  | with_reducible apply Keeps.after (kept_loadDone _ _ _) | with_reducible apply Keeps.after (kept_unconfigure _) | split

theorem kept_imageValues (s : State) :
    Keeps s (State.imageValues s) := by
  unfold State.imageValues
  repeat' first
  | with_reducible apply Keeps.refl | with_reducible assumption | with_reducible apply Keeps.after (kept_setReg _ _ _ ?_)
  | with_reducible apply Keeps.after ((within_addSysTasks _ _).kept) | with_reducible apply Keeps.after ((within_setLesson _ _ _).kept)
  | with_reducible apply Keeps.foldl | (with_reducible intro y a h) | split | exact spared_add (by decide)

theorem kept_applyDevice (s : State) (e : List Byte) (fs : List Byte) :
    Keeps s (State.applyDevice s e fs) := by
  unfold State.applyDevice
  repeat' first
  | with_reducible apply Keeps.refl | with_reducible assumption | with_reducible apply Keeps.after (kept_setReg _ _ _ ?_)
  | with_reducible apply Keeps.after (kept_imageValues _) | with_reducible apply Keeps.foldl | (with_reducible intro y a h) | split
  | (with_reducible apply Keeps.upd; on_goal 2 => rfl) | exact spared_add (by decide)

theorem kept_unconfigure (s : State) :
    Keeps s (State.unconfigure s) := by
  unfold State.unconfigure
  dsimp only
  repeat' first
  | with_reducible apply Keeps.refl | with_reducible assumption | with_reducible apply Keeps.after (kept_setReg _ _ _ ?_)
  | with_reducible apply Keeps.after ((within_setClassroom _ _ _).kept) | with_reducible apply Keeps.after (kept_showDecisions _)
  | with_reducible apply Keeps.after (kept_showCover _) | with_reducible apply Keeps.after (kept_resetRegs _ _ _ ?_)
  | with_reducible apply Keeps.after (kept_setRb _ _ _ _ ?_) | with_reducible apply Keeps.foldl | (with_reducible intro y a h)
  | (with_reducible apply Keeps.upd; on_goal 2 => rfl) | exact above_add (by decide) | exact above_add_add (by decide)
  | exact spared_add (by decide) | exact spared_add_add (by decide) | decide

theorem kept_writeMap (s : State) (c : Nat) (m : List Nat) :
    Keeps s (State.writeMap s c m) := by
  unfold State.writeMap
  repeat' first
  | with_reducible apply Keeps.refl | with_reducible assumption | with_reducible apply Keeps.after (kept_setReg _ _ _ ?_)
  | with_reducible apply Keeps.after (kept_showSpares _ _) | with_reducible apply Keeps.after ((within_setDesk _ _ _ _).kept)
  | with_reducible apply Keeps.foldl | (with_reducible intro y a h) | split | exact spared_add (by decide)
  | exact spared_add_add (by decide)

theorem kept_takeMap (s : State) (c : Nat) (x2 : Option (List Nat)) :
    Keeps s (State.takeMap s c x2).1 := by
  unfold State.takeMap
  repeat' first
  | with_reducible apply Keeps.refl | with_reducible apply Keeps.after (kept_writeMap _ _ _)
  | with_reducible apply Keeps.after (kept_showSpares _ _) | split

theorem kept_configureClass (s : State) (c : Nat) (bad : List Nat) :
    Keeps s (State.configureClass s c bad).1 := by
  unfold State.configureClass
  repeat' first
  | with_reducible apply Keeps.refl | with_reducible apply Keeps.after (kept_takeMap _ _ _)
  | with_reducible apply Keeps.after (kept_checkDesks _ _ _)

theorem kept_writeClasses (desks : List (Nat × Nat)) (x1 : List Nat) (s : State) :
    Keeps s (writeClasses desks x1 s).1 := by
  induction x1 generalizing s with
  | nil =>
    unfold writeClasses
    first | exact Keeps.refl _ | exact (Keeps.refl _) | (split <;> exact Keeps.refl _)
  | cons a l ih =>
    unfold writeClasses
    repeat' first
    | (extract_lets +onlyGivenNames x; first
        | (refine (fun (h : Keeps s x) => ?_) ?_; clear_value x; rotate_left; subst x; rotate_left)
        | (refine (fun (h : Keeps s x.1) => ?_) ?_; clear_value x; rotate_left; subst x; rotate_left)
        | (refine (fun (h : Keeps s x.2) => ?_) ?_; clear_value x; rotate_left; subst x; rotate_left)
        | clear_value x
        | skip)
    | with_reducible apply Keeps.refl | with_reducible assumption | with_reducible apply Keeps.after (kept_configureClass _ _ _)
    | with_reducible apply Keeps.after (ih _) | split

theorem kept_loadFail (s : State) (code : Nat) (sec : Nat) :
    Keeps s (State.loadFail s code sec) := by
  unfold State.loadFail
  repeat' first
  | with_reducible apply Keeps.refl | with_reducible apply Keeps.after (kept_setRf _ _ _ _ _ ?_)
  | with_reducible apply Keeps.after (kept_raise _ _ _ ?_) | with_reducible apply Keeps.after (kept_setRb _ _ _ _ ?_)
  | with_reducible assumption | exact spared_add (by decide) | exact spared_add_add (by decide) | decide

theorem kept_countNoKey (s : State) (rd : ImageSource) (code : Nat) :
    Keeps s (State.countNoKey s rd code) := by
  unfold State.countNoKey
  repeat' first
  | with_reducible apply Keeps.refl | with_reducible apply Keeps.after (kept_keyFail _ _) | split

theorem kept_attemptFail (s : State) (rd : ImageSource) (a : Nat × Nat) :
    Keeps s (State.attemptFail s rd a) := by
  unfold State.attemptFail
  repeat' first
  | with_reducible apply Keeps.refl | with_reducible apply Keeps.after (kept_loadFail _ _ _)
  | with_reducible apply Keeps.after (kept_unconfigure _) | with_reducible apply Keeps.after (kept_countNoKey _ _ _)

theorem kept_classResult (s : State) (code : Nat) (c : Nat) (host : Bool) :
    Keeps s (State.classResult s code c host) := by
  unfold State.classResult
  repeat' first
  | with_reducible apply Keeps.refl | with_reducible apply Keeps.after (kept_setReg _ _ _ ?_)
  | with_reducible apply Keeps.after (kept_publish _ _ ?_) | with_reducible apply Keeps.after (kept_setRb _ _ _ _ ?_) | split
  | with_reducible assumption | exact spared_add (by decide) | exact spared_add_add (by decide) | decide

theorem kept_cacheUe (s : State) (a : Nat) (ue : Option Nat) :
    Keeps s (State.cacheUe s a ue) := by
  unfold State.cacheUe
  repeat' first
  | with_reducible apply Keeps.refl | with_reducible apply Keeps.after (kept_memUe _ _) | split

theorem kept_versionFollow (s : State) (n : Nat) :
    Keeps s (State.versionFollow s n) := by
  unfold State.versionFollow
  dsimp only
  repeat' first
  | with_reducible apply Keeps.refl | with_reducible apply Keeps.after (kept_setReg _ _ _ ?_) | split | with_reducible assumption
  | exact spared_add (by decide) | exact spared_add_add (by decide) | decide

theorem kept_rewriteFail (s : State) (c : Nat) (from_ : Nat) (code : Nat) (host : Bool) :
    Keeps s (State.rewriteFail s c from_ code host) := by
  unfold State.rewriteFail
  repeat' first
  | with_reducible apply Keeps.refl | with_reducible apply Keeps.after (kept_setReg _ _ _ ?_)
  | with_reducible apply Keeps.after (kept_classResult _ _ _ _) | with_reducible apply Keeps.after (kept_setClsState _ _ _)
  | with_reducible apply Keeps.after ((within_setClassroom _ _ _).kept) | with_reducible apply Keeps.after (kept_showCover _)
  | with_reducible apply Keeps.after (kept_raise _ _ _ ?_) | split | with_reducible assumption | exact spared_add (by decide)
  | exact spared_add_add (by decide) | decide

theorem kept_rewriteEnd (s : State) (c : Nat) (e : List Byte) (fs : List Byte) (host : Bool) (lost : Bool) :
    Keeps s (State.rewriteEnd s c e fs host lost) := by
  unfold State.rewriteEnd
  repeat' first
  | with_reducible apply Keeps.refl | with_reducible apply Keeps.after (kept_classResult _ _ _ _)
  | with_reducible apply Keeps.after (kept_setClsState _ _ _) | with_reducible apply Keeps.after ((within_setClassroom _ _ _).kept)
  | with_reducible apply Keeps.after (kept_showDecisions _) | with_reducible apply Keeps.after ((within_putEntry _ _ _ _).kept)
  | with_reducible apply Keeps.after (kept_raise _ _ _ ?_) | split | with_reducible assumption | exact spared_add (by decide)
  | exact spared_add_add (by decide) | decide

theorem kept_rewriteDone (s : State) (c : Nat) (from_ : Nat) (e : List Byte) (fs : List Byte) (keep : Bool) (host : Bool) (late : List (Nat × Nat)) :
    Keeps s (State.rewriteDone s c from_ e fs keep host late) := by
  unfold State.rewriteDone
  repeat' first
  | with_reducible apply Keeps.refl | with_reducible assumption | with_reducible apply Keeps.after (kept_setRf _ _ _ _ _ ?_)
  | with_reducible apply Keeps.after ((within_lessonRestart _ _ _).kept)
  | with_reducible apply Keeps.after ((within_setClassroom _ _ _).kept) | with_reducible apply Keeps.after (kept_inService _ _ _ _ _)
  | with_reducible apply Keeps.after (kept_coverExit _ _) | with_reducible apply Keeps.after (kept_showCover _)
  | with_reducible apply Keeps.after (kept_deskLost _ _ _ _) | with_reducible apply Keeps.after (kept_rewriteEnd _ _ _ _ _ _)
  | with_reducible apply Keeps.after (kept_coverEnter _ _) | with_reducible apply Keeps.foldl | (with_reducible intro y a h) | split
  | exact spared_add (by decide)

theorem kept_rewrite (s : State) (c : Nat) (e : List Byte) (fs : List Byte) (repair : Bool) (x : Mishap) (host : Bool) :
    Keeps s (State.rewrite s c e fs repair x host) := by
  unfold State.rewrite
  dsimp only
  repeat' first
  | with_reducible apply Keeps.refl | with_reducible assumption | with_reducible apply Keeps.after (kept_setClsState _ _ _)
  | with_reducible apply Keeps.after (kept_configureClass _ _ _) | with_reducible apply Keeps.after (kept_coverEnter _ _)
  | with_reducible apply Keeps.after (kept_rewriteFail _ _ _ _ _) | with_reducible apply Keeps.after (kept_rewriteDone _ _ _ _ _ _ _ _)
  | split

theorem kept_classRewrite (s : State) (c : Nat) (n : Nat) (repair : Bool) (x : Mishap) (host : Bool) :
    Keeps s (State.classRewrite s c n repair x host) := by
  unfold State.classRewrite
  dsimp only
  repeat' first
  | with_reducible apply Keeps.refl | with_reducible assumption | with_reducible apply Keeps.after (kept_classResult _ _ _ _)
  | with_reducible apply Keeps.after (kept_cacheUe _ _ _) | with_reducible apply Keeps.after (kept_versionFollow _ _)
  | with_reducible apply Keeps.after (kept_rewrite _ _ _ _ _ _ _) | with_reducible apply Keeps.after (kept_unready _ _ ?_)
  | with_reducible apply Keeps.after (kept_memCe _ _) | with_reducible apply Keeps.foldl | (with_reducible intro y a h) | split
  | exact spared_add (by decide) | exact spared_add_add (by decide) | decide

theorem kept_autoRepair (s : State) (c : Nat) (x : Mishap) :
    Keeps s (State.autoRepair s c x) := by
  unfold State.autoRepair
  repeat' first
  | with_reducible apply Keeps.refl | with_reducible apply Keeps.after (kept_classRewrite _ _ _ _ _ _) | split

theorem kept_readFlash (s : State) (base : Nat) :
    Keeps s (State.readFlash s base) := by
  unfold State.readFlash
  repeat' first
  | with_reducible apply Keeps.refl | with_reducible apply Keeps.after (kept_emit _ _ ?_) | exact Eq.refl false

theorem kept_loaderIdle (s : State) :
    Keeps s (State.loaderIdle s) := by
  unfold State.loaderIdle
  repeat' first
  | with_reducible apply Keeps.refl | with_reducible apply Keeps.after (kept_setRb _ _ _ _ ?_) | with_reducible assumption
  | exact spared_add (by decide) | exact spared_add_add (by decide) | decide

theorem kept_selectReadMode (s : State) :
    Keeps s (State.selectReadMode s) := by
  unfold State.selectReadMode
  repeat' first
  | with_reducible apply Keeps.refl | with_reducible apply Keeps.after (kept_emit _ _ ?_)
  | (with_reducible apply Keeps.upd; on_goal 2 => rfl) | exact Eq.refl false

theorem kept_imageCache (s : State) :
    Keeps s (State.imageCache s) := by
  unfold State.imageCache
  dsimp only
  repeat' first
  | with_reducible apply Keeps.refl | with_reducible assumption | with_reducible apply Keeps.after (kept_setRf _ _ _ _ _ ?_)
  | with_reducible apply Keeps.after (kept_loadFail _ _ _) | with_reducible apply Keeps.after ((within_hbmWrite _ _ _).kept)
  | with_reducible apply Keeps.after (kept_floorAuto _ _) | with_reducible apply Keeps.after (kept_raise _ _ _ ?_)
  | with_reducible apply Keeps.after (kept_countNoKey _ _ _) | with_reducible apply Keeps.after (kept_setRb _ _ _ _ ?_) | split
  | (with_reducible apply Keeps.upd; on_goal 2 => rfl) | exact spared_add (by decide) | exact spared_add_add (by decide) | decide

theorem kept_classUnload (s : State) (c : Nat) :
    Keeps s (State.classUnload s c) := by
  unfold State.classUnload
  repeat' first
  | with_reducible apply Keeps.refl | with_reducible apply Keeps.after (kept_unloadFinish _)
  | with_reducible apply Keeps.after (kept_classResult _ _ _ _) | with_reducible apply Keeps.after (kept_unready _ _ ?_) | split
  | (with_reducible apply Keeps.upd; on_goal 2 => rfl) | with_reducible assumption | exact spared_add (by decide)
  | exact spared_add_add (by decide) | decide

theorem kept_classCommand (s : State) (x : Mishap) :
    Keeps s (State.classCommand s x) := by
  unfold State.classCommand
  dsimp only
  repeat' first
  | with_reducible apply Keeps.refl | with_reducible apply Keeps.after (kept_classUnload _ _)
  | with_reducible apply Keeps.after (kept_classRewrite _ _ _ _ _ _) | split

theorem kept_framerSend (s : State) (o : Nat) (r : Roll) :
    Keeps s (State.framerSend s o r) := by
  unfold State.framerSend
  dsimp only
  repeat' first
  | with_reducible apply Keeps.refl | with_reducible assumption | with_reducible apply Keeps.after (kept_bump _ _ ?_)
  | with_reducible apply Keeps.after ((within_txQueue _ _ _ _).kept) | with_reducible apply Keeps.after (kept_bumpWrap _ _ ?_)
  | with_reducible apply Keeps.after (kept_keyFail _ _) | with_reducible apply Keeps.after (kept_setRb _ _ _ _ ?_)
  | with_reducible apply Keeps.foldl | (with_reducible intro y a h) | split | exact spared_add (by decide)
  | exact spared_add_add (by decide) | decide

theorem kept_framer (s : State) (r : Roll) :
    Keeps s (State.framer s r) := by
  unfold State.framer
  repeat' first
  | with_reducible apply Keeps.refl | with_reducible assumption | with_reducible apply Keeps.after (kept_framerSend _ _ _)
  | with_reducible apply Keeps.foldl | (with_reducible intro y a h) | split

theorem kept_answerRoll (s : State) (f : Nat) (p : FormPar) (i : Instant) (stopped : Bool) (present : Nat) (d : List Byte × List Byte) :
    Keeps s (State.answerRoll s f p i stopped present d) := by
  unfold State.answerRoll
  repeat' first
  | with_reducible apply Keeps.refl | with_reducible apply Keeps.after (kept_ansEntry _ _) | split
  | (with_reducible apply Keeps.upd; on_goal 2 => rfl)

theorem kept_moveApply (s : State) (code : Nat) :
    Keeps s (State.moveApply s code) := by
  unfold State.moveApply
  repeat' first
  | with_reducible apply Keeps.refl | with_reducible apply Keeps.after (kept_unbind _ _ _)
  | with_reducible apply Keeps.after ((within_setSeat _ _ _).kept) | with_reducible apply Keeps.after ((within_setSeatW _ _ _ _).kept)
  | split

theorem kept_movesAt (s : State) (f : Nat) (sec : Nat) :
    Keeps s (State.movesAt s f sec) := by
  unfold State.movesAt
  repeat' first
  | with_reducible apply Keeps.refl | with_reducible assumption | with_reducible apply Keeps.after (kept_moveApply _ _)
  | with_reducible apply Keeps.foldl | (with_reducible intro y a h) | split

theorem kept_showOpen (s : State) (f : Nat) :
    Keeps s (State.showOpen s f) := by
  unfold State.showOpen
  repeat' first
  | with_reducible apply Keeps.refl | with_reducible apply Keeps.after (kept_setRf _ _ _ _ _ ?_) | with_reducible assumption
  | exact spared_add (by decide) | exact spared_add_add (by decide) | decide

theorem kept_retimeApply (s : State) (f : Nat) :
    Keeps s (State.retimeApply s f) := by
  unfold State.retimeApply
  dsimp only
  repeat' first
  | with_reducible apply Keeps.refl | with_reducible apply Keeps.after (kept_setRf _ _ _ _ _ ?_)
  | with_reducible apply Keeps.after ((within_setForm _ _ _).kept) | split | with_reducible assumption | exact spared_add (by decide)

theorem kept_retimeAt (s : State) (f : Nat) (sec : Nat) :
    Keeps s (State.retimeAt s f sec) := by
  unfold State.retimeAt
  repeat' first
  | with_reducible apply Keeps.refl | with_reducible apply Keeps.after (kept_retimeApply _ _) | split

theorem kept_closeRoll (s : State) (f : Nat) (i : Instant) (stopped : Bool) (late : Bool) :
    Keeps s (State.closeRoll s f i stopped late).2 := by
  unfold State.closeRoll
  repeat' first
  | with_reducible apply Keeps.refl | with_reducible apply Keeps.after (kept_setReg _ _ _ ?_)
  | with_reducible apply Keeps.after (kept_bump _ _ ?_) | with_reducible apply Keeps.after (kept_movesAt _ _ _)
  | with_reducible apply Keeps.after ((within_setForm _ _ _).kept) | with_reducible apply Keeps.after (kept_showOpen _ _)
  | with_reducible apply Keeps.after (kept_ansUse _) | with_reducible apply Keeps.after ((within_openImage _ _ _ _).kept)
  | with_reducible apply Keeps.after (kept_retimeAt _ _ _) | with_reducible apply Keeps.after (kept_answerRoll _ _ _ _ _ _ _)
  | with_reducible apply Keeps.after ((within_completeImage _ _ _ _ _ _ _ _).kept) | split | with_reducible assumption
  | exact spared_add (by decide)

theorem kept_gapClose (s : State) (f : Nat) :
    Keeps s (State.gapClose s f).2 := by
  unfold State.gapClose
  repeat' first
  | with_reducible apply Keeps.refl | with_reducible assumption | with_reducible apply Keeps.after ((within_setForm _ _ _).kept)
  | with_reducible apply Keeps.after (kept_closeRoll _ _ _ _ _) | with_reducible apply Keeps.foldl_snd | (with_reducible intro y a h)
  | split

theorem kept_seatResult (s : State) (res : Nat) :
    Keeps s (State.seatResult s res) := by
  unfold State.seatResult
  repeat' first
  | with_reducible apply Keeps.refl | with_reducible apply Keeps.after (kept_setRf _ _ _ _ _ ?_)
  | with_reducible apply Keeps.after (kept_publish _ _ ?_) | with_reducible apply Keeps.after (kept_setRb _ _ _ _ ?_)
  | with_reducible assumption | exact spared_add (by decide) | exact spared_add_add (by decide) | decide

theorem kept_uninstall (s : State) (code : Nat) :
    Keeps s (State.uninstall s code) := by
  unfold State.uninstall
  repeat' first
  | with_reducible apply Keeps.refl | with_reducible apply Keeps.after (kept_unbind _ _ _)
  | with_reducible apply Keeps.after (kept_setRf _ _ _ _ _ ?_) | with_reducible apply Keeps.after ((within_setSeat _ _ _).kept)
  | with_reducible apply Keeps.after ((within_setSeatW _ _ _ _).kept) | split | with_reducible assumption | exact spared_add (by decide)
  | exact spared_add_add (by decide) | decide

theorem kept_removeFinish (s : State) :
    Keeps s (State.removeFinish s) := by
  unfold State.removeFinish
  dsimp only
  repeat' first
  | with_reducible apply Keeps.refl | with_reducible apply Keeps.after (kept_seatResult _ _)
  | with_reducible apply Keeps.after (kept_uninstall _ _) | split

theorem kept_deliverRoll (s : State) (r : Roll) (present : Nat) (members : Nat) :
    Keeps s (State.deliverRoll s r present members) := by
  unfold State.deliverRoll
  repeat' first
  | with_reducible apply Keeps.refl | with_reducible apply Keeps.after (kept_framer _ _)
  | with_reducible apply Keeps.after (kept_postDesc _ _ _) | with_reducible apply Keeps.after (kept_deliverLessons _ _)

theorem kept_deliverClosed (s : State) (c : Closed) :
    Keeps s (State.deliverClosed s c) := by
  unfold State.deliverClosed
  repeat' first
  | with_reducible apply Keeps.refl | with_reducible apply Keeps.after (kept_flagRaise _ _ _ _ _ ?_ ?_)
  | with_reducible apply Keeps.after (kept_deliverRoll _ _ _ _) | split | with_reducible assumption | exact spared_add (by decide)
  | exact spared_add_add (by decide) | decide

theorem kept_gapAct (s : State) (f : Nat) :
    Keeps s (State.gapAct s f) := by
  unfold State.gapAct
  repeat' first
  | with_reducible apply Keeps.refl | with_reducible assumption | with_reducible apply Keeps.after (kept_deliverClosed _ _)
  | with_reducible apply Keeps.after (kept_gapClose _ _) | with_reducible apply Keeps.foldl | (with_reducible intro y a h)

theorem kept_slipsOut (s : State) (f : Nat) :
    Keeps s (State.slipsOut s f) := by
  unfold State.slipsOut
  repeat' first
  | with_reducible apply Keeps.refl | with_reducible assumption | with_reducible apply Keeps.after (kept_postRecord _ _ _ _ _)
  | with_reducible apply Keeps.after ((within_setForm _ _ _).kept) | with_reducible apply Keeps.foldl | (with_reducible intro y a h)

theorem kept_slipRecord (s : State) (kind : Nat) (f : Nat) (p : FormPar) (i : Instant) (m : Nat) (code : Nat) (rc : List Byte) :
    Keeps s (State.slipRecord s kind f p i m code rc) := by
  unfold State.slipRecord
  repeat' first
  | with_reducible apply Keeps.refl | with_reducible apply Keeps.after ((within_draw _ _).kept)
  | with_reducible apply Keeps.after ((within_setForm _ _ _).kept) | with_reducible apply Keeps.after (kept_bumpWrap _ _ ?_) | split
  | with_reducible assumption | exact spared_add (by decide)

theorem kept_lateDrop (s : State) (f : Nat) (p : FormPar) (i : Instant) (m : Nat) (code : Nat) :
    Keeps s (State.lateDrop s f p i m code) := by
  unfold State.lateDrop
  repeat' first
  | with_reducible apply Keeps.refl | with_reducible apply Keeps.after (kept_bump _ _ ?_)
  | with_reducible apply Keeps.after (kept_flagRaise _ _ _ _ _ ?_ ?_)
  | with_reducible apply Keeps.after (kept_slipRecord _ _ _ _ _ _ _ _) | split | with_reducible assumption
  | exact spared_add (by decide) | exact spared_add_add (by decide) | decide

theorem kept_tardyPath (s : State) (f : Nat) (p : FormPar) (i : Instant) (m : Nat) (code : Nat) (rc : List Byte) :
    Keeps s (State.tardyPath s f p i m code rc) := by
  unfold State.tardyPath
  dsimp only
  repeat' first
  | with_reducible apply Keeps.refl | with_reducible assumption | with_reducible apply Keeps.after (kept_tardyTerms _ _ _ _ _)
  | with_reducible apply Keeps.after (kept_bump _ _ ?_) | with_reducible apply Keeps.after (kept_flagRaise _ _ _ _ _ ?_ ?_)
  | with_reducible apply Keeps.after ((within_hbmWrite _ _ _).kept) | with_reducible apply Keeps.after (kept_lateDrop _ _ _ _ _ _)
  | with_reducible apply Keeps.after (kept_slipRecord _ _ _ _ _ _ _ _) | split | exact spared_add (by decide)
  | exact spared_add_add (by decide) | decide

theorem kept_openRoll (s : State) (f : Nat) (p : FormPar) (i : Instant) :
    Keeps s (State.openRoll s f p i) := by
  unfold State.openRoll
  repeat' first
  | with_reducible apply Keeps.refl | with_reducible apply Keeps.after ((within_setForm _ _ _).kept)
  | with_reducible apply Keeps.after (kept_showOpen _ _) | with_reducible apply Keeps.after ((within_openImage _ _ _ _).kept)

theorem kept_fileInto (s : State) (f : Nat) (p : FormPar) (i : Instant) (m : Nat) (rc : List Byte) :
    Keeps s (State.fileInto s f p i m rc) := by
  unfold State.fileInto
  repeat' first
  | with_reducible apply Keeps.refl | with_reducible apply Keeps.after ((within_markPresent _ _ _ _).kept)
  | with_reducible apply Keeps.after (kept_bump _ _ ?_) | with_reducible apply Keeps.after ((within_hbmWrite _ _ _).kept)
  | with_reducible apply Keeps.after ((within_setForm _ _ _).kept) | with_reducible assumption | exact spared_add (by decide)

theorem kept_fileFrame (s : State) (f : Nat) (m : Nat) (code : Nat) (sec : Nat) (ns : Nat) (rc : List Byte) :
    Keeps s (State.fileFrame s f m code sec ns rc) := by
  unfold State.fileFrame
  dsimp only
  repeat' first
  | with_reducible apply Keeps.refl | with_reducible assumption | with_reducible apply Keeps.after (kept_bump _ _ ?_)
  | with_reducible apply Keeps.after (kept_flagRaise _ _ _ _ _ ?_ ?_) | with_reducible apply Keeps.after (kept_tardyPath _ _ _ _ _ _ _)
  | with_reducible apply Keeps.after (kept_retimeAt _ _ _) | with_reducible apply Keeps.after (kept_openRoll _ _ _ _)
  | with_reducible apply Keeps.after (kept_fileInto _ _ _ _ _ _) | split | exact spared_add (by decide)
  | exact spared_add_add (by decide) | decide

theorem kept_fileIn (s : State) (atBell : Bool) (f : Nat) (m : Nat) (g : Seated) :
    Keeps s (State.fileIn s atBell f m g) := by
  unfold State.fileIn
  repeat' first
  | with_reducible apply Keeps.refl | with_reducible apply Keeps.after (kept_gapAct _ _)
  | with_reducible apply Keeps.after (kept_slipsOut _ _) | with_reducible apply Keeps.after (kept_fileFrame _ _ _ _ _ _ _) | split

theorem kept_fileGrant (s : State) (atBell : Bool) (g : Seated) :
    Keeps s (State.fileGrant s atBell g) := by
  unfold State.fileGrant
  repeat' first
  | with_reducible apply Keeps.refl | with_reducible apply Keeps.after (kept_fileIn _ _ _ _ _)
  | with_reducible apply Keeps.after (kept_moveApply _ _) | split

theorem kept_rclResult (s : State) (res : Nat) (sec : Nat) :
    Keeps s (State.rclResult s res sec) := by
  unfold State.rclResult
  repeat' first
  | with_reducible apply Keeps.refl | with_reducible apply Keeps.after (kept_setReg _ _ _ ?_)
  | with_reducible apply Keeps.after (kept_setRf _ _ _ _ _ ?_) | with_reducible apply Keeps.after (kept_publish _ _ ?_)
  | with_reducible apply Keeps.after (kept_setRb _ _ _ _ ?_) | with_reducible assumption | exact spared_add (by decide)
  | exact spared_add_add (by decide) | decide

theorem kept_seatMove (s : State) (b : Nat) (code : Nat) :
    Keeps s (State.seatMove s b code) := by
  unfold State.seatMove
  dsimp only
  repeat' first
  | with_reducible apply Keeps.refl | with_reducible apply Keeps.after ((within_setSeat _ _ _).kept)
  | with_reducible apply Keeps.after (kept_bind _ _ _ _) | with_reducible apply Keeps.after (kept_rclResult _ _ _) | split

theorem kept_formRetime (s : State) (f : Nat) :
    Keeps s (State.formRetime s f) := by
  unfold State.formRetime
  dsimp only
  repeat' first
  | with_reducible apply Keeps.refl | with_reducible apply Keeps.after (kept_setRf _ _ _ _ _ ?_)
  | with_reducible apply Keeps.after ((within_setForm _ _ _).kept) | with_reducible apply Keeps.after (kept_rclResult _ _ _) | split
  | with_reducible assumption | exact spared_add (by decide)

theorem kept_formStart (s : State) (f : Nat) :
    Keeps s (State.formStart s f) := by
  unfold State.formStart
  dsimp only
  repeat' first
  | with_reducible apply Keeps.refl | with_reducible assumption | with_reducible apply Keeps.after ((within_clearLedger _ _).kept)
  | with_reducible apply Keeps.after (kept_setRf _ _ _ _ _ ?_) | with_reducible apply Keeps.after ((within_setForm _ _ _).kept)
  | with_reducible apply Keeps.after (kept_rclResult _ _ _) | split | exact spared_add (by decide)

theorem kept_releaseRoll (s : State) (f : Nat) (i : Instant) (stopped : Bool) (late : Bool) :
    Keeps s (State.releaseRoll s f i stopped late) := by
  unfold State.releaseRoll
  repeat' first
  | with_reducible apply Keeps.refl | with_reducible apply Keeps.after (kept_deliverClosed _ _)
  | with_reducible apply Keeps.after (kept_closeRoll _ _ _ _ _)

theorem kept_releaseWhile (f : Nat) (stopped : Bool) (due : State → Form → Bool) (x3 : Nat) (s : State) :
    Keeps s (releaseWhile f stopped due x3 s) := by
  induction x3 generalizing s with
  | zero =>
    unfold releaseWhile
    first | exact Keeps.refl _ | exact (Keeps.refl _) | (split <;> exact Keeps.refl _)
  | succ n ih =>
    unfold releaseWhile
    repeat' first
    | (extract_lets +onlyGivenNames x; first
        | (refine (fun (h : Keeps s x) => ?_) ?_; clear_value x; rotate_left; subst x; rotate_left)
        | (refine (fun (h : Keeps s x.1) => ?_) ?_; clear_value x; rotate_left; subst x; rotate_left)
        | (refine (fun (h : Keeps s x.2) => ?_) ?_; clear_value x; rotate_left; subst x; rotate_left)
        | clear_value x
        | skip)
    | with_reducible apply Keeps.refl | with_reducible apply Keeps.after (kept_releaseRoll _ _ _ _ _)
    | with_reducible apply Keeps.after (ih _) | split

theorem kept_stopForm (s : State) (f : Nat) :
    Keeps s (State.stopForm s f) := by
  unfold State.stopForm
  repeat' first
  | with_reducible apply Keeps.refl | with_reducible assumption | with_reducible apply Keeps.after ((within_clearLedger _ _).kept)
  | with_reducible apply Keeps.after (kept_gapAct _ _) | with_reducible apply Keeps.after (kept_setRf _ _ _ _ _ ?_)
  | with_reducible apply Keeps.after ((within_setForm _ _ _).kept) | with_reducible apply Keeps.after (kept_releaseWhile _ _ _ _ _)
  | with_reducible apply Keeps.after (kept_releaseRoll _ _ _ _ _) | with_reducible apply Keeps.foldl | (with_reducible intro y a h)
  | exact spared_add (by decide)

theorem kept_formStop (s : State) (f : Nat) :
    Keeps s (State.formStop s f) := by
  unfold State.formStop
  repeat' first
  | with_reducible apply Keeps.refl | with_reducible apply Keeps.after (kept_rclResult _ _ _)
  | with_reducible apply Keeps.after (kept_stopForm _ _) | split

theorem kept_rclCommand (s : State) :
    Keeps s (State.rclCommand s) := by
  unfold State.rclCommand
  dsimp only
  repeat' first
  | with_reducible apply Keeps.refl | with_reducible assumption | with_reducible apply Keeps.after (kept_seatMove _ _ _)
  | with_reducible apply Keeps.after (kept_formRetime _ _) | with_reducible apply Keeps.after (kept_formStart _ _)
  | with_reducible apply Keeps.after (kept_formStop _ _) | with_reducible apply Keeps.after (kept_unready _ _ ?_) | split
  | exact spared_add (by decide) | exact spared_add_add (by decide) | decide

theorem kept_rclHook (s : State) (off : Nat) (old : Word) :
    Keeps s (State.rclHook s off old) := by
  unfold State.rclHook
  dsimp only
  repeat' first
  | with_reducible apply Keeps.refl | with_reducible apply Keeps.after (kept_rclCommand _)
  | with_reducible apply Keeps.after ((within_rclEnabled _).kept) | split

theorem kept_frameFile (s : State) :
    Keeps s (State.frameFile s) := by
  unfold State.frameFile
  repeat' first
  | with_reducible apply Keeps.refl | with_reducible apply Keeps.after (kept_bump _ _ ?_)
  | with_reducible apply Keeps.after (kept_removeFinish _) | with_reducible apply Keeps.after (kept_fileGrant _ _ _) | split
  | (with_reducible apply Keeps.upd; on_goal 2 => rfl) | with_reducible assumption | exact spared_add (by decide)

theorem kept_itkCount (s : State) (j : Nat) :
    Keeps s (State.itkCount s j) := by
  unfold State.itkCount
  repeat' first
  | with_reducible apply Keeps.refl | with_reducible apply Keeps.after (kept_bump _ _ ?_) | with_reducible assumption
  | exact spared_add (by decide)

theorem kept_itkRing (s : State) (r : Nat) (x : Source) (cause : Nat) :
    Keeps s (State.itkRing s r x cause) := by
  unfold State.itkRing
  repeat' first
  | with_reducible apply Keeps.refl | with_reducible apply Keeps.after (kept_postFrame _ _ _ _)

theorem kept_handedOn (s : State) (x : Source) :
    Keeps s (State.handedOn s x) := by
  unfold State.handedOn
  repeat' first
  | with_reducible apply Keeps.refl | with_reducible apply Keeps.after (kept_bump _ _ ?_) | split | with_reducible assumption
  | exact spared_add (by decide)

theorem kept_noSeat (s : State) (x : Source) :
    Keeps s (State.noSeat s x) := by
  unfold State.noSeat
  dsimp only
  repeat' first
  | with_reducible apply Keeps.refl | with_reducible apply Keeps.after (kept_itkCount _ _)
  | with_reducible apply Keeps.after (kept_bump _ _ ?_) | with_reducible apply Keeps.after (kept_flagRaise _ _ _ _ _ ?_ ?_)
  | with_reducible apply Keeps.after (kept_itkRing _ _ _ _) | with_reducible apply Keeps.after (kept_fjlSend _ _ _ _ _)
  | with_reducible apply Keeps.after (kept_handedOn _ _) | split | with_reducible assumption | exact spared_add (by decide)
  | exact spared_add_add (by decide) | decide

theorem kept_unseated (s : State) (x : Source) (cause : Nat) :
    Keeps s (State.unseated s x cause) := by
  unfold State.unseated
  repeat' first
  | with_reducible apply Keeps.refl | with_reducible apply Keeps.after (kept_itkCount _ _)
  | with_reducible apply Keeps.after (kept_itkRing _ _ _ _) | with_reducible apply Keeps.after (kept_noSeat _ _)
  | with_reducible apply Keeps.after (kept_handedOn _ _) | split

theorem kept_shareFrame (s : State) (n : Nat) (sec : Nat) (ns : Nat) (rc : List Byte) :
    Keeps s (State.shareFrame s n sec ns rc) := by
  unfold State.shareFrame
  repeat' first
  | with_reducible apply Keeps.refl | with_reducible assumption | with_reducible apply Keeps.after (kept_fjlSend _ _ _ _ _)
  | with_reducible apply Keeps.foldl | (with_reducible intro y a h) | split

theorem kept_seatBlock (s : State) (n : Nat) (sec : Nat) (ns : Nat) (rc : List Byte) (stamp : Stamp) :
    Keeps s (State.seatBlock s n sec ns rc stamp) := by
  unfold State.seatBlock
  repeat' first
  | with_reducible apply Keeps.refl | with_reducible apply Keeps.after (kept_itkCount _ _)
  | with_reducible apply Keeps.after (kept_seatFrame _ _ _) | with_reducible apply Keeps.after (kept_shareFrame _ _ _ _ _)

theorem kept_asduFrame (s : State) (x : Source) (auth : Bool) (a : Asdu) :
    Keeps s (State.asduFrame s x auth a) := by
  unfold State.asduFrame
  repeat' first
  | with_reducible apply Keeps.refl | with_reducible apply Keeps.after (kept_unseated _ _ _)
  | with_reducible apply Keeps.after (kept_seatBlock _ _ _ _ _ _) | split

theorem kept_authFail (s : State) (x : Source) (reason : Nat) (keyId : Nat) (seats : List Nat) :
    Keeps s (State.authFail s x reason keyId seats) := by
  unfold State.authFail
  repeat' first
  | with_reducible apply Keeps.refl | with_reducible assumption | with_reducible apply Keeps.after (kept_itkCount _ _)
  | with_reducible apply Keeps.after (kept_setReg _ _ _ ?_) | with_reducible apply Keeps.after (kept_flagRaise _ _ _ _ _ ?_ ?_)
  | with_reducible apply Keeps.after ((within_setSeatW _ _ _ _).kept) | with_reducible apply Keeps.foldl | (with_reducible intro y a h)
  | exact spared_add (by decide) | exact spared_add_add (by decide) | decide

theorem kept_setTcpState (s : State) (c : Nat) (v : Nat) :
    Keeps s (State.setTcpState s c v) := by
  unfold State.setTcpState
  repeat' first
  | with_reducible apply Keeps.refl | with_reducible apply Keeps.after (kept_setRf _ _ _ _ _ ?_) | with_reducible assumption
  | exact spared_add (by decide)

theorem kept_seatRemove (s : State) :
    Keeps s (State.seatRemove s) := by
  unfold State.seatRemove
  repeat' first
  | with_reducible apply Keeps.refl | with_reducible apply Keeps.after (kept_seatResult _ _)
  | with_reducible apply Keeps.after (kept_removeFinish _) | split

theorem kept_seatAdd (s : State) :
    Keeps s (State.seatAdd s) := by
  unfold State.seatAdd
  dsimp only
  repeat' first
  | with_reducible apply Keeps.refl | with_reducible assumption | with_reducible apply Keeps.after (kept_setRf _ _ _ _ _ ?_)
  | with_reducible apply Keeps.after (kept_seatResult _ _) | with_reducible apply Keeps.after ((within_setSeat _ _ _).kept)
  | with_reducible apply Keeps.after (kept_bind _ _ _ _) | with_reducible apply Keeps.after ((within_setSeatW _ _ _ _).kept) | split
  | exact spared_add (by decide) | exact spared_add_add (by decide) | decide

theorem kept_seatCommand (s : State) :
    Keeps s (State.seatCommand s) := by
  unfold State.seatCommand
  dsimp only
  repeat' first
  | with_reducible apply Keeps.refl | with_reducible assumption | with_reducible apply Keeps.after (kept_seatRemove _)
  | with_reducible apply Keeps.after (kept_unready _ _ ?_) | with_reducible apply Keeps.after (kept_seatAdd _) | split
  | exact spared_add (by decide) | exact spared_add_add (by decide) | decide

theorem kept_itkHook (s : State) (off : Nat) (old : Word) :
    Keeps s (State.itkHook s off old) := by
  unfold State.itkHook
  repeat' first
  | with_reducible apply Keeps.refl | with_reducible apply Keeps.after ((within_setTcpConn _ _ _).kept)
  | with_reducible apply Keeps.after (kept_setTcpState _ _ _) | with_reducible apply Keeps.after (kept_seatCommand _) | split

theorem kept_dataFrame (s : State) (x : Source) (f : List Byte) :
    Keeps s (State.dataFrame s x f) := by
  unfold State.dataFrame
  dsimp only
  repeat' first
  | with_reducible apply Keeps.refl | with_reducible assumption | with_reducible apply Keeps.after (kept_unseated _ _ _)
  | with_reducible apply Keeps.after (kept_seatBlock _ _ _ _ _ _) | with_reducible apply Keeps.foldl | (with_reducible intro y a h)
  | split

theorem kept_c37Frame (s : State) (x : Source) (t : Nat) (f : Option (List Byte)) :
    Keeps s (State.c37Frame s x t f) := by
  unfold State.c37Frame
  repeat' first
  | with_reducible apply Keeps.refl | with_reducible apply Keeps.after (kept_itkCount _ _)
  | with_reducible apply Keeps.after (kept_flagRaise _ _ _ _ _ ?_ ?_) | with_reducible apply Keeps.after (kept_itkRing _ _ _ _)
  | with_reducible apply Keeps.after (kept_dataFrame _ _ _) | split | with_reducible assumption | exact spared_add (by decide)
  | exact spared_add_add (by decide) | decide

theorem kept_notTaken (s : State) (f : RxFrame) :
    Keeps s (State.notTaken s f) := by
  unfold State.notTaken
  repeat' first
  | with_reducible apply Keeps.refl | with_reducible apply Keeps.after (kept_itkCount _ _)
  | with_reducible apply Keeps.after (kept_rxToRing _ _)

theorem kept_tcpFrame (s : State) (x : Source) (f : List Byte) :
    Keeps s (State.tcpFrame s x f) := by
  unfold State.tcpFrame
  dsimp only
  repeat' first
  | with_reducible apply Keeps.refl | with_reducible apply Keeps.after (kept_itkCount _ _)
  | with_reducible apply Keeps.after (kept_c37Frame _ _ _ _) | split

theorem kept_tcpParse (s : State) (x : Source) (c : Nat) (x3 : Nat) (x4 : List Byte) :
    Keeps s (State.tcpParse s x c x3 x4) := by
  induction x3 generalizing s x4 with
  | zero =>
    unfold State.tcpParse
    first | exact Keeps.refl _ | exact (within_setTcpConn _ _ _).kept | (split <;> exact Keeps.refl _)
  | succ n ih =>
    unfold State.tcpParse
    repeat' first
    | with_reducible apply Keeps.refl | with_reducible apply Keeps.after (kept_itkCount _ _)
    | with_reducible apply Keeps.after ((within_setTcpConn _ _ _).kept) | with_reducible apply Keeps.after (kept_setTcpState _ _ _)
    | with_reducible apply Keeps.after (kept_tcpFrame _ _ _) | with_reducible apply Keeps.after (ih _ _) | split

theorem kept_tcpSegment (s : State) (x : Source) (c : Nat) (q : Nat) (b : List Byte) :
    Keeps s (State.tcpSegment s x c q b) := by
  unfold State.tcpSegment
  dsimp only
  repeat' first
  | with_reducible apply Keeps.refl | with_reducible assumption | with_reducible apply Keeps.after (kept_tcpParse _ _ _ _ _)
  | with_reducible apply Keeps.after (kept_itkCount _ _) | with_reducible apply Keeps.after (kept_setReg _ _ _ ?_)
  | with_reducible apply Keeps.after ((within_setTcpConn _ _ _).kept) | with_reducible apply Keeps.after (kept_setTcpState _ _ _)
  | split | exact spared_add (by decide)

theorem kept_tcpIn (s : State) (f : RxFrame) (v : IpView) (hops : Nat) :
    Keeps s (State.tcpIn s f v hops) := by
  unfold State.tcpIn
  dsimp only
  repeat' first
  | with_reducible apply Keeps.refl | with_reducible apply Keeps.after (kept_notTaken _ _)
  | with_reducible apply Keeps.after (kept_tcpSegment _ _ _ _ _) | with_reducible apply Keeps.after (kept_rxToRing _ _) | split

theorem kept_spduFrame (s : State) (x : Source) (u : Spdu) :
    Keeps s (State.spduFrame s x u) := by
  unfold State.spduFrame
  dsimp only
  repeat' first
  | with_reducible apply Keeps.refl | with_reducible assumption | with_reducible apply Keeps.after (kept_authFail _ _ _ _ _)
  | with_reducible apply Keeps.after (kept_bumpBy _ _ _ ?_) | with_reducible apply Keeps.after (kept_asduFrame _ _ _ _)
  | with_reducible apply Keeps.after (kept_keyFail _ _) | with_reducible apply Keeps.foldl | (with_reducible intro y a h) | split
  | exact spared_add (by decide)

theorem kept_udpFrame (s : State) (f : RxFrame) (ip : Nat) (v : IpView) (hops : Nat) :
    Keeps s (State.udpFrame s f ip v hops) := by
  unfold State.udpFrame
  dsimp only
  repeat' first
  | with_reducible apply Keeps.refl | with_reducible apply Keeps.after (kept_itkCount _ _)
  | with_reducible apply Keeps.after (kept_c37Frame _ _ _ _) | with_reducible apply Keeps.after (kept_spduFrame _ _ _)
  | with_reducible apply Keeps.after (kept_notTaken _ _) | split

theorem kept_examine (s : State) (f : RxFrame) (hops : Nat) :
    Keeps s (State.examine s f hops) := by
  unfold State.examine
  dsimp only
  repeat' first
  | with_reducible apply Keeps.refl | with_reducible apply Keeps.after (kept_itkCount _ _)
  | with_reducible apply Keeps.after (kept_tcpIn _ _ _ _) | with_reducible apply Keeps.after (kept_notTaken _ _)
  | with_reducible apply Keeps.after (kept_udpFrame _ _ _ _ _) | with_reducible apply Keeps.after (kept_rxToRing _ _) | split

theorem kept_intakeFrame (s : State) (p : Nat) :
    Keeps s (State.intakeFrame s p) := by
  unfold State.intakeFrame
  dsimp only
  repeat' first
  | with_reducible apply Keeps.refl | with_reducible assumption | with_reducible apply Keeps.after ((within_setRx _ _ _).kept)
  | with_reducible apply Keeps.after (kept_examine _ _ _) | with_reducible apply Keeps.after (kept_rxToRing _ _) | split

theorem kept_streamSilent (s : State) (code : Nat) :
    Keeps s (State.streamSilent s code) := by
  unfold State.streamSilent
  dsimp only
  repeat' first
  | with_reducible apply Keeps.refl | with_reducible assumption | with_reducible apply Keeps.after (kept_setRf _ _ _ _ _ ?_)
  | with_reducible apply Keeps.after (kept_flagRaise _ _ _ _ _ ?_ ?_)
  | with_reducible apply Keeps.after ((within_setSeatW _ _ _ _).kept) | split | exact spared_add (by decide)
  | exact spared_add_add (by decide) | decide

theorem kept_setLinkState (s : State) (k : Nat) (st : Nat) :
    Keeps s (State.setLinkState s k st) := by
  unfold State.setLinkState
  repeat' first
  | with_reducible apply Keeps.refl | with_reducible apply Keeps.after (kept_setRf _ _ _ _ _ ?_)
  | with_reducible apply Keeps.after (kept_setRb _ _ _ _ ?_) | with_reducible assumption | exact spared_add (by decide)
  | exact spared_add_add (by decide) | decide

theorem kept_linkTrain (s : State) (k : Nat) :
    Keeps s (State.linkTrain s k) := by
  unfold State.linkTrain
  repeat' first
  | with_reducible apply Keeps.refl | with_reducible apply Keeps.after (kept_setRf _ _ _ _ _ ?_)
  | with_reducible apply Keeps.after (kept_setLinkState _ _ _) | with_reducible assumption | exact spared_add (by decide)

theorem kept_linkEnable (s : State) (k : Nat) :
    Keeps s (State.linkEnable s k) := by
  unfold State.linkEnable
  repeat' first
  | with_reducible apply Keeps.refl | with_reducible apply Keeps.after (kept_linkTrain _ _) | split

theorem kept_linkDown (s : State) (k : Nat) (off : Bool) :
    Keeps s (State.linkDown s k off) := by
  unfold State.linkDown
  repeat' first
  | with_reducible apply Keeps.refl | with_reducible apply Keeps.after (kept_setRf _ _ _ _ _ ?_)
  | with_reducible apply Keeps.after (kept_bump _ _ ?_) | with_reducible apply Keeps.after (kept_flagRaise _ _ _ _ _ ?_ ?_)
  | with_reducible apply Keeps.after (kept_bumpBy _ _ _ ?_) | with_reducible apply Keeps.after (kept_showDecisions _)
  | with_reducible apply Keeps.after (kept_linkTrain _ _) | with_reducible apply Keeps.after ((within_sharedClear _ _).kept)
  | with_reducible apply Keeps.after ((within_setLink _ _ _).kept) | with_reducible apply Keeps.after (kept_setLinkState _ _ _) | split
  | with_reducible assumption | exact spared_add (by decide) | exact spared_add_add (by decide) | decide

theorem kept_linkDisable (s : State) (k : Nat) :
    Keeps s (State.linkDisable s k) := by
  unfold State.linkDisable
  repeat' first
  | with_reducible apply Keeps.refl | with_reducible apply Keeps.after (kept_setRf _ _ _ _ _ ?_)
  | with_reducible apply Keeps.after (kept_linkDown _ _ _) | with_reducible apply Keeps.after ((within_setLink _ _ _).kept)
  | with_reducible apply Keeps.after (kept_setLinkState _ _ _) | split | with_reducible assumption | exact spared_add (by decide)

theorem kept_fjlHook (s : State) (off : Nat) (old : Word) :
    Keeps s (State.fjlHook s off old) := by
  unfold State.fjlHook
  repeat' first
  | with_reducible apply Keeps.refl | with_reducible apply Keeps.after (kept_linkEnable _ _)
  | with_reducible apply Keeps.after (kept_showDecisions _) | with_reducible apply Keeps.after (kept_linkDisable _ _) | split

theorem kept_linkErr (s : State) (k : Nat) (code : Nat) :
    Keeps s (State.linkErr s k code) := by
  unfold State.linkErr
  repeat' first
  | with_reducible apply Keeps.refl | with_reducible apply Keeps.after (kept_setRf _ _ _ _ _ ?_) | with_reducible assumption
  | exact spared_add (by decide)

theorem kept_checkTimeout (s : State) (k : Nat) :
    Keeps s (State.checkTimeout s k) := by
  unfold State.checkTimeout
  repeat' first
  | with_reducible apply Keeps.refl | with_reducible apply Keeps.after (kept_flagRaise _ _ _ _ _ ?_ ?_)
  | with_reducible apply Keeps.after (kept_linkTrain _ _) | with_reducible apply Keeps.after (kept_linkErr _ _ _) | split
  | with_reducible assumption | exact spared_add (by decide) | exact spared_add_add (by decide) | decide

theorem kept_decisionReceive (s : State) (q : Nat) (p : List Byte) :
    Keeps s (State.decisionReceive s q p) := by
  unfold State.decisionReceive
  repeat' first
  | with_reducible apply Keeps.refl | with_reducible apply Keeps.after (kept_bump _ _ ?_)
  | with_reducible apply Keeps.after (kept_showDecisions _) | (with_reducible apply Keeps.upd; on_goal 2 => rfl)
  | with_reducible assumption | exact spared_add (by decide)

theorem kept_handoffReceive (s : State) (hops : Nat) (p : List Byte) :
    Keeps s (State.handoffReceive s hops p) := by
  unfold State.handoffReceive
  dsimp only
  repeat' first
  | with_reducible apply Keeps.refl | with_reducible apply Keeps.after (kept_examine _ _ _)
  | with_reducible apply Keeps.after (kept_rxToRing _ _) | with_reducible apply Keeps.after (kept_tcpFrame _ _ _) | split

theorem kept_identSeen (s : State) (k : Nat) (pos : Nat) :
    Keeps s (State.identSeen s k pos) := by
  unfold State.identSeen
  dsimp only
  repeat' first
  | with_reducible apply Keeps.refl | with_reducible assumption | with_reducible apply Keeps.after (kept_setRf _ _ _ _ _ ?_)
  | with_reducible apply Keeps.after (kept_flagRaise _ _ _ _ _ ?_ ?_) | with_reducible apply Keeps.after (kept_showDecisions _)
  | with_reducible apply Keeps.after (kept_linkTrain _ _) | with_reducible apply Keeps.after ((within_setLink _ _ _).kept)
  | with_reducible apply Keeps.after (kept_setLinkState _ _ _) | with_reducible apply Keeps.after (kept_linkErr _ _ _) | split
  | exact spared_add (by decide) | exact spared_add_add (by decide) | decide

theorem kept_identReceive (s : State) (k : Nat) (pos : Nat) :
    Keeps s (State.identReceive s k pos) := by
  unfold State.identReceive
  repeat' first
  | with_reducible apply Keeps.refl | with_reducible apply Keeps.after (kept_bump _ _ ?_)
  | with_reducible apply Keeps.after (kept_identSeen _ _ _) | split | with_reducible assumption | exact spared_add (by decide)
  | exact spared_add_add (by decide)

theorem kept_laneLost (s : State) (k : Nat) (n : Nat) :
    Keeps s (State.laneLost s k n) := by
  unfold State.laneLost
  repeat' first
  | with_reducible apply Keeps.refl | with_reducible apply Keeps.after (kept_linkDown _ _ _)
  | with_reducible apply Keeps.after (kept_setRb _ _ _ _ ?_) | split | with_reducible assumption | exact spared_add (by decide)

theorem kept_lanesAligned (s : State) (k : Nat) :
    Keeps s (State.lanesAligned s k) := by
  unfold State.lanesAligned
  repeat' first
  | with_reducible apply Keeps.refl | with_reducible apply Keeps.after (kept_setRf _ _ _ _ _ ?_)
  | with_reducible apply Keeps.after (kept_sendControl _ _ _ _) | with_reducible apply Keeps.after ((within_setLink _ _ _).kept)
  | with_reducible apply Keeps.after (kept_setLinkState _ _ _) | split | with_reducible assumption | exact spared_add (by decide)

theorem kept_shareReceive (s : State) (p : List Byte) :
    Keeps s (State.shareReceive s p) := by
  unfold State.shareReceive
  dsimp only
  repeat' first
  | with_reducible apply Keeps.refl | with_reducible apply Keeps.after (kept_bump _ _ ?_)
  | with_reducible apply Keeps.after (kept_seatFrame _ _ _) | split | with_reducible assumption | exact spared_add (by decide)

theorem kept_packetPass (s : State) (k : Nat) (a : Arrived) :
    Keeps s (State.packetPass s k a) := by
  unfold State.packetPass
  repeat' first
  | with_reducible apply Keeps.refl | with_reducible apply Keeps.after (kept_decisionReceive _ _ _)
  | with_reducible apply Keeps.after (kept_answerReceive _ _) | with_reducible apply Keeps.after (kept_shareReceive _ _)
  | with_reducible apply Keeps.after (kept_handoffReceive _ _ _) | split

theorem kept_resendAll (s : State) (k : Nat) :
    Keeps s (State.resendAll s k) := by
  unfold State.resendAll
  dsimp only
  repeat' first
  | with_reducible apply Keeps.refl | with_reducible assumption | with_reducible apply Keeps.after (kept_linkDown _ _ _)
  | with_reducible apply Keeps.after (kept_bumpBy _ _ _ ?_) | with_reducible apply Keeps.after ((within_setLink _ _ _).kept)
  | with_reducible apply Keeps.after (kept_putPacket _ _ _ _) | with_reducible apply Keeps.after (kept_linkErr _ _ _)
  | with_reducible apply Keeps.foldl | (with_reducible intro y a h) | split | exact spared_add (by decide)
  | exact spared_add_add (by decide)

theorem kept_packetUp (s : State) (k : Nat) (a : Arrived) :
    Keeps s (State.packetUp s k a) := by
  unfold State.packetUp
  dsimp only
  repeat' first
  | with_reducible apply Keeps.refl | with_reducible assumption | with_reducible apply Keeps.after ((within_takeAck _ _ _).kept)
  | with_reducible apply Keeps.after (kept_sendControl _ _ _ _) | with_reducible apply Keeps.after (kept_packetPass _ _ _)
  | with_reducible apply Keeps.after (kept_drainLink _ _ _) | with_reducible apply Keeps.after ((within_setLink _ _ _).kept)
  | with_reducible apply Keeps.after (kept_resendAll _ _) | split

theorem kept_packetReceive (s : State) (k : Nat) (bs : List Byte) :
    Keeps s (State.packetReceive s k bs) := by
  unfold State.packetReceive
  dsimp only
  repeat' first
  | with_reducible apply Keeps.refl | with_reducible assumption | with_reducible apply Keeps.after (kept_bump _ _ ?_)
  | with_reducible apply Keeps.after (kept_sendControl _ _ _ _) | with_reducible apply Keeps.after (kept_packetUp _ _ _)
  | with_reducible apply Keeps.after (kept_identSeen _ _ _) | split | exact spared_add (by decide) | exact spared_add_add (by decide)

theorem kept_resendTimeout (s : State) (k : Nat) :
    Keeps s (State.resendTimeout s k) := by
  unfold State.resendTimeout
  dsimp only
  repeat' first
  | with_reducible apply Keeps.refl | with_reducible apply Keeps.after (kept_resendAll _ _) | split

theorem kept_setHp (s : State) (st : Nat) (drives : Bool) :
    Keeps s (State.setHp s st drives) := by
  unfold State.setHp
  repeat' first
  | with_reducible apply Keeps.refl | with_reducible apply Keeps.after (kept_setRf _ _ _ _ _ ?_)
  | with_reducible apply Keeps.after (kept_pinsFollow _) | with_reducible apply Keeps.after (kept_setRb _ _ _ _ ?_)
  | (with_reducible apply Keeps.upd; on_goal 2 => rfl) | with_reducible assumption | exact spared_add (by decide)
  | exact spared_add_add (by decide) | decide

theorem kept_hpIdle (s : State) :
    Keeps s (State.hpIdle s) := by
  unfold State.hpIdle
  dsimp only
  repeat' first
  | with_reducible apply Keeps.refl | with_reducible assumption | with_reducible apply Keeps.after (kept_flagRaise _ _ _ _ _ ?_ ?_)
  | with_reducible apply Keeps.after (kept_setHp _ _ _) | split | exact spared_add (by decide) | exact spared_add_add (by decide)
  | decide

theorem kept_hpHold (s : State) (drives : Bool) :
    Keeps s (State.hpHold s drives) := by
  unfold State.hpHold
  repeat' first
  | with_reducible apply Keeps.refl | with_reducible apply Keeps.after (kept_flagRaise _ _ _ _ _ ?_ ?_)
  | with_reducible apply Keeps.after (kept_setHp _ _ _) | with_reducible assumption | exact spared_add (by decide)
  | exact spared_add_add (by decide) | decide

theorem kept_roleChange (s : State) (old : Nat) :
    Keeps s (State.roleChange s old) := by
  unfold State.roleChange
  dsimp only
  repeat' first
  | with_reducible apply Keeps.refl | with_reducible assumption | with_reducible apply Keeps.after (kept_hpIdle _)
  | with_reducible apply Keeps.after (kept_hpHold _ _) | split

theorem kept_redHook (s : State) (off : Nat) (old : Word) (v : Word) :
    Keeps s (State.redHook s off old v) := by
  unfold State.redHook
  repeat' first
  | with_reducible apply Keeps.refl | with_reducible apply Keeps.after (kept_hpIdle _)
  | with_reducible apply Keeps.after (kept_roleChange _ _) | split | (with_reducible apply Keeps.upd; on_goal 2 => rfl)

theorem kept_hallClaim (s : State) :
    Keeps s (State.hallClaim s) := by
  unfold State.hallClaim
  repeat' first
  | with_reducible apply Keeps.refl | with_reducible apply Keeps.after (kept_setHp _ _ _) | split
  | (with_reducible apply Keeps.upd; on_goal 2 => rfl)

theorem kept_hallHold (s : State) :
    Keeps s (State.hallHold s) := by
  unfold State.hallHold
  repeat' first
  | with_reducible apply Keeps.refl | with_reducible apply Keeps.after (kept_hpHold _ _) | split

theorem kept_healthFollow (s : State) :
    Keeps s (State.healthFollow s) := by
  unfold State.healthFollow
  repeat' first
  | with_reducible apply Keeps.refl | with_reducible apply Keeps.after (kept_hpIdle _)
  | with_reducible apply Keeps.after (kept_setRb _ _ _ _ ?_) | split | (with_reducible apply Keeps.upd; on_goal 2 => rfl)
  | with_reducible assumption | exact spared_add (by decide) | exact spared_add_add (by decide) | decide

theorem kept_healthChange (s : State) :
    Keeps s (State.healthChange s) := by
  unfold State.healthChange
  repeat' first
  | with_reducible apply Keeps.refl | with_reducible apply Keeps.after (kept_healthFollow _)

theorem kept_ilkChange (s : State) (e : IlkEdge) :
    Keeps s (State.ilkChange s e) := by
  unfold State.ilkChange
  repeat' first
  | with_reducible apply Keeps.refl | with_reducible apply Keeps.after (kept_hpIdle _)
  | with_reducible apply Keeps.after (kept_setRb _ _ _ _ ?_) | split | (with_reducible apply Keeps.upd; on_goal 2 => rfl)
  | with_reducible assumption | exact spared_add (by decide) | exact spared_add_add (by decide) | decide

theorem kept_kickExpiry (s : State) :
    Keeps s (State.kickExpiry s) := by
  unfold State.kickExpiry
  repeat' first
  | with_reducible apply Keeps.refl | with_reducible apply Keeps.after (kept_healthFollow _) | split

theorem kept_rangeFollow (s : State) (c : Nat) (e : Estimate) :
    Keeps s (State.rangeFollow s c e) := by
  unfold State.rangeFollow
  dsimp only
  repeat' first
  | with_reducible apply Keeps.refl | with_reducible assumption | with_reducible apply Keeps.after (kept_raise _ _ _ ?_)
  | with_reducible apply Keeps.after (kept_setRb _ _ _ _ ?_) | split | exact spared_add (by decide) | exact spared_add_add (by decide)
  | decide

theorem kept_phsHand (s : State) (c : Nat) (i : Instant) (e : Estimate) (phs : List (Word × Word)) :
    Keeps s (State.phsHand s c i e phs) := by
  unfold State.phsHand
  repeat' first
  | with_reducible apply Keeps.refl | with_reducible apply Keeps.after (kept_setReg _ _ _ ?_)
  | with_reducible apply Keeps.after (kept_bump _ _ ?_) | with_reducible apply Keeps.after (kept_publish _ _ ?_)
  | with_reducible apply Keeps.after (kept_seatFrame _ _ _) | with_reducible apply Keeps.after (kept_bumpWrap _ _ ?_)
  | with_reducible apply Keeps.after (kept_setRb _ _ _ _ ?_) | split | with_reducible assumption | exact spared_add (by decide)
  | exact spared_add_add (by decide) | decide

theorem kept_phasorEstimate (s : State) (c : Nat) :
    Keeps s (State.phasorEstimate s c) := by
  unfold State.phasorEstimate
  dsimp only
  repeat' first
  | with_reducible apply Keeps.refl | with_reducible assumption | with_reducible apply Keeps.after (kept_rangeFollow _ _ _)
  | with_reducible apply Keeps.after ((within_setPhs _ _ _).kept) | with_reducible apply Keeps.after (kept_trigsPhasor _ _ _ _)
  | with_reducible apply Keeps.after (kept_phsHand _ _ _ _ _) | split

theorem kept_batSample (s : State) (mv : Nat) :
    Keeps s (State.batSample s mv) := by
  unfold State.batSample
  repeat' first
  | with_reducible apply Keeps.refl | with_reducible apply Keeps.after (kept_setRb _ _ _ _ ?_) | split | with_reducible assumption
  | exact spared_add (by decide) | exact spared_add_add (by decide) | decide

theorem kept_rtcHook (s : State) (off : Nat) :
    Keeps s (State.rtcHook s off) := by
  unfold State.rtcHook
  repeat' first
  | with_reducible apply Keeps.refl | with_reducible apply Keeps.after (kept_setRb _ _ _ _ ?_) | split
  | (with_reducible apply Keeps.upd; on_goal 2 => rfl) | with_reducible assumption | exact spared_add (by decide)
  | exact spared_add_add (by decide) | decide

theorem kept_rtcAlarm (s : State) (before : Nat) :
    Keeps s (State.rtcAlarm s before) := by
  unfold State.rtcAlarm
  repeat' first
  | with_reducible apply Keeps.refl | with_reducible apply Keeps.after (kept_raise _ _ _ ?_)
  | with_reducible apply Keeps.after (kept_setRb _ _ _ _ ?_) | split | (with_reducible apply Keeps.upd; on_goal 2 => rfl)
  | with_reducible assumption | exact spared_add (by decide) | exact spared_add_add (by decide) | decide

theorem kept_crystalTick (s : State) :
    Keeps s (State.crystalTick s) := by
  unfold State.crystalTick
  repeat' first
  | with_reducible apply Keeps.refl | with_reducible apply Keeps.after (kept_rtcAlarm _ _)
  | with_reducible apply Keeps.after (kept_setRb _ _ _ _ ?_) | (with_reducible apply Keeps.upd; on_goal 2 => rfl)
  | with_reducible assumption | exact spared_add (by decide) | exact spared_add_add (by decide) | decide

theorem kept_toVbat (s : State) :
    Keeps s (State.toVbat s) := by
  unfold State.toVbat
  repeat' first
  | with_reducible apply Keeps.refl | with_reducible apply Keeps.after ((within_unstage _ _).kept)
  | with_reducible apply Keeps.after (kept_setRb _ _ _ _ ?_) | split | (with_reducible apply Keeps.upd; on_goal 2 => rfl)
  | with_reducible assumption | exact spared_add (by decide) | exact spared_add_add (by decide) | decide

theorem kept_oscStop (s : State) :
    Keeps s (State.oscStop s) := by
  unfold State.oscStop
  repeat' first
  | with_reducible apply Keeps.refl | with_reducible apply Keeps.after (kept_setRb _ _ _ _ ?_) | split | with_reducible assumption
  | exact spared_add (by decide) | exact spared_add_add (by decide) | decide

theorem kept_owedRtc (s : State) :
    Keeps s (State.owedRtc s) := by
  unfold State.owedRtc
  repeat' first
  | with_reducible apply Keeps.refl | with_reducible apply Keeps.after (kept_raise _ _ _ ?_) | split
  | (with_reducible apply Keeps.upd; on_goal 2 => rfl) | with_reducible assumption | exact spared_add (by decide)
  | exact spared_add_add (by decide) | decide

theorem kept_rtcPor (s : State) :
    Keeps s (State.rtcPor s) := by
  unfold State.rtcPor
  repeat' first
  | with_reducible apply Keeps.refl | with_reducible apply Keeps.after (kept_resetRegs _ _ _ ?_)
  | (with_reducible apply Keeps.upd; on_goal 2 => rfl) | exact above_add (by decide) | exact above_add_add (by decide) | decide

theorem kept_toVio18 (s : State) :
    Keeps s (State.toVio18 s) := by
  unfold State.toVio18
  repeat' first
  | with_reducible apply Keeps.refl | with_reducible apply Keeps.after (kept_owedRtc _)
  | (with_reducible apply Keeps.upd; on_goal 2 => rfl)

theorem kept_gapsOf (s : State) (n : Nat) :
    Keeps s (State.gapsOf s n).2 := by
  unfold State.gapsOf
  repeat' first
  | with_reducible apply Keeps.refl | with_reducible assumption | with_reducible apply Keeps.after (kept_gapClose _ _)
  | with_reducible apply Keeps.foldl_snd | (with_reducible intro y a h)

theorem kept_fileBefore (s : State) (f : Nat) (d : Stamp) :
    Keeps s (State.fileBefore s f d) := by
  unfold State.fileBefore
  repeat' first
  | with_reducible apply Keeps.refl | with_reducible assumption | with_reducible apply Keeps.after (kept_removeFinish _)
  | with_reducible apply Keeps.after (kept_fileGrant _ _ _) | with_reducible apply Keeps.foldl | (with_reducible intro y a h)
  | (with_reducible apply Keeps.upd; on_goal 2 => rfl)

theorem kept_closeNext (s : State) (f : Nat) (d : Stamp) :
    Keeps s (State.closeNext s f d).2 := by
  unfold State.closeNext
  repeat' first
  | with_reducible apply Keeps.refl | with_reducible apply Keeps.after (kept_fileBefore _ _ _)
  | with_reducible apply Keeps.after (kept_closeRoll _ _ _ _ _)

theorem kept_fireBell (n : Nat) (b : Stamp) (x2 : Nat) (x3 : List Closed) (s : State) :
    Keeps s (fireBell n b x2 x3 s).2 := by
  induction x2 generalizing x3 s with
  | zero => exact Keeps.refl _
  | succ k ih =>
    unfold fireBell
    split
    · split
      · exact ((kept_closeNext _ _ _)).trans (ih _ _)
      · exact ((kept_fireTimer _ _)).trans (ih _ _)
    · exact Keeps.refl _

theorem kept_deliverBell (s : State) (l : List Closed) :
    Keeps s (State.deliverBell s l) := by
  unfold State.deliverBell
  repeat' first
  | with_reducible apply Keeps.refl | with_reducible assumption | with_reducible apply Keeps.after (kept_deliverClosed _ _)
  | with_reducible apply Keeps.after (kept_slipsOut _ _) | with_reducible apply Keeps.foldl | (with_reducible intro y a h)

theorem kept_ringBells (n : Nat) (x1 : Nat) (x2 : List Closed) (s : State) :
    Keeps s (ringBells n x1 x2 s) := by
  induction x1 generalizing x2 s with
  | zero => exact (kept_deliverBell _ _)
  | succ k ih =>
    unfold ringBells
    split
    · exact (kept_deliverBell _ _)
    · extract_lets c
      have hc : Keeps s c.2 := (kept_fireBell _ _ _ _ _)
      exact (hc.trans ((kept_deliverBell _ _))).trans (ih _ _)

theorem kept_bellsOf (s : State) (n : Nat) :
    Keeps s (State.bellsOf s n) := by
  unfold State.bellsOf
  repeat' first
  | with_reducible apply Keeps.refl | with_reducible apply Keeps.after (kept_gapsOf _ _)
  | with_reducible apply Keeps.after (kept_ringBells _ _ _ _)

theorem kept_bells (s : State) :
    Keeps s (State.bells s) := by
  unfold State.bells
  repeat' first
  | with_reducible apply Keeps.refl | with_reducible apply Keeps.after (kept_bellsOf _ _)

theorem kept_govLimit (s : State) (cause : Nat) :
    Keeps s (State.govLimit s cause) := by
  unfold State.govLimit
  repeat' first
  | with_reducible apply Keeps.refl | with_reducible apply Keeps.after (kept_setRf _ _ _ _ _ ?_)
  | with_reducible apply Keeps.after (kept_flagRaise _ _ _ _ _ ?_ ?_) | with_reducible assumption | exact spared_add (by decide)
  | exact spared_add_add (by decide) | decide

theorem kept_avsSend (s : State) (a : GovAsk) (tries : Nat) :
    Keeps s (State.avsSend s a tries) := by
  unfold State.avsSend
  repeat' first
  | with_reducible apply Keeps.refl | with_reducible apply Keeps.after (kept_setRf _ _ _ _ _ ?_)
  | with_reducible apply Keeps.after (kept_emit _ _ ?_) | split | (with_reducible apply Keeps.upd; on_goal 2 => rfl)
  | exact Eq.refl false | with_reducible assumption | exact spared_add (by decide) | exact spared_add_add (by decide) | decide

theorem kept_govShow (s : State) :
    Keeps s (State.govShow s) := by
  unfold State.govShow
  repeat' first
  | with_reducible apply Keeps.refl | with_reducible apply Keeps.after (kept_setRb _ _ _ _ ?_) | with_reducible assumption
  | exact spared_add (by decide) | exact spared_add_add (by decide) | decide

theorem kept_govNext (s : State) :
    Keeps s (State.govNext s) := by
  unfold State.govNext
  repeat' first
  | with_reducible apply Keeps.refl | with_reducible apply Keeps.after (kept_avsSend _ _ _)
  | with_reducible apply Keeps.after (kept_govShow _) | split | (with_reducible apply Keeps.upd; on_goal 2 => rfl)

theorem kept_avsResponse (s : State) (r : Option Nat) :
    Keeps s (State.avsResponse s r) := by
  unfold State.avsResponse
  repeat' first
  | with_reducible apply Keeps.refl | with_reducible apply Keeps.after (kept_setRf _ _ _ _ _ ?_)
  | with_reducible apply Keeps.after (kept_bump _ _ ?_) | with_reducible apply Keeps.after (kept_govLimit _ _)
  | with_reducible apply Keeps.after (kept_avsSend _ _ _) | with_reducible apply Keeps.after (kept_govNext _)
  | with_reducible apply Keeps.after (kept_govShow _) | split | (with_reducible apply Keeps.upd; on_goal 2 => rfl)
  | with_reducible assumption | exact spared_add (by decide) | exact spared_add_add (by decide) | decide

theorem kept_resetLinks (s : State) :
    Keeps s (State.resetLinks s) := by
  unfold State.resetLinks
  repeat' first
  | with_reducible apply Keeps.refl | with_reducible apply Keeps.after (kept_showDecisions _)
  | with_reducible apply Keeps.after (kept_resetRegs _ _ _ ?_) | (with_reducible apply Keeps.upd; on_goal 2 => rfl)
  | exact above_add (by decide) | exact above_add_add (by decide) | decide

theorem kept_resetNet (s : State) (q : Nat) :
    Keeps s (State.resetNet s q) := by
  unfold State.resetNet
  repeat' first
  | with_reducible apply Keeps.refl | with_reducible apply Keeps.after (kept_resetRegs _ _ _ ?_)
  | with_reducible apply Keeps.after ((within_setRingX _ _ _).kept) | (with_reducible apply Keeps.upd; on_goal 2 => rfl)
  | exact above_add (by decide)

theorem kept_resetMem (s : State) :
    Keeps s (State.resetMem s) := by
  unfold State.resetMem
  repeat' first
  | with_reducible apply Keeps.refl | with_reducible apply Keeps.after (kept_setRf _ _ _ _ _ ?_)
  | with_reducible apply Keeps.after (kept_setRb _ _ _ _ ?_) | (with_reducible apply Keeps.upd; on_goal 2 => rfl)
  | with_reducible assumption | exact spared_add (by decide) | exact spared_add_add (by decide) | decide

theorem kept_resetAcq (s : State) :
    Keeps s (State.resetAcq s) := by
  unfold State.resetAcq
  repeat' first
  | with_reducible apply Keeps.refl | with_reducible apply Keeps.after (kept_resetRegs _ _ _ ?_)
  | with_reducible apply Keeps.after ((within_setRingX _ _ _).kept) | (with_reducible apply Keeps.upd; on_goal 2 => rfl)
  | exact above_add (by decide) | exact above_add_add (by decide) | decide

theorem kept_resetRings (s : State) (keep : Bool) :
    Keeps s (State.resetRings s keep) := by
  unfold State.resetRings
  repeat' first
  | with_reducible apply Keeps.refl | with_reducible assumption | with_reducible apply Keeps.after (kept_setReg _ _ _ ?_)
  | with_reducible apply Keeps.after (kept_resetRegs _ _ _ ?_) | with_reducible apply Keeps.foldl | (with_reducible intro y a h) | split
  | (with_reducible apply Keeps.upd; on_goal 2 => rfl) | exact above_add (by decide) | exact above_add_add (by decide)
  | exact spared_add (by decide) | exact spared_add_add (by decide) | decide

theorem kept_resetSch (s : State) (keep : Bool) :
    Keeps s (State.resetSch s keep) := by
  unfold State.resetSch
  repeat' first
  | with_reducible apply Keeps.refl | with_reducible apply Keeps.after (kept_resetRings _ _)
  | with_reducible apply Keeps.after (kept_resetRegs _ _ _ ?_) | with_reducible apply Keeps.after (kept_setRb _ _ _ _ ?_)
  | (with_reducible apply Keeps.upd; on_goal 2 => rfl) | exact above_add (by decide) | exact above_add_add (by decide)
  | with_reducible assumption | exact spared_add (by decide) | exact spared_add_add (by decide) | decide

theorem kept_resetKey (s : State) :
    Keeps s (State.resetKey s) := by
  unfold State.resetKey
  repeat' first
  | with_reducible apply Keeps.refl | with_reducible apply Keeps.after (kept_resetRegs _ _ _ ?_)
  | (with_reducible apply Keeps.upd; on_goal 2 => rfl) | exact above_add (by decide) | exact above_add_add (by decide) | decide

theorem kept_resetHost (s : State) :
    Keeps s (State.resetHost s) := by
  unfold State.resetHost
  repeat' first
  | with_reducible apply Keeps.refl | with_reducible apply Keeps.after (kept_resetRegs _ _ _ ?_)
  | (with_reducible apply Keeps.upd; on_goal 2 => rfl) | exact above_add (by decide) | exact above_add_add (by decide) | decide

theorem kept_resetClassroom (s : State) (c : Nat) :
    Keeps s (State.resetClassroom s c) := by
  unfold State.resetClassroom
  dsimp only
  repeat' first
  | with_reducible apply Keeps.refl | with_reducible assumption | with_reducible apply Keeps.after ((within_setClassroom _ _ _).kept)
  | with_reducible apply Keeps.after ((within_setLesson _ _ _).kept) | with_reducible apply Keeps.after (kept_resetRegs _ _ _ ?_)
  | with_reducible apply Keeps.after (kept_setRb _ _ _ _ ?_) | with_reducible apply Keeps.foldl | (with_reducible intro y a h) | split
  | exact above_add (by decide) | exact above_add_add (by decide) | exact spared_add (by decide) | exact spared_add_add (by decide)

theorem kept_resetFab (s : State) (q : Nat) :
    Keeps s (State.resetFab s q) := by
  unfold State.resetFab
  dsimp only
  repeat' first
  | with_reducible apply Keeps.refl | with_reducible assumption | with_reducible apply Keeps.after (kept_showCover _)
  | with_reducible apply Keeps.after (kept_absenceFollow _) | with_reducible apply Keeps.after (kept_resetClassroom _ _)
  | with_reducible apply Keeps.foldl | (with_reducible intro y a h) | split

theorem kept_resetField (s : State) :
    Keeps s (State.resetField s) := by
  unfold State.resetField
  repeat' first
  | with_reducible apply Keeps.refl | with_reducible apply Keeps.after (kept_resetRegs _ _ _ ?_)
  | with_reducible apply Keeps.after ((within_setRingX _ _ _).kept) | (with_reducible apply Keeps.upd; on_goal 2 => rfl)
  | exact above_add (by decide) | exact above_add_add (by decide) | decide

theorem kept_resetRcl (s : State) :
    Keeps s (State.resetRcl s) := by
  unfold State.resetRcl
  repeat' first
  | with_reducible apply Keeps.refl | with_reducible apply Keeps.after (kept_resetRegs _ _ _ ?_)
  | (with_reducible apply Keeps.upd; on_goal 2 => rfl) | exact above_add (by decide) | exact above_add_add (by decide) | decide

theorem kept_domReset (s : State) (d : Nat) (keep : Bool) :
    Keeps s (State.domReset s d keep) := by
  unfold State.domReset
  repeat' first
  | with_reducible apply Keeps.refl | with_reducible apply Keeps.after (kept_resetLinks _)
  | with_reducible apply Keeps.after (kept_resetNet _ _) | with_reducible apply Keeps.after (kept_resetMem _)
  | with_reducible apply Keeps.after (kept_resetAcq _) | with_reducible apply Keeps.after (kept_resetSch _ _)
  | with_reducible apply Keeps.after (kept_resetKey _) | with_reducible apply Keeps.after (kept_resetHost _)
  | with_reducible apply Keeps.after (kept_resetFab _ _) | with_reducible apply Keeps.after (kept_resetField _)
  | with_reducible apply Keeps.after (kept_resetRcl _) | split

theorem kept_domainEvent (s : State) :
    Keeps s (State.domainEvent s) := by
  unfold State.domainEvent
  repeat' first
  | with_reducible apply Keeps.refl | with_reducible apply Keeps.after (kept_flagRaise _ _ _ _ _ ?_ ?_) | with_reducible assumption
  | exact spared_add (by decide) | exact spared_add_add (by decide) | decide

theorem kept_govPut (s : State) (a : GovAsk) :
    Keeps s (State.govPut s a) := by
  unfold State.govPut
  repeat' first
  | with_reducible apply Keeps.refl | with_reducible apply Keeps.after (kept_avsSend _ _ _)
  | with_reducible apply Keeps.after (kept_govShow _) | split | (with_reducible apply Keeps.upd; on_goal 2 => rfl)

theorem kept_govRequest (s : State) (mv : Nat) (manual : Bool) :
    Keeps s (State.govRequest s mv manual) := by
  unfold State.govRequest
  repeat' first
  | with_reducible apply Keeps.refl | with_reducible apply Keeps.after (kept_govPut _ _)

theorem kept_recessEnergy (s : State) :
    Keeps s (State.recessEnergy s) := by
  unfold State.recessEnergy
  repeat' first
  | with_reducible apply Keeps.refl | with_reducible assumption | with_reducible apply Keeps.after (kept_nrgEnd _ _)
  | with_reducible apply Keeps.foldl | (with_reducible intro y a h)

theorem kept_t1sFlush (g : Nat) (x1 : Nat) (s : State) :
    Keeps s (State.t1sFlush g x1 s) := by
  induction x1 generalizing s with
  | zero => exact Keeps.refl _
  | succ k ih =>
    unfold State.t1sFlush
    split
    · exact Keeps.refl _
    · exact (Keeps.after (kept_t1sSendComplete _ _) ((within_setSegm _ _ _).kept)).trans (ih _)

theorem kept_segFinish (p : Nat) (x1 : Nat) (s : State) :
    Keeps s (State.segFinish p x1 s) := by
  induction x1 generalizing s with
  | zero => exact Keeps.refl _
  | succ k ih =>
    unfold State.segFinish
    split
    · exact ((kept_segSend _ _ _ _)).trans (ih _)
    · exact Keeps.refl _

theorem kept_recessRings (s : State) :
    Keeps s (State.recessRings s) := by
  unfold State.recessRings
  repeat' first
  | with_reducible apply Keeps.refl | with_reducible assumption | with_reducible apply Keeps.after (kept_t1sFlush _ _ _)
  | with_reducible apply Keeps.after (kept_ringEn _ _ _) | with_reducible apply Keeps.after (kept_segFinish _ _ _)
  | with_reducible apply Keeps.after (kept_setRb _ _ _ _ ?_) | with_reducible apply Keeps.after (kept_recComplete _)
  | with_reducible apply Keeps.foldl | (with_reducible intro y a h) | split | exact spared_add (by decide)

theorem kept_govStop (s : State) :
    Keeps s (State.govStop s) := by
  unfold State.govStop
  repeat' first
  | with_reducible apply Keeps.refl | with_reducible apply Keeps.after (kept_setRf _ _ _ _ _ ?_) | split | with_reducible assumption
  | exact spared_add (by decide) | exact spared_add_add (by decide) | decide

theorem kept_govStart (s : State) :
    Keeps s (State.govStart s) := by
  unfold State.govStart
  repeat' first
  | with_reducible apply Keeps.refl | with_reducible apply Keeps.after (kept_setReg _ _ _ ?_)
  | with_reducible apply Keeps.after (kept_govPut _ _) | (with_reducible apply Keeps.upd; on_goal 2 => rfl) | with_reducible assumption
  | exact spared_add (by decide) | exact spared_add_add (by decide) | decide

theorem kept_hostReset (s : State) :
    Keeps s (State.hostReset s) := by
  unfold State.hostReset
  repeat' first
  | with_reducible apply Keeps.refl | with_reducible assumption | with_reducible apply Keeps.after (kept_resetRings _ _)
  | with_reducible apply Keeps.after (kept_ringAbandon _ _) | with_reducible apply Keeps.foldl | (with_reducible intro y a h)
  | (with_reducible apply Keeps.upd; on_goal 2 => rfl)

theorem kept_functionReset (s : State) (d3hot : Bool) :
    Keeps s (State.functionReset s d3hot) := by
  unfold State.functionReset
  repeat' first
  | with_reducible apply Keeps.refl | with_reducible apply Keeps.after (kept_hostReset _)
  | with_reducible apply Keeps.after (kept_setRb _ _ _ _ ?_) | split | (with_reducible apply Keeps.upd; on_goal 2 => rfl)
  | with_reducible assumption | exact spared_add (by decide) | exact spared_add_add (by decide) | decide

theorem kept_govStep (s : State) (up : Bool) :
    Keeps s (State.govStep s up) := by
  unfold State.govStep
  dsimp only
  repeat' first
  | with_reducible apply Keeps.refl | with_reducible apply Keeps.after (kept_bump _ _ ?_)
  | with_reducible apply Keeps.after (kept_govRequest _ _ _) | with_reducible apply Keeps.after (kept_govLimit _ _) | split
  | with_reducible assumption | exact spared_add (by decide)

theorem kept_owedTamper (s : State) :
    Keeps s (State.owedTamper s) := by
  unfold State.owedTamper
  repeat' first
  | with_reducible apply Keeps.refl | with_reducible apply Keeps.after (kept_flagRaise _ _ _ _ _ ?_ ?_) | split
  | (with_reducible apply Keeps.upd; on_goal 2 => rfl) | with_reducible assumption | exact spared_add (by decide)
  | exact spared_add_add (by decide) | decide

theorem kept_perst (s : State) :
    Keeps s (State.perst s) := by
  unfold State.perst
  repeat' first
  | with_reducible apply Keeps.refl | with_reducible apply Keeps.after (kept_hostReset _)
  | with_reducible apply Keeps.after (kept_setRb _ _ _ _ ?_) | (with_reducible apply Keeps.upd; on_goal 2 => rfl)
  | with_reducible assumption | exact spared_add (by decide) | exact spared_add_add (by decide) | decide

theorem kept_startFirst (s : State) (pairId : Bool) (pos : Nat) :
    Keeps s (State.startFirst s pairId pos) := by
  unfold State.startFirst
  repeat' first
  | with_reducible apply Keeps.refl | with_reducible apply Keeps.after (kept_setReg _ _ _ ?_)
  | with_reducible apply Keeps.after (kept_setRb _ _ _ _ ?_) | with_reducible assumption | exact spared_add (by decide)
  | exact spared_add_add (by decide) | decide

theorem kept_therm (s : State) (temps : List Int) :
    Keeps s (State.therm s temps) := by
  unfold State.therm
  repeat' first
  | with_reducible apply Keeps.refl | with_reducible apply Keeps.after (kept_raise _ _ _ ?_) | split
  | (with_reducible apply Keeps.upd; on_goal 2 => rfl) | with_reducible assumption | exact spared_add (by decide)
  | exact spared_add_add (by decide) | decide

theorem kept_windowEnd (s : State) :
    Keeps s (State.windowEnd s) := by
  unfold State.windowEnd
  dsimp only
  repeat' first
  | with_reducible apply Keeps.refl | with_reducible assumption | with_reducible apply Keeps.after (kept_setRf _ _ _ _ _ ?_)
  | with_reducible apply Keeps.after (kept_govStep _ _) | with_reducible apply Keeps.after (kept_flagRaise _ _ _ _ _ ?_ ?_) | split
  | (with_reducible apply Keeps.upd; on_goal 2 => rfl) | exact spared_add (by decide) | exact spared_add_add (by decide) | decide

theorem kept_tmxHook (s : State) (off : Nat) (v : Word) :
    Keeps s (State.tmxHook s off v) := by
  unfold State.tmxHook
  repeat' first
  | with_reducible apply Keeps.refl | with_reducible apply Keeps.after (kept_setRf _ _ _ _ _ ?_) | split | with_reducible assumption
  | exact spared_add (by decide) | exact spared_add_add (by decide) | decide

theorem kept_updateIr (s : State) (code : Nat) :
    Keeps s (State.updateIr s code) := by
  unfold State.updateIr
  dsimp only
  repeat' first
  | with_reducible apply Keeps.refl | with_reducible assumption | with_reducible apply Keeps.after (kept_setRf _ _ _ _ _ ?_)
  | with_reducible apply Keeps.after (kept_setRb _ _ _ _ ?_) | split | exact spared_add (by decide) | exact spared_add_add (by decide)
  | decide

/-- The test port reaches the TMX unit alone (R491). -/
theorem kept_tapPerform (s : State) (write : Bool) (wordOff : Nat) (v : Word) :
    Keeps s (State.tapPerform s write wordOff v).1 := by
  have hoff : Spared (0x1A0000 + 4 * wordOff) := spared_add (by decide)
  have hst : Spared Reg.TMX_STATUS := by decide
  unfold State.tapPerform
  dsimp only
  repeat' first
  | with_reducible apply Keeps.refl | with_reducible apply Keeps.after (kept_setReg _ _ _ hoff)
  | with_reducible apply Keeps.after (kept_tmxHook _ _ _) | with_reducible apply Keeps.after (kept_setRb _ _ _ _ hst) | split

theorem kept_tapAccess (s : State) (w : BitVec 48) :
    Keeps s (State.tapAccess s w) := by
  unfold State.tapAccess
  repeat' first
  | with_reducible apply Keeps.refl | with_reducible apply Keeps.after (kept_tapPerform _ _ _ _)
  | with_reducible apply Keeps.after (kept_emit _ _ ?_) | split | (with_reducible apply Keeps.upd; on_goal 2 => rfl)
  | exact Eq.refl false

theorem kept_tapReset (s : State) :
    Keeps s (State.tapReset s) := by
  unfold State.tapReset
  repeat' first
  | with_reducible apply Keeps.refl | with_reducible apply Keeps.after (kept_setRf _ _ _ _ _ ?_)
  | (with_reducible apply Keeps.upd; on_goal 2 => rfl) | with_reducible assumption | exact spared_add (by decide)
  | exact spared_add_add (by decide) | decide

theorem kept_busError (s : State) (q : Request) (off : Nat) (cause : Nat) :
    Keeps s (State.busError s q off cause) := by
  unfold State.busError
  repeat' first
  | with_reducible apply Keeps.refl | with_reducible apply Keeps.after (kept_setReg _ _ _ ?_)
  | with_reducible apply Keeps.after (kept_setRf _ _ _ _ _ ?_) | with_reducible apply Keeps.after (kept_raise _ _ _ ?_) | split
  | with_reducible assumption | exact spared_add (by decide) | exact spared_add_add (by decide) | decide

theorem kept_evtHook (s : State) (before : State) (off : Nat) (v : Word) :
    Keeps s (State.evtHook s before off v) := by
  unfold State.evtHook
  dsimp only
  repeat' first
  | with_reducible apply Keeps.refl | with_reducible apply Keeps.after (kept_raise _ _ _ ?_)
  | with_reducible apply Keeps.after (kept_msixAll _) | with_reducible apply Keeps.after ((within_msixSettle _).kept)
  | with_reducible apply Keeps.after (kept_msixRises _ _) | split | with_reducible assumption | exact spared_add (by decide)
  | exact spared_add_add (by decide) | decide

theorem kept_fabHook (s : State) (off : Nat) (e : Env) :
    Keeps s (State.fabHook s off e) := by
  unfold State.fabHook
  dsimp only
  repeat' first
  | with_reducible apply Keeps.refl | with_reducible apply Keeps.after (kept_selfCheck _ _ _) | split

theorem kept_rngHook (s : State) (off : Nat) (v : Word) :
    Keeps s (State.rngHook s off v) := by
  unfold State.rngHook
  dsimp only
  repeat' first
  | with_reducible apply Keeps.refl | with_reducible assumption | with_reducible apply Keeps.after (kept_setReg _ _ _ ?_)
  | with_reducible apply Keeps.after (kept_ring1Pump _) | with_reducible apply Keeps.after (kept_ringEn _ _ _)
  | with_reducible apply Keeps.after (kept_recPump _) | split | exact spared_add (by decide) | exact spared_add_add (by decide) | decide

theorem kept_cfgControl (s : State) (w : Word) :
    Keeps s (State.cfgControl s w) := by
  unfold State.cfgControl
  repeat' first
  | with_reducible apply Keeps.refl | with_reducible apply Keeps.after (kept_functionReset _ _) | split
  | (with_reducible apply Keeps.upd; on_goal 2 => rfl)

theorem kept_cfgMessages (s : State) (p : Pcie) :
    Keeps s (State.cfgMessages s p) := by
  unfold State.cfgMessages
  repeat' first
  | with_reducible apply Keeps.refl | with_reducible assumption | with_reducible apply Keeps.after (kept_msixRelease _ _)
  | with_reducible apply Keeps.foldl | (with_reducible intro y a h) | (with_reducible apply Keeps.upd; on_goal 2 => rfl)

theorem kept_cfgPut (s : State) (off : Nat) (be : BitVec 4) (v : Word) :
    Keeps s (State.cfgPut s off be v) := by
  unfold State.cfgPut
  repeat' first
  | with_reducible apply Keeps.refl | with_reducible apply Keeps.after (kept_functionReset _ _)
  | with_reducible apply Keeps.after (kept_cfgControl _ _) | with_reducible apply Keeps.after (kept_cfgMessages _ _) | split
  | (with_reducible apply Keeps.upd; on_goal 2 => rfl)

theorem kept_complete (s : State) (r : Option (List Word)) :
    Keeps s (State.complete s r) := by
  unfold State.complete
  repeat' first
  | with_reducible apply Keeps.refl | with_reducible apply Keeps.after ((within_aerNote _ _).kept)
  | with_reducible apply Keeps.after (kept_emit _ _ ?_) | split | exact Eq.refl false

theorem kept_copyTake (s : State) (r : Nat) (ecc : Option Nat) (ce : List Nat) :
    Keeps s (State.copyTake s r ecc ce) := by
  unfold State.copyTake
  dsimp only
  repeat' first
  | with_reducible apply Keeps.refl | with_reducible assumption | with_reducible apply Keeps.after ((within_draw _ _).kept)
  | with_reducible apply Keeps.after (kept_memUe _ _) | with_reducible apply Keeps.after ((within_hbmWrite _ _ _).kept)
  | with_reducible apply Keeps.after (kept_ringReturn _ _ _ _) | with_reducible apply Keeps.after ((within_hostWrite _ _ _).kept)
  | with_reducible apply Keeps.after (kept_memCe _ _) | with_reducible apply Keeps.foldl | (with_reducible intro y a h) | split

theorem kept_getDW (s : State) (q : Request) (off : Nat) :
    Keeps s (State.getDW s q off).1 := by
  unfold State.getDW
  dsimp only
  repeat' first
  | with_reducible apply Keeps.refl | with_reducible assumption | with_reducible apply Keeps.after (kept_busError _ _ _ _)
  | with_reducible apply Keeps.after ((within_readReg _ _).kept) | split

theorem kept_unsupported (s : State) :
    Keeps s (State.unsupported s) := by
  unfold State.unsupported
  repeat' first
  | with_reducible apply Keeps.refl | with_reducible apply Keeps.after ((within_aerNote _ _).kept)
  | with_reducible apply Keeps.after (kept_emit _ _ ?_) | exact Eq.refl false

theorem kept_hbmAccess (s : State) (off : Nat) (req : Bar2Req) (fbe : BitVec 4) (lbe : BitVec 4) :
    Keeps s (State.hbmAccess s off req fbe lbe) := by
  unfold State.hbmAccess
  repeat' first
  | with_reducible apply Keeps.refl | with_reducible assumption | with_reducible apply Keeps.after (kept_memUe _ _)
  | with_reducible apply Keeps.after (kept_busError _ _ _ _) | with_reducible apply Keeps.after ((within_hbmPuts _ _ _).kept)
  | with_reducible apply Keeps.after (kept_complete _ _) | with_reducible apply Keeps.after ((within_aerNote _ _).kept)
  | with_reducible apply Keeps.after (kept_memCe _ _) | with_reducible apply Keeps.after (kept_unsupported _)
  | with_reducible apply Keeps.after (kept_emit _ _ ?_) | with_reducible apply Keeps.foldl | (with_reducible intro y a h) | split
  | exact Eq.refl false

theorem kept_hostGet (s : State) (bar : Bar) (q : Request) (off : Nat) (be : BitVec 4) :
    Keeps s (State.hostGet s bar q off be).1 := by
  unfold State.hostGet
  dsimp only
  repeat' first
  | with_reducible apply Keeps.refl | with_reducible apply Keeps.after (kept_busError _ _ _ _)
  | with_reducible apply Keeps.after (kept_getDW _ _ _) | split

theorem kept_msixPut (s : State) (off : Nat) (be : BitVec 4) (v : Word) :
    Keeps s (State.msixPut s off be v) := by
  unfold State.msixPut
  repeat' first
  | with_reducible apply Keeps.refl | with_reducible apply Keeps.after (kept_msixRelease _ _) | split
  | (with_reducible apply Keeps.upd; on_goal 2 => rfl)

theorem kept_hostGets (bar : Bar) (q : Request) (fbe : BitVec 4) (lbe : BitVec 4) (n : Nat) (off : Nat) (x6 : Nat) (x7 : Nat) (x8 : Option (List Word)) (s : State) :
    Keeps s (hostGets bar q fbe lbe n off x6 x7 x8 s).1 := by
  induction x6 generalizing s x7 x8 with
  | zero =>
    unfold hostGets
    first | exact Keeps.refl _ | exact (Keeps.refl _) | (split <;> exact Keeps.refl _)
  | succ n ih =>
    unfold hostGets
    repeat' first
    | (extract_lets +onlyGivenNames x; first
        | (refine (fun (h : Keeps s x) => ?_) ?_; clear_value x; rotate_left; subst x; rotate_left)
        | (refine (fun (h : Keeps s x.1) => ?_) ?_; clear_value x; rotate_left; subst x; rotate_left)
        | (refine (fun (h : Keeps s x.2) => ?_) ?_; clear_value x; rotate_left; subst x; rotate_left)
        | clear_value x
        | skip)
    | with_reducible apply Keeps.refl | with_reducible assumption | with_reducible apply Keeps.after (kept_hostGet _ _ _ _ _)
    | with_reducible apply Keeps.after (ih _ _ _)

theorem kept_pairRead (s : State) (q : Request) (off : Nat) :
    Keeps s (State.pairRead s q off).1 := by
  unfold State.pairRead
  dsimp only
  repeat' first
  | with_reducible apply Keeps.refl | with_reducible assumption | with_reducible apply Keeps.after (kept_busError _ _ _ _)
  | with_reducible apply Keeps.after ((within_readReg _ _).kept) | split

theorem kept_hostReads (s : State) (bar : Bar) (off : Nat) (n : Nat) (fbe : BitVec 4) (lbe : BitVec 4) :
    Keeps s (State.hostReads s bar off n fbe lbe) := by
  unfold State.hostReads
  repeat' first
  | with_reducible apply Keeps.refl | with_reducible apply Keeps.after (kept_hostGets _ _ _ _ _ _ _ _ _ _)
  | with_reducible apply Keeps.after (kept_busError _ _ _ _) | with_reducible apply Keeps.after (kept_pairRead _ _ _)
  | with_reducible apply Keeps.after (kept_complete _ _) | with_reducible apply Keeps.after (kept_unsupported _) | split

theorem kept_postCompletion (s : State) (idx : Nat) (tag : Nat) (v : Word) (status : Nat) :
    Keeps s (State.postCompletion s idx tag v status) := by
  unfold State.postCompletion
  repeat' first
  | with_reducible apply Keeps.refl | with_reducible apply Keeps.after (kept_postOwed _ _ _)

theorem kept_ring0Return (s : State) (d : List Byte) (idx : Nat) (cpl : Bool) (v : Word) (status : Nat) :
    Keeps s (State.ring0Return s d idx cpl v status) := by
  unfold State.ring0Return
  repeat' first
  | with_reducible apply Keeps.refl | with_reducible apply Keeps.after (kept_postCompletion _ _ _ _ _)
  | with_reducible apply Keeps.after (kept_ringReturn _ _ _ _) | split

theorem kept_ringDmaError (s : State) (r : Nat) (write : Bool) (work : Bool) (kind : Nat) (addr : Nat) :
    Keeps s (State.ringDmaError s r write work kind addr) := by
  unfold State.ringDmaError
  repeat' first
  | with_reducible apply Keeps.refl | with_reducible apply Keeps.after (kept_ringFail _ _ _ _ _ _)
  | with_reducible apply Keeps.after ((within_aerNote _ _).kept) | split

theorem kept_ringStopped (s : State) (r : Nat) :
    Keeps s (State.ringStopped s r) := by
  unfold State.ringStopped
  repeat' first
  | with_reducible apply Keeps.refl | with_reducible apply Keeps.after (kept_ringOff _ _) | split

theorem kept_ringTimer (s : State) (r : Nat) :
    Keeps s (State.ringTimer s r) := by
  unfold State.ringTimer
  dsimp only
  repeat' first
  | with_reducible apply Keeps.refl | with_reducible apply Keeps.after (kept_ringEvent _ _)
  | with_reducible apply Keeps.after ((within_setRingX _ _ _).kept) | with_reducible apply Keeps.after (kept_setRb _ _ _ _ ?_) | split
  | with_reducible assumption | exact spared_add (by decide)

theorem kept_acRun (s : State) (idle : Nat) :
    Keeps s (State.acRun s idle) := by
  unfold State.acRun
  repeat' split
  all_goals rfl

theorem kept_dataScan (s : State) (balls : BitVec 298) (shifted : BitVec 298) :
    Keeps s (State.dataScan s balls shifted) := by
  unfold State.dataScan
  repeat' first
  | with_reducible apply Keeps.refl | with_reducible apply Keeps.after (kept_emit _ _ ?_) | split
  | (with_reducible apply Keeps.upd; on_goal 2 => rfl) | exact Eq.refl false

theorem kept_jtagScan (s : State) (j : JtagScan) :
    Keeps s (State.jtagScan s j) := by
  unfold State.jtagScan
  repeat' first
  | with_reducible apply Keeps.refl | with_reducible apply Keeps.after (kept_updateIr _ _)
  | with_reducible apply Keeps.after (kept_acRun _ _) | with_reducible apply Keeps.after (kept_dataScan _ _ _)
  | with_reducible apply Keeps.after (kept_emit _ _ ?_) | split | exact Eq.refl false

theorem kept_period (s : State) :
    Keeps s (State.period s) := by
  unfold State.period
  repeat' first
  | with_reducible apply Keeps.refl | with_reducible apply Keeps.after (kept_clockPeriod _)
  | with_reducible apply Keeps.after (kept_t1sJams _)

end Sys2Proof.Machine

/-! What a command is, for the guarded part: one that keeps it, or one of the eight kinds that may change it. -/

namespace Sys2Proof.Machine

-- One declaration after another: side by side, their threads' stacks pass the memory limit of a check.
set_option Elab.async false

/-- How a command takes `s` to its next state, where the guarded part may change in more than one way. -/
inductive Reaches (s : State) : State → Prop
  | keeps {t : State} (h : Keeps s t) : Reaches s t
  /-- a host write request -/
  | host (bar : Bar) (off : Nat) (data : List Word) (fbe lbe : BitVec 4) (e : Env) : Reaches s (s.hostWrites bar off data fbe lbe e)
  /-- a descriptor of ring 0 -/
  | ring0 (ops : Nat → Bool) : Reaches s (s.ring0Take ops)
  /-- the boot, with the register list of its image -/
  | boot (bad : List (Nat × Nat)) (desks : List (Nat × Nat)) : Reaches s (s.bootLoad State.bootWrite bad desks)
  | power (p : MainPower) : Reaches s (s.mainPower p)
  | start (pairId : Bool) (r : Release) : Reaches s (s.startUp pairId r)
  | done : Reaches s s.domainDone
  | wake : Reaches s s.wake
  | pulse (n : Fin 4) : Reaches s (s.pulseOutput n)

variable {s t u : State}

theorem Keeps.ite {c : Prop} [Decidable c] (h : Keeps s u) : Keeps s (if c then u else s) := by
  split
  · exact h
  · exact Keeps.refl s

theorem Reaches.of_next (r : Reaches s u) (h : (.next u : Host.Outcome State Fault Refusal) = .next t) : Reaches s t :=
  Host.Outcome.next.inj h ▸ r

theorem Reaches.of_inside {p : Prop} [Decidable p] (r : Reaches s u) (h : inside p u = .next t) : Reaches s t := inside_next h ▸ r

/-- Every command that completes is of one of these kinds. -/
theorem exec_reaches {c : Instr} (h : exec c s = .next t) : Reaches s t := by
  cases c with
  | registerWrite bar off data fbe lbe => exact .of_inside (.host _ _ _ _ _ _) h
  | aliasWrite view reg v be => exact .of_inside (.host _ _ _ _ _ _) h
  | pairLowRead bar off n fbe lbe => exact .of_inside (.keeps (kept_hostReads _ _ _ _ _ _)) h
  | pairLowWrite reg v => exact .of_inside (.host _ _ _ _ _ _) h
  | pairHighWrite reg v => exact .of_inside (.host _ _ _ _ _ _) h
  | pairAtomicAccess reg v =>
    cases v with
    | none => exact .of_inside (.keeps (kept_hostReads _ _ _ _ _ _)) h
    | some w => exact .of_inside (.host _ _ _ _ _ _) h
  | atomicopRequest => exact .of_next (.keeps (kept_unsupported _).ite) h
  | bar2Access off req fbe lbe => exact .of_inside (.keeps (kept_hbmAccess _ _ _ _ _)) h
  | glbLockSet v => exact .of_next (.host _ _ _ _ _ _) h
  | buserrClear v => exact .of_next (.host _ _ _ _ _ _) h
  | memUeClear v => exact .of_next (.host _ _ _ _ _ _) h
  | deviceReset v => exact .of_next (.host _ _ _ _ _ _) h
  | functionLevelReset d3hot => exact .of_next (.keeps (kept_functionReset _ _).ite) h
  | perst => exact .of_next (.keeps (kept_perst _)) h
  | mainPowerOnReset power => exact .of_next (.power _) h
  | startUp pairId release => exact .of_next (.start _ _) h
  | bootLoad bad desks => exact .of_next (.boot _ _) h
  | imgLoad v desks => exact .of_next (.host _ _ _ _ _ _) h
  | imgCache v => exact .of_next (.host _ _ _ _ _ _) h
  | update v desks ecc => exact .of_next (.host _ _ _ _ _ _) h
  | repair v desks ecc => exact .of_next (.host _ _ _ _ _ _) h
  | unload v => exact .of_next (.host _ _ _ _ _ _) h
  | autoRepair c desks ecc => exact .of_next (.keeps (kept_autoRepair _ _ _)) h
  | tbEnable n v => exact .of_next (.host _ _ _ _ _ _) h
  | tbDisable n v => exact .of_next (.host _ _ _ _ _ _) h
  | stepGo n v => exact .of_next (.host _ _ _ _ _ _) h
  | stepApply n => exact .of_next (.keeps (kept_stepApply _ _)) h
  | tbRateCommit n v => exact .of_next (.host _ _ _ _ _ _) h
  | holdReq n v => exact .of_next (.host _ _ _ _ _ _) h
  | holdRel n v => exact .of_next (.host _ _ _ _ _ _) h
  | tbWatchdogExpiry n => exact .of_next (.keeps (kept_tbWatchdog _ _)) h
  | tbMpdSample n v => exact .of_next (.host _ _ _ _ _ _) h
  | pllLossOfLock => exact .of_next (.keeps (kept_pllLoss _)) h
  | pllLock => exact .of_next (.keeps (kept_setRb _ _ _ _ (by decide))) h
  | ppsInEdge rising width ph => exact .of_next (.keeps (kept_ppsIn _ _ _ _)) h
  | ppsOutPulse n => exact .of_next (.keeps (kept_ppsOut _ _)) h
  | leapPendStart n => exact .of_next (.keeps (kept_leapPend _ _)) h
  | leapSecondApply n => exact .of_next (.keeps (kept_leapApply _ _)) h
  | leapOccExpiry n => exact .of_next (.keeps (kept_leapExpire _ _)) h
  | tsqPop p v => exact .of_next (.host _ _ _ _ _ _) h
  | rtcLoadArm v => exact .of_next (.host _ _ _ _ _ _) h
  | rtcLoadApply => exact .of_next (.keeps (kept_crystalTick _).ite) h
  | rtcAlarm => exact .of_next (.keeps (kept_crystalTick _).ite) h
  | oscStop => exact .of_next (.keeps (kept_oscStop _)) h
  | batLowSample mv => exact .of_next (.keeps (kept_batSample _ _)) h
  | switchToVbat => exact .of_next (.keeps (kept_toVbat _)) h
  | switchToVio18 => exact .of_next (.keeps (kept_toVio18 _)) h
  | pdAonPowerOnReset => exact .of_next (.keeps ((kept_keyAonPor _).after (kept_rtcPor _))) h
  | macCtrlWrite p v => exact .of_next (.host _ _ _ _ _ _) h
  | macLink p block fec => exact .of_next (.keeps (kept_macLinkChange _ _ _ _ _ _)) h
  | frameReceive p bs pcsErr ph full => exact .of_next (.keeps (kept_frameReceive _ _ _ _ _ _)) h
  | prpLanFault q lan => exact .of_next (.keeps (kept_prpLanFault _ _ _)) h
  | macTransmit p ph => exact .of_next (.keeps (kept_macTransmit _ _ _)) h
  | t1sDescriptorTake => exact .of_next (.keeps (kept_t1sTake _)) h
  | t1sDeferEnd g => exact .of_next (.keeps (kept_t1sDeferEnd _ _)) h
  | t1sSendComplete g => exact .of_next (.keeps (kept_t1sSendComplete _ _)) h
  | t1sCollision g bits => exact .of_next (.keeps (kept_t1sCollision _ _ _)) h
  | t1sBackoffExpiry g => exact .of_next (.keeps (kept_t1sBackoffExpiry _ _)) h
  | t1sSeedWrite v => exact .of_next (.host _ _ _ _ _ _) h
  | t1sReceive g bs full => exact .of_next (.keeps (kept_t1sReceive _ _ _ _)) h
  | intakeFrame p => exact .of_next (.keeps (kept_intakeFrame _ _)) h
  | seatAdd v => exact .of_next (.host _ _ _ _ _ _) h
  | seatRemove v => exact .of_next (.host _ _ _ _ _ _) h
  | streamSilent code => exact .of_next (.keeps (kept_streamSilent _ _)) h
  | frameFile => exact .of_next (.keeps (kept_frameFile _)) h
  | rollRelease => exact .of_next (.keeps (kept_bells _)) h
  | rclEnable v => exact .of_next (.host _ _ _ _ _ _) h
  | formStart v => exact .of_next (.host _ _ _ _ _ _) h
  | formStop v => exact .of_next (.host _ _ _ _ _ _) h
  | formRetime v => exact .of_next (.host _ _ _ _ _ _) h
  | seatMove v => exact .of_next (.host _ _ _ _ _ _) h
  | lessonBegin desk => exact .of_next (.keeps (kept_lessonBegin _ _)) h
  | resultRecord c d tag stuck ce => exact .of_next (.keeps (kept_resultRecord _ _ _ _ _ _)) h
  | reportCardPublish desk => exact .of_next (.keeps (kept_reportCardPublish _ _)) h
  | deskWatchdogExpiry c p => exact .of_next (.keeps (kept_deskWatchdog _ _ _ _)) h
  | slateParityError c p => exact .of_next (.keeps (kept_slateParity _ _ _)) h
  | chalkboardUe c rd => exact .of_next (.keeps (kept_chalkboardUe _ _ _ _)) h
  | selfCheck c v bad => exact .of_next (.host _ _ _ _ _ _) h
  | spareCheck bad => exact .of_next (.keeps (kept_spareCheck _ _)) h
  | replicaMeasure c ps => exact .of_next (.keeps (kept_replica _ _ _)) h
  | anaCommit v => exact .of_next (.host _ _ _ _ _ _) h
  | latchClear v => exact .of_next (.host _ _ _ _ _ _) h
  | acqCircuitEnable c v => exact .of_next (.host _ _ _ _ _ _) h
  | acqCircuitDisable c v => exact .of_next (.host _ _ _ _ _ _) h
  | acqSample ch tap periods levels => exact .of_next (.keeps (kept_acqSample _ _ _ _)) h
  | acqModFault ch => exact .of_next (.keeps (kept_acqModFault _ _)) h
  | fltXfade v => exact .of_next (.host _ _ _ _ _ _) h
  | phasorEstimate c => exact .of_next (.keeps (kept_phasorEstimate _ _)) h
  | energyPeriod c => exact .of_next (.keeps (kept_energyPeriod _ _)) h
  | pulseOutput n => exact .of_next (.pulse _) h
  | nrgIntervalEnd => exact .of_next (.keeps (kept_nrgIntervalEnd _)) h
  | nrgSnap v => exact .of_next (.host _ _ _ _ _ _) h
  | nrgLoad v => exact .of_next (.host _ _ _ _ _ _) h
  | nrgClear v => exact .of_next (.host _ _ _ _ _ _) h
  | nrgCircuitEnable c v => exact .of_next (.host _ _ _ _ _ _) h
  | evtInEdge input rising ph held => exact .of_next (.keeps (kept_evtInEdge _ _ _ _ _)) h
  | markHoldClose => exact .of_next (.keeps (kept_markHoldClose _)) h
  | recorderFrame => exact .of_next (.keeps (kept_recorderFrame _)) h
  | recorderFlush => exact .of_next (.keeps (kept_recorderFlush _)) h
  | recorderStart v => exact .of_next (.host _ _ _ _ _ _) h
  | recorderStop v => exact .of_next (.host _ _ _ _ _ _) h
  | taskCreate v => exact .of_next (.host _ _ _ _ _ _) h
  | taskDestroy v => exact .of_next (.host _ _ _ _ _ _) h
  | taskDone v => exact .of_next (.host _ _ _ _ _ _) h
  | flagSet v => exact .of_next (.host _ _ _ _ _ _) h
  | dispatch sets => exact .of_next (.keeps (kept_dispatch _ _)) h
  | taskEngineComplete engine => exact .of_next (.keeps (kept_engineComplete _ _)) h
  | timerArm v => exact .of_next (.host _ _ _ _ _ _) h
  | timerDisarm v => exact .of_next (.host _ _ _ _ _ _) h
  | timerFire => exact .of_next (.keeps (kept_bells _)) h
  | ringTailAdvance r v => exact .of_next (.host _ _ _ _ _ _) h
  | ringEnable r v => exact .of_next (.host _ _ _ _ _ _) h
  | ringDisable r v => exact .of_next (.host _ _ _ _ _ _) h
  | ringStopped r => exact .of_next (.keeps (kept_ringStopped _ _)) h
  | ringDmaError r access kind addr => exact .of_next (.keeps (kept_ringDmaError _ _ _ _ _ _)) h
  | ringCoalesceTimer r => exact .of_next (.keeps (kept_ringTimer _ _)) h
  | ringWrite => exact .of_next (.ring0 _) h
  | ringRead => exact .of_next (.ring0 _) h
  | ringCopy r ecc => exact .of_next (.keeps (kept_copyTake _ _ _ _)) h
  | evtStatusClear k v => exact .of_next (.host _ _ _ _ _ _) h
  | soft v => exact .of_next (.host _ _ _ _ _ _) h
  | keyGenerate => exact .of_next (.keeps (kept_keyServe _ _ _ fun _ _ => (within_opGenerate _ _).kept)) h
  | keyDerive => exact .of_next (.keeps (kept_keyServe _ _ _ fun _ _ => (within_opDerive _ _).kept)) h
  | keyImport => exact .of_next (.keeps (kept_keyServe _ _ _ fun _ _ => (within_opImport _ _).kept)) h
  | keyFree => exact .of_next (.keeps (kept_keyServe _ _ _ fun _ _ => kept_opFree _ _)) h
  | keyRevoke => exact .of_next (.keeps (kept_keyServe _ _ _ fun _ _ => kept_opRevoke _ _)) h
  | keyMac => exact .of_next (.keeps (kept_keyServe _ _ _ fun _ _ => (within_opMac _ _).kept)) h
  | keyMacVerify => exact .of_next (.keeps (kept_keyServe _ _ _ fun _ _ => (within_opMacVerify _ _).kept)) h
  | keySign => exact .of_next (.keeps (kept_keyServe _ _ _ fun _ _ => (within_opSign _ _).kept)) h
  | keyVerify => exact .of_next (.keeps (kept_keyServe _ _ _ fun _ _ => (within_opVerify _ _).kept)) h
  | keyPublic => exact .of_next (.keeps (kept_keyServe _ _ _ fun _ _ => (within_opPublic _ _).kept)) h
  | keyAttest => exact .of_next (.keeps (kept_keyServe _ _ _ fun _ _ => kept_opAttest _ _)) h
  | keyRandom => exact .of_next (.keeps (kept_keyServe _ _ _ fun _ _ => (within_opRandom _ _).kept)) h
  | keyScrub upset => exact .of_next (.keeps (kept_keyScrub _ _)) h
  | tamper pins us view => exact .of_next (.keeps (kept_tamperSee _ _ _ _ _)) h
  | tamperClr v => exact .of_next (.host _ _ _ _ _ _) h
  | keyFloorWrite v => exact .of_next (.host _ _ _ _ _ _) h
  | healthChange => exact .of_next (.keeps (kept_healthChange _)) h
  | kick v => exact .of_next (.host _ _ _ _ _ _) h
  | kickExpiry => exact .of_next (.keeps (kept_kickExpiry _)) h
  | hallPassClaim => exact .of_next (.keeps (kept_hallClaim _)) h
  | hallPassHold => exact .of_next (.keeps (kept_hallHold _)) h
  | ilkInChange edge => exact .of_next (.keeps (kept_ilkChange _ _)) h
  | hallYield v => exact .of_next (.host _ _ _ _ _ _) h
  | answerSend => exact .of_next (.keeps (kept_answerSend _)) h
  | answerReceive m => exact .of_next (.keeps (kept_answerReceive _ _)) h
  | redPeerLost => exact .of_next (.keeps (kept_peerLost _)) h
  | awaitExpiry => exact .of_next (.keeps (kept_awaitExpiry _)) h
  | fjlLinkEnable k v => exact .of_next (.host _ _ _ _ _ _) h
  | fjlLinkDisable k v => exact .of_next (.host _ _ _ _ _ _) h
  | fjlLanesAligned k => exact .of_next (.keeps (kept_lanesAligned _ _)) h
  | fjlIdent k pos => exact .of_next (.keeps (kept_identReceive _ _ _)) h
  | fjlCheckTimeout k => exact .of_next (.keeps (kept_checkTimeout _ _)) h
  | fjlLaneLost k n => exact .of_next (.keeps (kept_laneLost _ _ _)) h
  | fjlPacketReceive k bs => exact .of_next (.keeps (kept_packetReceive _ _ _)) h
  | fjlResendTimeout k => exact .of_next (.keeps (kept_resendTimeout _ _)) h
  | pwrDomainEnWrite v => exact .of_next (.host _ _ _ _ _ _) h
  | pwrDomainDone => exact .of_next .done h
  | pwrRecess v => exact .of_next (.host _ _ _ _ _ _) h
  | pwrRun v => exact .of_next (.host _ _ _ _ _ _) h
  | pwrWake => exact .of_next .wake h
  | govWindowEnd => exact .of_next (.keeps (kept_windowEnd _)) h
  | avsResponse r => exact .of_next (.keeps (kept_avsResponse _ _)) h
  | govEnable v => exact .of_next (.host _ _ _ _ _ _) h
  | govReq v => exact .of_next (.host _ _ _ _ _ _) h
  | therm temps => exact .of_next (.keeps (kept_therm _ _)) h
  | jtagInstruction scan => exact .of_next (.keeps (kept_jtagScan _ _)) h
  | tmxAccess w => exact .of_next (.keeps (kept_tapAccess _ _)) h
  | testLogicReset => exact .of_next (.keeps (kept_tapReset _)) h
  | tardyWindowEnd => exact .of_next (.keeps (kept_tardyWindowEnd _)) h
  | channelHealthy ch => exact .of_next (.keeps (kept_channelHealthy _ _)) h
  | bankSupplyChange b mv => exact .of_next (.keeps (kept_bankSupply _ _ _)) h
  | crystalTick => exact .of_next (.keeps (kept_crystalTick _)) h
  | perstRelease =>
    have hk : Keeps s { s with pwr := { s.pwr with perst := false }, pcie := { s.pcie with trained := s.pcie.target } } :=
      Keeps.upd (Keeps.refl s) rfl
    exact .of_next (.keeps hk) h

end Sys2Proof.Machine

/-! The power domains and their prerequisites (R440-R446): switching domains on and off by a mask that has its prerequisites keeps the
rule, and touches nothing else of the guarded part. -/

namespace Sys2Proof.Machine

-- One declaration after another: side by side, their threads' stacks pass the memory limit of a check.
set_option Elab.async false

variable {s t u : State}

/-! ### Reading the guarded part -/

theorem Keeps.lock (h : Keeps s t) : t.reg Reg.GLB_LOCK = s.reg Reg.GLB_LOCK := congrArg Kept.lock h
theorem Keeps.start (h : Keeps s t) : t.pwr.start = s.pwr.start := congrArg Kept.start h
theorem Keeps.pulses (h : Keeps s t) : t.kept.pulses = s.kept.pulses := congrArg Kept.pulses h

theorem Keeps.domOn (h : Keeps s t) (d : Nat) : t.domOn d = s.domOn d := congrArg (fun k => bit (Kept.domStatus k) d) h

theorem Keeps.domainEn (h : Keeps s t) : t.domainEn = s.domainEn := congrArg (fun k => fld (Kept.domEn k) 0 12) h

/-! ### The rule of R440 -/

/-- The domains that need others, each with those it needs. -/
def prerequisites : List (Nat × List Nat) := [(4, [9]), (5, [9]), (6, [1, 9]), (7, [1, 9]), (8, [1, 9]), (9, [1]), (11, [9, 6])]

/-- Each domain that is `on` has its prerequisites. -/
def Supplied (on : Nat → Bool) : Prop := ∀ x ∈ prerequisites, on x.1 = true → ∀ p ∈ x.2, on p = true

theorem supplied_iff {m : Nat} : prerequisiteMissing m = false ↔ Supplied m.testBit := by
  simp [prerequisiteMissing, Supplied, prerequisites, and_assoc]

theorem prerequisites_lt {x : Nat × List Nat} (h : x ∈ prerequisites) : x.1 < 12 ∧ ∀ p ∈ x.2, p < 12 := by
  revert x
  decide

theorem Supplied.congr {a b : Nat → Bool} (h : Supplied a) (hb : ∀ d, d < 12 → b d = a d) : Supplied b := fun x hx hon p hp => by
  obtain ⟨h1, h2⟩ := prerequisites_lt hx
  rw [hb p (h2 p hp)]
  exact h x hx (hb _ h1 ▸ hon) p hp

theorem Supplied.inter {a b : Nat → Bool} (ha : Supplied a) (hb : Supplied b) : Supplied fun d => a d && b d := fun x hx hon p hp => by
  obtain ⟨h1, h2⟩ := Bool.and_eq_true_iff.1 hon
  exact Bool.and_eq_true_iff.2 ⟨ha x hx h1 p hp, hb x hx h2 p hp⟩

theorem Supplied.union {a b : Nat → Bool} (ha : Supplied a) (hb : Supplied b) : Supplied fun d => a d || b d := fun x hx hon p hp =>
  Bool.or_eq_true_iff.2 ((Bool.or_eq_true_iff.1 hon).imp (ha x hx · p hp) (hb x hx · p hp))

theorem testBit_domainStatus {d : Nat} (h : d < 12) : (s.rf Reg.PWR_DOMAIN_STATUS 0 12).testBit d = s.domOn d := by
  rw [State.rf, testBit_fld, decide_eq_true h, Bool.true_and, Nat.zero_add]
  rfl

theorem domainsClosed_iff : s.DomainsClosed ↔ Supplied s.domainEn.testBit ∧ Supplied s.domOn := by
  unfold State.DomainsClosed
  rw [supplied_iff, supplied_iff]
  exact and_congr_right fun _ =>
    ⟨fun h => h.congr fun _ hd => (testBit_domainStatus hd).symm, fun h => h.congr fun _ hd => testBit_domainStatus hd⟩

theorem Keeps.domainsClosed (h : Keeps s t) (hs : s.DomainsClosed) : t.DomainsClosed := by
  obtain ⟨he, ho⟩ := domainsClosed_iff.1 hs
  exact domainsClosed_iff.2 ⟨h.domainEn ▸ he, ho.congr fun d _ => h.domOn d⟩

/-! ### Operations that switch domains and keep the rest -/

/-- Of the guarded part at most PWR_DOMAIN_STATUS has changed. -/
def Switches (s t : State) : Prop := t.kept = { s.kept with domStatus := t.reg Reg.PWR_DOMAIN_STATUS }

theorem Keeps.switches (h : Keeps s t) : Switches s t := by
  unfold Switches
  rw [show t.reg Reg.PWR_DOMAIN_STATUS = s.kept.domStatus from congrArg Kept.domStatus h]
  exact h

theorem Switches.trans (h : Switches s t) (k : Switches t u) : Switches s u := by
  unfold Switches at *
  rw [k, h]

theorem Switches.lock (h : Switches s t) : t.reg Reg.GLB_LOCK = s.reg Reg.GLB_LOCK := congrArg Kept.lock h
theorem Switches.start (h : Switches s t) : t.pwr.start = s.pwr.start := congrArg Kept.start h
theorem Switches.pulses (h : Switches s t) : t.kept.pulses = s.kept.pulses := by rw [show t.kept = _ from h]
theorem Switches.domainEn (h : Switches s t) : t.domainEn = s.domainEn := congrArg (fun k => fld (Kept.domEn k) 0 12) h

theorem switches_setRb (i : Nat) (b : Bool) : Switches s (s.setRb Reg.PWR_DOMAIN_STATUS i b) := by
  have h1 : (s.setRb Reg.PWR_DOMAIN_STATUS i b).reg Reg.GLB_LOCK = s.reg Reg.GLB_LOCK := reg_setReg_ne (by decide)
  have h2 : (s.setRb Reg.PWR_DOMAIN_STATUS i b).reg Reg.PWR_DOMAIN_EN = s.reg Reg.PWR_DOMAIN_EN := reg_setReg_ne (by decide)
  simp only [Switches, State.kept, h1, h2]
  rfl

theorem domOn_setRb {i : Nat} (h : i < 32) (b : Bool) (d : Nat) :
    (s.setRb Reg.PWR_DOMAIN_STATUS i b).domOn d = if d = i then b else s.domOn d := by
  unfold State.domOn
  by_cases hd : d = i
  · rw [if_pos hd, hd, rb_setRb_self h]
  · rw [if_neg hd, State.rb, reg_setRb, if_pos rfl, bit_setBit_ne h hd]
    rfl

theorem domOrder_lt {d : Nat} (h : d ∈ domOrder) : d < 12 := by
  revert d
  decide

theorem domGoesOff_switches (keep : Bool) (d : Nat) : Switches s (s.domGoesOff keep d) :=
  (switches_setRb d false).trans (kept_domReset _ _ _).switches

theorem domOn_domGoesOff {d : Nat} (keep : Bool) (h : d < 12) (k : Nat) :
    (s.domGoesOff keep d).domOn k = (s.domOn k && decide (k ≠ d)) := by
  rw [State.domGoesOff, (kept_domReset _ _ _).domOn, domOn_setRb (by omega)]
  by_cases hk : k = d <;> simp [hk]

/-- What follows the switch of a domain that comes on keeps the guarded part. -/
theorem domComesOn_keeps (keep : Bool) (d : Nat) :
    Keeps ((s.domReset d keep).setRb Reg.PWR_DOMAIN_STATUS d true) (s.domComesOn keep d) := by
  unfold State.domComesOn
  dsimp only
  split
  · exact (kept_setRb _ _ _ _ (by decide)).after (kept_setRb _ _ _ _ (by decide))
  · split
    · exact kept_keyStart _
    · split
      · exact (kept_showDecisions _).after (kept_imageValues _)
      · exact Keeps.refl _

theorem domComesOn_switches (keep : Bool) (d : Nat) : Switches s (s.domComesOn keep d) :=
  ((kept_domReset s d keep).switches.trans (switches_setRb d true)).trans (domComesOn_keeps keep d).switches

theorem domOn_domComesOn {d : Nat} (keep : Bool) (h : d < 12) (k : Nat) :
    (s.domComesOn keep d).domOn k = (s.domOn k || decide (k = d)) := by
  rw [(domComesOn_keeps keep d).domOn, domOn_setRb (by omega), (kept_domReset s d keep).domOn]
  by_cases hk : k = d <;> simp [hk]

/-- One turn of `domainsOff`. -/
theorem domGoesOff_turn (mask : Nat) (keep : Bool) {d : Nat} (h : d < 12) :
    let t := if !mask.testBit d && s.domOn d then s.domGoesOff keep d else s
    Switches s t ∧ ∀ k, t.domOn k = (s.domOn k && (mask.testBit k || decide (k ≠ d))) := by
  dsimp only
  cases hm : mask.testBit d <;> cases ho : s.domOn d
  case false.true =>
    refine ⟨domGoesOff_switches keep d, fun k => (domOn_domGoesOff keep h k).trans ?_⟩
    by_cases hk : k = d <;> simp [hk, hm]
  all_goals
    refine ⟨(Keeps.refl s).switches, fun k => ?_⟩
    by_cases hk : k = d <;> simp [hk, hm, ho]

theorem domGoesOff_turns (mask : Nat) (keep : Bool) {l : List Nat} : ∀ {s : State}, (∀ d ∈ l, d < 12) →
    let t := l.foldl (fun s d => if !mask.testBit d && s.domOn d then s.domGoesOff keep d else s) s
    Switches s t ∧ ∀ k, t.domOn k = (s.domOn k && (mask.testBit k || decide (k ∉ l))) := by
  induction l with
  | nil => exact fun _ => ⟨(Keeps.refl _).switches, fun k => by simp⟩
  | cons d l ih =>
    intro s hl
    obtain ⟨h1, h2⟩ := domGoesOff_turn (s := s) mask keep (hl d List.mem_cons_self)
    obtain ⟨h3, h4⟩ := ih fun e he => hl e (List.mem_cons_of_mem _ he)
    refine ⟨h1.trans h3, fun k => (h4 k).trans ?_⟩
    rw [h2 k]
    by_cases hk : k = d <;> cases mask.testBit k <;> simp [hk]

/-- Domains outside a mask go off: those of the mask stay as they are. -/
theorem domainsOff_spec (mask : Nat) (keep : Bool) :
    Switches s (s.domainsOff mask keep) ∧ ∀ k, k < 12 → (s.domainsOff mask keep).domOn k = (s.domOn k && mask.testBit k) := by
  obtain ⟨h1, h2⟩ := domGoesOff_turns (s := s) mask keep (l := domOrder.reverse) fun d hd => domOrder_lt (List.mem_reverse.1 hd)
  refine ⟨h1, fun k hk => (h2 k).trans ?_⟩
  have hin : k ∈ domOrder.reverse := by revert k; decide
  simp [hin]

/-- One turn of `domainsOn`. -/
theorem domComesOn_turn (mask : Nat) (keep : Bool) {d : Nat} (h : d < 12) :
    let t := if mask.testBit d && !s.domOn d then s.domComesOn keep d else s
    Switches s t ∧ ∀ k, t.domOn k = (s.domOn k || (mask.testBit k && decide (k = d))) := by
  dsimp only
  cases hm : mask.testBit d <;> cases ho : s.domOn d
  case true.false =>
    refine ⟨domComesOn_switches keep d, fun k => (domOn_domComesOn keep h k).trans ?_⟩
    by_cases hk : k = d <;> simp [hk, hm]
  all_goals
    refine ⟨(Keeps.refl s).switches, fun k => ?_⟩
    by_cases hk : k = d <;> simp [hk, hm, ho]

theorem domComesOn_turns (mask : Nat) (keep : Bool) {l : List Nat} : ∀ {s : State}, (∀ d ∈ l, d < 12) →
    let t := l.foldl (fun s d => if mask.testBit d && !s.domOn d then s.domComesOn keep d else s) s
    Switches s t ∧ ∀ k, t.domOn k = (s.domOn k || (mask.testBit k && decide (k ∈ l))) := by
  induction l with
  | nil => exact fun _ => ⟨(Keeps.refl _).switches, fun k => by simp⟩
  | cons d l ih =>
    intro s hl
    obtain ⟨h1, h2⟩ := domComesOn_turn (s := s) mask keep (hl d List.mem_cons_self)
    obtain ⟨h3, h4⟩ := ih fun e he => hl e (List.mem_cons_of_mem _ he)
    refine ⟨h1.trans h3, fun k => (h4 k).trans ?_⟩
    rw [h2 k]
    by_cases hk : k = d <;> cases mask.testBit k <;> simp [hk]

/-- Domains of a mask come on, and every other domain stays as it is. -/
theorem domainsOn_spec (mask : Nat) (keep : Bool) :
    Switches s (s.domainsOn mask keep) ∧ ∀ k, k < 12 → (s.domainsOn mask keep).domOn k = (s.domOn k || mask.testBit k) := by
  obtain ⟨h1, h2⟩ := domComesOn_turns (s := s) mask keep (l := domOrder) fun d hd => domOrder_lt hd
  refine ⟨h1, fun k hk => (h2 k).trans ?_⟩
  have hin : k ∈ domOrder := by revert k; decide
  simp [hin]

/-! ### Power commands -/

/-- The rule of the domains, once a change has left the enabled ones alone and the new ones on have their prerequisites. -/
theorem Switches.domainsClosed (h : Switches s t) (hs : s.DomainsClosed) (ho : Supplied s.domOn → Supplied t.domOn) : t.DomainsClosed := by
  obtain ⟨he, hd⟩ := domainsClosed_iff.1 hs
  exact domainsClosed_iff.2 ⟨h.domainEn ▸ he, ho hd⟩

/-- An operation that switches domains and keeps their rule. -/
structure Powers (s t : State) : Prop where
  switches : Switches s t
  domains : s.DomainsClosed → t.DomainsClosed

theorem Keeps.powers (h : Keeps s t) : Powers s t := ⟨h.switches, h.domainsClosed⟩

theorem Powers.trans (h : Powers s t) (k : Powers t u) : Powers s u := ⟨h.switches.trans k.switches, fun c => k.domains (h.domains c)⟩

theorem powers_setRb_change (b : Bool) : Powers s (s.setRb Reg.PWR_DOMAIN_STATUS 16 b) :=
  have hs := switches_setRb (s := s) 16 b
  ⟨hs, fun c => hs.domainsClosed c fun h => h.congr fun d hd => (domOn_setRb (by omega) b d).trans (if_neg (by omega))⟩

/-- Off go the domains outside a mask that has its prerequisites. -/
theorem powers_domainsOff {mask : Nat} (keep : Bool) (hm : s.DomainsClosed → Supplied mask.testBit) : Powers s (s.domainsOff mask keep) :=
  have ⟨hs, ho⟩ := domainsOff_spec (s := s) mask keep
  ⟨hs, fun c => hs.domainsClosed c fun h => (h.inter (hm c)).congr ho⟩

theorem powers_domainsOn {mask : Nat} (keep : Bool) (hm : s.DomainsClosed → Supplied mask.testBit) : Powers s (s.domainsOn mask keep) :=
  have ⟨hs, ho⟩ := domainsOn_spec (s := s) mask keep
  ⟨hs, fun c => hs.domainsClosed c fun h => (h.union (hm c)).congr ho⟩

theorem State.DomainsClosed.enabled (h : s.DomainsClosed) : Supplied s.domainEn.testBit := (domainsClosed_iff.1 h).1

theorem powers_domainWrite : Powers s s.domainWrite := by
  unfold State.domainWrite
  split
  · exact (powers_domainsOff false State.DomainsClosed.enabled).trans (powers_setRb_change true)
  · exact (Keeps.refl s).powers

theorem powers_domainDone : Powers s s.domainDone := by
  unfold State.domainDone
  split
  · exact ((powers_domainsOn false State.DomainsClosed.enabled).trans (powers_setRb_change false)).trans (kept_domainEvent _).powers
  · exact (Keeps.refl s).powers

/-- The recess mask has its prerequisites. -/
theorem supplied_recessMask : Supplied recessMask.testBit := supplied_iff.1 (by decide)

theorem powers_recess : Powers s s.recess := by
  have hrcl : Keeps s ((List.range 256).foldl (fun s f => if s.formState f ≠ 0 then s.stopForm f else s) (s.setRf Reg.PWR_STATUS 0 2 1)) :=
    Keeps.foldl (fun y f h => h.trans (kept_stopForm y f).ite) (kept_setRf _ _ _ _ _ (by decide))
  have hgov := (kept_recessRings _).after ((kept_recessEnergy _).after hrcl)
  have hend : ∀ u : State, Keeps u ((u.setRf Reg.PWR_STATUS 0 2 2).setRb Reg.PWR_CMD 0 false).domainEvent := fun u =>
    (kept_domainEvent _).after ((kept_setRb _ _ _ _ (by decide)).after (kept_setRf _ _ _ _ _ (by decide)))
  exact (((kept_govRequest _ _ _).after hgov).powers.trans (powers_domainsOff true fun _ => supplied_recessMask)).trans (hend _).powers

/-- The domains of PWR_DOMAIN_EN, and only they, are on after a wake. -/
theorem powers_wakeDomains : Powers s ((s.domainsOff s.domainEn true).domainsOn s.domainEn true) :=
  have hoff : Powers s (s.domainsOff s.domainEn true) := powers_domainsOff true State.DomainsClosed.enabled
  hoff.trans (powers_domainsOn true fun c => hoff.switches.domainEn ▸ c.enabled)

theorem powers_wakeUp : Powers s s.wakeUp := by
  have hstart : Keeps s { s.setRf Reg.PWR_STATUS 0 2 3 with pwr := { s.pwr with wakeHeld := false } } :=
    Keeps.upd (kept_setRf _ _ _ _ _ (by decide)) rfl
  have hrun : ∀ u : State, Powers u (((u.setRf Reg.PWR_STATUS 0 2 0).setRb Reg.PWR_CMD 0 false).setRb Reg.PWR_DOMAIN_STATUS 16 false) :=
    fun u => ((kept_setRb _ _ _ _ (by decide)).after (kept_setRf u _ _ _ _ (by decide))).powers.trans (powers_setRb_change false)
  have hfree : ∀ u : State, Keeps u (u.domainEvent.unconfigure.setRb Reg.IMG_LOAD_STATUS 3 false) := fun u =>
    (kept_setRb _ _ _ _ (by decide)).after ((kept_unconfigure _).after (kept_domainEvent u))
  have hload : ∀ u : State, Keeps u { u.setRb Reg.IMG_LOAD_STATUS 0 true with loader := { u.loader with warm := true } } :=
    fun u => Keeps.upd (kept_setRb _ _ _ _ (by decide)) rfl
  have hgov : ∀ u : State, Keeps u (u.govRequest (u.govClip 800) false) := fun u => kept_govRequest u _ _
  exact ((((hgov _).after hstart).powers.trans powers_wakeDomains).trans (hrun _)).trans ((hload _).after (hfree _)).powers

theorem powers_wake : Powers s s.wake := by
  unfold State.wake
  split
  · exact powers_wakeUp
  · exact (Keeps.refl s).powers

theorem powers_powerCommand : Powers s s.powerCommand := by
  unfold State.powerCommand
  split
  · exact powers_recess
  · exact powers_wakeUp

end Sys2Proof.Machine

/-! What each kind of command does to the guarded part: it holds the locks and keeps the rule of the domains, or it resets the device. -/

namespace Sys2Proof.Machine

-- One declaration after another: side by side, their threads' stacks pass the memory limit of a check.
set_option Elab.async false

variable {s t u : State}

/-- Locks, the start-up that is due and the pulses sent stay, and the domains keep their rule. -/
structure Steady (s t : State) : Prop where
  lock : t.reg Reg.GLB_LOCK = s.reg Reg.GLB_LOCK
  start : t.pwr.start = s.pwr.start
  pulses : t.kept.pulses = s.kept.pulses
  domains : s.DomainsClosed → t.DomainsClosed

/-- As `Steady`, but lock bits may have been set. -/
structure Held (s t : State) : Prop where
  lock : ∀ k, s.rb Reg.GLB_LOCK k = true → t.rb Reg.GLB_LOCK k = true
  start : t.pwr.start = s.pwr.start
  pulses : t.kept.pulses = s.kept.pulses
  domains : s.DomainsClosed → t.DomainsClosed

/-- The device has been reset: no lock is set, and start-up is due. -/
structure Renewed (s t : State) : Prop where
  lock : t.reg Reg.GLB_LOCK = 0
  start : t.pwr.start ≠ none
  pulses : t.kept.pulses = s.kept.pulses
  domains : s.DomainsClosed → t.DomainsClosed

/-- What a write other than one of GLB_LOCK does: only where no start-up is due may it reach a list of writes, and so GLB_LOCK. -/
def Proper (s t : State) : Prop := Steady s t ∨ Renewed s t ∨ s.pwr.start = none ∧ Held s t

/-- What any host request does. -/
def Safe (s t : State) : Prop := Held s t ∨ Renewed s t

theorem Powers.steady (h : Powers s t) : Steady s t := ⟨h.switches.lock, h.switches.start, h.switches.pulses, h.domains⟩
theorem Keeps.steady (h : Keeps s t) : Steady s t := h.powers.steady
theorem Steady.held (h : Steady s t) : Held s t := ⟨fun k hk => by rwa [State.rb, h.lock], h.start, h.pulses, h.domains⟩
theorem Keeps.held (h : Keeps s t) : Held s t := h.steady.held

theorem Steady.trans (h : Steady s t) (k : Steady t u) : Steady s u :=
  ⟨k.lock.trans h.lock, k.start.trans h.start, k.pulses.trans h.pulses, fun c => k.domains (h.domains c)⟩

theorem Held.trans (h : Held s t) (k : Held t u) : Held s u :=
  ⟨fun i hi => k.lock i (h.lock i hi), k.start.trans h.start, k.pulses.trans h.pulses, fun c => k.domains (h.domains c)⟩

theorem Renewed.steady (h : Renewed s t) (k : Steady t u) : Renewed s u :=
  ⟨k.lock.trans h.lock, k.start ▸ h.start, k.pulses.trans h.pulses, fun c => k.domains (h.domains c)⟩

theorem Held.renewed (h : Held s t) (k : Renewed t u) : Renewed s u :=
  ⟨k.lock, k.start, k.pulses.trans h.pulses, fun c => k.domains (h.domains c)⟩

theorem Steady.renewed (h : Steady s t) (k : Renewed t u) : Renewed s u := h.held.renewed k

theorem Renewed.trans (h : Renewed s t) (k : Renewed t u) : Renewed s u :=
  ⟨k.lock, k.start, k.pulses.trans h.pulses, fun c => k.domains (h.domains c)⟩

theorem Proper.safe : Proper s t → Safe s t
  | .inl h => .inl h.held
  | .inr (.inl h) => .inr h
  | .inr (.inr h) => .inl h.2

theorem Steady.proper (h : Steady s t) : Proper s t := .inl h
theorem Keeps.proper (h : Keeps s t) : Proper s t := .inl h.steady

theorem Safe.steady (h : Safe s t) (k : Steady t u) : Safe s u := h.imp (·.trans k.held) (·.steady k)
theorem Safe.keeps (h : Safe s t) (k : Keeps t u) : Safe s u := h.steady k.steady
theorem Held.safe (h : Held s t) (k : Safe t u) : Safe s u := k.imp h.trans h.renewed
theorem Steady.safe (h : Steady s t) (k : Safe t u) : Safe s u := h.held.safe k

theorem Steady.thenProper (h : Steady s t) : Proper t u → Proper s u
  | .inl k => .inl (h.trans k)
  | .inr (.inl k) => .inr (.inl (h.renewed k))
  | .inr (.inr k) => .inr (.inr ⟨h.start ▸ k.1, h.held.trans k.2⟩)

theorem Proper.steady (k : Steady t u) : Proper s t → Proper s u
  | .inl h => .inl (h.trans k)
  | .inr (.inl h) => .inr (.inl (h.steady k))
  | .inr (.inr h) => .inr (.inr ⟨h.1, h.2.trans k.held⟩)

/-- After a reset nothing but GLB_LOCK itself sets a lock bit. -/
theorem Renewed.proper (h : Renewed s t) : Proper t u → Renewed s u
  | .inl k => h.steady k
  | .inr (.inl k) => h.trans k
  | .inr (.inr k) => absurd k.1 h.start

/-- Where no start-up is due afterwards, there was no reset. -/
theorem Safe.held_of_start (h : Safe s t) (hs : t.pwr.start = none) : Held s t := h.elim id fun k => absurd hs k.start

/-! ### Resets -/

theorem regReset_guarded : regReset Reg.GLB_LOCK = 0 ∧ regReset Reg.PWR_DOMAIN_EN = 0xFFF ∧ regReset Reg.PWR_DOMAIN_STATUS = 0 := by
  decide

theorem resetAll_reg {off : Nat} (h : off < 0x30000) : s.resetAll.reg off = regReset off := by
  have h1 : ¬ (0x50000 ≤ off ∧ off < 0x60000) := by omega
  have h2 : ¬ (0x1A0000 ≤ off ∧ off < 0x1B0000) := by omega
  unfold State.resetAll
  rw [show ∀ x : State, State.reg { x with tbs := [], tsq := [], tap := {}, ppsPin := {}, pwr := _ } off = x.reg off from fun _ => rfl,
    reg_resetRegs, if_neg h2, reg_resetRegs, if_neg h1, reg_resetRegs, if_pos ⟨Nat.zero_le _, h⟩]

/-- Ranges of registers and the units of PD_BASE have no part in the pulses sent. -/
theorem pulses_reset {x : State} {a b c d e f : Nat} {tbs : Tab TimeBase} {tsq : Tab (List TsqEntry)} {tap : Tap} {pin : EvtIn} {pwr : Power} :
    (State.kept { ((x.resetRegs a b).resetRegs c d).resetRegs e f with tbs := tbs, tsq := tsq, tap := tap, ppsPin := pin, pwr := pwr }).pulses =
      x.kept.pulses := rfl

theorem resetAll_pulses : s.resetAll.kept.pulses = s.kept.pulses := by
  have hfold : ∀ x : State, Keeps x (domOrder.reverse.foldl (fun s d => s.domReset d false) x) := fun x =>
    Keeps.foldl (fun y d h => h.trans (kept_domReset y d false)) (Keeps.refl x)
  have h0 : ∀ w c, (State.kept { s.setReg Reg.PWR_DOMAIN_STATUS w with classrooms := c }).pulses = s.kept.pulses := fun _ _ => rfl
  unfold State.resetAll
  exact pulses_reset.trans ((hfold _).pulses.trans (h0 _ _))

/-- All of PD_BASE and the switched domains are reset: no domain is on, and all are asked for. -/
theorem resetAll_domainsClosed : s.resetAll.DomainsClosed := by
  obtain ⟨-, he, hd⟩ := regReset_guarded
  refine domainsClosed_iff.2 ⟨supplied_iff.1 ?_, fun x hx hon => ?_⟩
  · rw [State.domainEn, State.rf, resetAll_reg (by decide), he]
    decide
  · rw [State.domOn, State.rb, resetAll_reg (by decide), hd] at hon
    simp [bit] at hon

/-- A reset state in which start-up is now due. -/
theorem renewed_due {x : State} {rtc : Rtc} {pcie : Pcie} (p : StartPhase) (h : Keeps s.resetAll x) :
    Renewed s { x with rtc := rtc, pwr := { x.pwr with start := some p }, pcie := pcie } := by
  have hl : s.resetAll.reg Reg.GLB_LOCK = 0 := (resetAll_reg (by decide)).trans regReset_guarded.1
  exact ⟨h.lock.trans hl, Option.some_ne_none _, h.pulses.trans resetAll_pulses, fun _ => h.domainsClosed resetAll_domainsClosed⟩

theorem renewed_mainReset (fell : Nat) : Renewed s (s.mainReset fell) := by
  unfold State.mainReset
  have hk : ∀ w, Keeps s.resetAll (s.resetAll.setReg Reg.PWR_RESET_CAUSE w) := fun w => kept_setReg _ _ w (by decide)
  exact renewed_due .full (hk _)

theorem renewed_deviceReset : Renewed s s.deviceReset := by
  unfold State.deviceReset
  have hk : ∀ v w, Keeps s.resetAll ((s.resetAll.setReg Reg.PWR_RESET_CAUSE v).setReg Reg.GLB_BOARD w) := fun v w =>
    (kept_setReg _ _ w (by decide)).after (kept_setReg _ _ v (by decide))
  exact renewed_due .domains (hk _ _)

theorem safe_mainPower (p : MainPower) : Safe s (s.mainPower p) := by
  have hv : ∀ c : Bool, Keeps s (if c then s.toVbat else s) := fun c => (kept_toVbat s).ite
  unfold State.mainPower
  cases p with
  | rampIn => exact (kept_toVbat s).held.safe (.inr (renewed_mainReset 0))
  | dip levels ns =>
    dsimp only
    split
    · exact .inl (Keeps.refl s).held
    · have hx := hv (levels.any fun l => l.1.val == 6 && decide (l.2 < 1650))
      generalize (if (levels.any fun l => l.1.val == 6 && decide (l.2 < 1650)) = true then s.toVbat else s) = x at hx ⊢
      split
      · exact .inl hx.held
      · exact hx.held.safe (.inr (renewed_mainReset _))

/-! ### Loads of an image with its boot register list -/

section Loads
variable {wr : State → Nat → Word → State × Bool}

/-- Writes of a boot register list are those of the host. -/
theorem proper_runBootList (hwr : ∀ s off v, Safe s (wr s off v).1) (warm : Bool) (l : List (Nat × Word)) :
    Proper s (runBootList wr warm l s).1 := by
  have keep : ∀ {l : List (Nat × Word)} {s : State}, s.pwr.start ≠ none → (runBootList wr warm l s).1 = s := by
    intro l
    induction l with
    | nil => exact fun _ => rfl
    | cons x l ih =>
      intro s h
      unfold runBootList
      split
      · exact ih h
      · rw [if_pos (Option.isSome_iff_ne_none.2 h)]
  induction l generalizing s with
  | nil => exact (Keeps.refl s).proper
  | cons x l ih =>
    unfold runBootList
    split
    · exact ih
    · split
      · exact (Keeps.refl s).proper
      case isFalse hs =>
        have hs : s.pwr.start = none := by simpa using hs
        dsimp only
        have hx := hwr s x.1 x.2
        split
        · exact hx.elim (fun h => .inr (.inr ⟨hs, h⟩)) fun h => .inr (.inl h)
        · rcases hx with h | h
          · exact (ih (s := (wr s x.1 x.2).1)).safe.elim (fun k => .inr (.inr ⟨hs, h.trans k⟩)) fun k => .inr (.inl (h.renewed k))
          · rw [keep h.start]
            exact .inr (.inl h)

theorem keeps_applyList (rd : ImageSource) (ok : Bool) : Keeps s (s.applyList rd ok).1 := by
  unfold State.applyList
  split
  · exact Keeps.refl s
  · split
    · exact kept_loadDone _ _ _
    · exact Keeps.refl s

/-- A list that fails has not reset the device. -/
theorem applyList_failed {rd : ImageSource} {ok : Bool} (h : (s.applyList rd ok).2.1 ≠ 0) : s.pwr.start = none := by
  unfold State.applyList at h
  split at h
  · exact absurd rfl h
  case isFalse hs => simpa using hs

/-- A load that ends with a code has not reset the device. -/
def Loads (s : State) (r : State × Nat × Nat) : Prop := Proper s r.1 ∧ (r.2.1 ≠ 0 → Held s r.1)

theorem Keeps.loads {r : State × Nat × Nat} (h : Keeps s r.1) : Loads s r := ⟨h.proper, fun _ => h.held⟩

theorem Keeps.thenLoads {r : State × Nat × Nat} (h : Keeps s t) (k : Loads t r) : Loads s r :=
  ⟨h.steady.thenProper k.1, fun hr => h.held.trans (k.2 hr)⟩

theorem loads_applyClasses (hwr : ∀ s off v, Safe s (wr s off v).1) (rd : ImageSource) (warm : Bool) (n : Option Nat) :
    Loads s (s.applyClasses wr rd warm n) := by
  unfold State.applyClasses
  split
  · exact Keeps.loads (Keeps.refl s)
  · extract_lets l
    have hrun : Proper s (runBootList wr warm l s).1 := proper_runBootList hwr warm l
    refine ⟨hrun.steady (keeps_applyList _ _).steady, fun h => ?_⟩
    exact (hrun.safe.held_of_start (applyList_failed h)).trans (keeps_applyList _ _).held

theorem loads_applyClasses_after (hwr : ∀ s off v, Safe s (wr s off v).1) (rd : ImageSource) (desks : List (Nat × Nat)) (warm : Bool)
    (l : List Nat) (h : Keeps s t) :
    Loads s ((writeClasses desks l t).1.applyClasses wr rd warm (writeClasses desks l t).2) :=
  ((kept_writeClasses desks l t).after h).thenLoads (loads_applyClasses hwr rd warm _)

theorem loads_applyImage (hwr : ∀ s off v, Safe s (wr s off v).1) (rd : ImageSource) (desks : List (Nat × Nat)) (warm : Bool) :
    Loads s (s.applyImage wr rd desks warm) := by
  unfold State.applyImage
  exact loads_applyClasses_after hwr rd desks warm _ ((kept_applyDevice _ _ _).after (kept_unconfigure s))

theorem loads_attempt (hwr : ∀ s off v, Safe s (wr s off v).1) (rd : ImageSource) (desks : List (Nat × Nat)) (warm : Bool) (a : Nat × Nat) :
    Loads s (s.attempt wr rd desks warm a) := by
  unfold State.attempt
  extract_lets p
  have hp : Loads s p := by
    unfold p
    split
    · exact loads_applyImage hwr rd desks warm
    · exact Keeps.loads (Keeps.refl s)
  have hf := kept_attemptFail p.1 rd p.2
  split
  case isTrue h => exact ⟨hp.1, fun hn => absurd h hn⟩
  case isFalse h => exact ⟨hp.1.steady hf.steady, fun hn => (hp.2 hn).trans hf.held⟩

theorem safe_bootSecond (hwr : ∀ s off v, Safe s (wr s off v).1) (bad : List Nat) (desks : List (Nat × Nat)) (warm : Bool) :
    Safe s (s.bootSecond wr bad desks warm) :=
  have hk : Keeps s ((s.setRf Reg.IMG_LOAD_STATUS 1 2 2).readFlash 0x4000000) :=
    (kept_readFlash _ _).after (kept_setRf _ _ _ _ _ (by decide))
  (hk.held.safe (loads_attempt hwr _ desks warm _).1.safe).keeps (kept_loaderIdle _)

theorem safe_bootPrimary (hwr : ∀ s off v, Safe s (wr s off v).1) (bad bad2 : List Nat) (desks : List (Nat × Nat)) (warm : Bool) :
    Safe s (s.bootPrimary wr bad bad2 desks warm) := by
  have hk : Keeps s (s.selectReadMode.readFlash 0) := (kept_readFlash _ _).after (kept_selectReadMode s)
  obtain ⟨hp, hh⟩ := loads_attempt (s := s.selectReadMode.readFlash 0) hwr ((s.selectReadMode.readFlash 0).flashAt 0) desks warm
    ((s.selectReadMode.readFlash 0).checkFlash 0 bad)
  unfold State.bootPrimary
  dsimp only
  split
  · exact (hk.held.safe hp.safe).keeps (kept_loaderIdle _)
  case isFalse h =>
    split
    · exact (hk.held.trans (hh h)).safe (safe_bootSecond hwr _ _ _)
    · exact (hk.held.safe hp.safe).keeps (kept_loaderIdle _)

theorem safe_bootLoad (hwr : ∀ s off v, Safe s (wr s off v).1) (bad desks : List (Nat × Nat)) : Safe s (s.bootLoad wr bad desks) := by
  unfold State.bootLoad
  split
  · have hk : Keeps s { (s.setRf Reg.IMG_LOAD_STATUS 1 2 1).setRb Reg.IMG_LOAD_STATUS 3 false with
        loader := { ((s.setRf Reg.IMG_LOAD_STATUS 1 2 1).setRb Reg.IMG_LOAD_STATUS 3 false).loader with warm := false } } :=
      Keeps.upd ((kept_setRb _ _ _ _ (by decide)).after (kept_setRf _ _ _ _ _ (by decide))) rfl
    exact hk.held.safe (safe_bootPrimary hwr _ _ _ _)
  · exact .inl (Keeps.refl s).held

theorem proper_imageLoad (hwr : ∀ s off v, Safe s (wr s off v).1) (desks : List (Nat × Nat)) : Proper s (s.imageLoad wr desks) := by
  have hdone : ∀ x : State, Keeps x (x.setRb Reg.IMG_LOAD_CMD 0 false) := fun x => kept_setRb _ _ _ _ (by decide)
  have hsrc : Keeps s (s.setRf Reg.IMG_LOAD_STATUS 1 2 3) := kept_setRf _ _ _ _ _ (by decide)
  have hbusy : ∀ x : State, Keeps x (x.setRb Reg.IMG_LOAD_STATUS 0 true) := fun x => kept_setRb _ _ _ _ (by decide)
  unfold State.imageLoad
  dsimp only
  split
  · exact ((hdone _).after ((kept_loadFail _ _ _).after hsrc)).proper
  · split
    · exact ((hdone _).after ((kept_loadFail _ _ _).after hsrc)).proper
    · exact (((hbusy _).after hsrc).steady.thenProper (loads_attempt hwr _ desks false _).1).steady
        ((hdone _).after (kept_loaderIdle _)).steady

theorem proper_imgHook (hwr : ∀ s off v, Safe s (wr s off v).1) (off : Nat) (desks : List (Nat × Nat)) (ecc : EccMet)
    (late : List (Nat × Nat)) : Proper s (s.imgHook off wr desks ecc late) := by
  have h0 : Proper s s := (Keeps.refl s).proper
  unfold State.imgHook State.loadCommand
  split
  · split
    · split
      · exact proper_imageLoad hwr desks
      · exact (kept_imageCache s).proper
    · exact h0
  · split
    · split
      · exact (kept_classCommand s _).proper
      · exact h0
    · exact h0

end Loads

end Sys2Proof.Machine

/-! Host writes and the guarded part: only a write of GLB_LOCK sets a lock bit, and one of PWR_DOMAIN_EN is refused unless the domains it
asks for have their prerequisites. -/

namespace Sys2Proof.Machine

-- One declaration after another: side by side, their threads' stacks pass the memory limit of a check.
set_option Elab.async false

variable {s t : State} {e : Env} {off : Nat} {v : Word}

/-! ### Rows of the guarded registers -/

/-- The row of a register by its offset, where it stands alone. -/
theorem lockRow : regRow Reg.GLB_LOCK = some ⟨0x20, 0x4, 1, 0x4, 1, 0x0, 0x7F, 0x0, 0x0, 0x0, .single, none⟩ := by decide

theorem domainEnRow :
    regRow Reg.PWR_DOMAIN_EN = some ⟨0x20000, 0x4, 1, 0x4, 1, 0xFFF, 0xFFF, 0x0, 0x0, 0x0, .single, some 3⟩ := by decide

theorem domainStatusRow :
    regRow Reg.PWR_DOMAIN_STATUS = some ⟨0x20004, 0x4, 1, 0x4, 1, 0x0, 0x0, 0x0, 0x0, 0x0, .single, none⟩ := by decide

/-- A high half is none of the guarded registers, nor does it follow one. -/
theorem spared_of_high {r : RegRow} (hr : regRow off = some r) (hp : r.pair = .high) : Spared off ∧ Spared (off - 4) := by
  have hne : ∀ o x, regRow o = some x → x.pair ≠ .high → off ≠ o := fun o x hx hn ho => by
    rw [ho, hx] at hr
    exact hn (Option.some.inj hr ▸ hp)
  have h1 := hne _ _ lockRow (by decide)
  have h2 := hne _ _ domainEnRow (by decide)
  have h3 := hne _ _ domainStatusRow (by decide)
  have h4 : off ≠ Reg.GLB_LOCK + 4 := fun ho => by
    rw [ho, show regRow (Reg.GLB_LOCK + 4) = none by decide] at hr
    cases hr
  have h5 : off ≠ Reg.PWR_CMD := fun ho => hne Reg.PWR_CMD _ rfl (by decide) ho
  refine ⟨⟨h1, h2, h3⟩, ?_⟩
  unfold Spared Reg.GLB_LOCK Reg.PWR_DOMAIN_EN Reg.PWR_DOMAIN_STATUS Reg.PWR_CMD at *
  omega

theorem spared_of_am {r : RegRow} (hr : regRow off = some r) (ha : r.am ≠ 0) : Spared off := by
  have hne : ∀ o x, regRow o = some x → x.am = 0 → off ≠ o := fun o x hx hn ho => by
    rw [ho, hx] at hr
    exact ha (Option.some.inj hr ▸ hn)
  exact ⟨hne _ _ lockRow rfl, hne _ _ domainEnRow rfl, hne _ _ domainStatusRow rfl⟩

/-- No register below GLB_LOCK is written. -/
theorem readOnly_below_lock (h : off < Reg.GLB_LOCK) {r : RegRow} (hr : regRow off = some r) : r.rw ||| r.w1c ||| r.wo = 0 := by
  have hall : ∀ o : Fin 0x20, ∀ x ∈ regRow o, x.rw ||| x.w1c ||| x.wo = 0 := by decide
  exact hall ⟨off, h⟩ r hr

/-! ### What the absence of a cause says -/

theorem normOf_eq (h : viewOf off = 0) : normOf off = off := by
  unfold viewOf at h
  unfold normOf
  omega

/-- One link of a chain of causes that ends without one. -/
theorem of_ite_zero {p : Prop} [Decidable p] {k x : Nat} (hk : k ≠ 0) (h : (if p then k else x) = 0) : ¬p ∧ x = 0 := by
  by_cases hp : p
  · rw [if_pos hp] at h
    exact absurd h hk
  · rw [if_neg hp] at h
    exact ⟨hp, h⟩

/-- A write without a cause: its register is there, takes something, is open to an alias view that it is written in, and its unit
takes the value. -/
theorem of_writeCause (h : s.writeCause off v = 0) : ∃ r, regRow (normOf off) = some r ∧ (viewOf off ≠ 0 → r.am ≠ 0) ∧
    r.rw ||| r.w1c ||| r.wo ≠ 0 ∧ (viewOf off = 0 → unitRefuses s off v 0xFFFFFFFF = false) := by
  unfold State.writeCause at h
  split at h
  · exact absurd h (by decide)
  case h_2 r hr =>
    obtain ⟨-, h⟩ := of_ite_zero (by decide) h
    obtain ⟨ha, h⟩ := of_ite_zero (by decide) h
    obtain ⟨hw, h⟩ := of_ite_zero (by decide) h
    obtain ⟨-, h⟩ := of_ite_zero (by decide) h
    obtain ⟨hx, -⟩ := of_ite_zero (by decide) h
    refine ⟨r, hr, fun hv hn => ha (by simp [hv, hn]), hw, fun hv => ?_⟩
    rw [normOf_eq hv, State.presented, if_pos hv, if_pos hv] at hx
    exact Bool.eq_false_iff.2 hx

/-! ### What the units do -/

/-- The units other than GLB, PWR and IMG keep the guarded part. -/
theorem keeps_unitHook (s before : State) (wr : BootWrite) (e : Env) (old v : Word) (h : off / 0x10000 ∉ [0, 2, 3]) :
    Keeps s (s.unitHook before wr e off old v) := by
  unfold State.unitHook
  split
  case h_1 h0 => exact absurd (h0 ▸ h) (by decide)
  case h_3 h2 => exact absurd (h2 ▸ h) (by decide)
  case h_4 h3 => exact absurd (h3 ▸ h) (by decide)
  · exact kept_evtHook _ _ _ _
  · exact kept_rtcHook _ _
  · exact kept_tbHook _ _ _ _
  · exact kept_macHook _ _ _
  · exact kept_macHook _ _ _
  · exact kept_macHook _ _ _
  · exact kept_macHook _ _ _
  · exact (within_t1sHook _ _).kept
  · exact (within_prpHook _ _ _ _).kept
  · exact kept_rngHook _ _ _
  · exact kept_schHook _ _ _ _
  · exact kept_itkHook _ _ _
  · exact kept_rclHook _ _ _
  · exact kept_fabHook _ _ _
  · exact kept_anaHook _ _
  · exact kept_acqHook _ _ _ _
  · exact kept_fltHook _ _ _ _
  · exact (within_phsHook _ _ _).kept
  · exact kept_nrgHook _ _ _ _
  · exact (kept_recHook _ _ _).after (within_trgHook _ _ _ _).kept
  · exact kept_keyHook _ _ _ _
  · exact kept_redHook _ _ _ _
  · exact kept_fjlHook _ _ _
  · exact kept_tmxHook _ _ _
  · exact Keeps.refl s

theorem proper_glbHook (old v : Word) (h : off ≠ Reg.GLB_LOCK) : Proper s (s.glbHook off old v) := by
  unfold State.glbHook
  rw [if_neg h]
  split
  · exact ((kept_setReg _ _ _ (by decide)).after (kept_setReg s _ _ (by decide))).ite.proper
  · split
    · split
      · exact .inr (.inl renewed_deviceReset)
      · exact (Keeps.refl s).proper
    · exact (Keeps.refl s).proper

theorem steady_pwrHook (old v : Word) (h : off ≠ Reg.PWR_DOMAIN_EN) : Steady s (s.pwrHook off old v) := by
  have h0 : Steady s s := (Keeps.refl s).steady
  unfold State.pwrHook
  rw [if_neg h]
  split
  · split
    · exact powers_powerCommand.steady
    · exact h0
  · split
    · split
      · exact (kept_govStart s).steady
      · exact (kept_govStop s).ite.steady
    · split
      · exact (kept_govRequest _ _ _).ite.steady
      · exact h0

section Writes
variable {wr : BootWrite} (hwr : ∀ s off v, Safe s (wr s off v).1)
include hwr

theorem proper_unitHook (before : State) (e : Env) (old v : Word) (h1 : off ≠ Reg.GLB_LOCK) (h2 : off ≠ Reg.PWR_DOMAIN_EN) :
    Proper s (s.unitHook before wr e off old v) := by
  by_cases hu : off / 0x10000 ∈ [0, 2, 3]
  · simp only [List.mem_cons, List.not_mem_nil, or_false] at hu
    rcases hu with hu | hu | hu
    · rw [unitHook_glb hu]
      exact proper_glbHook old v h1
    · rw [unitHook_pwr hu]
      exact (steady_pwrHook old v h2).proper
    · rw [unitHook_img hu]
      exact proper_imgHook hwr _ _ _ _
  · exact (keeps_unitHook s before wr e old v hu).proper

/-- The write of a register that is not guarded, with what its unit does. -/
theorem proper_unitHook_setReg (before : State) (e : Env) (old v w : Word) (ht : Keeps s t) (h : Spared off) :
    Proper s ((t.setReg off w).unitHook before wr e off old v) :=
  (ht.trans (kept_setReg t off w h)).steady.thenProper (proper_unitHook hwr before e old v h.1 h.2.1)

omit hwr in
/-- PWR_DOMAIN_EN takes a mask that has its prerequisites. -/
theorem steady_domainWrite (hx : unitRefuses s Reg.PWR_DOMAIN_EN v 0xFFFFFFFF = false) (old w : Word) :
    Steady s (((s.setReg Reg.PWR_DOMAIN_EN (merge 0xFFF v w)).unitHook s wr e Reg.PWR_DOMAIN_EN old v)) := by
  rw [unitHook_pwr (by decide)]
  have hm : prerequisiteMissing (fld v 0 12) = false := by
    rw [unitRefuses_pwr (by decide), pwrRefuses, if_pos rfl] at hx
    simp only [Bool.or_eq_false_iff] at hx
    exact hx.1.2
  have hen : (s.setReg Reg.PWR_DOMAIN_EN (merge 0xFFF v w)).domainEn = fld v 0 12 := by
    rw [State.domainEn, State.rf, reg_setReg_self]
    refine Nat.eq_of_testBit_eq fun i => ?_
    rw [testBit_fld, testBit_fld, Nat.zero_add, bit_merge]
    by_cases hi : i < 12
    · have hb : bit (0xFFF : Word) i = true := by revert i; decide
      rw [if_pos hb]
    · simp [hi]
  have hset : Steady s (s.setReg Reg.PWR_DOMAIN_EN (merge 0xFFF v w)) := by
    refine ⟨reg_setReg_ne (by decide), rfl, rfl, fun c => domainsClosed_iff.2 ⟨hen ▸ supplied_iff.1 hm, ?_⟩⟩
    refine (domainsClosed_iff.1 c).2.congr fun d _ => ?_
    rw [State.domOn, State.rb, reg_setReg_ne (by decide)]
    rfl
  exact hset.trans powers_domainWrite.steady

theorem proper_writeReg (hc : s.writeCause off v = 0) (hv : viewOf off = 0) (h : off ≠ Reg.GLB_LOCK) :
    Proper s (s.writeReg wr e off v) := by
  obtain ⟨r, hr, -, hw, hx⟩ := of_writeCause hc
  rw [normOf_eq hv] at hr
  unfold State.writeReg
  rw [hr]
  dsimp only
  cases hp : r.pair with
  | low => exact (within_setStage _ _ _).kept.proper
  | high =>
    obtain ⟨h1, h2⟩ := spared_of_high hr hp
    exact proper_unitHook_setReg hwr s e _ v _ (kept_setReg s _ _ h2) h1
  | single =>
    by_cases he : off = Reg.PWR_DOMAIN_EN
    · subst he
      cases domainEnRow.symm.trans hr
      exact (steady_domainWrite (hx hv) _ _).proper
    · have hs : off ≠ Reg.PWR_DOMAIN_STATUS := by
        rintro rfl
        cases domainStatusRow.symm.trans hr
        exact hw rfl
      exact proper_unitHook_setReg hwr s e _ v _ (Keeps.refl s) ⟨h, he, hs⟩

theorem proper_writeView (hc : s.writeCause off v = 0) (h : off ≠ Reg.GLB_LOCK) : Proper s (s.writeView wr e off v) := by
  unfold State.writeView
  split
  case isTrue hv => exact proper_writeReg hwr hc hv h
  case isFalse hv =>
    obtain ⟨r, hr, ha, -⟩ := of_writeCause hc
    rw [hr]
    exact proper_unitHook_setReg hwr s e _ _ _ (Keeps.refl s) (spared_of_am hr (ha hv))

theorem proper_putDW (q : Request) (h : off ≠ Reg.GLB_LOCK) : Proper s (s.putDW wr e q off v).1 := by
  unfold State.putDW
  dsimp only
  split
  · exact (kept_busError _ _ _ _).proper
  case isFalse hc => exact proper_writeView hwr (by simpa using hc) h

omit hwr in
/-- A write of GLB_LOCK sets lock bits (R53). -/
theorem held_lockWrite : Held s (s.writeView wr e Reg.GLB_LOCK v) := by
  obtain ⟨w, hw⟩ : ∃ w, s.writeView wr e Reg.GLB_LOCK v =
      (s.setReg Reg.GLB_LOCK w).setReg Reg.GLB_LOCK (s.reg Reg.GLB_LOCK ||| (v &&& 0x7F)) := by
    refine ⟨merge 0x7F v (s.reg Reg.GLB_LOCK &&& ~~~ (v &&& 0)), ?_⟩
    rw [State.writeView, if_pos (by decide), State.writeReg, lockRow]
    dsimp only
    rw [unitHook_glb (by decide), State.glbHook, if_pos rfl]
  rw [hw]
  have hreg : ∀ o, o ≠ Reg.GLB_LOCK →
      ((s.setReg Reg.GLB_LOCK w).setReg Reg.GLB_LOCK (s.reg Reg.GLB_LOCK ||| (v &&& 0x7F))).reg o = s.reg o := fun o ho =>
    (reg_setReg_ne ho).trans (reg_setReg_ne ho)
  refine ⟨fun k hk => ?_, rfl, rfl, fun c => domainsClosed_iff.2 ?_⟩
  · rw [State.rb] at hk ⊢
    rw [reg_setReg_self]
    simp only [bit, BitVec.getLsbD_or, Bool.or_eq_true] at hk ⊢
    exact .inl hk
  · obtain ⟨he, ho⟩ := domainsClosed_iff.1 c
    refine ⟨?_, ho.congr fun d _ => ?_⟩
    · rwa [State.domainEn, State.rf, hreg _ (by decide)]
    · rw [State.domOn, State.rb, hreg _ (by decide)]
      rfl

theorem safe_putDW (q : Request) : Safe s (s.putDW wr e q off v).1 := by
  by_cases h : off = Reg.GLB_LOCK
  · subst h
    unfold State.putDW
    dsimp only
    split
    · exact .inl (kept_busError _ _ _ _).held
    · exact .inl (held_lockWrite (wr := wr) (e := e))
  · exact (proper_putDW hwr q h).safe

omit hwr in
/-- Up to GLB_LOCK no write resets the device. -/
theorem held_putDW (q : Request) (h : off ≤ Reg.GLB_LOCK) : Held s (s.putDW wr e q off v).1 := by
  unfold State.putDW
  dsimp only
  split
  · exact (kept_busError _ _ _ _).held
  case isFalse hc =>
    have hc : s.writeCause off v = 0 := by simpa using hc
    rcases Nat.lt_or_eq_of_le h with h | rfl
    · obtain ⟨r, hr, -, hw, -⟩ := of_writeCause hc
      have hn : normOf off = off := normOf_eq (by unfold viewOf; have : off < 0x20 := h; omega)
      exact absurd (readOnly_below_lock h (hn ▸ hr)) hw
    · exact held_lockWrite (wr := wr) (e := e)

end Writes

theorem safe_bootWrite (s : State) (off : Nat) (v : Word) : Safe s (s.bootWrite off v).1 :=
  safe_putDW (fun s _ _ => .inl (Keeps.refl s).held) _

theorem safe_put (q : Request) : Safe s (s.put e q off v).1 := safe_putDW safe_bootWrite q

/-! ### Requests -/

theorem proper_hostPut (bar : Bar) (q : Request) (be : BitVec 4) (h : off ≠ Reg.GLB_LOCK) : Proper s (s.hostPut bar q e off be v) := by
  unfold State.hostPut
  cases bar with
  | bar4 => exact (kept_msixPut _ _ _ _).proper
  | config => exact (kept_cfgPut _ _ _ _).proper
  | bar0 =>
    dsimp only
    split
    · exact (kept_busError _ _ _ _).proper
    · exact proper_putDW safe_bootWrite q h
  | bar1 =>
    dsimp only
    split
    · exact (kept_busError _ _ _ _).proper
    · split
      · exact (kept_busError _ _ _ _).proper
      · exact (within_tablePut _ _ _).kept.proper

theorem held_hostPut (bar : Bar) (q : Request) (be : BitVec 4) (h : off ≤ Reg.GLB_LOCK) : Held s (s.hostPut bar q e off be v) := by
  unfold State.hostPut
  cases bar with
  | bar4 => exact (kept_msixPut _ _ _ _).held
  | config => exact (kept_cfgPut _ _ _ _).held
  | bar0 =>
    dsimp only
    split
    · exact (kept_busError _ _ _ _).held
    · exact held_putDW q h
  | bar1 =>
    dsimp only
    split
    · exact (kept_busError _ _ _ _).held
    · split
      · exact (kept_busError _ _ _ _).held
      · exact (within_tablePut _ _ _).kept.held

/-- The DW of a request rise: those that follow one which resets the device lie above GLB_LOCK. -/
theorem safe_hostPuts (bar : Bar) (q : Request) (e : Env) (fbe lbe : BitVec 4) (n off : Nat) (vs : List Word) :
    ∀ (i : Nat) (t : State), (Held s t ∨ Renewed s t ∧ Reg.GLB_LOCK < off + 4 * i) → Safe s (hostPuts bar q e fbe lbe n off vs i t) := by
  induction vs with
  | nil => exact fun i t h => h.imp id And.left
  | cons v vs ih =>
    intro i t h
    refine ih (i + 1) _ ?_
    rcases h with h | ⟨h, hi⟩
    · by_cases hi : off + 4 * i ≤ Reg.GLB_LOCK
      · exact .inl (h.trans (held_hostPut bar q _ hi))
      · exact (h.safe (proper_hostPut bar q _ (by omega)).safe).imp id fun k => ⟨k, by omega⟩
    · exact .inr ⟨h.proper (proper_hostPut bar q _ (by omega)), by omega⟩

/-- What an atomic pair request is at. -/
theorem of_pairAt {r : RegRow} (h : pairAt off = some r) : off % 8 = 0 ∧ viewOf off = 0 ∧ regRow off = some r ∧ r.pair = .low := by
  unfold pairAt at h
  split at h
  case isFalse => cases h
  case isTrue hc =>
    simp only [Bool.and_eq_true, decide_eq_true_eq] at hc
    obtain ⟨h8, hv⟩ := hc
    rw [normOf_eq hv] at h
    split at h
    case h_2 => cases h
    case h_1 x hx =>
      split at h
      case isFalse => cases h
      case isTrue hp =>
        cases h
        exact ⟨h8, hv, hx, hp⟩

theorem safe_pairWrite (q : Request) (e : Env) (lo hi : Word) {r : RegRow} (h : pairAt off = some r) : Safe s (s.pairWrite q e off lo hi) := by
  obtain ⟨h8, hv, hr, -⟩ := of_pairAt h
  have hput : ∀ {x : State}, Keeps s x → x.writeCause (off + 4) hi = 0 → Safe s (x.writeReg State.bootWrite e (off + 4) hi) := by
    intro x hx hc
    have hv4 : viewOf (off + 4) = 0 := by unfold viewOf at hv ⊢; omega
    have hl : off + 4 ≠ Reg.GLB_LOCK := fun ho => by unfold Reg.GLB_LOCK at ho; omega
    exact hx.held.safe (proper_writeReg safe_bootWrite hc hv4 hl).safe
  unfold State.pairWrite
  extract_lets staged
  rw [hr]
  dsimp -zeta only
  extract_lets c0 c1
  split
  · exact .inl (kept_busError _ _ _ _).held
  · split
    · exact .inl (kept_busError _ _ _ _).held
    case isFalse hc => exact hput (within_setStage _ _ _).kept (of_ite_zero (by decide) (Decidable.not_not.1 hc)).2

/-- A host write request. -/
theorem safe_hostWrites (bar : Bar) (off : Nat) (data : List Word) (fbe lbe : BitVec 4) (e : Env) :
    Safe s (s.hostWrites bar off data fbe lbe e) := by
  have h0 : Held s s := (Keeps.refl s).held
  unfold State.hostWrites
  dsimp only
  split
  · exact .inl h0
  · split
    · exact .inl (within_aerNote _ _).kept.held
    · split
      · exact .inl (kept_busError _ _ _ _).held
      · split
        case h_1 lo hi r hr _ =>
          cases bar with
          | bar0 => exact safe_pairWrite _ _ _ _ hr
          | bar1 | bar4 | config => cases hr
        · exact safe_hostPuts _ _ _ _ _ _ _ _ 0 s (.inl h0)

/-- The writes of a descriptor end with the first that resets the device. -/
theorem safe_runWrites (l : List (Nat × Word)) : ∀ s, Safe s (runWrites l s).1 := by
  induction l with
  | nil => exact fun s => .inl (Keeps.refl s).held
  | cons x l ih =>
    intro s
    have hx : Safe s (s.put {} singleWrite x.1 x.2).1 := safe_put _
    unfold runWrites
    dsimp only
    split
    · exact hx
    · split
      · exact hx
      case isFalse hs => exact (hx.held_of_start (by simpa using hs)).safe (ih _)

theorem safe_ring0Take (ops : Nat → Bool) : Safe s (s.ring0Take ops) := by
  have hepisode : Keeps s (s.setRingX 0 { s.ringX 0 with episode := false }) := (within_setRingX _ _ _).kept
  unfold State.ring0Take
  dsimp only
  split
  · exact .inl (Keeps.refl s).held
  · split
    · exact .inl (kept_ringExhaust _ _ _).held
    · split
      · split
        · exact .inl ((kept_ring0Return _ _ _ _ _ _).after hepisode).held
        · exact (hepisode.held.safe (safe_runWrites _ _)).keeps (kept_ring0Return _ _ _ _ _ _)
      · split
        · exact .inl ((kept_ring0Return _ _ _ _ _ _).after ((kept_getDW _ _ _).after hepisode)).held
        · exact .inl ((kept_ring0Return _ _ _ _ _ _).after hepisode).held

end Sys2Proof.Machine

/-! The three invariants of every step that speak of the guarded part. -/

namespace Sys2Proof.Machine

-- One declaration after another: side by side, their threads' stacks pass the memory limit of a check.
set_option Elab.async false

variable {s t : State}

/-! ### Every kind of command -/

/-- A step is a clock period or a command, which looks at the state without its queue. -/
theorem step_reaches (h : step s = .next t) : Reaches { s with pending := s.pending.tail } t := by
  cases hp : s.pending with
  | nil =>
    have hs : ({ s with pending := ([] : List Instr).tail } : State) = s := by rw [List.tail_nil, ← hp]
    rw [hs]
    exact Reaches.of_next (.keeps (kept_period s)) ((step_of_empty hp).symm.trans h)
  | cons c rest => exact exec_reaches ((step_of_cons hp).symm.trans h)

/-- Start-up leaves locks, pulses and the rule of the domains. -/
theorem startUp_steady (pairId : Bool) (r : Release) :
    (s.startUp pairId r).reg Reg.GLB_LOCK = s.reg Reg.GLB_LOCK ∧ (s.startUp pairId r).kept.pulses = s.kept.pulses ∧
      (s.DomainsClosed → (s.startUp pairId r).DomainsClosed) := by
  have hbegun : ∀ x : State, Steady x { x.setRb Reg.IMG_LOAD_STATUS 0 true with loader := { x.loader with warm := false } } := fun x =>
    (Keeps.upd (kept_setRb x Reg.IMG_LOAD_STATUS 0 true (by decide)) rfl).steady
  have hsupplied : ∀ x : State, Steady x (x.domainsOn x.domainEn false).owedTamper := fun x =>
    (powers_domainsOn false State.DomainsClosed.enabled).steady.trans (kept_owedTamper _).steady
  unfold State.startUp
  split
  · exact ⟨rfl, rfl, id⟩
  case h_2 phase _ =>
    split
    · exact ⟨rfl, rfl, id⟩
    · have hfirst : ∀ x : State, Keeps x (if phase = .full then (x.startFirst pairId r.pos.val).rtcRelease else x) := fun x =>
        ((within_rtcRelease _).kept.after (kept_startFirst _ _ _)).ite
      have h := ((((hfirst { s with pwr := { s.pwr with start := none } }).trans (kept_owedRtc _)).steady.trans (hsupplied _)).trans
        (hbegun _))
      exact ⟨h.lock, h.pulses, h.domains⟩

/-- The three rules of a step: locks, domains, pulses. -/
structure Guarded (s t : State) : Prop where
  lock : (∀ k, s.rb Reg.GLB_LOCK k = true → t.rb Reg.GLB_LOCK k = true) ∨ t.reg Reg.GLB_LOCK = 0 ∧ t.pwr.start ≠ none
  domains : s.DomainsClosed → t.DomainsClosed
  pulses : s.gate = false → t.kept.pulses = s.kept.pulses

theorem Safe.guarded : Safe s t → Guarded s t
  | .inl h => ⟨.inl h.lock, h.domains, fun _ => h.pulses⟩
  | .inr h => ⟨.inr ⟨h.lock, h.start⟩, h.domains, fun _ => h.pulses⟩

theorem Keeps.guarded (h : Keeps s t) : Guarded s t := Safe.guarded (.inl h.held)

/-- While the gate is open anything may leave. -/
theorem guarded_emit {x : State} (o : Output) (h : Keeps s x) (hg : s.gate = true) : Guarded s (x.emit o) := by
  refine ⟨.inl fun k hk => ?_, fun c => ?_, fun hc => absurd (hc.symm.trans hg) (by decide)⟩
  · rwa [State.rb, emit_reg, h.lock]
  · obtain ⟨he, ho⟩ := domainsClosed_iff.1 (h.domainsClosed c)
    refine domainsClosed_iff.2 ⟨?_, ho.congr fun d _ => ?_⟩
    · rwa [State.domainEn, State.rf, emit_reg]
    · rw [State.domOn, State.rb, emit_reg]
      rfl

/-- A pulse leaves only while the gate is open. -/
theorem guarded_pulseOutput (n : Fin 4) : Guarded s (s.pulseOutput n) := by
  unfold State.pulseOutput
  dsimp only
  split
  · exact (Keeps.refl s).guarded
  · split
    case isFalse => exact (Keeps.refl s).guarded
    case isTrue =>
      have hk : ∀ p, Keeps s ((s.setPulse n p).bumpWrap (Reg.PULSE_COUNT n)) := fun p =>
        (kept_bumpWrap _ _ (spared_add (by decide))).after (within_setPulse _ _ _).kept
      have hgate : ∀ p, ((s.setPulse n p).bumpWrap (Reg.PULSE_COUNT n)).gate = s.gate := fun p => by
        have hne : Reg.RED_STATUS ≠ Reg.PULSE_COUNT n := by unfold Reg.RED_STATUS Reg.PULSE_COUNT; have := n.isLt; omega
        rw [State.gate, State.rb, State.bumpWrap, reg_setReg_ne hne]
        rfl
      rw [hgate]
      split
      case isFalse => exact (hk _).guarded
      case isTrue hg => exact guarded_emit _ (hk _) hg

/-- Every kind of command meets the three rules. -/
theorem Reaches.guarded (h : Reaches s t) : Guarded s t := by
  cases h with
  | keeps h => exact h.guarded
  | host bar off data fbe lbe e => exact (safe_hostWrites _ _ _ _ _ _).guarded
  | ring0 ops => exact (safe_ring0Take ops).guarded
  | boot bad desks => exact (safe_bootLoad safe_bootWrite bad desks).guarded
  | power p => exact (safe_mainPower p).guarded
  | start pairId r =>
    obtain ⟨hlock, hpulses, hdomains⟩ := startUp_steady (s := s) pairId r
    exact ⟨.inl fun k hk => by rwa [State.rb, hlock], hdomains, fun _ => hpulses⟩
  | done => exact Safe.guarded (.inl powers_domainDone.steady.held)
  | wake => exact Safe.guarded (.inl powers_wake.steady.held)
  | pulse n => exact guarded_pulseOutput n

theorem guarded_step (h : step s = .next t) : Guarded { s with pending := s.pending.tail } t := (step_reaches h).guarded

/-! ### The outputs behind the gate (R30, R481, R489) -/

/-- The signals behind the gate. -/
theorem boundaryCells_alm (n : Fin 16) : boundaryCells.getD (126 + n) (.refclk, .observe) = (.alm n, .output 150) := by
  revert n
  decide

theorem boundaryCells_pulse (m : Fin 4) : boundaryCells.getD (142 + m) (.refclk, .observe) = (.pulse m, .output 150) := by
  revert m
  decide

theorem functionLevel_alm (n : Nat) (h : s.gate = false) : s.functionLevel (.alm n) = some (s.domOn pdSch && s.rb (Reg.PIN_CTRL n) 3) := by
  simp [State.functionLevel, State.almLevel, h]

theorem functionLevel_pulse (m : Nat) (h : s.gate = false) : s.functionLevel (.pulse m) = some false := by
  simp [State.functionLevel, State.pulseLevel, h]

/-- A gated output cell under a boundary instruction: HIGHZ releases its ball, every other one leaves it to the gate. -/
theorem ballLevel_gated {i ctl : Nat} {sig : BSig} {l : Bool} (hb : s.boundary = true)
    (hc : boundaryCells.getD i (.refclk, .observe) = (sig, .output ctl)) (hl : s.gatedLevel sig = some l) :
    s.ballLevel i = if s.tapInstr = 5 then none else some l := by
  simp only [State.ballLevel, hb, if_true, State.cellLevel, hc, hl]

/-! ### The obligations -/

/-- Settles O5: every command holds the locks, but for those that reset the device. -/
theorem locksStayUntilAReset : Obligations.LocksStayUntilAReset := by
  unfold Obligations.LocksStayUntilAReset
  intro s t k h hk
  exact (guarded_step h).lock.imp (fun hl => hl k hk) id

/-- Settles O6: a mask of domains that are asked for, or that stay on, has its prerequisites whenever domains are switched. -/
theorem domainsKeepTheirPrerequisites : Obligations.DomainsKeepTheirPrerequisites := by
  unfold Obligations.DomainsKeepTheirPrerequisites
  intro s t hs h
  exact (guarded_step h).domains hs

/-- Settles O7: PULSE_OUTPUT alone emits a pulse, and it looks at the gate. -/
theorem alarmOutputsNeedTheHallPass : Obligations.AlarmOutputsNeedTheHallPass := by
  unfold Obligations.AlarmOutputsNeedTheHallPass
  refine ⟨fun s t n w h hg hp => ?_, fun s n m hg => ⟨functionLevel_alm n hg, functionLevel_pulse m hg, fun hb hi => ?_, fun hb hi => ?_⟩⟩
  · have hf : t.out.filter Output.isPulse = s.out.filter Output.isPulse := (guarded_step h).pulses hg
    have hm : .pulse n w ∈ t.out.filter Output.isPulse := List.mem_filter.2 ⟨hp, rfl⟩
    exact (List.mem_filter.1 (hf ▸ hm)).1
  all_goals
    have ha : s.gatedLevel (.alm n) = some (s.domOn pdSch && s.rb (Reg.PIN_CTRL n) 3) := by simp [State.gatedLevel, hg]
    have hq : s.gatedLevel (.pulse m) = some false := by simp [State.gatedLevel, hg]
    rw [ballLevel_gated hb (boundaryCells_alm n) ha, ballLevel_gated hb (boundaryCells_pulse m) hq]
    simp [hi]

end Sys2Proof.Machine

/-! Single requests of the host, as the commands of the host link make them. -/

namespace Sys2Proof.Machine

-- One declaration after another: side by side, their threads' stacks pass the memory limit of a check.
set_option Elab.async false

variable {s : State} {off : Nat} {v : Word} {e : Env}

theorem barSize_bar0 : barSize .bar0 = 0x4000000 := rfl

theorem hostUp_iff : s.hostUp = true ↔ s.pcieUp = true ∧ s.pcie.d3hot = false := by
  unfold State.hostUp
  rw [Bool.and_eq_true, Bool.not_eq_true']

/-- A write request that the endpoint takes, DW by DW. -/
theorem hostWrites_up {bar : Bar} {data : List Word} {fbe lbe : BitVec 4} (h : s.hostUp = true)
    (hx : (judged bar && crossesAlign data.length fbe lbe) = false) (hp : bar = .bar0 → data.length = 2 → pairAt off = none) :
    s.hostWrites bar off data fbe lbe e = hostPuts bar (requestOf bar true data.length fbe lbe) e fbe lbe data.length off data 0 s := by
  obtain ⟨hup, hd⟩ := hostUp_iff.1 h
  unfold State.hostWrites
  simp only [hup, hd, hx, Bool.not_true, Bool.and_false, Bool.false_eq_true, if_false]
  split
  case h_1 lo hi r hr =>
    split at hr
    case isTrue hb => exact absurd (hp hb rfl) (by simp [hr])
    case isFalse => cases hr
  · rfl

/-- A request of one DW does what that DW does. -/
theorem hostWrites_one {bar : Bar} {be lbe : BitVec 4} (h : s.hostUp = true) :
    s.hostWrites bar off [v] be lbe e = s.hostPut bar (requestOf bar true 1 be lbe) e off be v := by
  rw [hostWrites_up h (by simp [crossesAlign]) (by simp)]
  simp [hostPuts, enablesAt]

/-- A read request that the endpoint takes. -/
theorem hostReads_up {bar : Bar} {n : Nat} {fbe lbe : BitVec 4} (h : s.hostUp = true) :
    s.hostReads bar off n fbe lbe =
      let q := requestOf bar false n fbe lbe
      if judged bar && crossesAlign n fbe lbe then (s.busError q off causeAlign).complete none
      else
        let p :=
          if n = 2 && (if bar = .bar0 then pairAt off else none).isSome then s.pairRead q off
          else hostGets bar q fbe lbe n off n 0 (some []) s
        p.1.complete p.2 := by
  obtain ⟨hup, hd⟩ := hostUp_iff.1 h
  unfold State.hostReads
  simp only [hup, hd, Bool.not_true, Bool.and_false, Bool.false_eq_true, if_false]

theorem hostReads_one {bar : Bar} {be lbe : BitVec 4} (h : s.hostUp = true) :
    s.hostReads bar off 1 be lbe = (s.hostGet bar (requestOf bar false 1 be lbe) off be).1.complete
      ((s.hostGet bar (requestOf bar false 1 be lbe) off be).2.map fun w => [w]) := by
  rw [hostReads_up h]
  cases hg : (s.hostGet bar (requestOf bar false 1 be lbe) off be).2 <;> simp [crossesAlign, hostGets, enablesAt, hg]

theorem exec_registerWrite {bar : Bar} {data : List Word} {fbe lbe : BitVec 4} (h : off + 4 * data.length ≤ barSize bar) :
    exec (.registerWrite bar off data fbe lbe) s = .next (s.hostWrites bar off data fbe lbe {}) := if_pos h

theorem exec_pairLowRead {bar : Bar} {n : Nat} {fbe lbe : BitVec 4} (h : off + 4 * n ≤ barSize bar) :
    exec (.pairLowRead bar off n fbe lbe) s = .next (s.hostReads bar off n fbe lbe) := if_pos h

theorem exec_registerWrite_poke (h : off + 4 ≤ barSize .bar0) :
    exec (.registerWrite .bar0 off [v] 15 0) s = .next (s.poke off v {}) := exec_registerWrite h

/-! ### Alias views (R41, R48) -/

theorem viewOf_alias {k : Nat} (h : off % 0x10000 < 0x4000) (hk : k < 4) : viewOf (off + 0x4000 * k) = k := by
  unfold viewOf
  omega

theorem normOf_alias {k : Nat} (h : off % 0x10000 < 0x4000) (hk : k < 4) : normOf (off + 0x4000 * k) = off := by
  unfold normOf
  omega

theorem viewNo_lt (view : View) : viewNo view < 4 ∧ viewNo view ≠ 0 := by
  cases view <;> decide

theorem exec_aliasWrite {view : View} {be : BitVec 4} (h : off + 0x4000 * viewNo view < barSize .bar0) :
    exec (.aliasWrite view off v be) s = .next (s.hostWrites .bar0 (off + 0x4000 * viewNo view) [v] be 0 {}) := if_pos h

/-- An alias write of a register with a field marked A. -/
theorem poke_alias {r : RegRow} (view : View) (h : s.hostUp = true) (hv : off % 0x10000 < 0x4000) (hr : regRow off = some r)
    (ha : r.am ≠ 0) (hw : r.rw ||| r.w1c ||| r.wo ≠ 0) (hd : s.reachable off = true) (hl : r.lock = none)
    (hx : ∀ v m, unitRefuses s off v m = false) :
    ∃ w, s.poke (off + 0x4000 * viewNo view) v e =
      (s.setReg off (aliasValue (viewNo view) r.am (s.reg off) v)).unitHook s State.bootWrite e off (s.reg off) w := by
  obtain ⟨hk, hk0⟩ := viewNo_lt view
  have hview := viewOf_alias hv hk
  have hnorm := normOf_alias hv hk
  have hc : s.writeCause (off + 0x4000 * viewNo view) v = 0 := by
    unfold State.writeCause
    rw [hnorm, hr]
    have hm : (viewOf (off + 0x4000 * viewNo view) ≠ 0 && decide (r.am = 0)) = false := by rw [decide_eq_false ha, Bool.and_false]
    simp only [hd, hm, hw, hl, hx, Bool.not_true, Bool.false_eq_true, if_false]
  rw [poke_up h, if_pos hc, State.writeView, hview, if_neg hk0, hnorm, hr]
  exact ⟨_, rfl⟩

end Sys2Proof.Machine

/-! Bus errors (R52): the capture, the count and event 61. -/

namespace Sys2Proof.Machine

-- One declaration after another: side by side, their threads' stacks pass the memory limit of a check.
set_option Elab.async false

variable {s : State} {q : Request} {off cause : Nat}

/-- The capture as a bus error leaves it: what is held, or the request at hand, and one more in the count. -/
def State.errorInfo (s : State) (q : Request) (off cause : Nat) : Word :=
  let w := if s.rb Reg.GLB_BUSERR_INFO 31 then s.reg Reg.GLB_BUSERR_INFO else captureInfo q off cause
  setFld w 20 8 (satAdd 255 (fld w 20 8) 1)

theorem busError_reg {o : Nat} (h : Quiet o) : (s.busError q off cause).reg o =
    if o = Reg.GLB_BUSERR_INFO then s.errorInfo q off cause
    else if o = Reg.GLB_BUSERR_ADDR ∧ s.rb Reg.GLB_BUSERR_INFO 31 = false then word (off / 4 * 4) else s.reg o := by
  have hne : Reg.GLB_BUSERR_ADDR ≠ Reg.GLB_BUSERR_INFO := by decide
  unfold State.busError State.errorInfo
  dsimp only
  rw [raise_reg (by decide) h, reg_setRf, State.rf]
  cases hv : s.rb Reg.GLB_BUSERR_INFO 31 with
  | true => simp
  | false =>
    simp only [Bool.false_eq_true, if_false, reg_setReg_self]
    by_cases hi : o = Reg.GLB_BUSERR_INFO
    · simp [hi]
    · by_cases ha : o = Reg.GLB_BUSERR_ADDR
      · simp [ha, hne, reg_setReg]
      · simp [hi, ha, reg_setReg]

theorem busError_event : (s.busError q off cause).event 61 = true := raise_sets (e := 61) (by decide)

theorem busError_only : OnlyRegsAndEvents s (s.busError q off cause) := ((within_busError s q off cause).mono (by decide)).onlyRegsAndEvents

theorem busError_regsKept : RegsKept s (s.busError q off cause) [Reg.GLB_BUSERR_ADDR, Reg.GLB_BUSERR_INFO] := fun o h ho => by
  simp only [List.mem_cons, List.not_mem_nil, or_false, not_or] at ho
  rw [busError_reg h, if_neg ho.2, if_neg fun c => ho.1 c.1]

/-! ### The fields of a capture -/

/-- A capture: the octets enabled, the direction, the view, the aperture and the cause. -/
theorem captureInfo_toNat (hc : cause < 16) : ∃ lo < 256, ∃ hi < 32, (captureInfo q off cause).toNat =
    lo + 256 * q.write.toNat + 512 * (if q.bar = 0 then viewOf off else 0) + 2048 * hi + 65536 * cause + 2 ^ 31 := by
  have hw : q.write.toNat < 2 := Bool.toNat_lt _
  have hv : viewOf off < 4 := by unfold viewOf; omega
  refine ⟨q.fbe % 16 + 16 * (q.lbe % 16), by omega, q.bar % 4 + 4 * (if q.bar = 2 then off >>> 32 % 4 else 0), by split <;> omega, ?_⟩
  unfold captureInfo word
  rw [BitVec.toNat_ofNat, Nat.mod_eq_of_lt (by split <;> split <;> omega)]
  omega

/-- A capture read field by field: VALID, no count yet, the cause, the direction, and the view of a BAR0 offset. -/
theorem captureInfo_fields (hc : cause < 16) :
    bit (captureInfo q off cause) 31 = true ∧ fld (captureInfo q off cause) 20 8 = 0 ∧ fld (captureInfo q off cause) 16 4 = cause ∧
      bit (captureInfo q off cause) 8 = q.write ∧ (q.bar = 0 → fld (captureInfo q off cause) 9 2 = viewOf off) := by
  obtain ⟨lo, hlo, hi, hhi, h⟩ := captureInfo_toNat (q := q) (off := off) hc
  have hv : viewOf off < 4 := by unfold viewOf; omega
  have hw : q.write.toNat < 2 := Bool.toNat_lt _
  have hbit : ∀ i, bit (captureInfo q off cause) i = decide ((captureInfo q off cause).toNat / 2 ^ i % 2 = 1) := fun i => by
    rw [bit, BitVec.getLsbD, Nat.testBit_eq_decide_div_mod_eq]
  have hfld : ∀ a n, fld (captureInfo q off cause) a n = (captureInfo q off cause).toNat / 2 ^ a % 2 ^ n := fun a n => by
    rw [fld, Nat.shiftRight_eq_div_pow]
  have hview : (if q.bar = 0 then viewOf off else 0) < 4 := by split <;> omega
  refine ⟨?_, ?_, ?_, ?_, fun hb => ?_⟩
  · rw [hbit, h]; exact decide_eq_true (by omega)
  · rw [hfld, h]; omega
  · rw [hfld, h]; omega
  · rw [hbit, h]
    generalize (if q.bar = 0 then viewOf off else 0) = view at hview ⊢
    cases q.write with
    | false => exact decide_eq_false (by rw [Bool.toNat_false]; omega)
    | true => exact decide_eq_true (by rw [Bool.toNat_true]; omega)
  · rw [hfld, h, if_pos hb]; omega

/-! ### What one bus error leaves -/

theorem busError_info : (s.busError q off cause).reg Reg.GLB_BUSERR_INFO = s.errorInfo q off cause := by
  rw [busError_reg (by decide), if_pos rfl]

theorem busError_valid (hc : cause < 16) : (s.busError q off cause).rb Reg.GLB_BUSERR_INFO 31 = true := by
  rw [State.rb, busError_info, State.errorInfo, bit_setFld_ne (by decide) (by decide)]
  split
  · assumption
  · exact (captureInfo_fields hc).1

/-- A field below the count: the capture that is held, or that of the request at hand. -/
theorem busError_field {a n : Nat} (h : a + n ≤ 20) : (s.busError q off cause).rf Reg.GLB_BUSERR_INFO a n =
    fld (if s.rb Reg.GLB_BUSERR_INFO 31 then s.reg Reg.GLB_BUSERR_INFO else captureInfo q off cause) a n := by
  rw [State.rf, busError_info, State.errorInfo, fld_setFld_ne (by decide) (Or.inl h)]

theorem busError_bit {i : Nat} (h : i < 20) : (s.busError q off cause).rb Reg.GLB_BUSERR_INFO i =
    bit (if s.rb Reg.GLB_BUSERR_INFO 31 then s.reg Reg.GLB_BUSERR_INFO else captureInfo q off cause) i := by
  rw [State.rb, busError_info, State.errorInfo, bit_setFld_ne (by decide) (Or.inl h)]

theorem busError_count (hc : cause < 16) : (s.busError q off cause).rf Reg.GLB_BUSERR_INFO 20 8 =
    min 255 ((if s.rb Reg.GLB_BUSERR_INFO 31 then s.rf Reg.GLB_BUSERR_INFO 20 8 else 0) + 1) := by
  rw [State.rf, busError_info, State.errorInfo, fld_setFld (by decide), satAdd, Nat.mod_eq_of_lt (by omega)]
  split
  · rfl
  · rw [(captureInfo_fields hc).2.1]

theorem busError_addr : (s.busError q off cause).reg Reg.GLB_BUSERR_ADDR =
    if s.rb Reg.GLB_BUSERR_INFO 31 = false then word (off / 4 * 4) else s.reg Reg.GLB_BUSERR_ADDR := by
  rw [busError_reg (by decide), if_neg (by decide)]
  simp

theorem tookBusError (hc : cause < 16) : s.TookBusError (s.busError q off cause) off cause := by
  refine ⟨busError_event, busError_valid hc, fun hv => ⟨by rw [busError_addr, if_pos hv], ?_⟩, busError_regsKept⟩
  rw [busError_field (by decide), hv]
  exact (captureInfo_fields hc).2.2.1

/-- A completion changes no register, and so hides no bus error. -/
theorem TookBusError.of_regs {t u : State} {off cause : Nat} (h : s.TookBusError t off cause) (hr : u.regs = t.regs) :
    s.TookBusError u off cause := by
  have hreg : ∀ o, u.reg o = t.reg o := fun o => by rw [State.reg, hr]; rfl
  simpa only [State.TookBusError, State.event, State.rb, State.rf, RegsKept, hreg] using h

/-- A read that fails: its completion with Completer Abort. -/
theorem complete_none (h : s.boundary = false) :
    (s.complete none).out = .cpl .abort :: s.out ∧ (s.complete none).regs = s.regs ∧ (s.complete none).stages = s.stages ∧
      (s.complete none).latches = s.latches ∧ (s.complete none).hbm = s.hbm := by
  have he : s.complete none = { s.aerNote 15 with out := .cpl .abort :: s.out } := emit_of_not_boundary (aerNote_boundary.trans h)
  rw [he]
  exact ⟨rfl, rfl, rfl, rfl, rfl⟩

theorem busError_boundary : (s.busError q off cause).boundary = s.boundary := by
  have hne : ∀ o, 0x1A0000 ≤ o → o < 0x1B0000 → (s.busError q off cause).reg o = s.reg o := fun o h1 h2 =>
    busError_regsKept o (by omega) (by simp [Reg.GLB_BUSERR_ADDR, Reg.GLB_BUSERR_INFO]; omega)
  unfold State.boundary State.rf State.rb
  rw [hne _ (by decide) (by decide), hne _ (by decide) (by decide)]

end Sys2Proof.Machine

/-! Host writes of registers and of table space (R36, R42-R49, R52, R53). -/

namespace Sys2Proof.Machine

-- One declaration after another: side by side, their threads' stacks pass the memory limit of a check.
set_option Elab.async false

variable {s : State} {off : Nat} {v : Word}

/-- Writes that have no part beside the register's plain fields. -/
theorem regRow_scratch (k : Fin 4) :
    regRow (Reg.GLB_SCRATCH k) = some ⟨0x70, 0x4, 4, 0x4, 1, 0x0, 0xFFFFFFFF, 0x0, 0x0, 0xFFFFFFFF, .single, none⟩ := by
  revert k
  decide

theorem glbHook_scratch (k : Fin 4) (old w : Word) : s.glbHook (Reg.GLB_SCRATCH k) old w = s := by
  have hne : Reg.GLB_SCRATCH k ≠ Reg.GLB_LOCK ∧ Reg.GLB_SCRATCH k ≠ Reg.GLB_BUSERR_INFO ∧ Reg.GLB_SCRATCH k ≠ Reg.GLB_RESET := by
    revert k
    decide
  rw [State.glbHook, if_neg hne.1, if_neg hne.2.1, if_neg hne.2.2]

theorem scratch_unit (k : Fin 4) : Reg.GLB_SCRATCH k / 0x10000 = 0 ∧ Reg.GLB_SCRATCH k % 0x10000 < 0x4000 ∧ viewOf (Reg.GLB_SCRATCH k) = 0 := by
  revert k
  decide

theorem glbRefuses_scratch (k : Fin 4) (w : Word) : glbRefuses (Reg.GLB_SCRATCH k) w = false := by
  have hne : Reg.GLB_SCRATCH k ≠ Reg.GLB_RESET := by
    revert k
    decide
  simp [glbRefuses, hne]

/-- PD_BASE is always on. -/
theorem reachable_glb (h : off / 0x10000 = 0) : s.reachable off = true := by
  unfold State.reachable
  simp only [h]

theorem reachable_rtc (h : off / 0x10000 = 4) : s.reachable off = !s.rtc.lockout := by
  unfold State.reachable
  simp only [h]

theorem writeCause_scratch (k : Fin 4) : s.writeCause (Reg.GLB_SCRATCH k) v = 0 := by
  obtain ⟨hu, -, hv⟩ := scratch_unit k
  exact writeCause_none hv (normOf_eq hv) (regRow_scratch k) (reachable_glb hu) (by decide) (fun _ h => nomatch h) fun m => by
    rw [unitRefuses_glb hu, glbRefuses_scratch]

theorem poke_scratch (h : s.hostUp = true) (k : Fin 4) {e : Env} : s.poke (Reg.GLB_SCRATCH k) v e = s.setReg (Reg.GLB_SCRATCH k) v := by
  obtain ⟨hu, -, hv⟩ := scratch_unit k
  rw [poke_single h (writeCause_scratch k) hv (regRow_scratch k) rfl, unitHook_glb hu, glbHook_scratch, merge_ones]

theorem poke_scratch_alias (h : s.hostUp = true) (k : Fin 4) (view : View) {e : Env} :
    s.poke (Reg.GLB_SCRATCH k + 0x4000 * viewNo view) v e =
      s.setReg (Reg.GLB_SCRATCH k) (aliasValue (viewNo view) 0xFFFFFFFF (s.reg (Reg.GLB_SCRATCH k)) v) := by
  obtain ⟨hu, hm, -⟩ := scratch_unit k
  obtain ⟨w, hw⟩ := poke_alias (v := v) (e := e) view h hm (regRow_scratch k) (by decide) (by decide) (reachable_glb hu) rfl
    (fun v m => by rw [unitRefuses_glb hu, glbRefuses_scratch])
  rw [hw, unitHook_glb hu, glbHook_scratch]

theorem poke_rtcCtrl_alias (h : s.hostUp = true) (hl : s.rtc.lockout = false) (view : View) {e : Env} :
    s.poke (Reg.RTC_CTRL + 0x4000 * viewNo view) v e =
      s.setReg Reg.RTC_CTRL (aliasValue (viewNo view) 0xB (s.reg Reg.RTC_CTRL) v) := by
  have hu : Reg.RTC_CTRL / 0x10000 = 4 := by decide
  obtain ⟨w, hw⟩ := poke_alias (off := Reg.RTC_CTRL) (v := v) (e := e) (r := ⟨0x40000, 0x4, 1, 0x4, 1, 0x0, 0x3F, 0x0, 0x0, 0xB, .single, none⟩) view h (by decide)
    (by decide) (by decide) (by decide) (by rw [reachable_rtc hu, hl]; rfl) rfl
    (fun v m => by rw [unitRefuses_rtc hu, rtcRefuses, if_neg (by decide), if_neg (by decide)])
  rw [hw, unitHook_rtc hu, State.rtcHook, if_neg (by decide)]

/-- An alias write that the endpoint takes. -/
theorem exec_aliasWrite_poke {view : View} (h : off + 0x4000 * viewNo view < barSize .bar0) :
    exec (.aliasWrite view off v 15) s = .next (s.poke (off + 0x4000 * viewNo view) v {}) := exec_aliasWrite h

/-! ### Causes in the table's order -/

theorem causes_alias {r : RegRow} (view : View) (hr : regRow off = some r) (hv : off % 0x10000 < 0x4000) (hd : s.reachable off = true) :
    s.readCause (off + 0x4000 * viewNo view) = 5 ∧ (r.am = 0 → s.writeCause (off + 0x4000 * viewNo view) v = 5) := by
  obtain ⟨hk, hk0⟩ := viewNo_lt view
  have hview := viewOf_alias hv hk
  have hnorm := normOf_alias hv hk
  refine ⟨?_, fun ha => ?_⟩
  · unfold State.readCause
    simp [hnorm, hview, hr, hd, hk0, causeAlias]
  · unfold State.writeCause
    simp [hnorm, hview, hr, hd, hk0, ha, causeAlias]

/-- Registers under a lock have no field marked A. -/
theorem am_of_lock {r : RegRow} {b : Nat} (hr : regRow off = some r) (hl : r.lock = some b) : r.am = 0 := by
  have hall : ∀ u, (regRowsOf u).all (fun r => r.lock.isNone || decide (r.am = 0)) = true := fun u => by
    unfold regRowsOf
    split <;> decide
  have h := List.all_eq_true.1 (hall (off / 0x10000)) r (List.mem_of_find?_eq_some hr)
  simpa [hl] using h

/-- A lock is the last cause before VALUE, and ALIAS comes before it. -/
theorem causes_lock {r : RegRow} {b : Nat} (view : View) (hr : regRow off = some r) (hv : off % 0x10000 < 0x4000)
    (hd : s.reachable off = true) (hw : r.rw ≠ 0) (hl : r.lock = some b) (hb : s.rb Reg.GLB_LOCK b = true) :
    s.writeCause off v = 7 ∧ s.writeCause (off + 0x4000 * viewNo view) v = 5 := by
  have hview : viewOf off = 0 := by unfold viewOf; omega
  refine ⟨?_, (causes_alias view hr hv hd).2 (am_of_lock hr hl)⟩
  unfold State.writeCause
  have hsome : ¬ r.rw ||| r.w1c ||| r.wo = 0 := by simpa using fun h _ => absurd h hw
  rw [normOf_eq hview, hr]
  simp only [hview, hd, hsome, hl, hb]
  rfl

/-! ### Table space -/

theorem hostWrites_bar1 {e : Env} (h : s.hostUp = true) : s.hostWrites .bar1 off [v] 15 0 e =
    if s.tableCause off true ≠ 0 then s.busError (requestOf .bar1 true 1 15 0) off (s.tableCause off true) else s.tablePut off v := by
  rw [hostWrites_one h]
  rfl

theorem tablePut_plain {d : Nat} (h : tableDW off = .plain d) : s.tablePut off v = s.setTw off v := by
  unfold State.tablePut
  rw [h]

theorem plain_below_keys {d : Nat} (h : tableDW off = .plain d) : off < 0xC00000 := by
  by_contra hn
  unfold tableDW at h
  rw [if_neg (by omega), if_neg (by simp; omega), if_neg (by simp; omega), if_neg (by simp; omega)] at h
  split at h <;> cases h

/-- Software owns the coefficient banks. -/
theorem tableCause_plain {d : Nat} (h : tableDW off = .plain d) (hd : s.domOn d = true) : s.tableCause off true = 0 := by
  have hk : decide (0xC00000 ≤ off) = false := decide_eq_false (by have := plain_below_keys h; omega)
  unfold State.tableCause
  rw [h]
  simp [TableDW.domain, hd, hk]

theorem busError_tables {q : Request} {c : Nat} : (s.busError q off c).tables = s.tables := (within_busError s q off c).tables (by decide)

/-- Settles O9: each view leaves what it makes of the register, and the causes follow in the order of the table. -/
theorem registerAliasAndTableWrites : Obligations.RegisterAliasAndTableWrites := by
  unfold Obligations.RegisterAliasAndTableWrites
  have hones : ∀ w : Word, w &&& 0xFFFFFFFF = w := fun w => by simpa using BitVec.and_allOnes (x := w)
  refine ⟨fun s k v h => ?_, fun s v h hl => ?_, fun s view off v r hr hv hd => ?_, fun s off d v h ho => ⟨fun hp hd => ?_, fun hc => ?_⟩⟩
  · have hk : Reg.GLB_SCRATCH k ≤ 0x7C := by
      revert k
      decide
    have hin : ∀ view, Reg.GLB_SCRATCH k + 0x4000 * viewNo view < barSize .bar0 := fun view => by
      have := (viewNo_lt view).1
      rw [barSize_bar0]
      omega
    have halias : ∀ view, exec (.aliasWrite view (Reg.GLB_SCRATCH k) v 15) s =
        .next (s.setReg (Reg.GLB_SCRATCH k) (aliasValue (viewNo view) 0xFFFFFFFF (s.reg (Reg.GLB_SCRATCH k)) v)) := fun view => by
      rw [exec_aliasWrite_poke (hin view), poke_scratch_alias h]
    refine ⟨?_, (halias .set).trans ?_, (halias .clr).trans ?_, (halias .tgl).trans ?_⟩
    · rw [exec_registerWrite_poke (by rw [barSize_bar0]; omega), poke_scratch h]
    all_goals simp only [aliasValue, viewNo, hones]
  · have halias : ∀ view, exec (.aliasWrite view Reg.RTC_CTRL v 15) s =
        .next (s.setReg Reg.RTC_CTRL (aliasValue (viewNo view) 0xB (s.reg Reg.RTC_CTRL) v)) := fun view => by
      rw [exec_aliasWrite_poke (by cases view <;> decide), poke_rtcCtrl_alias h hl]
    exact ⟨halias .set, halias .clr, halias .tgl⟩
  · obtain ⟨hread, hwrite⟩ := causes_alias (v := v) view hr hv hd
    exact ⟨hread, hwrite, fun b hw hl hb => causes_lock view hr hv hd hw hl hb⟩
  · rw [exec_registerWrite ho, hostWrites_bar1 h, tableCause_plain hp hd, tablePut_plain hp]
    rfl
  · refine ⟨_, exec_registerWrite ho, ?_⟩
    rw [hostWrites_bar1 h, if_pos hc]
    exact ⟨busError_tables, busError_event⟩

end Sys2Proof.Machine

/-! Requests in error, and requests of more DW than one (R42-R44, R52). -/

namespace Sys2Proof.Machine

-- One declaration after another: side by side, their threads' stacks pass the memory limit of a check.
set_option Elab.async false

variable {s : State} {off : Nat} {v : Word} {q : Request} {e : Env}

theorem writeCause_lt : s.writeCause off v < 16 := by
  have link : ∀ {p : Prop} [Decidable p] {a b : Nat}, a < 16 → b < 16 → (if p then a else b) < 16 := fun ha hb => by
    split
    · exact ha
    · exact hb
  unfold State.writeCause
  split
  · decide
  · exact link (by decide) (link (by decide) (link (by decide) (link (by decide) (link (by decide) (by decide)))))

theorem readCause_lt : s.readCause off < 16 := by
  unfold State.readCause
  split
  · decide
  · split
    · decide
    · split <;> decide

theorem judged_of {bar : Bar} (h : bar = .bar0 ∨ bar = .bar1) : judged bar = true := by
  rcases h with rfl | rfl <;> rfl

theorem hostPut_width {bar : Bar} {be : BitVec 4} (h : bar = .bar0 ∨ bar = .bar1) (hb : be ≠ 15) :
    s.hostPut bar q e off be v = s.busError q off causeWidth := by
  rcases h with rfl | rfl <;> exact if_pos hb

theorem hostGet_width {bar : Bar} {be : BitVec 4} (h : bar = .bar0 ∨ bar = .bar1) (hb : be ≠ 15) :
    s.hostGet bar q off be = (s.busError q off causeWidth, none) := by
  rcases h with rfl | rfl <;> exact if_pos hb

theorem hostPut_whole : s.hostPut .bar0 q e off 15 v = (s.put e q off v).1 := rfl
theorem hostGet_whole : s.hostGet .bar0 q off 15 = s.getDW q off := rfl

theorem put_error (h : s.writeCause off v ≠ 0) : (s.put e q off v).1 = s.busError q off (s.writeCause off v) := by
  unfold State.put State.putDW
  dsimp only
  rw [if_pos h]

theorem put_good (h : s.writeCause off v = 0) : (s.put e q off v).1 = s.writeView State.bootWrite e off v := by
  unfold State.put State.putDW
  dsimp only
  rw [if_neg (by simp [h])]

theorem getDW_error (h : s.readCause off ≠ 0) : s.getDW q off = (s.busError q off (s.readCause off), none) := if_pos h

theorem getDW_single {r : RegRow} (h : s.readCause off = 0) (hr : regRow off = some r) (hp : r.pair = .single) :
    s.getDW q off = (s, some (s.view off)) := by
  unfold State.getDW
  dsimp only
  rw [if_neg (by simp [h]), State.readReg, hr]
  dsimp only
  rw [hp]

theorem hostWrites_cross {bar : Bar} {fbe lbe : BitVec 4} {w : Word} (h : s.hostUp = true) (hj : judged bar = true)
    (hc : crossesAlign 2 fbe lbe = true) :
    s.hostWrites bar off [v, w] fbe lbe e = s.busError (requestOf bar true 2 fbe lbe) off causeAlign := by
  obtain ⟨hup, hd⟩ := hostUp_iff.1 h
  unfold State.hostWrites
  simp [hup, hd, hj, hc]

theorem hostReads_cross {bar : Bar} {fbe lbe : BitVec 4} (h : s.hostUp = true) (hj : judged bar = true) (hc : crossesAlign 2 fbe lbe = true) :
    s.hostReads bar off 2 fbe lbe = (s.busError (requestOf bar false 2 fbe lbe) off causeAlign).complete none := by
  rw [hostReads_up h]
  simp [hj, hc]

/-- A read that is completed with Completer Abort after a bus error. -/
theorem tookBusError_abort {cause : Nat} (hc : cause < 16) (hb : s.boundary = false) :
    s.TookBusError ((s.busError q off cause).complete none) off cause ∧
      ((s.busError q off cause).complete none).out.head? = some (.cpl .abort) := by
  obtain ⟨hout, hregs, -⟩ := complete_none (busError_boundary.trans hb : (s.busError q off cause).boundary = false)
  exact ⟨TookBusError.of_regs (tookBusError hc) hregs, by rw [hout]; rfl⟩

theorem hostGets_done {n i : Nat} {acc : Option (List Word)} {fbe lbe : BitVec 4} :
    hostGets .bar0 q fbe lbe n off 0 i acc s = (s, acc.map List.reverse) := rfl

/-- A read of more than two DW, all of whose octets are enabled. -/
theorem hostReads_whole {n : Nat} (h : s.hostUp = true) (hn : 2 < n) : s.hostReads .bar0 off n 15 15 =
    (hostGets .bar0 (requestOf .bar0 false n 15 15) 15 15 n off n 0 (some []) s).1.complete
      (hostGets .bar0 (requestOf .bar0 false n 15 15) 15 15 n off n 0 (some []) s).2 := by
  have h2 : decide (n = 2) = false := decide_eq_false (by omega)
  rw [hostReads_up h]
  simp only [crossesAlign, h2, Bool.false_and, Bool.and_false, Bool.false_eq_true, if_false]

/-! ### The scratch registers, DW by DW -/

theorem view_glb (h : off / 0x10000 = 0) : s.view off = s.reg off := by
  unfold State.view
  simp only [h]

/-- A DW of a request whose octets are all enabled. -/
theorem hostPuts_whole {n i : Nat} {vs : List Word} : hostPuts .bar0 q e 15 15 n off (v :: vs) i s =
    hostPuts .bar0 q e 15 15 n off vs (i + 1) (s.hostPut .bar0 q e (off + 4 * i) 15 v) := by
  simp only [hostPuts, enablesAt, ite_self]

theorem hostGets_whole {n i left : Nat} {acc : Option (List Word)} : hostGets .bar0 q 15 15 n off (left + 1) i acc s =
    hostGets .bar0 q 15 15 n off left (i + 1) (acc.bind fun ws => (s.getDW q (off + 4 * i)).2.map fun w => w :: ws)
      (s.getDW q (off + 4 * i)).1 := by
  simp only [hostGets, enablesAt, ite_self, hostGet_whole]

theorem put_scratch (k : Fin 4) : (s.put e q (Reg.GLB_SCRATCH k) v).1 = s.setReg (Reg.GLB_SCRATCH k) v := by
  obtain ⟨hu, -, hv⟩ := scratch_unit k
  rw [put_good (writeCause_scratch k), State.writeView, if_pos hv, State.writeReg, regRow_scratch]
  dsimp only
  rw [unitHook_glb hu, glbHook_scratch, merge_ones]

theorem get_scratch (k : Fin 4) : s.getDW q (Reg.GLB_SCRATCH k) = (s, some (s.reg (Reg.GLB_SCRATCH k))) := by
  obtain ⟨hu, -, hv⟩ := scratch_unit k
  have hc : s.readCause (Reg.GLB_SCRATCH k) = 0 := by
    unfold State.readCause
    rw [normOf_eq hv, regRow_scratch]
    simp [reachable_glb hu, hv]
  rw [getDW_single hc (regRow_scratch k) rfl, view_glb hu]

theorem scratch_inside {k n : Nat} (h : k + n ≤ 16) : Reg.GLB_SCRATCH k + 4 * n ≤ barSize .bar0 := by
  rw [barSize_bar0, Reg.GLB_SCRATCH]
  omega

theorem scratch_put {o : Nat} (k : Fin 4) (ho : Reg.GLB_SCRATCH k = o) : s.hostPut .bar0 q e o 15 v = s.setReg o v := by
  rw [← ho, hostPut_whole, put_scratch]

theorem scratch_get {o : Nat} (k : Fin 4) (ho : Reg.GLB_SCRATCH k = o) : s.getDW q o = (s, some (s.reg o)) := by
  rw [← ho, get_scratch]

theorem reserved_afterScratch : s.writeCause 0x80 v = 3 ∧ s.readCause 0x80 = 3 := by
  have hr : regRow (normOf 0x80) = none := by decide
  unfold State.writeCause State.readCause
  rw [hr]
  exact ⟨rfl, rfl⟩

/-- Settles O10: a request in error leaves the capture, the count and event 61, and each DW of a longer one is taken on its own. -/
theorem busErrorsAreCaptured : Obligations.BusErrorsAreCaptured := by
  unfold Obligations.BusErrorsAreCaptured
  refine ⟨fun s off v h ho hc => ?_, fun s bar off v be lbe h hbar ho hbe => ?_, fun s bar off v w fbe lbe h hbar ho hbe => ?_,
    fun s a b c d h => ?_⟩
  · have hlt : s.writeCause off v < 16 := writeCause_lt
    refine ⟨_, exec_registerWrite_poke ho, ?_⟩
    rw [poke_error h hc]
    obtain ⟨-, -, hcause, hdir, hview⟩ := captureInfo_fields (q := singleWrite) (off := off) hlt
    refine ⟨busError_event, busError_valid hlt, busError_count hlt, fun hv => ?_, fun hv => ?_, busError_regsKept, busError_only⟩
    · rw [busError_addr, if_pos hv, busError_field (by decide), busError_bit (by decide), busError_field (by decide), hv]
      exact ⟨rfl, hcause, hdir, hview rfl⟩
    · rw [busError_addr, busError_field (by decide), hv]
      exact ⟨rfl, rfl⟩
  · refine ⟨⟨_, exec_registerWrite ho, ?_⟩, fun hb => ⟨_, exec_pairLowRead ho, ?_⟩⟩
    · rw [hostWrites_one h, hostPut_width hbar hbe]
      exact ⟨tookBusError (by decide), busError_only⟩
    · rw [hostReads_one h, hostGet_width hbar hbe]
      exact tookBusError_abort (by decide) hb
  · have hcross : crossesAlign 2 fbe lbe = true := by
      simp only [List.mem_cons, Prod.mk.injEq, List.not_mem_nil, or_false] at hbe
      rcases hbe with ⟨rfl, rfl⟩ | ⟨rfl, rfl⟩ | ⟨rfl, rfl⟩ <;> rfl
    refine ⟨⟨_, exec_registerWrite ho, ?_⟩, fun hb => ⟨_, exec_pairLowRead ho, ?_⟩⟩
    · rw [hostWrites_cross h (judged_of hbar) hcross]
      exact ⟨tookBusError (by decide), busError_only⟩
    · rw [hostReads_cross h (judged_of hbar) hcross]
      exact tookBusError_abort (by decide) hb
  · have hw0 := fun (t : State) (q : Request) (x : Word) => scratch_put (s := t) (q := q) (e := {}) (v := x) (o := 0x70) 0 (by decide)
    have hw1 := fun (t : State) (q : Request) (x : Word) => scratch_put (s := t) (q := q) (e := {}) (v := x) (o := 0x74) 1 (by decide)
    have hw2 := fun (t : State) (q : Request) (x : Word) => scratch_put (s := t) (q := q) (e := {}) (v := x) (o := 0x78) 2 (by decide)
    have hw3 := fun (t : State) (q : Request) (x : Word) => scratch_put (s := t) (q := q) (e := {}) (v := x) (o := 0x7C) 3 (by decide)
    have hg0 := fun q : Request => scratch_get (s := s) (q := q) (o := 0x70) 0 (by decide)
    have hg1 := fun q : Request => scratch_get (s := s) (q := q) (o := 0x74) 1 (by decide)
    have hg2 := fun q : Request => scratch_get (s := s) (q := q) (o := 0x78) 2 (by decide)
    have hg3 := fun q : Request => scratch_get (s := s) (q := q) (o := 0x7C) 3 (by decide)
    have h8 : ∀ {t : State} {q : Request} {x : Word}, t.hostPut .bar0 q {} 0x80 15 x = t.busError q 0x80 3 := fun {t q x} => by
      have hc := (reserved_afterScratch (s := t) (v := x)).1
      rw [hostPut_whole, put_error (by rw [hc]; decide), hc]
    have hg8 : ∀ {q : Request}, s.getDW q 0x80 = (s.busError q 0x80 3, none) := fun {q} => by
      have hc := (reserved_afterScratch (s := s) (v := 0)).2
      rw [getDW_error (by rw [hc]; decide), hc]
    refine ⟨?_, fun hb => ?_, ⟨_, exec_registerWrite (scratch_inside (by simp)), ?_⟩,
      fun hb => ⟨_, exec_pairLowRead (scratch_inside (by decide)), ?_⟩⟩
    · rw [exec_registerWrite (scratch_inside (by simp)), hostWrites_up h (by simp [crossesAlign]) (by simp)]
      simp only [Reg.GLB_SCRATCH, List.length_cons, List.length_nil, hostPuts_whole, hw0, hw1, hw2, hw3, Nat.reduceMul, Nat.reduceAdd]
      rfl
    · rw [exec_pairLowRead (scratch_inside (by decide)), hostReads_whole h (by decide)]
      simp only [Reg.GLB_SCRATCH, hostGets_whole, hostGets_done, hg0, hg1, hg2, hg3, Nat.reduceMul, Nat.reduceAdd]
      exact congrArg Host.Outcome.next (emit_of_not_boundary hb)
    · rw [hostWrites_up h (by simp [crossesAlign]) (by simp)]
      simp only [Reg.GLB_SCRATCH, List.length_cons, List.length_nil, hostPuts_whole, hw2, hw3, h8, Nat.reduceMul, Nat.reduceAdd]
      exact tookBusError (by decide)
    · rw [hostReads_whole h (by decide)]
      simp only [Reg.GLB_SCRATCH, hostGets_whole, hostGets_done, hg2, hg3, hg8, Nat.reduceMul, Nat.reduceAdd]
      exact tookBusError_abort (by decide) hb

end Sys2Proof.Machine

/-! Accesses of a pair by its halves and as one (R43, R46, R47), shown on IMG_STAGE. -/

namespace Sys2Proof.Machine

-- One declaration after another: side by side, their threads' stacks pass the memory limit of a check.
set_option Elab.async false

variable {s : State} {off : Nat} {v lo hi : Word} {q : Request} {e : Env}

theorem stageLoRow : regRow Reg.IMG_STAGE_LO = some ⟨0x30010, 0x4, 1, 0x4, 1, 0x0, 0xFFFFF000, 0x0, 0x0, 0x0, .low, none⟩ := by decide
theorem stageHiRow : regRow Reg.IMG_STAGE_HI = some ⟨0x30014, 0x4, 1, 0x4, 1, 0x0, 0x3, 0x0, 0x0, 0x0, .high, none⟩ := by decide

theorem reachable_img (h : off / 0x10000 = 3) : s.reachable off = s.domOn pdHost := by
  unfold State.reachable
  simp only [h]

/-- An endpoint that answers has its domain on. -/
theorem domOn_of_hostUp (h : s.hostUp = true) : s.domOn pdHost = true := by
  have hup := (hostUp_iff.1 h).1
  simp only [State.pcieUp, Bool.and_eq_true] at hup
  exact hup.1.1

theorem writeCause_stageLo (h : s.domOn pdHost = true) : s.writeCause Reg.IMG_STAGE_LO v = 0 :=
  writeCause_none rfl rfl stageLoRow ((reachable_img rfl).trans h) (by decide) (fun _ h => nomatch h) fun _ => by
    rw [unitRefuses_img rfl, imgRefuses, if_neg (by decide), if_neg (by decide), if_neg (by decide)]

theorem writeCause_stageHi (h : s.domOn pdHost = true) : s.writeCause Reg.IMG_STAGE_HI v = 0 :=
  writeCause_none rfl rfl stageHiRow ((reachable_img rfl).trans h) (by decide) (fun _ h => nomatch h) fun _ => by
    rw [unitRefuses_img rfl, imgRefuses, if_neg (by decide), if_neg (by decide), if_neg (by decide)]

theorem imgHook_stageHi {wr : BootWrite} {desks : List (Nat × Nat)} {ecc : EccMet} {late : List (Nat × Nat)} :
    s.imgHook Reg.IMG_STAGE_HI wr desks ecc late = s := by
  rw [State.imgHook, if_neg (by decide), if_neg (by decide)]

/-- What a high write commits: the stage of the low half and the word. -/
theorem writeReg_stageHi {wr : BootWrite} : s.writeReg wr e Reg.IMG_STAGE_HI hi =
    (s.setReg Reg.IMG_STAGE_LO (merge 0xFFFFF000 (s.stageOf Reg.IMG_STAGE_LO) (s.reg Reg.IMG_STAGE_LO))).setReg Reg.IMG_STAGE_HI
      (merge 3 hi (s.reg Reg.IMG_STAGE_HI)) := by
  have hlo : regRow (Reg.IMG_STAGE_HI - 4) = _ := stageLoRow
  rw [State.writeReg, stageHiRow]
  dsimp only
  rw [hlo, unitHook_img rfl, imgHook_stageHi]
  rfl

theorem exec_pairLowWrite (h : off + 4 ≤ barSize .bar0) : exec (.pairLowWrite off v) s = .next (s.poke off v {}) := if_pos h
theorem exec_pairHighWrite (h : off + 4 ≤ barSize .bar0) : exec (.pairHighWrite off v) s = .next (s.poke off v {}) := if_pos h

theorem exec_pairAtomicWrite (h : off + 8 ≤ barSize .bar0) :
    exec (.pairAtomicAccess off (some (lo, hi))) s = .next (s.hostWrites .bar0 off [lo, hi] 15 15 {}) := if_pos h

theorem exec_pairAtomicRead (h : off + 8 ≤ barSize .bar0) :
    exec (.pairAtomicAccess off none) s = .next (s.hostReads .bar0 off 2 15 15) := if_pos h

/-! ### Atomic requests -/

theorem hostWrites_pair {r : RegRow} {fbe lbe : BitVec 4} (h : s.hostUp = true) (hp : pairAt off = some r)
    (hc : crossesAlign 2 fbe lbe = false) :
    s.hostWrites .bar0 off [lo, hi] fbe lbe e = s.pairWrite (requestOf .bar0 true 2 fbe lbe) e off lo hi := by
  obtain ⟨hup, hd⟩ := hostUp_iff.1 h
  unfold State.hostWrites
  simp [hup, hd, hp, hc]

theorem hostReads_pair {r : RegRow} {fbe lbe : BitVec 4} (h : s.hostUp = true) (hp : pairAt off = some r)
    (hc : crossesAlign 2 fbe lbe = false) : s.hostReads .bar0 off 2 fbe lbe =
      (s.pairRead (requestOf .bar0 false 2 fbe lbe) off).1.complete (s.pairRead (requestOf .bar0 false 2 fbe lbe) off).2 := by
  rw [hostReads_up h]
  simp [hp, hc]

theorem enabled_whole {be : BitVec 4} : be.toNat % 16 ≠ 15 ↔ ¬ be = 15 := by
  have h : be.toNat % 16 = be.toNat := Nat.mod_eq_of_lt be.isLt
  rw [h]
  exact not_congr ⟨fun h => BitVec.eq_of_toNat_eq h, fun h => h ▸ rfl⟩

/-- The causes against the halves of an atomic write request. -/
def State.pairCauses (s : State) (r : RegRow) (off : Nat) (lo hi : Word) (fbe lbe : BitVec 4) : Nat × Nat :=
  (if fbe = 15 then s.writeCause off lo else 1, if lbe = 15 then (s.setStage off (lo &&& r.rw)).writeCause (off + 4) hi else 1)

theorem pairWrite_eq {r : RegRow} {fbe lbe : BitVec 4} (hr : regRow off = some r) :
    s.pairWrite (requestOf .bar0 true 2 fbe lbe) e off lo hi =
      if (s.pairCauses r off lo hi fbe lbe).1 ≠ 0 then s.busError (requestOf .bar0 true 2 fbe lbe) off (s.pairCauses r off lo hi fbe lbe).1
      else if (s.pairCauses r off lo hi fbe lbe).2 ≠ 0 then
        s.busError (requestOf .bar0 true 2 fbe lbe) (off + 4) (s.pairCauses r off lo hi fbe lbe).2
      else (s.setStage off (lo &&& r.rw)).writeReg State.bootWrite e (off + 4) hi := by
  have hq : (requestOf .bar0 true 2 fbe lbe).fbe = fbe.toNat ∧ (requestOf .bar0 true 2 fbe lbe).lbe = lbe.toNat := ⟨rfl, rfl⟩
  unfold State.pairWrite State.pairCauses
  rw [hr]
  simp only [hq, enabled_whole, ite_not]
  rfl

/-- The causes against the halves of an atomic read request. -/
def State.pairReadCauses (s : State) (off : Nat) (fbe lbe : BitVec 4) : Nat × Nat :=
  (if fbe = 15 then s.readCause off else 1, if lbe = 15 then s.readCause (off + 4) else 1)

theorem pairRead_eq {fbe lbe : BitVec 4} : s.pairRead (requestOf .bar0 false 2 fbe lbe) off =
    if (s.pairReadCauses off fbe lbe).1 ≠ 0 then
      (s.busError (requestOf .bar0 false 2 fbe lbe) off (s.pairReadCauses off fbe lbe).1, none)
    else if (s.pairReadCauses off fbe lbe).2 ≠ 0 then
      (s.busError (requestOf .bar0 false 2 fbe lbe) (off + 4) (s.pairReadCauses off fbe lbe).2, none)
    else ((s.readReg off).1, some [(s.readReg off).2, (s.readReg off).1.latchOf (off + 4)]) := by
  have hq : (requestOf .bar0 false 2 fbe lbe).fbe = fbe.toNat ∧ (requestOf .bar0 false 2 fbe lbe).lbe = lbe.toNat := ⟨rfl, rfl⟩
  unfold State.pairRead State.pairReadCauses
  simp only [hq, enabled_whole, ite_not]
  rfl

theorem busError_staging {c : Nat} : (s.busError q off c).stages = s.stages ∧ (s.busError q off c).latches = s.latches :=
  have h := within_busError s q off c
  ⟨h.stages (by decide), h.latches (by decide)⟩

/-! ### The pair IMG_STAGE -/

theorem view_img (h : off / 0x10000 = 3) : s.view off = s.reg off := by
  unfold State.view
  simp only [h]

/-- A read of the low half loads the latch of the high half and the stage. -/
theorem readReg_stageLo : s.readReg Reg.IMG_STAGE_LO =
    ((s.setLatch Reg.IMG_STAGE_HI (s.reg Reg.IMG_STAGE_HI)).setStage Reg.IMG_STAGE_LO (s.reg Reg.IMG_STAGE_LO), s.reg Reg.IMG_STAGE_LO) := by
  have hl : latchedBy Reg.IMG_STAGE_LO = [Reg.IMG_STAGE_HI] := by decide
  rw [State.readReg, stageLoRow]
  dsimp only
  rw [hl, List.foldl_cons, List.foldl_nil, view_img rfl, view_img rfl, if_neg (by decide)]

theorem readCause_stage (h : s.domOn pdHost = true) : s.readCause Reg.IMG_STAGE_LO = 0 ∧ s.readCause (Reg.IMG_STAGE_LO + 4) = 0 := by
  have hc : ∀ o r, regRow o = some r → o / 0x10000 = 3 → viewOf o = 0 → s.readCause o = 0 := fun o r hr hu hv => by
    unfold State.readCause
    rw [normOf_eq hv, hr]
    simp [reachable_img hu, h, hv]
  exact ⟨hc _ _ stageLoRow rfl rfl, hc _ _ stageHiRow rfl rfl⟩

theorem merge_and {m v w : Word} : merge m (v &&& m) w = merge m v w := by
  simp only [merge, BitVec.and_assoc, BitVec.and_self]

theorem pairAt_stage : pairAt Reg.IMG_STAGE_LO = some ⟨0x30010, 0x4, 1, 0x4, 1, 0x0, 0xFFFFF000, 0x0, 0x0, 0x0, .low, none⟩ := by decide

theorem getStage_atomic (h : s.hostUp = true) (hb : s.boundary = false) : s.hostReads .bar0 Reg.IMG_STAGE_LO 2 15 15 =
    { (s.setLatch Reg.IMG_STAGE_HI (s.reg Reg.IMG_STAGE_HI)).setStage Reg.IMG_STAGE_LO (s.reg Reg.IMG_STAGE_LO) with
      out := .cpl (.data [s.reg Reg.IMG_STAGE_LO, s.reg Reg.IMG_STAGE_HI]) :: s.out } := by
  obtain ⟨h0, h1⟩ := readCause_stage (domOn_of_hostUp h)
  have hl : ((s.setLatch Reg.IMG_STAGE_HI (s.reg Reg.IMG_STAGE_HI)).setStage Reg.IMG_STAGE_LO (s.reg Reg.IMG_STAGE_LO)).latchOf
      (Reg.IMG_STAGE_LO + 4) = s.reg Reg.IMG_STAGE_HI := by
    have hset : ∀ (t : State) (o w a), (t.setStage o w).latchOf a = t.latchOf a := fun _ _ _ _ => rfl
    rw [hset, latchOf_setLatch, if_pos (by decide)]
  rw [hostReads_pair h pairAt_stage (by decide), pairRead_eq, State.pairReadCauses, if_pos rfl, if_pos rfl, h0, h1, readReg_stageLo]
  dsimp only
  rw [if_neg (by decide), if_neg (by decide), hl]
  exact emit_of_not_boundary hb

theorem getStage_low (h : s.hostUp = true) (hb : s.boundary = false) : s.hostReads .bar0 Reg.IMG_STAGE_LO 1 15 0 =
    { (s.setLatch Reg.IMG_STAGE_HI (s.reg Reg.IMG_STAGE_HI)).setStage Reg.IMG_STAGE_LO (s.reg Reg.IMG_STAGE_LO) with
      out := .cpl (.data [s.reg Reg.IMG_STAGE_LO]) :: s.out } := by
  have hg : ∀ q, s.getDW q Reg.IMG_STAGE_LO = ((s.readReg Reg.IMG_STAGE_LO).1, some (s.readReg Reg.IMG_STAGE_LO).2) := fun q =>
    if_neg (by rw [(readCause_stage (domOn_of_hostUp h)).1]; decide)
  rw [hostReads_one h, hostGet_whole, hg, readReg_stageLo]
  exact emit_of_not_boundary hb

/-- An atomic write commits both halves. -/
theorem putStage_atomic (h : s.hostUp = true) : s.hostWrites .bar0 Reg.IMG_STAGE_LO [lo, hi] 15 15 e =
    ((s.setStage Reg.IMG_STAGE_LO (lo &&& 0xFFFFF000)).setReg Reg.IMG_STAGE_LO (merge 0xFFFFF000 lo (s.reg Reg.IMG_STAGE_LO))).setReg
      Reg.IMG_STAGE_HI (merge 3 hi (s.reg Reg.IMG_STAGE_HI)) := by
  have hd := domOn_of_hostUp h
  have hd1 : (s.setStage Reg.IMG_STAGE_LO (lo &&& 0xFFFFF000)).domOn pdHost = true := hd
  have h1 : (s.setStage Reg.IMG_STAGE_LO (lo &&& 0xFFFFF000)).writeCause (Reg.IMG_STAGE_LO + 4) hi = 0 := writeCause_stageHi hd1
  have hw : ∀ t : State, t.writeReg State.bootWrite e (Reg.IMG_STAGE_LO + 4) hi = t.writeReg State.bootWrite e Reg.IMG_STAGE_HI hi := fun _ => rfl
  have hr : ∀ a, (s.setStage Reg.IMG_STAGE_LO (lo &&& 0xFFFFF000)).reg a = s.reg a := fun _ => rfl
  rw [hostWrites_pair h pairAt_stage (by decide), pairWrite_eq stageLoRow, State.pairCauses, if_pos rfl, if_pos rfl, writeCause_stageLo hd]
  dsimp only
  rw [h1, if_neg (by decide), if_neg (by decide), hw, writeReg_stageHi, stageOf_setStage, if_pos rfl, hr, hr, merge_and]

/-- Settles O11: an atomic request in error ends before anything is staged. -/
theorem pairAccesses : Obligations.PairAccesses := by
  unfold Obligations.PairAccesses
  intro s lo hi h
  have hd := domOn_of_hostUp h
  have hin : Reg.IMG_STAGE_LO + 8 ≤ barSize .bar0 := by decide
  refine ⟨?_, ?_, ⟨_, exec_pairAtomicWrite hin, ?_⟩, fun hb => ⟨_, exec_pairAtomicRead hin, ?_⟩,
    fun hb => ⟨_, exec_pairLowRead (by decide), ?_⟩, fun off c0 c1 r fbe lbe ho hp hr hx => ⟨fun h0 h1 hc => ?_, fun h0 h1 hc hb => ?_⟩⟩
  · rw [exec_pairLowWrite (by decide), poke_low h (writeCause_stageLo hd) rfl stageLoRow rfl]
  · rw [exec_pairHighWrite (by decide), poke_up h, if_pos (writeCause_stageHi hd), State.writeView, if_pos (by decide), writeReg_stageHi]
  · rw [putStage_atomic h]
    refine ⟨?_, reg_setReg_self, fun o ho => ?_, rfl⟩
    · rw [reg_setReg_ne (by decide), reg_setReg_self]
    · simp only [List.mem_cons, List.not_mem_nil, or_false, not_or] at ho
      rw [reg_setReg_ne ho.2, reg_setReg_ne ho.1]
      rfl
  · rw [getStage_atomic h hb]
    exact ⟨rfl, rfl⟩
  · rw [getStage_low h hb]
    refine ⟨rfl, ?_, ?_, rfl⟩
    · exact latchOf_setLatch.trans (if_pos rfl)
    · exact stageOf_setStage.trans (if_pos rfl)
  · have hlt : c0 < 16 ∧ c1 < 16 := by
      rw [h0, h1]
      refine ⟨?_, ?_⟩ <;> split
      exacts [writeCause_lt, by decide, writeCause_lt, by decide]
    have hpair : s.pairCauses r off lo hi fbe lbe = (c0, c1) := by rw [h0, h1, State.pairCauses]
    refine ⟨_, exec_registerWrite ho, ?_⟩
    rw [hostWrites_pair h hp hx, pairWrite_eq hr, hpair]
    dsimp only
    by_cases hz : c0 = 0
    · rw [if_neg (not_not.2 hz), if_neg (not_not.2 hz), if_pos (hc.resolve_left (not_not.2 hz))]
      exact ⟨busError_staging.1, busError_staging.2, tookBusError hlt.2⟩
    · rw [if_pos hz, if_pos hz]
      exact ⟨busError_staging.1, busError_staging.2, tookBusError hlt.1⟩
  · have hlt : c0 < 16 ∧ c1 < 16 := by
      rw [h0, h1]
      refine ⟨?_, ?_⟩ <;> split
      exacts [readCause_lt, by decide, readCause_lt, by decide]
    have hpair : s.pairReadCauses off fbe lbe = (c0, c1) := by rw [h0, h1, State.pairReadCauses]
    have habort : ∀ (q : Request) (o c : Nat), c < 16 → ((s.busError q o c).complete none).stages = s.stages ∧
        ((s.busError q o c).complete none).latches = s.latches ∧ ((s.busError q o c).complete none).out.head? = some (.cpl .abort) ∧
        s.TookBusError ((s.busError q o c).complete none) o c := fun q o c hlt => by
      obtain ⟨-, -, hst, hla, -⟩ := complete_none (busError_boundary.trans hb : (s.busError q o c).boundary = false)
      obtain ⟨htook, hout⟩ := tookBusError_abort (q := q) (off := o) hlt hb
      exact ⟨hst.trans busError_staging.1, hla.trans busError_staging.2, hout, htook⟩
    refine ⟨_, exec_pairLowRead ho, ?_⟩
    rw [hostReads_pair h hp hx, pairRead_eq, hpair]
    dsimp only
    by_cases hz : c0 = 0
    · rw [if_neg (not_not.2 hz), if_neg (not_not.2 hz), if_pos (hc.resolve_left (not_not.2 hz))]
      exact habort _ _ _ hlt.2
    · rw [if_pos hz, if_pos hz]
      exact habort _ _ _ hlt.1

end Sys2Proof.Machine

/-! Reads of one DW, the MSI-X table and configuration space (R31, R33, R35, R39, R44). -/

namespace Sys2Proof.Machine

-- One declaration after another: side by side, their threads' stacks pass the memory limit of a check.
set_option Elab.async false

variable {s : State} {off : Nat} {v : Word} {q : Request} {e : Env}

/-! ### Configuration space, in every power state -/

/-- Neither direction looks at D3hot in configuration space. -/
theorem hostWrites_config (h : s.pcieUp = true) : s.hostWrites .config off [v] 15 0 e = s.cfgPut off 15 v := by
  unfold State.hostWrites
  simp [h, judged, hostPuts, State.hostPut, enablesAt]

theorem hostReads_config (h : s.pcieUp = true) (hb : s.boundary = false) :
    s.hostReads .config off 1 15 0 = { s with out := .cpl (.data [s.cfgView off]) :: s.out } := by
  unfold State.hostReads
  simp only [h, judged, hostGets, State.hostGet, State.complete, ← emit_of_not_boundary hb]
  rfl

theorem mergeBE_whole {w : Word} : mergeBE 15 v w = v := merge_ones

theorem exec_readConfig (h : s.pcieUp = true) (hb : s.boundary = false) (ho : off + 4 ≤ 0x1000) :
    exec (.pairLowRead .config off 1 15 0) s = .next { s with out := .cpl (.data [s.cfgView off]) :: s.out } := by
  rw [exec_pairLowRead ho, hostReads_config h hb]

theorem exec_writeConfig (h : s.pcieUp = true) (ho : off + 4 ≤ 0x1000) :
    exec (.registerWrite .config off [v] 15 0) s = .next (s.cfgPut off 15 v) := by
  rw [exec_registerWrite ho, hostWrites_config h]

/-- The base that BAR0 takes, as it reads. -/
theorem cfgView_bar0 : (s.cfgPut 0x10 15 v).cfgView 0x10 = v &&& 0xFC000000 := by
  have hput : s.cfgPut 0x10 15 v =
      { s with pcie := { s.pcie with bars := Tab.put (fun _ => 0) s.pcie.bars 0 (mergeBE 15 v (s.cfgView 0x10) &&& barBase 0) } } := rfl
  have hview : ∀ t : State, t.cfgView 0x10 = t.barView 0 := fun _ => rfl
  rw [hput, hview, State.barView, Tab.get_put_self, mergeBE_whole, show barKind 0 = 0 from rfl, BitVec.and_assoc, BitVec.and_self]
  exact BitVec.or_zero

theorem cfgPut_d0 : s.cfgPut 0x44 15 0 = { s with pcie := { s.pcie with d3hot := false } } := by
  have hput : s.cfgPut 0x44 15 0 = if fld (mergeBE 15 0 (s.cfgView 0x44)) 0 2 = 3 && !s.pcie.d3hot then s.functionReset true
      else if fld (mergeBE 15 0 (s.cfgView 0x44)) 0 2 = 0 then { s with pcie := { s.pcie with d3hot := false } } else s := rfl
  rw [hput, mergeBE_whole]
  rfl

theorem hostReads_d3hot {bar : Bar} {n : Nat} {fbe lbe : BitVec 4} (h : s.pcieUp = true) (hd : s.pcie.d3hot = true) (hbar : bar ≠ .config) :
    s.hostReads bar off n fbe lbe = s.unsupported := by
  unfold State.hostReads
  simp [h, hd, hbar]

/-! ### The MSI-X table -/

/-- A vector's entry once its control word is written. -/
def State.controlled (s : State) (n : Nat) (v : Word) : MsixEntry := { s.msixOf n with masked := bit v 0 }

theorem msixPut_control {n : Nat} (hn : n < 16) : s.msixPut (16 * n + 12) 15 v =
    ({ s with msix := Tab.put (fun _ => {}) s.msix n (s.controlled n v) }).msixRelease n := by
  have h1 : 16 * n + 12 < 0x100 := by omega
  have h2 : (16 * n + 12) / 16 = n := by omega
  have h3 : (16 * n + 12) % 16 / 4 = 3 := by omega
  unfold State.msixPut
  simp only [h1, h2, h3, if_true, mergeBE_whole]
  rfl

theorem msixOf_put {n k : Nat} {x : MsixEntry} :
    ({ s with msix := Tab.put (fun _ => {}) s.msix n x } : State).msixOf k = if k = n then x else s.msixOf k := Tab.get_put

/-- A message leaves with address and data as they were, and nothing of the entry changes but its pending bit. -/
theorem msixRelease_eq {n : Nat} (hb : s.boundary = false) : s.msixRelease n =
    if (s.msixOf n).pend && !s.msixHeld (s.msixOf n) && s.pcie.msixEnable then
      { s with msix := Tab.put (fun _ => {}) s.msix n { s.msixOf n with pend := false }, out := msixMessage n (s.msixOf n) :: s.out }
    else s := by
  have hb' : ∀ m, ({ s with msix := m } : State).boundary = false := fun _ => hb
  unfold State.msixRelease
  dsimp only
  split
  · exact emit_of_not_boundary (hb' _)
  · rfl

/-- What the write of vector `n`'s control word leaves: the entry, the messages sent, and every other entry. -/
theorem msixControl_spec {n : Nat} (hn : n < 16) (hb : s.boundary = false) :
    let t := s.msixPut (16 * n + 12) 15 v
    let held := bit v 0 || s.pcie.msixMask || !s.pcie.msixEnable || !bit s.pcie.command 2
    t.msixOf n = { s.controlled n v with pend := (s.msixOf n).pend && held } ∧
      t.out = (if (s.msixOf n).pend && !held then [msixMessage n (s.msixOf n)] else []) ++ s.out ∧
      t = { s with msix := t.msix, out := t.out } ∧ ∀ k, k ≠ n → t.msixOf k = s.msixOf k := by
  have hmsg : msixMessage n (s.controlled n v) = msixMessage n (s.msixOf n) := rfl
  have hheld : ({ s with msix := Tab.put (fun _ => {}) s.msix n (s.controlled n v) } : State).msixHeld (s.controlled n v) =
      (bit v 0 || s.pcie.msixMask || !bit s.pcie.command 2) := rfl
  have hpend : (s.controlled n v).pend = (s.msixOf n).pend := rfl
  have hb' : ({ s with msix := Tab.put (fun _ => {}) s.msix n (s.controlled n v) } : State).boundary = false := hb
  rw [msixPut_control hn, msixRelease_eq hb', msixOf_put, if_pos rfl, hheld, hpend, hmsg]
  cases hsend : (s.msixOf n).pend && !(bit v 0 || s.pcie.msixMask || !bit s.pcie.command 2) && s.pcie.msixEnable with
  | true =>
    simp only [Bool.and_eq_true, Bool.not_eq_true', Bool.or_eq_false_iff] at hsend
    obtain ⟨⟨hp, ⟨hv, hm⟩, hc⟩, he⟩ := hsend
    simp only [hp, hv, hm, he, if_true]
    refine ⟨?_, by simp [hc], trivial, fun k hk => ?_⟩
    · exact (Tab.get_put (d := fun _ => ({} : MsixEntry))).trans (by simp [hc])
    · exact (Tab.get_put (d := fun _ => ({} : MsixEntry))).trans ((if_neg hk).trans (msixOf_put.trans (if_neg hk)))
  | false =>
    have hheld : ((s.msixOf n).pend && !(bit v 0 || s.pcie.msixMask || !s.pcie.msixEnable || !bit s.pcie.command 2)) = false := by
      revert hsend
      cases (s.msixOf n).pend <;> cases bit v 0 <;> cases s.pcie.msixMask <;> cases s.pcie.msixEnable <;> simp
    simp only [hheld, Bool.false_eq_true, if_false]
    refine ⟨?_, rfl, trivial, fun k hk => msixOf_put.trans (if_neg hk)⟩
    have hstays : ((s.msixOf n).pend && (bit v 0 || s.pcie.msixMask || !s.pcie.msixEnable || !bit s.pcie.command 2)) =
        (s.msixOf n).pend := by
      revert hheld
      cases (s.msixOf n).pend <;> cases (bit v 0 || s.pcie.msixMask || !s.pcie.msixEnable || !bit s.pcie.command 2) <;> simp
    rw [msixOf_put, if_pos rfl, hstays]
    rfl

/-- Settles O12: in configuration space as in the apertures, a read gives what its DW shows. -/
theorem registerReadsMsixAndConfiguration : Obligations.RegisterReadsMsixAndConfiguration := by
  unfold Obligations.RegisterReadsMsixAndConfiguration
  refine ⟨fun s h hb => ⟨fun o w how => ?_, fun v => ⟨_, exec_writeConfig h (by decide), rfl, ?_⟩, fun hd off ho => ?_, fun hd => ?_⟩,
    fun s h hb => ⟨fun off r ho hc hr hp => ?_, fun off ho hc => ?_, fun n v => ?_⟩⟩
  · have hw : word (s.reg Reg.GLB_UID_LO).toNat = s.reg Reg.GLB_UID_LO ∧ word (s.reg Reg.GLB_UID_HI).toNat = s.reg Reg.GLB_UID_HI :=
      ⟨BitVec.ofNat_toNat .., BitVec.ofNat_toNat ..⟩
    simp only [List.mem_cons, Prod.mk.injEq, List.not_mem_nil, or_false] at how
    rcases how with ⟨rfl, rfl⟩ | ⟨rfl, rfl⟩ | ⟨rfl, rfl⟩ | ⟨rfl, rfl⟩
    · exact exec_readConfig h hb (by decide)
    · exact exec_readConfig h hb (by decide)
    · rw [hw.1]
      exact exec_readConfig h hb (by decide)
    · rw [hw.2]
      exact exec_readConfig h hb (by decide)
  · have hread : ∀ t : State, t.pcieUp = true → t.boundary = false → t.cfgView 0x10 = v &&& 0xFC000000 →
        exec (.pairLowRead .config 0x10 1 15 0) t = .next { t with out := .cpl (.data [v &&& 0xFC000000]) :: t.out } := fun t h hb hv => by
      rw [exec_readConfig h hb (by decide), hv]
    exact hread _ h hb cfgView_bar0
  · refine ⟨_, exec_pairLowRead ho, ?_⟩
    rw [hostReads_d3hot h hd (by decide), unsupported_of_not_boundary hb]
    exact ⟨rfl, rfl⟩
  · refine ⟨_, exec_writeConfig h (by decide), ?_⟩
    rw [cfgPut_d0]
    exact hostUp_iff.2 ⟨h, rfl⟩
  · rw [exec_pairLowRead ho, hostReads_one h, hostGet_whole, getDW_single hc hr hp]
    exact congrArg Host.Outcome.next (emit_of_not_boundary hb)
  · refine ⟨_, exec_pairLowRead ho, ?_⟩
    rw [hostReads_one h, hostGet_whole, getDW_error hc]
    obtain ⟨⟨hevent, -, -, hregs⟩, hout⟩ := tookBusError_abort (s := s) (q := requestOf .bar0 false 1 15 0) (off := off) readCause_lt hb
    exact ⟨hout, hevent, hregs⟩
  · have hn : n.val < 16 := n.isLt
    have hin : 16 * n.val + 12 + 4 * [v].length ≤ barSize .bar4 := by
      show 16 * n.val + 12 + 4 ≤ 0x2000
      omega
    have hput : ∀ q, s.hostPut .bar4 q {} (16 * n.val + 12) 15 v = s.msixPut (16 * n.val + 12) 15 v := fun _ => rfl
    obtain ⟨hentry, hout, honly, hothers⟩ := msixControl_spec (v := v) hn hb
    refine ⟨_, exec_registerWrite hin, ?_⟩
    rw [hostWrites_one h, hput, hentry]
    refine ⟨rfl, ?_, ?_, honly, fun k hk => hothers k fun c => hk (Fin.ext c)⟩
    · show ((s.msixOf n).pend && _) = _
      cases bit v 0 <;> cases s.pcie.msixMask <;> rfl
    · rw [hout]
      congr 1
      cases (s.msixOf n).pend <;> cases (bit v 0 || s.pcie.msixMask || !s.pcie.msixEnable || !bit s.pcie.command 2) <;> simp

end Sys2Proof.Machine

/-! The HBM3 window BAR2 (R38, R58). -/

namespace Sys2Proof.Machine

-- One declaration after another: side by side, their threads' stacks pass the memory limit of a check.
set_option Elab.async false

variable {s : State} {off : Nat} {fbe lbe : BitVec 4}

theorem exec_bar2Access {req : Bar2Req} (h : off + bar2Octets req ≤ hbmSize) :
    exec (.bar2Access off req fbe lbe) s = .next (s.hbmAccess off req fbe lbe) := if_pos h

/-! ### Corrected errors -/

theorem satWord_satWord {w : Word} {a b : Nat} : satWord (satWord w a) b = satWord w (a + b) := by
  apply BitVec.eq_of_toNat_eq
  rw [satWord_toNat, satWord_toNat, satWord_toNat]
  omega

theorem satWord_zero {w : Word} : satWord w 0 = w := by
  apply BitVec.eq_of_toNat_eq
  have := w.isLt
  rw [satWord_toNat]
  omega

theorem memCe_reg {a o : Nat} : (s.memCe a).reg o =
    satWord (s.reg o) (if o = (if a < 2 ^ 33 then Reg.GLB_MEM_CE0 else Reg.GLB_MEM_CE1) then 1 else 0) := by
  have hlim : (if a < 0x200000000 then Reg.GLB_MEM_CE0 else Reg.GLB_MEM_CE1) = (if a < 2 ^ 33 then Reg.GLB_MEM_CE0 else Reg.GLB_MEM_CE1) := by
    norm_num
  rw [State.memCe, hlim, reg_bump]
  generalize (if a < 2 ^ 33 then Reg.GLB_MEM_CE0 else Reg.GLB_MEM_CE1) = c
  by_cases h : o = c
  · rw [if_pos h, if_pos h, h]
  · rw [if_neg h, if_neg h, satWord_zero]

/-- Corrected errors only count, each for its stack. -/
theorem memCes_only (f : Nat → Nat) (l : List Nat) : ∀ s : State, OnlyRegs s (l.foldl (fun s k => s.memCe (f k)) s) := by
  induction l with
  | nil => exact fun s => rfl
  | cons k l ih =>
    intro s
    have h : OnlyRegs s (s.memCe (f k)) := rfl
    unfold OnlyRegs at *
    rw [List.foldl_cons, ih (s.memCe (f k)), h]

theorem memCes_reg (f : Nat → Nat) (l : List Nat) : ∀ s : State,
    (l.foldl (fun s k => s.memCe (f k)) s).reg Reg.GLB_MEM_CE0 =
      satWord (s.reg Reg.GLB_MEM_CE0) (l.filter fun k => decide (f k < 2 ^ 33)).length ∧
    (l.foldl (fun s k => s.memCe (f k)) s).reg Reg.GLB_MEM_CE1 =
      satWord (s.reg Reg.GLB_MEM_CE1) (l.filter fun k => decide (2 ^ 33 ≤ f k)).length ∧
    ∀ o, o ≠ Reg.GLB_MEM_CE0 → o ≠ Reg.GLB_MEM_CE1 → (l.foldl (fun s k => s.memCe (f k)) s).reg o = s.reg o := by
  induction l with
  | nil => exact fun s => ⟨satWord_zero.symm, satWord_zero.symm, fun _ _ _ => rfl⟩
  | cons k l ih =>
    intro s
    obtain ⟨h0, h1, ho⟩ := ih (s.memCe (f k))
    simp only [List.foldl_cons, List.filter_cons]
    by_cases hk : f k < 2 ^ 33
    · have hk' : ¬ 2 ^ 33 ≤ f k := by omega
      refine ⟨?_, ?_, fun o n0 n1 => ?_⟩
      · rw [h0, memCe_reg, satWord_satWord, if_pos hk, if_pos rfl, decide_eq_true hk, if_pos rfl, List.length_cons, Nat.add_comm]
      · rw [h1, memCe_reg, satWord_satWord, if_pos hk, if_neg (by decide), decide_eq_false hk', Nat.zero_add]
        rfl
      · rw [ho o n0 n1, memCe_reg, if_pos hk, if_neg n0, satWord_zero]
    · have hk' : 2 ^ 33 ≤ f k := by omega
      refine ⟨?_, ?_, fun o n0 n1 => ?_⟩
      · rw [h0, memCe_reg, satWord_satWord, if_neg hk, if_neg (by decide), decide_eq_false hk, Nat.zero_add]
        rfl
      · rw [h1, memCe_reg, satWord_satWord, if_neg hk, if_pos rfl, decide_eq_true hk', if_pos rfl, List.length_cons, Nat.add_comm]
      · rw [ho o n0 n1, memCe_reg, if_neg hk, if_neg n1, satWord_zero]

/-! ### Uncorrectable errors -/

theorem memUe_records {a : Nat} (ha : a < 2 ^ 34) (h : s.rb Reg.GLB_MEM_STATUS 8 = false) :
    (s.memUe a).rb Reg.GLB_MEM_STATUS 8 = true ∧ (s.memUe a).pair Reg.GLB_MEM_UE_LO = a ∧ OnlyRegs s (s.memUe a) := by
  unfold State.memUe
  rw [if_neg (by simp [h])]
  refine ⟨rb_setRb_self (by decide), ?_, rfl⟩
  have hhi : Reg.GLB_MEM_UE_LO + 4 = Reg.GLB_MEM_UE_HI := rfl
  rw [State.pair, hhi, reg_setRb, if_neg (by decide), reg_setRb, if_neg (by decide), reg_setReg_self, reg_setReg_ne (by decide),
    reg_setReg_self]
  simp only [word, BitVec.toNat_ofNat, Nat.shiftRight_eq_div_pow]
  omega

/-! ### Octets -/

/-- Octets that are enabled are stored, and no others. -/
theorem hbmPuts_spec (bs : List (Option Byte)) : ∀ (s : State) (off : Nat), s.hbmPuts off bs = { s with hbm := (s.hbmPuts off bs).hbm } ∧
    ∀ a, Tab.get blank (s.hbmPuts off bs).hbm a =
      if off ≤ a then ((bs[a - off]?).join).getD (Tab.get blank s.hbm a) else Tab.get blank s.hbm a := by
  induction bs with
  | nil => exact fun s off => ⟨rfl, fun a => by simp [State.hbmPuts]⟩
  | cons x bs ih =>
    intro s off
    have hnext : ∀ a, off < a → (x :: bs)[a - off]? = bs[a - (off + 1)]? := fun a ha => by
      rw [show a - off = (a - (off + 1)) + 1 by omega, List.getElem?_cons_succ]
    cases x with
    | none =>
      obtain ⟨h1, h2⟩ := ih s (off + 1)
      refine ⟨h1, fun a => (h2 a).trans ?_⟩
      rcases Nat.lt_trichotomy off a with ha | rfl | ha
      · rw [if_pos (by omega), if_pos (by omega), hnext a ha]
      · simp
      · rw [if_neg (by omega), if_neg (by omega)]
    | some b =>
      obtain ⟨h1, h2⟩ := ih (s.hbmWrite off [b]) (off + 1)
      refine ⟨h1, fun a => (h2 a).trans ?_⟩
      rw [hbm_hbmWrite]
      rcases Nat.lt_trichotomy off a with ha | rfl | ha
      · have hpast : [b][a - off]? = none := by simp; omega
        rw [if_pos (by omega), if_pos (by omega), if_pos (by omega), hnext a ha, hpast, Option.getD_none]
      · simp
      · rw [if_neg (by omega), if_neg (by omega), if_neg (by omega)]

/-! ### The window -/

theorem hbmAccess_up {req : Bar2Req} (h : s.hostUp = true) (hd : s.domOn pdMem = true) : s.hbmAccess off req fbe lbe =
    match req with
    | .read n ue ce =>
      match ue with
      | some k => ((ce.foldl (fun s k => s.memCe (off + k % n)) s).memUe (off + k)).emit (.cpl (.poisoned n))
      | none => (ce.foldl (fun s k => s.memCe (off + k % n)) s).emit
          (.cpl (.octets ((ce.foldl (fun s k => s.memCe (off + k % n)) s).hbmRead off n)))
    | .write bs => s.hbmPuts off bs := by
  obtain ⟨hup, hd3⟩ := hostUp_iff.1 h
  unfold State.hbmAccess
  simp only [hup, hd3, hd]
  rfl

theorem hbmAccess_down {req : Bar2Req} (h : s.hostUp = true) (hd : s.domOn pdMem = false) : s.hbmAccess off req fbe lbe =
    match req with
    | .read _ _ _ => (s.busError ⟨2, false, fbe.toNat, lbe.toNat⟩ off causeDomain).complete none
    | .write _ => s.busError ⟨2, true, fbe.toNat, lbe.toNat⟩ off causeDomain := by
  obtain ⟨hup, hd3⟩ := hostUp_iff.1 h
  unfold State.hbmAccess
  simp only [hup, hd3, hd]
  rfl

theorem emit_eq {x : Output} : s.emit x = { s with out := if s.boundary && x.atCells then s.out else x :: s.out } := by
  unfold State.emit
  split <;> rfl

/-- The boundary instruction stands in two registers of the TMX unit. -/
theorem boundary_congr {t : State} (h : ∀ o, 0x1A0000 ≤ o → t.reg o = s.reg o) : t.boundary = s.boundary := by
  unfold State.boundary State.rf State.rb
  rw [h _ (by decide), h _ (by decide)]

/-- Settles O14: corrected errors count before the octets leave, and an error that is not corrected is recorded with its address. -/
theorem backingMemoryAccesses : Obligations.BackingMemoryAccesses := by
  unfold Obligations.BackingMemoryAccesses
  refine ⟨fun s off fbe lbe h hd => ⟨fun bs ho => ⟨_, exec_bar2Access ho, ?_⟩, fun n ue ce ho hb => ⟨_, exec_bar2Access ho, ?_⟩⟩,
    fun s off h hd => ⟨fun n ce ho => ⟨_, exec_bar2Access ho, ?_⟩, fun bs ho => ⟨_, exec_bar2Access ho, ?_⟩,
      fun n k ce ho hk hs => ⟨_, exec_bar2Access ho, ?_⟩⟩⟩
  · rw [hbmAccess_down h hd]
    exact ⟨tookBusError (by decide), busError_only⟩
  · rw [hbmAccess_down h hd]
    obtain ⟨htook, hout⟩ := tookBusError_abort (q := ⟨2, false, fbe.toNat, lbe.toNat⟩) (off := off) (cause := causeDomain) (by decide) hb
    obtain ⟨-, -, -, -, hhbm⟩ := complete_none (s := s.busError ⟨2, false, fbe.toNat, lbe.toNat⟩ off causeDomain) (busError_boundary.trans hb)
    exact ⟨htook, hout, hhbm.trans ((within_busError _ _ _ _).hbm (by decide))⟩
  · have honly := memCes_only (fun k => off + k % n) ce s
    obtain ⟨h0, h1, hothers⟩ := memCes_reg (fun k => off + k % n) ce s
    have hb : (ce.foldl (fun s k => s.memCe (off + k % n)) s).boundary = s.boundary :=
      boundary_congr fun o ho => hothers o (by unfold Reg.GLB_MEM_CE0; omega) (by unfold Reg.GLB_MEM_CE1; omega)
    have hread : (ce.foldl (fun s k => s.memCe (off + k % n)) s).hbmRead off n = s.hbmRead off n := by rw [honly]; rfl
    have hout : (ce.foldl (fun s k => s.memCe (off + k % n)) s).out = s.out := by rw [honly]
    rw [hbmAccess_up h hd]
    dsimp only
    rw [hread]
    refine ⟨?_, emit_reg.trans h0, emit_reg.trans h1, fun o ho => ?_, ?_⟩
    · rw [emit_eq, emit_eq, hb, hout]
    · simp only [List.mem_cons, List.not_mem_nil, or_false, not_or] at ho
      exact emit_reg.trans (hothers o ho.1 ho.2)
    · rw [emit_eq, honly]
  · rw [hbmAccess_up h hd]
    exact hbmPuts_spec bs s off
  · have honly := memCes_only (fun k => off + k % n) ce s
    obtain ⟨-, -, hothers⟩ := memCes_reg (fun k => off + k % n) ce s
    have hstatus : (ce.foldl (fun s k => s.memCe (off + k % n)) s).rb Reg.GLB_MEM_STATUS 8 = false := by
      rw [State.rb, hothers _ (by decide) (by decide)]
      exact hs
    have hhbm : (ce.foldl (fun s k => s.memCe (off + k % n)) s).hbm = s.hbm := by rw [honly]
    have hlim : off + k < 2 ^ 34 := Nat.lt_of_lt_of_le (Nat.add_lt_add_left hk off) ho
    obtain ⟨hue, haddr, hkeep⟩ := memUe_records hlim hstatus
    rw [hbmAccess_up h hd]
    dsimp only
    refine ⟨?_, ?_, ?_⟩
    · rw [State.rb, emit_reg]
      exact hue
    · rw [State.pair, emit_reg, emit_reg]
      exact haddr
    · rw [emit_eq, ← hhbm, hkeep]

end Sys2Proof.Machine

/-! Lock bits are set, and captures, errors and event bits cleared (R52, R53, R58, R380, R381). -/

namespace Sys2Proof.Machine

-- One declaration after another: side by side, their threads' stacks pass the memory limit of a check.
set_option Elab.async false

variable {s : State} {v : Word}

/-- What a write that sends messages touches. -/
theorem Within.onlyMessages {s t : State} (h : Within 0xC8 s t) : t = { s with regs := t.regs, msix := t.msix, out := t.out } := by
  cases s
  cases t
  simp only [State.mk.injEq]
  exact ⟨h.queue, h.now rfl, h.free rfl, trivial, h.latches rfl, h.stages rfl, trivial, trivial, h.hbm rfl, h.hostMem rfl, h.rings rfl,
    h.tbs rfl, h.tsq rfl, h.rtc rfl, h.pwr rfl, h.trigs rfl, h.marks rfl, h.recorder rfl, h.lanes rfl, h.tables rfl, h.chans rfl,
    h.fade rfl, h.phs rfl, h.nrg rfl, h.acc rfl, h.nrgCmd rfl, h.pulses rfl, h.rxq rfl, h.txq rfl, h.segJobs rfl, h.prp rfl,
    h.segments rfl, h.t1sTaken rfl, h.t1sNum rfl, h.seats rfl, h.seated rfl, h.forms rfl, h.tcp rfl, h.links rfl, h.classrooms rfl,
    h.lessons rfl, h.alarms rfl, h.slacks rfl, h.answers rfl, h.pass rfl, h.sched rfl, h.loader rfl, h.evtIn rfl, h.keys rfl,
    h.tap rfl, h.cacheSigner rfl, h.pcie rfl, h.modClks rfl, h.nrgInt rfl, h.ppsPin rfl⟩


/-- A register of GLB that takes a write at any time. -/
theorem writeCause_glb {off : Nat} {r : RegRow} (hu : off / 0x10000 = 0) (hv : viewOf off = 0) (hr : regRow off = some r)
    (hw : r.rw ||| r.w1c ||| r.wo ≠ 0) (hl : r.lock = none) (hx : off ≠ Reg.GLB_RESET) : s.writeCause off v = 0 :=
  writeCause_none hv (normOf_eq hv) hr (reachable_glb hu) hw (fun _ h => nomatch hl.symm.trans h) fun m => by
    rw [unitRefuses_glb hu, glbRefuses, decide_eq_false hx]
    rfl

theorem exec_glbLockSet (h : s.hostUp = true) : exec (.glbLockSet v) s =
    .next ((s.setReg Reg.GLB_LOCK (merge 0x7F v (s.reg Reg.GLB_LOCK &&& ~~~ (v &&& 0)))).setReg Reg.GLB_LOCK
      (s.reg Reg.GLB_LOCK ||| (v &&& 0x7F))) := by
  refine congrArg Host.Outcome.next ?_
  rw [poke_single h (writeCause_glb rfl rfl lockRow (by decide) rfl (by decide)) rfl lockRow rfl, unitHook_glb rfl, State.glbHook, if_pos rfl]

theorem buserrInfoRow : regRow Reg.GLB_BUSERR_INFO = some ⟨0x34, 0x4, 1, 0x4, 1, 0x0, 0x0, 0x80000000, 0x0, 0x0, .single, none⟩ := by
  decide

theorem memStatusRow : regRow Reg.GLB_MEM_STATUS = some ⟨0x50, 0x4, 1, 0x4, 1, 0x0, 0x0, 0x100, 0x0, 0x0, .single, none⟩ := by decide

theorem exec_buserrClear (h : s.hostUp = true) (hv : bit v 31 = true) : ∃ w, exec (.buserrClear v) s =
    .next (((s.setReg Reg.GLB_BUSERR_INFO w).setReg Reg.GLB_BUSERR_INFO 0).setReg Reg.GLB_BUSERR_ADDR 0) := by
  have hp := poke_single (e := {}) h (writeCause_glb (v := v) rfl rfl buserrInfoRow (by decide) rfl (by decide)) rfl buserrInfoRow rfl
  rw [unitHook_glb rfl, State.glbHook, if_neg (by decide), if_pos rfl, if_pos hv] at hp
  exact ⟨_, congrArg Host.Outcome.next hp⟩

theorem exec_memUeClear (h : s.hostUp = true) : exec (.memUeClear v) s =
    .next (s.setReg Reg.GLB_MEM_STATUS (s.reg Reg.GLB_MEM_STATUS &&& ~~~ (v &&& 0x100))) := by
  refine congrArg Host.Outcome.next ?_
  rw [poke_single h (writeCause_glb rfl rfl memStatusRow (by decide) rfl (by decide)) rfl memStatusRow rfl, unitHook_glb rfl, State.glbHook,
    if_neg (by decide), if_neg (by decide), if_neg (by decide), merge_none]

/-! ### STATUS of EVT -/

theorem evtStatusRow (k : Fin 2) :
    regRow (Reg.EVT_STATUS k) = some ⟨0x10000, 0x4, 2, 0x4, 1, 0x0, 0x0, 0xFFFFFFFF, 0x0, 0x0, .single, none⟩ := by
  revert k
  decide

theorem reachable_evt {off : Nat} (h : off / 0x10000 = 1) : s.reachable off = true := by
  unfold State.reachable
  simp only [h]

theorem unitRefuses_evt {off : Nat} {m : Word} (h : off / 0x10000 = 1) : unitRefuses s off v m = false := by
  unfold unitRefuses
  simp only [h]

theorem exec_evtStatusClear (h : s.hostUp = true) (k : Fin 2) : exec (.evtStatusClear k v) s =
    .next (s.setReg (Reg.EVT_STATUS k) (s.reg (Reg.EVT_STATUS k) &&& ~~~ v)).msixAll.msixSettle := by
  have hu : Reg.EVT_STATUS k / 0x10000 = 1 ∧ viewOf (Reg.EVT_STATUS k) = 0 ∧ Reg.EVT_STATUS k - 0x10000 < 8 := by
    revert k
    decide
  have hones : v &&& 0xFFFFFFFF = v := by simpa using BitVec.and_allOnes (x := v)
  have hc : s.writeCause (Reg.EVT_STATUS k) v = 0 :=
    writeCause_none hu.2.1 (normOf_eq hu.2.1) (evtStatusRow k) (reachable_evt hu.1) (by decide) (fun _ h => nomatch h) fun _ =>
      unitRefuses_evt hu.1
  refine congrArg Host.Outcome.next ?_
  rw [poke_single h hc hu.2.1 (evtStatusRow k) rfl, unitHook_evt hu.1, State.evtHook]
  dsimp only
  rw [if_pos hu.2.2, merge_none, hones]

/-- Settles O15: each of these writes changes the one register, and a clear of STATUS sends what it leaves. -/
theorem lockAndClearCommands : Obligations.LockAndClearCommands := by
  unfold Obligations.LockAndClearCommands
  refine ⟨fun s v h => ⟨⟨_, exec_glbLockSet h, reg_setReg_self, fun o ho => ?_, rfl⟩, fun hv => ?_,
      fun hv => ⟨_, exec_memUeClear h, ?_, fun o ho => ?_, rfl⟩⟩,
    fun s v h k => ⟨_, exec_evtStatusClear h k, ?_⟩⟩
  · have hne : o ≠ Reg.GLB_LOCK := fun c => ho (List.mem_singleton.2 c)
    rw [reg_setReg_ne hne, reg_setReg_ne hne]
  · obtain ⟨w, hw⟩ := exec_buserrClear h hv
    refine ⟨_, hw, reg_setReg_self, ?_, fun o ho => ?_, rfl⟩
    · rw [reg_setReg_ne (by decide), reg_setReg_self]
    · simp only [List.mem_cons, List.not_mem_nil, or_false, not_or] at ho
      rw [reg_setReg_ne ho.1, reg_setReg_ne ho.2, reg_setReg_ne ho.2]
  · rw [State.rb, reg_setReg_self]
    simp only [bit] at hv ⊢
    simp [hv]
  · exact reg_setReg_ne fun c => ho (List.mem_singleton.2 c)
  · have hset := within_setReg s (Reg.EVT_STATUS k) (s.reg (Reg.EVT_STATUS k) &&& ~~~ v)
    have hregs : ∀ o (t : State), t.msixAll.msixSettle.reg o = t.reg o := fun o t => by
      rw [State.reg, (within_msixSettle _).regs (by decide), (within_msixAll _).regs (by decide)]
      rfl
    refine ⟨(hregs _ _).trans reg_setReg_self, fun o ho => (hregs _ _).trans (reg_setReg_ne fun c => ho (List.mem_singleton.2 c)), ?_⟩
    exact Within.onlyMessages ((within_msixSettle _).after (by decide) ((within_msixAll _).after (by decide) (hset.mono (by decide))))

end Sys2Proof.Machine

/-! Which registers an operation leaves as they are. -/

namespace Sys2Proof.Machine

-- One declaration after another: side by side, their threads' stacks pass the memory limit of a check.
set_option Elab.async false

/-- The registers for which `P` holds read in `t` as in `s`. -/
def Leaves (P : Nat → Prop) (s t : State) : Prop := ∀ o, P o → t.reg o = s.reg o

section Leaves
variable {P Q : Nat → Prop} {s t u : State}

theorem Leaves.refl (s : State) : Leaves P s s := fun _ _ => rfl
theorem Leaves.trans (h : Leaves P s t) (k : Leaves P t u) : Leaves P s u := fun o ho => (k o ho).trans (h o ho)
theorem Leaves.mono (h : Leaves Q s t) (hPQ : ∀ o, P o → Q o) : Leaves P s t := fun o ho => h o (hPQ o ho)
theorem Leaves.of_regs (h : t.regs = s.regs) : Leaves P s t := fun o _ => by rw [State.reg, h]; rfl
theorem Leaves.ite {c : Prop} [Decidable c] {x y : State} (hx : Leaves P s x) (hy : Leaves P s y) : Leaves P s (if c then x else y) := by
  split
  · exact hx
  · exact hy

theorem Leaves.foldl {α : Type} {f : State → α → State} {l : List α} (h : ∀ t, ∀ a ∈ l, Leaves P t (f t a)) :
    ∀ s, Leaves P s (l.foldl f s) := by
  induction l with
  | nil => exact fun s => Leaves.refl s
  | cons a l ih => exact fun s => (h s a List.mem_cons_self).trans (ih (fun t b hb => h t b (List.mem_cons_of_mem _ hb)) (f s a))

theorem Leaves.rb (h : Leaves P s t) {o : Nat} (ho : P o) (i : Nat) : t.rb o i = s.rb o i := by rw [State.rb, h o ho]; rfl
theorem Leaves.rf (h : Leaves P s t) {o : Nat} (ho : P o) (a n : Nat) : t.rf o a n = s.rf o a n := by rw [State.rf, h o ho]; rfl

theorem regsKept_iff {but : List Nat} : RegsKept s t but ↔ Leaves (fun o => Quiet o ∧ o ∉ but) s t :=
  ⟨fun h o ho => h o ho.1 ho.2, fun h o h1 h2 => h o ⟨h1, h2⟩⟩

theorem leaves_setReg {o : Nat} {w : Word} (h : ¬ P o) : Leaves P s (s.setReg o w) := fun _ hp => reg_setReg_ne fun c => h (c ▸ hp)
theorem leaves_setRb {o i : Nat} {b : Bool} (h : ¬ P o) : Leaves P s (s.setRb o i b) := leaves_setReg h
theorem leaves_setRf {o a n v : Nat} (h : ¬ P o) : Leaves P s (s.setRf o a n v) := leaves_setReg h
theorem leaves_bump {o : Nat} (h : ¬ P o) : Leaves P s (s.bump o) := leaves_setReg h
theorem leaves_bumpWrap {o : Nat} (h : ¬ P o) : Leaves P s (s.bumpWrap o) := leaves_setReg h
theorem leaves_emit (x : Output) : Leaves P s (s.emit x) := fun _ _ => emit_reg

/-- A result group is published in its one register. -/
theorem leaves_publish {o : Nat} (h : ¬ P o) : Leaves P s (s.publish o) := (leaves_setRf h).trans (leaves_setRb h)
theorem leaves_unready {o : Nat} (h : ¬ P o) : Leaves P s (s.unready o) := leaves_setRb h

theorem leaves_hostWrite (a : Nat) (bs : List Byte) : Leaves P s (s.hostWrite a bs) := .of_regs ((within_hostWrite s a bs).regs (by decide))

section Quiet
variable (hP : ∀ o, P o → Quiet o)
include hP

theorem leaves_raise {e inst : Nat} (he : e < 64) : Leaves P s (s.raise e inst) := fun o ho => raise_reg he (hP o ho)

theorem leaves_flagRaise {o i e inst : Nat} (h : ¬ P o) (he : e < 64) : Leaves P s (s.flagRaise o i e inst) :=
  (leaves_setRb h).trans (leaves_raise hP he)

theorem leaves_ringEvent {r : Nat} : Leaves P s (s.ringEvent r) := by
  have h : Leaves P s (s.raise (if ringH2D r then 22 else 23) r) := leaves_raise hP (by split <;> decide)
  unfold State.ringEvent
  dsimp only
  split
  · exact h.trans (leaves_raise hP (by decide))
  · exact h

theorem leaves_ringReturn {r st : Nat} {body : List Byte} (hr : r < 32) : Leaves P s (s.ringReturn r body st) := by
  have h : Leaves P s (s.ringReturnQuiet r body st).1 := fun o ho => ringReturnQuiet_reg hr (hP o ho).2.1
  unfold State.ringReturn
  dsimp only
  split
  · exact h.trans (leaves_ringEvent hP)
  · exact h

theorem leaves_ringExhaust {r : Nat} {lost : Bool} (hr : r < 32) : Leaves P s (s.ringExhaust r lost) := by
  have h : Leaves P s (s.ringExhaustQuiet r lost).1 := fun o ho => ringExhaustQuiet_reg hr (hP o ho).2.1
  unfold State.ringExhaust
  dsimp only
  split
  · exact h.trans (leaves_raise hP (by decide))
  · exact h

end Quiet
end Leaves

/-! ### Events stay raised -/

section Events
variable {s t u : State}

/-- Every event that is shown stays shown. -/
def KeepsEvents (s t : State) : Prop := ∀ e, e < 64 → s.event e = true → t.event e = true

theorem KeepsEvents.refl (s : State) : KeepsEvents s s := fun _ _ h => h
theorem KeepsEvents.trans (h : KeepsEvents s t) (k : KeepsEvents t u) : KeepsEvents s u := fun e he hs => k e he (h e he hs)

theorem KeepsEvents.of_leaves (h : Leaves (fun o => o / 0x10000 = 1) s t) : KeepsEvents s t := fun e he hs => by
  rw [State.event, h.rb (by unfold Reg.EVT_STATUS; omega)]
  exact hs

theorem keepsEvents_raise {e inst : Nat} (he : e < 64) : KeepsEvents s (s.raise e inst) := fun _ hi h => raise_status he hi h

theorem keepsEvents_setReg {o : Nat} {w : Word} (h : o / 0x10000 ≠ 1) : KeepsEvents s (s.setReg o w) := .of_leaves (leaves_setReg h)
theorem keepsEvents_setRb {o i : Nat} {b : Bool} (h : o / 0x10000 ≠ 1) : KeepsEvents s (s.setRb o i b) := keepsEvents_setReg h
theorem keepsEvents_of_regs (h : t.regs = s.regs) : KeepsEvents s t := .of_leaves (.of_regs h)

theorem keepsEvents_flagRaise {o i e inst : Nat} (h : o / 0x10000 ≠ 1) (he : e < 64) : KeepsEvents s (s.flagRaise o i e inst) :=
  (keepsEvents_setRb h).trans (keepsEvents_raise he)

theorem keepsEvents_ringEvent {r : Nat} : KeepsEvents s (s.ringEvent r) := by
  have h : KeepsEvents s (s.raise (if ringH2D r then 22 else 23) r) := keepsEvents_raise (by split <;> decide)
  unfold State.ringEvent
  dsimp only
  split
  · exact h.trans (keepsEvents_raise (by decide))
  · exact h

theorem keepsEvents_ringReturn {r st : Nat} {body : List Byte} (hr : r < 32) : KeepsEvents s (s.ringReturn r body st) := by
  have h : KeepsEvents s (s.ringReturnQuiet r body st).1 := .of_leaves fun o ho => ringReturnQuiet_reg hr (by omega)
  unfold State.ringReturn
  dsimp only
  split
  · exact h.trans keepsEvents_ringEvent
  · exact h

theorem keepsEvents_ringExhaust {r : Nat} {lost : Bool} (hr : r < 32) : KeepsEvents s (s.ringExhaust r lost) := by
  have h : KeepsEvents s (s.ringExhaustQuiet r lost).1 := .of_leaves fun o ho => ringExhaustQuiet_reg hr (by omega)
  unfold State.ringExhaust
  dsimp only
  split
  · exact h.trans (keepsEvents_raise (by decide))
  · exact h

theorem event_raise {e inst : Nat} (he : e < 64) : (s.raise e inst).event e = true := raise_sets he
theorem event_flagRaise {o i e inst : Nat} (he : e < 64) : (s.flagRaise o i e inst).event e = true := raise_sets he

/-- The flag of a raised event, where it stands outside the event unit. -/
theorem flagRaise_flag {o i e inst : Nat} (h : Quiet o) (hi : i < 32) (he : e < 64) : (s.flagRaise o i e inst).rb o i = true := by
  rw [State.flagRaise, State.rb, raise_reg he h]
  exact rb_setRb_self hi

theorem flagRaise_quiet {o p i e inst : Nat} (hp : Quiet p) (h : p ≠ o) (he : e < 64) : (s.flagRaise o i e inst).reg p = s.reg p := by
  rw [State.flagRaise, raise_reg he hp, reg_setRb, if_neg h]

end Events

end Sys2Proof.Machine

/-! One period of the time clock (R87, R89, R145). -/

namespace Sys2Proof.Machine

-- One declaration after another: side by side, their threads' stacks pass the memory limit of a check.
set_option Elab.async false

variable {s : State} {n : Nat}

/-! ### The time bases -/

/-- Time base `n` after a period that applies no step. -/
def State.tbNext (s : State) (n : Nat) : TimeBase := if s.tbState n = 0 then s.tb n else { s.tb n with t := s.tbAdvanced n }

theorem tbPeriod_idle (h : (s.tb n).step = none) : s.tbPeriod n = s ∧ s.tbState n = 0 ∨ s.tbPeriod n = s.setTb n (s.tbNext n) := by
  unfold State.tbPeriod State.tbNext
  by_cases h0 : s.tbState n = 0
  · exact .inl ⟨if_pos h0, h0⟩
  · rw [if_neg h0, if_neg h0, h]
    exact .inr rfl

theorem tbPeriod_idle_spec (h : (s.tb n).step = none) : (s.tbPeriod n).regs = s.regs ∧ (s.tbPeriod n).tb n = s.tbNext n ∧
    ∀ m, m ≠ n → (s.tbPeriod n).tb m = s.tb m := by
  rcases tbPeriod_idle h with ⟨he, h0⟩ | he
  · rw [he]
    exact ⟨rfl, (if_pos h0).symm, fun _ _ => rfl⟩
  · rw [he]
    exact ⟨rfl, tb_setTb.trans (if_pos rfl), fun m hm => tb_setTb.trans (if_neg hm)⟩

theorem tbNext_congr {t : State} (hr : t.regs = s.regs) (ht : t.tb n = s.tb n) : t.tbNext n = s.tbNext n := by
  have hrf : ∀ o i w, t.rf o i w = s.rf o i w := fun o i w => by rw [State.rf, State.reg, hr]; rfl
  have hst : t.tbState n = s.tbState n := hrf _ _ _
  have hrate : t.tbRate n = s.tbRate n := by unfold State.tbRate State.reg; rw [hr]
  have hadv : t.tbAdvanced n = s.tbAdvanced n := by rw [State.tbAdvanced, ht, hrate]; rfl
  rw [State.tbNext, hst, ht, hadv]
  rfl

/-- Time bases advance one after another, each for itself. -/
theorem tbPeriods_idle {l : List Nat} : l.Nodup → ∀ s : State, (∀ m ∈ l, (s.tb m).step = none) →
    (l.foldl State.tbPeriod s).regs = s.regs ∧ ∀ m, (l.foldl State.tbPeriod s).tb m = if m ∈ l then s.tbNext m else s.tb m := by
  induction l with
  | nil => exact fun _ s _ => ⟨rfl, fun m => by simp⟩
  | cons n l ih =>
    intro hl s hs
    obtain ⟨hn, hl⟩ := List.nodup_cons.1 hl
    obtain ⟨hr, htn, hto⟩ := tbPeriod_idle_spec (hs n List.mem_cons_self)
    have hne : ∀ m ∈ l, m ≠ n := fun m hm c => hn (c ▸ hm)
    obtain ⟨hr', ht'⟩ := ih hl (s.tbPeriod n) fun m hm => by
      rw [hto m (hne m hm)]
      exact hs m (List.mem_cons_of_mem _ hm)
    refine ⟨hr'.trans hr, fun m => (ht' m).trans ?_⟩
    by_cases hm : m ∈ l
    · rw [if_pos hm, if_pos (List.mem_cons_of_mem _ hm), tbNext_congr hr (hto m (hne m hm))]
    · rw [if_neg hm]
      by_cases hmn : m = n
      · rw [hmn, htn, if_pos List.mem_cons_self]
      · rw [hto m hmn, if_neg (by simp [hm, hmn])]

/-- The state in which the time bases advance. -/
def State.tick (s : State) : State := { s.periodLength.2 with now := s.periodLength.2.now + s.periodLength.1 }

theorem clockPeriod_eq : s.clockPeriod = [0, 1, 2, 3].foldl State.tbPeriod s.tick := by
  have h : ∀ x : State, (((x.tbPeriod 0).tbPeriod 1).tbPeriod 2).tbPeriod 3 = [0, 1, 2, 3].foldl State.tbPeriod x := fun _ => rfl
  exact h _

theorem tick_regs : s.tick.regs = s.regs ∧ s.tick.tbs = s.tbs := by
  have h := within_periodLength s
  exact ⟨h.regs (by decide), h.tbs (by decide)⟩

theorem clockPeriod_idle (h : ∀ m : Fin 4, (s.tb m).step = none) : s.clockPeriod.regs = s.regs ∧
    ∀ m : Fin 4, s.clockPeriod.tb m = s.tbNext m := by
  obtain ⟨hr, ht⟩ := tick_regs (s := s)
  have htb : ∀ m, s.tick.tb m = s.tb m := fun m => by rw [State.tb, ht]; rfl
  obtain ⟨h1, h2⟩ := tbPeriods_idle (l := [0, 1, 2, 3]) (by decide) s.tick fun m hm => by
    have hm4 : m < 4 := by revert hm; simp; omega
    rw [htb]
    exact h ⟨m, hm4⟩
  rw [clockPeriod_eq]
  refine ⟨h1.trans hr, fun m => (h2 m).trans ?_⟩
  have hm : m.val ∈ [0, 1, 2, 3] := by revert m; decide
  rw [if_pos hm, tbNext_congr hr (htb m)]

theorem clockPeriod_now (h : s.rb Reg.TB_PLL 8 = true) : s.clockPeriod.now = s.now + 625000 := by
  have htick : s.tick.now = s.now + 625000 := by
    unfold State.tick State.periodLength
    rw [if_pos h]
    rfl
  have hkeep : ∀ l : List Nat, ∀ t : State, (l.foldl State.tbPeriod t).now = t.now := fun l => by
    induction l with
    | nil => exact fun t => rfl
    | cons n l ih => exact fun t => (ih _).trans ((within_tbPeriod t n).now (by decide))
  rw [clockPeriod_eq, hkeep, htick]

/-! ### The field segments -/

/-- Registers that the field segments leave as they are. -/
abbrev OffField (o : Nat) : Prop := Quiet o ∧ o / 0x10000 ≠ 10

theorem leaves_t1sShow {g : Nat} (hg : g < 4) : Leaves OffField s (s.t1sShow g) := by
  have h : ¬ OffField (Reg.T1Ss_STATUS g) := fun h => h.2 (by unfold Reg.T1Ss_STATUS; omega)
  exact (leaves_setRb h).trans (leaves_setRb h)

theorem leaves_t1sCount {g j : Nat} (hg : g < 4) (hj : j < 8) : Leaves OffField s (s.t1sCount g j) :=
  leaves_bump fun h => h.2 (by unfold Reg.T1Ss_CNT; omega)

theorem leaves_setSegm {P : Nat → Prop} {g : Nat} {x : Segment} : Leaves P s (s.setSegm g x) := .of_regs rfl

theorem leaves_setRingX {P : Nat → Prop} {g : Nat} {x : RingX} : Leaves P s (s.setRingX g x) := .of_regs rfl

theorem leaves_t1sTaken {P : Nat → Prop} {l : List T1sTaken} : Leaves P s { s with t1sTaken := l } := .of_regs rfl

theorem leaves_t1sFinish {num st : Nat} : Leaves Quiet s (s.t1sFinish num st) := by
  have h : ∀ fuel (t : State), Leaves Quiet t (t1sReturnN fuel t) := by
    intro fuel
    induction fuel with
    | zero => exact fun t => Leaves.refl t
    | succ fuel ih =>
      intro t
      unfold t1sReturnN
      split
      · exact ((leaves_t1sTaken.trans leaves_setRingX).trans (leaves_ringReturn (fun _ h => h) (by decide))).trans (ih _)
      · exact Leaves.refl t
  exact leaves_t1sTaken.trans (h _ _)

theorem leaves_t1sNext {g st quiet : Nat} (hg : g < 4) : Leaves OffField s (s.t1sNext g st quiet) := by
  unfold State.t1sNext
  dsimp only
  split
  · exact Leaves.refl s
  · exact (leaves_setSegm.trans (leaves_t1sShow hg)).trans (leaves_t1sFinish.mono fun _ h => h.1)

theorem leaves_t1sJamEnd {g : Nat} (hg : g < 4) : Leaves OffField s (s.t1sJamEnd g) := by
  have hflag : ¬ OffField (Reg.T1Ss_STATUS g) := fun h => h.2 (by unfold Reg.T1Ss_STATUS; omega)
  unfold State.t1sJamEnd
  dsimp only
  split
  · exact Leaves.refl s
  · split
    · exact ((leaves_t1sCount hg (by decide)).trans (leaves_flagRaise (fun _ h => h.1) hflag (by decide))).trans (leaves_t1sNext hg)
    · exact leaves_setSegm.trans (leaves_t1sShow hg)

theorem leaves_t1sJams : Leaves OffField s s.t1sJams :=
  (((leaves_t1sJamEnd (by decide)).trans (leaves_t1sJamEnd (by decide))).trans (leaves_t1sJamEnd (by decide))).trans
    (leaves_t1sJamEnd (by decide))

/-- Settles O17: without an armed step a period advances the counters, and the jams write in the T1S unit alone. -/
theorem clockPeriodAdvancesTheTimeBases : Obligations.ClockPeriodAdvancesTheTimeBases := by
  unfold Obligations.ClockPeriodAdvancesTheTimeBases
  intro s hp
  have hw := within_period s
  have hjams := within_t1sJams s.clockPeriod
  have htb : ∀ m, s.period.tb m = s.clockPeriod.tb m := fun m => by rw [State.tb, State.period, hjams.tbs (by decide)]; rfl
  refine ⟨step_of_empty hp, hw.queue.trans hp, hw.time, fun h => ?_, fun hidle n => ?_⟩
  · rw [State.period, hjams.now (by decide), clockPeriod_now h]
  · obtain ⟨hr, ht⟩ := clockPeriod_idle hidle
    rw [htb, ht n]
    refine ⟨fun h0 => by rw [State.tbNext, if_pos h0], fun h0 => by rw [State.tbNext, if_neg h0]; rfl, fun off hoff hu => ?_⟩
    rw [State.period, leaves_t1sJams off ⟨hoff, hu⟩, State.reg, hr]
    rfl

end Sys2Proof.Machine

/-! Control of the time bases: enabling, disabling, arming, holdover and release (R88-R90, R93, R106). -/

namespace Sys2Proof.Machine

-- One declaration after another: side by side, their threads' stacks pass the memory limit of a check.
set_option Elab.async false

variable {s t : State} {n m st off : Nat} {v old : Word}

/-! ### Accepted writes -/

theorem State.Accepts.poke {r : RegRow} (h : s.Accepts off v) (hv : viewOf off = 0) (hr : regRow off = some r) (hp : r.pair = .single) :
    s.poke off v {} =
      (s.setReg off (merge r.rw v (s.reg off &&& ~~~ (v &&& r.w1c)))).unitHook s State.bootWrite {} off (s.reg off) v :=
  poke_single h.1 h.2 hv hr hp

/-- The same of a register without bits that a 1 clears. -/
theorem State.Accepts.poke_plain {r : RegRow} (h : s.Accepts off v) (hv : viewOf off = 0) (hr : regRow off = some r)
    (hp : r.pair = .single) (hc : r.w1c = 0) :
    s.poke off v {} = (s.setReg off (merge r.rw v (s.reg off))).unitHook s State.bootWrite {} off (s.reg off) v := by
  have hw : s.reg off &&& ~~~ (v &&& 0) = s.reg off := by simpa using BitVec.and_allOnes (x := s.reg off)
  rw [h.poke hv hr hp, hc, hw]

theorem State.Accepts.refuses (h : s.Accepts off v) (hv : viewOf off = 0) : unitRefuses s off v 0xFFFFFFFF = false := by
  obtain ⟨_, _, _, _, hx⟩ := of_writeCause h.2
  exact hx hv

theorem allRegsKept_iff {but : List Nat} : AllRegsKept s t but ↔ Leaves (fun o => o ∉ but) s t := Iff.rfl

theorem Within.leaves {C : Nat} {P : Nat → Prop} (h : Within C s t) (hC : C.testBit 3 = false := by decide) : Leaves P s t :=
  .of_regs (h.regs hC)

/-! ### The time bases' own fields -/

/-- Every time base but `n` is as before. -/
def OtherTbs (n : Nat) (s t : State) : Prop := ∀ m, m ≠ n → t.tb m = s.tb m

theorem OtherTbs.refl (s : State) : OtherTbs n s s := fun _ _ => rfl
theorem OtherTbs.trans {u : State} (h : OtherTbs n s t) (k : OtherTbs n t u) : OtherTbs n s u := fun m hm => (k m hm).trans (h m hm)
theorem tb_of_tbs (h : t.tbs = s.tbs) : t.tb m = s.tb m := by rw [State.tb, h]; rfl
theorem OtherTbs.of_tbs (h : t.tbs = s.tbs) : OtherTbs n s t := fun _ _ => tb_of_tbs h
theorem otherTbs_setTb {x : TimeBase} : OtherTbs n s (s.setTb n x) := fun _ hm => tb_setTb.trans (if_neg hm)
theorem tb_setTb_self {x : TimeBase} : (s.setTb n x).tb n = x := tb_setTb.trans (if_pos rfl)
theorem leaves_setTb {P : Nat → Prop} {x : TimeBase} : Leaves P s (s.setTb n x) := .of_regs rfl

/-- The state of a time base stands in its status register. -/
theorem tbState_eq (h : t.reg (Reg.TB_STATUS n) = s.reg (Reg.TB_STATUS n)) : t.tbState n = s.tbState n := by
  rw [State.tbState, State.rf, h]
  rfl

theorem noteLock_tb (a b : Bool) : ∃ la ll, (s.noteLock n a b).tb n = { s.tb n with leftAt := la, lockLog := ll } := by
  unfold State.noteLock
  split
  · exact ⟨_, _, rfl⟩
  · exact ⟨_, _, tb_setTb_self⟩

theorem noteLock_others (a b : Bool) : OtherTbs n s (s.noteLock n a b) := by
  unfold State.noteLock
  split
  · exact .refl s
  · exact otherTbs_setTb

theorem setTbState_reg {o : Nat} : (s.setTbState n st).reg o = (s.setRf (Reg.TB_STATUS n) 0 3 st).reg o :=
  (within_noteLock _ _ _ _).leaves (P := fun _ => True) rfl o trivial

theorem leaves_setTbState {P : Nat → Prop} (h : ¬ P (Reg.TB_STATUS n)) : Leaves P s (s.setTbState n st) :=
  fun o ho => setTbState_reg.trans (leaves_setRf h o ho)

theorem setTbState_state (h : st < 8) : (s.setTbState n st).tbState n = st := by
  rw [State.tbState, State.rf, setTbState_reg]
  exact (rf_setRf_self (by decide)).trans (Nat.mod_eq_of_lt h)

theorem setTbState_rb {i : Nat} (hi : 3 ≤ i) : (s.setTbState n st).rb (Reg.TB_STATUS n) i = s.rb (Reg.TB_STATUS n) i := by
  rw [State.rb, setTbState_reg, State.setRf, reg_setReg_self, bit_setFld_ne (by decide) (by omega)]
  rfl

theorem setTbState_tb : ∃ la ll, (s.setTbState n st).tb n = { s.tb n with leftAt := la, lockLog := ll } := noteLock_tb _ _

theorem setTbState_others : OtherTbs n s (s.setTbState n st) := noteLock_others _ _

/-! ### Holdover, release, enabling, arming -/

section Operations
variable (hn : n < 4)
include hn

theorem quiet_tb {d : Nat} (hd : d < 0x100) : Quiet (0x51000 + d + 0x100 * n) := by
  refine ⟨?_, ?_, ?_⟩ <;> omega

theorem quiet_tbStatus : Quiet (Reg.TB_STATUS n) := quiet_tb hn (d := 4) (by decide)

omit hn in
theorem leaves_tbHoldover {P : Nat → Prop} (hP : ∀ o, P o → Quiet o) (h : ¬ P (Reg.TB_STATUS n)) : Leaves P s (s.tbHoldover n) :=
  (leaves_setTbState h).trans (leaves_flagRaise hP h (by decide))

theorem tbHoldover_status : (s.tbHoldover n).reg (Reg.TB_STATUS n) = setBit ((s.setTbState n 4).reg (Reg.TB_STATUS n)) 9 true := by
  rw [State.tbHoldover, flagRaise_reg (by decide) (quiet_tbStatus hn), if_pos rfl]

theorem tbHoldover_state : (s.tbHoldover n).tbState n = 4 := by
  rw [State.tbState, State.rf, tbHoldover_status hn, fld_setBit_ne (by decide) (by decide)]
  exact setTbState_state (by decide)

theorem tbHoldover_flag : (s.tbHoldover n).rb (Reg.TB_STATUS n) 9 = true := by
  rw [State.rb, tbHoldover_status hn, bit_setBit (by decide)]

omit hn in
theorem tbHoldover_event : (s.tbHoldover n).event 7 = true := event_flagRaise (by decide)

omit hn in
theorem tbHoldover_tbs : (s.tbHoldover n).tbs = (s.setTbState n 4).tbs := (within_flagRaise _ _ _ _ _).tbs rfl

omit hn in
theorem tbHoldover_others : OtherTbs n s (s.tbHoldover n) := setTbState_others.trans (.of_tbs tbHoldover_tbs)

omit hn in
theorem leaves_tbLock {P : Nat → Prop} (h : ¬ P (Reg.TB_STATUS n)) : Leaves P s (s.tbLock n) := (leaves_setTbState h).trans leaves_setTb

omit hn in
theorem tbLock_state : (s.tbLock n).tbState n = 3 := (tbState_eq (leaves_setTb (P := fun _ => True) _ trivial)).trans (setTbState_state (by decide))

omit hn in
theorem tbLock_tb : ∃ la ll, (s.tbLock n).tb n = { s.tb n with leftAt := la, lockLog := ll, wdogStart := s.now } := by
  obtain ⟨la, ll, h⟩ := setTbState_tb (s := s) (n := n) (st := 3)
  have hnow : (s.setTbState n 3).now = s.now := (within_setTbState s n 3).now rfl
  refine ⟨la, ll, ?_⟩
  unfold State.tbLock
  dsimp only
  rw [tb_setTb_self, h, hnow]

omit hn in
theorem tbLock_others : OtherTbs n s (s.tbLock n) := setTbState_others.trans otherTbs_setTb

end Operations

/-! ### A write of TBn_CTRL -/

/-- What a write of TBn_CTRL with EN = 1 does last: WDOG_EN and PPS_OUT. -/
def State.tbCtrlRest (s : State) (n : Nat) (old v : Word) : State :=
  let s := if bit v 6 && !bit old 6 then s.setTb n { s.tb n with wdogStart := s.now } else s
  if bit v 7 then s else s.setTb n { s.tb n with ppsUntil := 0 }

theorem tbCtrlRest_regs : (s.tbCtrlRest n old v).regs = s.regs := by
  unfold State.tbCtrlRest
  dsimp only
  split <;> split <;> rfl

theorem tbCtrlRest_others : OtherTbs n s (s.tbCtrlRest n old v) := by
  have h1 : OtherTbs n s (if bit v 6 && !bit old 6 then s.setTb n { s.tb n with wdogStart := s.now } else s) := by
    split
    · exact otherTbs_setTb
    · exact .refl s
  unfold State.tbCtrlRest
  dsimp only
  split
  · exact h1
  · exact h1.trans otherTbs_setTb

theorem tbCtrlRest_tb : ∃ w p, (s.tbCtrlRest n old v).tb n = { s.tb n with wdogStart := w, ppsUntil := p } ∧
    (w = s.now ∨ w = (s.tb n).wdogStart) := by
  have h1 : ∃ w, (if bit v 6 && !bit old 6 then s.setTb n { s.tb n with wdogStart := s.now } else s).tb n = { s.tb n with wdogStart := w } ∧
      (w = s.now ∨ w = (s.tb n).wdogStart) := by
    split
    · exact ⟨_, tb_setTb_self, .inl rfl⟩
    · exact ⟨_, rfl, .inr rfl⟩
  obtain ⟨w, hw, hor⟩ := h1
  unfold State.tbCtrlRest
  dsimp only
  split
  · exact ⟨w, _, hw, hor⟩
  · exact ⟨w, 0, by rw [tb_setTb_self, hw], hor⟩

theorem tbEnable_state : (s.tbEnable n).tbState n = 1 :=
  (tbState_eq (t := s.tbEnable n) (s := s.setTbState n 1) rfl).trans (setTbState_state (by decide))

theorem tbArm_state : (s.tbArm n).tbState n = 2 := by
  have hne : Reg.TB_STATUS n ≠ Reg.TB_CTRL n := by unfold Reg.TB_STATUS Reg.TB_CTRL; omega
  have h : (s.tbArm n).reg (Reg.TB_STATUS n) = (s.setTbState n 2).reg (Reg.TB_STATUS n) := reg_setReg_ne hne
  exact (tbState_eq h).trans (setTbState_state (by decide))

theorem tbRelease_state : (s.tbRelease n).tbState n = 3 := tbLock_state

section Hook
variable (h0 : bit v 0 = true)
include h0

theorem tbCtrlHook_enable (h1 : bit v 1 = false) (hs : s.tbState n = 0) :
    s.tbCtrlHook n old v = (s.tbEnable n).tbCtrlRest n old v := by
  unfold State.tbCtrlHook State.tbCtrlRest
  simp [h0, h1, hs, tbEnable_state]

theorem tbCtrlHook_arm (h1 : bit v 1 = true) (hs : s.tbState n = 1) : s.tbCtrlHook n old v = (s.tbArm n).tbCtrlRest n old v := by
  unfold State.tbCtrlHook State.tbCtrlRest
  simp [h0, h1, hs, tbArm_state]

theorem tbCtrlHook_hold (hn : n < 4) (h1 : bit v 1 = false) (h4 : bit v 4 = true) (hs : s.tbState n = 3) :
    s.tbCtrlHook n old v = (s.tbHoldover n).tbCtrlRest n old v := by
  unfold State.tbCtrlHook State.tbCtrlRest
  simp [h0, h1, h4, hs, tbHoldover_state hn]

theorem tbCtrlHook_release (h1 : bit v 1 = false) (h5 : bit v 5 = true) (hs : s.tbState n = 5) :
    s.tbCtrlHook n old v = (s.tbRelease n).tbCtrlRest n old v := by
  unfold State.tbCtrlHook State.tbCtrlRest
  simp [h0, h1, h5, hs]

end Hook

/-! ### Writes of the TB unit -/

theorem tbHook_ctrl {k : Fin 4} : s.tbHook (Reg.TB_CTRL k) old v = s.tbCtrlHook k old v := by
  have h1 : 0x51000 ≤ Reg.TB_CTRL k ∧ Reg.TB_CTRL k < 0x51400 := by unfold Reg.TB_CTRL; omega
  have h2 : (Reg.TB_CTRL k - 0x51000) / 0x100 = k := by unfold Reg.TB_CTRL; omega
  have h3 : Reg.TB_CTRL k % 0x100 = 0 := by unfold Reg.TB_CTRL; omega
  unfold State.tbHook
  simp [h1, h2, h3]

theorem tbCtrlRow (k : Fin 4) :
    regRow (Reg.TB_CTRL k) = some ⟨0x51000, 0x100, 4, 0x4, 1, 0x0, 0x1CD, 0x0, 0x32, 0x0, .single, none⟩ := by
  revert k
  decide

theorem viewOf_tbCtrl (k : Fin 4) : viewOf (Reg.TB_CTRL k) = 0 := by
  revert k
  decide

/-- A write of TBn_CTRL: its plain fields, then what it asks of the time base. -/
theorem poke_tbCtrl {k : Fin 4} (h : s.Accepts (Reg.TB_CTRL k) v) : s.poke (Reg.TB_CTRL k) v {} =
    (s.setReg (Reg.TB_CTRL k) (merge 0x1CD v (s.reg (Reg.TB_CTRL k)))).tbCtrlHook k (s.reg (Reg.TB_CTRL k)) v := by
  have hu : Reg.TB_CTRL k / 0x10000 = 5 := by unfold Reg.TB_CTRL; omega
  rw [h.poke_plain (viewOf_tbCtrl k) (tbCtrlRow k) rfl rfl, unitHook_tb hu, tbHook_ctrl]

/-- STEP_GO is accepted in FREE alone. -/
theorem tbCtrl_stepGo {k : Fin 4} (h : s.Accepts (Reg.TB_CTRL k) v) (hs : s.tbState k ≠ 1) : bit v 1 = false := by
  have hu : Reg.TB_CTRL k / 0x10000 = 5 := by unfold Reg.TB_CTRL; omega
  have h1 : 0x51000 ≤ Reg.TB_CTRL k ∧ Reg.TB_CTRL k < 0x51400 := by unfold Reg.TB_CTRL; omega
  have h2 : (Reg.TB_CTRL k - 0x51000) / 0x100 = k := by unfold Reg.TB_CTRL; omega
  have h3 : Reg.TB_CTRL k % 0x100 = 0 := by unfold Reg.TB_CTRL; omega
  have hx := h.refuses (viewOf_tbCtrl k)
  rw [unitRefuses_tb hu] at hx
  unfold tbRefuses at hx
  simpa [h1, h2, h3, hs] using hx

end Sys2Proof.Machine

/-! A restart of acquisition and the engines it drives (R271) write registers from ACQ on, and EVT and RNG. -/

namespace Sys2Proof.Machine

-- One declaration after another: side by side, their threads' stacks pass the memory limit of a check.
set_option Elab.async false

/-- From `s` to `t` no register below ACQ has changed but those of EVT and RNG, and no STATUS bit has been cleared. -/
structure Upper (s t : State) : Prop where
  regs : Leaves (fun o => o < 0x120000 ∧ o / 0x10000 ≠ 1 ∧ o / 0x10000 ≠ 12) s t
  events : KeepsEvents s t

/-- A register of ACQ or above, or of RNG. -/
abbrev InUpper (o : Nat) : Prop := 0x120000 ≤ o ∨ o / 0x10000 = 12

/-- A state written out from another with the registers taken over. -/
theorem Upper.upd
    {s x : State} {pending_} {now_} {free_} {latches_} {stages_} {msix_} {out_} {hbm_} {hostMem_} {rings_} {tbs_} {tsq_} {rtc_} {pwr_} {trigs_} {marks_}
    {recorder_} {lanes_} {tables_} {chans_} {fade_} {phs_} {nrg_} {acc_} {nrgCmd_} {pulses_} {rxq_} {txq_} {segJobs_} {prp_} {segments_}
    {t1sTaken_} {t1sNum_} {seats_} {seated_} {forms_} {tcp_} {links_} {classrooms_} {lessons_} {alarms_} {slacks_} {answers_} {pass_}
    {sched_} {loader_} {evtIn_} {keys_} {tap_} {cacheSigner_} {pcie_} {modClks_} {nrgInt_} {ppsPin_} (h : Upper s x) :
    Upper s ⟨pending_, now_, free_, x.regs, latches_, stages_, msix_, out_, hbm_, hostMem_, rings_, tbs_, tsq_, rtc_, pwr_, trigs_,
    marks_, recorder_, lanes_, tables_, chans_, fade_, phs_, nrg_, acc_, nrgCmd_, pulses_, rxq_, txq_, segJobs_, prp_, segments_,
    t1sTaken_, t1sNum_, seats_, seated_, forms_, tcp_, links_, classrooms_, lessons_, alarms_, slacks_, answers_, pass_, sched_, loader_,
    evtIn_, keys_, tap_, cacheSigner_, pcie_, modClks_, nrgInt_, ppsPin_⟩ := ⟨h.regs, h.events⟩

variable {s t x y : State} {o i : Nat}

theorem Upper.refl (s : State) : Upper s s := ⟨.refl s, .refl s⟩
theorem Upper.after (h : Upper x y) (g : Upper s x) : Upper s y := ⟨g.regs.trans h.regs, g.events.trans h.events⟩
theorem Upper.trans (g : Upper s x) (h : Upper x y) : Upper s y := h.after g
theorem Upper.of_regs (h : t.regs = s.regs) : Upper s t := ⟨.of_regs h, keepsEvents_of_regs h⟩
theorem Within.upper {C : Nat} (h : Within C s t) (hC : C.testBit 3 = false := by decide) : Upper s t := .of_regs (h.regs hC)

theorem Upper.foldl {α : Type} {f : State → α → State} {l : List α} (hf : ∀ y a, Upper s y → Upper s (f y a)) (hx : Upper s x) :
    Upper s (l.foldl f x) := by
  induction l generalizing x with
  | nil => exact hx
  | cons a l ih => exact ih (hf x a hx)

theorem Upper.pair_fst {β : Type} {b : β} (h : Upper s x) : Upper s (x, b).1 := h
theorem Upper.pair_snd {β : Type} {b : β} (h : Upper s x) : Upper s (b, x).2 := h

theorem inUpper_add {b k : Nat} (h : 0x120000 ≤ b) : InUpper (b + k) := .inl (Nat.le_add_right_of_le h)
theorem inUpper_add_add {b k j : Nat} (h : 0x120000 ≤ b) : InUpper (b + k + j) := .inl (Nat.le_add_right_of_le (Nat.le_add_right_of_le h))

theorem upper_setReg {w : Word} (h : InUpper o) : Upper s (s.setReg o w) :=
  ⟨leaves_setReg fun c => by omega, keepsEvents_setReg (by omega)⟩

theorem upper_setRb {b : Bool} (h : InUpper o) : Upper s (s.setRb o i b) := upper_setReg h
theorem upper_setRf {n v : Nat} (h : InUpper o) : Upper s (s.setRf o i n v) := upper_setReg h
theorem upper_bumpBy {n : Nat} (h : InUpper o) : Upper s (s.bumpBy o n) := upper_setReg h
theorem upper_bump (h : InUpper o) : Upper s (s.bump o) := upper_setReg h
theorem upper_bumpWrap (h : InUpper o) : Upper s (s.bumpWrap o) := upper_setReg h
theorem upper_unready (h : InUpper o) : Upper s (s.unready o) := upper_setReg h
theorem upper_publish (h : InUpper o) : Upper s (s.publish o) := (upper_setRb h).after (upper_setRf h)

theorem quiet_of_lower (h : o < 0x120000 ∧ o / 0x10000 ≠ 1 ∧ o / 0x10000 ≠ 12) : Quiet o := ⟨h.2.1, h.2.2, by omega⟩

theorem upper_raise {e inst : Nat} (he : e < 64) : Upper s (s.raise e inst) :=
  ⟨leaves_raise (fun _ => quiet_of_lower) he, keepsEvents_raise he⟩

theorem upper_flagRaise {e inst : Nat} (h : InUpper o) (he : e < 64) : Upper s (s.flagRaise o i e inst) :=
  (upper_raise he).after (upper_setRb h)

theorem upper_ringReturn {r st : Nat} {body : List Byte} (hr : r < 32) : Upper s (s.ringReturn r body st) :=
  ⟨leaves_ringReturn (fun _ => quiet_of_lower) hr, keepsEvents_ringReturn hr⟩

theorem upper_ringExhaust {r : Nat} {lost : Bool} (hr : r < 32) : Upper s (s.ringExhaust r lost) :=
  ⟨leaves_ringExhaust (fun _ => quiet_of_lower) hr, keepsEvents_ringExhaust hr⟩

theorem upper_postRecord {r w10 w14 : Nat} {rec : List Byte} (hr : r < 32) : Upper s (s.postRecord r rec w10 w14) := by
  have hcnt : InUpper (Reg.RNG_CNT r 1) := .inr (by unfold Reg.RNG_CNT; omega)
  have hst : InUpper (Reg.RNG_STATUS r) := .inr (by unfold Reg.RNG_STATUS; omega)
  unfold State.postRecord
  dsimp only
  split
  · split
    · exact (upper_raise (by decide)).after ((upper_setRb hst).after ((upper_bump hcnt).after (upper_ringReturn hr)))
    · exact (upper_ringReturn hr).after (within_hostWrite _ _ _).upper
  · exact upper_ringExhaust hr

theorem upper_detChange {c sb regOff flag event : Nat} {v evt : Bool} (h : InUpper regOff) (he : event < 64) :
    Upper s (s.detChange c sb regOff v flag event evt) := by
  have hset : Upper s (((s.setRb (Reg.NRG_CIR_STATUS c) sb v).setRb regOff c v).setRb Reg.NRG_STATUS flag true) :=
    (upper_setRb (by decide)).after ((upper_setRb h).after (upper_setRb (inUpper_add (by decide))))
  unfold State.detChange
  dsimp only
  split
  · exact (upper_raise he).after hset
  · exact hset

theorem upper_recStopped (s : State) :
    Upper s (State.recStopped s) := by
  unfold State.recStopped
  repeat' first
  | with_reducible apply Upper.refl | with_reducible apply Upper.after (upper_setRf ?_)
  | with_reducible apply Upper.after (upper_publish ?_) | with_reducible apply Upper.after (upper_unready ?_)
  | with_reducible apply Upper.after ((within_setRec _ _).upper) | with_reducible apply Upper.after (upper_setRb ?_)
  | with_reducible apply Upper.upd | exact inUpper_add (by decide) | exact inUpper_add_add (by decide) | decide

theorem upper_recDrop (s : State) (mark : Bool) (frame : Option Stamp) :
    Upper s (State.recDrop s mark frame) := by
  unfold State.recDrop
  repeat' first
  | (extract_lets +onlyGivenNames x; first
      | (refine (fun (h : Upper s x) => ?_) ?_; clear_value x; rotate_left; subst x; rotate_left)
      | clear_value x
      | skip)
  | with_reducible apply Upper.refl | with_reducible assumption | with_reducible apply Upper.after (upper_bump ?_)
  | with_reducible apply Upper.after (upper_flagRaise ?_ ?_) | with_reducible apply Upper.after ((within_setRec _ _).upper) | split
  | exact inUpper_add (by decide) | exact inUpper_add_add (by decide) | decide

theorem upper_recPush (s : State) (octets : List Byte) (mark : Bool) :
    Upper s (State.recPush s octets mark) := by
  unfold State.recPush
  repeat' first
  | with_reducible apply Upper.refl | with_reducible apply Upper.after (upper_bump ?_)
  | with_reducible apply Upper.after ((within_setRec _ _).upper) | exact inUpper_add (by decide)

theorem upper_recComplete (s : State) :
    Upper s (State.recComplete s) := by
  unfold State.recComplete
  repeat' first
  | with_reducible apply Upper.refl | with_reducible apply Upper.after (upper_ringReturn ?_)
  | with_reducible apply Upper.after ((within_hostWrite _ _ _).upper) | with_reducible apply Upper.after ((within_setRingX _ _ _).upper)
  | with_reducible apply Upper.after ((within_setRec _ _).upper) | split | exact inUpper_add (by decide)
  | exact inUpper_add_add (by decide) | decide

theorem upper_recMove (s : State) (i : RecItem) (rest : List RecItem) :
    Upper s (State.recMove s i rest).1 := by
  unfold State.recMove
  repeat' first
  | (extract_lets +onlyGivenNames x; first
      | (refine (fun (h : Upper s x) => ?_) ?_; clear_value x; rotate_left; subst x; rotate_left)
      | (have e : x = fun y => x y := rfl; clear e; subst x)
      | clear_value x
      | skip)
  | with_reducible apply Upper.refl | with_reducible assumption | with_reducible apply Upper.after ((within_setRingX _ _ _).upper)
  | with_reducible apply Upper.after ((within_setRec _ _).upper) | with_reducible apply Upper.after (upper_ringExhaust ?_)
  | with_reducible apply Upper.after (upper_recComplete _) | split | dsimp -zeta -zetaHave -zetaUnused only
  | exact inUpper_add (by decide) | exact inUpper_add_add (by decide) | decide

theorem upper_recPumpN (x0 : Nat) (s : State) :
    Upper s (recPumpN x0 s) := by
  induction x0 generalizing s with
  | zero =>
    unfold recPumpN
    first | exact Upper.refl _ | exact (Upper.refl _) | (split <;> exact Upper.refl _)
  | succ n ih =>
    unfold recPumpN
    repeat' first
    | (extract_lets +onlyGivenNames x; first
        | (refine (fun (h : Upper s x.1) => ?_) ?_; clear_value x; rotate_left; subst x; rotate_left)
        | clear_value x
        | skip)
    | with_reducible apply Upper.refl | with_reducible assumption | with_reducible apply Upper.after (upper_recMove _ _ _)
    | with_reducible apply Upper.after (ih _) | split

theorem upper_recShow (s : State) :
    Upper s (State.recShow s) := by
  unfold State.recShow
  repeat' first
  | with_reducible apply Upper.refl | with_reducible apply Upper.after (upper_setRf ?_) | exact inUpper_add (by decide)
  | exact inUpper_add_add (by decide) | decide

theorem upper_recPump (s : State) :
    Upper s (State.recPump s) := by
  unfold State.recPump
  repeat' first
  | with_reducible apply Upper.refl | with_reducible apply Upper.after (upper_recPumpN _ _)
  | with_reducible apply Upper.after (upper_recShow _)

theorem upper_recGap (s : State) (next : Stamp) :
    Upper s (State.recGap s next) := by
  unfold State.recGap
  repeat' first
  | (extract_lets +onlyGivenNames x; first
      | (refine (fun (h : Upper s x) => ?_) ?_; clear_value x; rotate_left; subst x; rotate_left)
      | clear_value x
      | skip)
  | with_reducible apply Upper.refl | with_reducible assumption | with_reducible apply Upper.after (upper_bump ?_)
  | with_reducible apply Upper.after (upper_recPush _ _ _) | with_reducible apply Upper.after ((within_setRec _ _).upper) | split
  | exact inUpper_add (by decide)

theorem upper_recEmitFrame (s : State) (f : Stamp) (last : Bool) (resync : Bool) :
    Upper s (State.recEmitFrame s f last resync) := by
  unfold State.recEmitFrame
  repeat' first
  | with_reducible apply Upper.refl | with_reducible apply Upper.after (upper_recDrop _ _ _)
  | with_reducible apply Upper.after (upper_recPush _ _ _) | with_reducible apply Upper.after ((within_setRec _ _).upper)
  | with_reducible apply Upper.after (upper_recPump _) | with_reducible apply Upper.after (upper_recGap _ _) | split

theorem upper_recFrameOut (s : State) (resync : Bool) :
    Upper s (State.recFrameOut s resync) := by
  unfold State.recFrameOut
  repeat' first
  | with_reducible apply Upper.refl | with_reducible apply Upper.after (upper_recStopped _)
  | with_reducible apply Upper.after ((within_laneTrim _ _).upper) | with_reducible apply Upper.after (upper_recEmitFrame _ _ _ _)
  | with_reducible apply Upper.after ((within_setRec _ _).upper) | with_reducible apply Upper.after (upper_recPump _) | split

theorem upper_recRestart (s : State) (old : Stamp) (now : Stamp) :
    Upper s (State.recRestart s old now) := by
  unfold State.recRestart
  repeat' first
  | (extract_lets +onlyGivenNames x; first
      | (refine (fun (h : Upper s x) => ?_) ?_; clear_value x; rotate_left; subst x; rotate_left)
      | clear_value x
      | skip)
  | with_reducible apply Upper.refl | with_reducible assumption | with_reducible apply Upper.after ((within_setRec _ _).upper)
  | with_reducible apply Upper.after (upper_recFrameOut _ _) | with_reducible apply Upper.foldl | (with_reducible intro y a h) | split
  | with_reducible apply Upper.upd

theorem upper_fadeResult (s : State) (res : Nat) (t : Stamp) :
    Upper s (State.fadeResult s res t) := by
  unfold State.fadeResult
  repeat' first
  | with_reducible apply Upper.refl | with_reducible apply Upper.after (upper_setReg ?_)
  | with_reducible apply Upper.after (upper_setRf ?_) | with_reducible apply Upper.after (upper_publish ?_)
  | with_reducible apply Upper.after (upper_setRb ?_) | exact inUpper_add (by decide) | exact inUpper_add_add (by decide) | decide

theorem upper_fadeEnd (s : State) (f : Fade) :
    Upper s (State.fadeEnd s f) := by
  unfold State.fadeEnd
  repeat' first
  | with_reducible apply Upper.refl | with_reducible assumption | with_reducible apply Upper.after (upper_flagRaise ?_ ?_)
  | with_reducible apply Upper.after (upper_fadeResult _ _ _) | with_reducible apply Upper.after (upper_setRb ?_)
  | with_reducible apply Upper.foldl | (with_reducible intro y a h) | split | with_reducible apply Upper.upd
  | exact inUpper_add (by decide) | exact inUpper_add_add (by decide) | decide

theorem upper_nrgCmdDone (s : State) (res : Nat) (t : Stamp) :
    Upper s (State.nrgCmdDone s res t) := by
  unfold State.nrgCmdDone
  repeat' first
  | with_reducible apply Upper.refl | with_reducible apply Upper.after (upper_setReg ?_)
  | with_reducible apply Upper.after (upper_setRf ?_) | with_reducible apply Upper.after (upper_publish ?_)
  | with_reducible apply Upper.after (upper_setRb ?_) | exact inUpper_add (by decide) | exact inUpper_add_add (by decide) | decide

theorem upper_nrgCmdAt (s : State) (c : Nat) (t : Stamp) :
    Upper s (State.nrgCmdAt s c t) := by
  unfold State.nrgCmdAt
  repeat' first
  | with_reducible apply Upper.refl | with_reducible apply Upper.after (upper_nrgCmdDone _ _ _)
  | with_reducible apply Upper.after ((within_nrgOp _ _ _).upper) | split | with_reducible apply Upper.upd

theorem upper_nrgCmdEnd (s : State) (c : Nat) :
    Upper s (State.nrgCmdEnd s c) := by
  unfold State.nrgCmdEnd
  repeat' first
  | with_reducible apply Upper.refl | with_reducible apply Upper.after (upper_nrgCmdAt _ _ _) | split

theorem upper_nrgBegin (s : State) (c : Nat) (r : NrgRun) :
    Upper s (State.nrgBegin s c r) := by
  unfold State.nrgBegin
  repeat' first
  | with_reducible apply Upper.refl | with_reducible apply Upper.after (upper_setReg ?_)
  | with_reducible apply Upper.after ((within_setNrg _ _ _).upper) | with_reducible apply Upper.after (upper_setRb ?_)
  | exact inUpper_add (by decide) | exact inUpper_add_add (by decide) | decide

theorem upper_nrgOver (s : State) (c : Nat) :
    Upper s (State.nrgOver s c) := by
  unfold State.nrgOver
  repeat' first
  | (extract_lets +onlyGivenNames x; first
      | clear_value x
      | skip)
  | with_reducible apply Upper.refl | with_reducible apply Upper.after ((within_setNrg _ _ _).upper)
  | with_reducible apply Upper.after (upper_nrgCmdEnd _ _) | with_reducible apply Upper.after (upper_nrgBegin _ _ _) | split

theorem upper_intervalClose (s : State) (c : Nat) (t : Stamp) (extra : Nat) (next : Nat) :
    Upper s (State.intervalClose s c t extra next) := by
  unfold State.intervalClose
  repeat' first
  | with_reducible apply Upper.refl | with_reducible apply Upper.after ((within_setNrg _ _ _).upper)
  | with_reducible apply Upper.after (upper_postRecord ?_) | exact inUpper_add (by decide) | exact inUpper_add_add (by decide) | decide

theorem upper_intervalEnd (s : State) (c : Nat) :
    Upper s (State.intervalEnd s c) := by
  unfold State.intervalEnd
  repeat' first
  | with_reducible apply Upper.refl | with_reducible apply Upper.after (upper_flagRaise ?_ ?_)
  | with_reducible apply Upper.after (upper_intervalClose _ _ _ _ _) | split | with_reducible apply Upper.upd
  | exact inUpper_add (by decide) | exact inUpper_add_add (by decide) | decide

theorem upper_detNeu (s : State) (c : Nat) (mean : F64) (vn : F64) :
    Upper s (State.detNeu s c mean vn) := by
  unfold State.detNeu
  repeat' first
  | (extract_lets +onlyGivenNames x; first
      | (refine (fun (h : Upper s x) => ?_) ?_; clear_value x; rotate_left; subst x; rotate_left)
      | clear_value x
      | skip)
  | with_reducible apply Upper.refl | with_reducible assumption | with_reducible apply Upper.after ((within_setNrg _ _ _).upper)
  | with_reducible apply Upper.after (upper_detChange ?_ ?_) | split | exact inUpper_add (by decide) | exact inUpper_add_add (by decide)
  | decide

theorem upper_nrgStop (s : State) (c : Nat) :
    Upper s (State.nrgStop s c) := by
  unfold State.nrgStop
  repeat' first
  | with_reducible apply Upper.refl | with_reducible apply Upper.after (upper_nrgOver _ _)
  | with_reducible apply Upper.after (upper_intervalClose _ _ _ _ _)

theorem upper_detSeq (s : State) (c : Nat) (va : C64) (vb : C64) (vc : C64) :
    Upper s (State.detSeq s c va vb vc) := by
  unfold State.detSeq
  repeat' first
  | (extract_lets +onlyGivenNames x; first
      | (refine (fun (h : Upper s x) => ?_) ?_; clear_value x; rotate_left; subst x; rotate_left)
      | clear_value x
      | skip)
  | with_reducible apply Upper.refl | with_reducible assumption | with_reducible apply Upper.after ((within_setNrg _ _ _).upper)
  | with_reducible apply Upper.after (upper_detChange ?_ ?_) | split | exact inUpper_add (by decide) | exact inUpper_add_add (by decide)
  | decide

theorem upper_setDir (s : State) (c : Nat) (export_ : Bool) :
    Upper s (State.setDir s c export_) := by
  unfold State.setDir
  repeat' first
  | with_reducible apply Upper.refl | with_reducible apply Upper.after (upper_setRb ?_) | exact inUpper_add (by decide)
  | exact inUpper_add_add (by decide) | decide

theorem upper_detDir (s : State) (c : Nat) (e : F64) :
    Upper s (State.detDir s c e) := by
  unfold State.detDir
  repeat' first
  | (extract_lets +onlyGivenNames x; first
      | (refine (fun (h : Upper s x) => ?_) ?_; clear_value x; rotate_left; subst x; rotate_left)
      | clear_value x
      | skip)
  | with_reducible apply Upper.refl | with_reducible assumption | with_reducible apply Upper.after ((within_setNrg _ _ _).upper)
  | with_reducible apply Upper.after (upper_raise ?_) | with_reducible apply Upper.after (upper_setDir _ _ _)
  | with_reducible apply Upper.after (upper_setRb ?_) | split | exact inUpper_add (by decide) | exact inUpper_add_add (by decide)
  | decide

theorem upper_pulseStep (s : State) (c : Nat) (x : NrgCirc) (gain : Nat → Nat) (n : Nat) :
    Upper s (State.pulseStep s c x gain n) := by
  unfold State.pulseStep
  repeat' first
  | (extract_lets +onlyGivenNames x; first
      | (refine (fun (h : Upper s x) => ?_) ?_; clear_value x; rotate_left; subst x; rotate_left)
      | clear_value x
      | skip)
  | with_reducible apply Upper.refl | with_reducible assumption | with_reducible apply Upper.after ((within_setPulse _ _ _).upper)
  | with_reducible apply Upper.after (upper_setRb ?_) | split | exact inUpper_add (by decide) | exact inUpper_add_add (by decide)
  | decide

theorem upper_fireQuiet (s : State) (n : Nat) (anchor : Stamp) (back : Nat) (tap : Nat) (delta : Nat) :
    Upper s (State.fireQuiet s n anchor back tap delta).1 := by
  unfold State.fireQuiet
  repeat' first
  | (extract_lets +onlyGivenNames x; first
      | (refine (fun (h : Upper s x) => ?_) ?_; clear_value x; rotate_left; subst x; rotate_left)
      | clear_value x
      | skip)
  | with_reducible apply Upper.refl | with_reducible assumption | with_reducible apply Upper.after (upper_bump ?_)
  | with_reducible apply Upper.after (upper_bumpWrap ?_) | with_reducible apply Upper.after (upper_setRb ?_) | split
  | with_reducible apply Upper.upd | exact inUpper_add (by decide) | exact inUpper_add_add (by decide) | decide

theorem upper_fire (s : State) (n : Nat) (anchor : Stamp) (back : Nat) (tap : Nat) (delta : Nat) :
    Upper s (State.fire s n anchor back tap delta) := by
  unfold State.fire
  repeat' first
  | (extract_lets +onlyGivenNames x; first
      | (refine (fun (h : Upper s x.1) => ?_) ?_; clear_value x; rotate_left; subst x; rotate_left)
      | clear_value x
      | skip)
  | with_reducible apply Upper.refl | with_reducible assumption | with_reducible apply Upper.after (upper_raise ?_)
  | with_reducible apply Upper.after (upper_fireQuiet _ _ _ _ _ _) | split | exact inUpper_add (by decide)
  | exact inUpper_add_add (by decide) | decide

theorem upper_trigValue (s : State) (n : Nat) (t : Stamp) (v : Word) :
    Upper s (State.trigValue s n t v) := by
  unfold State.trigValue
  repeat' first
  | (extract_lets +onlyGivenNames x; first
      | (refine (fun (h : Upper s x) => ?_) ?_; clear_value x; rotate_left; subst x; rotate_left)
      | clear_value x
      | skip)
  | with_reducible apply Upper.refl | with_reducible assumption | with_reducible apply Upper.after (upper_fire _ _ _ _ _ _)
  | with_reducible apply Upper.after ((within_setTrig _ _ _).upper) | split

theorem upper_trigsPeriod (s : State) (c : Nat) (t : Stamp) (val : Nat → Bool → Word) :
    Upper s (State.trigsPeriod s c t val) := by
  unfold State.trigsPeriod
  repeat' first
  | with_reducible apply Upper.refl | with_reducible assumption | with_reducible apply Upper.after (upper_trigValue _ _ _ _)
  | with_reducible apply Upper.foldl | (with_reducible intro y a h)

theorem upper_account (s : State) (c : Nat) :
    Upper s (State.account s c) := by
  unfold State.account
  repeat' first
  | (extract_lets +onlyGivenNames x; first
      | (refine (fun (h : Upper s x) => ?_) ?_; clear_value x; rotate_left; subst x; rotate_left)
      | clear_value x
      | skip)
  | with_reducible apply Upper.refl | with_reducible assumption | with_reducible apply Upper.after (upper_detNeu _ _ _ _)
  | with_reducible apply Upper.after (upper_nrgStop _ _) | with_reducible apply Upper.after ((within_setNrg _ _ _).upper)
  | with_reducible apply Upper.after ((within_corrTake _ _).upper) | with_reducible apply Upper.after (upper_detSeq _ _ _ _ _)
  | with_reducible apply Upper.after (upper_detDir _ _ _) | with_reducible apply Upper.after (upper_nrgCmdAt _ _ _)
  | with_reducible apply Upper.after ((within_addView _ _ _ _).upper) | with_reducible apply Upper.after (upper_pulseStep _ _ _ _ _)
  | with_reducible apply Upper.after (upper_trigsPeriod _ _ _ _) | with_reducible apply Upper.after (upper_bumpWrap ?_)
  | with_reducible apply Upper.after (upper_setRb ?_) | with_reducible apply Upper.foldl | (with_reducible intro y a h) | split
  | exact inUpper_add (by decide) | exact inUpper_add_add (by decide) | decide

theorem upper_nrgDrain (t : Stamp) (c : Nat) (x2 : Nat) (s : State) :
    Upper s (State.nrgDrain t c x2 s) := by
  induction x2 generalizing s with
  | zero => exact Upper.refl _
  | succ n ih =>
    unfold State.nrgDrain
    extract_lets x
    split
    · exact (upper_intervalEnd _ _).trans (ih _)
    · split
      · exact (upper_account _ _).trans (ih _)
      · exact Upper.refl _

theorem upper_nrgStep (s : State) (c : Nat) (old : Stamp) (now : Stamp) :
    Upper s (State.nrgStep s c old now) := by
  unfold State.nrgStep
  repeat' first
  | (extract_lets +onlyGivenNames x; first
      | (refine (fun (h : Upper s x) => ?_) ?_; clear_value x; rotate_left; subst x; rotate_left)
      | clear_value x
      | skip)
  | with_reducible apply Upper.refl | with_reducible assumption | with_reducible apply Upper.after ((within_setNrg _ _ _).upper)
  | with_reducible apply Upper.after (upper_nrgOver _ _) | with_reducible apply Upper.after (upper_nrgDrain _ _ _ _)
  | with_reducible apply Upper.after (upper_nrgCmdEnd _ _) | with_reducible apply Upper.after (upper_intervalClose _ _ _ _ _) | split

theorem upper_nrgRestart (s : State) (old : Stamp) (now : Stamp) :
    Upper s (State.nrgRestart s old now) := by
  unfold State.nrgRestart
  repeat' first
  | (extract_lets +onlyGivenNames x; first
      | (refine (fun (h : Upper s x) => ?_) ?_; clear_value x; rotate_left; subst x; rotate_left)
      | clear_value x
      | skip)
  | with_reducible apply Upper.refl | with_reducible assumption | with_reducible apply Upper.after ((within_setNrg _ _ _).upper)
  | with_reducible apply Upper.after ((within_setPulse _ _ _).upper) | with_reducible apply Upper.after (upper_nrgStep _ _ _ _)
  | with_reducible apply Upper.foldl | (with_reducible intro y a h) | with_reducible apply Upper.upd

theorem upper_acqRestart (s : State) (old : Stamp) :
    Upper s (State.acqRestart s old) := by
  unfold State.acqRestart
  repeat' first
  | (extract_lets +onlyGivenNames x; first
      | (refine (fun (h : Upper s x) => ?_) ?_; clear_value x; rotate_left; subst x; rotate_left)
      | clear_value x
      | skip)
  | with_reducible apply Upper.refl | with_reducible assumption | with_reducible apply Upper.after ((within_histClear _).upper)
  | with_reducible apply Upper.after ((within_phsAfter _ _ _).upper) | with_reducible apply Upper.after (upper_recRestart _ _ _)
  | with_reducible apply Upper.after (upper_fadeEnd _ _) | with_reducible apply Upper.after (upper_nrgRestart _ _ _)
  | with_reducible apply Upper.after (upper_setRb ?_) | with_reducible apply Upper.after ((within_acqStart _ _ _).upper)
  | with_reducible apply Upper.foldl | (with_reducible intro y a h) | split | exact inUpper_add (by decide)
  | exact inUpper_add_add (by decide) | decide

end Sys2Proof.Machine

/-! Enabling and disabling a time base, and the step that is applied at a nanosecond boundary (R90, R92, R93). -/

namespace Sys2Proof.Machine

-- One declaration after another: side by side, their threads' stacks pass the memory limit of a check.
set_option Elab.async false

variable {s t : State} {n : Nat} {v : Word} {q : StepReq}

theorem reg_of_regs {o : Nat} (h : t.regs = s.regs) : t.reg o = s.reg o := by
  unfold State.reg
  rw [h]

/-! ### Enabling, disabling, arming -/

theorem tbStatus_ne_ctrl : Reg.TB_STATUS n ≠ Reg.TB_CTRL n := by
  unfold Reg.TB_STATUS Reg.TB_CTRL
  omega

/-- What a write of TBn_CTRL may change of the registers. -/
abbrev OffCtrl (n o : Nat) : Prop := o ∉ [Reg.TB_CTRL n, Reg.TB_STATUS n]

theorem not_offCtrl_ctrl : ¬ OffCtrl n (Reg.TB_CTRL n) := by simp
theorem not_offCtrl_status : ¬ OffCtrl n (Reg.TB_STATUS n) := by simp

theorem leaves_leapPendCheck {P : Nat → Prop} (h : ¬ P (Reg.TB_STATUS n)) : Leaves P s (s.leapPendCheck n) := by
  unfold State.leapPendCheck
  dsimp only
  split
  · exact .refl s
  · exact leaves_setRb h

theorem leapPendCheck_rf {a k : Nat} (h : a + k ≤ 4 ∨ 5 ≤ a) : (s.leapPendCheck n).rf (Reg.TB_STATUS n) a k = s.rf (Reg.TB_STATUS n) a k := by
  unfold State.leapPendCheck
  dsimp only
  split
  · rfl
  · rw [State.rf, reg_setRb, if_pos rfl, fld_setBit_ne (by decide) h]
    rfl

theorem leapPendCheck_rb {i : Nat} (h : i ≠ 4) : (s.leapPendCheck n).rb (Reg.TB_STATUS n) i = s.rb (Reg.TB_STATUS n) i := by
  unfold State.leapPendCheck
  dsimp only
  split
  · rfl
  · rw [State.rb, reg_setRb, if_pos rfl, bit_setBit_ne (by decide) h]
    rfl

theorem leaves_tbEnable : Leaves (OffCtrl n) s (s.tbEnable n) := by
  have h : ∀ (x : State) (c : Sched), Leaves (OffCtrl n) x { x with sched := c } := fun _ _ => .of_regs rfl
  exact ((leaves_setTbState not_offCtrl_status).trans leaves_setTb).trans (h _ _)

theorem tbEnable_tb : ((s.tbEnable n).tb n).t = 0 := congrArg TimeBase.t (tb_setTb_self (s := s.setTbState n 1))

theorem tbEnable_others : OtherTbs n s (s.tbEnable n) := by
  have h : ∀ (x : State) (c : Sched), OtherTbs n x { x with sched := c } := fun _ _ => .of_tbs rfl
  exact (setTbState_others.trans otherTbs_setTb).trans (h _ _)

/-- A time base in OFF. -/
structure TbOff (n : Nat) (s t : State) : Prop where
  state : t.tbState n = 0
  counter : (t.tb n).t = 0
  step : (t.tb n).step = none
  stepped : t.rb (Reg.TB_STATUS n) 3 = false
  others : OtherTbs n s t
  regs : Leaves (OffCtrl n) s t

theorem tbDisable_off : TbOff n s (s.tbDisable n) := by
  have hend : ∀ x : State, (x.tb n).t = 0 → (x.tb n).step = none → OtherTbs n s x → Leaves (OffCtrl n) s x →
      TbOff n s (((x.setRf (Reg.TB_STATUS n) 0 4 0).setRb (Reg.TB_CTRL n) 1 false).leapPendCheck n) := by
    intro x ht hs ho hl
    have htbs : (((x.setRf (Reg.TB_STATUS n) 0 4 0).setRb (Reg.TB_CTRL n) 1 false).leapPendCheck n).tbs = x.tbs :=
      (within_leapPendCheck _ _).tbs rfl
    have hst : ((x.setRf (Reg.TB_STATUS n) 0 4 0).setRb (Reg.TB_CTRL n) 1 false).reg (Reg.TB_STATUS n) =
        setFld (x.reg (Reg.TB_STATUS n)) 0 4 0 := (reg_setReg_ne tbStatus_ne_ctrl).trans reg_setReg_self
    refine ⟨?_, ?_, ?_, ?_, ho.trans (.of_tbs htbs), ?_⟩
    · rw [State.tbState, leapPendCheck_rf (by decide), State.rf, hst]
      apply Nat.eq_of_testBit_eq
      intro i
      rw [testBit_fld, bit_setFld (by decide)]
      rcases Nat.lt_or_ge i 3 with hi | hi
      · rw [if_pos (by omega)]
        simp
      · simp [Nat.not_lt.2 hi]
    · rw [tb_of_tbs htbs, ht]
    · rw [tb_of_tbs htbs, hs]
    · rw [leapPendCheck_rb (by decide), State.rb, hst, bit_setFld (by decide), if_pos (by decide)]
      simp
    · exact ((hl.trans (leaves_setRf not_offCtrl_status)).trans (leaves_setRb not_offCtrl_ctrl)).trans
        (leaves_leapPendCheck not_offCtrl_status)
  have hnote : Leaves (OffCtrl n) s (s.noteLock n (decide (s.tbState n = 3)) false) := (within_noteLock _ _ _ _).leaves
  unfold State.tbDisable
  dsimp only
  split
  · refine hend _ (congrArg TimeBase.t tb_setTb_self) (congrArg TimeBase.step tb_setTb_self) ?_ ?_
    · exact (noteLock_others _ _).trans (OtherTbs.trans (.of_tbs rfl) otherTbs_setTb)
    · exact hnote.trans (Leaves.trans (.of_regs rfl) leaves_setTb)
  · exact hend _ (congrArg TimeBase.t tb_setTb_self) (congrArg TimeBase.step tb_setTb_self) ((noteLock_others _ _).trans otherTbs_setTb)
      (hnote.trans leaves_setTb)

theorem tbCtrlHook_disable (h : bit v 0 = false) {old : Word} : s.tbCtrlHook n old v = s.tbDisable n := by
  unfold State.tbCtrlHook
  rw [h]
  rfl

/-! ### The step -/

/-- The step of time base `n`, before acquisition restarts. -/
def State.stepBase (s : State) (n : Nat) (q : StepReq) : State :=
  let v := stepValue q (s.tbAdvanced n)
  let s := ((s.bellStep n (v / tbSecUnit)).setTb n { s.tb n with t := v, step := none, triggered := false }).tbLock n
  let s := (s.setRb (Reg.TB_STATUS n) 3 true).setRb (Reg.TB_CTRL n) 1 false
  (s.flagRaise (Reg.TB_STATUS n) 8 6 n).leapPendCheck n

/-- Time base `n` after a step to `v`. -/
structure Stepped (n v : Nat) (t : State) : Prop where
  state : t.tbState n = 3
  counter : (t.tb n).t = v
  step : (t.tb n).step = none
  stepped : t.rb (Reg.TB_STATUS n) 3 = true
  flag : t.rb (Reg.TB_STATUS n) 8 = true
  event : t.event 6 = true

theorem Stepped.mono {w : Nat} {u : State} (h : Stepped n w t) (hr : u.reg (Reg.TB_STATUS n) = t.reg (Reg.TB_STATUS n))
    (ht : (u.tb n).t = (t.tb n).t ∧ (u.tb n).step = (t.tb n).step) (he : KeepsEvents t u) : Stepped n w u where
  state := (tbState_eq hr).trans h.state
  counter := ht.1.trans h.counter
  step := ht.2.trans h.step
  stepped := by rw [State.rb, hr]; exact h.stepped
  flag := by rw [State.rb, hr]; exact h.flag
  event := he 6 (by decide) h.event

theorem stepBase_stepped (hn : n < 4) : Stepped n (stepValue q (s.tbAdvanced n)) (s.stepBase n q) ∧ OtherTbs n s (s.stepBase n q) := by
  have hfin : ∀ x : State, x.tbState n = 3 → (x.tb n).t = stepValue q (s.tbAdvanced n) → (x.tb n).step = none → OtherTbs n s x →
      Stepped n (stepValue q (s.tbAdvanced n))
        ((((x.setRb (Reg.TB_STATUS n) 3 true).setRb (Reg.TB_CTRL n) 1 false).flagRaise (Reg.TB_STATUS n) 8 6 n).leapPendCheck n) ∧
      OtherTbs n s
        ((((x.setRb (Reg.TB_STATUS n) 3 true).setRb (Reg.TB_CTRL n) 1 false).flagRaise (Reg.TB_STATUS n) 8 6 n).leapPendCheck n) := by
    intro x hst ht hs ho
    have hreg : (((x.setRb (Reg.TB_STATUS n) 3 true).setRb (Reg.TB_CTRL n) 1 false).flagRaise (Reg.TB_STATUS n) 8 6 n).reg (Reg.TB_STATUS n) =
        setBit (setBit (x.reg (Reg.TB_STATUS n)) 3 true) 8 true := by
      rw [flagRaise_reg (by decide) (quiet_tbStatus hn), if_pos rfl, reg_setRb, if_neg tbStatus_ne_ctrl, reg_setRb, if_pos rfl]
    have htbs : ((((x.setRb (Reg.TB_STATUS n) 3 true).setRb (Reg.TB_CTRL n) 1 false).flagRaise (Reg.TB_STATUS n) 8 6 n).leapPendCheck n).tbs =
        x.tbs := ((within_leapPendCheck _ _).tbs rfl).trans ((within_flagRaise _ _ _ _ _).tbs rfl)
    have hev : Leaves (fun o => o / 0x10000 = 1) (((x.setRb (Reg.TB_STATUS n) 3 true).setRb (Reg.TB_CTRL n) 1 false).flagRaise
        (Reg.TB_STATUS n) 8 6 n) _ := leaves_leapPendCheck (n := n) (quiet_tbStatus hn).1
    refine ⟨⟨?_, ?_, ?_, ?_, ?_, ?_⟩, ho.trans (.of_tbs htbs)⟩
    · rw [State.tbState, leapPendCheck_rf (by decide), State.rf, hreg, fld_setBit_ne (by decide) (by decide),
        fld_setBit_ne (by decide) (by decide)]
      exact hst
    · rw [tb_of_tbs htbs, ht]
    · rw [tb_of_tbs htbs, hs]
    · rw [leapPendCheck_rb (by decide), State.rb, hreg, bit_setBit_ne (by decide) (by decide), bit_setBit (by decide)]
    · rw [leapPendCheck_rb (by decide), State.rb, hreg, bit_setBit (by decide)]
    · exact KeepsEvents.of_leaves hev 6 (by decide) (event_flagRaise (by decide))
  obtain ⟨la, ll, hl⟩ := tbLock_tb (n := n) (s := (s.bellStep n (stepValue q (s.tbAdvanced n) / tbSecUnit)).setTb n
    { s.tb n with t := stepValue q (s.tbAdvanced n), step := none, triggered := false })
  rw [tb_setTb_self] at hl
  exact hfin _ tbLock_state (by rw [hl]) (by rw [hl]) ((OtherTbs.trans (.of_tbs rfl) otherTbs_setTb).trans tbLock_others)

theorem setLockLog_stepped {w : Nat} {l : List (Stamp × Bool)} (h : Stepped n w t) : Stepped n w (t.setLockLog n l) := by
  have htb : (t.setLockLog n l).tb n = { t.tb n with lockLog := l } := tb_setTb_self
  exact h.mono rfl ⟨by rw [htb], by rw [htb]⟩ (keepsEvents_of_regs rfl)

theorem applyStep_stepped (hn : n < 4) : Stepped n (stepValue q (s.tbAdvanced n)) (s.applyStep n q) ∧ OtherTbs n s (s.applyStep n q) := by
  obtain ⟨hb, ho⟩ := stepBase_stepped (s := s) (q := q) hn
  have heq : s.applyStep n q = if (s.stepBase n q).acqTb = n
      then (((s.stepBase n q).setLockLog n (s.tb n).lockLog).acqRestart (s.tbNow n)).setLockLog n [(stepValue q (s.tbAdvanced n) / 2 ^ 19, true)]
      else (s.stepBase n q).setLockLog n [(stepValue q (s.tbAdvanced n) / 2 ^ 19, true)] := rfl
  rw [heq]
  split
  · have hx := setLockLog_stepped (l := (s.tb n).lockLog) hb
    have hr := upper_acqRestart ((s.stepBase n q).setLockLog n (s.tb n).lockLog) (s.tbNow n)
    have htbs : (((s.stepBase n q).setLockLog n (s.tb n).lockLog).acqRestart (s.tbNow n)).tbs =
        ((s.stepBase n q).setLockLog n (s.tb n).lockLog).tbs := (within_acqRestart _ _).tbs rfl
    have hout : Reg.TB_STATUS n < 0x120000 ∧ Reg.TB_STATUS n / 0x10000 ≠ 1 ∧ Reg.TB_STATUS n / 0x10000 ≠ 12 := by
      unfold Reg.TB_STATUS
      omega
    exact ⟨setLockLog_stepped (hx.mono (hr.regs _ hout) ⟨by rw [tb_of_tbs htbs], by rw [tb_of_tbs htbs]⟩ hr.events),
      ((ho.trans otherTbs_setTb).trans (.of_tbs htbs)).trans otherTbs_setTb⟩
  · exact ⟨setLockLog_stepped hb, ho.trans otherTbs_setTb⟩

/-! ### The period that applies it -/

/-- Two periods take a counter on by more than a nanosecond, whatever RATE is. -/
theorem signed_range (x : Nat) : -549755813888 ≤ signed 40 x ∧ signed 40 x < 549755813888 := by
  have hx : x % 1099511627776 < 1099511627776 := Nat.mod_lt _ (by decide)
  have h : signed 40 x = if x % 1099511627776 < 549755813888 then ((x % 1099511627776 : Nat) : Int) else
    ((x % 1099511627776 : Nat) : Int) - 1099511627776 := rfl
  rw [h]
  split <;> omega

theorem tbNsUnit_eq : tbNsUnit = 2251799813685248 := by decide
theorem tbMod_eq : tbMod = 633825300114114700748351602688000000000 := by decide

theorem tbIncrement_range : tbNsUnit < 2 * tbIncrement (s.tbRate n) ∧ tbIncrement (s.tbRate n) < tbNsUnit := by
  obtain ⟨h1, h2⟩ := signed_range ((s.reg (Reg.TB_RATE_HI n)).toNat % 256 * 2 ^ 32 + (s.reg (Reg.TB_RATE_LO n)).toNat)
  have h : ∀ r : Int, tbIncrement r = (5 * (281474976710656 + r)).toNat := fun _ => rfl
  rw [h, tbNsUnit_eq, State.tbRate]
  generalize signed 40 _ = r at *
  omega

/-- Where one period meets no nanosecond boundary, the next does. -/
theorem boundary_follows {a inc : Nat} (h1 : tbNsUnit < 2 * inc) (h2 : inc < tbNsUnit) (h : (a + inc) % tbMod / tbNsUnit = a / tbNsUnit) :
    ((a + inc) % tbMod + inc) % tbMod / tbNsUnit ≠ (a + inc) % tbMod / tbNsUnit := by
  rw [tbNsUnit_eq] at *
  rw [tbMod_eq] at *
  omega

/-- Every time base but `n` has no step armed. -/
def OthersUnarmed (n : Nat) (s : State) : Prop := ∀ m, m ≠ n → m < 4 → (s.tb m).step = none

theorem OthersUnarmed.of_others (h : OthersUnarmed n s) (ho : OtherTbs n s t) : OthersUnarmed n t := fun m hm h4 => by
  rw [ho m hm]
  exact h m hm h4

/-- Periods of the other time bases change nothing of the registers and of time base `n`. -/
theorem tbPeriods_others {l : List Nat} (hl : l.Nodup) (hn : n ∉ l) (h4 : ∀ m ∈ l, m < 4) (hs : OthersUnarmed n s) :
    (l.foldl State.tbPeriod s).regs = s.regs ∧ (l.foldl State.tbPeriod s).tb n = s.tb n ∧ OthersUnarmed n (l.foldl State.tbPeriod s) := by
  obtain ⟨hr, ht⟩ := tbPeriods_idle hl s fun m hm => hs m (fun c => hn (c ▸ hm)) (h4 m hm)
  refine ⟨hr, (ht n).trans (if_neg hn), fun m hm hm4 => ?_⟩
  rw [ht m]
  split
  · unfold State.tbNext
    split <;> exact hs m hm hm4
  · exact hs m hm hm4

theorem tbPeriods_after_setTb {l : List Nat} {x : TimeBase} (hl : l.Nodup) (hn : n ∉ l) (h4 : ∀ m ∈ l, m < 4) (hs : OthersUnarmed n s) :
    (l.foldl State.tbPeriod (s.setTb n x)).regs = s.regs ∧ (l.foldl State.tbPeriod (s.setTb n x)).tb n = x ∧
      OthersUnarmed n (l.foldl State.tbPeriod (s.setTb n x)) := by
  obtain ⟨hr, ht, ho⟩ := tbPeriods_others hl hn h4 (hs.of_others (t := s.setTb n x) otherTbs_setTb)
  exact ⟨hr, ht.trans tb_setTb_self, ho⟩

theorem tbAdvanced_congr (hr : t.regs = s.regs) (ht : t.tb n = s.tb n) : t.tbAdvanced n = s.tbAdvanced n := by
  have hrate : t.tbRate n = s.tbRate n := by unfold State.tbRate State.reg; rw [hr]
  rw [State.tbAdvanced, ht, hrate]
  rfl

/-- An armed and triggered step waits on time base `n`. -/
structure Waits (n : Nat) (q : StepReq) (s : State) : Prop where
  state : s.tbState n = 2
  step : (s.tb n).step = some q
  triggered : (s.tb n).triggered = true
  others : OthersUnarmed n s

theorem tbPeriod_waits (h : Waits n q s) :
    s.tbPeriod n = if s.nsBoundary n then s.applyStep n q else s.setTb n { s.tb n with t := s.tbAdvanced n } := by
  unfold State.tbPeriod
  rw [h.state, h.step, h.triggered, if_neg (by decide)]
  dsimp only
  rw [Bool.true_and]

theorem periods_split (k : Fin 4) : ∃ l1 l2, [0, 1, 2, 3] = l1 ++ k.val :: l2 ∧ (l1.Nodup ∧ k.val ∉ l1 ∧ ∀ m ∈ l1, m < 4) ∧
    l2.Nodup ∧ k.val ∉ l2 ∧ ∀ m ∈ l2, m < 4 := by
  refine ⟨List.range k, (List.range 4).drop (k + 1), ?_⟩
  revert k
  decide

/-- The clock period in which a waiting step meets its boundary, and one in which it does not. -/
theorem clockPeriod_waits {k : Fin 4} (h : Waits k q s) :
    (s.nsBoundary k = true → Stepped k (stepValue q (s.tbAdvanced k)) s.clockPeriod) ∧
    (s.nsBoundary k = false → Waits k q s.clockPeriod ∧ s.clockPeriod.regs = s.regs ∧
      s.clockPeriod.tb k = { s.tb k with t := s.tbAdvanced k }) := by
  obtain ⟨l1, l2, hl, ⟨hd1, hn1, h41⟩, hd2, hn2, h42⟩ := periods_split k
  obtain ⟨hr0, ht0⟩ := tick_regs (s := s)
  obtain ⟨hr1, ht1, ho1⟩ := tbPeriods_others hd1 hn1 h41 (h.others.of_others (t := s.tick) (.of_tbs ht0))
  have hclock : s.clockPeriod = l2.foldl State.tbPeriod ((l1.foldl State.tbPeriod s.tick).tbPeriod k) := by
    rw [clockPeriod_eq, hl, List.foldl_append, List.foldl_cons]
  generalize l1.foldl State.tbPeriod s.tick = a at *
  have hr : a.regs = s.regs := hr1.trans hr0
  have ht : a.tb k = s.tb k := ht1.trans (tb_of_tbs ht0)
  have hadv := tbAdvanced_congr hr ht
  have hns : a.nsBoundary k = s.nsBoundary k := by unfold State.nsBoundary; rw [hadv, ht]
  have hst : ∀ x : State, x.regs = s.regs → x.tbState k = 2 := fun x hx => (tbState_eq (reg_of_regs hx)).trans h.state
  have hw : Waits k q a := ⟨hst a hr, (congrArg TimeBase.step ht).trans h.step, (congrArg TimeBase.triggered ht).trans h.triggered, ho1⟩
  rw [hclock, tbPeriod_waits hw, hns]
  refine ⟨fun hb => ?_, fun hb => ?_⟩
  · rw [if_pos hb, ← hadv]
    obtain ⟨hs, ho⟩ := applyStep_stepped (s := a) (q := q) k.isLt
    obtain ⟨hr2, ht2, -⟩ := tbPeriods_others hd2 hn2 h42 (ho1.of_others ho)
    exact hs.mono (reg_of_regs hr2) ⟨congrArg TimeBase.t ht2, congrArg TimeBase.step ht2⟩ (keepsEvents_of_regs hr2)
  · rw [if_neg (Bool.eq_false_iff.1 hb), hadv, ht]
    obtain ⟨hr2, ht2, ho2⟩ := tbPeriods_after_setTb (x := { s.tb k with t := s.tbAdvanced k }) hd2 hn2 h42 ho1
    exact ⟨⟨hst _ (hr2.trans hr), (congrArg TimeBase.step ht2).trans h.step, (congrArg TimeBase.triggered ht2).trans h.triggered, ho2⟩,
      hr2.trans hr, ht2⟩

/-- STEP_APPLY of a waiting step ends with it applied, one period on or two. -/
theorem stepApply_stepped {k : Fin 4} (h : Waits k q s) : Stepped k (stepValue q (if s.nsBoundary k then s.tbAdvanced k
    else (s.tbAdvanced k + tbIncrement (s.tbRate k)) % tbMod)) (s.stepApply k) := by
  obtain ⟨hyes, hno⟩ := clockPeriod_waits h
  unfold State.stepApply
  rw [h.state, h.triggered]
  cases hb : s.nsBoundary k
  · obtain ⟨hw, hr, ht⟩ := hno hb
    have hrate : s.clockPeriod.tbRate k = s.tbRate k := by unfold State.tbRate State.reg; rw [hr]
    have hadv : s.clockPeriod.tbAdvanced k = (s.tbAdvanced k + tbIncrement (s.tbRate k)) % tbMod := by rw [State.tbAdvanced, ht, hrate]
    have hb2 : s.clockPeriod.nsBoundary k = true := by
      rw [State.nsBoundary, decide_eq_true_eq, hadv, ht]
      simp only [State.nsBoundary, decide_eq_false_iff_not, ne_eq, Decidable.not_not] at hb
      exact boundary_follows tbIncrement_range.1 tbIncrement_range.2 hb
    have hx := (clockPeriod_waits hw).1 hb2
    simpa [hw.state, hadv] using hx
  · have hx := hyes hb
    simpa [hx.state] using hx

/-! ### The writes -/

/-- The registers after the plain fields of TBn_CTRL, but that one. -/
theorem leaves_ctrlFields {w : Word} : Leaves (OffCtrl n) s (s.setReg (Reg.TB_CTRL n) w) := leaves_setReg not_offCtrl_ctrl

theorem ctrlFields_state {w : Word} : (s.setReg (Reg.TB_CTRL n) w).tbState n = s.tbState n := tbState_eq (reg_setReg_ne tbStatus_ne_ctrl)

theorem leaves_tbCtrlRest {P : Nat → Prop} {old : Word} : Leaves P s (s.tbCtrlRest n old v) := .of_regs tbCtrlRest_regs

theorem tbCtrlRest_state {m : Nat} {old : Word} : (s.tbCtrlRest n old v).tbState m = s.tbState m := tbState_eq (reg_of_regs tbCtrlRest_regs)

theorem tbArm_tb : ∃ la ll, (s.tbArm n).tb n = { s.tb n with
    leftAt := la, lockLog := ll, triggered := !s.rb (Reg.TB_CTRL n) 3
    step := some { set := s.rb (Reg.TB_CTRL n) 2, onPps := s.rb (Reg.TB_CTRL n) 3
                   sec := s.rf (Reg.TB_STEP_SEC_HI n) 0 16 * 2 ^ 32 + (s.reg (Reg.TB_STEP_SEC_LO n)).toNat
                   ns := s.rf (Reg.TB_STEP_NS n) 0 30 } } := by
  obtain ⟨la, ll, h⟩ := setTbState_tb (s := s) (n := n) (st := 2)
  have hset : ∀ (x : State) (b : TimeBase) (o i : Nat) (v : Bool), ((x.setTb n b).setRb o i v).tb n = b := fun _ _ _ _ _ => tb_setTb_self
  refine ⟨la, ll, ?_⟩
  unfold State.tbArm
  dsimp only
  rw [hset, h]

/-- Settles O18: each write of TBn_CTRL does one thing, and a step meets its boundary within two periods. -/
theorem timeBaseEnableDisableAndStep : Obligations.TimeBaseEnableDisableAndStep := by
  unfold Obligations.TimeBaseEnableDisableAndStep
  refine ⟨fun s n v h => ⟨fun h0 hs => ?_, fun h0 => ?_⟩, fun s n => ⟨fun v h h0 h1 hs => ?_, fun q adv hs hq ht ho hadv => ?_, fun h => ?_⟩⟩
  · have h1 : bit v 1 = false := tbCtrl_stepGo h (by omega)
    obtain ⟨w, p, htb, -⟩ := tbCtrlRest_tb (s := (s.setReg (Reg.TB_CTRL n) (merge 0x1CD v (s.reg (Reg.TB_CTRL n)))).tbEnable n) (n := n)
      (old := s.reg (Reg.TB_CTRL n)) (v := v)
    refine ⟨_, congrArg Host.Outcome.next ((poke_tbCtrl h).trans (tbCtrlHook_enable h0 h1 (ctrlFields_state.trans hs))), ?_, ?_,
      fun m hm => ?_, ?_⟩
    · exact tbCtrlRest_state.trans tbEnable_state
    · rw [htb]
      exact tbEnable_tb
    · exact ((OtherTbs.of_tbs rfl).trans (tbEnable_others.trans tbCtrlRest_others)) m fun c => hm (Fin.ext c)
    · exact (leaves_ctrlFields.trans leaves_tbEnable).trans leaves_tbCtrlRest
  · have hd := tbDisable_off (n := n) (s := s.setReg (Reg.TB_CTRL n) (merge 0x1CD v (s.reg (Reg.TB_CTRL n))))
    exact ⟨_, congrArg Host.Outcome.next ((poke_tbCtrl h).trans (tbCtrlHook_disable h0)), hd.state, hd.counter, hd.step, hd.stepped,
      fun m hm => hd.others m fun c => hm (Fin.ext c), leaves_ctrlFields.trans hd.regs⟩
  · obtain ⟨w, p, htb, -⟩ := tbCtrlRest_tb (s := (s.setReg (Reg.TB_CTRL n) (merge 0x1CD v (s.reg (Reg.TB_CTRL n)))).tbArm n) (n := n)
      (old := s.reg (Reg.TB_CTRL n)) (v := v)
    obtain ⟨la, ll, harm⟩ := tbArm_tb (s := s.setReg (Reg.TB_CTRL n) (merge 0x1CD v (s.reg (Reg.TB_CTRL n)))) (n := n)
    have hbit : ∀ i, bit 0x1CD i = true → (s.setReg (Reg.TB_CTRL n) (merge 0x1CD v (s.reg (Reg.TB_CTRL n)))).rb (Reg.TB_CTRL n) i = bit v i :=
      fun i hi => by rw [State.rb, reg_setReg_self, bit_merge, if_pos hi]
    have hstep : ∀ o, o ≠ Reg.TB_CTRL n → (s.setReg (Reg.TB_CTRL n) (merge 0x1CD v (s.reg (Reg.TB_CTRL n)))).reg o = s.reg o :=
      fun o ho => reg_setReg_ne ho
    have hhi : Reg.TB_STEP_SEC_HI n ≠ Reg.TB_CTRL n := by unfold Reg.TB_STEP_SEC_HI Reg.TB_CTRL; omega
    have hlo : Reg.TB_STEP_SEC_LO n ≠ Reg.TB_CTRL n := by unfold Reg.TB_STEP_SEC_LO Reg.TB_CTRL; omega
    have hns : Reg.TB_STEP_NS n ≠ Reg.TB_CTRL n := by unfold Reg.TB_STEP_NS Reg.TB_CTRL; omega
    rw [hbit 2 (by decide), hbit 3 (by decide), State.rf, State.rf, hstep _ hhi, hstep _ hlo, hstep _ hns] at harm
    refine ⟨_, congrArg Host.Outcome.next ((poke_tbCtrl h).trans (tbCtrlHook_arm h0 h1 (ctrlFields_state.trans hs))), ?_, ?_, ?_⟩
    · exact tbCtrlRest_state.trans tbArm_state
    · rw [htb, harm]
      rfl
    · rw [htb, harm]
  · have hx := stepApply_stepped (k := n) ⟨hs, hq, ht, fun m hm h4 => ho ⟨m, h4⟩ fun c => hm (congrArg Fin.val c)⟩
    rw [← hadv] at hx
    exact ⟨_, rfl, hx.state, hx.counter, hx.step, hx.stepped, hx.flag, hx.event⟩
  · refine congrArg Host.Outcome.next ?_
    unfold State.stepApply
    rw [if_neg (by simp; tauto)]

end Sys2Proof.Machine

/-! Holdover, release, the watchdog, the PLL and RATE commits (R87-R90, R106). -/

namespace Sys2Proof.Machine

-- One declaration after another: side by side, their threads' stacks pass the memory limit of a check.
set_option Elab.async false

variable {s t : State} {n : Nat} {v : Word}

theorem fld_merge {m v w : Word} {lo k : Nat} (h : ∀ i < k, bit m (lo + i) = true) : fld (merge m v w) lo k = fld v lo k := by
  apply Nat.eq_of_testBit_eq
  intro i
  rw [testBit_fld, testBit_fld, bit_merge]
  rcases Nat.lt_or_ge i k with hi | hi
  · rw [h i hi]
    rfl
  · simp [Nat.not_lt.2 hi]

/-! ### The registers of RATE -/

/-- Quiet registers but the status register of a time base. -/
abbrev OffStatus (n o : Nat) : Prop := Quiet o ∧ o ≠ Reg.TB_STATUS n

theorem tbRate_eq (hlo : t.reg (Reg.TB_RATE_LO n) = s.reg (Reg.TB_RATE_LO n)) (hhi : t.reg (Reg.TB_RATE_HI n) = s.reg (Reg.TB_RATE_HI n)) :
    t.tbRate n = s.tbRate n := by
  unfold State.tbRate
  rw [hlo, hhi]

theorem Leaves.tbRate {P : Nat → Prop} (h : Leaves P s t) (hlo : P (Reg.TB_RATE_LO n)) (hhi : P (Reg.TB_RATE_HI n)) : t.tbRate n = s.tbRate n :=
  tbRate_eq (h _ hlo) (h _ hhi)

theorem quiet_rate (hn : n < 4) : Quiet (Reg.TB_RATE_LO n) ∧ Quiet (Reg.TB_RATE_HI n) := ⟨quiet_tb hn (d := 0x18) (by decide),
  quiet_tb hn (d := 0x1C) (by decide)⟩

theorem rate_ne {m : Nat} (hn : n < 4) (hm : m < 4) : (Reg.TB_RATE_LO n ≠ Reg.TB_STATUS m ∧ Reg.TB_RATE_LO n ≠ Reg.TB_CTRL m) ∧
    Reg.TB_RATE_HI n ≠ Reg.TB_STATUS m ∧ Reg.TB_RATE_HI n ≠ Reg.TB_CTRL m := by
  unfold Reg.TB_RATE_LO Reg.TB_RATE_HI Reg.TB_STATUS Reg.TB_CTRL
  omega

/-! ### Holdover -/

/-- Time base `n` has gone to HOLDOVER. -/
structure HeldOver (n : Nat) (s t : State) : Prop where
  state : t.tbState n = 4
  flag : t.rb (Reg.TB_STATUS n) 9 = true
  event : t.event 7 = true
  others : OtherTbs n s t
  regs : Leaves (OffStatus n) s t

theorem tbHoldover_held (hn : n < 4) : HeldOver n s (s.tbHoldover n) :=
  ⟨tbHoldover_state hn, tbHoldover_flag hn, tbHoldover_event, tbHoldover_others, leaves_tbHoldover (fun _ h => h.1) fun h => h.2 rfl⟩

theorem HeldOver.rate (h : HeldOver n s t) (hn : n < 4) : t.tbRate n = s.tbRate n :=
  h.regs.tbRate ⟨(quiet_rate hn).1, (rate_ne hn hn).1.1⟩ ⟨(quiet_rate hn).2, (rate_ne hn hn).2.1⟩

/-! ### The PLL -/

theorem tbPllLoss_others {m : Nat} (hm : m < 4) (hne : m ≠ n) (hn : n < 4) : (s.tbPllLoss n).reg (Reg.TB_STATUS m) = s.reg (Reg.TB_STATUS m) := by
  unfold State.tbPllLoss
  split
  · exact (tbHoldover_held hn).regs _ ⟨quiet_tbStatus hm, by unfold Reg.TB_STATUS; omega⟩
  · rfl

theorem leaves_tbPllLoss {P : Nat → Prop} (hP : ∀ o, P o → Quiet o) (h : ¬ P (Reg.TB_STATUS n)) : Leaves P s (s.tbPllLoss n) := by
  unfold State.tbPllLoss
  split
  · exact leaves_tbHoldover hP h
  · exact .refl s

theorem keepsEvents_tbPllLoss (hn : n < 4) : KeepsEvents s (s.tbPllLoss n) := by
  unfold State.tbPllLoss
  split
  · exact (KeepsEvents.of_leaves (leaves_setTbState (quiet_tbStatus hn).1)).trans (keepsEvents_flagRaise (quiet_tbStatus hn).1 (by decide))
  · exact .refl s

/-- Where the time base was LOCKED it is in HOLDOVER with its flag and event. -/
theorem tbPllLoss_self (hn : n < 4) : (s.tbPllLoss n).tbState n = (if s.tbState n = 3 then 4 else s.tbState n) ∧
    (s.tbState n = 3 → (s.tbPllLoss n).rb (Reg.TB_STATUS n) 9 = true ∧ (s.tbPllLoss n).event 7 = true) := by
  have h := tbHoldover_held (s := s) hn
  unfold State.tbPllLoss
  by_cases hs : s.tbState n = 3
  · simp only [hs, if_true]
    exact ⟨h.state, fun _ => ⟨h.flag, h.event⟩⟩
  · simp only [hs, if_false]
    exact ⟨trivial, fun c => absurd c id⟩

/-- The time bases leave LOCKED one after another, each for itself. -/
theorem tbPllLosses {l : List Nat} : l.Nodup → (∀ m ∈ l, m < 4) → ∀ s : State, n < 4 →
    KeepsEvents s (l.foldl State.tbPllLoss s) ∧
    (n ∉ l → (l.foldl State.tbPllLoss s).reg (Reg.TB_STATUS n) = s.reg (Reg.TB_STATUS n)) ∧
    (n ∈ l → (l.foldl State.tbPllLoss s).tbState n = (if s.tbState n = 3 then 4 else s.tbState n) ∧
      (s.tbState n = 3 → (l.foldl State.tbPllLoss s).rb (Reg.TB_STATUS n) 9 = true ∧ (l.foldl State.tbPllLoss s).event 7 = true)) := by
  induction l with
  | nil => exact fun _ _ s _ => ⟨.refl s, fun _ => rfl, fun h => absurd h List.not_mem_nil⟩
  | cons k l ih =>
    intro hd h4 s hn
    obtain ⟨hk, hd⟩ := List.nodup_cons.1 hd
    have hk4 := h4 k List.mem_cons_self
    obtain ⟨he, hout, hin⟩ := ih hd (fun m hm => h4 m (List.mem_cons_of_mem _ hm)) (s.tbPllLoss k) hn
    refine ⟨(keepsEvents_tbPllLoss hk4).trans he, fun hnl => ?_, fun hnl => ?_⟩
    · obtain ⟨hne, hnl⟩ := not_or.1 fun c => hnl (List.mem_cons.2 c)
      exact (hout hnl).trans (tbPllLoss_others hn hne hk4)
    · rcases List.mem_cons.1 hnl with rfl | hnl
      · obtain ⟨h1, h2⟩ := tbPllLoss_self (s := s) hn
        exact ⟨(tbState_eq (hout hk)).trans h1, fun h3 => ⟨by rw [List.foldl_cons, State.rb, hout hk]; exact (h2 h3).1, he 7 (by decide) (h2 h3).2⟩⟩
      · have hne : n ≠ k := fun c => hk (c ▸ hnl)
        have hst : (s.tbPllLoss k).tbState n = s.tbState n := tbState_eq (tbPllLoss_others hn hne hk4)
        rw [hst] at hin
        exact hin hnl

/-- Quiet registers but the status registers of the time bases and TB_PLL. -/
abbrev OffPll (o : Nat) : Prop := Quiet o ∧ o ∉ (List.range 4).map Reg.TB_STATUS ++ [Reg.TB_PLL]

/-! ### A write of RATE -/

theorem tbRateHiRow (k : Fin 4) :
    regRow (Reg.TB_RATE_HI k) = some ⟨0x5101C, 0x100, 4, 0x4, 1, 0x0, 0xFF, 0x0, 0x0, 0x0, .high, none⟩ := by
  revert k
  decide

theorem tbRateLoRow (k : Fin 4) :
    regRow (Reg.TB_RATE_HI k - 4) = some ⟨0x51018, 0x100, 4, 0x4, 1, 0x0, 0xFFFFFFFF, 0x0, 0x0, 0x0, .low, none⟩ := by
  revert k
  decide

theorem viewOf_rateHi (k : Fin 4) : viewOf (Reg.TB_RATE_HI k) = 0 := by
  revert k
  decide

theorem tbHook_rate {k : Fin 4} {old : Word} : s.tbHook (Reg.TB_RATE_HI k) old v = s.tbRateHook k := by
  have h1 : 0x51000 ≤ Reg.TB_RATE_HI k ∧ Reg.TB_RATE_HI k < 0x51400 := by unfold Reg.TB_RATE_HI; omega
  have h2 : (Reg.TB_RATE_HI k - 0x51000) / 0x100 = k := by unfold Reg.TB_RATE_HI; omega
  have h3 : Reg.TB_RATE_HI k % 0x100 = 0x1C := by unfold Reg.TB_RATE_HI; omega
  unfold State.tbHook
  simp [h1, h2, h3]

theorem poke_rate {k : Fin 4} (h : s.Accepts (Reg.TB_RATE_HI k) v) : s.poke (Reg.TB_RATE_HI k) v {} =
    ((s.setReg (Reg.TB_RATE_LO k) (s.stageOf (Reg.TB_RATE_LO k))).setReg (Reg.TB_RATE_HI k)
      (merge 0xFF v (s.reg (Reg.TB_RATE_HI k)))).tbRateHook k := by
  have hu : Reg.TB_RATE_HI k / 0x10000 = 5 := by unfold Reg.TB_RATE_HI; omega
  have hlo : Reg.TB_RATE_HI k - 4 = Reg.TB_RATE_LO k := by unfold Reg.TB_RATE_HI Reg.TB_RATE_LO; omega
  rw [poke_high h.1 h.2 (viewOf_rateHi k) (tbRateHiRow k) rfl (tbRateLoRow k), unitHook_tb hu, tbHook_rate, hlo, merge_ones]

/-- What a RATE commit does beside the pair: the watchdog restarts, and HOLDOVER ends. -/
theorem tbRateHook_spec : (s.tbRateHook n).tbState n = (if s.tbState n = 4 then 3 else s.tbState n) ∧
    ((s.tbRateHook n).tb n).wdogStart = s.now ∧ OtherTbs n s (s.tbRateHook n) ∧ Leaves (fun o => o ≠ Reg.TB_STATUS n) s (s.tbRateHook n) := by
  have hst : (s.setTb n { s.tb n with wdogStart := s.now }).tbState n = s.tbState n := tbState_eq rfl
  have hl : Leaves (fun o => o ≠ Reg.TB_STATUS n) s (s.setTb n { s.tb n with wdogStart := s.now }) := leaves_setTb
  unfold State.tbRateHook
  dsimp only
  rw [hst]
  split
  · obtain ⟨la, ll, htb⟩ := tbLock_tb (s := s.setTb n { s.tb n with wdogStart := s.now }) (n := n)
    exact ⟨tbLock_state, congrArg TimeBase.wdogStart htb, otherTbs_setTb.trans tbLock_others, hl.trans (leaves_tbLock fun h => h rfl)⟩
  · exact ⟨hst, congrArg TimeBase.wdogStart tb_setTb_self, otherTbs_setTb, hl⟩

theorem tbRelease_spec : (s.tbRelease n).tbState n = 3 ∧ ((s.tbRelease n).tb n).mpdInit = false ∧ ((s.tbRelease n).tb n).mpdRun = 0 ∧
    ((s.tbRelease n).tb n).wdogStart = s.now ∧ (s.tbRelease n).now = s.now ∧ OtherTbs n s (s.tbRelease n) ∧
    Leaves (OffCtrl n) s (s.tbRelease n) := by
  obtain ⟨la, ll, htb⟩ := tbLock_tb (s := s.setTb n { s.tb n with mpdInit := false, mpdRun := 0, mpdSum := 0 }) (n := n)
  rw [tb_setTb_self] at htb
  exact ⟨tbLock_state, congrArg TimeBase.mpdInit htb, congrArg TimeBase.mpdRun htb, congrArg TimeBase.wdogStart htb,
    (within_tbRelease s n).now rfl, otherTbs_setTb.trans tbLock_others, leaves_setTb.trans (leaves_tbLock not_offCtrl_status)⟩

theorem pllLoss_eq (h : s.rb Reg.TB_PLL 8 = true) :
    s.pllLoss = [0, 1, 2, 3].foldl State.tbPllLoss ((s.setRb Reg.TB_PLL 8 false).setRb Reg.TB_PLL 9 true) := by
  have hf : ∀ x : State, (((x.tbPllLoss 0).tbPllLoss 1).tbPllLoss 2).tbPllLoss 3 = [0, 1, 2, 3].foldl State.tbPllLoss x := fun _ => rfl
  unfold State.pllLoss
  rw [if_pos h]
  exact hf _

/-- Settles O19: each change of state by the lemma of its operation, the PLL's loss time base by time base. -/
theorem holdoverAndRelease : Obligations.HoldoverAndRelease := by
  unfold Obligations.HoldoverAndRelease
  intro s n
  have hrate := rate_ne n.isLt n.isLt
  refine ⟨fun v h h0 h4 hs => ?_, fun v h h0 h5 hs => ?_, fun hs h6 hw => ?_, fun hw => ?_, fun hp => ?_, fun hp => ?_, ?_, fun v h => ?_⟩
  · have h1 : bit v 1 = false := tbCtrl_stepGo h (by omega)
    have hh := tbHoldover_held (s := s.setReg (Reg.TB_CTRL n) (merge 0x1CD v (s.reg (Reg.TB_CTRL n)))) n.isLt
    have hl : Leaves (fun o => Quiet o ∧ o ∉ [Reg.TB_CTRL n, Reg.TB_STATUS n]) s (s.poke (Reg.TB_CTRL n) v {}) := by
      rw [poke_tbCtrl h, tbCtrlHook_hold h0 n.isLt h1 h4 (ctrlFields_state.trans hs)]
      exact ((leaves_setReg (by simp)).trans (hh.regs.mono fun o ho => ⟨ho.1, fun c => ho.2 (by simp [c])⟩)).trans leaves_tbCtrlRest
    refine ⟨_, rfl, ?_, ?_, ?_, hl.tbRate ⟨(quiet_rate n.isLt).1, by simp [hrate]⟩ ⟨(quiet_rate n.isLt).2, by simp [hrate]⟩, fun m hm => ?_,
      regsKept_iff.2 hl⟩
    all_goals rw [poke_tbCtrl h, tbCtrlHook_hold h0 n.isLt h1 h4 (ctrlFields_state.trans hs)]
    · exact tbCtrlRest_state.trans hh.state
    · rw [State.rb, reg_of_regs tbCtrlRest_regs]
      exact hh.flag
    · exact keepsEvents_of_regs tbCtrlRest_regs 7 (by decide) hh.event
    · exact ((OtherTbs.of_tbs rfl).trans (hh.others.trans tbCtrlRest_others)) m fun c => hm (Fin.ext c)
  · have h1 : bit v 1 = false := tbCtrl_stepGo h (by omega)
    obtain ⟨hst, hi, hr, hw, hnow, ho, hl⟩ := tbRelease_spec (s := s.setReg (Reg.TB_CTRL n) (merge 0x1CD v (s.reg (Reg.TB_CTRL n)))) (n := n)
    obtain ⟨w, p, htb, hor⟩ := tbCtrlRest_tb (n := n) (old := s.reg (Reg.TB_CTRL n)) (v := v)
      (s := (s.setReg (Reg.TB_CTRL n) (merge 0x1CD v (s.reg (Reg.TB_CTRL n)))).tbRelease n)
    refine ⟨_, congrArg Host.Outcome.next ((poke_tbCtrl h).trans (tbCtrlHook_release h0 h1 h5 (ctrlFields_state.trans hs))),
      tbCtrlRest_state.trans hst, ?_, ?_, ?_, fun m hm => ((OtherTbs.of_tbs rfl).trans (ho.trans tbCtrlRest_others)) m fun c => hm (Fin.ext c),
      (leaves_ctrlFields.trans hl).trans leaves_tbCtrlRest⟩
    all_goals rw [htb]
    · exact hi
    · exact hr
    · exact hor.elim (fun h => h.trans hnow) fun h => h.trans hw
  · have hh := tbHoldover_held (s := s) n.isLt
    refine ⟨s.tbHoldover n, congrArg Host.Outcome.next ?_, hh.state, hh.flag, hh.event, hh.rate n.isLt, regsKept_iff.2 (hh.regs.mono fun o ho => ⟨ho.1, by simpa using ho.2⟩)⟩
    unfold State.tbWatchdog
    simp [hs, h6, hw]
  · refine congrArg Host.Outcome.next ?_
    unfold State.tbWatchdog
    rcases hw with hw | hw | hw
    · simp [hw]
    · simp [hw]
    · simp [Nat.not_le.2 hw]
  · have hnd : [0, 1, 2, 3].Nodup := by decide
    have h4 : ∀ m ∈ [0, 1, 2, 3], m < 4 := by decide
    have hne : ∀ m : Fin 4, Reg.TB_STATUS m ≠ Reg.TB_PLL := fun m => by unfold Reg.TB_STATUS Reg.TB_PLL; omega
    have hset : ∀ m : Fin 4, ((s.setRb Reg.TB_PLL 8 false).setRb Reg.TB_PLL 9 true).tbState m = s.tbState m := fun m =>
      tbState_eq ((reg_setReg_ne (hne m)).trans (reg_setReg_ne (hne m)))
    have hpll : ∀ i, s.pllLoss.rb Reg.TB_PLL i = ((s.setRb Reg.TB_PLL 8 false).setRb Reg.TB_PLL 9 true).rb Reg.TB_PLL i := fun i => by
      rw [pllLoss_eq hp]
      refine Leaves.rb (P := fun o => o = Reg.TB_PLL) (Leaves.foldl (fun t m hm => ?_) _) rfl i
      exact leaves_tbPllLoss (fun o ho => by rw [ho]; decide) fun c => hne ⟨m, h4 m hm⟩ c
    have hl : Leaves OffPll s s.pllLoss := by
      rw [pllLoss_eq hp]
      refine ((leaves_setRb (by simp)).trans (leaves_setRb (by simp))).trans (Leaves.foldl (fun t m hm => ?_) _)
      refine leaves_tbPllLoss (fun _ h => h.1) fun c => c.2 (List.mem_append_left _ (List.mem_map.2 ⟨m, List.mem_range.2 (h4 m hm), rfl⟩))
    refine ⟨_, rfl, ?_, ?_, fun m => ?_, fun hs => ?_, ?_, regsKept_iff.2 hl⟩
    · rw [hpll, State.rb, reg_setRb, if_pos rfl, bit_setBit_ne (by decide) (by decide)]
      exact rb_setRb_self (by decide)
    · rw [hpll]
      exact rb_setRb_self (by decide)
    · have hm : m.val ∈ [0, 1, 2, 3] := by revert m; decide
      rw [pllLoss_eq hp, ← hset m]
      exact ((tbPllLosses hnd h4 _ m.isLt).2.2 hm).1
    · have hm : n.val ∈ [0, 1, 2, 3] := by clear * - ; revert n; decide
      rw [pllLoss_eq hp]
      exact ((tbPllLosses hnd h4 _ n.isLt).2.2 hm).2 ((hset n).trans hs)
    · have hoff : ∀ o, Quiet o → o ≠ Reg.TB_PLL → (∀ m : Fin 4, o ≠ Reg.TB_STATUS m) → OffPll o := fun o hq h1 h2 => ⟨hq, by
        intro c
        rcases List.mem_append.1 c with c | c
        · obtain ⟨m, hm, rfl⟩ := List.mem_map.1 c
          exact h2 ⟨m, List.mem_range.1 hm⟩ rfl
        · exact h1 (List.mem_singleton.1 c)⟩
      refine hl.tbRate (hoff _ (quiet_rate n.isLt).1 ?_ fun m => (rate_ne n.isLt m.isLt).1.1)
        (hoff _ (quiet_rate n.isLt).2 ?_ fun m => (rate_ne n.isLt m.isLt).2.1)
      all_goals unfold Reg.TB_PLL
      · unfold Reg.TB_RATE_LO; omega
      · unfold Reg.TB_RATE_HI; omega
  · refine congrArg Host.Outcome.next ?_
    unfold State.pllLoss
    rw [hp]
    rfl
  · exact ⟨_, rfl, rb_setRb_self (by decide), leaves_setRb (by simp), rfl⟩
  · have hlo : Reg.TB_RATE_LO n ≠ Reg.TB_RATE_HI n := by unfold Reg.TB_RATE_LO Reg.TB_RATE_HI; omega
    have hx : ((s.setReg (Reg.TB_RATE_LO n) (s.stageOf (Reg.TB_RATE_LO n))).setReg (Reg.TB_RATE_HI n)
        (merge 0xFF v (s.reg (Reg.TB_RATE_HI n)))).tbState n = s.tbState n :=
      tbState_eq ((reg_setReg_ne hrate.2.1.symm).trans (reg_setReg_ne hrate.1.1.symm))
    obtain ⟨hst, hw, ho, hl⟩ := tbRateHook_spec (n := n) (s := (s.setReg (Reg.TB_RATE_LO n) (s.stageOf (Reg.TB_RATE_LO n))).setReg
      (Reg.TB_RATE_HI n) (merge 0xFF v (s.reg (Reg.TB_RATE_HI n))))
    rw [hx] at hst
    refine ⟨_, congrArg Host.Outcome.next (poke_rate h), ?_, ?_, hw, hst, fun m hm => ((OtherTbs.of_tbs rfl).trans ho) m fun c => hm (Fin.ext c), ?_⟩
    · rw [hl _ hrate.1.1, reg_setReg_ne hlo, reg_setReg_self]
    · rw [hl.rf hrate.2.1, State.rf, reg_setReg_self]
      exact fld_merge (by decide)
    · exact ((leaves_setReg (by simp)).trans (leaves_setReg (by simp))).trans (hl.mono fun o ho c => ho (by simp [c]))

end Sys2Proof.Machine

/-! Path-delay supervision (R103). -/

namespace Sys2Proof.Machine

-- One declaration after another: side by side, their threads' stacks pass the memory limit of a check.
set_option Elab.async false

variable {s t : State} {n : Nat} {v : Word}

/-- A quotient is the integer below or the one above, and the first where it is whole. -/
theorem divFree_spec (s : State) (a : Int) (k : Nat) : ∃ d : Int, (s.divFree a k).1 = a / (k : Int) + d ∧ (d = 0 ∨ d = 1) ∧
    (a % (k : Int) = 0 → d = 0) ∧ (s.divFree a k).2.regs = s.regs ∧ (s.divFree a k).2.tbs = s.tbs := by
  have hw := within_divFree s a k
  have hb : (s.draw 1).1 < 2 := Nat.mod_lt _ (by decide)
  refine ⟨(s.divFree a k).1 - a / (k : Int), by omega, ?_, fun h => ?_, hw.regs rfl, hw.tbs rfl⟩
  all_goals unfold State.divFree
  · split <;> dsimp only <;> omega
  · rw [if_pos h]
    omega

theorem tbMpdRow (k : Fin 4) : ∃ r, regRow (Reg.TB_MPD k) = some r ∧ r.pair = .single ∧ r.w1c = 0 ∧ r.rw = 0 := by
  revert k
  decide

theorem viewOf_tbMpd (k : Fin 4) : viewOf (Reg.TB_MPD k) = 0 := by
  revert k
  decide

theorem tbHook_mpd {k : Fin 4} {old : Word} : s.tbHook (Reg.TB_MPD k) old v = s.mpdSample k v.toNat := by
  have h1 : 0x51000 ≤ Reg.TB_MPD k ∧ Reg.TB_MPD k < 0x51400 := by unfold Reg.TB_MPD; omega
  have h2 : (Reg.TB_MPD k - 0x51000) / 0x100 = k := by unfold Reg.TB_MPD; omega
  have h3 : Reg.TB_MPD k % 0x100 = 0x48 := by unfold Reg.TB_MPD; omega
  unfold State.tbHook
  simp [h1, h2, h3]

/-- Two states that read alike in all registers and time bases. -/
structure SameTb (s t : State) : Prop where
  regs : ∀ o, t.reg o = s.reg o
  tbs : t.tbs = s.tbs

theorem poke_tbMpd {k : Fin 4} (h : s.Accepts (Reg.TB_MPD k) v) :
    ∃ u, SameTb s u ∧ s.poke (Reg.TB_MPD k) v {} = u.mpdSample k v.toNat := by
  obtain ⟨r, hr, hp, hc, hw⟩ := tbMpdRow k
  have hu : Reg.TB_MPD k / 0x10000 = 5 := by unfold Reg.TB_MPD; omega
  refine ⟨s.setReg (Reg.TB_MPD k) (s.reg (Reg.TB_MPD k)), ⟨fun o => ?_, rfl⟩, ?_⟩
  · rw [reg_setReg]
    split
    next ho => rw [ho]
    next => rfl
  · rw [h.poke_plain (viewOf_tbMpd k) hr hp hc, hw, merge_none, unitHook_tb hu, tbHook_mpd]

/-! ### What a sample does -/

theorem mpdSample_idle {k : Nat} (h : s.rb (Reg.TB_MPD_CFG n) 31 = false ∨ s.tbState n = 0 ∨ s.tbState n = 5) : s.mpdSample n k = s := by
  have hc : (!bit (s.reg (Reg.TB_MPD_CFG n)) 31 || s.tbState n = 0 || s.tbState n = 5) = true := by
    rw [State.rb] at h
    rcases h with h | h | h <;> simp [h]
  unfold State.mpdSample
  dsimp only
  rw [if_pos hc]

/-- Supervision is on and the time base takes samples. -/
structure Supervised (n : Nat) (s : State) : Prop where
  on : s.rb (Reg.TB_MPD_CFG n) 31 = true
  notOff : s.tbState n ≠ 0
  notReroute : s.tbState n ≠ 5

theorem Supervised.guard (h : Supervised n s) :
    (!bit (s.reg (Reg.TB_MPD_CFG n)) 31 || s.tbState n = 0 || s.tbState n = 5) = false := by
  have hon := h.on
  rw [State.rb] at hon
  simp [hon, h.notOff, h.notReroute]

theorem mpdSample_first {k : Nat} (h : Supervised n s) (hi : (s.tb n).mpdInit = false) : s.mpdSample n k =
    (s.setReg (Reg.TB_MPD_REF n) (word k)).setTb n { s.tb n with mpdInit := true, mpdRun := 0, mpdSum := 0 } := by
  unfold State.mpdSample
  dsimp only
  rw [h.guard, hi]
  rfl

/-- How far a sample lies from the reference. -/
def State.mpdFar (s : State) (n k : Nat) : Nat :=
  let ref := (s.reg (Reg.TB_MPD_REF n)).toNat
  if ref ≤ k then k - ref else ref - k

section Later
variable {k : Nat} (h : Supervised n s) (hi : (s.tb n).mpdInit = true)
include h hi

theorem mpdSample_near (hf : s.mpdFar n k ≤ s.rf (Reg.TB_MPD_CFG n) 0 16 * 256 ∨ s.tbState n = 1 ∨ s.tbState n = 2) :
    ∃ d : Int, (d = 0 ∨ d = 1) ∧ (((k : Int) - ((s.reg (Reg.TB_MPD_REF n)).toNat : Int)) % ((2 ^ s.rf (Reg.TB_MPD_CFG n) 20 4 : Nat) : Int) = 0 → d = 0) ∧
      (s.mpdSample n k).reg (Reg.TB_MPD_REF n) = BitVec.ofInt 32 (((s.reg (Reg.TB_MPD_REF n)).toNat : Int) +
        ((k : Int) - ((s.reg (Reg.TB_MPD_REF n)).toNat : Int)) / ((2 ^ s.rf (Reg.TB_MPD_CFG n) 20 4 : Nat) : Int) + d) ∧
      ((s.mpdSample n k).tb n).mpdRun = 0 ∧ Leaves (fun o => o ≠ Reg.TB_MPD_REF n) s (s.mpdSample n k) := by
  obtain ⟨d, hq, hd, hz, hr, ht⟩ := divFree_spec s ((k : Int) - ((s.reg (Reg.TB_MPD_REF n)).toNat : Int)) (2 ^ s.rf (Reg.TB_MPD_CFG n) 20 4)
  have hnot : (decide (fld (s.reg (Reg.TB_MPD_CFG n)) 0 16 * 256 < s.mpdFar n k) && (s.tbState n = 3 || s.tbState n = 4)) = false := by
    rcases hf with hf | hf | hf
    · rw [State.rf] at hf
      simp [Nat.not_lt.2 hf]
    · simp [hf]
    · simp [hf]
  have heq : s.mpdSample n k = ((s.divFree ((k : Int) - ((s.reg (Reg.TB_MPD_REF n)).toNat : Int)) (2 ^ s.rf (Reg.TB_MPD_CFG n) 20 4)).2.setReg
      (Reg.TB_MPD_REF n) (BitVec.ofInt 32 (((s.reg (Reg.TB_MPD_REF n)).toNat : Int) +
        (s.divFree ((k : Int) - ((s.reg (Reg.TB_MPD_REF n)).toNat : Int)) (2 ^ s.rf (Reg.TB_MPD_CFG n) 20 4)).1))).setTb n
      { s.tb n with mpdRun := 0, mpdSum := 0 } := by
    have htb : ∀ w, ((s.divFree ((k : Int) - ((s.reg (Reg.TB_MPD_REF n)).toNat : Int)) (2 ^ s.rf (Reg.TB_MPD_CFG n) 20 4)).2.setReg
        (Reg.TB_MPD_REF n) w).tb n = s.tb n := fun w => tb_of_tbs ht
    unfold State.mpdFar at hnot
    dsimp only at hnot
    rw [← htb]
    unfold State.mpdSample
    dsimp only
    rw [h.guard, hi, hnot]
    rfl
  refine ⟨d, hd, hz, ?_, ?_, ?_⟩
  all_goals rw [heq]
  · rw [hq]
    refine (leaves_setTb (P := fun _ => True) _ trivial).trans (reg_setReg_self.trans ?_)
    rw [add_assoc]
  · rw [tb_setTb_self]
  · exact (Leaves.trans (.of_regs hr) (leaves_setReg fun c => c rfl)).trans leaves_setTb

variable (hf : s.rf (Reg.TB_MPD_CFG n) 0 16 * 256 < s.mpdFar n k) (hs : s.tbState n = 3 ∨ s.tbState n = 4)
include hf hs

omit h hi in
theorem mpd_far : (decide (fld (s.reg (Reg.TB_MPD_CFG n)) 0 16 * 256 < s.mpdFar n k) && (s.tbState n = 3 || s.tbState n = 4)) = true := by
  rw [State.rf] at hf
  rcases hs with hs | hs <;> simp [hf, hs]

theorem mpdSample_joins (hc : (s.tb n).mpdRun + 1 < s.rf (Reg.TB_MPD_CFG n) 16 4) :
    s.mpdSample n k = s.setTb n { s.tb n with mpdRun := (s.tb n).mpdRun + 1, mpdSum := (s.tb n).mpdSum + k } := by
  have hfar := mpd_far hf hs
  unfold State.mpdFar at hfar
  dsimp only at hfar
  rw [State.rf] at hc
  unfold State.mpdSample
  dsimp only
  rw [h.guard, hi, hfar]
  simp only [Bool.not_true, Bool.false_eq_true, if_false, if_true]
  rw [if_neg (Nat.not_le.2 hc)]

theorem mpdSample_reroute (hn : n < 4) (hc : s.rf (Reg.TB_MPD_CFG n) 16 4 ≤ (s.tb n).mpdRun + 1) :
    ∃ d : Int, (d = 0 ∨ d = 1) ∧
      ((((s.tb n).mpdSum + k : Nat) - ((s.reg (Reg.TB_MPD_REF n)).toNat * ((s.tb n).mpdRun + 1) : Nat) : Int) %
        (((s.tb n).mpdRun + 1 : Nat) : Int) = 0 → d = 0) ∧
      (s.mpdSample n k).reg (Reg.TB_MPD_STEP n) = BitVec.ofInt 32
        ((((s.tb n).mpdSum + k : Nat) - ((s.reg (Reg.TB_MPD_REF n)).toNat * ((s.tb n).mpdRun + 1) : Nat) : Int) /
          (((s.tb n).mpdRun + 1 : Nat) : Int) + d) ∧
      (s.mpdSample n k).tbState n = 5 ∧ (s.mpdSample n k).rb (Reg.TB_STATUS n) 10 = true ∧ (s.mpdSample n k).event 8 = true ∧
      ((s.mpdSample n k).tb n).mpdRun = 0 ∧
      Leaves (fun o => Quiet o ∧ o ∉ [Reg.TB_STATUS n, Reg.TB_MPD_STEP n]) s (s.mpdSample n k) := by
  have hfar := mpd_far hf hs
  have hne : Reg.TB_MPD_STEP n ≠ Reg.TB_STATUS n := by unfold Reg.TB_MPD_STEP Reg.TB_STATUS; omega
  have hq1 : Quiet (Reg.TB_MPD_STEP n) := quiet_tb hn (d := 0x54) (by decide)
  unfold State.mpdFar at hfar
  dsimp only at hfar
  rw [State.rf] at hc
  generalize ha : (((s.tb n).mpdSum + k : Nat) - ((s.reg (Reg.TB_MPD_REF n)).toNat * ((s.tb n).mpdRun + 1) : Nat) : Int) = a
  obtain ⟨d, hq, hd, hz, hr, ht⟩ := divFree_spec s a ((s.tb n).mpdRun + 1)
  have heq : ∃ x : TimeBase, x.mpdRun = 0 ∧ s.mpdSample n k = ((((s.divFree a ((s.tb n).mpdRun + 1)).2.setReg (Reg.TB_MPD_STEP n)
      (BitVec.ofInt 32 (s.divFree a ((s.tb n).mpdRun + 1)).1)).setTb n x).setTbState n 5).flagRaise (Reg.TB_STATUS n) 10 8 n := by
    refine ⟨{ ((s.divFree a ((s.tb n).mpdRun + 1)).2.setReg (Reg.TB_MPD_STEP n)
      (BitVec.ofInt 32 (s.divFree a ((s.tb n).mpdRun + 1)).1)).tb n with mpdRun := 0, mpdSum := 0 }, rfl, ?_⟩
    unfold State.mpdSample
    dsimp only
    rw [h.guard, hi, hfar]
    simp only [Bool.not_true, Bool.false_eq_true, if_false, if_true]
    rw [if_pos hc, ha]
  obtain ⟨x, hx, heq⟩ := heq
  generalize (s.divFree a ((s.tb n).mpdRun + 1)).2 = u at *
  refine ⟨d, hd, hz, ?_, ?_, ?_, ?_, ?_, ?_⟩
  all_goals rw [heq]
  · rw [flagRaise_quiet hq1 hne (by decide), (leaves_setTbState (P := fun o => o ≠ Reg.TB_STATUS n) fun c => c rfl) _ hne, hq]
    exact reg_setReg_self
  · rw [State.tbState, State.rf, flagRaise_reg (by decide) (quiet_tbStatus hn), if_pos rfl, fld_setBit_ne (by decide) (by decide)]
    exact setTbState_state (by decide)
  · exact flagRaise_flag (quiet_tbStatus hn) (by decide) (by decide)
  · exact event_flagRaise (by decide)
  · obtain ⟨la, ll, htb⟩ := setTbState_tb (n := n) (st := 5) (s := (u.setReg (Reg.TB_MPD_STEP n) (BitVec.ofInt 32 (s.divFree a ((s.tb n).mpdRun + 1)).1)).setTb n x)
    rw [tb_setTb_self] at htb
    rw [tb_of_tbs ((within_flagRaise _ _ _ _ _).tbs rfl), htb]
    exact hx
  · refine (Leaves.trans (.of_regs hr) ?_).trans (leaves_flagRaise (fun _ h => h.1) (by simp) (by decide))
    exact ((leaves_setReg (by simp)).trans leaves_setTb).trans (leaves_setTbState (by simp))

end Later

/-- Settles O20: a sample has one of five outcomes, each said by its lemma. -/
theorem pathDelaySupervision : Obligations.PathDelaySupervision := by
  unfold Obligations.PathDelaySupervision
  rintro s n v _ _ _ _ h rfl rfl rfl rfl
  obtain ⟨u, hu, hp⟩ := poke_tbMpd h
  have hreg : ∀ P : Nat → Prop, Leaves P s u := fun P o _ => hu.regs o
  have htb : u.tb n = s.tb n := tb_of_tbs hu.tbs
  have hst : u.tbState n = s.tbState n := tbState_eq (hu.regs _)
  have hcfg : ∀ a k, u.rf (Reg.TB_MPD_CFG n) a k = s.rf (Reg.TB_MPD_CFG n) a k := fun a k => (hreg (fun _ => True)).rf trivial a k
  have hon : u.rb (Reg.TB_MPD_CFG n) 31 = s.rb (Reg.TB_MPD_CFG n) 31 := (hreg (fun _ => True)).rb trivial 31
  have hfar : u.mpdFar n v.toNat = if (s.reg (Reg.TB_MPD_REF n)).toNat ≤ v.toNat then v.toNat - (s.reg (Reg.TB_MPD_REF n)).toNat
      else (s.reg (Reg.TB_MPD_REF n)).toNat - v.toNat := by unfold State.mpdFar; rw [hu.regs]
  have hexec : exec (.tbMpdSample n v) s = .next (u.mpdSample n v.toNat) := congrArg Host.Outcome.next hp
  rw [← hon, ← hcfg, ← hcfg, ← hcfg, ← htb, ← hst, ← hfar]
  refine ⟨fun hidle => ?_, fun h31 h0 h5 => ?_⟩
  · rw [mpdSample_idle hidle] at hexec
    exact ⟨u, hexec, hreg _, rfl⟩
  · have hsup : Supervised n u := ⟨h31, h0, h5⟩
    refine ⟨fun hi => ?_, fun hi hf => ?_, fun hi hf hs => ⟨fun hc => ?_, fun hc => ?_⟩⟩
    · rw [mpdSample_first hsup hi] at hexec
      refine ⟨_, hexec, ?_, by rw [tb_setTb_self], (hreg _).trans ((leaves_setReg (by simp)).trans leaves_setTb)⟩
      exact reg_setReg_self.trans (BitVec.ofNat_toNat 32 v |>.trans (BitVec.setWidth_eq v))
    · obtain ⟨d, hd, hz, hr, hrun, hl⟩ := mpdSample_near hsup hi hf
      rw [hu.regs] at hz hr
      exact ⟨_, d, hexec, hd, hz, hr, hrun, (hreg _).trans (hl.mono fun o ho c => ho (by simp [c]))⟩
    · rw [mpdSample_joins hsup hi hf hs hc] at hexec
      exact ⟨_, hexec, by rw [tb_setTb_self], by rw [tb_setTb_self], (hreg _).trans leaves_setTb⟩
    · obtain ⟨d, hd, hz, hr, hst5, hflag, hev, hrun, hl⟩ := mpdSample_reroute hsup hi hf hs n.isLt hc
      rw [hu.regs] at hz hr
      exact ⟨_, d, _, hexec, hst5, hflag, hev, hd, rfl, hz, hr, hrun, regsKept_iff.2 ((hreg _).trans hl)⟩

end Sys2Proof.Machine

/-! PPS pulses and captures, transmit stamps, leap seconds (R96, R97, R108, R111). -/

namespace Sys2Proof.Machine

-- One declaration after another: side by side, their threads' stacks pass the memory limit of a check.
set_option Elab.async false

variable {s t : State} {n m ph : Nat} {v : Word}

/-! ### A PPS_IN edge -/

/-- A register of time base `n`. -/
abbrev OfTb (n o : Nat) : Prop := 0x51000 + 0x100 * n ≤ o ∧ o < 0x51100 + 0x100 * n

theorem quiet_ofTb (hn : n < 4) {o : Nat} (h : OfTb n o) : Quiet o := by
  refine ⟨?_, ?_, ?_⟩ <;> omega

theorem leaves_putStamp {P : Nat → Prop} {o : Nat} {x : Stamp} (h : ∀ k, k < 16 → ¬ P (o + k)) : Leaves P s (s.putStamp o x) := by
  intro p hp
  have hne : ∀ k, k < 16 → p ≠ o + k := fun k hk c => h k hk (c ▸ hp)
  unfold State.putStamp
  rw [reg_setReg_ne (hne 12 (by decide)), reg_setReg_ne (hne 8 (by decide)), reg_setReg_ne (hne 4 (by decide)),
    reg_setReg_ne (show p ≠ o from hne 0 (by decide))]

theorem putStamp_ns {o : Nat} {x : Stamp} : (s.putStamp o x).reg o = word (stampNs x) := by
  unfold State.putStamp
  rw [reg_setReg_ne (by omega), reg_setReg_ne (by omega), reg_setReg_ne (by omega), reg_setReg_self]

theorem putStamp_frac {o : Nat} {x : Stamp} : (s.putStamp o x).reg (o + 12) = word (stampFrac x) := by
  unfold State.putStamp
  rw [reg_setReg_self]

/-- The capture of an edge at time base `n`. -/
def State.ppsCapture (s : State) (ph n : Nat) : State :=
  ((s.putStamp (Reg.TB_PPSIN_NS n) (s.tdc n ph)).publish (Reg.TB_PPSIN_STATUS n)).flagRaise (Reg.TB_STATUS n) 12 9 n

/-- An edge triggers the step that waits for it, after a capture. -/
def State.ppsTrigger (s : State) (n : Nat) : State :=
  match (s.tb n).step with
  | some q => if q.onPps && decide (s.tbState n = 2) then s.setTb n { s.tb n with triggered := true } else s
  | none => s

theorem ppsInAt_eq : s.ppsInAt ph n = (if s.rb (Reg.TB_CTRL n) 8 then s.ppsCapture ph n else s).ppsTrigger n := by
  unfold State.ppsInAt State.ppsTrigger State.ppsCapture
  dsimp only <;> generalize (if s.rb (Reg.TB_CTRL n) 8 = true then _ else s) = x <;> rfl

theorem ppsTrigger_regs : (s.ppsTrigger n).regs = s.regs := by
  unfold State.ppsTrigger
  split
  · split <;> rfl
  · rfl

theorem ppsTrigger_others : OtherTbs n s (s.ppsTrigger n) := by
  unfold State.ppsTrigger
  split
  · split
    · exact otherTbs_setTb
    · exact .refl s
  · exact .refl s

theorem ppsCapture_tbs : (s.ppsCapture ph n).tbs = s.tbs := by
  unfold State.ppsCapture
  rw [(within_flagRaise _ _ _ _ _).tbs rfl, (within_publish _ _).tbs rfl, (within_putStamp _ _ _).tbs rfl]

theorem ppsInAt_others : OtherTbs n s (s.ppsInAt ph n) := by
  rw [ppsInAt_eq]
  split
  · exact (OtherTbs.of_tbs ppsCapture_tbs).trans ppsTrigger_others
  · exact ppsTrigger_others

theorem leaves_ppsInAt (hn : n < 4) (hm : m < 4) (h : m ≠ n) : Leaves (OfTb n) s (s.ppsInAt ph m) := by
  have hc : Leaves (OfTb n) s (s.ppsCapture ph m) := by
    refine ((leaves_putStamp fun k hk => ?_).trans (leaves_publish ?_)).trans (leaves_flagRaise (fun o => quiet_ofTb hn) ?_ (by decide))
    · unfold Reg.TB_PPSIN_NS; omega
    · unfold Reg.TB_PPSIN_STATUS; omega
    · unfold Reg.TB_STATUS; omega
  rw [ppsInAt_eq]
  split
  · exact hc.trans (.of_regs ppsTrigger_regs)
  · exact .of_regs ppsTrigger_regs

theorem keepsEvents_ppsInAt (hm : m < 4) : KeepsEvents s (s.ppsInAt ph m) := by
  have hc : KeepsEvents s (s.ppsCapture ph m) := by
    refine (KeepsEvents.of_leaves ((leaves_putStamp fun k hk => ?_).trans (leaves_publish ?_))).trans (keepsEvents_flagRaise ?_ (by decide))
    · unfold Reg.TB_PPSIN_NS; omega
    · unfold Reg.TB_PPSIN_STATUS; omega
    · unfold Reg.TB_STATUS; omega
  rw [ppsInAt_eq]
  split
  · exact hc.trans (keepsEvents_of_regs ppsTrigger_regs)
  · exact keepsEvents_of_regs ppsTrigger_regs

/-- The captures at other time bases leave what time base `n` has. -/
theorem ppsInAts_others (hn : n < 4) {l : List Nat} (hl : n ∉ l) (h4 : ∀ m ∈ l, m < 4) : ∀ s : State,
    Leaves (OfTb n) s (l.foldl (fun s m => s.ppsInAt ph m) s) ∧ KeepsEvents s (l.foldl (fun s m => s.ppsInAt ph m) s) ∧
      (l.foldl (fun s m => s.ppsInAt ph m) s).tb n = s.tb n := by
  induction l with
  | nil => exact fun s => ⟨.refl s, .refl s, rfl⟩
  | cons k l ih =>
    intro s
    obtain ⟨hne, hl⟩ := not_or.1 fun c => hl (List.mem_cons.2 c)
    have hk := h4 k List.mem_cons_self
    obtain ⟨h1, h2, h3⟩ := ih hl (fun m hm => h4 m (List.mem_cons_of_mem _ hm)) (s.ppsInAt ph k)
    exact ⟨(leaves_ppsInAt hn hk fun c => hne c.symm).trans h1, (keepsEvents_ppsInAt hk).trans h2, h3.trans (ppsInAt_others n hne)⟩

theorem tdc_eq (hr : t.reg (Reg.TB_STATUS n) = s.reg (Reg.TB_STATUS n)) (ht : t.tb n = s.tb n) : t.tdc n ph = s.tdc n ph := by
  unfold State.tdc State.tbNow
  rw [tbState_eq hr, ht]

/-- What a captured edge shows. -/
structure Captured (n : Nat) (x : Stamp) (t : State) : Prop where
  ns : t.reg (Reg.TB_PPSIN_NS n) = word (stampNs x)
  frac : t.reg (Reg.TB_PPSIN_FRAC n) = word (stampFrac x)
  ready : t.rb (Reg.TB_PPSIN_STATUS n) 31 = true
  flag : t.rb (Reg.TB_STATUS n) 12 = true
  event : t.event 9 = true

theorem Captured.mono {x : Stamp} (h : Captured n x s) (hl : Leaves (OfTb n) s t) (he : KeepsEvents s t) : Captured n x t where
  ns := (hl _ (by unfold Reg.TB_PPSIN_NS; omega)).trans h.ns
  frac := (hl _ (by unfold Reg.TB_PPSIN_FRAC; omega)).trans h.frac
  ready := (hl.rb (by unfold Reg.TB_PPSIN_STATUS; omega) 31).trans h.ready
  flag := (hl.rb (by unfold Reg.TB_STATUS; omega) 12).trans h.flag
  event := he 9 (by decide) h.event

theorem ppsInAt_captured (hn : n < 4) (h : s.rb (Reg.TB_CTRL n) 8 = true) : Captured n (s.tdc n ph) (s.ppsInAt ph n) := by
  have hns : Quiet (Reg.TB_PPSIN_NS n) := quiet_tb hn (d := 0x64) (by decide)
  have hfr : Quiet (Reg.TB_PPSIN_FRAC n) := quiet_tb hn (d := 0x70) (by decide)
  have hst : Quiet (Reg.TB_PPSIN_STATUS n) := quiet_tb hn (d := 0x60) (by decide)
  have h1 : Reg.TB_PPSIN_NS n ≠ Reg.TB_STATUS n ∧ Reg.TB_PPSIN_FRAC n ≠ Reg.TB_STATUS n ∧ Reg.TB_PPSIN_STATUS n ≠ Reg.TB_STATUS n ∧
      Reg.TB_PPSIN_NS n ≠ Reg.TB_PPSIN_STATUS n ∧ Reg.TB_PPSIN_FRAC n ≠ Reg.TB_PPSIN_STATUS n ∧
      Reg.TB_PPSIN_FRAC n = Reg.TB_PPSIN_NS n + 12 := by
    unfold Reg.TB_PPSIN_NS Reg.TB_STATUS Reg.TB_PPSIN_FRAC Reg.TB_PPSIN_STATUS
    omega
  have hpub : ∀ (x : State) (o p : Nat), p ≠ o → (x.publish o).reg p = x.reg p := fun x o p hp =>
    leaves_publish (P := fun k => k ≠ o) (fun c => c rfl) p hp
  have hc : Captured n (s.tdc n ph) (s.ppsCapture ph n) := by
    unfold State.ppsCapture
    refine ⟨?_, ?_, ?_, flagRaise_flag (quiet_tbStatus hn) (by decide) (by decide), event_flagRaise (by decide)⟩
    · rw [flagRaise_quiet hns h1.1 (by decide), hpub _ _ _ h1.2.2.2.1, putStamp_ns]
    · rw [flagRaise_quiet hfr h1.2.1 (by decide), hpub _ _ _ h1.2.2.2.2.1, h1.2.2.2.2.2, putStamp_frac]
    · rw [State.rb, flagRaise_quiet hst h1.2.2.1 (by decide)]
      exact rb_setRb_self (by decide)
  rw [ppsInAt_eq, if_pos h]
  exact hc.mono (.of_regs ppsTrigger_regs) (keepsEvents_of_regs ppsTrigger_regs)

/-- The level at PPS_IN after an edge that stands `width` ns. -/
def State.ppsSeen (s : State) (width : Nat) : State := { s with ppsPin := { s.ppsPin with reject := decide (width < 100) } }

theorem ppsIn_eq {rising : Bool} {width : Nat} : s.ppsIn rising width ph =
    if rising = s.rb Reg.TB_PPSIN_CFG 0 || (s.rb Reg.TB_PPSIN_CFG 1 && (decide (width < 100) || s.ppsPin.reject)) then s.ppsSeen width
    else [0, 1, 2, 3].foldl (fun s m => s.ppsInAt ph m) (s.ppsSeen width) := by
  have hf : ∀ x : State, [0, 1, 2, 3].foldl (fun s m => s.ppsInAt ph m) x = (((x.ppsInAt ph 0).ppsInAt ph 1).ppsInAt ph 2).ppsInAt ph 3 :=
    fun _ => rfl
  rw [hf]
  rfl

theorem ppsIn_captured {k : Fin 4} {rising : Bool} {width : Nat} (hr : rising ≠ s.rb Reg.TB_PPSIN_CFG 0)
    (hw : s.rb Reg.TB_PPSIN_CFG 1 = true → 100 ≤ width ∧ s.ppsPin.reject = false) (h8 : s.rb (Reg.TB_CTRL k) 8 = true) :
    Captured k (s.tdc k ph) (s.ppsIn rising width ph) := by
  obtain ⟨l1, l2, hl, ⟨_, hn1, h41⟩, _, hn2, h42⟩ := periods_split k
  have hseen : Leaves (OfTb k) s (s.ppsSeen width) ∧ (s.ppsSeen width).tb k = s.tb k := ⟨.of_regs rfl, rfl⟩
  have hgo : (rising = s.rb Reg.TB_PPSIN_CFG 0 || (s.rb Reg.TB_PPSIN_CFG 1 && (decide (width < 100) || s.ppsPin.reject))) = false := by
    cases hc : s.rb Reg.TB_PPSIN_CFG 1
    · simpa using hr
    · obtain ⟨h1, h2⟩ := hw hc
      simp [hr, h1, h2]
  obtain ⟨ha, _, hta⟩ := ppsInAts_others (ph := ph) k.isLt hn1 h41 (s.ppsSeen width)
  rw [ppsIn_eq, hgo, if_neg Bool.false_ne_true, hl, List.foldl_append, List.foldl_cons]
  generalize l1.foldl (fun s m => s.ppsInAt ph m) (s.ppsSeen width) = x at *
  obtain ⟨hb, he, -⟩ := ppsInAts_others (ph := ph) k.isLt hn2 h42 (x.ppsInAt ph k)
  have hs := hseen.1.trans ha
  rw [← tdc_eq (hs _ (by unfold Reg.TB_STATUS; omega)) (hta.trans hseen.2)]
  exact (ppsInAt_captured k.isLt ((hs.rb (by unfold Reg.TB_CTRL; omega) 8).trans h8)).mono hb he

theorem ppsIn_ignored {rising : Bool} {width : Nat}
    (h : rising = s.rb Reg.TB_PPSIN_CFG 0 ∨ s.rb Reg.TB_PPSIN_CFG 1 = true ∧ (width < 100 ∨ s.ppsPin.reject = true)) :
    s.ppsIn rising width ph = s.ppsSeen width := by
  have hstop : (rising = s.rb Reg.TB_PPSIN_CFG 0 || (s.rb Reg.TB_PPSIN_CFG 1 && (decide (width < 100) || s.ppsPin.reject))) = true := by
    rcases h with h | ⟨h1, h2 | h2⟩
    · simp [h]
    · simp [h1, h2]
    · simp [h1, h2]
  rw [ppsIn_eq, if_pos hstop]

/-! ### A PPS_OUT pulse -/

theorem leaves_rtcCapture {P : Nat → Prop} (h : ∀ o, o / 0x10000 = 4 → ¬ P o) : Leaves P s (s.rtcCapture n) := by
  unfold State.rtcCapture
  dsimp only
  split
  · exact (((leaves_setReg (h _ (by decide))).trans (leaves_setReg (h _ (by decide)))).trans (leaves_setReg (h _ (by decide)))).trans
      (leaves_publish (h _ (by decide)))
  · exact .refl s

/-- The pulse leaves, with its flag and event. -/
theorem ppsOut_due {k : Fin 4} (h7 : s.rb (Reg.TB_CTRL k) 7 = true) (hs : s.tbState k ≠ 0) (hd : s.ppsDue k = true) (hb : s.boundary = false) :
    (.pps k.val (s.rf (Reg.TB_PPS_OUT k) 0 16) :: s.out) <:+ (s.ppsOut k).out ∧ (s.ppsOut k).rb (Reg.TB_STATUS k) 11 = true ∧
      (s.ppsOut k).event 9 = true := by
  have hq := quiet_tbStatus k.isLt
  have hgen : ∀ x : State, x.out = .pps k.val (s.rf (Reg.TB_PPS_OUT k) 0 16) :: s.out →
      (.pps k.val (s.rf (Reg.TB_PPS_OUT k) 0 16) :: s.out) <:+ ((x.flagRaise (Reg.TB_STATUS k) 11 9 k).rtcCapture k).out ∧
        ((x.flagRaise (Reg.TB_STATUS k) 11 9 k).rtcCapture k).rb (Reg.TB_STATUS k) 11 = true ∧
        ((x.flagRaise (Reg.TB_STATUS k) 11 9 k).rtcCapture k).event 9 = true := by
    intro x hx
    have hl : Leaves (fun o => o = Reg.TB_STATUS k) (x.flagRaise (Reg.TB_STATUS k) 11 9 k)
        ((x.flagRaise (Reg.TB_STATUS k) 11 9 k).rtcCapture k) := leaves_rtcCapture fun o h4 c => by
      subst c
      unfold Reg.TB_STATUS at h4
      omega
    have he : Leaves (fun o => o / 0x10000 = 1) (x.flagRaise (Reg.TB_STATUS k) 11 9 k)
        ((x.flagRaise (Reg.TB_STATUS k) 11 9 k).rtcCapture k) := leaves_rtcCapture fun o h4 c => by omega
    refine ⟨?_, (hl.rb rfl 11).trans (flagRaise_flag hq (by decide) (by decide)),
      KeepsEvents.of_leaves he 9 (by decide) (event_flagRaise (by decide))⟩
    rw [(within_rtcCapture _ _).out rfl, ← hx]
    exact (within_flagRaise x _ _ _ _).sent
  unfold State.ppsOut
  rw [if_pos (by simp [h7, hs, hd])]
  dsimp only
  refine hgen _ ?_
  have hset : ∀ (x : State) (b : TimeBase), (x.setTb k b).out = x.out := fun _ _ => rfl
  rw [hset, emit_eq, hb]
  rfl

/-! ### The transmit stamps -/

theorem tsqOf_setTsq {p q : Nat} {l : List TsqEntry} : (s.setTsq p l).tsqOf q = if q = p then l else s.tsqOf q := Tab.get_put

theorem tsqPopRow (k : Fin 4) : ∃ r, regRow (Reg.TSQ_POP k) = some r ∧ r.pair = .single ∧ r.w1c = 0 := by
  revert k
  decide

theorem viewOf_tsqPop (k : Fin 4) : viewOf (Reg.TSQ_POP k) = 0 := by
  revert k
  decide

theorem tbHook_tsqPop {k : Fin 4} {old : Word} (h : bit v 0 = true) :
    s.tbHook (Reg.TSQ_POP k) old v = s.setTsq k (s.tsqOf k).tail := by
  have h1 : ¬ Reg.TSQ_POP k < 0x51400 := by unfold Reg.TSQ_POP; omega
  have h2 : 0x53000 ≤ Reg.TSQ_POP k ∧ Reg.TSQ_POP k < 0x53100 := by unfold Reg.TSQ_POP; omega
  have h3 : (Reg.TSQ_POP k - 0x53000) / 0x40 = k := by unfold Reg.TSQ_POP; omega
  have h4 : Reg.TSQ_POP k % 0x40 = 0x18 := by unfold Reg.TSQ_POP; omega
  unfold State.tbHook
  simp [h, h1, h2, h3, h4]

/-! ### The leap second -/

theorem leapDue_of (hs : s.tbState n ≠ 0) (hl : s.rf (Reg.TB_UTC n) 16 2 ≠ 0)
    (he : stampSec (s.tbNow n) = s.pair (Reg.TB_LEAP_LO n) % 2 ^ 48) : s.leapDue n = true := by
  unfold State.leapDue
  rw [decide_eq_true hs, decide_eq_true hl, decide_eq_true he]
  rfl

theorem wrap_lt {k : Nat} {x : Int} : wrap k x < 2 ^ k := by
  have h : 0 < ((2 ^ k : Nat) : Int) := by exact_mod_cast Nat.two_pow_pos k
  have h1 := Int.emod_nonneg x (Int.ne_of_gt h)
  have h2 := Int.emod_lt_of_pos x h
  unfold wrap
  omega

theorem leapApply_spec (h : s.leapDue n = true) :
    (s.leapApply n).rf (Reg.TB_UTC n) 0 16 = wrap 16 (s.utcOffset n + (if s.rf (Reg.TB_UTC n) 16 2 = 1 then 1 else -1)) ∧
      (s.leapApply n).rf (Reg.TB_UTC n) 16 2 = 0 ∧ (s.leapApply n).rb (Reg.TB_STATUS n) 4 = false ∧
      (s.leapApply n).rb (Reg.TB_STATUS n) 5 = true ∧
      (s.leapApply n).rb (Reg.TB_STATUS n) 6 = decide (s.rf (Reg.TB_UTC n) 16 2 = 2) ∧
      ((s.leapApply n).tb n).leapAt = s.pair (Reg.TB_LEAP_LO n) % 2 ^ 48 ∧
      AllRegsKept s (s.leapApply n) [Reg.TB_UTC n, Reg.TB_STATUS n] := by
  have hne : Reg.TB_UTC n ≠ Reg.TB_STATUS n := by unfold Reg.TB_UTC Reg.TB_STATUS; omega
  have hgen : ∀ (w : Nat) (b : Bool), w < 2 ^ 16 → ∀ x : State,
      x = (((((s.setRf (Reg.TB_UTC n) 0 16 w).setRf (Reg.TB_UTC n) 16 2 0).setRb (Reg.TB_STATUS n) 4 false).setRb
        (Reg.TB_STATUS n) 5 true).setRb (Reg.TB_STATUS n) 6 b) →
      x.rf (Reg.TB_UTC n) 0 16 = w ∧ x.rf (Reg.TB_UTC n) 16 2 = 0 ∧ x.rb (Reg.TB_STATUS n) 4 = false ∧ x.rb (Reg.TB_STATUS n) 5 = true ∧
        x.rb (Reg.TB_STATUS n) 6 = b ∧ AllRegsKept s x [Reg.TB_UTC n, Reg.TB_STATUS n] := by
    rintro w b hw x rfl
    have hu : ∀ (y : State) (i : Nat) (c : Bool), (y.setRb (Reg.TB_STATUS n) i c).reg (Reg.TB_UTC n) = y.reg (Reg.TB_UTC n) := fun _ _ _ =>
      reg_setReg_ne hne
    refine ⟨?_, ?_, ?_, ?_, rb_setRb_self (by decide), ?_⟩
    · rw [State.rf, hu, hu, hu, reg_setRf, if_pos rfl, fld_setFld_ne (by decide) (by decide)]
      exact (rf_setRf_self (by decide)).trans (Nat.mod_eq_of_lt hw)
    · rw [State.rf, hu, hu, hu]
      exact rf_setRf_self (by decide)
    · rw [State.rb, reg_setRb, if_pos rfl, bit_setBit_ne (by decide) (by decide), reg_setRb, if_pos rfl,
        bit_setBit_ne (by decide) (by decide)]
      exact rb_setRb_self (by decide)
    · rw [State.rb, reg_setRb, if_pos rfl, bit_setBit_ne (by decide) (by decide)]
      exact rb_setRb_self (by decide)
    · exact ((((leaves_setRf (by simp)).trans (leaves_setRf (by simp))).trans (leaves_setRb (by simp))).trans (leaves_setRb (by simp))).trans
        (leaves_setRb (by simp))
  obtain ⟨h1, h2, h3, h4, h5, h6⟩ := hgen (wrap 16 (s.utcOffset n + (if s.rf (Reg.TB_UTC n) 16 2 = 1 then 1 else -1)))
    (decide (s.rf (Reg.TB_UTC n) 16 2 = 2)) wrap_lt _ rfl
  unfold State.leapApply
  rw [if_pos h]
  exact ⟨h1, h2, h3, h4, h5, congrArg TimeBase.leapAt tb_setTb_self, h6⟩

/-- Settles O21: an edge is captured time base by time base, and a leap second is applied where it is due. -/
theorem pulsesCapturesStampsAndLeapSeconds : Obligations.PulsesCapturesStampsAndLeapSeconds := by
  unfold Obligations.PulsesCapturesStampsAndLeapSeconds
  refine ⟨fun s => ⟨fun n rising width ph hr hw h8 => ?_, fun rising width ph h => ?_, fun n h7 hs hd hb => ?_, fun p v h h0 => ?_⟩,
    fun s n e sec hs he hsec => ⟨fun hl h59 hlt => ?_, fun hl heq => ?_, fun h5 hle => ?_⟩⟩
  · have hc := ppsIn_captured (ph := ph) (k := n) hr hw h8
    exact ⟨_, rfl, hc.ns, hc.frac, hc.ready, hc.flag, hc.event⟩
  · exact ⟨_, congrArg Host.Outcome.next (ppsIn_ignored h), rfl, rfl⟩
  · exact ⟨_, rfl, ppsOut_due h7 hs hd hb⟩
  · obtain ⟨r, hr, hp, hc⟩ := tsqPopRow p
    have hu : Reg.TSQ_POP p / 0x10000 = 5 := by unfold Reg.TSQ_POP; omega
    have hpoke := h.poke_plain (viewOf_tsqPop p) hr hp hc
    rw [unitHook_tb hu, tbHook_tsqPop h0] at hpoke
    exact ⟨_, congrArg Host.Outcome.next hpoke, tsqOf_setTsq.trans (if_pos rfl),
      fun q hq => tsqOf_setTsq.trans (if_neg fun c => hq (Fin.ext c)), (leaves_setReg (by simp)).trans (.of_regs rfl)⟩
  · refine ⟨s.setRb (Reg.TB_STATUS n) 4 true, congrArg Host.Outcome.next ?_, rb_setRb_self (by decide), leaves_setRb (by simp), rfl⟩
    unfold State.leapPend
    dsimp only
    rw [he, hsec, if_pos (by simp [hs, hl, h59, hlt])]
  · have hd : s.leapDue n = true := leapDue_of hs (by omega) (hsec.trans (heq.trans he.symm))
    obtain ⟨h1, h2, h3, h4, h5, h6, h7⟩ := leapApply_spec hd
    exact ⟨_, rfl, h1, h2, h3, h4, h5, h6.trans he, h7⟩
  · refine ⟨s.setRb (Reg.TB_STATUS n) 5 false, congrArg Host.Outcome.next ?_, rb_setRb_self (by decide), leaves_setRb (by simp), rfl⟩
    unfold State.leapExpire
    rw [h5, hsec, if_pos (by simp [hle])]

end Sys2Proof.Machine

/-! The real-time clock: ticks, loads and the alarm (R115-R123), and the backup supply (R124-R127). -/

namespace Sys2Proof.Machine

-- One declaration after another: side by side, their threads' stacks pass the memory limit of a check.
set_option Elab.async false

variable {s t : State} {v : Word}

/-! ### A tick -/

/-- The counter's side of a tick edge. -/
def State.tickRtc (s : State) : Rtc :=
  let adv := s.rtcAdvance
  let r :=
    match s.rtc.load with
    | some v => { adv with count := (if s.rb Reg.RTC_CTRL 2 then adv.count + v else v) % 2 ^ 64, load := none }
    | none => adv
  { r with lastEdge := s.now }

/-- The state in which the alarm of a tick is judged. -/
def State.tickBase (s : State) : State :=
  let s := { s with rtc := s.tickRtc }
  let s := s.setRb Reg.RTC_STATUS 0 false
  let s := s.setRb Reg.RTC_STATUS 1 (s.rb Reg.RTC_CTRL 0)
  s.setRb Reg.RTC_STATUS 2 false

theorem crystalTick_eq : s.crystalTick = s.tickBase.rtcAlarm s.rtc.count := by
  unfold State.crystalTick State.tickBase State.tickRtc
  rfl

theorem tickRtc_load {x : Nat} (h : s.rtc.load = some x) : s.tickRtc =
    { s.rtcAdvance with
      count := (if s.rb Reg.RTC_CTRL 2 then s.rtcAdvance.count + x else x) % 2 ^ 64, load := none, lastEdge := s.now } := by
  unfold State.tickRtc
  rw [h]

theorem tickRtc_none (h : s.rtc.load = none) : s.tickRtc = { s.rtcAdvance with lastEdge := s.now } := by
  unfold State.tickRtc
  rw [h]

theorem rtcAdvance_kept : s.rtcAdvance.onVbat = s.rtc.onVbat ∧ s.rtcAdvance.owed12 = s.rtc.owed12 := by
  unfold State.rtcAdvance
  dsimp only
  split <;> exact ⟨rfl, rfl⟩

theorem tickRtc_kept : s.tickRtc.onVbat = s.rtc.onVbat ∧ s.tickRtc.owed12 = s.rtc.owed12 := by
  cases h : s.rtc.load with
  | none => rw [tickRtc_none h]; exact rtcAdvance_kept
  | some x => rw [tickRtc_load h]; exact rtcAdvance_kept

theorem rtcAdvance_count {w p j : Nat} (hw : w = 2 ^ fld s.rtc.trim 8 5) (hp : p = fld s.rtc.trim 0 8) (hj : j = s.rtc.trimPos) :
    s.rtcAdvance.count = if s.rb Reg.RTC_CTRL 0 then s.rtc.count
      else (s.rtc.count + if j * p / w < (j + 1) * p / w then (if bit s.rtc.trim 16 then 0 else 2) else 1) % 2 ^ 64 := by
  subst hw hp hj
  unfold State.rtcAdvance
  dsimp only
  split <;> rfl

theorem tickBase_status (i : Nat) (hi : 3 ≤ i) : s.tickBase.rb Reg.RTC_STATUS i = s.rb Reg.RTC_STATUS i := by
  have h : ∀ (x : State) (k : Nat) (b : Bool), k < 3 → (x.setRb Reg.RTC_STATUS k b).rb Reg.RTC_STATUS i = x.rb Reg.RTC_STATUS i :=
    fun x k b hk => by
      rw [State.rb, reg_setRb, if_pos rfl, bit_setBit_ne (by omega) (by omega)]
      rfl
  unfold State.tickBase
  dsimp only
  rw [h _ _ _ (by decide), h _ _ _ (by decide), h _ _ _ (by decide)]
  rfl

theorem leaves_tickBase : Leaves (fun o => o ≠ Reg.RTC_STATUS) s s.tickBase := by
  have h : ∀ (x : State) (r : Rtc), Leaves (fun o => o ≠ Reg.RTC_STATUS) x { x with rtc := r } := fun _ _ => .of_regs rfl
  unfold State.tickBase
  dsimp only
  exact (((h s s.tickRtc).trans (leaves_setRb fun c => c rfl)).trans (leaves_setRb fun c => c rfl)).trans (leaves_setRb fun c => c rfl)

theorem tickBase_clears : s.tickBase.rb Reg.RTC_STATUS 0 = false ∧ s.tickBase.rb Reg.RTC_STATUS 2 = false := by
  unfold State.tickBase
  dsimp only
  refine ⟨?_, rb_setRb_self (by decide)⟩
  rw [State.rb, reg_setRb, if_pos rfl, bit_setBit_ne (by decide) (by decide), reg_setRb, if_pos rfl, bit_setBit_ne (by decide) (by decide)]
  exact rb_setRb_self (by decide)

/-! ### The alarm -/

/-- What judging the alarm leaves as it was. -/
structure AlarmKeeps (s t : State) : Prop where
  count : t.rtc.count = s.rtc.count
  load : t.rtc.load = s.rtc.load
  lastEdge : t.rtc.lastEdge = s.rtc.lastEdge
  status : ∀ i, i ≠ 8 → t.rb Reg.RTC_STATUS i = s.rb Reg.RTC_STATUS i
  regs : Leaves (fun o => Quiet o ∧ o ≠ Reg.RTC_STATUS) s t

theorem rtcAlarm_keeps (before : Nat) : AlarmKeeps s (s.rtcAlarm before) := by
  have hset : AlarmKeeps s (s.setRb Reg.RTC_STATUS 8 true) := by
    refine ⟨rfl, rfl, rfl, fun i hi => ?_, leaves_setRb fun c => c.2 rfl⟩
    rw [State.rb, reg_setRb, if_pos rfl, bit_setBit_ne (by decide) hi]
    rfl
  have hraise : ∀ x : State, AlarmKeeps s x → AlarmKeeps s (x.raise 12 0) := fun x h => by
    have hr : (x.raise 12 0).rtc = x.rtc := (within_raise x 12 0).rtc rfl
    have hq : (x.raise 12 0).reg Reg.RTC_STATUS = x.reg Reg.RTC_STATUS := raise_reg (by decide) (by decide)
    exact ⟨by rw [hr, h.count], by rw [hr, h.load], by rw [hr, h.lastEdge], fun i hi => by rw [State.rb, hq]; exact h.status i hi,
      h.regs.trans (leaves_raise (fun _ h => h.1) (by decide))⟩
  have howe : ∀ x : State, AlarmKeeps s x → AlarmKeeps s { x with rtc := { x.rtc with owed12 := true } } := fun x h =>
    ⟨h.count, h.load, h.lastEdge, h.status, h.regs⟩
  unfold State.rtcAlarm
  dsimp only
  split
  · split
    · exact hraise _ hset
    · exact howe _ hset
  · exact ⟨rfl, rfl, rfl, fun _ _ => rfl, .refl s⟩

/-- The alarm as `State.AlarmJudged` has it, judged at a state that agrees with `s` in what it turns on. -/
theorem rtcAlarm_judged {x : State} (hc : x.rb Reg.RTC_CTRL 1 = s.rb Reg.RTC_CTRL 1) (hp : x.pair Reg.RTC_ALARM_LO = s.pair Reg.RTC_ALARM_LO)
    (he : x.evtRuns = s.evtRuns) (h8 : x.rb Reg.RTC_STATUS 8 = s.rb Reg.RTC_STATUS 8) (ho : x.rtc.owed12 = s.rtc.owed12) :
    s.AlarmJudged (x.rtcAlarm s.rtc.count) := by
  unfold State.AlarmJudged
  rw [(rtcAlarm_keeps (s := x) s.rtc.count).count, ← hc, ← hp, ← he, ← h8, ← ho]
  have hset : ∀ e, (x.setRb Reg.RTC_STATUS 8 true).evtRuns = e ↔ x.evtRuns = e := fun e => Iff.rfl
  unfold State.rtcAlarm
  dsimp only
  by_cases h : x.rb Reg.RTC_CTRL 1 = true ∧ s.rtc.count < x.pair Reg.RTC_ALARM_LO ∧ x.pair Reg.RTC_ALARM_LO ≤ x.rtc.count
  · have hif : (x.rb Reg.RTC_CTRL 1 && decide (s.rtc.count < x.pair Reg.RTC_ALARM_LO) && decide (x.pair Reg.RTC_ALARM_LO ≤ x.rtc.count)) = true := by
      simp [h]
    rw [if_pos h, if_pos hif]
    cases hr : x.evtRuns
    · rw [(hset false).2 hr]
      exact ⟨rb_setRb_self (by decide), fun c => absurd c Bool.false_ne_true, fun _ => rfl⟩
    · rw [(hset true).2 hr, if_pos rfl]
      refine ⟨?_, fun _ => event_raise (by decide), fun c => absurd c (by decide)⟩
      rw [State.rb, raise_reg (by decide) (by decide)]
      exact rb_setRb_self (by decide)
  · have hif : ¬ (x.rb Reg.RTC_CTRL 1 && decide (s.rtc.count < x.pair Reg.RTC_ALARM_LO) && decide (x.pair Reg.RTC_ALARM_LO ≤ x.rtc.count)) = true := by
      simpa [and_assoc] using h
    rw [if_neg h, if_neg hif]
    exact ⟨rfl, rfl⟩

/-- A tick edge, with the count and load that it leaves. -/
theorem crystalTick_spec : s.crystalTick.rtc.count = s.tickRtc.count ∧ s.crystalTick.rtc.load = s.tickRtc.load ∧
    s.crystalTick.rtc.lastEdge = s.now ∧ s.crystalTick.rb Reg.RTC_STATUS 0 = false ∧ s.crystalTick.rb Reg.RTC_STATUS 2 = false ∧
    s.AlarmJudged s.crystalTick ∧ RegsKept s s.crystalTick [Reg.RTC_STATUS] := by
  have hk := rtcAlarm_keeps (s := s.tickBase) s.rtc.count
  have hrtc : s.tickBase.rtc = s.tickRtc := rfl
  have hedge : s.tickRtc.lastEdge = s.now := rfl
  have hpair : s.tickBase.pair Reg.RTC_ALARM_LO = s.pair Reg.RTC_ALARM_LO := by
    unfold State.pair
    rw [leaves_tickBase (Reg.RTC_ALARM_LO + 4) (by decide), leaves_tickBase Reg.RTC_ALARM_LO (by decide)]
  have hev : s.tickBase.evtRuns = s.evtRuns := by
    unfold State.evtRuns
    rw [hrtc, tickRtc_kept.1]
    rfl
  rw [crystalTick_eq]
  refine ⟨hk.count, hk.load, hk.lastEdge.trans hedge, (hk.status 0 (by decide)).trans tickBase_clears.1,
    (hk.status 2 (by decide)).trans tickBase_clears.2,
    rtcAlarm_judged (leaves_tickBase.rb (by decide) 1) hpair hev (tickBase_status 8 (by decide)) tickRtc_kept.2, regsKept_iff.2 ?_⟩
  exact (leaves_tickBase.mono fun o ho => by simpa using ho.2).trans (hk.regs.mono fun o ho => ⟨ho.1, by simpa using ho.2⟩)

/-! ### The LOAD pair -/

theorem rtcLoadHiRow : regRow Reg.RTC_LOAD_HI = some ⟨0x4001C, 0x4, 1, 0x4, 1, 0x0, 0xFFFFFFFF, 0x0, 0x0, 0x0, .high, none⟩ := by decide

theorem rtcLoadLoRow : regRow (Reg.RTC_LOAD_HI - 4) = some ⟨0x40018, 0x4, 1, 0x4, 1, 0x0, 0xFFFFFFFF, 0x0, 0x0, 0x0, .low, none⟩ := by decide

theorem poke_rtcLoad (h : s.Accepts Reg.RTC_LOAD_HI v) : s.poke Reg.RTC_LOAD_HI v {} =
    ((s.setReg Reg.RTC_LOAD_LO (s.stageOf Reg.RTC_LOAD_LO)).setReg Reg.RTC_LOAD_HI v).rtcHook Reg.RTC_LOAD_HI := by
  have hlo : Reg.RTC_LOAD_HI - 4 = Reg.RTC_LOAD_LO := rfl
  rw [poke_high h.1 h.2 rfl rtcLoadHiRow rfl rtcLoadLoRow, unitHook_rtc rfl, hlo, merge_ones, merge_ones]

/-- Settles O22: a tick is the counter's advance, then the alarm. -/
theorem realTimeClockTicksAndLoads : Obligations.RealTimeClockTicksAndLoads := by
  unfold Obligations.RealTimeClockTicksAndLoads
  intro s
  obtain ⟨hcount, hload, hedge, h0, h2, hjudged, hregs⟩ := crystalTick_spec (s := s)
  refine ⟨fun v h => ?_, fun w p j new hw hp hj hnew => ⟨fun x hx => ?_, fun hx => ?_⟩, fun hd => ?_, fun hd => ?_⟩
  · have hgen : ∀ x : State, x.rtcHook Reg.RTC_LOAD_HI =
        ({ x with rtc := { x.rtc with load := some (x.pair Reg.RTC_LOAD_LO) } } : State).setRb Reg.RTC_STATUS 0 true := fun x => if_pos rfl
    refine ⟨_, congrArg Host.Outcome.next ((poke_rtcLoad h).trans (hgen _)), rb_setRb_self (by decide), ?_, ?_⟩
    · refine congrArg some ?_
      unfold State.pair
      rw [reg_setReg, if_pos (by decide), reg_setReg_ne (by decide), reg_setReg_self]
    · have hr : ∀ (x : State) (r : Rtc), Leaves (fun o => o ∉ [Reg.RTC_LOAD_LO, Reg.RTC_LOAD_HI, Reg.RTC_STATUS]) x { x with rtc := r } :=
        fun _ _ => .of_regs rfl
      exact (((leaves_setReg (by simp)).trans (leaves_setReg (by simp))).trans (hr _ _)).trans (leaves_setRb (by simp))
  · rw [tickRtc_load hx] at hcount hload
    refine ⟨_, congrArg Host.Outcome.next (if_pos (by rw [hx]; rfl)), ?_, hload, h0, hedge, hjudged, rfl, hregs⟩
    rw [hcount, hnew, ← rtcAdvance_count hw hp hj]
  · rw [tickRtc_none hx] at hcount
    refine ⟨congrArg Host.Outcome.next (if_neg (by rw [hx]; decide)), _, rfl, ?_, hedge, h2, hjudged, hregs⟩
    rw [hcount, hnew, ← rtcAdvance_count hw hp hj]
  · have hdue := hd
    unfold State.alarmDue at hdue
    simp only [Bool.and_eq_true, decide_eq_true_eq] at hdue
    obtain ⟨⟨h1, hlt⟩, hle⟩ := hdue
    unfold State.AlarmJudged at hjudged
    rw [if_pos ⟨h1, hlt, hle⟩] at hjudged
    exact ⟨_, congrArg Host.Outcome.next (if_pos hd), hjudged.1, hlt, hle, hjudged.2.1, hjudged.2.2, hregs⟩
  · exact congrArg Host.Outcome.next (if_neg (by rw [hd]; exact Bool.false_ne_true))

end Sys2Proof.Machine

/-! The backup domain: crystal watch, battery sample, switch-overs, power-on reset (R124-R127). -/

namespace Sys2Proof.Machine

-- One declaration after another: side by side, their threads' stacks pass the memory limit of a check.
set_option Elab.async false

variable {s t : State}

/-! ### Events that the clock owes -/

/-- The state in which events that the clock owes are raised: none is owed any more. -/
def State.owedPaid (s : State) : State := { s with rtc := { s.rtc with owed12 := false, owed13 := false } }

/-- Event `e` raised where `c` says so. -/
def State.raiseIf (s : State) (c : Bool) (e : Nat) : State := if c then s.raise e 0 else s

theorem owedRtc_runs (h : s.evtRuns = true) : s.owedRtc = (s.owedPaid.raiseIf s.rtc.owed12 12).raiseIf s.rtc.owed13 13 := by
  unfold State.owedRtc
  rw [if_pos h]
  rfl

theorem owedRtc_waits (h : s.evtRuns = false) : s.owedRtc = s := if_neg (by rw [h]; exact Bool.false_ne_true)

section RaiseIf
variable {c : Bool} {e : Nat}

theorem raiseIf_rtc : (s.raiseIf c e).rtc = s.rtc := by
  unfold State.raiseIf
  split
  · exact (within_raise s e 0).rtc rfl
  · rfl

theorem leaves_raiseIf (he : e < 64) : Leaves Quiet s (s.raiseIf c e) := by
  unfold State.raiseIf
  split
  · exact leaves_raise (fun _ h => h) he
  · exact .refl s

theorem raiseIf_event (he : e < 64) (h : c = true) : (s.raiseIf c e).event e = true := by
  rw [State.raiseIf, if_pos h]
  exact event_raise he

theorem keepsEvents_raiseIf (he : e < 64) : KeepsEvents s (s.raiseIf c e) := by
  unfold State.raiseIf
  split
  · exact keepsEvents_raise he
  · exact .refl s

end RaiseIf

theorem leaves_owedRtc : Leaves Quiet s s.owedRtc := by
  have hp : Leaves Quiet s s.owedPaid := .of_regs rfl
  cases h : s.evtRuns
  · rw [owedRtc_waits h]
    exact .refl s
  · rw [owedRtc_runs h]
    exact (hp.trans (leaves_raiseIf (by decide))).trans (leaves_raiseIf (by decide))

/-! ### The switch to VBAT -/

theorem unstage_stageOf {lo o : Nat} : (s.unstage lo).stageOf o = if o = lo then s.reg lo else s.stageOf o := Tab.get_put

theorem toVbat_main (h : s.rtc.onVbat = false) : s.toVbat.rtc = { s.rtc with onVbat := true, lockout := true, owed13 := true } ∧
    s.toVbat.regs = (s.setRb Reg.RTC_STATUS 9 true).regs ∧
    s.toVbat.stages = ((s.unstage Reg.RTC_LOAD_LO).unstage Reg.RTC_ALARM_LO).stages := by
  unfold State.toVbat
  rw [if_neg (by rw [h]; exact Bool.false_ne_true)]
  exact ⟨rfl, rfl, rfl⟩

theorem switchToVbat_spec (h : s.rtc.onVbat = false) :
    s.toVbat.rtc.onVbat = true ∧ s.toVbat.rtc.lockout = true ∧ s.toVbat.rtc.owed13 = true ∧ s.toVbat.rb Reg.RTC_STATUS 9 = true ∧
      s.toVbat.stageOf Reg.RTC_LOAD_LO = s.reg Reg.RTC_LOAD_LO ∧ s.toVbat.stageOf Reg.RTC_ALARM_LO = s.reg Reg.RTC_ALARM_LO ∧
      s.toVbat.rtc.count = s.rtc.count ∧ AllRegsKept s s.toVbat [Reg.RTC_STATUS] := by
  obtain ⟨hrtc, hregs, hstages⟩ := toVbat_main h
  have hreg : Leaves (fun _ => True) (s.setRb Reg.RTC_STATUS 9 true) s.toVbat := .of_regs hregs
  have hstage : ∀ o, s.toVbat.stageOf o = ((s.unstage Reg.RTC_LOAD_LO).unstage Reg.RTC_ALARM_LO).stageOf o := fun o => by
    rw [State.stageOf, hstages]
    rfl
  have hu : (s.unstage Reg.RTC_LOAD_LO).reg Reg.RTC_ALARM_LO = s.reg Reg.RTC_ALARM_LO := rfl
  refine ⟨by rw [hrtc], by rw [hrtc], by rw [hrtc], (hreg.rb trivial 9).trans (rb_setRb_self (by decide)), ?_, ?_, by rw [hrtc], ?_⟩
  · rw [hstage, unstage_stageOf, if_neg (by decide), unstage_stageOf, if_pos rfl]
  · rw [hstage, unstage_stageOf, if_pos rfl, hu]
  · exact (leaves_setRb (by simp)).trans (hreg.mono fun _ _ => trivial)

/-! ### The switch back -/

/-- Main power is back; what is owed is still owed. -/
def State.onMain (s : State) : State := { s with rtc := { s.rtc with onVbat := false } }

theorem evtRuns_onMain : s.onMain.evtRuns = s.pwr.start.isNone := rfl

theorem switchToVio18_spec : s.toVio18.rtc.onVbat = false ∧ s.toVio18.rtc.count = s.rtc.count ∧
    s.toVio18.rtc.lockout = s.rtc.lockout ∧ RegsKept s s.toVio18 [] ∧
    (s.pwr.start = none → s.toVio18.rtc.owed12 = false ∧ s.toVio18.rtc.owed13 = false ∧
      (s.rtc.owed12 = true → s.toVio18.event 12 = true) ∧ (s.rtc.owed13 = true → s.toVio18.event 13 = true)) ∧
    (s.pwr.start ≠ none → s.toVio18 = s.onMain) := by
  have hm : Leaves Quiet s s.onMain := .of_regs rfl
  have hk : RegsKept s s.toVio18 [] := regsKept_iff.2 ((hm.trans leaves_owedRtc).mono fun _ h => h.1)
  cases hs : s.pwr.start with
  | none =>
    have hrun : s.onMain.evtRuns = true := by rw [evtRuns_onMain, hs]; rfl
    have heq : s.toVio18 = (s.onMain.owedPaid.raiseIf s.rtc.owed12 12).raiseIf s.rtc.owed13 13 := owedRtc_runs hrun
    have hrtc : s.toVio18.rtc = { s.onMain.rtc with owed12 := false, owed13 := false } := by
      rw [heq, raiseIf_rtc, raiseIf_rtc]
      rfl
    refine ⟨by rw [hrtc]; rfl, by rw [hrtc]; rfl, by rw [hrtc]; rfl, hk, fun _ => ⟨by rw [hrtc], by rw [hrtc], fun h => ?_, fun h => ?_⟩,
      fun c => absurd rfl c⟩
    · rw [heq]
      exact keepsEvents_raiseIf (by decide) 12 (by decide) (raiseIf_event (by decide) h)
    · rw [heq]
      exact raiseIf_event (by decide) h
  | some x =>
    have heq : s.toVio18 = s.onMain := owedRtc_waits (s := s.onMain) (by rw [evtRuns_onMain, hs]; rfl)
    rw [heq]
    exact ⟨rfl, rfl, rfl, heq ▸ hk, fun c => absurd c (by simp), fun _ => rfl⟩

/-! ### The power-on reset -/

theorem rtcPor_status : s.rtcPor.keyAonPor.reg Reg.RTC_STATUS = regReset Reg.RTC_STATUS := by
  have h1 : ∀ x : State, x.keyAonPor.reg Reg.RTC_STATUS =
      (((x.resetRegs 0x17000C 0x170010).resetRegs 0x170014 0x170020).resetRegs 0x170028 0x17002C).reg Reg.RTC_STATUS := fun _ => rfl
  have h2 : s.rtcPor.reg Reg.RTC_STATUS = (s.resetRegs 0x40000 0x50000).reg Reg.RTC_STATUS := rfl
  rw [h1, reg_resetRegs, if_neg (by decide), reg_resetRegs, if_neg (by decide), reg_resetRegs, if_neg (by decide), h2, reg_resetRegs,
    if_pos (by decide)]

theorem rtcPor_rtc : s.rtcPor.keyAonPor.rtc = { lastEdge := s.now, onVbat := s.rtc.onVbat, lockout := s.rtc.lockout } :=
  (within_keyAonPor _).rtc rfl

/-- Settles O23: each happening, as its definition splits it. -/
theorem backupDomainHappenings : Obligations.BackupDomainHappenings := by
  unfold Obligations.BackupDomainHappenings
  intro s
  refine ⟨fun h => ?_, fun h => ?_, fun mv h => ?_, fun mv hb h => ?_, fun h => ?_, ?_, ?_⟩
  · refine ⟨_, congrArg Host.Outcome.next (if_pos h), ?_, rb_setRb_self (by decide), ?_, rfl⟩
    · rw [State.rb, reg_setRb, if_pos rfl, bit_setBit_ne (by decide) (by decide)]
      exact rb_setRb_self (by decide)
    · exact (leaves_setRb (by simp)).trans (leaves_setRb (by simp))
  · exact congrArg Host.Outcome.next (if_neg (by omega))
  · refine congrArg Host.Outcome.next ?_
    unfold State.batSample
    rcases h with h | h
    · rw [if_pos h]
    · rw [if_neg (c := mv < 2000) (by omega), if_neg (c := 2050 ≤ mv) (by omega), ite_self]
  · have heq : s.batSample mv = s.setRb Reg.RTC_STATUS 3 (decide (mv < 2000)) := by
      unfold State.batSample
      rw [if_neg (by rw [hb]; exact Bool.false_ne_true)]
      by_cases hmv : mv < 2000
      · rw [if_pos hmv, decide_eq_true hmv]
      · rw [if_neg hmv, if_pos (by omega), decide_eq_false hmv]
    exact ⟨_, congrArg Host.Outcome.next heq, rb_setRb_self (by decide), leaves_setRb (by simp), rfl⟩
  · exact ⟨_, rfl, switchToVbat_spec h⟩
  · exact ⟨_, rfl, switchToVio18_spec⟩
  · refine ⟨_, rfl, by rw [rtcPor_rtc], by rw [rtcPor_rtc], rtcPor_status, ?_, ?_, ?_⟩
    · rw [State.rb, rtcPor_status]
      decide
    · exact ((within_keyAonPor _).hbm rfl).trans ((within_rtcPor s).hbm rfl)
    · exact ((within_keyAonPor _).seats rfl).trans ((within_rtcPor s).seats rfl)

end Sys2Proof.Machine

/-! What serving rings and raising events leaves of the rings: their states, their flags, the registers of the other rings (R362-R368). -/

namespace Sys2Proof.Machine

-- One declaration after another: side by side, their threads' stacks pass the memory limit of a check.
set_option Elab.async false

/-- A register outside EVT and TRG that no service of the rings in `A` writes. -/
def Beyond (A : Nat → Prop) (o : Nat) : Prop :=
  o / 0x10000 ≠ 1 ∧ o / 0x10000 ≠ 22 ∧ ∀ r, r < 32 → A r →
    o ≠ Reg.RNG_HEAD r ∧ o ≠ Reg.RNG_STATUS r ∧ o ≠ Reg.RNG_CNT r 0 ∧ o ≠ Reg.RNG_CNT r 1

/-- From `s` to `t` only the rings in `A` have been served: no ring has changed its state, no flag of a ring has been cleared. -/
structure RingsKept (A : Nat → Prop) (s t : State) : Prop where
  regs : Leaves (Beyond A) s t
  states : ∀ r, r < 32 → t.ringState r = s.ringState r
  flags : ∀ r i, r < 32 → 2 ≤ i → s.rb (Reg.RNG_STATUS r) i = true → t.rb (Reg.RNG_STATUS r) i = true
  ringX : ∀ r, ¬ A r → t.ringX r = s.ringX r
  events : KeepsEvents s t

/-- A state written out from another with the registers and the rings taken over. -/
theorem RingsKept.upd {A : Nat → Prop}
    {s x : State} {pending_} {now_} {free_} {latches_} {stages_} {msix_} {out_} {hbm_} {hostMem_} {tbs_} {tsq_} {rtc_} {pwr_} {trigs_} {marks_}
    {recorder_} {lanes_} {tables_} {chans_} {fade_} {phs_} {nrg_} {acc_} {nrgCmd_} {pulses_} {rxq_} {txq_} {segJobs_} {prp_} {segments_}
    {t1sTaken_} {t1sNum_} {seats_} {seated_} {forms_} {tcp_} {links_} {classrooms_} {lessons_} {alarms_} {slacks_} {answers_} {pass_}
    {sched_} {loader_} {evtIn_} {keys_} {tap_} {cacheSigner_} {pcie_} {modClks_} {nrgInt_} {ppsPin_} (h : RingsKept A s x) :
    RingsKept A s ⟨pending_, now_, free_, x.regs, latches_, stages_, msix_, out_, hbm_, hostMem_, x.rings, tbs_, tsq_, rtc_, pwr_, trigs_,
    marks_, recorder_, lanes_, tables_, chans_, fade_, phs_, nrg_, acc_, nrgCmd_, pulses_, rxq_, txq_, segJobs_, prp_, segments_,
    t1sTaken_, t1sNum_, seats_, seated_, forms_, tcp_, links_, classrooms_, lessons_, alarms_, slacks_, answers_, pass_, sched_, loader_,
    evtIn_, keys_, tap_, cacheSigner_, pcie_, modClks_, nrgInt_, ppsPin_⟩ := ⟨h.regs, h.states, h.flags, h.ringX, h.events⟩

section RingsKept
variable {A : Nat → Prop} {s t x y : State} {o i n v r st e inst : Nat} {w : Word} {b : Bool} {body : List Byte}

theorem RingsKept.refl (s : State) : RingsKept A s s :=
  ⟨.refl s, fun _ _ => rfl, fun _ _ _ _ h => h, fun _ _ => rfl, .refl s⟩

theorem RingsKept.after (h : RingsKept A x y) (g : RingsKept A s x) : RingsKept A s y :=
  ⟨g.regs.trans h.regs, fun r hr => (h.states r hr).trans (g.states r hr), fun r i hr hi k => h.flags r i hr hi (g.flags r i hr hi k),
    fun r hr => (h.ringX r hr).trans (g.ringX r hr), g.events.trans h.events⟩

theorem RingsKept.of_fields (hregs : t.regs = s.regs) (hrings : t.rings = s.rings) : RingsKept A s t :=
  ⟨.of_regs hregs, fun r _ => by rw [State.ringState, State.rf, State.reg, hregs]; rfl,
    fun r i _ _ h => by rw [State.rb, State.reg, hregs]; exact h, fun r _ => by rw [State.ringX, hrings]; rfl, keepsEvents_of_regs hregs⟩

theorem Within.ringsKept {C : Nat} (h : Within C s t) (hC : C.testBit 3 = false := by decide) (hR : C.testBit 10 = false := by decide) :
    RingsKept A s t := .of_fields (h.regs hC) (h.rings hR)

/-- A register that some service of the rings in `A` writes, or that belongs to TRG; no ring's STATUS. -/
def RingWork (A : Nat → Prop) (o : Nat) : Prop :=
  o / 0x10000 = 22 ∨ ∃ r, r < 32 ∧ A r ∧ (o = Reg.RNG_HEAD r ∨ o = Reg.RNG_CNT r 0 ∨ o = Reg.RNG_CNT r 1)

theorem RingWork.notBeyond (h : RingWork A o) : ¬ Beyond A o := by
  rintro ⟨_, h22, hr⟩
  obtain h | ⟨r, hr32, hA, h⟩ := h
  · exact h22 h
  · obtain ⟨h1, _, h3, h4⟩ := hr r hr32 hA
    obtain h | h | h := h
    · exact h1 h
    · exact h3 h
    · exact h4 h

theorem RingWork.ne_status (h : RingWork A o) (hr : r < 32) : Reg.RNG_STATUS r ≠ o := by
  obtain h | ⟨q, hq, _, h⟩ := h
  · unfold Reg.RNG_STATUS; omega
  · unfold Reg.RNG_STATUS
    unfold Reg.RNG_HEAD Reg.RNG_CNT at h
    omega

theorem RingWork.not_evt (h : RingWork A o) : o / 0x10000 ≠ 1 := by
  obtain h | ⟨q, hq, _, h⟩ := h
  · omega
  · unfold Reg.RNG_HEAD Reg.RNG_CNT at h
    omega

theorem ringsKept_setReg (h : RingWork A o) : RingsKept A s (s.setReg o w) := by
  refine ⟨leaves_setReg h.notBeyond, fun r hr => ?_, fun r i hr _ k => ?_, fun _ _ => rfl, keepsEvents_setReg h.not_evt⟩
  · rw [State.ringState, State.rf, reg_setReg_ne (h.ne_status hr)]
    rfl
  · rw [State.rb, reg_setReg_ne (h.ne_status hr)]
    exact k

theorem ringsKept_setRb (h : RingWork A o) : RingsKept A s (s.setRb o i b) := ringsKept_setReg h
theorem ringsKept_setRf (h : RingWork A o) : RingsKept A s (s.setRf o i n v) := ringsKept_setReg h
theorem ringsKept_bump (h : RingWork A o) : RingsKept A s (s.bump o) := ringsKept_setReg h
theorem ringsKept_bumpWrap (h : RingWork A o) : RingsKept A s (s.bumpWrap o) := ringsKept_setReg h

theorem ringWork_trg (h : o / 0x10000 = 22) : RingWork A o := .inl h
theorem ringWork_head (hr : r < 32) (h : A r) : RingWork A (Reg.RNG_HEAD r) := .inr ⟨r, hr, h, .inl rfl⟩
theorem ringWork_cnt0 (hr : r < 32) (h : A r) : RingWork A (Reg.RNG_CNT r 0) := .inr ⟨r, hr, h, .inr (.inl rfl)⟩
theorem ringWork_cnt1 (hr : r < 32) (h : A r) : RingWork A (Reg.RNG_CNT r 1) := .inr ⟨r, hr, h, .inr (.inr rfl)⟩

/-- A flag of a served ring is set. -/
theorem ringsKept_flag (hr : r < 32) (h : A r) (hi : 2 ≤ i) (hi2 : i < 32) : RingsKept A s (s.setRb (Reg.RNG_STATUS r) i true) := by
  refine ⟨leaves_setRb fun c => (c.2.2 r hr h).2.1 rfl, fun q _ => ?_, fun q j _ hj k => ?_, fun _ _ => rfl,
    keepsEvents_setRb (by unfold Reg.RNG_STATUS; omega)⟩
  · rw [State.ringState, State.rf, reg_setRb]
    split
    next hq => rw [fld_setBit_ne (by omega) (by omega), State.ringState, hq]; rfl
    next => rfl
  · rw [State.rb, reg_setRb]
    split
    next hq =>
      by_cases hij : j = i
      · rw [hij, bit_setBit (by omega)]
      · rw [bit_setBit_ne (by omega) hij, ← hq]
        exact k
    next => exact k

theorem ringsKept_setRingX {z : RingX} (h : A r) : RingsKept A s (s.setRingX r z) :=
  ⟨.of_regs rfl, fun _ _ => rfl, fun _ _ _ _ k => k, fun q hq => ringX_setRingX.trans (if_neg fun (c : q = r) => hq (c ▸ h)), keepsEvents_of_regs rfl⟩

theorem ringsKept_hostWrite {a : Nat} : RingsKept A s (s.hostWrite a body) := (within_hostWrite s a body).ringsKept

theorem ringsKept_returnQuiet (hr : r < 32) (h : A r) : RingsKept A s (s.ringReturnQuiet r body st).1 := by
  have hbase : RingsKept A s ((((s.hostWrite (s.descAddr r (s.ringHead r)) (body.take 28)).hostWrite
      (s.descAddr r (s.ringHead r) + 28) (leBytes 4 st)).setRf (Reg.RNG_HEAD r) 0 16
        ((((s.hostWrite (s.descAddr r (s.ringHead r)) (body.take 28)).hostWrite
      (s.descAddr r (s.ringHead r) + 28) (leBytes 4 st)).ringHead r + 1) % ((s.hostWrite (s.descAddr r (s.ringHead r)) (body.take 28)).hostWrite
      (s.descAddr r (s.ringHead r) + 28) (leBytes 4 st)).ringSize r)).bump (Reg.RNG_CNT r 0)) :=
    ((ringsKept_bump (ringWork_cnt0 hr h)).after (ringsKept_setRf (ringWork_head hr h))).after
      (ringsKept_hostWrite.after ringsKept_hostWrite)
  unfold State.ringReturnQuiet
  dsimp only
  split
  · exact (ringsKept_setRingX h).after ((ringsKept_flag hr h (by decide) (by decide)).after hbase)
  · exact (ringsKept_setRingX h).after hbase

theorem ringsKept_exhaustQuiet {lost : Bool} (hr : r < 32) (h : A r) : RingsKept A s (s.ringExhaustQuiet r lost).1 := by
  have hb : RingsKept A s (if lost then s.bump (Reg.RNG_CNT r 1) else s) := by
    split
    · exact ringsKept_bump (ringWork_cnt1 hr h)
    · exact .refl s
  unfold State.ringExhaustQuiet
  generalize (if lost then s.bump (Reg.RNG_CNT r 1) else s) = u at hb ⊢
  dsimp only
  split
  · split
    · exact hb
    · exact (ringsKept_setRingX h).after ((ringsKept_flag hr h (by decide) (by decide)).after hb)
  · exact hb

/-! ### Raising an event serves ring 23 -/

theorem ringsKept_of_evt (h : ∀ o, o / 0x10000 ≠ 1 → t.reg o = s.reg o) (hr : t.rings = s.rings) (he : KeepsEvents s t) : RingsKept A s t := by
  have hst : ∀ r, r < 32 → t.reg (Reg.RNG_STATUS r) = s.reg (Reg.RNG_STATUS r) := fun r hr => h _ (by unfold Reg.RNG_STATUS; omega)
  refine ⟨fun o ho => h o ho.1, fun r hr => ?_, fun r i hr _ k => ?_, fun r _ => by rw [State.ringX, hr]; rfl, he⟩
  · rw [State.ringState, State.rf, hst r hr]
    rfl
  · rw [State.rb, hst r hr]
    exact k

theorem ringsKept_raiseBase (he : e < 64) : RingsKept A s (s.raiseBase e inst) :=
  ringsKept_of_evt (fun _ ho => raiseBase_quiet he ho) ((within_raiseBase s e inst).rings rfl) fun _ hi h => raiseBase_status he hi h

theorem ringsKept_seq : RingsKept A s (s.bumpWrap Reg.EVT_LOG_SEQ) := by
  refine ringsKept_of_evt (fun o ho => ?_) rfl fun e he h => ?_
  · exact reg_bumpWrap.trans (if_neg fun c => ho (by rw [c]; decide))
  · rw [State.event, State.rb, reg_bumpWrap, if_neg (by unfold Reg.EVT_STATUS Reg.EVT_LOG_SEQ; omega)]
    exact h

theorem ringsKept_fireQuiet {m back tap delta : Nat} {a : Stamp} (hm : m < 64) : RingsKept A s (s.fireQuiet m a back tap delta).1 := by
  have h1 : RingWork A (Reg.TRG_FIRED (m / 32)) := ringWork_trg (by unfold Reg.TRG_FIRED; omega)
  have h2 : RingWork A (Reg.TRG_COUNT m) := ringWork_trg (by unfold Reg.TRG_COUNT; omega)
  have hb : ∀ c l, RingsKept A s (if c = true then { ((s.setRb (Reg.TRG_FIRED (m / 32)) (m % 32) true).bumpWrap (Reg.TRG_COUNT m)).bump
      (Reg.TRG_CNT 7) with marks := l } else ((s.setRb (Reg.TRG_FIRED (m / 32)) (m % 32) true).bumpWrap (Reg.TRG_COUNT m)).bump
      (Reg.TRG_CNT 7)) := fun c l => by
    have h := ((ringsKept_bump (o := Reg.TRG_CNT 7) (ringWork_trg (by decide))).after (ringsKept_bumpWrap h2)).after
      (ringsKept_setRb (A := A) (s := s) (i := m % 32) (b := true) h1)
    split
    · exact h.upd
    · exact h
  unfold State.fireQuiet
  dsimp only
  split
  · exact (ringsKept_setRb (ringWork_trg (by decide))).after (hb _ _)
  · exact hb _ _

theorem ringsKept_fireEdge {m : Nat} {a : Stamp} (hm : m < 64) : RingsKept A s (s.fireEdge m a).1 := by
  have hset : ∀ z, RingsKept A s (s.setTrig m z) := fun _ => .of_fields rfl rfl
  unfold State.fireEdge
  dsimp only
  split
  · exact ringsKept_bump (ringWork_trg (by decide))
  · exact (ringsKept_fireQuiet hm).after (hset _)

section Log
variable (hlog : A 23)
include hlog

theorem ringsKept_raise (he : e < 64) : RingsKept A s (s.raise e inst) :=
  raiseF_keeps (RingsKept A s) (fun _ _ _ he h => (ringsKept_raiseBase he).after h) (fun _ h => ringsKept_seq.after h)
    (fun _ _ _ h => (ringsKept_returnQuiet (by decide) hlog).after h) (fun _ h => (ringsKept_exhaustQuiet (by decide) hlog).after h)
    (fun _ _ _ hm h => (ringsKept_fireEdge hm).after h) he (.refl s)

theorem ringsKept_ringEvent : RingsKept A s (s.ringEvent r) := by
  have h : RingsKept A s (s.raise (if ringH2D r then 22 else 23) r) := ringsKept_raise hlog (by split <;> decide)
  unfold State.ringEvent
  dsimp only
  split
  · exact (ringsKept_raise hlog (by decide)).after h
  · exact h

theorem ringsKept_return (hr : r < 32) (h : A r) : RingsKept A s (s.ringReturn r body st) := by
  unfold State.ringReturn
  dsimp only
  split
  · exact (ringsKept_ringEvent hlog).after (ringsKept_returnQuiet hr h)
  · exact ringsKept_returnQuiet hr h

theorem ringsKept_exhaust {lost : Bool} (hr : r < 32) (h : A r) : RingsKept A s (s.ringExhaust r lost) := by
  unfold State.ringExhaust
  dsimp only
  split
  · exact (ringsKept_raise hlog (by decide)).after (ringsKept_exhaustQuiet hr h)
  · exact ringsKept_exhaustQuiet hr h

theorem ringsKept_owedPost (h : A 1) : ∀ (l : List (List Byte × Nat)) (x : State), RingsKept A s x → RingsKept A s (State.owedPost l x) := by
  intro l
  induction l with
  | nil => exact fun _ hx => hx
  | cons a l ih =>
    intro x hx
    unfold State.owedPost
    split
    · exact ih _ ((ringsKept_return hlog (by decide) h).after ((ringsKept_setRingX h).after hx))
    · exact hx

theorem ringsKept_pump (h : A 1) : RingsKept A s s.ring1Pump := ringsKept_owedPost hlog h _ _ (.refl s)

/-! ### The recorder's records on ring 16 -/

section Recorder
variable (h16 : A 16)
include h16

theorem ringsKept_recComplete : RingsKept A s s.recComplete := by
  unfold State.recComplete
  split
  · exact .refl s
  · exact (ringsKept_return hlog (by decide) h16).after (ringsKept_hostWrite.after ((ringsKept_setRingX h16).after
      (within_setRec _ _).ringsKept))

theorem ringsKept_recMove (i : RecItem) (rest : List RecItem) : RingsKept A s (s.recMove i rest).1 := by
  have hc : ∀ {x : State}, RingsKept A s x → RingsKept A s x.recComplete := fun h => (ringsKept_recComplete hlog h16).after h
  unfold State.recMove
  extract_lets +onlyGivenNames u take
  have hu : RingsKept A s u := by
    subst u
    split
    · split
      · exact hc (.refl s)
      · exact .refl s
    · exact .refl s
  have htake : ∀ b, RingsKept A s (take u b) := fun b => by
    subst take
    have h : RingsKept A s ((u.setRec { u.recorder with fifo := rest, buf := some b }).setRingX 16
        { (u.setRec { u.recorder with fifo := rest, buf := some b }).ringX 16 with wip := 1, episode := false }) :=
      (ringsKept_setRingX h16).after ((within_setRec _ _).ringsKept.after hu)
    dsimp only
    split
    · exact hc h
    · exact h
  clear_value u take
  split
  · exact htake _
  · split
    · exact htake _
    · exact (ringsKept_exhaust hlog (by decide) h16).after hu

theorem ringsKept_recPumpN (n : Nat) : ∀ {x : State}, RingsKept A s x → RingsKept A s (recPumpN n x) := by
  induction n with
  | zero => exact fun h => h
  | succ n ih =>
    intro x hx
    unfold recPumpN
    split
    · exact hx
    next i rest _ =>
      have h := (ringsKept_recMove hlog h16 (s := x) i rest).after hx
      dsimp only
      split
      · exact ih h
      · exact h

theorem ringsKept_recPump : RingsKept A s s.recPump :=
  (ringsKept_setRf (ringWork_trg (by decide))).after (ringsKept_recPumpN hlog h16 _ (.refl s))

end Recorder
end Log
end RingsKept

end Sys2Proof.Machine

/-! Control of the rings: their states, a failed access, the coalescing timer (R363, R365, R366, R370). -/

namespace Sys2Proof.Machine

-- One declaration after another: side by side, their threads' stacks pass the memory limit of a check.
set_option Elab.async false

variable {s t : State} {r : Nat} {v : Word}

/-! ### Rows and writes -/

theorem ringTailRow (r : Fin 32) :
    regRow (Reg.RNG_TAIL r) = some ⟨0xC1014, 0x40, 32, 0x4, 1, 0x0, 0xFFFF, 0x0, 0x0, 0x0, .single, none⟩ := by
  revert r
  decide

theorem ringCtrlRow (r : Fin 32) :
    regRow (Reg.RNG_CTRL r) = some ⟨0xC1000, 0x40, 32, 0x4, 1, 0xC, 0xF3F, 0x0, 0x0, 0x1, .single, none⟩ := by
  revert r
  decide

theorem viewOf_rng {d : Nat} (hr : r < 32) (hd : d < 0x40) : viewOf (0xC1000 + d + 0x40 * r) = 0 := by
  unfold viewOf
  omega

/-- Where a ring has come to hold descriptors, the outputs that wait for it are offered: records of the recorder, completions. -/
def State.ringOffer (s : State) (r : Nat) : State :=
  if r = 16 && s.ringReady 16 then s.recPump else if r = 1 then s.ring1Pump else s

theorem rngHook_tail (hr : r < 32) : s.rngHook (Reg.RNG_TAIL r) v = s.ringOffer r := by
  have h1 : Reg.RNG_TAIL r ≠ Reg.RNG_ERR_INFO := by unfold Reg.RNG_TAIL Reg.RNG_ERR_INFO; omega
  have h2 : ¬ Reg.RNG_TAIL r < 0xC1000 := by unfold Reg.RNG_TAIL; omega
  have h3 : Reg.RNG_TAIL r % 0x40 = 0x14 := by unfold Reg.RNG_TAIL; omega
  have h4 : (Reg.RNG_TAIL r - 0xC1000) / 0x40 = r := by unfold Reg.RNG_TAIL; omega
  unfold State.rngHook
  rw [if_neg h1, if_neg h2, h3, h4]
  rfl

theorem rngHook_ctrl (hr : r < 32) : s.rngHook (Reg.RNG_CTRL r) v = (s.ringEn r (s.rb (Reg.RNG_CTRL r) 0)).ringOffer r := by
  have h1 : Reg.RNG_CTRL r ≠ Reg.RNG_ERR_INFO := by unfold Reg.RNG_CTRL Reg.RNG_ERR_INFO; omega
  have h2 : ¬ Reg.RNG_CTRL r < 0xC1000 := by unfold Reg.RNG_CTRL; omega
  have h3 : Reg.RNG_CTRL r % 0x40 = 0 := by unfold Reg.RNG_CTRL; omega
  have h4 : (Reg.RNG_CTRL r - 0xC1000) / 0x40 = r := by unfold Reg.RNG_CTRL; omega
  unfold State.rngHook
  rw [if_neg h1, if_neg h2, h3, h4]
  rfl

theorem poke_ringTail {r : Fin 32} (h : s.Accepts (Reg.RNG_TAIL r) v) : s.poke (Reg.RNG_TAIL r) v {} =
    (s.setReg (Reg.RNG_TAIL r) (merge 0xFFFF v (s.reg (Reg.RNG_TAIL r)))).ringOffer r := by
  have hu : Reg.RNG_TAIL r / 0x10000 = 12 := by unfold Reg.RNG_TAIL; omega
  rw [h.poke_plain (viewOf_rng (d := 0x14) r.isLt (by decide)) (ringTailRow r) rfl rfl, unitHook_rng hu, rngHook_tail r.isLt]

theorem poke_ringCtrl {r : Fin 32} (h : s.Accepts (Reg.RNG_CTRL r) v) : s.poke (Reg.RNG_CTRL r) v {} =
    ((s.setReg (Reg.RNG_CTRL r) (merge 0xF3F v (s.reg (Reg.RNG_CTRL r)))).ringEn r (bit v 0)).ringOffer r := by
  have hu : Reg.RNG_CTRL r / 0x10000 = 12 := by unfold Reg.RNG_CTRL; omega
  have hb : bit (merge 0xF3F v (s.reg (Reg.RNG_CTRL r))) 0 = bit v 0 := bit_merge.trans (if_pos (by decide))
  rw [h.poke_plain (viewOf_rng (d := 0) r.isLt (by decide)) (ringCtrlRow r) rfl rfl, unitHook_rng hu, rngHook_ctrl r.isLt, State.rb,
    reg_setReg_self, hb]

/-- The rings that are served when a ring comes to hold descriptors. -/
def Offered (q : Nat) : Prop := q = 1 ∨ q = 16 ∨ q = 23

theorem ringsKept_offer : RingsKept Offered s (s.ringOffer r) := by
  unfold State.ringOffer
  split
  · exact ringsKept_recPump (.inr (.inr rfl)) (.inr (.inl rfl))
  · split
    · exact ringsKept_pump (.inr (.inr rfl)) (.inl rfl)
    · exact .refl s

theorem beyond_of_quiet {A : Nat → Prop} {o : Nat} (h : Quiet o) : Beyond A o := by
  refine ⟨h.1, h.2.2, fun r hr _ => ?_⟩
  have := h.2.1
  unfold Reg.RNG_HEAD Reg.RNG_STATUS Reg.RNG_CNT
  omega

/-- The registers of a ring that only the host writes, and those of a failed access. -/
theorem beyond_rng {A : Nat → Prop} {d : Nat} (hr : r < 32) (hd : d ∈ [0x00, 0x08, 0x0C, 0x14, 0x18]) :
    Beyond A (0xC1000 + d + 0x40 * r) := by
  have hd : d < 0x40 ∧ d ≠ 0x04 ∧ d ≠ 0x10 ∧ d ≠ 0x20 ∧ d ≠ 0x24 := by
    simp only [List.mem_cons, List.not_mem_nil, or_false] at hd
    omega
  refine ⟨by omega, by omega, fun q hq _ => ?_⟩
  unfold Reg.RNG_HEAD Reg.RNG_STATUS Reg.RNG_CNT
  omega

theorem beyond_err {A : Nat → Prop} {o : Nat} (h : 0xC0000 ≤ o ∧ o < 0xC1000) : Beyond A o := by
  refine ⟨by omega, by omega, fun q hq _ => ?_⟩
  unfold Reg.RNG_HEAD Reg.RNG_STATUS Reg.RNG_CNT
  omega

/-! ### EN -/

theorem ringEn_enable (h : s.ringState r = 0) : s.ringEn r true = s.setRf (Reg.RNG_STATUS r) 0 2 1 := by
  unfold State.ringEn
  simp only [h]

theorem ringEn_stop (h : s.ringState r = 1) : s.ringEn r false = s.setRf (Reg.RNG_STATUS r) 0 2 2 := by
  unfold State.ringEn
  simp only [h]

theorem ringEn_recover (h : s.ringState r = 3) :
    s.ringEn r false = ((s.ringOff r).setRb Reg.RNG_ERRORS r false).setRingX r { s.ringX r with wip := 0 } := by
  unfold State.ringEn
  simp only [h]

theorem leaves_ringEn {en : Bool} : Leaves (fun o => o ≠ Reg.RNG_STATUS r ∧ o ≠ Reg.RNG_ERRORS) s (s.ringEn r en) := by
  unfold State.ringEn
  split
  · exact leaves_setRf fun c => c.1 rfl
  · exact leaves_setRf fun c => c.1 rfl
  · exact ((leaves_setRf fun c => c.1 rfl).trans (leaves_setRb fun c => c.2 rfl)).trans leaves_setRingX
  · exact .refl s

theorem ringState_setRf {x : Nat} : (s.setRf (Reg.RNG_STATUS r) 0 2 x).ringState r = x % 4 := rf_setRf_self (by decide)

theorem ringState_setCtrl {w : Word} : (s.setReg (Reg.RNG_CTRL r) w).ringState r = s.ringState r := by
  rw [State.ringState, State.rf, reg_setReg_ne (by unfold Reg.RNG_STATUS Reg.RNG_CTRL; omega)]
  rfl

theorem ringOff_state {b : Bool} {x : RingX} (hr : r < 32) : (((s.ringOff r).setRb Reg.RNG_ERRORS r b).setRingX r x).ringState r = 0 := by
  have hne : Reg.RNG_STATUS r ≠ Reg.RNG_ERRORS := by unfold Reg.RNG_STATUS Reg.RNG_ERRORS; omega
  have hx : (((s.ringOff r).setRb Reg.RNG_ERRORS r b).setRingX r x).ringState r = ((s.ringOff r).setRb Reg.RNG_ERRORS r b).ringState r := rfl
  rw [hx, State.ringState, State.rf, reg_setRb, if_neg hne]
  exact rf_setRf_self (by decide)

/-- What the write of RNGr_CTRL leaves, whatever it brings about. -/
theorem ringCtrl_spec {r : Fin 32} {en : Bool} {u : State}
    (hu : u = ((s.setReg (Reg.RNG_CTRL r) (merge 0xF3F v (s.reg (Reg.RNG_CTRL r)))).ringEn r en).ringOffer r) :
    u.reg (Reg.RNG_CTRL r) = merge 0xF3F v (s.reg (Reg.RNG_CTRL r)) ∧ RegsKept s u [] := by
  have hk := ringsKept_offer (s := (s.setReg (Reg.RNG_CTRL r) (merge 0xF3F v (s.reg (Reg.RNG_CTRL r)))).ringEn r en) (r := r)
  rw [← hu] at hk
  have hne : Reg.RNG_CTRL r ≠ Reg.RNG_STATUS r ∧ Reg.RNG_CTRL r ≠ Reg.RNG_ERRORS := by
    unfold Reg.RNG_CTRL Reg.RNG_STATUS Reg.RNG_ERRORS
    omega
  refine ⟨?_, regsKept_iff.2 fun o ho => ?_⟩
  · rw [hk.regs (Reg.RNG_CTRL r) (beyond_rng (d := 0) r.isLt (by simp)), leaves_ringEn _ hne, reg_setReg_self]
  · have h12 := ho.1.2.1
    rw [hk.regs o (beyond_of_quiet ho.1), leaves_ringEn o (by unfold Reg.RNG_STATUS Reg.RNG_ERRORS; omega),
      reg_setReg_ne (by unfold Reg.RNG_CTRL; omega)]

theorem ringStopped_idle (hs : s.ringServed r = true) (h2 : s.ringState r = 2) (hi : s.ringIdle r = true) :
    s.ringStopped r = s.setRf (Reg.RNG_STATUS r) 0 2 0 := by
  unfold State.ringStopped
  rw [if_pos (by simp [hs, h2, hi])]
  rfl

/-! ### A failed access -/

/-- The word that RNG_ERR_INFO takes. -/
theorem errWord_fields {k : Nat} {write : Bool} (hr : r < 32) (hk : k < 8) {w : Word}
    (hw : w = word (r % 32 + 256 * write.toNat + 4096 * (k % 8) + 2 ^ 31)) :
    bit w 31 = true ∧ fld w 0 5 = r ∧ bit w 8 = write ∧ fld w 12 3 = k := by
  have hb : write.toNat ≤ 1 := Bool.toNat_le write
  have hn : w.toNat = r + 256 * write.toNat + 4096 * k + 2 ^ 31 := by
    rw [hw, word, BitVec.toNat_ofNat, Nat.mod_eq_of_lt hr, Nat.mod_eq_of_lt hk, Nat.mod_eq_of_lt (by omega)]
  have hbit : ∀ i, bit w i = decide (w.toNat / 2 ^ i % 2 = 1) := fun i => Nat.testBit_eq_decide_div_mod_eq
  refine ⟨?_, ?_, ?_, ?_⟩
  · rw [hbit, hn, decide_eq_true_eq]
    omega
  · rw [fld, hn, Nat.shiftRight_zero]
    omega
  · rw [hbit, hn]
    cases write with
    | false =>
      rw [decide_eq_false_iff_not, Bool.toNat_false]
      omega
    | true =>
      rw [decide_eq_true_eq, Bool.toNat_true]
      omega
  · rw [fld, hn, Nat.shiftRight_eq_div_pow]
    omega

/-- The capture of a failed access, while none is held. -/
def State.failCapture (s : State) (r : Nat) (write : Bool) (kind addr : Nat) : State :=
  if s.rb Reg.RNG_ERR_INFO 31 then s else
    ((s.setReg Reg.RNG_ERR_INFO (word (r % 32 + 256 * write.toNat + 4096 * (kind % 8) + 2 ^ 31))).setReg
      Reg.RNG_ERR_ADDR_LO (word addr)).setReg Reg.RNG_ERR_ADDR_HI (word (addr >>> 32))

/-- The ring goes to ERROR. -/
def State.failMark (s : State) (r : Nat) : State := (s.setRb Reg.RNG_ERRORS r true).setRf (Reg.RNG_STATUS r) 0 2 3

/-- The ring's output in progress is counted and its recorder buffer let go. -/
def State.failDrop (s : State) (r : Nat) (work : Bool) : State :=
  let x := s.ringX r
  let busy := work || decide (x.wip ≠ 0) || (r = 16 && s.recorder.buf.isSome)
  let s := if busy then s.bump (Reg.RNG_CNT r 1) else s
  let s := s.setRingX r { x with wip := 0 }
  if r = 16 then { s with recorder := { s.recorder with buf := none } } else s

theorem ringFail_eq {write work : Bool} {kind addr : Nat} : s.ringFail r write work kind addr =
    ((((s.failCapture r write kind addr).failMark r).failDrop r work).ringAbandon r).flagRaise (Reg.RNG_STATUS r) 10 25 r := by
  unfold State.ringFail State.failCapture State.failMark State.failDrop
  rfl

theorem leaves_failCapture {write : Bool} {kind addr : Nat} :
    Leaves (fun o => o ∉ [Reg.RNG_ERR_INFO, Reg.RNG_ERR_ADDR_LO, Reg.RNG_ERR_ADDR_HI]) s (s.failCapture r write kind addr) := by
  unfold State.failCapture
  split
  · exact .refl s
  · exact ((leaves_setReg (by simp)).trans (leaves_setReg (by simp))).trans (leaves_setReg (by simp))

theorem leaves_failMark : Leaves (fun o => o ≠ Reg.RNG_ERRORS ∧ o ≠ Reg.RNG_STATUS r) s (s.failMark r) :=
  (leaves_setRb fun c => c.1 rfl).trans (leaves_setRf fun c => c.2 rfl)

theorem failDrop_reg {work : Bool} {o : Nat} : (s.failDrop r work).reg o =
    if o = Reg.RNG_CNT r 1 ∧ (work || decide ((s.ringX r).wip ≠ 0) || (r = 16 && s.recorder.buf.isSome)) = true then
      satWord (s.reg o) 1 else s.reg o := by
  have hrec : ∀ (c : Prop) [Decidable c] (x : State) (z : Recorder), (if c then { x with recorder := z } else x).reg o = x.reg o :=
    fun c _ x z => by split <;> rfl
  have hx : ∀ (x : State) (z : RingX), (x.setRingX r z).reg o = x.reg o := fun _ _ => rfl
  unfold State.failDrop
  dsimp only
  rw [hrec, hx]
  generalize (work || decide ((s.ringX r).wip ≠ 0) || (r = 16 && s.recorder.buf.isSome)) = b
  cases b
  · rw [if_neg (by simp), if_neg (by simp)]
  · rw [if_pos rfl, reg_bump]
    by_cases h : o = Reg.RNG_CNT r 1
    · rw [if_pos h, if_pos ⟨h, rfl⟩, h]
    · rw [if_neg h, if_neg fun c => h c.1]

theorem leaves_ringAbandon :
    Leaves (fun o => r = 10 → o ∉ (List.range 4).map Reg.T1Ss_STATUS) s (s.ringAbandon r) := by
  unfold State.ringAbandon
  split
  · exact .of_regs rfl
  · split
    next h10 =>
      refine Leaves.trans (t := { s with
        t1sTaken := []
        segments := s.segments.map (fun e => (e.1, { e.2 with
          st := .idle, queue := [], n := 0, quiet := if e.2.st = .send || e.2.st = .jam then some s.now else e.2.quiet })) })
        (.of_regs rfl) (Leaves.foldl (fun t g hg => ?_) _)
      have hn : ¬ (r = 10 → Reg.T1Ss_STATUS g ∉ (List.range 4).map Reg.T1Ss_STATUS) := fun c => c h10 (List.mem_map_of_mem hg)
      exact (leaves_setRb hn).trans (leaves_setRb hn)
    next => exact .refl s

theorem quiet_t1sStatus {o : Nat} (h : o ∈ (List.range 4).map Reg.T1Ss_STATUS) : Quiet o := by
  obtain ⟨g, hg, rfl⟩ := List.mem_map.1 h
  have hg := List.mem_range.1 hg
  unfold Reg.T1Ss_STATUS Quiet
  omega

section Failure
variable {write work : Bool} {kind addr : Nat} (hr : r < 32)
include hr

/-- The state in which the flag of a failed access is raised. -/
def State.failed (s : State) (r : Nat) (write work : Bool) (kind addr : Nat) : State :=
  (((s.failCapture r write kind addr).failMark r).failDrop r work).ringAbandon r

theorem ringsKept_ringFail : RingsKept (fun q => q = 23) ((s.failed r write work kind addr).setRb (Reg.RNG_STATUS r) 10 true)
    (s.ringFail r write work kind addr) := by
  rw [ringFail_eq]
  exact ringsKept_raise rfl (by decide)

theorem ringFail_event : (s.ringFail r write work kind addr).event 25 = true := by
  rw [ringFail_eq]
  exact event_flagRaise (by decide)

/-- A register of RNG other than the ring's own STATUS, as the state before the flag has it. -/
theorem ringFail_rng {o : Nat} (h12 : o / 0x10000 = 12) (hb : Beyond (fun q => q = 23) o) (hs : o ≠ Reg.RNG_STATUS r) :
    (s.ringFail r write work kind addr).reg o = (((s.failCapture r write kind addr).failMark r).failDrop r work).reg o := by
  rw [(ringsKept_ringFail hr).regs o hb, reg_setRb, if_neg hs]
  exact leaves_ringAbandon o fun _ c => (quiet_t1sStatus c).2.1 h12

theorem ringFail_state : (s.ringFail r write work kind addr).ringState r = 3 := by
  have hu : Reg.RNG_STATUS r / 0x10000 = 12 := by unfold Reg.RNG_STATUS; omega
  have hc : Reg.RNG_STATUS r ≠ Reg.RNG_CNT r 1 := by unfold Reg.RNG_STATUS Reg.RNG_CNT; omega
  rw [(ringsKept_ringFail hr).states r hr, State.ringState, State.rf, reg_setRb, if_pos rfl, fld_setBit_ne (by decide) (by decide),
    State.failed, leaves_ringAbandon _ fun _ c => (quiet_t1sStatus c).2.1 hu, failDrop_reg, if_neg fun c => hc c.1]
  exact rf_setRf_self (by decide)

theorem ringFail_errors : (s.ringFail r write work kind addr).rb Reg.RNG_ERRORS r = true := by
  have hs : Reg.RNG_ERRORS ≠ Reg.RNG_STATUS r := by unfold Reg.RNG_ERRORS Reg.RNG_STATUS; omega
  have hc : Reg.RNG_ERRORS ≠ Reg.RNG_CNT r 1 := by unfold Reg.RNG_ERRORS Reg.RNG_CNT; omega
  rw [State.rb, ringFail_rng hr rfl (beyond_err (by decide)) hs, failDrop_reg, if_neg fun c => hc c.1, State.failMark, reg_setRf, if_neg hs]
  exact rb_setRb_self hr

theorem ringFail_quiet : RegsKept s (s.ringFail r write work kind addr)
    (if r = 10 then (List.range 4).map Reg.T1Ss_STATUS else []) := by
  refine regsKept_iff.2 fun o ho => ?_
  have h12 := ho.1.2.1
  have hs : o ≠ Reg.RNG_STATUS r := by unfold Reg.RNG_STATUS; omega
  have hc : o ≠ Reg.RNG_CNT r 1 := by unfold Reg.RNG_CNT; omega
  have he : o ≠ Reg.RNG_ERRORS := by unfold Reg.RNG_ERRORS; omega
  have hi : o ∉ [Reg.RNG_ERR_INFO, Reg.RNG_ERR_ADDR_LO, Reg.RNG_ERR_ADDR_HI] := by
    simp only [Reg.RNG_ERR_INFO, Reg.RNG_ERR_ADDR_LO, Reg.RNG_ERR_ADDR_HI, List.mem_cons, List.not_mem_nil, or_false]
    omega
  rw [(ringsKept_ringFail hr).regs o (beyond_of_quiet ho.1), reg_setRb, if_neg hs, State.failed,
    leaves_ringAbandon o fun h10 => by simpa only [if_pos h10] using ho.2, failDrop_reg, if_neg fun c => hc c.1,
    leaves_failMark o ⟨he, hs⟩, leaves_failCapture o hi]

theorem ringFail_count (hw : work = true) (h23 : r ≠ 23) :
    (s.ringFail r write work kind addr).reg (Reg.RNG_CNT r 1) = satWord (s.reg (Reg.RNG_CNT r 1)) 1 := by
  have hs : Reg.RNG_CNT r 1 ≠ Reg.RNG_STATUS r := by unfold Reg.RNG_CNT Reg.RNG_STATUS; omega
  have hu : Reg.RNG_CNT r 1 / 0x10000 = 12 := by unfold Reg.RNG_CNT; omega
  have he : Reg.RNG_CNT r 1 ≠ Reg.RNG_ERRORS := by unfold Reg.RNG_CNT Reg.RNG_ERRORS; omega
  have hi : Reg.RNG_CNT r 1 ∉ [Reg.RNG_ERR_INFO, Reg.RNG_ERR_ADDR_LO, Reg.RNG_ERR_ADDR_HI] := by
    simp only [Reg.RNG_CNT, Reg.RNG_ERR_INFO, Reg.RNG_ERR_ADDR_LO, Reg.RNG_ERR_ADDR_HI, List.mem_cons, List.not_mem_nil, or_false]
    omega
  have hb : Beyond (fun q => q = 23) (Reg.RNG_CNT r 1) := by
    refine ⟨by omega, by omega, fun q _ hq => ?_⟩
    unfold Reg.RNG_HEAD Reg.RNG_STATUS Reg.RNG_CNT
    omega
  rw [ringFail_rng hr hu hb hs, failDrop_reg, if_pos ⟨rfl, by rw [hw]; rfl⟩, leaves_failMark _ ⟨he, hs⟩, leaves_failCapture _ hi]

/-- The capture, as the state right after it has it. -/
theorem ringFail_capture {o : Nat} (ho : o ∈ [Reg.RNG_ERR_INFO, Reg.RNG_ERR_ADDR_LO]) :
    (s.ringFail r write work kind addr).reg o = (s.failCapture r write kind addr).reg o := by
  have h : o = 0xc0000 ∨ o = 0xc0008 := by simpa [Reg.RNG_ERR_INFO, Reg.RNG_ERR_ADDR_LO] using ho
  have hs : o ≠ Reg.RNG_STATUS r := by unfold Reg.RNG_STATUS; omega
  have hc : o ≠ Reg.RNG_CNT r 1 := by unfold Reg.RNG_CNT; omega
  rw [ringFail_rng hr (by omega) (beyond_err (by omega)) hs, failDrop_reg, if_neg fun c => hc c.1,
    leaves_failMark o ⟨by unfold Reg.RNG_ERRORS; omega, hs⟩]

theorem ringFail_info (hk : kind < 8) (h : s.rb Reg.RNG_ERR_INFO 31 = false) {u : State} (hu : u = s.ringFail r write work kind addr) :
    u.rb Reg.RNG_ERR_INFO 31 = true ∧ u.rf Reg.RNG_ERR_INFO 0 5 = r ∧ u.rb Reg.RNG_ERR_INFO 8 = write ∧
      u.rf Reg.RNG_ERR_INFO 12 3 = kind ∧ u.reg Reg.RNG_ERR_ADDR_LO = word addr := by
  have hcap : ∀ o, (s.failCapture r write kind addr).reg o =
      (((s.setReg Reg.RNG_ERR_INFO (word (r % 32 + 256 * write.toNat + 4096 * (kind % 8) + 2 ^ 31))).setReg
        Reg.RNG_ERR_ADDR_LO (word addr)).setReg Reg.RNG_ERR_ADDR_HI (word (addr >>> 32))).reg o := fun o => by
    rw [State.failCapture, if_neg (by rw [h]; exact Bool.false_ne_true)]
  have hinfo : u.reg Reg.RNG_ERR_INFO = word (r % 32 + 256 * write.toNat + 4096 * (kind % 8) + 2 ^ 31) := by
    rw [hu, ringFail_capture hr (by simp), hcap, reg_setReg_ne (by decide), reg_setReg_ne (by decide), reg_setReg_self]
  obtain ⟨h31, h0, h8, h12⟩ := errWord_fields hr hk hinfo
  refine ⟨h31, h0, h8, h12, ?_⟩
  rw [hu, ringFail_capture hr (by simp), hcap, reg_setReg_ne (by decide), reg_setReg_self]

theorem ringFail_held (h : s.rb Reg.RNG_ERR_INFO 31 = true) :
    (s.ringFail r write work kind addr).reg Reg.RNG_ERR_INFO = s.reg Reg.RNG_ERR_INFO := by
  rw [ringFail_capture hr (by simp), State.failCapture, if_pos h]

end Failure

/-! ### The coalescing timer -/

theorem ringTimer_spec (hr : r < 32) :
    (((s.setRingX r { s.ringX r with pend := 0 }).setRb (Reg.RNG_STATUS r) 8 true).ringEvent r).rb (Reg.RNG_STATUS r) 8 = true ∧
      (r ≠ 23 → ((((s.setRingX r { s.ringX r with pend := 0 }).setRb (Reg.RNG_STATUS r) 8 true).ringEvent r).ringX r).pend = 0) ∧
      (((s.setRingX r { s.ringX r with pend := 0 }).setRb (Reg.RNG_STATUS r) 8 true).ringEvent r).event
        (if ringH2D r then 22 else 23) = true := by
  have hk := ringsKept_ringEvent (A := fun q => q = 23) rfl
    (s := (s.setRingX r { s.ringX r with pend := 0 }).setRb (Reg.RNG_STATUS r) 8 true) (r := r)
  refine ⟨hk.flags r 8 hr (by decide) (rb_setRb_self (by decide)), fun h => ?_, ?_⟩
  · rw [hk.ringX r h]
    exact congrArg RingX.pend (ringX_setRingX.trans (if_pos rfl))
  · have he : (if ringH2D r then 22 else 23) < 64 := by split <;> decide
    unfold State.ringEvent
    dsimp only
    split
    · exact keepsEvents_raise (by decide) _ he (event_raise he)
    · exact event_raise he

/-- Settles O24: the states as RNGr_CTRL and failures set them, and what serving other rings leaves of them. -/
theorem ringStatesErrorsAndTimer : Obligations.RingStatesErrorsAndTimer := by
  unfold Obligations.RingStatesErrorsAndTimer
  refine ⟨fun s r => ⟨fun v h h16 h1 => ?_, fun v h => ?_, fun v h he h0 => ?_, fun v h he => ?_, fun hs h2 hi => ?_, fun h => ?_⟩,
    fun s r hserved => ⟨fun write work kind addr h => ?_, fun write work kind addr h => ?_, fun h => ?_, fun h1 h2 h3 => ?_⟩⟩
  · refine congrArg Host.Outcome.next ((poke_ringTail h).trans ?_)
    unfold State.ringOffer
    rw [if_neg (by simp [h16])]
    split
    next hr =>
      have ho : ((s.setReg (Reg.RNG_TAIL r) (merge 0xFFFF v (s.reg (Reg.RNG_TAIL r)))).ringX 1).owed = [] := h1 hr
      rw [State.ring1Pump, ho]
      rfl
    next => rfl
  · refine ⟨_, congrArg Host.Outcome.next (poke_ringTail h), ?_⟩
    rw [State.ringTail, State.rf, ringsKept_offer.regs (Reg.RNG_TAIL r) (beyond_rng (d := 0x14) r.isLt (by simp)), reg_setReg_self]
    exact fld_merge (by decide)
  · obtain ⟨hctrl, hkept⟩ := ringCtrl_spec (v := v) (s := s) (r := r) (en := bit v 0) rfl
    refine ⟨_, congrArg Host.Outcome.next (poke_ringCtrl h), ?_, ?_, ?_, hkept⟩
    · rw [ringsKept_offer.states r r.isLt, he, ringEn_enable (ringState_setCtrl.trans h0)]
      exact ringState_setRf
    · rw [State.rb, hctrl, bit_merge, if_pos (by decide), he]
    · rw [State.ringSize, State.rf, hctrl, fld_merge (by decide)]
  · obtain ⟨hctrl, hkept⟩ := ringCtrl_spec (v := v) (s := s) (r := r) (en := bit v 0) rfl
    refine ⟨_, congrArg Host.Outcome.next (poke_ringCtrl h), ?_, hkept, fun h1 => ?_, fun h3 => ⟨?_, ?_⟩⟩
    · rw [State.rb, hctrl, bit_merge, if_pos (by decide), he]
    · rw [ringsKept_offer.states r r.isLt, he, ringEn_stop (ringState_setCtrl.trans h1)]
      exact ringState_setRf
    · rw [ringsKept_offer.states r r.isLt, he, ringEn_recover (ringState_setCtrl.trans h3)]
      exact ringOff_state r.isLt
    · rw [ringsKept_offer.regs.rb (beyond_err (by decide)), he, ringEn_recover (ringState_setCtrl.trans h3)]
      exact (leaves_setRingX (P := fun _ => True)).rb trivial r |>.trans (rb_setRb_self r.isLt)
  · exact ⟨_, congrArg Host.Outcome.next (ringStopped_idle hs h2 hi), ringState_setRf, leaves_setRf (by simp), rfl⟩
  · refine congrArg Host.Outcome.next (if_neg ?_)
    simp only [Bool.and_eq_true, decide_eq_true_eq]
    rintro ⟨⟨_, h2⟩, hi⟩
    rcases h with h | h
    · exact h h2
    · rw [h] at hi
      exact absurd hi Bool.false_ne_true
  · obtain ⟨x, hx, hreg⟩ : ∃ x : State, s.ringDmaError r write work kind addr = x.ringFail r write work (kind + 1) addr ∧ x.regs = s.regs := by
      have hif : (s.ringServed r && (decide (s.ringState r = 1) || decide (s.ringState r = 2))) = true := by simp [hserved, h]
      unfold State.ringDmaError
      rw [if_pos hif]
      refine ⟨_, rfl, ?_⟩
      split
      · rfl
      · split <;> rfl
    have hk := kind.isLt
    have hr := r.isLt
    have heq : Leaves (fun _ => True) s x := .of_regs hreg
    have hrb : ∀ o i, x.rb o i = s.rb o i := fun o i => heq.rb trivial i
    refine ⟨_, congrArg Host.Outcome.next hx, ringFail_state hr, ringFail_errors hr, ringFail_event hr, ?_, fun hw h23 => ?_, fun h0 => ?_,
      fun h1 => ?_⟩
    · have hq := regsKept_iff.1 (ringFail_quiet (s := x) (write := write) (work := work) (kind := kind + 1) (addr := addr) hr)
      exact regsKept_iff.2 ((heq.mono fun _ _ => trivial).trans hq)
    · rw [ringFail_count hr hw h23, heq _ trivial]
    · exact ringFail_info hr (by omega) ((hrb _ _).trans h0) rfl
    · rw [ringFail_held hr ((hrb _ _).trans h1), heq _ trivial]
  · refine congrArg Host.Outcome.next (if_neg ?_)
    rcases h with h | h <;> simp [h]
  · refine congrArg Host.Outcome.next ?_
    unfold State.ringTimer
    dsimp only
    rw [if_neg]
    simp only [Bool.and_eq_true, decide_eq_true_eq]
    rintro ⟨⟨⟨_, h1⟩, h2⟩, h3⟩
    rcases h with h | h | h
    · exact h1 h
    · exact h2 h
    · omega
  · exact ⟨_, congrArg Host.Outcome.next (if_pos (by simp [hserved, h1, h2, h3])), ringTimer_spec r.isLt⟩

end Sys2Proof.Machine

/-! Descriptors of ring 0 and COPY (R364, R377, R378). -/

namespace Sys2Proof.Machine

-- One declaration after another: side by side, their threads' stacks pass the memory limit of a check.
set_option Elab.async false

variable {s t : State} {r : Nat} {v : Word}

/-! ### A returned descriptor moves HEAD on -/

/-- The state in which a return counts the descriptor and looks at the threshold. -/
def State.returned (s : State) (r : Nat) (body : List Byte) (st : Nat) : State :=
  let a := s.descAddr r (s.ringHead r)
  let s := (s.hostWrite a (body.take 28)).hostWrite (a + 28) (leBytes 4 st)
  s.setRf (Reg.RNG_HEAD r) 0 16 ((s.ringHead r + 1) % s.ringSize r)

section Return
variable {body : List Byte} {st : Nat} (hr : r < 32)
include hr

theorem returned_head : (s.returned r body st).ringHead r = s.ringNext r := rf_setRf_self (by decide)

theorem returnQuiet_head : (s.ringReturnQuiet r body st).1.ringHead r = s.ringNext r := by
  have h1 : Reg.RNG_HEAD r ≠ Reg.RNG_CNT r 0 := by unfold Reg.RNG_HEAD Reg.RNG_CNT; omega
  have h2 : Reg.RNG_HEAD r ≠ Reg.RNG_STATUS r := by unfold Reg.RNG_HEAD Reg.RNG_STATUS; omega
  have hb : ∀ x : State, (x.bump (Reg.RNG_CNT r 0)).ringHead r = x.ringHead r := fun x => by
    rw [State.ringHead, State.rf, reg_bump, if_neg h1]
    rfl
  have hs : ∀ x : State, (x.setRb (Reg.RNG_STATUS r) 8 true).ringHead r = x.ringHead r := fun x => by
    rw [State.ringHead, State.rf, reg_setRb, if_neg h2]
    rfl
  have hx : ∀ (x : State) (z : RingX), (x.setRingX r z).ringHead r = x.ringHead r := fun _ _ => rfl
  unfold State.ringReturnQuiet
  dsimp only
  split
  · rw [hx, hs, hb]
    exact returned_head hr
  · rw [hx, hb]
    exact returned_head hr

theorem beyond_head {A : Nat → Prop} (h : ¬ A r) : Beyond A (Reg.RNG_HEAD r) := by
  refine ⟨by unfold Reg.RNG_HEAD; omega, by unfold Reg.RNG_HEAD; omega, fun q hq hA => ?_⟩
  have hne : q ≠ r := fun c => h (c ▸ hA)
  unfold Reg.RNG_HEAD Reg.RNG_STATUS Reg.RNG_CNT
  omega

theorem RingsKept.head {A : Nat → Prop} (hk : RingsKept A s t) (h : ¬ A r) : t.ringHead r = s.ringHead r := by
  rw [State.ringHead, State.rf, hk.regs _ (beyond_head hr h)]
  rfl

theorem ringReturn_head (h23 : r ≠ 23) : (s.ringReturn r body st).ringHead r = s.ringNext r := by
  unfold State.ringReturn
  dsimp only
  split
  · rw [(ringsKept_ringEvent (A := fun q => q = 23) rfl).head hr h23, returnQuiet_head hr]
  · exact returnQuiet_head hr

end Return

/-- The return of another ring's descriptor. -/
theorem ringsKept_returnOf {body : List Byte} {st q : Nat} (hq : q < 32) :
    RingsKept (fun k => k = q ∨ k = 23) s (s.ringReturn q body st) := ringsKept_return (.inr rfl) hq (.inl rfl)

theorem RingsKept.quiet {A : Nat → Prop} (h : RingsKept A s t) : Leaves Quiet s t := h.regs.mono fun _ => beyond_of_quiet

/-- What the part looks at to say whether a ring is ready. -/
theorem RingsKept.ready {A : Nat → Prop} (hk : RingsKept A s t) (hr : r < 32) (h : ¬ A r) : t.ringReady r = s.ringReady r := by
  have hctrl : t.ringSize r = s.ringSize r := by
    rw [State.ringSize, State.rf, hk.regs (Reg.RNG_CTRL r) (beyond_rng (d := 0) hr (by simp))]
    rfl
  have htail : t.ringTail r = s.ringTail r := by
    rw [State.ringTail, State.rf, hk.regs (Reg.RNG_TAIL r) (beyond_rng (d := 0x14) hr (by simp))]
    rfl
  have hdom : ∀ d, t.domOn d = s.domOn d := fun d => hk.quiet.rb (by decide) d
  have hpwr : t.pwrState = s.pwrState := hk.quiet.rf (by decide) _ _
  rw [State.ringReady, State.ringServed, State.ringHolds, hdom, hdom, hpwr, hk.states r hr, hctrl, htail, hk.head hr h]
  rfl

/-! ### A completion on ring 1 -/

theorem postOwed_ready {body : List Byte} {st : Nat} (ho : (s.ringX 1).owed = []) (hr : s.ringReady 1 = true) :
    ∃ x : State, s.postOwed body st = x.ringReturn 1 body (statusWord false false false st 0) ∧ RingsKept (fun k => k = 1) s x ∧
      x.ringNext 1 = s.ringNext 1 := by
  have hx : ∀ z, RingsKept (fun k => k = 1) s (s.setRingX 1 z) := fun _ => ringsKept_setRingX rfl
  have hready : ∀ z, (s.setRingX 1 z).ringReady 1 = true := fun _ => hr
  have howed : ∀ z, ((s.setRingX 1 z).ringX 1).owed = z.owed := fun z => congrArg RingX.owed (ringX_setRingX.trans (if_pos rfl))
  refine ⟨(s.setRingX 1 { s.ringX 1 with owed := (s.ringX 1).owed ++ [(body, st)] }).setRingX 1
    { (s.setRingX 1 { s.ringX 1 with owed := (s.ringX 1).owed ++ [(body, st)] }).ringX 1 with owed := [] }, ?_,
    (ringsKept_setRingX (A := fun k => k = 1) rfl).after (hx _), rfl⟩
  unfold State.postOwed
  rw [if_pos hr, State.ring1Pump, howed, ho, List.nil_append, State.owedPost, if_pos (hready _), State.owedPost]

/-! ### Ring 0 -/

theorem readReg_regs {off : Nat} : (s.readReg off).1.regs = s.regs := (within_readReg s off).regs rfl

theorem runWrites_one {a : Nat × Word} : runWrites [a] s = s.put {} singleWrite a.1 a.2 := by
  obtain ⟨o, w⟩ := a
  have h : ∀ p : State × Bool, (if p.2 = true then p else if p.1.pwr.start.isSome = true then p else (p.1, false)) = p := fun p => by
    rcases p with ⟨x, _ | _⟩
    · exact (if_neg Bool.false_ne_true).trans (ite_self _)
    · exact if_pos rfl
  unfold runWrites runWrites
  exact h _

/-- A descriptor of ring 0 that is neither kept waiting by a completion nor by ring 1. -/
theorem ring0Take_taken {ops : Nat → Bool} {w : Nat} (hw : le (s.headDesc 0) 0 4 = w) (hops : ops (w % 4) = true)
    (hready : s.ringReady 0 = true) (ho : (s.ringX 1).owed = []) :
    s.ring0Take ops =
      if ((decide (w / 16 % 2 = 1) || decide (w % 4 = 2)) && !s.ringReady 1) = true then s.ringExhaust 1 false
      else if w % 4 = 1 then
        if w / 4 % 4 = 0 then (s.setRingX 0 { s.ringX 0 with episode := false }).ring0Return (s.headDesc 0) (s.ringHead 0)
          (decide (w / 16 % 2 = 1) || decide (w % 4 = 2)) 0 1
        else
          (runWrites ((List.range (w / 4 % 4)).map (ring0Access (s.headDesc 0))) (s.setRingX 0 { s.ringX 0 with episode := false })).1.ring0Return
            (s.headDesc 0) (s.ringHead 0) (decide (w / 16 % 2 = 1) || decide (w % 4 = 2)) 0
            (if (runWrites ((List.range (w / 4 % 4)).map (ring0Access (s.headDesc 0))) (s.setRingX 0 { s.ringX 0 with episode := false })).2
              then 10 else 0)
      else if w % 4 = 2 then
        ((s.setRingX 0 { s.ringX 0 with episode := false }).getDW singleRead (ring0Access (s.headDesc 0) 0).1).1.ring0Return (s.headDesc 0)
          (s.ringHead 0) true
          (((s.setRingX 0 { s.ringX 0 with episode := false }).getDW singleRead (ring0Access (s.headDesc 0) 0).1).2.getD 0)
          (if ((s.setRingX 0 { s.ringX 0 with episode := false }).getDW singleRead (ring0Access (s.headDesc 0) 0).1).2.isSome then 0 else 10)
      else (s.setRingX 0 { s.ringX 0 with episode := false }).ring0Return (s.headDesc 0) (s.ringHead 0)
        (decide (w / 16 % 2 = 1) || decide (w % 4 = 2)) 0 1 := by
  subst hw
  unfold State.ring0Take
  dsimp only
  rw [if_neg (by simp [hops, hready, ho])]

/-- Ring 0 as a descriptor of it is taken: the episode of exhaustion is over. -/
def State.ring0Begun (s : State) : State := s.setRingX 0 { s.ringX 0 with episode := false }

/-- A WRITE of one value without a completion. -/
theorem ring0Take_write {ops : Nat → Bool} (hops : ops 1 = true) (hready : s.ringReady 0 = true) (ho : (s.ringX 1).owed = [])
    (hw : le (s.headDesc 0) 0 4 % 32 = 5) {a : Nat × Word} (ha : ring0Access (s.headDesc 0) 0 = a) : ∃ st,
      s.ring0Take ops = (s.ring0Begun.put {} singleWrite a.1 a.2).1.ring0Return (s.headDesc 0) (s.ringHead 0) false 0 st := by
  have h4 : le (s.headDesc 0) 0 4 % 4 = 1 := by omega
  have hb : (decide (le (s.headDesc 0) 0 4 / 16 % 2 = 1) || decide (le (s.headDesc 0) 0 4 % 4 = 2)) = false := by
    rw [h4, decide_eq_false (by omega), decide_eq_false (by decide), Bool.or_false]
  have hlist : (List.range (le (s.headDesc 0) 0 4 / 4 % 4)).map (ring0Access (s.headDesc 0)) = [a] := by
    have hc : le (s.headDesc 0) 0 4 / 4 % 4 = 1 := by omega
    rw [hc, List.range_one, List.map_singleton, ha]
  rw [ring0Take_taken rfl (by rw [h4, hops]) hready ho, hb, Bool.false_and, if_neg Bool.false_ne_true, if_pos h4,
    if_neg (by omega), hlist, runWrites_one]
  exact ⟨_, rfl⟩

/-- A READ whose register may be read. -/
theorem ring0Take_read {ops : Nat → Bool} (hops : ops 2 = true) (hready : s.ringReady 0 = true) (h1 : s.ringReady 1 = true)
    (ho : (s.ringX 1).owed = []) (hw : le (s.headDesc 0) 0 4 % 4 = 2) {a : Nat × Word} (ha : ring0Access (s.headDesc 0) 0 = a) :
    ∃ v st, s.ring0Take ops = (s.ring0Begun.getDW singleRead a.1).1.ring0Return (s.headDesc 0) (s.ringHead 0) true v st := by
  have hb : (decide (le (s.headDesc 0) 0 4 / 16 % 2 = 1) || decide (le (s.headDesc 0) 0 4 % 4 = 2)) = true := by simp [hw]
  rw [ring0Take_taken rfl (by rw [hw, hops]) hready ho, hb, h1, if_neg (by decide), if_neg (by omega), if_pos hw, ha]
  exact ⟨_, _, rfl⟩

theorem ring0Return_performed {d : List Byte} {idx st : Nat} {cpl : Bool} (hs : s.pwr.start = none) (hv : s.ringServed 0 = true)
    (hi : s.ringHead 0 = idx) : s.ring0Return d idx cpl v st =
      if cpl then (s.ringReturn 0 (d.take 28) (statusWord false false false st 0)).postCompletion idx (le d 2 2) v st
      else s.ringReturn 0 (d.take 28) (statusWord false false false st 0) := by
  unfold State.ring0Return
  rw [if_neg (by simp [hs, hv, hi])]

theorem readCause_congr {off : Nat} (h : t.reachable (normOf off) = s.reachable (normOf off)) : t.readCause off = s.readCause off := by
  unfold State.readCause
  rw [h]

theorem ring0Begun_reachable {off : Nat} : s.ring0Begun.reachable off = s.reachable off := by
  unfold State.reachable
  rfl

theorem ring0Begun_kept : RingsKept (fun q => q = 0) s s.ring0Begun := ringsKept_setRingX rfl

theorem ringServed_of_dom (h : s.domOn pdSch = true) : s.ringServed r = true := by
  rw [State.ringServed, h, Bool.true_or]

theorem domOn_congr {d : Nat} (h : t.reg Reg.PWR_DOMAIN_STATUS = s.reg Reg.PWR_DOMAIN_STATUS) : t.domOn d = s.domOn d := by
  rw [State.domOn, State.rb, h]
  rfl

theorem ringNext_congr (h : t.regs = s.regs) : t.ringNext r = s.ringNext r := by
  rw [State.ringNext, State.ringHead, State.ringSize, State.rf, State.rf, State.reg, State.reg, h]
  rfl

theorem ringWrite_spec {k : Fin 4} {ops : Nat → Bool} (hs : s.pwr.start = none) (ho : (s.ringX 1).owed = []) (hops : ops 1 = true)
    (hd : s.domOn pdSch = true) (hready : s.ringReady 0 = true) (hw : le (s.headDesc 0) 0 4 % 32 = 5)
    (ha : ring0Access (s.headDesc 0) 0 = (Reg.GLB_SCRATCH k, v)) :
    (s.ring0Take ops).reg (Reg.GLB_SCRATCH k) = v ∧ (s.ring0Take ops).ringHead 0 = s.ringNext 0 ∧
      RegsKept s (s.ring0Take ops) [Reg.GLB_SCRATCH k] := by
  have hquiet : Quiet (Reg.GLB_SCRATCH k) := by
    unfold Reg.GLB_SCRATCH Quiet
    omega
  have hne : ∀ o, 0x20000 ≤ o → o ≠ Reg.GLB_SCRATCH k := fun o ho => by
    unfold Reg.GLB_SCRATCH
    omega
  obtain ⟨st, heq⟩ := ring0Take_write hops hready ho hw ha
  have hdom : (s.ring0Begun.setReg (Reg.GLB_SCRATCH k) v).domOn pdSch = true :=
    (domOn_congr (reg_setReg_ne (hne _ (by decide)))).trans hd
  have hhead : (s.ring0Begun.setReg (Reg.GLB_SCRATCH k) v).ringHead 0 = s.ringHead 0 := by
    rw [State.ringHead, State.rf, reg_setReg_ne (hne _ (by decide))]
    rfl
  have hnext : (s.ring0Begun.setReg (Reg.GLB_SCRATCH k) v).ringNext 0 = s.ringNext 0 := by
    rw [State.ringNext, hhead, State.ringSize, State.rf, reg_setReg_ne (hne _ (by decide))]
    rfl
  rw [heq, put_scratch, ring0Return_performed (s := s.ring0Begun.setReg (Reg.GLB_SCRATCH k) v) hs (ringServed_of_dom hdom) hhead, if_neg Bool.false_ne_true]
  refine ⟨?_, (ringReturn_head (by decide) (by decide)).trans hnext, regsKept_iff.2 ?_⟩
  · rw [leaves_ringReturn (fun _ h => h) (by decide) _ hquiet, reg_setReg_self]
  · refine Leaves.trans (t := s.ring0Begun.setReg (Reg.GLB_SCRATCH k) v) ?_ (leaves_ringReturn (fun _ h => h.1) (by decide))
    exact (ring0Begun_kept.quiet.mono fun _ h => h.1).trans (leaves_setReg (by simp))

theorem ringRead_spec {ops : Nat → Bool} (hs : s.pwr.start = none) (ho : (s.ringX 1).owed = []) (hops : ops 2 = true)
    (hd : s.domOn pdSch = true) (hready : s.ringReady 0 = true) (h1 : s.ringReady 1 = true) (hw : le (s.headDesc 0) 0 4 % 4 = 2)
    {a : Nat × Word} (ha : ring0Access (s.headDesc 0) 0 = a) (hc : s.readCause a.1 = 0) :
    (s.ring0Take ops).ringHead 0 = s.ringNext 0 ∧ (s.ring0Take ops).ringHead 1 = s.ringNext 1 ∧ RegsKept s (s.ring0Take ops) [] := by
  obtain ⟨v, st, heq⟩ := ring0Take_read hops hready h1 ho hw ha
  obtain ⟨x, hx⟩ : ∃ x, (s.ring0Begun.getDW singleRead a.1).1 = x := ⟨_, rfl⟩
  have hget : x = (s.ring0Begun.readReg a.1).1 := by
    rw [← hx, State.getDW]
    dsimp only
    rw [if_neg (by rw [readCause_congr ring0Begun_reachable, hc]; decide)]
  have hread := within_readReg s.ring0Begun a.1
  rw [← hget] at hread
  have hk : RingsKept (fun q => q = 0) s x := hread.ringsKept.after ring0Begun_kept
  have hregs : x.regs = s.regs := hread.regs rfl
  have hpwr : x.pwr.start = none := (congrArg Power.start (hread.pwr rfl)).trans hs
  have hdom : x.domOn pdSch = true := (hk.quiet.rb (by decide) _).trans hd
  have hhead : x.ringHead 0 = s.ringHead 0 := by
    rw [State.ringHead, State.rf, State.reg, hregs]
    rfl
  obtain ⟨y, hy⟩ : ∃ y, x.ringReturn 0 ((s.headDesc 0).take 28) (statusWord false false false st 0) = y := ⟨_, rfl⟩
  have hky : RingsKept (fun q => q = 0 ∨ q = 23) x y := hy ▸ ringsKept_returnOf (by decide)
  have hready1 : y.ringReady 1 = true := (hky.ready (by decide) (by decide)).trans ((hk.ready (by decide) (by decide)).trans h1)
  have howed : (y.ringX 1).owed = [] := by rw [hky.ringX 1 (by decide), hk.ringX 1 (by decide), ho]
  have hnext1 : y.ringNext 1 = s.ringNext 1 := by
    have hsize : y.ringSize 1 = x.ringSize 1 := by
      rw [State.ringSize, State.rf, hky.regs (Reg.RNG_CTRL 1) (beyond_rng (d := 0) (by decide) (by simp))]
      rfl
    rw [State.ringNext, hky.head (by decide) (by decide), hsize]
    exact ringNext_congr hregs
  obtain ⟨z, hz, hkz, hnz⟩ := postOwed_ready (body := leBytes 4 (s.ringHead 0 % 65536 + 65536 * le (s.headDesc 0) 2 2) ++ leBytes 4 v.toNat ++
    List.replicate 20 0) (st := st) howed hready1
  have hfin : s.ring0Take ops = z.ringReturn 1 (leBytes 4 (s.ringHead 0 % 65536 + 65536 * le (s.headDesc 0) 2 2) ++ leBytes 4 v.toNat ++
      List.replicate 20 0) (statusWord false false false st 0) := by
    rw [heq, hx, ring0Return_performed hpwr (ringServed_of_dom hdom) hhead, if_pos rfl, hy, State.postCompletion, hz]
  rw [hfin]
  refine ⟨?_, (ringReturn_head (by decide) (by decide)).trans (hnz.trans hnext1), regsKept_iff.2 ?_⟩
  · rw [(ringsKept_returnOf (by decide)).head (by decide) (by decide), hkz.head (by decide) (by decide), ← hy,
      ringReturn_head (by decide) (by decide)]
    exact ringNext_congr hregs
  · exact (((hk.quiet.trans hky.quiet).trans hkz.quiet).trans (ringsKept_returnOf (by decide)).quiet).mono fun _ h => h.1

/-! ### COPY -/

section Copy
variable {host hbm n : Nat} {d : List Byte} {ecc : Option Nat} {ce : List Nat}

/-- A COPY in HBM3's range, with its fields read out. -/
theorem copyTake_taken (hd : s.headDesc r = d) (hready : s.ringReady r = true) (h24 : 24 ≤ r) (hrole : s.rf (Reg.RNG_CTRL r) 8 4 = 1)
    (hmem : s.domOn pdMem = true) (hhost : le d 0 8 = host) (hhbm : le d 8 4 + 2 ^ 32 * (le d 0x0C 4 % 4) = hbm)
    (hn : le d 0x10 4 % 2 ^ 28 = n) (hin : n = 0 ∨ hbm + n ≤ hbmSize) (hdown : n = 0 ∨ le d 0x0C 4 / 2 ^ 31 = 1 ∨ hbm + n ≤ cacheBase) :
    s.copyTake r ecc ce =
      if n = 0 then s.ringReturn r (d.take 28) (statusWord false false false 1 0)
      else if le d 0x0C 4 / 2 ^ 31 = 1 then
        if ecc.isSome then
          let x := ce.foldl (fun s k => s.memCe (hbm + k % n)) s
          let k := ecc.getD 0
          (((x.draw 28).2.hostWrite host (x.hbmRead hbm ((x.draw 28).1 % (k % n + 1)))).memUe (hbm + k % n)).ringReturn r (d.take 28)
            (statusWord false false false 7 0)
        else ((ce.foldl (fun s k => s.memCe (hbm + k % n)) s).hostWrite host
          ((ce.foldl (fun s k => s.memCe (hbm + k % n)) s).hbmRead hbm n)).ringReturn r (d.take 28) (statusWord false false false 0 0)
      else (s.hbmWrite hbm (s.hostRead host n)).ringReturn r (d.take 28) (statusWord false false false 0 0) := by
  subst hd hhost hhbm hn
  have hif : ¬ (!(s.ringReady r && decide (24 ≤ r) && decide (s.rf (Reg.RNG_CTRL r) 8 4 = 1))) = true := by simp [hready, h24, hrole]
  unfold State.copyTake
  rw [if_neg hif]
  dsimp only
  by_cases h0 : le (s.headDesc r) 0x10 4 % 2 ^ 28 = 0
  · rw [if_pos h0, if_pos h0]
  · have h1 := hin.resolve_left h0
    have h2 := hdown.resolve_left h0
    have hrange : ¬ (decide (hbmSize < le (s.headDesc r) 8 4 + 2 ^ 32 * (le (s.headDesc r) 0x0C 4 % 4) + le (s.headDesc r) 0x10 4 % 2 ^ 28) ||
        (!decide (le (s.headDesc r) 0x0C 4 / 2 ^ 31 = 1) && decide (cacheBase <
          le (s.headDesc r) 8 4 + 2 ^ 32 * (le (s.headDesc r) 0x0C 4 % 4) + le (s.headDesc r) 0x10 4 % 2 ^ 28))) = true := by
      simp only [Bool.or_eq_true, Bool.and_eq_true, Bool.not_eq_true', decide_eq_true_eq, decide_eq_false_iff_not]
      rintro (h | ⟨h3, h⟩)
      · exact absurd h (Nat.not_lt.2 h1)
      · exact absurd h (Nat.not_lt.2 (h2.resolve_left h3))
    rw [if_neg h0, if_neg h0, if_neg hrange, if_neg (by rw [hmem]; decide)]
    by_cases h3 : le (s.headDesc r) 0x0C 4 / 2 ^ 31 = 1
    · rw [if_pos h3, if_pos (decide_eq_true h3)]
      cases ecc with
      | none => rfl
      | some k => rfl
    · rw [if_neg h3, if_neg (by rw [decide_eq_false h3]; exact Bool.false_ne_true)]

theorem ringReturn_hbm {body : List Byte} {st : Nat} : (s.ringReturn r body st).hbm = s.hbm := (within_ringReturn s r body st).hbm rfl

theorem leaves_memUe {a : Nat} :
    Leaves (fun o => o ∉ [Reg.GLB_MEM_STATUS, Reg.GLB_MEM_UE_LO, Reg.GLB_MEM_UE_HI]) s (s.memUe a) := by
  unfold State.memUe
  split
  · exact .refl s
  · exact ((leaves_setReg (by simp)).trans (leaves_setReg (by simp))).trans (leaves_setRb (by simp))

/-- The error that a COPY to the host has met is recorded, and stays so when the descriptor is returned. -/
theorem copyMet_spec {x y z : State} {k st : Nat} (hr : 24 ≤ r ∧ r < 32) (hk : k < n) (hb : hbm + n ≤ hbmSize) {body bs : List Byte}
    (hx : x = ce.foldl (fun s k => s.memCe (hbm + k % n)) s) (hz : (x.draw 28).2.hostWrite host bs = z) (hy : y = z.memUe (hbm + k % n))
    (h8 : s.rb Reg.GLB_MEM_STATUS 8 = false) :
    (y.ringReturn r body st).hbm = s.hbm ∧ (y.ringReturn r body st).ringHead r = s.ringNext r ∧
      (y.ringReturn r body st).rb Reg.GLB_MEM_STATUS 8 = true ∧ (y.ringReturn r body st).pair Reg.GLB_MEM_UE_LO = hbm + k ∧
      RegsKept s (y.ringReturn r body st)
        [Reg.GLB_MEM_STATUS, Reg.GLB_MEM_UE_LO, Reg.GLB_MEM_UE_HI, Reg.GLB_MEM_CE0, Reg.GLB_MEM_CE1] := by
  have hxo : OnlyRegs s x := hx ▸ memCes_only (fun k => hbm + k % n) ce s
  have hxr : Leaves (fun o => o ≠ Reg.GLB_MEM_CE0 ∧ o ≠ Reg.GLB_MEM_CE1) s x := fun o ho => by
    rw [hx]
    exact (memCes_reg (fun k => hbm + k % n) ce s).2.2 o ho.1 ho.2
  have hzw : Within 0x204 x z := by
    rw [← hz]
    exact Within.after (within_hostWrite _ _ _) (by decide) ((within_draw x 28).mono (by decide))
  have hzr : Leaves (fun o => o ≠ Reg.GLB_MEM_CE0 ∧ o ≠ Reg.GLB_MEM_CE1) s z := hxr.trans hzw.leaves
  rw [Nat.mod_eq_of_lt hk] at hy
  have hbig : hbmSize = 2 ^ 34 := by decide
  obtain ⟨hue, hpair, hyo⟩ := memUe_records (s := z) (a := hbm + k) (by omega) ((hzr.rb (by decide) 8).trans h8)
  rw [← hy] at hue hpair hyo
  have hyr : Leaves (fun o => o ∉ [Reg.GLB_MEM_STATUS, Reg.GLB_MEM_UE_LO, Reg.GLB_MEM_UE_HI, Reg.GLB_MEM_CE0, Reg.GLB_MEM_CE1]) s y := by
    rw [hy]
    exact (hzr.mono fun o ho => by simp at ho ⊢; omega).trans (leaves_memUe.mono fun o ho => by simp at ho ⊢; omega)
  have hfar : ∀ o, 0x10000 ≤ o → o ∉ [Reg.GLB_MEM_STATUS, Reg.GLB_MEM_UE_LO, Reg.GLB_MEM_UE_HI, Reg.GLB_MEM_CE0, Reg.GLB_MEM_CE1] :=
    fun o ho => by
      simp only [Reg.GLB_MEM_STATUS, Reg.GLB_MEM_UE_LO, Reg.GLB_MEM_UE_HI, Reg.GLB_MEM_CE0, Reg.GLB_MEM_CE1, List.mem_cons,
        List.not_mem_nil, or_false]
      omega
  have hnext : y.ringNext r = s.ringNext r := by
    rw [State.ringNext, State.ringHead, State.ringSize, State.rf, State.rf, hyr _ (hfar _ (by unfold Reg.RNG_HEAD; omega)),
      hyr _ (hfar _ (by unfold Reg.RNG_CTRL; omega))]
    rfl
  have hq : Leaves Quiet y (y.ringReturn r body st) := (ringsKept_returnOf hr.2).quiet
  refine ⟨?_, (ringReturn_head hr.2 (by omega)).trans hnext, (hq.rb (by decide) 8).trans hue, ?_, regsKept_iff.2 ?_⟩
  · have hyh : y.hbm = z.hbm := by rw [hyo]
    have hxh : x.hbm = s.hbm := by rw [hxo]
    exact ringReturn_hbm.trans (hyh.trans ((hzw.hbm rfl).trans hxh))
  · rw [← hpair, State.pair, State.pair, hq _ (by decide), hq _ (by decide)]
  · exact (hyr.mono fun _ h => h.2).trans (hq.mono fun _ h => h.1)

end Copy

/-- Settles O25: descriptors taken at HEAD, returned after what they ask for. -/
theorem descriptorCommands : Obligations.DescriptorCommands := by
  unfold Obligations.DescriptorCommands
  intro s hs ho
  refine ⟨fun k v hd hready hw ha => ?_, fun hready h1 hd hw hc => ?_,
    fun r host hbm n h24 hready hrole hmem hhost hhbm hn => ⟨fun h0 ecc => ?_, fun h0 hdir hin ecc => ?_, fun h0 hdir hin h8 k ce hk => ?_,
      fun h0 hdir hin => ?_⟩⟩
  · exact ⟨_, rfl, ringWrite_spec hs ho (by decide) hd hready hw ha⟩
  · exact ⟨_, rfl, ringRead_spec hs ho (by decide) hd hready h1 hw rfl hc⟩
  · exact congrArg Host.Outcome.next ((copyTake_taken rfl hready h24 hrole hmem hhost hhbm hn (.inl h0) (.inl h0)).trans (if_pos h0))
  · have hsize : hbm + n ≤ hbmSize := Nat.le_trans hin (by decide)
    refine ⟨_, congrArg Host.Outcome.next ((copyTake_taken rfl hready h24 hrole hmem hhost hhbm hn (.inr hsize) (.inr (.inr hin))).trans
      ((if_neg h0).trans (if_neg hdir))), ringReturn_hbm, ?_⟩
    rw [ringReturn_head r.isLt (by omega)]
    exact ringNext_congr rfl
  · refine ⟨_, congrArg Host.Outcome.next ((copyTake_taken rfl hready h24 hrole hmem hhost hhbm hn (.inr hin) (.inr (.inl hdir))).trans
      ((if_neg h0).trans ((if_pos hdir).trans (if_pos rfl)))), ?_⟩
    exact copyMet_spec ⟨h24, r.isLt⟩ hk hin rfl rfl rfl h8
  · exact congrArg Host.Outcome.next ((copyTake_taken rfl hready h24 hrole hmem hhost hhbm hn (.inr hin) (.inr (.inl hdir))).trans
      ((if_neg h0).trans ((if_pos hdir).trans (if_neg Bool.false_ne_true))))

end Sys2Proof.Machine

/-! What resets of the switched domains and their return leave of PD_BASE's own units (R440, R450): GLB, PWR and TB keep their
registers, but for GLB_MEM_STATUS and PWR_DOMAIN_STATUS, and no event is cleared. -/

namespace Sys2Proof.Machine

-- One declaration after another: side by side, their threads' stacks pass the memory limit of a check.
set_option Elab.async false

/-- A register of GLB, PWR or TB, other than GLB_MEM_STATUS and PWR_DOMAIN_STATUS. -/
abbrev OfBase (o : Nat) : Prop := (o / 0x10000 = 0 ∧ o ≠ Reg.GLB_MEM_STATUS) ∨ (o / 0x10000 = 2 ∧ o ≠ Reg.PWR_DOMAIN_STATUS) ∨ o / 0x10000 = 5

/-- From `s` to `t` these registers have been kept, and every event that was shown is. -/
structure BaseKept (s t : State) : Prop where
  regs : Leaves OfBase s t
  events : KeepsEvents s t

/-- A register that is none of these, nor one of EVT. -/
abbrev InBaseKept (o : Nat) : Prop := ¬ OfBase o ∧ o / 0x10000 ≠ 1

/-- A state written out from another with the registers taken over. -/
theorem BaseKept.upd
    {s x : State} {pending_} {now_} {free_} {latches_} {stages_} {msix_} {out_} {hbm_} {hostMem_} {rings_} {tbs_} {tsq_} {rtc_} {pwr_} {trigs_} {marks_}
    {recorder_} {lanes_} {tables_} {chans_} {fade_} {phs_} {nrg_} {acc_} {nrgCmd_} {pulses_} {rxq_} {txq_} {segJobs_} {prp_} {segments_}
    {t1sTaken_} {t1sNum_} {seats_} {seated_} {forms_} {tcp_} {links_} {classrooms_} {lessons_} {alarms_} {slacks_} {answers_} {pass_}
    {sched_} {loader_} {evtIn_} {keys_} {tap_} {cacheSigner_} {pcie_} {modClks_} {nrgInt_} {ppsPin_} (h : BaseKept s x) :
    BaseKept s ⟨pending_, now_, free_, x.regs, latches_, stages_, msix_, out_, hbm_, hostMem_, rings_, tbs_, tsq_, rtc_, pwr_, trigs_,
    marks_, recorder_, lanes_, tables_, chans_, fade_, phs_, nrg_, acc_, nrgCmd_, pulses_, rxq_, txq_, segJobs_, prp_, segments_,
    t1sTaken_, t1sNum_, seats_, seated_, forms_, tcp_, links_, classrooms_, lessons_, alarms_, slacks_, answers_, pass_, sched_, loader_,
    evtIn_, keys_, tap_, cacheSigner_, pcie_, modClks_, nrgInt_, ppsPin_⟩ := ⟨h.regs, h.events⟩

variable {s t x y : State} {o i : Nat}

theorem BaseKept.refl (s : State) : BaseKept s s := ⟨.refl s, .refl s⟩
theorem BaseKept.after (h : BaseKept x y) (g : BaseKept s x) : BaseKept s y := ⟨g.regs.trans h.regs, g.events.trans h.events⟩
theorem BaseKept.trans (g : BaseKept s x) (h : BaseKept x y) : BaseKept s y := h.after g
theorem BaseKept.of_regs (h : t.regs = s.regs) : BaseKept s t := ⟨.of_regs h, keepsEvents_of_regs h⟩
theorem Within.base {C : Nat} (h : Within C s t) (hC : C.testBit 3 = false := by decide) : BaseKept s t := .of_regs (h.regs hC)

theorem BaseKept.foldl {α : Type} {f : State → α → State} {l : List α} (hf : ∀ y a, BaseKept s y → BaseKept s (f y a)) (hx : BaseKept s x) :
    BaseKept s (l.foldl f x) := by
  induction l generalizing x with
  | nil => exact hx
  | cons a l ih => exact ih (hf x a hx)

theorem BaseKept.pair_fst {β : Type} {b : β} (h : BaseKept s x) : BaseKept s (x, b).1 := h
theorem BaseKept.pair_snd {β : Type} {b : β} (h : BaseKept s x) : BaseKept s (b, x).2 := h

theorem ofBase_lt (h : OfBase o) : o < 0x60000 := by
  unfold OfBase at h
  omega

theorem inBaseKept_of_le (h : 0x60000 ≤ o) : InBaseKept o := ⟨fun c => absurd (ofBase_lt c) (Nat.not_lt.2 h), by omega⟩
theorem inBaseKept_add {b k : Nat} (h : 0x60000 ≤ b) : InBaseKept (b + k) := inBaseKept_of_le (Nat.le_add_right_of_le h)
theorem inBaseKept_add_add {b k j : Nat} (h : 0x60000 ≤ b) : InBaseKept (b + k + j) :=
  inBaseKept_of_le (Nat.le_add_right_of_le (Nat.le_add_right_of_le h))

theorem inBaseKept_img (h : o / 0x10000 = 3) : InBaseKept o := by
  omega

theorem quiet_of_base (h : OfBase o) : Quiet o := by
  unfold OfBase at h
  unfold Quiet
  omega

theorem base_setReg {w : Word} (h : InBaseKept o) : BaseKept s (s.setReg o w) := ⟨leaves_setReg h.1, keepsEvents_setReg h.2⟩
theorem base_setRb {b : Bool} (h : InBaseKept o) : BaseKept s (s.setRb o i b) := base_setReg h
theorem base_setRf {n v : Nat} (h : InBaseKept o) : BaseKept s (s.setRf o i n v) := base_setReg h
theorem base_bumpBy {n : Nat} (h : InBaseKept o) : BaseKept s (s.bumpBy o n) := base_setReg h
theorem base_bump (h : InBaseKept o) : BaseKept s (s.bump o) := base_setReg h
theorem base_bumpWrap (h : InBaseKept o) : BaseKept s (s.bumpWrap o) := base_setReg h
theorem base_unready (h : InBaseKept o) : BaseKept s (s.unready o) := base_setReg h
theorem base_publish (h : InBaseKept o) : BaseKept s (s.publish o) := (base_setRb h).after (base_setRf h)

theorem base_raise {e inst : Nat} (he : e < 64) : BaseKept s (s.raise e inst) :=
  ⟨leaves_raise (fun _ => quiet_of_base) he, keepsEvents_raise he⟩

theorem base_flagRaise {e inst : Nat} (h : InBaseKept o) (he : e < 64) : BaseKept s (s.flagRaise o i e inst) :=
  (base_raise he).after (base_setRb h)

theorem base_ringReturn {r st : Nat} {body : List Byte} (hr : r < 32) : BaseKept s (s.ringReturn r body st) :=
  ⟨leaves_ringReturn (fun _ => quiet_of_base) hr, keepsEvents_ringReturn hr⟩

theorem base_ringExhaust {r : Nat} {lost : Bool} (hr : r < 32) : BaseKept s (s.ringExhaust r lost) :=
  ⟨leaves_ringExhaust (fun _ => quiet_of_base) hr, keepsEvents_ringExhaust hr⟩

/-- A range of registers in which none of these stands. -/
theorem base_resetRegs {lo hi : Nat} (h : 0x60000 ≤ lo ∨ lo / 0x10000 = 3 ∧ hi ≤ 0x40000) : BaseKept s (s.resetRegs lo hi) := by
  have hk : ∀ p, p / 0x10000 = 1 ∨ OfBase p → (s.resetRegs lo hi).reg p = s.reg p := fun p hp => by
    refine reg_resetRegs.trans (if_neg fun c => ?_)
    unfold OfBase at hp
    omega
  exact ⟨fun p hp => hk p (.inr hp), .of_leaves fun p hp => hk p (.inl hp)⟩

theorem base_tamperImage (s : State) :
    BaseKept s (State.tamperImage s) := by
  unfold State.tamperImage
  repeat' first
  | (extract_lets +onlyGivenNames x; first
      | (refine (fun (h : BaseKept s x) => ?_) ?_; clear_value x; rotate_left; subst x; rotate_left)
      | clear_value x
      | skip)
  | with_reducible apply BaseKept.refl | with_reducible assumption | with_reducible apply BaseKept.after (base_setRf ?_)
  | with_reducible apply BaseKept.after (base_raise ?_) | with_reducible apply BaseKept.after (base_setRb ?_) | split
  | exact inBaseKept_add (by decide) | exact inBaseKept_add_add (by decide) | decide

theorem base_deriveSlot0 (s : State) :
    BaseKept s (State.deriveSlot0 s) := by
  unfold State.deriveSlot0
  repeat' first
  | with_reducible apply BaseKept.refl | with_reducible apply BaseKept.after ((within_setSlot _ _ _).base)
  | with_reducible apply BaseKept.after (base_setRb ?_) | exact inBaseKept_add (by decide) | exact inBaseKept_add_add (by decide)
  | decide

theorem base_keyStart (s : State) :
    BaseKept s (State.keyStart s) := by
  unfold State.keyStart
  repeat' first
  | with_reducible apply BaseKept.refl | with_reducible apply BaseKept.after (base_tamperImage _)
  | with_reducible apply BaseKept.after ((within_setSlot _ _ _).base) | with_reducible apply BaseKept.after (base_deriveSlot0 _)
  | with_reducible apply BaseKept.after ((within_zeroise _).base) | with_reducible apply BaseKept.after (base_setRb ?_) | split
  | with_reducible apply BaseKept.upd | exact inBaseKept_add (by decide) | exact inBaseKept_add_add (by decide) | decide

theorem base_putPacket (s : State) (k : Nat) (p : Packet) (seq : Nat) :
    BaseKept s (State.putPacket s k p seq) := by
  unfold State.putPacket
  repeat' first
  | with_reducible apply BaseKept.refl | with_reducible apply BaseKept.after (base_bump ?_)
  | with_reducible apply BaseKept.after ((within_setLink _ _ _).base) | with_reducible apply BaseKept.after ((within_emit _ _).base)
  | exact inBaseKept_add (by decide) | exact inBaseKept_add_add (by decide)

theorem base_sendNow (s : State) (k : Nat) (p : Packet) :
    BaseKept s (State.sendNow s k p) := by
  unfold State.sendNow
  repeat' first
  | with_reducible apply BaseKept.refl | with_reducible apply BaseKept.after ((within_setLink _ _ _).base)
  | with_reducible apply BaseKept.after (base_putPacket _ _ _ _)

theorem base_fjlSend (s : State) (q : Nat) (kind : Nat) (hops : Nat) (payload : List Byte) :
    BaseKept s (State.fjlSend s q kind hops payload) := by
  unfold State.fjlSend
  repeat' first
  | (extract_lets +onlyGivenNames x; first
      | clear_value x
      | skip)
  | with_reducible apply BaseKept.refl | with_reducible apply BaseKept.after (base_sendNow _ _ _)
  | with_reducible apply BaseKept.after ((within_setLink _ _ _).base) | split

theorem base_shareDecisions (s : State) :
    BaseKept s (State.shareDecisions s) := by
  unfold State.shareDecisions
  repeat' first
  | with_reducible apply BaseKept.refl | with_reducible assumption | with_reducible apply BaseKept.after (base_fjlSend _ _ _ _ _)
  | with_reducible apply BaseKept.foldl | (with_reducible intro y a h) | split

theorem base_pinFollow (s : State) (n : Nat) :
    BaseKept s (State.pinFollow s n) := by
  unfold State.pinFollow
  repeat' first
  | (extract_lets +onlyGivenNames x; first
      | (refine (fun (h : BaseKept s x) => ?_) ?_; clear_value x; rotate_left; subst x; rotate_left)
      | clear_value x
      | skip)
  | with_reducible apply BaseKept.refl | with_reducible assumption | with_reducible apply BaseKept.after (base_setReg ?_)
  | with_reducible apply BaseKept.after (base_bump ?_) | with_reducible apply BaseKept.after (base_flagRaise ?_ ?_)
  | with_reducible apply BaseKept.after (base_setRb ?_) | split | with_reducible apply BaseKept.upd | exact inBaseKept_add (by decide)
  | exact inBaseKept_add_add (by decide) | decide

theorem base_pinsFollow (s : State) :
    BaseKept s (State.pinsFollow s) := by
  unfold State.pinsFollow
  repeat' first
  | with_reducible apply BaseKept.refl | with_reducible assumption | with_reducible apply BaseKept.after (base_pinFollow _ _)
  | with_reducible apply BaseKept.foldl | (with_reducible intro y a h) | split

theorem base_setDecisions (s : State) (d : Nat) :
    BaseKept s (State.setDecisions s d) := by
  unfold State.setDecisions
  repeat' first
  | with_reducible apply BaseKept.refl | with_reducible assumption | with_reducible apply BaseKept.after (base_setReg ?_)
  | with_reducible apply BaseKept.foldl | (with_reducible intro y a h) | exact inBaseKept_add (by decide)

theorem base_fireQuiet (s : State) (n : Nat) (anchor : Stamp) (back : Nat) (tap : Nat) (delta : Nat) :
    BaseKept s (State.fireQuiet s n anchor back tap delta).1 := by
  unfold State.fireQuiet
  repeat' first
  | (extract_lets +onlyGivenNames x; first
      | (refine (fun (h : BaseKept s x) => ?_) ?_; clear_value x; rotate_left; subst x; rotate_left)
      | clear_value x
      | skip)
  | with_reducible apply BaseKept.refl | with_reducible assumption | with_reducible apply BaseKept.after (base_bump ?_)
  | with_reducible apply BaseKept.after (base_bumpWrap ?_) | with_reducible apply BaseKept.after (base_setRb ?_) | split
  | with_reducible apply BaseKept.upd | exact inBaseKept_add (by decide) | exact inBaseKept_add_add (by decide) | decide

theorem base_fireEdge (s : State) (n : Nat) (fire : Stamp) :
    BaseKept s (State.fireEdge s n fire).1 := by
  unfold State.fireEdge
  repeat' first
  | (extract_lets +onlyGivenNames x; first
      | clear_value x
      | skip)
  | with_reducible apply BaseKept.refl | with_reducible apply BaseKept.after (base_bump ?_)
  | with_reducible apply BaseKept.after ((within_setTrig _ _ _).base) | with_reducible apply BaseKept.after (base_fireQuiet _ _ _ _ _ _)
  | split | exact inBaseKept_add (by decide)

theorem base_fireAtEdge (s : State) (n : Nat) (fire : Stamp) :
    BaseKept s (State.fireAtEdge s n fire) := by
  unfold State.fireAtEdge
  repeat' first
  | (extract_lets +onlyGivenNames x; first
      | (refine (fun (h : BaseKept s x.1) => ?_) ?_; clear_value x; rotate_left; subst x; rotate_left)
      | clear_value x
      | skip)
  | with_reducible apply BaseKept.refl | with_reducible assumption | with_reducible apply BaseKept.after (base_fireEdge _ _ _)
  | with_reducible apply BaseKept.after (base_raise ?_) | split | exact inBaseKept_add (by decide)
  | exact inBaseKept_add_add (by decide) | decide

theorem base_trigsDecision (s : State) (d : Nat) (rising : Bool) :
    BaseKept s (State.trigsDecision s d rising) := by
  unfold State.trigsDecision
  repeat' first
  | with_reducible apply BaseKept.refl | with_reducible assumption | with_reducible apply BaseKept.after (base_fireAtEdge _ _ _)
  | with_reducible apply BaseKept.foldl | (with_reducible intro y a h) | split

theorem base_decisionEdges (s : State) (before : Nat) (after : Nat) :
    BaseKept s (State.decisionEdges s before after) := by
  unfold State.decisionEdges
  repeat' first
  | with_reducible apply BaseKept.refl | with_reducible assumption | with_reducible apply BaseKept.after (base_trigsDecision _ _ _)
  | with_reducible apply BaseKept.foldl | (with_reducible intro y a h) | split

theorem base_setAbsentBits (s : State) (d : Nat) :
    BaseKept s (State.setAbsentBits s d) := by
  unfold State.setAbsentBits
  repeat' first
  | with_reducible apply BaseKept.refl | with_reducible assumption | with_reducible apply BaseKept.after (base_setReg ?_)
  | with_reducible apply BaseKept.foldl | (with_reducible intro y a h) | exact inBaseKept_add (by decide)

theorem base_showDecisions (s : State) :
    BaseKept s (State.showDecisions s) := by
  unfold State.showDecisions
  repeat' first
  | with_reducible apply BaseKept.refl | with_reducible apply BaseKept.after (base_shareDecisions _)
  | with_reducible apply BaseKept.after (base_pinsFollow _) | with_reducible apply BaseKept.after (base_setDecisions _ _)
  | with_reducible apply BaseKept.after (base_decisionEdges _ _ _) | with_reducible apply BaseKept.after (base_setAbsentBits _ _)
  | split

theorem base_imageValues (s : State) :
    BaseKept s (State.imageValues s) := by
  unfold State.imageValues
  repeat' first
  | with_reducible apply BaseKept.refl | with_reducible assumption | with_reducible apply BaseKept.after (base_setReg ?_)
  | with_reducible apply BaseKept.after ((within_addSysTasks _ _).base)
  | with_reducible apply BaseKept.after ((within_setLesson _ _ _).base) | with_reducible apply BaseKept.foldl
  | (with_reducible intro y a h) | split | exact inBaseKept_add (by decide)

theorem base_resetLinks (s : State) :
    BaseKept s (State.resetLinks s) := by
  unfold State.resetLinks
  repeat' first
  | with_reducible apply BaseKept.refl | with_reducible apply BaseKept.after (base_showDecisions _)
  | with_reducible apply BaseKept.after (base_resetRegs ?_) | with_reducible apply BaseKept.upd | decide

theorem base_resetNet (s : State) (q : Nat) :
    BaseKept s (State.resetNet s q) := by
  unfold State.resetNet
  repeat' first
  | with_reducible apply BaseKept.refl | with_reducible apply BaseKept.after (base_resetRegs ?_)
  | with_reducible apply BaseKept.after ((within_setRingX _ _ _).base) | with_reducible apply BaseKept.upd | decide
  | exact .inl (Nat.le_add_right_of_le (by decide))

theorem base_resetMem (s : State) :
    BaseKept s (State.resetMem s) := by
  unfold State.resetMem
  repeat' first
  | with_reducible apply BaseKept.refl | with_reducible apply BaseKept.after (base_setRf ?_)
  | with_reducible apply BaseKept.after (base_setRb ?_) | with_reducible apply BaseKept.upd | exact inBaseKept_add (by decide)
  | exact inBaseKept_add_add (by decide) | decide

theorem base_resetAcq (s : State) :
    BaseKept s (State.resetAcq s) := by
  unfold State.resetAcq
  repeat' first
  | with_reducible apply BaseKept.refl | with_reducible apply BaseKept.after (base_resetRegs ?_)
  | with_reducible apply BaseKept.after ((within_setRingX _ _ _).base) | with_reducible apply BaseKept.upd | decide

theorem base_resetRings (s : State) (keep : Bool) :
    BaseKept s (State.resetRings s keep) := by
  unfold State.resetRings
  repeat' first
  | with_reducible apply BaseKept.refl | with_reducible assumption | with_reducible apply BaseKept.after (base_setReg ?_)
  | with_reducible apply BaseKept.after (base_resetRegs ?_) | with_reducible apply BaseKept.foldl | (with_reducible intro y a h) | split
  | with_reducible apply BaseKept.upd | exact inBaseKept_add (by decide) | exact inBaseKept_add_add (by decide) | decide
  | exact .inl (Nat.le_add_right_of_le (by decide))

theorem base_resetSch (s : State) (keep : Bool) :
    BaseKept s (State.resetSch s keep) := by
  unfold State.resetSch
  repeat' first
  | with_reducible apply BaseKept.refl | with_reducible apply BaseKept.after (base_resetRings _ _)
  | with_reducible apply BaseKept.after (base_resetRegs ?_) | with_reducible apply BaseKept.after (base_setRb ?_)
  | with_reducible apply BaseKept.upd | exact inBaseKept_add (by decide) | exact inBaseKept_add_add (by decide) | decide

theorem base_resetKey (s : State) :
    BaseKept s (State.resetKey s) := by
  unfold State.resetKey
  repeat' first
  | with_reducible apply BaseKept.refl | with_reducible apply BaseKept.after (base_resetRegs ?_) | with_reducible apply BaseKept.upd
  | decide

theorem base_resetHost (s : State) :
    BaseKept s (State.resetHost s) := by
  unfold State.resetHost
  repeat' first
  | with_reducible apply BaseKept.refl | with_reducible apply BaseKept.after (base_resetRegs ?_) | with_reducible apply BaseKept.upd
  | decide

theorem base_showCover (s : State) :
    BaseKept s (State.showCover s) := by
  unfold State.showCover
  repeat' first
  | with_reducible apply BaseKept.refl | with_reducible assumption | with_reducible apply BaseKept.after (base_setReg ?_)
  | with_reducible apply BaseKept.after ((within_noteStarved _).base) | with_reducible apply BaseKept.foldl
  | (with_reducible intro y a h) | exact inBaseKept_add (by decide)

theorem base_absenceFollow (s : State) :
    BaseKept s (State.absenceFollow s) := by
  unfold State.absenceFollow
  repeat' first
  | (extract_lets +onlyGivenNames x; first
      | (refine (fun (h : BaseKept s x) => ?_) ?_; clear_value x; rotate_left; subst x; rotate_left)
      | clear_value x
      | skip)
  | with_reducible apply BaseKept.refl | with_reducible assumption | with_reducible apply BaseKept.after (base_showDecisions _)
  | with_reducible apply BaseKept.after ((within_setLesson _ _ _).base)
  | with_reducible apply BaseKept.after ((within_slackDone _ _ _ _).base) | with_reducible apply BaseKept.foldl
  | (with_reducible intro y a h) | split

theorem base_resetClassroom (s : State) (c : Nat) :
    BaseKept s (State.resetClassroom s c) := by
  unfold State.resetClassroom
  repeat' first
  | (extract_lets +onlyGivenNames x; first
      | (refine (fun (h : BaseKept s x) => ?_) ?_; clear_value x; rotate_left; subst x; rotate_left)
      | clear_value x
      | skip)
  | with_reducible apply BaseKept.refl | with_reducible assumption
  | with_reducible apply BaseKept.after ((within_setClassroom _ _ _).base)
  | with_reducible apply BaseKept.after ((within_setLesson _ _ _).base) | with_reducible apply BaseKept.after (base_resetRegs ?_)
  | with_reducible apply BaseKept.after (base_setRb ?_) | with_reducible apply BaseKept.foldl | (with_reducible intro y a h) | split
  | exact inBaseKept_add (by decide) | exact inBaseKept_add_add (by decide) | decide | exact .inl (Nat.le_add_right_of_le (by decide))

theorem base_resetFab (s : State) (q : Nat) :
    BaseKept s (State.resetFab s q) := by
  unfold State.resetFab
  repeat' first
  | (extract_lets +onlyGivenNames x; first
      | (refine (fun (h : BaseKept s x) => ?_) ?_; clear_value x; rotate_left; subst x; rotate_left)
      | clear_value x
      | skip)
  | with_reducible apply BaseKept.refl | with_reducible assumption | with_reducible apply BaseKept.after (base_showCover _)
  | with_reducible apply BaseKept.after (base_absenceFollow _) | with_reducible apply BaseKept.after (base_resetClassroom _ _)
  | with_reducible apply BaseKept.foldl | (with_reducible intro y a h) | split

theorem base_resetField (s : State) :
    BaseKept s (State.resetField s) := by
  unfold State.resetField
  repeat' first
  | with_reducible apply BaseKept.refl | with_reducible apply BaseKept.after (base_resetRegs ?_)
  | with_reducible apply BaseKept.after ((within_setRingX _ _ _).base) | with_reducible apply BaseKept.upd | decide

theorem base_resetRcl (s : State) :
    BaseKept s (State.resetRcl s) := by
  unfold State.resetRcl
  repeat' first
  | with_reducible apply BaseKept.refl | with_reducible apply BaseKept.after (base_resetRegs ?_) | with_reducible apply BaseKept.upd
  | decide

theorem base_domReset (s : State) (d : Nat) (keep : Bool) :
    BaseKept s (State.domReset s d keep) := by
  unfold State.domReset
  repeat' first
  | with_reducible apply BaseKept.refl | with_reducible apply BaseKept.after (base_resetLinks _)
  | with_reducible apply BaseKept.after (base_resetNet _ _) | with_reducible apply BaseKept.after (base_resetMem _)
  | with_reducible apply BaseKept.after (base_resetAcq _) | with_reducible apply BaseKept.after (base_resetSch _ _)
  | with_reducible apply BaseKept.after (base_resetKey _) | with_reducible apply BaseKept.after (base_resetHost _)
  | with_reducible apply BaseKept.after (base_resetFab _ _) | with_reducible apply BaseKept.after (base_resetField _)
  | with_reducible apply BaseKept.after (base_resetRcl _) | split

theorem base_domComesOn (s : State) (keep : Bool) (d : Nat) :
    BaseKept s (State.domComesOn s keep d) := by
  unfold State.domComesOn
  repeat' first
  | (extract_lets +onlyGivenNames x; first
      | (refine (fun (h : BaseKept s x) => ?_) ?_; clear_value x; rotate_left; subst x; rotate_left)
      | clear_value x
      | skip)
  | with_reducible apply BaseKept.refl | with_reducible assumption | with_reducible apply BaseKept.after (base_keyStart _)
  | with_reducible apply BaseKept.after (base_showDecisions _) | with_reducible apply BaseKept.after (base_imageValues _)
  | with_reducible apply BaseKept.after (base_domReset _ _ _) | with_reducible apply BaseKept.after (base_setRb ?_) | split
  | exact inBaseKept_add (by decide) | exact inBaseKept_add_add (by decide) | decide

theorem base_domainsOn (s : State) (mask : Nat) (keep : Bool) :
    BaseKept s (State.domainsOn s mask keep) := by
  unfold State.domainsOn
  repeat' first
  | with_reducible apply BaseKept.refl | with_reducible assumption | with_reducible apply BaseKept.after (base_domComesOn _ _ _)
  | with_reducible apply BaseKept.foldl | (with_reducible intro y a h) | split

theorem base_domGoesOff (s : State) (keep : Bool) (d : Nat) :
    BaseKept s (State.domGoesOff s keep d) := by
  unfold State.domGoesOff
  repeat' first
  | with_reducible apply BaseKept.refl | with_reducible apply BaseKept.after (base_domReset _ _ _)
  | with_reducible apply BaseKept.after (base_setRb ?_) | exact inBaseKept_add (by decide) | exact inBaseKept_add_add (by decide)
  | decide

theorem base_domainsOff (s : State) (mask : Nat) (keep : Bool) :
    BaseKept s (State.domainsOff s mask keep) := by
  unfold State.domainsOff
  repeat' first
  | with_reducible apply BaseKept.refl | with_reducible assumption | with_reducible apply BaseKept.after (base_domGoesOff _ _ _)
  | with_reducible apply BaseKept.foldl | (with_reducible intro y a h) | split

end Sys2Proof.Machine

/-! Power commands: switched domains, RECESS, RUN and wake (R441-R446). -/

namespace Sys2Proof.Machine

-- One declaration after another: side by side, their threads' stacks pass the memory limit of a check.
set_option Elab.async false

variable {s t : State} {v : Word}

/-! ### Every engine unconfigured -/

theorem BaseKept.foldl_mem {α : Type} {f : State → α → State} {l : List α} (h : ∀ t, ∀ a ∈ l, BaseKept t (f t a)) :
    ∀ s, BaseKept s (l.foldl f s) := by
  induction l with
  | nil => exact fun s => BaseKept.refl s
  | cons a l ih => exact fun s => (h s a List.mem_cons_self).trans (ih (fun t b hb => h t b (List.mem_cons_of_mem _ hb)) (f s a))

/-- The classrooms of an unconfigured part: EMPTY, their desks retired as before. -/
def State.emptyRooms (s : State) : State :=
  (List.range 32).foldl (fun s c => (s.setClassroom c (s.classroom c).retiredOnly).setReg (Reg.IMG_CLS_STATE c) 0) s

/-- The maps and lesson registers of an unconfigured part. -/
def State.emptyPlans (s : State) : State :=
  let s := (List.range 32).foldl (fun s c => s.resetRegs (Reg.FAB_MAP c 0) (Reg.FAB_MAP c 0 + 0x80)) s
  (List.range 64).foldl (fun s i =>
    ((s.resetRegs (Reg.LSN_INFO i) (Reg.LSN_CTRL i)).resetRegs (Reg.LSN_BOUND i) (Reg.LSN_TBLA_LO i)).resetRegs
      (Reg.LSN_ACTIVE i) (Reg.LSN_SKIPPED i)) s

/-- The image of an unconfigured part: none is loaded. -/
def State.noImage (s : State) : State :=
  ((s.setRb Reg.IMG_CACHE 0 false).setReg Reg.IMG_VERSION 0).resetRegs (Reg.IMG_BASE_DIGEST 0) (Reg.IMG_BASE_DIGEST 0 + 0x20)

theorem base_emptyRooms : BaseKept s s.emptyRooms := by
  refine .foldl_mem (fun t c hc => ?_) s
  have hc := List.mem_range.1 hc
  exact (base_setReg (inBaseKept_img (by unfold Reg.IMG_CLS_STATE; omega))).after (within_setClassroom _ _ _).base

theorem base_emptyPlans : BaseKept s s.emptyPlans := by
  have hreset : ∀ (x : State) (b k m : Nat), 0x60000 ≤ b → BaseKept x (x.resetRegs (b + k) m) := fun _ _ _ _ hb =>
    base_resetRegs (.inl (Nat.le_add_right_of_le hb))
  have hmap : ∀ (x : State) (c m : Nat), BaseKept x (x.resetRegs (Reg.FAB_MAP c 0) m) := fun _ _ _ =>
    base_resetRegs (.inl (by unfold Reg.FAB_MAP; omega))
  unfold State.emptyPlans
  exact (BaseKept.foldl_mem (fun t c _ => hmap t c _) s).trans (BaseKept.foldl_mem (fun t i _ =>
    ((hreset t _ _ _ (by decide)).trans (hreset _ _ _ _ (by decide))).trans (hreset _ _ _ _ (by decide))) _)

theorem base_noImage : BaseKept s s.noImage :=
  ((base_setRb (by decide)).trans (base_setReg (by decide))).trans (base_resetRegs (by decide))

theorem base_unconfigure (s : State) : BaseKept s s.unconfigure := by
  have h1 : BaseKept s s.emptyRooms.emptyPlans := base_emptyPlans.after base_emptyRooms
  have h2 : ∀ x : State, BaseKept x x.noImage.showCover.showDecisions := fun x =>
    (base_showDecisions _).after ((base_showCover _).after base_noImage)
  unfold State.unconfigure
  unfold State.emptyRooms State.emptyPlans at h1
  unfold State.noImage at h2
  exact (h2 _).after h1.upd

/-! ### PWR_DOMAIN_EN and the end of a change -/

theorem pwrCmdRow : regRow Reg.PWR_CMD = some ⟨0x20008, 0x4, 1, 0x4, 1, 0x0, 0x7, 0x0, 0x0, 0x0, .single, none⟩ := by decide

theorem poke_domainEn (h : s.Accepts Reg.PWR_DOMAIN_EN v) :
    s.poke Reg.PWR_DOMAIN_EN v {} = (s.setReg Reg.PWR_DOMAIN_EN (merge 0xFFF v (s.reg Reg.PWR_DOMAIN_EN))).domainWrite := by
  rw [h.poke_plain (by decide) domainEnRow rfl rfl, unitHook_pwr rfl, State.pwrHook, if_pos rfl]

theorem poke_pwrCmd (h : s.Accepts Reg.PWR_CMD v) (hv : bit v 0 = true) :
    s.poke Reg.PWR_CMD v {} = (s.setReg Reg.PWR_CMD (merge 0x7 v (s.reg Reg.PWR_CMD))).powerCommand := by
  rw [h.poke_plain (by decide) pwrCmdRow rfl rfl, unitHook_pwr rfl, State.pwrHook, if_neg (by decide), if_pos rfl, if_pos hv]

theorem pwrState_congr (h : t.reg Reg.PWR_STATUS = s.reg Reg.PWR_STATUS) : t.pwrState = s.pwrState := by
  rw [State.pwrState, State.rf, h]
  rfl

theorem domainEvent_quiet {o : Nat} (ho : Quiet o) (h : o ≠ Reg.PWR_STATUS) : s.domainEvent.reg o = s.reg o := flagRaise_quiet ho h (by decide)

theorem domainEvent_event : s.domainEvent.event 58 = true := event_flagRaise (by decide)

theorem domainEvent_state : s.domainEvent.pwrState = s.pwrState := by
  rw [State.pwrState, State.rf, State.domainEvent, flagRaise_reg (by decide) (by decide), if_pos rfl, fld_setBit_ne (by decide) (by decide)]
  rfl

theorem domOn_setReg {o d : Nat} {w : Word} (h : o ≠ Reg.PWR_DOMAIN_STATUS) : (s.setReg o w).domOn d = s.domOn d :=
  domOn_congr (reg_setReg_ne h.symm)

theorem domainWrite_run (h : s.pwrState = 0) :
    s.domainWrite.rb Reg.PWR_DOMAIN_STATUS 16 = true ∧ s.domainWrite.domainEn = s.domainEn ∧
      ∀ d, d < 12 → s.domainWrite.domOn d = (s.domOn d && s.domainEn.testBit d) := by
  have heq : s.domainWrite = (s.domainsOff s.domainEn false).setRb Reg.PWR_DOMAIN_STATUS 16 true := if_pos h
  obtain ⟨hsw, hon⟩ := domainsOff_spec (s := s) s.domainEn false
  rw [heq]
  refine ⟨rb_setRb_self (by decide), (hsw.trans (switches_setRb 16 true)).domainEn, fun d hd => ?_⟩
  rw [domOn_setRb (by decide), if_neg (by omega), hon d hd]

theorem domainEn_written : (s.setReg Reg.PWR_DOMAIN_EN (merge 0xFFF v (s.reg Reg.PWR_DOMAIN_EN))).domainEn = fld v 0 12 := by
  rw [State.domainEn, State.rf, reg_setReg_self]
  exact fld_merge (by decide)

theorem testBit_written {d : Nat} (hd : d < 12) : (fld v 0 12).testBit d = bit v d := by
  rw [testBit_fld, decide_eq_true hd, Bool.true_and, Nat.zero_add]

theorem domainDone_spec (h : s.rb Reg.PWR_DOMAIN_STATUS 16 = true) (h0 : s.pwrState = 0) :
    s.domainDone.rb Reg.PWR_DOMAIN_STATUS 16 = false ∧ s.domainDone.event 58 = true ∧ s.domainDone.rb Reg.PWR_STATUS 8 = true ∧
      ∀ d, d < 12 → s.domainDone.domOn d = (s.domOn d || s.domainEn.testBit d) := by
  have heq : s.domainDone = ((s.domainsOn s.domainEn false).setRb Reg.PWR_DOMAIN_STATUS 16 false).domainEvent := if_pos (by simp [h, h0])
  obtain ⟨-, hon⟩ := domainsOn_spec (s := s) s.domainEn false
  have hst : s.domainDone.reg Reg.PWR_DOMAIN_STATUS = ((s.domainsOn s.domainEn false).setRb Reg.PWR_DOMAIN_STATUS 16 false).reg Reg.PWR_DOMAIN_STATUS :=
    heq ▸ domainEvent_quiet (by decide) (by decide)
  refine ⟨?_, heq ▸ domainEvent_event, ?_, fun d hd => ?_⟩
  · rw [State.rb, hst]
    exact rb_setRb_self (by decide)
  · rw [heq]
    exact flagRaise_flag (by decide) (by decide) (by decide)
  · rw [domOn_congr hst, domOn_setRb (by decide), if_neg (by omega), hon d hd]

/-! ### RECESS -/

/-- The state of RECESS in which the domains go off. -/
def State.recessQuiet (s : State) : State :=
  let s := s.setRf Reg.PWR_STATUS 0 2 1
  let s := (List.range 256).foldl (fun s f => if s.formState f ≠ 0 then s.stopForm f else s) s
  let s := s.recessEnergy.recessRings
  s.govRequest s.vMin false

theorem recess_eq : s.recess =
    (((s.recessQuiet.domainsOff recessMask true).setRf Reg.PWR_STATUS 0 2 2).setRb Reg.PWR_CMD 0 false).domainEvent := by
  unfold State.recess State.recessQuiet
  rfl

theorem kept_recessQuiet : Keeps s s.recessQuiet := by
  have hforms : Keeps s ((List.range 256).foldl (fun s f => if s.formState f ≠ 0 then s.stopForm f else s) (s.setRf Reg.PWR_STATUS 0 2 1)) :=
    Keeps.foldl (fun y f h => h.trans (kept_stopForm y f).ite) (kept_setRf _ _ _ _ _ (by decide))
  exact (kept_govRequest _ _ _).after ((kept_recessRings _).after ((kept_recessEnergy _).after hforms))

/-- The end of a power command: the state of PWR_STATUS, GO clear, event 58. -/
theorem powerEnd_spec {x : Nat} {u : State} (hx : x < 4) (hu : u = ((s.setRf Reg.PWR_STATUS 0 2 x).setRb Reg.PWR_CMD 0 false).domainEvent) :
    u.pwrState = x ∧ u.rb Reg.PWR_CMD 0 = false ∧ u.event 58 = true ∧ ∀ d, u.domOn d = s.domOn d := by
  subst hu
  refine ⟨?_, ?_, domainEvent_event, fun d => ?_⟩
  · rw [domainEvent_state, pwrState_congr (s := s.setRf Reg.PWR_STATUS 0 2 x) (by rw [reg_setRb, if_neg (by decide)])]
    exact (rf_setRf_self (by decide)).trans (Nat.mod_eq_of_lt hx)
  · rw [State.rb, domainEvent_quiet (by decide) (by decide)]
    exact rb_setRb_self (by decide)
  · refine domOn_congr ?_
    rw [domainEvent_quiet (by decide) (by decide), reg_setRb, if_neg (by decide), reg_setRf, if_neg (by decide)]

theorem recess_spec : s.recess.pwrState = 2 ∧ s.recess.rb Reg.PWR_CMD 0 = false ∧ s.recess.event 58 = true ∧
    ∀ d, d < 12 → s.recess.domOn d = (s.domOn d && recessMask.testBit d) := by
  obtain ⟨h1, h2, h3, h4⟩ := powerEnd_spec (by decide) (recess_eq (s := s))
  refine ⟨h1, h2, h3, fun d hd => ?_⟩
  rw [h4 d, (domainsOff_spec recessMask true).2 d hd, kept_recessQuiet.domOn]

/-! ### RUN and wake -/

/-- The state of WAKING in which the domains are switched. -/
def State.waking (s : State) : State :=
  let s := { s.setRf Reg.PWR_STATUS 0 2 3 with pwr := { s.pwr with wakeHeld := false } }
  s.govRequest (s.govClip 800) false

/-- RUN is reached; the warm load comes next. -/
def State.awake (s : State) : State :=
  let s := (s.domainsOff s.domainEn true).domainsOn s.domainEn true
  (((s.setRf Reg.PWR_STATUS 0 2 0).setRb Reg.PWR_CMD 0 false).setRb Reg.PWR_DOMAIN_STATUS 16 false).domainEvent

/-- A warm load is under way. -/
def State.warmLoad (s : State) : State :=
  { s.setRb Reg.IMG_LOAD_STATUS 0 true with loader := { s.loader with warm := true } }

theorem wakeUp_eq : s.wakeUp = (s.waking.awake.unconfigure.setRb Reg.IMG_LOAD_STATUS 3 false).warmLoad := by
  unfold State.wakeUp State.waking State.awake State.warmLoad
  rfl

theorem kept_waking : Keeps s s.waking := by
  have hstart : Keeps s { s.setRf Reg.PWR_STATUS 0 2 3 with pwr := { s.pwr with wakeHeld := false } } :=
    Keeps.upd (kept_setRf _ _ _ _ _ (by decide)) rfl
  exact (kept_govRequest _ _ _).after hstart

/-- What RUN leaves switched on. -/
theorem wakeDomains_domOn {d : Nat} (hd : d < 12) :
    ((s.domainsOff s.domainEn true).domainsOn s.domainEn true).domOn d = s.domainEn.testBit d := by
  rw [(domainsOn_spec s.domainEn true).2 d hd, (domainsOff_spec s.domainEn true).2 d hd]
  cases s.domOn d <;> simp

theorem awake_spec : s.awake.pwrState = 0 ∧ s.awake.event 58 = true ∧ ∀ d, d < 12 → s.awake.domOn d = s.domainEn.testBit d := by
  obtain ⟨x, hx⟩ : ∃ x, (s.domainsOff s.domainEn true).domainsOn s.domainEn true = x := ⟨_, rfl⟩
  have heq : s.awake = (((x.setRf Reg.PWR_STATUS 0 2 0).setRb Reg.PWR_CMD 0 false).setRb Reg.PWR_DOMAIN_STATUS 16 false).domainEvent := by
    unfold State.awake
    rw [hx]
  rw [heq]
  refine ⟨?_, domainEvent_event, fun d hd => ?_⟩
  · rw [domainEvent_state, pwrState_congr (s := x.setRf Reg.PWR_STATUS 0 2 0)
      (by rw [reg_setRb, if_neg (by decide), reg_setRb, if_neg (by decide)])]
    exact rf_setRf_self (by decide)
  · rw [domOn_congr (domainEvent_quiet (by decide) (by decide)), domOn_setRb (by decide), if_neg (by omega),
      domOn_congr (s := x) (by rw [reg_setRb, if_neg (by decide), reg_setRf, if_neg (by decide)]), ← hx]
    exact wakeDomains_domOn hd

theorem wakeUp_spec : s.wakeUp.pwrState = 0 ∧ s.wakeUp.event 58 = true ∧ s.wakeUp.rb Reg.IMG_LOAD_STATUS 0 = true ∧
    s.wakeUp.loader.warm = true ∧ ∀ d, d < 12 → s.wakeUp.domOn d = s.domainEn.testBit d := by
  obtain ⟨h1, h2, h3⟩ := awake_spec (s := s.waking)
  have hwarm : ∀ x : State, BaseKept x (x.setRb Reg.IMG_LOAD_STATUS 3 false).warmLoad := fun x =>
    ((base_setRb (by decide)).trans (base_setRb (by decide))).upd
  have hb : BaseKept s.waking.awake s.wakeUp := by
    rw [wakeUp_eq]
    exact (base_unconfigure _).trans (hwarm _)
  have hk : Keeps s.waking.awake s.wakeUp := by
    have hload : ∀ u : State, Keeps u (u.setRb Reg.IMG_LOAD_STATUS 3 false).warmLoad := fun u =>
      Keeps.upd ((kept_setRb _ _ _ _ (by decide)).after (kept_setRb u _ _ _ (by decide))) rfl
    rw [wakeUp_eq]
    exact (hload _).after (kept_unconfigure _)
  have hset : ∀ x : State, x.warmLoad.rb Reg.IMG_LOAD_STATUS 0 = true ∧ x.warmLoad.loader.warm = true := fun x =>
    ⟨(Leaves.of_regs (P := fun _ => True) (s := x.setRb Reg.IMG_LOAD_STATUS 0 true) rfl).rb trivial 0 |>.trans (rb_setRb_self (by decide)), rfl⟩
  refine ⟨(pwrState_congr (hb.regs _ (by decide))).trans h1, hb.events _ (by decide) h2, ?_, ?_, fun d hd => ?_⟩
  · rw [wakeUp_eq]
    exact (hset _).1
  · rw [wakeUp_eq]
    exact (hset _).2
  · rw [hk.domOn, h3 d hd, kept_waking.domainEn]

/-- Settles O26: the domains as the masks switch them, and what follows them. -/
theorem domainsRecessAndWake : Obligations.DomainsRecessAndWake := by
  unfold Obligations.DomainsRecessAndWake
  have hcmd : ∀ (s : State) (v : Word), (s.setReg Reg.PWR_CMD (merge 0x7 v (s.reg Reg.PWR_CMD))).rf Reg.PWR_CMD 1 2 = fld v 1 2 :=
    fun s v => by rw [State.rf, reg_setReg_self, fld_merge (by decide)]
  have hpower : ∀ (x : State), (x.rf Reg.PWR_CMD 1 2 = 1 → x.powerCommand = x.recess) ∧ (x.rf Reg.PWR_CMD 1 2 = 2 → x.powerCommand = x.wakeUp) :=
    fun x => by
      unfold State.powerCommand
      exact ⟨fun h => by simp only [h], fun h => by simp only [h]⟩
  have hdom : ∀ (s : State) (w : Word) d, (s.setReg Reg.PWR_CMD w).domOn d = s.domOn d := fun s w d => domOn_setReg (by decide)
  have hen : ∀ (s : State) (w : Word), (s.setReg Reg.PWR_CMD w).domainEn = s.domainEn := fun s w => by
    rw [State.domainEn, State.rf, reg_setReg_ne (by decide)]
    rfl
  refine ⟨fun s => ⟨fun v h => ⟨fun h0 => ?_, fun h0 => ?_⟩, fun h h0 => ?_⟩, fun s => ⟨fun v h hv hc => ?_, fun v h hv hc => ?_, fun h h2 => ?_⟩⟩
  · have h0' : (s.setReg Reg.PWR_DOMAIN_EN (merge 0xFFF v (s.reg Reg.PWR_DOMAIN_EN))).pwrState = 0 :=
      (pwrState_congr (reg_setReg_ne (by decide))).trans h0
    obtain ⟨h16, he, hd⟩ := domainWrite_run h0'
    refine ⟨_, congrArg Host.Outcome.next (poke_domainEn h), h16, he.trans domainEn_written, fun d => ?_⟩
    rw [hd d d.isLt, domOn_setReg (by decide), domainEn_written, testBit_written d.isLt]
  · have h0' : (s.setReg Reg.PWR_DOMAIN_EN (merge 0xFFF v (s.reg Reg.PWR_DOMAIN_EN))).pwrState ≠ 0 := fun c =>
      h0 ((pwrState_congr (reg_setReg_ne (by decide))).symm.trans c)
    exact ⟨_, congrArg Host.Outcome.next ((poke_domainEn h).trans (if_neg h0')), domainEn_written, leaves_setReg (by simp), rfl⟩
  · obtain ⟨h16, he, h8, hd⟩ := domainDone_spec h h0
    exact ⟨_, rfl, h16, he, h8, fun d => hd d d.isLt⟩
  · obtain ⟨h1, h2, h3, h4⟩ := recess_spec (s := s.setReg Reg.PWR_CMD (merge 0x7 v (s.reg Reg.PWR_CMD)))
    refine ⟨_, congrArg Host.Outcome.next ((poke_pwrCmd h hv).trans ((hpower _).1 ((hcmd s v).trans hc))), h1, h2, h3, fun d => ?_⟩
    rw [h4 d d.isLt, hdom]
  · obtain ⟨h1, h2, h3, h4, h5⟩ := wakeUp_spec (s := s.setReg Reg.PWR_CMD (merge 0x7 v (s.reg Reg.PWR_CMD)))
    refine ⟨_, congrArg Host.Outcome.next ((poke_pwrCmd h hv).trans ((hpower _).2 ((hcmd s v).trans hc))), h1, h2, h3, h4, fun d => ?_⟩
    rw [h5 d d.isLt, hen]
  · obtain ⟨h1, h3, -, h4, h5⟩ := wakeUp_spec (s := s)
    exact ⟨_, congrArg Host.Outcome.next (if_pos (by simp [h, h2])), h1, h3, h4, fun d => h5 d d.isLt⟩

end Sys2Proof.Machine

/-! The completion governor (R447-R449, R455). -/

namespace Sys2Proof.Machine

-- One declaration after another: side by side, their threads' stacks pass the memory limit of a check.
set_option Elab.async false

variable {s t u : State} {v : Word}

theorem fld_lt {w : Word} {lo n : Nat} : fld w lo n < 2 ^ n := Nat.mod_lt _ (Nat.two_pow_pos n)

/-! ### What a raise leaves of the power controller -/

theorem raiseBase_pwr {e inst : Nat} : ∃ b, (s.raiseBase e inst).pwr = { s.pwr with wakeHeld := b } := by
  have hsend : ∀ (c : Prop) [Decidable c] (x : State) (n : Nat), (if c then x.sendMsix n else x).pwr = x.pwr := fun c _ x n => by
    split
    · exact (within_sendMsix x n).pwr rfl
    · rfl
  have hhold : ∀ (c : Prop) [Decidable c] (x : State), x.pwr = s.pwr →
      ∃ b, (if c then { x with pwr := { x.pwr with wakeHeld := true } } else x).pwr = { s.pwr with wakeHeld := b } := fun c _ x hx => by
    split
    · exact ⟨true, congrArg (fun p : Power => { p with wakeHeld := true }) hx⟩
    · exact ⟨s.pwr.wakeHeld, hx⟩
  exact hhold _ _ (hsend _ _ _)

/-- Raising an event may hold a wake, and leaves the rest of the power controller. -/
theorem raise_pwr {e inst : Nat} (he : e < 64) : ∃ b, (s.raise e inst).pwr = { s.pwr with wakeHeld := b } := by
  refine raiseF_keeps (fun t => ∃ b, t.pwr = { s.pwr with wakeHeld := b }) (fun t e inst _ h => ?_) (fun t h => h)
    (fun t b w h => ?_) (fun t h => ?_) (fun t m a _ h => ?_) he ⟨s.pwr.wakeHeld, rfl⟩
  · obtain ⟨b, hb⟩ := h
    obtain ⟨c, hc⟩ := raiseBase_pwr (s := t) (e := e) (inst := inst)
    exact ⟨c, by rw [hc, hb]⟩
  · rwa [(within_ringReturnQuiet t 23 b w).pwr rfl]
  · rwa [(within_ringExhaustQuiet t 23 true).pwr rfl]
  · rwa [(within_fireEdge t m a).pwr rfl]

theorem flagRaise_pwr {o i e inst : Nat} (he : e < 64) : ∃ b, (s.flagRaise o i e inst).pwr = { s.pwr with wakeHeld := b } :=
  raise_pwr (s := s.setRb o i true) he

/-! ### Requests -/

section Send
variable {a : GovAsk} {tries : Nat}

theorem avsSend_pwr : (s.avsSend a tries).pwr = { s.pwr with ask := some (a, tries) } := by
  have hemit : ∀ (x : State) (o : Output), (x.emit o).pwr = x.pwr := fun x o => (within_emit x o).pwr rfl
  unfold State.avsSend
  dsimp only
  rw [hemit]
  split <;> rfl

theorem avsSend_reg {o : Nat} : (s.avsSend a tries).reg o =
    if o = Reg.PWR_GOV_VCORE then (a.mv.map fun v => setFld (s.reg o) 0 10 v).getD (s.reg o) else s.reg o := by
  have hset : ∀ (x : State) (p : Power), ({ x with pwr := p } : State).reg o = x.reg o := fun _ _ => rfl
  unfold State.avsSend
  dsimp only
  rw [emit_reg, hset]
  cases a.mv with
  | none => exact (ite_self _).symm
  | some w =>
    dsimp only
    rw [reg_setRf]
    split
    next h => rw [h]; rfl
    next => rfl

theorem leaves_avsSend : Leaves (fun o => o ≠ Reg.PWR_GOV_VCORE) s (s.avsSend a tries) := fun _ ho => avsSend_reg.trans (if_neg ho)

theorem avsSend_vcore {w : Nat} (h : a.mv = some w) : (s.avsSend a tries).vcore = w % 2 ^ 10 := by
  rw [State.vcore, State.rf, avsSend_reg, if_pos rfl, h, Option.map_some, Option.getD_some]
  exact fld_setFld (by decide)

theorem avsSend_keepsVcore (h : a.mv = none) : (s.avsSend a tries).vcore = s.vcore := by
  rw [State.vcore, State.rf, avsSend_reg, if_pos rfl, h]
  rfl

theorem avsSend_out (hb : s.boundary = false) :
    (s.avsSend a tries).out = .avs (s.rf Reg.PWR_GOV_CTRL 1 4) a.mv :: s.out := by
  have hemit : ∀ (x : State) (o : Output), x.boundary = false → (x.emit o).out = o :: x.out := fun x o hx => by
    rw [emit_eq, hx]
    rfl
  have hbx : ∀ (w : Nat) (p : Power), ({ s.setRf Reg.PWR_GOV_VCORE 0 10 w with pwr := p } : State).boundary = false := fun w p =>
    (boundary_congr fun o ho => (Leaves.of_regs (P := fun _ => True) (s := s.setRf Reg.PWR_GOV_VCORE 0 10 w) rfl o trivial).trans
      (reg_setRf.trans (if_neg (by unfold Reg.PWR_GOV_VCORE; omega)))).trans hb
  have hctrl : ∀ w, (s.setRf Reg.PWR_GOV_VCORE 0 10 w).rf Reg.PWR_GOV_CTRL 1 4 = s.rf Reg.PWR_GOV_CTRL 1 4 := fun w => by
    rw [State.rf, reg_setRf, if_neg (by decide)]
    rfl
  have hplain : ∀ p : Power, ({ s with pwr := p } : State).boundary = false := fun p => hb
  unfold State.avsSend
  dsimp only
  cases a.mv with
  | none => exact hemit _ _ (hplain _)
  | some w =>
    dsimp only
    rw [hemit _ _ (hbx _ _), hctrl]
    rfl

end Send

theorem govPut_sends {a : GovAsk} (h2 : s.govState ≠ 2) (h : s.pwr.ask = none) : s.govPut a = s.avsSend a 0 := by
  unfold State.govPut
  rw [if_neg h2, if_neg (by simp [h])]

theorem govPut_waits {a : GovAsk} (h2 : s.govState ≠ 2) (h : s.pwr.ask ≠ none) :
    s.govPut a = { s with pwr := { s.pwr with asks := s.pwr.asks ++ [a] } } := by
  unfold State.govPut
  rw [if_neg h2, if_pos (Option.isSome_iff_ne_none.2 h)]

theorem govPut_fault {a : GovAsk} (h2 : s.govState = 2) : s.govPut a = s.govShow := if_pos h2

theorem govState_congr (h : t.reg Reg.PWR_GOV_STATUS = s.reg Reg.PWR_GOV_STATUS) : t.govState = s.govState := by
  rw [State.govState, State.rf, h]
  rfl

/-! ### The next request -/

/-- Whether a request is manual. -/
def GovAsk.isManual : GovAsk → Bool
  | .manual _ => true
  | _ => false

/-- Whether a manual request is outstanding. -/
def State.manualOut (s : State) : Bool := s.pwr.ask.any (fun e => e.1.isManual) || s.pwr.asks.any GovAsk.isManual

theorem govShow_eq : s.govShow = s.setRb Reg.PWR_GOV_REQ 31 s.manualOut := by
  unfold State.govShow State.manualOut GovAsk.isManual
  rfl

/-- Nothing waits behind the request that is done with. -/
theorem govNext_last (h : s.pwr.asks = []) :
    s.govNext = ({ s with pwr := { s.pwr with ask := none } } : State).setRb Reg.PWR_GOV_REQ 31 false := by
  unfold State.govNext
  dsimp only
  rw [h, govShow_eq]
  simp only [State.manualOut, h, Option.any_none, List.any_nil, Bool.or_false]

theorem govNext_next {b : GovAsk} {bs : List GovAsk} (h : s.pwr.asks = b :: bs) :
    s.govNext = (({ s with pwr := { s.pwr with ask := none, asks := bs } } : State).avsSend b 0).govShow := by
  unfold State.govNext
  dsimp only
  rw [h]

/-! ### One step -/

/-- A step that is requested: the voltage shown, the request under way, its count. -/
theorem govStep_sent {up : Bool} {mv : Nat} (hmv : mv = if up then s.vcore + 5 else s.vcore - 5) (hmax : mv ≤ s.vMax) (hmin : s.vMin ≤ mv)
    (ha : s.pwr.ask = none) (h2 : s.govState ≠ 2) (hu : u = s.govStep up) :
    u.vcore = mv ∧ u.pwr = { s.pwr with ask := some (.auto mv, 0) } ∧
      u.reg (Reg.PWR_GOV_CNT (if up then 0 else 1)) = satWord (s.reg (Reg.PWR_GOV_CNT (if up then 0 else 1))) 1 ∧
      Leaves (fun o => o ∉ [Reg.PWR_GOV_CNT (if up then 0 else 1), Reg.PWR_GOV_VCORE]) s u := by
  have hcnt : Reg.PWR_GOV_CNT (if up then 0 else 1) ≠ Reg.PWR_GOV_VCORE ∧ Reg.PWR_GOV_STATUS ≠ Reg.PWR_GOV_CNT (if up then 0 else 1) := by
    cases up <;> decide
  have hlt : mv < 2 ^ 10 := Nat.lt_of_le_of_lt hmax fld_lt
  have heq : u = (s.bump (Reg.PWR_GOV_CNT (if up then 0 else 1))).avsSend (.auto mv) 0 := by
    rw [hu, State.govStep, ← hmv, if_neg (Nat.not_lt.2 hmax), if_neg (Nat.not_lt.2 hmin), State.govRequest, if_neg Bool.false_ne_true]
    exact govPut_sends (fun c => h2 ((govState_congr (reg_bump.trans (if_neg hcnt.2))).symm.trans c)) ha
  rw [heq]
  refine ⟨(avsSend_vcore rfl).trans (Nat.mod_eq_of_lt hlt), avsSend_pwr, ?_, ?_⟩
  · rw [avsSend_reg, if_neg hcnt.1, reg_bump, if_pos rfl]
  · exact (leaves_bump (by simp)).trans (leaves_avsSend.mono fun o ho => by simp at ho; exact ho.2)

/-- A step below VMIN is withheld. -/
theorem govStep_low (hmax : s.vcore - 5 ≤ s.vMax) (hmin : s.vcore - 5 < s.vMin) :
    s.govStep false = (s.bump (Reg.PWR_GOV_CNT 2)).govLimit 1 := by
  unfold State.govStep
  dsimp only
  rw [if_neg Bool.false_ne_true, if_neg (Nat.not_lt.2 hmax), if_pos hmin]

/-- Event 60 with its cause. -/
theorem govLimit_spec {c : Nat} (hc : c < 4) (hu : u = s.govLimit c) :
    u.event 60 = true ∧ u.rf Reg.PWR_GOV_STATUS 4 2 = c ∧ u.govState = s.govState ∧
      Leaves (fun o => Quiet o ∧ o ∉ [Reg.PWR_GOV_STATUS, Reg.PWR_STATUS]) s u ∧ ∃ b, u.pwr = { s.pwr with wakeHeld := b } := by
  have hst : u.reg Reg.PWR_GOV_STATUS = setFld (s.reg Reg.PWR_GOV_STATUS) 4 2 c := by
    rw [hu, State.govLimit, flagRaise_quiet (by decide) (by decide) (by decide), reg_setRf, if_pos rfl]
  refine ⟨hu ▸ event_flagRaise (by decide), ?_, ?_, ?_, ?_⟩
  · rw [State.rf, hst, fld_setFld (by decide)]
    exact Nat.mod_eq_of_lt hc
  · rw [State.govState, State.rf, hst, fld_setFld_ne (by decide) (by decide)]
    rfl
  · rw [hu]
    exact (leaves_setRf (by simp)).trans (leaves_flagRaise (fun _ h => h.1) (by simp) (by decide))
  · rw [hu]
    exact flagRaise_pwr (by decide)

/-! ### The end of a window -/

/-- The next window opens. -/
def State.nextWindow (s : State) : State := { s with pwr := { s.pwr with winStart := s.now, minSlack := none } }

/-- The least slack `x` of a window is shown, and event 59 raised where it asks for it. -/
def State.slackShown (s : State) (x : Int) : State :=
  let s := s.nextWindow.setRf Reg.PWR_GOV_VCORE 16 16 (wrap 16 (clampInt (-32767) 32767 (slackUs x)))
  if x < s.rf Reg.PWR_GOV_ALARM 0 16 * ((1000 * stampNsUnit : Nat) : Int) then s.flagRaise Reg.PWR_STATUS 9 59 0 else s

theorem windowEnd_none (hd : s.windowDue = true) (hr : s.govReady = true) (hm : s.pwr.minSlack = none) :
    s.windowEnd = s.nextWindow.govStep false := by
  unfold State.windowEnd
  rw [if_pos hd]
  simp only [hm, hr]
  rfl

theorem windowEnd_some {x : Int} (hd : s.windowDue = true) (hr : s.govReady = true) (hm : s.pwr.minSlack = some x) :
    s.windowEnd =
      if x < (s.slackShown x).rf Reg.PWR_GOV_TARGET 0 16 * ((1000 * stampNsUnit : Nat) : Int) then (s.slackShown x).govStep true
      else if (s.slackShown x).rf Reg.PWR_GOV_TARGET 16 16 * ((1000 * stampNsUnit : Nat) : Int) < x then (s.slackShown x).govStep false
      else s.slackShown x := by
  unfold State.windowEnd State.slackShown State.nextWindow
  rw [if_pos hd]
  dsimp only
  rw [hm, hr]
  dsimp only
  rw [if_neg (by decide)]

/-- What a step of the governor looks at, in the next window as in this one. -/
structure NextWindow (s u : State) : Prop where
  vcore : u.vcore = s.vcore
  regs : Leaves (fun o => o / 0x10000 = 2 ∧ o ∉ [Reg.PWR_STATUS, Reg.PWR_GOV_VCORE]) s u
  ask : u.pwr.ask = s.pwr.ask
  winStart : u.pwr.winStart = s.now

theorem nextWindow_next : NextWindow s s.nextWindow := ⟨rfl, .of_regs rfl, rfl, rfl⟩

theorem slackShown_next {x : Int} : NextWindow s (s.slackShown x) := by
  obtain ⟨y, hy⟩ : ∃ y, s.nextWindow.setRf Reg.PWR_GOV_VCORE 16 16 (wrap 16 (clampInt (-32767) 32767 (slackUs x))) = y := ⟨_, rfl⟩
  have hreg : ∀ o, y.reg o = (s.setRf Reg.PWR_GOV_VCORE 16 16 (wrap 16 (clampInt (-32767) 32767 (slackUs x)))).reg o := fun o => hy ▸ rfl
  have hpwr : y.pwr = s.nextWindow.pwr := hy ▸ rfl
  have hnext : NextWindow s y := by
    refine ⟨?_, fun o ho => ?_, by rw [hpwr]; rfl, by rw [hpwr]; rfl⟩
    · rw [State.vcore, State.rf, hreg, reg_setRf, if_pos rfl, fld_setFld_ne (by decide) (by decide)]
      rfl
    · rw [hreg, reg_setRf, if_neg fun c => ho.2 (by simp [c])]
  unfold State.slackShown
  rw [hy]
  dsimp only
  split
  · obtain ⟨b, hb⟩ := flagRaise_pwr (s := y) (o := Reg.PWR_STATUS) (i := 9) (e := 59) (inst := 0) (by decide)
    refine ⟨?_, hnext.regs.trans (leaves_flagRaise (fun o ho => ?_) (by simp) (by decide)), by rw [hb]; exact hnext.ask,
      by rw [hb]; exact hnext.winStart⟩
    · rw [← hnext.vcore, State.vcore, State.rf, flagRaise_quiet (by decide) (by decide) (by decide)]
      rfl
    · unfold Quiet
      omega
  · exact hnext

/-- Event 59 where the least slack is below ALARM. -/
theorem slackShown_event {x : Int} (h : x < s.rf Reg.PWR_GOV_ALARM 0 16 * ((1000 * stampNsUnit : Nat) : Int)) :
    (s.slackShown x).event 59 = true := by
  have hal : (s.nextWindow.setRf Reg.PWR_GOV_VCORE 16 16 (wrap 16 (clampInt (-32767) 32767 (slackUs x)))).rf Reg.PWR_GOV_ALARM 0 16 =
      s.rf Reg.PWR_GOV_ALARM 0 16 := by
    rw [State.rf, reg_setRf, if_neg (by decide)]
    rfl
  unfold State.slackShown
  dsimp only
  rw [hal, if_pos h]
  exact event_flagRaise (by decide)

namespace NextWindow
variable (h : NextWindow s u)
include h

theorem limits : u.vMin = s.vMin ∧ u.vMax = s.vMax := ⟨h.regs.rf (by decide) 0 10, h.regs.rf (by decide) 16 10⟩

theorem state : u.govState = s.govState := h.regs.rf (by decide) 0 2

theorem target (lo : Nat) : u.rf Reg.PWR_GOV_TARGET lo 16 = s.rf Reg.PWR_GOV_TARGET lo 16 := h.regs.rf (by decide) lo 16

end NextWindow

/-- A ready governor tracks, with no request under way. -/
theorem govReady_iff (h : s.govReady = true) : s.govState = 1 ∧ s.pwr.ask = none := by
  unfold State.govReady at h
  simp only [Bool.and_eq_true, decide_eq_true_eq, Option.isNone_iff_eq_none] at h
  exact h.1

/-- A step of 5 mV in the next window. -/
theorem NextWindow.step {up : Bool} {mv : Nat} (h : NextWindow s u) (hready : s.govReady = true)
    (hmv : mv = if up then s.vcore + 5 else s.vcore - 5) (hmax : mv ≤ s.vMax) (hmin : s.vMin ≤ mv) (ht : t = u.govStep up) :
    t.vcore = mv ∧ t.pwr.ask = some (.auto mv, 0) ∧ t.pwr.winStart = s.now ∧
      t.reg (Reg.PWR_GOV_CNT (if up then 0 else 1)) = satWord (s.reg (Reg.PWR_GOV_CNT (if up then 0 else 1))) 1 ∧
      Leaves (fun o => o ∉ [Reg.PWR_GOV_CNT (if up then 0 else 1), Reg.PWR_GOV_VCORE]) u t := by
  obtain ⟨hst, hask⟩ := govReady_iff hready
  obtain ⟨hlo, hhi⟩ := h.limits
  have hcnt : u.reg (Reg.PWR_GOV_CNT (if up then 0 else 1)) = s.reg (Reg.PWR_GOV_CNT (if up then 0 else 1)) :=
    h.regs _ (by cases up <;> decide)
  obtain ⟨h1, h2, h3, h4⟩ := govStep_sent (s := u) (up := up) (mv := mv) (by rw [h.vcore, hmv]) (by rw [hhi]; exact hmax) (by rw [hlo]; exact hmin)
    (h.ask.trans hask) (by rw [h.state, hst]; decide) ht
  exact ⟨h1, by rw [h2], by rw [h2]; exact h.winStart, by rw [h3, hcnt], h4⟩

theorem keepsEvents_govStep_up {mv : Nat} (hmv : mv = s.vcore + 5) (hmax : mv ≤ s.vMax) (hmin : s.vMin ≤ mv)
    (ha : s.pwr.ask = none) (h2 : s.govState ≠ 2) : KeepsEvents s (s.govStep true) :=
  .of_leaves ((govStep_sent (up := true) hmv hmax hmin ha h2 rfl).2.2.2.mono fun o ho => by
    simp only [Reg.PWR_GOV_CNT, Reg.PWR_GOV_VCORE, List.mem_cons, List.not_mem_nil, or_false, if_true]
    omega)

/-! ### Writes of the governor -/

theorem govCtrlRow : regRow Reg.PWR_GOV_CTRL = some ⟨0x20020, 0x4, 1, 0x4, 1, 0xA0000, 0x3FF001F, 0x0, 0x0, 0x1, .single, none⟩ := by decide

theorem govReqRow : regRow Reg.PWR_GOV_REQ = some ⟨0x20034, 0x4, 1, 0x4, 1, 0x0, 0x800003FF, 0x0, 0x0, 0x0, .single, none⟩ := by decide

theorem poke_govEnable (h : s.Accepts Reg.PWR_GOV_CTRL v) (h1 : bit v 0 = true) (h0 : s.rb Reg.PWR_GOV_CTRL 0 = false) :
    s.poke Reg.PWR_GOV_CTRL v {} = (s.setReg Reg.PWR_GOV_CTRL (merge 0x3FF001F v (s.reg Reg.PWR_GOV_CTRL))).govStart := by
  have hen : (s.setReg Reg.PWR_GOV_CTRL (merge 0x3FF001F v (s.reg Reg.PWR_GOV_CTRL))).rb Reg.PWR_GOV_CTRL 0 = true := by
    rw [State.rb, reg_setReg_self, bit_merge, if_pos (by decide), h1]
  have hold : bit (s.reg Reg.PWR_GOV_CTRL) 0 = false := h0
  rw [h.poke_plain (by decide) govCtrlRow rfl rfl, unitHook_pwr rfl, State.pwrHook, if_neg (by decide), if_neg (by decide), if_pos rfl, hen,
    hold, if_pos (by decide)]

theorem poke_govReq (h : s.Accepts Reg.PWR_GOV_REQ v) (h1 : bit v 31 = true) :
    s.poke Reg.PWR_GOV_REQ v {} =
      (s.setReg Reg.PWR_GOV_REQ (merge 0x800003FF v (s.reg Reg.PWR_GOV_REQ))).govPut (.manual (fld v 0 10)) := by
  rw [h.poke_plain (by decide) govReqRow rfl rfl, unitHook_pwr rfl, State.pwrHook, if_neg (by decide), if_neg (by decide),
    if_neg (by decide), if_pos rfl, if_pos h1, State.govRequest, if_pos rfl]

/-- The governor tracks from a new window on; the read of the rail comes next. -/
def State.tracking (s : State) : State :=
  { s.setReg Reg.PWR_GOV_STATUS (setFld (s.reg Reg.PWR_GOV_STATUS) 0 2 1) with pwr := { s.pwr with winStart := s.now, minSlack := none } }

theorem govStart_eq : s.govStart = s.tracking.govPut .read := by
  unfold State.govStart State.tracking
  rfl

theorem tracking_reg {o : Nat} : s.tracking.reg o =
    (s.setReg Reg.PWR_GOV_STATUS (setFld (s.reg Reg.PWR_GOV_STATUS) 0 2 1)).reg o := rfl

theorem tracking_state : s.tracking.govState = 1 := by
  rw [State.govState, State.rf, tracking_reg, reg_setReg_self]
  exact fld_setFld (by decide)

/-- A register write of PWR leaves the boundary cells as they are. -/
theorem boundary_setReg {o : Nat} {w : Word} (h : o < 0x1A0000) : (s.setReg o w).boundary = s.boundary :=
  boundary_congr fun p hp => reg_setReg_ne (by omega)

theorem govStart_spec {w : Word} (hu : u = (s.setReg Reg.PWR_GOV_CTRL w).govStart) : u.govState = 1 ∧ u.pwr.winStart = s.now ∧
    (s.pwr.ask = none → u.pwr.ask = some (.read, 0) ∧ (s.boundary = false → u.out = .avs (fld w 1 4) none :: s.out)) ∧
    (s.pwr.ask ≠ none → u.pwr.ask = s.pwr.ask ∧ u.pwr.asks = s.pwr.asks ++ [.read] ∧ u.out = s.out) := by
  obtain ⟨x, hx⟩ : ∃ x, (s.setReg Reg.PWR_GOV_CTRL w).tracking = x := ⟨_, rfl⟩
  have hst : x.govState = 1 := hx ▸ tracking_state
  have h2 : x.govState ≠ 2 := by rw [hst]; decide
  have hpwr : x.pwr = { s.pwr with winStart := s.now, minSlack := none } := hx ▸ rfl
  have hout : x.out = s.out := hx ▸ rfl
  have hctrl : x.rf Reg.PWR_GOV_CTRL 1 4 = fld w 1 4 := by
    rw [← hx, State.rf, tracking_reg, reg_setReg_ne (by decide), reg_setReg_self]
  have hb : x.boundary = s.boundary := by
    refine boundary_congr fun o ho => ?_
    rw [← hx, tracking_reg, reg_setReg_ne (by unfold Reg.PWR_GOV_STATUS; omega), reg_setReg_ne (by unfold Reg.PWR_GOV_CTRL; omega)]
  have heq : u = x.govPut .read := by rw [hu, govStart_eq, hx]
  cases ha : s.pwr.ask with
  | none =>
    have hax : x.pwr.ask = none := by rw [hpwr]; exact ha
    rw [govPut_sends h2 hax] at heq
    refine ⟨?_, by rw [heq, avsSend_pwr, hpwr], fun _ => ⟨by rw [heq, avsSend_pwr], fun hs => ?_⟩, fun c => absurd rfl c⟩
    · rw [heq, govState_congr (leaves_avsSend _ (by decide)), hst]
    · rw [heq, avsSend_out (hb.trans hs), hctrl, hout]
      rfl
  | some p =>
    have hax : x.pwr.ask ≠ none := by rw [hpwr]; exact ha ▸ Option.some_ne_none p
    rw [govPut_waits h2 hax] at heq
    refine ⟨?_, by rw [heq, hpwr], fun c => absurd c (Option.some_ne_none p), fun _ => ⟨by rw [heq, hpwr]; exact ha, by rw [heq, hpwr], ?_⟩⟩
    · rw [heq]
      exact hst
    · rw [heq]
      exact hout

theorem govReq_spec {w : Word} {mv : Nat} (hw : bit w 31 = true) (hmv : mv < 2 ^ 10)
    (hu : u = (s.setReg Reg.PWR_GOV_REQ w).govPut (.manual mv)) :
    (s.govState ≠ 2 → s.pwr.ask = none → u.vcore = mv ∧ u.pwr.ask = some (.manual mv, 0) ∧ u.rb Reg.PWR_GOV_REQ 31 = true ∧
      (s.boundary = false → u.out = .avs (s.rf Reg.PWR_GOV_CTRL 1 4) (some mv) :: s.out)) ∧
    (s.govState ≠ 2 → s.pwr.ask ≠ none → u.pwr.ask = s.pwr.ask ∧ u.pwr.asks = s.pwr.asks ++ [.manual mv] ∧ u.out = s.out) ∧
    (s.govState = 2 → u.pwr = s.pwr ∧ u.out = s.out) := by
  have hst : (s.setReg Reg.PWR_GOV_REQ w).govState = s.govState := govState_congr (reg_setReg_ne (by decide))
  have hctrl : (s.setReg Reg.PWR_GOV_REQ w).rf Reg.PWR_GOV_CTRL 1 4 = s.rf Reg.PWR_GOV_CTRL 1 4 := by
    rw [State.rf, reg_setReg_ne (by decide)]
    rfl
  refine ⟨fun h2 ha => ?_, fun h2 ha => ?_, fun h2 => ?_⟩
  · rw [govPut_sends (s := s.setReg Reg.PWR_GOV_REQ w) (hst ▸ h2) ha] at hu
    refine ⟨?_, by rw [hu, avsSend_pwr], ?_, fun hb => ?_⟩
    · rw [hu, avsSend_vcore rfl, Nat.mod_eq_of_lt hmv]
    · rw [hu, leaves_avsSend.rb (by decide), State.rb, reg_setReg_self, hw]
    · rw [hu, avsSend_out ((boundary_setReg (by decide)).trans hb), hctrl]
      rfl
  · rw [govPut_waits (s := s.setReg Reg.PWR_GOV_REQ w) (hst ▸ h2) ha] at hu
    subst hu
    exact ⟨rfl, rfl, rfl⟩
  · rw [govPut_fault (hst.trans h2), govShow_eq] at hu
    subst hu
    exact ⟨rfl, rfl⟩

/-! ### Responses -/

theorem avsResponse_acked {a : GovAsk} {mv k : Nat} (h : s.pwr.ask = some (a, k)) (ha : a ≠ .read) :
    s.avsResponse (some mv) = ({ s with pwr := { s.pwr with ackAt := some s.now } } : State).govNext := by
  unfold State.avsResponse
  cases a with
  | read => exact absurd rfl ha
  | auto x => simp only [h]
  | manual x => simp only [h]

theorem avsResponse_failed {a : GovAsk} (h : s.pwr.ask = some (a, 0)) :
    s.avsResponse none = (s.bump (Reg.PWR_GOV_CNT 3)).avsSend a 1 := by
  unfold State.avsResponse
  simp only [h] <;> rfl

theorem avsResponse_fault {a : GovAsk} (h : s.pwr.ask = some (a, 1)) : s.avsResponse none =
    ((({ s with pwr := { s.pwr with ask := none, asks := [] } } : State).govShow).setRf Reg.PWR_GOV_STATUS 0 2 2).govLimit 3 := by
  unfold State.avsResponse
  simp only [h] <;> rfl

/-- The voltage `mv` read is taken; where it is not permitted, the nearest one that is comes first. -/
def State.railRead (s : State) (mv : Nat) : State :=
  if s.govClip mv ≠ mv && s.rb Reg.PWR_GOV_CTRL 0 then
    let s' := s.setRf Reg.PWR_GOV_VCORE 0 10 mv
    { s' with pwr := { s'.pwr with asks := .auto (s.govClip mv) :: s'.pwr.asks } }
  else s.setRf Reg.PWR_GOV_VCORE 0 10 mv

theorem avsResponse_read {mv k : Nat} (h : s.pwr.ask = some (.read, k)) : s.avsResponse (some mv) = (s.railRead mv).govNext := by
  have hen : (s.setRf Reg.PWR_GOV_VCORE 0 10 mv).rb Reg.PWR_GOV_CTRL 0 = s.rb Reg.PWR_GOV_CTRL 0 := by
    rw [State.rb, reg_setRf, if_neg (by decide)]
    rfl
  unfold State.avsResponse State.railRead
  simp only [h, hen]

/-- The next request leaves, with GO as the requests that are left have it. -/
theorem govNext_next_spec {b : GovAsk} {bs : List GovAsk} (h : s.pwr.asks = b :: bs) (hu : u = s.govNext) :
    u.pwr = { s.pwr with ask := some (b, 0), asks := bs } ∧ Leaves (fun o => o ∉ [Reg.PWR_GOV_REQ, Reg.PWR_GOV_VCORE]) s u ∧
      (∀ w, b.mv = some w → u.vcore = w % 2 ^ 10) := by
  obtain ⟨x, hx⟩ : ∃ x : State, ({ s with pwr := { s.pwr with ask := none, asks := bs } } : State) = x := ⟨_, rfl⟩
  have hxr : Leaves (fun _ => True) s x := .of_regs (hx ▸ rfl)
  have hxp : x.pwr = { s.pwr with ask := none, asks := bs } := hx ▸ rfl
  rw [govNext_next h, hx, govShow_eq] at hu
  subst hu
  refine ⟨?_, ?_, fun w hw => ?_⟩
  · refine (setReg_pwr _ _).trans ?_
    rw [avsSend_pwr, hxp]
  · refine ((hxr.mono fun _ _ => trivial).trans (leaves_avsSend.mono fun o ho => ?_)).trans (leaves_setRb (by simp))
    simp at ho
    exact ho.2
  · have hset : ∀ y : State, ∀ b, (y.setRb Reg.PWR_GOV_REQ 31 b).vcore = y.vcore := fun y b => by
      rw [State.vcore, State.rf, reg_setRb, if_neg (by decide)]
      rfl
    rw [hset, avsSend_vcore hw]

theorem govNext_last_spec (h : s.pwr.asks = []) (hu : u = s.govNext) : u.pwr = { s.pwr with ask := none } ∧
    u.rb Reg.PWR_GOV_REQ 31 = false ∧ Leaves (fun o => o ∉ [Reg.PWR_GOV_REQ]) s u ∧ u = { s with regs := u.regs, pwr := u.pwr } := by
  rw [govNext_last h] at hu
  subst hu
  exact ⟨rfl, rb_setRb_self (by decide), leaves_setRb (s := ({ s with pwr := { s.pwr with ask := none } } : State)) (by simp), rfl⟩

theorem govClip_lt {mv : Nat} : s.govClip mv < 2 ^ 10 := by
  have h1 : s.vMin < 2 ^ 10 := fld_lt
  have h2 : s.vMax < 2 ^ 10 := fld_lt
  unfold State.govClip
  omega

theorem railRead_spec {mv c : Nat} (hc : c = s.govClip mv) (ha : s.pwr.asks = []) (hu : u = (s.railRead mv).govNext) :
    AllRegsKept s u [Reg.PWR_GOV_VCORE, Reg.PWR_GOV_REQ] ∧ (mv = c → u.vcore = c ∧ u.pwr.ask = none) ∧
      (mv ≠ c → s.rb Reg.PWR_GOV_CTRL 0 = true → u.vcore = c ∧ u.pwr.ask = some (.auto c, 0)) ∧
      (mv ≠ c → s.rb Reg.PWR_GOV_CTRL 0 = false → u.vcore = mv % 2 ^ 10 ∧ u.pwr.ask = none) := by
  have hlt : c < 2 ^ 10 := hc ▸ govClip_lt
  obtain ⟨x, hx⟩ : ∃ x, s.setRf Reg.PWR_GOV_VCORE 0 10 mv = x := ⟨_, rfl⟩
  have hxr : Leaves (fun o => o ∉ [Reg.PWR_GOV_VCORE, Reg.PWR_GOV_REQ]) s x := hx ▸ leaves_setRf (by simp)
  have hxv : x.vcore = mv % 2 ^ 10 := by
    rw [← hx]
    exact rf_setRf_self (by decide)
  have hxa : x.pwr.asks = [] := hx ▸ ha
  by_cases hif : (decide (s.govClip mv ≠ mv) && s.rb Reg.PWR_GOV_CTRL 0) = true
  · obtain ⟨h1, h2⟩ := Bool.and_eq_true_iff.1 hif
    have hne : mv ≠ c := fun e => (of_decide_eq_true h1) (hc.symm.trans e.symm)
    have hrail : s.railRead mv = { x with pwr := { x.pwr with asks := .auto c :: x.pwr.asks } } := by
      rw [State.railRead, if_pos hif, ← hx, hc]
    obtain ⟨g1, g2, g3⟩ := govNext_next_spec (s := { x with pwr := { x.pwr with asks := .auto c :: x.pwr.asks } }) rfl (hrail ▸ hu)
    have hxx : Leaves (fun o => o ∉ [Reg.PWR_GOV_VCORE, Reg.PWR_GOV_REQ]) x u := fun o ho => by
      simp at ho
      exact g2 o (by simp [ho])
    refine ⟨hxr.trans hxx, fun e => absurd e hne, fun _ _ => ⟨(g3 c rfl).trans (Nat.mod_eq_of_lt hlt), by rw [g1]⟩, fun _ e => ?_⟩
    rw [e] at h2
    exact absurd h2 Bool.false_ne_true
  · have hrail : s.railRead mv = x := by rw [State.railRead, if_neg hif, hx]
    obtain ⟨g1, -, g3, -⟩ := govNext_last_spec hxa (hrail ▸ hu)
    have hv : u.vcore = mv % 2 ^ 10 := (g3.rf (by decide) 0 10).trans hxv
    have hask : u.pwr.ask = none := by rw [g1]
    refine ⟨hxr.trans (g3.mono fun o ho => ?_), fun e => ⟨?_, hask⟩, fun hne h2 => ?_, fun _ _ => ⟨hv, hask⟩⟩
    · simp at ho ⊢
      exact ho.2
    · rw [hv, e, Nat.mod_eq_of_lt hlt]
    · exact absurd (Bool.and_eq_true_iff.2 ⟨decide_eq_true (p := s.govClip mv ≠ mv) fun e => hne (e.symm.trans hc.symm), h2⟩) hif

theorem avsFault_spec {x : State} (hx : ({ s with pwr := { s.pwr with ask := none, asks := [] } } : State) = x)
    (hu : u = (x.govShow.setRf Reg.PWR_GOV_STATUS 0 2 2).govLimit 3) :
    u.pwr.ask = none ∧ u.pwr.asks = [] ∧ u.govState = 2 ∧ u.event 60 = true ∧ u.rf Reg.PWR_GOV_STATUS 4 2 = 3 ∧
      u.rb Reg.PWR_GOV_REQ 31 = false := by
  have hxp : x.pwr.ask = none ∧ x.pwr.asks = [] := hx ▸ ⟨rfl, rfl⟩
  have hman : x.manualOut = false := by
    rw [State.manualOut, hxp.1, hxp.2]
    rfl
  obtain ⟨h1, h2, h3, h4, b, h5⟩ := govLimit_spec (by decide) hu
  have hpwr : (x.govShow.setRf Reg.PWR_GOV_STATUS 0 2 2).pwr = x.pwr := by
    rw [govShow_eq]
    rfl
  refine ⟨by rw [h5, hpwr]; exact hxp.1, by rw [h5, hpwr]; exact hxp.2, ?_, h1, h2, ?_⟩
  · rw [h3]
    exact (rf_setRf_self (by decide)).trans (by decide)
  · rw [h4.rb ⟨by decide, by decide⟩, State.rb, reg_setRf, if_neg (by decide), govShow_eq, hman]
    exact rb_setRb_self (by decide)

/-! ### A step that is withheld -/

theorem withheld_spec (hready : s.govReady = true) (hmax : s.vcore - 5 ≤ s.vMax) (hmin : s.vcore - 5 < s.vMin)
    (ht : t = s.nextWindow.govStep false) : t.vcore = s.vcore ∧ t.pwr.ask = none ∧ t.event 60 = true ∧ t.rf Reg.PWR_GOV_STATUS 4 2 = 1 ∧
      t.reg (Reg.PWR_GOV_CNT 2) = satWord (s.reg (Reg.PWR_GOV_CNT 2)) 1 ∧
      RegsKept s t [Reg.PWR_GOV_CNT 2, Reg.PWR_GOV_STATUS, Reg.PWR_STATUS] := by
  have hask := (govReady_iff hready).2
  obtain ⟨x, hx⟩ : ∃ x, s.nextWindow.bump (Reg.PWR_GOV_CNT 2) = x := ⟨_, rfl⟩
  have hreg : ∀ o, x.reg o = if o = Reg.PWR_GOV_CNT 2 then satWord (s.reg (Reg.PWR_GOV_CNT 2)) 1 else s.reg o := fun o => by
    rw [← hx, reg_bump]
    rfl
  have heq : t = x.govLimit 1 := by
    rw [ht, govStep_low (s := s.nextWindow) hmax hmin, hx]
  obtain ⟨h1, h2, -, h4, b, h5⟩ := govLimit_spec (by decide) heq
  have hxa : x.pwr.ask = none := by
    rw [← hx]
    exact hask
  refine ⟨?_, by rw [h5]; exact hxa, h1, h2, ?_, regsKept_iff.2 fun o ho => ?_⟩
  · rw [State.vcore, h4.rf ⟨by decide, by decide⟩, State.rf, hreg, if_neg (by decide)]
    rfl
  · rw [h4 _ ⟨by decide, by decide⟩, hreg, if_pos rfl]
  · have ho2 := ho.2
    simp at ho2
    rw [h4 o ⟨ho.1, by simp [ho2]⟩, hreg, if_neg ho2.1]

/-- Settles O27: each command as the queue of requests and the window have it. -/
theorem governorCommands : Obligations.GovernorCommands := by
  unfold Obligations.GovernorCommands
  intro s
  refine ⟨fun v h h1 h0 => ?_, fun v h h1 => ?_, fun a mv k h ha => ?_, fun mv k c h hn hc => ?_, fun h r => ?_, fun a h => ?_, fun a h => ?_,
    fun hd hr hm hlo hhi => ?_, fun hd hr hm hlo hhi => ?_, fun x hd hr hm hx hlo hhi => ?_, fun x hd hr hm hx => ⟨fun hh hlo hhi => ?_, fun hh => ?_⟩,
    fun hd => ?_⟩
  · obtain ⟨g1, g2, g3, g4⟩ := govStart_spec (s := s) (w := merge 0x3FF001F v (s.reg Reg.PWR_GOV_CTRL)) rfl
    rw [fld_merge (by decide)] at g3
    exact ⟨_, congrArg Host.Outcome.next (poke_govEnable h h1 h0), g1, g2, g3, g4⟩
  · have hw : bit (merge 0x800003FF v (s.reg Reg.PWR_GOV_REQ)) 31 = true := by rw [bit_merge, if_pos (by decide), h1]
    exact ⟨_, congrArg Host.Outcome.next (poke_govReq h h1), govReq_spec hw fld_lt rfl⟩
  · refine ⟨_, congrArg Host.Outcome.next (avsResponse_acked h ha), ?_, fun hn => ?_, fun b bs hn => ?_⟩
    · cases hn : s.pwr.asks with
      | nil => rw [(govNext_last_spec (s := { s with pwr := { s.pwr with ackAt := some s.now } }) hn rfl).1]
      | cons b bs => rw [(govNext_next_spec (s := { s with pwr := { s.pwr with ackAt := some s.now } }) hn rfl).1]
    · obtain ⟨g1, g2, g3, g4⟩ := govNext_last_spec (s := { s with pwr := { s.pwr with ackAt := some s.now } }) hn rfl
      exact ⟨by rw [g1], g2, g3, g4⟩
    · obtain ⟨g1, g2, -⟩ := govNext_next_spec (s := { s with pwr := { s.pwr with ackAt := some s.now } }) hn rfl
      exact ⟨by rw [g1], by rw [g1], g2⟩
  · exact ⟨_, congrArg Host.Outcome.next (avsResponse_read h), railRead_spec hc hn rfl⟩
  · refine congrArg Host.Outcome.next ?_
    unfold State.avsResponse
    simp only [h]
  · refine ⟨_, congrArg Host.Outcome.next (avsResponse_failed h), by rw [avsSend_pwr], ?_⟩
    rw [avsSend_reg, if_neg (by decide), reg_bump, if_pos rfl]
  · exact ⟨_, congrArg Host.Outcome.next (avsResponse_fault h), avsFault_spec rfl rfl⟩
  · obtain ⟨g1, g2, g3, g4, g5⟩ := nextWindow_next.step (up := false) (mv := s.vcore - 5) hr rfl (by omega) (by omega) rfl
    exact ⟨_, congrArg Host.Outcome.next (windowEnd_none hd hr hm), g1, g3, g2, g4, g5⟩
  · exact ⟨_, congrArg Host.Outcome.next (windowEnd_none hd hr hm), withheld_spec hr hhi hlo rfl⟩
  · have hn := slackShown_next (s := s) (x := x)
    obtain ⟨hst, hask⟩ := govReady_iff hr
    obtain ⟨hl, hh⟩ := hn.limits
    obtain ⟨g1, g2, -, g4, -⟩ := hn.step (up := true) hr rfl hhi hlo rfl
    refine ⟨_, congrArg Host.Outcome.next ((windowEnd_some hd hr hm).trans (if_pos (by rw [hn.target]; exact hx))), g1, g2, g4, fun hal => ?_⟩
    refine keepsEvents_govStep_up (s := s.slackShown x) (mv := s.vcore + 5) (by rw [hn.vcore]) (by rw [hh]; exact hhi) (by rw [hl]; exact hlo)
      (hn.ask.trans hask) (by rw [hn.state, hst]; decide) 59 (by decide) (slackShown_event hal)
  · have hn := slackShown_next (s := s) (x := x)
    obtain ⟨g1, g2, g3, g4, -⟩ := hn.step (up := false) (mv := s.vcore - 5) hr rfl (by omega) (by omega) rfl
    exact ⟨_, congrArg Host.Outcome.next ((windowEnd_some hd hr hm).trans ((if_neg (by rw [hn.target]; exact not_lt.2 hx)).trans
      (if_pos (by rw [hn.target]; exact hh)))), g1, g2, g3, g4⟩
  · have hn := slackShown_next (s := s) (x := x)
    exact ⟨_, congrArg Host.Outcome.next ((windowEnd_some hd hr hm).trans ((if_neg (by rw [hn.target]; exact not_lt.2 hx)).trans
      (if_neg (by rw [hn.target]; exact not_lt.2 hh)))), hn.vcore, hn.ask.trans (govReady_iff hr).2, hn.winStart⟩
  · exact congrArg Host.Outcome.next (if_neg (by rw [hd]; exact Bool.false_ne_true))

end Sys2Proof.Machine

/-! What each reset clears and what it leaves (R33, R450, R451). -/

namespace Sys2Proof.Machine

-- One declaration after another: side by side, their threads' stacks pass the memory limit of a check.
set_option Elab.async false

variable {s t u : State} {v : Word}

/-! ### The domains' memories and seats -/

theorem domReset_hbm (d : Nat) (keep : Bool) : (s.domReset d keep).hbm = if d = 1 then [] else s.hbm := by
  unfold State.domReset
  split
  · exact (within_resetHost s).hbm rfl
  · rfl
  · exact (within_resetNet s 0).hbm rfl
  · exact (within_resetNet s 1).hbm rfl
  · exact (within_resetField s).hbm rfl
  · exact (within_resetAcq s).hbm rfl
  · exact (within_resetRcl s).hbm rfl
  · exact (within_resetFab s 0).hbm rfl
  · exact (within_resetFab s 1).hbm rfl
  · exact (within_resetSch s keep).hbm rfl
  · exact (within_resetKey s).hbm rfl
  · exact (within_resetLinks s).hbm rfl
  next _ h _ _ _ _ _ _ _ _ _ _ => exact (if_neg h).symm

theorem domReset_seats (d : Nat) (keep : Bool) : (s.domReset d keep).seats = if d = 6 then [] else s.seats := by
  unfold State.domReset
  split
  · exact (within_resetHost s).seats rfl
  · exact (within_resetMem s).seats rfl
  · exact (within_resetNet s 0).seats rfl
  · exact (within_resetNet s 1).seats rfl
  · exact (within_resetField s).seats rfl
  · exact (within_resetAcq s).seats rfl
  · rfl
  · exact (within_resetFab s 0).seats rfl
  · exact (within_resetFab s 1).seats rfl
  · exact (within_resetSch s keep).seats rfl
  · exact (within_resetKey s).seats rfl
  · exact (within_resetLinks s).seats rfl
  next _ _ _ _ _ _ h _ _ _ _ _ => exact (if_neg h).symm

theorem domResets_cleared {α : Type} {f : State → List α} {k : Nat}
    (hf : ∀ (x : State) d, f (x.domReset d false) = if d = k then [] else f x) :
    ∀ (l : List Nat) (x : State), k ∈ l ∨ f x = [] → f (l.foldl (fun s d => s.domReset d false) x) = [] := by
  intro l
  induction l with
  | nil => exact fun x h => h.resolve_left List.not_mem_nil
  | cons d l ih =>
    refine fun x h => ih _ ?_
    rw [hf]
    split
    · exact .inr rfl
    next hd =>
      refine h.imp (fun hk => ?_) id
      exact (List.mem_cons.1 hk).resolve_left (Ne.symm hd)

/-- PD_BASE's own units have no part in the domains' memories and seats. -/
theorem resetAll_field {α : Type} {f : State → α}
    (hf : ∀ (x : State) (a b c d e g : Nat) (tbs : Tab TimeBase) (tsq : Tab (List TsqEntry)) (tap : Tap) (pin : EvtIn) (pwr : Power),
      f { ((x.resetRegs a b).resetRegs c d).resetRegs e g with tbs := tbs, tsq := tsq, tap := tap, ppsPin := pin, pwr := pwr } = f x) :
    ∃ x : State, f s.resetAll = f (domOrder.reverse.foldl (fun s d => s.domReset d false) x) := by
  unfold State.resetAll
  exact ⟨_, hf _ _ _ _ _ _ _ _ _ _ _ _⟩

theorem resetAll_hbm : s.resetAll.hbm = [] := by
  obtain ⟨x, hx⟩ := resetAll_field (s := s) (f := State.hbm) fun _ _ _ _ _ _ _ _ _ _ _ _ => rfl
  exact hx.trans (domResets_cleared (fun _ d => domReset_hbm d false) _ x (.inl (by decide)))

theorem resetAll_seats : s.resetAll.seats = [] := by
  obtain ⟨x, hx⟩ := resetAll_field (s := s) (f := State.seats) fun _ _ _ _ _ _ _ _ _ _ _ _ => rfl
  exact hx.trans (domResets_cleared (fun _ d => domReset_seats d false) _ x (.inl (by decide)))

theorem resetAll_rtc : s.resetAll.rtc = s.rtc := (within_resetAll s).rtc rfl

/-! ### The main resets -/

theorem regReset_zero : regReset Reg.GLB_LOCK = 0 ∧ regReset Reg.PWR_DOMAIN_STATUS = 0 := ⟨regReset_guarded.1, regReset_guarded.2.2⟩

theorem glbResetRow : regRow Reg.GLB_RESET = some ⟨0x40, 0x4, 1, 0x4, 1, 0x0, 0x0, 0x0, 0xFFFFFFFF, 0x0, .single, none⟩ := by decide

theorem poke_reset (h : s.Accepts Reg.GLB_RESET v) (hv : bit v 0 = true) :
    s.poke Reg.GLB_RESET v {} = (s.setReg Reg.GLB_RESET (merge 0 v (s.reg Reg.GLB_RESET))).deviceReset := by
  rw [h.poke_plain (by decide) glbResetRow rfl rfl, unitHook_glb rfl, State.glbHook, if_neg (by decide), if_neg (by decide), if_pos rfl,
    if_pos hv]

theorem deviceReset_eq : s.deviceReset = (fun x : State => { x with pwr := { x.pwr with start := some .domains } })
    ((s.resetAll.setReg Reg.PWR_RESET_CAUSE (setBit (s.reg Reg.PWR_RESET_CAUSE) 2 true)).setReg Reg.GLB_BOARD (s.reg Reg.GLB_BOARD)) := by
  unfold State.deviceReset
  dsimp only

theorem deviceReset_spec : s.deviceReset.reg Reg.GLB_LOCK = 0 ∧ s.deviceReset.reg Reg.PWR_DOMAIN_STATUS = 0 ∧
    s.deviceReset.rb Reg.PWR_RESET_CAUSE 2 = true ∧ s.deviceReset.reg Reg.GLB_BOARD = s.reg Reg.GLB_BOARD ∧ s.deviceReset.rtc = s.rtc ∧
    s.deviceReset.seats = [] ∧ s.deviceReset.hbm = [] ∧ s.deviceReset.pwr.start = some .domains := by
  have hlock : s.resetAll.reg Reg.GLB_LOCK = 0 := (resetAll_reg (by decide)).trans regReset_zero.1
  have hdom : s.resetAll.reg Reg.PWR_DOMAIN_STATUS = 0 := (resetAll_reg (by decide)).trans regReset_zero.2
  have hr : s.resetAll.rtc = s.rtc := resetAll_rtc
  have hs : s.resetAll.seats = [] := resetAll_seats
  have hh : s.resetAll.hbm = [] := resetAll_hbm
  have key : ∀ (x y : State) (c b : Word), y = (fun x : State => { x with pwr := { x.pwr with start := some .domains } })
      ((x.setReg Reg.PWR_RESET_CAUSE c).setReg Reg.GLB_BOARD b) → y.regs = ((x.setReg Reg.PWR_RESET_CAUSE c).setReg Reg.GLB_BOARD b).regs ∧
        y.rtc = x.rtc ∧ y.seats = x.seats ∧ y.hbm = x.hbm ∧ y.pwr.start = some .domains := fun x y c b h => by
    subst h
    exact ⟨rfl, rfl, rfl, rfl, rfl⟩
  obtain ⟨hregs, hrtc, hseats, hhbm, hstart⟩ := key _ _ _ _ deviceReset_eq
  have hreg : Leaves (fun _ => True) ((s.resetAll.setReg Reg.PWR_RESET_CAUSE (setBit (s.reg Reg.PWR_RESET_CAUSE) 2 true)).setReg
      Reg.GLB_BOARD (s.reg Reg.GLB_BOARD)) s.deviceReset := .of_regs hregs
  refine ⟨?_, ?_, ?_, ?_, hrtc.trans hr, hseats.trans hs, hhbm.trans hh, hstart⟩
  · rw [hreg _ trivial, reg_setReg_ne (by decide), reg_setReg_ne (by decide), hlock]
  · rw [hreg _ trivial, reg_setReg_ne (by decide), reg_setReg_ne (by decide), hdom]
  · rw [hreg.rb trivial, State.rb, reg_setReg_ne (by decide), reg_setReg_self, bit_setBit (by decide)]
  · rw [hreg _ trivial, reg_setReg_self]

/-- The causes that a main power-on reset shows. -/
def resetCauses (fell : Nat) : Word := word (1 + (if fell = 0 then 0 else 2) + 256 * (fell % 256))

theorem mainReset_eq {fell : Nat} : s.mainReset fell =
    (fun x : State => { x with rtc := { x.rtc with lockout := true }, pwr := { x.pwr with start := some .full }, pcie := {} })
      (s.resetAll.setReg Reg.PWR_RESET_CAUSE (resetCauses fell)) := by
  unfold State.mainReset resetCauses
  dsimp only

theorem mainReset_spec {fell : Nat} (hu : u = s.mainReset fell) : u.reg Reg.GLB_LOCK = 0 ∧ u.reg Reg.PWR_DOMAIN_STATUS = 0 ∧
    u.reg Reg.PWR_RESET_CAUSE = resetCauses fell ∧ u.rtc = { s.rtc with lockout := true } ∧ u.hbm = [] ∧ u.pwr.start = some .full ∧
    u.pcie = {} := by
  have hlock : s.resetAll.reg Reg.GLB_LOCK = 0 := (resetAll_reg (by decide)).trans regReset_zero.1
  have hdom : s.resetAll.reg Reg.PWR_DOMAIN_STATUS = 0 := (resetAll_reg (by decide)).trans regReset_zero.2
  have hr : s.resetAll.rtc = s.rtc := resetAll_rtc
  have hh : s.resetAll.hbm = [] := resetAll_hbm
  have key : ∀ (x y : State) (c : Word), y =
      (fun x : State => { x with rtc := { x.rtc with lockout := true }, pwr := { x.pwr with start := some .full }, pcie := {} })
        (x.setReg Reg.PWR_RESET_CAUSE c) → y.regs = (x.setReg Reg.PWR_RESET_CAUSE c).regs ∧ y.rtc = { x.rtc with lockout := true } ∧
          y.hbm = x.hbm ∧ y.pwr.start = some .full ∧ y.pcie = {} := fun x y c h => by
    subst h
    exact ⟨rfl, rfl, rfl, rfl, rfl⟩
  obtain ⟨hregs, hrtc, hhbm, hstart, hpcie⟩ := key _ _ _ (hu.trans mainReset_eq)
  have hreg : Leaves (fun _ => True) (s.resetAll.setReg Reg.PWR_RESET_CAUSE (resetCauses fell)) u := .of_regs hregs
  refine ⟨?_, ?_, ?_, by rw [hrtc, hr], hhbm.trans hh, hstart, hpcie⟩
  · rw [hreg _ trivial, reg_setReg_ne (by decide), hlock]
  · rw [hreg _ trivial, reg_setReg_ne (by decide), hdom]
  · rw [hreg _ trivial, reg_setReg_self]

/-! ### Brown-outs -/

/-- The bits that a predicate on the numbers below `n` selects. -/
theorem selected_bits (f : Nat → Bool) (n : Nat) :
    ((List.range n).filter f).foldl (fun a i => a + 2 ^ i) 0 < 2 ^ n ∧
      ∀ i, (((List.range n).filter f).foldl (fun a i => a + 2 ^ i) 0).testBit i = (decide (i < n) && f i) := by
  induction n with
  | zero => exact ⟨by simp, fun i => by simp⟩
  | succ n ih =>
    obtain ⟨hlt, hbit⟩ := ih
    rw [List.range_succ, List.filter_append, List.foldl_append]
    generalize ((List.range n).filter f).foldl (fun a i => a + 2 ^ i) 0 = x at hlt hbit
    cases hf : f n with
    | false =>
      rw [List.filter_cons_of_neg (by simp [hf]), List.filter_nil, List.foldl_nil]
      refine ⟨Nat.lt_trans hlt (Nat.pow_lt_pow_right (by decide) (Nat.lt_succ_self n)), fun i => ?_⟩
      rw [hbit i]
      by_cases hi : i = n
      · simp [hi, hf]
      · rw [decide_eq_decide.2 (by omega : i < n ↔ i < n + 1)]
    | true =>
      rw [List.filter_cons_of_pos hf, List.filter_nil, List.foldl_cons, List.foldl_nil, Nat.add_comm]
      refine ⟨by rw [Nat.pow_succ]; omega, fun i => ?_⟩
      rcases Nat.lt_trichotomy i n with hi | hi | hi
      · rw [Nat.testBit_two_pow_add_gt hi, hbit i, decide_eq_true hi, decide_eq_true (by omega)]
      · rw [hi, Nat.testBit_two_pow_add_eq, hbit n, hf]
        simp
      · have hbig : 2 ^ n + x < 2 ^ i := Nat.lt_of_lt_of_le (by rw [Nat.pow_succ]; omega) (Nat.pow_le_pow_right (by decide) hi : 2 ^ (n + 1) ≤ 2 ^ i)
        rw [Nat.testBit_lt_two_pow hbig, decide_eq_false (by omega), Bool.false_and]

theorem brownOuts_spec (levels : List (Fin 8 × Nat)) : brownOuts levels < 256 ∧ ∀ i : Fin 8,
    (brownOuts levels).testBit i = levels.any (fun l => l.1 == i && decide (l.2 < brownOutMv.getD i 0)) := by
  obtain ⟨hlt, hbit⟩ := selected_bits (fun i => levels.any (fun l => l.1.val == i && decide (l.2 < brownOutMv.getD i 0))) 8
  refine ⟨hlt, fun i => (hbit i).trans ?_⟩
  rw [decide_eq_true i.isLt, Bool.true_and]
  refine congrArg (levels.any ·) (funext fun l => ?_)
  rw [show (l.1.val == i.val) = (l.1 == i) from by rw [Bool.eq_iff_iff, beq_iff_eq, beq_iff_eq, Fin.ext_iff]]

theorem brownOuts_none {levels : List (Fin 8 × Nat)} (h : ∀ l ∈ levels, brownOutMv.getD l.1 0 ≤ l.2) : brownOuts levels = 0 := by
  obtain ⟨hlt, hbit⟩ := brownOuts_spec levels
  refine Nat.eq_of_testBit_eq fun i => ?_
  rw [Nat.zero_testBit]
  rcases Nat.lt_or_ge i 8 with hi | hi
  · refine (hbit ⟨i, hi⟩).trans (List.any_eq_false.2 fun l hl => ?_)
    simp only [Bool.and_eq_true, beq_iff_eq, decide_eq_true_eq, not_and, not_lt]
    intro he
    have := h l hl
    rw [he] at this
    exact this
  · exact Nat.testBit_lt_two_pow (Nat.lt_of_lt_of_le hlt (Nat.pow_le_pow_right (by decide) hi : 2 ^ 8 ≤ 2 ^ i))

theorem brownOuts_some {levels : List (Fin 8 × Nat)} (h : ∃ l ∈ levels, l.2 < brownOutMv.getD l.1 0) : brownOuts levels ≠ 0 := by
  obtain ⟨l, hl, hlt⟩ := h
  intro h0
  have hb := (brownOuts_spec levels).2 l.1
  rw [h0, Nat.zero_testBit] at hb
  have := List.any_eq_false.1 hb.symm l hl
  simp only [beq_self_eq_true, Bool.true_and, decide_eq_true_eq] at this
  exact this hlt

theorem resetCauses_bits {fell : Nat} (h : fell ≠ 0) (hlt : fell < 256) : bit (resetCauses fell) 0 = true ∧ bit (resetCauses fell) 1 = true ∧
    ∀ i : Fin 8, bit (resetCauses fell) (8 + i) = fell.testBit i := by
  have hn : (resetCauses fell).toNat = 3 + 256 * fell := by
    rw [resetCauses, if_neg h, word, BitVec.toNat_ofNat, Nat.mod_eq_of_lt hlt, Nat.mod_eq_of_lt (by omega)]
  have hbit : ∀ i, bit (resetCauses fell) i = (3 + 256 * fell).testBit i := fun i => by
    rw [← hn]
    rfl
  refine ⟨?_, ?_, fun i => ?_⟩
  · rw [hbit, Nat.testBit_eq_decide_div_mod_eq, decide_eq_true_eq]
    omega
  · rw [hbit, Nat.testBit_eq_decide_div_mod_eq, decide_eq_true_eq]
    omega
  · rw [hbit, Nat.add_comm, ← Nat.testBit_shiftRight, Nat.shiftRight_eq_div_pow]
    congr 1
    omega

/-! ### A fall of supplies -/

theorem toVbat_rtc : s.toVbat.rtc.onVbat = true ∧ s.toVbat.rtc.count = s.rtc.count ∧ (s.rtc.onVbat = false → s.toVbat.rtc.lockout = true) := by
  cases h : s.rtc.onVbat with
  | false =>
    obtain ⟨hv, hl, -, -, -, -, hc, -⟩ := switchToVbat_spec h
    exact ⟨hv, hc, fun _ => hl⟩
  | true =>
    have he : s.toVbat = s := if_pos h
    rw [he]
    exact ⟨h, rfl, fun c => absurd c Bool.true_eq_false.mp⟩

theorem dip_short {levels : List (Fin 8 × Nat)} {ns : Nat} (h : ns < 1000) : s.mainPower (.dip levels ns) = s := if_pos h

theorem dip_long {levels : List (Fin 8 × Nat)} {ns : Nat} {low : Bool} (h : 1000 ≤ ns)
    (hlow : low = levels.any (fun l => l.1.val == 6 && decide (l.2 < 1650))) :
    s.mainPower (.dip levels ns) = (fun x : State => if brownOuts levels = 0 || x.pwr.start = some .full then x else
      x.mainReset (brownOuts levels)) (if low then s.toVbat else s) := by
  subst hlow
  exact if_neg (Nat.not_lt.2 h)

theorem fallen_rtc {low : Bool} : (if low then s.toVbat else s).rtc.onVbat = (s.rtc.onVbat || low) ∧
    (if low then s.toVbat else s).rtc.count = s.rtc.count ∧ (if low then s.toVbat else s).pwr = s.pwr := by
  cases low with
  | false => exact ⟨(Bool.or_false _).symm, rfl, rfl⟩
  | true => exact ⟨toVbat_rtc.1.trans (Bool.or_true _).symm, toVbat_rtc.2.1, (within_toVbat s).pwr rfl⟩

/-! ### What PERST# and a function-level reset reach -/

theorem base_ringAbandon (r : Nat) : BaseKept s (s.ringAbandon r) := by
  unfold State.ringAbandon
  split
  · exact .of_regs rfl
  split
  · exact .foldl (fun y g h => ((base_setRb (inBaseKept_add (by decide))).after (base_setRb (inBaseKept_add (by decide)))).after h)
      (.of_regs rfl)
  · exact .refl s

/-- A host reset's first part: the host function and the work of the rings outside their registers. -/
def State.unplugged (s : State) : State :=
  (List.range 32).foldl (fun s r => s.ringAbandon r)
    { s with msix := [], pcie := { trained := s.pcie.trained }, recorder := { s.recorder with buf := none } }

theorem hostReset_eq : s.hostReset = s.unplugged.resetRings false := rfl

theorem unplugged_spec : s.unplugged.msix = [] ∧ s.unplugged.pcie = { trained := s.pcie.trained } ∧ BaseKept s s.unplugged := by
  unfold State.unplugged
  have hw : ∀ x : State, Within 0x1A0000008 x ((List.range 32).foldl (fun s r => s.ringAbandon r) x) := fun x =>
    .foldl (fun y r h => (within_ringAbandon y r).after (by decide) h) (.refl x)
  exact ⟨(hw _).msix rfl, (hw _).pcie rfl, .foldl (fun y r h => (base_ringAbandon r).after h) (.of_regs rfl)⟩

theorem regReset_ringStates : ∀ r : Fin 32, fld (regReset (Reg.RNG_STATUS r)) 0 2 = 0 := by decide

theorem resetRings_spec : (s.resetRings false).rings = [] ∧ ∀ r : Fin 32, (s.resetRings false).ringState r = 0 := by
  refine ⟨rfl, fun r => ?_⟩
  have hreg : (s.resetRings false).reg (Reg.RNG_STATUS r) = regReset (Reg.RNG_STATUS r) := by
    refine Eq.trans (b := (s.resetRegs 0xC0000 0xD0000).reg (Reg.RNG_STATUS r)) rfl (reg_resetRegs.trans (if_pos ?_))
    unfold Reg.RNG_STATUS
    omega
  rw [State.ringState, State.rf, hreg, regReset_ringStates]

theorem hostReset_spec : s.hostReset.msix = [] ∧ s.hostReset.rings = [] ∧ s.hostReset.pcie = { trained := s.pcie.trained } ∧
    (∀ r : Fin 32, s.hostReset.ringState r = 0) ∧ BaseKept s s.hostReset := by
  obtain ⟨hm, hp, hb⟩ := unplugged_spec (s := s)
  rw [hostReset_eq]
  have hw := within_resetRings s.unplugged false
  exact ⟨(hw.msix rfl).trans hm, resetRings_spec.1, (hw.pcie rfl).trans hp, resetRings_spec.2, (base_resetRings _ _).after hb⟩

/-- What a function-level reset adds to the reset of the host function. -/
def State.functionCause (s : State) (d3hot : Bool) : State :=
  if d3hot then { s with pcie := { s.pcie with d3hot := true } } else s.setRb Reg.PWR_RESET_CAUSE 4 true

theorem functionReset_eq (d3 : Bool) : s.functionReset d3 = s.hostReset.functionCause d3 := by
  unfold State.functionReset State.functionCause
  dsimp only

theorem functionCause_spec (d3 : Bool) : (s.functionCause d3).msix = s.msix ∧ (s.functionCause d3).rings = s.rings ∧
    (s.functionCause d3).pcie = { s.pcie with d3hot := d3 || s.pcie.d3hot } ∧
    (s.functionCause d3).rb Reg.PWR_RESET_CAUSE 4 = (!d3 || s.rb Reg.PWR_RESET_CAUSE 4) ∧
    Leaves (· ≠ Reg.PWR_RESET_CAUSE) s (s.functionCause d3) := by
  unfold State.functionCause
  cases d3 with
  | true => exact ⟨rfl, rfl, rfl, rfl, .of_regs rfl⟩
  | false => exact ⟨rfl, rfl, rfl, rb_setRb_self (by decide), leaves_setRb (by simp)⟩

theorem functionReset_spec (d3 : Bool) : (s.functionReset d3).msix = [] ∧ (s.functionReset d3).rings = [] ∧
    (s.functionReset d3).pcie = { d3hot := d3, trained := s.pcie.trained } ∧
    (s.functionReset d3).reg Reg.GLB_LOCK = s.reg Reg.GLB_LOCK ∧
    (s.functionReset d3).rb Reg.PWR_RESET_CAUSE 4 = (!d3 || s.rb Reg.PWR_RESET_CAUSE 4) ∧
    ∀ r : Fin 32, (s.functionReset d3).ringState r = 0 := by
  obtain ⟨hm, hr, hp, hs, hb⟩ := hostReset_spec (s := s)
  have hc := hb.regs.rb (o := Reg.PWR_RESET_CAUSE) (by decide) 4
  have hl := hb.regs Reg.GLB_LOCK (by decide)
  rw [functionReset_eq]
  obtain ⟨fm, fr, fp, fc, fl⟩ := functionCause_spec (s := s.hostReset) d3
  refine ⟨fm.trans hm, fr.trans hr, ?_, (fl Reg.GLB_LOCK (by decide)).trans hl, by rw [fc, hc], fun r => ?_⟩
  · rw [fp, hp, Bool.or_false]
  · refine (fl.rf (ne_of_gt ?_) 0 2).trans (hs r)
    unfold Reg.RNG_STATUS Reg.PWR_RESET_CAUSE
    omega

theorem perst_eq : s.perst = (fun x : State => { x with pwr := { x.pwr with perst := true } })
    (s.hostReset.setRb Reg.PWR_RESET_CAUSE 3 true) := by
  unfold State.perst
  dsimp only

theorem perst_spec (hu : u = s.perst) : u.pwr.perst = true ∧ u.rb Reg.PWR_RESET_CAUSE 3 = true ∧ u.msix = [] ∧ u.rings = [] ∧
    u.pcie = { trained := s.pcie.trained } ∧ u.reg Reg.GLB_LOCK = s.reg Reg.GLB_LOCK := by
  obtain ⟨hm, hr, hp, -, hb⟩ := hostReset_spec (s := s)
  have hl := hb.regs Reg.GLB_LOCK (by decide)
  have key : ∀ x y : State, y = (fun x : State => { x with pwr := { x.pwr with perst := true } }) (x.setRb Reg.PWR_RESET_CAUSE 3 true) →
      y.pwr.perst = true ∧ y.regs = (x.setRb Reg.PWR_RESET_CAUSE 3 true).regs ∧ y.msix = x.msix ∧ y.rings = x.rings ∧ y.pcie = x.pcie :=
    fun x y h => by
      subst h
      exact ⟨rfl, rfl, rfl, rfl, rfl⟩
  obtain ⟨kp, kregs, km, kr, kpc⟩ := key _ _ (hu.trans perst_eq)
  have hreg : Leaves (fun _ => True) (s.hostReset.setRb Reg.PWR_RESET_CAUSE 3 true) u := .of_regs kregs
  refine ⟨kp, (hreg.rb trivial 3).trans (rb_setRb_self (by decide)), km.trans hm, kr.trans hr, kpc.trans hp, ?_⟩
  exact (hreg _ trivial).trans ((reg_setReg_ne (by decide)).trans hl)

theorem exec_functionLevelReset {d3 : Bool} (hup : s.pcieUp = true) (hd : d3 = true → s.pcie.d3hot = false) :
    exec (.functionLevelReset d3) s = .next (s.functionReset d3) := by
  refine congrArg Host.Outcome.next (if_pos ?_)
  rw [hup, Bool.true_and]
  cases d3 with
  | false => rfl
  | true => rw [hd rfl]; rfl

theorem exec_mainPowerOnReset {p : MainPower} : exec (.mainPowerOnReset p) s = .next (s.mainPower p) := rfl
theorem exec_perst : exec .perst s = .next s.perst := rfl
theorem exec_deviceReset : exec (.deviceReset v) s = .next (s.poke Reg.GLB_RESET v {}) := rfl

/-- Settles O28: a device reset and a main power-on reset give the locks and the domains their Reset values and empty the seats and
HBM3; PERST# and a function-level reset reach the host function and the rings, and leave PD_BASE's registers. -/
theorem resetsReachWhatTheyName : Obligations.ResetsReachWhatTheyName := by
  unfold Obligations.ResetsReachWhatTheyName
  refine fun s => ⟨fun v ha hv => ?_, ?_, fun levels ns low hlow => ⟨fun h => ?_, fun h hq => ?_, fun h hl hst => ?_⟩,
    fun d3 hup hd => ?_, ?_, rfl⟩
  · rw [exec_deviceReset, poke_reset ha hv]
    refine ⟨_, rfl, ?_⟩
    obtain ⟨hlock, hdom, hcause, hboard, hrtc, hseats, hhbm, hstart⟩ :=
      deviceReset_spec (s := s.setReg Reg.GLB_RESET (merge 0 v (s.reg Reg.GLB_RESET)))
    exact ⟨hlock, hdom, hcause, hboard.trans (reg_setReg_ne (by decide)), hrtc, hseats, hhbm, hstart⟩
  · obtain ⟨u, hu⟩ : ∃ u, u = s.toVbat.mainReset 0 := ⟨_, rfl⟩
    obtain ⟨hlock, hdom, hcause, hrtc, hhbm, hstart, hpcie⟩ := mainReset_spec hu
    refine ⟨u, (exec_mainPowerOnReset).trans (congrArg _ hu.symm), hlock, hdom, hcause, by rw [hrtc], ?_, ?_, hhbm, hstart, hpcie⟩
    · rw [hrtc]
      exact toVbat_rtc.1
    · rw [hrtc]
      exact toVbat_rtc.2.1
  · rw [exec_mainPowerOnReset, dip_short h]
  · rw [exec_mainPowerOnReset, dip_long h hlow]
    dsimp only
    rw [if_pos]
    rw [Bool.or_eq_true, decide_eq_true_eq, decide_eq_true_eq, (fallen_rtc (s := s) (low := low)).2.2]
    exact hq.imp brownOuts_none id
  · obtain ⟨hlt, hbit⟩ := brownOuts_spec levels
    have hne := brownOuts_some hl
    obtain ⟨hv, hc, hp⟩ := fallen_rtc (s := s) (low := low)
    obtain ⟨u, hu⟩ : ∃ u, u = (if low then s.toVbat else s).mainReset (brownOuts levels) := ⟨_, rfl⟩
    have he : s.mainPower (.dip levels ns) = u := by
      rw [dip_long h hlow, hu]
      refine if_neg ?_
      rw [Bool.or_eq_true, decide_eq_true_eq, decide_eq_true_eq, hp]
      exact fun c => c.elim hne hst
    obtain ⟨hlock, hdom, hcause, hrtc, hhbm, hstart, -⟩ := mainReset_spec hu
    obtain ⟨h0, h1, h8⟩ := resetCauses_bits hne hlt
    refine ⟨u, exec_mainPowerOnReset.trans (congrArg _ he), hlock, hdom, ?_, ?_, fun i => ?_, by rw [hrtc], ?_, ?_, hhbm, hstart⟩
    · rw [State.rb, hcause, h0]
    · rw [State.rb, hcause, h1]
    · rw [State.rb, hcause, h8, hbit]
    · rw [hrtc]
      exact hv
    · rw [hrtc]
      exact hc
  · obtain ⟨hm, hr, hp, hl, hb, hs⟩ := functionReset_spec (s := s) d3
    have hw := within_functionReset s d3
    exact ⟨_, exec_functionLevelReset hup hd, hm, hr, hp, hl, hb, hs, hw.seats rfl, hw.keys rfl, hw.hbm rfl, hw.tbs rfl⟩
  · obtain ⟨hp, hc, hm, hr, hpc, hl⟩ := perst_spec (s := s) rfl
    have hw := within_perst s
    exact ⟨_, exec_perst, hp, hc, hm, hr, hpc, hl, hw.seats rfl, hw.keys rfl, hw.hbm rfl, hw.tbs rfl⟩

end Sys2Proof.Machine

/-! Start-up, the temperature event and the bank supplies (R452, R469, R472, R484). -/

namespace Sys2Proof.Machine

-- One declaration after another: side by side, their threads' stacks pass the memory limit of a check.
set_option Elab.async false

variable {s t x : State}

/-! ### The parts of start-up -/

/-- Start-up has begun: no phase is left to run. -/
def State.begun (s : State) : State := { s with pwr := { s.pwr with start := none } }

/-- Steps 3-5 of start-up, where the phase has them. -/
def State.startPins (s : State) (phase : StartPhase) (pairId : Bool) (pos : Nat) : State :=
  if phase = .full then (s.startFirst pairId pos).rtcRelease else s

/-- The domains come on, and what is owed is raised. -/
def State.startDomains (s : State) : State := (s.owedRtc.domainsOn s.owedRtc.domainEn false).owedTamper

/-- The boot is under way. -/
def State.bootUnderWay (s : State) : State := { s.setRb Reg.IMG_LOAD_STATUS 0 true with loader := { s.loader with warm := false } }

theorem startUp_eq {pairId : Bool} {r : Release} {phase : StartPhase} (h : s.pwr.start = some phase)
    (hr : phase = .full → 2000 ≤ r.steadyUs) :
    s.startUp pairId r = ((s.begun.startPins phase pairId r.pos.val).startDomains).bootUnderWay := by
  have hc : ¬ ((decide (phase = .full) && decide (r.steadyUs < 2000)) = true) := by
    rw [Bool.and_eq_true, decide_eq_true_eq, decide_eq_true_eq]
    exact fun c => absurd c.2 (Nat.not_lt.2 (hr c.1))
  unfold State.startUp
  rw [h]
  dsimp only
  rw [if_neg hc]
  rfl

theorem startUp_none {pairId : Bool} {r : Release} (h : s.pwr.start = none ∨ s.pwr.start = some .full ∧ r.steadyUs < 2000) :
    s.startUp pairId r = s := by
  unfold State.startUp
  rcases h with h | ⟨h, hr⟩
  · rw [h]
  · rw [h]
    exact if_pos (by rw [Bool.and_eq_true, decide_eq_true_eq, decide_eq_true_eq]; exact ⟨rfl, hr⟩)

theorem owedRtc_lockout : s.owedRtc.rtc.lockout = s.rtc.lockout := by
  cases h : s.evtRuns
  · rw [owedRtc_waits h]
  · rw [owedRtc_runs h, raiseIf_rtc, raiseIf_rtc]
    rfl

theorem base_owedTamper : BaseKept s s.owedTamper := by
  unfold State.owedTamper
  split
  · exact (base_flagRaise (inBaseKept_of_le (by decide)) (by decide)).after (.of_regs rfl)
  · exact .refl s

theorem startDomains_spec : s.startDomains.pwr.start = s.pwr.start ∧
    (∀ k, k < 12 → s.startDomains.domOn k = (s.domOn k || s.domainEn.testBit k)) ∧
    Leaves OfBase s s.startDomains ∧ s.startDomains.rtc.lockout = s.rtc.lockout := by
  have ho := kept_owedRtc s
  obtain ⟨hsw, hon⟩ := domainsOn_spec (s := s.owedRtc) s.owedRtc.domainEn false
  have hb := base_domainsOn s.owedRtc s.owedRtc.domainEn false
  have hw := within_domainsOn s.owedRtc s.owedRtc.domainEn false
  unfold State.startDomains
  generalize s.owedRtc.domainsOn s.owedRtc.domainEn false = x at *
  have ht := kept_owedTamper x
  refine ⟨ht.start.trans (hsw.start.trans ho.start), fun k hk => ?_, ?_, ?_⟩
  · rw [ht.domOn, hon k hk, ho.domOn, ho.domainEn]
  · exact ((leaves_owedRtc.mono fun _ => quiet_of_base).trans hb.regs).trans base_owedTamper.regs
  · rw [(within_owedTamper x).rtc rfl, hw.rtc rfl, owedRtc_lockout]

theorem bootUnderWay_spec : s.bootUnderWay.pwr = s.pwr ∧ s.bootUnderWay.rtc = s.rtc ∧ s.bootUnderWay.loader.warm = false ∧
    s.bootUnderWay.rb Reg.IMG_LOAD_STATUS 0 = true ∧ Leaves (· ≠ Reg.IMG_LOAD_STATUS) s s.bootUnderWay := by
  have hreg : Leaves (fun _ => True) (s.setRb Reg.IMG_LOAD_STATUS 0 true) s.bootUnderWay := .of_regs rfl
  exact ⟨rfl, rfl, rfl, (hreg.rb trivial 0).trans (rb_setRb_self (by decide)), (leaves_setRb (by simp)).trans (hreg.mono fun _ _ => trivial)⟩

theorem startPins_full {pairId : Bool} {pos : Nat} : (s.startPins .full pairId pos).pwr = s.pwr ∧
    (s.startPins .full pairId pos).rtc.lockout = false ∧
    (s.startPins .full pairId pos).reg Reg.GLB_BOARD = word (pos % 8 + 8 * pairId.toNat) ∧
    (s.startPins .full pairId pos).rb Reg.TB_PLL 8 = true := by
  unfold State.startPins
  rw [if_pos rfl]
  have hreg : Leaves (fun _ => True) (s.startFirst pairId pos) (s.startFirst pairId pos).rtcRelease := .of_regs rfl
  refine ⟨rfl, rfl, (hreg _ trivial).trans ((reg_setReg_ne (by decide)).trans reg_setReg_self), (hreg.rb trivial 8).trans ?_⟩
  exact rb_setRb_self (by decide)

theorem startPins_domains {phase : StartPhase} {pairId : Bool} {pos : Nat} : (s.startPins phase pairId pos).pwr = s.pwr ∧
    (s.startPins phase pairId pos).domainEn = s.domainEn ∧ ∀ d, (s.startPins phase pairId pos).domOn d = s.domOn d := by
  have hl : Leaves (fun o => o = Reg.PWR_DOMAIN_EN ∨ o = Reg.PWR_DOMAIN_STATUS) s (s.startPins phase pairId pos) := by
    unfold State.startPins
    split
    · exact ((leaves_setReg (by decide)).trans (leaves_setRb (by decide))).trans (.of_regs rfl)
    · exact .refl s
  refine ⟨?_, hl.rf (.inl rfl) 0 12, fun d => domOn_congr (hl _ (.inr rfl))⟩
  unfold State.startPins
  split
  · rfl
  · rfl

theorem board_fields (pairId : Bool) (pos : Fin 8) :
    fld (word (pos.val % 8 + 8 * pairId.toNat)) 0 3 = pos ∧ bit (word (pos.val % 8 + 8 * pairId.toNat)) 3 = pairId := by
  revert pairId pos
  decide

/-- What start-up leaves, whatever phase it began from. -/
theorem startUp_spec {pairId : Bool} {r : Release} {phase : StartPhase} (h : s.pwr.start = some phase)
    (hr : phase = .full → 2000 ≤ r.steadyUs) :
    (s.startUp pairId r).pwr.start = none ∧ (s.startUp pairId r).rb Reg.IMG_LOAD_STATUS 0 = true ∧
      (s.startUp pairId r).loader.warm = false ∧
      (∀ d, d < 12 → (s.startUp pairId r).domOn d = (s.domOn d || s.domainEn.testBit d)) ∧
      (phase = .full → (s.startUp pairId r).rb Reg.TB_PLL 8 = true ∧ (s.startUp pairId r).rf Reg.GLB_BOARD 0 3 = r.pos ∧
        (s.startUp pairId r).rb Reg.GLB_BOARD 3 = pairId ∧ (s.startUp pairId r).rtc.lockout = false) := by
  rw [startUp_eq (pairId := pairId) h hr]
  obtain ⟨bpwr, ben, bon⟩ := startPins_domains (s := s.begun) (phase := phase) (pairId := pairId) (pos := r.pos.val)
  have hpins : phase = .full → (s.begun.startPins phase pairId r.pos.val).rtc.lockout = false ∧
      (s.begun.startPins phase pairId r.pos.val).reg Reg.GLB_BOARD = word (r.pos.val % 8 + 8 * pairId.toNat) ∧
      (s.begun.startPins phase pairId r.pos.val).rb Reg.TB_PLL 8 = true := by
    rintro rfl
    exact startPins_full.2
  have h0 : s.begun.pwr.start = none := rfl
  have hen : s.begun.domainEn = s.domainEn := rfl
  have hon : ∀ d, s.begun.domOn d = s.domOn d := fun _ => rfl
  generalize s.begun.startPins phase pairId r.pos.val = x at *
  obtain ⟨dstart, don, dleaves, dlock⟩ := startDomains_spec (s := x)
  obtain ⟨cpwr, crtc, cwarm, cboot, cleaves⟩ := bootUnderWay_spec (s := x.startDomains)
  refine ⟨?_, cboot, cwarm, fun d hd => ?_, fun hf => ?_⟩
  · rw [cpwr, dstart, bpwr, h0]
  · rw [domOn_congr (cleaves Reg.PWR_DOMAIN_STATUS (by decide)), don d hd, bon, ben, hen, hon]
  · obtain ⟨fl, fb, fp⟩ := hpins hf
    have hpll := (cleaves.rb (o := Reg.TB_PLL) (by decide) 8).trans (dleaves.rb (o := Reg.TB_PLL) (by decide) 8)
    have hboard := ((cleaves Reg.GLB_BOARD (by decide)).trans (dleaves Reg.GLB_BOARD (by decide))).trans fb
    refine ⟨hpll.trans fp, ?_, ?_, by rw [crtc, dlock, fl]⟩
    · rw [State.rf, hboard, (board_fields pairId r.pos).1]
    · rw [State.rb, hboard, (board_fields pairId r.pos).2]

/-! ### Temperature -/

/-- The temperature alarm has been given. -/
def State.thermDisarmed (s : State) : State := { s with pwr := { s.pwr with thermArmed := false } }

theorem therm_hot {temps : List Int} (ha : s.pwr.thermArmed = true) (h : ∃ x ∈ temps, 1000 ≤ x) :
    s.therm temps = s.thermDisarmed.raise 62 0 := by
  obtain ⟨x, hx, hle⟩ := h
  refine if_pos ?_
  rw [ha, Bool.true_and, List.any_eq_true]
  exact ⟨x, hx, decide_eq_true hle⟩

theorem therm_else {temps : List Int} (h : s.pwr.thermArmed = false ∨ ∀ x ∈ temps, x < 1000) :
    s.therm temps = if temps.all (fun t => decide (t < 950)) then { s with pwr := { s.pwr with thermArmed := true } } else s := by
  refine if_neg ?_
  rw [Bool.and_eq_true, List.any_eq_true]
  rintro ⟨ha, x, hx, hle⟩
  rcases h with h | h
  · rw [h] at ha
    exact Bool.false_ne_true ha
  · exact absurd (of_decide_eq_true hle) (not_le.2 (h x hx))

/-- Settles O29: start-up runs the steps of its phase and leaves the boot under way; the temperature alarm is armed again only once
every sensor is below its lower limit. -/
theorem startUpTemperatureAndBankSupplies : Obligations.StartUpTemperatureAndBankSupplies := by
  unfold Obligations.StartUpTemperatureAndBankSupplies
  refine ⟨fun s pairId r => ⟨fun h hr => ?_, fun h hr => ?_, fun h => congrArg Host.Outcome.next (startUp_none h)⟩,
    fun s => ⟨fun temps ha hx => ?_, fun temps ha hx => ?_, fun temps hx => ?_, fun b mv => ?_⟩⟩
  · exact ⟨_, rfl, (startUp_spec h fun _ => hr).2.2.2.2 rfl⟩
  · obtain ⟨phase, hp⟩ := Option.ne_none_iff_exists'.1 h
    obtain ⟨hstart, hboot, hwarm, hon, -⟩ := startUp_spec (pairId := pairId) (r := r) hp fun hf => hr (hf ▸ hp)
    exact ⟨_, rfl, hstart, hboot, hwarm, fun d => hon d d.isLt⟩
  · refine ⟨_, congrArg Host.Outcome.next (therm_hot ha hx), event_raise (by decide), ?_⟩
    obtain ⟨b, hb⟩ := raise_pwr (s := s.thermDisarmed) (e := 62) (inst := 0) (by decide)
    rw [hb]
    rfl
  · refine congrArg Host.Outcome.next ((therm_else ha).trans (if_neg ?_))
    obtain ⟨x, hx, hle⟩ := hx
    rw [List.all_eq_true]
    exact fun c => absurd (of_decide_eq_true (c x hx)) (not_lt.2 hle)
  · refine congrArg Host.Outcome.next ((therm_else (.inr fun x h => lt_trans (hx x h) (by decide))).trans (if_pos ?_))
    rw [List.all_eq_true]
    exact fun x h => decide_eq_true (hx x h)
  · refine ⟨_, rfl, rfl, ?_, fun c hc => ?_⟩
    · exact congrArg (fun m => decide (2500 ≤ m)) Tab.get_put_self
    · exact congrArg (fun m => decide (2500 ≤ m)) (Tab.get_put_ne fun h => hc (Fin.ext h))

end Sys2Proof.Machine

/-! What cover, the decisions and the key store leave of the loader's registers and of PWR's: they read as before, and no event is
cleared. -/

namespace Sys2Proof.Machine

-- One declaration after another: side by side, their threads' stacks pass the memory limit of a check.
set_option Elab.async false

/-- A register of PWR or IMG. -/
abbrev OfLoader (o : Nat) : Prop := o / 0x10000 = 2 ∨ o / 0x10000 = 3

/-- From `s` to `t` these registers have been kept, and every event that was shown is. -/
structure LoaderKept (s t : State) : Prop where
  regs : Leaves OfLoader s t
  events : KeepsEvents s t

/-- A register that is none of these, nor one of EVT. -/
abbrev InLoaderKept (o : Nat) : Prop := ¬ OfLoader o ∧ o / 0x10000 ≠ 1

/-- A state written out from another with the registers taken over. -/
theorem LoaderKept.upd
    {s x : State} {pending_} {now_} {free_} {latches_} {stages_} {msix_} {out_} {hbm_} {hostMem_} {rings_} {tbs_} {tsq_} {rtc_} {pwr_} {trigs_} {marks_}
    {recorder_} {lanes_} {tables_} {chans_} {fade_} {phs_} {nrg_} {acc_} {nrgCmd_} {pulses_} {rxq_} {txq_} {segJobs_} {prp_} {segments_}
    {t1sTaken_} {t1sNum_} {seats_} {seated_} {forms_} {tcp_} {links_} {classrooms_} {lessons_} {alarms_} {slacks_} {answers_} {pass_}
    {sched_} {loader_} {evtIn_} {keys_} {tap_} {cacheSigner_} {pcie_} {modClks_} {nrgInt_} {ppsPin_} (h : LoaderKept s x) :
    LoaderKept s ⟨pending_, now_, free_, x.regs, latches_, stages_, msix_, out_, hbm_, hostMem_, rings_, tbs_, tsq_, rtc_, pwr_, trigs_,
    marks_, recorder_, lanes_, tables_, chans_, fade_, phs_, nrg_, acc_, nrgCmd_, pulses_, rxq_, txq_, segJobs_, prp_, segments_,
    t1sTaken_, t1sNum_, seats_, seated_, forms_, tcp_, links_, classrooms_, lessons_, alarms_, slacks_, answers_, pass_, sched_, loader_,
    evtIn_, keys_, tap_, cacheSigner_, pcie_, modClks_, nrgInt_, ppsPin_⟩ := ⟨h.regs, h.events⟩

variable {s t x y : State} {o i : Nat}

theorem LoaderKept.refl (s : State) : LoaderKept s s := ⟨.refl s, .refl s⟩
theorem LoaderKept.after (h : LoaderKept x y) (g : LoaderKept s x) : LoaderKept s y := ⟨g.regs.trans h.regs, g.events.trans h.events⟩
theorem LoaderKept.trans (g : LoaderKept s x) (h : LoaderKept x y) : LoaderKept s y := h.after g
theorem LoaderKept.of_regs (h : t.regs = s.regs) : LoaderKept s t := ⟨.of_regs h, keepsEvents_of_regs h⟩
theorem Within.ldr {C : Nat} (h : Within C s t) (hC : C.testBit 3 = false := by decide) : LoaderKept s t := .of_regs (h.regs hC)

theorem LoaderKept.foldl {α : Type} {f : State → α → State} {l : List α} (hf : ∀ y a, LoaderKept s y → LoaderKept s (f y a))
    (hx : LoaderKept s x) : LoaderKept s (l.foldl f x) := by
  induction l generalizing x with
  | nil => exact hx
  | cons a l ih => exact ih (hf x a hx)

theorem LoaderKept.pair_fst {β : Type} {b : β} (h : LoaderKept s x) : LoaderKept s (x, b).1 := h
theorem LoaderKept.pair_snd {β : Type} {b : β} (h : LoaderKept s x) : LoaderKept s (b, x).2 := h

theorem inLoaderKept_of_le (h : 0x40000 ≤ o) : InLoaderKept o := by
  unfold InLoaderKept OfLoader
  omega

theorem inLoaderKept_add {b k : Nat} (h : 0x40000 ≤ b) : InLoaderKept (b + k) := inLoaderKept_of_le (Nat.le_add_right_of_le h)
theorem inLoaderKept_add_add {b k j : Nat} (h : 0x40000 ≤ b) : InLoaderKept (b + k + j) :=
  inLoaderKept_of_le (Nat.le_add_right_of_le (Nat.le_add_right_of_le h))

theorem quiet_of_loader (h : OfLoader o) : Quiet o := by
  unfold OfLoader at h
  unfold Quiet
  omega

theorem ldr_setReg {w : Word} (h : InLoaderKept o) : LoaderKept s (s.setReg o w) := ⟨leaves_setReg h.1, keepsEvents_setReg h.2⟩
theorem ldr_setRb {b : Bool} (h : InLoaderKept o) : LoaderKept s (s.setRb o i b) := ldr_setReg h
theorem ldr_setRf {n v : Nat} (h : InLoaderKept o) : LoaderKept s (s.setRf o i n v) := ldr_setReg h
theorem ldr_bumpBy {n : Nat} (h : InLoaderKept o) : LoaderKept s (s.bumpBy o n) := ldr_setReg h
theorem ldr_bump (h : InLoaderKept o) : LoaderKept s (s.bump o) := ldr_setReg h
theorem ldr_bumpWrap (h : InLoaderKept o) : LoaderKept s (s.bumpWrap o) := ldr_setReg h
theorem ldr_unready (h : InLoaderKept o) : LoaderKept s (s.unready o) := ldr_setReg h
theorem ldr_publish (h : InLoaderKept o) : LoaderKept s (s.publish o) := (ldr_setRb h).after (ldr_setRf h)

theorem ldr_raise {e inst : Nat} (he : e < 64) : LoaderKept s (s.raise e inst) :=
  ⟨leaves_raise (fun _ => quiet_of_loader) he, keepsEvents_raise he⟩

theorem ldr_flagRaise {e inst : Nat} (h : InLoaderKept o) (he : e < 64) : LoaderKept s (s.flagRaise o i e inst) :=
  (ldr_raise he).after (ldr_setRb h)

theorem ldr_ringReturn {r st : Nat} {body : List Byte} (hr : r < 32) : LoaderKept s (s.ringReturn r body st) :=
  ⟨leaves_ringReturn (fun _ => quiet_of_loader) hr, keepsEvents_ringReturn hr⟩

theorem ldr_ringExhaust {r : Nat} {lost : Bool} (hr : r < 32) : LoaderKept s (s.ringExhaust r lost) :=
  ⟨leaves_ringExhaust (fun _ => quiet_of_loader) hr, keepsEvents_ringExhaust hr⟩

theorem ldr_putPacket (s : State) (k : Nat) (p : Packet) (seq : Nat) :
    LoaderKept s (State.putPacket s k p seq) := by
  unfold State.putPacket
  repeat' first
  | with_reducible apply LoaderKept.refl | with_reducible apply LoaderKept.after (ldr_bump ?_)
  | with_reducible apply LoaderKept.after ((within_setLink _ _ _).ldr) | with_reducible apply LoaderKept.after ((within_emit _ _).ldr)
  | exact inLoaderKept_add (by decide) | exact inLoaderKept_add_add (by decide)

theorem ldr_sendNow (s : State) (k : Nat) (p : Packet) :
    LoaderKept s (State.sendNow s k p) := by
  unfold State.sendNow
  repeat' first
  | with_reducible apply LoaderKept.refl | with_reducible apply LoaderKept.after ((within_setLink _ _ _).ldr)
  | with_reducible apply LoaderKept.after (ldr_putPacket _ _ _ _)

theorem ldr_fjlSend (s : State) (q : Nat) (kind : Nat) (hops : Nat) (payload : List Byte) :
    LoaderKept s (State.fjlSend s q kind hops payload) := by
  unfold State.fjlSend
  repeat' first
  | (extract_lets +onlyGivenNames x; first
      | clear_value x
      | skip)
  | with_reducible apply LoaderKept.refl | with_reducible apply LoaderKept.after (ldr_sendNow _ _ _)
  | with_reducible apply LoaderKept.after ((within_setLink _ _ _).ldr) | split

theorem ldr_shareDecisions (s : State) :
    LoaderKept s (State.shareDecisions s) := by
  unfold State.shareDecisions
  repeat' first
  | with_reducible apply LoaderKept.refl | with_reducible assumption | with_reducible apply LoaderKept.after (ldr_fjlSend _ _ _ _ _)
  | with_reducible apply LoaderKept.foldl | (with_reducible intro y a h) | split

theorem ldr_pinFollow (s : State) (n : Nat) :
    LoaderKept s (State.pinFollow s n) := by
  unfold State.pinFollow
  repeat' first
  | (extract_lets +onlyGivenNames x; first
      | (refine (fun (h : LoaderKept s x) => ?_) ?_; clear_value x; rotate_left; subst x; rotate_left)
      | clear_value x
      | skip)
  | with_reducible apply LoaderKept.refl | with_reducible assumption | with_reducible apply LoaderKept.after (ldr_setReg ?_)
  | with_reducible apply LoaderKept.after (ldr_bump ?_) | with_reducible apply LoaderKept.after (ldr_flagRaise ?_ ?_)
  | with_reducible apply LoaderKept.after (ldr_setRb ?_) | split | with_reducible apply LoaderKept.upd
  | exact inLoaderKept_add (by decide) | exact inLoaderKept_add_add (by decide) | decide

theorem ldr_pinsFollow (s : State) :
    LoaderKept s (State.pinsFollow s) := by
  unfold State.pinsFollow
  repeat' first
  | with_reducible apply LoaderKept.refl | with_reducible assumption | with_reducible apply LoaderKept.after (ldr_pinFollow _ _)
  | with_reducible apply LoaderKept.foldl | (with_reducible intro y a h) | split

theorem ldr_setDecisions (s : State) (d : Nat) :
    LoaderKept s (State.setDecisions s d) := by
  unfold State.setDecisions
  repeat' first
  | with_reducible apply LoaderKept.refl | with_reducible assumption | with_reducible apply LoaderKept.after (ldr_setReg ?_)
  | with_reducible apply LoaderKept.foldl | (with_reducible intro y a h) | exact inLoaderKept_add (by decide)

theorem ldr_fireQuiet (s : State) (n : Nat) (anchor : Stamp) (back : Nat) (tap : Nat) (delta : Nat) :
    LoaderKept s (State.fireQuiet s n anchor back tap delta).1 := by
  unfold State.fireQuiet
  repeat' first
  | (extract_lets +onlyGivenNames x; first
      | (refine (fun (h : LoaderKept s x) => ?_) ?_; clear_value x; rotate_left; subst x; rotate_left)
      | clear_value x
      | skip)
  | with_reducible apply LoaderKept.refl | with_reducible assumption | with_reducible apply LoaderKept.after (ldr_bump ?_)
  | with_reducible apply LoaderKept.after (ldr_bumpWrap ?_) | with_reducible apply LoaderKept.after (ldr_setRb ?_) | split
  | with_reducible apply LoaderKept.upd | exact inLoaderKept_add (by decide) | exact inLoaderKept_add_add (by decide) | decide

theorem ldr_fireEdge (s : State) (n : Nat) (fire : Stamp) :
    LoaderKept s (State.fireEdge s n fire).1 := by
  unfold State.fireEdge
  repeat' first
  | (extract_lets +onlyGivenNames x; first
      | clear_value x
      | skip)
  | with_reducible apply LoaderKept.refl | with_reducible apply LoaderKept.after (ldr_bump ?_)
  | with_reducible apply LoaderKept.after ((within_setTrig _ _ _).ldr)
  | with_reducible apply LoaderKept.after (ldr_fireQuiet _ _ _ _ _ _) | split | exact inLoaderKept_add (by decide)

theorem ldr_fireAtEdge (s : State) (n : Nat) (fire : Stamp) :
    LoaderKept s (State.fireAtEdge s n fire) := by
  unfold State.fireAtEdge
  repeat' first
  | (extract_lets +onlyGivenNames x; first
      | (refine (fun (h : LoaderKept s x.1) => ?_) ?_; clear_value x; rotate_left; subst x; rotate_left)
      | clear_value x
      | skip)
  | with_reducible apply LoaderKept.refl | with_reducible assumption | with_reducible apply LoaderKept.after (ldr_fireEdge _ _ _)
  | with_reducible apply LoaderKept.after (ldr_raise ?_) | split | exact inLoaderKept_add (by decide)
  | exact inLoaderKept_add_add (by decide) | decide

theorem ldr_trigsDecision (s : State) (d : Nat) (rising : Bool) :
    LoaderKept s (State.trigsDecision s d rising) := by
  unfold State.trigsDecision
  repeat' first
  | with_reducible apply LoaderKept.refl | with_reducible assumption | with_reducible apply LoaderKept.after (ldr_fireAtEdge _ _ _)
  | with_reducible apply LoaderKept.foldl | (with_reducible intro y a h) | split

theorem ldr_decisionEdges (s : State) (before : Nat) (after : Nat) :
    LoaderKept s (State.decisionEdges s before after) := by
  unfold State.decisionEdges
  repeat' first
  | with_reducible apply LoaderKept.refl | with_reducible assumption | with_reducible apply LoaderKept.after (ldr_trigsDecision _ _ _)
  | with_reducible apply LoaderKept.foldl | (with_reducible intro y a h) | split

theorem ldr_setAbsentBits (s : State) (d : Nat) :
    LoaderKept s (State.setAbsentBits s d) := by
  unfold State.setAbsentBits
  repeat' first
  | with_reducible apply LoaderKept.refl | with_reducible assumption | with_reducible apply LoaderKept.after (ldr_setReg ?_)
  | with_reducible apply LoaderKept.foldl | (with_reducible intro y a h) | exact inLoaderKept_add (by decide)

theorem ldr_showDecisions (s : State) :
    LoaderKept s (State.showDecisions s) := by
  unfold State.showDecisions
  repeat' first
  | with_reducible apply LoaderKept.refl | with_reducible apply LoaderKept.after (ldr_shareDecisions _)
  | with_reducible apply LoaderKept.after (ldr_pinsFollow _) | with_reducible apply LoaderKept.after (ldr_setDecisions _ _)
  | with_reducible apply LoaderKept.after (ldr_decisionEdges _ _ _) | with_reducible apply LoaderKept.after (ldr_setAbsentBits _ _)
  | split

theorem ldr_showCover (s : State) :
    LoaderKept s (State.showCover s) := by
  unfold State.showCover
  repeat' first
  | with_reducible apply LoaderKept.refl | with_reducible assumption | with_reducible apply LoaderKept.after (ldr_setReg ?_)
  | with_reducible apply LoaderKept.after ((within_noteStarved _).ldr) | with_reducible apply LoaderKept.foldl
  | (with_reducible intro y a h) | exact inLoaderKept_add (by decide)

theorem ldr_absenceFollow (s : State) :
    LoaderKept s (State.absenceFollow s) := by
  unfold State.absenceFollow
  repeat' first
  | (extract_lets +onlyGivenNames x; first
      | (refine (fun (h : LoaderKept s x) => ?_) ?_; clear_value x; rotate_left; subst x; rotate_left)
      | clear_value x
      | skip)
  | with_reducible apply LoaderKept.refl | with_reducible assumption | with_reducible apply LoaderKept.after (ldr_showDecisions _)
  | with_reducible apply LoaderKept.after ((within_setLesson _ _ _).ldr)
  | with_reducible apply LoaderKept.after ((within_slackDone _ _ _ _).ldr) | with_reducible apply LoaderKept.foldl
  | (with_reducible intro y a h) | split

theorem ldr_fabFault (s : State) (c : Nat) (phys : Nat) (logical : Nat) (cause : Nat) :
    LoaderKept s (State.fabFault s c phys logical cause) := by
  unfold State.fabFault
  repeat' first
  | with_reducible apply LoaderKept.refl | with_reducible apply LoaderKept.after (ldr_setReg ?_)
  | with_reducible apply LoaderKept.after (ldr_flagRaise ?_ ?_) | exact inLoaderKept_add (by decide)
  | exact inLoaderKept_add_add (by decide) | decide

theorem ldr_countUe (s : State) (c : Nat) :
    LoaderKept s (State.countUe s c) := by
  unfold State.countUe
  repeat' first
  | with_reducible apply LoaderKept.refl | with_reducible apply LoaderKept.after (ldr_bump ?_)
  | with_reducible apply LoaderKept.after (ldr_fabFault _ _ _ _ _) | exact inLoaderKept_add (by decide)

theorem ldr_coverUe (s : State) (r : CoverRun) :
    LoaderKept s (State.coverUe s r) := by
  unfold State.coverUe
  repeat' first
  | with_reducible apply LoaderKept.refl | with_reducible assumption | with_reducible apply LoaderKept.after (ldr_countUe _ _)
  | with_reducible apply LoaderKept.foldl | (with_reducible intro y a h)

theorem ldr_toCover (s : State) (i : Nat) :
    LoaderKept s (State.toCover s i) := by
  unfold State.toCover
  repeat' first
  | (extract_lets +onlyGivenNames x; first
      | clear_value x
      | skip)
  | with_reducible apply LoaderKept.refl | with_reducible apply LoaderKept.after ((within_setLesson _ _ _).ldr)
  | with_reducible apply LoaderKept.after (ldr_coverUe _ _) | split

theorem ldr_putRoom (s : State) (c : Nat) (stuck : List Nat) (r : Room) :
    LoaderKept s (State.putRoom s c stuck r) := by
  unfold State.putRoom
  repeat' first
  | with_reducible apply LoaderKept.refl | with_reducible assumption
  | with_reducible apply LoaderKept.after ((within_setClassroom _ _ _).ldr) | with_reducible apply LoaderKept.after (ldr_countUe _ _)
  | with_reducible apply LoaderKept.foldl | (with_reducible intro y a h)

theorem ldr_runOn (s : State) (i : Nat) (c : Nat) (stuck : List Nat) (lane : Option Nat) :
    LoaderKept s (State.runOn s i c stuck lane) := by
  unfold State.runOn
  repeat' first
  | with_reducible apply LoaderKept.refl | with_reducible assumption | with_reducible apply LoaderKept.after (ldr_putRoom _ _ _ _)
  | with_reducible apply LoaderKept.foldl | (with_reducible intro y a h)

theorem ldr_takeRecord (s : State) (c : Nat) (d : Nat) (tag : Nat) (r : Record) :
    LoaderKept s (State.takeRecord s c d tag r) := by
  unfold State.takeRecord
  repeat' first
  | with_reducible apply LoaderKept.refl | with_reducible apply LoaderKept.after (ldr_setRf ?_)
  | with_reducible apply LoaderKept.after ((within_setClassroom _ _ _).ldr) | exact inLoaderKept_add (by decide)

theorem ldr_offerRecord (s : State) (i : Nat) (c : Nat) (d : Nat) (tag : Nat) (stuck : List Nat) :
    LoaderKept s (State.offerRecord s i c d tag stuck) := by
  unfold State.offerRecord
  repeat' first
  | (extract_lets +onlyGivenNames x; first
      | (refine (fun (h : LoaderKept s x) => ?_) ?_; clear_value x; rotate_left; subst x; rotate_left)
      | clear_value x
      | skip)
  | with_reducible apply LoaderKept.refl | with_reducible assumption
  | with_reducible apply LoaderKept.after ((within_laneStall _ _ _ _).ldr) | with_reducible apply LoaderKept.after (ldr_runOn _ _ _ _ _)
  | with_reducible apply LoaderKept.after (ldr_takeRecord _ _ _ _ _) | split

theorem ldr_cardDrain (s : State) (c : Nat) (x2 : Nat) :
    LoaderKept s (State.cardDrain s c x2) := by
  induction x2 generalizing s with
  | zero => exact LoaderKept.refl _
  | succ k ih =>
    unfold State.cardDrain
    extract_lets x open_
    split
    · exact LoaderKept.refl _
    · extract_lets s1 s2
      have h1 : LoaderKept s s1 := (within_setClassroom _ _ _).ldr
      have h2 : LoaderKept s s2 := by
        unfold s2
        split
        · exact LoaderKept.after (ldr_offerRecord _ _ _ _ _ _) h1
        · exact h1
      exact h2.trans (ih _)

theorem ldr_freeBank (s : State) (c : Nat) (lesson : Nat) :
    LoaderKept s (State.freeBank s c lesson) := by
  unfold State.freeBank
  repeat' first
  | with_reducible apply LoaderKept.refl | with_reducible apply LoaderKept.after (ldr_setRf ?_)
  | with_reducible apply LoaderKept.after ((within_setClassroom _ _ _).ldr)
  | with_reducible apply LoaderKept.after (ldr_cardDrain _ _ _) | exact inLoaderKept_add (by decide)

theorem ldr_dropRuns (s : State) (i : Nat) :
    LoaderKept s (State.dropRuns s i) := by
  unfold State.dropRuns
  repeat' first
  | with_reducible apply LoaderKept.refl | with_reducible assumption | with_reducible apply LoaderKept.after (ldr_freeBank _ _ _)
  | with_reducible apply LoaderKept.after ((within_setClassroom _ _ _).ldr) | with_reducible apply LoaderKept.foldl
  | (with_reducible intro y a h)

theorem ldr_coverEnter (s : State) (c : Nat) :
    LoaderKept s (State.coverEnter s c) := by
  unfold State.coverEnter
  repeat' first
  | with_reducible apply LoaderKept.refl | with_reducible assumption | with_reducible apply LoaderKept.after (ldr_toCover _ _)
  | with_reducible apply LoaderKept.after ((within_setClassroom _ _ _).ldr) | with_reducible apply LoaderKept.after (ldr_showCover _)
  | with_reducible apply LoaderKept.after (ldr_raise ?_) | with_reducible apply LoaderKept.after (ldr_dropRuns _ _)
  | with_reducible apply LoaderKept.foldl | (with_reducible intro y a h) | split | with_reducible apply LoaderKept.upd
  | exact inLoaderKept_add (by decide) | exact inLoaderKept_add_add (by decide) | decide

theorem ldr_coverExit (s : State) (c : Nat) :
    LoaderKept s (State.coverExit s c) := by
  unfold State.coverExit
  repeat' first
  | with_reducible apply LoaderKept.refl | with_reducible apply LoaderKept.after (ldr_showCover _)
  | with_reducible apply LoaderKept.after (ldr_raise ?_) | split | with_reducible apply LoaderKept.upd
  | exact inLoaderKept_add (by decide) | exact inLoaderKept_add_add (by decide) | decide

theorem ldr_floorAuto (s : State) (version : Nat) :
    LoaderKept s (State.floorAuto s version) := by
  unfold State.floorAuto
  repeat' first
  | with_reducible apply LoaderKept.refl | with_reducible apply LoaderKept.after (ldr_setReg ?_) | split
  | exact inLoaderKept_add (by decide) | exact inLoaderKept_add_add (by decide) | decide

theorem ldr_imageValues (s : State) :
    LoaderKept s (State.imageValues s) := by
  unfold State.imageValues
  repeat' first
  | with_reducible apply LoaderKept.refl | with_reducible assumption | with_reducible apply LoaderKept.after (ldr_setReg ?_)
  | with_reducible apply LoaderKept.after ((within_addSysTasks _ _).ldr)
  | with_reducible apply LoaderKept.after ((within_setLesson _ _ _).ldr) | with_reducible apply LoaderKept.foldl
  | (with_reducible intro y a h) | split | exact inLoaderKept_add (by decide)

theorem ldr_keyMiss (s : State) :
    LoaderKept s (State.keyMiss s) := by
  unfold State.keyMiss
  repeat' first
  | with_reducible apply LoaderKept.refl | with_reducible apply LoaderKept.after (ldr_bump ?_) | exact inLoaderKept_add (by decide)

/-! ### The key store -/

theorem leaves_dropCache (i : Nat) : Leaves (· ≠ Reg.IMG_CACHE) s (s.dropCache i) := by
  unfold State.dropCache
  refine .foldl (fun t e _ => ?_) _
  split
  · exact leaves_setRb (by simp)
  · exact .refl t

theorem keepsEvents_dropCache (i : Nat) : KeepsEvents s (s.dropCache i) :=
  .of_leaves fun o ho => leaves_dropCache i o fun c => by rw [c] at ho; exact absurd ho (by decide)

/-- A register of PWR or IMG that the key store has no part in. -/
abbrev OfLoaderOnly (o : Nat) : Prop := OfLoader o ∧ o ≠ Reg.IMG_CACHE

theorem leaves_keyFail (i : Nat) : Leaves OfLoaderOnly s (s.keyFail i) := by
  have hm : ∀ x : State, Leaves OfLoaderOnly x x.keyMiss := fun x => (ldr_keyMiss x).regs.mono fun _ h => h.1
  have ht : Leaves OfLoaderOnly s (s.tagCheck i) := by
    unfold State.tagCheck
    dsimp only
    split
    · have h1 : Leaves OfLoaderOnly s (s.setSlot i { s.slot i with state := 3 }) := .of_regs rfl
      have h2 := h1.trans ((leaves_dropCache i).mono fun _ h => h.2)
      generalize (s.setSlot i { s.slot i with state := 3 }).dropCache i = x at h2 ⊢
      exact h2.trans (((ldr_flagRaise (inLoaderKept_of_le (by decide)) (by decide)).after
        (ldr_bump (inLoaderKept_add (by decide)))).regs.mono fun _ h => h.1)
    · exact .refl s
  unfold State.keyFail
  dsimp only
  split
  · exact ht.trans (hm _)
  · exact ht

end Sys2Proof.Machine

/-! The loads of a full image, and the boot (R64-R68). -/

namespace Sys2Proof.Machine

-- One declaration after another: side by side, their threads' stacks pass the memory limit of a check.
set_option Elab.async false

variable {s t x : State} {rd : ImageSource} {h : List Byte} {desks : List (Nat × Nat)}

/-! ### Every engine unconfigured -/

/-- Writes of 0 to one register after another leave each of them 0. -/
theorem foldl_zeroed {f : Nat → Nat} {g : State → Nat → State} (hg : ∀ t a o, (g t a).reg o = if o = f a then 0 else t.reg o) {o : Nat} :
    ∀ (l : List Nat) (s : State), (∃ a ∈ l, o = f a) ∨ s.reg o = 0 → (l.foldl g s).reg o = 0 := by
  intro l
  induction l with
  | nil => exact fun s h => h.resolve_left fun ⟨_, ha, _⟩ => absurd ha List.not_mem_nil
  | cons a l ih =>
    refine fun s h => ih _ ?_
    by_cases ho : o = f a
    · exact .inr ((hg _ _ _).trans (if_pos ho))
    · rcases h with ⟨b, hb, hob⟩ | h
      · rcases List.mem_cons.1 hb with rfl | hb
        · exact absurd hob ho
        · exact .inl ⟨b, hb, hob⟩
      · exact .inr (((hg _ _ _).trans (if_neg ho)).trans h)

theorem emptyRooms_step (t : State) (c o : Nat) :
    ((t.setClassroom c (t.classroom c).retiredOnly).setReg (Reg.IMG_CLS_STATE c) 0).reg o =
      if o = Reg.IMG_CLS_STATE c then 0 else t.reg o := reg_setReg

theorem emptyRooms_clsState {c : Nat} (hc : c < 32) : s.emptyRooms.reg (Reg.IMG_CLS_STATE c) = 0 :=
  foldl_zeroed emptyRooms_step _ _ (.inl ⟨c, List.mem_range.2 hc, rfl⟩)

theorem leaves_emptyRooms : Leaves (fun o => ¬ (0x30080 ≤ o ∧ o < 0x30100)) s s.emptyRooms := by
  refine .foldl (fun t c hc => ?_) s
  have hc := List.mem_range.1 hc
  refine fun o ho => (emptyRooms_step t c o).trans (if_neg fun he => ho ?_)
  unfold Reg.IMG_CLS_STATE at he
  omega

theorem ldr_resetRegs {lo hi : Nat} (h : 0x40000 ≤ lo) : LoaderKept s (s.resetRegs lo hi) := by
  have hk : ∀ p, p / 0x10000 = 1 ∨ OfLoader p → (s.resetRegs lo hi).reg p = s.reg p := fun p hp => by
    refine reg_resetRegs.trans (if_neg fun c => ?_)
    unfold OfLoader at hp
    omega
  exact ⟨fun p hp => hk p (.inr hp), .of_leaves fun p hp => hk p (.inl hp)⟩

theorem ldr_emptyPlans : LoaderKept s s.emptyPlans := by
  have hreset : ∀ (x : State) (b k m : Nat), 0x40000 ≤ b → LoaderKept x (x.resetRegs (b + k) m) := fun _ _ _ _ hb =>
    ldr_resetRegs (Nat.le_add_right_of_le hb)
  have hmap : ∀ (x : State) (c m : Nat), LoaderKept x (x.resetRegs (Reg.FAB_MAP c 0) m) := fun _ _ _ =>
    ldr_resetRegs (by unfold Reg.FAB_MAP; omega)
  unfold State.emptyPlans
  refine LoaderKept.foldl (fun y i h => h.trans (((hreset _ _ _ _ (by decide)).trans (hreset _ _ _ _ (by decide))).trans
    (hreset _ _ _ _ (by decide)))) ?_
  exact LoaderKept.foldl (fun y c h => h.trans (hmap _ _ _)) (.refl s)

theorem leaves_noImage : Leaves (fun o => o ≠ Reg.IMG_CACHE ∧ o ≠ Reg.IMG_VERSION ∧ ¬ (0x30100 ≤ o ∧ o < 0x30120)) s s.noImage := by
  have hreset : ∀ y : State, Leaves (fun o => ¬ (0x30100 ≤ o ∧ o < 0x30120)) y
      (y.resetRegs (Reg.IMG_BASE_DIGEST 0) (Reg.IMG_BASE_DIGEST 0 + 0x20)) := fun y o ho => reg_resetRegs.trans (if_neg ho)
  exact ((leaves_setRb (by simp)).trans (leaves_setReg (by simp))).trans ((hreset _).mono fun _ h => h.2.2)

theorem noImage_version : s.noImage.reg Reg.IMG_VERSION = 0 :=
  (reg_resetRegs.trans (if_neg (by decide))).trans reg_setReg_self

/-- Behind the registers that it clears, an unconfigured part follows by cover and decisions alone. -/
theorem unconfigure_via (s : State) : ∃ x, Leaves OfLoader s.emptyRooms x ∧ LoaderKept x.noImage s.unconfigure := by
  have h1 : LoaderKept s.emptyRooms s.emptyRooms.emptyPlans := ldr_emptyPlans
  have h2 : ∀ x : State, LoaderKept x.noImage x.noImage.showCover.showDecisions := fun x => (ldr_showDecisions _).after (ldr_showCover _)
  unfold State.unconfigure
  unfold State.emptyRooms State.emptyPlans at h1
  unfold State.noImage at h2
  exact ⟨_, LoaderKept.regs h1.upd, h2 _⟩

theorem unconfigure_cleared (s : State) : s.unconfigure.reg Reg.IMG_VERSION = 0 ∧ ∀ c : Fin 32, s.unconfigure.clsState c = 0 := by
  obtain ⟨x, hx, hk⟩ := unconfigure_via s
  refine ⟨(hk.regs _ (by decide)).trans noImage_version, fun c => ?_⟩
  have hc := c.isLt
  have ho : OfLoader (Reg.IMG_CLS_STATE c) := by
    unfold Reg.IMG_CLS_STATE
    omega
  have hn := leaves_noImage (s := x) (Reg.IMG_CLS_STATE c) (by unfold Reg.IMG_CACHE Reg.IMG_VERSION Reg.IMG_CLS_STATE; omega)
  rw [State.clsState, State.rf, hk.regs _ ho, hn, hx _ ho, emptyRooms_clsState hc]
  rfl

/-- The registers of the loader that neither an unconfigured part nor a checked key changes. -/
abbrev LoadRegs (o : Nat) : Prop := 0x30000 ≤ o ∧ o ≤ Reg.IMG_LOAD_STATUS

theorem leaves_unconfigure (s : State) : Leaves LoadRegs s s.unconfigure := by
  obtain ⟨x, hx, hk⟩ := unconfigure_via s
  have hl : ∀ {o}, LoadRegs o → OfLoader o := fun ho => by
    unfold LoadRegs Reg.IMG_LOAD_STATUS at ho
    unfold OfLoader
    omega
  refine ((leaves_emptyRooms.mono fun o ho => ?_).trans (hx.mono fun _ => hl)).trans
    ((leaves_noImage.mono fun o ho => ?_).trans (hk.regs.mono fun _ => hl))
  · unfold LoadRegs Reg.IMG_LOAD_STATUS at ho
    omega
  · unfold LoadRegs Reg.IMG_LOAD_STATUS at ho
    unfold Reg.IMG_CACHE Reg.IMG_VERSION
    omega

/-! ### A load that fails -/

theorem loadFail_spec {code sec : Nat} (hc : code < 256) (hs : sec < 64) : (s.loadFail code sec).rf Reg.IMG_LOAD_STATUS 8 8 = code ∧
    (s.loadFail code sec).rf Reg.IMG_LOAD_STATUS 16 6 = sec ∧ (s.loadFail code sec).event 1 = true ∧
    (∀ i, i < 8 → (s.loadFail code sec).rb Reg.IMG_LOAD_STATUS i = s.rb Reg.IMG_LOAD_STATUS i) ∧
    Leaves (fun o => Quiet o ∧ o ≠ Reg.IMG_LOAD_STATUS) s (s.loadFail code sec) := by
  have hr : Leaves Quiet ((s.setRf Reg.IMG_LOAD_STATUS 8 8 code).setRf Reg.IMG_LOAD_STATUS 16 6 sec) (s.loadFail code sec) :=
    leaves_raise (fun _ h => h) (by decide)
  have hw : (s.loadFail code sec).reg Reg.IMG_LOAD_STATUS = setFld (setFld (s.reg Reg.IMG_LOAD_STATUS) 8 8 code) 16 6 sec := by
    rw [hr _ (by decide), reg_setRf, if_pos rfl, reg_setRf, if_pos rfl]
  refine ⟨?_, ?_, event_raise (by decide), fun i hi => ?_, ?_⟩
  · rw [State.rf, hw, fld_setFld_ne (by decide) (by decide), fld_setFld (by decide), Nat.mod_eq_of_lt (show code < 2 ^ 8 from hc)]
  · rw [State.rf, hw, fld_setFld (by decide), Nat.mod_eq_of_lt (show sec < 2 ^ 6 from hs)]
  · rw [State.rb, hw, bit_setFld_ne (by decide) (by omega), bit_setFld_ne (by decide) (by omega)]
    rfl
  · exact ((leaves_setRf (by simp)).trans (leaves_setRf (by simp))).trans (hr.mono fun _ h => h.1)

theorem leaves_countNoKey {code : Nat} : Leaves OfLoaderOnly s (s.countNoKey rd code) := by
  unfold State.countNoKey
  split
  · exact leaves_keyFail _
  · exact .refl s

/-- An attempt that fails leaves its code and section, event 1, and every classroom EMPTY. -/
theorem attemptFail_spec {a : Nat × Nat} (hc : a.1 < 256) (hs : a.2 < 64) : (s.attemptFail rd a).rf Reg.IMG_LOAD_STATUS 8 8 = a.1 ∧
    (s.attemptFail rd a).rf Reg.IMG_LOAD_STATUS 16 6 = a.2 ∧ (s.attemptFail rd a).event 1 = true ∧
    (s.attemptFail rd a).reg Reg.IMG_VERSION = 0 ∧ (∀ c : Fin 32, (s.attemptFail rd a).clsState c = 0) ∧
    Leaves (fun o => LoadRegs o ∧ o ≠ Reg.IMG_LOAD_STATUS) s (s.attemptFail rd a) := by
  obtain ⟨h8, h16, h1, -, hl⟩ := loadFail_spec (s := (s.countNoKey rd a.1).unconfigure) hc hs
  obtain ⟨hv, hz⟩ := unconfigure_cleared (s.countNoKey rd a.1)
  have hlr : ∀ {o}, LoadRegs o → OfLoaderOnly o ∧ Quiet o := fun ho => by
    unfold LoadRegs Reg.IMG_LOAD_STATUS at ho
    unfold OfLoaderOnly OfLoader Quiet Reg.IMG_CACHE
    omega
  have hbefore := (leaves_countNoKey (s := s) (rd := rd) (code := a.1)).mono fun _ (ho : LoadRegs _) => (hlr ho).1
  unfold State.attemptFail
  refine ⟨h8, h16, h1, (hl _ (by decide)).trans hv, fun c => (hl.rf ?_ 0 2).trans (hz c), ?_⟩
  · have := c.isLt
    unfold Reg.IMG_CLS_STATE Reg.IMG_LOAD_STATUS Quiet
    omega
  · exact ((hbefore.trans (leaves_unconfigure _)).mono fun _ ho => ho.1).trans (hl.mono fun _ ho => ⟨(hlr ho.1).2, ho.2⟩)

/-! ### A load that succeeds -/

/-- The classrooms that a full image brings into service. -/
def State.classesServed (s : State) (rd : ImageSource) (h : List Byte) : State :=
  ((s.placeable rd h).map (fun c => (c, secEntry h (c + 1), sectionFrames rd h (c + 1)))).foldl
    (fun s x => s.inService x.1 x.2.1 x.2.2 (initialMemo (planOf x.2.1 x.2.2))) s

/-- The image is entered: cache entry 0, IMG_VERSION, the signer. -/
def State.imageEntered (s : State) (cs : List (Nat × List Byte × List Byte)) (h : List Byte) : State :=
  (fun s : State => { s with
    loader := { s.loader with version := hdrVersion h }
    cacheSigner := Tab.put (fun _ => 0) s.cacheSigner 0 (hdrSigner h + 1) })
  (((s.putEntryZero cs).setReg Reg.IMG_VERSION (word (hdrVersion h))).setRb Reg.IMG_CACHE 0 true)

/-- IMG_LOAD_STATUS after a success. -/
def loadedStatus (w : Word) : Word := setFld (setFld (setBit (setBit w 0 false) 3 true) 8 8 0) 16 6 0

theorem loadDone_eq : s.loadDone rd h =
    (fun y : State => (y.setReg Reg.IMG_LOAD_STATUS (loadedStatus (y.reg Reg.IMG_LOAD_STATUS))).raise 0 0)
      ((((s.classesServed rd h).imageEntered ((s.placeable rd h).map (fun c => (c, secEntry h (c + 1), sectionFrames rd h (c + 1))))
        h).floorAuto (hdrVersion h)).showDecisions) := by
  unfold State.loadDone State.classesServed State.imageEntered loadedStatus
  dsimp only

theorem inService_reg {c o : Nat} {e fs : List Byte} {m : Memo} : (s.inService c e fs m).reg o =
    if o = Reg.IMG_CLS_STATE c then setFld (setFld (s.reg o) 0 2 1) 16 16 (le (secDigest e) 0 2) else s.reg o := by
  have key : ∀ x : State, x.regs = s.regs → ((x.setClsState c 1).setRf (Reg.IMG_CLS_STATE c) 16 16 (le (secDigest e) 0 2)).reg o =
      if o = Reg.IMG_CLS_STATE c then setFld (setFld (s.reg o) 0 2 1) 16 16 (le (secDigest e) 0 2) else s.reg o := fun x hx => by
    have hr : ∀ p, x.reg p = s.reg p := fun p => by rw [State.reg, hx]; rfl
    rw [reg_setRf, State.setClsState, reg_setRf, if_pos rfl, reg_setRf, hr, hr]
    split
    next ho => rw [ho]
    · rfl
  unfold State.inService
  exact key _ ((within_loadMemo _ _ _).regs rfl)

theorem classesServed_fold {c : Nat} (l : List (Nat × List Byte × List Byte)) : ∀ s : State, c < 32 → (∀ x ∈ l, x.1 < 32) →
    (∃ x ∈ l, x.1 = c) ∨ s.clsState c = 1 →
    (l.foldl (fun s x => s.inService x.1 x.2.1 x.2.2 (initialMemo (planOf x.2.1 x.2.2))) s).clsState c = 1 := by
  induction l with
  | nil => exact fun s _ _ h => h.resolve_left fun ⟨_, ha, _⟩ => absurd ha List.not_mem_nil
  | cons a l ih =>
    refine fun s hc hl h => ih _ hc (fun x hx => hl x (List.mem_cons_of_mem _ hx)) ?_
    have ha := hl a List.mem_cons_self
    by_cases he : a.1 = c
    · refine .inr ?_
      rw [State.clsState, State.rf, inService_reg, if_pos (by rw [he]), fld_setFld_ne (by decide) (by decide), fld_setFld (by decide)]
      rfl
    · rcases h with ⟨b, hb, hbc⟩ | h
      · rcases List.mem_cons.1 hb with rfl | hb
        · exact absurd hbc he
        · exact .inl ⟨b, hb, hbc⟩
      · refine .inr ?_
        rw [State.clsState, State.rf, inService_reg, if_neg]
        · exact h
        · unfold Reg.IMG_CLS_STATE
          omega

theorem placeable_lt {c : Nat} (hc : c ∈ s.placeable rd h) : c < 32 := List.mem_range.1 (List.mem_filter.1 hc).1

theorem classesServed_clsState {c : Nat} (hc : c ∈ s.placeable rd h) : (s.classesServed rd h).clsState c = 1 := by
  refine classesServed_fold _ s (placeable_lt hc) (fun x hx => ?_) (.inl ⟨_, List.mem_map_of_mem hc, rfl⟩)
  obtain ⟨d, hd, rfl⟩ := List.mem_map.1 hx
  exact placeable_lt hd

theorem imageEntered_spec {cs : List (Nat × List Byte × List Byte)} : (s.imageEntered cs h).reg Reg.IMG_VERSION = word (hdrVersion h) ∧
    (s.imageEntered cs h).rb Reg.IMG_CACHE 0 = true ∧
    Leaves (fun o => o ≠ Reg.IMG_VERSION ∧ o ≠ Reg.IMG_CACHE) s (s.imageEntered cs h) := by
  have hp : ∀ o, (s.putEntryZero cs).reg o = s.reg o := fun o => by
    rw [State.reg, (within_putEntryZero s cs).regs rfl]
    rfl
  unfold State.imageEntered
  generalize s.putEntryZero cs = y at hp
  have hr : Leaves (fun _ => True) ((y.setReg Reg.IMG_VERSION (word (hdrVersion h))).setRb Reg.IMG_CACHE 0 true)
      ((fun s : State => { s with
        loader := { s.loader with version := hdrVersion h }
        cacheSigner := Tab.put (fun _ => 0) s.cacheSigner 0 (hdrSigner h + 1) })
      ((y.setReg Reg.IMG_VERSION (word (hdrVersion h))).setRb Reg.IMG_CACHE 0 true)) := .of_regs rfl
  refine ⟨?_, ?_, ?_⟩
  · exact (hr _ trivial).trans ((reg_setReg_ne (by decide)).trans reg_setReg_self)
  · exact (hr.rb trivial 0).trans (rb_setRb_self (by decide))
  · refine Leaves.trans (t := y) (fun o _ => hp o) ?_
    exact ((leaves_setReg (by simp)).trans (leaves_setRb (by simp))).trans (hr.mono fun _ _ => trivial)

theorem loadedStatus_spec {w : Word} : bit (loadedStatus w) 0 = false ∧ bit (loadedStatus w) 3 = true ∧ fld (loadedStatus w) 8 8 = 0 ∧
    fld (loadedStatus w) 16 6 = 0 := by
  unfold loadedStatus
  refine ⟨?_, ?_, ?_, ?_⟩
  · rw [bit_setFld_ne (by decide) (by decide), bit_setFld_ne (by decide) (by decide), bit_setBit_ne (by decide) (by decide),
      bit_setBit (by decide)]
  · rw [bit_setFld_ne (by decide) (by decide), bit_setFld_ne (by decide) (by decide), bit_setBit (by decide)]
  · rw [fld_setFld_ne (by decide) (by decide), fld_setFld (by decide), Nat.zero_mod]
  · rw [fld_setFld (by decide), Nat.zero_mod]

/-- A load's last step leaves its report and event 0, and in service what the domains allow. -/
theorem loadDone_spec : (s.loadDone rd h).LoadEnded 0 0 ∧ (s.loadDone rd h).rb Reg.IMG_LOAD_STATUS 3 = true ∧
    (s.loadDone rd h).reg Reg.IMG_VERSION = word (hdrVersion h) ∧ (s.loadDone rd h).rb Reg.IMG_CACHE 0 = true ∧
    (s.loadDone rd h).event 0 = true ∧ (∀ c ∈ s.placeable rd h, (s.loadDone rd h).clsState c = 1) := by
  have hserved := fun c => classesServed_clsState (s := s) (rd := rd) (h := h) (c := c)
  obtain ⟨hv, hc, hl⟩ := imageEntered_spec (s := s.classesServed rd h) (h := h)
    (cs := (s.placeable rd h).map (fun c => (c, secEntry h (c + 1), sectionFrames rd h (c + 1))))
  rw [loadDone_eq]
  generalize (s.classesServed rd h).imageEntered _ h = y at hv hc hl
  have hy : LoaderKept y (y.floorAuto (hdrVersion h)).showDecisions := (ldr_showDecisions _).after (ldr_floorAuto _ _)
  generalize (y.floorAuto (hdrVersion h)).showDecisions = z at hy
  dsimp only
  have hr : Leaves Quiet (z.setReg Reg.IMG_LOAD_STATUS (loadedStatus (z.reg Reg.IMG_LOAD_STATUS)))
      ((z.setReg Reg.IMG_LOAD_STATUS (loadedStatus (z.reg Reg.IMG_LOAD_STATUS))).raise 0 0) := leaves_raise (fun _ h => h) (by decide)
  have hz : Leaves (fun o => OfLoader o ∧ o ≠ Reg.IMG_LOAD_STATUS) y
      ((z.setReg Reg.IMG_LOAD_STATUS (loadedStatus (z.reg Reg.IMG_LOAD_STATUS))).raise 0 0) :=
    (hy.regs.mono fun _ h => h.1).trans ((leaves_setReg (by simp)).trans (hr.mono fun _ h => quiet_of_loader h.1))
  have hw := (hr Reg.IMG_LOAD_STATUS (by decide)).trans reg_setReg_self
  obtain ⟨h0, h3, h8, h16⟩ := loadedStatus_spec (w := z.reg Reg.IMG_LOAD_STATUS)
  refine ⟨⟨?_, ?_, ?_⟩, ?_, (hz _ (by decide)).trans hv, (hz.rb (by decide) 0).trans hc, event_raise (by decide), fun c hp => ?_⟩
  · rw [State.rb, hw, h0]
  · rw [State.rf, hw, h8]
  · rw [State.rf, hw, h16]
  · rw [State.rb, hw, h3]
  · have hlt := placeable_lt hp
    refine Eq.trans ?_ (hserved c hp)
    refine (hz.rf ?_ 0 2).trans (hl.rf ?_ 0 2)
    · unfold OfLoader Reg.IMG_CLS_STATE Reg.IMG_LOAD_STATUS
      omega
    · unfold Reg.IMG_CLS_STATE Reg.IMG_VERSION Reg.IMG_CACHE
      omega

/-! ### What the checks can find -/

theorem ite_lt {c : Prop} [Decidable c] {a b n : Nat} (ha : a < n) (hb : b < n) : (if c then a else b) < n := by
  split
  · exact ha
  · exact hb

theorem checkHeader_lt {ok : Bool} : s.checkHeader h ok < 256 := by
  unfold State.checkHeader
  refine ite_lt (by decide) (ite_lt (by decide) ?_)
  generalize s.keyFor (hdrSigner h) 3 = o
  cases o with
  | none =>
    dsimp only
    decide
  | some k =>
    dsimp only
    exact ite_lt (by decide) (ite_lt (by decide) (ite_lt (by decide) (ite_lt (by decide) (by decide))))

theorem sections_lt {k : Nat} (hk : k ∈ sections h) : k < 64 := by
  have := List.mem_range.1 (List.mem_filter.1 hk).1
  omega

theorem found_lt {p : Nat → Bool} {k : Nat} (hk : (sections h).find? p = some k) : k < 64 := sections_lt (List.mem_of_find?_eq_some hk)

/-- A check's code has eight bits, and its section six. -/
theorem checkImage_lt {bad : List Nat} {ok : Bool} : (s.checkImage rd bad ok).1 < 256 ∧ (s.checkImage rd bad ok).2 < 64 := by
  have hc : ∀ y : List Byte, s.checkHeader y ok < 256 := fun _ => checkHeader_lt
  have h7 := fun (y : List Byte) k => found_lt (h := y) (p := fun k => !framesOk rd y bad k) (k := k)
  have h8 := fun (y : List Byte) k => found_lt (h := y) (p := fun k => !digestOk rd y k) (k := k)
  unfold State.checkImage
  extract_lets y c
  have hc : c < 256 := hc y
  clear_value c y
  specialize h7 y
  specialize h8 y
  generalize (sections y).find? (fun k => !framesOk rd y bad k) = f at h7 ⊢
  generalize (sections y).find? (fun k => !digestOk rd y k) = g at h8 ⊢
  by_cases h0 : c ≠ 0
  · rw [if_pos h0]
    exact ⟨hc, by dsimp only; decide⟩
  rw [if_neg h0]
  cases f with
  | some k => exact ⟨by dsimp only; decide, h7 k rfl⟩
  | none =>
    cases g with
    | some k => exact ⟨by dsimp only; decide, h8 k rfl⟩
    | none => exact ⟨by dsimp only; decide, by dsimp only; decide⟩

theorem checkFlash_lt {base : Nat} {bad : List Nat} : (s.checkFlash base bad).1 < 256 ∧ (s.checkFlash base bad).2 < 64 := by
  unfold State.checkFlash
  split
  · exact ⟨(by decide : (10 : Nat) < 256), (by decide : (63 : Nat) < 64)⟩
  · exact checkImage_lt

/-! ### An attempt -/

section Attempt
variable {wr : State → Nat → Word → State × Bool} {warm : Bool} {a : Nat × Nat}

theorem attempt_fails (ha : a.1 ≠ 0) : s.attempt wr rd desks warm a = (s.attemptFail rd a, a) := by
  unfold State.attempt
  dsimp only
  rw [if_neg ha]
  dsimp only
  rw [if_neg ha]

/-- A verified image that nothing stops comes to the last step of a load. -/
theorem applyImage_done (hi : s.AppliesImage rd desks warm) : ∃ x : State, s.applyImage State.bootWrite rd desks warm = (x.loadDone rd (rd 0 4096), 0, 63) := by
  obtain ⟨hp, hq, hstart⟩ := hi
  unfold State.applyImage
  dsimp only at hp hq hstart ⊢
  rw [hp, State.applyClasses, hq, State.applyList, hstart, if_neg (by decide), if_pos rfl]
  exact ⟨_, rfl⟩

theorem attempt_done (ha : a.1 = 0) (hi : s.AppliesImage rd desks warm) :
    ∃ x : State, s.attempt State.bootWrite rd desks warm a = (x.loadDone rd (rd 0 4096), 0, 63) := by
  obtain ⟨x, hx⟩ := applyImage_done hi
  unfold State.attempt
  dsimp only
  rw [if_pos ha, hx]
  refine ⟨x, ?_⟩
  dsimp only
  rw [if_pos rfl]

end Attempt

theorem loaderIdle_spec : s.loaderIdle.rb Reg.IMG_LOAD_STATUS 0 = false ∧
    (∀ i, i ≠ 0 → s.loaderIdle.rb Reg.IMG_LOAD_STATUS i = s.rb Reg.IMG_LOAD_STATUS i) ∧
    (∀ lo n, 1 ≤ lo → s.loaderIdle.rf Reg.IMG_LOAD_STATUS lo n = s.rf Reg.IMG_LOAD_STATUS lo n) ∧
    Leaves (· ≠ Reg.IMG_LOAD_STATUS) s s.loaderIdle := by
  refine ⟨rb_setRb_self (by decide), fun i hi => ?_, fun lo n hlo => ?_, leaves_setRb (by simp)⟩
  · rw [State.loaderIdle, State.rb, reg_setRb, if_pos rfl, bit_setBit_ne (by decide) hi]
    rfl
  · rw [State.loaderIdle, State.rf, reg_setRb, if_pos rfl, fld_setBit_ne (by decide) (.inr hlo)]
    rfl

theorem event_of_leaves {P : Nat → Prop} (hl : Leaves P s t) (hP : ∀ o, o / 0x10000 = 1 → P o) {e : Nat} (he : e < 64)
    (hs : s.event e = true) : t.event e = true := KeepsEvents.of_leaves (hl.mono hP) e he hs

/-- The end of a load that an attempt has brought to its last step. -/
theorem loadDone_idle : (s.loadDone rd h).loaderIdle.LoadEnded 0 0 ∧ (s.loadDone rd h).loaderIdle.rb Reg.IMG_LOAD_STATUS 3 = true ∧
    (s.loadDone rd h).loaderIdle.reg Reg.IMG_VERSION = word (hdrVersion h) ∧ (s.loadDone rd h).loaderIdle.rb Reg.IMG_CACHE 0 = true ∧
    (s.loadDone rd h).loaderIdle.event 0 = true ∧
    (∀ c : Fin 32, secFrames (secEntry h (c + 1)) ≠ 0 → (s.loadDone rd h).loaderIdle.domOn (classDomain c) = true →
      (s.loadDone rd h).loaderIdle.linkOff c (planOf (secEntry h (c + 1)) (sectionFrames rd h (c + 1))) = false →
        (s.loadDone rd h).loaderIdle.clsState c = 1) := by
  have hk : Keeps s (s.loadDone rd h).loaderIdle := (kept_loadDone s rd h).trans (kept_setRb _ _ _ _ (by decide))
  obtain ⟨⟨-, h8, h16⟩, h3, hv, hc, he, hcls⟩ := loadDone_spec (s := s) (rd := rd) (h := h)
  obtain ⟨i0, ib, iF, il⟩ := loaderIdle_spec (s := s.loadDone rd h)
  refine ⟨⟨i0, (iF _ _ (by decide)).trans h8, (iF _ _ (by decide)).trans h16⟩, (ib _ (by decide)).trans h3, (il _ (by decide)).trans hv,
    (il.rb (by decide) 0).trans hc, event_of_leaves il (fun o ho => by unfold Reg.IMG_LOAD_STATUS; omega) (by decide) he, fun c hf hd hlink => ?_⟩
  refine (il.rf ?_ 0 2).trans (hcls c (List.mem_filter.2 ⟨List.mem_range.2 c.isLt, ?_⟩))
  · have := c.isLt
    unfold Reg.IMG_CLS_STATE Reg.IMG_LOAD_STATUS
    omega
  · rw [hk.domOn] at hd
    rw [State.linkOff, hk.domOn, hk.domOn] at hlink
    rw [hd, State.linkOff, hlink, decide_eq_true hf]
    rfl

/-- The end of an attempt that fails. -/
theorem attemptFail_idle {a : Nat × Nat} (hc : a.1 < 256) (hs : a.2 < 64) : (s.attemptFail rd a).loaderIdle.LoadEnded a.1 a.2 ∧
    (s.attemptFail rd a).loaderIdle.event 1 = true ∧ (s.attemptFail rd a).loaderIdle.reg Reg.IMG_VERSION = 0 ∧
    ∀ c : Fin 32, (s.attemptFail rd a).loaderIdle.clsState c = 0 := by
  obtain ⟨h8, h16, h1, hv, hz, -⟩ := attemptFail_spec (s := s) (rd := rd) hc hs
  obtain ⟨i0, ib, iF, il⟩ := loaderIdle_spec (s := s.attemptFail rd a)
  refine ⟨⟨i0, (iF _ _ (by decide)).trans h8, (iF _ _ (by decide)).trans h16⟩, event_of_leaves il (fun o ho => ?_) (by decide) h1,
    (il _ (by decide)).trans hv, fun c => (il.rf ?_ 0 2).trans (hz c)⟩
  · unfold Reg.IMG_LOAD_STATUS
    omega
  · have := c.isLt
    unfold Reg.IMG_CLS_STATE Reg.IMG_LOAD_STATUS
    omega

/-! ### The boot -/

/-- The boot has begun on the primary copy: the report's source, the read mode, the first read. -/
def State.bootBegun (s : State) : State :=
  (State.selectReadMode { (s.setRf Reg.IMG_LOAD_STATUS 1 2 1).setRb Reg.IMG_LOAD_STATUS 3 false with
    loader := { s.loader with warm := false } }).readFlash 0

theorem bootLoad_busy {wr : State → Nat → Word → State × Bool} {bad : List (Nat × Nat)} (hb : s.rb Reg.IMG_LOAD_STATUS 0 = true)
    (hh : s.domOn pdHost = true) (hm : s.domOn pdMem = true) :
    s.bootLoad wr bad desks = (fun p : State × Nat × Nat => if p.2.1 = 0 then p.1.loaderIdle
      else if p.1.rb Reg.IMG_CTRL 1 then p.1.bootSecond wr (framesBad bad 1) desks s.loader.warm else p.1.loaderIdle)
      (s.bootBegun.attempt wr (s.bootBegun.flashAt 0) desks s.loader.warm (s.bootBegun.checkFlash 0 (framesBad bad 0))) := by
  unfold State.bootLoad State.bootBegun
  rw [hb, hh, hm]
  exact if_pos rfl

theorem bootBegun_ctrl : s.bootBegun.rb Reg.IMG_CTRL 1 = s.rb Reg.IMG_CTRL 1 := by
  have h1 : Leaves (· ≠ Reg.IMG_LOAD_STATUS) s (State.setRb (s.setRf Reg.IMG_LOAD_STATUS 1 2 1) Reg.IMG_LOAD_STATUS 3 false) :=
    (leaves_setRf (by simp)).trans (leaves_setRb (by simp))
  have h2 : ∀ x : State, Leaves (fun _ => True) x (x.selectReadMode.readFlash 0) := fun x => by
    unfold State.readFlash State.selectReadMode
    exact fun o _ => emit_reg.trans emit_reg
  have h3 := h1.trans ((Leaves.of_regs (t := { (s.setRf Reg.IMG_LOAD_STATUS 1 2 1).setRb Reg.IMG_LOAD_STATUS 3 false with
    loader := { s.loader with warm := false } }) rfl).trans ((h2 _).mono fun _ _ => trivial))
  exact h3.rb (by decide) 1

/-! ### The flash stays -/

theorem emptied_loader : s.emptyRooms.emptyPlans.loader = s.loader := by
  have h1 : Within 0x8000000008 s s.emptyRooms := by
    refine .foldl (fun y c h => ?_) (.refl s)
    exact (within_setReg _ _ _).after (by decide) ((within_setClassroom y c _).after (by decide) h)
  have h2 : Within 0x38 s.emptyRooms s.emptyRooms.emptyPlans := by
    unfold State.emptyPlans
    refine .foldl (fun y i h => ?_) (.foldl (fun y c h => (within_resetRegs _ _ _).after (by decide) h) (.refl _))
    exact (within_resetRegs _ _ _).after (by decide) ((within_resetRegs _ _ _).after (by decide)
      ((within_resetRegs _ _ _).after (by decide) h))
  exact (h2.loader rfl).trans (h1.loader rfl)

theorem unconfigure_flash : s.unconfigure.loader.flash = s.loader.flash := by
  have h1 : s.emptyRooms.emptyPlans.loader.flash = s.loader.flash := by rw [emptied_loader]
  have h2 : ∀ x : State, x.noImage.showCover.showDecisions.loader = x.loader := fun x =>
    ((within_showDecisions _).loader rfl).trans (((within_showCover _).loader rfl).trans rfl)
  unfold State.unconfigure
  unfold State.emptyRooms State.emptyPlans at h1
  unfold State.noImage at h2
  exact (congrArg Loader.flash (h2 _)).trans h1

theorem attemptFail_flash {a : Nat × Nat} : (s.attemptFail rd a).loader.flash = s.loader.flash := by
  have hl := (within_loadFail (s.countNoKey rd a.1).unconfigure a.1 a.2).loader rfl
  have hk := (within_countNoKey s rd a.1).loader rfl
  rw [State.attemptFail, hl, unconfigure_flash, hk]

theorem flashAt_congr {base : Nat} (hf : t.loader.flash = s.loader.flash) : t.flashAt base = s.flashAt base := by
  unfold State.flashAt
  rw [hf]

theorem readFlash_flashAt {base k : Nat} : (s.readFlash k).flashAt base = s.flashAt base :=
  flashAt_congr (congrArg Loader.flash ((within_emit _ _).loader rfl))

theorem bootBegun_flashAt {base : Nat} : s.bootBegun.flashAt base = s.flashAt base :=
  readFlash_flashAt.trans (flashAt_congr ((congrArg Loader.flash ((within_emit _ _).loader rfl)).trans rfl))

/-! ### The second copy -/

/-- The second copy's turn: the report's source, the read. -/
def State.secondBegun (s : State) : State := (s.setRf Reg.IMG_LOAD_STATUS 1 2 2).readFlash 0x4000000

theorem bootSecond_eq {wr : State → Nat → Word → State × Bool} {bad : List Nat} {warm : Bool} : s.bootSecond wr bad desks warm =
    (s.secondBegun.attempt wr (s.secondBegun.flashAt 0x4000000) desks warm (s.secondBegun.checkFlash 0x4000000 bad)).1.loaderIdle := by
  unfold State.bootSecond State.secondBegun
  dsimp only

theorem secondBegun_flashAt {base : Nat} : s.secondBegun.flashAt base = s.flashAt base := readFlash_flashAt

section Boot
variable {bad : List (Nat × Nat)}

theorem exec_bootLoad {wr : State → Nat → Word → State × Bool} (hwr : wr = State.bootWrite) :
    exec (.bootLoad bad desks) s = .next (s.bootLoad wr bad desks) := by
  rw [hwr]
  rfl

/-- A primary copy that is applied ends the boot. -/
theorem bootLoad_first (hb : s.rb Reg.IMG_LOAD_STATUS 0 = true) (hh : s.domOn pdHost = true) (hm : s.domOn pdMem = true)
    (hc : (s.bootBegun.checkFlash 0 (framesBad bad 0)).1 = 0) (hi : s.bootBegun.AppliesImage (s.bootBegun.flashAt 0) desks s.loader.warm) :
    ∃ x : State, s.bootLoad State.bootWrite bad desks = (x.loadDone (s.flashAt 0) (s.flashAt 0 0 4096)).loaderIdle := by
  obtain ⟨x, hx⟩ := attempt_done hc hi
  refine ⟨x, ?_⟩
  rw [bootLoad_busy hb hh hm, hx, bootBegun_flashAt]
  exact if_pos rfl

/-- A primary copy that fails gives the second its turn where IMG_CTRL allows. -/
theorem bootLoad_failed (hb : s.rb Reg.IMG_LOAD_STATUS 0 = true) (hh : s.domOn pdHost = true) (hm : s.domOn pdMem = true)
    {a : Nat × Nat} (hc : s.bootBegun.checkFlash 0 (framesBad bad 0) = a) (h0 : a.1 ≠ 0) :
    s.bootLoad State.bootWrite bad desks = if s.rb Reg.IMG_CTRL 1 then
      (s.bootBegun.attemptFail (s.bootBegun.flashAt 0) a).bootSecond State.bootWrite (framesBad bad 1) desks s.loader.warm
      else (s.bootBegun.attemptFail (s.bootBegun.flashAt 0) a).loaderIdle := by
  obtain ⟨h1, h2⟩ := checkFlash_lt (s := s.bootBegun) (base := 0) (bad := framesBad bad 0)
  rw [hc] at h1 h2
  obtain ⟨-, -, -, -, -, hl⟩ := attemptFail_spec (s := s.bootBegun) (rd := s.bootBegun.flashAt 0) h1 h2
  have hctrl := (hl.rb (o := Reg.IMG_CTRL) (by decide) 1).trans bootBegun_ctrl
  rw [bootLoad_busy hb hh hm, hc, attempt_fails h0]
  dsimp only
  rw [if_neg h0, hctrl]

end Boot

/-- Settles O30: an attempt whose checks pass comes to the last step of a load, and another unconfigures the part and leaves its code;
the second copy is the same attempt once more. -/
theorem bootLoads : Obligations.BootLoads := by
  unfold Obligations.BootLoads
  refine fun s bad desks => ⟨fun hb hh hm u hu => ?_, fun hb => congrArg Host.Outcome.next (if_neg ?_)⟩
  · have hu : u = s.bootBegun := hu
    subst hu
    refine ⟨fun hc hi => ?_, fun code sec hc h0 => ⟨fun hctrl => ?_, fun hctrl v hv => ?_⟩⟩
    · obtain ⟨x, hx⟩ := bootLoad_first hb hh hm hc hi
      obtain ⟨hend, h3, hver, hcache, hev, hcls⟩ := loadDone_idle (s := x) (rd := s.flashAt 0) (h := s.flashAt 0 0 4096)
      refine ⟨_, (exec_bootLoad rfl).trans (congrArg _ hx), hend, h3, hver, hcache, hev, fun c e he hf hd hl => ?_⟩
      rw [he] at hf hl
      exact hcls c hf hd hl
    · obtain ⟨h1, h2⟩ := checkFlash_lt (s := s.bootBegun) (base := 0) (bad := framesBad bad 0)
      rw [hc] at h1 h2
      obtain ⟨hend, hev, hver, hcls⟩ := attemptFail_idle (s := s.bootBegun) (rd := s.bootBegun.flashAt 0) (a := (code, sec)) h1 h2
      refine ⟨_, (exec_bootLoad rfl).trans (congrArg _ ?_), hend, hev, hver, hcls⟩
      rw [bootLoad_failed hb hh hm hc h0, hctrl]
      exact if_neg Bool.false_ne_true
    · have hrun : s.bootLoad State.bootWrite bad desks =
          (s.bootBegun.attemptFail (s.bootBegun.flashAt 0) (code, sec)).bootSecond State.bootWrite (framesBad bad 1) desks s.loader.warm := by
        rw [bootLoad_failed hb hh hm hc h0, hctrl]
        exact if_pos rfl
      have hv : v = (s.bootBegun.attemptFail (s.bootBegun.flashAt 0) (code, sec)).secondBegun := hv
      rw [bootSecond_eq, ← hv] at hrun
      have hflash : v.flashAt 0x4000000 = s.flashAt 0x4000000 := by
        rw [hv, secondBegun_flashAt, flashAt_congr attemptFail_flash, bootBegun_flashAt]
      refine ⟨fun hc2 hi => ?_, fun code2 sec2 hc2 h02 => ?_⟩
      · obtain ⟨x, hx⟩ := attempt_done hc2 hi
        rw [hx, hflash] at hrun
        obtain ⟨hend, h3, hver, hcache, hev, -⟩ :=
          loadDone_idle (s := x) (rd := s.flashAt 0x4000000) (h := s.flashAt 0x4000000 0 4096)
        exact ⟨_, (exec_bootLoad rfl).trans (congrArg _ hrun), hend, h3, hver, hev⟩
      · obtain ⟨h1, h2⟩ := checkFlash_lt (s := v) (base := 0x4000000) (bad := framesBad bad 1)
        rw [hc2] at h1 h2
        rw [hc2, attempt_fails (a := (code2, sec2)) h02] at hrun
        obtain ⟨hend, hev, hver, hcls⟩ := attemptFail_idle (s := v) (rd := v.flashAt 0x4000000) (a := (code2, sec2)) h1 h2
        exact ⟨_, (exec_bootLoad rfl).trans (congrArg _ hrun), hend, hev, hver, hcls⟩
  · rw [hb]
    exact Bool.false_ne_true

end Sys2Proof.Machine

/-! Host loads of an image and the image cache (R69-R71). -/

namespace Sys2Proof.Machine

-- One declaration after another: side by side, their threads' stacks pass the memory limit of a check.
set_option Elab.async false

variable {s t x : State} {v : Word} {rd : ImageSource} {desks : List (Nat × Nat)}

/-! ### What the checks read -/

/-- The states agree in what the checks of an image read: all but the loader's command, report and cache registers. -/
structure SameImage (s t : State) : Prop where
  regs : Leaves (fun o => o ≠ Reg.IMG_LOAD_CMD ∧ o ≠ Reg.IMG_LOAD_STATUS ∧ o ≠ Reg.IMG_CACHE) s t
  keys : t.keys = s.keys
  rtc : t.rtc = s.rtc
  hbm : t.hbm = s.hbm

theorem SameImage.trans {u : State} (h : SameImage s t) (k : SameImage t u) : SameImage s u :=
  ⟨h.regs.trans k.regs, k.keys.trans h.keys, k.rtc.trans h.rtc, k.hbm.trans h.hbm⟩

theorem sameImage_setReg {o : Nat} {w : Word} (h : o = Reg.IMG_LOAD_CMD ∨ o = Reg.IMG_LOAD_STATUS ∨ o = Reg.IMG_CACHE) :
    SameImage s (s.setReg o w) :=
  ⟨leaves_setReg fun c => by omega, rfl, rfl, rfl⟩

theorem SameImage.domOn (h : SameImage s t) {d : Nat} : t.domOn d = s.domOn d := domOn_congr (h.regs _ (by decide))

theorem SameImage.keyFor (h : SameImage s t) {i b : Nat} : t.keyFor i b = s.keyFor i b := by
  have hs : t.slot i = s.slot i := by rw [State.slot, h.keys]; rfl
  unfold State.keyFor State.slotLocked
  rw [hs, h.domOn, h.rtc]

theorem SameImage.baseDigest (h : SameImage s t) : t.baseDigest = s.baseDigest := by
  have hr : ∀ k, t.reg (Reg.IMG_BASE_DIGEST k) = s.reg (Reg.IMG_BASE_DIGEST k) := fun k =>
    h.regs _ (by unfold Reg.IMG_BASE_DIGEST Reg.IMG_LOAD_CMD Reg.IMG_LOAD_STATUS Reg.IMG_CACHE; omega)
  unfold State.baseDigest
  simp only [hr]

theorem SameImage.checkHeader (h : SameImage s t) {y : List Byte} {ok : Bool} : t.checkHeader y ok = s.checkHeader y ok := by
  have hmin : t.reg Reg.IMG_MINVER = s.reg Reg.IMG_MINVER := h.regs _ (by decide)
  have hfloor : t.reg Reg.KEY_FLOOR = s.reg Reg.KEY_FLOOR := h.regs _ (by decide)
  unfold State.checkHeader
  rw [h.keyFor, hmin, hfloor, h.baseDigest]

theorem SameImage.checkImage (h : SameImage s t) {bad : List Nat} {ok : Bool} : t.checkImage rd bad ok = s.checkImage rd bad ok := by
  unfold State.checkImage
  simp only [h.checkHeader]

theorem SameImage.hbmAt (h : SameImage s t) {base : Nat} : t.hbmAt base = s.hbmAt base := by
  unfold State.hbmAt State.hbmRead
  rw [h.hbm]

theorem SameImage.hbmRead (h : SameImage s t) {a n : Nat} : t.hbmRead a n = s.hbmRead a n := by
  unfold State.hbmRead
  rw [h.hbm]

theorem SameImage.stageAt (h : SameImage s t) : t.stageAt = s.stageAt := by
  rw [State.stageAt, State.pair, h.regs _ (by decide), h.regs _ (by decide)]
  rfl

theorem SameImage.stageLen (h : SameImage s t) : t.stageLen = s.stageLen := h.regs.rf (by decide) 0 26

theorem SameImage.checkStaged (h : SameImage s t) {ok : Bool} : t.checkStaged ok = s.checkStaged ok := by
  unfold State.checkStaged
  rw [h.hbmAt, h.stageAt, h.stageLen]
  simp only [h.checkImage]

theorem checkStaged_lt {ok : Bool} : (s.checkStaged ok).1 < 256 ∧ (s.checkStaged ok).2 < 64 := by
  unfold State.checkStaged
  extract_lets f y
  split
  · exact ⟨by dsimp only; decide, by dsimp only; decide⟩
  · exact checkImage_lt

/-! ### The command -/

theorem loadCmdRow : regRow Reg.IMG_LOAD_CMD = some ⟨0x3001C, 0x4, 1, 0x4, 1, 0x0, 0x37, 0x0, 0x0, 0x0, .single, none⟩ := by decide

/-- IMG_LOAD_CMD has taken the command. -/
def State.loadAsked (s : State) (v : Word) : State := s.setReg Reg.IMG_LOAD_CMD (merge 0x37 v (s.reg Reg.IMG_LOAD_CMD))

theorem sameImage_loadAsked : SameImage s (s.loadAsked v) := sameImage_setReg (.inl rfl)

theorem leaves_loadAsked : Leaves (· ≠ Reg.IMG_LOAD_CMD) s (s.loadAsked v) := leaves_setReg (by simp)

theorem within_loadAsked : Within 0x8 s (s.loadAsked v) := within_setReg _ _ _

theorem loadAsked_cmd : (s.loadAsked v).reg Reg.IMG_LOAD_CMD = merge 0x37 v (s.reg Reg.IMG_LOAD_CMD) := reg_setReg_self

theorem poke_loadCmd {e : Env} (h : s.Accepts Reg.IMG_LOAD_CMD v) (hv : bit v 0 = true) :
    s.poke Reg.IMG_LOAD_CMD v e = (s.loadAsked v).loadCommand State.bootWrite e.desks := by
  have hw : s.reg Reg.IMG_LOAD_CMD &&& ~~~ (v &&& 0) = s.reg Reg.IMG_LOAD_CMD := by
    simpa using BitVec.and_allOnes (x := s.reg Reg.IMG_LOAD_CMD)
  have hgo : (s.loadAsked v).rb Reg.IMG_LOAD_CMD 0 = true := by
    rw [State.rb, loadAsked_cmd, bit_merge, if_pos (by decide), hv]
  rw [poke_single h.1 h.2 (by decide) loadCmdRow rfl, hw]
  refine (unitHook_img rfl).trans ?_
  rw [State.imgHook, if_pos rfl]
  exact if_pos hgo

theorem accepts_loadCmd (h : s.Accepts Reg.IMG_LOAD_CMD v) (hv : bit v 0 = true) : s.rb Reg.IMG_LOAD_STATUS 0 = false := by
  have hr := h.refuses (by decide)
  rw [unitRefuses_img rfl, imgRefuses, if_neg (by decide), if_pos rfl, hv] at hr
  cases hb : s.rb Reg.IMG_LOAD_STATUS 0 with
  | false => rfl
  | true =>
    rw [hb] at hr
    exact absurd hr Bool.true_eq_false.mp

/-- The command is over: GO reads 0. -/
def State.loadDismissed (s : State) : State := s.setRb Reg.IMG_LOAD_CMD 0 false

theorem loadDismissed_spec : s.loadDismissed.rb Reg.IMG_LOAD_CMD 0 = false ∧ Leaves (· ≠ Reg.IMG_LOAD_CMD) s s.loadDismissed :=
  ⟨rb_setRb_self (by decide), leaves_setRb (by simp)⟩

theorem loadEnded_dismissed {code sec : Nat} (h : s.LoadEnded code sec) : s.loadDismissed.LoadEnded code sec := by
  have hl := loadDismissed_spec (s := s).2
  obtain ⟨h0, h8, h16⟩ := h
  exact ⟨(hl.rb (by decide) 0).trans h0, (hl.rf (by decide) 8 8).trans h8, (hl.rf (by decide) 16 6).trans h16⟩

theorem event_dismissed {e : Nat} (he : e < 64) (h : s.event e = true) : s.loadDismissed.event e = true :=
  event_of_leaves loadDismissed_spec.2 (fun o ho => by unfold Reg.IMG_LOAD_CMD; omega) he h

/-! ### A command that fails -/

/-- The report names the host's image. -/
def State.loadSource (s : State) : State := s.setRf Reg.IMG_LOAD_STATUS 1 2 3

theorem loadSource_spec : s.loadSource.rb Reg.IMG_LOAD_STATUS 0 = s.rb Reg.IMG_LOAD_STATUS 0 ∧ SameImage s s.loadSource := by
  refine ⟨?_, sameImage_setReg (.inr (.inl rfl))⟩
  rw [State.loadSource, State.rb, reg_setRf, if_pos rfl, bit_setFld_ne (by decide) (by decide)]
  rfl

/-- A command that ends in an error: the report, event 1, GO. -/
theorem loadRefused_spec {code sec : Nat} (hc : code < 256) (hs : sec < 64) (hb : s.rb Reg.IMG_LOAD_STATUS 0 = false) :
    (s.loadFail code sec).loadDismissed.LoadEnded code sec ∧ (s.loadFail code sec).loadDismissed.event 1 = true ∧
    (s.loadFail code sec).loadDismissed.rb Reg.IMG_LOAD_CMD 0 = false ∧
    Leaves (fun o => Quiet o ∧ o ≠ Reg.IMG_LOAD_CMD ∧ o ≠ Reg.IMG_LOAD_STATUS) s (s.loadFail code sec).loadDismissed ∧
    Within 0x1C6C8 s (s.loadFail code sec).loadDismissed := by
  obtain ⟨h8, h16, he, hi, hl⟩ := loadFail_spec (s := s) hc hs
  obtain ⟨hgo, hd⟩ := loadDismissed_spec (s := s.loadFail code sec)
  refine ⟨loadEnded_dismissed ⟨(hi 0 (by decide)).trans hb, h8, h16⟩, event_dismissed (by decide) he, hgo, ?_, ?_⟩
  · exact (hl.mono fun _ h => ⟨h.1, h.2.2⟩).trans (hd.mono fun _ h => h.2.1)
  · exact (within_setRb _ _ _ _).after (by decide) (within_loadFail s code sec)

/-! ### LOAD -/

section Load
variable {wr : State → Nat → Word → State × Bool}

/-- The load is under way. -/
def State.loadBusy (s : State) : State := s.loadSource.setRb Reg.IMG_LOAD_STATUS 0 true

theorem sameImage_loadBusy : SameImage s s.loadBusy := loadSource_spec.2.trans (sameImage_setReg (.inr (.inl rfl)))

theorem imageLoad_refused (h : s.rb Reg.IMG_SRC 0 = false ∨ s.rb Reg.IMG_LOAD_STATUS 3 = true ∨ hbmRangeOk s.stageAt s.stageLen = false) :
    s.imageLoad wr desks = (s.loadSource.loadFail 10 63).loadDismissed := by
  refine if_pos ?_
  rcases h with h | h | h
  all_goals simp [h]

theorem allowed (h1 : s.rb Reg.IMG_SRC 0 = true) (h2 : s.rb Reg.IMG_LOAD_STATUS 3 = false) (h3 : hbmRangeOk s.stageAt s.stageLen = true) :
    ¬ ((!s.rb Reg.IMG_SRC 0 || s.rb Reg.IMG_LOAD_STATUS 3 || !hbmRangeOk s.stageAt s.stageLen) = true) := by
  rw [h1, h2, h3]
  exact Bool.false_ne_true

theorem imageLoad_off (h : ¬ ((!s.rb Reg.IMG_SRC 0 || s.rb Reg.IMG_LOAD_STATUS 3 || !hbmRangeOk s.stageAt s.stageLen) = true))
    (hm : s.domOn pdMem = false) : s.imageLoad wr desks = (s.loadSource.loadFail 12 63).loadDismissed := by
  have hm' : (!s.loadSource.domOn pdMem) = true := by
    rw [loadSource_spec.2.domOn, hm]
    rfl
  unfold State.imageLoad
  extract_lets refused y done
  rw [if_neg h]
  exact if_pos hm'

theorem imageLoad_runs (h : ¬ ((!s.rb Reg.IMG_SRC 0 || s.rb Reg.IMG_LOAD_STATUS 3 || !hbmRangeOk s.stageAt s.stageLen) = true))
    (hm : s.domOn pdMem = true) : s.imageLoad wr desks =
      (s.loadBusy.attempt wr (s.hbmAt s.stageAt) desks false (s.checkStaged false)).1.loaderIdle.loadDismissed := by
  have hm' : ¬ ((!s.loadSource.domOn pdMem) = true) := by
    rw [loadSource_spec.2.domOn, hm]
    exact Bool.false_ne_true
  have hsame := loadSource_spec (s := s).2
  have hrun : s.imageLoad wr desks = (s.loadBusy.attempt wr (s.loadSource.hbmAt s.loadSource.stageAt) desks false
      (s.loadSource.checkStaged false)).1.loaderIdle.loadDismissed := by
    unfold State.imageLoad
    extract_lets refused y done t
    rw [if_neg h]
    exact if_neg hm'
  rw [hrun, hsame.hbmAt, hsame.stageAt, hsame.checkStaged]

end Load

/-! ### CACHE -/

/-- The entry that CACHE names is invalid while it is written. -/
def State.entryOpened (s : State) (e : Nat) : State := s.loadSource.setRb Reg.IMG_CACHE e false

theorem entryOpened_spec {e : Nat} (he : e < 32) : (s.entryOpened e).rb Reg.IMG_LOAD_STATUS 0 = s.rb Reg.IMG_LOAD_STATUS 0 ∧
    (s.entryOpened e).rb Reg.IMG_CACHE e = false ∧ SameImage s (s.entryOpened e) :=
  ⟨(rb_setRb_other (by decide)).trans loadSource_spec.1, rb_setRb_self he, loadSource_spec.2.trans (sameImage_setReg (.inr (.inr rfl)))⟩

/-- A verified image is stored in entry `e`. -/
def State.entryStored (s : State) (e : Nat) : State :=
  let h := s.hbmRead s.stageAt 4096
  let s := s.hbmWrite (entryAt e) (s.hbmRead s.stageAt (hdrLength h))
  let s := if hdrKind h = 0 then s.floorAuto (hdrVersion h) else s
  { s with cacheSigner := Tab.put (fun _ => 0) s.cacheSigner e (hdrSigner h + 1) }

/-- Entry `e` is valid, and the report and event 0 say so. -/
def State.entryValid (s : State) (e : Nat) : State := ((s.setRb Reg.IMG_CACHE e true).setRf Reg.IMG_LOAD_STATUS 8 8 0).raise 0 0

section Cache
variable {e : Nat}

theorem imageCache_range (he : s.rf Reg.IMG_LOAD_CMD 4 2 = e) (h : hbmRangeOk s.stageAt s.stageLen = false) :
    s.imageCache = ((s.entryOpened e).loadFail 10 63).loadDismissed := by
  have hlt : e < 32 := he ▸ (fld_lt (n := 2)).trans (by decide)
  have hsame := (entryOpened_spec (s := s) hlt).2.2
  have hr : (!hbmRangeOk (s.entryOpened e).stageAt (s.entryOpened e).stageLen) = true := by
    rw [hsame.stageAt, hsame.stageLen, h]
    rfl
  unfold State.imageCache
  rw [he]
  exact if_pos hr

theorem imageCache_off (he : s.rf Reg.IMG_LOAD_CMD 4 2 = e) (h : hbmRangeOk s.stageAt s.stageLen = true) (hm : s.domOn pdMem = false) :
    s.imageCache = ((s.entryOpened e).loadFail 12 63).loadDismissed := by
  have hlt : e < 32 := he ▸ (fld_lt (n := 2)).trans (by decide)
  have hsame := (entryOpened_spec (s := s) hlt).2.2
  have hr : ¬ ((!hbmRangeOk (s.entryOpened e).stageAt (s.entryOpened e).stageLen) = true) := by
    rw [hsame.stageAt, hsame.stageLen, h]
    exact Bool.false_ne_true
  have hm' : (!(s.entryOpened e).domOn pdMem) = true := by
    rw [hsame.domOn, hm]
    rfl
  unfold State.imageCache
  rw [he]
  exact (if_neg hr).trans (if_pos hm')

/-- CACHE, once the range is right and PD_MEM is on: the checks decide. -/
theorem imageCache_checks (he : s.rf Reg.IMG_LOAD_CMD 4 2 = e) (h : hbmRangeOk s.stageAt s.stageLen = true) (hm : s.domOn pdMem = true) :
    s.imageCache = if (s.checkStaged true).1 ≠ 0 then
      (((s.entryOpened e).countNoKey (s.hbmAt s.stageAt) (s.checkStaged true).1).loadFail (s.checkStaged true).1
        (s.checkStaged true).2).loadDismissed
      else ((s.entryOpened e).entryStored e).entryValid e |>.loadDismissed := by
  have hlt : e < 32 := he ▸ (fld_lt (n := 2)).trans (by decide)
  have hsame := (entryOpened_spec (s := s) hlt).2.2
  have hr : ¬ ((!hbmRangeOk (s.entryOpened e).stageAt (s.entryOpened e).stageLen) = true) := by
    rw [hsame.stageAt, hsame.stageLen, h]
    exact Bool.false_ne_true
  have hm' : ¬ ((!(s.entryOpened e).domOn pdMem) = true) := by
    rw [hsame.domOn, hm]
    exact Bool.false_ne_true
  rw [← hsame.checkStaged, ← hsame.hbmAt, ← hsame.stageAt]
  unfold State.imageCache
  rw [he]
  exact (if_neg hr).trans (if_neg hm')

theorem dropCache_cleared {i : Nat} (he : e < 32) (h : s.rb Reg.IMG_CACHE e = false) : (s.dropCache i).rb Reg.IMG_CACHE e = false := by
  unfold State.dropCache
  refine List.foldlRecOn (motive := fun t : State => t.rb Reg.IMG_CACHE e = false) _ _ h fun t ht k hk => ?_
  split
  · have hk := List.mem_range.1 hk
    rw [State.rb, reg_setRb, if_pos rfl]
    by_cases hek : e = k
    · rw [hek, bit_setBit (by omega)]
    · rw [bit_setBit_ne (by omega) hek]
      exact ht
  · exact ht

/-- A count of a missing key leaves an invalid entry invalid, and HBM3 and the report alone. -/
theorem countNoKey_spec {code : Nat} (he : e < 32) (h : s.rb Reg.IMG_CACHE e = false) :
    (s.countNoKey rd code).rb Reg.IMG_CACHE e = false ∧
    (s.countNoKey rd code).rb Reg.IMG_LOAD_STATUS 0 = s.rb Reg.IMG_LOAD_STATUS 0 ∧ (s.countNoKey rd code).hbm = s.hbm := by
  refine ⟨?_, leaves_countNoKey.rb (by decide) 0, (within_countNoKey _ _ _).hbm rfl⟩
  have ht : ∀ i, (s.tagCheck i).rb Reg.IMG_CACHE e = false := fun i => by
    have hd : ((s.setSlot i { s.slot i with state := 3 }).dropCache i).rb Reg.IMG_CACHE e = false := dropCache_cleared he h
    unfold State.tagCheck
    dsimp only
    split
    · generalize (s.setSlot i { s.slot i with state := 3 }).dropCache i = y at hd
      exact ((((ldr_flagRaise (inLoaderKept_of_le (by decide)) (by decide)).after
        (ldr_bump (inLoaderKept_add (by decide)))).regs).rb (by decide) e).trans hd
    · exact h
  have hk : ∀ i, (s.keyFail i).rb Reg.IMG_CACHE e = false := fun i => by
    unfold State.keyFail
    dsimp only
    split
    · exact ((ldr_keyMiss _).regs.rb (by decide) e).trans (ht i)
    · exact ht i
  unfold State.countNoKey
  split
  · exact hk _
  · exact h

theorem hbmWrite_congr {a : Nat} {bs : List Byte} (h : t.hbm = s.hbm) : (t.hbmWrite a bs).hbm = (s.hbmWrite a bs).hbm := by
  unfold State.hbmWrite
  rw [h]

theorem entryStored_spec : (s.entryStored e).hbm = (s.hbmWrite (entryAt e) (s.hbmRead s.stageAt (hdrLength (s.hbmRead s.stageAt 4096)))).hbm := by
  unfold State.entryStored
  dsimp only
  split
  · exact (within_floorAuto _ _).hbm rfl
  · rfl

theorem entryValid_spec (he : e < 32) : (s.entryValid e).rb Reg.IMG_CACHE e = true ∧ (s.entryValid e).rf Reg.IMG_LOAD_STATUS 8 8 = 0 ∧
    (s.entryValid e).event 0 = true ∧ (s.entryValid e).hbm = s.hbm := by
  have hr : Leaves Quiet ((s.setRb Reg.IMG_CACHE e true).setRf Reg.IMG_LOAD_STATUS 8 8 0) (s.entryValid e) :=
    leaves_raise (fun _ h => h) (by decide)
  refine ⟨?_, ?_, event_raise (by decide), (within_raise _ _ _).hbm rfl⟩
  · rw [hr.rb (by decide), State.rb, reg_setRf, if_neg (by decide)]
    exact rb_setRb_self he
  · rw [hr.rf (by decide), State.rf, reg_setRf, if_pos rfl, fld_setFld (by decide), Nat.zero_mod]

end Cache

/-! ### The commands -/

theorem loadCommand_load {wr : State → Nat → Word → State × Bool} (h : s.rf Reg.IMG_LOAD_CMD 1 2 = 1) :
    s.loadCommand wr desks = s.imageLoad wr desks := by
  unfold State.loadCommand
  split
  · rfl
  next h1 => exact absurd h h1

theorem loadCommand_cache {wr : State → Nat → Word → State × Bool} (h : s.rf Reg.IMG_LOAD_CMD 1 2 = 2) :
    s.loadCommand wr desks = s.imageCache := by
  unfold State.loadCommand
  split
  next h1 => exact absurd (h.symm.trans h1) (by decide)
  · rfl

theorem loadAsked_fields : (s.loadAsked v).rf Reg.IMG_LOAD_CMD 1 2 = fld v 1 2 ∧ (s.loadAsked v).rf Reg.IMG_LOAD_CMD 4 2 = fld v 4 2 := by
  constructor
  · rw [State.rf, loadAsked_cmd, fld_merge (by decide)]
  · rw [State.rf, loadAsked_cmd, fld_merge (by decide)]

theorem exec_imgLoad (h : s.Accepts Reg.IMG_LOAD_CMD v) (hv : bit v 0 = true) (hop : fld v 1 2 = 1) :
    exec (.imgLoad v desks) s = .next ((s.loadAsked v).imageLoad State.bootWrite desks) := by
  refine congrArg Host.Outcome.next ((poke_loadCmd h hv).trans ?_)
  exact loadCommand_load (loadAsked_fields.1.trans hop)

theorem exec_imgCache (h : s.Accepts Reg.IMG_LOAD_CMD v) (hv : bit v 0 = true) (hop : fld v 1 2 = 2) :
    exec (.imgCache v) s = .next (s.loadAsked v).imageCache := by
  refine congrArg Host.Outcome.next ((poke_loadCmd h hv).trans ?_)
  exact loadCommand_cache (loadAsked_fields.1.trans hop)

/-- A LOAD that is refused, from the write of its command on. -/
theorem loadRefused_kept {code : Nat} (hc : code < 256) (hb : s.rb Reg.IMG_LOAD_STATUS 0 = false) (hx : x = s.loadAsked v)
    (ht : t = (x.loadSource.loadFail code 63).loadDismissed) :
    t.LoadEnded code 63 ∧ t.event 1 = true ∧ t.rb Reg.IMG_LOAD_CMD 0 = false ∧
      RegsKept s t [Reg.IMG_LOAD_CMD, Reg.IMG_LOAD_STATUS] ∧ OnlyRegsAndEvents s t := by
  subst hx ht
  have hb' : (s.loadAsked v).loadSource.rb Reg.IMG_LOAD_STATUS 0 = false :=
    (loadSource_spec.1.trans (leaves_loadAsked.rb (by decide) 0)).trans hb
  obtain ⟨hend, he, hgo, hl, hw⟩ := loadRefused_spec (s := (s.loadAsked v).loadSource) hc (by decide : 63 < 64) hb'
  refine ⟨hend, he, hgo, regsKept_iff.2 ?_, Within.onlyRegsAndEvents ?_⟩
  · refine (((leaves_setReg (by simp)).trans (leaves_setRf (by simp)))).trans (hl.mono fun o ho => ⟨ho.1, ?_, ?_⟩)
    · exact fun c => ho.2 (by rw [c]; exact List.mem_cons_self)
    · exact fun c => ho.2 (by rw [c]; exact List.mem_cons_of_mem _ List.mem_cons_self)
  · exact hw.after (by decide) ((within_setRf _ _ _ _ _).after (by decide) (within_loadAsked.mono (by decide)))

theorem loadRuns (h1 : s.rb Reg.IMG_SRC 0 = true) (h2 : s.rb Reg.IMG_LOAD_STATUS 3 = false) (h3 : hbmRangeOk s.stageAt s.stageLen = true)
    (hm : s.domOn pdMem = true) : (s.loadAsked v).imageLoad State.bootWrite desks =
      ((s.loadAsked v).loadBusy.attempt State.bootWrite (s.hbmAt s.stageAt) desks false (s.checkStaged false)).1.loaderIdle.loadDismissed := by
  have hsame := sameImage_loadAsked (s := s) (v := v)
  have hsrc : (s.loadAsked v).rb Reg.IMG_SRC 0 = s.rb Reg.IMG_SRC 0 := hsame.regs.rb (by decide) 0
  have hst : (s.loadAsked v).rb Reg.IMG_LOAD_STATUS 3 = s.rb Reg.IMG_LOAD_STATUS 3 := leaves_loadAsked.rb (by decide) 3
  have hcond := allowed h1 h2 h3
  rw [← hsrc, ← hst, ← hsame.stageAt, ← hsame.stageLen] at hcond
  rw [← hsame.domOn] at hm
  rw [imageLoad_runs hcond hm, hsame.hbmAt, hsame.stageAt, hsame.checkStaged]

/-- A CACHE that ends in an error leaves its entry invalid and HBM3 alone. -/
theorem cacheRefused {e code sec : Nat} (hc : code < 256) (hs : sec < 64) (h0 : x.rb Reg.IMG_LOAD_STATUS 0 = false)
    (hx : x.rb Reg.IMG_CACHE e = false) (hh : x.hbm = s.hbm) (ht : t = (x.loadFail code sec).loadDismissed) :
    t.LoadEnded code sec ∧ t.rb Reg.IMG_CACHE e = false ∧ t.event 1 = true ∧ t.rb Reg.IMG_LOAD_CMD 0 = false ∧ t.hbm = s.hbm := by
  subst ht
  obtain ⟨hend, hev, hgo, hl, hw⟩ := loadRefused_spec hc hs h0
  exact ⟨hend, (hl.rb (by decide) e).trans hx, hev, hgo, (hw.hbm rfl).trans hh⟩

/-- Settles O31: a refused command and a failed check end in the same report; what passes is applied, or stored in its entry. -/
theorem hostLoadsAndCaching : Obligations.HostLoadsAndCaching := by
  unfold Obligations.HostLoadsAndCaching
  intro s v ha hv
  have hb := accepts_loadCmd ha hv
  have hsame := sameImage_loadAsked (s := s) (v := v)
  have hsrc : (s.loadAsked v).rb Reg.IMG_SRC 0 = s.rb Reg.IMG_SRC 0 := hsame.regs.rb (by decide) 0
  have hst : ∀ i, (s.loadAsked v).rb Reg.IMG_LOAD_STATUS i = s.rb Reg.IMG_LOAD_STATUS i := leaves_loadAsked.rb (by decide)
  obtain ⟨o0, oc, oh⟩ := entryOpened_spec (s := s.loadAsked v) (e := fld v 4 2) ((fld_lt (n := 2)).trans (by decide))
  have o0 := o0.trans ((hst 0).trans hb)
  have ohbm := oh.hbm.trans hsame.hbm
  have hchk : hbmRangeOk s.stageAt s.stageLen = true → s.domOn pdMem = true → _ := fun h hm =>
    imageCache_checks (s := s.loadAsked v) loadAsked_fields.2 (by rw [hsame.stageAt, hsame.stageLen, h]) (by rw [hsame.domOn, hm])
  rw [hsame.checkStaged, hsame.hbmAt, hsame.stageAt] at hchk
  refine ⟨fun desks hop => ⟨fun href => ?_, fun h1 h2 h3 => ⟨fun hm => ?_, fun hm => ⟨fun code sec hc h0 => ?_, fun hc u hu hi => ?_⟩⟩⟩,
    fun hop => ⟨fun code h => ?_, fun h hm => ⟨fun code sec hc h0 => ?_, fun hc => ?_⟩⟩⟩
  · rw [← hsrc, ← hst, ← hsame.stageAt, ← hsame.stageLen] at href
    exact ⟨_, (exec_imgLoad ha hv hop).trans (congrArg _ (imageLoad_refused href)), loadRefused_kept (by decide) hb rfl rfl⟩
  · have hcond := allowed h1 h2 h3
    rw [← hsrc, ← hst, ← hsame.stageAt, ← hsame.stageLen] at hcond
    rw [← hsame.domOn] at hm
    exact ⟨_, (exec_imgLoad ha hv hop).trans (congrArg _ (imageLoad_off hcond hm)), loadRefused_kept (by decide) hb rfl rfl⟩
  · have hrun := loadRuns (desks := desks) (v := v) h1 h2 h3 hm
    obtain ⟨hc8, hs6⟩ := checkStaged_lt (s := s) (ok := false)
    rw [hc, attempt_fails (a := (code, sec)) h0] at hrun
    rw [hc] at hc8 hs6
    obtain ⟨hend, he, -, hcls⟩ := attemptFail_idle (s := (s.loadAsked v).loadBusy) (rd := s.hbmAt s.stageAt) (a := (code, sec)) hc8 hs6
    obtain ⟨hgo, hd⟩ := loadDismissed_spec (s := ((s.loadAsked v).loadBusy.attemptFail (s.hbmAt s.stageAt) (code, sec)).loaderIdle)
    have hex := (exec_imgLoad ha hv hop).trans (congrArg Host.Outcome.next hrun)
    refine ⟨_, hex, loadEnded_dismissed hend, event_dismissed (by decide) he, hgo,
      fun c => (hd.rf ?_ 0 2).trans (hcls c)⟩
    unfold Reg.IMG_CLS_STATE Reg.IMG_LOAD_CMD
    omega
  · have hrun := loadRuns (desks := desks) (v := v) h1 h2 h3 hm
    have hu : u = (s.loadAsked v).loadBusy := hu
    have hi : (s.loadAsked v).loadBusy.AppliesImage (s.hbmAt s.stageAt) desks false := by
      rw [← hu]
      rwa [hu, (hsame.trans sameImage_loadBusy).hbmAt, ← hu] at hi
    obtain ⟨y, hy⟩ := attempt_done hc hi
    rw [hy] at hrun
    obtain ⟨hend, h3', hver, -, he, -⟩ := loadDone_idle (s := y) (rd := s.hbmAt s.stageAt) (h := s.hbmAt s.stageAt 0 4096)
    obtain ⟨hgo, hd⟩ := loadDismissed_spec (s := (y.loadDone (s.hbmAt s.stageAt) (s.hbmAt s.stageAt 0 4096)).loaderIdle)
    have hex := (exec_imgLoad ha hv hop).trans (congrArg Host.Outcome.next hrun)
    have hread : s.hbmAt s.stageAt 0 4096 = s.hbmRead s.stageAt 4096 := by rw [State.hbmAt, Nat.add_zero]
    rw [← hread]
    exact ⟨_, hex, loadEnded_dismissed hend, (hd.rb (by decide) 3).trans h3',
      (hd _ (by decide)).trans hver, event_dismissed (by decide) he, hgo⟩
  · obtain ⟨hcode, hrun⟩ : code < 256 ∧
        (s.loadAsked v).imageCache = (((s.loadAsked v).entryOpened (fld v 4 2)).loadFail code 63).loadDismissed := by
      rcases h with ⟨h, rfl⟩ | ⟨h, hm, rfl⟩
      · exact ⟨by decide, imageCache_range loadAsked_fields.2 (by rw [hsame.stageAt, hsame.stageLen, h])⟩
      · exact ⟨by decide, imageCache_off loadAsked_fields.2 (by rw [hsame.stageAt, hsame.stageLen, h]) (by rw [hsame.domOn, hm])⟩
    obtain ⟨hend, hcache, he, hgo, hhbm⟩ := cacheRefused (s := s) (sec := 63) hcode (by decide) o0 oc ohbm rfl
    exact ⟨_, (exec_imgCache ha hv hop).trans (congrArg _ hrun), hend, hcache, he, hgo, hhbm⟩
  · have hrun := hchk h hm
    obtain ⟨hc8, hs6⟩ := checkStaged_lt (s := s) (ok := true)
    rw [hc] at hc8 hs6
    rw [hc, if_pos h0] at hrun
    obtain ⟨kc, k0, kh⟩ := countNoKey_spec (rd := s.hbmAt s.stageAt) (code := code) ((fld_lt (n := 2)).trans (by decide)) oc
    obtain ⟨hend, hcache, he, hgo, hhbm⟩ := cacheRefused (s := s) hc8 hs6 (k0.trans o0) kc (kh.trans ohbm) rfl
    exact ⟨_, (exec_imgCache ha hv hop).trans (congrArg _ hrun), hend, hcache, he, hgo, hhbm⟩
  · have hrun := hchk h hm
    rw [if_neg (not_not.2 hc)] at hrun
    obtain ⟨vc, v8, vev, vh⟩ := entryValid_spec (s := ((s.loadAsked v).entryOpened (fld v 4 2)).entryStored (fld v 4 2))
      (e := fld v 4 2) ((fld_lt (n := 2)).trans (by decide))
    obtain ⟨hgo, hd⟩ := loadDismissed_spec
      (s := (((s.loadAsked v).entryOpened (fld v 4 2)).entryStored (fld v 4 2)).entryValid (fld v 4 2))
    refine ⟨_, (exec_imgCache ha hv hop).trans (congrArg _ hrun), (hd.rb (by decide) _).trans vc, (hd.rf (by decide) 8 8).trans v8,
      event_dismissed (by decide) vev, hgo, ?_⟩
    refine ((within_setRb _ _ _ _).hbm rfl).trans (vh.trans (entryStored_spec.trans ?_))
    rw [oh.hbmRead, oh.hbmRead, oh.stageAt, hsame.hbmRead, hsame.hbmRead, hsame.stageAt]
    exact hbmWrite_congr ohbm

end Sys2Proof.Machine

/-! The Ethernet ports: links, counters, and frames received (R131-R137, R158). -/

namespace Sys2Proof.Machine

-- One declaration after another: side by side, their threads' stacks pass the memory limit of a check.
set_option Elab.async false

variable {s t x : State} {v : Word}

/-! ### Counter pairs -/

theorem bumpPair_reg {lo n o : Nat} (h : o ≠ lo) (h4 : o ≠ lo + 4) : (s.bumpPair lo n).reg o = s.reg o := by
  unfold State.bumpPair
  rw [reg_setReg_ne h4, reg_setReg_ne h]

theorem leaves_bumpPair {lo n : Nat} : Leaves (fun o => o ≠ lo ∧ o ≠ lo + 4) s (s.bumpPair lo n) := fun _ ho => bumpPair_reg ho.1 ho.2

theorem bumpPair_pair {lo n : Nat} : (s.bumpPair lo n).pair lo = (s.pair lo + n) % 2 ^ 64 := by
  have hlo : (s.bumpPair lo n).reg lo = word ((s.pair lo + n) % 2 ^ 64) := by
    unfold State.bumpPair State.pair
    rw [reg_setReg_ne (by omega), reg_setReg_self]
  have hhi : (s.bumpPair lo n).reg (lo + 4) = word (((s.pair lo + n) % 2 ^ 64) >>> 32) := by
    unfold State.bumpPair State.pair
    rw [reg_setReg_self]
  rw [State.pair, hlo, hhi, word, word, BitVec.toNat_ofNat, BitVec.toNat_ofNat, Nat.shiftRight_eq_div_pow]
  omega

theorem pair_congr {lo : Nat} (h : t.reg lo = s.reg lo) (h4 : t.reg (lo + 4) = s.reg (lo + 4)) : t.pair lo = s.pair lo := by
  rw [State.pair, h, h4]
  rfl

theorem Leaves.pair {P : Nat → Prop} (h : Leaves P s t) {lo : Nat} (hlo : P lo) (hhi : P (lo + 4)) : t.pair lo = s.pair lo :=
  pair_congr (h _ hlo) (h _ hhi)

/-! ### The counters of a port -/

section Count
variable {p k n : Nat}

theorem macCount_pair : (s.macCount p k n).pair (Reg.MAC_STAT_LO p k) = (s.pair (Reg.MAC_STAT_LO p k) + n) % 2 ^ 64 := bumpPair_pair

theorem leaves_macCount : Leaves (fun o => o ≠ Reg.MAC_STAT_LO p k ∧ o ≠ Reg.MAC_STAT_LO p k + 4) s (s.macCount p k n) := leaves_bumpPair

theorem macCount_other {j : Nat} (h : j ≠ k) : (s.macCount p k n).pair (Reg.MAC_STAT_LO p j) = s.pair (Reg.MAC_STAT_LO p j) := by
  refine leaves_macCount.pair ?_ ?_
  · unfold Reg.MAC_STAT_LO
    omega
  · unfold Reg.MAC_STAT_LO
    omega

theorem within_macCount' : Within 0x8 s (s.macCount p k n) := within_bumpPair _ _ _

end Count

/-! ### Links -/

/-- The other bits of the register in which an event's flag stands. -/
theorem flagRaise_bit {o i j e inst : Nat} (h : Quiet o) (hi : i < 32) (hj : j ≠ i) (he : e < 64) :
    (s.flagRaise o i e inst).rb o j = s.rb o j := by
  rw [State.flagRaise, State.rb, raise_reg he h, reg_setRb, if_pos rfl, bit_setBit_ne hi hj]
  rfl

section Link
variable {p : Nat} {block fec : Bool}

/-- The locks that the port shows, LINK among them. -/
def State.locksShown (s : State) (p : Nat) (b f link : Bool) : State :=
  ((s.setRb (Reg.MAC_STATUS p) 1 b).setRb (Reg.MAC_STATUS p) 2 f).setRb (Reg.MAC_STATUS p) 0 link

theorem leaves_locksShown {b f link : Bool} : Leaves (· ≠ Reg.MAC_STATUS p) s (s.locksShown p b f link) :=
  ((leaves_setRb (by simp)).trans (leaves_setRb (by simp))).trans (leaves_setRb (by simp))

theorem locksShown_link {b f link : Bool} : (s.locksShown p b f link).macLink p = link := rb_setRb_self (by decide)

/-- What the PCS's locks make of LINK. -/
def State.linkOf (s : State) (p : Nat) (block fec : Bool) : Bool :=
  s.macEn p && block && (decide (s.rf (Reg.MAC_CTRL p) 2 2 = 0) || fec)

theorem macLocks_eq : ∃ b f, s.macLocks p block fec = if s.linkOf p block fec != s.macLink p then
    (s.locksShown p b f (s.linkOf p block fec)).flagRaise (Reg.MAC_STATUS p) 8 18 p else s.locksShown p b f (s.linkOf p block fec) := by
  have hl : (s.macEn p && block && (!decide (s.rf (Reg.MAC_CTRL p) 2 2 ≠ 0) || (s.macEn p && decide (s.rf (Reg.MAC_CTRL p) 2 2 ≠ 0) && fec))) =
      s.linkOf p block fec := by
    unfold State.linkOf
    by_cases h0 : s.rf (Reg.MAC_CTRL p) 2 2 = 0
    · simp [h0]
    · cases s.macEn p
      · rfl
      · simp [h0]
  unfold State.macLocks
  dsimp only
  rw [hl]
  exact ⟨_, _, rfl⟩

theorem quiet_macStatus (hp : p < 4) : Quiet (Reg.MAC_STATUS p) := by
  unfold Quiet Reg.MAC_STATUS
  omega

theorem macLocks_spec (hp : p < 4) (ht : t = s.macLocks p block fec) : t.macLink p = s.linkOf p block fec ∧
    (t.macLink p ≠ s.macLink p → t.event 18 = true ∧ t.rb (Reg.MAC_STATUS p) 8 = true) ∧
    (t.macLink p = s.macLink p → Leaves (· ≠ Reg.MAC_STATUS p) s t) ∧
    Leaves (fun o => Quiet o ∧ o ≠ Reg.MAC_STATUS p) s t := by
  obtain ⟨b, f, he⟩ := macLocks_eq (s := s) (p := p) (block := block) (fec := fec)
  have hs := leaves_locksShown (s := s) (p := p) (b := b) (f := f) (link := s.linkOf p block fec)
  have hk := locksShown_link (s := s) (p := p) (b := b) (f := f) (link := s.linkOf p block fec)
  rw [he] at ht
  generalize s.locksShown p b f (s.linkOf p block fec) = y at ht hs hk
  by_cases hc : s.linkOf p block fec = s.macLink p
  · rw [hc, bne_self_eq_false, if_neg Bool.false_ne_true] at ht
    subst ht
    exact ⟨hk, fun c => absurd (hk.trans hc) c, fun _ => hs, hs.mono fun _ h => h.2⟩
  · rw [if_pos (bne_iff_ne.2 hc)] at ht
    have hq := quiet_macStatus hp
    have hlink : t.macLink p = s.linkOf p block fec := by
      rw [ht]
      exact (flagRaise_bit hq (by decide) (by decide) (by decide)).trans hk
    refine ⟨hlink, fun _ => ?_, fun c => absurd (hlink.symm.trans c) hc, ?_⟩
    · rw [ht]
      exact ⟨event_flagRaise (by decide), flagRaise_flag hq (by decide) (by decide)⟩
    · rw [ht]
      exact (hs.mono fun _ h => h.2).trans (leaves_flagRaise (fun _ h => h.1) (by simp) (by decide))

/-- The codewords that the FEC reports are counted while it is on. -/
def State.fecCounted (s : State) (p corr uncorr : Nat) : State :=
  if s.macEn p && decide (s.rf (Reg.MAC_CTRL p) 2 2 ≠ 0) then (s.macCount p fecCorr corr).macCount p fecUncorr uncorr else s

theorem macLinkChange_eq {corr uncorr : Nat} (hd : s.domOn (portDomain p) = true) :
    s.macLinkChange p block fec corr uncorr = (s.fecCounted p corr uncorr).macLocks p block fec := if_pos hd

theorem leaves_fecCounted {corr uncorr : Nat} : Leaves (fun o => o ≠ Reg.MAC_STAT_LO p fecCorr ∧ o ≠ Reg.MAC_STAT_LO p fecCorr + 4 ∧
    o ≠ Reg.MAC_STAT_LO p fecUncorr ∧ o ≠ Reg.MAC_STAT_LO p fecUncorr + 4) s (s.fecCounted p corr uncorr) := by
  unfold State.fecCounted
  split
  · exact (leaves_macCount.mono fun _ h => ⟨h.1, h.2.1⟩).trans (leaves_macCount.mono fun _ h => h.2.2)
  · exact .refl s

theorem within_fecCounted {corr uncorr : Nat} : Within 0x8 s (s.fecCounted p corr uncorr) := by
  unfold State.fecCounted
  split
  · exact within_macCount'.after (by decide) within_macCount'
  · exact .refl s

theorem fecCounted_pairs {corr uncorr : Nat} (he : s.macEn p = true) (hf : s.rf (Reg.MAC_CTRL p) 2 2 ≠ 0) :
    (s.fecCounted p corr uncorr).pair (Reg.MAC_STAT_LO p fecCorr) = (s.pair (Reg.MAC_STAT_LO p fecCorr) + corr) % 2 ^ 64 ∧
    (s.fecCounted p corr uncorr).pair (Reg.MAC_STAT_LO p fecUncorr) = (s.pair (Reg.MAC_STAT_LO p fecUncorr) + uncorr) % 2 ^ 64 := by
  unfold State.fecCounted
  rw [he, if_pos (by rw [Bool.true_and]; exact decide_eq_true hf)]
  exact ⟨(macCount_other (by decide)).trans macCount_pair, macCount_pair.trans (by rw [macCount_other (by decide)])⟩

theorem linkOf_congr (h : t.reg (Reg.MAC_CTRL p) = s.reg (Reg.MAC_CTRL p)) : t.linkOf p block fec = s.linkOf p block fec := by
  rw [State.linkOf, State.macEn, State.rb, State.rf, h]
  rfl

end Link

/-! ### MAC_CTRL -/

theorem macCtrlRow (p : Fin 4) : regRow (Reg.MAC_CTRL p) =
    some ⟨0x60000, 0x10000, 4, 0x4, 1, 0x80, 0x3FF, 0x0, 0x0, 0x3F1, .single, none⟩ := by
  revert p
  decide

theorem unitHook_port {wr : State → Nat → Word → State × Bool} {e : Env} {old : Word} (p : Fin 4) :
    t.unitHook s wr e (Reg.MAC_CTRL p) old v = t.macHook (Reg.MAC_CTRL p) v := by
  have hp : Reg.MAC_CTRL p / 0x10000 = 6 + p := by
    unfold Reg.MAC_CTRL
    omega
  match p with
  | ⟨0, _⟩ => exact unitHook_mac0 hp
  | ⟨1, _⟩ => exact unitHook_mac1 hp
  | ⟨2, _⟩ => exact unitHook_mac2 hp
  | ⟨3, _⟩ => exact unitHook_mac3 hp

theorem viewOf_mac (p : Fin 4) : viewOf (Reg.MAC_CTRL p) = 0 := by
  revert p
  decide

theorem macHook_ctrl (p : Fin 4) : t.macHook (Reg.MAC_CTRL p) v = if !bit v 0 then t.macLocks p false false else t := by
  have h0 : Reg.MAC_CTRL p % 0x10000 = 0 := by
    unfold Reg.MAC_CTRL
    omega
  have hp : Reg.MAC_CTRL p / 0x10000 - 6 = p := by
    unfold Reg.MAC_CTRL
    omega
  rw [State.macHook, h0, hp, decide_eq_true rfl, Bool.true_and]

theorem poke_macCtrl (p : Fin 4) (h : s.Accepts (Reg.MAC_CTRL p) v) : s.poke (Reg.MAC_CTRL p) v {} =
    (fun y : State => if !bit v 0 then y.macLocks p false false else y)
      (s.setReg (Reg.MAC_CTRL p) (merge 0x3FF v (s.reg (Reg.MAC_CTRL p)))) := by
  rw [h.poke_plain (viewOf_mac p) (macCtrlRow p) rfl rfl, unitHook_port, macHook_ctrl]

theorem within_macLocks' (p : Nat) (b f : Bool) : Within 0x1C6C8 s (s.macLocks p b f) := within_macLocks s p b f

/-- Settles O34: a change of the locks, and a write that takes EN away, lead to the same judgement of LINK; the FEC's counts come before. -/
theorem portLinkAndControl : Obligations.PortLinkAndControl := by
  unfold Obligations.PortLinkAndControl
  refine fun s p => ⟨fun block fec corr uncorr kept hd hkept => ?_, fun v h => ?_⟩
  · have hp := p.isLt
    obtain ⟨u, hu⟩ : ∃ u, u = s.fecCounted p corr uncorr := ⟨_, rfl⟩
    have hw : Within 0x8 s u := hu ▸ within_fecCounted
    have hl := hu ▸ leaves_fecCounted (s := s) (p := p) (corr := corr) (uncorr := uncorr)
    have hcounts := fun he hf => hu ▸ fecCounted_pairs (s := s) (p := p) (corr := corr) (uncorr := uncorr) he hf
    have hctrl : u.reg (Reg.MAC_CTRL p) = s.reg (Reg.MAC_CTRL p) := hl _ (by unfold Reg.MAC_CTRL Reg.MAC_STAT_LO; omega)
    have hwas : u.macLink p = s.macLink p := hl.rb (by unfold Reg.MAC_STATUS Reg.MAC_STAT_LO; omega) 0
    obtain ⟨t, ht⟩ : ∃ t, t = u.macLocks p block fec := ⟨_, rfl⟩
    obtain ⟨hlink, hev, hsame, hquiet⟩ := macLocks_spec hp ht
    rw [linkOf_congr hctrl] at hlink
    rw [hwas] at hev hsame
    have hfec : ∀ k, k < 13 → t.pair (Reg.MAC_STAT_LO p k) = u.pair (Reg.MAC_STAT_LO p k) := fun k hk => by
      refine hquiet.pair ?_ ?_
      · unfold Quiet Reg.MAC_STAT_LO Reg.MAC_STATUS
        omega
      · unfold Quiet Reg.MAC_STAT_LO Reg.MAC_STATUS
        omega
    have hbut : ∀ o, o ∉ kept → o ≠ Reg.MAC_STATUS p ∧ o ≠ Reg.MAC_STAT_LO p fecCorr ∧ o ≠ Reg.MAC_STAT_LO p fecCorr + 4 ∧
        o ≠ Reg.MAC_STAT_LO p fecUncorr ∧ o ≠ Reg.MAC_STAT_LO p fecUncorr + 4 := fun o ho => by
      rw [hkept] at ho
      simpa only [List.mem_cons, List.not_mem_nil, or_false, not_or] using ho
    refine ⟨t, ?_, hlink, hev, fun he hf => ?_, fun hc => ?_, ?_, ?_⟩
    · rw [ht, hu, ← macLinkChange_eq hd]
      rfl
    · obtain ⟨h1, h2⟩ := hcounts he hf
      exact ⟨(hfec _ (by decide)).trans h1, (hfec _ (by decide)).trans h2⟩
    · exact (hl.mono fun o ho => (hbut o ho).2).trans ((hsame hc).mono fun o ho => (hbut o ho).1)
    · exact regsKept_iff.2 ((hl.mono fun o ho => (hbut o ho.2).2).trans (hquiet.mono fun o ho => ⟨ho.1, (hbut o ho.2).1⟩))
    · exact Within.onlyRegsAndEvents ((ht ▸ within_macLocks' (s := u) p block fec).after (by decide) (hw.mono (by decide)))
  · have hp := p.isLt
    obtain ⟨u, hu⟩ : ∃ u, u = s.setReg (Reg.MAC_CTRL p) (merge 0x3FF v (s.reg (Reg.MAC_CTRL p))) := ⟨_, rfl⟩
    have hreg : u.reg (Reg.MAC_CTRL p) = merge 0x3FF v (s.reg (Reg.MAC_CTRL p)) := hu ▸ reg_setReg_self
    have hl : Leaves (· ≠ Reg.MAC_CTRL p) s u := hu ▸ leaves_setReg (by simp)
    have hwas : u.macLink p = s.macLink p := hl.rb (by unfold Reg.MAC_STATUS Reg.MAC_CTRL; omega) 0
    have hw : Within 0x1C6C8 s u := hu ▸ (within_setReg s _ _).mono (by decide)
    obtain ⟨t, ht⟩ : ∃ t, t = if !bit v 0 then u.macLocks p false false else u := ⟨_, rfl⟩
    have hx : exec (.macCtrlWrite p v) s = .next t := by
      rw [ht, hu]
      exact congrArg Host.Outcome.next (poke_macCtrl p h)
    have hq : Quiet (Reg.MAC_CTRL p) ∧ Reg.MAC_CTRL p ≠ Reg.MAC_STATUS p := by
      unfold Quiet Reg.MAC_CTRL Reg.MAC_STATUS
      omega
    cases hb : bit v 0 with
    | true =>
      rw [hb] at ht
      have ht : t = u := ht
      subst ht
      refine ⟨t, hx, ?_, ?_, fun c => absurd c Bool.true_eq_false.mp, ?_, hw.onlyRegsAndEvents⟩
      · rw [State.macEn, State.rb, hreg, bit_merge, if_pos (by decide), hb]
      · rw [State.rf, hreg, fld_merge (by decide)]
      · exact regsKept_iff.2 (hl.mono fun o ho c => ho.2 (by rw [c]; exact List.mem_cons_self))
    | false =>
      rw [hb] at ht
      have ht : t = u.macLocks p false false := ht
      obtain ⟨hlink, hev, -, hquiet⟩ := macLocks_spec hp ht
      have hoff : u.linkOf p false false = false := by rw [State.linkOf, Bool.and_false, Bool.false_and]
      rw [hwas] at hev
      refine ⟨t, hx, ?_, ?_, fun _ => ⟨hlink.trans hoff, fun hon => hev ?_⟩, ?_, ?_⟩
      · rw [State.macEn, State.rb, hquiet _ hq, hreg, bit_merge, if_pos (by decide), hb]
      · rw [State.rf, hquiet _ hq, hreg, fld_merge (by decide)]
      · rw [hlink, hoff, hon]
        exact Bool.false_ne_true
      · refine regsKept_iff.2 ((hl.mono fun o ho c => ho.2 (by rw [c]; exact List.mem_cons_self)).trans (hquiet.mono fun o ho => ⟨ho.1, ?_⟩))
        exact fun c => ho.2 (by rw [c]; exact List.mem_cons_of_mem _ List.mem_cons_self)
      · exact Within.onlyRegsAndEvents ((ht ▸ within_macLocks' (s := u) p false false).after (by decide) hw)

/-! ### Frames received -/

section Receive
variable {p ph : Nat} {f sum : List Byte} {pcsErr full : Bool}

/-- A frame that the filter passes and the buffer holds, as the MAC counts it. -/
def State.rxCounted (s : State) (p n : Nat) : State := (s.macCount p rxFrames 1).macCount p rxOctets n

/-- What the MAC passes on. -/
def State.rxFrame (s : State) (p : Nat) (f : List Byte) (ph : Nat) : RxFrame :=
  { octets := f, port := p, stamp := (s.ingressStamp p f ph).1, tb := (s.ingressStamp p f ph).2, rct := false, ring := 6 + p }

/-- A frame that the filter passes and the buffer holds. -/
def State.rxGood (s : State) (p : Nat) (f : List Byte) (ph : Nat) : State :=
  if (s.rxCounted p (f.length + 4)).prpEn p then (s.rxCounted p (f.length + 4)).prpReceive (s.rxFrame p f ph)
  else (s.rxCounted p (f.length + 4)).rxPass (s.rxFrame p f ph)

/-- A frame at a port that receives, its FCS apart. -/
theorem frameReceive_eq (hs : sum.length = 4) (hd : s.domOn (portDomain p) = true) (he : s.macEn p = true)
    (hr : s.rb (Reg.MAC_CTRL p) 4 = true) (hl : s.macLink p = true) : s.frameReceive p (f ++ sum) pcsErr ph full =
      if pcsErr || decide (sum ≠ fcs f) then s.macCount p rxFcsErr 1
      else if f.length < 60 || s.macMaxLen p < f.length + 4 then s.macCount p rxLenErr 1
      else if (etherType f).1 = 0x8808 then s.macCount p rxCtrl 1
      else if !s.macAccepts p (f.take 6) then s.macCount p rxFiltered 1
      else if full || rxBufferSize < s.rxHeld p + (f.length + 4) then (s.macCount p rxDrop 1).flagRaise (Reg.MAC_STATUS p) 9 19 p
      else s.rxGood p f ph := by
  have hlen : (f ++ sum).length = f.length + 4 := by rw [List.length_append, hs]
  have htake : (f ++ sum).take f.length = f := List.take_left
  have hdrop : (f ++ sum).drop f.length = sum := List.drop_left
  have h4 : decide (f.length + 4 < 4) = false := decide_eq_false (by omega)
  have h64 : decide (f.length + 4 < 64) = decide (f.length < 60) := decide_eq_decide.2 (by omega)
  unfold State.frameReceive State.rxGood State.rxCounted State.rxFrame
  rw [hd, he, hr, hl, if_neg (by decide)]
  dsimp only
  rw [hlen, Nat.add_sub_cancel, htake, hdrop, h4, h64, Bool.or_false]

theorem macCount_only {k n : Nat} : (s.macCount p k n).pair (Reg.MAC_STAT_LO p k) = (s.pair (Reg.MAC_STAT_LO p k) + n) % 2 ^ 64 ∧
    AllRegsKept s (s.macCount p k n) [Reg.MAC_STAT_LO p k, Reg.MAC_STAT_LO p k + 4] ∧ OnlyRegs s (s.macCount p k n) := by
  refine ⟨macCount_pair, leaves_macCount.mono fun o ho => ?_, within_macCount'.onlyRegs⟩
  simpa only [List.mem_cons, List.not_mem_nil, or_false, not_or] using ho

theorem rxPass_waits {x : RxFrame} (hd : s.domOn pdRcl = true) (hc : s.rb Reg.ITK_CTRL 0 = true) :
    s.rxPass x = s.setRx x.port (s.rxOf x.port ++ [x]) := by
  unfold State.rxPass
  rw [hd, hc]
  exact if_pos rfl

theorem rxOf_setRx {q : List RxFrame} : (s.setRx p q).rxOf p = q := Tab.get_put_self

theorem rxCounted_spec {n : Nat} (ht : t = s.rxCounted p n) :
    t.pair (Reg.MAC_STAT_LO p rxFrames) = (s.pair (Reg.MAC_STAT_LO p rxFrames) + 1) % 2 ^ 64 ∧
    t.pair (Reg.MAC_STAT_LO p rxOctets) = (s.pair (Reg.MAC_STAT_LO p rxOctets) + n) % 2 ^ 64 ∧
    Leaves (fun o => ¬ (Reg.MAC_STAT_LO p 0 ≤ o ∧ o < Reg.MAC_STAT_LO p 2)) s t ∧ t.rxq = s.rxq := by
  subst ht
  refine ⟨(macCount_other (by decide)).trans macCount_pair, macCount_pair.trans ?_, ?_,
    (within_macCount'.rxq rfl).trans (within_macCount'.rxq rfl)⟩
  · rw [macCount_other (by decide)]
  · refine (leaves_macCount.mono fun o ho => ?_).trans (leaves_macCount.mono fun o ho => ?_)
    · unfold Reg.MAC_STAT_LO at *
      unfold rxFrames
      omega
    · unfold Reg.MAC_STAT_LO at *
      unfold rxOctets
      omega

theorem setRx_pair {q : List RxFrame} {lo : Nat} : (s.setRx p q).pair lo = s.pair lo := pair_congr rfl rfl

/-- The frame passes on, or waits, once it has been counted. -/
theorem rxGood_eq : s.rxGood p f ph = (fun u : State => if u.prpEn p then u.prpReceive (s.rxFrame p f ph) else u.rxPass (s.rxFrame p f ph))
    (s.rxCounted p (f.length + 4)) := by
  unfold State.rxGood
  dsimp only

theorem rxGood_waits (hp : p < 4) (he : s.prpEn p = false) (hd : s.domOn pdRcl = true) (hc : s.rb Reg.ITK_CTRL 0 = true) :
    s.rxGood p f ph = (s.rxCounted p (f.length + 4)).setRx p (s.rxOf p ++ [s.rxFrame p f ph]) := by
  obtain ⟨-, -, hl, hq⟩ := rxCounted_spec (s := s) (p := p) (n := f.length + 4) rfl
  rw [rxGood_eq]
  generalize s.rxCounted p (f.length + 4) = u at hl hq ⊢
  have hprp : u.prpEn p = false := (hl.rb (by unfold Reg.MAC_STAT_LO Reg.PRP_CTRL; omega) 0).trans he
  have hdom : u.domOn pdRcl = true := (domOn_congr (hl _ (by unfold Reg.MAC_STAT_LO Reg.PWR_DOMAIN_STATUS; omega))).trans hd
  have hitk : u.rb Reg.ITK_CTRL 0 = true := (hl.rb (by unfold Reg.MAC_STAT_LO Reg.ITK_CTRL; omega) 0).trans hc
  have hrx : u.rxOf p = s.rxOf p := by rw [State.rxOf, hq]; rfl
  have hport : (s.rxFrame p f ph).port = p := rfl
  generalize s.rxFrame p f ph = x at hport ⊢
  dsimp only
  rw [hprp, if_neg Bool.false_ne_true, rxPass_waits hdom hitk, hport, hrx]

theorem rxGood_spec (hp : p < 4) (he : s.prpEn p = false) (hd : s.domOn pdRcl = true) (hc : s.rb Reg.ITK_CTRL 0 = true) :
    (s.rxGood p f ph).rxOf p = s.rxOf p ++ [s.rxFrame p f ph] ∧
    (s.rxGood p f ph).pair (Reg.MAC_STAT_LO p rxFrames) = (s.pair (Reg.MAC_STAT_LO p rxFrames) + 1) % 2 ^ 64 ∧
    (s.rxGood p f ph).pair (Reg.MAC_STAT_LO p rxOctets) = (s.pair (Reg.MAC_STAT_LO p rxOctets) + f.length + 4) % 2 ^ 64 := by
  obtain ⟨hframes, hoctets, -⟩ := rxCounted_spec (s := s) (p := p) (n := f.length + 4) rfl
  rw [← Nat.add_assoc] at hoctets
  rw [rxGood_waits hp he hd hc]
  exact ⟨rxOf_setRx, setRx_pair.trans hframes, setRx_pair.trans hoctets⟩

end Receive

/-- Settles O35: the checks of a frame in their order, each with its counter. -/
theorem frameReception : Obligations.FrameReception := by
  unfold Obligations.FrameReception
  intro s p f sum pcsErr full ph hs hd he hr hl
  have hx := fun t h => (congrArg Host.Outcome.next ((frameReceive_eq (pcsErr := pcsErr) (full := full) (ph := ph) hs hd he hr hl).trans h) :
    exec (.frameReceive p (f ++ sum) pcsErr ph full) s = .next t)
  refine ⟨fun h => ⟨_, hx _ (if_pos ?_), macCount_only⟩, fun hpcs hfcs => ?_⟩
  · rw [Bool.or_eq_true, decide_eq_true_eq]
    exact h
  · have hc1 : ¬ ((pcsErr || decide (sum ≠ fcs f)) = true) := by
      rw [hpcs, hfcs]
      simp
    refine ⟨fun h => ⟨_, hx _ ((if_neg hc1).trans (if_pos ?_)), macCount_only⟩, fun k h1 h2 hk => ?_, fun h1 h2 h3 h4 => ?_⟩
    · rw [Bool.or_eq_true, decide_eq_true_eq, decide_eq_true_eq]
      exact h
    · have hc2 : ¬ ((decide (f.length < 60) || decide (s.macMaxLen p < f.length + 4)) = true) := by
        rw [Bool.or_eq_true, decide_eq_true_eq, decide_eq_true_eq]
        omega
      rcases hk with ⟨hctl, rfl⟩ | ⟨hctl, hacc, rfl⟩
      · exact ⟨_, hx _ ((if_neg hc1).trans ((if_neg hc2).trans (if_pos hctl))), macCount_only⟩
      · refine ⟨_, hx _ ((if_neg hc1).trans ((if_neg hc2).trans ((if_neg hctl).trans (if_pos ?_)))), macCount_only⟩
        rw [hacc]
        rfl
    · have hc2 : ¬ ((decide (f.length < 60) || decide (s.macMaxLen p < f.length + 4)) = true) := by
        rw [Bool.or_eq_true, decide_eq_true_eq, decide_eq_true_eq]
        omega
      have hc4 : ¬ ((!s.macAccepts p (f.take 6)) = true) := by
        rw [h4]
        exact Bool.false_ne_true
      refine ⟨fun hfull hfit hprp hrcl hitk => ?_, fun hfull => ?_⟩
      · have hc5 : ¬ ((full || decide (rxBufferSize < s.rxHeld p + (f.length + 4))) = true) := by
          rw [hfull, Bool.false_or, decide_eq_true_eq]
          omega
        exact ⟨_, hx _ ((if_neg hc1).trans ((if_neg hc2).trans ((if_neg h3).trans ((if_neg hc4).trans (if_neg hc5))))),
          rxGood_spec p.isLt hprp hrcl hitk⟩
      · have hc5 : (full || decide (rxBufferSize < s.rxHeld p + (f.length + 4))) = true := by
          rw [hfull]
          exact Bool.true_or _
        refine ⟨_, hx _ ((if_neg hc1).trans ((if_neg hc2).trans ((if_neg h3).trans ((if_neg hc4).trans (if_pos hc5))))), ?_,
          event_flagRaise (by decide), ((within_flagRaise _ _ _ _ _).rxq rfl).trans (within_macCount'.rxq rfl)⟩
        have hp := p.isLt
        have hl : Leaves (fun o => Quiet o ∧ o ≠ Reg.MAC_STATUS p) (s.macCount p rxDrop 1)
            ((s.macCount p rxDrop 1).flagRaise (Reg.MAC_STATUS p) 9 19 p) := leaves_flagRaise (fun _ h => h.1) (by simp) (by decide)
        refine (hl.pair ?_ ?_).trans macCount_pair
        · unfold Quiet Reg.MAC_STAT_LO Reg.MAC_STATUS rxDrop
          omega
        · unfold Quiet Reg.MAC_STAT_LO Reg.MAC_STATUS rxDrop
          omega

end Sys2Proof.Machine

/-! Transmission at the Ethernet ports and parallel redundancy (R138-R142, R151-R156, R262). -/

namespace Sys2Proof.Machine

-- One declaration after another: side by side, their threads' stacks pass the memory limit of a check.
set_option Elab.async false

variable {s t u : State} {p ph : Nat} {f : List Byte} {x : TxFrame}

/-! ### What the state of a port reads after the operations of a transmission -/

theorem txOf_setTx {q : List TxFrame} : (s.setTx p q).txOf p = q := Tab.get_put_self
theorem txOf_setTx_ne {q : List TxFrame} {k : Nat} (h : k ≠ p) : (s.setTx p q).txOf k = s.txOf k := Tab.get_put_ne h
theorem txOf_congr (h : t.txq = s.txq) : t.txOf p = s.txOf p := by
  rw [State.txOf, h]
  rfl

theorem setTx_pair {q : List TxFrame} {lo : Nat} : (s.setTx p q).pair lo = s.pair lo := pair_congr rfl rfl
theorem leaves_setTx {P : Nat → Prop} {q : List TxFrame} : Leaves P s (s.setTx p q) := .of_regs rfl
theorem leaves_txOf {k : Nat} : Leaves (· ≠ Reg.PRP_CNT p k) s (s.bump (Reg.PRP_CNT p k)) := leaves_setReg (by simp)

theorem emit_out {o : Output} (hb : s.boundary = false) : (s.emit o).out = o :: s.out := by
  rw [emit_eq, hb, Bool.false_and]
  rfl

/-- A register outside the MAC unit of port `p`. -/
abbrev OffPort (p o : Nat) : Prop := o / 0x10000 ≠ 6 + p

theorem leaves_macCount_off {k n : Nat} (hk : k < 13) : Leaves (OffPort p) s (s.macCount p k n) := by
  refine leaves_macCount.mono fun o ho => ?_
  unfold OffPort at ho
  unfold Reg.MAC_STAT_LO
  omega

section Send
variable (hb : s.boundary = false) (hcfg : s.rb (Reg.TBP_CFG p) 8 = false)

/-- The counts of a frame that is sent. -/
def State.txCounted (s : State) (p n : Nat) : State := (s.macCount p txFrames 1).macCount p txOctets n

theorem leaves_txCounted {n : Nat} : Leaves (OffPort p) s (s.txCounted p n) :=
  (leaves_macCount_off (by decide)).trans (leaves_macCount_off (by decide))

theorem txCounted_spec {n : Nat} : (s.txCounted p n).pair (Reg.MAC_STAT_LO p txFrames) = (s.pair (Reg.MAC_STAT_LO p txFrames) + 1) % 2 ^ 64 ∧
    Within 0x8 s (s.txCounted p n) :=
  ⟨(macCount_other (by decide)).trans macCount_pair, within_macCount'.after (by decide) within_macCount'⟩

include hcfg in
theorem txSend_eq : s.txSend p f ph = ((s.txCounted p ((padFrame f).length + 4)).emit (.frame p (padFrame f ++ fcs (padFrame f))),
    s.egressStamp p (padFrame f) ph) := by
  unfold State.txSend State.txCounted
  dsimp only
  rw [hcfg, if_neg Bool.false_ne_true]

theorem boundary_of_leaves {P : Nat → Prop} (h : Leaves P s t) (hP : ∀ o, 0x1A0000 ≤ o → P o) : t.boundary = s.boundary :=
  boundary_congr fun o ho => h o (hP o ho)

include hb hcfg in
/-- A frame leaves with its FCS, and is counted. -/
theorem txSend_spec (hp : p < 4) (hu : u = (s.txSend p f ph).1) :
    u.out = .frame p (padFrame f ++ fcs (padFrame f)) :: s.out ∧
    u.pair (Reg.MAC_STAT_LO p txFrames) = (s.pair (Reg.MAC_STAT_LO p txFrames) + 1) % 2 ^ 64 ∧
    Leaves (OffPort p) s u ∧ Within 0x88 s u := by
  have hw : Within 0x88 s u := hu ▸ within_txSend s p f ph
  rw [txSend_eq hcfg] at hu
  have hl := leaves_txCounted (s := s) (p := p) (n := (padFrame f).length + 4)
  obtain ⟨hpair, hc⟩ := txCounted_spec (s := s) (p := p) (n := (padFrame f).length + 4)
  have hout := hc.out rfl
  generalize s.txCounted p ((padFrame f).length + 4) = y at hu hl hpair hout
  dsimp only at hu
  subst hu
  have hby : y.boundary = false := (boundary_of_leaves hl fun o ho => by unfold OffPort; omega).trans hb
  refine ⟨(emit_out hby).trans (by rw [hout]), ?_, hl.trans fun o _ => emit_reg, hw⟩
  exact (pair_congr emit_reg emit_reg).trans hpair

end Send

/-! ### Frames that wait -/

theorem macTransmit_first (hd : s.domOn (portDomain p) = true) (hx : (s.txOf p).find? (fun y => y.source = 0) = some x) :
    s.macTransmit p ph = s.txQueued p x ph := by
  unfold State.macTransmit
  rw [hd, if_neg (by decide)]
  dsimp only
  rw [hx]

/-- The frame leaves the queue. -/
def State.txTaken (s : State) (p : Nat) (x : TxFrame) : State := s.setTx p ((s.txOf p).erase x)

theorem txQueued_copy (hc : x.copy = true) :
    s.txQueued p x ph = if (s.txTaken p x).txReady p then (s.txTaken p x).txCopy p x ph else (s.txTaken p x).txLost p x.source := by
  unfold State.txQueued State.txTaken
  dsimp only
  rw [hc]
  exact if_pos rfl

theorem txQueued_single (hc : x.copy = false) (hd : (s.txTaken p x).prpDoubles p x.octets false = false) :
    s.txQueued p x ph = if !(s.txTaken p x).txFits p x.octets false then (s.txTaken p x).txLost p x.source
      else if (s.txTaken p x).txReady p then ((s.txTaken p x).txSend p x.octets ph).1 else (s.txTaken p x).txLost p x.source := by
  unfold State.txTaken at hd
  unfold State.txQueued State.txTaken
  dsimp only
  rw [hc, hd, if_neg Bool.false_ne_true, if_neg (c := false = true) Bool.false_ne_true]

theorem txQueued_double (hc : x.copy = false) (hd : (s.txTaken p x).prpDoubles p x.octets false = true)
    (hf : (s.txTaken p x).txFits p x.octets true = true) (hr : (s.txTaken p x).txReady p = true) :
    s.txQueued p x ph = ((s.txTaken p x).prpSend p x.source false x.octets ph).1 := by
  unfold State.txTaken at hd hf hr
  unfold State.txQueued State.txTaken
  dsimp only
  rw [hc, hd, hf, hr, if_neg Bool.false_ne_true, if_neg (by decide), if_pos rfl, Bool.not_true, Bool.and_false, Bool.false_and]
  exact if_neg Bool.false_ne_true

theorem txTaken_out : (s.txTaken p x).out = s.out := rfl
theorem txTaken_txOf : (s.txTaken p x).txOf p = (s.txOf p).erase x := txOf_setTx

/-- A queued frame leaves: its counts, and for a copy that of LAN B. -/
theorem txCopy_spec (hb : s.boundary = false) (hcfg : s.rb (Reg.TBP_CFG p) 8 = false) (hp : p < 4) (hu : u = s.txCopy p x ph) :
    u.txOf p = s.txOf p ∧ u.out = .frame p (padFrame x.octets ++ fcs (padFrame x.octets)) :: s.out ∧
    u.pair (Reg.MAC_STAT_LO p txFrames) = (s.pair (Reg.MAC_STAT_LO p txFrames) + 1) % 2 ^ 64 ∧
    u.reg (Reg.PRP_CNT (p / 2) 1) = satWord (s.reg (Reg.PRP_CNT (p / 2) 1)) 1 := by
  obtain ⟨y, hy⟩ : ∃ y, y = s.bump (Reg.PRP_CNT (p / 2) 1) := ⟨_, rfl⟩
  have hyl : Leaves (· ≠ Reg.PRP_CNT (p / 2) 1) s y := hy ▸ leaves_setReg (by simp)
  have hyc : y.reg (Reg.PRP_CNT (p / 2) 1) = satWord (s.reg (Reg.PRP_CNT (p / 2) 1)) 1 := hy ▸ reg_setReg_self
  have hyw : Within 0x8 s y := hy ▸ within_bump s _
  have hby : y.boundary = false := (boundary_of_leaves hyl fun o ho => by unfold Reg.PRP_CNT; omega).trans hb
  have hcy : y.rb (Reg.TBP_CFG p) 8 = false := (hyl.rb (by unfold Reg.TBP_CFG Reg.PRP_CNT; omega) 8).trans hcfg
  obtain ⟨z, hz⟩ : ∃ z, z = (y.txSend p x.octets ph).1 := ⟨_, rfl⟩
  obtain ⟨zout, zpair, zl, zw⟩ := txSend_spec hby hcy hp hz
  have he : u = if x.segment then z.macCount p txSegments 1 else z := by
    rw [hu, hz, hy]
    rfl
  have huz : u.txq = z.txq ∧ u.out = z.out ∧ u.pair (Reg.MAC_STAT_LO p txFrames) = z.pair (Reg.MAC_STAT_LO p txFrames) ∧
      Leaves (OffPort p) z u := by
    rw [he]
    split
    · exact ⟨within_macCount'.txq rfl, within_macCount'.out rfl, macCount_other (by decide), leaves_macCount_off (by decide)⟩
    · exact ⟨rfl, rfl, rfl, .refl z⟩
  obtain ⟨utx, uout, upair, ul⟩ := huz
  have hoff : OffPort p (Reg.PRP_CNT (p / 2) 1) := by
    unfold OffPort Reg.PRP_CNT
    omega
  refine ⟨txOf_congr (utx.trans ((zw.txq rfl).trans (hyw.txq rfl))), ?_, ?_, ?_⟩
  · rw [uout, zout, hyw.out rfl]
  · rw [upair, zpair, hyl.pair (by unfold Reg.MAC_STAT_LO Reg.PRP_CNT txFrames; omega)
      (by unfold Reg.MAC_STAT_LO Reg.PRP_CNT txFrames; omega)]
  · rw [ul _ hoff, zl _ hoff, hyc]

/-- A frame that is not sent: TX_ERR, and ANA_CNT2 for an alarm record. -/
theorem txError_spec (hp : p < 4) (hu : u = s.txError p) :
    u.pair (Reg.MAC_STAT_LO p txErr) = (s.pair (Reg.MAC_STAT_LO p txErr) + 1) % 2 ^ 64 ∧ u.rb (Reg.MAC_STATUS p) 10 = true ∧
    Leaves (fun o => o ≠ Reg.MAC_STAT_LO p txErr ∧ o ≠ Reg.MAC_STAT_LO p txErr + 4 ∧ o ≠ Reg.MAC_STATUS p) s u ∧ Within 0x8 s u := by
  subst hu
  have hset : Leaves (· ≠ Reg.MAC_STATUS p) (s.macCount p txErr 1) (s.txError p) := leaves_setRb (by simp)
  refine ⟨?_, rb_setRb_self (by decide), ?_, (within_setRb _ _ _ _).after (by decide) within_macCount'⟩
  · refine (hset.pair ?_ ?_).trans macCount_pair
    · unfold Reg.MAC_STAT_LO Reg.MAC_STATUS
      omega
    · unfold Reg.MAC_STAT_LO Reg.MAC_STATUS
      omega
  · exact (leaves_macCount.mono fun _ h => ⟨h.1, h.2.1⟩).trans (hset.mono fun _ h => h.2.2)

theorem txLost_spec (hp : p < 4) (hu : u = s.txLost p 0) :
    u.txq = s.txq ∧ u.out = s.out ∧ u.pair (Reg.MAC_STAT_LO p txErr) = (s.pair (Reg.MAC_STAT_LO p txErr) + 1) % 2 ^ 64 ∧
    u.rb (Reg.MAC_STATUS p) 10 = true ∧ (s.domOn pdSch = true → u.reg (Reg.ANA_CNT 2) = satWord (s.reg (Reg.ANA_CNT 2)) 1) ∧
    Leaves (fun o => o ≠ Reg.MAC_STAT_LO p txErr ∧ o ≠ Reg.MAC_STAT_LO p txErr + 4 ∧ o ≠ Reg.MAC_STATUS p ∧ o ≠ Reg.ANA_CNT 2) s u := by
  obtain ⟨y, hy⟩ : ∃ y, y = s.txError p := ⟨_, rfl⟩
  obtain ⟨ypair, yst, yl, yw⟩ := txError_spec hp hy
  have hdom : y.domOn pdSch = s.domOn pdSch := domOn_congr (yl _ (by unfold Reg.MAC_STAT_LO Reg.MAC_STATUS Reg.PWR_DOMAIN_STATUS txErr; omega))
  have he : u = if s.domOn pdSch then y.bump (Reg.ANA_CNT 2) else y := by
    rw [hu, State.txLost, ← hy, hdom, decide_eq_true rfl, Bool.true_and]
  have hb : Leaves (· ≠ Reg.ANA_CNT 2) y u ∧ u.txq = y.txq ∧ u.out = y.out := by
    rw [he]
    split
    · exact ⟨leaves_setReg (by simp), rfl, rfl⟩
    · exact ⟨.refl y, rfl, rfl⟩
  obtain ⟨hl, htx, hout⟩ := hb
  refine ⟨htx.trans (yw.txq rfl), hout.trans (yw.out rfl), ?_, ?_, fun hd => ?_, ?_⟩
  · refine (hl.pair ?_ ?_).trans ypair
    · unfold Reg.MAC_STAT_LO Reg.ANA_CNT txErr
      omega
    · unfold Reg.MAC_STAT_LO Reg.ANA_CNT txErr
      omega
  · exact (hl.rb (by unfold Reg.MAC_STATUS Reg.ANA_CNT; omega) 10).trans yst
  · rw [he, if_pos hd]
    refine reg_setReg_self.trans ?_
    rw [yl _ (by unfold Reg.MAC_STAT_LO Reg.MAC_STATUS Reg.ANA_CNT txErr; omega)]
  · exact (yl.mono fun _ h => ⟨h.1, h.2.1, h.2.2.1⟩).trans (hl.mono fun _ h => h.2.2.2)

/-! ### Doubled frames -/

/-- A doubled frame has its sequence number and its copy for the second LAN. -/
def State.prpNumbered (s : State) (p source : Nat) (f : List Byte) : State :=
  (fun y : State => y.setTx (p + 1) (y.txOf (p + 1) ++ [⟨source, withRct f (s.rf (Reg.PRP_SEQ (p / 2)) 0 16) 11, true, false⟩]))
    (s.setRf (Reg.PRP_SEQ (p / 2)) 0 16 (s.rf (Reg.PRP_SEQ (p / 2)) 0 16 + 1))

theorem prpSend_ready {source : Nat} (hr : (s.prpNumbered p source f).txReady p = true) : s.prpSend p source false f ph =
    ((s.prpNumbered p source f).bump (Reg.PRP_CNT (p / 2) 0)).txSend p (withRct f (s.rf (Reg.PRP_SEQ (p / 2)) 0 16) 10) ph := by
  unfold State.prpNumbered at hr
  unfold State.prpSend State.prpNumbered
  dsimp only at hr ⊢
  exact if_pos hr

theorem prpNumbered_spec {source : Nat} (hu : u = s.prpNumbered p source f) : u.txOf p = s.txOf p ∧
    u.txOf (p + 1) = s.txOf (p + 1) ++ [⟨source, withRct f (s.rf (Reg.PRP_SEQ (p / 2)) 0 16) 11, true, false⟩] ∧
    u.rf (Reg.PRP_SEQ (p / 2)) 0 16 = (s.rf (Reg.PRP_SEQ (p / 2)) 0 16 + 1) % 2 ^ 16 ∧ u.out = s.out ∧
    Leaves (· ≠ Reg.PRP_SEQ (p / 2)) s u := by
  subst hu
  have hl : Leaves (fun _ => True) (s.setRf (Reg.PRP_SEQ (p / 2)) 0 16 (s.rf (Reg.PRP_SEQ (p / 2)) 0 16 + 1)) (s.prpNumbered p source f) :=
    .of_regs rfl
  refine ⟨txOf_setTx_ne (by omega), txOf_setTx, ?_, rfl, (leaves_setRf (by simp)).trans (hl.mono fun _ _ => trivial)⟩
  rw [hl.rf trivial, State.rf, reg_setRf, if_pos rfl, fld_setFld (by decide)]

theorem txReady_congr (h : Leaves (fun o => o = Reg.PWR_DOMAIN_STATUS ∨ o / 0x10000 = 6 + p ∧ o % 0x10000 < 0x100) s t) :
    t.txReady p = s.txReady p := by
  have hc : t.reg (Reg.MAC_CTRL p) = s.reg (Reg.MAC_CTRL p) := h _ (by unfold Reg.MAC_CTRL; omega)
  have hst : t.reg (Reg.MAC_STATUS p) = s.reg (Reg.MAC_STATUS p) := h _ (by unfold Reg.MAC_STATUS; omega)
  unfold State.txReady State.macEn State.macLink State.rb
  rw [domOn_congr (h _ (.inl rfl)), hc, hst]

theorem prpSend_spec {source : Nat} (hb : s.boundary = false) (hcfg : s.rb (Reg.TBP_CFG p) 8 = false) (hp : p < 4)
    (hr : s.txReady p = true) (hu : u = (s.prpSend p source false f ph).1) :
    u.out = .frame p (padFrame (withRct f (s.rf (Reg.PRP_SEQ (p / 2)) 0 16) 10) ++
      fcs (padFrame (withRct f (s.rf (Reg.PRP_SEQ (p / 2)) 0 16) 10))) :: s.out ∧ u.txOf p = s.txOf p ∧
    u.txOf (p + 1) = s.txOf (p + 1) ++ [⟨source, withRct f (s.rf (Reg.PRP_SEQ (p / 2)) 0 16) 11, true, false⟩] ∧
    u.reg (Reg.PRP_CNT (p / 2) 0) = satWord (s.reg (Reg.PRP_CNT (p / 2) 0)) 1 ∧
    u.rf (Reg.PRP_SEQ (p / 2)) 0 16 = (s.rf (Reg.PRP_SEQ (p / 2)) 0 16 + 1) % 2 ^ 16 := by
  obtain ⟨y, hy⟩ : ∃ y, y = s.prpNumbered p source f := ⟨_, rfl⟩
  obtain ⟨yp, yp1, yseq, yout, yl⟩ := prpNumbered_spec hy
  have hry : y.txReady p = true := (txReady_congr (yl.mono fun o ho => by unfold Reg.PRP_SEQ; unfold Reg.PWR_DOMAIN_STATUS at ho; omega)).trans hr
  rw [prpSend_ready (hy ▸ hry), ← hy] at hu
  obtain ⟨z, hz⟩ : ∃ z, z = y.bump (Reg.PRP_CNT (p / 2) 0) := ⟨_, rfl⟩
  rw [← hz] at hu
  have hzl : Leaves (· ≠ Reg.PRP_CNT (p / 2) 0) y z := hz ▸ leaves_setReg (by simp)
  have hzc : z.reg (Reg.PRP_CNT (p / 2) 0) = satWord (y.reg (Reg.PRP_CNT (p / 2) 0)) 1 := hz ▸ reg_setReg_self
  have hzw : Within 0x8 y z := hz ▸ within_bump y _
  have hbz : z.boundary = false := by
    rw [boundary_of_leaves hzl fun o ho => by unfold Reg.PRP_CNT; omega, boundary_of_leaves yl fun o ho => by unfold Reg.PRP_SEQ; omega, hb]
  have hcz : z.rb (Reg.TBP_CFG p) 8 = false := by
    rw [hzl.rb (by unfold Reg.TBP_CFG Reg.PRP_CNT; omega), yl.rb (by unfold Reg.TBP_CFG Reg.PRP_SEQ; omega), hcfg]
  obtain ⟨uout, -, ul, uw⟩ := txSend_spec hbz hcz hp hu
  have htx : u.txq = y.txq := (uw.txq rfl).trans (hzw.txq rfl)
  refine ⟨?_, (txOf_congr htx).trans yp, (txOf_congr htx).trans yp1, ?_, ?_⟩
  · rw [uout, hzw.out rfl, yout]
  · rw [ul _ (by unfold OffPort Reg.PRP_CNT; omega), hzc, yl _ (by unfold Reg.PRP_CNT Reg.PRP_SEQ; omega)]
  · rw [ul.rf (by unfold OffPort Reg.PRP_SEQ; omega), hzl.rf (by unfold Reg.PRP_CNT Reg.PRP_SEQ; omega), yseq]

/-! ### The port's ring -/

theorem macTransmit_ring (hd : s.domOn (portDomain p) = true) (hx : s.txOf p = []) (hj : s.segJob p = none)
    (hr : s.ringReady (2 + p) = true) : s.macTransmit p ph = s.txRing p ph := by
  unfold State.macTransmit
  rw [hd, if_neg (by decide)]
  dsimp only
  rw [hx, hj]
  dsimp only [List.find?_nil]
  rw [if_pos hr]

theorem ringNext_of_leaves {P : Nat → Prop} {r : Nat} (h : Leaves P s t) (hh : P (Reg.RNG_HEAD r)) (hc : P (Reg.RNG_CTRL r)) :
    t.ringNext r = s.ringNext r := by
  rw [State.ringNext, State.ringHead, State.ringSize, h.rf hh, h.rf hc]
  rfl

/-- A descriptor that is returned moves HEAD on, and no more than events follow. -/
theorem txReturn_spec {st extra : Nat} (hp : p < 4) (hu : u = s.txReturn p st extra) :
    u.ringHead (2 + p) = s.ringNext (2 + p) ∧ Leaves Quiet s u ∧ s.out <:+ u.out := by
  have hw : Within 0x1C6C8 s u := hu ▸ within_txReturn s p st extra
  unfold State.txReturn at hu
  dsimp only at hu
  obtain ⟨y, hy⟩ : ∃ y, y = s.setRingX (2 + p) { s.ringX (2 + p) with wip := 0 } := ⟨_, rfl⟩
  rw [← hy] at hu
  have hl : ∀ {P : Nat → Prop}, Leaves P s y := hy ▸ .of_regs rfl
  refine ⟨?_, ?_, hw.sent⟩
  · rw [hu, ringReturn_head (by omega) (by omega)]
    exact ringNext_of_leaves hl (P := fun _ => True) trivial trivial
  · rw [hu]
    exact hl.trans (leaves_ringReturn (fun _ h => h) (by omega))

/-- The descriptor at HEAD is taken up. -/
def State.txBegun (s : State) (p : Nat) : State := s.setRingX (2 + p) { s.ringX (2 + p) with wip := 1, episode := false }

theorem leaves_txBegun {P : Nat → Prop} : Leaves P s (s.txBegun p) := .of_regs rfl

section Ring
variable {desc buf : List Byte} {d : TxDesc} (hdesc : desc = s.headDesc (2 + p)) (hd : d = txDesc desc) (hbuf : buf = s.hostRead (bufAddr desc) d.len)
include hdesc hd hbuf

theorem txRing_refused (h : bufBeyond desc = true ∨ s.txRefusal p d buf ≠ 0) :
    ∃ st, s.txRing p ph = ((s.txBegun p).txError p).txReturn p st 0 := by
  refine ⟨if bufBeyond desc then 7 else s.txRefusal p d buf, ?_⟩
  have h0 : (if bufBeyond desc = true then 7 else s.txRefusal p d buf) ≠ 0 := by
    rcases h with h | h
    · rw [if_pos h]
      decide
    · split
      · decide
      · exact h
  subst hbuf hd hdesc
  unfold State.txRing State.txBegun
  dsimp only
  exact if_pos h0

theorem txRing_sent (h : bufBeyond desc = false) (h0 : s.txRefusal p d buf = 0) (hseg : d.seg = false) (hcs : d.csum = false)
    (hdbl : s.prpDoubles p buf d.noPrp = false) (hr : s.txReady p = true) :
    s.txRing p ph = (fun y : State × (Stamp × Nat) => (if d.ts then y.1.tsqPush p ⟨d.tsid, y.2.2, y.2.1⟩ else y.1).txReturn p 0 0)
      ((s.txBegun p).txSend p buf ph) := by
  have hr' : (s.txBegun p).txReady p = true := (txReady_congr leaves_txBegun).trans hr
  have hdbl' : (s.txBegun p).prpDoubles p buf d.noPrp = false := hdbl
  subst hbuf hd hdesc
  unfold State.txBegun at hr' hdbl'
  unfold State.txRing State.txBegun
  dsimp only
  rw [h, if_neg Bool.false_ne_true, h0, if_neg (by decide), hseg, hcs, hdbl', hr', Bool.not_true, Bool.false_and, Bool.false_and,
    Bool.not_false, Bool.true_or, Bool.and_true, if_neg Bool.false_ne_true, if_neg Bool.false_ne_true, if_neg Bool.false_ne_true,
    if_neg Bool.false_ne_true, Bool.false_and, if_neg Bool.false_ne_true]

end Ring

/-- A register outside the time bases that no event's consequences write, but for the log's ring. -/
abbrev OffStamps (o : Nat) : Prop := Beyond (fun q => q = 23) o ∧ o / 0x10000 ≠ 5

theorem leaves_tsqPush {e : TsqEntry} (hp : p < 4) : Leaves OffStamps s (s.tsqPush p e) := by
  have hset : ∀ (y : State) (o : Nat) (w : Word), o / 0x10000 = 5 → Leaves OffStamps y (y.setReg o w) := fun y o w ho =>
    leaves_setReg fun c => c.2 ho
  have hst : Reg.TSQ_STATUS p / 0x10000 = 5 ∧ Reg.TSQ_OVF_CNT p / 0x10000 = 5 := by
    unfold Reg.TSQ_STATUS Reg.TSQ_OVF_CNT
    omega
  have hf : ∀ (y : State) (i ev : Nat), ev < 64 → Leaves OffStamps y (y.flagRaise (Reg.TSQ_STATUS p) i ev p) := fun y i ev he =>
    (hset y _ _ hst.1).trans ((ringsKept_raise (A := fun q => q = 23) rfl he).regs.mono fun _ h => h.1)
  have hq : Leaves OffStamps s (s.setTsq p (s.tsqOf p ++ [e])) := .of_regs rfl
  unfold State.tsqPush
  split
  · exact hq.trans (hf _ _ _ (by decide))
  · exact (hset _ _ _ hst.2).trans (hf _ _ _ (by decide))

theorem offStamps_ring (hp : p < 4) : OffStamps (Reg.RNG_HEAD (2 + p)) ∧ OffStamps (Reg.RNG_CTRL (2 + p)) := by
  refine ⟨⟨beyond_head (by omega) (by omega), by unfold Reg.RNG_HEAD; omega⟩, ⟨by unfold Reg.RNG_CTRL; omega, by unfold Reg.RNG_CTRL; omega,
    fun q _ hq => ?_⟩, by unfold Reg.RNG_CTRL; omega⟩
  unfold Reg.RNG_CTRL Reg.RNG_HEAD Reg.RNG_STATUS Reg.RNG_CNT
  omega

theorem offStamps_mac {o : Nat} (hp : p < 4) (h : o / 0x10000 = 6 + p) : OffStamps o ∧ Quiet o := by
  refine ⟨⟨⟨by omega, by omega, fun q hq _ => ?_⟩, by omega⟩, ?_⟩
  · unfold Reg.RNG_HEAD Reg.RNG_STATUS Reg.RNG_CNT
    omega
  · unfold Quiet
    omega

theorem mac_unit (hp : p < 4) (k : Nat) (hk : k < 13) : Reg.MAC_STAT_LO p k / 0x10000 = 6 + p ∧ (Reg.MAC_STAT_LO p k + 4) / 0x10000 = 6 + p ∧
    Reg.MAC_STATUS p / 0x10000 = 6 + p := by
  unfold Reg.MAC_STAT_LO Reg.MAC_STATUS
  omega

/-- A frame of the ring leaves, and its descriptor is returned. -/
theorem ringSent_spec {y : State × (Stamp × Nat)} {ts : Bool} {tsid : Nat} (hb : s.boundary = false)
    (hcfg : s.rb (Reg.TBP_CFG p) 8 = false) (hp : p < 4) (hy : y = (s.txBegun p).txSend p f ph)
    (hu : u = (if ts then y.1.tsqPush p ⟨tsid, y.2.2, y.2.1⟩ else y.1).txReturn p 0 0) : u.ringHead (2 + p) = s.ringNext (2 + p) ∧
      (.frame p (padFrame f ++ fcs (padFrame f)) :: s.out) <:+ u.out ∧
      u.pair (Reg.MAC_STAT_LO p txFrames) = (s.pair (Reg.MAC_STAT_LO p txFrames) + 1) % 2 ^ 64 := by
  have hbeg : ∀ {P : Nat → Prop}, Leaves P s (s.txBegun p) := leaves_txBegun
  have hout0 : (s.txBegun p).out = s.out := rfl
  obtain ⟨zout, zpair, zl, -⟩ := txSend_spec (s := s.txBegun p) (f := f) (ph := ph) (u := y.1)
    ((boundary_of_leaves hbeg (P := fun _ => True) fun _ _ => trivial).trans hb) ((hbeg (P := fun _ => True)).rb trivial 8 |>.trans hcfg) hp
    (congrArg Prod.fst hy)
  rw [hout0] at zout
  rw [(hbeg (P := fun _ => True)).pair trivial trivial] at zpair
  obtain ⟨w, hw⟩ : ∃ w, w = if ts then y.1.tsqPush p ⟨tsid, y.2.2, y.2.1⟩ else y.1 := ⟨_, rfl⟩
  rw [← hw] at hu
  have hwl : Leaves OffStamps y.1 w ∧ y.1.out <:+ w.out := by
    rw [hw]
    split
    · exact ⟨leaves_tsqPush hp, (within_tsqPush _ _ _).sent⟩
    · exact ⟨.refl _, List.suffix_refl _⟩
  obtain ⟨uhead, ul, uout⟩ := txReturn_spec hp hu
  obtain ⟨hh, hc⟩ := offStamps_ring hp
  obtain ⟨m1, m2, -⟩ := mac_unit hp txFrames (by decide)
  refine ⟨uhead.trans ?_, ?_, ?_⟩
  · rw [ringNext_of_leaves hwl.1 hh hc, ringNext_of_leaves zl (by unfold OffPort Reg.RNG_HEAD; omega) (by unfold OffPort Reg.RNG_CTRL; omega)]
    exact ringNext_of_leaves hbeg (P := fun _ => True) trivial trivial
  · rw [← zout]
    exact hwl.2.trans uout
  · rw [ul.pair (offStamps_mac hp m1).2 (offStamps_mac hp m2).2, hwl.1.pair (offStamps_mac hp m1).1 (offStamps_mac hp m2).1, zpair]

/-- A refused descriptor is counted and returned. -/
theorem ringRefused_spec {st : Nat} (hp : p < 4) (hu : u = ((s.txBegun p).txError p).txReturn p st 0) :
    u.ringHead (2 + p) = s.ringNext (2 + p) ∧ u.pair (Reg.MAC_STAT_LO p txErr) = (s.pair (Reg.MAC_STAT_LO p txErr) + 1) % 2 ^ 64 ∧
      u.rb (Reg.MAC_STATUS p) 10 = true := by
  have hbeg : ∀ {P : Nat → Prop}, Leaves P s (s.txBegun p) := leaves_txBegun
  obtain ⟨y, hy⟩ : ∃ y, y = (s.txBegun p).txError p := ⟨_, rfl⟩
  obtain ⟨ypair, yst, yl, -⟩ := txError_spec hp hy
  rw [(hbeg (P := fun _ => True)).pair trivial trivial] at ypair
  rw [← hy] at hu
  obtain ⟨uhead, ul, -⟩ := txReturn_spec hp hu
  obtain ⟨m1, m2, m3⟩ := mac_unit hp txErr (by decide)
  refine ⟨uhead.trans ?_, ?_, ?_⟩
  · rw [ringNext_of_leaves yl (by unfold Reg.MAC_STAT_LO Reg.MAC_STATUS Reg.RNG_HEAD txErr; omega)
      (by unfold Reg.MAC_STAT_LO Reg.MAC_STATUS Reg.RNG_CTRL txErr; omega)]
    exact ringNext_of_leaves hbeg (P := fun _ => True) trivial trivial
  · rw [ul.pair (offStamps_mac hp m1).2 (offStamps_mac hp m2).2, ypair]
  · rw [ul.rb (offStamps_mac hp m3).2, yst]

/-! ### A silent LAN -/

theorem prpLanFault_shown {q lan other : Nat} (hd : s.domOn (portDomain (2 * q)) = true) (hc : s.rb (Reg.PRP_CTRL q) 0 = true)
    (ho : (if lan = 0 then (s.prpOf q).lastB else (s.prpOf q).lastA) = some other)
    (hh : s.now < other + s.rf (Reg.PRP_FAULT_TIME q) 0 16 * fsPerMs)
    (hm : ((if lan = 0 then (s.prpOf q).lastA else (s.prpOf q).lastB).getD (s.prpOf q).since) +
      s.rf (Reg.PRP_FAULT_TIME q) 0 16 * fsPerMs ≤ s.now) (hf : s.rb (Reg.PRP_STATUS q) lan = false) :
    s.prpLanFault q lan = (s.setRb (Reg.PRP_STATUS q) lan true).flagRaise (Reg.PRP_STATUS q) 8 21 q := by
  unfold State.prpLanFault
  dsimp only
  rw [ho, hd, hc, decide_eq_true hm]
  refine (if_pos (Bool.and_eq_true_iff.2 ⟨rfl, decide_eq_true hh⟩)).trans ?_
  rw [State.prpFault, hf]
  exact if_neg Bool.false_ne_true

theorem find_alarm {q : List TxFrame} (h : q.find? (fun y => y.source = 0) = some x) : x.source = 0 := by
  have := List.find?_some h
  exact of_decide_eq_true this

/-- Settles O36: a frame of the alarm path goes first; what the port cannot send is counted; a doubled frame is numbered once for both
LANs. -/
theorem transmissionAndRedundancy : Obligations.TransmissionAndRedundancy := by
  unfold Obligations.TransmissionAndRedundancy
  refine fun s ph hb => ⟨fun p x hx hr hcfg hkind => ?_, fun p x hx hd hr hkind => ?_, fun q x a b hx hc hdbl hr hcfg h1 h2 ha hb' => ?_,
    fun p desc buf d hd hq hj hring hdesc hdd hbuf => ⟨fun h => ?_, fun h h0 hseg hcs hdbl hr hcfg => ?_⟩,
    fun q lan other hd hc ho hh hm hf => ?_⟩
  · have hd : s.domOn (portDomain p) = true := by
      simp only [State.txReady, Bool.and_eq_true] at hr
      exact hr.1.1.1
    have hb' : (s.txTaken p x).boundary = false := hb
    have hcfg' : (s.txTaken p x).rb (Reg.TBP_CFG p) 8 = false := hcfg
    have hr' : (s.txTaken p x).txReady p = true := hr
    have hex : exec (.macTransmit p ph) s = .next (s.txQueued p x ph) := congrArg Host.Outcome.next (macTransmit_first hd hx)
    cases hc : x.copy with
    | true =>
      rw [txQueued_copy hc, if_pos hr'] at hex
      obtain ⟨htx, hout, hpair, hcnt⟩ := txCopy_spec (x := x) (ph := ph) hb' hcfg' p.isLt rfl
      exact ⟨_, hex, htx.trans txTaken_txOf, hout, hpair.trans (by rw [State.txTaken, setTx_pair]), fun _ => hcnt⟩
    | false =>
      obtain ⟨hdbl, hfit⟩ := hkind.resolve_left (by rw [hc]; exact Bool.false_ne_true)
      have hfit' : ¬ ((!(s.txTaken p x).txFits p x.octets false) = true) := by
        have : s.txFits p x.octets false = true := by
          rw [State.txFits, wireLen, if_neg Bool.false_ne_true, decide_eq_true hfit]
          rfl
        have hsame : (s.txTaken p x).txFits p x.octets false = s.txFits p x.octets false := rfl
        rw [hsame, this]
        exact Bool.false_ne_true
      rw [txQueued_single hc hdbl, if_neg hfit', if_pos hr'] at hex
      obtain ⟨hout, hpair, -, hw⟩ := txSend_spec (f := x.octets) (ph := ph) hb' hcfg' p.isLt rfl
      exact ⟨_, hex, (txOf_congr (hw.txq rfl)).trans txTaken_txOf, hout, hpair.trans (by rw [State.txTaken, setTx_pair]),
        fun c => absurd c Bool.false_ne_true⟩
  · have hr' : ¬ ((s.txTaken p x).txReady p = true) := by
      have : (s.txTaken p x).txReady p = s.txReady p := rfl
      rw [this, hr]
      exact Bool.false_ne_true
    have hex : exec (.macTransmit p ph) s = .next ((s.txTaken p x).txLost p 0) := by
      refine (congrArg Host.Outcome.next (macTransmit_first hd hx)).trans ?_
      cases hc : x.copy with
      | true => rw [txQueued_copy hc, if_neg hr', find_alarm hx]
      | false =>
        rw [txQueued_single hc (hkind.resolve_left (by rw [hc]; exact Bool.false_ne_true)), if_neg hr', ite_self, find_alarm hx]
    obtain ⟨htx, hout, hpair, hst, hana, hl⟩ := txLost_spec (s := s.txTaken p x) p.isLt rfl
    refine ⟨_, hex, (txOf_congr htx).trans txTaken_txOf, hout, hpair.trans (by rw [State.txTaken, setTx_pair]), hst, hana, ?_⟩
    refine Leaves.trans (leaves_setTx (P := fun o => o ∉ _)) (hl.mono fun o ho => ?_)
    simpa only [List.mem_cons, List.not_mem_nil, or_false, not_or] using ho
  · have hq := q.isLt
    have hhalf : 2 * q.val / 2 = q.val := by omega
    have hd : s.domOn (portDomain (2 * q)) = true := by
      simp only [State.txReady, Bool.and_eq_true] at hr
      exact hr.1.1.1
    have hfit : (s.txTaken (2 * q) x).txFits (2 * q) x.octets true = true := by
      have hsame : (s.txTaken (2 * q) x).txFits (2 * q) x.octets true = s.txFits (2 * q) x.octets true := rfl
      rw [hsame, State.txFits, decide_eq_true h1, decide_eq_true h2]
      rfl
    have hex : exec (.macTransmit ⟨2 * q.val, by omega⟩ ph) s = .next ((s.txTaken (2 * q) x).prpSend (2 * q) x.source false x.octets ph).1 :=
      congrArg Host.Outcome.next ((macTransmit_first hd hx).trans (txQueued_double hc hdbl hfit hr))
    have hb0 : (s.txTaken (2 * q) x).boundary = false := hb
    have hcfg0 : (s.txTaken (2 * q) x).rb (Reg.TBP_CFG (2 * q)) 8 = false := hcfg
    have hr0 : (s.txTaken (2 * q) x).txReady (2 * q) = true := hr
    obtain ⟨hout, htx, htx1, hcnt, hseq⟩ := prpSend_spec (source := x.source) (f := x.octets) (ph := ph) hb0 hcfg0 (by omega) hr0 rfl
    have hseq0 : (s.txTaken (2 * q) x).rf (Reg.PRP_SEQ q) 0 16 = s.rf (Reg.PRP_SEQ q) 0 16 := rfl
    have htaken : (s.txTaken (2 * q) x).txOf (2 * q + 1) = s.txOf (2 * q + 1) := txOf_setTx_ne (by omega)
    rw [hhalf] at hout htx1 hcnt hseq
    rw [hseq0] at hout htx1 hseq
    rw [htaken] at htx1
    refine ⟨_, hex, ?_, htx.trans txTaken_txOf, ?_, hcnt, hseq⟩
    · rw [ha]
      exact hout
    · rw [hb']
      exact htx1.trans (by rw [find_alarm hx])
  · obtain ⟨st, hst⟩ := txRing_refused (ph := ph) hdesc hdd hbuf h
    obtain ⟨hhead, hpair, hflag⟩ := ringRefused_spec (s := s) (st := st) p.isLt rfl
    exact ⟨_, congrArg Host.Outcome.next ((macTransmit_ring hd hq hj hring).trans hst), hhead, hpair, hflag⟩
  · have hst := txRing_sent (ph := ph) hdesc hdd hbuf h h0 hseg hcs hdbl hr
    obtain ⟨hhead, hout, hpair⟩ := ringSent_spec (ts := d.ts) (tsid := d.tsid) (f := buf) (ph := ph) hb hcfg p.isLt rfl rfl
    exact ⟨_, congrArg Host.Outcome.next ((macTransmit_ring hd hq hj hring).trans hst), hhead, hout, hpair⟩
  · have hq := q.isLt
    have hlan := lan.isLt
    have hl0 : (lan = 0) = ((lan : Nat) = 0) := propext (Fin.ext_iff)
    simp only [hl0] at ho hm
    have hquiet : Quiet (Reg.PRP_STATUS q) := by
      unfold Quiet Reg.PRP_STATUS
      omega
    refine ⟨_, congrArg Host.Outcome.next (prpLanFault_shown hd hc ho hh hm hf), ?_, flagRaise_flag hquiet (by decide) (by decide),
      event_flagRaise (by decide), regsKept_iff.2 ?_, Within.onlyRegsAndEvents ?_⟩
    · rw [flagRaise_bit hquiet (by decide) (by omega) (by decide)]
      exact rb_setRb_self (by omega)
    · exact (leaves_setRb (by simp)).trans (leaves_flagRaise (fun _ h => h.1) (by simp) (by decide))
    · exact (within_flagRaise _ _ _ _ _).after (by decide) ((within_setRb _ _ _ _).mono (by decide))

end Sys2Proof.Machine

/-! The field segments (R143-R148). -/

namespace Sys2Proof.Machine

-- One declaration after another: side by side, their threads' stacks pass the memory limit of a check.
set_option Elab.async false

variable {s t u : State} {g : Nat}

/-! ### What a segment reads after the operations on it -/

theorem segm_setSegm {x : Segment} : (s.setSegm g x).segm g = x := Tab.get_put_self
theorem segm_setSegm_ne {x : Segment} {h : Nat} (hh : h ≠ g) : (s.setSegm g x).segm h = s.segm h := Tab.get_put_ne hh
theorem segm_congr {h : Nat} (hs : t.segments = s.segments) : t.segm h = s.segm h := by
  rw [State.segm, hs]
  rfl

/-- TX_BUSY and CARRIER are shown, and nothing else. -/
theorem t1sShow_spec (hu : u = s.t1sShow g) :
    u.rb (Reg.T1Ss_STATUS g) 0 = (decide ((s.segm g).st = .send) || decide ((s.segm g).st = .jam)) ∧
    u.rb (Reg.T1Ss_STATUS g) 1 = decide ((s.segm g).st ≠ .idle) ∧
    (∀ i, 2 ≤ i → u.rb (Reg.T1Ss_STATUS g) i = s.rb (Reg.T1Ss_STATUS g) i) ∧
    Leaves (· ≠ Reg.T1Ss_STATUS g) s u ∧ Within 0x8 s u := by
  subst hu
  have hother : ∀ (x : State) (i j : Nat) (b : Bool), i < 32 → i ≠ j →
      (x.setRb (Reg.T1Ss_STATUS g) i b).rb (Reg.T1Ss_STATUS g) j = x.rb (Reg.T1Ss_STATUS g) j := fun x i j b hi hij => by
    rw [State.rb, reg_setRb, if_pos rfl, bit_setBit_ne hi hij.symm]
    rfl
  refine ⟨(hother _ 1 0 _ (by decide) (by decide)).trans (rb_setRb_self (by decide)), rb_setRb_self (by decide), fun i hi => ?_,
    (leaves_setRb (by simp)).trans (leaves_setRb (by simp)), within_t1sShow s g⟩
  exact (hother _ 1 i _ (by decide) (by omega)).trans (hother _ 0 i _ (by decide) (by omega))

theorem keepsEvents_t1sShow (hg : g < 4) : KeepsEvents s (s.t1sShow g) :=
  .of_leaves ((t1sShow_spec rfl).2.2.2.1.mono fun o ho => by unfold Reg.T1Ss_STATUS; omega)

theorem keepsEvents_t1sFinish {num st : Nat} : KeepsEvents s (s.t1sFinish num st) := by
  have h : ∀ fuel (t : State), KeepsEvents t (t1sReturnN fuel t) := by
    intro fuel
    induction fuel with
    | zero => exact fun t => .refl t
    | succ fuel ih =>
      intro t
      unfold t1sReturnN
      split
      · exact (((KeepsEvents.of_leaves leaves_t1sTaken).trans (.of_leaves leaves_setRingX)).trans (keepsEvents_ringReturn (by decide))).trans
          (ih _)
      · exact .refl t
  exact (KeepsEvents.of_leaves leaves_t1sTaken).trans (h _ _)

section Next
variable {j : T1sJob} {rest : List T1sJob} {status quiet : Nat}

/-- The segment turns to the next frame of its queue. -/
def Segment.next (x : Segment) (rest : List T1sJob) (quiet : Nat) : Segment :=
  { x with queue := rest, n := 0, st := if rest.isEmpty then .idle else .defer, quiet := some quiet }

theorem t1sNext_eq (hq : (s.segm g).queue = j :: rest) :
    s.t1sNext g status quiet = ((s.setSegm g ((s.segm g).next rest quiet)).t1sShow g).t1sFinish j.num status := by
  unfold State.t1sNext Segment.next
  dsimp only
  rw [hq]

theorem t1sNext_spec (hg : g < 4) (hq : (s.segm g).queue = j :: rest) (hu : u = s.t1sNext g status quiet) :
    u.segm g = (s.segm g).next rest quiet ∧ s.out <:+ u.out ∧ KeepsEvents s u ∧
    (∀ i, 2 ≤ i → u.rb (Reg.T1Ss_STATUS g) i = s.rb (Reg.T1Ss_STATUS g) i) ∧
    Leaves (fun o => Quiet o ∧ o ≠ Reg.T1Ss_STATUS g) s u := by
  have hw := hu ▸ within_t1sNext s g status quiet
  rw [t1sNext_eq hq] at hu
  obtain ⟨x, hx⟩ : ∃ x, x = s.setSegm g ((s.segm g).next rest quiet) := ⟨_, rfl⟩
  have hxg : x.segm g = (s.segm g).next rest quiet := hx ▸ segm_setSegm
  have hxr : x.regs = s.regs := hx ▸ rfl
  obtain ⟨y, hy⟩ : ∃ y, y = x.t1sShow g := ⟨_, rfl⟩
  obtain ⟨-, -, hbits, hl, hyw⟩ := t1sShow_spec hy
  rw [← hx, ← hy] at hu
  have hue : KeepsEvents y u := hu ▸ keepsEvents_t1sFinish
  have hul : Leaves Quiet y u := hu ▸ leaves_t1sFinish
  have hug : u.segments = y.segments := hu ▸ (within_t1sFinish y j.num status).segments rfl
  have hquiet : Quiet (Reg.T1Ss_STATUS g) := by
    unfold Reg.T1Ss_STATUS
    omega
  refine ⟨?_, hw.sent, ?_, fun i hi => ?_, ?_⟩
  · rw [segm_congr hug, segm_congr (hyw.segments rfl), hxg]
  · exact (KeepsEvents.trans (keepsEvents_of_regs hxr) (hy ▸ keepsEvents_t1sShow hg)).trans hue
  · rw [hul.rb hquiet, hbits i hi, State.rb, State.reg, hxr]
    rfl
  · exact ((Leaves.of_regs hxr).trans (hl.mono fun _ h => h.2)).trans (hul.mono fun _ h => h.1)

end Next

theorem quiet_t1s (hg : g < 4) {k : Nat} (hk : k < 7) : Quiet (Reg.T1Ss_CNT g k) ∧ Reg.T1Ss_CNT g k ≠ Reg.T1Ss_STATUS g := by
  unfold Reg.T1Ss_CNT Reg.T1Ss_STATUS
  omega

/-! ### A descriptor joins the queue of its segment -/

section Take
variable {d : TxDesc} {desc : List Byte}

/-- A descriptor of ring 10 is taken. -/
def State.t1sTook (s : State) : State :=
  (fun y : State => y.setRingX 10 { y.ringX 10 with wip := y.t1sTaken.length, episode := false })
    { s with t1sTaken := s.t1sTaken ++ [⟨s.t1sNum, none⟩], t1sNum := s.t1sNum + 1 }

/-- The segment with a job at the end of its queue. -/
def Segment.join (x : Segment) (j : T1sJob) : Segment :=
  { x with queue := x.queue ++ [j], st := if x.st = SegState.idle then SegState.defer else x.st }

theorem t1sTake_eq (hf : s.domOn pdField = true) (hs : s.ringServed 10 = true) (h1 : s.ringState 10 = 1)
    (hh : s.t1sTaken.length < s.ringHolds 10) (hdesc : s.descAt 10 s.t1sTaken.length = desc) (hd : txDesc desc = d)
    (hc : d.csum = false) (hseg : d.seg = false) (hts : d.ts = false) (h0 : d.len ≠ 0) (hl : d.len ≤ 1518) (hb : bufBeyond desc = false)
    (hq : (s.segm d.segment).queue.length < 4) :
    s.t1sTake = (s.t1sTook.setSegm d.segment
      ((s.segm d.segment).join ⟨s.t1sNum, s.t1sTook.hostRead (bufAddr desc) d.len⟩)).t1sShow d.segment := by
  have hgate : (!(s.domOn pdField && s.ringServed 10 && decide (s.ringState 10 = 1) && decide (s.t1sTaken.length < s.ringHolds 10))) = false := by
    rw [hf, hs, decide_eq_true h1, decide_eq_true hh]
    rfl
  have hbad : ¬ ((d.csum || d.seg || d.ts || decide (d.len = 0)) = true) := by
    rw [hc, hseg, hts, decide_eq_false h0]
    decide
  subst hd hdesc
  unfold State.t1sTake State.t1sTook Segment.join
  dsimp only
  rw [hgate, if_neg Bool.false_ne_true, if_neg (Nat.not_le.2 hq), if_neg hbad, if_neg (Nat.not_lt.2 hl), hb, if_neg Bool.false_ne_true]

end Take

/-! ### Collisions and jams -/

theorem t1sJamEnd_idle (h : (s.segm g).st ≠ .jam) : s.t1sJamEnd g = s := by
  unfold State.t1sJamEnd
  dsimp only
  rw [decide_eq_false h, Bool.false_and]
  exact if_pos rfl

theorem segm_t1sJamEnd {h : Nat} (hh : h ≠ g) : (s.t1sJamEnd g).segm h = s.segm h := by
  have hnext : ∀ (x : State) (st q : Nat), (x.t1sNext g st q).segm h = x.segm h := fun x st q => by
    cases hq : (x.segm g).queue with
    | nil =>
      unfold State.t1sNext
      dsimp only
      rw [hq]
    | cons j rest =>
      rw [t1sNext_eq hq, segm_congr ((within_t1sFinish _ _ _).segments rfl), segm_congr ((within_t1sShow _ _).segments rfl),
        segm_setSegm_ne hh]
  unfold State.t1sJamEnd
  dsimp only
  split
  · rfl
  · split
    · rw [hnext, segm_congr ((within_flagRaise _ _ _ _ _).segments rfl), segm_congr ((within_t1sCount _ _ _).segments rfl)]
    · rw [segm_congr ((within_t1sShow _ _).segments rfl), segm_setSegm_ne hh]

/-- Where no other segment jams, one segment's jam alone ends. -/
theorem t1sJams_one (g : Fin 4) (h : ∀ k : Fin 4, k ≠ g → (s.segm k).st ≠ .jam) : s.t1sJams = s.t1sJamEnd g := by
  have before : ∀ k : Nat, k < 4 → k ≠ g.val → s.t1sJamEnd k = s := fun k hk hne => t1sJamEnd_idle (h ⟨k, hk⟩ fun c => hne (congrArg Fin.val c))
  have after : ∀ k : Nat, k < 4 → k ≠ g.val → (s.t1sJamEnd g).t1sJamEnd k = s.t1sJamEnd g := fun k hk hne =>
    t1sJamEnd_idle (by rw [segm_t1sJamEnd hne]; exact h ⟨k, hk⟩ fun c => hne (congrArg Fin.val c))
  have hg : g.val = 0 ∨ g.val = 1 ∨ g.val = 2 ∨ g.val = 3 := by omega
  rw [State.t1sJams]
  rcases hg with hg | hg | hg | hg
  · rw [hg] at after ⊢
    rw [after 1 (by decide) (by decide), after 2 (by decide) (by decide), after 3 (by decide) (by decide)]
  · rw [hg] at before after ⊢
    rw [before 0 (by decide) (by decide), after 2 (by decide) (by decide), after 3 (by decide) (by decide)]
  · rw [hg] at before after ⊢
    rw [before 0 (by decide) (by decide), before 1 (by decide) (by decide), after 3 (by decide) (by decide)]
  · rw [hg] at before ⊢
    rw [before 0 (by decide) (by decide), before 1 (by decide) (by decide), before 2 (by decide) (by decide)]

section Jam
variable {j : T1sJob} {rest : List T1sJob}

theorem t1sJamEnd_dropped (hg : g < 4) (hj : (s.segm g).st = .jam) (ht : (s.segm g).until_ ≤ s.now) (hq : (s.segm g).queue = j :: rest)
    (hn : s.rf (Reg.T1Ss_CTRL g) 8 5 ≤ (s.segm g).n) (hu : u = s.t1sJamEnd g) :
    (u.segm g).queue = rest ∧ u.event 20 = true ∧ u.reg (Reg.T1Ss_CNT g 2) = satWord (s.reg (Reg.T1Ss_CNT g 2)) 1 := by
  obtain ⟨x, hx⟩ : ∃ x, x = s.t1sCount g 2 := ⟨_, rfl⟩
  obtain ⟨y, hy⟩ : ∃ y, y = x.flagRaise (Reg.T1Ss_STATUS g) 8 20 g := ⟨_, rfl⟩
  have he : u = y.t1sNext g 5 (s.segm g).until_ := by
    rw [hu, hy, hx]
    unfold State.t1sJamEnd
    dsimp only
    rw [decide_eq_true hj, decide_eq_true ht, if_neg (by decide), if_pos hn]
  have hxc : x.reg (Reg.T1Ss_CNT g 2) = satWord (s.reg (Reg.T1Ss_CNT g 2)) 1 := hx ▸ reg_setReg_self
  have hyc : y.reg (Reg.T1Ss_CNT g 2) = x.reg (Reg.T1Ss_CNT g 2) :=
    hy ▸ flagRaise_quiet (quiet_t1s hg (by decide)).1 (quiet_t1s hg (by decide)).2 (by decide)
  have hyg : y.segm g = s.segm g := (segm_congr (hy ▸ (within_flagRaise _ _ _ _ _).segments rfl)).trans
    (segm_congr (hx ▸ (within_t1sCount _ _ _).segments rfl))
  have hye : y.event 20 = true := hy ▸ event_flagRaise (by decide)
  obtain ⟨hug, -, hue, -, hul⟩ := t1sNext_spec hg (hyg.symm ▸ hq) he
  refine ⟨?_, hue 20 (by decide) hye, ?_⟩
  · rw [hug]
    rfl
  · rw [hul _ (quiet_t1s hg (by decide)), hyc, hxc]

/-- The segment in back-off after a draw. -/
def Segment.backsOff (x : Segment) (d : Nat × Word) : Segment :=
  { x with st := .backoff, lfsr := d.2, seedPend := false, quiet := some x.until_, until_ := x.until_ + d.1 * t1sSlotFs }

theorem t1sJamEnd_backoff (hj : (s.segm g).st = .jam) (ht : (s.segm g).until_ ≤ s.now) (hn : (s.segm g).n < s.rf (Reg.T1Ss_CTRL g) 8 5) :
    s.t1sJamEnd g = (s.setSegm g ((s.segm g).backsOff (s.t1sDraw g (s.segm g).n))).t1sShow g := by
  unfold State.t1sJamEnd Segment.backsOff
  dsimp only
  rw [decide_eq_true hj, decide_eq_true ht, if_neg (by decide), if_neg (Nat.not_le.2 hn)]

theorem step_jam (g : Fin 4) (hp : s.pending = []) (hu : u = s.clockPeriod) (h : ∀ k : Fin 4, k ≠ g → (s.segm k).st ≠ .jam) :
    step s = .next (u.t1sJamEnd g) ∧ u.segm g = s.segm g := by
  have hs : u.segments = s.segments := hu ▸ (within_clockPeriod s).segments rfl
  refine ⟨?_, segm_congr hs⟩
  rw [step_of_empty hp, State.period, ← hu, t1sJams_one g fun k hk => by rw [segm_congr hs]; exact h k hk]

end Jam

/-- What is sent on a field segment passes the boundary cells by. -/
theorem emit_field {o : Output} (h : o.atCells = false) : s.emit o = { s with out := o :: s.out } := by
  rw [emit_eq, h, Bool.and_false, if_neg Bool.false_ne_true]

section Sending
variable {j : T1sJob} {rest : List T1sJob} {bits : Nat}

theorem t1sSendComplete_spec (hg : g < 4) (hd : s.domOn pdField = true) (hst : (s.segm g).st = .send) (hq : (s.segm g).queue = j :: rest)
    (hu : u = s.t1sSendComplete g) : (u.segm g).queue = rest ∧ (u.segm g).st = (if rest = [] then SegState.idle else SegState.defer) ∧
    (.t1s g (padFrame j.octets ++ fcs (padFrame j.octets)) :: s.out) <:+ u.out ∧
    u.reg (Reg.T1Ss_CNT g 0) = satWord (s.reg (Reg.T1Ss_CNT g 0)) 1 := by
  obtain ⟨x, hx⟩ : ∃ x, x = s.emit (.t1s g (padFrame j.octets ++ fcs (padFrame j.octets))) := ⟨_, rfl⟩
  obtain ⟨y, hy⟩ : ∃ y, y = x.t1sCount g 0 := ⟨_, rfl⟩
  have he : u = y.t1sNext g 0 s.now := by
    rw [hu, hy, hx]
    unfold State.t1sSendComplete
    dsimp only
    rw [hd, decide_eq_true hst, Bool.and_true, if_pos rfl, hq]
  rw [emit_field rfl] at hx
  have hyw : Within 0x8 x y := hy ▸ within_t1sCount x g 0
  have hyc : y.reg (Reg.T1Ss_CNT g 0) = satWord (s.reg (Reg.T1Ss_CNT g 0)) 1 := by
    have hxr : x.reg (Reg.T1Ss_CNT g 0) = s.reg (Reg.T1Ss_CNT g 0) := hx ▸ rfl
    rw [← hxr]
    exact hy ▸ reg_setReg_self
  have hyg : y.segm g = s.segm g := (segm_congr (hyw.segments rfl)).trans (hx ▸ rfl)
  obtain ⟨hug, hout, -, -, hul⟩ := t1sNext_spec hg (hyg.symm ▸ hq) he
  refine ⟨?_, ?_, ?_, ?_⟩
  · rw [hug]
    rfl
  · rw [hug]
    cases rest <;> rfl
  · have hxo : x.out = .t1s g (padFrame j.octets ++ fcs (padFrame j.octets)) :: s.out := hx ▸ rfl
    rw [← hxo, ← hyw.out rfl]
    exact hout
  · rw [hul _ (quiet_t1s hg (by decide)), hyc]

theorem t1sCollision_eq (hd : s.domOn pdField = true) (hst : (s.segm g).st = .send) : s.t1sCollision g bits =
    (fun y : State => if 512 < bits then ((y.t1sCount g 3).setRb (Reg.T1Ss_STATUS g) 9 true).t1sNext g 4 (y.now + t1sJamFs)
      else ((y.t1sCount g 1).setSegm g { s.segm g with st := .jam, n := (s.segm g).n + 1, until_ := y.now + t1sJamFs }).t1sShow g)
      { s with out := .jam g t1sJamPattern :: s.out } := by
  unfold State.t1sCollision
  dsimp only
  rw [hd, decide_eq_true hst, if_neg (by decide), emit_field rfl]

/-- A late collision: the frame is given up. -/
theorem t1sCollision_late (hg : g < 4) (hd : s.domOn pdField = true) (hst : (s.segm g).st = .send) (hq : (s.segm g).queue = j :: rest)
    (hb : 512 < bits) (hu : u = s.t1sCollision g bits) : (.jam g t1sJamPattern :: s.out) <:+ u.out ∧ (u.segm g).queue = rest ∧
    u.reg (Reg.T1Ss_CNT g 3) = satWord (s.reg (Reg.T1Ss_CNT g 3)) 1 ∧ u.rb (Reg.T1Ss_STATUS g) 9 = true := by
  rw [t1sCollision_eq hd hst] at hu
  dsimp only at hu
  rw [if_pos hb] at hu
  obtain ⟨x, hx⟩ : ∃ x, x = ({ s with out := .jam g t1sJamPattern :: s.out } : State) := ⟨_, rfl⟩
  have hxo : x.out = .jam g t1sJamPattern :: s.out := hx ▸ rfl
  have hxr : x.reg (Reg.T1Ss_CNT g 3) = s.reg (Reg.T1Ss_CNT g 3) := hx ▸ rfl
  have hxg : x.segm g = s.segm g := hx ▸ rfl
  rw [← hx] at hu
  obtain ⟨y, hy⟩ : ∃ y, y = (x.t1sCount g 3).setRb (Reg.T1Ss_STATUS g) 9 true := ⟨_, rfl⟩
  have hyw : Within 0x8 x y := hy ▸ (within_setRb _ _ _ _).after (by decide) (within_t1sCount x g 3)
  have hyb : y.rb (Reg.T1Ss_STATUS g) 9 = true := hy ▸ rb_setRb_self (by decide)
  have hyc : y.reg (Reg.T1Ss_CNT g 3) = satWord (s.reg (Reg.T1Ss_CNT g 3)) 1 := by
    rw [hy, reg_setRb, if_neg (quiet_t1s hg (by decide)).2, ← hxr]
    exact reg_setReg_self
  rw [← hy] at hu
  obtain ⟨hug, hout, -, hbit, hul⟩ := t1sNext_spec hg (by rw [segm_congr (hyw.segments rfl), hxg]; exact hq) hu
  refine ⟨?_, ?_, ?_, ?_⟩
  · rw [← hxo, ← hyw.out rfl]
    exact hout
  · rw [hug]
    rfl
  · rw [hul _ (quiet_t1s hg (by decide)), hyc]
  · rw [hbit 9 (by decide), hyb]

/-- An early collision: the jam is sent, and the segment waits for its end. -/
theorem t1sCollision_early (hg : g < 4) (hd : s.domOn pdField = true) (hst : (s.segm g).st = .send)
    (hb : bits ≤ 512) (hu : u = s.t1sCollision g bits) : u.out = .jam g t1sJamPattern :: s.out ∧
    u.segm g = { s.segm g with st := .jam, n := (s.segm g).n + 1, until_ := s.now + t1sJamFs } ∧
    u.reg (Reg.T1Ss_CNT g 1) = satWord (s.reg (Reg.T1Ss_CNT g 1)) 1 ∧
    AllRegsKept s u [Reg.T1Ss_CNT g 1, Reg.T1Ss_STATUS g] := by
  rw [t1sCollision_eq hd hst] at hu
  dsimp only at hu
  rw [if_neg (Nat.not_lt.2 hb)] at hu
  obtain ⟨x, hx⟩ : ∃ x, x = ({ s with out := .jam g t1sJamPattern :: s.out } : State) := ⟨_, rfl⟩
  have hxo : x.out = .jam g t1sJamPattern :: s.out := hx ▸ rfl
  have hxr : x.regs = s.regs := hx ▸ rfl
  rw [← hx] at hu
  obtain ⟨y, hy⟩ : ∃ y, y = (x.t1sCount g 1).setSegm g { s.segm g with st := .jam, n := (s.segm g).n + 1, until_ := s.now + t1sJamFs } :=
    ⟨_, rfl⟩
  have hyg : y.segm g = { s.segm g with st := .jam, n := (s.segm g).n + 1, until_ := s.now + t1sJamFs } := hy ▸ segm_setSegm
  have hyo : y.out = x.out := hy ▸ rfl
  have hyl : Leaves (· ≠ Reg.T1Ss_CNT g 1) x y :=
    hy ▸ (leaves_setReg (P := (· ≠ Reg.T1Ss_CNT g 1)) (by simp)).trans leaves_setSegm
  have hyc : y.reg (Reg.T1Ss_CNT g 1) = satWord (x.reg (Reg.T1Ss_CNT g 1)) 1 := hy ▸ reg_setReg_self
  have hu' : u = y.t1sShow g := by rw [hu, hy, hx]
  obtain ⟨-, -, -, hul, huw⟩ := t1sShow_spec hu'
  refine ⟨?_, (segm_congr (huw.segments rfl)).trans hyg, ?_, fun o ho => ?_⟩
  · rw [huw.out rfl, hyo, hxo]
  · rw [hul _ (quiet_t1s hg (by decide)).2, hyc, State.reg, hxr]
    rfl
  · obtain ⟨h1, h2⟩ : o ≠ Reg.T1Ss_CNT g 1 ∧ o ≠ Reg.T1Ss_STATUS g := by simpa using ho
    rw [hul o h2, hyl o h1, State.reg, hxr]
    rfl

end Sending

/-! ### The seed -/

/-- The seed is loaded at the segment's next draw. -/
def State.seeded (s : State) (g : Nat) : State := s.setSegm g { s.segm g with seedPend := true }

theorem segm_seeded (g k : Fin 4) : (s.seeded g).segm k = if k = g then { s.segm k with seedPend := true } else s.segm k := by
  by_cases h : k = g
  · rw [if_pos h, h]
    exact segm_setSegm
  · rw [if_neg h]
    exact segm_setSegm_ne fun c => h (Fin.ext c)

theorem t1sHook_seed : s.t1sHook Reg.T1S_SEED = (((s.seeded (0 : Fin 4)).seeded (1 : Fin 4)).seeded (2 : Fin 4)).seeded (3 : Fin 4) := by
  unfold State.t1sHook
  rw [if_pos rfl]
  rfl

theorem segm_t1sHook (g : Fin 4) : (s.t1sHook Reg.T1S_SEED).segm g = { s.segm g with seedPend := true } := by
  rw [t1sHook_seed]
  simp only [segm_seeded]
  fin_cases g <;> rfl

/-! ### Reception -/

theorem leaves_returnFrame {P : Nat → Prop} (hP : ∀ o, P o → Quiet o) {r : Nat} (hr : r < 32) {i : FrameInfo} {f : List Byte} {ok : Bool}
    {l : List (Nat × Option (Nat × Nat))} : ∀ (s : State) (first : Bool), Leaves P s (returnFrame r i f ok s first l) := by
  induction l with
  | nil => exact fun s _ => .refl s
  | cons a l ih =>
    intro s first
    unfold returnFrame
    dsimp only
    split
    · exact (leaves_ringReturn hP hr).trans (ih _ _)
    · exact ((leaves_hostWrite _ _).trans (leaves_ringReturn hP hr)).trans (ih _ _)

theorem leaves_postFrame {P : Nat → Prop} (hP : ∀ o, P o → Quiet o) {r : Nat} (hr : r < 32) {i : FrameInfo} {f : List Byte} :
    Leaves P s (s.postFrame r f i) := by
  have hcnt : ¬ P (Reg.RNG_CNT r 2) := fun h => (hP _ h).2.1 (by unfold Reg.RNG_CNT; omega)
  unfold State.postFrame
  dsimp only
  split
  · split
    · exact leaves_returnFrame hP hr _ _
    · split
      · exact ((leaves_returnFrame hP hr _ _).trans (leaves_bump hcnt)).trans (leaves_ringExhaust hP hr)
      · exact (leaves_returnFrame hP hr _ _).trans (leaves_ringExhaust hP hr)
  · exact leaves_ringExhaust hP hr

section Receive
variable {f sum : List Byte} {full : Bool}

theorem t1sReceive_eq (hs : sum.length = 4) (hd : s.domOn pdField = true) (he : s.rb (Reg.T1Ss_CTRL g) 0 = true)
    (hr : s.rb (Reg.T1Ss_CTRL g) 1 = true) (hmin : 60 ≤ f.length) (hmax : f.length ≤ 1518) : s.t1sReceive g (f ++ sum) full =
      if sum ≠ fcs f then (s.t1sHeard g).t1sCount g 5
      else if !(s.t1sHeard g).t1sAccepts g (f.take 6) then s.t1sHeard g
      else if full then ((s.t1sHeard g).t1sCount g 6).flagRaise (Reg.T1Ss_STATUS g) 10 19 g
      else ((s.t1sHeard g).t1sCount g 4).postFrame 11 f { port := g } := by
  have hlen : (f ++ sum).length = f.length + 4 := by rw [List.length_append, hs]
  have htake : (f ++ sum).take f.length = f := List.take_left
  have hdrop : (f ++ sum).drop f.length = sum := List.drop_left
  unfold State.t1sReceive
  dsimp only
  rw [hd, he, hr, if_neg (by decide), if_neg (by decide), hlen, Nat.add_sub_cancel, htake, hdrop, decide_eq_false (by omega),
    decide_eq_false (by omega), Bool.false_or, Bool.false_or]
  simp only [decide_eq_true_eq]

/-- A frame with a good FCS that the filter passes, where the buffer holds it. -/
def State.t1sKept (s : State) (g : Nat) (f : List Byte) : State := ((s.t1sHeard g).t1sCount g 4).postFrame 11 f { port := g }

/-- The same where the buffer is full. -/
def State.t1sFull (s : State) (g : Nat) : State := ((s.t1sHeard g).t1sCount g 6).flagRaise (Reg.T1Ss_STATUS g) 10 19 g

theorem t1sReceive_good (hf : sum = fcs f) (hacc : s.t1sAccepts g (f.take 6) = true)
    (h : s.t1sReceive g (f ++ sum) full = if sum ≠ fcs f then (s.t1sHeard g).t1sCount g 5
      else if !(s.t1sHeard g).t1sAccepts g (f.take 6) then s.t1sHeard g
      else if full then ((s.t1sHeard g).t1sCount g 6).flagRaise (Reg.T1Ss_STATUS g) 10 19 g
      else ((s.t1sHeard g).t1sCount g 4).postFrame 11 f { port := g }) :
    s.t1sReceive g (f ++ sum) full = if full then s.t1sFull g else s.t1sKept g f := by
  have hacc' : (s.t1sHeard g).t1sAccepts g (f.take 6) = true := hacc
  rw [h, if_neg (not_not.2 hf), hacc', Bool.not_true, if_neg Bool.false_ne_true, State.t1sFull, State.t1sKept]

theorem t1sHeard_count {k : Nat} : ((s.t1sHeard g).t1sCount g k).reg (Reg.T1Ss_CNT g k) = satWord (s.reg (Reg.T1Ss_CNT g k)) 1 :=
  reg_setReg_self

theorem t1sKept_spec (hg : g < 4) (hu : u = s.t1sKept g f) :
    u.reg (Reg.T1Ss_CNT g 4) = satWord (s.reg (Reg.T1Ss_CNT g 4)) 1 ∧ RegsKept s u [Reg.T1Ss_CNT g 4] := by
  have hl : Leaves Quiet ((s.t1sHeard g).t1sCount g 4) u := hu ▸ leaves_postFrame (fun _ h => h) (by decide)
  have hc : Leaves (· ≠ Reg.T1Ss_CNT g 4) (s.t1sHeard g) ((s.t1sHeard g).t1sCount g 4) := leaves_bump (by simp)
  have hh : Leaves (· ≠ Reg.T1Ss_CNT g 4) s (s.t1sHeard g) := leaves_setSegm
  refine ⟨(hl _ (quiet_t1s hg (by decide)).1).trans t1sHeard_count, regsKept_iff.2 ?_⟩
  exact ((hh.trans hc).mono fun o ho => by simpa using ho.2).trans (hl.mono fun o ho => ho.1)

theorem t1sFull_spec (hg : g < 4) (hu : u = s.t1sFull g) : u.reg (Reg.T1Ss_CNT g 6) = satWord (s.reg (Reg.T1Ss_CNT g 6)) 1 ∧
    u.rb (Reg.T1Ss_STATUS g) 10 = true ∧ u.event 19 = true := by
  have hq := quiet_t1s hg (k := 6) (by decide)
  have hst : Quiet (Reg.T1Ss_STATUS g) := by
    unfold Reg.T1Ss_STATUS
    omega
  subst hu
  exact ⟨(flagRaise_quiet hq.1 hq.2 (by decide)).trans t1sHeard_count, flagRaise_flag hst (by decide) (by decide), event_flagRaise (by decide)⟩

end Receive

/-- Settles O37: a segment's operations write its own queue, its status and its counters; the rest is what a returned descriptor raises. -/
theorem fieldSegments : Obligations.FieldSegments := by
  unfold Obligations.FieldSegments
  refine ⟨fun s hd => ⟨?_, ?_, ?_, ?_⟩, fun s => ⟨?_, ?_, ?_, ?_, ?_, ?_⟩⟩
  · intro d desc hs h1 hh hdesc hdd hc hseg hts h0 hl hb hq
    have hex : exec .t1sDescriptorTake s = .next _ :=
      congrArg Host.Outcome.next (t1sTake_eq hd hs h1 hh hdesc hdd hc hseg hts h0 hl hb hq)
    obtain ⟨y, hy⟩ : ∃ y, y = s.t1sTook.setSegm d.segment
      ((s.segm d.segment).join ⟨s.t1sNum, s.t1sTook.hostRead (bufAddr desc) d.len⟩) := ⟨_, rfl⟩
    have hyg : y.segm d.segment = (s.segm d.segment).join ⟨s.t1sNum, s.hostRead (bufAddr desc) d.len⟩ := hy ▸ segm_setSegm
    have hyo : ∀ g, g ≠ d.segment → y.segm g = s.segm g := fun g hg => by
      rw [hy, segm_setSegm_ne hg]
      rfl
    have hyt : y.t1sTaken = s.t1sTaken ++ [⟨s.t1sNum, none⟩] ∧ y.t1sNum = s.t1sNum + 1 := hy ▸ ⟨rfl, rfl⟩
    rw [← hy] at hex
    have hw := within_t1sShow y d.segment
    refine ⟨_, hex, (hw.t1sTaken rfl).trans hyt.1, (hw.t1sNum rfl).trans hyt.2, ?_, fun hi => ?_, fun g hg => ?_⟩
    · rw [segm_congr (hw.segments rfl), hyg]
      rfl
    · rw [segm_congr (hw.segments rfl), hyg]
      exact if_pos hi
    · rw [segm_congr (hw.segments rfl), hyo g hg]
  · intro g hgap
    refine congrArg Host.Outcome.next ?_
    unfold State.t1sDeferEnd
    dsimp only
    rw [hgap, Bool.and_false]
    exact if_neg Bool.false_ne_true
  · intro g he hst hgap
    obtain ⟨y, hy⟩ : ∃ y, y = s.setSegm g { s.segm g with st := .send } := ⟨_, rfl⟩
    have hyg : y.segm g = { s.segm g with st := .send } := hy ▸ segm_setSegm
    have hex : exec (.t1sDeferEnd g) s = .next (y.t1sShow g) := by
      refine congrArg Host.Outcome.next ?_
      rw [hy]
      unfold State.t1sDeferEnd
      dsimp only
      rw [hgap, hd, he, decide_eq_true hst]
      exact if_pos rfl
    obtain ⟨h0, h1, -, hl, hw⟩ := t1sShow_spec (s := y) (g := g) rfl
    refine ⟨_, hex, (segm_congr (hw.segments rfl)).trans hyg, ?_, ?_, fun o ho => ?_, fun h hh => ?_⟩
    · rw [h0, hyg]
      rfl
    · rw [h1, hyg]
      rfl
    · rw [hl o (by simpa using ho), hy]
      rfl
    · rw [segm_congr (hw.segments rfl), hy, segm_setSegm_ne hh]
  · intro g j rest hst hq
    exact ⟨_, rfl, t1sSendComplete_spec g.isLt hd hst hq rfl⟩
  · intro g bits j rest hd hst hq
    exact ⟨fun hb => ⟨_, rfl, t1sCollision_late g.isLt hd hst hq hb rfl⟩, fun hb => ⟨_, rfl, t1sCollision_early g.isLt hd hst hb rfl⟩⟩
  · intro g x j rest u hp hu hx hst hq ht hother
    obtain ⟨hstep, hug⟩ := step_jam g hp hu hother
    rw [hx] at hst hq ht
    rw [← hug] at hst hq ht hx
    refine ⟨fun hn => ⟨_, hstep, t1sJamEnd_dropped g.isLt hst ht hq (hx ▸ hn) rfl⟩, fun hn => ⟨_, hstep, ?_⟩⟩
    rw [t1sJamEnd_backoff hst ht (hx ▸ hn), segm_congr ((within_t1sShow _ _).segments rfl), segm_setSegm, ← hx]
    rfl
  · intro g hd hst ht
    have hex : exec (.t1sBackoffExpiry g) s = .next ((s.setSegm g { s.segm g with st := .defer }).t1sShow g) := by
      refine congrArg Host.Outcome.next ?_
      unfold State.t1sBackoffExpiry
      dsimp only
      rw [hd, decide_eq_true hst, decide_eq_true ht]
      exact if_pos rfl
    refine ⟨_, hex, (segm_congr ((within_t1sShow _ _).segments rfl)).trans segm_setSegm, fun o ho => ?_⟩
    exact (t1sShow_spec rfl).2.2.2.1 o (by simpa using ho)
  · intro g ht
    refine congrArg Host.Outcome.next ?_
    unfold State.t1sBackoffExpiry
    dsimp only
    rw [decide_eq_false (Nat.not_le.2 ht), Bool.and_false]
    exact if_neg Bool.false_ne_true
  · intro v ha
    have hpoke : s.poke Reg.T1S_SEED v {} = (s.setReg Reg.T1S_SEED v).t1sHook Reg.T1S_SEED := by
      rw [ha.poke_plain (r := ⟨0xA0000, 0x4, 1, 0x4, 1, Config.uidLo, 0xFFFFFFFF, 0x0, 0x0, 0x0, .single, none⟩) (by decide) rfl rfl rfl,
        unitHook_t1s (by decide), merge_ones]
    have hex : exec (.t1sSeedWrite v) s = .next _ := congrArg Host.Outcome.next hpoke
    have hr : ((s.setReg Reg.T1S_SEED v).t1sHook Reg.T1S_SEED).regs = (s.setReg Reg.T1S_SEED v).regs :=
      (within_t1sHook _ _).regs rfl
    refine ⟨_, hex, ?_, fun g => segm_t1sHook g, fun o ho => ?_⟩
    · rw [State.reg, hr]
      exact reg_setReg_self
    · rw [State.reg, hr]
      exact reg_setReg_ne (by simpa using ho)
  · intro g f sum hs hd he hr hmin hmax
    have heq := fun full => t1sReceive_eq (full := full) hs hd he hr hmin hmax
    refine ⟨fun hne full => ?_, fun hfcs hacc => ?_⟩
    · have hex : exec (.t1sReceive g (f ++ sum) full) s = .next ((s.t1sHeard g).t1sCount g 5) :=
        congrArg Host.Outcome.next ((heq full).trans (if_pos hne))
      exact ⟨_, hex, reg_setReg_self, fun o ho => reg_setReg_ne (by simpa using ho), rfl⟩
    · have hgood := fun full => t1sReceive_good (full := full) hfcs hacc (heq full)
      exact ⟨⟨_, congrArg Host.Outcome.next (hgood false), t1sKept_spec g.isLt rfl⟩,
        ⟨_, congrArg Host.Outcome.next (hgood true), t1sFull_spec g.isLt rfl⟩⟩

end Sys2Proof.Machine

/-! Results of commands (R50); seats, their commands and silence (R174, R176, R178, R184). -/

namespace Sys2Proof.Machine

-- One declaration after another: side by side, their threads' stacks pass the memory limit of a check.
set_option Elab.async false

variable {s t u x : State}

/-! ### The result of a command -/

section Results
variable {st cmd res o : Nat}

/-- The result of a command stands in its group's status register. -/
def State.resultShown (s : State) (st res : Nat) : State := (s.setRf st 16 8 res).publish st

theorem leaves_resultShown {P : Nat → Prop} (h : ¬ P st) : Leaves P s (s.resultShown st res) := (leaves_setRf h).trans (leaves_publish h)

theorem reported_resultShown (h : res < 256) : s.Reported (s.resultShown st res) st res := by
  have h16 : fld (setFld (s.reg st) 16 8 res) 16 8 = res := by rw [fld_setFld (by decide), Nat.mod_eq_of_lt (b := 2 ^ 8) h]
  have h0 : fld (setFld (s.reg st) 16 8 res) 0 16 = fld (s.reg st) 0 16 := fld_setFld_ne (by decide) (.inl (by decide))
  refine ⟨?_, rb_setRb_self (by decide), ?_⟩
  · rw [State.rf, State.resultShown, State.publish, reg_setRb, if_pos rfl, fld_setBit_ne (by decide) (.inl (by decide)), reg_setRf, if_pos rfl,
      fld_setFld_ne (by decide) (.inr (by decide)), reg_setRf, if_pos rfl, h16]
  · rw [State.rf, State.resultShown, State.publish, reg_setRb, if_pos rfl, fld_setBit_ne (by decide) (.inl (by decide)), reg_setRf, if_pos rfl,
      fld_setFld (by decide), State.rf, reg_setRf, if_pos rfl, h0]
    rfl

theorem State.Reported.after (h : s.Reported t st res) (hu : u.reg st = t.reg st) : s.Reported u st res := by
  unfold State.Reported State.rf State.rb at *
  rw [hu]
  exact h

theorem State.Reported.of_seq (h : x.Reported t st res) (hs : x.rf st 0 16 = s.rf st 0 16) : s.Reported t st res := by
  unfold State.Reported at *
  rw [← hs]
  exact h

theorem unready_seq : (s.unready st).rf st 0 16 = s.rf st 0 16 := by
  rw [State.rf, State.unready, reg_setRb, if_pos rfl, fld_setBit_ne (by decide) (.inl (by decide))]
  rfl

end Results

/-! ### What the tables of seats and forms read -/

section Congr
variable {code d f m : Nat}

theorem seatW_congr (h : t.tables = s.tables) : t.seatW code d = s.seatW code d := by
  rw [State.seatW, State.tw, h]
  rfl

theorem seatW_setSeatW {w : Word} : (s.setSeatW code d w).seatW code d = w := Tab.get_put_self
theorem seatW_setSeatW_ne {w : Word} {e : Nat} (h : e ≠ d) : (s.setSeatW code d w).seatW code e = s.seatW code e :=
  Tab.get_put_ne fun c => h (Nat.add_left_cancel c)

theorem seat_congr (h : t.seats = s.seats) : t.seat code = s.seat code := by
  rw [State.seat, h]
  rfl

theorem seat_setSeat {y : Option Seat} : (s.setSeat code y).seat code = y := Tab.get_put_self

theorem form_congr (h : t.forms = s.forms) : t.form f = s.form f := by
  rw [State.form, h]
  rfl

theorem form_setForm {y : Form} : (s.setForm f y).form f = y := Tab.get_put_self
theorem form_setForm_ne {y : Form} {g : Nat} (h : g ≠ f) : (s.setForm f y).form g = s.form g := Tab.get_put_ne h

theorem memberOf_congr (h : t.form f = s.form f) : t.memberOf f m = s.memberOf f m := by
  rw [State.memberOf, h]
  rfl

theorem seatForm_congr (h : t.tables = s.tables) : t.seatForm code = s.seatForm code := by
  rw [State.seatForm, seatW_congr h]
  rfl

theorem seatRecLen_congr (h : t.tables = s.tables) : t.seatRecLen code = s.seatRecLen code := by
  unfold State.seatRecLen
  rw [seatW_congr h]

theorem descOk_congr (h : t.tables = s.tables) : t.descOk code = s.descOk code := by
  unfold State.descOk
  simp only [seatW_congr h]

theorem descKey_congr (h : t.tables = s.tables) : t.descKey code = s.descKey code := by
  unfold State.descKey State.seatOctets
  simp only [seatW_congr h]

/-- The registers of the forms. -/
abbrev OfForms (o : Nat) : Prop := 0xF1000 ≤ o ∧ o < 0xF3000

theorem formState_congr (hf : f < 256) (h : Leaves OfForms s t) : t.formState f = s.formState f := h.rf (by unfold Reg.FORM_STATUS OfForms; omega) 10 2

theorem regPar_congr (hf : f < 256) (h : Leaves OfForms s t) : t.regPar f = s.regPar f := by
  unfold State.regPar
  rw [h (Reg.FORM_CTRL f) (by unfold Reg.FORM_CTRL OfForms; omega), h (Reg.FORM_WINDOW f) (by unfold Reg.FORM_WINDOW OfForms; omega),
    h.rf (o := Reg.FORM_DEADLINE f) (by unfold Reg.FORM_DEADLINE OfForms; omega),
    h.pair (lo := Reg.FORM_STORE_LO f) (by unfold Reg.FORM_STORE_LO OfForms; omega) (by unfold Reg.FORM_STORE_LO OfForms; omega)]

theorem formPar_congr (hf : f < 256) (h : Leaves OfForms s t) (hx : t.form f = s.form f) : t.formPar f = s.formPar f := by
  unfold State.formPar
  rw [formState_congr hf h, regPar_congr hf h, hx]

theorem freeMember_congr (hf : f < 256) (h : Leaves OfForms s t) (hx : t.form f = s.form f) : t.freeMember f d = s.freeMember f d := by
  unfold State.freeMember State.quarantined
  simp only [formPar_congr hf h hx, memberOf_congr hx, hx]

theorem seatForm_lt : s.seatForm code < 256 := fld_lt

end Congr

/-! ### Members of a form -/

section Members
variable {f m code : Nat}

theorem bind_spec (hf : f < 256) (hu : u = s.bind f m code) : u.memberOf f m = some code ∧
    u.rf (Reg.FORM_STATUS f) 12 15 = (s.rf (Reg.FORM_STATUS f) 12 15 + 1) % 2 ^ 15 ∧ Leaves (· ≠ Reg.FORM_STATUS f) s u := by
  have hform : (s.bind f m code).form f = { s.form f with
      members := Tab.put (fun _ => 0) (s.form f).members m (code + 1)
      quarantine := (s.form f).quarantine.filter (fun e => decide (e.1 ≠ m)) } := form_setForm
  subst hu
  refine ⟨?_, rf_setRf_self (by decide), ?_⟩
  · rw [State.memberOf, hform]
    dsimp only
    rw [Tab.get_put_self]
  · exact (Leaves.of_regs rfl).trans (leaves_setRf (s := s.setForm f { s.form f with
      members := Tab.put (fun _ => 0) (s.form f).members m (code + 1)
      quarantine := (s.form f).quarantine.filter (fun e => decide (e.1 ≠ m)) }) (by simp))

theorem unbind_spec (hu : u = s.unbind f m) :
    u.memberOf f m = none ∧ (m, (s.form f).releases) ∈ (u.form f).quarantine ∧ Leaves (· ≠ Reg.FORM_STATUS f) s u := by
  have hform : (s.unbind f m).form f = { s.form f with
      members := Tab.put (fun _ => 0) (s.form f).members m 0
      quarantine := (m, (s.form f).releases) :: (s.form f).quarantine } := form_setForm
  subst hu
  refine ⟨?_, ?_, ?_⟩
  · rw [State.memberOf, hform]
    dsimp only
    rw [Tab.get_put_self]
  · rw [hform]
    exact List.mem_cons_self
  · exact (Leaves.of_regs rfl).trans (leaves_setRf (s := s.setForm f { s.form f with
      members := Tab.put (fun _ => 0) (s.form f).members m 0
      quarantine := (m, (s.form f).releases) :: (s.form f).quarantine }) (by simp))

end Members

/-! ### The seat command -/

section Command
variable {v : Word} {code : Nat}

/-- The command is written: the result of the one before is no longer READY. -/
def State.seatAsked (s : State) (v : Word) : State :=
  (s.setReg Reg.ITK_SEAT_CMD (merge 0x3FFF000F v (s.reg Reg.ITK_SEAT_CMD))).unready Reg.ITK_SEAT_STATUS

theorem leaves_seatAsked : Leaves (fun o => o ≠ Reg.ITK_SEAT_CMD ∧ o ≠ Reg.ITK_SEAT_STATUS) s (s.seatAsked v) :=
  (leaves_setReg fun h => h.1 rfl).trans (leaves_unready fun h => h.2 rfl)

theorem seatAsked_cmd : (s.seatAsked v).reg Reg.ITK_SEAT_CMD = merge 0x3FFF000F v (s.reg Reg.ITK_SEAT_CMD) :=
  (rb_reg_ne (by decide)).trans reg_setReg_self
where rb_reg_ne {y : State} {o p i : Nat} {b : Bool} (h : p ≠ o) : (y.setRb o i b).reg p = y.reg p := reg_setRb.trans (if_neg h)

theorem poke_seatCmd (h : s.Accepts Reg.ITK_SEAT_CMD v) (hgo : bit v 0 = true) : s.poke Reg.ITK_SEAT_CMD v {} =
    if fld v 1 2 = 1 then (s.seatAsked v).seatAdd else (s.seatAsked v).seatRemove := by
  have hrf : (s.seatAsked v).rf Reg.ITK_SEAT_CMD 1 2 = fld v 1 2 := by
    rw [State.rf, seatAsked_cmd, fld_merge (by decide)]
  have hb : (s.setReg Reg.ITK_SEAT_CMD (merge 0x3FFF000F v (s.reg Reg.ITK_SEAT_CMD))).rb Reg.ITK_SEAT_CMD 0 = true := by
    rw [State.rb, reg_setReg_self, bit_merge, if_pos (by decide), hgo]
  rw [h.poke_plain (r := ⟨0xE000C, 0x4, 1, 0x4, 1, 0x0, 0x3FFF000F, 0x0, 0x0, 0x0, .single, none⟩) (by decide) rfl rfl rfl,
    unitHook_itk (by decide), State.itkHook, if_pos rfl, if_pos hb, State.seatCommand]
  dsimp only
  rw [← State.seatAsked, hrf]

theorem cmdSeat_asked : (s.seatAsked v).cmdSeat = if bit v 3 then localCode (fld v 16 14) else fld v 16 14 := by
  unfold State.cmdSeat
  dsimp only
  rw [seatAsked_cmd, bit_merge, if_pos (c := bit (0x3FFF000F : Word) 3 = true) (by decide), fld_merge (by decide)]

theorem seatAsked_seq : (s.seatAsked v).rf Reg.ITK_SEAT_STATUS 0 16 = s.rf Reg.ITK_SEAT_STATUS 0 16 := by
  refine unready_seq.trans ?_
  rw [State.rf, reg_setReg_ne (by decide)]
  rfl

/-- The result of a seat command. -/
theorem seatResult_spec {res : Nat} (h : res < 256) (hu : u = s.seatResult res) :
    s.Reported u Reg.ITK_SEAT_STATUS res ∧ u.rb Reg.ITK_SEAT_CMD 0 = false ∧
    Leaves (fun o => o ≠ Reg.ITK_SEAT_CMD ∧ o ≠ Reg.ITK_SEAT_STATUS) s u ∧ Within 0x8 s u := by
  have hw := hu ▸ within_seatResult s res
  have he : u = (s.resultShown Reg.ITK_SEAT_STATUS res).setRb Reg.ITK_SEAT_CMD 0 false := hu
  refine ⟨?_, ?_, ?_, hw⟩
  · rw [he]
    exact State.Reported.after (reported_resultShown h) (reg_setRb.trans (if_neg (by decide)))
  · rw [he]
    exact rb_setRb_self (by decide)
  · rw [he]
    exact (leaves_resultShown fun h => h.2 rfl).trans (leaves_setRb fun h => h.1 rfl)

/-- A refused command leaves its result and nothing else. -/
theorem seatRefused_spec {res : Nat} (h : res < 256) (hu : u = (s.seatAsked v).seatResult res) :
    s.Reported u Reg.ITK_SEAT_STATUS res ∧ u.rb Reg.ITK_SEAT_CMD 0 = false ∧
    AllRegsKept s u [Reg.ITK_SEAT_CMD, Reg.ITK_SEAT_STATUS] ∧ OnlyRegs s u := by
  obtain ⟨hrep, hgo, hl, hw⟩ := seatResult_spec h hu
  have hwa : Within 0x8 s (s.seatAsked v) := (within_setRb _ _ _ _).after (by decide) (within_setReg s _ _)
  refine ⟨hrep.of_seq seatAsked_seq, hgo, fun o ho => ?_, (hw.after (by decide) hwa).onlyRegs⟩
  exact (leaves_seatAsked.trans hl) o (by simpa using ho)

/-! #### SEAT_ADD -/

/-- Seat `code` is installed as member `m` of its form. -/
def State.installed (s : State) (code m : Nat) : State :=
  (fun y : State => (y.setSeatW code 0 (setBit (y.seatW code 0) 0 true)).setSeatW code 0x80 0)
    ((s.bind (s.seatForm code) m code).setSeat code (some { form := s.seatForm code, member := m, heard := s.now }))

/-- The installed seats are counted. -/
def State.seatsUp (s : State) (code : Nat) : State :=
  if code < 0x4000 then s.setRf Reg.ITK_SEATS 0 15 (s.rf Reg.ITK_SEATS 0 15 + 1) else s

theorem seatAdd_refused (hc : s.cmdSeat = code) (h : s.seat code ≠ none) : s.seatAdd = s.seatResult 3 := by
  unfold State.seatAdd
  dsimp only
  rw [hc]
  exact if_pos (Option.isSome_iff_ne_none.2 h)

theorem seatAdd_installs {m : Nat} (hc : s.cmdSeat = code) (h : s.seat code = none) (hd : s.descOk code = true)
    (hk : code < 0x4000 → ∀ n ∈ s.remoteSeats, s.descKey n ≠ s.descKey code)
    (hm : s.freeMember (s.seatForm code) (s.seatRecLen code) = some m) :
    s.seatAdd = ((s.installed code m).seatsUp code).seatResult 0 := by
  have hkey : ¬ ((decide (code < 0x4000) && s.remoteSeats.any (fun n => s.descKey n = s.descKey code)) = true) := fun hb => by
    obtain ⟨h1, h2⟩ := Bool.and_eq_true_iff.1 hb
    obtain ⟨n, hn, he⟩ := List.any_eq_true.1 h2
    exact hk (of_decide_eq_true h1) n hn (of_decide_eq_true he)
  unfold State.seatAdd State.seatsUp State.installed
  dsimp only
  rw [hc, h, hd, hm, if_neg (by decide), if_neg (by decide), if_neg hkey]

theorem seatsUp_spec (hu : u = s.seatsUp code) : Leaves (· ≠ Reg.ITK_SEATS) s u ∧ Within 0x8 s u ∧
    (code < 0x4000 → u.rf Reg.ITK_SEATS 0 15 = (s.rf Reg.ITK_SEATS 0 15 + 1) % 2 ^ 15) := by
  subst hu
  unfold State.seatsUp
  split
  · exact ⟨leaves_setRf (by simp), within_setRf _ _ _ _ _, fun _ => rf_setRf_self (by decide)⟩
  · next h => exact ⟨.refl s, .refl s, fun c => absurd c h⟩

theorem installed_spec {m : Nat} (hu : u = s.installed code m) :
    u.seat code = some { form := s.seatForm code, member := m, heard := s.now } ∧
    u.memberOf (s.seatForm code) m = some code ∧ bit (u.seatW code 0) 0 = true ∧ u.seatW code 0x80 = 0 ∧
    u.rf (Reg.FORM_STATUS (s.seatForm code)) 12 15 = (s.rf (Reg.FORM_STATUS (s.seatForm code)) 12 15 + 1) % 2 ^ 15 ∧
    Leaves (· ≠ Reg.FORM_STATUS (s.seatForm code)) s u := by
  obtain ⟨y, hy⟩ : ∃ y, y = s.bind (s.seatForm code) m code := ⟨_, rfl⟩
  obtain ⟨hm, hf, hl⟩ := bind_spec (s := s) seatForm_lt hy
  obtain ⟨z, hz⟩ : ∃ z, z = y.setSeat code (some { form := s.seatForm code, member := m, heard := s.now }) := ⟨_, rfl⟩
  have hzs : z.seat code = some { form := s.seatForm code, member := m, heard := s.now } := hz ▸ seat_setSeat
  have hzf : z.forms = y.forms := hz ▸ rfl
  have hzr : z.regs = y.regs := hz ▸ rfl
  have he : u = (z.setSeatW code 0 (setBit (z.seatW code 0) 0 true)).setSeatW code 0x80 0 := by rw [hu, hz, hy, State.installed]
  clear hu hz hy
  subst he
  have hr : ∀ o, (State.setSeatW (z.setSeatW code 0 (setBit (z.seatW code 0) 0 true)) code 0x80 0).reg o = y.reg o := fun o => by
    rw [State.reg, State.reg, ← hzr]
    rfl
  refine ⟨hzs, (memberOf_congr (form_congr hzf)).trans hm, ?_, seatW_setSeatW, ?_, fun o ho => (hr o).trans (hl o ho)⟩
  · rw [seatW_setSeatW_ne (by decide), seatW_setSeatW, bit_setBit (by decide)]
  · rw [State.rf, hr]
    exact hf

/-! #### SEAT_REMOVE -/

theorem seatRemove_refused (hc : s.cmdSeat = code) (h : s.seat code = none) : s.seatRemove = s.seatResult 3 := by
  unfold State.seatRemove
  rw [hc, h]
  exact if_pos rfl

theorem seatRemove_uninstalls (hc : s.cmdSeat = code) (hgo : s.rb Reg.ITK_SEAT_CMD 0 = true) (hop : s.rf Reg.ITK_SEAT_CMD 1 2 = 2)
    (h : s.seat code ≠ none) (hg : ∀ g ∈ s.seated, g.code ≠ code) : s.seatRemove = (s.uninstall code).seatResult 0 := by
  have hnone : ¬ ((s.seat code).isNone = true) := fun c => h (Option.isNone_iff_eq_none.1 c)
  have hall : (s.seated.all fun g => decide (g.code ≠ code)) = true := List.all_eq_true.2 fun g hm => decide_eq_true (hg g hm)
  have hgo' : bit (s.reg Reg.ITK_SEAT_CMD) 0 = true := hgo
  have hop' : fld (s.reg Reg.ITK_SEAT_CMD) 1 2 = 2 := hop
  unfold State.seatRemove State.removeFinish
  dsimp only
  rw [hc, if_neg hnone, hgo', hop', hall]
  exact if_pos rfl

/-- SILENT of a removed seat clears without an event. -/
def State.silentOff (s : State) (code : Nat) : State :=
  if bit (s.seatW code 0x80) 0 then (s.setSeatW code 0x80 0).setRf Reg.ITK_SEATS 16 15 (s.rf Reg.ITK_SEATS 16 15 - 1) else s

/-- The installed seats are counted down. -/
def State.seatsDown (s : State) (code : Nat) : State :=
  if code < 0x4000 then s.setRf Reg.ITK_SEATS 0 15 (s.rf Reg.ITK_SEATS 0 15 - 1) else s

theorem silentOff_spec (hu : u = s.silentOff code) : u.forms = s.forms ∧ Leaves (· ≠ Reg.ITK_SEATS) s u := by
  subst hu
  unfold State.silentOff
  split
  · exact ⟨rfl, (Leaves.of_regs rfl).trans (leaves_setRf (s := s.setSeatW code 0x80 0) (by simp))⟩
  · exact ⟨rfl, .refl s⟩

theorem seatsDown_spec (hu : u = s.seatsDown code) : u.forms = s.forms ∧ Leaves (· ≠ Reg.ITK_SEATS) s u := by
  subst hu
  unfold State.seatsDown
  split
  · exact ⟨rfl, leaves_setRf (by simp)⟩
  · exact ⟨rfl, .refl s⟩

theorem uninstall_spec {y : Seat} (hs : s.seat code = some y) (hm : y.move = none) (hu : u = s.uninstall code) :
    u.seat code = none ∧ u.memberOf y.form y.member = none ∧ (y.member, (s.form y.form).releases) ∈ (u.form y.form).quarantine ∧
    bit (u.seatW code 0) 0 = false ∧ Leaves (fun o => o < 0xE0014) s u := by
  obtain ⟨a, ha⟩ : ∃ a, a = s.unbind y.form y.member := ⟨_, rfl⟩
  obtain ⟨b, hb⟩ : ∃ b, b = a.silentOff code := ⟨_, rfl⟩
  obtain ⟨c, hc⟩ : ∃ c, c = b.seatsDown code := ⟨_, rfl⟩
  have he : u = (c.setSeatW code 0 (setBit (c.seatW code 0) 0 false)).setSeat code none := by
    rw [hu, hc, hb, ha]
    unfold State.uninstall State.seatsDown State.silentOff
    rw [hs]
    dsimp only
    rw [hm]
  obtain ⟨am, aq, al⟩ := unbind_spec ha
  obtain ⟨bf, bl⟩ := silentOff_spec hb
  obtain ⟨cf, cl⟩ := seatsDown_spec hc
  have huf : u.forms = a.forms := by rw [← bf, ← cf, he]; rfl
  have hur : u.regs = c.regs := by rw [he]; rfl
  refine ⟨?_, (memberOf_congr (form_congr huf)).trans am, ?_, ?_, ?_⟩
  · rw [he]
    exact seat_setSeat
  · rw [form_congr huf]
    exact aq
  · have : u.seatW code 0 = setBit (c.seatW code 0) 0 false := by
      rw [he]
      exact seatW_setSeatW
    rw [this, bit_setBit (by decide)]
  · refine (((al.mono fun o ho => ?_).trans (bl.mono fun o ho => ?_)).trans (cl.mono fun o ho => ?_)).trans (.of_regs hur)
    · unfold Reg.FORM_STATUS
      omega
    · unfold Reg.ITK_SEATS
      omega
    · unfold Reg.ITK_SEATS
      omega

end Command

/-! ### Silence -/

theorem streamSilent_spec {code : Nat} {y : Seat} (hs : s.seat code = some y) (hd : s.domOn pdRcl = true)
    (hms : fld (s.seatW code 0x40) 0 16 ≠ 0) (hb : bit (s.seatW code 0x80) 0 = false)
    (ht : y.heard + fld (s.seatW code 0x40) 0 16 * fsPerMs ≤ s.now) (hu : u = s.streamSilent code) :
    u.seatW code 0x80 = 1 ∧ u.rf Reg.ITK_SEATS 16 15 = (s.rf Reg.ITK_SEATS 16 15 + 1) % 2 ^ 15 ∧ u.rb Reg.ITK_STATUS 3 = true ∧
    u.event 29 = true ∧ u.seats = s.seats ∧ RegsKept s u [Reg.ITK_SEATS, Reg.ITK_STATUS] := by
  obtain ⟨z, hz⟩ : ∃ z, z = (s.setSeatW code 0x80 1).setRf Reg.ITK_SEATS 16 15 (s.rf Reg.ITK_SEATS 16 15 + 1) := ⟨_, rfl⟩
  have hzt : z.tables = (s.setSeatW code 0x80 1).tables := hz ▸ rfl
  have hzw : z.seatW code 0x80 = 1 := (seatW_congr hzt).trans seatW_setSeatW
  have hzn : z.rf Reg.ITK_SEATS 16 15 = (s.rf Reg.ITK_SEATS 16 15 + 1) % 2 ^ 15 := hz ▸ rf_setRf_self (by decide)
  have hzs : z.seats = s.seats := hz ▸ rfl
  have hzl : Leaves (· ≠ Reg.ITK_SEATS) s z := hz ▸ (Leaves.of_regs rfl).trans (leaves_setRf (s := s.setSeatW code 0x80 1) (by simp))
  have he : u = z.flagRaise Reg.ITK_STATUS 3 29 0 := by
    rw [hu, hz]
    unfold State.streamSilent
    rw [hs]
    dsimp only
    rw [hd, hb, decide_eq_true hms, decide_eq_true ht]
    exact if_pos rfl
  have hw : Within 0x1C6C8 z u := he ▸ within_flagRaise _ _ _ _ _
  have hl : Leaves (fun o => Quiet o ∧ o ≠ Reg.ITK_STATUS) z u :=
    he ▸ leaves_flagRaise (fun _ h => h.1) (fun h => h.2 rfl) (by decide)
  refine ⟨(seatW_congr (hw.tables rfl)).trans hzw, (hl.rf (by decide) 16 15).trans hzn, ?_, ?_, (hw.seats rfl).trans hzs, ?_⟩
  · rw [he]
    exact flagRaise_flag (by decide) (by decide) (by decide)
  · rw [he]
    exact event_flagRaise (by decide)
  · refine regsKept_iff.2 ((hzl.mono fun o ho => ?_).trans (hl.mono fun o ho => ?_))
    · exact fun c => ho.2 (by simp [c])
    · exact ⟨ho.1, fun c => ho.2 (by simp [c])⟩

/-- Settles O38: a seat command asks, then installs or uninstalls, then reports. -/
theorem seatCommands : Obligations.SeatCommands := by
  unfold Obligations.SeatCommands
  intro s
  refine ⟨fun v code ha hgo hcode => ⟨fun hop => ⟨fun hs => ?_, fun m hs hd hk hm => ?_⟩, fun hop => ⟨fun hs => ?_, fun y hs hmv hg => ?_⟩⟩,
    fun code y hs hd hms hb ht => ⟨_, rfl, streamSilent_spec hs hd hms hb ht rfl⟩⟩
  all_goals
    have hpoke := poke_seatCmd ha hgo
    obtain ⟨x, hx⟩ : ∃ x, x = s.seatAsked v := ⟨_, rfl⟩
    have hxc : x.cmdSeat = code := by rw [hx, cmdSeat_asked, hcode]
    have hxw : Within 0x8 s x := hx ▸ (within_setRb _ _ _ _).after (by decide) (within_setReg s _ _)
    have hxs : x.seat code = s.seat code := seat_congr (hxw.seats rfl)
    have hxl : Leaves (fun o => o ≠ Reg.ITK_SEAT_CMD ∧ o ≠ Reg.ITK_SEAT_STATUS) s x := hx ▸ leaves_seatAsked
  · have hex : exec (.seatAdd v) s = .next (x.seatResult 3) := by
      refine congrArg Host.Outcome.next (hpoke.trans ((if_pos hop).trans ?_))
      rw [← hx]
      exact seatAdd_refused hxc (hxs ▸ hs)
    exact ⟨_, hex, seatRefused_spec (by decide) (congrArg (State.seatResult · 3) hx)⟩
  · have htab := hxw.tables rfl
    have hforms : ∀ f, x.form f = s.form f := fun f => form_congr (hxw.forms rfl)
    have hxd : x.seatForm code = s.seatForm code := seatForm_congr htab
    have hrs : x.remoteSeats = s.remoteSeats := by rw [State.remoteSeats, hxw.seats rfl]; rfl
    have hof : Leaves OfForms s x := hxl.mono fun o ho => by unfold Reg.ITK_SEAT_CMD Reg.ITK_SEAT_STATUS; unfold OfForms at ho; omega
    have hadd := seatAdd_installs (m := m) hxc (hxs.trans hs) ((descOk_congr htab).trans hd)
      (fun hc n hn => by rw [descKey_congr htab, descKey_congr htab]; exact hk hc n (hrs ▸ hn))
      (by rw [hxd, seatRecLen_congr htab, freeMember_congr seatForm_lt hof (hforms _)]; exact hm)
    obtain ⟨y, hy⟩ : ∃ y, y = x.installed code m := ⟨_, rfl⟩
    obtain ⟨ys, ym, y0, y80, yf, yl⟩ := installed_spec hy
    obtain ⟨z, hz⟩ : ∃ z, z = y.seatsUp code := ⟨_, rfl⟩
    obtain ⟨zl, zw, zn⟩ := seatsUp_spec hz
    rw [← hy, ← hz] at hadd
    have hex : exec (.seatAdd v) s = .next (z.seatResult 0) := by
      refine congrArg Host.Outcome.next (hpoke.trans ((if_pos hop).trans ?_))
      rw [← hx]
      exact hadd
    obtain ⟨rrep, rgo, rl, rw'⟩ := seatResult_spec (s := z) (res := 0) (by decide) rfl
    have hfs : ∀ f, Reg.FORM_STATUS f ≠ Reg.ITK_SEATS ∧ Reg.FORM_STATUS f ≠ Reg.ITK_SEAT_CMD ∧ Reg.FORM_STATUS f ≠ Reg.ITK_SEAT_STATUS :=
      fun f => by
        unfold Reg.FORM_STATUS Reg.ITK_SEATS Reg.ITK_SEAT_CMD Reg.ITK_SEAT_STATUS
        omega
    have hzseq : z.rf Reg.ITK_SEAT_STATUS 0 16 = s.rf Reg.ITK_SEAT_STATUS 0 16 := by
      rw [zl.rf (by decide), yl.rf (hfs _).2.2.symm, hx, seatAsked_seq]
    rw [hxd] at ys ym yf yl
    refine ⟨_, hex, rrep.of_seq hzseq, rgo, ?_, ?_, ?_, ?_, ?_, fun hc => ?_⟩
    · rw [seat_congr (rw'.seats rfl), seat_congr (zw.seats rfl), ys, hxw.now rfl]
    · rw [memberOf_congr (form_congr (rw'.forms rfl)), memberOf_congr (form_congr (zw.forms rfl)), ym]
    · rw [seatW_congr (rw'.tables rfl), seatW_congr (zw.tables rfl), y0]
    · rw [seatW_congr (rw'.tables rfl), seatW_congr (zw.tables rfl), y80]
    · rw [rl.rf (hfs _).2, zl.rf (hfs _).1, yf, hxl.rf (hfs _).2]
    · rw [rl.rf (by decide), zn hc, yl.rf (hfs _).1.symm, hxl.rf (by decide)]
  · have hex : exec (.seatRemove v) s = .next (x.seatResult 3) := by
      refine congrArg Host.Outcome.next (hpoke.trans ((if_neg (by rw [hop]; decide)).trans ?_))
      rw [← hx]
      exact seatRemove_refused hxc (hxs.trans hs)
    obtain ⟨h1, -, h2⟩ := seatRefused_spec (v := v) (res := 3) (by decide) (congrArg (State.seatResult · 3) hx)
    exact ⟨_, hex, h1, h2⟩
  · have hcmd : x.reg Reg.ITK_SEAT_CMD = merge 0x3FFF000F v (s.reg Reg.ITK_SEAT_CMD) := hx ▸ seatAsked_cmd
    have hxgo : x.rb Reg.ITK_SEAT_CMD 0 = true := by rw [State.rb, hcmd, bit_merge, if_pos (by decide), hgo]
    have hxop : x.rf Reg.ITK_SEAT_CMD 1 2 = 2 := by rw [State.rf, hcmd, fld_merge (by decide), hop]
    have hrem := seatRemove_uninstalls hxc hxgo hxop (by rw [hxs, hs]; exact Option.some_ne_none y) (fun g hg' => hg g (hxw.seated rfl ▸ hg'))
    obtain ⟨z, hz⟩ : ∃ z, z = x.uninstall code := ⟨_, rfl⟩
    obtain ⟨zs, zm, zq, z0, zl⟩ := uninstall_spec (hxs.trans hs) hmv hz
    rw [← hz] at hrem
    have hex : exec (.seatRemove v) s = .next (z.seatResult 0) := by
      refine congrArg Host.Outcome.next (hpoke.trans ((if_neg (by rw [hop]; decide)).trans ?_))
      rw [← hx]
      exact hrem
    obtain ⟨rrep, rgo, rl, rw'⟩ := seatResult_spec (s := z) (res := 0) (by decide) rfl
    have hzseq : z.rf Reg.ITK_SEAT_STATUS 0 16 = s.rf Reg.ITK_SEAT_STATUS 0 16 := by
      rw [zl.rf (by decide), hx, seatAsked_seq]
    refine ⟨_, hex, rrep.of_seq hzseq, rgo, ?_, ?_, ?_, ?_⟩
    · rw [seat_congr (rw'.seats rfl), zs]
    · rw [memberOf_congr (form_congr (rw'.forms rfl)), zm]
    · rw [form_congr (rw'.forms rfl), ← form_congr (hxw.forms rfl)]
      exact zq
    · rw [seatW_congr (rw'.tables rfl), z0]

end Sys2Proof.Machine

/-! The intake parser (R161-R167). -/

namespace Sys2Proof.Machine

-- One declaration after another: side by side, their threads' stacks pass the memory limit of a check.
set_option Elab.async false

/-! ### A ring whose HEAD lies beyond it

Ring 7 has two descriptors, and its HEAD register holds 2, a value that no return leaves there. The frame's plan counts from HEAD modulo
2^SIZE, so it meets the descriptor at index 0, whose buffer is of no use; the descriptor that stands where HEAD points would hold the frame. -/

/-- A frame of one octet for ring 7. -/
def oneOctet : RxFrame := { octets := [0xAB], port := 1, stamp := 0, tb := 0, rct := false, ring := 7 }

/-- Ring 7 RUNNING with HEAD beyond its two descriptors; a descriptor of a 256-octet buffer at 0x4000 stands where HEAD points. -/
def headBeyond : State :=
  ((((((State.reset.setReg Reg.PWR_DOMAIN_STATUS 0xFFF).setReg (Reg.RNG_CTRL 7) 3).setReg (Reg.RNG_STATUS 7) 1).setReg
    (Reg.RNG_HEAD 7) 2).setReg (Reg.RNG_TAIL 7) 1).hostWrite 64 (leBytes 8 0x4000 ++ leBytes 4 256)).setRx 1 [oneOctet]

theorem headBeyond_ready : (headBeyond.setRx 1 []).ringReady 7 = true ∧ bufUsable (bufLen ((headBeyond.setRx 1 []).headDesc 7)) = true ∧
    1 ≤ bufLen ((headBeyond.setRx 1 []).headDesc 7) := by
  decide +kernel

/-- The frame is lost: its octet does not reach the buffer. -/
theorem headBeyond_lost : (headBeyond.intakeFrame 1).hostRead 0x4000 1 = [0] := by
  decide +kernel

theorem headBeyond_stated : (((headBeyond.setRx 1 []).hostWrite (bufAddr ((headBeyond.setRx 1 []).headDesc 7)) [0xAB]).ringReturn 7
    (frameDesc ((headBeyond.setRx 1 []).headDesc 7) { port := 1, cause := 0, stamp := 0, tb := 0, rct := false } 1 1)
    (statusWord false true true 0 0)).hostRead 0x4000 1 = [0xAB] := by
  decide +kernel

/-- Refutes O39: with the intake off, a frame for a ring whose HEAD register lies beyond its descriptors is not given to the descriptor
that stands where HEAD points. -/
theorem not_framesFromTheReceiveBuffer : ¬ Obligations.FramesFromTheReceiveBuffer := by
  unfold Obligations.FramesFromTheReceiveBuffer
  intro h
  obtain ⟨hready, husable, hlen⟩ := headBeyond_ready
  obtain ⟨t, ht, -, ⟨-, hgiven⟩, -, -⟩ := (h headBeyond 1 oneOctet [] _ (by decide +kernel) (by decide) (by decide) rfl).1 (by decide +kernel)
  have hrun : headBeyond.intakeFrame 1 = t := Host.Outcome.next.inj ht
  have hwhole := hgiven _ 1 rfl rfl hready husable (by decide) hlen
  have hread : ([0] : List Byte) = [0xAB] := by
    rw [← headBeyond_lost, hrun, hwhole]
    exact headBeyond_stated
  exact absurd hread (by decide)

end Sys2Proof.Machine

/-! Frames that are filed in the roll call, and its enable (R183-R185, R188). -/

namespace Sys2Proof.Machine

-- One declaration after another: side by side, their threads' stacks pass the memory limit of a check.
set_option Elab.async false

variable {s t u x y : State} {f m code : Nat}

/-! ### What comes after a filing leaves counters and rolls as they are -/

/-- The roll call's counters and the open rolls of every form are as before. -/
structure RollsKept (s t : State) : Prop where
  regs : Leaves (fun o => 0xF0000 ≤ o ∧ o < 0xF1000) s t
  rolls : ∀ f, (t.form f).rolls = (s.form f).rolls

theorem RollsKept.refl (s : State) : RollsKept s s := ⟨.refl s, fun _ => rfl⟩
theorem RollsKept.trans (h : RollsKept s t) (k : RollsKept t u) : RollsKept s u :=
  ⟨h.regs.trans k.regs, fun f => (k.rolls f).trans (h.rolls f)⟩

theorem RollsKept.of_regs {P : Nat → Prop} (h : Leaves P s t) (hP : ∀ o, 0xF0000 ≤ o → o < 0xF1000 → P o) (hf : t.forms = s.forms) : RollsKept s t :=
  ⟨h.mono fun o ho => hP o ho.1 ho.2, fun f => by rw [form_congr hf]⟩

theorem rollsKept_setForm {y : Form} (h : y.rolls = (s.form f).rolls) : RollsKept s (s.setForm f y) := by
  refine ⟨.of_regs rfl, fun g => ?_⟩
  by_cases hg : g = f
  · rw [hg, form_setForm, h]
  · rw [form_setForm_ne hg]

theorem rollsKept_setReg {o : Nat} {w : Word} (h : o < 0xF0000 ∨ 0xF1000 ≤ o) : RollsKept s (s.setReg o w) :=
  .of_regs (P := (· ≠ o)) (leaves_setReg (by simp)) (fun p hp hp' => by omega) rfl

theorem rollsKept_unbind : RollsKept s (s.unbind f m) :=
  .trans (rollsKept_setForm (y := { s.form f with
      members := Tab.put (fun _ => 0) (s.form f).members m 0
      quarantine := (m, (s.form f).releases) :: (s.form f).quarantine }) rfl)
    (rollsKept_setReg (.inr (by unfold Reg.FORM_STATUS; omega)))

theorem rollsKept_uninstall : RollsKept s (s.uninstall code) := by
  have hseats : Reg.ITK_SEATS < 0xF0000 := by decide
  have hsilent : ∀ z : State, RollsKept z (if bit (z.seatW code 0x80) 0 then
      (z.setSeatW code 0x80 0).setRf Reg.ITK_SEATS 16 15 (z.rf Reg.ITK_SEATS 16 15 - 1) else z) := fun z => by
    split
    · exact .trans (t := z.setSeatW code 0x80 0) (.of_regs (P := fun _ => True) (.of_regs rfl) (fun _ _ _ => trivial) rfl)
        (rollsKept_setReg (.inl hseats))
    · exact .refl z
  have hdown : ∀ z : State, RollsKept z (if code < 0x4000 then z.setRf Reg.ITK_SEATS 0 15 (z.rf Reg.ITK_SEATS 0 15 - 1) else z) := fun z => by
    split
    · exact rollsKept_setReg (.inl hseats)
    · exact .refl z
  have hlast : ∀ z : State, RollsKept z ((z.setSeatW code 0 (setBit (z.seatW code 0) 0 false)).setSeat code none) := fun z =>
    .of_regs (P := fun _ => True) (.of_regs rfl) (fun _ _ _ => trivial) rfl
  unfold State.uninstall
  split
  · exact .refl s
  · dsimp only
    refine .trans ?_ (hlast _)
    refine .trans ?_ (hdown _)
    refine .trans ?_ (hsilent _)
    split
    · exact rollsKept_unbind.trans rollsKept_unbind
    · exact rollsKept_unbind

theorem rollsKept_removeFinish : RollsKept s s.removeFinish := by
  unfold State.removeFinish
  dsimp only
  split
  · obtain ⟨-, -, hl, hw⟩ := seatResult_spec (s := s.uninstall s.cmdSeat) (res := 0) (by decide) rfl
    exact rollsKept_uninstall.trans (.of_regs hl (fun o h1 _ => by unfold Reg.ITK_SEAT_CMD Reg.ITK_SEAT_STATUS; omega) (hw.forms rfl))
  · exact .refl s

theorem leaves_postRecord {P : Nat → Prop} (hP : ∀ o, P o → Quiet o) {r : Nat} (hr : r < 32) {rc : List Byte} {w10 w14 : Nat} :
    Leaves P s (s.postRecord r rc w10 w14) := by
  have h12 : ∀ o, o / 0x10000 = 12 → ¬ P o := fun o ho h => (hP o h).2.1 ho
  unfold State.postRecord
  dsimp only
  split
  · split
    · exact (((leaves_ringReturn hP hr).trans (leaves_bump (h12 _ (by unfold Reg.RNG_CNT; omega)))).trans
        (leaves_setRb (h12 _ (by unfold Reg.RNG_STATUS; omega)))).trans (leaves_raise hP (by decide))
    · exact (leaves_hostWrite _ _).trans (leaves_ringReturn hP hr)
  · exact leaves_ringExhaust hP hr

theorem rollsKept_slipsOut : RollsKept s (s.slipsOut f) := by
  have hpost : ∀ (l : List Slip) (z : State), RollsKept z (l.foldl (fun s r => s.postRecord 13 r.octets r.w10 r.w14) z) := fun l => by
    induction l with
    | nil => exact RollsKept.refl
    | cons a l ih =>
      refine fun z => .trans ?_ (ih _)
      exact .of_regs (P := Quiet) (leaves_postRecord (fun _ h => h) (by decide)) (fun o _ _ => by omega) ((within_postRecord _ _ _ _ _).forms rfl)
  exact (rollsKept_setForm (y := { s.form f with slips := [] }) rfl).trans (hpost _ _)

theorem quiet_rclCnt {k : Nat} (hk : k < 12) : 0xF0000 ≤ Reg.RCL_CNT k ∧ Reg.RCL_CNT k < 0xF1000 := by
  unfold Reg.RCL_CNT
  omega

/-- What comes after a frame is filed: the records of its form are posted, and a REMOVE that waited is done. -/
def State.filed (s : State) (f : Nat) : State := (s.slipsOut f).removeFinish

theorem filed_spec (hu : u = s.filed f) : RollsKept s u ∧ u.seated = s.seated ∧ u.hbm = s.hbm := by
  subst hu
  have hs := within_slipsOut s f
  have hr := within_removeFinish (s.slipsOut f)
  exact ⟨rollsKept_slipsOut.trans rollsKept_removeFinish, (hr.seated rfl).trans (hs.seated rfl), (hr.hbm rfl).trans (hs.hbm rfl)⟩

/-! ### Granting a frame -/

section Grant
variable {g : Seated} {gs : List Seated} {w : Seat} {p q : FormPar} {i : Instant} {o : OpenRoll}

/-- The frame at the front of the queue is taken. -/
def State.frameTaken (s : State) (gs : List Seated) : State := { s with seated := gs }

theorem frameFile_off (hd : s.domOn pdRcl = true) (hs : s.seated = g :: gs) (he : s.rb Reg.RCL_CTRL 0 = false) :
    s.frameFile = ((s.frameTaken gs).bump (Reg.RCL_CNT 7)).removeFinish := by
  have he' : (s.frameTaken gs).rb Reg.RCL_CTRL 0 = false := he
  unfold State.frameTaken at he'
  unfold State.frameFile State.frameTaken
  rw [hs]
  dsimp only
  rw [if_pos hd, he', if_neg Bool.false_ne_true]

theorem gapAct_idle (h : s.gapDue f = false) : s.gapAct f = s := by
  unfold State.gapAct State.gapClose
  rw [h, Bool.and_false, if_neg Bool.false_ne_true]
  rfl

theorem filedIn_plain (ho : w.old = none) (hm : w.move = none) : s.filedIn w g = (w.form, w.member, false) := by
  unfold State.filedIn
  dsimp only
  rw [ho, hm]

theorem frameFile_granted (hd : s.domOn pdRcl = true) (hs : s.seated = g :: gs) (he : s.rb Reg.RCL_CTRL 0 = true)
    (hw : s.seat g.code = some w) (ho : w.old = none) (hm : w.move = none) (hgap : s.gapDue w.form = false) :
    s.frameFile = ((s.frameTaken gs).fileFrame w.form w.member g.code g.sec g.ns g.record).filed w.form := by
  have he' : (s.frameTaken gs).rb Reg.RCL_CTRL 0 = true := he
  have hw' : (s.frameTaken gs).seat g.code = some w := hw
  have hgap' : (s.frameTaken gs).gapDue w.form = false := hgap
  have hgrant : (s.frameTaken gs).fileGrant false g =
      ((s.frameTaken gs).fileFrame w.form w.member g.code g.sec g.ns g.record).slipsOut w.form := by
    unfold State.fileGrant
    rw [hw']
    dsimp only
    rw [filedIn_plain ho hm]
    dsimp only
    rw [if_neg Bool.false_ne_true, State.fileIn, if_neg Bool.false_ne_true, gapAct_idle hgap']
  rw [State.filed, ← hgrant]
  unfold State.frameFile
  rw [hs]
  dsimp only
  rw [if_pos hd, ← State.frameTaken, if_pos he']

theorem retimeAt_plain {sec : Nat} (h : (s.form f).staged = none) : s.retimeAt f sec = s := by
  unfold State.retimeAt
  rw [h]

/-- The record of a frame as it is filed: with its deviation. -/
def filedRecord (p : FormPar) (g : Seated) : List Byte := patch g.record 0x10 (leBytes 4 (wrap 32 (deviationOf p.r g.ns)))

theorem fileFrame_off (hst : s.formState f ≠ 0) (hret : (s.form f).staged = none) (hp : (s.form f).parMap g.sec = p)
    (hdev : p.tol * 1000 < (deviationOf p.r g.ns).natAbs) : s.fileFrame f m g.code g.sec g.ns g.record = s.bump (Reg.RCL_CNT 5) := by
  unfold State.fileFrame
  dsimp only
  simp only [decide_eq_false hst, Bool.false_eq_true, if_false]
  rw [retimeAt_plain hret, hp, if_pos hdev]

theorem fileFrame_filed (hst : s.formState f ≠ 0) (hret : (s.form f).staged = none) (hp : (s.form f).parMap g.sec = p)
    (hdev : (deviationOf p.r g.ns).natAbs ≤ p.tol * 1000) (hi : i = instantOf p.r g.sec g.ns) (hq : (s.form f).parMap i.sec = q)
    (hearly : i.time q.r ≤ s.tbNow q.tb + p.tol * 1000 * stampNsUnit) (hlast : ∀ l, (s.form f).last = some l → i.le l = false)
    (hfirst : i.lt (s.form f).first = false) (hres : ∀ l, (s.form f).resume = some l → i.lt l = false)
    (ho : (s.form f).rolls.find? (fun o => decide (o.at_ = i)) = some o) (hm : m ∉ o.present) :
    s.fileFrame f m g.code g.sec g.ns g.record = s.fileInto f q i m (filedRecord p g) := by
  have hc : o.present.contains m = false := by simpa using hm
  unfold State.fileFrame filedRecord
  dsimp only
  simp only [decide_eq_false hst, Bool.false_eq_true, if_false]
  rw [retimeAt_plain hret, hp, ← hi, hq, if_neg (Nat.not_lt.2 hdev), if_neg (Nat.not_lt.2 hearly)]
  refine (if_neg fun hl => ?_).trans ?_
  · simp only [Bool.or_eq_true] at hl
    rcases hl with (hl | hl) | hl
    · split at hl
      · next l hl' => exact Bool.false_ne_true ((hlast l hl').symm.trans hl)
      · exact Bool.false_ne_true hl
    · exact Bool.false_ne_true (hfirst.symm.trans hl)
    · split at hl
      · next l hl' => exact Bool.false_ne_true ((hres l hl').symm.trans hl)
      · exact Bool.false_ne_true hl
  · rw [ho]
    dsimp only
    rw [hc, if_neg Bool.false_ne_true]

theorem mem_insertNat {n k : Nat} {l : List Nat} : k ∈ insertNat n l ↔ k = n ∨ k ∈ l := by
  induction l with
  | nil => simp [insertNat]
  | cons a l ih =>
    unfold insertNat
    split
    · simp
    · rw [List.mem_cons, ih, List.mem_cons]
      tauto

/-- A roll with one more member present. -/
def OpenRoll.enter (o : OpenRoll) (m : Nat) : OpenRoll := { o with present := insertNat m o.present }

theorem fileInto_spec {rc : List Byte} (ho : (s.form f).rolls.find? (fun o => decide (o.at_ = i)) = some o) (hu : u = s.fileInto f q i m rc) :
    (∃ o' ∈ (u.form f).rolls, o'.at_ = i ∧ m ∈ o'.present) ∧ u.reg (Reg.RCL_CNT 0) = satWord (s.reg (Reg.RCL_CNT 0)) 1 ∧
    u.hbm = ((s.hbmWrite (q.imageAt i + q.slotsBase + m * 64 * q.slot) (rc.take (64 * q.slot))).markPresent q i m).hbm ∧
    u.seated = s.seated := by
  obtain ⟨y, hy⟩ : ∃ y, y = (s.hbmWrite (q.imageAt i + q.slotsBase + m * 64 * q.slot) (rc.take (64 * q.slot))).markPresent q i m := ⟨_, rfl⟩
  have hyw : Within 0x100 s y := hy ▸ (within_markPresent _ _ _ _).after (by decide) (within_hbmWrite s _ _)
  have hyr : y.reg (Reg.RCL_CNT 0) = s.reg (Reg.RCL_CNT 0) := hyw.leaves (P := fun _ => True) rfl _ trivial
  obtain ⟨z, hz⟩ : ∃ z, z = y.setForm f { y.form f with
      rolls := (y.form f).rolls.map (fun o : OpenRoll => if o.at_ = i then o.enter m else o) } := ⟨_, rfl⟩
  have hzr : z.regs = y.regs ∧ z.hbm = y.hbm ∧ z.seated = y.seated := hz ▸ ⟨rfl, rfl, rfl⟩
  have hzf : (z.form f).rolls = (s.form f).rolls.map (fun o : OpenRoll => if o.at_ = i then o.enter m else o) := by
    rw [hz, form_setForm, form_congr (hyw.forms rfl)]
  have he : u = z.bump (Reg.RCL_CNT 0) := by
    rw [hu, hz, hy]
    rfl
  obtain ⟨hzregs, hzh, hzs⟩ := hzr
  subst he
  have hat : o.at_ = i := of_decide_eq_true (List.find?_some (p := fun o : OpenRoll => decide (o.at_ = i)) ho)
  refine ⟨⟨o.enter m, ?_, hat, mem_insertNat.2 (.inl rfl)⟩, ?_, hzh.trans (congrArg State.hbm hy), hzs.trans (hyw.seated rfl)⟩
  · have hzu : (z.bump (Reg.RCL_CNT 0)).form f = z.form f := rfl
    rw [hzu, hzf]
    exact List.mem_map.2 ⟨o, List.mem_of_find?_eq_some ho, if_pos hat⟩
  · rw [← hyr]
    refine reg_setReg_self.trans ?_
    rw [State.reg, hzregs]
    rfl

end Grant

/-! ### The roll call's enable -/

/-- A form waits for a bell after now. -/
def State.formHeld (s : State) (f : Nat) : State :=
  if s.formState f = 0 then s
  else s.setForm f { s.form f with heldAt := some (s.tbNow ((s.form f).parMap (s.form f).next.sec).tb) }

theorem formHeld_regs : (s.formHeld f).regs = s.regs ∧ (s.formHeld f).tbs = s.tbs ∧ (s.formHeld f).now = s.now := by
  unfold State.formHeld
  split
  · exact ⟨rfl, rfl, rfl⟩
  · exact ⟨rfl, rfl, rfl⟩

theorem formHeld_other {g : Nat} (h : g ≠ f) : (s.formHeld f).form g = s.form g := by
  unfold State.formHeld
  split
  · rfl
  · exact form_setForm_ne h

theorem formHeld_self (h : s.formState f ≠ 0) :
    ((s.formHeld f).form f).heldAt = some (s.tbNow ((s.form f).parMap (s.form f).next.sec).tb) := by
  rw [State.formHeld, if_neg h, form_setForm]

/-- Every running form of a list without repetitions waits for a bell. -/
theorem formsHeld {l : List Nat} (hl : l.Nodup) : ∀ s : State, (l.foldl State.formHeld s).regs = s.regs ∧
    (∀ g, g ∉ l → (l.foldl State.formHeld s).form g = s.form g) ∧
    ∀ g ∈ l, s.formState g ≠ 0 → ((l.foldl State.formHeld s).form g).heldAt = some (s.tbNow ((s.form g).parMap (s.form g).next.sec).tb) := by
  induction l with
  | nil => exact fun s => ⟨rfl, fun _ _ => rfl, fun g hg => absurd hg List.not_mem_nil⟩
  | cons a l ih =>
    intro s
    obtain ⟨ha, hl⟩ := List.nodup_cons.1 hl
    obtain ⟨hr, ho, hh⟩ := ih hl (s.formHeld a)
    obtain ⟨hr1, ht1, -⟩ := formHeld_regs (s := s) (f := a)
    refine ⟨hr.trans hr1, fun g hg => ?_, fun g hg hst => ?_⟩
    · obtain ⟨hga, hgl⟩ := not_or.1 (mt List.mem_cons.2 hg)
      exact (ho g hgl).trans (formHeld_other hga)
    · rcases List.mem_cons.1 hg with rfl | hgl
      · rw [List.foldl_cons, ho g ha]
        exact formHeld_self hst
      · have hga : g ≠ a := fun c => ha (c ▸ hgl)
        have hst' : (s.formHeld a).formState g = s.formState g := by rw [State.formState, State.rf, State.reg, hr1]; rfl
        have hnow : ∀ n, (s.formHeld a).tbNow n = s.tbNow n := fun n => by rw [State.tbNow, State.tb, ht1]; rfl
        rw [List.foldl_cons, hh g hgl (hst'.trans_ne hst), formHeld_other hga, hnow]

theorem rclEnabled_eq : s.rclEnabled = (List.range 256).foldl State.formHeld s := rfl

/-- Settles O40: a frame is granted by the checks of its form; the records it leaves and a REMOVE that waits come after it. -/
theorem rollCallFiling : Obligations.RollCallFiling := by
  unfold Obligations.RollCallFiling
  refine fun s => ⟨fun g gs hd hs => ⟨fun he => ?_, fun w p he hw ho hm hst hgap hret hp => ⟨fun hdev => ?_, ?_⟩⟩, fun v ha hgo hoff => ?_⟩
  · have hex : exec .frameFile s = .next _ := congrArg Host.Outcome.next (frameFile_off hd hs he)
    have hr := rollsKept_removeFinish (s := (s.frameTaken gs).bump (Reg.RCL_CNT 7))
    have hw := within_removeFinish ((s.frameTaken gs).bump (Reg.RCL_CNT 7))
    exact ⟨_, hex, hw.seated rfl, (hr.regs _ (quiet_rclCnt (by decide))).trans reg_setReg_self⟩
  · have hfile := frameFile_granted hd hs he hw ho hm hgap
    rw [fileFrame_off (s := s.frameTaken gs) hst hret hp hdev] at hfile
    have hex : exec .frameFile s = .next _ := congrArg Host.Outcome.next hfile
    obtain ⟨hk, hseated, -⟩ := filed_spec (s := (s.frameTaken gs).bump (Reg.RCL_CNT 5)) (f := w.form) rfl
    exact ⟨_, hex, hseated, (hk.regs _ (quiet_rclCnt (by decide))).trans reg_setReg_self, hk.rolls w.form⟩
  · intro i q o hdev hi hq hearly hlast hfirst hres ho' hmem
    have hfile := frameFile_granted hd hs he hw ho hm hgap
    rw [fileFrame_filed (s := s.frameTaken gs) hst hret hp hdev hi hq hearly hlast hfirst hres ho' hmem] at hfile
    have hex : exec .frameFile s = .next _ := congrArg Host.Outcome.next hfile
    obtain ⟨y, hy⟩ : ∃ y, y = (s.frameTaken gs).fileInto w.form q i w.member (filedRecord p g) := ⟨_, rfl⟩
    obtain ⟨hroll, hcnt, hhbm, hys⟩ := fileInto_spec (s := s.frameTaken gs) ho' hy
    rw [← hy] at hex
    obtain ⟨hk, hseated, hh⟩ := filed_spec (s := y) (f := w.form) rfl
    refine ⟨_, hex, hseated.trans hys, ?_, (hk.regs _ (quiet_rclCnt (by decide))).trans hcnt, fun u hu => ?_⟩
    · rw [hk.rolls w.form]
      exact hroll
    · rw [hh, hhbm, hu]
      rfl
  · have hpoke : s.poke Reg.RCL_CTRL v {} = (s.setReg Reg.RCL_CTRL (merge 0x3 v (s.reg Reg.RCL_CTRL))).rclEnabled := by
      have hon : (s.setReg Reg.RCL_CTRL (merge 0x3 v (s.reg Reg.RCL_CTRL))).rb Reg.RCL_CTRL 0 = true := by
        rw [State.rb, reg_setReg_self, bit_merge, if_pos (by decide), hgo]
      have hoff' : bit (s.reg Reg.RCL_CTRL) 0 = false := hoff
      rw [ha.poke_plain (r := ⟨0xF0000, 0x4, 1, 0x4, 1, 0x0, 0x3, 0x0, 0x0, 0x3, .single, none⟩) (by decide) rfl rfl rfl,
        unitHook_rcl (by decide), State.rclHook]
      dsimp only
      rw [if_pos (by decide), hon, hoff']
      exact if_pos rfl
    have hex : exec (.rclEnable v) s = .next _ := congrArg Host.Outcome.next hpoke
    obtain ⟨x, hx⟩ : ∃ x, x = s.setReg Reg.RCL_CTRL (merge 0x3 v (s.reg Reg.RCL_CTRL)) := ⟨_, rfl⟩
    rw [← hx, rclEnabled_eq] at hex
    obtain ⟨hr, -, hheld⟩ := formsHeld (l := List.range 256) List.nodup_range x
    have hreg : ∀ o, ((List.range 256).foldl State.formHeld x).reg o = x.reg o := fun o => by rw [State.reg, hr]; rfl
    refine ⟨_, hex, ?_, fun o ho => ?_, fun f hst => ?_⟩
    · rw [State.rb, hreg, hx, reg_setReg_self, bit_merge, if_pos (by decide), hgo]
    · rw [hreg, hx, reg_setReg_ne (by simpa using ho)]
    · have hst' : x.formState f = s.formState f := by
        rw [hx, State.formState, State.rf, reg_setReg_ne (by unfold Reg.FORM_STATUS Reg.RCL_CTRL; omega)]
        rfl
      have hf := hheld f (List.mem_range.2 f.isLt) (hst'.trans_ne hst)
      have hforms : x.form f = s.form f := hx ▸ rfl
      have htb : ∀ n, x.tbNow n = s.tbNow n := fun n => hx ▸ rfl
      rw [hforms, htb] at hf
      exact hf

end Sys2Proof.Machine

/-! The commands of the forms (R199, R200). -/

namespace Sys2Proof.Machine

-- One declaration after another: side by side, their threads' stacks pass the memory limit of a check.
set_option Elab.async false

variable {s t u x : State} {f : Nat} {v : Word}

/-! ### The command and its result -/

/-- The command is written: the result of the one before is no longer READY. -/
def State.rclAsked (s : State) (v : Word) : State :=
  (s.setReg Reg.RCL_CMD (merge 0x3FFFFF1F v (s.reg Reg.RCL_CMD))).unready Reg.RCL_CMD_STATUS

abbrev OffCommand (o : Nat) : Prop := o ≠ Reg.RCL_CMD ∧ o ≠ Reg.RCL_CMD_STATUS

theorem leaves_rclAsked : Leaves OffCommand s (s.rclAsked v) :=
  (leaves_setReg fun h => h.1 rfl).trans (leaves_unready fun h => h.2 rfl)

theorem within_rclAsked : Within 0x8 s (s.rclAsked v) := (within_setRb _ _ _ _).after (by decide) (within_setReg s _ _)

theorem rclAsked_cmd : (s.rclAsked v).reg Reg.RCL_CMD = merge 0x3FFFFF1F v (s.reg Reg.RCL_CMD) := by
  rw [State.rclAsked, State.unready, reg_setRb, if_neg (by decide), reg_setReg_self]

theorem rclAsked_seq : (s.rclAsked v).rf Reg.RCL_CMD_STATUS 0 16 = s.rf Reg.RCL_CMD_STATUS 0 16 := by
  refine unready_seq.trans ?_
  rw [State.rf, reg_setReg_ne (by decide)]
  rfl

/-- What a form command does, by its operation. -/
def State.formDo (s : State) (op f code : Nat) : State :=
  if op = 1 then s.formStart f else if op = 2 then s.formStop f else if op = 3 then s.formRetime f else s.seatMove f code

theorem poke_rclCmd (h : s.Accepts Reg.RCL_CMD v) (hgo : bit v 0 = true) : s.poke Reg.RCL_CMD v {} =
    (s.rclAsked v).formDo (fld v 1 3) (fld v 8 8) (if bit v 4 then localCode (fld v 16 14) else fld v 16 14) := by
  obtain ⟨y, hy⟩ : ∃ y, y = s.setReg Reg.RCL_CMD (merge 0x3FFFFF1F v (s.reg Reg.RCL_CMD)) := ⟨_, rfl⟩
  have hcmd : y.reg Reg.RCL_CMD = merge 0x3FFFFF1F v (s.reg Reg.RCL_CMD) := hy ▸ reg_setReg_self
  have h1 : fld (y.reg Reg.RCL_CMD) 1 3 = fld v 1 3 := by rw [hcmd, fld_merge (by decide)]
  have h8 : fld (y.reg Reg.RCL_CMD) 8 8 = fld v 8 8 := by rw [hcmd, fld_merge (by decide)]
  have h16 : fld (y.reg Reg.RCL_CMD) 16 14 = fld v 16 14 := by rw [hcmd, fld_merge (by decide)]
  have h4 : bit (y.reg Reg.RCL_CMD) 4 = bit v 4 := by
    rw [hcmd, bit_merge]
    exact if_pos (by decide)
  have h0 : y.rb Reg.RCL_CMD 0 = true := by rw [State.rb, hcmd, bit_merge, if_pos (by decide), hgo]
  have hcommand : y.rclCommand = (y.unready Reg.RCL_CMD_STATUS).formDo (fld v 1 3) (fld v 8 8)
      (if bit v 4 then localCode (fld v 16 14) else fld v 16 14) := by
    unfold State.rclCommand State.formDo
    dsimp only
    rw [h1, h8, h16, h4]
    split
    · next h => rw [h, if_pos rfl]
    · next h => rw [h, if_neg (by decide), if_pos rfl]
    · next h => rw [h, if_neg (by decide), if_neg (by decide), if_pos rfl]
    · next n1 n2 n3 => rw [if_neg n1, if_neg n2, if_neg n3]
  rw [h.poke_plain (r := ⟨0xF0008, 0x4, 1, 0x4, 1, 0x0, 0x3FFFFF1F, 0x0, 0x0, 0x0, .single, none⟩) (by decide) rfl rfl rfl,
    unitHook_rcl (by decide), State.rclHook, ← hy]
  rw [if_neg (by decide), if_pos (by decide), if_pos h0, hcommand, hy, State.rclAsked]

theorem rclResult_spec {res sec : Nat} (h : res < 256) (hu : u = s.rclResult res sec) :
    s.Reported u Reg.RCL_CMD_STATUS res ∧ u.rb Reg.RCL_CMD 0 = false ∧ u.reg Reg.RCL_CMD_SEC = word sec ∧
    Leaves (fun o => OffCommand o ∧ o ≠ Reg.RCL_CMD_SEC) s u ∧ Within 0x8 s u := by
  have hw := hu ▸ within_rclResult s res sec
  obtain ⟨y, hy⟩ : ∃ y, y = s.setReg Reg.RCL_CMD_SEC (word sec) := ⟨_, rfl⟩
  have hysec : y.reg Reg.RCL_CMD_SEC = word sec := hy ▸ reg_setReg_self
  have hyl : Leaves (· ≠ Reg.RCL_CMD_SEC) s y := hy ▸ leaves_setReg (by simp)
  obtain ⟨z, hz⟩ : ∃ z, z = y.resultShown Reg.RCL_CMD_STATUS res := ⟨_, rfl⟩
  have hzrep : y.Reported z Reg.RCL_CMD_STATUS res := hz ▸ reported_resultShown h
  have hzl : Leaves (· ≠ Reg.RCL_CMD_STATUS) y z := hz ▸ leaves_resultShown (by simp)
  have he : u = z.setRb Reg.RCL_CMD 0 false := by
    rw [hu, hz, hy]
    rfl
  have hul : Leaves (· ≠ Reg.RCL_CMD) z u := he ▸ leaves_setRb (by simp)
  refine ⟨(hzrep.after (hul _ (by decide))).of_seq (hyl.rf (by decide) 0 16), he ▸ rb_setRb_self (by decide), ?_, ?_, hw⟩
  · rw [hul _ (by decide), hzl _ (by decide), hysec]
  · exact ((hyl.mono fun _ h => h.2).trans (hzl.mono fun _ h => h.1.2)).trans (hul.mono fun _ h => h.1.1)

/-- A refused command leaves its result and nothing else. -/
theorem rclRefused_spec {res sec : Nat} (h : res < 256) (hu : u = (s.rclAsked v).rclResult res sec) :
    s.Reported u Reg.RCL_CMD_STATUS res ∧ u.rb Reg.RCL_CMD 0 = false ∧
    AllRegsKept s u [Reg.RCL_CMD, Reg.RCL_CMD_STATUS, Reg.RCL_CMD_SEC] ∧ OnlyRegs s u := by
  obtain ⟨hrep, hgo, -, hl, hw⟩ := rclResult_spec h hu
  refine ⟨hrep.of_seq rclAsked_seq, hgo, fun o ho => ?_, (hw.after (by decide) within_rclAsked).onlyRegs⟩
  obtain ⟨h1, h2, h3⟩ : o ≠ Reg.RCL_CMD ∧ o ≠ Reg.RCL_CMD_STATUS ∧ o ≠ Reg.RCL_CMD_SEC := by simpa using ho
  exact ((leaves_rclAsked.mono fun _ h => h.1).trans hl) o ⟨⟨h1, h2⟩, h3⟩

theorem offCommand_form {o : Nat} (h : 0xF1000 ≤ o) : OffCommand o ∧ o ≠ Reg.RCL_CMD_SEC := by
  unfold OffCommand Reg.RCL_CMD Reg.RCL_CMD_STATUS Reg.RCL_CMD_SEC
  omega

/-! ### START and RETIME -/

theorem startCheck_lt : s.startCheck f < 256 := by
  unfold State.startCheck
  dsimp only
  repeat' split
  all_goals decide

theorem tbState_asked {n : Nat} : (s.rclAsked v).tbState n = s.tbState n :=
  leaves_rclAsked.rf (by unfold OffCommand Reg.TB_STATUS Reg.RCL_CMD Reg.RCL_CMD_STATUS; omega) 0 3

theorem ofForms_asked : Leaves OfForms s (s.rclAsked v) := leaves_rclAsked.mono fun _ h => (offCommand_form h.1).1

theorem form_asked : (s.rclAsked v).form f = s.form f := form_congr (within_rclAsked.forms rfl)

theorem regPar_asked (hf : f < 256) : (s.rclAsked v).regPar f = s.regPar f := regPar_congr hf ofForms_asked
theorem formState_asked (hf : f < 256) : (s.rclAsked v).formState f = s.formState f := formState_congr hf ofForms_asked
theorem formPar_asked (hf : f < 256) : (s.rclAsked v).formPar f = s.formPar f := formPar_congr hf ofForms_asked form_asked
theorem tbNow_asked {n : Nat} : (s.rclAsked v).tbNow n = s.tbNow n := rfl

theorem startCheck_asked (hf : f < 256) : (s.rclAsked v).startCheck f = s.startCheck f := by
  unfold State.startCheck
  dsimp only
  rw [regPar_asked hf, form_asked, formState_asked hf, tbState_asked]

/-- A form starts. -/
def Form.started (x : Form) (p : FormPar) (first : Instant) : Form :=
  { x with pars := [(0, p)], staged := none, retimed := [], first := first, next := first, last := none, resume := none
           gap := false, heldAt := none, rolls := [] }

theorem formStart_started (h : s.startCheck f = 0) : s.formStart f =
    (((s.setForm f ((s.form f).started (s.regPar f) (firstInstant (s.regPar f).r (s.tbNow (s.regPar f).tb) false))).clearLedger
      (s.regPar f)).setRf (Reg.FORM_STATUS f) 10 2 1).rclResult 0 0 := by
  unfold State.formStart Form.started
  dsimp only
  exact if_neg (not_not.2 h)

/-- A form whose state is set while a command ends. -/
theorem formSet_spec {y : State} {n res sec : Nat} (hn : n < 4) (h : res < 256)
    (hu : u = (y.setRf (Reg.FORM_STATUS f) 10 2 n).rclResult res sec) :
    y.Reported u Reg.RCL_CMD_STATUS res ∧ u.rb Reg.RCL_CMD 0 = false ∧ u.formState f = n ∧ u.form f = y.form f ∧
    u.reg Reg.RCL_CMD_SEC = word sec := by
  obtain ⟨z, hz⟩ : ∃ z, z = y.setRf (Reg.FORM_STATUS f) 10 2 n := ⟨_, rfl⟩
  have hzl : Leaves (· ≠ Reg.FORM_STATUS f) y z := hz ▸ leaves_setRf (by simp)
  have hzs : z.formState f = n := by
    rw [hz]
    exact (rf_setRf_self (by decide)).trans (Nat.mod_eq_of_lt hn)
  rw [← hz] at hu
  obtain ⟨hrep, hgo, hsec, hl, hw⟩ := rclResult_spec h hu
  refine ⟨hrep.of_seq (hzl.rf ?_ 0 16), hgo, ?_, (form_congr (hw.forms rfl)).trans (hz ▸ rfl), hsec⟩
  · unfold Reg.RCL_CMD_STATUS Reg.FORM_STATUS
    omega
  · exact (hl.rf (offCommand_form (by unfold Reg.FORM_STATUS; omega)) 10 2).trans hzs

/-- The parameters that a RETIME may not change. -/
def FormPar.same (p o : FormPar) : Prop :=
  p.tb = o.tb ∧ p.depth = o.depth ∧ p.ldepth = o.ldepth ∧ p.slot = o.slot ∧ p.capu = o.capu ∧ p.store = o.store

theorem formRetime_eq {p o : FormPar} (hp : p = s.regPar f) (ho : o = s.formPar f) (hst : s.formState f = 1) :
    (p.rangeOk = false ∨ ¬ p.same o → s.formRetime f = s.rclResult 3 0) ∧
    (p.rangeOk = true → p.same o → p.limitOk = false → s.formRetime f = s.rclResult 2 0) ∧
    (p.rangeOk = true → p.same o → p.limitOk = true → s.formRetime f =
      ((s.setForm f { s.form f with staged := some (ceilSec (s.tbNow p.tb) + 1, p) }).setRf (Reg.FORM_STATUS f) 10 2 2).rclResult 0
        (ceilSec (s.tbNow p.tb) + 1)) := by
  have hsame : (!p.rangeOk || decide (p.tb ≠ o.tb) || decide (p.depth ≠ o.depth) || decide (p.ldepth ≠ o.ldepth) ||
      decide (p.slot ≠ o.slot) || decide (p.capu ≠ o.capu) || decide (p.store ≠ o.store)) = true ↔ p.rangeOk = false ∨ ¬ p.same o := by
    unfold FormPar.same
    simp only [Bool.or_eq_true, Bool.not_eq_true', decide_eq_true_eq]
    tauto
  have hne : ¬ s.formState f ≠ 1 := not_not.2 hst
  subst hp ho
  unfold State.formRetime
  dsimp only
  refine ⟨fun h => ?_, fun hr hs hl => ?_, fun hr hs hl => ?_⟩
  · rw [if_neg hne, if_pos (hsame.2 h)]
  · rw [if_neg hne, if_neg (mt hsame.1 (by simp [hr, hs])), hl]
    exact if_pos rfl
  · rw [if_neg hne, if_neg (mt hsame.1 (by simp [hr, hs])), hl]
    exact if_neg (by decide)

/-! ### STOP -/

/-- Nothing of any form has changed but its members and those in quarantine. -/
def OnlyMembers (s t : State) : Prop := ∀ f, ∃ m q, t.form f = { s.form f with members := m, quarantine := q }

theorem OnlyMembers.of_forms (h : t.forms = s.forms) : OnlyMembers s t := fun f => ⟨_, _, form_congr h⟩
theorem OnlyMembers.trans (h : OnlyMembers s t) (k : OnlyMembers t u) : OnlyMembers s u := fun f => by
  obtain ⟨m, q, hm⟩ := h f
  obtain ⟨m', q', hk⟩ := k f
  exact ⟨m', q', by rw [hk, hm]⟩

theorem onlyMembers_unbind {m : Nat} : OnlyMembers s (s.unbind f m) := fun g => by
  by_cases hg : g = f
  · subst hg
    exact ⟨_, _, form_setForm⟩
  · exact ⟨_, _, form_setForm_ne hg⟩

theorem onlyMembers_moveApply {code : Nat} : OnlyMembers s (s.moveApply code) := by
  unfold State.moveApply
  split
  · split
    · exact (OnlyMembers.trans (t := State.setSeatW _ _ _ _) (.of_forms rfl) onlyMembers_unbind).trans (.of_forms rfl)
    · exact .of_forms rfl
  · exact .of_forms rfl

theorem onlyMembers_movesAt {sec : Nat} : OnlyMembers s (s.movesAt f sec) := by
  have h : ∀ (l : List (Nat × Option Seat)) (z : State), OnlyMembers z (l.foldl (fun s e =>
    match e.2 with
    | some x =>
      match x.move with
      | some (b, _, at_) => if (b = f || x.form = f) && decide (at_ ≤ sec) then s.moveApply e.1 else s
      | none => s
    | none => s) z) := fun l => by
    induction l with
    | nil => exact fun z => .of_forms rfl
    | cons e l ih =>
      refine fun z => .trans ?_ (ih _)
      dsimp only
      split
      · split
        · split
          · exact onlyMembers_moveApply
          · exact .of_forms rfl
        · exact .of_forms rfl
      · exact .of_forms rfl
  exact h _ _

theorem retimeAt_rolls {sec : Nat} : ((s.retimeAt f sec).form f).rolls = (s.form f).rolls := by
  unfold State.retimeAt
  split
  · split
    · unfold State.retimeApply
      dsimp only
      split
      · exact (congrArg Form.rolls ((form_congr ((within_setRf _ _ _ _ _).forms rfl)).trans form_setForm)).trans rfl
      · rfl
    · rfl
  · rfl

/-- The state in which a roll is closed: a RETIME and the moves that take effect with it are done. -/
def State.closing (s : State) (f : Nat) (i : Instant) : State :=
  (fun y : State => y.movesAt f (stampSec (((y.form f).parAt i.sec).deadline i))) (s.retimeAt f i.sec)

theorem closeRoll_form {i : Instant} {stopped late : Bool} : ∃ t, (s.closeRoll f i stopped late).2.form f =
    ((s.closing f i).form f).released (((s.closing f i).form f).parAt i.sec) i t := by
  obtain ⟨y, hy⟩ : ∃ y, y = s.closing f i := ⟨_, rfl⟩
  rw [← hy]
  unfold State.closing at hy
  unfold State.closeRoll
  dsimp only at hy ⊢
  rw [← hy]
  refine ⟨y.tbNow ((y.form f).parAt i.sec).tb, (form_congr ((within_answerRoll _ _ _ _ _ _ _).forms rfl)).trans ?_⟩
  refine (form_congr ((within_bump _ _).forms rfl)).trans ?_
  refine (form_congr ((within_setReg _ _ _).forms rfl)).trans ?_
  refine (form_congr ((within_showOpen _ _).forms rfl)).trans ?_
  exact form_setForm

theorem closeRoll_rolls {i : Instant} {stopped late : Bool} :
    ((s.closeRoll f i stopped late).2.form f).rolls = (s.form f).rolls.filter fun o => decide (o.at_ ≠ i) := by
  obtain ⟨t, ht⟩ := closeRoll_form (s := s) (f := f) (i := i) (stopped := stopped) (late := late)
  obtain ⟨m, q, hm⟩ := onlyMembers_movesAt (s := s.retimeAt f i.sec) (f := f)
    (sec := stampSec ((((s.retimeAt f i.sec).form f).parAt i.sec).deadline i)) f
  have hr : ((s.closing f i).form f).rolls = (s.form f).rolls := (congrArg Form.rolls hm).trans retimeAt_rolls
  rw [ht, ← hr]
  rfl

theorem releaseRoll_rolls {i : Instant} {stopped late : Bool} :
    ((s.releaseRoll f i stopped late).form f).rolls = (s.form f).rolls.filter fun o => decide (o.at_ ≠ i) := by
  rw [← closeRoll_rolls (stopped := stopped) (late := late)]
  exact congrArg Form.rolls (form_congr ((within_deliverClosed _ _).forms rfl))

theorem mem_insertInstant {i j : Instant} {l : List Instant} : j ∈ insertInstant i l ↔ j = i ∨ j ∈ l := by
  induction l with
  | nil => simp [insertInstant]
  | cons a l ih =>
    unfold insertInstant
    split
    · simp
    · rw [List.mem_cons, ih, List.mem_cons]
      tauto

theorem mem_sortInstants {j : Instant} {l : List Instant} : j ∈ sortInstants l ↔ j ∈ l := by
  have h : ∀ (l a : List Instant), j ∈ l.foldl (fun a i => insertInstant i a) a ↔ j ∈ a ∨ j ∈ l := fun l => by
    induction l with
    | nil => simp
    | cons i l ih =>
      intro a
      rw [List.foldl_cons, ih, mem_insertInstant, List.mem_cons]
      tauto
  rw [sortInstants, h]
  simp

/-- Releasing the rolls of a list of instants leaves the others open. -/
theorem releaseAll_rolls {stopped late : Bool} {l : List Instant} : ∀ s : State,
    ∀ o ∈ ((l.foldl (fun s i => s.releaseRoll f i stopped late) s).form f).rolls, o ∈ (s.form f).rolls ∧ o.at_ ∉ l := by
  induction l with
  | nil => exact fun s o ho => ⟨ho, List.not_mem_nil⟩
  | cons i l ih =>
    intro s o ho
    obtain ⟨h1, h2⟩ := ih _ o ho
    rw [releaseRoll_rolls] at h1
    obtain ⟨hm, hne⟩ := List.mem_filter.1 h1
    exact ⟨hm, fun c => (List.mem_cons.1 c).elim (by simpa using hne) h2⟩

/-- What STOP does to the form before its rolls are all closed. -/
theorem stopForm_eq : ∃ y : State, s.stopForm f = ((y.setForm f { y.form f with staged := none, retimed := [], gap := false }).clearLedger
    (y.formPar f)).setRf (Reg.FORM_STATUS f) 10 2 0 ∧ (y.form f).rolls = [] := by
  unfold State.stopForm
  dsimp only
  refine ⟨_, rfl, List.eq_nil_iff_forall_not_mem.2 fun o ho => ?_⟩
  obtain ⟨h1, h2⟩ := releaseAll_rolls _ o ho
  exact h2 (mem_sortInstants.2 (List.mem_map.2 ⟨o, h1, rfl⟩))

/-! ### MOVE -/

/-- The move of seat `code` to index `m` of form `f` is staged. -/
def State.moveStaged (s : State) (f m code at_ : Nat) (x : Seat) : State :=
  (s.bind f m code).setSeat code (some { x with move := some (f, m, at_) })

section Move
variable {code m : Nat} {y : Seat}

theorem seatMove_none (h : s.seat code = none ∨ s.freeMember f (s.seatRecLen code) = none) : s.seatMove f code = s.rclResult 6 0 := by
  unfold State.seatMove
  cases hs : s.seat code with
  | none => rfl
  | some x =>
    rw [hs] at h
    rw [h.resolve_left (Option.some_ne_none x)]

theorem seatMove_moving (hs : s.seat code = some y) (hm : s.freeMember f (s.seatRecLen code) = some m) (h : y.move ≠ none) :
    s.seatMove f code = s.rclResult 1 0 := by
  unfold State.seatMove
  rw [hs]
  dsimp only
  rw [hm]
  exact if_pos (Option.isSome_iff_ne_none.2 h)

theorem seatMove_off (hs : s.seat code = some y) (hm : s.freeMember f (s.seatRecLen code) = some m) (h : y.move = none)
    (ht : s.tbState (s.formPar f).tb = 0) : s.seatMove f code = s.rclResult 5 0 := by
  unfold State.seatMove
  rw [hs]
  dsimp only
  rw [hm]
  dsimp only
  rw [h, if_neg (by decide), if_pos ht]

theorem seatMove_staged (hs : s.seat code = some y) (hm : s.freeMember f (s.seatRecLen code) = some m) (h : y.move = none)
    (ht : s.tbState (s.formPar f).tb ≠ 0) : s.seatMove f code =
      (s.moveStaged f m code (ceilSec (s.tbNow (s.formPar f).tb) + 1) y).rclResult 0 (ceilSec (s.tbNow (s.formPar f).tb) + 1) := by
  unfold State.seatMove State.moveStaged
  rw [hs]
  dsimp only
  rw [hm]
  dsimp only
  rw [h, if_neg (by decide), if_neg ht]

theorem moveStaged_spec {at_ : Nat} (hf : f < 256) (hu : u = s.moveStaged f m code at_ y) : u.memberOf f m = some code ∧
    u.seat code = some { y with move := some (f, m, at_) } ∧ Leaves (· ≠ Reg.FORM_STATUS f) s u := by
  obtain ⟨z, hz⟩ : ∃ z, z = s.bind f m code := ⟨_, rfl⟩
  obtain ⟨hm, -, hl⟩ := bind_spec hf hz
  rw [State.moveStaged, ← hz] at hu
  subst hu
  exact ⟨(memberOf_congr (form_congr rfl)).trans hm, seat_setSeat, hl.trans (.of_regs rfl)⟩

end Move

/-- Settles O41: a form command is refused with its first failing check, or sets its form and reports. -/
theorem formCommands : Obligations.FormCommands := by
  unfold Obligations.FormCommands
  intro s v f ha hgo hf
  have hlt := f.isLt
  have hpoke := poke_rclCmd ha hgo
  rw [hf] at hpoke
  have hform : ∀ op, fld v 1 3 = op → s.poke Reg.RCL_CMD v {} =
      (s.rclAsked v).formDo op f (if bit v 4 then localCode (fld v 16 14) else fld v 16 14) := fun op h => h ▸ hpoke
  refine ⟨fun hop => ⟨fun hc => ?_, fun hc => ?_⟩, fun hop => ⟨fun hst => ?_, fun hst => ?_⟩, fun hop => ⟨fun hst => ?_, ?_⟩, fun code hop hcode => ⟨?_, ?_⟩⟩
  · have hex : exec (.formStart v) s = .next ((s.rclAsked v).rclResult (s.startCheck f) 0) := by
      refine congrArg Host.Outcome.next ((hform 1 hop).trans ?_)
      rw [State.formDo, if_pos rfl, State.formStart, startCheck_asked hlt]
      exact if_pos hc
    exact ⟨_, hex, rclRefused_spec startCheck_lt rfl⟩
  · have hstart := formStart_started ((startCheck_asked (v := v) hlt).trans hc)
    rw [regPar_asked hlt, tbNow_asked, form_asked] at hstart
    have hex : exec (.formStart v) s = .next ((s.rclAsked v).formStart f) :=
      congrArg Host.Outcome.next ((hform 1 hop).trans (if_pos rfl))
    obtain ⟨y, hy⟩ : ∃ y, y = ((s.rclAsked v).setForm f ((s.form f).started (s.regPar f)
      (firstInstant (s.regPar f).r (s.tbNow (s.regPar f).tb) false))).clearLedger (s.regPar f) := ⟨_, rfl⟩
    have hyf : y.form f = (s.form f).started (s.regPar f) (firstInstant (s.regPar f).r (s.tbNow (s.regPar f).tb) false) := by
      rw [hy, form_congr ((within_clearLedger _ _).forms rfl), form_setForm]
    have hyr : y.regs = (s.rclAsked v).regs := hy ▸ (within_clearLedger _ _).regs rfl
    rw [← hy] at hstart
    obtain ⟨hrep, hgo', hst, hfm, -⟩ := formSet_spec (by decide) (by decide) hstart
    have hseq : y.rf Reg.RCL_CMD_STATUS 0 16 = s.rf Reg.RCL_CMD_STATUS 0 16 := by
      refine Eq.trans ?_ (rclAsked_seq (v := v))
      rw [State.rf, State.reg, hyr]
      rfl
    refine ⟨_, hex, hrep.of_seq hseq, hgo', hst, ?_⟩
    rw [hfm, hyf]
    exact ⟨rfl, rfl, rfl, rfl⟩
  · have hex : exec (.formStop v) s = .next ((s.rclAsked v).rclResult 1 0) := by
      refine congrArg Host.Outcome.next ((hform 2 hop).trans ?_)
      rw [State.formDo, if_neg (by decide), if_pos rfl, State.formStop, formState_asked hlt]
      exact if_pos hst
    exact ⟨_, hex, rclRefused_spec (by decide) rfl⟩
  · obtain ⟨y, hy, hroll⟩ := stopForm_eq (s := s.rclAsked v) (f := f)
    have hex : exec (.formStop v) s = .next (((s.rclAsked v).stopForm f).rclResult 0 0) := by
      refine congrArg Host.Outcome.next ((hform 2 hop).trans ?_)
      rw [State.formDo, if_neg (by decide), if_pos rfl, State.formStop, formState_asked hlt]
      exact if_neg hst
    obtain ⟨⟨h8, h31, -⟩, hgo', hst', hfm, -⟩ := formSet_spec (by decide) (by decide) (congrArg (State.rclResult · 0 0) hy)
    rw [form_congr ((within_clearLedger _ _).forms rfl), form_setForm] at hfm
    exact ⟨_, hex, hst', h8, h31, hgo', by rw [hfm], by rw [hfm]; exact hroll⟩
  · have hex : exec (.formRetime v) s = .next ((s.rclAsked v).rclResult 1 0) := by
      refine congrArg Host.Outcome.next ((hform 3 hop).trans ?_)
      rw [State.formDo, if_neg (by decide), if_neg (by decide), if_pos rfl, State.formRetime, formState_asked hlt]
      exact if_pos hst
    exact ⟨_, hex, rclRefused_spec (by decide) rfl⟩
  · intro p o same hp ho hsame hst
    have hdo : s.poke Reg.RCL_CMD v {} = (s.rclAsked v).formRetime f := by
      rw [hform 3 hop, State.formDo, if_neg (by decide), if_neg (by decide), if_pos rfl]
    obtain ⟨h3, h2, h0⟩ := formRetime_eq (s := s.rclAsked v) (hp.trans (regPar_asked hlt).symm) (ho.trans (formPar_asked hlt).symm)
      ((formState_asked hlt).trans hst)
    refine ⟨fun h => ?_, fun hr hs hl => ?_, fun hr hs hl => ?_⟩
    · have hex : exec (.formRetime v) s = .next _ := congrArg Host.Outcome.next (hdo.trans (h3 (h.imp_right fun h c => h (hsame.2 c))))
      exact ⟨_, hex, rclRefused_spec (by decide) rfl⟩
    · have hex : exec (.formRetime v) s = .next _ := congrArg Host.Outcome.next (hdo.trans (h2 hr (hsame.1 hs) hl))
      exact ⟨_, hex, rclRefused_spec (by decide) rfl⟩
    · have heq := h0 hr (hsame.1 hs) hl
      have hex : exec (.formRetime v) s = .next ((s.rclAsked v).formRetime f) := congrArg Host.Outcome.next hdo
      rw [tbNow_asked] at heq
      obtain ⟨y, hy⟩ : ∃ y, y = (s.rclAsked v).setForm f
        { (s.rclAsked v).form f with staged := some (ceilSec (s.tbNow p.tb) + 1, p) } := ⟨_, rfl⟩
      have hyr : Leaves (fun _ => True) (s.rclAsked v) y := hy ▸ .of_regs rfl
      have hyf : (y.form f).staged = some (ceilSec (s.tbNow p.tb) + 1, p) := by rw [hy, form_setForm]
      rw [← hy] at heq
      obtain ⟨hrep, hgo', hst', hfm, hsec⟩ := formSet_spec (by decide) (by decide) heq
      exact ⟨_, hex, hrep.of_seq ((hyr.rf trivial 0 16).trans rclAsked_seq), hgo', hst', by rw [hfm, hyf], hsec⟩
  · intro res hres
    have hdo : s.poke Reg.RCL_CMD v {} = (s.rclAsked v).seatMove f code := by
      rw [hform 4 hop, State.formDo, if_neg (by decide), if_neg (by decide), if_neg (by decide), hcode]
    have hseat : (s.rclAsked v).seat code = s.seat code := seat_congr (within_rclAsked.seats rfl)
    have hfree : (s.rclAsked v).freeMember f ((s.rclAsked v).seatRecLen code) = s.freeMember f (s.seatRecLen code) := by
      rw [seatRecLen_congr (within_rclAsked.tables rfl), freeMember_congr hlt ofForms_asked form_asked]
    rcases hres with ⟨rfl, h⟩ | ⟨x, m, hs, hm, ⟨rfl, h⟩ | ⟨rfl, h, ht⟩⟩
    · have hex : exec (.seatMove v) s = .next _ := congrArg Host.Outcome.next (hdo.trans (seatMove_none (by rw [hseat, hfree]; exact h)))
      exact ⟨_, hex, rclRefused_spec (by decide) rfl⟩
    · have hex : exec (.seatMove v) s = .next _ :=
        congrArg Host.Outcome.next (hdo.trans (seatMove_moving (hseat.trans hs) (hfree.trans hm) h))
      exact ⟨_, hex, rclRefused_spec (by decide) rfl⟩
    · have hex : exec (.seatMove v) s = .next _ :=
        congrArg Host.Outcome.next (hdo.trans (seatMove_off (hseat.trans hs) (hfree.trans hm) h (by rw [formPar_asked hlt, tbState_asked]; exact ht)))
      exact ⟨_, hex, rclRefused_spec (by decide) rfl⟩
  · intro x m hs h hm ht
    have hdo : s.poke Reg.RCL_CMD v {} = (s.rclAsked v).seatMove f code := by
      rw [hform 4 hop, State.formDo, if_neg (by decide), if_neg (by decide), if_neg (by decide), hcode]
    have hseat : (s.rclAsked v).seat code = s.seat code := seat_congr (within_rclAsked.seats rfl)
    have hfree : (s.rclAsked v).freeMember f ((s.rclAsked v).seatRecLen code) = s.freeMember f (s.seatRecLen code) := by
      rw [seatRecLen_congr (within_rclAsked.tables rfl), freeMember_congr hlt ofForms_asked form_asked]
    have hmv := seatMove_staged (hseat.trans hs) (hfree.trans hm) h (by rw [formPar_asked hlt, tbState_asked]; exact ht)
    rw [formPar_asked hlt, tbNow_asked] at hmv
    have hex : exec (.seatMove v) s = .next _ := congrArg Host.Outcome.next (hdo.trans hmv)
    obtain ⟨y, hy⟩ : ∃ y, y = (s.rclAsked v).moveStaged f m code (ceilSec (s.tbNow (s.formPar f).tb) + 1) x := ⟨_, rfl⟩
    obtain ⟨ym, ys, yl⟩ := moveStaged_spec hlt hy
    rw [← hy] at hex
    obtain ⟨hrep, -, hsec, -, hw⟩ := rclResult_spec (s := y) (res := 0) (by decide) rfl
    refine ⟨_, hex, hrep.of_seq ?_, ?_, ?_, hsec⟩
    · rw [yl.rf (by unfold Reg.RCL_CMD_STATUS Reg.FORM_STATUS; omega), rclAsked_seq]
    · rw [memberOf_congr (form_congr (hw.forms rfl)), ym]
    · rw [seat_congr (hw.seats rfl), ys]

end Sys2Proof.Machine

/-! Rolls that are released (R188-R190, R425, R427): what a release leaves of the registers of the forms, and the bells of a time base on
which one roll is due. -/

namespace Sys2Proof.Machine

-- One declaration after another: side by side, their threads' stacks pass the memory limit of a check.
set_option Elab.async false

/-! ### What a release leaves of the registers of the forms -/

/-- The registers of the forms are as before. -/
structure FormsKept (s t : State) : Prop where
  regs : Leaves OfForms s t

/-- A register that is none of these. -/
abbrev InFormsKept (o : Nat) : Prop := ¬ OfForms o

/-- A state written out from another with the registers taken over. -/
theorem FormsKept.upd
    {s x : State} {pending_} {now_} {free_} {latches_} {stages_} {msix_} {out_} {hbm_} {hostMem_} {rings_} {tbs_} {tsq_} {rtc_} {pwr_} {trigs_} {marks_}
    {recorder_} {lanes_} {tables_} {chans_} {fade_} {phs_} {nrg_} {acc_} {nrgCmd_} {pulses_} {rxq_} {txq_} {segJobs_} {prp_} {segments_}
    {t1sTaken_} {t1sNum_} {seats_} {seated_} {forms_} {tcp_} {links_} {classrooms_} {lessons_} {alarms_} {slacks_} {answers_} {pass_}
    {sched_} {loader_} {evtIn_} {keys_} {tap_} {cacheSigner_} {pcie_} {modClks_} {nrgInt_} {ppsPin_} (h : FormsKept s x) :
    FormsKept s ⟨pending_, now_, free_, x.regs, latches_, stages_, msix_, out_, hbm_, hostMem_, rings_, tbs_, tsq_, rtc_, pwr_, trigs_,
    marks_, recorder_, lanes_, tables_, chans_, fade_, phs_, nrg_, acc_, nrgCmd_, pulses_, rxq_, txq_, segJobs_, prp_, segments_,
    t1sTaken_, t1sNum_, seats_, seated_, forms_, tcp_, links_, classrooms_, lessons_, alarms_, slacks_, answers_, pass_, sched_, loader_,
    evtIn_, keys_, tap_, cacheSigner_, pcie_, modClks_, nrgInt_, ppsPin_⟩ := ⟨h.regs⟩

variable {s t u x y : State} {o i f : Nat}

theorem FormsKept.refl (s : State) : FormsKept s s := ⟨.refl s⟩
theorem FormsKept.after (h : FormsKept x y) (g : FormsKept s x) : FormsKept s y := ⟨g.regs.trans h.regs⟩
theorem FormsKept.of_regs (h : t.regs = s.regs) : FormsKept s t := ⟨.of_regs h⟩
theorem Within.frm {C : Nat} (h : Within C s t) (hC : C.testBit 3 = false := by decide) : FormsKept s t := .of_regs (h.regs hC)

theorem FormsKept.foldl {α : Type} {f : State → α → State} {l : List α} (hf : ∀ y a, FormsKept s y → FormsKept s (f y a))
    (hx : FormsKept s x) : FormsKept s (l.foldl f x) := by
  induction l generalizing x with
  | nil => exact hx
  | cons a l ih => exact ih (hf x a hx)

theorem FormsKept.pair_fst {β : Type} {b : β} (h : FormsKept s x) : FormsKept s (x, b).1 := h
theorem FormsKept.pair_snd {β : Type} {b : β} (h : FormsKept s x) : FormsKept s (b, x).2 := h

theorem inFormsKept_add {b k : Nat} (h : 0xF3000 ≤ b) : InFormsKept (b + k) := fun c => by
  unfold OfForms at c
  omega

theorem inFormsKept_add_add {b k j : Nat} (h : 0xF3000 ≤ b) : InFormsKept (b + k + j) := fun c => by
  unfold OfForms at c
  omega

theorem quiet_of_forms (h : OfForms o) : Quiet o := by
  unfold OfForms at h
  unfold Quiet
  omega

theorem frm_setReg {w : Word} (h : InFormsKept o) : FormsKept s (s.setReg o w) := ⟨leaves_setReg h⟩
theorem frm_setRb {b : Bool} (h : InFormsKept o) : FormsKept s (s.setRb o i b) := frm_setReg h
theorem frm_setRf {n v : Nat} (h : InFormsKept o) : FormsKept s (s.setRf o i n v) := frm_setReg h
theorem frm_bump (h : InFormsKept o) : FormsKept s (s.bump o) := frm_setReg h
theorem frm_bumpWrap (h : InFormsKept o) : FormsKept s (s.bumpWrap o) := frm_setReg h
theorem frm_publish (h : InFormsKept o) : FormsKept s (s.publish o) := (frm_setRb h).after (frm_setRf h)
theorem frm_raise {e inst : Nat} (he : e < 64) : FormsKept s (s.raise e inst) := ⟨leaves_raise (fun _ => quiet_of_forms) he⟩

theorem frm_flagRaise {e inst : Nat} (h : InFormsKept o) (he : e < 64) : FormsKept s (s.flagRaise o i e inst) :=
  (frm_raise he).after (frm_setRb h)

theorem frm_ringReturn {r st : Nat} {body : List Byte} (hr : r < 32) : FormsKept s (s.ringReturn r body st) :=
  ⟨leaves_ringReturn (fun _ => quiet_of_forms) hr⟩

theorem frm_ringExhaust {r : Nat} {lost : Bool} (hr : r < 32) : FormsKept s (s.ringExhaust r lost) :=
  ⟨leaves_ringExhaust (fun _ => quiet_of_forms) hr⟩

theorem frm_postDesc {r : Nat} {body : List Byte} (hr : r < 32) : FormsKept s (s.postDesc r body) := by
  unfold State.postDesc
  split
  · exact frm_ringReturn hr
  · exact frm_ringExhaust hr

theorem frm_postRecord {r w10 w14 : Nat} {rc : List Byte} (hr : r < 32) : FormsKept s (s.postRecord r rc w10 w14) :=
  ⟨leaves_postRecord (fun _ => quiet_of_forms) hr⟩

theorem frm_keyMiss (s : State) :
    FormsKept s (State.keyMiss s) := by
  unfold State.keyMiss
  repeat' first
  | with_reducible apply FormsKept.refl | with_reducible apply FormsKept.after (frm_bump ?_) | exact inFormsKept_add (by decide)

theorem frm_dropCache (s : State) (i : Nat) :
    FormsKept s (State.dropCache s i) := by
  unfold State.dropCache
  repeat' first
  | with_reducible apply FormsKept.refl | with_reducible assumption | with_reducible apply FormsKept.after (frm_setRb ?_)
  | with_reducible apply FormsKept.foldl | (with_reducible intro y a h) | split | exact inFormsKept_add (by decide)
  | exact inFormsKept_add_add (by decide) | decide

theorem frm_tagCheck (s : State) (i : Nat) :
    FormsKept s (State.tagCheck s i) := by
  unfold State.tagCheck
  repeat' first
  | (extract_lets +onlyGivenNames x; first
      | clear_value x
      | skip)
  | with_reducible apply FormsKept.refl | with_reducible apply FormsKept.after (frm_bump ?_)
  | with_reducible apply FormsKept.after (frm_flagRaise ?_ ?_) | with_reducible apply FormsKept.after ((within_setSlot _ _ _).frm)
  | with_reducible apply FormsKept.after (frm_dropCache _ _) | split | exact inFormsKept_add (by decide)
  | exact inFormsKept_add_add (by decide) | decide

theorem frm_keyFail (s : State) (i : Nat) :
    FormsKept s (State.keyFail s i) := by
  unfold State.keyFail
  repeat' first
  | (extract_lets +onlyGivenNames x; first
      | (refine (fun (h : FormsKept s x) => ?_) ?_; clear_value x; rotate_left; subst x; rotate_left)
      | clear_value x
      | skip)
  | with_reducible apply FormsKept.refl | with_reducible assumption | with_reducible apply FormsKept.after (frm_keyMiss _)
  | with_reducible apply FormsKept.after (frm_tagCheck _ _) | split

theorem frm_ansUse (s : State) :
    FormsKept s (State.ansUse s) := by
  unfold State.ansUse
  repeat' first
  | with_reducible apply FormsKept.refl | with_reducible apply FormsKept.after (frm_keyFail _ _) | split

theorem frm_mismatch (s : State) (kind : Nat) (form : Nat) (inst : Nat) (seq : Nat) :
    FormsKept s (State.mismatch s kind form inst seq) := by
  unfold State.mismatch
  repeat' first
  | (extract_lets +onlyGivenNames x; first
      | (refine (fun (h : FormsKept s x) => ?_) ?_; clear_value x; rotate_left; subst x; rotate_left)
      | clear_value x
      | skip)
  | with_reducible apply FormsKept.refl | with_reducible assumption | with_reducible apply FormsKept.after (frm_setReg ?_)
  | with_reducible apply FormsKept.after (frm_bump ?_) | with_reducible apply FormsKept.after (frm_flagRaise ?_ ?_)
  | with_reducible apply FormsKept.after (frm_publish ?_) | split | exact inFormsKept_add (by decide)
  | exact inFormsKept_add_add (by decide) | decide

theorem frm_classDecision (s : State) (k : AnsKey) (a : AnsEntry) (b : AnsEntry) :
    FormsKept s (State.classDecision s k a b) := by
  unfold State.classDecision
  repeat' first
  | with_reducible apply FormsKept.refl | with_reducible apply FormsKept.after (frm_bump ?_)
  | with_reducible apply FormsKept.after (frm_mismatch _ _ _ _ _) | split | with_reducible apply FormsKept.upd
  | exact inFormsKept_add (by decide)

theorem frm_classRoll (s : State) (k : AnsKey) (a : AnsEntry) (b : AnsEntry) :
    FormsKept s (State.classRoll s k a b) := by
  unfold State.classRoll
  repeat' first
  | (extract_lets +onlyGivenNames x; first
      | clear_value x
      | skip)
  | with_reducible apply FormsKept.refl | with_reducible apply FormsKept.after (frm_bump ?_)
  | with_reducible apply FormsKept.after (frm_mismatch _ _ _ _ _) | split | exact inFormsKept_add (by decide)

theorem frm_ansNote (s : State) (own : Bool) (e : AnsEntry) :
    FormsKept s (State.ansNote s own e) := by
  unfold State.ansNote
  repeat' first
  | with_reducible apply FormsKept.refl | with_reducible apply FormsKept.after (frm_classDecision _ _ _ _)
  | with_reducible apply FormsKept.after (frm_bump ?_) | with_reducible apply FormsKept.after (frm_classRoll _ _ _ _) | split
  | with_reducible apply FormsKept.upd | exact inFormsKept_add (by decide)

theorem frm_ansEntry (s : State) (e : AnsEntry) :
    FormsKept s (State.ansEntry s e) := by
  unfold State.ansEntry
  repeat' first
  | with_reducible apply FormsKept.refl | with_reducible apply FormsKept.after (frm_ansNote _ _ _) | split
  | with_reducible apply FormsKept.upd

theorem frm_answerRoll (s : State) (f : Nat) (p : FormPar) (i : Instant) (stopped : Bool) (present : Nat) (d : List Byte × List Byte) :
    FormsKept s (State.answerRoll s f p i stopped present d) := by
  unfold State.answerRoll
  repeat' first
  | with_reducible apply FormsKept.refl | with_reducible apply FormsKept.after (frm_ansEntry _ _) | split
  | with_reducible apply FormsKept.upd

theorem frm_applyCommit (s : State) (i : Nat) (c : Commit) :
    FormsKept s (State.applyCommit s i c) := by
  unfold State.applyCommit
  repeat' first
  | with_reducible apply FormsKept.refl | with_reducible apply FormsKept.after (frm_setReg ?_)
  | with_reducible apply FormsKept.after ((within_setLesson _ _ _).frm)
  | with_reducible apply FormsKept.after ((within_restartTag _ _).frm) | split | exact inFormsKept_add (by decide)

theorem frm_commitAt (s : State) (i : Nat) (seq : Nat) :
    FormsKept s (State.commitAt s i seq) := by
  unfold State.commitAt
  repeat' first
  | with_reducible apply FormsKept.refl | with_reducible apply FormsKept.after (frm_applyCommit _ _ _) | split

theorem frm_lessonOut (s : State) (i : Nat) (p : Pub) :
    FormsKept s (State.lessonOut s i p) := by
  unfold State.lessonOut
  repeat' first
  | (extract_lets +onlyGivenNames x; first
      | (refine (fun (h : FormsKept s x) => ?_) ?_; clear_value x; rotate_left; subst x; rotate_left)
      | clear_value x
      | skip)
  | with_reducible apply FormsKept.refl | with_reducible assumption | with_reducible apply FormsKept.after (frm_setReg ?_)
  | with_reducible apply FormsKept.after ((within_hbmWrite _ _ _).frm) | with_reducible apply FormsKept.after (frm_postDesc ?_)
  | with_reducible apply FormsKept.after (frm_publish ?_) | split | exact inFormsKept_add (by decide)
  | exact inFormsKept_add_add (by decide) | decide

theorem frm_decisionEntry (s : State) (i : Nat) (r : Roll) (skipped : Bool) (ue : Bool) (exc : Nat) (payload : List Byte) :
    FormsKept s (State.decisionEntry s i r skipped ue exc payload) := by
  unfold State.decisionEntry
  repeat' first
  | with_reducible apply FormsKept.refl | with_reducible apply FormsKept.after (frm_ansUse _)
  | with_reducible apply FormsKept.after (frm_ansEntry _ _) | split

theorem frm_publishSkip (s : State) (i : Nat) (r : Roll) :
    FormsKept s (State.publishSkip s i r) := by
  unfold State.publishSkip
  repeat' first
  | with_reducible apply FormsKept.refl | with_reducible apply FormsKept.after (frm_commitAt _ _ _)
  | with_reducible apply FormsKept.after (frm_bump ?_) | with_reducible apply FormsKept.after ((within_draw _ _).frm)
  | with_reducible apply FormsKept.after (frm_lessonOut _ _ _) | with_reducible apply FormsKept.after ((within_setLesson _ _ _).frm)
  | with_reducible apply FormsKept.after (frm_decisionEntry _ _ _ _ _ _ _)
  | with_reducible apply FormsKept.after ((within_slackDone _ _ _ _).frm) | with_reducible apply FormsKept.after (frm_bumpWrap ?_)
  | with_reducible apply FormsKept.after (frm_setRb ?_) | exact inFormsKept_add (by decide) | exact inFormsKept_add_add (by decide)
  | decide

theorem frm_skipRoll (s : State) (i : Nat) (r : Roll) :
    FormsKept s (State.skipRoll s i r) := by
  unfold State.skipRoll
  repeat' first
  | (extract_lets +onlyGivenNames x; first
      | clear_value x
      | skip)
  | with_reducible apply FormsKept.refl | with_reducible apply FormsKept.after ((within_setLesson _ _ _).frm)
  | with_reducible apply FormsKept.after (frm_publishSkip _ _ _) | split

theorem frm_deliverTo (s : State) (i : Nat) (r : Roll) :
    FormsKept s (State.deliverTo s i r) := by
  unfold State.deliverTo
  repeat' first
  | (extract_lets +onlyGivenNames x; first
      | (refine (fun (h : FormsKept s x) => ?_) ?_; clear_value x; rotate_left; subst x; rotate_left)
      | clear_value x
      | skip)
  | with_reducible apply FormsKept.refl | with_reducible assumption | with_reducible apply FormsKept.after (frm_bump ?_)
  | with_reducible apply FormsKept.after ((within_setLesson _ _ _).frm) | with_reducible apply FormsKept.after (frm_skipRoll _ _ _)
  | split | exact inFormsKept_add (by decide) | exact inFormsKept_add_add (by decide) | decide

theorem frm_deliverLessons (s : State) (r : Roll) :
    FormsKept s (State.deliverLessons s r) := by
  unfold State.deliverLessons
  repeat' first
  | with_reducible apply FormsKept.refl | with_reducible assumption | with_reducible apply FormsKept.after (frm_deliverTo _ _ _)
  | with_reducible apply FormsKept.after ((within_slackRelease _ _ _ _ _).frm) | with_reducible apply FormsKept.foldl
  | (with_reducible intro y a h)

theorem frm_framerSend (s : State) (o : Nat) (r : Roll) :
    FormsKept s (State.framerSend s o r) := by
  unfold State.framerSend
  repeat' first
  | (extract_lets +onlyGivenNames x; first
      | (refine (fun (h : FormsKept s x) => ?_) ?_; clear_value x; rotate_left; subst x; rotate_left)
      | (have e : x = fun y => x y := rfl; clear e; subst x)
      | clear_value x
      | skip)
  | with_reducible apply FormsKept.refl | with_reducible assumption | with_reducible apply FormsKept.after (frm_bump ?_)
  | with_reducible apply FormsKept.after ((within_txQueue _ _ _ _).frm) | with_reducible apply FormsKept.after (frm_bumpWrap ?_)
  | with_reducible apply FormsKept.after (frm_keyFail _ _) | with_reducible apply FormsKept.after (frm_setRb ?_)
  | with_reducible apply FormsKept.foldl | (with_reducible intro y a h) | split | exact inFormsKept_add (by decide)
  | exact inFormsKept_add_add (by decide) | decide

theorem frm_framer (s : State) (r : Roll) :
    FormsKept s (State.framer s r) := by
  unfold State.framer
  repeat' first
  | with_reducible apply FormsKept.refl | with_reducible assumption | with_reducible apply FormsKept.after (frm_framerSend _ _ _)
  | with_reducible apply FormsKept.foldl | (with_reducible intro y a h) | split

theorem frm_slipsOut (s : State) (f : Nat) :
    FormsKept s (State.slipsOut s f) := by
  unfold State.slipsOut
  repeat' first
  | with_reducible apply FormsKept.refl | with_reducible assumption | with_reducible apply FormsKept.after (frm_postRecord ?_)
  | with_reducible apply FormsKept.after ((within_setForm _ _ _).frm) | with_reducible apply FormsKept.foldl
  | (with_reducible intro y a h) | exact inFormsKept_add (by decide) | exact inFormsKept_add_add (by decide) | decide

theorem frm_deliverClosed {c : Closed} : FormsKept s (s.deliverClosed c) := by
  have hroll : FormsKept s (s.deliverRoll c.roll c.present c.members) :=
    (frm_postDesc (by decide)).after ((frm_framer _ _).after (frm_deliverLessons s c.roll))
  unfold State.deliverClosed
  dsimp only
  split
  · exact (frm_flagRaise (o := Reg.RCL_STATUS) (fun h => absurd h.1 (by decide)) (by decide)).after hroll
  · exact hroll

theorem frm_deliverBell {l : List Closed} : FormsKept s (s.deliverBell l) := by
  unfold State.deliverBell
  exact .foldl (fun y c h => (frm_slipsOut y c.roll.form).after h) (.foldl (fun y c h => (frm_deliverClosed (s := y) (c := c)).after h) (.refl s))

/-! ### The states of the forms -/

/-- STATE of every form is as before. -/
def StatesKept (s t : State) : Prop := ∀ g, g < 256 → t.formState g = s.formState g

theorem StatesKept.trans (h : StatesKept s t) (k : StatesKept t u) : StatesKept s u := fun g hg => (k g hg).trans (h g hg)
theorem FormsKept.states (h : FormsKept s t) : StatesKept s t := fun _ hg => formState_congr hg h.regs

/-- Another field of a form's status register is written. -/
theorem states_setRf {a n v : Nat} (h : a + n ≤ 32) (hd : a + n ≤ 10 ∨ 12 ≤ a) : StatesKept s (s.setRf (Reg.FORM_STATUS f) a n v) := by
  intro g _
  rw [State.formState, State.rf, reg_setRf]
  split
  · next hg => rw [fld_setFld_ne h (by omega), ← hg]; rfl
  · rfl

theorem states_setReg {w : Word} (h : ∀ g, o ≠ Reg.FORM_STATUS g) : StatesKept s (s.setReg o w) := fun g _ => by
  rw [State.formState, State.rf, reg_setReg_ne (h g).symm]
  rfl

theorem states_unbind {m : Nat} : StatesKept s (s.unbind f m) :=
  .trans (FormsKept.states (.of_regs rfl)) (states_setRf (s := s.setForm f { s.form f with
      members := Tab.put (fun _ => 0) (s.form f).members m 0
      quarantine := (m, (s.form f).releases) :: (s.form f).quarantine }) (by decide) (.inr (by decide)))

theorem states_showOpen : StatesKept s (s.showOpen f) := by
  unfold State.showOpen
  exact (states_setRf (by decide) (.inl (by decide))).trans (states_setReg fun g => by
    unfold Reg.RCL_ROLLS_OPEN Reg.FORM_STATUS
    omega)

theorem states_moveApply {code : Nat} : StatesKept s (s.moveApply code) := by
  unfold State.moveApply
  split
  · split
    · exact (StatesKept.trans (t := State.setSeatW _ _ _ _) (FormsKept.states (.of_regs rfl)) states_unbind).trans (FormsKept.states (.of_regs rfl))
    · exact fun _ _ => rfl
  · exact fun _ _ => rfl

theorem states_movesAt {sec : Nat} : StatesKept s (s.movesAt f sec) := by
  have h : ∀ (l : List (Nat × Option Seat)) (z : State), StatesKept z (l.foldl (fun s e =>
    match e.2 with
    | some x =>
      match x.move with
      | some (b, _, at_) => if (b = f || x.form = f) && decide (at_ ≤ sec) then s.moveApply e.1 else s
      | none => s
    | none => s) z) := fun l => by
    induction l with
    | nil => exact fun z _ _ => rfl
    | cons e l ih =>
      refine fun z => .trans ?_ (ih _)
      dsimp only
      split
      · split
        · split
          · exact states_moveApply
          · exact fun _ _ => rfl
        · exact fun _ _ => rfl
      · exact fun _ _ => rfl
  exact h _ _

theorem states_closeRoll {i : Instant} {stopped late : Bool} (hst : (s.form f).staged = none) :
    StatesKept s (s.closeRoll f i stopped late).2 := by
  obtain ⟨y, hy⟩ : ∃ y, y = s.movesAt f (stampSec (((s.form f).parAt i.sec).deadline i)) := ⟨_, rfl⟩
  refine .trans (t := y) (hy ▸ states_movesAt) ?_
  unfold State.closeRoll
  dsimp only
  rw [retimeAt_plain hst, ← hy]
  refine .trans ?_ (frm_answerRoll _ _ _ _ _ _ _).states
  refine .trans ?_ (frm_bump (fun h => absurd h.1 (by decide))).states
  refine .trans ?_ (states_setReg fun g => by unfold Reg.FORM_LAST Reg.FORM_STATUS; omega)
  refine .trans ?_ states_showOpen
  refine .trans ?_ (Within.frm (within_setForm _ _ _)).states
  refine .trans ?_ (Within.frm (within_completeImage _ _ _ _ _ _ _ _)).states
  refine .trans ?_ (frm_ansUse _).states
  split
  · exact fun _ _ => rfl
  · exact (Within.frm (within_openImage _ _ _ _)).states

theorem liveForms_congr (h : StatesKept s t) : t.liveForms = s.liveForms :=
  List.filter_congr fun g hg => by rw [h g (List.mem_range.1 hg)]

theorem liveForms_one (g : Fin 256) (h : ∀ k : Fin 256, s.formState k ≠ 0 ↔ k = g) : s.liveForms = [g.val] := by
  have hf : s.liveForms = (List.range 256).filter (fun k => k == g.val) :=
    List.filter_congr fun k hk => by
      rw [Bool.eq_iff_iff, decide_eq_true_iff, beq_iff_eq]
      exact (h ⟨k, List.mem_range.1 hk⟩).trans Fin.ext_iff
  rw [hf, List.filter_beq, List.count_eq_one_of_mem List.nodup_range (List.mem_range.2 g.isLt)]
  rfl

/-! ### The bells of a time base -/

section Bells
variable {n : Nat} {d : Stamp}

theorem timersDue_nil (h : s.sched.timers = []) : s.timersDue n = [] := by
  unfold State.timersDue
  rw [h]
  split <;> rfl

/-- The entry of a form that is due. -/
def State.dueEntry (s : State) (f : Nat) (d : Stamp) : DueEntry := ⟨d, max d ((s.form f).heldAt.getD 0), .form f⟩

theorem entriesDue_none (ht : s.sched.timers = []) (hl : s.liveForms = [f]) (hd : s.formDue n f = none) : s.entriesDue n = [] := by
  unfold State.entriesDue
  rw [hl, timersDue_nil ht, List.filterMap_cons, hd]
  rfl

theorem entriesDue_one (ht : s.sched.timers = []) (hl : s.liveForms = [f]) (hd : s.formDue n f = some d) :
    s.entriesDue n = [s.dueEntry f d] := by
  unfold State.entriesDue
  rw [hl, timersDue_nil ht, List.filterMap_cons, hd]
  rfl

theorem gapsOf_nil (hl : s.liveForms = [f]) (hg : s.gapDue f = false) : s.gapsOf n = ([], s) := by
  have hc : s.gapClose f = ([], s) := by
    unfold State.gapClose
    rw [hg, Bool.and_false]
    exact if_neg Bool.false_ne_true
  unfold State.gapsOf
  rw [hl, List.filter_cons]
  split
  · rw [List.filter_nil, List.foldl_cons, List.foldl_nil, hc]
    rfl
  · rfl

theorem deliverBell_nil : s.deliverBell [] = s := by
  have h : byForm [] = [] := by simp [byForm]
  rw [State.deliverBell, h]
  rfl

theorem fireBell_none {b : Stamp} {acc : List Closed} {k : Nat} (h : s.entriesDue n = []) : fireBell n b k acc s = (acc, s) := by
  cases k with
  | zero => rfl
  | succ k =>
    unfold fireBell
    rw [h]
    rfl

theorem ringBells_none {k : Nat} (h : s.entriesDue n = []) : ringBells n k [] s = s := by
  cases k with
  | zero => exact deliverBell_nil
  | succ k =>
    unfold ringBells
    rw [h]
    exact deliverBell_nil

/-- No bell fires anything. -/
theorem bellsOf_idle (ht : s.sched.timers = []) (hl : s.liveForms = [f]) (hg : s.gapDue f = false) (hd : s.formDue n f = none) :
    s.bellsOf n = s := by
  unfold State.bellsOf
  rw [gapsOf_nil hl hg]
  exact ringBells_none (entriesDue_none ht hl hd)

theorem bellFuel_pos (hl : s.liveForms = [f]) : ∃ k, s.bellFuel n = k + 1 := by
  refine Nat.exists_eq_succ_of_ne_zero ?_
  unfold State.bellFuel State.relFuel
  rw [hl, List.foldl_cons, List.foldl_nil]
  dsimp only
  omega

theorem removeFinish_idle (h : s.rb Reg.ITK_SEAT_CMD 0 = false) : s.removeFinish = s := by
  have h' : bit (s.reg Reg.ITK_SEAT_CMD) 0 = false := h
  unfold State.removeFinish
  dsimp only
  rw [h']
  exact if_neg Bool.false_ne_true

theorem fileBefore_none (hs : s.seated = []) (h : s.rb Reg.ITK_SEAT_CMD 0 = false) : s.fileBefore f d = s := by
  have hset : ({ s with seated := s.seated.filter (fun g => !s.beforeDeadline f d g) } : State) = s := by
    rw [hs, List.filter_nil, ← hs]
  unfold State.fileBefore
  dsimp only
  rw [hset, hs, List.filter_nil, List.foldl_nil]
  exact removeFinish_idle h

theorem closeNext_eq (hs : s.seated = []) (h : s.rb Reg.ITK_SEAT_CMD 0 = false) : s.closeNext f d =
    s.closeRoll f (s.form f).next false (s.lateAt ((s.form f).parMap (s.form f).next.sec).tb d (s.form f).heldAt) := by
  unfold State.closeNext
  dsimp only
  rw [fileBefore_none hs h]

section One
variable {b : Stamp} {k : Nat} {c : Closed × State} (ht : s.sched.timers = []) (hl : s.liveForms = [f]) (hd : s.formDue n f = some d)
  (hc : s.closeNext f d = c) (hn : c.2.entriesDue n = [])
include ht hl hd hc hn

theorem fireBell_one (hb : (s.dueEntry f d).ready ≤ b) : fireBell n b (k + 1) [] s = ([c.1], c.2) := by
  unfold fireBell
  rw [entriesDue_one ht hl hd, List.filter_cons, if_pos (decide_eq_true hb)]
  dsimp only [List.filter_nil, earliest, List.foldl_cons, List.foldl_nil, State.dueEntry]
  rw [hc]
  exact fireBell_none hn

/-- The one roll that is due is closed and delivered. -/
theorem bellsOf_one (hg : s.gapDue f = false) (hr : (s.dueEntry f d).ready ≤ s.bellAfter n (s.dueEntry f d).ready)
    (hu : u = c.2.deliverBell [c.1]) (hnu : u.entriesDue n = []) : s.bellsOf n = u := by
  obtain ⟨k, hk⟩ := bellFuel_pos (n := n) hl
  unfold State.bellsOf
  rw [gapsOf_nil hl hg]
  dsimp only
  rw [hk, ringBells, entriesDue_one ht hl hd]
  dsimp only [earliest, List.foldl_cons, List.foldl_nil]
  rw [hk, fireBell_one ht hl hd hc hn hr, ← hu]
  exact ringBells_none hnu

end One

/-- Time bases ring one after another. -/
theorem bells_one {m : Nat} (hm : m < 4) (hbefore : ∀ n, n < 4 → n ≠ m → s.bellsOf n = s) (hat : s.bellsOf m = u)
    (hafter : ∀ n, n < 4 → n ≠ m → u.bellsOf n = u) : s.bells = u := by
  have h : m = 0 ∨ m = 1 ∨ m = 2 ∨ m = 3 := by omega
  unfold State.bells
  rcases h with rfl | rfl | rfl | rfl
  · rw [hat, hafter 1 (by decide) (by decide), hafter 2 (by decide) (by decide), hafter 3 (by decide) (by decide)]
  · rw [hbefore 0 (by decide) (by decide), hat, hafter 2 (by decide) (by decide), hafter 3 (by decide) (by decide)]
  · rw [hbefore 0 (by decide) (by decide), hbefore 1 (by decide) (by decide), hat, hafter 3 (by decide) (by decide)]
  · rw [hbefore 0 (by decide) (by decide), hbefore 1 (by decide) (by decide), hbefore 2 (by decide) (by decide), hat]

end Bells

/-! ### The form of a released roll -/

/-- The form is as before but for the records that wait. -/
def OnlySlips (f : Nat) (s t : State) : Prop := ∃ l, t.form f = { s.form f with slips := l }

theorem onlySlips_slipsOut {g : Nat} : OnlySlips f s (s.slipsOut g) := by
  have hpost : ∀ (l : List Slip) (z : State), (l.foldl (fun s r => s.postRecord 13 r.octets r.w10 r.w14) z).forms = z.forms := fun l => by
    induction l with
    | nil => exact fun _ => rfl
    | cons a l ih => exact fun z => (ih _).trans ((within_postRecord _ _ _ _ _).forms rfl)
  have hf : (s.slipsOut g).form f = (s.setForm g { s.form g with slips := [] }).form f := form_congr (hpost _ _)
  rw [OnlySlips, hf]
  by_cases h : f = g
  · subst h
    exact ⟨_, form_setForm⟩
  · exact ⟨_, form_setForm_ne h⟩

theorem onlySlips_deliverBell {l : List Closed} : OnlySlips f s (s.deliverBell l) := by
  have hclosed : ∀ (l : List Closed) (z : State), (l.foldl State.deliverClosed z).forms = z.forms := fun l => by
    induction l with
    | nil => exact fun _ => rfl
    | cons a l ih => exact fun z => (ih _).trans ((within_deliverClosed _ _).forms rfl)
  have hslips : ∀ (l : List Closed) (z : State), OnlySlips f z (l.foldl (fun s c => s.slipsOut c.roll.form) z) := fun l => by
    induction l with
    | nil => exact fun _ => ⟨_, rfl⟩
    | cons a l ih =>
      intro z
      obtain ⟨l1, h1⟩ := onlySlips_slipsOut (f := f) (s := z) (g := a.roll.form)
      obtain ⟨l2, h2⟩ := ih (z.slipsOut a.roll.form)
      exact ⟨l2, by rw [List.foldl_cons, h2, h1]⟩
  obtain ⟨l', h'⟩ := hslips (byForm l) ((byForm l).foldl State.deliverClosed s)
  exact ⟨l', h'.trans (by rw [form_congr (hclosed _ _)])⟩

/-- What a release leaves of its form. -/
theorem released_spec {stopped late : Bool} {c : Closed × State} (hst : (s.form f).staged = none)
    (hc : c = s.closeRoll f (s.form f).next stopped late) (hu : u = c.2.deliverBell [c.1]) :
    (u.form f).last = some (s.form f).next ∧
    (u.form f).next = (s.form f).next.next ((s.form f).parMap (s.form f).next.sec).r ∧
    (u.form f).releases = (s.form f).releases + 1 ∧ ∀ o ∈ (u.form f).rolls, o.at_ ≠ (s.form f).next := by
  obtain ⟨t, ht⟩ := closeRoll_form (s := s) (f := f) (i := (s.form f).next) (stopped := stopped) (late := late)
  obtain ⟨m, q, hm⟩ := onlyMembers_movesAt (s := s) (f := f)
    (sec := stampSec (((s.form f).parAt (s.form f).next.sec).deadline (s.form f).next)) f
  have hcl : (s.closing f (s.form f).next).form f = { s.form f with members := m, quarantine := q } := by
    rw [State.closing, retimeAt_plain hst]
    exact hm
  obtain ⟨l, hl⟩ := onlySlips_deliverBell (f := f) (s := c.2) (l := [c.1])
  have hpar : (s.form f).parMap (s.form f).next.sec = (s.form f).parAt (s.form f).next.sec := by
    rw [Form.parMap, hst]
  rw [← hu, hc, ht, hcl] at hl
  rw [hl, hpar]
  refine ⟨rfl, if_pos rfl, rfl, fun o ho => ?_⟩
  exact of_decide_eq_true (List.mem_filter.1 ho).2

/-! ### The end of a tardy window -/

/-- The windows and the batch of the answer check are as before. -/
abbrev SameBatch (s t : State) : Prop := t.answers.windows = s.answers.windows ∧ t.answers.batch = s.answers.batch

theorem SameBatch.trans (h : SameBatch s t) (k : SameBatch t u) : SameBatch s u := ⟨k.1.trans h.1, k.2.trans h.2⟩

theorem sameBatch_mismatch {kind form inst seq : Nat} : SameBatch s (s.mismatch kind form inst seq) := by
  have h := (within_mismatch s kind form inst seq).answers rfl
  exact ⟨by rw [h], by rw [h]⟩

theorem sameBatch_classRoll {k : AnsKey} {a b : AnsEntry} : SameBatch s (s.classRoll k a b) := by
  have h := (within_classRoll s k a b).answers rfl
  exact ⟨by rw [h], by rw [h]⟩

theorem sameBatch_classDecision {k : AnsKey} {a b : AnsEntry} : SameBatch s (s.classDecision k a b) := by
  unfold State.classDecision
  extract_lets carried rest differs src t
  have h : SameBatch s t := ⟨rfl, rfl⟩
  clear_value t
  split
  · exact h
  · split
    · exact h
    · split
      · exact h
      · split
        · exact h
        · exact h.trans sameBatch_mismatch

theorem sameBatch_ansNote {own : Bool} {e : AnsEntry} : SameBatch s (s.ansNote own e) := by
  unfold State.ansNote
  extract_lets old k rest rels src s1 s2 keys
  have h1 : SameBatch s s1 := ⟨rfl, rfl⟩
  clear_value s1
  split
  · split
    · exact SameBatch.trans (t := { s1 with answers := { s1.answers with keys := rest } }) h1 sameBatch_classRoll
    · exact SameBatch.trans (t := { s1 with answers := { s1.answers with keys := rest } }) h1 sameBatch_classDecision
  · split
    · exact h1
    · exact h1

theorem ansEntry_on {e : AnsEntry} (h : s.rb Reg.RED_CTRL 1 = true) :
    (s.ansEntry e).answers.windows = s.answers.windows ∧ (s.ansEntry e).answers.batch = s.answers.batch ++ [e] := by
  unfold State.ansEntry
  dsimp only
  rw [if_pos h]
  exact sameBatch_ansNote

theorem ansEntry_off {e : AnsEntry} (h : s.rb Reg.RED_CTRL 1 = false) : s.ansEntry e = s := by
  unfold State.ansEntry
  rw [h]
  exact if_neg Bool.false_ne_true

/-- The window is closed. -/
def State.windowClosed (s : State) (w : Window) : State := { s with answers := { s.answers with windows := s.answers.windows.erase w } }

theorem tardyWindowEnd_some {w : Window} (hd : s.domOn pdSch = true)
    (hw : s.answers.windows.find? (fun w => decide (w.until_ ≤ s.tbNow w.tb)) = some w) :
    s.tardyWindowEnd = (s.windowClosed w).ansEntry w.fin := by
  unfold State.tardyWindowEnd State.windowClosed
  rw [hw]
  exact if_pos hd

/-- Settles O42: the bell of the form's time base fires the one entry that is due; before it and after it no bell fires. -/
theorem rollsAreReleased : Obligations.RollsAreReleased := by
  unfold Obligations.RollsAreReleased
  refine fun s => ⟨fun f d r x p c u hx hp hst htb hseated htimers hcmd hlive hgap hdue hr hrb hc hu hnone hugap => ?_,
    fun w hd hw => ⟨fun hon => ?_, fun hoff => ?_⟩, fun hw => ?_⟩
  · subst hx
    have hl := liveForms_one f hlive
    have hcs : StatesKept s c.2 := hc ▸ states_closeRoll hst
    have hus : StatesKept s u := hcs.trans (hu ▸ frm_deliverBell.states)
    have hlc : c.2.liveForms = [f.val] := (liveForms_congr hcs).trans hl
    have hlu : u.liveForms = [f.val] := (liveForms_congr hus).trans hl
    have htc : c.2.sched.timers = [] := by
      rw [hc, (within_closeRoll _ _ _ _ _).sched rfl]
      exact htimers
    have htu : u.sched.timers = [] := by
      rw [hu, (within_deliverBell _ _).sched rfl]
      exact htc
    have hclose : s.closeNext f d = c := by rw [closeNext_eq hseated hcmd, hc, hp]
    have hother : ∀ n, n ≠ p.tb → s.formDue n f = none := fun n hn => by
      unfold State.formDue
      dsimp only
      rw [← hp, decide_eq_false hn.symm, Bool.false_and]
      exact if_neg Bool.false_ne_true
    have hat : s.bellsOf p.tb = u := bellsOf_one htimers hl hdue hclose (entriesDue_none htc hlc (hnone ⟨p.tb, htb⟩).1) hgap
      (by rw [State.dueEntry, ← hr]; exact hrb) hu (entriesDue_none htu hlu (hnone ⟨p.tb, htb⟩).2)
    have hbells : s.bells = u := bells_one htb (fun n _ hn => bellsOf_idle htimers hl hgap (hother n hn)) hat
      (fun n hn _ => bellsOf_idle htu hlu hugap (hnone ⟨n, hn⟩).2)
    have hrel := released_spec hst hc hu
    rw [← hp] at hrel
    exact ⟨congrArg Host.Outcome.next hbells, hrel⟩
  · have hex : exec .tardyWindowEnd s = .next _ := congrArg Host.Outcome.next (tardyWindowEnd_some hd hw)
    exact ⟨_, hex, ansEntry_on (s := s.windowClosed w) hon⟩
  · have hex : exec .tardyWindowEnd s = .next (s.windowClosed w) :=
      congrArg Host.Outcome.next ((tardyWindowEnd_some hd hw).trans (ansEntry_off (s := s.windowClosed w) hoff))
    exact ⟨_, hex, rfl, rfl, rfl⟩
  · refine congrArg Host.Outcome.next ?_
    unfold State.tardyWindowEnd
    rw [hw]

end Sys2Proof.Machine

/-! The scheduler's tasks and the commands on them (R345, R347, R348). -/

namespace Sys2Proof.Machine

-- One declaration after another: side by side, their threads' stacks pass the memory limit of a check.
set_option Elab.async false

variable {s t u x : State}

/-! ### Tasks, the ready list, flows and timers -/

section Tasks
variable {i j : Nat} {y : Task}

theorem task_congr (h : t.sched.tasks = s.sched.tasks) : t.task i = s.task i := by
  rw [State.task, h]
  rfl

theorem task_of_sched (h : t.sched = s.sched) : t.task i = s.task i := task_congr (by rw [h])

theorem task_setTask : (s.setTask i y).task i = y := Tab.get_put_self
theorem task_setTask_ne (h : j ≠ i) : (s.setTask i y).task j = s.task j := Tab.get_put_ne h

/-- A task whose flags have been ORed in, or that has come back to WAIT, as R348 judges it. -/
def Task.judged (y : Task) : Task := { y with state := if y.state = 1 ∧ y.satisfied = true then 2 else y.state }

theorem taskReady_spec (hu : u = s.taskReady i) : u.task i = { s.task i with state := 2 } ∧ (∀ j, j ≠ i → u.task j = s.task j) ∧
    u.sched.ready = s.sched.ready ++ [i] ∧ u.sched = { s.sched with tasks := u.sched.tasks, ready := u.sched.ready } ∧
    (∀ o, Quiet o → o ≠ Reg.SCH_STATUS → u.reg o = s.reg o) ∧ ((s.task i).notify = false → u.regs = s.regs) ∧
    ((s.task i).notify = true → u.event 50 = true) ∧ KeepsEvents s u := by
  obtain ⟨a, ha⟩ : ∃ a : State, a = { s.setTask i { s.task i with state := 2 } with
    sched := { (s.setTask i { s.task i with state := 2 }).sched with ready := s.sched.ready ++ [i] } } := ⟨_, rfl⟩
  have hai : a.task i = { s.task i with state := 2 } := by
    rw [ha]
    exact (task_congr (s := s.setTask i { s.task i with state := 2 }) rfl).trans task_setTask
  have haj : ∀ j, j ≠ i → a.task j = s.task j := fun j hj => by
    rw [ha]
    exact (task_congr (s := s.setTask i { s.task i with state := 2 }) rfl).trans (task_setTask_ne hj)
  have har : a.sched.ready = s.sched.ready ++ [i] := by rw [ha]
  have hab : a.sched = { s.sched with tasks := a.sched.tasks, ready := a.sched.ready } := by rw [ha]; rfl
  have hag : a.regs = s.regs := by rw [ha]; rfl
  have he : u = if (s.task i).notify then a.flagRaise Reg.SCH_STATUS 0 50 0 else a := by rw [hu, ha]; rfl
  clear ha hu
  have hs : u.sched = a.sched := by
    rw [he]
    split
    · exact (within_flagRaise _ _ _ _ _).sched rfl
    · rfl
  refine ⟨(task_of_sched hs).trans hai, fun j hj => (task_of_sched hs).trans (haj j hj), hs ▸ har, hs ▸ hab, ?_, ?_, ?_, ?_⟩
  · intro o ho hne
    rw [← (Leaves.of_regs (P := fun _ => True) hag) o trivial, he]
    split
    · exact flagRaise_quiet ho hne (by decide)
    · rfl
  · intro hn
    rw [he, hn]
    exact hag
  · intro hn
    rw [he, hn]
    exact event_flagRaise (by decide)
  · rw [he]
    split
    · exact (keepsEvents_of_regs hag).trans (keepsEvents_flagRaise (by decide) (by decide))
    · exact keepsEvents_of_regs hag

/-- Judging task `i`: READY at the tail of its list where it waited and its flags satisfy its mask. -/
theorem taskJudge_spec (hu : u = s.taskJudge i) : u.task i = (s.task i).judged ∧ (∀ j, j ≠ i → u.task j = s.task j) ∧
    u.sched.ready = s.sched.ready ++ (if (s.task i).state = 1 ∧ (s.task i).satisfied = true then [i] else []) ∧
    u.sched = { s.sched with tasks := u.sched.tasks, ready := u.sched.ready } ∧
    (∀ o, Quiet o → o ≠ Reg.SCH_STATUS → u.reg o = s.reg o) ∧
    (¬ ((s.task i).state = 1 ∧ (s.task i).satisfied = true) ∨ (s.task i).notify = false → u.regs = s.regs) ∧
    ((s.task i).state = 1 → (s.task i).satisfied = true → (s.task i).notify = true → u.event 50 = true) ∧ KeepsEvents s u := by
  unfold State.taskJudge at hu
  by_cases h : (s.task i).state = 1 ∧ (s.task i).satisfied = true
  · rw [if_pos (by rw [Bool.and_eq_true, decide_eq_true_iff]; exact h)] at hu
    obtain ⟨h1, h2, h3, h4, h6, h7, h8, h9⟩ := taskReady_spec hu
    refine ⟨?_, h2, ?_, h4, h6, fun hn => h7 (hn.resolve_left (not_not.2 h)), fun _ _ => h8, h9⟩
    · rw [h1, Task.judged, if_pos h]
    · rw [h3, if_pos h]
  · rw [if_neg (by rw [Bool.and_eq_true, decide_eq_true_iff]; exact h)] at hu
    subst hu
    refine ⟨?_, fun _ _ => rfl, ?_, rfl, fun _ _ _ => rfl, fun _ => rfl, fun ha hb => absurd ⟨ha, hb⟩ h, fun _ _ he => he⟩
    · rw [Task.judged, if_neg h]
    · rw [if_neg h, List.append_nil]

/-- A dispatched task that is complete in RUN. -/
theorem taskComplete_run (h3 : (s.task i).state = 3) (hu : u = s.taskComplete i) :
    u.task i = { s.task i with state := if (s.task i).satisfied then 2 else 1 } ∧ (∀ j, j ≠ i → u.task j = s.task j) ∧
    u.sched.ready = (if (s.task i).satisfied then s.sched.ready ++ [i] else s.sched.ready) ∧
    u.sched.busy = (if (s.task i).flowEn then s.sched.busy.erase (s.task i).flow else s.sched.busy) ∧
    (∀ o, Quiet o → o ≠ Reg.SCH_STATUS → u.reg o = s.reg o) := by
  obtain ⟨a, ha⟩ : ∃ a, a = s.freeFlow i := ⟨_, rfl⟩
  have hat : ∀ j, a.task j = s.task j := fun j => by
    rw [ha, State.freeFlow]
    dsimp only
    split <;> rfl
  have har : a.sched.ready = s.sched.ready := by
    rw [ha, State.freeFlow]
    dsimp only
    split <;> rfl
  have hab : a.sched.busy = if (s.task i).flowEn then s.sched.busy.erase (s.task i).flow else s.sched.busy := by
    rw [ha, State.freeFlow]
    dsimp only
    split <;> rfl
  have hag : a.regs = s.regs := by
    rw [ha, State.freeFlow]
    dsimp only
    split <;> rfl
  obtain ⟨b, hb⟩ : ∃ b, b = a.setTask i { a.task i with state := 1 } := ⟨_, rfl⟩
  have hbi : b.task i = { s.task i with state := 1 } := by rw [hb, task_setTask, hat]
  have hbj : ∀ j, j ≠ i → b.task j = s.task j := fun j hj => by rw [hb, task_setTask_ne hj, hat]
  have hbr : b.sched.ready = s.sched.ready := by rw [hb, ← har]; rfl
  have hbb : b.sched.busy = a.sched.busy := by rw [hb]; rfl
  have hbg : b.regs = s.regs := by rw [hb, ← hag]; rfl
  have he : u = b.taskJudge i := by
    rw [hu, hb]
    unfold State.taskComplete
    rw [← ha]
    exact if_neg (by rw [hat, h3]; decide)
  clear hb ha hu
  obtain ⟨h1, h2, h4, h5, h6, -⟩ := taskJudge_spec he
  have hsat : (b.task i).satisfied = (s.task i).satisfied := by rw [hbi]; rfl
  refine ⟨?_, fun j hj => (h2 j hj).trans (hbj j hj), ?_, (congrArg Sched.busy h5).trans (hbb.trans hab), fun o ho hn => ?_⟩
  · rw [h1, Task.judged, hsat, hbi]
    cases (s.task i).satisfied <;> simp
  · rw [h4, hsat, hbr, hbi]
    cases (s.task i).satisfied <;> simp
  · rw [h6 o ho hn, State.reg, hbg]
    rfl

/-- An ENDING task that is complete is FREE. -/
theorem taskComplete_ending (h4 : (s.task i).state = 4) (hu : u = s.taskComplete i) :
    u.task i = { gen := ((s.task i).gen + 1) % 256 } ∧ u.sched.ready = s.sched.ready ∧ u.regs = s.regs := by
  obtain ⟨a, ha⟩ : ∃ a, a = s.freeFlow i := ⟨_, rfl⟩
  have hat : a.task i = s.task i := by
    rw [ha, State.freeFlow]
    dsimp only
    split <;> rfl
  have har : a.sched.ready = s.sched.ready := by
    rw [ha, State.freeFlow]
    dsimp only
    split <;> rfl
  have hag : a.regs = s.regs := by
    rw [ha, State.freeFlow]
    dsimp only
    split <;> rfl
  have he : u = a.taskFree i := by
    rw [hu]
    unfold State.taskComplete
    rw [← ha]
    exact if_pos (hat ▸ h4)
  clear ha hu
  subst he
  exact ⟨by rw [State.taskFree, task_setTask, hat], by rw [← har]; rfl, by rw [← hag]; rfl⟩

end Tasks

/-! ### The task command -/

section Command
variable {v : Word} {res h i : Nat}

/-- The command is written: the result of the one before is no longer READY. -/
def State.taskAsked (s : State) (v : Word) : State :=
  (s.setReg Reg.SCH_TASK_CMD (merge 0xFFFFF007 v (s.reg Reg.SCH_TASK_CMD))).unready Reg.SCH_TASK_STATUS

theorem leaves_taskAsked : Leaves (fun o => o ≠ Reg.SCH_TASK_CMD ∧ o ≠ Reg.SCH_TASK_STATUS) s (s.taskAsked v) :=
  (leaves_setReg fun h => h.1 rfl).trans (leaves_unready fun h => h.2 rfl)

theorem within_taskAsked : Within 0x8 s (s.taskAsked v) := (within_setRb _ _ _ _).after (by decide) (within_setReg s _ _)

theorem sched_taskAsked : (s.taskAsked v).sched = s.sched := within_taskAsked.sched rfl

theorem poke_taskCmd (hacc : s.Accepts Reg.SCH_TASK_CMD v) (hgo : bit v 0 = true) : s.poke Reg.SCH_TASK_CMD v {} =
    if fld v 1 2 = 1 then (s.taskAsked v).taskCreate
    else if fld v 1 2 = 2 then (s.taskAsked v).taskDestroy (fld v 12 20)
    else (s.taskAsked v).taskDone (fld v 12 20) := by
  have hreg : (s.setReg Reg.SCH_TASK_CMD (merge 0xFFFFF007 v (s.reg Reg.SCH_TASK_CMD))).reg Reg.SCH_TASK_CMD =
    merge 0xFFFFF007 v (s.reg Reg.SCH_TASK_CMD) := reg_setReg_self
  have hrf : (s.taskAsked v).rf Reg.SCH_TASK_CMD 1 2 = fld v 1 2 := by
    rw [State.rf, State.taskAsked, State.unready, reg_setRb, if_neg (by decide), hreg, fld_merge (by decide)]
  have hh : (s.setReg Reg.SCH_TASK_CMD (merge 0xFFFFF007 v (s.reg Reg.SCH_TASK_CMD))).rf Reg.SCH_TASK_CMD 12 20 = fld v 12 20 := by
    rw [State.rf, hreg, fld_merge (by decide)]
  have hb : (s.setReg Reg.SCH_TASK_CMD (merge 0xFFFFF007 v (s.reg Reg.SCH_TASK_CMD))).rb Reg.SCH_TASK_CMD 0 = true := by
    rw [State.rb, hreg, bit_merge, if_pos (by decide), hgo]
  rw [hacc.poke_plain (r := ⟨0xD000C, 0x4, 1, 0x4, 1, 0x0, 0xFFFFF007, 0x0, 0x0, 0x0, .single, none⟩) (by decide) rfl rfl rfl,
    unitHook_sch (by decide), State.schHook, if_neg (by decide), if_pos rfl, if_pos hb, State.taskCommand]
  dsimp only
  rw [← State.taskAsked, hrf, hh]
  split
  · next h => rw [if_pos h]
  · next h => rw [if_neg (by rw [h]; decide), if_pos h]
  · next h1 h2 => rw [if_neg h1, if_neg h2]

theorem handleId_fld : handleId (fld v 12 20) = fld v 12 12 := by
  simp only [handleId, fld]
  omega

theorem handleGen_fld : handleGen (fld v 12 20) = fld v 24 8 := by
  simp only [handleGen, fld]
  omega

theorem taskResult_spec (hr : res < 256) (hu : u = s.taskResult res h) :
    s.Reported u Reg.SCH_TASK_STATUS res ∧ u.rb Reg.SCH_TASK_CMD 0 = false ∧ u.reg Reg.SCH_TASK_HANDLE = word h ∧
    Leaves (fun o => o ≠ Reg.SCH_TASK_CMD ∧ o ≠ Reg.SCH_TASK_STATUS ∧ o ≠ Reg.SCH_TASK_HANDLE) s u ∧ Within 0x8 s u := by
  have hw := hu ▸ within_taskResult s res h
  obtain ⟨a, ha⟩ : ∃ a, a = s.setReg Reg.SCH_TASK_HANDLE (word h) := ⟨_, rfl⟩
  have he : u = (a.resultShown Reg.SCH_TASK_STATUS res).setRb Reg.SCH_TASK_CMD 0 false := by rw [hu, ha]; rfl
  have hseq : a.rf Reg.SCH_TASK_STATUS 0 16 = s.rf Reg.SCH_TASK_STATUS 0 16 := by
    rw [State.rf, ha, reg_setReg_ne (by decide)]
    rfl
  have hl : Leaves (fun o => o ≠ Reg.SCH_TASK_CMD ∧ o ≠ Reg.SCH_TASK_STATUS) a u := by
    rw [he]
    exact (leaves_resultShown fun h => h.2 rfl).trans (leaves_setRb fun h => h.1 rfl)
  refine ⟨?_, ?_, ?_, ?_, hw⟩
  · refine State.Reported.of_seq ?_ hseq
    rw [he]
    exact State.Reported.after (reported_resultShown hr) (reg_setRb.trans (if_neg (by decide)))
  · rw [he]
    exact rb_setRb_self (by decide)
  · rw [hl _ (by decide), ha, reg_setReg_self]
  · refine Leaves.trans ?_ (hl.mono fun o ho => ⟨ho.1, ho.2.1⟩)
    rw [ha]
    exact leaves_setReg fun h => h.2.2 rfl

theorem taskAsked_seq : (s.taskAsked v).rf Reg.SCH_TASK_STATUS 0 16 = s.rf Reg.SCH_TASK_STATUS 0 16 := by
  refine unready_seq.trans ?_
  rw [State.rf, reg_setReg_ne (by decide)]
  rfl

/-- What work between the command and its result leaves of the status register. -/
theorem taskResult_after (hr : res < 256) (hx : x.reg Reg.SCH_TASK_STATUS = (s.taskAsked v).reg Reg.SCH_TASK_STATUS)
    (hu : u = x.taskResult res h) : s.Reported u Reg.SCH_TASK_STATUS res := by
  obtain ⟨hrep, -⟩ := taskResult_spec hr hu
  refine hrep.of_seq ?_
  rw [State.rf, hx]
  exact taskAsked_seq

/-- A refused command leaves its result and nothing else. -/
theorem taskRefused_spec (hr : res < 256) (hu : u = (s.taskAsked v).taskResult res h) :
    s.Reported u Reg.SCH_TASK_STATUS res ∧ u.rb Reg.SCH_TASK_CMD 0 = false ∧
    AllRegsKept s u [Reg.SCH_TASK_CMD, Reg.SCH_TASK_STATUS, Reg.SCH_TASK_HANDLE] ∧ OnlyRegs s u := by
  obtain ⟨-, hgo, -, hl, hw⟩ := taskResult_spec hr hu
  refine ⟨taskResult_after hr rfl hu, hgo, fun o ho => ?_, (hw.after (by decide) within_taskAsked).onlyRegs⟩
  have hn : o ≠ Reg.SCH_TASK_CMD ∧ o ≠ Reg.SCH_TASK_STATUS ∧ o ≠ Reg.SCH_TASK_HANDLE := by simpa using ho
  exact (hl o hn).trans (leaves_taskAsked o ⟨hn.1, hn.2.1⟩)

/-! #### CREATE -/

theorem freeTask_none (h : ∀ i < taskCount, (s.task i).state ≠ 0) : s.freeTask = none :=
  List.find?_eq_none.2 fun i hi => by simpa using h i (List.mem_range.1 hi)

theorem freeTask_some (hi : i < taskCount) (h0 : (s.task i).state = 0) (hlt : ∀ j < i, (s.task j).state ≠ 0) : s.freeTask = some i :=
  List.find?_range_eq_some.2 ⟨decide_eq_true h0, List.mem_range.2 hi, fun j hj => by simpa using hlt j hj⟩

theorem freeTask_congr (h : t.sched = s.sched) : t.freeTask = s.freeTask := by
  unfold State.freeTask
  simp only [task_of_sched h]

/-- The table of tasks is full. -/
theorem taskCreate_full (hn : s.freeTask = none) (hu : u = (s.taskAsked v).taskCreate) :
    s.Reported u Reg.SCH_TASK_STATUS 1 ∧ u.rb Reg.SCH_TASK_CMD 0 = false ∧ u.event 51 = true ∧
    u.reg (Reg.SCH_CNT 3) = satWord (s.reg (Reg.SCH_CNT 3)) 1 ∧ u.sched = s.sched := by
  obtain ⟨a, ha⟩ : ∃ a, a = (s.taskAsked v).bump (Reg.SCH_CNT 3) := ⟨_, rfl⟩
  obtain ⟨b, hb⟩ : ∃ b, b = a.flagRaise Reg.SCH_STATUS 1 51 0 := ⟨_, rfl⟩
  have he : u = b.taskResult 1 0 := by
    rw [hu, hb, ha]
    unfold State.taskCreate
    rw [freeTask_congr sched_taskAsked, hn]
    rfl
  have hbq : ∀ o, Quiet o → o ≠ Reg.SCH_STATUS → b.reg o = a.reg o := fun o ho hne => by
    rw [hb]
    exact flagRaise_quiet ho hne (by decide)
  have hb51 : b.event 51 = true := by
    rw [hb]
    exact event_flagRaise (by decide)
  have hbs : b.sched = s.sched := by
    rw [hb, (within_flagRaise _ _ _ _ _).sched rfl, ha, (within_bump _ _).sched rfl, sched_taskAsked]
  have hast : a.reg Reg.SCH_TASK_STATUS = (s.taskAsked v).reg Reg.SCH_TASK_STATUS := by
    rw [ha, reg_bump, if_neg (by decide)]
  have hac : a.reg (Reg.SCH_CNT 3) = satWord (s.reg (Reg.SCH_CNT 3)) 1 := by
    rw [ha, reg_bump, if_pos rfl, leaves_taskAsked _ (by decide)]
  clear hb ha hu
  obtain ⟨-, hgo, -, hl, hw⟩ := taskResult_spec (by decide) he
  refine ⟨taskResult_after (by decide) ((hbq _ (by decide) (by decide)).trans hast) he, hgo, ?_, ?_, (hw.sched rfl).trans hbs⟩
  · exact (hl.rb (o := Reg.EVT_STATUS 1) (by decide) 19).trans hb51
  · rw [hl _ (by decide), hbq _ (by decide) (by decide), hac]

/-- The task that CREATE makes of the staging registers. -/
def State.createdTask (s : State) (i : Nat) : Task :=
  { state := 1, gen := (s.task i).gen, prio := fld (s.reg Reg.SCH_TASK_ARG0) 0 3, all := bit (s.reg Reg.SCH_TASK_ARG0) 3
    flowEn := bit (s.reg Reg.SCH_TASK_ARG0) 4, notify := bit (s.reg Reg.SCH_TASK_ARG0) 5, flow := fld (s.reg Reg.SCH_TASK_ARG0) 16 16
    mask := s.reg Reg.SCH_TASK_ARG1, arg := s.reg Reg.SCH_TASK_ARG2 }

/-- The staging registers describe no task. -/
def badTask (a m : Word) : Prop := fld a 0 3 < 2 ∨ m = 0 ∨ (bit a 4 = true ∧ fld a 16 16 < 0x4200)

theorem taskCreate_bad (hf : s.freeTask = some i) (hbad : badTask (s.reg Reg.SCH_TASK_ARG0) (s.reg Reg.SCH_TASK_ARG1)) :
    (s.taskAsked v).taskCreate = (s.taskAsked v).taskResult 2 0 := by
  unfold State.taskCreate
  rw [freeTask_congr sched_taskAsked, hf, State.taskCreateAt]
  dsimp only
  rw [leaves_taskAsked Reg.SCH_TASK_ARG0 (by decide), leaves_taskAsked Reg.SCH_TASK_ARG1 (by decide)]
  refine if_pos ?_
  simpa [badTask, or_assoc] using hbad

theorem taskCreate_good (hf : s.freeTask = some i) (hgood : ¬ badTask (s.reg Reg.SCH_TASK_ARG0) (s.reg Reg.SCH_TASK_ARG1)) :
    (s.taskAsked v).taskCreate = ((s.taskAsked v).setTask i (s.createdTask i)).taskResult 0 (s.handleOf i) := by
  unfold State.taskCreate
  rw [freeTask_congr sched_taskAsked, hf, State.taskCreateAt]
  dsimp only
  rw [leaves_taskAsked Reg.SCH_TASK_ARG0 (by decide), leaves_taskAsked Reg.SCH_TASK_ARG1 (by decide),
    leaves_taskAsked Reg.SCH_TASK_ARG2 (by decide), State.handleOf, task_of_sched sched_taskAsked]
  refine if_neg ?_
  simpa [badTask, or_assoc] using hgood

/-! #### DESTROY and DONE -/

theorem stale_iff : (s.taskAsked v).stale (fld v 12 20) = true ↔ (s.task (fld v 12 12)).gen ≠ fld v 24 8 := by
  rw [State.stale, handleId_fld, handleGen_fld, task_of_sched sched_taskAsked, decide_eq_true_iff]

/-- The command of DESTROY and of DONE, by the number that it carries. -/
def taskEnds (s : State) (v : Word) : State :=
  if fld v 1 2 = 2 then (s.taskAsked v).taskDestroy (fld v 12 20) else (s.taskAsked v).taskDone (fld v 12 20)

section Ends
variable {y : Task} (hi : i = fld v 12 12) (hy : y = s.task i)
include hi hy

theorem taskEnds_stale (h : y.gen ≠ fld v 24 8) : taskEnds s v = (s.taskAsked v).taskResult 3 0 := by
  subst hi hy
  unfold taskEnds State.taskDestroy State.taskDone
  dsimp only
  rw [if_pos (stale_iff.2 h), if_pos (stale_iff.2 h), ite_self]

section Fresh
variable (hg : y.gen = fld v 24 8)
include hg

theorem taskDestroy_fresh : (s.taskAsked v).taskDestroy (fld v 12 20) =
    if y.sys then (s.taskAsked v).taskResult 4 0
    else if y.state = 1 then (((s.taskAsked v).disarm i).taskFree i).taskResult 0 0
    else if y.state = 2 then
      ((({ s.taskAsked v with sched := { (s.taskAsked v).sched with ready := (s.taskAsked v).sched.ready.erase i } } : State).disarm i).taskFree
        i).taskResult 0 0
    else if y.state = 3 then (((s.taskAsked v).disarm i).setTask i { y with state := 4 }).taskResult 0 0
    else (s.taskAsked v).taskResult 4 0 := by
  subst hi hy
  have hs : ¬ (s.taskAsked v).stale (fld v 12 20) = true := fun c => stale_iff.1 c hg
  unfold State.taskDestroy
  dsimp only
  rw [if_neg hs, handleId_fld, task_of_sched sched_taskAsked]
  cases (s.task (fld v 12 12)).sys with
  | true => rfl
  | false =>
    rw [if_neg Bool.false_ne_true, if_neg Bool.false_ne_true]
    split
    · next h => rw [if_pos h]
    · next h => rw [if_neg (by rw [h]; decide), if_pos h]
    · next h => rw [if_neg (by rw [h]; decide), if_neg (by rw [h]; decide), if_pos h]
    · next h1 h2 h3 => rw [if_neg h1, if_neg h2, if_neg h3]

theorem taskDone_fresh : (s.taskAsked v).taskDone (fld v 12 20) =
    if y.sys = true ∨ y.state ≠ 3 ∧ y.state ≠ 4 then (s.taskAsked v).taskResult 4 0
    else ((s.taskAsked v).taskComplete i).taskResult 0 0 := by
  subst hi hy
  have hs : ¬ (s.taskAsked v).stale (fld v 12 20) = true := fun c => stale_iff.1 c hg
  unfold State.taskDone
  dsimp only
  rw [if_neg hs, handleId_fld, task_of_sched sched_taskAsked]
  simp only [Bool.or_eq_true, Bool.and_eq_true, decide_eq_true_iff]

/-- A system task, and one in a state that the command does not end. -/
theorem taskEnds_wrong (h : y.sys = true ∨ y.state = 0 ∨ (fld v 1 2 = 2 ∧ y.state = 4) ∨ (fld v 1 2 = 3 ∧ (y.state = 1 ∨ y.state = 2))) :
    taskEnds s v = (s.taskAsked v).taskResult 4 0 := by
  unfold taskEnds
  rw [taskDestroy_fresh hi hy hg, taskDone_fresh hi hy hg]
  rcases h with h | h | ⟨h2, h⟩ | ⟨h3, h⟩
  · simp [h]
  · simp [h]
  · simp [h2, h]
  · rcases h with h | h <;> simp [h3, h]

end Fresh
end Ends

/-- DESTROY of a task that waits or is ready. -/
theorem destroyed_spec {r : List Nat}
    (hu : u = ((({ s.taskAsked v with sched := { s.sched with ready := r } } : State).disarm i).taskFree i).taskResult 0 0) :
    s.Reported u Reg.SCH_TASK_STATUS 0 ∧ u.rb Reg.SCH_TASK_CMD 0 = false ∧ u.task i = { gen := ((s.task i).gen + 1) % 256 } ∧
    u.sched.ready = r ∧ (∀ y ∈ u.sched.timers, y.task ≠ i) ∧ ∀ j, j ≠ i → u.task j = s.task j := by
  obtain ⟨a, ha⟩ : ∃ a : State, a = ({ s.taskAsked v with sched := { s.sched with ready := r } } : State).disarm i := ⟨_, rfl⟩
  have hat : ∀ j, a.task j = s.task j := fun j => task_congr (by rw [ha]; rfl)
  have har : a.sched.ready = r := by rw [ha]; rfl
  have hatm : a.sched.timers = s.sched.timers.filter (fun t => decide (t.task ≠ i)) := by rw [ha]; rfl
  have hag : a.regs = (s.taskAsked v).regs := by rw [ha]; rfl
  rw [← ha] at hu
  clear ha
  obtain ⟨b, hb⟩ : ∃ b : State, b = a.taskFree i := ⟨_, rfl⟩
  rw [← hb] at hu
  have hbi : b.task i = { gen := ((s.task i).gen + 1) % 256 } := by rw [hb, State.taskFree, task_setTask, hat]
  have hbj : ∀ j, j ≠ i → b.task j = s.task j := fun j hj => by rw [hb, State.taskFree, task_setTask_ne hj, hat]
  have hbr : b.sched.ready = r := by rw [hb, ← har]; rfl
  have hbt : b.sched.timers = s.sched.timers.filter (fun t => decide (t.task ≠ i)) := by rw [hb, ← hatm]; rfl
  have hbg : b.regs = (s.taskAsked v).regs := by rw [hb, ← hag]; rfl
  clear hb
  obtain ⟨-, hgo, -, -, hw⟩ := taskResult_spec (by decide) hu
  have hs : u.sched = b.sched := hw.sched rfl
  refine ⟨taskResult_after (by decide) (by rw [State.reg, hbg]; rfl) hu, hgo, (task_of_sched hs).trans hbi, hs ▸ hbr, fun y hy => ?_,
    fun j hj => (task_of_sched hs).trans (hbj j hj)⟩
  rw [hs, hbt] at hy
  exact of_decide_eq_true (List.mem_filter.1 hy).2

/-- DESTROY of a task that runs. -/
theorem ending_spec {y : Task} (hu : u = (((s.taskAsked v).disarm i).setTask i y).taskResult 0 0) :
    s.Reported u Reg.SCH_TASK_STATUS 0 ∧ u.rb Reg.SCH_TASK_CMD 0 = false ∧ u.task i = y ∧ (∀ y ∈ u.sched.timers, y.task ≠ i) := by
  obtain ⟨b, hb⟩ : ∃ b : State, b = ((s.taskAsked v).disarm i).setTask i y := ⟨_, rfl⟩
  rw [← hb] at hu
  have hbi : b.task i = y := by rw [hb, task_setTask]
  have hbt : b.sched.timers = s.sched.timers.filter (fun t => decide (t.task ≠ i)) := by rw [hb, ← sched_taskAsked (v := v)]; rfl
  have hbg : b.regs = (s.taskAsked v).regs := by rw [hb]; rfl
  clear hb
  obtain ⟨-, hgo, -, -, hw⟩ := taskResult_spec (by decide) hu
  have hs : u.sched = b.sched := hw.sched rfl
  refine ⟨taskResult_after (by decide) (by rw [State.reg, hbg]; rfl) hu, hgo, (task_of_sched hs).trans hbi, fun y hy => ?_⟩
  rw [hs, hbt] at hy
  exact of_decide_eq_true (List.mem_filter.1 hy).2

end Command

/-! ### The statement -/

section Statement
variable {v : Word} (hacc : s.Accepts Reg.SCH_TASK_CMD v) (hgo : bit v 0 = true)
include hacc hgo

theorem exec_taskCreate (h : fld v 1 2 = 1) : exec (.taskCreate v) s = .next (s.taskAsked v).taskCreate :=
  congrArg Host.Outcome.next ((poke_taskCmd hacc hgo).trans (if_pos h))

theorem exec_taskEnds {cmd : Instr} (h : cmd = .taskDestroy v ∧ fld v 1 2 = 2 ∨ cmd = .taskDone v ∧ fld v 1 2 = 3) :
    exec cmd s = .next (taskEnds s v) := by
  have h1 : fld v 1 2 ≠ 1 := by rcases h with ⟨-, h⟩ | ⟨-, h⟩ <;> rw [h] <;> decide
  have he : s.poke Reg.SCH_TASK_CMD v {} = taskEnds s v := (poke_taskCmd hacc hgo).trans (if_neg h1)
  rcases h with ⟨rfl, -⟩ | ⟨rfl, -⟩ <;> exact congrArg Host.Outcome.next he

end Statement

/-- Settles O53. -/
theorem taskCommands : Obligations.TaskCommands := by
  intro s v hacc hgo
  refine ⟨fun hop => ⟨fun hall => ?_, ?_⟩, ?_⟩
  · obtain ⟨u, hu⟩ : ∃ u, u = (s.taskAsked v).taskCreate := ⟨_, rfl⟩
    exact ⟨u, hu ▸ exec_taskCreate hacc hgo hop, taskCreate_full (freeTask_none hall) hu⟩
  · rintro i a m hi h0 hlt rfl rfl
    have hf := freeTask_some hi h0 hlt
    refine ⟨fun hbad => ?_, fun h2 hm hfl => ?_⟩
    · refine ⟨_, exec_taskCreate hacc hgo hop, ?_⟩
      exact taskRefused_spec (by decide) (taskCreate_bad hf hbad)
    · have hgood : ¬ badTask (s.reg Reg.SCH_TASK_ARG0) (s.reg Reg.SCH_TASK_ARG1) := by
        rintro (h | h | ⟨h4, h⟩)
        · omega
        · exact hm h
        · exact absurd (hfl h4) (Nat.not_le.2 h)
      obtain ⟨b, hb⟩ : ∃ b : State, b = (s.taskAsked v).setTask i (s.createdTask i) := ⟨_, rfl⟩
      have hbi : b.task i = s.createdTask i := by rw [hb, task_setTask]
      have hbj : ∀ j, j ≠ i → b.task j = s.task j := fun j hj => by rw [hb, task_setTask_ne hj, task_of_sched sched_taskAsked]
      have hbg : b.regs = (s.taskAsked v).regs := by rw [hb]; rfl
      obtain ⟨u, hu⟩ : ∃ u, u = b.taskResult 0 (s.handleOf i) := ⟨_, rfl⟩
      have hex : exec (.taskCreate v) s = .next u := by
        rw [exec_taskCreate hacc hgo hop, taskCreate_good hf hgood, hu, hb]
      clear hb
      obtain ⟨-, hgo', hh, hl, hw⟩ := taskResult_spec (by decide) hu
      have hs : u.sched = b.sched := hw.sched rfl
      refine ⟨u, hex, taskResult_after (by decide) (by rw [State.reg, hbg]; rfl) hu, hgo', hh, (task_of_sched hs).trans hbi,
        fun j hj => (task_of_sched hs).trans (hbj j hj), fun o ho => ?_⟩
      have hn : o ≠ Reg.SCH_TASK_CMD ∧ o ≠ Reg.SCH_TASK_STATUS ∧ o ≠ Reg.SCH_TASK_HANDLE := by simpa using ho
      rw [hl o hn, (Leaves.of_regs (P := fun _ => True) hbg) o trivial, leaves_taskAsked o ⟨hn.1, hn.2.1⟩]
  · intro i y cmd hi hy hcmd
    have hex := exec_taskEnds hacc hgo hcmd
    refine ⟨fun hg => ⟨_, hex, taskRefused_spec (by decide) (taskEnds_stale hi hy hg)⟩, fun hg => ⟨fun hw => ?_, ?_, ?_, ?_, ?_⟩⟩
    · exact ⟨_, hex, taskRefused_spec (by decide) (taskEnds_wrong hi hy hg hw)⟩
    · intro hsys hop hst
      have he : taskEnds s v = ((({ s.taskAsked v with sched := { s.sched with
          ready := if y.state = 2 then s.sched.ready.erase i else s.sched.ready } } : State).disarm i).taskFree i).taskResult 0 0 := by
        rw [taskEnds, if_pos hop, taskDestroy_fresh hi hy hg, if_neg (by rw [hsys]; decide), ← sched_taskAsked (v := v) (s := s)]
        rcases hst with h | h
        · rw [if_pos h, if_neg (by rw [h]; decide)]
        · rw [if_neg (by rw [h]; decide), if_pos h, if_pos h]
      obtain ⟨h1, h2, h3, h4, h5, h6⟩ := destroyed_spec he
      exact ⟨_, hex, h1, h2, hy ▸ h3, h4, h5, h6⟩
    · intro hsys hop hst
      have he : taskEnds s v = (((s.taskAsked v).disarm i).setTask i { y with state := 4 }).taskResult 0 0 := by
        rw [taskEnds, if_pos hop, taskDestroy_fresh hi hy hg, if_neg (by rw [hsys]; decide), if_neg (by rw [hst]; decide),
          if_neg (by rw [hst]; decide), if_pos hst]
      exact ⟨_, hex, ending_spec he⟩
    · intro hsys hop hst
      obtain ⟨b, hb⟩ : ∃ b : State, b = (s.taskAsked v).taskComplete i := ⟨_, rfl⟩
      have he : taskEnds s v = b.taskResult 0 0 := by
        rw [hb, taskEnds, if_neg (by rw [hop]; decide), taskDone_fresh hi hy hg, if_neg (by rw [hsys, hst]; decide)]
      have hai : (s.taskAsked v).task i = y := (task_of_sched (sched_taskAsked (v := v))).trans hy.symm
      obtain ⟨h1, h2, h3⟩ := taskComplete_ending (hai ▸ hst) hb
      obtain ⟨-, hgo', -, -, hw⟩ := taskResult_spec (by decide) he
      have hs := hw.sched rfl
      refine ⟨_, hex, taskResult_after (by decide) (by rw [State.reg, h3]; rfl) he, hgo', ?_, ?_⟩
      · rw [task_of_sched hs, h1, hai]
      · rw [hs, h2, sched_taskAsked]
    · intro hsys hop hst
      obtain ⟨b, hb⟩ : ∃ b : State, b = (s.taskAsked v).taskComplete i := ⟨_, rfl⟩
      have he : taskEnds s v = b.taskResult 0 0 := by
        rw [hb, taskEnds, if_neg (by rw [hop]; decide), taskDone_fresh hi hy hg, if_neg (by rw [hsys, hst]; decide)]
      have hai : (s.taskAsked v).task i = y := (task_of_sched (sched_taskAsked (v := v))).trans hy.symm
      obtain ⟨h1, -, h3, h4, h5⟩ := taskComplete_run (hai ▸ hst) hb
      rw [hai, sched_taskAsked] at h3 h4
      rw [hai] at h1
      obtain ⟨-, hgo', -, -, hw⟩ := taskResult_spec (by decide) he
      have hs := hw.sched rfl
      refine ⟨_, hex, taskResult_after (by decide) (h5 _ (by decide) (by decide)) he, hgo', ?_, ?_, ?_⟩
      · rw [task_of_sched hs, h1]
      · rw [hs, h3]
      · rw [hs, h4]

end Sys2Proof.Machine

/-! Flags, dispatch, the completions of engines and timers (R348-R352, R354, R355). -/

namespace Sys2Proof.Machine

-- One declaration after another: side by side, their threads' stacks pass the memory limit of a check.
set_option Elab.async false

variable {s t u x : State}

/-! ### What a ring and a time base read -/

/-- The registers below the events and the rings of the scheduler's unit. -/
abbrev OffSch (o : Nat) : Prop := o / 0x10000 ≠ 13

theorem ringReady_congr {r : Nat} (hr : r < 32) (h : Leaves OffSch s t) : t.ringReady r = s.ringReady r := by
  have h1 : t.reg Reg.PWR_DOMAIN_STATUS = s.reg Reg.PWR_DOMAIN_STATUS := h _ (by decide)
  have h2 : t.pwrState = s.pwrState := h.rf (o := Reg.PWR_STATUS) (by decide) 0 2
  have h3 : t.ringState r = s.ringState r := h.rf (o := Reg.RNG_STATUS r) (by unfold OffSch Reg.RNG_STATUS; omega) 0 2
  have h4 : t.ringHead r = s.ringHead r := h.rf (o := Reg.RNG_HEAD r) (by unfold OffSch Reg.RNG_HEAD; omega) 0 16
  have h5 : t.ringTail r = s.ringTail r := h.rf (o := Reg.RNG_TAIL r) (by unfold OffSch Reg.RNG_TAIL; omega) 0 16
  have h6 : t.ringSize r = s.ringSize r := by
    rw [State.ringSize, h.rf (o := Reg.RNG_CTRL r) (by unfold OffSch Reg.RNG_CTRL; omega)]
    rfl
  rw [State.ringReady, State.ringServed, domOn_congr h1, domOn_congr h1, h2, h3, State.ringHolds, h4, h5, h6]
  rfl

theorem leaves_postDesc {P : Nat → Prop} (hP : ∀ o, P o → Quiet o) {r : Nat} {body : List Byte} (hr : r < 32) :
    Leaves P s (s.postDesc r body) := by
  unfold State.postDesc
  split
  · exact leaves_ringReturn hP hr
  · exact leaves_ringExhaust hP hr

theorem postDesc_head {r : Nat} {body : List Byte} (h32 : r < 32) (hr : s.ringReady r = true) (h23 : r ≠ 23) : (s.postDesc r body).ringHead r = s.ringNext r := by
  rw [State.postDesc, if_pos hr]
  exact ringReturn_head h32 h23

/-! ### Flags -/

section Flags
variable {v w : Word} {i h : Nat}

/-- Flags that are ORed into a task, which is then judged (R349). -/
theorem orFlags_spec {y : Task} (hy : y = { s.task i with flags := (s.task i).flags ||| w }) (hu : u = s.orFlags i w) :
    u.task i = y.judged ∧ (∀ j, j ≠ i → u.task j = s.task j) ∧
    u.sched.ready = s.sched.ready ++ (if y.state = 1 ∧ y.satisfied = true then [i] else []) ∧
    u.sched = { s.sched with tasks := u.sched.tasks, ready := u.sched.ready } ∧
    (∀ o, Quiet o → o ≠ Reg.SCH_STATUS → u.reg o = s.reg o) ∧
    (¬ (y.state = 1 ∧ y.satisfied = true) ∨ y.notify = false → u.regs = s.regs) ∧
    (y.state = 1 → y.satisfied = true → y.notify = true → u.event 50 = true) ∧ KeepsEvents s u := by
  obtain ⟨a, ha⟩ : ∃ a : State, a = s.setTask i y := ⟨_, rfl⟩
  have hai : a.task i = y := by rw [ha, task_setTask]
  have haj : ∀ j, j ≠ i → a.task j = s.task j := fun j hj => by rw [ha, task_setTask_ne hj]
  have has : a.sched = { s.sched with tasks := a.sched.tasks } := by rw [ha]; rfl
  have hag : a.regs = s.regs := by rw [ha]; rfl
  have he : u = a.taskJudge i := by rw [hu, ha, hy]; rfl
  clear ha hy hu
  obtain ⟨h1, h2, h3, h4, h5, h6, h7, h8⟩ := taskJudge_spec he
  rw [hai] at h1 h3 h6 h7
  refine ⟨h1, fun j hj => (h2 j hj).trans (haj j hj), ?_, ?_, ?_, fun hn => (h6 hn).trans hag, h7, (keepsEvents_of_regs hag).trans h8⟩
  · rw [h3, has]
  · rw [h4, has]
  · intro o ho hn
    rw [h5 o ho hn, State.reg, hag]
    rfl

theorem setFlags_refused (hx : s.stale h = true ∨ (s.task (handleId h)).state = 0 ∨ (s.task (handleId h)).state = 4 ∨
    (s.task (handleId h)).sys = true) : s.setFlags h v = s.bump (Reg.SCH_CNT 2) := by
  unfold State.setFlags
  refine if_pos ?_
  simpa [or_assoc] using hx

theorem setFlags_taken (hs : s.stale h = false) (h0 : (s.task (handleId h)).state ≠ 0) (h4 : (s.task (handleId h)).state ≠ 4)
    (hsys : (s.task (handleId h)).sys = false) : s.setFlags h v = s.orFlags (handleId h) v := by
  unfold State.setFlags
  refine if_neg ?_
  simp [hs, h0, h4, hsys]

theorem poke_flagSet (hacc : s.Accepts Reg.SCH_FLAG_SET v) :
    ∃ b : State, s.poke Reg.SCH_FLAG_SET v {} = b.setFlags (s.rf Reg.SCH_FLAG_TGT 0 20) v ∧ Leaves (fun _ => True) s b ∧ b.sched = s.sched ∧
      Within 0x8 s b := by
  obtain ⟨b, hb⟩ : ∃ b, b = s.setReg Reg.SCH_FLAG_SET (s.reg Reg.SCH_FLAG_SET) := ⟨_, rfl⟩
  have hl : Leaves (fun _ => True) s b := fun o _ => by
    rw [hb, reg_setReg]
    split
    · next h => rw [h]
    · rfl
  refine ⟨b, ?_, hl, by rw [hb]; rfl, hb ▸ within_setReg s _ _⟩
  rw [hacc.poke_plain (r := ⟨0xD002C, 0x4, 1, 0x4, 1, 0x0, 0x0, 0x0, 0xFFFFFFFF, 0x0, .single, none⟩) (by decide) rfl rfl rfl, merge_none,
    ← hb, unitHook_sch (by decide), State.schHook, if_neg (by decide), if_neg (by decide), if_pos rfl, State.flagSet,
    hl.rf (o := Reg.SCH_FLAG_TGT) trivial]

theorem handleId_rf {o : Nat} : handleId (s.rf o 0 20) = s.rf o 0 12 := by
  simp only [handleId, State.rf, fld]
  omega

theorem handleGen_rf {o : Nat} : handleGen (s.rf o 0 20) = s.rf o 12 8 := by
  simp only [handleGen, State.rf, fld]
  omega

theorem stale_rf {o : Nat} (hs : t.sched = s.sched) : t.stale (s.rf o 0 20) = decide ((s.task (s.rf o 0 12)).gen ≠ s.rf o 12 8) := by
  rw [State.stale, handleId_rf, handleGen_rf, task_of_sched hs]

end Flags

/-! ### Dispatch -/

section Dispatch
variable {i n : Nat}

/-- Task `i` leaves the ready list for RUN with its flow busy. -/
def State.started (s : State) (i : Nat) : State :=
  ({ s with sched := { s.sched with
      ready := s.sched.ready.erase i
      busy := if (s.task i).flowEn then (s.task i).flow :: s.sched.busy else s.sched.busy } }).setTask i
    { s.task i with state := 3, flags := (s.task i).flags &&& ~~~ (s.task i).mask }

theorem started_spec (ha : x = s.started i) : x.task i = { s.task i with state := 3, flags := (s.task i).flags &&& ~~~ (s.task i).mask } ∧
    x.sched.ready = s.sched.ready.erase i ∧
    x.sched.busy = (if (s.task i).flowEn then (s.task i).flow :: s.sched.busy else s.sched.busy) ∧ x.regs = s.regs := by
  subst ha
  exact ⟨task_setTask, rfl, rfl, rfl⟩

/-- What DISPATCH leaves of the item that it dispatches. -/
theorem dispatched_spec (hu : u = (s.bumpBy (Reg.SCH_CNT 5) n).dispatchItem i) :
    u.task i = { s.task i with state := 3, flags := (s.task i).flags &&& ~~~ (s.task i).mask } ∧
    u.sched.ready = s.sched.ready.erase i ∧
    u.sched.busy = (if (s.task i).flowEn then (s.task i).flow :: s.sched.busy else s.sched.busy) ∧
    ((s.task i).sys = true → u.reg (Reg.SCH_CNT 1) = satWord (s.reg (Reg.SCH_CNT 1)) 1 ∧ u.ringHead 22 = s.ringHead 22) ∧
    ((s.task i).sys = false → u.reg (Reg.SCH_CNT 0) = satWord (s.reg (Reg.SCH_CNT 0)) 1 ∧
      (s.ringReady 22 = true → u.ringHead 22 = s.ringNext 22)) := by
  obtain ⟨a, ha⟩ : ∃ a, a = s.bumpBy (Reg.SCH_CNT 5) n := ⟨_, rfl⟩
  have has : a.sched = s.sched := by rw [ha]; rfl
  have hal : Leaves (· ≠ Reg.SCH_CNT 5) s a := by
    rw [ha]
    exact leaves_setReg (by simp)
  rw [← ha] at hu
  clear ha
  obtain ⟨b, hb⟩ : ∃ b, b = a.started i := ⟨_, rfl⟩
  obtain ⟨hbt, hbr, hbb, hbg⟩ := started_spec hb
  have hit : a.task i = s.task i := task_of_sched has
  rw [hit] at hbt hbb
  rw [has] at hbr hbb
  have hbl : Leaves (· ≠ Reg.SCH_CNT 5) s b := hal.trans (.of_regs hbg)
  obtain ⟨body, he⟩ : ∃ body, u = if (s.task i).sys then b.bump (Reg.SCH_CNT 1) else (b.bump (Reg.SCH_CNT 0)).postDesc 22 body := by
    refine ⟨leBytes 4 (a.handleOf i + 2 ^ 24 * (a.task i).prio) ++ leBytes 4 ((a.task i).flags &&& (a.task i).mask).toNat ++
      leBytes 4 (a.task i).arg.toNat ++ List.replicate 16 0, ?_⟩
    rw [hu, hb, ← hit]
    rfl
  clear hu hb
  have hus : u.sched = b.sched := by
    rw [he]
    split
    · exact (within_bump _ _).sched rfl
    · exact ((within_postDesc _ _ _).sched rfl).trans ((within_bump _ _).sched rfl)
  refine ⟨(task_of_sched hus).trans hbt, hus ▸ hbr, hus ▸ hbb, fun hsys => ?_, fun hsys => ?_⟩
  · rw [if_pos hsys] at he
    subst he
    have hl : Leaves (fun o => o ≠ Reg.SCH_CNT 5 ∧ o ≠ Reg.SCH_CNT 1) s (b.bump (Reg.SCH_CNT 1)) :=
      (hbl.mono fun _ ho => ho.1).trans (leaves_bump fun h => h.2 rfl)
    refine ⟨?_, hl.rf (o := Reg.RNG_HEAD 22) (by decide) 0 16⟩
    rw [reg_bump, if_pos rfl, hbl _ (by decide)]
  · rw [if_neg (by rw [hsys]; decide)] at he
    subst he
    have hl : Leaves OffSch s (b.bump (Reg.SCH_CNT 0)) :=
      (hbl.mono fun _ ho h => ho (h ▸ by decide)).trans (leaves_bump (by decide))
    refine ⟨?_, fun hr => ?_⟩
    · rw [leaves_postDesc (P := Quiet) (fun _ h => h) (by decide) _ (by decide), reg_bump, if_pos rfl, hbl _ (by decide)]
    · rw [postDesc_head (by decide) ((ringReady_congr (by decide) hl).trans hr) (by decide)]
      exact ringNext_of_leaves hl (by decide) (by decide)

theorem dispatch_nil (hd : s.domOn pdSch = true) (hf : s.readyItems.find? (fun i => s.eligible i && s.accepts i) = some i) :
    ∃ n, s.dispatch [] = (s.bumpBy (Reg.SCH_CNT 5) n).dispatchItem i := by
  unfold State.dispatch
  rw [if_pos hd, List.foldl_nil]
  dsimp only
  rw [hf]
  exact ⟨_, rfl⟩

theorem dispatch_idle (hr : s.readyItems = []) : s.dispatch [] = s := by
  unfold State.dispatch
  rw [List.foldl_nil]
  dsimp only
  rw [hr]
  simp

theorem accepts_ring (h : s.accepts i = true) (hsys : (s.task i).sys = false) : s.ringReady 22 = true := by
  unfold State.accepts at h
  rw [hsys, Bool.false_or, Bool.and_eq_true] at h
  exact h.2

/-- One ready item without a flow: it is the first that DISPATCH serves. -/
theorem readyItems_one (hr : s.sched.ready = [i]) (hp : (s.task i).prio < 8) : s.readyItems = [i] := by
  have hf : ∀ q, [i].filter (fun i => decide ((s.task i).prio = q)) = if (s.task i).prio = q then [i] else [] := fun q => by
    by_cases h : (s.task i).prio = q <;> simp [h]
  unfold State.readyItems
  simp only [hr, hf]
  generalize (s.task i).prio = p at hp
  interval_cases p <;> rfl

/-- An engine sets flags on a system task, which becomes READY and is dispatched at once. -/
theorem dispatch_engine {w : Word} {y : Task} (hd : s.domOn pdSch = true) (hr : s.sched.ready = []) (hsys : (s.task i).sys = true)
    (hst : (s.task i).state = 1) (hn : (s.task i).notify = false) (hf : (s.task i).flowEn = false) (hp : (s.task i).prio < 8)
    (hy : y = { s.task i with flags := (s.task i).flags ||| w }) (hsat : y.satisfied = true) (ha : x = s.orFlags i w) :
    s.dispatch [(i, w)] = (x.bumpBy (Reg.SCH_CNT 5) 0).dispatchItem i ∧ x.task i = { y with state := 2 } ∧ x.sched.ready = [i] ∧
      x.regs = s.regs := by
  have hys : y.state = 1 := hy ▸ hst
  obtain ⟨h1, -, h3, -, -, h6, -⟩ := orFlags_spec hy ha
  have hxg : x.regs = s.regs := h6 (.inr (hy ▸ hn))
  rw [if_pos ⟨hys, hsat⟩, hr, List.nil_append] at h3
  have h1' : x.task i = { y with state := 2 } := by rw [h1, Task.judged, if_pos ⟨hys, hsat⟩]
  have hfl : (x.task i).flowEn = false := by rw [h1', hy]; exact hf
  have hxs : (x.task i).sys = true := by rw [h1', hy]; exact hsys
  have hitems : x.readyItems = [i] := readyItems_one h3 (by rw [h1', hy]; exact hp)
  have hel : x.eligible i = true := by simp [State.eligible, State.flowBusy, State.flowBehind, hfl]
  have hac : x.accepts i = true := by simp [State.accepts, hxs]
  refine ⟨?_, h1', h3, hxg⟩
  unfold State.dispatch
  rw [if_pos hd, List.foldl_cons, List.foldl_nil]
  dsimp only
  rw [if_pos hsys, ← ha, hitems]
  simp [hel, hac]

end Dispatch

/-! ### Timers -/

section Timers
variable {v : Word} {res : Nat}

/-- The command is written: the result of the one before is no longer READY. -/
def State.timerAsked (s : State) (v : Word) : State :=
  (s.setReg Reg.SCH_TMR_CMD (merge 0x7 v (s.reg Reg.SCH_TMR_CMD))).unready Reg.SCH_TMR_STATUS

theorem leaves_timerAsked : Leaves (fun o => o ≠ Reg.SCH_TMR_CMD ∧ o ≠ Reg.SCH_TMR_STATUS) s (s.timerAsked v) :=
  (leaves_setReg fun h => h.1 rfl).trans (leaves_unready fun h => h.2 rfl)

theorem within_timerAsked : Within 0x8 s (s.timerAsked v) := (within_setRb _ _ _ _).after (by decide) (within_setReg s _ _)

theorem sched_timerAsked : (s.timerAsked v).sched = s.sched := within_timerAsked.sched rfl

theorem poke_timerCmd (hacc : s.Accepts Reg.SCH_TMR_CMD v) (hgo : bit v 0 = true) : s.poke Reg.SCH_TMR_CMD v {} =
    if fld v 1 2 = 1 then (s.timerAsked v).timerArm else (s.timerAsked v).timerDisarm := by
  have hreg : (s.setReg Reg.SCH_TMR_CMD (merge 0x7 v (s.reg Reg.SCH_TMR_CMD))).reg Reg.SCH_TMR_CMD = merge 0x7 v (s.reg Reg.SCH_TMR_CMD) :=
    reg_setReg_self
  have hrf : (s.timerAsked v).rf Reg.SCH_TMR_CMD 1 2 = fld v 1 2 := by
    rw [State.rf, State.timerAsked, State.unready, reg_setRb, if_neg (by decide), hreg, fld_merge (by decide)]
  have hb : (s.setReg Reg.SCH_TMR_CMD (merge 0x7 v (s.reg Reg.SCH_TMR_CMD))).rb Reg.SCH_TMR_CMD 0 = true := by
    rw [State.rb, hreg, bit_merge, if_pos (by decide), hgo]
  rw [hacc.poke_plain (r := ⟨0xD0054, 0x4, 1, 0x4, 1, 0x0, 0x7, 0x0, 0x0, 0x0, .single, none⟩) (by decide) rfl rfl rfl,
    unitHook_sch (by decide), State.schHook, if_neg (by decide), if_neg (by decide), if_neg (by decide), if_pos rfl, if_pos hb,
    State.timerCommand]
  dsimp only
  rw [← State.timerAsked, hrf]
  split
  · next h => rw [if_pos h]
  · next h => rw [if_neg h]

theorem timerResult_spec (hr : res < 256) (hx : x.reg Reg.SCH_TMR_STATUS = (s.timerAsked v).reg Reg.SCH_TMR_STATUS)
    (hu : u = x.timerResult res) : s.Reported u Reg.SCH_TMR_STATUS res ∧ u.rb Reg.SCH_TMR_CMD 0 = false ∧
    Leaves (fun o => o ≠ Reg.SCH_TMR_CMD ∧ o ≠ Reg.SCH_TMR_STATUS) x u ∧ Within 0x8 x u := by
  have hw := hu ▸ within_timerResult x res
  have he : u = (x.resultShown Reg.SCH_TMR_STATUS res).setRb Reg.SCH_TMR_CMD 0 false := hu
  have hseq : x.rf Reg.SCH_TMR_STATUS 0 16 = s.rf Reg.SCH_TMR_STATUS 0 16 := by
    rw [State.rf, hx]
    refine unready_seq.trans ?_
    rw [State.rf, reg_setReg_ne (by decide)]
    rfl
  refine ⟨?_, ?_, ?_, hw⟩
  · refine State.Reported.of_seq ?_ hseq
    rw [he]
    exact State.Reported.after (reported_resultShown hr) (reg_setRb.trans (if_neg (by decide)))
  · rw [he]
    exact rb_setRb_self (by decide)
  · rw [he]
    exact (leaves_resultShown fun h => h.2 rfl).trans (leaves_setRb fun h => h.1 rfl)

theorem timerCode_asked {y : Task} (hy : y = s.task (s.rf Reg.SCH_TMR_HANDLE 0 12)) : (s.timerAsked v).timerCode =
    if y.gen ≠ s.rf Reg.SCH_TMR_HANDLE 12 8 ∨ y.state = 0 ∧ y.sys = false ∨ y.state = 4 ∧ y.sys = false then 3
    else if y.sys = true then 4 else 0 := by
  subst hy
  have hs : (s.timerAsked v).stale (s.rf Reg.SCH_TMR_HANDLE 0 20) =
    decide ((s.task (s.rf Reg.SCH_TMR_HANDLE 0 12)).gen ≠ s.rf Reg.SCH_TMR_HANDLE 12 8) := stale_rf sched_timerAsked
  unfold State.timerCode
  dsimp only
  rw [leaves_timerAsked.rf (o := Reg.SCH_TMR_HANDLE) (by decide), hs, handleId_rf, task_of_sched sched_timerAsked]
  congr 1
  simp only [Bool.or_eq_true, Bool.and_eq_true, decide_eq_true_iff, Bool.not_eq_true', eq_iff_iff]
  tauto

theorem timerRefused_spec (hr : res < 256) (hu : u = (s.timerAsked v).timerResult res) :
    s.Reported u Reg.SCH_TMR_STATUS res ∧ u.rb Reg.SCH_TMR_CMD 0 = false ∧ AllRegsKept s u [Reg.SCH_TMR_CMD, Reg.SCH_TMR_STATUS] ∧
    OnlyRegs s u := by
  obtain ⟨h1, h2, hl, hw⟩ := timerResult_spec hr rfl hu
  refine ⟨h1, h2, fun o ho => ?_, (hw.after (by decide) within_timerAsked).onlyRegs⟩
  have hn : o ≠ Reg.SCH_TMR_CMD ∧ o ≠ Reg.SCH_TMR_STATUS := by simpa using ho
  exact (hl o hn).trans (leaves_timerAsked o hn)

theorem tbNow_congr {n : Nat} (hl : t.tbs = s.tbs) : t.tbNow n = s.tbNow n := by
  rw [State.tbNow, State.tb, hl]
  rfl

theorem stagedTimer_asked : (s.timerAsked v).stagedTimer = s.stagedTimer := by
  unfold State.stagedTimer
  dsimp only
  rw [leaves_timerAsked Reg.SCH_TMR_SEC_HI (by decide), leaves_timerAsked Reg.SCH_TMR_SEC_LO (by decide),
    leaves_timerAsked Reg.SCH_TMR_FLAGS (by decide), leaves_timerAsked.rf (o := Reg.SCH_TMR_NS) (by decide),
    leaves_timerAsked.rf (o := Reg.SCH_TMR_HANDLE) (by decide), tbNow_congr (within_timerAsked.tbs rfl)]

theorem stagedTimer_task : s.stagedTimer.task = s.rf Reg.SCH_TMR_HANDLE 0 12 := handleId_rf

/-- The command of ARM and of DISARM, by the number that it carries. -/
def timerCmd (s : State) (v : Word) : State := if fld v 1 2 = 1 then (s.timerAsked v).timerArm else (s.timerAsked v).timerDisarm

theorem timerCmd_refused (hc : (s.timerAsked v).timerCode = res) (h : res ≠ 0) : timerCmd s v = (s.timerAsked v).timerResult res := by
  unfold timerCmd State.timerArm State.timerDisarm
  rw [hc, if_pos h, if_pos h, ite_self]

/-- The staged timer is armed, or the task's timer is dropped. -/
theorem timerCmd_taken {i : Nat} (hi : i = s.rf Reg.SCH_TMR_HANDLE 0 12) (hc : (s.timerAsked v).timerCode = 0) (hu : u = timerCmd s v) :
    s.Reported u Reg.SCH_TMR_STATUS 0 ∧ u.rb Reg.SCH_TMR_CMD 0 = false ∧ AllRegsKept s u [Reg.SCH_TMR_CMD, Reg.SCH_TMR_STATUS] ∧
    u.sched.timers = s.sched.timers.filter (fun y => decide (y.task ≠ i)) ++ (if fld v 1 2 = 1 then [s.stagedTimer] else []) ∧
    u.sched.tasks = s.sched.tasks := by
  obtain ⟨b, hb⟩ : ∃ b : State, b = { s.timerAsked v with sched := { (s.timerAsked v).sched with
      timers := s.sched.timers.filter (fun y => decide (y.task ≠ i)) ++ (if fld v 1 2 = 1 then [s.stagedTimer] else []) } } := ⟨_, rfl⟩
  have he : u = b.timerResult 0 := by
    rw [hu, hb, timerCmd]
    by_cases h : fld v 1 2 = 1
    · rw [if_pos h, if_pos h, State.timerArm, hc, if_neg (not_not.2 rfl), stagedTimer_asked]
      dsimp only
      rw [State.disarm, stagedTimer_task, ← hi, ← sched_timerAsked (s := s) (v := v)]
    · rw [if_neg h, if_neg h, State.timerDisarm, hc, if_neg (not_not.2 rfl), leaves_timerAsked.rf (o := Reg.SCH_TMR_HANDLE) (by decide),
        handleId_rf, State.disarm, ← hi, ← sched_timerAsked (s := s) (v := v), List.append_nil]
  have hbt : b.sched.timers = s.sched.timers.filter (fun y => decide (y.task ≠ i)) ++ (if fld v 1 2 = 1 then [s.stagedTimer] else []) := by
    rw [hb]
  have hbk : b.sched.tasks = s.sched.tasks := by rw [hb, ← sched_timerAsked (s := s) (v := v)]
  have hbg : b.regs = (s.timerAsked v).regs := by rw [hb]
  clear hb hu
  obtain ⟨h1, h2, hl, hw⟩ := timerResult_spec (by decide) (by rw [State.reg, hbg]; rfl) he
  have hs := hw.sched rfl
  refine ⟨h1, h2, fun o ho => ?_, by rw [hs, hbt], by rw [hs, hbk]⟩
  have hn : o ≠ Reg.SCH_TMR_CMD ∧ o ≠ Reg.SCH_TMR_STATUS := by simpa using ho
  rw [hl o hn, (Leaves.of_regs (P := fun _ => True) hbg) o trivial, leaves_timerAsked o hn]

/-! #### A timer fires -/

section Fire
variable {y : Timer} {z : Task} (hz : z = s.task y.task) (ht : y.task < taskCount) (hg : z.gen < 256)
  (hst : z.state = 1 ∨ z.state = 2 ∨ z.state = 3) (hsys : z.sys = false)
include hz ht hg hst hsys

theorem fireTimer_spec (hu : u = s.fireTimer y) : u.reg (Reg.SCH_CNT 4) = satWord (s.reg (Reg.SCH_CNT 4)) 1 ∧
    u.sched.timers = s.sched.timers.filter (fun w => decide (w.task ≠ y.task)) ∧ (y.evt = true → u.event 52 = true) ∧
    (u.task y.task).flags = z.flags ||| y.flags ∧
    (z.state = 1 → ({ z with flags := z.flags ||| y.flags } : Task).satisfied = true → (u.task y.task).state = 2) ∧
    u.sched.oldBell = s.sched.oldBell ∧ Leaves (fun o => Quiet o ∧ OffSch o ∨ o = Reg.SCH_BELL) s u ∧ Within 0x20000001C6C8 s u := by
  have hw : Within 0x20000001C6C8 s u := hu ▸ within_fireTimer s y
  obtain ⟨a, ha⟩ : ∃ a, a = (s.disarm y.task).bump (Reg.SCH_CNT 4) := ⟨_, rfl⟩
  have hat : a.task y.task = z := by
    rw [hz, ha]
    exact task_congr rfl
  have has : a.sched = { s.sched with timers := s.sched.timers.filter (fun w => decide (w.task ≠ y.task)) } := by rw [ha]; rfl
  have hac : a.reg (Reg.SCH_CNT 4) = satWord (s.reg (Reg.SCH_CNT 4)) 1 := by
    rw [ha, reg_bump, if_pos rfl]
    rfl
  have hal : Leaves (· ≠ Reg.SCH_CNT 4) s a := by
    rw [ha]
    exact leaves_bump (s := s.disarm y.task) (by simp)
  have hid : handleId (s.handleOf y.task) = y.task := by
    simp only [handleId, State.handleOf, taskCount] at *
    omega
  have hstale : a.stale (s.handleOf y.task) = false := by
    rw [State.stale, hid, hat, handleGen, State.handleOf, ← hz]
    simp only [taskCount] at ht
    exact decide_eq_false (by omega)
  obtain ⟨b, hb⟩ : ∃ b, b = a.orFlags y.task y.flags := ⟨_, rfl⟩
  have he : u = if y.evt then b.flagRaise Reg.SCH_STATUS 2 52 0 else b := by
    have hf : a.setFlags (s.handleOf y.task) y.flags = b := by
      rw [setFlags_taken hstale, hid, hb]
      · rw [hid, hat]; rcases hst with h | h | h <;> rw [h] <;> decide
      · rw [hid, hat]; rcases hst with h | h | h <;> rw [h] <;> decide
      · rw [hid, hat]; exact hsys
    rw [hu, ← hf, ha]
    rfl
  obtain ⟨h1, -, -, h4, h5, -, -, -⟩ := orFlags_spec (by rw [hat]) hb
  have hus : u.sched = b.sched := by
    rw [he]
    split
    · exact (within_flagRaise _ _ _ _ _).sched rfl
    · rfl
  have hul : Leaves (fun o => Quiet o ∧ o ≠ Reg.SCH_STATUS) b u := by
    rw [he]
    exact .ite (leaves_flagRaise' (by decide)) (.refl b)
  clear ha hu
  refine ⟨?_, ?_, fun hv => ?_, ?_, fun h h' => ?_, ?_, ?_, hw⟩
  · rw [hul _ (by decide), h5 _ (by decide) (by decide), hac]
  · rw [hus, h4, has]
  · rw [he, if_pos hv]
    exact event_flagRaise (by decide)
  · rw [task_of_sched hus, h1]
    rfl
  · rw [task_of_sched hus, h1, Task.judged]
    exact if_pos ⟨h, h'⟩
  · rw [hus, h4, has]
  · intro o ho
    have hq : Quiet o ∧ o ≠ Reg.SCH_STATUS ∧ o ≠ Reg.SCH_CNT 4 := by
      rcases ho with ⟨hq, hn⟩ | rfl
      · exact ⟨hq, fun h => hn (h ▸ by decide), fun h => hn (h ▸ by decide)⟩
      · decide
    rw [hul o ⟨hq.1, hq.2.1⟩, h5 o hq.1 hq.2.1, hal o hq.2.2]
where leaves_flagRaise' {b : State} {o i e inst : Nat} (he : e < 64) : Leaves (fun p => Quiet p ∧ p ≠ o) b (b.flagRaise o i e inst) :=
  fun _ hp => flagRaise_quiet hp.1 hp.2 he

end Fire

/-- The bells of a time base read the same. -/
theorem timerDue_congr {y : Timer} (hn : y.tb < 4) (htb : t.tbs = s.tbs) (ho : t.sched.oldBell = s.sched.oldBell)
    (hl : Leaves (fun o => Quiet o ∧ OffSch o ∨ o = Reg.SCH_BELL) s t) : t.timerDue y = s.timerDue y := by
  have h1 : t.tbState y.tb = s.tbState y.tb :=
    hl.rf (o := Reg.TB_STATUS y.tb) (.inl ⟨quiet_tbStatus hn, by unfold OffSch Reg.TB_STATUS; omega⟩) _ _
  have h2 : t.bellPeriod y.tb = s.bellPeriod y.tb := by
    unfold State.bellPeriod
    rw [ho, tbNow_congr htb, hl.rf (o := Reg.SCH_BELL) (.inr rfl)]
  unfold State.timerDue State.lastBell
  rw [h1, h2, tbNow_congr htb]

/-! #### The bells that fire it -/

section Bells
variable {n : Nat} {y : Timer}

theorem liveForms_nil (h : ∀ f : Fin 256, s.formState f = 0) : s.liveForms = [] := by
  refine List.filter_eq_nil_iff.2 fun f hf => ?_
  have := h ⟨f, List.mem_range.1 hf⟩
  simpa using this

theorem entriesDue_timers (hl : s.liveForms = []) :
    s.entriesDue n = (s.timersDue n).map (fun t => ⟨t.due, max t.due t.since, .timer t⟩) := by
  unfold State.entriesDue
  rw [hl]
  rfl

theorem gapsOf_timers (hl : s.liveForms = []) : s.gapsOf n = ([], s) := by
  unfold State.gapsOf
  rw [hl]
  rfl

theorem bellFuel_timers (hl : s.liveForms = []) : s.bellFuel n = (s.timersDue n).length := by
  unfold State.bellFuel
  rw [hl]
  rfl

theorem bellsOf_noTimer (hl : s.liveForms = []) (ht : s.timersDue n = []) : s.bellsOf n = s := by
  unfold State.bellsOf
  rw [gapsOf_timers hl]
  exact ringBells_none (by rw [entriesDue_timers hl, ht]; rfl)

theorem bellsOf_oneTimer (hl : s.liveForms = []) (ht : s.timersDue n = [y]) (hr : max y.due y.since ≤ s.bellAfter n (max y.due y.since)) :
    s.bellsOf n = s.fireTimer y := by
  have hfire : fireBell n (s.bellAfter n (max y.due y.since)) 1 [] s = ([], s.fireTimer y) := by
    unfold fireBell
    rw [entriesDue_timers hl, ht, List.map_cons, List.map_nil, List.filter_cons, if_pos (decide_eq_true hr)]
    rfl
  have hone : earliest DueEntry.ready ([y].map fun t => ⟨t.due, max t.due t.since, .timer t⟩) =
    some ⟨y.due, max y.due y.since, .timer y⟩ := rfl
  unfold State.bellsOf
  rw [gapsOf_timers hl]
  dsimp only
  rw [bellFuel_timers hl, ht, List.length_singleton]
  unfold ringBells
  dsimp only
  rw [entriesDue_timers hl, bellFuel_timers hl, ht, hone]
  dsimp only [List.length_singleton]
  rw [hfire]
  dsimp only
  rw [deliverBell_nil]
  exact deliverBell_nil

theorem le_roundUp {b : Nat} (hb : 0 < b) (k : Nat) : k ≤ roundUp b k := by
  have hlt := Nat.lt_div_mul_add hb (a := k + b - 1)
  rw [roundUp, if_neg (Nat.pos_iff_ne_zero.1 hb)]
  omega

/-- A timer that is due is due at a bell of its own time base. -/
theorem le_bellAfter_of_due (h : s.timerDue y = true) (m : Stamp) : m ≤ s.bellAfter y.tb m := by
  have hb : s.bellPeriod y.tb * 100 * stampNsUnit ≠ 0 := by
    intro hb
    unfold State.timerDue State.lastBell at h
    dsimp only at h
    rw [if_pos hb, ite_self] at h
    exact Bool.false_ne_true h
  unfold State.bellAfter
  dsimp only
  have hmod : m % stampSecUnit ≤ m := Nat.mod_le m stampSecUnit
  calc m = m - m % stampSecUnit + m % stampSecUnit := (Nat.sub_add_cancel hmod).symm
    _ ≤ _ := Nat.add_le_add_left (le_roundUp (Nat.pos_of_ne_zero hb) _) _

theorem timersDue_eq (hd : s.domOn pdSch = true) :
    s.timersDue n = (s.sched.timers.filter fun y => s.timerDue y).filter fun y => decide (y.tb = n) := by
  rw [State.timersDue, if_pos hd, List.filter_filter]

theorem timersDue_off (h : s.domOn pdSch = false ∨ s.sched.timers.filter (fun y => s.timerDue y) = []) : s.timersDue n = [] := by
  rcases h with h | h
  · rw [State.timersDue, h]
    rfl
  · by_cases hd : s.domOn pdSch = true
    · rw [timersDue_eq hd, h]
      rfl
    · rw [State.timersDue, if_neg hd]

theorem bells_noTimer (hl : s.liveForms = []) (h : s.domOn pdSch = false ∨ s.sched.timers.filter (fun y => s.timerDue y) = []) :
    s.bells = s := by
  have hn : ∀ n, s.bellsOf n = s := fun n => bellsOf_noTimer hl (timersDue_off h)
  unfold State.bells
  rw [hn, hn, hn, hn]

/-- The one timer that is due fires at the bell of its time base; before it and after it no bell fires. -/
theorem bells_oneTimer (hd : s.domOn pdSch = true) (hl : s.liveForms = [])
    (hf : s.sched.timers.filter (fun y => s.timerDue y) = [y]) (htb : y.tb < 4) (hu : u = s.fireTimer y)
    (htm : u.sched.timers = s.sched.timers.filter (fun w => decide (w.task ≠ y.task))) (hob : u.sched.oldBell = s.sched.oldBell)
    (hk : Leaves (fun o => Quiet o ∧ OffSch o ∨ o = Reg.SCH_BELL) s u) (hw : Within 0x20000001C6C8 s u) : s.bells = u := by
  have hdue : s.timerDue y = true := by
    have := List.mem_filter.1 (hf ▸ List.mem_singleton_self y)
    exact this.2
  have hul : u.liveForms = [] := by
    rw [← hl]
    unfold State.liveForms
    refine List.filter_congr fun f hm => ?_
    have hf : f < 256 := List.mem_range.1 hm
    have hform : u.formState f = s.formState f := hk.rf (o := Reg.FORM_STATUS f)
      (.inl ⟨by unfold Quiet Reg.FORM_STATUS; omega, by unfold OffSch Reg.FORM_STATUS; omega⟩) 10 2
    rw [hform]
  have hafter : ∀ n, n < 4 → n ≠ y.tb → u.bellsOf n = u := fun n hn _ => by
    refine bellsOf_noTimer hul (List.eq_nil_iff_forall_not_mem.2 fun w hmem => ?_)
    unfold State.timersDue at hmem
    split at hmem
    · obtain ⟨hw1, hw2⟩ := List.mem_filter.1 hmem
      rw [Bool.and_eq_true, decide_eq_true_iff] at hw2
      obtain ⟨rfl, hw3⟩ := hw2
      rw [htm] at hw1
      obtain ⟨hin, hne⟩ := List.mem_filter.1 hw1
      have hsw : w ∈ s.sched.timers.filter fun y => s.timerDue y :=
        List.mem_filter.2 ⟨hin, (timerDue_congr hn (hw.tbs rfl) hob hk).symm.trans hw3⟩
      rw [hf, List.mem_singleton] at hsw
      exact of_decide_eq_true hne (hsw ▸ rfl)
    · exact absurd hmem (List.not_mem_nil)
  refine bells_one htb (fun n _ hn => bellsOf_noTimer hl ?_) ?_ hafter
  · rw [timersDue_eq hd, hf]
    simp [Ne.symm hn]
  · rw [hu]
    refine bellsOf_oneTimer hl ?_ (le_bellAfter_of_due hdue _)
    rw [timersDue_eq hd, hf]
    simp

end Bells
end Timers

/-! ### The statement -/

/-- FLAG_SET. -/
theorem flagSet_cases {v : Word} {i : Nat} {y : Task} (hacc : s.Accepts Reg.SCH_FLAG_SET v) (hi : i = s.rf Reg.SCH_FLAG_TGT 0 12)
    (hy : y = s.task i) :
    (y.gen ≠ s.rf Reg.SCH_FLAG_TGT 12 8 ∨ y.state = 0 ∨ y.state = 4 ∨ y.sys = true → ∃ t, exec (.flagSet v) s = .next t ∧
      t.reg (Reg.SCH_CNT 2) = satWord (s.reg (Reg.SCH_CNT 2)) 1 ∧ AllRegsKept s t [Reg.SCH_CNT 2] ∧ OnlyRegs s t) ∧
    (y.gen = s.rf Reg.SCH_FLAG_TGT 12 8 → y.state ≠ 0 → y.state ≠ 4 → y.sys = false →
      (y.state = 1 → ({ y with flags := y.flags ||| v } : Task).satisfied = true → ∃ t, exec (.flagSet v) s = .next t ∧
        t.task i = { y with flags := y.flags ||| v, state := 2 } ∧ t.sched.ready = s.sched.ready ++ [i] ∧
        (y.notify = true → t.event 50 = true) ∧ (∀ j, j ≠ i → t.task j = s.task j) ∧ RegsKept s t [Reg.SCH_STATUS]) ∧
      (y.state ≠ 1 ∨ ({ y with flags := y.flags ||| v } : Task).satisfied = false → ∃ t, exec (.flagSet v) s = .next t ∧
        t.task i = { y with flags := y.flags ||| v } ∧ t.sched.ready = s.sched.ready ∧ (∀ j, j ≠ i → t.task j = s.task j) ∧
        AllRegsKept s t [])) := by
  obtain ⟨b, hp, hbl, hbs, hbw⟩ := poke_flagSet hacc
  have hid : handleId (s.rf Reg.SCH_FLAG_TGT 0 20) = i := hi ▸ handleId_rf
  have hby : b.task (handleId (s.rf Reg.SCH_FLAG_TGT 0 20)) = y := by rw [hid, task_of_sched hbs, hy]
  have hstale : b.stale (s.rf Reg.SCH_FLAG_TGT 0 20) = decide (y.gen ≠ s.rf Reg.SCH_FLAG_TGT 12 8) := by rw [stale_rf hbs, ← hi, ← hy]
  refine ⟨fun hr => ?_, fun hg h0 h4 hsys => ?_⟩
  · have he := setFlags_refused (s := b) (h := s.rf Reg.SCH_FLAG_TGT 0 20) (v := v) (by rw [hby, hstale, decide_eq_true_iff]; exact hr)
    refine ⟨b.bump (Reg.SCH_CNT 2), congrArg Host.Outcome.next (hp.trans he), ?_, fun o ho => ?_, ((within_bump _ _).after (by decide) hbw).onlyRegs⟩
    · rw [reg_bump, if_pos rfl, hbl _ trivial]
    · rw [reg_bump, if_neg (by simpa using ho), hbl _ trivial]
  · have he := setFlags_taken (s := b) (h := s.rf Reg.SCH_FLAG_TGT 0 20) (v := v) (by rw [hstale]; exact decide_eq_false (not_not.2 hg))
      (by rw [hby]; exact h0) (by rw [hby]; exact h4) (by rw [hby]; exact hsys)
    rw [hid] at he hby
    obtain ⟨u, hu⟩ : ∃ u, u = b.orFlags i v := ⟨_, rfl⟩
    have hex : exec (.flagSet v) s = .next u := congrArg Host.Outcome.next (hp.trans (he.trans hu.symm))
    obtain ⟨h1, h2, h3, -, h5, h6, h7, -⟩ := orFlags_spec (by rw [hby]) hu
    have hj : ∀ j, j ≠ i → u.task j = s.task j := fun j hj => (h2 j hj).trans (task_of_sched hbs)
    refine ⟨fun hst hsat => ⟨u, hex, ?_, ?_, fun hn => h7 hst hsat hn, hj, fun o ho hne => ?_⟩, fun hno => ⟨u, hex, ?_, ?_, hj, fun o _ => ?_⟩⟩
    · rw [h1, Task.judged, if_pos ⟨hst, hsat⟩]
    · rw [h3, if_pos ⟨hst, hsat⟩, hbs]
    · rw [h5 o ho (by simpa using hne), hbl o trivial]
    · rw [h1, Task.judged, if_neg (fun h => hno.elim (· h.1) fun hf => absurd (hf.symm.trans h.2) Bool.false_ne_true)]
    · rw [h3, if_neg (fun h => hno.elim (· h.1) fun hf => absurd (hf.symm.trans h.2) Bool.false_ne_true), hbs, List.append_nil]
    · rw [State.reg, h6 (.inl fun h => hno.elim (· h.1) fun hf => absurd (hf.symm.trans h.2) Bool.false_ne_true)]
      exact hbl o trivial

/-- Settles O54. -/
theorem flagsTimersAndDispatch : Obligations.FlagsTimersAndDispatch := by
  intro s
  refine ⟨fun v i y hacc hi hy => flagSet_cases hacc hi hy, fun hd => ⟨?_, fun hr => ?_, ?_⟩, ?_, ?_, ?_, ?_⟩
  · rintro i y hf rfl
    obtain ⟨n, hn⟩ := dispatch_nil hd hf
    obtain ⟨h1, h2, h3, h4, h5⟩ := dispatched_spec (s := s) (i := i) (n := n) rfl
    have hserved : (s.eligible i && s.accepts i) = true := List.find?_some (p := fun i => s.eligible i && s.accepts i) hf
    have hacc : s.accepts i = true := (Bool.and_eq_true_iff.1 hserved).2
    exact ⟨_, congrArg Host.Outcome.next hn, h1, h2, h3, h4, fun hsys => ⟨(h5 hsys).1, (h5 hsys).2 (accepts_ring hacc hsys)⟩⟩
  · exact congrArg Host.Outcome.next (dispatch_idle hr)
  · rintro i w y rfl hr hsys hst hn hf hp hsat
    obtain ⟨x, hx⟩ : ∃ x, x = s.orFlags i w := ⟨_, rfl⟩
    obtain ⟨he, ht, hrd, hg⟩ := dispatch_engine hd hr hsys hst hn hf hp rfl hsat hx
    obtain ⟨h1, h2, -, h4, -⟩ := dispatched_spec (s := x) (i := i) (n := 0) rfl
    refine ⟨_, congrArg Host.Outcome.next he, ?_, ?_, ?_⟩
    · rw [h1, ht]
    · rw [h2, hrd, List.erase_cons_head]
    · rw [(h4 (by rw [ht]; exact hsys)).1, State.reg, hg]
      rfl
  · rintro i y rfl
    refine ⟨fun hsys hst => ?_, fun hn => congrArg Host.Outcome.next ?_⟩
    · have he : s.engineComplete i = s.taskComplete i := by
        unfold State.engineComplete
        exact if_pos (by simp [hsys, hst])
      obtain ⟨h1, -, h3, h4, -⟩ := taskComplete_run hst rfl
      exact ⟨_, congrArg Host.Outcome.next he, h1, h3, h4⟩
    · unfold State.engineComplete
      refine if_neg ?_
      rcases hn with h | h <;> simp [h]
  · intro v i y cmd hacc hgo hi hy hcmd
    have hex : exec cmd s = .next (timerCmd s v) := by
      have he := poke_timerCmd hacc hgo
      rcases hcmd with ⟨rfl, -⟩ | ⟨rfl, -⟩ <;> exact congrArg Host.Outcome.next he
    have hcode := timerCode_asked (v := v) (hy.trans (congrArg s.task hi))
    refine ⟨fun hr => ?_, fun hg => ⟨fun hsys => ?_, fun hsys h0 h4 => ?_⟩⟩
    · rw [if_pos hr] at hcode
      exact ⟨_, hex, timerRefused_spec (by decide) (timerCmd_refused hcode (by decide))⟩
    · rw [if_neg (by simp [hg, hsys]), if_pos hsys] at hcode
      exact ⟨_, hex, timerRefused_spec (by decide) (timerCmd_refused hcode (by decide))⟩
    · rw [if_neg (by simp [hg, h0, h4]), if_neg (by simp [hsys])] at hcode
      obtain ⟨h1, h2, h3, h5, h6⟩ := timerCmd_taken hi hcode rfl
      exact ⟨_, hex, h1, h2, h3, h5, stagedTimer_task.trans hi.symm, h6⟩
  · intro y z hd hforms hf htb hz ht hg hst hsys
    obtain ⟨u, hu⟩ : ∃ u, u = s.fireTimer y := ⟨_, rfl⟩
    obtain ⟨h1, h2, h3, h4, h5, h6, h7, h8⟩ := fireTimer_spec hz ht hg hst hsys hu
    have hb := bells_oneTimer hd (liveForms_nil hforms) hf htb hu h2 h6 h7 h8
    exact ⟨u, congrArg Host.Outcome.next hb, hu, h1, h2, h3, h4, h5⟩
  · intro hforms hno
    exact congrArg Host.Outcome.next (bells_noTimer (liveForms_nil hforms) hno)

end Sys2Proof.Machine

/-! The alarm pins that follow the gate; health, kicks and the hall pass (R259, R419, R420). -/

namespace Sys2Proof.Machine

-- One declaration after another: side by side, their threads' stacks pass the memory limit of a check.
set_option Elab.async false

variable {s t u x : State}

/-! ### The pins -/

/-- The registers that the pins write when they follow their inputs. -/
abbrev PinReg (o : Nat) : Prop :=
  o = Reg.ANA_STATUS ∨ o = Reg.ANA_PINS ∨ o = Reg.ANA_LATCH ∨ o = Reg.ANA_CNT 7 ∨ (0x110400 ≤ o ∧ o < 0x110800 ∧ o % 0x40 = 4)

/-- The registers that neither the pins nor events write. -/
abbrev OffPins (o : Nat) : Prop := Quiet o ∧ ¬ PinReg o

theorem leaves_setAlarms {P : Nat → Prop} {a : Alarms} : Leaves P s { s with alarms := a } := .of_regs rfl

theorem leaves_pinFollow {n : Nat} (hn : n < 16) : Leaves OffPins s (s.pinFollow n) := by
  have hpin : PinReg (Reg.PIN_STATUS n) := by unfold PinReg Reg.PIN_STATUS; omega
  unfold State.pinFollow
  extract_lets +onlyGivenNames raw was a
  have ha : Leaves OffPins s a := by
    subst a
    exact .ite (leaves_setRb (by decide)) (.refl s)
  clear_value a
  extract_lets +onlyGivenNames al b
  have hb : Leaves OffPins s b := ha.trans leaves_setAlarms
  clear_value b
  extract_lets +onlyGivenNames c old d
  have hd : Leaves OffPins s d := hb.trans (leaves_setRb (by decide))
  clear_value d
  extract_lets +onlyGivenNames e
  have he : Leaves OffPins s e := hd.trans (leaves_setRb (by decide))
  clear_value e
  refine .ite ?_ he
  extract_lets +onlyGivenNames f
  have hf : Leaves OffPins s f := (he.trans (leaves_bump (by decide))).trans (leaves_setReg fun h => h.2 hpin)
  clear_value f
  exact hf.trans (leaves_flagRaise (fun _ h => h.1) (by decide) (by decide))

theorem leaves_pinsFollow : Leaves OffPins s s.pinsFollow := by
  unfold State.pinsFollow
  exact .ite (Leaves.foldl (fun _ _ hn => leaves_pinFollow (List.mem_range.1 hn)) s) (.refl s)

/-! ### The hall pass -/

section Pass
variable {st : Nat} {drives : Bool}

/-- The registers that a change of the hall pass leaves. -/
abbrev OffPass (o : Nat) : Prop := OffPins o ∧ o ≠ Reg.RED_STATUS

theorem setHp_spec (hst : st < 4) (hu : u = s.setHp st drives) : u.hpState = st ∧ u.gate = decide (st = 2) ∧ u.pass = { s.pass with drives := drives } ∧
    (∀ i, 2 < i → u.rb Reg.RED_STATUS i = s.rb Reg.RED_STATUS i) ∧ Leaves OffPass s u := by
  obtain ⟨a, ha⟩ : ∃ a, a = (s.setRf Reg.RED_STATUS 0 2 st).setRb Reg.RED_STATUS 2 (st = 2) := ⟨_, rfl⟩
  obtain ⟨b, hb⟩ : ∃ b : State, b = { a with pass := { a.pass with drives := drives } } := ⟨_, rfl⟩
  have he : u = b.pinsFollow := by rw [hu, hb, ha]; rfl
  have hw : u.pass = b.pass := he ▸ (within_pinsFollow b).pass rfl
  have hl : Leaves OffPins b u := he ▸ leaves_pinsFollow
  have hred : u.reg Reg.RED_STATUS = setBit (setFld (s.reg Reg.RED_STATUS) 0 2 st) 2 (decide (st = 2)) := by
    refine (hl _ (by decide)).trans (Eq.trans (b := a.reg Reg.RED_STATUS) (by rw [hb]; rfl) ?_)
    rw [ha, reg_setRb, if_pos rfl, reg_setRf, if_pos rfl]
  have hba : Leaves OffPass s b := by
    rw [hb]
    refine Leaves.trans (t := a) ?_ (.of_regs rfl)
    rw [ha]
    exact (leaves_setRf fun h => h.2 rfl).trans (leaves_setRb fun h => h.2 rfl)
  have hbp : b.pass = { s.pass with drives := drives } := by rw [hb, ha]; rfl
  refine ⟨?_, ?_, hw.trans hbp, fun i h2 => ?_, hba.trans (hl.mono fun _ h => h.1)⟩
  · rw [State.hpState, State.rf, hred, fld_setBit_ne (by decide) (.inl (by decide)), fld_setFld (by decide), Nat.mod_eq_of_lt (b := 2 ^ 2) hst]
  · rw [State.gate, State.rb, hred, bit_setBit (by decide)]
  · rw [State.rb, hred, bit_setBit_ne (by decide) (by omega), bit_setFld_ne (by decide) (.inr (by omega))]
    rfl

theorem flagRaise_below {o i j e inst : Nat} (ho : Quiet o) (hi : i < 32) (hj : j ≠ i) (he : e < 64) :
    (s.flagRaise o i e inst).rb o j = s.rb o j := by
  rw [State.flagRaise, State.rb, raise_reg he ho, reg_setRb, if_pos rfl, bit_setBit_ne hi hj]
  rfl

theorem flagRaise_low {o i e inst a n : Nat} (ho : Quiet o) (hi : i < 32) (hj : a + n ≤ i) (he : e < 64) :
    (s.flagRaise o i e inst).rf o a n = s.rf o a n := by
  rw [State.flagRaise, State.rf, raise_reg he ho, reg_setRb, if_pos rfl, fld_setBit_ne hi (.inl hj)]
  rfl

/-- Event 53 leaves the state of the pass, the line and the gate. -/
theorem passEvent_spec (hu : u = s.flagRaise Reg.RED_STATUS 8 53 0) : u.hpState = s.hpState ∧ u.gate = s.gate ∧ u.pass = s.pass ∧
    (∀ i, i < 8 → u.rb Reg.RED_STATUS i = s.rb Reg.RED_STATUS i) ∧ u.event 53 = true := by
  subst hu
  exact ⟨flagRaise_low (by decide) (by decide) (by decide) (by decide), flagRaise_below (by decide) (by decide) (by decide) (by decide),
    (within_flagRaise _ _ _ _ _).pass rfl, fun i hi => flagRaise_below (by decide) (by decide) (by omega) (by decide),
    event_flagRaise (by decide)⟩

theorem hpIdle_spec (hu : u = s.hpIdle) : u.hpState = 0 ∧ (s.hpState ≠ 0 → u.gate = false ∧ u.pass.drives = false) ∧
    (s.hpState = 2 → u.event 53 = true) ∧ u.pass = { s.pass with drives := u.pass.drives } ∧
    (∀ i, 2 < i → i < 8 → u.rb Reg.RED_STATUS i = s.rb Reg.RED_STATUS i) := by
  unfold State.hpIdle at hu
  dsimp only at hu
  by_cases h0 : s.hpState = 0
  · rw [if_pos h0] at hu
    subst hu
    exact ⟨h0, fun h => absurd h0 h, fun h => absurd (h0.symm.trans h) (by decide), rfl, fun _ _ _ => rfl⟩
  · rw [if_neg h0] at hu
    obtain ⟨a, ha⟩ : ∃ a, a = s.setHp 0 false := ⟨_, rfl⟩
    rw [← ha] at hu
    obtain ⟨h1, h2, h3, h4, -⟩ := setHp_spec (by decide) ha
    by_cases h : s.hpState = 2
    · rw [if_pos h] at hu
      obtain ⟨k1, k2, k3, k4, k5⟩ := passEvent_spec hu
      exact ⟨k1.trans h1, fun _ => ⟨k2.trans h2, by rw [k3, h3]⟩, fun _ => k5, by rw [k3, h3],
        fun i hi h8 => (k4 i h8).trans (h4 i hi)⟩
    · rw [if_neg h] at hu
      subst hu
      exact ⟨h1, fun _ => ⟨h2, by rw [h3]⟩, fun c => absurd c h, by rw [h3], fun i hi _ => h4 i hi⟩

theorem leaves_hpIdle : Leaves OffPass s s.hpIdle := by
  have hset : ∀ y : State, Leaves OffPass y (y.setHp 0 false) := fun y => (setHp_spec (by decide) rfl).2.2.2.2
  unfold State.hpIdle
  dsimp only
  refine .ite (.refl s) (.ite ((hset s).trans ?_) (hset s))
  exact leaves_flagRaise (fun _ h => h.1.1) (by simp) (by decide)

theorem hpHold_spec {drives : Bool} (hu : u = s.hpHold drives) :
    u.hpState = 2 ∧ u.gate = true ∧ u.pass.drives = drives ∧ u.event 53 = true := by
  obtain ⟨a, ha⟩ : ∃ a, a = s.setHp 2 drives := ⟨_, rfl⟩
  rw [State.hpHold, ← ha] at hu
  obtain ⟨h1, h2, h3, -⟩ := setHp_spec (by decide) ha
  obtain ⟨k1, k2, k3, -, k5⟩ := passEvent_spec hu
  exact ⟨k1.trans h1, k2.trans h2, by rw [k3, h3], k5⟩

end Pass

/-! ### Health -/

section Health

theorem healthFollow_same (h : s.healthyNow = s.rb Reg.RED_STATUS 4) : s.healthFollow = s := by
  unfold State.healthFollow
  dsimp only
  rw [h]
  exact if_pos (by simp)

/-- Where health changes, HEALTHY shows it; what follows is the state `healthFollow` goes on with. -/
theorem healthFollow_changed {b : Bool} (hd : s.domOn pdSch = true) (h : s.healthyNow = b) (hn : s.rb Reg.RED_STATUS 4 = !b)
    (hx : x = s.setRb Reg.RED_STATUS 4 b) : s.healthFollow =
      if b then { x with pass := { x.pass with healthySince := s.now } } else if 2 ≤ s.role then x.hpIdle else x := by
  have hrole : x.role = s.role := by
    rw [hx]
    exact (leaves_setRb (P := (· ≠ Reg.RED_STATUS)) fun c => c rfl).rf (o := Reg.RED_ROLE) (by decide) 0 2
  have hnow : x.now = s.now := by rw [hx]; rfl
  unfold State.healthFollow
  dsimp only
  rw [h, if_neg (by rw [hd, hn]; cases b <;> decide), ← hx, hrole, hnow]

/-- HEALTHY shows the value, and no other bit of its register moves. -/
theorem healthShown {b : Bool} (hx : x = s.setRb Reg.RED_STATUS 4 b) : x.rb Reg.RED_STATUS 4 = b ∧ x.hpState = s.hpState ∧
    x.gate = s.gate ∧ AllRegsKept s x [Reg.RED_STATUS] := by
  subst hx
  refine ⟨rb_setRb_self (by decide), ?_, ?_, fun o ho => reg_setReg_ne (by simpa using ho)⟩
  · rw [State.hpState, State.rf, reg_setRb, if_pos rfl, fld_setBit_ne (by decide) (.inl (by decide))]
    rfl
  · rw [State.gate, State.rb, reg_setRb, if_pos rfl, bit_setBit_ne (by decide) (by decide)]
    rfl

/-- HEALTH_CHANGE and KICK_EXPIRY. -/
theorem health_cases (hd : s.domOn pdSch = true) :
    (s.healthyNow = s.rb Reg.RED_STATUS 4 → s.healthFollow = s) ∧
    (s.healthyNow = true → s.rb Reg.RED_STATUS 4 = false → s.healthFollow.rb Reg.RED_STATUS 4 = true ∧
      s.healthFollow.pass.healthySince = s.now ∧ AllRegsKept s s.healthFollow [Reg.RED_STATUS]) ∧
    (s.healthyNow = false → s.rb Reg.RED_STATUS 4 = true →
      (s.role < 2 → s.healthFollow.rb Reg.RED_STATUS 4 = false ∧ s.healthFollow.hpState = s.hpState ∧ s.healthFollow.gate = s.gate ∧
        AllRegsKept s s.healthFollow [Reg.RED_STATUS]) ∧
      (2 ≤ s.role → s.hpState = 2 → s.healthFollow.rb Reg.RED_STATUS 4 = false ∧ s.healthFollow.hpState = 0 ∧
        s.healthFollow.gate = false ∧ s.healthFollow.pass.drives = false ∧ s.healthFollow.event 53 = true)) := by
  refine ⟨healthFollow_same, fun h hn => ?_, fun h hn => ⟨fun hr => ?_, fun hr hp => ?_⟩⟩
  · obtain ⟨x, hx⟩ : ∃ x, x = s.setRb Reg.RED_STATUS 4 true := ⟨_, rfl⟩
    obtain ⟨h1, -, -, h4⟩ := healthShown hx
    rw [healthFollow_changed hd h hn hx, if_pos rfl]
    exact ⟨h1, rfl, h4⟩
  · obtain ⟨x, hx⟩ : ∃ x, x = s.setRb Reg.RED_STATUS 4 false := ⟨_, rfl⟩
    rw [healthFollow_changed hd h hn hx, if_neg (by decide), if_neg (Nat.not_le.2 hr)]
    exact healthShown hx
  · obtain ⟨x, hx⟩ : ∃ x, x = s.setRb Reg.RED_STATUS 4 false := ⟨_, rfl⟩
    obtain ⟨h1, h2, -, -⟩ := healthShown hx
    rw [healthFollow_changed hd h hn hx, if_neg (by decide), if_pos hr]
    obtain ⟨k1, k2, k3, -, k5⟩ := hpIdle_spec (s := x) rfl
    have h2' : x.hpState = 2 := h2.trans hp
    exact ⟨(k5 4 (by decide) (by decide)).trans h1, k1, (k2 (by rw [h2']; decide)).1, (k2 (by rw [h2']; decide)).2, k3 h2'⟩

end Health

/-! ### CLAIM, HOLD and the edges of ILK_IN -/

section Claim

/-- Nothing but the waiting time keeps the unit from a claim. -/
theorem hallClaim_claims (hd : s.domOn pdSch = true) (h0 : s.hpState = 0) (h4 : s.rb Reg.RED_STATUS 4 = true) (hh : s.healthyNow = true)
    (hy : s.rb Reg.RED_CTRL 0 = false)
    (hdue : s.role = 2 ∧ s.pass.healthySince + s.rf Reg.RED_TIMES 0 16 * fsPerMs ≤ s.now ∨
      s.role = 3 ∧ s.ilkIn = true ∧ s.pass.ilkSince + s.rf Reg.RED_TIMES 16 16 * fsPerUs ≤ s.now) :
    s.hallClaim.hpState = 1 ∧ s.hallClaim.pass.drives = true ∧ s.hallClaim.pass.claimSince = s.now ∧ s.hallClaim.gate = false := by
  obtain ⟨x, hx⟩ : ∃ x, x = s.setHp 1 true := ⟨_, rfl⟩
  obtain ⟨h1, h2, h3, -⟩ := setHp_spec (by decide) hx
  have hnow : x.now = s.now := by rw [hx]; exact (within_setHp _ _ _).now rfl
  have he : s.hallClaim = { x with pass := { x.pass with claimSince := s.now } } := by
    unfold State.hallClaim
    dsimp only
    rw [hd, h0, h4, hh, hy, ← hx, hnow]
    refine if_pos ?_
    rcases hdue with ⟨hr, hd⟩ | ⟨hr, hi, hd⟩
    · rw [if_pos hr, decide_eq_true hd]; rfl
    · rw [if_neg (by rw [hr]; decide), decide_eq_true hr, hi, decide_eq_true hd]; rfl
  rw [he]
  exact ⟨h1, congrArg HallPass.drives h3, rfl, h2⟩

theorem hallClaim_waits (hr : s.role = 3) (hi : s.ilkIn = false) : s.hallClaim = s := by
  unfold State.hallClaim
  dsimp only
  refine if_neg ?_
  rw [if_neg (by rw [hr]; decide), hi, Bool.and_false, Bool.false_and, Bool.and_false]
  decide

theorem hallHold_holds (hd : s.domOn pdSch = true) (h1 : s.hpState = 1) (hi : s.ilkIn = true) (hs : s.pass.ilkSince + fsPerUs ≤ s.now)
    (hc : s.pass.claimSince + fsPerUs ≤ s.now) : s.hallHold = s.hpHold true := by
  unfold State.hallHold
  rw [hd, h1, hi, decide_eq_true (p := max s.pass.ilkSince s.pass.claimSince + fsPerUs ≤ s.now) (by omega)]
  rfl

theorem ilkChange_ignored {level : Bool} {ns : Nat} (h : ns < 50 ∨ level = s.ilkIn) : s.ilkChange ⟨level, ns⟩ = s := by
  unfold State.ilkChange
  refine if_pos ?_
  rcases h with h | h <;> simp [h]

theorem ilkChange_spec {level : Bool} {ns : Nat} (hns : 50 ≤ ns) (hl : level ≠ s.ilkIn) (hu : u = s.ilkChange ⟨level, ns⟩) :
    u.ilkIn = level ∧ u.pass.ilkSince = s.now ∧
    (s.role ≠ 3 ∨ level = true → u.hpState = s.hpState ∧ AllRegsKept s u [Reg.RED_STATUS]) ∧
    (s.role = 3 → level = false → u.hpState = 0 ∧ (s.hpState ≠ 0 → u.gate = false ∧ u.pass.drives = false) ∧
      (s.hpState = 2 → u.event 53 = true)) := by
  obtain ⟨a, ha⟩ : ∃ a, a = s.setRb Reg.RED_STATUS 3 level := ⟨_, rfl⟩
  have ha3 : a.ilkIn = level := by
    rw [ha]
    exact rb_setRb_self (by decide)
  have hah : a.hpState = s.hpState := by
    rw [ha, State.hpState, State.rf, reg_setRb, if_pos rfl, fld_setBit_ne (by decide) (.inl (by decide))]
    rfl
  have hal : Leaves (· ≠ Reg.RED_STATUS) s a := by
    rw [ha]
    exact leaves_setRb (by simp)
  obtain ⟨b, hb⟩ : ∃ b : State, b = { a with pass := { a.pass with ilkSince := s.now } } := ⟨_, rfl⟩
  have hbr : ∀ o, b.reg o = a.reg o := fun o => by rw [hb]; rfl
  have hbh : b.hpState = s.hpState := by rw [State.hpState, State.rf, hbr]; exact hah
  have hb3 : b.ilkIn = level := by rw [State.ilkIn, State.rb, hbr]; exact ha3
  have hbl : Leaves (· ≠ Reg.RED_STATUS) s b := fun o ho => (hbr o).trans (hal o ho)
  have hbrole : b.role = s.role := hbl.rf (o := Reg.RED_ROLE) (by decide) 0 2
  have hbs : b.pass.ilkSince = s.now := by rw [hb]
  have he : u = if b.role = 3 && !level then b.hpIdle else b := by
    rw [hu, hb, ha]
    unfold State.ilkChange
    exact if_neg (by simp [hl, hns])
  clear hb ha hu
  rw [hbrole] at he
  by_cases hc : s.role = 3 ∧ level = false
  · rw [if_pos (by simp [hc])] at he
    obtain ⟨k1, k2, k3, k4, k5⟩ := hpIdle_spec he
    rw [hbh] at k2 k3
    refine ⟨(k5 3 (by decide) (by decide)).trans hb3, by rw [k4, hbs], fun hn => ?_, fun _ _ => ⟨k1, k2, k3⟩⟩
    rcases hn with hn | hn
    · exact absurd hc.1 hn
    · exact absurd (hc.2.symm.trans hn) Bool.false_ne_true
  · rw [if_neg (by simpa using hc)] at he
    subst he
    exact ⟨hb3, hbs, fun _ => ⟨hbh, fun o ho => hbl o (by simpa using ho)⟩, fun h1 h2 => absurd ⟨h1, h2⟩ hc⟩

end Claim

/-! ### The writes of KICK and YIELD -/

section Writes
variable {v : Word}

theorem poke_kick (hacc : s.Accepts Reg.RED_KICK v) (h : bit v 0 = true) :
    ∃ b : State, s.poke Reg.RED_KICK v {} = { b with pass := { s.pass with kickAt := some s.now } } ∧ Leaves (fun _ => True) s b ∧
      OnlyRegs s b := by
  obtain ⟨b, hb⟩ : ∃ b, b = s.setReg Reg.RED_KICK (s.reg Reg.RED_KICK) := ⟨_, rfl⟩
  have hl : Leaves (fun _ => True) s b := fun o _ => by
    rw [hb, reg_setReg]
    split
    · next h => rw [h]
    · rfl
  refine ⟨b, ?_, hl, by rw [hb]; rfl⟩
  rw [hacc.poke_plain (r := ⟨0x180018, 0x4, 1, 0x4, 1, 0x0, 0x0, 0x0, 0xFFFFFFFF, 0x0, .single, none⟩) (by decide) rfl rfl rfl, merge_none,
    ← hb, unitHook_red (by decide), State.redHook, if_neg (by decide), if_neg (by decide), if_pos rfl, if_pos h]
  rw [hb]
  rfl

theorem poke_yield (hacc : s.Accepts Reg.RED_CTRL v) (h : bit v 0 = true) (hu : u = s.poke Reg.RED_CTRL v {}) :
    u.rb Reg.RED_CTRL 0 = true ∧
    (2 ≤ s.role → u.hpState = 0 ∧ (s.hpState ≠ 0 → u.gate = false) ∧ (s.hpState = 2 → u.event 53 = true)) ∧
    (s.role < 2 → u.hpState = s.hpState ∧ AllRegsKept s u [Reg.RED_CTRL]) := by
  obtain ⟨b, hb⟩ : ∃ b, b = s.setReg Reg.RED_CTRL (merge 0xF3FFF v (s.reg Reg.RED_CTRL)) := ⟨_, rfl⟩
  have hb0 : b.rb Reg.RED_CTRL 0 = true := by rw [hb, State.rb, reg_setReg_self, bit_merge, if_pos (by decide), h]
  have hbl : Leaves (· ≠ Reg.RED_CTRL) s b := by
    rw [hb]
    exact leaves_setReg (by simp)
  have hbh : b.hpState = s.hpState := hbl.rf (o := Reg.RED_STATUS) (by decide) 0 2
  have he : u = if 2 ≤ s.role then b.hpIdle else b := by
    rw [hu, hacc.poke_plain (r := ⟨0x180004, 0x4, 1, 0x4, 1, 0x0, 0xF3FFF, 0x0, 0x0, 0x3007, .single, none⟩) (by decide) rfl rfl rfl,
      ← hb, unitHook_red (by decide), State.redHook, if_neg (by decide), if_pos rfl, hb0, State.role, hbl.rf (o := Reg.RED_ROLE) (by decide),
      ← State.role, Bool.true_and]
    simp only [decide_eq_true_iff]
  clear hb hu
  by_cases hr : 2 ≤ s.role
  · rw [if_pos hr] at he
    obtain ⟨k1, k2, k3, -, -⟩ := hpIdle_spec he
    have hl : u.rb Reg.RED_CTRL 0 = b.rb Reg.RED_CTRL 0 := (he ▸ leaves_hpIdle).rb (by decide) 0
    rw [hbh] at k2 k3
    exact ⟨hl.trans hb0, fun _ => ⟨k1, fun h => (k2 h).1, k3⟩, fun h => absurd hr (Nat.not_le.2 h)⟩
  · rw [if_neg hr] at he
    subst he
    exact ⟨hb0, fun h => absurd h hr, fun _ => ⟨hbh, fun o ho => hbl o (by simpa using ho)⟩⟩

end Writes

/-- Settles O57. -/
theorem healthAndHallPass : Obligations.HealthAndHallPass := by
  intro s
  refine ⟨fun hd => ⟨fun cmd hcmd => ?_, fun h0 h4 hh hy => ⟨fun hr ht => ?_, fun hr hi ht => ?_, fun hr hi => ?_⟩, fun h1 hi hs hc => ?_⟩,
    fun hk => ?_, fun v hacc h => ?_, fun level ns h => ?_, fun level ns hns hl => ?_, fun v hacc h => ?_⟩
  · have hex : exec cmd s = .next s.healthFollow := by
      rcases hcmd with rfl | ⟨rfl, hk⟩
      · rfl
      · refine congrArg Host.Outcome.next ?_
        unfold State.kickExpiry
        exact if_neg (by rw [hk]; decide)
    obtain ⟨h1, h2, h3⟩ := health_cases hd
    exact ⟨fun h => hex.trans (congrArg Host.Outcome.next (h1 h)), fun ha hb => ⟨_, hex, h2 ha hb⟩, fun ha hb =>
      ⟨fun hr => ⟨_, hex, (h3 ha hb).1 hr⟩, fun hr hp => ⟨_, hex, (h3 ha hb).2 hr hp⟩⟩⟩
  · exact ⟨_, rfl, hallClaim_claims hd h0 h4 hh hy (.inl ⟨hr, ht⟩)⟩
  · obtain ⟨k1, k2, -, k4⟩ := hallClaim_claims hd h0 h4 hh hy (.inr ⟨hr, hi, ht⟩)
    exact ⟨_, rfl, k1, k2, k4⟩
  · exact congrArg Host.Outcome.next (hallClaim_waits hr hi)
  · exact ⟨_, congrArg Host.Outcome.next (hallHold_holds hd h1 hi hs hc), hpHold_spec rfl⟩
  · refine congrArg Host.Outcome.next ?_
    unfold State.kickExpiry
    exact if_pos hk
  · obtain ⟨b, he, hl, ho⟩ := poke_kick hacc h
    refine ⟨_, congrArg Host.Outcome.next he, rfl, fun o _ => hl o trivial, ?_⟩
    rw [ho]
  · exact congrArg Host.Outcome.next (ilkChange_ignored h)
  · exact ⟨_, rfl, ilkChange_spec hns hl rfl⟩
  · exact ⟨_, rfl, poke_yield hacc h rfl⟩

end Sys2Proof.Machine

/-! Commits of analytic instances and the alarm latches (R234, R235, R258, R259). -/

namespace Sys2Proof.Machine

-- One declaration after another: side by side, their threads' stacks pass the memory limit of a check.
set_option Elab.async false

variable {s t u x : State}

/-! ### What a new decision vector leaves -/

section Decisions

theorem leaves_fireAtEdge {n : Nat} {fire : Stamp} (hn : n < 64) : Leaves Quiet s (s.fireAtEdge n fire) := by
  have hedge : Leaves Quiet s (s.fireEdge n fire).1 := by
    unfold State.fireEdge
    dsimp only
    split
    · exact leaves_bump (by decide)
    · exact Leaves.trans (t := s.setTrig n { s.trig n with firedRise := some fire }) (.of_regs rfl)
        (ringsKept_fireQuiet (A := fun _ => True) hn).quiet
  unfold State.fireAtEdge
  dsimp only
  split
  · exact hedge.trans (leaves_raise (fun _ h => h) (by decide))
  · exact hedge

theorem leaves_trigsDecision {d : Nat} {rising : Bool} : Leaves Quiet s (s.trigsDecision d rising) := by
  unfold State.trigsDecision
  split
  · refine Leaves.foldl (fun y n hn => ?_) s
    split
    · exact leaves_fireAtEdge (List.mem_range.1 (List.mem_filter.1 hn).1)
    · exact .refl y
  · exact .refl s

theorem leaves_decisionEdges {before after : Nat} : Leaves Quiet s (s.decisionEdges before after) := by
  unfold State.decisionEdges
  refine Leaves.foldl (fun y d _ => ?_) s
  split
  · exact leaves_trigsDecision
  · exact .refl y

/-- The counters of the packets that the links send. -/
abbrev SendReg (o : Nat) : Prop := 0x191010 ≤ o ∧ o < 0x1911D0 ∧ (o - 0x191010) % 0x40 = 0

theorem leaves_putPacket {k seq : Nat} {p : Packet} (hk : k < 7) : Leaves (fun o => ¬ SendReg o) s (s.putPacket k p seq) := by
  have hreg : SendReg (Reg.FJL_L_CNT k 0) := by unfold SendReg Reg.FJL_L_CNT; omega
  unfold State.putPacket
  dsimp only
  exact Leaves.trans (t := s.emit _) (leaves_emit _) (Leaves.trans (t := State.setLink _ _ _) (.of_regs rfl) (leaves_bump fun h => h hreg))

theorem leaves_sendNow {k : Nat} {p : Packet} (hk : k < 7) : Leaves (fun o => ¬ SendReg o) s (s.sendNow k p) := by
  unfold State.sendNow
  exact Leaves.trans (t := State.setLink _ _ _) (.of_regs rfl) (leaves_putPacket hk)

theorem lt_of_linkTo {q k : Nat} (h : s.linkTo q = some k) : k < 7 := by
  unfold State.linkTo at h
  dsimp only at h
  split at h
  · next hk => exact Option.some.inj h ▸ hk
  · exact absurd h (by simp)

theorem leaves_fjlSend {q kind hops : Nat} {payload : List Byte} : Leaves (fun o => ¬ SendReg o) s (s.fjlSend q kind hops payload) := by
  unfold State.fjlSend
  split
  · exact .refl s
  · next k hk =>
    split
    · dsimp only
      split
      · exact leaves_sendNow (lt_of_linkTo hk)
      · exact .of_regs rfl
    · exact .refl s

theorem leaves_shareDecisions : Leaves (fun o => ¬ SendReg o) s s.shareDecisions := by
  unfold State.shareDecisions
  refine Leaves.foldl (fun y q _ => ?_) s
  split
  · exact leaves_fjlSend
  · exact .refl y

/-- The registers that a new decision vector leaves. -/
abbrev OffDecisions (o : Nat) : Prop := OffPins o ∧ ¬ SendReg o ∧ ¬ (0x110040 ≤ o ∧ o < 0x110080)

theorem leaves_setDecisions {d : Nat} : Leaves OffDecisions s (s.setDecisions d) := by
  unfold State.setDecisions
  exact Leaves.foldl (fun y k hk => leaves_setReg fun h => by
    have := List.mem_range.1 hk
    unfold OffDecisions Reg.ANA_DEC at h
    omega) s

theorem leaves_setAbsentBits {d : Nat} : Leaves OffDecisions s (s.setAbsentBits d) := by
  unfold State.setAbsentBits
  exact Leaves.foldl (fun y k hk => leaves_setReg fun h => by
    have := List.mem_range.1 hk
    unfold OffDecisions Reg.ANA_DEC_ABSENT at h
    omega) s

theorem leaves_showDecisions : Leaves OffDecisions s s.showDecisions := by
  have hpins : ∀ y : State, Leaves OffDecisions y y.pinsFollow := fun _ => leaves_pinsFollow.mono fun _ h => h.1
  unfold State.showDecisions
  split
  · exact .refl s
  · extract_lets +onlyGivenNames before live maps shared d
    clear_value before live maps shared d
    extract_lets +onlyGivenNames a
    have ha : Leaves OffDecisions s a := leaves_setDecisions.trans leaves_setAbsentBits
    clear_value a
    refine Leaves.trans (ha.trans ?_) (hpins _)
    exact .ite ((leaves_decisionEdges.mono fun _ h => h.1.1).trans (leaves_shareDecisions.mono fun _ h => h.2.1)) (.refl a)

end Decisions

/-! ### The latches -/

section Latches
variable {n m : Nat}

theorem pinRaw_congr (hm : m < 16) (h : Leaves OffPins s t) : t.pinRaw m = s.pinRaw m := by
  have hmask : t.pinMask m = s.pinMask m := by
    unfold State.pinMask
    refine List.foldl_ext _ _ _ fun a k hk => ?_
    have := List.mem_range.1 hk
    rw [h (Reg.PIN_MASK m k) (by unfold OffPins Quiet PinReg Reg.PIN_MASK Reg.ANA_STATUS Reg.ANA_PINS Reg.ANA_LATCH Reg.ANA_CNT; omega)]
  have hdec : t.decisions = s.decisions := by
    unfold State.decisions
    refine List.foldl_ext _ _ _ fun a k hk => ?_
    have := List.mem_range.1 hk
    rw [h (Reg.ANA_DEC k) (by unfold OffPins Quiet PinReg Reg.ANA_DEC Reg.ANA_STATUS Reg.ANA_PINS Reg.ANA_LATCH Reg.ANA_CNT; omega)]
  have habs : t.absentBits = s.absentBits := by
    unfold State.absentBits
    refine List.foldl_ext _ _ _ fun a k hk => ?_
    have := List.mem_range.1 hk
    rw [h (Reg.ANA_DEC_ABSENT k) (by unfold OffPins Quiet PinReg Reg.ANA_DEC_ABSENT Reg.ANA_STATUS Reg.ANA_PINS Reg.ANA_LATCH Reg.ANA_CNT; omega)]
  have hctrl : t.rb (Reg.PIN_CTRL m) 1 = s.rb (Reg.PIN_CTRL m) 1 :=
    h.rb (by unfold OffPins Quiet PinReg Reg.PIN_CTRL Reg.ANA_STATUS Reg.ANA_PINS Reg.ANA_LATCH Reg.ANA_CNT; omega) 1
  unfold State.pinRaw
  rw [hmask, hdec, habs, hctrl]

/-- Pin `m` has no rise to latch. -/
def State.NoRise (s : State) (m : Nat) : Prop := s.pinRaw m = false ∨ s.alarms.raw.testBit m = true

/-- A rise of raw(n) latches. -/
def State.pinLatched (s : State) (n : Nat) : State :=
  if s.pinRaw n && !s.alarms.raw.testBit n && s.rb (Reg.PIN_CTRL n) 2 then s.setRb Reg.ANA_LATCH n true else s

/-- The value that raw(n) last had. -/
def State.pinNoted (s : State) (n : Nat) (raw : Bool) : State :=
  { s with alarms := { s.alarms with raw := setFld (word s.alarms.raw) n 1 raw.toNat |>.toNat } }

/-- The rest of what pin `n` does: its computed and its active value, and what a rise of the first counts and raises. -/
def State.pinShown (s : State) (n : Nat) (raw : Bool) : State :=
  let c := s.pinComputed n raw
  let old := s.rb Reg.ANA_PINS n
  let s := s.setRb Reg.ANA_PINS n c
  let s := s.setRb Reg.ANA_PINS (16 + n) (c && s.rb (Reg.PIN_CTRL n) 0 && s.gate)
  if c && !old then
    let s := (s.bump (Reg.ANA_CNT 7)).setReg (Reg.PIN_STATUS n) s.alarms.seq
    s.flagRaise Reg.ANA_STATUS 0 36 n
  else s

theorem pinFollow_eq : s.pinFollow n = ((s.pinLatched n).pinNoted n (s.pinRaw n)).pinShown n (s.pinRaw n) := rfl

theorem pinLatched_kept (hn : n < 16) (h : n = m → s.NoRise m) (hx : x = s.pinLatched n) :
    x.alarms = s.alarms ∧ x.rb Reg.ANA_LATCH m = s.rb Reg.ANA_LATCH m := by
  unfold State.pinLatched at hx
  by_cases hc : (s.pinRaw n && !s.alarms.raw.testBit n && s.rb (Reg.PIN_CTRL n) 2) = true
  · rw [if_pos hc] at hx
    subst hx
    refine ⟨(within_setRb _ _ _ _).alarms rfl, ?_⟩
    have hne : m ≠ n := fun e => by
      rw [Bool.and_eq_true, Bool.and_eq_true, Bool.not_eq_true'] at hc
      obtain ⟨⟨hraw, hwas⟩, -⟩ := hc
      rcases h e.symm with h | h
      · exact absurd ((e ▸ h : s.pinRaw n = false).symm.trans hraw) Bool.false_ne_true
      · exact absurd (hwas.symm.trans (e ▸ h : s.alarms.raw.testBit n = true)) Bool.false_ne_true
    rw [State.rb, reg_setRb, if_pos rfl, bit_setBit_ne (by omega) hne]
    rfl
  · rw [if_neg hc] at hx
    subst hx
    exact ⟨rfl, rfl⟩

theorem pinNoted_spec {raw : Bool} : (s.pinNoted n raw).alarms.raw = (setFld (word s.alarms.raw) n 1 raw.toNat).toNat ∧
    Leaves (fun _ => True) s (s.pinNoted n raw) := ⟨rfl, leaves_setAlarms⟩

theorem pinShown_kept {raw : Bool} (hx : x = s.pinShown n raw) : x.alarms = s.alarms ∧ x.rb Reg.ANA_LATCH m = s.rb Reg.ANA_LATCH m := by
  unfold State.pinShown at hx
  extract_lets +onlyGivenNames c old d at hx
  have hd : d.alarms = s.alarms ∧ Leaves (· = Reg.ANA_LATCH) s d := ⟨(within_setRb _ _ _ _).alarms rfl, leaves_setRb (by decide)⟩
  clear_value d c old
  extract_lets +onlyGivenNames e at hx
  have he : e.alarms = s.alarms ∧ Leaves (· = Reg.ANA_LATCH) s e :=
    ⟨((within_setRb _ _ _ _).alarms rfl).trans hd.1, hd.2.trans (leaves_setRb (by decide))⟩
  clear_value e
  by_cases hc : (c && !old) = true
  · rw [if_pos hc] at hx
    subst hx
    have hl : Leaves (· = Reg.ANA_LATCH) e ((e.bump (Reg.ANA_CNT 7)).setReg (Reg.PIN_STATUS n) e.alarms.seq) :=
      (leaves_bump (by decide)).trans (leaves_setReg (by unfold Reg.ANA_LATCH Reg.PIN_STATUS; omega))
    refine ⟨?_, ?_⟩
    · rw [(within_flagRaise _ _ _ _ _).alarms rfl, (within_setReg _ _ _).alarms rfl, (within_bump _ _).alarms rfl, he.1]
    · rw [State.rb, flagRaise_quiet (by decide) (by decide) (by decide), hl _ rfl]
      exact he.2.rb rfl m
  · rw [if_neg hc] at hx
    subst hx
    exact ⟨he.1, he.2.rb rfl m⟩

/-- The raw values that the pins last had, and the latch of a pin without a rise, after pin `n` has followed its inputs. -/
theorem pinFollow_spec (hn : n < 16) (h : n = m → s.NoRise m) (hu : u = s.pinFollow n) :
    u.alarms.raw = (setFld (word s.alarms.raw) n 1 (s.pinRaw n).toNat).toNat ∧ u.rb Reg.ANA_LATCH m = s.rb Reg.ANA_LATCH m := by
  obtain ⟨a, ha⟩ : ∃ a, a = s.pinLatched n := ⟨_, rfl⟩
  obtain ⟨b, hb⟩ : ∃ b, b = a.pinNoted n (s.pinRaw n) := ⟨_, rfl⟩
  rw [pinFollow_eq, ← ha, ← hb] at hu
  obtain ⟨h1, h2⟩ := pinLatched_kept hn h ha
  obtain ⟨h3, h4⟩ := hb ▸ pinNoted_spec (s := a) (n := n) (raw := s.pinRaw n)
  obtain ⟨h5, h6⟩ := pinShown_kept (m := m) hu
  exact ⟨by rw [h5, h3, h1], h6.trans ((h4.rb trivial m).trans h2)⟩

theorem testBit_setRaw {r v : Nat} (hn : n < 32) (hm : m < 32) (hne : m ≠ n) :
    (setFld (word r) n 1 v).toNat.testBit m = r.testBit m := by
  have h := bit_setFld_ne (w := word r) (v := v) (n := 1) (j := m) (lo := n) (by omega) (by omega)
  have hw : bit (word r) m = r.testBit m := by
    rw [bit, word, BitVec.getLsbD_ofNat, decide_eq_true hm, Bool.true_and]
  rw [← hw, ← h]
  rfl

theorem testBit_setRaw_self {r : Nat} {b : Bool} (hn : n < 32) : (setFld (word r) n 1 b.toNat).toNat.testBit n = b := by
  have h := bit_setBit (w := word r) (b := b) hn
  exact h

/-- A pin without a rise keeps its latch, and has none while the others follow. -/
theorem pinFollow_noRise (hm : m < 16) (hn : n < 16) (h : s.NoRise m) :
    (s.pinFollow n).NoRise m ∧ (s.pinFollow n).rb Reg.ANA_LATCH m = s.rb Reg.ANA_LATCH m := by
  obtain ⟨h1, h2⟩ := pinFollow_spec (m := m) hn (fun _ => h) rfl
  have hraw : (s.pinFollow n).pinRaw m = s.pinRaw m := pinRaw_congr hm (leaves_pinFollow hn)
  refine ⟨?_, h2⟩
  unfold State.NoRise
  rw [hraw, h1]
  by_cases hne : m = n
  · subst hne
    rw [testBit_setRaw_self (by omega)]
    cases s.pinRaw m <;> simp
  · rw [testBit_setRaw (by omega) (by omega) hne]
    exact h

theorem pinsFollow_latch (hm : m < 16) (h : s.NoRise m) : s.pinsFollow.rb Reg.ANA_LATCH m = s.rb Reg.ANA_LATCH m := by
  have hfold : ∀ (l : List Nat), (∀ n ∈ l, n < 16) → ∀ y : State, y.NoRise m →
      (l.foldl (fun s n => s.pinFollow n) y).rb Reg.ANA_LATCH m = y.rb Reg.ANA_LATCH m := by
    intro l
    induction l with
    | nil => exact fun _ _ _ => rfl
    | cons n l ih =>
      intro hl y hy
      obtain ⟨k1, k2⟩ := pinFollow_noRise hm (hl n List.mem_cons_self) hy
      exact (ih (fun k hk => hl k (List.mem_cons_of_mem n hk)) _ k1).trans k2
  unfold State.pinsFollow
  split
  · exact hfold _ (fun n hn => List.mem_range.1 hn) s h
  · rfl

theorem latchClear_spec {v : Word} (hacc : s.Accepts Reg.ANA_LATCH v) (hm : m < 16) (h : s.NoRise m) :
    (s.poke Reg.ANA_LATCH v {}).rb Reg.ANA_LATCH m = (s.rb Reg.ANA_LATCH m && !bit v m) := by
  obtain ⟨b, hb⟩ : ∃ b, b = s.setReg Reg.ANA_LATCH (merge 0 v (s.reg Reg.ANA_LATCH &&& ~~~ (v &&& 0xFFFF))) := ⟨_, rfl⟩
  have hbit : b.rb Reg.ANA_LATCH m = (s.rb Reg.ANA_LATCH m && !bit v m) := by
    have hall : ∀ k < 16, bit (0xFFFF : Word) k = true := by decide
    have hmask := hall m hm
    rw [hb, State.rb, reg_setReg_self, merge_none, State.rb]
    simp only [bit, BitVec.getLsbD_and, BitVec.getLsbD_not] at hmask ⊢
    rw [hmask, decide_eq_true (show m < 32 by omega), Bool.and_true, Bool.true_and]
  have hl : Leaves (· ≠ Reg.ANA_LATCH) s b := by
    rw [hb]
    exact leaves_setReg (by simp)
  have hbn : b.NoRise m := by
    have hraw : b.pinRaw m = s.pinRaw m := pinRaw_congr hm (hl.mono fun o ho e => ho.2 (.inr (.inr (.inl e))))
    have hal : b.alarms = s.alarms := by rw [hb]; rfl
    unfold State.NoRise
    rw [hraw, hal]
    exact h
  rw [hacc.poke (r := ⟨0x110018, 0x4, 1, 0x4, 1, 0x0, 0x0, 0xFFFF, 0x0, 0x0, .single, none⟩) (by decide) rfl rfl, ← hb,
    unitHook_ana (by decide), State.anaHook,
    if_neg (by decide), if_neg (by decide), if_pos (by decide), State.latchClear, pinsFollow_latch hm hbn, hbit]

end Latches

/-! ### ANA_COMMIT -/

section Commit
variable {v : Word} {i k : Nat} {c : Commit}

theorem any_congr {α : Type} {p q : α → Bool} {l : List α} (h : ∀ a ∈ l, p a = q a) : l.any p = l.any q := by
  induction l with
  | nil => rfl
  | cons a l ih => rw [List.any_cons, List.any_cons, h a List.mem_cons_self, ih fun b hb => h b (List.mem_cons_of_mem a hb)]

theorem lt_of_mem_span {k : Nat} (h : k ∈ s.lsnSpan i) : k < 32 := by
  obtain ⟨_, _, rfl⟩ := List.mem_map.1 h
  exact Nat.mod_lt _ (by decide)

/-- A commit is checked on what the registers beside ANA_COMMIT, the lessons, the forms and HBM3 hold. -/
theorem commitCheck_congr {now : Bool} (hi : i < 64) (hl : Leaves (· ≠ Reg.ANA_COMMIT) s t) (hw : Within 0x8 s t) :
    t.commitCheck i now = s.commitCheck i now := by
  have hinfo : ∀ a n, t.rf (Reg.LSN_INFO i) a n = s.rf (Reg.LSN_INFO i) a n :=
    hl.rf (by unfold Reg.LSN_INFO Reg.ANA_COMMIT; omega)
  have hkind : t.lsnKind i = s.lsnKind i := hinfo 0 3
  have hform : t.lsnForm i = s.lsnForm i := hinfo 8 8
  have hspan : t.lsnSpan i = s.lsnSpan i := by
    unfold State.lsnSpan State.lsnHome
    rw [hinfo, hinfo]
  have hless : t.lesson i = s.lesson i := by
    rw [State.lesson, hw.lessons rfl]
    rfl
  have hrd : ∀ a n, t.hbmRead a n = s.hbmRead a n := fun a n => by
    unfold State.hbmRead
    rw [hw.hbm rfl]
  have hpar : (List.range 7).map (fun k => t.reg (Reg.LSN_P i k)) = (List.range 7).map (fun k => s.reg (Reg.LSN_P i k)) :=
    List.map_congr_left fun k hk => hl _ (by unfold Reg.LSN_P Reg.ANA_COMMIT; omega)
  have hfp : t.formPar (s.lsnForm i) = s.formPar (s.lsnForm i) :=
    formPar_congr fld_lt (hl.mono fun o ho => by unfold OfForms at ho; unfold Reg.ANA_COMMIT; omega) (form_congr (hw.forms rfl))
  have hdec : t.decCount i = s.decCount i := hl.rf (o := Reg.LSN_DECS i) (by unfold Reg.LSN_DECS Reg.ANA_COMMIT; omega) 8 7
  have hany : (s.lsnSpan i).any (fun c => decide (t.clsState c = 0) || !t.domOn (classDomain c)) =
      (s.lsnSpan i).any (fun c => decide (s.clsState c = 0) || !s.domOn (classDomain c)) := by
    refine any_congr fun c hc => ?_
    have hlt := lt_of_mem_span hc
    have hcls : t.clsState c = s.clsState c := hl.rf (o := Reg.IMG_CLS_STATE c) (by unfold Reg.IMG_CLS_STATE Reg.ANA_COMMIT; omega) 0 2
    rw [hcls, domOn_congr (hl _ (by decide))]
  unfold State.commitCheck
  dsimp only
  rw [hless, hkind, hform, hspan, hpar, hfp, hdec, hany, hl.rb (o := Reg.LSN_CTRL i) (by unfold Reg.LSN_CTRL Reg.ANA_COMMIT; omega),
    hl.pair (lo := Reg.LSN_TBLA_LO i) (by unfold Reg.LSN_TBLA_LO Reg.ANA_COMMIT; omega) (by unfold Reg.LSN_TBLA_LO Reg.ANA_COMMIT; omega),
    hl.pair (lo := Reg.LSN_TBLB_LO i) (by unfold Reg.LSN_TBLB_LO Reg.ANA_COMMIT; omega) (by unfold Reg.LSN_TBLB_LO Reg.ANA_COMMIT; omega),
    hl.pair (lo := Reg.LSN_RES_LO i) (by unfold Reg.LSN_RES_LO Reg.ANA_COMMIT; omega) (by unfold Reg.LSN_RES_LO Reg.ANA_COMMIT; omega),
    hl.rf (o := Reg.LSN_RES_LO i) (by unfold Reg.LSN_RES_LO Reg.ANA_COMMIT; omega), hl Reg.ANA_COMMIT_AT (by decide), hrd, hrd]

/-- When the commit that ANA_COMMIT asks for takes effect. -/
def State.commitWhen (s : State) (now : Bool) : CommitAt := if now then CommitAt.now else .seq (s.reg Reg.ANA_COMMIT_AT).toNat

/-- A commit whose checks pass is the next one of its instance, and pending is shown. -/
def State.commitTaken (s : State) (i : Nat) (now : Bool) (k : Nat × Commit) : State :=
  if k.1 = 0 then (s.setLesson i { s.lesson i with next := some (k.2, s.commitWhen now) }).setRb (Reg.LSN_ACTIVE i) 1 true else s

/-- The result of a commit. -/
def State.commitShown (s : State) (i code : Nat) : State :=
  ((s.setReg Reg.ANA_COMMIT_STATUS (setFld (setFld (s.reg Reg.ANA_COMMIT_STATUS) 16 8 code) 24 6 i)).publish Reg.ANA_COMMIT_STATUS).setRb
    Reg.ANA_COMMIT 0 false

theorem anaCommit_eq : s.anaCommit = (((s.unready Reg.ANA_COMMIT_STATUS).commitTaken (fld (s.reg Reg.ANA_COMMIT) 8 6) (bit (s.reg Reg.ANA_COMMIT) 1)
    (s.commitCheck (fld (s.reg Reg.ANA_COMMIT) 8 6) (bit (s.reg Reg.ANA_COMMIT) 1))).commitShown (fld (s.reg Reg.ANA_COMMIT) 8 6)
    (s.commitCheck (fld (s.reg Reg.ANA_COMMIT) 8 6) (bit (s.reg Reg.ANA_COMMIT) 1)).1).showDecisions := rfl

theorem commitCheck_lt {now : Bool} : (s.commitCheck i now).1 < 256 := by
  unfold State.commitCheck
  dsimp only
  split_ifs <;> decide

theorem commitTaken_spec {now : Bool} (hi : i < 64) (hu : u = s.commitTaken i now (k, c)) :
    (k = 0 → (u.lesson i).next = some (c, s.commitWhen now) ∧ u.rb (Reg.LSN_ACTIVE i) 1 = true) ∧ (k ≠ 0 → u.lessons = s.lessons) := by
  unfold State.commitTaken at hu
  by_cases hk : k = 0
  · rw [if_pos hk] at hu
    refine ⟨fun _ => ⟨?_, ?_⟩, fun h => absurd hk h⟩
    · have hl : u.lesson i = { s.lesson i with next := some (c, s.commitWhen now) } := by
        rw [hu, State.lesson, (within_setRb _ _ _ _).lessons rfl]
        exact Tab.get_put_self
      rw [hl]
    · rw [hu]
      exact rb_setRb_self (by decide)
  · rw [if_neg hk] at hu
    exact ⟨fun h => absurd h hk, fun _ => by rw [hu]⟩

theorem commitShown_spec {code : Nat} (hi : i < 64) (hc : code < 256) (hu : u = s.commitShown i code) :
    u.rf Reg.ANA_COMMIT_STATUS 16 8 = code ∧ u.rf Reg.ANA_COMMIT_STATUS 24 6 = i ∧ u.rb Reg.ANA_COMMIT_STATUS 31 = true ∧
    u.rb Reg.ANA_COMMIT 0 = false ∧ Leaves (fun o => o ≠ Reg.ANA_COMMIT_STATUS ∧ o ≠ Reg.ANA_COMMIT) s u ∧ Within 0x8 s u := by
  obtain ⟨a, ha⟩ : ∃ a, a = s.setReg Reg.ANA_COMMIT_STATUS (setFld (setFld (s.reg Reg.ANA_COMMIT_STATUS) 16 8 code) 24 6 i) := ⟨_, rfl⟩
  have har : a.reg Reg.ANA_COMMIT_STATUS = setFld (setFld (s.reg Reg.ANA_COMMIT_STATUS) 16 8 code) 24 6 i := by rw [ha, reg_setReg_self]
  have hal : Leaves (· ≠ Reg.ANA_COMMIT_STATUS) s a := by
    rw [ha]
    exact leaves_setReg (by simp)
  have haw : Within 0x8 s a := ha ▸ within_setReg s _ _
  have he : u = (a.publish Reg.ANA_COMMIT_STATUS).setRb Reg.ANA_COMMIT 0 false := by rw [hu, ha]; rfl
  clear ha hu
  have hpub : ∀ lo n, 16 ≤ lo → lo + n ≤ 31 → u.rf Reg.ANA_COMMIT_STATUS lo n = fld (a.reg Reg.ANA_COMMIT_STATUS) lo n := fun lo n h1 h2 => by
    rw [he, State.rf, reg_setRb, if_neg (by decide), State.publish, reg_setRb, if_pos rfl, fld_setBit_ne (by decide) (.inl h2), reg_setRf,
      if_pos rfl, fld_setFld_ne (by decide) (.inr h1)]
  refine ⟨?_, ?_, ?_, ?_, ?_, ?_⟩
  · rw [hpub 16 8 (by decide) (by decide), har, fld_setFld_ne (by decide) (.inl (by decide)), fld_setFld (by decide),
      Nat.mod_eq_of_lt (b := 2 ^ 8) hc]
  · rw [hpub 24 6 (by decide) (by decide), har, fld_setFld (by decide), Nat.mod_eq_of_lt (b := 2 ^ 6) hi]
  · rw [he, State.rb, reg_setRb, if_neg (by decide), State.publish, reg_setRb, if_pos rfl, bit_setBit (by decide)]
  · rw [he]
    exact rb_setRb_self (by decide)
  · refine (hal.mono fun _ h => h.1).trans ?_
    rw [he]
    exact (leaves_publish fun h => h.1 rfl).trans (leaves_setRb fun h => h.2 rfl)
  · rw [he]
    exact ((within_setRb _ _ _ _).after (by decide) (within_publish _ _)).after (by decide) haw

theorem anaCommit_spec (hacc : s.Accepts Reg.ANA_COMMIT v) (hgo : bit v 0 = true) (hk : s.commitCheck (fld v 8 6) (bit v 1) = (k, c))
    (hu : u = s.poke Reg.ANA_COMMIT v {}) :
    u.rf Reg.ANA_COMMIT_STATUS 16 8 = k ∧ u.rf Reg.ANA_COMMIT_STATUS 24 6 = fld v 8 6 ∧ u.rb Reg.ANA_COMMIT_STATUS 31 = true ∧
    u.rb Reg.ANA_COMMIT 0 = false ∧
    (k = 0 → (u.lesson (fld v 8 6)).next = some (c, s.commitWhen (bit v 1)) ∧ u.rb (Reg.LSN_ACTIVE (fld v 8 6)) 1 = true) ∧
    (k ≠ 0 → u.lessons = s.lessons) := by
  have hi : fld v 8 6 < 64 := fld_lt
  obtain ⟨a, ha⟩ : ∃ a, a = s.setReg Reg.ANA_COMMIT (merge 0x3F03 v (s.reg Reg.ANA_COMMIT)) := ⟨_, rfl⟩
  have har : a.reg Reg.ANA_COMMIT = merge 0x3F03 v (s.reg Reg.ANA_COMMIT) := by rw [ha, reg_setReg_self]
  have hal : Leaves (· ≠ Reg.ANA_COMMIT) s a := by
    rw [ha]
    exact leaves_setReg (by simp)
  have haw : Within 0x8 s a := ha ▸ within_setReg s _ _
  have hai : fld (a.reg Reg.ANA_COMMIT) 8 6 = fld v 8 6 := by rw [har, fld_merge (by decide)]
  have han : bit (a.reg Reg.ANA_COMMIT) 1 = bit v 1 := by rw [har, bit_merge, if_pos (by decide)]
  have hag : a.rb Reg.ANA_COMMIT 0 = true := by rw [State.rb, har, bit_merge, if_pos (by decide), hgo]
  have hp : u = a.anaCommit := by
    rw [hu, hacc.poke_plain (r := ⟨0x110008, 0x4, 1, 0x4, 1, 0x0, 0x3F03, 0x0, 0x0, 0x0, .single, none⟩) (by decide) rfl rfl rfl, ← ha,
      unitHook_ana (by decide), State.anaHook, if_neg (by decide), if_pos (by decide), if_pos hag]
  rw [anaCommit_eq, hai, han, commitCheck_congr hi hal haw, hk] at hp
  obtain ⟨b, hb⟩ : ∃ b, b = a.unready Reg.ANA_COMMIT_STATUS := ⟨_, rfl⟩
  obtain ⟨d, hd⟩ : ∃ d, d = b.commitTaken (fld v 8 6) (bit v 1) (k, c) := ⟨_, rfl⟩
  obtain ⟨e, he⟩ : ∃ e, e = d.commitShown (fld v 8 6) k := ⟨_, rfl⟩
  rw [← hb, ← hd, ← he] at hp
  have hbw : b.commitWhen (bit v 1) = s.commitWhen (bit v 1) := by
    have hat : b.reg Reg.ANA_COMMIT_AT = s.reg Reg.ANA_COMMIT_AT := by
      rw [hb, State.unready, reg_setRb, if_neg (by decide), hal _ (by decide)]
    rw [State.commitWhen, hat]
    rfl
  have hbl : b.lessons = s.lessons := by
    rw [hb, ← haw.lessons rfl]
    exact (within_setRb _ _ _ _).lessons rfl
  have hk8 : k < 256 := by
    have h := commitCheck_lt (s := s) (i := fld v 8 6) (now := bit v 1)
    rw [hk] at h
    exact h
  obtain ⟨h1, h2⟩ := commitTaken_spec hi hd
  obtain ⟨h3, h4, h5, h6, h7, h8⟩ := commitShown_spec hi hk8 he
  have hul : Leaves OffDecisions e u := hp ▸ leaves_showDecisions
  have hus : u.lessons = d.lessons := by rw [hp, (within_showDecisions _).lessons rfl, h8.lessons rfl]
  refine ⟨(hul.rf (by decide) 16 8).trans h3, (hul.rf (by decide) 24 6).trans h4, (hul.rb (by decide) 31).trans h5,
    (hul.rb (by decide) 0).trans h6, fun hk0 => ⟨?_, ?_⟩, fun hk0 => hus.trans ((h2 hk0).trans hbl)⟩
  · rw [State.lesson, hus, ← hbw]
    exact (h1 hk0).1
  · rw [hul.rb (o := Reg.LSN_ACTIVE (fld v 8 6)), h7.rb (o := Reg.LSN_ACTIVE (fld v 8 6))]
    · exact (h1 hk0).2
    · unfold Reg.LSN_ACTIVE Reg.ANA_COMMIT_STATUS Reg.ANA_COMMIT
      omega
    · unfold OffDecisions OffPins Quiet PinReg Reg.LSN_ACTIVE Reg.ANA_STATUS Reg.ANA_PINS Reg.ANA_LATCH Reg.ANA_CNT
      omega

end Commit

/-- Settles O46. -/
theorem commitsAndLatches : Obligations.CommitsAndLatches := by
  intro s v
  refine ⟨fun hacc hgo k c hk => ⟨_, rfl, ?_⟩, fun hacc => ⟨_, rfl, fun n h => latchClear_spec hacc n.isLt h⟩⟩
  exact anaCommit_spec hacc hgo hk rfl

end Sys2Proof.Machine

/-! The Fjarni links: their states, their packets and what a new decision vector sends over them (R430-R432, R435). -/

namespace Sys2Proof.Machine

-- One declaration after another: side by side, their threads' stacks pass the memory limit of a check.
set_option Elab.async false

variable {s t u x : State}

/-! ### What the links hold -/

section Hold
variable {k q seq kind hops n : Nat} {p : Packet} {payload : List Byte}

theorem link_congr (h : t.links = s.links) : t.link k = s.link k := by
  rw [State.link, h]
  rfl

theorem link_setLink {y : Link} : (s.setLink k y).link k = y := Tab.get_put_self
theorem link_setLink_ne {y : Link} (h : q ≠ k) : (s.setLink k y).link q = s.link q := Tab.get_put_ne h

/-- From `s` to `t` no link has taken a packet. -/
def RxKept (s t : State) : Prop := ∀ q, (t.link q).rxSeq = (s.link q).rxSeq

theorem RxKept.refl (s : State) : RxKept s s := fun _ => rfl
theorem RxKept.trans (h : RxKept s x) (g : RxKept x t) : RxKept s t := fun q => (g q).trans (h q)
theorem RxKept.of_links (h : t.links = s.links) : RxKept s t := fun q => by rw [link_congr h]

theorem rxKept_setLink {y : Link} (h : y.rxSeq = (s.link k).rxSeq) : RxKept s (s.setLink k y) := fun q => by
  by_cases hq : q = k
  · rw [hq, link_setLink, h]
  · rw [link_setLink_ne hq]

theorem emit_links {y : Output} : (s.emit y).links = s.links := by
  unfold State.emit
  split <;> rfl

/-- The packet that `putPacket` emits. -/
def State.packetOut (s : State) (k : Nat) (p : Packet) (seq : Nat) : Output :=
  .fjl k p.kind (seq % 65536) (packetOctets p (s.link k).freed (seq % 65536) (s.link k).rxSeq)

theorem putPacket_eq : s.putPacket k p seq =
    ((s.emit (s.packetOut k p seq)).setLink k { s.link k with freed := 0 }).bump (Reg.FJL_L_CNT k 0) := rfl

/-- A packet that leaves. -/
theorem putPacket_spec (hu : u = s.putPacket k p seq) : u.link k = { s.link k with freed := 0 } ∧ (∀ q, q ≠ k → u.link q = s.link q) ∧
    (s.boundary = false → u.out = s.packetOut k p seq :: s.out) := by
  obtain ⟨a, ha⟩ : ∃ a, a = s.emit (s.packetOut k p seq) := ⟨_, rfl⟩
  obtain ⟨b, hb⟩ : ∃ b, b = a.setLink k { s.link k with freed := 0 } := ⟨_, rfl⟩
  rw [putPacket_eq, ← ha, ← hb] at hu
  have hal : a.links = s.links := ha ▸ emit_links
  have hbk : b.link k = { s.link k with freed := 0 } := by rw [hb, link_setLink]
  have hbq : ∀ q, q ≠ k → b.link q = s.link q := fun q hq => by rw [hb, link_setLink_ne hq, link_congr hal]
  have hul : u.links = b.links := by rw [hu, (within_bump _ _).links rfl]
  refine ⟨(link_congr hul).trans hbk, fun q hq => (link_congr hul).trans (hbq q hq), fun hbd => ?_⟩
  have ho : u.out = a.out := by
    rw [hu, (within_bump _ _).out rfl, hb]
    rfl
  rw [ho, ha, State.emit, hbd, Bool.false_and]
  rfl

theorem rxKept_putPacket : RxKept s (s.putPacket k p seq) := fun q => by
  obtain ⟨u, hu⟩ : ∃ u, u = s.putPacket k p seq := ⟨_, rfl⟩
  obtain ⟨h1, h2, -⟩ := putPacket_spec hu
  rw [← hu]
  by_cases hq : q = k
  · rw [hq, h1]
  · rw [h2 q hq]

theorem rxKept_sendNow : RxKept s (s.sendNow k p) := by
  unfold State.sendNow
  dsimp only
  refine RxKept.trans ?_ rxKept_putPacket
  exact rxKept_setLink rfl

theorem rxKept_sendControl : RxKept s (s.sendControl k kind payload) := rxKept_putPacket

theorem rxKept_fjlSend : RxKept s (s.fjlSend q kind hops payload) := by
  unfold State.fjlSend
  split
  · exact .refl s
  · split
    · dsimp only
      split
      · exact rxKept_sendNow
      · exact rxKept_setLink rfl
    · exact .refl s

theorem rxKept_drainLink : ∀ {fuel : Nat} {s : State}, RxKept s (s.drainLink k fuel) := by
  intro fuel
  induction fuel with
  | zero => exact fun {s} => .refl s
  | succ fuel ih =>
    intro s
    unfold State.drainLink
    dsimp only
    split
    · exact .refl s
    · split
      · exact .refl s
      · refine RxKept.trans ?_ (rxKept_sendNow.trans ih)
        exact rxKept_setLink rfl

theorem rxKept_shareDecisions : RxKept s s.shareDecisions := by
  unfold State.shareDecisions
  generalize List.range 8 = l
  induction l generalizing s with
  | nil => exact .refl s
  | cons q l ih =>
    rw [List.foldl_cons]
    refine RxKept.trans ?_ ih
    split
    · exact rxKept_fjlSend
    · exact .refl s

/-- What the positions of the board last shared. -/
theorem pinFollow_shared : (s.pinFollow n).alarms.shared = s.alarms.shared := by
  obtain ⟨a, ha⟩ : ∃ a, a = s.pinLatched n := ⟨_, rfl⟩
  obtain ⟨b, hb⟩ : ∃ b, b = a.pinNoted n (s.pinRaw n) := ⟨_, rfl⟩
  have has : a.alarms = s.alarms := by
    rw [ha]
    unfold State.pinLatched
    split
    · exact (within_setRb _ _ _ _).alarms rfl
    · rfl
  have hbs : b.alarms.shared = a.alarms.shared := by rw [hb]; rfl
  obtain ⟨u, hu⟩ : ∃ u, u = b.pinShown n (s.pinRaw n) := ⟨_, rfl⟩
  rw [pinFollow_eq, ← ha, ← hb, ← hu, (pinShown_kept (m := 0) hu).1, hbs, has]

theorem foldPins_shared {l : List Nat} : (l.foldl (fun s n => s.pinFollow n) s).alarms.shared = s.alarms.shared := by
  induction l generalizing s with
  | nil => rfl
  | cons n l ih => rw [List.foldl_cons, ih, pinFollow_shared]

theorem pinsFollow_shared : s.pinsFollow.alarms.shared = s.alarms.shared := by
  by_cases hd : s.domOn pdSch = true
  · have he : s.pinsFollow = (List.range 16).foldl (fun s n => s.pinFollow n) s := if_pos hd
    rw [he, foldPins_shared]
  · have he : s.pinsFollow = s := if_neg hd
    rw [he]

theorem shared_setDecisionsAbsent {d e : Nat} : ((s.setDecisions d).setAbsentBits e).alarms = s.alarms :=
  ((within_setAbsentBits _ _).alarms rfl).trans ((within_setDecisions _ _).alarms rfl)

/-- A decision vector that has changed is watched by triggers and shared. -/
def State.decisionsMoved (s : State) (before after : Nat) : State :=
  if after ≠ before then (s.decisionEdges before after).shareDecisions else s

theorem showDecisions_on (hd : s.domOn pdSch = true) :
    ∃ d e before, s.showDecisions = (((s.setDecisions d).setAbsentBits e).decisionsMoved before d).pinsFollow :=
  ⟨_, _, _, if_neg (by rw [hd]; decide)⟩

theorem decisionsMoved_keeps {before after : Nat} (hu : u = s.decisionsMoved before after) : RxKept s u ∧ u.alarms = s.alarms := by
  by_cases h : after ≠ before
  · obtain ⟨a, ha⟩ : ∃ a, a = s.decisionEdges before after := ⟨_, rfl⟩
    have hw : Within 0x1C6C8 s a := ha ▸ within_decisionEdges s before after
    have he : u = a.shareDecisions := by rw [hu, State.decisionsMoved, if_pos h, ha]
    have hs := within_shareDecisions a
    rw [he]
    exact ⟨(RxKept.of_links (hw.links rfl)).trans rxKept_shareDecisions, (hs.alarms rfl).trans (hw.alarms rfl)⟩
  · have he : u = s := by rw [hu, State.decisionsMoved, if_neg h]
    rw [he]
    exact ⟨.refl s, rfl⟩

theorem showDecisions_keeps (hu : u = s.showDecisions) : RxKept s u ∧ u.alarms.shared = s.alarms.shared := by
  by_cases hd : s.domOn pdSch = true
  · obtain ⟨d, e, before, he⟩ := showDecisions_on hd
    obtain ⟨a, ha⟩ : ∃ a, a = (s.setDecisions d).setAbsentBits e := ⟨_, rfl⟩
    obtain ⟨b, hb⟩ : ∃ b, b = a.decisionsMoved before d := ⟨_, rfl⟩
    rw [he, ← ha, ← hb] at hu
    obtain ⟨h1, h2⟩ := decisionsMoved_keeps hb
    have hal : a.links = s.links := by rw [ha, (within_setAbsentBits _ _).links rfl, (within_setDecisions _ _).links rfl]
    have haa : a.alarms = s.alarms := by rw [ha, shared_setDecisionsAbsent]
    refine ⟨((RxKept.of_links hal).trans h1).trans (.of_links (by rw [hu, (within_pinsFollow _).links rfl])), ?_⟩
    rw [hu, pinsFollow_shared, h2, haa]
  · have he : s.showDecisions = s := if_pos (by rw [Bool.eq_false_iff.2 hd]; rfl)
    rw [hu, he]
    exact ⟨.refl s, rfl⟩

end Hold

/-! ### The states of a link -/

section States
variable {k st : Nat} {off : Bool}

/-- The registers that a change of a link's state leaves. -/
abbrev OffLink (k o : Nat) : Prop := o ≠ Reg.FJL_L_STATUS k ∧ o ≠ Reg.FJL_STATUS

theorem status_ne_up : Reg.FJL_L_STATUS k ≠ Reg.FJL_STATUS := by unfold Reg.FJL_L_STATUS Reg.FJL_STATUS; omega

theorem setLinkState_spec (hst : st < 8) (hu : u = s.setLinkState k st) :
    u.reg (Reg.FJL_L_STATUS k) = setFld (s.reg (Reg.FJL_L_STATUS k)) 0 3 st ∧ (k < 8 → u.rb Reg.FJL_STATUS k = decide (st = 3)) ∧
    Leaves (OffLink k) s u ∧ Within 0x8 s u := by
  subst hu
  refine ⟨?_, fun hk => rb_setRb_self (by omega), ?_, ?_⟩
  · unfold State.setLinkState
    rw [reg_setRb, if_neg status_ne_up, reg_setRf, if_pos rfl]
  · exact (leaves_setRf fun h => h.1 rfl).trans (leaves_setRb fun h => h.2 rfl)
  · exact (within_setRb _ _ _ _).after (by decide) (within_setRf _ _ _ _ _)

/-- The state, the lanes and the last error of a link, in its status register. -/
theorem linkShown {lanes : Nat} (hst : st < 8) (hl : lanes < 16) (hk : k < 8) (hu : u = (s.setLinkState k st).setRf (Reg.FJL_L_STATUS k) 8 4 lanes) :
    u.linkState k = st ∧ u.rf (Reg.FJL_L_STATUS k) 8 4 = lanes ∧ u.rf (Reg.FJL_L_STATUS k) 12 2 = s.rf (Reg.FJL_L_STATUS k) 12 2 ∧
    u.rb Reg.FJL_STATUS k = decide (st = 3) ∧ Leaves (OffLink k) s u ∧ Within 0x8 s u := by
  obtain ⟨a, ha⟩ : ∃ a, a = s.setLinkState k st := ⟨_, rfl⟩
  rw [← ha] at hu
  obtain ⟨h1, h2, h3, h4⟩ := setLinkState_spec hst ha
  have hr : u.reg (Reg.FJL_L_STATUS k) = setFld (setFld (s.reg (Reg.FJL_L_STATUS k)) 0 3 st) 8 4 lanes := by
    rw [hu, reg_setRf, if_pos rfl, h1]
  have hul : Leaves (· ≠ Reg.FJL_L_STATUS k) a u := by
    rw [hu]
    exact leaves_setRf (by simp)
  refine ⟨?_, ?_, ?_, ?_, h3.trans (hul.mono fun _ h => h.1), hu ▸ (within_setRf _ _ _ _ _).after (by decide) h4⟩
  · rw [State.linkState, State.rf, hr, fld_setFld_ne (by decide) (.inl (by decide)), fld_setFld (by decide), Nat.mod_eq_of_lt (b := 2 ^ 3) hst]
  · rw [State.rf, hr, fld_setFld (by decide), Nat.mod_eq_of_lt (b := 2 ^ 4) hl]
  · rw [State.rf, hr, fld_setFld_ne (by decide) (.inr (by decide)), fld_setFld_ne (by decide) (.inr (by decide))]
    rfl
  · rw [hul.rb (Ne.symm status_ne_up), h2 hk]

theorem quiet_fjl {o : Nat} (h : o / 0x10000 = 25) : Quiet o := by
  unfold Quiet
  omega

theorem offDecisions_fjl {o : Nat} (h : o / 0x10000 = 25) (hs : ¬ SendReg o) : OffDecisions o := by
  unfold OffDecisions OffPins Quiet PinReg Reg.ANA_STATUS Reg.ANA_PINS Reg.ANA_LATCH Reg.ANA_CNT
  omega

theorem fjlStatus_unit (hk : k < 7) : Reg.FJL_L_STATUS k / 0x10000 = 25 ∧ ¬ SendReg (Reg.FJL_L_STATUS k) := by
  unfold SendReg Reg.FJL_L_STATUS
  omega

theorem fjlCnt_unit {j : Nat} (hk : k < 7) (hj : j < 6) (h0 : j ≠ 0) :
    Reg.FJL_L_CNT k j / 0x10000 = 25 ∧ ¬ SendReg (Reg.FJL_L_CNT k j) := by
  unfold SendReg Reg.FJL_L_CNT
  omega

theorem satWord_cnt {o n : Nat} : (s.bumpBy o n).reg o = satWord (s.reg o) n := reg_setReg_self

/-- The link's own work when it leaves UP. -/
def State.linkLeft (s : State) (k : Nat) : State := (s.setLink k {}).sharedClear (s.linkPeer k)

/-- The link's state, and the packets it loses, counted. -/
def State.linkFallen (s : State) (k st n : Nat) : State :=
  (((s.setLinkState k st).setRf (Reg.FJL_L_STATUS k) 8 4 0).bump (Reg.FJL_L_CNT k 4)).bumpBy (Reg.FJL_L_CNT k 5) n

theorem linkDown_eq : s.linkDown k off =
    (if off then (((if off then ((s.linkLeft k).setLinkState k 0).setRf (Reg.FJL_L_STATUS k) 8 4 0 else (s.linkLeft k).linkTrain k).bump
        (Reg.FJL_L_CNT k 4)).bumpBy (Reg.FJL_L_CNT k 5) ((s.link k).sent.length + (s.link k).waiting.length)).flagRaise Reg.FJL_STATUS 8 56 k
      else ((((if off then ((s.linkLeft k).setLinkState k 0).setRf (Reg.FJL_L_STATUS k) 8 4 0 else (s.linkLeft k).linkTrain k).bump
        (Reg.FJL_L_CNT k 4)).bumpBy (Reg.FJL_L_CNT k 5) ((s.link k).sent.length + (s.link k).waiting.length)).flagRaise
          Reg.FJL_STATUS 8 56 k).flagRaise Reg.FJL_STATUS 9 57 k).showDecisions := rfl

theorem linkOff_eq : (if off then (s.setLinkState k 0).setRf (Reg.FJL_L_STATUS k) 8 4 0 else s.linkTrain k) =
    (s.setLinkState k (if off then 0 else 1)).setRf (Reg.FJL_L_STATUS k) 8 4 0 := by
  cases off with
  | true => exact if_pos rfl
  | false => exact if_neg Bool.false_ne_true

theorem linkFallen_spec {n : Nat} (hk : k < 7) (hst : st < 3) (hu : u = s.linkFallen k st n) :
    u.linkState k = st ∧ u.rf (Reg.FJL_L_STATUS k) 12 2 = s.rf (Reg.FJL_L_STATUS k) 12 2 ∧ u.rb Reg.FJL_STATUS k = false ∧
    u.reg (Reg.FJL_L_CNT k 4) = satWord (s.reg (Reg.FJL_L_CNT k 4)) 1 ∧
    u.reg (Reg.FJL_L_CNT k 5) = satWord (s.reg (Reg.FJL_L_CNT k 5)) n := by
  obtain ⟨a, ha⟩ : ∃ a, a = (s.setLinkState k st).setRf (Reg.FJL_L_STATUS k) 8 4 0 := ⟨_, rfl⟩
  obtain ⟨h1, -, h3, h4, h5, -⟩ := linkShown (by omega) (by decide) (by omega) ha
  have he : u = (a.bump (Reg.FJL_L_CNT k 4)).bumpBy (Reg.FJL_L_CNT k 5) n := by rw [hu, ha]; rfl
  have hl : Leaves (fun o => o ≠ Reg.FJL_L_CNT k 4 ∧ o ≠ Reg.FJL_L_CNT k 5) a u := by
    rw [he]
    exact (leaves_bump fun h => h.1 rfl).trans (leaves_setReg fun h => h.2 rfl)
  have hs : Reg.FJL_L_STATUS k ≠ Reg.FJL_L_CNT k 4 ∧ Reg.FJL_L_STATUS k ≠ Reg.FJL_L_CNT k 5 := by
    unfold Reg.FJL_L_STATUS Reg.FJL_L_CNT
    omega
  have hup : Reg.FJL_STATUS ≠ Reg.FJL_L_CNT k 4 ∧ Reg.FJL_STATUS ≠ Reg.FJL_L_CNT k 5 := by
    unfold Reg.FJL_STATUS Reg.FJL_L_CNT
    omega
  have h45 : Reg.FJL_L_CNT k 4 ≠ Reg.FJL_L_CNT k 5 := by
    unfold Reg.FJL_L_CNT
    omega
  have hc : ∀ j, OffLink k (Reg.FJL_L_CNT k (j + 4)) := fun j => by
    unfold OffLink Reg.FJL_L_CNT Reg.FJL_L_STATUS Reg.FJL_STATUS
    omega
  refine ⟨(hl.rf hs 0 3).trans h1, (hl.rf hs 12 2).trans h3, (hl.rb hup k).trans (h4.trans (decide_eq_false (by omega))), ?_, ?_⟩
  · rw [he, State.bumpBy, reg_setReg_ne h45, reg_bump, if_pos rfl, h5 _ (hc 0)]
  · rw [he, satWord_cnt, reg_bump, if_neg h45.symm, h5 _ (hc 1)]

/-- An UP link leaves UP. -/
theorem linkDown_spec (hk : k < 7) (hu : u = s.linkDown k off) :
    u.linkState k = (if off then 0 else 1) ∧ u.rf (Reg.FJL_L_STATUS k) 12 2 = s.rf (Reg.FJL_L_STATUS k) 12 2 ∧
    u.rb Reg.FJL_STATUS k = false ∧ u.event 56 = true ∧ (off = false → u.event 57 = true) ∧
    u.reg (Reg.FJL_L_CNT k 4) = satWord (s.reg (Reg.FJL_L_CNT k 4)) 1 ∧
    u.reg (Reg.FJL_L_CNT k 5) = satWord (s.reg (Reg.FJL_L_CNT k 5)) ((s.link k).sent.length + (s.link k).waiting.length) := by
  obtain ⟨a, ha⟩ : ∃ a, a = s.linkLeft k := ⟨_, rfl⟩
  obtain ⟨b, hb⟩ : ∃ b, b = a.linkFallen k (if off then 0 else 1) ((s.link k).sent.length + (s.link k).waiting.length) := ⟨_, rfl⟩
  obtain ⟨c, hc⟩ : ∃ c, c = b.flagRaise Reg.FJL_STATUS 8 56 k := ⟨_, rfl⟩
  obtain ⟨d, hd⟩ : ∃ d, d = if off then c else c.flagRaise Reg.FJL_STATUS 9 57 k := ⟨_, rfl⟩
  have hal : Leaves (fun _ => True) s a := by
    rw [ha]
    exact .of_regs rfl
  obtain ⟨h1, h2, h3, h4, h5⟩ := linkFallen_spec hk (by cases off <;> decide) hb
  rw [hal.rf trivial] at h2
  rw [hal _ trivial] at h4 h5
  have he : u = d.showDecisions := by
    rw [hu, linkDown_eq, ← ha, linkOff_eq, ← State.linkFallen, ← hb, ← hc, ← hd]
  have hcl : Leaves (fun o => Quiet o ∧ o ≠ Reg.FJL_STATUS) b c := fun o ho => by
    rw [hc]
    exact flagRaise_quiet ho.1 ho.2 (by decide)
  have hck : c.rb Reg.FJL_STATUS k = b.rb Reg.FJL_STATUS k := by
    rw [hc]
    exact flagRaise_below (by decide) (by decide) (by omega) (by decide)
  have hc56 : c.event 56 = true := by
    rw [hc]
    exact event_flagRaise (by decide)
  have hdl : Leaves (fun o => Quiet o ∧ o ≠ Reg.FJL_STATUS) c d := by
    rw [hd]
    cases off with
    | true => exact .refl c
    | false => exact fun o ho => flagRaise_quiet ho.1 ho.2 (by decide)
  have hdk : d.rb Reg.FJL_STATUS k = c.rb Reg.FJL_STATUS k := by
    rw [hd]
    cases off with
    | true => rfl
    | false => exact flagRaise_below (by decide) (by decide) (by omega) (by decide)
  have hd56 : d.event 56 = true := by
    rw [hd]
    cases off with
    | true => exact hc56
    | false => exact keepsEvents_flagRaise (by decide) (by decide) 56 (by decide) hc56
  have hd57 : off = false → d.event 57 = true := fun h => by
    rw [hd, h]
    exact event_flagRaise (by decide)
  have hul : Leaves OffDecisions d u := he ▸ leaves_showDecisions
  have hue : KeepsEvents d u := he ▸ (ldr_showDecisions d).events
  have hbd : Leaves (fun o => Quiet o ∧ o ≠ Reg.FJL_STATUS) b d := hcl.trans hdl
  have hreg : ∀ o, o / 0x10000 = 25 → ¬ SendReg o → o ≠ Reg.FJL_STATUS → u.reg o = b.reg o := fun o h hs hn =>
    (hul o (offDecisions_fjl h hs)).trans (hbd o ⟨quiet_fjl h, hn⟩)
  have hst := hreg _ (fjlStatus_unit hk).1 (fjlStatus_unit hk).2 status_ne_up
  have hcnt : ∀ j, j < 6 → j ≠ 0 → u.reg (Reg.FJL_L_CNT k j) = b.reg (Reg.FJL_L_CNT k j) := fun j hj h0 =>
    hreg _ (fjlCnt_unit hk hj h0).1 (fjlCnt_unit hk hj h0).2 (by unfold Reg.FJL_L_CNT Reg.FJL_STATUS; omega)
  refine ⟨?_, ?_, ?_, hue 56 (by decide) hd56, fun h => hue 57 (by decide) (hd57 h), (hcnt 4 (by decide) (by decide)).trans h4,
    (hcnt 5 (by decide) (by decide)).trans h5⟩
  · rw [State.linkState, State.rf, hst]
    exact h1
  · rw [State.rf, hst]
    exact h2
  · rw [hul.rb (offDecisions_fjl (by decide) (by decide)), hdk, hck, h3]

end States

/-! ### Enabling, training and checking a link -/

section Train
variable {k : Nat} {v : Word}

theorem linkPeer_congr (h : t.reg Reg.GLB_BOARD = s.reg Reg.GLB_BOARD) : t.linkPeer k = s.linkPeer k := by
  rw [State.linkPeer, State.boardPos, State.rf, h]
  rfl

theorem fjlCtrlRow (k : Fin 7) : regRow (Reg.FJL_L_CTRL k) = some ⟨0x191000, 0x40, 7, 0x4, 1, 0x0, 0x1, 0x0, 0x0, 0x1, .single, none⟩ := by
  revert k
  decide

/-- The write of a link's EN. -/
def State.linkAsked (s : State) (k : Nat) (v : Word) : State := s.setReg (Reg.FJL_L_CTRL k) (merge 0x1 v (s.reg (Reg.FJL_L_CTRL k)))

theorem leaves_linkAsked : Leaves (· ≠ Reg.FJL_L_CTRL k) s (s.linkAsked k v) := leaves_setReg (by simp)

theorem linkAsked_state : (s.linkAsked k v).linkState k = s.linkState k :=
  leaves_linkAsked.rf (by unfold Reg.FJL_L_STATUS Reg.FJL_L_CTRL; omega) 0 3

theorem poke_linkCtrl {k : Fin 7} (hacc : s.Accepts (Reg.FJL_L_CTRL k) v) : s.poke (Reg.FJL_L_CTRL k) v {} =
    if bit v 0 && !s.rb (Reg.FJL_L_CTRL k) 0 then (s.linkAsked k v).linkEnable k
    else if !bit v 0 && s.rb (Reg.FJL_L_CTRL k) 0 then (s.linkAsked k v).linkDisable k
    else s.linkAsked k v := by
  have hu : Reg.FJL_L_CTRL k / 0x10000 = 25 := by unfold Reg.FJL_L_CTRL; omega
  have hv : viewOf (Reg.FJL_L_CTRL k) = 0 := by unfold viewOf Reg.FJL_L_CTRL; omega
  have h1 : ¬ (0x190200 ≤ Reg.FJL_L_CTRL k ∧ Reg.FJL_L_CTRL k < 0x190220) := by unfold Reg.FJL_L_CTRL; omega
  have h2 : 0x191000 ≤ Reg.FJL_L_CTRL k ∧ Reg.FJL_L_CTRL k < 0x1911C0 ∧ Reg.FJL_L_CTRL k % 0x40 = 0 := by unfold Reg.FJL_L_CTRL; omega
  have h3 : (Reg.FJL_L_CTRL k - 0x191000) / 0x40 = k := by unfold Reg.FJL_L_CTRL; omega
  have hb : (s.linkAsked k v).rb (Reg.FJL_L_CTRL k) 0 = bit v 0 := by
    rw [State.linkAsked, State.rb, reg_setReg_self, bit_merge, if_pos (by decide)]
  rw [hacc.poke_plain hv (fjlCtrlRow k) rfl rfl, unitHook_fjl hu, ← State.linkAsked, State.fjlHook, if_neg (by simpa using h1),
    if_pos (by simpa [and_assoc] using h2), h3, hb]
  rfl

theorem linkTrain_spec (hk : k < 7) (hu : u = s.linkTrain k) : u.linkState k = 1 ∧ u.rf (Reg.FJL_L_STATUS k) 8 4 = 0 ∧
    Leaves (OffLink k) s u := by
  obtain ⟨h1, h2, -, -, h5, -⟩ := linkShown (st := 1) (lanes := 0) (by decide) (by decide) (by omega) hu
  exact ⟨h1, h2, h5⟩

theorem offLink_of_notMem {o : Nat} {l : List Nat} (h : o ∉ l) (h1 : Reg.FJL_L_STATUS k ∈ l) (h2 : Reg.FJL_STATUS ∈ l) : OffLink k o :=
  ⟨fun e => h (e ▸ h1), fun e => h (e ▸ h2)⟩

theorem enable_spec {k : Fin 7} (hacc : s.Accepts (Reg.FJL_L_CTRL k) v) (hb : bit v 0 = true) (hs : s.rb (Reg.FJL_L_CTRL k) 0 = false)
    (h0 : s.linkState k = 0) (hu : u = s.poke (Reg.FJL_L_CTRL k) v {}) : u.linkState k = 1 ∧ u.rf (Reg.FJL_L_STATUS k) 8 4 = 0 ∧
    AllRegsKept s u [Reg.FJL_L_CTRL k, Reg.FJL_L_STATUS k, Reg.FJL_STATUS] := by
  rw [poke_linkCtrl hacc, hb, hs, if_pos (by decide), State.linkEnable, if_pos (linkAsked_state.trans h0)] at hu
  obtain ⟨h1, h2, h3⟩ := linkTrain_spec k.isLt hu
  refine ⟨h1, h2, fun o ho => ?_⟩
  rw [h3 o (offLink_of_notMem ho (by simp) (by simp)), leaves_linkAsked o fun e => ho (by simp [e])]

theorem disable_spec {k : Fin 7} (hacc : s.Accepts (Reg.FJL_L_CTRL k) v) (hb : bit v 0 = false) (hs : s.rb (Reg.FJL_L_CTRL k) 0 = true)
    (hu : u = s.poke (Reg.FJL_L_CTRL k) v {}) :
    (s.linkState k ≠ 3 → u.linkState k = 0 ∧ u.link k = {} ∧ AllRegsKept s u [Reg.FJL_L_CTRL k, Reg.FJL_L_STATUS k, Reg.FJL_STATUS]) ∧
    (s.linkState k = 3 → u.linkState k = 0 ∧ u.rb Reg.FJL_STATUS k = false ∧ u.event 56 = true ∧
      u.reg (Reg.FJL_L_CNT k 4) = satWord (s.reg (Reg.FJL_L_CNT k 4)) 1 ∧
      u.reg (Reg.FJL_L_CNT k 5) = satWord (s.reg (Reg.FJL_L_CNT k 5)) ((s.link k).sent.length + (s.link k).waiting.length)) := by
  rw [poke_linkCtrl hacc, hb, hs, if_neg (by decide), if_pos (by decide), State.linkDisable, linkAsked_state] at hu
  refine ⟨fun h => ?_, fun h => ?_⟩
  · rw [if_neg h] at hu
    obtain ⟨a, ha⟩ : ∃ a, a = (s.linkAsked k v).setLink k {} := ⟨_, rfl⟩
    have hal : Leaves (· ≠ Reg.FJL_L_CTRL k) s a := by
      rw [ha]
      exact Leaves.trans leaves_linkAsked (.of_regs rfl)
    have hak : a.link k = {} := by rw [ha, link_setLink]
    rw [← ha] at hu
    obtain ⟨h1, -, -, -, h5, h6⟩ := linkShown (st := 0) (lanes := 0) (by decide) (by decide) (by omega) hu
    refine ⟨h1, (link_congr (h6.links rfl)).trans hak, fun o ho => ?_⟩
    rw [h5 o (offLink_of_notMem ho (by simp) (by simp)), hal o fun e => ho (by simp [e])]
  · rw [if_pos h] at hu
    obtain ⟨h1, -, h3, h4, -, h5, h6⟩ := linkDown_spec k.isLt hu
    have hne : ∀ j, Reg.FJL_L_CNT k (j + 4) ≠ Reg.FJL_L_CTRL k := fun j => by unfold Reg.FJL_L_CNT Reg.FJL_L_CTRL; omega
    have hl : (s.linkAsked k v).link k = s.link k := link_congr ((within_setReg _ _ _).links rfl)
    rw [leaves_linkAsked _ (hne 0)] at h5
    rw [leaves_linkAsked _ (hne 1), hl] at h6
    exact ⟨h1, h3, h4, h5, h6⟩

theorem leaves_putPacket_cnt {p : Packet} {seq : Nat} : Leaves (· ≠ Reg.FJL_L_CNT k 0) s (s.putPacket k p seq) := by
  rw [putPacket_eq]
  exact Leaves.trans (t := s.emit _) (leaves_emit _) (Leaves.trans (t := State.setLink _ _ _) (.of_regs rfl) (leaves_bump (by simp)))

/-- A control packet that leaves. -/
theorem sendControl_spec {kind : Nat} {payload : List Byte} (hu : u = s.sendControl k kind payload) :
    u.link k = { s.link k with freed := 0 } ∧ (s.boundary = false → ∃ seq bs, u.out = .fjl k kind seq bs :: s.out) ∧
    Leaves (· ≠ Reg.FJL_L_CNT k 0) s u ∧ Within 0x4000000088 s u := by
  obtain ⟨h1, -, h3⟩ := putPacket_spec hu
  refine ⟨h1, fun hb => ⟨_, _, h3 hb⟩, ?_, hu ▸ within_sendControl s k kind payload⟩
  rw [hu]
  exact leaves_putPacket_cnt

theorem link_boundary (h : Leaves (fun o => 0x1A0000 ≤ o) s t) : t.boundary = s.boundary := boundary_congr h

theorem lanesAligned_spec (hk : k < 7) (hd : s.domOn pdLink = true) (h1 : s.linkState k = 1) (hu : u = s.lanesAligned k) :
    u.linkState k = 2 ∧ u.rf (Reg.FJL_L_STATUS k) 8 4 = 15 ∧ (u.link k).checkAt = s.now ∧
    (s.boundary = false → ∃ seq bs, u.out = .fjl k 7 seq bs :: s.out) ∧
    AllRegsKept s u [Reg.FJL_L_STATUS k, Reg.FJL_STATUS, Reg.FJL_L_CNT k 0] := by
  obtain ⟨a, ha⟩ : ∃ a, a = (s.setLinkState k 2).setRf (Reg.FJL_L_STATUS k) 8 4 15 := ⟨_, rfl⟩
  obtain ⟨b, hb⟩ : ∃ b, b = a.setLink k { a.link k with checkAt := a.now } := ⟨_, rfl⟩
  have he : u = b.sendControl k 7 b.identOctets := by
    rw [hu, hb, ha]
    unfold State.lanesAligned
    exact if_pos (by rw [hd, h1]; rfl)
  obtain ⟨k1, k2, -, -, k5, k6⟩ := linkShown (st := 2) (lanes := 15) (by decide) (by decide) (by omega) ha
  have hbl : Leaves (fun _ => True) a b := by
    rw [hb]
    exact .of_regs rfl
  have hbk : b.link k = { a.link k with checkAt := a.now } := by rw [hb, link_setLink]
  have hbo : b.out = s.out := by
    rw [hb, ← k6.out rfl]
    rfl
  have hal : Leaves (fun o => 0x1A0000 ≤ o) s a := k5.mono fun o ho => by
    unfold OffLink Reg.FJL_L_STATUS Reg.FJL_STATUS
    omega
  have hbb : b.boundary = s.boundary := link_boundary (hal.trans (hbl.mono fun _ _ => trivial))
  obtain ⟨m1, m2, m3, -⟩ := sendControl_spec he
  have hst : Reg.FJL_L_STATUS k ≠ Reg.FJL_L_CNT k 0 := by unfold Reg.FJL_L_STATUS Reg.FJL_L_CNT; omega
  rw [hbb, hbo] at m2
  refine ⟨?_, ?_, ?_, m2, fun o ho => ?_⟩
  · rw [State.linkState, m3.rf hst, hbl.rf trivial]
    exact k1
  · rw [m3.rf hst, hbl.rf trivial, k2]
  · rw [m1, hbk]
    exact k6.now rfl
  · rw [m3 o fun e => ho (by simp [e]), hbl o trivial, k5 o (offLink_of_notMem ho (by simp) (by simp))]

/-- A link that fails its check trains again. -/
theorem linkRetrained_spec {code : Nat} (hk : k < 7) (hc : code < 4) (hu : u = ((s.linkTrain k).linkErr k code).flagRaise Reg.FJL_STATUS 9 57 k) :
    u.linkState k = 1 ∧ u.rf (Reg.FJL_L_STATUS k) 12 2 = code ∧ u.event 57 = true ∧ RegsKept s u [Reg.FJL_L_STATUS k, Reg.FJL_STATUS] := by
  obtain ⟨a, ha⟩ : ∃ a, a = s.linkTrain k := ⟨_, rfl⟩
  obtain ⟨b, hb⟩ : ∃ b, b = a.linkErr k code := ⟨_, rfl⟩
  rw [← ha, ← hb] at hu
  obtain ⟨h1, -, h3⟩ := linkTrain_spec hk ha
  have hbr : b.reg (Reg.FJL_L_STATUS k) = setFld (a.reg (Reg.FJL_L_STATUS k)) 12 2 code := by rw [hb, State.linkErr, reg_setRf, if_pos rfl]
  have hbl : Leaves (· ≠ Reg.FJL_L_STATUS k) a b := by
    rw [hb]
    exact leaves_setRf (by simp)
  have hur : ∀ o, Quiet o → o ≠ Reg.FJL_STATUS → u.reg o = b.reg o := fun o ho hn => by
    rw [hu]
    exact flagRaise_quiet ho hn (by decide)
  have hst := hur _ (quiet_fjl (fjlStatus_unit hk).1) status_ne_up
  refine ⟨?_, ?_, ?_, fun o ho hm => ?_⟩
  · rw [State.linkState, State.rf, hst, hbr, fld_setFld_ne (by decide) (.inl (by decide))]
    exact h1
  · rw [State.rf, hst, hbr, fld_setFld (by decide), Nat.mod_eq_of_lt (b := 2 ^ 2) hc]
  · rw [hu]
    exact event_flagRaise (by decide)
  · rw [hur o ho fun e => hm (by simp [e]), hbl o fun e => hm (by simp [e]), h3 o (offLink_of_notMem hm (by simp) (by simp))]

theorem checkTimeout_spec (hk : k < 7) (hd : s.domOn pdLink = true) (h2 : s.linkState k = 2) (ht : (s.link k).checkAt + 10 * fsPerMs ≤ s.now)
    (hu : u = s.checkTimeout k) : u.linkState k = 1 ∧ u.rf (Reg.FJL_L_STATUS k) 12 2 = 2 ∧ u.event 57 = true ∧
    RegsKept s u [Reg.FJL_L_STATUS k, Reg.FJL_STATUS] := by
  refine linkRetrained_spec hk (by decide) (hu.trans ?_)
  unfold State.checkTimeout
  exact if_pos (by rw [hd, h2, decide_eq_true ht]; rfl)

/-- IDENT, once counted. -/
theorem identSeen_spec {pos : Nat} (hk : k < 7) (h2 : s.linkState k = 2) (hu : u = s.identSeen k pos) :
    (pos = s.linkPeer k → u.linkState k = 3 ∧ u.rb Reg.FJL_STATUS k = true ∧ u.event 56 = true ∧
      u.reg (Reg.FJL_L_CNT k 1) = s.reg (Reg.FJL_L_CNT k 1)) ∧
    (pos ≠ s.linkPeer k → u.linkState k = 1 ∧ u.rf (Reg.FJL_L_STATUS k) 12 2 = 1 ∧ u.event 57 = true ∧
      RegsKept s u [Reg.FJL_L_STATUS k, Reg.FJL_STATUS]) := by
  obtain ⟨a, ha⟩ : ∃ a, a = s.setRf (Reg.FJL_L_STATUS k) 4 3 pos := ⟨_, rfl⟩
  have hal : Leaves (· ≠ Reg.FJL_L_STATUS k) s a := by
    rw [ha]
    exact leaves_setRf (by simp)
  have hp : a.linkPeer k = s.linkPeer k := linkPeer_congr (hal _ (by unfold Reg.GLB_BOARD Reg.FJL_L_STATUS; omega))
  unfold State.identSeen at hu
  rw [if_pos h2] at hu
  dsimp only at hu
  rw [← ha, hp] at hu
  refine ⟨fun h => ?_, fun h => ?_⟩
  · rw [if_pos h] at hu
    obtain ⟨b, hb⟩ : ∃ b, b = a.setLink k {} := ⟨_, rfl⟩
    obtain ⟨c, hc⟩ : ∃ c, c = b.setLinkState k 3 := ⟨_, rfl⟩
    obtain ⟨d, hd⟩ : ∃ d, d = c.flagRaise Reg.FJL_STATUS 8 56 k := ⟨_, rfl⟩
    rw [← hb, ← hc, ← hd] at hu
    have hbl : Leaves (fun _ => True) a b := by
      rw [hb]
      exact .of_regs rfl
    obtain ⟨k1, k2, k3, -⟩ := setLinkState_spec (by decide) hc
    have hdr : ∀ o, Quiet o → o ≠ Reg.FJL_STATUS → d.reg o = c.reg o := fun o ho hn => by
      rw [hd]
      exact flagRaise_quiet ho hn (by decide)
    have hdk : d.rb Reg.FJL_STATUS k = c.rb Reg.FJL_STATUS k := by
      rw [hd]
      exact flagRaise_below (by decide) (by decide) (by omega) (by decide)
    have hd56 : d.event 56 = true := by
      rw [hd]
      exact event_flagRaise (by decide)
    have hul : Leaves OffDecisions d u := hu ▸ leaves_showDecisions
    have hue : KeepsEvents d u := hu ▸ (ldr_showDecisions d).events
    obtain ⟨hs1, hs2⟩ := fjlStatus_unit hk
    obtain ⟨hc1, hc2⟩ := fjlCnt_unit (j := 1) hk (by decide) (by decide)
    have hcn : Reg.FJL_L_CNT k 1 ≠ Reg.FJL_STATUS ∧ Reg.FJL_L_CNT k 1 ≠ Reg.FJL_L_STATUS k := by
      unfold Reg.FJL_L_CNT Reg.FJL_STATUS Reg.FJL_L_STATUS
      omega
    refine ⟨?_, ?_, hue 56 (by decide) hd56, ?_⟩
    · rw [State.linkState, State.rf, hul _ (offDecisions_fjl hs1 hs2), hdr _ (quiet_fjl hs1) status_ne_up, k1, fld_setFld (by decide)]
      rfl
    · rw [hul.rb (offDecisions_fjl (by decide) (by decide)), hdk, k2 (by omega)]
      rfl
    · rw [hul _ (offDecisions_fjl hc1 hc2), hdr _ (quiet_fjl hc1) hcn.1, k3 _ ⟨hcn.2, hcn.1⟩, hbl _ trivial, hal _ hcn.2]
  · rw [if_neg h] at hu
    obtain ⟨h1, h3, h4, h5⟩ := linkRetrained_spec hk (by decide) hu
    refine ⟨h1, h3, h4, fun o ho hm => ?_⟩
    rw [h5 o ho hm, hal o fun e => hm (by simp [e])]

theorem identReceive_spec {pos : Nat} (hk : k < 7) (hd : s.domOn pdLink = true) (h2 : s.linkState k = 2) (hu : u = s.identReceive k pos) :
    (pos = s.linkPeer k → u.linkState k = 3 ∧ u.rb Reg.FJL_STATUS k = true ∧ u.event 56 = true ∧
      u.reg (Reg.FJL_L_CNT k 1) = satWord (s.reg (Reg.FJL_L_CNT k 1)) 1) ∧
    (pos ≠ s.linkPeer k → u.linkState k = 1 ∧ u.rf (Reg.FJL_L_STATUS k) 12 2 = 1 ∧ u.event 57 = true ∧
      RegsKept s u [Reg.FJL_L_STATUS k, Reg.FJL_STATUS, Reg.FJL_L_CNT k 1]) := by
  obtain ⟨a, ha⟩ : ∃ a, a = s.bump (Reg.FJL_L_CNT k 1) := ⟨_, rfl⟩
  have hal : Leaves (· ≠ Reg.FJL_L_CNT k 1) s a := by
    rw [ha]
    exact leaves_bump (by simp)
  have hac : a.reg (Reg.FJL_L_CNT k 1) = satWord (s.reg (Reg.FJL_L_CNT k 1)) 1 := by rw [ha, reg_bump, if_pos rfl]
  have hp : a.linkPeer k = s.linkPeer k := linkPeer_congr (hal _ (by unfold Reg.GLB_BOARD Reg.FJL_L_CNT; omega))
  have ha2 : a.linkState k = 2 := (hal.rf (by unfold Reg.FJL_L_STATUS Reg.FJL_L_CNT; omega) 0 3).trans h2
  have he : u = a.identSeen k pos := by
    rw [hu, ha]
    unfold State.identReceive
    exact if_pos (by rw [hd, h2]; rfl)
  obtain ⟨k1, k2⟩ := identSeen_spec (pos := pos) hk ha2 he
  rw [hp] at k1 k2
  refine ⟨fun h => ?_, fun h => ?_⟩
  · obtain ⟨m1, m2, m3, m4⟩ := k1 h
    exact ⟨m1, m2, m3, m4.trans hac⟩
  · obtain ⟨m1, m2, m3, m4⟩ := k2 h
    refine ⟨m1, m2, m3, fun o ho hm => ?_⟩
    rw [m4 o ho fun c => hm (by simp at c ⊢; tauto), hal o fun e => hm (by simp [e])]

theorem laneLost_spec {n : Fin 4} (hk : k < 7) (hd : s.domOn pdLink = true) (hu : u = s.laneLost k n) :
    (s.linkState k = 3 → u.linkState k = 1 ∧ u.rb Reg.FJL_STATUS k = false ∧ u.event 56 = true ∧ u.event 57 = true ∧
      u.reg (Reg.FJL_L_CNT k 4) = satWord (s.reg (Reg.FJL_L_CNT k 4)) 1) ∧
    (s.linkState k ≠ 3 → u.rb (Reg.FJL_L_STATUS k) (8 + n) = false ∧ u.linkState k = s.linkState k ∧
      AllRegsKept s u [Reg.FJL_L_STATUS k] ∧ OnlyRegs s u) := by
  unfold State.laneLost at hu
  rw [if_pos hd] at hu
  refine ⟨fun h => ?_, fun h => ?_⟩
  · rw [if_pos h] at hu
    obtain ⟨h1, -, h3, h4, h5, h6, -⟩ := linkDown_spec hk hu
    exact ⟨h1, h3, h4, h5 rfl, h6⟩
  · rw [if_neg h, Nat.mod_eq_of_lt n.isLt] at hu
    have h8 : 8 + n.val < 32 := by omega
    subst hu
    refine ⟨rb_setRb_self h8, ?_, fun o ho => reg_setReg_ne (by simpa using ho), (within_setRb _ _ _ _).onlyRegs⟩
    rw [State.linkState, State.rf, reg_setRb, if_pos rfl, fld_setBit_ne h8 (.inl (by omega))]
    rfl

end Train

/-! ### Packets that arrive, and packets that no ACK reaches -/

section Packets
variable {k : Nat} {a : Arrived} {bs : List Byte}

theorem drainLink_leaves : ∀ {fuel : Nat} {s : State}, Leaves (· ≠ Reg.FJL_L_CNT k 0) s (s.drainLink k fuel) := by
  intro fuel
  induction fuel with
  | zero => exact fun {s} => .refl s
  | succ fuel ih =>
    intro s
    unfold State.drainLink
    dsimp only
    split
    · exact .refl s
    · split
      · exact .refl s
      · refine Leaves.trans ?_ ih
        unfold State.sendNow
        dsimp only
        refine Leaves.trans ?_ leaves_putPacket_cnt
        exact .of_regs rfl

/-- The acknowledgement that a packet brings and the packets that it lets go out. -/
theorem acked_spec (hx : x = (s.takeAck k a).drainLink k 64) : (x.link k).rxSeq = (s.link k).rxSeq ∧
    Leaves (· ≠ Reg.FJL_L_CNT k 0) s x ∧ Within 0x4000000088 s x := by
  obtain ⟨b, hb⟩ : ∃ b, b = s.takeAck k a := ⟨_, rfl⟩
  rw [← hb] at hx
  have hbw : Within 0x4000000000 s b := hb ▸ within_takeAck s k a
  have hbr : (b.link k).rxSeq = (s.link k).rxSeq := by
    rw [hb]
    unfold State.takeAck
    dsimp only
    rw [link_setLink]
    dsimp only
    split <;> rfl
  subst hx
  exact ⟨(rxKept_drainLink k).trans hbr, hbw.leaves.trans drainLink_leaves, (within_drainLink b k 64).after (by decide) (hbw.mono (by decide))⟩

/-- A packet that carries decisions, on an UP link. -/
theorem decisionPacket_spec (hk : k < 7) (h3 : a.kind = 3) (hu : u = s.packetUp k a) :
    (a.seq = ((s.link k).rxSeq + 1) % 65536 → (u.link k).rxSeq = a.seq ∧ u.reg (Reg.FJL_L_CNT k 1) = s.reg (Reg.FJL_L_CNT k 1) ∧
      u.reg (Reg.FJL_CNT 3) = satWord (s.reg (Reg.FJL_CNT 3)) 1 ∧
      Tab.get (fun _ => 0) u.alarms.shared (s.linkPeer k) = le a.payload 0 32) ∧
    (a.seq ≠ ((s.link k).rxSeq + 1) % 65536 → (u.link k).rxSeq = (s.link k).rxSeq ∧ u.alarms = s.alarms ∧
      AllRegsKept s u [Reg.FJL_L_CNT k 0]) := by
  obtain ⟨x, hx⟩ : ∃ x, x = (s.takeAck k a).drainLink k 64 := ⟨_, rfl⟩
  obtain ⟨hxr, hxl, hxw⟩ := acked_spec hx
  have he : u = if a.seq = ((x.link k).rxSeq + 1) % 65536 then
      ((x.setLink k { x.link k with rxSeq := a.seq, freed := (x.link k).freed + 1 }).sendControl k 5 []).packetPass k a
    else x.sendControl k 6 [] := by
    rw [hu]
    unfold State.packetUp
    dsimp only
    rw [← hx, if_neg (by rw [h3]; decide), if_pos (by rw [h3]; decide)]
  rw [hxr] at he
  refine ⟨fun h => ?_, fun h => ?_⟩
  · rw [if_pos h] at he
    obtain ⟨b, hb⟩ : ∃ b, b = x.setLink k { x.link k with rxSeq := a.seq, freed := (x.link k).freed + 1 } := ⟨_, rfl⟩
    obtain ⟨c, hc⟩ : ∃ c, c = b.sendControl k 5 [] := ⟨_, rfl⟩
    obtain ⟨d, hd⟩ : ∃ d : State, d = { c with alarms := { c.alarms with
      shared := Tab.put (fun _ => 0) c.alarms.shared (c.linkPeer k) (le a.payload 0 32) } } := ⟨_, rfl⟩
    obtain ⟨e, hE⟩ : ∃ e, e = d.bump (Reg.FJL_CNT 3) := ⟨_, rfl⟩
    have hbr : (b.link k).rxSeq = a.seq := by rw [hb, link_setLink]
    have hbl : Leaves (fun _ => True) x b := by
      rw [hb]
      exact .of_regs rfl
    obtain ⟨c1, -, c3, -⟩ := sendControl_spec hc
    have hue : u = e.showDecisions := by
      rw [he, ← hb, ← hc, hE, hd]
      unfold State.packetPass
      rw [h3]
      rfl
    have hdl : Leaves (fun _ => True) c d := by
      rw [hd]
      exact leaves_setAlarms
    have hds : Tab.get (fun _ => 0) d.alarms.shared (c.linkPeer k) = le a.payload 0 32 := by
      rw [hd]
      exact Tab.get_put_self
    have hdk : d.link k = c.link k := link_congr (by rw [hd])
    have hek : e.link k = d.link k := link_congr (by rw [hE, (within_bump _ _).links rfl])
    have hes : e.alarms = d.alarms := by rw [hE, (within_bump _ _).alarms rfl]
    have hel : Leaves (· ≠ Reg.FJL_CNT 3) d e := by
      rw [hE]
      exact leaves_bump (by simp)
    have he3 : e.reg (Reg.FJL_CNT 3) = satWord (d.reg (Reg.FJL_CNT 3)) 1 := by rw [hE, reg_bump, if_pos rfl]
    clear hd hE
    obtain ⟨u1, u2⟩ := showDecisions_keeps hue
    have hul : Leaves OffDecisions e u := hue ▸ leaves_showDecisions
    have hcs : Leaves (· ≠ Reg.FJL_L_CNT k 0) s c := (hxl.trans (hbl.mono fun _ _ => trivial)).trans c3
    have hn3 : Reg.FJL_CNT 3 ≠ Reg.FJL_L_CNT k 0 := by unfold Reg.FJL_CNT Reg.FJL_L_CNT; omega
    have hn1 : Reg.FJL_L_CNT k 1 ≠ Reg.FJL_L_CNT k 0 ∧ Reg.FJL_L_CNT k 1 ≠ Reg.FJL_CNT 3 := by
      unfold Reg.FJL_CNT Reg.FJL_L_CNT
      omega
    have hpeer : c.linkPeer k = s.linkPeer k := linkPeer_congr (hcs _ (by unfold Reg.GLB_BOARD Reg.FJL_L_CNT; omega))
    obtain ⟨hc1, hc2⟩ := fjlCnt_unit (j := 1) hk (by decide) (by decide)
    refine ⟨?_, ?_, ?_, ?_⟩
    · rw [u1 k, hek, hdk, c1, ← hbr]
    · rw [hul _ (offDecisions_fjl hc1 hc2), hel _ hn1.2, hdl _ trivial, hcs _ hn1.1]
    · rw [hul _ (offDecisions_fjl (by decide) (by decide)), he3, hdl _ trivial, hcs _ hn3]
    · rw [u2, hes, ← hpeer, hds]
  · rw [if_neg h] at he
    obtain ⟨u1, -, u3, u4⟩ := sendControl_spec he
    refine ⟨?_, (u4.alarms rfl).trans (hxw.alarms rfl), fun o ho => ?_⟩
    · rw [u1, ← hxr]
    · have hn : o ≠ Reg.FJL_L_CNT k 0 := by simpa using ho
      rw [u3 o hn, hxl o hn]

/-- A packet whose CRC fails. -/
theorem badPacket_spec (hk : k < 7) (hd : s.domOn pdLink = true) (h2 : 2 ≤ s.linkState k) (hn : arrived bs = none)
    (hu : u = s.packetReceive k bs) : u.reg (Reg.FJL_L_CNT k 2) = satWord (s.reg (Reg.FJL_L_CNT k 2)) 1 ∧
    (s.boundary = false → ∃ seq b, u.out = .fjl k 6 seq b :: s.out) ∧ AllRegsKept s u [Reg.FJL_L_CNT k 2, Reg.FJL_L_CNT k 0] := by
  obtain ⟨x, hx⟩ : ∃ x, x = s.bump (Reg.FJL_L_CNT k 2) := ⟨_, rfl⟩
  have he : u = x.sendControl k 6 [] := by
    rw [hu, hx]
    unfold State.packetReceive
    rw [if_pos (by rw [hd, decide_eq_true h2]; rfl), hn]
  have hxl : Leaves (· ≠ Reg.FJL_L_CNT k 2) s x := by
    rw [hx]
    exact leaves_bump (by simp)
  have hxc : x.reg (Reg.FJL_L_CNT k 2) = satWord (s.reg (Reg.FJL_L_CNT k 2)) 1 := by rw [hx, reg_bump, if_pos rfl]
  have hxb : x.boundary = s.boundary := link_boundary (hxl.mono fun o ho => by unfold Reg.FJL_L_CNT; omega)
  have hxo : x.out = s.out := by rw [hx, (within_bump _ _).out rfl]
  obtain ⟨-, h3, h4, -⟩ := sendControl_spec he
  rw [hxb, hxo] at h3
  refine ⟨?_, h3, fun o ho => ?_⟩
  · rw [h4 _ (by unfold Reg.FJL_L_CNT; omega), hxc]
  · rw [h4 o fun e => ho (by simp [e]), hxl o fun e => ho (by simp [e])]

theorem upPacket_eq (hd : s.domOn pdLink = true) (h3 : s.linkState k = 3) (ha : arrived bs = some a) (hk : a.kind = 3) :
    s.packetReceive k bs = (s.bump (Reg.FJL_L_CNT k 1)).packetUp k a := by
  have hs : (s.bump (Reg.FJL_L_CNT k 1)).linkState k = 3 :=
    (leaves_bump (P := (· ≠ Reg.FJL_L_CNT k 1)) (by simp)).rf (by unfold Reg.FJL_L_STATUS Reg.FJL_L_CNT; omega) 0 3 |>.trans h3
  unfold State.packetReceive
  rw [if_pos (by rw [hd, h3]; rfl), ha]
  dsimp only
  rw [if_neg (by rw [hk]; decide), if_pos hs]

theorem upPacket_spec (hk : k < 7) (hd : s.domOn pdLink = true) (h3 : s.linkState k = 3) (ha : arrived bs = some a) (hkind : a.kind = 3)
    (hu : u = s.packetReceive k bs) :
    (a.seq = ((s.link k).rxSeq + 1) % 65536 → (u.link k).rxSeq = a.seq ∧
      u.reg (Reg.FJL_L_CNT k 1) = satWord (s.reg (Reg.FJL_L_CNT k 1)) 1 ∧
      u.reg (Reg.FJL_CNT 3) = satWord (s.reg (Reg.FJL_CNT 3)) 1 ∧
      Tab.get (fun _ => 0) u.alarms.shared (s.linkPeer k) = le a.payload 0 32) ∧
    (a.seq ≠ ((s.link k).rxSeq + 1) % 65536 → (u.link k).rxSeq = (s.link k).rxSeq ∧ u.alarms = s.alarms ∧
      AllRegsKept s u [Reg.FJL_L_CNT k 0, Reg.FJL_L_CNT k 1]) := by
  obtain ⟨x, hx⟩ : ∃ x, x = s.bump (Reg.FJL_L_CNT k 1) := ⟨_, rfl⟩
  have hxl : Leaves (· ≠ Reg.FJL_L_CNT k 1) s x := by
    rw [hx]
    exact leaves_bump (by simp)
  have hxc : x.reg (Reg.FJL_L_CNT k 1) = satWord (s.reg (Reg.FJL_L_CNT k 1)) 1 := by rw [hx, reg_bump, if_pos rfl]
  have hxw : Within 0x8 s x := hx ▸ within_bump _ _
  have hp : x.linkPeer k = s.linkPeer k := linkPeer_congr (hxl _ (by unfold Reg.GLB_BOARD Reg.FJL_L_CNT; omega))
  rw [upPacket_eq hd h3 ha hkind, ← hx] at hu
  obtain ⟨h1, h2⟩ := decisionPacket_spec hk hkind hu
  rw [link_congr (hxw.links rfl)] at h1 h2
  rw [hp, hxc, hxl _ (by unfold Reg.FJL_CNT Reg.FJL_L_CNT; omega)] at h1
  rw [hxw.alarms rfl] at h2
  refine ⟨h1, fun h => ?_⟩
  obtain ⟨m1, m2, m3⟩ := h2 h
  refine ⟨m1, m2, fun o ho => ?_⟩
  rw [m3 o fun c => ho (by simp at c; simp [c]), hxl o fun e => ho (by simp [e])]

/-- Packets that are sent again. -/
theorem foldPut_spec {first : Nat} : ∀ {l : List (Packet × Nat)} {y : State}, x = l.foldl (fun s e => s.putPacket k e.1 (first + e.2)) y →
    (l ≠ [] → x.link k = { y.link k with freed := 0 }) ∧ Leaves (· ≠ Reg.FJL_L_CNT k 0) y x := by
  intro l
  induction l with
  | nil => exact fun {y} hx => ⟨fun h => absurd rfl h, hx ▸ .refl y⟩
  | cons e l ih =>
    intro y hx
    obtain ⟨z, hz⟩ : ∃ z, z = y.putPacket k e.1 (first + e.2) := ⟨_, rfl⟩
    rw [List.foldl_cons, ← hz] at hx
    obtain ⟨h1, h2⟩ := ih hx
    obtain ⟨h3, -, -⟩ := putPacket_spec hz
    refine ⟨fun _ => ?_, Leaves.trans (hz ▸ leaves_putPacket_cnt) h2⟩
    by_cases hl : l = []
    · rw [hx, hl]
      exact h3
    · rw [h1 hl, h3]

/-- The packets of a link are sent again, and counted. -/
def State.resent (s : State) (k : Nat) : State :=
  (((s.link k).sent.zip (List.range (s.link k).sent.length)).foldl
    (fun y e => y.putPacket k e.1 ((s.link k).txSeq + 65536 - (s.link k).sent.length + e.2))
    (s.setLink k { s.link k with tries := (s.link k).tries.map (· + 1), since := s.now })).bumpBy (Reg.FJL_L_CNT k 3) (s.link k).sent.length

theorem resendAll_eq : s.resendAll k =
    if (s.link k).tries.any (fun n => decide (8 ≤ n + 1)) then ((s.resent k).linkErr k 3).linkDown k false else s.resent k := rfl

theorem resent_spec (hs : (s.link k).sent ≠ []) (hu : u = s.resent k) :
    u.link k = { s.link k with tries := (s.link k).tries.map (· + 1), since := s.now, freed := 0 } ∧
    u.reg (Reg.FJL_L_CNT k 3) = satWord (s.reg (Reg.FJL_L_CNT k 3)) (s.link k).sent.length ∧
    AllRegsKept s u [Reg.FJL_L_CNT k 0, Reg.FJL_L_CNT k 3] := by
  obtain ⟨a, ha⟩ : ∃ a, a = s.setLink k { s.link k with tries := (s.link k).tries.map (· + 1), since := s.now } := ⟨_, rfl⟩
  obtain ⟨b, hb⟩ : ∃ b, b = ((s.link k).sent.zip (List.range (s.link k).sent.length)).foldl
    (fun y e => y.putPacket k e.1 ((s.link k).txSeq + 65536 - (s.link k).sent.length + e.2)) a := ⟨_, rfl⟩
  rw [State.resent, ← ha, ← hb] at hu
  have hak : a.link k = { s.link k with tries := (s.link k).tries.map (· + 1), since := s.now } := by rw [ha, link_setLink]
  have hal : Leaves (fun _ => True) s a := by
    rw [ha]
    exact .of_regs rfl
  obtain ⟨h1, h2⟩ := foldPut_spec hb
  have hz : (s.link k).sent.zip (List.range (s.link k).sent.length) ≠ [] := by
    cases h : (s.link k).sent with
    | nil => exact absurd h hs
    | cons p l => simp [List.range_succ_eq_map]
  have hul : u.links = b.links := by rw [hu]; rfl
  have h03 : Reg.FJL_L_CNT k 3 ≠ Reg.FJL_L_CNT k 0 := by unfold Reg.FJL_L_CNT; omega
  refine ⟨?_, ?_, fun o ho => ?_⟩
  · rw [link_congr hul, h1 hz, hak]
  · rw [hu, satWord_cnt, h2 _ h03, hal _ trivial]
  · rw [hu, State.bumpBy, reg_setReg_ne fun e => ho (by simp [e]), h2 o fun e => ho (by simp [e]), hal o trivial]

theorem resendTimeout_spec (hk : k < 7) (hd : s.domOn pdLink = true) (h3 : s.linkState k = 3) (hs : (s.link k).sent ≠ [])
    (ht : (s.link k).since + 10 * fsPerUs ≤ s.now) (hu : u = s.resendTimeout k) :
    ((∀ n ∈ (s.link k).tries, n < 7) → u.linkState k = 3 ∧
      u.link k = { s.link k with tries := (s.link k).tries.map (· + 1), since := s.now, freed := 0 } ∧
      u.reg (Reg.FJL_L_CNT k 3) = satWord (s.reg (Reg.FJL_L_CNT k 3)) (s.link k).sent.length ∧
      AllRegsKept s u [Reg.FJL_L_CNT k 0, Reg.FJL_L_CNT k 3]) ∧
    ((∃ n ∈ (s.link k).tries, 7 ≤ n) → u.linkState k = 1 ∧ u.rf (Reg.FJL_L_STATUS k) 12 2 = 3 ∧ u.event 56 = true ∧ u.event 57 = true) := by
  have hne : (s.link k).sent.isEmpty = false := by simpa using hs
  have he : u = s.resendAll k := by
    rw [hu]
    unfold State.resendTimeout
    exact if_pos (by rw [hd, h3, hne, decide_eq_true ht]; rfl)
  obtain ⟨a, ha⟩ : ∃ a, a = s.resent k := ⟨_, rfl⟩
  rw [resendAll_eq, ← ha] at he
  obtain ⟨h1, h2, h4⟩ := resent_spec hs ha
  have hst : a.reg (Reg.FJL_L_STATUS k) = s.reg (Reg.FJL_L_STATUS k) := h4 _ (by
    unfold Reg.FJL_L_STATUS Reg.FJL_L_CNT
    simp only [List.mem_cons, List.not_mem_nil, or_false]
    omega)
  refine ⟨fun hall => ?_, fun hex => ?_⟩
  · have hany : ¬ ((s.link k).tries.any (fun n => decide (8 ≤ n + 1))) = true := fun h => by
      obtain ⟨n, hn, h8⟩ := List.any_eq_true.1 h
      have := hall n hn
      have := of_decide_eq_true h8
      omega
    rw [if_neg hany] at he
    rw [he]
    refine ⟨?_, h1, h2, h4⟩
    rw [State.linkState, State.rf, hst]
    exact h3
  · have hany : (s.link k).tries.any (fun n => decide (8 ≤ n + 1)) = true := by
      obtain ⟨n, hn, h7⟩ := hex
      exact List.any_eq_true.2 ⟨n, hn, decide_eq_true (by omega)⟩
    rw [if_pos hany] at he
    obtain ⟨m1, m2, -, m4, m5, -⟩ := linkDown_spec hk he
    refine ⟨m1, m2.trans ?_, m4, m5 rfl⟩
    rw [State.linkErr, State.rf, reg_setRf, if_pos rfl, fld_setFld (by decide)]
    rfl

end Packets

/-- Settles O59. -/
theorem fjarniLinks : Obligations.FjarniLinks := by
  intro s k
  refine ⟨fun v hacc => ⟨fun hb hs h0 => ⟨_, rfl, enable_spec hacc hb hs h0 rfl⟩, fun hb hs => ?_⟩, fun hd => ⟨fun h1 => ?_, fun pos h2 => ?_, ?_, ?_, ?_, ?_⟩⟩
  · obtain ⟨h1, h2⟩ := disable_spec hacc hb hs rfl
    exact ⟨fun h => ⟨_, rfl, h1 h⟩, fun h => ⟨_, rfl, h2 h⟩⟩
  · exact ⟨_, rfl, lanesAligned_spec k.isLt hd h1 rfl⟩
  · obtain ⟨h3, h4⟩ := identReceive_spec (pos := pos) k.isLt hd h2 rfl
    exact ⟨fun h => ⟨_, rfl, h3 h⟩, fun h => ⟨_, rfl, h4 h⟩⟩
  · exact fun h2 ht => ⟨_, rfl, checkTimeout_spec k.isLt hd h2 ht rfl⟩
  · intro n
    obtain ⟨h3, h4⟩ := laneLost_spec (n := n) k.isLt hd rfl
    exact ⟨fun h => ⟨_, rfl, h3 h⟩, fun h => ⟨_, rfl, h4 h⟩⟩
  · refine fun bs => ⟨fun h2 hn => ⟨_, rfl, badPacket_spec k.isLt hd h2 hn rfl⟩, fun a h3 ha hk => ?_⟩
    obtain ⟨h4, h5⟩ := upPacket_spec k.isLt hd h3 ha hk rfl
    exact ⟨fun h => ⟨_, rfl, h4 h⟩, fun h => ⟨_, rfl, h5 h⟩⟩
  · intro h3 hs ht
    obtain ⟨h4, h5⟩ := resendTimeout_spec k.isLt hd h3 hs ht rfl
    exact ⟨fun h => ⟨_, rfl, h4 h⟩, fun h => ⟨_, rfl, h5 h⟩⟩

end Sys2Proof.Machine

/-! The test access port: instructions, scans and TMX_ACCESS (R486-R491). -/

namespace Sys2Proof.Machine

-- One declaration after another: side by side, their threads' stacks pass the memory limit of a check.
set_option Elab.async false

variable {s t u x : State}

/-! ### The instruction register -/

section Instruction
variable {code idle : Nat}

/-- TDO is no ball with a boundary cell. -/
theorem emit_jtag {n : Nat} : s.emit (.jtag n) = { s with out := .jtag n :: s.out } := by
  unfold State.emit
  exact if_neg (by simp [Output.atCells])

theorem tapRefused_congr (h : t.reg Reg.TMX_CTRL = s.reg Reg.TMX_CTRL) : t.tapRefused code = s.tapRefused code := by
  rw [State.tapRefused, State.rb, State.rb, h]
  rfl

theorem updateIr_spec (hc : code < 256) (hu : u = s.updateIr code) : u.tapInstr = code ∧ AllRegsKept s u [Reg.TMX_STATUS] ∧
    (s.tapRefused code = true →
      u.rf Reg.TMX_STATUS 16 8 = min 255 (s.rf Reg.TMX_STATUS 16 8 + 1) ∧ u.rb Reg.TMX_STATUS 8 = true) ∧
    (s.tapRefused code = false →
      u.rf Reg.TMX_STATUS 16 8 = s.rf Reg.TMX_STATUS 16 8 ∧ u.rb Reg.TMX_STATUS 8 = s.rb Reg.TMX_STATUS 8) ∧ OnlyRegs s u := by
  obtain ⟨a, ha⟩ : ∃ a, a = s.setRf Reg.TMX_STATUS 0 8 code := ⟨_, rfl⟩
  have har : a.reg Reg.TMX_STATUS = setFld (s.reg Reg.TMX_STATUS) 0 8 code := by rw [ha, reg_setRf, if_pos rfl]
  have hal : Leaves (· ≠ Reg.TMX_STATUS) s a := by
    rw [ha]
    exact leaves_setRf (by simp)
  have haw : Within 0x8 s a := ha ▸ within_setRf _ _ _ _ _
  have hai : fld (a.reg Reg.TMX_STATUS) 0 8 = code := by rw [har, fld_setFld (by decide), Nat.mod_eq_of_lt (b := 2 ^ 8) hc]
  have haf : fld (a.reg Reg.TMX_STATUS) 16 8 = s.rf Reg.TMX_STATUS 16 8 := by
    rw [har, fld_setFld_ne (by decide) (.inr (by decide))]
    rfl
  have hab : bit (a.reg Reg.TMX_STATUS) 8 = s.rb Reg.TMX_STATUS 8 := by
    rw [har, bit_setFld_ne (by decide) (.inr (by decide))]
    rfl
  unfold State.updateIr at hu
  dsimp only at hu
  rw [← ha, tapRefused_congr (hal _ (by decide))] at hu
  cases hr : s.tapRefused code with
  | false =>
    rw [hr] at hu
    rw [if_neg Bool.false_ne_true] at hu
    subst hu
    exact ⟨hai, fun o ho => hal o (by simpa using ho), fun h => absurd h (by decide), fun _ => ⟨haf, hab⟩, haw.onlyRegs⟩
  | true =>
    rw [hr, if_pos rfl] at hu
    have hur : u.reg Reg.TMX_STATUS = setBit (setFld (a.reg Reg.TMX_STATUS) 16 8 (min 255 (s.rf Reg.TMX_STATUS 16 8 + 1))) 8 true := by
      rw [hu, reg_setRb, if_pos rfl, reg_setRf, if_pos rfl, State.rf, haf]
      rfl
    have hul : Leaves (· ≠ Reg.TMX_STATUS) a u := by
      rw [hu]
      exact (leaves_setRf (by simp)).trans (leaves_setRb (by simp))
    have huw : Within 0x8 a u := hu ▸ (within_setRb _ _ _ _).after (by decide) (within_setRf _ _ _ _ _)
    refine ⟨?_, fun o ho => (hal.trans hul) o (by simpa using ho), fun _ => ⟨?_, ?_⟩, fun h => absurd h (by decide),
      (huw.after (by decide) haw).onlyRegs⟩
    · rw [State.tapInstr, State.rf, hur, fld_setBit_ne (by decide) (.inl (by decide)), fld_setFld_ne (by decide) (.inl (by decide)), hai]
    · rw [State.rf, hur, fld_setBit_ne (by decide) (.inr (by decide)), fld_setFld (by decide), Nat.mod_eq_of_lt (b := 2 ^ 8) (by omega)]
    · rw [State.rb, hur, bit_setBit (by decide)]

/-- What the cycles in Run-Test/Idle give at the AC drive cells. -/
def State.acOut (s : State) (idle : Nat) : List Output :=
  if idle = 0 ∨ s.tapRefused s.tapInstr = true ∨ s.tapInstr ≠ 3 ∧ s.tapInstr ≠ 4 then []
  else [.acTest s.acCells (if s.tapInstr = 3 then 2 else idle + idle % 2)]

theorem acRun_eq : s.acRun idle = { s with out := s.acOut idle ++ s.out } := by
  unfold State.acRun State.acOut
  by_cases h : idle = 0 ∨ s.tapRefused s.tapInstr = true
  · rw [if_pos (by simpa using h), if_pos (h.elim .inl fun h => .inr (.inl h))]
    rfl
  · rw [if_neg (by simpa using h)]
    by_cases h3 : s.tapInstr = 3
    · rw [if_pos h3, if_neg (by rintro (c | c | c); exacts [h (.inl c), h (.inr c), c.1 h3]), if_pos h3]
      rfl
    · rw [if_neg h3]
      by_cases h4 : s.tapInstr = 4
      · rw [if_pos h4, if_neg (by rintro (c | c | c); exacts [h (.inl c), h (.inr c), c.2 h4]), if_neg h3]
        rfl
      · rw [if_neg h4, if_pos (.inr (.inr ⟨h3, h4⟩))]
        rfl

end Instruction

/-! ### The boundary register -/

section Boundary
variable {balls shifted : BitVec 298} {i : Nat}

/-- A number that is given by its bits. -/
theorem testBit_sum {f : Nat → Bool} (n : Nat) : (List.range n).foldl (fun a i => a + 2 ^ i * (f i).toNat) 0 < 2 ^ n ∧
    ∀ i < n, ((List.range n).foldl (fun a i => a + 2 ^ i * (f i).toNat) 0).testBit i = f i := by
  induction n with
  | zero => exact ⟨Nat.one_pos, fun i hi => absurd hi (Nat.not_lt_zero i)⟩
  | succ n ih =>
    obtain ⟨hlt, hbits⟩ := ih
    rw [List.range_succ, List.foldl_append, List.foldl_cons, List.foldl_nil]
    generalize (List.range n).foldl (fun a i => a + 2 ^ i * (f i).toNat) 0 = a at hlt hbits ⊢
    refine ⟨?_, fun i hi => ?_⟩
    · have hb : 2 ^ n * (f n).toNat ≤ 2 ^ n * 1 := Nat.mul_le_mul_left _ (Bool.toNat_le _)
      rw [Nat.pow_succ]
      omega
    · rw [Nat.add_comm, Nat.testBit_two_pow_mul_add _ hlt]
      by_cases h : i < n
      · rw [if_pos h, hbits i h]
      · have he : i = n := by omega
        subst he
        rw [if_neg h, Nat.sub_self]
        cases f i <;> rfl

/-- The bit that Capture-DR loads into cell `i`. -/
def State.captured (s : State) (balls : BitVec 298) (i : Nat) : Bool :=
  match boundaryCells.getD i (.refclk, .observe) with
  | (sig, .output _) => (s.functionLevel sig).getD (balls.getLsbD i)
  | _ => balls.getLsbD i

theorem boundaryCapture_bit (hi : i < 298) : (s.boundaryCapture balls).getLsbD i = s.captured balls i := by
  have h := (testBit_sum (f := s.captured balls) 298).2 i hi
  refine Eq.trans ?_ h
  unfold State.boundaryCapture
  rw [BitVec.getLsbD_ofNat, decide_eq_true hi, Bool.true_and]
  rfl

theorem boundaryCapture_input {sig : BSig} (hi : i < 298) (hc : boundaryCells.getD i (.refclk, .observe) = (sig, .input)) :
    (s.boundaryCapture balls).getLsbD i = balls.getLsbD i := by
  rw [boundaryCapture_bit hi, State.captured, hc]

theorem modClkCell (n : Fin 12) : boundaryCells.getD (96 + n) (.refclk, .observe) = (.modClk n, .output 108) := by
  revert n
  decide

/-- Under EXTEST an output cell drives its level where its control cell is set. -/
theorem ballLevel_extest {n : Fin 12} (hi : s.tapInstr = 0) (hb : s.rb Reg.TMX_CTRL 0 = true) (hc : s.tap.update.getLsbD 108 = true) :
    s.ballLevel (96 + n) = some (s.tap.update.getLsbD (96 + n)) := by
  have hbd : s.boundary = true := by
    have hi' : s.rf Reg.TMX_STATUS 0 8 = 0 := hi
    unfold State.boundary
    rw [hi', hb]
    rfl
  unfold State.ballLevel State.cellLevel
  rw [if_pos hbd, modClkCell]
  dsimp only [State.gatedLevel]
  rw [hi, if_neg (by decide), if_pos hc]

end Boundary

/-! ### JTAG_INSTRUCTION -/

section Scan
variable {balls shifted : BitVec 298} {code idle : Nat}

theorem dataScan_boundary (h : s.dataReg = .boundary) : s.dataScan balls shifted =
    { s with out := .jtag (s.boundaryCapture balls).toNat :: s.out, tap := { s.tap with update := shifted } } := by
  unfold State.dataScan
  rw [h]
  dsimp only
  rw [emit_jtag]

theorem dataScan_idcode (h : s.dataReg = .idcode) : s.dataScan balls shifted = { s with out := .jtag 0x29840D4F :: s.out } := by
  unfold State.dataScan
  rw [h]
  exact emit_jtag

theorem dataScan_bypass (h : s.dataReg = .bypass) :
    s.dataScan balls shifted = { s with out := .jtag (2 * shifted.toNat % 2 ^ 298) :: s.out } := by
  unfold State.dataScan
  rw [h]
  exact emit_jtag

theorem dataScan_regs : (s.dataScan balls shifted).regs = s.regs := by
  unfold State.dataScan
  split
  · dsimp only
    rw [emit_jtag]
  · rw [emit_jtag]
  · rw [emit_jtag]
  · rfl

/-- The state that the instruction scan finds: the data scan, if any, has been made. -/
def State.scanned (s : State) (scan : Option (BitVec 298 × BitVec 298)) : State :=
  match scan with
  | some (balls, shifted) => s.dataScan balls shifted
  | none => s

theorem scanned_regs {scan : Option (BitVec 298 × BitVec 298)} : (s.scanned scan).regs = s.regs := by
  cases scan with
  | none => rfl
  | some e => exact dataScan_regs

/-- What JTAG_INSTRUCTION does after the data scan. -/
theorem jtagScan_spec {scan : Option (BitVec 298 × BitVec 298)} {c : BitVec 8} (hx : x = s.scanned scan)
    (hu : u = s.jtagScan ⟨c, scan, idle⟩) : u.tapInstr = c.toNat ∧ AllRegsKept s u [Reg.TMX_STATUS] ∧
    (s.tapRefused c.toNat = true →
      u.rf Reg.TMX_STATUS 16 8 = min 255 (s.rf Reg.TMX_STATUS 16 8 + 1) ∧ u.rb Reg.TMX_STATUS 8 = true) ∧
    (s.tapRefused c.toNat = false →
      u.rf Reg.TMX_STATUS 16 8 = s.rf Reg.TMX_STATUS 16 8 ∧ u.rb Reg.TMX_STATUS 8 = s.rb Reg.TMX_STATUS 8) ∧
    u = { x with regs := u.regs, out := .jtag 1 :: (x.acOut idle ++ x.out) } := by
  obtain ⟨y, hy⟩ : ∃ y : State, y = { x with out := .jtag 1 :: (x.acOut idle ++ x.out) } := ⟨_, rfl⟩
  have he : u = y.updateIr c.toNat := by
    have h : u = (((s.scanned scan).acRun idle).emit (.jtag 1)).updateIr c.toNat := by
      rw [hu]
      cases scan <;> rfl
    rw [h, ← hx, acRun_eq, emit_jtag, hy]
  have hyr : y.regs = s.regs := by rw [hy, ← scanned_regs (s := s) (scan := scan), ← hx]
  have hyl : Leaves (fun _ => True) s y := .of_regs hyr
  obtain ⟨h1, h2, h3, h4, h5⟩ := updateIr_spec c.isLt he
  rw [tapRefused_congr (hyl _ trivial), hyl.rf trivial] at h3 h4
  rw [hyl.rb trivial] at h4
  refine ⟨h1, fun o ho => (h2 o ho).trans (hyl o trivial), h3, h4, ?_⟩
  have h6 : u = { y with regs := u.regs } := h5
  rw [hy] at h6
  exact h6

/-- The AC test cycles, by the instruction that was current. -/
theorem acOut_spec (hg : x.regs = s.regs) (hu : u.tap = x.tap) :
    (idle = 0 ∨ s.tapRefused s.tapInstr = true ∨ s.tapInstr ≠ 3 ∧ s.tapInstr ≠ 4 → x.acOut idle = []) ∧
    (idle ≠ 0 → s.tapRefused s.tapInstr = false → s.tapInstr = 3 ∨ s.tapInstr = 4 →
      x.acOut idle = [.acTest u.acCells (if s.tapInstr = 3 then 2 else idle + idle % 2)]) := by
  have hl : Leaves (fun _ => True) s x := .of_regs hg
  have hi : x.tapInstr = s.tapInstr := hl.rf trivial 0 8
  have hr : x.tapRefused s.tapInstr = s.tapRefused s.tapInstr := tapRefused_congr (hl _ trivial)
  have hc : u.acCells = x.acCells := by
    rw [State.acCells, hu]
    rfl
  unfold State.acOut
  rw [hi, hr, hc]
  refine ⟨fun h => if_pos h, fun h0 hf h34 => if_neg ?_⟩
  rintro (h | h | h)
  · exact h0 h
  · rw [hf] at h
    exact Bool.false_ne_true h
  · exact h34.elim h.1 h.2

theorem dataReg_idle (h : s.dataReg = .idcode ∨ s.dataReg = .bypass) :
    s.tapRefused s.tapInstr = true ∨ s.tapInstr ≠ 3 ∧ s.tapInstr ≠ 4 := by
  by_cases hr : s.tapRefused s.tapInstr = true
  · exact .inl hr
  · refine .inr ⟨fun h3 => ?_, fun h4 => ?_⟩
    · have hb : s.dataReg = .boundary := by
        unfold State.dataReg
        dsimp only
        rw [if_neg hr, h3]
        rfl
      rw [hb] at h
      exact absurd h (by decide)
    · have hb : s.dataReg = .boundary := by
        unfold State.dataReg
        dsimp only
        rw [if_neg hr, h4]
        rfl
      rw [hb] at h
      exact absurd h (by decide)

end Scan

/-! ### TMX_ACCESS -/

section Access
variable {w : BitVec 48} {o : Nat}

theorem tapAccess_other (h : s.tapInstr ≠ 0x10) : s.tapAccess w = s := by
  unfold State.tapAccess
  rw [if_neg (by simp [h]), if_neg h]

theorem refused_tmx : s.tapRefused 0x10 = !s.rb Reg.TMX_CTRL 1 := by
  unfold State.tapRefused needsBscan
  rfl

theorem tapAccess_bypass (h : s.tapInstr = 0x10) (hr : s.rb Reg.TMX_CTRL 1 = false) :
    s.tapAccess w = { s with out := .jtag (2 * w.toNat % 2 ^ 48) :: s.out } := by
  unfold State.tapAccess
  rw [refused_tmx, hr, if_neg (by simp), if_pos h]
  exact emit_jtag

/-- What the port gives of the access before. -/
def State.tapOut (s : State) : State := { s with out := .jtag (s.tap.data.toNat + 2 ^ 47 * s.tap.err.toNat) :: s.out }

theorem tapAccess_performs (h : s.tapInstr = 0x10) (hr : s.rb Reg.TMX_CTRL 1 = true) (ho : w.toNat / 2 ^ 32 % 2 ^ 14 = o) {p : State × TapResult}
    (hp : s.tapOut.tapPerform (w.getLsbD 46) o (BitVec.ofNat 32 w.toNat) = p) :
    s.tapAccess w = { p.1 with tap := { s.tap with data := p.2.data, err := p.2.err } } := by
  unfold State.tapAccess
  rw [refused_tmx, hr, if_pos (by rw [h]; rfl)]
  dsimp only
  rw [emit_jtag, Nat.shiftRight_eq_div_pow, ho, ← State.tapOut, hp]
  rfl

theorem tmxRow (ho : o ∈ [0, 1, 4, 5, 6, 7]) : ∃ r, regRow (0x1A0000 + 4 * o) = some r ∧ (o ≠ 1 → r.lock = some 2) := by
  simp only [List.mem_cons, List.not_mem_nil, or_false] at ho
  rcases ho with rfl | rfl | rfl | rfl | rfl | rfl <;> exact ⟨_, rfl, by decide⟩

theorem tmxRow_none (ho : o ∈ [2, 3] ∨ 8 ≤ o) (h : o < 0x1000) : regRow (0x1A0000 + 4 * o) = none := by
  have hu : (0x1A0000 + 4 * o) / 0x10000 = 26 := by omega
  have hr : ∀ r ∈ regRowsTMX, r.holds (0x1A0000 + 4 * o) = false := by
    simp only [List.mem_cons, List.not_mem_nil, or_false] at ho
    intro r hm
    simp only [regRowsTMX, List.mem_cons, List.not_mem_nil, or_false] at hm
    rcases hm with rfl | rfl | rfl <;> simp [RegRow.holds] <;> omega
  unfold regRow
  rw [hu]
  exact List.find?_eq_none.2 fun r hm => by rw [hr r hm]; decide

theorem tapOut_leaves : Leaves (fun _ => True) s s.tapOut := .of_regs rfl

theorem tapPerform_read {v : Word} (ho : o ∈ [0, 1, 4, 5, 6, 7]) : s.tapPerform false o v = (s, { data := s.reg (0x1A0000 + 4 * o) }) := by
  obtain ⟨r, hr, -⟩ := tmxRow ho
  have hlt : o < 0x1000 := by
    simp only [List.mem_cons, List.not_mem_nil, or_false] at ho
    omega
  unfold State.tapPerform
  dsimp only
  rw [if_pos hlt, hr]
  rfl

/-- An access in error is flagged and discarded. -/
theorem tapPerform_error {write : Bool} {v : Word}
    (h : o ∈ [2, 3] ∨ 8 ≤ o ∨ (write = true ∧ s.rb Reg.GLB_LOCK 2 = true ∧ o ∈ [0, 4, 5, 6, 7])) :
    s.tapPerform write o v = (s.setRb Reg.TMX_STATUS 9 true, { err := true }) := by
  unfold State.tapPerform
  dsimp only
  by_cases hn : o ∈ [2, 3] ∨ 8 ≤ o
  · have hrow : (if o < 0x1000 then regRow (0x1A0000 + 4 * o) else none) = none := by
      split
      · next hlt => exact tmxRow_none hn hlt
      · rfl
    rw [hrow]
  · obtain ⟨hw, hlock, ho⟩ := (or_assoc.2 h).resolve_left hn
    have ho6 : o ∈ [0, 1, 4, 5, 6, 7] := by
      simp only [List.mem_cons, List.not_mem_nil, or_false] at ho ⊢
      omega
    obtain ⟨r, hr, hl⟩ := tmxRow ho6
    have hlt : o < 0x1000 ∧ o ≠ 1 := by
      simp only [List.mem_cons, List.not_mem_nil, or_false] at ho
      omega
    rw [if_pos hlt.1, hr]
    dsimp only
    rw [hw, if_neg (by decide), hl hlt.2]
    exact if_pos (by rw [Bool.or_eq_true]; exact .inl hlock)

theorem tapPerform_write {g : Fin 4} {v : Word} (hlock : s.rb Reg.GLB_LOCK 2 = false) (hv : fld v 0 4 = 1) :
    s.tapPerform true (4 + g) v =
      (s.setReg (Reg.TMX_OBS_SEL g) (merge 0x1F0F v (s.reg (Reg.TMX_OBS_SEL g))), {}) := by
  have hoff : 0x1A0000 + 4 * (4 + g.val) = Reg.TMX_OBS_SEL g := by unfold Reg.TMX_OBS_SEL; omega
  have hrow : regRow (Reg.TMX_OBS_SEL g) = some ⟨0x1A0010, 0x4, 4, 0x4, 1, 0x0, 0x1F0F, 0x0, 0x0, 0x0, .single, some 2⟩ := by
    revert g
    decide
  have hbad : tmxRefuses (Reg.TMX_OBS_SEL g) v = false := by
    unfold tmxRefuses obsRefused
    rw [hv]
    simp
  have hne : Reg.TMX_OBS_SEL g ≠ Reg.TMX_STATUS := by unfold Reg.TMX_OBS_SEL Reg.TMX_STATUS; omega
  have hw : s.reg (Reg.TMX_OBS_SEL g) &&& ~~~ (v &&& 0) = s.reg (Reg.TMX_OBS_SEL g) := by
    simpa using BitVec.and_allOnes (x := s.reg (Reg.TMX_OBS_SEL g))
  unfold State.tapPerform
  dsimp only
  rw [hoff, if_pos (by omega), hrow]
  dsimp only
  rw [if_neg (by decide), if_neg (by rw [hbad, Bool.or_false]; exact ne_true_of_eq_false hlock), hw, State.tmxHook, if_neg (by simp [hne])]

end Access

/-- A scan of the boundary register: the levels at the balls, and what its cells then drive. -/
theorem boundaryScan {balls shifted : BitVec 298} {c : BitVec 8} {ac : List Output} (hx : x = s.dataScan balls shifted) (hd : s.dataReg = .boundary)
    (hi : u.tapInstr = c.toNat) (hk : AllRegsKept s u [Reg.TMX_STATUS])
    (hu : u = { x with regs := u.regs, out := .jtag 1 :: (ac ++ x.out) }) :
    u.tap = { s.tap with update := shifted } ∧
      u.out = .jtag 1 :: (ac ++ .jtag (s.boundaryCapture balls).toNat :: s.out) ∧
      (∀ (i : Fin 298) (sig : BSig), boundaryCells.getD i (.refclk, .observe) = (sig, .input) →
        (s.boundaryCapture balls).getLsbD i = balls.getLsbD i) ∧
      ∀ (n : Fin 12) (l : Bool), c = 0 → s.rb Reg.TMX_CTRL 0 = true → shifted.getLsbD 108 = true → l = shifted.getLsbD (96 + n) →
        u.ballLevel (96 + n) = some l := by
  rw [dataScan_boundary hd] at hx
  have htap : u.tap = { s.tap with update := shifted } := (congrArg State.tap hu).trans (congrArg State.tap hx)
  refine ⟨htap, ?_, fun i sig h => boundaryCapture_input i.isLt h, fun n l hc hb h108 hl => ?_⟩
  · rw [congrArg State.out hu, hx]
  · rw [ballLevel_extest (by rw [hi, hc]; rfl) (by rw [State.rb, hk _ (by decide)]; exact hb) (by rw [htap]; exact h108), htap, hl]

/-- A scan that reaches no boundary register gives its bits and no AC test cycles. -/
theorem otherScan {bits idle : Nat} (hx : x = { s with out := .jtag bits :: s.out }) (hd : s.dataReg = .idcode ∨ s.dataReg = .bypass)
    (hu : u = { x with regs := u.regs, out := .jtag 1 :: (x.acOut idle ++ x.out) }) :
    u.tap = s.tap ∧ u.out = .jtag 1 :: .jtag bits :: s.out := by
  have ht : u.tap = x.tap := by rw [hu]
  have hac : x.acOut idle = [] := (acOut_spec (s := s) (by rw [hx]) ht).1 (.inr (dataReg_idle hd))
  refine ⟨by rw [ht, hx], ?_⟩
  rw [congrArg State.out hu, hac, hx]
  rfl

/-- Settles O60. -/
theorem testPort : Obligations.TestPort := by
  intro s
  refine ⟨fun code scan idle => ?_, fun w => ⟨fun h => ?_, fun h hr => ?_, fun h hr => ⟨fun o ho hw hwo => ?_, fun g hw hwo hl hv => ?_,
    fun o hwo ho => ?_⟩⟩, ?_⟩
  · obtain ⟨x, hx⟩ : ∃ x, x = s.scanned scan := ⟨_, rfl⟩
    obtain ⟨u, hu⟩ : ∃ u, u = s.jtagScan ⟨code, scan, idle⟩ := ⟨_, rfl⟩
    obtain ⟨hi, hk, hr, hn, he⟩ := jtagScan_spec hx hu
    have hg : x.regs = s.regs := by rw [hx, scanned_regs]
    obtain ⟨ha, hb⟩ := acOut_spec (u := u) (idle := idle) hg (by rw [he])
    refine ⟨u, x.acOut idle, congrArg Host.Outcome.next hu.symm, hi, hk, ha, hb, fun h => ?_, fun balls shifted h => ?_, hr, hn⟩
    · subst h
      rw [State.scanned] at hx
      rw [← hx]
      exact he
    · subst h
      rw [State.scanned] at hx
      exact ⟨fun hd => boundaryScan hx hd hi hk he, fun hd => otherScan (hx.trans (dataScan_idcode hd)) (.inl hd) he,
        fun hd => otherScan (hx.trans (dataScan_bypass hd)) (.inr hd) he⟩
  · exact congrArg Host.Outcome.next (tapAccess_other h)
  · exact congrArg Host.Outcome.next (tapAccess_bypass h hr)
  · refine congrArg Host.Outcome.next ?_
    rw [tapAccess_performs h hr hwo (by rw [hw, tapPerform_read ho])]
    rfl
  · have hp := tapPerform_write (s := s.tapOut) (g := g) (v := BitVec.ofNat 32 w.toNat) hl hv
    refine ⟨_, congrArg Host.Outcome.next (tapAccess_performs h hr hwo (by rw [hw, hp])), rfl, reg_setReg_self, fun o ho => ?_⟩
    exact reg_setReg_ne (by simpa using ho)
  · have hp := tapPerform_error (s := s.tapOut) (write := w.getLsbD 46) (v := BitVec.ofNat 32 w.toNat) ho
    refine ⟨_, congrArg Host.Outcome.next (tapAccess_performs h hr hwo hp), rfl, rb_setRb_self (by decide), fun o ho => ?_⟩
    exact reg_setReg_ne (by simpa using ho)
  · refine ⟨_, rfl, ?_, rfl, fun o ho => reg_setReg_ne (by simpa using ho)⟩
    refine Eq.trans (b := (s.setRf Reg.TMX_STATUS 0 8 1).tapInstr) rfl ?_
    rw [State.tapInstr, State.rf, reg_setRf, if_pos rfl, fld_setFld (by decide)]
    rfl

end Sys2Proof.Machine

/-! The answer check: batches, the partner's messages and the classes of keys (R427-R429). -/

namespace Sys2Proof.Machine

-- One declaration after another: side by side, their threads' stacks pass the memory limit of a check.
set_option Elab.async false

variable {s t u x : State}

/-! ### The key of the answer check -/

/-- The registers that a use of a key leaves. -/
abbrev OffKeyUse (o : Nat) : Prop := Quiet o ∧ ¬ (0x170000 ≤ o ∧ o < 0x180000) ∧ o ≠ Reg.IMG_CACHE

theorem leaves_tagCheck {i : Nat} : Leaves OffKeyUse s (s.tagCheck i) := by
  unfold State.tagCheck
  dsimp only
  split
  · refine .trans ?_ (leaves_flagRaise (fun _ h => h.1) (fun h => h.2.1 (by decide)) (by decide))
    refine .trans ?_ (leaves_bump fun h => h.2.1 (by decide))
    refine .trans ?_ ((leaves_dropCache i).mono fun _ h => h.2.2)
    exact .of_regs rfl
  · exact .refl s

theorem leaves_keyMiss : Leaves OffKeyUse s s.keyMiss := leaves_bump fun h => h.2.1 (by decide)

theorem leaves_keyUse {i : Nat} : Leaves OffKeyUse s (s.keyFail i) := by
  unfold State.keyFail
  dsimp only
  split
  · exact leaves_tagCheck.trans leaves_keyMiss
  · exact leaves_tagCheck

theorem leaves_ansUse : Leaves OffKeyUse s s.ansUse := by
  unfold State.ansUse
  split
  · exact leaves_keyUse
  · exact .refl s

/-- Without an upset the tag of a slot is found good. -/
theorem tagCheck_good {i : Nat} (h : (s.slot i).upset = false) : s.tagCheck i = s := by
  unfold State.tagCheck
  dsimp only
  rw [h, Bool.and_false]
  exact if_neg Bool.false_ne_true

theorem ansUse_good (h : (s.slot (s.rf Reg.RED_KEY 0 8)).upset = false) : Within 0x8 s s.ansUse := by
  unfold State.ansUse State.keyFail
  dsimp only
  rw [tagCheck_good h]
  split
  · split
    · exact within_bump _ _
    · exact .refl s
  · exact .refl s

theorem ansKey_congr (hk : t.keys = s.keys) (hr : t.rtc = s.rtc)
    (h : Leaves (fun o => o = Reg.RED_KEY ∨ o = Reg.PWR_DOMAIN_STATUS) s t) : t.ansKey = s.ansKey := by
  have hs : ∀ i, t.slot i = s.slot i := fun i => by rw [State.slot, hk]; rfl
  unfold State.ansKey State.keyFor State.slotLocked
  rw [h.rf (.inl rfl), hr]
  dsimp only
  rw [hs, domOn_congr (h _ (.inr rfl))]

/-! ### ANSWER_SEND -/

section Send

/-- The batch is taken, the sequence number moves on and STATUS shows whether the key serves. -/
def State.batchSent (s : State) (nokey : Bool) : State :=
  ({ s with
    answers := { s.answers with
      batch := s.answers.batch.drop s.batchMax, since := s.now, lastSent := s.now, seq := (s.answers.seq + 1) % 2 ^ 32 } }).setRb
    Reg.RED_STATUS 6 nokey

theorem leaves_batchSent {b : Bool} : Leaves (· ≠ Reg.RED_STATUS) s (s.batchSent b) := leaves_setRb fun h => h rfl

theorem batchSent_status {b : Bool} : (s.batchSent b).rb Reg.RED_STATUS 6 = b := rb_setRb_self (by decide)

/-- The message of a batch leaves at the ports, or on a link. -/
theorem answerSend_eq (h : s.answerDue = true) (hx : x = s.ansUse.batchSent s.ansKey.isNone) : ∃ f payload,
    s.answerSend = if x.rb Reg.RED_CTRL 3 = true then x.sendPorts (x.rf Reg.RED_CTRL 8 4) 1 f
      else x.fjlSend (x.rf Reg.RED_CTRL 4 3) 4 0 payload := by
  unfold State.answerSend
  rw [if_pos h, hx]
  exact ⟨_, _, rfl⟩

/-- What follows the batch leaves the answer check and STATUS as they are. -/
theorem answerSent {f payload : List Byte} (hx : x = s.ansUse.batchSent s.ansKey.isNone)
    (hu : u = if x.rb Reg.RED_CTRL 3 = true then x.sendPorts (x.rf Reg.RED_CTRL 8 4) 1 f
      else x.fjlSend (x.rf Reg.RED_CTRL 4 3) 4 0 payload) : u.answers = x.answers ∧ u.reg Reg.RED_STATUS = x.reg Reg.RED_STATUS := by
  by_cases hc : x.rb Reg.RED_CTRL 3 = true
  · rw [hu, if_pos hc]
    exact ⟨(within_sendPorts x _ _ _).answers rfl, Leaves.of_regs (P := fun _ => True) ((within_sendPorts x _ _ _).regs rfl) _ trivial⟩
  · rw [hu, if_neg hc]
    exact ⟨(within_fjlSend x _ _ _ _).answers rfl, leaves_fjlSend _ (by decide)⟩

theorem answers_batchSent {b : Bool} : (s.batchSent b).answers = { s.answers with
    batch := s.answers.batch.drop s.batchMax, since := s.now, lastSent := s.now, seq := (s.answers.seq + 1) % 2 ^ 32 } := rfl

theorem sendNow_out {k : Nat} {p : Packet} (hb : s.boundary = false) : ∃ seq bs, (s.sendNow k p).out = .fjl k p.kind seq bs :: s.out := by
  obtain ⟨y, hy⟩ : ∃ y : State, y = s.setLink k { s.link k with
      sent := (s.link k).sent ++ [p]
      credits := (s.link k).credits - 1
      txSeq := ((s.link k).txSeq + 1) % 65536
      since := if (s.link k).sent.isEmpty then s.now else (s.link k).since
      tries := (s.link k).tries ++ [0] } := ⟨_, rfl⟩
  have he : s.sendNow k p = y.putPacket k p (s.link k).txSeq := by rw [hy]; rfl
  have hyb : y.boundary = false := by rw [hy]; exact hb
  have hyo : y.out = s.out := by rw [hy]; rfl
  have ho := (putPacket_spec he).2.2 hyb
  rw [hyo] at ho
  exact ⟨_, _, ho⟩

/-- A packet on a link that is UP and holds a credit goes out at once. -/
theorem fjlSend_now {q k kind hops : Nat} {payload : List Byte} (hk : s.linkTo q = some k) (hup : s.linkUp q = true)
    (hw : (s.link k).waiting = []) (hc : (s.link k).credits ≠ 0) (hb : s.boundary = false) :
    ∃ seq bs, (s.fjlSend q kind hops payload).out = .fjl k kind seq bs :: s.out := by
  unfold State.linkUp at hup
  rw [hk] at hup
  unfold State.fjlSend
  rw [hk]
  dsimp only at hup ⊢
  rw [if_pos hup, hw, if_pos (by simpa using hc)]
  exact sendNow_out hb

/-- A due batch leaves; on a link that is UP, with its packet. -/
theorem answerSend_spec (h : s.answerDue = true) (hu : u = s.answerSend) : u.answers.batch = s.answers.batch.drop s.batchMax ∧
    u.answers.seq = (s.answers.seq + 1) % 2 ^ 32 ∧ u.answers.lastSent = s.now ∧ u.rb Reg.RED_STATUS 6 = s.ansKey.isNone ∧
    (∀ k, s.rb Reg.RED_CTRL 3 = false → s.linkTo (s.rf Reg.RED_CTRL 4 3) = some k → s.linkUp (s.rf Reg.RED_CTRL 4 3) = true →
      (s.link k).waiting = [] → (s.link k).credits ≠ 0 → s.boundary = false → (s.slot (s.rf Reg.RED_KEY 0 8)).upset = false →
      ∃ seq bs, u.out = .fjl k 4 seq bs :: s.out) := by
  obtain ⟨v, hv⟩ : ∃ v, v = s.ansUse := ⟨_, rfl⟩
  obtain ⟨x, hx⟩ : ∃ x, x = s.ansUse.batchSent s.ansKey.isNone := ⟨_, rfl⟩
  obtain ⟨f, payload, he⟩ := answerSend_eq h hx
  rw [← hu] at he
  obtain ⟨ha, hs⟩ := answerSent hx he
  rw [← hv] at hx
  have hva : v.answers = s.answers := hv ▸ (within_ansUse s).answers rfl
  have hvn : v.now = s.now := hv ▸ (within_ansUse s).now rfl
  have hvl : Leaves OffKeyUse s v := hv ▸ leaves_ansUse
  have hvm : v.batchMax = s.batchMax := by
    rw [State.batchMax, hvl.rb (by decide)]
    rfl
  have hxl : Leaves (fun o => OffKeyUse o ∧ o ≠ Reg.RED_STATUS) s x :=
    (hvl.mono fun _ h => h.1).trans (hx ▸ leaves_batchSent.mono fun _ h => h.2)
  rw [hx, answers_batchSent, hva, hvn, hvm] at ha
  refine ⟨by rw [ha], by rw [ha], by rw [ha], ?_, fun k h3 hk hup hw hc hb hup' => ?_⟩
  · rw [State.rb, hs, hx]
    exact batchSent_status
  · have hq : x.rf Reg.RED_CTRL 4 3 = s.rf Reg.RED_CTRL 4 3 := hxl.rf (by decide) 4 3
    have hvw : Within 0x8 s v := hv ▸ ansUse_good hup'
    have hlinks : x.links = s.links := by
      rw [hx]
      exact hvw.links rfl
    have hout : x.out = s.out := by
      rw [hx]
      exact hvw.out rfl
    rw [if_neg (by rw [hxl.rb (by decide), h3]; decide), hq] at he
    have hto : x.linkTo (s.rf Reg.RED_CTRL 4 3) = some k := by
      rw [← hk]
      unfold State.linkTo State.boardPos
      rw [hxl.rf (by decide)]
    have hxup : x.linkUp (s.rf Reg.RED_CTRL 4 3) = true := by
      rw [← hup]
      have hk7 := lt_of_linkTo hk
      unfold State.linkUp
      rw [hto, hk]
      dsimp only
      rw [domOn_congr (hxl _ (by decide)), State.linkState, hxl.rf ⟨⟨⟨by unfold Reg.FJL_L_STATUS; omega, by unfold Reg.FJL_L_STATUS; omega,
        by unfold Reg.FJL_L_STATUS; omega⟩, by unfold Reg.FJL_L_STATUS; omega, by unfold Reg.FJL_L_STATUS Reg.IMG_CACHE; omega⟩,
        by unfold Reg.FJL_L_STATUS Reg.RED_STATUS; omega⟩]
      rfl
    obtain ⟨seq, bs, ho⟩ := fjlSend_now (kind := 4) (hops := 0) (payload := payload) hto hxup (by rw [link_congr hlinks, hw])
      (by rwa [link_congr hlinks]) ((boundary_congr fun o ho => hxl o ⟨⟨by unfold Quiet; omega, by omega, by unfold Reg.IMG_CACHE; omega⟩,
        by unfold Reg.RED_STATUS; omega⟩).trans hb)
    exact ⟨seq, bs, by rw [he, ho, hout]⟩

end Send

/-! ### ANSWER_RECEIVE -/

section Receive
variable {m : List Byte} {e a : AnsEntry} {k : AnsKey}

/-- An accepted message is heard. -/
def State.partnerHeard (s : State) : State := ({ s with answers := { s.answers with heard := s.now } }).setRb Reg.RED_STATUS 5 true

theorem leaves_partnerHeard : Leaves (· ≠ Reg.RED_STATUS) s s.partnerHeard := leaves_setRb fun h => h rfl

theorem partnerHeard_status : s.partnerHeard.rb Reg.RED_STATUS 5 = true := rb_setRb_self (by decide)

theorem answers_partnerHeard : s.partnerHeard.answers = { s.answers with heard := s.now } := rfl

theorem ansKey_partnerHeard : s.partnerHeard.ansKey = s.ansKey := ansKey_congr rfl rfl (leaves_partnerHeard.mono fun o ho => by
  rintro rfl
  exact absurd ho (by decide))

theorem answerReceive_bad (hd : s.domOn pdSch = true) (h : s.answerOk m = false) : s.answerReceive m = s.bump (Reg.RED_CNT 7) := by
  unfold State.answerReceive
  rw [hd, h]
  rfl

/-- A message that is accepted: without a key it is counted, else its entries are compared. -/
theorem answerReceive_ok (hd : s.domOn pdSch = true) (h : s.answerOk m = true) (hx : x = s.partnerHeard) :
    s.answerReceive m = if octet m 5 % 2 = 1 then x.bump (Reg.RED_CNT 7)
      else if x.ansKey.isNone then x.ansUse.bump (Reg.RED_CNT 7)
      else if x.rb Reg.RED_CTRL 1 then (List.range (be m 6 2)).foldl (fun s i => s.ansNote false (msgEntry m i)) x
      else x := by
  unfold State.answerReceive
  rw [hd, h, hx]
  rfl

theorem answerReceive_nokey (hd : s.domOn pdSch = true) (h : s.answerOk m = true) (hm : octet m 5 % 2 = 1 ∨ s.ansKey = none)
    (hu : u = s.answerReceive m) : u.answers.heard = s.now ∧ u.rb Reg.RED_STATUS 5 = true ∧
    u.reg (Reg.RED_CNT 7) = satWord (s.reg (Reg.RED_CNT 7)) 1 ∧ u.answers.keys = s.answers.keys := by
  obtain ⟨x, hx⟩ : ∃ x, x = s.partnerHeard := ⟨_, rfl⟩
  have hxk : x.ansKey = s.ansKey := hx ▸ ansKey_partnerHeard
  obtain ⟨y, hya, hyl, hy⟩ : ∃ y, y.answers = x.answers ∧ Leaves OffKeyUse x y ∧ u = y.bump (Reg.RED_CNT 7) := by
    have he := answerReceive_ok hd h hx
    rw [← hu] at he
    by_cases ho : octet m 5 % 2 = 1
    · exact ⟨x, rfl, .refl x, he.trans (if_pos ho)⟩
    · rw [if_neg ho, hxk, hm.resolve_left ho] at he
      exact ⟨x.ansUse, (within_ansUse x).answers rfl, leaves_ansUse, he⟩
  have hua : u.answers = { s.answers with heard := s.now } := by rw [hy, (within_bump _ _).answers rfl, hya, hx, answers_partnerHeard]
  refine ⟨by rw [hua], ?_, ?_, by rw [hua]⟩
  · rw [hy, State.rb, reg_bump, if_neg (by decide), hyl _ (by decide), hx]
    exact partnerHeard_status
  · rw [hy, reg_bump, if_pos rfl, hyl _ (by decide), hx, leaves_partnerHeard _ (by decide)]

/-- The key of an entry leaves the keys that wait. -/
def State.keyTaken (s : State) (e : AnsEntry) : State := { s with answers := { s.answers with keys := s.answers.keys.filter (fun x => !x.holds e) } }

/-- The partner's decision completes a key that holds the own one. -/
theorem ansNote_decision (h3 : e.kind = 3) (hf : s.answers.keys.find? (fun k => k.holds e) = some k) (ha : k.ownFin = some a)
    (hr : k.ownRel = none) : s.ansNote false e = (s.keyTaken e).classDecision { k with peerFin := some e } a e := by
  have hh : k.holds e = true := List.find?_some (p := fun k : AnsKey => k.holds e) hf
  have hroll : k.roll = false := by
    unfold AnsKey.holds at hh
    rw [h3] at hh
    simpa using (show _ ∧ _ by simpa [and_assoc] using hh).1
  have ht : k.take false s.now e = { k with peerFin := some e } := by
    unfold AnsKey.take
    rw [h3]
    rfl
  unfold State.ansNote
  simp only [hf, Option.getD_some, ht, hr, ha, hroll]
  rfl

/-- The note of whether the instance's decisions differ. -/
def State.carryNoted (s : State) (l : List Nat) : State := { s with answers := { s.answers with carry := l } }

theorem carryNoted_regs {l : List Nat} : (s.carryNoted l).regs = s.regs := rfl
theorem carryNoted_keys {l : List Nat} : (s.carryNoted l).answers.keys = s.answers.keys := rfl
theorem carryNoted_heard {l : List Nat} : (s.carryNoted l).answers.heard = s.answers.heard := rfl

theorem classDecision_equal {b : AnsEntry} (h1 : a.d1 = b.d1) (h2 : a.d2 = b.d2) :
    ∃ l, s.classDecision k a b = (s.carryNoted l).bump (Reg.RED_CNT 0) := by
  unfold State.classDecision
  dsimp only
  exact ⟨_, if_pos (by rw [h1, h2]; simp)⟩

theorem classDecision_mismatch {b : AnsEntry} (h1 : a.d1 ≠ b.d1) (ha : a.flags % 2 = 0) (hb : b.flags % 2 = 0)
    (hr : s.relDiffers k.form k.seq = false) (hc : k.inst ∉ s.answers.carry) :
    ∃ l, s.classDecision k a b = (s.carryNoted l).mismatch 3 k.form k.inst k.seq := by
  unfold State.classDecision
  dsimp only
  refine ⟨_, (if_neg (by simp [h1])).trans ((if_neg (by simp [ha, hb])).trans ((if_neg ?_).trans (if_neg (by simpa using hc))))⟩
  exact ne_true_of_eq_false hr

/-- A mismatch as it is published. -/
def State.mismatchShown (s : State) (kind form inst seq : Nat) : State :=
  (((s.bump (Reg.RED_CNT 6)).setReg Reg.RED_MM_INFO (word (kind + 256 * form + 65536 * inst))).setReg
    Reg.RED_MM_SEQ32 (word seq)).publish Reg.RED_MM_STATUS

theorem mismatch_spec {kind form inst seq : Nat} (hu : u = s.mismatch kind form inst seq) :
    u.reg (Reg.RED_CNT 6) = satWord (s.reg (Reg.RED_CNT 6)) 1 ∧ u.reg Reg.RED_MM_INFO = word (kind + 256 * form + 65536 * inst) ∧
    u.reg Reg.RED_MM_SEQ32 = word seq ∧ u.rb Reg.RED_MM_STATUS 31 = true ∧ (s.rb Reg.RED_CTRL 2 = false → u.event 54 = true) := by
  obtain ⟨x, hx⟩ : ∃ x, x = s.mismatchShown kind form inst seq := ⟨_, rfl⟩
  have hpub : ∀ y : State, Leaves (· ≠ Reg.RED_MM_STATUS) y (y.publish Reg.RED_MM_STATUS) := fun y => leaves_publish (by simp)
  have he : u = if x.rb Reg.RED_CTRL 2 then x else x.flagRaise Reg.RED_STATUS 9 54 0 := by rw [hu, hx]; rfl
  have hul : Leaves (fun o => Quiet o ∧ o ≠ Reg.RED_STATUS) x u := by
    rw [he]
    exact .ite (.refl x) (leaves_flagRaise (fun _ h => h.1) (fun h => h.2 rfl) (by decide))
  have hxc : x.rb Reg.RED_CTRL 2 = s.rb Reg.RED_CTRL 2 := by
    rw [hx, State.mismatchShown, (hpub _).rb (by decide), State.rb, reg_setReg_ne (by decide), reg_setReg_ne (by decide), reg_bump, if_neg (by decide)]
    rfl
  refine ⟨?_, ?_, ?_, ?_, fun hc => ?_⟩
  · rw [hul _ (by decide), hx, State.mismatchShown, hpub _ _ (by decide), reg_setReg_ne (by decide), reg_setReg_ne (by decide), reg_bump, if_pos rfl]
  · rw [hul _ (by decide), hx, State.mismatchShown, hpub _ _ (by decide), reg_setReg_ne (by decide), reg_setReg_self]
  · rw [hul _ (by decide), hx, State.mismatchShown, hpub _ _ (by decide), reg_setReg_self]
  · rw [hul.rb (by decide), hx]
    exact rb_setRb_self (by decide)
  · rw [hxc, hc] at he
    rw [he]
    exact event_flagRaise (by decide)

end Receive

/-! ### Time-outs -/

theorem peerLost_spec (hd : s.domOn pdSch = true) (hp : s.rb Reg.RED_STATUS 5 = true)
    (ht : s.answers.heard + s.rf Reg.RED_PEER 0 16 * fsPerMs ≤ s.now) :
    s.peerLost = (s.setRb Reg.RED_STATUS 5 false).flagRaise Reg.RED_STATUS 10 55 0 := by
  unfold State.peerLost
  rw [hd, hp]
  exact if_pos (by simpa using ht)

theorem peerLost_none (h : s.rb Reg.RED_STATUS 5 = false ∨ s.now < s.answers.heard + s.rf Reg.RED_PEER 0 16 * fsPerMs) : s.peerLost = s := by
  unfold State.peerLost
  refine if_neg fun c => ?_
  simp only [Bool.and_eq_true, decide_eq_true_eq] at c
  obtain ⟨⟨-, c1⟩, c2⟩ := c
  rw [c1] at h
  exact h.elim (fun h => absurd h (by decide)) (fun h => by omega)

/-- Whether a key's own entry has waited too long for the partner's. -/
def AnsKey.expired (k : AnsKey) (wait now : Nat) : Bool :=
  (k.ownRel.isSome && k.peerRel.isNone && decide (k.relAt + wait ≤ now)) ||
    (k.ownFin.isSome && k.peerFin.isNone && decide (k.finAt + wait ≤ now))

theorem expired_iff {k : AnsKey} {wait now : Nat} : k.expired wait now = true ↔
    (k.ownRel ≠ none ∧ k.peerRel = none ∧ k.relAt + wait ≤ now) ∨ (k.ownFin ≠ none ∧ k.peerFin = none ∧ k.finAt + wait ≤ now) := by
  unfold AnsKey.expired
  simp [and_assoc, Option.isSome_iff_ne_none]

theorem awaitExpiry_spec {due : AnsKey → Bool} (hd : s.domOn pdSch = true)
    (hdue : ∀ k ∈ s.answers.keys, due k = k.expired (s.rf Reg.RED_PEER 16 16 * fsPerMs) s.now) (hu : u = s.awaitExpiry) :
    u.reg (Reg.RED_CNT 7) = satWord (s.reg (Reg.RED_CNT 7)) (s.answers.keys.filter due).length ∧
    u.answers.keys = s.answers.keys.filter (fun k => !due k) ∧ AllRegsKept s u [Reg.RED_CNT 7] := by
  obtain ⟨d, hde⟩ : ∃ d : AnsKey → Bool, d = fun k => k.expired (s.rf Reg.RED_PEER 16 16 * fsPerMs) s.now := ⟨_, rfl⟩
  have hf : s.answers.keys.filter due = s.answers.keys.filter d := List.filter_congr fun k hk => by rw [hdue k hk, hde]
  have hn : s.answers.keys.filter (fun k => !due k) = s.answers.keys.filter (fun k => !d k) :=
    List.filter_congr fun k hk => by rw [hdue k hk, hde]
  rw [hf, hn]
  have he : u = if (!s.domOn pdSch || decide ((s.answers.keys.filter d).length = 0)) = true then s
      else ({ s with answers := { s.answers with keys := s.answers.keys.filter (fun k => !d k) } }).bumpBy (Reg.RED_CNT 7)
        (s.answers.keys.filter d).length := by
    rw [hu, hde]
    unfold State.awaitExpiry
    dsimp only
    rfl
  rw [hd] at he
  by_cases h0 : (s.answers.keys.filter d).length = 0
  · rw [if_pos (by simp [h0])] at he
    rw [he, h0, satWord_zero]
    have hall : ∀ k ∈ s.answers.keys, ¬ d k = true := List.filter_eq_nil_iff.1 (List.length_eq_zero_iff.1 h0)
    exact ⟨rfl, (List.filter_eq_self.2 fun k hk => by simpa using hall k hk).symm, fun o _ => rfl⟩
  · rw [if_neg (by simpa using h0)] at he
    rw [he]
    exact ⟨by rw [reg_bumpBy, if_pos rfl]; rfl, rfl, fun o ho => by rw [reg_bumpBy, if_neg (by simpa using ho)]; rfl⟩

/-! ### A decision of the partner -/

section Decision
variable {m : List Byte} {e a : AnsEntry} {k : AnsKey}

/-- A message of the partner's decision alone ends in that decision's class. -/
theorem answerReceive_decision (hd : s.domOn pdSch = true) (h : s.answerOk m = true) (hm : octet m 5 % 2 = 0) (hk : s.ansKey ≠ none)
    (hc : s.rb Reg.RED_CTRL 1 = true) (h1 : be m 6 2 = 1) (he : e = msgEntry m 0) (h3 : e.kind = 3)
    (hf : s.answers.keys.find? (fun k => k.holds e) = some k) (ha : k.ownFin = some a) (hr : k.ownRel = none) :
    s.answerReceive m = (s.partnerHeard.keyTaken e).classDecision { k with peerFin := some e } a e := by
  obtain ⟨x, hx⟩ : ∃ x, x = s.partnerHeard := ⟨_, rfl⟩
  have hxk : x.ansKey = s.ansKey := hx ▸ ansKey_partnerHeard
  have hxc : x.rb Reg.RED_CTRL 1 = true := by rw [hx, leaves_partnerHeard.rb (by decide), hc]
  have hxf : x.answers.keys.find? (fun k => k.holds e) = some k := by
    rw [hx]
    exact hf
  rw [answerReceive_ok hd h hx, if_neg (by omega), hxk, if_neg (by simpa using hk), if_pos hxc, h1, List.range_one, List.foldl_cons, List.foldl_nil,
    ← he, ansNote_decision h3 hxf ha hr, hx]

theorem keyTaken_regs : (s.keyTaken e).regs = s.regs := rfl

theorem decision_equal (h1 : e.d1 = a.d1) (h2 : e.d2 = a.d2) (hx : x = s.partnerHeard) (hu : u = (x.keyTaken e).classDecision k a e) :
    u.answers.heard = s.now ∧ u.reg (Reg.RED_CNT 0) = satWord (s.reg (Reg.RED_CNT 0)) 1 ∧
    u.answers.keys = s.answers.keys.filter (fun k => !k.holds e) ∧ AllRegsKept s u [Reg.RED_STATUS, Reg.RED_CNT 0] := by
  obtain ⟨l, he⟩ := classDecision_equal (s := x.keyTaken e) (k := k) h1.symm h2.symm
  obtain ⟨y, hy⟩ : ∃ y, y = (x.keyTaken e).carryNoted l := ⟨_, rfl⟩
  rw [← hu, ← hy] at he
  have hyl : Leaves (· ≠ Reg.RED_STATUS) s y := by
    rw [hy, hx]
    exact leaves_partnerHeard.trans (.of_regs rfl)
  have hua : u.answers = y.answers := by rw [he, (within_bump _ _).answers rfl]
  refine ⟨?_, ?_, ?_, fun o ho => ?_⟩
  · rw [hua, hy, hx]
    rfl
  · rw [he, reg_bump, if_pos rfl, hyl _ (by decide)]
  · rw [hua, hy, hx]
    rfl
  · rw [he, reg_bump, if_neg fun c => ho (by simp [c]), hyl _ fun c => ho (by simp [c])]

theorem decision_mismatch (hh : k.holds e = true) (h1 : e.d1 ≠ a.d1) (hef : e.flags % 2 = 0) (haf : a.flags % 2 = 0)
    (hr : s.relDiffers e.form e.seq = false) (hc : e.inst ∉ s.answers.carry) (hx : x = s.partnerHeard)
    (hu : u = (x.keyTaken e).classDecision { k with peerFin := some e } a e) :
    u.reg (Reg.RED_CNT 6) = satWord (s.reg (Reg.RED_CNT 6)) 1 ∧
    u.reg Reg.RED_MM_INFO = word (3 + 256 * e.form + 65536 * e.inst) ∧ u.reg Reg.RED_MM_SEQ32 = word e.seq ∧
    u.rb Reg.RED_MM_STATUS 31 = true ∧ (s.rb Reg.RED_CTRL 2 = false → u.event 54 = true) ∧
    u.answers.keys = s.answers.keys.filter (fun k => !k.holds e) := by
  unfold AnsKey.holds at hh
  simp only [Bool.and_eq_true, decide_eq_true_eq] at hh
  obtain ⟨⟨⟨-, hform⟩, hinst⟩, hseq⟩ := hh
  have hrx : (x.keyTaken e).relDiffers k.form k.seq = false := by
    rw [hx, hform, hseq]
    exact hr
  have hcx : k.inst ∉ (x.keyTaken e).answers.carry := by
    rw [hx, hinst]
    exact hc
  obtain ⟨l, he⟩ := classDecision_mismatch (s := x.keyTaken e) (k := { k with peerFin := some e }) (Ne.symm h1) haf hef hrx hcx
  obtain ⟨y, hy⟩ : ∃ y, y = (x.keyTaken e).carryNoted l := ⟨_, rfl⟩
  rw [← hu, ← hy] at he
  dsimp only at he
  rw [hform, hinst, hseq] at he
  have hyl : Leaves (· ≠ Reg.RED_STATUS) s y := by
    rw [hy, hx]
    exact leaves_partnerHeard.trans (.of_regs rfl)
  obtain ⟨m1, m2, m3, m4, m5⟩ := mismatch_spec he
  refine ⟨by rw [m1, hyl _ (by decide)], m2, m3, m4, fun h => m5 (by rw [hyl.rb (by decide), h]), ?_⟩
  rw [he, (within_mismatch _ _ _ _ _).answers rfl, hy, hx]
  rfl

end Decision

/-- Settles O58: a message that is accepted is heard first; a decision's key is classified once both units' entries are there. -/
theorem answerCheck : Obligations.AnswerCheck := by
  intro s
  refine ⟨fun h => ⟨_, rfl, answerSend_spec h rfl⟩, fun h => ?_, fun m hd => ⟨fun h => ?_, fun h => ⟨fun hm => ?_, fun e a k hm hk hc h1 he h3 hf ha hr => ?_⟩⟩,
    fun hd hp ht => ?_, fun h => congrArg Host.Outcome.next (peerLost_none h), fun wait due hd hw hdue => ?_⟩
  · refine congrArg Host.Outcome.next ?_
    unfold State.answerSend
    rw [h]
    exact if_neg Bool.false_ne_true
  · refine ⟨_, congrArg Host.Outcome.next (answerReceive_bad hd h), by rw [reg_bump, if_pos rfl], fun o ho => ?_, (within_bump _ _).onlyRegs⟩
    rw [reg_bump, if_neg (by simpa using ho)]
  · exact ⟨_, rfl, answerReceive_nokey hd h hm rfl⟩
  · have hex : exec (.answerReceive m) s = .next _ := congrArg Host.Outcome.next (answerReceive_decision hd h hm hk hc h1 he h3 hf ha hr)
    exact ⟨fun e1 e2 => ⟨_, hex, decision_equal e1 e2 rfl rfl⟩,
      fun e1 ef af hrd hca => ⟨_, hex, decision_mismatch (List.find?_some (p := fun k : AnsKey => k.holds e) hf) e1 ef af hrd hca rfl rfl⟩⟩
  · refine ⟨_, congrArg Host.Outcome.next (peerLost_spec hd hp ht), ?_, flagRaise_flag (by decide) (by decide) (by decide), event_flagRaise (by decide),
      regsKept_iff.2 (.trans (leaves_setRb fun h => h.2 (by simp)) (leaves_flagRaise (fun _ h => h.1) (fun h => h.2 (by simp)) (by decide)))⟩
    rw [flagRaise_bit (by decide) (by decide) (by decide) (by decide)]
    exact rb_setRb_self (by decide)
  · subst hw
    exact ⟨_, rfl, awaitExpiry_spec hd (fun k hk => Bool.eq_iff_iff.2 ((hdue k hk).trans expired_iff.symm)) rfl⟩

end Sys2Proof.Machine

/-! The key store's happenings: the scrub, tamper alarms, the clearing of the latch and the floor (R393, R394, R408-R413). -/

namespace Sys2Proof.Machine

-- One declaration after another: side by side, their threads' stacks pass the memory limit of a check.
set_option Elab.async false

variable {s t u x : State}

/-! ### Slots -/

section Slots
variable {i j : Nat} {k : KeySlot}

theorem slot_congr (h : t.keys = s.keys) : t.slot i = s.slot i := by
  rw [State.slot, h]
  rfl

theorem slot_setSlot : (s.setSlot i k).slot i = k := Tab.get_put_self
theorem slot_setSlot_ne (h : j ≠ i) : (s.setSlot i k).slot j = s.slot j := Tab.get_put_ne h

/-- A table by a map of its entries: a key that is kept reads as its image. -/
theorem get_filterMap {f : Nat × KeySlot → Option (Nat × KeySlot)} {l : Tab KeySlot} (hf : ∀ e b, f e = some b → b.1 = e.1)
    (g : KeySlot → KeySlot) (hi : ∀ v, f (i, v) = some (i, g v)) (hd : g {} = {}) :
    Tab.get (fun _ => {}) (l.filterMap f) i = g (Tab.get (fun _ => {}) l i) := by
  induction l with
  | nil => exact hd.symm
  | cons e l ih =>
    obtain ⟨j, v⟩ := e
    by_cases hj : j = i
    · subst hj
      rw [List.filterMap_cons_some (hi v), Tab.get, if_pos rfl, Tab.get, if_pos rfl]
    · rw [Tab.get, if_neg hj]
      cases hv : f (j, v) with
      | none => rw [List.filterMap_cons_none hv, ih]
      | some b =>
        obtain ⟨m, w⟩ := b
        have hm : m ≠ i := fun h => hj ((hf _ _ hv).symm.trans h)
        rw [List.filterMap_cons_some hv, Tab.get, if_neg hm, ih]

/-- Zeroisation as a map of the table's entries. -/
def zeroEntry (e : Nat × KeySlot) : Option (Nat × KeySlot) :=
  if 1 ≤ e.1 && e.1 ≤ 4 then some e
  else if e.2.gen = 0 then none else some (e.1, emptySlot e.2.gen)

theorem zeroEntry_key {e b : Nat × KeySlot} (h : zeroEntry e = some b) : b.1 = e.1 := by
  unfold zeroEntry at h
  split at h
  · exact Option.some.inj h ▸ rfl
  · split at h
    · exact absurd h nofun
    · exact Option.some.inj h ▸ rfl

theorem zeroEntry_fused (h1 : 1 ≤ i) (h4 : i ≤ 4) : zeroEntry (i, k) = some (i, k) := if_pos (by simp [h1, h4])

theorem zeroEntry_other (h : i = 0 ∨ 4 < i) : zeroEntry (i, k) = if k.gen = 0 then none else some (i, emptySlot k.gen) := by
  refine if_neg ?_
  simp only [Bool.and_eq_true, decide_eq_true_eq]
  omega

theorem get_zero_any (h : i = 0 ∨ 4 < i) {l : Tab KeySlot} : ∃ g, Tab.get (fun _ => {}) (l.filterMap zeroEntry) i = ({ gen := g } : KeySlot) := by
  induction l with
  | nil => exact ⟨0, rfl⟩
  | cons e l ih =>
    obtain ⟨j, v⟩ := e
    cases hv : zeroEntry (j, v) with
    | none => rwa [List.filterMap_cons_none hv]
    | some b =>
      obtain ⟨m, w⟩ := b
      rw [List.filterMap_cons_some hv, Tab.get]
      split
      · next hm =>
        have hj : j = i := (zeroEntry_key hv).symm.trans hm
        rw [hj, zeroEntry_other h] at hv
        split at hv
        · exact absurd hv nofun
        · obtain ⟨-, hw⟩ := Prod.mk.inj (Option.some.inj hv)
          exact ⟨v.gen, hw.symm⟩
      · exact ih

/-- A key below every key of a table reads as the default. -/
theorem get_above {l : Tab KeySlot} (h : Tab.above i l) : Tab.get (fun _ => {}) l i = {} := by
  induction l with
  | nil => rfl
  | cons e l ih =>
    obtain ⟨j, v⟩ := e
    have hj : i < j := h _ List.mem_cons_self
    rw [Tab.get, if_neg (by omega)]
    exact ih fun e he => h e (List.mem_cons_of_mem _ he)

theorem get_zero_above {l : Tab KeySlot} (h : Tab.above i l) : Tab.get (fun _ => {}) (l.filterMap zeroEntry) i = {} := by
  refine get_above fun b hb => ?_
  obtain ⟨e, he, hz⟩ := List.mem_filterMap.1 hb
  rw [zeroEntry_key hz]
  exact h e he

theorem get_zero_wf (h : i = 0 ∨ 4 < i) {l : Tab KeySlot} (hw : Tab.wf (fun _ => {}) l = true) :
    Tab.get (fun _ => {}) (l.filterMap zeroEntry) i = ({ gen := (Tab.get (fun _ => {}) l i).gen } : KeySlot) := by
  induction l with
  | nil => rfl
  | cons e l ih =>
    obtain ⟨j, v⟩ := e
    obtain ⟨-, ha, hl⟩ := Tab.wf_cons.1 hw
    by_cases hj : j = i
    · subst hj
      rw [Tab.get, if_pos rfl]
      by_cases hg : v.gen = 0
      · rw [List.filterMap_cons_none (by rw [zeroEntry_other h, if_pos hg]), get_zero_above ha, hg]
      · rw [List.filterMap_cons_some (by rw [zeroEntry_other h, if_neg hg]), Tab.get, if_pos rfl]
        rfl
    · rw [Tab.get, if_neg hj, ← ih hl]
      cases hv : zeroEntry (j, v) with
      | none => rw [List.filterMap_cons_none hv]
      | some b =>
        obtain ⟨m, w⟩ := b
        have hm : m ≠ i := fun h => hj ((zeroEntry_key hv).symm.trans h)
        rw [List.filterMap_cons_some hv, Tab.get, if_neg hm]

theorem slots_zeroise : s.zeroise.keys.slots = s.keys.slots.filterMap zeroEntry := rfl

end Slots

/-! ### KEY_SCRUB -/

section Scrub
variable {i j : Nat} {k : KeySlot} {is : List Nat}

/-- The slot that an upset of the slots `is` leaves of slot `i`. -/
def KeySlot.struck (k : KeySlot) (is : List Nat) (i : Nat) : KeySlot :=
  if i ∈ is ∧ k.state = 1 then { k with upset := true } else k

/-- One slot is struck. -/
def State.strike (s : State) (is : List Nat) (i : Nat) : State :=
  if is.contains i && (s.slot i).state = 1 then s.setSlot i { s.slot i with upset := true } else s

theorem strike_self : (s.strike is i).slot i = (s.slot i).struck is i := by
  unfold State.strike KeySlot.struck
  by_cases h : i ∈ is ∧ (s.slot i).state = 1
  · rw [if_pos (by simpa using h), if_pos h, slot_setSlot]
  · rw [if_neg (by simpa using h), if_neg h]

theorem strike_ne (h : j ≠ i) : (s.strike is i).slot j = s.slot j := by
  unfold State.strike
  split
  · exact slot_setSlot_ne h
  · rfl

theorem upsetSlots_eq : s.upsetSlots is = (List.range 256).foldl (fun s i => s.strike is i) s := rfl

theorem strikes_slot {l : List Nat} (hn : l.Nodup) : (l.foldl (fun s i => s.strike is i) s).slot j =
    if j ∈ l then (s.slot j).struck is j else s.slot j := by
  induction l generalizing s with
  | nil => rfl
  | cons i l ih =>
    obtain ⟨hi, hl⟩ := List.nodup_cons.1 hn
    rw [List.foldl_cons, ih hl]
    by_cases hj : j = i
    · subst hj
      rw [if_neg hi, if_pos List.mem_cons_self, strike_self]
    · rw [strike_ne hj]
      simp [hj]

theorem upsetSlots_slot (h : j < 256) : (s.upsetSlots is).slot j = (s.slot j).struck is j := by
  rw [upsetSlots_eq, strikes_slot List.nodup_range, if_pos (List.mem_range.2 h)]

/-- The slot that a check of its tag leaves. -/
def KeySlot.checked (k : KeySlot) (lockout : Bool) : KeySlot :=
  if k.state = 1 ∧ k.upset = true ∧ ¬ (lockout = true ∧ k.retain = true) then { k with state := 3 } else k

/-- The condition of a tag check that fails. -/
theorem tagCheck_cond (hd : s.domOn pdKey = true) :
    (s.domOn pdKey && !s.slotLocked i && decide ((s.slot i).state = 1) && (s.slot i).upset) = true ↔
      (s.slot i).state = 1 ∧ (s.slot i).upset = true ∧ ¬ (s.rtc.lockout = true ∧ (s.slot i).retain = true) := by
  unfold State.slotLocked
  rw [hd]
  simp only [Bool.and_eq_true, Bool.true_and, decide_eq_true_eq, Bool.not_eq_true', Bool.and_eq_false_iff, not_and_or, Bool.not_eq_true]
  tauto

/-- A tag check that fails. -/
def State.slotBad (s : State) (i : Nat) : State :=
  (((s.setSlot i { s.slot i with state := 3 }).dropCache i).bump (Reg.KEY_CNT 2)).flagRaise Reg.KEY_STATUS 9 15 i

theorem slotBad_keys : (s.slotBad i).keys = (s.setSlot i { s.slot i with state := 3 }).keys := by
  unfold State.slotBad
  rw [(within_flagRaise _ _ _ _ _).keys rfl, (within_bump _ _).keys rfl, (within_dropCache _ _).keys rfl]

theorem tagCheck_bad (hd : s.domOn pdKey = true)
    (h : (s.slot i).state = 1 ∧ (s.slot i).upset = true ∧ ¬ (s.rtc.lockout = true ∧ (s.slot i).retain = true)) :
    s.tagCheck i = s.slotBad i := if_pos ((tagCheck_cond hd).2 h)

theorem tagCheck_pass (hd : s.domOn pdKey = true)
    (h : ¬ ((s.slot i).state = 1 ∧ (s.slot i).upset = true ∧ ¬ (s.rtc.lockout = true ∧ (s.slot i).retain = true))) :
    s.tagCheck i = s := if_neg fun c => h ((tagCheck_cond hd).1 c)

theorem tagCheck_slot (hd : s.domOn pdKey = true) :
    (s.tagCheck i).slot j = if j = i then (s.slot i).checked s.rtc.lockout else s.slot j := by
  unfold KeySlot.checked
  by_cases h : (s.slot i).state = 1 ∧ (s.slot i).upset = true ∧ ¬ (s.rtc.lockout = true ∧ (s.slot i).retain = true)
  · rw [tagCheck_bad hd h, slot_congr slotBad_keys, if_pos h]
    by_cases hj : j = i
    · rw [hj, if_pos rfl, slot_setSlot]
    · rw [if_neg hj, slot_setSlot_ne hj]
  · rw [tagCheck_pass hd h, if_neg h]
    split
    · next hj => rw [hj]
    · rfl

theorem keepsEvents_tagCheck : KeepsEvents s (s.tagCheck i) := by
  unfold State.tagCheck
  dsimp only
  split
  · refine .trans ?_ (keepsEvents_flagRaise (by decide) (by decide))
    refine .trans ?_ (keepsEvents_setReg (by decide))
    refine .trans ?_ (keepsEvents_dropCache i)
    exact keepsEvents_of_regs rfl
  · exact .refl s

/-- The tags of the slots `l` are checked. -/
theorem tagChecks_spec {l : List Nat} (hn : l.Nodup) (hd : s.domOn pdKey = true) (hu : u = l.foldl (fun s i => s.tagCheck i) s) :
    (∀ j, u.slot j = if j ∈ l then (s.slot j).checked s.rtc.lockout else s.slot j) ∧
    u.reg (Reg.KEY_CNT 3) = s.reg (Reg.KEY_CNT 3) ∧ KeepsEvents s u ∧
    ∀ j ∈ l, (s.slot j).state = 1 → (s.slot j).upset = true → ¬ (s.rtc.lockout = true ∧ (s.slot j).retain = true) → u.event 15 = true := by
  induction l generalizing s with
  | nil =>
    rw [hu]
    exact ⟨fun j => rfl, rfl, .refl s, fun j hj => nomatch hj⟩
  | cons i l ih =>
    obtain ⟨hi, hl⟩ := List.nodup_cons.1 hn
    have hregs : Leaves OffKeyUse s (s.tagCheck i) := leaves_tagCheck
    have hcnt : (s.tagCheck i).reg (Reg.KEY_CNT 3) = s.reg (Reg.KEY_CNT 3) := by
      unfold State.tagCheck
      dsimp only
      split
      · rw [flagRaise_quiet (by decide) (by decide) (by decide), reg_bump, if_neg (by decide), leaves_dropCache i _ (by decide)]
        rfl
      · rfl
    obtain ⟨h1, h2, h3, h4⟩ := ih hl ((domOn_congr (hregs _ (by decide))).trans hd) hu
    have hrtc : (s.tagCheck i).rtc = s.rtc := (within_tagCheck s i).rtc rfl
    rw [hrtc] at h1 h4
    refine ⟨fun j => ?_, h2.trans hcnt, keepsEvents_tagCheck.trans h3, fun j hj hs1 hup hlk => ?_⟩
    · rw [h1, tagCheck_slot hd]
      by_cases hj : j = i
      · subst hj
        rw [if_neg hi, if_pos rfl, if_pos List.mem_cons_self]
      · rw [if_neg hj]
        simp [hj]
    · by_cases hj' : j = i
      · subst hj'
        refine h3 15 (by decide) ?_
        rw [tagCheck_bad hd ⟨hs1, hup, hlk⟩]
        exact event_flagRaise (by decide)
      · have hsj : (s.tagCheck i).slot j = s.slot j := by rw [tagCheck_slot hd, if_neg hj']
        exact h4 j ((List.mem_cons.1 hj).resolve_left hj') (by rw [hsj, hs1]) (by rw [hsj, hup]) (by rw [hsj]; exact hlk)

theorem upsetSlots_within : Within 0x1000000000000 s (s.upsetSlots is) := within_upsetSlots s is

/-- The struck slots, as the check then finds them. -/
theorem checked_struck {lockout : Bool} (h : k.state = 1) (hu : i ∈ is ∨ k.upset = true) :
    (k.struck is i).state = 1 ∧ (k.struck is i).upset = true ∧ (k.struck is i).retain = k.retain ∧
    (lockout = false ∨ k.retain = false → (k.struck is i).checked lockout = { k with state := 3, upset := true }) ∧
    (lockout = true → k.retain = true → (k.struck is i).checked lockout = { k with upset := true }) := by
  have he : k.struck is i = { k with upset := true } := by
    unfold KeySlot.struck
    split
    · rfl
    · next hn =>
      have hk := hu.resolve_left fun hi => hn ⟨hi, h⟩
      rw [← hk]
  rw [he]
  refine ⟨h, rfl, rfl, fun hl => ?_, fun h1 h2 => ?_⟩
  · unfold KeySlot.checked
    refine if_pos ⟨h, rfl, fun c => ?_⟩
    obtain ⟨c1, c2⟩ := c
    rcases hl with hl | hl
    · rw [hl] at c1
      exact absurd c1 (by decide)
    · exact absurd (hl.symm.trans c2) (by decide)
  · unfold KeySlot.checked
    exact if_neg fun c => c.2.2 ⟨h1, h2⟩

theorem checked_kept {lockout : Bool} (h : k.state ≠ 1 ∨ i ∉ is ∧ k.upset = false) : (k.struck is i).checked lockout = k := by
  have he : k.struck is i = k := if_neg fun c => h.elim (· c.2) (·.1 c.1)
  rw [he]
  refine if_neg fun c => ?_
  obtain ⟨c1, c2, -⟩ := c
  rcases h with h | h
  · exact h c1
  · rw [h.2] at c2
    exact absurd c2 (by decide)

theorem keyScrub_on (hd : s.domOn pdKey = true) (hs : s.rb Reg.KEY_CTRL 1 = true) (hu : u = s.keyScrub is) :
    u.reg (Reg.KEY_CNT 3) = satWord (s.reg (Reg.KEY_CNT 3)) 1 ∧
    ∀ (i : Fin 256) (k : KeySlot), k = s.slot i →
      (k.state = 1 → i.val ∈ is ∨ k.upset = true →
        (s.rtc.lockout = false ∨ k.retain = false → u.slot i = { k with state := 3, upset := true } ∧ u.event 15 = true) ∧
        (s.rtc.lockout = true → k.retain = true → u.slot i = { k with upset := true })) ∧
      (k.state ≠ 1 ∨ i.val ∉ is ∧ k.upset = false → u.slot i = k) := by
  obtain ⟨a, ha⟩ : ∃ a, a = s.upsetSlots is := ⟨_, rfl⟩
  obtain ⟨b, hb⟩ : ∃ b, b = a.bump (Reg.KEY_CNT 3) := ⟨_, rfl⟩
  have haw : Within 0x1000000000000 s a := ha ▸ within_upsetSlots s is
  have hal : Leaves (fun _ => True) s a := haw.leaves
  have he : u = (List.range 256).foldl (fun s i => s.tagCheck i) b := by
    rw [hu, hb]
    unfold State.keyScrub
    dsimp only
    rw [← ha, domOn_congr (hal _ trivial), hal.rb trivial, hd, hs]
    rfl
  have hbd : b.domOn pdKey = true := by
    rw [hb, domOn_congr (t := a.bump (Reg.KEY_CNT 3)) (s := a) (reg_setReg_ne (by decide)), domOn_congr (hal _ trivial), hd]
  have hbl : b.rtc = s.rtc := by rw [hb, (within_bump _ _).rtc rfl, haw.rtc rfl]
  obtain ⟨h1, h2, -, h4⟩ := tagChecks_spec List.nodup_range hbd he
  have hslot : ∀ i : Fin 256, b.slot i = (s.slot i).struck is i := fun i => by
    rw [slot_congr (hb ▸ (within_bump a _).keys rfl), ha, upsetSlots_slot i.isLt]
  rw [hbl] at h1 h4
  refine ⟨by rw [h2, hb, reg_bump, if_pos rfl, hal _ trivial], fun i k hk => ⟨fun hs1 hup => ?_, fun hk' => ?_⟩⟩
  · subst hk
    obtain ⟨c1, c2, c3, c4, c5⟩ := checked_struck (lockout := s.rtc.lockout) hs1 hup
    have hi := List.mem_range.2 i.isLt
    have hui : u.slot i = ((s.slot i).struck is i).checked s.rtc.lockout := by rw [h1, if_pos hi, hslot]
    refine ⟨fun hl => ⟨hui.trans (c4 hl), h4 i hi (by rw [hslot, c1]) (by rw [hslot, c2]) (by
      rw [hslot, c3]
      rintro ⟨e1, e2⟩
      rw [e1, e2] at hl
      exact hl.elim (fun h => absurd h (by decide)) (fun h => absurd h (by decide)))⟩,
      fun e1 e2 => hui.trans (c5 e1 e2)⟩
  · subst hk
    rw [h1, if_pos (List.mem_range.2 i.isLt), hslot, checked_kept hk']

theorem keyScrub_off (hs : s.rb Reg.KEY_CTRL 1 = false) : s.keyScrub is = s.upsetSlots is := by
  have hl : Leaves (fun _ => True) s (s.upsetSlots is) := (within_upsetSlots s is).leaves
  unfold State.keyScrub
  dsimp only
  rw [hl.rb trivial, hs, Bool.and_false]
  exact if_neg Bool.false_ne_true

end Scrub

/-! ### TAMPER -/

section Tamper
variable {op : Bool} {b i : Nat}

/-- CAUSE and the count of an alarm. -/
def State.alarmNoted (s : State) (b : Nat) : State :=
  (s.setRb Reg.KEY_TAMPER_STATUS b true).setRf Reg.KEY_TAMPER_CNT 0 8 (satAdd 255 (s.rf Reg.KEY_TAMPER_CNT 0 8) 1)

/-- The first alarm with PD_KEY on: the slots are zeroised, the loader stops, the operation under way ends. -/
def State.alarmTaken (s : State) (op : Bool) : State :=
  if op then ((s.zeroise.setRb Reg.KEY_STATUS 0 false).tamperImage).keyTampered else (s.zeroise.setRb Reg.KEY_STATUS 0 false).tamperImage

/-- The first alarm with PD_KEY off. -/
def State.alarmOwed (s : State) : State :=
  { s with keys := { s.keys with pending := true, slots := s.keys.slots.filterMap (fun e =>
      if e.2.retain && e.2.state ≠ 0 then some (e.1, { emptySlot e.2.gen with retain := true }) else some e) } }

/-- Event 14, or its being owed. -/
def State.alarmShown (s : State) : State :=
  if s.rtc.onVbat || s.pwr.start.isSome then { s with keys := { s.keys with owed14 := true } }
  else s.flagRaise Reg.KEY_STATUS 8 14 0

theorem tamperHit_again (h : s.latch = true) : s.tamperHit op b = s.alarmNoted b := by
  unfold State.tamperHit
  dsimp only
  rw [h]
  rfl

theorem tamperHit_first (h : s.latch = false) (hx : x = (s.alarmNoted b).setRb Reg.KEY_TAMPER_STATUS 8 true) :
    s.tamperHit op b = (if x.domOn pdKey then x.alarmTaken op else x.alarmOwed).alarmShown := by
  unfold State.tamperHit
  dsimp only
  rw [h, if_neg Bool.false_ne_true, hx]
  rfl

/-- CAUSE bits and the latch that stand stay. -/
def CauseKept (s t : State) : Prop := ∀ k, 5 ≤ k → s.rb Reg.KEY_TAMPER_STATUS k = true → t.rb Reg.KEY_TAMPER_STATUS k = true

theorem CauseKept.refl (s : State) : CauseKept s s := fun _ _ h => h
theorem CauseKept.trans (h : CauseKept s x) (g : CauseKept x t) : CauseKept s t := fun k hk hs => g k hk (h k hk hs)

theorem causeKept_setRb (hb : b < 32) : CauseKept s (s.setRb Reg.KEY_TAMPER_STATUS b true) := fun k _ hk => by
  rw [State.rb, reg_setRb, if_pos rfl]
  by_cases h : k = b
  · rw [h, bit_setBit hb]
  · rw [bit_setBit_ne hb h]
    exact hk

theorem causeKept_of_leaves {P : Nat → Prop} (h : Leaves P s t) (hp : P Reg.KEY_TAMPER_STATUS) : CauseKept s t := fun k _ hk => by rwa [h.rb hp]

theorem leaves_alarmNoted : Leaves (fun o => o ≠ Reg.KEY_TAMPER_STATUS ∧ o ≠ Reg.KEY_TAMPER_CNT) s (s.alarmNoted b) :=
  (leaves_setRb fun h => h.1 rfl).trans (leaves_setRf fun h => h.2 rfl)

theorem alarmNoted_status : (s.alarmNoted b).reg Reg.KEY_TAMPER_STATUS = (s.setRb Reg.KEY_TAMPER_STATUS b true).reg Reg.KEY_TAMPER_STATUS :=
  reg_setReg_ne (by decide)

theorem causeKept_alarmNoted (hb : b < 32) : CauseKept s (s.alarmNoted b) := fun k hk h => by
  rw [State.rb, alarmNoted_status]
  exact causeKept_setRb hb k hk h

theorem alarmNoted_cause (hb : b < 32) : (s.alarmNoted b).rb Reg.KEY_TAMPER_STATUS b = true := by
  rw [State.rb, alarmNoted_status]
  exact rb_setRb_self hb

/-- What a first alarm leaves but its own registers. -/
abbrev OffAlarm (o : Nat) : Prop := Quiet o ∧ o ≠ Reg.IMG_CACHE ∧ o ≠ Reg.IMG_LOAD_STATUS ∧ o ≠ Reg.KEY_STATUS ∧ o ≠ Reg.KEY_CNT 0

theorem leaves_tamperImage : Leaves (fun o => Quiet o ∧ o ≠ Reg.IMG_CACHE ∧ o ≠ Reg.IMG_LOAD_STATUS) s s.tamperImage := by
  unfold State.tamperImage
  dsimp only
  have h := ((leaves_setRb (P := fun o => Quiet o ∧ o ≠ Reg.IMG_CACHE ∧ o ≠ Reg.IMG_LOAD_STATUS) (s := s) (o := Reg.IMG_CACHE) (i := 1) (b := false)
    fun h => h.2.1 rfl).trans (leaves_setRb (i := 2) (b := false) fun h => h.2.1 rfl)).trans (leaves_setRb (i := 3) (b := false) fun h => h.2.1 rfl)
  split
  · exact (((h.trans (leaves_setRb fun h => h.2.2 rfl)).trans (leaves_setRf fun h => h.2.2 rfl)).trans (leaves_setRf fun h => h.2.2 rfl)).trans
      (leaves_raise (fun _ h => h.1) (by decide))
  · exact h

theorem tamperImage_cache : s.tamperImage.rb Reg.IMG_CACHE 1 = false := by
  unfold State.tamperImage
  dsimp only
  obtain ⟨y, hy⟩ : ∃ y, y = ((s.setRb Reg.IMG_CACHE 1 false).setRb Reg.IMG_CACHE 2 false).setRb Reg.IMG_CACHE 3 false := ⟨_, rfl⟩
  have h : y.rb Reg.IMG_CACHE 1 = false := by
    rw [hy, State.rb, reg_setRb, if_pos rfl, bit_setBit_ne (by decide) (by decide), reg_setRb, if_pos rfl, bit_setBit_ne (by decide) (by decide)]
    exact rb_setRb_self (by decide)
  rw [← hy]
  split
  · rw [(leaves_raise (fun _ h => h) (by decide)).rb (P := Quiet) (by decide), (leaves_setRf (P := (· = Reg.IMG_CACHE)) (by decide)).rb rfl,
      (leaves_setRf (P := (· = Reg.IMG_CACHE)) (by decide)).rb rfl, rb_setRb_other (by decide), h]
  · exact h

theorem leaves_keyTampered : Leaves (fun o => Quiet o ∧ o ≠ Reg.KEY_CNT 0) s s.keyTampered := by
  unfold State.keyTampered State.keyComplete
  split
  · refine .trans ?_ (leaves_ringReturn (fun _ h => h.1) (by decide))
    refine .trans ?_ (leaves_ringReturn (fun _ h => h.1) (by decide))
    exact (leaves_hostWrite _ _).trans (leaves_bump fun h => h.2 rfl)
  · exact .refl s

theorem keyTampered_keys : s.keyTampered.keys = s.keys := by
  unfold State.keyTampered State.keyComplete
  split
  · dsimp only
    rw [(within_ringReturn _ _ _ _).keys rfl, (within_ringReturn _ _ _ _).keys rfl, (within_bump _ _).keys rfl, (within_hostWrite _ _ _).keys rfl]
  · rfl

/-- The first alarm's effect where PD_KEY is on. -/
theorem alarmTaken_spec (hu : u = s.alarmTaken op) : Leaves OffAlarm s u ∧ u.keys.slots = s.keys.slots.filterMap zeroEntry ∧
    u.rb Reg.KEY_STATUS 0 = false ∧ u.rb Reg.IMG_CACHE 1 = false ∧ u.rtc = s.rtc ∧ u.pwr.start = s.pwr.start := by
  obtain ⟨a, ha⟩ : ∃ a, a = s.zeroise.setRb Reg.KEY_STATUS 0 false := ⟨_, rfl⟩
  obtain ⟨c, hc⟩ : ∃ c, c = a.tamperImage := ⟨_, rfl⟩
  have he : u = if op = true then c.keyTampered else c := by rw [hu, hc, ha, State.alarmTaken]
  have hal : Leaves OffAlarm s a := ha ▸ leaves_setRb (s := s.zeroise) (P := OffAlarm) fun h => h.2.2.2.1 rfl
  have hak : a.keys.slots = s.keys.slots.filterMap zeroEntry := by rw [ha]; rfl
  have haz : a.rb Reg.KEY_STATUS 0 = false := ha ▸ rb_setRb_self (by decide)
  have har : a.rtc = s.rtc := by rw [ha]; rfl
  have hap : a.pwr = s.pwr := by rw [ha]; rfl
  have hcl : Leaves (fun o => Quiet o ∧ o ≠ Reg.IMG_CACHE ∧ o ≠ Reg.IMG_LOAD_STATUS) a c := hc ▸ leaves_tamperImage
  have hul : Leaves (fun o => Quiet o ∧ o ≠ Reg.KEY_CNT 0) c u := by
    rw [he]
    exact .ite leaves_keyTampered (.refl c)
  have huk : u.keys = c.keys ∧ u.rtc = c.rtc ∧ u.pwr.start = c.pwr.start := by
    rw [he]
    split
    · exact ⟨keyTampered_keys, (within_keyTampered c).rtc rfl, (kept_keyTampered c).start⟩
    · exact ⟨rfl, rfl, rfl⟩
  obtain ⟨k1, k2, k3⟩ := huk
  refine ⟨fun o ho => ?_, ?_, ?_, ?_, ?_, ?_⟩
  · rw [hul o ⟨ho.1, ho.2.2.2.2⟩, hcl o ⟨ho.1, ho.2.1, ho.2.2.1⟩, hal o ho]
  · rw [k1, hc, (within_tamperImage a).keys rfl, hak]
  · rw [hul.rb (by decide), hcl.rb (by decide), haz]
  · rw [hul.rb (by decide), hc, tamperImage_cache]
  · rw [k2, hc, (within_tamperImage a).rtc rfl, har]
  · rw [k3, hc, (kept_tamperImage a).start, hap]

theorem leaves_alarmShown : Leaves (fun o => Quiet o ∧ o ≠ Reg.KEY_STATUS) s s.alarmShown := by
  unfold State.alarmShown
  split
  · exact .of_regs rfl
  · exact leaves_flagRaise (fun _ h => h.1) (fun h => h.2 rfl) (by decide)

theorem alarmShown_spec (hu : u = s.alarmShown) : u.keys.slots = s.keys.slots ∧ u.rb Reg.KEY_STATUS 0 = s.rb Reg.KEY_STATUS 0 ∧
    (s.rtc.onVbat = false → s.pwr.start = none → u.event 14 = true) := by
  unfold State.alarmShown at hu
  by_cases h : (s.rtc.onVbat || s.pwr.start.isSome) = true
  · rw [if_pos h] at hu
    rw [hu]
    refine ⟨rfl, rfl, fun h1 h2 => ?_⟩
    rw [h1, h2] at h
    exact absurd h (by decide)
  · rw [if_neg h] at hu
    rw [hu]
    exact ⟨by rw [(within_flagRaise s _ _ _ _).keys rfl], flagRaise_bit (by decide) (by decide) (by decide) (by decide),
      fun _ _ => event_flagRaise (by decide)⟩

/-- The state that the first alarm finds after its cause and the latch are set. -/
theorem alarmLatched_spec (hb : b < 32) (hx : x = (s.alarmNoted b).setRb Reg.KEY_TAMPER_STATUS 8 true) :
    CauseKept s x ∧ x.rb Reg.KEY_TAMPER_STATUS b = true ∧ x.latch = true ∧
    Leaves (fun o => o ≠ Reg.KEY_TAMPER_STATUS ∧ o ≠ Reg.KEY_TAMPER_CNT) s x ∧ Within 0x8 s x := by
  have h1 : CauseKept (s.alarmNoted b) x := hx ▸ causeKept_setRb (by decide)
  refine ⟨(causeKept_alarmNoted hb).trans h1, ?_, hx ▸ rb_setRb_self (by decide), hx ▸ leaves_alarmNoted.trans (leaves_setRb fun h => h.1 rfl), ?_⟩
  · rw [hx, State.rb, reg_setRb, if_pos rfl]
    by_cases h : b = 8
    · rw [h, bit_setBit (by decide)]
    · rw [bit_setBit_ne (by decide) h]
      exact alarmNoted_cause hb
  · rw [hx]
    exact (within_setRb _ _ _ _).after (by decide) ((within_setRf _ _ _ _ _).after (by decide) (within_setRb _ _ _ _))

/-- What an alarm does to its cause and the latch. -/
theorem tamperHit_cause (h5 : 5 ≤ b) (hb : b < 32) (hu : u = s.tamperHit op b) :
    CauseKept s u ∧ u.rb Reg.KEY_TAMPER_STATUS b = true ∧ u.latch = true := by
  cases hl : s.latch with
  | true =>
    rw [tamperHit_again hl] at hu
    rw [hu]
    exact ⟨causeKept_alarmNoted hb, alarmNoted_cause hb, causeKept_alarmNoted hb 8 (by decide) hl⟩
  | false =>
    obtain ⟨x, hx⟩ : ∃ x, x = (s.alarmNoted b).setRb Reg.KEY_TAMPER_STATUS 8 true := ⟨_, rfl⟩
    obtain ⟨h1, h2, h3, -, -⟩ := alarmLatched_spec hb hx
    rw [tamperHit_first hl hx] at hu
    have hul : Leaves OffAlarm x u := by
      rw [hu]
      refine Leaves.trans ?_ (leaves_alarmShown.mono fun _ h => ⟨h.1, h.2.2.2.1⟩)
      exact .ite (alarmTaken_spec rfl).1 (.of_regs rfl)
    have hc := causeKept_of_leaves hul (by decide)
    exact ⟨h1.trans hc, hc b h5 h2, hc 8 (by decide) h3⟩

/-- The first alarm while PD_KEY is on. -/
theorem tamperHit_zeroises (hb : b < 32) (hl : s.latch = false) (hd : s.domOn pdKey = true) (hu : u = s.tamperHit op b) :
    u.keys.slots = s.keys.slots.filterMap zeroEntry ∧ u.rb Reg.KEY_STATUS 0 = false ∧ u.rb Reg.IMG_CACHE 1 = false ∧
    (s.rtc.onVbat = false → s.pwr.start = none → u.event 14 = true) := by
  obtain ⟨x, hx⟩ : ∃ x, x = (s.alarmNoted b).setRb Reg.KEY_TAMPER_STATUS 8 true := ⟨_, rfl⟩
  obtain ⟨y, hy⟩ : ∃ y, y = x.alarmTaken op := ⟨_, rfl⟩
  obtain ⟨-, -, -, hxl, hxw⟩ := alarmLatched_spec hb hx
  rw [tamperHit_first hl hx, domOn_congr (hxl _ (by decide)), hd, if_pos rfl, ← hy] at hu
  obtain ⟨-, h2, h3, h4, h5, h6⟩ := alarmTaken_spec hy
  obtain ⟨g1, g2, g3⟩ := alarmShown_spec hu
  have hul : Leaves (fun o => Quiet o ∧ o ≠ Reg.KEY_STATUS) y u := hu ▸ leaves_alarmShown
  refine ⟨by rw [g1, h2, hxw.keys rfl], g2.trans h3, by rw [hul.rb (by decide), h4], fun e1 e2 => g3 ?_ ?_⟩
  · rw [h5, hxw.rtc rfl, e1]
  · rw [h6, hxw.pwr rfl, e2]

/-! ### Several sources -/

section Hits
variable {p : Nat → Bool} {l : List Nat}

/-- The sources of `l` that `p` names act in turn. -/
def State.hits (s : State) (op : Bool) (p : Nat → Bool) (l : List Nat) : State :=
  l.foldl (fun s i => if p i then s.tamperHit op (16 + i) else s) s

theorem hits_none (h : ∀ i ∈ l, p i = false) : s.hits op p l = s := by
  induction l with
  | nil => rfl
  | cons i l ih =>
    rw [State.hits, List.foldl_cons, h i List.mem_cons_self, if_neg Bool.false_ne_true]
    exact ih fun j hj => h j (List.mem_cons_of_mem _ hj)

theorem hits_cause (hl : ∀ i ∈ l, i < 5) (hu : u = s.hits op p l) : CauseKept s u ∧
    ∀ i ∈ l, p i = true → u.rb Reg.KEY_TAMPER_STATUS (16 + i) = true ∧ u.latch = true := by
  induction l generalizing s with
  | nil => exact ⟨hu ▸ .refl s, fun i hi => nomatch hi⟩
  | cons i l ih =>
    obtain ⟨x, hx⟩ : ∃ x, x = if p i then s.tamperHit op (16 + i) else s := ⟨_, rfl⟩
    have h5 : i < 5 := hl i List.mem_cons_self
    rw [State.hits, List.foldl_cons, ← hx] at hu
    obtain ⟨h1, h2⟩ := ih (s := x) (fun j hj => hl j (List.mem_cons_of_mem _ hj)) hu
    cases hp : p i with
    | false =>
      rw [hp, if_neg Bool.false_ne_true] at hx
      rw [hx] at h1
      refine ⟨h1, fun j hj hpj => h2 j ((List.mem_cons.1 hj).resolve_left fun c => ?_) hpj⟩
      rw [c, hp] at hpj
      exact absurd hpj (by decide)
    | true =>
      rw [hp, if_pos rfl] at hx
      obtain ⟨g1, g2, g3⟩ := tamperHit_cause (by omega) (by omega) hx
      refine ⟨g1.trans h1, fun j hj hpj => ?_⟩
      by_cases hj' : j = i
      · rw [hj']
        exact ⟨h1 _ (by omega) g2, h1 8 (by decide) g3⟩
      · exact h2 j ((List.mem_cons.1 hj).resolve_left hj') hpj

/-- Under the latch an alarm leaves the keys and every register but CAUSE and the count. -/
theorem hits_again (hl : ∀ i ∈ l, i < 5) (h : s.latch = true) (hu : u = s.hits op p l) : u.keys = s.keys ∧
    Leaves (fun o => o ≠ Reg.KEY_TAMPER_STATUS ∧ o ≠ Reg.KEY_TAMPER_CNT) s u := by
  induction l generalizing s with
  | nil => exact ⟨by rw [hu]; rfl, hu ▸ .refl s⟩
  | cons i l ih =>
    obtain ⟨x, hx⟩ : ∃ x, x = if p i then s.tamperHit op (16 + i) else s := ⟨_, rfl⟩
    have h5 : i < 5 := hl i List.mem_cons_self
    have hr : ∀ j ∈ l, j < 5 := fun j hj => hl j (List.mem_cons_of_mem _ hj)
    rw [State.hits, List.foldl_cons, ← hx] at hu
    cases hp : p i with
    | false =>
      rw [hp, if_neg Bool.false_ne_true] at hx
      rw [hx] at hu
      exact ih hr h hu
    | true =>
      rw [hp, if_pos rfl, tamperHit_again h] at hx
      have hxl : x.latch = true := hx ▸ causeKept_alarmNoted (by omega) 8 (by decide) h
      obtain ⟨g1, g2⟩ := ih hr hxl hu
      exact ⟨by rw [g1, hx]; rfl, Leaves.trans (hx ▸ leaves_alarmNoted) g2⟩

/-- The first source that acts, and the others after it. -/
theorem hits_first (h : ∃ i ∈ l, p i = true) : ∃ i ∈ l, ∃ l', (∀ j ∈ l', j ∈ l) ∧ s.hits op p l = (s.tamperHit op (16 + i)).hits op p l' := by
  induction l with
  | nil => exact absurd h fun ⟨i, hi, _⟩ => nomatch hi
  | cons i l ih =>
    cases hp : p i with
    | true =>
      refine ⟨i, List.mem_cons_self, l, fun j hj => List.mem_cons_of_mem _ hj, ?_⟩
      rw [State.hits, List.foldl_cons, hp, if_pos rfl]
      rfl
    | false =>
      obtain ⟨j, hj, hpj⟩ := h
      have hj' : j ∈ l := (List.mem_cons.1 hj).resolve_left fun c => by
        rw [c, hp] at hpj
        exact absurd hpj (by decide)
      obtain ⟨k, hk, l', hl', he⟩ := ih ⟨j, hj', hpj⟩
      refine ⟨k, List.mem_cons_of_mem _ hk, l', fun m hm => List.mem_cons_of_mem _ (hl' m hm), ?_⟩
      rw [State.hits, List.foldl_cons, hp, if_neg Bool.false_ne_true]
      exact he

end Hits

/-- The watch's new levels. -/
def State.watched (s : State) (pins us : Nat) (mesh : Bool) : State :=
  { s with keys := { s.keys with pins := if s.rf Reg.KEY_TAMPER_CFG 8 4 ≤ us then pins else s.keys.pins, mesh := mesh } }

theorem tamperSee_eq {pins us : Nat} {mesh : Bool} (hp : pins < 16) (hx : x = s.watched pins us mesh) : s.tamperSee pins us mesh op =
    (x.setRf Reg.KEY_TAMPER_STATUS 0 5 x.tamperActive).hits op (fun i => x.tamperActive.testBit i && !s.tamperActive.testBit i) (List.range 5) := by
  unfold State.tamperSee State.tamperNew
  dsimp only
  rw [Nat.mod_eq_of_lt hp, hx]
  rfl

/-- What is shown of the sources: the keys and the other registers are as before. -/
theorem shownActive_spec {n : Nat} (hu : u = x.setRf Reg.KEY_TAMPER_STATUS 0 5 n) : u.latch = x.latch ∧ u.keys = x.keys ∧
    Leaves (· ≠ Reg.KEY_TAMPER_STATUS) x u ∧ Within 0x8 x u := by
  refine ⟨?_, by rw [hu]; rfl, hu ▸ leaves_setRf fun h => h rfl, hu ▸ within_setRf _ _ _ _ _⟩
  rw [hu, State.latch, State.rb, reg_setRf, if_pos rfl, bit_setFld_ne (by decide) (.inr (by decide))]
  rfl

/-- The first alarm of several: the later ones find the latch set. -/
theorem hits_zeroise {p : Nat → Bool} {l : List Nat} (hl5 : ∀ i ∈ l, i < 5) (hl : s.latch = false) (hd : s.domOn pdKey = true)
    (h : ∃ i ∈ l, p i = true) (hu : u = s.hits op p l) :
    u.keys.slots = s.keys.slots.filterMap zeroEntry ∧ u.rb Reg.KEY_STATUS 0 = false ∧ u.rb Reg.IMG_CACHE 1 = false ∧
    (s.rtc.onVbat = false → s.pwr.start = none → u.event 14 = true) := by
  obtain ⟨i, hi, l', hl', he⟩ := hits_first (s := s) (op := op) h
  have h5 := hl5 i hi
  obtain ⟨x, hx⟩ : ∃ x, x = s.tamperHit op (16 + i) := ⟨_, rfl⟩
  rw [← hu, ← hx] at he
  obtain ⟨-, -, hxl⟩ := tamperHit_cause (by omega) (by omega) hx
  obtain ⟨h1, h2, h3, h4⟩ := tamperHit_zeroises (by omega) hl hd hx
  obtain ⟨g1, g2⟩ := hits_again (fun j hj => hl5 j (hl' j hj)) hxl he
  refine ⟨by rw [g1, h1], by rw [g2.rb (by decide), h2], by rw [g2.rb (by decide), h3], fun e1 e2 => ?_⟩
  rw [State.event, g2.rb (by decide)]
  exact h4 e1 e2

end Tamper

/-! ### The latch's clearing, and the floor -/

section Writes
variable {v : Word}

theorem writeCause_of_lockout {off : Nat} (hn : normOf off = off) (hk : off / 0x10000 = 23) (ha : aonKey (off % 0x4000) = true)
    (h : s.rtc.lockout = true) : s.writeCause off v ≠ 0 := by
  unfold State.writeCause
  rw [hn]
  split
  · decide
  · have hr : s.reachable off = false := by
      unfold State.reachable
      simp only [hk, h, ha]
      simp
    rw [hr, if_pos (by decide)]
    decide

theorem writeCause_of_refused {off : Nat} (hv : viewOf off = 0) (h : unitRefuses s off v 0xFFFFFFFF = true) : s.writeCause off v ≠ 0 := fun hc => by
  obtain ⟨_, _, _, _, hx⟩ := of_writeCause hc
  rw [hx hv] at h
  exact absurd h (by decide)

theorem keyRefuses_clr (hv : bit v 0 = true) (h : fld v 16 16 ≠ 0x7A3C ∨ s.tamperActive ≠ 0) : keyRefuses s Reg.KEY_TAMPER_CLR v = true := by
  unfold keyRefuses
  rw [if_neg (by decide), if_pos rfl, hv]
  simpa using h

theorem keyRefuses_floor (h : v.toNat < (s.reg Reg.KEY_FLOOR).toNat) : keyRefuses s Reg.KEY_FLOOR v = true := by
  unfold keyRefuses
  rw [if_pos rfl]
  exact decide_eq_true h

theorem tamperClr_eq (h : s.Accepts Reg.KEY_TAMPER_CLR v) (hv : bit v 0 = true) : s.poke Reg.KEY_TAMPER_CLR v {} =
    ((s.setReg Reg.KEY_TAMPER_CLR (s.reg Reg.KEY_TAMPER_CLR)).setRb Reg.KEY_TAMPER_STATUS 8 false).deriveSlot0 := by
  rw [h.poke_plain (r := ⟨0x170020, 0x4, 1, 0x4, 1, 0x0, 0x0, 0x0, 0xFFFFFFFF, 0x0, .single, none⟩) (by decide) (by decide) rfl rfl,
    unitHook_key (by decide), merge_none, State.keyHook, if_pos rfl, if_pos hv]

theorem keyFloorWrite_eq (h : s.Accepts Reg.KEY_FLOOR v) : s.poke Reg.KEY_FLOOR v {} = s.setReg Reg.KEY_FLOOR v := by
  rw [h.poke_plain (r := ⟨0x17000C, 0x4, 1, 0x4, 1, 0x0, 0xFFFFFFFF, 0x0, 0x0, 0x0, .single, none⟩) (by decide) (by decide) rfl rfl,
    unitHook_key (by decide), merge_ones, State.keyHook, if_neg (by decide), if_neg (by decide)]

theorem deriveSlot0_spec (hx : x = s.setRb Reg.KEY_TAMPER_STATUS 8 false) (hu : u = x.deriveSlot0) : u.latch = false ∧ u.rb Reg.KEY_STATUS 0 = true ∧
    u.slot 0 = KeySlot.seal { slot0 with gen := (s.slot 0).gen } ∧ (∀ i, i ≠ 0 → u.slot i = s.slot i) ∧
    AllRegsKept s u [Reg.KEY_TAMPER_STATUS, Reg.KEY_STATUS] := by
  have hxs : ∀ i, x.slot i = s.slot i := fun i => slot_congr (by rw [hx]; rfl)
  obtain ⟨y, hy⟩ : ∃ y, y = x.setSlot 0 (({ slot0 with gen := (x.slot 0).gen } : KeySlot).seal) := ⟨_, rfl⟩
  have he : u = y.setRb Reg.KEY_STATUS 0 true := by rw [hu, hy, State.deriveSlot0]
  have hyr : y.regs = x.regs := by rw [hy]; rfl
  have huk : u.keys = y.keys := by rw [he]; rfl
  refine ⟨?_, he ▸ rb_setRb_self (by decide), ?_, fun i hi => ?_, fun o ho => ?_⟩
  · rw [he, State.latch, rb_setRb_other (by decide), State.rb, State.reg, hyr, hx]
    exact rb_setRb_self (by decide)
  · rw [slot_congr huk, hy, slot_setSlot, hxs]
  · rw [slot_congr huk, hy, slot_setSlot_ne hi, hxs]
  · rw [he, reg_setRb, if_neg fun c => ho (by simp [c]), State.reg, hyr, hx]
    exact reg_setReg_ne fun c => ho (by simp [c])

end Writes

/-- Settles O56: of several sources the first that acts finds the latch clear, and the others find it set. -/
theorem keyStoreHappenings : Obligations.KeyStoreHappenings := by
  intro s
  refine ⟨fun upset hd => ⟨fun h => ⟨_, rfl, keyScrub_on hd h rfl⟩, fun h => ⟨_, congrArg Host.Outcome.next (keyScrub_off h), ?_, fun i => ?_⟩⟩,
    fun pins us mesh op u hu => ?_, fun v hv => ⟨fun h => ?_, fun h => ?_⟩, fun v => ⟨fun h => ?_, fun h => ?_⟩⟩
  · exact fun o _ => (within_upsetSlots s upset).leaves (P := fun _ => True) (by decide) o trivial
  · exact upsetSlots_slot i.isLt
  · have hw : u = s.watched pins.toNat us mesh := hu
    obtain ⟨a, ha⟩ : ∃ a, a = u.setRf Reg.KEY_TAMPER_STATUS 0 5 u.tamperActive := ⟨_, rfl⟩
    obtain ⟨t, ht⟩ : ∃ t, t = s.tamperSee pins.toNat us mesh op := ⟨_, rfl⟩
    have he := tamperSee_eq (op := op) pins.isLt hw
    rw [← ha, ← ht] at he
    obtain ⟨a1, a2, a3, a4⟩ := shownActive_spec ha
    have h5 : ∀ i ∈ List.range 5, i < 5 := fun i => List.mem_range.1
    have hul : ∀ o, u.reg o = s.reg o := fun o => by rw [hw]; rfl
    have hlatch : a.latch = s.latch := a1.trans (by rw [State.latch, State.rb, hul]; rfl)
    have hd : a.domOn pdKey = s.domOn pdKey := domOn_congr ((a3 _ (by decide)).trans (hul _))
    have hslots : u.keys.slots = s.keys.slots := by rw [hw]; rfl
    refine ⟨t, congrArg Host.Outcome.next ht.symm, fun hnone => ?_, fun n hn hb => ?_⟩
    · rw [hits_none fun i hi => ?_] at he
      · rw [he]
        exact ⟨a2, hlatch, fun o ho => (a3 o (by simpa using ho)).trans (hul o)⟩
      · cases hi' : u.tamperActive.testBit i with
        | false => rfl
        | true => rw [hnone i (h5 i hi) hi']; rfl
    · have hp : (u.tamperActive.testBit n && !s.tamperActive.testBit n) = true := by rw [hn, hb]; rfl
      have hmem := List.mem_range.2 n.isLt
      obtain ⟨c1, c2⟩ := (hits_cause h5 he).2 n hmem hp
      refine ⟨c1, c2, fun hl hk => ?_, fun hl => ?_⟩
      · obtain ⟨z1, z2, z3, z4⟩ := hits_zeroise h5 (hlatch.trans hl) (hd.trans hk) ⟨n, hmem, hp⟩ he
        rw [a2, hslots] at z1
        refine ⟨z2, z3, fun i h1 h4 => ?_, fun i hi => ?_, fun hwf i hi => ?_, fun e1 e2 => z4 ?_ ?_⟩
        · rw [State.slot, z1]
          exact get_filterMap (fun _ _ => zeroEntry_key) id (fun k => zeroEntry_fused h1 h4) rfl
        · rw [State.slot, z1]
          exact get_zero_any hi
        · rw [State.slot, z1]
          exact get_zero_wf hi hwf
        · rw [a4.rtc rfl, hw]
          exact e1
        · rw [a4.pwr rfl, hw]
          exact e2
      · rw [(hits_again h5 (hlatch.trans hl) he).1, a2]
  · rcases h with h | h | h
    · exact writeCause_of_refused (by decide) ((unitRefuses_key rfl).trans (keyRefuses_clr hv (.inl h)))
    · exact writeCause_of_refused (by decide) ((unitRefuses_key rfl).trans (keyRefuses_clr hv (.inr h)))
    · exact writeCause_of_lockout (by decide) (by decide) (by decide) h
  · obtain ⟨y, hy⟩ : ∃ y, y = s.setReg Reg.KEY_TAMPER_CLR (s.reg Reg.KEY_TAMPER_CLR) := ⟨_, rfl⟩
    have hyr : ∀ o, y.reg o = s.reg o := fun o => by
      rw [hy, reg_setReg]
      split
      · next ho => rw [ho]
      · rfl
    have hys : ∀ i, y.slot i = s.slot i := fun i => slot_congr (by rw [hy]; rfl)
    have he := tamperClr_eq h hv
    rw [← hy] at he
    obtain ⟨d1, d2, d3, d4, d5⟩ := deriveSlot0_spec (s := y) rfl rfl
    refine ⟨_, congrArg Host.Outcome.next he, d1, d2, ?_, fun i hi => ?_, fun o ho => (d5 o ho).trans (hyr o)⟩
    · rw [d3, hys]
    · rw [d4 i hi, hys]
  · rcases h with h | h
    · exact writeCause_of_refused (by decide) ((unitRefuses_key rfl).trans (keyRefuses_floor h))
    · exact writeCause_of_lockout (by decide) (by decide) (by decide) h
  · exact ⟨_, congrArg Host.Outcome.next (keyFloorWrite_eq h), reg_setReg_self, fun o ho => reg_setReg_ne (by simpa using ho), (within_setReg _ _ _).onlyRegs⟩

end Sys2Proof.Machine

/-! SNAP, LOAD and CLEAR of the energy accumulators (R317, R325). -/

namespace Sys2Proof.Machine

-- One declaration after another: side by side, their threads' stacks pass the memory limit of a check.
set_option Elab.async false

variable {s t u x : State}

/-! ### One accumulator -/

section Ops
variable {op c a : Nat} {l : List (Nat × Nat)}

theorem accOf_setAcc {v : Nat} : (s.setAcc c a v).accOf c a = v % accMod := Tab.get_put_self

theorem accOf_setAcc_ne {d b v : Nat} (ha : a < 40) (hb : b < 40) (h : (d, b) ≠ (c, a)) : (s.setAcc c a v).accOf d b = s.accOf d b :=
  Tab.get_put_ne fun he => h (Prod.ext (by omega) (by omega))

/-- What LOAD and CLEAR write to an accumulator. -/
def State.nrgVal (s : State) (op c a : Nat) : Nat :=
  if op = 2 then (s.tw (snapOff c a)).toNat + (s.tw (snapOff c a + 4)).toNat * 2 ^ 32 + (s.tw (snapOff c a + 8)).toNat * 2 ^ 64 else 0

theorem nrgVal_lt : s.nrgVal op c a < accMod := by
  have h0 := (s.tw (snapOff c a)).isLt
  have h1 := (s.tw (snapOff c a + 4)).isLt
  have h2 := (s.tw (snapOff c a + 8)).isLt
  unfold State.nrgVal accMod
  split <;> omega

/-- SNAP of one accumulator. -/
def State.snapOne (s : State) (c a : Nat) : State :=
  ((s.setTw (snapOff c a) (word (s.accOf c a))).setTw (snapOff c a + 4) (word (s.accOf c a >>> 32))).setTw (snapOff c a + 8)
    (word (s.accOf c a >>> 64))

/-- One operation on one accumulator. -/
def State.nrgOne (s : State) (op c a : Nat) : State := if op = 1 then s.snapOne c a else s.setAcc c a (s.nrgVal op c a)

theorem nrgOp_eq : s.nrgOp op c = (List.range 40).foldl (fun s a => s.nrgOne op c a) s := by
  unfold State.nrgOp State.nrgOne State.nrgVal
  congr 1
  funext y a
  split
  · rfl
  · rfl
  · next h1 h2 => rw [if_neg h1, if_neg h2]

/-- The accumulators of a list of circuits, by circuit and number. -/
def accsOf (cs : List Nat) : List (Nat × Nat) := cs.flatMap fun c => (List.range 40).map fun a => (c, a)

theorem mem_accsOf {cs : List Nat} {p : Nat × Nat} : p ∈ accsOf cs ↔ p.1 ∈ cs ∧ p.2 < 40 := by
  obtain ⟨c, a⟩ := p
  unfold accsOf
  simp only [List.mem_flatMap, List.mem_map, List.mem_range, Prod.mk.injEq]
  constructor
  · rintro ⟨d, hd, b, hb, rfl, rfl⟩
    exact ⟨hd, hb⟩
  · rintro ⟨hc, ha⟩
    exact ⟨c, hc, a, ha, rfl, rfl⟩

/-- The operations on several circuits, accumulator by accumulator. -/
theorem nrgOps_eq {cs : List Nat} : cs.foldl (fun s c => s.nrgOp op c) s = (accsOf cs).foldl (fun s p => s.nrgOne op p.1 p.2) s := by
  induction cs generalizing s with
  | nil => rfl
  | cons c cs ih =>
    rw [List.foldl_cons, ih]
    unfold accsOf
    rw [List.flatMap_cons, List.foldl_append, List.foldl_map, ← nrgOp_eq]

theorem nodup_accsOf {cs : List Nat} (h : cs.Nodup) : (accsOf cs).Nodup := by
  induction cs with
  | nil => exact List.nodup_nil
  | cons c cs ih =>
    obtain ⟨hc, hn⟩ := List.nodup_cons.1 h
    rw [accsOf, List.flatMap_cons]
    refine List.nodup_append.2 ⟨List.nodup_range.map fun a b h => (Prod.mk.inj h).2, ih hn, fun p hp q hq he => ?_⟩
    obtain ⟨a, -, rfl⟩ := List.mem_map.1 hp
    have hc' : c ∈ cs := by
      rw [← he] at hq
      exact (mem_accsOf.1 hq).1
    exact hc hc'

/-- The table words of a snapshot's accumulator. -/
abbrev OfSnap (c a o : Nat) : Prop := o = snapOff c a ∨ o = snapOff c a + 4 ∨ o = snapOff c a + 8

theorem snapOne_tw_ne {o : Nat} (h : ¬ OfSnap c a o) : (s.snapOne c a).tw o = s.tw o := by
  unfold State.snapOne
  rw [tw_setTw, if_neg fun e => h (.inr (.inr e)), tw_setTw, if_neg fun e => h (.inr (.inl e)), tw_setTw, if_neg fun e => h (.inl e)]

theorem snapOne_tw : (s.snapOne c a).tw (snapOff c a) = word (s.accOf c a) ∧ (s.snapOne c a).tw (snapOff c a + 4) = word (s.accOf c a >>> 32) ∧
    (s.snapOne c a).tw (snapOff c a + 8) = word (s.accOf c a >>> 64) := by
  unfold State.snapOne
  refine ⟨?_, ?_, ?_⟩
  · rw [tw_setTw, if_neg (by omega), tw_setTw, if_neg (by omega), tw_setTw, if_pos rfl]
  · rw [tw_setTw, if_neg (by omega), tw_setTw, if_pos rfl]
  · rw [tw_setTw, if_pos rfl]

theorem snap_disjoint {d b o : Nat} (ha : a < 40) (hb : b < 40) (h : (d, b) ≠ (c, a)) (ho : OfSnap d b o) : ¬ OfSnap c a o := by
  intro hc
  refine h (Prod.ext ?_ ?_) <;> (unfold OfSnap snapOff at *; omega)

/-- The snapshots of the accumulators `l`. -/
theorem snaps_spec (hn : l.Nodup) (hl : ∀ p ∈ l, p.2 < 40) (hu : u = l.foldl (fun s p => s.nrgOne 1 p.1 p.2) s) : u.acc = s.acc ∧
    (∀ p ∈ l, u.tw (snapOff p.1 p.2) = word (s.accOf p.1 p.2) ∧ u.tw (snapOff p.1 p.2 + 4) = word (s.accOf p.1 p.2 >>> 32) ∧
      u.tw (snapOff p.1 p.2 + 8) = word (s.accOf p.1 p.2 >>> 64)) ∧
    ∀ o, (∀ p ∈ l, ¬ OfSnap p.1 p.2 o) → u.tw o = s.tw o := by
  induction l generalizing s with
  | nil =>
    rw [hu]
    exact ⟨rfl, fun p hp => (nomatch hp), fun _ _ => rfl⟩
  | cons q l ih =>
    obtain ⟨c, a⟩ := q
    obtain ⟨hq, hn'⟩ := List.nodup_cons.1 hn
    have ha : a < 40 := hl _ List.mem_cons_self
    obtain ⟨h1, h2, h3⟩ := ih (s := s.snapOne c a) hn' (fun p hp => hl p (List.mem_cons_of_mem _ hp)) hu
    have hacc : ∀ d b, (s.snapOne c a).accOf d b = s.accOf d b := fun _ _ => rfl
    refine ⟨h1, fun p hp => ?_, fun o ho => ?_⟩
    · by_cases he : p = (c, a)
      · subst he
        have hkeep : ∀ o, OfSnap c a o → u.tw o = (s.snapOne c a).tw o := fun o ho => h3 o fun p hp =>
          snap_disjoint (hl p (List.mem_cons_of_mem _ hp)) ha (fun e => hq (by rw [e]; exact hp)) ho
        obtain ⟨g1, g2, g3⟩ := snapOne_tw (s := s) (c := c) (a := a)
        exact ⟨(hkeep _ (.inl rfl)).trans g1, (hkeep _ (.inr (.inl rfl))).trans g2, (hkeep _ (.inr (.inr rfl))).trans g3⟩
      · exact h2 p ((List.mem_cons.1 hp).resolve_left he)
    · rw [h3 o fun p hp => ho p (List.mem_cons_of_mem _ hp), snapOne_tw_ne (ho (c, a) List.mem_cons_self)]

/-- LOAD or CLEAR of the accumulators `l`. -/
theorem loads_spec (h : op ≠ 1) (hn : l.Nodup) (hl : ∀ p ∈ l, p.2 < 40) (hu : u = l.foldl (fun s p => s.nrgOne op p.1 p.2) s) :
    u.tables = s.tables ∧ (∀ p ∈ l, u.accOf p.1 p.2 = s.nrgVal op p.1 p.2) ∧
    ∀ p : Nat × Nat, p.2 < 40 → p ∉ l → u.accOf p.1 p.2 = s.accOf p.1 p.2 := by
  induction l generalizing s with
  | nil =>
    rw [hu]
    exact ⟨rfl, fun p hp => (nomatch hp), fun _ _ _ => rfl⟩
  | cons q l ih =>
    obtain ⟨c, a⟩ := q
    obtain ⟨hq, hn'⟩ := List.nodup_cons.1 hn
    have ha : a < 40 := hl _ List.mem_cons_self
    obtain ⟨x, hx⟩ : ∃ x, x = s.setAcc c a (s.nrgVal op c a) := ⟨_, rfl⟩
    have he : u = l.foldl (fun s p => s.nrgOne op p.1 p.2) x := by
      rw [hu, hx, List.foldl_cons, State.nrgOne, if_neg h]
    obtain ⟨h1, h2, h3⟩ := ih hn' (fun p hp => hl p (List.mem_cons_of_mem _ hp)) he
    have hxt : x.tables = s.tables := by rw [hx]; rfl
    have hval : ∀ d b, x.nrgVal op d b = s.nrgVal op d b := fun d b => by
      unfold State.nrgVal State.tw
      rw [hxt]
    have hself : x.accOf c a = s.nrgVal op c a := by rw [hx, accOf_setAcc, Nat.mod_eq_of_lt nrgVal_lt]
    have hne : ∀ p : Nat × Nat, p.2 < 40 → p ≠ (c, a) → x.accOf p.1 p.2 = s.accOf p.1 p.2 := fun p hp h => by
      rw [hx, accOf_setAcc_ne ha hp h]
    refine ⟨h1.trans hxt, fun p hp => ?_, fun p hp hpl => ?_⟩
    · by_cases hpc : p = (c, a)
      · subst hpc
        rw [h3 _ ha hq]
        exact hself
      · rw [h2 p ((List.mem_cons.1 hp).resolve_left hpc), hval]
    · obtain ⟨hpc, hpl'⟩ := not_or.1 (mt List.mem_cons.2 hpl)
      rw [h3 p hp hpl', hne p hp hpc]

end Ops

/-! ### NRG_CMD -/

section Command
variable {op : Nat} {v : Word}

/-- The circuits that an operation takes at once leave these of the statement's values. -/
theorem nrgOps_spec {cs : List Nat} (hn : cs.Nodup) (hu : u = cs.foldl (fun s c => s.nrgOp op c) s) {c a : Nat} (ha : a < 40) :
    (c ∈ cs →
      (op = 1 → u.tw (snapOff c a) = word (s.accOf c a) ∧ u.tw (snapOff c a + 4) = word (s.accOf c a >>> 32) ∧
        u.tw (snapOff c a + 8) = word (s.accOf c a >>> 64) ∧ u.accOf c a = s.accOf c a) ∧
      (op = 2 → u.accOf c a = (s.tw (snapOff c a)).toNat + (s.tw (snapOff c a + 4)).toNat * 2 ^ 32 +
        (s.tw (snapOff c a + 8)).toNat * 2 ^ 64) ∧
      (op = 3 → u.accOf c a = 0)) ∧
    (c ∉ cs → u.accOf c a = s.accOf c a ∧ u.tw (snapOff c a) = s.tw (snapOff c a)) := by
  rw [nrgOps_eq] at hu
  have hl : ∀ p ∈ accsOf cs, p.2 < 40 := fun p hp => (mem_accsOf.1 hp).2
  have hmem : c ∈ cs → (c, a) ∈ accsOf cs := fun h => mem_accsOf.2 ⟨h, ha⟩
  by_cases h1 : op = 1
  · subst h1
    obtain ⟨g1, g2, g3⟩ := snaps_spec (nodup_accsOf hn) hl hu
    have hacc : u.accOf c a = s.accOf c a := by rw [State.accOf, g1]; rfl
    refine ⟨fun h => ⟨fun _ => ?_, fun c => absurd c (by decide), fun c => absurd c (by decide)⟩, fun h => ⟨hacc, g3 _ fun p hp => ?_⟩⟩
    · obtain ⟨e1, e2, e3⟩ := g2 _ (hmem h)
      exact ⟨e1, e2, e3, hacc⟩
    · exact snap_disjoint (hl p hp) ha (fun e => h (by rw [(Prod.mk.inj e).1]; exact (mem_accsOf.1 hp).1)) (.inl rfl)
  · obtain ⟨g1, g2, g3⟩ := loads_spec h1 (nodup_accsOf hn) hl hu
    refine ⟨fun h => ⟨fun c => absurd c h1, fun h2 => ?_, fun h3 => ?_⟩, fun h => ⟨g3 (c, a) ha fun hp => h (mem_accsOf.1 hp).1, ?_⟩⟩
    · exact (g2 _ (hmem h)).trans (if_pos h2)
    · exact (g2 _ (hmem h)).trans (if_neg (by omega))
    · rw [State.tw, g1]
      rfl

/-- The circuits that NRG_CMD selects. -/
def State.nrgSel (s : State) : List Nat := (List.range 12).filter (fun c => decide (s.rf Reg.NRG_CMD 16 12 >>> c % 2 = 1))

/-- Those of them that are enabled. -/
def State.nrgOn (s : State) : List Nat := s.nrgSel.filter (fun c => s.rb (Reg.NRG_CIR_CTRL c) 0)

/-- Those of them that are not. -/
def State.nrgOff (s : State) : List Nat := s.nrgSel.filter (fun c => !s.nrgOn.contains c)

theorem nrgGo_none (hx : x = s.unready Reg.NRG_CMD_STATUS) (h : x.rf Reg.NRG_CMD 16 12 = 0) : s.nrgGo = x.nrgCmdDone 1 (x.tbNow x.acqTb) := by
  unfold State.nrgGo
  dsimp only
  rw [← hx, if_pos h]

theorem nrgGo_off (hx : x = s.unready Reg.NRG_CMD_STATUS) (h : x.rf Reg.NRG_CMD 16 12 ≠ 0) (hon : x.nrgOn = []) :
    s.nrgGo = (x.nrgOff.foldl (fun s c => s.nrgOp (x.rf Reg.NRG_CMD 1 2) c) x).nrgCmdDone 0 (x.tbNow x.acqTb) := by
  unfold State.nrgOff
  unfold State.nrgOn State.nrgSel at hon ⊢
  unfold State.nrgGo
  dsimp only
  rw [← hx, if_neg h, hon]

theorem nrgGo_on (hx : x = s.unready Reg.NRG_CMD_STATUS) (h : x.rf Reg.NRG_CMD 16 12 ≠ 0) (hon : x.nrgOn ≠ []) (hu : u = s.nrgGo) :
    ∃ w, u = { x.nrgOff.foldl (fun s c => s.nrgOp (x.rf Reg.NRG_CMD 1 2) c) x with
      nrgCmd := some { op := x.rf Reg.NRG_CMD 1 2, left := x.nrgOn.foldl (fun a d => a + 2 ^ d) 0, at_ := w } } := by
  obtain ⟨c, l, hcl⟩ := List.exists_cons_of_ne_nil hon
  unfold State.nrgOff
  unfold State.nrgOn State.nrgSel at hcl ⊢
  unfold State.nrgGo at hu
  dsimp only at hu
  rw [← hx, if_neg h, hcl] at hu
  rw [hcl]
  exact ⟨_, hu⟩

theorem nrgCmdDone_spec {res : Nat} {w : Stamp} (h : res < 256) (hu : u = s.nrgCmdDone res w) :
    s.Reported u Reg.NRG_CMD_STATUS res ∧ u.rb Reg.NRG_CMD 0 = false ∧ Within 0x8 s u := by
  have hw := hu ▸ within_nrgCmdDone s res w
  obtain ⟨y, hy⟩ : ∃ y, y = (s.setReg Reg.NRG_SNAP_NS (word (stampNs w))).setReg Reg.NRG_SNAP_SEC_LO (word (stampSec w)) := ⟨_, rfl⟩
  have he : u = (y.resultShown Reg.NRG_CMD_STATUS res).setRb Reg.NRG_CMD 0 false := by rw [hu, hy]; rfl
  have hseq : y.rf Reg.NRG_CMD_STATUS 0 16 = s.rf Reg.NRG_CMD_STATUS 0 16 := by
    rw [State.rf, hy, reg_setReg_ne (by decide), reg_setReg_ne (by decide)]
    rfl
  refine ⟨State.Reported.of_seq ?_ hseq, he ▸ rb_setRb_self (by decide), hw⟩
  rw [he]
  exact (reported_resultShown h).after (reg_setRb.trans (if_neg (by decide)))

/-- The command as it stands before it runs: its group is not READY. -/
def State.nrgAsked (s : State) (v : Word) : State :=
  (s.setReg Reg.NRG_CMD (merge 0xFFF0007 v (s.reg Reg.NRG_CMD))).unready Reg.NRG_CMD_STATUS

theorem nrgCmd_poke (h : s.Accepts Reg.NRG_CMD v) (hv : bit v 0 = true) :
    s.poke Reg.NRG_CMD v {} = (s.setReg Reg.NRG_CMD (merge 0xFFF0007 v (s.reg Reg.NRG_CMD))).nrgGo := by
  rw [h.poke_plain (r := ⟨0x150008, 0x4, 1, 0x4, 1, 0x0, 0xFFF0007, 0x0, 0x0, 0x0, .single, none⟩) (by decide) (by decide) rfl rfl,
    unitHook_nrg (by decide), State.nrgHook, if_pos rfl, if_pos hv]

/-- What the fields of the command read, and what it leaves. -/
theorem nrgAsked_spec (hv : bit v 0 = true) (hx : x = s.nrgAsked v) : x.rf Reg.NRG_CMD 16 12 = fld v 16 12 ∧ x.rf Reg.NRG_CMD 1 2 = fld v 1 2 ∧
    x.rb Reg.NRG_CMD 0 = true ∧ x.rb Reg.NRG_CMD_STATUS 31 = false ∧ x.rf Reg.NRG_CMD_STATUS 0 16 = s.rf Reg.NRG_CMD_STATUS 0 16 ∧
    Leaves (fun o => o ≠ Reg.NRG_CMD ∧ o ≠ Reg.NRG_CMD_STATUS) s x ∧ Within 0x8 s x := by
  obtain ⟨y, hy⟩ : ∃ y, y = s.setReg Reg.NRG_CMD (merge 0xFFF0007 v (s.reg Reg.NRG_CMD)) := ⟨_, rfl⟩
  have he : x = y.setRb Reg.NRG_CMD_STATUS 31 false := by rw [hx, hy]; rfl
  have hcmd : x.reg Reg.NRG_CMD = merge 0xFFF0007 v (s.reg Reg.NRG_CMD) := by rw [he, reg_setRb, if_neg (by decide), hy, reg_setReg_self]
  refine ⟨?_, ?_, ?_, he ▸ rb_setRb_self (by decide), ?_, ?_, ?_⟩
  · rw [State.rf, hcmd, fld_merge (by decide)]
  · rw [State.rf, hcmd, fld_merge (by decide)]
  · rw [State.rb, hcmd, bit_merge, if_pos (by decide), hv]
  · rw [hx]
    refine unready_seq.trans ?_
    rw [State.rf, reg_setReg_ne (by decide)]
    rfl
  · rw [he, hy]
    exact (leaves_setReg fun h => h.1 rfl).trans (leaves_setRb fun h => h.2 rfl)
  · rw [he, hy]
    exact (within_setRb _ _ _ _).after (by decide) (within_setReg _ _ _)

/-- A bit of a mask by its number. -/
theorem mask_bit {c : Nat} (h : c < 12) : fld v 16 12 >>> c % 2 = 1 ↔ bit v (16 + c) = true := by
  have hb := testBit_fld (w := v) (lo := 16) (n := 12) (i := c)
  rw [decide_eq_true h, Bool.true_and, Nat.testBit_eq_decide_div_mod_eq, ← Nat.shiftRight_eq_div_pow] at hb
  rw [← hb, decide_eq_true_iff]

section Selected
variable (hx : x = s.nrgAsked v) (hv : bit v 0 = true)
include hx hv

theorem asked_enabled {c : Nat} (hc : c < 12) : x.rb (Reg.NRG_CIR_CTRL c) 0 = s.rb (Reg.NRG_CIR_CTRL c) 0 := by
  obtain ⟨-, -, -, -, -, hl, -⟩ := nrgAsked_spec hv hx
  exact hl.rb ⟨by unfold Reg.NRG_CIR_CTRL Reg.NRG_CMD; omega, by unfold Reg.NRG_CIR_CTRL Reg.NRG_CMD_STATUS; omega⟩ 0

theorem mem_nrgSel {c : Nat} : c ∈ x.nrgSel ↔ c < 12 ∧ bit v (16 + c) = true := by
  obtain ⟨hm, -⟩ := nrgAsked_spec hv hx
  unfold State.nrgSel
  rw [hm, List.mem_filter, List.mem_range, decide_eq_true_iff]
  exact and_congr_right fun h => mask_bit h

theorem mem_nrgOn {c : Nat} : c ∈ x.nrgOn ↔ c < 12 ∧ bit v (16 + c) = true ∧ s.rb (Reg.NRG_CIR_CTRL c) 0 = true := by
  unfold State.nrgOn
  rw [List.mem_filter, mem_nrgSel hx hv, and_assoc]
  exact and_congr_right fun h => by rw [asked_enabled hx hv h]

theorem mem_nrgOff {c : Nat} : c ∈ x.nrgOff ↔ c < 12 ∧ bit v (16 + c) = true ∧ s.rb (Reg.NRG_CIR_CTRL c) 0 = false := by
  unfold State.nrgOff
  rw [List.mem_filter, mem_nrgSel hx hv, and_assoc, Bool.not_eq_true', ← Bool.not_eq_true, List.contains_iff_mem, mem_nrgOn hx hv, ← Bool.not_eq_true]
  exact and_congr_right fun h => and_congr_right fun h' => not_congr ⟨fun c => c.2.2, fun c => ⟨h, h', c⟩⟩

theorem nrgLeft_bit {c : Nat} (hc : c < 12) :
    (x.nrgOn.foldl (fun a d => a + 2 ^ d) 0).testBit c = (bit v (16 + c) && s.rb (Reg.NRG_CIR_CTRL c) 0) := by
  obtain ⟨p, hp⟩ : ∃ p : Nat → Bool, x.nrgOn = (List.range 12).filter p := ⟨_, List.filter_filter⟩
  have hsum : (x.nrgOn.foldl (fun a d => a + 2 ^ d) 0) = (List.range 12).foldl (fun a i => a + 2 ^ i * (p i).toNat) 0 := by
    rw [hp, List.foldl_filter]
    congr 1
    funext a i
    cases p i <;> simp
  have hpc : p c = true ↔ c ∈ x.nrgOn := by
    rw [hp, List.mem_filter, List.mem_range]
    exact ⟨fun h => ⟨hc, h⟩, fun h => h.2⟩
  rw [hsum, (testBit_sum 12).2 c hc, Bool.eq_iff_iff, hpc, mem_nrgOn hx hv, Bool.and_eq_true]
  exact ⟨fun h => h.2, fun h => ⟨hc, h⟩⟩

end Selected

/-- Settles O50: the circuits that are not enabled are operated on at once, and the others keep the command. -/
theorem energyCommands : Obligations.EnergyCommands := by
  intro s v cmd op hacc hv hop hcmd
  obtain ⟨y, hy⟩ : ∃ y, y = s.setReg Reg.NRG_CMD (merge 0xFFF0007 v (s.reg Reg.NRG_CMD)) := ⟨_, rfl⟩
  obtain ⟨x, hx⟩ : ∃ x, x = s.nrgAsked v := ⟨_, rfl⟩
  obtain ⟨t, ht⟩ : ∃ t, t = y.nrgGo := ⟨_, rfl⟩
  have hxy : x = y.unready Reg.NRG_CMD_STATUS := by rw [hx, hy, State.nrgAsked]
  have he : exec cmd s = .next t := by
    rw [ht, hy, ← nrgCmd_poke hacc hv]
    rcases hcmd with ⟨rfl, -⟩ | ⟨rfl, -⟩ | ⟨rfl, -⟩ <;> rfl
  obtain ⟨f1, f2, f3, f4, f5, f6, f7⟩ := nrgAsked_spec hv hx
  have hxacc : ∀ c a, x.accOf c a = s.accOf c a := fun c a => by rw [State.accOf, f7.acc rfl]; rfl
  have hxtw : ∀ o, x.tw o = s.tw o := fun o => by rw [State.tw, f7.tables rfl]; rfl
  obtain ⟨z, hz⟩ : ∃ z, z = x.nrgOff.foldl (fun s c => s.nrgOp (x.rf Reg.NRG_CMD 1 2) c) x := ⟨_, rfl⟩
  have hzw : Within 0x1080000 x z := hz ▸ Within.foldl (fun y c h => (within_nrgOp y _ c).after (by decide) h) (.refl x)
  have hzregs : z.regs = x.regs := hzw.regs rfl
  have hn : x.nrgOff.Nodup := (List.nodup_range.filter _).filter _
  have hops : ∀ c a : Nat, a < 40 → _ := fun c a ha => nrgOps_spec (c := c) hn hz ha
  rw [f2, hop] at hops
  refine ⟨fun hm => ?_, fun hm hall => ?_, fun ⟨c, hc, hen⟩ => ?_⟩
  · have hu := ht.trans (nrgGo_none hxy (f1.trans hm))
    obtain ⟨r1, r2, r3⟩ := nrgCmdDone_spec (by decide) hu
    exact ⟨t, he, r1.of_seq f5, r2, by rw [r3.acc rfl, f7.acc rfl], by rw [r3.tables rfl, f7.tables rfl]⟩
  · have hon : x.nrgOn = [] := List.eq_nil_iff_forall_not_mem.2 fun c hc => by
      obtain ⟨h1, h2, h3⟩ := (mem_nrgOn hx hv).1 hc
      rw [hall ⟨c, h1⟩ h2] at h3
      exact absurd h3 (by decide)
    have hu := ht.trans (nrgGo_off hxy (by rw [f1]; exact hm) hon)
    rw [← hz] at hu
    obtain ⟨r1, r2, r3⟩ := nrgCmdDone_spec (by decide) hu
    have hseq : z.rf Reg.NRG_CMD_STATUS 0 16 = s.rf Reg.NRG_CMD_STATUS 0 16 := by
      rw [State.rf, State.reg, hzregs]
      exact f5
    have htacc : ∀ c a, t.accOf c a = z.accOf c a := fun c a => by rw [State.accOf, r3.acc rfl]; rfl
    have httw : ∀ o, t.tw o = z.tw o := fun o => by rw [State.tw, r3.tables rfl]; rfl
    refine ⟨t, he, r1.of_seq hseq, r2, fun c a => ⟨fun hb => ?_, fun hb => ?_⟩⟩
    · have hmem : c.val ∈ x.nrgOff := (mem_nrgOff hx hv).2 ⟨c.isLt, hb, hall c hb⟩
      have h := (hops c a a.isLt).1 hmem
      simp only [hxacc, hxtw, ← htacc, ← httw] at h
      exact h
    · have h := (hops c a a.isLt).2 fun hmem => by
        rw [((mem_nrgOff hx hv).1 hmem).2.1] at hb
        exact absurd hb (by decide)
      simp only [hxacc, hxtw, ← htacc, ← httw] at h
      exact h
  · have hmem : c.val ∈ x.nrgOn := (mem_nrgOn hx hv).2 ⟨c.isLt, hc, hen⟩
    have hm : fld v 16 12 ≠ 0 := fun h0 => by
      have := (mask_bit c.isLt).2 hc
      rw [h0, Nat.zero_shiftRight] at this
      exact absurd this (by decide)
    obtain ⟨w, hu⟩ := nrgGo_on hxy (by rw [f1]; exact hm) (List.ne_nil_of_mem hmem) ht
    rw [← hz] at hu
    have htr : t.regs = x.regs := by rw [hu]; exact hzregs
    have htacc : ∀ c a, t.accOf c a = z.accOf c a := fun c a => by rw [hu]; rfl
    refine ⟨t, _, he, by rw [hu], f2.trans hop, ?_, ?_, fun c => nrgLeft_bit hx hv c.isLt, fun c a hen => ?_⟩
    · rw [State.rb, State.reg, htr]
      exact f3
    · rw [State.rb, State.reg, htr]
      exact f4
    · have h := (hops c a a.isLt).2 fun hmem => by
        rw [((mem_nrgOff hx hv).1 hmem).2.2] at hen
        exact absurd hen (by decide)
      rw [htacc, h.1, hxacc]

end Command

end Sys2Proof.Machine

/-! Energy circuits, billing intervals and meter-test pulses (R307, R319-R323). -/

namespace Sys2Proof.Machine

-- One declaration after another: side by side, their threads' stacks pass the memory limit of a check.
set_option Elab.async false

variable {s t u x : State}

/-! ### Enabling a circuit -/

section Enable
variable {c d : Nat} {y : NrgCirc} {r : NrgRun} {v : Word}

theorem nrgOf_congr (h : t.nrg = s.nrg) : t.nrgOf c = s.nrgOf c := by
  rw [State.nrgOf, h]
  rfl

theorem nrgOf_setNrg : (s.setNrg c y).nrgOf c = y := Tab.get_put_self
theorem nrgOf_setNrg_ne (h : d ≠ c) : (s.setNrg c y).nrgOf d = s.nrgOf d := Tab.get_put_ne h

theorem startStamp_eq : y.startStamp = thirdsStamp y.sec (y.k * periodThirds y.f60) := rfl

/-- The circuit as a run begins it. -/
def NrgCirc.begun (y : NrgCirc) (r : NrgRun) : NrgCirc :=
  { run := true, first := thirdsStamp r.sec (r.k * periodThirds r.f60), corrs := y.corrs, f60 := r.f60, sec := r.sec, k := r.k
    stopAt := r.stopAt, start := thirdsStamp r.sec (r.k * periodThirds r.f60), flags := intPartial, seq := y.seq, later := y.later.drop 1 }

theorem nrgBegin_eq : s.nrgBegin c r =
    (((((s.setNrg c ((s.nrgOf c).begun r)).setReg (Reg.NRG_CIR_STATUS c) 0).setRb Reg.NRG_SEQ_STATE c false).setRb Reg.NRG_NEU_STATE c
      false).setRb Reg.NRG_REV_STATE c false).setRb Reg.NRG_REV_STATE (16 + c) false := rfl

theorem nrgBegin_spec (hc : c < 12) (hu : u = s.nrgBegin c r) : u.nrgOf c = (s.nrgOf c).begun r ∧ u.reg (Reg.NRG_CIR_STATUS c) = 0 ∧
    u.rb Reg.NRG_SEQ_STATE c = false ∧ u.rb Reg.NRG_NEU_STATE c = false ∧ u.rb Reg.NRG_REV_STATE (16 + c) = false ∧
    AllRegsKept s u [Reg.NRG_CIR_STATUS c, Reg.NRG_SEQ_STATE, Reg.NRG_NEU_STATE, Reg.NRG_REV_STATE] := by
  have hst : 0x151004 ≤ Reg.NRG_CIR_STATUS c := by unfold Reg.NRG_CIR_STATUS; omega
  have h1 : Reg.NRG_CIR_STATUS c ≠ Reg.NRG_SEQ_STATE := by unfold Reg.NRG_SEQ_STATE; omega
  have h2 : Reg.NRG_CIR_STATUS c ≠ Reg.NRG_NEU_STATE := by unfold Reg.NRG_NEU_STATE; omega
  have h3 : Reg.NRG_CIR_STATUS c ≠ Reg.NRG_REV_STATE := by unfold Reg.NRG_REV_STATE; omega
  rw [nrgBegin_eq] at hu
  refine ⟨?_, ?_, ?_, ?_, hu ▸ rb_setRb_self (by omega), fun o ho => ?_⟩
  · refine (nrgOf_congr (s := s.setNrg c ((s.nrgOf c).begun r)) ?_).trans nrgOf_setNrg
    rw [hu]
    rfl
  · rw [hu, reg_setRb, if_neg h3, reg_setRb, if_neg h3, reg_setRb, if_neg h2, reg_setRb, if_neg h1, reg_setReg_self]
  · rw [hu, rb_setRb_other (by decide), rb_setRb_other (by decide), rb_setRb_other (by decide)]
    exact rb_setRb_self (by omega)
  · rw [hu, rb_setRb_other (by decide), rb_setRb_other (by decide)]
    exact rb_setRb_self (by omega)
  · simp only [List.mem_cons, List.not_mem_nil, or_false, not_or] at ho
    obtain ⟨g1, g2, g3, g4⟩ := ho
    rw [hu, reg_setRb, if_neg g4, reg_setRb, if_neg g4, reg_setRb, if_neg g3, reg_setRb, if_neg g2, reg_setReg_ne g1]
    rfl

theorem nrgCirCtrlRow (c : Fin 12) : regRow (Reg.NRG_CIR_CTRL c) =
    some ⟨0x151000, 0x40, 12, 0x4, 1, 0xA00, 0x3FFF7F, 0x0, 0x0, 0x79, .single, none⟩ := by
  revert c
  decide

theorem nrgCirCtrl_offset (c : Fin 12) : viewOf (Reg.NRG_CIR_CTRL c) = 0 ∧ Reg.NRG_CIR_CTRL c / 0x10000 = 21 ∧
    (0x150040 ≤ Reg.NRG_CIR_CTRL c && Reg.NRG_CIR_CTRL c < 0x150050) = false ∧
    (0x151000 ≤ Reg.NRG_CIR_CTRL c && Reg.NRG_CIR_CTRL c < 0x151300 && Reg.NRG_CIR_CTRL c % 0x40 = 0) = true := by
  revert c
  decide

/-- The correction setting that a write notes. -/
def State.corrSeen (s : State) (c : Nat) (v old : Word) : State := if fld v 1 2 = fld old 1 2 then s else s.corrNote c v

theorem corrSeen_spec {w : Word} (hu : u = s.corrSeen c v w) : (∃ l, u.nrgOf c = { s.nrgOf c with corrs := l }) ∧ Within 0x800000 s u := by
  unfold State.corrSeen at hu
  by_cases h : fld v 1 2 = fld w 1 2
  · rw [if_pos h] at hu
    rw [hu]
    exact ⟨⟨(s.nrgOf c).corrs, rfl⟩, .refl s⟩
  · rw [if_neg h] at hu
    rw [hu]
    exact ⟨⟨_, nrgOf_setNrg⟩, within_corrNote s c v⟩

theorem circuitEnable_poke (c : Fin 12) (h : s.Accepts (Reg.NRG_CIR_CTRL c) v) (hv : bit v 0 = true) (ho : s.rb (Reg.NRG_CIR_CTRL c) 0 = false) :
    s.poke (Reg.NRG_CIR_CTRL c) v {} = ((s.setReg (Reg.NRG_CIR_CTRL c) (merge 0x3FFF7F v (s.reg (Reg.NRG_CIR_CTRL c)))).corrSeen c v
      (s.reg (Reg.NRG_CIR_CTRL c))).nrgEnable c := by
  obtain ⟨hview, hunit, hcfg, hrange⟩ := nrgCirCtrl_offset c
  have hne : Reg.NRG_CIR_CTRL c ≠ Reg.NRG_CMD := by unfold Reg.NRG_CIR_CTRL Reg.NRG_CMD; omega
  have hc : (Reg.NRG_CIR_CTRL c - 0x151000) / 0x40 = c := by unfold Reg.NRG_CIR_CTRL; omega
  rw [h.poke_plain hview (nrgCirCtrlRow c) rfl rfl, unitHook_nrg hunit, State.nrgHook, if_neg hne, if_neg (by rw [hcfg]; decide),
    if_pos hrange]
  dsimp only
  rw [hc, if_pos (by rw [hv]; exact congrArg (!·) ho)]
  rfl

/-- The run that an enable begins, or leaves to wait. -/
def State.nextRun (s : State) : NrgRun :=
  { f60 := s.rb Reg.PHS_CTRL 0, sec := (firstPeriod (s.rb Reg.PHS_CTRL 0) (s.tbNow s.acqTb)).1
    k := (firstPeriod (s.rb Reg.PHS_CTRL 0) (s.tbNow s.acqTb)).2 }

theorem nrgEnable_idle (h : (s.nrgOf c).run = false) : s.nrgEnable c =
    (s.setNrg c { s.nrgOf c with corrs := [(0, s.rb (Reg.NRG_CIR_CTRL c) 1, s.rb (Reg.NRG_CIR_CTRL c) 2)] }).nrgBegin c s.nextRun := by
  unfold State.nrgEnable
  dsimp only
  rw [h, if_neg Bool.false_ne_true]
  rfl

theorem nrgEnable_runs (h : (s.nrgOf c).run = true) : s.nrgEnable c =
    s.setNrg c { s.nrgOf c with later := (s.nrgOf c).later ++ [s.nextRun] } := by
  unfold State.nrgEnable
  dsimp only
  rw [if_pos h]
  rfl

theorem nextRun_congr (h : Leaves (fun o => o = Reg.PHS_CTRL ∨ o = Reg.ACQ_CTRL) s t) (ht : t.tbs = s.tbs) : t.nextRun = s.nextRun := by
  unfold State.nextRun
  rw [h.rb (.inl rfl), tbNow_congr ht, State.acqTb, h.rf (.inr rfl)]
  rfl

/-- EN written 1. -/
theorem circuitEnable_spec (c : Fin 12) (h : s.Accepts (Reg.NRG_CIR_CTRL c) v) (hv : bit v 0 = true) (ho : s.rb (Reg.NRG_CIR_CTRL c) 0 = false)
    (hu : u = s.poke (Reg.NRG_CIR_CTRL c) v {}) :
    ((s.nrgOf c).run = false → (u.nrgOf c).run = true ∧ (u.nrgOf c).f60 = s.rb Reg.PHS_CTRL 0 ∧
      ((u.nrgOf c).sec, (u.nrgOf c).k) = firstPeriod (s.rb Reg.PHS_CTRL 0) (s.tbNow s.acqTb) ∧
      (u.nrgOf c).first = (u.nrgOf c).startStamp ∧ (u.nrgOf c).flags = intPartial ∧ (u.nrgOf c).corrs = [(0, bit v 1, bit v 2)] ∧
      u.reg (Reg.NRG_CIR_STATUS c) = 0 ∧ u.rb Reg.NRG_SEQ_STATE c = false ∧ u.rb Reg.NRG_NEU_STATE c = false ∧
      u.rb Reg.NRG_REV_STATE (16 + c) = false ∧
      AllRegsKept s u [Reg.NRG_CIR_CTRL c, Reg.NRG_CIR_STATUS c, Reg.NRG_SEQ_STATE, Reg.NRG_NEU_STATE, Reg.NRG_REV_STATE]) ∧
    ((s.nrgOf c).run = true → AllRegsKept s u [Reg.NRG_CIR_CTRL c] ∧ ((u.nrgOf c).sec, (u.nrgOf c).k) = ((s.nrgOf c).sec, (s.nrgOf c).k) ∧
      ∃ r, (u.nrgOf c).later = (s.nrgOf c).later ++ [r] ∧ r.f60 = s.rb Reg.PHS_CTRL 0 ∧
        (r.sec, r.k) = firstPeriod (s.rb Reg.PHS_CTRL 0) (s.tbNow s.acqTb)) := by
  obtain ⟨a, ha⟩ : ∃ a, a = s.setReg (Reg.NRG_CIR_CTRL c) (merge 0x3FFF7F v (s.reg (Reg.NRG_CIR_CTRL c))) := ⟨_, rfl⟩
  obtain ⟨b, hb⟩ : ∃ b, b = a.corrSeen c v (s.reg (Reg.NRG_CIR_CTRL c)) := ⟨_, rfl⟩
  rw [circuitEnable_poke c h hv ho, ← ha, ← hb] at hu
  obtain ⟨⟨l, hbc⟩, hbw⟩ := corrSeen_spec hb
  have hbl : Leaves (fun _ => True) a b := hbw.leaves
  have hac : a.nrgOf c = s.nrgOf c := by rw [ha]; rfl
  rw [hac] at hbc
  have hsb : Leaves (· ≠ Reg.NRG_CIR_CTRL c) s b :=
    (ha ▸ leaves_setReg (P := (· ≠ Reg.NRG_CIR_CTRL c)) (by simp)).trans (hbl.mono fun _ _ => trivial)
  have hctrl : b.reg (Reg.NRG_CIR_CTRL c) = merge 0x3FFF7F v (s.reg (Reg.NRG_CIR_CTRL c)) := by rw [hbl _ trivial, ha, reg_setReg_self]
  have hrun : b.nextRun = s.nextRun := by
    refine nextRun_congr (fun o ho => hsb o ?_) ?_
    · rcases ho with rfl | rfl
      · unfold Reg.PHS_CTRL Reg.NRG_CIR_CTRL; omega
      · unfold Reg.ACQ_CTRL Reg.NRG_CIR_CTRL; omega
    · rw [hbw.tbs rfl, ha]
      rfl
  refine ⟨fun hr => ?_, fun hr => ?_⟩
  · obtain ⟨y, hy⟩ : ∃ y, y = b.setNrg c { b.nrgOf c with corrs := [(0, b.rb (Reg.NRG_CIR_CTRL c) 1, b.rb (Reg.NRG_CIR_CTRL c) 2)] } := ⟨_, rfl⟩
    rw [nrgEnable_idle (by rw [hbc]; exact hr), ← hy, hrun] at hu
    obtain ⟨g1, g2, g3, g4, g5, g6⟩ := nrgBegin_spec c.isLt hu
    have h1 : b.rb (Reg.NRG_CIR_CTRL c) 1 = bit v 1 := by rw [State.rb, hctrl, bit_merge, if_pos (by decide)]
    have h2 : b.rb (Reg.NRG_CIR_CTRL c) 2 = bit v 2 := by rw [State.rb, hctrl, bit_merge, if_pos (by decide)]
    have hyc : (y.nrgOf c).corrs = [(0, bit v 1, bit v 2)] := by rw [hy, nrgOf_setNrg, h1, h2]
    have hyr : y.regs = b.regs := by rw [hy]; rfl
    refine ⟨by rw [g1]; rfl, by rw [g1]; rfl, by rw [g1]; rfl, by rw [g1]; rfl, by rw [g1]; rfl, by rw [g1]; exact hyc, g2, g3, g4, g5, fun o ho => ?_⟩
    simp only [List.mem_cons, List.not_mem_nil, or_false, not_or] at ho
    obtain ⟨n0, n1, n2, n3, n4⟩ := ho
    rw [g6 o (by simp [n1, n2, n3, n4]), State.reg, hyr]
    exact hsb o n0
  · rw [nrgEnable_runs (by rw [hbc]; exact hr), hrun] at hu
    have huc : u.nrgOf c = { b.nrgOf c with later := (b.nrgOf c).later ++ [s.nextRun] } := by rw [hu, nrgOf_setNrg]
    rw [hbc] at huc
    have hur : u.regs = b.regs := by rw [hu]; rfl
    refine ⟨fun o ho => ?_, by rw [huc], s.nextRun, by rw [huc], rfl, rfl⟩
    rw [State.reg, hur]
    exact hsb o (by simpa using ho)

end Enable

/-! ### NRG_INTERVAL_END -/

section Interval
variable {c d : Nat}

/-- Whether a boundary stands at a circuit's next period depends on the circuit and the time bases. -/
theorem intervalDue_congr (hc : t.nrgOf c = s.nrgOf c) (ht : t.tbs = s.tbs) (hl : Leaves (fun o => Quiet o ∧ o ≠ Reg.NRG_STATUS) s t) :
    t.intervalDue c = s.intervalDue c := by
  have ha : t.acqTb = s.acqTb := hl.rf (by decide) 0 2
  obtain ⟨n, hn⟩ : ∃ n, n = s.acqTb := ⟨_, rfl⟩
  have hn4 : n < 4 := hn ▸ fld_lt
  have hs : Quiet (Reg.TB_STATUS n) ∧ Reg.TB_STATUS n ≠ Reg.NRG_STATUS := by unfold Reg.TB_STATUS Reg.NRG_STATUS Quiet; omega
  have hu : Quiet (Reg.TB_UTC n) ∧ Reg.TB_UTC n ≠ Reg.NRG_STATUS := by unfold Reg.TB_UTC Reg.NRG_STATUS Quiet; omega
  have hlo : Quiet (Reg.TB_LEAP_LO n) ∧ Reg.TB_LEAP_LO n ≠ Reg.NRG_STATUS := by unfold Reg.TB_LEAP_LO Reg.NRG_STATUS Quiet; omega
  have hhi : Quiet (Reg.TB_LEAP_LO n + 4) ∧ Reg.TB_LEAP_LO n + 4 ≠ Reg.NRG_STATUS := by unfold Reg.TB_LEAP_LO Reg.NRG_STATUS Quiet; omega
  have htb : t.tb n = s.tb n := by rw [State.tb, ht]; rfl
  have hutc : t.utcOffset n = s.utcOffset n := by rw [State.utcOffset, hl.rf hu]; rfl
  have hoff : ∀ k, t.offsetAt n k = s.offsetAt n k := fun k => by
    unfold State.offsetAt
    rw [hl.rb hs, hl.rb hs, htb, hutc]
  have hins : ∀ k, t.insertedAt n k = s.insertedAt n k := fun k => by
    unfold State.insertedAt State.pair
    rw [hl.rb hs, hl.rb hs, htb, hl.rf hu, hl _ hlo, hl _ hhi]
  unfold State.intervalDue State.intervalAt
  dsimp only
  rw [hc, ha, ← hn, hoff, hins, hl.rf (by decide)]

theorem keepsEvents_postRecord {r w10 w14 : Nat} (hr : r < 32) {rc : List Byte} : KeepsEvents s (s.postRecord r rc w10 w14) := by
  unfold State.postRecord
  split
  · dsimp only
    split
    · refine .trans ?_ (keepsEvents_raise (by decide))
      refine .trans ?_ (keepsEvents_setRb (by unfold Reg.RNG_STATUS; omega))
      exact (keepsEvents_ringReturn hr).trans (keepsEvents_setReg (by unfold Reg.RNG_CNT; omega))
    · exact (KeepsEvents.of_leaves (leaves_hostWrite _ _)).trans (keepsEvents_ringReturn hr)
  · exact keepsEvents_ringExhaust hr

/-- The circuit after the interval's end. -/
def NrgCirc.nextInterval (y : NrgCirc) : NrgCirc :=
  { y with start := y.startStamp, flags := 0, periods := 0, flagged := 0, seq := (y.seq + 1) % 2 ^ 32, closed := true }

theorem intervalClose_spec (hu : u = s.intervalClose c (s.nrgOf c).startStamp 0 0) : u.nrgOf c = (s.nrgOf c).nextInterval ∧
    (∀ d, d ≠ c → u.nrgOf d = s.nrgOf d) ∧ u.nrgInt = s.nrgInt ∧ Leaves Quiet s u ∧ KeepsEvents s u := by
  obtain ⟨y, hy⟩ : ∃ y, y = s.setNrg c (s.nrgOf c).nextInterval := ⟨_, rfl⟩
  have he : u = y.postRecord 17 (s.intervalRecord c (s.nrgOf c) (s.nrgOf c).startStamp 0) (c % 16) (s.nrgOf c).seq := by rw [hu, hy]; rfl
  have hw := he ▸ within_postRecord y 17 (s.intervalRecord c (s.nrgOf c) (s.nrgOf c).startStamp 0) (c % 16) (s.nrgOf c).seq
  have hyr : y.regs = s.regs := by rw [hy]; rfl
  refine ⟨?_, fun d hd => ?_, ?_, ?_, ?_⟩
  · rw [nrgOf_congr (hw.nrg rfl), hy, nrgOf_setNrg]
  · rw [nrgOf_congr (hw.nrg rfl), hy, nrgOf_setNrg_ne hd]
  · rw [hw.nrgInt rfl, hy]
    rfl
  · exact Leaves.trans (.of_regs hyr) (he ▸ leaves_postRecord (fun _ h => h) (by decide))
  · exact (keepsEvents_of_regs hyr).trans (he ▸ keepsEvents_postRecord (by decide))

/-- The end of one circuit's interval. -/
theorem intervalEnd_spec (hu : u = s.intervalEnd c) : u.nrgOf c = (s.nrgOf c).nextInterval ∧ (∀ d, d ≠ c → u.nrgOf d = s.nrgOf d) ∧
    Leaves (fun o => Quiet o ∧ o ≠ Reg.NRG_STATUS) s u ∧ KeepsEvents s u ∧
    (s.rb Reg.NRG_CTRL 12 = true → u.nrgInt = s.nrgInt ∨ u.event 47 = true) ∧
    (s.rb Reg.NRG_CTRL 12 = true → s.nrgInt.all (fun w => decide (w < (s.nrgOf c).startStamp)) = true → u.event 47 = true) := by
  obtain ⟨a, ha⟩ : ∃ a, a = s.intervalClose c (s.nrgOf c).startStamp 0 0 := ⟨_, rfl⟩
  obtain ⟨h1, h2, h3, h4, h5⟩ := intervalClose_spec ha
  have hal : Leaves (fun o => Quiet o ∧ o ≠ Reg.NRG_STATUS) s a := h4.mono fun _ h => h.1
  unfold State.intervalEnd at hu
  dsimp only at hu
  rw [← ha, h3] at hu
  by_cases hall : s.nrgInt.all (fun w => decide (w < (s.nrgOf c).startStamp)) = true
  · rw [if_pos hall] at hu
    obtain ⟨b, hb⟩ : ∃ b : State, b = { a with nrgInt := some (s.nrgOf c).startStamp } := ⟨_, rfl⟩
    have hbr : b.regs = a.regs := by rw [hb]
    have hbn : ∀ d, b.nrgOf d = a.nrgOf d := fun d => nrgOf_congr (by rw [hb])
    have hbl : Leaves (fun _ => True) a b := .of_regs hbr
    have he : u = if b.rb Reg.NRG_CTRL 12 = true then b.flagRaise Reg.NRG_STATUS 3 47 0 else b := by rw [hu, hb]
    have hctrl : b.rb Reg.NRG_CTRL 12 = s.rb Reg.NRG_CTRL 12 := by rw [hbl.rb trivial, hal.rb (by decide)]
    have hun : u.nrg = b.nrg := by
      rw [he]
      split
      · exact (within_flagRaise _ _ _ _ _).nrg rfl
      · rfl
    have hev : s.rb Reg.NRG_CTRL 12 = true → u.event 47 = true := fun hc => by
      rw [he, if_pos (hctrl.trans hc)]
      exact event_flagRaise (by decide)
    refine ⟨?_, fun d hd => ?_, ?_, ?_, fun hc => .inr (hev hc), fun hc _ => hev hc⟩
    · rw [nrgOf_congr hun, hbn, h1]
    · rw [nrgOf_congr hun, hbn, h2 d hd]
    · refine hal.trans (Leaves.trans (.of_regs hbr) ?_)
      rw [he]
      exact .ite (leaves_flagRaise (fun _ h => h.1) (fun h => h.2 rfl) (by decide)) (.refl b)
    · refine h5.trans ((keepsEvents_of_regs hbr).trans ?_)
      rw [he]
      split
      · exact keepsEvents_flagRaise (by decide) (by decide)
      · exact .refl b
  · rw [if_neg hall] at hu
    rw [hu]
    exact ⟨h1, h2, hal, h5, fun _ => .inl h3, fun _ h => absurd h hall⟩

/-- The circuits of `l` close their intervals in turn. -/
theorem intervalEnds_spec {l : List Nat} (hn : l.Nodup)
    (hu : u = l.foldl (fun s c => if s.intervalDue c then s.intervalEnd c else s) s) :
    (∀ c, u.nrgOf c = if c ∈ l ∧ s.intervalDue c = true then (s.nrgOf c).nextInterval else s.nrgOf c) ∧ KeepsEvents s u ∧
    ∀ c ∈ l, s.intervalDue c = true → s.rb Reg.NRG_CTRL 12 = true →
      s.nrgInt.all (fun w => decide (w < (s.nrgOf c).startStamp)) = true → u.event 47 = true := by
  induction l generalizing s with
  | nil =>
    rw [hu]
    exact ⟨fun c => (if_neg fun h => nomatch h.1).symm, .refl s, fun c hc => nomatch hc⟩
  | cons d l ih =>
    obtain ⟨hd, hl⟩ := List.nodup_cons.1 hn
    by_cases hdue : s.intervalDue d = true
    · obtain ⟨x, hx⟩ : ∃ x, x = s.intervalEnd d := ⟨_, rfl⟩
      rw [List.foldl_cons, if_pos hdue, ← hx] at hu
      obtain ⟨g1, g2, g3, g4, g5, g6⟩ := intervalEnd_spec hx
      have hxt : x.tbs = s.tbs := hx ▸ (within_intervalEnd s d).tbs rfl
      have hxd : ∀ c, c ≠ d → x.intervalDue c = s.intervalDue c := fun c hc => intervalDue_congr (g2 c hc) hxt g3
      obtain ⟨h1, h2, h3⟩ := ih hl hu
      refine ⟨fun c => ?_, g4.trans h2, fun c hc hcd hctrl hall => ?_⟩
      · rw [h1]
        by_cases hc : c = d
        · subst hc
          rw [if_neg fun h => hd h.1, if_pos ⟨List.mem_cons_self, hdue⟩, g1]
        · rw [g2 c hc, hxd c hc]
          simp [hc]
      · by_cases hc' : c = d
        · subst hc'
          exact h2 47 (by decide) (g6 hctrl hall)
        · rcases g5 hctrl with hi | hi
          · exact h3 c ((List.mem_cons.1 hc).resolve_left hc') (by rw [hxd c hc', hcd]) (by rw [g3.rb (by decide), hctrl]) (by rw [hi, g2 c hc', hall])
          · exact h2 47 (by decide) hi
    · rw [List.foldl_cons, if_neg hdue] at hu
      obtain ⟨h1, h2, h3⟩ := ih hl hu
      refine ⟨fun c => ?_, h2, fun c hc hcd hctrl hall => ?_⟩
      · rw [h1]
        by_cases hc : c = d
        · subst hc
          rw [if_neg fun h => hd h.1, if_neg fun h => hdue h.2]
        · simp [hc]
      · refine h3 c ((List.mem_cons.1 hc).resolve_left fun e => hdue (by rw [← e, hcd])) hcd hctrl hall

end Interval

/-! ### PULSE_OUTPUT -/

section Pulses

theorem pulseOutput_spec {n : Nat} {p : Stamp × Nat} {rest : List (Stamp × Nat)} (hn : n < 4) (hq : (s.pulse n).queue = p :: rest)
    (hd : s.domOn pdAcq = true) (ht : p.1 ≤ s.tbNear s.acqTb) (hb : s.boundary = false) (hu : u = s.pulseOutput n) :
    (u.pulse n).queue = rest ∧ u.reg (Reg.PULSE_COUNT n) = s.reg (Reg.PULSE_COUNT n) + 1 ∧ AllRegsKept s u [Reg.PULSE_COUNT n] ∧
    u.out = (if s.gate then [.pulse n p.2] else []) ++ s.out := by
  obtain ⟨y, hy⟩ : ∃ y, y = s.setPulse n { s.pulse n with queue := rest, until_ := s.now + p.2 * fsPerUs } := ⟨_, rfl⟩
  obtain ⟨x, hx⟩ : ∃ x, x = y.bumpWrap (Reg.PULSE_COUNT n) := ⟨_, rfl⟩
  have hyr : y.regs = s.regs := by rw [hy]; rfl
  have hyo : y.out = s.out := by rw [hy]; rfl
  have hyp : (y.pulse n).queue = rest := by rw [hy, State.pulse, State.setPulse, Tab.get_put_self]
  have he : u = if x.gate then x.emit (.pulse n p.2) else x := by
    rw [hu, hx, hy]
    unfold State.pulseOutput
    dsimp only
    rw [hq]
    dsimp only
    rw [if_pos (by rw [hd]; exact decide_eq_true ht)]
  have hxl : Leaves (· ≠ Reg.PULSE_COUNT n) s x := Leaves.trans (.of_regs hyr) (hx ▸ leaves_bumpWrap (by simp))
  have hxo : x.out = s.out := by rw [hx, (within_bumpWrap _ _).out rfl, hyo]
  have hxg : x.gate = s.gate := hxl.rb (by unfold Reg.PULSE_COUNT Reg.RED_STATUS; omega) 2
  have hxb : x.boundary = false := (boundary_congr fun o ho => hxl o (by unfold Reg.PULSE_COUNT; omega)).trans hb
  have hul : Leaves (fun _ => True) x u := by
    rw [he]
    exact .ite (leaves_emit _) (.refl x)
  have hup : u.pulses = y.pulses := by
    rw [he]
    split
    · rw [(within_emit _ _).pulses rfl, hx]
      rfl
    · rw [hx]
      rfl
  refine ⟨?_, ?_, fun o ho => ?_, ?_⟩
  · rw [State.pulse, hup]
    exact hyp
  · rw [hul _ trivial, hx, reg_bumpWrap, if_pos rfl, State.reg, hyr]
    rfl
  · rw [hul o trivial, hxl o (by simpa using ho)]
  · rw [he, hxg]
    cases s.gate with
    | false => exact hxo
    | true =>
      rw [if_pos rfl, if_pos rfl, State.emit, hxb, Bool.false_and, if_neg Bool.false_ne_true, hxo]
      rfl

end Pulses

/-- Settles O51: in an interval's end the first circuit to reach a boundary raises event 47, or an earlier one has. -/
theorem energyCircuitsIntervalsAndPulses : Obligations.EnergyCircuitsIntervalsAndPulses := by
  intro s
  refine ⟨fun c v h hv ho => ⟨_, rfl, circuitEnable_spec c h hv ho rfl⟩, fun _ => ⟨_, rfl, (within_nrgIntervalEnd s).acc rfl, fun c => ?_⟩,
    fun n p rest hq hd ht hb => ⟨_, rfl, pulseOutput_spec n.isLt hq hd ht hb rfl⟩⟩
  obtain ⟨h1, -, h3⟩ := intervalEnds_spec (s := s) (l := List.range 12) List.nodup_range rfl
  have hm := List.mem_range.2 c.isLt
  refine ⟨fun hd hc hall => h3 c hm hd hc hall, ?_⟩
  by_cases hd : s.intervalDue c = true
  · rw [if_pos hd]
    exact (h1 c).trans (if_pos ⟨hm, hd⟩)
  · rw [if_neg hd]
    exact (h1 c).trans (if_neg fun h => hd h.2)

end Sys2Proof.Machine

/-! Acquisition circuits and stuck channels (R268, R270, R273). -/

namespace Sys2Proof.Machine

-- One declaration after another: side by side, their threads' stacks pass the memory limit of a check.
set_option Elab.async false

variable {s t u x : State}

/-! ### The eight channels of a circuit -/

section Channels
variable {c ch k : Nat} {y : Chan} {f : Chan → Chan}

theorem chan_congr (h : t.chans = s.chans) : t.chan ch = s.chan ch := by
  rw [State.chan, h]
  rfl

theorem chan_setChan : (s.setChan ch y).chan ch = y := Tab.get_put_self
theorem chan_setChan_ne (h : k ≠ ch) : (s.setChan ch y).chan k = s.chan k := Tab.get_put_ne h

/-- Each of a circuit's first `n` channels is changed by `f`. -/
def State.mapChans (s : State) (c : Nat) (f : Chan → Chan) (n : Nat) : State :=
  (List.range n).foldl (fun s k => s.setChan (8 * c + k) (f (s.chan (8 * c + k)))) s

theorem mapChans_chan {n : Nat} : (s.mapChans c f n).chan ch = if 8 * c ≤ ch ∧ ch < 8 * c + n then f (s.chan ch) else s.chan ch := by
  induction n with
  | zero => exact (if_neg (by omega)).symm
  | succ n ih =>
    rw [State.mapChans, List.range_succ, List.foldl_append, List.foldl_cons, List.foldl_nil, ← State.mapChans]
    by_cases h : ch = 8 * c + n
    · rw [← h, chan_setChan, ih, if_neg (by omega), if_pos (by omega)]
    · rw [chan_setChan_ne h, ih]
      by_cases hi : 8 * c ≤ ch ∧ ch < 8 * c + n
      · rw [if_pos hi, if_pos (by omega)]
      · rw [if_neg hi, if_neg (by omega)]

theorem mapChans_self {k : Nat} (h : k < 8) : (s.mapChans c f 8).chan (8 * c + k) = f (s.chan (8 * c + k)) :=
  mapChans_chan.trans (if_pos (by omega))

theorem mapChans_other (h : ch / 8 ≠ c) : (s.mapChans c f 8).chan ch = s.chan ch := mapChans_chan.trans (if_neg (by omega))

/-- The registers, the channels and the clocks. -/
theorem Within.onlyChannels (h : Within 0x10000000100008 s t) : t = { s with regs := t.regs, chans := t.chans, modClks := t.modClks } := by
  cases s
  cases t
  simp only [State.mk.injEq]
  exact ⟨h.queue, h.now rfl, h.free rfl, trivial, h.latches rfl, h.stages rfl, h.msix rfl, h.out rfl, h.hbm rfl, h.hostMem rfl, h.rings rfl,
    h.tbs rfl, h.tsq rfl, h.rtc rfl, h.pwr rfl, h.trigs rfl, h.marks rfl, h.recorder rfl, h.lanes rfl, h.tables rfl, trivial, h.fade rfl,
    h.phs rfl, h.nrg rfl, h.acc rfl, h.nrgCmd rfl, h.pulses rfl, h.rxq rfl, h.txq rfl, h.segJobs rfl, h.prp rfl, h.segments rfl,
    h.t1sTaken rfl, h.t1sNum rfl, h.seats rfl, h.seated rfl, h.forms rfl, h.tcp rfl, h.links rfl, h.classrooms rfl, h.lessons rfl,
    h.alarms rfl, h.slacks rfl, h.answers rfl, h.pass rfl, h.sched rfl, h.loader rfl, h.evtIn rfl, h.keys rfl, h.tap rfl,
    h.cacheSigner rfl, h.pcie rfl, trivial, h.nrgInt rfl, h.ppsPin rfl⟩

/-- A channel whose fault watch begins anew. -/
def Chan.healthy (y : Chan) : Chan := { y with run := 0, good := 0, fault := false, entered := false }

theorem faultsClear_eq : s.faultsClear c = s.mapChans c Chan.healthy 8 := rfl

/-- A channel that begins anew at edge `e`. -/
def Chan.startAt (e : Stamp) (y : Chan) : Chan :=
  { pos := e, hist := y.hist, scales := y.scales, last := y.last, run := y.run, good := y.good, fault := y.fault, entered := y.entered }

theorem acqStart_eq {low : Nat} : s.acqStart c low =
    ((s.trigsCut c).setModClk c { run := true, first := s.nextEdge (s.tbNow s.acqTb + low) }).mapChans c
      (Chan.startAt (s.nextEdge (s.tbNow s.acqTb + low))) 8 := rfl

theorem modClk_setModClk {z : ModClk} : (s.setModClk c z).modClk c = z := Tab.get_put_self

theorem modClk_congr (h : t.modClks = s.modClks) : t.modClk c = s.modClk c := by
  rw [State.modClk, h]
  rfl

theorem modStop_run : ((s.modStop c).modClk c).run = false := by
  unfold State.modStop
  dsimp only
  split
  · exact congrArg ModClk.run modClk_setModClk
  · next h => exact Bool.not_eq_true _ ▸ h

end Channels

/-! ### EN of a circuit -/

section Enable
variable {v : Word}

theorem acqCirCtrlRow (c : Fin 12) : regRow (Reg.ACQ_CIR_CTRL c) =
    some ⟨0x121000, 0x10, 12, 0x4, 1, 0x0, 0x7FFF03, 0x0, 0x0, 0xFF01, .single, none⟩ := by
  revert c
  decide

theorem acqCirCtrl_offset (c : Fin 12) : viewOf (Reg.ACQ_CIR_CTRL c) = 0 ∧ Reg.ACQ_CIR_CTRL c / 0x10000 = 18 ∧
    (0x121000 ≤ Reg.ACQ_CIR_CTRL c && Reg.ACQ_CIR_CTRL c < 0x1210C0 && Reg.ACQ_CIR_CTRL c % 0x10 = 0) = true := by
  revert c
  decide

/-- The write as the circuit's control register takes it. -/
def State.circuitWritten (s : State) (c : Nat) (v : Word) : State :=
  s.setReg (Reg.ACQ_CIR_CTRL c) (merge 0x7FFF03 v (s.reg (Reg.ACQ_CIR_CTRL c)))

theorem acqCircuit_poke (c : Fin 12) (h : s.Accepts (Reg.ACQ_CIR_CTRL c) v) :
    s.poke (Reg.ACQ_CIR_CTRL c) v {} = (s.circuitWritten c v).acqHook (Reg.ACQ_CIR_CTRL c) (s.reg (Reg.ACQ_CIR_CTRL c)) v := by
  obtain ⟨hview, hunit, -⟩ := acqCirCtrl_offset c
  rw [h.poke_plain hview (acqCirCtrlRow c) rfl rfl, unitHook_acq hunit, State.circuitWritten]

theorem circuitWritten_spec {c : Nat} (hx : x = s.circuitWritten c v) : x.acqEn c = bit v 0 ∧ Leaves (· ≠ Reg.ACQ_CIR_CTRL c) s x ∧ Within 0x8 s x := by
  refine ⟨?_, hx ▸ leaves_setReg (by simp), hx ▸ within_setReg _ _ _⟩
  rw [hx, State.acqEn, State.rb, State.circuitWritten, reg_setReg_self, bit_merge, if_pos (by decide)]

/-- EN written 1. -/
theorem acqHook_enable (c : Fin 12) {old : Word} (hv : bit v 0 = true) (ho : bit old 0 = false) :
    s.acqHook (Reg.ACQ_CIR_CTRL c) old v = ((s.acqHealthy c).acqStart c 0).phsAfter c (s.tbNow s.acqTb) := by
  obtain ⟨-, -, hrange⟩ := acqCirCtrl_offset c
  have hc : (Reg.ACQ_CIR_CTRL c - 0x121000) / 0x10 = c := by unfold Reg.ACQ_CIR_CTRL; omega
  unfold State.acqHook
  rw [if_neg (by unfold Reg.ACQ_CIR_CTRL Reg.ACQ_CTRL; omega), if_pos hrange]
  dsimp only
  rw [hc, hv, ho]
  rfl

/-- EN written 0 with no fade under way. -/
theorem acqHook_disable (c : Fin 12) {old : Word} (hv : bit v 0 = false) (ho : bit old 0 = true) (hf : s.fade = none) :
    s.acqHook (Reg.ACQ_CIR_CTRL c) old v = ((s.setRf (Reg.ACQ_CIR_STATUS c) 0 8 0).faultsClear c).modStop c := by
  obtain ⟨-, -, hrange⟩ := acqCirCtrl_offset c
  have hc : (Reg.ACQ_CIR_CTRL c - 0x121000) / 0x10 = c := by unfold Reg.ACQ_CIR_CTRL; omega
  obtain ⟨y, hy⟩ : ∃ y, y = ((s.setRf (Reg.ACQ_CIR_STATUS c) 0 8 0).faultsClear c).modStop c := ⟨_, rfl⟩
  have hyf : y.fade = none := by
    rw [hy, (within_modStop _ _).fade rfl, (within_faultsClear _ _).fade rfl]
    exact hf
  unfold State.acqHook
  rw [if_neg (by unfold Reg.ACQ_CIR_CTRL Reg.ACQ_CTRL; omega), if_pos hrange]
  dsimp only
  rw [hc, hv, ho, if_neg (by decide), if_pos (by decide), ← hy, hyf]

theorem circuitEnabled_spec (c : Fin 12) (h : s.Accepts (Reg.ACQ_CIR_CTRL c) v) (hv : bit v 0 = true) (ho : s.acqEn c = false)
    (hu : u = s.poke (Reg.ACQ_CIR_CTRL c) v {}) : u.acqEn c = true ∧
    (∀ k : Fin 8, u.chan (8 * c + k) =
      { pos := s.nextEdge (s.tbNow s.acqTb), hist := (s.chan (8 * c + k)).hist, scales := (s.chan (8 * c + k)).scales
        last := (s.chan (8 * c + k)).last }) ∧
    (∀ ch : Fin 96, ch.val / 8 ≠ c → u.chan ch = s.chan ch) ∧ u.rf (Reg.ACQ_CIR_STATUS c) 0 16 = 0 ∧
    (u.modClk c).run = true ∧ (u.modClk c).first = s.nextEdge (s.tbNow s.acqTb) ∧
    AllRegsKept s u [Reg.ACQ_CIR_CTRL c, Reg.ACQ_CIR_STATUS c] := by
  have hne : Reg.ACQ_CIR_CTRL c ≠ Reg.ACQ_CIR_STATUS c := by unfold Reg.ACQ_CIR_CTRL Reg.ACQ_CIR_STATUS; omega
  obtain ⟨x, hx⟩ : ∃ x, x = s.circuitWritten c v := ⟨_, rfl⟩
  obtain ⟨hen, hxl, hxw⟩ := circuitWritten_spec hx
  rw [acqCircuit_poke c h, ← hx, acqHook_enable c hv ho] at hu
  obtain ⟨a, ha⟩ : ∃ a, a = x.acqHealthy c := ⟨_, rfl⟩
  obtain ⟨y, hy⟩ : ∃ y, y = x.setRf (Reg.ACQ_CIR_STATUS c) 0 16 0 := ⟨_, rfl⟩
  obtain ⟨b, hb⟩ : ∃ b, b = a.acqStart c 0 := ⟨_, rfl⟩
  rw [← ha, ← hb] at hu
  have hay : a = y.mapChans c Chan.healthy 8 := by rw [ha, hy]; exact faultsClear_eq
  have haw : Within 0x100000 y a := by
    rw [hay, ← faultsClear_eq]
    exact within_faultsClear y c
  have hyl : Leaves (· ≠ Reg.ACQ_CIR_STATUS c) x y := hy ▸ leaves_setRf (by simp)
  have hal : Leaves (fun o => o ≠ Reg.ACQ_CIR_CTRL c ∧ o ≠ Reg.ACQ_CIR_STATUS c) s a :=
    ((hxl.mono fun _ h => h.1).trans (hyl.mono fun _ h => h.2)).trans haw.leaves
  have hbw : Within 0x10000000108000 a b := hb ▸ within_acqStart a c 0
  have huw : Within 0x400000 b u := hu ▸ within_phsAfter b c _
  have hau : Leaves (fun _ => True) a u := hbw.leaves.trans huw.leaves
  have hacq : Reg.ACQ_CTRL ≠ Reg.ACQ_CIR_CTRL c ∧ Reg.ACQ_CTRL ≠ Reg.ACQ_CIR_STATUS c := by
    unfold Reg.ACQ_CTRL Reg.ACQ_CIR_CTRL Reg.ACQ_CIR_STATUS
    omega
  have htb : a.tbs = s.tbs := by rw [haw.tbs rfl, hy, State.setRf, (within_setReg _ _ _).tbs rfl, hxw.tbs rfl]
  have hedge : a.nextEdge (a.tbNow a.acqTb + 0) = s.nextEdge (s.tbNow s.acqTb) := by
    rw [Nat.add_zero, State.acqTb, hal.rf hacq, tbNow_congr htb]
    unfold State.nextEdge State.modEdge State.modf
    rw [hal.rf hacq]
    rfl
  have hax : y.chans = s.chans := by rw [hy, State.setRf, (within_setReg _ _ _).chans rfl, hxw.chans rfl]
  obtain ⟨z, hz⟩ : ∃ z, z = (a.trigsCut c).setModClk c { run := true, first := s.nextEdge (s.tbNow s.acqTb) } := ⟨_, rfl⟩
  have hbz : b = z.mapChans c (Chan.startAt (s.nextEdge (s.tbNow s.acqTb))) 8 := by rw [hb, acqStart_eq, hedge, hz]
  have hza : z.chans = a.chans := by rw [hz]; exact (within_trigsCut a c).chans rfl
  have hbm : b.modClk c = { run := true, first := s.nextEdge (s.tbNow s.acqTb) } := by
    have hm : b.modClks = z.modClks := by
      rw [hbz]
      exact (Within.foldl (C := 0x100000) (s := z) (fun y k h => (within_setChan y _ _).after (by decide) h) (.refl z)).modClks rfl
    rw [modClk_congr hm, hz, modClk_setModClk]
  have hchan : ∀ ch, u.chan ch = b.chan ch := fun ch => chan_congr (huw.chans rfl)
  refine ⟨?_, fun k => ?_, fun ch hch => ?_, ?_, ?_, ?_, fun o hm => ?_⟩
  · rw [State.acqEn, hau.rb trivial, haw.leaves.rb (P := fun _ => True) trivial, hyl.rb hne]
    exact hen.trans hv
  · rw [hchan, hbz, mapChans_self k.isLt, chan_congr hza, hay, mapChans_self k.isLt, chan_congr hax]
    rfl
  · rw [hchan, hbz, mapChans_other hch, chan_congr hza, hay, mapChans_other hch, chan_congr hax]
  · rw [hau.rf trivial, haw.leaves.rf (P := fun _ => True) trivial, hy, rf_setRf_self (by decide)]
    rfl
  · rw [modClk_congr (huw.modClks rfl), hbm]
  · rw [modClk_congr (huw.modClks rfl), hbm]
  · simp only [List.mem_cons, List.not_mem_nil, or_false, not_or] at hm
    rw [hau o trivial, hal o hm]

theorem circuitDisabled_spec (c : Fin 12) (h : s.Accepts (Reg.ACQ_CIR_CTRL c) v) (hv : bit v 0 = false) (ho : s.acqEn c = true)
    (hf : s.fade = none) (hu : u = s.poke (Reg.ACQ_CIR_CTRL c) v {}) : u.acqEn c = false ∧
    u.rf (Reg.ACQ_CIR_STATUS c) 0 8 = 0 ∧ (u.modClk c).run = false ∧
    (∀ k : Fin 8, u.chan (8 * c + k) = { s.chan (8 * c + k) with run := 0, good := 0, fault := false, entered := false }) ∧
    (∀ ch : Fin 96, ch.val / 8 ≠ c → u.chan ch = s.chan ch) ∧
    AllRegsKept s u [Reg.ACQ_CIR_CTRL c, Reg.ACQ_CIR_STATUS c] ∧
    u = { s with regs := u.regs, chans := u.chans, modClks := u.modClks } := by
  have hne : Reg.ACQ_CIR_CTRL c ≠ Reg.ACQ_CIR_STATUS c := by unfold Reg.ACQ_CIR_CTRL Reg.ACQ_CIR_STATUS; omega
  obtain ⟨x, hx⟩ : ∃ x, x = s.circuitWritten c v := ⟨_, rfl⟩
  obtain ⟨hen, hxl, hxw⟩ := circuitWritten_spec hx
  rw [acqCircuit_poke c h, ← hx, acqHook_disable c hv ho (by rw [hxw.fade rfl, hf])] at hu
  obtain ⟨y, hy⟩ : ∃ y, y = x.setRf (Reg.ACQ_CIR_STATUS c) 0 8 0 := ⟨_, rfl⟩
  obtain ⟨a, ha⟩ : ∃ a, a = y.faultsClear c := ⟨_, rfl⟩
  rw [← hy, ← ha] at hu
  have hay : a = y.mapChans c Chan.healthy 8 := by rw [ha, faultsClear_eq]
  have haw : Within 0x100000 y a := ha ▸ within_faultsClear y c
  have hyl : Leaves (· ≠ Reg.ACQ_CIR_STATUS c) x y := hy ▸ leaves_setRf (by simp)
  have huw : Within 0x10000000000000 a u := hu ▸ within_modStop a c
  have hyu : Leaves (fun _ => True) y u := haw.leaves.trans huw.leaves
  have hyw : Within 0x8 s y := hy ▸ (within_setRf _ _ _ _ _).after (by decide) hxw
  have hax : y.chans = s.chans := hyw.chans rfl
  have hchan : ∀ ch, u.chan ch = a.chan ch := fun ch => chan_congr (huw.chans rfl)
  have hwu : Within 0x10000000100008 s u := huw.after (by decide) (haw.after (by decide) (hyw.mono (by decide)))
  refine ⟨?_, ?_, hu ▸ modStop_run, fun k => ?_, fun ch hch => ?_, fun o hm => ?_, hwu.onlyChannels⟩
  · rw [State.acqEn, hyu.rb trivial, hyl.rb hne]
    exact hen.trans hv
  · rw [hyu.rf trivial, hy, rf_setRf_self (by decide)]
    rfl
  · rw [hchan, hay, mapChans_self k.isLt, chan_congr hax]
    rfl
  · rw [hchan, hay, mapChans_other hch, chan_congr hax]
  · simp only [List.mem_cons, List.not_mem_nil, or_false, not_or] at hm
    rw [hyu o trivial, hyl o hm.2, hxl o hm.1]

end Enable

/-! ### Faults of a channel -/

section Faults
variable {ch : Nat}

/-- A channel's entry into FAULT as it is recorded. -/
def State.faultNoted (s : State) (ch : Nat) : State :=
  ((s.setChan ch { s.chan ch with entered := false }).setRb (Reg.ACQ_CIR_STATUS (ch / 8)) (ch % 8) true).setRb
    (Reg.ACQ_CIR_STATUS (ch / 8)) (16 + ch % 8) true

theorem acqModFault_eq (hd : s.domOn pdAcq = true) (hen : s.acqEn (ch / 8) = true) (he : (s.chan ch).entered = true) :
    s.acqModFault ch = (s.faultNoted ch).raise 40 ch := by
  unfold State.acqModFault
  dsimp only
  rw [hd, hen, he]
  rfl

theorem acqModFault_none (he : (s.chan ch).entered = false) : s.acqModFault ch = s := by
  unfold State.acqModFault
  dsimp only
  rw [he, Bool.and_false]
  exact if_neg Bool.false_ne_true

theorem acqModFault_spec (hc : ch < 96) (hd : s.domOn pdAcq = true) (hen : s.acqEn (ch / 8) = true) (he : (s.chan ch).entered = true)
    (hu : u = s.acqModFault ch) : u.rb (Reg.ACQ_CIR_STATUS (ch / 8)) (ch % 8) = true ∧
    u.rb (Reg.ACQ_CIR_STATUS (ch / 8)) (16 + ch % 8) = true ∧ u.event 40 = true ∧
    u.chan ch = { s.chan ch with entered := false } ∧ RegsKept s u [Reg.ACQ_CIR_STATUS (ch / 8)] := by
  have hq : Quiet (Reg.ACQ_CIR_STATUS (ch / 8)) := by unfold Quiet Reg.ACQ_CIR_STATUS; omega
  obtain ⟨x, hx⟩ : ∃ x, x = s.faultNoted ch := ⟨_, rfl⟩
  rw [acqModFault_eq hd hen he, ← hx] at hu
  have hul : Leaves Quiet x u := hu ▸ leaves_raise (fun _ h => h) (by decide)
  have hxl : Leaves (· ≠ Reg.ACQ_CIR_STATUS (ch / 8)) s x := by
    rw [hx]
    exact Leaves.trans (t := s.setChan ch { s.chan ch with entered := false }) (.of_regs rfl)
      ((leaves_setRb (by simp)).trans (leaves_setRb (by simp)))
  refine ⟨?_, ?_, hu ▸ event_raise (by decide), ?_, regsKept_iff.2 fun o ho => ?_⟩
  · rw [hul.rb hq, hx, State.faultNoted, State.rb, reg_setRb, if_pos rfl, bit_setBit_ne (by omega) (by omega)]
    exact rb_setRb_self (by omega)
  · rw [hul.rb hq, hx]
    exact rb_setRb_self (by omega)
  · rw [chan_congr (hu ▸ (within_raise x 40 ch).chans rfl), hx]
    exact chan_setChan
  · rw [hul o ho.1, hxl o (by simpa using ho.2)]

theorem channelHealthy_eq (hd : s.domOn pdAcq = true) (hs : s.rb (Reg.ACQ_CIR_STATUS (ch / 8)) (ch % 8) = true) (hf : (s.chan ch).fault = false) :
    s.channelHealthy ch = s.setRb (Reg.ACQ_CIR_STATUS (ch / 8)) (ch % 8) false := by
  unfold State.channelHealthy
  dsimp only
  rw [hd, hs, hf]
  rfl

theorem channelHealthy_none (hf : (s.chan ch).fault = true) : s.channelHealthy ch = s := by
  unfold State.channelHealthy
  dsimp only
  rw [hf, Bool.not_true, Bool.and_false]
  exact if_neg Bool.false_ne_true

end Faults

/-- Settles O47. -/
theorem acquisitionCircuits : Obligations.AcquisitionCircuits := by
  intro s
  refine ⟨fun c v h => ⟨fun hv ho => ⟨_, rfl, circuitEnabled_spec c h hv ho rfl⟩, fun hv ho hf => ⟨_, rfl, circuitDisabled_spec c h hv ho hf rfl⟩⟩,
    fun ch hd => ⟨fun hen he => ⟨_, rfl, acqModFault_spec ch.isLt hd hen he rfl⟩, fun he => congrArg Host.Outcome.next (acqModFault_none he),
      fun hs hf => ⟨_, congrArg Host.Outcome.next (channelHealthy_eq hd hs hf), rb_setRb_self (by omega), fun o ho => ?_, (within_setRb _ _ _ _).onlyRegs⟩,
      fun hf => congrArg Host.Outcome.next (channelHealthy_none hf)⟩⟩
  rw [reg_setRb, if_neg (by simpa using ho)]

end Sys2Proof.Machine

/-! Event inputs, marks and the recorder (R333-R342). -/

namespace Sys2Proof.Machine

-- One declaration after another: side by side, their threads' stacks pass the memory limit of a check.
set_option Elab.async false

variable {s t u x : State}

/-! ### What a trigger that fires leaves of the TRG unit -/

section Unfired
variable {P : Nat → Prop} {o : Nat}

/-- A register that neither an event nor a trigger that fires writes. -/
abbrev Unfired (o : Nat) : Prop :=
  o / 0x10000 ≠ 1 ∧ o / 0x10000 ≠ 12 ∧ o ≠ Reg.TRG_STATUS ∧ ¬ (Reg.TRG_FIRED 0 ≤ o ∧ o < Reg.TRG_FIRED 2) ∧ o ≠ Reg.TRG_CNT 6 ∧ o ≠ Reg.TRG_CNT 7 ∧
    ¬ (0x161000 ≤ o ∧ o < 0x161800)

theorem fireQuiet_unfired {n back tap delta : Nat} {a : Stamp} (hn : n < 64) : Leaves Unfired s (s.fireQuiet n a back tap delta).1 := by
  have hc : ¬ Unfired (Reg.TRG_COUNT n) := fun h => h.2.2.2.2.2.2 (by unfold Reg.TRG_COUNT; omega)
  have hf : ¬ Unfired (Reg.TRG_FIRED (n / 32)) := fun h => h.2.2.2.1 (by unfold Reg.TRG_FIRED; omega)
  have h7 : ¬ Unfired (Reg.TRG_CNT 7) := fun h => h.2.2.2.2.2.1 rfl
  unfold State.fireQuiet
  extract_lets +onlyGivenNames cfg s1 s2 e s3
  have h1 : Leaves Unfired s s1 := (leaves_setRb hf).trans (leaves_bumpWrap hc)
  clear_value s1
  have h2 : Leaves Unfired s1 s2 := leaves_bump h7
  clear_value s2
  have h3 : Leaves Unfired s2 s3 := .ite (.of_regs rfl) (.refl s2)
  clear_value s3
  split
  · exact ((h1.trans h2).trans h3).trans (leaves_setRb fun h => h.2.2.1 rfl)
  · exact (h1.trans h2).trans h3

theorem fireEdge_unfired {n : Nat} {a : Stamp} (hn : n < 64) : Leaves Unfired s (s.fireEdge n a).1 := by
  unfold State.fireEdge
  dsimp only
  split
  · exact leaves_bump fun h => h.2.2.2.2.1 rfl
  · exact Leaves.trans (t := State.setTrig _ _ _) (.of_regs rfl) (fireQuiet_unfired hn)

theorem raiseBase_unfired {e inst : Nat} (he : e < 64) : Leaves Unfired s (s.raiseBase e inst) := fun o ho => raiseBase_quiet he ho.1

theorem raise_unfired {e inst : Nat} (he : e < 64) : Leaves Unfired s (s.raise e inst) := by
  refine raiseF_keeps (fun t => Leaves Unfired s t) (fun t e _ he h => h.trans (raiseBase_unfired he)) (fun t h => h.trans ?_)
    (fun t b w h => h.trans fun o ho => ringReturnQuiet_reg (by omega) ho.2.1) (fun t h => h.trans fun o ho => ringExhaustQuiet_reg (by omega) ho.2.1)
    (fun t m a hm h => h.trans (fireEdge_unfired hm)) he (.refl s)
  exact leaves_bumpWrap fun h => h.1 (by decide)

theorem fireAtEdge_unfired {n : Nat} {a : Stamp} (hn : n < 64) : Leaves Unfired s (s.fireAtEdge n a) := by
  unfold State.fireAtEdge
  dsimp only
  split
  · exact (fireEdge_unfired hn).trans (raise_unfired (by decide))
  · exact fireEdge_unfired hn

theorem ringEvent_unfired {r : Nat} : Leaves Unfired s (s.ringEvent r) := by
  have h : Leaves Unfired s (s.raise (if ringH2D r then 22 else 23) r) := raise_unfired (by split <;> decide)
  unfold State.ringEvent
  dsimp only
  split
  · exact h.trans (raise_unfired (by decide))
  · exact h

theorem ringReturn_unfired {r st : Nat} {body : List Byte} (hr : r < 32) : Leaves Unfired s (s.ringReturn r body st) := by
  have h : Leaves Unfired s (s.ringReturnQuiet r body st).1 := fun o ho => ringReturnQuiet_reg hr ho.2.1
  unfold State.ringReturn
  dsimp only
  split
  · exact h.trans ringEvent_unfired
  · exact h

theorem ringExhaust_unfired {r : Nat} {lost : Bool} (hr : r < 32) : Leaves Unfired s (s.ringExhaust r lost) := by
  have h : Leaves Unfired s (s.ringExhaustQuiet r lost).1 := fun o ho => ringExhaustQuiet_reg hr ho.2.1
  unfold State.ringExhaust
  dsimp only
  split
  · exact h.trans (raise_unfired (by decide))
  · exact h

theorem trigsPin_unfired {i : Nat} {rising : Bool} {a : Stamp} : Leaves Unfired s (s.trigsPin i rising a) := by
  unfold State.trigsPin
  refine Leaves.foldl (fun y n hn => ?_) s
  split
  · exact fireAtEdge_unfired (List.mem_range.1 (List.mem_filter.1 hn).1)
  · exact .refl y

end Unfired

/-! ### Event inputs -/

section Inputs
variable {i ph held : Nat} {rising : Bool}

/-- The pin at an edge: the edges that its TDC took before the window are let go. -/
def State.pinSeen (s : State) (i : Nat) : EvtIn :=
  { s.evtInOf i with recent := (s.evtInOf i).recent.filter (fun t => decide (s.now < t + evtWindowFs)) }

/-- The pin after an edge. -/
def State.pinEdge (s : State) (i held : Nat) (short : Bool) : State :=
  s.setEvtIn i
    { recent := if (s.pinSeen i).takes held then s.now :: (s.pinSeen i).recent else (s.pinSeen i).recent
      mate := if held < 4 then some ((s.pinSeen i).takes held) else none
      reject := short && !(s.evtInOf i).reject }

/-- Whether an edge does not outlast the filter. -/
def State.tooShort (s : State) (i held : Nat) : Bool :=
  s.rf (Reg.TRG_EV_CFG i) 8 8 ≠ 0 && decide (held ≤ 10 * s.rf (Reg.TRG_EV_CFG i) 8 8)

theorem evtInEdge_eq (hd : s.domOn pdAcq = true) (hen : s.rb (Reg.TRG_EV_CFG i) 0 = true) : s.evtInEdge i rising ph held =
    if ((s.pinSeen i).takes held && !(s.evtInOf i).reject && !s.tooShort i held) = true then
      (s.pinEdge i held (s.tooShort i held)).evtAccept i rising ph
    else (s.pinEdge i held (s.tooShort i held)).bump (Reg.TRG_CNT 6) := by
  unfold State.evtInEdge
  rw [hd, hen, if_neg (by decide)]
  rfl

theorem pinSeen_takes (hm : (s.evtInOf i).mate ≠ some false)
    (hb : ((s.evtInOf i).recent.filter (fun t => decide (s.now < t + evtWindowFs))).length + 2 ≤ evtBurst) : (s.pinSeen i).takes held = true := by
  unfold EvtIn.takes State.pinSeen
  dsimp only
  cases hmate : (s.evtInOf i).mate with
  | none =>
    rw [Option.getD_none, decide_eq_true_iff]
    split <;> omega
  | some b =>
    cases b with
    | true => rfl
    | false => exact absurd hmate hm

theorem pinEdge_within {b : Bool} : Within 0x800000000000 s (s.pinEdge i held b) := within_setEvtIn _ _ _

theorem pinEdge_reject {b : Bool} (hr : (s.evtInOf i).reject = false) : ((s.pinEdge i held b).evtInOf i).reject = b := by
  have h : (s.pinEdge i held b).evtInOf i = _ := Tab.get_put_self
  rw [h, hr, Bool.not_false, Bool.and_true]

theorem tooShort_false (h : s.rf (Reg.TRG_EV_CFG i) 8 8 = 0 ∨ 10 * s.rf (Reg.TRG_EV_CFG i) 8 8 < held) : s.tooShort i held = false := by
  unfold State.tooShort
  simp only [Bool.and_eq_false_iff, decide_eq_false_iff_not, ne_eq, not_not]
  omega

theorem tooShort_true (h : s.rf (Reg.TRG_EV_CFG i) 8 8 ≠ 0) (hh : held ≤ 10 * s.rf (Reg.TRG_EV_CFG i) 8 8) : s.tooShort i held = true := by
  unfold State.tooShort
  simp [h, hh]

/-- An accepted edge is counted; where EDGE selects its direction it is captured. -/
theorem evtAccept_spec (hi : i < 16) (hu : u = s.evtAccept i rising ph) : u.reg (Reg.TRG_CNT 5) = satWord (s.reg (Reg.TRG_CNT 5)) 1 ∧
    (s.rb (Reg.TRG_EV_CFG i) (if rising then 1 else 2) = true → u.rb (Reg.TRG_EV_STATUS i) 31 = true ∧
      u.rb (Reg.TRG_EV_STATUS i) 16 = rising ∧ u.reg (Reg.TRG_EV_NS i) = word (stampNs (s.tdc (s.rf Reg.TRG_CTRL 0 2) ph))) := by
  have hst : Unfired (Reg.TRG_EV_STATUS i) := by unfold Reg.TRG_EV_STATUS Unfired Reg.TRG_STATUS Reg.TRG_FIRED Reg.TRG_CNT; omega
  have hns : Unfired (Reg.TRG_EV_NS i) := by unfold Reg.TRG_EV_NS Unfired Reg.TRG_STATUS Reg.TRG_FIRED Reg.TRG_CNT; omega
  have hne : Reg.TRG_EV_NS i ≠ Reg.TRG_EV_STATUS i := by unfold Reg.TRG_EV_NS Reg.TRG_EV_STATUS; omega
  obtain ⟨a, ha⟩ : ∃ a, a = s.bump (Reg.TRG_CNT 5) := ⟨_, rfl⟩
  have hal : Leaves (· ≠ Reg.TRG_CNT 5) s a := ha ▸ leaves_bump (by simp)
  have hcnt : a.reg (Reg.TRG_CNT 5) = satWord (s.reg (Reg.TRG_CNT 5)) 1 := by rw [ha, reg_bump, if_pos rfl]
  have hcfg : a.rb (Reg.TRG_EV_CFG i) (if rising then 1 else 2) = s.rb (Reg.TRG_EV_CFG i) (if rising then 1 else 2) :=
    hal.rb (by unfold Reg.TRG_EV_CFG Reg.TRG_CNT; omega) _
  have htdc : a.tdc (a.rf Reg.TRG_CTRL 0 2) ph = s.tdc (s.rf Reg.TRG_CTRL 0 2) ph := by
    rw [hal.rf (by decide)]
    have h4 : s.rf Reg.TRG_CTRL 0 2 < 4 := fld_lt
    generalize s.rf Reg.TRG_CTRL 0 2 = n at h4 ⊢
    unfold State.tdc
    rw [State.tbState, hal.rf (by unfold Reg.TB_STATUS Reg.TRG_CNT; omega), tbNow_congr (t := a) (ha ▸ (within_bump _ _).tbs rfl)]
    rfl
  unfold State.evtAccept at hu
  dsimp only at hu
  rw [← ha, hcfg, htdc] at hu
  by_cases hc : s.rb (Reg.TRG_EV_CFG i) (if rising then 1 else 2) = true
  · rw [if_pos hc] at hu
    obtain ⟨b, hb⟩ : ∃ b, b = a.putStamp (Reg.TRG_EV_NS i) (s.tdc (s.rf Reg.TRG_CTRL 0 2) ph) := ⟨_, rfl⟩
    obtain ⟨d, hd⟩ : ∃ d, d = (b.setRb (Reg.TRG_EV_STATUS i) 16 rising).publish (Reg.TRG_EV_STATUS i) := ⟨_, rfl⟩
    rw [← hb, ← hd] at hu
    have hul : Leaves Unfired d u := hu ▸ trigsPin_unfired
    have hdl : Leaves (· ≠ Reg.TRG_EV_STATUS i) b d := by
      rw [hd]
      exact (leaves_setRb (by simp)).trans (leaves_publish (by simp))
    have hbl : Leaves (· = Reg.TRG_CNT 5) a b := by
      rw [hb]
      exact leaves_putStamp fun k hk => by unfold Reg.TRG_EV_NS Reg.TRG_CNT; omega
    refine ⟨?_, fun _ => ⟨?_, ?_, ?_⟩⟩
    · rw [hul _ (by decide), hdl _ (by unfold Reg.TRG_EV_STATUS Reg.TRG_CNT; omega), hbl _ rfl, hcnt]
    · rw [hul.rb hst, hd]
      exact rb_setRb_self (by decide)
    · rw [hul.rb hst, hd, State.publish, State.rb, reg_setRb, if_pos rfl, bit_setBit_ne (by decide) (by decide), reg_setRf, if_pos rfl,
        bit_setFld_ne (by decide) (.inr (by decide))]
      exact rb_setRb_self (by decide)
    · rw [hul _ hns, hdl _ hne, hb, putStamp_ns]
  · rw [if_neg hc] at hu
    exact ⟨by rw [hu, hcnt], fun h => absurd h hc⟩

end Inputs

/-! ### The records move on to ring 16 -/

section Pump
variable {i : RecItem} {rest : List RecItem}

/-- Records that move to buffers leave the recorder's frames, and all but its fill of its registers. -/
structure PumpKept (s t : State) : Prop where
  regs : Leaves (fun o => Unfired o ∧ o ≠ Reg.TRG_REC_STATE) s t
  recorder : ∃ fifo buf, t.recorder = { s.recorder with fifo := fifo, buf := buf }

theorem PumpKept.refl (s : State) : PumpKept s s := ⟨.refl s, _, _, rfl⟩
theorem PumpKept.trans (h : PumpKept s x) (g : PumpKept x t) : PumpKept s t := by
  obtain ⟨f1, b1, h1⟩ := h.recorder
  obtain ⟨f2, b2, h2⟩ := g.recorder
  exact ⟨h.regs.trans g.regs, f2, b2, by rw [h2, h1]⟩

theorem PumpKept.of_regs (h : t.regs = s.regs) (hr : ∃ fifo buf, t.recorder = { s.recorder with fifo := fifo, buf := buf }) : PumpKept s t :=
  ⟨.of_regs h, hr⟩

/-- The recorder as a step leaves it that has no part in it. -/
theorem recorder_same (h : t.recorder = s.recorder) : ∃ fifo buf, t.recorder = { s.recorder with fifo := fifo, buf := buf } := ⟨_, _, h⟩

theorem pump_ringReturn {st : Nat} {body : List Byte} : PumpKept s (s.ringReturn 16 body st) :=
  ⟨(ringReturn_unfired (by decide)).mono fun _ h => h.1, recorder_same ((within_ringReturn _ _ _ _).recorder rfl)⟩

theorem pump_ringExhaust : PumpKept s (s.ringExhaust 16 false) :=
  ⟨(ringExhaust_unfired (by decide)).mono fun _ h => h.1, recorder_same ((within_ringExhaust _ _ _).recorder rfl)⟩

/-- The buffer given up before its descriptor is returned. -/
def State.bufClosed (s : State) : State :=
  (s.setRec { s.recorder with buf := none }).setRingX 16 { (s.setRec { s.recorder with buf := none }).ringX 16 with wip := 0 }

theorem recComplete_eq {b : RecBuf} (h : s.recorder.buf = some b) : ∃ body,
    s.recComplete = (s.bufClosed.hostWrite (bufAddr (s.headDesc 16)) b.octets).ringReturn 16 body (statusWord false false false 0 0) := by
  unfold State.recComplete
  rw [h]
  exact ⟨_, rfl⟩

theorem bufClosed_hostWrite {a : Nat} {bs : List Byte} (hx : x = s.bufClosed.hostWrite a bs) :
    x.regs = s.regs ∧ x.recorder = { s.recorder with buf := none } :=
  ⟨by rw [hx, (within_hostWrite _ _ _).regs rfl]; rfl, by rw [hx, (within_hostWrite _ _ _).recorder rfl]; rfl⟩

theorem pump_recComplete : PumpKept s s.recComplete := by
  cases hb : s.recorder.buf with
  | none =>
    unfold State.recComplete
    rw [hb]
    exact .refl s
  | some b =>
    obtain ⟨body, he⟩ := recComplete_eq hb
    obtain ⟨x, hx⟩ : ∃ x, x = s.bufClosed.hostWrite (bufAddr (s.headDesc 16)) b.octets := ⟨_, rfl⟩
    obtain ⟨h1, h2⟩ := bufClosed_hostWrite hx
    rw [he, ← hx]
    exact (PumpKept.of_regs h1 ⟨_, _, h2⟩).trans pump_ringReturn

/-- A record has moved to the buffer `b`. -/
def State.recTaken (s : State) (rest : List RecItem) (b : RecBuf) : State :=
  (s.setRec { s.recorder with fifo := rest, buf := some b }).setRingX 16
    { (s.setRec { s.recorder with fifo := rest, buf := some b }).ringX 16 with wip := 1, episode := false }

theorem pump_recTaken {b : RecBuf} : PumpKept s (if b.mark then (s.recTaken rest b).recComplete else s.recTaken rest b) := by
  have h : PumpKept s (s.recTaken rest b) := .of_regs rfl ⟨_, _, rfl⟩
  split
  · exact h.trans pump_recComplete
  · exact h

theorem pump_recMove : PumpKept s (s.recMove i rest).1 := by
  unfold State.recMove
  extract_lets +onlyGivenNames s1 take
  have h1 : PumpKept s s1 := by
    unfold s1
    split
    · split
      · exact pump_recComplete
      · exact .refl s
    · exact .refl s
  have ht : ∀ (y : State) (b : RecBuf), PumpKept y (take y b) := fun y b => pump_recTaken
  clear_value s1 take
  split
  · exact h1.trans (ht _ _)
  · split
    · exact h1.trans (ht _ _)
    · exact h1.trans pump_ringExhaust

theorem pump_recPumpN : ∀ {fuel : Nat} {s : State}, PumpKept s (recPumpN fuel s) := by
  intro fuel
  induction fuel with
  | zero => exact fun {s} => .refl s
  | succ n ih =>
    intro s
    unfold recPumpN
    split
    · exact .refl s
    · dsimp only
      split
      · exact pump_recMove.trans ih
      · exact pump_recMove

theorem pump_recShow : PumpKept s s.recShow := ⟨leaves_setRf fun h => h.2 rfl, recorder_same rfl⟩

theorem pump_recPump : PumpKept s s.recPump := by
  unfold State.recPump
  exact pump_recPumpN.trans pump_recShow

end Pump

/-! ### Marks, frames and buffers -/

section Records

theorem gapClosed {r : Recorder} (h : r.gapOpen = false) : r.lostFrames = 0 := by
  unfold Recorder.gapOpen at h
  rw [Bool.or_eq_false_iff] at h
  simpa using h.1

theorem recGap_none {f : Stamp} (h : s.recorder.gapOpen = false) : s.recGap f = s := by
  unfold State.recGap
  dsimp only
  rw [h, gapClosed h, Bool.false_and, Bool.or_false]
  exact if_neg (by decide)

theorem recPush_spec {octets : List Byte} {mark : Bool} (hu : u = s.recPush octets mark) :
    u.reg (Reg.TRG_CNT 0) = satWord (s.reg (Reg.TRG_CNT 0)) 1 ∧ Leaves (· ≠ Reg.TRG_CNT 0) s u ∧
    ∃ fifo, u.recorder = { s.recorder with fifo := fifo, seq := (s.recorder.seq + 1) % 2 ^ 32 } := by
  obtain ⟨y, hy⟩ : ∃ y, y = s.setRec { s.recorder with
    fifo := s.recorder.fifo ++ [{ octets := octets, mark := mark, seq := s.recorder.seq }]
    seq := (s.recorder.seq + 1) % 2 ^ 32 } := ⟨_, rfl⟩
  have he : u = y.bump (Reg.TRG_CNT 0) := by rw [hu, hy]; rfl
  have hyr : y.regs = s.regs := by rw [hy]; rfl
  refine ⟨?_, Leaves.trans (.of_regs hyr) (he ▸ leaves_bump (by simp)),
    s.recorder.fifo ++ [{ octets := octets, mark := mark, seq := s.recorder.seq }], ?_⟩
  · rw [he, reg_bump, if_pos rfl, State.reg, hyr]
    rfl
  · rw [he, (within_bump _ _).recorder rfl, hy]
    rfl

/-- The mark is closed. -/
def State.markTaken (s : State) (m : Mark) : State := { s with marks := s.marks.erase m }

theorem markHoldClose_off {m : Mark} (hm : s.marks.find? (fun m => decide (m.closeAt ≤ s.now)) = some m) (hr : s.recorder.running = false) :
    s.markHoldClose = s.markTaken m := by
  unfold State.markHoldClose
  rw [hm]
  exact if_neg (by rw [hr]; decide)

theorem markHoldClose_on {m : Mark} (hm : s.marks.find? (fun m => decide (m.closeAt ≤ s.now)) = some m) (hr : s.recorder.running = true)
    (hg : s.recorder.gapOpen = false) (hh : s.recorder.marksHeld < recMarkMax) (hx : x = s.markTaken m) :
    s.markHoldClose = ((x.recPush (x.markRecord m) true).bump (Reg.TRG_CNT 2)).recPump := by
  have hxr : x.recorder = s.recorder := by rw [hx]; rfl
  unfold State.markHoldClose
  rw [hm]
  dsimp -zeta only
  extract_lets +onlyGivenNames y z
  have hy : y = x := hx.symm
  clear_value y
  unfold z
  rw [hy, if_pos (by rw [hxr, hr]), if_pos (by rw [hxr]; exact hh)]
  dsimp only
  rw [recGap_none (by rw [hxr, hg]), ite_self]

theorem markHoldClose_spec {m : Mark} (hm : s.marks.find? (fun m => decide (m.closeAt ≤ s.now)) = some m) (hr : s.recorder.running = true)
    (hg : s.recorder.gapOpen = false) (hh : s.recorder.marksHeld < recMarkMax) (hu : u = s.markHoldClose) :
    u.reg (Reg.TRG_CNT 2) = satWord (s.reg (Reg.TRG_CNT 2)) 1 ∧ u.reg (Reg.TRG_CNT 0) = satWord (s.reg (Reg.TRG_CNT 0)) 1 ∧
    u.recorder.seq = (s.recorder.seq + 1) % 2 ^ 32 := by
  obtain ⟨x, hx⟩ : ∃ x, x = s.markTaken m := ⟨_, rfl⟩
  obtain ⟨y, hy⟩ : ∃ y, y = x.recPush (x.markRecord m) true := ⟨_, rfl⟩
  obtain ⟨z, hz⟩ : ∃ z, z = y.bump (Reg.TRG_CNT 2) := ⟨_, rfl⟩
  rw [markHoldClose_on hm hr hg hh hx, ← hy, ← hz] at hu
  obtain ⟨hl, fifo, buf, hrec⟩ : PumpKept z u := hu ▸ pump_recPump
  obtain ⟨h1, h2, f, h3⟩ := recPush_spec hy
  have hxs : ∀ o, x.reg o = s.reg o := fun o => by rw [hx]; rfl
  refine ⟨?_, ?_, ?_⟩
  · rw [hl _ (by decide), hz, reg_bump, if_pos rfl, h2 _ (by decide), hxs]
  · rw [hl _ (by decide), hz, reg_bump, if_neg (by decide), h1, hxs]
  · rw [hrec, hz, (within_bump _ _).recorder rfl, h3, hx]
    rfl

/-- Whether the frame at the front is the last. -/
def Recorder.lastFrame (r : Recorder) : Bool :=
  match r.stopAt with
  | some g => decide (g ≤ r.frame)
  | none => false

theorem recEmitFrame_fits {f : Stamp} {last : Bool} (hg : s.recorder.gapOpen = false)
    (hf : s.recorder.fill + (s.dataRecord f s.recorder.first last false).length ≤ recFifoMax)
    (hx : x = s.recPush (s.dataRecord f s.recorder.first last false) false) :
    s.recEmitFrame f last false = x.setRec { x.recorder with first := false } := by
  unfold State.recEmitFrame
  extract_lets +onlyGivenNames first record t y z
  have ht : t = s := recGap_none hg
  clear_value t y
  have hz : z = x := by
    rw [hx]
    unfold z
    rw [ht]
    exact if_pos hf
  clear_value z
  rw [hz]

/-- The recorder goes on to the frame behind the one at `f`. -/
def State.recAdvanced (s : State) (f : Stamp) : State := s.setRec { s.recorder with frame := f + s.frameLen }

theorem recFrameOut_eq (ht : t = s.recEmitFrame s.recorder.frame s.recorder.lastFrame false) (hx : x = t.recAdvanced s.recorder.frame) :
    s.recFrameOut false =
      (if s.recorder.lastFrame then x.recStopped else x.laneTrim (s.recorder.frame + x.frameLen)).recPump := by
  unfold State.recFrameOut
  extract_lets +onlyGivenNames f last t' r x' y
  have ht' : t' = t := ht.symm
  clear_value t'
  have hx' : x' = x := by
    rw [hx, ← ht']
    exact id rfl
  clear_value x'
  unfold y
  rw [hx']
  exact id rfl

theorem regs_setRec (s : State) (r : Recorder) : (s.setRec r).regs = s.regs := rfl
theorem recorder_setRec (s : State) (r : Recorder) : (s.setRec r).recorder = r := rfl

theorem frameLen_congr (h : t.reg Reg.TRG_REC_CTRL = s.reg Reg.TRG_REC_CTRL) : t.frameLen = s.frameLen := by
  rw [State.frameLen, State.rf, h]
  rfl

theorem recStopped_recorder : s.recStopped.recorder = { s.recorder with running := false, stopAt := none } := by
  unfold State.recStopped State.publish State.unready
  rfl

theorem leaves_recStopped : Leaves (fun o => o ≠ Reg.TRG_REC_STATE ∧ o ≠ Reg.TRG_REC_CMD ∧ o ≠ Reg.TRG_REC_RES) s s.recStopped := by
  unfold State.recStopped
  dsimp only
  refine .trans ?_ (leaves_publish fun h => h.2.2 rfl)
  refine .trans ?_ (leaves_setRf fun h => h.2.2 rfl)
  refine .trans ?_ (leaves_unready fun h => h.2.2 rfl)
  refine .trans ?_ (leaves_setRb fun h => h.2.1 rfl)
  refine .trans ?_ (leaves_setRb fun h => h.1 rfl)
  exact .of_regs rfl

theorem recorderFrame_due (hr : s.recorder.running = true) (hd : s.domOn pdAcq = true) (hready : s.recFrameReady = true)
    (ht : s.recorder.frame + s.frameLen ≤ s.tbNow s.acqTb) : s.recorderFrame = s.recFrameOut false := by
  unfold State.recorderFrame
  have h : (s.recorder.running && s.domOn pdAcq && s.recFrameReady && decide (s.recorder.frame + s.frameLen ≤ s.tbNow s.acqTb)) = true := by
    simp only [hr, hd, hready, ht, decide_true, Bool.and_self]
  exact if_pos h

theorem recorderFrame_spec (hr : s.recorder.running = true) (hd : s.domOn pdAcq = true) (hready : s.recFrameReady = true)
    (ht : s.recorder.frame + s.frameLen ≤ s.tbNow s.acqTb) (hg : s.recorder.gapOpen = false)
    (hf : s.recorder.fill + (s.dataRecord s.recorder.frame s.recorder.first s.recorder.lastFrame false).length ≤ recFifoMax)
    (hu : u = s.recorderFrame) : u.reg (Reg.TRG_CNT 0) = satWord (s.reg (Reg.TRG_CNT 0)) 1 ∧
    u.recorder.frame = s.recorder.frame + s.frameLen ∧ u.recorder.seq = (s.recorder.seq + 1) % 2 ^ 32 ∧
    u.recorder.running = !s.recorder.lastFrame := by
  obtain ⟨a, ha⟩ : ∃ a, a = s.recPush (s.dataRecord s.recorder.frame s.recorder.first s.recorder.lastFrame false) false := ⟨_, rfl⟩
  obtain ⟨b, hb⟩ : ∃ b, b = a.setRec { a.recorder with first := false } := ⟨_, rfl⟩
  obtain ⟨c, hc⟩ : ∃ c, c = b.recAdvanced s.recorder.frame := ⟨_, rfl⟩
  obtain ⟨d, hd'⟩ : ∃ d, d = if s.recorder.lastFrame then c.recStopped else c.laneTrim (s.recorder.frame + c.frameLen) := ⟨_, rfl⟩
  have hbe : b = s.recEmitFrame s.recorder.frame s.recorder.lastFrame false := by rw [hb, recEmitFrame_fits hg hf ha]
  have he : u = d.recPump := by
    rw [hu, recorderFrame_due hr hd hready ht, recFrameOut_eq hbe hc, ← hd']
  obtain ⟨h1, h2, fifo, h3⟩ := recPush_spec ha
  have hbl : b.regs = a.regs := by rw [hb]; exact regs_setRec _ _
  have hcl : c.regs = b.regs := by rw [hc]; exact regs_setRec _ _
  have hlen : b.frameLen = s.frameLen := frameLen_congr (by rw [State.reg, hbl]; exact h2 _ (by decide))
  have hdl : Leaves (fun o => o ≠ Reg.TRG_REC_STATE ∧ o ≠ Reg.TRG_REC_CMD ∧ o ≠ Reg.TRG_REC_RES) c d := by
    rw [hd']
    exact .ite leaves_recStopped (within_laneTrim _ _).leaves
  have hbr : b.recorder = { a.recorder with first := false } := by rw [hb]; exact recorder_setRec _ _
  have hcr : c.recorder = { s.recorder with
      fifo := fifo, seq := (s.recorder.seq + 1) % 2 ^ 32, first := false, frame := s.recorder.frame + s.frameLen } := by
    rw [hc, State.recAdvanced, recorder_setRec, hlen, hbr, h3]
  have hdr : d.recorder.frame = c.recorder.frame ∧ d.recorder.seq = c.recorder.seq ∧ d.recorder.running = !s.recorder.lastFrame := by
    rw [hd']
    cases s.recorder.lastFrame with
    | true =>
      rw [if_pos rfl, recStopped_recorder]
      exact ⟨rfl, rfl, rfl⟩
    | false =>
      rw [if_neg Bool.false_ne_true, (within_laneTrim _ _).recorder rfl]
      exact ⟨rfl, rfl, by rw [hcr]; exact hr⟩
  obtain ⟨hl, f2, b2, hrec⟩ : PumpKept d u := he ▸ pump_recPump
  refine ⟨?_, ?_, ?_, ?_⟩
  · rw [hl _ (by decide), hdl _ (by decide), State.reg, hcl, hbl]; exact h1
  · rw [hrec, hdr.1, hcr]
  · rw [hrec, hdr.2.1, hcr]
  · rw [hrec, hdr.2.2]

theorem recorderFlush_spec {b : RecBuf} (hb : s.recorder.buf = some b) (ht : b.since + s.rf Reg.TRG_REC_FLUSH 0 16 * fsPerMs ≤ s.now)
    (hf : s.recorder.fifo = []) (hu : u = s.recorderFlush) : u.recorder.buf = none ∧ u.ringHead 16 = s.ringNext 16 := by
  obtain ⟨body, hc⟩ := recComplete_eq hb
  obtain ⟨x, hx⟩ : ∃ x, x = s.bufClosed.hostWrite (bufAddr (s.headDesc 16)) b.octets := ⟨_, rfl⟩
  obtain ⟨y, hy⟩ : ∃ y, y = x.ringReturn 16 body (statusWord false false false 0 0) := ⟨_, rfl⟩
  obtain ⟨h1, h2⟩ := bufClosed_hostWrite hx
  rw [← hx, ← hy] at hc
  have hyr : y.recorder = { s.recorder with buf := none } := by rw [hy, (within_ringReturn _ _ _ _).recorder rfl, h2]
  have he : u = y.recShow := by
    unfold State.recorderFlush at hu
    rw [hb] at hu
    dsimp only at hu
    rw [if_pos ht, hc, State.recPump, hyr, hf] at hu
    exact hu
  refine ⟨?_, ?_⟩
  · rw [he, State.recShow, State.setRf, (within_setReg _ _ _).recorder rfl, hyr]
  · have hhead : u.ringHead 16 = y.ringHead 16 := by
      rw [he, State.ringHead, State.rf, State.recShow, reg_setRf, if_neg (by decide)]
      rfl
    rw [hhead, hy, ringReturn_head (by decide) (by decide), ringNext_congr h1]

end Records

/-! ### START and STOP -/

section Commands
variable {v : Word} {res : Nat}

/-- A register that a recorder command's own words are not. -/
abbrev OffRecCmd (o : Nat) : Prop := o ≠ Reg.TRG_REC_CMD ∧ o ≠ Reg.TRG_REC_RES

theorem lane_offRecCmd (ch : Nat) : OffRecCmd (Reg.TRG_LANE ch) := by
  unfold OffRecCmd Reg.TRG_LANE Reg.TRG_REC_CMD Reg.TRG_REC_RES
  omega

theorem tbStatus_offRecCmd {n : Nat} (h : n < 4) : OffRecCmd (Reg.TB_STATUS n) := by
  unfold OffRecCmd Reg.TB_STATUS Reg.TRG_REC_CMD Reg.TRG_REC_RES
  omega

/-- START judges the recorder, its lanes and the time base, and not the command's words. -/
theorem startResult_congr (hl : Leaves OffRecCmd s t) (hr : t.recorder = s.recorder) : t.startResult = s.startResult := by
  have hen : ∀ ch, t.laneEn ch = s.laneEn ch := fun ch => hl.rb (lane_offRecCmd ch) 0
  have htap : ∀ ch, t.laneTap ch = s.laneTap ch := fun ch => hl.rf (lane_offRecCmd ch) _ _
  have hmask : ∀ ch, t.laneMask ch = s.laneMask ch := fun ch => hl.rf (lane_offRecCmd ch) _ _
  have hn : ∀ ch, t.laneN ch = s.laneN ch := fun ch => hl.rf (lane_offRecCmd ch) _ _
  have hon : t.lanesOn = s.lanesOn := by
    unfold State.lanesOn
    simp only [hen]
  have hlen : t.frameLen = s.frameLen := frameLen_congr (hl _ (by decide))
  have hsam : ∀ k, t.frameSamples k = s.frameSamples k := fun k => by rw [State.frameSamples, hlen]; rfl
  have hok : ∀ ch, t.laneOk ch = s.laneOk ch := fun ch => by
    unfold State.laneOk
    simp only [hn, htap, hsam]
  have hmax : ∀ ch, t.laneMax ch = s.laneMax ch := fun ch => by
    unfold State.laneMax
    simp only [hn, htap, hsam, hmask]
  have hbuf : t.recBufLen = s.recBufLen := by rw [State.recBufLen, hl.rf (by decide)]; rfl
  have hdata : t.dataMax = s.dataMax := by
    unfold State.dataMax
    simp only [hon, hmax]
  have htb : t.tbState t.acqTb = s.tbState s.acqTb := by
    rw [State.acqTb, hl.rf (by decide)]
    have h4 : s.rf Reg.ACQ_CTRL 0 2 < 4 := fld_lt
    exact hl.rf (tbStatus_offRecCmd h4) _ _
  unfold State.startResult
  simp only [hr, hon, hok, hbuf, hdata, htb]

theorem startResult_lt : s.startResult < 256 := by
  unfold State.startResult
  split_ifs <;> decide

/-- The command's word and the group that is not READY. -/
def State.recAsked (s : State) (v : Word) : State := (s.setReg Reg.TRG_REC_CMD (merge 0x7 v (s.reg Reg.TRG_REC_CMD))).unready Reg.TRG_REC_RES

theorem within_recAsked : Within 0x8 s (s.recAsked v) := (within_unready _ _).after (by decide) (within_setReg _ _ _)

theorem leaves_recAsked : Leaves OffRecCmd s (s.recAsked v) := (leaves_setReg fun h => h.1 rfl).trans (leaves_unready fun h => h.2 rfl)

theorem recAsked_seq : (s.recAsked v).rf Reg.TRG_REC_RES 0 16 = s.rf Reg.TRG_REC_RES 0 16 := by
  refine unready_seq.trans ?_
  rw [State.rf, reg_setReg_ne (by decide)]
  rfl

/-- The time of the frame grid, as it stands before and after the command's word. -/
theorem recAsked_grid (hx : x = s.recAsked v) : x.startResult = s.startResult ∧ x.frameLen = s.frameLen ∧ x.tbNow x.acqTb = s.tbNow s.acqTb ∧
    x.recorder = s.recorder := by
  have hl : Leaves OffRecCmd s x := hx ▸ leaves_recAsked
  have hw : Within 0x8 s x := hx ▸ within_recAsked
  refine ⟨startResult_congr hl (hw.recorder rfl), frameLen_congr (hl _ (by decide)), ?_, hw.recorder rfl⟩
  rw [State.acqTb, hl.rf (by decide), tbNow_congr (hw.tbs rfl)]
  rfl

theorem recCmd_poke (h : s.Accepts Reg.TRG_REC_CMD v) (hv : bit v 0 = true) :
    s.poke Reg.TRG_REC_CMD v {} = if fld v 1 2 = 1 then (s.setReg Reg.TRG_REC_CMD (merge 0x7 v (s.reg Reg.TRG_REC_CMD))).recStart
      else (s.setReg Reg.TRG_REC_CMD (merge 0x7 v (s.reg Reg.TRG_REC_CMD))).recStop := by
  rw [h.poke_plain (r := ⟨0x160024, 0x4, 1, 0x4, 1, 0x0, 0x7, 0x0, 0x0, 0x0, .single, none⟩) (by decide) (by decide) rfl rfl,
    unitHook_trg (by decide), State.trgHook, if_neg (by decide), if_neg, State.recHook, if_pos (by rw [hv]; decide)]
  rw [hv]
  decide

theorem exec_recorderStart (h : s.Accepts Reg.TRG_REC_CMD v) (hv : bit v 0 = true) (hop : fld v 1 2 = 1) :
    exec (.recorderStart v) s = .next (s.setReg Reg.TRG_REC_CMD (merge 0x7 v (s.reg Reg.TRG_REC_CMD))).recStart := by
  have he : exec (.recorderStart v) s = .next (s.poke Reg.TRG_REC_CMD v {}) := rfl
  rw [he, recCmd_poke h hv, if_pos hop]

theorem exec_recorderStop (h : s.Accepts Reg.TRG_REC_CMD v) (hv : bit v 0 = true) (hop : fld v 1 2 = 2) :
    exec (.recorderStop v) s = .next (s.setReg Reg.TRG_REC_CMD (merge 0x7 v (s.reg Reg.TRG_REC_CMD))).recStop := by
  have he : exec (.recorderStop v) s = .next (s.poke Reg.TRG_REC_CMD v {}) := rfl
  rw [he, recCmd_poke h hv, if_neg (by rw [hop]; decide)]

/-- The result of a command that leaves the recorder as it is. -/
theorem recResult_spec (hr : res < 256) (hu : u = s.recResult res) : s.Reported u Reg.TRG_REC_RES res ∧ u.rb Reg.TRG_REC_CMD 0 = false ∧
    Leaves OffRecCmd s u ∧ Within 0x8 s u := by
  obtain ⟨y, hy⟩ : ∃ y, y = s.setRb Reg.TRG_REC_CMD 0 false := ⟨_, rfl⟩
  have he : u = y.resultShown Reg.TRG_REC_RES res := by rw [hu, hy]; rfl
  have hseq : y.rf Reg.TRG_REC_RES 0 16 = s.rf Reg.TRG_REC_RES 0 16 := by
    rw [State.rf, hy, reg_setRb, if_neg (by decide)]
    rfl
  have hul : Leaves (· ≠ Reg.TRG_REC_RES) y u := he ▸ leaves_resultShown (by simp)
  refine ⟨?_, ?_, ?_, ?_⟩
  · rw [he]
    exact (reported_resultShown hr).of_seq hseq
  · rw [hul.rb (by decide), hy]
    exact rb_setRb_self (by decide)
  · rw [he, hy]
    exact (leaves_setRb fun h => h.1 rfl).trans (leaves_resultShown fun h => h.2 rfl)
  · rw [hu]
    exact within_recResult _ _

theorem recRefused_spec (hr : res < 256) (hu : u = (s.recAsked v).recResult res) : s.Reported u Reg.TRG_REC_RES res ∧
    u.rb Reg.TRG_REC_CMD 0 = false ∧ AllRegsKept s u [Reg.TRG_REC_CMD, Reg.TRG_REC_RES] ∧ OnlyRegs s u := by
  obtain ⟨h1, h2, h3, h4⟩ := recResult_spec hr hu
  refine ⟨h1.of_seq recAsked_seq, h2, fun o ho => ?_, (h4.after (by decide) within_recAsked).onlyRegs⟩
  exact leaves_recAsked.trans h3 o (by simpa using ho)

theorem recStart_refused (h0 : s.startResult ≠ 0) :
    (s.setReg Reg.TRG_REC_CMD (merge 0x7 v (s.reg Reg.TRG_REC_CMD))).recStart = (s.recAsked v).recResult s.startResult := by
  obtain ⟨x, hx⟩ : ∃ x, x = s.recAsked v := ⟨_, rfl⟩
  obtain ⟨h1, -⟩ := recAsked_grid hx
  unfold State.recStart
  rw [← State.recAsked, ← hx, ← h1]
  exact if_neg (by rw [h1]; exact h0)

/-- The recorder as START leaves it. -/
def State.recStarted (s : State) : State :=
  { s with lanes := [], recorder := { s.recorder with
      running := true, stopAt := none, first := true, seq := 0, frame := (s.tbNow s.acqTb / s.frameLen + 1) * s.frameLen } }

theorem recStart_runs (h0 : s.startResult = 0) (hx : x = s.recAsked v) :
    (s.setReg Reg.TRG_REC_CMD (merge 0x7 v (s.reg Reg.TRG_REC_CMD))).recStart = (x.recStarted.setRb Reg.TRG_REC_STATE 0 true).recResult 0 := by
  obtain ⟨h1, -⟩ := recAsked_grid hx
  unfold State.recStart
  rw [← State.recAsked, ← hx]
  exact if_pos (h1.trans h0)

theorem recStart_spec (h0 : s.startResult = 0) (hu : u = (s.setReg Reg.TRG_REC_CMD (merge 0x7 v (s.reg Reg.TRG_REC_CMD))).recStart) :
    s.Reported u Reg.TRG_REC_RES 0 ∧ u.recorder.running = true ∧
    u.recorder.frame = (s.tbNow s.acqTb / s.frameLen + 1) * s.frameLen ∧ u.recorder.seq = 0 ∧ u.rb Reg.TRG_REC_STATE 0 = true ∧
    u.rb Reg.TRG_REC_CMD 0 = false := by
  obtain ⟨x, hx⟩ : ∃ x, x = s.recAsked v := ⟨_, rfl⟩
  obtain ⟨-, hlen, hnow, -⟩ := recAsked_grid hx
  obtain ⟨y, hy⟩ : ∃ y, y = x.recStarted := ⟨_, rfl⟩
  obtain ⟨z, hz⟩ : ∃ z, z = y.setRb Reg.TRG_REC_STATE 0 true := ⟨_, rfl⟩
  rw [recStart_runs h0 hx, ← hy, ← hz] at hu
  obtain ⟨h1, h2, h3, h4⟩ := recResult_spec (by decide) hu
  have hyr : y.recorder.running = true ∧ y.recorder.frame = (x.tbNow x.acqTb / x.frameLen + 1) * x.frameLen ∧ y.recorder.seq = 0 := by
    rw [hy]
    exact ⟨rfl, rfl, rfl⟩
  have hyreg : ∀ o, y.reg o = x.reg o := fun o => by rw [hy]; rfl
  have hrec : u.recorder = y.recorder := by rw [h4.recorder rfl, hz, State.setRb, (within_setReg _ _ _).recorder rfl]
  refine ⟨h1.of_seq ?_, by rw [hrec, hyr.1], by rw [hrec, hyr.2.1, hnow, hlen], by rw [hrec, hyr.2.2], ?_, h2⟩
  · rw [State.rf, hz, reg_setRb, if_neg (by decide), hyreg, hx]
    exact recAsked_seq
  · rw [h3.rb (by decide), hz]
    exact rb_setRb_self (by decide)

theorem recStop_eq (hx : x = s.recAsked v) :
    (s.setReg Reg.TRG_REC_CMD (merge 0x7 v (s.reg Reg.TRG_REC_CMD))).recStop =
      if x.recorder.running && x.recorder.stopAt.isNone then
        if x.tbNow x.acqTb / x.frameLen * x.frameLen < x.recorder.frame && x.recorder.first then x.recStopped
        else x.setRec { x.recorder with stopAt := some (max (x.tbNow x.acqTb / x.frameLen * x.frameLen) x.recorder.frame) }
      else x.recResult 1 := by
  unfold State.recStop
  rw [← State.recAsked, ← hx]

theorem recStopped_spec (hu : u = s.recStopped) : s.Reported u Reg.TRG_REC_RES 0 ∧ u.recorder.running = false ∧
    u.rb Reg.TRG_REC_STATE 0 = false := by
  obtain ⟨y, hy⟩ : ∃ y, y = { s.setRec { s.recorder with running := false, stopAt := none } with lanes := [] } := ⟨_, rfl⟩
  obtain ⟨z, hz⟩ : ∃ z, z = (y.setRb Reg.TRG_REC_STATE 0 false).setRb Reg.TRG_REC_CMD 0 false := ⟨_, rfl⟩
  have he : u = (z.unready Reg.TRG_REC_RES).resultShown Reg.TRG_REC_RES 0 := by rw [hu, hz, hy]; rfl
  have hyreg : ∀ o, y.reg o = s.reg o := fun o => by rw [hy]; rfl
  refine ⟨?_, ?_, ?_⟩
  · have hzs : (z.unready Reg.TRG_REC_RES).rf Reg.TRG_REC_RES 0 16 = s.rf Reg.TRG_REC_RES 0 16 := by
      rw [unready_seq, State.rf, hz, reg_setRb, if_neg (by decide), reg_setRb, if_neg (by decide), hyreg]
      rfl
    rw [he]
    exact (reported_resultShown (by decide)).of_seq hzs
  · rw [hu, recStopped_recorder]
  · have hl : Leaves (· ≠ Reg.TRG_REC_RES) z u := he ▸ (leaves_unready (by simp)).trans (leaves_resultShown (by simp))
    rw [hl.rb (by decide), hz, rb_setRb_other (by decide)]
    exact rb_setRb_self (by decide)

theorem recStop_spec (hu : u = (s.setReg Reg.TRG_REC_CMD (merge 0x7 v (s.reg Reg.TRG_REC_CMD))).recStop) (hv : bit v 0 = true) :
    (s.recorder.running = false → s.Reported u Reg.TRG_REC_RES 1 ∧ u.rb Reg.TRG_REC_CMD 0 = false ∧
      AllRegsKept s u [Reg.TRG_REC_CMD, Reg.TRG_REC_RES] ∧ OnlyRegs s u) ∧
    (∀ cur, s.recorder.running = true → s.recorder.stopAt = none → cur = s.tbNow s.acqTb / s.frameLen * s.frameLen →
      (s.recorder.first = false ∨ s.recorder.frame ≤ cur → u.recorder = { s.recorder with stopAt := some (max cur s.recorder.frame) } ∧
        u.rb Reg.TRG_REC_CMD 0 = true ∧ u.rb Reg.TRG_REC_RES 31 = false) ∧
      (s.recorder.first = true → cur < s.recorder.frame → u.recorder.running = false ∧ s.Reported u Reg.TRG_REC_RES 0 ∧
        u.rb Reg.TRG_REC_STATE 0 = false)) := by
  obtain ⟨x, hx⟩ : ∃ x, x = s.recAsked v := ⟨_, rfl⟩
  obtain ⟨-, hlen, hnow, hrec⟩ := recAsked_grid hx
  rw [recStop_eq hx, hlen, hnow, hrec] at hu
  refine ⟨fun hr => ?_, fun cur hr hs hc => ?_⟩
  · rw [hr, Bool.false_and, if_neg Bool.false_ne_true, hx] at hu
    exact recRefused_spec (by decide) hu
  · rw [hr, hs, if_pos (by decide), ← hc] at hu
    refine ⟨fun hon => ?_, fun hf hlt => ?_⟩
    · have hn : ¬ (decide (cur < s.recorder.frame) && s.recorder.first) = true := fun h => by
        obtain ⟨h1, h2⟩ := Bool.and_eq_true_iff.1 h
        rcases hon with h3 | h3
        · exact absurd (h3.symm.trans h2) (by decide)
        · exact absurd (of_decide_eq_true h1) (Nat.not_lt.2 h3)
      rw [if_neg hn] at hu
      have hur : u.regs = x.regs := hu ▸ regs_setRec _ _
      refine ⟨by rw [hu, recorder_setRec], ?_, ?_⟩
      · have hx0 : x.rb Reg.TRG_REC_CMD 0 = true := by
          rw [hx, State.recAsked, State.unready, rb_setRb_other (by decide), State.rb, reg_setReg_self, bit_merge, if_pos (by decide), hv]
        rw [State.rb, State.reg, hur]
        exact hx0
      · have hx31 : x.rb Reg.TRG_REC_RES 31 = false := hx ▸ rb_setRb_self (by decide)
        rw [State.rb, State.reg, hur]
        exact hx31
    · rw [if_pos (by rw [hf, decide_eq_true hlt]; rfl)] at hu
      obtain ⟨h1, h2, h3⟩ := recStopped_spec hu
      exact ⟨h2, h1.of_seq (hx ▸ recAsked_seq), h3⟩

end Commands

/-! ### Edges -/

theorem evtInEdge_accepted {i ph held : Nat} {rising : Bool} (hi : i < 16) (hd : s.domOn pdAcq = true) (hen : s.rb (Reg.TRG_EV_CFG i) 0 = true)
    (hm : (s.evtInOf i).mate ≠ some false) (hr : (s.evtInOf i).reject = false)
    (hb : ((s.evtInOf i).recent.filter (fun t => decide (s.now < t + evtWindowFs))).length + 2 ≤ evtBurst)
    (h : s.rf (Reg.TRG_EV_CFG i) 8 8 = 0 ∨ 10 * s.rf (Reg.TRG_EV_CFG i) 8 8 < held) (hu : u = s.evtInEdge i rising ph held) :
    u.reg (Reg.TRG_CNT 5) = satWord (s.reg (Reg.TRG_CNT 5)) 1 ∧
    (s.rb (Reg.TRG_EV_CFG i) (if rising then 1 else 2) = true → u.rb (Reg.TRG_EV_STATUS i) 31 = true ∧
      u.rb (Reg.TRG_EV_STATUS i) 16 = rising ∧ u.reg (Reg.TRG_EV_NS i) = word (stampNs (s.tdc (s.rf Reg.TRG_CTRL 0 2) ph))) := by
  obtain ⟨y, hy⟩ : ∃ y, y = s.pinEdge i held false := ⟨_, rfl⟩
  rw [evtInEdge_eq hd hen, pinSeen_takes hm hb, hr, tooShort_false h, if_pos (by decide), ← hy] at hu
  have hreg : ∀ o, y.reg o = s.reg o := fun o => by rw [hy]; rfl
  have htdc : ∀ n, y.tdc n ph = s.tdc n ph := fun n => by
    rw [hy]
    rfl
  obtain ⟨h1, h2⟩ := evtAccept_spec hi hu
  rw [State.rb, hreg, State.rf, hreg, htdc] at h2
  rw [hreg] at h1
  exact ⟨h1, h2⟩

theorem evtInEdge_rejected {i ph held : Nat} {rising : Bool} (hd : s.domOn pdAcq = true) (hen : s.rb (Reg.TRG_EV_CFG i) 0 = true)
    (hr : (s.evtInOf i).reject = false) (h : s.rf (Reg.TRG_EV_CFG i) 8 8 ≠ 0) (hh : held ≤ 10 * s.rf (Reg.TRG_EV_CFG i) 8 8)
    (hu : u = s.evtInEdge i rising ph held) : u.reg (Reg.TRG_CNT 6) = satWord (s.reg (Reg.TRG_CNT 6)) 1 ∧ (u.evtInOf i).reject = true ∧
    AllRegsKept s u [Reg.TRG_CNT 6] := by
  obtain ⟨y, hy⟩ : ∃ y, y = s.pinEdge i held true := ⟨_, rfl⟩
  rw [evtInEdge_eq hd hen, tooShort_true h hh, Bool.not_true, Bool.and_false, if_neg Bool.false_ne_true, ← hy] at hu
  have hyreg : ∀ o, y.reg o = s.reg o := fun o => by rw [hy]; rfl
  have hrej : (y.evtInOf i).reject = true := hy ▸ pinEdge_reject hr
  refine ⟨by rw [hu, reg_bump, if_pos rfl, hyreg], ?_, fun o ho => ?_⟩
  · rw [State.evtInOf, hu, (within_bump _ _).evtIn rfl]
    exact hrej
  · rw [hu, reg_bump, if_neg (by simpa using ho), hyreg]

/-- Settles O52: by the operation, with what the records that move to ring 16 leave of the unit's counters. -/
theorem eventInputsMarksAndRecorder : Obligations.EventInputsMarksAndRecorder := by
  refine ⟨fun s => ⟨fun i rising ph held hd hen hm hr hb => ⟨fun h => ?_, fun h hh => ?_⟩, fun m hm => ⟨fun hr => ?_, fun hr hg hh => ?_⟩⟩,
    fun s => ⟨fun v hacc hv => ⟨fun hop => ⟨fun h0 => ?_, fun h0 => ?_⟩, fun hop => ?_⟩, fun hr hd hready ht hg hf => ?_, fun b hb ht hf => ?_⟩⟩
  · exact ⟨_, rfl, evtInEdge_accepted i.isLt hd hen hm hr hb h rfl⟩
  · exact ⟨_, rfl, evtInEdge_rejected hd hen hr h hh rfl⟩
  · exact congrArg Host.Outcome.next (markHoldClose_off hm hr)
  · exact ⟨_, rfl, markHoldClose_spec hm hr hg hh rfl⟩
  · exact ⟨_, exec_recorderStart hacc hv hop, recRefused_spec startResult_lt (recStart_refused h0)⟩
  · exact ⟨_, exec_recorderStart hacc hv hop, recStart_spec h0 rfl⟩
  · obtain ⟨h1, h2⟩ := recStop_spec (s := s) rfl hv
    refine ⟨fun hr => ⟨_, exec_recorderStop hacc hv hop, h1 hr⟩, fun cur hr hs hc => ⟨fun h => ?_, fun h hlt => ?_⟩⟩
    · exact ⟨_, exec_recorderStop hacc hv hop, (h2 cur hr hs hc).1 h⟩
    · exact ⟨_, exec_recorderStop hacc hv hop, (h2 cur hr hs hc).2 h hlt⟩
  · exact ⟨_, rfl, recorderFrame_spec hr hd hready ht hg hf rfl⟩
  · exact ⟨_, rfl, recorderFlush_spec hb ht hf rfl⟩

end Sys2Proof.Machine

/-! The desks' faults (R225-R228). -/

namespace Sys2Proof.Machine

-- One declaration after another: side by side, their threads' stacks pass the memory limit of a check.
set_option Elab.async false

/-- A roll of instance 0 in progress on classroom 0, whose plan reads chalkboard word 0, and the word has met an uncorrectable error. -/
def spoiltRoll : State :=
  let s := ((State.setReg {} Reg.PWR_DOMAIN_STATUS 0xFFF).setReg (Reg.LSN_INFO 0) 0x200001).setReg (Reg.IMG_CLS_STATE 0) 1
  let s := s.setClassroom 0 { desks := [(0, 1)], bad := [0], plan := some { wires := [{ tag := 1, src := .boardGet 0 }] } }
  s.setLesson 0 { begun := some { roll := { form := 0, tb := 0, rate := 0, at_ := ⟨0, 0⟩, image := 0, cap := 0, slot := 0, flags := 0 }
                                  result := {}, cover := false, reset := false, bank := false } }

theorem spoiltRoll_ready : spoiltRoll.domOn (classDomain 0) = true ∧ spoiltRoll.desk 0 0 = 1 := by decide +kernel

/-- Cover reads the word again for its own copy of the roll, and that error's FAULT_INFO takes the place of the desk's. -/
theorem spoiltRoll_faultInfo : (spoiltRoll.slateParity 0 0).reg (Reg.FAB_FAULT_INFO 0) = word (0xFF + 256 * 0xFF + 65536 * 5) := by decide +kernel

theorem spoiltRoll_deskFault : word (0 + 256 * spoiltRoll.logicalOf 0 0 + 65536 * 1) ≠ word (0xFF + 256 * 0xFF + 65536 * 5) := by decide +kernel

/-- Refutes O45: an ACTIVE desk meets a parity error while its classroom in SERVICE computes a roll that reads a chalkboard word with an
uncorrectable error. Cover takes the roll over at once and meets the error too, which it counts with FAULT_INFO of its own: the fault
register shows cause 5 and no desk, and not the desk that was retired. -/
theorem not_deskFaultsAndChecks : ¬ Obligations.DeskFaultsAndChecks := by
  intro h
  obtain ⟨-, -, hparity, -⟩ := h spoiltRoll 0
  obtain ⟨hon, hactive⟩ := spoiltRoll_ready
  obtain ⟨t, ht, -, -, -, hinfo, -⟩ := hparity 0 hon hactive
  have he : spoiltRoll.slateParity 0 0 = t := Host.Outcome.next.inj ht
  rw [← he] at hinfo
  exact spoiltRoll_deskFault (hinfo.symm.trans spoiltRoll_faultInfo)

end Sys2Proof.Machine

/-! Lessons begin, and their records reach the report card (R209, R215, R219, R228, R232, R236). -/

namespace Sys2Proof.Machine

-- One declaration after another: side by side, their threads' stacks pass the memory limit of a check.
set_option Elab.async false

variable {s t u x y : State}

/-! ### The tables of lessons and classrooms -/

section Tables
variable {i k c : Nat}

theorem lesson_setLesson {l : Lesson} : (s.setLesson i l).lesson i = l := Tab.get_put_self
theorem classroom_setClassroom {l : Classroom} : (s.setClassroom c l).classroom c = l := Tab.get_put_self
theorem classroom_setClassroom_ne {l : Classroom} (h : k ≠ c) : (s.setClassroom c l).classroom k = s.classroom k := Tab.get_put_ne h

theorem lesson_congr (h : t.lessons = s.lessons) : t.lesson i = s.lesson i := by
  rw [State.lesson, h]
  rfl

theorem classroom_congr (h : t.classrooms = s.classrooms) : t.classroom c = s.classroom c := by
  rw [State.classroom, h]
  rfl

theorem lsnHome_lt : s.lsnHome i < 32 := fld_lt

theorem lsnSpan_congr (h : t.reg (Reg.LSN_INFO i) = s.reg (Reg.LSN_INFO i)) : t.lsnSpan i = s.lsnSpan i := by
  unfold State.lsnSpan State.lsnHome State.rf
  rw [h]

end Tables

/-! ### Uncorrectable chalkboard errors -/

section Errors
variable {c : Nat}

/-- A register that a fault of classroom `c` does not write. -/
abbrev OffFault (c o : Nat) : Prop := Quiet o ∧ o ≠ Reg.FAB_CB_UE c ∧ o ≠ Reg.FAB_FAULT_INFO c ∧ o ≠ Reg.FAB_STATUS c

theorem leaves_fabFault {p l n : Nat} : Leaves (OffFault c) s (s.fabFault c p l n) :=
  (leaves_setReg fun h => h.2.2.1 rfl).trans fun _ ho => flagRaise_quiet ho.1 ho.2.2.2 (by decide)

theorem leaves_countUe : Leaves (OffFault c) s (s.countUe c) := (leaves_bump fun h => h.2.1 rfl).trans leaves_fabFault

/-- A register of an instance is none that a fault of any classroom writes. -/
theorem offFault_of_lesson {o : Nat} (h : o / 0x10000 = 17) (hm : o % 0x80 ≠ 0x54 ∧ o % 0x80 ≠ 0x10 ∧ o % 0x80 ≠ 4) : OffFault c o := by
  unfold OffFault Quiet Reg.FAB_CB_UE Reg.FAB_FAULT_INFO Reg.FAB_STATUS
  omega

theorem leaves_coverUe {r : CoverRun} : Leaves (fun o => ∀ e ∈ r.ue, OffFault e.1 o) s (s.coverUe r) :=
  Leaves.foldl (fun _ e he => leaves_countUe.mono fun _ h => h e he) s

end Errors

/-! ### The beginning of a roll -/

section Begin
variable {i : Nat} {r : Roll} {c : Commit}

/-- The roll that instance `i` begins with commit `c`. -/
def State.begunRoll (s : State) (i : Nat) (r : Roll) (c : Commit) : Begun :=
  { roll := r, result := s.lessonRun i r c (s.lesson i), cover := (s.lsnSpan i).any s.inCover, reset := (s.lesson i).fresh, bank := c.bank
    at_ := s.resultAt i r, run := if (s.lsnSpan i).any s.inCover then s.coverCompute i r else {} }

/-- The instance after it has begun roll `b`. -/
def Lesson.beginning (x : Lesson) (b : Begun) : Lesson :=
  { x with pending := none, begun := some b, fresh := false, last := some (b.roll.at_, b.roll.rate)
           lastSeq := some (b.roll.at_.seq32 (rateOf b.roll.rate)) }

/-- The desks, or cover, start on the roll. -/
def State.rollStarted (s : State) (i : Nat) (b : Begun) : State :=
  if b.cover then s.coverUe b.run else s.beginRuns i b.roll

theorem lessonBegin_eq {b : Begun} {z : State} (h : s.canBegin i = true) (hp : (s.lesson i).pending = some r)
    (hy : y = s.commitAt i (r.at_.seq32 (rateOf r.rate))) (hu : (y.lesson i).use = some c) (hb : b = y.begunRoll i r c)
    (hz : z = (y.setLesson i ((y.lesson i).beginning b)).rollStarted i b) :
    s.lessonBegin i = (z.unready (Reg.LSN_OUT_STATUS i)).unready (Reg.FAB_RES_STATUS (z.lsnHome i)) := by
  unfold State.lessonBegin
  rw [if_pos h, hp]
  dsimp only
  rw [← hy]
  split
  · next h0 => exact absurd (h0.symm.trans hu) (by simp)
  · next c' h0 =>
    obtain rfl : c' = c := Option.some.inj (h0.symm.trans hu)
    rw [hz, hb]
    rfl

theorem beginRuns_regs : (s.beginRuns i r).regs = s.regs := (within_beginRuns s i r).regs rfl

/-- A register of the instances that the start of a roll leaves. -/
abbrev OfLesson (o : Nat) : Prop := o / 0x10000 = 17 ∧ o % 0x80 ≠ 0x54 ∧ o % 0x80 ≠ 0x10 ∧ o % 0x80 ≠ 4

theorem rollStarted_spec {b : Begun} {z : State} (hz : z = y.rollStarted i b) : z.lessons = y.lessons ∧ Leaves OfLesson y z ∧
    ((b.cover = true → b.run.ue = []) → z.regs = y.regs) := by
  unfold State.rollStarted at hz
  cases hc : b.cover with
  | true =>
    rw [hc, if_pos rfl] at hz
    refine ⟨hz ▸ (within_coverUe _ _).lessons rfl, hz ▸ leaves_coverUe.mono fun o ho e _ => offFault_of_lesson ho.1 ho.2, fun h => ?_⟩
    rw [hz, State.coverUe, h rfl]
    rfl
  | false =>
    rw [hc, if_neg Bool.false_ne_true] at hz
    exact ⟨hz ▸ (within_beginRuns _ _ _).lessons rfl, .of_regs (hz ▸ beginRuns_regs), fun _ => hz ▸ beginRuns_regs⟩

/-- What a beginning leaves: the instance with its roll, the two result groups not READY, and the other registers but what errors count. -/
theorem lessonBegin_spec (hi : i < 64) {b : Begun} (h : s.canBegin i = true) (hp : (s.lesson i).pending = some r)
    (hy : y = s.commitAt i (r.at_.seq32 (rateOf r.rate))) (huse : (y.lesson i).use = some c) (hb : b = y.begunRoll i r c)
    (hu : u = s.lessonBegin i) : u.lesson i = (y.lesson i).beginning b ∧ u.rb (Reg.LSN_OUT_STATUS i) 31 = false ∧
    u.rb (Reg.FAB_RES_STATUS (y.lsnHome i)) 31 = false ∧ Leaves (fun o => OfLesson o ∧ o ≠ Reg.LSN_OUT_STATUS i) y u ∧
    ((b.cover = true → b.run.ue = []) → AllRegsKept y u [Reg.LSN_OUT_STATUS i, Reg.FAB_RES_STATUS (y.lsnHome i)]) := by
  obtain ⟨w, hw⟩ : ∃ w, w = y.setLesson i ((y.lesson i).beginning b) := ⟨_, rfl⟩
  obtain ⟨z, hz⟩ : ∃ z, z = w.rollStarted i b := ⟨_, rfl⟩
  rw [lessonBegin_eq h hp hy huse hb (hw ▸ hz)] at hu
  obtain ⟨h1, h2, h3⟩ := rollStarted_spec hz
  have hwreg : ∀ o, w.reg o = y.reg o := fun o => by rw [hw]; rfl
  have hinfo : OfLesson (Reg.LSN_INFO i) := by unfold OfLesson Reg.LSN_INFO; omega
  have hhome : z.lsnHome i = y.lsnHome i := by rw [State.lsnHome, h2.rf hinfo, State.rf, hwreg]; rfl
  have hlt : y.lsnHome i < 32 := lsnHome_lt
  rw [hhome] at hu
  generalize y.lsnHome i = k at hu hlt ⊢
  have hne : Reg.LSN_OUT_STATUS i ≠ Reg.FAB_RES_STATUS k := by unfold Reg.LSN_OUT_STATUS Reg.FAB_RES_STATUS; omega
  have hul : Leaves (fun o => o ≠ Reg.LSN_OUT_STATUS i ∧ o ≠ Reg.FAB_RES_STATUS k) z u :=
    hu ▸ (leaves_unready fun h => h.1 rfl).trans (leaves_unready fun h => h.2 rfl)
  have hlesson : u.lesson i = w.lesson i := lesson_congr (by
    rw [hu, State.unready, State.setRb, (within_setReg _ _ _).lessons rfl, State.unready, State.setRb, (within_setReg _ _ _).lessons rfl, h1])
  refine ⟨by rw [hlesson, hw, lesson_setLesson], ?_, hu ▸ rb_setRb_self (by decide), fun o ho => ?_, fun hc o ho => ?_⟩
  · rw [hu, State.unready, rb_setRb_other hne]
    exact rb_setRb_self (by decide)
  · have hk : o ≠ Reg.FAB_RES_STATUS k := by
      have := ho.1.1
      unfold Reg.FAB_RES_STATUS
      omega
    rw [hul o ⟨ho.2, hk⟩, h2 o ho.1, hwreg]
  · rw [hul o (by simpa using ho), State.reg, h3 hc]
    exact hwreg o

end Begin

/-! ### The commit that a roll reaches -/

section Commits
variable {i seq : Nat} {c : Commit} {a : CommitAt}

theorem commitAt_none (h : (s.lesson i).next = none) : s.commitAt i seq = s := by
  unfold State.commitAt
  rw [h]

theorem commitAt_reached (h : (s.lesson i).next = some (c, a)) (ha : a.reached seq = true) : s.commitAt i seq = s.applyCommit i c := by
  unfold State.commitAt
  rw [h]
  exact if_pos ha

/-- Whether the commit of `c` starts the lesson state of an instance afresh. -/
def Lesson.resets (x : Lesson) (c : Commit) : Bool :=
  match x.use with
  | some u => u.bank ≠ c.bank || u.par.getD 0 0 ≠ c.par.getD 0 0 || u.table ≠ c.table
  | none => true

/-- The instance with the commit in use. -/
def Lesson.committed (x : Lesson) (c : Commit) : Lesson :=
  { x with use := some c, next := none, state := if x.resets c then {} else x.state, fresh := x.resets c || x.fresh
           last := if x.resets c then none else x.last }

theorem applyCommit_eq (hx : x = if (s.lesson i).resets c then s.restartTag i else s) : s.applyCommit i c =
    ((x.setLesson i ((s.lesson i).committed c)).setReg (Reg.LSN_ACTIVE i) (word c.bank.toNat)).setReg (Reg.LSN_ENTRY i)
      (word (entryBytes (x.lsnKind i) c.table % 2 ^ 24)) := by
  rw [hx]
  rfl

theorem applyCommit_spec (hu : u = s.applyCommit i c) : u.lesson i = (s.lesson i).committed c ∧
    u.reg (Reg.LSN_ACTIVE i) = word c.bank.toNat := by
  obtain ⟨x, hx⟩ : ∃ x, x = if (s.lesson i).resets c then s.restartTag i else s := ⟨_, rfl⟩
  obtain ⟨z, hz⟩ : ∃ z, z = x.setLesson i ((s.lesson i).committed c) := ⟨_, rfl⟩
  rw [applyCommit_eq hx, ← hz] at hu
  constructor
  · have h : u.lesson i = z.lesson i :=
      lesson_congr (by rw [hu, (within_setReg _ _ _).lessons rfl, (within_setReg _ _ _).lessons rfl])
    rw [h, hz, lesson_setLesson]
  · rw [hu, reg_setReg_ne (by unfold Reg.LSN_ACTIVE Reg.LSN_ENTRY; omega), reg_setReg_self]

end Commits

/-! ### The desks move on -/

section Rooms
variable {i c k : Nat} {stuck : List Nat} {lane : Option Nat}

/-- A change of one room leaves the classrooms of a network. -/
theorem change_rooms {n : Net} {f : Room → Room} :
    (n.map (fun x => if x.1 = c then (x.1, f x.2) else x)).map (fun x => x.1) = n.map (fun x => x.1) := by
  rw [List.map_map]
  refine List.map_congr_left fun x _ => ?_
  dsimp only [Function.comp]
  split <;> rfl

theorem fetch_rooms {n m : Net} {v : Word} (h : n.fetch c k = some (v, m)) : m.map (fun x => x.1) = n.map (fun x => x.1) := by
  unfold Net.fetch at h
  split at h
  · exact absurd h (by simp)
  · split at h
    · exact absurd h (by simp)
    · obtain ⟨-, rfl⟩ := Prod.mk.inj (Option.some.inj h)
      exact change_rooms (f := fun x => { x with flight := Tab.put (fun _ => none) x.flight k none })

theorem receive_rooms {f : Nat → Bool} {n : Net} {e : Wire × Nat} : (Net.receive f n c e).map (fun x => x.1) = n.map (fun x => x.1) := by
  unfold Net.receive
  split
  · next up j _ =>
    dsimp only
    generalize (n.any (fun x => decide (x.1 = c) && (x.2.held e.2).isSome) || !(if up then f c else decide (c ≠ 0) && f (c - 1))) = stays
    cases hf : n.fetch (if up then c + 1 else c - 1) (2 * j + (!up).toNat) with
    | none => exact congrArg _ (ite_self n)
    | some p =>
      cases stays with
      | true => rfl
      | false => exact (change_rooms (f := fun x => x.hold e.2 (some p.1))).trans (fetch_rooms hf)
  · rfl

theorem foldl_rooms {α : Type} {f : Net → α → Net} {l : List α} (h : ∀ m a, (f m a).map (fun x => x.1) = m.map (fun x => x.1)) (n : Net) :
    (l.foldl f n).map (fun x => x.1) = n.map (fun x => x.1) := by
  induction l generalizing n with
  | nil => rfl
  | cons a l ih => exact (ih (f n a)).trans (h n a)

theorem sweep_rooms {f : Nat → Bool} {n : Net} : (Net.sweep f n).map (fun x => x.1) = n.map (fun x => x.1) := by
  unfold Net.sweep
  rw [List.map_map]
  exact foldl_rooms (fun m x => foldl_rooms (fun m e => receive_rooms) m) n

/-- A network has the same classrooms when it has settled. -/
theorem settle_rooms {f : Nat → Bool} : ∀ {fuel : Nat} {n : Net}, (Net.settle f fuel n).map (fun x => x.1) = n.map (fun x => x.1) := by
  intro fuel
  induction fuel with
  | zero => exact fun {n} => rfl
  | succ m ih =>
    intro n
    unfold Net.settle
    dsimp only
    split
    · rfl
    · exact ih.trans sweep_rooms

theorem netRun_span {e : Nat × Room} (h : e ∈ s.netRun i c stuck lane) : e.1 ∈ s.lsnSpan i := by
  have hm : e.1 ∈ (s.netRun i c stuck lane).map (fun x => x.1) := List.mem_map_of_mem h
  unfold State.netRun at hm
  dsimp only at hm
  rw [settle_rooms, List.mem_map] at hm
  obtain ⟨x, hx, hxe⟩ := hm
  obtain ⟨j, hj, hr⟩ := List.mem_filterMap.1 hx
  obtain ⟨room, -, rfl⟩ := Option.map_eq_some_iff.1 hr
  exact hxe ▸ hj

theorem leaves_putRoom {r : Room} : Leaves (OffFault c) s (s.putRoom c stuck r) := by
  unfold State.putRoom
  exact .trans (.of_regs rfl) (Leaves.foldl (fun _ _ _ => leaves_countUe) _)

theorem leaves_runOn : Leaves (fun o => ∀ k ∈ s.lsnSpan i, OffFault k o) s (s.runOn i c stuck lane) :=
  Leaves.foldl (fun _ _ he => leaves_putRoom.mono fun _ h => h _ (netRun_span he)) s

end Rooms

/-! ### Records -/

section Records
variable {i c d e tag : Nat} {r : Record} {b : Bank} {x : Classroom}

/-- The record of a lane that a classroom holds for lesson `tag`. -/
def Classroom.recordOf (x : Classroom) (tag d : Nat) : Option Record :=
  match x.banks.find? (fun b => decide (b.lesson = tag)) with
  | some b => Tab.get (fun _ => none) b.records d
  | none => none

theorem recordOf_classroom : s.recordOf c tag d = (s.classroom c).recordOf tag d := rfl

/-- The bank with one more record. -/
def Bank.taking (b : Bank) (d : Nat) (r : Record) : Bank := { b with records := Tab.put (fun _ => none) b.records d (some r) }

theorem find?_taking : ∀ {l : List Bank}, (l.map (fun b => if b.lesson = tag then b.taking d r else b)).find? (fun b => decide (b.lesson = tag)) =
    (l.find? (fun b => decide (b.lesson = tag))).map (fun b => b.taking d r) := by
  intro l
  induction l with
  | nil => rfl
  | cons b l ih =>
    by_cases h : b.lesson = tag
    · simp [h, Bank.taking]
    · simp [h, ih]

theorem cardTake_recordOf : (cardTake x d tag r).recordOf tag e = if e = d then some r else x.recordOf tag e := by
  unfold cardTake
  dsimp only
  cases hb : x.banks.find? (fun b => decide (b.lesson = tag)) with
  | some b =>
    have h : ((x.banks.map (fun b => if b.lesson = tag then b.taking d r else b)).find? (fun b => decide (b.lesson = tag))) = some (b.taking d r) := by
      rw [find?_taking, hb]
      rfl
    unfold Classroom.recordOf
    rw [hb]
    dsimp only
    change (match (x.banks.map (fun b => if b.lesson = tag then b.taking d r else b)).find? (fun b => decide (b.lesson = tag)) with
      | some b => Tab.get (fun _ => none) b.records e
      | none => none) = _
    rw [h]
    exact Tab.get_put (k := d) (v := some r) (d := fun _ => none)
  | none =>
    unfold Classroom.recordOf
    rw [hb]
    dsimp only
    rw [List.find?_append, hb, Option.none_or, List.find?_cons_of_pos (by exact decide_eq_true rfl)]
    dsimp only
    rw [Tab.get_put]
    rfl

theorem takeRecord_spec (hu : u = s.takeRecord c d tag r) : u.recordOf c tag d = some r ∧
    (∀ e, e ≠ d → u.recordOf c tag e = s.recordOf c tag e) ∧ (∀ k, k ≠ c → u.classroom k = s.classroom k) ∧
    AllRegsKept s u [Reg.FAB_STATUS c] := by
  obtain ⟨y, hy⟩ : ∃ y, y = s.setClassroom c (cardTake (s.classroom c) d tag r) := ⟨_, rfl⟩
  have he : u = y.setRf (Reg.FAB_STATUS c) 8 3 (cardTake (s.classroom c) d tag r).banks.length := by rw [hu, hy]; rfl
  have hc : ∀ k, u.classroom k = y.classroom k := fun k => classroom_congr (by rw [he, State.setRf, (within_setReg _ _ _).classrooms rfl])
  have hself : u.classroom c = cardTake (s.classroom c) d tag r := by rw [hc, hy, classroom_setClassroom]
  refine ⟨?_, fun e hne => ?_, fun k hk => by rw [hc, hy, classroom_setClassroom_ne hk], fun o ho => ?_⟩
  · rw [recordOf_classroom, hself, cardTake_recordOf, if_pos rfl]
  · rw [recordOf_classroom, hself, cardTake_recordOf, if_neg hne]
    rfl
  · have hne : o ≠ Reg.FAB_STATUS c := by simpa using ho
    rw [he, reg_setRf, if_neg hne, hy]
    rfl

theorem laneStall_spec (hu : u = s.laneStall c d tag) : u.regs = s.regs ∧ (u.classroom c).banks = (s.classroom c).banks ∧
    (u.classroom c).stalled = (s.classroom c).stalled ++
      (if s.laneWaits c d tag = true ∧ ∀ e ∈ (s.classroom c).stalled, e.1 ≠ d then [(d, tag)] else []) := by
  unfold State.laneStall at hu
  dsimp only at hu
  by_cases h : s.laneWaits c d tag = true ∧ ∀ e ∈ (s.classroom c).stalled, e.1 ≠ d
  · rw [if_pos (by simpa using h)] at hu
    rw [if_pos h, hu, classroom_setClassroom]
    exact ⟨rfl, rfl, rfl⟩
  · rw [if_neg (by simpa using h)] at hu
    rw [if_neg h, hu, List.append_nil]
    exact ⟨rfl, rfl, rfl⟩

theorem laneOpen_full (h : ∀ b ∈ x.banks, b.lesson ≠ tag) (hn : 4 ≤ x.banks.length) : laneOpen x d tag = false := by
  have hb : x.banks.any (fun b => decide (b.lesson = tag)) = false := by simpa using h
  unfold laneOpen cardOpen
  rw [hb, decide_eq_false (by omega)]
  rfl

theorem resultRecord_idle {stuck : List Nat} {ce : Nat} (h : s.computing c tag = none ∨ s.domOn (classDomain c) = false) :
    s.resultRecord c d tag stuck ce = s := by
  unfold State.resultRecord
  rcases h with h | h
  · rw [h]
  · cases s.computing c tag with
    | none => rfl
    | some i =>
      dsimp only
      rw [h]
      rfl

/-- The desks have moved on, and the record that is then offered finds the report card. -/
theorem resultRecord_eq {stuck : List Nat} {ce : Nat} {mine : Bool} (hi : s.computing c tag = some i) (hd : s.domOn (classDomain c) = true)
    (hm : mine = ((s.lessonPlan c tag).contrib.testBit d && !cardHas (s.classroom c) d tag))
    (hu : u = (s.bumpBy (Reg.FAB_CB_CE c) ce).runOn i c stuck (if mine && laneOpen (s.classroom c) d tag then some d else none)) :
    s.resultRecord c d tag stuck ce =
      if mine && laneOpen (s.classroom c) d tag then (match u.offered c d tag with | some r => u.takeRecord c d tag r | none => u)
      else if mine then u.laneStall c d tag else u := by
  unfold State.resultRecord
  rw [hi]
  dsimp only
  rw [if_pos hd, hu, hm]
  rfl

theorem runOn_counted {stuck : List Nat} {ce : Nat} {lane : Option Nat} (hu : u = (s.bumpBy (Reg.FAB_CB_CE c) ce).runOn i c stuck lane) (hc : c < 32) :
    u.reg (Reg.FAB_CB_CE c) = satWord (s.reg (Reg.FAB_CB_CE c)) ce ∧
    RegsKept s u (Reg.FAB_CB_CE c :: (s.lsnSpan i).flatMap fun k => [Reg.FAB_CB_UE k, Reg.FAB_FAULT_INFO k, Reg.FAB_STATUS k]) := by
  obtain ⟨y, hy⟩ : ∃ y, y = s.bumpBy (Reg.FAB_CB_CE c) ce := ⟨_, rfl⟩
  rw [← hy] at hu
  have hul : Leaves (fun o => ∀ k ∈ y.lsnSpan i, OffFault k o) y u := hu ▸ leaves_runOn
  have hinfo : Reg.LSN_INFO i ≠ Reg.FAB_CB_CE c := by unfold Reg.LSN_INFO Reg.FAB_CB_CE; omega
  have hspan : y.lsnSpan i = s.lsnSpan i := lsnSpan_congr (by rw [hy, reg_bumpBy, if_neg hinfo])
  constructor
  · have hoff : ∀ k ∈ y.lsnSpan i, OffFault k (Reg.FAB_CB_CE c) := fun k _ => by
      unfold OffFault Quiet Reg.FAB_CB_CE Reg.FAB_CB_UE Reg.FAB_FAULT_INFO Reg.FAB_STATUS
      omega
    rw [hul _ hoff, hy, reg_bumpBy, if_pos rfl]
  · intro o hq ho
    rw [List.mem_cons, List.mem_flatMap, not_or, not_exists] at ho
    obtain ⟨hce, hk⟩ := ho
    have hoff : ∀ k ∈ y.lsnSpan i, OffFault k o := fun k hkm => by
      have h : o ∉ [Reg.FAB_CB_UE k, Reg.FAB_FAULT_INFO k, Reg.FAB_STATUS k] := fun hm => hk k ⟨hspan ▸ hkm, hm⟩
      exact ⟨hq, by simpa using h⟩
    rw [hul o hoff, hy, reg_bumpBy, if_neg hce]

end Records

/-- Settles O43: a roll begins with the commit that it finds or reaches, and a record goes by the lane's banks. -/
theorem lessonsBeginAndRecordsArrive : Obligations.LessonsBeginAndRecordsArrive := by
  intro s
  refine ⟨fun i r x hx hcan hp => ⟨fun c run hn huse hrun => ?_, fun c a hn ha => ?_⟩, fun c d tag stuck ce => ⟨fun h => ?_, ?_⟩⟩
  · subst hx
    obtain ⟨b, hb⟩ : ∃ b, b = s.begunRoll i r c := ⟨_, rfl⟩
    obtain ⟨h1, h2, h3, -, h4⟩ := lessonBegin_spec i.isLt hcan hp (commitAt_none hn).symm huse hb rfl
    refine ⟨_, rfl, by rw [h1]; rfl, ?_, h2, h3, fun hue => h4 fun _ => ?_⟩
    · rw [h1, hb, hrun]
      rfl
    · rw [hb, ← hue, hrun]
      rfl
  · subst hx
    obtain ⟨y, hy⟩ : ∃ y, y = s.commitAt i (r.at_.seq32 (rateOf r.rate)) := ⟨_, rfl⟩
    obtain ⟨g1, g2⟩ := applyCommit_spec (hy.trans (commitAt_reached hn ha))
    have huse : (y.lesson i).use = some c := by rw [g1]; rfl
    obtain ⟨h1, -, -, h4, -⟩ := lessonBegin_spec i.isLt hcan hp hy huse rfl rfl
    have hi := i.isLt
    have hact : OfLesson (Reg.LSN_ACTIVE i) ∧ Reg.LSN_ACTIVE i ≠ Reg.LSN_OUT_STATUS i := by
      unfold OfLesson Reg.LSN_ACTIVE Reg.LSN_OUT_STATUS
      omega
    refine ⟨_, rfl, by rw [h1]; exact huse, by rw [h1]; exact congrArg Lesson.next g1, by rw [h1]; rfl,
      ⟨_, by rw [h1]; rfl, rfl, rfl, fun h0 => ?_⟩, ?_, ?_⟩
    · show (y.lesson i).fresh = true
      rw [g1, Lesson.committed, Lesson.resets, h0]
      rfl
    · rw [h4.rb hact, State.rb, g2]
      cases c.bank <;> decide
    · rw [h4.rb hact, State.rb, g2]
      cases c.bank <;> decide
  · exact congrArg Host.Outcome.next (resultRecord_idle h)
  · intro i x mine u hi hd hx hm hu
    subst hx
    have he : exec (.resultRecord c d tag stuck ce) s = .next (s.resultRecord c d tag stuck ce) := rfl
    rw [resultRecord_eq hi hd hm hu] at he
    obtain ⟨h1, h2⟩ := runOn_counted hu c.isLt
    refine ⟨h1, h2, laneOpen_full, fun h => ?_, fun h ho hr => ?_, fun r h ho hr => ?_, fun h ho => ?_⟩
    · rw [he, h]
      rfl
    · rw [he, h, ho, hr]
      rfl
    · rw [h, ho, hr] at he
      exact ⟨_, he, takeRecord_spec rfl⟩
    · rw [h, ho] at he
      exact ⟨_, he, laneStall_spec rfl⟩

end Sys2Proof.Machine

/-! The publication of a roll (R221-R223, R238). -/

namespace Sys2Proof.Machine

-- One declaration after another: side by side, their threads' stacks pass the memory limit of a check.
set_option Elab.async false

/-- Instance 1 has a roll begun that cover has computed, and an UNLOAD waits for a classroom that the fabric does not have. -/
def unloadBeyond : State :=
  let s := (State.setReg {} Reg.PWR_DOMAIN_STATUS 0xFFF).setReg (Reg.LSN_INFO 1) 0x200001
  let s := s.setLesson 1 { begun := some { roll := { form := 0, tb := 0, rate := 0, at_ := ⟨0, 0⟩, image := 0, cap := 0, slot := 0, flags := 0 }
                                           result := {}, cover := true, reset := false, bank := false } }
  { s with loader := { s.loader with unloading := some 136 } }

theorem unloadBeyond_begun : (unloadBeyond.lesson 1).begun =
    some { roll := { form := 0, tb := 0, rate := 0, at_ := ⟨0, 0⟩, image := 0, cap := 0, slot := 0, flags := 0 }
           result := {}, cover := true, reset := false, bank := false } := by decide +kernel

theorem unloadBeyond_ready : unloadBeyond.domOn pdSch = true ∧ (unloadBeyond.lesson 1).held = none ∧ (unloadBeyond.lesson 1).skips = [] ∧
    ∀ c ∈ unloadBeyond.lsnSpan 1, unloadBeyond.starved c = false := by decide +kernel

/-- The classroom that is emptied has its desk map where the output group of instance 1 stands. -/
theorem unloadBeyond_seq : (unloadBeyond.reportCardPublish 1).reg (Reg.LSN_OUT_SEQ32 1) = 0xFFFFFFFF := by decide +kernel

/-- Refutes O44: the loader's UNLOAD waits for a classroom number beyond the fabric's 32, which the state can hold. The publication lets it
finish, and the desk map that is then cleared lies over LSN1_OUT: its SEQ32 does not show the roll's. -/
theorem not_reportCardPublication : ¬ Obligations.ReportCardPublication := by
  intro h
  obtain ⟨hon, hheld, hskips, hfed⟩ := unloadBeyond_ready
  obtain ⟨t, ht, -, -, -, -, hout⟩ := (h unloadBeyond 1 _ _ unloadBeyond_begun hon hheld rfl).1 (.inr ⟨rfl, hfed⟩)
  obtain ⟨-, -, hseq, -⟩ := hout hskips
  have he : unloadBeyond.reportCardPublish 1 = t := Host.Outcome.next.inj ht
  rw [← he, show ((1 : Fin 64) : Nat) = 1 from rfl, unloadBeyond_seq] at hseq
  exact absurd hseq (by decide +kernel)

end Sys2Proof.Machine

/-! Samples and fades (R272-R279, R284). -/

namespace Sys2Proof.Machine

-- One declaration after another: side by side, their threads' stacks pass the memory limit of a check.
set_option Elab.async false

variable {s t u x z : State}

/-! ### A sample goes to its consumers -/

section Deliver
variable {ch tap n : Nat} {y : Sample}

theorem leaves_fire {back delta : Nat} {a : Stamp} (hn : n < 64) : Leaves Quiet s (s.fire n a back tap delta) := by
  have h : Leaves Quiet s (s.fireQuiet n a back tap delta).1 := (ringsKept_fireQuiet (A := fun _ => True) hn).quiet
  unfold State.fire
  dsimp only
  split
  · exact h.trans (leaves_raise (fun _ h => h) (by decide))
  · exact h

theorem leaves_trigSample (hn : n < 64) : Leaves Quiet s (s.trigSample n tap y) := by
  unfold State.trigSample
  extract_lets +onlyGivenNames cfg a
  split
  · exact .of_regs rfl
  · extract_lets +onlyGivenNames cond mag p lv hy up dn r f fireT b c
    have hb : Leaves Quiet s b := .of_regs rfl
    clear_value b
    have hc : Leaves Quiet b c := .ite (leaves_fire hn) (.refl b)
    clear_value c
    exact (hb.trans hc).trans (.ite (leaves_fire hn) (.refl c))

theorem leaves_trigsSample : Leaves Quiet s (s.trigsSample ch tap y) :=
  Leaves.foldl (fun _ _ hn => leaves_trigSample (List.mem_range.1 (List.mem_filter.1 hn).1)) s

theorem leaves_laneTake : Leaves Quiet s (s.laneTake ch tap y) := (within_laneTake _ _ _ _).leaves

/-- The channel with one more sample before stage `tap`. -/
def Chan.queue (c : Chan) (tap : Nat) (y : Sample) : Chan :=
  let g := Tab.get (fun _ => ({} : Stage)) c.stages tap
  { c with stages := Tab.put (fun _ => {}) c.stages tap { g with inq := g.inq ++ [y] } }

theorem deliver_early (h : tap < 6) (hu : u = s.deliver ch tap y) : u.chan ch = (s.chan ch).queue (tap + 1) y ∧ Leaves Quiet s u := by
  obtain ⟨a, ha⟩ : ∃ a, a = s.setChan ch ((s.chan ch).queue (tap + 1) y) := ⟨_, rfl⟩
  have he : u = (a.laneTake ch tap y).trigsSample ch tap y := by
    unfold State.deliver at hu
    dsimp only at hu
    rw [if_pos h, if_neg (by omega)] at hu
    rw [hu, ha]
    rfl
  constructor
  · rw [he, chan_congr ((within_trigsSample _ _ _ _).chans rfl), chan_congr ((within_laneTake _ _ _ _).chans rfl), ha, chan_setChan]
  · rw [he]
    exact (Leaves.trans (ha ▸ .of_regs rfl) leaves_laneTake).trans leaves_trigsSample

theorem deliver_last (hu : u = s.deliver ch 6 y) : u.chan ch = { s.chan ch with hist := (y :: (s.chan ch).hist).take histDepth } := by
  obtain ⟨a, ha⟩ : ∃ a, a = s.setChan ch { s.chan ch with hist := (y :: (s.chan ch).hist).take histDepth } := ⟨_, rfl⟩
  obtain ⟨b, hb, hba⟩ : ∃ b : State, u = ((b.laneTake ch 6 y).trigsSample ch 6 y).fadeNote ch y.stamp ∧ b.chans = a.chans := by
    unfold State.deliver at hu
    dsimp only at hu
    rw [if_pos (rfl : 6 = 6), if_neg (by decide : ¬ 6 < 6), ← ha] at hu
    refine ⟨_, hu, ?_⟩
    split
    · rfl
    · split
      · rfl
      · rw [(within_flagRaise _ _ _ _ _).chans rfl]
        rfl
  rw [hb, chan_congr ((within_fadeNote _ _ _).chans rfl), chan_congr ((within_trigsSample _ _ _ _).chans rfl),
    chan_congr ((within_laneTake _ _ _ _).chans rfl), chan_congr hba, ha, chan_setChan]

end Deliver

/-! ### The sinc stage -/

section Sinc
variable {ch e : Nat} {line : List (Nat × Bool)} {c : Chan}

/-- The edge of the last bit of the next tap-0 output. -/
def State.lastEdge (s : State) (ch : Nat) : Nat := (s.chan ch).pos / s.modEdge + s.bitsNeeded (s.chan ch) - 1

/-- The time from which that bit has been sampled. -/
def State.tap0Due (s : State) (ch : Nat) : Nat :=
  s.lastEdge ch * s.modEdge + s.sdlyAt (ch / 8) (s.lastEdge ch * s.modEdge) * 5 * 2 ^ 29 +
    (if s.rb (Reg.ACQ_CIR_CTRL (ch / 8)) 1 then s.modEdge else 0)

/-- The bits of the next tap-0 output. -/
def State.nextBits (s : State) (ch : Nat) (line : List (Nat × Bool)) : List (Bool × Bool) := s.lineBits ch (s.bitsNeeded (s.chan ch)) line

/-- The code violations of the bits are counted. -/
def State.bitsCounted (s : State) (ch : Nat) (line : List (Nat × Bool)) : State :=
  s.bumpBy (Reg.ACQ_CIR_CODEERR (ch / 8)) ((s.nextBits ch line).filter (fun b => b.2)).length

/-- The channel after it has taken the bits. -/
def State.bitsTaken (s : State) (ch : Nat) (line : List (Nat × Bool)) : Chan :=
  takeBits (s.rb (Reg.ACQ_CIR_CTRL (ch / 8)) 1) ((s.bitsCounted ch line).rb (Reg.ACQ_CIR_CTRL (ch / 8)) (8 + ch % 8)) (s.nextBits ch line)
    (s.chan ch)

/-- The channel on its way to the next output. -/
def State.sampled (s : State) (ch : Nat) (line : List (Nat × Bool)) : Chan :=
  { s.bitsTaken ch line with
    bits := (s.bitsTaken ch line).bits.take (4 * (s.bitsCounted ch line).osr - 3)
    pos := (s.lastEdge ch + 1) * (s.bitsCounted ch line).modEdge % stampMod }

theorem tap0_early (h : s.tbNow s.acqTb < s.tap0Due ch) : s.tap0 ch line = s := by
  unfold State.tap0
  exact if_pos h

theorem tap0_eq {x0 : Int} {p : State × Chan} (h : s.tap0Due ch ≤ s.tbNow s.acqTb) (hx : x = s.bitsCounted ch line) (hc : c = s.sampled ch line)
    (h0 : x0 = sincOut x.osrLog c.bits) (hp : p = x.overrange ch c x0) : ∃ flags, s.tap0 ch line =
      (p.1.setChan ch { p.2 with mark0 := false }).deliver ch 0
        { stamp := p.1.tap0Stamp (s.lastEdge ch), val := ofQ31 (p.1.tap0Value ch x0), flags := flags } := by
  have hn : ¬ s.tbNow s.acqTb < s.tap0Due ch := Nat.not_lt.2 h
  unfold State.tap0
  rw [hp, h0, hc, hx]
  exact ⟨_, if_neg hn⟩

theorem overrange_chan {x0 : Int} : ∃ hi lo, (s.overrange ch c x0).2 = { c with high := hi, low := lo } := ⟨_, _, rfl⟩

theorem leaves_overrange {x0 : Int} : Leaves (· ≠ Reg.ACQ_CIR_STATUS (ch / 8)) s (s.overrange ch c x0).1 := by
  unfold State.overrange
  extract_lets +onlyGivenNames lim beyond d r k a
  exact (.ite ((leaves_setRb (by simp [r])).trans (leaves_setRb (by simp [r]))) (.ite (leaves_setRb (by simp [r])) (.refl s)) :
    Leaves (· ≠ Reg.ACQ_CIR_STATUS (ch / 8)) s a)

/-- A register that the sinc stage of a circuit does not write. -/
abbrev OffSinc (k o : Nat) : Prop := o ≠ Reg.ACQ_CIR_CODEERR k ∧ o ≠ Reg.ACQ_CIR_STATUS k

theorem modEdge_congr (h : t.reg Reg.ACQ_CTRL = s.reg Reg.ACQ_CTRL) : t.modEdge = s.modEdge ∧ t.osrLog = s.osrLog ∧ t.osr = s.osr := by
  have hm : t.modf = s.modf := by
    unfold State.modf State.rf
    rw [h]
  refine ⟨?_, ?_, ?_⟩
  · rw [State.modEdge, hm]
    rfl
  · rw [State.osrLog, hm]
    rfl
  · rw [State.osr, State.osrLog, hm]
    rfl

theorem tap0_spec (h : s.tap0Due ch ≤ s.tbNow s.acqTb) (hch : ch < 96) (hu : u = s.tap0 ch line) :
    (u.chan ch).pos = (s.lastEdge ch + 1) * s.modEdge % stampMod ∧ (u.chan ch).bits = (s.bitsTaken ch line).bits.take (4 * s.osr - 3) ∧
    (u.chan ch).fault = (s.bitsTaken ch line).fault ∧ (u.chan ch).entered = (s.bitsTaken ch line).entered ∧
    u.reg (Reg.ACQ_CIR_CODEERR (ch / 8)) = satWord (s.reg (Reg.ACQ_CIR_CODEERR (ch / 8))) ((s.nextBits ch line).filter (fun b => b.2)).length ∧
    ∃ flags, (Tab.get (fun _ => {}) (u.chan ch).stages 1).inq = (Tab.get (fun _ => {}) (s.bitsTaken ch line).stages 1).inq ++
      [{ stamp := s.tap0Stamp (s.lastEdge ch)
         val := ofQ31 (s.tap0Value ch (sincOut s.osrLog ((s.bitsTaken ch line).bits.take (4 * s.osr - 3)))), flags := flags }] := by
  obtain ⟨a, ha⟩ : ∃ a, a = s.bitsCounted ch line := ⟨_, rfl⟩
  obtain ⟨c, hc⟩ : ∃ c, c = s.sampled ch line := ⟨_, rfl⟩
  obtain ⟨x0, h0⟩ : ∃ x0, x0 = sincOut a.osrLog c.bits := ⟨_, rfl⟩
  obtain ⟨p, hp⟩ : ∃ p, p = a.overrange ch c x0 := ⟨_, rfl⟩
  obtain ⟨flags, he⟩ := tap0_eq h ha hc h0 hp
  obtain ⟨hi, lo, hp2⟩ : ∃ hi lo, p.2 = { c with high := hi, low := lo } := hp ▸ overrange_chan
  have hal : Leaves (OffSinc (ch / 8)) s a := ha ▸ leaves_setReg fun h => h.1 rfl
  have hcnt : a.reg (Reg.ACQ_CIR_CODEERR (ch / 8)) =
      satWord (s.reg (Reg.ACQ_CIR_CODEERR (ch / 8))) ((s.nextBits ch line).filter (fun b => b.2)).length := by
    rw [ha, State.bitsCounted, reg_bumpBy, if_pos rfl]
  have hpl : Leaves (· ≠ Reg.ACQ_CIR_STATUS (ch / 8)) a p.1 := hp ▸ leaves_overrange
  have hctrl : OffSinc (ch / 8) Reg.ACQ_CTRL := by unfold OffSinc Reg.ACQ_CTRL Reg.ACQ_CIR_CODEERR Reg.ACQ_CIR_STATUS; omega
  have hcfg : OffSinc (ch / 8) (Reg.FLT_CH_CFG ch) := by
    unfold OffSinc Reg.FLT_CH_CFG Reg.ACQ_CIR_CODEERR Reg.ACQ_CIR_STATUS
    omega
  have hofs : OffSinc (ch / 8) (Reg.FLT_CH_OFFSET ch) := by
    unfold OffSinc Reg.FLT_CH_OFFSET Reg.ACQ_CIR_CODEERR Reg.ACQ_CIR_STATUS
    omega
  obtain ⟨m1, m2, m3⟩ := modEdge_congr (hal _ hctrl)
  obtain ⟨n1, n2, n3⟩ := modEdge_congr ((hpl _ hctrl.2).trans (hal _ hctrl))
  have hstamp : p.1.tap0Stamp (s.lastEdge ch) = s.tap0Stamp (s.lastEdge ch) := by rw [State.tap0Stamp, n1, n3]; rfl
  have hvalue : p.1.tap0Value ch x0 = s.tap0Value ch x0 := by
    rw [State.tap0Value, hpl.rb hcfg.2, hal.rb hcfg, hpl _ hofs.2, hal _ hofs]
    rfl
  obtain ⟨y, hy⟩ : ∃ y : Sample, y = { stamp := s.tap0Stamp (s.lastEdge ch), val := ofQ31 (s.tap0Value ch x0), flags := flags } := ⟨_, rfl⟩
  obtain ⟨b, hb⟩ : ∃ b, b = p.1.setChan ch { p.2 with mark0 := false } := ⟨_, rfl⟩
  rw [he, hstamp, hvalue, ← hy, ← hb] at hu
  obtain ⟨g1, g2⟩ := deliver_early (by decide) hu
  have hbc : b.chan ch = { c with high := hi, low := lo, mark0 := false } := by rw [hb, chan_setChan, hp2]
  have hbits : c.bits = (s.bitsTaken ch line).bits.take (4 * s.osr - 3) := by
    rw [hc, State.sampled, ← ha, m3]
  have hfault : c.fault = (s.bitsTaken ch line).fault := by rw [hc]; rfl
  have hentered : c.entered = (s.bitsTaken ch line).entered := by rw [hc]; rfl
  have hst : c.stages = (s.bitsTaken ch line).stages := by rw [hc]; rfl
  rw [hbc] at g1
  have hq : Quiet (Reg.ACQ_CIR_CODEERR (ch / 8)) := by unfold Quiet Reg.ACQ_CIR_CODEERR; omega
  have hne : Reg.ACQ_CIR_CODEERR (ch / 8) ≠ Reg.ACQ_CIR_STATUS (ch / 8) := by unfold Reg.ACQ_CIR_CODEERR Reg.ACQ_CIR_STATUS; omega
  have hbr : b.regs = p.1.regs := by rw [hb]; rfl
  refine ⟨?_, ?_, ?_, ?_, ?_, flags, ?_⟩
  · rw [g1, ← m1, ha]
    exact congrArg Chan.pos hc
  · rw [g1]
    exact hbits
  · rw [g1]
    exact hfault
  · rw [g1]
    exact hentered
  · rw [g2 _ hq, State.reg, hbr]
    exact (hpl _ hne).trans hcnt
  · rw [g1, Chan.queue, Tab.get_put_self, ← hbits, ← m2, ← h0, ← hy]
    dsimp only
    rw [hst]

/-- Bits do not reach the stages behind. -/
theorem takeBits_stages {man masked : Bool} : ∀ {bs : List (Bool × Bool)} {c : Chan}, (takeBits man masked bs c).stages = c.stages := by
  intro bs
  induction bs with
  | nil => exact fun {c} => rfl
  | cons b bs ih => exact fun {c} => (ih (c := c.takeBit man masked b)).trans rfl

end Sinc

/-! ### The later stages -/

section Stages
variable {ch tap : Nat} {g : Stage} {w rest : List Sample} {y o : Sample} {line : List (Nat × Bool)}

/-- The channel whose stage `tap` has taken inputs in. -/
def Chan.fed (c : Chan) (tap : Nat) (w rest : List Sample) : Chan :=
  { c with stages := Tab.put (fun _ => {}) c.stages tap { win := w, inq := rest } }

/-- The output of stage `tap`. -/
def State.stageOut (s : State) (ch tap : Nat) (w : List Sample) (y : Sample) : Sample :=
  if tap = 1 then s.tap1Sample ch (s.chan ch) w y
  else if tap = 6 then s.tap6Sample ch (s.chan ch) w y
  else hbSample tap w y

theorem acqSample_tap0 (hd : s.domOn pdAcq = true) (hen : s.acqEn (ch / 8) = true) : s.acqSample ch 0 line = s.tap0 ch line := by
  unfold State.acqSample
  rw [hd, hen, if_neg (by decide), if_pos rfl]

theorem acqSample_waits (hd : s.domOn pdAcq = true) (hen : s.acqEn (ch / 8) = true) (h0 : tap ≠ 0)
    (hg : g = Tab.get (fun _ => {}) (s.chan ch).stages tap) (hf : feed tap g.win g.inq = (w, rest, false)) :
    s.acqSample ch tap line = s.setChan ch ((s.chan ch).fed tap w rest) := by
  unfold State.acqSample
  rw [hd, hen, if_neg (by decide), if_neg h0]
  dsimp only
  rw [← hg, hf]
  rfl

theorem acqSample_gives (hd : s.domOn pdAcq = true) (hen : s.acqEn (ch / 8) = true) (h0 : tap ≠ 0)
    (hg : g = Tab.get (fun _ => {}) (s.chan ch).stages tap) (hf : feed tap g.win g.inq = (y :: w, rest, true)) :
    ∃ m1 m6, s.acqSample ch tap line =
      (s.setChan ch { (s.chan ch).fed tap (y :: w) rest with mark1 := m1, mark6 := m6 }).deliver ch tap (s.stageOut ch tap (y :: w) y) := by
  unfold State.acqSample
  rw [hd, hen, if_neg (by decide), if_neg h0]
  dsimp only
  rw [← hg, hf]
  exact ⟨_, _, rfl⟩

theorem acqSample_spec (hd : s.domOn pdAcq = true) (hen : s.acqEn (ch / 8) = true) (h0 : tap ≠ 0) (h6 : tap < 7)
    (hg : g = Tab.get (fun _ => {}) (s.chan ch).stages tap) (hf : feed tap g.win g.inq = (y :: w, rest, true))
    (ho : o = s.stageOut ch tap (y :: w) y) (hu : u = s.acqSample ch tap line) :
    Tab.get (fun _ => {}) (u.chan ch).stages tap = { win := y :: w, inq := rest } ∧
    (tap < 6 → (Tab.get (fun _ => {}) (u.chan ch).stages (tap + 1)).inq = (Tab.get (fun _ => {}) (s.chan ch).stages (tap + 1)).inq ++ [o]) ∧
    (tap = 6 → (u.chan ch).hist = (o :: (s.chan ch).hist).take histDepth) := by
  obtain ⟨m1, m6, he⟩ := acqSample_gives (line := line) hd hen h0 hg hf
  obtain ⟨c, hc⟩ : ∃ c : Chan, c = { (s.chan ch).fed tap (y :: w) rest with mark1 := m1, mark6 := m6 } := ⟨_, rfl⟩
  obtain ⟨a, ha⟩ : ∃ a, a = s.setChan ch c := ⟨_, rfl⟩
  rw [he, ← ho, ← hc, ← ha] at hu
  have hac : a.chan ch = c := by rw [ha, chan_setChan]
  have hstages : c.stages = Tab.put (fun _ => {}) (s.chan ch).stages tap { win := y :: w, inq := rest } := by rw [hc]; rfl
  have hhist : c.hist = (s.chan ch).hist := by rw [hc]; rfl
  by_cases h : tap < 6
  · obtain ⟨g1, -⟩ := deliver_early h hu
    rw [hac] at g1
    refine ⟨?_, fun _ => ?_, fun h' => absurd h' (by omega)⟩
    · rw [g1, Chan.queue, Tab.get_put_ne (by omega), hstages, Tab.get_put_self]
    · rw [g1, Chan.queue, Tab.get_put_self]
      dsimp only
      rw [hstages, Tab.get_put_ne (by omega)]
  · obtain rfl : tap = 6 := by omega
    have g1 := deliver_last hu
    rw [hac] at g1
    refine ⟨?_, fun h' => absurd h' h, fun _ => ?_⟩
    · rw [g1, hstages, Tab.get_put_self]
    · rw [g1, hhist]

end Stages

/-! ### The fade of FIR banks -/

section Fades
variable {ch res : Nat} {v : Word} {t0 : Stamp} {chs : List Nat}

/-- The mask of a fade. -/
def State.fadeMask (s : State) : Nat :=
  (s.reg (Reg.FLT_XF_MASK 0)).toNat + (s.reg (Reg.FLT_XF_MASK 1)).toNat * 2 ^ 32 + (s.reg (Reg.FLT_XF_MASK 2)).toNat * 2 ^ 64

theorem fadeMask_bit (h : ch < 96) : s.fadeMask.testBit ch = s.rb (Reg.FLT_XF_MASK (ch / 32)) (ch % 32) := by
  have h0 := (s.reg (Reg.FLT_XF_MASK 0)).isLt
  have h1 := (s.reg (Reg.FLT_XF_MASK 1)).isLt
  have he : s.fadeMask = 2 ^ 32 * (2 ^ 32 * (s.reg (Reg.FLT_XF_MASK 2)).toNat + (s.reg (Reg.FLT_XF_MASK 1)).toNat) +
      (s.reg (Reg.FLT_XF_MASK 0)).toNat := by
    unfold State.fadeMask
    ring
  rw [he, Nat.testBit_two_pow_mul_add _ h0, Nat.testBit_two_pow_mul_add _ h1]
  obtain h | h | h : ch / 32 = 0 ∨ ch / 32 = 1 ∨ ch / 32 = 2 := by omega
  · rw [if_pos (by omega), h, show ch % 32 = ch by omega]
    rfl
  · rw [if_neg (by omega), if_pos (by omega), h, show ch % 32 = ch - 32 by omega]
    rfl
  · rw [if_neg (by omega), if_neg (by omega), h, show ch % 32 = ch - 32 - 32 by omega]
    rfl

theorem shift_testBit {m : Nat} : decide (m >>> ch % 2 = 1) = m.testBit ch := by
  rw [Nat.testBit_eq_decide_div_mod_eq, Nat.shiftRight_eq_div_pow]

/-- The channels that a fade masks. -/
def State.fadeChans (s : State) : List Nat := (List.range 96).filter (fun ch => s.rb (Reg.FLT_XF_MASK (ch / 32)) (ch % 32))

theorem fadeChans_eq : (List.range 96).filter (fun ch => decide (s.fadeMask >>> ch % 2 = 1)) = s.fadeChans :=
  List.filter_congr fun ch h => by rw [shift_testBit, fadeMask_bit (List.mem_range.1 h)]

theorem fadeResult_spec (hr : res < 256) (hu : u = s.fadeResult res t0) : s.Reported u Reg.FLT_XF_STATUS res ∧ u.rb Reg.FLT_XF_CMD 0 = false ∧
    u.fade = s.fade := by
  obtain ⟨y, hy⟩ : ∃ y, y = (s.setReg Reg.FLT_XF_NS (word (stampNs t0))).setReg Reg.FLT_XF_SEC_LO (word (stampSec t0)) := ⟨_, rfl⟩
  have he : u = (y.resultShown Reg.FLT_XF_STATUS res).setRb Reg.FLT_XF_CMD 0 false := by rw [hu, hy]; rfl
  have hseq : y.rf Reg.FLT_XF_STATUS 0 16 = s.rf Reg.FLT_XF_STATUS 0 16 := by
    rw [State.rf, hy, reg_setReg_ne (by decide), reg_setReg_ne (by decide)]
    rfl
  refine ⟨State.Reported.of_seq ?_ hseq, he ▸ rb_setRb_self (by decide), ?_⟩
  · rw [he]
    exact (reported_resultShown hr).after (reg_setRb.trans (if_neg (by decide)))
  · rw [hu]
    rfl

/-- The command's word and the group that is not READY. -/
def State.fadeAsked (s : State) (v : Word) : State := (s.setReg Reg.FLT_XF_CMD (merge 0x1F v (s.reg Reg.FLT_XF_CMD))).unready Reg.FLT_XF_STATUS

abbrev OffFade (o : Nat) : Prop := o ≠ Reg.FLT_XF_CMD ∧ o ≠ Reg.FLT_XF_STATUS

theorem leaves_fadeAsked : Leaves OffFade s (s.fadeAsked v) := (leaves_setReg fun h => h.1 rfl).trans (leaves_unready fun h => h.2 rfl)
theorem within_fadeAsked : Within 0x8 s (s.fadeAsked v) := (within_unready _ _).after (by decide) (within_setReg _ _ _)

theorem fadeAsked_seq : (s.fadeAsked v).rf Reg.FLT_XF_STATUS 0 16 = s.rf Reg.FLT_XF_STATUS 0 16 := by
  refine unready_seq.trans ?_
  rw [State.rf, reg_setReg_ne (by decide)]
  rfl

/-- A command reads of the banks what stood before it. -/
theorem fadeAsked_reads (hx : x = s.fadeAsked v) : x.fadeChans = s.fadeChans ∧ (∀ ch, x.firEn ch = s.firEn ch) ∧
    (∀ ch < 96, x.acqEn (ch / 8) = s.acqEn (ch / 8)) ∧ (∀ ch, x.reg (Reg.FLT_CH_FIR ch) = s.reg (Reg.FLT_CH_FIR ch)) ∧
    x.tbNow x.acqTb = s.tbNow s.acqTb := by
  have hl : Leaves OffFade s x := hx ▸ leaves_fadeAsked
  have hfir : ∀ ch, OffFade (Reg.FLT_CH_FIR ch) := fun ch => by
    unfold OffFade Reg.FLT_CH_FIR Reg.FLT_XF_CMD Reg.FLT_XF_STATUS
    omega
  refine ⟨List.filter_congr fun ch h => hl.rb ?_ _, fun ch => hl.rb (hfir ch) _, fun ch h => hl.rb ?_ _, fun ch => hl _ (hfir ch), ?_⟩
  · have := List.mem_range.1 h
    unfold OffFade Reg.FLT_XF_MASK Reg.FLT_XF_CMD Reg.FLT_XF_STATUS
    omega
  · unfold OffFade Reg.ACQ_CIR_CTRL Reg.FLT_XF_CMD Reg.FLT_XF_STATUS
    omega
  · have htb : x.tbs = s.tbs := hx ▸ within_fadeAsked.tbs rfl
    rw [State.acqTb, hl.rf (by decide), tbNow_congr htb]
    rfl

/-- Whether a masked channel has no filter or no circuit, and whether its banks differ in their delay. -/
def State.fadeStopped (s : State) : Bool := s.fadeChans.any (fun ch => !s.firEn ch || !s.acqEn (ch / 8))
def State.fadeUneven (s : State) : Bool :=
  s.fadeChans.any (fun ch => decide (firGd (s.reg (Reg.FLT_CH_FIR ch)) false ≠ firGd (s.reg (Reg.FLT_CH_FIR ch)) true))

/-- The fade that a command starts. -/
def State.fadeStarted (s : State) : State :=
  { s with fade := some { mask := s.fadeMask, len := s.rf Reg.FLT_XF_CMD 1 4 + 4
                          start := (s.tbNow s.acqTb / tapPeriod 6 + 1) * tapPeriod 6, done := 0 } }

theorem fadeGo_eq (hx : x = s.unready Reg.FLT_XF_STATUS) : s.fadeGo =
    if x.fadeStopped then x.fadeResult 1 0 else if x.fadeUneven then x.fadeResult 2 0 else if x.fadeChans.isEmpty then x.fadeResult 3 0
    else x.fadeStarted := by
  unfold State.fadeGo State.fadeStopped State.fadeUneven
  rw [← fadeChans_eq, hx]
  rfl

theorem fade_poke (h : s.Accepts Reg.FLT_XF_CMD v) (hv : bit v 0 = true) :
    exec (.fltXfade v) s = .next (s.setReg Reg.FLT_XF_CMD (merge 0x1F v (s.reg Reg.FLT_XF_CMD))).fadeGo := by
  have he : exec (.fltXfade v) s = .next (s.poke Reg.FLT_XF_CMD v {}) := rfl
  rw [he, h.poke_plain (r := ⟨0x130040, 0x4, 1, 0x4, 1, 0x0, 0x1F, 0x0, 0x0, 0x0, .single, none⟩) (by decide) (by decide) rfl rfl,
    unitHook_flt (by decide), State.fltHook, if_pos rfl, if_pos hv]

/-- A refused fade gives its result. -/
theorem fadeRefused (hr : res < 256) (hx : x = s.fadeAsked v) (hu : u = x.fadeResult res 0) : s.Reported u Reg.FLT_XF_STATUS res ∧
    u.rb Reg.FLT_XF_CMD 0 = false ∧ u.fade = s.fade := by
  obtain ⟨h1, h2, h3⟩ := fadeResult_spec hr hu
  exact ⟨h1.of_seq (hx ▸ fadeAsked_seq), h2, h3.trans (hx ▸ within_fadeAsked.fade rfl)⟩

theorem fadeStarted_spec (hx : x = s.fadeAsked v) (hu : u = x.fadeStarted) : ∃ f, u.fade = some f ∧ f.len = fld v 1 4 + 4 ∧ f.done = 0 ∧
    f.start = (s.tbNow s.acqTb / tapPeriod 6 + 1) * tapPeriod 6 ∧ (∀ ch : Fin 96, f.mask.testBit ch = decide (ch.val ∈ s.fadeChans)) ∧
    u.rb Reg.FLT_XF_STATUS 31 = false ∧ AllRegsKept s u [Reg.FLT_XF_CMD, Reg.FLT_XF_STATUS] := by
  obtain ⟨h1, -, -, -, h5⟩ := fadeAsked_reads hx
  have hlen : x.rf Reg.FLT_XF_CMD 1 4 = fld v 1 4 := by
    rw [hx, State.fadeAsked, State.unready, State.rf, reg_setRb, if_neg (by decide), reg_setReg_self, fld_merge (by decide)]
  have hready : x.rb Reg.FLT_XF_STATUS 31 = false := hx ▸ rb_setRb_self (by decide)
  have hur : u.regs = x.regs := by rw [hu]; rfl
  refine ⟨_, by rw [hu]; rfl, by rw [hlen], rfl, by rw [h5], fun ch => ?_, ?_, fun o ho => ?_⟩
  · rw [fadeMask_bit ch.isLt, ← h1, State.fadeChans, Bool.eq_iff_iff, decide_eq_true_iff, List.mem_filter, List.mem_range]
    exact ⟨fun h => ⟨ch.isLt, h⟩, fun h => h.2⟩
  · rw [State.rb, State.reg, hur]
    exact hready
  · rw [State.reg, hur]
    exact (hx ▸ leaves_fadeAsked : Leaves OffFade s x) o (by simpa using ho)

end Fades

/-- Settles O48: the sinc stage, the later stages and the fade, each by what it waits for and what it gives. -/
theorem samplesAndFades : Obligations.SamplesAndFades := by
  refine fun s => ⟨fun ch periods levels hd hen => ⟨?_, fun tap g h0 hg => ⟨fun w rest hf => ?_, fun y w rest hf => ?_⟩⟩, fun v chs hacc hv hc => ?_⟩
  · intro man n e due bs x xs hman hn he hdue hbs hx hxs
    subst hman hn he hbs
    have hrun : exec (.acqSample ch 0 periods levels) s = .next (s.tap0 ch (periods.zip levels)) :=
      congrArg Host.Outcome.next (acqSample_tap0 hd hen)
    have hxt : x = s.bitsTaken ch (periods.zip levels) := by
      have hne : Reg.ACQ_CIR_CTRL (ch / 8) ≠ Reg.ACQ_CIR_CODEERR (ch / 8) := by unfold Reg.ACQ_CIR_CTRL Reg.ACQ_CIR_CODEERR; omega
      rw [hx, State.bitsTaken, State.bitsCounted, State.rb, State.rb, State.rb, reg_bumpBy, if_neg hne]
      rfl
    refine ⟨fun h => ?_, fun h => ?_⟩
    · rw [hrun, tap0_early (by rw [hdue] at h; exact h)]
    · have hst : (s.bitsTaken ch (periods.zip levels)).stages = (s.chan ch).stages := takeBits_stages
      obtain ⟨h1, h2, h3, h4, h5, flags, h6⟩ := tap0_spec (line := periods.zip levels) (by rw [hdue] at h; exact h) ch.isLt rfl
      rw [hst] at h6
      rw [hxs, hxt]
      exact ⟨_, hrun, h1, h2, h3, h4, h5, flags, h6⟩
  · have h0' : tap.val ≠ 0 := fun h => h0 (Fin.ext h)
    exact congrArg Host.Outcome.next (acqSample_waits hd hen h0' hg hf)
  · have h0' : tap.val ≠ 0 := fun h => h0 (Fin.ext h)
    obtain ⟨h1, h2, h3⟩ := acqSample_spec (line := periods.zip levels) hd hen h0' tap.isLt hg hf rfl rfl
    refine ⟨_, rfl, h1, fun h => ?_, fun hlo hhi => ?_, fun h => ?_⟩
    · subst h
      exact h2 (by decide)
    · rw [h2 hhi, State.stageOut, if_neg (by omega), if_neg (by omega)]
    · subst h
      exact h3 rfl
  · obtain ⟨x, hx⟩ : ∃ x, x = s.fadeAsked v := ⟨_, rfl⟩
    obtain ⟨g1, g2, g3, g4, -⟩ := fadeAsked_reads hx
    have hrun := fade_poke hacc hv
    rw [fadeGo_eq hx] at hrun
    have hchs : x.fadeChans = chs := g1.trans hc.symm
    have hlt : ∀ ch ∈ chs, ch < 96 := fun ch h => List.mem_range.1 (List.mem_filter.1 (hc ▸ h)).1
    have hstop : x.fadeStopped = true ↔ ∃ ch ∈ chs, s.firEn ch = false ∨ s.acqEn (ch / 8) = false := by
      rw [State.fadeStopped, hchs, List.any_eq_true]
      refine exists_congr fun ch => and_congr_right fun h => ?_
      rw [g2, g3 ch (hlt ch h), Bool.or_eq_true, Bool.not_eq_true', Bool.not_eq_true']
    have huneven : x.fadeUneven = true ↔ ∃ ch ∈ chs, firGd (s.reg (Reg.FLT_CH_FIR ch)) false ≠ firGd (s.reg (Reg.FLT_CH_FIR ch)) true := by
      rw [State.fadeUneven, hchs, List.any_eq_true]
      exact exists_congr fun ch => and_congr_right fun _ => by rw [g4, decide_eq_true_iff]
    refine ⟨fun h => ?_, fun hon h => ?_, fun h => ?_, fun hne hall => ?_⟩
    · rw [if_pos (hstop.2 h)] at hrun
      exact ⟨_, hrun, fadeRefused (by decide) hx rfl⟩
    · have hs : ¬ x.fadeStopped = true := fun hb => by
        obtain ⟨ch, hm, ho⟩ := hstop.1 hb
        simp [hon ch hm] at ho
      rw [if_neg hs, if_pos (huneven.2 h)] at hrun
      exact ⟨_, hrun, fadeRefused (by decide) hx rfl⟩
    · have hs : ¬ x.fadeStopped = true := fun hb => by
        obtain ⟨ch, hm, -⟩ := hstop.1 hb
        simp [h] at hm
      have hu : ¬ x.fadeUneven = true := fun hb => by
        obtain ⟨ch, hm, -⟩ := huneven.1 hb
        simp [h] at hm
      rw [if_neg hs, if_neg hu, if_pos (by rw [hchs, h]; rfl)] at hrun
      obtain ⟨h1, -, h3⟩ := fadeRefused (res := 3) (by decide) hx rfl
      exact ⟨_, hrun, h1, h3⟩
    · have hs : ¬ x.fadeStopped = true := fun hb => by
        obtain ⟨ch, hm, ho⟩ := hstop.1 hb
        simp [hall ch hm] at ho
      have hu : ¬ x.fadeUneven = true := fun hb => by
        obtain ⟨ch, hm, ho⟩ := huneven.1 hb
        exact ho (hall ch hm).2.2
      rw [if_neg hs, if_neg hu, if_neg (by rw [hchs, List.isEmpty_iff]; exact hne)] at hrun
      obtain ⟨f, h1, h2, h3, h4, h5, h6, h7⟩ := fadeStarted_spec hx rfl
      exact ⟨_, f, hrun, h1, h2, h3, h4, fun ch => by rw [h5, hc]; rfl, h6, h7⟩

end Sys2Proof.Machine

/-! Phasor estimates (R298-R303) and the accounting of energy periods (R309-R316). -/

namespace Sys2Proof.Machine

-- One declaration after another: side by side, their threads' stacks pass the memory limit of a check.
set_option Elab.async false

variable {s t u x y z : State}

/-! ### PHASOR and PERIOD triggers -/

section Triggers
variable {c n : Nat} {a : Stamp} {v : Word}

theorem leaves_trigValue (hn : n < 64) : Leaves Quiet s (s.trigValue n a v) := by
  unfold State.trigValue
  split
  · exact .refl s
  · extract_lets +onlyGivenNames tr cond lv hy r f b anchor d
    have hb : Leaves Quiet s b := .of_regs rfl
    clear_value b
    have hd : Leaves Quiet b d := .ite (leaves_fire hn) (.refl b)
    clear_value d
    exact (hb.trans hd).trans (.ite (leaves_fire hn) (.refl d))

theorem leaves_trigsPhasor {val : Nat → Word} : Leaves Quiet s (s.trigsPhasor c a val) :=
  Leaves.foldl (fun _ _ hn => leaves_trigValue (List.mem_range.1 (List.mem_filter.1 hn).1)) s

theorem leaves_trigsPeriod {val : Nat → Bool → Word} : Leaves Quiet s (s.trigsPeriod c a val) :=
  Leaves.foldl (fun _ _ hn => leaves_trigValue (List.mem_range.1 (List.mem_filter.1 hn).1)) s

end Triggers

/-! ### Phasor estimates -/

section Phasor
variable {c : Nat} {e : Estimate} {i : Instant} {phs : List (Word × Word)}

theorem phsOf_setPhs {p : PhsCirc} : (s.setPhs c p).phsOf c = p := Tab.get_put_self

theorem phsOf_congr (h : t.phs = s.phs) : t.phsOf c = s.phsOf c := by
  rw [State.phsOf, h]
  rfl

theorem phsR_congr (h : t.reg (Reg.PHS_CIR_CTRL c) = s.reg (Reg.PHS_CIR_CTRL c)) : t.phsR c = s.phsR c := by
  rw [State.phsR, State.rf, h]
  rfl

theorem leaves_seatFrame {f : Seated} {n : Nat} : Leaves (fun o => Quiet o ∧ o / 0x10000 = 20) s (s.seatFrame f n) := by
  unfold State.seatFrame
  split
  · exact .refl s
  · next w _ =>
    extract_lets +onlyGivenNames a b d
    have hd : Leaves (fun o => Quiet o ∧ o / 0x10000 = 20) s d := .of_regs rfl
    clear_value d
    split
    · extract_lets +onlyGivenNames g
      have hg : Leaves (fun o => Quiet o ∧ o / 0x10000 = 20) d g := .of_regs rfl
      clear_value g
      refine (hd.trans hg).trans ((leaves_setRf fun h => absurd h.2 (by decide)).trans fun o ho => flagRaise_quiet ho.1 ?_ (by decide))
      rintro rfl
      exact absurd ho.2 (by decide)
    · exact hd

/-- The registers of circuit `c` that the range state does not touch. -/
abbrev OffRange (c o : Nat) : Prop := Quiet o ∧ o ≠ Reg.PHS_CIR_STATUS c ∧ o ≠ Reg.PHS_RANGE ∧ o ≠ Reg.PHS_STATUS

theorem leaves_rangeFollow : Leaves (OffRange c) s (s.rangeFollow c e) := by
  unfold State.rangeFollow
  split
  · exact .refl s
  · extract_lets +onlyGivenNames was a b
    have ha : Leaves (OffRange c) s a := (leaves_setRb fun h => h.2.1 rfl).trans (leaves_setRb fun h => h.2.2.1 rfl)
    clear_value a
    have hb : Leaves (OffRange c) a b := leaves_setRb fun h => h.2.2.2 rfl
    clear_value b
    split
    · split
      · exact (ha.trans hb).trans (leaves_raise (fun _ h => h.1) (by decide))
      · exact ha.trans hb
    · exact ha

/-- The frame of an instant stands in its local seat, or is counted as without one. -/
def State.localSeated (s : State) (c : Nat) (i : Instant) (rc : List Byte) : State :=
  if s.domOn pdRcl && (s.seat (localCode c)).isSome then
    (s.seatFrame { code := localCode c, sec := i.sec, ns := instNs (s.phsR c) i.k, record := rc } (stampNs (s.tbNow s.acqTb))).bumpWrap
      (Reg.PHS_CIR_FRAMES c)
  else (s.bump (Reg.PHS_CIR_NOSEAT c)).setRb Reg.PHS_STATUS 1 true

theorem localSeated_ctrl {rc : List Byte} (hc : c < 12) :
    (s.localSeated c i rc).reg (Reg.PHS_CIR_CTRL c) = s.reg (Reg.PHS_CIR_CTRL c) := by
  have h1 : Reg.PHS_CIR_CTRL c ≠ Reg.PHS_CIR_FRAMES c := by unfold Reg.PHS_CIR_CTRL Reg.PHS_CIR_FRAMES; omega
  have h2 : Reg.PHS_CIR_CTRL c ≠ Reg.PHS_CIR_NOSEAT c := by unfold Reg.PHS_CIR_CTRL Reg.PHS_CIR_NOSEAT; omega
  have h3 : Reg.PHS_CIR_CTRL c ≠ Reg.PHS_STATUS := by unfold Reg.PHS_CIR_CTRL Reg.PHS_STATUS; omega
  have hq : Quiet (Reg.PHS_CIR_CTRL c) ∧ Reg.PHS_CIR_CTRL c / 0x10000 = 20 := by unfold Quiet Reg.PHS_CIR_CTRL; omega
  unfold State.localSeated
  split
  · rw [reg_bumpWrap, if_neg h1, leaves_seatFrame _ hq]
  · rw [reg_setRb, if_neg h3, reg_bump, if_neg h2]

theorem localSeated_none {rc : List Byte} (hd : s.domOn pdRcl = false) (hu : u = s.localSeated c i rc) :
    u.reg (Reg.PHS_CIR_NOSEAT c) = satWord (s.reg (Reg.PHS_CIR_NOSEAT c)) 1 ∧ u.seated = s.seated := by
  have hne : Reg.PHS_CIR_NOSEAT c ≠ Reg.PHS_STATUS := by unfold Reg.PHS_CIR_NOSEAT Reg.PHS_STATUS; omega
  rw [State.localSeated, hd, Bool.false_and, if_neg Bool.false_ne_true] at hu
  exact ⟨by rw [hu, reg_setRb, if_neg hne, reg_bump, if_pos rfl], by rw [hu]; rfl⟩

/-- FREQ and DFREQ of an instant. -/
def Estimate.freqOut (e : Estimate) : Word := if e.usable then F64.toF32 e.freq else f32NaN
def Estimate.rocofOut (e : Estimate) : Word := if e.usable then F64.toF32 e.rocof else f32NaN

/-- The result group of circuit `c` shows an instant. -/
def State.phsShown (s : State) (c : Nat) (i : Instant) (e : Estimate) : State :=
  let s := (s.setRb (Reg.PHS_CIR_STATUS c) 2 e.usable).setRb (Reg.PHS_CIR_STATUS c) 3 (e.stat / 512 % 2 = 1)
  let s := (s.setReg (Reg.PHS_CIR_OUT_SEQ32 c) (word (i.seq32 (s.phsR c)))).setReg (Reg.PHS_CIR_OUT_FREQ c) e.freqOut
  ((s.setReg (Reg.PHS_CIR_OUT_DFREQ c) e.rocofOut).setReg (Reg.PHS_CIR_OUT_STAT c) (word (e.stat + 65536 * e.dig))).publish
    (Reg.PHS_CIR_OUT_STATUS c)

theorem phsHand_eq : ∃ rc, s.phsHand c i e phs = (s.localSeated c i rc).phsShown c i e := ⟨_, rfl⟩

theorem phsShown_spec (hu : u = s.phsShown c i e) : u.rb (Reg.PHS_CIR_OUT_STATUS c) 31 = true ∧
    u.reg (Reg.PHS_CIR_OUT_SEQ32 c) = word (i.seq32 (s.phsR c)) ∧ u.reg (Reg.PHS_CIR_OUT_STAT c) = word (e.stat + 65536 * e.dig) ∧
    u.reg (Reg.PHS_CIR_OUT_FREQ c) = e.freqOut ∧ u.reg (Reg.PHS_CIR_OUT_DFREQ c) = e.rocofOut ∧
    u.reg (Reg.PHS_CIR_NOSEAT c) = s.reg (Reg.PHS_CIR_NOSEAT c) ∧ u.seated = s.seated := by
  obtain ⟨a, ha⟩ : ∃ a, a = (s.setRb (Reg.PHS_CIR_STATUS c) 2 e.usable).setRb (Reg.PHS_CIR_STATUS c) 3 (e.stat / 512 % 2 = 1) := ⟨_, rfl⟩
  have hal : Leaves (· ≠ Reg.PHS_CIR_STATUS c) s a := ha ▸ (leaves_setRb (by simp)).trans (leaves_setRb (by simp))
  obtain ⟨b, hb⟩ : ∃ b, b = (((a.setReg (Reg.PHS_CIR_OUT_SEQ32 c) (word (i.seq32 (a.phsR c)))).setReg (Reg.PHS_CIR_OUT_FREQ c) e.freqOut).setReg
    (Reg.PHS_CIR_OUT_DFREQ c) e.rocofOut).setReg (Reg.PHS_CIR_OUT_STAT c) (word (e.stat + 65536 * e.dig)) := ⟨_, rfl⟩
  have he : u = b.publish (Reg.PHS_CIR_OUT_STATUS c) := by rw [hu, hb, ha]; rfl
  have hul : Leaves (· ≠ Reg.PHS_CIR_OUT_STATUS c) b u := he ▸ leaves_publish (by simp)
  have hr : a.phsR c = s.phsR c := phsR_congr (hal _ (by unfold Reg.PHS_CIR_CTRL Reg.PHS_CIR_STATUS; omega))
  refine ⟨he ▸ rb_setRb_self (by decide), ?_, ?_, ?_, ?_, ?_, ?_⟩
  · rw [hul _ (by unfold Reg.PHS_CIR_OUT_SEQ32 Reg.PHS_CIR_OUT_STATUS; omega), hb, ← hr]
    simp [reg_setReg, Reg.PHS_CIR_OUT_SEQ32, Reg.PHS_CIR_OUT_STAT, Reg.PHS_CIR_OUT_FREQ, Reg.PHS_CIR_OUT_DFREQ]
  · rw [hul _ (by unfold Reg.PHS_CIR_OUT_STAT Reg.PHS_CIR_OUT_STATUS; omega), hb, reg_setReg_self]
  · rw [hul _ (by unfold Reg.PHS_CIR_OUT_FREQ Reg.PHS_CIR_OUT_STATUS; omega), hb]
    simp [reg_setReg, Reg.PHS_CIR_OUT_STAT, Reg.PHS_CIR_OUT_FREQ, Reg.PHS_CIR_OUT_DFREQ]
  · rw [hul _ (by unfold Reg.PHS_CIR_OUT_DFREQ Reg.PHS_CIR_OUT_STATUS; omega), hb]
    simp [reg_setReg, Reg.PHS_CIR_OUT_STAT, Reg.PHS_CIR_OUT_DFREQ]
  · rw [hul _ (by unfold Reg.PHS_CIR_NOSEAT Reg.PHS_CIR_OUT_STATUS; omega), hb,
      ← hal _ (by unfold Reg.PHS_CIR_NOSEAT Reg.PHS_CIR_STATUS; omega)]
    simp [reg_setReg, Reg.PHS_CIR_NOSEAT, Reg.PHS_CIR_OUT_SEQ32, Reg.PHS_CIR_OUT_STAT, Reg.PHS_CIR_OUT_FREQ, Reg.PHS_CIR_OUT_DFREQ]
  · have hw : Within 0x8 s u := by
      rw [he, hb, ha]
      exact (((((((within_publish _ _).after (by decide) (within_setReg _ _ _)).after (by decide) (within_setReg _ _ _)).after (by decide)
        (within_setReg _ _ _)).after (by decide) (within_setReg _ _ _)).after (by decide) (within_setRb _ _ _ _)).after (by decide)
        (within_setRb _ _ _ _))
    exact hw.seated rfl

theorem phasorEstimate_early {p : PhsCirc} (hp : p = s.phsOf c) (hi : i = firstInstant (s.phsR c) (max p.after p.last) true)
    (h : s.tbNow s.acqTb < i.time (s.phsR c) + s.phsReach c) : s.phasorEstimate c = s := by
  have hn : ¬ i.time (s.phsR c) + s.phsReach c ≤ s.tbNow s.acqTb := Nat.not_le.2 h
  subst hp hi
  unfold State.phasorEstimate
  dsimp only
  rw [if_neg hn, ite_self]

theorem phasorEstimate_eq {p : PhsCirc} (hd : s.domOn pdAcq = true) (hen : s.rb (Reg.PHS_CIR_CTRL c) 0 = true) (hq : s.acqEn c = true)
    (hp : p = s.phsOf c) (hi : i = firstInstant (s.phsR c) (max p.after p.last) true) (he : e = s.estimate c (i.time (s.phsR c)) p.df)
    (h : i.time (s.phsR c) + s.phsReach c ≤ s.tbNow s.acqTb)
    (hx : x = s.setPhs c { p with last := i.time (s.phsR c), df := s.nextDf c e p.df }) (hy : y = x.rangeFollow c e) :
    ∃ phs val, s.phasorEstimate c = (y.phsHand c i e phs).trigsPhasor c (i.time (s.phsR c)) val := by
  subst hp hi he
  unfold State.phasorEstimate
  dsimp only
  rw [hd, hen, hq, if_pos (by decide), if_pos h, ← hx, ← hy]
  exact ⟨_, _, rfl⟩

theorem phasorEstimate_spec {p : PhsCirc} (hc : c < 12) (hd : s.domOn pdAcq = true) (hen : s.rb (Reg.PHS_CIR_CTRL c) 0 = true)
    (hq : s.acqEn c = true) (hp : p = s.phsOf c) (hi : i = firstInstant (s.phsR c) (max p.after p.last) true)
    (he : e = s.estimate c (i.time (s.phsR c)) p.df) (h : i.time (s.phsR c) + s.phsReach c ≤ s.tbNow s.acqTb) (hu : u = s.phasorEstimate c) :
    u.phsOf c = { after := p.after, last := i.time (s.phsR c), df := s.nextDf c e p.df } ∧ u.rb (Reg.PHS_CIR_OUT_STATUS c) 31 = true ∧
    u.reg (Reg.PHS_CIR_OUT_SEQ32 c) = word (i.seq32 (s.phsR c)) ∧ u.reg (Reg.PHS_CIR_OUT_STAT c) = word (e.stat + 65536 * e.dig) ∧
    u.reg (Reg.PHS_CIR_OUT_FREQ c) = e.freqOut ∧ u.reg (Reg.PHS_CIR_OUT_DFREQ c) = e.rocofOut ∧
    (s.domOn pdRcl = false → u.reg (Reg.PHS_CIR_NOSEAT c) = satWord (s.reg (Reg.PHS_CIR_NOSEAT c)) 1 ∧ u.seated = s.seated) := by
  obtain ⟨x, hx⟩ : ∃ x, x = s.setPhs c { p with last := i.time (s.phsR c), df := s.nextDf c e p.df } := ⟨_, rfl⟩
  obtain ⟨y, hy⟩ : ∃ y, y = x.rangeFollow c e := ⟨_, rfl⟩
  obtain ⟨phs, val, hrun⟩ := phasorEstimate_eq hd hen hq hp hi he h hx hy
  obtain ⟨rc, hhand⟩ := phsHand_eq (s := y) (c := c) (i := i) (e := e) (phs := phs)
  obtain ⟨w, hw⟩ : ∃ w, w = y.localSeated c i rc := ⟨_, rfl⟩
  obtain ⟨z, hz⟩ : ∃ z, z = w.phsShown c i e := ⟨_, rfl⟩
  have hzp : z.phs = y.phs := by rw [hz, hw, ← hhand, (within_phsHand _ _ _ _ _).phs rfl]
  rw [hrun, hhand, ← hw, ← hz] at hu
  have hul : Leaves Quiet z u := hu ▸ leaves_trigsPhasor
  have hyl : Leaves (OffRange c) x y := hy ▸ leaves_rangeFollow
  have hxr : ∀ o, x.reg o = s.reg o := fun o => by rw [hx]; rfl
  obtain ⟨g1, g2, g3, g4, g5, g6, g7⟩ := phsShown_spec hz
  have hr : w.phsR c = s.phsR c := by
    refine phsR_congr ?_
    rw [hw, localSeated_ctrl hc, hyl _ (by unfold OffRange Quiet Reg.PHS_CIR_CTRL Reg.PHS_CIR_STATUS Reg.PHS_RANGE Reg.PHS_STATUS; omega), hxr]
  refine ⟨?_, ?_, ?_, ?_, ?_, ?_, fun hd => ?_⟩
  · rw [phsOf_congr (t := u) (s := x), hx, phsOf_setPhs]
    rw [hu, (within_trigsPhasor _ _ _ _).phs rfl, hzp, hy, (within_rangeFollow _ _ _).phs rfl]
  · rw [hul.rb (by unfold Quiet Reg.PHS_CIR_OUT_STATUS; omega), g1]
  · rw [hul _ (by unfold Quiet Reg.PHS_CIR_OUT_SEQ32; omega), g2, hr]
  · rw [hul _ (by unfold Quiet Reg.PHS_CIR_OUT_STAT; omega), g3]
  · rw [hul _ (by unfold Quiet Reg.PHS_CIR_OUT_FREQ; omega), g4]
  · rw [hul _ (by unfold Quiet Reg.PHS_CIR_OUT_DFREQ; omega), g5]
  · have hdy : y.domOn pdRcl = false := by
      have hoff : OffRange c Reg.PWR_DOMAIN_STATUS := by
        unfold OffRange Quiet Reg.PWR_DOMAIN_STATUS Reg.PHS_CIR_STATUS Reg.PHS_RANGE Reg.PHS_STATUS
        omega
      rw [State.domOn, hyl.rb hoff, State.rb, hxr]
      exact hd
    obtain ⟨k1, k2⟩ := localSeated_none hdy hw
    constructor
    · rw [hul _ (by unfold Quiet Reg.PHS_CIR_NOSEAT; omega), g6, k1,
        hyl _ (by unfold OffRange Quiet Reg.PHS_CIR_NOSEAT Reg.PHS_CIR_STATUS Reg.PHS_RANGE Reg.PHS_STATUS; omega), hxr]
    · rw [hu, (within_trigsPhasor _ _ _ _).seated rfl, g7, k2, hy, (within_rangeFollow _ _ _).seated rfl, hx]
      rfl

end Phasor

/-! ### What a period adds to the accumulators -/

section Views
variable {c d q n v w : Nat} {xs : List (Nat × Nat)}

/-- The increments of accumulator `q` among those of a view. -/
def gainOf (xs : List (Nat × Nat)) (q : Nat) : Nat := ((xs.filter (fun e => decide (e.1 = q))).map (fun e => e.2)).sum

theorem gainOf_cons {e : Nat × Nat} : gainOf (e :: xs) q = (if e.1 = q then e.2 else 0) + gainOf xs q := by
  unfold gainOf
  by_cases h : e.1 = q
  · simp [h]
  · simp [h]

/-- One increment. -/
def State.gain (s : State) (c v : Nat) (e : Nat × Nat) : State := s.setAcc c (10 * v + e.1) (s.accOf c (10 * v + e.1) + e.2)

theorem addView_cons {e : Nat × Nat} : s.addView c v (e :: xs) = (s.gain c v e).addView c v xs := rfl

theorem gain_acc {e : Nat × Nat} (hv : v < 4) (hw : w < 4) (he : e.1 < 10) (hq : q < 10) :
    (s.gain c v e).accOf c (10 * w + q) % accMod = (s.accOf c (10 * w + q) + if w = v ∧ e.1 = q then e.2 else 0) % accMod := by
  unfold State.gain
  by_cases h : w = v ∧ e.1 = q
  · obtain ⟨rfl, rfl⟩ := h
    rw [if_pos ⟨rfl, rfl⟩, accOf_setAcc, Nat.mod_mod]
  · have hne : (c, 10 * w + q) ≠ (c, 10 * v + e.1) := fun hc => h (by
      have := (Prod.mk.inj hc).2
      omega)
    rw [if_neg h, accOf_setAcc_ne (by omega) (by omega) hne, Nat.add_zero]

/-- A view adds its increments to its own accumulators, modulo 2^96. -/
theorem addView_acc (hv : v < 4) (hw : w < 4) (hq : q < 10) (h : ∀ e ∈ xs, e.1 < 10) :
    (s.addView c v xs).accOf c (10 * w + q) % accMod = (s.accOf c (10 * w + q) + if w = v then gainOf xs q else 0) % accMod := by
  induction xs generalizing s with
  | nil => rw [show gainOf [] q = 0 from rfl, ite_self]; rfl
  | cons e xs ih =>
    rw [addView_cons, ih fun a ha => h a (List.mem_cons_of_mem e ha), Nat.add_mod, gain_acc hv hw (h e List.mem_cons_self) hq, ← Nat.add_mod, gainOf_cons]
    by_cases hwv : w = v
    · simp only [hwv, true_and, if_true, Nat.add_assoc]
    · simp only [hwv, false_and, if_false, Nat.add_zero]

theorem addView_other (hv : v < 4) (hd : d ≠ c) (hn : n < 40) (h : ∀ e ∈ xs, e.1 < 10) : (s.addView c v xs).accOf d n = s.accOf d n := by
  induction xs generalizing s with
  | nil => rfl
  | cons e xs ih =>
    have he := h e List.mem_cons_self
    rw [addView_cons, ih fun a ha => h a (List.mem_cons_of_mem e ha)]
    exact accOf_setAcc_ne (by omega) hn fun hc => hd (Prod.mk.inj hc).1

/-- The first `n` views are added. -/
def State.addViews (s : State) (c : Nat) (f : Nat → List (Nat × Nat)) (n : Nat) : State := (List.range n).foldl (fun s v => s.addView c v (f v)) s

theorem addViews_succ {f : Nat → List (Nat × Nat)} : s.addViews c f (n + 1) = (s.addViews c f n).addView c n (f n) := by
  rw [State.addViews, List.range_succ, List.foldl_append]
  rfl

theorem addViews_acc {f : Nat → List (Nat × Nat)} (hn : n ≤ 4) (hw : w < 4) (hq : q < 10) (h : ∀ v, ∀ e ∈ f v, e.1 < 10) :
    (s.addViews c f n).accOf c (10 * w + q) % accMod = (s.accOf c (10 * w + q) + if w < n then gainOf (f w) q else 0) % accMod := by
  induction n with
  | zero => rw [if_neg (Nat.not_lt_zero w), Nat.add_zero]; rfl
  | succ n ih =>
    rw [addViews_succ, addView_acc (by omega) hw hq (h n), Nat.add_mod, ih (by omega), ← Nat.add_mod, Nat.add_assoc]
    obtain hlt | rfl | hgt := Nat.lt_trichotomy w n
    · rw [if_pos hlt, if_neg (by omega), if_pos (by omega), Nat.add_zero]
    · rw [if_neg (by omega), if_pos rfl, if_pos (by omega), Nat.zero_add]
    · rw [if_neg (by omega), if_neg (by omega), if_neg (by omega)]

theorem addViews_other {f : Nat → List (Nat × Nat)} {m : Nat} (hm : m ≤ 4) (hd : d ≠ c) (hn : n < 40) (h : ∀ v, ∀ e ∈ f v, e.1 < 10) :
    (s.addViews c f m).accOf d n = s.accOf d n := by
  induction m with
  | zero => rfl
  | succ m ih => rw [addViews_succ, addView_other (by omega) hd hn (h m), ih (by omega)]

theorem within_addViews {f : Nat → List (Nat × Nat)} : Within 0x1000000 s (s.addViews c f n) :=
  Within.foldl (fun y v h => (within_addView y c v (f v)).after (by decide) h) (.refl s)

theorem viewIncrements_lt {f0 : Nat} {b : Bool} {r : Quant} : ∀ e ∈ (viewIncrements f0 b r).1, e.1 < 10 := by
  intro e he
  unfold viewIncrements at he
  simp only [List.mem_cons, List.not_mem_nil, or_false] at he
  rcases he with rfl | rfl | rfl | rfl | rfl
  · dsimp only
    split <;> decide
  · dsimp only
    split <;> decide
  · dsimp only
    split <;> split <;> decide
  · exact (by decide : 8 < 10)
  · exact (by decide : 9 < 10)

end Views

/-! ### The detectors -/

section Detectors
variable {c : Nat}

/-- The detectors leave of a circuit its period, its interval and its end, and of the registers its count of periods. -/
structure Judged (c : Nat) (s t : State) : Prop where
  count : t.reg (Reg.NRG_CIR_PERIODS c) = s.reg (Reg.NRG_CIR_PERIODS c)
  circ : ∃ rs rn rd dn, t.nrgOf c = { s.nrgOf c with runSeq := rs, runNeu := rn, runDir := rd, dirNeg := dn }

theorem Judged.trans (h : Judged c s x) (g : Judged c x t) : Judged c s t := by
  obtain ⟨a1, b1, d1, e1, h1⟩ := h.circ
  obtain ⟨a2, b2, d2, e2, h2⟩ := g.circ
  exact ⟨g.count.trans h.count, a2, b2, d2, e2, by rw [h2, h1]⟩

theorem Judged.of_regs (h : t.reg (Reg.NRG_CIR_PERIODS c) = s.reg (Reg.NRG_CIR_PERIODS c)) (hn : t.nrg = s.nrg) : Judged c s t :=
  ⟨h, _, _, _, _, by rw [nrgOf_congr hn]⟩

theorem Judged.refl (s : State) : Judged c s s := .of_regs rfl rfl
theorem Judged.ite {p : Prop} [Decidable p] (h : Judged c s x) (g : Judged c s y) : Judged c s (if p then x else y) := by
  split
  · exact h
  · exact g

theorem judged_runs {rs rn rd : Nat} {dn : Bool} (h : y = s.setNrg c { s.nrgOf c with runSeq := rs, runNeu := rn, runDir := rd, dirNeg := dn }) :
    Judged c s y := ⟨by rw [h]; rfl, _, _, _, _, by rw [h, nrgOf_setNrg]⟩

theorem judged_setRb {o i : Nat} {b : Bool} (h : Reg.NRG_CIR_PERIODS c ≠ o) : Judged c s (s.setRb o i b) :=
  .of_regs (by rw [reg_setRb, if_neg h]) rfl

theorem periods_quiet (h : c < 12) : Quiet (Reg.NRG_CIR_PERIODS c) := by
  unfold Quiet Reg.NRG_CIR_PERIODS
  omega

theorem judged_raise {e : Nat} (hc : c < 12) (he : e < 64) : Judged c s (s.raise e c) :=
  .of_regs (leaves_raise (P := Quiet) (fun _ h => h) he _ (periods_quiet hc)) ((within_raise _ _ _).nrg rfl)

theorem periods_ne {o : Nat} (h : o < 0x151000) : Reg.NRG_CIR_PERIODS c ≠ o := by
  unfold Reg.NRG_CIR_PERIODS
  omega

theorem periods_ne_status : Reg.NRG_CIR_PERIODS c ≠ Reg.NRG_CIR_STATUS c := by
  unfold Reg.NRG_CIR_PERIODS Reg.NRG_CIR_STATUS
  omega

theorem judged_detChange {b o f e : Nat} {v evt : Bool} (hc : c < 12) (he : e < 64) (ho : o < 0x151000) :
    Judged c s (s.detChange c b o v f e evt) := by
  unfold State.detChange
  extract_lets +onlyGivenNames a d
  have ha : Judged c s a := (judged_setRb periods_ne_status).trans (judged_setRb (periods_ne ho))
  clear_value a
  have hd : Judged c a d := judged_setRb (periods_ne (by decide))
  clear_value d
  exact (ha.trans hd).trans (.ite (judged_raise hc he) (.refl d))

theorem judged_detSeq {va vb vc : C64} (hc : c < 12) : Judged c s (s.detSeq c va vb vc) := by
  unfold State.detSeq
  extract_lets +onlyGivenNames a vmin q
  split
  · exact judged_runs rfl
  · extract_lets +onlyGivenNames v1 v2 wrong p b
    have hb : Judged c s b := judged_runs rfl
    clear_value b
    exact hb.trans (.ite (judged_detChange hc (by decide) (by decide)) (.refl b))

theorem judged_detNeu {m vn : F64} (hc : c < 12) : Judged c s (s.detNeu c m vn) := by
  unfold State.detNeu
  extract_lets +onlyGivenNames a
  split
  · exact judged_runs rfl
  · extract_lets +onlyGivenNames lim missing p b
    have hb : Judged c s b := judged_runs rfl
    clear_value b
    exact hb.trans (.ite (judged_detChange hc (by decide) (by decide)) (.refl b))

theorem judged_setDir {b : Bool} : Judged c s (s.setDir c b) := by
  unfold State.setDir
  exact (((judged_setRb periods_ne_status).trans (judged_setRb periods_ne_status)).trans (judged_setRb (periods_ne (by decide)))).trans
    (judged_setRb (periods_ne (by decide)))

theorem judged_detDir {e : F64} (hc : c < 12) : Judged c s (s.detDir c e) := by
  unfold State.detDir
  extract_lets +onlyGivenNames a least
  split
  · exact judged_runs rfl
  · extract_lets +onlyGivenNames neg persist
    split
    · extract_lets +onlyGivenNames p b d
      have hb : Judged c s b := judged_runs rfl
      clear_value b
      have hd : Judged c b d := judged_setDir.trans (judged_setRb (periods_ne (by decide)))
      clear_value d
      exact hb.trans (.ite (hd.trans (.ite (judged_raise hc (by decide)) (.refl d))) (.refl b))
    · extract_lets +onlyGivenNames p b
      have hb : Judged c s b := judged_runs rfl
      clear_value b
      exact hb.trans (.ite judged_setDir (.refl b))

theorem judged_setPulse {n : Nat} {p : Pulse} : Judged c s (s.setPulse n p) := .of_regs rfl rfl

theorem judged_pulseStep {a : NrgCirc} {gain : Nat → Nat} {n : Nat} : Judged c s (s.pulseStep c a gain n) := by
  unfold State.pulseStep
  extract_lets +onlyGivenNames cfg wt
  split
  · extract_lets +onlyGivenNames p r width nmax k start len b
    have hb : Judged c s b := judged_setPulse
    clear_value b nmax
    exact hb.trans (.ite (judged_setRb (periods_ne (by decide))) (.refl b))
  · exact .refl s

theorem Judged.foldl {f : State → Nat → State} (h : ∀ s n, Judged c s (f s n)) (l : List Nat) (s : State) : Judged c s (l.foldl f s) := by
  induction l generalizing s with
  | nil => exact .refl s
  | cons a l ih => exact (h s a).trans (ih (f s a))

end Detectors

/-! ### A period is accounted -/

section Account
variable {c : Nat} {a b d : Quant} {r : NrgCirc} {views : List (List (Nat × Nat) × Bool)}

theorem nrgCmdAt_none {w : Stamp} (h : s.nrgCmd = none) : s.nrgCmdAt c w = s := by
  unfold State.nrgCmdAt
  rw [h]

theorem accOf_congr {k n : Nat} (h : t.acc = s.acc) : t.accOf k n = s.accOf k n := by
  rw [State.accOf, h]
  rfl

/-- What accounting a period makes of the circuit `r` before it. -/
structure NextPeriod (r q : NrgCirc) : Prop where
  sec : q.sec = r.advance.sec
  k : q.k = r.advance.k
  periods : q.periods = r.periods + 1
  closed : q.closed = false
  stopAt : q.stopAt = r.stopAt

theorem advance_clock : r.advance.sec = (if r.k + 1 = r.f0 then r.sec + 1 else r.sec) ∧
    r.advance.k = if r.k + 1 = r.f0 then 0 else r.k + 1 := by
  unfold NrgCirc.advance
  split <;> exact ⟨rfl, rfl⟩

theorem advance_rest : r.advance.periods = r.periods ∧ r.advance.closed = r.closed ∧ r.advance.stopAt = r.stopAt := by
  unfold NrgCirc.advance
  split <;> exact ⟨rfl, rfl, rfl⟩

theorem nextPeriod_advance {m : Tab Nat} {f g : Nat} :
    NextPeriod r { r with rms := m, periods := r.periods + 1, flagged := f, flags := g, closed := false }.advance :=
  ⟨advance_clock.1.trans (advance_clock (r := r)).1.symm, advance_clock.2.trans (advance_clock (r := r)).2.symm, advance_rest.1,
    advance_rest.2.1, advance_rest.2.2⟩

/-- What accounting a period, with the increments `f` of the four views, makes of the state. -/
structure Accounted (c : Nat) (f : Nat → List (Nat × Nat)) (u t : State) : Prop where
  count : t.reg (Reg.NRG_CIR_PERIODS c) = u.reg (Reg.NRG_CIR_PERIODS c) + 1
  circ : NextPeriod (u.nrgOf c) (t.nrgOf c)
  acc : t.acc = (u.addViews c f 4).acc

/-- The registers that the counts of flagged and saturated periods leave alone. -/
abbrev OffCount (c o : Nat) : Prop := o ≠ Reg.NRG_STATUS ∧ o ≠ Reg.NRG_CIR_FLAGGED c ∧ o ≠ Reg.NRG_CIR_SAT c

theorem account_spec (hc : c < 12) (hstop : (s.nrgOf c).stopAt = none) (hcmd : s.nrgCmd = none) (hu : u = s.corrTake c) (hr : r = u.nrgOf c)
    (ha : a = phaseQuant r.f0 (u.periodSamples r (8 * c)) (u.periodSamples r (8 * c + 4)))
    (hb : b = phaseQuant r.f0 (u.periodSamples r (8 * c + 1)) (u.periodSamples r (8 * c + 5)))
    (hd : d = phaseQuant r.f0 (u.periodSamples r (8 * c + 2)) (u.periodSamples r (8 * c + 6)))
    (hv : views = [viewIncrements r.f0 false a, viewIncrements r.f0 false b, viewIncrements r.f0 false d,
      viewIncrements r.f0 true (sumQuant a b d)]) :
    Accounted c (fun v => (views.getD v ([], false)).1) u (s.account c) := by
  have hustop : (u.nrgOf c).stopAt = none := by
    rw [hu, State.corrTake, nrgOf_setNrg]
    exact hstop
  have hucmd : u.nrgCmd = none := by rw [hu, (within_corrTake _ _).nrgCmd rfl, hcmd]
  unfold State.account
  rw [nrgCmdAt_none hcmd, ← hu]
  extract_lets +onlyGivenNames v r' p pa pb pc pn ia ib ic a' b' d' tt views' flagged sat gain s1 s2 s3 s4 rms nx s5 s6 s7 s8 s9
  have hr' : r' = u.nrgOf c := rfl
  have hviews : views' = views := by
    rw [hv, ha, hb, hd, hr]
    rfl
  clear_value views' a' b' d' tt pn flagged sat
  subst hviews
  have h1 : s1 = u.addViews c (fun v => (views'.getD v ([], false)).1) 4 := rfl
  have h1r : s1.reg (Reg.NRG_CIR_PERIODS c) = u.reg (Reg.NRG_CIR_PERIODS c) := by rw [State.reg, h1, within_addViews.regs rfl]; rfl
  have h1c : s1.nrgCmd = none := by rw [h1, within_addViews.nrgCmd rfl, hucmd]
  clear_value s1 gain
  have h2r : s2.reg (Reg.NRG_CIR_PERIODS c) = u.reg (Reg.NRG_CIR_PERIODS c) + 1 := by
    rw [← h1r]
    exact reg_setReg_self
  have h2 : Within 0x8 s1 s2 := within_bumpWrap _ _
  clear_value s2
  have h3 : Within 0x8 s2 s3 ∧ Leaves (OffCount c) s2 s3 := by
    unfold s3
    split
    · exact ⟨within_bumpWrap _ _, leaves_setReg fun h => h.2.1 rfl⟩
    · exact ⟨.refl _, .refl _⟩
  clear_value s3
  have h4 : Within 0x8 s3 s4 ∧ Leaves (OffCount c) s3 s4 := by
    unfold s4
    split
    · exact ⟨(within_setRb _ _ _ _).after (by decide) (within_bumpWrap _ _),
        (leaves_setReg fun h => h.2.2 rfl).trans (leaves_setRb fun h => h.1 rfl)⟩
    · exact ⟨.refl _, .refl _⟩
  clear_value s4
  have hnx : NextPeriod (u.nrgOf c) nx := nextPeriod_advance
  clear_value nx
  have h5n : s5.nrgOf c = nx := nrgOf_setNrg
  have h5 : Within 0x800000 s4 s5 := within_setNrg _ _ _
  clear_value s5
  have h5c : s5.nrgCmd = none := by rw [h5.nrgCmd rfl, h4.1.nrgCmd rfl, h3.1.nrgCmd rfl, h2.nrgCmd rfl, h1c]
  have h6 : s6 = s5 := nrgCmdAt_none h5c
  clear_value s6
  subst h6
  have h7 : Judged c s6 s7 := ((judged_detSeq hc).trans (judged_detNeu hc)).trans (judged_detDir hc)
  have h7a : s7.acc = s6.acc := ((within_detDir _ _ _).acc rfl).trans (((within_detNeu _ _ _ _).acc rfl).trans ((within_detSeq _ _ _ _ _).acc rfl))
  clear_value s7
  have h8 : Judged c s7 s8 := .foldl (fun _ _ => judged_pulseStep) _ _
  have h8a : s8.acc = s7.acc := (Within.foldl (fun _ _ h => (within_pulseStep _ _ _ _ _).after (C := 0x4000008) (by decide) h) (.refl s7)).acc rfl
  clear_value s8
  have h9 : Leaves Quiet s8 s9 := leaves_trigsPeriod
  have h9w : s9.acc = s8.acc ∧ s9.nrg = s8.nrg := ⟨(within_trigsPeriod _ _ _ _).acc rfl, (within_trigsPeriod _ _ _ _).nrg rfl⟩
  clear_value s9
  have hcirc : NextPeriod (u.nrgOf c) (s9.nrgOf c) := by
    obtain ⟨rs, rn, rd, dn, h⟩ := (h7.trans h8).circ
    rw [nrgOf_congr h9w.2, h, h5n]
    exact ⟨hnx.sec, hnx.k, hnx.periods, hnx.closed, hnx.stopAt⟩
  rw [hcirc.stopAt, hustop]
  refine ⟨?_, hcirc, ?_⟩
  · have hoff : OffCount c (Reg.NRG_CIR_PERIODS c) := by
      unfold OffCount Reg.NRG_CIR_PERIODS Reg.NRG_STATUS Reg.NRG_CIR_FLAGGED Reg.NRG_CIR_SAT
      omega
    rw [h9 _ (periods_quiet hc), (h7.trans h8).count, h5.leaves (P := fun _ => True) rfl _ trivial, h4.2 _ hoff, h3.2 _ hoff, h2r]
  · rw [h9w.1, h8a, h7a, h5.acc rfl, h4.1.acc rfl, h3.1.acc rfl, h2.acc rfl, h1]

theorem energyPeriod_run (h : (s.nrgOf c).run = true) (hd : s.domOn pdAcq = true) (hp : s.periodReady c (s.nrgOf c) = true)
    (hi : s.intervalDue c = false) : s.energyPeriod c = s.account c := by
  rw [State.energyPeriod, h, hd, hp, hi, if_pos (by decide)]

theorem energyPeriod_idle (h : (s.nrgOf c).run = false ∨ s.domOn pdAcq = false ∨ s.periodReady c (s.nrgOf c) = false ∨ s.intervalDue c = true) :
    s.energyPeriod c = s := by
  unfold State.energyPeriod
  refine if_neg ?_
  obtain h | h | h | h := h
  all_goals simp [h]

end Account

section Settle

theorem phasorEstimate_settled {c : Fin 12} {p : PhsCirc} {i : Instant} {e : Estimate} (hd : s.domOn pdAcq = true)
    (hen : s.rb (Reg.PHS_CIR_CTRL c) 0 = true) (hq : s.acqEn c = true) (hp : p = s.phsOf c)
    (hi : i = firstInstant (s.phsR c) (max p.after p.last) true) (he : e = s.estimate c (i.time (s.phsR c)) p.df)
    (h : i.time (s.phsR c) + s.phsReach c ≤ s.tbNow s.acqTb) : ∃ t, exec (.phasorEstimate c) s = .next t ∧
      t.phsOf c = { after := p.after, last := i.time (s.phsR c), df := s.nextDf c e p.df } ∧ t.rb (Reg.PHS_CIR_OUT_STATUS c) 31 = true ∧
      t.reg (Reg.PHS_CIR_OUT_SEQ32 c) = word (i.seq32 (s.phsR c)) ∧ t.reg (Reg.PHS_CIR_OUT_STAT c) = word (e.stat + 65536 * e.dig) ∧
      t.reg (Reg.PHS_CIR_OUT_FREQ c) = e.freqOut ∧ t.reg (Reg.PHS_CIR_OUT_DFREQ c) = e.rocofOut ∧
      (s.domOn pdRcl = false → t.reg (Reg.PHS_CIR_NOSEAT c) = satWord (s.reg (Reg.PHS_CIR_NOSEAT c)) 1 ∧ t.seated = s.seated) :=
  ⟨_, rfl, phasorEstimate_spec c.isLt hd hen hq hp hi he h rfl⟩

theorem energyPeriod_settled {c : Fin 12} {f : Nat → List (Nat × Nat)} (hf : ∀ v, ∀ e ∈ f v, e.1 < 10) (hu : u = s.corrTake c)
    (h : Accounted c f u t) : t.reg (Reg.NRG_CIR_PERIODS c) = s.reg (Reg.NRG_CIR_PERIODS c) + 1 ∧
      (∀ (v : Fin 4) (q : Fin 10), t.accOf c (10 * v + q) % accMod = (s.accOf c (10 * v + q) + gainOf (f v) q) % accMod) ∧
      ∀ (k : Fin 12) (n : Fin 40), k ≠ c → t.accOf k n = s.accOf k n := by
  have hacc : ∀ k n, u.accOf k n = s.accOf k n := fun k n => accOf_congr (by rw [hu, (within_corrTake _ _).acc rfl])
  refine ⟨?_, fun v q => ?_, fun k n hk => ?_⟩
  · rw [h.count, hu, (within_corrTake _ _).leaves (P := fun _ => True) rfl _ trivial]
  · rw [accOf_congr h.acc, addViews_acc (Nat.le_refl 4) v.isLt q.isLt hf, if_pos v.isLt, hacc]
  · rw [accOf_congr h.acc, addViews_other (Nat.le_refl 4) (fun he => hk (Fin.ext he)) n.isLt hf, hacc]

theorem getD_lt {a b d e : Quant} {f0 : Nat} (v : Nat) : ∀ g ∈ (([viewIncrements f0 false a, viewIncrements f0 false b,
    viewIncrements f0 false d, viewIncrements f0 true e] : List (List (Nat × Nat) × Bool)).getD v ([], false)).1, g.1 < 10 := by
  match v with
  | 0 => exact viewIncrements_lt
  | 1 => exact viewIncrements_lt
  | 2 => exact viewIncrements_lt
  | 3 => exact viewIncrements_lt
  | v + 4 => exact fun g hg => absurd hg List.not_mem_nil

end Settle

/-- Settles O49: what an instant publishes is read back through what follows it, and each accumulator through the increments of the views. -/
theorem phasorEstimatesAndEnergyPeriods : Obligations.PhasorEstimatesAndEnergyPeriods := by
  unfold Obligations.PhasorEstimatesAndEnergyPeriods
  refine ⟨fun s c p i e hd hen hq hp hi he => ⟨fun h => phasorEstimate_settled hd hen hq hp hi he h, fun h => ?_⟩,
    fun s u c p a b d views h hd hr hi hstop hcmd hu hp ha hb hdd hv => ?_, fun s c h => ?_⟩
  · exact congrArg Host.Outcome.next (phasorEstimate_early hp hi h)
  · have hspec := account_spec c.isLt hstop hcmd hu hp ha hb hdd hv
    obtain ⟨h1, h2, h3⟩ := energyPeriod_settled (fun v => hv ▸ getD_lt v) hu hspec
    refine ⟨_, congrArg Host.Outcome.next (energyPeriod_run h hd hr hi), h1, ?_, ?_, ?_, hspec.circ.closed, h2, h3⟩
    · rw [hspec.circ.sec, hp]
    · rw [hspec.circ.k, hp]
    · rw [hspec.circ.periods, hp]
  · exact congrArg Host.Outcome.next (energyPeriod_idle h)

end Sys2Proof.Machine

/-! The key store's service of ring 20 and its twelve operations (R387-R407). -/

namespace Sys2Proof.Machine

-- One declaration after another: side by side, their threads' stacks pass the memory limit of a check.
set_option Elab.async false

variable {s t u x y : State} {q : KeyReq} {i j op : Nat} {k : KeySlot}

/-! ### What an operation leaves of the registers -/

/-- The registers that no operation of the key store and no event writes. -/
abbrev OffKeyOp (o : Nat) : Prop :=
  Beyond (fun r => r = 23) o ∧ o ≠ Reg.KEY_CNT 2 ∧ o ≠ Reg.KEY_STATUS ∧ o ≠ Reg.IMG_CACHE ∧ o ≠ Reg.KEY_ATT_CNT

theorem leaves_keyEvent {e : Nat} (he : e < 64) : Leaves OffKeyOp s (s.flagRaise Reg.KEY_STATUS i e j) :=
  (leaves_setRb fun h => h.2.2.1 rfl).trans ((ringsKept_raise (A := fun r => r = 23) rfl he).regs.mono fun _ h => h.1)

theorem leaves_cacheDropped : Leaves OffKeyOp s (s.dropCache i) := (leaves_dropCache i).mono fun _ h => h.2.2.2.1

theorem leaves_tagChecked : Leaves OffKeyOp s (s.tagCheck i) := by
  unfold State.tagCheck
  dsimp only
  split
  · refine .trans ?_ (leaves_keyEvent (by decide))
    refine .trans ?_ (leaves_bump fun h => h.2.1 rfl)
    refine .trans ?_ leaves_cacheDropped
    exact .of_regs rfl
  · exact .refl s

theorem leaves_opAttest : Leaves OffKeyOp s (s.opAttest q).st := by
  unfold State.opAttest
  extract_lets p a m
  have hp : Leaves OffKeyOp s p.2 := (within_pickMust _ _ _).leaves
  clear_value p
  split
  · exact hp
  · exact hp.trans (leaves_bump fun h => h.2.2.2.2 rfl)

theorem leaves_opFree : Leaves OffKeyOp s (s.opFree q).st := by
  unfold State.opFree
  extract_lets k p
  have hp : Leaves OffKeyOp s p.2 := (within_pick _ _).leaves
  clear_value p
  split
  · exact hp
  · refine hp.trans (.trans ?_ leaves_cacheDropped)
    exact .of_regs rfl

/-- A slot becomes REVOKED. -/
def State.revoke (s : State) (i : Nat) : State := (s.setSlot i ({ s.slot i with state := 2 } : KeySlot).seal).dropCache i

/-- The slots that a revocation of slot `i` reaches. -/
def State.revoked (s : State) (i : Nat) : List Nat := (s.subtree 9 [i]).filter (fun j => decide ((s.slot j).state = 1))

/-- The revocation of a fused slot is kept. -/
def State.fuseRevoked (s : State) (i : Nat) : State :=
  if i ≤ 4 then { s with keys := { s.keys with revoked := s.keys.revoked ||| 2 ^ i } } else s

theorem leaves_revoke : Leaves OffKeyOp s (s.revoke i) := by
  refine .trans ?_ leaves_cacheDropped
  exact .of_regs rfl

theorem leaves_fuseRevoked {P : Nat → Prop} : Leaves P s (s.fuseRevoked i) := by
  unfold State.fuseRevoked
  exact .ite (.of_regs rfl) (.refl s)

/-- All that a revocation does to the slots. -/
def State.revokeAll (s : State) (i : Nat) : State := ((s.revoked i).foldl (fun s j => s.revoke j) s).fuseRevoked i

theorem leaves_revokeAll : Leaves OffKeyOp s (s.revokeAll i) := (Leaves.foldl (fun _ _ _ => leaves_revoke) s).trans leaves_fuseRevoked

theorem opRevoke_eq {p : Nat × State}
    (hp : p = s.pick [(q.slot = 0, 2), (q.slot ≠ 0 && decide ((s.slot q.slot).state ≠ 1), 6)]) :
    s.opRevoke q = if p.1 ≠ 0 then ⟨p.1, q.slot, [], p.2⟩ else ⟨0, q.slot, [], (p.2.revokeAll q.slot).flagRaise Reg.KEY_STATUS 10 17 q.slot⟩ := by
  subst hp
  rfl

theorem leaves_opRevoke : Leaves OffKeyOp s (s.opRevoke q).st := by
  obtain ⟨p, hp⟩ : ∃ p, p = s.pick [(q.slot = 0, 2), (q.slot ≠ 0 && decide ((s.slot q.slot).state ≠ 1), 6)] := ⟨_, rfl⟩
  have hl : Leaves OffKeyOp s p.2 := hp ▸ (within_pick _ _).leaves
  rw [opRevoke_eq hp]
  split
  · exact hl
  · exact hl.trans (leaves_revokeAll.trans (leaves_keyEvent (by decide)))

/-! ### The completion -/

theorem ringNext_off {r : Nat} (hr : r < 32) (h23 : r ≠ 23) (h : Leaves OffKeyOp s t) : t.ringNext r = s.ringNext r := by
  have h1 : OffKeyOp (Reg.RNG_HEAD r) := ⟨beyond_head hr h23, by
    unfold Reg.RNG_HEAD Reg.KEY_CNT Reg.KEY_STATUS Reg.IMG_CACHE Reg.KEY_ATT_CNT
    omega⟩
  have h2 : OffKeyOp (Reg.RNG_CTRL r) := ⟨beyond_rng (d := 0) hr (by simp), by
    unfold Reg.RNG_CTRL Reg.KEY_CNT Reg.KEY_STATUS Reg.IMG_CACHE Reg.KEY_ATT_CNT
    omega⟩
  rw [State.ringNext, State.ringNext, State.ringHead, State.ringHead, State.ringSize, State.ringSize, h.rf h1, h.rf h2]

theorem RingsKept.next {A : Nat → Prop} {r : Nat} (h : RingsKept A s t) (hr : r < 32) (hA : ¬ A r) : t.ringNext r = s.ringNext r := by
  have hctrl : Beyond A (Reg.RNG_CTRL r) := beyond_rng (d := 0) hr (by simp)
  rw [State.ringNext, State.ringNext, h.head hr hA, State.ringSize, State.ringSize, h.regs.rf hctrl]

/-- A request has been completed with the state `o` of its operation. -/
structure Completed (o t : State) : Prop where
  head20 : t.ringHead 20 = o.ringNext 20
  head21 : t.ringHead 21 = o.ringNext 21
  count : t.reg (Reg.KEY_CNT 0) = satWord (o.reg (Reg.KEY_CNT 0)) 1
  regs : Leaves (fun r => Quiet r ∧ r ≠ Reg.KEY_CNT 0) o t
  keys : t.keys = o.keys
  events : KeepsEvents o t

theorem keyComplete_spec {d : List Byte} {o : KeyOut} : Completed o.st (s.keyComplete q d o) := by
  obtain ⟨x, hx⟩ : ∃ x, x = (o.st.hostWrite q.outAddr o.out).bump (Reg.KEY_CNT 0) := ⟨_, rfl⟩
  obtain ⟨b, y, hy, ht⟩ : ∃ b y, y = x.ringReturn 21 b (statusWord false false false 0 0) ∧
    s.keyComplete q d o = y.ringReturn 20 (d.take 28) (statusWord false false false 0 0) := by rw [hx]; exact ⟨_, _, rfl, rfl⟩
  have hxl : Leaves (fun r => r ≠ Reg.KEY_CNT 0) o.st x := hx ▸ (leaves_hostWrite _ _).trans (leaves_bump fun h => h rfl)
  have hxn : ∀ r, r < 32 → x.ringNext r = o.st.ringNext r := fun r hr => by
    have h1 : Reg.RNG_HEAD r ≠ Reg.KEY_CNT 0 := by unfold Reg.RNG_HEAD Reg.KEY_CNT; omega
    have h2 : Reg.RNG_CTRL r ≠ Reg.KEY_CNT 0 := by unfold Reg.RNG_CTRL Reg.KEY_CNT; omega
    rw [State.ringNext, State.ringNext, State.ringHead, State.ringHead, State.ringSize, State.ringSize, hxl.rf h1, hxl.rf h2]
  have h21 : RingsKept (fun r => r = 21 ∨ r = 23) x y := hy ▸ ringsKept_returnOf (by decide)
  rw [ht]
  have h20 : RingsKept (fun r => r = 20 ∨ r = 23) y (y.ringReturn 20 (d.take 28) (statusWord false false false 0 0)) := ringsKept_returnOf (by decide)
  refine ⟨?_, ?_, ?_, ?_, ?_, ?_⟩
  · rw [ringReturn_head (by decide) (by decide), h21.next (by decide) (by decide), hxn 20 (by decide)]
  · rw [h20.head (by decide) (by decide), hy, ringReturn_head (by decide) (by decide), hxn 21 (by decide)]
  · rw [h20.quiet _ (by decide), h21.quiet _ (by decide), hx, reg_bump, if_pos rfl]
    rfl
  · exact (hxl.mono fun _ h => h.2).trans ((h21.quiet.mono fun _ h => h.1).trans (h20.quiet.mono fun _ h => h.1))
  · rw [(within_ringReturn _ _ _ _).keys rfl, hy, (within_ringReturn _ _ _ _).keys rfl, hx, (within_bump _ _).keys rfl, (within_hostWrite _ _ _).keys rfl]
  · have hev : KeepsEvents o.st x := hx ▸ (keepsEvents_of_regs rfl).trans (keepsEvents_setReg (by decide))
    exact hev.trans (h21.events.trans h20.events)

/-! ### The service of ring 20 -/

/-- The key store serves ring 20. -/
structure Serving (s : State) : Prop where
  dom : s.domOn pdKey = true
  en : s.rb Reg.KEY_CTRL 0 = true
  ready : s.ringReady 20 = true
  reach : s.rtc.lockout = false

theorem tagChecks_good {l : List Nat} (h : ∀ i ∈ l, (s.slot i).upset = false) : l.foldl State.tagCheck s = s := by
  induction l with
  | nil => rfl
  | cons i l ih =>
    rw [List.foldl_cons, tagCheck_good (h i List.mem_cons_self)]
    exact ih fun j hj => h j (List.mem_cons_of_mem i hj)

section Serve
variable {f : State → KeyReq → KeyOut} {d : List Byte} (hs : Serving s) (hd : d = s.headDesc 20) (hq : q = keyReq d)
include hs hd hq

theorem keyServe_other (h : q.op ≠ op) : s.keyServe op f = s := by
  subst hd hq
  unfold State.keyServe
  rw [hs.dom, hs.en, hs.ready, hs.reach, if_pos (by decide)]
  exact if_pos h

theorem keyServe_waits (h : q.op = op) (h21 : s.ringReady 21 = false) : s.keyServe op f = s.ringExhaust 21 false := by
  subst hd hq
  unfold State.keyServe
  rw [hs.dom, hs.en, hs.ready, hs.reach, h21, if_pos (by decide)]
  dsimp only
  rw [if_neg (not_not_intro h), if_neg Bool.false_ne_true]

theorem keyServe_serves (h : q.op = op) (h21 : s.ringReady 21 = true) (hu : u = q.uses.foldl State.tagCheck s) :
    s.keyServe op f = u.keyComplete q d (f u q) := by
  subst hd hq hu
  unfold State.keyServe
  rw [hs.dom, hs.en, hs.ready, hs.reach, h21, if_pos (by decide)]
  dsimp only
  rw [if_neg (not_not_intro h), if_pos rfl]

theorem keyServe_good (h : q.op = op) (h21 : s.ringReady 21 = true) (hup : ∀ i ∈ q.uses, (s.slot i).upset = false) :
    s.keyServe op f = s.keyComplete q d (f s q) := by
  rw [keyServe_serves hs hd hq h h21 rfl, tagChecks_good hup]

end Serve

theorem exhaust_kept : (s.ringExhaust 21 false).ringHead 20 = s.ringHead 20 ∧ (s.ringExhaust 21 false).keys = s.keys :=
  ⟨(ringsKept_exhaust (A := fun r => r = 21 ∨ r = 23) (.inr rfl) (by decide) (.inl rfl)).head (by decide) (by decide),
    (within_ringExhaust _ _ _).keys rfl⟩

/-- The twelve instructions with their OP and what they compute. -/
def keyOps : List (Instr × Nat × (State → KeyReq → KeyOut)) :=
  [(.keyGenerate, 1, State.opGenerate), (.keyDerive, 2, State.opDerive), (.keyImport, 3, State.opImport),
    (.keyFree, 4, State.opFree), (.keyRevoke, 5, State.opRevoke), (.keyMac, 6, State.opMac), (.keyMacVerify, 7, State.opMacVerify),
    (.keySign, 8, State.opSign), (.keyVerify, 9, State.opVerify), (.keyPublic, 10, State.opPublic),
    (.keyAttest, 11, State.opAttest), (.keyRandom, 12, State.opRandom)]

theorem keyOps_spec {cmd : Instr} {f : State → KeyReq → KeyOut} (h : (cmd, op, f) ∈ keyOps) :
    (∀ s, exec cmd s = .next (s.keyServe op f)) ∧ ∀ s q, Leaves OffKeyOp s (f s q).st := by
  simp only [keyOps, List.mem_cons, Prod.mk.injEq, List.not_mem_nil, or_false] at h
  rcases h with h | h | h | h | h | h | h | h | h | h | h | h
  all_goals obtain ⟨rfl, rfl, rfl⟩ := h
  · exact ⟨fun _ => rfl, fun _ _ => (within_opGenerate _ _).leaves⟩
  · exact ⟨fun _ => rfl, fun _ _ => (within_opDerive _ _).leaves⟩
  · exact ⟨fun _ => rfl, fun _ _ => (within_opImport _ _).leaves⟩
  · exact ⟨fun _ => rfl, fun _ _ => leaves_opFree⟩
  · exact ⟨fun _ => rfl, fun _ _ => leaves_opRevoke⟩
  · exact ⟨fun _ => rfl, fun _ _ => (within_opMac _ _).leaves⟩
  · exact ⟨fun _ => rfl, fun _ _ => (within_opMacVerify _ _).leaves⟩
  · exact ⟨fun _ => rfl, fun _ _ => (within_opSign _ _).leaves⟩
  · exact ⟨fun _ => rfl, fun _ _ => (within_opVerify _ _).leaves⟩
  · exact ⟨fun _ => rfl, fun _ _ => (within_opPublic _ _).leaves⟩
  · exact ⟨fun _ => rfl, fun _ _ => leaves_opAttest⟩
  · exact ⟨fun _ => rfl, fun _ _ => (within_opRandom _ _).leaves⟩

theorem checked_three (h : k.state = 3) {b : Bool} : (k.checked b).state = 3 := by
  unfold KeySlot.checked
  rw [if_neg (fun c => absurd (h.symm.trans c.1) (by decide)), h]

theorem checks_spec {l : List Nat} (hd : s.domOn pdKey = true) (hr : s.rtc.lockout = false) (hu : u = l.foldl State.tagCheck s) :
    (∀ j, (s.slot j).state = 3 → (u.slot j).state = 3) ∧ KeepsEvents s u ∧
    ∀ j ∈ l, (s.slot j).state = 1 → (s.slot j).upset = true → (u.slot j).state = 3 ∧ u.event 15 = true := by
  induction l generalizing s with
  | nil =>
    rw [hu]
    exact ⟨fun j h => h, .refl s, fun j hj => nomatch hj⟩
  | cons i l ih =>
    have hd' : (s.tagCheck i).domOn pdKey = true := (domOn_congr (leaves_tagCheck _ (by decide))).trans hd
    obtain ⟨h1, h2, h3⟩ := ih hd' (((within_tagCheck s i).rtc rfl).symm ▸ hr) hu
    refine ⟨fun j hj => h1 j ?_, keepsEvents_tagCheck.trans h2, fun j hj hs1 hup => ?_⟩
    · rw [tagCheck_slot hd]
      split
      · next hji => exact checked_three (hji ▸ hj)
      · exact hj
    · by_cases hji : j = i
      · subst hji
        have hbad : (s.slot j).state = 1 ∧ (s.slot j).upset = true ∧ ¬ (s.rtc.lockout = true ∧ (s.slot j).retain = true) :=
          ⟨hs1, hup, fun c => by rw [hr] at c; exact absurd c.1 Bool.false_ne_true⟩
        refine ⟨h1 j ?_, h2 15 (by decide) ?_⟩
        · rw [tagCheck_slot hd, if_pos rfl, KeySlot.checked, if_pos hbad]
        · rw [tagCheck_bad hd hbad]
          exact event_flagRaise (by decide)
      · have hsj : (s.tagCheck i).slot j = s.slot j := by rw [tagCheck_slot hd, if_neg hji]
        exact h3 j ((List.mem_cons.1 hj).resolve_left hji) (hsj.symm ▸ hs1) (hsj.symm ▸ hup)

/-- The tags of the slots in use have been checked. -/
theorem usesChecked (hs : Serving s) (hu : u = q.uses.foldl State.tagCheck s) : Leaves OffKeyOp s u ∧
    ∀ i ∈ q.uses, (s.slot i).state = 1 → (s.slot i).upset = true → (u.slot i).state = 3 ∧ u.event 15 = true := by
  refine ⟨hu ▸ Leaves.foldl (fun _ _ _ => leaves_tagChecked) s, ?_⟩
  exact (checks_spec hs.dom hs.reach hu).2.2

/-! ### Causes -/

theorem pick_none {l : List (Bool × Nat)} (h : ∀ c ∈ l, c.1 = false) : s.pick l = (0, s) := by
  have hf : l.filter (fun c => c.1) = [] := List.filter_eq_nil_iff.2 fun c hc => by rw [h c hc]; exact Bool.false_ne_true
  unfold State.pick
  rw [hf]
  rfl

theorem pickMust_none {m l : List (Bool × Nat)} (hm : ∀ c ∈ m, c.1 = false) (h : ∀ c ∈ l, c.1 = false) : s.pickMust m l = (0, s) := by
  have hf : m.any (fun c => c.1) = false := List.any_eq_false.2 fun c hc => by rw [hm c hc]; exact Bool.false_ne_true
  unfold State.pickMust
  rw [hf, if_neg Bool.false_ne_true, pick_none h]

/-- A key of type 1 has neither usage 3 nor usage 9. -/
theorem usage_of_typed {n : Nat} (h : typeBad 1 n = false) : hasUsage n 3 = false ∧ hasUsage n 9 = false := by
  have hr := (Bool.or_eq_false_iff.1 h).2
  have hu : ∀ b, b < 10 → (usageTypes b).contains 1 = false → hasUsage n b = false := fun b hb hc => by
    have := List.any_eq_false.1 hr b (List.mem_range.2 hb)
    rw [hc, Bool.not_false, Bool.and_true] at this
    exact Bool.eq_false_iff.2 this
  exact ⟨hu 3 (by decide) (by decide), hu 9 (by decide) (by decide)⟩

/-! ### Creations -/

section Create
variable {pb mat : List Byte} {origin depth : Nat} {parent : Option Nat} {r : Bool}

theorem target_named (h : q.any = false) : s.target q r = some q.slot := by
  unfold State.target
  rw [h]
  rfl

theorem targetCauses_none (h : q.any = false) (h5 : 5 ≤ q.slot) (h0 : (s.slot q.slot).state = 0) : ∀ c ∈ s.targetCauses q false, c.1 = false := by
  unfold State.targetCauses
  rw [target_named h]
  simp [h0, Nat.not_lt.2 h5]

theorem create_slot (h : q.any = false) (ht : octet pb 0 = 1) (hr : (octet pb 1).testBit 0 = false) :
    (s.create q pb mat origin depth parent).st.slot q.slot = KeySlot.seal
      { state := 1, type := 1, origin := origin, depth := depth, parent := parent, usage := be pb 4 4, label := be pb 8 4
        gen := (s.slot q.slot).gen, material := mat } := by
  unfold State.create
  dsimp only
  rw [target_named h, ht, hr]
  exact slot_setSlot

theorem newMaterial_slot {n : Nat} : (s.newMaterial n).2.slot i = s.slot i := by
  unfold State.newMaterial State.random
  split <;> rfl

section Ok
variable {usage : Nat} (ha : q.any = false) (h5 : 5 ≤ q.slot) (h0 : (s.slot q.slot).state = 0) (hpb : pb = s.hostRead q.inAddr 16)
  (husage : usage = be pb 4 4) (ht : octet pb 0 = 1) (hr : (octet pb 1).testBit 0 = false) (hbad : typeBad 1 usage = false) (hlt : usage < 2 ^ 10)
include ha h5 h0 hpb husage ht hr hbad hlt

theorem opGenerate_slot (hl : q.inLen = 16) (hpol : s.rb Reg.KEY_POLICY 1 = true) : (s.opGenerate q).st.slot q.slot =
    KeySlot.seal { state := 1, type := 1, origin := 3, usage := usage, label := be pb 8 4, gen := (s.slot q.slot).gen
                   material := (s.newMaterial 1).1 } := by
  have htc := targetCauses_none ha h5 h0
  have hp : s.pick ([(decide (q.inLen ≠ 16), 8), (!s.rb Reg.KEY_POLICY 1, 5), (typeBad (octet pb 0) usage || octet pb 0 = 4, 4),
      (hasUsage usage 9 || decide (2 ^ 10 ≤ usage), 3)] ++ s.targetCauses q ((octet pb 1).testBit 0)) = (0, s) := by
    refine pick_none fun c hc => ?_
    rw [ht, hr] at hc
    obtain hc | hc := List.mem_append.1 hc
    · simp only [List.mem_cons, List.not_mem_nil, or_false] at hc
      rcases hc with rfl | rfl | rfl | rfl
      · simp [hl]
      · simp [hpol]
      · simp [hbad]
      · simp only [(usage_of_typed hbad).2, Bool.false_or, decide_eq_false_iff_not, Nat.not_le]
        exact hlt
    · exact htc c hc
  subst husage hpb
  unfold State.opGenerate
  dsimp only
  rw [hp, if_neg (not_not_intro rfl), ht, create_slot ha ht hr, newMaterial_slot]

theorem opDerive_slot {ll cl : Nat} (hll : ll = octet pb 12) (hcl : cl = octet pb 13) (hroot : q.fromRoot = false) (hl : q.inLen = 16 + ll + cl)
    (h1 : ll ≤ 64) (h2 : cl ≤ 64) (hpar : (s.slot q.aux).state = 1) (husg : hasUsage (s.slot q.aux).usage 5 = true) (hdep : (s.slot q.aux).depth < 8) :
    (s.opDerive q).st.slot q.slot =
      KeySlot.seal { state := 1, type := 1, origin := 4, depth := (s.slot q.aux).depth + 1, parent := some q.aux
                     usage := usage, label := be pb 8 4, gen := (s.slot q.slot).gen
                     material := kdf (s.slot q.aux).material (s.hostRead (q.inAddr + 16) ll)
                       (ctxOf (s.hostRead (q.inAddr + 16 + ll) cl) 1 usage) 256 } := by
  have htc := targetCauses_none ha h5 h0
  obtain ⟨h3, h9⟩ := usage_of_typed hbad
  have hmust : ∀ c ∈ [(q.fromRoot && s.latch, 11),
      (hasUsage usage 3 || hasUsage usage 9 || ((octet pb 1).testBit 0 && !q.fromRoot && !(s.slot q.aux).retain), 3)], c.1 = false := fun c hc => by
    simp only [List.mem_cons, List.not_mem_nil, or_false] at hc
    rcases hc with rfl | rfl
    · simp [hroot]
    · simp [h3, h9, hr]
  have hcs : ∀ c ∈ [(decide (q.inLen ≠ 16 + octet pb 12 + octet pb 13) || decide (64 < octet pb 12) || decide (64 < octet pb 13), 8),
      (q.fromRoot && !s.rb Reg.KEY_POLICY 2, 5), (!q.fromRoot && decide ((s.slot q.aux).state ≠ 1), 6),
      (!q.fromRoot && decide ((s.slot q.aux).state = 1) && !hasUsage (s.slot q.aux).usage 5, 3),
      (typeBad (octet pb 0) usage || decide (octet pb 0 = 4), 4), (decide (2 ^ 10 ≤ usage), 3),
      (decide (8 < if q.fromRoot = true then 1 else (s.slot q.aux).depth + 1), 10)] ++ s.targetCauses q ((octet pb 1).testBit 0), c.1 = false := fun c hc => by
    rw [hr] at hc
    obtain hc | hc := List.mem_append.1 hc
    · simp only [List.mem_cons, List.not_mem_nil, or_false] at hc
      rcases hc with rfl | rfl | rfl | rfl | rfl | rfl | rfl
      · simp [← hll, ← hcl, hl, h1, h2]
      · simp [hroot]
      · simp [hpar]
      · simp [husg]
      · simp [ht, hbad]
      · exact decide_eq_false (Nat.not_le.2 hlt)
      · simp only [hroot, Bool.false_eq_true, if_false, decide_eq_false_iff_not]
        omega
    · exact htc c hc
  have hp := pickMust_none (s := s) hmust hcs
  subst husage hll hcl hpb
  unfold State.opDerive
  dsimp only
  rw [hp, if_neg (not_not_intro rfl)]
  dsimp only
  rw [create_slot ha ht hr, hroot, ht]
  rfl

theorem opImport_slot (hl : q.inLen = 48) (hpol : s.rb Reg.KEY_POLICY 0 = true) : (s.opImport q).st.slot q.slot =
    KeySlot.seal { state := 1, type := 1, origin := 5, usage := usage, label := be pb 8 4, gen := (s.slot q.slot).gen
                   material := s.hostRead (q.inAddr + 16) 32 } := by
  have htc := targetCauses_none ha h5 h0
  obtain ⟨h3, h9⟩ := usage_of_typed hbad
  have hp : ∀ m b, b = false → m = 32 → s.pick ([(decide (q.inLen ≠ 16 + m), 8), (!s.rb Reg.KEY_POLICY 0, 5),
      (hasUsage usage 3 && !s.rb Reg.KEY_POLICY 4, 5), (typeBad (octet pb 0) usage, 4),
      (hasUsage usage 9 || decide (2 ^ 10 ≤ usage), 3), (b, 7)] ++ s.targetCauses q ((octet pb 1).testBit 0)) = (0, s) := fun m b hb hm => by
    refine pick_none fun c hc => ?_
    rw [ht, hr] at hc
    obtain hc | hc := List.mem_append.1 hc
    · simp only [List.mem_cons, List.not_mem_nil, or_false] at hc
      rcases hc with rfl | rfl | rfl | rfl | rfl | rfl
      · simp [hl, hm]
      · simp [hpol]
      · simp [h3]
      · exact hbad
      · simp only [h9, Bool.false_or, decide_eq_false_iff_not, Nat.not_le]
        exact hlt
      · exact hb
    · exact htc c hc
  subst husage hpb
  unfold State.opImport
  dsimp only
  rw [hp _ _ (by simp [ht]) (by rw [ht]; rfl), if_neg (not_not_intro rfl)]
  dsimp only
  rw [create_slot ha ht hr, ht]
  rfl

end Ok
end Create

/-! ### FREE and REVOKE -/

theorem opFree_slots (h5 : 5 ≤ q.slot) (h0 : (s.slot q.slot).state ≠ 0) (hc : s.hasChild q.slot = false) :
    (s.opFree q).st.keys = (s.setSlot q.slot (emptySlot (((s.slot q.slot).gen + 1) % 2 ^ 32))).keys := by
  have hp : s.pick [(decide (q.slot < 5), 2), (s.hasChild q.slot, 2), (decide (5 ≤ q.slot) && decide ((s.slot q.slot).state = 0), 6)] = (0, s) := by
    refine pick_none fun c hm => ?_
    simp only [List.mem_cons, List.not_mem_nil, or_false] at hm
    rcases hm with rfl | rfl | rfl
    · exact decide_eq_false (Nat.not_lt.2 h5)
    · exact hc
    · simp [h0]
  unfold State.opFree
  dsimp only
  rw [hp, if_neg (not_not_intro rfl)]
  exact (within_dropCache _ _).keys rfl

theorem seal_state : k.seal.state = k.state := rfl

theorem revoke_state : ((s.revoke i).slot j).state = if j = i then 2 else (s.slot j).state := by
  unfold State.revoke
  rw [slot_congr ((within_dropCache _ _).keys rfl)]
  split
  · next h => rw [h, slot_setSlot, seal_state]
  · next h => rw [slot_setSlot_ne h]

theorem revokes_state {l : List Nat} (h : (s.slot j).state = 2 ∨ j ∈ l) : ((l.foldl (fun s i => s.revoke i) s).slot j).state = 2 := by
  induction l generalizing s with
  | nil => exact h.resolve_right List.not_mem_nil
  | cons i l ih =>
    refine ih ?_
    rw [revoke_state]
    by_cases hji : j = i
    · exact .inl (if_pos hji)
    · rw [if_neg hji]
      exact h.imp_right fun hm => (List.mem_cons.1 hm).resolve_left hji

theorem subtree_base {n : Nat} {l : List Nat} (h : j ∈ l) : j ∈ s.subtree n l := by
  induction n generalizing l with
  | zero => exact h
  | succ n ih => exact ih (List.mem_append_left _ h)

/-- A slot that is not EMPTY is listed. -/
theorem slot_listed (h : (s.slot i).state ≠ 0) : (i, s.slot i) ∈ s.keys.slots := by
  have hall : ∀ l : Tab KeySlot, (Tab.get (fun _ => {}) l i : KeySlot).state ≠ 0 → (i, Tab.get (fun _ => {}) l i) ∈ l := by
    intro l
    induction l with
    | nil => exact fun h => absurd rfl h
    | cons e l ih =>
      obtain ⟨j, v⟩ := e
      unfold Tab.get
      by_cases hj : j = i
      · rw [if_pos hj, hj]
        exact fun _ => List.mem_cons_self
      · rw [if_neg hj]
        exact fun h => List.mem_cons_of_mem _ (ih h)
  exact hall _ h

theorem subtree_child {n p : Nat} {l : List Nat} (hp : p ∈ l) (h1 : (s.slot i).state = 1) (hpar : (s.slot i).parent = some p) :
    i ∈ s.subtree (n + 1) l := by
  unfold State.subtree
  refine subtree_base ?_
  by_cases hi : i ∈ l
  · exact List.mem_append_left _ hi
  · refine List.mem_append_right _ (List.mem_map.2 ⟨(i, s.slot i), List.mem_filter.2 ⟨slot_listed (by rw [h1]; decide), ?_⟩, rfl⟩)
    simp [h1, hpar, hi, hp]

theorem revokeAll_slot (h1 : (s.slot j).state = 1) (h : j = i ∨ (s.slot j).parent = some i) : ((s.revokeAll i).slot j).state = 2 := by
  have hm : j ∈ s.revoked i := by
    refine List.mem_filter.2 ⟨?_, decide_eq_true h1⟩
    obtain rfl | h := h
    · exact subtree_base List.mem_cons_self
    · exact subtree_child List.mem_cons_self h1 h
  have hs : ∀ x : State, (x.fuseRevoked i).slot j = x.slot j := fun x => by
    unfold State.fuseRevoked
    split <;> rfl
  rw [State.revokeAll, hs]
  exact revokes_state (.inr hm)

theorem revokes_revoked {l : List Nat} : (l.foldl (fun s i => s.revoke i) s).keys.revoked = s.keys.revoked := by
  induction l generalizing s with
  | nil => rfl
  | cons i l ih =>
    rw [List.foldl_cons, ih, State.revoke, (within_dropCache _ _).keys rfl]
    rfl

theorem revokeAll_fused (h : i ≤ 4) : (s.revokeAll i).keys.revoked = s.keys.revoked ||| 2 ^ i := by
  rw [State.revokeAll, State.fuseRevoked, if_pos h]
  exact congrArg (· ||| 2 ^ i) revokes_revoked

theorem opRevoke_st (h0 : q.slot ≠ 0) (h1 : (s.slot q.slot).state = 1) :
    (s.opRevoke q).st = (s.revokeAll q.slot).flagRaise Reg.KEY_STATUS 10 17 q.slot := by
  have hp : s.pick [(decide (q.slot = 0), 2), (decide (q.slot ≠ 0) && decide ((s.slot q.slot).state ≠ 1), 6)] = (0, s) := by
    refine pick_none fun c hm => ?_
    simp only [List.mem_cons, List.not_mem_nil, or_false] at hm
    rcases hm with rfl | rfl
    · exact decide_eq_false h0
    · simp [h1]
  rw [opRevoke_eq hp.symm, if_neg (not_not_intro rfl)]

/-! ### Uses -/

section Use

theorem useCauses_none {b : Nat} (h1 : (s.slot i).state = 1) (hu : hasUsage (s.slot i).usage b = true) : ∀ c ∈ s.useCauses i b, c.1 = false := by
  unfold State.useCauses
  simp [h1, hu]

/-- What a request for no cause but its own is picked. -/
theorem pick_use {b : Nat} {l : List (Bool × Nat)} {c : Bool} (hc : c = false) (h1 : (s.slot i).state = 1)
    (hu : hasUsage (s.slot i).usage b = true) : s.pick ([(c, 8)] ++ s.useCauses i b ++ l) = s.pick l := by
  have hf : ([(c, 8)] ++ s.useCauses i b ++ l).filter (fun e => e.1) = l.filter (fun e => e.1) := by
    rw [List.filter_append, List.filter_eq_nil_iff.2, List.nil_append]
    intro e he
    obtain he | he := List.mem_append.1 he
    · rw [List.mem_singleton.1 he, hc]
      exact Bool.false_ne_true
    · rw [useCauses_none h1 hu e he]
      exact Bool.false_ne_true
  unfold State.pick
  rw [hf]

theorem pick_verdict {b : Bool} : s.pick [(!b, 7)] = (if b = true then 0 else 7, s) := by
  cases b <;> rfl

theorem hostRead_take {a n m : Nat} (h : m ≤ n) : (s.hostRead a n).take m = s.hostRead a m := by
  unfold State.hostRead Tab.getList
  rw [← List.map_take, List.take_range, Nat.min_eq_left h]

theorem hostRead_drop {a n m : Nat} : (s.hostRead a n).drop m = s.hostRead (a + m) (n - m) := by
  refine List.ext_getElem (by simp [State.hostRead, Tab.getList]) fun i h1 h2 => ?_
  simp [State.hostRead, Tab.getList, Nat.add_assoc]

variable (h1 : (s.slot q.slot).state = 1)
include h1

theorem opMac_eq (hl : q.inLen ≠ 0) (ho : 32 ≤ q.outLen) (hu : hasUsage (s.slot q.slot).usage 6 = true) :
    s.opMac q = ⟨0, q.slot, hmac (s.slot q.slot).material (s.hostRead q.inAddr q.inLen), s⟩ := by
  have hp := (pick_use (l := []) (c := decide (q.inLen = 0) || decide (q.outLen < 32)) (by simp [hl, ho]) h1 hu).trans (pick_none (by simp))
  rw [List.append_nil] at hp
  unfold State.opMac
  dsimp only
  rw [hp, if_neg (not_not_intro rfl)]

theorem opSign_eq (hl : q.inLen = 32) (ho : 64 ≤ q.outLen) (hu : hasUsage (s.slot q.slot).usage 7 = true) :
    s.opSign q = ⟨0, q.slot, ecdsaSign (beVal (s.slot q.slot).material) (s.hostRead q.inAddr 32), s⟩ := by
  have hp := (pick_use (l := []) (c := decide (q.inLen ≠ 32) || decide (q.outLen < 64)) (by simp [hl, ho]) h1 hu).trans (pick_none (by simp))
  rw [List.append_nil] at hp
  unfold State.opSign
  dsimp only
  rw [hp, if_neg (not_not_intro rfl)]

theorem opMacVerify_eq (hl : 32 < q.inLen) (hu : hasUsage (s.slot q.slot).usage 6 = true) : s.opMacVerify q =
    ⟨if hmac (s.slot q.slot).material (s.hostRead (q.inAddr + 32) (q.inLen - 32)) = s.hostRead q.inAddr 32 then 0 else 7, q.slot, [], s⟩ := by
  unfold State.opMacVerify
  dsimp only
  rw [pick_use (decide_eq_false (Nat.not_le.2 hl)) h1 hu, hostRead_drop, hostRead_take hl.le, decide_eq_true hl, decide_eq_true h1, hu]
  simp only [Bool.true_and, pick_verdict, decide_eq_true_eq]

theorem opVerify_eq (hl : q.inLen = 96) (hu : hasUsage (s.slot q.slot).usage 8 = true) : s.opVerify q =
    ⟨if ecdsaVerify (s.slot q.slot).pub (s.hostRead q.inAddr 32) (s.hostRead (q.inAddr + 32) 64) then 0 else 7, q.slot, [], s⟩ := by
  unfold State.opVerify
  dsimp only
  rw [pick_use (decide_eq_false (not_not_intro hl)) h1 hu, hostRead_drop, hostRead_take (by decide), decide_eq_true hl, decide_eq_true h1, hu]
  simp only [Bool.true_and, pick_verdict]

theorem opPublic_eq (ho : 64 ≤ q.outLen) (ht : (s.slot q.slot).type = 3 ∨ (s.slot q.slot).type = 4) :
    s.opPublic q = ⟨0, q.slot, fit 64 (s.slot q.slot).pub, s⟩ := by
  have hp : s.pick [(decide (q.outLen < 64), 8), (decide ((s.slot q.slot).state ≠ 1), 6),
      (decide ((s.slot q.slot).state = 1) && decide ((s.slot q.slot).type ≠ 3) && decide ((s.slot q.slot).type ≠ 4), 4)] = (0, s) := by
    refine pick_none fun c hm => ?_
    simp only [List.mem_cons, List.not_mem_nil, or_false] at hm
    rcases hm with rfl | rfl | rfl
    · exact decide_eq_false (Nat.not_lt.2 ho)
    · exact decide_eq_false (not_not_intro h1)
    · obtain h | h := ht
      all_goals simp [h]
  unfold State.opPublic
  dsimp only
  rw [hp, if_neg (not_not_intro rfl)]

theorem opAttest_st (hl : q.inLen = 32) (ho : 200 ≤ q.outLen) (hlatch : s.latch = false) (h0 : (s.slot 0).state = 1) :
    (s.opAttest q).st = s.bump Reg.KEY_ATT_CNT := by
  have hp : s.pickMust [(s.latch, 11)] [(decide (q.inLen ≠ 32) || decide (q.outLen < 200), 8),
      (decide ((s.slot q.slot).state ≠ 1), 6), (decide ((s.slot 0).state ≠ 1), 6)] = (0, s) := by
    refine pickMust_none (by simp [hlatch]) fun c hm => ?_
    simp only [List.mem_cons, List.not_mem_nil, or_false] at hm
    rcases hm with rfl | rfl | rfl
    · simp [hl, ho]
    · simp [h1]
    · simp [h0]
  unfold State.opAttest
  dsimp only
  rw [hp, if_neg (not_not_intro rfl)]

end Use

theorem opRandom_eq (h : 0 < q.outLen) (hle : q.outLen ≤ 4096) : s.opRandom q = ⟨0, q.slot, (s.random q.outLen).1, (s.random q.outLen).2⟩ := by
  unfold State.opRandom
  rw [if_neg]
  simp only [Bool.or_eq_true, decide_eq_true_eq, not_or]
  omega

/-! ### Every operation, and each on a slot that serves it -/

section Settle
variable {cmd : Instr} {f : State → KeyReq → KeyOut} {d : List Byte} (hs : Serving s) (hd : d = s.headDesc 20) (hq : q = keyReq d)
include hs hd hq

theorem keyOp_settled (h : (cmd, op, f) ∈ keyOps) :
    (q.op ≠ op → exec cmd s = .next s) ∧
    (q.op = op → s.ringReady 21 = false → ∃ t, exec cmd s = .next t ∧ t.ringHead 20 = s.ringHead 20 ∧ t.keys = s.keys) ∧
    (q.op = op → s.ringReady 21 = true → ∃ t u, exec cmd s = .next t ∧ u = q.uses.foldl State.tagCheck s ∧
      t = u.keyComplete q d (f u q) ∧ t.ringHead 20 = s.ringNext 20 ∧ t.ringHead 21 = s.ringNext 21 ∧
      t.reg (Reg.KEY_CNT 0) = satWord (s.reg (Reg.KEY_CNT 0)) 1 ∧
      (∀ i ∈ q.uses, (s.slot i).state = 1 → (s.slot i).upset = true → (u.slot i).state = 3 ∧ u.event 15 = true)) := by
  obtain ⟨hexec, hleaves⟩ := keyOps_spec h
  refine ⟨fun ho => ?_, fun ho h21 => ?_, fun ho h21 => ?_⟩
  · rw [hexec, keyServe_other hs hd hq ho]
  · refine ⟨_, hexec s, ?_⟩
    rw [keyServe_waits hs hd hq ho h21]
    exact exhaust_kept
  · obtain ⟨u, hu⟩ : ∃ u, u = q.uses.foldl State.tagCheck s := ⟨_, rfl⟩
    obtain ⟨hul, huses⟩ := usesChecked hs hu
    have hl : Leaves OffKeyOp s (f u q).st := hul.trans (hleaves u q)
    have hc : Completed (f u q).st (u.keyComplete q d (f u q)) := keyComplete_spec
    refine ⟨_, u, (hexec s).trans (by rw [keyServe_serves hs hd hq ho h21 hu]), hu, rfl, ?_, ?_, ?_, huses⟩
    · rw [hc.head20, ringNext_off (by decide) (by decide) hl]
    · rw [hc.head21, ringNext_off (by decide) (by decide) hl]
    · rw [hc.count, hl _ ⟨beyond_of_quiet (by decide), by decide⟩]

variable (h21 : s.ringReady 21 = true) (hup : ∀ i ∈ q.uses, (s.slot i).upset = false)
include h21 hup

/-- The request at the front is completed on the slots as they stand. -/
theorem keyOp_run (h : (cmd, op, f) ∈ keyOps) (ho : q.op = op) : ∃ t, exec cmd s = .next t ∧ t = s.keyComplete q d (f s q) ∧ Completed (f s q).st t :=
  ⟨_, ((keyOps_spec h).1 s).trans (by rw [keyServe_good hs hd hq ho h21 hup]), rfl, keyComplete_spec⟩

theorem keyOp_out {o : KeyOut} (h : (cmd, op, f) ∈ keyOps) (ho : q.op = op) (hf : f s q = o) : exec cmd s = .next (s.keyComplete q d o) := by
  obtain ⟨t, hx, ht, _⟩ := keyOp_run hs hd hq h21 hup h ho
  rw [hx, ht, hf]

theorem keyOp_slot (h : (cmd, op, f) ∈ keyOps) (ho : q.op = op) (hf : (f s q).st.slot q.slot = k) : ∃ t, exec cmd s = .next t ∧ t.slot q.slot = k := by
  obtain ⟨t, hx, _, hc⟩ := keyOp_run hs hd hq h21 hup h ho
  exact ⟨t, hx, (slot_congr hc.keys).trans hf⟩

theorem keyFree_settled (ho : q.op = 4) (h5 : 5 ≤ q.slot) (h0 : (s.slot q.slot).state ≠ 0) (hc : s.hasChild q.slot = false) :
    ∃ t, exec .keyFree s = .next t ∧ t.slot q.slot = { gen := ((s.slot q.slot).gen + 1) % 2 ^ 32 } ∧ ∀ i, i ≠ q.slot → t.slot i = s.slot i := by
  obtain ⟨t, hx, _, hcm⟩ := keyOp_run hs hd hq h21 hup (cmd := .keyFree) (f := State.opFree) (by simp [keyOps]) ho
  have hk := hcm.keys.trans (opFree_slots h5 h0 hc)
  refine ⟨t, hx, ?_, fun i hi => ?_⟩
  · rw [slot_congr hk, slot_setSlot]
    rfl
  · rw [slot_congr hk, slot_setSlot_ne hi]

theorem keyRevoke_settled (ho : q.op = 5) (h0 : q.slot ≠ 0) (h1 : (s.slot q.slot).state = 1) :
    ∃ t, exec .keyRevoke s = .next t ∧ (t.slot q.slot).state = 2 ∧ t.event 17 = true ∧
      (∀ i, (s.slot i).state = 1 → (s.slot i).parent = some q.slot → (t.slot i).state = 2) ∧
      (q.slot ≤ 4 → t.keys.revoked = s.keys.revoked ||| 2 ^ q.slot) := by
  obtain ⟨t, hx, _, hcm⟩ := keyOp_run hs hd hq h21 hup (cmd := .keyRevoke) (f := State.opRevoke) (by simp [keyOps]) ho
  have hst := opRevoke_st h0 h1
  have hk : t.keys = (s.revokeAll q.slot).keys := by rw [hcm.keys, hst, (within_flagRaise _ _ _ _ _).keys rfl]
  refine ⟨t, hx, ?_, hcm.events 17 (by decide) ?_, fun i hi hp => ?_, fun h4 => ?_⟩
  · rw [slot_congr hk, revokeAll_slot h1 (.inl rfl)]
  · rw [hst]
    exact event_flagRaise (by decide)
  · rw [slot_congr hk, revokeAll_slot hi (.inr hp)]
  · rw [hk, revokeAll_fused h4]

theorem keyAttest_settled (ho : q.op = 11) (h1 : (s.slot q.slot).state = 1) (hl : q.inLen = 32) (hol : 200 ≤ q.outLen) (hlatch : s.latch = false)
    (h0 : (s.slot 0).state = 1) : ∃ t, exec .keyAttest s = .next t ∧ t.reg Reg.KEY_ATT_CNT = satWord (s.reg Reg.KEY_ATT_CNT) 1 ∧ t.keys = s.keys := by
  obtain ⟨t, hx, _, hcm⟩ := keyOp_run hs hd hq h21 hup (cmd := .keyAttest) (f := State.opAttest) (by simp [keyOps]) ho
  have hst := opAttest_st h1 hl hol hlatch h0
  refine ⟨t, hx, ?_, ?_⟩
  · rw [hcm.regs _ (by decide), hst, reg_bump, if_pos rfl]
  · rw [hcm.keys, hst, (within_bump _ _).keys rfl]

end Settle

/-- Settles O55: one service serves the twelve operations, and each is followed on a slot that meets none of its causes. -/
theorem keyOperations : Obligations.KeyOperations := by
  unfold Obligations.KeyOperations
  intro s d q hdom hen hready hreach hd hq
  have hs : Serving s := ⟨hdom, hen, hready, hreach⟩
  refine ⟨fun cmd op f h => keyOp_settled hs hd hq h, fun k pb usage ll cl h21 hk hup hpb husage hll hcl => ?_⟩
  subst hk
  refine ⟨fun ha h5 h0 ht hr hbad hlt => ⟨fun ho hl hpol => ?_, fun ho hroot hl h1 h2 hpar husg hdep => ?_, fun ho hl hpol => ?_⟩, fun ho h5 h0 hc => ?_,
    fun ho h0 h1 => ?_, fun h1 => ⟨fun ho hl hol hu => ?_, fun ho hl hu => ?_, fun ho hl hol hu => ?_, fun ho hl hu => ?_, fun ho hol ht => ?_,
      fun ho hl hol hlatch h0 => ?_⟩, fun ho hpos hle => ?_⟩
  · exact keyOp_slot hs hd hq h21 hup (f := State.opGenerate) (by simp [keyOps]) ho (opGenerate_slot ha h5 h0 hpb husage ht hr hbad hlt hl hpol)
  · exact keyOp_slot hs hd hq h21 hup (f := State.opDerive) (by simp [keyOps]) ho
      (opDerive_slot ha h5 h0 hpb husage ht hr hbad hlt hll hcl hroot hl h1 h2 hpar husg hdep)
  · exact keyOp_slot hs hd hq h21 hup (f := State.opImport) (by simp [keyOps]) ho (opImport_slot ha h5 h0 hpb husage ht hr hbad hlt hl hpol)
  · exact keyFree_settled hs hd hq h21 hup ho h5 h0 hc
  · exact keyRevoke_settled hs hd hq h21 hup ho h0 h1
  · exact keyOp_out hs hd hq h21 hup (f := State.opMac) (by simp [keyOps]) ho (opMac_eq h1 hl hol hu)
  · exact keyOp_out hs hd hq h21 hup (f := State.opMacVerify) (by simp [keyOps]) ho (opMacVerify_eq h1 hl hu)
  · exact keyOp_out hs hd hq h21 hup (f := State.opSign) (by simp [keyOps]) ho (opSign_eq h1 hl hol hu)
  · exact keyOp_out hs hd hq h21 hup (f := State.opVerify) (by simp [keyOps]) ho (opVerify_eq h1 hl hu)
  · exact keyOp_out hs hd hq h21 hup (f := State.opPublic) (by simp [keyOps]) ho (opPublic_eq h1 hol ht)
  · exact keyAttest_settled hs hd hq h21 hup ho h1 hl hol hlatch h0
  · exact keyOp_out hs hd hq h21 hup (f := State.opRandom) (by simp [keyOps]) ho (opRandom_eq hpos hle)

end Sys2Proof.Machine

/-! UNLOAD while cover holds a roll (R73, R76). -/

namespace Sys2Proof.Machine

-- One declaration after another: side by side, their threads' stacks pass the memory limit of a check.
set_option Elab.async false

/-- Classroom 0 is in SERVICE; of its one lesson, instance 0, no roll is begun, but cover still holds one that is to be published. -/
def unloadHeld : State :=
  let s := ((State.setReg {} Reg.PWR_DOMAIN_STATUS 0xFFF).setReg (Reg.IMG_CLS_STATE 0) 1).setReg (Reg.LSN_INFO 0) 1
  s.setLesson 0 { held := some { roll := { form := 0, tb := 0, rate := 0, at_ := ⟨0, 0⟩, image := 0, cap := 0, slot := 0, flags := 0 }
                                 result := {}, cover := true, reset := false, bank := false } }

/-- The word of IMG_CLS_CMD that unloads classroom 0. -/
def unloadWord : Word := 7

theorem unloadHeld_accepts : unloadHeld.hostUp = true ∧ unloadHeld.writeCause Reg.IMG_CLS_CMD unloadWord = 0 := by decide +kernel

theorem unloadHeld_state : unloadHeld.domOn (classDomain 0) = true ∧ unloadHeld.clsState 0 ≠ 0 ∧
    ∀ i ∈ unloadHeld.lessonsOn 0, (unloadHeld.lesson i).begun = none := by decide +kernel

theorem unloadWord_fields : bit unloadWord 0 = true ∧ fld unloadWord 1 2 = 3 ∧ fld unloadWord 8 5 = 0 := by decide +kernel

/-- The command waits. -/
theorem unloadHeld_waits : (unloadHeld.poke Reg.IMG_CLS_CMD unloadWord {}).clsState 0 ≠ 0 := by decide +kernel

/-- Refutes O33: with no roll begun, UNLOAD still waits for a roll that cover holds for publication, and the classroom stays in SERVICE. -/
theorem not_unloadAndOwnRepair : ¬ Obligations.UnloadAndOwnRepair := by
  intro h
  obtain ⟨hdom, hserv, hfree⟩ := unloadHeld_state
  obtain ⟨h0, h1, h8⟩ := unloadWord_fields
  obtain ⟨t, ht, -, hempty, -⟩ := ((h unloadHeld 0).1 unloadWord unloadHeld_accepts h0 h1 h8 hdom).2.1 hserv hfree
  have he : unloadHeld.poke Reg.IMG_CLS_CMD unloadWord {} = t := Host.Outcome.next.inj ht
  exact unloadHeld_waits (he ▸ hempty)

end Sys2Proof.Machine
